-- ==== Sys2Proof/Word.lean ====
section
/-! DEFINITION. The words of the control space and of the stored data (R13, R15). -/

namespace Sys2Proof

/-- A 32-bit register or control-space word (R15). -/
abbrev Word := BitVec 32

/-- A 64-bit word of the plate, the hit store or a fragment (R13). -/
abbrev Word64 := BitVec 64

end Sys2Proof
end

