-- ==== Sys2Proof/Syntax.lean ====
section
/-! DEFINITION. The commands of the block: one constructor per row of spec/opcode_table.json, with the facts the
environment supplies (arrived data, analogue outcomes, measured times) as operands. -/

namespace Sys2Proof

/-- A function with a shutdown sequence (R48). -/
inductive ShutFn where
  /-- The transmitter of a lane. -/
  | laneTx (lane : Nat)
  /-- The receiver of a lane. -/
  | laneRx (lane : Nat)
  /-- The PLL of a quad. -/
  | quadPll (quad : Nat)
  /-- An FE die. -/
  | feDie (die : Nat)
  /-- A power unit: 0 for PU-A, 1 for PU-B. -/
  | unit (u : Nat)
  /-- Module conversion. -/
  | conversion
  /-- The bias outputs. -/
  | bias
  deriving DecidableEq, Repr

/-- The paths that issue control transactions (R543 and the text before it). -/
inductive Path where
  | fabric
  | test
  | core
  /-- DMA channel 1 to 7. -/
  | dma (c : Nat)
  deriving DecidableEq, Repr

/-- What the merge found of an FE die's marker for a bucket at sealing (R194, R173). -/
inductive Marker where
  | valid
  | invalid
  | missing
  deriving DecidableEq, Repr

/-- An edge as a channel's converter stamps it: MT orbit and bucket, coarse period and raw graver bin (R166). -/
structure Stamp where
  orbit : Nat
  bucket : Nat
  coarse : Nat
  raw : Nat
  deriving DecidableEq, Repr

/-- A control message: its head and body words of 64 bits, in order (R359). -/
structure CtMsg where
  head : Nat
  body : List Nat
  deriving DecidableEq, Repr

/-- What the read of a coded word or byte found (R395). -/
inductive EccResult where
  | clean
  | corrected
  | uncorrectable
  deriving DecidableEq, Repr

/-- A synchronous frame as received whole (R327 to R331). -/
structure FrameIn where
  header : Nat
  payload : Nat
  crcOk : Bool
  deriving DecidableEq, Repr

/-- A fast-command item and the port it was received on (R370, R371). -/
structure FastIn where
  port : Nat
  item : Nat
  deriving DecidableEq, Repr

/-- What arrives on a data path: on a port of Thrumgon streaming framing units as (sync, payload) after descrambling, sync
as numbered in R304; on a port set to raw Ethernet the bytes of a MAC frame from destination address to FCS (R312). -/
structure BlockIn where
  units : List (Nat × Nat)
  bytes : List Nat
  deriving DecidableEq, Repr

/-- What the read of a window bucket found uncorrectable (R212, R214, R301, R82): the descriptor, the link word of a
row, entries as (bank, row), the record's context, plate words by index. -/
structure ReadUpset where
  desc : Bool
  link : Option Nat
  entries : List (Nat × Nat)
  context : Bool
  plate : List Nat
  /-- Words corrected by the read, by memory code and index (R410). -/
  corr : List (Nat × Nat)
  deriving DecidableEq, Repr

/-- The commands, in the order of the table. Each docstring names the row and its rule. -/
inductive Instr where
  /-- POWER_UP (R439). -/
  | powerUp (feed : Nat) (straps : Nat)
  /-- SV_RESET (R452). -/
  | svReset (straps : Nat)
  /-- FEED_QUALIFIED (R417). -/
  | feedQualified (unit : Nat)
  /-- FEED_OUT_OF_RANGE (R444). -/
  | feedOutOfRange (unit : Nat)
  /-- REF_LOST (R33). -/
  | refLost
  /-- REF_BACK (R34). -/
  | refBack
  /-- SHUTDOWN_COMPLETE (R47). -/
  | shutdownComplete (fn : ShutFn) (forbidden : Bool)
  /-- DISRUPTIVE_ACTIVITY_START (R42). -/
  | disruptiveActivityStart
  /-- PLATE_OPEN (R69). -/
  | plateOpen
  /-- PLATE_CLEAR_DONE (R69). -/
  | plateClearDone
  /-- PLATE_ABORT (R63). -/
  | plateAbort
  /-- PLATE_FCRC_WRITE (R70). -/
  | plateFcrcWrite (frame : Nat) (crc : Nat)
  /-- PLATE_WINDOW_WRITE (R70). -/
  | plateWindowWrite (addr : Nat) (data : Nat) (be : Nat)
  /-- PLATE_COMMIT (R71). -/
  | plateCommit (lane : Option Nat)
  /-- PLATE_COMMIT_DONE (R71). -/
  | plateCommitDone
  /-- RELOAD_GO (R77). -/
  | reloadGo (first : Nat) (count : Nat)
  /-- RELOAD_CANCEL (R80). -/
  | reloadCancel
  /-- RELOAD_START (R77). -/
  | reloadStart (readBackOk : Bool)
  /-- RELOAD_RELEASE (R77). -/
  | reloadRelease
  /-- ORBIT_START (R90). -/
  | orbitStart
  /-- MT_LOAD (R93). -/
  | mtLoad
  /-- MT_LOAD_APPLY (R93). -/
  | mtLoadApply
  /-- MT_SNAP (R94). -/
  | mtSnap (tick : Nat)
  /-- SOURCE_SELECT (R101). -/
  | sourceSelect (sel : Nat)
  /-- SOURCE_LOST (R98). -/
  | sourceLost
  /-- SOURCE_QUALIFIED (R99). -/
  | sourceQualified (mclk : Bool) (lane : Nat) (offset : Int)
  /-- ORBIT_MARKER_MISMATCH (R100). -/
  | orbitMarkerMismatch (k : Nat)
  /-- SLEW_END (R106). -/
  | slewEnd (offset : Nat)
  /-- MT_QUALIFIED (R108). -/
  | mtQualified
  /-- FU_GATE_END (R109). -/
  | fuGateEnd (slope : Nat) (resid : Nat)
  /-- FU_RATIO_READ (R111). -/
  | fuRatioRead
  /-- OVN_READY (R112). -/
  | ovnReady
  /-- OVN_HEATER_FAULT (R114). -/
  | ovnHeaterFault
  /-- OVN_READY_LOST (R115). -/
  | ovnReadyLost
  /-- TEST_CHARGE_INJECTION (R144). -/
  | testChargeInjection (entry : Nat)
  /-- HOUSEKEEPING_CONVERSION (R512). -/
  | housekeepingConversion (entry : Nat)
  /-- LOOP_ENGINE_TEST_SIGNAL (R426). -/
  | loopEngineTestSignal (entry : Nat)
  /-- BURNISH_WINDOW (R408). -/
  | burnishWindow (entry : Nat)
  /-- ROLE_SWAP (R434). -/
  | roleSwap (entry : Nat)
  /-- PARTIAL_PLATE_RELOAD (R117). -/
  | partialPlateReload (entry : Nat)
  /-- TILE_LIFE_RECORD_WRITE (R117). -/
  | tileLifeRecordWrite (entry : Nat)
  /-- CODE_DENSITY_CALIBRATION_REFRESH (R179). -/
  | codeDensityCalibrationRefresh (entry : Nat)
  /-- CALENDAR_RESERVED_ACTION (R120). -/
  | calendarReservedAction (entry : Nat)
  /-- DISCRIMINATOR_LEADING_EDGE (R131). -/
  | discriminatorLeadingEdge (ch : Nat) (at_ : Stamp)
  /-- DISCRIMINATOR_TRAILING_EDGE (R169). -/
  | discriminatorTrailingEdge (ch : Nat) (at_ : Stamp) (overload : Bool) (narrow : Bool) (invalid : Bool)
  /-- TOT_OVERFLOW (R174). -/
  | totOverflow (ch : Nat) (overload : Bool) (invalid : Bool)
  /-- RECOVERY_END (R134). -/
  | recoveryEnd (ch : Nat) (beyond : Bool) (lost : Nat) (at_ : Stamp)
  /-- CHANNEL_CONFIG_WRITE (R132). -/
  | channelConfigWrite (die : Nat) (l : Nat) (value : Nat)
  /-- STUCK_DETECTED (R140). -/
  | stuckDetected (ch : Nat)
  /-- RATE_LIMIT_EXCEEDED (R140). -/
  | rateLimitExceeded (ch : Nat)
  /-- AUTOMASK_CLEAR (R143). -/
  | automaskClear (die : Nat) (k : Nat) (bits : Nat)
  /-- COARSE_PLL_LOCK (R164). -/
  | coarsePllLock (die : Nat)
  /-- COARSE_PLL_LOSS (R164). -/
  | coarsePllLoss (die : Nat)
  /-- DLL_LOCK (R164). -/
  | dllLock (die : Nat)
  /-- DLL_UNLOCK (R164). -/
  | dllUnlock (die : Nat)
  /-- RELOCK (R184). -/
  | relock (die : Nat)
  /-- CD_FULL_RUN (R178). -/
  | cdFullRun (die : Nat)
  /-- CD_ABORT (R186). -/
  | cdAbort (die : Nat)
  /-- CD_SLICE_END (R179). -/
  | cdSliceEnd (die : Nat) (stamps : Nat) (invalid : Bool)
  /-- CD_TABLES_COMPUTED (R177). -/
  | cdTablesComputed (die : Nat) (hist : List (List Nat))
  /-- BIN_TABLE_WRITE (R180). -/
  | binTableWrite (die : Nat) (l : Nat) (j : Nat) (value : Nat)
  /-- HIT_MERGE (R192). -/
  | hitMerge (die : Nat) (lateForMap : Bool)
  /-- BUCKET_SEAL (R194). -/
  | bucketSeal (markers : List Marker)
  /-- STORE_ROW_WRITE (R201). -/
  | storeRowWrite (row : Nat)
  /-- BUCKET_WRITE_DONE (R201). -/
  | bucketWriteDone
  /-- AGE_OUT (R203). -/
  | ageOut (desc : Bool) (link : Option Nat)
  /-- HQ_FLUSH (R207). -/
  | hqFlush
  /-- FLUSH_DONE (R207). -/
  | flushDone
  /-- DEPTH_RESET (R223). -/
  | depthReset
  /-- BANK_RETIRE (R218). -/
  | bankRetire (mask : Nat)
  /-- BANK_CLEAR_DONE (R219). -/
  | bankClearDone (bank : Nat)
  /-- ROW_SPARED (R220). -/
  | rowSpared (die : Nat) (row : Nat)
  /-- MAP_PERIOD_CLOSE (R239). -/
  | mapPeriodClose (orbit : Nat) (bucket : Nat) (absent : Nat) (bad : List Nat)
  /-- CHASER_TIMER_EXPIRY (R239). -/
  | chaserTimerExpiry (c : Nat) (t : Nat)
  /-- ACCEPT_COMMAND (R251). -/
  | acceptCommand (body : Nat)
  /-- TG_LOCAL_READ (R256). -/
  | tgLocalRead
  /-- RECORD_ENGINE_TAKE (R259). -/
  | recordEngineTake
  /-- RECORD_BUCKET_READ (R260). -/
  | recordBucketRead (ctx : Nat) (upset : ReadUpset)
  /-- RECORD_COMPLETE (R261). -/
  | recordComplete (ctx : Nat)
  /-- HIST_SWAP_WRITE (R276). -/
  | histSwapWrite
  /-- HIST_SWAP_DONE (R276). -/
  | histSwapDone
  /-- FREEZE_ARM (R284). -/
  | freezeArm (post : Nat)
  /-- FREEZE_DISARM (R284). -/
  | freezeDisarm (post : Nat)
  /-- FREEZE_FORCE (R284). -/
  | freezeForce
  /-- RING_STOP (R284). -/
  | ringStop
  /-- DUMP_GO (R286). -/
  | dumpGo (cls : Nat) (len : Nat)
  /-- BLOCK_SEND (R306). -/
  | blockSend (port : Nat) (bad : Option Nat)
  /-- CREDIT_RECEIVED (R307). -/
  | creditReceived (port : Nat) (ack : Nat) (window : Nat) (nak : Bool)
  /-- RESEND_TIMEOUT (R308). -/
  | resendTimeout (port : Nat)
  /-- BLOCK_RECEIVED (R304). -/
  | blockReceived (port : Nat) (block : BlockIn)
  /-- CREDIT_TIMER (R307). -/
  | creditTimer (port : Nat)
  /-- MERGE_CONTRIBUTION (R315). -/
  | mergeContribution
  /-- MERGE_TIMEOUT (R315). -/
  | mergeTimeout (number : Nat)
  /-- FRAME_TRANSMIT (R332). -/
  | frameTransmit (lane : Nat)
  /-- FRAME_RECEIVED (R331). -/
  | frameReceived (lane : Nat) (frame : FrameIn)
  /-- FRAME_RELEASE (R334). -/
  | frameRelease (lane : Nat) (margin : Nat)
  /-- SOURCE_FRAME_GAP (R373). -/
  | sourceFrameGap
  /-- SYMBOL_LOCK (R333). -/
  | symbolLock (lane : Nat) (lat : Nat)
  /-- LOCK_LOST (R333). -/
  | lockLost (lane : Nat) (many : Bool)
  /-- SLIP_WRITE (R336). -/
  | slipWrite (lane : Nat) (slip : Nat)
  /-- EYE_MEASUREMENT (R338). -/
  | eyeMeasurement (lane : Nat) (eye : Nat) (steady : Bool) (driverFault : Bool)
  /-- LANE_POWER_REQUEST (R340). -/
  | lanePowerRequest (lane : Nat) (tx : Nat) (rx : Nat) (via : Option Nat)
  /-- LANE_WAKE_DONE (R340). -/
  | laneWakeDone (lane : Nat) (rx : Bool)
  /-- LANE_LOOP_SELECT (R344). -/
  | laneLoopSelect (lane : Nat) (loop : Nat) (pattern : Nat)
  /-- LANE_OUT (R351). -/
  | laneOut (lane : Nat) (out : Bool) (via : Option Nat)
  /-- LANE_FAILED (R345). -/
  | laneFailed (lane : Nat) (rx : Bool)
  /-- SPARE_SERVE_WRITE (R348). -/
  | spareServeWrite (port : Nat) (bits : Nat)
  /-- LANE_REJOIN (R350). -/
  | laneRejoin (lane : Nat)
  /-- PLL_UNLOCK (R345). -/
  | pllUnlock (quad : Nat)
  /-- READ_REQUEST (R368). -/
  | readRequest (msg : CtMsg) (ecc : EccResult) (full : Bool)
  /-- WRITE_REQUEST (R368). -/
  | writeRequest (msg : CtMsg) (lane : Option Nat) (full : Bool)
  /-- READ_RESPONSE (R368). -/
  | readResponse (msg : CtMsg)
  /-- WRITE_RESPONSE (R368). -/
  | writeResponse (msg : CtMsg)
  /-- PROBE (R363). -/
  | probe (lane : Nat) (msg : CtMsg)
  /-- PROBE_ANSWER (R366). -/
  | probeAnswer (port : Nat) (msg : CtMsg)
  /-- ASSIGN (R365). -/
  | assign (lane : Nat) (msg : CtMsg)
  /-- DISC_PROBE (R366). -/
  | discProbe (port : Nat)
  /-- DISC_ASSIGN (R366). -/
  | discAssign (port : Nat)
  /-- DISC_TIMEOUT (R366). -/
  | discTimeout
  /-- FC_MT_LOAD (R371). -/
  | fcMtLoad (word : FastIn)
  /-- START_ACQUISITION (R519). -/
  | startAcquisition (word : FastIn)
  /-- STOP_ACQUISITION (R519). -/
  | stopAcquisition (word : FastIn)
  /-- FORCE_FREEZE (R371). -/
  | forceFreeze (word : FastIn)
  /-- HISTOGRAM_SWAP (R371). -/
  | histogramSwap (word : FastIn)
  /-- FRAME_GAP (R371). -/
  | frameGap (port : Nat) (word : Nat)
  /-- ACCEPT_LOST (R371). -/
  | acceptLost (port : Nat) (word : Nat)
  /-- PORT_LOST (R376). -/
  | portLost (port : Nat) (data : Bool)
  /-- PORT_REGAINED (R379). -/
  | portRegained (port : Nat) (data : Bool)
  /-- TIME_FOLLOW (R379). -/
  | timeFollow
  /-- PDELAY_TIMER (R384). -/
  | pdelayTimer
  /-- PDELAY_REQ (R384). -/
  | pdelayReq (port : Nat) (seq : Nat) (ta : Nat)
  /-- PDELAY_RESP (R384). -/
  | pdelayResp (port : Nat) (seq : Nat) (turnaround : Nat) (rtt : Int)
  /-- SYNC (R386). -/
  | sync (word : Nat) (ta : Nat)
  /-- ANNOUNCE (R388). -/
  | announce (word : Nat)
  /-- MASTER_LOST (R389). -/
  | masterLost
  /-- CRITICAL_WORD_VOTE (R398). -/
  | criticalWordVote (die : Nat) (word : Nat) (copies : List Nat) (sense : Nat)
  /-- MERGE_BUFFER_TIMEOUT (R402). -/
  | mergeBufferTimeout (buf : Nat) (result : EccResult)
  /-- PATROL_READ (R404). -/
  | patrolRead (mem : Nat) (result : EccResult) (owner : Option (Nat × Nat))
  /-- FAULT_WINDOW_EXPIRY (R410). -/
  | faultWindowExpiry (cls : Nat) (mem : Nat) (index : Nat)
  /-- BURNISH_PASS_GO (R408). -/
  | burnishPassGo (mem : Nat)
  /-- BURNISH_PASS_ABORT (R408). -/
  | burnishPassAbort
  /-- BURNISH_DONE (R409). -/
  | burnishDone (time : Nat)
  /-- LOOP_SAMPLE (R421). -/
  | loopSample (unit : Nat) (y : Int) (ff : Int) (parityOk : Bool) (overrun : Bool) (limited : Bool)
  /-- LE_COMMIT (R424). -/
  | leCommit (inst : Nat)
  /-- LE_USE_HOST (R424). -/
  | leUseHost (inst : Nat) (value : Bool)
  /-- INJ_DONE (R426). -/
  | injDone (inst : Nat)
  /-- HEARTBEAT_LOST (R428). -/
  | heartbeatLost (unit : Nat)
  /-- ARBITER_LOST (R432). -/
  | arbiterLost (unit : Nat) (fault : Bool)
  /-- COPY_LINK (R432). -/
  | copyLink
  /-- MID_BUS_UNDERVOLTAGE (R431). -/
  | midBusUndervoltage
  /-- BUS_FAULT (R442). -/
  | busFault
  /-- UNIT_OVERTEMPERATURE (R444). -/
  | unitOvertemperature (unit : Nat)
  /-- SWAP_TIMER_EXPIRY (R433). -/
  | swapTimerExpiry
  /-- SWAP_NOW (R433). -/
  | swapNow
  /-- SWAP_OVERDUE (R433). -/
  | swapOverdue
  /-- SWAP_PERMIT (R435). -/
  | swapPermit
  /-- SWAP_HANDOVER (R435). -/
  | swapHandover
  /-- SWAP_DONE (R435). -/
  | swapDone
  /-- PU_OUT (R440). -/
  | puOut (unit : Nat) (out : Bool)
  /-- PU_FAULT_CLEAR (R440). -/
  | puFaultClear (unit : Nat)
  /-- LAST_UNIT_RESTART (R442). -/
  | lastUnitRestart (again : Bool)
  /-- STRAP_SAMPLE (R452). -/
  | strapSample (straps : Nat)
  /-- CHANNEL_OPEN (R453). -/
  | channelOpen (side : Nat)
  /-- CHANNEL_CLOSED (R453). -/
  | channelClosed (side : Nat)
  /-- PULSE_MISSING (R454). -/
  | pulseMissing (side : Nat)
  /-- CHATTER (R455). -/
  | chatter (side : Nat)
  /-- CHATTER_END (R455). -/
  | chatterEnd (side : Nat)
  /-- DISCREPANCY (R456). -/
  | discrepancy
  /-- GUARD_PROOF (R457). -/
  | guardProof
  /-- BIAS_ENABLE (R458). -/
  | biasEnable
  /-- BIAS_DISABLE (R458). -/
  | biasDisable
  /-- BIAS_FB_CHANGE (R461). -/
  | biasFbChange (closed : Bool) (masked : Bool)
  /-- FB_ENABLE_TIMEOUT (R459). -/
  | fbEnableTimeout
  /-- FB_DISABLE_TIMEOUT (R460). -/
  | fbDisableTimeout
  /-- DARK_TEST_PULSE (R462). -/
  | darkTestPulse (side : Nat)
  /-- DARK_PULSE_END (R462). -/
  | darkPulseEnd (side : Nat) (sawLow : Bool) (backHigh : Bool)
  /-- CLK_FAULT (R464). -/
  | clkFault
  /-- TILE_PRESENCE (R470). -/
  | tilePresence (present : Bool)
  /-- TILE_ID_READ_DONE (R472). -/
  | tileIdReadDone (acked : Bool) (bytes : List Nat)
  /-- I2C_GO (R479). -/
  | i2cGo (op : Bool) (lenM1 : Nat) (addr : Nat)
  /-- I2C_DONE (R479). -/
  | i2cDone (acked : Bool) (data : List Nat)
  /-- LIFE_HOLD_EXPIRY (R479). -/
  | lifeHoldExpiry
  /-- TILE_EXP_SNAP (R489). -/
  | tileExpSnap
  /-- REGION_LOOP_SAMPLE (R481). -/
  | regionLoopSample (region : Nat) (parityOk : Bool) (overrun : Bool)
  /-- LOOP_ENABLE (R484). -/
  | loopEnable (region : Nat) (en : Bool) (therm : Nat) (target : Nat)
  /-- BOOT_CLEAR_DONE (R498). -/
  | bootClearDone
  /-- IMAGE_SWITCH (R499). -/
  | imageSwitch
  /-- IMAGE_CHECK_DONE (R499). -/
  | imageCheckDone
  /-- IMAGE_READY (R500). -/
  | imageReady
  /-- IMAGE_TIMEOUT (R500). -/
  | imageTimeout
  /-- IMAGE_FORCE (R500). -/
  | imageForce
  /-- LOCKSTEP_DIVERGENCE (R494). -/
  | lockstepDivergence
  /-- TRAP_LOOP (R493). -/
  | trapLoop
  /-- WATCHDOG_EXPIRY (R496). -/
  | watchdogExpiry
  /-- WDOG_KICK (R496). -/
  | wdogKick
  /-- MG_HALT (R495). -/
  | mgHalt
  /-- MG_RESTART (R495). -/
  | mgRestart
  /-- AUTO_RESTART (R495). -/
  | autoRestart (recent : Nat)
  /-- UPTIME_READ (R497). -/
  | uptimeRead (us : Nat)
  /-- MTIME_COMPARE (R497). -/
  | mtimeCompare
  /-- DMA_GO (R501). -/
  | dmaGo (c : Nat)
  /-- DMA_ABORT (R501). -/
  | dmaAbort (c : Nat)
  /-- DMA_WORD_TRANSFER (R503). -/
  | dmaWordTransfer (c : Nat) (ecc : EccResult)
  /-- EVENT_SERVICE (R504). -/
  | eventService (us : Nat)
  /-- EV_CLAIM_READ (R504). -/
  | evClaimRead
  /-- EVQ_READ (R506). -/
  | evqRead
  /-- HK_SEQUENCE_START (R510). -/
  | hkSequenceStart
  /-- HK_CONVERSION_DONE (R511). -/
  | hkConversionDone (raw : Nat) (us : Nat)
  /-- HK_INJECT (R512). -/
  | hkInject (input : Nat)
  /-- HK_CAL (R514). -/
  | hkCal
  /-- CAL_DONE (R514). -/
  | calDone (gain : Nat) (offset : Nat)
  /-- HK_REF_ENABLE (R509). -/
  | hkRefEnable (on : Bool)
  /-- HK_REF_READY (R509). -/
  | hkRefReady
  /-- HK_REG_ENABLE (R515). -/
  | hkRegEnable (on : Bool)
  /-- ACQ_START (R519). -/
  | acqStart
  /-- ACQ_STOP (R519). -/
  | acqStop
  /-- ACQUISITION_STARTS (R521). -/
  | acquisitionStarts
  /-- ACQUISITION_STOPS (R522). -/
  | acquisitionStops
  /-- FE_SERVICE_WRITE (R526). -/
  | feServiceWrite (value : Nat)
  /-- FE_SVC (R526). -/
  | feSvc (die : Nat)
  /-- ASSAY_GO (R527). -/
  | assayGo (block : Nat) (index : Nat)
  /-- ASSAY_ABORT (R531). -/
  | assayAbort
  /-- ASSAY_DONE (R529). -/
  | assayDone (part : Nat) (fails : Nat) (first : Nat) (ms : Nat)
  /-- TEST_LOGIC_RESET (R532). -/
  | testLogicReset
  /-- IDCODE (R532). -/
  | idcode
  /-- EXTEST (R532). -/
  | extest (value : Nat)
  /-- SAMPLE_PRELOAD (R532). -/
  | samplePreload (sampled : Nat) (value : Nat)
  /-- BYPASS (R532). -/
  | bypass (opcode : Nat)
  /-- CTRL_ACCESS (R533). -/
  | ctrlAccess (dr : Nat) (ecc : EccResult) (early : Bool)
  /-- HS_ENTRY (R534). -/
  | hsEntry (dr : Nat) (ecc : EccResult)
  /-- REGISTER_WRITE (R543). -/
  | registerWrite (path : Path) (addr : Nat) (data : Nat) (be : Nat)
  /-- READ_CLEAR (R19). -/
  | readClear (path : Path) (addr : Nat) (be : Nat)
  /-- TRANSACTION_TIMEOUT (R546). -/
  | transactionTimeout (path : Path) (msg : CtMsg) (took : Bool)
  /-- LOOP_CHECKER_PATTERN (R344). -/
  | loopCheckerPattern (lane : Nat) (bits : Nat) (errors : Nat)
  /-- HOST_PASS_READ (R408). -/
  | hostPassRead (result : EccResult) (owner : Option (Nat × Nat))
  /-- BURNISH_WINDOW_END (R408). -/
  | burnishWindowEnd
  /-- PU_TEMP_WARNING (R444). -/
  | puTempWarning (unit : Nat)
  /-- STATE_COPY_LINK_UP (R433). -/
  | stateCopyLinkUp
  /-- ARBITER_HEARTBEAT_REGAINED (R432). -/
  | arbiterHeartbeatRegained (unit : Nat)
  /-- INTERLOCK_DARK_PULSE (R454). -/
  | interlockDarkPulse (side : Nat)
  /-- SUPERVISOR_CLOCK_RETURN (R464). -/
  | supervisorClockReturn
  deriving DecidableEq, Repr

end Sys2Proof
end

