-- ==== Sys2Proof/Machine/Operands.lean ====
section
/-! DEFINITION. Bit fields, signed values, byte lanes and the checksums the spec computes over data. -/

namespace Sys2Proof.Machine

/-- Bits [lo + w − 1 : lo] of `v` (R12). -/
def bits (v lo w : Nat) : Nat := v / 2 ^ lo % 2 ^ w

/-- Bit `n` of `v`. -/
def bit (v n : Nat) : Bool := v.testBit n

/-- `v` with bits [lo + w − 1 : lo] replaced by the low `w` bits of `x`. -/
def putBits (v lo w x : Nat) : Nat :=
  v % 2 ^ lo + (x % 2 ^ w) * 2 ^ lo + (v / 2 ^ (lo + w)) * 2 ^ (lo + w)

/-- 1 for true. -/
def b2n (b : Bool) : Nat := if b then 1 else 0

/-- The value of a `w`-bit two's complement field. -/
def signed (w v : Nat) : Int :=
  if v % 2 ^ w < 2 ^ (w - 1) then (v % 2 ^ w : Nat) else ((v % 2 ^ w : Nat) : Int) - (2 ^ w : Nat)

/-- The `w`-bit two's complement field holding `x`. -/
def unsigned (w : Nat) (x : Int) : Nat := (x % (2 ^ w : Nat)).toNat

/-- a − b modulo n. -/
def wrapSub (n a b : Nat) : Nat := (((a : Int) - (b : Int)) % (n : Int)).toNat

/-- a − b modulo 2^32, read as signed (R90). -/
def diff32 (a b : Nat) : Int := Int.bmod ((a : Int) - (b : Int)) (2 ^ 32)

/-- `x` kept within lo to hi. -/
def clampI (lo hi x : Int) : Int := if x < lo then lo else if hi < x then hi else x

/-- Byte `i` of a word (R13). -/
def byteOf (v i : Nat) : Nat := v / 256 ^ i % 256

/-- The `n` bytes of `v`, lowest address first (R13). -/
def bytesOf (v : Nat) : Nat → List Nat
  | 0 => []
  | n + 1 => v % 256 :: bytesOf (v / 256) n

/-- The number whose bytes, lowest address first, are given (R13). -/
def ofBytes : List Nat → Nat
  | [] => 0
  | b :: bs => b % 256 + 256 * ofBytes bs

/-- The low four bytes of `new` where `be` enables them, of `old` elsewhere (R543). -/
def mergeBytes (old new be : Nat) : Nat :=
  ofBytes ((List.range 4).map fun i => if bit be i then byteOf new i else byteOf old i)

/-- `v` with the bytes that `be` does not enable read as 0 (R543). -/
def maskBytes (v be : Nat) : Nat := mergeBytes 0 v be

/-- One bit shifted into a left-going CRC register of width `w` and polynomial `poly`. -/
def crcBit (w poly : Nat) (reg : Nat) (b : Bool) : Nat :=
  if xor (reg.testBit (w - 1)) b then Nat.xor ((reg * 2) % 2 ^ w) poly else (reg * 2) % 2 ^ w

/-- The bits of a byte, most significant first. -/
def bitsMsb (v : Nat) : List Bool := (List.range 8).map fun i => v.testBit (7 - i)

/-- The bits of a byte, least significant first. -/
def bitsLsb (v : Nat) : List Bool := (List.range 8).map fun i => v.testBit i

/-- The `n` bits of `v`, least significant first (R14). -/
def bitsUp (v n : Nat) : List Bool := (List.range n).map fun i => v.testBit i

/-- The low `n` bits of `v` in reverse order. -/
def reverseBits (v n : Nat) : Nat := (List.range n).foldl (fun r i => r * 2 + b2n (v.testBit i)) 0

/-- CRC-32 as in IEEE 802.3 over bytes in order. -/
def crc32 (bytes : List Nat) : Nat :=
  let r := (bytes.map bitsLsb).flatten.foldl (crcBit 32 0x04C11DB7) 0xFFFFFFFF
  Nat.xor (reverseBits r 32) 0xFFFFFFFF

/-- The bytes of 64-bit words, in stored order (R13). -/
def wordBytes (ws : List Nat) : List Nat := (ws.map fun w => bytesOf w 8).flatten

end Sys2Proof.Machine
end

