-- ==== Sys2Proof/Config.lean ====
section
/-! DEFINITION. What an implementation fixes and the spec leaves open: constants without a body. -/

namespace Sys2Proof.Config

/-- The die serial of the CX, read in FB_SERIAL_LO and FB_SERIAL_HI (R392): each module has its own. -/
opaque dieSerial : BitVec 64

/-- The strap lands SAFE_CFG[7:0] as sampled at reset (R16, R452): board wiring. -/
opaque straps : BitVec 8

/-- The boot ROM contents, by word index (R492): not given by the spec. -/
opaque bootRom : Nat → BitVec 32

/-- The free values: value n of the values the spec leaves undefined, named by the counter in State. -/
opaque freeValue : Nat → BitVec 64

end Sys2Proof.Config
end

