-- ==== Sys2Proof/Machine/Sparse.lean ====
section
/-! DEFINITION. Sparse maps: lists of (key, value) pairs with keys strictly rising, in which an unlisted key
reads as a default and a value equal to the default is never listed. Memories, register fields and tables of
the block are held in this one form. -/

namespace Sys2Proof.Sparse

variable {α : Type}

/-- The value at key `k`; an unlisted key reads `d`. -/
def get (d : α) (k : Nat) : List (Nat × α) → α
  | [] => d
  | (k', v) :: m => if k = k' then v else get d k m

/-- The listing without key `k`. -/
def erase (k : Nat) : List (Nat × α) → List (Nat × α)
  | [] => []
  | (k', v) :: m => if k = k' then erase k m else (k', v) :: erase k m

/-- The listing with `v` at key `k`, in key order. -/
def insert (k : Nat) (v : α) : List (Nat × α) → List (Nat × α)
  | [] => [(k, v)]
  | (k', v') :: m =>
    if k < k' then (k, v) :: (k', v') :: m
    else if k = k' then (k, v) :: m
    else (k', v') :: insert k v m

/-- Writes `v` at key `k`; writing the default removes the entry. -/
def put [DecidableEq α] (d : α) (k : Nat) (v : α) (m : List (Nat × α)) : List (Nat × α) :=
  if v = d then erase k m else insert k v m

/-- Key `k` is listed. -/
def has (k : Nat) : List (Nat × α) → Bool
  | [] => false
  | (k', _) :: m => k == k' || has k m

/-- Keys strictly rising, each above `b` where a bound is given. -/
def sortedFrom (b : Option Nat) : List (Nat × α) → Bool
  | [] => true
  | (k, _) :: m => (match b with | none => true | some b => decide (b < k)) && sortedFrom (some k) m

/-- The canonical order: keys strictly rising. -/
def sorted (m : List (Nat × α)) : Bool := sortedFrom none m

/-- The canonical form over a default: keys strictly rising and no entry equal to `d`. -/
def wf [DecidableEq α] (d : α) (m : List (Nat × α)) : Bool := sorted m && m.all (fun e => decide (e.2 ≠ d))

end Sys2Proof.Sparse
end

