-- ==== Sys2Proof/Machine/Field.lean ====
section
/-! DEFINITION. Register fields: where each lies, what it resets to and how a control-space access treats it. -/

namespace Sys2Proof.Machine

/-- The access types of the register tables (R17). -/
inductive Access where
  /-- Read and write. -/
  | rw
  /-- Read only: a write is ignored without error. -/
  | ro
  /-- Write only: reads as 0; a write of 1 takes an action. -/
  | wo
  /-- A write of 1 clears the bit. -/
  | w1c
  /-- A read clears the field. -/
  | rc
  deriving DecidableEq, Repr

/-- A register field: byte address of its register, low bit, width, reset value and access (R12, R15 to R17). -/
structure Fld where
  addr : Nat
  lo : Nat
  width : Nat
  reset : Nat
  acc : Access
  deriving DecidableEq, Repr

/-- The key of a field in the register state: one number per bit position of the control space. -/
def Fld.key (f : Fld) : Nat := f.addr * 32 + f.lo

/-- A register of the map: name, address of its first copy, index ranges with strides, fields of a copy. -/
structure RegRow where
  name : String
  base : Nat
  dims : List (Nat × Nat)
  fields : List Nat → List Fld

/-- The indices by which byte offset `off` names a copy of an arrayed register, if it names one. -/
def dimIndex : List (Nat × Nat) → Nat → Option (List Nat)
  | [], off => if off = 0 then some [] else none
  | (n, st) :: ds, off =>
    if off / st < n then
      match dimIndex ds (off % st) with
      | some ix => some (off / st :: ix)
      | none => none
    else none

/-- The fields of the copy of this register at byte address `a`, if there is one. -/
def RegRow.at? (r : RegRow) (a : Nat) : Option (List Fld) :=
  if a < r.base then none
  else match dimIndex r.dims (a - r.base) with
    | some ix => some (r.fields ix)
    | none => none

end Sys2Proof.Machine
end

