-- ==== Sys2Proof/Machine/RegsA.lean ====
section
/-! DEFINITION. The register fields of the spec's tables (R16, R17): identity, architecture, plate, machine time, input channels, time measurement.
One definition a field, named REGISTER_field; an arrayed register takes its index or indices. -/

namespace Sys2Proof.Machine

/-! CX_DEVICE_ID (R2) -/
def CX_DEVICE_ID_part : Fld := ⟨0x10000000, 16, 16, 0x1536, .ro⟩
def CX_DEVICE_ID_variant : Fld := ⟨0x10000000, 8, 8, 0xa, .ro⟩
def CX_DEVICE_ID_stepping : Fld := ⟨0x10000000, 0, 8, 1, .ro⟩

/-! CX_QUIET_DEFER (R44) -/
def CX_QUIET_DEFER_count : Fld := ⟨0x10000044, 16, 16, 0, .rc⟩
def CX_QUIET_DEFER_last : Fld := ⟨0x10000044, 0, 4, 0, .ro⟩

/-! CX_PENDING_ENABLE (R51) -/
def CX_PENDING_ENABLE_discarded : Fld := ⟨0x10000040, 24, 8, 0, .rc⟩
def CX_PENDING_ENABLE_fe : Fld := ⟨0x10000040, 12, 3, 0, .ro⟩
def CX_PENDING_ENABLE_quad : Fld := ⟨0x10000040, 0, 12, 0, .ro⟩

/-! SV_PENDING_ENABLE (R52) -/
def SV_PENDING_ENABLE_discarded : Fld := ⟨0x52000040, 4, 8, 0, .ro⟩
def SV_PENDING_ENABLE_module : Fld := ⟨0x52000040, 3, 1, 0, .ro⟩
def SV_PENDING_ENABLE_bias : Fld := ⟨0x52000040, 2, 1, 0, .ro⟩
def SV_PENDING_ENABLE_pu_b : Fld := ⟨0x52000040, 1, 1, 0, .ro⟩
def SV_PENDING_ENABLE_pu_a : Fld := ⟨0x52000040, 0, 1, 0, .ro⟩

/-! CX_ARCH_STATUS (R53) -/
def CX_ARCH_STATUS_mgmt_backup : Fld := ⟨0x10000048, 1, 1, 0, .ro⟩
def CX_ARCH_STATUS_ref_lost : Fld := ⟨0x10000048, 0, 1, 0, .w1c⟩

/-! CX_PLATE_CTRL (R63) -/
def CX_PLATE_CTRL_abort : Fld := ⟨0x10000080, 2, 1, 0, .wo⟩
def CX_PLATE_CTRL_commit : Fld := ⟨0x10000080, 1, 1, 0, .wo⟩
def CX_PLATE_CTRL_open : Fld := ⟨0x10000080, 0, 1, 0, .wo⟩

/-! CX_PLATE_STATUS (R64) -/
def CX_PLATE_STATUS_bad_frames : Fld := ⟨0x10000084, 19, 13, 0, .ro⟩
def CX_PLATE_STATUS_err : Fld := ⟨0x10000084, 8, 4, 0, .ro⟩
def CX_PLATE_STATUS_state : Fld := ⟨0x10000084, 0, 4, 0, .ro⟩

/-! CX_PLATE_FCRC (R65) -/
def CX_PLATE_FCRC_frame : Fld := ⟨0x10000088, 16, 13, 0, .rw⟩
def CX_PLATE_FCRC_crc : Fld := ⟨0x10000088, 0, 16, 0, .rw⟩

/-! CX_PLATE_ERR_FRAME (R66) -/
def CX_PLATE_ERR_FRAME_check : Fld := ⟨0x1000008c, 24, 8, 0, .ro⟩
def CX_PLATE_ERR_FRAME_frame : Fld := ⟨0x1000008c, 0, 13, 0, .ro⟩

/-! CX_PLATE_STAGE_CRC (R74) -/
def CX_PLATE_STAGE_CRC_crc_odd (i : Nat) : Fld := ⟨0x10000098 + i * 0x4, 16, 16, 0, .rw⟩
def CX_PLATE_STAGE_CRC_crc_even (i : Nat) : Fld := ⟨0x10000098 + i * 0x4, 0, 16, 0, .rw⟩

/-! CX_PLATE_RELOAD (R75) -/
def CX_PLATE_RELOAD_state : Fld := ⟨0x10000094, 28, 4, 0, .ro⟩
def CX_PLATE_RELOAD_err : Fld := ⟨0x10000094, 24, 4, 0, .ro⟩
def CX_PLATE_RELOAD_go_refused : Fld := ⟨0x10000094, 18, 1, 0, .w1c⟩
def CX_PLATE_RELOAD_cancel : Fld := ⟨0x10000094, 17, 1, 0, .wo⟩
def CX_PLATE_RELOAD_go : Fld := ⟨0x10000094, 16, 1, 0, .wo⟩
def CX_PLATE_RELOAD_count : Fld := ⟨0x10000094, 13, 3, 0, .rw⟩
def CX_PLATE_RELOAD_first : Fld := ⟨0x10000094, 0, 13, 0, .rw⟩

/-! CX_PLATE_QUAR (R83) -/
def CX_PLATE_QUAR_count : Fld := ⟨0x100000a8, 16, 16, 0, .rc⟩
def CX_PLATE_QUAR_last_cause : Fld := ⟨0x100000a8, 13, 2, 0, .ro⟩
def CX_PLATE_QUAR_last_frame : Fld := ⟨0x100000a8, 0, 13, 0, .ro⟩

/-! CX_MT_ORBIT_LEN (R88) -/
def CX_MT_ORBIT_LEN_refused : Fld := ⟨0x10000108, 16, 1, 0, .w1c⟩
def CX_MT_ORBIT_LEN_nb_m1 : Fld := ⟨0x10000108, 0, 16, 0xb3f, .rw⟩

/-! CX_MT_CTRL (R92) -/
def CX_MT_CTRL_load : Fld := ⟨0x10000100, 7, 1, 0, .wo⟩
def CX_MT_CTRL_snap : Fld := ⟨0x10000100, 6, 1, 0, .wo⟩
def CX_MT_CTRL_src_sel : Fld := ⟨0x10000100, 0, 2, 0, .rw⟩

/-! CX_MT_SNAP_ORBIT (R94) -/
def CX_MT_SNAP_ORBIT_orbit : Fld := ⟨0x10000110, 0, 32, 0, .ro⟩

/-! CX_MT_SNAP_BT (R94) -/
def CX_MT_SNAP_BT_valid : Fld := ⟨0x10000114, 31, 1, 0, .ro⟩
def CX_MT_SNAP_BT_bucket : Fld := ⟨0x10000114, 15, 16, 0, .ro⟩
def CX_MT_SNAP_BT_tick : Fld := ⟨0x10000114, 0, 15, 0, .ro⟩

/-! CX_MT_ORBIT_ERR (R100) -/
def CX_MT_ORBIT_ERR_count : Fld := ⟨0x10000120, 16, 16, 0, .rc⟩
def CX_MT_ORBIT_ERR_last_offset : Fld := ⟨0x10000120, 0, 16, 0, .ro⟩

/-! CX_MT_STATUS (R104) -/
def CX_MT_STATUS_mt_valid : Fld := ⟨0x10000104, 31, 1, 0, .ro⟩
def CX_MT_STATUS_qualified : Fld := ⟨0x10000104, 30, 1, 0, .ro⟩
def CX_MT_STATUS_unresolved : Fld := ⟨0x10000104, 29, 1, 0, .ro⟩
def CX_MT_STATUS_holdover : Fld := ⟨0x10000104, 28, 1, 0, .ro⟩
def CX_MT_STATUS_src_lane : Fld := ⟨0x10000104, 20, 6, 0, .ro⟩
def CX_MT_STATUS_src : Fld := ⟨0x10000104, 18, 2, 0, .ro⟩
def CX_MT_STATUS_cause : Fld := ⟨0x10000104, 16, 2, 0, .ro⟩
def CX_MT_STATUS_state : Fld := ⟨0x10000104, 0, 4, 0, .ro⟩

/-! CX_MT_SLEW (R107) -/
def CX_MT_SLEW_rate : Fld := ⟨0x1000011c, 0, 8, 0xa, .rw⟩

/-! CX_FU_CTRL (R110) -/
def CX_FU_CTRL_resid_lim : Fld := ⟨0x10000140, 16, 16, 0x64, .rw⟩
def CX_FU_CTRL_gate_ms : Fld := ⟨0x10000140, 0, 14, 0x3e8, .rw⟩

/-! CX_FU_RATIO_HI (R111) -/
def CX_FU_RATIO_HI_valid : Fld := ⟨0x10000144, 31, 1, 0, .ro⟩
def CX_FU_RATIO_HI_ratio_hi : Fld := ⟨0x10000144, 0, 16, 0, .ro⟩

/-! CX_FU_RATIO_LO (R111) -/
def CX_FU_RATIO_LO_ratio_lo : Fld := ⟨0x10000148, 0, 32, 0, .ro⟩

/-! CX_FU_STATUS (R111) -/
def CX_FU_STATUS_rejected : Fld := ⟨0x1000014c, 16, 16, 0, .rc⟩
def CX_FU_STATUS_resid : Fld := ⟨0x1000014c, 0, 16, 0, .ro⟩

/-! OVN_STATUS (R113) -/
def OVN_STATUS_ready : Fld := ⟨0x53000000, 31, 1, 0, .ro⟩
def OVN_STATUS_heater_fault : Fld := ⟨0x53000000, 30, 1, 0, .ro⟩
def OVN_STATUS_ready_age : Fld := ⟨0x53000000, 16, 12, 0, .ro⟩
def OVN_STATUS_warm_s : Fld := ⟨0x53000000, 8, 8, 0, .ro⟩
def OVN_STATUS_heater : Fld := ⟨0x53000000, 0, 8, 0, .ro⟩

/-! CX_CAL_CTRL (R116) -/
def CX_CAL_CTRL_enable (i : Nat) : Fld := ⟨0x10001000 + i * 0x10, 31, 1, 0, .rw⟩
def CX_CAL_CTRL_action (i : Nat) : Fld := ⟨0x10001000 + i * 0x10, 24, 4, 0, .rw⟩
def CX_CAL_CTRL_argument (i : Nat) : Fld := ⟨0x10001000 + i * 0x10, 0, 16, 0, .rw⟩

/-! CX_CAL_TIME (R116) -/
def CX_CAL_TIME_coarse (i : Nat) : Fld := ⟨0x10001004 + i * 0x10, 16, 5, 0, .rw⟩
def CX_CAL_TIME_bucket (i : Nat) : Fld := ⟨0x10001004 + i * 0x10, 0, 16, 0, .rw⟩

/-! CX_CAL_OMASK (R116) -/
def CX_CAL_OMASK_mask (i : Nat) : Fld := ⟨0x10001008 + i * 0x10, 0, 32, 0, .rw⟩

/-! CX_CAL_OVAL (R116) -/
def CX_CAL_OVAL_value (i : Nat) : Fld := ⟨0x1000100c + i * 0x10, 0, 32, 0, .rw⟩

/-! CX_CAL_EN (R119) -/
def CX_CAL_EN_enable : Fld := ⟨0x10000200, 31, 1, 0, .rw⟩
def CX_CAL_EN_missed : Fld := ⟨0x10000200, 0, 16, 0, .rc⟩

/-! CX_QUIET_WIN (R121) -/
def CX_QUIET_WIN_last (i : Nat) : Fld := ⟨0x10000220 + i * 0x4, 16, 16, 0, .rw⟩
def CX_QUIET_WIN_first (i : Nat) : Fld := ⟨0x10000220 + i * 0x4, 0, 16, 0xffff, .rw⟩

/-! CX_QUIET_STATUS (R122) -/
def CX_QUIET_STATUS_in_window : Fld := ⟨0x10000240, 8, 1, 0, .ro⟩
def CX_QUIET_STATUS_invalid : Fld := ⟨0x10000240, 0, 8, 0, .ro⟩

/-! FE_CTRL (R152) -/
def FE_CTRL_die_mask (n : Nat) : Fld := ⟨0x20000000 + n * 0x1000000, 0, 1, 0, .rw⟩

/-! FE_STATUS (R153) -/
def FE_STATUS_inj_dropped (n : Nat) : Fld := ⟨0x20000004 + n * 0x1000000, 5, 1, 0, .w1c⟩
def FE_STATUS_inj_coinc (n : Nat) : Fld := ⟨0x20000004 + n * 0x1000000, 4, 1, 0, .w1c⟩
def FE_STATUS_bypass_discard (n : Nat) : Fld := ⟨0x20000004 + n * 0x1000000, 3, 1, 0, .w1c⟩
def FE_STATUS_recov_lost (n : Nat) : Fld := ⟨0x20000004 + n * 0x1000000, 2, 1, 0, .w1c⟩
def FE_STATUS_derand_ovf (n : Nat) : Fld := ⟨0x20000004 + n * 0x1000000, 1, 1, 0, .w1c⟩
def FE_STATUS_automask (n : Nat) : Fld := ⟨0x20000004 + n * 0x1000000, 0, 1, 0, .w1c⟩

/-! FE_GUARD (R154) -/
def FE_GUARD_rate_lim (n : Nat) : Fld := ⟨0x20000010 + n * 0x1000000, 16, 16, 0x400, .rw⟩
def FE_GUARD_rate_win (n : Nat) : Fld := ⟨0x20000010 + n * 0x1000000, 8, 4, 6, .rw⟩
def FE_GUARD_stuck_lim (n : Nat) : Fld := ⟨0x20000010 + n * 0x1000000, 0, 8, 8, .rw⟩

/-! FE_INJ_CTRL (R155) -/
def FE_INJ_CTRL_fine (n : Nat) : Fld := ⟨0x20000020 + n * 0x1000000, 0, 10, 0, .rw⟩

/-! FE_INJ_SET (R155) -/
def FE_INJ_SET_amp (n i : Nat) : Fld := ⟨0x20000040 + n * 0x1000000 + i * 0x4, 0, 10, 0, .rw⟩

/-! FE_CNT_DERAND (R156) -/
def FE_CNT_DERAND_count (n : Nat) : Fld := ⟨0x20000080 + n * 0x1000000, 0, 32, 0, .rc⟩

/-! FE_CNT_RECOV (R156) -/
def FE_CNT_RECOV_count (n : Nat) : Fld := ⟨0x20000084 + n * 0x1000000, 0, 32, 0, .rc⟩

/-! FE_CNT_BYPASS (R156) -/
def FE_CNT_BYPASS_count (n : Nat) : Fld := ⟨0x20000088 + n * 0x1000000, 0, 32, 0, .rc⟩

/-! FE_CNT_INJ_WIN (R156) -/
def FE_CNT_INJ_WIN_count (n : Nat) : Fld := ⟨0x2000008c + n * 0x1000000, 0, 32, 0, .rc⟩

/-! FE_CNT_INJ_ERR (R156) -/
def FE_CNT_INJ_ERR_coincident (n : Nat) : Fld := ⟨0x20000090 + n * 0x1000000, 16, 16, 0, .rc⟩
def FE_CNT_INJ_ERR_dropped (n : Nat) : Fld := ⟨0x20000090 + n * 0x1000000, 0, 16, 0, .rc⟩

/-! FE_AUTOMASK (R157) -/
def FE_AUTOMASK_row (n i : Nat) : Fld := ⟨0x20000100 + n * 0x1000000 + i * 0x4, 0, 32, 0, .w1c⟩

/-! FE_CH_CFG (R158) -/
def FE_CH_CFG_inj_set (n i : Nat) : Fld := ⟨0x20001000 + n * 0x1000000 + i * 0x4, 23, 4, 0, .rw⟩
def FE_CH_CFG_inj_en (n i : Nat) : Fld := ⟨0x20001000 + n * 0x1000000 + i * 0x4, 22, 1, 0, .rw⟩
def FE_CH_CFG_mask (n i : Nat) : Fld := ⟨0x20001000 + n * 0x1000000 + i * 0x4, 21, 1, 1, .rw⟩
def FE_CH_CFG_slope (n i : Nat) : Fld := ⟨0x20001000 + n * 0x1000000 + i * 0x4, 20, 1, 0, .rw⟩
def FE_CH_CFG_trim (n i : Nat) : Fld := ⟨0x20001000 + n * 0x1000000 + i * 0x4, 10, 10, 0, .rw⟩
def FE_CH_CFG_threshold (n i : Nat) : Fld := ⟨0x20001000 + n * 0x1000000 + i * 0x4, 0, 10, 0x3ff, .rw⟩

/-! FE_CH_STAT (R159) -/
def FE_CH_STAT_automasked (n i : Nat) : Fld := ⟨0x20001800 + n * 0x1000000 + i * 0x4, 31, 1, 0, .ro⟩
def FE_CH_STAT_cause (n i : Nat) : Fld := ⟨0x20001800 + n * 0x1000000 + i * 0x4, 29, 2, 0, .ro⟩
def FE_CH_STAT_active_now (n i : Nat) : Fld := ⟨0x20001800 + n * 0x1000000 + i * 0x4, 28, 1, 0, .ro⟩
def FE_CH_STAT_fill (n i : Nat) : Fld := ⟨0x20001800 + n * 0x1000000 + i * 0x4, 24, 4, 0, .ro⟩
def FE_CH_STAT_derand_lost (n i : Nat) : Fld := ⟨0x20001800 + n * 0x1000000 + i * 0x4, 8, 8, 0, .rc⟩
def FE_CH_STAT_recov_lost (n i : Nat) : Fld := ⟨0x20001800 + n * 0x1000000 + i * 0x4, 0, 8, 0, .rc⟩

/-! FE_TDC_CTRL (R184) -/
def FE_TDC_CTRL_ideal (n : Nat) : Fld := ⟨0x20000008 + n * 0x1000000, 1, 1, 0, .rw⟩
def FE_TDC_CTRL_relock (n : Nat) : Fld := ⟨0x20000008 + n * 0x1000000, 0, 1, 0, .wo⟩

/-! FE_TDC_STATUS (R185) -/
def FE_TDC_STATUS_state (n : Nat) : Fld := ⟨0x2000000c + n * 0x1000000, 30, 2, 0, .ro⟩
def FE_TDC_STATUS_servo_err (n : Nat) : Fld := ⟨0x2000000c + n * 0x1000000, 16, 8, 0, .ro⟩
def FE_TDC_STATUS_tbl_wr_refused (n : Nat) : Fld := ⟨0x2000000c + n * 0x1000000, 3, 1, 0, .w1c⟩
def FE_TDC_STATUS_cd_fail (n : Nat) : Fld := ⟨0x2000000c + n * 0x1000000, 2, 1, 0, .w1c⟩
def FE_TDC_STATUS_unlock (n : Nat) : Fld := ⟨0x2000000c + n * 0x1000000, 1, 1, 0, .w1c⟩

/-! FE_CD_CTRL (R186) -/
def FE_CD_CTRL_slice (n : Nat) : Fld := ⟨0x20000014 + n * 0x1000000, 16, 8, 0x80, .rw⟩
def FE_CD_CTRL_abort (n : Nat) : Fld := ⟨0x20000014 + n * 0x1000000, 2, 1, 0, .wo⟩
def FE_CD_CTRL_full (n : Nat) : Fld := ⟨0x20000014 + n * 0x1000000, 1, 1, 0, .wo⟩

/-! FE_CD_STATUS (R186) -/
def FE_CD_STATUS_state (n : Nat) : Fld := ⟨0x20000018 + n * 0x1000000, 28, 4, 0, .ro⟩
def FE_CD_STATUS_column (n : Nat) : Fld := ⟨0x20000018 + n * 0x1000000, 24, 4, 0, .ro⟩
def FE_CD_STATUS_refused (n : Nat) : Fld := ⟨0x20000018 + n * 0x1000000, 8, 8, 0, .rc⟩
def FE_CD_STATUS_discarded (n : Nat) : Fld := ⟨0x20000018 + n * 0x1000000, 0, 8, 0, .rc⟩

/-! FE_TDC_DIE_OFS (R187) -/
def FE_TDC_DIE_OFS_ofs (n : Nat) : Fld := ⟨0x2000001c + n * 0x1000000, 0, 12, 0, .rw⟩

/-! FE_CH_OFS (R187) -/
def FE_CH_OFS_ofs (n i : Nat) : Fld := ⟨0x20000200 + n * 0x1000000 + i * 0x4, 0, 12, 0, .rw⟩

/-! FE_PAIR_EN (R189) -/
def FE_PAIR_EN_pair (n i : Nat) : Fld := ⟨0x20000140 + n * 0x1000000 + i * 0x4, 0, 32, 0, .rw⟩

/-! FE_CD_COL (R189) -/
def FE_CD_COL_valid (n i : Nat) : Fld := ⟨0x20000180 + n * 0x1000000 + i * 0x4, 31, 1, 0, .ro⟩
def FE_CD_COL_fail (n i : Nat) : Fld := ⟨0x20000180 + n * 0x1000000 + i * 0x4, 30, 1, 0, .ro⟩
def FE_CD_COL_age (n i : Nat) : Fld := ⟨0x20000180 + n * 0x1000000 + i * 0x4, 16, 12, 0xfff, .ro⟩
def FE_CD_COL_progress (n i : Nat) : Fld := ⟨0x20000180 + n * 0x1000000 + i * 0x4, 0, 11, 0, .ro⟩

/-! FE_CD_FAIL (R189) -/
def FE_CD_FAIL_row (n i : Nat) : Fld := ⟨0x200001c0 + n * 0x1000000 + i * 0x4, 0, 32, 0, .w1c⟩

/-! FE_BIN (R190) -/
def FE_BIN_odd (n l j : Nat) : Fld := ⟨0x20100000 + n * 0x1000000 + l * 0x800 + j * 0x4, 16, 14, (32 * j + 24), .rw⟩
def FE_BIN_even (n l j : Nat) : Fld := ⟨0x20100000 + n * 0x1000000 + l * 0x800 + j * 0x4, 0, 14, (32 * j + 8), .rw⟩

/-! CX_PLATE_ID (R67) -/
def CX_PLATE_ID_id : Fld := ⟨0x10000090, 0, 32, 0, .ro⟩

/-! CX_PLATE_QUAR_MAP (R84) -/
def CX_PLATE_QUAR_MAP_map (i : Nat) : Fld := ⟨0x10000400 + i * 0x4, 0, 32, 0, .ro⟩

/-! CX_MT_LOAD_ORBIT (R93) -/
def CX_MT_LOAD_ORBIT_orbit : Fld := ⟨0x1000010c, 0, 32, 0, .rw⟩

/-! CX_HO_TIME (R104) -/
def CX_HO_TIME_ms : Fld := ⟨0x10000124, 0, 32, 0, .ro⟩

/-! CX_MT_OFFSET (R106) -/
def CX_MT_OFFSET_ticks : Fld := ⟨0x10000118, 0, 32, 0, .ro⟩

/-! FE_CNT_UNLOCK (R188) -/
def FE_CNT_UNLOCK_count (n : Nat) : Fld := ⟨0x20000094 + n * 0x1000000, 0, 32, 0, .rc⟩

/-! FE_CNT_NARROW (R188) -/
def FE_CNT_NARROW_count (n : Nat) : Fld := ⟨0x20000098 + n * 0x1000000, 0, 32, 0, .rc⟩

/-! FE_CNT_STARTHIGH (R188) -/
def FE_CNT_STARTHIGH_count (n : Nat) : Fld := ⟨0x2000009c + n * 0x1000000, 0, 32, 0, .rc⟩

/-! FE_CNT_TOTOVF (R188) -/
def FE_CNT_TOTOVF_count (n : Nat) : Fld := ⟨0x200000a0 + n * 0x1000000, 0, 32, 0, .rc⟩

end Sys2Proof.Machine
end

