-- ==== Sys2Proof/Machine/RegsB.lean ====
section
/-! DEFINITION. The register fields of the spec's tables (R16, R17): hit store, trigger engine, records, streaming.
One definition a field, named REGISTER_field; an arrayed register takes its index or indices. -/

namespace Sys2Proof.Machine

/-! CX_HQ_CTRL (R223) -/
def CX_HQ_CTRL_depth_rst : Fld := ⟨0x10000300, 1, 1, 0, .wo⟩
def CX_HQ_CTRL_flush : Fld := ⟨0x10000300, 0, 1, 0, .wo⟩

/-! CX_HQ_STATUS (R223) -/
def CX_HQ_STATUS_flushing : Fld := ⟨0x10000304, 31, 1, 0, .ro⟩
def CX_HQ_STATUS_store_ready : Fld := ⟨0x10000304, 30, 1, 0, .ro⟩
def CX_HQ_STATUS_refused : Fld := ⟨0x10000304, 9, 1, 0, .w1c⟩
def CX_HQ_STATUS_chain_err : Fld := ⟨0x10000304, 8, 1, 0, .w1c⟩
def CX_HQ_STATUS_keep_full : Fld := ⟨0x10000304, 7, 1, 0, .w1c⟩
def CX_HQ_STATUS_full_drop : Fld := ⟨0x10000304, 6, 1, 0, .w1c⟩
def CX_HQ_STATUS_reclaim : Fld := ⟨0x10000304, 5, 1, 0, .w1c⟩
def CX_HQ_STATUS_low : Fld := ⟨0x10000304, 4, 1, 0, .w1c⟩
def CX_HQ_STATUS_sort_full : Fld := ⟨0x10000304, 3, 1, 0, .w1c⟩
def CX_HQ_STATUS_late : Fld := ⟨0x10000304, 2, 1, 0, .w1c⟩

/-! CX_HQ_FREE (R223) -/
def CX_HQ_FREE_rows : Fld := ⟨0x10000308, 0, 21, 0, .ro⟩

/-! CX_HQ_LOW (R223) -/
def CX_HQ_LOW_rows : Fld := ⟨0x1000030c, 0, 21, 0x10000, .rw⟩

/-! CX_HQ_DEPTH (R223) -/
def CX_HQ_DEPTH_min : Fld := ⟨0x10000310, 16, 16, 0x7fc0, .ro⟩
def CX_HQ_DEPTH_cur : Fld := ⟨0x10000310, 0, 16, 0, .ro⟩

/-! CX_HQ_VALID_ORBIT (R223) -/
def CX_HQ_VALID_ORBIT_orbit : Fld := ⟨0x10000314, 0, 32, 0, .ro⟩

/-! CX_HQ_VALID_BT (R223) -/
def CX_HQ_VALID_BT_valid : Fld := ⟨0x10000318, 31, 1, 0, .ro⟩
def CX_HQ_VALID_BT_bucket : Fld := ⟨0x10000318, 0, 16, 0, .ro⟩

/-! CX_HQ_BANKS (R223) -/
def CX_HQ_BANKS_in_service : Fld := ⟨0x1000031c, 16, 16, 0, .ro⟩
def CX_HQ_BANKS_retire : Fld := ⟨0x1000031c, 0, 16, 0, .rw⟩

/-! CX_MERGE_LATE (R223) -/
def CX_MERGE_LATE_late : Fld := ⟨0x10000320, 16, 16, 0, .rc⟩
def CX_MERGE_LATE_early : Fld := ⟨0x10000320, 0, 16, 0, .rc⟩

/-! CX_HQ_DROP (R223) -/
def CX_HQ_DROP_full : Fld := ⟨0x10000324, 16, 16, 0, .rc⟩
def CX_HQ_DROP_sort : Fld := ⟨0x10000324, 0, 16, 0, .rc⟩

/-! CX_HQ_RECLAIM (R223) -/
def CX_HQ_RECLAIM_count : Fld := ⟨0x10000328, 0, 32, 0, .rc⟩

/-! CX_HQ_POISON (R223) -/
def CX_HQ_POISON_read : Fld := ⟨0x1000032c, 16, 16, 0, .rc⟩
def CX_HQ_POISON_aged : Fld := ⟨0x1000032c, 0, 16, 0, .rc⟩

/-! CX_HQ_KEEP (R223) -/
def CX_HQ_KEEP_released : Fld := ⟨0x10000330, 16, 16, 0, .rc⟩
def CX_HQ_KEEP_used : Fld := ⟨0x10000330, 0, 13, 0, .ro⟩

/-! CX_HQ_CHAIN (R223) -/
def CX_HQ_CHAIN_errors : Fld := ⟨0x10000334, 24, 8, 0, .rc⟩
def CX_HQ_CHAIN_leaked : Fld := ⟨0x10000334, 0, 21, 0, .ro⟩

/-! CX_MERGE_STALL (R223) -/
def CX_MERGE_STALL_fe2 : Fld := ⟨0x10000338, 16, 8, 0, .rc⟩
def CX_MERGE_STALL_fe1 : Fld := ⟨0x10000338, 8, 8, 0, .rc⟩
def CX_MERGE_STALL_fe0 : Fld := ⟨0x10000338, 0, 8, 0, .rc⟩

/-! HS_STATUS (R224) -/
def HS_STATUS_bank_init (n : Nat) : Fld := ⟨0x30000000 + n * 0x1000000, 16, 8, 0, .ro⟩
def HS_STATUS_in_service (n : Nat) : Fld := ⟨0x30000000 + n * 0x1000000, 8, 8, 0, .ro⟩
def HS_STATUS_spare_exh (n : Nat) : Fld := ⟨0x30000000 + n * 0x1000000, 1, 1, 0, .w1c⟩
def HS_STATUS_spared (n : Nat) : Fld := ⟨0x30000000 + n * 0x1000000, 0, 1, 0, .w1c⟩

/-! HS_SPARE (R224) -/
def HS_SPARE_used (n : Nat) : Fld := ⟨0x30000004 + n * 0x1000000, 16, 11, 0, .ro⟩
def HS_SPARE_disabled (n : Nat) : Fld := ⟨0x30000004 + n * 0x1000000, 0, 9, 0, .ro⟩

/-! HS_SPARE_MAP (R224) -/
def HS_SPARE_MAP_valid (n i : Nat) : Fld := ⟨0x30001000 + n * 0x1000000 + i * 0x4, 31, 1, 0, .ro⟩
def HS_SPARE_MAP_row (n i : Nat) : Fld := ⟨0x30001000 + n * 0x1000000 + i * 0x4, 0, 20, 0, .ro⟩

/-! HS_DISABLED (R224) -/
def HS_DISABLED_valid (n i : Nat) : Fld := ⟨0x30002000 + n * 0x1000000 + i * 0x4, 31, 1, 0, .ro⟩
def HS_DISABLED_row (n i : Nat) : Fld := ⟨0x30002000 + n * 0x1000000 + i * 0x4, 0, 20, 0, .ro⟩

/-! TG_PATH (R256) -/
def TG_PATH_refused : Fld := ⟨0x10002000, 31, 1, 0, .w1c⟩
def TG_PATH_close : Fld := ⟨0x10002000, 0, 5, 0x1f, .rw⟩

/-! TG_STATUS (R256) -/
def TG_STATUS_conflict : Fld := ⟨0x10002004, 6, 1, 0, .w1c⟩
def TG_STATUS_test_hidden : Fld := ⟨0x10002004, 5, 1, 0, .w1c⟩
def TG_STATUS_acc_stopped : Fld := ⟨0x10002004, 4, 1, 0, .w1c⟩
def TG_STATUS_acc_bad : Fld := ⟨0x10002004, 3, 1, 0, .w1c⟩
def TG_STATUS_open_drop : Fld := ⟨0x10002004, 2, 1, 0, .w1c⟩
def TG_STATUS_invalid : Fld := ⟨0x10002004, 1, 1, 0, .w1c⟩
def TG_STATUS_late : Fld := ⟨0x10002004, 0, 1, 0, .w1c⟩

/-! TG_ACCEPT (R256) -/
def TG_ACCEPT_lat_min : Fld := ⟨0x10002008, 0, 16, 0, .rw⟩

/-! TG_CNT_LATE (R256) -/
def TG_CNT_LATE_count : Fld := ⟨0x1000200c, 0, 32, 0, .rc⟩

/-! TG_CNT_ACC (R256) -/
def TG_CNT_ACC_bad : Fld := ⟨0x10002010, 16, 16, 0, .rc⟩
def TG_CNT_ACC_stopped : Fld := ⟨0x10002010, 0, 16, 0, .rc⟩

/-! TG_CNT_OPEN (R256) -/
def TG_CNT_OPEN_quar : Fld := ⟨0x10002014, 16, 16, 0, .rc⟩
def TG_CNT_OPEN_full : Fld := ⟨0x10002014, 0, 16, 0, .rc⟩

/-! TG_CNT_INVALID (R256) -/
def TG_CNT_INVALID_count : Fld := ⟨0x10002018, 0, 32, 0, .rc⟩

/-! TG_LOCAL_LO (R256) -/
def TG_LOCAL_LO_number : Fld := ⟨0x1000201c, 0, 32, 0, .ro⟩

/-! TG_LOCAL_HI (R256) -/
def TG_LOCAL_HI_number : Fld := ⟨0x10002020, 0, 8, 0, .ro⟩

/-! TG_TEST_CTRL (R256) -/
def TG_TEST_CTRL_mode : Fld := ⟨0x10002024, 30, 2, 0, .rw⟩
def TG_TEST_CTRL_word : Fld := ⟨0x10002024, 0, 24, 0, .rw⟩

/-! TG_TEST_LANES_LO (R256) -/
def TG_TEST_LANES_LO_lanes : Fld := ⟨0x10002028, 0, 32, 0, .rw⟩

/-! TG_TEST_LANES_HI (R256) -/
def TG_TEST_LANES_HI_lanes : Fld := ⟨0x1000202c, 0, 16, 0, .rw⟩

/-! TG_CNT_TEST_HIDDEN (R256) -/
def TG_CNT_TEST_HIDDEN_count : Fld := ⟨0x10002030, 0, 32, 0, .rc⟩

/-! TG_QUEUE (R256) -/
def TG_QUEUE_peak : Fld := ⟨0x10002034, 16, 9, 0, .ro⟩
def TG_QUEUE_used : Fld := ⟨0x10002034, 0, 9, 0, .ro⟩

/-! TG_CONFLICT (R256) -/
def TG_CONFLICT_chasers : Fld := ⟨0x10002038, 0, 32, 0, .ro⟩

/-! TG_REGION_COARSE (R256) -/
def TG_REGION_COARSE_coarse (i : Nat) : Fld := ⟨0x10002400 + i * 0x8, 0, 32, 0xffffffff, .rw⟩

/-! TG_REGION_TOT (R256) -/
def TG_REGION_TOT_tot_min (i : Nat) : Fld := ⟨0x10002404 + i * 0x8, 0, 12, 0, .rw⟩

/-! TG_CHSTAT (R256) -/
def TG_CHSTAT_state (i : Nat) : Fld := ⟨0x10002800 + i * 0x4, 28, 4, 0, .ro⟩
def TG_CHSTAT_t1_exp (i : Nat) : Fld := ⟨0x10002800 + i * 0x4, 25, 1, 0, .ro⟩
def TG_CHSTAT_t0_exp (i : Nat) : Fld := ⟨0x10002800 + i * 0x4, 24, 1, 0, .ro⟩
def TG_CHSTAT_out (i : Nat) : Fld := ⟨0x10002800 + i * 0x4, 16, 8, 0, .ro⟩
def TG_CHSTAT_opens (i : Nat) : Fld := ⟨0x10002800 + i * 0x4, 0, 16, 0, .rc⟩

/-! TG_CHCNT (R256) -/
def TG_CHCNT_value (c k : Nat) : Fld := ⟨0x10002900 + c * 0x10 + k * 0x4, 0, 16, 0, .ro⟩

/-! RC_STATUS (R289) -/
def RC_STATUS_dump_refused : Fld := ⟨0x10003000, 3, 1, 0, .w1c⟩
def RC_STATUS_mask_viol : Fld := ⟨0x10003000, 2, 1, 0, .w1c⟩
def RC_STATUS_clipped : Fld := ⟨0x10003000, 1, 1, 0, .w1c⟩
def RC_STATUS_refused : Fld := ⟨0x10003000, 0, 1, 0, .w1c⟩

/-! RC_BUSY (R289) -/
def RC_BUSY_busy : Fld := ⟨0x10003004, 31, 1, 0, .ro⟩
def RC_BUSY_off : Fld := ⟨0x10003004, 16, 14, 0x200, .rw⟩
def RC_BUSY_on : Fld := ⟨0x10003004, 0, 14, 0x100, .rw⟩

/-! RC_CTX (R289) -/
def RC_CTX_min_free : Fld := ⟨0x10003008, 16, 14, 0x2800, .ro⟩
def RC_CTX_free : Fld := ⟨0x10003008, 0, 14, 0x2800, .ro⟩

/-! RC_LIMIT (R289) -/
def RC_LIMIT_words : Fld := ⟨0x1000300c, 0, 16, 0x4000, .rw⟩

/-! RC_FBUF (R289) -/
def RC_FBUF_free : Fld := ⟨0x10003010, 0, 16, 0x8000, .ro⟩

/-! RC_CNT_REFUSE (R289) -/
def RC_CNT_REFUSE_count : Fld := ⟨0x10003014, 0, 32, 0, .rc⟩

/-! RC_REFUSE_LAST (R289) -/
def RC_REFUSE_LAST_class : Fld := ⟨0x10003018, 4, 4, 0, .ro⟩
def RC_REFUSE_LAST_cause : Fld := ⟨0x10003018, 0, 4, 0, .ro⟩

/-! RC_CNT_CLIP (R289) -/
def RC_CNT_CLIP_start : Fld := ⟨0x1000301c, 24, 8, 0, .rc⟩
def RC_CNT_CLIP_end : Fld := ⟨0x1000301c, 16, 8, 0, .rc⟩
def RC_CNT_CLIP_gap : Fld := ⟨0x1000301c, 8, 8, 0, .rc⟩
def RC_CNT_CLIP_absent : Fld := ⟨0x1000301c, 4, 4, 0, .rc⟩
def RC_CNT_CLIP_size : Fld := ⟨0x1000301c, 0, 4, 0, .rc⟩

/-! RC_CNT_DAMAGED (R289) -/
def RC_CNT_DAMAGED_count : Fld := ⟨0x10003020, 0, 32, 0, .rc⟩

/-! RC_RF (R289) -/
def RC_RF_lost : Fld := ⟨0x10003024, 16, 16, 0, .rc⟩
def RC_RF_used : Fld := ⟨0x10003024, 0, 13, 0, .ro⟩

/-! RC_FREEZE_CTRL (R289) -/
def RC_FREEZE_CTRL_arm : Fld := ⟨0x10003040, 31, 1, 0, .rw⟩
def RC_FREEZE_CTRL_force : Fld := ⟨0x10003040, 30, 1, 0, .wo⟩
def RC_FREEZE_CTRL_post : Fld := ⟨0x10003040, 0, 14, 0, .rw⟩

/-! RC_FREEZE_STATUS (R289) -/
def RC_FREEZE_STATUS_state : Fld := ⟨0x10003044, 28, 4, 0, .ro⟩
def RC_FREEZE_STATUS_cause : Fld := ⟨0x10003044, 25, 3, 0, .ro⟩
def RC_FREEZE_STATUS_region : Fld := ⟨0x10003044, 16, 7, 0, .ro⟩
def RC_FREEZE_STATUS_bucket : Fld := ⟨0x10003044, 0, 16, 0, .ro⟩

/-! RC_FREEZE_ORBIT (R289) -/
def RC_FREEZE_ORBIT_orbit : Fld := ⟨0x10003048, 0, 32, 0, .ro⟩

/-! RC_FREEZE_LOST (R289) -/
def RC_FREEZE_LOST_count : Fld := ⟨0x1000304c, 0, 32, 0, .ro⟩

/-! RC_DUMP_CTRL (R289) -/
def RC_DUMP_CTRL_go : Fld := ⟨0x10003050, 31, 1, 0, .wo⟩
def RC_DUMP_CTRL_running : Fld := ⟨0x10003050, 30, 1, 0, .ro⟩
def RC_DUMP_CTRL_class : Fld := ⟨0x10003050, 16, 4, 0, .rw⟩
def RC_DUMP_CTRL_len : Fld := ⟨0x10003050, 0, 14, 0, .rw⟩

/-! RC_DUMP_ORBIT (R289) -/
def RC_DUMP_ORBIT_orbit : Fld := ⟨0x10003054, 0, 32, 0, .rw⟩

/-! RC_DUMP_BT (R289) -/
def RC_DUMP_BT_bucket : Fld := ⟨0x10003058, 0, 16, 0, .rw⟩

/-! RC_CNT_MASK_TIME (R289) -/
def RC_CNT_MASK_TIME_count : Fld := ⟨0x10003060, 0, 32, 0, .rc⟩

/-! RC_CNT_MASK_RATE (R289) -/
def RC_CNT_MASK_RATE_count : Fld := ⟨0x10003064, 0, 32, 0, .rc⟩

/-! RC_CNT_MASK_TOT (R289) -/
def RC_CNT_MASK_TOT_count : Fld := ⟨0x10003068, 0, 32, 0, .rc⟩

/-! RC_HIST_CTRL (R289) -/
def RC_HIST_CTRL_refused : Fld := ⟨0x10003070, 16, 1, 0, .w1c⟩
def RC_HIST_CTRL_clearing : Fld := ⟨0x10003070, 9, 1, 0, .ro⟩
def RC_HIST_CTRL_bank : Fld := ⟨0x10003070, 8, 1, 0, .ro⟩
def RC_HIST_CTRL_swap : Fld := ⟨0x10003070, 0, 1, 0, .wo⟩

/-! RC_CLASS_CNT (R289) -/
def RC_CLASS_CNT_count (i : Nat) : Fld := ⟨0x10003100 + i * 0x4, 0, 32, 0, .rc⟩

/-! CX_STR_CTRL (R319) -/
def CX_STR_CTRL_order : Fld := ⟨0x10004000, 16, 1, 0, .rw⟩
def CX_STR_CTRL_resend_us : Fld := ⟨0x10004000, 0, 16, 0x64, .rw⟩

/-! CX_STR_STATUS (R319) -/
def CX_STR_STATUS_refused : Fld := ⟨0x10004004, 2, 1, 0, .w1c⟩
def CX_STR_STATUS_credit_err : Fld := ⟨0x10004004, 1, 1, 0, .w1c⟩
def CX_STR_STATUS_lost : Fld := ⟨0x10004004, 0, 1, 0, .w1c⟩

/-! CX_STR_CNT (R319) -/
def CX_STR_CNT_resent : Fld := ⟨0x10004008, 16, 16, 0, .rc⟩
def CX_STR_CNT_bad_credit : Fld := ⟨0x10004008, 8, 8, 0, .rc⟩
def CX_STR_CNT_lost_content : Fld := ⟨0x10004008, 0, 8, 0, .rc⟩

/-! CX_STR_RX (R319) -/
def CX_STR_RX_bad : Fld := ⟨0x1000400c, 16, 16, 0, .rc⟩
def CX_STR_RX_discarded : Fld := ⟨0x1000400c, 0, 16, 0, .rc⟩

/-! CX_STR_FSEQ (R319) -/
def CX_STR_FSEQ_next : Fld := ⟨0x10004010, 0, 14, 0, .ro⟩

/-! CX_ETH_DST_LO (R319) -/
def CX_ETH_DST_LO_addr : Fld := ⟨0x10004014, 0, 32, 0xffffffff, .rw⟩

/-! CX_ETH_DST_HI (R319) -/
def CX_ETH_DST_HI_addr : Fld := ⟨0x10004018, 0, 16, 0xffff, .rw⟩

/-! FB_MERGE_CTRL (R319) -/
def FB_MERGE_CTRL_enable : Fld := ⟨0x10005c00, 31, 1, 0, .rw⟩
def FB_MERGE_CTRL_self : Fld := ⟨0x10005c00, 30, 1, 0, .rw⟩
def FB_MERGE_CTRL_timeout_us : Fld := ⟨0x10005c00, 0, 16, 0xc8, .rw⟩

/-! FB_MERGE_STATUS (R319) -/
def FB_MERGE_STATUS_unmerged : Fld := ⟨0x10005c04, 11, 1, 0, .w1c⟩
def FB_MERGE_STATUS_open : Fld := ⟨0x10005c04, 0, 11, 0, .ro⟩

/-! FB_MERGE_CNT (R319) -/
def FB_MERGE_CNT_sent : Fld := ⟨0x10005c08, 16, 16, 0, .rc⟩
def FB_MERGE_CNT_timeout : Fld := ⟨0x10005c08, 8, 8, 0, .rc⟩
def FB_MERGE_CNT_unmerged : Fld := ⟨0x10005c08, 0, 8, 0, .rc⟩

/-! FB_MERGE_SET (R319) -/
def FB_MERGE_SET_valid (i : Nat) : Fld := ⟨0x10005d00 + i * 0x4, 31, 1, 0, .rw⟩
def FB_MERGE_SET_addr (i : Nat) : Fld := ⟨0x10005d00 + i * 0x4, 0, 12, 0, .rw⟩

end Sys2Proof.Machine
end

