-- ==== Sys2Proof/Machine/RegsC.lean ====
section
/-! DEFINITION. The register fields of the spec's tables (R16, R17): lanes, fabric, protection.
One definition a field, named REGISTER_field; an arrayed register takes its index or indices. -/

namespace Sys2Proof.Machine

/-- N of fault class k at reset (R410). -/
def fltN (k : Nat) : Nat := match k with | 0 => 3 | 1 => 8 | 2 => 4 | 3 => 1024 | _ => 2

/-- W in seconds of fault class k at reset (R410). -/
def fltW (k : Nat) : Nat := match k with | 0 => 600 | 1 => 600 | 2 => 60 | 3 => 1 | _ => 60

/-! LN_CTRL (R353) -/
def LN_CTRL_eq_freeze (i : Nat) : Fld := ⟨0x10006000 + i * 0x20, 7, 1, 0, .rw⟩
def LN_CTRL_pattern (i : Nat) : Fld := ⟨0x10006000 + i * 0x20, 5, 2, 0, .rw⟩
def LN_CTRL_loop (i : Nat) : Fld := ⟨0x10006000 + i * 0x20, 3, 2, 0, .rw⟩
def LN_CTRL_out (i : Nat) : Fld := ⟨0x10006000 + i * 0x20, 0, 1, 0, .rw⟩

/-! LN_PWR (R353) -/
def LN_PWR_rx_pending (i : Nat) : Fld := ⟨0x10006004 + i * 0x20, 13, 1, 0, .ro⟩
def LN_PWR_tx_pending (i : Nat) : Fld := ⟨0x10006004 + i * 0x20, 12, 1, 0, .ro⟩
def LN_PWR_rx_now (i : Nat) : Fld := ⟨0x10006004 + i * 0x20, 9, 3, (if i % 8 = 0 then 4 else 3), .ro⟩
def LN_PWR_tx_now (i : Nat) : Fld := ⟨0x10006004 + i * 0x20, 6, 3, (if i % 8 = 0 then 4 else 3), .ro⟩
def LN_PWR_rx_req (i : Nat) : Fld := ⟨0x10006004 + i * 0x20, 2, 2, (if i % 8 = 0 then 0 else 3), .rw⟩
def LN_PWR_tx_req (i : Nat) : Fld := ⟨0x10006004 + i * 0x20, 0, 2, (if i % 8 = 0 then 0 else 3), .rw⟩

/-! LN_STATUS (R353) -/
def LN_STATUS_sym_lock (i : Nat) : Fld := ⟨0x10006008 + i * 0x20, 31, 1, 0, .ro⟩
def LN_STATUS_role (i : Nat) : Fld := ⟨0x10006008 + i * 0x20, 29, 2, (if i % 8 = 0 then 1 else 0), .ro⟩
def LN_STATUS_group (i : Nat) : Fld := ⟨0x10006008 + i * 0x20, 26, 3, 0, .ro⟩
def LN_STATUS_serving_spare (i : Nat) : Fld := ⟨0x10006008 + i * 0x20, 25, 1, 0, .ro⟩
def LN_STATUS_degraded (i : Nat) : Fld := ⟨0x10006008 + i * 0x20, 24, 1, 0, .ro⟩
def LN_STATUS_rejoin (i : Nat) : Fld := ⟨0x10006008 + i * 0x20, 12, 11, 0, .ro⟩
def LN_STATUS_refused (i : Nat) : Fld := ⟨0x10006008 + i * 0x20, 7, 1, 0, .w1c⟩
def LN_STATUS_moved (i : Nat) : Fld := ⟨0x10006008 + i * 0x20, 6, 1, 0, .w1c⟩
def LN_STATUS_eye_warn (i : Nat) : Fld := ⟨0x10006008 + i * 0x20, 5, 1, 0, .w1c⟩
def LN_STATUS_fault (i : Nat) : Fld := ⟨0x10006008 + i * 0x20, 4, 1, 0, .w1c⟩
def LN_STATUS_spare_move (i : Nat) : Fld := ⟨0x10006008 + i * 0x20, 3, 1, 0, .w1c⟩
def LN_STATUS_restripe (i : Nat) : Fld := ⟨0x10006008 + i * 0x20, 2, 1, 0, .w1c⟩
def LN_STATUS_crc (i : Nat) : Fld := ⟨0x10006008 + i * 0x20, 1, 1, 0, .w1c⟩
def LN_STATUS_lock_lost (i : Nat) : Fld := ⟨0x10006008 + i * 0x20, 0, 1, 0, .w1c⟩

/-! LN_RX_ALIGN (R353) -/
def LN_RX_ALIGN_slip_now (i : Nat) : Fld := ⟨0x1000600c + i * 0x20, 16, 12, 0, .ro⟩
def LN_RX_ALIGN_slip (i : Nat) : Fld := ⟨0x1000600c + i * 0x20, 0, 12, 0, .rw⟩

/-! LN_RX_LAT (R353) -/
def LN_RX_LAT_valid (i : Nat) : Fld := ⟨0x10006010 + i * 0x20, 31, 1, 0, .ro⟩
def LN_RX_LAT_edge (i : Nat) : Fld := ⟨0x10006010 + i * 0x20, 30, 1, 0, .ro⟩
def LN_RX_LAT_margin (i : Nat) : Fld := ⟨0x10006010 + i * 0x20, 16, 12, 0, .ro⟩
def LN_RX_LAT_lat (i : Nat) : Fld := ⟨0x10006010 + i * 0x20, 0, 12, 0, .ro⟩

/-! LN_EQ (R353) -/
def LN_EQ_adapted (i : Nat) : Fld := ⟨0x10006014 + i * 0x20, 31, 1, 0, .ro⟩
def LN_EQ_eye_min (i : Nat) : Fld := ⟨0x10006014 + i * 0x20, 16, 8, 0, .ro⟩
def LN_EQ_eye (i : Nat) : Fld := ⟨0x10006014 + i * 0x20, 0, 8, 0, .ro⟩

/-! LN_CNT (R353) -/
def LN_CNT_crc (i : Nat) : Fld := ⟨0x10006018 + i * 0x20, 16, 16, 0, .rc⟩
def LN_CNT_lock_loss (i : Nat) : Fld := ⟨0x10006018 + i * 0x20, 8, 8, 0, .rc⟩
def LN_CNT_rejoins (i : Nat) : Fld := ⟨0x10006018 + i * 0x20, 4, 4, 0, .rc⟩
def LN_CNT_bad_item (i : Nat) : Fld := ⟨0x10006018 + i * 0x20, 0, 4, 0, .rc⟩

/-! LN_LOOP_CNT (R353) -/
def LN_LOOP_CNT_sync (i : Nat) : Fld := ⟨0x1000601c + i * 0x20, 31, 1, 0, .ro⟩
def LN_LOOP_CNT_errors (i : Nat) : Fld := ⟨0x1000601c + i * 0x20, 0, 24, 0, .rc⟩

/-! LN_HEALTH (R354) -/
def LN_HEALTH_lock_lim : Fld := ⟨0x10006800, 16, 4, 8, .rw⟩
def LN_HEALTH_eye_warn : Fld := ⟨0x10006800, 8, 8, 0x40, .rw⟩
def LN_HEALTH_eye_fail : Fld := ⟨0x10006800, 0, 8, 0x10, .rw⟩

/-! LN_SUMMARY_LO (R354) -/
def LN_SUMMARY_LO_lanes : Fld := ⟨0x10006804, 0, 32, 0, .ro⟩

/-! LN_SUMMARY_HI (R354) -/
def LN_SUMMARY_HI_lanes : Fld := ⟨0x10006808, 0, 16, 0, .ro⟩

/-! LN_QUAD (R354) -/
def LN_QUAD_state (i : Nat) : Fld := ⟨0x10006840 + i * 0x4, 30, 2, 0, .ro⟩
def LN_QUAD_mode (i : Nat) : Fld := ⟨0x10006840 + i * 0x4, 28, 2, 0, .ro⟩
def LN_QUAD_unlock (i : Nat) : Fld := ⟨0x10006840 + i * 0x4, 0, 1, 0, .w1c⟩

/-! LN_PORT (R354) -/
def LN_PORT_serve (i : Nat) : Fld := ⟨0x10006880 + i * 0x4, 16, 8, 0, .rw⟩
def LN_PORT_out_grp (i : Nat) : Fld := ⟨0x10006880 + i * 0x4, 8, 8, 0, .ro⟩

/-! FB_ADDR (R392) -/
def FB_ADDR_valid : Fld := ⟨0x10005000, 31, 1, 0, .ro⟩
def FB_ADDR_depth : Fld := ⟨0x10005000, 16, 6, 0, .ro⟩
def FB_ADDR_addr : Fld := ⟨0x10005000, 0, 12, 0, .ro⟩

/-! FB_CTRL (R392) -/
def FB_CTRL_revert : Fld := ⟨0x10005004, 31, 1, 1, .rw⟩
def FB_CTRL_time_follow : Fld := ⟨0x10005004, 30, 1, 0, .wo⟩

/-! FB_UP (R392) -/
def FB_UP_time_port : Fld := ⟨0x10005008, 28, 4, 0xf, .ro⟩
def FB_UP_d_sec : Fld := ⟨0x10005008, 12, 4, 0xf, .rw⟩
def FB_UP_d_pri : Fld := ⟨0x10005008, 8, 4, 0xf, .rw⟩
def FB_UP_tc_sec : Fld := ⟨0x10005008, 4, 4, 0xf, .rw⟩
def FB_UP_tc_pri : Fld := ⟨0x10005008, 0, 4, 0xf, .rw⟩

/-! FB_DOWN (R392) -/
def FB_DOWN_ports : Fld := ⟨0x1000500c, 0, 6, 0, .rw⟩

/-! FB_PORTS (R392) -/
def FB_PORTS_data_up : Fld := ⟨0x10005010, 8, 6, 0, .ro⟩
def FB_PORTS_tc_up : Fld := ⟨0x10005010, 0, 6, 0, .ro⟩

/-! FB_STATUS (R392) -/
def FB_STATUS_refused : Fld := ⟨0x10005014, 7, 1, 0, .w1c⟩
def FB_STATUS_time_err : Fld := ⟨0x10005014, 6, 1, 0, .w1c⟩
def FB_STATUS_master : Fld := ⟨0x10005014, 5, 1, 0, .w1c⟩
def FB_STATUS_cmd_lost : Fld := ⟨0x10005014, 4, 1, 0, .w1c⟩
def FB_STATUS_ct_drop : Fld := ⟨0x10005014, 3, 1, 0, .w1c⟩
def FB_STATUS_route_miss : Fld := ⟨0x10005014, 2, 1, 0, .w1c⟩
def FB_STATUS_reroute : Fld := ⟨0x10005014, 1, 1, 0, .w1c⟩
def FB_STATUS_port_lost : Fld := ⟨0x10005014, 0, 1, 0, .w1c⟩

/-! FB_CNT (R392) -/
def FB_CNT_route_miss : Fld := ⟨0x10005018, 24, 8, 0, .rc⟩
def FB_CNT_ct_drop : Fld := ⟨0x10005018, 16, 8, 0, .rc⟩
def FB_CNT_fc_late : Fld := ⟨0x10005018, 8, 8, 0, .rc⟩
def FB_CNT_bad : Fld := ⟨0x10005018, 0, 8, 0, .rc⟩

/-! FB_CNT2 (R392) -/
def FB_CNT2_reroutes : Fld := ⟨0x1000501c, 24, 8, 0, .rc⟩
def FB_CNT2_acc_lost : Fld := ⟨0x1000501c, 16, 8, 0, .rc⟩
def FB_CNT2_gap : Fld := ⟨0x1000501c, 0, 16, 0, .rc⟩

/-! FB_CNT3 (R392) -/
def FB_CNT3_tp_collide : Fld := ⟨0x1000503c, 16, 16, 0, .rc⟩
def FB_CNT3_time_err : Fld := ⟨0x1000503c, 0, 16, 0, .rc⟩

/-! FB_DISC_CTRL (R392) -/
def FB_DISC_CTRL_go : Fld := ⟨0x10005020, 31, 1, 0, .wo⟩
def FB_DISC_CTRL_state : Fld := ⟨0x10005020, 16, 3, 0, .ro⟩
def FB_DISC_CTRL_op : Fld := ⟨0x10005020, 8, 1, 0, .rw⟩
def FB_DISC_CTRL_port : Fld := ⟨0x10005020, 0, 3, 0, .rw⟩

/-! FB_DISC_ASSIGN (R392) -/
def FB_DISC_ASSIGN_depth : Fld := ⟨0x10005024, 16, 6, 0, .rw⟩
def FB_DISC_ASSIGN_addr : Fld := ⟨0x10005024, 0, 12, 0, .rw⟩

/-! FB_DISC_ANS_LO (R392) -/
def FB_DISC_ANS_LO_serial : Fld := ⟨0x10005028, 0, 32, 0, .ro⟩

/-! FB_DISC_ANS_HI (R392) -/
def FB_DISC_ANS_HI_serial : Fld := ⟨0x1000502c, 0, 32, 0, .ro⟩

/-! FB_DISC_INFO (R392) -/
def FB_DISC_INFO_info : Fld := ⟨0x10005030, 0, 32, 0, .ro⟩

/-! FB_SERIAL_LO (R392) -/
def FB_SERIAL_LO_serial : Fld := ⟨0x10005034, 0, 32, (Config.dieSerial.toNat % 0x100000000), .ro⟩

/-! FB_SERIAL_HI (R392) -/
def FB_SERIAL_HI_serial : Fld := ⟨0x10005038, 0, 32, (Config.dieSerial.toNat / 0x100000000), .ro⟩

/-! FB_TIME_CTRL (R392) -/
def FB_TIME_CTRL_loss_orb : Fld := ⟨0x10005080, 24, 8, 8, .rw⟩
def FB_TIME_CTRL_qual : Fld := ⟨0x10005080, 20, 4, 3, .rw⟩
def FB_TIME_CTRL_pd_int : Fld := ⟨0x10005080, 0, 16, 0x400, .rw⟩

/-! FB_TIME_STATUS (R392) -/
def FB_TIME_STATUS_state : Fld := ⟨0x10005084, 29, 3, 0, .ro⟩
def FB_TIME_STATUS_steps : Fld := ⟨0x10005084, 20, 6, 0, .ro⟩
def FB_TIME_STATUS_prio : Fld := ⟨0x10005084, 12, 8, 0, .ro⟩
def FB_TIME_STATUS_master : Fld := ⟨0x10005084, 0, 12, 0, .ro⟩

/-! FB_TIME_D (R392) -/
def FB_TIME_D_d : Fld := ⟨0x10005088, 0, 32, 0, .ro⟩

/-! FB_TIME_DREF (R392) -/
def FB_TIME_DREF_d : Fld := ⟨0x1000508c, 0, 32, 0, .ro⟩

/-! FB_LINK (R392) -/
def FB_LINK_valid (i : Nat) : Fld := ⟨0x100050c0 + i * 0x4, 31, 1, 0, .ro⟩
def FB_LINK_delay (i : Nat) : Fld := ⟨0x100050c0 + i * 0x4, 0, 24, 0, .ro⟩

/-! FB_TP_FWD (R392) -/
def FB_TP_FWD_en (i : Nat) : Fld := ⟨0x10005100 + i * 0x4, 31, 1, 0, .rw⟩
def FB_TP_FWD_src (i : Nat) : Fld := ⟨0x10005100 + i * 0x4, 16, 6, 0, .rw⟩
def FB_TP_FWD_wait (i : Nat) : Fld := ⟨0x10005100 + i * 0x4, 0, 16, 0, .ro⟩

/-! FB_ROUTE (R392) -/
def FB_ROUTE_en (i : Nat) : Fld := ⟨0x10020000 + i * 0x4, 31, 1, 0, .rw⟩
def FB_ROUTE_use_sec (i : Nat) : Fld := ⟨0x10020000 + i * 0x4, 11, 1, 0, .ro⟩
def FB_ROUTE_sec (i : Nat) : Fld := ⟨0x10020000 + i * 0x4, 4, 4, 0, .rw⟩
def FB_ROUTE_pri (i : Nat) : Fld := ⟨0x10020000 + i * 0x4, 0, 4, 0, .rw⟩

/-! CX_BN_CTRL (R415) -/
def CX_BN_CTRL_aux_rate : Fld := ⟨0x10000c00, 8, 8, 4, .rw⟩
def CX_BN_CTRL_hs_rate : Fld := ⟨0x10000c00, 4, 4, 1, .rw⟩
def CX_BN_CTRL_patrol_en : Fld := ⟨0x10000c00, 0, 1, 1, .rw⟩

/-! CX_BN_PASS_CTRL (R415) -/
def CX_BN_PASS_CTRL_go : Fld := ⟨0x10000c04, 31, 1, 0, .wo⟩
def CX_BN_PASS_CTRL_abort : Fld := ⟨0x10000c04, 30, 1, 0, .wo⟩
def CX_BN_PASS_CTRL_state : Fld := ⟨0x10000c04, 24, 2, 0, .ro⟩
def CX_BN_PASS_CTRL_memory : Fld := ⟨0x10000c04, 0, 4, 0, .rw⟩

/-! CX_BN_PASS_START (R415) -/
def CX_BN_PASS_START_index : Fld := ⟨0x10000c08, 0, 23, 0, .rw⟩

/-! CX_BN_PASS_LEN (R415) -/
def CX_BN_PASS_LEN_count : Fld := ⟨0x10000c0c, 0, 24, 0, .rw⟩

/-! CX_BN_SUM_READ (R415) -/
def CX_BN_SUM_READ_count : Fld := ⟨0x10000c10, 0, 32, 0, .ro⟩

/-! CX_BN_SUM_CORR (R415) -/
def CX_BN_SUM_CORR_count : Fld := ⟨0x10000c14, 0, 32, 0, .ro⟩

/-! CX_BN_SUM_UNCORR (R415) -/
def CX_BN_SUM_UNCORR_uncorr : Fld := ⟨0x10000c18, 16, 16, 0, .ro⟩
def CX_BN_SUM_UNCORR_repaired : Fld := ⟨0x10000c18, 0, 16, 0, .ro⟩

/-! CX_BN_SUM_TIME (R415) -/
def CX_BN_SUM_TIME_bk : Fld := ⟨0x10000c1c, 0, 32, 0, .ro⟩

/-! CX_BN_PATROL (R415) -/
def CX_BN_PATROL_memory : Fld := ⟨0x10000c20, 24, 4, 3, .rw⟩
def CX_BN_PATROL_passes : Fld := ⟨0x10000c20, 0, 16, 0, .ro⟩

/-! CX_ECC_CNT (R415) -/
def CX_ECC_CNT_corr : Fld := ⟨0x10000c24, 16, 16, 0, .rc⟩
def CX_ECC_CNT_uncorr : Fld := ⟨0x10000c24, 0, 16, 0, .rc⟩

/-! CX_ECC_LAST (R415) -/
def CX_ECC_LAST_kind : Fld := ⟨0x10000c28, 30, 2, 0, .ro⟩
def CX_ECC_LAST_found_by : Fld := ⟨0x10000c28, 28, 2, 0, .ro⟩
def CX_ECC_LAST_memory : Fld := ⟨0x10000c28, 24, 4, 0, .ro⟩
def CX_ECC_LAST_index : Fld := ⟨0x10000c28, 0, 23, 0, .ro⟩

/-! CX_PROT_STATUS (R415) -/
def CX_PROT_STATUS_pass_refused : Fld := ⟨0x10000c2c, 6, 1, 0, .w1c⟩
def CX_PROT_STATUS_mbuf_err : Fld := ⟨0x10000c2c, 5, 1, 0, .w1c⟩
def CX_PROT_STATUS_repair_full : Fld := ⟨0x10000c2c, 4, 1, 0, .w1c⟩
def CX_PROT_STATUS_lasting : Fld := ⟨0x10000c2c, 3, 1, 0, .w1c⟩
def CX_PROT_STATUS_uncorr : Fld := ⟨0x10000c2c, 2, 1, 0, .w1c⟩
def CX_PROT_STATUS_unresolved : Fld := ⟨0x10000c2c, 1, 1, 0, .w1c⟩
def CX_PROT_STATUS_dispute : Fld := ⟨0x10000c2c, 0, 1, 0, .w1c⟩

/-! CX_TMR_CNT (R415) -/
def CX_TMR_CNT_unresolved : Fld := ⟨0x10000c30, 24, 8, 0, .rc⟩
def CX_TMR_CNT_disputed : Fld := ⟨0x10000c30, 16, 8, 0, .rc⟩
def CX_TMR_CNT_last : Fld := ⟨0x10000c30, 0, 6, 0, .ro⟩

/-! CX_REPAIR_STATUS (R415) -/
def CX_REPAIR_STATUS_full_miss : Fld := ⟨0x10000c34, 24, 8, 0, .rc⟩
def CX_REPAIR_STATUS_evicted : Fld := ⟨0x10000c34, 16, 8, 0, .rc⟩
def CX_REPAIR_STATUS_used : Fld := ⟨0x10000c34, 0, 7, 0, .ro⟩

/-! CX_FLT_CLASS (R415) -/
def CX_FLT_CLASS_n (i : Nat) : Fld := ⟨0x10000c40 + i * 0x4, 16, 16, (fltN i), .rw⟩
def CX_FLT_CLASS_w (i : Nat) : Fld := ⟨0x10000c40 + i * 0x4, 0, 16, (fltW i), .rw⟩

/-! CX_REPAIR (R415) -/
def CX_REPAIR_valid (i : Nat) : Fld := ⟨0x10000d00 + i * 0x4, 31, 1, 0, .ro⟩
def CX_REPAIR_memory (i : Nat) : Fld := ⟨0x10000d00 + i * 0x4, 24, 4, 0, .ro⟩
def CX_REPAIR_index (i : Nat) : Fld := ⟨0x10000d00 + i * 0x4, 0, 23, 0, .ro⟩

/-! SV_TMR_STATUS (R415) -/
def SV_TMR_STATUS_unresolved : Fld := ⟨0x52000044, 8, 8, 0, .ro⟩
def SV_TMR_STATUS_disputed : Fld := ⟨0x52000044, 0, 8, 0, .ro⟩

end Sys2Proof.Machine
end

