-- ==== Sys2Proof/Machine/RegsD.lean ====
section
/-! DEFINITION. The register fields of the spec's tables (R16, R17): power, loop engines, guard, tile, management, start-up, control space.
One definition a field, named REGISTER_field; an arrayed register takes its index or indices. -/

namespace Sys2Proof.Machine

/-- Base of the loop-engine registers of an instance: 0 is PU-A, 1 is PU-B (R445), 2 is the CX (R488). -/
def leBase (i : Nat) : Nat := if i = 2 then 0x10007400 else 0x50000100 + i * 0x1000000

/-! PU_CTRL (R446) -/
def PU_CTRL_out (n : Nat) : Fld := ⟨0x50000000 + n * 0x1000000, 0, 1, 0, .rw⟩

/-! PU_STATUS (R446) -/
def PU_STATUS_role (n : Nat) : Fld := ⟨0x50000004 + n * 0x1000000, 30, 2, 0, .ro⟩
def PU_STATUS_feed_ok (n : Nat) : Fld := ⟨0x50000004 + n * 0x1000000, 29, 1, 0, .ro⟩
def PU_STATUS_arb_lost (n : Nat) : Fld := ⟨0x50000004 + n * 0x1000000, 28, 1, 0, .ro⟩
def PU_STATUS_peer_lost (n : Nat) : Fld := ⟨0x50000004 + n * 0x1000000, 27, 1, 0, .ro⟩
def PU_STATUS_cause (n : Nat) : Fld := ⟨0x50000004 + n * 0x1000000, 8, 4, 0, .ro⟩
def PU_STATUS_fault (n : Nat) : Fld := ⟨0x50000004 + n * 0x1000000, 6, 1, 0, .w1c⟩
def PU_STATUS_refused (n : Nat) : Fld := ⟨0x50000004 + n * 0x1000000, 5, 1, 0, .w1c⟩
def PU_STATUS_temp_warn (n : Nat) : Fld := ⟨0x50000004 + n * 0x1000000, 4, 1, 0, .w1c⟩
def PU_STATUS_feed_event (n : Nat) : Fld := ⟨0x50000004 + n * 0x1000000, 3, 1, 0, .w1c⟩
def PU_STATUS_overrun (n : Nat) : Fld := ⟨0x50000004 + n * 0x1000000, 2, 1, 0, .w1c⟩

/-! PU_MEAS (R446) -/
def PU_MEAS_vmid (n : Nat) : Fld := ⟨0x50000008 + n * 0x1000000, 16, 16, 0, .ro⟩
def PU_MEAS_vfeed (n : Nat) : Fld := ⟨0x50000008 + n * 0x1000000, 0, 16, 0, .ro⟩

/-! PU_MEAS2 (R446) -/
def PU_MEAS2_iin (n : Nat) : Fld := ⟨0x5000000c + n * 0x1000000, 16, 16, 0, .ro⟩
def PU_MEAS2_temp (n : Nat) : Fld := ⟨0x5000000c + n * 0x1000000, 8, 8, 0, .ro⟩

/-! PU_CNT (R446) -/
def PU_CNT_feed_drop (n : Nat) : Fld := ⟨0x50000010 + n * 0x1000000, 24, 8, 0, .rc⟩
def PU_CNT_faults (n : Nat) : Fld := ⟨0x50000010 + n * 0x1000000, 16, 8, 0, .rc⟩
def PU_CNT_oc_cycles (n : Nat) : Fld := ⟨0x50000010 + n * 0x1000000, 0, 16, 0, .rc⟩

/-! LE_CTRL (R447) -/
def LE_CTRL_closed (i : Nat) : Fld := ⟨leBase i, 31, 1, 0, .ro⟩
def LE_CTRL_host_in_force (i : Nat) : Fld := ⟨leBase i, 30, 1, 0, .ro⟩
def LE_CTRL_host_valid (i : Nat) : Fld := ⟨leBase i, 29, 1, 0, .ro⟩
def LE_CTRL_use_host (i : Nat) : Fld := ⟨leBase i, 2, 1, 0, .rw⟩
def LE_CTRL_commit (i : Nat) : Fld := ⟨leBase i, 0, 1, 0, .wo⟩

/-! LE_REF (R447) -/
def LE_REF_r (i : Nat) : Fld := ⟨leBase i + 0x4, 0, 16, (if i = 2 then 0x0 else 0x2710), .rw⟩

/-! LE_LIM (R447) -/
def LE_LIM_u_max (i : Nat) : Fld := ⟨leBase i + 0x8, 16, 16, (if i = 2 then 0x8064 else 0xe666), .rw⟩
def LE_LIM_u_min (i : Nat) : Fld := ⟨leBase i + 0x8, 0, 16, (if i = 2 then 0x7f9c else 0x666), .rw⟩

/-! LE_FERR (R447) -/
def LE_FERR_t_lim (i : Nat) : Fld := ⟨leBase i + 0xc, 16, 16, (if i = 2 then 0x1388 else 0xc8), .rw⟩
def LE_FERR_e_lim (i : Nat) : Fld := ⟨leBase i + 0xc, 0, 16, (if i = 2 then 0x100 else 0x1f4), .rw⟩

/-! LE_KP (R447) -/
def LE_KP_k (i : Nat) : Fld := ⟨leBase i + 0x10, 0, 24, (if i = 2 then 0x0 else 0x80000), .rw⟩

/-! LE_KI (R447) -/
def LE_KI_k (i : Nat) : Fld := ⟨leBase i + 0x14, 0, 24, (if i = 2 then 0x4000 else 0x28f6), .rw⟩

/-! LE_KD (R447) -/
def LE_KD_k (i : Nat) : Fld := ⟨leBase i + 0x18, 0, 24, 0, .rw⟩

/-! LE_KFF (R447) -/
def LE_KFF_k (i : Nat) : Fld := ⟨leBase i + 0x1c, 0, 24, (if i = 2 then 0x0 else 0x40000), .rw⟩

/-! LE_DFILT (R447) -/
def LE_DFILT_a (i : Nat) : Fld := ⟨leBase i + 0x20, 0, 16, 0, .rw⟩

/-! LE_OUT (R447) -/
def LE_OUT_sat (i : Nat) : Fld := ⟨leBase i + 0x24, 31, 1, 0, .ro⟩
def LE_OUT_u (i : Nat) : Fld := ⟨leBase i + 0x24, 0, 16, 0, .ro⟩

/-! LE_INT_LO (R447) -/
def LE_INT_LO_int (i : Nat) : Fld := ⟨leBase i + 0x28, 0, 32, 0, .ro⟩

/-! LE_INT_HI (R447) -/
def LE_INT_HI_int (i : Nat) : Fld := ⟨leBase i + 0x2c, 0, 8, 0, .ro⟩

/-! LE_CNT (R447) -/
def LE_CNT_overrun (i : Nat) : Fld := ⟨leBase i + 0x30, 16, 16, 0, .rc⟩
def LE_CNT_consec (i : Nat) : Fld := ⟨leBase i + 0x30, 0, 2, 0, .ro⟩

/-! LE_INJ_CTRL (R447) -/
def LE_INJ_CTRL_wave (i : Nat) : Fld := ⟨leBase i + 0x34, 30, 2, 0, .rw⟩
def LE_INJ_CTRL_point (i : Nat) : Fld := ⟨leBase i + 0x34, 29, 1, 0, .rw⟩
def LE_INJ_CTRL_hold (i : Nat) : Fld := ⟨leBase i + 0x34, 16, 8, 1, .rw⟩
def LE_INJ_CTRL_amp (i : Nat) : Fld := ⟨leBase i + 0x34, 0, 16, 0, .rw⟩

/-! LE_INJ_FREQ (R447) -/
def LE_INJ_FREQ_step (i : Nat) : Fld := ⟨leBase i + 0x38, 0, 16, 0, .rw⟩

/-! LE_CAP_CTRL (R447) -/
def LE_CAP_CTRL_len_m1 (i : Nat) : Fld := ⟨leBase i + 0x3c, 20, 12, 0xfff, .rw⟩
def LE_CAP_CTRL_decim (i : Nat) : Fld := ⟨leBase i + 0x3c, 16, 4, 0, .rw⟩
def LE_CAP_CTRL_sel (i : Nat) : Fld := ⟨leBase i + 0x3c, 0, 1, 0, .rw⟩

/-! LE_CAP_STATUS (R447) -/
def LE_CAP_STATUS_state (i : Nat) : Fld := ⟨leBase i + 0x40, 30, 2, 0, .ro⟩
def LE_CAP_STATUS_refused (i : Nat) : Fld := ⟨leBase i + 0x40, 16, 8, 0, .rc⟩
def LE_CAP_STATUS_count (i : Nat) : Fld := ⟨leBase i + 0x40, 0, 13, 0, .ro⟩

/-! SV_ARB_STATUS (R448) -/
def SV_ARB_STATUS_active : Fld := ⟨0x52000000, 31, 1, 0, .ro⟩
def SV_ARB_STATUS_a_role : Fld := ⟨0x52000000, 29, 2, 0, .ro⟩
def SV_ARB_STATUS_b_role : Fld := ⟨0x52000000, 27, 2, 0, .ro⟩
def SV_ARB_STATUS_phase : Fld := ⟨0x52000000, 24, 3, 0, .ro⟩
def SV_ARB_STATUS_sched : Fld := ⟨0x52000000, 23, 1, 0, .ro⟩
def SV_ARB_STATUS_overdue : Fld := ⟨0x52000000, 22, 1, 0, .ro⟩
def SV_ARB_STATUS_suspect : Fld := ⟨0x52000000, 21, 1, 0, .ro⟩
def SV_ARB_STATUS_copy_lost : Fld := ⟨0x52000000, 20, 1, 0, .ro⟩
def SV_ARB_STATUS_arb_fault : Fld := ⟨0x52000000, 19, 1, 0, .ro⟩
def SV_ARB_STATUS_bus : Fld := ⟨0x52000000, 16, 3, 0, .ro⟩
def SV_ARB_STATUS_restarts : Fld := ⟨0x52000000, 0, 4, 0, .ro⟩

/-! SV_ARB_CNT (R448) -/
def SV_ARB_CNT_swaps : Fld := ⟨0x52000004, 24, 8, 0, .ro⟩
def SV_ARB_CNT_refused : Fld := ⟨0x52000004, 16, 8, 0, .ro⟩
def SV_ARB_CNT_failovers : Fld := ⟨0x52000004, 8, 8, 0, .ro⟩
def SV_ARB_CNT_bus_fault : Fld := ⟨0x52000004, 0, 8, 0, .ro⟩

/-! SV_ARB_PERIOD (R448) -/
def SV_ARB_PERIOD_swap_now : Fld := ⟨0x52000008, 31, 1, 0, .wo⟩
def SV_ARB_PERIOD_period : Fld := ⟨0x52000008, 0, 17, 0x384, .rw⟩

/-! SV_ARB_TIMER (R448) -/
def SV_ARB_TIMER_remaining : Fld := ⟨0x5200000c, 0, 17, 0x384, .ro⟩

/-! SV_GUARD_STATUS (R467) -/
def SV_GUARD_STATUS_en_a : Fld := ⟨0x52000080, 31, 1, 0, .ro⟩
def SV_GUARD_STATUS_en_b : Fld := ⟨0x52000080, 30, 1, 0, .ro⟩
def SV_GUARD_STATUS_fb : Fld := ⟨0x52000080, 29, 1, 0, .ro⟩
def SV_GUARD_STATUS_closed : Fld := ⟨0x52000080, 28, 1, 0, .ro⟩
def SV_GUARD_STATUS_proof : Fld := ⟨0x52000080, 27, 1, 0, .ro⟩
def SV_GUARD_STATUS_state : Fld := ⟨0x52000080, 24, 2, 0, .ro⟩
def SV_GUARD_STATUS_ch_b : Fld := ⟨0x52000080, 23, 1, 0, .ro⟩
def SV_GUARD_STATUS_ch_a : Fld := ⟨0x52000080, 22, 1, 0, .ro⟩
def SV_GUARD_STATUS_chatter_b : Fld := ⟨0x52000080, 21, 1, 0, .ro⟩
def SV_GUARD_STATUS_chatter_a : Fld := ⟨0x52000080, 20, 1, 0, .ro⟩

/-! SV_GUARD_FAULT (R467) -/
def SV_GUARD_FAULT_clock : Fld := ⟨0x52000084, 8, 1, 0, .ro⟩
def SV_GUARD_FAULT_config : Fld := ⟨0x52000084, 7, 1, 0, .ro⟩
def SV_GUARD_FAULT_fb_enable : Fld := ⟨0x52000084, 6, 1, 0, .ro⟩
def SV_GUARD_FAULT_fb_disable : Fld := ⟨0x52000084, 5, 1, 0, .ro⟩
def SV_GUARD_FAULT_fb_unexpected : Fld := ⟨0x52000084, 4, 1, 0, .ro⟩
def SV_GUARD_FAULT_out_b : Fld := ⟨0x52000084, 3, 1, 0, .ro⟩
def SV_GUARD_FAULT_out_a : Fld := ⟨0x52000084, 2, 1, 0, .ro⟩
def SV_GUARD_FAULT_pulse_missing : Fld := ⟨0x52000084, 1, 1, 0, .ro⟩
def SV_GUARD_FAULT_discrepancy : Fld := ⟨0x52000084, 0, 1, 0, .ro⟩

/-! SV_GUARD_CFG (R467) -/
def SV_GUARD_CFG_straps_now : Fld := ⟨0x52000088, 8, 8, Config.straps.toNat, .ro⟩
def SV_GUARD_CFG_straps_pu : Fld := ⟨0x52000088, 0, 8, Config.straps.toNat, .ro⟩

/-! SV_GUARD_CNT (R467) -/
def SV_GUARD_CNT_shutdowns : Fld := ⟨0x5200008c, 24, 8, 0, .ro⟩
def SV_GUARD_CNT_abandoned : Fld := ⟨0x5200008c, 16, 8, 0, .ro⟩
def SV_GUARD_CNT_refused : Fld := ⟨0x5200008c, 8, 8, 0, .ro⟩
def SV_GUARD_CNT_faults : Fld := ⟨0x5200008c, 0, 8, 0, .ro⟩

/-! SV_GUARD_CMD (R467) -/
def SV_GUARD_CMD_enable : Fld := ⟨0x52000090, 31, 1, 0, .wo⟩
def SV_GUARD_CMD_disable : Fld := ⟨0x52000090, 30, 1, 0, .wo⟩

/-! CX_TILE_STATUS (R489) -/
def CX_TILE_STATUS_present : Fld := ⟨0x10007000, 31, 1, 0, .ro⟩
def CX_TILE_STATUS_id_state : Fld := ⟨0x10007000, 28, 3, 0, .ro⟩
def CX_TILE_STATUS_no_record : Fld := ⟨0x10007000, 27, 1, 0, .ro⟩
def CX_TILE_STATUS_warn : Fld := ⟨0x10007000, 26, 1, 0, .ro⟩
def CX_TILE_STATUS_end : Fld := ⟨0x10007000, 25, 1, 0, .ro⟩
def CX_TILE_STATUS_id_err : Fld := ⟨0x10007000, 3, 1, 0, .w1c⟩
def CX_TILE_STATUS_i2c_err : Fld := ⟨0x10007000, 2, 1, 0, .w1c⟩
def CX_TILE_STATUS_life_event : Fld := ⟨0x10007000, 1, 1, 0, .w1c⟩
def CX_TILE_STATUS_presence : Fld := ⟨0x10007000, 0, 1, 0, .w1c⟩

/-! CX_TILE_SERIAL_LO (R489) -/
def CX_TILE_SERIAL_LO_serial : Fld := ⟨0x10007004, 0, 32, 0, .ro⟩

/-! CX_TILE_SERIAL_HI (R489) -/
def CX_TILE_SERIAL_HI_serial : Fld := ⟨0x10007008, 0, 32, 0, .ro⟩

/-! CX_TILE_KIND (R489) -/
def CX_TILE_KIND_kind : Fld := ⟨0x1000700c, 24, 8, 0, .ro⟩
def CX_TILE_KIND_pad_count : Fld := ⟨0x1000700c, 0, 11, 0, .ro⟩

/-! CX_TILE_RATED_HITS (R489) -/
def CX_TILE_RATED_HITS_value : Fld := ⟨0x10007010, 0, 32, 0, .ro⟩

/-! CX_TILE_RATED_Q (R489) -/
def CX_TILE_RATED_Q_value : Fld := ⟨0x10007014, 0, 32, 0, .ro⟩

/-! CX_TILE_RATED_DOSE (R489) -/
def CX_TILE_RATED_DOSE_value : Fld := ⟨0x10007018, 0, 32, 0, .ro⟩

/-! CX_TILE_EXP_CTRL (R489) -/
def CX_TILE_EXP_CTRL_snap : Fld := ⟨0x1000701c, 0, 1, 0, .wo⟩

/-! CX_TILE_EXP_HITS_LO (R489) -/
def CX_TILE_EXP_HITS_LO_hits : Fld := ⟨0x10007020, 0, 32, 0, .ro⟩

/-! CX_TILE_EXP_HITS_HI (R489) -/
def CX_TILE_EXP_HITS_HI_hits : Fld := ⟨0x10007024, 0, 32, 0, .ro⟩

/-! CX_TILE_EXP_Q (R489) -/
def CX_TILE_EXP_Q_value : Fld := ⟨0x10007028, 0, 32, 0, .ro⟩

/-! CX_TILE_EXP_DOSE (R489) -/
def CX_TILE_EXP_DOSE_value : Fld := ⟨0x1000702c, 0, 32, 0, .ro⟩

/-! CX_TILE_LIFE (R489) -/
def CX_TILE_LIFE_frac : Fld := ⟨0x10007030, 16, 16, 0, .ro⟩
def CX_TILE_LIFE_hold : Fld := ⟨0x10007030, 15, 1, 0, .ro⟩
def CX_TILE_LIFE_next : Fld := ⟨0x10007030, 0, 4, 0, .ro⟩

/-! CX_TILE_I2C_CTRL (R489) -/
def CX_TILE_I2C_CTRL_go : Fld := ⟨0x10007040, 31, 1, 0, .wo⟩
def CX_TILE_I2C_CTRL_state : Fld := ⟨0x10007040, 28, 3, 0, .ro⟩
def CX_TILE_I2C_CTRL_op : Fld := ⟨0x10007040, 21, 1, 0, .rw⟩
def CX_TILE_I2C_CTRL_len_m1 : Fld := ⟨0x10007040, 16, 5, 0, .rw⟩
def CX_TILE_I2C_CTRL_addr : Fld := ⟨0x10007040, 0, 16, 0, .rw⟩

/-! CX_TILE_I2C_BUF (R489) -/
def CX_TILE_I2C_BUF_data (i : Nat) : Fld := ⟨0x10007060 + i * 0x4, 0, 32, 0, .rw⟩

/-! CX_TILE_PADMAP (R489) -/
def CX_TILE_PADMAP_present (i : Nat) : Fld := ⟨0x10007100 + i * 0x4, 0, 32, 0, .ro⟩

/-! CX_LE_SEL (R489) -/
def CX_LE_SEL_loop : Fld := ⟨0x10007480, 0, 7, 0, .rw⟩

/-! CX_LE_STATUS (R489) -/
def CX_LE_STATUS_parity : Fld := ⟨0x10007484, 2, 1, 0, .w1c⟩
def CX_LE_STATUS_loop_fault : Fld := ⟨0x10007484, 1, 1, 0, .w1c⟩
def CX_LE_STATUS_refused : Fld := ⟨0x10007484, 0, 1, 0, .w1c⟩

/-! CX_LE_LOOP (R489) -/
def CX_LE_LOOP_en (i : Nat) : Fld := ⟨0x10007600 + i * 0x8, 31, 1, 0, .rw⟩
def CX_LE_LOOP_therm (i : Nat) : Fld := ⟨0x10007600 + i * 0x8, 16, 3, 0, .rw⟩
def CX_LE_LOOP_target (i : Nat) : Fld := ⟨0x10007600 + i * 0x8, 0, 12, 0, .rw⟩

/-! CX_LE_LOOPSTAT (R489) -/
def CX_LE_LOOPSTAT_cause (i : Nat) : Fld := ⟨0x10007604 + i * 0x8, 29, 3, 0, .ro⟩
def CX_LE_LOOPSTAT_stale (i : Nat) : Fld := ⟨0x10007604 + i * 0x8, 28, 1, 0, .ro⟩
def CX_LE_LOOPSTAT_y (i : Nat) : Fld := ⟨0x10007604 + i * 0x8, 12, 12, 0, .ro⟩
def CX_LE_LOOPSTAT_delta (i : Nat) : Fld := ⟨0x10007604 + i * 0x8, 0, 12, 0, .ro⟩

/-! MG_CTRL (R516) -/
def MG_CTRL_restart : Fld := ⟨0x1000c000, 31, 1, 0, .wo⟩
def MG_CTRL_halt : Fld := ⟨0x1000c000, 30, 1, 0, .wo⟩
def MG_CTRL_auto : Fld := ⟨0x1000c000, 0, 1, 0, .rw⟩

/-! MG_STATUS (R516) -/
def MG_STATUS_state : Fld := ⟨0x1000c004, 28, 4, 0, .ro⟩
def MG_STATUS_cause : Fld := ⟨0x1000c004, 24, 4, 0, .ro⟩
def MG_STATUS_active_half : Fld := ⟨0x1000c004, 23, 1, 0, .ro⟩
def MG_STATUS_restarts : Fld := ⟨0x1000c004, 16, 4, 0, .ro⟩
def MG_STATUS_evq_lost : Fld := ⟨0x1000c004, 9, 1, 0, .w1c⟩
def MG_STATUS_refused : Fld := ⟨0x1000c004, 8, 1, 0, .w1c⟩
def MG_STATUS_halts : Fld := ⟨0x1000c004, 0, 8, 0, .rc⟩

/-! MG_IMG_LEN (R516) -/
def MG_IMG_LEN_len : Fld := ⟨0x1000c008, 0, 18, 0, .rw⟩

/-! MG_IMG_CRC (R516) -/
def MG_IMG_CRC_crc : Fld := ⟨0x1000c00c, 0, 32, 0, .rw⟩

/-! MG_IMG_CTRL (R516) -/
def MG_IMG_CTRL_switch : Fld := ⟨0x1000c010, 31, 1, 0, .wo⟩
def MG_IMG_CTRL_force : Fld := ⟨0x1000c010, 30, 1, 0, .wo⟩
def MG_IMG_CTRL_ready : Fld := ⟨0x1000c010, 29, 1, 0, .wo⟩
def MG_IMG_CTRL_state : Fld := ⟨0x1000c010, 24, 3, 0, .ro⟩
def MG_IMG_CTRL_timeout : Fld := ⟨0x1000c010, 0, 16, 0x64, .rw⟩

/-! MG_WDOG (R516) -/
def MG_WDOG_kick : Fld := ⟨0x1000c014, 31, 1, 0, .wo⟩
def MG_WDOG_period : Fld := ⟨0x1000c014, 0, 16, 0, .rw⟩

/-! MG_UPTIME_LO (R516) -/
def MG_UPTIME_LO_us : Fld := ⟨0x1000c018, 0, 32, 0, .ro⟩

/-! MG_UPTIME_HI (R516) -/
def MG_UPTIME_HI_us : Fld := ⟨0x1000c01c, 0, 32, 0, .ro⟩

/-! MG_MTIMECMP_LO (R516) -/
def MG_MTIMECMP_LO_cmp : Fld := ⟨0x1000c020, 0, 32, 0xffffffff, .rw⟩

/-! MG_MTIMECMP_HI (R516) -/
def MG_MTIMECMP_HI_cmp : Fld := ⟨0x1000c024, 0, 32, 0xffffffff, .rw⟩

/-! MG_EV_HOSTEN (R516) -/
def MG_EV_HOSTEN_en (i : Nat) : Fld := ⟨0x1000c100 + i * 0x4, 0, 32, 0xffffffff, .rw⟩

/-! MG_EV_IRQEN (R516) -/
def MG_EV_IRQEN_en (i : Nat) : Fld := ⟨0x1000c140 + i * 0x4, 0, 32, 0, .rw⟩

/-! MG_EV_LOGEN (R516) -/
def MG_EV_LOGEN_en (i : Nat) : Fld := ⟨0x1000c180 + i * 0x4, 0, 32, 0xffffffff, .rw⟩

/-! MG_EV_PEND (R516) -/
def MG_EV_PEND_pend (i : Nat) : Fld := ⟨0x1000c1c0 + i * 0x4, 0, 32, 0, .w1c⟩

/-! MG_EV_CLAIM (R516) -/
def MG_EV_CLAIM_valid : Fld := ⟨0x1000c200, 31, 1, 0, .ro⟩
def MG_EV_CLAIM_source : Fld := ⟨0x1000c200, 0, 9, 0, .ro⟩

/-! MG_EVQ_LO (R516) -/
def MG_EVQ_LO_entry : Fld := ⟨0x1000c204, 0, 32, 0, .ro⟩

/-! MG_EVQ_HI (R516) -/
def MG_EVQ_HI_entry : Fld := ⟨0x1000c208, 0, 32, 0, .ro⟩

/-! MG_EVQ_STAT (R516) -/
def MG_EVQ_STAT_lost : Fld := ⟨0x1000c20c, 24, 8, 0, .rc⟩
def MG_EVQ_STAT_bad : Fld := ⟨0x1000c20c, 16, 8, 0, .rc⟩
def MG_EVQ_STAT_count : Fld := ⟨0x1000c20c, 0, 13, 0, .ro⟩

/-! MG_EVLOG (R516) -/
def MG_EVLOG_merged : Fld := ⟨0x1000c210, 16, 16, 0, .rc⟩
def MG_EVLOG_wp : Fld := ⟨0x1000c210, 0, 12, 0, .ro⟩

/-! MG_DMA_SRC (R516) -/
def MG_DMA_SRC_addr (i : Nat) : Fld := ⟨0x1000c300 + i * 0x10, 2, 30, 0, .rw⟩

/-! MG_DMA_DST (R516) -/
def MG_DMA_DST_addr (i : Nat) : Fld := ⟨0x1000c304 + i * 0x10, 2, 30, 0, .rw⟩

/-! MG_DMA_LEN (R516) -/
def MG_DMA_LEN_bytes (i : Nat) : Fld := ⟨0x1000c308 + i * 0x10, 0, 18, 0, .rw⟩

/-! MG_DMA_CTRL (R516) -/
def MG_DMA_CTRL_go (i : Nat) : Fld := ⟨0x1000c30c + i * 0x10, 31, 1, 0, .wo⟩
def MG_DMA_CTRL_abort (i : Nat) : Fld := ⟨0x1000c30c + i * 0x10, 30, 1, 0, .wo⟩
def MG_DMA_CTRL_state (i : Nat) : Fld := ⟨0x1000c30c + i * 0x10, 28, 2, 0, .ro⟩
def MG_DMA_CTRL_err (i : Nat) : Fld := ⟨0x1000c30c + i * 0x10, 24, 4, 0, .ro⟩
def MG_DMA_CTRL_dst_inc (i : Nat) : Fld := ⟨0x1000c30c + i * 0x10, 1, 1, 1, .rw⟩
def MG_DMA_CTRL_src_inc (i : Nat) : Fld := ⟨0x1000c30c + i * 0x10, 0, 1, 1, .rw⟩

/-! HK_CTRL (R517) -/
def HK_CTRL_cal : Fld := ⟨0x1000d000, 31, 1, 0, .wo⟩
def HK_CTRL_ref_en : Fld := ⟨0x1000d000, 0, 1, 0, .rw⟩

/-! HK_STATUS (R517) -/
def HK_STATUS_calibrating : Fld := ⟨0x1000d004, 31, 1, 0, .ro⟩
def HK_STATUS_ref_ready : Fld := ⟨0x1000d004, 30, 1, 0, .ro⟩
def HK_STATUS_inj_q : Fld := ⟨0x1000d004, 24, 3, 0, .ro⟩
def HK_STATUS_inj_next : Fld := ⟨0x1000d004, 22, 2, 0, .ro⟩
def HK_STATUS_seq : Fld := ⟨0x1000d004, 5, 8, 0, .ro⟩
def HK_STATUS_refused : Fld := ⟨0x1000d004, 4, 1, 0, .w1c⟩
def HK_STATUS_buf_ovr : Fld := ⟨0x1000d004, 3, 1, 0, .w1c⟩
def HK_STATUS_ref_nr : Fld := ⟨0x1000d004, 2, 1, 0, .w1c⟩
def HK_STATUS_inj_drop : Fld := ⟨0x1000d004, 1, 1, 0, .w1c⟩
def HK_STATUS_cal_done : Fld := ⟨0x1000d004, 0, 1, 0, .w1c⟩

/-! HK_REG_CTRL (R517) -/
def HK_REG_CTRL_en : Fld := ⟨0x1000d008, 31, 1, 0, .rw⟩
def HK_REG_CTRL_len_m1 : Fld := ⟨0x1000d008, 16, 6, 0, .rw⟩
def HK_REG_CTRL_period : Fld := ⟨0x1000d008, 0, 16, 0x3e8, .rw⟩

/-! HK_INJ (R517) -/
def HK_INJ_go : Fld := ⟨0x1000d00c, 31, 1, 0, .wo⟩
def HK_INJ_input : Fld := ⟨0x1000d00c, 0, 6, 0, .rw⟩

/-! HK_CAL (R517) -/
def HK_CAL_gain : Fld := ⟨0x1000d010, 16, 16, 0x8000, .rw⟩
def HK_CAL_offset : Fld := ⟨0x1000d010, 0, 16, 0, .rw⟩

/-! HK_BUF_BASE (R517) -/
def HK_BUF_BASE_addr : Fld := ⟨0x1000d014, 0, 32, 0x40040000, .rw⟩

/-! HK_BUF_SIZE (R517) -/
def HK_BUF_SIZE_size : Fld := ⟨0x1000d018, 0, 15, 0x400, .rw⟩

/-! HK_BUF_WP (R517) -/
def HK_BUF_WP_wp : Fld := ⟨0x1000d01c, 0, 14, 0, .ro⟩

/-! HK_BUF_RP (R517) -/
def HK_BUF_RP_rp : Fld := ⟨0x1000d020, 0, 14, 0, .rw⟩

/-! HK_CNT (R517) -/
def HK_CNT_overrun : Fld := ⟨0x1000d024, 16, 16, 0, .rc⟩
def HK_CNT_dropped : Fld := ⟨0x1000d024, 8, 8, 0, .rc⟩
def HK_CNT_late : Fld := ⟨0x1000d024, 4, 4, 0, .rc⟩
def HK_CNT_nr : Fld := ⟨0x1000d024, 0, 4, 0, .rc⟩

/-! HK_INJ_RES (R517) -/
def HK_INJ_RES_result (i : Nat) : Fld := ⟨0x1000d040 + i * 0x4, 0, 32, 0, .ro⟩

/-! HK_LAST (R517) -/
def HK_LAST_result (i : Nat) : Fld := ⟨0x1000d200 + i * 0x4, 0, 32, 0, .ro⟩

/-! CX_ACQ_CTRL (R538) -/
def CX_ACQ_CTRL_start : Fld := ⟨0x1000e000, 31, 1, 0, .wo⟩
def CX_ACQ_CTRL_stop : Fld := ⟨0x1000e000, 30, 1, 0, .wo⟩

/-! CX_ACQ_STATUS (R538) -/
def CX_ACQ_STATUS_state : Fld := ⟨0x1000e004, 30, 2, 0, .ro⟩
def CX_ACQ_STATUS_drained : Fld := ⟨0x1000e004, 29, 1, 1, .ro⟩
def CX_ACQ_STATUS_refused : Fld := ⟨0x1000e004, 8, 1, 0, .w1c⟩
def CX_ACQ_STATUS_cause : Fld := ⟨0x1000e004, 0, 4, 0, .ro⟩

/-! CX_ACQ_ORBIT (R538) -/
def CX_ACQ_ORBIT_orbit : Fld := ⟨0x1000e008, 0, 32, 0, .ro⟩

/-! CX_FE_SVC (R538) -/
def CX_FE_SVC_now2 : Fld := ⟨0x1000e00c, 12, 2, 0, .ro⟩
def CX_FE_SVC_now1 : Fld := ⟨0x1000e00c, 10, 2, 0, .ro⟩
def CX_FE_SVC_now0 : Fld := ⟨0x1000e00c, 8, 2, 0, .ro⟩
def CX_FE_SVC_fe2 : Fld := ⟨0x1000e00c, 4, 2, 0, .rw⟩
def CX_FE_SVC_fe1 : Fld := ⟨0x1000e00c, 2, 2, 0, .rw⟩
def CX_FE_SVC_fe0 : Fld := ⟨0x1000e00c, 0, 2, 0, .rw⟩

/-! CX_ASSAY_CTRL (R538) -/
def CX_ASSAY_CTRL_go : Fld := ⟨0x1000e010, 31, 1, 0, .wo⟩
def CX_ASSAY_CTRL_abort : Fld := ⟨0x1000e010, 30, 1, 0, .wo⟩
def CX_ASSAY_CTRL_block : Fld := ⟨0x1000e010, 8, 4, 0, .rw⟩
def CX_ASSAY_CTRL_index : Fld := ⟨0x1000e010, 0, 6, 0, .rw⟩

/-! CX_ASSAY_STATUS (R538) -/
def CX_ASSAY_STATUS_state : Fld := ⟨0x1000e014, 30, 2, 0, .ro⟩
def CX_ASSAY_STATUS_verdict : Fld := ⟨0x1000e014, 29, 1, 0, .ro⟩
def CX_ASSAY_STATUS_refused : Fld := ⟨0x1000e014, 28, 1, 0, .w1c⟩
def CX_ASSAY_STATUS_cause : Fld := ⟨0x1000e014, 24, 4, 0, .ro⟩
def CX_ASSAY_STATUS_ms : Fld := ⟨0x1000e014, 0, 16, 0, .ro⟩

/-! CX_ASSAY_RESULT (R538) -/
def CX_ASSAY_RESULT_part : Fld := ⟨0x1000e018, 28, 4, 0, .ro⟩
def CX_ASSAY_RESULT_fails : Fld := ⟨0x1000e018, 20, 8, 0, .ro⟩
def CX_ASSAY_RESULT_first : Fld := ⟨0x1000e018, 0, 20, 0, .ro⟩

/-! CX_STATUS_SUM (R552) -/
def CX_STATUS_SUM_ct_err : Fld := ⟨0x1000f008, 26, 1, 0, .ro⟩
def CX_STATUS_SUM_sv_arb : Fld := ⟨0x1000f008, 25, 1, 0, .ro⟩
def CX_STATUS_SUM_sv_guard : Fld := ⟨0x1000f008, 24, 1, 0, .ro⟩
def CX_STATUS_SUM_ovn : Fld := ⟨0x1000f008, 23, 1, 0, .ro⟩
def CX_STATUS_SUM_pu_b : Fld := ⟨0x1000f008, 22, 1, 0, .ro⟩
def CX_STATUS_SUM_pu_a : Fld := ⟨0x1000f008, 21, 1, 0, .ro⟩
def CX_STATUS_SUM_hs1 : Fld := ⟨0x1000f008, 20, 1, 0, .ro⟩
def CX_STATUS_SUM_hs0 : Fld := ⟨0x1000f008, 19, 1, 0, .ro⟩
def CX_STATUS_SUM_fe2 : Fld := ⟨0x1000f008, 18, 1, 0, .ro⟩
def CX_STATUS_SUM_fe1 : Fld := ⟨0x1000f008, 17, 1, 0, .ro⟩
def CX_STATUS_SUM_fe0 : Fld := ⟨0x1000f008, 16, 1, 0, .ro⟩
def CX_STATUS_SUM_assay : Fld := ⟨0x1000f008, 13, 1, 0, .ro⟩
def CX_STATUS_SUM_acq : Fld := ⟨0x1000f008, 12, 1, 0, .ro⟩
def CX_STATUS_SUM_hk : Fld := ⟨0x1000f008, 11, 1, 0, .ro⟩
def CX_STATUS_SUM_mg : Fld := ⟨0x1000f008, 10, 1, 0, .ro⟩
def CX_STATUS_SUM_le : Fld := ⟨0x1000f008, 9, 1, 0, .ro⟩
def CX_STATUS_SUM_tile : Fld := ⟨0x1000f008, 8, 1, 0, .ro⟩
def CX_STATUS_SUM_prot : Fld := ⟨0x1000f008, 7, 1, 0, .ro⟩
def CX_STATUS_SUM_lanes : Fld := ⟨0x1000f008, 6, 1, 0, .ro⟩
def CX_STATUS_SUM_fb : Fld := ⟨0x1000f008, 5, 1, 0, .ro⟩
def CX_STATUS_SUM_str : Fld := ⟨0x1000f008, 4, 1, 0, .ro⟩
def CX_STATUS_SUM_rc : Fld := ⟨0x1000f008, 3, 1, 0, .ro⟩
def CX_STATUS_SUM_tg : Fld := ⟨0x1000f008, 2, 1, 0, .ro⟩
def CX_STATUS_SUM_hq : Fld := ⟨0x1000f008, 1, 1, 0, .ro⟩
def CX_STATUS_SUM_cx : Fld := ⟨0x1000f008, 0, 1, 0, .ro⟩

/-! CX_CT_ERR_ADDR (R553) -/
def CX_CT_ERR_ADDR_addr : Fld := ⟨0x1000f000, 0, 32, 0, .ro⟩

/-! CX_CT_ERR (R553) -/
def CX_CT_ERR_err : Fld := ⟨0x1000f004, 31, 1, 0, .w1c⟩
def CX_CT_ERR_count : Fld := ⟨0x1000f004, 16, 15, 0, .rc⟩
def CX_CT_ERR_path : Fld := ⟨0x1000f004, 12, 2, 0, .ro⟩
def CX_CT_ERR_status : Fld := ⟨0x1000f004, 8, 4, 0, .ro⟩
def CX_CT_ERR_block : Fld := ⟨0x1000f004, 0, 8, 0, .ro⟩

/-! HK_SEQ (R517) -/
def HK_SEQ_slot0 (i : Nat) : Fld := ⟨0x1000d100 + i * 0x4, 0, 6, 0, .rw⟩
def HK_SEQ_slot1 (i : Nat) : Fld := ⟨0x1000d100 + i * 0x4, 8, 6, 0, .rw⟩
def HK_SEQ_slot2 (i : Nat) : Fld := ⟨0x1000d100 + i * 0x4, 16, 6, 0, .rw⟩
def HK_SEQ_slot3 (i : Nat) : Fld := ⟨0x1000d100 + i * 0x4, 24, 6, 0, .rw⟩

end Sys2Proof.Machine
end

