-- ==== Sys2Proof/Machine/RegTable.lean ====
section
/-! DEFINITION. The register map: every register with its address pattern and its fields (R15, R540, R541). -/

namespace Sys2Proof.Machine

/-- Registers of group A, part 0. -/
def regRowsA0 : List RegRow := [
  ⟨"CX_DEVICE_ID", 0x10000000, [], fun _ => [CX_DEVICE_ID_part, CX_DEVICE_ID_variant, CX_DEVICE_ID_stepping]⟩,
  ⟨"CX_QUIET_DEFER", 0x10000044, [], fun _ => [CX_QUIET_DEFER_count, CX_QUIET_DEFER_last]⟩,
  ⟨"CX_PENDING_ENABLE", 0x10000040, [], fun _ => [CX_PENDING_ENABLE_discarded, CX_PENDING_ENABLE_fe, CX_PENDING_ENABLE_quad]⟩,
  ⟨"SV_PENDING_ENABLE", 0x52000040, [], fun _ => [SV_PENDING_ENABLE_discarded, SV_PENDING_ENABLE_module, SV_PENDING_ENABLE_bias, SV_PENDING_ENABLE_pu_b, SV_PENDING_ENABLE_pu_a]⟩,
  ⟨"CX_ARCH_STATUS", 0x10000048, [], fun _ => [CX_ARCH_STATUS_mgmt_backup, CX_ARCH_STATUS_ref_lost]⟩,
  ⟨"CX_PLATE_CTRL", 0x10000080, [], fun _ => [CX_PLATE_CTRL_abort, CX_PLATE_CTRL_commit, CX_PLATE_CTRL_open]⟩,
  ⟨"CX_PLATE_STATUS", 0x10000084, [], fun _ => [CX_PLATE_STATUS_bad_frames, CX_PLATE_STATUS_err, CX_PLATE_STATUS_state]⟩,
  ⟨"CX_PLATE_FCRC", 0x10000088, [], fun _ => [CX_PLATE_FCRC_frame, CX_PLATE_FCRC_crc]⟩,
  ⟨"CX_PLATE_ERR_FRAME", 0x1000008c, [], fun _ => [CX_PLATE_ERR_FRAME_check, CX_PLATE_ERR_FRAME_frame]⟩,
  ⟨"CX_PLATE_STAGE_CRC", 0x10000098, [(4, 0x4)], fun ix => match ix with | [i] => [CX_PLATE_STAGE_CRC_crc_odd i, CX_PLATE_STAGE_CRC_crc_even i] | _ => []⟩,
  ⟨"CX_PLATE_RELOAD", 0x10000094, [], fun _ => [CX_PLATE_RELOAD_state, CX_PLATE_RELOAD_err, CX_PLATE_RELOAD_go_refused, CX_PLATE_RELOAD_cancel, CX_PLATE_RELOAD_go, CX_PLATE_RELOAD_count, CX_PLATE_RELOAD_first]⟩,
  ⟨"CX_PLATE_QUAR", 0x100000a8, [], fun _ => [CX_PLATE_QUAR_count, CX_PLATE_QUAR_last_cause, CX_PLATE_QUAR_last_frame]⟩,
  ⟨"CX_MT_ORBIT_LEN", 0x10000108, [], fun _ => [CX_MT_ORBIT_LEN_refused, CX_MT_ORBIT_LEN_nb_m1]⟩,
  ⟨"CX_MT_CTRL", 0x10000100, [], fun _ => [CX_MT_CTRL_load, CX_MT_CTRL_snap, CX_MT_CTRL_src_sel]⟩,
  ⟨"CX_MT_SNAP_ORBIT", 0x10000110, [], fun _ => [CX_MT_SNAP_ORBIT_orbit]⟩,
  ⟨"CX_MT_SNAP_BT", 0x10000114, [], fun _ => [CX_MT_SNAP_BT_valid, CX_MT_SNAP_BT_bucket, CX_MT_SNAP_BT_tick]⟩,
  ⟨"CX_MT_ORBIT_ERR", 0x10000120, [], fun _ => [CX_MT_ORBIT_ERR_count, CX_MT_ORBIT_ERR_last_offset]⟩,
  ⟨"CX_MT_STATUS", 0x10000104, [], fun _ => [CX_MT_STATUS_mt_valid, CX_MT_STATUS_qualified, CX_MT_STATUS_unresolved, CX_MT_STATUS_holdover, CX_MT_STATUS_src_lane, CX_MT_STATUS_src, CX_MT_STATUS_cause, CX_MT_STATUS_state]⟩,
  ⟨"CX_MT_SLEW", 0x1000011c, [], fun _ => [CX_MT_SLEW_rate]⟩,
  ⟨"CX_FU_CTRL", 0x10000140, [], fun _ => [CX_FU_CTRL_resid_lim, CX_FU_CTRL_gate_ms]⟩,
  ⟨"CX_FU_RATIO_HI", 0x10000144, [], fun _ => [CX_FU_RATIO_HI_valid, CX_FU_RATIO_HI_ratio_hi]⟩,
  ⟨"CX_FU_RATIO_LO", 0x10000148, [], fun _ => [CX_FU_RATIO_LO_ratio_lo]⟩,
  ⟨"CX_FU_STATUS", 0x1000014c, [], fun _ => [CX_FU_STATUS_rejected, CX_FU_STATUS_resid]⟩,
  ⟨"OVN_STATUS", 0x53000000, [], fun _ => [OVN_STATUS_ready, OVN_STATUS_heater_fault, OVN_STATUS_ready_age, OVN_STATUS_warm_s, OVN_STATUS_heater]⟩]

/-- Registers of group A, part 1. -/
def regRowsA1 : List RegRow := [
  ⟨"CX_CAL_CTRL", 0x10001000, [(256, 0x10)], fun ix => match ix with | [i] => [CX_CAL_CTRL_enable i, CX_CAL_CTRL_action i, CX_CAL_CTRL_argument i] | _ => []⟩,
  ⟨"CX_CAL_TIME", 0x10001004, [(256, 0x10)], fun ix => match ix with | [i] => [CX_CAL_TIME_coarse i, CX_CAL_TIME_bucket i] | _ => []⟩,
  ⟨"CX_CAL_OMASK", 0x10001008, [(256, 0x10)], fun ix => match ix with | [i] => [CX_CAL_OMASK_mask i] | _ => []⟩,
  ⟨"CX_CAL_OVAL", 0x1000100c, [(256, 0x10)], fun ix => match ix with | [i] => [CX_CAL_OVAL_value i] | _ => []⟩,
  ⟨"CX_CAL_EN", 0x10000200, [], fun _ => [CX_CAL_EN_enable, CX_CAL_EN_missed]⟩,
  ⟨"CX_QUIET_WIN", 0x10000220, [(8, 0x4)], fun ix => match ix with | [i] => [CX_QUIET_WIN_last i, CX_QUIET_WIN_first i] | _ => []⟩,
  ⟨"CX_QUIET_STATUS", 0x10000240, [], fun _ => [CX_QUIET_STATUS_in_window, CX_QUIET_STATUS_invalid]⟩,
  ⟨"FE_CTRL", 0x20000000, [(3, 0x1000000)], fun ix => match ix with | [n] => [FE_CTRL_die_mask n] | _ => []⟩,
  ⟨"FE_STATUS", 0x20000004, [(3, 0x1000000)], fun ix => match ix with | [n] => [FE_STATUS_inj_dropped n, FE_STATUS_inj_coinc n, FE_STATUS_bypass_discard n, FE_STATUS_recov_lost n, FE_STATUS_derand_ovf n, FE_STATUS_automask n] | _ => []⟩,
  ⟨"FE_GUARD", 0x20000010, [(3, 0x1000000)], fun ix => match ix with | [n] => [FE_GUARD_rate_lim n, FE_GUARD_rate_win n, FE_GUARD_stuck_lim n] | _ => []⟩,
  ⟨"FE_INJ_CTRL", 0x20000020, [(3, 0x1000000)], fun ix => match ix with | [n] => [FE_INJ_CTRL_fine n] | _ => []⟩,
  ⟨"FE_INJ_SET", 0x20000040, [(3, 0x1000000), (16, 0x4)], fun ix => match ix with | [n, i] => [FE_INJ_SET_amp n i] | _ => []⟩,
  ⟨"FE_CNT_DERAND", 0x20000080, [(3, 0x1000000)], fun ix => match ix with | [n] => [FE_CNT_DERAND_count n] | _ => []⟩,
  ⟨"FE_CNT_RECOV", 0x20000084, [(3, 0x1000000)], fun ix => match ix with | [n] => [FE_CNT_RECOV_count n] | _ => []⟩,
  ⟨"FE_CNT_BYPASS", 0x20000088, [(3, 0x1000000)], fun ix => match ix with | [n] => [FE_CNT_BYPASS_count n] | _ => []⟩,
  ⟨"FE_CNT_INJ_WIN", 0x2000008c, [(3, 0x1000000)], fun ix => match ix with | [n] => [FE_CNT_INJ_WIN_count n] | _ => []⟩,
  ⟨"FE_CNT_INJ_ERR", 0x20000090, [(3, 0x1000000)], fun ix => match ix with | [n] => [FE_CNT_INJ_ERR_coincident n, FE_CNT_INJ_ERR_dropped n] | _ => []⟩,
  ⟨"FE_AUTOMASK", 0x20000100, [(3, 0x1000000), (16, 0x4)], fun ix => match ix with | [n, i] => [FE_AUTOMASK_row n i] | _ => []⟩,
  ⟨"FE_CH_CFG", 0x20001000, [(3, 0x1000000), (512, 0x4)], fun ix => match ix with | [n, i] => [FE_CH_CFG_inj_set n i, FE_CH_CFG_inj_en n i, FE_CH_CFG_mask n i, FE_CH_CFG_slope n i, FE_CH_CFG_trim n i, FE_CH_CFG_threshold n i] | _ => []⟩,
  ⟨"FE_CH_STAT", 0x20001800, [(3, 0x1000000), (512, 0x4)], fun ix => match ix with | [n, i] => [FE_CH_STAT_automasked n i, FE_CH_STAT_cause n i, FE_CH_STAT_active_now n i, FE_CH_STAT_fill n i, FE_CH_STAT_derand_lost n i, FE_CH_STAT_recov_lost n i] | _ => []⟩,
  ⟨"FE_TDC_CTRL", 0x20000008, [(3, 0x1000000)], fun ix => match ix with | [n] => [FE_TDC_CTRL_ideal n, FE_TDC_CTRL_relock n] | _ => []⟩,
  ⟨"FE_TDC_STATUS", 0x2000000c, [(3, 0x1000000)], fun ix => match ix with | [n] => [FE_TDC_STATUS_state n, FE_TDC_STATUS_servo_err n, FE_TDC_STATUS_tbl_wr_refused n, FE_TDC_STATUS_cd_fail n, FE_TDC_STATUS_unlock n] | _ => []⟩,
  ⟨"FE_CD_CTRL", 0x20000014, [(3, 0x1000000)], fun ix => match ix with | [n] => [FE_CD_CTRL_slice n, FE_CD_CTRL_abort n, FE_CD_CTRL_full n] | _ => []⟩,
  ⟨"FE_CD_STATUS", 0x20000018, [(3, 0x1000000)], fun ix => match ix with | [n] => [FE_CD_STATUS_state n, FE_CD_STATUS_column n, FE_CD_STATUS_refused n, FE_CD_STATUS_discarded n] | _ => []⟩]

/-- Registers of group A, part 2. -/
def regRowsA2 : List RegRow := [
  ⟨"FE_TDC_DIE_OFS", 0x2000001c, [(3, 0x1000000)], fun ix => match ix with | [n] => [FE_TDC_DIE_OFS_ofs n] | _ => []⟩,
  ⟨"FE_CH_OFS", 0x20000200, [(3, 0x1000000), (512, 0x4)], fun ix => match ix with | [n, i] => [FE_CH_OFS_ofs n i] | _ => []⟩,
  ⟨"FE_PAIR_EN", 0x20000140, [(3, 0x1000000), (8, 0x4)], fun ix => match ix with | [n, i] => [FE_PAIR_EN_pair n i] | _ => []⟩,
  ⟨"FE_CD_COL", 0x20000180, [(3, 0x1000000), (16, 0x4)], fun ix => match ix with | [n, i] => [FE_CD_COL_valid n i, FE_CD_COL_fail n i, FE_CD_COL_age n i, FE_CD_COL_progress n i] | _ => []⟩,
  ⟨"FE_CD_FAIL", 0x200001c0, [(3, 0x1000000), (16, 0x4)], fun ix => match ix with | [n, i] => [FE_CD_FAIL_row n i] | _ => []⟩,
  ⟨"FE_BIN", 0x20100000, [(3, 0x1000000), (512, 0x800), (512, 0x4)], fun ix => match ix with | [n, l, j] => [FE_BIN_odd n l j, FE_BIN_even n l j] | _ => []⟩,
  ⟨"CX_PLATE_ID", 0x10000090, [], fun _ => [CX_PLATE_ID_id]⟩,
  ⟨"CX_PLATE_QUAR_MAP", 0x10000400, [(192, 0x4)], fun ix => match ix with | [i] => [CX_PLATE_QUAR_MAP_map i] | _ => []⟩,
  ⟨"CX_MT_LOAD_ORBIT", 0x1000010c, [], fun _ => [CX_MT_LOAD_ORBIT_orbit]⟩,
  ⟨"CX_HO_TIME", 0x10000124, [], fun _ => [CX_HO_TIME_ms]⟩,
  ⟨"CX_MT_OFFSET", 0x10000118, [], fun _ => [CX_MT_OFFSET_ticks]⟩,
  ⟨"FE_CNT_UNLOCK", 0x20000094, [(3, 0x1000000)], fun ix => match ix with | [n] => [FE_CNT_UNLOCK_count n] | _ => []⟩,
  ⟨"FE_CNT_NARROW", 0x20000098, [(3, 0x1000000)], fun ix => match ix with | [n] => [FE_CNT_NARROW_count n] | _ => []⟩,
  ⟨"FE_CNT_STARTHIGH", 0x2000009c, [(3, 0x1000000)], fun ix => match ix with | [n] => [FE_CNT_STARTHIGH_count n] | _ => []⟩,
  ⟨"FE_CNT_TOTOVF", 0x200000a0, [(3, 0x1000000)], fun ix => match ix with | [n] => [FE_CNT_TOTOVF_count n] | _ => []⟩]

/-- Registers of group B, part 0. -/
def regRowsB0 : List RegRow := [
  ⟨"CX_HQ_CTRL", 0x10000300, [], fun _ => [CX_HQ_CTRL_depth_rst, CX_HQ_CTRL_flush]⟩,
  ⟨"CX_HQ_STATUS", 0x10000304, [], fun _ => [CX_HQ_STATUS_flushing, CX_HQ_STATUS_store_ready, CX_HQ_STATUS_refused, CX_HQ_STATUS_chain_err, CX_HQ_STATUS_keep_full, CX_HQ_STATUS_full_drop, CX_HQ_STATUS_reclaim, CX_HQ_STATUS_low, CX_HQ_STATUS_sort_full, CX_HQ_STATUS_late]⟩,
  ⟨"CX_HQ_FREE", 0x10000308, [], fun _ => [CX_HQ_FREE_rows]⟩,
  ⟨"CX_HQ_LOW", 0x1000030c, [], fun _ => [CX_HQ_LOW_rows]⟩,
  ⟨"CX_HQ_DEPTH", 0x10000310, [], fun _ => [CX_HQ_DEPTH_min, CX_HQ_DEPTH_cur]⟩,
  ⟨"CX_HQ_VALID_ORBIT", 0x10000314, [], fun _ => [CX_HQ_VALID_ORBIT_orbit]⟩,
  ⟨"CX_HQ_VALID_BT", 0x10000318, [], fun _ => [CX_HQ_VALID_BT_valid, CX_HQ_VALID_BT_bucket]⟩,
  ⟨"CX_HQ_BANKS", 0x1000031c, [], fun _ => [CX_HQ_BANKS_in_service, CX_HQ_BANKS_retire]⟩,
  ⟨"CX_MERGE_LATE", 0x10000320, [], fun _ => [CX_MERGE_LATE_late, CX_MERGE_LATE_early]⟩,
  ⟨"CX_HQ_DROP", 0x10000324, [], fun _ => [CX_HQ_DROP_full, CX_HQ_DROP_sort]⟩,
  ⟨"CX_HQ_RECLAIM", 0x10000328, [], fun _ => [CX_HQ_RECLAIM_count]⟩,
  ⟨"CX_HQ_POISON", 0x1000032c, [], fun _ => [CX_HQ_POISON_read, CX_HQ_POISON_aged]⟩,
  ⟨"CX_HQ_KEEP", 0x10000330, [], fun _ => [CX_HQ_KEEP_released, CX_HQ_KEEP_used]⟩,
  ⟨"CX_HQ_CHAIN", 0x10000334, [], fun _ => [CX_HQ_CHAIN_errors, CX_HQ_CHAIN_leaked]⟩,
  ⟨"CX_MERGE_STALL", 0x10000338, [], fun _ => [CX_MERGE_STALL_fe2, CX_MERGE_STALL_fe1, CX_MERGE_STALL_fe0]⟩,
  ⟨"HS_STATUS", 0x30000000, [(2, 0x1000000)], fun ix => match ix with | [n] => [HS_STATUS_bank_init n, HS_STATUS_in_service n, HS_STATUS_spare_exh n, HS_STATUS_spared n] | _ => []⟩,
  ⟨"HS_SPARE", 0x30000004, [(2, 0x1000000)], fun ix => match ix with | [n] => [HS_SPARE_used n, HS_SPARE_disabled n] | _ => []⟩,
  ⟨"HS_SPARE_MAP", 0x30001000, [(2, 0x1000000), (1024, 0x4)], fun ix => match ix with | [n, i] => [HS_SPARE_MAP_valid n i, HS_SPARE_MAP_row n i] | _ => []⟩,
  ⟨"HS_DISABLED", 0x30002000, [(2, 0x1000000), (256, 0x4)], fun ix => match ix with | [n, i] => [HS_DISABLED_valid n i, HS_DISABLED_row n i] | _ => []⟩,
  ⟨"TG_PATH", 0x10002000, [], fun _ => [TG_PATH_refused, TG_PATH_close]⟩,
  ⟨"TG_STATUS", 0x10002004, [], fun _ => [TG_STATUS_conflict, TG_STATUS_test_hidden, TG_STATUS_acc_stopped, TG_STATUS_acc_bad, TG_STATUS_open_drop, TG_STATUS_invalid, TG_STATUS_late]⟩,
  ⟨"TG_ACCEPT", 0x10002008, [], fun _ => [TG_ACCEPT_lat_min]⟩,
  ⟨"TG_CNT_LATE", 0x1000200c, [], fun _ => [TG_CNT_LATE_count]⟩,
  ⟨"TG_CNT_ACC", 0x10002010, [], fun _ => [TG_CNT_ACC_bad, TG_CNT_ACC_stopped]⟩]

/-- Registers of group B, part 1. -/
def regRowsB1 : List RegRow := [
  ⟨"TG_CNT_OPEN", 0x10002014, [], fun _ => [TG_CNT_OPEN_quar, TG_CNT_OPEN_full]⟩,
  ⟨"TG_CNT_INVALID", 0x10002018, [], fun _ => [TG_CNT_INVALID_count]⟩,
  ⟨"TG_LOCAL_LO", 0x1000201c, [], fun _ => [TG_LOCAL_LO_number]⟩,
  ⟨"TG_LOCAL_HI", 0x10002020, [], fun _ => [TG_LOCAL_HI_number]⟩,
  ⟨"TG_TEST_CTRL", 0x10002024, [], fun _ => [TG_TEST_CTRL_mode, TG_TEST_CTRL_word]⟩,
  ⟨"TG_TEST_LANES_LO", 0x10002028, [], fun _ => [TG_TEST_LANES_LO_lanes]⟩,
  ⟨"TG_TEST_LANES_HI", 0x1000202c, [], fun _ => [TG_TEST_LANES_HI_lanes]⟩,
  ⟨"TG_CNT_TEST_HIDDEN", 0x10002030, [], fun _ => [TG_CNT_TEST_HIDDEN_count]⟩,
  ⟨"TG_QUEUE", 0x10002034, [], fun _ => [TG_QUEUE_peak, TG_QUEUE_used]⟩,
  ⟨"TG_CONFLICT", 0x10002038, [], fun _ => [TG_CONFLICT_chasers]⟩,
  ⟨"TG_REGION_COARSE", 0x10002400, [(96, 0x8)], fun ix => match ix with | [i] => [TG_REGION_COARSE_coarse i] | _ => []⟩,
  ⟨"TG_REGION_TOT", 0x10002404, [(96, 0x8)], fun ix => match ix with | [i] => [TG_REGION_TOT_tot_min i] | _ => []⟩,
  ⟨"TG_CHSTAT", 0x10002800, [(32, 0x4)], fun ix => match ix with | [i] => [TG_CHSTAT_state i, TG_CHSTAT_t1_exp i, TG_CHSTAT_t0_exp i, TG_CHSTAT_out i, TG_CHSTAT_opens i] | _ => []⟩,
  ⟨"TG_CHCNT", 0x10002900, [(32, 0x10), (4, 0x4)], fun ix => match ix with | [c, k] => [TG_CHCNT_value c k] | _ => []⟩,
  ⟨"RC_STATUS", 0x10003000, [], fun _ => [RC_STATUS_dump_refused, RC_STATUS_mask_viol, RC_STATUS_clipped, RC_STATUS_refused]⟩,
  ⟨"RC_BUSY", 0x10003004, [], fun _ => [RC_BUSY_busy, RC_BUSY_off, RC_BUSY_on]⟩,
  ⟨"RC_CTX", 0x10003008, [], fun _ => [RC_CTX_min_free, RC_CTX_free]⟩,
  ⟨"RC_LIMIT", 0x1000300c, [], fun _ => [RC_LIMIT_words]⟩,
  ⟨"RC_FBUF", 0x10003010, [], fun _ => [RC_FBUF_free]⟩,
  ⟨"RC_CNT_REFUSE", 0x10003014, [], fun _ => [RC_CNT_REFUSE_count]⟩,
  ⟨"RC_REFUSE_LAST", 0x10003018, [], fun _ => [RC_REFUSE_LAST_class, RC_REFUSE_LAST_cause]⟩,
  ⟨"RC_CNT_CLIP", 0x1000301c, [], fun _ => [RC_CNT_CLIP_start, RC_CNT_CLIP_end, RC_CNT_CLIP_gap, RC_CNT_CLIP_absent, RC_CNT_CLIP_size]⟩,
  ⟨"RC_CNT_DAMAGED", 0x10003020, [], fun _ => [RC_CNT_DAMAGED_count]⟩,
  ⟨"RC_RF", 0x10003024, [], fun _ => [RC_RF_lost, RC_RF_used]⟩]

/-- Registers of group B, part 2. -/
def regRowsB2 : List RegRow := [
  ⟨"RC_FREEZE_CTRL", 0x10003040, [], fun _ => [RC_FREEZE_CTRL_arm, RC_FREEZE_CTRL_force, RC_FREEZE_CTRL_post]⟩,
  ⟨"RC_FREEZE_STATUS", 0x10003044, [], fun _ => [RC_FREEZE_STATUS_state, RC_FREEZE_STATUS_cause, RC_FREEZE_STATUS_region, RC_FREEZE_STATUS_bucket]⟩,
  ⟨"RC_FREEZE_ORBIT", 0x10003048, [], fun _ => [RC_FREEZE_ORBIT_orbit]⟩,
  ⟨"RC_FREEZE_LOST", 0x1000304c, [], fun _ => [RC_FREEZE_LOST_count]⟩,
  ⟨"RC_DUMP_CTRL", 0x10003050, [], fun _ => [RC_DUMP_CTRL_go, RC_DUMP_CTRL_running, RC_DUMP_CTRL_class, RC_DUMP_CTRL_len]⟩,
  ⟨"RC_DUMP_ORBIT", 0x10003054, [], fun _ => [RC_DUMP_ORBIT_orbit]⟩,
  ⟨"RC_DUMP_BT", 0x10003058, [], fun _ => [RC_DUMP_BT_bucket]⟩,
  ⟨"RC_CNT_MASK_TIME", 0x10003060, [], fun _ => [RC_CNT_MASK_TIME_count]⟩,
  ⟨"RC_CNT_MASK_RATE", 0x10003064, [], fun _ => [RC_CNT_MASK_RATE_count]⟩,
  ⟨"RC_CNT_MASK_TOT", 0x10003068, [], fun _ => [RC_CNT_MASK_TOT_count]⟩,
  ⟨"RC_HIST_CTRL", 0x10003070, [], fun _ => [RC_HIST_CTRL_refused, RC_HIST_CTRL_clearing, RC_HIST_CTRL_bank, RC_HIST_CTRL_swap]⟩,
  ⟨"RC_CLASS_CNT", 0x10003100, [(16, 0x4)], fun ix => match ix with | [i] => [RC_CLASS_CNT_count i] | _ => []⟩,
  ⟨"CX_STR_CTRL", 0x10004000, [], fun _ => [CX_STR_CTRL_order, CX_STR_CTRL_resend_us]⟩,
  ⟨"CX_STR_STATUS", 0x10004004, [], fun _ => [CX_STR_STATUS_refused, CX_STR_STATUS_credit_err, CX_STR_STATUS_lost]⟩,
  ⟨"CX_STR_CNT", 0x10004008, [], fun _ => [CX_STR_CNT_resent, CX_STR_CNT_bad_credit, CX_STR_CNT_lost_content]⟩,
  ⟨"CX_STR_RX", 0x1000400c, [], fun _ => [CX_STR_RX_bad, CX_STR_RX_discarded]⟩,
  ⟨"CX_STR_FSEQ", 0x10004010, [], fun _ => [CX_STR_FSEQ_next]⟩,
  ⟨"CX_ETH_DST_LO", 0x10004014, [], fun _ => [CX_ETH_DST_LO_addr]⟩,
  ⟨"CX_ETH_DST_HI", 0x10004018, [], fun _ => [CX_ETH_DST_HI_addr]⟩,
  ⟨"FB_MERGE_CTRL", 0x10005c00, [], fun _ => [FB_MERGE_CTRL_enable, FB_MERGE_CTRL_self, FB_MERGE_CTRL_timeout_us]⟩,
  ⟨"FB_MERGE_STATUS", 0x10005c04, [], fun _ => [FB_MERGE_STATUS_unmerged, FB_MERGE_STATUS_open]⟩,
  ⟨"FB_MERGE_CNT", 0x10005c08, [], fun _ => [FB_MERGE_CNT_sent, FB_MERGE_CNT_timeout, FB_MERGE_CNT_unmerged]⟩,
  ⟨"FB_MERGE_SET", 0x10005d00, [(64, 0x4)], fun ix => match ix with | [i] => [FB_MERGE_SET_valid i, FB_MERGE_SET_addr i] | _ => []⟩]

/-- Registers of group C, part 0. -/
def regRowsC0 : List RegRow := [
  ⟨"LN_CTRL", 0x10006000, [(48, 0x20)], fun ix => match ix with | [i] => [LN_CTRL_eq_freeze i, LN_CTRL_pattern i, LN_CTRL_loop i, LN_CTRL_out i] | _ => []⟩,
  ⟨"LN_PWR", 0x10006004, [(48, 0x20)], fun ix => match ix with | [i] => [LN_PWR_rx_pending i, LN_PWR_tx_pending i, LN_PWR_rx_now i, LN_PWR_tx_now i, LN_PWR_rx_req i, LN_PWR_tx_req i] | _ => []⟩,
  ⟨"LN_STATUS", 0x10006008, [(48, 0x20)], fun ix => match ix with | [i] => [LN_STATUS_sym_lock i, LN_STATUS_role i, LN_STATUS_group i, LN_STATUS_serving_spare i, LN_STATUS_degraded i, LN_STATUS_rejoin i, LN_STATUS_refused i, LN_STATUS_moved i, LN_STATUS_eye_warn i, LN_STATUS_fault i, LN_STATUS_spare_move i, LN_STATUS_restripe i, LN_STATUS_crc i, LN_STATUS_lock_lost i] | _ => []⟩,
  ⟨"LN_RX_ALIGN", 0x1000600c, [(48, 0x20)], fun ix => match ix with | [i] => [LN_RX_ALIGN_slip_now i, LN_RX_ALIGN_slip i] | _ => []⟩,
  ⟨"LN_RX_LAT", 0x10006010, [(48, 0x20)], fun ix => match ix with | [i] => [LN_RX_LAT_valid i, LN_RX_LAT_edge i, LN_RX_LAT_margin i, LN_RX_LAT_lat i] | _ => []⟩,
  ⟨"LN_EQ", 0x10006014, [(48, 0x20)], fun ix => match ix with | [i] => [LN_EQ_adapted i, LN_EQ_eye_min i, LN_EQ_eye i] | _ => []⟩,
  ⟨"LN_CNT", 0x10006018, [(48, 0x20)], fun ix => match ix with | [i] => [LN_CNT_crc i, LN_CNT_lock_loss i, LN_CNT_rejoins i, LN_CNT_bad_item i] | _ => []⟩,
  ⟨"LN_LOOP_CNT", 0x1000601c, [(48, 0x20)], fun ix => match ix with | [i] => [LN_LOOP_CNT_sync i, LN_LOOP_CNT_errors i] | _ => []⟩,
  ⟨"LN_HEALTH", 0x10006800, [], fun _ => [LN_HEALTH_lock_lim, LN_HEALTH_eye_warn, LN_HEALTH_eye_fail]⟩,
  ⟨"LN_SUMMARY_LO", 0x10006804, [], fun _ => [LN_SUMMARY_LO_lanes]⟩,
  ⟨"LN_SUMMARY_HI", 0x10006808, [], fun _ => [LN_SUMMARY_HI_lanes]⟩,
  ⟨"LN_QUAD", 0x10006840, [(12, 0x4)], fun ix => match ix with | [i] => [LN_QUAD_state i, LN_QUAD_mode i, LN_QUAD_unlock i] | _ => []⟩,
  ⟨"LN_PORT", 0x10006880, [(6, 0x4)], fun ix => match ix with | [i] => [LN_PORT_serve i, LN_PORT_out_grp i] | _ => []⟩,
  ⟨"FB_ADDR", 0x10005000, [], fun _ => [FB_ADDR_valid, FB_ADDR_depth, FB_ADDR_addr]⟩,
  ⟨"FB_CTRL", 0x10005004, [], fun _ => [FB_CTRL_revert, FB_CTRL_time_follow]⟩,
  ⟨"FB_UP", 0x10005008, [], fun _ => [FB_UP_time_port, FB_UP_d_sec, FB_UP_d_pri, FB_UP_tc_sec, FB_UP_tc_pri]⟩,
  ⟨"FB_DOWN", 0x1000500c, [], fun _ => [FB_DOWN_ports]⟩,
  ⟨"FB_PORTS", 0x10005010, [], fun _ => [FB_PORTS_data_up, FB_PORTS_tc_up]⟩,
  ⟨"FB_STATUS", 0x10005014, [], fun _ => [FB_STATUS_refused, FB_STATUS_time_err, FB_STATUS_master, FB_STATUS_cmd_lost, FB_STATUS_ct_drop, FB_STATUS_route_miss, FB_STATUS_reroute, FB_STATUS_port_lost]⟩,
  ⟨"FB_CNT", 0x10005018, [], fun _ => [FB_CNT_route_miss, FB_CNT_ct_drop, FB_CNT_fc_late, FB_CNT_bad]⟩,
  ⟨"FB_CNT2", 0x1000501c, [], fun _ => [FB_CNT2_reroutes, FB_CNT2_acc_lost, FB_CNT2_gap]⟩,
  ⟨"FB_CNT3", 0x1000503c, [], fun _ => [FB_CNT3_tp_collide, FB_CNT3_time_err]⟩,
  ⟨"FB_DISC_CTRL", 0x10005020, [], fun _ => [FB_DISC_CTRL_go, FB_DISC_CTRL_state, FB_DISC_CTRL_op, FB_DISC_CTRL_port]⟩,
  ⟨"FB_DISC_ASSIGN", 0x10005024, [], fun _ => [FB_DISC_ASSIGN_depth, FB_DISC_ASSIGN_addr]⟩]

/-- Registers of group C, part 1. -/
def regRowsC1 : List RegRow := [
  ⟨"FB_DISC_ANS_LO", 0x10005028, [], fun _ => [FB_DISC_ANS_LO_serial]⟩,
  ⟨"FB_DISC_ANS_HI", 0x1000502c, [], fun _ => [FB_DISC_ANS_HI_serial]⟩,
  ⟨"FB_DISC_INFO", 0x10005030, [], fun _ => [FB_DISC_INFO_info]⟩,
  ⟨"FB_SERIAL_LO", 0x10005034, [], fun _ => [FB_SERIAL_LO_serial]⟩,
  ⟨"FB_SERIAL_HI", 0x10005038, [], fun _ => [FB_SERIAL_HI_serial]⟩,
  ⟨"FB_TIME_CTRL", 0x10005080, [], fun _ => [FB_TIME_CTRL_loss_orb, FB_TIME_CTRL_qual, FB_TIME_CTRL_pd_int]⟩,
  ⟨"FB_TIME_STATUS", 0x10005084, [], fun _ => [FB_TIME_STATUS_state, FB_TIME_STATUS_steps, FB_TIME_STATUS_prio, FB_TIME_STATUS_master]⟩,
  ⟨"FB_TIME_D", 0x10005088, [], fun _ => [FB_TIME_D_d]⟩,
  ⟨"FB_TIME_DREF", 0x1000508c, [], fun _ => [FB_TIME_DREF_d]⟩,
  ⟨"FB_LINK", 0x100050c0, [(6, 0x4)], fun ix => match ix with | [i] => [FB_LINK_valid i, FB_LINK_delay i] | _ => []⟩,
  ⟨"FB_TP_FWD", 0x10005100, [(48, 0x4)], fun ix => match ix with | [i] => [FB_TP_FWD_en i, FB_TP_FWD_src i, FB_TP_FWD_wait i] | _ => []⟩,
  ⟨"FB_ROUTE", 0x10020000, [(4096, 0x4)], fun ix => match ix with | [i] => [FB_ROUTE_en i, FB_ROUTE_use_sec i, FB_ROUTE_sec i, FB_ROUTE_pri i] | _ => []⟩,
  ⟨"CX_BN_CTRL", 0x10000c00, [], fun _ => [CX_BN_CTRL_aux_rate, CX_BN_CTRL_hs_rate, CX_BN_CTRL_patrol_en]⟩,
  ⟨"CX_BN_PASS_CTRL", 0x10000c04, [], fun _ => [CX_BN_PASS_CTRL_go, CX_BN_PASS_CTRL_abort, CX_BN_PASS_CTRL_state, CX_BN_PASS_CTRL_memory]⟩,
  ⟨"CX_BN_PASS_START", 0x10000c08, [], fun _ => [CX_BN_PASS_START_index]⟩,
  ⟨"CX_BN_PASS_LEN", 0x10000c0c, [], fun _ => [CX_BN_PASS_LEN_count]⟩,
  ⟨"CX_BN_SUM_READ", 0x10000c10, [], fun _ => [CX_BN_SUM_READ_count]⟩,
  ⟨"CX_BN_SUM_CORR", 0x10000c14, [], fun _ => [CX_BN_SUM_CORR_count]⟩,
  ⟨"CX_BN_SUM_UNCORR", 0x10000c18, [], fun _ => [CX_BN_SUM_UNCORR_uncorr, CX_BN_SUM_UNCORR_repaired]⟩,
  ⟨"CX_BN_SUM_TIME", 0x10000c1c, [], fun _ => [CX_BN_SUM_TIME_bk]⟩,
  ⟨"CX_BN_PATROL", 0x10000c20, [], fun _ => [CX_BN_PATROL_memory, CX_BN_PATROL_passes]⟩,
  ⟨"CX_ECC_CNT", 0x10000c24, [], fun _ => [CX_ECC_CNT_corr, CX_ECC_CNT_uncorr]⟩,
  ⟨"CX_ECC_LAST", 0x10000c28, [], fun _ => [CX_ECC_LAST_kind, CX_ECC_LAST_found_by, CX_ECC_LAST_memory, CX_ECC_LAST_index]⟩,
  ⟨"CX_PROT_STATUS", 0x10000c2c, [], fun _ => [CX_PROT_STATUS_pass_refused, CX_PROT_STATUS_mbuf_err, CX_PROT_STATUS_repair_full, CX_PROT_STATUS_lasting, CX_PROT_STATUS_uncorr, CX_PROT_STATUS_unresolved, CX_PROT_STATUS_dispute]⟩]

/-- Registers of group C, part 2. -/
def regRowsC2 : List RegRow := [
  ⟨"CX_TMR_CNT", 0x10000c30, [], fun _ => [CX_TMR_CNT_unresolved, CX_TMR_CNT_disputed, CX_TMR_CNT_last]⟩,
  ⟨"CX_REPAIR_STATUS", 0x10000c34, [], fun _ => [CX_REPAIR_STATUS_full_miss, CX_REPAIR_STATUS_evicted, CX_REPAIR_STATUS_used]⟩,
  ⟨"CX_FLT_CLASS", 0x10000c40, [(5, 0x4)], fun ix => match ix with | [i] => [CX_FLT_CLASS_n i, CX_FLT_CLASS_w i] | _ => []⟩,
  ⟨"CX_REPAIR", 0x10000d00, [(64, 0x4)], fun ix => match ix with | [i] => [CX_REPAIR_valid i, CX_REPAIR_memory i, CX_REPAIR_index i] | _ => []⟩,
  ⟨"SV_TMR_STATUS", 0x52000044, [], fun _ => [SV_TMR_STATUS_unresolved, SV_TMR_STATUS_disputed]⟩]

/-- Registers of group D, part 0. -/
def regRowsD0 : List RegRow := [
  ⟨"PU_CTRL", 0x50000000, [(2, 0x1000000)], fun ix => match ix with | [n] => [PU_CTRL_out n] | _ => []⟩,
  ⟨"PU_STATUS", 0x50000004, [(2, 0x1000000)], fun ix => match ix with | [n] => [PU_STATUS_role n, PU_STATUS_feed_ok n, PU_STATUS_arb_lost n, PU_STATUS_peer_lost n, PU_STATUS_cause n, PU_STATUS_fault n, PU_STATUS_refused n, PU_STATUS_temp_warn n, PU_STATUS_feed_event n, PU_STATUS_overrun n] | _ => []⟩,
  ⟨"PU_MEAS", 0x50000008, [(2, 0x1000000)], fun ix => match ix with | [n] => [PU_MEAS_vmid n, PU_MEAS_vfeed n] | _ => []⟩,
  ⟨"PU_MEAS2", 0x5000000c, [(2, 0x1000000)], fun ix => match ix with | [n] => [PU_MEAS2_iin n, PU_MEAS2_temp n] | _ => []⟩,
  ⟨"PU_CNT", 0x50000010, [(2, 0x1000000)], fun ix => match ix with | [n] => [PU_CNT_feed_drop n, PU_CNT_faults n, PU_CNT_oc_cycles n] | _ => []⟩,
  ⟨"SV_ARB_STATUS", 0x52000000, [], fun _ => [SV_ARB_STATUS_active, SV_ARB_STATUS_a_role, SV_ARB_STATUS_b_role, SV_ARB_STATUS_phase, SV_ARB_STATUS_sched, SV_ARB_STATUS_overdue, SV_ARB_STATUS_suspect, SV_ARB_STATUS_copy_lost, SV_ARB_STATUS_arb_fault, SV_ARB_STATUS_bus, SV_ARB_STATUS_restarts]⟩,
  ⟨"SV_ARB_CNT", 0x52000004, [], fun _ => [SV_ARB_CNT_swaps, SV_ARB_CNT_refused, SV_ARB_CNT_failovers, SV_ARB_CNT_bus_fault]⟩]

/-- Registers of group D, part 1. -/
def regRowsD1 : List RegRow := [
  ⟨"SV_ARB_PERIOD", 0x52000008, [], fun _ => [SV_ARB_PERIOD_swap_now, SV_ARB_PERIOD_period]⟩,
  ⟨"SV_ARB_TIMER", 0x5200000c, [], fun _ => [SV_ARB_TIMER_remaining]⟩,
  ⟨"SV_GUARD_STATUS", 0x52000080, [], fun _ => [SV_GUARD_STATUS_en_a, SV_GUARD_STATUS_en_b, SV_GUARD_STATUS_fb, SV_GUARD_STATUS_closed, SV_GUARD_STATUS_proof, SV_GUARD_STATUS_state, SV_GUARD_STATUS_ch_b, SV_GUARD_STATUS_ch_a, SV_GUARD_STATUS_chatter_b, SV_GUARD_STATUS_chatter_a]⟩,
  ⟨"SV_GUARD_FAULT", 0x52000084, [], fun _ => [SV_GUARD_FAULT_clock, SV_GUARD_FAULT_config, SV_GUARD_FAULT_fb_enable, SV_GUARD_FAULT_fb_disable, SV_GUARD_FAULT_fb_unexpected, SV_GUARD_FAULT_out_b, SV_GUARD_FAULT_out_a, SV_GUARD_FAULT_pulse_missing, SV_GUARD_FAULT_discrepancy]⟩,
  ⟨"SV_GUARD_CFG", 0x52000088, [], fun _ => [SV_GUARD_CFG_straps_now, SV_GUARD_CFG_straps_pu]⟩,
  ⟨"SV_GUARD_CNT", 0x5200008c, [], fun _ => [SV_GUARD_CNT_shutdowns, SV_GUARD_CNT_abandoned, SV_GUARD_CNT_refused, SV_GUARD_CNT_faults]⟩,
  ⟨"SV_GUARD_CMD", 0x52000090, [], fun _ => [SV_GUARD_CMD_enable, SV_GUARD_CMD_disable]⟩,
  ⟨"CX_TILE_STATUS", 0x10007000, [], fun _ => [CX_TILE_STATUS_present, CX_TILE_STATUS_id_state, CX_TILE_STATUS_no_record, CX_TILE_STATUS_warn, CX_TILE_STATUS_end, CX_TILE_STATUS_id_err, CX_TILE_STATUS_i2c_err, CX_TILE_STATUS_life_event, CX_TILE_STATUS_presence]⟩,
  ⟨"CX_TILE_SERIAL_LO", 0x10007004, [], fun _ => [CX_TILE_SERIAL_LO_serial]⟩,
  ⟨"CX_TILE_SERIAL_HI", 0x10007008, [], fun _ => [CX_TILE_SERIAL_HI_serial]⟩,
  ⟨"CX_TILE_KIND", 0x1000700c, [], fun _ => [CX_TILE_KIND_kind, CX_TILE_KIND_pad_count]⟩,
  ⟨"CX_TILE_RATED_HITS", 0x10007010, [], fun _ => [CX_TILE_RATED_HITS_value]⟩,
  ⟨"CX_TILE_RATED_Q", 0x10007014, [], fun _ => [CX_TILE_RATED_Q_value]⟩,
  ⟨"CX_TILE_RATED_DOSE", 0x10007018, [], fun _ => [CX_TILE_RATED_DOSE_value]⟩,
  ⟨"CX_TILE_EXP_CTRL", 0x1000701c, [], fun _ => [CX_TILE_EXP_CTRL_snap]⟩,
  ⟨"CX_TILE_EXP_HITS_LO", 0x10007020, [], fun _ => [CX_TILE_EXP_HITS_LO_hits]⟩,
  ⟨"CX_TILE_EXP_HITS_HI", 0x10007024, [], fun _ => [CX_TILE_EXP_HITS_HI_hits]⟩,
  ⟨"CX_TILE_EXP_Q", 0x10007028, [], fun _ => [CX_TILE_EXP_Q_value]⟩,
  ⟨"CX_TILE_EXP_DOSE", 0x1000702c, [], fun _ => [CX_TILE_EXP_DOSE_value]⟩,
  ⟨"CX_TILE_LIFE", 0x10007030, [], fun _ => [CX_TILE_LIFE_frac, CX_TILE_LIFE_hold, CX_TILE_LIFE_next]⟩,
  ⟨"CX_TILE_I2C_CTRL", 0x10007040, [], fun _ => [CX_TILE_I2C_CTRL_go, CX_TILE_I2C_CTRL_state, CX_TILE_I2C_CTRL_op, CX_TILE_I2C_CTRL_len_m1, CX_TILE_I2C_CTRL_addr]⟩,
  ⟨"CX_TILE_I2C_BUF", 0x10007060, [(8, 0x4)], fun ix => match ix with | [i] => [CX_TILE_I2C_BUF_data i] | _ => []⟩,
  ⟨"CX_TILE_PADMAP", 0x10007100, [(48, 0x4)], fun ix => match ix with | [i] => [CX_TILE_PADMAP_present i] | _ => []⟩,
  ⟨"CX_LE_SEL", 0x10007480, [], fun _ => [CX_LE_SEL_loop]⟩]

/-- Registers of group D, part 2. -/
def regRowsD2 : List RegRow := [
  ⟨"CX_LE_STATUS", 0x10007484, [], fun _ => [CX_LE_STATUS_parity, CX_LE_STATUS_loop_fault, CX_LE_STATUS_refused]⟩,
  ⟨"CX_LE_LOOP", 0x10007600, [(96, 0x8)], fun ix => match ix with | [i] => [CX_LE_LOOP_en i, CX_LE_LOOP_therm i, CX_LE_LOOP_target i] | _ => []⟩,
  ⟨"CX_LE_LOOPSTAT", 0x10007604, [(96, 0x8)], fun ix => match ix with | [i] => [CX_LE_LOOPSTAT_cause i, CX_LE_LOOPSTAT_stale i, CX_LE_LOOPSTAT_y i, CX_LE_LOOPSTAT_delta i] | _ => []⟩,
  ⟨"MG_CTRL", 0x1000c000, [], fun _ => [MG_CTRL_restart, MG_CTRL_halt, MG_CTRL_auto]⟩,
  ⟨"MG_STATUS", 0x1000c004, [], fun _ => [MG_STATUS_state, MG_STATUS_cause, MG_STATUS_active_half, MG_STATUS_restarts, MG_STATUS_evq_lost, MG_STATUS_refused, MG_STATUS_halts]⟩,
  ⟨"MG_IMG_LEN", 0x1000c008, [], fun _ => [MG_IMG_LEN_len]⟩,
  ⟨"MG_IMG_CRC", 0x1000c00c, [], fun _ => [MG_IMG_CRC_crc]⟩,
  ⟨"MG_IMG_CTRL", 0x1000c010, [], fun _ => [MG_IMG_CTRL_switch, MG_IMG_CTRL_force, MG_IMG_CTRL_ready, MG_IMG_CTRL_state, MG_IMG_CTRL_timeout]⟩,
  ⟨"MG_WDOG", 0x1000c014, [], fun _ => [MG_WDOG_kick, MG_WDOG_period]⟩,
  ⟨"MG_UPTIME_LO", 0x1000c018, [], fun _ => [MG_UPTIME_LO_us]⟩,
  ⟨"MG_UPTIME_HI", 0x1000c01c, [], fun _ => [MG_UPTIME_HI_us]⟩,
  ⟨"MG_MTIMECMP_LO", 0x1000c020, [], fun _ => [MG_MTIMECMP_LO_cmp]⟩,
  ⟨"MG_MTIMECMP_HI", 0x1000c024, [], fun _ => [MG_MTIMECMP_HI_cmp]⟩,
  ⟨"MG_EV_HOSTEN", 0x1000c100, [(16, 0x4)], fun ix => match ix with | [i] => [MG_EV_HOSTEN_en i] | _ => []⟩,
  ⟨"MG_EV_IRQEN", 0x1000c140, [(16, 0x4)], fun ix => match ix with | [i] => [MG_EV_IRQEN_en i] | _ => []⟩,
  ⟨"MG_EV_LOGEN", 0x1000c180, [(16, 0x4)], fun ix => match ix with | [i] => [MG_EV_LOGEN_en i] | _ => []⟩,
  ⟨"MG_EV_PEND", 0x1000c1c0, [(16, 0x4)], fun ix => match ix with | [i] => [MG_EV_PEND_pend i] | _ => []⟩,
  ⟨"MG_EV_CLAIM", 0x1000c200, [], fun _ => [MG_EV_CLAIM_valid, MG_EV_CLAIM_source]⟩,
  ⟨"MG_EVQ_LO", 0x1000c204, [], fun _ => [MG_EVQ_LO_entry]⟩,
  ⟨"MG_EVQ_HI", 0x1000c208, [], fun _ => [MG_EVQ_HI_entry]⟩,
  ⟨"MG_EVQ_STAT", 0x1000c20c, [], fun _ => [MG_EVQ_STAT_lost, MG_EVQ_STAT_bad, MG_EVQ_STAT_count]⟩,
  ⟨"MG_EVLOG", 0x1000c210, [], fun _ => [MG_EVLOG_merged, MG_EVLOG_wp]⟩,
  ⟨"MG_DMA_SRC", 0x1000c300, [(8, 0x10)], fun ix => match ix with | [i] => [MG_DMA_SRC_addr i] | _ => []⟩,
  ⟨"MG_DMA_DST", 0x1000c304, [(8, 0x10)], fun ix => match ix with | [i] => [MG_DMA_DST_addr i] | _ => []⟩]

/-- Registers of group D, part 3. -/
def regRowsD3 : List RegRow := [
  ⟨"MG_DMA_LEN", 0x1000c308, [(8, 0x10)], fun ix => match ix with | [i] => [MG_DMA_LEN_bytes i] | _ => []⟩,
  ⟨"MG_DMA_CTRL", 0x1000c30c, [(8, 0x10)], fun ix => match ix with | [i] => [MG_DMA_CTRL_go i, MG_DMA_CTRL_abort i, MG_DMA_CTRL_state i, MG_DMA_CTRL_err i, MG_DMA_CTRL_dst_inc i, MG_DMA_CTRL_src_inc i] | _ => []⟩,
  ⟨"HK_CTRL", 0x1000d000, [], fun _ => [HK_CTRL_cal, HK_CTRL_ref_en]⟩,
  ⟨"HK_STATUS", 0x1000d004, [], fun _ => [HK_STATUS_calibrating, HK_STATUS_ref_ready, HK_STATUS_inj_q, HK_STATUS_inj_next, HK_STATUS_seq, HK_STATUS_refused, HK_STATUS_buf_ovr, HK_STATUS_ref_nr, HK_STATUS_inj_drop, HK_STATUS_cal_done]⟩,
  ⟨"HK_REG_CTRL", 0x1000d008, [], fun _ => [HK_REG_CTRL_en, HK_REG_CTRL_len_m1, HK_REG_CTRL_period]⟩,
  ⟨"HK_INJ", 0x1000d00c, [], fun _ => [HK_INJ_go, HK_INJ_input]⟩,
  ⟨"HK_CAL", 0x1000d010, [], fun _ => [HK_CAL_gain, HK_CAL_offset]⟩,
  ⟨"HK_BUF_BASE", 0x1000d014, [], fun _ => [HK_BUF_BASE_addr]⟩,
  ⟨"HK_BUF_SIZE", 0x1000d018, [], fun _ => [HK_BUF_SIZE_size]⟩,
  ⟨"HK_BUF_WP", 0x1000d01c, [], fun _ => [HK_BUF_WP_wp]⟩,
  ⟨"HK_BUF_RP", 0x1000d020, [], fun _ => [HK_BUF_RP_rp]⟩,
  ⟨"HK_CNT", 0x1000d024, [], fun _ => [HK_CNT_overrun, HK_CNT_dropped, HK_CNT_late, HK_CNT_nr]⟩,
  ⟨"HK_INJ_RES", 0x1000d040, [(4, 0x4)], fun ix => match ix with | [i] => [HK_INJ_RES_result i] | _ => []⟩,
  ⟨"HK_LAST", 0x1000d200, [(64, 0x4)], fun ix => match ix with | [i] => [HK_LAST_result i] | _ => []⟩,
  ⟨"CX_ACQ_CTRL", 0x1000e000, [], fun _ => [CX_ACQ_CTRL_start, CX_ACQ_CTRL_stop]⟩,
  ⟨"CX_ACQ_STATUS", 0x1000e004, [], fun _ => [CX_ACQ_STATUS_state, CX_ACQ_STATUS_drained, CX_ACQ_STATUS_refused, CX_ACQ_STATUS_cause]⟩,
  ⟨"CX_ACQ_ORBIT", 0x1000e008, [], fun _ => [CX_ACQ_ORBIT_orbit]⟩,
  ⟨"CX_FE_SVC", 0x1000e00c, [], fun _ => [CX_FE_SVC_now2, CX_FE_SVC_now1, CX_FE_SVC_now0, CX_FE_SVC_fe2, CX_FE_SVC_fe1, CX_FE_SVC_fe0]⟩,
  ⟨"CX_ASSAY_CTRL", 0x1000e010, [], fun _ => [CX_ASSAY_CTRL_go, CX_ASSAY_CTRL_abort, CX_ASSAY_CTRL_block, CX_ASSAY_CTRL_index]⟩,
  ⟨"CX_ASSAY_STATUS", 0x1000e014, [], fun _ => [CX_ASSAY_STATUS_state, CX_ASSAY_STATUS_verdict, CX_ASSAY_STATUS_refused, CX_ASSAY_STATUS_cause, CX_ASSAY_STATUS_ms]⟩,
  ⟨"CX_ASSAY_RESULT", 0x1000e018, [], fun _ => [CX_ASSAY_RESULT_part, CX_ASSAY_RESULT_fails, CX_ASSAY_RESULT_first]⟩,
  ⟨"CX_STATUS_SUM", 0x1000f008, [], fun _ => [CX_STATUS_SUM_ct_err, CX_STATUS_SUM_sv_arb, CX_STATUS_SUM_sv_guard, CX_STATUS_SUM_ovn, CX_STATUS_SUM_pu_b, CX_STATUS_SUM_pu_a, CX_STATUS_SUM_hs1, CX_STATUS_SUM_hs0, CX_STATUS_SUM_fe2, CX_STATUS_SUM_fe1, CX_STATUS_SUM_fe0, CX_STATUS_SUM_assay, CX_STATUS_SUM_acq, CX_STATUS_SUM_hk, CX_STATUS_SUM_mg, CX_STATUS_SUM_le, CX_STATUS_SUM_tile, CX_STATUS_SUM_prot, CX_STATUS_SUM_lanes, CX_STATUS_SUM_fb, CX_STATUS_SUM_str, CX_STATUS_SUM_rc, CX_STATUS_SUM_tg, CX_STATUS_SUM_hq, CX_STATUS_SUM_cx]⟩,
  ⟨"CX_CT_ERR_ADDR", 0x1000f000, [], fun _ => [CX_CT_ERR_ADDR_addr]⟩,
  ⟨"CX_CT_ERR", 0x1000f004, [], fun _ => [CX_CT_ERR_err, CX_CT_ERR_count, CX_CT_ERR_path, CX_CT_ERR_status, CX_CT_ERR_block]⟩]

/-- Registers of group D, part 4. -/
def regRowsD4 : List RegRow := [
  ⟨"HK_SEQ", 0x1000d100, [(16, 0x4)], fun ix => match ix with | [i] => [HK_SEQ_slot0 i, HK_SEQ_slot1 i, HK_SEQ_slot2 i, HK_SEQ_slot3 i] | _ => []⟩]

/-- The loop-engine registers of instance i (R445, R488): offset from `leBase i` and fields. -/
def leRegs (i : Nat) : List (Nat × List Fld) := [
  (0x0, [LE_CTRL_closed i, LE_CTRL_host_in_force i, LE_CTRL_host_valid i, LE_CTRL_use_host i, LE_CTRL_commit i]),
  (0x4, [LE_REF_r i]),
  (0x8, [LE_LIM_u_max i, LE_LIM_u_min i]),
  (0xc, [LE_FERR_t_lim i, LE_FERR_e_lim i]),
  (0x10, [LE_KP_k i]),
  (0x14, [LE_KI_k i]),
  (0x18, [LE_KD_k i]),
  (0x1c, [LE_KFF_k i]),
  (0x20, [LE_DFILT_a i]),
  (0x24, [LE_OUT_sat i, LE_OUT_u i]),
  (0x28, [LE_INT_LO_int i]),
  (0x2c, [LE_INT_HI_int i]),
  (0x30, [LE_CNT_overrun i, LE_CNT_consec i]),
  (0x34, [LE_INJ_CTRL_wave i, LE_INJ_CTRL_point i, LE_INJ_CTRL_hold i, LE_INJ_CTRL_amp i]),
  (0x38, [LE_INJ_FREQ_step i]),
  (0x3c, [LE_CAP_CTRL_len_m1 i, LE_CAP_CTRL_decim i, LE_CAP_CTRL_sel i]),
  (0x40, [LE_CAP_STATUS_state i, LE_CAP_STATUS_refused i, LE_CAP_STATUS_count i])]

end Sys2Proof.Machine
end

