-- ==== Sys2Proof/Machine/State.lean ====
section
/-! DEFINITION. The state of the module: plain data, holding every piece of state the spec names. Register fields
live in `csr`; what the spec keeps beside the registers lives in one record per subsystem. -/

namespace Sys2Proof.Machine

open Sys2Proof

/-- Faults of the machine. No command of this block ends in one; the type is closed and this constructor is
raised by nobody (safe: a fault would only stop a run). -/
inductive Fault where
  /-- Raised by no command (safe). -/
  | none
  deriving DecidableEq, Repr

/-- Refusals of the machine. -/
inductive Refusal where
  /-- Raised by the dispatcher alone, for a command whose meaning is not written yet (safe). -/
  | notModelled (mnemonic : String)
  deriving DecidableEq, Repr

/-- A run of buckets: its first bucket and, once it has ended, its last. -/
structure Span where
  fromO : Nat
  fromB : Nat
  until? : Option (Nat × Nat)
  deriving DecidableEq, Repr

/-- The frame being written in a full load (R70): its number, halves complete, bytes of the half due. -/
structure PlateCur where
  frame : Nat
  halves : Nat
  part : Nat
  deriving DecidableEq, Repr

/-- A by-pass of a quarantine unit, named by its first frame, with the buckets it covered: kept because a
fragment's flags depend on by-passes over its window (text after R78). -/
structure ByPass where
  unit : Nat
  fromO : Nat
  fromB : Nat
  /-- Last bucket of the by-pass, absent while it lasts. -/
  until? : Option (Nat × Nat)
  deriving DecidableEq, Repr

/-- The plate and its loads (R54 to R86). -/
structure Plate where
  /-- Plate words that are not zero, by frame × 16 + word, 64 bits each (R55). -/
  mem : List (Nat × Nat)
  /-- Staged words that are not zero, by staged frame × 16 + word, 64 bits each (R74). -/
  stage : List (Nat × Nat)
  /-- The frame being written in the current load (R70). -/
  cur : Option PlateCur
  /-- Frames counted bad in the current load (R70). -/
  badFrames : List (Nat × Bool)
  /-- CX_PLATE_ERR_FRAME holds a record (R66). -/
  errHeld : Bool
  /-- A commit has succeeded since power-up (R73). -/
  committed : Bool
  /-- The shadows of frames 0x0001 to 0x000F as committed, by frame × 16 + word (R58). -/
  shadow : List (Nat × Nat)
  /-- Units quarantined by an error, by first frame (R82). -/
  quar : List (Nat × Bool)
  /-- The count of buckets (State.clock) from which such a unit is by-passed, where it is not so at once (R82). -/
  quarFrom : List (Nat × Nat)
  /-- The lane that carried the commit under check (R86). -/
  commitLane : Option Nat
  /-- The read-back of the running reload found every word good (R77). -/
  readBackOk : Bool
  /-- First frame and number of frames less one of the reload under way (R75, R77). -/
  relFirst : Nat
  relCount : Nat
  /-- By-passes of units, newest first (text after R78). -/
  hist : List ByPass
  deriving DecidableEq, Repr

/-- What waits for the next bucket edge (R101, R170, R177, R207, R218, R219). -/
inductive EdgeAct where
  /-- The machine-synchronous domain stops (R101). -/
  | stop
  /-- A flush begins (R207). -/
  | flush
  /-- CX_HQ_BANKS.retire takes effect (R218). -/
  | retire
  /-- A cleared bank joins the in-service set (R219). -/
  | join (bank : Nat)
  /-- The tables computed from a column's stamps are installed (R177, R179). -/
  | tables (die : Nat) (hist : List (List Nat))
  /-- The readable histogram bank begins to be cleared (R276). -/
  | swap
  /-- A tile was removed (R471). -/
  | tileGone
  deriving DecidableEq, Repr

/-- The machine-time unit (R87 to R124) beside its registers. -/
structure Mt where
  /-- Orbit, 32 bits (R90). -/
  orbit : Nat
  /-- Bucket, 0 to N_B − 1 (R90). -/
  bucket : Nat
  /-- N_B in force (R89). -/
  nb : Nat
  /-- The machine-synchronous domain runs (R31, R101). -/
  running : Bool
  /-- An MT load is armed for the next orbit start (R93). -/
  held : Bool
  /-- Orbit that time transfer places at that load, instead of CX_MT_LOAD_ORBIT (R388). -/
  place : Option Nat
  /-- Last marker bucket k ≠ 0, with how many consecutive markers gave it (R100). -/
  lastK : Option Nat
  equalK : Nat
  /-- The last gate accepted was at least 1,000 ms long (R108). -/
  longGate : Bool
  /-- A marker mismatch occurred in the gate under way (R109). -/
  gateBad : Bool
  /-- Ratio bits [47:32] latched for the next read of HI (R111). -/
  ratioLatch : Nat
  /-- EV_CX_CAL_MISSED has been raised since missed was last read as 0 (R120). -/
  missedRaised : Bool
  /-- Quiet windows in force, as (first, last), window 0 first (R123). -/
  quiet : List (Nat × Nat)
  /-- OVN_RDY land (R112). -/
  ovnRdyPin : Bool
  /-- Ready has cleared after having been set (R115, R552). -/
  readyLost : Bool
  /-- ORBIT_OUT land: high in bucket 0 of each orbit (R96). -/
  orbitOut : Bool
  /-- Remaining offset in slew, in ticks (R106). -/
  offset : Int
  /-- Buckets passed in holdover, newest episode first (R102). -/
  holds : List Span
  /-- The current holdover was ordered by the fabric (R101, cause 0b10). -/
  fabricHold : Bool
  /-- A marker mismatch occurred in the orbit under way (R100). -/
  misThis : Bool
  /-- Length of the gate under way in ms (R110). -/
  gateMs : Nat
  /-- Tick, 15 bits, as far as a capture has told it in the current bucket (R90, R94). -/
  tick : Nat
  /-- Calendar entries dispatched in the current bucket (R118). -/
  fired : List Nat
  /-- What waits for the next bucket edge, in the order it came. -/
  edge : List EdgeAct
  /-- Slew not yet making up a whole tick, in units of 10^-7 tick (R106). -/
  slewAcc : Nat
  deriving DecidableEq, Repr

/-- A leading edge stamped and not yet completed (R166 to R175). -/
structure Lead where
  orbit : Nat
  bucket : Nat
  /-- Corrected time within the stamped bucket, in u, without offsets (R167). -/
  t : Nat
  /-- O_die + O_l and O_l at the leading edge (R168, R170). -/
  ofs : Int
  ofsL : Int
  /-- Flags known at the leading edge: started-high, test-coincident, pile-up, injected (R172). -/
  flags : Nat
  /-- Pair mode: the start channel's last delivered hit, as bucket and T + O_l (R175). -/
  start : Option (Nat × Nat × Int)
  deriving DecidableEq, Repr

/-- An injection window (R146): the strobe's bucket and tick, whether the channel was idle, edges in the window. -/
structure InjWin where
  orbit : Nat
  bucket : Nat
  tick : Nat
  idle : Bool
  edges : Nat
  counted : Bool
  deriving DecidableEq, Repr

/-- A channel beside its registers (R130 to R150). -/
structure Chan where
  /-- The discriminator output is high, since this count of buckets. -/
  high : Bool
  since : Nat
  recov : Bool
  lead : Option Lead
  inj : Option InjWin
  /-- Rate window and leading edges counted in it (R140). -/
  win : Nat
  edges : Nat
  /-- Derandomiser, oldest first: orbit, hit word, an edge was stamped in an invalid bucket (R135, R165). -/
  fifo : List (Nat × Nat × Bool)
  /-- Last hit delivered: bucket and T + O_l in u (R175). -/
  last : Option (Nat × Nat × Int)
  /-- The bin table in force when the open leading edge was stamped, kept when it is replaced (R170). -/
  tab : Option (List Nat)
  /-- The pulse under way has been completed as a TOT overflow (R174). -/
  done : Bool
  /-- The pulse under way gives no hit, whenever its timing might resume (R126, R149, R150). -/
  mute : Bool
  deriving DecidableEq, Repr

/-- An idle channel. -/
def Chan.new : Chan := ⟨false, 0, false, none, none, 0, 0, [], none, none, false, false⟩

/-- An FE die beside its registers and channels. -/
structure FeDie where
  /-- Channel after which the encoder goes on (R135). -/
  rr : Nat
  /-- Bucket count of the last accepted strobe (R145). -/
  strobe : Option Nat
  /-- A refresh slice of FE_CD_STATUS.column is under way (R179). -/
  slice : Bool
  /-- Stamps of the slowest channel in the current accumulation (R177). -/
  stamps : Nat
  /-- EV_FE_CD_REFUSED has been raised since refused was read as 0 (R191). -/
  refRaised : Bool
  /-- Runs of buckets in which the servo was not locked, as counts of buckets (State.clock): first, and last once it has
  ended; newest run first (R163). -/
  unl : List (Nat × Option Nat)
  /-- That count at the first bucket of the slice under way (R179). -/
  sliceAt : Nat
  deriving DecidableEq, Repr

/-- A die just started. -/
def FeDie.new : FeDie := ⟨511, none, false, 0, false, [(0, none)], 0⟩

/-- A bucket descriptor (R198), in the ring or in the keep table. -/
structure Desc where
  head : Nat
  tail : Nat
  count : Nat
  dropped : Nat
  holdover : Bool
  feAbsent : Nat
  orbit : Nat
  bucket : Nat
  pins : Nat
  written : Bool
  valid : Bool
  deriving DecidableEq, Repr

/-- A cleared descriptor (R207). -/
def Desc.clear : Desc := ⟨0, 0, 0, 0, false, 0, 0, 0, 0, false, false⟩

/-- A hit waiting in the sort buffer for its bucket to be sealed (R192): die, orbit of its bucket, hit word. -/
structure SortHit where
  die : Nat
  orbit : Nat
  word : Nat
  deriving DecidableEq, Repr

/-- A sealed bucket being written: its slot and the hits still in the sort buffer (R201). -/
structure WaitBkt where
  slot : Nat
  orbit : Nat
  hits : List Nat
  deriving DecidableEq, Repr

/-- An overload hit that entered the sort buffer: its channel, its TOA, and how long its window runs after it (R138). -/
structure Shadow where
  ch : Nat
  orbit : Nat
  bucket : Nat
  toa : Nat
  len : Nat
  deriving DecidableEq, Repr

/-- The hit store (R192 to R224) beside its registers. -/
structure Store where
  /-- Entries that are not zero, by bank × 2^20 + row (R197). -/
  entries : List (Nat × Nat)
  /-- Link words that are not zero, by row (R199). -/
  links : List (Nat × Nat)
  /-- Descriptors by ring slot (R200). -/
  desc : List (Nat × Desc)
  /-- The keep table by place (R205). -/
  keep : List (Nat × Desc)
  /-- Unsealed hits of the sort buffer (R192). -/
  sort : List SortHit
  /-- Hits dropped of buckets not yet sealed, by slot (R208). -/
  sortDrop : List (Nat × Nat)
  /-- Sealed buckets waiting to be written, oldest first (R201). -/
  wq : List WaitBkt
  /-- Rows not on the rebuilt part of the free list: taken since the flush or disabled then. -/
  taken : List (Nat × Bool)
  /-- Rows the rebuilt free list still gives (R207, R214). -/
  fresh : Nat
  /-- Rows freed since, oldest first (R203). -/
  freed : List Nat
  /-- Rows disabled (R221). -/
  disabled : List (Nat × Bool)
  /-- A flush has completed since power-up (R207). -/
  everFlushed : Bool
  /-- The count of buckets (State.clock) at which the last flush ended (R223). -/
  flushedAt : Nat
  /-- Banks brought in by the last commit and still being cleared (R217). -/
  commitClear : Nat
  /-- The ring is stopped by a freeze (R285). -/
  stopped : Bool
  /-- Last bucket sealed since the last flush or restart (R194). -/
  lastSealed : Option (Nat × Nat)
  /-- Shadow windows that may still reach buffered hits (R138). -/
  shadows : List Shadow
  /-- Half-rows being copied to a spare: die and row (R220). -/
  spareDue : List (Nat × Nat)
  /-- Banks retired since a row was written, by row, where there are any (R212). -/
  stale : List (Nat × Nat)
  deriving DecidableEq, Repr

/-- The hit map of a region for a map period under way (R229). -/
structure TgMap where
  orbit : Nat
  bucket : Nat
  region : Nat
  map : Nat
  deriving DecidableEq, Repr

/-- A trigger: an accept or a chaser opening in the queue of R254, with the bucket in which it reached the engine. -/
structure Trig where
  accept : Bool
  cls : Nat
  number : Nat
  orbit : Nat
  bucket : Nat
  /-- The accept carried a bucket not below N_B (R251). -/
  bad : Bool
  atO : Nat
  atB : Nat
  deriving DecidableEq, Repr

/-- The trigger engine (R226 to R257) beside its registers. -/
structure Tg where
  /-- Region maps of periods not yet closed. -/
  maps : List TgMap
  /-- Running timers, by 2 × chaser + timer: map periods left (R239). -/
  timers : List (Nat × Nat)
  /-- The next local trigger number, 40 bits (R253). -/
  next : Nat
  /-- The queue of R254, oldest first. -/
  queue : List Trig
  /-- Words of the last map period that are not zero, by 32 × lane + slot (R241). -/
  words : List (Nat × Nat)
  /-- The map period of those words. -/
  period : Nat × Nat
  /-- Accepts of frames released in the current bucket that the engine has not taken yet, in item order (R330). -/
  arrived : List Nat
  deriving DecidableEq, Repr

/-- An open or closed cluster of a record (R271, R272). -/
structure Cluster where
  /-- Position of the seed among the record's included hits. -/
  order : Nat
  seed : Nat
  /-- Bucket of the seed, counted from the first of the window. -/
  off : Nat
  size : Nat
  /-- Σ w and Σ w·t, t from the start of the seed's bucket. -/
  w : Nat
  wt : Nat
  flags : Nat
  /-- Members: channel and time from the start of the window. -/
  members : List (Nat × Nat)
  deriving DecidableEq, Repr

/-- An open record (R259 to R273). -/
structure Rec where
  ctx : Nat
  /-- Its entry in the send-order queue (R302). -/
  id : Nat
  /-- 0 accept, 1 chaser opening, 2 dump (R293). -/
  origin : Nat
  cls : Nat
  number : Nat
  orbit : Nat
  bucket : Nat
  bad : Bool
  /-- Words 0 to 3 of the class frame at opening (R258). -/
  w0 : Nat
  w1 : Nat
  w2 : Nat
  w3 : Nat
  /-- First bucket and number of buckets of the window. -/
  winO : Nat
  winB : Nat
  len : Nat
  /-- Next bucket of the window to be read. -/
  next : Nat
  /-- Buckets of the window pinned and not yet read; buckets found absent. -/
  pins : List Nat
  gone : List Nat
  /-- First bucket of the window that is never sealed, once the ring or acquisition has stopped (R261). -/
  endAt : Option Nat
  trimmed : Bool
  overlap : Bool
  frozen : Bool
  holdover : Bool
  feAbsent : Nat
  damaged : Nat
  /-- A unit it depends on was by-passed in its window, as judged when MT was renumbered (text after R78, R91). -/
  quar : Bool
  /-- Included hits: bucket of the window and hit word (R268). -/
  hits : List (Nat × Nat)
  open_ : List Cluster
  closed : List Cluster
  deriving DecidableEq, Repr

/-- The last record of a class that was opened: b_T and the last bucket of its window (R264, R265). -/
structure LastRec where
  cls : Nat
  orbit : Nat
  bucket : Nat
  endO : Nat
  endB : Nat
  deriving DecidableEq, Repr

/-- A rate window under way (R283): buckets sealed and hits counted. -/
structure RateWin where
  n : Nat
  hits : Nat
  deriving DecidableEq, Repr

/-- The record engine (R258 to R291) beside its registers. -/
structure Rc where
  /-- Open records, opened earliest first. -/
  recs : List Rec
  /-- Readout contexts in use (R278). -/
  ctxUsed : List (Nat × Bool)
  last : List LastRec
  rates : List (Nat × RateWin)
  /-- The count of buckets (State.clock) at whose edge a triggered freeze stops the ring: that of b_F + P + 65 (R284). -/
  stopAt : Nat
  /-- Context of the dump that runs (R286). -/
  dump : Option Nat
  /-- Histogram counters that are not zero, by 66 × channel + bin, with 64 underflow and 65 overflow: banks 0 and 1. -/
  hist0 : List (Nat × Nat)
  hist1 : List (Nat × Nat)
  /-- The count of buckets (State.clock) at the first bucket of the clearing under way (R276). -/
  clearAt : Nat
  deriving DecidableEq, Repr

/-- An entry of the send-order queue (R301, R302): the trigger's identity, and its fragment once it is ready. -/
structure Frag where
  id : Nat
  origin : Nat
  cls : Nat
  number : Nat
  orbit : Nat
  bucket : Nat
  /-- The readout context it holds. -/
  ctx : Option Nat
  /-- It waits in the refusal queue (R278). -/
  refused : Bool
  /-- The words before the trailer, with prec_loss 0, once ready. -/
  body : Option (List Nat)
  /-- Blocks it holds in the fragment buffer. -/
  blocks : Nat
  /-- Its turn among completions (R302, order 1). -/
  turn : Nat
  deriving DecidableEq, Repr

/-- A fragment handed to a data path (R303, R308). -/
structure OutFrag where
  /-- Its number among the fragments handed to paths. -/
  key : Nat
  /-- Its send-order entry, when it is one of the module's own records or holds one as its contribution. -/
  own : Option Nat
  src : Nat
  fseq : Nat
  words : List Nat
  /-- Contexts freed and blocks returned when it has left. -/
  ctxs : List Nat
  blocks : Nat
  /-- Next block to be sent on the path, and blocks sent on any path. -/
  next : Nat
  ever : Nat
  deriving DecidableEq, Repr

/-- A block sent and not acknowledged: fragment and block index. -/
structure OutBlk where
  key : Nat
  bidx : Nat
  deriving DecidableEq, Repr

/-- A fragment waiting for a data path or a merge: source, its sequence number once it has one, words, what it
holds. -/
structure WaitFrag where
  /-- Its send-order entry, when it is one of the module's own records or holds one as its contribution. -/
  own : Option Nat
  src : Nat
  fseq : Option Nat
  words : List Nat
  ctxs : List Nat
  blocks : Nat
  deriving DecidableEq, Repr

/-- A fragment being received (R309). -/
structure Partial where
  src : Nat
  fseq : Nat
  next : Nat
  words : List Nat
  deriving DecidableEq, Repr

/-- The data path of a port, both directions (R303 to R310). -/
structure DPath where
  started : Bool
  /-- Blocks numbered so far; the next sequence number is this modulo 2^16. -/
  nseq : Nat
  ack : Nat
  window : Nat
  /-- Fragments handed and not yet acknowledged, oldest first; blocks sent and not yet acknowledged. -/
  frags : List OutFrag
  out : List OutBlk
  /-- How many of those blocks from the oldest still have to be sent again: the rest have been. -/
  resend : Nat
  /-- Bytes or units of the last block sent: header payload, data words, end payload or Ethernet frame bytes. -/
  txStart : Nat
  txWords : List Nat
  txEnd : Nat
  txEth : List Nat
  /-- The 66-bit units of that block as they left, and the lane they left on (R303, R304, R311, R346). -/
  txUnits : List Nat
  txLane : Nat
  /-- Last block received good with every earlier one; the fragment being received; a failed block to be told. -/
  rxAck : Nat
  rxPart : Option Partial
  rxNak : Bool
  /-- Complete fragments received, to be forwarded (R374). -/
  fwd : List WaitFrag
  /-- Blocks received good ahead of the sequence, on a bonded group: seq, block start, words (R346). -/
  rxHeld : List (Nat × Nat × List Nat)
  /-- Credit last sent (R307): payload of its unit, bytes of its Ethernet frame, units as they left. -/
  credit : Nat
  creditEth : List Nat
  creditUnits : List Nat
  deriving DecidableEq, Repr

/-- A data path not started (R306). -/
def DPath.new : DPath := 
  ⟨false, 0, 0xFFFF, 0, [], [], 0, 0, [], 0, [], [], 0, 0xFFFF, none, false, [], [], 0, [], []⟩

/-- A contribution to a merge: member, 63 for the module's own, the port it came from unless it is own. -/
structure Contrib where
  member : Nat
  port : Option Nat
  frag : WaitFrag
  deriving DecidableEq, Repr

/-- A stave merge (R315): what has joined, members that have come, and the merged fragment once it is built. -/
structure Merge where
  number : Nat
  contribs : List Contrib
  came : Nat
  cut : Bool
  built : Option WaitFrag
  deriving DecidableEq, Repr

/-- Fragments and the streaming interface (R292 to R320) beside its registers. -/
structure Str where
  /-- The send-order queue, oldest trigger first (R302). -/
  order : List Frag
  nextId : Nat
  nextTurn : Nat
  nextKey : Nat
  /-- Fragments not sent since the previous one (R281, R301). -/
  prec : Nat
  paths : List (Nat × DPath)
  /-- Source served last in the round robin of R374: 0 own, 1 merged, 2 + p a receiving path. -/
  robin : Nat
  /-- Fragments waiting to be merged, merges open in order of opening, merged fragments to be sent. -/
  mergeIn : List Contrib
  merges : List Merge
  merged : List WaitFrag
  /-- Trigger numbers whose merges have been sent (R317). -/
  mergedNums : List Nat
  /-- Fragments received, by src × 2^14 + fseq (R309). -/
  seen : List (Nat × Bool)
  /-- The data up route uses FB_UP.d_sec (R376). -/
  dSec : Bool
  /-- CX_STR_RX.bad has been counted up since it last read 0 (R319). -/
  rxBadRaised : Bool
  deriving DecidableEq, Repr

/-- A synchronous frame as it left the land (R327 to R329). -/
structure FrameOut where
  header : Nat
  payload : Nat
  crc : Nat
  /-- The bits on the wire, the first to leave as bit 0: comma, header, scrambled payload, CRC. -/
  wire : Nat
  deriving DecidableEq, Repr

/-- A lane beside its registers (R333 to R351). -/
structure Lane where
  /-- A direction has failed, or the lane is out, and has not rejoined (R345, R350). -/
  rxFailed : Bool
  txFailed : Bool
  /-- Power state a direction takes when its wake or shutdown completes (R341, R325). -/
  heldRx : Option Nat
  heldTx : Option Nat
  /-- Release latency before the last loss of symbol lock (R337). -/
  latHeld : Option Nat
  /-- Consecutive eye measurements below the thresholds, and with steady coefficients (R338, R339). -/
  lowWarn : Nat
  lowFail : Nat
  steady : Nat
  /-- The eye has been measured since the last symbol lock. -/
  eyeSeen : Bool
  /-- Consecutive frames received with reverse_lost (R345). -/
  rev : Nat
  /-- Good frames or bits the loop checker has seen before it synchronises; the event has been raised since errors
  read as 0 (R344). -/
  loopGood : Nat
  errRaised : Bool
  /-- Frames received and not released, oldest first. -/
  frames : List FrameIn
  /-- Payloads to be forwarded in trigger-primitive frames of the lane: count of buckets at the frame, payload (R375). -/
  fwd : List (Nat × Nat)
  /-- Probe answers to be sent on this lane (R363). -/
  answers : List (List Nat)
  /-- The last frame sent. -/
  sent : Option FrameOut
  /-- Consecutive good frames of a failed receiver, and frames without reverse_lost for a failed transmitter (R350). -/
  goodRx : Nat
  goodTx : Nat
  /-- The timing/control payload that a group has filled for the bucket counted, not sent yet (R347). -/
  due : Option (Nat × Nat)
  /-- State of the test-data generator (R343). -/
  prbs : Nat
  deriving DecidableEq, Repr

/-- A lane that has done nothing. -/
def Lane.new : Lane :=
  ⟨false, false, none, none, none, 0, 0, 0, false, 0, 0, false, [], [], [], none, 0, 0, none, 0⟩

/-- A Solam item waiting in a port's queue, with what its hallmark needs (R382, R383). -/
inductive Solam where
  /-- PDELAY_RESP: seq and turnaround. -/
  | resp (seq turnaround : Nat)
  /-- SYNC: the item as received, its correction with the link delay, its arrival as a tick of the orbit. -/
  | sync (item corr arrival : Nat)
  /-- ANNOUNCE, steps already increased. -/
  | announce (item : Nat)
  /-- PDELAY_REQ: seq. -/
  | req (seq : Nat)
  deriving DecidableEq, Repr

/-- The transmit queues of a port (R369), each with its oldest item first: accepts, fast commands and Solam items with the
count of buckets (State.clock) from whose frame on they may leave (R370, R385). -/
structure PortQ where
  accepts : List (Nat × Nat)
  fast : List (Nat × Nat)
  msgs : List (List Nat)
  solam : List (Nat × Solam)
  /-- Busy bit of the last frame received (R372). -/
  busy : Bool
  /-- PDELAY_REQs that no response has come for: sequence number and count of buckets when queued, newest first
  (R384). -/
  asked : List (Nat × Nat)
  /-- Next PDELAY sequence number. -/
  seq : Nat
  /-- The last accepted link delays, newest first, at most 16. -/
  delays : List Nat
  deriving DecidableEq, Repr

/-- Empty queues. -/
def PortQ.new : PortQ := ⟨[], [], [], [], false, [], 0, []⟩

/-- The fabric beside its registers (R356 to R390). -/
structure Fb where
  ports : List (Nat × PortQ)
  /-- The control up route uses FB_UP.tc_sec (R376, R379). -/
  tcSec : Bool
  /-- Services lost and not regained: bits 5:0 tc, bits 13:8 data (R376, R379). -/
  lost : Nat
  /-- A return of data traffic to the primary waits for the secondary path (R379). -/
  dReturn : Bool
  /-- The gap under way on the MT source lane: first bucket and buckets (R373). -/
  gap : Option (Nat × Nat)
  /-- D is to be latched into D_ref at the next SYNC used (R386). -/
  refDue : Bool
  /-- A master candidate: prio, master, consecutive items (R389). -/
  cand : Option (Nat × Nat × Nat)
  /-- Usable SYNC items since the change of master (R389). -/
  syncs : Nat
  /-- The slew under way follows the SYNC items (R390). -/
  follow : Bool
  /-- The MT source lane has been chosen: by the first discovery lane to lock, or by the fabric (R97). -/
  srcSet : Bool
  deriving DecidableEq, Repr

/-- A merge buffer (R401): the open word of a coded memory, its byte-valid mask and the bytes held. -/
structure MBuf where
  word : Nat
  mask : Nat
  data : Nat
  deriving DecidableEq, Repr

/-- An entry of the fault tracker (R411): class 0 or 1, memory code, index, count. -/
structure Track where
  cls : Nat
  mem : Nat
  index : Nat
  count : Nat
  deriving DecidableEq, Repr

/-- A host-started burnish pass (R408): memory, next index, index after the last, and its counts so far (R409). -/
structure BnPass where
  mem : Nat
  next : Nat
  stop : Nat
  read : Nat
  corr : Nat
  uncorr : Nat
  repaired : Nat
  deriving DecidableEq, Repr

/-- Protection of stored data (R394 to R416) beside its registers. -/
structure Prot where
  /-- Words and bytes known bad, by memory code × 2^24 + index: 1 uncorrectable, 2 poison code (R396, R407). -/
  marks : List (Nat × Nat)
  /-- Merge buffers of the plate window, the instruction RAM and test access (R401). -/
  bufPlate : Option MBuf
  bufRam : Option MBuf
  bufTest : Option MBuf
  /-- Corrected values held by the repair file, by entry (R412). -/
  repair : List (Nat × Nat)
  /-- The fault tracker of classes 0 and 1, oldest window first (R411). -/
  track : List Track
  /-- Counts of fault classes 2 to 4, by class × 256 + memory code or critical word (R410). -/
  counts : List (Nat × Nat)
  /-- Patrol: next index by memory code (R404). -/
  pos : List (Nat × Nat)
  /-- Patrol passes completed, by memory code (R406). -/
  passes : List (Nat × Nat)
  /-- Patrol has begun on the memory with this code, one bit each (R404). -/
  started : Nat
  /-- The host-started pass (R408). -/
  pass : Option BnPass
  /-- Generation tags written by the last vote that rewrote a critical word, by die × 64 + word: 0 the CX, 1 the SV;
  writes of the word in between advance the tag of its copies (R397). -/
  tags : List (Nat × Nat)
  deriving DecidableEq, Repr

/-- A coefficient set of the loop engine as register codes (R420, R424). -/
structure Coefs where
  r : Nat
  uMin : Nat
  uMax : Nat
  eLim : Nat
  tLim : Nat
  kp : Nat
  ki : Nat
  kd : Nat
  kff : Nat
  a : Nat
  deriving DecidableEq, Repr

/-- A loop between samples (R420 to R422): I and D with 20 fraction bits, e[n−1], u[n−1], consecutive samples with
|e| above E_lim. -/
structure Loop where
  i : Int
  d : Int
  e : Int
  u : Nat
  ovr : Nat
  deriving DecidableEq, Repr

/-- A loop started from off (R421). -/
def Loop.new : Loop := ⟨0, 0, 0, 0, 0⟩

/-- An instance of the loop engine beside its registers (R424, R426): its host set, the capture memory (entry, or
4,096 × loop + entry on the CX), and of the last injection the loop, the samples so far and the PRBS11 register. -/
structure Engine where
  host : Coefs
  caps : List (Nat × Nat)
  loop : Nat
  k : Nat
  prbs : Nat
  deriving DecidableEq, Repr

/-- An instance as powered up, with no host set. -/
def Engine.new : Engine := ⟨⟨0, 0, 0, 0, 0, 0, 0, 0, 0, 0⟩, [], 0, 0, 0x7FF⟩

/-- A power unit beside its registers. -/
structure PUnit where
  /-- Its loop, or the newest complete state copy while it is standby (R430). -/
  loop : Loop
  /-- Reference of the soft start under way (R439). -/
  soft : Option Nat
  /-- Switching periods of measurement blanking left (R431). -/
  blank : Nat
  /-- Consecutive cycles with a phase current limited (R444). -/
  limited : Nat
  /-- Consecutive measurements below 9.0 V while standby with the arbiter lost (R432). -/
  low : Nat
  /-- Generation tag of the last state copy (R430). -/
  tag : Nat
  deriving DecidableEq, Repr

/-- A unit that is off. -/
def PUnit.new : PUnit := ⟨Loop.new, none, 0, 0, 0, 0⟩

/-- Power and the loop engine (R417 to R449) beside their registers. -/
structure Pwr where
  units : List (Nat × PUnit)
  /-- Loop-engine instances: 0 PU-A, 1 PU-B, 2 the CX (R419). -/
  engines : List (Nat × Engine)
  /-- Consecutive refused swaps (R436). -/
  refusals : Nat
  /-- Outputs (u_O, u_I) compared in the overlap cycles so far, newest first (R435). -/
  pairs : List (Nat × Nat)
  deriving DecidableEq, Repr

/-- The bias guard (R450 to R469) beside its registers. Sides are 0 for channel and output A, 1 for B. -/
structure Guard where
  /-- Channels judged closed by their own level, before chatter (R453, R455). -/
  rawA : Bool
  rawB : Bool
  /-- Consecutive strap samples that differ from the image (R452). -/
  strapDiff : Nat
  /-- Both channels have been open at once in the proof cycle under way (R457). -/
  opened : Bool
  /-- The output under a dark test pulse (R462). -/
  pulse : Option Nat
  /-- The supervisor clock has failed and has not returned (R464). -/
  clkOut : Bool
  deriving DecidableEq, Repr

/-- A region loop beside its registers (R481 to R484). -/
structure RLoop where
  loop : Loop
  /-- Admitted hits since the last sample, and the sum of their TOT (R481). -/
  n : Nat
  sum : Nat
  /-- Consecutive empty samples and consecutive overruns (R482, R423). -/
  empty : Nat
  late : Nat
  /-- The output saturated at the last sample (R447). -/
  sat : Bool
  /-- Trims latched at enable, and trims last written, by region position (R483). -/
  bases : List Nat
  trims : List Nat
  deriving DecidableEq, Repr

/-- A loop never enabled. -/
def RLoop.new : RLoop := ⟨Loop.new, 0, 0, 0, 0, false, [], []⟩

/-- The sensor tile (R470 to R490) beside its registers. -/
structure Tile where
  /-- Exposure accumulators: hits, charge with 40 fraction bits below 1 µC, dose in 0.01 Gy (R477, R508). -/
  hits : Nat
  charge : Nat
  dose : Nat
  /-- Last good codes of the four dose monitors, by monitor, and the highest since identification (R477). -/
  doseNow : List (Nat × Nat)
  doseHigh : Option Nat
  /-- Time of the last good result of each leakage input since identification, in µs (R508). -/
  leakAt : List (Nat × Nat)
  /-- The I²C transaction under way: write, bytes less one, address (R479). -/
  i2cOp : Bool
  i2cLen : Nat
  i2cAddr : Nat
  /-- Region loops that are not as never enabled. -/
  loops : List (Nat × RLoop)
  deriving DecidableEq, Repr

/-- The architectural state of Milsy's cores, which run in lockstep (R491): the program counter, integer registers and
CSRs that differ from their reset values. -/
structure Core where
  pc : Nat
  x : List (Nat × Nat)
  csr : List (Nat × Nat)
  deriving DecidableEq, Repr

/-- A running DMA channel (R501): next source and destination, words left, abort asked. -/
structure Dma where
  src : Nat
  dst : Nat
  left : Nat
  abort : Bool
  deriving DecidableEq, Repr

/-- An injected conversion request (R512): input, from the calendar, marked by a self-calibration. -/
structure HkReq where
  input : Nat
  cal : Bool
  marked : Bool
  deriving DecidableEq, Repr

/-- The housekeeping ADC beside its registers (R507 to R515). -/
structure Hk where
  /-- Inputs of the sequence under way still to be converted, the current one first (R510). -/
  seq : List Nat
  /-- The current slot was aborted (R512). -/
  restarted : Bool
  /-- A period start waits for the ADC (R510). -/
  waiting : Bool
  queue : List HkReq
  /-- Self-calibration: 0 none, 1 converting marked requests, 2 calibrating (R514). -/
  phase : Nat
  /-- The reference was not ready when the conversion under way began (R509). -/
  nr : Bool
  deriving DecidableEq, Repr

/-- The management subsystem (R491 to R518) beside its registers. -/
structure Mgmt where
  core : Core
  /-- Milliseconds the watchdog counts from its last restart; its own count is timed outside (R496). -/
  wdog : Nat
  /-- An automatic restart may follow the halt, 1 ms after it (R495). -/
  autoDue : Bool
  /-- The timer interrupt is pending (R497). -/
  timer : Bool
  /-- MG_UPTIME when it was last told, in µs; bits [63:32] latched by the last read of LO (R497). -/
  uptime : Nat
  upLatch : Nat
  /-- Instruction-RAM words that are not zero, by physical half × 16,384 + word, 64 bits each (R492). -/
  iram : List (Nat × Nat)
  /-- Data-RAM bytes that are not zero, by offset (R492). -/
  dram : List (Nat × Nat)
  /-- Running DMA channels (R501). -/
  dma : List (Nat × Dma)
  /-- Log entries of the host queue not read yet, oldest first (R506). -/
  evq : List Nat
  hk : Hk
  deriving DecidableEq, Repr

/-- The test access port (R532 to R534): the instruction, the boundary outputs held, what the next Capture-DR of
CTRL_ACCESS and HS_ENTRY takes, and the data last shifted out on TDO. -/
structure Tap where
  ir : Nat
  boundary : Nat
  ctrl : Nat
  hs : Nat
  tdo : Nat
  deriving DecidableEq, Repr

/-- In-service repair and test access (R519 to R535) beside their registers. -/
structure Svc where
  /-- FE dies whose service changes, with the state they go to (R526). -/
  feChange : List (Nat × Nat)
  /-- The block and index under assay (R527). -/
  assay : Option (Nat × Nat)
  /-- Effective orbit of the last acquisition request that took effect (R519). -/
  acqLast : Nat
  /-- Banks whose contents an assay left undefined (R529). -/
  bankUndef : Nat
  tap : Tap
  deriving DecidableEq, Repr

/-- A register field whose written value is not in force yet: the count of buckets (State.clock) at which it comes
into force, the field's key, and the value in force until then (R118, R142, R143, R150, R170, R175, text after R230). -/
structure Was where
  acts : Nat
  key : Nat
  old : Nat
  deriving DecidableEq, Repr

/-- The module. -/
structure State where
  /-- Register fields that differ from their Reset value, by field key (R12, R16). -/
  csr : List (Nat × Nat)
  /-- Latched event requests: source and argument, source rising (R504). -/
  evReq : List (Nat × Nat)
  /-- Functions whose shutdown is under way (R47, R48). -/
  shut : List ShutFn
  /-- A role swap is due in a quiet window (R42, R434). -/
  dueSwap : Bool
  /-- Burnish windows that are due, by length, oldest first (R42, R408). -/
  dueBurnish : List Nat
  /-- Code-density refreshes due, by die: the local column (R42, R179). -/
  dueCd : List (Nat × Nat)
  /-- The disruptive activity under way, coded as CX_QUIET_DEFER.last (R43). -/
  activity : Option Nat
  /-- Orbit and last bucket of the quiet window in which activities were last deferred (R43). -/
  deferWin : Nat × Nat
  /-- Activities deferred in it, bit k for activity k as coded in CX_QUIET_DEFER.last (R43, R44). -/
  deferMask : Nat
  /-- Buckets for which an FE die was isolated or off, newest run first (R194, R525). -/
  feByp : List (Nat × Span)
  /-- Field values still in force although newer ones have been written, oldest write first. -/
  was : List Was
  /-- Status and data of the last control transaction answered (R359, R547). -/
  answer : Nat × Nat
  /-- The model's own counter of free values drawn (no state of the spec). -/
  free : Nat
  /-- The plate (R54 to R86). -/
  plate : Plate
  /-- The machine-time unit (R87 to R124). -/
  mt : Mt
  /-- Channels that are not idle, by module channel (R10). -/
  chans : List (Nat × Chan)
  /-- FE dies not as just started. -/
  dies : List (Nat × FeDie)
  /-- Region latches of the FE dies that are not zero: word 0 of the region-input frame (R126). -/
  latch : List (Nat × Nat)
  /-- Buckets of the machine-synchronous domain counted since power-up. -/
  clock : Nat
  /-- That count at the end of the last full load (R140). -/
  loadedAt : Nat
  /-- The hit store and its merge (R192 to R224). -/
  store : Store
  /-- The trigger engine (R226 to R257). -/
  tg : Tg
  /-- The record engine (R258 to R291). -/
  rc : Rc
  /-- Fragments and the streaming interface (R292 to R320). -/
  str : Str
  /-- Lanes beside their registers (R321). -/
  lanes : List (Nat × Lane)
  /-- The Brodtu fabric (R356 to R390). -/
  fb : Fb
  /-- Protection of stored data (R394 to R416). -/
  prot : Prot
  /-- Power and the loop engine (R417 to R449). -/
  pwr : Pwr
  /-- The bias guard (R450 to R469). -/
  guard : Guard
  /-- The sensor tile and its region loops (R470 to R490). -/
  tile : Tile
  /-- The management subsystem and the housekeeping ADC (R491 to R518). -/
  mg : Mgmt
  /-- In-service repair, assay and test access (R519 to R535). -/
  svc : Svc
  /-- The commands that are waiting, first in, first out. -/
  pending : List Instr
  deriving DecidableEq, Repr

/-- The module right after reset: every register at its Reset value (R16), every memory with nothing listed. -/
def State.reset : State where
  csr := []
  evReq := []
  shut := []
  dueSwap := false
  dueBurnish := []
  dueCd := []
  activity := none
  deferWin := (0, 0)
  deferMask := 0
  feByp := []
  was := []
  answer := (0, 0)
  free := 0
  plate := ⟨[], [], none, [], false, false, [], [], [], none, true, 0, 0, []⟩
  mt := ⟨0, 0, 2880, false, false, none, none, 0, false, false, 0, false, List.replicate 8 (0xFFFF, 0), false, false, false, 0, [], false, false, 1000, 0, [], [], 0⟩
  chans := []
  dies := []
  latch := []
  clock := 0
  loadedAt := 0
  store := ⟨[], [], [], [], [], [], [], [], 0, [], [], false, 0, 0, false, none, [], [], []⟩
  tg := ⟨[], [], 0, [], [], (0, 0), []⟩
  rc := ⟨[], [], [], [], 0, none, [], [], 0⟩
  str := ⟨[], 0, 0, 0, 0, [], 0, [], [], [], [], [], false, false⟩
  lanes := []
  fb := ⟨[], false, 0, false, none, false, none, 0, false, false⟩
  prot := ⟨[], none, none, none, [], [], [], [], [], 0, none, []⟩
  pwr := ⟨[], [], 0, []⟩
  guard := ⟨false, false, 0, true, none, false⟩
  tile := ⟨0, 0, 0, [], none, [], false, 0, 0, []⟩
  mg := ⟨⟨0x40060000, [], []⟩, 0, false, false, 0, 0, [], [], [], [], ⟨[], false, false, [], 0, false⟩⟩
  svc := ⟨[], none, 0, 0, ⟨1, 0, 0, 0, 0⟩⟩
  pending := []

end Sys2Proof.Machine
end

