-- ==== Sys2Proof/Machine/Flags.lean ====
section
/-! DEFINITION. Reading and writing register fields, status bits, counters and event requests: the one home of
every flag and counter rule (R16 to R21, R504). -/

namespace Sys2Proof.Machine

open Sys2Proof

/-- The value a field holds, within the field's width (R17). -/
def State.get (s : State) (f : Fld) : Nat := Sparse.get f.reset f.key s.csr % 2 ^ f.width

/-- The field holding the low bits of `v`. -/
def State.set (s : State) (f : Fld) (v : Nat) : State :=
  { s with csr := Sparse.put f.reset f.key (v % 2 ^ f.width) s.csr }

/-- A one-bit field reads 1. -/
def State.on (s : State) (f : Fld) : Bool := s.get f != 0

/-- A one-bit field takes a truth value. -/
def State.setB (s : State) (f : Fld) (b : Bool) : State := s.set f (b2n b)

/-- A counter counts `n` and saturates at its all-ones value (R21). -/
def State.count (s : State) (f : Fld) (n : Nat := 1) : State :=
  s.set f (min (s.get f + n) (2 ^ f.width - 1))

/-- A counter whose chapter lets it wrap counts one (R21). -/
def State.countWrap (s : State) (f : Fld) : State := s.set f (s.get f + 1)

/-- A source is raised: its request is latched with the argument, or merged into the pending one (R504). -/
def State.raise (s : State) (src : Nat) (arg : Nat := 0) : State :=
  if Sparse.has src s.evReq then s.count MG_EVLOG_merged
  else { s with evReq := Sparse.insert src (arg % 0x10000) s.evReq }

/-- A status bit is set, and raises its event when it goes from 0 to 1. -/
def State.flag (s : State) (f : Fld) (src : Nat) (arg : Nat := 0) : State :=
  if s.on f then s else (s.set f 1).raise src arg

/-- `f` applied where `b` holds. -/
def State.iff (s : State) (b : Bool) (f : State → State) : State := if b then f s else s

/-- `f` applied for each element in turn. -/
def State.each {α : Type} (s : State) (l : List α) (f : State → α → State) : State := l.foldl f s

/-- The next of the model's free values: a value the spec leaves open. -/
def State.draw (s : State) : BitVec 64 × State := (Config.freeValue s.free, { s with free := s.free + 1 })

/-- A field that shows a time passing outside the model: it has grown by a free value and saturates (R21, R104, R113,
R189). -/
def State.rise (s : State) (f : Fld) : State := let (v, s) := s.draw; s.count f v.toNat

/-! ## Written values that come into force later -/

/-- The value of field `f` in force in the bucket at which the count of buckets is `t`. -/
def State.asOf (s : State) (t : Nat) (f : Fld) : Nat :=
  match s.was.find? fun w => w.key == f.key && decide (t < w.acts) with
  | some w => w.old % 2 ^ f.width
  | none => s.get f

/-- A one-bit field in force now reads 1. -/
def State.onNow (s : State) (f : Fld) : Bool := s.asOf s.clock f != 0

/-- The count of buckets from which a value now written to field `f` is in force, `d` buckets on: never before one
written earlier. -/
def State.actsFrom (s : State) (d : Nat) (f : Fld) : Nat :=
  s.was.foldl (fun m w => if w.key == f.key then max m w.acts else m) (s.clock + d)

/-- The fields `fs` are about to be written with values that come into force `d` buckets on. Without machine time no
bucket edge is to come, and they are in force at once. -/
def State.keepOld (s : State) (fs : List Fld) (d : Nat) : State :=
  if s.mt.running then
    { s with was := (s.was.filter fun w => decide (s.clock < w.acts + 64)) ++
        fs.map fun f => ⟨s.actsFrom d f, f.key, s.get f⟩ }
  else s

/-- The same for a write that reaches an FE channel within 2 bk and is in force from the first bucket edge after its
arrival: which of the next three edges that is, is a free value (R132, R150, R170). -/
def State.keepOldFe (s : State) (fs : List Fld) : State :=
  if s.mt.running then
    let (v, s) := s.draw
    s.keepOld fs (1 + v.toNat % 3)
  else s

end Sys2Proof.Machine
end

