-- ==== Sys2Proof/WellFormed.lean ====
section
/-! DEFINITION. Which operands a command admits: indices within the ranges the spec gives, values within their
fields. An operand outside them is no command of the hardware. -/

namespace Sys2Proof

/-- The function exists: 48 lanes, 12 quads, 3 FE dies, 2 power units (R48, R321, R417). -/
def ShutFn.wf : ShutFn → Bool
  | .laneTx n => decide (n < 48)
  | .laneRx n => decide (n < 48)
  | .quadPll q => decide (q < 12)
  | .feDie d => decide (d < 3)
  | .unit u => decide (u < 2)
  | .conversion => true
  | .bias => true

/-- DMA channels 1 to 7 issue transactions (R501). -/
def Path.wf : Path → Bool
  | .fabric => true
  | .test => true
  | .core => true
  | .dma c => decide (c < 8) && c != 0

/-- A stamp within its fields (R166). -/
def Stamp.wf (t : Stamp) : Bool :=
  decide (t.orbit < 2 ^ 32) && decide (t.bucket < 65536) && decide (t.coarse < 32) && decide (t.raw < 1024)

/-- A message of a head item and at most 3 body items of 64 bits (R359). -/
def CtMsg.wf (m : CtMsg) : Bool :=
  decide (m.head < 2 ^ 64) && decide (m.body.length ≤ 3) && m.body.all fun w => decide (w < 2 ^ 64)

/-- The op of a message (R359). -/
def ctOpOf (m : CtMsg) : Nat := m.head / 2 ^ 60

/-- A frame within its fields: header of 6 bits, payload of at most 608 bits (R327). -/
def FrameIn.wf (f : FrameIn) : Bool := decide (f.header < 2 ^ 6) && decide (f.payload < 2 ^ 608)

/-- An item of 64 bits received on a port (R371). -/
def FastIn.wf (w : FastIn) : Bool := decide (w.port < 6) && decide (w.item < 2 ^ 64)

/-- Units with a sync of 2 bits and a payload of 64, and bytes (R304, R312). -/
def BlockIn.wf (b : BlockIn) : Bool :=
  (b.units.all fun u => decide (u.1 < 4) && decide (u.2 < 2 ^ 64)) && b.bytes.all fun x => decide (x < 256)

/-- Rows, banks and plate words that exist (R197, R55, R394). -/
def ReadUpset.wf (u : ReadUpset) : Bool :=
  u.link.all (fun r => decide (r < 2 ^ 20)) && u.entries.all (fun e => decide (e.1 < 16) && decide (e.2 < 2 ^ 20)) &&
    u.plate.all (fun i => decide (i < 98304)) && u.corr.all fun e => decide (e.1 ≤ 10) && decide (e.2 < 2 ^ 24)

/-- The operands of a command lie within the ranges of the spec. -/
def Instr.wf : Instr → Bool
  | .powerUp feed straps => decide (feed < 2) && decide (straps < 256)
  | .svReset straps => decide (straps < 256)
  | .feedQualified unit => decide (unit < 2)
  | .feedOutOfRange unit => decide (unit < 2)
  | .refLost => true
  | .refBack => true
  | .shutdownComplete fn _ => fn.wf
  | .disruptiveActivityStart => true
  | .plateOpen => true
  | .plateClearDone => true
  | .plateAbort => true
  | .plateFcrcWrite frame crc => decide (frame < 8192) && decide (crc < 65536)
  | .plateWindowWrite addr data be => decide (addr < 0xC0000) && decide (data < 2 ^ 32) && decide (be < 16) && (addr % 4 == 0) && (be != 0)
  | .plateCommit lane => lane.all (fun n => decide (n < 48))
  | .plateCommitDone => true
  | .reloadGo first count => decide (first < 8192) && decide (count < 8)
  | .reloadCancel => true
  | .reloadStart _ => true
  | .reloadRelease => true
  | .orbitStart => true
  | .mtLoad => true
  | .mtLoadApply => true
  | .mtSnap tick => decide (tick < 32768)
  | .sourceSelect sel => decide (sel < 4)
  | .sourceLost => true
  | .sourceQualified _ lane _ => decide (lane < 48)
  | .orbitMarkerMismatch k => decide (k < 65536) && (k != 0)
  | .slewEnd offset => decide (offset ≤ 2)
  | .mtQualified => true
  | .fuGateEnd slope resid => decide (slope < 2 ^ 48) && decide (resid < 65536)
  | .fuRatioRead => true
  | .ovnReady => true
  | .ovnHeaterFault => true
  | .ovnReadyLost => true
  | .testChargeInjection entry => decide (entry < 256)
  | .housekeepingConversion entry => decide (entry < 256)
  | .loopEngineTestSignal entry => decide (entry < 256)
  | .burnishWindow entry => decide (entry < 256)
  | .roleSwap entry => decide (entry < 256)
  | .partialPlateReload entry => decide (entry < 256)
  | .tileLifeRecordWrite entry => decide (entry < 256)
  | .codeDensityCalibrationRefresh entry => decide (entry < 256)
  | .calendarReservedAction entry => decide (entry < 256)
  | .discriminatorLeadingEdge ch at_ => decide (ch < 1536) && at_.wf
  | .discriminatorTrailingEdge ch at_ _ _ _ => decide (ch < 1536) && at_.wf
  | .totOverflow ch _ _ => decide (ch < 1536)
  | .recoveryEnd ch _ _ at_ => decide (ch < 1536) && at_.wf
  | .channelConfigWrite die l value => decide (die < 3) && decide (l < 512) && decide (value < 2 ^ 32)
  | .stuckDetected ch => decide (ch < 1536)
  | .rateLimitExceeded ch => decide (ch < 1536)
  | .automaskClear die k bits => decide (die < 3) && decide (k < 16) && decide (bits < 2 ^ 32)
  | .coarsePllLock die => decide (die < 3)
  | .coarsePllLoss die => decide (die < 3)
  | .dllLock die => decide (die < 3)
  | .dllUnlock die => decide (die < 3)
  | .relock die => decide (die < 3)
  | .cdFullRun die => decide (die < 3)
  | .cdAbort die => decide (die < 3)
  | .cdSliceEnd die _ _ => decide (die < 3)
  | .cdTablesComputed die hist => decide (die < 3) && (hist.length == 32) && (hist.all fun h => h.length == 1024)
  | .binTableWrite die l j value => decide (die < 3) && decide (l < 512) && decide (j < 512) && decide (value < 2 ^ 32)
  | .hitMerge die _ => decide (die < 3)
  | .bucketSeal markers => (markers.length == 3)
  | .storeRowWrite row => decide (row < 2 ^ 20)
  | .bucketWriteDone => true
  | .ageOut _ link => link.all (fun n => decide (n < 2 ^ 20))
  | .hqFlush => true
  | .flushDone => true
  | .depthReset => true
  | .bankRetire mask => decide (mask < 65536)
  | .bankClearDone bank => decide (bank < 16)
  | .rowSpared die row => decide (die < 2) && decide (row < 2 ^ 20)
  | .mapPeriodClose orbit bucket absent bad => decide (orbit < 2 ^ 32) && decide (bucket < 65536) && decide (absent < 8) && (bad.all fun i => decide (i < 98304))
  | .chaserTimerExpiry c t => decide (c < 32) && decide (t < 2)
  | .acceptCommand body => decide (body < 2 ^ 64)
  | .tgLocalRead => true
  | .recordEngineTake => true
  | .recordBucketRead ctx upset => decide (ctx < 10240) && upset.wf
  | .recordComplete ctx => decide (ctx < 10240)
  | .histSwapWrite => true
  | .histSwapDone => true
  | .freezeArm post => decide (post < 16384)
  | .freezeDisarm post => decide (post < 16384)
  | .freezeForce => true
  | .ringStop => true
  | .dumpGo cls len => decide (cls < 16) && decide (len < 16384)
  | .blockSend port _ => decide (port < 6)
  | .creditReceived port ack window _ => decide (port < 6) && decide (ack < 65536) && decide (window < 65536)
  | .resendTimeout port => decide (port < 6)
  | .blockReceived port block => decide (port < 6) && block.wf
  | .creditTimer port => decide (port < 6)
  | .mergeContribution => true
  | .mergeTimeout number => decide (number < 2 ^ 40)
  | .frameTransmit lane => decide (lane < 48)
  | .frameReceived lane frame => decide (lane < 48) && frame.wf
  | .frameRelease lane margin => decide (lane < 48) && decide (margin < 4096)
  | .sourceFrameGap => true
  | .symbolLock lane lat => decide (lane < 48) && decide (lat < 4096)
  | .lockLost lane _ => decide (lane < 48)
  | .slipWrite lane slip => decide (lane < 48) && decide (slip < 4096)
  | .eyeMeasurement lane eye _ _ => decide (lane < 48) && decide (eye < 256)
  | .lanePowerRequest lane tx rx via => decide (lane < 48) && decide (tx < 4) && decide (rx < 4) && via.all (fun n => decide (n < 48))
  | .laneWakeDone lane _ => decide (lane < 48)
  | .laneLoopSelect lane loop pattern => decide (lane < 48) && decide (loop < 4) && decide (pattern < 4)
  | .laneOut lane _ via => decide (lane < 48) && via.all (fun n => decide (n < 48))
  | .laneFailed lane _ => decide (lane < 48)
  | .spareServeWrite port bits => decide (port < 6) && decide (bits < 256)
  | .laneRejoin lane => decide (lane < 48)
  | .pllUnlock quad => decide (quad < 12)
  | .readRequest msg _ _ => msg.wf
  | .writeRequest msg lane _ => msg.wf && lane.all (fun n => decide (n < 48))
  | .readResponse msg => msg.wf
  | .writeResponse msg => msg.wf
  | .probe lane msg => decide (lane < 48) && msg.wf
  | .probeAnswer port msg => decide (port < 6) && msg.wf
  | .assign lane msg => decide (lane < 48) && msg.wf
  | .discProbe port => decide (port < 6)
  | .discAssign port => decide (port < 6)
  | .discTimeout => true
  | .fcMtLoad word => word.wf
  | .startAcquisition word => word.wf
  | .stopAcquisition word => word.wf
  | .forceFreeze word => word.wf
  | .histogramSwap word => word.wf
  | .frameGap port word => decide (port < 6) && decide (word < 2 ^ 64)
  | .acceptLost port word => decide (port < 6) && decide (word < 2 ^ 64)
  | .portLost port _ => decide (port < 6)
  | .portRegained port _ => decide (port < 6)
  | .timeFollow => true
  | .pdelayTimer => true
  | .pdelayReq port seq _ => decide (port < 6) && decide (seq < 16)
  | .pdelayResp port seq _ _ => decide (port < 6) && decide (seq < 16)
  | .sync word _ => decide (word < 2 ^ 64)
  | .announce word => decide (word < 2 ^ 64)
  | .masterLost => true
  | .criticalWordVote die word copies sense => decide (die < 2) && decide (word < 64) && decide (sense < 4) && (copies.length == 3) && (copies.all fun c => decide (c < 2 ^ 69))
  | .mergeBufferTimeout buf _ => decide (buf < 3)
  | .patrolRead mem _ _ => decide (mem < 11) && (mem != 0)
  | .faultWindowExpiry cls mem index => decide (cls < 5) && decide (mem < 16) && decide (index < 2 ^ 24)
  | .burnishPassGo mem => decide (mem < 16)
  | .burnishPassAbort => true
  | .burnishDone time => decide (time < 2 ^ 32)
  | .loopSample unit _ _ _ _ _ => decide (unit < 2)
  | .leCommit inst => decide (inst < 3)
  | .leUseHost inst _ => decide (inst < 3)
  | .injDone inst => decide (inst < 3)
  | .heartbeatLost unit => decide (unit < 2)
  | .arbiterLost unit _ => decide (unit < 2)
  | .copyLink => true
  | .midBusUndervoltage => true
  | .busFault => true
  | .unitOvertemperature unit => decide (unit < 2)
  | .swapTimerExpiry => true
  | .swapNow => true
  | .swapOverdue => true
  | .swapPermit => true
  | .swapHandover => true
  | .swapDone => true
  | .puOut unit _ => decide (unit < 2)
  | .puFaultClear unit => decide (unit < 2)
  | .lastUnitRestart _ => true
  | .strapSample straps => decide (straps < 256)
  | .channelOpen side => decide (side < 2)
  | .channelClosed side => decide (side < 2)
  | .pulseMissing side => decide (side < 2)
  | .chatter side => decide (side < 2)
  | .chatterEnd side => decide (side < 2)
  | .discrepancy => true
  | .guardProof => true
  | .biasEnable => true
  | .biasDisable => true
  | .biasFbChange _ _ => true
  | .fbEnableTimeout => true
  | .fbDisableTimeout => true
  | .darkTestPulse side => decide (side < 2)
  | .darkPulseEnd side _ _ => decide (side < 2)
  | .clkFault => true
  | .tilePresence _ => true
  | .tileIdReadDone _ bytes => (bytes.all fun b => decide (b < 256))
  | .i2cGo _ lenM1 addr => decide (lenM1 < 32) && decide (addr < 65536)
  | .i2cDone _ data => (data.all fun b => decide (b < 256))
  | .lifeHoldExpiry => true
  | .tileExpSnap => true
  | .regionLoopSample region _ _ => decide (region < 96)
  | .loopEnable region _ therm target => decide (region < 96) && decide (therm < 8) && decide (target < 4096)
  | .bootClearDone => true
  | .imageSwitch => true
  | .imageCheckDone => true
  | .imageReady => true
  | .imageTimeout => true
  | .imageForce => true
  | .lockstepDivergence => true
  | .trapLoop => true
  | .watchdogExpiry => true
  | .wdogKick => true
  | .mgHalt => true
  | .mgRestart => true
  | .autoRestart _ => true
  | .uptimeRead us => decide (us < 2 ^ 64)
  | .mtimeCompare => true
  | .dmaGo c => decide (c < 8) && (c != 0)
  | .dmaAbort c => decide (c < 8) && (c != 0)
  | .dmaWordTransfer c _ => decide (c < 8) && (c != 0)
  | .eventService us => decide (us < 2 ^ 64)
  | .evClaimRead => true
  | .evqRead => true
  | .hkSequenceStart => true
  | .hkConversionDone raw us => decide (raw < 16384) && decide (us < 2 ^ 64)
  | .hkInject input => decide (input < 64)
  | .hkCal => true
  | .calDone gain offset => decide (gain < 65536) && decide (offset < 65536)
  | .hkRefEnable _ => true
  | .hkRefReady => true
  | .hkRegEnable _ => true
  | .acqStart => true
  | .acqStop => true
  | .acquisitionStarts => true
  | .acquisitionStops => true
  | .feServiceWrite value => decide (value < 2 ^ 32)
  | .feSvc die => decide (die < 3)
  | .assayGo block index => decide (block < 16) && decide (index < 64)
  | .assayAbort => true
  | .assayDone part _ first _ => decide (part < 16) && decide (first < 2 ^ 20)
  | .testLogicReset => true
  | .idcode => true
  | .extest value => decide (value < 2 ^ 23)
  | .samplePreload sampled value => decide (sampled < 2 ^ 23) && decide (value < 2 ^ 23)
  | .bypass opcode => decide (opcode < 256) && (!([0x00, 0x01, 0x02, 0x20, 0x21].contains opcode))
  | .ctrlAccess dr _ _ => decide (dr < 2 ^ 72)
  | .hsEntry dr _ => decide (dr < 2 ^ 104)
  | .registerWrite path addr data be => decide (addr < 2 ^ 32) && decide (data < 2 ^ 32) && decide (be < 16) && path.wf
  | .readClear path addr be => decide (addr < 2 ^ 32) && decide (be < 16) && path.wf
  | .transactionTimeout path msg _ => msg.wf && path.wf && decide (ctOpOf msg ≤ 1)
  | .loopCheckerPattern lane _ _ => decide (lane < 48)
  | .hostPassRead _ _ => true
  | .burnishWindowEnd => true
  | .puTempWarning unit => decide (unit < 2)
  | .stateCopyLinkUp => true
  | .arbiterHeartbeatRegained unit => decide (unit < 2)
  | .interlockDarkPulse side => decide (side < 2)
  | .supervisorClockReturn => true

end Sys2Proof
end

