-- ==== Sys2Proof/Machine/Ops.lean ====
section
/-! DEFINITION. Operations shared by the commands: machine time arithmetic, pending enables and the effect of a
well-formed command. -/

namespace Sys2Proof.Machine

open Sys2Proof

/-- The effect of command `c` is `f`; a command whose operands the spec does not admit changes nothing. -/
def effect (c : Instr) (f : State → State) (s : State) : Host.Outcome State Fault Refusal :=
  .next (if c.wf then f s else s)

/-- The same for a command of the machine-synchronous domain, which does nothing while that domain stands still (R31,
R33, R38). -/
def effectMs (c : Instr) (f : State → State) (s : State) : Host.Outcome State Fault Refusal :=
  .next (if c.wf && s.mt.running then f s else s)

/-- A bucket of machine time: orbit and bucket within it (R8, R9). -/
abbrev Bkt := Nat × Nat

/-- The bucket `n` buckets after `b`, orbits wrapping at 2^32 (R90). -/
def addBkt (nb : Nat) (b : Bkt) (n : Nat) : Bkt :=
  ((b.1 + (b.2 + n) / nb) % 2 ^ 32, (b.2 + n) % nb)

/-- The bucket `n` buckets before `b`. -/
def subBkt (nb : Nat) (b : Bkt) (n : Nat) : Bkt :=
  let k := (n + nb - 1) / nb
  (wrapSub (2 ^ 32) (b.1 + (b.2 + k * nb - n) / nb) k, (b.2 + k * nb - n) % nb)

/-- How many buckets `a` lies after `b` (R90: orbit difference modulo 2^32, read as signed). -/
def diffBkt (nb : Nat) (a b : Bkt) : Int :=
  diff32 a.1 b.1 * (nb : Int) + (a.2 : Int) - (b.2 : Int)

/-- Bucket `b` lies in the run `p`. -/
def Span.covers (nb : Nat) (p : Span) (b : Bkt) : Bool :=
  decide (0 ≤ diffBkt nb b (p.fromO, p.fromB)) &&
    (match p.until? with
     | none => true
     | some e => decide (diffBkt nb b e ≤ 0))

/-- The newest run of a list ends with bucket `e`, if it has not ended. -/
def Span.close (e : Bkt) : List Span → List Span
  | p :: ps => if p.until? == none then { p with until? := some e } :: ps else p :: ps
  | [] => []

/-- The current bucket of MT. -/
def State.now (s : State) : Bkt := (s.mt.orbit, s.mt.bucket)

/-- The count of buckets (State.clock) at bucket `b`. -/
def State.clockAt (s : State) (b : Bkt) : Nat := (s.clock + diffBkt s.mt.nb b s.now).toNat

/-- The module passed, or passes, bucket `b` in holdover (R102). -/
def State.heldOver (s : State) (b : Bkt) : Bool := s.mt.holds.any fun p => p.covers s.mt.nb b

/-- `f` takes effect at the next bucket edge, where `a` names it; while the machine-synchronous domain stands still,
at once (DESIGN CHOICE: no edge is then to come). -/
def State.atEdge (s : State) (a : EdgeAct) (f : State → State) : State :=
  if s.mt.running then { s with mt := { s.mt with edge := s.mt.edge ++ [a] } } else f s

/-- Acquisition runs: state running or stop pending (R538). -/
def State.acq (s : State) : Bool := s.get CX_ACQ_STATUS_state == 2 || s.get CX_ACQ_STATUS_state == 3

end Sys2Proof.Machine
end

