-- ==== Sys2Proof/Machine/AssayState.lean ====
section
/-! DEFINITION. The preconditions of an assay and its end by a write (R528, R531): here because the writes that end a
precondition belong to many families. -/

namespace Sys2Proof.Machine

open Sys2Proof

/-- Bank `k` is being cleared to join or return (R219). -/
def State.bankInit (s : State) (k : Nat) : Bool := bit (s.get (HS_STATUS_bank_init (k / 8))) (k % 8)

/-- The block code and index are valid (R528). -/
def assayValid (block index : Nat) : Bool :=
  match block with
  | 1 => decide (index ≤ 2)
  | 2 => decide (index ≤ 15)
  | 3 => decide (index ≤ 47)
  | 4 => decide (index ≤ 1)
  | 5 | 6 | 7 => index == 0
  | _ => false

/-- CX_FE_SVC.now of die `n` (R526): 0 in service, 1 isolated, 2 off, 3 changing. -/
def nowFld (n : Nat) : Fld :=
  match n with
  | 0 => CX_FE_SVC_now0
  | 1 => CX_FE_SVC_now1
  | _ => CX_FE_SVC_now2

/-- The precondition of a block (R528). -/
def State.assayPre (s : State) (block index : Nat) : Bool :=
  match block with
  | 1 => s.get (nowFld index) == 1
  | 2 => bit (s.get CX_HQ_BANKS_retire) index && !s.bankInit index
  | 3 => s.on (LN_CTRL_out index)
  | 4 => s.on (PU_CTRL_out index) && s.get (PU_STATUS_role index) == 0
  | 5 => (List.range 96).all fun r => !s.on (CX_LE_LOOP_en r)
  | 6 => !s.on HK_REG_CTRL_en && s.mg.hk.queue.isEmpty && s.on HK_STATUS_ref_ready
  | 7 => s.get MG_STATUS_state == 3
  | _ => false

/-- The code-density run of an FE assay is over. -/
def State.assayRunEnd (s : State) : State :=
  match s.svc.assay with
  | some (1, n) => if s.get (FE_CD_STATUS_state n) = 3 then s.set (FE_CD_STATUS_state n) 0 else s
  | _ => s

/-- The running assay stops with verdict 0 (R531). Its time has grown by a free value since it was last told. -/
def State.assayStop (s : State) : State :=
  let s := s.assayRunEnd
  let s := State.rise { s with svc := { s.svc with assay := none } } CX_ASSAY_STATUS_ms
  ((s.set CX_ASSAY_STATUS_state 3).set CX_ASSAY_STATUS_verdict 0).raise 195

/-- The running assay stops when its block's precondition has ended (R531). -/
def State.assayCheck (s : State) : State :=
  match s.svc.assay with
  | none => s
  | some (b, i) => if s.assayPre b i then s else s.assayStop

end Sys2Proof.Machine
end

