-- ==== Sys2Proof/Machine/LoopEngine.lean ====
section
/-! DEFINITION. The loop engine (R419 to R427): law, coefficient sets, test-signal injection and capture, for the
instances 0 PU-A, 1 PU-B and 2 the CX. -/

namespace Sys2Proof.Machine

open Sys2Proof

/-- x ÷ 2^n rounded half up. -/
def roundHalfUp (x : Int) (n : Nat) : Int := (x + 2 ^ (n - 1)) / 2 ^ n

/-- Saturation to a signed 16-bit value (R420). -/
def sat16 (x : Int) : Int := clampI (-32768) 32767 x

/-- Saturation to a signed 40-bit value (R420). -/
def sat40 (x : Int) : Int := clampI (-(2 ^ 39)) (2 ^ 39 - 1) x

/-! ## The law (R421) -/

/-- What one sample computes: the loop after it, and whether its output was limited. -/
structure LawOut where
  loop : Loop
  sat : Bool
  deriving DecidableEq, Repr

/-- One sample of the law of R421 with reference `r`, measurement `y`, feedforward `ff` and injections. The count of
following errors is left as it was. -/
def Loop.law (c : Coefs) (l : Loop) (r y ff injR injU : Int) : LawOut :=
  let e := sat16 (r + injR - y)
  let p := signed 24 c.kp * e
  let ic := sat40 (l.i + signed 24 c.ki * e)
  let d := sat40 (roundHalfUp ((c.a : Int) * l.d) 16 + signed 24 c.kd * (e - l.e))
  let f := signed 24 c.kff * ff
  let raw := roundHalfUp (p + ic + d + f + injU * 2 ^ 20) 20
  let u := clampI c.uMin c.uMax raw
  let sat := u != raw
  ⟨{ l with i := if sat then l.i else ic, d := d, e := e, u := u.toNat }, sat⟩

/-- The count of consecutive samples with |e| above E_lim, and whether it has reached T_lim (R422). -/
def Loop.follow (c : Coefs) (l : Loop) : Loop × Bool :=
  if c.eLim < l.e.natAbs then
    ({ l with ovr := l.ovr + 1 }, decide ((if c.tLim = 0 then 1 else c.tLim) ≤ l.ovr + 1))
  else ({ l with ovr := 0 }, false)

/-! ## Coefficient sets (R424, R425, R486) -/

/-- The built-in set of a power unit (R425). -/
def puSet : Coefs := ⟨0x2710, 0x0666, 0xE666, 0x01F4, 0x00C8, 0x080000, 0x0028F6, 0, 0x040000, 0⟩

/-- The built-in set of the CX (R486). -/
def cxSet : Coefs := ⟨0, 0x7F9C, 0x8064, 0x0100, 0x1388, 0, 0x004000, 0, 0, 0⟩

/-- Instance `i` of the engine. -/
def State.engine (s : State) (i : Nat) : Engine := Sparse.get Engine.new i s.pwr.engines

def State.setEngine (s : State) (i : Nat) (g : Engine) : State :=
  { s with pwr := { s.pwr with engines := Sparse.put Engine.new i g s.pwr.engines } }

/-- The staged set (R424). -/
def State.staged (s : State) (i : Nat) : Coefs :=
  ⟨s.get (LE_REF_r i), s.get (LE_LIM_u_min i), s.get (LE_LIM_u_max i), s.get (LE_FERR_e_lim i), s.get (LE_FERR_t_lim i),
    s.get (LE_KP_k i), s.get (LE_KI_k i), s.get (LE_KD_k i), s.get (LE_KFF_k i), s.get (LE_DFILT_a i)⟩

/-- The CX keeps the limits of any set within 31,768 to 33,768 (R486). -/
def Coefs.cxLimits (c : Coefs) : Coefs :=
  { c with uMin := min (max c.uMin 31768) 33768, uMax := min (max c.uMax 31768) 33768 }

/-- The set in force on instance `i` (R424). -/
def State.coefs (s : State) (i : Nat) : Coefs :=
  let c := if s.on (LE_CTRL_host_in_force i) then (s.engine i).host else if i = 2 then cxSet else puSet
  if i = 2 then c.cxLimits else c

/-- Some loop of instance `i` is closed, so that its set may not change (R424, R485). -/
def State.leClosed (s : State) (i : Nat) : Bool :=
  if i = 2 then (List.range 96).any fun r => s.on (CX_LE_LOOP_en r) else s.on (LE_CTRL_closed i)

/-- A refused write or request of instance `i` (R424, R484). -/
def State.leRefused (s : State) (i : Nat) : State :=
  if i = 2 then s.flag CX_LE_STATUS_refused 168 else s.flag (PU_STATUS_refused i) (453 + 16 * i)

/-- LE_COMMIT (R424). -/
def leCommit (i : Nat) (s : State) : State :=
  if s.leClosed i then s.leRefused i
  else
    let c := s.staged i
    if c.uMin < c.uMax ∧ c.eLim ≠ 0 then
      let s := (s.setEngine i { s.engine i with host := c }).set (LE_CTRL_host_valid i) 1
      s.set (LE_CTRL_host_in_force i) (s.get (LE_CTRL_use_host i))
    else ((s.set (LE_CTRL_host_valid i) 0).set (LE_CTRL_host_in_force i) 0).leRefused i

/-- LE_USE_HOST (R424). -/
def leUseHost (i : Nat) (v : Bool) (s : State) : State :=
  if s.leClosed i then s.leRefused i
  else (s.setB (LE_CTRL_use_host i) v).setB (LE_CTRL_host_in_force i) (v && s.on (LE_CTRL_host_valid i))

/-! ## Injection and capture (R426, R427) -/

/-- The terms of the Taylor series of sin x, x with 80 fraction bits, from the term t = x^j ÷ j! on. -/
def sinTerms (x2 : Nat) : Nat → Nat → Nat → List Nat
  | 0, _, _ => []
  | n + 1, j, t => t :: sinTerms x2 n (j + 2) (t * x2 / 2 ^ 80 / ((j + 1) * (j + 2)))

/-- A sum with alternating signs. -/
def altSum : List Nat → Int
  | [] => 0
  | t :: ts => (t : Int) - altSum ts

/-- sin(2π n ÷ 65,536) with 80 fraction bits, for a quarter cycle n = 0 to 16,384; the constant is π · 2^80. -/
def sinQuarter (n : Nat) : Int :=
  let x := 2 * 3797952473636338580787993 * n / 65536
  altSum (sinTerms (x * x / 2 ^ 80) 16 1 x)

/-- sin(2π n ÷ 65,536) with 80 fraction bits. -/
def sinCycle (n : Nat) : Int :=
  let m := n % 16384
  match n / 16384 % 4 with
  | 0 => sinQuarter m
  | 1 => sinQuarter (16384 - m)
  | 2 => -sinQuarter m
  | _ => -sinQuarter (16384 - m)

/-- PRBS11, x^11 + x^9 + 1: the register after one bit; its oldest bit is the one sent. -/
def prbs11 (v : Nat) : Nat := (2 * v + b2n (xor (v.testBit 10) (v.testBit 8))) % 2048

/-- The number of samples an injection lasts (R426). -/
def State.injLen (s : State) (i : Nat) : Nat := (s.get (LE_CAP_CTRL_len_m1 i) + 1) * 2 ^ s.get (LE_CAP_CTRL_decim i)

/-- An injection of instance `i` still has samples on loop `loop`. -/
def State.injOn (s : State) (i loop : Nat) : Bool :=
  s.get (LE_CAP_STATUS_state i) == 1 && decide ((s.engine i).k < s.injLen i) && (s.engine i).loop == loop

/-- The signal of the injection at its present sample (R426). -/
def State.injSignal (s : State) (i : Nat) : Int :=
  let g := s.engine i
  let amp : Int := s.get (LE_INJ_CTRL_amp i)
  match s.get (LE_INJ_CTRL_wave i) with
  | 1 => roundHalfUp (amp * sinCycle (g.k * s.get (LE_INJ_FREQ_step i))) 80
  | 2 => if g.prbs.testBit 10 then amp else -amp
  | _ => 0

/-- The injections (inj_r, inj_u) of the present sample of a loop. -/
def State.inject (s : State) (i loop : Nat) : Int × Int :=
  if s.injOn i loop then
    if s.on (LE_INJ_CTRL_point i) then (0, s.injSignal i) else (s.injSignal i, 0)
  else (0, 0)

/-- A sample of the loop is captured where its turn has come, and the injection goes on (R426). -/
def State.capture (s : State) (i loop : Nat) (y e : Int) (u : Nat) : State :=
  if s.injOn i loop then
    let g := s.engine i
    let step := 2 ^ s.get (LE_CAP_CTRL_decim i)
    let v := unsigned 16 (if s.on (LE_CAP_CTRL_sel i) then e else y) * 65536 + u
    let take := g.k % step == 0
    let caps := if take then Sparse.put 0 (loop * 4096 + g.k / step) v g.caps else g.caps
    let hold := max 1 (s.get (LE_INJ_CTRL_hold i))
    let prbs := if (g.k + 1) % hold = 0 then prbs11 g.prbs else g.prbs
    let s := s.setEngine i { g with caps := caps, k := g.k + 1, prbs := prbs }
    s.iff take fun s => s.set (LE_CAP_STATUS_count i) (s.get (LE_CAP_STATUS_count i) + 1)
  else s

/-- The event of an injection's end. -/
def injEvent (i : Nat) : Nat := if i = 2 then 167 else 452 + 16 * i

/-- A running injection is stopped and keeps its samples (R427). -/
def State.injAbort (s : State) (i : Nat) : State :=
  if s.get (LE_CAP_STATUS_state i) = 1 then (s.set (LE_CAP_STATUS_state i) 3).raise (injEvent i) else s

/-- INJ_DONE (R426): the injection has reached its length. -/
def injDone (i : Nat) (s : State) : State :=
  if s.get (LE_CAP_STATUS_state i) = 1 ∧ s.injLen i ≤ (s.engine i).k then
    (s.set (LE_CAP_STATUS_state i) 2).raise (injEvent i)
  else s

/-- A request for an injection on a loop of instance `i` (R426, R427). -/
def State.injRequest (s : State) (i loop : Nat) : State :=
  let closed := if i = 2 then s.on (CX_LE_LOOP_en loop) else s.on (LE_CTRL_closed i)
  if !closed || s.get (LE_CAP_STATUS_state i) == 1 then s.count (LE_CAP_STATUS_refused i)
  else
    let s := s.setEngine i { s.engine i with loop := loop, k := 0, prbs := 0x7FF }
    (s.set (LE_CAP_STATUS_state i) 1).set (LE_CAP_STATUS_count i) 0

/-! ## The commands -/

def execLeCommit (inst : Nat) (s : State) := effect (.leCommit inst) (leCommit inst) s
def execLeUseHost (inst : Nat) (value : Bool) (s : State) := effect (.leUseHost inst value) (leUseHost inst value) s
def execInjDone (inst : Nat) (s : State) := effect (.injDone inst) (injDone inst) s
end Sys2Proof.Machine
end

