-- ==== Sys2Proof/Machine/Power.lean ====
section
/-! DEFINITION. Power feeds, the two power units and the arbiter (R417 to R449). Units are 0 PU-A and 1 PU-B. -/

namespace Sys2Proof.Machine

open Sys2Proof

/-! ## Units -/

/-- The other unit. -/
def other (u : Nat) : Nat := 1 - u

/-- Unit `u` beside its registers. -/
def State.unit (s : State) (u : Nat) : PUnit := Sparse.get PUnit.new u s.pwr.units

def State.setUnit (s : State) (u : Nat) (p : PUnit) : State :=
  { s with pwr := { s.pwr with units := Sparse.put PUnit.new u p s.pwr.units } }

/-- The event k of unit `u` (R449). -/
def puEvent (u k : Nat) : Nat := 448 + 16 * u + k

/-- A unit's role, shown by the unit and by the arbiter (R446, R448). -/
def State.setRole (s : State) (u r : Nat) : State :=
  let s := s.set (PU_STATUS_role u) r
  if u = 0 then s.set SV_ARB_STATUS_a_role r else s.set SV_ARB_STATUS_b_role r

/-- The unit's loop, shown in LE_OUT and LE_INT (R447). -/
def State.setLoop (s : State) (u : Nat) (l : Loop) : State :=
  let s := s.setUnit u { s.unit u with loop := l }
  let i := unsigned 40 l.i
  ((s.set (LE_OUT_u u) l.u).set (LE_INT_LO_int u) i).set (LE_INT_HI_int u) (i / 2 ^ 32)

/-- A unit switches: it is active, or starting (R428). -/
def State.switching (s : State) (u : Nat) : Bool := s.get (PU_STATUS_role u) == 2 || (s.unit u).soft.isSome

/-- Module conversion runs (R442). -/
def State.converting (s : State) : Bool := s.switching 0 || s.switching 1

/-- A unit may be in service: its feed is qualified, no fault is latched, it is not taken out (R429, R440). -/
def State.unitReady (s : State) (u : Nat) : Bool :=
  s.on (PU_STATUS_feed_ok u) && !s.on (PU_STATUS_fault u) && !s.on (PU_CTRL_out u)

/-- The unit is standby or active (R433). -/
def State.inService (s : State) (u : Nat) : Bool := s.get (PU_STATUS_role u) == 1 || s.get (PU_STATUS_role u) == 2

/-- The unit the arbiter holds active. -/
def State.activeUnit (s : State) : Nat := s.get SV_ARB_STATUS_active

/-- The band of the mid bus as the arbiter's comparators see it (R418, R448). -/
def busBand (mv : Int) : Nat :=
  if mv < 9300 then 0 else if mv < 9500 then 1 else if mv ≤ 10500 then 2 else if mv ≤ 11500 then 3 else 4

/-- Swaps are suspended or the swap timer holds: a unit out of service, the copy link lost, the arbiter lost or in
fault (R432, R433). -/
def State.swapsHeld (s : State) : Bool :=
  !s.inService 0 || !s.inService 1 || s.on SV_ARB_STATUS_copy_lost || s.on SV_ARB_STATUS_arb_fault ||
    s.on (PU_STATUS_arb_lost 0) || s.on (PU_STATUS_arb_lost 1)

/-- The swap timer restarts from the full period, with no swap scheduled (R433). -/
def State.swapRestart (s : State) : State :=
  ((s.set SV_ARB_TIMER_remaining (s.get SV_ARB_PERIOD_period)).set SV_ARB_STATUS_sched 0).set SV_ARB_STATUS_overdue 0

/-- A period written while the swap timer counts (R433): what it has counted stays. DEDUCED. -/
def State.swapPeriod (s : State) (p : Nat) : State :=
  let gone := s.get SV_ARB_PERIOD_period - s.get SV_ARB_TIMER_remaining
  let s := s.set SV_ARB_PERIOD_period p
  s.iff (!s.on SV_ARB_STATUS_sched) fun s => s.set SV_ARB_TIMER_remaining (max 1 (p - gone))

/-- A swap is scheduled (R433). -/
def State.swapSchedule (s : State) : State := (s.set SV_ARB_STATUS_sched 1).set SV_ARB_TIMER_remaining 0

/-- The swap under way, if any, is over; its disruptive activity ends with it. -/
def State.swapOver (s : State) : State :=
  let s := { s with
    pwr := { s.pwr with pairs := [] }
    activity := if s.activity = some 1 then none else s.activity }
  s.set SV_ARB_STATUS_phase 0

/-- The loop of a unit opens: an injection on it is stopped (R427). -/
def State.openLoop (s : State) (u : Nat) : State := (s.set (LE_CTRL_closed u) 0).injAbort u

/-- A swap is abandoned when unit `u` fails or leaves service before the hand-over; afterwards the swap goes on unless
`u` is the unit that took over (R437). -/
def State.swapBreak (s : State) (u : Nat) : State :=
  if s.get SV_ARB_STATUS_phase = 4 ∧ u ≠ s.activeUnit then s else s.swapOver

/-- The shutdown of a unit begins (R441). A swap whose incoming unit stops is abandoned (R437). -/
def State.stopUnit (s : State) (u : Nat) : State :=
  if s.get (PU_STATUS_role u) = 0 ∨ s.shut.contains (ShutFn.unit u) then s
  else
    let s := (s.openLoop u).setRole u 3
    let s := s.setUnit u { s.unit u with soft := none, blank := 0, limited := 0, low := 0 }
    let s := { s with shut := s.shut ++ [ShutFn.unit u] }
    s.swapBreak u

/-- Conversion shuts down when no unit switches (R442). -/
def State.convCheck (s : State) : State :=
  if s.converting || s.shut.contains .conversion then s else { s with shut := s.shut ++ [.conversion] }

/-- Unit `n` takes the active role at its copied output (R431). -/
def State.takeOver (s : State) (n : Nat) : State :=
  let s := (s.setRole n 2).set SV_ARB_STATUS_active n
  (s.setUnit n { s.unit n with blank := 2, low := 0, loop := { (s.unit n).loop with ovr := 0 } }).swapOver

/-- The switching unit `o` stops or must be stopped (R431). The standby takes over, on the arbiter's command unless the
arbiter is lost to it (R432); without one, conversion stops. -/
def State.failover (s : State) (o : Nat) : State :=
  let n := other o
  let s := s.stopUnit o
  if s.get (PU_STATUS_role n) = 1 ∧ s.unitReady n = true then
    let s := (s.takeOver n).swapRestart
    if s.on (PU_STATUS_arb_lost n) || s.on SV_ARB_STATUS_arb_fault then s
    else (s.countWrap SV_ARB_CNT_failovers).raise 482
  else s.convCheck

/-- A unit stops, with failover where it switches (R444). -/
def State.dropUnit (s : State) (u : Nat) : State := if s.switching u then s.failover u else s.stopUnit u

/-- A fault of a unit latches; the unit shuts down (R444). -/
def State.unitFault (s : State) (u cause : Nat) : State :=
  if s.on (PU_STATUS_fault u) then s
  else
    let s := (s.flag (PU_STATUS_fault u) (puEvent u 0)).set (PU_STATUS_cause u) cause
    (s.count (PU_CNT_faults u)).dropUnit u

/-- A unit enters standby and takes copies (R439, step 7). -/
def State.standby (s : State) (u : Nat) : State :=
  let s := (s.setRole u 1).setUnit u { s.unit u with loop := (s.unit (other u)).loop, low := 0 }
  ((s.setLoop u (s.unit u).loop).set (PU_STATUS_peer_lost (other u)) 0).raise (puEvent u 6)

/-- A unit starts from off with the built-in set: the soft start (R439, step 3; R442). -/
def State.startUnit (s : State) (u : Nat) : State :=
  let s := (s.set (LE_CTRL_use_host u) 0).set (LE_CTRL_host_in_force u) 0
  let s := s.setUnit u { PUnit.new with soft := some 0 }
  (((s.setLoop u Loop.new).setRole u 3).set (LE_CTRL_closed u) 1).set SV_ARB_STATUS_active u

/-- The pending bit of a unit (R52). -/
def pendUnit (u : Nat) : Fld := if u = 0 then SV_PENDING_ENABLE_pu_a else SV_PENDING_ENABLE_pu_b

/-- A request of an SV function is held until its shutdown completes (R47, R49). -/
def State.svHold (s : State) (f : Fld) : State := if s.on f then s else (s.set f 1).raise 486

/-- A held request of an SV function is discarded (R50). -/
def State.svDiscard (s : State) : State := (s.countWrap SV_PENDING_ENABLE_discarded).raise 487

/-- A return to service is requested (R440, R47). -/
def State.returnUnit (s : State) (u : Nat) : State :=
  if s.shut.contains (ShutFn.unit u) then s.svHold (pendUnit u)
  else if s.get (PU_STATUS_role u) = 0 ∧ s.unitReady u = true ∧ s.converting = true then s.standby u
  else s

/-- Conversion starts from step 3 of R439 on a qualified feed: PU-A first. -/
def State.convStart (s : State) : State :=
  if s.get (PU_STATUS_role 0) = 0 ∧ s.unitReady 0 = true then s.startUnit 0
  else if s.get (PU_STATUS_role 1) = 0 ∧ s.unitReady 1 = true then s.startUnit 1
  else s

/-- The shutdown of unit `u` completes (R441, R48, R50). -/
def State.unitDown (s : State) (u : Nat) : State :=
  let s := s.setRole u 0
  if s.on (pendUnit u) then
    let s := s.set (pendUnit u) 0
    if s.unitReady u && s.converting then s.standby u else s.svDiscard
  else s

/-! ## Feeds (R417, R444) -/

/-- FEED_QUALIFIED (R417, R439). -/
def feedQualified (u : Nat) (s : State) : State :=
  if s.on (PU_STATUS_feed_ok u) then s
  else
    let s := (s.set (PU_STATUS_feed_ok u) 1).flag (PU_STATUS_feed_event u) (puEvent u 2)
    if s.converting then (if s.on (PU_CTRL_out u) then s else s.returnUnit u)
    else if s.shut.contains .conversion then s.svHold SV_PENDING_ENABLE_module
    else s.convStart

/-- FEED_OUT_OF_RANGE (R444). -/
def feedOutOfRange (u : Nat) (s : State) : State :=
  if s.on (PU_STATUS_feed_ok u) then
    let s := (s.set (PU_STATUS_feed_ok u) 0).flag (PU_STATUS_feed_event u) (puEvent u 2)
    (s.count (PU_CNT_feed_drop u)).dropUnit u
  else s

/-! ## Samples (R421 to R423, R430) -/

/-- The active unit writes a state copy to a standby that runs no law (R430). -/
def State.copyState (s : State) (u : Nat) : State :=
  let n := other u
  let phase := s.get SV_ARB_STATUS_phase
  if s.get (PU_STATUS_role n) = 1 ∧ s.on SV_ARB_STATUS_copy_lost = false ∧ phase ≠ 2 ∧ phase ≠ 3 then
    let tag := ((s.unit u).tag + 1) % 16
    let s := s.setUnit u { s.unit u with tag := tag }
    let s := s.setUnit n { s.unit n with tag := tag }
    s.setLoop n { (s.unit u).loop with ovr := 0 }
  else s

/-- An overrun (R423). -/
def State.overrun (s : State) (u : Nat) (y : Int) : State :=
  let s := (s.count (LE_CNT_overrun u)).flag (PU_STATUS_overrun u) (puEvent u 1)
  let s := s.set (LE_CNT_consec u) (min 3 (s.get (LE_CNT_consec u) + 1))
  let l := (s.unit u).loop
  let s := s.capture u 0 y l.e l.u
  if s.get (LE_CNT_consec u) = 3 then s.unitFault u 2 else s

/-- A sample of the law: closed loop, soft start or shadow (R421, R422, R439). -/
def State.lawSample (s : State) (u : Nat) (y ff : Int) (test : Bool) : State :=
  let p := s.unit u
  let c := s.coefs u
  let inj := s.inject u 0
  let r := match p.soft with
    | some v => (v : Int)
    | none => signed 16 c.r
  let o := p.loop.law c r y ff inj.1 inj.2
  let (l, late) := if test && p.soft.isNone then o.loop.follow c else ({ o.loop with ovr := 0 }, false)
  let s := ((s.setLoop u l).setB (LE_OUT_sat u) o.sat).set (LE_CNT_consec u) 0
  let s := s.capture u 0 y l.e l.u
  let s := match p.soft with
    | none => s
    | some v =>
      if v + 5 ≤ 10000 then s.setUnit u { s.unit u with soft := some (v + 5) }
      else (s.setUnit u { s.unit u with soft := none }).setRole u 2
  s.iff late fun s => s.unitFault u 1

/-- A cycle in which a phase current is limited, or is not (R444). -/
def State.currentLimit (s : State) (u : Nat) (limited : Bool) : State :=
  if !limited then s.setUnit u { s.unit u with limited := 0 }
  else
    let n := (s.unit u).limited + 1
    let s := (s.count (PU_CNT_oc_cycles u)).setUnit u { s.unit u with limited := n }
    s.iff (decide (8 ≤ n)) fun s => s.unitFault u 4

/-- The shadow law of the incoming unit: in cycle c1, then in the overlap cycles, whose outputs are compared (R435). -/
def State.shadowSample (s : State) (u : Nat) (y ff : Int) : State :=
  let s := s.lawSample u y ff false
  if s.get SV_ARB_STATUS_phase = 2 then s.set SV_ARB_STATUS_phase 3
  else if s.get SV_ARB_STATUS_phase = 3 then
    { s with pwr := { s.pwr with pairs := ((s.unit (other u)).loop.u, (s.unit u).loop.u) :: s.pwr.pairs } }
  else s

/-- A standby to which the arbiter is lost watches the mid bus: it takes the active role when its measurement has
stayed below 9.0 V for 10 cycles (R432). -/
def State.standbyWatch (s : State) (u : Nat) (y : Int) : State :=
  let n := if s.on (PU_STATUS_arb_lost u) && decide (y < 9000) then (s.unit u).low + 1 else 0
  let s := s.setUnit u { s.unit u with low := n }
  s.iff (decide (10 ≤ n)) fun s => s.failover (other u)

/-- LOOP_SAMPLE (R421 to R423): unit `u` samples the mid bus at `y` and its load at `ff`. -/
def loopSample (u : Nat) (y ff : Int) (parityOk overrun limited : Bool) (s : State) : State :=
  let s := (s.set (PU_MEAS_vmid u) (unsigned 16 y)).set SV_ARB_STATUS_bus (busBand y)
  let p := s.unit u
  let phase := s.get SV_ARB_STATUS_phase
  let shadow := s.get (PU_STATUS_role u) == 1 && (phase == 2 || phase == 3)
  let s := s.iff (s.switching u) fun s => s.currentLimit u limited
  if s.switching u && decide (p.blank ≠ 0) then
    let s := s.setUnit u { s.unit u with blank := p.blank - 1 }
    s.iff (p.blank == 1 && phase != 4) fun s => s.set (LE_CTRL_closed u) 1
  else if (s.switching u && s.on (LE_CTRL_closed u)) || shadow then
    if !parityOk then s.unitFault u 3
    else if overrun then s.overrun u y
    else if shadow then s.shadowSample u y ff
    else
      let s := s.lawSample u y ff true
      s.iff (s.get (PU_STATUS_role u) == 2) fun s => s.copyState u
  else if s.get (PU_STATUS_role u) = 1 then s.standbyWatch u y
  else s

/-! ## Heartbeats and the arbiter (R428 to R432) -/

/-- HEARTBEAT_LOST (R428, R431): the other unit sees it on the state-copy link as well. -/
def heartbeatLost (u : Nat) (s : State) : State :=
  let s := if s.on SV_ARB_STATUS_copy_lost then s else s.set (PU_STATUS_peer_lost (other u)) 1
  if s.switching u then s.failover u else s.swapBreak u

/-- ARBITER_LOST (R432): each unit keeps its role and swaps are suspended; `fault`: the arbiter reports itself in
fault. -/
def arbiterLost (u : Nat) (fault : Bool) (s : State) : State :=
  let s := (s.set (PU_STATUS_arb_lost u) 1).iff fault fun s => s.set SV_ARB_STATUS_arb_fault 1
  if s.get SV_ARB_STATUS_phase = 4 then s else s.swapOver

/-- ARBITER_HEARTBEAT_REGAINED (R432). -/
def arbiterHeartbeatRegained (u : Nat) (s : State) : State :=
  let s := s.set (PU_STATUS_arb_lost u) 0
  s.iff (!s.on (PU_STATUS_arb_lost (other u))) fun s => s.set SV_ARB_STATUS_arb_fault 0

/-- COPY_LINK (R432): both units lose each other's heartbeat on the state-copy link at once. -/
def copyLink (s : State) : State :=
  let lost := s.on SV_ARB_STATUS_arb_fault || (s.on (PU_STATUS_arb_lost 0) && s.on (PU_STATUS_arb_lost 1))
  let first := !s.on SV_ARB_STATUS_copy_lost
  let s := ((s.set (PU_STATUS_peer_lost 0) 1).set (PU_STATUS_peer_lost 1) 1).set SV_ARB_STATUS_copy_lost 1
  let s := s.iff first fun s => s.raise 485
  let s := if s.get SV_ARB_STATUS_phase = 4 then s else s.swapOver
  let a := s.activeUnit
  if lost then
    if a = 1 ∧ s.get (PU_STATUS_role 1) = 2 ∧ s.get (PU_STATUS_role 0) = 1 then
      let s := (s.openLoop 1).setRole 1 1
      (s.setUnit 1 { s.unit 1 with blank := 0 }).takeOver 0
    else s
  else if s.get SV_ARB_STATUS_bus ≠ 2 ∧ s.get (PU_STATUS_role (other a)) = 1 then s.failover a
  else s

/-- STATE_COPY_LINK_UP (R433): copies resume. -/
def stateCopyLinkUp (s : State) : State :=
  ((s.set (PU_STATUS_peer_lost 0) 0).set (PU_STATUS_peer_lost 1) 0).set SV_ARB_STATUS_copy_lost 0

/-- MID_BUS_UNDERVOLTAGE (R431): the arbiter latches a fault in the active unit. -/
def midBusUndervoltage (s : State) : State :=
  let s := s.set SV_ARB_STATUS_bus 0
  let a := s.activeUnit
  if s.switching a && !s.on (PU_STATUS_arb_lost a) && !s.on SV_ARB_STATUS_arb_fault then s.unitFault a 6 else s

/-- BUS_FAULT (R442): both units stop. -/
def busFault (s : State) : State :=
  let was := s.converting
  let s := ((s.set SV_ARB_STATUS_bus 4).countWrap SV_ARB_CNT_bus_fault).raise 484
  ((s.stopUnit 0).stopUnit 1).iff was State.convCheck

/-- UNIT_OVERTEMPERATURE (R444). -/
def unitOvertemperature (u : Nat) (s : State) : State := s.unitFault u 5

/-- PU_TEMP_WARNING (R444). -/
def puTempWarning (u : Nat) (s : State) : State := s.flag (PU_STATUS_temp_warn u) (puEvent u 3)

/-! ## Role swaps (R433 to R437) -/

/-- SWAP_TIMER_EXPIRY (R433). -/
def swapTimerExpiry (s : State) : State :=
  if s.swapsHeld || s.on SV_ARB_STATUS_sched then s else s.swapSchedule

/-- SWAP_NOW (R433). -/
def swapNow (s : State) : State := if s.on SV_ARB_STATUS_sched then s else s.swapSchedule

/-- SWAP_OVERDUE (R433). -/
def swapOverdue (s : State) : State :=
  if s.on SV_ARB_STATUS_sched then s.flag SV_ARB_STATUS_overdue 483 else s

/-- The arbiter's checks of a permit (R435, step 1). -/
def State.permitOk (s : State) : Bool :=
  s.on SV_ARB_STATUS_sched && !s.swapsHeld && s.unitReady 0 && s.unitReady 1 && s.get SV_ARB_STATUS_bus == 2 &&
    s.on (LE_CTRL_closed s.activeUnit)

/-- SWAP_PERMIT (R435, steps 1 and 2): the permit of the swap that the CX started. Any injection ends. -/
def swapPermit (s : State) : State :=
  if s.activity = some 1 ∧ s.get SV_ARB_STATUS_phase = 0 then
    if s.permitOk then
      let s := { s with pwr := { s.pwr with pairs := [] } }
      ((s.set SV_ARB_STATUS_phase 2).injAbort 0).injAbort 1
    else s.swapOver
  else s

/-- SWAP_HANDOVER (R435, step 5; R436): after cycles c2 and c3 control passes, or the swap is refused. -/
def swapHandover (s : State) : State :=
  if s.get SV_ARB_STATUS_phase = 3 ∧ 2 ≤ s.pwr.pairs.length then
    let o := s.activeUnit
    let n := other o
    if (s.pwr.pairs.take 2).all fun p => decide (((p.1 : Int) - (p.2 : Int)).natAbs ≤ 1311) then
      let s := (s.openLoop o).setRole o 1
      let s := (s.setRole n 2).set SV_ARB_STATUS_active n
      let s := s.setUnit n { s.unit n with blank := 2 }
      s.set SV_ARB_STATUS_phase 4
    else
      let s := { s with pwr := { s.pwr with refusals := s.pwr.refusals + 1 } }
      let s := s.iff (decide (3 ≤ s.pwr.refusals)) fun s => s.set SV_ARB_STATUS_suspect 1
      ((s.swapOver).countWrap SV_ARB_CNT_refused).raise 481
  else s

/-- SWAP_DONE (R435, step 6). -/
def swapDone (s : State) : State :=
  if s.get SV_ARB_STATUS_phase = 4 then
    let n := s.activeUnit
    let s := (s.setUnit n { s.unit n with blank := 0 }).set (LE_CTRL_closed n) 1
    let s := ((s.swapOver).swapRestart).set SV_ARB_STATUS_suspect 0
    let s := { s with pwr := { s.pwr with refusals := 0 } }
    (s.countWrap SV_ARB_CNT_swaps).raise 480
  else s

/-! ## Service and restart (R440, R442) -/

/-- PU_OUT (R440). -/
def puOut (u : Nat) (out : Bool) (s : State) : State :=
  if !out then ((s.set (PU_CTRL_out u) 0).returnUnit u).assayCheck
  else if s.on (pendUnit u) then (s.set (PU_CTRL_out u) 1).set (pendUnit u) 0
  else if s.get (PU_STATUS_role u) = 1 then (s.set (PU_CTRL_out u) 1).stopUnit u
  else s.leRefused u

/-- PU_FAULT_CLEAR (R440). -/
def puFaultClear (u : Nat) (s : State) : State :=
  if s.on (PU_STATUS_fault u) then (s.set (PU_STATUS_fault u) 0).returnUnit u else s

/-- LAST_UNIT_RESTART (R442): `again`: the third failure did not fall within 60 s of the first, so that attempts go
on. -/
def lastUnitRestart (again : Bool) (s : State) : State :=
  let u := if s.on (PU_STATUS_feed_ok 0) then 0 else 1
  let n := if again && s.get SV_ARB_STATUS_restarts == 3 then 0 else s.get SV_ARB_STATUS_restarts
  if s.converting || s.shut.contains .conversion || s.shut.contains (ShutFn.unit u) || !s.on (PU_STATUS_feed_ok u) ||
      !s.on (PU_STATUS_fault u) || decide (3 ≤ n) then s
  else ((s.set (PU_STATUS_fault u) 0).set SV_ARB_STATUS_restarts (n + 1)).startUnit u

/-- R400: a disputed word of the arbitration set. The unit that the arbiter's mid-bus sense shows regulating, given by
`sense` (bit 0 PU-A, bit 1 PU-B), stays active, or PU-A where it shows neither or both. -/
def State.arbSafe (s : State) (sense : Nat) : State :=
  let u := if sense % 4 = 2 then 1 else 0
  let o := other u
  let s := { s with dueSwap := false }
  let s := (s.swapOver).swapRestart
  if s.activeUnit = u then s
  else if s.get (PU_STATUS_role u) = 1 ∧ s.get (PU_STATUS_role o) = 2 then
    let s := (s.openLoop o).setRole o 1
    (s.setUnit o { s.unit o with blank := 0 }).takeOver u
  else s

/-! ## The commands -/

def execFeedQualified (unit : Nat) (s : State) := effect (.feedQualified unit) (feedQualified unit) s
def execFeedOutOfRange (unit : Nat) (s : State) := effect (.feedOutOfRange unit) (feedOutOfRange unit) s
def execLoopSample (unit : Nat) (y ff : Int) (parityOk overrun limited : Bool) (s : State) :=
  effect (.loopSample unit y ff parityOk overrun limited) (loopSample unit y ff parityOk overrun limited) s
def execHeartbeatLost (unit : Nat) (s : State) := effect (.heartbeatLost unit) (heartbeatLost unit) s
def execArbiterLost (unit : Nat) (fault : Bool) (s : State) := effect (.arbiterLost unit fault) (arbiterLost unit fault) s
def execArbiterHeartbeatRegained (unit : Nat) (s : State) :=
  effect (.arbiterHeartbeatRegained unit) (arbiterHeartbeatRegained unit) s
def execCopyLink (s : State) := effect .copyLink copyLink s
def execStateCopyLinkUp (s : State) := effect .stateCopyLinkUp stateCopyLinkUp s
def execMidBusUndervoltage (s : State) := effect .midBusUndervoltage midBusUndervoltage s
def execBusFault (s : State) := effect .busFault busFault s
def execUnitOvertemperature (unit : Nat) (s : State) := effect (.unitOvertemperature unit) (unitOvertemperature unit) s
def execPuTempWarning (unit : Nat) (s : State) := effect (.puTempWarning unit) (puTempWarning unit) s
def execSwapTimerExpiry (s : State) := effect .swapTimerExpiry swapTimerExpiry s
def execSwapNow (s : State) := effect .swapNow swapNow s
def execSwapOverdue (s : State) := effect .swapOverdue swapOverdue s
def execSwapPermit (s : State) := effect .swapPermit swapPermit s
def execSwapHandover (s : State) := effect .swapHandover swapHandover s
def execSwapDone (s : State) := effect .swapDone swapDone s
def execPuOut (unit : Nat) (out : Bool) (s : State) := effect (.puOut unit out) (puOut unit out) s
def execPuFaultClear (unit : Nat) (s : State) := effect (.puFaultClear unit) (puFaultClear unit) s
def execLastUnitRestart (again : Bool) (s : State) := effect (.lastUnitRestart again) (lastUnitRestart again) s

end Sys2Proof.Machine
end

