-- ==== Sys2Proof/Machine/Guard.lean ====
section
/-! DEFINITION. The bias guard (R450 to R469). Sides are 0 for A and 1 for B. -/

namespace Sys2Proof.Machine

open Sys2Proof

/-! ## Conditions and shutdown (R450, R460) -/

/-- A strap image is valid: odd parity, reserved straps 0, mode native or compatibility (R451). -/
def strapsValid (v : Nat) : Bool :=
  (bitsUp v 8).foldl xor false && bits v 5 2 == 0 && (bits v 0 2 == 1 || bits v 0 2 == 2)

/-- Native mode (R451). -/
def State.guardNative (s : State) : Bool := bits (s.get SV_GUARD_CFG_straps_pu) 0 2 == 1

/-- Some fault is latched in SV_GUARD_FAULT. -/
def State.guardFaulty (s : State) : Bool :=
  [SV_GUARD_FAULT_clock, SV_GUARD_FAULT_config, SV_GUARD_FAULT_fb_enable, SV_GUARD_FAULT_fb_disable,
    SV_GUARD_FAULT_fb_unexpected, SV_GUARD_FAULT_out_b, SV_GUARD_FAULT_out_a, SV_GUARD_FAULT_pulse_missing,
    SV_GUARD_FAULT_discrepancy].any s.on

/-- The conditions of R450 other than the request hold, and BIAS_FB shows the mirror contact closed (R458). -/
def State.biasAllowed (s : State) : Bool :=
  strapsValid (s.get SV_GUARD_CFG_straps_pu) && s.on SV_GUARD_STATUS_proof && s.on SV_GUARD_STATUS_closed &&
    !s.guardFaulty && s.on SV_GUARD_STATUS_fb

/-- Both outputs go off, confirmed by readback. -/
def State.outputsOff (s : State) : State := ((s.set SV_GUARD_STATUS_en_a 0).set SV_GUARD_STATUS_en_b 0).raise 490

/-- A cause of shutdown arrives (R460, R463): while off or shutting down it changes no step. -/
def State.biasShutdown (s : State) : State :=
  if s.get SV_GUARD_STATUS_state = 1 ∨ s.get SV_GUARD_STATUS_state = 2 then
    let s := s.iff s.guard.pulse.isSome fun s => s.countWrap SV_GUARD_CNT_abandoned
    let s := { s with guard := { s.guard with pulse := none }, shut := s.shut ++ [ShutFn.bias] }
    ((s.set SV_GUARD_STATUS_state 3).countWrap SV_GUARD_CNT_shutdowns).outputsOff
  else s

/-- A fault of the guard latches (R465). -/
def State.guardFault (s : State) (f : Fld) : State :=
  if s.on f then s else (((s.set f 1).countWrap SV_GUARD_CNT_faults).raise 491).biasShutdown

/-- The enable sequence starts (R459). -/
def State.biasStart (s : State) : State :=
  ((s.set SV_GUARD_STATUS_state 1).set SV_GUARD_STATUS_en_a 1).set SV_GUARD_STATUS_en_b 1

/-- The shutdown completes; a pending request is checked (R460, R50). -/
def State.biasDown (s : State) : State :=
  let s := State.set { s with shut := s.shut.filter (· != ShutFn.bias) } SV_GUARD_STATUS_state 0
  if s.on SV_PENDING_ENABLE_bias then
    let s := s.set SV_PENDING_ENABLE_bias 0
    if s.biasAllowed then s.biasStart else s.svDiscard
  else s

/-! ## The interlock (R453 to R457) -/

/-- The channels and the interlock as judged, chatter counting as open (R453, R455). An opening starts a shutdown. -/
def State.judge (s : State) : State :=
  let a := s.guard.rawA && !s.on SV_GUARD_STATUS_chatter_a
  let b := s.guard.rawB && !s.on SV_GUARD_STATUS_chatter_b
  let s := ((s.setB SV_GUARD_STATUS_ch_a a).setB SV_GUARD_STATUS_ch_b b).setB SV_GUARD_STATUS_closed (a && b)
  if a && b then s else s.biasShutdown

/-- The proof cycle restarts: its first part is under way where both channels are open (R457). -/
def State.proofRestart (s : State) : State :=
  { s with guard := { s.guard with opened := !s.on SV_GUARD_STATUS_ch_a && !s.on SV_GUARD_STATUS_ch_b } }

/-- The own judgement of a channel changes. A new opening restarts the proof cycle; with the other channel open too
both are open at once (R457). -/
def State.setRaw (s : State) (side : Nat) (closed : Bool) : State :=
  let g := if side = 0 then { s.guard with rawA := closed } else { s.guard with rawB := closed }
  let s := State.judge { s with guard := g }
  if closed then s
  else
    s.proofRestart

/-- CHANNEL_OPEN (R453): the channel has stayed away from its closed level for 1.0 ms. -/
def channelOpen (side : Nat) (s : State) : State := s.setRaw side false

/-- CHANNEL_CLOSED (R453): 10 ms at its closed level, dark pulses counted as closed. -/
def channelClosed (side : Nat) (s : State) : State := s.setRaw side true

/-- INTERLOCK_DARK_PULSE (R453, R454): the channel stays closed. The 2.0 s of R454 and the 100 ms of R455 are timed by
the environment, which reports their ends as PULSE_MISSING and CHATTER. -/
def interlockDarkPulse (_side : Nat) (s : State) : State := s

/-- PULSE_MISSING (R454): a checked, closed channel has shown no dark pulse for 2.0 s. -/
def pulseMissing (side : Nat) (s : State) : State :=
  let closed := if side = 0 then s.on SV_GUARD_STATUS_ch_a else s.on SV_GUARD_STATUS_ch_b
  if closed && (side == 0 || s.guardNative) then
    ((s.setRaw side false).guardFault SV_GUARD_FAULT_pulse_missing).raise 494
  else s

/-- Chatter status of a side. -/
def chatterBit (side : Nat) : Fld := if side = 0 then SV_GUARD_STATUS_chatter_a else SV_GUARD_STATUS_chatter_b

/-- CHATTER (R455): more than 16 transitions within 100 ms. -/
def chatter (side : Nat) (s : State) : State :=
  if s.on (chatterBit side) then s
  else
    ((s.set (chatterBit side) 1).judge.raise 494).proofRestart

/-- CHATTER_END (R455): no transition other than dark pulses for 1 s. -/
def chatterEnd (side : Nat) (s : State) : State := (s.set (chatterBit side) 0).judge

/-- DISCREPANCY (R456): a disagreement has lasted t_d. -/
def discrepancy (s : State) : State :=
  if s.on SV_GUARD_STATUS_ch_a == s.on SV_GUARD_STATUS_ch_b then s
  else State.guardFault { s with guard := { s.guard with opened := false } } SV_GUARD_FAULT_discrepancy

/-- GUARD_PROOF (R457): both channels were open at once and have now stayed closed for 100 ms. -/
def guardProof (s : State) : State :=
  if s.guard.opened && s.on SV_GUARD_STATUS_closed then
    let s := { s with guard := { s.guard with opened := false } }
    let s := s.each [SV_GUARD_FAULT_fb_enable, SV_GUARD_FAULT_fb_disable, SV_GUARD_FAULT_fb_unexpected,
      SV_GUARD_FAULT_out_b, SV_GUARD_FAULT_out_a, SV_GUARD_FAULT_pulse_missing, SV_GUARD_FAULT_discrepancy]
      fun s f => s.set f 0
    (s.set SV_GUARD_STATUS_proof 1).raise 492
  else s

/-! ## Requests and feedback (R458 to R461) -/

/-- BIAS_ENABLE (R458). -/
def biasEnable (s : State) : State :=
  match s.get SV_GUARD_STATUS_state with
  | 3 => s.svHold SV_PENDING_ENABLE_bias
  | 0 => if s.biasAllowed then s.biasStart else (s.countWrap SV_GUARD_CNT_refused).raise 493
  | _ => s

/-- BIAS_DISABLE (R458, R49). -/
def biasDisable (s : State) : State := (s.set SV_PENDING_ENABLE_bias 0).biasShutdown

/-- BIAS_FB_CHANGE (R459 to R461): BIAS_FB has been stable for 1 ms; `masked`: within 5 ms after a dark pulse. -/
def biasFbChange (closed masked : Bool) (s : State) : State :=
  let s := s.setB SV_GUARD_STATUS_fb closed
  match s.get SV_GUARD_STATUS_state with
  | 1 => if closed then s else (s.set SV_GUARD_STATUS_state 2).raise 489
  | 3 => if closed then s.biasDown else s
  | 2 => if closed && !masked && s.guard.pulse.isNone then s.guardFault SV_GUARD_FAULT_fb_unexpected else s
  | _ => if closed || masked then s else s.guardFault SV_GUARD_FAULT_fb_unexpected

/-- FB_ENABLE_TIMEOUT (R459): 30 ms without the mirror contact opening. -/
def fbEnableTimeout (s : State) : State :=
  if s.get SV_GUARD_STATUS_state = 1 then s.guardFault SV_GUARD_FAULT_fb_enable else s

/-- FB_DISABLE_TIMEOUT (R460): 30 ms after the outputs went off. The shutdown completes, with the fault unless BIAS_FB
shows the mirror contact closed. -/
def fbDisableTimeout (s : State) : State :=
  if s.get SV_GUARD_STATUS_state = 3 then
    (s.iff (!s.on SV_GUARD_STATUS_fb) fun s => s.guardFault SV_GUARD_FAULT_fb_disable).biasDown
  else s

/-! ## Dark test pulses, straps and clock (R452, R462 to R464) -/

/-- DARK_TEST_PULSE (R462, R463): only while the state is on. -/
def darkTestPulse (side : Nat) (s : State) : State :=
  if s.get SV_GUARD_STATUS_state = 2 ∧ s.guard.pulse = none then { s with guard := { s.guard with pulse := some side } }
  else s

/-- DARK_PULSE_END (R462): the pulse on `side` ends with its verdict. With no pulse under way on that side, `backHigh`
false says that the readback has differed from the command for 100 µs, whatever the command is. -/
def darkPulseEnd (side : Nat) (sawLow backHigh : Bool) (s : State) : State :=
  let out := if side = 0 then SV_GUARD_FAULT_out_a else SV_GUARD_FAULT_out_b
  if s.guard.pulse = some side then
    let s := { s with guard := { s.guard with pulse := none } }
    if sawLow && backHigh then s else s.guardFault out
  else if backHigh then s
  else s.guardFault out

/-- STRAP_SAMPLE (R452). -/
def strapSample (straps : Nat) (s : State) : State :=
  let image := s.get SV_GUARD_CFG_straps_pu
  let s := s.set SV_GUARD_CFG_straps_now straps
  let n := if s.get SV_GUARD_CFG_straps_now = image then 0 else s.guard.strapDiff + 1
  let s := { s with guard := { s.guard with strapDiff := n } }
  if 2 ≤ n || !strapsValid image then s.guardFault SV_GUARD_FAULT_config else s

/-- CLK_FAULT (R464). -/
def clkFault (s : State) : State :=
  State.guardFault { s with guard := { s.guard with clkOut := true } } SV_GUARD_FAULT_clock

/-- SUPERVISOR_CLOCK_RETURN (R464): the event of the clock fault is logged now. -/
def supervisorClockReturn (s : State) : State :=
  if s.guard.clkOut then State.raise { s with guard := { s.guard with clkOut := false } } 495 else s

/-- R400: a disputed or unresolved word of the bias-guard set: outputs off, proof cleared. -/
def State.guardSafe (s : State) : State :=
  let s := { s with guard := { s.guard with opened := false } }
  (s.set SV_GUARD_STATUS_proof 0).biasShutdown

/-! ## The commands -/

def execStrapSample (straps : Nat) (s : State) := effect (.strapSample straps) (strapSample straps) s
def execChannelOpen (side : Nat) (s : State) := effect (.channelOpen side) (channelOpen side) s
def execChannelClosed (side : Nat) (s : State) := effect (.channelClosed side) (channelClosed side) s
def execPulseMissing (side : Nat) (s : State) := effect (.pulseMissing side) (pulseMissing side) s
def execChatter (side : Nat) (s : State) := effect (.chatter side) (chatter side) s
def execChatterEnd (side : Nat) (s : State) := effect (.chatterEnd side) (chatterEnd side) s
def execDiscrepancy (s : State) := effect .discrepancy discrepancy s
def execGuardProof (s : State) := effect .guardProof guardProof s
def execBiasEnable (s : State) := effect .biasEnable biasEnable s
def execBiasDisable (s : State) := effect .biasDisable biasDisable s
def execBiasFbChange (closed masked : Bool) (s : State) := effect (.biasFbChange closed masked) (biasFbChange closed masked) s
def execFbEnableTimeout (s : State) := effect .fbEnableTimeout fbEnableTimeout s
def execFbDisableTimeout (s : State) := effect .fbDisableTimeout fbDisableTimeout s
def execDarkTestPulse (side : Nat) (s : State) := effect (.darkTestPulse side) (darkTestPulse side) s
def execDarkPulseEnd (side : Nat) (sawLow backHigh : Bool) (s : State) :=
  effect (.darkPulseEnd side sawLow backHigh) (darkPulseEnd side sawLow backHigh) s
def execClkFault (s : State) := effect .clkFault clkFault s
def execInterlockDarkPulse (side : Nat) (s : State) := effect (.interlockDarkPulse side) (interlockDarkPulse side) s
def execSupervisorClockReturn (s : State) := effect .supervisorClockReturn supervisorClockReturn s

end Sys2Proof.Machine
end

