-- ==== Sys2Proof/Machine/PlateFormat.lean ====
section
/-! DEFINITION. The layout of the plate: sections, quarantine units, the fields of each section and the checks made
at commit and at reload (R56 to R59, R61, R85). A reader `rd f w` gives word `w` of frame `f`. -/

namespace Sys2Proof.Machine

open Sys2Proof

/-- Reads word `w` of frame `f`. -/
abbrev PlateRd := Nat → Nat → Nat

/-- The sections of the plate (R56). -/
inductive Section where
  | header
  | serviceMap
  | laneRoles
  | regionInput
  | maskTests
  | crossMap
  | trigClass
  | routing
  | hatch
  | chaser
  | graph
  | histDef
  | reserved
  deriving DecidableEq, Repr

/-- The section a frame lies in (R56). -/
def sectionOf (f : Nat) : Section :=
  if f = 0 then .header
  else if f < 0x8 then .serviceMap
  else if f < 0xE then .laneRoles
  else if f < 0x10 then .reserved
  else if f < 0x70 then .regionInput
  else if f < 0xD0 then .maskTests
  else if f < 0xF0 then .crossMap
  else if f < 0x130 then .trigClass
  else if f < 0x170 then .routing
  else if f < 0x200 then .reserved
  else if f < 0x2C0 then .hatch
  else if f < 0x300 then .reserved
  else if f < 0x400 then .chaser
  else if f < 0x580 then .graph
  else if f < 0x800 then .reserved
  else if f < 0x1400 then .histDef
  else .reserved

/-- First frame of the quarantine unit that holds frame `f` (R56). -/
def unitFirst (f : Nat) : Nat :=
  match sectionOf f with
  | .serviceMap => 1
  | .laneRoles => 8
  | .trigClass => f - f % 4
  | .hatch => f - f % 2
  | .chaser => f - f % 8
  | .histDef => f - f % 2
  | _ => f

/-- Number of frames of the unit (R56). -/
def unitSize (f : Nat) : Nat :=
  match sectionOf f with
  | .serviceMap => 7
  | .laneRoles => 6
  | .trigClass => 4
  | .hatch => 2
  | .chaser => 8
  | .histDef => 2
  | _ => 1

/-- A unit that a quarantine or a reload by-passes: not shadowed, routing, header or reserved (R78, R82). -/
def bypassable (f : Nat) : Bool :=
  match sectionOf f with
  | .header | .serviceMap | .laneRoles | .routing | .reserved => false
  | _ => true

/-- By-pass length D of the section of frame `f`, in buckets (R78). -/
def bypassLength (f : Nat) : Nat := if sectionOf f = .regionInput then 400 else 64

/-- First frame of the unit of region input, mask tests, cross-region map, class, hatch masks, chaser,
neighbourhood frame of a channel and histogram definition (R56). -/
def fRegion (r : Nat) : Nat := 0x10 + r
def fMask (r : Nat) : Nat := 0x70 + r
def fCross (x : Nat) : Nat := 0xD0 + x
def fClass (c : Nat) : Nat := 0xF0 + 4 * c
def fHatch (r : Nat) : Nat := 0x200 + 2 * r
def fChaser (c : Nat) : Nat := 0x300 + 8 * c
def fGraph (ch : Nat) : Nat := 0x400 + ch / 4
def fHist (ch : Nat) : Nat := 0x800 + 2 * ch

/-- The frame CRC-16 over the frame number and the 16 words (R61). -/
def frameCrc (f : Nat) (words : List Nat) : Nat :=
  ((bytesOf f 2 ++ (words.map fun w => bytesOf w 8).flatten).map bitsMsb).flatten.foldl (crcBit 16 0x1021) 0xFFFF

/-! Regions and channels (R10, R126). -/

/-- Region of a channel (R10). -/
def regionOf (ch : Nat) : Nat := (ch / 32 / 4) * 8 + (ch % 32) / 4

/-- Region position of a channel (R126). -/
def posOf (ch : Nat) : Nat := (ch / 32 % 4) * 4 + (ch % 32) % 4

/-- The channel at position `i` of region `r` (R10, R126). -/
def chanOf (r i : Nat) : Nat := ((r / 8) * 4 + i / 4) * 32 + (r % 8) * 4 + i % 4

/-! Region input (R125): word 0 of frame 0x0010 + r. -/

def riEnable (w : Nat) : Bool := bit w 0
def riCurrent (w : Nat) : Bool := bit w 1
def riInjToMap (w : Nat) : Bool := bit w 6
def riPresent (w i : Nat) : Bool := bit w (8 + i)

/-! Service map (R215). -/

/-- Stage `st` of R28, numbered from 1, is in service by the service map read with `rd`. -/
def smStage (rd : PlateRd) (st : Nat) : Bool := bit (rd 1 0) (st - 1)
def smBanks (rd : PlateRd) : Nat := bits (rd 1 1) 0 16
def smFe (rd : PlateRd) (n : Nat) : Bool := bit (rd 1 2) n

/-! Lane roles (R323). -/

/-- Role of lane `n`: 0 unused, 1 timing/control, 2 trigger primitive, 3 data. -/
def lrRole (rd : PlateRd) (n : Nat) : Nat := bits (rd (8 + n / 8) 1) (8 * (n % 8)) 2
def lrGroup (rd : PlateRd) (n : Nat) : Nat := bits (rd (8 + n / 8) 1) (8 * (n % 8) + 2) 3
def lrSpareEn (rd : PlateRd) (n : Nat) : Bool := bit (rd (8 + n / 8) 2) (8 * (n % 8) + 3)

/-- The lane declared as spare of lane `n`. -/
def lrSpare (rd : PlateRd) (n : Nat) : Nat := n / 8 * 8 + bits (rd (8 + n / 8) 2) (8 * (n % 8)) 3

/-- Mode of quad `q` (R322). -/
def lrMode (rd : PlateRd) (q : Nat) : Nat := bits (rd (8 + q / 2) 0) (2 * (q % 2)) 2

/-- Data lanes of port `p` use raw Ethernet (R303). -/
def lrEthernet (rd : PlateRd) (p : Nat) : Bool := bit (rd (8 + p) 0) 8

/-! Trigger classes (R258). -/

def tcEnable (rd : PlateRd) (c : Nat) : Bool := bit (rd (fClass c) 0) 63
def tcRed (rd : PlateRd) (c : Nat) : Nat := bits (rd (fClass c) 0) 59 4
def tcPre (rd : PlateRd) (c : Nat) : Nat := bits (rd (fClass c) 0) 45 14
def tcPost (rd : PlateRd) (c : Nat) : Nat := bits (rd (fClass c) 0) 31 14
def tcRearm (rd : PlateRd) (c : Nat) : Nat := bits (rd (fClass c) 0) 21 10
def tcPolicy (rd : PlateRd) (c : Nat) : Nat := bits (rd (fClass c) 0) 19 2
def tcExcl (rd : PlateRd) (c : Nat) : Nat := bits (rd (fClass c) 0) 11 8
def tcRegion (rd : PlateRd) (c r : Nat) : Bool :=
  if r < 64 then bit (rd (fClass c) 1) r else bit (rd (fClass c) 2) (r - 64)
def tcCtWin (rd : PlateRd) (c : Nat) : Nat := bits (rd (fClass c) 3) 0 16

/-- Largest cluster in pads; 0 is taken as 31. -/
def tcCmax (rd : PlateRd) (c : Nat) : Nat :=
  if bits (rd (fClass c) 3) 16 5 = 0 then 31 else bits (rd (fClass c) 3) 16 5

/-! Cross-region maps and hatch masks (R231, R233). -/

def crossEntry (rd : PlateRd) (x i : Nat) : Nat := bits (rd (fCross x) (i / 4)) (16 * (i % 4)) 16

/-- Map `x` has an entry in use (R232). -/
def crossLive (rd : PlateRd) (x : Nat) : Bool := (List.range 16).any fun i => bit (crossEntry rd x i) 12

/-- Mask `k` of region `r`: care in [31:16], value in [15:0]. -/
def hatchMask (rd : PlateRd) (r k : Nat) : Nat :=
  bits (rd (fHatch r + k / 32) (k / 2 % 16)) (32 * (k % 2)) 32

def hatchCare (m : Nat) : Nat := bits m 16 16
def hatchValue (m : Nat) : Nat := bits m 0 16

/-! Chasers (R236, R238). -/

def chCond (rd : PlateRd) (c t : Nat) : Nat := rd (fChaser c + t / 8) (2 * (t % 8))
def chAct (rd : PlateRd) (c t : Nat) : Nat := rd (fChaser c + t / 8) (2 * (t % 8) + 1)
def chEnable (rd : PlateRd) (c : Nat) : Bool := bit (rd (fChaser c + 6) 0) 63
def chEmit (rd : PlateRd) (c : Nat) : Bool := bit (rd (fChaser c + 6) 0) 62
def chLane (rd : PlateRd) (c : Nat) : Nat := bits (rd (fChaser c + 6) 0) 56 6
def chSlot (rd : PlateRd) (c : Nat) : Nat := bits (rd (fChaser c + 6) 0) 51 5
def chReport (rd : PlateRd) (c : Nat) : Nat := bits (rd (fChaser c + 6) 0) 49 2
def chLimit (rd : PlateRd) (c k : Nat) : Nat := bits (rd (fChaser c + 6) 1) (16 * k) 16

/-- Timer length; 0 is taken as 1. -/
def chTlen (rd : PlateRd) (c t : Nat) : Nat :=
  if bits (rd (fChaser c + 6) 2) (16 * t) 16 = 0 then 1 else bits (rd (fChaser c + 6) 2) (16 * t) 16

def cdEn (w : Nat) : Bool := bit w 63
def cdNext (w : Nat) : Nat := bits w 59 4
def cdOp (w : Nat) : Nat := bits w 57 2
def cdTermA (w : Nat) : Nat := bits w 44 13
def cdTermB (w : Nat) : Nat := bits w 31 13
def cdOut (w : Nat) : Nat := bits w 23 8
def cdOpen (w : Nat) : Bool := bit w 22
def cdClass (w : Nat) : Nat := bits w 18 4

/-- The terms a transition examines: term_b is ignored when op is 0b00 (R236). -/
def cdTerms (w : Nat) : List Nat := if cdOp w = 0 then [cdTermA w] else [cdTermA w, cdTermB w]

/-! Pad neighbourhood, histogram definitions, routing defaults (R270, R275, R367). -/

def graphEntry (rd : PlateRd) (ch e : Nat) : Nat :=
  bits (rd (fGraph ch) (4 * (ch % 4) + e / 4)) (16 * (e % 4)) 16

/-- The neighbours of a channel (R270). -/
def neighbours (rd : PlateRd) (ch : Nat) : List Nat :=
  ((List.range 16).filter fun e => bit (graphEntry rd ch e) 15).map fun e => bits (graphEntry rd ch e) 0 11

def routeDefault (rd : PlateRd) (d : Nat) : Nat := bits (rd (0x130 + d / 64) (d % 64 / 4)) (16 * (d % 4)) 16

/-! The checks (R85). Each gives the frames of `fs` that hold a field it finds wrong; `fs` are the frames that may
differ from zero, in rising order. -/

def chkHeader (rd : PlateRd) : List Nat :=
  if rd 0 0 = 0x15360A0100011800 && (List.range 14).all (fun w => rd 0 (w + 2) == 0) then [] else [0]

/-- A reserved frame: of R56, or within its section (R215, text before R236, R258, R275). -/
def reservedFrame (f : Nat) : Bool :=
  match sectionOf f with
  | .reserved => true
  | .serviceMap => f != 1
  | .trigClass => f % 4 != 0
  | .chaser => f % 8 == 7
  | .histDef => f % 2 == 1
  | _ => false

def chkReserved (rd : PlateRd) (fs : List Nat) : List Nat :=
  fs.filter fun f => reservedFrame f && (List.range 16).any fun w => rd f w != 0

def lanesOfPort (p : Nat) : List Nat := (List.range 8).map fun j => 8 * p + j

/-- Quad `q` holds synchronous roles or streaming roles, not both (R36). -/
def quadUnmixed (rd : PlateRd) (q : Nat) : Bool :=
  let roles := (List.range 4).map fun j => lrRole rd (4 * q + j)
  !(roles.any (fun r => r == 1 || r == 2) && roles.contains 3)

def chkDomain (rd : PlateRd) : List Nat :=
  ((List.range 6).filter fun p => !(quadUnmixed rd (2 * p) && quadUnmixed rd (2 * p + 1))).map (· + 8)

/-- The group and spare rules of one lane (R324). -/
def laneGroupOk (rd : PlateRd) (n : Nat) : Bool :=
  let mates := (lanesOfPort (n / 8)).filter fun m => lrGroup rd m == lrGroup rd n
  let sp := lrSpare rd n
  (lrGroup rd n == 0 ||
    (mates.all (fun m => lrRole rd m == lrRole rd n && lrMode rd (m / 4) == lrMode rd (n / 4)) &&
      lrRole rd n != 2)) &&
  (!lrSpareEn rd n ||
    (lrRole rd n == 2 && lrRole rd sp == 2 && lrMode rd (sp / 4) == lrMode rd (n / 4) && !lrSpareEn rd sp))

def chkGroups (rd : PlateRd) : List Nat :=
  ((List.range 6).filter fun p => !(lanesOfPort p).all (laneGroupOk rd)).map (· + 8)

/-- The lane that carried the commit keeps its role and rate against the roles in force `old` (R85, R86). -/
def chkCommitLane (rd old : PlateRd) (lane : Option Nat) : List Nat :=
  match lane with
  | none => []
  | some n =>
    if lrRole rd n = 1 && lrMode rd (n / 4) = lrMode old (n / 4) then [] else [8 + n / 8]

def chkWindow (rd : PlateRd) (fs : List Nat) : List Nat :=
  ((List.range 16).filter fun c => fs.contains (fClass c) && decide (32704 < tcPre rd c + tcPost rd c + 1)).map fClass

def chkReduction (rd : PlateRd) (fs : List Nat) : List Nat :=
  ((List.range 16).filter fun c => fs.contains (fClass c) && tcEnable rd c && tcRed rd c == 0).map fClass

/-- A term index that check 0x08 rejects (R237). -/
def termNotAllowed (t : Nat) : Bool := (0x1904 ≤ t && t ≤ 0x190F) || (0x1912 ≤ t && t ≤ 0x191F)

/-- Check 0x08. State and class indexes fit their fields, so it judges the terms (R237): those of a transition in use,
and term_b where op examines it (DESIGN CHOICE: the spec does not say whether a term that is never examined counts). -/
def chkChaser (rd : PlateRd) (fs : List Nat) : List Nat :=
  fs.filter fun f => decide (sectionOf f = .chaser) && decide (f % 8 < 6) &&
    (List.range 8).any fun t => cdEn (rd f (2 * t)) && (cdTerms (rd f (2 * t))).any termNotAllowed

def chkHatch (rd : PlateRd) (fs : List Nat) : List Nat :=
  fs.filter fun f => decide (sectionOf f = .hatch) && decide (f % 2 = 1) &&
    (List.range 32).any fun x => hatchCare (hatchMask rd ((f - 0x200) / 2) (32 + x)) != 0 && !crossLive rd x

def chkGraph (rd : PlateRd) (fs : List Nat) : List Nat :=
  fs.filter fun f => decide (sectionOf f = .graph) &&
    (List.range 4).any fun q => (neighbours rd (4 * (f - 0x400) + q)).any fun ch =>
      decide (1535 < ch) || ch == 4 * (f - 0x400) + q

/-- Port `p` has a timing/control lane (R85, check 0x0C). -/
def portHasTc (rd : PlateRd) (p : Nat) : Bool := decide (p < 6) && (lanesOfPort p).any fun n => lrRole rd n == 1

def chkRouting (rd : PlateRd) (fs : List Nat) : List Nat :=
  fs.filter fun f => decide (sectionOf f = .routing) &&
    (List.range 64).any fun i =>
      let e := routeDefault rd (64 * (f - 0x130) + i)
      bit e 15 && (bits e 0 4 == bits e 4 4 || !portHasTc rd (bits e 0 4) || !portHasTc rd (bits e 4 4))

/-- Slots of a lane at the rate of its quad: 19 at 640·f_B, 7 at 256·f_B (R241). -/
def slotsOf (rd : PlateRd) (n : Nat) : Nat := if lrMode rd (n / 4) = 1 then 19 else 7

/-- The chasers that send words on lane `n`. -/
def chasersOn (rd : PlateRd) (n : Nat) : List Nat :=
  (List.range 32).filter fun c => chEnable rd c && chEmit rd c && chLane rd c == n

def chkPrimitives (rd : PlateRd) (fs : List Nat) : List Nat :=
  fs.filter fun f => decide (sectionOf f = .chaser) && decide (f % 8 = 6) &&
    (let c := (f - 0x300) / 8
     chEnable rd c && chEmit rd c && lrRole rd (chLane rd c) == 2 &&
       decide (slotsOf rd (chLane rd c) < (chasersOn rd (chLane rd c)).length))

def chkService (rd : PlateRd) : List Nat :=
  let st := bits (rd 1 0) 0 9
  if st % 32 = 31 && (st / 64 = 0 || st / 64 = 7) && smBanks rd % 256 != 0 && smBanks rd / 256 != 0 then [] else [1]

/-- The checks made at commit, in code order: code and failing frames (R85). -/
def commitChecks (rd old : PlateRd) (fs : List Nat) (lane : Option Nat) : List (Nat × List Nat) :=
  [(1, chkHeader rd), (2, chkReserved rd fs), (3, chkDomain rd), (4, chkGroups rd),
   (5, chkCommitLane rd old lane), (6, chkWindow rd fs), (7, chkReduction rd fs), (8, chkChaser rd fs),
   (9, chkHatch rd fs), (0xA, chkGraph rd fs), (0xC, chkRouting rd fs), (0xD, chkPrimitives rd fs),
   (0xE, chkService rd)]

/-- The checks repeated at reload on the frames of one unit, in code order (R85). -/
def reloadChecks (rd : PlateRd) (fs : List Nat) : List (Nat × List Nat) :=
  [(1, if fs.contains 0 then chkHeader rd else []), (2, chkReserved rd fs), (6, chkWindow rd fs), (7, chkReduction rd fs),
   (8, chkChaser rd fs), (9, chkHatch rd fs), (0xA, chkGraph rd fs), (0xC, chkRouting rd fs),
   (0xD, chkPrimitives rd fs)]

/-- The first failed check: lowest code, with its lowest frame (R86). -/
def firstFail : List (Nat × List Nat) → Option (Nat × Nat)
  | [] => none
  | (c, f :: fs) :: _ => some (c, fs.foldl min f)
  | (_, []) :: rest => firstFail rest

/-- Frames that hold a word other than 0, rising. -/
def framesOf (m : List (Nat × Nat)) : List Nat :=
  m.foldr (fun e acc => if acc.contains (e.1 / 16) then acc else e.1 / 16 :: acc) []

end Sys2Proof.Machine
end

