-- ==== Sys2Proof/Machine/Protect.lean ====
section
/-! DEFINITION. Records of the protection regimes that every memory shares: ECC counts and marks, the repair file
and the merge buffers (R394 to R413). -/

namespace Sys2Proof.Machine

open Sys2Proof

/-- Memory codes (R394). -/
def memHs0 : Nat := 1
def memHs1 : Nat := 2
def memPlate : Nat := 3
def memDesc : Nat := 4
def memLink : Nat := 5
def memCtx : Nat := 6
def memIram : Nat := 7
def memDram : Nat := 8
def memFbuf : Nat := 9
def memQueues : Nat := 10

/-- Words or bytes of a memory (R394). -/
def memSize (m : Nat) : Nat :=
  match m with
  | 1 | 2 => 8388608
  | 3 => 98304
  | 4 => 73728
  | 5 => 1048576
  | 6 => 40960
  | 7 => 32768
  | 8 => 131072
  | 9 => 8388608
  | 10 => 131072
  | _ => 0

/-- Key of a word or byte in the mark list. -/
def markKey (m i : Nat) : Nat := 2 ^ 24 * m + i

/-- 0 good, 1 uncorrectable, 2 poison (R396). -/
def State.mark (s : State) (m i : Nat) : Nat := Sparse.get 0 (markKey m i) s.prot.marks

def State.setMark (s : State) (m i v : Nat) : State :=
  { s with prot := { s.prot with marks := Sparse.put 0 (markKey m i) v s.prot.marks } }

/-- Marks of the words of memory `m` for which `p` holds are dropped: the words were written whole. -/
def State.clearMarks (s : State) (m : Nat) (p : Nat → Bool) : State :=
  { s with prot := { s.prot with marks := s.prot.marks.filter fun e => !(e.1 / 2 ^ 24 == m && p (e.1 % 2 ^ 24)) } }

/-- CX_ECC_LAST takes kind, finder, memory and index (R411). -/
def State.eccLast (s : State) (kind found m i : Nat) : State :=
  (((s.set CX_ECC_LAST_kind kind).set CX_ECC_LAST_found_by found).set CX_ECC_LAST_memory m).set CX_ECC_LAST_index i

/-- A class 2 to 4 fault is counted; at N the class raises EV_CX_ECC_RATE and its count restarts (R410). -/
def State.countClass (s : State) (cls k : Nat) : State :=
  let n := Sparse.get 0 (cls * 256 + k) s.prot.counts + 1
  if s.get (CX_FLT_CLASS_n cls) ≤ n then
    State.raise { s with prot := { s.prot with counts := Sparse.put 0 (cls * 256 + k) 0 s.prot.counts } } 149
  else { s with prot := { s.prot with counts := Sparse.put 0 (cls * 256 + k) n s.prot.counts } }

/-- An uncorrectable word or byte is recorded (R407): CX_ECC_CNT, CX_ECC_LAST, the status bit and its event, and
the burst class of its memory (R410). -/
def State.eccUncorr (s : State) (found m i : Nat) : State :=
  State.countClass (((s.count CX_ECC_CNT_uncorr).eccLast 2 found m i).flag CX_PROT_STATUS_uncorr 145) 2 m

/-- Entries of the repair file in use, as (entry, memory, index). -/
def State.repairs (s : State) : List (Nat × Nat × Nat) :=
  ((List.range 64).filter fun e => s.on (CX_REPAIR_valid e)).map fun e =>
    (e, s.get (CX_REPAIR_memory e), s.get (CX_REPAIR_index e))

/-- The repair entry that holds word `i` of memory `m`, if one does. -/
def State.repairOf (s : State) (m i : Nat) : Option Nat :=
  (s.repairs.find? fun r => r.2.1 == m && r.2.2 == i).map (·.1)

/-- A write of a repaired word updates its entry as well (R412). -/
def State.repairWrite (s : State) (m i v : Nat) : State :=
  match s.repairOf m i with
  | some e => { s with prot := { s.prot with repair := Sparse.put 0 e v s.prot.repair } }
  | none => s

/-- Frees a repair entry. -/
def State.repairFree (s : State) (e : Nat) : State :=
  let s := ((s.set (CX_REPAIR_valid e) 0).set (CX_REPAIR_memory e) 0).set (CX_REPAIR_index e) 0
  let s := s.set CX_REPAIR_STATUS_used (s.get CX_REPAIR_STATUS_used - 1)
  { s with prot := { s.prot with repair := Sparse.put 0 e 0 s.prot.repair } }

/-- Frees the repair entries of memory `m` on the words for which `p` holds (R69, R77, R412). -/
def State.repairFreeAll (s : State) (m : Nat) (p : Nat → Bool) : State :=
  s.each (s.repairs.filter fun r => r.2.1 == m && p r.2.2) fun s r => s.repairFree r.1

/-- Word `i` of memory `m` reads uncorrectable though the repair file holds it: the entry's own check failed, so it is freed,
and the memory word was read in its place (R412). -/
def State.repairFails (s : State) (m i : Nat) : State :=
  match s.repairOf m i with
  | some e => s.repairFree e
  | none => s

/-- The copies of a word are rewritten with a tag (R398, R399). -/
def State.critTag (s : State) (die w tag : Nat) : State :=
  { s with prot := { s.prot with tags := Sparse.put 0 (die * 64 + w) (tag % 16) s.prot.tags } }

/-- Critical word `w` of the CX is written by its function: the copies take the next tag (R397). -/
def State.critNext (s : State) (w : Nat) : State := s.critTag 0 w (Sparse.get 0 w s.prot.tags + 1)

/-- Bytes of `old` replaced by those of `data` where `mask` has a bit, over 8 bytes (R402). -/
def mergeBytes8 (old data mask : Nat) : Nat :=
  ofBytes ((List.range 8).map fun i => if bit mask i then byteOf data i else byteOf old i)

/-- Four bytes at half `h` of a word, as a mask and data over 8 bytes. -/
def halfMask (h be : Nat) : Nat := (be % 16) * 16 ^ h
def halfData (h data : Nat) : Nat := (data % 2 ^ 32) * 2 ^ (32 * h)

/-- A merge buffer takes more bytes of its word; a byte written twice keeps the later value (R402). -/
def MBuf.add (b : MBuf) (mask data : Nat) : MBuf :=
  { b with mask := Nat.lor b.mask mask, data := mergeBytes8 b.data data mask }

end Sys2Proof.Machine
end

