-- ==== Sys2Proof/Machine/Plate.lean ====
section
/-! DEFINITION. The plate: full loads, partial reloads, quarantine and what the shadows hold (R54 to R86). -/

namespace Sys2Proof.Machine

open Sys2Proof

/-- Word `w` of frame `f` of the plate memory. -/
def State.rd (s : State) : PlateRd := fun f w => Sparse.get 0 (f * 16 + w) s.plate.mem

/-- Lane roles and service map in force: the discovery roles until the first commit, then the shadows (R73, R326). -/
def State.shadowRd (s : State) : PlateRd := fun f w =>
  if s.plate.committed then Sparse.get 0 (f * 16 + w) s.plate.shadow
  else if 8 ≤ f && f < 14 && w == 1 then 1 else 0

/-- The unit whose first frame is `u` is by-passed: no valid plate, quarantined by an error, or under reload
(R69, R73, R78, R82). -/
def State.bypassed (s : State) (u : Nat) : Bool :=
  s.get CX_PLATE_STATUS_state != 4 ||
    (Sparse.get false u s.plate.quar && decide (Sparse.get 0 u s.plate.quarFrom ≤ s.clock)) ||
    (s.get CX_PLATE_RELOAD_state == 3 && unitFirst s.plate.relFirst == u && bypassable u)

/-- Names every unit in the history of by-passes: the plate is not valid. -/
def allUnits : Nat := 0x2000

/-- A by-pass of unit `u` opens in the history with bucket `b`. -/
def State.histFrom (s : State) (u : Nat) (b : Bkt) : State :=
  if s.plate.hist.any (fun h => h.unit == u && h.until? == none) then s
  else { s with plate := { s.plate with hist := ⟨u, b.1, b.2, none⟩ :: s.plate.hist } }

/-- A by-pass of unit `u` opens in the history. -/
def State.histOpen (s : State) (u : Nat) : State := s.histFrom u s.now

/-- Open by-passes of the units that `p` names end with the bucket before the current one. -/
def State.histClose (s : State) (p : Nat → Bool) : State :=
  let close := fun h : ByPass =>
    if p h.unit && h.until? == none then { h with until? := some (subBkt s.mt.nb s.now 1) } else h
  { s with plate := { s.plate with hist := s.plate.hist.map close } }

/-- Unit `u` was by-passed for some bucket from `lo` to `hi` (text after R78): by a by-pass in the history, or for want of
any plate since power-up. -/
def State.wasBypassed (s : State) (u : Nat) (lo hi : Bkt) : Bool :=
  (s.bypassed u && s.plate.hist.all fun h => (h.unit != u && h.unit != allUnits) || h.until?.isSome) ||
  s.plate.hist.any fun h => (h.unit == u || h.unit == allUnits) &&
    decide (diffBkt s.mt.nb (h.fromO, h.fromB) hi ≤ 0) &&
    (match h.until? with
     | none => true
     | some e => decide (0 ≤ diffBkt s.mt.nb e lo))

/-- The map bit of frame `f` in CX_PLATE_QUAR_MAP (R84). -/
def State.quarBit (s : State) (f : Nat) (b : Bool) : State :=
  s.set (CX_PLATE_QUAR_MAP_map (f / 32)) (putBits (s.get (CX_PLATE_QUAR_MAP_map (f / 32))) (f % 32) 1 (b2n b))

/-- The map bits of the unit that holds frame `f`. -/
def State.quarUnit (s : State) (f : Nat) (b : Bool) : State :=
  s.each (List.range (unitSize f)) fun s i => s.quarBit (unitFirst f + i) b

/-- Unit `u` is quarantined by an error of the given cause: by a function's own read at once, else from the next bucket
edge (R82). -/
def State.quarantine (s : State) (u cause : Nat) : State :=
  let now := cause != 1 || !s.mt.running
  let from_ := if now then 0
    else if Sparse.get false u s.plate.quar then Sparse.get 0 u s.plate.quarFrom else s.clock + 1
  State.histFrom { s with plate := { s.plate with
    quar := Sparse.put false u true s.plate.quar, quarFrom := Sparse.put 0 u from_ s.plate.quarFrom } } u
    (if now then s.now else addBkt s.mt.nb s.now 1)

/-- The unit of frame `f` is being reloaded, steps 3 to 6 (R77, R81). -/
def State.underReload (s : State) (f : Nat) : Bool :=
  s.get CX_PLATE_RELOAD_state == 3 && unitFirst s.plate.relFirst == unitFirst f

/-- An uncorrectable plate word of frame `f` is found (R82): its unit is quarantined, or only its map bit is set. An
error found in a unit that is quarantined already counts and raises the event again (DESIGN CHOICE: the spec does not
say whether it does). -/
def State.plateUncorr (s : State) (f cause : Nat) : State :=
  if s.underReload f then s
  else
    let s := ((s.count CX_PLATE_QUAR_count).set CX_PLATE_QUAR_last_cause cause).set CX_PLATE_QUAR_last_frame f
    let s :=
      if bypassable f then (s.quarantine (unitFirst f) cause).quarUnit f true
      else s.quarBit f true
    s.raise 44

/-- A plate word is written whole with good check bits. -/
def State.plateWrite (s : State) (idx v : Nat) : State :=
  State.repairWrite (State.setMark
    { s with plate := { s.plate with mem := Sparse.put 0 idx (v % 2 ^ 64) s.plate.mem } } memPlate idx 0) memPlate idx v

/-- Fills the merge buffer of the plate window: the word is read, merged and written whole; an uncorrectable word
is left as it is and handled as burnish would (R402, R403). -/
def State.fillPlate (s : State) : State :=
  match s.prot.bufPlate with
  | none => s
  | some b =>
    let s := { s with prot := { s.prot with bufPlate := none } }
    if s.mark memPlate b.word != 0 then
      (((s.eccUncorr 3 memPlate b.word).plateUncorr (b.word / 16) 1).flag CX_PROT_STATUS_mbuf_err 145)
    else s.plateWrite b.word (mergeBytes8 (Sparse.get 0 b.word s.plate.mem) b.data b.mask)

/-- A narrow write of the plate window enters the merge buffer; a complete word is written whole (R402). -/
def State.bufPlatePut (s : State) (idx mask data : Nat) : State :=
  let put (s : State) (b : MBuf) : State :=
    if b.mask = 0xFF then State.plateWrite { s with prot := { s.prot with bufPlate := none } } idx b.data
    else { s with prot := { s.prot with bufPlate := some b } }
  match s.prot.bufPlate with
  | some b => if b.word = idx then put s (b.add mask data) else put s.fillPlate ((MBuf.mk idx 0 0).add mask data)
  | none => put s ((MBuf.mk idx 0 0).add mask data)

/-! ## Full load -/

/-- Records the first failure of the load (R66, R70). -/
def State.errFrame (s : State) (f : Nat) : State :=
  if s.plate.errHeld then s
  else
    let s := (s.set CX_PLATE_ERR_FRAME_check 0).set CX_PLATE_ERR_FRAME_frame f
    { s with plate := { s.plate with errHeld := true } }

/-- The list of bad frames changes, and bad_frames with it (R64). -/
def State.setBadFrames (s : State) (l : List (Nat × Bool)) : State :=
  State.set { s with plate := { s.plate with badFrames := l } } CX_PLATE_STATUS_bad_frames l.length

/-- Frame `f` is counted bad with `err` (R70). -/
def State.badFrame (s : State) (f err : Nat) : State :=
  ((s.setBadFrames (Sparse.put false f true s.plate.badFrames)).set CX_PLATE_STATUS_err err).errFrame f

/-- PLATE_OPEN (R68, R69 steps 1 to 4). -/
def plateOpen (s : State) : State :=
  let st := s.get CX_PLATE_STATUS_state
  let rl := s.get CX_PLATE_RELOAD_state
  if st = 1 ∨ st = 3 then s
  else if s.acq then s.set CX_PLATE_STATUS_err 1
  else if 1 ≤ rl ∧ rl ≤ 3 then s.set CX_PLATE_STATUS_err 6
  else
    let s := (s.histOpen allUnits).set CX_PLATE_STATUS_state 1
    let s := { s with
      plate := { s.plate with mem := [], cur := none }
      prot := { s.prot with bufPlate := none } }
    (s.clearMarks memPlate fun _ => true).repairFreeAll memPlate fun _ => true

/-- PLATE_CLEAR_DONE (R69 step 5): patrol of the plate begins (R404). -/
def plateClearDone (s : State) : State :=
  if s.get CX_PLATE_STATUS_state = 1 then
    let s := ((s.setBadFrames []).set CX_PLATE_STATUS_err 0).set CX_PLATE_STATUS_state 2
    let s := (s.set CX_PLATE_ERR_FRAME_check 0).set CX_PLATE_ERR_FRAME_frame 0
    { s with
      plate := { s.plate with errHeld := false, cur := none }
      prot := { s.prot with started := Nat.lor s.prot.started (2 ^ memPlate) } }
  else s

/-- PLATE_ABORT (R63): an open load is abandoned. -/
def plateAbort (s : State) : State :=
  if s.get CX_PLATE_STATUS_state = 2 ∨ s.get CX_PLATE_STATUS_state = 5 then
    let s := { s.set CX_PLATE_STATUS_state 0 with
      plate := { s.plate with mem := [], cur := none }
      prot := { s.prot with bufPlate := none } }
    s.clearMarks memPlate fun _ => true
  else s

/-- A load is open: frames may be written (R70). -/
def State.loadOpen (s : State) : Bool := s.get CX_PLATE_STATUS_state == 2 || s.get CX_PLATE_STATUS_state == 5

/-- PLATE_FCRC_WRITE (R65, R70). -/
def plateFcrcWrite (frame crc : Nat) (s : State) : State :=
  let s :=
    match s.plate.cur with
    | some c => if s.loadOpen && c.halves < 32 then s.badFrame c.frame 3 else s
    | none => s
  let s := (s.set CX_PLATE_FCRC_frame frame).set CX_PLATE_FCRC_crc crc
  if s.loadOpen then { s with plate := { s.plate with cur := some ⟨frame, 0, 0⟩ } } else s

/-- The 16 words written to frame `f`: as the plate memory holds them, with the bytes that the merge buffer still
gathers (R70, R402). -/
def State.frameWords (s : State) (f : Nat) : List Nat := (List.range 16).map fun w =>
  match s.prot.bufPlate with
  | some b => if b.word = f * 16 + w then mergeBytes8 (s.rd f w) b.data b.mask else s.rd f w
  | none => s.rd f w

/-- The last half of a frame has been written: its CRC-16 is compared (R61, R70). -/
def State.frameEnd (s : State) (f : Nat) : State :=
  if frameCrc f (s.frameWords f) = s.get CX_PLATE_FCRC_crc then
    s.setBadFrames (Sparse.put false f false s.plate.badFrames)
  else s.badFrame f 2

/-- A word-order violation ends the frame being written; the frame named in CX_PLATE_FCRC is counted (R70). The write
that breaks the order, and every later one until CX_PLATE_FCRC is written again, does not reach the plate memory (DESIGN
CHOICE: the spec does not say whether they do). -/
def State.orderViolation (s : State) : State :=
  let f := match s.plate.cur with
    | some c => c.frame
    | none => s.get CX_PLATE_FCRC_frame
  { s with plate := { s.plate with cur := some ⟨f, 32, 0⟩ } }.badFrame f 3

/-- PLATE_WINDOW_WRITE (R55, R69, R70, R401). In state 0x1 or 0x3 the frame addressed is counted bad (DESIGN CHOICE:
R69 counts the violation and names no frame). -/
def plateWindowWrite (addr data be : Nat) (s : State) : State :=
  let f := addr / 128
  let h := addr / 4 % 32
  let st := s.get CX_PLATE_STATUS_state
  if st = 1 ∨ st = 3 then s.badFrame f 3
  else if s.loadOpen then
    match s.plate.cur with
    | some c =>
      if c.frame = f ∧ c.halves = h then
        let s := s.bufPlatePut (f * 16 + h / 2) (halfMask (h % 2) be) (halfData (h % 2) data)
        let part := Nat.lor c.part (be % 16)
        if part = 0xF then
          let s := { s with plate := { s.plate with cur := some ⟨f, h + 1, 0⟩ } }
          if h = 31 then s.frameEnd f else s
        else { s with plate := { s.plate with cur := some ⟨f, h, part⟩ } }
      else s.orderViolation
    | none => s.orderViolation
  else s

/-- PLATE_COMMIT (R71, R72, R86). -/
def plateCommit (lane : Option Nat) (s : State) : State :=
  let st := s.get CX_PLATE_STATUS_state
  if st = 0 ∨ st = 4 then s.set CX_PLATE_STATUS_err 4
  else if s.loadOpen then
    let s := s.fillPlate.set CX_PLATE_STATUS_state 3
    { s with plate := { s.plate with commitLane := lane } }
  else s

/-- The failure of a commit: state 0x5 with `err`, CX_PLATE_ERR_FRAME written afresh (R71). -/
def State.commitFail (s : State) (err check frame : Nat) : State :=
  let s := (s.set CX_PLATE_STATUS_state 5).set CX_PLATE_STATUS_err err
  let s := (s.set CX_PLATE_ERR_FRAME_check check).set CX_PLATE_ERR_FRAME_frame frame
  State.raise { s with plate := { s.plate with errHeld := true } } 46

/-- Whether the commit under check passes, and if not the err, check and frame it reports (R71, R86). -/
def State.commitVerdict (s : State) : Option (Nat × Nat × Nat) :=
  match s.plate.badFrames with
  | (f, _) :: _ => some (3, 0, f)
  | [] =>
    match firstFail (commitChecks s.rd s.shadowRd (framesOf s.plate.mem) s.plate.commitLane) with
    | some (c, f) => some (5, c, f)
    | none => none

/-- The words the shadows take at commit: words 0 to 3 of frame 0x0001, words 0 to 2 of each port frame (R397). -/
def shadowed (idx : Nat) : Bool :=
  (16 ≤ idx && idx < 20) || (128 ≤ idx && idx < 224 && idx % 16 < 3)

/-- The plate's own part of a successful commit: shadows, live routing table, plate ID, by-passes and quarantines
(R71, R367). -/
def State.commitLoad (s : State) : State :=
  let s := s.histClose fun _ => true
  let s := { s with plate := { s.plate with
    committed := true, quar := [], quarFrom := [], cur := none
    shadow := s.plate.mem.filter fun e => shadowed e.1 } }
  let s := s.each (List.range 22) State.critNext
  let s := s.each (List.range 192) fun s k => s.set (CX_PLATE_QUAR_MAP_map k) 0
  let s := s.each (List.range 4096) fun s d =>
    let e := routeDefault s.rd d
    (((s.set (FB_ROUTE_en d) (bits e 15 1)).set (FB_ROUTE_sec d) (bits e 4 4)).set (FB_ROUTE_pri d) (bits e 0 4)).set
      (FB_ROUTE_use_sec d) 0
  (s.set CX_PLATE_ID_id (s.rd 0 1 % 2 ^ 32)).set CX_PLATE_STATUS_state 4

/-! ## Partial reload -/

/-- Word `w` of frame `f` with the staged frames in place of the current ones. -/
def State.stagedRd (s : State) : PlateRd := fun f w =>
  if s.plate.relFirst ≤ f ∧ f ≤ s.plate.relFirst + s.plate.relCount then
    Sparse.get 0 ((f - s.plate.relFirst) * 16 + w) s.plate.stage
  else s.rd f w

/-- The frames of the reload under way. -/
def State.relFrames (s : State) : List Nat := (List.range (s.plate.relCount + 1)).map (· + s.plate.relFirst)

/-- Every staged frame passes its CRC-16 against its target (R77 step 1). -/
def State.stageCrcOk (s : State) : Bool :=
  (List.range (s.plate.relCount + 1)).all fun i =>
    frameCrc (s.plate.relFirst + i) ((List.range 16).map (s.stagedRd (s.plate.relFirst + i))) ==
      s.get (if i % 2 = 0 then CX_PLATE_STAGE_CRC_crc_even (i / 2) else CX_PLATE_STAGE_CRC_crc_odd (i / 2))

/-- The content a shadowed or header frame must have, as far as it is fixed (R79). -/
def State.repairOk (s : State) (f : Nat) : Bool :=
  match sectionOf f with
  | .header =>
    s.stagedRd 0 0 == 0x15360A0100011800 && bits (s.stagedRd 0 1) 0 32 == s.get CX_PLATE_ID_id &&
      (List.range 14).all fun w => s.stagedRd 0 (w + 2) == 0
  | .serviceMap | .laneRoles => (List.range 16).all fun w => s.stagedRd f w == s.shadowRd f w
  | _ => true

/-- Why the plate rejects a reload of these frames before any check: the err code (R76). Where several cases hold, the
first of R76's list is given, err 0x7, 0x2, 0x3; a range that starts in a reserved frame gives 0x3, since no unit is there
to lie outside of (DESIGN CHOICE: the spec does not order them). -/
def State.goRejected (s : State) (first count : Nat) : Option Nat :=
  if s.get CX_PLATE_STATUS_state ≠ 4 then some 7
  else if 0x1800 ≤ first + count ∨ (sectionOf first ≠ .reserved ∧ unitFirst first + unitSize first ≤ first + count) then some 2
  else if sectionOf first = .reserved then some 3
  else none

/-- RELOAD_GO (R75, R76, R77 step 1): a go written while a reload is under way changes no field of it, first and count
included (DESIGN CHOICE: R76 keeps state and err and does not speak of first and count; a REGISTER_WRITE of the register,
which writes them beside an ignored go, stores them as the RW fields they are). -/
def reloadGo (first count : Nat) (s : State) : State :=
  let st := s.get CX_PLATE_RELOAD_state
  if 1 ≤ st ∧ st ≤ 3 then s.set CX_PLATE_RELOAD_go_refused 1
  else
    let s := (s.set CX_PLATE_RELOAD_first first).set CX_PLATE_RELOAD_count count
    match s.goRejected first count with
    | some e => (s.set CX_PLATE_RELOAD_state 5).set CX_PLATE_RELOAD_err e
    | none =>
      let s := { s with plate := { s.plate with relFirst := first, relCount := count } }
      if !s.stageCrcOk then (s.set CX_PLATE_RELOAD_state 5).set CX_PLATE_RELOAD_err 1
      else if !s.relFrames.all s.repairOk then (s.set CX_PLATE_RELOAD_state 5).set CX_PLATE_RELOAD_err 6
      else
        match firstFail (reloadChecks s.stagedRd s.relFrames) with
        | some _ => (s.set CX_PLATE_RELOAD_state 5).set CX_PLATE_RELOAD_err 4
        | none => (s.set CX_PLATE_RELOAD_state 2).set CX_PLATE_RELOAD_err 0

/-- RELOAD_CANCEL (R80): a window given to the reload and not used yet is free again. -/
def reloadCancel (s : State) : State :=
  if s.get CX_PLATE_RELOAD_state = 1 ∨ s.get CX_PLATE_RELOAD_state = 2 then
    State.set { s with activity := if s.activity = some 2 then none else s.activity } CX_PLATE_RELOAD_state 7
  else s

/-- RELOAD_START (R77 steps 3 to 5): by-passes the unit, writes the staged words and reads them back. -/
def State.reloadWrite (s : State) (readBackOk : Bool) : State :=
  let f := s.plate.relFirst
  let s := (s.set CX_PLATE_RELOAD_state 3).quarUnit f true
  let s := if bypassable f then s.histOpen (unitFirst f) else s
  let inFrames := fun i => decide (f ≤ i / 16 ∧ i / 16 ≤ f + s.plate.relCount)
  let rd := s.stagedRd
  let s := s.repairFreeAll memPlate inFrames
  let s := s.each s.relFrames fun s g => s.each (List.range 16) fun s w => s.plateWrite (g * 16 + w) (rd g w)
  { s with plate := { s.plate with readBackOk := readBackOk } }

/-- The frame whose read-back failed: of several frames the row does not tell which, a free value. -/
def State.failedFrame (s : State) : Nat × State :=
  if s.plate.relCount = 0 then (s.plate.relFirst, s)
  else
    let (v, s) := s.draw
    (s.plate.relFirst + v.toNat % (s.plate.relCount + 1), s)

/-- A word of frame `f` is held uncorrectable (R84). -/
def State.frameUncorr (s : State) (f : Nat) : Bool :=
  (List.range 16).any fun w => s.mark memPlate (f * 16 + w) != 0

/-- The map bits after a successful reload of frame `f`'s unit (R81, R84): a unit that quarantines no function keeps
those of its frames that still hold an uncorrectable word. -/
def State.quarKeep (s : State) (f : Nat) : State :=
  s.each (List.range (unitSize f)) fun s i =>
    s.quarBit (unitFirst f + i) (!bypassable f && s.frameUncorr (unitFirst f + i))

/-- The plate's own part of the end of a reload (R77 step 6, R81). -/
def State.reloadEnd (s : State) : State :=
  let f := s.plate.relFirst
  if s.plate.readBackOk then
    let s := { s with plate := { s.plate with
      quar := Sparse.put false (unitFirst f) false s.plate.quar
      quarFrom := Sparse.put 0 (unitFirst f) 0 s.plate.quarFrom } }
    (((s.histClose fun u => u == unitFirst f).quarKeep f).set CX_PLATE_RELOAD_state 4).raise 45
  else
    let s := s.set CX_PLATE_RELOAD_state 6
    let s := { s with plate := { s.plate with
      quar := if bypassable f then Sparse.put false (unitFirst f) true s.plate.quar else s.plate.quar
      quarFrom := Sparse.put 0 (unitFirst f) 0 s.plate.quarFrom } }
    let (g, s) := s.failedFrame
    (((s.count CX_PLATE_QUAR_count).set CX_PLATE_QUAR_last_cause 3).set CX_PLATE_QUAR_last_frame g).raise 44

/-- A write into the staging buffer, ignored while a reload is under way (R74, R76). -/
def stageWrite (addr data be : Nat) (s : State) : State :=
  let st := s.get CX_PLATE_RELOAD_state
  if 1 ≤ st ∧ st ≤ 3 then s
  else
    let i := (addr - 0x10000800) / 8
    let h := addr / 4 % 2
    let w := mergeBytes8 (Sparse.get 0 i s.plate.stage) (halfData h data) (halfMask h be)
    { s with plate := { s.plate with stage := Sparse.put 0 i w s.plate.stage } }

/-! ## The commands -/

def execPlateOpen (s : State) := effect .plateOpen plateOpen s
def execPlateClearDone (s : State) := effect .plateClearDone plateClearDone s
def execPlateAbort (s : State) := effect .plateAbort plateAbort s
def execPlateFcrcWrite (frame crc : Nat) (s : State) := effect (.plateFcrcWrite frame crc) (plateFcrcWrite frame crc) s
def execPlateWindowWrite (addr data be : Nat) (s : State) :=
  effect (.plateWindowWrite addr data be) (plateWindowWrite addr data be) s
def execPlateCommit (lane : Option Nat) (s : State) := effect (.plateCommit lane) (plateCommit lane) s
def execReloadGo (first count : Nat) (s : State) := effect (.reloadGo first count) (reloadGo first count) s
def execReloadCancel (s : State) := effect .reloadCancel reloadCancel s

end Sys2Proof.Machine
end

