-- ==== Sys2Proof/Machine/Store.lean ====
section
/-! DEFINITION. The hit store: descriptors, rows and the free list, age-out, the keep table, the flush, banks and
spare rows (R192 to R225). -/

namespace Sys2Proof.Machine

open Sys2Proof

/-! ## Hit words (R171) -/

def hitChan (w : Nat) : Nat := bits w 51 11
def hitBucket (w : Nat) : Nat := bits w 35 16
def hitToa (w : Nat) : Nat := bits w 20 15
def hitTot (w : Nat) : Nat := bits w 8 12
def hitFlag (w n : Nat) : Bool := bit w n

/-- A hit word of its fields (R171). -/
def hitWord (ch bucket toa tot flags : Nat) : Nat :=
  2 ^ 62 + (ch % 2048) * 2 ^ 51 + (bucket % 65536) * 2 ^ 35 + (toa % 32768) * 2 ^ 20 + (tot % 4096) * 2 ^ 8 + flags % 256

/-- The hit word with flag `n` set. -/
def setFlag (w n : Nat) : Nat := Nat.lor w (2 ^ n)

/-! ## Slots and descriptors -/

/-- Ring slot of a bucket (R200). -/
def State.slot (s : State) (b : Bkt) : Nat := (b.1 * s.mt.nb + b.2) % 32768

/-- The descriptor of ring slot `k`. -/
def State.desc (s : State) (k : Nat) : Desc := Sparse.get Desc.clear k s.store.desc

def State.setDesc (s : State) (k : Nat) (d : Desc) : State :=
  { s with store := { s.store with desc := Sparse.put Desc.clear k d s.store.desc } }

/-- The valid-from bucket (R206), if it is set. -/
def State.validFrom (s : State) : Option Bkt :=
  if s.on CX_HQ_VALID_BT_valid then some (s.get CX_HQ_VALID_ORBIT_orbit, s.get CX_HQ_VALID_BT_bucket) else none

/-- `a` lies before `b` in the order of R90. -/
def State.before (s : State) (a b : Bkt) : Bool := decide (diffBkt s.mt.nb a b < 0)

/-- Bucket `b` lies at or after valid-from. -/
def State.fromValid (s : State) (b : Bkt) : Bool :=
  match s.validFrom with
  | some v => !s.before b v
  | none => false

/-- Where a descriptor stands: a ring slot or a place of the keep table. -/
inductive DescAt where
  | ring (slot : Nat)
  | keep (place : Nat)
  deriving DecidableEq, Repr

/-- The valid descriptor of bucket `b` in the ring or in the keep table (R204, R205). -/
def State.findDesc (s : State) (b : Bkt) : Option (DescAt × Desc) :=
  let d := s.desc (s.slot b)
  if d.valid && d.orbit == b.1 && d.bucket == b.2 then some (.ring (s.slot b), d)
  else match s.store.keep.find? fun e => e.2.valid && e.2.orbit == b.1 && e.2.bucket == b.2 with
    | some (p, k) => some (.keep p, k)
    | none => none

def State.putDesc (s : State) (at_ : DescAt) (d : Desc) : State :=
  match at_ with
  | .ring k => s.setDesc k d
  | .keep p => { s with store := { s.store with keep := Sparse.insert p d s.store.keep } }

/-- The two words of a descriptor (R198). -/
def Desc.words (d : Desc) : List Nat :=
  [d.head * 2 ^ 44 + d.tail * 2 ^ 24 + d.count * 2 ^ 12 + d.dropped * 2 ^ 6 + b2n d.holdover * 8 + d.feAbsent,
   d.orbit * 2 ^ 32 + d.bucket * 2 ^ 16 + d.pins * 4 + b2n d.written * 2 + b2n d.valid]

/-! ## Rows and the free list -/

def linkPoison (w : Nat) : Nat := bits w 41 5
def linkFill (w : Nat) : Nat := bits w 36 5
def linkBanks (w : Nat) : Nat := bits w 20 16
def linkNext (w : Nat) : Nat := bits w 0 20

/-- A link word (R199). -/
def linkWord (poison fill banks next : Nat) : Nat := poison * 2 ^ 41 + fill * 2 ^ 36 + banks * 2 ^ 20 + next

def State.link (s : State) (r : Nat) : Nat := Sparse.get 0 r s.store.links

def State.setLink (s : State) (r v : Nat) : State :=
  State.repairWrite (State.setMark { s with store := { s.store with links := Sparse.put 0 r v s.store.links } } memLink r 0)
    memLink r v

/-- Banks of a mask, ascending. -/
def banksOf (m : Nat) : List Nat := (List.range 16).filter fun k => bit m k

/-- Entry `row` of `bank`: key in the entry list; memory code and index of R394, the bank within the die times 2^20
plus the row (DESIGN CHOICE: the spec does not give the order). -/
def entryKey (bank row : Nat) : Nat := 2 ^ 20 * bank + row
def entryMem (bank : Nat) : Nat := if bank < 8 then memHs0 else memHs1
def entryIndex (bank row : Nat) : Nat := 2 ^ 20 * (bank % 8) + row

/-- Rows of the chain from `row` with `left` hits to come, up to and including a row whose link word is broken:
(row, intact), at most `fuel` rows. -/
def State.chain (s : State) : Nat → Nat → Nat → List (Nat × Bool)
  | 0, _, _ => []
  | fuel + 1, row, left =>
    if left = 0 then []
    else if s.mark memLink row ≠ 0 then [(row, false)]
    else (row, true) :: s.chain fuel (linkNext (s.link row)) (left - linkFill (s.link row))

/-- The chain of a descriptor; a bucket holds at most 4,095 rows. -/
def State.rowsOf (s : State) (d : Desc) : List (Nat × Bool) := s.chain 4095 d.head d.count

/-- Rows on the free list (R223). -/
def State.freeRows (s : State) : Nat := s.store.fresh + s.store.freed.length

/-- CX_HQ_FREE follows the free list; a fall below CX_HQ_LOW sets the low bit (R209). -/
def State.setFree (s : State) : State :=
  let lim := s.get CX_HQ_LOW_rows
  let low := decide (lim ≤ s.get CX_HQ_FREE_rows ∧ s.freeRows < lim)
  (s.set CX_HQ_FREE_rows s.freeRows).iff low fun s => s.flag CX_HQ_STATUS_low 66

/-- Rows return to the tail of the free list; a disabled row does not (R203, R221). -/
def State.freeRowList (s : State) (rows : List Nat) : State :=
  let rows := rows.filter fun r => !Sparse.has r s.store.disabled
  let s := s.each rows fun s r => s.setMark memLink r 0
  State.setFree { s with store := { s.store with freed := s.store.freed ++ rows } }

/-- The rows of a bucket are freed up to and including a broken one, and their poison fields counted (R203, R214). -/
def State.freeBucket (s : State) (d : Desc) : State :=
  let rows := s.rowsOf d
  let aged := (rows.filter (·.2)).foldl (fun n r => n + linkPoison (s.link r.1)) 0
  (s.count CX_HQ_POISON_aged aged).freeRowList (rows.map (·.1))

/-! ## Depth (R202, R223) -/

/-- Buckets from the oldest valid bucket to the current one, at most 32,704. -/
def State.depthCur (s : State) : Nat :=
  let age := fun d : Desc => (diffBkt s.mt.nb s.now (d.orbit, d.bucket) + 1).toNat
  min 32704 (((s.store.desc ++ s.store.keep).filter fun e => e.2.valid).foldl (fun n e => max n (age e.2)) 0)

/-- CX_HQ_DEPTH.min follows cur while acquisition runs and 32,704 bk have passed since the last flush. -/
def State.depthUpdate (s : State) : State :=
  if s.acq && s.store.everFlushed && decide (s.store.flushedAt + 32704 ≤ s.clock) then
    s.set CX_HQ_DEPTH_min (min (s.get CX_HQ_DEPTH_min) s.depthCur)
  else s

/-! ## Pins and the keep table (R203 to R205) -/

/-- A pin on a valid bucket not before valid-from adds 1 to pins; otherwise it is answered absent. -/
def State.pin (s : State) (b : Bkt) : Option State :=
  if s.fromValid b then
    match s.findDesc b with
    | some (a, d) => some (s.putDesc a { d with pins := d.pins + 1 })
    | none => none
  else none

/-- A pin is released; a kept bucket without pins frees its rows and its entry (R205). -/
def State.unpin (s : State) (b : Bkt) : State :=
  match s.findDesc b with
  | some (.ring k, d) => s.setDesc k { d with pins := d.pins - 1 }
  | some (.keep p, d) =>
    if d.pins ≤ 1 then
      let s := { s with store := { s.store with keep := Sparse.erase p s.store.keep } }
      (s.set CX_HQ_KEEP_used s.store.keep.length).freeBucket d
    else s.putDesc (.keep p) { d with pins := d.pins - 1 }
  | none => s

/-- The lowest place of the keep table not in use (DESIGN CHOICE: the spec does not say which place is taken). -/
def State.keepPlace (s : State) : Option Nat := (List.range 4096).find? fun p => !Sparse.has p s.store.keep

/-- The bucket in slot `k` ages out (R203, R205). -/
def State.ageOutSlot (s : State) (k : Nat) : State :=
  let d := s.desc k
  if !d.valid then s
  else
    let gone := fun s : State => s.setDesc k { s.desc k with valid := false }
    if d.pins = 0 then gone (s.freeBucket d)
    else match s.keepPlace with
      | some p =>
        let s := (gone s).putDesc (.keep p) d
        s.set CX_HQ_KEEP_used s.store.keep.length
      | none => ((gone (s.freeBucket d)).count CX_HQ_KEEP_released).flag CX_HQ_STATUS_keep_full 69


/-! ## Broken chains (R214) -/

def State.chainErr (s : State) (lost : Nat) : State :=
  ((s.count CX_HQ_CHAIN_errors).count CX_HQ_CHAIN_leaked lost).flag CX_HQ_STATUS_chain_err 70

/-- An uncorrectable descriptor of a stored bucket. Rows past an earlier break of its chain are lost already. -/
def State.descBroken (s : State) (a : DescAt) (d : Desc) : State :=
  let s := s.chainErr (s.rowsOf d).length
  let i := match a with
    | .ring k => 2 * k
    | .keep p => 65536 + 2 * p
  let s := (s.repairFails memDesc i).repairFails memDesc (i + 1)
  match a with
  | .ring k => s.setDesc k { d with valid := false }
  | .keep p =>
    let s := { s with store := { s.store with keep := Sparse.erase p s.store.keep } }
    s.set CX_HQ_KEEP_used s.store.keep.length

/-- The descriptor at word index `i` of the descriptor memory: two words a slot, then two a place of the keep
table. -/
def State.descIndex (s : State) (i : Nat) : Option (DescAt × Desc) :=
  if i < 65536 then if (s.desc (i / 2)).valid then some (.ring (i / 2), s.desc (i / 2)) else none
  else match s.store.keep.find? fun e => e.1 == (i - 65536) / 2 with
    | some (p, d) => some (.keep p, d)
    | none => none

/-- The rows past `r` in the bucket whose chain holds it, up to an earlier break: those that a break at `r` loses. -/
def State.chainPast (s : State) (r : Nat) : Option (List Nat) :=
  ((s.store.desc ++ s.store.keep).filter fun e => e.2.valid).findSome? fun e =>
    let rows := (s.rowsOf e.2).map (·.1)
    if rows.contains r then some ((rows.dropWhile fun x => x != r).drop 1) else none

/-- The part of the freed rows up to and including `r`. -/
def upTo (r : Nat) : List Nat → List Nat
  | [] => []
  | x :: xs => if x = r then [x] else x :: upTo r xs

/-- An uncorrectable link word of row `r`: the chain, or the free list, ends at that row; found again it breaks nothing
more. How many rows of the
rebuilt free list lie before it is not known from the spec: a free value. -/
def State.linkBroken (s : State) (r : Nat) : State :=
  let s := s.repairFails memLink r
  if s.mark memLink r ≠ 0 then s
  else match s.chainPast r with
  | some past => (s.setMark memLink r 1).chainErr past.length
  | none =>
    if s.store.freed.contains r then
      let keep := upTo r s.store.freed
      let lost := s.store.freed.length - keep.length
      State.chainErr (State.setFree { s with store := { s.store with freed := keep } }) lost
    else if 0 < s.store.fresh ∧ !Sparse.has r s.store.taken then
      let (v, s) := s.draw
      let left := v.toNat % s.store.fresh + 1
      let lost := s.freeRows - left
      State.chainErr (State.setFree { s with store := { s.store with fresh := left, freed := [] } }) lost
    else s

/-- The edge at which a triggered freeze stops the ring has come (R284 steps 3 and 4). -/
def State.stopCome (s : State) : Bool := s.get RC_FREEZE_STATUS_state == 2 && decide (s.rc.stopAt ≤ s.clock)

/-- The ring is stopped, or stops with this bucket edge: nothing is sealed or aged out (R284, R285). -/
def State.ringHeld (s : State) : Bool := s.store.stopped || s.stopCome

/-- AGE_OUT (R203), with what its reads found uncorrectable (R214): the descriptor, the link word of a row. A
stopped ring ages nothing out (R285). -/
def ageOut (desc : Bool) (link : Option Nat) (s : State) : State :=
  if s.ringHeld || !s.mt.running then s
  else
    let k := (s.slot s.now + 64) % 32768
    let s := s.iff (desc && (s.desc k).valid) fun s => (s.descBroken (.ring k) (s.desc k))
    let s := match link with
      | some r => s.linkBroken r
      | none => s
    (s.ageOutSlot k).depthUpdate

/-! ## The flush (R207) -/

/-- A flush begins: descriptors, keep table, sort buffer and valid-from are cleared. A stopped ring stays stopped to its
end (R287). -/
def State.flushStart (s : State) : State :=
  let s := { s with store := { s.store with
    desc := [], keep := [], sort := [], sortDrop := [], wq := [], shadows := [], lastSealed := none, stale := []
    taken := s.store.disabled, fresh := 0, freed := [] } }
  let s := ((s.clearMarks memDesc fun _ => true).clearMarks memLink fun _ => true)
  ((s.set CX_HQ_KEEP_used 0).set CX_HQ_VALID_BT_valid 0).set CX_HQ_STATUS_flushing 1

/-- store_ready: a flush has completed and no bank of the last commit is still being cleared (R217). -/
def State.updReady (s : State) : State :=
  s.setB CX_HQ_STATUS_store_ready (s.store.everFlushed && s.store.commitClear == 0)

/-- The store's own part of the end of a flush: the ring runs again (R287). EV_CX_HQ_FLUSH_DONE is raised where the flush sets store_ready
(R225). -/
def State.flushEnd (s : State) : State :=
  let before := s.on CX_HQ_STATUS_store_ready
  let s := { s with store := { s.store with
    stopped := false, everFlushed := true, flushedAt := s.clock, fresh := 1048576 - s.store.disabled.length } }
  let s := (s.set CX_HQ_STATUS_flushing 0).updReady
  let s := (s.set CX_HQ_FREE_rows s.freeRows).set CX_HQ_CHAIN_leaked 0
  s.iff (!before && s.on CX_HQ_STATUS_store_ready) fun s => s.raise 71

/-- A flush or retire write is refused (R207, R218). -/
def State.hqRefused (s : State) : State := s.flag CX_HQ_STATUS_refused 72

/-- DEPTH_RESET (R223). -/
def depthReset (s : State) : State := s.set CX_HQ_DEPTH_min 32704

/-! ## Writing rows (R197, R201, R208 to R211) -/

/-- Hits that occupy the sort buffer: unsealed ones, and sealed ones not yet written (R192, R208). -/
def State.sortCount (s : State) : Nat :=
  s.store.wq.foldl (fun n w => n + w.hits.length) s.store.sort.length

/-- The oldest sealed valid bucket of the ring or the keep table that holds a row and has no pin (R210). -/
def State.reclaimable (s : State) : Option (DescAt × Desc) :=
  let ring := s.store.desc.map fun e => (DescAt.ring e.1, e.2)
  let kept := s.store.keep.map fun e => (DescAt.keep e.1, e.2)
  let older := fun a b : Desc => s.before (a.orbit, a.bucket) (b.orbit, b.bucket)
  ((ring ++ kept).filter fun e => e.2.valid && e.2.written && e.2.count != 0 && e.2.pins == 0).foldl
    (fun best e => match best with
      | none => some e
      | some b => if older e.2 b.2 then some e else best) none

/-- The oldest bucket that can be is reclaimed (R210). -/
def State.reclaim (s : State) : Option State :=
  match s.reclaimable with
  | none => none
  | some (a, d) =>
    let s := (s.freeBucket d).putDesc a { d with valid := false }
    some (((s.count CX_HQ_RECLAIM_count).flag CX_HQ_STATUS_reclaim 67).depthUpdate)

/-- Takes a row: while the rebuilt free list gives rows, `row` names the one it gives, since the spec does not fix
its order; then the oldest freed row. `none` where `row` is not on that list. -/
def State.takeRow (s : State) (row : Nat) : Option (Nat × State) :=
  if 0 < s.store.fresh then
    if row < 1048576 ∧ !Sparse.has row s.store.taken then
      some (row, State.setFree { s with store := { s.store with
        fresh := s.store.fresh - 1, taken := Sparse.insert row true s.store.taken } })
    else none
  else match s.store.freed with
    | r :: rest => some (r, State.setFree { s with store := { s.store with freed := rest } })
    | [] => none

/-- Buckets are reclaimed, oldest first, until one gives a row: the rows of a bucket that are disabled give none (R210,
R221). `none` where no bucket is left. -/
def State.reclaimRow (row : Nat) : Nat → State → Option (Nat × State) × State
  | 0, s => (none, s)
  | n + 1, s =>
    match s.reclaim with
    | none => (none, s)
    | some t => if 0 < t.freeRows then (t.takeRow row, t) else State.reclaimRow row n t

/-- Banks retired since row `r` was written: its entries there are lost (R212), even once they have returned. -/
def State.staleBanks (s : State) (r : Nat) : Nat := Sparse.get 0 r s.store.stale

/-- The bucket at the front of the write queue is sealed (R201). -/
def State.sealFront (s : State) : State :=
  match s.store.wq with
  | w :: rest =>
    let s := { s with store := { s.store with wq := rest } }
    s.setDesc w.slot { s.desc w.slot with written := true }
  | [] => s

/-- Hits of the front bucket that cannot be stored are dropped; BUCKET_WRITE_DONE then seals it with the hits it
holds (R211). -/
def State.fullDrop (s : State) : State :=
  match s.store.wq with
  | w :: rest =>
    let d := s.desc w.slot
    let s := s.setDesc w.slot { d with dropped := min 63 (d.dropped + w.hits.length) }
    let s := { s with store := { s.store with wq := { w with hits := [] } :: rest } }
    (s.count CX_HQ_DROP_full w.hits.length).flag CX_HQ_STATUS_full_drop 68
  | [] => s

/-- An entry is written whole. -/
def State.writeEntry (s : State) (bank row v : Nat) : State :=
  let s := { s with store := { s.store with entries := Sparse.put 0 (entryKey bank row) v s.store.entries } }
  (s.setMark (entryMem bank) (entryIndex bank row) 0).repairWrite (entryMem bank) (entryIndex bank row) v

/-- One row of the front bucket is written into row `r` (R197, R199). -/
def State.writeRow (s : State) (r : Nat) : State :=
  match s.store.wq with
  | w :: rest =>
    let mask := s.get CX_HQ_BANKS_in_service
    let banks := banksOf mask
    let part := w.hits.take banks.length
    let d := s.desc w.slot
    let s := s.each (banks.zip part) fun s e => s.writeEntry e.1 r e.2
    let s := if d.count = 0 then s else s.setLink d.tail (putBits (s.link d.tail) 0 20 r)
    let s := s.setLink r (linkWord 0 part.length mask r)
    let s := s.setDesc w.slot { d with
      head := if d.count = 0 then r else d.head, tail := r, count := d.count + part.length }
    { s with store := { s.store with
      wq := { w with hits := w.hits.drop banks.length } :: rest, stale := Sparse.put 0 r 0 s.store.stale } }
  | [] => s

/-- STORE_ROW_WRITE (R201): one row of the bucket at the front of the write queue. -/
def storeRowWrite (row : Nat) (s : State) : State :=
  match s.store.wq with
  | [] => s
  | w :: _ =>
    if w.hits = [] then s
    else if s.get CX_HQ_BANKS_in_service = 0 then s.fullDrop
    else if s.freeRows = 0 then
      match State.reclaimRow row (s.store.desc.length + s.store.keep.length) s with
      | (some (r, s), _) => s.writeRow r
      | (none, s) => s.fullDrop
    else match s.takeRow row with
      | some (r, s) => s.writeRow r
      | none => s

/-- A hit of channel `ch` at `b` and `toa` lies in the shadow window of overload hit `o` (R138): the channels are
neighbours in the 48 × 32 grid and the times compare in the order of R9. -/
def shadows (nb : Nat) (o : Shadow) (ch : Nat) (b : Bkt) (toa : Nat) : Bool :=
  let dc := ((ch / 32 : Nat) : Int) - ((o.ch / 32 : Nat) : Int)
  let dr := ((ch % 32 : Nat) : Int) - ((o.ch % 32 : Nat) : Int)
  let dt := diffBkt nb b (o.orbit, o.bucket) * 32768 + (toa : Int) - (o.toa : Int)
  decide (ch ≠ o.ch) && decide (dc.natAbs ≤ 1) && decide (dr.natAbs ≤ 1) &&
    decide (-1024 ≤ dt) && decide (dt ≤ (o.len : Int))

/-- Order of hits within a bucket (R194): toa, then channel. -/
def hitBefore (a b : Nat) : Bool :=
  decide (hitToa a < hitToa b) || (hitToa a == hitToa b && decide (hitChan a ≤ hitChan b))

/-- The store's own part of sealing bucket `b` (R194, R198): hits of absent dies are discarded, the rest sorted and
queued; the descriptor opens. Answers the hits that the bucket keeps. -/
def State.sealBucket (s : State) (b : Bkt) (absent : Nat) : State × List Nat :=
  let nb := s.mt.nb
  let k := s.slot b
  let mine := fun h : SortHit => h.orbit == b.1 && hitBucket h.word == b.2
  let hits := s.store.sort.filter mine
  let kept := ((hits.filter fun h => !bit absent h.die).map (·.word)).mergeSort hitBefore
  let ovr := kept.length - 4095
  let drops := Sparse.get 0 k s.store.sortDrop + ovr
  let stored := kept.take 4095
  let s := { s with store := { s.store with
    sort := s.store.sort.filter (fun h => !mine h)
    sortDrop := Sparse.put 0 k 0 s.store.sortDrop
    lastSealed := some b
    shadows := s.store.shadows.filter fun o => decide (diffBkt nb b (o.orbit, o.bucket) < 6)
    wq := if stored = [] then s.store.wq else s.store.wq ++ [WaitBkt.mk k b.1 stored] } }
  let s := (s.count CX_MERGE_LATE_late (hits.length - kept.length)).count CX_HQ_DROP_sort ovr
  let s := s.setDesc k (Desc.mk 0 0 0 (min 63 drops) (s.heldOver b) absent b.1 b.2 0 (stored == []) true)
  (s, stored)

/-! ## Banks (R217 to R219) -/

/-- HS_STATUS of both dies follows the banks in service and being cleared. -/
def State.setBanks (s : State) (inService clearing : Nat) : State :=
  let s := s.set CX_HQ_BANKS_in_service inService
  s.each [0, 1] fun s d =>
    (s.set (HS_STATUS_in_service d) (bits inService (8 * d) 8)).set (HS_STATUS_bank_init d) (bits clearing (8 * d) 8)

/-- Banks being cleared (R219). -/
def State.clearing (s : State) : Nat := s.get (HS_STATUS_bank_init 0) + 256 * s.get (HS_STATUS_bank_init 1)

/-- Bits of `a` that are not in `b`. -/
def without (a b : Nat) : Nat := Nat.land a (Nat.xor 0xFFFF (b % 65536))

/-- Banks `out` retire: what they hold of rows written before is lost (R212). -/
def State.loseBanks (s : State) (out : Nat) : State :=
  { s with store := { s.store with stale := s.store.links.foldl (fun m e =>
      Sparse.put 0 e.1 (Nat.lor (Sparse.get 0 e.1 m) (Nat.land out (linkBanks e.2))) m) s.store.stale } }

/-- Banks change to those of `want`: those left out retire, those new begin to be cleared (R217 to R219). -/
def State.wantBanks (s : State) (want : Nat) : State :=
  let ins := s.get CX_HQ_BANKS_in_service
  let keep := Nat.land ins want
  let clr := without want keep
  let s := s.loseBanks (without ins want)
  let s := { s with store := { s.store with commitClear := Nat.land s.store.commitClear clr } }
  s.setBanks keep clr

/-- The banks that the map in force and the override leave (R218). -/
def State.mapBanks (s : State) : Nat := without (smBanks s.shadowRd) (s.get CX_HQ_BANKS_retire)

/-- CX_HQ_BANKS.retire takes effect (R218). -/
def State.retireBanks (s : State) : State := (s.wantBanks s.mapBanks).updReady.assayCheck

/-- BANK_RETIRE (R218, R219): the write takes effect at the next bucket edge. -/
def bankRetire (mask : Nat) (s : State) : State :=
  let want := without (smBanks s.shadowRd) mask
  if want % 256 = 0 ∨ want / 256 = 0 then s.hqRefused
  else ((s.set CX_HQ_BANKS_retire mask).critNext 23).atEdge .retire State.retireBanks

/-- The banks of a newly committed service map (R217). -/
def State.commitBanks (s : State) : State :=
  let s := s.wantBanks s.mapBanks
  State.updReady { s with store := { s.store with commitClear := s.clearing } }

/-- A cleared bank joins the banks in service, unless it has been retired or left out meanwhile (R219 steps 2 and
3). -/
def State.bankJoins (s : State) (bank : Nat) : State :=
  if bit s.mapBanks bank then
    let s := { s with store := { s.store with commitClear := without s.store.commitClear (2 ^ bank) } }
    let s := s.setBanks (Nat.lor (s.get CX_HQ_BANKS_in_service) (2 ^ bank)) (without s.clearing (2 ^ bank))
    s.updReady.raise (403 + 24 * (bank / 8))
  else s

/-- BANK_CLEAR_DONE (R219): every entry of the bank holds zero, and it joins at the next bucket edge. -/
def bankClearDone (bank : Nat) (s : State) : State :=
  if bit s.clearing bank then
    let s := { s with store := { s.store with entries := s.store.entries.filter (fun e => e.1 / 2 ^ 20 != bank) } }
    let s := s.clearMarks (entryMem bank) fun i => i / 2 ^ 20 == bank % 8
    let s := { s with svc := { s.svc with bankUndef := without s.svc.bankUndef (2 ^ bank) } }
    let s := s.setBanks (s.get CX_HQ_BANKS_in_service) (without s.clearing (2 ^ bank))
    let s := { s with store := { s.store with commitClear := without s.store.commitClear (2 ^ bank) } }
    s.updReady.atEdge (.join bank) (State.bankJoins · bank)
  else s

/-! ## Spare rows (R220, R221) -/

/-- A half-row of die `d` has a fault declared lasting. -/
def State.halfRowLasting (s : State) (d row : Nat) : State :=
  let used := s.get (HS_SPARE_used d)
  if s.store.spareDue.contains (d, row) ||
      (List.range used).any (fun j => s.get (HS_SPARE_MAP_row d j) == row) then s
  else if used + (s.store.spareDue.filter fun e => e.1 == d).length < 1024 then
    { s with store := { s.store with spareDue := s.store.spareDue ++ [(d, row)] } }
  else
    let n := s.get (HS_SPARE_disabled d)
    let s :=
      if Sparse.has row s.store.disabled then s
      else if n < 256 then
        let s := ((s.set (HS_DISABLED_valid d n) 1).set (HS_DISABLED_row d n) row).set (HS_SPARE_disabled d) (n + 1)
        let freshRow := !Sparse.has row s.store.taken && decide (0 < s.store.fresh)
        State.setFree { s with store := { s.store with
          disabled := Sparse.insert row true s.store.disabled
          taken := Sparse.insert row true s.store.taken
          fresh := if freshRow then s.store.fresh - 1 else s.store.fresh
          freed := s.store.freed.filter fun r => r != row } }
      else s
    s.flag (HS_STATUS_spare_exh d) (402 + 24 * d)

/-- ROW_SPARED (R220 steps 2 to 4). -/
def rowSpared (die row : Nat) (s : State) : State :=
  if s.store.spareDue.contains (die, row) then
    let j := s.get (HS_SPARE_used die)
    let s := { s with store := { s.store with spareDue := s.store.spareDue.filter fun e => e != (die, row) } }
    let s := ((s.set (HS_SPARE_MAP_valid die j) 1).set (HS_SPARE_MAP_row die j) row).set (HS_SPARE_used die) (j + 1)
    s.flag (HS_STATUS_spared die) (401 + 24 * die)
  else s

/-! ## Reading a bucket (R212 to R214) -/

/-- An entry read by a record: the hit, or none where it is damaged. -/
def State.readEntry (s : State) (row bank : Nat) : Option Nat × State :=
  if bit (s.staleBanks row) bank then (none, s.count CX_HQ_POISON_read)
  else if s.mark (entryMem bank) (entryIndex bank row) = 0 then
    (some (Sparse.get 0 (entryKey bank row) s.store.entries), s)
  else
    let fresh := s.mark (entryMem bank) (entryIndex bank row) == 1
    let s := s.count CX_HQ_POISON_read
    let s := if fresh then
        let l := s.link row
        (s.setMark (entryMem bank) (entryIndex bank row) 2).setLink row (putBits l 41 5 (linkPoison l + 1))
      else s
    (none, s.raise (400 + 24 * (bank / 8)))

/-- The hits of an intact row, in order, and how many are damaged. -/
def State.readRow (s : State) (row : Nat) : List Nat × Nat × State :=
  ((banksOf (linkBanks (s.link row))).take (linkFill (s.link row))).foldl
    (fun acc k =>
      match acc.2.2.readEntry row k with
      | (some h, s) => (acc.1 ++ [h], acc.2.1, s)
      | (none, s) => (acc.1, acc.2.1 + 1, s)) ([], 0, s)

/-- The hits of a bucket and its damaged-hit count, the dropped hits not included; past a broken link nothing is
delivered. -/
def State.readBucket (s : State) (d : Desc) : List Nat × Nat × State :=
  let r := ((s.rowsOf d).filter (·.2)).foldl
    (fun acc row =>
      let x := acc.2.readRow row.1
      (acc.1 ++ x.1, x.2.2)) (([] : List Nat), s)
  (r.1, d.count - r.1.length, r.2)

/-! ## The commands -/

def execStoreRowWrite (row : Nat) (s : State) := effectMs (.storeRowWrite row) (storeRowWrite row) s
def execAgeOut (desc : Bool) (link : Option Nat) (s : State) := effect (.ageOut desc link) (ageOut desc link) s
def execDepthReset (s : State) := effect .depthReset depthReset s
def execBankRetire (mask : Nat) (s : State) := effect (.bankRetire mask) (bankRetire mask) s
def execBankClearDone (bank : Nat) (s : State) := effectMs (.bankClearDone bank) (bankClearDone bank) s
def execRowSpared (die row : Nat) (s : State) := effectMs (.rowSpared die row) (rowSpared die row) s

end Sys2Proof.Machine
end

