-- ==== Sys2Proof/Machine/Trigger.lean ====
section
/-! DEFINITION. The trigger engine: hit maps, hatch masks, chasers, primitive words, accepts and openings
(R226 to R257). -/

namespace Sys2Proof.Machine

open Sys2Proof

/-! ## Service of stages (R216) -/

/-- Stage 6, the trigger engine, is taken out of service by the map in force. -/
def State.stage6Out (s : State) : Bool := s.plate.committed && !smStage s.shadowRd 6

/-- Stages 7 to 9 are taken out of service by the map in force. -/
def State.stages79Out (s : State) : Bool := s.plate.committed && !smStage s.shadowRd 7

/-! ## Hit maps (R226 to R229) -/

/-- The map period a hit belongs to, named by its bucket, for coarse period K of the close (R226, R227). -/
def periodOf (nb k : Nat) (b : Bkt) (toa : Nat) : Bkt := if toa / 1024 ≤ k then b else addBkt nb b 1

/-- The region-input word of a region, 0 while by-passed (R78). -/
def State.regionWord (s : State) (r : Nat) : Nat := if s.bypassed (fRegion r) then 0 else s.rd (fRegion r) 0

/-- The engine admits the hit to its region's map of period `p`, the deadline apart (R227, R147), with the region
settings in force for that period (text after R230). -/
def State.admits (s : State) (p : Bkt) (w : Nat) : Bool :=
  let r := regionOf (hitChan w)
  bit (s.asOf (s.clockAt p) (TG_REGION_COARSE_coarse r)) (hitToa w / 1024) &&
    decide (s.asOf (s.clockAt p) (TG_REGION_TOT_tot_min r) ≤ hitTot w) && !hitFlag w 3 &&
    (!hitFlag w 6 || riInjToMap (s.regionWord r))

/-- A bit is set in the map of a region for a period. -/
def addMap (o b r i : Nat) : List TgMap → List TgMap
  | [] => [⟨o, b, r, 2 ^ i⟩]
  | m :: ms =>
    if m.orbit = o ∧ m.bucket = b ∧ m.region = r then { m with map := Nat.lor m.map (2 ^ i) } :: ms
    else m :: addMap o b r i ms

/-- A hit as the engine sees it, before the sort buffer (R192, R227, R228). -/
def State.tgSee (s : State) (orbit w : Nat) (late : Bool) : State :=
  if s.stage6Out then s
  else if late then (s.count TG_CNT_LATE_count).flag TG_STATUS_late 80
  else
    let p := periodOf s.mt.nb (s.get TG_PATH_close) (orbit, hitBucket w) (hitToa w)
    if s.admits p w then
      let ch := hitChan w
      { s with tg := { s.tg with maps := addMap p.1 p.2 (regionOf ch) (posOf ch) s.tg.maps } }
    else s

/-- The hit map of region `r` for period `p` (R229). -/
def State.tgMap (s : State) (p : Bkt) (r : Nat) : Nat :=
  match s.tg.maps.find? fun m => m.orbit == p.1 && m.bucket == p.2 && m.region == r with
  | some m => m.map
  | none => 0

/-! ## Cross-region maps and masks (R231 to R235) -/

/-- Cross-region map `x` of period `p`. -/
def State.crossMap (s : State) (p : Bkt) (x : Nat) : Nat :=
  if s.bypassed (fCross x) then 0
  else (List.range 16).foldl (fun v i =>
    let e := crossEntry s.rd x i
    let m := if bits e 4 7 < 96 then s.tgMap p (bits e 4 7) else 0
    let on := bit e 12 && (if bit e 11 then m != 0 else bit m (bits e 0 4))
    v + b2n on * 2 ^ i) 0

/-- Mask `k` of region `r` matches in period `p` (R234). -/
def State.maskMatch (s : State) (p : Bkt) (r k : Nat) : Bool :=
  if s.bypassed (fHatch r) then false
  else
    let m := hatchMask s.rd r k
    let map := if k < 32 then s.tgMap p r else s.crossMap p (k - 32)
    hatchCare m != 0 && Nat.land map (hatchCare m) == Nat.land (hatchValue m) (hatchCare m)

/-! ## Chasers (R236 to R240) -/

/-- Timer `t` of chaser `c` is expired. -/
def State.tmrExp (s : State) (c t : Nat) : Bool := s.on (if t = 0 then TG_CHSTAT_t0_exp c else TG_CHSTAT_t1_exp c)

def State.setExp (s : State) (c t : Nat) (b : Bool) : State :=
  s.setB (if t = 0 then TG_CHSTAT_t0_exp c else TG_CHSTAT_t1_exp c) b

def State.timer (s : State) (c t : Nat) : Nat := Sparse.get 0 (2 * c + t) s.tg.timers

def State.setTimer (s : State) (c t v : Nat) : State :=
  { s with tg := { s.tg with timers := Sparse.put 0 (2 * c + t) v s.tg.timers } }

/-- The initial state of a chaser (R240). -/
def State.chaserReset (s : State) (c : Nat) : State :=
  let s := ((s.set (TG_CHSTAT_state c) 0).set (TG_CHSTAT_out c) 0)
  let s := (((s.setExp c 0 false).setExp c 1 false).setTimer c 0 0).setTimer c 1 0
  s.each (List.range 4) fun s k => s.set (TG_CHCNT_value c k) 0

/-- One timer counts a map period down; at 0 it stops and is expired (R239 step 1). -/
def State.timerTick (s : State) (c t : Nat) : State :=
  let v := s.timer c t
  if v = 0 then s
  else if v = 1 then (s.setTimer c t 0).setExp c t true
  else s.setTimer c t (v - 1)

/-- The term with index `i` is true for chaser `c` in period `p`, with the out bits `outs` of the period before
(R237). -/
def State.term (s : State) (p : Bkt) (outs : Nat → Nat) (c i : Nat) : Bool :=
  if i < 0x1800 then s.maskMatch p (i / 64) (i % 64)
  else if i < 0x1860 then (List.range 64).any (s.maskMatch p (i - 0x1800))
  else if 0x1900 ≤ i ∧ i < 0x1904 then
    decide (chLimit s.rd c (i - 0x1900) ≤ s.get (TG_CHCNT_value c (i - 0x1900)))
  else if i = 0x1910 ∨ i = 0x1911 then s.tmrExp c (i - 0x1910)
  else if 0x1A00 ≤ i ∧ i < 0x1B00 then bit (outs ((i - 0x1A00) / 8)) (i % 8)
  else i == 0x1FFF

/-- The condition word `w` holds (R236). -/
def State.condHolds (s : State) (p : Bkt) (outs : Nat → Nat) (c w : Nat) : Bool :=
  let a := s.term p outs c (cdTermA w)
  match cdOp w with
  | 0 => a
  | 1 => a && s.term p outs c (cdTermB w)
  | 2 => a || s.term p outs c (cdTermB w)
  | _ => a && !s.term p outs c (cdTermB w)

/-- The transition a chaser takes: the first of its state that is in use and holds (R239 step 2). -/
def State.chaserPick (s : State) (p : Bkt) (outs : Nat → Nat) (c : Nat) : Option Nat :=
  ((List.range 3).map fun j => 3 * s.get (TG_CHSTAT_state c) + j).find? fun t =>
    cdEn (chCond s.rd c t) && s.condHolds p outs c (chCond s.rd c t)

/-- Counter `k` acts (R236). -/
def State.cntAct (s : State) (c k a : Nat) : State :=
  let v := s.get (TG_CHCNT_value c k)
  s.set (TG_CHCNT_value c k) (match a with
    | 1 => min (v + 1) 0xFFFF
    | 2 => 0
    | 3 => v - 1
    | _ => v)

/-- Timer `t` acts (R236, R239 step 3). -/
def State.tmrAct (s : State) (c t a : Nat) : State :=
  match a with
  | 1 => (s.setTimer c t (chTlen s.rd c t)).setExp c t false
  | 2 => (s.setTimer c t 0).setExp c t false
  | _ => s

/-- The chaser takes transition `t`, or none (R239 steps 3 and 4); the opening is made by the caller. -/
def State.chaserTake (s : State) (c : Nat) (t : Option Nat) : State :=
  match t with
  | none => s.set (TG_CHSTAT_out c) 0
  | some t =>
    let w := chCond s.rd c t
    let a := chAct s.rd c t
    let s := s.each (List.range 4) fun s k => s.cntAct c k (bits a (56 + 2 * k) 2)
    let s := s.each [0, 1] fun s k => s.tmrAct c k (bits a (52 + 2 * k) 2)
    (s.set (TG_CHSTAT_state c) (cdNext w)).set (TG_CHSTAT_out c) (cdOut w)

/-- Chaser `c` is in use and its unit is not by-passed. -/
def State.chaserRuns (s : State) (c : Nat) : Bool := !s.bypassed (fChaser c) && chEnable s.rd c

/-- The engine evaluates map period `p`: acquisition runs and the period lies wholly at or after valid-from (R240). -/
def State.evaluates (s : State) (p : Bkt) : Bool :=
  s.acq && !s.stage6Out &&
    (match s.validFrom with
     | some v => !s.before p (if s.get TG_PATH_close = 31 then v else addBkt s.mt.nb v 1)
     | none => false)

/-! ## Openings and accepts (R250 to R254) -/

/-- TG_QUEUE follows the queue; peak keeps the largest fill. -/
def State.setQueue (s : State) (q : List Trig) : State :=
  let s := State.set { s with tg := { s.tg with queue := q } } TG_QUEUE_used q.length
  s.set TG_QUEUE_peak (max (s.get TG_QUEUE_peak) q.length)

/-- An opening of period `p` joins the queue before the triggers that reached the engine in a later bucket (R254). -/
def State.joinOpening (s : State) (t : Trig) (q : List Trig) : List Trig :=
  let later := fun e : Trig => s.before (t.atO, t.atB) (e.atO, e.atB)
  let keep := (q.reverse.dropWhile later).reverse
  keep ++ t :: q.drop keep.length

/-- The next local trigger number is taken (R253). -/
def State.takeLocal (s : State) : Nat × State :=
  let n := s.tg.next
  let s := { s with tg := { s.tg with next := (n + 1) % 2 ^ 40 } }
  (n, s.set TG_LOCAL_LO_number s.tg.next)

def State.setLocal (s : State) (n : Nat) : State :=
  State.set { s with tg := { s.tg with next := n } } TG_LOCAL_LO_number n

/-- Chaser `c` makes an opening of class `k` in period `p` (R253, R254, R279). -/
def State.openRecord (s : State) (p : Bkt) (c k : Nat) : State :=
  let s := s.count (TG_CHSTAT_opens c)
  if s.bypassed (fClass k) || s.stages79Out then (s.count TG_CNT_OPEN_quar).flag TG_STATUS_open_drop 82
  else if 192 ≤ (s.tg.queue.filter fun e => !e.accept).length || s.on RC_BUSY_busy then
    (s.count TG_CNT_OPEN_full).flag TG_STATUS_open_drop 82
  else
    let (n, s) := s.takeLocal
    s.setQueue (s.joinOpening ⟨false, k, n, p.1, p.2, false, p.1, p.2⟩ s.tg.queue)

/-- An accept joins the queue before the openings of its own bucket (R254). -/
def joinAccept (t : Trig) (q : List Trig) : List Trig :=
  let tail := fun e : Trig => !e.accept && e.atO == t.atO && e.atB == t.atB
  let keep := (q.reverse.dropWhile tail).reverse
  keep ++ t :: q.drop keep.length

/-- The latest bucket numbered `b` not later than `m` (R251). -/
def latestAt (m : Bkt) (b : Nat) : Bkt := if b ≤ m.2 then (m.1, b) else (wrapSub (2 ^ 32) m.1 1, b)

/-- An accept reaches the trigger engine (R250 to R252, R216). -/
def State.takeAccept (s : State) (body : Nat) : State :=
  if !s.acq || s.stages79Out then (s.count TG_CNT_ACC_stopped).flag TG_STATUS_acc_stopped 84
  else
    let b := bits body 4 16
    let m := subBkt s.mt.nb s.now (s.get TG_ACCEPT_lat_min)
    let bad := decide (s.mt.nb ≤ b)
    let at_ := if bad then (m.1, b) else latestAt m b
    let t : Trig := ⟨true, bits body 60 4, bits body 20 40, at_.1, at_.2, bad, s.now.1, s.now.2⟩
    let s := s.setQueue (joinAccept t s.tg.queue)
    s.iff bad fun s => (s.count TG_CNT_ACC_bad).flag TG_STATUS_acc_bad 83

/-- The first `n` accepts of the frames released in this bucket reach the engine, in item order (R330). -/
def State.takeArrived (s : State) (n : Nat) : State :=
  let l := s.tg.arrived
  State.each { s with tg := { s.tg with arrived := l.drop n } } (l.take n) State.takeAccept

/-- ACCEPT_COMMAND (R251, R330): an accept of a released frame reaches the engine, after those before it in item order.
DESIGN CHOICE: an accept that no frame released in this bucket carried is one whose frame the model was not told of. -/
def acceptCommand (body : Nat) (s : State) : State :=
  if s.tg.arrived.contains body then s.takeArrived (s.tg.arrived.idxOf body + 1) else s.takeAccept body

/-! ## Primitive words (R241 to R243, R248, R249) -/

/-- Hatch-mask and cross-region units that the enabled transitions of chaser `c` reference (R242). -/
def chaserUnits (rd : PlateRd) (c : Nat) : List Nat :=
  let ofMask := fun r k => if k < 32 then [fHatch r] else [fHatch r, fCross (k - 32)]
  let ofTerm := fun i =>
    if i < 0x1800 then ofMask (i / 64) (i % 64)
    else if i < 0x1860 then
      fHatch (i - 0x1800) ::
        (((List.range 32).filter fun x => hatchCare (hatchMask rd (i - 0x1800) (32 + x)) != 0).map fCross)
    else []
  ((List.range 48).filter fun t => cdEn (chCond rd c t)).flatMap fun t => (cdTerms (chCond rd c t)).flatMap ofTerm

/-- The lane that carries the slots of lane `n`: its declared spare while LN_PORT.serve names the lane (R348). -/
def State.effLane (s : State) (n : Nat) : Nat :=
  if bit (s.get (LN_PORT_serve (n / 8))) (n % 8) && lrSpareEn s.shadowRd n then lrSpare s.shadowRd n else n

/-- The chasers whose word is not sent (R243), by the chaser frames `rd`, the lane roles `lr` and the lanes that
carry their slots. -/
def slotConflict (rd lr : PlateRd) (eff : Nat → Nat) (c : Nat) : Bool :=
  chEnable rd c && chEmit rd c &&
    (lrRole lr (chLane rd c) != 2 || decide (slotsOf lr (chLane rd c) ≤ chSlot rd c) ||
      (List.range c).any fun d =>
        chEnable rd d && chEmit rd d && eff (chLane rd d) == eff (chLane rd c) && chSlot rd d == chSlot rd c)

/-- TG_CONFLICT is evaluated again (R243). A chaser without a valid plate names no slot. -/
def State.updConflict (s : State) : State :=
  let live := s.get CX_PLATE_STATUS_state == 4
  let v := (List.range 32).foldl (fun v c => v + b2n (live && slotConflict s.rd s.shadowRd s.effLane c) * 2 ^ c) 0
  let was := s.get TG_CONFLICT_chasers
  (s.set TG_CONFLICT_chasers v).iff (was == 0 && v != 0) fun s => s.flag TG_STATUS_conflict 86

/-- The chaser forms a word in its slot: in use, emitting, without conflict, not by-passed. -/
def State.sends (s : State) (c : Nat) : Bool :=
  s.chaserRuns c && chEmit s.rd c && !bit (s.get TG_CONFLICT_chasers) c

/-- The module passed a bucket of the map period in holdover. -/
def State.periodHeld (s : State) (p : Bkt) : Bool :=
  s.heldOver p || (s.get TG_PATH_close != 31 && s.heldOver (subBkt s.mt.nb p 1))

/-- The word of chaser `c` (R241). -/
def State.primWord (s : State) (p : Bkt) (invalid : Bool) (c : Nat) : Nat :=
  let n := s.get (TG_CHCNT_value c (chReport s.rd c))
  b2n (!invalid) * 2 ^ 31 + b2n (s.periodHeld p) * 2 ^ 30 + c * 2 ^ 24 + s.get (TG_CHSTAT_state c) * 2 ^ 20 +
    s.get (TG_CHSTAT_out c) * 2 ^ 12 + (if 4094 < n then 0xFFF else n)

end Sys2Proof.Machine
end

