-- ==== Sys2Proof/Machine/DataPath.lean ====
section
/-! DEFINITION. Lanes in service, the data paths of the ports, the units they send, and credits (R303 to R307, R310 to
R312, R357): here because everything that takes or gives blocks of the fragment buffer changes the credits. -/

namespace Sys2Proof.Machine

open Sys2Proof

/-! ## Lanes in service (R345, R351, R357) -/

def State.lane (s : State) (n : Nat) : Lane := Sparse.get Lane.new n s.lanes

def State.setLane (s : State) (n : Nat) (l : Lane) : State := { s with lanes := Sparse.put Lane.new n l s.lanes }

/-- Role in force: 0 unused, 1 timing/control, 2 trigger primitive, 3 data (R323). -/
def State.role (s : State) (n : Nat) : Nat := s.get (LN_STATUS_role n)

/-- The receiver is in service: active, locked, not failed. -/
def State.rxServes (s : State) (n : Nat) : Bool :=
  s.get (LN_PWR_rx_now n) == 0 && s.on (LN_STATUS_sym_lock n) && !(s.lane n).rxFailed && !s.on (LN_CTRL_out n)

/-- The transmitter is in service: active, not failed. -/
def State.txServes (s : State) (n : Nat) : Bool :=
  s.get (LN_PWR_tx_now n) == 0 && !(s.lane n).txFailed && !s.on (LN_CTRL_out n)

/-- Lanes of port `p` with role `r` and both directions in service, ascending (R357). -/
def State.serving (s : State) (p r : Nat) : List Nat :=
  ((List.range 8).map (8 * p + ·)).filter fun n => s.role n == r && s.rxServes n && s.txServes n

/-! ## Paths and the data up route (R356, R357) -/

/-- The data path of port `p`. -/
def State.path (s : State) (p : Nat) : DPath := Sparse.get DPath.new p s.str.paths

def State.setPath (s : State) (p : Nat) (d : DPath) : State :=
  { s with str := { s.str with paths := Sparse.put DPath.new p d s.str.paths } }

/-- Port `p` has data service. -/
def State.dataHas (s : State) (p : Nat) : Bool := decide (p < 6) && bit (s.get FB_PORTS_data_up) p

/-- The primary and the secondary port of the data up route, the one in use first. -/
def State.dataOrder (s : State) : Nat × Nat :=
  if s.str.dSec then (s.get FB_UP_d_sec, s.get FB_UP_d_pri) else (s.get FB_UP_d_pri, s.get FB_UP_d_sec)

/-- The port that the active data up route uses, where one has service (R356). -/
def State.dataUp (s : State) : Option Nat :=
  let o := s.dataOrder
  if s.dataHas o.1 then some o.1 else if s.dataHas o.2 then some o.2 else none

/-! ## Units on the wire (R14, R303, R304, R311) -/

/-- A unit before scrambling: its sync header as the two bits leave, the first as bit 0, and its 64-bit payload. -/
abbrev LineUnit := Nat × Nat

/-- A control unit of Thrumgon streaming framing: sync 0b10; a data unit: sync 0b01 (R304). -/
def ctrlUnit (payload : Nat) : LineUnit := (2, payload)
def dataUnit (word : Nat) : LineUnit := (1, word)

/-- The self-synchronising scrambler x^58 + x^39 + 1 over `n` bits of `v` in the order sent (R303): the scrambled bits
and the last 58 of them, the newest as bit 0. -/
def scramble58 (v : Nat) : Nat → Nat → Nat → Nat × Nat
  | _, 0, st => (0, st)
  | i, n + 1, st =>
    let b := xor (bit v i) (xor (bit st 38) (bit st 57))
    let r := scramble58 v (i + 1) n ((st * 2 + b2n b) % 2 ^ 58)
    (b2n b + 2 * r.1, r.2)

/-- Units as the 66 bits leave, the first as bit 0: sync header, then the scrambled payload. -/
def wireUnits : Nat → List LineUnit → List Nat
  | _, [] => []
  | st, u :: us =>
    let r := scramble58 u.2 0 64 st
    (u.1 % 4 + 4 * r.1) :: wireUnits r.2 us

/-- The block type of the terminate unit after `r` bytes (IEEE 802.3 clause 49; PRESUMED). -/
def termType (r : Nat) : Nat := [0x87, 0x99, 0xAA, 0xB4, 0xCC, 0xD2, 0xE1, 0xFF].getD r 0

/-- The units after the start unit, eight bytes each; sync 01 for data and 10 for control leave left bit first
(PRESUMED). -/
def pcsRest : Nat → List Nat → List LineUnit
  | 0, _ => []
  | n + 1, bytes =>
    if 8 ≤ bytes.length then (2, ofBytes (bytes.take 8)) :: pcsRest n (bytes.drop 8)
    else [(1, termType bytes.length + 256 * ofBytes bytes)]

/-- A MAC frame in 10GBASE-R or 25GBASE-R units: start with preamble and SFD, data, terminate (R311; the unit formats are
those of IEEE 802.3 clause 49; PRESUMED). -/
def pcsUnits (frame : List Nat) : List LineUnit :=
  (1, 0x78 + 256 * ofBytes [0x55, 0x55, 0x55, 0x55, 0x55, 0x55, 0xD5]) :: pcsRest (frame.length / 8 + 1) frame

/-- The state of a transmitter's scrambler as a block begins: how many idle units came before is not in the model, so it
is a free value. -/
def State.lineSeed (s : State) : Nat × State := let (v, s) := s.draw; (v.toNat % 2 ^ 58, s)

/-! ## Ethernet frames (R311 to R313) -/

/-- The bytes of an Ethernet frame of subtype and header `start` and data `ws`, from the destination address to the FCS
(R312, R313). -/
def State.ethFrame (s : State) (start : Nat) (ws : List Nat) : List Nat :=
  let a := s.get FB_ADDR_addr
  let data := wordBytes ws
  let bytes := bytesOf (s.get CX_ETH_DST_HI_addr) 2 ++ bytesOf (s.get CX_ETH_DST_LO_addr) 4 ++
    [0x02, 0x54, 0x47, 0x00, a / 256, a % 256, 0x88, 0xB5, start % 256] ++ bytesOf (start / 256) 7 ++
    data ++ List.replicate (40 - data.length) 0
  bytes ++ bytesOf (crc32 bytes) 4

/-- What a receiver makes of what arrived (R304, R312). -/
inductive RxBlock where
  /-- Discarded; `failed`: a block failed, to be sent again. -/
  | bad (failed : Bool)
  /-- A credit: payload [63:8] as [55:0]. -/
  | credit (payload : Nat)
  /-- A good block: payload of its block start, and its words. -/
  | block (start : Nat) (words : List Nat)
  deriving DecidableEq, Repr

/-- The words of bytes, low byte first (R13). -/
def wordsOf : Nat → List Nat → List Nat
  | 0, _ => []
  | n + 1, bytes => ofBytes (bytes.take 8) :: wordsOf n (bytes.drop 8)

/-- Units of Thrumgon streaming framing between two idle units (R304): a block start, 1 to 32 data units, a block end that
gives their number and CRC. -/
def rxThrumgon (units : List LineUnit) : RxBlock :=
  match units with
  | [] => .bad true
  | first :: rest =>
    let last := rest.getLastD (0, 0)
    let ws := rest.dropLast.map (·.2)
    if first.1 == 2 && first.2 % 256 == 0xA1 && last.1 == 2 && last.2 % 256 == 0xA4 &&
        (rest.dropLast.all fun u => u.1 == 1) && decide (1 ≤ ws.length) && ws.length == bits last.2 59 5 + 1 &&
        bits last.2 8 32 == crc32 (wordBytes ws) then .block first.2 ws
    else .bad true

/-- A MAC frame from destination address to FCS (R311, R312). -/
def rxEthernet (bytes : List Nat) : RxBlock :=
  let n := bytes.length - 4
  let body := bytes.take n
  let data := body.drop 22
  let header := ofBytes ((body.drop 15).take 7)
  if bytes.length < 4 || bytes.drop n != bytesOf (crc32 body) 4 then .bad true
  else if 1518 < bytes.length || (body.drop 12).take 2 != [0x88, 0xB5] || data.length % 8 != 0 ||
      decide (data.length < 40) || decide (256 < data.length) then .bad false
  else if body.getD 14 0 = 0xA1 then .block (header * 256 + 0xA1) (wordsOf (data.length / 8) data)
  else if body.getD 14 0 = 0xA2 then .credit header
  else .bad false

/-- What arrived on a data path. -/
def rxBlock (eth : Bool) (b : BlockIn) : RxBlock := if eth then rxEthernet b.bytes else rxThrumgon b.units

/-! ## Credits (R306, R307, R310, R358) -/

/-- Blocks the receiver of port `p` grants (R310, R358). -/
def State.grant (s : State) (p : Nat) : Nat :=
  if s.dataUp = some p then 0 else min 4096 (s.get RC_FBUF_free - 1024)

/-- A credit is sent on the reverse direction of port `p` (R307, R312). -/
def State.sendCredit (s : State) (p : Nat) : State :=
  let d := s.path p
  let credit := d.rxAck * 2 ^ 48 + s.grant p * 2 ^ 32 + b2n d.rxNak * 2 ^ 31 + 0xA2
  let frame := if lrEthernet s.shadowRd p then s.ethFrame credit [] else []
  let (seed, s) := s.lineSeed
  s.setPath p { d with
    credit := credit, rxNak := false, creditEth := frame
    creditUnits := wireUnits seed (if frame = [] then [ctrlUnit credit] else pcsUnits frame) }

/-- What the last credit of path `p` told is out of date (R307). -/
def State.creditStale (s : State) (p : Nat) : Bool :=
  let d := s.path p
  d.started && (bits d.credit 48 16 != d.rxAck || bits d.credit 32 16 != s.grant p || d.credit == 0)

/-- Every path whose ack or window has changed sends a credit (R307). -/
def State.creditsDue (s : State) : State :=
  if s.str.paths = [] then s else s.each ((List.range 6).filter s.creditStale) State.sendCredit

end Sys2Proof.Machine
end

