-- ==== Sys2Proof/Machine/Fragments.lean ====
section
/-! DEFINITION. Fragments: their words, the send-order queue, readout contexts, the refusal queue and busy
(R278 to R302). -/

namespace Sys2Proof.Machine

open Sys2Proof

/-! ## Words (R293 to R299) -/

/-- The flags and cause of H1 (R294). -/
structure FragFlags where
  cause : Nat := 0
  contentLost : Bool := false
  feAbsent : Nat := 0
  btInvalid : Bool := false
  damaged : Bool := false
  overlap : Bool := false
  frozen : Bool := false
  quarantined : Bool := false
  holdover : Bool := false
  clipped : Bool := false
  refused : Bool := false
  deriving DecidableEq, Repr

def h0Word (origin cls src number : Nat) : Nat :=
  3 * 2 ^ 62 + origin * 2 ^ 58 + cls * 2 ^ 54 + src * 2 ^ 42 + number * 2 ^ 2

def h1Word (orbit bucket : Nat) (f : FragFlags) : Nat :=
  orbit * 2 ^ 32 + bucket * 2 ^ 16 + f.cause * 2 ^ 12 + b2n f.contentLost * 2 ^ 11 + f.feAbsent * 2 ^ 8 +
    b2n f.btInvalid * 2 ^ 7 + b2n f.damaged * 2 ^ 6 + b2n f.overlap * 2 ^ 5 + b2n f.frozen * 2 ^ 4 +
    b2n f.quarantined * 2 ^ 3 + b2n f.holdover * 2 ^ 2 + b2n f.clipped * 2 + b2n f.refused

def h2Word (damaged omitted prec clip red : Nat) : Nat :=
  min damaged 0xFFFF * 2 ^ 48 + min omitted 0xFFFF * 2 ^ 32 + min prec 0xFFFF * 2 ^ 16 + clip * 2 ^ 11 + red * 2 ^ 4

def h3Word (orbit bucket len : Nat) : Nat := orbit * 2 ^ 32 + bucket * 2 ^ 16 + len

/-- A section marker (R297): section 0 L, 1 C, 2 S. -/
def markerWord (sec count : Nat) : Nat := 2 * 2 ^ 62 + sec * 2 ^ 60 + count

/-- A fragment's words with its trailer (R298). -/
def withTrailer (ws : List Nat) : List Nat :=
  ws ++ [3 * 2 ^ 62 + 2 ^ 60 + (ws.length + 1) * 2 ^ 40 + crc32 (wordBytes ws)]

/-- The words with `prec` in prec_loss of H2 (R295). -/
def setPrec (prec : Nat) : List Nat → List Nat
  | a :: b :: c :: rest => a :: b :: putBits c 16 16 (min prec 0xFFFF) :: rest
  | ws => ws

/-- The four header words of an empty fragment (R299). -/
def emptyBody (src origin cls number orbit bucket : Nat) (f : FragFlags) : List Nat :=
  [h0Word origin cls src number, h1Word orbit bucket f, h2Word 0 0 0 0 0, h3Word orbit bucket 0]

/-- The identity that the header words of a fragment give (R301): an empty fragment with content_lost in its place. -/
def emptied (ws : List Nat) : List Nat :=
  let h0 := ws.getD 0 0
  let h1 := ws.getD 1 0
  withTrailer (setPrec (bits (ws.getD 2 0) 16 16)
    (emptyBody (bits h0 42 12) (bits h0 58 2) (bits h0 54 4) (bits h0 2 40) (bits h1 32 32) (bits h1 16 16)
      { contentLost := true }))

/-- Blocks of a fragment of `n` words (R303). -/
def blocksOf (n : Nat) : Nat := (n + 31) / 32

/-! ## Busy (R279) -/

/-- A raise condition of busy holds. -/
def State.busyRaise (s : State) : Bool :=
  decide (s.get RC_CTX_free ≤ s.get RC_BUSY_on) || decide (1024 ≤ s.get RC_RF_used) ||
    decide (s.get RC_FBUF_free ≤ 1024) || s.get RC_FREEZE_STATUS_state == 3

/-- Every lower condition of busy holds. -/
def State.busyLower (s : State) : Bool :=
  decide (s.get RC_BUSY_off ≤ s.get RC_CTX_free) && decide (s.get RC_RF_used < 512) &&
    decide (2048 < s.get RC_FBUF_free) && s.get RC_FREEZE_STATUS_state != 3

/-- Busy is judged again; raising wins. -/
def State.busyJudge (s : State) : State :=
  if s.busyRaise then if s.on RC_BUSY_busy then s else (s.set RC_BUSY_busy 1).raise 97
  else if s.busyLower && s.on RC_BUSY_busy then (s.set RC_BUSY_busy 0).raise 98
  else s

/-- What contexts, refusal queue or fragment buffer have changed to is judged: busy (R279) and the credits (R307). -/
def State.busyEval (s : State) : State := s.busyJudge.creditsDue

/-! ## Contexts and the fragment buffer (R278) -/

/-- The free context with the lowest number (DESIGN CHOICE: the spec does not say which is allocated). -/
def State.freeCtx (s : State) : Option Nat :=
  if s.get RC_CTX_free = 0 then none
  else (List.range 10240).find? fun c => !Sparse.has c s.rc.ctxUsed

/-- Context `c` is allocated; its words are written whole. -/
def State.takeCtx (s : State) (c : Nat) : State :=
  let s := { s with rc := { s.rc with ctxUsed := Sparse.insert c true s.rc.ctxUsed } }
  let s := (s.clearMarks memCtx fun i => i / 4 == c).set RC_CTX_free (10240 - s.rc.ctxUsed.length)
  s.set RC_CTX_min_free (min (s.get RC_CTX_min_free) (s.get RC_CTX_free))

/-- Context `c` is freed. -/
def State.giveCtx (s : State) (c : Nat) : State :=
  let s := { s with rc := { s.rc with ctxUsed := Sparse.erase c s.rc.ctxUsed } }
  s.set RC_CTX_free (10240 - s.rc.ctxUsed.length)

def State.takeBlocks (s : State) (n : Nat) : State := s.set RC_FBUF_free (s.get RC_FBUF_free - n)
def State.giveBlocks (s : State) (n : Nat) : State := s.set RC_FBUF_free (min 32768 (s.get RC_FBUF_free + n))

/-! ## The send-order queue (R301, R302) -/

/-- A trigger takes its entry. -/
def State.pushFrag (s : State) (f : Frag) : State :=
  { s with str := { s.str with order := s.str.order ++ [{ f with id := s.str.nextId }], nextId := s.str.nextId + 1 } }

/-- The entry `id` changes by `g`. -/
def State.mapFrag (s : State) (id : Nat) (g : Frag → Frag) : State :=
  { s with str := { s.str with order := s.str.order.map fun f => if f.id = id then g f else f } }

/-- The fragment of entry `id` becomes ready, holding `blocks` blocks. -/
def State.fragReady (s : State) (id : Nat) (body : List Nat) (blocks : Nat) : State :=
  let t := s.str.nextTurn
  let s := s.mapFrag id fun f => { f with body := some body, blocks := blocks, turn := t }
  { s with str := { s.str with nextTurn := t + 1 } }

/-- The content of entry `f` is lost: an empty fragment with content_lost takes its place (R301). -/
def State.fragLost (s : State) (f : Frag) : State :=
  let s := match f.ctx with
    | some c => s.giveCtx c
    | none => s
  let s := s.giveBlocks f.blocks
  let s := s.iff f.refused fun s => s.set RC_RF_used (s.get RC_RF_used - 1)
  let s := s.mapFrag f.id fun f => { f with ctx := none, blocks := 0, refused := false }
  let s := s.fragReady f.id
    (emptyBody (s.get FB_ADDR_addr) f.origin f.cls f.number f.orbit f.bucket { contentLost := true }) 0
  (s.count CX_STR_CNT_lost_content).flag CX_STR_STATUS_lost 113

/-- Neither copy of the identity of entry `f` can be read: no fragment is built (R301). -/
def State.fragGone (s : State) (f : Frag) : State :=
  let s := match f.ctx with
    | some c => s.giveCtx c
    | none => s
  let s := s.giveBlocks f.blocks
  let s := s.iff f.refused fun s => s.set RC_RF_used (s.get RC_RF_used - 1)
  let s := { s with str := { s.str with
    order := s.str.order.filter fun g => g.id != f.id, prec := min 0xFFFF (s.str.prec + 1) } }
  (s.count CX_STR_CNT_lost_content).flag CX_STR_STATUS_lost 113

/-- The entry whose trigger holds context `c`. -/
def State.fragCtx (s : State) (c : Nat) : Option Frag := s.str.order.find? fun f => f.ctx == some c

end Sys2Proof.Machine
end

