-- ==== Sys2Proof/Machine/Records.lean ====
section
/-! DEFINITION. Records: taking triggers, windows, reads, reductions and completion (R258 to R281, R286). -/

namespace Sys2Proof.Machine

open Sys2Proof

/-! ## The class of a record, from the words it was opened with (R258) -/

def Rec.red (r : Rec) : Nat := bits r.w0 59 4
def Rec.excl (r : Rec) : Nat := bits r.w0 11 8
def Rec.hasRegion (r : Rec) (g : Nat) : Bool := if g < 64 then bit r.w1 g else bit r.w2 (g - 64)
def Rec.ctWin (r : Rec) : Nat := bits r.w3 0 16
def Rec.cmax (r : Rec) : Nat := if bits r.w3 16 5 = 0 then 31 else bits r.w3 16 5

/-- Bucket `i` of the window. -/
def State.winBkt (s : State) (r : Rec) (i : Nat) : Bkt := addBkt s.mt.nb (r.winO, r.winB) i

/-- The place of bucket `b` in the window, if it lies in it. -/
def State.winIndex (s : State) (r : Rec) (b : Bkt) : Option Nat :=
  let d := diffBkt s.mt.nb b (r.winO, r.winB)
  if 0 ≤ d ∧ d < (r.len : Int) then some d.toNat else none

/-- First bucket of the window that is not sealed yet: those after the last one sealed (R194). -/
def State.unsealedFrom (s : State) (r : Rec) : Nat :=
  let last := match s.store.lastSealed with
    | some b => b
    | none => subBkt s.mt.nb s.now 64
  min r.len (diffBkt s.mt.nb last (r.winO, r.winB) + 1).toNat

/-! ## Pins (R260) -/

/-- The bucket of its window at which the record ends: before the end where a freeze or a stop of acquisition cut it
short (R261). -/
def Rec.stop (r : Rec) : Nat := min r.len (r.endAt.getD r.len)

/-- Bucket `i` of the window is pinned, or found absent. -/
def State.recPin (s : State) (r : Rec) (i : Nat) : Rec × State :=
  match s.pin (s.winBkt r i) with
  | some s => ({ r with pins := r.pins ++ [i] }, s)
  | none => ({ r with gone := r.gone ++ [i] }, s)

/-- Bucket `i` of the window is sealed but its rows are still being written (R201). -/
def State.beingWritten (s : State) (b : Bkt) : Bool :=
  let d := s.desc (s.slot b)
  d.valid && d.orbit == b.1 && d.bucket == b.2 && !d.written

/-- The pins placed at opening: every sealed bucket of the window is pinned or absent. -/
def State.recPinAll (s : State) (r : Rec) : Rec × State :=
  (List.range (s.unsealedFrom r)).foldl (fun acc i =>
    if acc.2.beingWritten (acc.2.winBkt acc.1 i) then acc else acc.2.recPin acc.1 i) (r, s)

/-- The open records, those whose window holds bucket `b` with its pin, and the machine with those pins. -/
def State.pinRecs (s : State) (b : Bkt) : List Rec × State :=
  s.rc.recs.foldl (fun (acc : List Rec × State) r =>
    match acc.2.winIndex r b with
    | some i =>
      if r.pins.contains i || r.gone.contains i || decide (i < r.next) || decide (r.stop ≤ i) then (acc.1 ++ [r], acc.2)
      else let y := acc.2.recPin r i; (acc.1 ++ [y.1], y.2)
    | none => (acc.1 ++ [r], acc.2)) ([], s)

/-- Bucket `b` has become sealed: every open record whose window holds it pins it. -/
def State.pinSealed (s : State) (b : Bkt) : State :=
  let (recs, s) := s.pinRecs b
  { s with rc := { s.rc with recs := recs } }

/-- BUCKET_WRITE_DONE (R201): the last row of the front bucket is written, so it is sealed. -/
def bucketWriteDone (s : State) : State :=
  match s.store.wq with
  | w :: _ =>
    if w.hits = [] then
      let b := (s.desc w.slot).bucket
      (s.sealFront).pinSealed (w.orbit, b)
    else s
  | [] => s

/-! ## Histograms (R275, R276) -/

/-- A counter of the active bank counts one. -/
def State.histAdd (s : State) (key : Nat) : State :=
  let inc := fun m => Sparse.put 0 key (min (Sparse.get 0 key m + 1) 0xFFFFFFFF) m
  if s.get RC_HIST_CTRL_bank = 0 then { s with rc := { s.rc with hist1 := inc s.rc.hist1 } }
  else { s with rc := { s.rc with hist0 := inc s.rc.hist0 } }

/-- The contribution of an included hit of class `cls` with trigger at `bT` (R275). -/
def State.histHit (s : State) (cls : Nat) (bT b : Bkt) (w : Nat) : State :=
  let ch := hitChan w
  let d := if s.bypassed (fHist ch) then 0 else s.rd (fHist ch) 0
  if bit d 63 && bit d cls then
    let q : Int := match bits d 61 2 with
      | 1 => (hitToa w : Int)
      | 2 => diffBkt s.mt.nb b bT * 32768 + (hitToa w : Int)
      | _ => (hitTot w : Int)
    let i := (q - signed 32 (bits d 16 32)) / (2 ^ bits d 56 5 : Nat)
    s.histAdd (66 * ch + (if i < 0 then 64 else if 63 < i then 65 else i.toNat))
  else s

/-- The clearing of the readable bank begins (R276 step 1). -/
def State.histClearing (s : State) : State :=
  State.set { s with rc := { s.rc with clearAt := s.clock } } RC_HIST_CTRL_clearing 1

/-- HIST_SWAP_WRITE (R276), also fast command 0x05 (R371): the clearing begins at the next bucket edge. -/
def histSwapWrite (s : State) : State :=
  if s.on RC_HIST_CTRL_clearing then s.set RC_HIST_CTRL_refused 1
  else if s.mt.edge.contains .swap then s
  else s.atEdge .swap State.histClearing

/-- HIST_SWAP_DONE (R276): the cleared bank becomes active and the one just filled readable. -/
def histSwapDone (s : State) : State :=
  if s.on RC_HIST_CTRL_clearing then
    let b := s.get RC_HIST_CTRL_bank
    let s := if b = 0 then { s with rc := { s.rc with hist0 := [] } } else { s with rc := { s.rc with hist1 := [] } }
    ((s.set RC_HIST_CTRL_clearing 0).set RC_HIST_CTRL_bank (1 - b)).raise 105
  else s

/-! ## Clusters (R271, R272) -/

/-- Weight of a hit: its tot field, 0 taken as 1. -/
def hitWeight (w : Nat) : Nat := max 1 (hitTot w)

/-- Cluster flags that a hit gives: overload, shadow, pile-up, narrow or started-high. -/
def hitCflags (w : Nat) : Nat :=
  b2n (hitFlag w 0) + 2 * b2n (hitFlag w 1) + 8 * b2n (hitFlag w 5) + 16 * b2n (hitFlag w 2 || hitFlag w 3)

/-- Latest time of a member, from the start of the window. -/
def Cluster.latest (c : Cluster) : Nat := c.members.foldl (fun n m => max n m.2) 0

def Cluster.addHit (c : Cluster) (off w : Nat) : Cluster :=
  let t := 32768 * off + hitToa w
  { c with
    size := c.size + 1, w := c.w + hitWeight w, wt := c.wt + hitWeight w * (t - 32768 * c.off)
    flags := Nat.lor c.flags (hitCflags w), members := c.members ++ [(hitChan w, t)] }

def Cluster.split (c : Cluster) : Cluster := { c with flags := Nat.lor c.flags 4 }

/-- The cluster of least seed order. -/
def firstSeed : List Cluster → Option Cluster
  | [] => none
  | c :: cs => match firstSeed cs with
    | some d => if d.order < c.order then some d else some c
    | none => some c

/-- Hit `w` of bucket `off`, the `n`-th included hit, meets the clusters of a record (R271): neighbours `nbr`. -/
def clusterHit (ctWin cmax n off w : Nat) (nbr : List Nat) (open_ closed : List Cluster) :
    List Cluster × List Cluster :=
  let t := 32768 * off + hitToa w
  let stale := fun c : Cluster => decide (c.latest + ctWin < t)
  let closed := closed ++ open_.filter stale
  let open_ := open_.filter fun c => !stale c
  let near := fun c : Cluster => c.members.any fun m => nbr.contains m.1 && decide (t ≤ m.2 + ctWin)
  let place := fun (c : Cluster) (os cs : List Cluster) =>
    if c.size = cmax then (os, cs ++ [c.split]) else (os ++ [c], cs)
  match firstSeed (open_.filter near) with
  | some c => place (c.addHit off w) (open_.filter fun d => d.order != c.order) closed
  | none =>
    let seeded := Cluster.addHit ⟨n, hitChan w, off, 0, 0, 0, 0, []⟩ off w
    match firstSeed open_ with
    | some old =>
      if open_.length < 256 then place seeded open_ closed
      else place seeded (open_.filter fun d => d.order != old.order) (closed ++ [old.split])
    | none => place seeded open_ closed

/-- The cluster word, with the window's first bucket `win` (R272). -/
def clusterWord (nb : Nat) (win : Bkt) (c : Cluster) : Nat :=
  let t := (c.wt + c.w / 2) / c.w
  c.seed * 2 ^ 53 + c.size * 2 ^ 48 + (addBkt nb win (c.off + t / 32768)).2 * 2 ^ 32 + t % 32768 * 2 ^ 17 +
    (if 4094 < c.w then 0xFFF else c.w) * 2 ^ 5 + c.flags

/-! ## Summaries (R273) -/

/-- The summary word of region `g`, if it holds an included hit. -/
def summaryWord (hits : List (Nat × Nat)) (g : Nat) : Option Nat :=
  match hits.filter fun h => regionOf (hitChan h.2) == g with
  | [] => none
  | h :: hs =>
    let n := hs.length + 1
    let tot := ((h :: hs).foldl (fun v x => v + hitTot x.2) 0) / 8
    some (g * 2 ^ 57 + (if 4094 < n then 0xFFF else n) * 2 ^ 45 + h.1 * 2 ^ 30 + hitToa h.2 * 2 ^ 15 + min tot 0x7FFF)

/-! ## Reading a window bucket (R260 to R263, R268) -/

/-- The channels whose hits a hit of `ch` may join, none while its frame is by-passed; nor those of a by-passed frame,
whose hits form one-pad clusters (R78, R270). -/
def State.nbrs (s : State) (ch : Nat) : List Nat :=
  if s.bypassed (fGraph ch) then [] else (neighbours s.rd ch).filter fun c => !s.bypassed (fGraph c)

/-- The hit is included in the record (R268). -/
def Rec.includes (r : Rec) (w : Nat) : Bool := r.hasRegion (regionOf (hitChan w)) && Nat.land r.excl (w % 256) == 0

/-- An included hit of bucket `off` feeds the reductions. -/
def State.recHit (s : State) (r : Rec) (off w : Nat) : Rec × State :=
  let x := if bit r.red 1 then clusterHit r.ctWin r.cmax r.hits.length off w (s.nbrs (hitChan w)) r.open_ r.closed
    else (r.open_, r.closed)
  let s := s.iff (bit r.red 3) fun s => s.histHit r.cls (r.orbit, r.bucket) (s.winBkt r off) w
  ({ r with hits := r.hits ++ [(off, w)], open_ := x.1, closed := x.2 }, s)

def State.mapRec (s : State) (ctx : Nat) (g : Rec → Rec) : State :=
  { s with rc := { s.rc with recs := s.rc.recs.map fun r => if r.ctx = ctx then g r else r } }

def State.findRec (s : State) (ctx : Nat) : Option Rec := s.rc.recs.find? fun r => r.ctx == ctx

/-- A plate word that a function's own read finds uncorrectable (R82). R407 leaves it to that rule: CX_ECC_CNT and
CX_ECC_LAST record nothing. -/
def State.plateReadBad (s : State) (idx : Nat) : State :=
  if s.underReload (idx / 16) then s
  else ((s.repairFails memPlate idx).setMark memPlate idx 1).plateUncorr (idx / 16) 2

/-- What the read of a bucket found uncorrectable takes effect. -/
def State.applyUpset (s : State) (u : ReadUpset) (found : Option (DescAt × Desc)) : State :=
  let s := s.each u.plate State.plateReadBad
  let s := match u.desc, found with
    | true, some (a, d) => s.descBroken a d
    | _, _ => s
  let s := match u.link with
    | some r => s.linkBroken r
    | none => s
  s.each u.entries fun s e => s.setMark (entryMem e.1) (entryIndex e.1 e.2) 1

/-- Releases the pins a record still holds. -/
def State.dropPins (s : State) (r : Rec) : State := s.each r.pins fun s i => s.unpin (s.winBkt r i)

/-- The open record with context `ctx` ends without content (R301). -/
def State.recLost (s : State) (r : Rec) : State :=
  let s := s.dropPins r
  let s := { s with rc := { s.rc with
    recs := s.rc.recs.filter (fun q => q.ctx != r.ctx)
    dump := if s.rc.dump = some r.ctx then none else s.rc.dump } }
  let s := s.iff (r.origin == 2) fun s => s.set RC_DUMP_CTRL_running 0
  match s.str.order.find? fun f => f.id == r.id with
  | some f => (s.fragLost f).busyEval
  | none => s

/-- The bucket of its window that the record reads next, where it is pinned (R260). -/
def Rec.ready (r : Rec) : Option Nat :=
  match (List.range r.stop).find? fun i => decide (r.next ≤ i) && !r.gone.contains i with
  | some i => if r.pins.contains i then some i else none
  | none => none

/-- The open record served next: of those with a bucket to read, the one opened earliest (R260). -/
def State.recServed (s : State) : Option Rec := s.rc.recs.find? fun r => r.ready.isSome

/-- RECORD_BUCKET_READ (R260): the record of context `ctx` is served where its turn has come. -/
def recordBucketRead (ctx : Nat) (u : ReadUpset) (s : State) : State :=
  match s.recServed with
  | none => s
  | some r =>
    if r.ctx ≠ ctx then s
    else if u.context then s.recLost r
    else
      match r.ready with
      | none => s
      | some i =>
          let b := s.winBkt r i
          let s := s.applyUpset u (s.findDesc b)
          match s.findDesc b with
          | none => s.mapRec ctx fun r => { r with
              next := i + 1, gone := r.gone ++ [i], pins := r.pins.filter fun j => j != i }
          | some (_, d) =>
            let x := s.readBucket d
            let y := (x.1.filter r.includes).foldl (fun acc w => acc.2.recHit acc.1 i w) (r, x.2.2)
            let r := y.1
            let r := { r with
              next := i + 1, pins := r.pins.filter (fun j => j != i)
              damaged := r.damaged + x.2.1 + d.dropped
              holdover := r.holdover || d.holdover, feAbsent := Nat.lor r.feAbsent d.feAbsent }
            (y.2.mapRec ctx fun _ => r).unpin b

/-! ## Completion (R261, R262, R267, R274) -/

/-- Buckets of the window the record still waits for. -/
def Rec.awaits (r : Rec) : Bool :=
  (List.range r.stop).any fun i => decide (r.next ≤ i) && !r.gone.contains i

/-- Bucket `i` of the window was absent. -/
def Rec.absentAt (r : Rec) (i : Nat) : Bool :=
  r.bad || r.gone.contains i || (match r.endAt with
    | some n => decide (n ≤ i)
    | none => false)

/-- The clip causes of R262 and R265: start, end, gap, absent, in the bits of H2 (R295), the size bit apart. -/
def Rec.clip (r : Rec) : Nat :=
  let ix := List.range r.len
  let all := r.bad || ix.all r.absentAt
  let ended := match r.endAt with
    | some n => !r.bad && decide (n < r.len)
    | none => false
  let lead := ix.takeWhile fun i => r.absentAt i
  let gap := !all && (r.gone.any fun i => decide (lead.length ≤ i) && (match r.endAt with
    | some n => decide (i < n)
    | none => true))
  16 * b2n (!all && (decide (0 < lead.length) || r.trimmed)) + 8 * b2n ended + 4 * b2n gap + 2 * b2n all

/-- Words of the sections as the fragment buffer takes them (R274). -/
structure FragFill where
  /-- Words written so far, blocks still free, L, C and S words taken, words left out. -/
  pos : Nat
  free : Nat
  used : Nat
  omitted : Nat
  cut : Bool
  out : List Nat

/-- A word that is never cut. -/
def FragFill.fixed (f : FragFill) (w : Nat) : FragFill :=
  { f with pos := f.pos + 1, free := if f.pos % 32 = 0 then f.free - 1 else f.free, out := f.out ++ [w] }

/-- The blocks run out for a further section word: it needs a new block while only one is free; or the last free block is
in use already, and the word would take the room held in it for the `rest` markers and trailer to come (R274). -/
def FragFill.full (rest : Nat) (f : FragFill) : Bool :=
  if f.pos % 32 = 0 then decide (f.free ≤ 1) else f.free == 0 && decide (32 < f.pos % 32 + 1 + rest)

/-- A section word, left out from the cut on. -/
def FragFill.word (cap rest : Nat) (f : FragFill) (w : Nat) : FragFill :=
  if f.cut || decide (cap ≤ f.used) || f.full rest then { f with cut := true, omitted := f.omitted + 1 }
  else { f.fixed w with used := f.used + 1 }

/-- One section: its words are filled first, then its marker carries their count (R297). -/
def FragFill.sec (cap rest : Nat) (f : FragFill) (sec : Nat) (ws : List Nat) : FragFill :=
  let g := ws.foldl (FragFill.word cap rest) (f.fixed 0)
  let kept := g.out.drop (f.out.length + 1)
  { g with out := f.out ++ markerWord sec kept.length :: kept }

/-- The units whose by-pass flags the record's fragment (text after R78). -/
def Rec.units (r : Rec) : List Nat :=
  fClass r.cls :: (((List.range 96).filter r.hasRegion).map fRegion ++
    (if bit r.red 1 then r.hits.map fun h => fGraph (hitChan h.2) else []))

/-- A unit that the record depends on was by-passed for some bucket of its window up to the current one (text after
R78). -/
def State.recQuar (s : State) (r : Rec) : Bool :=
  let win : Bkt := (r.winO, r.winB)
  let last := s.winBkt r (r.len - 1)
  let hi := if s.before s.now last then s.now else last
  r.quar || (decide (0 < r.len) && !r.bad && !s.before hi win && r.units.any fun u => s.wasBypassed u win hi)

/-- The names of the buckets are about to change: what the open records have to tell of theirs is kept (R78, R91). -/
def State.namesEnd (s : State) : State :=
  { s with rc := { s.rc with recs := s.rc.recs.map fun r => { r with quar := s.recQuar r } } }

/-- The record's fragment is built from its reductions (R267, R274, R292). -/
def State.buildRec (s : State) (r : Rec) : List Nat × Nat × Nat × Nat :=
  let nb := s.mt.nb
  let win : Bkt := (r.winO, r.winB)
  let cs := ((r.closed ++ r.open_).mergeSort fun a b => decide (a.order ≤ b.order)).map (clusterWord nb win)
  let ss := (List.range 96).filterMap fun g => summaryWord r.hits g
  let cap := s.get RC_LIMIT_words
  let f : FragFill := ⟨0, s.get RC_FBUF_free, 0, 0, false, []⟩
  let f := (List.range 4).foldl (fun f _ => f.fixed 0) f
  let inC := b2n (bit r.red 1)
  let inS := b2n (bit r.red 2)
  let f := if bit r.red 0 then f.sec cap (inC + inS + 1) 0 (r.hits.map (·.2)) else f
  let f := if bit r.red 1 then f.sec cap (inS + 1) 1 cs else f
  let f := if bit r.red 2 then f.sec cap 1 2 ss else f
  let blocks := blocksOf (f.out.length + 1)
  let clip := r.clip + b2n (decide (0 < f.omitted))
  let flags : FragFlags := {
    feAbsent := r.feAbsent, btInvalid := r.bad, damaged := decide (0 < r.damaged), overlap := r.overlap
    frozen := r.frozen, quarantined := s.recQuar r, holdover := r.holdover, clipped := clip != 0 }
  let body := h0Word r.origin r.cls (s.get FB_ADDR_addr) r.number :: h1Word r.orbit r.bucket flags ::
    h2Word r.damaged f.omitted 0 clip r.red ::
    h3Word (if r.bad then r.orbit else r.winO) (if r.bad then r.bucket else r.winB) (if r.bad then 0 else r.len) ::
    f.out.drop 4
  (body, blocks, clip, r.damaged)

/-- RECORD_COMPLETE (R261): the reductions close and the fragment goes to the readout engine. While no block of the
fragment buffer is free the record waits. -/
def recordComplete (ctx : Nat) (s : State) : State :=
  match s.findRec ctx with
  | none => s
  | some r =>
    if r.awaits || s.get RC_FBUF_free == 0 then s
    else
      let (body, blocks, clip, damaged) := s.buildRec r
      let s := s.dropPins r
      let s := { s with rc := { s.rc with
        recs := s.rc.recs.filter (fun q => q.ctx != ctx)
        dump := if s.rc.dump = some ctx then none else s.rc.dump } }
      let s := (s.takeBlocks blocks).fragReady r.id body blocks
      let s := s.count RC_CNT_DAMAGED_count (min damaged 0xFFFF)
      let s := s.iff (bit clip 4) fun s => s.count RC_CNT_CLIP_start
      let s := s.iff (bit clip 3) fun s => s.count RC_CNT_CLIP_end
      let s := s.iff (bit clip 2) fun s => s.count RC_CNT_CLIP_gap
      let s := s.iff (bit clip 1) fun s => s.count RC_CNT_CLIP_absent
      let s := s.iff (bit clip 0) fun s => s.count RC_CNT_CLIP_size
      let s := s.iff (clip != 0) fun s => s.flag RC_STATUS_clipped 99
      let s := s.iff (r.origin == 2) fun s => (s.set RC_DUMP_CTRL_running 0).raise 104
      s.busyEval

/-! ## Taking a trigger (R259, R264 to R266) -/

/-- Re-arm: the class's last record lies closer than `rearm` (R264). -/
def State.inRearm (s : State) (t : Trig) : Option LastRec :=
  match s.rc.last.find? fun l => l.cls == t.cls with
  | some l =>
    if !t.bad && decide ((diffBkt s.mt.nb (t.orbit, t.bucket) (l.orbit, l.bucket)).natAbs < tcRearm s.rd t.cls) then some l
    else none
  | none => none

/-- A trigger is refused with `cause` (R266, R281, R299). -/
def State.refuse (s : State) (t : Trig) (cause : Nat) : State :=
  let s := ((s.count RC_CNT_REFUSE_count).set RC_REFUSE_LAST_class t.cls).set RC_REFUSE_LAST_cause cause
  let s := s.flag RC_STATUS_refused 96
  if 4096 ≤ s.get RC_RF_used then
    let s := (s.count RC_RF_lost).raise 100
    { s with str := { s.str with prec := min 0xFFFF (s.str.prec + 1) } }
  else
    let origin := if t.accept then 0 else 1
    let body := emptyBody (s.get FB_ADDR_addr) origin t.cls t.number t.orbit t.bucket
      { cause := cause, refused := true, quarantined := cause == 1, frozen := cause == 4
        btInvalid := t.bad, holdover := s.on CX_MT_STATUS_holdover }
    let id := s.str.nextId
    let s := s.pushFrag ⟨0, origin, t.cls, t.number, t.orbit, t.bucket, none, true, none, 0, 0⟩
    (s.fragReady id body 0).set RC_RF_used (s.get RC_RF_used + 1)

/-- A record is opened with context `ctx` on the window of `len` buckets from `win`; the caller sets what re-arm or a
dump adds (R259, R260). -/
def State.openRec (s : State) (ctx origin cls number : Nat) (bT : Bkt) (bad : Bool) (win : Bkt) (len : Nat)
    (g : Rec → Rec) : State :=
  let id := s.str.nextId
  let s := s.pushFrag ⟨0, origin, cls, number, bT.1, bT.2, some ctx, false, none, 0, 0⟩
  let s := (s.takeCtx ctx).count (RC_CLASS_CNT_count cls)
  let f := s.rd (fClass cls)
  let r := g { ctx := ctx, id := id, origin := origin, cls := cls, number := number, orbit := bT.1, bucket := bT.2
               bad := bad, w0 := f 0, w1 := f 1, w2 := f 2, w3 := f 3, winO := win.1, winB := win.2, len := len
               next := 0, pins := [], gone := [], endAt := none, trimmed := false, overlap := false, frozen := false
               holdover := false, feAbsent := 0, damaged := 0, quar := false, hits := [], open_ := [], closed := [] }
  let x := s.recPinAll r
  { x.2 with rc := { x.2.rc with recs := x.2.rc.recs ++ [x.1] } }

/-- The class's last record becomes this one. -/
def State.setLast (s : State) (l : LastRec) : State :=
  { s with rc := { s.rc with last := l :: s.rc.last.filter fun m => m.cls != l.cls } }

/-- The first refusal cause of R266 that holds for a trigger, `rearm` being the record that holds it in re-arm. An accept
with invalid b_T is refused only while its class's unit is by-passed: R78 turns away each accept of that class, R266 none
of the rest, and without a context there is no record to open. -/
def State.refusalCause (s : State) (t : Trig) (rearm : Option LastRec) : Option Nat :=
  if s.bypassed (fClass t.cls) then some 1
  else if !t.bad && !tcEnable s.rd t.cls then some 3
  else if !t.bad && s.store.stopped then some 4
  else if rearm.isSome && (tcPolicy s.rd t.cls == 0 || tcPolicy s.rd t.cls == 3) then some 2
  else if s.freeCtx.isNone then some 5
  else none

/-- The record engine takes a trigger (R259): it opens a record or refuses it. -/
def State.takeTrig (s : State) (t : Trig) : State :=
  let nb := s.mt.nb
  let rearm := s.inRearm t
  match s.refusalCause t rearm, s.freeCtx with
  | some c, _ => s.refuse t c
  | none, none => s
  | none, some ctx =>
    let origin := if t.accept then 0 else 1
    let bT : Bkt := (t.orbit, t.bucket)
    if t.bad then s.openRec ctx origin t.cls t.number bT true bT 0 id
    else
      let pre := tcPre s.rd t.cls
      let post := tcPost s.rd t.cls
      let first := subBkt nb bT pre
      let last := addBkt nb bT post
      let trim := match rearm with
        | some l =>
          let start := addBkt nb (l.endO, l.endB) 1
          if tcPolicy s.rd t.cls = 1 ∧ s.before first start then some start else none
        | none => none
      let win := trim.getD first
      let len := (diffBkt nb last win + 1).toNat
      let overlap := rearm.isSome && tcPolicy s.rd t.cls == 2
      let ending := fun r : Rec => if s.acq then r else { r with endAt := some (s.unsealedFrom r) }
      let s := s.openRec ctx origin t.cls t.number bT false win len fun r =>
        ending { r with trimmed := trim.isSome, overlap := overlap }
      s.setLast ⟨t.cls, bT.1, bT.2, last.1, last.2⟩

/-- RECORD_ENGINE_TAKE (R259). -/
def recordEngineTake (s : State) : State :=
  match s.tg.queue with
  | [] => s
  | t :: rest => ((s.setQueue rest).takeTrig t).busyEval

/-! ## Dumps (R286) -/

/-- DUMP_GO (R286, R216): the class and length are written with go. -/
def dumpGo (cls len : Nat) (s : State) : State :=
  let s := (s.set RC_DUMP_CTRL_class cls).set RC_DUMP_CTRL_len len
  let first : Bkt := (s.get RC_DUMP_ORBIT_orbit, s.get RC_DUMP_BT_bucket)
  match s.freeCtx with
  | some ctx =>
    if s.get RC_FREEZE_STATUS_state = 3 ∧ !s.on RC_DUMP_CTRL_running ∧ !s.stages79Out ∧ tcEnable s.rd cls then
      let (n, s) := s.takeLocal
      let s := s.set RC_DUMP_CTRL_running 1
      let s := { s with rc := { s.rc with dump := some ctx } }
      (s.openRec ctx 2 cls n first false first (len + 1) fun r =>
        { r with frozen := true, endAt := some (s.unsealedFrom r) }).busyEval
    else s.set RC_STATUS_dump_refused 1
  | none => s.set RC_STATUS_dump_refused 1

/-! ## The flush (R207) -/

/-- Open records lose the buckets they have not read: a flush clears them. -/
def State.recsFlushed (s : State) : State :=
  let g := fun r : Rec => { r with
    gone := r.gone ++ r.pins, pins := [],
    endAt := match r.endAt with
      | some n => some n
      | none => some (max r.next (s.unsealedFrom r)) }
  { s with rc := { s.rc with recs := s.rc.recs.map g } }

/-- A flush begins. -/
def State.flushBegin (s : State) : State := s.recsFlushed.flushStart

/-- HQ_FLUSH (R207): while the machine-synchronous domain stands still no edge begins a flush. -/
def hqFlush (s : State) : State :=
  if s.acq then s.hqRefused else if s.mt.running then s.atEdge .flush State.flushBegin else s

/-- TG_LOCAL_READ (R256): the read of TG_LOCAL_LO latches the high bits. -/
def tgLocalRead (s : State) : State := s.set TG_LOCAL_HI_number (s.tg.next / 2 ^ 32)

/-! ## The commands -/

def execBucketWriteDone (s : State) := effectMs .bucketWriteDone bucketWriteDone s
def execHqFlush (s : State) := effect .hqFlush hqFlush s
def execAcceptCommand (body : Nat) (s : State) := effectMs (.acceptCommand body) (acceptCommand body) s
def execTgLocalRead (s : State) := effect .tgLocalRead tgLocalRead s
def execRecordEngineTake (s : State) := effectMs .recordEngineTake recordEngineTake s
def execRecordComplete (ctx : Nat) (s : State) := effectMs (.recordComplete ctx) (recordComplete ctx) s
def execHistSwapWrite (s : State) := effect .histSwapWrite histSwapWrite s
def execHistSwapDone (s : State) := effectMs .histSwapDone histSwapDone s
def execDumpGo (cls len : Nat) (s : State) := effect (.dumpGo cls len) (dumpGo cls len) s

end Sys2Proof.Machine
end

