-- ==== Sys2Proof/Machine/Channels.lean ====
section
/-! DEFINITION. The input channels: edges, recovery, derandomisers, overload, the rate guard, test charge and
masks, and the correction of a pair of edges into a hit word (R125 to R176). -/

namespace Sys2Proof.Machine

open Sys2Proof

/-! ## Dies and channels -/

/-- Die `n` was isolated or off in bucket `b` (R194, R525). -/
def State.feOutAt (s : State) (n : Nat) (b : Bkt) : Bool :=
  s.feByp.any fun e => e.1 == n && e.2.covers s.mt.nb b

/-- Die `n` is in service in the current bucket: a change takes effect at the next bucket edge (R525, R526). -/
def State.feServed (s : State) (n : Nat) : Bool := !s.feOutAt n s.now

/-- Die `n` is powered: neither off nor shutting down (R526). -/
def State.feRuns (s : State) (n : Nat) : Bool := s.get (nowFld n) != 2 && !s.shut.contains (ShutFn.feDie n)

/-- Event source of FE die `n` (R160). -/
def feSrc (n k : Nat) : Nat := 256 + 48 * n + k

def State.chan (s : State) (ch : Nat) : Chan := Sparse.get Chan.new ch s.chans

def State.setChan (s : State) (ch : Nat) (c : Chan) : State := { s with chans := Sparse.put Chan.new ch c s.chans }

def State.die (s : State) (n : Nat) : FeDie := Sparse.get FeDie.new n s.dies

def State.setDie (s : State) (n : Nat) (d : FeDie) : State := { s with dies := Sparse.put FeDie.new n d s.dies }

/-- The configuration an FE die runs for region `r` (R126). -/
def State.regLatch (s : State) (r : Nat) : Nat := Sparse.get 0 r s.latch

/-- Channel `ch` is powered up: its die runs, its region is enabled and its pad present (R126, R140). -/
def State.chUp (s : State) (ch : Nat) : Bool :=
  s.feRuns (ch / 512) && riEnable (s.regLatch (regionOf ch)) && riPresent (s.regLatch (regionOf ch)) (posOf ch)

/-- The auto-mask bit of a channel (R157). -/
def State.autoMasked (s : State) (ch : Nat) : Bool :=
  bit (s.get (FE_AUTOMASK_row (ch / 512) (ch % 512 / 32))) (ch % 32)

/-- The channel was masked in the bucket at which the count of buckets was `t` (R149). -/
def State.maskedAt (s : State) (ch t : Nat) : Bool :=
  s.asOf t (FE_CTRL_die_mask (ch / 512)) != 0 || s.asOf t (FE_CH_CFG_mask (ch / 512) (ch % 512)) != 0 ||
    bit (s.asOf t (FE_AUTOMASK_row (ch / 512) (ch % 512 / 32))) (ch % 32)

/-- A mask of the channel has ended at a bucket edge since the bucket counted `t` (R150). -/
def State.unmaskedSince (s : State) (ch t : Nat) : Bool :=
  s.was.any fun w => decide (t < w.acts) && decide (w.acts ≤ s.clock) && s.maskedAt ch (w.acts - 1) &&
    !s.maskedAt ch w.acts

/-- Every condition of R149 apart from the by-pass of the region-input unit. -/
def State.delivers (s : State) (ch : Nat) : Bool :=
  s.get CX_PLATE_STATUS_state == 4 && s.chUp ch && s.feServed (ch / 512) && !s.maskedAt ch s.clock

/-- Every condition of R149: the channel adds to counters other than those of the rate guard. -/
def State.counts (s : State) (ch : Nat) : Bool := s.delivers ch && !s.bypassed (fRegion (regionOf ch))

/-- The column of the channel takes ring-oscillator stamps and no real edges (R178, R179). -/
def State.calibrating (s : State) (ch : Nat) : Bool :=
  let n := ch / 512
  ((s.die n).slice || s.get (FE_CD_STATUS_state n) == 3) && s.get (FE_CD_STATUS_column n) == ch % 512 / 32

/-- The delay-lock servo of die `n` is locked (R164). -/
def State.locked (s : State) (n : Nat) : Bool := s.get (FE_TDC_STATUS_state n) == 2

/-- The servo of die `n` was out of lock in some bucket from the count `a` to the count `b` (R163). -/
def State.unlockedIn (s : State) (n a b : Nat) : Bool :=
  (s.die n).unl.any fun e => decide (e.1 ≤ b) && (match e.2 with
    | none => true
    | some x => decide (a ≤ x))

/-! ## Correction (R166 to R170) -/

/-- B_l[r] of a channel, or the ideal value (R166, R167). -/
def State.binOf (s : State) (ch r : Nat) : Nat :=
  let n := ch / 512
  let l := ch % 512
  if s.onNow (FE_TDC_CTRL_ideal n) then 16 * r + 8
  else if r % 2 = 0 then s.get (FE_BIN_even n l (r / 2)) else s.get (FE_BIN_odd n l (r / 2))

/-- The table of a leading edge now, where a written change of the table in use is still to come into force (R170). -/
def State.heldTable (s : State) (ch : Nat) : Option (List Nat) :=
  let f := FE_TDC_CTRL_ideal (ch / 512)
  if s.onNow f == s.on f then none else some ((List.range 1024).map (s.binOf ch))

/-- The tables in force stay with the open leading edges of the channels that `p` names (R170). -/
def State.keepTables (s : State) (p : Nat → Bool) : State :=
  s.each (s.chans.filter fun e => p e.1 && e.2.lead.isSome && e.2.tab.isNone) fun s e =>
    s.setChan e.1 { e.2 with tab := some ((List.range 1024).map (s.binOf e.1)) }

/-- O_die and O_l of a channel in u, as in force now (R168, R170, R187). -/
def State.dieOfs (s : State) (n : Nat) : Int := signed 12 (s.asOf s.clock (FE_TDC_DIE_OFS_ofs n))
def State.chOfs (s : State) (ch : Nat) : Int := signed 12 (s.asOf s.clock (FE_CH_OFS_ofs (ch / 512) (ch % 512)))

/-- TOA: the shift in buckets and the ticks within that bucket (R168). -/
def toaOf (t : Nat) (ofs : Int) : Int × Nat :=
  let a := ((t : Int) + ofs + 8).fdiv 16
  (a.fdiv 32768, (a.fmod 32768).toNat)

/-- The tot field of a pair of edges `dt` u apart, and whether it is an overflow (R169, R173). -/
def totOf (dt : Int) : Nat × Bool :=
  let t := (dt + 64).fdiv 128
  if 4095 ≤ t then (0xFFF, true) else if t ≤ 0 then (1, false) else (t.toNat, false)

/-- The bucket `k` buckets after `b`, `k` of either sign. -/
def shiftBkt (nb : Nat) (b : Bkt) (k : Int) : Bkt := if k < 0 then subBkt nb b k.natAbs else addBkt nb b k.toNat

/-- The stop channel of an enabled pair (R175). -/
def State.pairStop (s : State) (ch : Nat) : Bool :=
  let l := ch % 512
  l % 2 == 1 && bit (s.asOf s.clock (FE_PAIR_EN_pair (ch / 512) (l / 64))) (l / 2 % 32)

/-- The interval field of a stop hit (R175). -/
def pairTot (nb : Nat) (ld : Lead) : Nat :=
  match ld.start with
  | none => 0xFFF
  | some (o, b, t) =>
    let i := (diffBkt nb (ld.orbit, ld.bucket) (o, b) * 524288 + (ld.t : Int) + ld.ofsL - t + 8).fdiv 16
    if 0 ≤ i ∧ i ≤ 4094 then i.toNat else 0xFFF

/-! ## Completing a hit (R126, R136, R165, R171 to R175) -/

/-- A completed hit enters its derandomiser, or is dropped by a full one (R135, R136). -/
def State.toFifo (s : State) (ch orbit w : Nat) (invalid : Bool) (last : Nat × Nat × Int) : State :=
  let n := ch / 512
  let c := s.chan ch
  if 8 ≤ c.fifo.length then
    ((s.count (FE_CH_STAT_derand_lost n (ch % 512))).count (FE_CNT_DERAND_count n)).flag (FE_STATUS_derand_ovf n)
      (feSrc n 1)
  else s.setChan ch { c with fifo := c.fifo ++ [(orbit, w, invalid)], last := some last }

/-- The leading edge `ld` of a channel completes as a hit with the given tot field and flags from its end. An edge
stamped in an invalid bucket is counted here, and the CX discards the hit (R165). -/
def State.complete (s : State) (ch : Nat) (ld : Lead) (tot : Nat) (flags : Nat) (invalid : Bool) : State :=
  let n := ch / 512
  if s.get CX_PLATE_STATUS_state ≠ 4 then s
  else if s.bypassed (fRegion (regionOf ch)) then
    (s.count (FE_CNT_BYPASS_count n)).flag (FE_STATUS_bypass_discard n) (feSrc n 3)
  else
    let s := s.iff (tot == 0) fun s => s.count (FE_CNT_NARROW_count n)
    let s := s.iff (tot == 0xFFF) fun s => s.count (FE_CNT_TOTOVF_count n)
    let s := s.iff (bit ld.flags 3) fun s => s.count (FE_CNT_STARTHIGH_count n)
    let k := s.clockAt (ld.orbit, ld.bucket)
    let bad := invalid || !s.locked n || s.unlockedIn n k k
    let s := s.iff bad fun s => s.count (FE_CNT_UNLOCK_count n)
    let a := toaOf ld.t ld.ofs
    let b := shiftBkt s.mt.nb (ld.orbit, ld.bucket) a.1
    let field := if s.pairStop ch then pairTot s.mt.nb ld else tot
    s.toFifo ch b.1 (hitWord ch b.2 a.2 field (Nat.lor ld.flags flags)) bad
      (ld.orbit, ld.bucket, (ld.t : Int) + ld.ofsL)

/-! ## Leading edges (R131, R140, R146, R161 to R168) -/

/-- The rate window of die `n` under way, counted from the last full load (R140). -/
def State.rateWindow (s : State) (n : Nat) : Nat := (s.clock - s.loadedAt) / 2 ^ (s.get (FE_GUARD_rate_win n) + 6)

/-- Leading edges of a channel in the rate window under way. -/
def State.rateEdges (s : State) (ch : Nat) : Nat :=
  if (s.chan ch).win = s.rateWindow (ch / 512) then (s.chan ch).edges else 0

/-- A leading edge at `b` and nominal tick `tick` falls in the injection window. -/
def InjWin.holds (nb : Nat) (w : InjWin) (b : Bkt) (tick : Nat) : Bool :=
  let d := diffBkt nb b (w.orbit, w.bucket) * 32768 + (tick : Int) - (w.tick : Int)
  decide (0 ≤ d) && decide (d < 24 * 1024)

/-- The injection flags of an edge in an injection window, and the window counted where coincident (R146). -/
def State.injEdge (s : State) (ch : Nat) (w : InjWin) : Nat × State :=
  let n := ch / 512
  let c := s.chan ch
  if w.idle && w.edges == 0 then (0x40, s.setChan ch { c with inj := some { w with edges := 1 } })
  else
    let s := s.setChan ch { c with inj := some { w with edges := w.edges + 1, counted := true } }
    (0x50, s.iff (!w.counted && s.counts ch) fun s =>
      (s.count (FE_CNT_INJ_ERR_coincident n)).flag (FE_STATUS_inj_coinc n) (feSrc n 4))

/-- A leading edge that the channel times, stamped at `st`, with `flags` known of it (R134, R140, R146, R166 to
R170). Whether it falls in an injection window is judged on its stamp, coarse × 1,024 + raw, against the strobe's tick
(DESIGN CHOICE: R146 does not say whether the stamp or the corrected time counts). -/
def State.timeEdge (s : State) (ch : Nat) (st : Stamp) (flags : Nat) : State :=
  let n := ch / 512
  let b : Bkt := (st.orbit, st.bucket)
  let hit := (s.chan ch).inj.filter fun w => w.holds s.mt.nb b (st.coarse * 1024 + st.raw)
  let s := s.iff hit.isNone fun s =>
    s.setChan ch { s.chan ch with win := s.rateWindow n, edges := s.rateEdges ch + 1 }
  if !s.delivers ch then s
  else
    let (fl, s) := match hit with
      | some w => s.injEdge ch w
      | none => (0, s)
    let start := if s.pairStop ch then (s.chan (ch - 1)).last else none
    let ld := Lead.mk st.orbit st.bucket (16384 * st.coarse + s.binOf ch st.raw) (s.dieOfs n + s.chOfs ch)
      (s.chOfs ch) (Nat.lor flags fl) start
    s.setChan ch { s.chan ch with lead := some ld, tab := s.heldTable ch }

/-- DISCRIMINATOR_LEADING_EDGE: the output goes high; in recovery, in a calibration slice and without the coarse clock
nothing is timed (R133, R179, R31). A pulse that begins in recovery is told by this command too, so that the guard sees
how long it lasts. The pulse of a channel that delivers nothing gives no hit (R149, R150). -/
def leadingEdge (ch : Nat) (st : Stamp) (s : State) : State :=
  let c := s.chan ch
  if !s.chUp ch || c.high then s
  else
    let s := s.setChan ch { c with
      high := true, since := s.clock, lead := none, done := false, mute := !s.delivers ch }
    if c.recov || s.calibrating ch || !s.mt.running then s else s.timeEdge ch st 0

/-! ## Trailing edges (R133, R162, R169, R173) -/

/-- DISCRIMINATOR_TRAILING_EDGE: the pulse ends, its open leading edge completes, and recovery begins. -/
def trailingEdge (ch : Nat) (st : Stamp) (overload narrow invalid : Bool) (s : State) : State :=
  let c := s.chan ch
  if !s.chUp ch || !c.high then s
  else
    let s := s.setChan ch { c with
      high := false, lead := none, tab := none, done := false, mute := false
      recov := c.recov || !s.calibrating ch || c.lead.isSome }
    match c.lead.filter fun _ => s.mt.running with
    | none => s
    | some ld =>
      let b := match c.tab with
        | some l => l.getD st.raw 0
        | none => s.binOf ch st.raw
      let dt := diffBkt s.mt.nb (st.orbit, st.bucket) (ld.orbit, ld.bucket) * 524288 +
        ((16384 * st.coarse + b : Nat) : Int) - (ld.t : Int)
      let tot := if narrow then 0 else (totOf dt).1
      s.complete ch ld tot (b2n narrow * 4 + b2n (overload && !narrow)) invalid

/-- TOT_OVERFLOW (R174): the hit completes; the channel stays closed until the real trailing edge. -/
def State.overflow (s : State) (ch : Nat) (overload invalid : Bool) : State :=
  let c := s.chan ch
  match c.lead with
  | none => s
  | some ld =>
    (s.setChan ch { c with lead := none, tab := none, done := true }).complete ch ld 0xFFF (b2n overload) invalid

def totOverflow (ch : Nat) (overload invalid : Bool) (s : State) : State := s.overflow ch overload invalid

/-- RECOVERY_END (R134): pulses that began and ended in recovery are lost; an input beyond the leading-edge level
is timed as pile-up, unless the pulse gives no hit (R126, R150). An input between the two levels takes the output as low,
whether or not a pulse had begun (DESIGN CHOICE: the table of R134 gives no row for it). -/
def recoveryEnd (ch : Nat) (beyond : Bool) (lost : Nat) (st : Stamp) (s : State) : State :=
  let n := ch / 512
  let c := s.chan ch
  if !s.chUp ch || !c.recov then s
  else
    let mute := c.mute || !s.delivers ch || (c.high && s.unmaskedSince ch c.since)
    let s := s.setChan ch { c with
      recov := false, high := beyond, since := if c.high then c.since else s.clock, lead := none, done := false
      mute := beyond && mute }
    let s := s.iff (decide (0 < lost) && s.counts ch) fun s =>
      ((s.count (FE_CH_STAT_recov_lost n (ch % 512)) lost).count (FE_CNT_RECOV_count n) lost).flag
        (FE_STATUS_recov_lost n) (feSrc n 2)
    if beyond && !s.calibrating ch && s.mt.running && (!mute || !s.delivers ch) then s.timeEdge ch st 0x20 else s

/-- The started-high leading edge of channel `ch` at the current bucket (R146, R173). -/
def State.startHigh (s : State) (ch : Nat) : State :=
  let hit := (s.chan ch).inj.filter fun w => w.holds s.mt.nb s.now 0
  let (fl, s) := match hit with
    | some w => s.injEdge ch w
    | none => (0, s)
  let start := if s.pairStop ch then (s.chan (ch - 1)).last else none
  s.setChan ch { s.chan ch with
    lead := some (Lead.mk s.mt.orbit s.mt.bucket 0 0 0 (Nat.lor 8 fl) start), tab := none }

/-- Timing resumes at the current bucket: a high channel of those that `p` names gets a started-high leading edge
(R173); `again` also where a leading edge is open. A channel in recovery times no leading edge (R133), and a pulse that
gives no hit stays without one. -/
def State.resumeHigh (s : State) (p : Nat → Bool) (again : Bool) : State :=
  s.each (s.chans.filter fun e => p e.1 && e.2.high && !e.2.done && !e.2.recov && !e.2.mute &&
      (again || e.2.lead.isNone) && s.delivers e.1 && !s.unmaskedSince e.1 e.2.since)
    fun s e => s.startHigh e.1

/-! ## The rate guard (R140 to R143) -/

/-- The channel is auto-masked with `cause`, from the next bucket edge (R142). -/
def State.autoMask (s : State) (ch cause : Nat) : State :=
  let n := ch / 512
  let l := ch % 512
  let s := s.keepOld [FE_AUTOMASK_row n (l / 32)] 1
  let s := s.set (FE_AUTOMASK_row n (l / 32)) (Nat.lor (s.get (FE_AUTOMASK_row n (l / 32))) (2 ^ (l % 32)))
  let s := (s.set (FE_CH_STAT_automasked n l) 1).set (FE_CH_STAT_cause n l) cause
  (s.overflow ch false false).flag (FE_STATUS_automask n) (feSrc n 0)

/-- STUCK_DETECTED (R140): the output has been high for more than stuck_lim × 8 bk. The edge lay inside its bucket, so
that may come true in the last of them. -/
def stuckDetected (ch : Nat) (s : State) : State :=
  let lim := s.get (FE_GUARD_stuck_lim (ch / 512))
  let c := s.chan ch
  if s.chUp ch && c.high && lim != 0 && decide (lim * 8 ≤ s.clock - c.since) && !s.autoMasked ch then s.autoMask ch 1
  else s

/-- RATE_LIMIT_EXCEEDED (R140): more than rate_lim leading edges lie in the rate window. -/
def rateLimitExceeded (ch : Nat) (s : State) : State :=
  let n := ch / 512
  let l := ch % 512
  let lim := s.get (FE_GUARD_rate_lim n)
  if s.chUp ch && lim != 0 && decide (lim < s.rateEdges ch) && !s.autoMasked ch then
    let s := s.keepOld [FE_AUTOMASK_row n (l / 32)] 1
    let s := s.set (FE_AUTOMASK_row n (l / 32)) (Nat.lor (s.get (FE_AUTOMASK_row n (l / 32))) (2 ^ (l % 32)))
    ((s.set (FE_CH_STAT_automasked n l) 1).set (FE_CH_STAT_cause n l) 2).flag (FE_STATUS_automask n) (feSrc n 0)
  else s

/-- AUTOMASK_CLEAR (R143): the named auto-masks end with the next bucket edge and their channels' rate counts restart. -/
def automaskClear (die k mask : Nat) (s : State) : State :=
  let old := s.get (FE_AUTOMASK_row die k)
  let s := (s.keepOld [FE_AUTOMASK_row die k] 1).set (FE_AUTOMASK_row die k) (Nat.xor old (Nat.land old mask))
  s.each ((List.range 32).filter fun r => bit old r && bit mask r) fun s r =>
    let ch := die * 512 + k * 32 + r
    (s.set (FE_CH_STAT_automasked die (k * 32 + r)) 0).setChan ch { s.chan ch with edges := 0 }

/-! ## Configuration (R128, R132, R150) -/

/-- CHANNEL_CONFIG_WRITE (R158): a trim above 1,000 is stored as 1,000 (R128); the mask is in force when the write has
reached the channel (R150). -/
def channelConfigWrite (die l v : Nat) (s : State) : State :=
  let s := s.keepOldFe [FE_CH_CFG_mask die l]
  let s := ((s.set (FE_CH_CFG_inj_set die l) (bits v 23 4)).set (FE_CH_CFG_inj_en die l) (bits v 22 1)).set
    (FE_CH_CFG_mask die l) (bits v 21 1)
  let s := (s.set (FE_CH_CFG_slope die l) (bits v 20 1)).set (FE_CH_CFG_trim die l) (min 1000 (bits v 10 10))
  s.set (FE_CH_CFG_threshold die l) (bits v 0 10)

/-- The FE dies take region `r`'s configuration `w`: channels that go down or whose output is high give no hit for
the pulse under way (R126). -/
def State.loadLatch (s : State) (r w : Nat) : State :=
  let s := { s with latch := Sparse.put 0 r w s.latch }
  s.each (s.chans.filter fun e => regionOf e.1 == r) fun s e =>
    s.setChan e.1 (if s.chUp e.1 then { e.2 with lead := none, tab := none, mute := e.2.high || e.2.recov }
      else { Chan.new with fifo := e.2.fifo, last := e.2.last })

/-! ## Test charge (R144 to R146) -/

/-- A strobe of set `set` at coarse period `coarse` of the current bucket on die `n` (R144 to R146). -/
def State.strobeDie (s : State) (set coarse n : Nat) : State :=
  let d := s.die n
  let soon := match d.strobe with
    | some t => decide (s.clock - t ≤ 1)
    | none => false
  if soon then (s.count (FE_CNT_INJ_ERR_dropped n)).flag (FE_STATUS_inj_dropped n) (feSrc n 5)
  else
    let s := s.setDie n { d with strobe := some s.clock }
    let tick := coarse * 1024 + s.get (FE_INJ_CTRL_fine n)
    let take := (List.range 512).filter fun l =>
      s.on (FE_CH_CFG_inj_en n l) && s.get (FE_CH_CFG_inj_set n l) == set && s.chUp (n * 512 + l)
    s.each take fun s l =>
      let ch := n * 512 + l
      let c := s.chan ch
      let w := InjWin.mk s.mt.orbit s.mt.bucket tick (!c.high && !c.recov) 0 false
      (s.setChan ch { c with inj := some w }).iff (s.counts ch) fun s => s.count (FE_CNT_INJ_WIN_count n)

/-- A test-charge strobe with calendar argument `arg` (R144): dies not in service take none. -/
def State.strobe (s : State) (arg coarse : Nat) : State :=
  s.each ((List.range 3).filter fun n => bit arg n && s.feServed n) (State.strobeDie · (bits arg 4 4) coarse)

/-! ## The encoder (R135) -/

/-- The next hit of die `n`, taken from its derandomisers round robin. -/
def State.nextHit (s : State) (n : Nat) : Option (Nat × Nat × Bool × State) :=
  let full := s.chans.filter fun e => e.1 / 512 == n && e.2.fifo != []
  let after := full.filter fun e => decide ((s.die n).rr < e.1 % 512)
  match (after ++ full).head? with
  | none => none
  | some (ch, c) =>
    match c.fifo with
    | [] => none
    | (o, w, bad) :: rest =>
      some (o, w, bad, (s.setChan ch { c with fifo := rest }).setDie n { s.die n with rr := ch % 512 })

/-! ## The commands -/

def execDiscriminatorLeadingEdge (ch : Nat) (at_ : Stamp) (s : State) :=
  effect (.discriminatorLeadingEdge ch at_) (leadingEdge ch at_) s
def execDiscriminatorTrailingEdge (ch : Nat) (at_ : Stamp) (overload narrow invalid : Bool) (s : State) :=
  effect (.discriminatorTrailingEdge ch at_ overload narrow invalid) (trailingEdge ch at_ overload narrow invalid) s
def execTotOverflow (ch : Nat) (overload invalid : Bool) (s : State) :=
  effectMs (.totOverflow ch overload invalid) (totOverflow ch overload invalid) s
def execRecoveryEnd (ch : Nat) (beyond : Bool) (lost : Nat) (at_ : Stamp) (s : State) :=
  effect (.recoveryEnd ch beyond lost at_) (recoveryEnd ch beyond lost at_) s
def execChannelConfigWrite (die l value : Nat) (s : State) :=
  effect (.channelConfigWrite die l value) (channelConfigWrite die l value) s
def execStuckDetected (ch : Nat) (s : State) := effectMs (.stuckDetected ch) (stuckDetected ch) s
def execRateLimitExceeded (ch : Nat) (s : State) := effectMs (.rateLimitExceeded ch) (rateLimitExceeded ch) s
def execAutomaskClear (die k bits : Nat) (s : State) := effect (.automaskClear die k bits) (automaskClear die k bits) s

end Sys2Proof.Machine
end

