-- ==== Sys2Proof/Machine/Freeze.lean ====
section
/-! DEFINITION. The merge, sealing, mask tests, the freeze and map periods (R192 to R196, R226 to R249, R282 to R287). -/

namespace Sys2Proof.Machine

open Sys2Proof

/-! ## The merge (R192, R195, R196, R207, R208, R138) -/

/-- Bucket `b` is sealed, or lies before the first that can be. -/
def State.isSealed (s : State) (b : Bkt) : Bool :=
  match s.store.lastSealed with
  | some x => !s.before x b
  | none => s.before b (subBkt s.mt.nb s.now 64)

/-- The hit word with the shadow flag where an overload's window reaches it (R138). -/
def shadowed? (nb : Nat) (ov : List Shadow) (orbit w : Nat) : Nat :=
  if ov.any fun o => shadows nb o (hitChan w) (orbit, hitBucket w) (hitToa w) then setFlag w 1 else w

/-- A hit enters the sort buffer: shadows reach it, and an overload hit casts its own (R138, R139). -/
def State.sortIn (s : State) (die orbit w : Nat) : State :=
  let nb := s.mt.nb
  let new : List Shadow :=
    if hitFlag w 0 then
      [⟨hitChan w, orbit, hitBucket w, hitToa w, if hitTot w = 0xFFF then 131072 else hitTot w * 8 + 65536⟩]
    else []
  let sort := s.store.sort ++ [SortHit.mk die orbit (shadowed? nb s.store.shadows orbit w)]
  let mark := shadowed? nb new
  { s with store := { s.store with
    shadows := s.store.shadows ++ new
    sort := if new = [] then sort else sort.map fun h => { h with word := mark h.orbit h.word }
    wq := if new = [] then s.store.wq else s.store.wq.map fun q => { q with hits := q.hits.map (mark q.orbit) } } }

/-- The merge takes a hit for the store (R192, R195, R196, R207, R208, R285). -/
def State.mergeStore (s : State) (die orbit w : Nat) : State :=
  let b : Bkt := (orbit, hitBucket w)
  if s.on CX_HQ_STATUS_flushing then s
  else if s.ringHeld then s.count RC_FREEZE_LOST_count
  else if s.validFrom.isSome && !s.fromValid b then s.count CX_MERGE_LATE_early
  else if s.isSealed b then (s.count CX_MERGE_LATE_late).flag CX_HQ_STATUS_late 64
  else if 16384 ≤ s.sortCount then
    let k := s.slot b
    let s := { s with store := { s.store with
      sortDrop := Sparse.put 0 k (Sparse.get 0 k s.store.sortDrop + 1) s.store.sortDrop } }
    (s.count CX_HQ_DROP_sort).flag CX_HQ_STATUS_sort_full 65
  else s.sortIn die orbit w

/-! ## Mask tests (R282, R283) -/

/-- What the tests of region `r` find over the stored hits of a bucket: time, rate, TOT; and its rate window. -/
def State.maskTest (s : State) (r : Nat) (b : Bkt) (hits : List Nat) : Bool × Bool × Bool × Option RateWin :=
  if s.bypassed (fMask r) then (false, false, false, none)
  else
    let w := s.rd (fMask r)
    let mine := hits.filter fun h => regionOf (hitChan h) == r && Nat.land (bits (w 3) 8 8) (h % 256) == 0
    let tlim := bits (w 0) 32 8
    let time := tlim != 0 && decide (tlim ≤ (mine.filter fun h => bit (w 0) (hitToa h / 1024)).length)
    let totlim := bits (w 2) 24 8
    let tot := totlim != 0 && decide (totlim ≤ (mine.filter fun h =>
      decide (bits (w 2) 12 12 < hitTot h) || decide (hitTot h < bits (w 2) 0 12)).length)
    let rlim := bits (w 1) 0 16
    if rlim = 0 || !s.fromValid b then (time, false, tot, none)
    else
      let old := Sparse.get ⟨0, 0⟩ r s.rc.rates
      let win : RateWin := ⟨old.n + 1, old.hits + mine.length⟩
      if 2 ^ bits (w 1) 16 4 ≤ win.n then (time, decide (rlim < win.hits), tot, none)
      else (time, false, tot, some win)

/-- The freeze is triggered with `cause` of region `r` on bucket `b` (R284 step 2). -/
def State.freezeTrigger (s : State) (cause r : Nat) (b : Bkt) : State :=
  let s := (s.set RC_FREEZE_STATUS_state 2).set RC_FREEZE_STATUS_cause cause
  let s := ((s.set RC_FREEZE_STATUS_region r).set RC_FREEZE_STATUS_bucket b.2).set RC_FREEZE_ORBIT_orbit b.1
  let s := { s with rc := { s.rc with stopAt := s.clockAt b + s.get RC_FREEZE_CTRL_post + 65 } }
  (s.set RC_FREEZE_CTRL_arm 0).raise 103

/-- A violation is counted and may trigger an armed freeze. -/
def State.violate (s : State) (cnt : Fld) (freeze : Bool) (cause r : Nat) (b : Bkt) : State :=
  let s := (s.count cnt).flag RC_STATUS_mask_viol 101
  if freeze && s.get RC_FREEZE_STATUS_state == 1 then s.freezeTrigger cause r b else s

/-- The tests of bucket `b` at its sealing, regions ascending, time before rate before TOT (R283, R284). -/
def State.maskTests (s : State) (b : Bkt) (hits : List Nat) : State :=
  s.each (List.range 96) fun s r =>
    let (time, rate, tot, win) := s.maskTest r b hits
    let frz := s.rd (fMask r) 3
    let s := { s with rc := { s.rc with rates := match win with
      | some w => Sparse.insert r w s.rc.rates
      | none => Sparse.erase r s.rc.rates } }
    let s := s.iff time fun s => s.violate RC_CNT_MASK_TIME_count (bit frz 0) 1 r b
    let s := s.iff rate fun s => s.violate RC_CNT_MASK_RATE_count (bit frz 1) 2 r b
    s.iff tot fun s => s.violate RC_CNT_MASK_TOT_count (bit frz 2) 3 r b

/-! ## Sealing (R194) -/

/-- CX_MERGE_STALL field of a die. -/
def stallFld (n : Nat) : Fld :=
  match n with
  | 0 => CX_MERGE_STALL_fe0
  | 1 => CX_MERGE_STALL_fe1
  | _ => CX_MERGE_STALL_fe2

/-- Dies absent for bucket `b`, one bit each (R194, R198): a marker tells a valid bucket only of a die whose servo was
locked in it (R163). -/
def State.absentMask (s : State) (b : Bkt) (markers : List Marker) : Nat :=
  let k := s.clockAt b
  (List.range 3).foldl (fun v n =>
    v + b2n (s.feOutAt n b || markers.getD n .missing != .valid || s.unlockedIn n k k) * 2 ^ n) 0

/-- BUCKET_SEAL (R194): the bucket opened 64 bk ago is sealed with what the dies' markers said of it. Nothing is
sealed while the domain stands still or the ring is stopped, nor after b_F + P of a triggered freeze (R284); a flush does
not hold the schedule up. -/
def bucketSeal (markers : List Marker) (s : State) : State :=
  let b := subBkt s.mt.nb s.now 64
  let again := match s.store.lastSealed with
    | some x => !s.before x b
    | none => false
  if !s.mt.running || s.ringHeld || again then s
  else
    let s := s.each (List.range 3) fun s n =>
      s.iff (!s.feOutAt n b && markers.getD n .missing == .missing) fun s => s.count (stallFld n)
    let (s, stored) := s.sealBucket b (s.absentMask b markers)
    let s := if stored = [] then s.pinSealed b else s
    (s.maskTests b stored).depthUpdate

/-! ## The freeze (R284, R285, R287) -/

/-- FREEZE_ARM (R284). -/
def freezeArm (post : Nat) (s : State) : State :=
  let s := s.set RC_FREEZE_CTRL_post post
  if s.get RC_FREEZE_STATUS_state ≤ 1 then (s.set RC_FREEZE_CTRL_arm 1).set RC_FREEZE_STATUS_state 1 else s

/-- FREEZE_DISARM (R284). -/
def freezeDisarm (post : Nat) (s : State) : State :=
  let s := (s.set RC_FREEZE_CTRL_post post).set RC_FREEZE_CTRL_arm 0
  if s.get RC_FREEZE_STATUS_state = 1 then s.set RC_FREEZE_STATUS_state 0 else s

/-- FREEZE_FORCE (R284): the last sealed bucket is b_F. -/
def freezeForce (s : State) : State :=
  if s.get RC_FREEZE_STATUS_state ≤ 1 then
    s.freezeTrigger 4 0 (s.store.lastSealed.getD (subBkt s.mt.nb s.now 64))
  else s

/-- RING_STOP (R284 step 4, R285), at the edge that opens b_F + P + 65: buffered hits of buckets never to be sealed are
discarded, open records end. -/
def ringStop (s : State) : State :=
  if s.stopCome then
    let s := s.count RC_FREEZE_LOST_count s.store.sort.length
    let s := { s with store := { s.store with stopped := true, sort := [], sortDrop := [], shadows := [] } }
    let stop := fun r : Rec => { r with frozen := true, endAt := some (min (r.endAt.getD r.len) (s.unsealedFrom r)) }
    let s := { s with rc := { s.rc with recs := s.rc.recs.map stop } }
    ((s.set RC_FREEZE_STATUS_state 3).raise 102).busyEval
  else s

/-- FLUSH_DONE (R207, R287): the store is ready, a freeze under way ends, patrol of the flushed memories begins
(R404). -/
def flushDone (s : State) : State :=
  if s.on CX_HQ_STATUS_flushing then
    let s := s.flushEnd
    let s := if 2 ≤ s.get RC_FREEZE_STATUS_state then
        (s.set RC_FREEZE_STATUS_state 0).set RC_FREEZE_LOST_count 0
      else s
    let s := { s with prot := { s.prot with
      started := [memHs0, memHs1, memDesc, memLink, memCtx, memFbuf, memQueues].foldl
        (fun v m => Nat.lor v (2 ^ m)) s.prot.started } }
    s.busyEval
  else s

/-! ## Map periods (R239 to R249) -/

/-- The chasers take their transitions for period `p`, over the out bits of the period before; answers the openings as
(chaser, class) (R239). -/
def State.chasersRun (s : State) (p : Bkt) : State × List (Nat × Nat) :=
  let all := List.range 32
  let runs := all.filter s.chaserRuns
  let before := all.map fun c => s.get (TG_CHSTAT_out c)
  let outs := fun c => before.getD c 0
  let s := s.each (all.filter fun c => !s.chaserRuns c) fun s c =>
    (s.set (TG_CHSTAT_state c) 0).set (TG_CHSTAT_out c) 0
  let s := s.each runs fun s c => (s.timerTick c 0).timerTick c 1
  let picks := runs.map fun c => (c, s.chaserPick p outs c)
  let opens := picks.filterMap fun x => match x.2 with
    | some t => if cdOpen (chCond s.rd x.1 t) then some (x.1, cdClass (chCond s.rd x.1 t)) else none
    | none => none
  (s.each picks fun s x => s.chaserTake x.1 x.2, opens)

/-- Lane `n` carries test words in period `p` (R248): it is selected and its role is trigger primitive. -/
def State.testLane (s : State) (p : Bkt) (n : Nat) : Bool :=
  let v := s.asOf (s.clockAt p)
  (v TG_TEST_CTRL_mode == 1 || v TG_TEST_CTRL_mode == 2) && lrRole s.shadowRd n == 2 &&
    (if n < 32 then bit (v TG_TEST_LANES_LO_lanes) n else bit (v TG_TEST_LANES_HI_lanes) (n - 32))

/-- The test word of a slot owned by chaser `c`, 0 for none (R248). -/
def State.testWord (s : State) (p : Bkt) (c : Nat) : Nat :=
  let v := s.asOf (s.clockAt p)
  let payload := if v TG_TEST_CTRL_mode = 1 then v TG_TEST_CTRL_word else (p.1 * s.mt.nb + p.2) % 2 ^ 24
  2 ^ 31 + b2n (s.periodHeld p) * 2 ^ 30 + 2 ^ 29 + c * 2 ^ 24 + payload

/-- The buckets that map period `p` touches (R226). -/
def State.periodBkts (s : State) (p : Bkt) : List Bkt :=
  if s.get TG_PATH_close = 31 then [p] else [p, subBkt s.mt.nb p 1]

/-- The chasers stop sending: their slots carry 0 until a period is evaluated again (R241). -/
def State.quietWords (s : State) : State :=
  { s with tg := { s.tg with words := s.tg.words.filter fun e => s.testLane s.tg.period (e.1 / 32) } }

/-- The primitive words of period `p` (R241, R242, R248, R249); `absent` are the dies with an absent bucket. -/
def State.formWords (s : State) (p : Bkt) (eval : Bool) (absent : Nat) : State :=
  let touched := s.periodBkts p
  let dieBad := (List.range 3).any fun n => bit absent n && !touched.any (s.feOutAt n)
  let senders := if eval then (List.range 32).filter s.sends else []
  let laneOf := fun c => s.effLane (chLane s.rd c)
  let slotOf := fun c => 32 * laneOf c + chSlot s.rd c
  let bad := fun c => dieBad || (chaserUnits s.rd c).any fun u => touched.any (fun b => s.wasBypassed u b b)
  let words := senders.filter (fun c => !s.testLane p (laneOf c))
    |>.map fun c => (slotOf c, s.primWord p (bad c) c, bad c)
  let owner := fun k => match ((List.range 32).filter s.sends).find? fun c => slotOf c == k with
    | some c => c
    | none => 0
  let tests := ((List.range 48).filter (s.testLane p)).flatMap fun n =>
    (List.range (slotsOf s.shadowRd n)).map fun j => (32 * n + j, s.testWord p (owner (32 * n + j)))
  let hidden := senders.any fun c => s.testLane p (laneOf c) && s.get (TG_CHSTAT_out c) != 0
  let map := (words.map (fun x => (x.1, x.2.1)) ++ tests).foldl (fun m x => Sparse.put 0 x.1 x.2 m) []
  let s := { s with tg := { s.tg with words := map, period := p } }
  let s := s.each (words.filter fun x => x.2.2) fun s _ => (s.count TG_CNT_INVALID_count).flag TG_STATUS_invalid 81
  s.iff hidden fun s => (s.count TG_CNT_TEST_HIDDEN_count).flag TG_STATUS_test_hidden 85

/-- MAP_PERIOD_CLOSE (R239): the period named by `orbit`, `bucket` is evaluated after the deadline of R227; `absent`
are the dies absent for a bucket it touches, `bad` the plate words whose read fails (R82). -/
def mapPeriodClose (orbit bucket absent : Nat) (bad : List Nat) (s : State) : State :=
  if !s.mt.running then s
  else
    let p : Bkt := (orbit, bucket)
    let s := s.each bad State.plateReadBad
    let eval := s.evaluates p
    let (s, opens) := if eval then s.chasersRun p else (s, [])
    let s := s.iff s.stage6Out fun s => s.each (List.range 32) fun s c =>
      (s.set (TG_CHSTAT_state c) 0).set (TG_CHSTAT_out c) 0
    let s := s.each opens fun s o => s.openRecord p o.1 o.2
    let s := s.formWords p eval absent
    { s with tg := { s.tg with maps := s.tg.maps.filter fun m => s.before p (m.orbit, m.bucket) } }

/-- CHASER_TIMER_EXPIRY (R239 step 1): a running timer of chaser `c` reaches 0 at the close of a map period.
No chaser is evaluated while acquisition is stopped, disabled or by-passed (R240). -/
def chaserTimerExpiry (c t : Nat) (s : State) : State :=
  if s.timer c t = 1 ∧ s.acq ∧ s.stage6Out = false ∧ s.chaserRuns c then s.timerTick c t else s

/-! ## The commands -/

def execBucketSeal (markers : List Marker) (s : State) := effect (.bucketSeal markers) (bucketSeal markers) s
def execFreezeArm (post : Nat) (s : State) := effect (.freezeArm post) (freezeArm post) s
def execFreezeDisarm (post : Nat) (s : State) := effect (.freezeDisarm post) (freezeDisarm post) s
def execFreezeForce (s : State) := effect .freezeForce freezeForce s
def execRingStop (s : State) := effectMs .ringStop ringStop s
def execFlushDone (s : State) := effectMs .flushDone flushDone s
def execMapPeriodClose (orbit bucket absent : Nat) (bad : List Nat) (s : State) :=
  effect (.mapPeriodClose orbit bucket absent bad) (mapPeriodClose orbit bucket absent bad) s
def execChaserTimerExpiry (c t : Nat) (s : State) := effectMs (.chaserTimerExpiry c t) (chaserTimerExpiry c t) s

end Sys2Proof.Machine
end

