-- ==== Sys2Proof/Machine/HkQueue.lean ====
section
/-! DEFINITION. The injected conversions of the housekeeping ADC (R509, R512): here because the calendar requests
them. -/

namespace Sys2Proof.Machine

open Sys2Proof

def State.setHk (s : State) (h : Hk) : State :=
  State.set { s with mg := { s.mg with hk := h } } HK_STATUS_inj_q h.queue.length

/-- A conversion begins: the reference is ready, or the result will carry nr (R509). -/
def State.hkBegin (s : State) : State := s.setHk { s.mg.hk with nr := !s.on HK_STATUS_ref_ready }

/-- What the ADC converts: an injected request, or none and the current slot (R512, R514). -/
inductive HkNow where
  | idle
  | inj (r : HkReq)
  | slot (input : Nat)
  deriving DecidableEq, Repr

/-- The conversion under way. -/
def State.hkNow (s : State) : HkNow :=
  let h := s.mg.hk
  match h.phase, h.queue, h.seq with
  | 2, _, _ => .idle
  | 1, r :: _, _ => if r.marked then .inj r else .idle
  | 1, [], _ => .idle
  | _, r :: _, _ => .inj r
  | _, [], i :: _ => .slot i
  | _, [], [] => .idle

/-- An injected conversion is requested; a running regular conversion is aborted (R512). -/
def State.hkRequest (s : State) (input : Nat) (cal : Bool) : State :=
  let h := s.mg.hk
  if 4 ≤ h.queue.length then (s.count HK_CNT_dropped).flag HK_STATUS_inj_drop 185
  else
    let s' := (s.setHk { h with queue := h.queue ++ [⟨input % 64, cal, false⟩] }).assayCheck
    match s.hkNow with
    | .slot _ => (s'.setHk { s'.mg.hk with restarted := true }).hkBegin
    | .idle => if h.phase = 0 then s'.hkBegin else s'
    | .inj _ => s'

end Sys2Proof.Machine
end

