-- ==== Sys2Proof/Machine/Tdc.lean ====
section
/-! DEFINITION. The delay-lock servo, code-density calibration and bin tables (R163 to R165, R177 to R180). -/

namespace Sys2Proof.Machine

open Sys2Proof

/-! ## The servo (R164) -/

/-- The servo of die `n` leaves locked: the current bucket is invalid. Runs that ended long ago are forgotten (R163). -/
def State.unlock (s : State) (n to_ : Nat) : State :=
  if s.locked n then
    let d := s.die n
    let old := d.unl.filter fun e => (match e.2 with
      | none => true
      | some x => decide (s.clock ≤ x + 65536))
    let s := s.setDie n { d with unl := (s.clock, none) :: old }
    ((s.set (FE_TDC_STATUS_unlock n) 1).set (FE_TDC_STATUS_state n) to_).raise (feSrc n 6)
  else s.set (FE_TDC_STATUS_state n) to_

/-- The servo of die `n` is locked from the current bucket on (R163). -/
def State.lockDie (s : State) (n : Nat) : State :=
  let d := s.die n
  let s := s.setDie n { d with unl := match d.unl with
    | (a, none) :: es => if a < s.clock then (a, some (s.clock - 1)) :: es else es
    | es => es }
  (s.set (FE_TDC_STATUS_state n) 2).raise (feSrc n 7)

/-- COARSE_PLL_LOCK: from off to acquiring. -/
def coarsePllLock (die : Nat) (s : State) : State :=
  if s.feRuns die && s.mt.running && s.get (FE_TDC_STATUS_state die) == 0 then s.set (FE_TDC_STATUS_state die) 1 else s

/-- COARSE_PLL_LOSS: any state to off. -/
def coarsePllLoss (die : Nat) (s : State) : State := s.unlock die 0

/-- DLL_LOCK: 64 consecutive buckets within ±4 ticks; the current bucket is the first valid one, and high channels
resume in it as started-high (R173). -/
def dllLock (die : Nat) (s : State) : State :=
  if s.get (FE_TDC_STATUS_state die) = 1 then
    (s.lockDie die).resumeHigh (fun ch => ch / 512 == die) true
  else s

/-- DLL_UNLOCK: the error exceeds 8 ticks in 4 consecutive buckets. -/
def dllUnlock (die : Nat) (s : State) : State := if s.locked die then s.unlock die 1 else s

/-- RELOCK: FE_TDC_CTRL.relock is written 1. -/
def relock (die : Nat) (s : State) : State := if s.locked die then s.unlock die 1 else s

/-- Every servo goes off when the machine-synchronous domain stops. -/
def State.servosOff (s : State) : State := s.each (List.range 3) fun s n => s.unlock n 0

/-! ## Code-density calibration (R177 to R179) -/

/-- Stamps that end an accumulation (R177). -/
def cdStamps : Nat := 262144

/-- The stamps of the slowest channel; progress shows them in units of 256 (R189). -/
def State.cdTake (s : State) (n v : Nat) : State :=
  (s.setDie n { s.die n with stamps := v }).set (FE_CD_COL_progress n (s.get (FE_CD_STATUS_column n))) (v / 256)

/-- A slice request or a full-run write is refused (R178, R179). -/
def State.cdRefuse (s : State) (n : Nat) (slice : Bool) : State :=
  let s := s.count (FE_CD_STATUS_refused n)
  if slice && !(s.die n).refRaised then (s.setDie n { s.die n with refRaised := true }).raise (feSrc n 10) else s

/-- CD_FULL_RUN (R178). A full write while a run is under way leaves it running (DEDUCED: the write is accepted only
while acquisition is stopped, and the run it asks for is the one under way). -/
def cdFullRun (die : Nat) (s : State) : State :=
  if !s.feRuns die then s
  else if s.acq then s.cdRefuse die false
  else if s.get (FE_CD_STATUS_state die) = 3 then s
  else
    let s := s.cdTake die 0
    ((s.set (FE_CD_STATUS_state die) 3).set (FE_CD_STATUS_column die) 0).cdTake die 0

/-- The die whose tables wait for a bucket edge. -/
def EdgeAct.tablesOf : EdgeAct → Option Nat
  | .tables n _ => some n
  | _ => none

/-- CD_ABORT (R186): tables of a full run that wait for the edge are discarded with it. -/
def cdAbort (die : Nat) (s : State) : State :=
  let st := s.get (FE_CD_STATUS_state die)
  if st = 1 ∨ st = 3 then
    let s := { s with mt := { s.mt with edge := s.mt.edge.filter fun a => a.tablesOf != some die } }
    (s.cdTake die 0).set (FE_CD_STATUS_state die) 0
  else s

/-- A die accepts a slice for local column `col` (R178, R179). -/
def State.cdAccepts (s : State) (n col : Nat) : Bool :=
  let st := s.get (FE_CD_STATUS_state n)
  st == 0 || (st != 3 && s.get (FE_CD_STATUS_column n) == col)

/-- A slice of local column `col` begins on die `n` (R179). -/
def State.cdSliceStart (s : State) (n col : Nat) : State :=
  let s := s.setDie n { s.die n with slice := true, sliceAt := s.clock }
  if s.get (FE_CD_STATUS_state n) = 0 then
    ((s.set (FE_CD_STATUS_state n) 1).set (FE_CD_STATUS_column n) col).cdTake n 0
  else s

/-- CD_SLICE_END (R179), at the edge after the slice: its stamps count unless a bucket was invalid, because the servo was
not locked in it or its phase error lay out of bounds, and the column's timing resumes. -/
def cdSliceEnd (die stamps : Nat) (invalid : Bool) (s : State) : State :=
  if !(s.die die).slice then s
  else
    let col := s.get (FE_CD_STATUS_column die)
    let at_ := (s.die die).sliceAt
    let bad := invalid || !s.locked die && s.clock == at_ || decide (at_ < s.clock) && s.unlockedIn die at_ (s.clock - 1)
    let s := s.setDie die { s.die die with slice := false }
    let s := s.iff (s.activity == some 4) fun s => { s with activity := none }
    let s :=
      if bad then s.count (FE_CD_STATUS_discarded die)
      else if s.get (FE_CD_STATUS_state die) = 1 then
        let v := min cdStamps ((s.die die).stamps + stamps)
        (s.cdTake die v).iff (v == cdStamps) fun s => s.set (FE_CD_STATUS_state die) 2
      else s
    s.resumeHigh (fun ch => ch / 512 == die && ch % 512 / 32 == col) false

/-- A table is rejected: some bin holds 0 stamps, or more than 1,024 (R177). -/
def cdRejected (h : List Nat) : Bool := h.any fun n => n == 0 || decide (1024 < n)

/-- The table of a histogram: (2·C_r + n_r + 16) ÷ 32, rounded down (R177). -/
def cdTable : Nat → List Nat → List Nat
  | _, [] => []
  | c, n :: hs => (2 * c + n + 16) / 32 :: cdTable (c + n) hs

/-- A table becomes the channel's (R166). -/
def State.putTable (s : State) (ch : Nat) (t : List Nat) : State :=
  s.each (List.range 512) fun s j =>
    (s.set (FE_BIN_even (ch / 512) (ch % 512) j) (t.getD (2 * j) 0)).set (FE_BIN_odd (ch / 512) (ch % 512) j)
      (t.getD (2 * j + 1) 0)

/-- The powered channels of a column of die `n`, by row: those that are calibrated (R176 text, R126). -/
def State.cdRows (s : State) (n col : Nat) : List Nat := (List.range 32).filter fun r => s.chUp (n * 512 + col * 32 + r)

/-- The tables computed from the stamps `hist` of the column under calibration are checked and installed, and FE_CD_COL,
FE_CD_FAIL and the events follow (R170, R177 to R179). -/
def State.swapTables (s : State) (die : Nat) (hist : List (List Nat)) : State :=
  let st := s.get (FE_CD_STATUS_state die)
  if st ≠ 2 ∧ st ≠ 3 then s
  else
    let col := s.get (FE_CD_STATUS_column die)
    let chOf := fun r : Nat => die * 512 + col * 32 + r
    let done := s.cdRows die col
    let bad := done.filter fun r => cdRejected (hist.getD r [])
    let good := done.filter fun r => !cdRejected (hist.getD r [])
    let fails := (List.range 32).foldl (fun v r =>
      v + b2n (bad.contains r || (bit (s.get (FE_CD_FAIL_row die col)) r && !good.contains r)) * 2 ^ r) 0
    let s := s.keepTables fun ch => ch / 512 == die && ch % 512 / 32 == col
    let s := s.each good fun s r => s.putTable (chOf r) (cdTable 0 (hist.getD r []))
    let s := (s.set (FE_CD_FAIL_row die col) fails).set (FE_CD_COL_fail die col) (b2n (bad != []))
    let s := s.iff (good != []) fun s =>
      ((s.set (FE_CD_COL_valid die col) 1).set (FE_CD_COL_age die col) 0).raise (feSrc die 8)
    let s := s.iff (bad != []) fun s => (s.set (FE_TDC_STATUS_cd_fail die) 1).raise (feSrc die 9)
    let s := s.cdTake die 0
    if st = 3 ∧ col < 15 then s.set (FE_CD_STATUS_column die) (col + 1) else s.set (FE_CD_STATUS_state die) 0

/-- CD_TABLES_COMPUTED (R177 to R179): every channel calibrated has taken exactly 262,144 stamps, and the column's tables
are installed at the next bucket edge. -/
def cdTablesComputed (die : Nat) (hist : List (List Nat)) (s : State) : State :=
  let st := s.get (FE_CD_STATUS_state die)
  let full := (s.cdRows die (s.get (FE_CD_STATUS_column die))).all fun r => (hist.getD r []).sum == cdStamps
  let waits := s.mt.edge.any fun a => a.tablesOf == some die
  if (st = 2 ∨ st = 3) ∧ full ∧ !waits then s.atEdge (.tables die hist) (State.swapTables · die hist) else s

/-- BIN_TABLE_WRITE (R180, R190). -/
def binTableWrite (die l j v : Nat) (s : State) : State :=
  if s.acq || s.get (FE_CD_STATUS_state die) == 3 then s.set (FE_TDC_STATUS_tbl_wr_refused die) 1
  else
    let s := s.keepTables fun ch => ch == die * 512 + l
    ((s.set (FE_BIN_even die l j) (bits v 0 14)).set (FE_BIN_odd die l j) (bits v 16 14)).set
      (FE_CD_COL_valid die (l / 32)) 1

/-! ## The commands -/

def execCoarsePllLock (die : Nat) (s : State) := effect (.coarsePllLock die) (coarsePllLock die) s
def execCoarsePllLoss (die : Nat) (s : State) := effect (.coarsePllLoss die) (coarsePllLoss die) s
def execDllLock (die : Nat) (s : State) := effect (.dllLock die) (dllLock die) s
def execDllUnlock (die : Nat) (s : State) := effect (.dllUnlock die) (dllUnlock die) s
def execRelock (die : Nat) (s : State) := effect (.relock die) (relock die) s
def execCdFullRun (die : Nat) (s : State) := effect (.cdFullRun die) (cdFullRun die) s
def execCdAbort (die : Nat) (s : State) := effect (.cdAbort die) (cdAbort die) s
def execCdSliceEnd (die stamps : Nat) (invalid : Bool) (s : State) :=
  effect (.cdSliceEnd die stamps invalid) (cdSliceEnd die stamps invalid) s
def execCdTablesComputed (die : Nat) (hist : List (List Nat)) (s : State) :=
  effect (.cdTablesComputed die hist) (cdTablesComputed die hist) s
def execBinTableWrite (die l j value : Nat) (s : State) :=
  effect (.binTableWrite die l j value) (binTableWrite die l j value) s

end Sys2Proof.Machine
end

