-- ==== Sys2Proof/Machine/Calendar.lean ====
section
/-! DEFINITION. Machine time passing, what waits for its edges, and the calendar that fires as it passes (R90, R96,
R101, R106, R116 to R120). -/

namespace Sys2Proof.Machine

open Sys2Proof

/-! ## Buckets and their edges (R90, R96, R106) -/

/-- What `n` buckets of slew leave of the offset, and what they leave over of a tick: each removes rate × 0.1 ppm of a
bucket, so rate × 32,768 parts of 10^7 of a tick (R106, R107; DEDUCED: the largest rate is the rate used). -/
def State.slewBy (s : State) (n : Nat) : Int × Nat :=
  let acc := s.mt.slewAcc + n * (32768 * s.get CX_MT_SLEW_rate)
  let k := acc / 10 ^ 7
  let left := s.mt.offset.natAbs - k
  (if 0 ≤ s.mt.offset then (left : Int) else -(left : Int), acc % 10 ^ 7)

/-- MT is `n` buckets on within the orbit. In slew each bucket removes its part of the offset, which CX_MT_OFFSET
shows (R106). -/
def State.jump (s : State) (n : Nat) : State :=
  if n = 0 then s
  else
    let s := { s with
      clock := s.clock + n
      mt := { s.mt with bucket := s.mt.bucket + n, orbitOut := false, tick := 0, fired := [] } }
    if s.get CX_MT_STATUS_state = 3 then
      let (o, acc) := s.slewBy n
      State.set { s with mt := { s.mt with offset := o, slewAcc := acc } } CX_MT_OFFSET_ticks (unsigned 32 o)
    else s

/-- The machine-synchronous domain stands still from this edge on (R101): map periods under way never close, and no words
are sent (R229, R241). -/
def State.domainStops (s : State) : State :=
  let s := State.servosOff { s with mt := { s.mt with running := false, orbitOut := false } }
  State.quietWords { s with tg := { s.tg with maps := [] } }

/-! ## Region loops that open, and a tile that is gone (R471, R484, R485) -/

/-- The region loop `r` beside its registers. -/
def State.rloop (s : State) (r : Nat) : RLoop := Sparse.get RLoop.new r s.tile.loops

def State.setRloop (s : State) (r : Nat) (l : RLoop) : State :=
  { s with tile := { s.tile with loops := Sparse.put RLoop.new r l s.tile.loops } }

/-- Loop `r` opens: its trims stay, an injection on it stops (R484, R427). -/
def State.loopOpen (s : State) (r : Nat) : State :=
  let s := s.set (CX_LE_LOOP_en r) 0
  s.iff ((s.engine 2).loop == r) fun s => s.injAbort 2

/-- A fault opens loop `r` where it is closed (R485). -/
def State.loopFault (s : State) (r cause : Nat) : State :=
  if s.on (CX_LE_LOOP_en r) then
    let s := (s.loopOpen r).set (CX_LE_LOOPSTAT_cause r) cause
    (s.set (if cause = 3 then CX_LE_STATUS_parity else CX_LE_STATUS_loop_fault) 1).raise 165
  else s

/-- A fault opens every loop (R485). -/
def State.loopFaultAll (s : State) (cause : Nat) : State := s.each (List.range 96) fun s r => s.loopFault r cause

/-- The transaction ends, or is refused, with a state of 3 to 5. -/
def State.i2cError (s : State) (state : Nat) : State :=
  (s.set CX_TILE_I2C_CTRL_state state).flag CX_TILE_STATUS_i2c_err 164

/-- What the removal of a tile does (R471). A tile seated again before the edge has begun its own identification. -/
def State.tileGone (s : State) : State :=
  let s := (s.each ((List.range 3).filter s.feRuns) fun s n =>
    (s.keepOldFe [FE_CTRL_die_mask n]).set (FE_CTRL_die_mask n) 1).loopFaultAll 5
  let s := s.iff (s.get CX_TILE_I2C_CTRL_state == 1) fun s => s.i2cError 5
  s.iff (!s.on CX_TILE_STATUS_present) fun s => s.set CX_TILE_STATUS_id_state 0

/-- What waited for a bucket edge takes effect at it. -/
def State.edgeAct (s : State) (a : EdgeAct) : State :=
  match a with
  | .stop => s.domainStops
  | .flush => s.flushBegin
  | .retire => s.retireBanks
  | .join k => s.bankJoins k
  | .tables n h => s.swapTables n h
  | .swap => s.histClearing
  | .tileGone => s.tileGone

/-- A bucket edge: what waits for it takes effect, in the order it came. -/
def State.edgeActs (s : State) : State :=
  State.each { s with mt := { s.mt with edge := [] } } s.mt.edge State.edgeAct

/-- The domain stops at the next bucket edge. -/
def State.stopDue (s : State) : Bool := s.mt.edge.contains .stop

/-- MT enters bucket `b` of this orbit, a later one: what waits takes effect at the first edge. -/
def State.moveTo (s : State) (b : Nat) : State :=
  if b ≤ s.mt.bucket then s
  else
    let s := ((s.takeArrived s.tg.arrived.length).jump 1).edgeActs
    s.jump (b - s.mt.bucket)

/-! ## Missed firings (R116, R120) -/

/-- `n` firings are missed, the first of them of entry `e`. -/
def State.miss (s : State) (n e : Nat) : State :=
  if n = 0 then s
  else
    let s := s.count CX_CAL_EN_missed n
    if s.mt.missedRaised then s
    else State.raise { s with mt := { s.mt with missedRaised := true } } 55 e

/-- A field of the calendar (R116, R119). -/
def calKey (k : Nat) : Bool :=
  k == CX_CAL_EN_enable.key || (decide ((CX_CAL_CTRL_enable 0).addr ≤ k / 32) && decide (k / 32 ≤ (CX_CAL_OVAL_value 255).addr))

/-! ## Which entries fire (R116, R118) -/

/-- An MT load places a number within the orbit (R103): in hold with an offset beyond half an orbit, the bucket of the
local MT in which the next orbit marker of the returned source arrives, and how far into it, in ticks. DEDUCED: the
marker comes where the local MT and the offset make up whole orbits. -/
def State.markerAt (s : State) : Option (Nat × Nat) :=
  if s.mt.held && s.get CX_MT_STATUS_state == 2 && s.on CX_MT_STATUS_unresolved then
    let l := (-s.mt.offset).emod ((s.mt.nb * 32768 : Nat) : Int)
    some (l.toNat / 32768, l.toNat % 32768)
  else none

/-- The bucket number at which the current numbering ends: N_B, or the bucket of such a load if it is still to come. -/
def State.numEnd (s : State) : Nat :=
  match s.markerAt with
  | some (k, _) => if s.mt.bucket < k then k else s.mt.nb
  | none => s.mt.nb

/-- Field `f` of the calendar as evaluated for bucket `b` of this orbit, not passed yet (R118). -/
def State.calAt (s : State) (b : Nat) (f : Fld) : Nat := s.asOf (s.clock + (b - s.mt.bucket)) f

/-- Entry `e` is to fire at bucket `b` of this orbit, the current or a later one (R116, R118). -/
def State.calHits (s : State) (e b : Nat) : Bool :=
  let v := s.calAt b
  let m := v (CX_CAL_OMASK_mask e)
  decide (s.mt.bucket ≤ b) && decide (b < s.numEnd) && v CX_CAL_EN_enable != 0 && v (CX_CAL_CTRL_enable e) != 0 &&
    v (CX_CAL_TIME_bucket e) == b && Nat.land s.mt.orbit m == Nat.land (v (CX_CAL_OVAL_value e)) m &&
    !(b == s.mt.bucket && s.mt.fired.contains e)

/-- Where entry `e` can fire before machine time passes an orbit start: in the current bucket and the next, evaluated
already, and in a later one by the registers as they stand. Before a stop only the current bucket is left. -/
def State.calAhead (s : State) (e : Nat) : List Nat :=
  let t := s.get (CX_CAL_TIME_bucket e)
  let b := s.mt.bucket
  (if s.stopDue then [b] else if t ≤ b + 1 then [b, b + 1] else [b, b + 1, t]).filter (s.calHits e)

/-- Field `f` of the calendar is set, or a written 0 of it is still to come into force. -/
def State.calMay (s : State) (f : Fld) : Bool := s.on f || s.was.any fun w => w.key == f.key

/-- The firings from now on up to bucket `hi` of this orbit, as 256 × bucket + entry: earlier buckets first, lower
entries first within one (R118). -/
def State.calDue (s : State) (hi : Nat) : List Nat :=
  if s.mt.running && s.calMay CX_CAL_EN_enable then
    let es := (List.range 256).filter fun e => s.calMay (CX_CAL_CTRL_enable e)
    ((es.flatMap fun e => ((s.calAhead e).filter fun b => decide (b ≤ hi)).map fun b => b * 256 + e).foldl
      (fun l k => Sparse.insert k () l) []).map (·.1)
  else []

/-! ## What a firing does (R117) -/

/-- Action 3: an injection of the loop that the argument names, or a miss (R426). -/
def State.calInject (s : State) (e a : Nat) : State :=
  let loop := bits a 7 7
  match bits a 14 2 with
  | 0 => s.injRequest 0 0
  | 1 => s.injRequest 1 0
  | 2 => if loop < 96 then s.injRequest 2 loop else s.miss 1 e
  | _ => s.miss 1 e

/-- Action 4 makes a burnish window due (R408). -/
def State.calBurnish (s : State) (a : Nat) : State :=
  if a % 4096 = 0 then s else { s with dueBurnish := s.dueBurnish ++ [a % 4096] }

/-- Action 8: a slice becomes due, or is refused or discarded (R179). -/
def State.calRefresh (s : State) (e a : Nat) : State :=
  let col := a % 64
  let n := col / 16
  if 48 ≤ col then s.miss 1 e
  else if !s.feServed n then s
  else if !s.cdAccepts n (col % 16) then s.cdRefuse n true
  else if s.dueCd.contains (n, col % 16) then s
  else { s with dueCd := s.dueCd ++ [(n, col % 16)] }

/-- Entry `e` acts with its action, argument and coarse period (R117). -/
def State.calAct (s : State) (e act a coarse : Nat) : State :=
  match act with
  | 0 => s
  | 1 => s.strobe a coarse
  | 2 => s.hkRequest (a % 64) true
  | 3 => s.calInject e a
  | 4 => s.calBurnish a
  | 5 => if s.on SV_ARB_STATUS_sched then { s with dueSwap := true } else s
  | 6 => reloadGo (s.get CX_PLATE_RELOAD_first) (s.get CX_PLATE_RELOAD_count) s
  | 7 => s.raise 57 a
  | 8 => s.calRefresh e a
  | _ => s.miss 1 e

/-- Entry `e` has fired in the current bucket. -/
def State.markFired (s : State) (e : Nat) : State := { s with mt := { s.mt with fired := e :: s.mt.fired } }

/-- One firing, as 256 × bucket + entry: MT is at its bucket, and the entry acts as it stood at the evaluation. -/
def State.calFire (s : State) (k : Nat) : State :=
  let s := s.moveTo (k / 256)
  let v := s.asOf s.clock
  let e := k % 256
  (s.markFired e).calAct e (v (CX_CAL_CTRL_action e)) (v (CX_CAL_CTRL_argument e)) (v (CX_CAL_TIME_coarse e))

/-- Every firing up to bucket `hi` of this orbit. -/
def State.calRun (s : State) (hi : Nat) : State := s.each (s.calDue hi) State.calFire

/-! ## Passing buckets -/

/-- The domain stops at this edge, which opens no bucket: what is left of the current one fires first. -/
def State.stopEdge (s : State) : State :=
  let s := s.calRun s.mt.bucket
  (s.takeArrived s.tg.arrived.length).edgeActs

/-- Moves MT `n` buckets on within the orbit: every entry of the buckets left and passed fires (R120); those of the
bucket reached are still to fire in it. -/
def State.pass (s : State) (n : Nat) : State :=
  if n = 0 then s
  else if s.stopDue then s.stopEdge
  else (s.calRun (s.mt.bucket + n - 1)).moveTo (s.mt.bucket + n)

/-- The bucket at which entry `e` is next to fire, in the current orbit, an action that `p` admits for its argument. -/
def State.calBucket (s : State) (e : Nat) (p : Nat → Nat → Bool) : Option Nat :=
  if !s.mt.running || 256 ≤ e then none
  else (s.calAhead e).find? fun b => p (s.calAt b (CX_CAL_CTRL_action e)) (s.calAt b (CX_CAL_CTRL_argument e))

/-- Machine time passes to the bucket at which entry `e` fires an action that `p` admits; it fires, after every entry
that is due before it (R118). -/
def State.calDo (s : State) (e : Nat) (p : Nat → Nat → Bool) : State :=
  match s.calBucket e p with
  | some b => s.each ((s.calDue b).filter fun k => decide (k ≤ b * 256 + e)) State.calFire
  | none => s

/-! ## The entries -/

/-- TEST_CHARGE_INJECTION (R117, R144). -/
def testChargeInjection (e : Nat) (s : State) : State := s.calDo e fun act _ => act == 1

/-- HOUSEKEEPING_CONVERSION (R117, R512). -/
def housekeepingConversion (e : Nat) (s : State) : State := s.calDo e fun act _ => act == 2

/-- LOOP_ENGINE_TEST_SIGNAL (R117, R426). -/
def loopEngineTestSignal (e : Nat) (s : State) : State := s.calDo e fun act _ => act == 3

/-- BURNISH_WINDOW (R117, R408). -/
def burnishWindow (e : Nat) (s : State) : State := s.calDo e fun act _ => act == 4

/-- ROLE_SWAP (R117, R434). -/
def roleSwap (e : Nat) (s : State) : State := s.calDo e fun act _ => act == 5

/-- PARTIAL_PLATE_RELOAD (R117): a write of go with the current first and count. -/
def partialPlateReload (e : Nat) (s : State) : State := s.calDo e fun act _ => act == 6

/-- TILE_LIFE_RECORD_WRITE (R117). -/
def tileLifeRecordWrite (e : Nat) (s : State) : State := s.calDo e fun act _ => act == 7

/-- CODE_DENSITY_CALIBRATION_REFRESH (R117, R179). -/
def codeDensityCalibrationRefresh (e : Nat) (s : State) : State := s.calDo e fun act _ => act == 8

/-- An argument out of range for its action (R179, R426): the firing is missed. -/
def calOutside (act a : Nat) : Bool :=
  (act == 8 && decide (48 ≤ a % 64)) ||
    (act == 3 && (bits a 14 2 == 3 || (bits a 14 2 == 2 && decide (96 ≤ bits a 7 7))))

/-- CALENDAR_RESERVED_ACTION (R117, R120): the firing of a reserved action, or with an argument out of range, is
missed. -/
def calendarReservedAction (e : Nat) (s : State) : State := s.calDo e fun act a => decide (9 ≤ act) || calOutside act a

/-! ## The commands -/

def execTestChargeInjection (entry : Nat) (s : State) := effect (.testChargeInjection entry) (testChargeInjection entry) s
def execHousekeepingConversion (entry : Nat) (s : State) :=
  effect (.housekeepingConversion entry) (housekeepingConversion entry) s
def execLoopEngineTestSignal (entry : Nat) (s : State) :=
  effect (.loopEngineTestSignal entry) (loopEngineTestSignal entry) s
def execBurnishWindow (entry : Nat) (s : State) := effect (.burnishWindow entry) (burnishWindow entry) s
def execRoleSwap (entry : Nat) (s : State) := effect (.roleSwap entry) (roleSwap entry) s
def execPartialPlateReload (entry : Nat) (s : State) := effect (.partialPlateReload entry) (partialPlateReload entry) s
def execTileLifeRecordWrite (entry : Nat) (s : State) := effect (.tileLifeRecordWrite entry) (tileLifeRecordWrite entry) s
def execCodeDensityCalibrationRefresh (entry : Nat) (s : State) :=
  effect (.codeDensityCalibrationRefresh entry) (codeDensityCalibrationRefresh entry) s
def execCalendarReservedAction (entry : Nat) (s : State) :=
  effect (.calendarReservedAction entry) (calendarReservedAction entry) s

end Sys2Proof.Machine
end

