-- ==== Sys2Proof/Machine/MachineTime.lean ====
section
/-! DEFINITION. The machine-time unit, the frequency unit, the oven reference and the quiet windows (R87 to R115, R119
to R124). -/

namespace Sys2Proof.Machine

open Sys2Proof

/-! ## Orbits and quiet windows (R89, R90, R121, R123) -/

/-- Quiet window `w` lies in the orbit in whole (R121): an invalid one is ignored. -/
def quietBad (nb : Nat) (w : Nat × Nat) : Bool := decide (w.1 ≤ w.2) && decide (nb ≤ w.2)

/-- Window registers take effect and are judged, where they or N_B changed (R121, R123). -/
def State.judgeQuiet (s : State) (newNb : Bool) : State :=
  let regs := (List.range 8).map fun n => (s.get (CX_QUIET_WIN_first n), s.get (CX_QUIET_WIN_last n))
  let old := s.get CX_QUIET_STATUS_invalid
  let new := (List.range 8).foldl (fun v n =>
    let w := regs.getD n (0xFFFF, 0)
    let judged := newNb || w != s.mt.quiet.getD n (0xFFFF, 0)
    v + b2n (if judged then quietBad s.mt.nb w else bit old n) * 2 ^ n) 0
  let s := { s with mt := { s.mt with quiet := regs } }
  (s.set CX_QUIET_STATUS_invalid new).iff (Nat.land new (Nat.xor 0xFF old) != 0) fun s => s.raise 56

/-- The valid quiet windows in force. -/
def State.windows (s : State) : List (Nat × Nat) := s.mt.quiet.filter fun w => decide (w.1 ≤ w.2) && !quietBad s.mt.nb w

/-- Bucket `b` lies in a valid window (R122). -/
def State.inWindow (s : State) (b : Nat) : Bool := s.windows.any fun w => decide (w.1 ≤ b) && decide (b ≤ w.2)

/-- The last bucket of the merged window that holds bucket `b`: windows that overlap or adjoin form one (R121). -/
def State.windowEnd (s : State) (b : Nat) : Nat :=
  (List.range 8).foldl (fun e _ => s.windows.foldl (fun e w =>
    if w.1 ≤ e + 1 ∧ e ≤ w.2 then w.2 else e) e) b

/-- Bucket 0 of orbit `o` begins: a new N_B and new windows take effect (R89, R121). Answers whether N_B changed. -/
def State.openOrbit (s : State) (o : Nat) : Bool × State :=
  let nb := s.get CX_MT_ORBIT_LEN_nb_m1 + 1
  let new := nb != s.mt.nb
  let s := { s with mt := { s.mt with
    orbit := o % 2 ^ 32, bucket := 0, nb := nb, orbitOut := true, tick := 0, fired := [] } }
  (new, s.judgeQuiet new)

/-! ## Missed firings (R116, R120) -/

/-- How many of the orbits 0 to n − 1 agree with `val` on the bits of `mask`, n ≤ 2^32. -/
def orbitsBelow (mask val n : Nat) : Nat :=
  (List.range 33).foldl (fun acc i =>
    let agree := Nat.land (n / 2 ^ (i + 1)) (mask / 2 ^ (i + 1)) == Nat.land val mask / 2 ^ (i + 1)
    if bit n i && agree && !(bit mask i && bit val i) then
      acc + 2 ^ ((List.range i).filter fun j => !bit mask j).length
    else acc) 0

/-- The same over `d` orbits from `a` on, wrapping at 2^32. -/
def orbitsIn (mask val a d : Nat) : Nat :=
  if a + d ≤ 2 ^ 32 then orbitsBelow mask val (a + d) - orbitsBelow mask val a
  else orbitsBelow mask val (2 ^ 32) - orbitsBelow mask val a + orbitsBelow mask val (a + d - 2 ^ 32)

/-- The offset from `a` of the first such orbit among `d`, where there is one: a search by halves. -/
def firstOrbit (mask val a d : Nat) : Nat :=
  (List.range 33).foldl (fun lo i =>
    let step := 2 ^ (32 - i)
    if lo + step ≤ d ∧ orbitsIn mask val a (lo + step) = 0 then lo + step else lo) 0

/-- Enabled entries of the calendar whose bucket exists. -/
def State.calEntries (s : State) : List Nat :=
  if s.on CX_CAL_EN_enable then
    (List.range 256).filter fun e => s.on (CX_CAL_CTRL_enable e) && decide (s.get (CX_CAL_TIME_bucket e) < s.mt.nb)
  else []

/-- At a step of machine time the calendar evaluates the first two buckets as it stands (text after R118). -/
def State.calStep (s : State) : State := { s with was := s.was.filter fun w => !calKey w.key }

/-- An MT load at the bucket that would have been `a`:`k` makes MT orbit `o`: the firings of the buckets that it passes
over are missed (R120). In the first orbit passed over they are those from bucket `k` on. -/
def State.missOver (s : State) (a k o : Nat) : State :=
  let d := (diff32 o a).toNat
  let hits := s.calEntries.filterMap fun e =>
    let m := s.get (CX_CAL_OMASK_mask e)
    let v := s.get (CX_CAL_OVAL_value e)
    let b := s.get (CX_CAL_TIME_bucket e)
    let skip := if b < k then 1 else 0
    let n := orbitsIn m v ((a + skip) % 2 ^ 32) (d - skip)
    if n = 0 then none else some (n, (skip + firstOrbit m v ((a + skip) % 2 ^ 32) (d - skip)) * 65536 + b, e)
  match hits with
  | [] => s
  | h :: hs =>
    let first := hs.foldl (fun b x => if x.2.1 < b.2.1 then x else b) h
    s.miss ((h :: hs).foldl (fun n x => n + x.1) 0) first.2.2

/-- Firings in the buckets that the domain has stood still for: how many more there have been, and of which entry the
first, is not known to the model, a free value each (R120). -/
def State.missStopped (s : State) : State :=
  match s.calEntries with
  | [] => s
  | e :: es =>
    let (n, s) := s.draw
    let (k, s) := s.draw
    s.miss n.toNat ((e :: es).getD (k.toNat % (es.length + 1)) e)

/-! ## Orbit starts and MT loads (R90, R93, R103) -/

/-- A new gate of the frequency unit begins (R109, R110). -/
def State.gateStart (s : State) : State :=
  { s with mt := { s.mt with gateBad := false, gateMs := s.get CX_FU_CTRL_gate_ms } }

/-- The slew state begins with `offset` ticks to remove (R101, R106). -/
def State.slewStart (s : State) (offset : Int) : State :=
  let s := (s.set CX_MT_STATUS_state 3).set CX_MT_STATUS_unresolved 0
  State.set { s with mt := { s.mt with offset := offset, slewAcc := 0 } } CX_MT_OFFSET_ticks (unsigned 32 offset)

/-- MT is renumbered, or N_B is new: no stored bucket outlives the step, and the runs of buckets in holdover, by-passed or
without a die begin anew with the current one where they last (R78, R91, R102, R525). Map periods under way are given up
(R229). -/
def State.renumber (s : State) : State :=
  let (o, b) := s.now
  let holds := if s.on CX_MT_STATUS_holdover then [Span.mk o b none] else []
  let hist := (s.plate.hist.filter fun h => h.until? == none).map fun h => { h with fromO := o, fromB := b }
  let feByp := (s.feByp.filter fun e => e.2.until? == none).map fun e => (e.1, Span.mk o b none)
  State.flushBegin { s with
    mt := { s.mt with holds := holds }
    tg := { s.tg with maps := [] }
    plate := { s.plate with hist := hist }
    feByp := feByp }

/-- The held MT load makes the bucket that would have been `a`:`k` bucket 0 of its orbit (R93), with `slew` the ticks
then left to slew (R103). -/
def State.loadMt (s : State) (a k : Nat) (slew : Option Int) : State :=
  let o := s.mt.place.getD (s.get CX_MT_LOAD_ORBIT_orbit)
  let s := ((s.namesEnd.missOver a k o).openOrbit o).2
  let s := State.set { s with mt := { s.mt with held := false, place := none } } CX_MT_STATUS_mt_valid 1
  let s := s.calStep
  (match slew with
  | some r => s.slewStart r
  | none => s).renumber

/-- The next orbit begins at the edge just passed: with the held load, if there is one for it, or with a new N_B. -/
def State.nextOrbit (s : State) : State :=
  let next := (s.mt.orbit + 1) % 2 ^ 32
  let s := { s with mt := { s.mt with
    lastK := if s.mt.misThis then s.mt.lastK else none
    equalK := if s.mt.misThis then s.mt.equalK else 0
    misThis := false } }
  match s.mt.held, s.markerAt with
  | true, none => s.loadMt next 0 none
  | true, some (0, r) => s.loadMt next 0 (some (-(r : Int)))
  | _, _ =>
    let s := s.iff (s.get CX_MT_ORBIT_LEN_nb_m1 + 1 != s.mt.nb) State.namesEnd
    let (new, s) := s.openOrbit next
    s.iff new State.renumber

/-- The start of an orbit: the buckets left in the current numbering pass, and the next begins. In hold with an offset
beyond half an orbit a held load is placed at the bucket of the returned source's next orbit marker; DEDUCED: at the
edge that opens it, with the ticks up to the marker left to slew (R103). -/
def State.orbitStep (s : State) : State :=
  if s.stopDue then s.stopEdge
  else
    let e := s.numEnd
    let load := s.markerAt
    let s := (s.calRun (e - 1)).moveTo (e - 1)
    let s := (s.takeArrived s.tg.arrived.length).jump 1
    let s := match load with
      | some (k, r) => if k = e then s.loadMt s.mt.orbit k (some (-(r : Int))) else s.nextOrbit
      | none => s.nextOrbit
    s.edgeActs

/-- ORBIT_START (R90): a held load is applied at it (R93). -/
def orbitStart (s : State) : State := if s.mt.running then s.orbitStep else s

/-- MT_LOAD (R93). -/
def mtLoad (s : State) : State := if s.acq then s else { s with mt := { s.mt with held := true, place := none } }

/-- MT_LOAD_APPLY (R93): at the next orbit start, or after it where the load is placed within an orbit (R103). -/
def mtLoadApply (s : State) : State :=
  if s.mt.running && s.mt.held then
    let s := s.orbitStep
    if s.mt.running && s.mt.held then s.orbitStep else s
  else s

/-- MT_SNAP (R94). Within a bucket the tick never runs backwards: an earlier one than the last captured is no tick at
which the write can arrive. -/
def mtSnap (tick : Nat) (s : State) : State :=
  if tick < s.mt.tick then s
  else
    let s := State.set { s with mt := { s.mt with tick := tick } } CX_MT_SNAP_ORBIT_orbit s.mt.orbit
    let s := s.set CX_MT_SNAP_BT_valid (s.get CX_MT_STATUS_mt_valid)
    (s.set CX_MT_SNAP_BT_bucket s.mt.bucket).set CX_MT_SNAP_BT_tick tick

/-- The tick at which a register write arrives: a free value, not before the last one captured in the bucket. -/
def State.tickNow (s : State) : Nat × State :=
  let (v, s) := s.draw
  (s.mt.tick + v.toNat % (32768 - s.mt.tick), s)

/-- A bucket edge of the machine-synchronous domain. -/
def State.bucketEdge (s : State) : State :=
  if s.mt.bucket + 1 < s.numEnd then s.pass 1 else orbitStart s

/-! ## States of machine time (R101) -/

/-- The OVN clock is present, the ratio valid and no heater fault latched (R105). -/
def State.holdoverAvailable (s : State) : Bool :=
  !s.on CX_ARCH_STATUS_mgmt_backup && s.on CX_FU_RATIO_HI_valid && !s.on OVN_STATUS_heater_fault

/-- Holdover is entered: from track a new episode with its cause, from slew the same one (R101, R104). DESIGN CHOICE:
CX_MT_STATUS.src goes on naming the lost source in hold and slew, since the spec gives it no other value there. -/
def State.enterHold (s : State) (cause state : Nat) (fabric : Bool) : State :=
  let first := addBkt s.mt.nb s.now 1
  let s := if s.on CX_MT_STATUS_holdover then s
    else
      let s := ((s.set CX_MT_STATUS_cause cause).set CX_HO_TIME_ms 0).set CX_MT_STATUS_holdover 1
      { s with mt := { s.mt with holds := ⟨first.1, first.2, none⟩ :: s.mt.holds } }
  let s := { s with mt := { s.mt with fabricHold := fabric }, fb := { s.fb with follow := false } }
  ((s.set CX_MT_STATUS_state state).set CX_MT_STATUS_qualified 0).raise 48

/-- The episode of holdover ends with the current bucket; CX_HO_TIME keeps its length (R104). -/
def State.exitHold (s : State) : State :=
  let s := s.iff (s.on CX_MT_STATUS_holdover) fun s => s.rise CX_HO_TIME_ms
  let s := { s with mt := { s.mt with holds := Span.close s.now s.mt.holds, fabricHold := false } }
  s.set CX_MT_STATUS_holdover 0

/-- The stop state is entered: the machine-synchronous domain stops at the next bucket edge (R101). DESIGN CHOICE, where
the spec is silent: src reads 0 and unresolved 0 in stop, and a load accepted in track and not yet applied stays held,
as one accepted in stop does (R93). -/
def State.enterStop (s : State) : State :=
  let s := s.exitHold
  let s := ((s.set CX_MT_STATUS_state 4).set CX_MT_STATUS_mt_valid 0).set CX_MT_STATUS_qualified 0
  let s := (s.set CX_MT_STATUS_src 0).set CX_MT_STATUS_unresolved 0
  (s.atEdge .stop State.domainStops).raise 50

/-- The selected source is lost in track (R101). -/
def State.trackLost (s : State) (cause : Nat) (fabric : Bool) : State :=
  if s.holdoverAvailable && s.get CX_MT_CTRL_src_sel != 2 then s.enterHold cause 2 fabric else s.enterStop

/-- src_sel names MCLK. -/
def selMclk (sel : Nat) : Bool := sel == 1

/-- SOURCE_SELECT (R92, R101). -/
def sourceSelect (sel : Nat) (s : State) : State :=
  let change := selMclk sel != selMclk (s.get CX_MT_CTRL_src_sel)
  let s := s.set CX_MT_CTRL_src_sel sel
  if change && s.get CX_MT_STATUS_state == 1 then s.trackLost 1 false else s

/-- SOURCE_LOST (R98, R101). In a hold that the fabric ordered the hold becomes one for a lost source, which leaves it
when the source qualifies again (R390). -/
def sourceLost (s : State) : State :=
  match s.get CX_MT_STATUS_state with
  | 1 => s.trackLost 1 false
  | 2 => { s with mt := { s.mt with fabricHold := false } }
  | 3 => s.enterHold 1 2 false
  | _ => s

/-- Lane `n` becomes the MT source lane, as the fabric has it (R97, R376). -/
def State.setSrcLane (s : State) (n : Nat) : State :=
  (State.set { s with fb := { s.fb with srcSet := true } } CX_MT_STATUS_src_lane n).set FB_UP_time_port (n / 8)

/-- MT starts or restarts at 0:0:0 (R95, R101). -/
def State.mtRun (s : State) (mclk : Bool) : State :=
  let s := State.calStep { s with mt := { s.mt with running := true, lastK := none, equalK := 0, misThis := false } }
  let s := (s.namesEnd.openOrbit 0).2
  let s := ((s.set CX_MT_STATUS_state 1).set CX_MT_STATUS_mt_valid 0).set CX_MT_STATUS_src (if mclk then 2 else 1)
  let s := { s with fb := { s.fb with refDue := true } }
  s.gateStart.renumber

/-- A source that qualifies is the selected one: MCLK, or the source lane in symbol lock (R97 to R99). -/
def State.sourceOn (s : State) (mclk : Bool) (lane : Nat) : Bool :=
  mclk == selMclk (s.get CX_MT_CTRL_src_sel) &&
    (mclk || (lane == s.get CX_MT_STATUS_src_lane && s.on (LN_STATUS_sym_lock lane)))

/-- SOURCE_QUALIFIED (R99, R101): the selected source is qualified, `offset` ticks from the local MT. A domain that is
to stop stops first. -/
def sourceQualified (mclk : Bool) (lane : Nat) (offset : Int) (s : State) : State :=
  if !s.sourceOn mclk lane then s
  else match s.get CX_MT_STATUS_state with
    | 0 => s.mtRun mclk
    | 4 =>
      let s := s.iff s.stopDue State.stopEdge
      (s.mtRun mclk).missStopped
    | 2 =>
      if s.mt.fabricHold then s
      else
        let s := s.set CX_MT_STATUS_src (if mclk then 2 else 1)
        if 2 * offset.natAbs ≤ 32768 * s.mt.nb then s.slewStart offset
        else
          let s := State.set { s with mt := { s.mt with offset := offset } } CX_MT_OFFSET_ticks (unsigned 32 offset)
          s.flag CX_MT_STATUS_unresolved 53
    | _ => s

/-- ORBIT_MARKER_MISMATCH (R100): a marker of the lane in service arrives at local bucket k ≠ 0. -/
def orbitMarkerMismatch (k : Nat) (s : State) : State :=
  if s.get CX_MT_STATUS_state = 1 ∧ s.get CX_MT_STATUS_src = 1 then
    let first := s.mt.lastK.isNone
    let eq := if s.mt.lastK = some k then s.mt.equalK + 1 else 1
    let s := (s.count CX_MT_ORBIT_ERR_count).set CX_MT_ORBIT_ERR_last_offset k
    let s := { s with mt := { s.mt with lastK := some k, equalK := eq, gateBad := true, misThis := true } }
    let s := s.iff first fun s => s.raise 51
    if 3 ≤ eq then
      let off : Int := if 2 * k ≤ s.mt.nb then -(k : Int) else ((s.mt.nb - k : Nat) : Int)
      (s.enterHold 3 3 false).slewStart (off * 32768)
    else s
  else s

/-- SLEW_END (R106): the offset has come to 0 to +2 ticks; what remains of it is taken at the switch-over edge. -/
def slewEnd (offset : Nat) (s : State) : State :=
  if s.get CX_MT_STATUS_state = 3 ∧ 0 ≤ s.mt.offset ∧ s.mt.offset ≤ 2 then
    let s := State.set { s with mt := { s.mt with offset := 0 } } CX_MT_OFFSET_ticks offset
    let s := s.exitHold
    let s := { s with
      mt := { s.mt with lastK := none, equalK := 0 }
      fb := { s.fb with refDue := true, follow := false } }
    ((s.set CX_MT_STATUS_state 1).gateStart).raise 49
  else s

/-- MT_QUALIFIED (R108): OVN_READY has been set for 600 s. -/
def mtQualified (s : State) : State :=
  if s.on OVN_STATUS_ready && s.mt.longGate && s.get CX_MT_STATUS_state == 1 && s.on CX_FU_RATIO_HI_valid then
    s.set CX_MT_STATUS_qualified 1
  else s

/-! ## Frequency unit (R109 to R111) -/

/-- FU_GATE_END: a gate of the track state ends with `slope`, rounded, and `resid` ps. The unit stamps against the OVN
and runs no gate without it (R31, R34). -/
def fuGateEnd (slope resid : Nat) (s : State) : State :=
  if s.get CX_MT_STATUS_state = 1 ∧ s.on CX_ARCH_STATUS_mgmt_backup = false then
    let ok := decide (resid ≤ s.get CX_FU_CTRL_resid_lim) && !s.mt.gateBad && !s.mt.readyLost
    let s := s.set CX_FU_STATUS_resid resid
    let s :=
      if ok then
        let s := ((s.set CX_FU_RATIO_LO_ratio_lo slope).set CX_FU_RATIO_HI_ratio_hi (slope / 2 ^ 32)).set
          CX_FU_RATIO_HI_valid 1
        let long := decide (1000 ≤ s.mt.gateMs)
        State.iff { s with mt := { s.mt with longGate := long } } (!long) fun s =>
          s.set CX_MT_STATUS_qualified 0
      else (s.count CX_FU_STATUS_rejected).raise 54
    s.gateStart
  else s

/-- FU_RATIO_READ (R111): the high part is latched for the next read of CX_FU_RATIO_HI. -/
def fuRatioRead (s : State) : State := { s with mt := { s.mt with ratioLatch := s.get CX_FU_RATIO_HI_ratio_hi } }

/-! ## Oven reference (R112 to R115) -/

/-- OVN_READY (R112): never while heater_fault is latched (R114). The seconds since power-up are a free value. -/
def ovnReady (s : State) : State :=
  if s.on OVN_STATUS_heater_fault || s.on OVN_STATUS_ready then s
  else
    let s := if s.mt.readyLost then s
      else
        let (v, s) := s.draw
        s.set OVN_STATUS_warm_s v.toNat
    let s := { s with mt := { s.mt with ovnRdyPin := true, readyLost := false } }
    ((s.set OVN_STATUS_ready 1).set OVN_STATUS_ready_age 0).raise 496

/-- Ready clears after having been set (R115). -/
def ovnReadyLost (s : State) : State :=
  if s.on OVN_STATUS_ready then
    let s := { s with mt := { s.mt with ovnRdyPin := false, readyLost := true } }
    (((s.set OVN_STATUS_ready 0).set OVN_STATUS_ready_age 0).set CX_MT_STATUS_qualified 0).raise 497
  else s

/-- OVN_HEATER_FAULT (R114). -/
def ovnHeaterFault (s : State) : State :=
  if s.on OVN_STATUS_heater_fault then s
  else ovnReadyLost (((s.set OVN_STATUS_heater_fault 1).set OVN_STATUS_heater 0).raise 498)

/-! ## The commands -/

def execOrbitStart (s : State) := effect .orbitStart orbitStart s
def execMtLoad (s : State) := effect .mtLoad mtLoad s
def execMtLoadApply (s : State) := effect .mtLoadApply mtLoadApply s
def execMtSnap (tick : Nat) (s : State) := effect (.mtSnap tick) (mtSnap tick) s
def execSourceSelect (sel : Nat) (s : State) := effect (.sourceSelect sel) (sourceSelect sel) s
def execSourceLost (s : State) := effect .sourceLost sourceLost s
def execSourceQualified (mclk : Bool) (lane : Nat) (offset : Int) (s : State) :=
  effect (.sourceQualified mclk lane offset) (sourceQualified mclk lane offset) s
def execOrbitMarkerMismatch (k : Nat) (s : State) := effect (.orbitMarkerMismatch k) (orbitMarkerMismatch k) s
def execSlewEnd (offset : Nat) (s : State) := effect (.slewEnd offset) (slewEnd offset) s
def execMtQualified (s : State) := effect .mtQualified mtQualified s
def execFuGateEnd (slope resid : Nat) (s : State) := effect (.fuGateEnd slope resid) (fuGateEnd slope resid) s
def execFuRatioRead (s : State) := effect .fuRatioRead fuRatioRead s
def execOvnReady (s : State) := effect .ovnReady ovnReady s
def execOvnHeaterFault (s : State) := effect .ovnHeaterFault ovnHeaterFault s
def execOvnReadyLost (s : State) := effect .ovnReadyLost ovnReadyLost s
end Sys2Proof.Machine
end

