-- ==== Sys2Proof/Machine/Stream.lean ====
section
/-! DEFINITION. The streaming interface: data paths, blocks, credits and the stave merge (R302 to R320). -/

namespace Sys2Proof.Machine

open Sys2Proof

/-! ## The stave merge (R314 to R317) -/

def State.mergeOn (s : State) : Bool := s.on FB_MERGE_CTRL_enable

/-- Member slots of the merge set in use: 63 is the module's own when it contributes itself. -/
def State.mergeSlots (s : State) : List Nat :=
  (List.range 64).filter fun k => s.on (FB_MERGE_SET_valid k) && !(k == 63 && s.on FB_MERGE_CTRL_self)

/-- The member a source is. -/
def State.memberOf (s : State) (src : Nat) : Option Nat :=
  s.mergeSlots.find? fun k => s.get (FB_MERGE_SET_addr k) == src

/-- Bits of every member expected (R315 step 2). -/
def State.mergeAll (s : State) : Nat :=
  s.mergeSlots.foldl (fun v k => v + 2 ^ k) (b2n (s.on FB_MERGE_CTRL_self) * 2 ^ 63)

def fragOrigin (ws : List Nat) : Nat := bits (ws.getD 0 0) 58 2
def fragNumber (ws : List Nat) : Nat := bits (ws.getD 0 0) 2 40

/-- The next of the module's own fragments in send order (R302): entry and body. -/
def State.ownNext (s : State) : Option (Frag × List Nat) :=
  if s.get CX_STR_CTRL_order = 0 then
    match s.str.order with
    | f :: _ => f.body.map fun b => (f, b)
    | [] => none
  else s.str.order.foldl (fun best f => match f.body, best with
    | none, _ => best
    | some b, none => some (f, b)
    | some b, some x => if f.turn < x.1.turn then some (f, b) else some x) none

/-- The entry leaves the send-order queue with its words complete: prec_loss is the count since the fragment sent
before (DESIGN CHOICE: H2 and the trailer are formed at hand-over). -/
def State.ownTake (s : State) (f : Frag) (body : List Nat) : WaitFrag × State :=
  let w : WaitFrag := ⟨some f.id, s.get FB_ADDR_addr, none, withTrailer (setPrec s.str.prec body), f.ctx.toList, f.blocks⟩
  let s := { s with str := { s.str with order := s.str.order.filter fun g => g.id != f.id, prec := 0 } }
  (w, s.iff f.refused fun s => s.set RC_RF_used (s.get RC_RF_used - 1))

/-- Own accept fragments whose turn has come go to the merge while they contribute (R314). -/
def State.feedMerge : Nat → State → State
  | 0, s => s
  | n + 1, s =>
    match s.ownNext with
    | some (f, b) =>
      if s.mergeOn && s.on FB_MERGE_CTRL_self && f.origin == 0 then
        let (w, s) := s.ownTake f b
        State.feedMerge n { s with str := { s.str with mergeIn := s.str.mergeIn ++ [⟨63, none, w⟩] } }
      else s
    | none => s

/-- A fragment is forwarded as it stands: on its way from a port, or as one of the module's own (R314). -/
def State.forward (s : State) (c : Contrib) : State :=
  match c.port with
  | some p => s.setPath p { s.path p with fwd := (s.path p).fwd ++ [c.frag] }
  | none => { s with str := { s.str with merged := s.str.merged ++ [c.frag] } }

/-- A contribution is forwarded alone (R316, R317). -/
def State.unmerged (s : State) (c : Contrib) : State :=
  ((s.count FB_MERGE_CNT_unmerged).flag FB_MERGE_STATUS_unmerged 125).forward c

/-- The merged fragment (R316). -/
def State.mergedFrag (s : State) (m : Merge) (timedOut : Bool) : WaitFrag :=
  let cs := m.contribs.mergeSort fun a b => decide (a.member ≤ b.member)
  let first := (m.contribs.head?.map (·.frag.words)).getD []
  let flags := m.contribs.foldl (fun v c => Nat.lor v (bits (c.frag.words.getD 1 0) 0 12)) 0
  let h1 := first.getD 1 0 / 2 ^ 16 * 2 ^ 16 + flags
  let h2 := m.contribs.foldl (fun v c => Nat.lor v (2 ^ c.member)) 0
  let h3 := b2n timedOut * 2 ^ 63 + b2n m.cut * 2 ^ 62 + m.contribs.length
  let h0 := h0Word 3 (bits (first.getD 0 0) 54 4) (s.get FB_ADDR_addr) m.number
  let words := withTrailer ([h0, h1, h2, h3] ++ (cs.map (·.frag.words)).flatten)
  ⟨m.contribs.findSome? (·.frag.own), s.get FB_ADDR_addr, none, words, (m.contribs.map (·.frag.ctxs)).flatten, blocksOf words.length⟩

/-- FB_MERGE_STATUS.open follows the merges not yet built. -/
def State.setMerges (s : State) (l : List Merge) : State :=
  State.set { s with str := { s.str with merges := l } } FB_MERGE_STATUS_open
    (l.filter fun m => m.built.isNone).length

/-- Built fragments leave in the order their merges were opened (R315 step 3). -/
def drainMerges : List Merge → List WaitFrag × List Merge
  | [] => ([], [])
  | m :: ms => match m.built with
    | some f => (f :: (drainMerges ms).1, (drainMerges ms).2)
    | none => ([], m :: ms)

/-- The merge of `number` is built and queued (R315 step 3). -/
def State.mergeBuild (s : State) (number : Nat) (timedOut : Bool) : State :=
  match s.str.merges.find? fun m => m.number == number && m.built.isNone with
  | none => s
  | some m =>
    let f := s.mergedFrag m timedOut
    let old := m.contribs.foldl (fun n c => n + c.frag.blocks) 0
    let s := (s.giveBlocks old).takeBlocks f.blocks
    let ms := s.str.merges.map fun x => if x.number = number ∧ x.built.isNone then { x with built := some f } else x
    let d := drainMerges ms
    let s := s.setMerges d.2
    let s := { s with str := { s.str with
      merged := s.str.merged ++ d.1, mergedNums := s.str.mergedNums ++ [number] } }
    s.count FB_MERGE_CNT_sent

/-- A contribution joins its merge or opens one (R315 to R317). -/
def State.contribute (s : State) (c : Contrib) : State :=
  let n := fragNumber c.frag.words
  match s.str.merges.find? fun m => m.number == n && m.built.isNone with
  | none =>
    if s.str.mergedNums.contains n || decide (1024 ≤ s.get FB_MERGE_STATUS_open) then s.unmerged c
    else
      let s := s.setMerges (s.str.merges ++ [⟨n, [c], 2 ^ c.member, false, none⟩])
      if s.mergeAll = 2 ^ c.member then s.mergeBuild n false else s
  | some m =>
    if bit m.came c.member then s.unmerged c
    else
      let total := m.contribs.foldl (fun v x => v + x.frag.words.length) 5
      let fits := decide (total + c.frag.words.length ≤ 131072)
      let m' := { m with
        contribs := if fits then m.contribs ++ [c] else m.contribs
        came := m.came + 2 ^ c.member, cut := m.cut || !fits }
      let s := s.setMerges (s.str.merges.map fun x => if x.number = n ∧ x.built.isNone then m' else x)
      let s := if fits then s else s.unmerged c
      if Nat.land m'.came s.mergeAll = s.mergeAll then s.mergeBuild n false else s

/-- MERGE_CONTRIBUTION (R314, R315): the oldest contribution waiting joins its merge; with merging off it is forwarded. -/
def mergeContribution (s : State) : State :=
  let s := s.feedMerge s.str.order.length
  match s.str.mergeIn with
  | [] => s.busyEval
  | c :: rest =>
    let s := { s with str := { s.str with mergeIn := rest } }
    (if s.mergeOn then s.contribute c else s.forward c).busyEval

/-- MERGE_TIMEOUT (R315 step 3). -/
def mergeTimeout (number : Nat) (s : State) : State :=
  if s.str.merges.any fun m => m.number == number && m.built.isNone then
    (((s.mergeBuild number true).count FB_MERGE_CNT_timeout).raise 124).busyEval
  else s

/-! ## Sending (R303 to R306, R312, R313, R374) -/

/-- The next fragment sequence number (R305). -/
def State.takeFseq (s : State) : Nat × State :=
  let n := s.get CX_STR_FSEQ_next
  (n, s.set CX_STR_FSEQ_next (n + 1))

/-- A waiting fragment is handed to the path of port `p`. -/
def State.hand (s : State) (p : Nat) (w : WaitFrag) : State :=
  let (fseq, s) := match w.fseq with
    | some n => (n, s)
    | none => s.takeFseq
  let d := s.path p
  let f : OutFrag := ⟨s.str.nextKey, w.own, w.src, fseq, w.words, w.ctxs, w.blocks, 0, 0⟩
  State.setPath { s with str := { s.str with nextKey := s.str.nextKey + 1 } } p { d with frags := d.frags ++ [f] }

/-- Source `k` of R374 hands its next fragment to the path of port `p`, if it has one. -/
def State.handFrom (s : State) (p k : Nat) : Option State :=
  if k = 0 then
    let s := s.feedMerge s.str.order.length
    match s.ownNext with
    | some (f, b) => let (w, s) := s.ownTake f b; some (s.hand p w)
    | none => none
  else if k = 1 then
    match s.str.merged with
    | w :: rest => some (State.hand { s with str := { s.str with merged := rest } } p w)
    | [] => none
  else
    let q := k - 2
    match (s.path q).fwd with
    | w :: rest => some ((s.setPath q { s.path q with fwd := rest }).hand p w)
    | [] => none

/-- The next fragment is chosen in round robin among the eight sources (R374). -/
def State.handNext (s : State) (p : Nat) : Option State :=
  ((List.range 8).map fun i => (s.str.robin + 1 + i) % 8).findSome? fun k =>
    (s.handFrom p k).map fun s => { s with str := { s.str with robin := k } }

/-- Words of block `b` of a fragment (R303). -/
def blockWords (ws : List Nat) (b : Nat) : List Nat := (ws.drop (32 * b)).take 32

/-- Payload of a block start (R305). -/
def blockStart (seq src fseq bidx : Nat) (last : Bool) : Nat :=
  seq * 2 ^ 48 + src * 2 ^ 36 + fseq * 2 ^ 22 + bidx * 2 ^ 10 + b2n last * 2 ^ 9 + 0xA1

/-- Payload of a block end (R304). -/
def blockEnd (ws : List Nat) : Nat := (ws.length - 1) * 2 ^ 59 + crc32 (wordBytes ws) * 2 ^ 8 + 0xA4

/-- The lane that takes the next block of port `p`: the lanes in service take them in turn, ascending (R346). -/
def State.nextLane (s : State) (p : Nat) : Nat :=
  let l := s.serving p 3
  match l.find? fun n => decide ((s.path p).txLane < n) with
  | some n => n
  | none => l.headD (8 * p)

/-- A block of fragment `f` leaves on port `p` with number `seq`, whole on one lane; a block that had left before is
counted (R308). -/
def State.emitBlock (s : State) (p seq : Nat) (f : OutFrag) (bidx : Nat) : State :=
  let ws := blockWords f.words bidx
  let start := blockStart (seq % 65536) f.src f.fseq bidx (bidx + 1 == blocksOf f.words.length)
  let s := s.iff (decide (bidx < f.ever)) fun s => s.count CX_STR_CNT_resent
  let (seed, s) := s.lineSeed
  let d := s.path p
  let eth := if lrEthernet s.shadowRd p then s.ethFrame start ws else []
  let units := if eth = [] then ctrlUnit start :: ws.map dataUnit ++ [ctrlUnit (blockEnd ws)] else pcsUnits eth
  s.setPath p { d with
    txStart := start, txWords := ws, txEnd := blockEnd ws, txEth := eth
    txUnits := wireUnits seed units, txLane := s.nextLane p
    frags := d.frags.map fun g => if g.key = f.key then { g with ever := max g.ever (bidx + 1) } else g }

/-- The next new block of the path: its fragment (R374: the blocks of a fragment follow one another). -/
def DPath.nextFrag (d : DPath) : Option OutFrag := d.frags.find? fun f => decide (f.next < blocksOf f.words.length)

/-- The fragment has left: its contexts and blocks are freed (R278, R308). -/
def State.fragLeaves (s : State) (f : OutFrag) : State := (s.each f.ctxs State.giveCtx).giveBlocks f.blocks

/-- Byte `n` of a fragment's words reads 0x00 (R407). -/
def zeroByte (ws : List Nat) (n : Nat) : List Nat := ws.set (n / 8) (putBits (ws.getD (n / 8) 0) (8 * (n % 8)) 8 0)

/-- The read of fragment `f` for block `bidx` finds byte `n` of the block uncorrectable: before the fragment's first block
has left, an empty fragment with content_lost replaces it; after it the byte is sent as 0x00 (R30, R301, R407). DEDUCED: a
merged or passed-through fragment, which has no entry in the send-order queue, takes the identity of its own header. -/
def State.sendUpset (s : State) (p : Nat) (f : OutFrag) (bidx n : Nat) : State :=
  let d := s.path p
  let put (s : State) (g : OutFrag) : State :=
    s.setPath p { d with frags := d.frags.map fun h => if h.key = f.key then g else h }
  if f.ever = 0 then
    let s := (put s { f with words := emptied f.words, ctxs := [], blocks := 0 }).fragLeaves f
    ((s.count CX_STR_CNT_lost_content).flag CX_STR_STATUS_lost 113).busyEval
  else put s { f with words := zeroByte f.words (256 * bidx + n) }

/-- The new block that fragment `f` sends next on port `port`. -/
def State.sendNew (s : State) (port : Nat) (f : OutFrag) : State :=
  let d := s.path port
  let s := s.setPath port { d with
    nseq := d.nseq + 1, out := d.out ++ [⟨f.key, f.next⟩]
    frags := d.frags.map fun g => if g.key = f.key then { g with next := g.next + 1 } else g }
  (s.emitBlock port d.nseq f f.next).busyEval

/-- BLOCK_SEND (R303 to R306): a block that must be sent again, or the next new one, within the window; `bad` is a
byte of a new block that the read finds uncorrectable. Without the OVN the streaming quads stand still and fragments are
held (R33, R34, R300); a port without a lane in service sends nothing (R351). -/
def blockSend (port : Nat) (bad : Option Nat) (s : State) : State :=
  if s.dataUp ≠ some port ∨ s.on CX_ARCH_STATUS_mgmt_backup ∨ !(s.path port).started ∨ s.serving port 3 = [] then s
  else
    let d := s.path port
    if 0 < d.resend then
      match d.out.drop (d.out.length - d.resend) with
      | b :: _ =>
        if d.out.length - d.resend + 1 ≤ d.window then
          match d.frags.find? fun f => f.key == b.key with
          | some f => (s.setPath port { d with resend := d.resend - 1 }).emitBlock port (d.nseq - d.resend) f b.bidx
          | none => s
        else s
      | [] => s
    else if d.window < d.out.length + 1 then s
    else
      let s' := if d.nextFrag.isSome then some s else s.handNext port
      match s' with
      | none => s
      | some s =>
        match (s.path port).nextFrag with
        | none => s
        | some f =>
          let s := match bad with
            | some n => s.sendUpset port f f.next n
            | none => s
          match (s.path port).nextFrag with
          | some f => s.sendNew port f
          | none => s

/-! ## Credits (R306 to R308) -/

/-- Number of blocks that a credit's `ack` newly acknowledges, where it names a block sent on the path. -/
def DPath.newlyAcked (d : DPath) (ack : Nat) : Option Nat :=
  let n := wrapSub 65536 ack d.ack
  if n ≤ d.out.length then some n
  else if wrapSub 65536 d.ack ack ≤ d.nseq - d.out.length then some 0
  else none

/-- CREDIT_RECEIVED (R307, R308). -/
def State.creditTaken (port ack window : Nat) (nak : Bool) (s : State) : State :=
  let d := s.path port
  if !d.started then s
  else
    match if 4096 < window then none else d.newlyAcked ack with
    | none => (s.count CX_STR_CNT_bad_credit).flag CX_STR_STATUS_credit_err 114
    | some n =>
      let out := d.out.drop n
      let gone := d.frags.filter fun f =>
        decide (blocksOf f.words.length ≤ f.next) && out.all fun b => b.key != f.key
      let resend := if nak then out.length else min d.resend out.length
      let s := s.setPath port { d with
        ack := (d.ack + n) % 65536, window := window, out := out, resend := resend
        frags := d.frags.filter fun f => !gone.contains f }
      (s.each gone State.fragLeaves).busyEval

/-- RESEND_TIMEOUT (R308): with blocks outstanding, they are sent again from ack + 1. -/
def resendTimeout (port : Nat) (s : State) : State :=
  let d := s.path port
  if d.started then s.setPath port { d with resend := d.out.length } else s

/-- CREDIT_TIMER (R307). -/
def creditTimer (port : Nat) (s : State) : State := if (s.path port).started then s.sendCredit port else s

/-! ## Receiving (R304, R309, R313) -/

/-- A bad block is counted; the event comes on the first after CX_STR_RX.bad was read as 0 (R319). -/
def State.rxBad (s : State) : State :=
  let s := s.count CX_STR_RX_bad
  if s.str.rxBadRaised then s else State.raise { s with str := { s.str with rxBadRaised := true } } 115

/-- The words of a last block up to the fragment's trailer, the final word that meets R313. -/
def trimTrailer (bidx : Nat) (ws : List Nat) : List Nat :=
  match ((List.range ws.length).filter fun p =>
      bits (ws.getD p 0) 60 4 == 0xD && bits (ws.getD p 0) 40 20 == 32 * bidx + p + 1).getLast? with
  | some p => ws.take (p + 1)
  | none => ws

/-- A partial fragment is discarded (R309). -/
def State.dropPartial (s : State) (p : Nat) : State :=
  match (s.path p).rxPart with
  | some q =>
    let s := s.setPath p { s.path p with rxPart := none }
    (s.giveBlocks (blocksOf q.words.length)).count CX_STR_RX_discarded
  | none => s

/-- A complete fragment arrived on port `p` (R309, R314). -/
def State.fragArrived (s : State) (p src fseq : Nat) (ws : List Nat) : State :=
  let key := src * 2 ^ 14 + fseq
  let blocks := blocksOf ws.length
  if Sparse.has key s.str.seen then (s.giveBlocks blocks).count CX_STR_RX_discarded
  else
    let far := src * 2 ^ 14 + (fseq + 8192) % 16384
    let s := { s with str := { s.str with seen := Sparse.insert key true (Sparse.erase far s.str.seen) } }
    let w : WaitFrag := ⟨none, src, some fseq, ws, [], blocks⟩
    match s.memberOf (bits (ws.getD 0 0) 42 12) with
    | some k =>
      if s.mergeOn && fragOrigin ws == 0 then
        { s with str := { s.str with mergeIn := s.str.mergeIn ++ [⟨k, some p, w⟩] } }
      else s.setPath p { s.path p with fwd := (s.path p).fwd ++ [w] }
    | none => s.setPath p { s.path p with fwd := (s.path p).fwd ++ [w] }

/-- A good block in sequence joins the fragment being received. It has its block of the buffer already. -/
def State.blockIn (s : State) (p start : Nat) (ws : List Nat) : State :=
  let src := bits start 36 12
  let fseq := bits start 22 14
  let bidx := bits start 10 12
  let last := bit start 9
  let ws := if last && lrEthernet s.shadowRd p then trimTrailer bidx ws else ws
  let s := if bidx = 0 then s.dropPartial p else s
  let join := match (s.path p).rxPart with
    | some q => if q.src = src ∧ q.fseq = fseq ∧ q.next = bidx then some q.words else none
    | none => if bidx = 0 then some [] else none
  match join with
  | none => (s.dropPartial p).giveBlocks 1
  | some old =>
    if last then (s.setPath p { s.path p with rxPart := none }).fragArrived p src fseq (old ++ ws)
    else s.setPath p { s.path p with rxPart := some ⟨src, fseq, bidx + 1, old ++ ws⟩ }

/-- The blocks held ahead of the sequence whose turn has come are taken, `n` at most (R346). -/
def State.takeHeld (p : Nat) : Nat → State → State
  | 0, s => s
  | n + 1, s =>
    let d := s.path p
    let seq := (d.rxAck + 1) % 65536
    match d.rxHeld.find? fun e => e.1 == seq with
    | some e =>
      State.takeHeld p n ((s.setPath p { d with rxAck := seq, rxHeld := d.rxHeld.filter fun x => x.1 != seq }).blockIn p
        e.2.1 e.2.2)
    | none => s

/-- A good block arrived: in sequence it is taken, with those it was waited for; ahead of it the order of a bonded group
is restored by seq, while a single lane has lost a block; an earlier one is not taken again (R305, R307, R346). -/
def State.blockGood (s : State) (port start : Nat) (ws : List Nat) : State :=
  let d := s.path port
  let seq := bits start 48 16
  if seq = (d.rxAck + 1) % 65536 then
    let s := ((s.takeBlocks 1).setPath port { d with rxAck := seq }).blockIn port start ws
    s.takeHeld port d.rxHeld.length
  else if 32768 ≤ wrapSub 65536 seq d.rxAck || seq == d.rxAck then s
  else if 2 ≤ (s.serving port 3).length && decide (d.rxHeld.length < 4096) then
    if d.rxHeld.any fun e => e.1 == seq then s
    else (s.takeBlocks 1).setPath port { d with rxHeld := d.rxHeld ++ [(seq, start, ws)] }
  else s.setPath port { d with rxNak := true }

/-! ## Paths starting and moving (R306, R308, R309) -/

/-- The blocks of a path that wait ahead of the sequence are given back (R309). -/
def State.dropHeld (s : State) (p : Nat) : State := s.giveBlocks (s.path p).rxHeld.length

/-- The path of port `p` starts. -/
def State.pathStart (s : State) (p : Nat) : State :=
  s.setPath p { DPath.new with
    started := true, fwd := (s.path p).fwd, frags := (s.path p).frags.map fun f => { f with next := 0 } }

/-- The path of port `p` is lost: the fragment being received is discarded, those handed go to the path of port `q`
to be sent again from block 0, or wait on this port. -/
def State.pathLost (s : State) (p : Nat) (q : Option Nat) : State :=
  let s := (s.dropPartial p).dropHeld p
  let d := s.path p
  let again := d.frags.map fun f => { f with next := 0 }
  let s := s.setPath p { DPath.new with fwd := d.fwd, frags := if q.isNone then again else [] }
  match q with
  | some q => s.setPath q { s.path q with frags := (s.path q).frags ++ again }
  | none => s

/-- A route moves (R376, R379). -/
def State.rerouted (s : State) : State := ((s.count FB_CNT2_reroutes).set FB_STATUS_reroute 1).raise 117

/-- Data traffic returns to the primary once the secondary path holds no unacknowledged block (R379). -/
def State.dataReturn (s : State) : State :=
  let sec := s.get FB_UP_d_sec
  if s.fb.dReturn && s.dataHas (s.get FB_UP_d_pri) && (s.path sec).out == [] &&
      ((s.path sec).frags.all fun f => f.next == 0) then
    let pri := s.get FB_UP_d_pri
    let held := (s.path sec).frags
    let s := s.setPath sec { s.path sec with frags := [] }
    let s := s.setPath pri { s.path pri with frags := (s.path pri).frags ++ held }
    State.rerouted { s with str := { s.str with dSec := false }, fb := { s.fb with dReturn := false } }
  else s

/-- CREDIT_RECEIVED (R307, R308, R379). -/
def creditReceived (port ack window : Nat) (nak : Bool) (s : State) : State :=
  (State.creditTaken port ack window nak s).dataReturn

/-- BLOCK_RECEIVED (R304, R307, R309, R312): what fails a check is discarded and counted, and a block that failed is told
by nak; the credit goes back. -/
def blockReceived (port : Nat) (block : BlockIn) (s : State) : State :=
  if !(s.path port).started || s.serving port 3 == [] then s
  else match rxBlock (lrEthernet s.shadowRd port) block with
    | .bad failed =>
      if failed then (s.rxBad.setPath port { s.path port with rxNak := true }).sendCredit port else s.rxBad
    | .credit c => creditReceived port (bits c 40 16) (bits c 24 16) (bit c 23) s
    | .block start ws => ((s.blockGood port start ws).sendCredit port).busyEval

/-! ## The commands -/

def execBlockSend (port : Nat) (bad : Option Nat) (s : State) := effect (.blockSend port bad) (blockSend port bad) s
def execCreditReceived (port ack window : Nat) (nak : Bool) (s : State) :=
  effect (.creditReceived port ack window nak) (creditReceived port ack window nak) s
def execResendTimeout (port : Nat) (s : State) := effect (.resendTimeout port) (resendTimeout port) s
def execBlockReceived (port : Nat) (block : BlockIn) (s : State) :=
  effect (.blockReceived port block) (blockReceived port block) s
def execCreditTimer (port : Nat) (s : State) := effect (.creditTimer port) (creditTimer port) s
def execMergeContribution (s : State) := effect .mergeContribution mergeContribution s
def execMergeTimeout (number : Nat) (s : State) := effect (.mergeTimeout number) (mergeTimeout number) s

end Sys2Proof.Machine
end

