-- ==== Sys2Proof/Machine/Routes.lean ====
section
/-! DEFINITION. The routes of the fabric and the transmit queues of the ports; a port gaining timing/control service
(R356, R357, R359, R368, R369, R376 to R379). -/

namespace Sys2Proof.Machine

open Sys2Proof

/-! ## Ports and routes (R356, R357, R369) -/

def State.portQ (s : State) (p : Nat) : PortQ := Sparse.get PortQ.new p s.fb.ports

def State.setPortQ (s : State) (p : Nat) (q : PortQ) : State :=
  { s with fb := { s.fb with ports := Sparse.put PortQ.new p q s.fb.ports } }

/-- Port `p` has tc service. -/
def State.tcHas (s : State) (p : Nat) : Bool := decide (p < 6) && bit (s.get FB_PORTS_tc_up) p

/-- The primary and the secondary port of the control up route, the one in use first. -/
def State.upOrder (s : State) : Nat × Nat :=
  if s.fb.tcSec then (s.get FB_UP_tc_sec, s.get FB_UP_tc_pri) else (s.get FB_UP_tc_pri, s.get FB_UP_tc_sec)

/-- The port of the active control up route, where one has service (R356). -/
def State.upPort (s : State) : Option Nat :=
  let o := s.upOrder
  if s.tcHas o.1 then some o.1 else if s.tcHas o.2 then some o.2 else none

/-- The port whose queue takes traffic towards the root: without service the primary's queue holds it (R378). -/
def State.upQueue (s : State) : Option Nat :=
  match s.upPort with
  | some p => some p
  | none => if s.get FB_UP_tc_pri < 6 then some (s.get FB_UP_tc_pri) else none

/-- The count of buckets from whose frame on an item released in the current bucket is sent: the next (R370, R385). -/
def State.nextFrame (s : State) : Nat := s.clock + b2n s.mt.running

/-- Down ports. -/
def State.downPorts (s : State) : List Nat := (List.range 6).filter fun p => bit (s.get FB_DOWN_ports) p

/-- A fast command or control message finds its queue full (R369). -/
def State.ctDrop (s : State) : State := (s.count FB_CNT_ct_drop).set FB_STATUS_ct_drop 1

/-- A command item joins a queue of port `p`, to leave from the frame of the bucket counted `from_` on (R369, R370). -/
def State.pushFast (s : State) (p item : Nat) (from_ : Nat := 0) : State :=
  let q := s.portQ p
  if 64 ≤ q.fast.length then s.ctDrop else s.setPortQ p { q with fast := q.fast ++ [(from_, item)] }

def State.pushMsg (s : State) (p : Nat) (items : List Nat) : State :=
  let q := s.portQ p
  if 64 < (q.msgs.foldl (fun n m => n + m.length) 0) + items.length then s.ctDrop
  else s.setPortQ p { q with msgs := q.msgs ++ [items] }

/-- Towards the root on the control up route. -/
def State.fastUp (s : State) (item : Nat) : State :=
  match s.upQueue with
  | some p => s.pushFast p item
  | none => s

def State.msgUp (s : State) (items : List Nat) : State :=
  match s.upQueue with
  | some p => s.pushMsg p items
  | none => s

/-! ## Items that move (R359, R376, R378) -/

def ctOp (h : Nat) : Nat := bits h 60 4
def ctLen (h : Nat) : Nat := bits h 58 2
def ctAddr (h : Nat) : Nat := bits h 46 12
def ctTag (h : Nat) : Nat := bits h 38 8
def ctHops (h : Nat) : Nat := bits h 32 6
def ctStatus (h : Nat) : Nat := bits h 28 4
def ctBe (h : Nat) : Nat := bits h 24 4

/-- Queued items of port `p` move to the queues of the secondary ports (R376 step 2), or to that of the control up port
(R378). -/
def State.moveItems (s : State) (p : Nat) : State :=
  let q := s.portQ p
  let up := s.upPort
  let s := s.setPortQ p { q with fast := [], msgs := [] }
  let route (s : State) (towards : Bool) (d : Nat) (push : State → Nat → State) : State :=
    if towards then match up with
      | some u => push s u
      | none => push s p
    else
      let sec := s.get (FB_ROUTE_sec d)
      if s.on (FB_ROUTE_en d) && s.tcHas sec then push s sec else push s p
  let s := s.each q.fast fun s e =>
    let w := e.2
    if !bit w 55 && bit w 54 then s.pushFast p w e.1
    else route s (bit w 55) (bits w 32 12) fun s u => s.pushFast u w e.1
  s.each q.msgs fun s m =>
    let h := m.getD 0 0
    if 4 ≤ ctOp h then s.pushMsg p m else route s (decide (2 ≤ ctOp h)) (ctAddr h) fun s u => s.pushMsg u m

/-- The link delay of port `p` is cleared (R384). -/
def State.linkClear (s : State) (p : Nat) : State :=
  let q := Sparse.get PortQ.new p s.fb.ports
  let s := { s with fb := { s.fb with ports := Sparse.put PortQ.new p { q with delays := [], asked := [] } s.fb.ports } }
  (s.set (FB_LINK_valid p) 0).set (FB_LINK_delay p) 0

/-- Port `p` has tc service again, or for the first time: where the control up route had none it resumes on the port;
while FB_CTRL.revert is set traffic moves back to a primary (R356, R378, R379). -/
def State.tcUp (s : State) (p : Nat) : State :=
  let revert := s.on FB_CTRL_revert
  let none? := s.upPort.isNone
  let pri := s.get FB_UP_tc_pri
  let sec := s.get FB_UP_tc_sec
  let s := s.set FB_PORTS_tc_up (Nat.lor (s.get FB_PORTS_tc_up) (2 ^ p))
  let s := { s with fb := { s.fb with lost := putBits s.fb.lost p 1 0 } }
  let moves := (List.range 4096).filter fun d =>
    s.on (FB_ROUTE_en d) && s.get (FB_ROUTE_pri d) == p && s.on (FB_ROUTE_use_sec d)
  let toSec := none? && p == sec && p != pri && !s.fb.tcSec
  let toPri := s.fb.tcSec && p == pri && (revert || none?)
  let s := { s with fb := { s.fb with tcSec := (s.fb.tcSec || toSec) && !toPri } }
  let s := s.iff (toSec && decide (pri < 6)) fun s => s.moveItems pri
  let s := s.iff revert fun s => s.each moves fun s d => s.set (FB_ROUTE_use_sec d) 0
  s.iff (toSec || toPri || (revert && moves != [])) State.rerouted

/-- A port that has never lost its tc service gains it with its first lane in service (R357). -/
def State.tcGain (s : State) (p : Nat) : State :=
  if s.serving p 1 != [] && !bit s.fb.lost p && !bit (s.get FB_PORTS_tc_up) p then s.tcUp p else s

end Sys2Proof.Machine
end

