-- ==== Sys2Proof/Machine/Lanes.lean ====
section
/-! DEFINITION. The serial lanes: symbol lock, alignment, eye and health, power states, loops, failure, spares and
rejoin (R321 to R355). -/

namespace Sys2Proof.Machine

open Sys2Proof

/-! ## Lanes and their fields -/

/-- The quad of the lane runs in a synchronous mode (R322). -/
def State.syncLane (s : State) (n : Nat) : Bool := decide (s.get (LN_QUAD_mode (n / 4)) < 2)

/-- Bits per frame F of a synchronous lane (R322). -/
def State.frameBits (s : State) (n : Nat) : Nat := if s.get (LN_QUAD_mode (n / 4)) = 1 then 640 else 256

/-- T_min in line bits (R334): 8 coarse periods. -/
def State.tMin (s : State) (n : Nat) : Nat := s.frameBits n / 4

/-- Lane `n` is the MT source lane (R335). -/
def State.isSource (s : State) (n : Nat) : Bool := s.get CX_MT_STATUS_src == 1 && s.get CX_MT_STATUS_src_lane == n

def nowOf (n : Nat) (rx : Bool) : Fld := if rx then LN_PWR_rx_now n else LN_PWR_tx_now n
def reqOf (n : Nat) (rx : Bool) : Fld := if rx then LN_PWR_rx_req n else LN_PWR_tx_req n
def pendOf (n : Nat) (rx : Bool) : Fld := if rx then LN_PWR_rx_pending n else LN_PWR_tx_pending n
def shutOf (n : Nat) (rx : Bool) : ShutFn := if rx then .laneRx n else .laneTx n
def heldOf (l : Lane) (rx : Bool) : Option Nat := if rx then l.heldRx else l.heldTx

def State.setHeld (s : State) (n : Nat) (rx : Bool) (h : Option Nat) : State :=
  s.setLane n (if rx then { s.lane n with heldRx := h } else { s.lane n with heldTx := h })

/-- A lane command is refused (R335, R336, R342). -/
def State.laneRefuse (s : State) (n : Nat) : State := s.flag (LN_STATUS_refused n) 135

/-! ## Groups (R346, R347) -/

/-- Member `n` of a bonded group carries traffic or not. -/
def State.setOutGrp (s : State) (n : Nat) (b : Bool) : State :=
  if s.get (LN_STATUS_group n) = 0 then s
  else s.set (LN_PORT_out_grp (n / 8)) (putBits (s.get (LN_PORT_out_grp (n / 8))) (n % 8) 1 (b2n b))

/-! ## Symbol lock and alignment (R333 to R337) -/

/-- A locked receiver returns to hunt (R333): its direction has failed until it rejoins, and a data lane fails as one
(R345). -/
def State.lockLoss (s : State) (n : Nat) : State :=
  if s.on (LN_STATUS_sym_lock n) then
    let lat := if s.on (LN_RX_LAT_valid n) then some (s.get (LN_RX_LAT_lat n)) else (s.lane n).latHeld
    let l := s.lane n
    let s := s.setLane n { l with
      latHeld := lat, lowWarn := 0, lowFail := 0, steady := 0, eyeSeen := false, rev := 0, frames := []
      rxFailed := true, txFailed := l.txFailed || s.role n == 3, goodRx := 0, goodTx := 0 }
    let s := ((s.set (LN_STATUS_sym_lock n) 0).set (LN_RX_LAT_valid n) 0).set (LN_STATUS_rejoin n) 0
    let s := (s.set (LN_EQ_adapted n) 0).set (LN_EQ_eye n) 0
    let s := (s.count (LN_CNT_lock_loss n)).flag (LN_STATUS_lock_lost n) 128
    s.iff (s.role n == 1) fun s => s.linkClear (n / 8)
  else s

/-- SYMBOL_LOCK: the receiver locks; `lat` is the latency it measures at relock (R333, R337). The quad's PLL is locked
then, and the first timing/control lane to lock is the source lane until the fabric chooses one (R97). -/
def symbolLock (n lat : Nat) (s : State) : State :=
  if s.on (LN_STATUS_sym_lock n) || s.get (LN_PWR_rx_now n) != 0 || s.role n == 0 then s
  else
    let moved := match (s.lane n).latHeld with
      | some l => l != lat
      | none => false
    let s := s.set (LN_STATUS_sym_lock n) 1
    let s := (s.setLane n { s.lane n with latHeld := none, eyeSeen := false }).set (LN_EQ_eye_min n) 0
    let s := s.iff (s.get (LN_QUAD_state (n / 4)) == 1) fun s => s.set (LN_QUAD_state (n / 4)) 2
    let s := s.iff (s.rxServes n && s.txServes n) fun s => s.setOutGrp n false
    let s := s.iff (s.role n == 1 && !s.fb.srcSet) fun s =>
      (State.set { s with fb := { s.fb with srcSet := true } } CX_MT_STATUS_src_lane n).set FB_UP_time_port (n / 8)
    (s.iff moved fun s => s.flag (LN_STATUS_moved n) 134).tcGain (n / 8)

/-- SLIP_WRITE (R335, R336). -/
def slipWrite (n slip : Nat) (s : State) : State :=
  if s.isSource n || s.acq then s.laneRefuse n
  else s.set (LN_RX_ALIGN_slip n) (min slip (2 * s.frameBits n - 1))

/-- The slip in force moves one bit towards its target (R336). -/
def State.slipStep (s : State) (n : Nat) : State :=
  let now := s.get (LN_RX_ALIGN_slip_now n)
  let to_ := s.get (LN_RX_ALIGN_slip n)
  s.set (LN_RX_ALIGN_slip_now n) (if now < to_ then now + 1 else if to_ < now then now - 1 else now)

/-! ## Spares (R348, R349) -/

/-- The transmitter of a trigger-primitive lane can carry slots. -/
def State.healthyTx (s : State) (n : Nat) : Bool := s.role n == 2 && s.txServes n && !s.on (LN_STATUS_fault n)

/-- Bit of LN_PORT.serve of lane `n`. -/
def State.served (s : State) (n : Nat) : Bool := bit (s.get (LN_PORT_serve (n / 8))) (n % 8)

/-- The lane whose slots lane `n` carries as its spare. -/
def State.servesFor (s : State) (n : Nat) : Option Nat :=
  ((List.range 8).map (n / 8 * 8 + ·)).find? fun m => s.served m && lrSpareEn s.shadowRd m && lrSpare s.shadowRd m == n

/-- The bit of LN_PORT.serve of lane `n` changes, and serving_spare of its spare follows. -/
def State.setServe (s : State) (n : Nat) (b : Bool) : State :=
  let s := s.set (LN_PORT_serve (n / 8)) (putBits (s.get (LN_PORT_serve (n / 8))) (n % 8) 1 (b2n b))
  let m := lrSpare s.shadowRd n
  s.setB (LN_STATUS_serving_spare m) (s.servesFor m).isSome

/-- The lane whose transmitter takes the slots that lane `n` sends, if one is declared (R348, R350). -/
def State.spareFor (s : State) (n : Nat) : Option Nat :=
  match s.servesFor n with
  | some m => some m
  | none => if lrSpareEn s.shadowRd n && !s.served n then some (lrSpare s.shadowRd n) else none

/-- A healthy spare can take the slots of lane `n`. -/
def State.canMove (s : State) (n : Nat) : Bool :=
  match s.spareFor n with
  | some m => s.healthyTx m
  | none => false

/-- The slots that lane `n` sends move away from it, or it is marked degraded (R348, R349). -/
def State.moveSlots (s : State) (n : Nat) : State :=
  let s :=
    if s.canMove n then
      let s := match s.servesFor n with
        | some m => s.setServe m false
        | none => s.setServe n true
      s.flag (LN_STATUS_spare_move n) 131
    else if s.served n then s
    else s.flag (LN_STATUS_degraded n) 137
  s.updConflict

/-- An enabled chaser's slots are sent on lane `n`. -/
def State.laneNamed (s : State) (n : Nat) : Bool :=
  s.get CX_PLATE_STATUS_state == 4 && (List.range 32).any fun c => chEnable s.rd c && s.effLane (chLane s.rd c) == n

/-- The last case of R342: a primitive transmitter in use with no healthy spare while acquisition runs. -/
def State.neededTx (s : State) (n : Nat) : Bool := s.role n == 2 && s.acq && s.laneNamed n && !s.canMove n

/-- SPARE_SERVE_WRITE (R348): slots move to the spare, or back, where the target is healthy. -/
def spareServeWrite (port mask : Nat) (s : State) : State :=
  let change := ((List.range 8).map (8 * port + ·)).filter fun n => s.served n != bit mask (n % 8)
  let bad := change.filter fun n =>
    let target := if s.served n then n else lrSpare s.shadowRd n
    !(lrSpareEn s.shadowRd n && s.healthyTx target)
  match bad with
  | n :: _ => s.laneRefuse n
  | [] =>
    let s := s.each change fun s n => (s.setServe n (bit mask (n % 8))).flag (LN_STATUS_spare_move n) 131
    s.iff (change != []) State.updConflict

/-! ## Power states (R340 to R342, R47 to R50) -/

/-- CX_PENDING_ENABLE.quad follows the pending enables of the lanes (R51). -/
def State.pendQuads (s : State) : State :=
  s.set CX_PENDING_ENABLE_quad ((List.range 12).foldl (fun v q =>
    v + b2n (((List.range 4).map (4 * q + ·)).any fun n => s.on (LN_PWR_rx_pending n) || s.on (LN_PWR_tx_pending n)) *
      2 ^ q) 0)

/-- The shutdown of a lane direction begins. -/
def State.dirOff (s : State) (n : Nat) (rx : Bool) (held : Option Nat) : State :=
  let s := s.iff rx fun s => s.lockLoss n
  let s := (s.set (nowOf n rx) 5).setHeld n rx held
  { s with shut := s.shut ++ [shutOf n rx] }

/-- A direction starts from off: its quad's PLL starts with it; while that PLL shuts down it waits. -/
def State.dirStart (s : State) (n : Nat) (rx : Bool) (target : Nat) : State :=
  let s := s.setHeld n rx (some target)
  if s.shut.contains (.quadPll (n / 4)) then s
  else
    let q := LN_QUAD_state (n / 4)
    (s.set (nowOf n rx) 4).set q (if s.get q = 0 then 1 else s.get q)

/-- The shutdown of a direction, or of its quad's PLL, no longer holds it back: a pending enable is checked and
carried out (R47, R50). -/
def State.dirFree (s : State) (n : Nat) (rx forbidden : Bool) : State :=
  match heldOf (s.lane n) rx with
  | none => s
  | some target =>
    if s.shut.contains (.quadPll (n / 4)) then s
    else
      let pend := s.on (pendOf n rx)
      let s := (s.set (pendOf n rx) 0).pendQuads
      if pend && (forbidden || s.on (LN_STATUS_fault n)) then
        ((s.setHeld n rx none).count CX_PENDING_ENABLE_discarded).raise 41
      else s.dirStart n rx target

/-- The last direction of a quad has gone off: its PLL shuts down. -/
def State.quadIdle (s : State) (q : Nat) : State :=
  let idle := ((List.range 4).map (4 * q + ·)).all fun n =>
    s.get (LN_PWR_rx_now n) == 3 && s.get (LN_PWR_tx_now n) == 3
  if idle && s.get (LN_QUAD_state q) != 0 && !s.shut.contains (.quadPll q) then
    { s with shut := s.shut ++ [.quadPll q] }
  else s

/-- The shutdown of a lane direction completes. -/
def State.dirDown (s : State) (n : Nat) (rx forbidden : Bool) : State :=
  let s := s.set (nowOf n rx) 3
  let s := s.dirFree n rx forbidden
  s.quadIdle (n / 4)

/-- The shutdown of a quad's PLL completes: directions that wait start. -/
def State.quadDown (s : State) (q : Nat) (forbidden : Bool) : State :=
  let s := s.set (LN_QUAD_state q) 0
  s.each ((List.range 4).map (4 * q + ·)) fun s n =>
    s.each [true, false] fun s rx => if s.get (nowOf n rx) = 3 then s.dirFree n rx forbidden else s

/-- The start of a direction is called off, and its pending enable with it (R49). -/
def State.dropStart (s : State) (n : Nat) (rx : Bool) : State := ((s.setHeld n rx none).set (pendOf n rx) 0).pendQuads

/-- A direction is requested to take power state `req` (R340, R341). -/
def State.dirRequest (s : State) (n : Nat) (rx : Bool) (req : Nat) : State :=
  let now := s.get (nowOf n rx)
  let s := s.set (reqOf n rx) req
  let hold (s : State) : State :=
    let first := !s.on (pendOf n rx)
    let s := ((s.setHeld n rx (some req)).set (pendOf n rx) 1).pendQuads
    s.iff first fun s => s.raise 40
  if now = 4 then s.setHeld n rx (some req)
  else if now = 5 then
    if req = 3 then s.dropStart n rx else hold s
  else if now = 3 then
    if req = 3 then s.dropStart n rx
    else if s.shut.contains (.quadPll (n / 4)) then hold s
    else s.dirStart n rx req
  else if now = req then s
  else if req = 3 then s.dirOff n rx none
  else if now < req then (s.iff rx fun s => s.lockLoss n).set (nowOf n rx) req
  else (s.setHeld n rx (some req)).set (nowOf n rx) 4

/-- LANE_POWER_REQUEST (R340 to R342): `via` is the lane through which the request arrived. -/
def lanePowerRequest (n tx rx : Nat) (via : Option Nat) (s : State) : State :=
  let leaves := tx != 0 && s.get (LN_PWR_tx_now n) == 0
  let rxLeaves := rx != 0 && s.get (LN_PWR_rx_now n) == 0
  if (s.isSource n && rxLeaves) || (via == some n && (leaves || rxLeaves)) || s.role n == 0 ||
      (leaves && s.neededTx n) then s.laneRefuse n
  else
    let s := s.iff (leaves && s.role n == 2 && s.canMove n) fun s => s.moveSlots n
    let s := s.iff (tx != 0 || rx != 0) fun s => s.setOutGrp n true
    (s.dirRequest n false tx).dirRequest n true rx

/-- LANE_WAKE_DONE (R340): the direction reaches the state requested last. -/
def laneWakeDone (n : Nat) (rx : Bool) (s : State) : State :=
  if s.get (nowOf n rx) = 4 then
    let target := (heldOf (s.lane n) rx).getD 0
    let s := (s.setHeld n rx none).set (LN_QUAD_state (n / 4)) 2
    let s := if target = 3 then s.dirOff n rx none else s.set (nowOf n rx) target
    (s.iff (s.rxServes n && s.txServes n) fun s => s.setOutGrp n false).tcGain (n / 8)
  else s

/-! ## Loops (R343, R344) -/

/-- LANE_LOOP_SELECT: a change of loop mode loses symbol lock and restarts the checker. The state from which the
generator of the test data begins, not 0, is a free value. -/
def laneLoopSelect (n loop pattern : Nat) (s : State) : State :=
  if loop ≠ 0 ∧ !s.on (LN_CTRL_out n) then s.laneRefuse n
  else
    let change := loop != s.get (LN_CTRL_loop n)
    let s := (s.set (LN_CTRL_loop n) loop).set (LN_CTRL_pattern n) pattern
    let s := s.iff change fun s => s.lockLoss n
    let (v, s) := s.draw
    let stages := if pattern = 1 then 7 else 31
    (s.setLane n { s.lane n with loopGood := 0, prbs := v.toNat % (2 ^ stages - 1) + 1 }).set (LN_LOOP_CNT_sync n) 0

/-- Errors seen by the synchronised checker (R344). -/
def State.loopErrors (s : State) (n k : Nat) : State :=
  if k = 0 then s
  else
    let first := !(s.lane n).errRaised
    let s := (s.count (LN_LOOP_CNT_errors n) k).setLane n { s.lane n with errRaised := true }
    s.iff first fun s => s.raise 138

/-- The near-end loop of the lane carries PRBS data (R343). -/
def State.prbsLoop (s : State) (n : Nat) : Bool :=
  (s.get (LN_CTRL_loop n) == 1 || s.get (LN_CTRL_loop n) == 2) &&
    (s.get (LN_CTRL_pattern n) == 1 || s.get (LN_CTRL_pattern n) == 2)

/-- LOOP_CHECKER_PATTERN: the checker receives `count` bits, `errors` of them wrong; a run of 64 correct bits
synchronises it. -/
def loopCheckerPattern (n count errors : Nat) (s : State) : State :=
  if !s.prbsLoop n then s
  else if s.on (LN_LOOP_CNT_sync n) then s.loopErrors n errors
  else
    let good := if errors = 0 then (s.lane n).loopGood + count else 0
    if 64 ≤ good then (s.setLane n { s.lane n with loopGood := 0 }).set (LN_LOOP_CNT_sync n) 1
    else s.setLane n { s.lane n with loopGood := good }

/-- A loop-test frame reaches the checker (R344). -/
def State.loopFrame (s : State) (n : Nat) (good : Bool) : State :=
  if s.on (LN_LOOP_CNT_sync n) then s.loopErrors n (b2n (!good))
  else
    let k := if good then (s.lane n).loopGood + 1 else 0
    if 4 ≤ k then (s.setLane n { s.lane n with loopGood := 0 }).set (LN_LOOP_CNT_sync n) 1
    else s.setLane n { s.lane n with loopGood := k }

/-! ## Failure and rejoin (R345 to R351) -/

/-- A member of a group leaves striping by failure: the group re-stripes, and a data receiver naks the first block
missing (R346, R347). -/
def State.restripe (s : State) (n : Nat) : State :=
  if s.get (LN_STATUS_group n) = 0 then s
  else
    let s := (s.setOutGrp n true).flag (LN_STATUS_restripe n) 130
    s.iff (s.role n == 3 && (s.path (n / 8)).started) fun s => s.setPath (n / 8) { s.path (n / 8) with rxNak := true }

/-- A direction of lane `n` fails (R345); a data lane pair fails as one. -/
def State.dirFail (s : State) (n : Nat) (rx : Bool) : State :=
  let l := s.lane n
  let rxF := rx || s.role n == 3
  let txF := !rx || s.role n == 3
  if s.role n = 0 || ((!rxF || l.rxFailed) && (!txF || l.txFailed)) then s
  else
    let s := (s.setLane n { l with
      rxFailed := l.rxFailed || rxF, txFailed := l.txFailed || txF
      goodRx := if rxF then 0 else l.goodRx, goodTx := if txF then 0 else l.goodTx }).set (LN_STATUS_rejoin n) 0
    match s.role n with
    | 2 => if rx then s else s.moveSlots n
    | _ => s.restripe n

/-- A lane fault latches, and the lane is treated as failed (R339, R345). -/
def State.laneFault (s : State) (n : Nat) : State :=
  ((s.flag (LN_STATUS_fault n) 132).dirFail n true).dirFail n false

/-- LOCK_LOST: `many` tells that more than lock_lim losses lie within 1 s (R339). -/
def lockLost (n : Nat) (many : Bool) (s : State) : State :=
  if s.on (LN_STATUS_sym_lock n) then
    ((s.dirFail n true).lockLoss n).iff (many && s.get LN_HEALTH_lock_lim != 0) fun s => s.laneFault n
  else s

/-! ## Eye and health (R338, R339) -/

/-- EYE_MEASUREMENT: `steady` tells that no coefficient changed by more than one step; with eq_freeze none changes. -/
def eyeMeasurement (n eye : Nat) (steady driverFault : Bool) (s : State) : State :=
  if s.role n = 0 then s
  else if s.get (LN_PWR_rx_now n) ≠ 0 then s.iff driverFault fun s => s.laneFault n
  else
    let l := s.lane n
    let lock := s.on (LN_STATUS_sym_lock n)
    let e := if lock then eye else 0
    let warn := if e < s.get LN_HEALTH_eye_warn then l.lowWarn + 1 else 0
    let fail := if e < s.get LN_HEALTH_eye_fail then l.lowFail + 1 else 0
    let st := if (steady || s.on (LN_CTRL_eq_freeze n)) && lock then min 4 (l.steady + 1) else 0
    let s := s.set (LN_EQ_eye n) e
    let s := s.iff lock fun s => s.set (LN_EQ_eye_min n) (if l.eyeSeen then min e (s.get (LN_EQ_eye_min n)) else e)
    let s := s.setLane n { l with lowWarn := min 3 warn, lowFail := min 3 fail, steady := st, eyeSeen := lock || l.eyeSeen }
    let s := s.iff (st == 4) fun s => s.set (LN_EQ_adapted n) 1
    let s := s.iff (decide (3 ≤ warn)) fun s => s.flag (LN_STATUS_eye_warn n) 133
    s.iff (decide (3 ≤ fail) || driverFault) fun s => s.laneFault n

/-- Direction `rx` of lane `n` meets a condition of R345: no symbol lock or a latched fault; or four consecutive frames
with reverse_lost on a synchronous lane, or a latched fault. -/
def State.dirBad (s : State) (n : Nat) (rx : Bool) : Bool :=
  s.on (LN_STATUS_fault n) ||
    (if rx then !s.on (LN_STATUS_sym_lock n) else s.syncLane n && decide (4 ≤ (s.lane n).rev))

/-- LANE_FAILED (R345). -/
def laneFailed (n : Nat) (rx : Bool) (s : State) : State := if s.dirBad n rx then s.dirFail n rx else s

/-- LANE_OUT (R351). -/
def laneOut (n : Nat) (out : Bool) (via : Option Nat) (s : State) : State :=
  if out then
    if s.on (LN_CTRL_out n) then s
    else if s.isSource n || via == some n || s.neededTx n then s.laneRefuse n
    else
      let s := s.iff (s.role n == 2 && (s.canMove n || s.laneNamed n)) fun s => s.moveSlots n
      let s := (s.setOutGrp n true).set (LN_CTRL_out n) 1
      (s.setLane n { s.lane n with rxFailed := true, txFailed := true, goodRx := 0, goodTx := 0 }).set (LN_STATUS_rejoin n) 0
  else (s.set (LN_CTRL_out n) 0).assayCheck

/-- A failed direction of lane `n` has seen enough (R350): 1,024 good frames in lock, or without reverse_lost; a data
lane, whose sync headers nothing counts for the model, is in lock. -/
def State.rejoins (s : State) (n : Nat) (rx : Bool) : Bool :=
  let l := s.lane n
  (if rx then l.rxFailed else l.txFailed) && s.on (LN_STATUS_sym_lock n) &&
    (!s.syncLane n || decide (1024 ≤ if rx then l.goodRx else l.goodTx))

/-- LANE_REJOIN (R350): the failed directions that have seen enough rejoin. -/
def laneRejoin (n : Nat) (s : State) : State :=
  let rx := s.rejoins n true
  let tx := s.rejoins n false
  if (rx || tx) && !s.on (LN_STATUS_fault n) && !s.on (LN_CTRL_out n) then
    let l := s.lane n
    let s := s.setLane n { l with
      rxFailed := l.rxFailed && !rx, txFailed := l.txFailed && !tx, rev := if tx then 0 else l.rev }
    let s := s.iff (s.rxServes n && s.txServes n) fun s => s.setOutGrp n false
    let s := (s.iff tx fun s => s.set (LN_STATUS_degraded n) 0).set (LN_STATUS_rejoin n) 0
    (((s.count (LN_CNT_rejoins n)).raise 136).tcGain (n / 8)).updConflict
  else s

/-- PLL_UNLOCK (R345): the quad PLL loses lock and both directions of its lanes fail. -/
def pllUnlock (q : Nat) (s : State) : State :=
  if s.get (LN_QUAD_state q) = 0 then s
  else
    let s := (s.flag (LN_QUAD_unlock q) 139).set (LN_QUAD_state q) 1
    s.each ((List.range 4).map (4 * q + ·)) fun s n => (((s.dirFail n true).dirFail n false).lockLoss n)

/-- The lane applies the roles of a newly committed plate (R325); `was` are the roles in force before. -/
def State.laneCommit (s : State) (was : PlateRd) (n : Nat) : State :=
  let rd := s.shadowRd
  let q := n / 4
  let mode := lrMode was q != lrMode rd q
  let change := mode || lrRole was n != lrRole rd n || lrGroup was n != lrGroup rd n ||
    lrSpareEn was n != lrSpareEn rd n || lrSpare was n != lrSpare rd n
  let s := (s.set (LN_STATUS_role n) (lrRole rd n)).set (LN_STATUS_group n) (lrGroup rd n)
  let req := if lrRole rd n = 0 then 3 else 0
  let s := s.iff change fun s =>
    s.setLane n { Lane.new with heldRx := (s.lane n).heldRx, heldTx := (s.lane n).heldTx, sent := (s.lane n).sent }
  let s := s.iff change fun s =>
    (s.set (LN_STATUS_degraded n) 0).set (LN_PORT_out_grp (n / 8)) (putBits (s.get (LN_PORT_out_grp (n / 8))) (n % 8) 1 0)
  let s := s.setB (LN_STATUS_serving_spare n) (s.servesFor n).isSome
  let s := s.iff (req == 3) fun s => s.each [false, true] fun s rx => s.dropStart n rx
  s.each [false, true] fun s rx =>
    if change && s.get (nowOf n rx) != 3 && s.get (nowOf n rx) != 5 then
      (s.dirOff n rx (if req = 3 then none else some 0)).set (reqOf n rx) req
    else if change && s.get (nowOf n rx) == 5 then
      (s.setHeld n rx (if req = 3 then none else some 0)).set (reqOf n rx) req
    else if change then (if req = 3 then s else s.dirStart n rx 0).set (reqOf n rx) req
    else s.dirRequest n rx req

/-- Quad `q` takes its mode: on a change its PLL shuts down and starts again (R325). -/
def State.quadCommit (s : State) (was : PlateRd) (q : Nat) : State :=
  let s' := s.set (LN_QUAD_mode q) (lrMode s.shadowRd q)
  if lrMode was q != lrMode s.shadowRd q && s.get (LN_QUAD_state q) != 0 && !s.shut.contains (.quadPll q) then
    { s' with shut := s'.shut ++ [.quadPll q] }
  else s'

/-! ## Forwarded primitives (R375) -/

/-- FB_TP_FWDn may forward `src` on lane `n`. -/
def State.fwdOk (s : State) (n src : Nat) : Bool :=
  src < 48 && s.role src == 2 && s.role n == 2 &&
    !(s.get (LN_QUAD_mode (src / 4)) == 1 && s.get (LN_QUAD_mode (n / 4)) == 0)

/-- FB_TP_FWD.wait: ticks from release to the first frame start at least 8 coarse periods later, rounded down
(R244, R375). -/
def State.fwdWait (s : State) (n : Nat) : Nat :=
  let k := s.get TG_PATH_close
  let start := if s.frameBits n = 640 then (5 * k + 251) % 160 * 1024 / 5 else (k + 57) % 32 * 1024
  if 8192 ≤ start then start else start + 32768

/-- Entries that no longer qualify are cleared and refused; wait of the others follows the rate of their lane (R375). -/
def State.fwdCheck (s : State) : State :=
  let s := s.each ((List.range 48).filter fun n => s.on (FB_TP_FWD_en n)) fun s n => s.set (FB_TP_FWD_wait n) (s.fwdWait n)
  s.each ((List.range 48).filter fun n => s.on (FB_TP_FWD_en n) && !s.fwdOk n (s.get (FB_TP_FWD_src n))) fun s n =>
    (s.set (FB_TP_FWD_en n) 0).flag FB_STATUS_refused 127

/-! ## The commands -/

def execSymbolLock (lane lat : Nat) (s : State) := effect (.symbolLock lane lat) (symbolLock lane lat) s
def execLockLost (lane : Nat) (many : Bool) (s : State) := effect (.lockLost lane many) (lockLost lane many) s
def execSlipWrite (lane slip : Nat) (s : State) := effect (.slipWrite lane slip) (slipWrite lane slip) s
def execEyeMeasurement (lane eye : Nat) (steady driverFault : Bool) (s : State) :=
  effect (.eyeMeasurement lane eye steady driverFault) (eyeMeasurement lane eye steady driverFault) s
def execLanePowerRequest (lane tx rx : Nat) (via : Option Nat) (s : State) :=
  effect (.lanePowerRequest lane tx rx via) (lanePowerRequest lane tx rx via) s
def execLaneWakeDone (lane : Nat) (rx : Bool) (s : State) := effect (.laneWakeDone lane rx) (laneWakeDone lane rx) s
def execLaneLoopSelect (lane loop pattern : Nat) (s : State) :=
  effect (.laneLoopSelect lane loop pattern) (laneLoopSelect lane loop pattern) s
def execLaneOut (lane : Nat) (out : Bool) (via : Option Nat) (s : State) :=
  effect (.laneOut lane out via) (laneOut lane out via) s
def execLaneFailed (lane : Nat) (rx : Bool) (s : State) := effect (.laneFailed lane rx) (laneFailed lane rx) s
def execSpareServeWrite (port bits : Nat) (s : State) := effect (.spareServeWrite port bits) (spareServeWrite port bits) s
def execLaneRejoin (lane : Nat) (s : State) := effect (.laneRejoin lane) (laneRejoin lane) s
def execPllUnlock (quad : Nat) (s : State) := effect (.pllUnlock quad) (pllUnlock quad) s
def execLoopCheckerPattern (lane bits errors : Nat) (s : State) :=
  effect (.loopCheckerPattern lane bits errors) (loopCheckerPattern lane bits errors) s

end Sys2Proof.Machine
end

