-- ==== Sys2Proof/Machine/Fabric.lean ====
section
/-! DEFINITION. The Brodtu fabric: queues, frames, discovery, routing, fast commands, port loss, time transfer and
the time master (R327 to R332, R347, R356 to R390). -/

namespace Sys2Proof.Machine

open Sys2Proof

/-- A report of this module towards the root (R371). -/
def State.report (s : State) (code arg : Nat) : State :=
  s.fastUp (code * 2 ^ 56 + 2 ^ 55 + s.get FB_ADDR_addr * 2 ^ 32 + arg % 2 ^ 32)

/-- An accept joins the queue of port `p`, or is lost there (R370). -/
def State.pushAccept (s : State) (body p : Nat) : State :=
  let q := s.portQ p
  if 64 ≤ q.accepts.length then
    ((s.count FB_CNT2_acc_lost).flag FB_STATUS_cmd_lost 123).report 0x11 (bits body 20 32)
  else s.setPortQ p { q with accepts := q.accepts ++ [(s.nextFrame, body)] }

/-- A message or command is discarded as malformed (R360, R371). -/
def State.fbBad (s : State) : State := s.count FB_CNT_bad

/-- A time error (R387). -/
def State.timeErr (s : State) : State := (s.count FB_CNT3_time_err).flag FB_STATUS_time_err 126

/-! ## Control messages (R359, R360, R368) -/

/-- Body items of an op (R359). -/
def opLen (op : Nat) : Nat := if op ≤ 3 then 1 else if op = 4 then 0 else 2

/-- A head item (R359). -/
def ctHead (op len addr tag hops status be : Nat) : Nat :=
  op * 2 ^ 60 + len * 2 ^ 58 + addr * 2 ^ 46 + tag * 2 ^ 38 + hops * 2 ^ 32 + status * 2 ^ 28 + be * 2 ^ 24

/-- The message is of op `op` and carries its body whole. -/
def isOp (m : CtMsg) (op : Nat) : Bool :=
  ctOp m.head == op && ctLen m.head == opLen op && m.body.length == opLen op

def msgItems (m : CtMsg) : List Nat := m.head :: m.body

/-- The response to a request (R359). -/
def State.response (s : State) (m : CtMsg) (status data : Nat) : State :=
  let h := ctHead (ctOp m.head + 2) 1 (s.get FB_ADDR_addr) (ctTag m.head) 0 status (ctBe m.head)
  s.msgUp [h, bits (m.body.getD 0 0) 32 32 * 2 ^ 32 + data % 2 ^ 32]

/-- A message for `d` meets the secondary port or no route (R368). -/
def State.routeMiss (s : State) : State := (s.count FB_CNT_route_miss).flag FB_STATUS_route_miss 120

/-- The port by which traffic for `d` leaves, with the routing table marked; none where no port serves (R368). -/
def State.routeTo (s : State) (d : Nat) : Option Nat × State :=
  let pri := s.get (FB_ROUTE_pri d)
  let sec := s.get (FB_ROUTE_sec d)
  if !s.on (FB_ROUTE_en d) then (none, s.routeMiss)
  else if s.tcHas pri && !s.on (FB_ROUTE_use_sec d) then (some pri, s)
  else if s.tcHas sec then (some sec, (s.set (FB_ROUTE_use_sec d) 1).routeMiss)
  else if s.tcHas pri then (some pri, s)
  else (none, s.routeMiss)

/-- A request of op `op` arrives: it is executed by `run`, forwarded, or answered (R361, R368). -/
def State.request (s : State) (m : CtMsg) (op : Nat) (run : State → State) : State :=
  if !isOp m op then s.fbBad
  else if !s.on FB_ADDR_valid then s
  else if ctAddr m.head = s.get FB_ADDR_addr then run s
  else if ctHops m.head = 0 then s.response m 9 0
  else match s.routeTo (ctAddr m.head) with
    | (some p, s) => s.pushMsg p ((m.head - 2 ^ 32) :: m.body)
    | (none, s) => s.response m 8 0

/-- A response is forwarded on the control up route (R368). -/
def State.relay (s : State) (m : CtMsg) (op : Nat) : State :=
  if !isOp m op then s.fbBad else if !s.on FB_ADDR_valid then s else s.msgUp (msgItems m)

def readResponse (m : CtMsg) (s : State) : State := s.relay m 2
def writeResponse (m : CtMsg) (s : State) : State := s.relay m 3

/-! ## Discovery (R361 to R366) -/

/-- The probe answer of this module, for a probe or assign on port `p` with tag `tag` (R362). -/
def State.probeAnswerOf (s : State) (p tag : Nat) : List Nat :=
  let present := (List.range 6).foldl (fun v k => v + b2n (s.on (LN_STATUS_sym_lock (8 * k))) * 2 ^ k) 0
  [ctHead 5 2 0 tag 0 0 0, Config.dieSerial.toNat,
   s.get CX_DEVICE_ID_part * 2 ^ 48 + s.get CX_DEVICE_ID_variant * 2 ^ 40 + s.get CX_DEVICE_ID_stepping * 2 ^ 32 +
     present * 2 ^ 16 + s.get FB_ADDR_valid * 2 ^ 15 + p * 2 ^ 12 + s.get FB_ADDR_addr]

def State.answerProbe (s : State) (n tag : Nat) : State :=
  s.setLane n { s.lane n with answers := (s.lane n).answers ++ [s.probeAnswerOf (n / 8) tag] }

/-- PROBE (R363). -/
def probe (n : Nat) (m : CtMsg) (s : State) : State :=
  if !isOp m 4 then s.fbBad else if s.role n = 1 then s.answerProbe n (ctTag m.head) else s

/-- ASSIGN (R365). -/
def assign (n : Nat) (m : CtMsg) (s : State) : State :=
  if !isOp m 6 then s.fbBad
  else if s.role n ≠ 1 ∨ m.body.getD 0 0 ≠ Config.dieSerial.toNat then s
  else
    let w := m.body.getD 1 0
    let s :=
      if !s.on FB_ADDR_valid || !s.acq then
        let s := ((s.set FB_ADDR_addr (bits w 52 12)).set FB_ADDR_depth (bits w 46 6)).set FB_ADDR_valid 1
        let s := State.set { s with fb := { s.fb with tcSec := false } } FB_UP_tc_pri (n / 8)
        ((s.critNext 45).critNext 46).raise 118
      else s
    s.answerProbe n (ctTag m.head)

/-- A fabric write is refused (R366, R375, R392). -/
def State.fbRefuse (s : State) : State := s.flag FB_STATUS_refused 127

/-- Port `p` has timing/control lanes (R392). -/
def State.tcLanes (s : State) (p : Nat) : Bool := decide (p < 6) && (List.range 8).any fun j => s.role (8 * p + j) == 1

/-- A relayed discovery begins (R366). A port whose lanes are not in service sends nothing, and no answer comes. -/
def State.discGo (s : State) (port op : Nat) (msg : List Nat) : State :=
  if s.get FB_DISC_CTRL_state = 1 ∨ !s.tcLanes port ∨ !s.on FB_ADDR_valid then s.fbRefuse
  else
    let s := ((s.set FB_DISC_CTRL_port port).set FB_DISC_CTRL_op op).set FB_DISC_CTRL_state 1
    s.iff (s.tcHas port) fun s => s.pushMsg port msg

/-- DISC_PROBE and DISC_ASSIGN (R366). -/
def discProbe (port : Nat) (s : State) : State := s.discGo port 0 [ctHead 4 0 0 0 0 0 0]
def discAssign (port : Nat) (s : State) : State :=
  s.discGo port 1 [ctHead 6 2 0 0 0 0 0, s.get FB_DISC_ANS_HI_serial * 2 ^ 32 + s.get FB_DISC_ANS_LO_serial,
    s.get FB_DISC_ASSIGN_addr * 2 ^ 52 + s.get FB_DISC_ASSIGN_depth * 2 ^ 46]

/-- PROBE_ANSWER (R366): an answer that nothing waits for is discarded. -/
def probeAnswer (port : Nat) (m : CtMsg) (s : State) : State :=
  if !isOp m 5 then s.fbBad
  else if s.get FB_DISC_CTRL_state ≠ 1 ∨ s.get FB_DISC_CTRL_port ≠ port then s
  else
    let w := m.body.getD 1 0
    let serial := m.body.getD 0 0
    let s :=
      if s.get FB_DISC_CTRL_op = 0 then
        let s := (s.set FB_DISC_ANS_LO_serial serial).set FB_DISC_ANS_HI_serial (serial / 2 ^ 32)
        (s.set FB_DISC_INFO_info w).set FB_DISC_CTRL_state 2
      else
        let d := s.get FB_DISC_ASSIGN_addr
        if bit w 15 && bits w 0 12 == d then
          let s := s.set FB_DISC_CTRL_state 4
          if s.on (FB_ROUTE_en d) then s
          else
            let s := (s.set (FB_ROUTE_en d) 1).set (FB_ROUTE_pri d) port
            (s.set (FB_ROUTE_sec d) 0xF).set (FB_ROUTE_use_sec d) 0
        else s.set FB_DISC_CTRL_state 5
    s.raise 119

/-- DISC_TIMEOUT (R366). -/
def discTimeout (s : State) : State :=
  if s.get FB_DISC_CTRL_state = 1 then
    (s.set FB_DISC_CTRL_state (if s.get FB_DISC_CTRL_op = 0 then 3 else 5)).raise 119
  else s

/-! ## Fast commands (R370, R371) -/

def fcCode (w : Nat) : Nat := bits w 56 8
def fcArg (w : Nat) : Nat := bits w 0 32

/-- A fast command away from the root, received on its port: it acts here, is forwarded, or both. A broadcast is taken from
the active control up port alone (R370). -/
def State.fastCmd (s : State) (i : FastIn) (code : Nat) (act : State → State) : State :=
  let w := i.item
  if fcCode w ≠ code ∨ bit w 55 then s.fbBad
  else if !s.on FB_ADDR_valid then s
  else if bit w 54 then
    if s.upPort = some i.port then s.downPorts.foldl (fun s p => s.pushFast p w s.nextFrame) (act s) else s
  else if bits w 32 12 = s.get FB_ADDR_addr then act s
  else match s.routeTo (bits w 32 12) with
    | (some p, s) => s.pushFast p w
    | (none, s) => s

/-- FC_MT_LOAD (R371). -/
def fcMtLoad (w : FastIn) (s : State) : State :=
  s.fastCmd w 1 fun s => mtLoad (s.set CX_MT_LOAD_ORBIT_orbit (fcArg w.item))

/-- FORCE_FREEZE and HISTOGRAM_SWAP (R371). -/
def forceFreeze (w : FastIn) (s : State) : State := s.fastCmd w 4 freezeForce
def histogramSwap (w : FastIn) (s : State) : State := s.fastCmd w 5 histSwapWrite

/-- A report towards the root is forwarded and never acted on (R371). -/
def State.forwardReport (s : State) (w code : Nat) : State :=
  if fcCode w ≠ code ∨ !bit w 55 then s.fbBad else if s.on FB_ADDR_valid then s.fastUp w else s

def frameGap (w : Nat) (s : State) : State := s.forwardReport w 0x10
def acceptLost (w : Nat) (s : State) : State := s.forwardReport w 0x11

/-! ## Frames (R327 to R332) -/

/-- The scrambler's output over `n` bits from the all-ones state, x^23 + x^18 + 1 (R329). -/
def scrambler : Nat → Nat → List Bool
  | 0, _ => []
  | n + 1, st =>
    let b := xor (bit st 22) (bit st 17)
    b :: scrambler n ((st * 2 + b2n b) % 2 ^ 23)

/-- The number whose bits, lowest first, are given. -/
def ofBits : List Bool → Nat
  | [] => 0
  | b :: bs => b2n b + 2 * ofBits bs

/-- The comma, in the order in which its bits leave (R327). -/
def comma : List Bool := [false, false, true, true, true, true, true, false, false, false]

/-- CRC-16 over the header and the unscrambled payload of `n` bits in wire order (R329). -/
def syncCrc (header payload n : Nat) : Nat :=
  (bitsUp header 6 ++ bitsUp payload n).foldl (crcBit 16 0x1021) 0xFFFF

/-- A frame as it leaves on a lane of `f` bits a frame. -/
def frameOut (f header payload : Nat) : FrameOut :=
  let n := f - 32
  let crc := syncCrc header payload n
  let scr := (bitsUp payload n).zipWith xor (scrambler n (2 ^ 23 - 1))
  ⟨header, payload, crc, ofBits (comma ++ bitsUp header 6 ++ scr ++ bitsUp crc 16)⟩

/-- The header (R328); before the domain has started orbit is 0 (R326). -/
def State.header (s : State) (n kind : Nat) (b1 : Bool) : Nat :=
  kind * 16 + b2n (!s.on (LN_STATUS_sym_lock n)) * 8 + s.get CX_MT_STATUS_holdover * 4 + b2n b1 * 2 +
    b2n (s.mt.running && s.mt.bucket == 0)

/-- Ticks from an arrival to the departure of the frame of the current bucket, within an orbit (R382). -/
def State.residence (s : State) (arrival : Nat) : Nat :=
  let orbit := 32768 * s.mt.nb
  wrapSub orbit (32768 * s.mt.bucket + 14336) arrival

/-- The rank of a Solam item among those due (R383). -/
def Solam.rank : Solam → Nat
  | .resp _ _ => 0
  | .sync _ _ _ => 1
  | .announce _ => 2
  | .req _ => 3

/-- The item as it leaves, its hallmarks written (R382 to R385). -/
def State.hallmark (s : State) : Solam → Nat
  | .resp seq ta => 3 * 2 ^ 61 + seq % 16 * 2 ^ 57 + s.residence ta % 2 ^ 25
  | .sync item corr ta => putBits item 0 25 (min 0x1FFFFFF (corr + s.residence ta))
  | .announce item => item
  | .req seq => 2 * 2 ^ 61 + seq % 16 * 2 ^ 57

/-- The Solam item that leaves next from a queue in the frame of the bucket counted `t`, and the rest. -/
def takeSolam (t : Nat) (l : List (Nat × Solam)) : Option ((Nat × Solam) × List (Nat × Solam)) :=
  match (l.filter fun x => decide (x.1 ≤ t)).foldl (fun best x => match best with
    | none => some x
    | some b => if x.2.rank < b.2.rank then some x else best) none with
  | some x => some (x, l.erase x)
  | none => none

/-- Messages that fit whole into `room` items, in order, and the rest (R360). -/
def takeMsgs : Nat → List (List Nat) → List Nat × List (List Nat)
  | _, [] => ([], [])
  | room, m :: ms => if m.length ≤ room then
      let r := takeMsgs (room - m.length) ms
      (m ++ r.1, r.2)
    else ([], m :: ms)

/-- A timing/control payload of typed items (R330). -/
def tcPayload (items : List (Nat × Nat)) : Nat :=
  ((List.range items.length).zip items).foldl (fun v e => v + e.2.1 * 2 ^ (3 * e.1) + e.2.2 * 2 ^ (32 + 64 * e.1)) 0

/-- The busy bit sent on port `p` (R372). -/
def State.busyOut (s : State) (p : Nat) : Bool :=
  s.on RC_BUSY_busy || (s.upPort == some p && s.downPorts.any fun q => (s.portQ q).busy)

/-- Lane `n` carries items of its port: the lowest lane in service, and the members in service of its group (R347,
R357). -/
def State.carriers (s : State) (p : Nat) : List Nat :=
  match s.serving p 1 with
  | [] => []
  | m :: ms => m :: ms.filter fun n =>
      s.get (LN_STATUS_group m) != 0 && s.get (LN_STATUS_group n) == s.get (LN_STATUS_group m)

/-- The items of lane `n` in a frame of its port, taken from the lane's answers and, as `carries` tells, from the port's
queues; Solam items and accepts on the lowest-numbered carrier alone (R347, R369). Before the domain has started nothing
but answers is sent (R326, R364). -/
def State.fillTc (s : State) (n : Nat) (carries lowest : Bool) : State :=
  let p := n / 8
  let cap := if s.frameBits n = 640 then 9 else 3
  let q := s.portQ p
  let lowest := lowest && s.mt.running
  let carries := carries && s.mt.running
  let sol := if lowest then takeSolam s.clock q.solam else none
  let solItems := match sol with
    | some (x, _) => [(3, s.hallmark x.2)]
    | none => []
  let room := cap - solItems.length
  let ready := fun l : List (Nat × Nat) => (l.takeWhile fun e => decide (e.1 ≤ s.clock)).length
  let nAcc := if lowest then min (min room (cap - 1 + b2n (cap == 3))) (ready q.accepts) else 0
  let nFast := if carries then min (room - nAcc) (ready q.fast) else 0
  let room := room - nAcc - nFast
  let own := takeMsgs room (s.lane n).answers
  let rest := if carries && own.2 == [] then takeMsgs (room - own.1.length) q.msgs else ([], q.msgs)
  let items := solItems ++ (q.accepts.take nAcc).map (fun e => (1, e.2)) ++ (q.fast.take nFast).map (fun e => (2, e.2)) ++
    (own.1 ++ rest.1).map (4, ·)
  let solam := match sol with
    | some (_, l) => l
    | none => q.solam
  let s := s.setPortQ p { q with
    solam := solam, accepts := q.accepts.drop nAcc, fast := q.fast.drop nFast, msgs := rest.2 }
  s.setLane n { s.lane n with answers := own.2, due := some (s.clock, tcPayload items) }

/-- The payload of lane `n` for the current bucket is filled already. -/
def State.filled (s : State) (n : Nat) : Bool := (s.lane n).due.any fun e => e.1 == s.clock

/-- The timing/control frame of lane `n`: the members of a group fill their frames of one bucket in ascending lane number
(R347). -/
def State.sendTc (s : State) (n : Nat) : State :=
  let cs := s.carriers (n / 8)
  let fill (s : State) (m : Nat) : State := if s.filled m then s else s.fillTc m true (cs.head? == some m)
  let s := if s.filled n then s else if cs.contains n then s.each cs fill else s.fillTc n false false
  let payload := match (s.lane n).due with
    | some (_, v) => v
    | none => 0
  s.setLane n { s.lane n with
    due := none, sent := some (frameOut (s.frameBits n) (s.header n 0 (s.busyOut (n / 8))) payload) }

/-- An own chaser's word goes into slot `j` of lane `n`. -/
def State.ownSlot (s : State) (n j : Nat) : Bool :=
  (List.range 32).any fun c => s.sends c && s.effLane (chLane s.rd c) == n && chSlot s.rd c == j

/-- The word that lane `m` forwards in slot `j` of its frame of the current bucket (R375). -/
def State.fwdWord (s : State) (m j : Nat) : Nat :=
  match (s.lane m).fwd.find? fun e => e.1 == s.clock with
  | some e => if s.on (FB_TP_FWD_en m) then bits e.2 (32 * j) 32 else 0
  | none => 0

/-- The trigger-primitive frame of lane `n` (R241, R349, R375). A lane whose slots its spare carries sends empty slots,
and the spare the slots of both (R348). -/
def State.sendTp (s : State) (n : Nat) : State :=
  let slots := List.range ((s.frameBits n - 32) / 32)
  let from_ := if s.served n then [] else match s.servesFor n with
    | some k => [k, n]
    | none => [n]
  let fwd := fun j => (from_.map fun m => s.fwdWord m j).foldl (fun v w => if v = 0 then w else v) 0
  let own := fun j => from_.foldl (fun v m => if v = 0 then Sparse.get 0 (32 * m + j) s.tg.words else v) 0
  let mine := fun j => from_ != [] && s.ownSlot n j
  let word := fun j => if own j != 0 || mine j then own j else fwd j
  let clash := (slots.filter fun j => mine j && fwd j != 0).length
  let payload := slots.foldl (fun v j => v + word j * 2 ^ (32 * j)) 0
  let frame := frameOut (s.frameBits n) (s.header n 1 (s.on (LN_STATUS_degraded n))) payload
  let old := fun e : Nat × Nat => decide (s.clock < e.1)
  let s := s.each from_ fun s m => s.setLane m { s.lane m with fwd := (s.lane m).fwd.filter old }
  (s.count FB_CNT3_tp_collide clash).setLane n { s.lane n with sent := some frame }

/-- `n` bits of a PRBS x^a + x^(a−1+…) whose taps are `t` and `a`, from a state, and the state after them (R343). -/
def prbsBits (a t : Nat) : Nat → Nat → List Bool × Nat
  | 0, st => ([], st)
  | n + 1, st =>
    let b := xor (bit st (a - 1)) (bit st (t - 1))
    let r := prbsBits a t n ((st * 2 + b2n b) % 2 ^ a)
    (b :: r.1, r.2)

/-- The PRBS data of lane `n` for one frame time: x^7 + x^6 + 1 or x^31 + x^28 + 1 (R343). -/
def State.sendPrbs (s : State) (n : Nat) : State :=
  let f := s.frameBits n
  let r := if s.get (LN_CTRL_pattern n) = 1 then prbsBits 7 6 f (s.lane n).prbs else prbsBits 31 28 f (s.lane n).prbs
  s.setLane n { s.lane n with prbs := r.2, sent := some ⟨0, 0, 0, ofBits r.1⟩ }

/-- FRAME_TRANSMIT (R332, R343): in a near-end serial loop the land is quiet, in a near-end parallel loop it sends the
test data, and in a far-end loop what the receiver recovers (FRAME_RECEIVED). -/
def frameTransmit (n : Nat) (s : State) : State :=
  if !s.syncLane n || s.get (LN_PWR_tx_now n) != 0 then s
  else match s.get (LN_CTRL_loop n) with
    | 0 => if s.role n = 1 then s.sendTc n else if s.role n = 2 then s.sendTp n else s
    | 1 => s.setLane n { s.lane n with sent := none }
    | 2 => if s.prbsLoop n then s.sendPrbs n
      else s.setLane n { s.lane n with sent := some (frameOut (s.frameBits n) (s.header n 2 false) 0) }
    | _ => s

/-- Progress of a lane's failed directions with one good frame, with or without reverse_lost; LN_STATUS.rejoin shows the
one that is least far (R350; DESIGN CHOICE where both have failed). -/
def State.rejoinStep (s : State) (n : Nat) (rev : Bool) : State :=
  let l := s.lane n
  let rx := if l.rxFailed then min 1024 (l.goodRx + 1) else 1024
  let tx := if l.txFailed then (if rev then 0 else min 1024 (l.goodTx + 1)) else 1024
  if (l.rxFailed || l.txFailed) && !s.on (LN_CTRL_out n) then
    (s.setLane n { l with goodRx := rx, goodTx := tx }).set (LN_STATUS_rejoin n) (min rx tx)
  else s

/-- FRAME_RECEIVED (R331, R343, R345, R350). -/
def frameReceived (n : Nat) (f : FrameIn) (s : State) : State :=
  if !s.on (LN_STATUS_sym_lock n) || !s.syncLane n || s.role n == 0 then s
  else
    let kind := bits f.header 4 2
    let loop := (s.get (LN_CTRL_loop n) == 1 || s.get (LN_CTRL_loop n) == 2) && !s.prbsLoop n
    let s := s.iff (s.get (LN_CTRL_loop n) == 3) fun s => s.setLane n { s.lane n with
      sent := if f.crcOk then some (frameOut (s.frameBits n) f.header f.payload) else none }
    let s := s.iff loop fun s => s.loopFrame n f.crcOk
    if !f.crcOk || kind == 3 then
      let s := s.setLane n { s.lane n with goodRx := 0, goodTx := 0 }
      ((s.count (LN_CNT_crc n)).flag (LN_STATUS_crc n) 129).set (LN_STATUS_rejoin n) 0
    else
      let l := s.lane n
      let rev := bit f.header 3
      let s := s.setLane n { l with
        rev := if rev then min 4 (l.rev + 1) else 0
        frames := if kind = 2 then l.frames else l.frames ++ [f] }
      s.rejoinStep n rev

/-- Items of a timing/control payload, as (type, item). -/
def tcItems (cap payload : Nat) : List (Nat × Nat) :=
  (List.range cap).map fun i => (bits payload (3 * i) 3, bits payload (32 + 64 * i) 64)

/-- Messages of a reserved op among the control items of a frame (R360): those of another op are handed to the command
of their op, which judges their length. -/
def badMsgs : Nat → List Nat → Nat
  | _, [] => 0
  | k + 1, _ :: hs => badMsgs k hs
  | 0, h :: hs =>
    b2n (decide (7 ≤ ctOp h)) + badMsgs (ctLen h) hs

/-- A fast command of an unknown code or with the wrong dir (R371). -/
def fcBad (w : Nat) : Bool :=
  if bit w 55 then fcCode w != 0x10 && fcCode w != 0x11 else fcCode w == 0 || decide (5 < fcCode w)

/-- Lane `n` is a member of a group, and not the lowest-numbered one in service (R347). -/
def State.lesserMember (s : State) (n : Nat) : Bool :=
  let g := s.get (LN_STATUS_group n)
  g != 0 && ((s.serving (n / 8) 1).find? fun m => s.get (LN_STATUS_group m) == g) != some n

/-- Items as their frame is released (R330, R331, R347, R370): accepts of the control up port reach the trigger engine in
this bucket and are forwarded, items of reserved types and codes counted; the others have commands of their own. -/
def State.releaseItem (s : State) (n : Nat) (e : Nat × Nat) : State :=
  match e.1 with
  | 1 =>
    if s.lesserMember n then s.count (LN_CNT_bad_item n)
    else if s.upPort == some (n / 8) then
      let s := s.iff s.mt.running fun s => { s with tg := { s.tg with arrived := s.tg.arrived ++ [e.2] } }
      s.iff (s.on FB_ADDR_valid) fun s => s.downPorts.foldl (fun s p => s.pushAccept e.2 p) s
    else s
  | 2 => if s.on FB_ADDR_valid && fcBad e.2 then s.fbBad else s
  | 3 => if s.on FB_ADDR_valid && (bits e.2 61 3 == 0 || decide (5 ≤ bits e.2 61 3)) then s.timeErr else s
  | 0 | 4 => s
  | _ => s.count (LN_CNT_bad_item n)

/-- A trigger-primitive frame released at the edge that opens the current bucket goes into the first frame of each lane
that forwards it to start 8 coarse periods later, in this bucket or the next; degraded, it gives zeros (R375). -/
def State.releaseTp (s : State) (n : Nat) (f : FrameIn) : State :=
  s.each ((List.range 48).filter fun m => s.on (FB_TP_FWD_en m) && s.get (FB_TP_FWD_src m) == n) fun s m =>
    let at_ := s.clock + b2n (decide (32768 ≤ s.fwdWait m))
    s.setLane m { s.lane m with
      fwd := (s.lane m).fwd.filter (fun e => e.1 != at_) ++ [(at_, if bit f.header 1 then 0 else f.payload)] }

/-- The gap on the source lane ends: it is reported (R373). -/
def State.gapEnd (s : State) (n : Nat) : State :=
  match s.fb.gap with
  | some (b, k) =>
    if s.isSource n then
      (State.report { s with fb := { s.fb with gap := none } } 0x10 (b * 65536 + min k 0xFFFF)).flag FB_STATUS_cmd_lost 123
    else s
  | none => s

/-- FRAME_RELEASE (R334 to R337, R364): the oldest frame of the lane is released with `margin`; where a slip moved the
release to an earlier edge the older of two is discarded. A lane out of service or failed carries no traffic (R351). -/
def frameRelease (n margin : Nat) (s : State) : State :=
  let f := s.frameBits n
  let margin := if s.isSource n then f / 8 else margin
  let lat := if s.isSource n then 3 * f / 8 else s.tMin n + s.get (LN_RX_ALIGN_slip_now n) + margin
  let two := s.on (LN_RX_LAT_valid n) && lat + f == s.get (LN_RX_LAT_lat n)
  let l := s.lane n
  match (if two && decide (2 ≤ l.frames.length) then l.frames.drop 1 else l.frames) with
  | [] => s
  | g :: rest =>
    if f ≤ margin then s
    else
      let s := s.setLane n { l with frames := rest }
      let s := if s.mt.running then
          let edge := !s.isSource n && (decide (margin < 16) || decide (f - 17 < margin))
          let s := (s.set (LN_RX_LAT_valid n) 1).setB (LN_RX_LAT_edge n) edge
          ((s.set (LN_RX_LAT_margin n) margin).set (LN_RX_LAT_lat n) lat).slipStep n
        else s
      let s := s.gapEnd n
      let kind := bits g.header 4 2
      if s.rxServes n = false then s
      else if kind = 0 ∧ s.role n = 1 then
        let p := n / 8
        let s := s.setPortQ p { s.portQ p with busy := bit g.header 1 }
        let items := tcItems (if f = 640 then 9 else 3) g.payload
        let s := s.each items fun s e => s.releaseItem n e
        s.count FB_CNT_bad (badMsgs 0 ((items.filter fun e => e.1 == 4).map (·.2)))
      else if kind = 1 ∧ s.role n = 2 then s.releaseTp n g
      else s

/-- SOURCE_FRAME_GAP (R373). -/
def sourceFrameGap (s : State) : State :=
  if s.mt.running && s.get CX_MT_STATUS_src == 1 then
    let gap := match s.fb.gap with
      | some (b, k) => some (b, k + 1)
      | none => some (s.mt.bucket, 1)
    State.count { s with fb := { s.fb with gap := gap } } FB_CNT2_gap
  else s

/-! ## Port loss and return (R376 to R380) -/

/-- The MT source lane moves to the lowest lane in service of the active control up port (R376, R379). -/
def State.timeMove (s : State) : State :=
  match s.upPort with
  | some p => match (s.serving p 1).head? with
    | some n => s.setSrcLane n
    | none => s
  | none => s

/-- The loss of tc service of port `p` (R376 steps 1 to 3). -/
def State.tcLost (s : State) (p : Nat) : State :=
  let up := s.upPort == some p
  let used := up || bit (s.get FB_DOWN_ports) p || (List.range 4096).any fun d =>
    s.on (FB_ROUTE_en d) && (if s.on (FB_ROUTE_use_sec d) then s.get (FB_ROUTE_sec d) == p else s.get (FB_ROUTE_pri d) == p)
  let s := s.set FB_PORTS_tc_up (Nat.land (s.get FB_PORTS_tc_up) (Nat.xor 0x3F (2 ^ p)))
  let s := ({ s with fb := { s.fb with lost := Nat.lor s.fb.lost (2 ^ p) } }).linkClear p
  if !used then s
  else
    let s := s.flag FB_STATUS_port_lost 116
    let moves := (List.range 4096).filter fun d =>
      s.on (FB_ROUTE_en d) && s.get (FB_ROUTE_pri d) == p && !s.on (FB_ROUTE_use_sec d) && s.tcHas (s.get (FB_ROUTE_sec d))
    let s := s.each moves fun s d => s.set (FB_ROUTE_use_sec d) 1
    let moved := up && s.upPort.isSome
    let s := if up then { s with fb := { s.fb with tcSec := s.upOrder.1 == s.get FB_UP_tc_pri && s.tcHas s.upOrder.2 } } else s
    let s := s.moveItems p
    let s := s.iff (moved || moves != []) State.rerouted
    if s.get CX_MT_STATUS_src = 1 ∧ s.get CX_MT_STATUS_src_lane / 8 = p then (sourceLost s).timeMove else s

/-- The fragments handed to the path of port `p` and not wholly acknowledged are handed to that of `q`, from block 0
(R308, R378). -/
def State.moveFrags (s : State) (p q : Nat) : State :=
  let held := (s.path p).frags.map fun f => { f with next := 0 }
  let s := s.setPath p { s.path p with frags := [], out := [], resend := 0 }
  s.setPath q { s.path q with frags := (s.path q).frags ++ held }

/-- The loss of data service of port `p` (R376 steps 1 and 4). A return that waits is given up where the primary, to which
it goes, is lost (R379). -/
def State.dataLost (s : State) (p : Nat) : State :=
  let used := s.dataUp == some p
  let s := s.set FB_PORTS_data_up (Nat.land (s.get FB_PORTS_data_up) (Nat.xor 0x3F (2 ^ p)))
  let s := { s with fb := { s.fb with
    lost := Nat.lor s.fb.lost (2 ^ (p + 8)), dReturn := s.fb.dReturn && !used && p != s.get FB_UP_d_pri } }
  if !used then (s.pathLost p none).busyEval
  else
    let s := s.flag FB_STATUS_port_lost 116
    match s.dataUp with
    | some q =>
      let s := { s with str := { s.str with dSec := q != s.get FB_UP_d_pri } }
      (s.pathLost p (some q)).rerouted.busyEval
    | none => (s.pathLost p none).busyEval

/-- A data path of port `p` starts afresh (R306). Where the data up route had no service it resumes there, with what waited
on its other port; a return to the primary waits for the secondary path (R378, R379). -/
def State.dataGain (s : State) (p : Nat) : State :=
  let none? := s.dataUp.isNone
  let pri := s.get FB_UP_d_pri
  let sec := s.get FB_UP_d_sec
  let s := s.set FB_PORTS_data_up (Nat.lor (s.get FB_PORTS_data_up) (2 ^ p))
  let s := { s with fb := { s.fb with lost := putBits s.fb.lost (p + 8) 1 0 } }
  let s := s.pathStart p
  if none? && (p == pri || p == sec) then
    let other := if p == pri then sec else pri
    let moved := s.str.dSec != (p != pri)
    let s := { s with str := { s.str with dSec := p != pri } }
    let s := s.iff (decide (other < 6) && other != p) fun s => s.moveFrags other p
    s.iff moved State.rerouted
  else if s.str.dSec && p == pri && s.on FB_CTRL_revert then
    State.dataReturn { s with fb := { s.fb with dReturn := true } }
  else s

/-- PORT_LOST (R376, R380): the lanes of the port no longer give the service. -/
def portLost (p : Nat) (data : Bool) (s : State) : State :=
  if data then if bit (s.get FB_PORTS_data_up) p && s.serving p 3 == [] then s.dataLost p else s
  else if bit (s.get FB_PORTS_tc_up) p && s.serving p 1 == [] then s.tcLost p
  else s

/-- PORT_REGAINED (R378, R379). -/
def portRegained (p : Nat) (data : Bool) (s : State) : State :=
  if data then
    if bit (s.get FB_PORTS_data_up) p || s.serving p 3 == [] then s else (s.dataGain p).busyEval
  else if bit (s.get FB_PORTS_tc_up) p || s.serving p 1 == [] then s
  else s.tcUp p

/-- TIME_FOLLOW (R379): the source lane moves to the active control up port as a change of source (R101). -/
def timeFollow (s : State) : State :=
  if s.upPort.isNone then s
  else
    let s := if s.get CX_MT_STATUS_state = 1 ∧ s.get CX_MT_STATUS_src = 1 then s.trackLost 1 false else s
    s.timeMove

/-! ## Solam time transfer (R381 to R388) -/

/-- A Solam item joins the queue of port `p`, to leave from the frame of the bucket counted `from_` on. -/
def State.pushSolam (s : State) (p from_ : Nat) (x : Solam) : State :=
  s.setPortQ p { s.portQ p with solam := (s.portQ p).solam ++ [(from_, x)] }

/-- PDELAY_TIMER (R384). -/
def pdelayTimer (s : State) : State :=
  s.each ((List.range 6).filter fun p => s.tcHas p && (s.get FB_UP_tc_pri == p || s.get FB_UP_tc_sec == p)) fun s p =>
    let q := s.portQ p
    let live := q.asked.filter fun e => decide (s.clock ≤ e.2 + 64) && e.1 != q.seq
    s.setPortQ p { q with
      asked := (q.seq, s.clock) :: live, seq := (q.seq + 1) % 16, solam := q.solam ++ [(s.clock, .req q.seq)] }

/-- PDELAY_REQ (R384): answered; `ta` is the arrival of its frame, as a tick of the orbit. -/
def pdelayReq (p seq ta : Nat) (s : State) : State := if s.on FB_ADDR_valid then s.pushSolam p s.clock (.resp seq ta) else s

/-- PDELAY_RESP (R384): `rtt` is t4 − t1 in ticks, of the request that its seq names. -/
def pdelayResp (p seq turnaround : Nat) (rtt : Int) (s : State) : State :=
  if !s.on FB_ADDR_valid then s
  else
    let q := s.portQ p
    let d := (rtt - (turnaround : Int)).fdiv 2
    let rest := q.asked.filter fun e => e.1 != seq
    if (q.asked.any fun e => e.1 == seq) ∧ 0 ≤ d ∧ d < 2 ^ 24 ∧ rtt ≤ 64 * 32768 then
      let l := (d.toNat :: q.delays).take 16
      let s := s.setPortQ p { q with asked := rest, delays := l }
      if l.length = 16 then
        (s.set (FB_LINK_delay p) (l.foldl (· + ·) 0 / 16)).set (FB_LINK_valid p) 1
      else s
    else (s.setPortQ p { q with asked := rest }).timeErr

/-- The fabric releases holdover with offset D − D_ref (R389, R390). -/
def State.fabricRelease (s : State) (off : Int) : State :=
  if s.get CX_MT_STATUS_state = 2 ∧ s.mt.fabricHold then
    let s := { s with mt := { s.mt with fabricHold := false }, fb := { s.fb with follow := true } }
    if 2 * off.natAbs ≤ 32768 * s.mt.nb then s.slewStart off
    else
      let s := State.set { s with mt := { s.mt with offset := off } } CX_MT_OFFSET_ticks (unsigned 32 off)
      s.flag CX_MT_STATUS_unresolved 53
  else s

/-- The arrival of the frame released in the current bucket on the MT source lane, as a tick of the orbit: while the lane
makes the bucket edges it is b − 1 : 20,480 exactly; otherwise it is measured, as `ta` (R335, R382). -/
def State.arrival (s : State) (ta : Nat) : Nat :=
  if s.get CX_MT_STATUS_state = 1 ∧ s.get CX_MT_STATUS_src = 1 then
    wrapSub (32768 * s.mt.nb) (32768 * s.mt.bucket) 12288
  else ta

/-- SYNC (R385 to R390): `ta` is the arrival of its frame, as a tick of the orbit. -/
def sync (w ta : Nat) (s : State) : State :=
  let p := s.get CX_MT_STATUS_src_lane / 8
  let c := bits w 0 25
  let ta := s.arrival ta
  if !s.on FB_ADDR_valid then s
  else if c = 0x1FFFFFF ∨ !s.on (FB_LINK_valid p) then
    State.timeErr { s with fb := { s.fb with syncs := 0 } }
  else
    let orbit := 32768 * s.mt.nb
    let d := s.get (FB_LINK_delay p)
    let raw : Int := ((bits w 40 16 * 32768 + bits w 25 15 + c + d : Nat) : Int) - (ta : Int)
    let m := (raw % (orbit : Int)).toNat
    let dd : Int := if orbit < 2 * m then (m : Int) - (orbit : Int) else m
    let s := s.set FB_TIME_D_d (unsigned 32 dd)
    let s := if s.fb.refDue && s.get CX_MT_STATUS_state == 1 then
        State.set { s with fb := { s.fb with refDue := false } } FB_TIME_DREF_d (unsigned 32 dd)
      else s
    let off := dd - signed 32 (s.get FB_TIME_DREF_d)
    let s := s.iff (s.get CX_MT_STATUS_state == 1 && decide (1024 < off.natAbs)) State.timeErr
    let s := if s.get CX_MT_STATUS_state = 3 ∧ s.fb.follow then
        State.set { s with mt := { s.mt with offset := off } } CX_MT_OFFSET_ticks (unsigned 32 off)
      else s
    let s := if s.get FB_TIME_STATUS_state = 3 then
        let k := s.fb.syncs + 1
        let s := { s with fb := { s.fb with syncs := k } }
        if s.get FB_TIME_CTRL_qual ≤ k then (s.set FB_TIME_STATUS_state 1).fabricRelease off else s
      else s
    s.downPorts.foldl (fun s q => s.pushSolam q s.nextFrame (.sync w (c + d) ta)) s

/-! ## The time master (R388, R389) -/

/-- The fabric orders holdover (R101, R389). -/
def State.orderHold (s : State) : State := if s.get CX_MT_STATUS_state = 1 then s.trackLost 2 true else s

/-- A new master is set (R389). -/
def State.newMaster (s : State) (prio master state : Nat) : State :=
  let s := ((s.set FB_TIME_STATUS_prio prio).set FB_TIME_STATUS_master master).set FB_TIME_STATUS_state state
  (State.set { s with fb := { s.fb with cand := none, syncs := 0 } } FB_STATUS_master 1).raise 122

/-- A master ranks above another (R389). -/
def ranksAbove (a b : Nat × Nat) : Bool := decide (a.1 < b.1) || (a.1 == b.1 && decide (a.2 < b.2))

/-- An item that announces `prio`, `master` counts towards its election (R389). -/
def State.elect (s : State) (prio master : Nat) : State :=
  let st := s.get FB_TIME_STATUS_state
  let k := match s.fb.cand with
    | some (p, m, k) => if p = prio ∧ m = master then k + 1 else 1
    | none => 1
  let s := { s with fb := { s.fb with cand := some (prio, master, k) } }
  if k < s.get FB_TIME_CTRL_qual then s
  else match st with
    | 0 => s.newMaster prio master 1
    | 1 => if ranksAbove (prio, master) (s.get FB_TIME_STATUS_prio, s.get FB_TIME_STATUS_master) then
        s.orderHold.newMaster prio master 3
      else s
    | 2 => s.newMaster prio master 3
    | _ => s

/-- ANNOUNCE (R388, R389), received on the MT source lane. -/
def announce (w : Nat) (s : State) : State :=
  if !s.on FB_ADDR_valid then s
  else
    let prio := bits w 53 8
    let master := bits w 41 12
    let steps := bits w 35 6
    let orbit := bits w 0 32
    let s := s.elect prio master
    let elected := (s.get FB_TIME_STATUS_state == 1 || s.get FB_TIME_STATUS_state == 3) &&
      s.get FB_TIME_STATUS_master == master && s.get FB_TIME_STATUS_prio == prio
    let s := s.iff elected fun s => s.set FB_TIME_STATUS_steps steps
    let s :=
      if elected && decide (2 * s.mt.bucket < s.mt.nb) then
        if !s.on CX_MT_STATUS_mt_valid then
          if s.acq then s else { s with mt := { s.mt with held := true, place := some ((orbit + 1) % 2 ^ 32) } }
        else s.iff (orbit != s.mt.orbit) State.timeErr
      else s
    if steps = 63 then s
    else s.downPorts.foldl (fun s q => s.pushSolam q s.nextFrame (.announce (putBits w 35 6 (steps + 1)))) s

/-- MASTER_LOST (R389). -/
def masterLost (s : State) : State :=
  if s.get FB_TIME_STATUS_state = 1 then
    let s := { s.orderHold with fb := { s.orderHold.fb with cand := none } }
    ((s.set FB_TIME_STATUS_state 2).set FB_STATUS_master 1).raise 121
  else s

/-! ## The commands -/

def execFrameTransmit (lane : Nat) (s : State) := effect (.frameTransmit lane) (frameTransmit lane) s
def execFrameReceived (lane : Nat) (frame : FrameIn) (s : State) :=
  effect (.frameReceived lane frame) (frameReceived lane frame) s
def execFrameRelease (lane margin : Nat) (s : State) := effect (.frameRelease lane margin) (frameRelease lane margin) s
def execSourceFrameGap (s : State) := effect .sourceFrameGap sourceFrameGap s
def execReadResponse (msg : CtMsg) (s : State) := effect (.readResponse msg) (readResponse msg) s
def execWriteResponse (msg : CtMsg) (s : State) := effect (.writeResponse msg) (writeResponse msg) s
def execProbe (lane : Nat) (msg : CtMsg) (s : State) := effect (.probe lane msg) (probe lane msg) s
def execProbeAnswer (port : Nat) (msg : CtMsg) (s : State) := effect (.probeAnswer port msg) (probeAnswer port msg) s
def execAssign (lane : Nat) (msg : CtMsg) (s : State) := effect (.assign lane msg) (assign lane msg) s
def execDiscProbe (port : Nat) (s : State) := effect (.discProbe port) (discProbe port) s
def execDiscAssign (port : Nat) (s : State) := effect (.discAssign port) (discAssign port) s
def execDiscTimeout (s : State) := effect .discTimeout discTimeout s
def execFcMtLoad (word : FastIn) (s : State) := effect (.fcMtLoad word) (fcMtLoad word) s
def execForceFreeze (word : FastIn) (s : State) := effect (.forceFreeze word) (forceFreeze word) s
def execHistogramSwap (word : FastIn) (s : State) := effect (.histogramSwap word) (histogramSwap word) s
def execFrameGap (port word : Nat) (s : State) := effect (.frameGap port word) (frameGap word) s
def execAcceptLost (port word : Nat) (s : State) := effect (.acceptLost port word) (acceptLost word) s
def execPortLost (port : Nat) (data : Bool) (s : State) := effect (.portLost port data) (portLost port data) s
def execPortRegained (port : Nat) (data : Bool) (s : State) := effect (.portRegained port data) (portRegained port data) s
def execTimeFollow (s : State) := effect .timeFollow timeFollow s
def execPdelayTimer (s : State) := effect .pdelayTimer pdelayTimer s
def execPdelayReq (port seq ta : Nat) (s : State) := effect (.pdelayReq port seq ta) (pdelayReq port seq ta) s
def execPdelayResp (port seq turnaround : Nat) (rtt : Int) (s : State) :=
  effect (.pdelayResp port seq turnaround rtt) (pdelayResp port seq turnaround rtt) s
def execSync (word ta : Nat) (s : State) := effect (.sync word ta) (sync word ta) s
def execAnnounce (word : Nat) (s : State) := effect (.announce word) (announce word) s
def execMasterLost (s : State) := effect .masterLost masterLost s

end Sys2Proof.Machine
end

