-- ==== Sys2Proof/Machine/Tile.lean ====
section
/-! DEFINITION. The sensor tile: presence, identification, exposure, the I²C master and the region loops (R470 to
R490), and the arrival of hits at the merge, which all of these count (R192). -/

namespace Sys2Proof.Machine

open Sys2Proof

/-! ## Exposure (R477, R478) -/

/-- The worn fraction in per mille: the largest ratio whose rated figure is not 0 (R478). -/
def State.tileFrac (s : State) : Nat :=
  let hits := 1000000000 * s.get CX_TILE_RATED_HITS_value
  let q := 1000 * 2 ^ 40 * s.get CX_TILE_RATED_Q_value
  let dose := s.get CX_TILE_RATED_DOSE_value * 100
  max (s.tile.hits * 1000 / hits) (max (s.tile.charge * 1000 / q) (s.tile.dose * 1000 / dose))

/-- CX_TILE_LIFE.frac follows the accumulators; warn and end are set when it first reaches 800 and 1,000 (R478). -/
def State.lifeCheck (s : State) : State :=
  let f := s.tileFrac
  let s := s.set CX_TILE_LIFE_frac (min f 0xFFFF)
  let s :=
    if 800 ≤ f && !s.on CX_TILE_STATUS_warn then
      ((s.set CX_TILE_STATUS_warn 1).set CX_TILE_STATUS_life_event 1).raise 162
    else s
  if 1000 ≤ f && !s.on CX_TILE_STATUS_end then
    ((s.set CX_TILE_STATUS_end 1).set CX_TILE_STATUS_life_event 1).raise 163
  else s

/-- The tile is identified. -/
def State.tileValid (s : State) : Bool := s.get CX_TILE_STATUS_id_state == 2

/-- A hit that is not injected advances the hit accumulator (R477). -/
def State.exposeHit (s : State) (w : Nat) : State :=
  if s.tileValid && !hitFlag w 6 then
    State.lifeCheck { s with tile := { s.tile with hits := min (s.tile.hits + 1) (2 ^ 64 - 1) } }
  else s

/-- A good regular result `q` of leakage input `i` at `us` advances the charge by q × 0.0625 µA × Δt (R508). -/
def State.exposeLeak (s : State) (i q us : Nat) : State :=
  if s.tileValid then
    let dt := match s.tile.leakAt.find? fun e => e.1 == i with
      | some e => us - e.2
      | none => 0
    let c := min (s.tile.charge + 2 ^ 36 * (q * dt) / 1000000) (2 ^ 72 - 1)
    State.lifeCheck { s with tile := { s.tile with charge := c, leakAt := Sparse.insert i us s.tile.leakAt } }
  else s

/-- A good result `q` of dose monitor `m` (R477): the dose follows the rise of the highest monitor. -/
def State.exposeDose (s : State) (m q : Nat) : State :=
  let now := Sparse.insert m q s.tile.doseNow
  let top := now.foldl (fun a e => max a e.2) 0
  let s := { s with tile := { s.tile with doseNow := now } }
  if s.tileValid then
    match s.tile.doseHigh with
    | none => { s with tile := { s.tile with doseHigh := some top } }
    | some h =>
      if h < top then
        let d := min (s.tile.dose + (top - h) * 32000) (2 ^ 32 - 1)
        State.lifeCheck { s with tile := { s.tile with dose := d, doseHigh := some top } }
      else s
  else s

/-- TILE_EXP_SNAP (R489): all accumulators are captured together. -/
def tileExpSnap (s : State) : State :=
  let s := (s.set CX_TILE_EXP_HITS_LO_hits s.tile.hits).set CX_TILE_EXP_HITS_HI_hits (s.tile.hits / 2 ^ 32)
  (s.set CX_TILE_EXP_Q_value (s.tile.charge / 2 ^ 40)).set CX_TILE_EXP_DOSE_value s.tile.dose

/-! ## Region loops (R481 to R486) -/

/-- A hit that the loop of its region admits joins its mean (R481). -/
def State.loopHit (s : State) (w : Nat) : State :=
  let r := regionOf (hitChan w)
  if s.on (CX_LE_LOOP_en r) && bits w 0 7 == 64 && hitTot w != 0xFFF then
    let l := s.rloop r
    s.setRloop r { l with n := l.n + 1, sum := l.sum + hitTot w }
  else s

/-- Region `r` is enabled in current mode (R125, R484). -/
def State.loopRegion (s : State) (r : Nat) : Bool := riEnable (s.regLatch r) && riCurrent (s.regLatch r)

/-- At commit and at step 6 of a reload, loops of regions disabled or set to charge mode open (R485). -/
def State.loopModes (s : State) : State :=
  s.each (List.range 96) fun s r => if s.loopRegion r then s else s.loopFault r 4

/-- The trim of a channel for base `b` and output `u` (R483). -/
def loopTrim (b u : Nat) : Nat := (clampI 0 1000 ((b : Int) - ((u : Int) - 32768))).toNat

/-- The trims of the whole region are written when one of them has changed (R483). -/
def State.loopTrims (s : State) (r : Nat) : State :=
  let l := s.rloop r
  let new := l.bases.map fun b => loopTrim b l.loop.u
  let pads := (List.range 16).filter fun i => riPresent (s.regLatch r) i
  if pads.all fun i => new.getD i 0 == l.trims.getD i 0 then s
  else
    let s := s.setRloop r { l with trims := new }
    s.each pads fun s i =>
      let ch := chanOf r i
      s.set (FE_CH_CFG_trim (ch / 512) (ch % 512)) (new.getD i 0)

/-- LOOP_ENABLE (R484): a write of CX_LE_LOOPr. -/
def loopEnable (r : Nat) (en : Bool) (therm target : Nat) (s : State) : State :=
  let s := (s.set (CX_LE_LOOP_therm r) therm).set (CX_LE_LOOP_target r) target
  if !en then s.loopOpen r
  else if s.on (CX_LE_LOOP_en r) then s
  else if s.tileValid && s.loopRegion r then
    let bases := (List.range 16).map fun i => let ch := chanOf r i; s.get (FE_CH_CFG_trim (ch / 512) (ch % 512))
    let l : RLoop := { RLoop.new with loop := ⟨32768 * 2 ^ 20, 0, 0, 32768, 0⟩, bases := bases, trims := bases }
    let s := ((s.setRloop r l).set (CX_LE_LOOP_en r) 1).assayCheck
    (s.set (CX_LE_LOOPSTAT_cause r) 0).set (CX_LE_LOOPSTAT_delta r) 0
  else s.leRefused 2

/-- A sample of loop `r` with a mean `y` (R421, R483, R485). -/
def State.loopLaw (s : State) (r y : Nat) : State :=
  let l := s.rloop r
  let c := s.coefs 2
  let inj := s.inject 2 r
  let ff := bits (s.get (HK_LAST_result (32 + s.get (CX_LE_LOOP_therm r)))) 0 14
  let o := l.loop.law c (s.get (CX_LE_LOOP_target r)) y ff inj.1 inj.2
  let (lp, late) := o.loop.follow c
  let s := s.setRloop r { l with loop := lp, n := 0, sum := 0, empty := 0, late := 0, sat := o.sat }
  let s := (s.set (CX_LE_LOOPSTAT_delta r) (unsigned 12 ((lp.u : Int) - 32768))).set (LE_CNT_consec 2) 0
  let s := (s.capture 2 r y lp.e lp.u).loopTrims r
  s.iff late fun s => s.loopFault r 1

/-- REGION_LOOP_SAMPLE (R481, R482, R485). -/
def regionLoopSample (r : Nat) (parityOk overrun : Bool) (s : State) : State :=
  let l := s.rloop r
  if !s.on (CX_LE_LOOP_en r) then s
  else if l.n = 0 then
    let s := s.setRloop r { l with empty := l.empty + 1 }
    if l.empty + 1 = 64 ∧ s.on (CX_LE_LOOPSTAT_stale r) = false then (s.set (CX_LE_LOOPSTAT_stale r) 1).raise 166 else s
  else
    let y := (2 * l.sum + l.n) / (2 * l.n)
    let s := (s.set (CX_LE_LOOPSTAT_y r) y).set (CX_LE_LOOPSTAT_stale r) 0
    if !parityOk then s.loopFaultAll 3
    else if overrun then
      let s := s.setRloop r { l with n := 0, sum := 0, empty := 0, late := l.late + 1 }
      let s := (s.count (LE_CNT_overrun 2)).set (LE_CNT_consec 2) (min 3 (l.late + 1))
      let s := s.capture 2 r y l.loop.e l.loop.u
      s.iff (decide (3 ≤ l.late + 1)) fun s => s.loopFault r 2
    else s.loopLaw r y

/-! ## Presence and identification (R470 to R476) -/

/-- The CRC-16 of R61 over bytes alone (R472). -/
def crc16 (bytes : List Nat) : Nat := (bytes.map bitsMsb).flatten.foldl (crcBit 16 0x1021) 0xFFFF

/-- `n` bytes at address `a` of the ID memory as read: 0x0000 to 0x0641, then 0x0800 to 0x0BFF (R472). -/
def idBytes (bytes : List Nat) (a n : Nat) : List Nat := (bytes.drop (if a < 0x800 then a else a - 0x800 + 0x642)).take n

/-- The little-endian number at address `a` (R473). -/
def idNum (bytes : List Nat) (a n : Nat) : Nat := ofBytes (idBytes bytes a n)

/-- The header fields and CRC are good (R472, R473). -/
def idHeaderOk (b : List Nat) : Bool :=
  idBytes b 0 4 == [0x54, 0x47, 0x54, 0x4C] && idNum b 4 2 == 1 && (idNum b 6 1 == 1 || idNum b 6 1 == 2) &&
    decide (1 ≤ idNum b 0x10 2) && decide (idNum b 0x10 2 ≤ 1536) && idNum b 0x3E 2 == crc16 (idBytes b 0 0x3E)

/-- Life slot `k` is valid (R475, R476). -/
def idSlotOk (b : List Nat) (k : Nat) : Bool :=
  idNum b (0x800 + 64 * k + 0x3E) 2 == crc16 (idBytes b (0x800 + 64 * k) 0x3E)

/-- The newest valid slot: the highest seq, of equal ones the lowest number (R476). -/
def idNewest (b : List Nat) : Option Nat :=
  let seq := fun k => idNum b (0x800 + 64 * k) 4
  ((List.range 16).filter (idSlotOk b)).foldl (fun best k => match best with
    | none => some k
    | some j => if seq j < seq k then some k else some j) none

/-- Identification ends with an error (R472). -/
def State.idFail (s : State) (code : Nat) : State :=
  (s.set CX_TILE_STATUS_id_state code).flag CX_TILE_STATUS_id_err 161

/-- The exposure base: the newest life record, or none (R476). -/
def State.lifeLoad (s : State) (b : List Nat) : State :=
  let (next, hits, charge, dose, bare) := match idNewest b with
    | some k =>
      let a := 0x800 + 64 * k
      ((k + 1) % 16, idNum b (a + 4) 8, idNum b (a + 0xC) 4, idNum b (a + 0x10) 4, false)
    | none => (0, 0, 0, 0, true)
  let high := if s.tile.doseNow = [] then none else some (s.tile.doseNow.foldl (fun a e => max a e.2) 0)
  let s := { s with tile := { s.tile with
    hits := hits, charge := charge * 2 ^ 40, dose := dose, doseHigh := high, leakAt := [] } }
  let s := ((s.set CX_TILE_LIFE_next next).setB CX_TILE_STATUS_no_record bare).set CX_TILE_STATUS_warn 0
  (s.set CX_TILE_STATUS_end 0).lifeCheck

/-- TILE_ID_READ_DONE (R472): `bytes` as read, `acked` when every byte was acknowledged. -/
def tileIdReadDone (acked : Bool) (bytes : List Nat) (s : State) : State :=
  if s.get CX_TILE_STATUS_id_state ≠ 1 then s
  else if !idHeaderOk bytes then s.idFail 3
  else if idNum bytes 0x640 2 ≠ crc16 (idBytes bytes 0x40 0x600) then s.idFail 4
  else if !acked then s.idFail 5
  else
    let n := idNum bytes
    let s := (s.set CX_TILE_SERIAL_LO_serial (n 8 4)).set CX_TILE_SERIAL_HI_serial (n 0xC 4)
    let s := (s.set CX_TILE_KIND_kind (n 6 1)).set CX_TILE_KIND_pad_count (n 0x10 2)
    let s := ((s.set CX_TILE_RATED_HITS_value (n 0x14 4)).set CX_TILE_RATED_Q_value (n 0x18 4)).set
      CX_TILE_RATED_DOSE_value (n 0x1C 4)
    let s := s.each (List.range 48) fun s k =>
      s.set (CX_TILE_PADMAP_present k)
        ((idBytes bytes (0x40 + 32 * k) 32).foldr (fun b v => 2 * v + b % 2) 0)
    (s.lifeLoad bytes).set CX_TILE_STATUS_id_state 2

/-! ## The I²C master (R479) -/

/-- A write is refused (R479). -/
def State.i2cRefuses (s : State) (len addr : Nat) : Bool :=
  let slot := 0x800 + 64 * s.get CX_TILE_LIFE_next
  decide (addr < 0x800) || decide (32 < addr % 32 + len) || decide (addr < slot) || decide (slot + 64 < addr + len) ||
    s.on CX_TILE_LIFE_hold

/-- I2C_GO (R479): a write of CX_TILE_I2C_CTRL with go = 1. With the tile absent, or under EXTEST (R532), the master
reports state 0x5. -/
def i2cGo (op : Bool) (lenM1 addr : Nat) (s : State) : State :=
  let s := ((s.setB CX_TILE_I2C_CTRL_op op).set CX_TILE_I2C_CTRL_len_m1 lenM1).set CX_TILE_I2C_CTRL_addr addr
  if s.get CX_TILE_I2C_CTRL_state = 1 then s
  else if !s.on CX_TILE_STATUS_present || s.svc.tap.ir == 0 then s.i2cError 5
  else if op && s.i2cRefuses (lenM1 + 1) addr then s.i2cError 4
  else State.set { s with tile := { s.tile with i2cOp := op, i2cLen := lenM1, i2cAddr := addr } } CX_TILE_I2C_CTRL_state 1

/-- The buffer takes the bytes of a read, from byte 0 on. -/
def State.i2cBuf (s : State) (data : List Nat) : State :=
  s.each (List.range data.length) fun s i =>
    let f := CX_TILE_I2C_BUF_data (i / 4)
    s.set f (putBits (s.get f) (8 * (i % 4)) 8 (data.getD i 0))

/-- I2C_DONE (R479): the transaction ends acknowledged, with the bytes of a read, or in silence. -/
def i2cDone (acked : Bool) (data : List Nat) (s : State) : State :=
  if s.get CX_TILE_I2C_CTRL_state ≠ 1 then s
  else if !acked then s.i2cError 3
  else
    let s := s.set CX_TILE_I2C_CTRL_state 2
    if s.tile.i2cOp then
      let last := 0x800 + 64 * s.get CX_TILE_LIFE_next + 63
      if s.tile.i2cAddr ≤ last ∧ last ≤ s.tile.i2cAddr + s.tile.i2cLen then
        (s.set CX_TILE_LIFE_next (s.get CX_TILE_LIFE_next + 1)).set CX_TILE_LIFE_hold 1
      else s
    else s.i2cBuf (data.take (s.tile.i2cLen + 1))

/-- LIFE_HOLD_EXPIRY (R479): 540 s have passed. -/
def lifeHoldExpiry (s : State) : State := s.set CX_TILE_LIFE_hold 0

/-- TILE_PRESENCE (R470 to R472): a change stable for 10 ms. What a removal does to the module it does in the next
bucket (R471). -/
def tilePresence (present : Bool) (s : State) : State :=
  if s.on CX_TILE_STATUS_present == present then s
  else
    let s := ((s.setB CX_TILE_STATUS_present present).set CX_TILE_STATUS_presence 1).raise 160
    if present then s.set CX_TILE_STATUS_id_state 1 else s.atEdge .tileGone State.tileGone

/-! ## Hits at the merge (R192) -/

/-- HIT_MERGE (R192): the next hit of die `n` arrives. Hits of an isolated or absent die (R525), and those with an edge
in an invalid bucket (R165), are discarded; others go to the trigger engine, the region loops, the exposure and the store. -/
def hitMerge (n : Nat) (lateForMap : Bool) (s : State) : State :=
  match s.nextHit n with
  | none => s
  | some (orbit, w, bad, s) =>
    if bad || s.feOutAt n (orbit, hitBucket w) then s
    else (((s.tgSee orbit w lateForMap).exposeHit w).loopHit w).mergeStore n orbit w

/-! ## The commands -/

def execHitMerge (die : Nat) (lateForMap : Bool) (s : State) := effectMs (.hitMerge die lateForMap) (hitMerge die lateForMap) s
def execTilePresence (present : Bool) (s : State) := effect (.tilePresence present) (tilePresence present) s
def execTileIdReadDone (acked : Bool) (bytes : List Nat) (s : State) :=
  effect (.tileIdReadDone acked bytes) (tileIdReadDone acked bytes) s
def execI2cGo (op : Bool) (lenM1 addr : Nat) (s : State) := effect (.i2cGo op lenM1 addr) (i2cGo op lenM1 addr) s
def execI2cDone (acked : Bool) (data : List Nat) (s : State) := effect (.i2cDone acked data) (i2cDone acked data) s
def execLifeHoldExpiry (s : State) := effect .lifeHoldExpiry lifeHoldExpiry s
def execTileExpSnap (s : State) := effect .tileExpSnap tileExpSnap s
def execRegionLoopSample (region : Nat) (parityOk overrun : Bool) (s : State) :=
  effect (.regionLoopSample region parityOk overrun) (regionLoopSample region parityOk overrun) s
def execLoopEnable (region : Nat) (en : Bool) (therm target : Nat) (s : State) :=
  effect (.loopEnable region en therm target) (loopEnable region en therm target) s

end Sys2Proof.Machine
end

