-- ==== Sys2Proof/Machine/Mgmt.lean ====
section
/-! DEFINITION. The management subsystem: RAMs, core states, image switches, the event controller and the
housekeeping ADC (R491 to R518). The DMA channels stand with the bus they use. -/

namespace Sys2Proof.Machine

open Sys2Proof

/-! ## RAMs (R492) -/

/-- Word `i` of the physical half `h`, 64 bits; a word held by the repair file is the same (R412). -/
def State.iramWord (s : State) (i : Nat) : Nat :=
  match s.repairOf memIram i with
  | some e => Sparse.get 0 e s.prot.repair
  | none => Sparse.get 0 i s.mg.iram

/-- An instruction-RAM word is written whole. -/
def State.iramWrite (s : State) (i v : Nat) : State :=
  let s := { s with mg := { s.mg with iram := Sparse.put 0 i (v % 2 ^ 64) s.mg.iram } }
  (s.setMark memIram i 0).repairWrite memIram i (v % 2 ^ 64)

/-- The word index of the word at byte offset `off` of the active or the shadow window (R492). -/
def State.iramIndex (s : State) (shadow : Bool) (off : Nat) : Nat :=
  let half := if shadow then 1 - s.get MG_STATUS_active_half else s.get MG_STATUS_active_half
  half * 16384 + off / 8

/-- Byte `i` of the data RAM. -/
def State.dramByte (s : State) (i : Nat) : Nat := Sparse.get 0 i s.mg.dram

/-- A byte of the data RAM is written: a damaged or poisoned byte becomes good (R403, R407). -/
def State.dramWrite (s : State) (i v : Nat) : State :=
  let s := { s with mg := { s.mg with dram := Sparse.put 0 i (v % 256) s.mg.dram } }
  s.setMark memDram i 0

/-- Bytes written from offset `i` on. -/
def State.dramPut (s : State) (i : Nat) : List Nat → State
  | [] => s
  | b :: bs => (s.dramWrite i b).dramPut (i + 1) bs

/-! ## Core states (R495 to R498) -/

/-- The watchdog restarts from the full period (R496). -/
def State.wdogRestart (s : State) : State := { s with mg := { s.mg with wdog := s.get MG_WDOG_period } }

/-- The cores are reset and start at 0x4000_0000 (R495). -/
def State.coresStart (s : State) : State :=
  let s := { s with mg := { s.mg with core := ⟨0x40000000, [], []⟩, autoDue := false } }
  (s.set MG_STATUS_state 2).wdogRestart.assayCheck

/-- Running cores halt with a cause (R495). -/
def State.coresHalt (s : State) (cause : Nat) : State :=
  if s.get MG_STATUS_state = 2 then
    let s := { s with mg := { s.mg with autoDue := decide (2 ≤ cause) } }
    (((s.set MG_STATUS_state 3).set MG_STATUS_cause cause).count MG_STATUS_halts).raise 180
  else s

/-- A write is refused (R495, R499, R501). -/
def State.mgRefused (s : State) : State := s.flag MG_STATUS_refused 183

/-- BOOT_CLEAR_DONE (R498, R404). -/
def bootClearDone (s : State) : State :=
  if s.get MG_STATUS_state = 0 then
    let s := { s with
      mg := { s.mg with iram := [], dram := [] }
      prot := { s.prot with started := Nat.lor s.prot.started (2 ^ memIram + 2 ^ memDram) } }
    let s := (s.clearMarks memIram fun _ => true).clearMarks memDram fun _ => true
    ((s.set MG_STATUS_active_half 0).set MG_STATUS_state 1).raise 176
  else s

/-- LOCKSTEP_DIVERGENCE (R494): the bus access of the cycle is blocked. -/
def lockstepDivergence (s : State) : State := s.coresHalt 2

/-- TRAP_LOOP (R493). -/
def trapLoop (s : State) : State := s.coresHalt 3

/-- WATCHDOG_EXPIRY (R496). -/
def watchdogExpiry (s : State) : State := if s.get MG_WDOG_period = 0 then s else s.coresHalt 4

/-- WDOG_KICK (R496). -/
def wdogKick (s : State) : State := s.wdogRestart

/-- MG_HALT (R495). -/
def mgHalt (s : State) : State := s.coresHalt 1

/-- MG_RESTART (R495). -/
def mgRestart (s : State) : State :=
  match s.get MG_STATUS_state with
  | 3 => s.coresStart
  | 2 => s
  | _ => s.mgRefused

/-- AUTO_RESTART (R495): 1 ms after the halt, with `recent` automatic restarts within the last 60 s, of those that
MG_STATUS counts. With none left, the cores stay halted until the host's restart. -/
def autoRestart (recent : Nat) (s : State) : State :=
  if s.get MG_STATUS_state = 3 ∧ s.mg.autoDue = true then
    let n := min recent (s.get MG_STATUS_restarts)
    let s := State.set { s with mg := { s.mg with autoDue := false } } MG_STATUS_restarts n
    if s.on MG_CTRL_auto = true ∧ n < 3 then (s.set MG_STATUS_restarts (n + 1)).coresStart else s
  else s

/-- mtimecmp (R497). -/
def State.mtimecmp (s : State) : Nat := 2 ^ 32 * s.get MG_MTIMECMP_HI_cmp + s.get MG_MTIMECMP_LO_cmp

/-- MG_UPTIME is told to be `us`: it never runs backwards, and the timer interrupt is pending from MG_MTIMECMP on
(R497). -/
def State.tellUp (s : State) (us : Nat) : State :=
  let now := max s.mg.uptime us
  { s with mg := { s.mg with uptime := now, timer := s.mg.timer || decide (s.mtimecmp ≤ now) } }

/-- UPTIME_READ (R497): MG_UPTIME is `us`; a read of LO latches the high half. -/
def uptimeRead (us : Nat) (s : State) : State :=
  let s := s.tellUp us
  let s := { s with mg := { s.mg with upLatch := s.mg.uptime / 2 ^ 32 } }
  (s.set MG_UPTIME_LO_us s.mg.uptime).set MG_UPTIME_HI_us (s.mg.uptime / 2 ^ 32)

/-- MTIME_COMPARE (R497): MG_UPTIME reaches MG_MTIMECMP. -/
def mtimeCompare (s : State) : State := s.tellUp s.mtimecmp

/-! ## Image switches (R499, R500) -/

/-- IMAGE_SWITCH (R499). -/
def imageSwitch (s : State) : State :=
  if s.get MG_IMG_CTRL_state = 1 ∨ s.get MG_IMG_CTRL_state = 2 then s.mgRefused else s.set MG_IMG_CTRL_state 1

/-- The windows exchange; running or waiting cores start the new image (R495, R499, R500). -/
def State.imageDone (s : State) : State :=
  let s := (s.set MG_STATUS_active_half (1 - s.get MG_STATUS_active_half)).set MG_IMG_CTRL_state 3
  if s.get MG_STATUS_state = 1 ∨ s.get MG_STATUS_state = 2 then s.coresStart.raise 179 else s

/-- The check of the shadow image passes: length, CRC-32 and no uncorrectable word (R499). -/
def State.imageOk (s : State) : Bool :=
  let len := s.get MG_IMG_LEN_len
  let base := s.iramIndex true 0
  let ix := (List.range (len / 8)).map (· + base)
  len % 8 == 0 && decide (8 ≤ len) && decide (len ≤ 131072) && ix.all (fun i => s.mark memIram i == 0) &&
    crc32 (wordBytes (ix.map s.iramWord)) == s.get MG_IMG_CRC_crc

/-- IMAGE_CHECK_DONE (R499, R500). -/
def imageCheckDone (s : State) : State :=
  if s.get MG_IMG_CTRL_state ≠ 1 then s
  else if !s.imageOk then (s.set MG_IMG_CTRL_state 4).raise 177
  else if s.get MG_STATUS_state = 2 then (s.set MG_IMG_CTRL_state 2).raise 178
  else s.imageDone

/-- IMAGE_READY (R500): a core write of ready at the safe point. -/
def imageReady (s : State) : State :=
  if s.get MG_IMG_CTRL_state = 2 ∧ s.get MG_STATUS_state = 2 then s.imageDone else s

/-- IMAGE_TIMEOUT (R500). -/
def imageTimeout (s : State) : State :=
  if s.get MG_IMG_CTRL_state = 2 then (s.set MG_IMG_CTRL_state 5).raise 177 else s

/-- IMAGE_FORCE (R500): only after a passed check. -/
def imageForce (s : State) : State :=
  if s.get MG_IMG_CTRL_state = 2 ∨ s.get MG_IMG_CTRL_state = 5 then s.imageDone else s

/-! ## Events (R504 to R506) -/

/-- Bit of source `src` in an MG_EV register (R516). -/
def State.evBit (s : State) (f : Nat → Fld) (src : Nat) : Bool := bit (s.get (f (src / 32))) (src % 32)

/-- The log takes an entry; an unread host entry in its place is lost (R505, R506). -/
def State.logWrite (s : State) (src arg us : Nat) : State :=
  let wp := s.get MG_EVLOG_wp
  let host := s.evBit MG_EV_HOSTEN_en src
  let s :=
    if s.mg.evq.contains wp then
      let s := { s with mg := { s.mg with evq := s.mg.evq.filter (· != wp) } }
      (s.count MG_EVQ_STAT_lost).flag MG_STATUS_evq_lost 182
    else s
  let e := src * 2 ^ 55 + b2n host * 2 ^ 54 + arg * 2 ^ 38 + us % 2 ^ 38
  let s := (s.dramPut (0x18000 + 8 * wp) (bytesOf e 8)).set MG_EVLOG_wp (wp + 1)
  let s := s.iff host fun s => { s with mg := { s.mg with evq := s.mg.evq ++ [wp] } }
  s.set MG_EVQ_STAT_count s.mg.evq.length

/-- EVENT_SERVICE (R504): the lowest pending source is served at MG_UPTIME `us`; events wait while the boot ROM runs
(R498). -/
def eventService (us : Nat) (s : State) : State :=
  match s.evReq with
  | [] => s
  | (src, arg) :: rest =>
    if s.get MG_STATUS_state = 0 then s
    else
      let s := State.tellUp { s with evReq := rest } us
      let s := s.iff (s.evBit MG_EV_LOGEN_en src) fun s => s.logWrite src arg s.mg.uptime
      s.iff (s.evBit MG_EV_IRQEN_en src) fun s =>
        s.set (MG_EV_PEND_pend (src / 32)) (Nat.lor (s.get (MG_EV_PEND_pend (src / 32))) (2 ^ (src % 32)))

/-- The lowest source pending for the core (R504). -/
def State.evLowest (s : State) : Option Nat := (List.range 512).find? fun i => s.evBit MG_EV_PEND_pend i

/-- EV_CLAIM_READ (R504). -/
def evClaimRead (s : State) : State :=
  match s.evLowest with
  | none => (s.set MG_EV_CLAIM_valid 0).set MG_EV_CLAIM_source 0
  | some i =>
    let s := (s.set MG_EV_CLAIM_valid 1).set MG_EV_CLAIM_source i
    s.set (MG_EV_PEND_pend (i / 32)) (s.get (MG_EV_PEND_pend (i / 32)) - 2 ^ (i % 32))

/-- EVQ_READ (R506): the oldest unread host entry; bytes that read uncorrectable count as 0x00. -/
def evqRead (s : State) : State :=
  match s.mg.evq with
  | [] => s.set MG_EVQ_LO_entry 0
  | e :: rest =>
    let at_ := (List.range 8).map fun i => 0x18000 + 8 * e + i
    let bad := at_.any fun i => s.mark memDram i != 0
    let v := ofBytes (at_.map fun i => if s.mark memDram i != 0 then 0 else s.dramByte i)
    let s := { s with mg := { s.mg with evq := rest } }
    let s := (s.set MG_EVQ_LO_entry v).set MG_EVQ_HI_entry (v / 2 ^ 32)
    (s.iff bad fun s => s.count MG_EVQ_STAT_bad).set MG_EVQ_STAT_count rest.length

/-! ## Housekeeping ADC (R507 to R515) -/

/-- The inputs of slots 0 to len_m1 (R510). -/
def State.hkSlots (s : State) : List Nat :=
  (List.range (s.get HK_REG_CTRL_len_m1 + 1)).map fun k =>
    s.get (match k % 4 with
      | 0 => HK_SEQ_slot0 (k / 4)
      | 1 => HK_SEQ_slot1 (k / 4)
      | 2 => HK_SEQ_slot2 (k / 4)
      | _ => HK_SEQ_slot3 (k / 4))

/-- A sequence that waits starts where no sequence and no self-calibration runs (R510, R514). -/
def State.hkNext (s : State) : State :=
  let h := s.mg.hk
  let s := if h.waiting && h.seq.isEmpty && h.phase == 0 then
      s.setHk { h with waiting := false, seq := s.hkSlots, restarted := false }
    else s
  s.hkBegin

/-- HK_SEQUENCE_START (R510): a period begins. -/
def hkSequenceStart (s : State) : State :=
  if !s.on HK_REG_CTRL_en then s
  else
    let h := s.mg.hk
    if h.waiting then s.count HK_CNT_late
    else if !h.seq.isEmpty || h.phase != 0 then s.setHk { h with waiting := true }
    else
      let s := s.setHk { h with seq := s.hkSlots, restarted := false }
      if h.queue.isEmpty then s.hkBegin else s

/-- The corrected code of a raw code (R508). -/
def State.hkCode (s : State) (raw : Nat) : Nat :=
  (clampI 0 16383 ((((raw : Int) - signed 16 (s.get HK_CAL_offset)) * (s.get HK_CAL_gain : Int) + 2 ^ 14) / 2 ^ 15)).toNat

/-- A result word: input, nr, bit 24, bits [23:16] and code (R511, R513). -/
def hkWord (input : Nat) (nr b24 : Bool) (seq q : Nat) : Nat :=
  input * 2 ^ 26 + b2n nr * 2 ^ 25 + b2n b24 * 2 ^ 24 + seq * 2 ^ 16 + q

/-- DMA channel 0 writes a word to the circular buffer (R517). -/
def State.hkBuffer (s : State) (v : Nat) : State :=
  let size := s.get HK_BUF_SIZE_size
  let wp := s.get HK_BUF_WP_wp
  let off := s.get HK_BUF_BASE_addr - 0x40040000 + 4 * wp
  let s := s.iff (decide (0x40040000 ≤ s.get HK_BUF_BASE_addr ∧ off + 4 ≤ 0x18000)) fun s => s.dramPut off (bytesOf v 4)
  let wp := (wp + 1) % max 1 size
  let s := s.set HK_BUF_WP_wp wp
  if wp = s.get HK_BUF_RP_rp then
    ((s.set HK_BUF_RP_rp ((wp + 1) % max 1 size)).count HK_CNT_overrun).flag HK_STATUS_buf_ovr 188
  else s

/-- A good result reaches the exposure accumulators: leakage inputs from the regular sequence, dose monitors (R477,
R508). -/
def State.hkExpose (s : State) (input q us : Nat) (regular : Bool) : State :=
  if 40 ≤ input ∧ input ≤ 43 then (if regular then s.exposeLeak input q us else s)
  else if 48 ≤ input ∧ input ≤ 51 then s.exposeDose (input - 48) q
  else s

/-- The marked requests are converted: the self-calibration proper begins (R514). It cannot run without the
reference. -/
def State.hkCalibrate (s : State) : State :=
  let h := s.mg.hk
  if h.phase = 1 ∧ (h.queue.any fun r => r.marked) = false then
    if s.on HK_STATUS_ref_ready then (s.setHk { h with phase := 2 }).set HK_STATUS_calibrating 1
    else (s.setHk { h with phase := 0 }).flag HK_STATUS_refused 189
  else s

/-- HK_CONVERSION_DONE (R508, R509, R511, R513): the conversion under way ends with raw code `raw` at MG_UPTIME `us`. -/
def hkConversionDone (raw us : Nat) (s : State) : State :=
  let h := s.mg.hk
  let nr := h.nr
  let q := if nr then 0x3FFF else s.hkCode raw
  let missed := fun (s : State) => s.iff nr fun s => (s.count HK_CNT_nr).flag HK_STATUS_ref_nr 187
  match s.hkNow with
  | .idle => s
  | .inj r =>
    let s := missed (s.tellUp us)
    let k := s.get HK_STATUS_inj_next
    let s := (s.set (HK_INJ_RES_result k) (hkWord r.input nr r.cal 0 q)).set HK_STATUS_inj_next (k + 1)
    let s := s.set (HK_LAST_result r.input) (hkWord r.input nr true 0 q)
    let s := s.iff (!nr) fun s => s.hkExpose r.input q s.mg.uptime false
    ((s.setHk { h with queue := h.queue.drop 1 }).hkCalibrate).hkNext
  | .slot input =>
    let s := missed (s.tellUp us)
    let seq := s.get HK_STATUS_seq
    let s := s.set (HK_LAST_result input) (hkWord input nr false seq q)
    let s := s.hkBuffer (hkWord input nr h.restarted seq q)
    let s := s.iff (!nr) fun s => s.hkExpose input q s.mg.uptime true
    let s := s.setHk { h with seq := h.seq.drop 1, restarted := false }
    let s := s.iff (h.seq.length == 1) fun s => s.set HK_STATUS_seq (seq + 1)
    s.hkNext

/-- HK_INJECT (R512). -/
def hkInject (input : Nat) (s : State) : State := (s.set HK_INJ_input input).hkRequest input false

/-- HK_CAL (R514, step 1). -/
def hkCal (s : State) : State :=
  let h := s.mg.hk
  if !s.on HK_STATUS_ref_ready || h.phase != 0 then s.flag HK_STATUS_refused 189
  else
    let aborts := match s.hkNow with | .slot _ => true | _ => false
    (s.setHk { h with
      phase := 1, queue := h.queue.map fun r => { r with marked := true }, restarted := h.restarted || aborts }).hkCalibrate

/-- CAL_DONE (R514, steps 4 and 5). -/
def calDone (gain offset : Nat) (s : State) : State :=
  if s.mg.hk.phase = 2 then
    let s := ((s.set HK_CAL_gain gain).set HK_CAL_offset offset).set HK_STATUS_calibrating 0
    ((((s.setHk { s.mg.hk with phase := 0 }).set HK_STATUS_cal_done 1).raise 186)).hkNext
  else s

/-- HK_REF_ENABLE (R509, R514). -/
def hkRefEnable (on : Bool) (s : State) : State :=
  let s := s.setB HK_CTRL_ref_en on
  if on then s
  else
    let s := (s.set HK_STATUS_ref_ready 0).assayCheck
    if s.mg.hk.phase = 2 then
      (((s.set HK_STATUS_calibrating 0).setHk { s.mg.hk with phase := 0 }).flag HK_STATUS_refused 189).hkNext
    else s

/-- HK_REF_READY (R509). -/
def hkRefReady (s : State) : State := if s.on HK_CTRL_ref_en then s.set HK_STATUS_ref_ready 1 else s

/-- The buffer lies inside the general data RAM and is large enough (R515). -/
def State.hkBufOk (s : State) : Bool :=
  let base := s.get HK_BUF_BASE_addr
  let size := s.get HK_BUF_SIZE_size
  decide (0x40040000 ≤ base) && decide (base + 4 * size ≤ 0x40058000) && decide (16 ≤ size)

/-- HK_REG_ENABLE (R515). -/
def hkRegEnable (on : Bool) (s : State) : State :=
  if !on then (s.set HK_REG_CTRL_en 0).setHk { s.mg.hk with waiting := false }
  else if s.hkBufOk then (s.set HK_REG_CTRL_en 1).assayCheck
  else s.flag HK_STATUS_refused 189

/-! ## The commands -/

def execBootClearDone (s : State) := effect .bootClearDone bootClearDone s
def execImageSwitch (s : State) := effect .imageSwitch imageSwitch s
def execImageReady (s : State) := effect .imageReady imageReady s
def execImageTimeout (s : State) := effect .imageTimeout imageTimeout s
def execImageForce (s : State) := effect .imageForce imageForce s
def execLockstepDivergence (s : State) := effect .lockstepDivergence lockstepDivergence s
def execTrapLoop (s : State) := effect .trapLoop trapLoop s
def execWatchdogExpiry (s : State) := effect .watchdogExpiry watchdogExpiry s
def execWdogKick (s : State) := effect .wdogKick wdogKick s
def execMgHalt (s : State) := effect .mgHalt mgHalt s
def execMgRestart (s : State) := effect .mgRestart mgRestart s
def execAutoRestart (recent : Nat) (s : State) := effect (.autoRestart recent) (autoRestart recent) s
def execUptimeRead (us : Nat) (s : State) := effect (.uptimeRead us) (uptimeRead us) s
def execMtimeCompare (s : State) := effect .mtimeCompare mtimeCompare s
def execEventService (us : Nat) (s : State) := effect (.eventService us) (eventService us) s
def execEvClaimRead (s : State) := effect .evClaimRead evClaimRead s
def execEvqRead (s : State) := effect .evqRead evqRead s
def execHkSequenceStart (s : State) := effect .hkSequenceStart hkSequenceStart s
def execHkConversionDone (raw us : Nat) (s : State) := effect (.hkConversionDone raw us) (hkConversionDone raw us) s
def execHkInject (input : Nat) (s : State) := effect (.hkInject input) (hkInject input) s
def execHkCal (s : State) := effect .hkCal hkCal s
def execCalDone (gain offset : Nat) (s : State) := effect (.calDone gain offset) (calDone gain offset) s
def execHkRefEnable (on : Bool) (s : State) := effect (.hkRefEnable on) (hkRefEnable on) s
def execHkRefReady (s : State) := effect .hkRefReady hkRefReady s
def execHkRegEnable (on : Bool) (s : State) := effect (.hkRegEnable on) (hkRegEnable on) s

end Sys2Proof.Machine
end

