-- ==== Sys2Proof/Machine/Burnish.lean ====
section
/-! DEFINITION. Protecting stored data: critical-word votes, merge-buffer fills, burnish patrol and host passes, fault
classes and the repair file (R394 to R416). -/

namespace Sys2Proof.Machine

open Sys2Proof

/-! ## Fault classes and the repair file (R410 to R413) -/

/-- Words or half-rows declared lasting while a host pass runs are counted in it (R409). -/
def State.passRepaired (s : State) : State :=
  { s with prot := { s.prot with pass := s.prot.pass.map fun p => { p with repaired := p.repaired + 1 } } }

/-- The stored value of a word of a memory that the repair file covers (R412). -/
def State.storedWord (s : State) (m i : Nat) : Nat :=
  match m with
  | 3 => Sparse.get 0 i s.plate.mem
  | 4 => match s.descIndex i with
    | some (_, d) => d.words.getD (i % 2) 0
    | none => 0
  | 5 => s.link i
  | _ => Sparse.get 0 i s.mg.iram

/-- A word is declared lasting: an entry of the repair file where its memory has entries and one is free (R412, R413). -/
def State.wordLasting (s : State) (m i : Nat) : State :=
  let declare := fun (s : State) => ((s.set CX_PROT_STATUS_lasting 1).raise 147).passRepaired
  if m = 3 ∨ m = 4 ∨ m = 5 ∨ m = 7 then
    match (List.range 64).find? fun e => !s.on (CX_REPAIR_valid e) with
    | some e =>
      let v := s.storedWord m i
      let s := { s with prot := { s.prot with repair := Sparse.put 0 e v s.prot.repair } }
      let s := ((s.set (CX_REPAIR_valid e) 1).set (CX_REPAIR_memory e) m).set (CX_REPAIR_index e) i
      declare (s.set CX_REPAIR_STATUS_used (s.get CX_REPAIR_STATUS_used + 1))
    | none => (s.count CX_REPAIR_STATUS_full_miss).flag CX_PROT_STATUS_repair_full 148
  else declare s

/-- A fault of class 0 or 1 is counted in the tracker; true when N is reached (R410, R411). -/
def State.trackFault (s : State) (cls m i : Nat) : State × Bool :=
  let mine := fun (t : Track) => t.cls == cls && t.mem == m && t.index == i
  let n := (match s.prot.track.find? mine with | some t => t.count | none => 0) + 1
  let put := fun (s : State) (l : List Track) => { s with prot := { s.prot with track := l } }
  if s.get (CX_FLT_CLASS_n cls) ≤ n then (put s (s.prot.track.filter fun t => !mine t), true)
  else if s.prot.track.any mine then
    (put s (s.prot.track.map fun t => if mine t then { t with count := n } else t), false)
  else
    let full := decide (256 ≤ s.prot.track.length)
    let l := if full then s.prot.track.drop 1 else s.prot.track
    (put (s.iff full fun s => s.count CX_REPAIR_STATUS_evicted) (l ++ [⟨cls, m, i, 1⟩]), false)

/-- A correction is recorded and counted (R410, R411). -/
def State.corrected (s : State) (found m i : Nat) : State :=
  let s := (s.count CX_ECC_CNT_corr).eccLast 1 found m i
  let (s, hit) := s.trackFault 0 m i
  let s := s.iff hit fun s => s.wordLasting m i
  let s :=
    if m = 1 ∨ m = 2 then
      let (s, hit) := s.trackFault 1 m (i % 2 ^ 20)
      s.iff hit fun s => (s.halfRowLasting (m - 1) (i % 2 ^ 20)).passRepaired
    else s
  s.countClass 3 m

/-- FAULT_WINDOW_EXPIRY (R410): W elapses and the count restarts at 0. -/
def faultWindowExpiry (cls m i : Nat) (s : State) : State :=
  if cls < 2 then
    { s with prot := { s.prot with track := s.prot.track.filter fun t => !(t.cls == cls && t.mem == m && t.index == i) } }
  else { s with prot := { s.prot with counts := Sparse.put 0 (cls * 256 + (if cls = 4 then i else m)) 0 s.prot.counts } }

/-! ## Uncorrectable data (R407) -/

/-- The record, if open, of send-order entry `id` ends without touching the entry. -/
def State.recDrop (s : State) (id : Nat) : State :=
  match s.rc.recs.find? fun r => r.id == id with
  | none => s
  | some r =>
    let s := s.dropPins r
    let s := { s with rc := { s.rc with
      recs := s.rc.recs.filter (fun q => q.id != id)
      dump := if s.rc.dump = some r.ctx then none else s.rc.dump } }
    s.iff (r.origin == 2) fun s => s.set RC_DUMP_CTRL_running 0

/-- A fragment handed to a path, by its send-order entry or by a context it holds. -/
def State.outFrag (s : State) (p : OutFrag → Bool) : Option (Nat × OutFrag) :=
  s.str.paths.findSome? fun e => (e.2.frags.find? p).map fun f => (e.1, f)

/-- Where the module's own contribution, the last in its body, begins in a merged fragment (R298, R316). -/
def ownAt (ws : List Nat) : Nat := ws.length - 1 - bits (ws.getD (ws.length - 2) 0) 40 20

/-- A merged fragment with the module's own contribution, the last in its body (R316), replaced by an empty fragment with
content_lost; the flags of H1 take it in. -/
def replaceOwn (ws : List Nat) : List Nat :=
  let n := ws.length
  let at_ := ownAt ws
  let head := (ws.take at_).set 1 (Nat.lor (ws.getD 1 0) (2 ^ 11))
  withTrailer (head ++ emptied ((ws.drop at_).take (n - 1 - at_)))

/-- A waiting fragment loses the content that context `c` holds (R301). -/
def WaitFrag.lose (c : Nat) (w : WaitFrag) : WaitFrag :=
  if !w.ctxs.contains c then w
  else if fragOrigin w.words = 3 then
    { w with words := replaceOwn w.words, ctxs := [], blocks := blocksOf (replaceOwn w.words).length }
  else { w with words := emptied w.words, ctxs := [], blocks := 0 }

/-- Fragments that wait for a merge or a path, and in open or built merges (R314 to R316). -/
def State.waiting (s : State) : List WaitFrag :=
  s.str.mergeIn.map (·.frag) ++ s.str.merged ++ s.str.merges.flatMap fun m => match m.built with
    | some f => [f]
    | none => m.contribs.map (·.frag)

/-- The content of a waiting fragment of context `c` is lost: its first block has not left (R301). -/
def State.waitLost (s : State) (c : Nat) : State :=
  let held := fun s : State => s.waiting.foldl (fun n (w : WaitFrag) => n + w.blocks) 0
  let had := held s
  let lose := fun x : Contrib => { x with frag := x.frag.lose c }
  let s := { s with str := { s.str with
    mergeIn := s.str.mergeIn.map lose
    merged := s.str.merged.map (WaitFrag.lose c)
    merges := s.str.merges.map fun m : Merge =>
      { m with contribs := m.contribs.map lose, built := m.built.map (WaitFrag.lose c) } } }
  let s := (s.giveCtx c).giveBlocks (had - held s)
  ((s.count CX_STR_CNT_lost_content).flag CX_STR_STATUS_lost 113).busyEval

/-- The content of context `c` in a merged fragment handed to the path of port `p`, no block of it sent (R301). -/
def State.outLost (s : State) (p : Nat) (f : OutFrag) (c : Nat) : State :=
  let w := WaitFrag.lose c ⟨f.own, f.src, some f.fseq, f.words, f.ctxs, f.blocks⟩
  let d := s.path p
  let s := s.setPath p { d with frags := d.frags.map fun g =>
    if g.key = f.key then { g with words := w.words, ctxs := w.ctxs, blocks := w.blocks } else g }
  let s := (s.giveCtx c).giveBlocks (f.blocks - w.blocks)
  ((s.count CX_STR_CNT_lost_content).flag CX_STR_STATUS_lost 113).busyEval

/-- Context `c` is found damaged (R301, R407). -/
def State.ctxBad (s : State) (c i : Nat) : State :=
  match s.rc.recs.find? fun r => r.ctx == c with
  | some r => s.recLost r
  | none =>
    match s.fragCtx c with
    | some f => (s.fragLost f).busyEval
    | none =>
      if s.waiting.any fun w => w.ctxs.contains c then s.waitLost c
      else match s.outFrag fun f => f.ctxs.contains c with
      | some (p, f) =>
        if f.ever ≠ 0 then s else if fragOrigin f.words = 3 then s.outLost p f c else s.sendUpset p f 0 0
      | none => s.setMark memCtx i 2

/-- Byte `n` of the module's own fragment is found damaged in fragment `f`, handed to the path of port `p`: alone in it, or
the contribution of a merged one (R316, R407). -/
def State.outByteBad (s : State) (p : Nat) (f : OutFrag) (n : Nat) : State :=
  if fragOrigin f.words ≠ 3 then s.sendUpset p f (n / 256) (n % 256)
  else
    let k := 8 * ownAt f.words + n
    match f.ctxs with
    | c :: _ => if f.ever = 0 then s.outLost p f c else s.sendUpset p f (k / 256) (k % 256)
    | [] => s

/-- A byte of the fragment buffer is found damaged: byte `n` of the fragment of send-order entry `id`, or of a free
block (R407). -/
def State.fbufBad (s : State) (i : Nat) (owner : Option (Nat × Nat)) : State :=
  match owner with
  | none => s.setMark memFbuf i 2
  | some (id, n) =>
    match s.str.order.find? fun f => f.id == id with
    | some f => if f.body.isSome then (s.fragLost f).busyEval else s
    | none =>
      match s.waiting.find? fun w => w.own == some id with
      | some w => match w.ctxs with
        | c :: _ => s.waitLost c
        | [] => s
      | none =>
        match s.outFrag fun f => f.own == some id with
        | some (p, f) => s.outByteBad p f n
        | none => s.setMark memFbuf i 2

/-- A byte of the send-order or refusal queue is found damaged: the identity of entry `id` is lost (R301, R407). -/
def State.queueBad (s : State) (owner : Option (Nat × Nat)) : State :=
  match owner with
  | none => s
  | some (id, _) =>
    match s.str.order.find? fun f => f.id == id with
    | some f => ((s.recDrop id).fragGone f).busyEval
    | none => s

/-- What the module does with an uncorrectable word that nobody requested (R407). -/
def State.uncorrAct (s : State) (m i : Nat) (owner : Option (Nat × Nat)) : State :=
  match m with
  | 1 | 2 =>
    let bank := 8 * (m - 1) + i / 2 ^ 20
    let row := i % 2 ^ 20
    let l := s.link row
    let s := { s with store := { s.store with entries := Sparse.erase (entryKey bank row) s.store.entries } }
    (s.setMark m i 2).setLink row (putBits l 41 5 (linkPoison l + 1))
  | 3 => (s.setMark m i 1).plateUncorr (i / 16) 1
  | 4 => match s.descIndex i with
    | some (a, d) => s.descBroken a d
    | none => s
  | 5 => s.linkBroken i
  | 6 => s.ctxBad (i / 4) i
  | 7 => State.setMark { s with mg := { s.mg with iram := Sparse.put 0 i 0 s.mg.iram } } m i 2
  | 8 => State.setMark { s with mg := { s.mg with dram := Sparse.put 0 i 0 s.mg.dram } } m i 2
  | 9 => s.fbufBad i owner
  | 10 => s.queueBad owner
  | _ => s

/-- A word or byte read by burnish or a fill: `found` 1 patrol, 2 host pass, 3 fill (R404, R407, R411). -/
def State.burnishWord (s : State) (found m i : Nat) (r : EccResult) (owner : Option (Nat × Nat)) : State :=
  if m = 3 ∧ s.underReload (i / 16) = true ∧ (s.mark m i ≠ 0 ∨ r = .uncorrectable) then s
  else if s.mark m i = 2 then s.eccLast 3 found m i
  else if s.mark m i = 1 ∨ r = .uncorrectable then (s.eccUncorr found m i).uncorrAct m i owner
  else if r = .corrected then s.corrected found m i
  else s

/-! ## Merge buffers (R401 to R403) -/

/-- Fills the merge buffer of the instruction RAM. -/
def State.fillRam (s : State) : State :=
  match s.prot.bufRam with
  | none => s
  | some b =>
    let s := { s with prot := { s.prot with bufRam := none } }
    if s.mark memIram b.word != 0 then
      (s.burnishWord 3 memIram b.word .uncorrectable none).flag CX_PROT_STATUS_mbuf_err 145
    else s.iramWrite b.word (mergeBytes8 (s.iramWord b.word) b.data b.mask)

/-- A narrow write of the instruction RAM enters its merge buffer (R402). -/
def State.bufRamPut (s : State) (idx mask data : Nat) : State :=
  let put (s : State) (b : MBuf) : State :=
    if b.mask = 0xFF then State.iramWrite { s with prot := { s.prot with bufRam := none } } idx b.data
    else { s with prot := { s.prot with bufRam := some b } }
  match s.prot.bufRam with
  | some b => if b.word = idx then put s (b.add mask data) else put s.fillRam ((MBuf.mk idx 0 0).add mask data)
  | none => put s ((MBuf.mk idx 0 0).add mask data)

/-- The hit-store entry written whole with good check bits, by mark key of its memory and index. -/
def State.entryWrite (s : State) (key v : Nat) : State :=
  let m := key / 2 ^ 24
  let i := key % 2 ^ 24
  let s := { s with store := { s.store with
    entries := Sparse.put 0 (entryKey (8 * (m - 1) + i / 2 ^ 20) (i % 2 ^ 20)) (v % 2 ^ 64) s.store.entries } }
  s.setMark m i 0

/-- Fills the merge buffer of test access, whose word is named by its mark key. -/
def State.fillTest (s : State) : State :=
  match s.prot.bufTest with
  | none => s
  | some b =>
    let s := { s with prot := { s.prot with bufTest := none } }
    let m := b.word / 2 ^ 24
    let i := b.word % 2 ^ 24
    if s.mark m i != 0 then (s.burnishWord 3 m i .uncorrectable none).flag CX_PROT_STATUS_mbuf_err 145
    else
      let old := Sparse.get 0 (entryKey (8 * (m - 1) + i / 2 ^ 20) (i % 2 ^ 20)) s.store.entries
      s.entryWrite b.word (mergeBytes8 old b.data b.mask)

/-- A narrow write through test access enters its merge buffer (R402, R535). -/
def State.bufTestPut (s : State) (key mask data : Nat) : State :=
  let put (s : State) (b : MBuf) : State :=
    if b.mask = 0xFF then State.entryWrite { s with prot := { s.prot with bufTest := none } } key b.data
    else { s with prot := { s.prot with bufTest := some b } }
  match s.prot.bufTest with
  | some b => if b.word = key then put s (b.add mask data) else put s.fillTest ((MBuf.mk key 0 0).add mask data)
  | none => put s ((MBuf.mk key 0 0).add mask data)

/-- What the read of a fill found in word `i` of memory `m`, before the fill (R402, R403). -/
def State.fillRead (s : State) (m i : Nat) (r : EccResult) : State :=
  match r with
  | .clean => s
  | .corrected => if s.mark m i = 0 then s.corrected 3 m i else s
  | .uncorrectable => if s.mark m i = 0 then s.setMark m i 1 else s

/-- MERGE_BUFFER_TIMEOUT (R402, R403): no write to buffer `buf` (0 plate window, 1 instruction RAM, 2 test access) for
256 cycles. -/
def mergeBufferTimeout (buf : Nat) (r : EccResult) (s : State) : State :=
  match buf with
  | 0 => match s.prot.bufPlate with
    | some b => (s.fillRead memPlate b.word r).fillPlate
    | none => s
  | 1 => match s.prot.bufRam with
    | some b => (s.fillRead memIram b.word r).fillRam
    | none => s
  | _ => match s.prot.bufTest with
    | some b => (s.fillRead (b.word / 2 ^ 24) (b.word % 2 ^ 24) r).fillTest
    | none => s

/-- IMAGE_CHECK_DONE (R499). The check reads every word of the image, so the merge buffer is filled first where it is
open on one (R402). -/
def imageCheckRead (s : State) : State :=
  let base := s.iramIndex true 0
  let open_ := s.prot.bufRam.any fun b => decide (base ≤ b.word ∧ b.word < base + s.get MG_IMG_LEN_len / 8)
  imageCheckDone (s.iff (open_ && s.get MG_IMG_CTRL_state == 1) State.fillRam)

/-! ## Patrol and host passes (R404 to R409) -/

/-- Burnish skips word `i` of memory `m` (R405). -/
def State.bnSkips (s : State) (m i : Nat) : Bool :=
  (m ≤ 2 && Sparse.has (i % 2 ^ 20) s.store.disabled) ||
    (m == 3 && s.underReload (i / 16)) ||
    (s.repairOf m i).isSome ||
    (m == 3 && (s.prot.bufPlate.map (·.word)) == some i) ||
    (m == 7 && (s.prot.bufRam.map (·.word)) == some i) ||
    ((s.prot.bufTest.map (·.word)) == some (markKey m i))

/-- The first index from `i` on that burnish does not skip, below `stop`; banks out of service are passed whole. -/
def State.bnNext (s : State) (m stop : Nat) : Nat → Nat → Option Nat
  | 0, _ => none
  | n + 1, i =>
    if stop ≤ i then none
    else if m ≤ 2 && !bit (s.get CX_HQ_BANKS_in_service) (8 * (m - 1) + i / 2 ^ 20) then
      s.bnNext m stop n ((i / 2 ^ 20 + 1) * 2 ^ 20)
    else if s.bnSkips m i then s.bnNext m stop n (i + 1)
    else some i

/-- Enough steps to pass every word of the largest memory. -/
def bnFuel : Nat := 8388609

/-- PATROL_READ (R404 to R407): patrol reads its next word of memory `m`. -/
def patrolRead (m : Nat) (r : EccResult) (owner : Option (Nat × Nat)) (s : State) : State :=
  let rate := s.get (if m ≤ 2 then CX_BN_CTRL_hs_rate else CX_BN_CTRL_aux_rate)
  if !s.on CX_BN_CTRL_patrol_en || !bit s.prot.started m || rate == 0 then s
  else
    let size := memSize m
    let setPos := fun (s : State) (i : Nat) => { s with prot := { s.prot with pos := Sparse.put 0 m i s.prot.pos } }
    let turn := fun (s : State) => setPos { s with prot := { s.prot with
      passes := Sparse.put 0 m ((Sparse.get 0 m s.prot.passes + 1) % 65536) s.prot.passes } } 0
    match s.bnNext m size bnFuel (Sparse.get 0 m s.prot.pos) with
    | none => turn s
    | some i =>
      let s := s.burnishWord 1 m i r owner
      if i + 1 < size then setPos s (i + 1) else turn s

/-- BURNISH_PASS_GO (R408). -/
def burnishPassGo (m : Nat) (s : State) : State :=
  let s := s.set CX_BN_PASS_CTRL_memory m
  let st := s.get CX_BN_PASS_CTRL_state
  if st = 1 ∨ st = 2 ∨ memSize m = 0 then s.set CX_PROT_STATUS_pass_refused 1
  else
    let start := s.get CX_BN_PASS_START_index
    let len := s.get CX_BN_PASS_LEN_count
    let (lo, hi) := if len = 0 then (0, memSize m) else (start, min (memSize m) (start + len))
    let s := { s with prot := { s.prot with pass := some ⟨m, lo, hi, 0, 0, 0, 0⟩ } }
    s.set CX_BN_PASS_CTRL_state (if m ≤ 2 ∧ s.activity ≠ some 3 then 2 else 1)

/-- BURNISH_PASS_ABORT (R408): the pass ends at the next word. -/
def burnishPassAbort (s : State) : State :=
  { s with prot := { s.prot with pass := s.prot.pass.map fun p => { p with stop := min p.stop p.next } } }

/-- HOST_PASS_READ (R408): the pass reads its next word. -/
def hostPassRead (r : EccResult) (owner : Option (Nat × Nat)) (s : State) : State :=
  match s.prot.pass with
  | none => s
  | some p =>
    if s.get CX_BN_PASS_CTRL_state ≠ 1 then s
    else match s.bnNext p.mem p.stop bnFuel p.next with
      | none => s
      | some i =>
        let bad := s.mark p.mem i != 0 || r == .uncorrectable
        let fixed := !bad && r == .corrected
        let s := s.burnishWord 2 p.mem i r owner
        { s with prot := { s.prot with pass := s.prot.pass.map fun q => { q with
          next := i + 1, read := q.read + 1, corr := q.corr + b2n fixed, uncorr := q.uncorr + b2n bad } } }

/-- BURNISH_DONE (R409): the pass has reached its end, `time` bk after its go. -/
def burnishDone (time : Nat) (s : State) : State :=
  match s.prot.pass with
  | none => s
  | some p =>
    if (s.bnNext p.mem p.stop bnFuel p.next).isSome then s
    else
      let s := { s with prot := { s.prot with pass := none } }
      let s := (s.set CX_BN_SUM_READ_count p.read).set CX_BN_SUM_CORR_count p.corr
      let s := (s.set CX_BN_SUM_UNCORR_uncorr (min p.uncorr 0xFFFF)).set CX_BN_SUM_UNCORR_repaired (min p.repaired 0xFFFF)
      ((s.set CX_BN_SUM_TIME_bk time).set CX_BN_PASS_CTRL_state 3).raise 146

/-- BURNISH_WINDOW_END (R408): a hit-store pass that has not ended waits for the next window. -/
def burnishWindowEnd (s : State) : State :=
  if s.activity = some 3 then
    let hs := match s.prot.pass with | some p => decide (p.mem ≤ 2) | none => false
    State.iff { s with activity := none } (hs && s.get CX_BN_PASS_CTRL_state == 1) fun s => s.set CX_BN_PASS_CTRL_state 2
  else s

/-! ## Critical words (R397 to R400) -/

/-- A copy of a critical word: data, parity bit [64], tag [68:65]. -/
def copyData (c : Nat) : Nat := c % 2 ^ 64
def copyTag (c : Nat) : Nat := bits c 65 4

/-- A copy passes parity: its parity bit makes the number of ones even. -/
def copyGood (c : Nat) : Bool := !((bitsUp c 65).foldl xor false)

/-- The majority of three numbers, bit by bit. -/
def majority (a b c : Nat) : Nat := Nat.lor (Nat.lor (Nat.land a b) (Nat.land a c)) (Nat.land b c)

/-- The result of a vote (R398): data and tag where it delivers them. -/
inductive Vote where
  | intact
  | disputed (data tag : Nat)
  | corrected (data : Nat)
  | unresolved
  deriving DecidableEq, Repr

/-- Two copies hold the same data and tag. -/
def copySame (a b : Nat) : Bool := copyData a == copyData b && copyTag a == copyTag b

/-- The vote over three copies (R398). -/
def vote (a b c : Nat) : Vote :=
  match copyGood a, copyGood b, copyGood c with
  | true, true, true =>
    if copySame a b && copySame b c then .intact
    else .disputed (majority (copyData a) (copyData b) (copyData c)) (majority (copyTag a) (copyTag b) (copyTag c))
  | false, true, true => if copySame b c then .corrected (copyData b) else .unresolved
  | true, false, true => if copySame a c then .corrected (copyData a) else .unresolved
  | true, true, false => if copySame a b then .corrected (copyData a) else .unresolved
  | _, _, _ => .unresolved

/-- A register takes the fields of a word. -/
def State.putFields (s : State) (fs : List Fld) (v : Nat) : State := s.each fs fun s f => s.set f (bits v f.lo f.width)

/-- Critical word `w` of the CX runs from `v` (R397): lane roles and service map as in their frames, registers as in
the control space. How the machine-time base lies in its twelve words the spec does not say: it keeps its value. -/
def State.critPut (s : State) (w v : Nat) : State :=
  let shadow := fun (s : State) (k : Nat) => { s with plate := { s.plate with shadow := Sparse.put 0 k v s.plate.shadow } }
  if w < 18 then shadow s ((8 + w / 3) * 16 + w % 3)
  else if w < 22 then shadow s (16 + (w - 18))
  else if w = 22 then s.putFields [CX_FE_SVC_fe0, CX_FE_SVC_fe1, CX_FE_SVC_fe2] v
  else if w = 23 then s.set CX_HQ_BANKS_retire v
  else if w < 36 then s
  else if w = 36 then s.set CX_CAL_EN_enable v
  else if w < 45 then
    let n := w - 37
    let s := s.putFields [CX_QUIET_WIN_first n, CX_QUIET_WIN_last n] v
    { s with mt := { s.mt with quiet := s.mt.quiet.set n (bits v 0 16, bits v 16 16) } }
  else if w = 45 then s.putFields [FB_ADDR_valid, FB_ADDR_depth, FB_ADDR_addr] v
  else if w = 46 then s.putFields [FB_UP_time_port, FB_UP_d_sec, FB_UP_d_pri, FB_UP_tc_sec, FB_UP_tc_pri] v
  else s.putFields [FB_DOWN_ports] v

/-- A vote over word `w` of the CX (R398, R399). -/
def State.cxVote (s : State) (w : Nat) (v : Vote) : State :=
  match v with
  | .intact => s
  | .corrected data => (s.count CX_ECC_CNT_corr).critPut w data
  | .disputed data tag =>
    let s := (s.critPut w data).critTag 0 w (tag + 1)
    let s := ((s.count CX_TMR_CNT_disputed).set CX_TMR_CNT_last w).set CX_PROT_STATUS_dispute 1
    (s.raise 144).countClass 4 w
  | .unresolved =>
    let s := s.critTag 0 w (Sparse.get 0 w s.prot.tags + 1)
    ((s.count CX_TMR_CNT_unresolved).set CX_PROT_STATUS_unresolved 1).raise 144

/-- A vote over word `w` of the SV (R398 to R400): words 0 to 23 arbitration, 24 to 47 bias guard. -/
def State.svVote (s : State) (w : Nat) (v : Vote) (sense : Nat) : State :=
  let safe := fun (s : State) => (if w < 24 then s.arbSafe sense else s.guardSafe).raise 488
  match v with
  | .intact | .corrected _ => s
  | .disputed _ tag => safe ((s.countWrap SV_TMR_STATUS_disputed).critTag 1 w (tag + 1))
  | .unresolved => safe ((s.countWrap SV_TMR_STATUS_unresolved).critTag 1 w (Sparse.get 0 (64 + w) s.prot.tags + 1))

/-- CRITICAL_WORD_VOTE (R398): the three copies of word `word` of the CX (die 0) or the SV (die 1); `sense`: the units
that the arbiter's mid-bus sense shows regulating (R400). -/
def criticalWordVote (die word : Nat) (copies : List Nat) (sense : Nat) (s : State) : State :=
  match copies with
  | [a, b, c] => if die = 0 then s.cxVote word (vote a b c) else s.svVote word (vote a b c) sense
  | _ => s

/-- RECORD_BUCKET_READ with the corrections of its read, which count as those of a service read (R410, R411). -/
def recordBucketReadAll (ctx : Nat) (u : ReadUpset) (s : State) : State :=
  recordBucketRead ctx u (s.each u.corr fun s e => s.corrected 0 e.1 e.2)

/-! ## The commands -/

def execCriticalWordVote (die word : Nat) (copies : List Nat) (sense : Nat) (s : State) :=
  effect (.criticalWordVote die word copies sense) (criticalWordVote die word copies sense) s
def execImageCheckDone (s : State) := effect .imageCheckDone imageCheckRead s
def execMergeBufferTimeout (buf : Nat) (result : EccResult) (s : State) :=
  effect (.mergeBufferTimeout buf result) (mergeBufferTimeout buf result) s
def execPatrolRead (mem : Nat) (result : EccResult) (owner : Option (Nat × Nat)) (s : State) :=
  effect (.patrolRead mem result owner) (patrolRead mem result owner) s
def execFaultWindowExpiry (cls mem index : Nat) (s : State) :=
  effect (.faultWindowExpiry cls mem index) (faultWindowExpiry cls mem index) s
def execBurnishPassGo (mem : Nat) (s : State) := effect (.burnishPassGo mem) (burnishPassGo mem) s
def execBurnishPassAbort (s : State) := effect .burnishPassAbort burnishPassAbort s
def execBurnishDone (time : Nat) (s : State) := effect (.burnishDone time) (burnishDone time) s
def execHostPassRead (result : EccResult) (owner : Option (Nat × Nat)) (s : State) :=
  effect (.hostPassRead result owner) (hostPassRead result owner) s
def execBurnishWindowEnd (s : State) := effect .burnishWindowEnd burnishWindowEnd s

def execRecordBucketRead (ctx : Nat) (upset : ReadUpset) (s : State) :=
  effectMs (.recordBucketRead ctx upset) (recordBucketReadAll ctx upset) s

end Sys2Proof.Machine
end

