-- ==== Sys2Proof/Machine/Startup.lean ====
section
/-! DEFINITION. Acquisition, FE service, assay, shutdown completion and the instructions of the test access port that
need no bus (R33, R34, R47 to R50, R519 to R532). -/

namespace Sys2Proof.Machine

open Sys2Proof

/-! ## Acquisition (R519 to R522) -/

/-- The cause for which a start of acquisition is refused, the lowest that holds (R520). A flush that waits for the next
bucket edge is one under way (DEDUCED). -/
def State.acqCause (s : State) : Option Nat :=
  if s.get CX_PLATE_STATUS_state ≠ 4 then some 1
  else if !s.on CX_MT_STATUS_mt_valid then some 2
  else if !s.on CX_HQ_STATUS_store_ready || s.on CX_HQ_STATUS_flushing || s.mt.edge.contains .flush then some 3
  else if s.get RC_FREEZE_STATUS_state = 3 then some 4
  else if !s.on OVN_STATUS_ready then some 5
  else none

/-- A refusal of R520 or R526. -/
def State.acqRefused (s : State) (cause : Nat) : State :=
  (s.set CX_ACQ_STATUS_cause cause).flag CX_ACQ_STATUS_refused 194

/-- No request is pending any more: CX_ACQ_ORBIT shows the last one that took effect (R519). -/
def State.acqCancel (s : State) (state : Nat) : State :=
  (s.set CX_ACQ_STATUS_state state).set CX_ACQ_ORBIT_orbit s.svc.acqLast

/-- A start is requested for the start of orbit `o` (R519, R520). A start that cancels a pending stop starts nothing
and is not checked. -/
def State.acqStartAt (s : State) (o : Nat) : State :=
  match s.get CX_ACQ_STATUS_state with
  | 2 => s
  | 3 => s.acqCancel 2
  | _ =>
    match s.acqCause with
    | some c => (s.acqRefused c).acqCancel 0
    | none => (s.set CX_ACQ_STATUS_state 1).set CX_ACQ_ORBIT_orbit o

/-- A stop is requested for the start of orbit `o` (R519). -/
def State.acqStopAt (s : State) (o : Nat) : State :=
  match s.get CX_ACQ_STATUS_state with
  | 0 => s
  | 1 => s.acqCancel 0
  | _ => (s.set CX_ACQ_STATUS_state 3).set CX_ACQ_ORBIT_orbit o

/-- The first orbit start at least 2 bk after a write that arrives within the current bucket (R519). -/
def State.acqOrbit (s : State) : Nat :=
  (s.mt.orbit + (if s.mt.bucket + 2 < s.mt.nb then 1 else 2)) % 2 ^ 32

/-- ACQ_START (R519). -/
def acqStart (s : State) : State := s.acqStartAt s.acqOrbit

/-- ACQ_STOP (R519). -/
def acqStop (s : State) : State := s.acqStopAt s.acqOrbit

/-- A fast command for orbit `o` acts: an orbit that has begun gives the next orbit start, counted late (R371). -/
def State.acqFast (s : State) (o : Nat) (f : State → Nat → State) : State :=
  if 0 < diffBkt s.mt.nb (o, 0) s.now then f s o
  else f (s.count FB_CNT_fc_late) ((s.mt.orbit + 1) % 2 ^ 32)

/-- START_ACQUISITION: fast command 0x02 (R371, R519). -/
def startAcquisition (w : FastIn) (s : State) : State := s.fastCmd w 2 fun s => s.acqFast (fcArg w.item) State.acqStartAt

/-- STOP_ACQUISITION: fast command 0x03 (R371, R519). -/
def stopAcquisition (w : FastIn) (s : State) : State := s.fastCmd w 3 fun s => s.acqFast (fcArg w.item) State.acqStopAt

/-- MT stands at an orbit start at or after the effective one. -/
def State.acqDue (s : State) : Bool :=
  s.mt.running && s.mt.bucket == 0 && decide (0 ≤ diffBkt s.mt.nb s.now (s.get CX_ACQ_ORBIT_orbit, 0))

/-- A request has taken effect: its orbit stays shown. -/
def State.acqTaken (s : State) : State := { s with svc := { s.svc with acqLast := s.get CX_ACQ_ORBIT_orbit } }

/-- ACQUISITION_STARTS (R520, R521). -/
def acquisitionStarts (s : State) : State :=
  if s.get CX_ACQ_STATUS_state ≠ 1 ∨ s.acqDue = false then s
  else
    match s.acqCause with
    | some c => (s.acqRefused c).acqCancel 0
    | none =>
      let s := s.acqTaken
      let s := ((s.set CX_HQ_VALID_ORBIT_orbit s.mt.orbit).set CX_HQ_VALID_BT_bucket s.mt.bucket).set
        CX_HQ_VALID_BT_valid 1
      let s := (s.each (List.range 32) State.chaserReset).setLocal 0
      let s := { s with rc := { s.rc with last := [], rates := [] }, str := { s.str with seen := [] } }
      ((s.set CX_STR_FSEQ_next 0).set CX_ACQ_STATUS_state 2).raise 192

/-- ACQUISITION_STOPS (R522): open records end at their first unsealed bucket, and no chaser sends (R241). -/
def acquisitionStops (s : State) : State :=
  if s.get CX_ACQ_STATUS_state ≠ 3 ∨ s.acqDue = false then s
  else
    let s := s.acqTaken
    let ends := s.rc.recs.map fun r => if r.endAt.isSome then r else { r with endAt := some (s.unsealedFrom r) }
    let s := { s with rc := { s.rc with recs := ends } }
    (s.quietWords.set CX_ACQ_STATUS_state 0).raise 193

/-! ## FE service (R525, R526) -/

/-- The field of CX_FE_SVC that requests the state of die `n`. -/
def feFld (n : Nat) : Fld :=
  match n with
  | 0 => CX_FE_SVC_fe0
  | 1 => CX_FE_SVC_fe1
  | _ => CX_FE_SVC_fe2

/-- The change of die `n` under way: to 0 in service, 1 isolated, 2 off, 3 isolated from off. -/
def State.feTarget (s : State) (n : Nat) : Option Nat := (s.svc.feChange.find? fun e => e.1 == n).map (·.2)

/-- A change of die `n` begins. -/
def State.feBegin (s : State) (n target : Nat) : State :=
  State.set { s with svc := { s.svc with feChange := Sparse.insert n target s.svc.feChange } } (nowFld n) 3

/-- A change of die `n` has completed (R526). -/
def State.feEnd (s : State) (n now : Nat) : State :=
  (State.set { s with svc := { s.svc with feChange := Sparse.erase n s.svc.feChange } } (nowFld n) now).raise 196

/-- Die `n` is absent from the next bucket edge, if it is present. -/
def State.feAway (s : State) (n : Nat) : State :=
  if s.feByp.any fun e => e.1 == n && e.2.until? == none then s
  else
    let b := addBkt s.mt.nb s.now 1
    { s with feByp := (n, ⟨b.1, b.2, none⟩) :: s.feByp }

/-- Die `n` is present from the bucket that the current edge opens. -/
def State.feBack (s : State) (n : Nat) : State :=
  let last := some (subBkt s.mt.nb s.now 1)
  { s with feByp := s.feByp.map fun e =>
      if e.1 == n && e.2.until? == none then (n, { e.2 with until? := last }) else e }

/-- CX_PENDING_ENABLE.fe of die `n` (R51). -/
def State.fePend (s : State) (n : Nat) (b : Bool) : State :=
  s.set CX_PENDING_ENABLE_fe (putBits (s.get CX_PENDING_ENABLE_fe) n 1 (b2n b))

/-- Die `n` powers up: registers, offsets and bin tables at their reset values, region latches loaded from the plate
(R526). -/
def State.feUp (s : State) (n : Nat) : State :=
  let s := { s with
    csr := s.csr.filter fun e => e.1 / 2 ^ 29 != 0x20 + n
    was := s.was.filter fun w => w.key / 2 ^ 29 != 0x20 + n
    chans := s.chans.filter fun e => e.1 / 512 != n
    dies := Sparse.erase n s.dies }
  let live := s.get CX_PLATE_STATUS_state == 4
  let s := s.each (List.range 32) fun s i =>
    let r := 32 * n + i
    s.loadLatch r (if live then s.rd (fRegion r) 0 else 0)
  s.feBegin n 3

/-- The shutdown of die `n` begins (R48). A refresh slice on it ends with it. -/
def State.feOff (s : State) (n : Nat) : State :=
  let s := (s.feAway n).feBegin n 2
  let s := s.iff ((s.die n).slice && s.activity == some 4) fun s => { s with activity := none }
  { s with shut := s.shut ++ [ShutFn.feDie n] }

/-- The field of die `n` is written with `t` (R526, R47, R49). -/
def State.feWrite (s : State) (n t : Nat) : State :=
  let f := s.get (feFld n)
  if f = 2 ∧ t = 0 then s.acqRefused 6
  else
    let s := s.set (feFld n) t
    if s.shut.contains (ShutFn.feDie n) then
      if t = 2 then s.fePend n false
      else if bit (s.get CX_PENDING_ENABLE_fe) n then s
      else (s.fePend n true).raise 40
    else if f = t then s
    else if t = 2 then s.feOff n
    else if f = 2 then s.feUp n
    else if s.feTarget n = some 3 then s
    else if t = 1 then (s.feAway n).feBegin n 1
    else s.feBegin n 0

/-- FE_SERVICE_WRITE (R526): a write of CX_FE_SVC; 0b11 is taken as 0b10 (R538). -/
def feServiceWrite (v : Nat) (s : State) : State :=
  ((s.each (List.range 3) fun s n => s.feWrite n (min 2 (bits v (2 * n) 2))).critNext 22).assayCheck

/-- FE_SVC (R526): the change of die `n` under way completes, a return to service only with the servo locked. -/
def feSvc (n : Nat) (s : State) : State :=
  match s.feTarget n with
  | some 0 => if s.locked n then (s.feBack n).feEnd n 0 else s
  | some 1 => s.feEnd n 1
  | some 3 =>
    let s := s.feEnd n 1
    if s.get (feFld n) = 0 then s.feBegin n 0 else s
  | _ => s

/-- The shutdown of die `n` completes; a pending enable starts it from off (R47, R526). -/
def State.feDown (s : State) (n : Nat) : State :=
  let s := s.feEnd n 2
  if bit (s.get CX_PENDING_ENABLE_fe) n then (s.fePend n false).feUp n else s

/-! ## The reference (R33, R34, R380) -/

/-- The streaming quads (R36). -/
def State.streamQuads (s : State) : List Nat := (List.range 12).filter fun q => decide (2 ≤ s.get (LN_QUAD_mode q))

/-- The lanes of a quad. -/
def quadLanes (q : Nat) : List Nat := (List.range 4).map (4 * q + ·)

/-- The clock of a streaming quad stops: its PLL is off and its lanes fail (R33, R345, R380). -/
def State.quadStop (s : State) (q : Nat) : State :=
  let s := s.set (LN_QUAD_state q) 0
  s.each (quadLanes q) fun s n =>
    let s := (s.dirFail n true).lockLoss n
    s.each [true, false] fun s rx =>
      if s.get (nowOf n rx) = 5 then s else (s.setHeld n rx none).set (nowOf n rx) 3

/-- The streaming domain has stopped: every data path counts as lost, and the module's fragments are held (R380). -/
def State.dataStops (s : State) : State :=
  let up := (List.range 6).filter s.dataHas
  let s := s.iff (up.any fun p => s.dataUp == some p) fun s => s.flag FB_STATUS_port_lost 116
  let s := s.set FB_PORTS_data_up 0
  let s := { s with fb := { s.fb with lost := up.foldl (fun v p => Nat.lor v (2 ^ (p + 8))) s.fb.lost, dReturn := false } }
  (s.each up fun s p => s.pathLost p none).busyEval

/-- REF_LOST (R33, R101, R105, R380). -/
def refLost (s : State) : State :=
  if s.on CX_ARCH_STATUS_mgmt_backup then s
  else
    let s := ((s.set CX_ARCH_STATUS_mgmt_backup 1).set CX_ARCH_STATUS_ref_lost 1).raise 43
    let s := (s.set CX_FU_RATIO_HI_valid 0).set CX_MT_STATUS_qualified 0
    let s := (s.each s.streamQuads State.quadStop).dataStops
    if s.get CX_MT_STATUS_state = 2 ∨ s.get CX_MT_STATUS_state = 3 then s.enterStop else s

/-- REF_BACK (R34): the lanes of the streaming quads wake from off to their requested states, and the frequency unit
begins a new gate. -/
def refBack (s : State) : State :=
  if !s.on CX_ARCH_STATUS_mgmt_backup then s
  else
    let s := s.set CX_ARCH_STATUS_mgmt_backup 0
    let s := s.each s.streamQuads fun s q => s.each (quadLanes q) fun s n => s.each [true, false] fun s rx =>
      if s.get (nowOf n rx) = 3 && s.get (reqOf n rx) != 3 && s.role n != 0 then s.dirStart n rx (s.get (reqOf n rx))
      else s
    s.gateStart.raise 47

/-! ## Power-up and module power-down (R16, R439, R442, R452) -/

/-- The CX and what it supplies as at reset; the SV and the power units go on (R442, R16). -/
def State.cxReset (s : State) : State :=
  let r := State.reset
  { r with
    csr := s.csr.filter fun e => decide (0x50 ≤ e.1 / 2 ^ 29) && decide (e.1 / 2 ^ 29 ≤ 0x52)
    shut := s.shut.filter fun f => match f with
      | .unit _ | .bias | .conversion => true
      | _ => false
    pwr := { s.pwr with engines := Sparse.erase 2 s.pwr.engines }
    guard := s.guard
    free := s.free
    pending := s.pending }

/-- The whole module as at reset with the straps sampled anew: an invalid image latches the config fault (R452). -/
def State.poweredDown (s : State) (straps : Nat) : State :=
  let s := { State.reset with free := s.free, pending := s.pending }
  let s := (s.set SV_GUARD_CFG_straps_pu straps).set SV_GUARD_CFG_straps_now straps
  s.iff (!strapsValid (s.get SV_GUARD_CFG_straps_pu)) fun s => s.guardFault SV_GUARD_FAULT_config

/-- The soft start of unit `u` has reached 10 V: the loop's contents are free values within their limits. -/
def State.softStarted (s : State) (u : Nat) : State :=
  let (i, s) := s.draw
  let (e, s) := s.draw
  let (o, s) := s.draw
  let c := s.coefs u
  let out := c.uMin + o.toNat % (c.uMax - c.uMin + 1)
  let s := s.setUnit u { s.unit u with soft := none }
  ((s.setLoop u ⟨signed 40 i.toNat, 0, signed 16 e.toNat, out, 0⟩).setRole u 2).set SV_ARB_STATUS_bus 2

/-- POWER_UP (R439): the module had no power; the first feed to rise is that of unit `feed`. -/
def powerUp (feed straps : Nat) (s : State) : State :=
  if s.converting || s.shut.contains .conversion || s.on (PU_STATUS_feed_ok 0) || s.on (PU_STATUS_feed_ok 1) then s
  else (feedQualified feed (s.poweredDown straps)).softStarted feed

/-- SV_RESET (R452): both feeds have fallen below 4.5 V. -/
def svReset (straps : Nat) (s : State) : State := s.poweredDown straps

/-- The shutdown of module conversion completes; a pending start begins (R442, R47). -/
def State.conversionDown (s : State) : State :=
  let s := s.cxReset
  if s.on SV_PENDING_ENABLE_module then
    let s := (s.set SV_PENDING_ENABLE_module 0).convStart
    if s.converting then s else s.svDiscard
  else s

/-- SHUTDOWN_COMPLETE (R47, R48, R50): `forbidden` says that a lane-health check forbids a pending start. -/
def shutdownComplete (fn : ShutFn) (forbidden : Bool) (s : State) : State :=
  if !s.shut.contains fn then s
  else
    let t := { s with shut := s.shut.filter (· != fn) }
    match fn with
    | .laneTx n => t.dirDown n false forbidden
    | .laneRx n => t.dirDown n true forbidden
    | .quadPll q => t.quadDown q forbidden
    | .feDie n => t.feDown n
    | .unit u => t.unitDown u
    | .conversion => t.conversionDown
    | .bias => if s.get SV_GUARD_STATUS_state = 3 ∧ s.on SV_GUARD_STATUS_fb = true then s.biasDown else s

/-! ## Assay (R527 to R531) -/

/-- A go is refused (R527). -/
def State.assayRefuse (s : State) (cause : Nat) : State :=
  (((s.set CX_ASSAY_STATUS_refused 1).set CX_ASSAY_STATUS_cause cause).set CX_ASSAY_STATUS_verdict 0).raise 195

/-- What the tests of a block do to it at their start: an FE die's servo returns to acquiring and its code-density run
covers all columns (R528, R530); a bank's contents become undefined (R529). -/
def State.assayBegin (s : State) (block index : Nat) : State :=
  match block with
  | 1 =>
    let s := (s.iff (s.locked index) fun s => s.unlock index 1).cdTake index 0
    ((s.set (FE_CD_STATUS_state index) 3).set (FE_CD_STATUS_column index) 0).cdTake index 0
  | 2 =>
    let s := { s with
      store := { s.store with entries := s.store.entries.filter fun e => e.1 / 2 ^ 20 != index }
      svc := { s.svc with bankUndef := Nat.lor s.svc.bankUndef (2 ^ index) } }
    s.clearMarks (entryMem index) fun i => i / 2 ^ 20 == index % 8
  | _ => s

/-- ASSAY_GO (R527): of several causes the lowest code is given. -/
def assayGo (block index : Nat) (s : State) : State :=
  let s := (s.set CX_ASSAY_CTRL_block block).set CX_ASSAY_CTRL_index index
  if !assayValid block index then s.assayRefuse (if s.svc.assay.isSome then 2 else 3)
  else if !s.assayPre block index then s.assayRefuse 1
  else if s.svc.assay.isSome then s.assayRefuse 2
  else
    let s := { s with svc := { s.svc with assay := some (block, index) } }
    let s := ((s.set CX_ASSAY_STATUS_state 1).set CX_ASSAY_STATUS_verdict 0).set CX_ASSAY_STATUS_ms 0
    s.assayBegin block index

/-- ASSAY_ABORT (R531). -/
def assayAbort (s : State) : State := if s.svc.assay.isSome then s.assayStop else s

/-- ASSAY_DONE (R529): the tests end with their result after `ms` ms, no less than already told. -/
def assayDone (part fails first ms : Nat) (s : State) : State :=
  if s.svc.assay.isNone then s
  else
    let s := s.assayRunEnd
    let s := { s with svc := { s.svc with assay := none } }
    let s := ((s.set CX_ASSAY_RESULT_part part).set CX_ASSAY_RESULT_fails (min fails 255)).set CX_ASSAY_RESULT_first first
    let s := (s.set CX_ASSAY_STATUS_state 2).setB CX_ASSAY_STATUS_verdict (s.get CX_ASSAY_RESULT_part == 0)
    (s.set CX_ASSAY_STATUS_ms (max (s.get CX_ASSAY_STATUS_ms) (min ms 0xFFFF))).raise 195

/-! ## Test access (R532) -/

/-- The port after an instruction: its opcode and what was shifted out. -/
def State.tapRun (s : State) (ir tdo : Nat) : State := { s with svc := { s.svc with tap := { s.svc.tap with ir := ir, tdo := tdo } } }

/-- TEST_LOGIC_RESET: IDCODE is selected. -/
def testLogicReset (s : State) : State := { s with svc := { s.svc with tap := { s.svc.tap with ir := 1 } } }

/-- IDCODE. -/
def idcode (s : State) : State := s.tapRun 0x01 0x1153654B

/-- The boundary register takes `value` at Update-DR. -/
def State.boundary (s : State) (value : Nat) : State :=
  { s with svc := { s.svc with tap := { s.svc.tap with boundary := value % 2 ^ 23 } } }

/-- EXTEST: the cells drive `value`; what the lands show is a free value. The tile I²C master reports state 0x5. -/
def extest (value : Nat) (s : State) : State :=
  let (v, s) := s.draw
  let s := (s.tapRun 0x00 (v.toNat % 2 ^ 23)).boundary value
  s.iff (s.get CX_TILE_I2C_CTRL_state == 1) fun s => s.i2cError 5

/-- SAMPLE/PRELOAD: the cells sample `sampled` and hold `value`. -/
def samplePreload (sampled value : Nat) (s : State) : State := (s.tapRun 0x02 (sampled % 2 ^ 23)).boundary value

/-- BYPASS, and every opcode that names no other instruction: one bit, captured as 0. -/
def bypass (opcode : Nat) (s : State) : State := s.tapRun (opcode % 256) 0

/-! ## The commands -/

def execPowerUp (feed straps : Nat) (s : State) := effect (.powerUp feed straps) (powerUp feed straps) s
def execSvReset (straps : Nat) (s : State) := effect (.svReset straps) (svReset straps) s
def execRefLost (s : State) := effect .refLost refLost s
def execRefBack (s : State) := effect .refBack refBack s
def execShutdownComplete (fn : ShutFn) (forbidden : Bool) (s : State) :=
  effect (.shutdownComplete fn forbidden) (shutdownComplete fn forbidden) s
def execStartAcquisition (word : FastIn) (s : State) := effect (.startAcquisition word) (startAcquisition word) s
def execStopAcquisition (word : FastIn) (s : State) := effect (.stopAcquisition word) (stopAcquisition word) s
def execAcqStart (s : State) := effect .acqStart acqStart s
def execAcqStop (s : State) := effect .acqStop acqStop s
def execAcquisitionStarts (s : State) := effect .acquisitionStarts acquisitionStarts s
def execAcquisitionStops (s : State) := effect .acquisitionStops acquisitionStops s
def execFeServiceWrite (value : Nat) (s : State) := effect (.feServiceWrite value) (feServiceWrite value) s
def execFeSvc (die : Nat) (s : State) := effect (.feSvc die) (feSvc die) s
def execAssayGo (block index : Nat) (s : State) := effect (.assayGo block index) (assayGo block index) s
def execAssayAbort (s : State) := effect .assayAbort assayAbort s
def execAssayDone (part fails first ms : Nat) (s : State) :=
  effect (.assayDone part fails first ms) (assayDone part fails first ms) s
def execTestLogicReset (s : State) := effect .testLogicReset testLogicReset s
def execIdcode (s : State) := effect .idcode idcode s
def execExtest (value : Nat) (s : State) := effect (.extest value) (extest value) s
def execSamplePreload (sampled value : Nat) (s : State) :=
  effect (.samplePreload sampled value) (samplePreload sampled value) s
def execBypass (opcode : Nat) (s : State) := effect (.bypass opcode) (bypass opcode) s

end Sys2Proof.Machine
end

