-- ==== Sys2Proof/Machine/Commit.lean ====
section
/-! DEFINITION. What a commit and a partial reload do outside the plate, and the disruptive activities (R42 to R44, R71,
R77). -/

namespace Sys2Proof.Machine

open Sys2Proof

/-! ## Commit (R71, R72) -/

/-- The channels count a new rate window, from the end of the full load (R140). -/
def State.rateStart (s : State) : State :=
  let restart := fun e : Nat × Chan => (e.1, { e.2 with win := 0, edges := 0 })
  { s with loadedAt := s.clock, chans := (s.chans.map restart).filter fun e => e.2 != Chan.new }

/-- The functions outside the plate take a newly committed plate, at one bucket boundary; `was` are the shadows before
(R126, R217, R243, R325, R375, R485). -/
def State.commitApply (s : State) (was : PlateRd) : State :=
  let s := s.each (List.range 12) fun s q => s.quadCommit was q
  let s := s.each (List.range 48) fun s n => s.laneCommit was n
  let s := s.each (List.range 96) fun s r => s.loadLatch r (s.rd (fRegion r) 0)
  let s := s.commitBanks
  let s := s.each (List.range 3) fun s n =>
    if !smFe s.shadowRd n && s.get (feFld n) == 0 then (s.feWrite n 1).critNext 22 else s
  let s := s.iff s.stage6Out fun s => s.each (List.range 32) fun s c =>
    (s.set (TG_CHSTAT_state c) 0).set (TG_CHSTAT_out c) 0
  s.updConflict.fwdCheck.loopModes.rateStart.assayCheck

/-- PLATE_COMMIT_DONE (R71, R86). -/
def plateCommitDone (s : State) : State :=
  if s.get CX_PLATE_STATUS_state ≠ 3 then s
  else match s.commitVerdict with
    | some (err, check, frame) => s.commitFail err check frame
    | none => s.commitLoad.commitApply s.shadowRd

/-! ## Disruptive activities (R42, R43) -/

/-- An activity of `d` bk that starts at the current bucket edge ends before the last bucket of the quiet window in
progress (R42). -/
def State.fits (s : State) (d : Nat) : Bool :=
  s.mt.running && s.inWindow s.mt.bucket && decide (s.mt.bucket + d ≤ s.windowEnd s.mt.bucket)

/-- By-pass length of the reload that waits (R78). -/
def State.reloadLength (s : State) : Nat := bypassLength s.plate.relFirst

/-- A disruptive activity that is due (R42, R43). -/
inductive DueAct where
  | swap
  | reload
  | burnish (length : Nat)
  | refresh (die column : Nat)
  deriving DecidableEq, Repr

/-- Its code in CX_QUIET_DEFER.last (R44). -/
def DueAct.code : DueAct → Nat
  | .swap => 1
  | .reload => 2
  | .burnish _ => 3
  | .refresh _ _ => 4

/-- Its stated duration, in buckets. -/
def State.dueLength (s : State) : DueAct → Nat
  | .swap => 1024
  | .reload => s.reloadLength
  | .burnish d => d
  | .refresh n _ => s.get (FE_CD_CTRL_slice n)

/-- The activities that are due, in order of precedence (R43); of one kind the one that became due first comes first. -/
def State.due (s : State) : List DueAct :=
  (if s.dueSwap then [.swap] else []) ++
    (if s.get CX_PLATE_RELOAD_state = 2 then [.reload] else []) ++
    (s.dueBurnish.map DueAct.burnish ++ s.dueCd.map fun e => DueAct.refresh e.1 e.2)

/-- Activity `k` does not fit in the window in progress: it is deferred, once per window (R43). -/
def State.defer (s : State) (k : Nat) : State :=
  let w := (s.mt.orbit, s.windowEnd s.mt.bucket)
  let mask := if s.deferWin = w then s.deferMask else 0
  if bit mask k then s
  else
    let s := { s with deferWin := w, deferMask := mask + 2 ^ k }
    ((s.count CX_QUIET_DEFER_count).set CX_QUIET_DEFER_last k).raise 42

/-- Activity `a` starts. -/
def State.activityStart (s : State) (a : DueAct) : State :=
  let s := { s with activity := some a.code }
  match a with
  | .swap => { s with dueSwap := false }
  | .reload => s
  | .burnish d =>
    let hs := match s.prot.pass with
      | some p => decide (p.mem ≤ 2)
      | none => false
    State.iff { s with dueBurnish := s.dueBurnish.erase d } (hs && s.get CX_BN_PASS_CTRL_state == 2) fun s =>
      s.set CX_BN_PASS_CTRL_state 1
  | .refresh n col =>
    let s := { s with dueCd := s.dueCd.filter fun e => e != (n, col) }
    if s.cdAccepts n col then s.cdSliceStart n col else State.cdRefuse { s with activity := none } n true

/-- DISRUPTIVE_ACTIVITY_START (R42, R43): at a bucket edge inside a quiet window the due activity of highest precedence
that fits starts; those that do not fit are deferred. A refresh request for a by-passed die is discarded (R525). -/
def disruptiveActivityStart (s : State) : State :=
  if s.activity.isSome || !s.mt.running || !s.inWindow s.mt.bucket then s
  else
    let s := { s with dueCd := s.dueCd.filter fun e => s.feServed e.1 }
    let fits := fun a => s.fits (s.dueLength a)
    let due := s.due
    let t := s.each (due.filter fun a => !fits a) fun s a => s.defer a.code
    match due.find? fits with
    | some a => t.activityStart a
    | none => t

/-! ## Partial reload (R77) -/

/-- RELOAD_START (R77 steps 2 to 5): the reload that waits has the window, after any swap that is due and fits. It starts
only where it still fits; a window it was given and missed is free again. -/
def reloadStart (readBackOk : Bool) (s : State) : State :=
  let mine := s.activity == some 2
  let turn := s.fits s.reloadLength && (mine || (s.activity.isNone && !(s.dueSwap && s.fits 1024)))
  if s.get CX_PLATE_RELOAD_state = 2 then
    if turn then State.reloadWrite { s with activity := some 2 } readBackOk
    else if mine then { s with activity := none } else s
  else s

/-- The unit of the reload restarts in its initial state: region latches are loaded, a chaser is idle (R77 step 6, R126,
R240). -/
def State.unitRestart (s : State) : State :=
  let f := s.plate.relFirst
  match sectionOf f with
  | .regionInput => (s.loadLatch (f - 0x10) (s.rd f 0)).loopModes
  | .chaser => s.chaserReset ((f - 0x300) / 8)
  | _ => s

/-- RELOAD_RELEASE (R77 step 6, R81). -/
def reloadRelease (s : State) : State :=
  if s.get CX_PLATE_RELOAD_state = 3 then
    let ok := s.plate.readBackOk
    let s := State.reloadEnd { s with activity := none }
    s.iff ok fun s => s.unitRestart.updConflict
  else s

/-! ## The commands -/

def execDisruptiveActivityStart (s : State) := effect .disruptiveActivityStart disruptiveActivityStart s
def execPlateCommitDone (s : State) := effect .plateCommitDone plateCommitDone s
def execReloadStart (readBackOk : Bool) (s : State) := effect (.reloadStart readBackOk) (reloadStart readBackOk) s
def execReloadRelease (s : State) := effect .reloadRelease reloadRelease s

end Sys2Proof.Machine
end

