-- ==== Sys2Proof/Machine/View.lean ====
section
/-! DEFINITION. Reading registers: the register an address names, the fields that show a live condition, the values
the spec leaves open, and what a read does beside returning its value (R17 to R20, R552). -/

namespace Sys2Proof.Machine

open Sys2Proof

/-! ## Finding a register -/

/-- A register as an address finds it: address of its first copy, indices of the copy, fields. -/
structure RegAt where
  base : Nat
  ix : List Nat
  fields : List Fld
  deriving DecidableEq, Repr

/-- The copy of row `r` at byte address `a`. -/
def RegRow.find? (r : RegRow) (a : Nat) : Option RegAt :=
  if a < r.base then none
  else (dimIndex r.dims (a - r.base)).map fun ix => ⟨r.base, ix, r.fields ix⟩

/-- A loop-engine register; the base is that of PU-A (R445). -/
def leAt (a : Nat) : Option RegAt :=
  (List.range 3).findSome? fun i => (leRegs i).findSome? fun e =>
    if leBase i + e.1 = a then some ⟨leBase 0 + e.1, [i], e.2⟩ else none

/-- The rows of the register map. -/
def regRows : List (List RegRow) :=
  [regRowsA0, regRowsA1, regRowsA2, regRowsB0, regRowsB1, regRowsB2, regRowsC0, regRowsC1, regRowsC2, regRowsD0, regRowsD1,
    regRowsD2, regRowsD3, regRowsD4]

/-- The register at byte address `a`. -/
def regAt (a : Nat) : Option RegAt :=
  match regRows.findSome? fun l => l.findSome? fun r => r.find? a with
  | some r => some r
  | none => leAt a

def RegAt.i (r : RegAt) : Nat := r.ix.getD 0 0
def RegAt.j (r : RegAt) : Nat := r.ix.getD 1 0

/-! ## Live conditions -/

/-- A W1C bit of the register at `a` is set. -/
def State.attention (s : State) (a : Nat) : Bool :=
  match regAt a with
  | some r => (r.fields.filter fun f => f.acc == .w1c).any s.on
  | none => false

/-- Lanes `lo` to `lo + n − 1` with a W1C bit set, lane `lo` as bit 0 (R354). -/
def State.laneSummary (s : State) (lo n : Nat) : Nat :=
  (List.range n).foldl (fun v i => v + b2n (s.attention (LN_STATUS_role (lo + i)).addr) * 2 ^ i) 0

/-- CX_STATUS_SUM (R552). -/
def State.statusSum (s : State) : List (Fld × Bool) :=
  let fe := fun n => s.get (nowFld n) != 2 && (s.attention (FE_STATUS_automask n).addr || s.attention (FE_TDC_STATUS_state n).addr)
  [(CX_STATUS_SUM_ct_err, s.on CX_CT_ERR_err),
   (CX_STATUS_SUM_sv_arb, s.on SV_ARB_STATUS_suspect || s.on SV_ARB_STATUS_overdue || s.on SV_ARB_STATUS_copy_lost ||
     s.on SV_ARB_STATUS_arb_fault),
   (CX_STATUS_SUM_sv_guard, match regAt SV_GUARD_FAULT_clock.addr with
     | some r => r.fields.any s.on
     | none => false),
   (CX_STATUS_SUM_ovn, s.on OVN_STATUS_heater_fault || s.mt.readyLost),
   (CX_STATUS_SUM_pu_b, s.attention (PU_STATUS_role 1).addr), (CX_STATUS_SUM_pu_a, s.attention (PU_STATUS_role 0).addr),
   (CX_STATUS_SUM_hs1, s.attention (HS_STATUS_spared 1).addr), (CX_STATUS_SUM_hs0, s.attention (HS_STATUS_spared 0).addr),
   (CX_STATUS_SUM_fe2, fe 2), (CX_STATUS_SUM_fe1, fe 1), (CX_STATUS_SUM_fe0, fe 0),
   (CX_STATUS_SUM_assay, s.on CX_ASSAY_STATUS_refused), (CX_STATUS_SUM_acq, s.on CX_ACQ_STATUS_refused),
   (CX_STATUS_SUM_hk, s.attention HK_STATUS_refused.addr),
   (CX_STATUS_SUM_mg, s.on MG_STATUS_evq_lost || s.on MG_STATUS_refused),
   (CX_STATUS_SUM_le, s.attention CX_LE_STATUS_refused.addr),
   (CX_STATUS_SUM_tile, s.attention CX_TILE_STATUS_id_err.addr),
   (CX_STATUS_SUM_prot, s.attention CX_PROT_STATUS_dispute.addr),
   (CX_STATUS_SUM_lanes, s.laneSummary 0 48 != 0),
   (CX_STATUS_SUM_fb, s.attention FB_STATUS_refused.addr),
   (CX_STATUS_SUM_str, s.attention CX_STR_STATUS_lost.addr || s.on FB_MERGE_STATUS_unmerged),
   (CX_STATUS_SUM_rc, s.attention RC_STATUS_refused.addr || s.on RC_HIST_CTRL_refused),
   (CX_STATUS_SUM_tg, s.attention TG_STATUS_late.addr || s.on TG_PATH_refused),
   (CX_STATUS_SUM_hq, s.attention CX_HQ_STATUS_low.addr),
   (CX_STATUS_SUM_cx, s.on CX_ARCH_STATUS_ref_lost || s.on CX_MT_ORBIT_LEN_refused)]

/-- Nothing of acquisition is left: no record open, no fragment in the send order, every context free (R538). -/
def State.drained (s : State) : Bool := s.rc.recs.isEmpty && s.str.order.isEmpty && s.get RC_CTX_free == 10240

/-- The region loop that the CX instance shows (R488). -/
def State.leShown (s : State) : RLoop := s.rloop (s.get CX_LE_SEL_loop)

/-- Fields whose read shows a condition as it stands, not a stored value. -/
def State.views (s : State) (r : RegAt) : List (Fld × Nat) :=
  let i := r.i
  let b := r.base
  if b = CX_STATUS_SUM_cx.addr then s.statusSum.map fun e => (e.1, b2n e.2)
  else if b = LN_SUMMARY_LO_lanes.addr then [(LN_SUMMARY_LO_lanes, s.laneSummary 0 32)]
  else if b = LN_SUMMARY_HI_lanes.addr then [(LN_SUMMARY_HI_lanes, s.laneSummary 32 16)]
  else if b = CX_HQ_DEPTH_cur.addr then [(CX_HQ_DEPTH_cur, s.depthCur)]
  else if b = CX_QUIET_STATUS_in_window.addr then [(CX_QUIET_STATUS_in_window, b2n (s.inWindow s.mt.bucket))]
  else if b = CX_ACQ_STATUS_drained.addr then [(CX_ACQ_STATUS_drained, b2n s.drained)]
  else if b = CX_BN_PATROL_passes.addr then [(CX_BN_PATROL_passes, Sparse.get 0 (s.get CX_BN_PATROL_memory) s.prot.passes)]
  else if b = CX_FU_RATIO_HI_ratio_hi.addr then [(CX_FU_RATIO_HI_ratio_hi, s.mt.ratioLatch)]
  else if b = MG_UPTIME_HI_us.addr then [(MG_UPTIME_HI_us, s.mg.upLatch)]
  else if b = FB_SERIAL_LO_serial.addr then [(FB_SERIAL_LO_serial, Config.dieSerial.toNat % 2 ^ 32)]
  else if b = FB_SERIAL_HI_serial.addr then [(FB_SERIAL_HI_serial, Config.dieSerial.toNat / 2 ^ 32)]
  else if b = TG_LOCAL_LO_number.addr then [(TG_LOCAL_LO_number, s.tg.next % 2 ^ 32)]
  else if b = (FE_CH_STAT_fill 0 0).addr then
    [(FE_CH_STAT_fill i r.j, (s.chan (512 * i + r.j)).fifo.length),
     (FE_CH_STAT_active_now i r.j, b2n (s.chan (512 * i + r.j)).high)]
  else if b = leBase 0 ∧ i = 2 then [(LE_CTRL_closed 2, b2n (s.leClosed 2))]
  else if b = leBase 0 + 0x24 ∧ i = 2 then [(LE_OUT_u 2, s.leShown.loop.u), (LE_OUT_sat 2, b2n s.leShown.sat)]
  else if b = leBase 0 + 0x28 ∧ i = 2 then [(LE_INT_LO_int 2, unsigned 40 s.leShown.loop.i % 2 ^ 32)]
  else if b = leBase 0 + 0x2c ∧ i = 2 then [(LE_INT_HI_int 2, unsigned 40 s.leShown.loop.i / 2 ^ 32)]
  else []

/-- A phase error of −127 to +127 ticks as FE_TDC_STATUS.servo_err shows it (R185). -/
def servoErr (v : Nat) : Nat := if v % 255 < 128 then v % 255 else v % 255 + 1

/-- Fields that show a measurement or a count of time that the model does not hold: their read is a free value, which the
function given brings within the field's bounds. -/
def State.openFields (s : State) (r : RegAt) : List (Fld × (Nat → Nat)) :=
  let i := r.i
  let b := r.base
  let whole := fun (f : Fld) => (f, fun v : Nat => v % 2 ^ f.width)
  if b = OVN_STATUS_heater.addr then
    if s.on OVN_STATUS_heater_fault then [] else [whole OVN_STATUS_heater]
  else if b = (FE_TDC_STATUS_servo_err 0).addr then
    if s.get (FE_TDC_STATUS_state i) = 0 then [] else [(FE_TDC_STATUS_servo_err i, servoErr)]
  else if b = (PU_MEAS_vfeed 0).addr then [whole (PU_MEAS_vfeed i)]
  else if b = (PU_MEAS2_iin 0).addr then [whole (PU_MEAS2_iin i), whole (PU_MEAS2_temp i)]
  else []

/-- The free values of the open fields of a read. -/
def State.drawFields (s : State) : List (Fld × (Nat → Nat)) → List (Fld × Nat) × State
  | [] => ([], s)
  | (f, g) :: l =>
    let (v, s) := s.draw
    let (vs, s) := s.drawFields l
    ((f, g v.toNat) :: vs, s)

/-- Times and counts that go on outside the model have grown by a free value since they were last told: CX_HO_TIME in
holdover (R104), ready_age while ready (R113), the age of a column's tables once swapped and the progress of the column
under a full run (R189), the time of a running assay (R529), and the firings missed in the stop state (R120). The swap
timer, where it runs, has fallen by one and stays above 0 until a swap is scheduled (R433, R448), and automatic restarts
have left the 60 s in which MG_STATUS counts them (R495). -/
def State.riseBefore (s : State) (r : RegAt) : State :=
  let i := r.i
  let b := r.base
  if b = CX_HO_TIME_ms.addr then s.iff (s.on CX_MT_STATUS_holdover) fun s => s.rise CX_HO_TIME_ms
  else if b = OVN_STATUS_heater.addr then s.iff (s.on OVN_STATUS_ready) fun s => s.rise OVN_STATUS_ready_age
  else if b = (FE_CD_COL_age 0 0).addr then
    let s := s.iff (s.get (FE_CD_COL_age i r.j) != 0xFFF) fun s => s.rise (FE_CD_COL_age i r.j)
    let f := FE_CD_COL_progress i r.j
    s.iff (s.get (FE_CD_STATUS_state i) == 3 && s.get (FE_CD_STATUS_column i) == r.j) fun s =>
      let s := s.rise f
      s.set f (min 1024 (s.get f))
  else if b = CX_ASSAY_STATUS_ms.addr then s.iff s.svc.assay.isSome fun s => s.rise CX_ASSAY_STATUS_ms
  else if b = SV_ARB_TIMER_remaining.addr then
    s.iff (!s.on SV_ARB_STATUS_sched && !s.swapsHeld) fun s =>
      let (v, s) := s.draw
      let r := s.get SV_ARB_TIMER_remaining
      s.set SV_ARB_TIMER_remaining (r - v.toNat % r)
  else if b = MG_STATUS_state.addr then
    let (v, s) := s.draw
    s.set MG_STATUS_restarts (v.toNat % (s.get MG_STATUS_restarts + 1))
  else if b = CX_CAL_EN_missed.addr then s.iff (s.get CX_MT_STATUS_state == 4 && !s.mt.running) State.missStopped
  else s

/-! ## What a read does -/

/-- A register whose read acts before it returns its value: snapshots and queues (R111, R256, R497, R504, R506). -/
def State.readBefore (s : State) (r : RegAt) : State :=
  let b := r.base
  let s := s.riseBefore r
  if b = CX_FU_RATIO_LO_ratio_lo.addr then fuRatioRead s
  else if b = TG_LOCAL_LO_number.addr then tgLocalRead s
  else if b = MG_UPTIME_LO_us.addr then
    let (v, s) := s.draw
    uptimeRead ((s.mg.uptime + v.toNat) % 2 ^ 64) s
  else if b = MG_EV_CLAIM_valid.addr then evClaimRead s
  else if b = MG_EVQ_LO_entry.addr then evqRead s
  else s

/-- RC fields clear after the read (R17), and a count read as 0 lets its event be raised again (R120, R186, R319,
R344). -/
def State.readAfter (s : State) (r : RegAt) : State :=
  let rc := r.fields.filter fun f => f.acc == .rc
  let zero := fun (f : Fld) => s.get f == 0
  let i := r.i
  let s' := s.each rc fun s f => s.set f 0
  let b := r.base
  if b = CX_CAL_EN_missed.addr then
    s'.iff (zero CX_CAL_EN_missed) fun s => { s with mt := { s.mt with missedRaised := false } }
  else if b = CX_STR_RX_bad.addr then
    s'.iff (zero CX_STR_RX_bad) fun s => { s with str := { s.str with rxBadRaised := false } }
  else if b = (FE_CD_STATUS_refused 0).addr then
    s'.iff (zero (FE_CD_STATUS_refused i)) fun s => s.setDie i { s.die i with refRaised := false }
  else if b = (LN_LOOP_CNT_errors 0).addr then
    s'.iff (zero (LN_LOOP_CNT_errors i)) fun s => s.setLane i { s.lane i with errRaised := false }
  else s'

/-- The word that fields make. -/
def State.fieldsWord (s : State) (ovr : List (Fld × Nat)) (fs : List Fld) : Nat :=
  fs.foldl (fun v f =>
    let x := if f.acc = .wo then 0
      else match ovr.find? fun e => e.1 == f with
        | some e => e.2
        | none => s.get f
    v + x % 2 ^ f.width * 2 ^ f.lo) 0

/-- A register is read (R17). MG_DMA0 reads 0 (R501). -/
def State.readReg (s : State) (r : RegAt) : Nat × State :=
  if 0x1000C300 ≤ r.base ∧ r.base < 0x1000C310 ∧ r.i = 0 then (0, s)
  else
    let s := s.readBefore r
    let (free, s) := s.drawFields (s.openFields r)
    (s.fieldsWord (s.views r ++ free) r.fields, s.readAfter r)

end Sys2Proof.Machine
end

