-- ==== Sys2Proof/Machine/RegWrite.lean ====
section
/-! DEFINITION. Writing registers: what a write of 32 bits does at each register, by the access of its fields (R17) and,
where a register's write does more than store, by the rule of its chapter. -/

namespace Sys2Proof.Machine

open Sys2Proof

/-- Where a transaction comes from: its path and, for a fabric transaction, the lane its message arrived on. -/
structure Source where
  path : Path
  lane : Option Nat
  deriving DecidableEq, Repr

/-! ## Fields -/

/-- One field under a write of `v` (R17). -/
def State.writeField (v : Nat) (s : State) (f : Fld) : State :=
  match f.acc with
  | .rw => s.set f (bits v f.lo f.width)
  | .w1c => s.set f (Nat.xor (s.get f) (Nat.land (s.get f) (bits v f.lo f.width)))
  | _ => s

/-- The RW and W1C fields of a register under a write of `v`. -/
def State.storeReg (s : State) (r : RegAt) (v : Nat) : State := s.each r.fields (State.writeField v)

/-- The W1C fields alone. -/
def State.storeW1c (s : State) (r : RegAt) (v : Nat) : State :=
  s.each (r.fields.filter fun f => f.acc == .w1c) (State.writeField v)

/-- What the write puts into field `f`. -/
def Fld.of (f : Fld) (v : Nat) : Nat := bits v f.lo f.width

/-- The write has a 1 in field `f`. -/
def Fld.one (f : Fld) (v : Nat) : Bool := f.of v != 0

/-- A field of which a write while acquisition runs is ignored, as `refuse` tells (R256). -/
def State.shutOut (s : State) (f : Fld) (v : Nat) (refuse : State → State) : State :=
  if s.acq then refuse s else s.set f (f.of v)

/-- A field that may not change while acquisition runs (R302): a write that would change it then is ignored and `refuse`
tells so. -/
def State.guarded (s : State) (f : Fld) (v : Nat) (refuse : State → State) : State :=
  if s.get f = f.of v then s else if s.acq then refuse s else s.set f (f.of v)

/-- Fields that a map period takes: a write is in force from the period named `d` buckets on, or from the one after it
where the write arrives after the closing coarse period of the current bucket. When in the bucket it arrives is a free
value (text after R230, R248). -/
def State.keepPeriod (s : State) (fs : List Fld) (d : Nat) : State :=
  if s.get TG_PATH_close = 31 then s.keepOld fs d
  else
    let (v, s) := s.draw
    s.keepOld fs (d + v.toNat % 2)

/-- A field stored as at least 1. -/
def State.atLeast1 (s : State) (f : Fld) (v : Nat) : State := s.set f (max 1 (f.of v))

/-! ## Plate, machine time, calendar (chapters 2, 3) -/

/-- A reload is checking, waiting or running (R76). -/
def State.reloading (s : State) : Bool := decide (1 ≤ s.get CX_PLATE_RELOAD_state) && decide (s.get CX_PLATE_RELOAD_state ≤ 3)

def writePlate (src : Source) (r : RegAt) (v : Nat) (s : State) : Option State :=
  let b := r.base
  if b = CX_PLATE_CTRL_open.addr then
    let s := s.iff (CX_PLATE_CTRL_open.one v) plateOpen
    let s := s.iff (CX_PLATE_CTRL_commit.one v) (plateCommit src.lane)
    some (s.iff (CX_PLATE_CTRL_abort.one v) plateAbort)
  else if b = CX_PLATE_FCRC_crc.addr then some (plateFcrcWrite (CX_PLATE_FCRC_frame.of v) (CX_PLATE_FCRC_crc.of v) s)
  else if b = (CX_PLATE_STAGE_CRC_crc_even 0).addr then some (if s.reloading then s else s.storeReg r v)
  else if b = CX_PLATE_RELOAD_go.addr then
    let s := s.storeReg r v
    let s := s.iff (CX_PLATE_RELOAD_go.one v) (reloadGo (CX_PLATE_RELOAD_first.of v) (CX_PLATE_RELOAD_count.of v))
    some (s.iff (CX_PLATE_RELOAD_cancel.one v) reloadCancel)
  else none

def writeTime (r : RegAt) (v : Nat) (s : State) : Option State :=
  let b := r.base
  if b = CX_MT_ORBIT_LEN_nb_m1.addr then
    let s := s.storeW1c r v
    some (if s.acq then s.set CX_MT_ORBIT_LEN_refused 1
      else s.set CX_MT_ORBIT_LEN_nb_m1 (max 63 (CX_MT_ORBIT_LEN_nb_m1.of v)))
  else if b = CX_MT_CTRL_src_sel.addr then
    let s := sourceSelect (CX_MT_CTRL_src_sel.of v) s
    let s := s.iff (CX_MT_CTRL_snap.one v) fun s => mtSnap s.tickNow.1 s.tickNow.2
    some (s.iff (CX_MT_CTRL_load.one v) mtLoad)
  else if b = CX_MT_SLEW_rate.addr then some (s.set CX_MT_SLEW_rate (min 0x64 (max 1 (CX_MT_SLEW_rate.of v))))
  else if b = CX_FU_CTRL_gate_ms.addr then
    some ((s.storeReg r v).set CX_FU_CTRL_gate_ms (min 10000 (max 1 (CX_FU_CTRL_gate_ms.of v))))
  else if b = CX_CAL_EN_enable.addr ∨ ((CX_CAL_CTRL_enable 0).addr ≤ b ∧ b ≤ (CX_CAL_OVAL_value 0).addr) then
    let s := (s.keepOld (r.fields.filter fun f => f.acc == .rw) 2).storeReg r v
    some (s.iff (b == CX_CAL_EN_enable.addr) fun s => s.critNext 36)
  else if b = (CX_QUIET_WIN_last 0).addr then some ((s.storeReg r v).critNext (37 + r.i))
  else none

/-! ## FE dies (chapters 4, 5) -/

def writeFe (r : RegAt) (v : Nat) (s : State) : Option State :=
  let b := r.base
  let n := r.i
  if b = (FE_GUARD_rate_win 0).addr then
    some ((s.storeReg r v).set (FE_GUARD_rate_win n) (min 0xA ((FE_GUARD_rate_win n).of v)))
  else if b = (FE_AUTOMASK_row 0 0).addr then some (automaskClear n r.j v s)
  else if b = (FE_CH_CFG_mask 0 0).addr then some (channelConfigWrite n r.j v s)
  else if b = (FE_TDC_CTRL_ideal 0).addr then
    let s := if s.get (FE_TDC_CTRL_ideal n) = (FE_TDC_CTRL_ideal n).of v then s
      else ((s.keepTables fun ch => ch / 512 == n).keepOld [FE_TDC_CTRL_ideal n] 1).storeReg r v
    some (s.iff ((FE_TDC_CTRL_relock n).one v) (relock n))
  else if b = (FE_CTRL_die_mask 0).addr then some ((s.keepOldFe [FE_CTRL_die_mask n]).storeReg r v)
  else if b = (FE_TDC_DIE_OFS_ofs 0).addr ∨ b = (FE_CH_OFS_ofs 0 0).addr then some ((s.keepOldFe r.fields).storeReg r v)
  else if b = (FE_PAIR_EN_pair 0 0).addr then some ((s.keepOld r.fields 1).storeReg r v)
  else if b = (FE_CD_CTRL_slice 0).addr then
    let s := s.atLeast1 (FE_CD_CTRL_slice n) v
    let s := s.iff ((FE_CD_CTRL_full n).one v) (cdFullRun n)
    some (s.iff ((FE_CD_CTRL_abort n).one v) (cdAbort n))
  else if b = (FE_BIN_even 0 0 0).addr then some (binTableWrite n r.j (r.ix.getD 2 0) v s)
  else none

/-! ## Store, trigger, records, streaming (chapters 6 to 9) -/

def writeData (r : RegAt) (v : Nat) (s : State) : Option State :=
  let b := r.base
  let tgRefuse := fun (s : State) => s.flag TG_PATH_refused 87
  if b = CX_HQ_CTRL_flush.addr then
    let s := s.iff (CX_HQ_CTRL_flush.one v) hqFlush
    some (s.iff (CX_HQ_CTRL_depth_rst.one v) depthReset)
  else if b = CX_HQ_BANKS_retire.addr then some (bankRetire (CX_HQ_BANKS_retire.of v) s)
  else if b = TG_PATH_close.addr then
    let clears := TG_PATH_refused.one v && s.get TG_PATH_close == TG_PATH_close.of v
    let s := s.storeW1c r v
    let s := if clears then s else s.shutOut TG_PATH_close v tgRefuse
    some (s.each ((List.range 48).filter fun n => s.on (FB_TP_FWD_en n)) fun s n => s.set (FB_TP_FWD_wait n) (s.fwdWait n))
  else if b = (TG_REGION_COARSE_coarse 0).addr ∨ b = (TG_REGION_TOT_tot_min 0).addr then
    some ((s.keepPeriod r.fields 2).storeReg r v)
  else if b = TG_TEST_CTRL_mode.addr ∨ b = TG_TEST_LANES_LO_lanes.addr ∨ b = TG_TEST_LANES_HI_lanes.addr then
    some ((s.keepPeriod r.fields 1).storeReg r v)
  else if b = TG_ACCEPT_lat_min.addr then some (s.shutOut TG_ACCEPT_lat_min v tgRefuse)
  else if b = RC_BUSY_on.addr then some (s.storeReg r v).busyEval
  else if b = RC_LIMIT_words.addr then some (s.atLeast1 RC_LIMIT_words v)
  else if b = RC_FREEZE_CTRL_arm.addr then
    let post := RC_FREEZE_CTRL_post.of v
    let s := if RC_FREEZE_CTRL_arm.one v then freezeArm post s else freezeDisarm post s
    some (s.iff (RC_FREEZE_CTRL_force.one v) freezeForce)
  else if b = RC_DUMP_CTRL_go.addr then
    let s := s.storeReg r v
    some (s.iff (RC_DUMP_CTRL_go.one v) (dumpGo (RC_DUMP_CTRL_class.of v) (RC_DUMP_CTRL_len.of v)))
  else if b = RC_HIST_CTRL_swap.addr then some ((s.storeReg r v).iff (RC_HIST_CTRL_swap.one v) histSwapWrite)
  else if b = CX_STR_CTRL_order.addr then
    some ((s.atLeast1 CX_STR_CTRL_resend_us v).guarded CX_STR_CTRL_order v fun s => s.flag CX_STR_STATUS_refused 112)
  else if b = FB_MERGE_CTRL_enable.addr then some ((s.storeReg r v).atLeast1 FB_MERGE_CTRL_timeout_us v)
  else none

/-! ## Lanes (chapter 10) -/

def writeLane (src : Source) (r : RegAt) (v : Nat) (s : State) : Option State :=
  let b := r.base
  let n := r.i
  if b = (LN_CTRL_out 0).addr then
    let s := s.set (LN_CTRL_eq_freeze n) ((LN_CTRL_eq_freeze n).of v)
    let out := (LN_CTRL_out n).one v
    let s := s.iff (out != s.on (LN_CTRL_out n)) (laneOut n out src.lane)
    let loop := (LN_CTRL_loop n).of v
    let pattern := (LN_CTRL_pattern n).of v
    let change := loop != s.get (LN_CTRL_loop n) || pattern != s.get (LN_CTRL_pattern n)
    some (s.iff (change || (loop != 0 && !s.on (LN_CTRL_out n))) (laneLoopSelect n loop pattern))
  else if b = (LN_PWR_tx_req 0).addr then
    some (lanePowerRequest n ((LN_PWR_tx_req n).of v) ((LN_PWR_rx_req n).of v) src.lane s)
  else if b = (LN_RX_ALIGN_slip 0).addr then some (slipWrite n ((LN_RX_ALIGN_slip n).of v) s)
  else if b = (LN_PORT_serve 0).addr then some (spareServeWrite n ((LN_PORT_serve n).of v) s)
  else none

/-! ## The fabric (chapter 11) -/

/-- Port `p` names no port, or has a lane of the role `role` that its route needs (R356, R392). -/
def State.portFits (s : State) (role p : Nat) : Bool :=
  decide (6 ≤ p) || (List.range 8).any fun k => s.role (8 * p + k) == role

/-- FB_UP (R356, R376, R379): each route uses its primary where that has the service, else its secondary. What is queued on a
port without service, and what was handed to the old data path and not acknowledged, moves to the new route (R308). -/
def fbUpWrite (r : RegAt) (v : Nat) (s : State) : State :=
  let tp := FB_UP_tc_pri.of v
  let ts := FB_UP_tc_sec.of v
  let dp := FB_UP_d_pri.of v
  let ds := FB_UP_d_sec.of v
  if !(s.portFits 1 tp && s.portFits 1 ts && s.portFits 3 dp && s.portFits 3 ds) then s.fbRefuse
  else
    let oldT := s.upOrder.1
    let oldD := s.dataOrder.1
    let s := (s.storeReg r v).critNext 46
    let s := { s with
      fb := { s.fb with tcSec := !s.tcHas tp && s.tcHas ts, dReturn := false }
      str := { s.str with dSec := !s.dataHas dp && s.dataHas ds } }
    let newD := s.dataOrder.1
    let s := s.iff (decide (oldT < 6) && !s.tcHas oldT && oldT != s.upOrder.1) fun s => s.moveItems oldT
    s.iff (decide (oldD < 6 ∧ newD < 6 ∧ oldD ≠ newD)) fun s => (s.moveFrags oldD newD).busyEval

/-- FB_CTRL (R379): with revert set, traffic whose primary port has its service moves back. -/
def fbCtrlWrite (r : RegAt) (v : Nat) (s : State) : State :=
  let s := s.storeReg r v
  let s := s.iff (FB_CTRL_revert.one v) fun s =>
    let back := s.fb.tcSec && s.tcHas (s.get FB_UP_tc_pri)
    let moves := (List.range 4096).filter fun d =>
      s.on (FB_ROUTE_en d) && s.on (FB_ROUTE_use_sec d) && s.tcHas (s.get (FB_ROUTE_pri d))
    let s := if back then { s with fb := { s.fb with tcSec := false } } else s
    let s := s.each moves fun s d => s.set (FB_ROUTE_use_sec d) 0
    let s := s.iff (back || moves != []) State.rerouted
    let p := s.get FB_UP_d_pri
    if s.str.dSec && s.dataHas p then
      State.dataReturn { s with fb := { s.fb with dReturn := true } }
    else s
  s.iff (FB_CTRL_time_follow.one v) timeFollow

def writeFabric (r : RegAt) (v : Nat) (s : State) : Option State :=
  let b := r.base
  let i := r.i
  if b = FB_CTRL_revert.addr then some (fbCtrlWrite r v s)
  else if b = FB_UP_tc_pri.addr then some (fbUpWrite r v s)
  else if b = FB_DOWN_ports.addr then
    some (if (List.range 6).all fun p => !bit v p || s.portFits 1 p then (s.storeReg r v).critNext 47 else s.fbRefuse)
  else if b = FB_DISC_CTRL_go.addr then
    let port := FB_DISC_CTRL_port.of v
    if FB_DISC_CTRL_go.one v then some (if FB_DISC_CTRL_op.one v then discAssign port s else discProbe port s)
    else if !s.tcLanes port then some s.fbRefuse
    else some (if s.get FB_DISC_CTRL_state = 1 then s else s.storeReg r v)
  else if b = FB_TIME_CTRL_qual.addr then
    some (((s.storeReg r v).atLeast1 FB_TIME_CTRL_loss_orb v).atLeast1 FB_TIME_CTRL_qual v |>.atLeast1 FB_TIME_CTRL_pd_int v)
  else if b = (FB_TP_FWD_en 0).addr then
    if s.acq || ((FB_TP_FWD_en i).one v && !s.fwdOk i ((FB_TP_FWD_src i).of v)) then some s.fbRefuse
    else some ((s.storeReg r v).set (FB_TP_FWD_wait i) (s.fwdWait i))
  else if b = (FB_ROUTE_en 0).addr then
    if !(s.portFits 1 ((FB_ROUTE_pri i).of v) && s.portFits 1 ((FB_ROUTE_sec i).of v)) then
      some s.fbRefuse
    else some ((s.storeReg r v).set (FB_ROUTE_use_sec i) 0)
  else none

/-! ## Protection, power, guard (chapters 12 to 14) -/

/-- The largest injected amplitude of instance `i`, at the output or at the reference (R426, R484). -/
def ampLimit (i : Nat) (output : Bool) : Nat :=
  if i = 2 then (if output then 50 else 64) else if output then 1311 else 200

def writePower (r : RegAt) (v : Nat) (s : State) : Option State :=
  let b := r.base
  let i := r.i
  if b = CX_BN_CTRL_patrol_en.addr then
    some ((s.storeReg r v).set CX_BN_CTRL_aux_rate (min 16 (CX_BN_CTRL_aux_rate.of v)))
  else if b = CX_BN_PASS_CTRL_go.addr then
    let s := s.storeReg r v
    let s := s.iff (CX_BN_PASS_CTRL_go.one v) (burnishPassGo (CX_BN_PASS_CTRL_memory.of v))
    some (s.iff (CX_BN_PASS_CTRL_abort.one v) burnishPassAbort)
  else if b = (CX_FLT_CLASS_n 0).addr then
    some ((s.atLeast1 (CX_FLT_CLASS_n i) v).atLeast1 (CX_FLT_CLASS_w i) v)
  else if b = (PU_CTRL_out 0).addr then
    let out := (PU_CTRL_out i).one v
    some (puOut i out s)
  else if b = (PU_STATUS_fault 0).addr then
    let clear := (PU_STATUS_fault i).one v
    some ((s.storeW1c r (putBits v 6 1 0)).iff clear (puFaultClear i))
  else if b = leBase 0 then
    let use := (LE_CTRL_use_host i).one v
    let s := leUseHost i use s
    some (s.iff ((LE_CTRL_commit i).one v && !s.leClosed i) (leCommit i))
  else if b = leBase 0 + 0x34 then
    let s := (s.storeReg r v).atLeast1 (LE_INJ_CTRL_hold i) v
    some (s.set (LE_INJ_CTRL_amp i) (min (ampLimit i ((LE_INJ_CTRL_point i).one v)) ((LE_INJ_CTRL_amp i).of v)))
  else if b = SV_ARB_PERIOD_period.addr then
    let s := s.swapPeriod (min 86400 (max 60 (SV_ARB_PERIOD_period.of v)))
    some (s.iff (SV_ARB_PERIOD_swap_now.one v) swapNow)
  else if b = SV_GUARD_CMD_enable.addr then
    let s := s.iff (SV_GUARD_CMD_enable.one v) biasEnable
    some (s.iff (SV_GUARD_CMD_disable.one v) biasDisable)
  else none

/-! ## Tile, management, service (chapters 15 to 18) -/

def writeMgmt (src : Source) (r : RegAt) (v : Nat) (s : State) : Option State :=
  let b := r.base
  let i := r.i
  if b = CX_TILE_EXP_CTRL_snap.addr then some (s.iff (CX_TILE_EXP_CTRL_snap.one v) tileExpSnap)
  else if b = CX_TILE_I2C_CTRL_go.addr then
    if CX_TILE_I2C_CTRL_go.one v then
      some (i2cGo (CX_TILE_I2C_CTRL_op.one v) (CX_TILE_I2C_CTRL_len_m1.of v) (CX_TILE_I2C_CTRL_addr.of v) s)
    else some (s.storeReg r v)
  else if b = (CX_LE_LOOP_en 0).addr then
    some (loopEnable i ((CX_LE_LOOP_en i).one v) ((CX_LE_LOOP_therm i).of v) ((CX_LE_LOOP_target i).of v) s)
  else if b = MG_CTRL_auto.addr then
    let s := (s.storeReg r v).iff (MG_CTRL_halt.one v) mgHalt
    some (s.iff (MG_CTRL_restart.one v) mgRestart)
  else if b = MG_IMG_CTRL_switch.addr then
    let s := s.atLeast1 MG_IMG_CTRL_timeout v
    let s := s.iff (MG_IMG_CTRL_ready.one v && src.path == .core) imageReady
    let s := s.iff (MG_IMG_CTRL_force.one v) imageForce
    some (s.iff (MG_IMG_CTRL_switch.one v) imageSwitch)
  else if b = MG_WDOG_period.addr then some (s.storeReg r v).wdogRestart
  else if b = MG_MTIMECMP_LO_cmp.addr ∨ b = MG_MTIMECMP_HI_cmp.addr then
    let s := s.storeReg r v
    some { s with mg := { s.mg with timer := decide (s.mtimecmp ≤ s.mg.uptime) } }
  else if b = HK_CTRL_cal.addr then
    let on := HK_CTRL_ref_en.one v
    let s := s.iff (on != s.on HK_CTRL_ref_en) (hkRefEnable on)
    some (s.iff (HK_CTRL_cal.one v) hkCal)
  else if b = HK_REG_CTRL_en.addr then
    let len := HK_REG_CTRL_len_m1.of v
    let s := (s.set HK_REG_CTRL_len_m1 len).set HK_REG_CTRL_period (max (len + 1) (HK_REG_CTRL_period.of v))
    some (hkRegEnable (HK_REG_CTRL_en.one v) s)
  else if b = HK_INJ_go.addr then
    some (if HK_INJ_go.one v then hkInject (HK_INJ_input.of v) s else s.storeReg r v)
  else if b = HK_BUF_BASE_addr.addr then some (s.set HK_BUF_BASE_addr (v / 4 * 4))
  else if b = CX_ACQ_CTRL_start.addr then
    let s := s.iff (CX_ACQ_CTRL_start.one v) acqStart
    some (s.iff (CX_ACQ_CTRL_stop.one v) acqStop)
  else if b = CX_FE_SVC_fe0.addr then some (feServiceWrite v s)
  else if b = CX_ASSAY_CTRL_go.addr then
    let s := s.storeReg r v
    let s := s.iff (CX_ASSAY_CTRL_go.one v) (assayGo (CX_ASSAY_CTRL_block.of v) (CX_ASSAY_CTRL_index.of v))
    some (s.iff (CX_ASSAY_CTRL_abort.one v) assayAbort)
  else none

/-! ## DMA control (R501) -/

/-- Channel `c` runs. -/
def State.dmaRuns (s : State) (c : Nat) : Bool := s.get (MG_DMA_CTRL_state c) == 1

/-- DMA_GO (R501): a length of no word is done at once. -/
def dmaGo (c : Nat) (s : State) : State :=
  if s.dmaRuns c then s.mgRefused
  else
    let n := s.get (MG_DMA_LEN_bytes c) / 4
    let d : Dma := ⟨4 * s.get (MG_DMA_SRC_addr c), 4 * s.get (MG_DMA_DST_addr c), n, false⟩
    let s := (s.set (MG_DMA_CTRL_err c) 0).set (MG_DMA_CTRL_state c) (if n = 0 then 2 else 1)
    if n = 0 then s else { s with mg := { s.mg with dma := Sparse.insert c d s.mg.dma } }

/-- DMA_ABORT (R501): the channel stops after its current word. -/
def dmaAbort (c : Nat) (s : State) : State :=
  match s.mg.dma.find? fun e => e.1 == c with
  | some e => { s with mg := { s.mg with dma := Sparse.insert c { e.2 with abort := true } s.mg.dma } }
  | none => s

/-- The DMA registers; channel 0 ignores writes (R501). -/
def writeDma (r : RegAt) (v : Nat) (s : State) : Option State :=
  if 0x1000C300 ≤ r.base ∧ r.base < 0x1000C310 then
    if r.i = 0 then some s
    else if r.base = (MG_DMA_CTRL_go 0).addr then
      let s := (s.storeReg r v).iff ((MG_DMA_CTRL_go r.i).one v) (dmaGo r.i)
      some (s.iff ((MG_DMA_CTRL_abort r.i).one v) (dmaAbort r.i))
    else some (s.storeReg r v)
  else none

/-- A register is written with `v`. -/
def State.writeReg (s : State) (src : Source) (r : RegAt) (v : Nat) : State :=
  match writePlate src r v s <|> writeTime r v s <|> writeFe r v s <|> writeData r v s <|> writeLane src r v s <|>
      writeFabric r v s <|> writePower r v s <|> writeMgmt src r v s <|> writeDma r v s with
  | some s => s
  | none => s.storeReg r v

end Sys2Proof.Machine
end

