-- ==== Sys2Proof/Machine/Bus.lean ====
section
/-! DEFINITION. Control transactions: targets and their errors, the windows, and the commands that issue transactions
(R290, R368, R401 to R403, R492, R501 to R503, R533 to R535, R540 to R548). -/

namespace Sys2Proof.Machine

open Sys2Proof

/-- One control transaction: 32 bits at `addr` (R543). -/
structure Txn where
  src : Source
  write : Bool
  addr : Nat
  data : Nat
  be : Nat
  deriving DecidableEq, Repr

/-! ## Errors (R540 to R548) -/

/-- The address lies in a range of R540, and in the management range where R492 gives something. -/
def addrKnown (a : Nat) : Bool :=
  decide (a < 0x10000000) || (decide (0x40000000 ≤ a) && decide (a < 0x40062000)) ||
    [0x10, 0x20, 0x21, 0x22, 0x30, 0x31, 0x50, 0x51, 0x52, 0x53].contains (a / 2 ^ 24)

/-- Targets that take any non-zero byte enables: the plate window, the staging buffer and the management RAMs. -/
def narrowTarget (a : Nat) : Bool :=
  decide (a < 0x10000000) || (decide (0x10000800 ≤ a) && decide (a < 0x10000C00)) ||
    (decide (0x40000000 ≤ a) && decide (a < 0x40062000))

/-- A write that a rule refuses with the access error (R55, R492, R499). The event log and the boot ROM take no write. -/
def State.writeRefused (s : State) (t : Txn) : Bool :=
  let a := t.addr
  let core := t.src.path == .core
  let img := s.get MG_IMG_CTRL_state
  if a < 0xC0000 then s.get CX_PLATE_STATUS_state == 0 || s.get CX_PLATE_STATUS_state == 4
  else if a < 0x40000000 ∨ 0x50000000 ≤ a then false
  else if a < 0x40020000 then core || s.get MG_STATUS_state == 2
  else if a < 0x40040000 then !core && (img == 1 || img == 2)
  else decide (0x40058000 ≤ a)

/-- The error a transaction meets before it is executed, in the order of R547; 0 for none. -/
def State.txnError (s : State) (t : Txn) : Nat :=
  let a := t.addr
  if !addrKnown a || (t.write && decide (0xC0000 ≤ a) && decide (a < 0x10000000)) then 1
  else if a % 4 ≠ 0 ∨ t.be % 16 = 0 ∨ (t.be % 16 ≠ 15 ∧ narrowTarget a = false) then 2
  else if 0x20000000 ≤ a ∧ a < 0x23000000 ∧ s.get (nowFld (a / 2 ^ 24 - 0x20)) = 2 then 3
  else if t.write && s.writeRefused t then 4
  else 0

/-- CX_CT_ERR.path (R553). -/
def pathCode (p : Path) : Nat :=
  match p with
  | .fabric => 0
  | .test => 1
  | .core => 2
  | .dma _ => 3

/-- An error is recorded (R548, R553). -/
def State.ctError (s : State) (p : Path) (code a : Nat) : State :=
  let s := ((s.set CX_CT_ERR_ADDR_addr a).set CX_CT_ERR_path (pathCode p)).set CX_CT_ERR_status code
  let s := (s.set CX_CT_ERR_block (a / 2 ^ 24)).count CX_CT_ERR_count
  s.flag CX_CT_ERR_err 0 (pathCode p * 0x1000 + code * 0x100 + a / 2 ^ 24)

/-! ## Reading the windows -/

/-- A read of word or byte `i` of memory `m`, whose value is `v`: what the check found, with the word handled under R407
where it is lost. -/
def State.codedRead (s : State) (m i v : Nat) (r : EccResult) : Nat × Nat × State :=
  if s.mark m i ≠ 0 ∨ r = .uncorrectable then (5, 0, (s.repairFails m i).burnishWord 0 m i r none)
  else if r = .corrected then (0, v, s.corrected 0 m i)
  else (0, v, s)

/-- The half of a 64-bit word that address `a` names (R13). -/
def halfAt (a v : Nat) : Nat := bits v (32 * (a / 4 % 2)) 32

/-- A read of the plate window fills the merge buffer where it is open on the word (R55, R402). -/
def State.plateRead (s : State) (a : Nat) (r : EccResult) : Nat × Nat × State :=
  if 0xC0000 ≤ a then (0, 0, s)
  else
    let i := a / 8
    let open_ := (s.prot.bufPlate.map (·.word)) == some i
    let s := if open_ then (s.fillRead memPlate i r).fillPlate else s
    s.codedRead memPlate i (halfAt a (Sparse.get 0 i s.plate.mem)) (if open_ then .clean else r)

/-- A read of the instruction RAM (R492, R402). -/
def State.iramRead (s : State) (a : Nat) (r : EccResult) : Nat × Nat × State :=
  let i := s.iramIndex (decide (0x40020000 ≤ a)) (a % 0x20000)
  let open_ := (s.prot.bufRam.map (·.word)) == some i
  let s := if open_ then (s.fillRead memIram i r).fillRam else s
  s.codedRead memIram i (halfAt a (s.iramWord i)) (if open_ then .clean else r)

/-- A read of the data RAM, byte by byte; what the check found is told of the first enabled byte (R492, R395). -/
def State.dramRead (s : State) (off be : Nat) (r : EccResult) : Nat × Nat × State :=
  let on := (List.range 4).filter fun k => bit be k
  on.foldl (fun acc k =>
    let (code, v, s) := acc
    let found := if on.head? = some k then r else .clean
    let (c, b, s) := s.codedRead memDram (off + k) (s.dramByte (off + k)) found
    if code = 0 ∧ c = 0 then (0, v + b * 256 ^ k, s) else (5, 0, s)) (0, 0, s)

/-- A counter of the readable histogram bank, at address `a` (R290). The clearing takes the counters in ascending order at an even pace,
16 a bucket; within the bucket under way the spec does not say which are cleared (R276). -/
def State.histRead (s : State) (a : Nat) : Nat × State :=
  let e := a % 512
  let n := (a / 512 - 0x80800) * 66 + (if e < 0x100 then e / 4 else 64 + (e - 0x100) / 4)
  if 0x108 ≤ e then (0, s)
  else
    let v := Sparse.get 0 n (if s.get RC_HIST_CTRL_bank = 0 then s.rc.hist0 else s.rc.hist1)
    if !s.on RC_HIST_CTRL_clearing then (v, s)
    else
      let gone := 16 * (s.clock - s.rc.clearAt)
      if n < gone then (0, s)
      else if gone + 16 ≤ n then (v, s)
      else
        let (x, s) := s.draw
        (if x.toNat % 2 = 0 then v else 0, s)

/-- The capture entry at address `a`, if it names one (R445, R488): instance and key. -/
def State.captureAt (s : State) (a : Nat) : Option (Nat × Nat) :=
  if 0x10008000 ≤ a ∧ a < 0x1000C000 then some (2, s.get CX_LE_SEL_loop * 4096 + (a - 0x10008000) / 4)
  else if 0x50004000 ≤ a ∧ a < 0x50008000 then some (0, (a - 0x50004000) / 4)
  else if 0x51004000 ≤ a ∧ a < 0x51008000 then some (1, (a - 0x51004000) / 4)
  else none

/-- A read of a capture memory or of a register (R427, R17). -/
def State.regRead (s : State) (a : Nat) : Nat × Nat × State :=
  match s.captureAt a with
  | some (i, k) => (0, Sparse.get 0 k (s.engine i).caps, s)
  | none =>
    match regAt a with
    | some g =>
      let (v, s) := s.readReg g
      (0, v, s)
    | none => (0, 0, s)

/-- A read of a register, a bin table or a window of the blocks (R542): 0 where nothing is listed. -/
def State.blockRead (s : State) (a : Nat) (r : EccResult) : Nat × Nat × State :=
  if 0x10000800 ≤ a ∧ a < 0x10000C00 then (0, halfAt a (Sparse.get 0 ((a - 0x10000800) / 8) s.plate.stage), s)
  else if 0x10080000 ≤ a ∧ a < 0x10100000 then
    let i := (a - 0x10080000) / 8
    s.codedRead memDesc i (halfAt a ((s.desc (i / 2)).words.getD (i % 2) 0)) r
  else if 0x10100000 ≤ a ∧ a < 0x101C0000 then
    let (v, s) := s.histRead a
    (0, v, s)
  else if 0x10800000 ≤ a ∧ a < 0x11000000 then
    let i := (a - 0x10800000) / 8
    s.codedRead memLink i (halfAt a (s.link i)) r
  else s.regRead a

/-- What a read delivers: status, data and the machine after it. -/
def State.busRead (s : State) (a be : Nat) (r : EccResult) : Nat × Nat × State :=
  if a < 0x10000000 then s.plateRead a r
  else if a < 0x40000000 ∨ 0x50000000 ≤ a then s.blockRead a r
  else if a < 0x40040000 then s.iramRead a r
  else if a < 0x40060000 then s.dramRead (a - 0x40040000) be r
  else (0, (Config.bootRom ((a - 0x40060000) / 4)).toNat, s)

/-! ## Writing -/

/-- A write to the data RAM, byte by byte. -/
def State.dramStore (s : State) (off data be : Nat) : State :=
  s.each ((List.range 4).filter fun k => bit be k) fun s k => s.dramWrite (off + k) (byteOf data k)

/-- A write takes effect (R544): the windows that are RO and addresses not listed ignore it (R200, R290, R542). -/
def State.busWrite (s : State) (t : Txn) : State :=
  let a := t.addr
  if a < 0xC0000 then plateWindowWrite a t.data t.be s
  else if 0x40000000 ≤ a ∧ a < 0x40040000 then
    let i := s.iramIndex (decide (0x40020000 ≤ a)) (a % 0x20000)
    s.bufRamPut i (halfMask (a / 4 % 2) t.be) (halfData (a / 4 % 2) t.data)
  else if 0x40040000 ≤ a ∧ a < 0x40058000 then s.dramStore (a - 0x40040000) t.data t.be
  else if 0x10000800 ≤ a ∧ a < 0x10000C00 then stageWrite a t.data t.be s
  else match regAt a with
    | some g => s.writeReg t.src g t.data
    | none => s

/-- The transaction is answered with `status` and `data`; an error is recorded and delivers 0 (R547, R548). -/
def State.answered (s : State) (t : Txn) (status data : Nat) : State :=
  let s := s.iff (status != 0) fun s => s.ctError t.src.path status t.addr
  { s with answer := (status, if status = 0 then data else 0) }

/-- A transaction is executed (R543 to R548); `r` is what the check of a coded word found. -/
def State.transact (s : State) (t : Txn) (r : EccResult) : State :=
  let e := s.txnError t
  if e ≠ 0 then s.answered t e 0
  else if t.write then (s.busWrite t).answered t 0 0
  else
    let (code, v, s) := s.busRead t.addr t.be r
    s.answered t code (maskBytes v t.be)

/-! ## Fabric requests (R368, R546) -/

/-- The transaction of a request (R359). -/
def txnOf (m : CtMsg) (src : Source) : Txn :=
  ⟨src, ctOp m.head == 1, bits (m.body.getD 0 0) 32 32, bits (m.body.getD 0 0) 0 32, ctBe m.head⟩

/-- The request is for this module: it is executed, unless the control port holds 16 transactions (R546). -/
def State.serve (s : State) (m : CtMsg) (src : Source) (r : EccResult) (full : Bool) : State :=
  let t := txnOf m src
  let s := if full then s.answered t 7 0 else s.transact t r
  s.response m s.answer.1 s.answer.2

/-- READ_REQUEST (R368). -/
def readRequest (m : CtMsg) (r : EccResult) (full : Bool) (s : State) : State :=
  s.request m 0 fun s => s.serve m ⟨.fabric, none⟩ r full

/-- WRITE_REQUEST (R368), arrived on `lane`. -/
def writeRequest (m : CtMsg) (lane : Option Nat) (full : Bool) (s : State) : State :=
  s.request m 1 fun s => s.serve m ⟨.fabric, lane⟩ .clean full

/-! ## DMA (R501 to R503) -/

/-- Channel `c` halts with `err` (R503). -/
def State.dmaHalt (s : State) (c err : Nat) : State :=
  let s := { s with mg := { s.mg with dma := Sparse.erase c s.mg.dma } }
  ((s.set (MG_DMA_CTRL_state c) 3).set (MG_DMA_CTRL_err c) err).raise 181

/-- DMA_WORD_TRANSFER (R501, R503): channel `c` copies its next word; the read finds `r`. -/
def dmaWordTransfer (c : Nat) (r : EccResult) (s : State) : State :=
  match s.mg.dma.find? fun e => e.1 == c with
  | none => s
  | some (_, d) =>
    let src : Source := ⟨.dma c, none⟩
    let s := s.transact ⟨src, false, d.src, 0, 15⟩ r
    let v := s.answer.2
    if s.answer.1 = 5 then s.dmaHalt c 1
    else if s.answer.1 ≠ 0 then s.dmaHalt c 2
    else
      let s := s.transact ⟨src, true, d.dst, v, 15⟩ .clean
      if s.answer.1 ≠ 0 then s.dmaHalt c 3
      else
        let d := match s.mg.dma.find? fun e => e.1 == c with
          | some e => { d with abort := e.2.abort }
          | none => d
        let step := fun (f : Nat → Fld) => if s.on (f c) then 4 else 0
        let d := { d with
          src := (d.src + step MG_DMA_CTRL_src_inc) % 2 ^ 32, dst := (d.dst + step MG_DMA_CTRL_dst_inc) % 2 ^ 32
          left := d.left - 1 }
        if d.left = 0 ∨ d.abort then
          State.set { s with mg := { s.mg with dma := Sparse.erase c s.mg.dma } } (MG_DMA_CTRL_state c) 2
        else { s with mg := { s.mg with dma := Sparse.insert c d s.mg.dma } }

/-! ## Test access (R533 to R535) -/

/-- CTRL_ACCESS (R533): what the scan captured is shifted out and `dr` is shifted in; `early`: the previous access is
not done, and this one is discarded. -/
def ctrlAccess (dr : Nat) (r : EccResult) (early : Bool) (s : State) : State :=
  let cap := s.svc.tap.ctrl
  let s := s.tapRun 0x20 cap
  let held := fun (s : State) (c : Nat) => { s with svc := { s.svc with tap := { s.svc.tap with ctrl := c } } }
  if early then held s (putBits cap 71 1 0)
  else
    let a := bits dr 32 32
    let s := s.transact ⟨⟨.test, none⟩, bit dr 71, a, bits dr 0 32, bits dr 67 4⟩ r
    held s (2 ^ 71 + s.answer.1 * 2 ^ 67 + a * 2 ^ 32 + s.answer.2)

/-- The entry of a bank that its assay left undefined reads as a free value until it is written (R529). -/
def State.entryValue (s : State) (bank row : Nat) : Nat × State :=
  let k := entryKey bank row
  if bit s.svc.bankUndef bank && !Sparse.has k s.store.entries then
    let (v, s) := s.draw
    (v.toNat, s)
  else (Sparse.get 0 k s.store.entries, s)

/-- A read of an entry: result, data and the machine after it. A read corrects nothing in the store (R534); the bits
of an uncorrectable entry are a free value. -/
def State.entryRead (s : State) (bank row : Nat) (r : EccResult) : Nat × Nat × State :=
  let m := entryMem bank
  let i := entryIndex bank row
  let open_ := (s.prot.bufTest.map (·.word)) == some (markKey m i)
  let s := if open_ then (s.fillRead m i r).fillTest else s
  let r := if open_ then .clean else r
  if s.mark m i = 2 then (3, 0, s.eccLast 3 0 m i)
  else if s.mark m i = 1 ∨ r = .uncorrectable then
    let (v, s) := (s.setMark m i 1).draw
    (2, v.toNat, s)
  else
    let (v, s) := s.entryValue bank row
    if r = .corrected then (1, v, s.corrected 0 m i) else (0, v, s)

/-- HS_ENTRY (R534, R535). -/
def hsEntry (dr : Nat) (r : EccResult) (s : State) : State :=
  let s := s.tapRun 0x21 s.svc.tap.hs
  let be := bits dr 95 8
  let bank := bits dr 91 4
  let row := bits dr 71 20
  let v := bits dr 0 64
  let key := markKey (entryMem bank) (entryIndex bank row)
  let done := fun (s : State) (res data : Nat) =>
    let cap := 2 ^ 103 + res * 2 ^ 100 + bank * 2 ^ 91 + row * 2 ^ 71 + data
    { s with svc := { s.svc with tap := { s.svc.tap with hs := cap } } }
  if bit dr 103 then
    if bit (s.get CX_HQ_BANKS_in_service) bank && s.acq then done s 4 v
    else if be = 0xFF then
      let own := (s.prot.bufTest.map (·.word)) == some key
      let s := if own then { s with prot := { s.prot with bufTest := none } } else s
      done (s.entryWrite key v) 0 v
    else done (s.bufTestPut key be v) 0 v
  else
    let (res, d, s) := s.entryRead bank row r
    done s res d

/-! ## Registers without a row of their own (R17 to R20, R543 to R548) -/

/-- REGISTER_WRITE (R543): a write on `path`. -/
def registerWrite (path : Path) (addr data be : Nat) (s : State) : State :=
  s.transact ⟨⟨path, none⟩, true, addr, data, be⟩ .clean

/-- READ_CLEAR (R19): a read on `path`. -/
def readClear (path : Path) (addr be : Nat) (s : State) : State :=
  s.transact ⟨⟨path, none⟩, false, addr, 0, be⟩ .clean

/-- TRANSACTION_TIMEOUT (R546 to R548): the access that `msg` spells gets no answer within 50 µs; `took`: a write has
taken effect. A DMA channel halts, test access captures the status, a request is answered. -/
def transactionTimeout (path : Path) (m : CtMsg) (took : Bool) (s : State) : State :=
  let t := txnOf m ⟨path, none⟩
  let idle := match path with
    | .dma c => !s.dmaRuns c
    | _ => false
  if s.txnError t ≠ 0 ∨ idle = true then s
  else
    let s := s.iff (took && t.write) fun s => s.busWrite t
    let s := s.answered t 6 0
    match path with
    | .fabric => s.response m 6 0
    | .test => { s with svc := { s.svc with tap := { s.svc.tap with ctrl := 2 ^ 71 + 6 * 2 ^ 67 + t.addr * 2 ^ 32 } } }
    | .dma c => s.dmaHalt c (if t.write then 3 else 2)
    | .core => s

/-! ## The commands -/

def execReadRequest (msg : CtMsg) (ecc : EccResult) (full : Bool) (s : State) :=
  effect (.readRequest msg ecc full) (readRequest msg ecc full) s
def execWriteRequest (msg : CtMsg) (lane : Option Nat) (full : Bool) (s : State) :=
  effect (.writeRequest msg lane full) (writeRequest msg lane full) s
def execDmaGo (c : Nat) (s : State) := effect (.dmaGo c) (dmaGo c) s
def execDmaAbort (c : Nat) (s : State) := effect (.dmaAbort c) (dmaAbort c) s
def execDmaWordTransfer (c : Nat) (ecc : EccResult) (s : State) := effect (.dmaWordTransfer c ecc) (dmaWordTransfer c ecc) s
def execCtrlAccess (dr : Nat) (ecc : EccResult) (early : Bool) (s : State) :=
  effect (.ctrlAccess dr ecc early) (ctrlAccess dr ecc early) s
def execHsEntry (dr : Nat) (ecc : EccResult) (s : State) := effect (.hsEntry dr ecc) (hsEntry dr ecc) s
def execRegisterWrite (path : Path) (addr data be : Nat) (s : State) :=
  effect (.registerWrite path addr data be) (registerWrite path addr data be) s
def execReadClear (path : Path) (addr be : Nat) (s : State) := effect (.readClear path addr be) (readClear path addr be) s
def execTransactionTimeout (path : Path) (msg : CtMsg) (took : Bool) (s : State) :=
  effect (.transactionTimeout path msg took) (transactionTimeout path msg took) s

end Sys2Proof.Machine
end

