-- ==== Sys2Proof/Machine/Dispatch.lean ====
section
/-! DEFINITION. One arm per command. -/

namespace Sys2Proof.Machine

open Sys2Proof

/-- The effect of a command on everything but the queue. -/
def exec (i : Instr) (s : State) : Host.Outcome State Fault Refusal :=
  match i with
  | .powerUp feed straps => Sys2Proof.Machine.execPowerUp feed straps s
  | .svReset straps => Sys2Proof.Machine.execSvReset straps s
  | .feedQualified unit => Sys2Proof.Machine.execFeedQualified unit s
  | .feedOutOfRange unit => Sys2Proof.Machine.execFeedOutOfRange unit s
  | .refLost => Sys2Proof.Machine.execRefLost s
  | .refBack => Sys2Proof.Machine.execRefBack s
  | .shutdownComplete fn forbidden => Sys2Proof.Machine.execShutdownComplete fn forbidden s
  | .disruptiveActivityStart => Sys2Proof.Machine.execDisruptiveActivityStart s
  | .plateOpen => Sys2Proof.Machine.execPlateOpen s
  | .plateClearDone => Sys2Proof.Machine.execPlateClearDone s
  | .plateAbort => Sys2Proof.Machine.execPlateAbort s
  | .plateFcrcWrite frame crc => Sys2Proof.Machine.execPlateFcrcWrite frame crc s
  | .plateWindowWrite addr data be => Sys2Proof.Machine.execPlateWindowWrite addr data be s
  | .plateCommit lane => Sys2Proof.Machine.execPlateCommit lane s
  | .plateCommitDone => Sys2Proof.Machine.execPlateCommitDone s
  | .reloadGo first count => Sys2Proof.Machine.execReloadGo first count s
  | .reloadCancel => Sys2Proof.Machine.execReloadCancel s
  | .reloadStart readBackOk => Sys2Proof.Machine.execReloadStart readBackOk s
  | .reloadRelease => Sys2Proof.Machine.execReloadRelease s
  | .orbitStart => Sys2Proof.Machine.execOrbitStart s
  | .mtLoad => Sys2Proof.Machine.execMtLoad s
  | .mtLoadApply => Sys2Proof.Machine.execMtLoadApply s
  | .mtSnap tick => Sys2Proof.Machine.execMtSnap tick s
  | .sourceSelect sel => Sys2Proof.Machine.execSourceSelect sel s
  | .sourceLost => Sys2Proof.Machine.execSourceLost s
  | .sourceQualified mclk lane offset => Sys2Proof.Machine.execSourceQualified mclk lane offset s
  | .orbitMarkerMismatch k => Sys2Proof.Machine.execOrbitMarkerMismatch k s
  | .slewEnd offset => Sys2Proof.Machine.execSlewEnd offset s
  | .mtQualified => Sys2Proof.Machine.execMtQualified s
  | .fuGateEnd slope resid => Sys2Proof.Machine.execFuGateEnd slope resid s
  | .fuRatioRead => Sys2Proof.Machine.execFuRatioRead s
  | .ovnReady => Sys2Proof.Machine.execOvnReady s
  | .ovnHeaterFault => Sys2Proof.Machine.execOvnHeaterFault s
  | .ovnReadyLost => Sys2Proof.Machine.execOvnReadyLost s
  | .testChargeInjection entry => Sys2Proof.Machine.execTestChargeInjection entry s
  | .housekeepingConversion entry => Sys2Proof.Machine.execHousekeepingConversion entry s
  | .loopEngineTestSignal entry => Sys2Proof.Machine.execLoopEngineTestSignal entry s
  | .burnishWindow entry => Sys2Proof.Machine.execBurnishWindow entry s
  | .roleSwap entry => Sys2Proof.Machine.execRoleSwap entry s
  | .partialPlateReload entry => Sys2Proof.Machine.execPartialPlateReload entry s
  | .tileLifeRecordWrite entry => Sys2Proof.Machine.execTileLifeRecordWrite entry s
  | .codeDensityCalibrationRefresh entry => Sys2Proof.Machine.execCodeDensityCalibrationRefresh entry s
  | .calendarReservedAction entry => Sys2Proof.Machine.execCalendarReservedAction entry s
  | .discriminatorLeadingEdge ch at_ => Sys2Proof.Machine.execDiscriminatorLeadingEdge ch at_ s
  | .discriminatorTrailingEdge ch at_ overload narrow invalid => Sys2Proof.Machine.execDiscriminatorTrailingEdge ch at_ overload narrow invalid s
  | .totOverflow ch overload invalid => Sys2Proof.Machine.execTotOverflow ch overload invalid s
  | .recoveryEnd ch beyond lost at_ => Sys2Proof.Machine.execRecoveryEnd ch beyond lost at_ s
  | .channelConfigWrite die l value => Sys2Proof.Machine.execChannelConfigWrite die l value s
  | .stuckDetected ch => Sys2Proof.Machine.execStuckDetected ch s
  | .rateLimitExceeded ch => Sys2Proof.Machine.execRateLimitExceeded ch s
  | .automaskClear die k bits => Sys2Proof.Machine.execAutomaskClear die k bits s
  | .coarsePllLock die => Sys2Proof.Machine.execCoarsePllLock die s
  | .coarsePllLoss die => Sys2Proof.Machine.execCoarsePllLoss die s
  | .dllLock die => Sys2Proof.Machine.execDllLock die s
  | .dllUnlock die => Sys2Proof.Machine.execDllUnlock die s
  | .relock die => Sys2Proof.Machine.execRelock die s
  | .cdFullRun die => Sys2Proof.Machine.execCdFullRun die s
  | .cdAbort die => Sys2Proof.Machine.execCdAbort die s
  | .cdSliceEnd die stamps invalid => Sys2Proof.Machine.execCdSliceEnd die stamps invalid s
  | .cdTablesComputed die hist => Sys2Proof.Machine.execCdTablesComputed die hist s
  | .binTableWrite die l j value => Sys2Proof.Machine.execBinTableWrite die l j value s
  | .hitMerge die lateForMap => Sys2Proof.Machine.execHitMerge die lateForMap s
  | .bucketSeal markers => Sys2Proof.Machine.execBucketSeal markers s
  | .storeRowWrite row => Sys2Proof.Machine.execStoreRowWrite row s
  | .bucketWriteDone => Sys2Proof.Machine.execBucketWriteDone s
  | .ageOut desc link => Sys2Proof.Machine.execAgeOut desc link s
  | .hqFlush => Sys2Proof.Machine.execHqFlush s
  | .flushDone => Sys2Proof.Machine.execFlushDone s
  | .depthReset => Sys2Proof.Machine.execDepthReset s
  | .bankRetire mask => Sys2Proof.Machine.execBankRetire mask s
  | .bankClearDone bank => Sys2Proof.Machine.execBankClearDone bank s
  | .rowSpared die row => Sys2Proof.Machine.execRowSpared die row s
  | .mapPeriodClose orbit bucket absent bad => Sys2Proof.Machine.execMapPeriodClose orbit bucket absent bad s
  | .chaserTimerExpiry c t => Sys2Proof.Machine.execChaserTimerExpiry c t s
  | .acceptCommand body => Sys2Proof.Machine.execAcceptCommand body s
  | .tgLocalRead => Sys2Proof.Machine.execTgLocalRead s
  | .recordEngineTake => Sys2Proof.Machine.execRecordEngineTake s
  | .recordBucketRead ctx upset => Sys2Proof.Machine.execRecordBucketRead ctx upset s
  | .recordComplete ctx => Sys2Proof.Machine.execRecordComplete ctx s
  | .histSwapWrite => Sys2Proof.Machine.execHistSwapWrite s
  | .histSwapDone => Sys2Proof.Machine.execHistSwapDone s
  | .freezeArm post => Sys2Proof.Machine.execFreezeArm post s
  | .freezeDisarm post => Sys2Proof.Machine.execFreezeDisarm post s
  | .freezeForce => Sys2Proof.Machine.execFreezeForce s
  | .ringStop => Sys2Proof.Machine.execRingStop s
  | .dumpGo cls len => Sys2Proof.Machine.execDumpGo cls len s
  | .blockSend port bad => Sys2Proof.Machine.execBlockSend port bad s
  | .creditReceived port ack window nak => Sys2Proof.Machine.execCreditReceived port ack window nak s
  | .resendTimeout port => Sys2Proof.Machine.execResendTimeout port s
  | .blockReceived port block => Sys2Proof.Machine.execBlockReceived port block s
  | .creditTimer port => Sys2Proof.Machine.execCreditTimer port s
  | .mergeContribution => Sys2Proof.Machine.execMergeContribution s
  | .mergeTimeout number => Sys2Proof.Machine.execMergeTimeout number s
  | .frameTransmit lane => Sys2Proof.Machine.execFrameTransmit lane s
  | .frameReceived lane frame => Sys2Proof.Machine.execFrameReceived lane frame s
  | .frameRelease lane margin => Sys2Proof.Machine.execFrameRelease lane margin s
  | .sourceFrameGap => Sys2Proof.Machine.execSourceFrameGap s
  | .symbolLock lane lat => Sys2Proof.Machine.execSymbolLock lane lat s
  | .lockLost lane many => Sys2Proof.Machine.execLockLost lane many s
  | .slipWrite lane slip => Sys2Proof.Machine.execSlipWrite lane slip s
  | .eyeMeasurement lane eye steady driverFault => Sys2Proof.Machine.execEyeMeasurement lane eye steady driverFault s
  | .lanePowerRequest lane tx rx via => Sys2Proof.Machine.execLanePowerRequest lane tx rx via s
  | .laneWakeDone lane rx => Sys2Proof.Machine.execLaneWakeDone lane rx s
  | .laneLoopSelect lane loop pattern => Sys2Proof.Machine.execLaneLoopSelect lane loop pattern s
  | .laneOut lane out via => Sys2Proof.Machine.execLaneOut lane out via s
  | .laneFailed lane rx => Sys2Proof.Machine.execLaneFailed lane rx s
  | .spareServeWrite port bits => Sys2Proof.Machine.execSpareServeWrite port bits s
  | .laneRejoin lane => Sys2Proof.Machine.execLaneRejoin lane s
  | .pllUnlock quad => Sys2Proof.Machine.execPllUnlock quad s
  | .readRequest msg ecc full => Sys2Proof.Machine.execReadRequest msg ecc full s
  | .writeRequest msg lane full => Sys2Proof.Machine.execWriteRequest msg lane full s
  | .readResponse msg => Sys2Proof.Machine.execReadResponse msg s
  | .writeResponse msg => Sys2Proof.Machine.execWriteResponse msg s
  | .probe lane msg => Sys2Proof.Machine.execProbe lane msg s
  | .probeAnswer port msg => Sys2Proof.Machine.execProbeAnswer port msg s
  | .assign lane msg => Sys2Proof.Machine.execAssign lane msg s
  | .discProbe port => Sys2Proof.Machine.execDiscProbe port s
  | .discAssign port => Sys2Proof.Machine.execDiscAssign port s
  | .discTimeout => Sys2Proof.Machine.execDiscTimeout s
  | .fcMtLoad word => Sys2Proof.Machine.execFcMtLoad word s
  | .startAcquisition word => Sys2Proof.Machine.execStartAcquisition word s
  | .stopAcquisition word => Sys2Proof.Machine.execStopAcquisition word s
  | .forceFreeze word => Sys2Proof.Machine.execForceFreeze word s
  | .histogramSwap word => Sys2Proof.Machine.execHistogramSwap word s
  | .frameGap port word => Sys2Proof.Machine.execFrameGap port word s
  | .acceptLost port word => Sys2Proof.Machine.execAcceptLost port word s
  | .portLost port data => Sys2Proof.Machine.execPortLost port data s
  | .portRegained port data => Sys2Proof.Machine.execPortRegained port data s
  | .timeFollow => Sys2Proof.Machine.execTimeFollow s
  | .pdelayTimer => Sys2Proof.Machine.execPdelayTimer s
  | .pdelayReq port seq ta => Sys2Proof.Machine.execPdelayReq port seq ta s
  | .pdelayResp port seq turnaround rtt => Sys2Proof.Machine.execPdelayResp port seq turnaround rtt s
  | .sync word ta => Sys2Proof.Machine.execSync word ta s
  | .announce word => Sys2Proof.Machine.execAnnounce word s
  | .masterLost => Sys2Proof.Machine.execMasterLost s
  | .criticalWordVote die word copies sense => Sys2Proof.Machine.execCriticalWordVote die word copies sense s
  | .mergeBufferTimeout buf result => Sys2Proof.Machine.execMergeBufferTimeout buf result s
  | .patrolRead mem result owner => Sys2Proof.Machine.execPatrolRead mem result owner s
  | .faultWindowExpiry cls mem index => Sys2Proof.Machine.execFaultWindowExpiry cls mem index s
  | .burnishPassGo mem => Sys2Proof.Machine.execBurnishPassGo mem s
  | .burnishPassAbort => Sys2Proof.Machine.execBurnishPassAbort s
  | .burnishDone time => Sys2Proof.Machine.execBurnishDone time s
  | .loopSample unit y ff parityOk overrun limited => Sys2Proof.Machine.execLoopSample unit y ff parityOk overrun limited s
  | .leCommit inst => Sys2Proof.Machine.execLeCommit inst s
  | .leUseHost inst value => Sys2Proof.Machine.execLeUseHost inst value s
  | .injDone inst => Sys2Proof.Machine.execInjDone inst s
  | .heartbeatLost unit => Sys2Proof.Machine.execHeartbeatLost unit s
  | .arbiterLost unit fault => Sys2Proof.Machine.execArbiterLost unit fault s
  | .copyLink => Sys2Proof.Machine.execCopyLink s
  | .midBusUndervoltage => Sys2Proof.Machine.execMidBusUndervoltage s
  | .busFault => Sys2Proof.Machine.execBusFault s
  | .unitOvertemperature unit => Sys2Proof.Machine.execUnitOvertemperature unit s
  | .swapTimerExpiry => Sys2Proof.Machine.execSwapTimerExpiry s
  | .swapNow => Sys2Proof.Machine.execSwapNow s
  | .swapOverdue => Sys2Proof.Machine.execSwapOverdue s
  | .swapPermit => Sys2Proof.Machine.execSwapPermit s
  | .swapHandover => Sys2Proof.Machine.execSwapHandover s
  | .swapDone => Sys2Proof.Machine.execSwapDone s
  | .puOut unit out => Sys2Proof.Machine.execPuOut unit out s
  | .puFaultClear unit => Sys2Proof.Machine.execPuFaultClear unit s
  | .lastUnitRestart again => Sys2Proof.Machine.execLastUnitRestart again s
  | .strapSample straps => Sys2Proof.Machine.execStrapSample straps s
  | .channelOpen side => Sys2Proof.Machine.execChannelOpen side s
  | .channelClosed side => Sys2Proof.Machine.execChannelClosed side s
  | .pulseMissing side => Sys2Proof.Machine.execPulseMissing side s
  | .chatter side => Sys2Proof.Machine.execChatter side s
  | .chatterEnd side => Sys2Proof.Machine.execChatterEnd side s
  | .discrepancy => Sys2Proof.Machine.execDiscrepancy s
  | .guardProof => Sys2Proof.Machine.execGuardProof s
  | .biasEnable => Sys2Proof.Machine.execBiasEnable s
  | .biasDisable => Sys2Proof.Machine.execBiasDisable s
  | .biasFbChange closed masked => Sys2Proof.Machine.execBiasFbChange closed masked s
  | .fbEnableTimeout => Sys2Proof.Machine.execFbEnableTimeout s
  | .fbDisableTimeout => Sys2Proof.Machine.execFbDisableTimeout s
  | .darkTestPulse side => Sys2Proof.Machine.execDarkTestPulse side s
  | .darkPulseEnd side sawLow backHigh => Sys2Proof.Machine.execDarkPulseEnd side sawLow backHigh s
  | .clkFault => Sys2Proof.Machine.execClkFault s
  | .tilePresence present => Sys2Proof.Machine.execTilePresence present s
  | .tileIdReadDone acked bytes => Sys2Proof.Machine.execTileIdReadDone acked bytes s
  | .i2cGo op lenM1 addr => Sys2Proof.Machine.execI2cGo op lenM1 addr s
  | .i2cDone acked data => Sys2Proof.Machine.execI2cDone acked data s
  | .lifeHoldExpiry => Sys2Proof.Machine.execLifeHoldExpiry s
  | .tileExpSnap => Sys2Proof.Machine.execTileExpSnap s
  | .regionLoopSample region parityOk overrun => Sys2Proof.Machine.execRegionLoopSample region parityOk overrun s
  | .loopEnable region en therm target => Sys2Proof.Machine.execLoopEnable region en therm target s
  | .bootClearDone => Sys2Proof.Machine.execBootClearDone s
  | .imageSwitch => Sys2Proof.Machine.execImageSwitch s
  | .imageCheckDone => Sys2Proof.Machine.execImageCheckDone s
  | .imageReady => Sys2Proof.Machine.execImageReady s
  | .imageTimeout => Sys2Proof.Machine.execImageTimeout s
  | .imageForce => Sys2Proof.Machine.execImageForce s
  | .lockstepDivergence => Sys2Proof.Machine.execLockstepDivergence s
  | .trapLoop => Sys2Proof.Machine.execTrapLoop s
  | .watchdogExpiry => Sys2Proof.Machine.execWatchdogExpiry s
  | .wdogKick => Sys2Proof.Machine.execWdogKick s
  | .mgHalt => Sys2Proof.Machine.execMgHalt s
  | .mgRestart => Sys2Proof.Machine.execMgRestart s
  | .autoRestart recent => Sys2Proof.Machine.execAutoRestart recent s
  | .uptimeRead us => Sys2Proof.Machine.execUptimeRead us s
  | .mtimeCompare => Sys2Proof.Machine.execMtimeCompare s
  | .dmaGo c => Sys2Proof.Machine.execDmaGo c s
  | .dmaAbort c => Sys2Proof.Machine.execDmaAbort c s
  | .dmaWordTransfer c ecc => Sys2Proof.Machine.execDmaWordTransfer c ecc s
  | .eventService us => Sys2Proof.Machine.execEventService us s
  | .evClaimRead => Sys2Proof.Machine.execEvClaimRead s
  | .evqRead => Sys2Proof.Machine.execEvqRead s
  | .hkSequenceStart => Sys2Proof.Machine.execHkSequenceStart s
  | .hkConversionDone raw us => Sys2Proof.Machine.execHkConversionDone raw us s
  | .hkInject input => Sys2Proof.Machine.execHkInject input s
  | .hkCal => Sys2Proof.Machine.execHkCal s
  | .calDone gain offset => Sys2Proof.Machine.execCalDone gain offset s
  | .hkRefEnable on => Sys2Proof.Machine.execHkRefEnable on s
  | .hkRefReady => Sys2Proof.Machine.execHkRefReady s
  | .hkRegEnable on => Sys2Proof.Machine.execHkRegEnable on s
  | .acqStart => Sys2Proof.Machine.execAcqStart s
  | .acqStop => Sys2Proof.Machine.execAcqStop s
  | .acquisitionStarts => Sys2Proof.Machine.execAcquisitionStarts s
  | .acquisitionStops => Sys2Proof.Machine.execAcquisitionStops s
  | .feServiceWrite value => Sys2Proof.Machine.execFeServiceWrite value s
  | .feSvc die => Sys2Proof.Machine.execFeSvc die s
  | .assayGo block index => Sys2Proof.Machine.execAssayGo block index s
  | .assayAbort => Sys2Proof.Machine.execAssayAbort s
  | .assayDone part fails first ms => Sys2Proof.Machine.execAssayDone part fails first ms s
  | .testLogicReset => Sys2Proof.Machine.execTestLogicReset s
  | .idcode => Sys2Proof.Machine.execIdcode s
  | .extest value => Sys2Proof.Machine.execExtest value s
  | .samplePreload sampled value => Sys2Proof.Machine.execSamplePreload sampled value s
  | .bypass opcode => Sys2Proof.Machine.execBypass opcode s
  | .ctrlAccess dr ecc early => Sys2Proof.Machine.execCtrlAccess dr ecc early s
  | .hsEntry dr ecc => Sys2Proof.Machine.execHsEntry dr ecc s
  | .registerWrite path addr data be => Sys2Proof.Machine.execRegisterWrite path addr data be s
  | .readClear path addr be => Sys2Proof.Machine.execReadClear path addr be s
  | .transactionTimeout path msg took => Sys2Proof.Machine.execTransactionTimeout path msg took s
  | .loopCheckerPattern lane bits errors => Sys2Proof.Machine.execLoopCheckerPattern lane bits errors s
  | .hostPassRead result owner => Sys2Proof.Machine.execHostPassRead result owner s
  | .burnishWindowEnd => Sys2Proof.Machine.execBurnishWindowEnd s
  | .puTempWarning unit => Sys2Proof.Machine.execPuTempWarning unit s
  | .stateCopyLinkUp => Sys2Proof.Machine.execStateCopyLinkUp s
  | .arbiterHeartbeatRegained unit => Sys2Proof.Machine.execArbiterHeartbeatRegained unit s
  | .interlockDarkPulse side => Sys2Proof.Machine.execInterlockDarkPulse side s
  | .supervisorClockReturn => Sys2Proof.Machine.execSupervisorClockReturn s

end Sys2Proof.Machine
end

