-- ==== Sys2Proof/Machine/Step.lean ====
section
/-! DEFINITION. The step: the command at the front of the queue acts; on an empty queue the bucket edges pass. -/

namespace Sys2Proof.Machine

open Sys2Proof

/-- Machine time with no command waiting: while the machine-synchronous domain runs, one bucket edge passes, which at the
last bucket of an orbit starts the next (R8, R90); while it is stopped, nothing happens. -/
def State.tick (s : State) : State := if s.mt.running then s.bucketEdge else s

/-- One step: the command at the front of the queue acts with the queue's rest. -/
def step (s : State) : Host.Outcome State Fault Refusal :=
  match s.pending with
  | [] => .next s.tick
  | c :: rest => exec c { s with pending := rest }

/-- No word of the table spells a command, so no command is placed. -/
def State.withFetchWord (s : State) (nbits w : Nat) : State :=
  match decodeTableWord nbits w with
  | some c => { s with pending := c :: s.pending }
  | none => s

end Sys2Proof.Machine
end

