-- ==== Sys2Proof/Safety.lean ====
section
/-! DEFINITION. What a sound state is, what a run of waiting commands leads to, and what a command leaves as it was. -/

namespace Sys2Proof.Machine

open Sys2Proof

/-- Words and bytes of the addressed memories, as the model lists them: keys strictly rising, no entry equal to what
an unlisted address reads as. The memories are the plate with its staging buffer and shadows, the region latches, the
entries and link words of the hit store, the instruction RAM and the data RAM. -/
def State.memoryWf (s : State) : Bool :=
  Sparse.wf 0 s.plate.mem && Sparse.wf 0 s.plate.stage && Sparse.wf 0 s.plate.shadow && Sparse.wf 0 s.latch &&
    Sparse.wf 0 s.store.entries && Sparse.wf 0 s.store.links && Sparse.wf 0 s.mg.iram && Sparse.wf 0 s.mg.dram

/-- The canonical form of a state: register fields listed once each in the order of the control space, latched event
requests listed once each with the lowest source first (R504), memories in canonical form. -/
def State.canonical (s : State) : Bool := Sparse.sorted s.csr && Sparse.sorted s.evReq && s.memoryWf

/-- The states that `n` steps lead to, `none` where a step answers no next state. -/
def stepN : Nat → State → Option State
  | 0, s => some s
  | n + 1, s =>
    match step s with
    | .next t => stepN n t
    | _ => none

/-- The parts of a state beside its register fields and its queue. -/
inductive Part where
  | evReq
  | shut
  | dueSwap
  | dueBurnish
  | dueCd
  | activity
  | deferWin
  | deferMask
  | feByp
  | was
  | answer
  | free
  | plate
  | mt
  | chans
  | dies
  | latch
  | clock
  | loadedAt
  | store
  | tg
  | rc
  | str
  | lanes
  | fb
  | prot
  | pwr
  | guard
  | tile
  | mg
  | svc
  deriving DecidableEq, Repr

/-- Part `p` of `t` is that of `s`. -/
def Part.same (p : Part) (s t : State) : Prop :=
  match p with
  | .evReq => t.evReq = s.evReq
  | .shut => t.shut = s.shut
  | .dueSwap => t.dueSwap = s.dueSwap
  | .dueBurnish => t.dueBurnish = s.dueBurnish
  | .dueCd => t.dueCd = s.dueCd
  | .activity => t.activity = s.activity
  | .deferWin => t.deferWin = s.deferWin
  | .deferMask => t.deferMask = s.deferMask
  | .feByp => t.feByp = s.feByp
  | .was => t.was = s.was
  | .answer => t.answer = s.answer
  | .free => t.free = s.free
  | .plate => t.plate = s.plate
  | .mt => t.mt = s.mt
  | .chans => t.chans = s.chans
  | .dies => t.dies = s.dies
  | .latch => t.latch = s.latch
  | .clock => t.clock = s.clock
  | .loadedAt => t.loadedAt = s.loadedAt
  | .store => t.store = s.store
  | .tg => t.tg = s.tg
  | .rc => t.rc = s.rc
  | .str => t.str = s.str
  | .lanes => t.lanes = s.lanes
  | .fb => t.fb = s.fb
  | .prot => t.prot = s.prot
  | .pwr => t.pwr = s.pwr
  | .guard => t.guard = s.guard
  | .tile => t.tile = s.tile
  | .mg => t.mg = s.mg
  | .svc => t.svc = s.svc

/-- What a command leaves: every part but `ps`, every register field but `fs`, and the queue. -/
structure Frame (ps : List Part) (fs : List Fld) (s t : State) : Prop where
  parts : ∀ p : Part, p ∉ ps → p.same s t
  fields : ∀ f : Fld, f.key ∉ fs.map Fld.key → t.get f = s.get f
  queue : t.pending = s.pending

/-- What a command leaves that works on whole blocks of registers: every part but `ps`, every register field outside
the address ranges `rs`, first and last address each, and the queue. -/
structure BlockFrame (ps : List Part) (rs : List (Nat × Nat)) (s t : State) : Prop where
  parts : ∀ p : Part, p ∉ ps → p.same s t
  fields : ∀ f : Fld, (rs.all fun r => decide (f.key / 32 < r.1) || decide (r.2 < f.key / 32)) = true → t.get f = s.get f
  queue : t.pending = s.pending

/-- What a command leaves beside register fields: every part but `ps`, and the queue. -/
structure PartFrame (ps : List Part) (s t : State) : Prop where
  parts : ∀ p : Part, p ∉ ps → p.same s t
  queue : t.pending = s.pending

end Sys2Proof.Machine
end

