-- ==== Sys2Proof/Certificates/Slice0/Obligations.lean ====
section
/-! DEFINITION. The statements for the provers. -/

open Sys2Proof Sys2Proof.Machine

/-- For every command c, queue rest and state s whose queue is c followed by rest, one step of s is exec of c at s
with the queue set to rest. -/
def Obligations.StepRunsFrontCommand : Prop :=
  ∀ (c : Instr) (rest : List Instr) (s : State), s.pending = c :: rest →
    step s = exec c { s with pending := rest }

/-- The model's choice (assumption 2): a step on an empty queue answers the state itself while the machine-synchronous
domain is stopped; while it runs, with no stop of the domain due and no MT load held, the step answers a state in
which machine time has gone on by exactly one bucket: bucket + 1 within the orbit, and at the last bucket (bucket + 1
= N_B) bucket 0 of the next orbit, orbits wrapping at 2^32; the queue stays empty. -/
def Obligations.IdleStepPassesOneBucketEdge : Prop :=
  (∀ s : State, s.pending = [] → s.mt.running = false → step s = .next s) ∧
  (∀ s : State, s.pending = [] → s.mt.running = true → s.mt.bucket + 1 < s.mt.nb → s.stopDue = false → s.mt.held = false →
    ∃ t, step s = .next t ∧ t.mt.bucket = s.mt.bucket + 1 ∧ t.mt.orbit = s.mt.orbit ∧ t.pending = []) ∧
  (∀ s : State, s.pending = [] → s.mt.running = true → s.mt.nb = s.mt.bucket + 1 → s.mt.held = false → s.stopDue = false →
    ∃ t, step s = .next t ∧ t.mt.bucket = 0 ∧ t.mt.orbit = (s.mt.orbit + 1) % 2 ^ 32 ∧ t.pending = [])

/-- For every command c and state s, exec of c at s answers a next state t (no command of this block ends in a fault
or a refusal) with the queue of s; the model's choice (assumption 3): where an operand of c lies outside the ranges of
the spec, t is s itself. And for every list cs of commands, every list rest and every state s whose queue is cs
followed by rest, as many steps as cs has commands lead to a state whose queue is rest. -/
def Obligations.CommandsCompleteAndQueuesRunInOrder : Prop :=
  (∀ (c : Instr) (s : State), ∃ t, exec c s = .next t ∧ t.pending = s.pending ∧ (c.wf = false → t = s)) ∧
  (∀ (cs rest : List Instr) (s : State), s.pending = cs ++ rest →
    ∃ t, stepN cs.length s = some t ∧ t.pending = rest)

/-- For every state s in canonical form (register fields and latched event requests listed with keys strictly rising;
every addressed memory, that is the plate with its staging buffer and shadows, the region latches, the entries and
link words of the hit store, the instruction RAM and the data RAM, listed with keys strictly rising and no entry equal
to what an unlisted address reads as), if a step of s answers a next state, that state is in canonical form. -/
def Obligations.EveryStepKeepsCanonicalForm : Prop :=
  ∀ s t : State, s.canonical = true → step s = .next t → t.canonical = true

/-- For every state whose bucket lies below N_B, with N_B at most 65,536 and the orbit below 2^32, if a step answers a
next state, the same holds there: bucket counts 0 to N_B - 1 and orbit 32 bits, whatever commands load, stop or move
machine time and change the orbit length. -/
def Obligations.EveryStepKeepsMachineTimeInRange : Prop :=
  ∀ s t : State, s.mt.bucket < s.mt.nb → s.mt.nb ≤ 65536 → s.mt.orbit < 2 ^ 32 → step s = .next t →
    t.mt.bucket < t.mt.nb ∧ t.mt.nb ≤ 65536 ∧ t.mt.orbit < 2 ^ 32

/-- In the state after reset every register field holds the value of its Reset column (shown for N_B - 1, the closing
period, the resend time, the length of a refresh slice and the state of plate, acquisition and cores by name), no
command waits, no event is latched, machine time stands at 0:0 with N_B = 2,880, every memory reads as the model's
default 0 (assumption 8), the state is in canonical form and machine time lies in its range. -/
def Obligations.ResetIsCanonicalWithResetValues : Prop :=
  (∀ f : Fld, State.reset.get f = f.reset % 2 ^ f.width) ∧ State.reset.pending = [] ∧ State.reset.evReq = [] ∧
  State.reset.get CX_MT_ORBIT_LEN_nb_m1 = 0x0B3F ∧ State.reset.get TG_PATH_close = 0x1F ∧
  State.reset.get CX_STR_CTRL_resend_us = 0x64 ∧ State.reset.get CX_PLATE_STATUS_state = 0 ∧
  State.reset.get CX_ACQ_STATUS_state = 0 ∧ State.reset.get MG_STATUS_state = 0 ∧
  State.reset.mt.orbit = 0 ∧ State.reset.mt.bucket = 0 ∧ State.reset.mt.nb = 2880 ∧ State.reset.mt.running = false ∧
  (∀ i : Nat, State.reset.dramByte i = 0 ∧ Sparse.get 0 i State.reset.plate.mem = 0 ∧
    Sparse.get 0 i State.reset.store.entries = 0) ∧ State.reset.canonical = true

/-- A register write of CX_MT_ORBIT_LEN on any path with acquisition stopped stores nb_m1, at least 63, and leaves
machine time and its orbit length in force as they are; at the next start of an orbit (the domain not being about to
stop), by a command or by the bucket edge that passes with no command waiting, the orbit length in force becomes nb_m1
+ 1. While acquisition runs the write leaves nb_m1 and machine time as they are and sets refused. -/
def Obligations.OrbitLengthTakesEffectAtTheNextOrbit : Prop :=
  (∀ (s : State) (p : Path) (v : Nat), p.wf = true → v < 2 ^ 32 → s.get CX_ACQ_STATUS_state < 2 → ∃ t, exec
    (.registerWrite p CX_MT_ORBIT_LEN_nb_m1.addr v 15) s = .next t ∧ t.answer = (0, 0) ∧ t.get CX_MT_ORBIT_LEN_nb_m1 =
    max 63 (v % 65536) ∧ t.mt = s.mt ∧ Frame [.answer] [CX_MT_ORBIT_LEN_nb_m1, CX_MT_ORBIT_LEN_refused] s t) ∧
  (∀ (s : State) (p : Path) (v : Nat), p.wf = true → v < 2 ^ 32 → (s.get CX_ACQ_STATUS_state = 2 ∨ s.get
    CX_ACQ_STATUS_state = 3) → ∃ t, exec (.registerWrite p CX_MT_ORBIT_LEN_nb_m1.addr v 15) s = .next t ∧ t.answer =
    (0, 0) ∧ t.get CX_MT_ORBIT_LEN_nb_m1 = s.get CX_MT_ORBIT_LEN_nb_m1 ∧ t.get CX_MT_ORBIT_LEN_refused = 1 ∧ t.mt =
    s.mt ∧ Frame [.answer] [CX_MT_ORBIT_LEN_refused] s t) ∧
  (∀ (s : State), s.mt.running = true → s.mt.held = false → s.stopDue = false → ∃ t, exec .orbitStart s = .next t ∧
    t.mt.nb = s.get CX_MT_ORBIT_LEN_nb_m1 + 1 ∧ t.mt.bucket = 0 ∧ t.mt.orbit = (s.mt.orbit + 1) % 2 ^ 32) ∧
  (∀ (s : State), s.mt.running = true → s.mt.held = true → s.stopDue = false → ∃ t, exec .mtLoadApply s = .next t ∧
    t.mt.nb = s.get CX_MT_ORBIT_LEN_nb_m1 + 1 ∧ t.mt.bucket = 0) ∧
  (∀ (s : State), s.pending = [] → s.mt.running = true → s.mt.nb = s.mt.bucket + 1 → s.stopDue = false →
    ∃ t, step s = .next t ∧ t.mt.nb = s.get CX_MT_ORBIT_LEN_nb_m1 + 1 ∧ t.mt.bucket = 0)

/-- A trailing edge, or a time over threshold that overflows, completes the open hit of a channel that delivers hits
outside a by-pass while machine time runs, while its derandomiser holds 8 hits: the 8 hits are kept in their order,
the hit is dropped, derand_lost of the channel and FE_CNT_DERAND of the die count it up to their all-ones values, and
derand_ovf is set. What the channel keeps for its next hits, but for its output, recovery and the open edge that
ended, is what it held before, so no flag of a later hit records the loss. Nothing else changes but the counters of
the hit's own kind. -/
def Obligations.FullDerandomisersDropTheHit : Prop :=
  (∀ (s : State) (ch : Nat) (at_ : Stamp) (overload narrow invalid : Bool) (ld : Lead), ch < 1536 → at_.wf = true →
    s.chUp ch = true → s.delivers ch = true → s.bypassed (fRegion (regionOf ch)) = false → s.mt.running = true →
    (s.chan ch).high = true → (s.chan ch).lead = some ld → (s.chan ch).fifo.length = 8 → ∃ t, exec
    (.discriminatorTrailingEdge ch at_ overload narrow invalid) s = .next t ∧ (t.chan ch).fifo = (s.chan ch).fifo ∧
    t.get (FE_CH_STAT_derand_lost (ch / 512) (ch % 512)) = min (s.get (FE_CH_STAT_derand_lost (ch / 512) (ch % 512)) +
    1) 255 ∧ t.get (FE_CNT_DERAND_count (ch / 512)) = min (s.get (FE_CNT_DERAND_count (ch / 512)) + 1) 0xFFFFFFFF ∧
    t.get (FE_STATUS_derand_ovf (ch / 512)) = 1 ∧ t.chan ch =
    { s.chan ch with high := false, recov := true, lead := none, tab := none, done := false, mute := false } ∧ Frame
    [.chans, .evReq] [FE_CNT_NARROW_count (ch / 512), FE_CNT_TOTOVF_count (ch / 512), FE_CNT_STARTHIGH_count (ch /
    512), FE_CH_STAT_derand_lost (ch / 512) (ch % 512), FE_CNT_DERAND_count (ch / 512), FE_STATUS_derand_ovf (ch /
    512), FE_CNT_UNLOCK_count (ch / 512), MG_EVLOG_merged] s t) ∧
  (∀ (s : State) (ch : Nat) (overload invalid : Bool) (ld : Lead), ch < 1536 → s.chUp ch = true → s.delivers ch = true
    → s.bypassed (fRegion (regionOf ch)) = false → s.mt.running = true → (s.chan ch).lead = some ld → (s.chan
    ch).fifo.length = 8 → ∃ t, exec (.totOverflow ch overload invalid) s = .next t ∧ (t.chan ch).fifo = (s.chan
    ch).fifo ∧ t.get (FE_CH_STAT_derand_lost (ch / 512) (ch % 512)) = min (s.get (FE_CH_STAT_derand_lost (ch / 512)
    (ch % 512)) + 1) 255 ∧ t.get (FE_CNT_DERAND_count (ch / 512)) = min (s.get (FE_CNT_DERAND_count (ch / 512)) + 1)
    0xFFFFFFFF ∧ t.get (FE_STATUS_derand_ovf (ch / 512)) = 1 ∧ t.chan ch =
    { s.chan ch with lead := none, tab := none, done := true } ∧ Frame [.chans, .evReq] [FE_CNT_NARROW_count (ch /
    512), FE_CNT_TOTOVF_count (ch / 512), FE_CNT_STARTHIGH_count (ch / 512), FE_CH_STAT_derand_lost (ch / 512) (ch %
    512), FE_CNT_DERAND_count (ch / 512), FE_STATUS_derand_ovf (ch / 512), FE_CNT_UNLOCK_count (ch / 512),
    MG_EVLOG_merged] s t)

/-- R68: a write of 1 to open while the plate is clearing or being checked changes nothing; in every other plate state
it sets err = 0x1 if acquisition is running and else err = 0x6 if a partial reload is between checking and done, and
changes nothing else. R72: a commit in state 0x0 or 0x4 sets err = 0x4 and changes nothing else; in state 0x1 or 0x3
it changes nothing; a start of acquisition with the plate state not 0x4 is refused with cause 1 when it is requested
and when its orbit comes, and acquisition does not run. R80: a cancel in reload state 0x1 or 0x2 sets state = 0x7,
frees the quiet window if the reload had been given it, and changes nothing else; in any other state it changes
nothing. -/
def Obligations.PlateRefusalsAndCancel : Prop :=
  (∀ (s : State), (s.get CX_PLATE_STATUS_state = 1 ∨ s.get CX_PLATE_STATUS_state = 3) → exec .plateOpen s = .next (s)) ∧
  (∀ (s : State), s.get CX_PLATE_STATUS_state ≠ 1 → s.get CX_PLATE_STATUS_state ≠ 3 → s.acq = true → exec .plateOpen s
    = .next (s.set CX_PLATE_STATUS_err 1)) ∧
  (∀ (s : State), s.get CX_PLATE_STATUS_state ≠ 1 → s.get CX_PLATE_STATUS_state ≠ 3 → s.acq = false → 1 ≤ s.get
    CX_PLATE_RELOAD_state → s.get CX_PLATE_RELOAD_state ≤ 3 → exec .plateOpen s = .next (s.set CX_PLATE_STATUS_err 6)) ∧
  (∀ (s : State) (lane : Option Nat), lane.all (fun n => decide (n < 48)) = true → (s.get CX_PLATE_STATUS_state = 0 ∨
    s.get CX_PLATE_STATUS_state = 4) → exec (.plateCommit lane) s = .next (s.set CX_PLATE_STATUS_err 4)) ∧
  (∀ (s : State) (lane : Option Nat), (s.get CX_PLATE_STATUS_state = 1 ∨ s.get CX_PLATE_STATUS_state = 3) → exec
    (.plateCommit lane) s = .next (s)) ∧
  (∀ (s : State), s.get CX_PLATE_STATUS_state ≠ 4 → s.get CX_ACQ_STATUS_state < 2 → ∃ t, exec .acqStart s = .next t ∧
    t.get CX_ACQ_STATUS_cause = 1 ∧ t.on CX_ACQ_STATUS_refused = true ∧ t.get CX_ACQ_STATUS_state = 0 ∧ Frame [.evReq]
    [CX_ACQ_STATUS_cause, CX_ACQ_STATUS_refused, CX_ACQ_STATUS_state, CX_ACQ_ORBIT_orbit, MG_EVLOG_merged] s t) ∧
  (∀ (s : State), s.get CX_PLATE_STATUS_state ≠ 4 → ∃ t, exec .acquisitionStarts s = .next t ∧ (t.get
    CX_ACQ_STATUS_state = (if s.get CX_ACQ_STATUS_state = 1 ∧ s.acqDue = true then 0 else s.get CX_ACQ_STATUS_state))
    ∧ Frame [.evReq] [CX_ACQ_STATUS_cause, CX_ACQ_STATUS_refused, CX_ACQ_STATUS_state, CX_ACQ_ORBIT_orbit,
    MG_EVLOG_merged] s t) ∧
  (∀ (s : State), (s.get CX_PLATE_RELOAD_state = 1 ∨ s.get CX_PLATE_RELOAD_state = 2) → exec .reloadCancel s = .next
    (State.set { s with activity := if s.activity = some 2 then none else s.activity } CX_PLATE_RELOAD_state 7)) ∧
  (∀ (s : State), s.get CX_PLATE_RELOAD_state ≠ 1 → s.get CX_PLATE_RELOAD_state ≠ 2 → exec .reloadCancel s = .next
    (s))

/-- PLATE_OPEN accepted: state 0x1, the plate memory cleared, every unit by-passed, no repair entry left on a plate
word. PLATE_CLEAR_DONE in state 0x1: bad_frames, err and CX_PLATE_ERR_FRAME cleared, state 0x2; else nothing.
PLATE_ABORT of an open load clears the plate memory and gives state 0x0; else nothing. PLATE_FCRC_WRITE while a load
is open stores frame number and CRC and begins that frame at half 0. PLATE_WINDOW_WRITE of all four bytes of the next
half due: an even half waits in the merge buffer, an odd half writes the 64-bit word whole; the last half ends the
frame, which is counted in bad_frames with err 0x2 exactly if its CRC-16 differs from the one written. A write of
another frame or half is a word-order violation: the frame is counted, err 0x3, no word changes. In state 0x1 or 0x3 a
write is counted against the frame addressed (the model's choice, R69 names none). In state 0x4 or 0x0 a window write
changes nothing. -/
def Obligations.PlateLoadsFrameByFrame : Prop :=
  (∀ (s : State) (u : Nat), s.get CX_PLATE_STATUS_state ≠ 1 → s.get CX_PLATE_STATUS_state ≠ 3 → s.acq = false → (s.get
    CX_PLATE_RELOAD_state = 0 ∨ 4 ≤ s.get CX_PLATE_RELOAD_state) → ∃ t, exec .plateOpen s = .next t ∧ t.get
    CX_PLATE_STATUS_state = 1 ∧ t.plate.mem = [] ∧ t.plate.shadow = s.plate.shadow ∧ t.bypassed u = true ∧
    (t.repairs.all fun r => r.2.1 != memPlate) = true ∧ Frame [.plate, .prot] ([CX_PLATE_STATUS_state,
    CX_REPAIR_STATUS_used] ++ ((List.range 64).map CX_REPAIR_valid ++ (List.range 64).map CX_REPAIR_memory ++
    (List.range 64).map CX_REPAIR_index)) s t) ∧
  (∀ (s : State), s.get CX_PLATE_STATUS_state = 1 → ∃ t, exec .plateClearDone s = .next t ∧ t.get
    CX_PLATE_STATUS_state = 2 ∧ t.get CX_PLATE_STATUS_bad_frames = 0 ∧ t.get CX_PLATE_STATUS_err = 0 ∧ t.get
    CX_PLATE_ERR_FRAME_check = 0 ∧ t.get CX_PLATE_ERR_FRAME_frame = 0 ∧ t.plate.badFrames = [] ∧ t.plate.mem =
    s.plate.mem ∧ Frame [.plate, .prot] [CX_PLATE_STATUS_state, CX_PLATE_STATUS_bad_frames, CX_PLATE_STATUS_err,
    CX_PLATE_ERR_FRAME_check, CX_PLATE_ERR_FRAME_frame] s t) ∧
  (∀ (s : State), s.get CX_PLATE_STATUS_state ≠ 1 → exec .plateClearDone s = .next (s)) ∧
  (∀ (s : State), (s.get CX_PLATE_STATUS_state = 2 ∨ s.get CX_PLATE_STATUS_state = 5) → ∃ t, exec .plateAbort s =
    .next t ∧ t.get CX_PLATE_STATUS_state = 0 ∧ t.plate.mem = [] ∧ t.plate.shadow = s.plate.shadow ∧ Frame [.plate,
    .prot] [CX_PLATE_STATUS_state] s t) ∧
  (∀ (s : State), s.get CX_PLATE_STATUS_state ≠ 2 → s.get CX_PLATE_STATUS_state ≠ 5 → exec .plateAbort s = .next (s)) ∧
  (∀ (s : State) (frame crc : Nat), frame < 8192 → crc < 65536 → (s.get CX_PLATE_STATUS_state = 2 ∨ s.get
    CX_PLATE_STATUS_state = 5) → ∃ t, exec (.plateFcrcWrite frame crc) s = .next t ∧ t.get CX_PLATE_FCRC_frame = frame
    ∧ t.get CX_PLATE_FCRC_crc = crc ∧ t.plate.cur = some ⟨frame, 0, 0⟩ ∧ t.plate.mem = s.plate.mem ∧ ((s.plate.cur =
    none → t.get CX_PLATE_STATUS_err = s.get CX_PLATE_STATUS_err)) ∧ ((∀ c ∈ s.plate.cur, c.halves < 32 → t.get
    CX_PLATE_STATUS_err = 3)) ∧ Frame [.plate] [CX_PLATE_FCRC_frame, CX_PLATE_FCRC_crc, CX_PLATE_STATUS_bad_frames,
    CX_PLATE_STATUS_err, CX_PLATE_ERR_FRAME_check, CX_PLATE_ERR_FRAME_frame] s t) ∧
  (∀ (s : State) (f h data : Nat), f < 6144 → h < 31 → h % 2 = 0 → data < 2 ^ 32 → (s.get CX_PLATE_STATUS_state = 2 ∨
    s.get CX_PLATE_STATUS_state = 5) → s.plate.cur = some ⟨f, h, 0⟩ → s.prot.bufPlate = none → ∃ t, exec
    (.plateWindowWrite (f * 128 + h * 4) data 15) s = .next t ∧ t.plate.cur = some ⟨f, h + 1, 0⟩ ∧ t.prot.bufPlate =
    some ⟨f * 16 + h / 2, 15, data⟩ ∧ t.plate.mem = s.plate.mem ∧ Frame [.plate, .prot] [] s t) ∧
  (∀ (s : State) (f h data low : Nat), f < 6144 → h < 32 → h % 2 = 1 → data < 2 ^ 32 → low < 2 ^ 32 → (s.get
    CX_PLATE_STATUS_state = 2 ∨ s.get CX_PLATE_STATUS_state = 5) → s.plate.cur = some ⟨f, h, 0⟩ → s.prot.bufPlate =
    some ⟨f * 16 + h / 2, 15, low⟩ → ∃ t, exec (.plateWindowWrite (f * 128 + h * 4) data 15) s = .next t ∧ t.plate.cur
    = some ⟨f, h + 1, 0⟩ ∧ t.plate.mem = Sparse.put 0 (f * 16 + h / 2) (data * 2 ^ 32 + low) s.plate.mem ∧
    t.prot.bufPlate = none ∧ ((h = 31 → Sparse.get false f t.plate.badFrames = (frameCrc f (t.frameWords f) != s.get
    CX_PLATE_FCRC_crc))) ∧ ((h = 31 → frameCrc f (t.frameWords f) ≠ s.get CX_PLATE_FCRC_crc → t.get
    CX_PLATE_STATUS_err = 2)) ∧ Frame [.plate, .prot] [CX_PLATE_STATUS_bad_frames, CX_PLATE_STATUS_err,
    CX_PLATE_ERR_FRAME_check, CX_PLATE_ERR_FRAME_frame] s t) ∧
  (∀ (s : State) (f h data be : Nat) (c : PlateCur), f < 6144 → h < 32 → data < 2 ^ 32 → 0 < be → be < 16 → (s.get
    CX_PLATE_STATUS_state = 2 ∨ s.get CX_PLATE_STATUS_state = 5) → s.plate.cur = some c → (c.frame ≠ f ∨ c.halves ≠ h)
    → ∃ t, exec (.plateWindowWrite (f * 128 + h * 4) data be) s = .next t ∧ Sparse.get false c.frame t.plate.badFrames
    = true ∧ t.get CX_PLATE_STATUS_err = 3 ∧ t.plate.mem = s.plate.mem ∧ t.plate.cur = some ⟨c.frame, 32, 0⟩ ∧ Frame
    [.plate] [CX_PLATE_STATUS_bad_frames, CX_PLATE_STATUS_err, CX_PLATE_ERR_FRAME_check, CX_PLATE_ERR_FRAME_frame] s
    t) ∧
  (∀ (s : State) (f h data be : Nat), f < 6144 → h < 32 → data < 2 ^ 32 → 0 < be → be < 16 → (s.get
    CX_PLATE_STATUS_state = 1 ∨ s.get CX_PLATE_STATUS_state = 3) → ∃ t, exec (.plateWindowWrite (f * 128 + h * 4) data
    be) s = .next t ∧ Sparse.get false f t.plate.badFrames = true ∧ t.get CX_PLATE_STATUS_err = 3 ∧ t.plate.mem =
    s.plate.mem ∧ Frame [.plate] [CX_PLATE_STATUS_bad_frames, CX_PLATE_STATUS_err, CX_PLATE_ERR_FRAME_check,
    CX_PLATE_ERR_FRAME_frame] s t) ∧
  (∀ (s : State) (addr data be : Nat), (s.get CX_PLATE_STATUS_state = 0 ∨ s.get CX_PLATE_STATUS_state = 4) → exec
    (.plateWindowWrite addr data be) s = .next (s))

/-- PLATE_COMMIT while a load is open gives state 0x3 with the merge buffer written out. PLATE_COMMIT_DONE in state
0x3: with frames counted bad the commit fails with state 0x5, err 0x3, check 0x00 and the lowest bad frame; else if a
commit check fails, with err 0x5 and the first failed check by code and its lowest frame; both raise
EV_CX_PLATE_LOAD_FAIL, and the plate memory, the shadows and every other register stay. If every check passes, the
plate is in force: state 0x4, CX_PLATE_ID takes word 1 of the header, no unit is quarantined, the shadows hold the
committed service map and lane roles. In any other state PLATE_COMMIT_DONE changes nothing. -/
def Obligations.CommitChecksThenTakesThePlate : Prop :=
  (∀ (s : State) (lane : Option Nat), lane.all (fun n => decide (n < 48)) = true → (s.get CX_PLATE_STATUS_state = 2 ∨
    s.get CX_PLATE_STATUS_state = 5) → s.prot.bufPlate = none → ∃ t, exec (.plateCommit lane) s = .next t ∧ t.get
    CX_PLATE_STATUS_state = 3 ∧ t.plate.commitLane = lane ∧ t.plate.mem = s.plate.mem ∧ Frame [.plate]
    [CX_PLATE_STATUS_state] s t) ∧
  (∀ (s : State) (lane : Option Nat) (b : MBuf), lane.all (fun n => decide (n < 48)) = true → (s.get
    CX_PLATE_STATUS_state = 2 ∨ s.get CX_PLATE_STATUS_state = 5) → s.prot.bufPlate = some b → s.mark memPlate b.word =
    0 → ∃ t, exec (.plateCommit lane) s = .next t ∧ t.get CX_PLATE_STATUS_state = 3 ∧ t.prot.bufPlate = none ∧
    t.plate.mem = Sparse.put 0 b.word (mergeBytes8 (Sparse.get 0 b.word s.plate.mem) b.data b.mask % 2 ^ 64)
    s.plate.mem ∧ Frame [.plate, .prot] [CX_PLATE_STATUS_state] s t) ∧
  (∀ (s : State), s.get CX_PLATE_STATUS_state ≠ 3 → exec .plateCommitDone s = .next (s)) ∧
  (∀ (s : State) (f : Nat) (b : Bool) (l : List (Nat × Bool)), s.get CX_PLATE_STATUS_state = 3 → s.plate.badFrames =
    (f, b) :: l → f < 8192 → ∃ t, exec .plateCommitDone s = .next t ∧ t.get CX_PLATE_STATUS_state = 5 ∧ t.get
    CX_PLATE_STATUS_err = 3 ∧ t.get CX_PLATE_ERR_FRAME_check = 0 ∧ t.get CX_PLATE_ERR_FRAME_frame = f ∧ Sparse.has 46
    t.evReq = true ∧ t.plate.mem = s.plate.mem ∧ t.plate.shadow = s.plate.shadow ∧ Frame [.plate, .evReq]
    [CX_PLATE_STATUS_state, CX_PLATE_STATUS_err, CX_PLATE_ERR_FRAME_check, CX_PLATE_ERR_FRAME_frame, MG_EVLOG_merged]
    s t) ∧
  (∀ (s : State) (c f : Nat), s.get CX_PLATE_STATUS_state = 3 → s.plate.badFrames = [] → firstFail (commitChecks s.rd
    s.shadowRd (framesOf s.plate.mem) s.plate.commitLane) = some (c, f) → f < 8192 → c < 256 → ∃ t, exec
    .plateCommitDone s = .next t ∧ t.get CX_PLATE_STATUS_state = 5 ∧ t.get CX_PLATE_STATUS_err = 5 ∧ t.get
    CX_PLATE_ERR_FRAME_check = c ∧ t.get CX_PLATE_ERR_FRAME_frame = f ∧ Sparse.has 46 t.evReq = true ∧ t.plate.mem =
    s.plate.mem ∧ t.plate.shadow = s.plate.shadow ∧ Frame [.plate, .evReq] [CX_PLATE_STATUS_state,
    CX_PLATE_STATUS_err, CX_PLATE_ERR_FRAME_check, CX_PLATE_ERR_FRAME_frame, MG_EVLOG_merged] s t) ∧
  (∀ (s : State), s.get CX_PLATE_STATUS_state = 3 → s.plate.badFrames = [] → firstFail (commitChecks s.rd s.shadowRd
    (framesOf s.plate.mem) s.plate.commitLane) = none → ∃ t, exec .plateCommitDone s = .next t ∧ t.get
    CX_PLATE_STATUS_state = 4 ∧ t.get CX_PLATE_ID_id = s.rd 0 1 % 2 ^ 32 ∧ t.plate.committed = true ∧ t.plate.quar =
    [] ∧ t.plate.mem = s.plate.mem ∧ t.plate.shadow = s.plate.mem.filter (fun e => shadowed e.1))

/-- RELOAD_GO while a reload is checking, waiting or running only sets go_refused. Else it stores first and count, and
is rejected, state 0x5, with err 0x7 where the plate is not valid, 0x2 where the frames leave one unit, 0x3 where the
frame is reserved, 0x1 where a staged CRC differs, 0x6 where a repair differs from what the frame must hold, 0x4 where
a reload check fails, in this order; if none fails it waits, state 0x2, err 0x0. RELOAD_CANCEL of a go being checked
or waiting gives state 0x7 and frees the window it was given. RELOAD_START of a waiting reload that fits the quiet
window in progress and has its turn (no swap is due that fits) gives state 0x3, sets the unit's quarantine map bits,
by-passes the unit if it can be, and writes every staged word. RELOAD_RELEASE ends it: with a good read-back state
0x4, the quarantine of the unit ended, its map bits cleared but for a frame that cannot be by-passed and still holds
an uncorrectable word, EV_CX_PLATE_RELOAD_DONE; else state 0x6, one more quarantine with cause 3 and a frame of the
reload, EV_CX_PLATE_QUARANTINE. -/
def Obligations.PartialReloadRuns : Prop :=
  (∀ (s : State) (first count : Nat), first < 8192 → count < 8 → 1 ≤ s.get CX_PLATE_RELOAD_state → s.get
    CX_PLATE_RELOAD_state ≤ 3 → exec (.reloadGo first count) s = .next (s.set CX_PLATE_RELOAD_go_refused 1)) ∧
  (∀ (s : State) (first count : Nat), first < 8192 → count < 8 → (s.get CX_PLATE_RELOAD_state = 0 ∨ 4 ≤ s.get
    CX_PLATE_RELOAD_state) → s.get CX_PLATE_STATUS_state ≠ 4 → exec (.reloadGo first count) s = .next ((((s.set
    CX_PLATE_RELOAD_first first).set CX_PLATE_RELOAD_count count).set CX_PLATE_RELOAD_state 5).set CX_PLATE_RELOAD_err
    7)) ∧
  (∀ (s : State) (first count : Nat), first < 8192 → count < 8 → (s.get CX_PLATE_RELOAD_state = 0 ∨ 4 ≤ s.get
    CX_PLATE_RELOAD_state) → s.get CX_PLATE_STATUS_state = 4 → (0x1800 ≤ first + count ∨ (sectionOf first ≠ .reserved
    ∧ unitFirst first + unitSize first ≤ first + count)) → exec (.reloadGo first count) s = .next ((((s.set
    CX_PLATE_RELOAD_first first).set CX_PLATE_RELOAD_count count).set CX_PLATE_RELOAD_state 5).set CX_PLATE_RELOAD_err
    2)) ∧
  (∀ (s : State) (first count : Nat), first < 8192 → count < 8 → (s.get CX_PLATE_RELOAD_state = 0 ∨ 4 ≤ s.get
    CX_PLATE_RELOAD_state) → s.get CX_PLATE_STATUS_state = 4 → first + count < 0x1800 → sectionOf first = .reserved →
    exec (.reloadGo first count) s = .next ((((s.set CX_PLATE_RELOAD_first first).set CX_PLATE_RELOAD_count count).set
    CX_PLATE_RELOAD_state 5).set CX_PLATE_RELOAD_err 3)) ∧
  (∀ (s : State) (first count : Nat), first < 8192 → count < 8 → (s.get CX_PLATE_RELOAD_state = 0 ∨ 4 ≤ s.get
    CX_PLATE_RELOAD_state) → s.get CX_PLATE_STATUS_state = 4 → first + count < 0x1800 → sectionOf first ≠ .reserved →
    first + count < unitFirst first + unitSize first →
    let u := { s with plate := { s.plate with relFirst := first, relCount := count } }
    let e := if u.stageCrcOk = false then 1 else if u.relFrames.all u.repairOk = false then 6 else if firstFail
      (reloadChecks u.stagedRd u.relFrames) ≠ none then 4 else 0
    ∃ t, exec (.reloadGo first count) s = .next t ∧ t.get CX_PLATE_RELOAD_first = first ∧ t.get CX_PLATE_RELOAD_count
      = count ∧ t.get CX_PLATE_RELOAD_err = e ∧ (t.get CX_PLATE_RELOAD_state = (if e = 0 then 2 else 5)) ∧ t.plate =
      u.plate ∧ Frame [.plate] [CX_PLATE_RELOAD_first, CX_PLATE_RELOAD_count, CX_PLATE_RELOAD_state,
      CX_PLATE_RELOAD_err] s t) ∧
  (∀ (s : State) (i w : Nat) (good : Bool), s.get CX_PLATE_RELOAD_state = 2 → s.fits s.reloadLength = true →
    (s.activity = some 2 ∨ (s.activity = none ∧ (s.dueSwap = false ∨ s.fits 1024 = false))) → i ≤ s.plate.relCount → w
    < 16 → ∃ t, exec (.reloadStart good) s = .next t ∧ t.get CX_PLATE_RELOAD_state = 3 ∧ t.activity = some 2 ∧ t.rd
    (s.plate.relFirst + i) w = Sparse.get 0 (i * 16 + w) s.plate.stage % 2 ^ 64 ∧ bit (t.get (CX_PLATE_QUAR_MAP_map
    (s.plate.relFirst / 32))) (s.plate.relFirst % 32) = true ∧ ((bypassable s.plate.relFirst = true → t.bypassed
    (unitFirst s.plate.relFirst) = true)) ∧ t.plate.readBackOk = good ∧ PartFrame [.plate, .prot, .activity] s t) ∧
  (∀ (s : State) (good : Bool), s.get CX_PLATE_RELOAD_state = 2 → s.fits s.reloadLength = false → s.activity = some 2
    → exec (.reloadStart good) s = .next ({ s with activity := none })) ∧
  (∀ (s : State) (good : Bool), s.get CX_PLATE_RELOAD_state ≠ 2 → exec (.reloadStart good) s = .next (s)) ∧
  (∀ (s : State), (s.get CX_PLATE_RELOAD_state = 1 ∨ s.get CX_PLATE_RELOAD_state = 2) → ∃ t, exec .reloadCancel s =
    .next t ∧ t.get CX_PLATE_RELOAD_state = 7 ∧ t.activity ≠ some 2 ∧ ((s.activity ≠ some 2 → t.activity =
    s.activity)) ∧ t.plate = s.plate ∧ Frame [.activity] [CX_PLATE_RELOAD_state] s t) ∧
  (∀ (s : State), s.get CX_PLATE_RELOAD_state = 3 → s.plate.readBackOk = true → ∃ t, exec .reloadRelease s = .next t ∧
    t.get CX_PLATE_RELOAD_state = 4 ∧ bit (t.get (CX_PLATE_QUAR_MAP_map (s.plate.relFirst / 32))) (s.plate.relFirst %
    32) = (!bypassable s.plate.relFirst && s.frameUncorr s.plate.relFirst) ∧ Sparse.get false (unitFirst
    s.plate.relFirst) t.plate.quar = false ∧ Sparse.has 45 t.evReq = true ∧ t.activity = none ∧ t.plate.mem =
    s.plate.mem ∧ PartFrame [.plate, .activity, .evReq, .latch, .chans, .tg, .tile] s t) ∧
  (∀ (s : State), s.get CX_PLATE_RELOAD_state = 3 → s.plate.readBackOk = false → ∃ t, exec .reloadRelease s = .next t
    ∧ t.get CX_PLATE_RELOAD_state = 6 ∧ t.get CX_PLATE_QUAR_count = min (s.get CX_PLATE_QUAR_count + 1) (2 ^
    CX_PLATE_QUAR_count.width - 1) ∧ t.get CX_PLATE_QUAR_last_cause = 3 ∧ ((∃ k ≤ s.plate.relCount, t.get
    CX_PLATE_QUAR_last_frame = (s.plate.relFirst + k) % 2 ^ 13)) ∧ ((bypassable s.plate.relFirst = true → t.bypassed
    (unitFirst s.plate.relFirst) = true)) ∧ Sparse.has 44 t.evReq = true ∧ t.activity = none ∧ Frame [.plate, .evReq,
    .activity, .free] [CX_PLATE_RELOAD_state, CX_PLATE_QUAR_count, CX_PLATE_QUAR_last_cause, CX_PLATE_QUAR_last_frame,
    MG_EVLOG_merged] s t) ∧
  (∀ (s : State), s.get CX_PLATE_RELOAD_state ≠ 3 → exec .reloadRelease s = .next (s))

/-- ORBIT_START while machine time runs with no load held: the orbit goes on by 1, wrapping at 2^32, in bucket 0,
ORBIT_OUT goes high, N_B becomes CX_MT_ORBIT_LEN.nb_m1 + 1; with N_B unchanged, no calendar, no slew and nothing
waiting for an edge nothing else changes but the judgement of the quiet windows; with N_B changed a flush begins.
MT_LOAD holds a load while acquisition is stopped and changes nothing while it runs. MT_LOAD_APPLY of a held load
outside the hold state: MT stands at CX_MT_LOAD_ORBIT:0, mt_valid is 1, no load is held, a flush has begun; in hold
with an offset beyond half an orbit, whose next marker comes r ticks into the later bucket k, MT stands there in slew
with −r ticks to go (R103; where the load falls is the model's reading, DEDUCED). MT_SNAP captures orbit, bucket,
mt_valid and the tick given, one not before the last tick captured in the bucket (R90), and changes nothing else; an
earlier tick changes nothing. -/
def Obligations.OrbitStartsAndMtLoads : Prop :=
  (∀ (s : State), s.mt.running = true → s.mt.held = false → s.mt.nb = s.get CX_MT_ORBIT_LEN_nb_m1 + 1 → s.mt.edge = []
    → s.tg.arrived = [] → s.calMay CX_CAL_EN_enable = false → s.get CX_MT_STATUS_state ≠ 3 → ∃ t, exec .orbitStart s =
    .next t ∧ t.mt.orbit = (s.mt.orbit + 1) % 2 ^ 32 ∧ t.mt.bucket = 0 ∧ t.mt.nb = s.mt.nb ∧ t.mt.orbitOut = true ∧
    Frame [.mt, .clock, .evReq] [CX_QUIET_STATUS_invalid, MG_EVLOG_merged] s t) ∧
  (∀ (s : State), s.mt.running = true → s.mt.held = false → s.mt.nb ≠ s.get CX_MT_ORBIT_LEN_nb_m1 + 1 → s.stopDue =
    false → ∃ t, exec .orbitStart s = .next t ∧ t.mt.orbit = (s.mt.orbit + 1) % 2 ^ 32 ∧ t.mt.bucket = 0 ∧ t.mt.nb =
    s.get CX_MT_ORBIT_LEN_nb_m1 + 1 ∧ t.mt.orbitOut = true ∧ t.get CX_HQ_STATUS_flushing = 1) ∧
  (∀ (s : State), s.acq = false → exec .mtLoad s = .next ({ s with mt := { s.mt with held := true, place := none } })) ∧
  (∀ (s : State), s.acq = true → exec .mtLoad s = .next (s)) ∧
  (∀ (s : State), s.mt.running = true → s.mt.held = true → s.mt.place = none → s.get CX_MT_STATUS_state ≠ 2 →
    s.stopDue = false → ∃ t, exec .mtLoadApply s = .next t ∧ t.mt.orbit = s.get CX_MT_LOAD_ORBIT_orbit % 2 ^ 32 ∧
    t.mt.bucket = 0 ∧ t.get CX_MT_STATUS_mt_valid = 1 ∧ t.mt.held = false ∧ t.get CX_HQ_STATUS_flushing = 1) ∧
  (∀ (s : State), s.mt.running = true → s.mt.held = true → s.mt.place = none → s.get CX_MT_STATUS_state ≠ 2 →
    s.mt.edge = [] → s.tg.arrived = [] → s.calMay CX_CAL_EN_enable = false → ∃ t, exec .mtLoadApply s = .next t ∧
    t.mt.orbit = s.get CX_MT_LOAD_ORBIT_orbit % 2 ^ 32 ∧ t.mt.bucket = 0 ∧ t.mt.held = false ∧ PartFrame [.mt, .clock,
    .evReq, .free, .store, .rc, .prot, .tg, .plate, .feByp] s t) ∧
  (∀ (s : State) (k r : Nat), s.mt.running = true → s.mt.held = true → s.mt.place = none → s.markerAt = some (k, r) →
    s.mt.bucket < k → s.mt.edge = [] → s.tg.arrived = [] → s.calMay CX_CAL_EN_enable = false → ∃ t, exec .mtLoadApply
    s = .next t ∧ t.mt.orbit = s.get CX_MT_LOAD_ORBIT_orbit % 2 ^ 32 ∧ t.mt.bucket = 0 ∧ t.get CX_MT_STATUS_mt_valid =
    1 ∧ t.mt.held = false ∧ t.get CX_MT_STATUS_state = 3 ∧ t.mt.offset = -(r : Int) ∧ t.get CX_MT_STATUS_unresolved =
    0 ∧ t.get CX_HQ_STATUS_flushing = 1 ∧ PartFrame [.mt, .clock, .evReq, .free, .store, .rc, .prot, .tg, .plate,
    .feByp] s t) ∧
  (∀ (s : State) (tick : Nat), tick < 32768 → s.mt.tick ≤ tick → exec (.mtSnap tick) s = .next (((((State.set
    { s with mt := { s.mt with tick := tick } } CX_MT_SNAP_ORBIT_orbit s.mt.orbit).set CX_MT_SNAP_BT_valid (s.get
    CX_MT_STATUS_mt_valid)).set CX_MT_SNAP_BT_bucket s.mt.bucket).set CX_MT_SNAP_BT_tick tick))) ∧
  (∀ (s : State) (tick : Nat), tick < s.mt.tick → exec (.mtSnap tick) s = .next (s))

/-- SOURCE_SELECT outside track, or without a change between the timing/control lane and MCLK, stores src_sel and
nothing else; such a change in track enters hold with cause 0b01 where holdover is available (OVN clock present, ratio
valid, no heater fault) and the new value is not 0b10. SOURCE_LOST in track enters hold likewise, with
EV_CX_MT_HOLDOVER_ENTER (48); where holdover is unavailable or src_sel = 0b10 both enter stop: mt_valid, qualified and
src 0, EV_CX_MT_STOPPED (50), and the machine-synchronous domain stops at the next bucket edge, its servos off; in
slew a loss returns to hold; in hold it makes the hold one for a lost source. SOURCE_QUALIFIED of the selected source
(MCLK, or the MT source lane in symbol lock) in start or stop starts MT at 0:0 in track with mt_valid 0 and the source
shown, with a flush; in a hold that the fabric has not ordered an offset of at most half an orbit starts the slew with
the offset shown in CX_MT_OFFSET, a greater one sets unresolved with event 53. In slew each bucket edge takes
CX_MT_SLEW.rate × 0.1 ppm of a bucket off the offset, which CX_MT_OFFSET shows. SLEW_END with 0 to 2 ticks left
returns to track, ends the holdover, shows the remaining offset, raises event 49; with another offset it changes
nothing. What src shows in stop and hold is the model's choice. -/
def Obligations.SourceChangesMoveTheTimeState : Prop :=
  (∀ (s : State) (sel : Nat), sel < 4 → (s.get CX_MT_STATUS_state ≠ 1 ∨ (sel = 1 ↔ s.get CX_MT_CTRL_src_sel = 1)) →
    exec (.sourceSelect sel) s = .next (s.set CX_MT_CTRL_src_sel sel)) ∧
  (∀ (s : State) (sel : Nat), sel < 4 → sel ≠ 2 → (¬(sel = 1 ↔ s.get CX_MT_CTRL_src_sel = 1)) → s.get
    CX_MT_STATUS_state = 1 → s.on CX_MT_STATUS_holdover = false → s.on CX_ARCH_STATUS_mgmt_backup = false → s.on
    CX_FU_RATIO_HI_valid = true → s.on OVN_STATUS_heater_fault = false → ∃ t, exec (.sourceSelect sel) s = .next t ∧
    t.get CX_MT_STATUS_state = 2 ∧ t.get CX_MT_STATUS_cause = 1 ∧ t.get CX_MT_STATUS_holdover = 1 ∧ t.get
    CX_MT_STATUS_qualified = 0 ∧ Sparse.has 48 t.evReq = true ∧ t.get CX_MT_CTRL_src_sel = sel ∧ Frame [.mt, .fb,
    .evReq] [CX_MT_STATUS_cause, CX_HO_TIME_ms, CX_MT_STATUS_holdover, CX_MT_STATUS_state, CX_MT_STATUS_qualified,
    MG_EVLOG_merged, CX_MT_CTRL_src_sel] s t) ∧
  (∀ (s : State) (sel : Nat), sel < 4 → (¬(sel = 1 ↔ s.get CX_MT_CTRL_src_sel = 1)) → s.get CX_MT_STATUS_state = 1 →
    (sel = 2 ∨ s.on CX_FU_RATIO_HI_valid = false) → s.mt.running = true → ∃ t, exec (.sourceSelect sel) s = .next t ∧
    t.get CX_MT_STATUS_state = 4 ∧ t.get CX_MT_STATUS_mt_valid = 0 ∧ t.get CX_MT_STATUS_qualified = 0 ∧ t.get
    CX_MT_STATUS_src = 0 ∧ Sparse.has 50 t.evReq = true ∧ t.mt =
    { s.mt with edge := s.mt.edge ++ [.stop], holds := t.mt.holds, fabricHold := false } ∧ t.get CX_MT_CTRL_src_sel =
    sel ∧ Frame [.mt, .evReq, .free] [CX_MT_STATUS_state, CX_MT_STATUS_mt_valid, CX_MT_STATUS_qualified,
    CX_MT_STATUS_src, CX_MT_STATUS_unresolved, CX_MT_STATUS_holdover, CX_HO_TIME_ms, MG_EVLOG_merged,
    CX_MT_CTRL_src_sel] s t) ∧
  (∀ (s : State), s.get CX_MT_STATUS_state = 1 → s.get CX_MT_CTRL_src_sel ≠ 2 → s.on CX_MT_STATUS_holdover = false →
    s.on CX_ARCH_STATUS_mgmt_backup = false → s.on CX_FU_RATIO_HI_valid = true → s.on OVN_STATUS_heater_fault = false
    → ∃ t, exec .sourceLost s = .next t ∧ t.get CX_MT_STATUS_state = 2 ∧ t.get CX_MT_STATUS_cause = 1 ∧ t.get
    CX_MT_STATUS_holdover = 1 ∧ t.get CX_MT_STATUS_qualified = 0 ∧ Sparse.has 48 t.evReq = true ∧ Frame [.mt, .fb,
    .evReq] [CX_MT_STATUS_cause, CX_HO_TIME_ms, CX_MT_STATUS_holdover, CX_MT_STATUS_state, CX_MT_STATUS_qualified,
    MG_EVLOG_merged] s t) ∧
  (∀ (s : State), s.get CX_MT_STATUS_state = 1 → (s.get CX_MT_CTRL_src_sel = 2 ∨ s.on CX_FU_RATIO_HI_valid = false) →
    s.mt.running = true → ∃ t, exec .sourceLost s = .next t ∧ t.get CX_MT_STATUS_state = 4 ∧ t.get
    CX_MT_STATUS_mt_valid = 0 ∧ t.get CX_MT_STATUS_qualified = 0 ∧ t.get CX_MT_STATUS_src = 0 ∧ Sparse.has 50 t.evReq
    = true ∧ t.mt = { s.mt with edge := s.mt.edge ++ [.stop], holds := t.mt.holds, fabricHold := false } ∧ Frame [.mt,
    .evReq, .free] [CX_MT_STATUS_state, CX_MT_STATUS_mt_valid, CX_MT_STATUS_qualified, CX_MT_STATUS_src,
    CX_MT_STATUS_unresolved, CX_MT_STATUS_holdover, CX_HO_TIME_ms, MG_EVLOG_merged] s t) ∧
  (∀ (s : State) (n : Nat), s.pending = [] → s.mt.running = true → s.stopDue = true → n < 3 → ∃ t, step s = .next t ∧
    t.mt.running = false ∧ t.mt.bucket = s.mt.bucket ∧ t.mt.orbit = s.mt.orbit ∧ t.get (FE_TDC_STATUS_state n) = 0 ∧
    t.tg.maps = []) ∧
  (∀ (s : State), s.get CX_MT_STATUS_state = 3 → s.on CX_MT_STATUS_holdover = true → ∃ t, exec .sourceLost s = .next t
    ∧ t.get CX_MT_STATUS_state = 2 ∧ t.get CX_MT_STATUS_holdover = s.get CX_MT_STATUS_holdover ∧ Sparse.has 48 t.evReq
    = true ∧ Frame [.mt, .fb, .evReq] [CX_MT_STATUS_state, CX_MT_STATUS_qualified, MG_EVLOG_merged] s t) ∧
  (∀ (s : State), s.get CX_MT_STATUS_state = 2 → exec .sourceLost s = .next
    ({ s with mt := { s.mt with fabricHold := false } })) ∧
  (∀ (s : State) (mclk : Bool) (lane : Nat) (offset : Int), lane < 48 → (mclk = true ↔ s.get CX_MT_CTRL_src_sel = 1) →
    (mclk = true ∨ (lane = s.get CX_MT_STATUS_src_lane ∧ s.on (LN_STATUS_sym_lock lane) = true)) → (s.get
    CX_MT_STATUS_state = 0 ∨ s.get CX_MT_STATUS_state = 4) → ∃ t, exec (.sourceQualified mclk lane offset) s = .next t
    ∧ t.get CX_MT_STATUS_state = 1 ∧ t.get CX_MT_STATUS_mt_valid = 0 ∧ (t.get CX_MT_STATUS_src = (if mclk then 2 else
    1)) ∧ t.mt.running = true ∧ t.mt.orbit = 0 ∧ t.mt.bucket = 0 ∧ t.get CX_HQ_STATUS_flushing = 1) ∧
  (∀ (s : State) (mclk : Bool) (lane : Nat) (offset : Int), lane < 48 → (mclk = true ↔ s.get CX_MT_CTRL_src_sel = 1) →
    (mclk = true ∨ (lane = s.get CX_MT_STATUS_src_lane ∧ s.on (LN_STATUS_sym_lock lane) = true)) → s.get
    CX_MT_STATUS_state = 2 → s.mt.fabricHold = false → 2 * offset.natAbs ≤ 32768 * s.mt.nb → ∃ t, exec
    (.sourceQualified mclk lane offset) s = .next t ∧ t.get CX_MT_STATUS_state = 3 ∧ t.get CX_MT_STATUS_unresolved = 0
    ∧ t.mt.offset = offset ∧ t.get CX_MT_OFFSET_ticks = (offset % 2 ^ 32).toNat ∧ (t.get CX_MT_STATUS_src = (if mclk
    then 2 else 1)) ∧ Frame [.mt] [CX_MT_STATUS_state, CX_MT_STATUS_unresolved, CX_MT_OFFSET_ticks, CX_MT_STATUS_src]
    s t) ∧
  (∀ (s : State) (mclk : Bool) (lane : Nat) (offset : Int), lane < 48 → (mclk = true ↔ s.get CX_MT_CTRL_src_sel = 1) →
    (mclk = true ∨ (lane = s.get CX_MT_STATUS_src_lane ∧ s.on (LN_STATUS_sym_lock lane) = true)) → s.get
    CX_MT_STATUS_state = 2 → s.mt.fabricHold = false → 32768 * s.mt.nb < 2 * offset.natAbs → s.on
    CX_MT_STATUS_unresolved = false → ∃ t, exec (.sourceQualified mclk lane offset) s = .next t ∧ t.get
    CX_MT_STATUS_state = 2 ∧ t.get CX_MT_STATUS_unresolved = 1 ∧ Sparse.has 53 t.evReq = true ∧ Frame [.mt, .evReq]
    [CX_MT_STATUS_unresolved, CX_MT_OFFSET_ticks, CX_MT_STATUS_src, MG_EVLOG_merged] s t) ∧
  (∀ (s : State), s.pending = [] → s.mt.running = true → s.get CX_MT_STATUS_state = 3 → s.mt.bucket + 1 < s.mt.nb →
    s.mt.edge = [] → s.tg.arrived = [] → s.calMay CX_CAL_EN_enable = false →
    let acc := s.mt.slewAcc + 32768 * s.get CX_MT_SLEW_rate
    ∃ t, step s = .next t ∧ t.mt.offset.natAbs = s.mt.offset.natAbs - acc / 10 ^ 7 ∧ ((0 ≤ s.mt.offset ↔ 0 ≤
      t.mt.offset) ∨ t.mt.offset = 0) ∧ t.mt.slewAcc = acc % 10 ^ 7 ∧ t.get CX_MT_OFFSET_ticks = (t.mt.offset % 2 ^
      32).toNat ∧ Frame [.mt, .clock] [CX_MT_OFFSET_ticks] s t) ∧
  (∀ (s : State) (offset : Nat), offset ≤ 2 → s.get CX_MT_STATUS_state = 3 → 0 ≤ s.mt.offset → s.mt.offset ≤ 2 → ∃ t,
    exec (.slewEnd offset) s = .next t ∧ t.get CX_MT_STATUS_state = 1 ∧ t.get CX_MT_STATUS_holdover = 0 ∧ t.get
    CX_MT_OFFSET_ticks = offset ∧ t.get CX_MT_STATUS_cause = s.get CX_MT_STATUS_cause ∧ Sparse.has 49 t.evReq = true ∧
    Frame [.mt, .fb, .evReq, .free] [CX_MT_STATUS_state, CX_MT_STATUS_holdover, CX_MT_OFFSET_ticks, CX_HO_TIME_ms,
    MG_EVLOG_merged] s t) ∧
  (∀ (s : State) (offset : Nat), (s.get CX_MT_STATUS_state ≠ 3 ∨ s.mt.offset < 0 ∨ 2 < s.mt.offset) → exec (.slewEnd
    offset) s = .next (s))

/-- ORBIT_MARKER_MISMATCH at bucket k in track on the timing/control lane adds 1 to CX_MT_ORBIT_ERR.count (saturating)
and stores k in last_offset; the third equal mismatch in a row enters slew with cause 0b11 and an offset of −k
buckets, or N_B − k where 2k > N_B, in ticks. FU_GATE_END in track with the OVN present accepts a gate without a
mismatch, without a loss of ready and with a residual within resid_lim: the ratio takes the slope, valid becomes 1 and
resid is shown; any other gate adds 1 to rejected, raises event 54 and leaves the ratio. FU_RATIO_READ latches
ratio_hi for the next read of CX_FU_RATIO_HI. MT_QUALIFIED sets qualified in track after a gate of at least 1,000 ms
with OVN_READY set and the ratio valid. -/
def Obligations.MarkerMismatchesAndFrequencyGates : Prop :=
  (∀ (s : State) (k : Nat), 0 < k → k < 65536 → s.get CX_MT_STATUS_state = 1 → s.get CX_MT_STATUS_src = 1 → s.mt.lastK
    ≠ some k → ∃ t, exec (.orbitMarkerMismatch k) s = .next t ∧ t.get CX_MT_ORBIT_ERR_count = min (s.get
    CX_MT_ORBIT_ERR_count + 1) 0xFFFF ∧ t.get CX_MT_ORBIT_ERR_last_offset = k ∧ t.mt.lastK = some k ∧ t.mt.equalK = 1
    ∧ Frame [.mt, .evReq] [CX_MT_ORBIT_ERR_count, CX_MT_ORBIT_ERR_last_offset, MG_EVLOG_merged] s t) ∧
  (∀ (s : State) (k : Nat), 0 < k → k < s.mt.nb → s.mt.nb ≤ 65536 → s.get CX_MT_STATUS_state = 1 → s.get
    CX_MT_STATUS_src = 1 → s.mt.lastK = some k → s.mt.equalK = 2 → s.on CX_MT_STATUS_holdover = false → ∃ t, exec
    (.orbitMarkerMismatch k) s = .next t ∧ t.get CX_MT_ORBIT_ERR_count = min (s.get CX_MT_ORBIT_ERR_count + 1) 0xFFFF
    ∧ t.get CX_MT_STATUS_state = 3 ∧ t.get CX_MT_STATUS_cause = 3 ∧ t.get CX_MT_STATUS_holdover = 1 ∧ (t.mt.offset =
    32768 * (if 2 * k ≤ s.mt.nb then -(k : Int) else (s.mt.nb : Int) - k)) ∧ Sparse.has 48 t.evReq = true ∧ Frame
    [.mt, .fb, .evReq] [CX_MT_STATUS_cause, CX_HO_TIME_ms, CX_MT_STATUS_holdover, CX_MT_STATUS_state,
    CX_MT_STATUS_qualified, MG_EVLOG_merged, CX_MT_ORBIT_ERR_count, CX_MT_ORBIT_ERR_last_offset,
    CX_MT_STATUS_unresolved, CX_MT_OFFSET_ticks] s t) ∧
  (∀ (s : State) (slope resid : Nat), slope < 2 ^ 48 → resid < 65536 → s.get CX_MT_STATUS_state = 1 → s.on
    CX_ARCH_STATUS_mgmt_backup = false → resid ≤ s.get CX_FU_CTRL_resid_lim → s.mt.gateBad = false → s.mt.readyLost =
    false → ∃ t, exec (.fuGateEnd slope resid) s = .next t ∧ t.get CX_FU_RATIO_LO_ratio_lo = slope % 2 ^ 32 ∧ t.get
    CX_FU_RATIO_HI_ratio_hi = slope / 2 ^ 32 ∧ t.get CX_FU_RATIO_HI_valid = 1 ∧ t.get CX_FU_STATUS_resid = resid ∧
    Frame [.mt] [CX_FU_RATIO_LO_ratio_lo, CX_FU_RATIO_HI_ratio_hi, CX_FU_RATIO_HI_valid, CX_FU_STATUS_resid,
    CX_MT_STATUS_qualified] s t) ∧
  (∀ (s : State) (slope resid : Nat), slope < 2 ^ 48 → resid < 65536 → s.get CX_MT_STATUS_state = 1 → s.on
    CX_ARCH_STATUS_mgmt_backup = false → (s.get CX_FU_CTRL_resid_lim < resid ∨ s.mt.gateBad = true) → ∃ t, exec
    (.fuGateEnd slope resid) s = .next t ∧ t.get CX_FU_STATUS_rejected = min (s.get CX_FU_STATUS_rejected + 1) 0xFFFF
    ∧ t.get CX_FU_STATUS_resid = resid ∧ Sparse.has 54 t.evReq = true ∧ Frame [.mt, .evReq] [CX_FU_STATUS_rejected,
    CX_FU_STATUS_resid, MG_EVLOG_merged] s t) ∧
  (∀ (s : State), exec .fuRatioRead s = .next
    ({ s with mt := { s.mt with ratioLatch := s.get CX_FU_RATIO_HI_ratio_hi } })) ∧
  (∀ (s : State), s.on OVN_STATUS_ready = true → s.mt.longGate = true → s.get CX_MT_STATUS_state = 1 → s.on
    CX_FU_RATIO_HI_valid = true → exec .mtQualified s = .next (s.set CX_MT_STATUS_qualified 1))

/-- OVN_READY with no heater fault latched and ready 0 sets ready with age 0 and raises event 496; after ready has
been lost warm_s keeps its value. OVN_READY_LOST clears ready and its age and qualified and raises event 497.
OVN_HEATER_FAULT latches heater_fault once, with heater 0 and event 498, and clears ready as OVN_READY_LOST does;
while it is latched OVN_READY changes nothing. -/
def Obligations.OvenReferenceReadyAndFaults : Prop :=
  (∀ (s : State), s.on OVN_STATUS_heater_fault = false → s.on OVN_STATUS_ready = false → ∃ t, exec .ovnReady s = .next
    t ∧ t.get OVN_STATUS_ready = 1 ∧ t.get OVN_STATUS_ready_age = 0 ∧ t.mt.ovnRdyPin = true ∧ Sparse.has 496 t.evReq =
    true ∧ (s.mt.readyLost = true → t.get OVN_STATUS_warm_s = s.get OVN_STATUS_warm_s) ∧ Frame [.mt, .evReq, .free]
    [OVN_STATUS_ready, OVN_STATUS_ready_age, OVN_STATUS_warm_s, MG_EVLOG_merged] s t) ∧
  (∀ (s : State), s.on OVN_STATUS_heater_fault = true → exec .ovnReady s = .next (s)) ∧
  (∀ (s : State), s.on OVN_STATUS_ready = true → exec .ovnReadyLost s = .next
    (((({ s with mt := { s.mt with ovnRdyPin := false, readyLost := true } }.set OVN_STATUS_ready 0).set
    OVN_STATUS_ready_age 0).set CX_MT_STATUS_qualified 0).raise 497)) ∧
  (∀ (s : State), s.on OVN_STATUS_heater_fault = false → s.on OVN_STATUS_ready = false → exec .ovnHeaterFault s =
    .next (((s.set OVN_STATUS_heater_fault 1).set OVN_STATUS_heater 0).raise 498)) ∧
  (∀ (s : State), s.on OVN_STATUS_heater_fault = false → s.on OVN_STATUS_ready = true → ∃ t, exec .ovnHeaterFault s =
    .next t ∧ t.get OVN_STATUS_heater_fault = 1 ∧ t.get OVN_STATUS_ready = 0 ∧ t.get CX_MT_STATUS_qualified = 0 ∧
    Sparse.has 497 t.evReq = true ∧ Sparse.has 498 t.evReq = true ∧ Frame [.mt, .evReq] [OVN_STATUS_heater_fault,
    OVN_STATUS_heater, OVN_STATUS_ready, OVN_STATUS_ready_age, CX_MT_STATUS_qualified, MG_EVLOG_merged] s t)

/-- DISCRIMINATOR_LEADING_EDGE on a low channel that delivers hits, outside recovery, calibration and an injection
window: the output is high from this bucket on, the open leading edge holds the stamp with T = 16,384·coarse + B[raw]
and the channel and die offsets, and one more edge counts in the rate window; in recovery the output goes high and
nothing is timed. DISCRIMINATOR_TRAILING_EDGE of an open leading edge while machine time runs, the unit not by-passed
and no enabled stop channel: the output is low, the channel is in recovery, and the hit word of the channel (TOA
bucket and ticks by R168, TOT by R169, or 0 with flag 2 for a pulse too narrow; flag 0 for overload) enters the
derandomiser of fewer than 8 hits, marked and counted in FE_CNT_UNLOCK where an edge lies in an invalid bucket.
TOT_OVERFLOW completes the open hit with tot 0xFFF and leaves the output high. RECOVERY_END with the input below the
level ends recovery and counts the pulses lost. Nothing else changes but the counters named. -/
def Obligations.DiscriminatorEdgesTimeHits : Prop :=
  (∀ (s : State) (ch : Nat) (at_ : Stamp), ch < 1536 → at_.wf = true → s.chUp ch = true → s.delivers ch = true →
    (s.chan ch).high = false → (s.chan ch).recov = false → s.calibrating ch = false → s.mt.running = true → (s.chan
    ch).inj = none → ∃ t, exec (.discriminatorLeadingEdge ch at_) s = .next t ∧ (t.chan ch).high = true ∧ (t.chan
    ch).since = s.clock ∧ ((t.chan ch).lead = some ⟨at_.orbit, at_.bucket, 16384 * at_.coarse + s.binOf ch at_.raw,
    s.dieOfs (ch / 512) + s.chOfs ch, s.chOfs ch, 0, if s.pairStop ch then (s.chan (ch - 1)).last else none⟩) ∧
    (t.chan ch).edges = s.rateEdges ch + 1 ∧ (t.chan ch).fifo = (s.chan ch).fifo ∧ Frame [.chans] [] s t) ∧
  (∀ (s : State) (ch : Nat) (at_ : Stamp), ch < 1536 → at_.wf = true → s.chUp ch = true → (s.chan ch).high = false →
    (s.chan ch).recov = true → exec (.discriminatorLeadingEdge ch at_) s = .next (s.setChan ch
    { s.chan ch with high := true, since := s.clock, lead := none, done := false, mute := !s.delivers ch })) ∧
  (∀ (s : State) (ch : Nat) (at_ : Stamp) (overload narrow invalid : Bool) (ld : Lead), ch < 1536 → at_.wf = true →
    s.chUp ch = true → s.delivers ch = true → s.bypassed (fRegion (regionOf ch)) = false → s.mt.running = true →
    s.pairStop ch = false → (s.chan ch).high = true → (s.chan ch).lead = some ld → (s.chan ch).tab = none → (s.chan
    ch).fifo.length < 8 →
    let dt := diffBkt s.mt.nb (at_.orbit, at_.bucket) (ld.orbit, ld.bucket) * 524288 + ((16384 * at_.coarse + s.binOf
      ch at_.raw : Nat) : Int) - (ld.t : Int)
    let b := shiftBkt s.mt.nb (ld.orbit, ld.bucket) (toaOf ld.t ld.ofs).1
    let w := hitWord ch b.2 (toaOf ld.t ld.ofs).2 (if narrow then 0 else (totOf dt).1) (Nat.lor ld.flags (if narrow
      then 4 else if overload then 1 else 0))
    let k := s.clockAt (ld.orbit, ld.bucket)
    let bad := invalid || !s.locked (ch / 512) || s.unlockedIn (ch / 512) k k
    ∃ t, exec (.discriminatorTrailingEdge ch at_ overload narrow invalid) s = .next t ∧ (t.chan ch).fifo = (s.chan
      ch).fifo ++ [(b.1, w, bad)] ∧ (t.chan ch).high = false ∧ (t.chan ch).recov = true ∧ (t.chan ch).lead = none ∧
      (t.get (FE_CNT_UNLOCK_count (ch / 512)) = if bad then min (s.get (FE_CNT_UNLOCK_count (ch / 512)) + 1)
      0xFFFFFFFF else s.get (FE_CNT_UNLOCK_count (ch / 512))) ∧ Frame [.chans] [FE_CNT_NARROW_count (ch / 512),
      FE_CNT_TOTOVF_count (ch / 512), FE_CNT_STARTHIGH_count (ch / 512), FE_CNT_UNLOCK_count (ch / 512)] s t) ∧
  (∀ (s : State) (ch : Nat) (overload invalid : Bool) (ld : Lead), ch < 1536 → s.chUp ch = true → s.delivers ch = true
    → s.bypassed (fRegion (regionOf ch)) = false → s.mt.running = true → s.pairStop ch = false → (s.chan ch).lead =
    some ld → (s.chan ch).fifo.length < 8 →
    let b := shiftBkt s.mt.nb (ld.orbit, ld.bucket) (toaOf ld.t ld.ofs).1
    let k := s.clockAt (ld.orbit, ld.bucket)
    let bad := invalid || !s.locked (ch / 512) || s.unlockedIn (ch / 512) k k
    ∃ t, exec (.totOverflow ch overload invalid) s = .next t ∧ ((t.chan ch).fifo = (s.chan ch).fifo ++ [(b.1, hitWord
      ch b.2 (toaOf ld.t ld.ofs).2 0xFFF (Nat.lor ld.flags (if overload then 1 else 0)), bad)]) ∧ (t.chan ch).lead =
      none ∧ (t.chan ch).high = (s.chan ch).high ∧ (t.get (FE_CNT_UNLOCK_count (ch / 512)) = if bad then min (s.get
      (FE_CNT_UNLOCK_count (ch / 512)) + 1) 0xFFFFFFFF else s.get (FE_CNT_UNLOCK_count (ch / 512))) ∧ t.get
      (FE_CNT_TOTOVF_count (ch / 512)) = min (s.get (FE_CNT_TOTOVF_count (ch / 512)) + 1) 0xFFFFFFFF ∧ Frame [.chans]
      [FE_CNT_TOTOVF_count (ch / 512), FE_CNT_STARTHIGH_count (ch / 512), FE_CNT_UNLOCK_count (ch / 512)] s t) ∧
  (∀ (s : State) (ch lost : Nat) (at_ : Stamp), ch < 1536 → at_.wf = true → s.chUp ch = true → s.delivers ch = true →
    s.bypassed (fRegion (regionOf ch)) = false → (s.chan ch).recov = true → 0 < lost → ∃ t, exec (.recoveryEnd ch
    false lost at_) s = .next t ∧ (t.chan ch).recov = false ∧ (t.chan ch).high = false ∧ t.get (FE_CH_STAT_recov_lost
    (ch / 512) (ch % 512)) = min (s.get (FE_CH_STAT_recov_lost (ch / 512) (ch % 512)) + lost) 255 ∧ t.get
    (FE_CNT_RECOV_count (ch / 512)) = min (s.get (FE_CNT_RECOV_count (ch / 512)) + lost) 0xFFFFFFFF ∧ Frame [.chans,
    .evReq] [FE_CH_STAT_recov_lost (ch / 512) (ch % 512), FE_CNT_RECOV_count (ch / 512), FE_STATUS_recov_lost (ch /
    512), MG_EVLOG_merged] s t)

/-- STUCK_DETECTED on a channel whose output has been high for more than stuck_lim × 8 bk (stuck_lim not 0) and
RATE_LIMIT_EXCEEDED on one with more than rate_lim leading edges in its window (rate_lim not 0) auto-mask the channel
(the pulse began inside its bucket, so the bucket in which the limit passes counts, assumption 72): its bit of
FE_AUTOMASK and its automasked bit are set, with cause 1 or 2, and event 256 + 48·die is raised when
FE_STATUS.automask goes to 1. AUTOMASK_CLEAR clears the bits named of row k, and the automasked bit of each channel
whose bit was set and named. CHANNEL_CONFIG_WRITE stores inj_set, inj_en, mask, slope, threshold and the trim, a trim
above 1,000 as 1,000, and changes nothing else but what the model keeps of values not yet in force (assumption 62). -/
def Obligations.RateGuardAndChannelSettings : Prop :=
  (∀ (s : State) (ch : Nat), ch < 1536 → s.chUp ch = true → (s.chan ch).high = true → (s.chan ch).lead = none → s.get
    (FE_GUARD_stuck_lim (ch / 512)) ≠ 0 → s.get (FE_GUARD_stuck_lim (ch / 512)) * 8 ≤ s.clock - (s.chan ch).since →
    s.mt.running = true → s.autoMasked ch = false → s.on (FE_STATUS_automask (ch / 512)) = false → ∃ t, exec
    (.stuckDetected ch) s = .next t ∧ t.get (FE_AUTOMASK_row (ch / 512) (ch % 512 / 32)) = Nat.lor (s.get
    (FE_AUTOMASK_row (ch / 512) (ch % 512 / 32))) (2 ^ (ch % 32)) % 2 ^ 32 ∧ t.get (FE_CH_STAT_automasked (ch / 512)
    (ch % 512)) = 1 ∧ t.get (FE_CH_STAT_cause (ch / 512) (ch % 512)) = 1 ∧ Sparse.has (256 + 48 * (ch / 512)) t.evReq
    = true ∧ Frame [.evReq, .was] [FE_AUTOMASK_row (ch / 512) (ch % 512 / 32), FE_CH_STAT_automasked (ch / 512) (ch %
    512), FE_CH_STAT_cause (ch / 512) (ch % 512), FE_STATUS_automask (ch / 512), MG_EVLOG_merged] s t) ∧
  (∀ (s : State) (ch : Nat), ch < 1536 → s.chUp ch = true → s.get (FE_GUARD_rate_lim (ch / 512)) ≠ 0 → s.get
    (FE_GUARD_rate_lim (ch / 512)) < s.rateEdges ch → s.mt.running = true → s.autoMasked ch = false → s.on
    (FE_STATUS_automask (ch / 512)) = false → ∃ t, exec (.rateLimitExceeded ch) s = .next t ∧ t.get (FE_AUTOMASK_row
    (ch / 512) (ch % 512 / 32)) = Nat.lor (s.get (FE_AUTOMASK_row (ch / 512) (ch % 512 / 32))) (2 ^ (ch % 32)) % 2 ^
    32 ∧ t.get (FE_CH_STAT_automasked (ch / 512) (ch % 512)) = 1 ∧ t.get (FE_CH_STAT_cause (ch / 512) (ch % 512)) = 2
    ∧ Sparse.has (256 + 48 * (ch / 512)) t.evReq = true ∧ Frame [.evReq, .was] [FE_AUTOMASK_row (ch / 512) (ch % 512 /
    32), FE_CH_STAT_automasked (ch / 512) (ch % 512), FE_CH_STAT_cause (ch / 512) (ch % 512), FE_STATUS_automask (ch /
    512), MG_EVLOG_merged] s t) ∧
  (∀ (s : State) (die k bits : Nat), die < 3 → k < 16 → bits < 2 ^ 32 → ∃ t, exec (.automaskClear die k bits) s =
    .next t ∧ t.get (FE_AUTOMASK_row die k) = Nat.xor (s.get (FE_AUTOMASK_row die k)) (Nat.land (s.get
    (FE_AUTOMASK_row die k)) bits) % 2 ^ 32 ∧ ((List.range 32).all (fun r => t.get (FE_CH_STAT_automasked die (k * 32
    + r)) == if bit (s.get (FE_AUTOMASK_row die k)) r && bit bits r then 0 else s.get (FE_CH_STAT_automasked die (k *
    32 + r))) = true) ∧ Frame [.chans, .was] [FE_AUTOMASK_row die k, FE_CH_STAT_automasked die (k * 32 + 0),
    FE_CH_STAT_automasked die (k * 32 + 1), FE_CH_STAT_automasked die (k * 32 + 2), FE_CH_STAT_automasked die (k * 32
    + 3), FE_CH_STAT_automasked die (k * 32 + 4), FE_CH_STAT_automasked die (k * 32 + 5), FE_CH_STAT_automasked die (k
    * 32 + 6), FE_CH_STAT_automasked die (k * 32 + 7), FE_CH_STAT_automasked die (k * 32 + 8), FE_CH_STAT_automasked
    die (k * 32 + 9), FE_CH_STAT_automasked die (k * 32 + 10), FE_CH_STAT_automasked die (k * 32 + 11),
    FE_CH_STAT_automasked die (k * 32 + 12), FE_CH_STAT_automasked die (k * 32 + 13), FE_CH_STAT_automasked die (k *
    32 + 14), FE_CH_STAT_automasked die (k * 32 + 15), FE_CH_STAT_automasked die (k * 32 + 16), FE_CH_STAT_automasked
    die (k * 32 + 17), FE_CH_STAT_automasked die (k * 32 + 18), FE_CH_STAT_automasked die (k * 32 + 19),
    FE_CH_STAT_automasked die (k * 32 + 20), FE_CH_STAT_automasked die (k * 32 + 21), FE_CH_STAT_automasked die (k *
    32 + 22), FE_CH_STAT_automasked die (k * 32 + 23), FE_CH_STAT_automasked die (k * 32 + 24), FE_CH_STAT_automasked
    die (k * 32 + 25), FE_CH_STAT_automasked die (k * 32 + 26), FE_CH_STAT_automasked die (k * 32 + 27),
    FE_CH_STAT_automasked die (k * 32 + 28), FE_CH_STAT_automasked die (k * 32 + 29), FE_CH_STAT_automasked die (k *
    32 + 30), FE_CH_STAT_automasked die (k * 32 + 31)] s t) ∧
  (∀ (s : State) (die l v : Nat), die < 3 → l < 512 → v < 2 ^ 32 → ∃ t, exec (.channelConfigWrite die l v) s = .next t
    ∧ t.get (FE_CH_CFG_inj_set die l) = v / 2 ^ 23 % 16 ∧ t.get (FE_CH_CFG_inj_en die l) = v / 2 ^ 22 % 2 ∧ t.get
    (FE_CH_CFG_mask die l) = v / 2 ^ 21 % 2 ∧ t.get (FE_CH_CFG_slope die l) = v / 2 ^ 20 % 2 ∧ t.get (FE_CH_CFG_trim
    die l) = min 1000 (v / 2 ^ 10 % 1024) ∧ t.get (FE_CH_CFG_threshold die l) = v % 1024 ∧ Frame [.was, .free]
    [FE_CH_CFG_inj_set die l, FE_CH_CFG_inj_en die l, FE_CH_CFG_mask die l, FE_CH_CFG_slope die l, FE_CH_CFG_trim die
    l, FE_CH_CFG_threshold die l] s t)

/-- COARSE_PLL_LOCK takes the servo of a powered die from off to acquiring while machine time runs; COARSE_PLL_LOSS
takes it to off; DLL_LOCK from acquiring to locked with event 256 + 48·die + 7; DLL_UNLOCK and RELOCK take a locked
servo back to acquiring; a servo that leaves locked sets unlock, raises event 256 + 48·die + 6, and its buckets are
invalid from the current one on. CD_FULL_RUN on a powered die while acquisition is stopped starts a run at column 0;
during acquisition it is counted refused; while a full run is under way it leaves that run as it is (the model's
choice). CD_ABORT of a run goes to idle with its progress 0, and its tables not yet installed are dropped.
CD_SLICE_END counts a slice as discarded where it is told invalid or the servo was out of lock in one of its buckets,
else adds its stamps, to at most 262,144, where the column ends its accumulation. BIN_TABLE_WRITE outside acquisition
and a full run stores both bins and sets valid of the column; otherwise it only sets tbl_wr_refused. -/
def Obligations.ServosAndCodeDensityRuns : Prop :=
  (∀ (s : State) (die : Nat), die < 3 → s.feRuns die = true → s.mt.running = true → s.get (FE_TDC_STATUS_state die) =
    0 → exec (.coarsePllLock die) s = .next (s.set (FE_TDC_STATUS_state die) 1)) ∧
  (∀ (s : State) (die : Nat), die < 3 → s.locked die = false → exec (.coarsePllLoss die) s = .next (s.set
    (FE_TDC_STATUS_state die) 0)) ∧
  (∀ (s : State) (die : Nat), die < 3 → s.locked die = true → ∃ t, exec (.coarsePllLoss die) s = .next t ∧ t.get
    (FE_TDC_STATUS_state die) = 0 ∧ t.get (FE_TDC_STATUS_unlock die) = 1 ∧ (t.die die).unl.head? = some (s.clock,
    none) ∧ Sparse.has (256 + 48 * die + 6) t.evReq = true ∧ Frame [.dies, .evReq] [FE_TDC_STATUS_state die,
    FE_TDC_STATUS_unlock die, MG_EVLOG_merged] s t) ∧
  (∀ (s : State) (die : Nat), die < 3 → s.get (FE_TDC_STATUS_state die) = 1 → ∃ t, exec (.dllLock die) s = .next t ∧
    t.get (FE_TDC_STATUS_state die) = 2 ∧ Sparse.has (256 + 48 * die + 7) t.evReq = true ∧ Frame [.chans, .dies,
    .evReq] [FE_TDC_STATUS_state die, MG_EVLOG_merged] s t) ∧
  (∀ (s : State) (die : Nat), die < 3 → s.locked die = true → ∃ t, exec (.dllUnlock die) s = .next t ∧ t.get
    (FE_TDC_STATUS_state die) = 1 ∧ t.get (FE_TDC_STATUS_unlock die) = 1 ∧ (t.die die).unl.head? = some (s.clock,
    none) ∧ Sparse.has (256 + 48 * die + 6) t.evReq = true ∧ Frame [.dies, .evReq] [FE_TDC_STATUS_state die,
    FE_TDC_STATUS_unlock die, MG_EVLOG_merged] s t) ∧
  (∀ (s : State) (die : Nat), die < 3 → s.locked die = true → ∃ t, exec (.relock die) s = .next t ∧ t.get
    (FE_TDC_STATUS_state die) = 1 ∧ t.get (FE_TDC_STATUS_unlock die) = 1 ∧ (t.die die).unl.head? = some (s.clock,
    none) ∧ Sparse.has (256 + 48 * die + 6) t.evReq = true ∧ Frame [.dies, .evReq] [FE_TDC_STATUS_state die,
    FE_TDC_STATUS_unlock die, MG_EVLOG_merged] s t) ∧
  (∀ (s : State) (die : Nat), die < 3 → s.feRuns die = true → s.get (FE_CD_STATUS_state die) ≠ 3 → s.acq = false → ∃
    t, exec (.cdFullRun die) s = .next t ∧ t.get (FE_CD_STATUS_state die) = 3 ∧ t.get (FE_CD_STATUS_column die) = 0 ∧
    t.get (FE_CD_COL_progress die 0) = 0 ∧ Frame [.dies] [FE_CD_STATUS_state die, FE_CD_STATUS_column die,
    FE_CD_COL_progress die 0, FE_CD_COL_progress die (s.get (FE_CD_STATUS_column die))] s t) ∧
  (∀ (s : State) (die : Nat), die < 3 → s.feRuns die = true → s.acq = false → s.get (FE_CD_STATUS_state die) = 3 →
    exec (.cdFullRun die) s = .next (s)) ∧
  (∀ (s : State) (die : Nat), die < 3 → s.feRuns die = true → s.acq = true → exec (.cdFullRun die) s = .next (s.count
    (FE_CD_STATUS_refused die))) ∧
  (∀ (s : State) (die : Nat), die < 3 → (s.get (FE_CD_STATUS_state die) = 1 ∨ s.get (FE_CD_STATUS_state die) = 3) → ∃
    t, exec (.cdAbort die) s = .next t ∧ t.get (FE_CD_STATUS_state die) = 0 ∧ t.get (FE_CD_COL_progress die (s.get
    (FE_CD_STATUS_column die))) = 0 ∧ t.mt = { s.mt with edge := s.mt.edge.filter fun a => a.tablesOf != some die } ∧
    Frame [.dies, .mt] [FE_CD_STATUS_state die, FE_CD_COL_progress die (s.get (FE_CD_STATUS_column die))] s t) ∧
  (∀ (s : State) (die stamps : Nat) (invalid : Bool), die < 3 → (s.die die).slice = true → (invalid = true ∨ ((s.die
    die).sliceAt < s.clock ∧ s.unlockedIn die (s.die die).sliceAt (s.clock - 1) = true)) → ∃ t, exec (.cdSliceEnd die
    stamps invalid) s = .next t ∧ t.get (FE_CD_STATUS_discarded die) = min (s.get (FE_CD_STATUS_discarded die) + 1)
    255 ∧ (t.die die).slice = false ∧ (t.die die).stamps = (s.die die).stamps ∧ (t.activity = if s.activity = some 4
    then none else s.activity) ∧ Frame [.chans, .dies, .activity] [FE_CD_STATUS_discarded die] s t) ∧
  (∀ (s : State) (die stamps : Nat), die < 3 → (s.die die).slice = true → (s.die die).sliceAt < s.clock → s.unlockedIn
    die (s.die die).sliceAt (s.clock - 1) = false → s.get (FE_CD_STATUS_state die) = 1 → ∃ t, exec (.cdSliceEnd die
    stamps false) s = .next t ∧ (t.die die).slice = false ∧ (t.die die).stamps = min 262144 ((s.die die).stamps +
    stamps) ∧ (t.get (FE_CD_STATUS_state die) = if 262144 ≤ (s.die die).stamps + stamps then 2 else 1) ∧ t.get
    (FE_CD_COL_progress die (s.get (FE_CD_STATUS_column die))) = min 262144 ((s.die die).stamps + stamps) / 256 ∧
    Frame [.chans, .dies, .activity] [FE_CD_STATUS_state die, FE_CD_COL_progress die (s.get (FE_CD_STATUS_column
    die))] s t) ∧
  (∀ (s : State) (die l j v : Nat), die < 3 → l < 512 → j < 512 → v < 2 ^ 32 → s.acq = false → s.get
    (FE_CD_STATUS_state die) ≠ 3 → ∃ t, exec (.binTableWrite die l j v) s = .next t ∧ t.get (FE_BIN_even die l j) = v
    % 2 ^ 14 ∧ t.get (FE_BIN_odd die l j) = v / 2 ^ 16 % 2 ^ 14 ∧ t.get (FE_CD_COL_valid die (l / 32)) = 1 ∧ Frame
    [.chans] [FE_BIN_even die l j, FE_BIN_odd die l j, FE_CD_COL_valid die (l / 32)] s t) ∧
  (∀ (s : State) (die l j v : Nat), die < 3 → l < 512 → j < 512 → v < 2 ^ 32 → s.acq = true → exec (.binTableWrite die
    l j v) s = .next (s.set (FE_TDC_STATUS_tbl_wr_refused die) 1))

/-- CD_TABLES_COMPUTED at the end of an accumulation (state 2, or a column of a full run, state 3), every powered-up
channel of the column having taken 262,144 stamps: while machine time runs the tables wait for the next bucket edge,
at which they are installed (R170); while it stands (the model's choice, assumption 51) they are installed at once.
Installing, where every such channel has between 1 and 1,024 stamps in each bin: the channel takes the table (2·C_r +
n_r + 16) ÷ 32 rounded down with C_r the stamps of the bins below r, valid is 1, age 0, fail and the row of FE_CD_FAIL
are 0 for those channels, event 256 + 48·die + 8 is raised and the run is idle, or goes on with the next column of a
full run. Outside states 2 and 3 nothing changes. -/
def Obligations.CodeDensityTablesAreComputed : Prop :=
  (∀ (s : State) (die : Nat) (hist : List (List Nat)), die < 3 → hist.length = 32 → (∀ h ∈ hist, h.length = 1024) →
    (s.get (FE_CD_STATUS_state die) = 2 ∨ s.get (FE_CD_STATUS_state die) = 3) → (∀ q ∈ s.cdRows die (s.get
    (FE_CD_STATUS_column die)), (hist.getD q []).sum = 262144) → s.mt.running = true → (∀ a ∈ s.mt.edge, a.tablesOf ≠
    some die) → exec (.cdTablesComputed die hist) s = .next
    ({ s with mt := { s.mt with edge := s.mt.edge ++ [.tables die hist] } })) ∧
  (∀ (s : State) (die : Nat) (hist : List (List Nat)) (r k : Nat), die < 3 → k < 1024 → hist.length = 32 → (∀ h ∈
    hist, h.length = 1024) → s.get (FE_CD_STATUS_column die) < 16 → r ∈ s.cdRows die (s.get (FE_CD_STATUS_column die))
    → (s.get (FE_CD_STATUS_state die) = 2 ∨ s.get (FE_CD_STATUS_state die) = 3) → (∀ q ∈ s.cdRows die (s.get
    (FE_CD_STATUS_column die)), ∀ n ∈ hist.getD q [], 1 ≤ n ∧ n ≤ 1024) → (∀ q ∈ s.cdRows die (s.get
    (FE_CD_STATUS_column die)), (hist.getD q []).sum = 262144) → s.mt.running = false → (∀ a ∈ s.mt.edge, a.tablesOf ≠
    some die) →
    let col := s.get (FE_CD_STATUS_column die)
    let h := hist.getD r []
    ∃ t, exec (.cdTablesComputed die hist) s = .next t ∧ ((if k % 2 = 0 then t.get (FE_BIN_even die (col * 32 + r) (k
      / 2)) else t.get (FE_BIN_odd die (col * 32 + r) (k / 2))) = (2 * (h.take k).sum + h.getD k 0 + 16) / 32 % 2 ^
      14) ∧ t.get (FE_CD_COL_valid die col) = 1 ∧ t.get (FE_CD_COL_age die col) = 0 ∧ t.get (FE_CD_COL_fail die col) =
      0 ∧ t.get (FE_CD_FAIL_row die col) / 2 ^ r % 2 = 0 ∧ (t.get (FE_CD_STATUS_state die) = if s.get
      (FE_CD_STATUS_state die) = 3 ∧ col < 15 then 3 else 0) ∧ Sparse.has (256 + 48 * die + 8) t.evReq = true ∧
      BlockFrame [.evReq, .chans, .dies] [(0x20000000 + 0x1000000 * die, 0x20FFFFFF + 0x1000000 * die), (0x1000C210,
      0x1000C210)] s t) ∧
  (∀ (s : State) (die : Nat) (hist : List (List Nat)) (r k : Nat), s.pending = [] → die < 3 → k < 1024 → hist.length =
    32 → (∀ h ∈ hist, h.length = 1024) → s.get (FE_CD_STATUS_column die) < 16 → r ∈ s.cdRows die (s.get
    (FE_CD_STATUS_column die)) → (s.get (FE_CD_STATUS_state die) = 2 ∨ s.get (FE_CD_STATUS_state die) = 3) → (∀ q ∈
    s.cdRows die (s.get (FE_CD_STATUS_column die)), ∀ n ∈ hist.getD q [], 1 ≤ n ∧ n ≤ 1024) → s.mt.running = true →
    s.mt.bucket + 1 < s.mt.nb → s.mt.edge = [.tables die hist] → s.tg.arrived = [] → s.calMay CX_CAL_EN_enable = false
    →
    let col := s.get (FE_CD_STATUS_column die)
    let h := hist.getD r []
    ∃ t, step s = .next t ∧ ((if k % 2 = 0 then t.get (FE_BIN_even die (col * 32 + r) (k / 2)) else t.get (FE_BIN_odd
      die (col * 32 + r) (k / 2))) = (2 * (h.take k).sum + h.getD k 0 + 16) / 32 % 2 ^ 14) ∧ t.get (FE_CD_COL_valid
      die col) = 1 ∧ t.get (FE_CD_COL_age die col) = 0 ∧ t.get (FE_CD_COL_fail die col) = 0 ∧ t.get (FE_CD_FAIL_row
      die col) / 2 ^ r % 2 = 0 ∧ (t.get (FE_CD_STATUS_state die) = if s.get (FE_CD_STATUS_state die) = 3 ∧ col < 15
      then 3 else 0) ∧ Sparse.has (256 + 48 * die + 8) t.evReq = true ∧ t.mt.edge = [] ∧ t.mt.bucket = s.mt.bucket + 1
      ∧ PartFrame [.evReq, .chans, .dies, .mt, .clock] s t) ∧
  (∀ (s : State) (die : Nat) (hist : List (List Nat)), die < 3 → s.get (FE_CD_STATUS_state die) < 2 → exec
    (.cdTablesComputed die hist) s = .next (s))

/-- For an enabled calendar with no write to it still to come into force, and entry e, the only one enabled, whose
bucket exists and has not passed in the current orbit and whose mask and value select that orbit: the entry fires at
its bucket, once. Action 1 strobes the FE dies that the argument selects at the coarse period of the entry: in a die
in service each enabled channel of the set opens an injection window there, a die not in service takes none. Action 2
queues an injected conversion of input argument mod 64. Action 3 requests an injection of loop engine 0, 1 or 2 (loop
0 to 95). Action 4 makes a burnish window of argument mod 4,096 bk due, none for 0. Action 5 makes a role swap due if
sched reads 1. Action 6 is a go with the current first and count. Action 7 raises EV_CX_CAL_FIRMWARE with the
argument. Action 8 makes a refresh of a column due, once. Actions 9 to 15 are counted as missed. A write of the
entry's control word while the entry's bucket is the current or the next one leaves that firing as it was, with the
argument of before (R118); one that comes 2 buckets or more before it fires with its own argument. Where several
entries are enabled, those that are due fire by rising bucket, and in one bucket by rising entry. -/
def Obligations.CalendarFiresItsActions : Prop :=
  (∀ (s : State) (e : Nat), e < 256 → (∀ w ∈ s.was, calKey w.key = false) → s.mt.running = true → s.stopDue = false →
    s.mt.held = false → s.on CX_CAL_EN_enable = true → s.on (CX_CAL_CTRL_enable e) = true → (∀ f ∈ List.range 256,
    s.on (CX_CAL_CTRL_enable f) = true → f = e) → s.get (CX_CAL_TIME_bucket e) < s.mt.nb → s.mt.bucket ≤ s.get
    (CX_CAL_TIME_bucket e) → (s.mt.bucket = s.get (CX_CAL_TIME_bucket e) → e ∉ s.mt.fired) → Nat.land s.mt.orbit
    (s.get (CX_CAL_OMASK_mask e)) = Nat.land (s.get (CX_CAL_OVAL_value e)) (s.get (CX_CAL_OMASK_mask e)) → s.get
    (CX_CAL_CTRL_action e) = 7 →
    let u := (s.moveTo (s.get (CX_CAL_TIME_bucket e))).markFired e
    let a := s.get (CX_CAL_CTRL_argument e)
    exec (.tileLifeRecordWrite e) s = .next (u.raise 57 a)) ∧
  (∀ (s : State) (e : Nat), e < 256 → (∀ w ∈ s.was, calKey w.key = false) → s.mt.running = true → s.stopDue = false →
    s.mt.held = false → s.on CX_CAL_EN_enable = true → s.on (CX_CAL_CTRL_enable e) = true → (∀ f ∈ List.range 256,
    s.on (CX_CAL_CTRL_enable f) = true → f = e) → s.get (CX_CAL_TIME_bucket e) < s.mt.nb → s.mt.bucket ≤ s.get
    (CX_CAL_TIME_bucket e) → (s.mt.bucket = s.get (CX_CAL_TIME_bucket e) → e ∉ s.mt.fired) → Nat.land s.mt.orbit
    (s.get (CX_CAL_OMASK_mask e)) = Nat.land (s.get (CX_CAL_OVAL_value e)) (s.get (CX_CAL_OMASK_mask e)) → s.get
    (CX_CAL_CTRL_action e) = 6 →
    let u := (s.moveTo (s.get (CX_CAL_TIME_bucket e))).markFired e
    let a := s.get (CX_CAL_CTRL_argument e)
    exec (.partialPlateReload e) s = .next (reloadGo (u.get CX_PLATE_RELOAD_first) (u.get CX_PLATE_RELOAD_count) u)) ∧
  (∀ (s : State) (e : Nat), e < 256 → (∀ w ∈ s.was, calKey w.key = false) → s.mt.running = true → s.stopDue = false →
    s.mt.held = false → s.on CX_CAL_EN_enable = true → s.on (CX_CAL_CTRL_enable e) = true → (∀ f ∈ List.range 256,
    s.on (CX_CAL_CTRL_enable f) = true → f = e) → s.get (CX_CAL_TIME_bucket e) < s.mt.nb → s.mt.bucket ≤ s.get
    (CX_CAL_TIME_bucket e) → (s.mt.bucket = s.get (CX_CAL_TIME_bucket e) → e ∉ s.mt.fired) → Nat.land s.mt.orbit
    (s.get (CX_CAL_OMASK_mask e)) = Nat.land (s.get (CX_CAL_OVAL_value e)) (s.get (CX_CAL_OMASK_mask e)) → s.get
    (CX_CAL_CTRL_action e) = 4 →
    let u := (s.moveTo (s.get (CX_CAL_TIME_bucket e))).markFired e
    let a := s.get (CX_CAL_CTRL_argument e)
    exec (.burnishWindow e) s = .next
      ({ u with dueBurnish := if a % 4096 = 0 then u.dueBurnish else u.dueBurnish ++ [a % 4096] })) ∧
  (∀ (s : State) (e : Nat), e < 256 → (∀ w ∈ s.was, calKey w.key = false) → s.mt.running = true → s.stopDue = false →
    s.mt.held = false → s.on CX_CAL_EN_enable = true → s.on (CX_CAL_CTRL_enable e) = true → (∀ f ∈ List.range 256,
    s.on (CX_CAL_CTRL_enable f) = true → f = e) → s.get (CX_CAL_TIME_bucket e) < s.mt.nb → s.mt.bucket ≤ s.get
    (CX_CAL_TIME_bucket e) → (s.mt.bucket = s.get (CX_CAL_TIME_bucket e) → e ∉ s.mt.fired) → Nat.land s.mt.orbit
    (s.get (CX_CAL_OMASK_mask e)) = Nat.land (s.get (CX_CAL_OVAL_value e)) (s.get (CX_CAL_OMASK_mask e)) → s.get
    (CX_CAL_CTRL_action e) = 5 →
    let u := (s.moveTo (s.get (CX_CAL_TIME_bucket e))).markFired e
    let a := s.get (CX_CAL_CTRL_argument e)
    exec (.roleSwap e) s = .next ({ u with dueSwap := u.dueSwap || u.on SV_ARB_STATUS_sched })) ∧
  (∀ (s : State) (e : Nat), e < 256 → (∀ w ∈ s.was, calKey w.key = false) → s.mt.running = true → s.stopDue = false →
    s.mt.held = false → s.on CX_CAL_EN_enable = true → s.on (CX_CAL_CTRL_enable e) = true → (∀ f ∈ List.range 256,
    s.on (CX_CAL_CTRL_enable f) = true → f = e) → s.get (CX_CAL_TIME_bucket e) < s.mt.nb → s.mt.bucket ≤ s.get
    (CX_CAL_TIME_bucket e) → (s.mt.bucket = s.get (CX_CAL_TIME_bucket e) → e ∉ s.mt.fired) → Nat.land s.mt.orbit
    (s.get (CX_CAL_OMASK_mask e)) = Nat.land (s.get (CX_CAL_OVAL_value e)) (s.get (CX_CAL_OMASK_mask e)) → s.mt.edge =
    [] → s.tg.arrived = [] → s.get CX_MT_STATUS_state ≠ 3 → 9 ≤ s.get (CX_CAL_CTRL_action e) →
    let u := (s.moveTo (s.get (CX_CAL_TIME_bucket e))).markFired e
    let a := s.get (CX_CAL_CTRL_argument e)
    ∃ t, exec (.calendarReservedAction e) s = .next t ∧ t.get CX_CAL_EN_missed = min (s.get CX_CAL_EN_missed + 1) (2 ^
      CX_CAL_EN_missed.width - 1) ∧ t.mt.bucket = s.get (CX_CAL_TIME_bucket e) ∧ t.mt.orbit = s.mt.orbit ∧ e ∈
      t.mt.fired ∧ ((s.mt.missedRaised = false → Sparse.has 55 t.evReq = true)) ∧ Frame [.mt, .clock, .evReq]
      [CX_CAL_EN_missed, MG_EVLOG_merged] s t) ∧
  (∀ (s : State) (e : Nat), e < 256 → (∀ w ∈ s.was, calKey w.key = false) → s.mt.running = true → s.stopDue = false →
    s.mt.held = false → s.on CX_CAL_EN_enable = true → s.on (CX_CAL_CTRL_enable e) = true → (∀ f ∈ List.range 256,
    s.on (CX_CAL_CTRL_enable f) = true → f = e) → s.get (CX_CAL_TIME_bucket e) < s.mt.nb → s.mt.bucket ≤ s.get
    (CX_CAL_TIME_bucket e) → (s.mt.bucket = s.get (CX_CAL_TIME_bucket e) → e ∉ s.mt.fired) → Nat.land s.mt.orbit
    (s.get (CX_CAL_OMASK_mask e)) = Nat.land (s.get (CX_CAL_OVAL_value e)) (s.get (CX_CAL_OMASK_mask e)) → s.get
    (CX_CAL_CTRL_action e) = 8 → s.get (CX_CAL_CTRL_argument e) % 64 < 48 → s.feServed (s.get (CX_CAL_CTRL_argument e)
    % 64 / 16) = true → s.cdAccepts (s.get (CX_CAL_CTRL_argument e) % 64 / 16) (s.get (CX_CAL_CTRL_argument e) % 16) =
    true → s.mt.bucket = s.get (CX_CAL_TIME_bucket e) →
    let q := (s.get (CX_CAL_CTRL_argument e) % 64 / 16, s.get (CX_CAL_CTRL_argument e) % 16)
    exec (.codeDensityCalibrationRefresh e) s = .next
      ({ s.markFired e with dueCd := if s.dueCd.contains q then s.dueCd else s.dueCd ++ [q] })) ∧
  (∀ (s : State) (e i loop : Nat), e < 256 → (∀ w ∈ s.was, calKey w.key = false) → s.mt.running = true → s.stopDue =
    false → s.mt.held = false → s.on CX_CAL_EN_enable = true → s.on (CX_CAL_CTRL_enable e) = true → (∀ f ∈ List.range
    256, s.on (CX_CAL_CTRL_enable f) = true → f = e) → s.get (CX_CAL_TIME_bucket e) < s.mt.nb → s.mt.bucket ≤ s.get
    (CX_CAL_TIME_bucket e) → (s.mt.bucket = s.get (CX_CAL_TIME_bucket e) → e ∉ s.mt.fired) → Nat.land s.mt.orbit
    (s.get (CX_CAL_OMASK_mask e)) = Nat.land (s.get (CX_CAL_OVAL_value e)) (s.get (CX_CAL_OMASK_mask e)) → s.get
    (CX_CAL_CTRL_action e) = 3 → i < 3 → s.get (CX_CAL_CTRL_argument e) / 2 ^ 14 % 4 = i → (loop = (if i = 2 then
    s.get (CX_CAL_CTRL_argument e) / 2 ^ 7 % 2 ^ 7 else 0)) → loop < 96 →
    let u := (s.moveTo (s.get (CX_CAL_TIME_bucket e))).markFired e
    let a := s.get (CX_CAL_CTRL_argument e)
    exec (.loopEngineTestSignal e) s = .next (u.injRequest i loop)) ∧
  (∀ (s : State) (e : Nat), e < 256 → (∀ w ∈ s.was, calKey w.key = false) → s.mt.running = true → s.stopDue = false →
    s.mt.held = false → s.on CX_CAL_EN_enable = true → s.on (CX_CAL_CTRL_enable e) = true → (∀ f ∈ List.range 256,
    s.on (CX_CAL_CTRL_enable f) = true → f = e) → s.get (CX_CAL_TIME_bucket e) < s.mt.nb → s.mt.bucket ≤ s.get
    (CX_CAL_TIME_bucket e) → (s.mt.bucket = s.get (CX_CAL_TIME_bucket e) → e ∉ s.mt.fired) → Nat.land s.mt.orbit
    (s.get (CX_CAL_OMASK_mask e)) = Nat.land (s.get (CX_CAL_OVAL_value e)) (s.get (CX_CAL_OMASK_mask e)) → s.get
    (CX_CAL_CTRL_action e) = 2 → s.mg.hk.queue.length < 4 →
    let u := (s.moveTo (s.get (CX_CAL_TIME_bucket e))).markFired e
    let a := s.get (CX_CAL_CTRL_argument e)
    ∃ t, exec (.housekeepingConversion e) s = .next t ∧ t.mg.hk.queue = s.mg.hk.queue ++ [⟨a % 64, true, false⟩] ∧
      t.mt.bucket = s.get (CX_CAL_TIME_bucket e) ∧ t.get HK_STATUS_inj_q = s.mg.hk.queue.length + 1 ∧ t = u.hkRequest
      (a % 64) true) ∧
  (∀ (s : State) (e n l : Nat), e < 256 → (∀ w ∈ s.was, calKey w.key = false) → s.mt.running = true → s.stopDue =
    false → s.mt.held = false → s.on CX_CAL_EN_enable = true → s.on (CX_CAL_CTRL_enable e) = true → (∀ f ∈ List.range
    256, s.on (CX_CAL_CTRL_enable f) = true → f = e) → s.get (CX_CAL_TIME_bucket e) < s.mt.nb → s.mt.bucket ≤ s.get
    (CX_CAL_TIME_bucket e) → (s.mt.bucket = s.get (CX_CAL_TIME_bucket e) → e ∉ s.mt.fired) → Nat.land s.mt.orbit
    (s.get (CX_CAL_OMASK_mask e)) = Nat.land (s.get (CX_CAL_OVAL_value e)) (s.get (CX_CAL_OMASK_mask e)) → s.get
    (CX_CAL_CTRL_action e) = 1 → s.mt.edge = [] → s.tg.arrived = [] → s.get CX_MT_STATUS_state ≠ 3 → n < 3 → l < 512 →
    bit (s.get (CX_CAL_CTRL_argument e)) n = true →
    let u := (s.moveTo (s.get (CX_CAL_TIME_bucket e))).markFired e
    let a := s.get (CX_CAL_CTRL_argument e)
    ∃ t, exec (.testChargeInjection e) s = .next t ∧ ((u.feServed n = true → (s.die n).strobe = none → (t.die
      n).strobe = some u.clock)) ∧ ((u.feServed n = true → (s.die n).strobe = none → s.on (FE_CH_CFG_inj_en n l) =
      true → s.get (FE_CH_CFG_inj_set n l) = a / 16 % 16 → u.chUp (n * 512 + l) = true → (t.chan (n * 512 + l)).inj =
      some ⟨u.mt.orbit, u.mt.bucket, s.get (CX_CAL_TIME_coarse e) * 1024 + s.get (FE_INJ_CTRL_fine n), !(s.chan (n *
      512 + l)).high && !(s.chan (n * 512 + l)).recov, 0, false⟩)) ∧ ((u.feServed n = false → t.die n = s.die n)) ∧
      Frame [.mt, .clock, .dies, .chans, .evReq] ([MG_EVLOG_merged] ++ ((List.range 3).map FE_CNT_INJ_WIN_count ++
      (List.range 3).map FE_CNT_INJ_ERR_dropped ++ (List.range 3).map FE_STATUS_inj_dropped)) s t) ∧
  (∀ (s : State) (e : Nat), e < 256 → (∀ w ∈ s.was, calKey w.key = false) → s.get (CX_CAL_TIME_bucket e) = s.mt.bucket
    → e ∈ s.mt.fired → exec (.tileLifeRecordWrite e) s = .next (s)) ∧
  (∀ (s : State) (p : Path) (e v : Nat), p.wf = true → v < 2 ^ 32 → e < 256 → (∀ w ∈ s.was, calKey w.key = false) →
    s.mt.running = true → s.stopDue = false → s.mt.held = false → s.on CX_CAL_EN_enable = true → s.on
    (CX_CAL_CTRL_enable e) = true → (∀ f ∈ List.range 256, s.on (CX_CAL_CTRL_enable f) = true → f = e) → s.get
    (CX_CAL_TIME_bucket e) < s.mt.nb → s.mt.bucket ≤ s.get (CX_CAL_TIME_bucket e) → (s.mt.bucket = s.get
    (CX_CAL_TIME_bucket e) → e ∉ s.mt.fired) → Nat.land s.mt.orbit (s.get (CX_CAL_OMASK_mask e)) = Nat.land (s.get
    (CX_CAL_OVAL_value e)) (s.get (CX_CAL_OMASK_mask e)) → s.get (CX_CAL_TIME_bucket e) ≤ s.mt.bucket + 1 → s.get
    (CX_CAL_CTRL_action e) = 7 → ∃ t, exec (.registerWrite p (CX_CAL_CTRL_enable e).addr v 15) s = .next t ∧ t.get
    (CX_CAL_CTRL_argument e) = v % 2 ^ 16 ∧ t.get (CX_CAL_CTRL_enable e) = v / 2 ^ 31 ∧ exec (.tileLifeRecordWrite e)
    t = .next (((t.moveTo (s.get (CX_CAL_TIME_bucket e))).markFired e).raise 57 (s.get (CX_CAL_CTRL_argument e))) ∧
    Frame [.answer, .was] [CX_CAL_CTRL_enable e, CX_CAL_CTRL_action e, CX_CAL_CTRL_argument e] s t) ∧
  (∀ (s : State) (p : Path) (e v : Nat), p.wf = true → v < 2 ^ 32 → e < 256 → (∀ w ∈ s.was, calKey w.key = false) →
    s.mt.running = true → s.stopDue = false → s.mt.held = false → s.on CX_CAL_EN_enable = true → (∀ f ∈ List.range
    256, s.on (CX_CAL_CTRL_enable f) = true → f = e) → s.get (CX_CAL_TIME_bucket e) < s.mt.nb → s.mt.bucket ≤ s.get
    (CX_CAL_TIME_bucket e) → (s.mt.bucket = s.get (CX_CAL_TIME_bucket e) → e ∉ s.mt.fired) → Nat.land s.mt.orbit
    (s.get (CX_CAL_OMASK_mask e)) = Nat.land (s.get (CX_CAL_OVAL_value e)) (s.get (CX_CAL_OMASK_mask e)) → s.mt.bucket
    + 2 ≤ s.get (CX_CAL_TIME_bucket e) → v / 2 ^ 31 = 1 → v / 2 ^ 24 % 16 = 7 → ∃ t, exec (.registerWrite p
    (CX_CAL_CTRL_enable e).addr v 15) s = .next t ∧ exec (.tileLifeRecordWrite e) t = .next (((t.moveTo (s.get
    (CX_CAL_TIME_bucket e))).markFired e).raise 57 (v % 2 ^ 16)) ∧ Frame [.answer, .was] [CX_CAL_CTRL_enable e,
    CX_CAL_CTRL_action e, CX_CAL_CTRL_argument e] s t) ∧
  (∀ (s : State) (hi : Nat), (s.calDue hi).Pairwise (· < ·) ∧ ∀ k ∈ s.calDue hi, s.calHits (k % 256) (k / 256) = true ∧
    k / 256 ≤ hi)

/-- At a bucket edge outside every quiet window, with machine time standing or with an activity under way, none starts
and nothing changes. Inside a window with none under way: a due role swap starts if its 1,024 bk end by the last
bucket of the window, whatever else is due; one that does not fit, not yet deferred in this window, stays due, is
counted in CX_QUIET_DEFER with last = 1 and raises EV_CX_QUIET_DEFER; a waiting reload whose by-pass length fits comes
next, then the oldest due burnish window that fits, then a code-density refresh of a die that accepts it, whose slice
begins. -/
def Obligations.DisruptiveActivitiesKeepToQuietWindows : Prop :=
  (∀ (s : State), (s.activity ≠ none ∨ s.mt.running = false ∨ s.inWindow s.mt.bucket = false) → exec
    .disruptiveActivityStart s = .next (s)) ∧
  (∀ (s : State), s.activity = none → s.mt.running = true → s.inWindow s.mt.bucket = true → s.dueSwap = true →
    s.mt.bucket + 1024 ≤ s.windowEnd s.mt.bucket → ∃ t, exec .disruptiveActivityStart s = .next t ∧ t.activity = some
    1 ∧ t.dueSwap = false ∧ t.dueBurnish = s.dueBurnish ∧ Frame [.activity, .dueSwap, .dueCd, .deferWin, .deferMask,
    .evReq] [CX_QUIET_DEFER_count, CX_QUIET_DEFER_last, MG_EVLOG_merged] s t) ∧
  (∀ (s : State), s.activity = none → s.mt.running = true → s.inWindow s.mt.bucket = true → s.dueSwap = true →
    s.windowEnd s.mt.bucket < s.mt.bucket + 1024 → s.get CX_PLATE_RELOAD_state ≠ 2 → s.dueBurnish = [] → s.dueCd = []
    → s.deferWin ≠ (s.mt.orbit, s.windowEnd s.mt.bucket) → ∃ t, exec .disruptiveActivityStart s = .next t ∧ t.activity
    = none ∧ t.dueSwap = true ∧ t.get CX_QUIET_DEFER_count = min (s.get CX_QUIET_DEFER_count + 1) (2 ^
    CX_QUIET_DEFER_count.width - 1) ∧ t.get CX_QUIET_DEFER_last = 1 ∧ Sparse.has 42 t.evReq = true ∧ Frame [.deferWin,
    .deferMask, .evReq] [CX_QUIET_DEFER_count, CX_QUIET_DEFER_last, MG_EVLOG_merged] s t) ∧
  (∀ (s : State), s.activity = none → s.mt.running = true → s.inWindow s.mt.bucket = true → s.dueSwap = false → s.get
    CX_PLATE_RELOAD_state = 2 → s.mt.bucket + s.reloadLength ≤ s.windowEnd s.mt.bucket → ∃ t, exec
    .disruptiveActivityStart s = .next t ∧ t.activity = some 2 ∧ t.get CX_PLATE_RELOAD_state = 2 ∧ t.dueBurnish =
    s.dueBurnish ∧ t.plate = s.plate ∧ Frame [.activity, .dueCd, .deferWin, .deferMask, .evReq] [CX_QUIET_DEFER_count,
    CX_QUIET_DEFER_last, MG_EVLOG_merged] s t) ∧
  (∀ (s : State) (d : Nat) (l1 l2 : List Nat), s.activity = none → s.mt.running = true → s.inWindow s.mt.bucket = true
    → s.dueSwap = false → s.get CX_PLATE_RELOAD_state ≠ 2 → s.dueBurnish = l1 ++ d :: l2 → (∀ x ∈ l1, s.windowEnd
    s.mt.bucket < s.mt.bucket + x) → s.mt.bucket + d ≤ s.windowEnd s.mt.bucket → ∃ t, exec .disruptiveActivityStart s
    = .next t ∧ t.activity = some 3 ∧ t.dueBurnish = l1 ++ l2 ∧ ((s.prot.pass = none → t.prot = s.prot)) ∧ Frame
    [.activity, .dueBurnish, .dueCd, .deferWin, .deferMask, .evReq] [CX_QUIET_DEFER_count, CX_QUIET_DEFER_last,
    CX_BN_PASS_CTRL_state, MG_EVLOG_merged] s t) ∧
  (∀ (s : State) (n col : Nat), s.activity = none → s.mt.running = true → s.inWindow s.mt.bucket = true → s.dueSwap =
    false → s.get CX_PLATE_RELOAD_state ≠ 2 → s.dueBurnish = [] → s.dueCd = [(n, col)] → n < 3 → col < 16 → s.feServed
    n = true → s.mt.bucket + s.get (FE_CD_CTRL_slice n) ≤ s.windowEnd s.mt.bucket → s.get (FE_CD_STATUS_state n) = 0 →
    ∃ t, exec .disruptiveActivityStart s = .next t ∧ t.activity = some 4 ∧ t.dueCd = [] ∧ (t.die n).slice = true ∧
    t.get (FE_CD_STATUS_state n) = 1 ∧ t.get (FE_CD_STATUS_column n) = col)

/-- HIT_MERGE, while the domain runs, of the next hit of a die: one with an edge in an invalid bucket, or of a die out
of service in its bucket, is discarded; else with the ring running, no flush, the bucket not before valid-from and not
sealed, and room among the 16,384 hits of the sort buffer, the hit (no overload, under no shadow) joins the sort
buffer; a hit of a sealed bucket adds 1 to CX_MERGE_LATE.late and sets late; a hit that finds the ring stopped,
outside a flush, adds 1 to RC_FREEZE_LOST. BUCKET_SEAL while the domain runs, with the ring neither stopped nor about
to stop, seals the bucket 64 bk back once: its descriptor is valid with orbit, bucket and the absent dies, its hits
leave the unsealed part of the sort buffer, and it is the last bucket sealed. -/
def Obligations.HitsMergeAndBucketsSeal : Prop :=
  (∀ (s : State) (n orbit w : Nat) (late : Bool), n < 3 → s.mt.running = true → (s.nextHit n).map (fun x => (x.1,
    x.2.1, x.2.2.1)) = some (orbit, w, false) → s.feOutAt n (orbit, hitBucket w) = false → s.ringHeld = false → s.on
    CX_HQ_STATUS_flushing = false → (s.validFrom = none ∨ s.fromValid (orbit, hitBucket w) = true) → s.isSealed
    (orbit, hitBucket w) = false → s.sortCount < 16384 → hitFlag w 0 = false → s.store.shadows = [] → ∃ t, exec
    (.hitMerge n late) s = .next t ∧ t.store.sort = s.store.sort ++ [⟨n, orbit, w⟩] ∧ t.store.wq = s.store.wq ∧ some
    t.chans = (s.nextHit n).map (fun x => x.2.2.2.chans) ∧ PartFrame [.evReq, .chans, .dies, .store, .tg, .tile] s t) ∧
  (∀ (s : State) (n orbit w : Nat) (late : Bool), n < 3 → s.mt.running = true → (s.nextHit n).map (fun x => (x.1,
    x.2.1, x.2.2.1)) = some (orbit, w, false) → s.feOutAt n (orbit, hitBucket w) = false → s.ringHeld = false → s.on
    CX_HQ_STATUS_flushing = false → (s.validFrom = none ∨ s.fromValid (orbit, hitBucket w) = true) → s.isSealed
    (orbit, hitBucket w) = true → ∃ t, exec (.hitMerge n late) s = .next t ∧ t.store = s.store ∧ t.get
    CX_MERGE_LATE_late = min (s.get CX_MERGE_LATE_late + 1) (2 ^ CX_MERGE_LATE_late.width - 1) ∧ t.on
    CX_HQ_STATUS_late = true ∧ PartFrame [.evReq, .chans, .dies, .store, .tg, .tile] s t) ∧
  (∀ (s : State) (n orbit w : Nat) (late : Bool), n < 3 → s.mt.running = true → (s.nextHit n).map (fun x => (x.1,
    x.2.1, x.2.2.1)) = some (orbit, w, false) → s.feOutAt n (orbit, hitBucket w) = false → s.ringHeld = true → s.on
    CX_HQ_STATUS_flushing = false → ∃ t, exec (.hitMerge n late) s = .next t ∧ t.store = s.store ∧ t.get
    RC_FREEZE_LOST_count = min (s.get RC_FREEZE_LOST_count + 1) (2 ^ RC_FREEZE_LOST_count.width - 1)) ∧
  (∀ (s : State) (n orbit w : Nat) (late bad : Bool), n < 3 → s.mt.running = true → (s.nextHit n).map (fun x => (x.1,
    x.2.1, x.2.2.1)) = some (orbit, w, bad) → (bad = true ∨ s.feOutAt n (orbit, hitBucket w) = true) → ∃ t, exec
    (.hitMerge n late) s = .next t ∧ some t.chans = (s.nextHit n).map (fun x => x.2.2.2.chans) ∧ Frame [.chans, .dies]
    [] s t) ∧
  (∀ (s : State) (markers : List Marker), markers.length = 3 → s.mt.running = true → s.ringHeld = false →
    (s.store.lastSealed = none ∨ s.store.lastSealed = some (subBkt s.mt.nb s.now 65)) → 0 < s.mt.nb → s.mt.nb ≤ 65536
    → s.mt.bucket < s.mt.nb → s.mt.orbit < 2 ^ 32 →
    let b := subBkt s.mt.nb s.now 64
    ∃ t, exec (.bucketSeal markers) s = .next t ∧ t.store.lastSealed = some b ∧ (t.desc (s.slot b)).valid = true ∧
      (t.desc (s.slot b)).orbit = b.1 ∧ (t.desc (s.slot b)).bucket = b.2 ∧ (t.desc (s.slot b)).feAbsent = s.absentMask
      b markers ∧ t.store.sort = s.store.sort.filter (fun h => !(h.orbit == b.1 && hitBucket h.word == b.2)) ∧
      PartFrame [.evReq, .store, .rc] s t) ∧
  (∀ (s : State) (markers : List Marker), (s.ringHeld = true ∨ s.mt.running = false) → exec (.bucketSeal markers) s =
    .next (s))

/-- STORE_ROW_WRITE of row r that the rebuilt free list still gives, with banks in service: one hit for each bank in
service is written to that bank's entry of the row, the rest wait; the row's link word holds the fill and the banks
with next its own row, the descriptor's tail is the row and its count grows by the hits written; CX_HQ_FREE falls by
1. BUCKET_WRITE_DONE of a bucket without waiting hits sets written of its descriptor and takes it from the write
queue. AGE_OUT while the ring runs ends the bucket 64 slots ahead of the current one: without pins its rows return to
the free list; with pins its descriptor moves to the lowest free place of the keep table, with keep.used following; a
stopped ring ages nothing out. -/
def Obligations.RowsAreWrittenSealedAndAgedOut : Prop :=
  (∀ (s : State) (row k : Nat) (q : WaitBkt) (rest : List WaitBkt), row < 1048576 → s.mt.running = true → s.store.wq =
    q :: rest → q.hits ≠ [] → banksOf (s.get CX_HQ_BANKS_in_service) ≠ [] → 0 < s.store.fresh → Sparse.has row
    s.store.taken = false → (s.desc q.slot).count = 0 → k < q.hits.length → k < (banksOf (s.get
    CX_HQ_BANKS_in_service)).length →
    let banks := banksOf (s.get CX_HQ_BANKS_in_service)
    let n := min q.hits.length banks.length
    ∃ t, exec (.storeRowWrite row) s = .next t ∧ t.store.wq = { q with hits := q.hits.drop n } :: rest ∧ (t.desc
      q.slot).head = row ∧ (t.desc q.slot).tail = row ∧ (t.desc q.slot).count = n ∧ t.link row = n * 2 ^ 36 + s.get
      CX_HQ_BANKS_in_service * 2 ^ 20 + row ∧ Sparse.get 0 (2 ^ 20 * banks.getD k 0 + row) t.store.entries =
      q.hits.getD k 0 ∧ t.get CX_HQ_FREE_rows = (s.freeRows - 1) % 2 ^ 21 ∧ Sparse.has row t.store.taken = true ∧
      Frame [.store, .prot, .evReq] [CX_HQ_FREE_rows, CX_HQ_STATUS_low, MG_EVLOG_merged] s t) ∧
  (∀ (s : State) (q : WaitBkt) (rest : List WaitBkt), s.mt.running = true → s.store.wq = q :: rest → q.hits = [] →
    (s.desc q.slot).valid = true → ∃ t, exec .bucketWriteDone s = .next t ∧ t.store.wq = rest ∧ (t.desc
    q.slot).written = true ∧ (t.desc q.slot).count = (s.desc q.slot).count ∧ t.store.entries = s.store.entries ∧
    t.store.links = s.store.links ∧ t.csr = s.csr ∧ PartFrame [.evReq, .store, .rc] s t) ∧
  (∀ (s : State), s.ringHeld = false → s.mt.running = true → (s.desc ((s.slot s.now + 64) % 32768)).valid = true →
    (s.desc ((s.slot s.now + 64) % 32768)).pins = 0 →
    let k := (s.slot s.now + 64) % 32768
    ∃ t, exec (.ageOut false none) s = .next t ∧ (t.desc k).valid = false ∧ t.store.freed = s.store.freed ++
      (((s.rowsOf (s.desc k)).map (·.1)).filter fun r => !Sparse.has r s.store.disabled) ∧ t.get CX_HQ_FREE_rows =
      (s.store.fresh + t.store.freed.length) % 2 ^ 21 ∧ Frame [.store, .prot, .evReq] [CX_HQ_FREE_rows,
      CX_HQ_STATUS_low, CX_HQ_POISON_aged, CX_HQ_DEPTH_min, MG_EVLOG_merged] s t) ∧
  (∀ (s : State) (p : Nat), s.ringHeld = false → s.mt.running = true → (s.desc ((s.slot s.now + 64) % 32768)).valid =
    true → (s.desc ((s.slot s.now + 64) % 32768)).pins ≠ 0 → p < 4096 → Sparse.has p s.store.keep = false → (∀ q < p,
    Sparse.has q s.store.keep = true) →
    let k := (s.slot s.now + 64) % 32768
    ∃ t, exec (.ageOut false none) s = .next t ∧ (t.desc k).valid = false ∧ Sparse.get Desc.clear p t.store.keep =
      s.desc k ∧ t.store.freed = s.store.freed ∧ t.get CX_HQ_KEEP_used = t.store.keep.length % 2 ^
      CX_HQ_KEEP_used.width ∧ Frame [.store] [CX_HQ_KEEP_used, CX_HQ_DEPTH_min] s t) ∧
  (∀ (s : State) (desc : Bool) (link : Option Nat), s.ringHeld = true → link.all (fun r => decide (r < 2 ^ 20)) = true
    → exec (.ageOut desc link) s = .next (s))

/-- HQ_FLUSH during acquisition is refused (refused set, event 72) and changes nothing else; while acquisition is
stopped and the domain runs a flush begins at the next bucket edge: every descriptor, the keep table, the sort buffer,
the write queue and valid-from are cleared and flushing is set; a domain that stands still has no edge and begins
none. FLUSH_DONE of a flush under way clears flushing, restarts a stopped ring, frees every row not disabled
(CX_HQ_FREE follows), makes store_ready follow the banks still being cleared, with event 71 where it goes to 1, and
ends a freeze that was triggered or frozen. DEPTH_RESET stores 32,704 in min. BANK_RETIRE that would leave a die
without a bank is refused; otherwise retire is stored and at the next bucket edge (at once without machine time, the
model's choice, assumption 51) the banks retired leave in_service and the ones wanted back begin to be cleared.
BANK_CLEAR_DONE empties the bank, which joins in_service at the next bucket edge with event 403 + 24·die. ROW_SPARED
enters the half-row in the next place of the spare map and sets spared. -/
def Obligations.FlushesDepthBanksAndSpareRows : Prop :=
  (∀ (s : State), s.acq = true → exec .hqFlush s = .next (s.flag CX_HQ_STATUS_refused 72)) ∧
  (∀ (s : State), s.acq = false → s.mt.running = true → exec .hqFlush s = .next
    ({ s with mt := { s.mt with edge := s.mt.edge ++ [.flush] } })) ∧
  (∀ (s : State), s.acq = false → s.mt.running = false → exec .hqFlush s = .next (s)) ∧
  (∀ (s : State), s.pending = [] → s.mt.running = true → s.mt.bucket + 1 < s.mt.nb → s.mt.edge = [.flush] →
    s.tg.arrived = [] → s.calMay CX_CAL_EN_enable = false → s.get CX_MT_STATUS_state ≠ 3 → s.mt.held = false → ∃ t,
    step s = .next t ∧ t.get CX_HQ_STATUS_flushing = 1 ∧ t.get CX_HQ_VALID_BT_valid = 0 ∧ t.get CX_HQ_KEEP_used = 0 ∧
    t.store.desc = [] ∧ t.store.keep = [] ∧ t.store.sort = [] ∧ t.store.wq = [] ∧ t.store.stopped = s.store.stopped ∧
    t.store.lastSealed = none ∧ Frame [.mt, .clock, .store, .rc, .prot] [CX_HQ_STATUS_flushing, CX_HQ_VALID_BT_valid,
    CX_HQ_KEEP_used] s t) ∧
  (∀ (s : State), s.mt.running = true → s.on CX_HQ_STATUS_flushing = true → ∃ t, exec .flushDone s = .next t ∧ t.get
    CX_HQ_STATUS_flushing = 0 ∧ t.store.everFlushed = true ∧ t.store.stopped = false ∧ t.store.fresh = 1048576 -
    s.store.disabled.length ∧ t.get CX_HQ_FREE_rows = (t.store.fresh + s.store.freed.length) % 2 ^ 21 ∧ (t.get
    CX_HQ_STATUS_store_ready = (if s.store.commitClear = 0 then 1 else 0)) ∧ (t.get RC_FREEZE_STATUS_state = (if 2 ≤
    s.get RC_FREEZE_STATUS_state then 0 else s.get RC_FREEZE_STATUS_state)) ∧ ((s.on CX_HQ_STATUS_store_ready = false
    → s.store.commitClear = 0 → Sparse.has 71 t.evReq = true)) ∧ Frame [.store, .prot, .evReq, .str, .free]
    [CX_HQ_STATUS_flushing, CX_HQ_STATUS_store_ready, CX_HQ_FREE_rows, CX_HQ_CHAIN_leaked, RC_FREEZE_STATUS_state,
    RC_FREEZE_LOST_count, RC_BUSY_busy, MG_EVLOG_merged] s t) ∧
  (∀ (s : State), exec .depthReset s = .next (s.set CX_HQ_DEPTH_min 32704)) ∧
  (∀ (s : State) (mask : Nat), mask < 65536 → (Nat.land (smBanks s.shadowRd) (0xFFFF - mask) % 256 = 0 ∨ Nat.land
    (smBanks s.shadowRd) (0xFFFF - mask) / 256 = 0) → exec (.bankRetire mask) s = .next (s.flag CX_HQ_STATUS_refused
    72)) ∧
  (∀ (s : State) (mask : Nat), mask < 65536 → Nat.land (smBanks s.shadowRd) (0xFFFF - mask) % 256 ≠ 0 → Nat.land
    (smBanks s.shadowRd) (0xFFFF - mask) / 256 ≠ 0 → s.mt.running = true →
    let u := (s.set CX_HQ_BANKS_retire mask).critNext 23
    exec (.bankRetire mask) s = .next ({ u with mt := { u.mt with edge := u.mt.edge ++ [.retire] } })) ∧
  (∀ (s : State) (mask : Nat), mask < 65536 → Nat.land (smBanks s.shadowRd) (0xFFFF - mask) % 256 ≠ 0 → Nat.land
    (smBanks s.shadowRd) (0xFFFF - mask) / 256 ≠ 0 → s.mt.running = false → s.svc.assay = none →
    let want := Nat.land (smBanks s.shadowRd) (0xFFFF - mask)
    let stay := Nat.land (s.get CX_HQ_BANKS_in_service) want
    ∃ t, exec (.bankRetire mask) s = .next t ∧ t.get CX_HQ_BANKS_retire = mask ∧ t.get CX_HQ_BANKS_in_service = stay %
      2 ^ 16 ∧ t.get (HS_STATUS_in_service 0) = stay % 256 ∧ t.get (HS_STATUS_in_service 1) = stay / 256 % 256 ∧ t.get
      (HS_STATUS_bank_init 0) + 256 * t.get (HS_STATUS_bank_init 1) = Nat.land want (0xFFFF - stay % 2 ^ 16) ∧ Frame
      [.store, .prot] [CX_HQ_BANKS_retire, CX_HQ_BANKS_in_service, HS_STATUS_in_service 0, HS_STATUS_in_service 1,
      HS_STATUS_bank_init 0, HS_STATUS_bank_init 1, CX_HQ_STATUS_store_ready] s t) ∧
  (∀ (s : State), s.pending = [] → s.mt.running = true → s.mt.bucket + 1 < s.mt.nb → s.mt.edge = [.retire] →
    s.tg.arrived = [] → s.calMay CX_CAL_EN_enable = false → s.get CX_MT_STATUS_state ≠ 3 → s.mt.held = false →
    s.svc.assay = none → s.get CX_HQ_BANKS_retire < 65536 →
    let want := Nat.land (smBanks s.shadowRd) (0xFFFF - s.get CX_HQ_BANKS_retire)
    let stay := Nat.land (s.get CX_HQ_BANKS_in_service) want
    ∃ t, step s = .next t ∧ t.get CX_HQ_BANKS_in_service = stay % 2 ^ 16 ∧ t.get (HS_STATUS_in_service 0) = stay % 256
      ∧ t.get (HS_STATUS_in_service 1) = stay / 256 % 256 ∧ t.get (HS_STATUS_bank_init 0) + 256 * t.get
      (HS_STATUS_bank_init 1) = Nat.land want (0xFFFF - stay % 2 ^ 16) ∧ Frame [.mt, .clock, .store]
      [CX_HQ_BANKS_in_service, HS_STATUS_in_service 0, HS_STATUS_in_service 1, HS_STATUS_bank_init 0,
      HS_STATUS_bank_init 1, CX_HQ_STATUS_store_ready] s t) ∧
  (∀ (s : State) (bank : Nat), bank < 16 → s.mt.running = true → bit s.clearing bank = true → ∃ t, exec
    (.bankClearDone bank) s = .next t ∧ bit t.clearing bank = false ∧ (t.store.entries.all fun e => e.1 / 2 ^ 20 !=
    bank) = true ∧ t.mt = { s.mt with edge := s.mt.edge ++ [.join bank] } ∧ Frame [.store, .prot, .svc, .mt]
    [CX_HQ_BANKS_in_service, HS_STATUS_in_service 0, HS_STATUS_in_service 1, HS_STATUS_bank_init 0,
    HS_STATUS_bank_init 1, CX_HQ_STATUS_store_ready] s t) ∧
  (∀ (s : State) (bank : Nat), s.pending = [] → s.mt.running = true → s.mt.bucket + 1 < s.mt.nb → bank < 16 →
    s.mt.edge = [.join bank] → s.tg.arrived = [] → s.calMay CX_CAL_EN_enable = false → s.get CX_MT_STATUS_state ≠ 3 →
    s.mt.held = false → bit s.mapBanks bank = true → ∃ t, step s = .next t ∧ bit (t.get CX_HQ_BANKS_in_service) bank =
    true ∧ Sparse.has (403 + 24 * (bank / 8)) t.evReq = true ∧ Frame [.mt, .clock, .store, .evReq]
    [CX_HQ_BANKS_in_service, HS_STATUS_in_service 0, HS_STATUS_in_service 1, HS_STATUS_bank_init 0,
    HS_STATUS_bank_init 1, CX_HQ_STATUS_store_ready, MG_EVLOG_merged] s t) ∧
  (∀ (s : State) (die row : Nat), die < 2 → row < 1048576 → s.mt.running = true → s.store.spareDue.contains (die, row)
    = true → s.get (HS_SPARE_used die) < 1024 →
    let j := s.get (HS_SPARE_used die)
    ∃ t, exec (.rowSpared die row) s = .next t ∧ t.get (HS_SPARE_MAP_valid die j) = 1 ∧ t.get (HS_SPARE_MAP_row die j)
      = row ∧ t.get (HS_SPARE_used die) = j + 1 ∧ t.on (HS_STATUS_spared die) = true ∧ t.store.spareDue.contains (die,
      row) = false ∧ Frame [.store, .evReq] [HS_SPARE_MAP_valid die (s.get (HS_SPARE_used die)), HS_SPARE_MAP_row die
      (s.get (HS_SPARE_used die)), HS_SPARE_used die, HS_STATUS_spared die, MG_EVLOG_merged] s t)

/-- MAP_PERIOD_CLOSE while the domain runs evaluates the period: a chaser that is not in use or is by-passed stands in
state 0 with out 0; one in use, its timers stopped, takes the first enabled transition of its state whose condition
holds in the period, with the out bits of the period before, and goes to that transition's next state and out, or
keeps its state with out 0; the maps of the period are dropped. CHASER_TIMER_EXPIRY, while acquisition runs, of a
timer at 1 of a chaser in use and not by-passed stops it and sets its expired bit. ACCEPT_COMMAND of the next accept
of a released frame, or of one that no released frame carried (the model's choice), while acquisition runs and stages
7 to 9 are in service joins the queue as an accept of class [63:60] and number [59:20], with the bucket [19:4] at its
latest occurrence not later than lat_min before now, or as a bad bucket, counted, where it is not below N_B; while
acquisition is stopped it is counted and dropped. TG_LOCAL_READ latches bits 39:32 of the next local number in
TG_LOCAL_HI. -/
def Obligations.MapPeriodsChasersAndAccepts : Prop :=
  (∀ (s : State) (orbit bucket absent c : Nat), orbit < 2 ^ 32 → bucket < 65536 → absent < 8 → c < 32 → s.mt.running =
    true → s.evaluates (orbit, bucket) = true → s.chaserRuns c = true → s.timer c 0 = 0 → s.timer c 1 = 0 →
    let outs : Nat → Nat := fun d => s.get (TG_CHSTAT_out d)
    let pick := s.chaserPick (orbit, bucket) outs c
    ∃ t, exec (.mapPeriodClose orbit bucket absent []) s = .next t ∧ t.get (TG_CHSTAT_state c) = ((pick.map fun k =>
      cdNext (chCond s.rd c k)).getD (s.get (TG_CHSTAT_state c))) % 2 ^ (TG_CHSTAT_state c).width ∧ t.get
      (TG_CHSTAT_out c) = ((pick.map fun k => cdOut (chCond s.rd c k)).getD 0) % 256 ∧ t.tg.maps = s.tg.maps.filter
      (fun m => s.before (orbit, bucket) (m.orbit, m.bucket)) ∧ BlockFrame [.evReq, .tg] [(0x10002000, 0x10002FFF),
      (0x1000C210, 0x1000C210)] s t) ∧
  (∀ (s : State) (orbit bucket absent c : Nat), orbit < 2 ^ 32 → bucket < 65536 → absent < 8 → c < 32 → s.mt.running =
    true → s.evaluates (orbit, bucket) = true → s.chaserRuns c = false → ∃ t, exec (.mapPeriodClose orbit bucket
    absent []) s = .next t ∧ t.get (TG_CHSTAT_state c) = 0 ∧ t.get (TG_CHSTAT_out c) = 0) ∧
  (∀ (s : State) (c i : Nat), c < 32 → i < 2 → s.timer c i = 1 → s.mt.running = true → s.acq = true → s.stage6Out =
    false → s.chaserRuns c = true → exec (.chaserTimerExpiry c i) s = .next
    (({ s with tg := { s.tg with timers := Sparse.put 0 (2 * c + i) 0 s.tg.timers } } : State).set (if i = 0 then
    TG_CHSTAT_t0_exp c else TG_CHSTAT_t1_exp c) 1)) ∧
  (∀ (s : State) (body : Nat), body < 2 ^ 64 → s.mt.running = true → (s.tg.arrived.contains body = false ∨
    s.tg.arrived.head? = some body) → s.acq = true → s.stages79Out = false → body / 2 ^ 4 % 65536 < s.mt.nb →
    let at_ := latestAt (subBkt s.mt.nb s.now (s.get TG_ACCEPT_lat_min)) (body / 2 ^ 4 % 65536)
    let a : Trig := ⟨true, body / 2 ^ 60, body / 2 ^ 20 % 2 ^ 40, at_.1, at_.2, false, s.mt.orbit, s.mt.bucket⟩
    ∃ t, exec (.acceptCommand body) s = .next t ∧ t.tg.arrived = s.tg.arrived.erase body ∧ t.tg.queue = joinAccept a
      s.tg.queue ∧ t.get TG_QUEUE_used = t.tg.queue.length % 2 ^ TG_QUEUE_used.width ∧ Frame [.tg] [TG_QUEUE_used,
      TG_QUEUE_peak] s t) ∧
  (∀ (s : State) (body : Nat), body < 2 ^ 64 → s.mt.running = true → (s.tg.arrived.contains body = false ∨
    s.tg.arrived.head? = some body) → s.acq = true → s.stages79Out = false → s.mt.nb ≤ body / 2 ^ 4 % 65536 → ∃ t,
    exec (.acceptCommand body) s = .next t ∧ (t.tg.queue.any fun e => e.accept && e.bad) = true ∧ t.get TG_CNT_ACC_bad
    = min (s.get TG_CNT_ACC_bad + 1) (2 ^ TG_CNT_ACC_bad.width - 1) ∧ t.on TG_STATUS_acc_bad = true ∧ Frame [.tg,
    .evReq] [TG_QUEUE_used, TG_QUEUE_peak, TG_CNT_ACC_bad, TG_STATUS_acc_bad, MG_EVLOG_merged] s t) ∧
  (∀ (s : State) (body : Nat), body < 2 ^ 64 → s.mt.running = true → s.tg.arrived.contains body = false → s.acq =
    false → exec (.acceptCommand body) s = .next ((s.count TG_CNT_ACC_stopped).flag TG_STATUS_acc_stopped 84)) ∧
  (∀ (s : State), exec .tgLocalRead s = .next (s.set TG_LOCAL_HI_number (s.tg.next / 2 ^ 32)))

/-- RECORD_ENGINE_TAKE takes the first trigger of the queue. Where a refusal cause of R266 holds, the refusal is
counted, RC_REFUSE_LAST holds class and cause, and while the refusal queue is not full it grows by 1 and the send
order gains a refused entry with the trigger's class and number, no context and its fragment ready. Where none holds,
the context free with the lowest number (the model's choice) is taken and the record opens on the window from pre
buckets before to post buckets after the trigger's, RC_CLASS_CNT of its class counts one and the send order gains its
entry; in re-arm with policy 2 it is marked overlapping, with policy 1 its window begins after the last record's where
that comes later; a trigger with a bad bucket opens an empty window. DUMP_GO stores class and length; outside a freeze
it is refused with dump_refused and nothing else. -/
def Obligations.TriggersOpenOrAreRefused : Prop :=
  (∀ (s : State) (x : Trig) (rest : List Trig) (cause : Nat), s.mt.running = true → s.tg.queue = x :: rest →
    s.refusalCause x (s.inRearm x) = some cause → s.get RC_RF_used < 4096 → ∃ t, exec .recordEngineTake s = .next t ∧
    t.tg.queue = rest ∧ t.get RC_CNT_REFUSE_count = min (s.get RC_CNT_REFUSE_count + 1) (2 ^ RC_CNT_REFUSE_count.width
    - 1) ∧ t.get RC_REFUSE_LAST_class = x.cls % 16 ∧ t.get RC_REFUSE_LAST_cause = cause % 2 ^
    RC_REFUSE_LAST_cause.width ∧ t.get RC_RF_used = s.get RC_RF_used + 1 ∧ t.rc = s.rc ∧ (t.str.order.getLast?).map
    (fun f => (f.cls, f.number, f.refused, f.ctx, f.body.isSome)) = some (x.cls, x.number, true, none, true) ∧
    t.str.order.length = s.str.order.length + 1 ∧ Frame [.tg, .str, .evReq, .free] [TG_QUEUE_used, TG_QUEUE_peak,
    RC_CNT_REFUSE_count, RC_REFUSE_LAST_class, RC_REFUSE_LAST_cause, RC_STATUS_refused, RC_RF_used, RC_BUSY_busy,
    MG_EVLOG_merged] s t) ∧
  (∀ (s : State) (x : Trig) (rest : List Trig) (ctx : Nat), s.mt.running = true → s.tg.queue = x :: rest → x.bad =
    false → s.inRearm x = none → s.refusalCause x none = none → ctx < 10240 → Sparse.has ctx s.rc.ctxUsed = false → (∀
    c < ctx, Sparse.has c s.rc.ctxUsed = true) →
    let first := subBkt s.mt.nb (x.orbit, x.bucket) (tcPre s.rd x.cls)
    let last := addBkt s.mt.nb (x.orbit, x.bucket) (tcPost s.rd x.cls)
    ∃ t, exec .recordEngineTake s = .next t ∧ t.tg.queue = rest ∧ ((t.rc.recs.getLast?).map (fun r => [r.ctx,
      r.origin, r.cls, r.number, r.winO, r.winB, r.len]) = some [ctx, if x.accept then 0 else 1, x.cls, x.number,
      first.1, first.2, (diffBkt s.mt.nb last first + 1).toNat]) ∧ t.rc.recs.length = s.rc.recs.length + 1 ∧
      Sparse.has ctx t.rc.ctxUsed = true ∧ t.get (RC_CLASS_CNT_count x.cls) = min (s.get (RC_CLASS_CNT_count x.cls) +
      1) (2 ^ (RC_CLASS_CNT_count x.cls).width - 1) ∧ t.str.order.length = s.str.order.length + 1 ∧ Frame [.tg, .rc,
      .str, .store, .prot, .evReq, .free] [TG_QUEUE_used, TG_QUEUE_peak, RC_CLASS_CNT_count x.cls, RC_CTX_free,
      RC_CTX_min_free, RC_BUSY_busy, MG_EVLOG_merged] s t) ∧
  (∀ (s : State) (x : Trig) (rest : List Trig) (ctx : Nat) (l : LastRec), s.mt.running = true → s.tg.queue = x :: rest
    → x.bad = false → s.inRearm x = some l → tcPolicy s.rd x.cls = 2 → s.refusalCause x (some l) = none → ctx < 10240
    → Sparse.has ctx s.rc.ctxUsed = false → (∀ c < ctx, Sparse.has c s.rc.ctxUsed = true) →
    let first := subBkt s.mt.nb (x.orbit, x.bucket) (tcPre s.rd x.cls)
    let last := addBkt s.mt.nb (x.orbit, x.bucket) (tcPost s.rd x.cls)
    ∃ t, exec .recordEngineTake s = .next t ∧ t.tg.queue = rest ∧ ((t.rc.recs.getLast?).map (fun r => [r.ctx,
      r.origin, r.cls, r.number, r.winO, r.winB, r.len]) = some [ctx, if x.accept then 0 else 1, x.cls, x.number,
      first.1, first.2, (diffBkt s.mt.nb last first + 1).toNat]) ∧ (t.rc.recs.getLast?).map (·.overlap) = some true ∧
      Frame [.tg, .rc, .str, .store, .prot, .evReq, .free] [TG_QUEUE_used, TG_QUEUE_peak, RC_CLASS_CNT_count x.cls,
      RC_CTX_free, RC_CTX_min_free, RC_BUSY_busy, MG_EVLOG_merged] s t) ∧
  (∀ (s : State) (x : Trig) (rest : List Trig) (ctx : Nat) (l : LastRec), s.mt.running = true → s.tg.queue = x :: rest
    → x.bad = false → s.inRearm x = some l → tcPolicy s.rd x.cls = 1 → s.refusalCause x (some l) = none → s.before
    (subBkt s.mt.nb (x.orbit, x.bucket) (tcPre s.rd x.cls)) (addBkt s.mt.nb (l.endO, l.endB) 1) = true → ctx < 10240 →
    Sparse.has ctx s.rc.ctxUsed = false → (∀ c < ctx, Sparse.has c s.rc.ctxUsed = true) →
    let start := addBkt s.mt.nb (l.endO, l.endB) 1
    let last := addBkt s.mt.nb (x.orbit, x.bucket) (tcPost s.rd x.cls)
    ∃ t, exec .recordEngineTake s = .next t ∧ t.tg.queue = rest ∧ ((t.rc.recs.getLast?).map (fun r => [r.ctx,
      r.origin, r.cls, r.number, r.winO, r.winB, r.len]) = some [ctx, if x.accept then 0 else 1, x.cls, x.number,
      start.1, start.2, (diffBkt s.mt.nb last start + 1).toNat]) ∧ (t.rc.recs.getLast?).map (·.trimmed) = some true ∧
      Frame [.tg, .rc, .str, .store, .prot, .evReq, .free] [TG_QUEUE_used, TG_QUEUE_peak, RC_CLASS_CNT_count x.cls,
      RC_CTX_free, RC_CTX_min_free, RC_BUSY_busy, MG_EVLOG_merged] s t) ∧
  (∀ (s : State) (x : Trig) (rest : List Trig) (ctx : Nat), s.mt.running = true → s.tg.queue = x :: rest → x.bad =
    true → s.refusalCause x none = none → ctx < 10240 → Sparse.has ctx s.rc.ctxUsed = false → (∀ c < ctx, Sparse.has c
    s.rc.ctxUsed = true) → ∃ t, exec .recordEngineTake s = .next t ∧ t.tg.queue = rest ∧ ((t.rc.recs.getLast?).map
    (fun r => [r.ctx, r.origin, r.cls, r.number, r.winO, r.winB, r.len]) = some [ctx, if x.accept then 0 else 1,
    x.cls, x.number, x.orbit, x.bucket, 0]) ∧ (t.rc.recs.getLast?).map (·.bad) = some true ∧ Frame [.tg, .rc, .str,
    .store, .prot, .evReq, .free] [TG_QUEUE_used, TG_QUEUE_peak, RC_CLASS_CNT_count x.cls, RC_CTX_free,
    RC_CTX_min_free, RC_BUSY_busy, MG_EVLOG_merged] s t) ∧
  (∀ (s : State) (cls len : Nat), cls < 16 → len < 2 ^ RC_DUMP_CTRL_len.width → s.get RC_FREEZE_STATUS_state ≠ 3 →
    exec (.dumpGo cls len) s = .next (((s.set RC_DUMP_CTRL_class cls).set RC_DUMP_CTRL_len len).set
    RC_STATUS_dump_refused 1)) ∧
  (∀ (s : State) (cls len ctx : Nat), cls < 16 → len < 2 ^ RC_DUMP_CTRL_len.width → s.get RC_FREEZE_STATUS_state = 3 →
    s.on RC_DUMP_CTRL_running = false → s.stages79Out = false → tcEnable s.rd cls = true → s.get RC_CTX_free ≠ 0 → ctx
    < 10240 → Sparse.has ctx s.rc.ctxUsed = false → (∀ c < ctx, Sparse.has c s.rc.ctxUsed = true) → ∃ t, exec (.dumpGo
    cls len) s = .next t ∧ t.get RC_DUMP_CTRL_running = 1 ∧ t.rc.dump = some ctx ∧ (t.rc.recs.getLast?).map (fun r =>
    ([r.ctx, r.origin, r.cls, r.number, r.winO, r.winB, r.len], r.frozen)) = some ([ctx, 2, cls, s.tg.next, s.get
    RC_DUMP_ORBIT_orbit, s.get RC_DUMP_BT_bucket, len + 1], true) ∧ t.tg.next = (s.tg.next + 1) % 2 ^ 40)

/-- RECORD_BUCKET_READ of the record opened earliest of those with a bucket to read, that bucket present, reads it (a
read named for another record is no read, the model's choice): the next bucket is one further, the bucket's included
hits join the record, damaged grows by the hits the read lost and the hits the bucket had dropped, the holdover and
absent-die marks are taken over. RECORD_COMPLETE of a record that waits for no bucket, with a block of the fragment
buffer free, takes it from the open records and makes its fragment ready in its entry of the send order.
HIST_SWAP_WRITE starts the clearing at the next bucket edge (at once without machine time, the model's choice,
assumption 51), or is refused during one; HIST_SWAP_DONE swaps the banks, clears the bank that becomes active and
raises event 105. FREEZE_ARM in idle or armed arms with its post; FREEZE_DISARM of an armed freeze returns to idle;
FREEZE_FORCE in idle or armed triggers with cause 4 on the last bucket sealed; RING_STOP at or after the edge that
opens b_F + P + 65 stops the ring, counts the buffered hits lost, ends the open records frozen and raises event 102.
-/
def Obligations.RecordsReadCompleteAndFreeze : Prop :=
  (∀ (s : State) (ctx i : Nat) (r : Rec) (a : DescAt) (d : Desc), ctx < 10240 → s.mt.running = true → s.recServed =
    some r → r.ctx = ctx → s.findRec ctx = some r → r.ready = some i → s.findDesc (s.winBkt r i) = some (a, d) →
    let x := s.readBucket d
    ∃ t, exec (.recordBucketRead ctx ⟨false, none, [], false, [], []⟩) s = .next t ∧ (t.findRec ctx).map (·.next) =
      some (i + 1) ∧ (t.findRec ctx).map (fun q => q.hits.map (·.2)) = some (r.hits.map (·.2) ++ x.1.filter
      r.includes) ∧ (t.findRec ctx).map (·.damaged) = some (r.damaged + x.2.1 + d.dropped) ∧ (t.findRec ctx).map
      (·.holdover) = some (r.holdover || d.holdover) ∧ (t.findRec ctx).map (·.feAbsent) = some (Nat.lor r.feAbsent
      d.feAbsent) ∧ (t.findRec ctx).map (fun q => q.pins.contains i) = some false ∧ PartFrame [.evReq, .store, .rc,
      .prot, .free, .str] s t) ∧
  (∀ (s : State) (ctx : Nat) (r : Rec), s.recServed = some r → r.ctx ≠ ctx → exec (.recordBucketRead ctx ⟨false, none,
    [], false, [], []⟩) s = .next (s)) ∧
  (∀ (s : State) (ctx : Nat) (r : Rec), ctx < 10240 → s.mt.running = true → s.findRec ctx = some r → r.awaits = false
    → s.get RC_FBUF_free ≠ 0 → ∃ t, exec (.recordComplete ctx) s = .next t ∧ t.rc.recs = s.rc.recs.filter (fun q =>
    q.ctx != ctx) ∧ (t.str.order.filter fun f => f.id == r.id).all (fun f => f.body == some (s.buildRec r).1) = true ∧
    t.get RC_FBUF_free = (s.get RC_FBUF_free - (s.buildRec r).2.1) % 2 ^ RC_FBUF_free.width ∧ PartFrame [.evReq, .rc,
    .str, .store, .prot, .free] s t) ∧
  (∀ (s : State), s.on RC_HIST_CTRL_clearing = true → exec .histSwapWrite s = .next (s.set RC_HIST_CTRL_refused 1)) ∧
  (∀ (s : State), s.on RC_HIST_CTRL_clearing = false → s.mt.edge.contains .swap = false → s.mt.running = true → exec
    .histSwapWrite s = .next ({ s with mt := { s.mt with edge := s.mt.edge ++ [.swap] } })) ∧
  (∀ (s : State), s.on RC_HIST_CTRL_clearing = false → s.mt.edge.contains .swap = false → s.mt.running = false → exec
    .histSwapWrite s = .next ({ (s.set RC_HIST_CTRL_clearing 1) with rc := { s.rc with clearAt := s.clock } })) ∧
  (∀ (s : State), s.pending = [] → s.mt.running = true → s.mt.bucket + 1 < s.mt.nb → s.mt.edge = [.swap] →
    s.tg.arrived = [] → s.calMay CX_CAL_EN_enable = false → s.get CX_MT_STATUS_state ≠ 3 → s.mt.held = false → ∃ t,
    step s = .next t ∧ t.get RC_HIST_CTRL_clearing = 1 ∧ t.rc = { s.rc with clearAt := s.clock + 1 } ∧ Frame [.mt,
    .clock, .rc] [RC_HIST_CTRL_clearing] s t) ∧
  (∀ (s : State), s.mt.running = true → s.on RC_HIST_CTRL_clearing = true → ∃ t, exec .histSwapDone s = .next t ∧
    t.get RC_HIST_CTRL_clearing = 0 ∧ t.get RC_HIST_CTRL_bank = 1 - s.get RC_HIST_CTRL_bank ∧ ((if s.get
    RC_HIST_CTRL_bank = 0 then t.rc.hist0 = [] ∧ t.rc.hist1 = s.rc.hist1 else t.rc.hist1 = [] ∧ t.rc.hist0 =
    s.rc.hist0)) ∧ Sparse.has 105 t.evReq = true ∧ Frame [.rc, .evReq] [RC_HIST_CTRL_clearing, RC_HIST_CTRL_bank,
    MG_EVLOG_merged] s t) ∧
  (∀ (s : State) (post : Nat), post < 2 ^ RC_FREEZE_CTRL_post.width → s.get RC_FREEZE_STATUS_state ≤ 1 → exec
    (.freezeArm post) s = .next (((s.set RC_FREEZE_CTRL_post post).set RC_FREEZE_CTRL_arm 1).set
    RC_FREEZE_STATUS_state 1)) ∧
  (∀ (s : State) (post : Nat), post < 2 ^ RC_FREEZE_CTRL_post.width → s.get RC_FREEZE_STATUS_state = 1 → exec
    (.freezeDisarm post) s = .next (((s.set RC_FREEZE_CTRL_post post).set RC_FREEZE_CTRL_arm 0).set
    RC_FREEZE_STATUS_state 0)) ∧
  (∀ (s : State) (b : Nat × Nat), s.get RC_FREEZE_STATUS_state ≤ 1 → s.store.lastSealed = some b → ∃ t, exec
    .freezeForce s = .next t ∧ t.rc = { s.rc with stopAt := s.clockAt b + s.get RC_FREEZE_CTRL_post + 65 } ∧ t.get
    RC_FREEZE_STATUS_state = 2 ∧ t.get RC_FREEZE_STATUS_cause = 4 ∧ t.get RC_FREEZE_STATUS_bucket = b.2 % 65536 ∧
    t.get RC_FREEZE_ORBIT_orbit = b.1 % 2 ^ 32 ∧ t.get RC_FREEZE_CTRL_arm = 0 ∧ Sparse.has 103 t.evReq = true ∧ Frame
    [.rc, .evReq] [RC_FREEZE_STATUS_state, RC_FREEZE_STATUS_cause, RC_FREEZE_STATUS_region, RC_FREEZE_STATUS_bucket,
    RC_FREEZE_ORBIT_orbit, RC_FREEZE_CTRL_arm, MG_EVLOG_merged] s t) ∧
  (∀ (s : State) (post : Nat), post < 2 ^ RC_FREEZE_CTRL_post.width → 2 ≤ s.get RC_FREEZE_STATUS_state → exec
    (.freezeArm post) s = .next (s.set RC_FREEZE_CTRL_post post)) ∧
  (∀ (s : State), 2 ≤ s.get RC_FREEZE_STATUS_state → exec .freezeForce s = .next (s)) ∧
  (∀ (s : State), s.get RC_FREEZE_STATUS_state = 2 → s.clock < s.rc.stopAt → exec .ringStop s = .next (s)) ∧
  (∀ (s : State), s.mt.running = true → s.get RC_FREEZE_STATUS_state = 2 → s.rc.stopAt ≤ s.clock → ∃ t, exec .ringStop
    s = .next t ∧ t.get RC_FREEZE_STATUS_state = 3 ∧ t.store.stopped = true ∧ t.store.sort = [] ∧ t.get
    RC_FREEZE_LOST_count = min (s.get RC_FREEZE_LOST_count + s.store.sort.length) (2 ^ RC_FREEZE_LOST_count.width - 1)
    ∧ (t.rc.recs.all fun r => r.frozen && r.endAt.isSome) = true ∧ Sparse.has 102 t.evReq = true ∧ (t.get RC_BUSY_busy
    = (if s.on RC_BUSY_busy then s.get RC_BUSY_busy else 1)) ∧ Frame [.store, .rc, .str, .free, .evReq]
    [RC_FREEZE_STATUS_state, RC_FREEZE_LOST_count, RC_BUSY_busy, MG_EVLOG_merged] s t)

/-- BLOCK_SEND on the port of the active data route, with the path started, a lane of the port in service, no loss of
the reference, no block to repeat, the window open and a fragment in hand sends the fragment's next block: at most 32
words, the block start with sequence number, source, fragment sequence, block index, last bit and code 0xA1, the block
end with the word count less one and CRC-32 and code 0xA4, and, off raw Ethernet, the 66-bit units of both and of the
words, scrambled; one more block is numbered and outstanding. CREDIT_RECEIVED with a window above 4,096 is counted bad
and changes no path; one that acknowledges n outstanding blocks drops them and takes the window, and with nak all
blocks left are sent again. RESEND_TIMEOUT on a started path sends all outstanding blocks again. CREDIT_TIMER sends
the credit of the path with the last block received in sequence, the grant and nak, code 0xA2. The scrambler's first
state is a free value; the order of the two sync bits is the model's reading. -/
def Obligations.BlocksLeaveAndAreAcknowledged : Prop :=
  (∀ (s : State) (port : Nat) (f : OutFrag), port < 6 → s.dataUp = some port → s.on CX_ARCH_STATUS_mgmt_backup = false
    → (s.path port).started = true → s.serving port 3 ≠ [] → (s.path port).resend = 0 → (s.path port).out.length <
    (s.path port).window → (s.path port).nextFrag = some f →
    let d := s.path port
    let ws := (f.words.drop (32 * f.next)).take 32
    ∃ t, exec (.blockSend port none) s = .next t ∧ (t.path port).txWords = ws ∧ ((t.path port).txStart = d.nseq %
      65536 * 2 ^ 48 + f.src * 2 ^ 36 + f.fseq * 2 ^ 22 + f.next * 2 ^ 10 + (if f.next + 1 = (f.words.length + 31) /
      32 then 2 ^ 9 else 0) + 0xA1) ∧ (t.path port).txEnd = (ws.length - 1) * 2 ^ 59 + crc32 (wordBytes ws) * 2 ^ 8 +
      0xA4 ∧ ((lrEthernet s.shadowRd port = true ∨ (t.path port).txUnits = wireUnits s.lineSeed.1 (ctrlUnit (t.path
      port).txStart :: ws.map dataUnit ++ [ctrlUnit (t.path port).txEnd]))) ∧ (t.path port).nseq = d.nseq + 1 ∧
      (t.path port).out = d.out ++ [⟨f.key, f.next⟩] ∧ Frame [.str, .evReq, .free] [CX_STR_CNT_resent, RC_BUSY_busy,
      MG_EVLOG_merged] s t) ∧
  (∀ (s : State) (port ack window : Nat) (nak : Bool), port < 6 → ack < 65536 → window < 65536 → 4096 < window →
    (s.path port).started = true → s.fb.dReturn = false → exec (.creditReceived port ack window nak) s = .next
    ((s.count CX_STR_CNT_bad_credit).flag CX_STR_STATUS_credit_err 114)) ∧
  (∀ (s : State) (port ack window n : Nat) (nak : Bool), port < 6 → ack < 65536 → window ≤ 4096 → (s.path
    port).started = true → s.fb.dReturn = false → n ≤ (s.path port).out.length → (s.path port).ack < 65536 → ack =
    ((s.path port).ack + n) % 65536 → n < 65536 → (s.path port).resend ≤ (s.path port).out.length → ∃ t, exec
    (.creditReceived port ack window nak) s = .next t ∧ (t.path port).ack = ack ∧ (t.path port).window = window ∧
    (t.path port).out = (s.path port).out.drop n ∧ ((t.path port).resend = (if nak then (s.path port).out.length - n
    else min (s.path port).resend ((s.path port).out.length - n)))) ∧
  (∀ (s : State) (port : Nat), port < 6 → (s.path port).started = true → ∃ t, exec (.resendTimeout port) s = .next t ∧
    (t.path port).resend = (s.path port).out.length ∧ (t.path port).out = (s.path port).out ∧ Frame [.str] [] s t) ∧
  (∀ (s : State) (port : Nat), port < 6 → (s.path port).started = true → ∃ t, exec (.creditTimer port) s = .next t ∧
    ((t.path port).credit = (s.path port).rxAck * 2 ^ 48 + (if s.dataUp = some port then 0 else min 4096 (s.get
    RC_FBUF_free - 1024)) * 2 ^ 32 + (if (s.path port).rxNak then 2 ^ 31 else 0) + 0xA2) ∧ (t.path port).rxNak = false
    ∧ Frame [.str, .free] [] s t)

/-- BLOCK_RECEIVED on a started path with a lane in service: what fails the checks of R304 or R312 and is to be sent
again is counted, not taken, and told by nak in the credit; a good block with the next sequence number, none waiting
ahead of it, is taken and acknowledged, block 0 of a fragment of several blocks opening the fragment received with its
words and taking a block of the buffer; one further ahead is told by nak on a single lane and waits, keeping its block
of the buffer, on a bonded group. A block start, 1 to 32 data units and the block end that counts them and gives their
CRC-32 pass the checks off raw Ethernet. MERGE_CONTRIBUTION takes the oldest contribution waiting: with merging off it
is forwarded from its port; one for a number with no merge opens a merge of it where more members are expected; the
one that completes its merge builds the merged fragment: one more is counted sent and the merge is no longer open.
MERGE_TIMEOUT of an open merge builds it with what came, counts it sent and timed out and raises event 124. -/
def Obligations.BlocksArriveAndMergesForm : Prop :=
  (∀ (s : State) (port : Nat) (b : BlockIn), port < 6 → b.wf = true → (s.path port).started = true → s.serving port 3
    ≠ [] → rxBlock (lrEthernet s.shadowRd port) b = .bad true → ∃ t, exec (.blockReceived port b) s = .next t ∧ t.get
    CX_STR_RX_bad = min (s.get CX_STR_RX_bad + 1) (2 ^ CX_STR_RX_bad.width - 1) ∧ (t.path port).rxAck = (s.path
    port).rxAck ∧ (t.path port).rxPart = (s.path port).rxPart ∧ (t.path port).credit / 2 ^ 31 % 2 = 1 ∧ Frame [.str,
    .evReq, .free] [CX_STR_RX_bad, MG_EVLOG_merged] s t) ∧
  (∀ (s : State) (port : Nat) (b : BlockIn) (start : Nat) (ws : List Nat), port < 6 → b.wf = true → (s.path
    port).started = true → s.serving port 3 ≠ [] → rxBlock (lrEthernet s.shadowRd port) b = .block start ws → bits
    start 48 16 = ((s.path port).rxAck + 1) % 65536 → bits start 10 12 = 0 → bit start 9 = false → (s.path
    port).rxPart = none → (s.path port).rxHeld = [] → ∃ t, exec (.blockReceived port b) s = .next t ∧ (t.path
    port).rxAck = bits start 48 16 ∧ (t.path port).rxPart = some ⟨bits start 36 12, bits start 22 14, 1, ws⟩ ∧ t.get
    RC_FBUF_free = (s.get RC_FBUF_free - 1) % 2 ^ RC_FBUF_free.width ∧ (t.path port).credit / 2 ^ 48 = bits start 48
    16 ∧ Frame [.str, .evReq, .free] [RC_FBUF_free, RC_BUSY_busy, MG_EVLOG_merged] s t) ∧
  (∀ (s : State) (port : Nat) (b : BlockIn) (start : Nat) (ws : List Nat), port < 6 → b.wf = true → (s.path
    port).started = true → (s.serving port 3).length = 1 → rxBlock (lrEthernet s.shadowRd port) b = .block start ws →
    bits start 48 16 = ((s.path port).rxAck + 2) % 65536 → (s.path port).rxAck < 65536 → ∃ t, exec (.blockReceived
    port b) s = .next t ∧ (t.path port).rxAck = (s.path port).rxAck ∧ (t.path port).rxPart = (s.path port).rxPart ∧
    (t.path port).credit / 2 ^ 31 % 2 = 1 ∧ Frame [.str, .evReq, .free] [RC_BUSY_busy, MG_EVLOG_merged] s t) ∧
  (∀ (s : State) (port : Nat) (b : BlockIn) (start : Nat) (ws : List Nat), port < 6 → b.wf = true → (s.path
    port).started = true → 2 ≤ (s.serving port 3).length → rxBlock (lrEthernet s.shadowRd port) b = .block start ws →
    bits start 48 16 = ((s.path port).rxAck + 2) % 65536 → (s.path port).rxAck < 65536 → (s.path port).rxHeld = [] → ∃
    t, exec (.blockReceived port b) s = .next t ∧ (t.path port).rxAck = (s.path port).rxAck ∧ (t.path port).rxPart =
    (s.path port).rxPart ∧ (t.path port).rxHeld = [(bits start 48 16, start, ws)] ∧ t.get RC_FBUF_free = (s.get
    RC_FBUF_free - 1) % 2 ^ RC_FBUF_free.width ∧ Frame [.str, .evReq, .free] [RC_FBUF_free, RC_BUSY_busy,
    MG_EVLOG_merged] s t) ∧
  (∀ (s : State) (c : Contrib) (rest : List Contrib) (p : Nat), s.str.order = [] → s.str.mergeIn = c :: rest →
    s.mergeOn = false → c.port = some p → ∃ t, exec .mergeContribution s = .next t ∧ t.str.mergeIn = rest ∧ (t.path
    p).fwd = (s.path p).fwd ++ [c.frag] ∧ t.str.merges = s.str.merges ∧ Frame [.str, .evReq, .free] [RC_BUSY_busy,
    MG_EVLOG_merged] s t) ∧
  (∀ (s : State) (c : Contrib) (rest : List Contrib), s.str.order = [] → s.mergeOn = true → s.str.mergeIn = c :: rest
    → s.str.merges.all (fun m => m.number != fragNumber c.frag.words) = true → s.str.mergedNums.contains (fragNumber
    c.frag.words) = false → s.get FB_MERGE_STATUS_open < 1024 → s.mergeAll ≠ 2 ^ c.member → ∃ t, exec
    .mergeContribution s = .next t ∧ t.str.mergeIn = rest ∧ t.str.merges = s.str.merges ++ [⟨fragNumber c.frag.words,
    [c], 2 ^ c.member, false, none⟩] ∧ Frame [.str, .evReq, .free] [FB_MERGE_STATUS_open, RC_BUSY_busy,
    MG_EVLOG_merged] s t) ∧
  (∀ (s : State) (c : Contrib) (rest : List Contrib) (m : Merge), s.str.order = [] → s.mergeOn = true → s.str.mergeIn
    = c :: rest → s.str.merges = [m] → m.number = fragNumber c.frag.words → m.built = none → bit m.came c.member =
    false → Nat.land (m.came + 2 ^ c.member) s.mergeAll = s.mergeAll → m.contribs.foldl (fun v x => v +
    x.frag.words.length) 5 + c.frag.words.length ≤ 131072 → ∃ t, exec .mergeContribution s = .next t ∧ t.str.mergeIn =
    rest ∧ t.str.merges = [] ∧ t.str.mergedNums = s.str.mergedNums ++ [m.number] ∧ t.get FB_MERGE_CNT_sent = min
    (s.get FB_MERGE_CNT_sent + 1) (2 ^ FB_MERGE_CNT_sent.width - 1) ∧ t.get FB_MERGE_STATUS_open = 0 ∧
    t.str.merged.length = s.str.merged.length + 1 ∧ Frame [.str, .evReq, .free] [FB_MERGE_STATUS_open,
    FB_MERGE_CNT_sent, RC_FBUF_free, RC_BUSY_busy, MG_EVLOG_merged] s t) ∧
  (∀ (s : State) (n : Nat) (m : Merge), n < 2 ^ 40 → s.str.merges = [m] → m.number = n → m.built = none → ∃ t, exec
    (.mergeTimeout n) s = .next t ∧ t.str.merges = [] ∧ t.str.merged.length = s.str.merged.length + 1 ∧ t.get
    FB_MERGE_CNT_sent = min (s.get FB_MERGE_CNT_sent + 1) (2 ^ FB_MERGE_CNT_sent.width - 1) ∧ t.get
    FB_MERGE_CNT_timeout = min (s.get FB_MERGE_CNT_timeout + 1) (2 ^ FB_MERGE_CNT_timeout.width - 1) ∧ Sparse.has 124
    t.evReq = true ∧ Frame [.str, .evReq, .free] [FB_MERGE_STATUS_open, FB_MERGE_CNT_sent, FB_MERGE_CNT_timeout,
    RC_FBUF_free, RC_BUSY_busy, MG_EVLOG_merged] s t) ∧
(∀ (start : Nat) (ws : List Nat), start % 256 = 0xA1 → 1 ≤ ws.length → ws.length ≤ 32 →
    rxThrumgon (ctrlUnit start :: ws.map dataUnit ++ [ctrlUnit (blockEnd ws)]) = .block start ws)

/-- SYMBOL_LOCK of an unlocked active receiver of a lane in use sets sym_lock, clears eye_min, and sets moved with
event 134 where the latency held from the lock before differs. LOCK_LOST of a locked receiver clears sym_lock, the
latency's valid bit, the adaption and the eye, adds 1 to the lane's lock losses, sets lock_lost; with more than
lock_lim losses within 1 s and lock_lim not 0 it latches the lane fault. SLIP_WRITE outside acquisition on a lane that
is not the MT source stores the slip, at most 2F − 1; else it is refused. EYE_MEASUREMENT stores the eye of a locked
active receiver, keeps the least one since lock in eye_min, sets eye_warn at the third measurement below the warning
limit in a row and the fault at the third below the failure limit or on a driver fault. LANE_LOOP_SELECT stores loop
and pattern on a lane out of service and drops the checker's synchronisation; a loop on a lane in service is refused.
LOOP_CHECKER_PATTERN synchronises the checker at 64 correct bits in a row and counts the errors seen once it is
synchronised. -/
def Obligations.LanesLockSlipAndMeasure : Prop :=
  (∀ (s : State) (n lat : Nat), n < 48 → lat < 2 ^ 16 → s.on (LN_STATUS_sym_lock n) = false → s.get (LN_PWR_rx_now n)
    = 0 → s.role n ≠ 0 → ∃ t, exec (.symbolLock n lat) s = .next t ∧ t.get (LN_STATUS_sym_lock n) = 1 ∧ t.get
    (LN_EQ_eye_min n) = 0 ∧ t.on (LN_STATUS_moved n) = (s.on (LN_STATUS_moved n) || (s.lane n).latHeld.any fun l => l
    != lat) ∧ (t.get (LN_QUAD_state (n / 4)) = (if s.get (LN_QUAD_state (n / 4)) = 1 then 2 else s.get (LN_QUAD_state
    (n / 4)))) ∧ ((s.role n = 1 → s.fb.srcSet = false → t.get CX_MT_STATUS_src_lane = n)) ∧ BlockFrame [.lanes,
    .evReq, .fb, .str] [(0x10006000, 0x10006FFF), (0x10005000, 0x10005FFF), (0x10020000, 0x10023FFF), (0x10000104,
    0x10000104), (0x10002000, 0x10002FFF), (0x1000C210, 0x1000C210)] s t) ∧
  (∀ (s : State) (n : Nat) (many : Bool), n < 48 → s.on (LN_STATUS_sym_lock n) = true → ∃ t, exec (.lockLost n many) s
    = .next t ∧ t.get (LN_STATUS_sym_lock n) = 0 ∧ t.get (LN_RX_LAT_valid n) = 0 ∧ t.get (LN_EQ_adapted n) = 0 ∧ t.get
    (LN_EQ_eye n) = 0 ∧ t.get (LN_CNT_lock_loss n) = min (s.get (LN_CNT_lock_loss n) + 1) (2 ^ (LN_CNT_lock_loss
    n).width - 1) ∧ t.on (LN_STATUS_lock_lost n) = true ∧ t.on (LN_STATUS_fault n) = (s.on (LN_STATUS_fault n) ||
    (many && s.get LN_HEALTH_lock_lim != 0)) ∧ BlockFrame [.lanes, .evReq, .fb, .str] [(0x10006000, 0x10006FFF),
    (0x10005000, 0x10005FFF), (0x10020000, 0x10023FFF), (0x10000104, 0x10000104), (0x10002000, 0x10002FFF),
    (0x1000C210, 0x1000C210)] s t) ∧
  (∀ (s : State) (n slip : Nat), n < 48 → slip < 2048 → s.isSource n = false → s.acq = false → exec (.slipWrite n
    slip) s = .next (s.set (LN_RX_ALIGN_slip n) (min slip (2 * s.frameBits n - 1)))) ∧
  (∀ (s : State) (n slip : Nat), n < 48 → slip < 2048 → (s.isSource n = true ∨ s.acq = true) → exec (.slipWrite n
    slip) s = .next (s.flag (LN_STATUS_refused n) 135)) ∧
  (∀ (s : State) (n eye : Nat) (steady driverFault : Bool), n < 48 → eye < 256 → s.role n ≠ 0 → s.get (LN_PWR_rx_now
    n) = 0 → s.on (LN_STATUS_sym_lock n) = true →
    let warn := decide (eye < s.get LN_HEALTH_eye_warn) && decide (2 ≤ (s.lane n).lowWarn)
    let fail := decide (eye < s.get LN_HEALTH_eye_fail) && decide (2 ≤ (s.lane n).lowFail)
    ∃ t, exec (.eyeMeasurement n eye steady driverFault) s = .next t ∧ t.get (LN_EQ_eye n) = eye ∧ (t.get
      (LN_EQ_eye_min n) = (if (s.lane n).eyeSeen then min eye (s.get (LN_EQ_eye_min n)) else eye)) ∧ t.on
      (LN_STATUS_eye_warn n) = (s.on (LN_STATUS_eye_warn n) || warn) ∧ t.on (LN_STATUS_fault n) = (s.on
      (LN_STATUS_fault n) || fail || driverFault) ∧ BlockFrame [.lanes, .evReq, .fb, .str] [(0x10006000, 0x10006FFF),
      (0x10005000, 0x10005FFF), (0x10020000, 0x10023FFF), (0x10000104, 0x10000104), (0x10002000, 0x10002FFF),
      (0x1000C210, 0x1000C210)] s t) ∧
  (∀ (s : State) (n loop pattern : Nat), n < 48 → loop < 4 → pattern < 4 → loop ≠ 0 → s.on (LN_CTRL_out n) = false →
    exec (.laneLoopSelect n loop pattern) s = .next (s.flag (LN_STATUS_refused n) 135)) ∧
  (∀ (s : State) (n loop pattern : Nat), n < 48 → loop < 4 → pattern < 4 → s.on (LN_CTRL_out n) = true → ∃ t, exec
    (.laneLoopSelect n loop pattern) s = .next t ∧ t.get (LN_CTRL_loop n) = loop ∧ t.get (LN_CTRL_pattern n) = pattern
    ∧ t.get (LN_LOOP_CNT_sync n) = 0 ∧ ((loop ≠ s.get (LN_CTRL_loop n) → t.get (LN_STATUS_sym_lock n) = 0)) ∧ Frame
    [.lanes, .evReq, .fb, .free] [LN_STATUS_sym_lock n, LN_RX_LAT_valid n, LN_STATUS_rejoin n, LN_EQ_adapted n,
    LN_EQ_eye n, LN_CNT_lock_loss n, LN_STATUS_lock_lost n, MG_EVLOG_merged, LN_CTRL_loop n, LN_CTRL_pattern n,
    LN_LOOP_CNT_sync n, FB_LINK_valid (n / 8), FB_LINK_delay (n / 8)] s t) ∧
  (∀ (s : State) (n bits errors : Nat), n < 48 → bits < 2 ^ 32 → errors < 2 ^ 32 → errors ≤ bits → s.prbsLoop n = true
    → s.on (LN_LOOP_CNT_sync n) = false → ∃ t, exec (.loopCheckerPattern n bits errors) s = .next t ∧ (t.get
    (LN_LOOP_CNT_sync n) = (if errors = 0 ∧ 64 ≤ (s.lane n).loopGood + bits then 1 else 0)) ∧ t.get
    (LN_LOOP_CNT_errors n) = s.get (LN_LOOP_CNT_errors n) ∧ Frame [.lanes] [LN_LOOP_CNT_sync n] s t) ∧
  (∀ (s : State) (n bits errors : Nat), n < 48 → bits < 2 ^ 32 → errors < 2 ^ 32 → errors ≤ bits → s.prbsLoop n = true
    → s.on (LN_LOOP_CNT_sync n) = true → ∃ t, exec (.loopCheckerPattern n bits errors) s = .next t ∧ t.get
    (LN_LOOP_CNT_errors n) = min (s.get (LN_LOOP_CNT_errors n) + errors) (2 ^ (LN_LOOP_CNT_errors n).width - 1) ∧
    ((errors ≠ 0 → (s.lane n).errRaised = false → Sparse.has 138 t.evReq = true)) ∧ Frame [.lanes, .evReq]
    [LN_LOOP_CNT_errors n, MG_EVLOG_merged] s t) ∧
  (∀ (s : State) (n lat : Nat), n < 48 → lat < 2 ^ 16 → s.on (LN_STATUS_sym_lock n) = false → s.get (LN_PWR_rx_now n)
    = 0 → (s.role n = 2 ∨ s.role n = 3) → s.serving (n / 8) 1 = [] → ∃ t, exec (.symbolLock n lat) s = .next t ∧ t.get
    (LN_STATUS_sym_lock n) = 1 ∧ Frame [.lanes, .evReq] [LN_STATUS_sym_lock n, LN_EQ_eye_min n, LN_STATUS_moved n,
    LN_QUAD_state (n / 4), LN_PORT_out_grp (n / 8), MG_EVLOG_merged] s t)

/-- LANE_POWER_REQUEST through which a lane would cut its own path, the receiver of the MT source lane, an unused
lane, or a primitive transmitter needed by acquisition is refused; on another lane of role timing/control or data it
stores both requested states, a direction off that is not shutting down wakes, an active direction asked for off
begins its shutdown. LANE_WAKE_DONE takes a waking direction to the state requested last and the quad PLL to running.
LANE_OUT of a lane that is not the MT source, not the way of the command and not needed puts it out, both directions
failed; back in clears out. LANE_FAILED of a direction without symbol lock, with a latched fault or, sending, with
four frames of reverse_lost in a row marks it failed and clears rejoin, a data lane in both directions. LANE_REJOIN of
a lane without a fault, not out, ends the failure of each direction that has seen 1,024 good frames in lock (a data
lane: that is in lock, the model's choice), counts a rejoin, raises event 136. SPARE_SERVE_WRITE without a change
changes nothing and is refused on the lowest lane whose target is not a healthy declared spare. PLL_UNLOCK of a
running quad sets unlock and takes every receiver of the quad out of lock. -/
def Obligations.LanesPowerFailAndRejoin : Prop :=
  (∀ (s : State) (n tx rx : Nat) (via : Option Nat), n < 48 → tx < 4 → rx < 4 → via.all (fun m => decide (m < 48)) =
    true → ((s.isSource n = true ∧ rx ≠ 0 ∧ s.get (LN_PWR_rx_now n) = 0) ∨ (via = some n ∧ ((tx ≠ 0 ∧ s.get
    (LN_PWR_tx_now n) = 0) ∨ (rx ≠ 0 ∧ s.get (LN_PWR_rx_now n) = 0))) ∨ s.role n = 0 ∨ (s.neededTx n = true ∧ tx ≠ 0 ∧
    s.get (LN_PWR_tx_now n) = 0)) → exec (.lanePowerRequest n tx rx via) s = .next (s.flag (LN_STATUS_refused n) 135)) ∧
  (∀ (s : State) (n : Nat), n < 48 → s.isSource n = false → (s.role n = 1 ∨ s.role n = 3) → s.get (LN_PWR_tx_now n) =
    0 → s.get (LN_PWR_rx_now n) = 0 → ∃ t, exec (.lanePowerRequest n 3 3 none) s = .next t ∧ t.get (LN_PWR_tx_req n) =
    3 ∧ t.get (LN_PWR_rx_req n) = 3 ∧ t.get (LN_PWR_tx_now n) = 5 ∧ t.get (LN_PWR_rx_now n) = 5 ∧ t.get
    (LN_STATUS_sym_lock n) = 0 ∧ t.shut = s.shut ++ [.laneTx n, .laneRx n]) ∧
  (∀ (s : State) (n : Nat), n < 48 → (s.role n = 1 ∨ s.role n = 3) → s.get (LN_PWR_tx_now n) = 3 → s.get
    (LN_PWR_rx_now n) = 3 → s.shut.contains (.quadPll (n / 4)) = false → ∃ t, exec (.lanePowerRequest n 0 0 none) s =
    .next t ∧ t.get (LN_PWR_tx_req n) = 0 ∧ t.get (LN_PWR_rx_req n) = 0 ∧ t.get (LN_PWR_tx_now n) = 4 ∧ t.get
    (LN_PWR_rx_now n) = 4 ∧ (t.get (LN_QUAD_state (n / 4)) = (if s.get (LN_QUAD_state (n / 4)) = 0 then 1 else s.get
    (LN_QUAD_state (n / 4)))) ∧ Frame [.lanes] [LN_PWR_tx_req n, LN_PWR_rx_req n, LN_PWR_tx_now n, LN_PWR_rx_now n,
    LN_QUAD_state (n / 4)] s t) ∧
  (∀ (s : State) (n : Nat) (rx : Bool), n < 48 → s.get (nowOf n rx) = 4 → (heldOf (s.lane n) rx).getD 0 < 3 → ∃ t,
    exec (.laneWakeDone n rx) s = .next t ∧ t.get (nowOf n rx) = (heldOf (s.lane n) rx).getD 0 ∧ t.get (LN_QUAD_state
    (n / 4)) = 2 ∧ t.shut = s.shut ∧ PartFrame [.evReq, .lanes, .shut] s t) ∧
  (∀ (s : State) (n : Nat) (via : Option Nat), n < 48 → via.all (fun m => decide (m < 48)) = true → s.on (LN_CTRL_out
    n) = false → s.isSource n = false → via ≠ some n → s.role n ≠ 2 → ∃ t, exec (.laneOut n true via) s = .next t ∧
    t.get (LN_CTRL_out n) = 1 ∧ (t.lane n).rxFailed = true ∧ (t.lane n).txFailed = true ∧ t.get (LN_STATUS_rejoin n) =
    0 ∧ Frame [.lanes] [LN_CTRL_out n, LN_STATUS_rejoin n, LN_PORT_out_grp (n / 8)] s t) ∧
  (∀ (s : State) (n : Nat) (via : Option Nat), n < 48 → via.all (fun m => decide (m < 48)) = true → s.svc.assay = none
    → exec (.laneOut n false via) s = .next (s.set (LN_CTRL_out n) 0)) ∧
  (∀ (s : State) (n : Nat) (rx : Bool), n < 48 → (s.role n = 1 ∨ s.role n = 3) → s.dirBad n rx = true → (s.lane
    n).rxFailed = false → (s.lane n).txFailed = false → ∃ t, exec (.laneFailed n rx) s = .next t ∧ (t.lane n).rxFailed
    = (rx || s.role n == 3) ∧ (t.lane n).txFailed = (!rx || s.role n == 3) ∧ t.get (LN_STATUS_rejoin n) = 0 ∧ Frame
    [.lanes, .str, .evReq] [LN_STATUS_rejoin n, LN_PORT_out_grp (n / 8), LN_STATUS_restripe n, MG_EVLOG_merged] s t) ∧
  (∀ (s : State) (n : Nat), n < 48 → (s.rejoins n true = true ∨ s.rejoins n false = true) → s.on (LN_STATUS_fault n) =
    false → s.on (LN_CTRL_out n) = false → ∃ t, exec (.laneRejoin n) s = .next t ∧ (t.lane n).rxFailed = ((s.lane
    n).rxFailed && !s.rejoins n true) ∧ (t.lane n).txFailed = ((s.lane n).txFailed && !s.rejoins n false) ∧ (t.get
    (LN_STATUS_degraded n) = (if s.rejoins n false then 0 else s.get (LN_STATUS_degraded n))) ∧ t.get
    (LN_STATUS_rejoin n) = 0 ∧ t.get (LN_CNT_rejoins n) = min (s.get (LN_CNT_rejoins n) + 1) (2 ^ (LN_CNT_rejoins
    n).width - 1) ∧ Sparse.has 136 t.evReq = true ∧ PartFrame [.evReq, .lanes] s t) ∧
  (∀ (s : State) (port bits : Nat), port < 6 → bits < 256 → s.get (LN_PORT_serve port) = bits → exec (.spareServeWrite
    port bits) s = .next (s)) ∧
  (∀ (s : State) (port bits : Nat), port < 6 → bits < 256 → bit (s.get (LN_PORT_serve port)) 0 ≠ bit bits 0 →
    lrSpareEn s.shadowRd (8 * port) = false → exec (.spareServeWrite port bits) s = .next (s.flag (LN_STATUS_refused
    (8 * port)) 135)) ∧
  (∀ (s : State) (port bits : Nat), port < 6 → bits < 256 → Nat.xor (s.get (LN_PORT_serve port)) bits = 1 → bit bits 0
    = true → lrSpareEn s.shadowRd (8 * port) = true → s.healthyTx (lrSpare s.shadowRd (8 * port)) = true → ∃ t, exec
    (.spareServeWrite port bits) s = .next t ∧ t.get (LN_PORT_serve port) = bits ∧ t.get (LN_STATUS_serving_spare
    (lrSpare s.shadowRd (8 * port))) = 1 ∧ t.on (LN_STATUS_spare_move (8 * port)) = true) ∧
  (∀ (s : State) (q i : Nat), q < 12 → i < 4 → s.get (LN_QUAD_state q) ≠ 0 → ∃ t, exec (.pllUnlock q) s = .next t ∧
    t.get (LN_QUAD_state q) = 1 ∧ t.on (LN_QUAD_unlock q) = true ∧ t.get (LN_STATUS_sym_lock (4 * q + i)) = 0 ∧
    ((s.role (4 * q + i) ≠ 0 → (t.lane (4 * q + i)).rxFailed = true)) ∧ ((s.role (4 * q + i) ≠ 0 → (t.lane (4 * q +
    i)).txFailed = true)) ∧ PartFrame [.evReq, .lanes, .fb, .str] s t)

/-- FRAME_TRANSMIT on a lane whose quad is not synchronous or whose transmitter is not active changes nothing. In a
serial far loop without PRBS the frame sent is a loop frame. On the one lane that carries a port's items, with no
Solam item, answer or message waiting and all queued items due, the frame carries accepts, at most eight of the nine
items of a 640-bit frame (three of a 256-bit frame), then fast commands up to the frame's capacity, taken from the
queues. A trigger-primitive frame with no own words, on a lane that no spare serves and that serves none, carries in
every slot that no own chaser owns the word to be forwarded in this bucket, if the lane forwards. FRAME_RECEIVED with
a bad CRC is counted, sets the lane's crc status and restarts its rejoin count; a good one waits behind the frames
held. FRAME_RELEASE on a receiver in service takes the oldest frame: a trigger-primitive frame goes, zeros where
degraded, into the first frame of each lane that forwards this lane to start 8 coarse periods later; a timing/control
frame gives the port's busy bit, and its accepts reach the trigger engine. SOURCE_FRAME_GAP counts a bucket without
frame on the source lane. -/
def Obligations.FramesLeaveAndAreReleased : Prop :=
  (∀ (s : State) (n : Nat), n < 48 → (s.syncLane n = false ∨ s.get (LN_PWR_tx_now n) ≠ 0) → exec (.frameTransmit n) s
    = .next (s)) ∧
  (∀ (s : State) (n : Nat), n < 48 → s.syncLane n = true → s.get (LN_PWR_tx_now n) = 0 → s.get (LN_CTRL_loop n) = 2 →
    s.prbsLoop n = false → ∃ t, exec (.frameTransmit n) s = .next t ∧ (t.lane n).sent = some (frameOut (s.frameBits n)
    (s.header n 2 false) 0) ∧ Frame [.lanes] [] s t) ∧
  (∀ (s : State) (n : Nat), n < 48 → s.syncLane n = true → s.get (LN_PWR_tx_now n) = 0 → s.get (LN_CTRL_loop n) = 0 →
    s.role n = 1 → s.mt.running = true → s.carriers (n / 8) = [n] → (s.lane n).due = none → (s.portQ (n / 8)).solam =
    [] → (s.lane n).answers = [] → (s.portQ (n / 8)).msgs = [] → ((s.portQ (n / 8)).accepts.all fun e => decide (e.1 ≤
    s.clock)) = true → ((s.portQ (n / 8)).fast.all fun e => decide (e.1 ≤ s.clock)) = true →
    let q := s.portQ (n / 8)
    let cap := if s.frameBits n = 640 then 9 else 3
    let a := min (if s.frameBits n = 640 then 8 else 3) q.accepts.length
    ∃ t, exec (.frameTransmit n) s = .next t ∧ (t.lane n).sent = some (frameOut (s.frameBits n) (s.header n 0
      (s.busyOut (n / 8))) (tcPayload ((q.accepts.take a).map (fun x => (1, x.2)) ++ (q.fast.take (cap - a)).map (fun
      x => (2, x.2))))) ∧ t.portQ (n / 8) = { q with accepts := q.accepts.drop a, fast := q.fast.drop (cap - a) } ∧
      Frame [.lanes, .fb] [] s t) ∧
  (∀ (s : State) (n j : Nat), n < 48 → j < (s.frameBits n - 32) / 32 → s.syncLane n = true → s.get (LN_PWR_tx_now n) =
    0 → s.get (LN_CTRL_loop n) = 0 → s.role n = 2 → s.served n = false → s.servesFor n = none → s.tg.words = [] →
    s.ownSlot n j = false → ∃ t, exec (.frameTransmit n) s = .next t ∧ ((t.lane n).sent.map (fun f => f.payload / 2 ^
    (32 * j) % 2 ^ 32) = some ((((s.lane n).fwd.find? fun e => e.1 == s.clock).map fun e => if s.on (FB_TP_FWD_en n)
    then e.2 / 2 ^ (32 * j) % 2 ^ 32 else 0).getD 0)) ∧ (t.lane n).fwd = (s.lane n).fwd.filter (fun e => decide
    (s.clock < e.1)) ∧ Frame [.lanes] [FB_CNT3_tp_collide] s t) ∧
  (∀ (s : State) (n : Nat) (f : FrameIn), n < 48 → f.wf = true → s.on (LN_STATUS_sym_lock n) = true → s.syncLane n =
    true → s.role n ≠ 0 → s.get (LN_CTRL_loop n) = 0 → f.crcOk = false → ∃ t, exec (.frameReceived n f) s = .next t ∧
    t.get (LN_CNT_crc n) = min (s.get (LN_CNT_crc n) + 1) (2 ^ (LN_CNT_crc n).width - 1) ∧ t.on (LN_STATUS_crc n) =
    true ∧ t.get (LN_STATUS_rejoin n) = 0 ∧ (t.lane n).goodRx = 0 ∧ (t.lane n).goodTx = 0 ∧ (t.lane n).frames =
    (s.lane n).frames ∧ Frame [.evReq, .lanes] [LN_CNT_crc n, LN_STATUS_crc n, LN_STATUS_rejoin n, MG_EVLOG_merged] s
    t) ∧
  (∀ (s : State) (n : Nat) (f : FrameIn), n < 48 → f.wf = true → s.on (LN_STATUS_sym_lock n) = true → s.syncLane n =
    true → s.role n ≠ 0 → s.get (LN_CTRL_loop n) = 0 → f.crcOk = true → f.header < 32 →
    let l := s.lane n
    let rx := if l.rxFailed then min 1024 (l.goodRx + 1) else 1024
    let tx := if l.txFailed then (if bit f.header 3 then 0 else min 1024 (l.goodTx + 1)) else 1024
    ∃ t, exec (.frameReceived n f) s = .next t ∧ (t.lane n).frames = l.frames ++ [f] ∧ (t.get (LN_STATUS_rejoin n) =
      (if (l.rxFailed || l.txFailed) && !s.on (LN_CTRL_out n) then min rx tx else s.get (LN_STATUS_rejoin n))) ∧
      ((t.lane n).rev = (if bit f.header 3 then min 4 (l.rev + 1) else 0)) ∧ Frame [.lanes] [LN_STATUS_rejoin n] s t) ∧
  (∀ (s : State) (n m margin : Nat) (g : FrameIn), n < 48 → m < 48 → m ≠ n → margin < s.frameBits n → s.isSource n =
    false → s.rxServes n = true → (s.lane n).frames = [g] → bits g.header 4 2 = 1 → s.role n = 2 → s.on (FB_TP_FWD_en
    m) = true → s.get (FB_TP_FWD_src m) = n →
    let at_ := s.clock + (if 32768 ≤ s.fwdWait m then 1 else 0)
    ∃ t, exec (.frameRelease n margin) s = .next t ∧ ((t.lane m).fwd = (s.lane m).fwd.filter (fun e => e.1 != at_) ++
      [(at_, if bit g.header 1 then 0 else g.payload)]) ∧ (t.lane n).frames = [] ∧ PartFrame [.evReq, .lanes, .fb] s
      t) ∧
  (∀ (s : State) (n margin : Nat) (g : FrameIn), n < 48 → margin < s.frameBits n → s.isSource n = false → s.rxServes n
    = true → (s.lane n).frames = [g] → bits g.header 4 2 = 0 → s.role n = 1 → ∃ t, exec (.frameRelease n margin) s =
    .next t ∧ (t.portQ (n / 8)).busy = bit g.header 1 ∧ (t.lane n).frames = [] ∧ PartFrame [.evReq, .lanes, .fb] s t) ∧
  (∀ (s : State), s.mt.running = true → s.get CX_MT_STATUS_src = 1 → ∃ t, exec .sourceFrameGap s = .next t ∧ t.get
    FB_CNT2_gap = min (s.get FB_CNT2_gap + 1) (2 ^ FB_CNT2_gap.width - 1) ∧ t.fb.gap = some ((s.fb.gap.map fun e =>
    (e.1, e.2 + 1)).getD (s.mt.bucket, 1)) ∧ Frame [.fb] [FB_CNT2_gap] s t) ∧
  (∀ (s : State), (s.mt.running = false ∨ s.get CX_MT_STATUS_src ≠ 1) → exec .sourceFrameGap s = .next (s)) ∧
  (∀ (s : State) (n margin x : Nat) (g : FrameIn), n < 48 → margin < s.frameBits n → s.isSource n = false → s.rxServes
    n = true → s.mt.running = true → (s.lane n).frames = [g] → bits g.header 4 2 = 0 → s.role n = 1 → s.lesserMember n
    = false → s.upPort = some (n / 8) → s.on FB_ADDR_valid = false → (((tcItems (if s.frameBits n = 640 then 9 else 3)
    g.payload).filter fun e => e.1 != 0) = [(1, x)]) → ∃ t, exec (.frameRelease n margin) s = .next t ∧ t.tg.arrived =
    s.tg.arrived ++ [x] ∧ t.get (LN_RX_LAT_lat n) = (s.tMin n + s.get (LN_RX_ALIGN_slip_now n) + margin) % 2 ^
    (LN_RX_LAT_lat n).width ∧ Frame [.lanes, .fb, .tg] [LN_RX_LAT_valid n, LN_RX_LAT_edge n, LN_RX_LAT_margin n,
    LN_RX_LAT_lat n, LN_RX_ALIGN_slip_now n] s t)

/-- With a valid address and room in the queue towards the root: a READ_REQUEST of a word of the data RAM, clean and
without an error, answers with op + 2, status 0 and its four bytes; a WRITE_REQUEST there stores the enabled bytes,
leaves the others and answers with status 0 and data 0. One whose transaction meets an error before it is executed
answers with op + 2, this module's address, the tag, the status and the address, data 0, and the error stays the last
answer; one that finds the control port full is answered with status 7. A request for another module with hops left
and a primary port with service joins that port's queue with one hop less; nothing else changes. With hops 0 it is
answered with status 9; with no route in the table it is answered with status 8 and one more route miss is counted.
READ_RESPONSE and WRITE_RESPONSE join the queue towards the root as they are. A message whose op or length is wrong is
counted bad and changes nothing else; a module without a valid address does nothing. -/
def Obligations.ControlMessagesAreServedForwardedOrAnswered : Prop :=
  (∀ (s : State) (m : CtMsg) (r : EccResult) (p : Nat), m.wf = true → s.on FB_ADDR_valid = true → ctAddr m.head =
    s.get FB_ADDR_addr → s.upQueue = some p → isOp m 0 = true → (s.portQ p).msgs.foldl (fun n x => n + x.length) 0 + 2
    ≤ 64 → s.txnError (txnOf m ⟨.fabric, none⟩) ≠ 0 →
    let e := s.txnError (txnOf m ⟨.fabric, none⟩)
    ∃ t, exec (.readRequest m r false) s = .next t ∧ t.answer = (e, 0) ∧ (t.portQ p).msgs = (s.portQ p).msgs ++
      [[ctHead (ctOp m.head + 2) 1 (s.get FB_ADDR_addr) (ctTag m.head) 0 e (ctBe m.head), bits (m.body.getD 0 0) 32 32
      * 2 ^ 32 + 0]] ∧ t.get CX_CT_ERR_count = min (s.get CX_CT_ERR_count + 1) (2 ^ CX_CT_ERR_count.width - 1) ∧ t.get
      CX_CT_ERR_status = e ∧ Frame [.answer, .fb, .evReq] [CX_CT_ERR_ADDR_addr, CX_CT_ERR_path, CX_CT_ERR_status,
      CX_CT_ERR_block, CX_CT_ERR_count, CX_CT_ERR_err, MG_EVLOG_merged] s t) ∧
  (∀ (s : State) (m : CtMsg) (r : EccResult) (p : Nat), m.wf = true → s.on FB_ADDR_valid = true → ctAddr m.head =
    s.get FB_ADDR_addr → s.upQueue = some p → isOp m 0 = true → (s.portQ p).msgs.foldl (fun n x => n + x.length) 0 + 2
    ≤ 64 → ∃ t, exec (.readRequest m r true) s = .next t ∧ t.answer = (7, 0) ∧ (t.portQ p).msgs = (s.portQ p).msgs ++
    [[ctHead (ctOp m.head + 2) 1 (s.get FB_ADDR_addr) (ctTag m.head) 0 7 (ctBe m.head), bits (m.body.getD 0 0) 32 32 *
    2 ^ 32 + 0]] ∧ Frame [.answer, .fb, .evReq] [CX_CT_ERR_ADDR_addr, CX_CT_ERR_path, CX_CT_ERR_status,
    CX_CT_ERR_block, CX_CT_ERR_count, CX_CT_ERR_err, MG_EVLOG_merged] s t) ∧
  (∀ (s : State) (m : CtMsg) (p off : Nat), m.wf = true → s.on FB_ADDR_valid = true → ctAddr m.head = s.get
    FB_ADDR_addr → s.upQueue = some p → isOp m 0 = true → (s.portQ p).msgs.foldl (fun n x => n + x.length) 0 + 2 ≤ 64
    → s.txnError (txnOf m ⟨.fabric, none⟩) = 0 → 0x40040000 ≤ bits (m.body.getD 0 0) 32 32 → bits (m.body.getD 0 0) 32
    32 < 0x40058000 → off = bits (m.body.getD 0 0) 32 32 - 0x40040000 → ctBe m.head = 15 → (∀ k ∈ List.range 4, s.mark
    memDram (off + k) = 0) →
    let v := ((s.dramByte off + s.dramByte (off + 1) * 256 + s.dramByte (off + 2) * 65536 + s.dramByte (off + 3) * 2 ^
      24) % 2 ^ 32)
    exec (.readRequest m .clean false) s = .next (({ s with answer := (0, v) } : State).setPortQ p
      { s.portQ p with msgs := (s.portQ p).msgs ++ [[ctHead (ctOp m.head + 2) 1 (s.get FB_ADDR_addr) (ctTag m.head) 0 0 (ctBe m.head), bits (m.body.getD 0 0) 32 32 * 2 ^ 32 + v]] })) ∧
  (∀ (s : State) (m : CtMsg) (r : EccResult) (full : Bool) (p : Nat), m.wf = true → isOp m 0 = true → s.on
    FB_ADDR_valid = true → ctAddr m.head ≠ s.get FB_ADDR_addr → 0 < ctHops m.head → s.on (FB_ROUTE_en (ctAddr m.head))
    = true → s.get (FB_ROUTE_pri (ctAddr m.head)) = p → s.tcHas p = true → s.on (FB_ROUTE_use_sec (ctAddr m.head)) =
    false → (s.portQ p).msgs.foldl (fun n x => n + x.length) 0 + (m.body.length + 1) ≤ 64 → exec (.readRequest m r
    full) s = .next (s.setPortQ p { s.portQ p with msgs := (s.portQ p).msgs ++ [(m.head - 2 ^ 32) :: m.body] })) ∧
  (∀ (s : State) (m : CtMsg) (r : EccResult) (full : Bool) (p : Nat), m.wf = true → isOp m 0 = true → s.on
    FB_ADDR_valid = true → ctAddr m.head ≠ s.get FB_ADDR_addr → ctHops m.head = 0 → s.upQueue = some p → (s.portQ
    p).msgs.foldl (fun n x => n + x.length) 0 + 2 ≤ 64 → exec (.readRequest m r full) s = .next (s.setPortQ p
    { s.portQ p with msgs := (s.portQ p).msgs ++ [[ctHead (ctOp m.head + 2) 1 (s.get FB_ADDR_addr) (ctTag m.head) 0 9 (ctBe m.head), bits (m.body.getD 0 0) 32 32 * 2 ^ 32 + 0]] })) ∧
  (∀ (s : State) (m : CtMsg) (r : EccResult) (full : Bool) (p : Nat), m.wf = true → isOp m 0 = true → s.on
    FB_ADDR_valid = true → ctAddr m.head ≠ s.get FB_ADDR_addr → 0 < ctHops m.head → s.on (FB_ROUTE_en (ctAddr m.head))
    = false → s.upQueue = some p → (s.portQ p).msgs.foldl (fun n x => n + x.length) 0 + 2 ≤ 64 → ∃ t, exec
    (.readRequest m r full) s = .next t ∧ (t.portQ p).msgs = (s.portQ p).msgs ++ [[ctHead (ctOp m.head + 2) 1 (s.get
    FB_ADDR_addr) (ctTag m.head) 0 8 (ctBe m.head), bits (m.body.getD 0 0) 32 32 * 2 ^ 32 + 0]] ∧ t.get
    FB_CNT_route_miss = min (s.get FB_CNT_route_miss + 1) (2 ^ FB_CNT_route_miss.width - 1) ∧ t.on
    FB_STATUS_route_miss = true ∧ Frame [.fb, .evReq] [FB_CNT_route_miss, FB_STATUS_route_miss, MG_EVLOG_merged] s t) ∧
  (∀ (s : State) (m : CtMsg) (r : EccResult) (full : Bool), m.wf = true → isOp m 0 = false → exec (.readRequest m r
    full) s = .next (s.count FB_CNT_bad)) ∧
  (∀ (s : State) (m : CtMsg) (lane : Option Nat) (p : Nat), m.wf = true → s.on FB_ADDR_valid = true → ctAddr m.head =
    s.get FB_ADDR_addr → s.upQueue = some p → isOp m 1 = true → (s.portQ p).msgs.foldl (fun n x => n + x.length) 0 + 2
    ≤ 64 → s.txnError (txnOf m ⟨.fabric, lane⟩) ≠ 0 → lane.all (fun n => decide (n < 48)) = true →
    let e := s.txnError (txnOf m ⟨.fabric, lane⟩)
    ∃ t, exec (.writeRequest m lane false) s = .next t ∧ t.answer = (e, 0) ∧ (t.portQ p).msgs = (s.portQ p).msgs ++
      [[ctHead (ctOp m.head + 2) 1 (s.get FB_ADDR_addr) (ctTag m.head) 0 e (ctBe m.head), bits (m.body.getD 0 0) 32 32
      * 2 ^ 32 + 0]] ∧ t.get CX_CT_ERR_count = min (s.get CX_CT_ERR_count + 1) (2 ^ CX_CT_ERR_count.width - 1) ∧ t.get
      CX_CT_ERR_status = e ∧ Frame [.answer, .fb, .evReq] [CX_CT_ERR_ADDR_addr, CX_CT_ERR_path, CX_CT_ERR_status,
      CX_CT_ERR_block, CX_CT_ERR_count, CX_CT_ERR_err, MG_EVLOG_merged] s t) ∧
  (∀ (s : State) (m : CtMsg) (lane : Option Nat) (p : Nat), m.wf = true → s.on FB_ADDR_valid = true → ctAddr m.head =
    s.get FB_ADDR_addr → s.upQueue = some p → isOp m 1 = true → (s.portQ p).msgs.foldl (fun n x => n + x.length) 0 + 2
    ≤ 64 → lane.all (fun n => decide (n < 48)) = true → ∃ t, exec (.writeRequest m lane true) s = .next t ∧ t.answer =
    (7, 0) ∧ (t.portQ p).msgs = (s.portQ p).msgs ++ [[ctHead (ctOp m.head + 2) 1 (s.get FB_ADDR_addr) (ctTag m.head) 0
    7 (ctBe m.head), bits (m.body.getD 0 0) 32 32 * 2 ^ 32 + 0]] ∧ Frame [.answer, .fb, .evReq] [CX_CT_ERR_ADDR_addr,
    CX_CT_ERR_path, CX_CT_ERR_status, CX_CT_ERR_block, CX_CT_ERR_count, CX_CT_ERR_err, MG_EVLOG_merged] s t) ∧
  (∀ (s : State) (m : CtMsg) (lane : Option Nat) (p off : Nat), m.wf = true → s.on FB_ADDR_valid = true → ctAddr
    m.head = s.get FB_ADDR_addr → s.upQueue = some p → isOp m 1 = true → (s.portQ p).msgs.foldl (fun n x => n +
    x.length) 0 + 2 ≤ 64 → s.txnError (txnOf m ⟨.fabric, lane⟩) = 0 → 0x40040000 ≤ bits (m.body.getD 0 0) 32 32 → bits
    (m.body.getD 0 0) 32 32 < 0x40058000 → off = bits (m.body.getD 0 0) 32 32 - 0x40040000 → lane.all (fun n => decide
    (n < 48)) = true → ∃ t, exec (.writeRequest m lane false) s = .next t ∧ (∀ k ∈ List.range 4, t.dramByte (off + k)
    = (if bit (ctBe m.head) k then byteOf (m.body.getD 0 0) k else s.dramByte (off + k))) ∧ t.answer = (0, 0) ∧
    (t.portQ p).msgs = (s.portQ p).msgs ++ [[ctHead (ctOp m.head + 2) 1 (s.get FB_ADDR_addr) (ctTag m.head) 0 0 (ctBe
    m.head), bits (m.body.getD 0 0) 32 32 * 2 ^ 32 + 0]] ∧ Frame [.mg, .prot, .answer, .fb] [] s t) ∧
  (∀ (s : State) (m : CtMsg) (lane : Option Nat) (full : Bool) (p : Nat), m.wf = true → isOp m 1 = true → s.on
    FB_ADDR_valid = true → ctAddr m.head ≠ s.get FB_ADDR_addr → 0 < ctHops m.head → s.on (FB_ROUTE_en (ctAddr m.head))
    = true → s.get (FB_ROUTE_pri (ctAddr m.head)) = p → s.tcHas p = true → s.on (FB_ROUTE_use_sec (ctAddr m.head)) =
    false → (s.portQ p).msgs.foldl (fun n x => n + x.length) 0 + (m.body.length + 1) ≤ 64 → lane.all (fun n => decide
    (n < 48)) = true → exec (.writeRequest m lane full) s = .next (s.setPortQ p
    { s.portQ p with msgs := (s.portQ p).msgs ++ [(m.head - 2 ^ 32) :: m.body] })) ∧
  (∀ (s : State) (m : CtMsg) (lane : Option Nat) (full : Bool) (p : Nat), m.wf = true → isOp m 1 = true → s.on
    FB_ADDR_valid = true → ctAddr m.head ≠ s.get FB_ADDR_addr → ctHops m.head = 0 → s.upQueue = some p → (s.portQ
    p).msgs.foldl (fun n x => n + x.length) 0 + 2 ≤ 64 → lane.all (fun n => decide (n < 48)) = true → exec
    (.writeRequest m lane full) s = .next (s.setPortQ p
    { s.portQ p with msgs := (s.portQ p).msgs ++ [[ctHead (ctOp m.head + 2) 1 (s.get FB_ADDR_addr) (ctTag m.head) 0 9 (ctBe m.head), bits (m.body.getD 0 0) 32 32 * 2 ^ 32 + 0]] })) ∧
  (∀ (s : State) (m : CtMsg) (lane : Option Nat) (full : Bool) (p : Nat), m.wf = true → isOp m 1 = true → s.on
    FB_ADDR_valid = true → ctAddr m.head ≠ s.get FB_ADDR_addr → 0 < ctHops m.head → s.on (FB_ROUTE_en (ctAddr m.head))
    = false → s.upQueue = some p → (s.portQ p).msgs.foldl (fun n x => n + x.length) 0 + 2 ≤ 64 → lane.all (fun n =>
    decide (n < 48)) = true → ∃ t, exec (.writeRequest m lane full) s = .next t ∧ (t.portQ p).msgs = (s.portQ p).msgs
    ++ [[ctHead (ctOp m.head + 2) 1 (s.get FB_ADDR_addr) (ctTag m.head) 0 8 (ctBe m.head), bits (m.body.getD 0 0) 32
    32 * 2 ^ 32 + 0]] ∧ t.get FB_CNT_route_miss = min (s.get FB_CNT_route_miss + 1) (2 ^ FB_CNT_route_miss.width - 1)
    ∧ t.on FB_STATUS_route_miss = true ∧ Frame [.fb, .evReq] [FB_CNT_route_miss, FB_STATUS_route_miss,
    MG_EVLOG_merged] s t) ∧
  (∀ (s : State) (m : CtMsg) (lane : Option Nat) (full : Bool), m.wf = true → isOp m 1 = false → lane.all (fun n =>
    decide (n < 48)) = true → exec (.writeRequest m lane full) s = .next (s.count FB_CNT_bad)) ∧
  (∀ (s : State) (m : CtMsg) (p : Nat), m.wf = true → isOp m 2 = true → s.on FB_ADDR_valid = true → s.upQueue = some p
    → (s.portQ p).msgs.foldl (fun n x => n + x.length) 0 + (m.body.length + 1) ≤ 64 → exec (.readResponse m) s = .next
    (s.setPortQ p { s.portQ p with msgs := (s.portQ p).msgs ++ [m.head :: m.body] })) ∧
  (∀ (s : State) (m : CtMsg), m.wf = true → isOp m 2 = true → s.on FB_ADDR_valid = false → exec (.readResponse m) s =
    .next (s)) ∧
  (∀ (s : State) (m : CtMsg) (p : Nat), m.wf = true → isOp m 3 = true → s.on FB_ADDR_valid = true → s.upQueue = some p
    → (s.portQ p).msgs.foldl (fun n x => n + x.length) 0 + (m.body.length + 1) ≤ 64 → exec (.writeResponse m) s =
    .next (s.setPortQ p { s.portQ p with msgs := (s.portQ p).msgs ++ [m.head :: m.body] })) ∧
  (∀ (s : State) (m : CtMsg), m.wf = true → isOp m 3 = true → s.on FB_ADDR_valid = false → exec (.writeResponse m) s =
    .next (s))

/-- PROBE on a timing/control lane queues on that lane this module's answer with the probe's tag; on another lane it
does nothing. ASSIGN on a timing/control lane that names this die's serial, with no valid address or acquisition not
running, sets address, depth and valid, makes the lane's port the primary control up port in use, and raises EV 118;
one for another serial does nothing. DISC_PROBE and DISC_ASSIGN on a port with service, with a valid address and no
discovery waiting, set port, op and state 1 and queue the message on that port; else they are refused. PROBE_ANSWER on
the port awaited stores the answer, state 2, for a probe; for an assignment that the answer confirms gives state 4 and
enters the address into the routing table where it has no entry; else state 5; all raise EV 119. An answer that
nothing waits for does nothing. DISC_TIMEOUT ends a waiting probe with state 3, an assignment with state 5. -/
def Obligations.DiscoveryAnswersAndAssigns : Prop :=
  (∀ (s : State) (n : Nat) (m : CtMsg), n < 48 → m.wf = true → isOp m 4 = true → s.role n = 1 → exec (.probe n m) s =
    .next (s.setLane n { s.lane n with answers := (s.lane n).answers ++ [s.probeAnswerOf (n / 8) (ctTag m.head)] })) ∧
  (∀ (s : State) (n : Nat) (m : CtMsg), n < 48 → m.wf = true → isOp m 4 = true → s.role n ≠ 1 → exec (.probe n m) s =
    .next (s)) ∧
  (∀ (s : State) (n : Nat) (m : CtMsg), n < 48 → m.wf = true → isOp m 6 = true → s.role n = 1 → m.body.head? = some
    Config.dieSerial.toNat → (s.on FB_ADDR_valid = false ∨ s.acq = false) → ∃ t, exec (.assign n m) s = .next t ∧
    t.get FB_ADDR_addr = bits (m.body.getD 1 0) 52 12 ∧ t.get FB_ADDR_depth = bits (m.body.getD 1 0) 46 6 ∧ t.get
    FB_ADDR_valid = 1 ∧ t.get FB_UP_tc_pri = n / 8 ∧ t.fb.tcSec = false ∧ Sparse.has 118 t.evReq = true ∧ (t.lane
    n).answers.length = (s.lane n).answers.length + 1 ∧ Frame [.lanes, .fb, .evReq, .prot] [FB_ADDR_addr,
    FB_ADDR_depth, FB_ADDR_valid, FB_UP_tc_pri, MG_EVLOG_merged] s t) ∧
  (∀ (s : State) (n : Nat) (m : CtMsg), n < 48 → m.wf = true → isOp m 6 = true → m.body.head? ≠ some
    Config.dieSerial.toNat → exec (.assign n m) s = .next (s)) ∧
  (∀ (s : State) (p : Nat), p < 6 → s.tcLanes p = true → s.tcHas p = true → s.on FB_ADDR_valid = true → s.get
    FB_DISC_CTRL_state ≠ 1 → (s.portQ p).msgs.foldl (fun n x => n + x.length) 0 < 64 → exec (.discProbe p) s = .next
    ((((s.set FB_DISC_CTRL_port p).set FB_DISC_CTRL_op 0).set FB_DISC_CTRL_state 1).setPortQ p
    { s.portQ p with msgs := (s.portQ p).msgs ++ [[ctHead 4 0 0 0 0 0 0]] })) ∧
  (∀ (s : State) (p : Nat), p < 6 → s.tcLanes p = true → s.tcHas p = true → s.on FB_ADDR_valid = true → s.get
    FB_DISC_CTRL_state ≠ 1 → (s.portQ p).msgs.foldl (fun n x => n + x.length) 0 + 3 ≤ 64 → exec (.discAssign p) s =
    .next ((((s.set FB_DISC_CTRL_port p).set FB_DISC_CTRL_op 1).set FB_DISC_CTRL_state 1).setPortQ p
    { s.portQ p with msgs := (s.portQ p).msgs ++ [[ctHead 6 2 0 0 0 0 0, s.get FB_DISC_ANS_HI_serial * 2 ^ 32 + s.get FB_DISC_ANS_LO_serial, s.get FB_DISC_ASSIGN_addr * 2 ^ 52 + s.get FB_DISC_ASSIGN_depth * 2 ^ 46]] })) ∧
  (∀ (s : State) (p : Nat), p < 6 → (s.tcLanes p = false ∨ s.on FB_ADDR_valid = false ∨ s.get FB_DISC_CTRL_state = 1)
    → exec (.discProbe p) s = .next (s.flag FB_STATUS_refused 127)) ∧
  (∀ (s : State) (p : Nat), p < 6 → (s.tcLanes p = false ∨ s.on FB_ADDR_valid = false ∨ s.get FB_DISC_CTRL_state = 1)
    → exec (.discAssign p) s = .next (s.flag FB_STATUS_refused 127)) ∧
  (∀ (s : State) (p serial info : Nat) (m : CtMsg), p < 6 → m.wf = true → isOp m 5 = true → m.body = [serial, info] →
    s.get FB_DISC_CTRL_state = 1 → s.get FB_DISC_CTRL_port = p → s.get FB_DISC_CTRL_op = 0 → ∃ t, exec (.probeAnswer p
    m) s = .next t ∧ t.get FB_DISC_ANS_LO_serial = serial % 2 ^ 32 ∧ t.get FB_DISC_ANS_HI_serial = serial / 2 ^ 32 ∧
    t.get FB_DISC_INFO_info = info % 2 ^ 32 ∧ t.get FB_DISC_CTRL_state = 2 ∧ Sparse.has 119 t.evReq = true ∧ Frame
    [.evReq] [FB_DISC_ANS_LO_serial, FB_DISC_ANS_HI_serial, FB_DISC_INFO_info, FB_DISC_CTRL_state, MG_EVLOG_merged] s
    t) ∧
  (∀ (s : State) (p serial info d : Nat) (m : CtMsg), p < 6 → m.wf = true → isOp m 5 = true → m.body = [serial, info]
    → s.get FB_DISC_CTRL_state = 1 → s.get FB_DISC_CTRL_port = p → s.get FB_DISC_CTRL_op ≠ 0 → d = s.get
    FB_DISC_ASSIGN_addr → bit info 15 = true → info % 2 ^ 12 = d → s.on (FB_ROUTE_en d) = false → ∃ t, exec
    (.probeAnswer p m) s = .next t ∧ t.get FB_DISC_CTRL_state = 4 ∧ t.get (FB_ROUTE_en d) = 1 ∧ t.get (FB_ROUTE_pri d)
    = p ∧ t.get (FB_ROUTE_sec d) = 15 ∧ t.get (FB_ROUTE_use_sec d) = 0 ∧ Sparse.has 119 t.evReq = true ∧ Frame
    [.evReq] [FB_DISC_CTRL_state, FB_ROUTE_en d, FB_ROUTE_pri d, FB_ROUTE_sec d, FB_ROUTE_use_sec d, MG_EVLOG_merged]
    s t) ∧
  (∀ (s : State) (p serial info : Nat) (m : CtMsg), p < 6 → m.wf = true → isOp m 5 = true → m.body = [serial, info] →
    s.get FB_DISC_CTRL_state = 1 → s.get FB_DISC_CTRL_port = p → s.get FB_DISC_CTRL_op ≠ 0 → (bit info 15 = false ∨
    info % 2 ^ 12 ≠ s.get FB_DISC_ASSIGN_addr) → exec (.probeAnswer p m) s = .next ((s.set FB_DISC_CTRL_state 5).raise
    119)) ∧
  (∀ (s : State) (p : Nat) (m : CtMsg), p < 6 → m.wf = true → isOp m 5 = true → (s.get FB_DISC_CTRL_state ≠ 1 ∨ s.get
    FB_DISC_CTRL_port ≠ p) → exec (.probeAnswer p m) s = .next (s)) ∧
  (∀ (s : State), s.get FB_DISC_CTRL_state = 1 → exec .discTimeout s = .next ((s.set FB_DISC_CTRL_state (if s.get
    FB_DISC_CTRL_op = 0 then 3 else 5)).raise 119)) ∧
  (∀ (s : State), s.get FB_DISC_CTRL_state ≠ 1 → exec .discTimeout s = .next (s))

/-- With a valid address and a command of the right code and direction: FC_MT_LOAD for this module stores the orbit
and arms an MT load; FORCE_FREEZE freezes as a forced freeze does, HISTOGRAM_SWAP is a write of swap;
START_ACQUISITION for an orbit to come, with no cause against it, gives state 1 and that orbit, for an orbit that has
begun the next orbit, counted late; STOP_ACQUISITION during acquisition gives state 3 and the orbit, without
acquisition nothing. A command addressed to another module joins the queue of the primary port of its route and
changes nothing else; a broadcast both acts and is queued on every down port. FRAME_GAP and ACCEPT_LOST reports join
the queue towards the root; a full queue of 64 drops the item, counts it and sets ct_drop. -/
def Obligations.FastCommandsActOrTravelOn : Prop :=
  (∀ (s : State) (w : FastIn), w.wf = true → fcCode w.item = 1 → bit w.item 55 = false → s.on FB_ADDR_valid = true →
    bit w.item 54 = false → bits w.item 32 12 = s.get FB_ADDR_addr → exec (.fcMtLoad w) s = .next (mtLoad (s.set
    CX_MT_LOAD_ORBIT_orbit (fcArg w.item)))) ∧
  (∀ (s : State) (w : FastIn), w.wf = true → fcCode w.item = 4 → bit w.item 55 = false → s.on FB_ADDR_valid = true →
    bit w.item 54 = false → bits w.item 32 12 = s.get FB_ADDR_addr → exec (.forceFreeze w) s = .next (freezeForce s)) ∧
  (∀ (s : State) (w : FastIn), w.wf = true → fcCode w.item = 5 → bit w.item 55 = false → s.on FB_ADDR_valid = true →
    bit w.item 54 = false → bits w.item 32 12 = s.get FB_ADDR_addr → exec (.histogramSwap w) s = .next (histSwapWrite
    s)) ∧
  (∀ (s : State) (w : FastIn), w.wf = true → fcCode w.item = 2 → bit w.item 55 = false → s.on FB_ADDR_valid = true →
    bit w.item 54 = false → bits w.item 32 12 = s.get FB_ADDR_addr → 0 < diffBkt s.mt.nb (fcArg w.item, 0) s.now →
    s.get CX_ACQ_STATUS_state < 2 → s.acqCause = none → exec (.startAcquisition w) s = .next ((s.set
    CX_ACQ_STATUS_state 1).set CX_ACQ_ORBIT_orbit (fcArg w.item))) ∧
  (∀ (s : State) (w : FastIn), w.wf = true → fcCode w.item = 2 → bit w.item 55 = false → s.on FB_ADDR_valid = true →
    bit w.item 54 = false → bits w.item 32 12 = s.get FB_ADDR_addr → diffBkt s.mt.nb (fcArg w.item, 0) s.now ≤ 0 →
    s.get CX_ACQ_STATUS_state < 2 → s.acqCause = none → exec (.startAcquisition w) s = .next (((s.count
    FB_CNT_fc_late).set CX_ACQ_STATUS_state 1).set CX_ACQ_ORBIT_orbit ((s.mt.orbit + 1) % 2 ^ 32))) ∧
  (∀ (s : State) (w : FastIn), w.wf = true → fcCode w.item = 3 → bit w.item 55 = false → s.on FB_ADDR_valid = true →
    bit w.item 54 = false → bits w.item 32 12 = s.get FB_ADDR_addr → 0 < diffBkt s.mt.nb (fcArg w.item, 0) s.now →
    s.acq = true → exec (.stopAcquisition w) s = .next ((s.set CX_ACQ_STATUS_state 3).set CX_ACQ_ORBIT_orbit (fcArg
    w.item))) ∧
  (∀ (s : State) (w : FastIn), w.wf = true → fcCode w.item = 3 → bit w.item 55 = false → s.on FB_ADDR_valid = true →
    bit w.item 54 = false → bits w.item 32 12 = s.get FB_ADDR_addr → s.get CX_ACQ_STATUS_state = 0 → 0 < diffBkt
    s.mt.nb (fcArg w.item, 0) s.now → exec (.stopAcquisition w) s = .next (s)) ∧
  (∀ (s : State) (w : FastIn) (d p : Nat), w.wf = true → fcCode w.item = 1 → bit w.item 55 = false → s.on
    FB_ADDR_valid = true → bit w.item 54 = false → bits w.item 32 12 = d → d ≠ s.get FB_ADDR_addr → s.on (FB_ROUTE_en
    d) = true → s.get (FB_ROUTE_pri d) = p → s.tcHas p = true → s.on (FB_ROUTE_use_sec d) = false → (s.portQ
    p).fast.length < 64 → exec (.fcMtLoad w) s = .next (s.setPortQ p
    { s.portQ p with fast := (s.portQ p).fast ++ [(0, w.item)] })) ∧
  (∀ (s : State) (w : FastIn) (d p : Nat), w.wf = true → fcCode w.item = 2 → bit w.item 55 = false → s.on
    FB_ADDR_valid = true → bit w.item 54 = false → bits w.item 32 12 = d → d ≠ s.get FB_ADDR_addr → s.on (FB_ROUTE_en
    d) = true → s.get (FB_ROUTE_pri d) = p → s.tcHas p = true → s.on (FB_ROUTE_use_sec d) = false → (s.portQ
    p).fast.length < 64 → exec (.startAcquisition w) s = .next (s.setPortQ p
    { s.portQ p with fast := (s.portQ p).fast ++ [(0, w.item)] })) ∧
  (∀ (s : State) (w : FastIn) (d p : Nat), w.wf = true → fcCode w.item = 3 → bit w.item 55 = false → s.on
    FB_ADDR_valid = true → bit w.item 54 = false → bits w.item 32 12 = d → d ≠ s.get FB_ADDR_addr → s.on (FB_ROUTE_en
    d) = true → s.get (FB_ROUTE_pri d) = p → s.tcHas p = true → s.on (FB_ROUTE_use_sec d) = false → (s.portQ
    p).fast.length < 64 → exec (.stopAcquisition w) s = .next (s.setPortQ p
    { s.portQ p with fast := (s.portQ p).fast ++ [(0, w.item)] })) ∧
  (∀ (s : State) (w : FastIn) (d p : Nat), w.wf = true → fcCode w.item = 4 → bit w.item 55 = false → s.on
    FB_ADDR_valid = true → bit w.item 54 = false → bits w.item 32 12 = d → d ≠ s.get FB_ADDR_addr → s.on (FB_ROUTE_en
    d) = true → s.get (FB_ROUTE_pri d) = p → s.tcHas p = true → s.on (FB_ROUTE_use_sec d) = false → (s.portQ
    p).fast.length < 64 → exec (.forceFreeze w) s = .next (s.setPortQ p
    { s.portQ p with fast := (s.portQ p).fast ++ [(0, w.item)] })) ∧
  (∀ (s : State) (w : FastIn) (d p : Nat), w.wf = true → fcCode w.item = 5 → bit w.item 55 = false → s.on
    FB_ADDR_valid = true → bit w.item 54 = false → bits w.item 32 12 = d → d ≠ s.get FB_ADDR_addr → s.on (FB_ROUTE_en
    d) = true → s.get (FB_ROUTE_pri d) = p → s.tcHas p = true → s.on (FB_ROUTE_use_sec d) = false → (s.portQ
    p).fast.length < 64 → exec (.histogramSwap w) s = .next (s.setPortQ p
    { s.portQ p with fast := (s.portQ p).fast ++ [(0, w.item)] })) ∧
  (∀ (s : State) (w : FastIn) (p : Nat), w.wf = true → fcCode w.item = 4 → bit w.item 55 = false → s.on FB_ADDR_valid
    = true → bit w.item 54 = true → s.get FB_DOWN_ports = 2 ^ p → p < 6 → s.upPort = some w.port → exec (.forceFreeze
    w) s = .next ((freezeForce s).pushFast p w.item s.nextFrame)) ∧
  (∀ (s : State) (port w p : Nat), port < 6 → w < 2 ^ 64 → fcCode w = 16 → bit w 55 = true → s.on FB_ADDR_valid = true
    → s.upQueue = some p → (s.portQ p).fast.length < 64 → exec (.frameGap port w) s = .next (s.setPortQ p
    { s.portQ p with fast := (s.portQ p).fast ++ [(0, w)] })) ∧
  (∀ (s : State) (port w p : Nat), port < 6 → w < 2 ^ 64 → fcCode w = 16 → bit w 55 = true → s.on FB_ADDR_valid = true
    → s.upQueue = some p → 64 ≤ (s.portQ p).fast.length → exec (.frameGap port w) s = .next ((s.count
    FB_CNT_ct_drop).set FB_STATUS_ct_drop 1)) ∧
  (∀ (s : State) (port w p : Nat), port < 6 → w < 2 ^ 64 → fcCode w = 17 → bit w 55 = true → s.on FB_ADDR_valid = true
    → s.upQueue = some p → (s.portQ p).fast.length < 64 → exec (.acceptLost port w) s = .next (s.setPortQ p
    { s.portQ p with fast := (s.portQ p).fast ++ [(0, w)] })) ∧
  (∀ (s : State) (port w p : Nat), port < 6 → w < 2 ^ 64 → fcCode w = 17 → bit w 55 = true → s.on FB_ADDR_valid = true
    → s.upQueue = some p → 64 ≤ (s.portQ p).fast.length → exec (.acceptLost port w) s = .next ((s.count
    FB_CNT_ct_drop).set FB_STATUS_ct_drop 1))

/-- PORT_LOST while the port has no such service, or while lanes still serve it, changes nothing. The loss of the
timing/control service of the active control up port, with the other up port in service, clears its bit, sets
port_lost and gives the other port as the active one. The loss of the data service of the active data up port, with
the other in service, likewise; the fragments it had been handed move to the other port's path, to be sent again from
their first block. PORT_REGAINED with lanes serving sets the service bit; with revert set, control traffic on the
secondary returns to a regained primary, and where neither up port had service it resumes on the one regained.
TIME_FOLLOW without an active control up port changes nothing; else the source lane is the lowest serving
timing/control lane of that port, and machine time that tracked a source lane leaves track. -/
def Obligations.PortsFailReturnAndTimeFollows : Prop :=
  (∀ (s : State) (p : Nat), p < 6 → (bit (s.get FB_PORTS_tc_up) p = false ∨ s.serving p 1 ≠ []) → exec (.portLost p
    false) s = .next (s)) ∧
  (∀ (s : State) (p : Nat), p < 6 → (bit (s.get FB_PORTS_data_up) p = false ∨ s.serving p 3 ≠ []) → exec (.portLost p
    true) s = .next (s)) ∧
  (∀ (s : State) (p q : Nat), p < 6 → s.upPort = some p → s.serving p 1 = [] → s.fb.tcSec = false → s.get FB_UP_tc_pri
    = p → s.get FB_UP_tc_sec = q → q ≠ p → s.tcHas q = true → ∃ t, exec (.portLost p false) s = .next t ∧ bit (t.get
    FB_PORTS_tc_up) p = false ∧ t.on FB_STATUS_port_lost = true ∧ t.upPort = some q ∧ t.get (FB_LINK_valid p) = 0 ∧
    PartFrame [.evReq, .fb, .mt, .free, .tg, .dies] s t) ∧
  (∀ (s : State) (p q : Nat), p < 6 → s.dataUp = some p → s.serving p 3 = [] → s.str.dSec = false → s.get FB_UP_d_pri
    = p → s.get FB_UP_d_sec = q → q ≠ p → q < 6 → bit (s.get FB_PORTS_data_up) q = true → ∃ t, exec (.portLost p true)
    s = .next t ∧ bit (t.get FB_PORTS_data_up) p = false ∧ t.on FB_STATUS_port_lost = true ∧ t.dataUp = some q ∧
    (t.path q).frags.length = (s.path q).frags.length + (s.path p).frags.length ∧ (t.path p).frags = [] ∧ PartFrame
    [.evReq, .fb, .str] s t) ∧
  (∀ (s : State) (p : Nat), p < 6 → bit (s.get FB_PORTS_tc_up) p = false → s.serving p 1 ≠ [] → s.upPort ≠ none → ∃ t,
    exec (.portRegained p false) s = .next t ∧ bit (t.get FB_PORTS_tc_up) p = true ∧ t.fb.tcSec = (s.fb.tcSec &&
    !(s.on FB_CTRL_revert && s.get FB_UP_tc_pri == p)) ∧ Frame [.fb, .evReq] ([FB_PORTS_tc_up, FB_CNT2_reroutes,
    FB_STATUS_reroute, MG_EVLOG_merged] ++ (List.range 4096).map FB_ROUTE_use_sec) s t) ∧
  (∀ (s : State) (p : Nat), p < 6 → bit (s.get FB_PORTS_data_up) p = false → s.serving p 3 ≠ [] → ∃ t, exec
    (.portRegained p true) s = .next t ∧ bit (t.get FB_PORTS_data_up) p = true ∧ (t.path p).started = true ∧ (t.path
    p).out = []) ∧
  (∀ (s : State) (p : Nat) (data : Bool), p < 6 → (s.serving p (if data then 3 else 1) = []) → exec (.portRegained p
    data) s = .next (s)) ∧
  (∀ (s : State), s.upPort = none → exec .timeFollow s = .next (s)) ∧
  (∀ (s : State) (p n : Nat), s.upPort = some p → (s.serving p 1).head? = some n → n < 48 → ∃ t, exec .timeFollow s =
    .next t ∧ t.get CX_MT_STATUS_src_lane = n ∧ t.get FB_UP_time_port = n / 8 ∧ ((s.get CX_MT_STATUS_state = 1 → s.get
    CX_MT_STATUS_src = 1 → t.get CX_MT_STATUS_state ≠ 1)) ∧ t.upPort = some p ∧ PartFrame [.evReq, .fb, .mt, .free,
    .tg, .dies] s t) ∧
  (∀ (s : State) (p : Nat), p < 6 → bit (s.get FB_PORTS_tc_up) p = false → s.serving p 1 ≠ [] → s.upPort = none →
    s.get FB_UP_tc_pri = p → ∃ t, exec (.portRegained p false) s = .next t ∧ bit (t.get FB_PORTS_tc_up) p = true ∧
    t.upPort = some p ∧ t.fb.tcSec = false ∧ Frame [.fb, .evReq] ([FB_PORTS_tc_up, FB_CNT2_reroutes,
    FB_STATUS_reroute, MG_EVLOG_merged] ++ (List.range 4096).map FB_ROUTE_use_sec) s t) ∧
  (∀ (s : State) (p : Nat), p < 6 → bit (s.get FB_PORTS_tc_up) p = false → s.serving p 1 ≠ [] → s.upPort = none →
    s.get FB_UP_tc_sec = p → ∃ t, exec (.portRegained p false) s = .next t ∧ bit (t.get FB_PORTS_tc_up) p = true ∧
    t.upPort = some p)

/-- PDELAY_TIMER asks every up port with service once, with the next sequence number. PDELAY_REQ at an addressed
module queues the response with its sequence number. PDELAY_RESP that answers the request, with a round trip of at
most 64 buckets and a delay of 0 to 2^24 − 1 ticks, enters the delay; the 16th gives FB_LINK.delay their mean and
valid; another response is a time error. SYNC with a saturated correction or over a link of unknown delay is a time
error and changes nothing else; else the difference D modulo the orbit, between minus and plus half an orbit, enters
FB_TIME_D, and SYNC goes on to the down port with the link delay added to its correction, to leave from the next
bucket on. ANNOUNCE counts the same announcement in a row: below qual it only stands as candidate; at qual in state 0
the master is set, state 1, EV 122; in state 1 one that ranks above the master is set with state 3. MASTER_LOST in
state 1 gives state 2 and EV 121. -/
def Obligations.SolamMeasuresLinksAndElectsAMaster : Prop :=
  (∀ (s : State) (p : Nat), p < 6 → ∃ t, exec .pdelayTimer s = .next t ∧ ((t.portQ p).asked = (if s.tcHas p ∧ (s.get
    FB_UP_tc_pri = p ∨ s.get FB_UP_tc_sec = p) then ((s.portQ p).seq, s.clock) :: (s.portQ p).asked.filter (fun e =>
    decide (s.clock ≤ e.2 + 64) && e.1 != (s.portQ p).seq) else (s.portQ p).asked)) ∧ ((t.portQ p).solam = (if s.tcHas
    p ∧ (s.get FB_UP_tc_pri = p ∨ s.get FB_UP_tc_sec = p) then (s.portQ p).solam ++ [(s.clock, .req (s.portQ p).seq)]
    else (s.portQ p).solam)) ∧ Frame [.fb] [] s t) ∧
  (∀ (s : State) (p seq ta : Nat), p < 6 → seq < 16 → s.on FB_ADDR_valid = true → exec (.pdelayReq p seq ta) s = .next
    (s.setPortQ p { s.portQ p with solam := (s.portQ p).solam ++ [(s.clock, .resp seq ta)] })) ∧
  (∀ (s : State) (p seq ta : Nat) (rtt : Int) (l : List Nat), p < 6 → seq < 16 → ta < 2 ^ 25 → s.on FB_ADDR_valid =
    true → ((s.portQ p).asked.any fun e => e.1 == seq) = true → (ta : Int) ≤ rtt → rtt ≤ 64 * 32768 → l = (((rtt - ta)
    / 2).toNat :: (s.portQ p).delays).take 16 → ∃ t, exec (.pdelayResp p seq ta rtt) s = .next t ∧ t.portQ p =
    { s.portQ p with asked := (s.portQ p).asked.filter (fun e => e.1 != seq), delays := l } ∧ ((l.length = 16 → t.get
    (FB_LINK_valid p) = 1)) ∧ ((l.length = 16 → t.get (FB_LINK_delay p) = (l.foldl (· + ·) 0 / 16) % 2 ^ 24)) ∧ Frame
    [.fb] [FB_LINK_valid p, FB_LINK_delay p] s t) ∧
  (∀ (s : State) (p seq ta : Nat) (rtt : Int), p < 6 → seq < 16 → ta < 2 ^ 25 → s.on FB_ADDR_valid = true → (((s.portQ
    p).asked.any fun e => e.1 == seq) = false ∨ rtt < ta ∨ 64 * 32768 < rtt) → ∃ t, exec (.pdelayResp p seq ta rtt) s
    = .next t ∧ t.portQ p = { s.portQ p with asked := (s.portQ p).asked.filter (fun e => e.1 != seq) } ∧ t.get
    FB_CNT3_time_err = min (s.get FB_CNT3_time_err + 1) (2 ^ FB_CNT3_time_err.width - 1) ∧ t.on FB_STATUS_time_err =
    true ∧ Frame [.fb, .evReq] [FB_CNT3_time_err, FB_STATUS_time_err, MG_EVLOG_merged] s t) ∧
  (∀ (s : State) (w ta : Nat), w < 2 ^ 64 → ta < 2 ^ 32 → s.on FB_ADDR_valid = true → (w % 2 ^ 25 = 2 ^ 25 - 1 ∨ s.on
    (FB_LINK_valid (s.get CX_MT_STATUS_src_lane / 8)) = false) → exec (.sync w ta) s = .next ((s.count
    FB_CNT3_time_err).flag FB_STATUS_time_err 126)) ∧
  (∀ (s : State) (w ta p : Nat) (x m o : Int), w < 2 ^ 64 → ta < 2 ^ 32 → s.on FB_ADDR_valid = true → w % 2 ^ 25 ≠ 2 ^
    25 - 1 → p = s.get CX_MT_STATUS_src_lane / 8 → s.on (FB_LINK_valid p) = true → s.get CX_MT_STATUS_state = 0 →
    s.get FB_TIME_STATUS_state ≠ 3 → s.downPorts = [] → 0 < s.mt.nb → s.mt.nb ≤ 65536 → o = 32768 * s.mt.nb → x = ((w
    / 2 ^ 40 % 2 ^ 16 * 32768 + w / 2 ^ 25 % 2 ^ 15 + w % 2 ^ 25 + s.get (FB_LINK_delay p) : Nat) : Int) - ta → m = x
    % o → exec (.sync w ta) s = .next (s.set FB_TIME_D_d (unsigned 32 (if o < 2 * m then m - o else m)))) ∧
  (∀ (s : State) (w ta p q : Nat), w < 2 ^ 64 → ta < 2 ^ 32 → s.on FB_ADDR_valid = true → w % 2 ^ 25 ≠ 2 ^ 25 - 1 → p
    = s.get CX_MT_STATUS_src_lane / 8 → s.on (FB_LINK_valid p) = true → s.get CX_MT_STATUS_state = 0 → s.get
    FB_TIME_STATUS_state ≠ 3 → s.downPorts = [q] → ∃ t, exec (.sync w ta) s = .next t ∧ (t.portQ q).solam = (s.portQ
    q).solam ++ [(s.nextFrame, .sync w (w % 2 ^ 25 + s.get (FB_LINK_delay p)) ta)] ∧ Frame [.fb] [FB_TIME_D_d] s t) ∧
  (∀ (s : State) (w prio master : Nat), w < 2 ^ 64 → s.on FB_ADDR_valid = true → w / 2 ^ 53 % 2 ^ 8 = prio → w / 2 ^
    41 % 2 ^ 12 = master → s.fb.cand = none → 1 < s.get FB_TIME_CTRL_qual → (s.get FB_TIME_STATUS_state = 0 ∨ s.get
    FB_TIME_STATUS_state = 2) → w / 2 ^ 35 % 2 ^ 6 = 63 → exec (.announce w) s = .next
    ({ s with fb := { s.fb with cand := some (prio, master, 1) } })) ∧
  (∀ (s : State) (w prio master k : Nat), w < 2 ^ 64 → s.on FB_ADDR_valid = true → w / 2 ^ 53 % 2 ^ 8 = prio → w / 2 ^
    41 % 2 ^ 12 = master → s.fb.cand = some (prio, master, k) → s.get FB_TIME_CTRL_qual ≤ k + 1 → s.get
    FB_TIME_STATUS_state = 0 → ∃ t, exec (.announce w) s = .next t ∧ t.get FB_TIME_STATUS_state = 1 ∧ t.get
    FB_TIME_STATUS_prio = prio ∧ t.get FB_TIME_STATUS_master = master ∧ t.get FB_TIME_STATUS_steps = w / 2 ^ 35 % 2 ^
    6 ∧ t.get FB_STATUS_master = 1 ∧ t.fb.cand = none ∧ Sparse.has 122 t.evReq = true) ∧
  (∀ (s : State) (w prio master k : Nat), w < 2 ^ 64 → s.on FB_ADDR_valid = true → w / 2 ^ 53 % 2 ^ 8 = prio → w / 2 ^
    41 % 2 ^ 12 = master → s.fb.cand = some (prio, master, k) → s.get FB_TIME_CTRL_qual ≤ k + 1 → s.get
    FB_TIME_STATUS_state = 1 → ranksAbove (prio, master) (s.get FB_TIME_STATUS_prio, s.get FB_TIME_STATUS_master) =
    true → ∃ t, exec (.announce w) s = .next t ∧ t.get FB_TIME_STATUS_state = 3 ∧ t.get FB_TIME_STATUS_prio = prio ∧
    t.get FB_TIME_STATUS_master = master ∧ ((s.get CX_MT_STATUS_state = 1 → t.get CX_MT_STATUS_state ≠ 1)) ∧
    Sparse.has 122 t.evReq = true ∧ PartFrame [.evReq, .fb, .mt, .free, .tg, .dies] s t) ∧
  (∀ (s : State), s.get FB_TIME_STATUS_state = 1 → ∃ t, exec .masterLost s = .next t ∧ t.get FB_TIME_STATUS_state = 2
    ∧ t.get FB_STATUS_master = 1 ∧ Sparse.has 121 t.evReq = true ∧ ((s.get CX_MT_STATUS_state = 1 → t.get
    CX_MT_STATUS_state ≠ 1))) ∧
  (∀ (s : State), s.get FB_TIME_STATUS_state ≠ 1 → exec .masterLost s = .next (s))

/-- CRITICAL_WORD_VOTE over three copies: intact where all pass parity and agree, and nothing changes; where one fails
parity and the others agree, the CX counts a correction and runs from their data; where all pass and differ, a dispute
is counted with the word and raised, and the word runs from the bitwise majority (for a lane-role word: its shadow);
where two or more fail, the vote is unresolved, counted and raised, and the word keeps its value. In the SV an
unresolved vote takes the arbiter (words below 24) or the bias guard to its safe side and raises EV 488.
FAULT_WINDOW_EXPIRY drops the count of the class and word. MERGE_BUFFER_TIMEOUT of an open buffer writes the word with
the bytes held, and empties the buffer; where the plate word is uncorrectable, the word stays, mbuf_err is set and the
error is recorded as found by a fill. -/
def Obligations.VotesFaultsAndMergeBuffers : Prop :=
  (∀ (s : State) (w a b c : Nat) (u : Nat), w < 64 → a < 2 ^ 69 → b < 2 ^ 69 → c < 2 ^ 69 → u < 4 → copyGood a = true
    → copyGood b = true → copyGood c = true → copySame a b = true → copySame b c = true → exec (.criticalWordVote 0 w
    [a, b, c] u) s = .next (s)) ∧
  (∀ (s : State) (w a b c : Nat) (u : Nat), w < 64 → a < 2 ^ 69 → b < 2 ^ 69 → c < 2 ^ 69 → u < 4 → copyGood a = true
    → copyGood b = true → copyGood c = true → copySame a b = true → copySame b c = true → exec (.criticalWordVote 1 w
    [a, b, c] u) s = .next (s)) ∧
  (∀ (s : State) (w a b c : Nat), w < 64 → a < 2 ^ 69 → b < 2 ^ 69 → c < 2 ^ 69 → copyGood a = false → copyGood b =
    true → copyGood c = true → copySame b c = true → exec (.criticalWordVote 0 w [a, b, c] 0) s = .next ((s.count
    CX_ECC_CNT_corr).critPut w (b % 2 ^ 64))) ∧
  (∀ (s : State) (w a b c : Nat), w < 64 → a < 2 ^ 69 → b < 2 ^ 69 → c < 2 ^ 69 → copyGood a = true → copyGood b =
    false → copyGood c = true → copySame a c = true → exec (.criticalWordVote 0 w [a, b, c] 0) s = .next ((s.count
    CX_ECC_CNT_corr).critPut w (a % 2 ^ 64))) ∧
  (∀ (s : State) (w a b c : Nat), w < 64 → a < 2 ^ 69 → b < 2 ^ 69 → c < 2 ^ 69 → copyGood a = true → copyGood b =
    true → copyGood c = false → copySame a b = true → exec (.criticalWordVote 0 w [a, b, c] 0) s = .next ((s.count
    CX_ECC_CNT_corr).critPut w (a % 2 ^ 64))) ∧
  (∀ (s : State) (w a b c : Nat), w < 64 → a < 2 ^ 69 → b < 2 ^ 69 → c < 2 ^ 69 → copyGood a = true → copyGood b =
    true → copyGood c = true → (copySame a b = false ∨ copySame b c = false) → w < 18 →
    let v := Nat.lor (Nat.lor (Nat.land (a % 2 ^ 64) (b % 2 ^ 64)) (Nat.land (a % 2 ^ 64) (c % 2 ^ 64))) (Nat.land (b
      % 2 ^ 64) (c % 2 ^ 64))
    ∃ t, exec (.criticalWordVote 0 w [a, b, c] 0) s = .next t ∧ Sparse.get 0 ((8 + w / 3) * 16 + w % 3) t.plate.shadow
      = v ∧ t.get CX_TMR_CNT_disputed = min (s.get CX_TMR_CNT_disputed + 1) (2 ^ CX_TMR_CNT_disputed.width - 1) ∧
      t.get CX_TMR_CNT_last = w ∧ t.get CX_PROT_STATUS_dispute = 1 ∧ Sparse.has 144 t.evReq = true ∧ Frame [.plate,
      .prot, .evReq] [CX_TMR_CNT_disputed, CX_TMR_CNT_last, CX_PROT_STATUS_dispute, MG_EVLOG_merged] s t) ∧
  (∀ (s : State) (w a b c : Nat), w < 64 → a < 2 ^ 69 → b < 2 ^ 69 → c < 2 ^ 69 → copyGood a = false → copyGood b =
    false → copyGood c = true → ∃ t, exec (.criticalWordVote 0 w [a, b, c] 0) s = .next t ∧ t.get
    CX_TMR_CNT_unresolved = min (s.get CX_TMR_CNT_unresolved + 1) (2 ^ CX_TMR_CNT_unresolved.width - 1) ∧ t.get
    CX_PROT_STATUS_unresolved = 1 ∧ t.plate = s.plate ∧ Sparse.has 144 t.evReq = true ∧ Frame [.prot, .evReq]
    [CX_TMR_CNT_unresolved, CX_PROT_STATUS_unresolved, MG_EVLOG_merged] s t) ∧
  (∀ (s : State) (w a b c : Nat), w < 64 → a < 2 ^ 69 → b < 2 ^ 69 → c < 2 ^ 69 → copyGood a = true → copyGood b =
    false → copyGood c = false → ∃ t, exec (.criticalWordVote 0 w [a, b, c] 0) s = .next t ∧ t.get
    CX_TMR_CNT_unresolved = min (s.get CX_TMR_CNT_unresolved + 1) (2 ^ CX_TMR_CNT_unresolved.width - 1) ∧ t.get
    CX_PROT_STATUS_unresolved = 1 ∧ t.plate = s.plate ∧ Sparse.has 144 t.evReq = true ∧ Frame [.prot, .evReq]
    [CX_TMR_CNT_unresolved, CX_PROT_STATUS_unresolved, MG_EVLOG_merged] s t) ∧
  (∀ (s : State) (w a b c : Nat), w < 64 → a < 2 ^ 69 → b < 2 ^ 69 → c < 2 ^ 69 → copyGood a = false → copyGood b =
    false → copyGood c = false → ∃ t, exec (.criticalWordVote 0 w [a, b, c] 0) s = .next t ∧ t.get
    CX_TMR_CNT_unresolved = min (s.get CX_TMR_CNT_unresolved + 1) (2 ^ CX_TMR_CNT_unresolved.width - 1) ∧ t.get
    CX_PROT_STATUS_unresolved = 1 ∧ t.plate = s.plate ∧ Sparse.has 144 t.evReq = true ∧ Frame [.prot, .evReq]
    [CX_TMR_CNT_unresolved, CX_PROT_STATUS_unresolved, MG_EVLOG_merged] s t) ∧
  (∀ (s : State) (w a b c : Nat) (u : Nat), w < 64 → a < 2 ^ 69 → b < 2 ^ 69 → c < 2 ^ 69 → u < 4 → 24 ≤ w → copyGood
    a = false → copyGood b = false → copyGood c = true → exec (.criticalWordVote 1 w [a, b, c] u) s = .next
    (((s.countWrap SV_TMR_STATUS_unresolved).critTag 1 w (Sparse.get 0 (64 + w) s.prot.tags + 1)).guardSafe.raise
    488)) ∧
  (∀ (s : State) (w a b c : Nat) (u : Nat), w < 64 → a < 2 ^ 69 → b < 2 ^ 69 → c < 2 ^ 69 → u < 4 → w < 24 → copyGood
    a = false → copyGood b = false → copyGood c = true → exec (.criticalWordVote 1 w [a, b, c] u) s = .next
    ((State.arbSafe ((s.countWrap SV_TMR_STATUS_unresolved).critTag 1 w (Sparse.get 0 (64 + w) s.prot.tags + 1))
    u).raise 488)) ∧
  (∀ (s : State) (cls m i : Nat), cls < 2 → m < 16 → i < 2 ^ 24 → ∃ t, exec (.faultWindowExpiry cls m i) s = .next t ∧
    (t.prot.track.all fun x => !(x.cls == cls && x.mem == m && x.index == i)) = true ∧ Frame [.prot] [] s t) ∧
  (∀ (s : State) (cls m i : Nat), 2 ≤ cls → cls < 5 → m < 16 → i < 2 ^ 24 → exec (.faultWindowExpiry cls m i) s =
    .next
    ({ s with prot := { s.prot with counts := Sparse.put 0 (cls * 256 + (if cls = 4 then i else m)) 0 s.prot.counts } })) ∧
  (∀ (s : State) (k : Nat) (r : EccResult), k < 3 → s.prot.bufPlate = none → s.prot.bufRam = none → s.prot.bufTest =
    none → exec (.mergeBufferTimeout k r) s = .next (s)) ∧
  (∀ (s : State) (b : MBuf), s.prot.bufPlate = some b → s.mark memPlate b.word = 0 → ∃ t, exec (.mergeBufferTimeout 0
    .clean) s = .next t ∧ t.plate.mem = Sparse.put 0 b.word (mergeBytes8 (Sparse.get 0 b.word s.plate.mem) b.data
    b.mask % 2 ^ 64) s.plate.mem ∧ t.prot.bufPlate = none ∧ Frame [.plate, .prot] [] s t) ∧
  (∀ (s : State) (b : MBuf) (r : EccResult), s.prot.bufPlate = some b → (s.mark memPlate b.word = 1 ∨ (s.mark memPlate
    b.word = 0 ∧ r = .uncorrectable)) → ∃ t, exec (.mergeBufferTimeout 0 r) s = .next t ∧ t.plate.mem = s.plate.mem ∧
    t.prot.bufPlate = none ∧ t.on CX_PROT_STATUS_mbuf_err = true ∧ t.get CX_ECC_CNT_uncorr = min (s.get
    CX_ECC_CNT_uncorr + 1) (2 ^ CX_ECC_CNT_uncorr.width - 1) ∧ t.get CX_ECC_LAST_found_by = 3 ∧ t.get
    CX_ECC_LAST_memory = 3) ∧
  (∀ (s : State) (b : MBuf), s.prot.bufRam = some b → s.mark memIram b.word = 0 → ∃ t, exec (.mergeBufferTimeout 1
    .clean) s = .next t ∧ t.iramWord b.word = mergeBytes8 (s.iramWord b.word) b.data b.mask % 2 ^ 64 ∧ t.prot.bufRam =
    none ∧ Frame [.mg, .prot] [] s t) ∧
  (∀ (s : State) (b : MBuf) (k : Nat), s.prot.bufTest = some b → s.mark (b.word / 2 ^ 24) (b.word % 2 ^ 24) = 0 → k =
    entryKey (8 * (b.word / 2 ^ 24 - 1) + b.word % 2 ^ 24 / 2 ^ 20) (b.word % 2 ^ 20) → ∃ t, exec (.mergeBufferTimeout
    2 .clean) s = .next t ∧ Sparse.get 0 k t.store.entries = mergeBytes8 (Sparse.get 0 k s.store.entries) b.data
    b.mask % 2 ^ 64 ∧ t.prot.bufTest = none ∧ Frame [.store, .prot] [] s t)

/-- PATROL_READ with patrol disabled or not begun on the memory changes nothing. Else it reads the next word that
burnish does not skip: a clean one moves the position on, after the last word to the start with one more pass counted;
a corrected one is counted, recorded as kind 1 found by patrol and tracked; an uncorrectable byte of the data RAM is
counted, recorded as kind 2, written 0 and marked poison; a word that holds the poison code is only recorded as kind
3. BURNISH_PASS_GO with a pass running or waiting, or for no memory, is refused; else the pass is set up over the
range, waiting in state 2 for a burnish window if it is of a hit store, else running. BURNISH_PASS_ABORT ends it at
the next word. HOST_PASS_READ reads and counts its next word. BURNISH_DONE at its end stores the sums, state 3 and
raises EV 146. BURNISH_WINDOW_END sends an unfinished hit-store pass back to waiting. -/
def Obligations.BurnishReadsRepairsAndReports : Prop :=
  (∀ (s : State) (m : Nat) (r : EccResult) (o : Option (Nat × Nat)), 0 < m → m < 11 → (s.on CX_BN_CTRL_patrol_en =
    false ∨ bit s.prot.started m = false) → exec (.patrolRead m r o) s = .next (s)) ∧
  (∀ (s : State) (m i : Nat) (o : Option (Nat × Nat)), 0 < m → m < 11 → s.on CX_BN_CTRL_patrol_en = true → bit
    s.prot.started m = true → s.bnNext m (memSize m) bnFuel (Sparse.get 0 m s.prot.pos) = some i → s.mark m i = 0 → ∃
    t, exec (.patrolRead m .clean o) s = .next t ∧ (Sparse.get 0 m t.prot.pos = (if i + 1 < memSize m then i + 1 else
    0)) ∧ (Sparse.get 0 m t.prot.passes = (if i + 1 < memSize m then Sparse.get 0 m s.prot.passes else (Sparse.get 0 m
    s.prot.passes + 1) % 65536)) ∧ t.prot.marks = s.prot.marks ∧ Frame [.prot] [] s t) ∧
  (∀ (s : State) (m i : Nat) (o : Option (Nat × Nat)), 0 < m → m < 11 → s.on CX_BN_CTRL_patrol_en = true → bit
    s.prot.started m = true → s.bnNext m (memSize m) bnFuel (Sparse.get 0 m s.prot.pos) = some i → s.mark m i = 0 → 3
    ≤ m → s.prot.track = [] → 1 < s.get (CX_FLT_CLASS_n 0) → ∃ t, exec (.patrolRead m .corrected o) s = .next t ∧
    t.get CX_ECC_CNT_corr = min (s.get CX_ECC_CNT_corr + 1) (2 ^ CX_ECC_CNT_corr.width - 1) ∧ t.get CX_ECC_LAST_kind =
    1 ∧ t.get CX_ECC_LAST_found_by = 1 ∧ t.get CX_ECC_LAST_memory = m ∧ t.get CX_ECC_LAST_index = i % 2 ^ 23 ∧
    t.prot.track = [⟨0, m, i, 1⟩] ∧ Frame [.prot, .evReq] [CX_ECC_LAST_kind, CX_ECC_LAST_found_by, CX_ECC_LAST_memory,
    CX_ECC_LAST_index, CX_ECC_CNT_corr, MG_EVLOG_merged] s t) ∧
  (∀ (s : State) (i : Nat) (r : EccResult) (o : Option (Nat × Nat)), s.on CX_BN_CTRL_patrol_en = true → bit
    s.prot.started 8 = true → s.bnNext 8 (memSize 8) bnFuel (Sparse.get 0 8 s.prot.pos) = some i → (s.mark 8 i = 1 ∨
    (s.mark 8 i = 0 ∧ r = .uncorrectable)) → ∃ t, exec (.patrolRead 8 r o) s = .next t ∧ t.get CX_ECC_CNT_uncorr = min
    (s.get CX_ECC_CNT_uncorr + 1) (2 ^ CX_ECC_CNT_uncorr.width - 1) ∧ t.get CX_ECC_LAST_kind = 2 ∧ t.get
    CX_ECC_LAST_index = i % 2 ^ 23 ∧ t.on CX_PROT_STATUS_uncorr = true ∧ t.mark 8 i = 2 ∧ Sparse.get 0 i t.mg.dram = 0
    ∧ Frame [.prot, .evReq, .mg] [CX_ECC_LAST_kind, CX_ECC_LAST_found_by, CX_ECC_LAST_memory, CX_ECC_LAST_index,
    CX_ECC_CNT_uncorr, CX_PROT_STATUS_uncorr, MG_EVLOG_merged] s t) ∧
  (∀ (s : State) (m i : Nat) (r : EccResult) (o : Option (Nat × Nat)), 0 < m → m < 11 → s.on CX_BN_CTRL_patrol_en =
    true → bit s.prot.started m = true → s.bnNext m (memSize m) bnFuel (Sparse.get 0 m s.prot.pos) = some i → s.mark m
    i = 2 → ∃ t, exec (.patrolRead m r o) s = .next t ∧ t.get CX_ECC_LAST_kind = 3 ∧ t.get CX_ECC_LAST_found_by = 1 ∧
    t.get CX_ECC_LAST_memory = m ∧ t.get CX_ECC_LAST_index = i % 2 ^ 23 ∧ t.prot.marks = s.prot.marks ∧ Frame [.prot]
    [CX_ECC_LAST_kind, CX_ECC_LAST_found_by, CX_ECC_LAST_memory, CX_ECC_LAST_index] s t) ∧
  (∀ (s : State) (m : Nat), m < 16 → (s.get CX_BN_PASS_CTRL_state = 1 ∨ s.get CX_BN_PASS_CTRL_state = 2 ∨ memSize m =
    0) → exec (.burnishPassGo m) s = .next ((s.set CX_BN_PASS_CTRL_memory m).set CX_PROT_STATUS_pass_refused 1)) ∧
  (∀ (s : State) (m lo n : Nat), 0 < m → m < 11 → (s.get CX_BN_PASS_CTRL_state = 0 ∨ s.get CX_BN_PASS_CTRL_state = 3)
    → s.get CX_BN_PASS_START_index = lo → s.get CX_BN_PASS_LEN_count = n → exec (.burnishPassGo m) s = .next
    (({ (s.set CX_BN_PASS_CTRL_memory m) with prot := { s.prot with pass := some ⟨m, if n = 0 then 0 else lo, if n = 0 then memSize m else min (memSize m) (lo + n), 0, 0, 0, 0⟩ } }
    : State).set CX_BN_PASS_CTRL_state (if m ≤ 2 ∧ s.activity ≠ some 3 then 2 else 1))) ∧
  (∀ (s : State) (p : BnPass), s.prot.pass = some p → p.next ≤ p.stop → ∃ t, exec .burnishPassAbort s = .next t ∧
    t.prot.pass = some { p with stop := p.next } ∧ Frame [.prot] [] s t) ∧
  (∀ (s : State), s.prot.pass = none → exec .burnishPassAbort s = .next (s)) ∧
  (∀ (s : State) (p : BnPass) (i : Nat) (r : EccResult) (o : Option (Nat × Nat)), s.prot.pass = some p → s.get
    CX_BN_PASS_CTRL_state = 1 → s.bnNext p.mem p.stop bnFuel p.next = some i → s.mark p.mem i = 0 → r = .clean → ∃ t,
    exec (.hostPassRead r o) s = .next t ∧ t.prot.pass = some { p with next := i + 1, read := p.read + 1 } ∧ Frame
    [.prot] [] s t) ∧
  (∀ (s : State) (p : BnPass) (i : Nat) (o : Option (Nat × Nat)), s.prot.pass = some p → p.mem = 8 → s.get
    CX_BN_PASS_CTRL_state = 1 → s.bnNext p.mem p.stop bnFuel p.next = some i → s.mark p.mem i = 0 → ∃ t, exec
    (.hostPassRead .uncorrectable o) s = .next t ∧ t.prot.pass = some
    { p with next := i + 1, read := p.read + 1, uncorr := p.uncorr + 1 } ∧ t.get CX_ECC_LAST_found_by = 2 ∧ t.mark 8 i
    = 2) ∧
  (∀ (s : State) (r : EccResult) (o : Option (Nat × Nat)), (s.prot.pass = none ∨ s.get CX_BN_PASS_CTRL_state ≠ 1) →
    exec (.hostPassRead r o) s = .next (s)) ∧
  (∀ (s : State) (p : BnPass) (n : Nat), n < 2 ^ 32 → s.prot.pass = some p → s.bnNext p.mem p.stop bnFuel p.next =
    none → p.read < 2 ^ 24 → p.corr < 2 ^ 24 → ∃ t, exec (.burnishDone n) s = .next t ∧ t.prot.pass = none ∧ t.get
    CX_BN_SUM_READ_count = p.read ∧ t.get CX_BN_SUM_CORR_count = p.corr ∧ t.get CX_BN_SUM_UNCORR_uncorr = min p.uncorr
    0xFFFF ∧ t.get CX_BN_SUM_UNCORR_repaired = min p.repaired 0xFFFF ∧ t.get CX_BN_SUM_TIME_bk = n ∧ t.get
    CX_BN_PASS_CTRL_state = 3 ∧ Sparse.has 146 t.evReq = true ∧ Frame [.prot, .evReq] [CX_BN_SUM_READ_count,
    CX_BN_SUM_CORR_count, CX_BN_SUM_UNCORR_uncorr, CX_BN_SUM_UNCORR_repaired, CX_BN_SUM_TIME_bk,
    CX_BN_PASS_CTRL_state, MG_EVLOG_merged] s t) ∧
  (∀ (s : State) (n : Nat), s.prot.pass = none → exec (.burnishDone n) s = .next (s)) ∧
  (∀ (s : State) (p : BnPass), s.activity = some 3 → s.prot.pass = some p → p.mem ≤ 2 → s.get CX_BN_PASS_CTRL_state =
    1 → exec .burnishWindowEnd s = .next (({ s with activity := none } : State).set CX_BN_PASS_CTRL_state 2)) ∧
  (∀ (s : State), s.activity ≠ some 3 → exec .burnishWindowEnd s = .next (s))

/-- FEED_QUALIFIED of a qualified feed changes nothing; without conversion it starts the unit by the soft start of
R439 with the built-in set, reference 0, loop from 0, closed; with conversion the unit off enters standby with the
other unit's loop. FEED_OUT_OF_RANGE clears feed_ok, counts a drop and stops the unit. UNIT_OVERTEMPERATURE latches a
fault with cause 5, counts it and stops the unit; with a fault latched it changes nothing. Where the unit stopped is
active and the other is a ready standby, that one takes over with its measurement blanked for two periods.
PU_TEMP_WARNING sets temp_warn. PU_OUT takes a standby out, is refused for an active unit, and with out = 0 returns a
ready unit that is off to standby. PU_FAULT_CLEAR clears a latched fault. LAST_UNIT_RESTART of the qualified, failed
unit, fewer than three restarts counted, clears the fault, counts the restart and starts the unit. -/
def Obligations.FeedsAndFaultsStartAndStopUnits : Prop :=
  (∀ (s : State) (u : Nat), u < 2 → s.on (PU_STATUS_feed_ok u) = true → exec (.feedQualified u) s = .next (s)) ∧
  (∀ (s : State) (u : Nat), u < 2 → s.on (PU_STATUS_feed_ok u) = false → s.converting = false → s.shut.contains
    .conversion = false → s.get (PU_STATUS_role u) = 0 → s.on (PU_STATUS_fault u) = false → s.on (PU_CTRL_out u) =
    false → (u = 0 ∨ s.get (PU_STATUS_role 0) ≠ 0 ∨ s.unitReady 0 = false) → ∃ t, exec (.feedQualified u) s = .next t
    ∧ t.get (PU_STATUS_feed_ok u) = 1 ∧ (t.unit u).soft = some 0 ∧ (t.unit u).loop = Loop.new ∧ t.get (PU_STATUS_role
    u) = 3 ∧ t.get (LE_CTRL_closed u) = 1 ∧ t.get (LE_CTRL_host_in_force u) = 0 ∧ t.get SV_ARB_STATUS_active = u ∧
    t.converting = true ∧ BlockFrame [.evReq, .shut, .pwr, .activity] [(0x50000000, 0x52FFFFFF), (0x1000C210,
    0x1000C210)] s t) ∧
  (∀ (s : State) (u : Nat), u < 2 → s.on (PU_STATUS_feed_ok u) = false → s.converting = true → s.get (PU_STATUS_role
    u) = 0 → s.on (PU_STATUS_fault u) = false → s.on (PU_CTRL_out u) = false → s.shut.contains (.unit u) = false → ∃
    t, exec (.feedQualified u) s = .next t ∧ t.get (PU_STATUS_feed_ok u) = 1 ∧ t.get (PU_STATUS_role u) = 1 ∧ (t.unit
    u).loop = (s.unit (other u)).loop ∧ t.get (PU_STATUS_peer_lost (other u)) = 0 ∧ BlockFrame [.evReq, .shut, .pwr,
    .activity] [(0x50000000, 0x52FFFFFF), (0x1000C210, 0x1000C210)] s t) ∧
  (∀ (s : State) (u : Nat), u < 2 → s.on (PU_STATUS_feed_ok u) = false → exec (.feedOutOfRange u) s = .next (s)) ∧
  (∀ (s : State) (u : Nat), u < 2 → s.on (PU_STATUS_feed_ok u) = true → s.get (PU_STATUS_role u) = 1 → s.shut.contains
    (.unit u) = false → (s.unit u).soft = none → ∃ t, exec (.feedOutOfRange u) s = .next t ∧ t.get (PU_STATUS_feed_ok
    u) = 0 ∧ t.get (PU_CNT_feed_drop u) = min (s.get (PU_CNT_feed_drop u) + 1) (2 ^ (PU_CNT_feed_drop u).width - 1) ∧
    t.get (PU_STATUS_role u) = 3 ∧ t.shut.contains (.unit u) = true ∧ t.get (PU_STATUS_role (other u)) = s.get
    (PU_STATUS_role (other u)) ∧ BlockFrame [.evReq, .shut, .pwr, .activity] [(0x50000000, 0x52FFFFFF), (0x1000C210,
    0x1000C210)] s t) ∧
  (∀ (s : State) (u : Nat), u < 2 → s.on (PU_STATUS_feed_ok u) = true → s.get (PU_STATUS_role u) = 2 → s.get
    (PU_STATUS_role (other u)) = 1 → s.unitReady (other u) = true → s.shut.contains (.unit u) = false → ∃ t, exec
    (.feedOutOfRange u) s = .next t ∧ t.get (PU_STATUS_feed_ok u) = 0 ∧ t.get (PU_CNT_feed_drop u) = min (s.get
    (PU_CNT_feed_drop u) + 1) (2 ^ (PU_CNT_feed_drop u).width - 1) ∧ t.get (PU_STATUS_role u) = 3 ∧ t.get
    (PU_STATUS_role (other u)) = 2 ∧ t.get SV_ARB_STATUS_active = other u ∧ t.shut.contains (.unit u) = true ∧ t.get
    (LE_CTRL_closed u) = 0 ∧ (t.unit (other u)).blank = 2 ∧ BlockFrame [.evReq, .shut, .pwr, .activity] [(0x50000000,
    0x52FFFFFF), (0x1000C210, 0x1000C210)] s t) ∧
  (∀ (s : State) (u : Nat), u < 2 → s.on (PU_STATUS_fault u) = true → exec (.unitOvertemperature u) s = .next (s)) ∧
  (∀ (s : State) (u : Nat), u < 2 → s.on (PU_STATUS_fault u) = false → s.get (PU_STATUS_role u) = 2 → s.get
    (PU_STATUS_role (other u)) = 1 → s.unitReady (other u) = true → s.shut.contains (.unit u) = false → ∃ t, exec
    (.unitOvertemperature u) s = .next t ∧ t.get (PU_STATUS_fault u) = 1 ∧ t.get (PU_STATUS_cause u) = 5 ∧ t.get
    (PU_CNT_faults u) = min (s.get (PU_CNT_faults u) + 1) (2 ^ (PU_CNT_faults u).width - 1) ∧ t.get (PU_STATUS_role u)
    = 3 ∧ t.get (PU_STATUS_role (other u)) = 2 ∧ t.get SV_ARB_STATUS_active = other u ∧ t.shut.contains (.unit u) =
    true ∧ t.get (LE_CTRL_closed u) = 0 ∧ (t.unit (other u)).blank = 2 ∧ BlockFrame [.evReq, .shut, .pwr, .activity]
    [(0x50000000, 0x52FFFFFF), (0x1000C210, 0x1000C210)] s t) ∧
  (∀ (s : State) (u : Nat), u < 2 → s.on (PU_STATUS_fault u) = false → s.get (PU_STATUS_role u) = 2 → s.get
    (PU_STATUS_role (other u)) = 0 → (s.unit (other u)).soft = none → s.shut.contains (.unit u) = false →
    s.shut.contains .conversion = false → ∃ t, exec (.unitOvertemperature u) s = .next t ∧ t.get (PU_STATUS_fault u) =
    1 ∧ t.shut.contains .conversion = true ∧ t.converting = false ∧ BlockFrame [.evReq, .shut, .pwr, .activity]
    [(0x50000000, 0x52FFFFFF), (0x1000C210, 0x1000C210)] s t) ∧
  (∀ (s : State) (u : Nat), u < 2 → exec (.puTempWarning u) s = .next (s.flag (PU_STATUS_temp_warn u) (puEvent u 3))) ∧
  (∀ (s : State) (u : Nat), u < 2 → s.get (PU_STATUS_role u) = 1 → s.shut.contains (.unit u) = false → s.on (pendUnit
    u) = false → ∃ t, exec (.puOut u true) s = .next t ∧ t.get (PU_CTRL_out u) = 1 ∧ t.get (PU_STATUS_role u) = 3 ∧
    t.shut.contains (.unit u) = true) ∧
  (∀ (s : State) (u : Nat), u < 2 → s.get (PU_STATUS_role u) = 2 → s.on (pendUnit u) = false → exec (.puOut u true) s
    = .next (s.leRefused u)) ∧
  (∀ (s : State) (u : Nat), u < 2 → s.get (PU_STATUS_role u) = 0 → s.converting = true → s.shut.contains (.unit u) =
    false → s.on (PU_STATUS_feed_ok u) = true → s.on (PU_STATUS_fault u) = false → s.svc.assay = none → ∃ t, exec
    (.puOut u false) s = .next t ∧ t.get (PU_CTRL_out u) = 0 ∧ t.get (PU_STATUS_role u) = 1 ∧ (t.unit u).loop =
    (s.unit (other u)).loop) ∧
  (∀ (s : State) (u : Nat), u < 2 → s.on (PU_STATUS_fault u) = true → s.get (PU_STATUS_role u) = 3 → s.shut.contains
    (.unit u) = false → exec (.puFaultClear u) s = .next (s.set (PU_STATUS_fault u) 0)) ∧
  (∀ (s : State) (u : Nat), u < 2 → s.on (PU_STATUS_fault u) = true → s.get (PU_STATUS_role u) = 0 → s.shut.contains
    (.unit u) = false → s.on (PU_STATUS_feed_ok u) = true → s.on (PU_CTRL_out u) = false → s.converting = true → ∃ t,
    exec (.puFaultClear u) s = .next t ∧ t.get (PU_STATUS_fault u) = 0 ∧ t.get (PU_STATUS_role u) = 1) ∧
  (∀ (s : State) (u : Nat), u < 2 → s.on (PU_STATUS_fault u) = false → exec (.puFaultClear u) s = .next (s)) ∧
  (∀ (s : State) (again : Bool), (s.converting = true ∨ s.shut.contains .conversion = true) → exec (.lastUnitRestart
    again) s = .next (s)) ∧
  (∀ (s : State) (u : Nat) (again : Bool), u < 2 → s.converting = false → s.shut.contains .conversion = false →
    s.shut.contains (.unit u) = false → s.on (PU_STATUS_feed_ok u) = true → (u = 0 ∨ s.on (PU_STATUS_feed_ok 0) =
    false) → s.on (PU_STATUS_fault u) = true → s.get SV_ARB_STATUS_restarts < 3 → ∃ t, exec (.lastUnitRestart again) s
    = .next t ∧ t.get (PU_STATUS_fault u) = 0 ∧ t.get SV_ARB_STATUS_restarts = s.get SV_ARB_STATUS_restarts + 1 ∧
    (t.unit u).soft = some 0 ∧ t.get SV_ARB_STATUS_active = u ∧ t.converting = true ∧ BlockFrame [.evReq, .shut, .pwr,
    .activity] [(0x50000000, 0x52FFFFFF), (0x1000C210, 0x1000C210)] s t)

/-- HEARTBEAT_LOST of the active unit with a ready standby gives the other the active role, counted as a failover
where the arbiter is there; of a unit that does not switch it only marks the peer. ARBITER_LOST keeps every role,
marks the unit and, told as a fault, arb_fault. ARBITER_HEARTBEAT_REGAINED clears the mark. COPY_LINK marks both peers
and copy_lost and raises EV 485 the first time; with the mid bus in its band it changes no role. STATE_COPY_LINK_UP
clears the three marks and nothing else. MID_BUS_UNDERVOLTAGE latches fault cause 6 in the active unit that the
arbiter sees. BUS_FAULT counts, raises EV 484 and stops both units and, if it ran, conversion. -/
def Obligations.LinksAndHeartbeatsDecideWhoRegulates : Prop :=
  (∀ (s : State) (u : Nat), u < 2 → s.get (PU_STATUS_role u) = 2 → s.get (PU_STATUS_role (other u)) = 1 → s.unitReady
    (other u) = true → s.shut.contains (.unit u) = false → s.on (PU_STATUS_arb_lost (other u)) = false → s.on
    SV_ARB_STATUS_arb_fault = false → s.on SV_ARB_STATUS_copy_lost = false → ∃ t, exec (.heartbeatLost u) s = .next t
    ∧ t.get (PU_STATUS_role u) = 3 ∧ t.get (PU_STATUS_role (other u)) = 2 ∧ t.get SV_ARB_STATUS_active = other u ∧
    t.shut.contains (.unit u) = true ∧ t.get (LE_CTRL_closed u) = 0 ∧ (t.unit (other u)).blank = 2 ∧ t.get
    (PU_STATUS_peer_lost (other u)) = 1 ∧ t.get SV_ARB_CNT_failovers = (s.get SV_ARB_CNT_failovers + 1) % 2 ^
    SV_ARB_CNT_failovers.width ∧ Sparse.has 482 t.evReq = true) ∧
  (∀ (s : State) (u : Nat), u < 2 → s.get (PU_STATUS_role u) = 1 → (s.unit u).soft = none → s.on
    SV_ARB_STATUS_copy_lost = false → ∃ t, exec (.heartbeatLost u) s = .next t ∧ t.get (PU_STATUS_peer_lost (other u))
    = 1 ∧ t.get (PU_STATUS_role u) = 1 ∧ t.get (PU_STATUS_role (other u)) = s.get (PU_STATUS_role (other u)) ∧ Frame
    [.pwr, .activity] [PU_STATUS_peer_lost (other u), SV_ARB_STATUS_phase] s t) ∧
  (∀ (s : State) (u : Nat) (fault : Bool), u < 2 → ∃ t, exec (.arbiterLost u fault) s = .next t ∧ t.get
    (PU_STATUS_arb_lost u) = 1 ∧ t.on SV_ARB_STATUS_arb_fault = (fault || s.on SV_ARB_STATUS_arb_fault) ∧ Frame [.pwr,
    .activity] [PU_STATUS_arb_lost u, SV_ARB_STATUS_arb_fault, SV_ARB_STATUS_phase] s t) ∧
  (∀ (s : State) (u : Nat), u < 2 → ∃ t, exec (.arbiterHeartbeatRegained u) s = .next t ∧ t.get (PU_STATUS_arb_lost u)
    = 0 ∧ t.on SV_ARB_STATUS_arb_fault = (s.on SV_ARB_STATUS_arb_fault && s.on (PU_STATUS_arb_lost (other u))) ∧ Frame
    [] [PU_STATUS_arb_lost u, SV_ARB_STATUS_arb_fault] s t) ∧
  (∀ (s : State), s.get SV_ARB_STATUS_bus = 2 → s.on SV_ARB_STATUS_arb_fault = false → (s.on (PU_STATUS_arb_lost 0) =
    false ∨ s.on (PU_STATUS_arb_lost 1) = false) → ∃ t, exec .copyLink s = .next t ∧ t.get (PU_STATUS_peer_lost 0) = 1
    ∧ t.get (PU_STATUS_peer_lost 1) = 1 ∧ t.get SV_ARB_STATUS_copy_lost = 1 ∧ ((s.on SV_ARB_STATUS_copy_lost = false →
    Sparse.has 485 t.evReq = true)) ∧ Frame [.pwr, .activity, .evReq] [PU_STATUS_peer_lost 0, PU_STATUS_peer_lost 1,
    SV_ARB_STATUS_copy_lost, SV_ARB_STATUS_phase, MG_EVLOG_merged] s t) ∧
  (∀ (s : State), s.get SV_ARB_STATUS_active = 1 → s.get (PU_STATUS_role 1) = 2 → s.get (PU_STATUS_role 0) = 1 → (s.on
    SV_ARB_STATUS_arb_fault = true ∨ (s.on (PU_STATUS_arb_lost 0) = true ∧ s.on (PU_STATUS_arb_lost 1) = true)) → ∃ t,
    exec .copyLink s = .next t ∧ t.get (PU_STATUS_role 0) = 2 ∧ t.get (PU_STATUS_role 1) = 1 ∧ t.get
    SV_ARB_STATUS_active = 0 ∧ t.get (LE_CTRL_closed 1) = 0) ∧
  (∀ (s : State), exec .stateCopyLinkUp s = .next (((s.set (PU_STATUS_peer_lost 0) 0).set (PU_STATUS_peer_lost 1)
    0).set SV_ARB_STATUS_copy_lost 0)) ∧
  (∀ (s : State) (u : Nat), u < 2 → s.get SV_ARB_STATUS_active = u → s.on (PU_STATUS_arb_lost u) = false → s.on
    SV_ARB_STATUS_arb_fault = false → s.on (PU_STATUS_fault u) = false → s.get (PU_STATUS_role u) = 2 → s.get
    (PU_STATUS_role (other u)) = 1 → s.unitReady (other u) = true → s.shut.contains (.unit u) = false → ∃ t, exec
    .midBusUndervoltage s = .next t ∧ t.get SV_ARB_STATUS_bus = 0 ∧ t.get (PU_STATUS_fault u) = 1 ∧ t.get
    (PU_STATUS_cause u) = 6 ∧ t.get (PU_STATUS_role u) = 3 ∧ t.get (PU_STATUS_role (other u)) = 2 ∧ t.get
    SV_ARB_STATUS_active = other u ∧ t.shut.contains (.unit u) = true ∧ t.get (LE_CTRL_closed u) = 0 ∧ (t.unit (other
    u)).blank = 2) ∧
  (∀ (s : State) (u : Nat), u < 2 → s.get SV_ARB_STATUS_active = u → (s.switching u = false ∨ s.on (PU_STATUS_arb_lost
    u) = true ∨ s.on SV_ARB_STATUS_arb_fault = true) → exec .midBusUndervoltage s = .next (s.set SV_ARB_STATUS_bus 0)) ∧
  (∀ (s : State), s.converting = true → s.shut = [] → s.get (PU_STATUS_role 0) ≠ 0 → s.get (PU_STATUS_role 1) ≠ 0 → ∃
    t, exec .busFault s = .next t ∧ t.get SV_ARB_STATUS_bus = 4 ∧ t.get SV_ARB_CNT_bus_fault = (s.get
    SV_ARB_CNT_bus_fault + 1) % 2 ^ SV_ARB_CNT_bus_fault.width ∧ t.get (PU_STATUS_role 0) = 3 ∧ t.get (PU_STATUS_role
    1) = 3 ∧ t.shut = [.unit 0, .unit 1, .conversion] ∧ Sparse.has 484 t.evReq = true ∧ BlockFrame [.evReq, .shut,
    .pwr, .activity] [(0x50000000, 0x52FFFFFF), (0x1000C210, 0x1000C210)] s t)

/-- SWAP_TIMER_EXPIRY schedules a swap unless swaps are held or one is scheduled; SWAP_NOW schedules one unless one
is. SWAP_OVERDUE of a scheduled swap sets overdue with EV 483. SWAP_PERMIT of the swap under way before its first
phase: with every check of R435 met, phase 2 begins; else the swap is over. SWAP_HANDOVER in phase 3 after two
compared cycles: where both pairs of outputs differ by at most 1,311 the roles change, the incoming unit blanked for
two periods, phase 4; else the refusal is counted with EV 481, the swap is over and roles stay. SWAP_DONE in phase 4
closes the loop of the unit now active, ends the swap, restarts the timer from the full period, clears sched, overdue
and suspect and counts the swap with EV 480. -/
def Obligations.RoleSwapsFollowTimerPermitAndOutputs : Prop :=
  (∀ (s : State), s.swapsHeld = false → s.on SV_ARB_STATUS_sched = false → exec .swapTimerExpiry s = .next ((s.set
    SV_ARB_STATUS_sched 1).set SV_ARB_TIMER_remaining 0)) ∧
  (∀ (s : State), (s.swapsHeld = true ∨ s.on SV_ARB_STATUS_sched = true) → exec .swapTimerExpiry s = .next (s)) ∧
  (∀ (s : State), s.on SV_ARB_STATUS_sched = false → exec .swapNow s = .next ((s.set SV_ARB_STATUS_sched 1).set
    SV_ARB_TIMER_remaining 0)) ∧
  (∀ (s : State), s.on SV_ARB_STATUS_sched = true → exec .swapNow s = .next (s)) ∧
  (∀ (s : State), s.on SV_ARB_STATUS_sched = true → exec .swapOverdue s = .next (s.flag SV_ARB_STATUS_overdue 483)) ∧
  (∀ (s : State), s.on SV_ARB_STATUS_sched = false → exec .swapOverdue s = .next (s)) ∧
  (∀ (s : State), s.activity = some 1 → s.get SV_ARB_STATUS_phase = 0 → s.on SV_ARB_STATUS_sched = true → s.swapsHeld
    = false → s.unitReady 0 = true → s.unitReady 1 = true → s.get SV_ARB_STATUS_bus = 2 → s.on (LE_CTRL_closed
    s.activeUnit) = true → ∃ t, exec .swapPermit s = .next t ∧ t.get SV_ARB_STATUS_phase = 2 ∧ t.pwr.pairs = [] ∧
    t.get (LE_CAP_STATUS_state 0) ≠ 1 ∧ t.activity = some 1 ∧ Frame [.pwr, .evReq] [SV_ARB_STATUS_phase,
    LE_CAP_STATUS_state 0, LE_CAP_STATUS_state 1, MG_EVLOG_merged] s t) ∧
  (∀ (s : State), s.activity = some 1 → s.get SV_ARB_STATUS_phase = 0 → s.permitOk = false → ∃ t, exec .swapPermit s =
    .next t ∧ t.activity = none ∧ t.get SV_ARB_STATUS_phase = 0 ∧ Frame [.pwr, .activity] [SV_ARB_STATUS_phase] s t) ∧
  (∀ (s : State), s.activity ≠ some 1 → exec .swapPermit s = .next (s)) ∧
  (∀ (s : State) (o : Nat) (a b : Nat × Nat) (l : List (Nat × Nat)), o < 2 → s.get SV_ARB_STATUS_active = o → s.get
    SV_ARB_STATUS_phase = 3 → s.pwr.pairs = a :: b :: l → ((a.1 : Int) - a.2).natAbs ≤ 1311 → ((b.1 : Int) -
    b.2).natAbs ≤ 1311 → ∃ t, exec .swapHandover s = .next t ∧ t.get (PU_STATUS_role o) = 1 ∧ t.get (PU_STATUS_role
    (other o)) = 2 ∧ t.get SV_ARB_STATUS_active = other o ∧ t.get SV_ARB_STATUS_phase = 4 ∧ t.get (LE_CTRL_closed o) =
    0 ∧ (t.unit (other o)).blank = 2) ∧
  (∀ (s : State) (a b : Nat × Nat) (l : List (Nat × Nat)), s.get SV_ARB_STATUS_phase = 3 → s.pwr.pairs = a :: b :: l →
    (1311 < ((a.1 : Int) - a.2).natAbs ∨ 1311 < ((b.1 : Int) - b.2).natAbs) → ∃ t, exec .swapHandover s = .next t ∧
    t.get SV_ARB_STATUS_phase = 0 ∧ t.pwr.pairs = [] ∧ t.get SV_ARB_CNT_refused = (s.get SV_ARB_CNT_refused + 1) % 2 ^
    SV_ARB_CNT_refused.width ∧ t.on SV_ARB_STATUS_suspect = (s.on SV_ARB_STATUS_suspect || decide (3 ≤ s.pwr.refusals
    + 1)) ∧ (t.activity = (if s.activity = some 1 then none else s.activity)) ∧ Sparse.has 481 t.evReq = true ∧ Frame
    [.pwr, .activity, .evReq] [SV_ARB_STATUS_phase, SV_ARB_CNT_refused, SV_ARB_STATUS_suspect, MG_EVLOG_merged] s t) ∧
  (∀ (s : State), s.get SV_ARB_STATUS_phase ≠ 3 → exec .swapHandover s = .next (s)) ∧
  (∀ (s : State) (n : Nat), n < 2 → s.get SV_ARB_STATUS_active = n → s.get SV_ARB_STATUS_phase = 4 → ∃ t, exec
    .swapDone s = .next t ∧ t.get (LE_CTRL_closed n) = 1 ∧ t.get SV_ARB_STATUS_phase = 0 ∧ t.get
    SV_ARB_TIMER_remaining = s.get SV_ARB_PERIOD_period % 2 ^ 17 ∧ t.get SV_ARB_STATUS_sched = 0 ∧ t.get
    SV_ARB_STATUS_overdue = 0 ∧ t.get SV_ARB_STATUS_suspect = 0 ∧ t.pwr.refusals = 0 ∧ t.get SV_ARB_CNT_swaps = (s.get
    SV_ARB_CNT_swaps + 1) % 2 ^ SV_ARB_CNT_swaps.width ∧ Sparse.has 480 t.evReq = true ∧ Frame [.pwr, .activity,
    .evReq] [LE_CTRL_closed n, SV_ARB_STATUS_phase, SV_ARB_TIMER_remaining, SV_ARB_STATUS_sched,
    SV_ARB_STATUS_overdue, SV_ARB_STATUS_suspect, SV_ARB_CNT_swaps, MG_EVLOG_merged] s t) ∧
  (∀ (s : State), s.get SV_ARB_STATUS_phase ≠ 4 → exec .swapDone s = .next (s))

/-- LOOP_SAMPLE of the active unit with its loop closed, no injection on it and no standby to copy to, no parity error
or overrun: e is the saturated reference less measurement, the integrator, the filtered derivative and the output
follow the law of R421 with rounding half up, the output is limited to u_min and u_max with sat telling it, and the
integrator holds while it is limited; the samples in a row with |e| above E_lim are counted. With the T_lim-th such
sample the unit's fault latches with cause 1, with a parity error cause 3; an overrun is counted and leaves the loop
as it was. LE_COMMIT with the loop open takes a staged set whose limits are right, else clears host_valid and is
refused; LE_USE_HOST chooses it; both are refused while a loop is closed. INJ_DONE ends an injection that has reached
its length, state 2. -/
def Obligations.LoopLawRunsOnEachSample : Prop :=
  (∀ (s : State) (u : Nat) (y ff e p ic d raw : Int) (c : Coefs) (l : Loop), u < 2 → s.get (PU_STATUS_role u) = 2 →
    (s.unit u).soft = none → (s.unit u).blank = 0 → s.on (LE_CTRL_closed u) = true → s.get (PU_STATUS_role (other u))
    ≠ 1 → c = s.coefs u → l = (s.unit u).loop → s.injOn u 0 = false → e = sat16 (signed 16 c.r - y) → p = signed 24
    c.kp * e → ic = sat40 (l.i + signed 24 c.ki * e) → d = sat40 (((c.a : Int) * l.d + 2 ^ 15) / 2 ^ 16 + signed 24
    c.kd * (e - l.e)) → raw = (p + ic + d + signed 24 c.kff * ff + 2 ^ 19) / 2 ^ 20 → (e.natAbs ≤ c.eLim ∨ l.ovr + 1 <
    (if c.tLim = 0 then 1 else c.tLim)) → 0 ≤ (c.uMin : Int) → c.uMin < 65536 → c.uMax < 65536 → ∃ t, exec
    (.loopSample u y ff true false false) s = .next t ∧ ((t.unit u).loop = ⟨if clampI c.uMin c.uMax raw = raw then ic
    else l.i, d, e, (clampI c.uMin c.uMax raw).toNat, if c.eLim < e.natAbs then l.ovr + 1 else 0⟩) ∧ t.get (LE_OUT_u
    u) = (clampI c.uMin c.uMax raw).toNat ∧ t.on (LE_OUT_sat u) = decide (clampI c.uMin c.uMax raw ≠ raw) ∧ Frame
    [.pwr] [PU_MEAS_vmid u, SV_ARB_STATUS_bus, LE_OUT_u u, LE_OUT_sat u, LE_INT_LO_int u, LE_INT_HI_int u,
    LE_CNT_consec u] s t) ∧
  (∀ (s : State) (u : Nat) (y ff e p ic d raw : Int) (c : Coefs) (l : Loop), u < 2 → s.get (PU_STATUS_role u) = 2 →
    (s.unit u).soft = none → (s.unit u).blank = 0 → s.on (LE_CTRL_closed u) = true → s.get (PU_STATUS_role (other u))
    ≠ 1 → c = s.coefs u → l = (s.unit u).loop → s.injOn u 0 = false → e = sat16 (signed 16 c.r - y) → p = signed 24
    c.kp * e → ic = sat40 (l.i + signed 24 c.ki * e) → d = sat40 (((c.a : Int) * l.d + 2 ^ 15) / 2 ^ 16 + signed 24
    c.kd * (e - l.e)) → raw = (p + ic + d + signed 24 c.kff * ff + 2 ^ 19) / 2 ^ 20 → c.eLim < e.natAbs → ((if c.tLim
    = 0 then 1 else c.tLim) ≤ l.ovr + 1) → s.on (PU_STATUS_fault u) = false → ∃ t, exec (.loopSample u y ff true false
    false) s = .next t ∧ t.get (PU_STATUS_fault u) = 1 ∧ t.get (PU_STATUS_cause u) = 1 ∧ t.get (PU_CNT_faults u) = min
    (s.get (PU_CNT_faults u) + 1) (2 ^ (PU_CNT_faults u).width - 1) ∧ t.get (PU_STATUS_role u) ≠ 2) ∧
  (∀ (s : State) (u : Nat) (y ff : Int) (overrun : Bool), u < 2 → s.get (PU_STATUS_role u) = 2 → (s.unit u).soft =
    none → (s.unit u).blank = 0 → s.on (LE_CTRL_closed u) = true → s.get (PU_STATUS_role (other u)) ≠ 1 → s.on
    (PU_STATUS_fault u) = false → ∃ t, exec (.loopSample u y ff false overrun false) s = .next t ∧ t.get
    (PU_STATUS_fault u) = 1 ∧ t.get (PU_STATUS_cause u) = 3 ∧ (t.unit u).loop = (s.unit u).loop) ∧
  (∀ (s : State) (u : Nat) (y ff : Int), u < 2 → s.get (PU_STATUS_role u) = 2 → (s.unit u).soft = none → (s.unit
    u).blank = 0 → s.on (LE_CTRL_closed u) = true → s.get (PU_STATUS_role (other u)) ≠ 1 → s.get (LE_CNT_consec u) < 2
    → s.injOn u 0 = false → ∃ t, exec (.loopSample u y ff true true false) s = .next t ∧ (t.unit u).loop = (s.unit
    u).loop ∧ t.get (LE_CNT_overrun u) = min (s.get (LE_CNT_overrun u) + 1) (2 ^ (LE_CNT_overrun u).width - 1) ∧ t.get
    (LE_CNT_consec u) = s.get (LE_CNT_consec u) + 1 ∧ t.get (PU_STATUS_role u) = 2) ∧
  (∀ (s : State) (i : Nat), i < 3 → s.leClosed i = true → exec (.leCommit i) s = .next (s.leRefused i)) ∧
  (∀ (s : State) (i : Nat), i < 3 → s.leClosed i = false → (s.staged i).uMin < (s.staged i).uMax → (s.staged i).eLim ≠
    0 → ∃ t, exec (.leCommit i) s = .next t ∧ (t.engine i).host = s.staged i ∧ t.get (LE_CTRL_host_valid i) = 1 ∧
    t.get (LE_CTRL_host_in_force i) = s.get (LE_CTRL_use_host i) % 2 ∧ Frame [.pwr] [LE_CTRL_host_valid i,
    LE_CTRL_host_in_force i] s t) ∧
  (∀ (s : State) (i : Nat), i < 3 → s.leClosed i = false → ((s.staged i).uMax ≤ (s.staged i).uMin ∨ (s.staged i).eLim
    = 0) → exec (.leCommit i) s = .next (((s.set (LE_CTRL_host_valid i) 0).set (LE_CTRL_host_in_force i) 0).leRefused
    i)) ∧
  (∀ (s : State) (i : Nat) (v : Bool), i < 3 → s.leClosed i = false → exec (.leUseHost i v) s = .next ((s.setB
    (LE_CTRL_use_host i) v).setB (LE_CTRL_host_in_force i) (v && s.on (LE_CTRL_host_valid i)))) ∧
  (∀ (s : State) (i : Nat) (v : Bool), i < 3 → s.leClosed i = true → exec (.leUseHost i v) s = .next (s.leRefused i)) ∧
  (∀ (s : State) (i : Nat), i < 3 → s.get (LE_CAP_STATUS_state i) = 1 → s.injLen i ≤ (s.engine i).k → exec (.injDone
    i) s = .next ((s.set (LE_CAP_STATUS_state i) 2).raise (injEvent i))) ∧
  (∀ (s : State) (i : Nat), i < 3 → (s.get (LE_CAP_STATUS_state i) ≠ 1 ∨ (s.engine i).k < s.injLen i) → exec (.injDone
    i) s = .next (s))

/-- BIAS_ENABLE in state off: with a valid strap image, proof, interlock closed, no fault latched and BIAS_FB closed,
both outputs go on and the state is enabling; with any of these missing the outputs stay off, the refusal is counted
with EV 493. While shutting down the request is held; while enabling or on it does nothing. BIAS_DISABLE while
enabling or on takes both outputs off at once, state shutting down. BIAS_FB_CHANGE: opening while enabling gives on
with EV 489; closing while on, outside a dark pulse and its mask, latches fb_unexpected and shuts down; closing while
shutting down gives off. FB_ENABLE_TIMEOUT while enabling and FB_DISABLE_TIMEOUT while shutting down latch their
faults; the latter ends off. DARK_TEST_PULSE runs only while on, one at a time. DARK_PULSE_END with both readings
right does nothing more, else latches the side's fault and shuts down. -/
def Obligations.BiasRequestsAndFeedbackRunTheSequences : Prop :=
  (∀ (s : State), s.get SV_GUARD_STATUS_state = 0 → strapsValid (s.get SV_GUARD_CFG_straps_pu) = true → s.on
    SV_GUARD_STATUS_proof = true → s.on SV_GUARD_STATUS_closed = true → s.guardFaulty = false → s.on
    SV_GUARD_STATUS_fb = true → exec .biasEnable s = .next (((s.set SV_GUARD_STATUS_state 1).set SV_GUARD_STATUS_en_a
    1).set SV_GUARD_STATUS_en_b 1)) ∧
  (∀ (s : State), s.get SV_GUARD_STATUS_state = 0 → (strapsValid (s.get SV_GUARD_CFG_straps_pu) = false ∨ s.on
    SV_GUARD_STATUS_proof = false ∨ s.on SV_GUARD_STATUS_closed = false ∨ s.guardFaulty = true ∨ s.on
    SV_GUARD_STATUS_fb = false) → exec .biasEnable s = .next ((s.countWrap SV_GUARD_CNT_refused).raise 493)) ∧
  (∀ (s : State), s.get SV_GUARD_STATUS_state = 3 → exec .biasEnable s = .next (if s.on SV_PENDING_ENABLE_bias then s
    else (s.set SV_PENDING_ENABLE_bias 1).raise 486)) ∧
  (∀ (s : State), (s.get SV_GUARD_STATUS_state = 1 ∨ s.get SV_GUARD_STATUS_state = 2) → exec .biasEnable s = .next
    (s)) ∧
  (∀ (s : State), (s.get SV_GUARD_STATUS_state = 1 ∨ s.get SV_GUARD_STATUS_state = 2) → ∃ t, exec .biasDisable s =
    .next t ∧ t.get SV_GUARD_STATUS_state = 3 ∧ t.get SV_GUARD_STATUS_en_a = 0 ∧ t.get SV_GUARD_STATUS_en_b = 0 ∧
    t.get SV_GUARD_CNT_shutdowns = (s.get SV_GUARD_CNT_shutdowns + 1) % 2 ^ SV_GUARD_CNT_shutdowns.width ∧ t.shut =
    s.shut ++ [.bias] ∧ t.guard.pulse = none ∧ t.get SV_PENDING_ENABLE_bias = 0 ∧ Sparse.has 490 t.evReq = true ∧
    Frame [.guard, .shut, .evReq] [SV_GUARD_STATUS_state, SV_GUARD_STATUS_en_a, SV_GUARD_STATUS_en_b,
    SV_GUARD_CNT_shutdowns, SV_GUARD_CNT_abandoned, MG_EVLOG_merged, SV_PENDING_ENABLE_bias] s t) ∧
  (∀ (s : State), (s.get SV_GUARD_STATUS_state = 0 ∨ s.get SV_GUARD_STATUS_state = 3) → exec .biasDisable s = .next
    (s.set SV_PENDING_ENABLE_bias 0)) ∧
  (∀ (s : State) (masked : Bool), s.get SV_GUARD_STATUS_state = 1 → exec (.biasFbChange false masked) s = .next
    (((s.set SV_GUARD_STATUS_fb 0).set SV_GUARD_STATUS_state 2).raise 489)) ∧
  (∀ (s : State), s.get SV_GUARD_STATUS_state = 2 → s.guard.pulse = none → s.on SV_GUARD_FAULT_fb_unexpected = false →
    ∃ t, exec (.biasFbChange true false) s = .next t ∧ t.get SV_GUARD_FAULT_fb_unexpected = 1 ∧ t.get
    SV_GUARD_CNT_faults = (s.get SV_GUARD_CNT_faults + 1) % 2 ^ SV_GUARD_CNT_faults.width ∧ t.get
    SV_GUARD_STATUS_state = 3 ∧ t.get SV_GUARD_STATUS_en_a = 0 ∧ t.get SV_GUARD_STATUS_en_b = 0 ∧ t.get
    SV_GUARD_CNT_shutdowns = (s.get SV_GUARD_CNT_shutdowns + 1) % 2 ^ SV_GUARD_CNT_shutdowns.width ∧ t.shut = s.shut
    ++ [.bias] ∧ t.guard.pulse = none ∧ t.get SV_GUARD_STATUS_fb = 1 ∧ Frame [.guard, .shut, .evReq]
    [SV_GUARD_FAULT_fb_unexpected, SV_GUARD_CNT_faults, SV_GUARD_STATUS_state, SV_GUARD_STATUS_en_a,
    SV_GUARD_STATUS_en_b, SV_GUARD_CNT_shutdowns, SV_GUARD_CNT_abandoned, MG_EVLOG_merged, SV_GUARD_STATUS_fb] s t) ∧
  (∀ (s : State) (masked : Bool), s.get SV_GUARD_STATUS_state = 3 → s.on SV_PENDING_ENABLE_bias = false → ∃ t, exec
    (.biasFbChange true masked) s = .next t ∧ t.get SV_GUARD_STATUS_state = 0 ∧ t.get SV_GUARD_STATUS_fb = 1 ∧
    t.shut.contains .bias = false ∧ Frame [.shut] [SV_GUARD_STATUS_state, SV_GUARD_STATUS_fb] s t) ∧
  (∀ (s : State) (masked : Bool), s.get SV_GUARD_STATUS_state = 2 → (masked = true ∨ s.guard.pulse ≠ none) → exec
    (.biasFbChange true masked) s = .next (s.set SV_GUARD_STATUS_fb 1)) ∧
  (∀ (s : State), s.get SV_GUARD_STATUS_state = 1 → s.on SV_GUARD_FAULT_fb_enable = false → ∃ t, exec .fbEnableTimeout
    s = .next t ∧ t.get SV_GUARD_FAULT_fb_enable = 1 ∧ t.get SV_GUARD_CNT_faults = (s.get SV_GUARD_CNT_faults + 1) % 2
    ^ SV_GUARD_CNT_faults.width ∧ t.get SV_GUARD_STATUS_state = 3 ∧ t.get SV_GUARD_STATUS_en_a = 0 ∧ t.get
    SV_GUARD_STATUS_en_b = 0 ∧ t.get SV_GUARD_CNT_shutdowns = (s.get SV_GUARD_CNT_shutdowns + 1) % 2 ^
    SV_GUARD_CNT_shutdowns.width ∧ t.shut = s.shut ++ [.bias] ∧ t.guard.pulse = none ∧ Frame [.guard, .shut, .evReq]
    [SV_GUARD_FAULT_fb_enable, SV_GUARD_CNT_faults, SV_GUARD_STATUS_state, SV_GUARD_STATUS_en_a, SV_GUARD_STATUS_en_b,
    SV_GUARD_CNT_shutdowns, SV_GUARD_CNT_abandoned, MG_EVLOG_merged] s t) ∧
  (∀ (s : State), s.get SV_GUARD_STATUS_state ≠ 1 → exec .fbEnableTimeout s = .next (s)) ∧
  (∀ (s : State), s.get SV_GUARD_STATUS_state = 3 → s.on SV_GUARD_STATUS_fb = true → s.on SV_PENDING_ENABLE_bias =
    false → ∃ t, exec .fbDisableTimeout s = .next t ∧ t.get SV_GUARD_STATUS_state = 0 ∧ t.shut.contains .bias = false
    ∧ Frame [.shut] [SV_GUARD_STATUS_state] s t) ∧
  (∀ (s : State), s.get SV_GUARD_STATUS_state = 3 → s.on SV_GUARD_STATUS_fb = false → s.on SV_GUARD_FAULT_fb_disable =
    false → s.on SV_PENDING_ENABLE_bias = false → ∃ t, exec .fbDisableTimeout s = .next t ∧ t.get
    SV_GUARD_FAULT_fb_disable = 1 ∧ t.get SV_GUARD_CNT_faults = (s.get SV_GUARD_CNT_faults + 1) % 2 ^
    SV_GUARD_CNT_faults.width ∧ t.get SV_GUARD_STATUS_state = 0 ∧ t.shut.contains .bias = false ∧ Frame [.shut,
    .evReq] [SV_GUARD_FAULT_fb_disable, SV_GUARD_CNT_faults, SV_GUARD_STATUS_state, MG_EVLOG_merged] s t) ∧
  (∀ (s : State), s.get SV_GUARD_STATUS_state ≠ 3 → exec .fbDisableTimeout s = .next (s)) ∧
  (∀ (s : State) (k : Nat), k < 2 → s.get SV_GUARD_STATUS_state = 2 → s.guard.pulse = none → exec (.darkTestPulse k) s
    = .next ({ s with guard := { s.guard with pulse := some k } })) ∧
  (∀ (s : State) (k : Nat), k < 2 → (s.get SV_GUARD_STATUS_state ≠ 2 ∨ s.guard.pulse ≠ none) → exec (.darkTestPulse k)
    s = .next (s)) ∧
  (∀ (s : State) (k : Nat), k < 2 → s.guard.pulse = some k → exec (.darkPulseEnd k true true) s = .next
    ({ s with guard := { s.guard with pulse := none } })) ∧
  (∀ (s : State) (k : Nat) (low high : Bool), k < 2 → s.guard.pulse = some k → (low = false ∨ high = false) → (s.get
    SV_GUARD_STATUS_state = 1 ∨ s.get SV_GUARD_STATUS_state = 2) → (s.on (if k = 0 then SV_GUARD_FAULT_out_a else
    SV_GUARD_FAULT_out_b) = false) → ∃ t, exec (.darkPulseEnd k low high) s = .next t ∧ (t.get (if k = 0 then
    SV_GUARD_FAULT_out_a else SV_GUARD_FAULT_out_b) = 1) ∧ t.get SV_GUARD_CNT_faults = (s.get SV_GUARD_CNT_faults + 1)
    % 2 ^ SV_GUARD_CNT_faults.width ∧ t.get SV_GUARD_STATUS_state = 3 ∧ t.get SV_GUARD_STATUS_en_a = 0 ∧ t.get
    SV_GUARD_STATUS_en_b = 0 ∧ t.get SV_GUARD_CNT_shutdowns = (s.get SV_GUARD_CNT_shutdowns + 1) % 2 ^
    SV_GUARD_CNT_shutdowns.width ∧ t.shut = s.shut ++ [.bias] ∧ t.guard.pulse = none ∧ Frame [.guard, .shut, .evReq]
    [SV_GUARD_FAULT_out_a, SV_GUARD_FAULT_out_b, SV_GUARD_CNT_faults, SV_GUARD_STATUS_state, SV_GUARD_STATUS_en_a,
    SV_GUARD_STATUS_en_b, SV_GUARD_CNT_shutdowns, SV_GUARD_CNT_abandoned, MG_EVLOG_merged] s t)

/-- CHANNEL_OPEN of a channel while the bias is enabling or on opens the interlock, takes both outputs off at once and
starts the shutdown. CHANNEL_CLOSED of the second channel closes the interlock and enables nothing.
INTERLOCK_DARK_PULSE changes nothing. PULSE_MISSING on a checked, closed channel latches pulse_missing, opens the
channel and shuts down. CHATTER makes a channel count as open until CHATTER_END. DISCREPANCY with the channels apart
latches its fault; with both alike it does nothing. GUARD_PROOF after both channels were open at once and are closed
sets proof and clears the faults that a proof clears, not clock and config. STRAP_SAMPLE that differs twice in a row
from the image latches the config fault. CLK_FAULT latches the clock fault; SUPERVISOR_CLOCK_RETURN raises EV 495.
SV_RESET puts the module as at reset with the straps sampled anew. -/
def Obligations.InterlockAndFaultsShutTheBiasDown : Prop :=
  (∀ (s : State) (k : Nat), k < 2 → (s.get SV_GUARD_STATUS_state = 1 ∨ s.get SV_GUARD_STATUS_state = 2) → ∃ t, exec
    (.channelOpen k) s = .next t ∧ t.get SV_GUARD_STATUS_state = 3 ∧ t.get SV_GUARD_STATUS_en_a = 0 ∧ t.get
    SV_GUARD_STATUS_en_b = 0 ∧ t.get SV_GUARD_CNT_shutdowns = (s.get SV_GUARD_CNT_shutdowns + 1) % 2 ^
    SV_GUARD_CNT_shutdowns.width ∧ t.shut = s.shut ++ [.bias] ∧ t.guard.pulse = none ∧ t.get SV_GUARD_STATUS_closed =
    0 ∧ (t.get (if k = 0 then SV_GUARD_STATUS_ch_a else SV_GUARD_STATUS_ch_b) = 0) ∧ Frame [.guard, .shut, .evReq]
    [SV_GUARD_STATUS_state, SV_GUARD_STATUS_en_a, SV_GUARD_STATUS_en_b, SV_GUARD_CNT_shutdowns,
    SV_GUARD_CNT_abandoned, MG_EVLOG_merged, SV_GUARD_STATUS_ch_a, SV_GUARD_STATUS_ch_b, SV_GUARD_STATUS_closed] s t) ∧
  (∀ (s : State) (k : Nat), k < 2 → s.get SV_GUARD_STATUS_state = 0 → ∃ t, exec (.channelClosed k) s = .next t ∧
    (t.get (if k = 0 then SV_GUARD_STATUS_ch_a else SV_GUARD_STATUS_ch_b) = b2n (!s.on (chatterBit k))) ∧ t.get
    SV_GUARD_STATUS_state = 0 ∧ t.get SV_GUARD_STATUS_closed = b2n (t.on SV_GUARD_STATUS_ch_a && t.on
    SV_GUARD_STATUS_ch_b) ∧ Frame [.guard] [SV_GUARD_STATUS_ch_a, SV_GUARD_STATUS_ch_b, SV_GUARD_STATUS_closed] s t) ∧
  (∀ (s : State) (k : Nat), exec (.interlockDarkPulse k) s = .next (s)) ∧
  (∀ (s : State) (k : Nat), k < 2 → (s.get SV_GUARD_STATUS_state = 1 ∨ s.get SV_GUARD_STATUS_state = 2) → (s.on (if k
    = 0 then SV_GUARD_STATUS_ch_a else SV_GUARD_STATUS_ch_b) = true) → (k = 0 ∨ s.guardNative = true) → s.on
    SV_GUARD_FAULT_pulse_missing = false → ∃ t, exec (.pulseMissing k) s = .next t ∧ t.get
    SV_GUARD_FAULT_pulse_missing = 1 ∧ t.get SV_GUARD_CNT_faults = (s.get SV_GUARD_CNT_faults + 1) % 2 ^
    SV_GUARD_CNT_faults.width ∧ t.get SV_GUARD_STATUS_state = 3 ∧ t.get SV_GUARD_STATUS_en_a = 0 ∧ t.get
    SV_GUARD_STATUS_en_b = 0 ∧ t.get SV_GUARD_CNT_shutdowns = (s.get SV_GUARD_CNT_shutdowns + 1) % 2 ^
    SV_GUARD_CNT_shutdowns.width ∧ t.shut = s.shut ++ [.bias] ∧ t.guard.pulse = none ∧ t.get SV_GUARD_STATUS_closed =
    0 ∧ Sparse.has 494 t.evReq = true ∧ Frame [.guard, .shut, .evReq] [SV_GUARD_FAULT_pulse_missing,
    SV_GUARD_CNT_faults, SV_GUARD_STATUS_state, SV_GUARD_STATUS_en_a, SV_GUARD_STATUS_en_b, SV_GUARD_CNT_shutdowns,
    SV_GUARD_CNT_abandoned, MG_EVLOG_merged, SV_GUARD_STATUS_ch_a, SV_GUARD_STATUS_ch_b, SV_GUARD_STATUS_closed] s t) ∧
  (∀ (s : State) (k : Nat), k < 2 → (s.on (if k = 0 then SV_GUARD_STATUS_ch_a else SV_GUARD_STATUS_ch_b) = false) →
    exec (.pulseMissing k) s = .next (s)) ∧
  (∀ (s : State) (k : Nat), k < 2 → (s.get SV_GUARD_STATUS_state = 1 ∨ s.get SV_GUARD_STATUS_state = 2) → s.on
    (chatterBit k) = false → ∃ t, exec (.chatter k) s = .next t ∧ t.get SV_GUARD_STATUS_state = 3 ∧ t.get
    SV_GUARD_STATUS_en_a = 0 ∧ t.get SV_GUARD_STATUS_en_b = 0 ∧ t.get SV_GUARD_CNT_shutdowns = (s.get
    SV_GUARD_CNT_shutdowns + 1) % 2 ^ SV_GUARD_CNT_shutdowns.width ∧ t.shut = s.shut ++ [.bias] ∧ t.guard.pulse = none
    ∧ t.get (chatterBit k) = 1 ∧ (t.get (if k = 0 then SV_GUARD_STATUS_ch_a else SV_GUARD_STATUS_ch_b) = 0) ∧ t.get
    SV_GUARD_STATUS_closed = 0 ∧ t.guard.opened = false ∧ Frame [.guard, .shut, .evReq] [SV_GUARD_STATUS_state,
    SV_GUARD_STATUS_en_a, SV_GUARD_STATUS_en_b, SV_GUARD_CNT_shutdowns, SV_GUARD_CNT_abandoned, MG_EVLOG_merged,
    SV_GUARD_STATUS_ch_a, SV_GUARD_STATUS_ch_b, SV_GUARD_STATUS_closed, chatterBit k] s t) ∧
  (∀ (s : State) (k : Nat), k < 2 → s.on (chatterBit k) = true → exec (.chatter k) s = .next (s)) ∧
  (∀ (s : State) (k : Nat), k < 2 → s.get SV_GUARD_STATUS_state = 0 → ∃ t, exec (.chatterEnd k) s = .next t ∧ t.get
    (chatterBit k) = 0 ∧ (t.get (if k = 0 then SV_GUARD_STATUS_ch_a else SV_GUARD_STATUS_ch_b) = b2n (if k = 0 then
    s.guard.rawA else s.guard.rawB)) ∧ t.get SV_GUARD_STATUS_state = 0 ∧ Frame [] [SV_GUARD_STATUS_ch_a,
    SV_GUARD_STATUS_ch_b, SV_GUARD_STATUS_closed, chatterBit k] s t) ∧
  (∀ (s : State), (s.get SV_GUARD_STATUS_state = 1 ∨ s.get SV_GUARD_STATUS_state = 2) → s.on SV_GUARD_STATUS_ch_a ≠
    s.on SV_GUARD_STATUS_ch_b → s.on SV_GUARD_FAULT_discrepancy = false → ∃ t, exec .discrepancy s = .next t ∧ t.get
    SV_GUARD_FAULT_discrepancy = 1 ∧ t.get SV_GUARD_CNT_faults = (s.get SV_GUARD_CNT_faults + 1) % 2 ^
    SV_GUARD_CNT_faults.width ∧ t.get SV_GUARD_STATUS_state = 3 ∧ t.get SV_GUARD_STATUS_en_a = 0 ∧ t.get
    SV_GUARD_STATUS_en_b = 0 ∧ t.get SV_GUARD_CNT_shutdowns = (s.get SV_GUARD_CNT_shutdowns + 1) % 2 ^
    SV_GUARD_CNT_shutdowns.width ∧ t.shut = s.shut ++ [.bias] ∧ t.guard.pulse = none ∧ t.guard.opened = false ∧ Frame
    [.guard, .shut, .evReq] [SV_GUARD_FAULT_discrepancy, SV_GUARD_CNT_faults, SV_GUARD_STATUS_state,
    SV_GUARD_STATUS_en_a, SV_GUARD_STATUS_en_b, SV_GUARD_CNT_shutdowns, SV_GUARD_CNT_abandoned, MG_EVLOG_merged] s t) ∧
  (∀ (s : State), s.on SV_GUARD_STATUS_ch_a = s.on SV_GUARD_STATUS_ch_b → exec .discrepancy s = .next (s)) ∧
  (∀ (s : State) (f : Fld), s.guard.opened = true → s.on SV_GUARD_STATUS_closed = true → f ∈
    [SV_GUARD_FAULT_fb_enable, SV_GUARD_FAULT_fb_disable, SV_GUARD_FAULT_fb_unexpected, SV_GUARD_FAULT_out_b,
    SV_GUARD_FAULT_out_a, SV_GUARD_FAULT_pulse_missing, SV_GUARD_FAULT_discrepancy] → ∃ t, exec .guardProof s = .next
    t ∧ t.get SV_GUARD_STATUS_proof = 1 ∧ t.get f = 0 ∧ t.guard.opened = false ∧ Sparse.has 492 t.evReq = true ∧ Frame
    [.guard, .evReq] [SV_GUARD_FAULT_fb_enable, SV_GUARD_FAULT_fb_disable, SV_GUARD_FAULT_fb_unexpected,
    SV_GUARD_FAULT_out_b, SV_GUARD_FAULT_out_a, SV_GUARD_FAULT_pulse_missing, SV_GUARD_FAULT_discrepancy,
    SV_GUARD_STATUS_proof, MG_EVLOG_merged] s t) ∧
  (∀ (s : State), (s.guard.opened = false ∨ s.on SV_GUARD_STATUS_closed = false) → exec .guardProof s = .next (s)) ∧
  (∀ (s : State) (v : Nat), v < 256 → v = s.get SV_GUARD_CFG_straps_pu → strapsValid v = true → exec (.strapSample v)
    s = .next (({ s with guard := { s.guard with strapDiff := 0 } } : State).set SV_GUARD_CFG_straps_now v)) ∧
  (∀ (s : State) (v : Nat), v < 256 → v ≠ s.get SV_GUARD_CFG_straps_pu → 1 ≤ s.guard.strapDiff → (s.get
    SV_GUARD_STATUS_state = 1 ∨ s.get SV_GUARD_STATUS_state = 2) → s.on SV_GUARD_FAULT_config = false → ∃ t, exec
    (.strapSample v) s = .next t ∧ t.get SV_GUARD_FAULT_config = 1 ∧ t.get SV_GUARD_CNT_faults = (s.get
    SV_GUARD_CNT_faults + 1) % 2 ^ SV_GUARD_CNT_faults.width ∧ t.get SV_GUARD_STATUS_state = 3 ∧ t.get
    SV_GUARD_STATUS_en_a = 0 ∧ t.get SV_GUARD_STATUS_en_b = 0 ∧ t.get SV_GUARD_CNT_shutdowns = (s.get
    SV_GUARD_CNT_shutdowns + 1) % 2 ^ SV_GUARD_CNT_shutdowns.width ∧ t.shut = s.shut ++ [.bias] ∧ t.guard.pulse = none
    ∧ t.get SV_GUARD_CFG_straps_now = v ∧ Frame [.guard, .shut, .evReq] [SV_GUARD_FAULT_config, SV_GUARD_CNT_faults,
    SV_GUARD_STATUS_state, SV_GUARD_STATUS_en_a, SV_GUARD_STATUS_en_b, SV_GUARD_CNT_shutdowns, SV_GUARD_CNT_abandoned,
    MG_EVLOG_merged, SV_GUARD_CFG_straps_now] s t) ∧
  (∀ (s : State), (s.get SV_GUARD_STATUS_state = 1 ∨ s.get SV_GUARD_STATUS_state = 2) → s.on SV_GUARD_FAULT_clock =
    false → ∃ t, exec .clkFault s = .next t ∧ t.get SV_GUARD_FAULT_clock = 1 ∧ t.get SV_GUARD_CNT_faults = (s.get
    SV_GUARD_CNT_faults + 1) % 2 ^ SV_GUARD_CNT_faults.width ∧ t.get SV_GUARD_STATUS_state = 3 ∧ t.get
    SV_GUARD_STATUS_en_a = 0 ∧ t.get SV_GUARD_STATUS_en_b = 0 ∧ t.get SV_GUARD_CNT_shutdowns = (s.get
    SV_GUARD_CNT_shutdowns + 1) % 2 ^ SV_GUARD_CNT_shutdowns.width ∧ t.shut = s.shut ++ [.bias] ∧ t.guard.pulse = none
    ∧ t.guard.clkOut = true ∧ Frame [.guard, .shut, .evReq] [SV_GUARD_FAULT_clock, SV_GUARD_CNT_faults,
    SV_GUARD_STATUS_state, SV_GUARD_STATUS_en_a, SV_GUARD_STATUS_en_b, SV_GUARD_CNT_shutdowns, SV_GUARD_CNT_abandoned,
    MG_EVLOG_merged] s t) ∧
  (∀ (s : State), s.guard.clkOut = true → exec .supervisorClockReturn s = .next
    (({ s with guard := { s.guard with clkOut := false } } : State).raise 495)) ∧
  (∀ (s : State), s.guard.clkOut = false → exec .supervisorClockReturn s = .next (s)) ∧
  (∀ (s : State) (v : Nat), v < 256 → ∃ t, exec (.svReset v) s = .next t ∧ t.get SV_GUARD_CFG_straps_pu = v ∧ t.get
    SV_GUARD_CFG_straps_now = v ∧ t.get SV_GUARD_STATUS_en_a = 0 ∧ t.get SV_GUARD_STATUS_en_b = 0 ∧ t.get
    SV_GUARD_STATUS_state = State.reset.get SV_GUARD_STATUS_state ∧ t.on SV_GUARD_FAULT_config = !strapsValid v ∧
    t.plate = State.reset.plate ∧ t.store = State.reset.store ∧ t.pwr = State.reset.pwr ∧ t.guard = State.reset.guard)

/-- TILE_PRESENCE without a change does nothing; a tile that appears sets present, EV 160 and identification under
way; one that leaves clears present with EV 160 and, at the next bucket edge while the domain runs and at once while
it does not, ends identification, masks every powered FE die, opens every region loop with cause 5 and ends a transfer
with error 5. TILE_ID_READ_DONE while identifying: a bad header gives state 3, a bad pad map CRC 4, a byte not
acknowledged 5; else serial, kind, pad count and ratings are stored, state 2, and the accumulators start from the
newest valid life slot, or from 0 with no_record. TILE_EXP_SNAP captures the three accumulators. I2C_GO with a
transfer running stores op, length and address; with the tile absent ends with 5; a write outside the next life slot,
across a page or while held ends with 4; else it runs, state 1. I2C_DONE not acknowledged ends with 3; a read fills
the buffer; a write of the slot's last byte moves to the next slot and holds. LIFE_HOLD_EXPIRY ends the hold. -/
def Obligations.TileIsIdentifiedAndItsLifeKept : Prop :=
  (∀ (s : State) (p : Bool), s.on CX_TILE_STATUS_present = p → exec (.tilePresence p) s = .next (s)) ∧
  (∀ (s : State), s.on CX_TILE_STATUS_present = false → exec (.tilePresence true) s = .next ((((s.set
    CX_TILE_STATUS_present 1).set CX_TILE_STATUS_presence 1).raise 160).set CX_TILE_STATUS_id_state 1)) ∧
  (∀ (s : State) (n r : Nat), s.on CX_TILE_STATUS_present = true → s.mt.running = false → n < 3 → r < 96 → ∃ t, exec
    (.tilePresence false) s = .next t ∧ t.get CX_TILE_STATUS_present = 0 ∧ t.get CX_TILE_STATUS_id_state = 0 ∧
    ((s.feRuns n = true → t.get (FE_CTRL_die_mask n) = 1)) ∧ t.get (CX_LE_LOOP_en r) = 0 ∧ ((s.on (CX_LE_LOOP_en r) =
    true → t.get (CX_LE_LOOPSTAT_cause r) = 5)) ∧ (t.get CX_TILE_I2C_CTRL_state = (if s.get CX_TILE_I2C_CTRL_state = 1
    then 5 else s.get CX_TILE_I2C_CTRL_state)) ∧ Sparse.has 160 t.evReq = true) ∧
  (∀ (s : State), s.on CX_TILE_STATUS_present = true → s.mt.running = true →
    let u := ((s.set CX_TILE_STATUS_present 0).set CX_TILE_STATUS_presence 1).raise 160
    exec (.tilePresence false) s = .next ({ u with mt := { u.mt with edge := u.mt.edge ++ [.tileGone] } })) ∧
  (∀ (s : State) (n r : Nat), s.pending = [] → s.mt.running = true → s.mt.bucket + 1 < s.mt.nb → s.mt.edge =
    [.tileGone] → s.tg.arrived = [] → s.calMay CX_CAL_EN_enable = false → s.get CX_MT_STATUS_state ≠ 3 → s.mt.held =
    false → s.on CX_TILE_STATUS_present = false → n < 3 → r < 96 → ∃ t, step s = .next t ∧ t.get
    CX_TILE_STATUS_id_state = 0 ∧ ((s.feRuns n = true → t.get (FE_CTRL_die_mask n) = 1)) ∧ t.get (CX_LE_LOOP_en r) = 0
    ∧ ((s.on (CX_LE_LOOP_en r) = true → t.get (CX_LE_LOOPSTAT_cause r) = 5)) ∧ (t.get CX_TILE_I2C_CTRL_state = (if
    s.get CX_TILE_I2C_CTRL_state = 1 then 5 else s.get CX_TILE_I2C_CTRL_state))) ∧
  (∀ (s : State) (acked : Bool) (b : List Nat), s.get CX_TILE_STATUS_id_state ≠ 1 → exec (.tileIdReadDone acked b) s =
    .next (s)) ∧
  (∀ (s : State) (acked : Bool) (b : List Nat), s.get CX_TILE_STATUS_id_state = 1 → (b.all fun x => decide (x < 256))
    = true → idHeaderOk b = false → exec (.tileIdReadDone acked b) s = .next ((s.set CX_TILE_STATUS_id_state 3).flag
    CX_TILE_STATUS_id_err 161)) ∧
  (∀ (s : State) (acked : Bool) (b : List Nat), s.get CX_TILE_STATUS_id_state = 1 → (b.all fun x => decide (x < 256))
    = true → idHeaderOk b = true → idNum b 0x640 2 ≠ crc16 (idBytes b 0x40 0x600) → exec (.tileIdReadDone acked b) s =
    .next ((s.set CX_TILE_STATUS_id_state 4).flag CX_TILE_STATUS_id_err 161)) ∧
  (∀ (s : State) (b : List Nat), s.get CX_TILE_STATUS_id_state = 1 → (b.all fun x => decide (x < 256)) = true →
    idHeaderOk b = true → idNum b 0x640 2 = crc16 (idBytes b 0x40 0x600) → exec (.tileIdReadDone false b) s = .next
    ((s.set CX_TILE_STATUS_id_state 5).flag CX_TILE_STATUS_id_err 161)) ∧
  (∀ (s : State) (b : List Nat) (k : Nat), s.get CX_TILE_STATUS_id_state = 1 → (b.all fun x => decide (x < 256)) =
    true → idHeaderOk b = true → idNum b 0x640 2 = crc16 (idBytes b 0x40 0x600) → idNewest b = some k → ∃ t, exec
    (.tileIdReadDone true b) s = .next t ∧ t.get CX_TILE_STATUS_id_state = 2 ∧ t.get CX_TILE_SERIAL_LO_serial = idNum
    b 8 4 ∧ t.get CX_TILE_SERIAL_HI_serial = idNum b 0xC 4 ∧ t.get CX_TILE_KIND_kind = idNum b 6 1 ∧ t.get
    CX_TILE_KIND_pad_count = idNum b 0x10 2 ∧ t.get CX_TILE_RATED_HITS_value = idNum b 0x14 4 ∧ t.get
    CX_TILE_RATED_Q_value = idNum b 0x18 4 ∧ t.get CX_TILE_RATED_DOSE_value = idNum b 0x1C 4 ∧ t.get CX_TILE_LIFE_next
    = (k + 1) % 16 ∧ t.get CX_TILE_STATUS_no_record = 0 ∧ t.tile.hits = idNum b (0x804 + 64 * k) 8 ∧ t.tile.charge =
    idNum b (0x80C + 64 * k) 4 * 2 ^ 40 ∧ t.tile.dose = idNum b (0x810 + 64 * k) 4 ∧ Frame [.tile, .evReq]
    ([CX_TILE_STATUS_id_state, CX_TILE_SERIAL_LO_serial, CX_TILE_SERIAL_HI_serial, CX_TILE_KIND_kind,
    CX_TILE_KIND_pad_count, CX_TILE_RATED_HITS_value, CX_TILE_RATED_Q_value, CX_TILE_RATED_DOSE_value,
    CX_TILE_LIFE_next, CX_TILE_LIFE_frac, CX_TILE_STATUS_no_record, CX_TILE_STATUS_warn, CX_TILE_STATUS_end,
    CX_TILE_STATUS_life_event, MG_EVLOG_merged] ++ (List.range 48).map CX_TILE_PADMAP_present) s t) ∧
  (∀ (s : State) (b : List Nat), s.get CX_TILE_STATUS_id_state = 1 → (b.all fun x => decide (x < 256)) = true →
    idHeaderOk b = true → idNum b 0x640 2 = crc16 (idBytes b 0x40 0x600) → idNewest b = none → ∃ t, exec
    (.tileIdReadDone true b) s = .next t ∧ t.get CX_TILE_STATUS_id_state = 2 ∧ t.get CX_TILE_SERIAL_LO_serial = idNum
    b 8 4 ∧ t.get CX_TILE_SERIAL_HI_serial = idNum b 0xC 4 ∧ t.get CX_TILE_KIND_kind = idNum b 6 1 ∧ t.get
    CX_TILE_KIND_pad_count = idNum b 0x10 2 ∧ t.get CX_TILE_RATED_HITS_value = idNum b 0x14 4 ∧ t.get
    CX_TILE_RATED_Q_value = idNum b 0x18 4 ∧ t.get CX_TILE_RATED_DOSE_value = idNum b 0x1C 4 ∧ t.get CX_TILE_LIFE_next
    = 0 ∧ t.get CX_TILE_STATUS_no_record = 1 ∧ t.tile.hits = 0 ∧ t.tile.charge = 0 ∧ t.tile.dose = 0 ∧ Frame [.tile,
    .evReq] ([CX_TILE_STATUS_id_state, CX_TILE_SERIAL_LO_serial, CX_TILE_SERIAL_HI_serial, CX_TILE_KIND_kind,
    CX_TILE_KIND_pad_count, CX_TILE_RATED_HITS_value, CX_TILE_RATED_Q_value, CX_TILE_RATED_DOSE_value,
    CX_TILE_LIFE_next, CX_TILE_LIFE_frac, CX_TILE_STATUS_no_record, CX_TILE_STATUS_warn, CX_TILE_STATUS_end,
    CX_TILE_STATUS_life_event, MG_EVLOG_merged] ++ (List.range 48).map CX_TILE_PADMAP_present) s t) ∧
  (∀ (s : State), ∃ t, exec .tileExpSnap s = .next t ∧ t.get CX_TILE_EXP_HITS_LO_hits = s.tile.hits % 2 ^ 32 ∧ t.get
    CX_TILE_EXP_HITS_HI_hits = s.tile.hits / 2 ^ 32 % 2 ^ 32 ∧ t.get CX_TILE_EXP_Q_value = s.tile.charge / 2 ^ 40 % 2
    ^ 32 ∧ t.get CX_TILE_EXP_DOSE_value = s.tile.dose % 2 ^ 32 ∧ Frame [] [CX_TILE_EXP_HITS_LO_hits,
    CX_TILE_EXP_HITS_HI_hits, CX_TILE_EXP_Q_value, CX_TILE_EXP_DOSE_value] s t) ∧
  (∀ (s : State) (op : Bool) (len a : Nat), len < 32 → a < 65536 → s.get CX_TILE_I2C_CTRL_state = 1 → exec (.i2cGo op
    len a) s = .next (((s.setB CX_TILE_I2C_CTRL_op op).set CX_TILE_I2C_CTRL_len_m1 len).set CX_TILE_I2C_CTRL_addr a)) ∧
  (∀ (s : State) (op : Bool) (len a : Nat), len < 32 → a < 65536 → s.get CX_TILE_I2C_CTRL_state ≠ 1 → (s.on
    CX_TILE_STATUS_present = false ∨ s.svc.tap.ir = 0) → ∃ t, exec (.i2cGo op len a) s = .next t ∧ t.get
    CX_TILE_I2C_CTRL_state = 5 ∧ t.on CX_TILE_STATUS_i2c_err = true ∧ Frame [.evReq] [CX_TILE_I2C_CTRL_op,
    CX_TILE_I2C_CTRL_len_m1, CX_TILE_I2C_CTRL_addr, CX_TILE_I2C_CTRL_state, CX_TILE_STATUS_i2c_err, MG_EVLOG_merged] s
    t) ∧
  (∀ (s : State) (len a : Nat), len < 32 → a < 65536 → s.get CX_TILE_I2C_CTRL_state ≠ 1 → s.on CX_TILE_STATUS_present
    = true → s.svc.tap.ir ≠ 0 → (a < 0x800 + 64 * s.get CX_TILE_LIFE_next ∨ 0x840 + 64 * s.get CX_TILE_LIFE_next < a +
    len + 1 ∨ 32 < a % 32 + len + 1 ∨ s.on CX_TILE_LIFE_hold = true) → ∃ t, exec (.i2cGo true len a) s = .next t ∧
    t.get CX_TILE_I2C_CTRL_state = 4 ∧ t.on CX_TILE_STATUS_i2c_err = true ∧ t.tile = s.tile) ∧
  (∀ (s : State) (len a : Nat), len < 32 → a < 65536 → s.get CX_TILE_I2C_CTRL_state ≠ 1 → s.on CX_TILE_STATUS_present
    = true → s.svc.tap.ir ≠ 0 → 0x800 + 64 * s.get CX_TILE_LIFE_next ≤ a → a + len + 1 ≤ 0x840 + 64 * s.get
    CX_TILE_LIFE_next → a % 32 + len + 1 ≤ 32 → s.on CX_TILE_LIFE_hold = false → ∃ t, exec (.i2cGo true len a) s =
    .next t ∧ t.get CX_TILE_I2C_CTRL_state = 1 ∧ t.tile.i2cOp = true ∧ t.tile.i2cLen = len ∧ t.tile.i2cAddr = a ∧
    Frame [.tile] [CX_TILE_I2C_CTRL_op, CX_TILE_I2C_CTRL_len_m1, CX_TILE_I2C_CTRL_addr, CX_TILE_I2C_CTRL_state] s t) ∧
  (∀ (s : State) (len a : Nat), len < 32 → a < 65536 → s.get CX_TILE_I2C_CTRL_state ≠ 1 → s.on CX_TILE_STATUS_present
    = true → s.svc.tap.ir ≠ 0 → ∃ t, exec (.i2cGo false len a) s = .next t ∧ t.get CX_TILE_I2C_CTRL_state = 1 ∧
    t.tile.i2cOp = false ∧ t.tile.i2cLen = len ∧ t.tile.i2cAddr = a ∧ Frame [.tile] [CX_TILE_I2C_CTRL_op,
    CX_TILE_I2C_CTRL_len_m1, CX_TILE_I2C_CTRL_addr, CX_TILE_I2C_CTRL_state] s t) ∧
  (∀ (s : State) (acked : Bool) (d : List Nat), s.get CX_TILE_I2C_CTRL_state ≠ 1 → exec (.i2cDone acked d) s = .next
    (s)) ∧
  (∀ (s : State) (d : List Nat), s.get CX_TILE_I2C_CTRL_state = 1 → (d.all fun x => decide (x < 256)) = true → exec
    (.i2cDone false d) s = .next ((s.set CX_TILE_I2C_CTRL_state 3).flag CX_TILE_STATUS_i2c_err 164)) ∧
  (∀ (s : State) (d : List Nat) (i : Nat), s.get CX_TILE_I2C_CTRL_state = 1 → (d.all fun x => decide (x < 256)) = true
    → s.tile.i2cOp = false → i < d.length → i ≤ s.tile.i2cLen → i < 32 → ∃ t, exec (.i2cDone true d) s = .next t ∧
    t.get CX_TILE_I2C_CTRL_state = 2 ∧ byteOf (t.get (CX_TILE_I2C_BUF_data (i / 4))) (i % 4) = d.getD i 0 ∧ t.tile =
    s.tile) ∧
  (∀ (s : State) (d : List Nat), s.get CX_TILE_I2C_CTRL_state = 1 → (d.all fun x => decide (x < 256)) = true →
    s.tile.i2cOp = true → s.tile.i2cAddr ≤ 0x83F + 64 * s.get CX_TILE_LIFE_next → 0x83F + 64 * s.get CX_TILE_LIFE_next
    ≤ s.tile.i2cAddr + s.tile.i2cLen → ∃ t, exec (.i2cDone true d) s = .next t ∧ t.get CX_TILE_I2C_CTRL_state = 2 ∧
    t.get CX_TILE_LIFE_next = (s.get CX_TILE_LIFE_next + 1) % 16 ∧ t.get CX_TILE_LIFE_hold = 1 ∧ Frame []
    [CX_TILE_I2C_CTRL_state, CX_TILE_LIFE_next, CX_TILE_LIFE_hold] s t) ∧
  (∀ (s : State), exec .lifeHoldExpiry s = .next (s.set CX_TILE_LIFE_hold 0))

/-- LOOP_ENABLE with en = 0 stores thermistor and target and opens the loop. With en = 1 on a loop that is open, with
an identified tile and the region enabled in current mode, it closes the loop from output 32,768 with the region's
trims as bases, its cause and deviation 0; without these it is refused and the loop stays open; on a closed loop only
thermistor and target change. REGION_LOOP_SAMPLE of an open loop does nothing; without hits it counts an empty sample,
the 64th in a row sets stale with EV 166; with hits the mean, rounded half up, is stored and stale clears: on a parity
error every closed loop opens with cause 3; an overrun keeps the loop's state and is counted, the third in a row opens
it with cause 2; else the law gives the new output, shown as deviation from 32,768, and the hits start anew. -/
def Obligations.RegionLoopsRunAndStop : Prop :=
  (∀ (s : State) (r th tg : Nat), r < 96 → th < 8 → tg < 4096 → (s.engine 2).loop ≠ r → exec (.loopEnable r false th
    tg) s = .next (((s.set (CX_LE_LOOP_therm r) th).set (CX_LE_LOOP_target r) tg).set (CX_LE_LOOP_en r) 0)) ∧
  (∀ (s : State) (r th tg : Nat), r < 96 → th < 8 → tg < 4096 → s.on (CX_LE_LOOP_en r) = true → exec (.loopEnable r
    true th tg) s = .next ((s.set (CX_LE_LOOP_therm r) th).set (CX_LE_LOOP_target r) tg)) ∧
  (∀ (s : State) (r th tg : Nat), r < 96 → th < 8 → tg < 4096 → s.on (CX_LE_LOOP_en r) = false → (s.tileValid = false
    ∨ s.loopRegion r = false) → ∃ t, exec (.loopEnable r true th tg) s = .next t ∧ t.get (CX_LE_LOOP_en r) = 0 ∧ t.on
    CX_LE_STATUS_refused = true ∧ t.get (CX_LE_LOOP_target r) = tg ∧ Frame [.evReq] [CX_LE_LOOP_therm r,
    CX_LE_LOOP_target r, CX_LE_STATUS_refused, MG_EVLOG_merged] s t) ∧
  (∀ (s : State) (r th tg i : Nat), r < 96 → i < 16 → th < 8 → tg < 4096 → s.on (CX_LE_LOOP_en r) = false →
    s.tileValid = true → s.loopRegion r = true → s.svc.assay = none → ∃ t, exec (.loopEnable r true th tg) s = .next t
    ∧ t.get (CX_LE_LOOP_en r) = 1 ∧ (t.rloop r).loop = ⟨32768 * 2 ^ 20, 0, 0, 32768, 0⟩ ∧ (t.rloop r).n = 0 ∧ (t.rloop
    r).bases.getD i 0 = s.get (FE_CH_CFG_trim (chanOf r i / 512) (chanOf r i % 512)) ∧ t.get (CX_LE_LOOPSTAT_cause r)
    = 0 ∧ t.get (CX_LE_LOOPSTAT_delta r) = 0 ∧ t.get (CX_LE_LOOP_target r) = tg ∧ Frame [.tile] [CX_LE_LOOP_therm r,
    CX_LE_LOOP_target r, CX_LE_LOOP_en r, CX_LE_LOOPSTAT_cause r, CX_LE_LOOPSTAT_delta r] s t) ∧
  (∀ (s : State) (r : Nat) (good ovr : Bool), r < 96 → s.on (CX_LE_LOOP_en r) = false → exec (.regionLoopSample r good
    ovr) s = .next (s)) ∧
  (∀ (s : State) (r : Nat) (good ovr : Bool), r < 96 → s.on (CX_LE_LOOP_en r) = true → (s.rloop r).n = 0 → ∃ t, exec
    (.regionLoopSample r good ovr) s = .next t ∧ t.rloop r = { s.rloop r with empty := (s.rloop r).empty + 1 } ∧ t.on
    (CX_LE_LOOPSTAT_stale r) = (s.on (CX_LE_LOOPSTAT_stale r) || decide ((s.rloop r).empty = 63)) ∧ t.get
    (CX_LE_LOOP_en r) = s.get (CX_LE_LOOP_en r) ∧ Frame [.tile, .evReq] [CX_LE_LOOPSTAT_stale r, MG_EVLOG_merged] s t) ∧
  (∀ (s : State) (r q : Nat) (ovr : Bool), r < 96 → q < 96 → s.on (CX_LE_LOOP_en r) = true → 0 < (s.rloop r).n → s.on
    (CX_LE_LOOP_en q) = true → ∃ t, exec (.regionLoopSample r false ovr) s = .next t ∧ t.get (CX_LE_LOOP_en q) = 0 ∧
    t.get (CX_LE_LOOPSTAT_cause q) = 3 ∧ t.get CX_LE_STATUS_parity = 1 ∧ Sparse.has 165 t.evReq = true) ∧
  (∀ (s : State) (r : Nat), r < 96 → s.on (CX_LE_LOOP_en r) = true → 0 < (s.rloop r).n → s.injOn 2 r = false → ∃ t,
    exec (.regionLoopSample r true true) s = .next t ∧ (t.rloop r).loop = (s.rloop r).loop ∧ (t.rloop r).n = 0 ∧
    (t.rloop r).late = (s.rloop r).late + 1 ∧ t.get (LE_CNT_overrun 2) = min (s.get (LE_CNT_overrun 2) + 1) (2 ^
    (LE_CNT_overrun 2).width - 1) ∧ t.on (CX_LE_LOOP_en r) = decide ((s.rloop r).late < 2) ∧ ((2 ≤ (s.rloop r).late →
    t.get (CX_LE_LOOPSTAT_cause r) = 2))) ∧
  (∀ (s : State) (r y : Nat) (e : Int) (c : Coefs), r < 96 → s.on (CX_LE_LOOP_en r) = true → 0 < (s.rloop r).n →
    s.injOn 2 r = false → y = (2 * (s.rloop r).sum + (s.rloop r).n) / (2 * (s.rloop r).n) → y < 65536 → c = s.coefs 2
    → e = sat16 ((s.get (CX_LE_LOOP_target r) : Int) - y) → e.natAbs ≤ c.eLim → ∃ t, exec (.regionLoopSample r true
    false) s = .next t ∧ t.get (CX_LE_LOOPSTAT_y r) = y % 2 ^ (CX_LE_LOOPSTAT_y r).width ∧ t.get (CX_LE_LOOPSTAT_stale
    r) = 0 ∧ (t.rloop r).n = 0 ∧ (t.rloop r).sum = 0 ∧ (t.rloop r).loop.e = e ∧ (c.uMin ≤ c.uMax → c.uMin ≤ (t.rloop
    r).loop.u) ∧ (c.uMin ≤ c.uMax → (t.rloop r).loop.u ≤ c.uMax) ∧ t.get (CX_LE_LOOP_en r) = s.get (CX_LE_LOOP_en r))

/-- BOOT_CLEAR_DONE in state booting (0) leaves both instruction RAM halves and the data RAM all 0, half 0 active,
state 1 and EV 176 raised; in any other state it does nothing. LOCKSTEP_DIVERGENCE, TRAP_LOOP, WATCHDOG_EXPIRY (with a
period set) and MG_HALT halt running cores with cause 2, 3, 4 and 1: state 3, the halt is counted, EV 180; cores that
do not run stay as they are, and with period 0 the watchdog does nothing. MG_RESTART starts halted cores at
0x4000_0000 with the watchdog at its full period, does nothing to running ones and is refused in the other states.
AUTO_RESTART, once after a halt of cause 2 or more, takes the restarts that lie within the window as their count, at
most as many as it held, and does the same, counting itself, where auto is set and they are fewer than three; else the
halt stays; without such a halt it does nothing. WDOG_KICK restarts the watchdog. A start ends a running assay of the
cores with verdict 0. -/
def Obligations.CoresHaltAndStart : Prop :=
  (∀ (s : State) (i : Nat), s.get MG_STATUS_state = 0 → s.repairOf memIram i = none → ∃ t, exec .bootClearDone s =
    .next t ∧ t.get MG_STATUS_state = 1 ∧ t.get MG_STATUS_active_half = 0 ∧ t.iramWord i = 0 ∧ t.dramByte i = 0 ∧
    t.mark memDram i = 0 ∧ Sparse.has 176 t.evReq = true ∧ Frame [.mg, .prot, .evReq] [MG_STATUS_state,
    MG_STATUS_active_half, MG_EVLOG_merged] s t) ∧
  (∀ (s : State), s.get MG_STATUS_state ≠ 0 → exec .bootClearDone s = .next (s)) ∧
  (∀ (s : State), s.get MG_STATUS_state = 2 → ∃ t, exec .lockstepDivergence s = .next t ∧ t.get MG_STATUS_state = 3 ∧
    t.get MG_STATUS_cause = 2 ∧ t.get MG_STATUS_halts = min (s.get MG_STATUS_halts + 1) (2 ^ MG_STATUS_halts.width -
    1) ∧ Sparse.has 180 t.evReq = true ∧ t.mg.autoDue = true ∧ t.mg.core = s.mg.core ∧ Frame [.evReq, .mg]
    [MG_STATUS_state, MG_STATUS_cause, MG_STATUS_halts, MG_EVLOG_merged] s t) ∧
  (∀ (s : State), s.get MG_STATUS_state ≠ 2 → exec .lockstepDivergence s = .next (s)) ∧
  (∀ (s : State), s.get MG_STATUS_state = 2 → ∃ t, exec .trapLoop s = .next t ∧ t.get MG_STATUS_state = 3 ∧ t.get
    MG_STATUS_cause = 3 ∧ t.get MG_STATUS_halts = min (s.get MG_STATUS_halts + 1) (2 ^ MG_STATUS_halts.width - 1) ∧
    Sparse.has 180 t.evReq = true ∧ t.mg.autoDue = true ∧ t.mg.core = s.mg.core ∧ Frame [.evReq, .mg]
    [MG_STATUS_state, MG_STATUS_cause, MG_STATUS_halts, MG_EVLOG_merged] s t) ∧
  (∀ (s : State), s.get MG_STATUS_state ≠ 2 → exec .trapLoop s = .next (s)) ∧
  (∀ (s : State), s.get MG_STATUS_state = 2 → s.get MG_WDOG_period ≠ 0 → ∃ t, exec .watchdogExpiry s = .next t ∧ t.get
    MG_STATUS_state = 3 ∧ t.get MG_STATUS_cause = 4 ∧ t.get MG_STATUS_halts = min (s.get MG_STATUS_halts + 1) (2 ^
    MG_STATUS_halts.width - 1) ∧ Sparse.has 180 t.evReq = true ∧ t.mg.autoDue = true ∧ t.mg.core = s.mg.core ∧ Frame
    [.evReq, .mg] [MG_STATUS_state, MG_STATUS_cause, MG_STATUS_halts, MG_EVLOG_merged] s t) ∧
  (∀ (s : State), s.get MG_STATUS_state ≠ 2 → exec .watchdogExpiry s = .next (s)) ∧
  (∀ (s : State), s.get MG_STATUS_state = 2 → ∃ t, exec .mgHalt s = .next t ∧ t.get MG_STATUS_state = 3 ∧ t.get
    MG_STATUS_cause = 1 ∧ t.get MG_STATUS_halts = min (s.get MG_STATUS_halts + 1) (2 ^ MG_STATUS_halts.width - 1) ∧
    Sparse.has 180 t.evReq = true ∧ t.mg.autoDue = false ∧ t.mg.core = s.mg.core ∧ Frame [.evReq, .mg]
    [MG_STATUS_state, MG_STATUS_cause, MG_STATUS_halts, MG_EVLOG_merged] s t) ∧
  (∀ (s : State), s.get MG_STATUS_state ≠ 2 → exec .mgHalt s = .next (s)) ∧
  (∀ (s : State), s.get MG_WDOG_period = 0 → exec .watchdogExpiry s = .next (s)) ∧
  (∀ (s : State), ∃ t, exec .wdogKick s = .next t ∧ t.mg.wdog = s.get MG_WDOG_period ∧ t.mg.core = s.mg.core ∧ Frame
    [.mg] [] s t) ∧
  (∀ (s : State), s.get MG_STATUS_state = 3 → s.svc.assay = none → ∃ t, exec .mgRestart s = .next t ∧ t.get
    MG_STATUS_state = 2 ∧ t.mg.core = ⟨0x40000000, [], []⟩ ∧ t.mg.wdog = s.get MG_WDOG_period ∧ Frame [.mg]
    [MG_STATUS_state] s t) ∧
  (∀ (s : State) (i : Nat), s.get MG_STATUS_state = 3 → s.svc.assay = some (7, i) → ∃ t, exec .mgRestart s = .next t ∧
    t.get MG_STATUS_state = 2 ∧ t.mg.core = ⟨0x40000000, [], []⟩ ∧ t.svc.assay = none ∧ t.get CX_ASSAY_STATUS_state =
    3 ∧ t.get CX_ASSAY_STATUS_verdict = 0) ∧
  (∀ (s : State), s.get MG_STATUS_state = 2 → exec .mgRestart s = .next (s)) ∧
  (∀ (s : State), (s.get MG_STATUS_state = 0 ∨ s.get MG_STATUS_state = 1) → exec .mgRestart s = .next (s.flag
    MG_STATUS_refused 183)) ∧
  (∀ (s : State) (n k : Nat), s.get MG_STATUS_state = 3 → s.mg.autoDue = true → s.on MG_CTRL_auto = true → k = min n
    (s.get MG_STATUS_restarts) → k < 3 → s.svc.assay = none → ∃ t, exec (.autoRestart n) s = .next t ∧ t.get
    MG_STATUS_state = 2 ∧ t.mg.core = ⟨0x40000000, [], []⟩ ∧ t.mg.wdog = s.get MG_WDOG_period ∧ t.get
    MG_STATUS_restarts = k + 1 ∧ t.mg.autoDue = false ∧ Frame [.mg] [MG_STATUS_state, MG_STATUS_restarts] s t) ∧
  (∀ (s : State) (n k : Nat), s.get MG_STATUS_state = 3 → s.mg.autoDue = true → k = min n (s.get MG_STATUS_restarts) →
    (s.on MG_CTRL_auto = false ∨ 3 ≤ k) → exec (.autoRestart n) s = .next (State.set
    { s with mg := { s.mg with autoDue := false } } MG_STATUS_restarts k)) ∧
  (∀ (s : State) (n : Nat), (s.get MG_STATUS_state ≠ 3 ∨ s.mg.autoDue = false) → exec (.autoRestart n) s = .next (s))

/-- IMAGE_SWITCH starts a check, and is refused while one runs or a safe point is awaited. IMAGE_CHECK_DONE of a
running check fills a merge buffer open on the image first; then an image whose length is not a whole number of words
from 8 to 131,072 bytes, or whose CRC-32 over its bytes from the shadow half differs from MG_IMG_CRC, ends in state 4
with EV 177; a good image (length and CRC right, no word marked) waits for the safe point, state 2 with EV 178, while
the cores run; waiting cores start it at once, with the halves exchanged and EV 179; else the halves exchange and the
cores stay as they are. IMAGE_READY at the safe point of running cores, and IMAGE_FORCE there or after a timeout,
exchange the halves: state 3, every address of the active window now names the word that the shadow window named;
running cores start the new image. IMAGE_TIMEOUT gives state 5 with EV 177. -/
def Obligations.ImagesAreCheckedAndSwitched : Prop :=
  (∀ (s : State), (s.get MG_IMG_CTRL_state = 1 ∨ s.get MG_IMG_CTRL_state = 2) → exec .imageSwitch s = .next (s.flag
    MG_STATUS_refused 183)) ∧
  (∀ (s : State), s.get MG_IMG_CTRL_state ≠ 1 → s.get MG_IMG_CTRL_state ≠ 2 → exec .imageSwitch s = .next (s.set
    MG_IMG_CTRL_state 1)) ∧
  (∀ (s : State), s.get MG_IMG_CTRL_state ≠ 1 → exec .imageCheckDone s = .next (s)) ∧
  (∀ (s : State) (n : Nat), s.get MG_IMG_CTRL_state = 1 → (s.prot.bufRam.any fun b => decide (s.iramIndex true 0 ≤
    b.word ∧ b.word < s.iramIndex true 0 + s.get MG_IMG_LEN_len / 8)) = false → (s.get MG_IMG_LEN_len % 8 ≠ 0 ∨ s.get
    MG_IMG_LEN_len = 0 ∨ 131072 < s.get MG_IMG_LEN_len ∨ (n = s.get MG_IMG_LEN_len / 8 ∧ crc32 (wordBytes ((List.range
    n).map fun k => s.iramWord (s.iramIndex true 0 + k))) ≠ s.get MG_IMG_CRC_crc)) → exec .imageCheckDone s = .next
    ((s.set MG_IMG_CTRL_state 4).raise 177)) ∧
  (∀ (s : State) (n k : Nat), s.get MG_IMG_CTRL_state = 1 → (s.prot.bufRam.any fun b => decide (s.iramIndex true 0 ≤
    b.word ∧ b.word < s.iramIndex true 0 + s.get MG_IMG_LEN_len / 8)) = false → n = s.get MG_IMG_LEN_len / 8 → k < n →
    s.mark memIram (s.iramIndex true 0 + k) ≠ 0 → exec .imageCheckDone s = .next ((s.set MG_IMG_CTRL_state 4).raise
    177)) ∧
  (∀ (s : State) (n : Nat), s.get MG_IMG_CTRL_state = 1 → (s.prot.bufRam.any fun b => decide (s.iramIndex true 0 ≤
    b.word ∧ b.word < s.iramIndex true 0 + s.get MG_IMG_LEN_len / 8)) = false → (s.get MG_IMG_LEN_len) % 8 = 0 → 8 ≤
    s.get MG_IMG_LEN_len → s.get MG_IMG_LEN_len ≤ 131072 → n = s.get MG_IMG_LEN_len / 8 → ((∀ k ∈ List.range n, s.mark
    memIram (s.iramIndex true 0 + k) = 0)) → crc32 (wordBytes ((List.range n).map fun k => s.iramWord (s.iramIndex
    true 0 + k))) = s.get MG_IMG_CRC_crc → s.get MG_STATUS_state = 2 → exec .imageCheckDone s = .next ((s.set
    MG_IMG_CTRL_state 2).raise 178)) ∧
  (∀ (s : State) (n off : Nat), s.get MG_IMG_CTRL_state = 1 → (s.prot.bufRam.any fun b => decide (s.iramIndex true 0 ≤
    b.word ∧ b.word < s.iramIndex true 0 + s.get MG_IMG_LEN_len / 8)) = false → off < 0x20000 → (s.get MG_IMG_LEN_len)
    % 8 = 0 → 8 ≤ s.get MG_IMG_LEN_len → s.get MG_IMG_LEN_len ≤ 131072 → n = s.get MG_IMG_LEN_len / 8 → ((∀ k ∈
    List.range n, s.mark memIram (s.iramIndex true 0 + k) = 0)) → crc32 (wordBytes ((List.range n).map fun k =>
    s.iramWord (s.iramIndex true 0 + k))) = s.get MG_IMG_CRC_crc → s.get MG_STATUS_state = 1 → s.svc.assay = none → ∃
    t, exec .imageCheckDone s = .next t ∧ t.iramIndex false off = s.iramIndex true off ∧ t.get MG_IMG_CTRL_state = 3 ∧
    t.get MG_STATUS_state = 2 ∧ t.mg.core = ⟨0x40000000, [], []⟩ ∧ t.mg.wdog = s.get MG_WDOG_period ∧ Sparse.has 179
    t.evReq = true ∧ Frame [.mg, .evReq] [MG_IMG_CTRL_state, MG_STATUS_state, MG_STATUS_active_half, MG_EVLOG_merged]
    s t) ∧
  (∀ (s : State) (n off : Nat), s.get MG_IMG_CTRL_state = 1 → (s.prot.bufRam.any fun b => decide (s.iramIndex true 0 ≤
    b.word ∧ b.word < s.iramIndex true 0 + s.get MG_IMG_LEN_len / 8)) = false → off < 0x20000 → (s.get MG_IMG_LEN_len)
    % 8 = 0 → 8 ≤ s.get MG_IMG_LEN_len → s.get MG_IMG_LEN_len ≤ 131072 → n = s.get MG_IMG_LEN_len / 8 → ((∀ k ∈
    List.range n, s.mark memIram (s.iramIndex true 0 + k) = 0)) → crc32 (wordBytes ((List.range n).map fun k =>
    s.iramWord (s.iramIndex true 0 + k))) = s.get MG_IMG_CRC_crc → (s.get MG_STATUS_state = 0 ∨ s.get MG_STATUS_state
    = 3) → ∃ t, exec .imageCheckDone s = .next t ∧ t.iramIndex false off = s.iramIndex true off ∧ t.get
    MG_IMG_CTRL_state = 3 ∧ Frame [] [MG_IMG_CTRL_state, MG_STATUS_active_half] s t) ∧
  (∀ (s : State), s.get MG_IMG_CTRL_state = 1 → (s.prot.bufRam.any fun b => decide (s.iramIndex true 0 ≤ b.word ∧
    b.word < s.iramIndex true 0 + s.get MG_IMG_LEN_len / 8)) = true → ∃ t, exec .imageCheckDone s = .next t ∧ exec
    .imageCheckDone s.fillRam = .next t) ∧
  (∀ (s : State) (off : Nat), s.get MG_IMG_CTRL_state = 2 → s.get MG_STATUS_state = 2 → off < 0x20000 → s.svc.assay =
    none → ∃ t, exec .imageReady s = .next t ∧ t.iramIndex false off = s.iramIndex true off ∧ t.get MG_IMG_CTRL_state
    = 3 ∧ t.get MG_STATUS_state = 2 ∧ t.mg.core = ⟨0x40000000, [], []⟩ ∧ t.mg.wdog = s.get MG_WDOG_period ∧ Sparse.has
    179 t.evReq = true ∧ Frame [.mg, .evReq] [MG_IMG_CTRL_state, MG_STATUS_state, MG_STATUS_active_half,
    MG_EVLOG_merged] s t) ∧
  (∀ (s : State), (s.get MG_IMG_CTRL_state ≠ 2 ∨ s.get MG_STATUS_state ≠ 2) → exec .imageReady s = .next (s)) ∧
  (∀ (s : State), s.get MG_IMG_CTRL_state = 2 → exec .imageTimeout s = .next ((s.set MG_IMG_CTRL_state 5).raise 177)) ∧
  (∀ (s : State), s.get MG_IMG_CTRL_state ≠ 2 → exec .imageTimeout s = .next (s)) ∧
  (∀ (s : State) (off : Nat), (s.get MG_IMG_CTRL_state = 2 ∨ s.get MG_IMG_CTRL_state = 5) → (s.get MG_STATUS_state = 1
    ∨ s.get MG_STATUS_state = 2) → off < 0x20000 → s.svc.assay = none → ∃ t, exec .imageForce s = .next t ∧
    t.iramIndex false off = s.iramIndex true off ∧ t.get MG_IMG_CTRL_state = 3 ∧ t.get MG_STATUS_state = 2 ∧ t.mg.core
    = ⟨0x40000000, [], []⟩ ∧ t.mg.wdog = s.get MG_WDOG_period ∧ Sparse.has 179 t.evReq = true ∧ Frame [.mg, .evReq]
    [MG_IMG_CTRL_state, MG_STATUS_state, MG_STATUS_active_half, MG_EVLOG_merged] s t) ∧
  (∀ (s : State) (off : Nat), (s.get MG_IMG_CTRL_state = 2 ∨ s.get MG_IMG_CTRL_state = 5) → s.get MG_STATUS_state = 3
    → off < 0x20000 → ∃ t, exec .imageForce s = .next t ∧ t.iramIndex false off = s.iramIndex true off ∧ t.get
    MG_IMG_CTRL_state = 3 ∧ Frame [] [MG_IMG_CTRL_state, MG_STATUS_active_half] s t) ∧
  (∀ (s : State), s.get MG_IMG_CTRL_state ≠ 2 → s.get MG_IMG_CTRL_state ≠ 5 → exec .imageForce s = .next (s))

/-- EVENT_SERVICE with no request latched, or while the boot ROM runs, does nothing. Else the lowest latched request
leaves: with its log bit set, the 8 bytes at 0x18000 + 8 wp of the data RAM become source, host bit, argument and the
low 38 bits of the uptime, and wp goes on by one modulo 4,096; with its host bit set as well, the place joins the host
queue; where that place held an entry the host has not read, that entry leaves the queue and is counted as lost. With
its interrupt bit set its pending bit is set. Nothing else of the register state changes. EV_CLAIM_READ gives the
lowest pending source and clears its bit alone; with none, valid and source are 0. EVQ_READ gives the oldest unread
entry and removes it; with none, the low word is 0. MTIME_COMPARE sets the timer interrupt; UPTIME_READ tells the two
halves of the uptime and holds the high one. -/
def Obligations.EventsAreLoggedQueuedAndClaimed : Prop :=
  (∀ (s : State) (us : Nat), (s.evReq = [] ∨ s.get MG_STATUS_state = 0) → exec (.eventService us) s = .next (s)) ∧
  (∀ (s : State) (us src arg wp : Nat) (rest : List (Nat × Nat)), s.evReq = (src, arg) :: rest → s.get MG_STATUS_state
    ≠ 0 → src < 512 → arg < 65536 → us < 2 ^ 64 → s.evBit MG_EV_LOGEN_en src = true → wp = s.get MG_EVLOG_wp → wp <
    4096 → s.mg.evq.contains wp = false → ∃ t, exec (.eventService us) s = .next t ∧ (ofBytes ((List.range 8).map fun
    k => t.dramByte (0x18000 + 8 * wp + k)) = src * 2 ^ 55 + (if s.evBit MG_EV_HOSTEN_en src then 2 ^ 54 else 0) + arg
    * 2 ^ 38 + us % 2 ^ 38) ∧ t.get MG_EVLOG_wp = (wp + 1) % 4096 ∧ t.get MG_EVQ_STAT_count = t.mg.evq.length % 2 ^
    MG_EVQ_STAT_count.width ∧ t.evReq = rest ∧ (t.mg.evq = s.mg.evq ++ (if s.evBit MG_EV_HOSTEN_en src then [wp] else
    [])) ∧ t.mg.uptime = us ∧ (t.get (MG_EV_PEND_pend (src / 32)) = (if s.evBit MG_EV_IRQEN_en src then Nat.lor (s.get
    (MG_EV_PEND_pend (src / 32))) (2 ^ (src % 32)) % 2 ^ 32 else s.get (MG_EV_PEND_pend (src / 32)))) ∧ Frame [.evReq,
    .mg, .prot] [MG_EVLOG_wp, MG_EVQ_STAT_count, MG_EV_PEND_pend (src / 32)] s t) ∧
  (∀ (s : State) (us src arg wp : Nat) (rest : List (Nat × Nat)), s.evReq = (src, arg) :: rest → s.get MG_STATUS_state
    ≠ 0 → src < 512 → arg < 65536 → us < 2 ^ 64 → s.evBit MG_EV_LOGEN_en src = true → wp = s.get MG_EVLOG_wp → wp <
    4096 → s.mg.evq.contains wp = true → ∃ t, exec (.eventService us) s = .next t ∧ (ofBytes ((List.range 8).map fun k
    => t.dramByte (0x18000 + 8 * wp + k)) = src * 2 ^ 55 + (if s.evBit MG_EV_HOSTEN_en src then 2 ^ 54 else 0) + arg *
    2 ^ 38 + us % 2 ^ 38) ∧ t.get MG_EVLOG_wp = (wp + 1) % 4096 ∧ t.get MG_EVQ_STAT_count = t.mg.evq.length % 2 ^
    MG_EVQ_STAT_count.width ∧ (t.mg.evq = s.mg.evq.filter (· != wp) ++ (if s.evBit MG_EV_HOSTEN_en src then [wp] else
    [])) ∧ t.get MG_EVQ_STAT_lost = min (s.get MG_EVQ_STAT_lost + 1) (2 ^ MG_EVQ_STAT_lost.width - 1) ∧ t.get
    MG_STATUS_evq_lost ≠ 0) ∧
  (∀ (s : State) (us src arg : Nat) (rest : List (Nat × Nat)), s.evReq = (src, arg) :: rest → s.get MG_STATUS_state ≠
    0 → src < 512 → arg < 65536 → us < 2 ^ 64 → s.evBit MG_EV_LOGEN_en src = false → ∃ t, exec (.eventService us) s =
    .next t ∧ t.evReq = rest ∧ (t.get (MG_EV_PEND_pend (src / 32)) = (if s.evBit MG_EV_IRQEN_en src then Nat.lor
    (s.get (MG_EV_PEND_pend (src / 32))) (2 ^ (src % 32)) % 2 ^ 32 else s.get (MG_EV_PEND_pend (src / 32)))) ∧
    t.mg.dram = s.mg.dram ∧ t.mg.evq = s.mg.evq ∧ Frame [.evReq, .mg] [MG_EV_PEND_pend (src / 32)] s t) ∧
  (∀ (s : State), ((∀ i ∈ List.range 512, s.evBit MG_EV_PEND_pend i = false)) → exec .evClaimRead s = .next ((s.set
    MG_EV_CLAIM_valid 0).set MG_EV_CLAIM_source 0)) ∧
  (∀ (s : State) (i j : Nat), i < 512 → j < 512 → s.evBit MG_EV_PEND_pend i = true → ((∀ k ∈ List.range i, s.evBit
    MG_EV_PEND_pend k = false)) → ∃ t, exec .evClaimRead s = .next t ∧ t.get MG_EV_CLAIM_valid = 1 ∧ t.get
    MG_EV_CLAIM_source = i ∧ t.evBit MG_EV_PEND_pend j = (s.evBit MG_EV_PEND_pend j && j != i) ∧ Frame []
    [MG_EV_CLAIM_valid, MG_EV_CLAIM_source, MG_EV_PEND_pend (i / 32)] s t) ∧
  (∀ (s : State), s.mg.evq = [] → exec .evqRead s = .next (s.set MG_EVQ_LO_entry 0)) ∧
  (∀ (s : State) (e v : Nat) (rest : List Nat), s.mg.evq = e :: rest → ((∀ k ∈ List.range 8, s.mark memDram (0x18000 +
    8 * e + k) = 0)) → v = ofBytes ((List.range 8).map fun k => s.dramByte (0x18000 + 8 * e + k)) → ∃ t, exec .evqRead
    s = .next t ∧ t.get MG_EVQ_LO_entry = v % 2 ^ 32 ∧ t.get MG_EVQ_HI_entry = v / 2 ^ 32 % 2 ^ 32 ∧ t.mg.evq = rest ∧
    t.get MG_EVQ_STAT_count = rest.length % 2 ^ MG_EVQ_STAT_count.width ∧ Frame [.mg] [MG_EVQ_LO_entry,
    MG_EVQ_HI_entry, MG_EVQ_STAT_count] s t) ∧
  (∀ (s : State), ∃ t, exec .mtimeCompare s = .next t ∧ t.mg.timer = true ∧ t.mg.uptime = max s.mg.uptime s.mtimecmp ∧
    Frame [.mg] [] s t) ∧
  (∀ (s : State) (us : Nat), us < 2 ^ 64 → ∃ t, exec (.uptimeRead us) s = .next t ∧ t.get MG_UPTIME_LO_us = us % 2 ^
    32 ∧ t.get MG_UPTIME_HI_us = us / 2 ^ 32 ∧ t.mg.upLatch = us / 2 ^ 32 ∧ t.mg.uptime = us ∧ Frame [.mg]
    [MG_UPTIME_LO_us, MG_UPTIME_HI_us] s t)

/-- DMA_GO of a running channel is refused; with a length below one word it is done at once; else it runs from source
and destination address with as many words as the length holds, error 0. DMA_ABORT of a running channel lets it stop
after its current word; of another it does nothing. DMA_WORD_TRANSFER of a channel that does not run does nothing;
within the general data RAM, with the source word undamaged, the four bytes at the destination become those at the
source, every other byte keeps its value, addresses go on by 4 where their increment is set, and the channel goes on
with one word less, or is done, state 2, at the last word or with an abort asked; a source address that is refused
halts it: state 3, error 2, EV 181, an error on the destination error 3. -/
def Obligations.DmaChannelsCopyWordsAndHalt : Prop :=
  (∀ (s : State) (c : Nat), c < 8 → c ≠ 0 → s.get (MG_DMA_CTRL_state c) = 1 → exec (.dmaGo c) s = .next (s.flag
    MG_STATUS_refused 183)) ∧
  (∀ (s : State) (c : Nat), c < 8 → c ≠ 0 → s.get (MG_DMA_CTRL_state c) ≠ 1 → s.get (MG_DMA_LEN_bytes c) < 4 → exec
    (.dmaGo c) s = .next ((s.set (MG_DMA_CTRL_err c) 0).set (MG_DMA_CTRL_state c) 2)) ∧
  (∀ (s : State) (c : Nat), c < 8 → c ≠ 0 → s.get (MG_DMA_CTRL_state c) ≠ 1 → 4 ≤ s.get (MG_DMA_LEN_bytes c) → ∃ t,
    exec (.dmaGo c) s = .next t ∧ t.get (MG_DMA_CTRL_state c) = 1 ∧ t.get (MG_DMA_CTRL_err c) = 0 ∧ t.mg.dma.find?
    (fun e => e.1 == c) = some (c, ⟨4 * s.get (MG_DMA_SRC_addr c), 4 * s.get (MG_DMA_DST_addr c), s.get
    (MG_DMA_LEN_bytes c) / 4, false⟩) ∧ t.mg.dram = s.mg.dram ∧ Frame [.mg] [MG_DMA_CTRL_state c, MG_DMA_CTRL_err c] s
    t) ∧
  (∀ (s : State) (c : Nat) (d : Dma), c < 8 → c ≠ 0 → s.mg.dma.find? (fun e => e.1 == c) = some (c, d) → ∃ t, exec
    (.dmaAbort c) s = .next t ∧ t.mg.dma.find? (fun e => e.1 == c) = some (c, ⟨d.src, d.dst, d.left, true⟩) ∧ Frame
    [.mg] [] s t) ∧
  (∀ (s : State) (c : Nat), c < 8 → c ≠ 0 → s.mg.dma.find? (fun e => e.1 == c) = none → exec (.dmaAbort c) s = .next
    (s)) ∧
  (∀ (s : State) (c : Nat) (r : EccResult), c < 8 → c ≠ 0 → s.mg.dma.find? (fun e => e.1 == c) = none → exec
    (.dmaWordTransfer c r) s = .next (s)) ∧
  (∀ (s : State) (c a b x : Nat) (d : Dma), c < 8 → c ≠ 0 → s.mg.dma.find? (fun e => e.1 == c) = some (c, d) → d.src =
    0x40040000 + 4 * a → d.dst = 0x40040000 + 4 * b → a < 0x6000 → b < 0x6000 → ((∀ k ∈ List.range 4, s.dramByte (4 *
    a + k) < 256 ∧ s.mark memDram (4 * a + k) = 0)) → 1 < d.left → d.abort = false → ∃ t, exec (.dmaWordTransfer c
    .clean) s = .next t ∧ (t.dramByte x = (if x / 4 = b then s.dramByte (4 * a + x % 4) else s.dramByte x)) ∧
    (t.mg.dma.find? (fun e => e.1 == c) = some (c, ⟨d.src + (if s.on (MG_DMA_CTRL_src_inc c) then 4 else 0), d.dst +
    (if s.on (MG_DMA_CTRL_dst_inc c) then 4 else 0), d.left - 1, false⟩)) ∧ t.get (MG_DMA_CTRL_state c) = s.get
    (MG_DMA_CTRL_state c) ∧ Frame [.mg, .prot, .answer] [] s t) ∧
  (∀ (s : State) (c a b x : Nat) (d : Dma), c < 8 → c ≠ 0 → s.mg.dma.find? (fun e => e.1 == c) = some (c, d) → d.src =
    0x40040000 + 4 * a → d.dst = 0x40040000 + 4 * b → a < 0x6000 → b < 0x6000 → ((∀ k ∈ List.range 4, s.dramByte (4 *
    a + k) < 256 ∧ s.mark memDram (4 * a + k) = 0)) → (d.left = 1 ∨ d.abort = true) → ∃ t, exec (.dmaWordTransfer c
    .clean) s = .next t ∧ (t.dramByte x = (if x / 4 = b then s.dramByte (4 * a + x % 4) else s.dramByte x)) ∧
    t.mg.dma.find? (fun e => e.1 == c) = none ∧ t.get (MG_DMA_CTRL_state c) = 2 ∧ Frame [.mg, .prot, .answer]
    [MG_DMA_CTRL_state c] s t) ∧
  (∀ (s : State) (c : Nat) (r : EccResult) (d : Dma), c < 8 → c ≠ 0 → s.mg.dma.find? (fun e => e.1 == c) = some (c, d)
    → 0x60000000 ≤ d.src → ∃ t, exec (.dmaWordTransfer c r) s = .next t ∧ t.get (MG_DMA_CTRL_state c) = 3 ∧ t.get
    (MG_DMA_CTRL_err c) = 2 ∧ t.mg.dma.find? (fun e => e.1 == c) = none ∧ Sparse.has 181 t.evReq = true ∧ t.get
    CX_CT_ERR_status = 1 ∧ t.get CX_CT_ERR_ADDR_addr = d.src % 2 ^ 32 ∧ t.mg.dram = s.mg.dram) ∧
  (∀ (s : State) (c a : Nat) (d : Dma), c < 8 → c ≠ 0 → s.mg.dma.find? (fun e => e.1 == c) = some (c, d) → d.src =
    0x40040000 + 4 * a → a < 0x6000 → ((∀ k ∈ List.range 4, s.mark memDram (4 * a + k) = 0)) → 0x60000000 ≤ d.dst → ∃
    t, exec (.dmaWordTransfer c .clean) s = .next t ∧ t.get (MG_DMA_CTRL_state c) = 3 ∧ t.get (MG_DMA_CTRL_err c) = 3
    ∧ t.mg.dma.find? (fun e => e.1 == c) = none ∧ t.get CX_CT_ERR_status = 1 ∧ t.mg.dram = s.mg.dram)

/-- A sequence starts where the ADC is free, waits where one runs, and is counted late where one waits already. A
conversion of the slot under way gives the corrected code clamp((raw - offset) gain + 2^14 >> 15), or 0x3FFF with nr
where the reference was not ready at its begin; the result word with input, nr, restarted and sequence number goes to
the word at the write pointer of the buffer inside the data RAM, the pointer goes on modulo the size, and the input's
last result is stored; an injected request goes to the next result register instead and leaves the queue. HK_INJECT
queues a request, aborting a regular conversion, and is dropped with four waiting. HK_CAL without the reference, or
while one runs, is refused; else with no request waiting it calibrates at once, and CAL_DONE stores gain and offset.
Losing the reference enable ends it, refused. The regular sequence is enabled only with a buffer of 16 words or more
inside the general data RAM. -/
def Obligations.HousekeepingConvertsSequencesAndRequests : Prop :=
  (∀ (s : State), s.on HK_REG_CTRL_en = false → exec .hkSequenceStart s = .next (s)) ∧
  (∀ (s : State), s.on HK_REG_CTRL_en = true → s.mg.hk.waiting = true → exec .hkSequenceStart s = .next (s.count
    HK_CNT_late)) ∧
  (∀ (s : State), s.on HK_REG_CTRL_en = true → s.mg.hk.waiting = false → (s.mg.hk.seq ≠ [] ∨ s.mg.hk.phase ≠ 0) → ∃ t,
    exec .hkSequenceStart s = .next t ∧ t.mg.hk.waiting = true ∧ t.mg.hk.seq = s.mg.hk.seq ∧ t.mg.hk.phase =
    s.mg.hk.phase ∧ Frame [.mg] [HK_STATUS_inj_q] s t) ∧
  (∀ (s : State) (k : Nat), s.on HK_REG_CTRL_en = true → s.mg.hk.waiting = false → s.mg.hk.seq = [] → s.mg.hk.phase =
    0 → k ≤ s.get HK_REG_CTRL_len_m1 → ∃ t, exec .hkSequenceStart s = .next t ∧ t.mg.hk.seq.length = s.get
    HK_REG_CTRL_len_m1 + 1 ∧ (t.mg.hk.seq.getD k 0 = (if k % 4 = 0 then s.get (HK_SEQ_slot0 (k / 4)) else if k % 4 = 1
    then s.get (HK_SEQ_slot1 (k / 4)) else if k % 4 = 2 then s.get (HK_SEQ_slot2 (k / 4)) else s.get (HK_SEQ_slot3 (k
    / 4)))) ∧ t.mg.hk.restarted = false ∧ ((s.mg.hk.queue = [] → t.mg.hk.nr = !s.on HK_STATUS_ref_ready)) ∧ Frame
    [.mg] [HK_STATUS_inj_q] s t) ∧
  (∀ (s : State) (raw us : Nat), raw < 16384 → us < 2 ^ 64 → s.mg.hk.queue = [] → (s.mg.hk.seq = [] ∨ s.mg.hk.phase =
    2) → exec (.hkConversionDone raw us) s = .next (s)) ∧
  (∀ (s : State) (raw us i q w : Nat) (rest : List Nat), s.mg.hk.queue = [] → s.mg.hk.seq = i :: rest → s.mg.hk.phase
    = 0 → i < 64 → raw < 16384 → us < 2 ^ 64 → (q = (if s.mg.hk.nr then 0x3FFF else s.hkCode raw)) → (w = i * 2 ^ 26 +
    (if s.mg.hk.nr then 2 ^ 25 else 0) + (if s.mg.hk.restarted then 2 ^ 24 else 0) + s.get HK_STATUS_seq * 2 ^ 16 + q)
    → 0x40040000 ≤ s.get HK_BUF_BASE_addr → s.get HK_BUF_BASE_addr - 0x40040000 + 4 * s.get HK_BUF_WP_wp + 4 ≤ 0x18000
    → w < 2 ^ 32 → ((i < 40 ∨ 43 < i) ∧ (i < 48 ∨ 51 < i)) → ∃ t, exec (.hkConversionDone raw us) s = .next t ∧ (t.get
    (HK_LAST_result i) = (i * 2 ^ 26 + (if s.mg.hk.nr then 2 ^ 25 else 0) + s.get HK_STATUS_seq * 2 ^ 16 + q) % 2 ^
    (HK_LAST_result i).width) ∧ ofBytes ((List.range 4).map fun k => t.dramByte (s.get HK_BUF_BASE_addr - 0x40040000 +
    4 * s.get HK_BUF_WP_wp + k)) = w ∧ t.get HK_BUF_WP_wp = (s.get HK_BUF_WP_wp + 1) % max 1 (s.get HK_BUF_SIZE_size)
    % 2 ^ HK_BUF_WP_wp.width ∧ ((t.mg.hk.seq = rest ∨ rest = [] ∧ s.mg.hk.waiting = true)) ∧ t.tile = s.tile ∧
    t.mg.uptime = us ∧ BlockFrame [.evReq, .mg, .prot] [(0x1000D000, 0x1000DFFF), (0x1000C210, 0x1000C210)] s t) ∧
  (∀ (s : State) (raw us i : Nat) (rest : List Nat), raw < 16384 → us < 2 ^ 64 → s.mg.hk.queue = [] → s.mg.hk.seq = i
    :: rest → s.mg.hk.phase = 0 → i < 64 → ((i < 40 ∨ 43 < i) ∧ (i < 48 ∨ 51 < i)) → s.mg.hk.nr = false → 0 ≤ (((raw :
    Int) - signed 16 (s.get HK_CAL_offset)) * (s.get HK_CAL_gain : Int) + 2 ^ 14) / 2 ^ 15 → (((raw : Int) - signed 16
    (s.get HK_CAL_offset)) * (s.get HK_CAL_gain : Int) + 2 ^ 14) / 2 ^ 15 ≤ 16383 → ∃ t, exec (.hkConversionDone raw
    us) s = .next t ∧ ((t.get (HK_LAST_result i) % 2 ^ 16 : Nat) : Int) = (((raw : Int) - signed 16 (s.get
    HK_CAL_offset)) * (s.get HK_CAL_gain : Int) + 2 ^ 14) / 2 ^ 15) ∧
  (∀ (s : State) (raw us i : Nat) (rest : List Nat), raw < 16384 → us < 2 ^ 64 → s.mg.hk.queue = [] → s.mg.hk.seq = i
    :: rest → s.mg.hk.phase = 0 → i < 64 → ((i < 40 ∨ 43 < i) ∧ (i < 48 ∨ 51 < i)) → s.mg.hk.nr = true → ∃ t, exec
    (.hkConversionDone raw us) s = .next t ∧ t.get (HK_LAST_result i) % 2 ^ 14 = 0x3FFF ∧ bit (t.get (HK_LAST_result
    i)) 25 = true ∧ t.get HK_CNT_nr = min (s.get HK_CNT_nr + 1) (2 ^ HK_CNT_nr.width - 1) ∧ t.on HK_STATUS_ref_nr =
    true) ∧
  (∀ (s : State) (raw us q : Nat) (r : HkReq) (rest : List HkReq), raw < 16384 → us < 2 ^ 64 → s.mg.hk.queue = r ::
    rest → s.mg.hk.phase = 0 → r.input < 40 → (q = (if s.mg.hk.nr then 0x3FFF else s.hkCode raw)) → ∃ t, exec
    (.hkConversionDone raw us) s = .next t ∧ (t.get (HK_INJ_RES_result (s.get HK_STATUS_inj_next)) = (r.input * 2 ^ 26
    + (if s.mg.hk.nr then 2 ^ 25 else 0) + (if r.cal then 2 ^ 24 else 0) + q) % 2 ^ 32) ∧ t.get HK_STATUS_inj_next =
    (s.get HK_STATUS_inj_next + 1) % 2 ^ HK_STATUS_inj_next.width ∧ t.mg.hk.queue = rest ∧ t.mg.dram = s.mg.dram ∧
    t.tile = s.tile ∧ BlockFrame [.evReq, .mg] [(0x1000D000, 0x1000DFFF), (0x1000C210, 0x1000C210)] s t) ∧
  (∀ (s : State) (i : Nat), i < 64 → 4 ≤ s.mg.hk.queue.length → exec (.hkInject i) s = .next (((s.set HK_INJ_input
    i).count HK_CNT_dropped).flag HK_STATUS_inj_drop 185)) ∧
  (∀ (s : State) (i : Nat), i < 64 → s.mg.hk.queue.length < 4 → s.svc.assay = none → ∃ t, exec (.hkInject i) s = .next
    t ∧ t.mg.hk.queue = s.mg.hk.queue ++ [⟨i, false, false⟩] ∧ t.mg.hk.restarted = (s.mg.hk.restarted ||
    (s.mg.hk.queue.isEmpty && !s.mg.hk.seq.isEmpty && s.mg.hk.phase != 1 && s.mg.hk.phase != 2)) ∧ t.get
    HK_STATUS_inj_q = (s.mg.hk.queue.length + 1) % 2 ^ HK_STATUS_inj_q.width ∧ Frame [.mg] [HK_INJ_input,
    HK_STATUS_inj_q] s t) ∧
  (∀ (s : State), (s.on HK_STATUS_ref_ready = false ∨ s.mg.hk.phase ≠ 0) → exec .hkCal s = .next (s.flag
    HK_STATUS_refused 189)) ∧
  (∀ (s : State), s.on HK_STATUS_ref_ready = true → s.mg.hk.phase = 0 → s.mg.hk.queue = [] → ∃ t, exec .hkCal s =
    .next t ∧ t.mg.hk.phase = 2 ∧ t.get HK_STATUS_calibrating = 1 ∧ t.mg.hk.restarted = (s.mg.hk.restarted ||
    !s.mg.hk.seq.isEmpty) ∧ Frame [.mg] [HK_STATUS_calibrating, HK_STATUS_inj_q] s t) ∧
  (∀ (s : State) (r : HkReq), s.on HK_STATUS_ref_ready = true → s.mg.hk.phase = 0 → r ∈ s.mg.hk.queue → ∃ t, exec
    .hkCal s = .next t ∧ t.mg.hk.phase = 1 ∧ ({ r with marked := true } : HkReq) ∈ t.mg.hk.queue ∧
    t.mg.hk.queue.length = s.mg.hk.queue.length ∧ Frame [.mg] [HK_STATUS_inj_q] s t) ∧
  (∀ (s : State) (g o : Nat), g < 65536 → o < 65536 → s.mg.hk.phase = 2 → ∃ t, exec (.calDone g o) s = .next t ∧ t.get
    HK_CAL_gain = g ∧ t.get HK_CAL_offset = o ∧ t.get HK_STATUS_calibrating = 0 ∧ t.get HK_STATUS_cal_done = 1 ∧
    t.mg.hk.phase = 0 ∧ Sparse.has 186 t.evReq = true ∧ Frame [.mg, .evReq] [HK_CAL_gain, HK_CAL_offset,
    HK_STATUS_calibrating, HK_STATUS_cal_done, HK_STATUS_inj_q, MG_EVLOG_merged] s t) ∧
  (∀ (s : State) (g o : Nat), g < 65536 → o < 65536 → s.mg.hk.phase ≠ 2 → exec (.calDone g o) s = .next (s)) ∧
  (∀ (s : State), exec (.hkRefEnable true) s = .next (s.set HK_CTRL_ref_en 1)) ∧
  (∀ (s : State), s.mg.hk.phase ≠ 2 → s.svc.assay = none → exec (.hkRefEnable false) s = .next ((s.set HK_CTRL_ref_en
    0).set HK_STATUS_ref_ready 0)) ∧
  (∀ (s : State), s.mg.hk.phase = 2 → s.svc.assay = none → ∃ t, exec (.hkRefEnable false) s = .next t ∧ t.get
    HK_CTRL_ref_en = 0 ∧ t.get HK_STATUS_ref_ready = 0 ∧ t.get HK_STATUS_calibrating = 0 ∧ t.mg.hk.phase = 0 ∧ t.on
    HK_STATUS_refused = true ∧ Frame [.mg, .evReq] [HK_CTRL_ref_en, HK_STATUS_ref_ready, HK_STATUS_calibrating,
    HK_STATUS_inj_q, HK_STATUS_refused, MG_EVLOG_merged] s t) ∧
  (∀ (s : State), s.on HK_CTRL_ref_en = true → exec .hkRefReady s = .next (s.set HK_STATUS_ref_ready 1)) ∧
  (∀ (s : State), s.on HK_CTRL_ref_en = false → exec .hkRefReady s = .next (s)) ∧
  (∀ (s : State), ∃ t, exec (.hkRegEnable false) s = .next t ∧ t.get HK_REG_CTRL_en = 0 ∧ t.mg.hk.waiting = false ∧
    t.mg.hk.seq = s.mg.hk.seq ∧ Frame [.mg] [HK_REG_CTRL_en, HK_STATUS_inj_q] s t) ∧
  (∀ (s : State), 0x40040000 ≤ s.get HK_BUF_BASE_addr → s.get HK_BUF_BASE_addr + 4 * s.get HK_BUF_SIZE_size ≤
    0x40058000 → 16 ≤ s.get HK_BUF_SIZE_size → s.svc.assay = none → exec (.hkRegEnable true) s = .next (s.set
    HK_REG_CTRL_en 1)) ∧
  (∀ (s : State), (s.get HK_BUF_BASE_addr < 0x40040000 ∨ 0x40058000 < s.get HK_BUF_BASE_addr + 4 * s.get
    HK_BUF_SIZE_size ∨ s.get HK_BUF_SIZE_size < 16) → exec (.hkRegEnable true) s = .next (s.flag HK_STATUS_refused
    189))

/-- ACQ_START with acquisition off or a start pending, the plate live, machine time valid, the store ready, not
flushing and with no flush waiting, no freeze waiting for its read and the oven ready gives state 1 for the next orbit
start at least 2 buckets after the command, which arrives inside its bucket (assumption 71); else it is refused with
the lowest cause 1 to 5 that holds, and no start is pending. While acquisition runs it does nothing; with a stop
pending it withdraws the stop. ACQ_STOP does nothing when off, withdraws a pending start, and else gives state 3 for
the next orbit start. ACQUISITION_STARTS at bucket 0 of an orbit not before the effective one, with the conditions
holding: state 2, EV 192, the bucket becomes the first valid one of the store, the local trigger number and the
fragment sequence start at 0, every chaser is idle; before that orbit it does nothing. ACQUISITION_STOPS likewise
gives state 0, EV 193, ends every open record, and no chaser's word is sent any more. -/
def Obligations.AcquisitionStartsAndStopsAtOrbitStarts : Prop :=
  (∀ (s : State), s.get CX_ACQ_STATUS_state < 2 → s.get CX_PLATE_STATUS_state = 4 → s.on CX_MT_STATUS_mt_valid = true
    → s.on CX_HQ_STATUS_store_ready = true → s.on CX_HQ_STATUS_flushing = false ∧ s.mt.edge.contains .flush = false →
    s.get RC_FREEZE_STATUS_state ≠ 3 → s.on OVN_STATUS_ready = true → exec .acqStart s = .next ((s.set
    CX_ACQ_STATUS_state 1).set CX_ACQ_ORBIT_orbit ((s.mt.orbit + (if s.mt.bucket + 2 < s.mt.nb then 1 else 2)) % 2 ^
    32))) ∧
  (∀ (s : State), s.get CX_ACQ_STATUS_state < 2 → s.get CX_PLATE_STATUS_state ≠ 4 → ∃ t, exec .acqStart s = .next t ∧
    t.get CX_ACQ_STATUS_cause = 1 ∧ t.on CX_ACQ_STATUS_refused = true ∧ t.get CX_ACQ_STATUS_state = 0 ∧ t.get
    CX_ACQ_ORBIT_orbit = s.svc.acqLast % 2 ^ 32 ∧ Frame [.evReq] [CX_ACQ_STATUS_cause, CX_ACQ_STATUS_refused,
    CX_ACQ_STATUS_state, CX_ACQ_ORBIT_orbit, MG_EVLOG_merged] s t) ∧
  (∀ (s : State), s.get CX_ACQ_STATUS_state < 2 → s.get CX_PLATE_STATUS_state = 4 → s.on CX_MT_STATUS_mt_valid = false
    → ∃ t, exec .acqStart s = .next t ∧ t.get CX_ACQ_STATUS_cause = 2 ∧ t.on CX_ACQ_STATUS_refused = true ∧ t.get
    CX_ACQ_STATUS_state = 0 ∧ t.get CX_ACQ_ORBIT_orbit = s.svc.acqLast % 2 ^ 32 ∧ Frame [.evReq] [CX_ACQ_STATUS_cause,
    CX_ACQ_STATUS_refused, CX_ACQ_STATUS_state, CX_ACQ_ORBIT_orbit, MG_EVLOG_merged] s t) ∧
  (∀ (s : State), s.get CX_ACQ_STATUS_state < 2 → s.get CX_PLATE_STATUS_state = 4 → s.on CX_MT_STATUS_mt_valid = true
    → (s.on CX_HQ_STATUS_store_ready = false ∨ s.on CX_HQ_STATUS_flushing = true ∨ s.mt.edge.contains .flush = true) →
    ∃ t, exec .acqStart s = .next t ∧ t.get CX_ACQ_STATUS_cause = 3 ∧ t.on CX_ACQ_STATUS_refused = true ∧ t.get
    CX_ACQ_STATUS_state = 0 ∧ t.get CX_ACQ_ORBIT_orbit = s.svc.acqLast % 2 ^ 32 ∧ Frame [.evReq] [CX_ACQ_STATUS_cause,
    CX_ACQ_STATUS_refused, CX_ACQ_STATUS_state, CX_ACQ_ORBIT_orbit, MG_EVLOG_merged] s t) ∧
  (∀ (s : State), s.get CX_ACQ_STATUS_state < 2 → s.get CX_PLATE_STATUS_state = 4 → s.on CX_MT_STATUS_mt_valid = true
    → s.on CX_HQ_STATUS_store_ready = true → s.on CX_HQ_STATUS_flushing = false ∧ s.mt.edge.contains .flush = false →
    s.get RC_FREEZE_STATUS_state = 3 → ∃ t, exec .acqStart s = .next t ∧ t.get CX_ACQ_STATUS_cause = 4 ∧ t.on
    CX_ACQ_STATUS_refused = true ∧ t.get CX_ACQ_STATUS_state = 0 ∧ t.get CX_ACQ_ORBIT_orbit = s.svc.acqLast % 2 ^ 32 ∧
    Frame [.evReq] [CX_ACQ_STATUS_cause, CX_ACQ_STATUS_refused, CX_ACQ_STATUS_state, CX_ACQ_ORBIT_orbit,
    MG_EVLOG_merged] s t) ∧
  (∀ (s : State), s.get CX_ACQ_STATUS_state < 2 → s.get CX_PLATE_STATUS_state = 4 → s.on CX_MT_STATUS_mt_valid = true
    → s.on CX_HQ_STATUS_store_ready = true → s.on CX_HQ_STATUS_flushing = false ∧ s.mt.edge.contains .flush = false →
    s.get RC_FREEZE_STATUS_state ≠ 3 → s.on OVN_STATUS_ready = false → ∃ t, exec .acqStart s = .next t ∧ t.get
    CX_ACQ_STATUS_cause = 5 ∧ t.on CX_ACQ_STATUS_refused = true ∧ t.get CX_ACQ_STATUS_state = 0 ∧ t.get
    CX_ACQ_ORBIT_orbit = s.svc.acqLast % 2 ^ 32 ∧ Frame [.evReq] [CX_ACQ_STATUS_cause, CX_ACQ_STATUS_refused,
    CX_ACQ_STATUS_state, CX_ACQ_ORBIT_orbit, MG_EVLOG_merged] s t) ∧
  (∀ (s : State), s.get CX_ACQ_STATUS_state = 2 → exec .acqStart s = .next (s)) ∧
  (∀ (s : State), s.get CX_ACQ_STATUS_state = 3 → exec .acqStart s = .next ((s.set CX_ACQ_STATUS_state 2).set
    CX_ACQ_ORBIT_orbit s.svc.acqLast)) ∧
  (∀ (s : State), s.get CX_ACQ_STATUS_state = 0 → exec .acqStop s = .next (s)) ∧
  (∀ (s : State), s.get CX_ACQ_STATUS_state = 1 → exec .acqStop s = .next ((s.set CX_ACQ_STATUS_state 0).set
    CX_ACQ_ORBIT_orbit s.svc.acqLast)) ∧
  (∀ (s : State), (s.get CX_ACQ_STATUS_state = 2 ∨ s.get CX_ACQ_STATUS_state = 3) → exec .acqStop s = .next ((s.set
    CX_ACQ_STATUS_state 3).set CX_ACQ_ORBIT_orbit ((s.mt.orbit + (if s.mt.bucket + 2 < s.mt.nb then 1 else 2)) % 2 ^
    32))) ∧
  (∀ (s : State) (nb c k : Nat), s.get CX_ACQ_STATUS_state = 1 → c < 32 → k < 4 → s.mt.running = true → s.mt.bucket =
    0 → s.mt.nb = nb → 64 ≤ nb → s.get CX_ACQ_ORBIT_orbit ≤ s.mt.orbit → s.mt.orbit < 2 ^ 31 → s.get
    CX_PLATE_STATUS_state = 4 → s.on CX_MT_STATUS_mt_valid = true → s.on CX_HQ_STATUS_store_ready = true → s.on
    CX_HQ_STATUS_flushing = false ∧ s.mt.edge.contains .flush = false → s.get RC_FREEZE_STATUS_state ≠ 3 → s.on
    OVN_STATUS_ready = true → ∃ t, exec .acquisitionStarts s = .next t ∧ t.get CX_ACQ_STATUS_state = 2 ∧ t.get
    CX_ACQ_ORBIT_orbit = s.get CX_ACQ_ORBIT_orbit ∧ t.svc.acqLast = s.get CX_ACQ_ORBIT_orbit ∧ t.get
    CX_HQ_VALID_ORBIT_orbit = s.mt.orbit ∧ t.get CX_HQ_VALID_BT_bucket = 0 ∧ t.get CX_HQ_VALID_BT_valid = 1 ∧
    t.tg.next = 0 ∧ t.get CX_STR_FSEQ_next = 0 ∧ t.get (TG_CHSTAT_state c) = 0 ∧ t.get (TG_CHCNT_value c k) = 0 ∧
    Sparse.has 192 t.evReq = true ∧ t.store = s.store ∧ t.get CX_ACQ_STATUS_refused = s.get CX_ACQ_STATUS_refused) ∧
  (∀ (s : State), (s.get CX_ACQ_STATUS_state ≠ 1 ∨ s.mt.running = false ∨ s.mt.bucket ≠ 0) → exec .acquisitionStarts s
    = .next (s)) ∧
  (∀ (s : State), s.get CX_ACQ_STATUS_state = 1 → s.acqDue = true → s.on OVN_STATUS_ready = false → s.get
    CX_PLATE_STATUS_state = 4 → s.on CX_MT_STATUS_mt_valid = true → s.on CX_HQ_STATUS_store_ready = true → s.on
    CX_HQ_STATUS_flushing = false ∧ s.mt.edge.contains .flush = false → s.get RC_FREEZE_STATUS_state ≠ 3 → ∃ t, exec
    .acquisitionStarts s = .next t ∧ t.get CX_ACQ_STATUS_state = 0 ∧ t.get CX_ACQ_STATUS_cause = 5 ∧ t.on
    CX_ACQ_STATUS_refused = true ∧ Frame [.evReq] [CX_ACQ_STATUS_cause, CX_ACQ_STATUS_refused, CX_ACQ_STATUS_state,
    CX_ACQ_ORBIT_orbit, MG_EVLOG_merged] s t) ∧
  (∀ (s : State) (nb : Nat), s.get CX_ACQ_STATUS_state = 3 → s.mt.running = true → s.mt.bucket = 0 → s.mt.nb = nb → 64
    ≤ nb → s.get CX_ACQ_ORBIT_orbit ≤ s.mt.orbit → s.mt.orbit < 2 ^ 31 → ∃ t, exec .acquisitionStops s = .next t ∧
    t.get CX_ACQ_STATUS_state = 0 ∧ t.svc.acqLast = s.get CX_ACQ_ORBIT_orbit ∧ t.rc.recs.length = s.rc.recs.length ∧
    (t.rc.recs.all fun r => r.endAt.isSome) = true ∧ t.tg.words = s.tg.words.filter (fun e => s.testLane s.tg.period
    (e.1 / 32)) ∧ t.tg.queue = s.tg.queue ∧ Sparse.has 193 t.evReq = true ∧ Frame [.svc, .rc, .tg, .evReq]
    [CX_ACQ_STATUS_state, MG_EVLOG_merged] s t) ∧
  (∀ (s : State), (s.get CX_ACQ_STATUS_state ≠ 3 ∨ s.acqDue = false) → exec .acquisitionStops s = .next (s))

/-- FE_SERVICE_WRITE that changes the field of one die n, the fields of the other dies as they were. To off (code 2 or
3): the die shows changing, its shutdown begins, it is absent. From off to in service: refused with cause 6, the field
stays off. From in service to isolated, from isolated to in service: the change begins, shown as changing. From off to
isolated: the die powers up with its registers at their reset values and no channel state. While its shutdown runs, a
request for another state becomes pending, and a request for off drops it. The other dies and everything outside the
die stay as they were. FE_SVC completes a change: isolated at once, in service only with the servo locked, from
power-up to isolated and on towards service where that is requested; each with EV 196. With no change under way it
does nothing. -/
def Obligations.FeDiesLeaveAndReturnToService : Prop :=
  (∀ (s : State) (v n : Nat), n < 3 → v < 2 ^ 32 → ((∀ m ∈ List.range 3, m = n ∨ (bits v (2 * m) 2 = s.get (feFld m) ∧
    s.get (feFld m) < 3 ∧ s.shut.contains (.feDie m) = false))) → s.svc.assay = none → 2 ≤ bits v (2 * n) 2 → s.get
    (feFld n) < 2 → s.shut.contains (.feDie n) = false → ∃ t, exec (.feServiceWrite v) s = .next t ∧ t.get (feFld n) =
    2 ∧ t.get (nowFld n) = 3 ∧ t.shut = s.shut ++ [.feDie n] ∧ t.feTarget n = some 2 ∧ ((∀ m ∈ List.range 3, m = n ∨
    t.get (feFld m) = s.get (feFld m))) ∧ Frame [.shut, .svc, .feByp, .activity, .prot] [(feFld 0), (feFld 1), (feFld
    2), (nowFld n)] s t) ∧
  (∀ (s : State) (v n : Nat), n < 3 → v < 2 ^ 32 → ((∀ m ∈ List.range 3, m = n ∨ (bits v (2 * m) 2 = s.get (feFld m) ∧
    s.get (feFld m) < 3 ∧ s.shut.contains (.feDie m) = false))) → s.svc.assay = none → bits v (2 * n) 2 = 0 → s.get
    (feFld n) = 2 → ∃ t, exec (.feServiceWrite v) s = .next t ∧ t.get CX_ACQ_STATUS_cause = 6 ∧ t.on
    CX_ACQ_STATUS_refused = true ∧ ((∀ m ∈ List.range 3, m = n ∨ t.get (feFld m) = s.get (feFld m))) ∧ Frame [.evReq,
    .prot] [(feFld 0), (feFld 1), (feFld 2), CX_ACQ_STATUS_cause, CX_ACQ_STATUS_refused, MG_EVLOG_merged] s t) ∧
  (∀ (s : State) (v n : Nat), n < 3 → v < 2 ^ 32 → ((∀ m ∈ List.range 3, m = n ∨ (bits v (2 * m) 2 = s.get (feFld m) ∧
    s.get (feFld m) < 3 ∧ s.shut.contains (.feDie m) = false))) → s.svc.assay = none → bits v (2 * n) 2 = 1 → s.get
    (feFld n) = 0 → s.feTarget n ≠ some 3 → s.shut.contains (.feDie n) = false → ∃ t, exec (.feServiceWrite v) s =
    .next t ∧ t.get (feFld n) = 1 ∧ t.get (nowFld n) = 3 ∧ t.feTarget n = some 1 ∧ ((∀ m ∈ List.range 3, m = n ∨ t.get
    (feFld m) = s.get (feFld m))) ∧ Frame [.svc, .feByp, .prot] [(feFld 0), (feFld 1), (feFld 2), (nowFld n)] s t) ∧
  (∀ (s : State) (v n : Nat), n < 3 → v < 2 ^ 32 → ((∀ m ∈ List.range 3, m = n ∨ (bits v (2 * m) 2 = s.get (feFld m) ∧
    s.get (feFld m) < 3 ∧ s.shut.contains (.feDie m) = false))) → s.svc.assay = none → bits v (2 * n) 2 = 0 → s.get
    (feFld n) = 1 → s.feTarget n ≠ some 3 → s.shut.contains (.feDie n) = false → ∃ t, exec (.feServiceWrite v) s =
    .next t ∧ t.get (feFld n) = 0 ∧ t.get (nowFld n) = 3 ∧ t.feTarget n = some 0 ∧ ((∀ m ∈ List.range 3, m = n ∨ t.get
    (feFld m) = s.get (feFld m))) ∧ Frame [.svc, .prot] [(feFld 0), (feFld 1), (feFld 2), (nowFld n)] s t) ∧
  (∀ (s : State) (v n l : Nat), n < 3 → v < 2 ^ 32 → ((∀ m ∈ List.range 3, m = n ∨ (bits v (2 * m) 2 = s.get (feFld m)
    ∧ s.get (feFld m) < 3 ∧ s.shut.contains (.feDie m) = false))) → s.svc.assay = none → l < 512 → bits v (2 * n) 2 =
    1 → s.get (feFld n) = 2 → s.shut.contains (.feDie n) = false → ∃ t, exec (.feServiceWrite v) s = .next t ∧ t.get
    (feFld n) = 1 ∧ t.get (nowFld n) = 3 ∧ t.feTarget n = some 3 ∧ t.get (FE_CH_CFG_trim n l) = (FE_CH_CFG_trim n
    l).reset ∧ t.get (FE_TDC_STATUS_state n) = (FE_TDC_STATUS_state n).reset ∧ t.chan (512 * n + l) = Chan.new ∧
    t.store = s.store ∧ t.evReq = s.evReq) ∧
  (∀ (s : State) (v n : Nat), n < 3 → v < 2 ^ 32 → ((∀ m ∈ List.range 3, m = n ∨ (bits v (2 * m) 2 = s.get (feFld m) ∧
    s.get (feFld m) < 3 ∧ s.shut.contains (.feDie m) = false))) → s.svc.assay = none → bits v (2 * n) 2 = 1 → s.get
    (feFld n) = 2 → s.shut.contains (.feDie n) = true → bit (s.get CX_PENDING_ENABLE_fe) n = false → ∃ t, exec
    (.feServiceWrite v) s = .next t ∧ t.get (feFld n) = 1 ∧ bit (t.get CX_PENDING_ENABLE_fe) n = true ∧ Sparse.has 40
    t.evReq = true ∧ ((∀ m ∈ List.range 3, m = n ∨ t.get (feFld m) = s.get (feFld m))) ∧ Frame [.evReq, .prot] [(feFld
    0), (feFld 1), (feFld 2), CX_PENDING_ENABLE_fe, MG_EVLOG_merged] s t) ∧
  (∀ (s : State) (v n : Nat), n < 3 → v < 2 ^ 32 → ((∀ m ∈ List.range 3, m = n ∨ (bits v (2 * m) 2 = s.get (feFld m) ∧
    s.get (feFld m) < 3 ∧ s.shut.contains (.feDie m) = false))) → s.svc.assay = none → 2 ≤ bits v (2 * n) 2 →
    s.shut.contains (.feDie n) = true → ∃ t, exec (.feServiceWrite v) s = .next t ∧ t.get (feFld n) = 2 ∧ bit (t.get
    CX_PENDING_ENABLE_fe) n = false ∧ ((∀ m ∈ List.range 3, m = n ∨ t.get (feFld m) = s.get (feFld m))) ∧ Frame
    [.prot] [(feFld 0), (feFld 1), (feFld 2), CX_PENDING_ENABLE_fe] s t) ∧
  (∀ (s : State) (n : Nat), n < 3 → (s.feTarget n = none ∨ s.feTarget n = some 2 ∨ (s.feTarget n = some 0 ∧ s.get
    (FE_TDC_STATUS_state n) ≠ 2)) → exec (.feSvc n) s = .next (s)) ∧
  (∀ (s : State) (n : Nat), n < 3 → s.feTarget n = some 0 → s.get (FE_TDC_STATUS_state n) = 2 → ∃ t, exec (.feSvc n) s
    = .next t ∧ t.get (nowFld n) = 0 ∧ Sparse.has 196 t.evReq = true ∧ t.feTarget n = none ∧ Frame [.svc, .evReq,
    .feByp] [(nowFld n), MG_EVLOG_merged] s t) ∧
  (∀ (s : State) (n : Nat), n < 3 → (s.feTarget n = some 1 ∨ (s.feTarget n = some 3 ∧ s.get (feFld n) ≠ 0)) → ∃ t,
    exec (.feSvc n) s = .next t ∧ t.get (nowFld n) = 1 ∧ Sparse.has 196 t.evReq = true ∧ t.feTarget n = none ∧ Frame
    [.svc, .evReq] [(nowFld n), MG_EVLOG_merged] s t) ∧
  (∀ (s : State) (n : Nat), n < 3 → s.feTarget n = some 3 → s.get (feFld n) = 0 → ∃ t, exec (.feSvc n) s = .next t ∧
    t.get (nowFld n) = 3 ∧ Sparse.has 196 t.evReq = true ∧ t.feTarget n = some 0 ∧ Frame [.svc, .evReq] [(nowFld n),
    MG_EVLOG_merged] s t)

/-- REF_LOST on the reference: management runs from its backup, ref_lost is set, the frequency unit's result and the
time source are no longer valid, every streaming quad stops, and machine time held over or in slew goes to state 4,
its domain stopping at the next bucket edge; on the backup already, nothing. REF_BACK on the backup ends it with EV
47; on the reference, nothing. SHUTDOWN_COMPLETE of a shutdown that is not under way does nothing. Of a lane
direction: power state off, and a held request whose lane is forbidden or failed is discarded, counted, with EV 41. Of
an FE die: off with EV 196, or, with a pending enable, the power-up begins. Of a unit: role 0, or standby where a
pending enable may be carried out. Of module conversion: everything of the controller is as at reset, the bias guard
stays. Of the bias: off, once the mirror contact reads closed. POWER_UP without feeds qualifies the given feed, and
its unit regulates, role 2; with a feed there already it does nothing. -/
def Obligations.ReferencePowerAndShutdownsTakeTheirCourse : Prop :=
  (∀ (s : State), s.on CX_ARCH_STATUS_mgmt_backup = true → exec .refLost s = .next (s)) ∧
  (∀ (s : State) (q : Nat), s.on CX_ARCH_STATUS_mgmt_backup = false → q < 12 → ∃ t, exec .refLost s = .next t ∧ t.get
    CX_ARCH_STATUS_mgmt_backup = 1 ∧ t.get CX_ARCH_STATUS_ref_lost = 1 ∧ t.get CX_FU_RATIO_HI_valid = 0 ∧ t.get
    CX_MT_STATUS_qualified = 0 ∧ ((2 ≤ s.get (LN_QUAD_mode q) → t.get (LN_QUAD_state q) = 0)) ∧ ((s.get
    CX_MT_STATUS_state = 2 ∨ s.get CX_MT_STATUS_state = 3 → t.get CX_MT_STATUS_state = 4 ∧ t.get CX_MT_STATUS_mt_valid
    = 0 ∧ (t.mt.running = false ∨ t.mt.edge.contains .stop = true))) ∧ Sparse.has 43 t.evReq = true ∧ PartFrame
    [.evReq, .mt, .free, .lanes, .fb, .str, .dies, .tg] s t) ∧
  (∀ (s : State), s.on CX_ARCH_STATUS_mgmt_backup = false → exec .refBack s = .next (s)) ∧
  (∀ (s : State), s.on CX_ARCH_STATUS_mgmt_backup = true → ∃ t, exec .refBack s = .next t ∧ t.get
    CX_ARCH_STATUS_mgmt_backup = 0 ∧ Sparse.has 47 t.evReq = true ∧ t.mt = s.mt ∧ t.get CX_ARCH_STATUS_ref_lost =
    s.get CX_ARCH_STATUS_ref_lost ∧ PartFrame [.evReq, .lanes] s t) ∧
  (∀ (s : State) (f : ShutFn) (b : Bool), f.wf = true → s.shut.contains f = false → exec (.shutdownComplete f b) s =
    .next (s)) ∧
  (∀ (s : State) (n : Nat) (rx b : Bool), n < 48 → s.shut.contains (shutOf n rx) = true → heldOf (s.lane n) rx = none
    → ∃ t, exec (.shutdownComplete (shutOf n rx) b) s = .next t ∧ t.get (nowOf n rx) = 3 ∧ t.shut.contains (shutOf n
    rx) = false ∧ Frame [.shut] [(nowOf n rx)] s t) ∧
  (∀ (s : State) (n p : Nat) (rx b : Bool), n < 48 → s.shut.contains (shutOf n rx) = true → heldOf (s.lane n) rx =
    some p → s.on (pendOf n rx) = true → (b = true ∨ s.on (LN_STATUS_fault n) = true) → s.shut.contains (.quadPll (n /
    4)) = false → ∃ t, exec (.shutdownComplete (shutOf n rx) b) s = .next t ∧ t.get (nowOf n rx) = 3 ∧ t.get (pendOf n
    rx) = 0 ∧ heldOf (t.lane n) rx = none ∧ t.get CX_PENDING_ENABLE_discarded = min (s.get CX_PENDING_ENABLE_discarded
    + 1) (2 ^ CX_PENDING_ENABLE_discarded.width - 1) ∧ Sparse.has 41 t.evReq = true) ∧
  (∀ (s : State) (n p : Nat) (rx : Bool), n < 48 → s.shut.contains (shutOf n rx) = true → heldOf (s.lane n) rx = some
    p → s.on (LN_STATUS_fault n) = false → s.shut.contains (.quadPll (n / 4)) = false → ∃ t, exec (.shutdownComplete
    (shutOf n rx) false) s = .next t ∧ t.get (nowOf n rx) = 4 ∧ t.get (pendOf n rx) = 0 ∧ heldOf (t.lane n) rx = some
    p ∧ t.get (LN_QUAD_state (n / 4)) ≠ 0) ∧
  (∀ (s : State) (q : Nat) (b : Bool), q < 12 → s.shut.contains (.quadPll q) = true → ((∀ k ∈ List.range 4, ∀ rx ∈
    [true, false], s.get (nowOf (4 * q + k) rx) = 3 ∧ heldOf (s.lane (4 * q + k)) rx = none)) → ∃ t, exec
    (.shutdownComplete (.quadPll q) b) s = .next t ∧ t.get (LN_QUAD_state q) = 0 ∧ t.shut.contains (.quadPll q) =
    false ∧ Frame [.shut] [LN_QUAD_state q] s t) ∧
  (∀ (s : State) (n : Nat) (b : Bool), n < 3 → s.shut.contains (.feDie n) = true → bit (s.get CX_PENDING_ENABLE_fe) n
    = false → ∃ t, exec (.shutdownComplete (.feDie n) b) s = .next t ∧ t.get (nowFld n) = 2 ∧ t.shut.contains (.feDie
    n) = false ∧ t.feTarget n = none ∧ Sparse.has 196 t.evReq = true ∧ Frame [.shut, .svc, .evReq] [(nowFld n),
    MG_EVLOG_merged] s t) ∧
  (∀ (s : State) (n : Nat) (b : Bool), n < 3 → s.shut.contains (.feDie n) = true → bit (s.get CX_PENDING_ENABLE_fe) n
    = true → ∃ t, exec (.shutdownComplete (.feDie n) b) s = .next t ∧ t.get (nowFld n) = 3 ∧ t.feTarget n = some 3 ∧
    bit (t.get CX_PENDING_ENABLE_fe) n = false ∧ t.shut.contains (.feDie n) = false) ∧
  (∀ (s : State) (u : Nat) (b : Bool), u < 2 → s.shut.contains (.unit u) = true → s.on (pendUnit u) = false → ∃ t,
    exec (.shutdownComplete (.unit u) b) s = .next t ∧ t.get (PU_STATUS_role u) = 0 ∧ t.shut.contains (.unit u) =
    false ∧ Frame [.shut] [PU_STATUS_role u, (if u = 0 then SV_ARB_STATUS_a_role else SV_ARB_STATUS_b_role)] s t) ∧
  (∀ (s : State) (u : Nat) (b : Bool), u < 2 → s.shut.contains (.unit u) = true → s.on (pendUnit u) = true →
    s.unitReady u = true → s.get (PU_STATUS_role (other u)) = 2 → ∃ t, exec (.shutdownComplete (.unit u) b) s = .next
    t ∧ t.get (PU_STATUS_role u) = 1 ∧ t.on (pendUnit u) = false ∧ (t.unit u).loop = (s.unit (other u)).loop) ∧
  (∀ (s : State) (b : Bool), s.shut.contains (.conversion) = true → s.on SV_PENDING_ENABLE_module = false → ∃ t, exec
    (.shutdownComplete .conversion b) s = .next t ∧ t.get CX_ACQ_STATUS_state = 0 ∧ t.get CX_PLATE_STATUS_state = 0 ∧
    t.mt = State.reset.mt ∧ t.store = State.reset.store ∧ t.rc = State.reset.rc ∧ t.guard = s.guard ∧ t.free = s.free
    ∧ t.get SV_GUARD_STATUS_state = s.get SV_GUARD_STATUS_state ∧ t.shut.contains .conversion = false) ∧
  (∀ (s : State) (b : Bool), s.shut.contains (.bias) = true → s.get SV_GUARD_STATUS_state = 3 → s.on
    SV_GUARD_STATUS_fb = true → s.on SV_PENDING_ENABLE_bias = false → ∃ t, exec (.shutdownComplete .bias b) s = .next
    t ∧ t.get SV_GUARD_STATUS_state = 0 ∧ t.shut.contains .bias = false ∧ Frame [.shut] [SV_GUARD_STATUS_state] s t) ∧
  (∀ (s : State) (b : Bool), s.on SV_GUARD_STATUS_fb = false → exec (.shutdownComplete .bias b) s = .next (s)) ∧
  (∀ (s : State) (u x : Nat), u < 2 → x < 256 → (s.converting = true ∨ s.shut.contains .conversion = true ∨ s.on
    (PU_STATUS_feed_ok 0) = true ∨ s.on (PU_STATUS_feed_ok 1) = true) → exec (.powerUp u x) s = .next (s)) ∧
  (∀ (s : State) (u x : Nat), u < 2 → x < 256 → s.converting = false → s.shut.contains .conversion = false → s.on
    (PU_STATUS_feed_ok 0) = false → s.on (PU_STATUS_feed_ok 1) = false → ∃ t, exec (.powerUp u x) s = .next t ∧ t.on
    (PU_STATUS_feed_ok u) = true ∧ t.on (PU_STATUS_feed_ok (other u)) = false ∧ t.get (PU_STATUS_role u) = 2 ∧ t.get
    SV_ARB_STATUS_active = u ∧ t.get SV_GUARD_CFG_straps_pu = x ∧ t.on SV_GUARD_FAULT_config = !strapsValid x ∧ t.get
    SV_GUARD_STATUS_state = 0 ∧ t.get CX_ACQ_STATUS_state = 0 ∧ t.mt = State.reset.mt)

/-- ASSAY_GO with block and index valid, the block out of service and no assay running: the assay runs, verdict and
time 0; on an FE die its servo leaves lock and a code-density run over all columns begins; on a bank every entry of
the bank is undefined from now on. With its block in service it is refused with cause 1, with one running 2, with no
such block 3: verdict 0, refused, EV 195, and no assay starts. ASSAY_DONE ends the running assay: state 2, the failing
part, its fails (at most 255) and the first failing place, the time (at most 65,535, and never less than what was
shown), verdict 1 exactly where no part failed, EV 195. ASSAY_ABORT ends it: state 3, verdict 0, EV 195. Without a
running assay both do nothing. -/
def Obligations.AssaysStartAbortAndReport : Prop :=
  (∀ (s : State) (b i : Nat), b < 16 → i < 64 → b ≠ 1 → b ≠ 2 → assayValid b i = true → s.assayPre b i = true →
    s.svc.assay = none → ∃ t, exec (.assayGo b i) s = .next t ∧ t.svc.assay = some (b, i) ∧ t.get
    CX_ASSAY_STATUS_state = 1 ∧ t.get CX_ASSAY_STATUS_verdict = 0 ∧ t.get CX_ASSAY_STATUS_ms = 0 ∧ t.get
    CX_ASSAY_CTRL_block = b ∧ t.get CX_ASSAY_CTRL_index = i ∧ Frame [.svc] [CX_ASSAY_CTRL_block, CX_ASSAY_CTRL_index,
    CX_ASSAY_STATUS_state, CX_ASSAY_STATUS_verdict, CX_ASSAY_STATUS_ms] s t) ∧
  (∀ (s : State) (i : Nat), i < 3 → s.get (nowFld i) = 1 → s.svc.assay = none → ∃ t, exec (.assayGo 1 i) s = .next t ∧
    t.svc.assay = some (1, i) ∧ t.get CX_ASSAY_STATUS_state = 1 ∧ t.get (FE_CD_STATUS_state i) = 3 ∧ t.get
    (FE_CD_STATUS_column i) = 0 ∧ ((s.locked i = true → t.get (FE_TDC_STATUS_state i) = 1))) ∧
  (∀ (s : State) (i r : Nat), i < 16 → r < 2 ^ 20 → bit (s.get CX_HQ_BANKS_retire) i = true → s.bankInit i = false →
    s.svc.assay = none → ∃ t, exec (.assayGo 2 i) s = .next t ∧ t.svc.assay = some (2, i) ∧ t.get
    CX_ASSAY_STATUS_state = 1 ∧ Sparse.has (entryKey i r) t.store.entries = false ∧ bit t.svc.bankUndef i = true ∧ ((∀
    k ∈ List.range 16, k = i ∨ Sparse.get 0 (entryKey k r) t.store.entries = Sparse.get 0 (entryKey k r)
    s.store.entries)) ∧ Frame [.svc, .store, .prot] [CX_ASSAY_CTRL_block, CX_ASSAY_CTRL_index, CX_ASSAY_STATUS_state,
    CX_ASSAY_STATUS_verdict, CX_ASSAY_STATUS_ms] s t) ∧
  (∀ (s : State) (b i : Nat), b < 16 → i < 64 → assayValid b i = true → s.assayPre b i = false → ∃ t, exec (.assayGo b
    i) s = .next t ∧ t.get CX_ASSAY_STATUS_cause = 1 ∧ t.get CX_ASSAY_STATUS_refused = 1 ∧ t.get
    CX_ASSAY_STATUS_verdict = 0 ∧ t.svc.assay = s.svc.assay ∧ Sparse.has 195 t.evReq = true ∧ Frame [.evReq]
    [CX_ASSAY_CTRL_block, CX_ASSAY_CTRL_index, CX_ASSAY_STATUS_refused, CX_ASSAY_STATUS_cause,
    CX_ASSAY_STATUS_verdict, MG_EVLOG_merged] s t) ∧
  (∀ (s : State) (b i : Nat), b < 16 → i < 64 → (assayValid b i = false ∨ s.assayPre b i = true) → s.svc.assay ≠ none
    → ∃ t, exec (.assayGo b i) s = .next t ∧ t.get CX_ASSAY_STATUS_cause = 2 ∧ t.get CX_ASSAY_STATUS_refused = 1 ∧
    t.svc.assay = s.svc.assay ∧ Frame [.evReq] [CX_ASSAY_CTRL_block, CX_ASSAY_CTRL_index, CX_ASSAY_STATUS_refused,
    CX_ASSAY_STATUS_cause, CX_ASSAY_STATUS_verdict, MG_EVLOG_merged] s t) ∧
  (∀ (s : State) (b i : Nat), b < 16 → i < 64 → (b = 0 ∨ 7 < b ∨ (b = 1 ∧ 2 < i) ∨ (b = 2 ∧ 15 < i) ∨ (b = 3 ∧ 47 < i)
    ∨ (b = 4 ∧ 1 < i) ∨ (4 < b ∧ 0 < i)) → s.svc.assay = none → ∃ t, exec (.assayGo b i) s = .next t ∧ t.get
    CX_ASSAY_STATUS_cause = 3 ∧ t.get CX_ASSAY_STATUS_refused = 1 ∧ t.svc.assay = none ∧ Sparse.has 195 t.evReq = true
    ∧ Frame [.evReq] [CX_ASSAY_CTRL_block, CX_ASSAY_CTRL_index, CX_ASSAY_STATUS_refused, CX_ASSAY_STATUS_cause,
    CX_ASSAY_STATUS_verdict, MG_EVLOG_merged] s t) ∧
  (∀ (s : State) (p f a ms b i : Nat), p < 16 → a < 2 ^ 20 → s.svc.assay = some (b, i) → ∃ t, exec (.assayDone p f a
    ms) s = .next t ∧ t.svc.assay = none ∧ t.get CX_ASSAY_STATUS_state = 2 ∧ (t.get CX_ASSAY_STATUS_verdict = (if p =
    0 then 1 else 0)) ∧ t.get CX_ASSAY_RESULT_part = p ∧ t.get CX_ASSAY_RESULT_fails = min f 255 ∧ t.get
    CX_ASSAY_RESULT_first = a ∧ t.get CX_ASSAY_STATUS_ms = max (s.get CX_ASSAY_STATUS_ms) (min ms 65535) ∧ Sparse.has
    195 t.evReq = true ∧ Frame [.svc, .evReq] [CX_ASSAY_STATUS_state, CX_ASSAY_STATUS_verdict, CX_ASSAY_STATUS_ms,
    CX_ASSAY_RESULT_part, CX_ASSAY_RESULT_fails, CX_ASSAY_RESULT_first, FE_CD_STATUS_state i, MG_EVLOG_merged] s t) ∧
  (∀ (s : State) (p f a ms : Nat), p < 16 → a < 2 ^ 20 → s.svc.assay = none → exec (.assayDone p f a ms) s = .next
    (s)) ∧
  (∀ (s : State) (b i : Nat), s.svc.assay = some (b, i) → ∃ t, exec .assayAbort s = .next t ∧ t.svc.assay = none ∧
    t.get CX_ASSAY_STATUS_state = 3 ∧ t.get CX_ASSAY_STATUS_verdict = 0 ∧ Sparse.has 195 t.evReq = true ∧ Frame [.svc,
    .evReq, .free] [CX_ASSAY_STATUS_state, CX_ASSAY_STATUS_verdict, CX_ASSAY_STATUS_ms, FE_CD_STATUS_state i,
    MG_EVLOG_merged] s t) ∧
  (∀ (s : State), s.svc.assay = none → exec .assayAbort s = .next (s))

/-- TEST_LOGIC_RESET selects IDCODE; IDCODE shifts out 0x1153654B; BYPASS one bit 0; SAMPLE_PRELOAD what the cells
sample, and holds the new cell values; EXTEST drives them, with an I2C transfer under way ending in state 5.
CTRL_ACCESS shifts out what the last access captured; too early, it changes only the done bit of the next capture, to
0; else the access is executed on the test path and its status, address and data are what the next capture takes: an
address of no block gives status 1 and counts a control error. HS_ENTRY likewise: a write of a bank in service during
acquisition is refused with result 4 and stores nothing; another write of all eight bytes stores the entry; a clean
read of an undamaged entry gives result 0 and its 64 bits. -/
def Obligations.TestAccessReadsAndDrivesThroughTheTap : Prop :=
  (∀ (s : State), exec .testLogicReset s = .next ({ s with svc := { s.svc with tap := { s.svc.tap with ir := 1 } } })) ∧
  (∀ (s : State), exec .idcode s = .next
    ({ s with svc := { s.svc with tap := { s.svc.tap with ir := 1, tdo := 0x1153654B } } })) ∧
  (∀ (s : State) (x : Nat), x < 256 → [0x00, 0x01, 0x02, 0x20, 0x21].contains x = false → exec (.bypass x) s = .next
    ({ s with svc := { s.svc with tap := { s.svc.tap with ir := x, tdo := 0 } } })) ∧
  (∀ (s : State) (a b : Nat), a < 2 ^ 23 → b < 2 ^ 23 → exec (.samplePreload a b) s = .next
    ({ s with svc := { s.svc with tap := { s.svc.tap with ir := 2, boundary := b, tdo := a } } })) ∧
  (∀ (s : State) (v : Nat), v < 2 ^ 23 → s.get CX_TILE_I2C_CTRL_state ≠ 1 → ∃ t, exec (.extest v) s = .next t ∧
    t.svc.tap.ir = 0 ∧ t.svc.tap.boundary = v ∧ t.svc.tap.ctrl = s.svc.tap.ctrl ∧ Frame [.svc, .free] [] s t) ∧
  (∀ (s : State) (v : Nat), v < 2 ^ 23 → s.get CX_TILE_I2C_CTRL_state = 1 → ∃ t, exec (.extest v) s = .next t ∧
    t.svc.tap.ir = 0 ∧ t.svc.tap.boundary = v ∧ t.get CX_TILE_I2C_CTRL_state = 5 ∧ t.on CX_TILE_STATUS_i2c_err = true) ∧
  (∀ (s : State) (dr : Nat) (r : EccResult), dr < 2 ^ 72 → exec (.ctrlAccess dr r true) s = .next
    ({ s with svc := { s.svc with tap := { s.svc.tap with ir := 0x20, ctrl := putBits s.svc.tap.ctrl 71 1 0, tdo := s.svc.tap.ctrl } } })) ∧
  (∀ (s : State) (dr : Nat) (r : EccResult), dr < 2 ^ 72 → ∃ t, exec (.ctrlAccess dr r false) s = .next t ∧
    t.svc.tap.ir = 0x20 ∧ t.svc.tap.tdo = s.svc.tap.ctrl ∧ t.svc.tap.ctrl = 2 ^ 71 + t.answer.1 * 2 ^ 67 + bits dr 32
    32 * 2 ^ 32 + t.answer.2) ∧
  (∀ (s : State) (dr : Nat) (r : EccResult), dr < 2 ^ 72 → 0x60000000 ≤ bits dr 32 32 → ∃ t, exec (.ctrlAccess dr r
    false) s = .next t ∧ t.answer = (1, 0) ∧ t.get CX_CT_ERR_status = 1 ∧ t.get CX_CT_ERR_path = 1 ∧ t.get
    CX_CT_ERR_count = min (s.get CX_CT_ERR_count + 1) (2 ^ CX_CT_ERR_count.width - 1) ∧ t.get CX_CT_ERR_ADDR_addr =
    bits dr 32 32 ∧ Frame [.svc, .answer, .evReq] [CX_CT_ERR_status, CX_CT_ERR_path, CX_CT_ERR_block, CX_CT_ERR_count,
    CX_CT_ERR_err, CX_CT_ERR_ADDR_addr, MG_EVLOG_merged] s t) ∧
  (∀ (s : State) (dr be bank row v : Nat) (r : EccResult), be < 256 → bank < 16 → row < 2 ^ 20 → v < 2 ^ 64 → dr = 2 ^
    103 + 2 ^ 95 * be + 2 ^ 91 * bank + 2 ^ 71 * row + v → bit (s.get CX_HQ_BANKS_in_service) bank = true → s.acq =
    true → ∃ t, exec (.hsEntry dr r) s = .next t ∧ t.svc.tap.hs = 2 ^ 103 + 4 * 2 ^ 100 + bank * 2 ^ 91 + row * 2 ^ 71
    + v ∧ t.svc.tap.tdo = s.svc.tap.hs ∧ t.svc.tap.ir = 0x21 ∧ Frame [.svc] [] s t) ∧
  (∀ (s : State) (dr bank row v : Nat) (r : EccResult), bank < 16 → row < 2 ^ 20 → v < 2 ^ 64 → dr = 2 ^ 103 + 2 ^ 95
    * 255 + 2 ^ 91 * bank + 2 ^ 71 * row + v → (bit (s.get CX_HQ_BANKS_in_service) bank = false ∨ s.acq = false) → ∃
    t, exec (.hsEntry dr r) s = .next t ∧ Sparse.get 0 (entryKey bank row) t.store.entries = v ∧ t.mark (entryMem
    bank) (entryIndex bank row) = 0 ∧ t.svc.tap.hs = 2 ^ 103 + bank * 2 ^ 91 + row * 2 ^ 71 + v ∧ t.svc.tap.tdo =
    s.svc.tap.hs ∧ Frame [.svc, .store, .prot] [] s t) ∧
  (∀ (s : State) (dr be bank row : Nat), be < 256 → bank < 16 → row < 2 ^ 20 → dr = 2 ^ 95 * be + 2 ^ 91 * bank + 2 ^
    71 * row → s.prot.bufTest = none → s.mark (entryMem bank) (entryIndex bank row) = 0 → bit s.svc.bankUndef bank =
    false → ∃ t, exec (.hsEntry dr .clean) s = .next t ∧ t.svc.tap.hs = 2 ^ 103 + bank * 2 ^ 91 + row * 2 ^ 71 +
    Sparse.get 0 (entryKey bank row) s.store.entries ∧ t.svc.tap.tdo = s.svc.tap.hs ∧ Frame [.svc] [] s t)

/-- REGISTER_WRITE and READ_CLEAR on every path. An address in no block, and a write to the plate range above the
frame window, is answered with error 1, whatever its alignment and byte enables. Within the blocks an address that is
no multiple of 4, no byte enable, or fewer than all four on a target other than plate window, staging buffer and
management RAMs is answered with error 2. Past these tests an access to an FE die in state off is answered with error
3, and a write into the plate frame window with the plate empty or live with error 4. The data answered is 0; status,
path, block and address are recorded and counted, the error bit is set, and where it was clear and no request of
source 0 stands, EV_CX_CT_ERROR is latched with path, status and block as its argument. Nothing else changes. -/
def Obligations.BusErrorsAreFoundInOrderAndRecorded : Prop :=
  (∀ (s : State) (p : Path) (a v be : Nat), p.wf = true → a < 2 ^ 32 → v < 2 ^ 32 → be < 16 → 0xC0000 ≤ a →
    ([(0x10000000, 0x10FFFFFF), (0x20000000, 0x22FFFFFF), (0x30000000, 0x31FFFFFF), (0x40000000, 0x40061FFF),
    (0x50000000, 0x53FFFFFF)].any fun r => decide (r.1 ≤ a) && decide (a ≤ r.2)) = false → ∃ t, exec (.registerWrite p
    a v be) s = .next t ∧ t.answer = (1, 0) ∧ t.get CX_CT_ERR_status = 1 ∧ t.get CX_CT_ERR_path = pathCode p ∧ t.get
    CX_CT_ERR_block = a / 2 ^ 24 ∧ t.get CX_CT_ERR_ADDR_addr = a ∧ t.get CX_CT_ERR_count = min (s.get CX_CT_ERR_count
    + 1) (2 ^ CX_CT_ERR_count.width - 1) ∧ t.get CX_CT_ERR_err = 1 ∧ ((s.get CX_CT_ERR_err = 0 → Sparse.has 0 s.evReq
    = false → Sparse.get 0 0 t.evReq = pathCode p * 0x1000 + 1 * 0x100 + a / 2 ^ 24)) ∧ Frame [.answer, .evReq]
    [CX_CT_ERR_status, CX_CT_ERR_path, CX_CT_ERR_block, CX_CT_ERR_count, CX_CT_ERR_err, CX_CT_ERR_ADDR_addr,
    MG_EVLOG_merged] s t) ∧
  (∀ (s : State) (p : Path) (a be : Nat), p.wf = true → a < 2 ^ 32 → be < 16 → 0x10000000 ≤ a → ([(0x10000000,
    0x10FFFFFF), (0x20000000, 0x22FFFFFF), (0x30000000, 0x31FFFFFF), (0x40000000, 0x40061FFF), (0x50000000,
    0x53FFFFFF)].any fun r => decide (r.1 ≤ a) && decide (a ≤ r.2)) = false → ∃ t, exec (.readClear p a be) s = .next
    t ∧ t.answer = (1, 0) ∧ t.get CX_CT_ERR_status = 1 ∧ t.get CX_CT_ERR_path = pathCode p ∧ t.get CX_CT_ERR_block = a
    / 2 ^ 24 ∧ t.get CX_CT_ERR_ADDR_addr = a ∧ t.get CX_CT_ERR_count = min (s.get CX_CT_ERR_count + 1) (2 ^
    CX_CT_ERR_count.width - 1) ∧ t.get CX_CT_ERR_err = 1 ∧ ((s.get CX_CT_ERR_err = 0 → Sparse.has 0 s.evReq = false →
    Sparse.get 0 0 t.evReq = pathCode p * 0x1000 + 1 * 0x100 + a / 2 ^ 24)) ∧ Frame [.answer, .evReq]
    [CX_CT_ERR_status, CX_CT_ERR_path, CX_CT_ERR_block, CX_CT_ERR_count, CX_CT_ERR_err, CX_CT_ERR_ADDR_addr,
    MG_EVLOG_merged] s t) ∧
  (∀ (s : State) (p : Path) (a v be : Nat), p.wf = true → a < 2 ^ 32 → v < 2 ^ 32 → be < 16 → (a < 0xC0000 ∨
    ([(0x10000000, 0x10FFFFFF), (0x20000000, 0x22FFFFFF), (0x30000000, 0x31FFFFFF), (0x40000000, 0x40061FFF),
    (0x50000000, 0x53FFFFFF)].any fun r => decide (r.1 ≤ a) && decide (a ≤ r.2)) = true) → (a % 4 ≠ 0 ∨ be = 0 ∨ (be ≠
    15 ∧ ¬ (a < 0x10000000 ∨ (0x10000800 ≤ a ∧ a < 0x10000C00) ∨ (0x40000000 ≤ a ∧ a < 0x40062000)))) → ∃ t, exec
    (.registerWrite p a v be) s = .next t ∧ t.answer = (2, 0) ∧ t.get CX_CT_ERR_status = 2 ∧ t.get CX_CT_ERR_path =
    pathCode p ∧ t.get CX_CT_ERR_block = a / 2 ^ 24 ∧ t.get CX_CT_ERR_ADDR_addr = a ∧ t.get CX_CT_ERR_count = min
    (s.get CX_CT_ERR_count + 1) (2 ^ CX_CT_ERR_count.width - 1) ∧ t.get CX_CT_ERR_err = 1 ∧ ((s.get CX_CT_ERR_err = 0
    → Sparse.has 0 s.evReq = false → Sparse.get 0 0 t.evReq = pathCode p * 0x1000 + 2 * 0x100 + a / 2 ^ 24)) ∧ Frame
    [.answer, .evReq] [CX_CT_ERR_status, CX_CT_ERR_path, CX_CT_ERR_block, CX_CT_ERR_count, CX_CT_ERR_err,
    CX_CT_ERR_ADDR_addr, MG_EVLOG_merged] s t) ∧
  (∀ (s : State) (p : Path) (a be : Nat), p.wf = true → a < 2 ^ 32 → be < 16 → (a < 0x10000000 ∨ ([(0x10000000,
    0x10FFFFFF), (0x20000000, 0x22FFFFFF), (0x30000000, 0x31FFFFFF), (0x40000000, 0x40061FFF), (0x50000000,
    0x53FFFFFF)].any fun r => decide (r.1 ≤ a) && decide (a ≤ r.2)) = true) → (a % 4 ≠ 0 ∨ be = 0 ∨ (be ≠ 15 ∧ ¬ (a <
    0x10000000 ∨ (0x10000800 ≤ a ∧ a < 0x10000C00) ∨ (0x40000000 ≤ a ∧ a < 0x40062000)))) → ∃ t, exec (.readClear p a
    be) s = .next t ∧ t.answer = (2, 0) ∧ t.get CX_CT_ERR_status = 2 ∧ t.get CX_CT_ERR_path = pathCode p ∧ t.get
    CX_CT_ERR_block = a / 2 ^ 24 ∧ t.get CX_CT_ERR_ADDR_addr = a ∧ t.get CX_CT_ERR_count = min (s.get CX_CT_ERR_count
    + 1) (2 ^ CX_CT_ERR_count.width - 1) ∧ t.get CX_CT_ERR_err = 1 ∧ ((s.get CX_CT_ERR_err = 0 → Sparse.has 0 s.evReq
    = false → Sparse.get 0 0 t.evReq = pathCode p * 0x1000 + 2 * 0x100 + a / 2 ^ 24)) ∧ Frame [.answer, .evReq]
    [CX_CT_ERR_status, CX_CT_ERR_path, CX_CT_ERR_block, CX_CT_ERR_count, CX_CT_ERR_err, CX_CT_ERR_ADDR_addr,
    MG_EVLOG_merged] s t) ∧
  (∀ (s : State) (p : Path) (a v n : Nat), p.wf = true → a < 2 ^ 32 → v < 2 ^ 32 → n < 3 → a % 4 = 0 → a / 2 ^ 24 =
    0x20 + n → s.get (nowFld n) = 2 → ∃ t, exec (.registerWrite p a v 15) s = .next t ∧ t.answer = (3, 0) ∧ t.get
    CX_CT_ERR_status = 3 ∧ t.get CX_CT_ERR_path = pathCode p ∧ t.get CX_CT_ERR_block = a / 2 ^ 24 ∧ t.get
    CX_CT_ERR_ADDR_addr = a ∧ t.get CX_CT_ERR_count = min (s.get CX_CT_ERR_count + 1) (2 ^ CX_CT_ERR_count.width - 1)
    ∧ t.get CX_CT_ERR_err = 1 ∧ ((s.get CX_CT_ERR_err = 0 → Sparse.has 0 s.evReq = false → Sparse.get 0 0 t.evReq =
    pathCode p * 0x1000 + 3 * 0x100 + a / 2 ^ 24)) ∧ Frame [.answer, .evReq] [CX_CT_ERR_status, CX_CT_ERR_path,
    CX_CT_ERR_block, CX_CT_ERR_count, CX_CT_ERR_err, CX_CT_ERR_ADDR_addr, MG_EVLOG_merged] s t) ∧
  (∀ (s : State) (p : Path) (a n : Nat), p.wf = true → a < 2 ^ 32 → n < 3 → a % 4 = 0 → a / 2 ^ 24 = 0x20 + n → s.get
    (nowFld n) = 2 → ∃ t, exec (.readClear p a 15) s = .next t ∧ t.answer = (3, 0) ∧ t.get CX_CT_ERR_status = 3 ∧
    t.get CX_CT_ERR_path = pathCode p ∧ t.get CX_CT_ERR_block = a / 2 ^ 24 ∧ t.get CX_CT_ERR_ADDR_addr = a ∧ t.get
    CX_CT_ERR_count = min (s.get CX_CT_ERR_count + 1) (2 ^ CX_CT_ERR_count.width - 1) ∧ t.get CX_CT_ERR_err = 1 ∧
    ((s.get CX_CT_ERR_err = 0 → Sparse.has 0 s.evReq = false → Sparse.get 0 0 t.evReq = pathCode p * 0x1000 + 3 *
    0x100 + a / 2 ^ 24)) ∧ Frame [.answer, .evReq] [CX_CT_ERR_status, CX_CT_ERR_path, CX_CT_ERR_block,
    CX_CT_ERR_count, CX_CT_ERR_err, CX_CT_ERR_ADDR_addr, MG_EVLOG_merged] s t) ∧
  (∀ (s : State) (p : Path) (a v be : Nat), p.wf = true → a < 2 ^ 32 → v < 2 ^ 32 → be < 16 → a < 0xC0000 → a % 4 = 0
    → be ≠ 0 → (s.get CX_PLATE_STATUS_state = 0 ∨ s.get CX_PLATE_STATUS_state = 4) → ∃ t, exec (.registerWrite p a v
    be) s = .next t ∧ t.answer = (4, 0) ∧ t.get CX_CT_ERR_status = 4 ∧ t.get CX_CT_ERR_path = pathCode p ∧ t.get
    CX_CT_ERR_block = a / 2 ^ 24 ∧ t.get CX_CT_ERR_ADDR_addr = a ∧ t.get CX_CT_ERR_count = min (s.get CX_CT_ERR_count
    + 1) (2 ^ CX_CT_ERR_count.width - 1) ∧ t.get CX_CT_ERR_err = 1 ∧ ((s.get CX_CT_ERR_err = 0 → Sparse.has 0 s.evReq
    = false → Sparse.get 0 0 t.evReq = pathCode p * 0x1000 + 4 * 0x100 + a / 2 ^ 24)) ∧ Frame [.answer, .evReq]
    [CX_CT_ERR_status, CX_CT_ERR_path, CX_CT_ERR_block, CX_CT_ERR_count, CX_CT_ERR_err, CX_CT_ERR_ADDR_addr,
    MG_EVLOG_merged] s t)

/-- Through every path: a write of an RW register stores its value and a read answers it, with nothing else changed
(shown for the sixteen interrupt enables). A write to an RO register changes nothing. A write to MG_STATUS or
MG_EV_PEND clears exactly the W1C bits written with 1 and leaves every other field. A read of an RC register answers
its counts and leaves them 0 (HK_CNT). An address inside a block that no chapter lists reads 0 and ignores a write. A
word of the general data RAM takes the enabled bytes alone, and a read answers the enabled bytes with 0 in the others.
A transaction that gets no answer is answered with error 6 and recorded; on a DMA channel it halts the channel with
error 3 for a write and 2 for a read; on test access the next capture shows it; a write may have taken effect. -/
def Obligations.RegistersReadAndWriteAsTheirAccessSays : Prop :=
  (∀ (s : State) (p : Path) (i v : Nat), p.wf = true → i < 16 → v < 2 ^ 32 → exec (.registerWrite p (MG_EV_IRQEN_en
    i).addr v 15) s = .next ({ s.set (MG_EV_IRQEN_en i) v with answer := (0, 0) })) ∧
  (∀ (s : State) (p : Path) (i : Nat), p.wf = true → i < 16 → exec (.readClear p (MG_EV_IRQEN_en i).addr 15) s = .next
    ({ s with answer := (0, s.get (MG_EV_IRQEN_en i)) })) ∧
  (∀ (s : State) (p : Path) (v : Nat), p.wf = true → v < 2 ^ 32 → exec (.registerWrite p CX_DEVICE_ID_part.addr v 15)
    s = .next ({ s with answer := (0, 0) })) ∧
  (∀ (s : State) (p : Path) (i v : Nat), p.wf = true → i < 16 → v < 2 ^ 32 → exec (.registerWrite p (MG_EV_PEND_pend
    i).addr v 15) s = .next
    ({ s.set (MG_EV_PEND_pend i) (Nat.xor (s.get (MG_EV_PEND_pend i)) (Nat.land (s.get (MG_EV_PEND_pend i)) v)) with answer := (0, 0) })) ∧
  (∀ (s : State) (p : Path) (v : Nat), p.wf = true → v < 2 ^ 32 → ∃ t, exec (.registerWrite p MG_STATUS_refused.addr v
    15) s = .next t ∧ t.answer = (0, 0) ∧ (t.get MG_STATUS_refused = (if bit v MG_STATUS_refused.lo then 0 else s.get
    MG_STATUS_refused)) ∧ (t.get MG_STATUS_evq_lost = (if bit v MG_STATUS_evq_lost.lo then 0 else s.get
    MG_STATUS_evq_lost)) ∧ Frame [.answer] [MG_STATUS_refused, MG_STATUS_evq_lost] s t) ∧
  (∀ (s : State) (p : Path), p.wf = true → ∃ t, exec (.readClear p HK_CNT_nr.addr 15) s = .next t ∧ t.answer = (0,
    s.get HK_CNT_overrun * 2 ^ 16 + s.get HK_CNT_dropped * 2 ^ 8 + s.get HK_CNT_late * 2 ^ 4 + s.get HK_CNT_nr) ∧
    t.get HK_CNT_overrun = 0 ∧ t.get HK_CNT_dropped = 0 ∧ t.get HK_CNT_late = 0 ∧ t.get HK_CNT_nr = 0 ∧ Frame
    [.answer] [HK_CNT_overrun, HK_CNT_dropped, HK_CNT_late, HK_CNT_nr] s t) ∧
  (∀ (s : State) (p : Path) (v : Nat), p.wf = true → v < 2 ^ 32 → exec (.registerWrite p 0x53FFFFFC v 15) s = .next
    ({ s with answer := (0, 0) })) ∧
  (∀ (s : State) (p : Path), p.wf = true → exec (.readClear p 0x53FFFFFC 15) s = .next ({ s with answer := (0, 0) })) ∧
  (∀ (s : State) (p : Path) (k v be x : Nat), p.wf = true → k < 0x6000 → v < 2 ^ 32 → be < 16 → be ≠ 0 → ∃ t, exec
    (.registerWrite p (0x40040000 + 4 * k) v be) s = .next t ∧ t.answer = (0, 0) ∧ (t.dramByte x = (if x / 4 = k ∧ bit
    be (x % 4) = true then byteOf v (x % 4) else s.dramByte x)) ∧ (t.mark memDram x = (if x / 4 = k ∧ bit be (x % 4) =
    true then 0 else s.mark memDram x)) ∧ Frame [.answer, .mg, .prot] [] s t) ∧
  (∀ (s : State) (p : Path) (k be : Nat), p.wf = true → k < 0x8000 → be < 16 → be ≠ 0 → ((∀ j ∈ List.range 4,
    s.dramByte (4 * k + j) < 256 ∧ s.mark memDram (4 * k + j) = 0)) → ∃ t, exec (.readClear p (0x40040000 + 4 * k) be)
    s = .next t ∧ (t.answer = (0, ofBytes ((List.range 4).map fun j => if bit be j then s.dramByte (4 * k + j) else
    0))) ∧ Frame [.answer] [] s t) ∧
  (∀ (s : State) (p : Path) (m : CtMsg) (took : Bool), m.wf = true → p.wf = true → ctOpOf m ≤ 1 → s.txnError (txnOf m
    ⟨p, none⟩) ≠ 0 → exec (.transactionTimeout p m took) s = .next (s)) ∧
  (∀ (s : State) (m : CtMsg) (p : Path) (a : Nat), m.wf = true → ctOpOf m ≤ 1 → p = .core → a = bits (m.body.getD 0 0)
    32 32 → s.txnError (txnOf m ⟨.core, none⟩) = 0 → ∃ t, exec (.transactionTimeout .core m false) s = .next t ∧
    t.answer = (6, 0) ∧ t.get CX_CT_ERR_status = 6 ∧ t.get CX_CT_ERR_path = pathCode p ∧ t.get CX_CT_ERR_block = a / 2
    ^ 24 ∧ t.get CX_CT_ERR_ADDR_addr = a ∧ t.get CX_CT_ERR_count = min (s.get CX_CT_ERR_count + 1) (2 ^
    CX_CT_ERR_count.width - 1) ∧ t.get CX_CT_ERR_err = 1 ∧ ((s.get CX_CT_ERR_err = 0 → Sparse.has 0 s.evReq = false →
    Sparse.get 0 0 t.evReq = pathCode p * 0x1000 + 6 * 0x100 + a / 2 ^ 24)) ∧ Frame [.answer, .evReq]
    [CX_CT_ERR_status, CX_CT_ERR_path, CX_CT_ERR_block, CX_CT_ERR_count, CX_CT_ERR_err, CX_CT_ERR_ADDR_addr,
    MG_EVLOG_merged] s t) ∧
  (∀ (s : State) (c : Nat) (m : CtMsg), m.wf = true → c < 8 → c ≠ 0 → ctOpOf m ≤ 1 → s.get (MG_DMA_CTRL_state c) = 1 →
    s.txnError (txnOf m ⟨.dma c, none⟩) = 0 → ∃ t, exec (.transactionTimeout (.dma c) m false) s = .next t ∧ t.answer
    = (6, 0) ∧ t.get (MG_DMA_CTRL_state c) = 3 ∧ (t.get (MG_DMA_CTRL_err c) = (if ctOpOf m = 1 then 3 else 2)) ∧ t.get
    CX_CT_ERR_status = 6 ∧ t.get CX_CT_ERR_path = 3 ∧ Frame [.answer, .evReq, .mg] [CX_CT_ERR_status, CX_CT_ERR_path,
    CX_CT_ERR_block, CX_CT_ERR_count, CX_CT_ERR_err, CX_CT_ERR_ADDR_addr, MG_EVLOG_merged, MG_DMA_CTRL_state c,
    MG_DMA_CTRL_err c] s t) ∧
  (∀ (s : State) (m : CtMsg), m.wf = true → ctOpOf m ≤ 1 → s.txnError (txnOf m ⟨.test, none⟩) = 0 → ∃ t, exec
    (.transactionTimeout .test m false) s = .next t ∧ t.answer = (6, 0) ∧ t.svc.tap.ctrl = 2 ^ 71 + 6 * 2 ^ 67 + bits
    (m.body.getD 0 0) 32 32 * 2 ^ 32 ∧ t.get CX_CT_ERR_path = 1 ∧ Frame [.answer, .evReq, .svc] [CX_CT_ERR_status,
    CX_CT_ERR_path, CX_CT_ERR_block, CX_CT_ERR_count, CX_CT_ERR_err, CX_CT_ERR_ADDR_addr, MG_EVLOG_merged] s t) ∧
  (∀ (s : State) (m : CtMsg) (i v : Nat), m.wf = true → ctOpOf m = 1 → i < 16 → v < 2 ^ 32 → m.body.getD 0 0 =
    (MG_EV_IRQEN_en i).addr * 2 ^ 32 + v → bits m.head 24 4 = 15 → ∃ t, exec (.transactionTimeout .core m true) s =
    .next t ∧ t.answer = (6, 0) ∧ t.get (MG_EV_IRQEN_en i) = v ∧ t.get CX_CT_ERR_status = 6 ∧ Frame [.answer, .evReq]
    [CX_CT_ERR_status, CX_CT_ERR_path, CX_CT_ERR_block, CX_CT_ERR_count, CX_CT_ERR_err, CX_CT_ERR_ADDR_addr,
    MG_EVLOG_merged, MG_EV_IRQEN_en i] s t)
end

