-- ==== Sys2Proof/Laws/Sparse.lean ====
section
/-! SUPPORT. Sparse maps: what a read gives after a write, and that every operation keeps the canonical form. -/

namespace Sys2Proof.Sparse

variable {α : Type}

theorem get_erase_same (d : α) (k : Nat) (m : List (Nat × α)) : get d k (erase k m) = d := by
  induction m with
  | nil => rfl
  | cons e m ih =>
    obtain ⟨k', v⟩ := e
    by_cases h : k = k'
    · simp [erase, h] at ih ⊢; subst h; exact ih
    · simp [erase, get, h, ih]

theorem get_erase_ne (d : α) {j k : Nat} (h : j ≠ k) (m : List (Nat × α)) : get d j (erase k m) = get d j m := by
  induction m with
  | nil => rfl
  | cons e m ih =>
    obtain ⟨k', v⟩ := e
    by_cases hk : k = k'
    · subst hk; simp [erase, get, h, ih]
    · by_cases hj : j = k'
      · subst hj; simp [erase, get, hk]
      · simp [erase, get, hk, hj, ih]

theorem get_insert_same (d : α) (k : Nat) (v : α) (m : List (Nat × α)) : get d k (insert k v m) = v := by
  induction m with
  | nil => simp [insert, get]
  | cons e m ih =>
    obtain ⟨k', v'⟩ := e
    simp only [insert]
    split
    · simp [get]
    · split
      · simp [get]
      · next h => simp [get, h, ih]

theorem get_insert_ne (d : α) {j k : Nat} (h : j ≠ k) (v : α) (m : List (Nat × α)) :
    get d j (insert k v m) = get d j m := by
  induction m with
  | nil => simp [insert, get, h]
  | cons e m ih =>
    obtain ⟨k', v'⟩ := e
    simp only [insert]
    split
    · simp [get, h]
    · split
      · next hk => subst hk; simp [get, h]
      · by_cases hj : j = k' <;> simp [get, hj, ih]
/-- A read of the key written gives the value written. -/
theorem get_put_same [DecidableEq α] (d : α) (k : Nat) (v : α) (m : List (Nat × α)) : get d k (put d k v m) = v := by
  unfold put; split
  · next h => rw [h, get_erase_same]
  · exact get_insert_same d k v m

/-- A read of another key gives what it gave. -/
theorem get_put_ne [DecidableEq α] (d d' : α) {j k : Nat} (h : j ≠ k) (v : α) (m : List (Nat × α)) :
    get d j (put d' k v m) = get d j m := by
  unfold put; split
  · exact get_erase_ne d h m
  · exact get_insert_ne d h v m

theorem sortedFrom_mono {b c : Option Nat} {m : List (Nat × α)} (h : sortedFrom c m = true)
    (hb : ∀ x, b = some x → ∃ y, c = some y ∧ x ≤ y) : sortedFrom b m = true := by
  cases m with
  | nil => rfl
  | cons e m =>
    obtain ⟨k, v⟩ := e
    cases b with
    | none => simp [sortedFrom] at h ⊢; exact h.2
    | some x =>
      obtain ⟨y, rfl, hy⟩ := hb x rfl
      simp [sortedFrom] at h ⊢
      exact ⟨by omega, h.2⟩

theorem sortedFrom_filter {b : Option Nat} {m : List (Nat × α)} (p : Nat × α → Bool) (h : sortedFrom b m = true) :
    sortedFrom b (m.filter p) = true := by
  induction m generalizing b with
  | nil => rfl
  | cons e m ih =>
    obtain ⟨k, v⟩ := e
    simp only [sortedFrom, Bool.and_eq_true] at h
    rw [List.filter_cons]; split
    · simp only [sortedFrom, Bool.and_eq_true]; exact ⟨h.1, ih h.2⟩
    · refine sortedFrom_mono (ih h.2) fun x hx => ⟨k, rfl, ?_⟩
      subst hx; simp at h; omega

theorem erase_eq_filter (k : Nat) (m : List (Nat × α)) : erase k m = m.filter fun e => e.1 != k := by
  induction m with
  | nil => rfl
  | cons e m ih =>
    obtain ⟨k', v⟩ := e
    rw [List.filter_cons]
    by_cases h : k = k'
    · subst h; simp [erase, ih]
    · simp [erase, h, ih, Ne.symm h]

theorem sortedFrom_insert {b : Option Nat} {m : List (Nat × α)} (k : Nat) (v : α) (h : sortedFrom b m = true)
    (hb : ∀ x, b = some x → x < k) : sortedFrom b (insert k v m) = true := by
  induction m generalizing b with
  | nil => cases b <;> simp [insert, sortedFrom]; exact hb _ rfl
  | cons e m ih =>
    obtain ⟨k', v'⟩ := e
    simp only [sortedFrom, Bool.and_eq_true] at h
    simp only [insert]; split
    · next hk =>
      have h2 := h.2
      cases b <;> simp [sortedFrom, hk, h2]
      exact hb _ rfl
    · split
      · next hk => subst hk; simp only [sortedFrom, Bool.and_eq_true]; exact h
      · next h1 h2 =>
        simp only [sortedFrom, Bool.and_eq_true]
        exact ⟨h.1, ih h.2 fun x hx => by cases hx; omega⟩

/-- Keys stay strictly rising under a write. -/
theorem sorted_put [DecidableEq α] (d : α) (k : Nat) (v : α) {m : List (Nat × α)} (h : sorted m = true) :
    sorted (put d k v m) = true := by
  unfold put; split
  · rw [erase_eq_filter]; exact sortedFrom_filter _ h
  · exact sortedFrom_insert k v h (by simp)

theorem sorted_filter {m : List (Nat × α)} (p : Nat × α → Bool) (h : sorted m = true) : sorted (m.filter p) = true :=
  sortedFrom_filter p h

theorem wf_nil [DecidableEq α] (d : α) : wf d ([] : List (Nat × α)) = true := rfl

theorem wf_filter [DecidableEq α] (d : α) {m : List (Nat × α)} (p : Nat × α → Bool) (h : wf d m = true) :
    wf d (m.filter p) = true := by
  simp only [wf, Bool.and_eq_true, List.all_eq_true] at h ⊢
  exact ⟨sorted_filter p h.1, fun e he => h.2 e (List.mem_filter.1 he).1⟩

theorem wf_erase [DecidableEq α] (d : α) (k : Nat) {m : List (Nat × α)} (h : wf d m = true) : wf d (erase k m) = true := by
  rw [erase_eq_filter]; exact wf_filter d _ h

theorem sorted_tail {e : Nat × α} {m : List (Nat × α)} (h : sorted (e :: m) = true) : sorted m = true :=
  sortedFrom_mono (by simp only [sorted, sortedFrom, Bool.and_eq_true] at h; exact h.2) (by simp)

theorem mem_insert {k : Nat} {v : α} {m : List (Nat × α)} {e : Nat × α} (h : e ∈ insert k v m) : e = (k, v) ∨ e ∈ m := by
  induction m with
  | nil => simpa [insert] using h
  | cons e' m ih =>
    obtain ⟨k', v'⟩ := e'
    simp only [insert] at h
    split at h
    · simpa using h
    · split at h
      · rcases List.mem_cons.1 h with h | h
        · exact .inl h
        · exact .inr (List.mem_cons_of_mem _ h)
      · rcases List.mem_cons.1 h with h | h
        · exact .inr (h ▸ List.mem_cons_self ..)
        · rcases ih h with h | h
          · exact .inl h
          · exact .inr (List.mem_cons_of_mem _ h)

/-- A write keeps the canonical form: no entry holds the default, keys rise. -/
theorem wf_put [DecidableEq α] (d : α) (k : Nat) (v : α) {m : List (Nat × α)} (h : wf d m = true) :
    wf d (put d k v m) = true := by
  unfold put; split
  · rw [erase_eq_filter]; exact wf_filter d _ h
  · next hv =>
    simp only [wf, Bool.and_eq_true, List.all_eq_true] at h ⊢
    refine ⟨sortedFrom_insert k v h.1 (by simp), fun e he => ?_⟩
    rcases mem_insert he with rfl | he
    · simpa using hv
    · exact h.2 e he

end Sys2Proof.Sparse
end

