-- ==== Sys2Proof/Laws/State.lean ====
section
/-! SUPPORT. One lemma a field and update: what the register operations write and what they leave. -/

namespace Sys2Proof.Machine

/-- A field holds a value of its width. -/
theorem State.get_lt (s : State) (f : Fld) : s.get f < 2 ^ f.width := Nat.mod_lt _ (Nat.two_pow_pos _)

/-- A field written holds the value's low bits. -/
theorem State.get_set_same (s : State) (f : Fld) (v : Nat) : (s.set f v).get f = v % 2 ^ f.width := by
  unfold State.get State.set
  rw [Sparse.get_put_same, Nat.mod_mod]

/-- A field at another place keeps its value. -/
theorem State.get_set_ne (s : State) {f g : Fld} (h : g.key ≠ f.key) (v : Nat) : (s.set f v).get g = s.get g :=
  congrArg (· % 2 ^ g.width) (Sparse.get_put_ne _ _ h _ _)

/-- A value that fits its field is read back. -/
theorem State.get_set_fit (s : State) (f : Fld) {v : Nat} (h : v < 2 ^ f.width) : (s.set f v).get f = v := by
  rw [State.get_set_same, Nat.mod_eq_of_lt h]

/-- A counter reads n more, saturating at all ones (R21). -/
theorem State.get_count_same (s : State) (f : Fld) (n : Nat) :
    (s.count f n).get f = min (s.get f + n) (2 ^ f.width - 1) := by
  unfold State.count
  rw [State.get_set_fit]
  have := Nat.two_pow_pos f.width
  omega

theorem State.get_count_ne (s : State) {f g : Fld} (h : g.key ≠ f.key) (n : Nat) : (s.count f n).get g = s.get g :=
  State.get_set_ne s h _

theorem State.get_setB_same (s : State) (f : Fld) (b : Bool) : (s.setB f b).get f = b2n b % 2 ^ f.width :=
  State.get_set_same s f _

theorem State.get_setB_ne (s : State) {f g : Fld} (h : g.key ≠ f.key) (b : Bool) : (s.setB f b).get g = s.get g :=
  State.get_set_ne s h _

/-- Raising a source leaves every field but MG_EVLOG.merged. -/
theorem State.get_raise_ne (s : State) {g : Fld} (h : g.key ≠ MG_EVLOG_merged.key) (src arg : Nat) :
    (s.raise src arg).get g = s.get g := by
  unfold State.raise; split
  · exact State.get_count_ne s h 1
  · rfl

/-- A status bit set reads 1. -/
theorem State.get_flag_same (s : State) {f : Fld} (hw : f.width = 1)
    (h : f.key ≠ MG_EVLOG_merged.key) (src arg : Nat) : (s.flag f src arg).get f = 1 := by
  unfold State.flag State.on; split
  · next hn => have := State.get_lt s f; rw [hw] at this; simp at hn; omega
  · simp only [State.get_raise_ne _ h, State.get_set_same, hw]; decide

theorem State.get_flag_ne (s : State) {f g : Fld} (hf : g.key ≠ f.key) (h : g.key ≠ MG_EVLOG_merged.key)
    (src arg : Nat) : (s.flag f src arg).get g = s.get g := by
  unfold State.flag; split
  · rfl
  · rw [State.get_raise_ne _ h, State.get_set_ne s hf]

@[simp] theorem State.iff_true (s : State) (f : State → State) : s.iff true f = f s := rfl
@[simp] theorem State.iff_false (s : State) (f : State → State) : s.iff false f = s := rfl
@[simp] theorem State.each_nil {α : Type} (s : State) (f : State → α → State) : s.each [] f = s := rfl
@[simp] theorem State.each_cons {α : Type} (s : State) (a : α) (l : List α) (f : State → α → State) :
    s.each (a :: l) f = State.each (f s a) l f := rfl

/-! Components beside the fields: a register operation leaves them. -/

@[simp] theorem State.set_evReq (s : State) (f : Fld) (v : Nat) : (s.set f v).evReq = s.evReq := rfl
@[simp] theorem State.set_shut (s : State) (f : Fld) (v : Nat) : (s.set f v).shut = s.shut := rfl
@[simp] theorem State.set_dueSwap (s : State) (f : Fld) (v : Nat) : (s.set f v).dueSwap = s.dueSwap := rfl
@[simp] theorem State.set_dueBurnish (s : State) (f : Fld) (v : Nat) : (s.set f v).dueBurnish = s.dueBurnish := rfl
@[simp] theorem State.set_dueCd (s : State) (f : Fld) (v : Nat) : (s.set f v).dueCd = s.dueCd := rfl
@[simp] theorem State.set_activity (s : State) (f : Fld) (v : Nat) : (s.set f v).activity = s.activity := rfl
@[simp] theorem State.set_deferWin (s : State) (f : Fld) (v : Nat) : (s.set f v).deferWin = s.deferWin := rfl
@[simp] theorem State.set_deferMask (s : State) (f : Fld) (v : Nat) : (s.set f v).deferMask = s.deferMask := rfl
@[simp] theorem State.set_feByp (s : State) (f : Fld) (v : Nat) : (s.set f v).feByp = s.feByp := rfl
@[simp] theorem State.set_was (s : State) (f : Fld) (v : Nat) : (s.set f v).was = s.was := rfl
@[simp] theorem State.set_answer (s : State) (f : Fld) (v : Nat) : (s.set f v).answer = s.answer := rfl
@[simp] theorem State.set_free (s : State) (f : Fld) (v : Nat) : (s.set f v).free = s.free := rfl
@[simp] theorem State.set_plate (s : State) (f : Fld) (v : Nat) : (s.set f v).plate = s.plate := rfl
@[simp] theorem State.set_mt (s : State) (f : Fld) (v : Nat) : (s.set f v).mt = s.mt := rfl
@[simp] theorem State.set_chans (s : State) (f : Fld) (v : Nat) : (s.set f v).chans = s.chans := rfl
@[simp] theorem State.set_dies (s : State) (f : Fld) (v : Nat) : (s.set f v).dies = s.dies := rfl
@[simp] theorem State.set_latch (s : State) (f : Fld) (v : Nat) : (s.set f v).latch = s.latch := rfl
@[simp] theorem State.set_clock (s : State) (f : Fld) (v : Nat) : (s.set f v).clock = s.clock := rfl
@[simp] theorem State.set_loadedAt (s : State) (f : Fld) (v : Nat) : (s.set f v).loadedAt = s.loadedAt := rfl
@[simp] theorem State.set_store (s : State) (f : Fld) (v : Nat) : (s.set f v).store = s.store := rfl
@[simp] theorem State.set_tg (s : State) (f : Fld) (v : Nat) : (s.set f v).tg = s.tg := rfl
@[simp] theorem State.set_rc (s : State) (f : Fld) (v : Nat) : (s.set f v).rc = s.rc := rfl
@[simp] theorem State.set_str (s : State) (f : Fld) (v : Nat) : (s.set f v).str = s.str := rfl
@[simp] theorem State.set_lanes (s : State) (f : Fld) (v : Nat) : (s.set f v).lanes = s.lanes := rfl
@[simp] theorem State.set_fb (s : State) (f : Fld) (v : Nat) : (s.set f v).fb = s.fb := rfl
@[simp] theorem State.set_prot (s : State) (f : Fld) (v : Nat) : (s.set f v).prot = s.prot := rfl
@[simp] theorem State.set_pwr (s : State) (f : Fld) (v : Nat) : (s.set f v).pwr = s.pwr := rfl
@[simp] theorem State.set_guard (s : State) (f : Fld) (v : Nat) : (s.set f v).guard = s.guard := rfl
@[simp] theorem State.set_tile (s : State) (f : Fld) (v : Nat) : (s.set f v).tile = s.tile := rfl
@[simp] theorem State.set_mg (s : State) (f : Fld) (v : Nat) : (s.set f v).mg = s.mg := rfl
@[simp] theorem State.set_svc (s : State) (f : Fld) (v : Nat) : (s.set f v).svc = s.svc := rfl
@[simp] theorem State.set_pending (s : State) (f : Fld) (v : Nat) : (s.set f v).pending = s.pending := rfl

@[simp] theorem State.setB_evReq (s : State) (f : Fld) (b : Bool) : (s.setB f b).evReq = s.evReq := rfl
@[simp] theorem State.setB_shut (s : State) (f : Fld) (b : Bool) : (s.setB f b).shut = s.shut := rfl
@[simp] theorem State.setB_dueSwap (s : State) (f : Fld) (b : Bool) : (s.setB f b).dueSwap = s.dueSwap := rfl
@[simp] theorem State.setB_dueBurnish (s : State) (f : Fld) (b : Bool) : (s.setB f b).dueBurnish = s.dueBurnish := rfl
@[simp] theorem State.setB_dueCd (s : State) (f : Fld) (b : Bool) : (s.setB f b).dueCd = s.dueCd := rfl
@[simp] theorem State.setB_activity (s : State) (f : Fld) (b : Bool) : (s.setB f b).activity = s.activity := rfl
@[simp] theorem State.setB_deferWin (s : State) (f : Fld) (b : Bool) : (s.setB f b).deferWin = s.deferWin := rfl
@[simp] theorem State.setB_deferMask (s : State) (f : Fld) (b : Bool) : (s.setB f b).deferMask = s.deferMask := rfl
@[simp] theorem State.setB_feByp (s : State) (f : Fld) (b : Bool) : (s.setB f b).feByp = s.feByp := rfl
@[simp] theorem State.setB_was (s : State) (f : Fld) (b : Bool) : (s.setB f b).was = s.was := rfl
@[simp] theorem State.setB_answer (s : State) (f : Fld) (b : Bool) : (s.setB f b).answer = s.answer := rfl
@[simp] theorem State.setB_free (s : State) (f : Fld) (b : Bool) : (s.setB f b).free = s.free := rfl
@[simp] theorem State.setB_plate (s : State) (f : Fld) (b : Bool) : (s.setB f b).plate = s.plate := rfl
@[simp] theorem State.setB_mt (s : State) (f : Fld) (b : Bool) : (s.setB f b).mt = s.mt := rfl
@[simp] theorem State.setB_chans (s : State) (f : Fld) (b : Bool) : (s.setB f b).chans = s.chans := rfl
@[simp] theorem State.setB_dies (s : State) (f : Fld) (b : Bool) : (s.setB f b).dies = s.dies := rfl
@[simp] theorem State.setB_latch (s : State) (f : Fld) (b : Bool) : (s.setB f b).latch = s.latch := rfl
@[simp] theorem State.setB_clock (s : State) (f : Fld) (b : Bool) : (s.setB f b).clock = s.clock := rfl
@[simp] theorem State.setB_loadedAt (s : State) (f : Fld) (b : Bool) : (s.setB f b).loadedAt = s.loadedAt := rfl
@[simp] theorem State.setB_store (s : State) (f : Fld) (b : Bool) : (s.setB f b).store = s.store := rfl
@[simp] theorem State.setB_tg (s : State) (f : Fld) (b : Bool) : (s.setB f b).tg = s.tg := rfl
@[simp] theorem State.setB_rc (s : State) (f : Fld) (b : Bool) : (s.setB f b).rc = s.rc := rfl
@[simp] theorem State.setB_str (s : State) (f : Fld) (b : Bool) : (s.setB f b).str = s.str := rfl
@[simp] theorem State.setB_lanes (s : State) (f : Fld) (b : Bool) : (s.setB f b).lanes = s.lanes := rfl
@[simp] theorem State.setB_fb (s : State) (f : Fld) (b : Bool) : (s.setB f b).fb = s.fb := rfl
@[simp] theorem State.setB_prot (s : State) (f : Fld) (b : Bool) : (s.setB f b).prot = s.prot := rfl
@[simp] theorem State.setB_pwr (s : State) (f : Fld) (b : Bool) : (s.setB f b).pwr = s.pwr := rfl
@[simp] theorem State.setB_guard (s : State) (f : Fld) (b : Bool) : (s.setB f b).guard = s.guard := rfl
@[simp] theorem State.setB_tile (s : State) (f : Fld) (b : Bool) : (s.setB f b).tile = s.tile := rfl
@[simp] theorem State.setB_mg (s : State) (f : Fld) (b : Bool) : (s.setB f b).mg = s.mg := rfl
@[simp] theorem State.setB_svc (s : State) (f : Fld) (b : Bool) : (s.setB f b).svc = s.svc := rfl
@[simp] theorem State.setB_pending (s : State) (f : Fld) (b : Bool) : (s.setB f b).pending = s.pending := rfl

@[simp] theorem State.count_evReq (s : State) (f : Fld) (n : Nat) : (s.count f n).evReq = s.evReq := rfl
@[simp] theorem State.count_shut (s : State) (f : Fld) (n : Nat) : (s.count f n).shut = s.shut := rfl
@[simp] theorem State.count_dueSwap (s : State) (f : Fld) (n : Nat) : (s.count f n).dueSwap = s.dueSwap := rfl
@[simp] theorem State.count_dueBurnish (s : State) (f : Fld) (n : Nat) : (s.count f n).dueBurnish = s.dueBurnish := rfl
@[simp] theorem State.count_dueCd (s : State) (f : Fld) (n : Nat) : (s.count f n).dueCd = s.dueCd := rfl
@[simp] theorem State.count_activity (s : State) (f : Fld) (n : Nat) : (s.count f n).activity = s.activity := rfl
@[simp] theorem State.count_deferWin (s : State) (f : Fld) (n : Nat) : (s.count f n).deferWin = s.deferWin := rfl
@[simp] theorem State.count_deferMask (s : State) (f : Fld) (n : Nat) : (s.count f n).deferMask = s.deferMask := rfl
@[simp] theorem State.count_feByp (s : State) (f : Fld) (n : Nat) : (s.count f n).feByp = s.feByp := rfl
@[simp] theorem State.count_was (s : State) (f : Fld) (n : Nat) : (s.count f n).was = s.was := rfl
@[simp] theorem State.count_answer (s : State) (f : Fld) (n : Nat) : (s.count f n).answer = s.answer := rfl
@[simp] theorem State.count_free (s : State) (f : Fld) (n : Nat) : (s.count f n).free = s.free := rfl
@[simp] theorem State.count_plate (s : State) (f : Fld) (n : Nat) : (s.count f n).plate = s.plate := rfl
@[simp] theorem State.count_mt (s : State) (f : Fld) (n : Nat) : (s.count f n).mt = s.mt := rfl
@[simp] theorem State.count_chans (s : State) (f : Fld) (n : Nat) : (s.count f n).chans = s.chans := rfl
@[simp] theorem State.count_dies (s : State) (f : Fld) (n : Nat) : (s.count f n).dies = s.dies := rfl
@[simp] theorem State.count_latch (s : State) (f : Fld) (n : Nat) : (s.count f n).latch = s.latch := rfl
@[simp] theorem State.count_clock (s : State) (f : Fld) (n : Nat) : (s.count f n).clock = s.clock := rfl
@[simp] theorem State.count_loadedAt (s : State) (f : Fld) (n : Nat) : (s.count f n).loadedAt = s.loadedAt := rfl
@[simp] theorem State.count_store (s : State) (f : Fld) (n : Nat) : (s.count f n).store = s.store := rfl
@[simp] theorem State.count_tg (s : State) (f : Fld) (n : Nat) : (s.count f n).tg = s.tg := rfl
@[simp] theorem State.count_rc (s : State) (f : Fld) (n : Nat) : (s.count f n).rc = s.rc := rfl
@[simp] theorem State.count_str (s : State) (f : Fld) (n : Nat) : (s.count f n).str = s.str := rfl
@[simp] theorem State.count_lanes (s : State) (f : Fld) (n : Nat) : (s.count f n).lanes = s.lanes := rfl
@[simp] theorem State.count_fb (s : State) (f : Fld) (n : Nat) : (s.count f n).fb = s.fb := rfl
@[simp] theorem State.count_prot (s : State) (f : Fld) (n : Nat) : (s.count f n).prot = s.prot := rfl
@[simp] theorem State.count_pwr (s : State) (f : Fld) (n : Nat) : (s.count f n).pwr = s.pwr := rfl
@[simp] theorem State.count_guard (s : State) (f : Fld) (n : Nat) : (s.count f n).guard = s.guard := rfl
@[simp] theorem State.count_tile (s : State) (f : Fld) (n : Nat) : (s.count f n).tile = s.tile := rfl
@[simp] theorem State.count_mg (s : State) (f : Fld) (n : Nat) : (s.count f n).mg = s.mg := rfl
@[simp] theorem State.count_svc (s : State) (f : Fld) (n : Nat) : (s.count f n).svc = s.svc := rfl
@[simp] theorem State.count_pending (s : State) (f : Fld) (n : Nat) : (s.count f n).pending = s.pending := rfl

@[simp] theorem State.raise_shut (s : State) (src arg : Nat) : (s.raise src arg).shut = s.shut := by
  unfold State.raise; split <;> rfl
@[simp] theorem State.raise_dueSwap (s : State) (src arg : Nat) : (s.raise src arg).dueSwap = s.dueSwap := by
  unfold State.raise; split <;> rfl
@[simp] theorem State.raise_dueBurnish (s : State) (src arg : Nat) : (s.raise src arg).dueBurnish = s.dueBurnish := by
  unfold State.raise; split <;> rfl
@[simp] theorem State.raise_dueCd (s : State) (src arg : Nat) : (s.raise src arg).dueCd = s.dueCd := by
  unfold State.raise; split <;> rfl
@[simp] theorem State.raise_activity (s : State) (src arg : Nat) : (s.raise src arg).activity = s.activity := by
  unfold State.raise; split <;> rfl
@[simp] theorem State.raise_deferWin (s : State) (src arg : Nat) : (s.raise src arg).deferWin = s.deferWin := by
  unfold State.raise; split <;> rfl
@[simp] theorem State.raise_deferMask (s : State) (src arg : Nat) : (s.raise src arg).deferMask = s.deferMask := by
  unfold State.raise; split <;> rfl
@[simp] theorem State.raise_feByp (s : State) (src arg : Nat) : (s.raise src arg).feByp = s.feByp := by
  unfold State.raise; split <;> rfl
@[simp] theorem State.raise_was (s : State) (src arg : Nat) : (s.raise src arg).was = s.was := by
  unfold State.raise; split <;> rfl
@[simp] theorem State.raise_answer (s : State) (src arg : Nat) : (s.raise src arg).answer = s.answer := by
  unfold State.raise; split <;> rfl
@[simp] theorem State.raise_free (s : State) (src arg : Nat) : (s.raise src arg).free = s.free := by
  unfold State.raise; split <;> rfl
@[simp] theorem State.raise_plate (s : State) (src arg : Nat) : (s.raise src arg).plate = s.plate := by
  unfold State.raise; split <;> rfl
@[simp] theorem State.raise_mt (s : State) (src arg : Nat) : (s.raise src arg).mt = s.mt := by
  unfold State.raise; split <;> rfl
@[simp] theorem State.raise_chans (s : State) (src arg : Nat) : (s.raise src arg).chans = s.chans := by
  unfold State.raise; split <;> rfl
@[simp] theorem State.raise_dies (s : State) (src arg : Nat) : (s.raise src arg).dies = s.dies := by
  unfold State.raise; split <;> rfl
@[simp] theorem State.raise_latch (s : State) (src arg : Nat) : (s.raise src arg).latch = s.latch := by
  unfold State.raise; split <;> rfl
@[simp] theorem State.raise_clock (s : State) (src arg : Nat) : (s.raise src arg).clock = s.clock := by
  unfold State.raise; split <;> rfl
@[simp] theorem State.raise_loadedAt (s : State) (src arg : Nat) : (s.raise src arg).loadedAt = s.loadedAt := by
  unfold State.raise; split <;> rfl
@[simp] theorem State.raise_store (s : State) (src arg : Nat) : (s.raise src arg).store = s.store := by
  unfold State.raise; split <;> rfl
@[simp] theorem State.raise_tg (s : State) (src arg : Nat) : (s.raise src arg).tg = s.tg := by
  unfold State.raise; split <;> rfl
@[simp] theorem State.raise_rc (s : State) (src arg : Nat) : (s.raise src arg).rc = s.rc := by
  unfold State.raise; split <;> rfl
@[simp] theorem State.raise_str (s : State) (src arg : Nat) : (s.raise src arg).str = s.str := by
  unfold State.raise; split <;> rfl
@[simp] theorem State.raise_lanes (s : State) (src arg : Nat) : (s.raise src arg).lanes = s.lanes := by
  unfold State.raise; split <;> rfl
@[simp] theorem State.raise_fb (s : State) (src arg : Nat) : (s.raise src arg).fb = s.fb := by
  unfold State.raise; split <;> rfl
@[simp] theorem State.raise_prot (s : State) (src arg : Nat) : (s.raise src arg).prot = s.prot := by
  unfold State.raise; split <;> rfl
@[simp] theorem State.raise_pwr (s : State) (src arg : Nat) : (s.raise src arg).pwr = s.pwr := by
  unfold State.raise; split <;> rfl
@[simp] theorem State.raise_guard (s : State) (src arg : Nat) : (s.raise src arg).guard = s.guard := by
  unfold State.raise; split <;> rfl
@[simp] theorem State.raise_tile (s : State) (src arg : Nat) : (s.raise src arg).tile = s.tile := by
  unfold State.raise; split <;> rfl
@[simp] theorem State.raise_mg (s : State) (src arg : Nat) : (s.raise src arg).mg = s.mg := by
  unfold State.raise; split <;> rfl
@[simp] theorem State.raise_svc (s : State) (src arg : Nat) : (s.raise src arg).svc = s.svc := by
  unfold State.raise; split <;> rfl
@[simp] theorem State.raise_pending (s : State) (src arg : Nat) : (s.raise src arg).pending = s.pending := by
  unfold State.raise; split <;> rfl

@[simp] theorem State.flag_shut (s : State) (f : Fld) (src arg : Nat) : (s.flag f src arg).shut = s.shut := by
  unfold State.flag; split <;> simp
@[simp] theorem State.flag_dueSwap (s : State) (f : Fld) (src arg : Nat) : (s.flag f src arg).dueSwap = s.dueSwap := by
  unfold State.flag; split <;> simp
@[simp] theorem State.flag_dueBurnish (s : State) (f : Fld) (src arg : Nat) : (s.flag f src arg).dueBurnish = s.dueBurnish := by
  unfold State.flag; split <;> simp
@[simp] theorem State.flag_dueCd (s : State) (f : Fld) (src arg : Nat) : (s.flag f src arg).dueCd = s.dueCd := by
  unfold State.flag; split <;> simp
@[simp] theorem State.flag_activity (s : State) (f : Fld) (src arg : Nat) : (s.flag f src arg).activity = s.activity := by
  unfold State.flag; split <;> simp
@[simp] theorem State.flag_deferWin (s : State) (f : Fld) (src arg : Nat) : (s.flag f src arg).deferWin = s.deferWin := by
  unfold State.flag; split <;> simp
@[simp] theorem State.flag_deferMask (s : State) (f : Fld) (src arg : Nat) : (s.flag f src arg).deferMask = s.deferMask := by
  unfold State.flag; split <;> simp
@[simp] theorem State.flag_feByp (s : State) (f : Fld) (src arg : Nat) : (s.flag f src arg).feByp = s.feByp := by
  unfold State.flag; split <;> simp
@[simp] theorem State.flag_was (s : State) (f : Fld) (src arg : Nat) : (s.flag f src arg).was = s.was := by
  unfold State.flag; split <;> simp
@[simp] theorem State.flag_answer (s : State) (f : Fld) (src arg : Nat) : (s.flag f src arg).answer = s.answer := by
  unfold State.flag; split <;> simp
@[simp] theorem State.flag_free (s : State) (f : Fld) (src arg : Nat) : (s.flag f src arg).free = s.free := by
  unfold State.flag; split <;> simp
@[simp] theorem State.flag_plate (s : State) (f : Fld) (src arg : Nat) : (s.flag f src arg).plate = s.plate := by
  unfold State.flag; split <;> simp
@[simp] theorem State.flag_mt (s : State) (f : Fld) (src arg : Nat) : (s.flag f src arg).mt = s.mt := by
  unfold State.flag; split <;> simp
@[simp] theorem State.flag_chans (s : State) (f : Fld) (src arg : Nat) : (s.flag f src arg).chans = s.chans := by
  unfold State.flag; split <;> simp
@[simp] theorem State.flag_dies (s : State) (f : Fld) (src arg : Nat) : (s.flag f src arg).dies = s.dies := by
  unfold State.flag; split <;> simp
@[simp] theorem State.flag_latch (s : State) (f : Fld) (src arg : Nat) : (s.flag f src arg).latch = s.latch := by
  unfold State.flag; split <;> simp
@[simp] theorem State.flag_clock (s : State) (f : Fld) (src arg : Nat) : (s.flag f src arg).clock = s.clock := by
  unfold State.flag; split <;> simp
@[simp] theorem State.flag_loadedAt (s : State) (f : Fld) (src arg : Nat) : (s.flag f src arg).loadedAt = s.loadedAt := by
  unfold State.flag; split <;> simp
@[simp] theorem State.flag_store (s : State) (f : Fld) (src arg : Nat) : (s.flag f src arg).store = s.store := by
  unfold State.flag; split <;> simp
@[simp] theorem State.flag_tg (s : State) (f : Fld) (src arg : Nat) : (s.flag f src arg).tg = s.tg := by
  unfold State.flag; split <;> simp
@[simp] theorem State.flag_rc (s : State) (f : Fld) (src arg : Nat) : (s.flag f src arg).rc = s.rc := by
  unfold State.flag; split <;> simp
@[simp] theorem State.flag_str (s : State) (f : Fld) (src arg : Nat) : (s.flag f src arg).str = s.str := by
  unfold State.flag; split <;> simp
@[simp] theorem State.flag_lanes (s : State) (f : Fld) (src arg : Nat) : (s.flag f src arg).lanes = s.lanes := by
  unfold State.flag; split <;> simp
@[simp] theorem State.flag_fb (s : State) (f : Fld) (src arg : Nat) : (s.flag f src arg).fb = s.fb := by
  unfold State.flag; split <;> simp
@[simp] theorem State.flag_prot (s : State) (f : Fld) (src arg : Nat) : (s.flag f src arg).prot = s.prot := by
  unfold State.flag; split <;> simp
@[simp] theorem State.flag_pwr (s : State) (f : Fld) (src arg : Nat) : (s.flag f src arg).pwr = s.pwr := by
  unfold State.flag; split <;> simp
@[simp] theorem State.flag_guard (s : State) (f : Fld) (src arg : Nat) : (s.flag f src arg).guard = s.guard := by
  unfold State.flag; split <;> simp
@[simp] theorem State.flag_tile (s : State) (f : Fld) (src arg : Nat) : (s.flag f src arg).tile = s.tile := by
  unfold State.flag; split <;> simp
@[simp] theorem State.flag_mg (s : State) (f : Fld) (src arg : Nat) : (s.flag f src arg).mg = s.mg := by
  unfold State.flag; split <;> simp
@[simp] theorem State.flag_svc (s : State) (f : Fld) (src arg : Nat) : (s.flag f src arg).svc = s.svc := by
  unfold State.flag; split <;> simp
@[simp] theorem State.flag_pending (s : State) (f : Fld) (src arg : Nat) : (s.flag f src arg).pending = s.pending := by
  unfold State.flag; split <;> simp

/-! Fields: a change of another component leaves them. -/

@[simp] theorem State.get_with_evReq (s : State) (x : List (Nat × Nat)) (f : Fld) : State.get { s with evReq := x } f = s.get f := rfl
@[simp] theorem State.get_with_shut (s : State) (x : List ShutFn) (f : Fld) : State.get { s with shut := x } f = s.get f := rfl
@[simp] theorem State.get_with_dueSwap (s : State) (x : Bool) (f : Fld) : State.get { s with dueSwap := x } f = s.get f := rfl
@[simp] theorem State.get_with_dueBurnish (s : State) (x : List Nat) (f : Fld) : State.get { s with dueBurnish := x } f = s.get f := rfl
@[simp] theorem State.get_with_dueCd (s : State) (x : List (Nat × Nat)) (f : Fld) : State.get { s with dueCd := x } f = s.get f := rfl
@[simp] theorem State.get_with_activity (s : State) (x : Option Nat) (f : Fld) : State.get { s with activity := x } f = s.get f := rfl
@[simp] theorem State.get_with_deferWin (s : State) (x : Nat × Nat) (f : Fld) : State.get { s with deferWin := x } f = s.get f := rfl
@[simp] theorem State.get_with_deferMask (s : State) (x : Nat) (f : Fld) : State.get { s with deferMask := x } f = s.get f := rfl
@[simp] theorem State.get_with_feByp (s : State) (x : List (Nat × Span)) (f : Fld) : State.get { s with feByp := x } f = s.get f := rfl
@[simp] theorem State.get_with_was (s : State) (x : List Was) (f : Fld) : State.get { s with was := x } f = s.get f := rfl
@[simp] theorem State.get_with_answer (s : State) (x : Nat × Nat) (f : Fld) : State.get { s with answer := x } f = s.get f := rfl
@[simp] theorem State.get_with_free (s : State) (x : Nat) (f : Fld) : State.get { s with free := x } f = s.get f := rfl
@[simp] theorem State.get_with_plate (s : State) (x : Plate) (f : Fld) : State.get { s with plate := x } f = s.get f := rfl
@[simp] theorem State.get_with_mt (s : State) (x : Mt) (f : Fld) : State.get { s with mt := x } f = s.get f := rfl
@[simp] theorem State.get_with_chans (s : State) (x : List (Nat × Chan)) (f : Fld) : State.get { s with chans := x } f = s.get f := rfl
@[simp] theorem State.get_with_dies (s : State) (x : List (Nat × FeDie)) (f : Fld) : State.get { s with dies := x } f = s.get f := rfl
@[simp] theorem State.get_with_latch (s : State) (x : List (Nat × Nat)) (f : Fld) : State.get { s with latch := x } f = s.get f := rfl
@[simp] theorem State.get_with_clock (s : State) (x : Nat) (f : Fld) : State.get { s with clock := x } f = s.get f := rfl
@[simp] theorem State.get_with_loadedAt (s : State) (x : Nat) (f : Fld) : State.get { s with loadedAt := x } f = s.get f := rfl
@[simp] theorem State.get_with_store (s : State) (x : Store) (f : Fld) : State.get { s with store := x } f = s.get f := rfl
@[simp] theorem State.get_with_tg (s : State) (x : Tg) (f : Fld) : State.get { s with tg := x } f = s.get f := rfl
@[simp] theorem State.get_with_rc (s : State) (x : Rc) (f : Fld) : State.get { s with rc := x } f = s.get f := rfl
@[simp] theorem State.get_with_str (s : State) (x : Str) (f : Fld) : State.get { s with str := x } f = s.get f := rfl
@[simp] theorem State.get_with_lanes (s : State) (x : List (Nat × Lane)) (f : Fld) : State.get { s with lanes := x } f = s.get f := rfl
@[simp] theorem State.get_with_fb (s : State) (x : Fb) (f : Fld) : State.get { s with fb := x } f = s.get f := rfl
@[simp] theorem State.get_with_prot (s : State) (x : Prot) (f : Fld) : State.get { s with prot := x } f = s.get f := rfl
@[simp] theorem State.get_with_pwr (s : State) (x : Pwr) (f : Fld) : State.get { s with pwr := x } f = s.get f := rfl
@[simp] theorem State.get_with_guard (s : State) (x : Guard) (f : Fld) : State.get { s with guard := x } f = s.get f := rfl
@[simp] theorem State.get_with_tile (s : State) (x : Tile) (f : Fld) : State.get { s with tile := x } f = s.get f := rfl
@[simp] theorem State.get_with_mg (s : State) (x : Mgmt) (f : Fld) : State.get { s with mg := x } f = s.get f := rfl
@[simp] theorem State.get_with_svc (s : State) (x : Svc) (f : Fld) : State.get { s with svc := x } f = s.get f := rfl
@[simp] theorem State.get_with_pending (s : State) (x : List Instr) (f : Fld) : State.get { s with pending := x } f = s.get f := rfl

/-! ## Written values that come into force later -/

@[simp] theorem State.keepOld_get (s : State) (fs : List Fld) (d : Nat) (f : Fld) : (s.keepOld fs d).get f = s.get f := by
  unfold State.keepOld; split <;> rfl
@[simp] theorem State.keepOldFe_get (s : State) (fs : List Fld) (f : Fld) : (s.keepOldFe fs).get f = s.get f := by
  unfold State.keepOldFe; split
  · simp [State.draw]
  · rfl

/-- With no write still to come into force, the value in force is the one the register holds. -/
theorem State.asOf_settled {s : State} (h : s.was = []) (t : Nat) (f : Fld) : s.asOf t f = s.get f := by
  simp [State.asOf, h]

end Sys2Proof.Machine
end

