-- ==== Sys2Proof/Laws/Frame.lean ====
section
/-! SUPPORT. Frames are kept by each write of a field or part they name. -/

namespace Sys2Proof.Machine

theorem Frame.refl (ps : List Part) (fs : List Fld) (s : State) : Frame ps fs s s :=
  ⟨fun p _ => by cases p <;> rfl, fun _ _ => rfl, rfl⟩

theorem Frame.set {ps : List Part} {fs : List Fld} {s t : State} (h : Frame ps fs s t) (f : Fld) (v : Nat)
    (hf : f.key ∈ fs.map Fld.key) : Frame ps fs s (t.set f v) := by
  refine ⟨fun p hp => ?_, fun g hg => ?_, h.queue⟩
  · have := h.parts p hp
    cases p <;> exact this
  · have hk : g.key ≠ f.key := fun e => hg (e ▸ hf)
    exact (State.get_set_ne t hk v).trans (h.fields g hg)

theorem Frame.count {ps : List Part} {fs : List Fld} {s t : State} (h : Frame ps fs s t) (f : Fld) (n : Nat)
    (hf : f.key ∈ fs.map Fld.key) : Frame ps fs s (t.count f n) := h.set f _ hf

theorem Frame.countWrap {ps : List Part} {fs : List Fld} {s t : State} (h : Frame ps fs s t) (f : Fld)
    (hf : f.key ∈ fs.map Fld.key) : Frame ps fs s (t.countWrap f) := h.set f _ hf

theorem Frame.setB {ps : List Part} {fs : List Fld} {s t : State} (h : Frame ps fs s t) (f : Fld) (b : Bool)
    (hf : f.key ∈ fs.map Fld.key) : Frame ps fs s (t.setB f b) := h.set f _ hf

theorem Frame.raise {ps : List Part} {fs : List Fld} {s t : State} (h : Frame ps fs s t) (src arg : Nat)
    (hp : Part.evReq ∈ ps) (hf : MG_EVLOG_merged.key ∈ fs.map Fld.key) : Frame ps fs s (t.raise src arg) := by
  unfold State.raise
  split
  · exact h.count _ _ hf
  · refine ⟨fun p hq => ?_, h.fields, h.queue⟩
    have := h.parts p hq
    cases p <;> first | exact this | exact absurd hp hq

theorem Frame.flag {ps : List Part} {fs : List Fld} {s t : State} (h : Frame ps fs s t) (f : Fld) (src arg : Nat)
    (hp : Part.evReq ∈ ps) (hf : MG_EVLOG_merged.key ∈ fs.map Fld.key) (hg : f.key ∈ fs.map Fld.key) :
    Frame ps fs s (t.flag f src arg) := by
  unfold State.flag
  split
  · exact h
  · exact (h.set f 1 hg).raise _ _ hp hf

theorem Frame.iff {ps : List Part} {fs : List Fld} {s t : State} {b : Bool} {g : State → State}
    (h : Frame ps fs s t) (hg : ∀ u, Frame ps fs s u → Frame ps fs s (g u)) : Frame ps fs s (t.iff b g) := by
  unfold State.iff
  split
  · exact hg t h
  · exact h

theorem Frame.ite {ps : List Part} {fs : List Fld} {s t u : State} {c : Prop} [Decidable c]
    (h : Frame ps fs s t) (h' : Frame ps fs s u) : Frame ps fs s (if c then t else u) := by
  split
  · exact h
  · exact h'

theorem Frame.each {α : Type} {ps : List Part} {fs : List Fld} {s t : State} {l : List α} {f : State → α → State}
    (h : Frame ps fs s t) (hf : ∀ u a, a ∈ l → Frame ps fs s u → Frame ps fs s (f u a)) : Frame ps fs s (t.each l f) := by
  induction l generalizing t with
  | nil => exact h
  | cons a l ih => exact ih (hf t a (by simp) h) fun u b hb hu => hf u b (by simp [hb]) hu

theorem Frame.with_evReq {ps : List Part} {fs : List Fld} {s t : State} (h : Frame ps fs s t) (x : List (Nat × Nat))
    (hp : Part.evReq ∈ ps) : Frame ps fs s { t with evReq := x } := by
  refine ⟨fun p hq => ?_, h.fields, h.queue⟩
  have := h.parts p hq
  cases p <;> first | exact this | exact absurd hp hq

theorem Frame.with_shut {ps : List Part} {fs : List Fld} {s t : State} (h : Frame ps fs s t) (x : List ShutFn)
    (hp : Part.shut ∈ ps) : Frame ps fs s { t with shut := x } := by
  refine ⟨fun p hq => ?_, h.fields, h.queue⟩
  have := h.parts p hq
  cases p <;> first | exact this | exact absurd hp hq

theorem Frame.with_dueSwap {ps : List Part} {fs : List Fld} {s t : State} (h : Frame ps fs s t) (x : Bool)
    (hp : Part.dueSwap ∈ ps) : Frame ps fs s { t with dueSwap := x } := by
  refine ⟨fun p hq => ?_, h.fields, h.queue⟩
  have := h.parts p hq
  cases p <;> first | exact this | exact absurd hp hq

theorem Frame.with_dueBurnish {ps : List Part} {fs : List Fld} {s t : State} (h : Frame ps fs s t) (x : List Nat)
    (hp : Part.dueBurnish ∈ ps) : Frame ps fs s { t with dueBurnish := x } := by
  refine ⟨fun p hq => ?_, h.fields, h.queue⟩
  have := h.parts p hq
  cases p <;> first | exact this | exact absurd hp hq

theorem Frame.with_dueCd {ps : List Part} {fs : List Fld} {s t : State} (h : Frame ps fs s t) (x : List (Nat × Nat))
    (hp : Part.dueCd ∈ ps) : Frame ps fs s { t with dueCd := x } := by
  refine ⟨fun p hq => ?_, h.fields, h.queue⟩
  have := h.parts p hq
  cases p <;> first | exact this | exact absurd hp hq

theorem Frame.with_activity {ps : List Part} {fs : List Fld} {s t : State} (h : Frame ps fs s t) (x : Option Nat)
    (hp : Part.activity ∈ ps) : Frame ps fs s { t with activity := x } := by
  refine ⟨fun p hq => ?_, h.fields, h.queue⟩
  have := h.parts p hq
  cases p <;> first | exact this | exact absurd hp hq

theorem Frame.with_deferWin {ps : List Part} {fs : List Fld} {s t : State} (h : Frame ps fs s t) (x : Nat × Nat)
    (hp : Part.deferWin ∈ ps) : Frame ps fs s { t with deferWin := x } := by
  refine ⟨fun p hq => ?_, h.fields, h.queue⟩
  have := h.parts p hq
  cases p <;> first | exact this | exact absurd hp hq

theorem Frame.with_deferMask {ps : List Part} {fs : List Fld} {s t : State} (h : Frame ps fs s t) (x : Nat)
    (hp : Part.deferMask ∈ ps) : Frame ps fs s { t with deferMask := x } := by
  refine ⟨fun p hq => ?_, h.fields, h.queue⟩
  have := h.parts p hq
  cases p <;> first | exact this | exact absurd hp hq

theorem Frame.with_feByp {ps : List Part} {fs : List Fld} {s t : State} (h : Frame ps fs s t) (x : List (Nat × Span))
    (hp : Part.feByp ∈ ps) : Frame ps fs s { t with feByp := x } := by
  refine ⟨fun p hq => ?_, h.fields, h.queue⟩
  have := h.parts p hq
  cases p <;> first | exact this | exact absurd hp hq

theorem Frame.with_was {ps : List Part} {fs : List Fld} {s t : State} (h : Frame ps fs s t) (x : List Was)
    (hp : Part.was ∈ ps) : Frame ps fs s { t with was := x } := by
  refine ⟨fun p hq => ?_, h.fields, h.queue⟩
  have := h.parts p hq
  cases p <;> first | exact this | exact absurd hp hq

theorem Frame.with_answer {ps : List Part} {fs : List Fld} {s t : State} (h : Frame ps fs s t) (x : Nat × Nat)
    (hp : Part.answer ∈ ps) : Frame ps fs s { t with answer := x } := by
  refine ⟨fun p hq => ?_, h.fields, h.queue⟩
  have := h.parts p hq
  cases p <;> first | exact this | exact absurd hp hq

theorem Frame.with_free {ps : List Part} {fs : List Fld} {s t : State} (h : Frame ps fs s t) (x : Nat)
    (hp : Part.free ∈ ps) : Frame ps fs s { t with free := x } := by
  refine ⟨fun p hq => ?_, h.fields, h.queue⟩
  have := h.parts p hq
  cases p <;> first | exact this | exact absurd hp hq

theorem Frame.with_plate {ps : List Part} {fs : List Fld} {s t : State} (h : Frame ps fs s t) (x : Plate)
    (hp : Part.plate ∈ ps) : Frame ps fs s { t with plate := x } := by
  refine ⟨fun p hq => ?_, h.fields, h.queue⟩
  have := h.parts p hq
  cases p <;> first | exact this | exact absurd hp hq

theorem Frame.with_mt {ps : List Part} {fs : List Fld} {s t : State} (h : Frame ps fs s t) (x : Mt)
    (hp : Part.mt ∈ ps) : Frame ps fs s { t with mt := x } := by
  refine ⟨fun p hq => ?_, h.fields, h.queue⟩
  have := h.parts p hq
  cases p <;> first | exact this | exact absurd hp hq

theorem Frame.with_chans {ps : List Part} {fs : List Fld} {s t : State} (h : Frame ps fs s t) (x : List (Nat × Chan))
    (hp : Part.chans ∈ ps) : Frame ps fs s { t with chans := x } := by
  refine ⟨fun p hq => ?_, h.fields, h.queue⟩
  have := h.parts p hq
  cases p <;> first | exact this | exact absurd hp hq

theorem Frame.with_dies {ps : List Part} {fs : List Fld} {s t : State} (h : Frame ps fs s t) (x : List (Nat × FeDie))
    (hp : Part.dies ∈ ps) : Frame ps fs s { t with dies := x } := by
  refine ⟨fun p hq => ?_, h.fields, h.queue⟩
  have := h.parts p hq
  cases p <;> first | exact this | exact absurd hp hq

theorem Frame.with_latch {ps : List Part} {fs : List Fld} {s t : State} (h : Frame ps fs s t) (x : List (Nat × Nat))
    (hp : Part.latch ∈ ps) : Frame ps fs s { t with latch := x } := by
  refine ⟨fun p hq => ?_, h.fields, h.queue⟩
  have := h.parts p hq
  cases p <;> first | exact this | exact absurd hp hq

theorem Frame.with_clock {ps : List Part} {fs : List Fld} {s t : State} (h : Frame ps fs s t) (x : Nat)
    (hp : Part.clock ∈ ps) : Frame ps fs s { t with clock := x } := by
  refine ⟨fun p hq => ?_, h.fields, h.queue⟩
  have := h.parts p hq
  cases p <;> first | exact this | exact absurd hp hq

theorem Frame.with_loadedAt {ps : List Part} {fs : List Fld} {s t : State} (h : Frame ps fs s t) (x : Nat)
    (hp : Part.loadedAt ∈ ps) : Frame ps fs s { t with loadedAt := x } := by
  refine ⟨fun p hq => ?_, h.fields, h.queue⟩
  have := h.parts p hq
  cases p <;> first | exact this | exact absurd hp hq

theorem Frame.with_store {ps : List Part} {fs : List Fld} {s t : State} (h : Frame ps fs s t) (x : Store)
    (hp : Part.store ∈ ps) : Frame ps fs s { t with store := x } := by
  refine ⟨fun p hq => ?_, h.fields, h.queue⟩
  have := h.parts p hq
  cases p <;> first | exact this | exact absurd hp hq

theorem Frame.with_tg {ps : List Part} {fs : List Fld} {s t : State} (h : Frame ps fs s t) (x : Tg)
    (hp : Part.tg ∈ ps) : Frame ps fs s { t with tg := x } := by
  refine ⟨fun p hq => ?_, h.fields, h.queue⟩
  have := h.parts p hq
  cases p <;> first | exact this | exact absurd hp hq

theorem Frame.with_rc {ps : List Part} {fs : List Fld} {s t : State} (h : Frame ps fs s t) (x : Rc)
    (hp : Part.rc ∈ ps) : Frame ps fs s { t with rc := x } := by
  refine ⟨fun p hq => ?_, h.fields, h.queue⟩
  have := h.parts p hq
  cases p <;> first | exact this | exact absurd hp hq

theorem Frame.with_str {ps : List Part} {fs : List Fld} {s t : State} (h : Frame ps fs s t) (x : Str)
    (hp : Part.str ∈ ps) : Frame ps fs s { t with str := x } := by
  refine ⟨fun p hq => ?_, h.fields, h.queue⟩
  have := h.parts p hq
  cases p <;> first | exact this | exact absurd hp hq

theorem Frame.with_lanes {ps : List Part} {fs : List Fld} {s t : State} (h : Frame ps fs s t) (x : List (Nat × Lane))
    (hp : Part.lanes ∈ ps) : Frame ps fs s { t with lanes := x } := by
  refine ⟨fun p hq => ?_, h.fields, h.queue⟩
  have := h.parts p hq
  cases p <;> first | exact this | exact absurd hp hq

theorem Frame.with_fb {ps : List Part} {fs : List Fld} {s t : State} (h : Frame ps fs s t) (x : Fb)
    (hp : Part.fb ∈ ps) : Frame ps fs s { t with fb := x } := by
  refine ⟨fun p hq => ?_, h.fields, h.queue⟩
  have := h.parts p hq
  cases p <;> first | exact this | exact absurd hp hq

theorem Frame.with_prot {ps : List Part} {fs : List Fld} {s t : State} (h : Frame ps fs s t) (x : Prot)
    (hp : Part.prot ∈ ps) : Frame ps fs s { t with prot := x } := by
  refine ⟨fun p hq => ?_, h.fields, h.queue⟩
  have := h.parts p hq
  cases p <;> first | exact this | exact absurd hp hq

theorem Frame.with_pwr {ps : List Part} {fs : List Fld} {s t : State} (h : Frame ps fs s t) (x : Pwr)
    (hp : Part.pwr ∈ ps) : Frame ps fs s { t with pwr := x } := by
  refine ⟨fun p hq => ?_, h.fields, h.queue⟩
  have := h.parts p hq
  cases p <;> first | exact this | exact absurd hp hq

theorem Frame.with_guard {ps : List Part} {fs : List Fld} {s t : State} (h : Frame ps fs s t) (x : Guard)
    (hp : Part.guard ∈ ps) : Frame ps fs s { t with guard := x } := by
  refine ⟨fun p hq => ?_, h.fields, h.queue⟩
  have := h.parts p hq
  cases p <;> first | exact this | exact absurd hp hq

theorem Frame.with_tile {ps : List Part} {fs : List Fld} {s t : State} (h : Frame ps fs s t) (x : Tile)
    (hp : Part.tile ∈ ps) : Frame ps fs s { t with tile := x } := by
  refine ⟨fun p hq => ?_, h.fields, h.queue⟩
  have := h.parts p hq
  cases p <;> first | exact this | exact absurd hp hq

theorem Frame.with_mg {ps : List Part} {fs : List Fld} {s t : State} (h : Frame ps fs s t) (x : Mgmt)
    (hp : Part.mg ∈ ps) : Frame ps fs s { t with mg := x } := by
  refine ⟨fun p hq => ?_, h.fields, h.queue⟩
  have := h.parts p hq
  cases p <;> first | exact this | exact absurd hp hq

theorem Frame.with_svc {ps : List Part} {fs : List Fld} {s t : State} (h : Frame ps fs s t) (x : Svc)
    (hp : Part.svc ∈ ps) : Frame ps fs s { t with svc := x } := by
  refine ⟨fun p hq => ?_, h.fields, h.queue⟩
  have := h.parts p hq
  cases p <;> first | exact this | exact absurd hp hq

theorem Frame.keepOld {ps : List Part} {fs : List Fld} {s t : State} (h : Frame ps fs s t) (gs : List Fld) (d : Nat)
    (hp : Part.was ∈ ps) : Frame ps fs s (t.keepOld gs d) := by
  unfold State.keepOld; split
  · exact h.with_was _ hp
  · exact h

end Sys2Proof.Machine
end

