-- ==== Sys2Proof/Laws/Kept.lean ====
section
/-! SUPPORT. What no command disturbs: the queue of waiting commands and the canonical form of the state. -/

namespace Sys2Proof.Machine

open Sys2Proof

/-- `t` comes from `s` with the same queue, and is canonical if `s` is. -/
structure Kept (s t : State) : Prop where
  pending : t.pending = s.pending
  canonical : s.canonical = true → t.canonical = true

theorem Kept.refl (s : State) : Kept s s := ⟨rfl, id⟩

/-- The parts that a change beside the fields must keep in form. -/
structure Forms (s : State) (evReq latch : List (Nat × Nat)) (plate : Plate) (store : Store) (mg : Mgmt) : Prop where
  evReq : Sparse.sorted s.evReq = true → Sparse.sorted evReq = true
  latch : Sparse.wf 0 s.latch = true → Sparse.wf 0 latch = true
  mem : Sparse.wf 0 s.plate.mem = true → Sparse.wf 0 plate.mem = true
  stage : Sparse.wf 0 s.plate.stage = true → Sparse.wf 0 plate.stage = true
  shadow : Sparse.wf 0 s.plate.shadow = true → Sparse.wf 0 plate.shadow = true
  entries : Sparse.wf 0 s.store.entries = true → Sparse.wf 0 store.entries = true
  links : Sparse.wf 0 s.store.links = true → Sparse.wf 0 store.links = true
  iram : Sparse.wf 0 s.mg.iram = true → Sparse.wf 0 mg.iram = true
  dram : Sparse.wf 0 s.mg.dram = true → Sparse.wf 0 mg.dram = true

theorem State.canonical_iff (s : State) : s.canonical = true ↔
    Sparse.sorted s.csr = true ∧ Sparse.sorted s.evReq = true ∧ Sparse.wf 0 s.plate.mem = true ∧
    Sparse.wf 0 s.plate.stage = true ∧ Sparse.wf 0 s.plate.shadow = true ∧ Sparse.wf 0 s.latch = true ∧
    Sparse.wf 0 s.store.entries = true ∧ Sparse.wf 0 s.store.links = true ∧ Sparse.wf 0 s.mg.iram = true ∧
    Sparse.wf 0 s.mg.dram = true := by
  simp only [State.canonical, State.memoryWf, Bool.and_eq_true, and_assoc]

theorem Kept.set {s0 s : State} (h : Kept s0 s) (f : Fld) (v : Nat) : Kept s0 (s.set f v) := by
  refine ⟨h.1, fun hc => ?_⟩
  have := h.2 hc
  rw [State.canonical_iff] at this ⊢
  exact ⟨Sparse.sorted_put _ _ _ this.1, this.2⟩

theorem Kept.csrFilter {s0 s : State} (h : Kept s0 s) (p : Nat × Nat → Bool) : Kept s0 { s with csr := s.csr.filter p } := by
  refine ⟨h.1, fun hc => ?_⟩
  have := h.2 hc
  rw [State.canonical_iff] at this ⊢
  exact ⟨Sparse.sorted_filter _ this.1, this.2⟩

/-- A change of a component that no form concerns. -/
theorem Kept.mkSame {s0 s : State} {shut : List ShutFn} {dueSwap : Bool} {dueBurnish : List Nat} {dueCd : List (Nat × Nat)} {activity : Option Nat} {deferWin : Nat × Nat} {deferMask : Nat} {feByp : List (Nat × Span)} {was : List Was} {answer : Nat × Nat} {free : Nat} {mt : Mt} {chans : List (Nat × Chan)} {dies : List (Nat × FeDie)} {clock : Nat} {loadedAt : Nat} {tg : Tg} {rc : Rc} {str : Str} {lanes : List (Nat × Lane)} {fb : Fb} {prot : Prot} {pwr : Pwr} {guard : Guard} {tile : Tile} {svc : Svc} :
    Kept s0 (State.mk s.csr s.evReq shut dueSwap dueBurnish dueCd activity deferWin deferMask feByp was answer free s.plate mt chans dies s.latch clock loadedAt s.store tg rc str lanes fb prot pwr guard tile s.mg svc s.pending) ↔ Kept s0 s := ⟨fun h => ⟨h.1, h.2⟩, fun h => ⟨h.1, h.2⟩⟩

/-- A change of the plate beside its memories. -/
theorem Kept.mkPlate {s0 s : State} {shut : List ShutFn} {dueSwap : Bool} {dueBurnish : List Nat} {dueCd : List (Nat × Nat)} {activity : Option Nat} {deferWin : Nat × Nat} {deferMask : Nat} {feByp : List (Nat × Span)} {was : List Was} {answer : Nat × Nat} {free : Nat} {mt : Mt} {chans : List (Nat × Chan)} {dies : List (Nat × FeDie)} {clock : Nat} {loadedAt : Nat} {tg : Tg} {rc : Rc} {str : Str} {lanes : List (Nat × Lane)} {fb : Fb} {prot : Prot} {pwr : Pwr} {guard : Guard} {tile : Tile} {svc : Svc} {cur' : Option PlateCur} {badFrames' : List (Nat × Bool)} {errHeld' : Bool} {committed' : Bool} {quar' : List (Nat × Bool)} {quarFrom' : List (Nat × Nat)} {commitLane' : Option Nat} {readBackOk' : Bool} {relFirst' : Nat} {relCount' : Nat} {hist' : List ByPass} :
    Kept s0 (State.mk s.csr s.evReq shut dueSwap dueBurnish dueCd activity deferWin deferMask feByp was answer free (Plate.mk s.plate.mem s.plate.stage cur' badFrames' errHeld' committed' s.plate.shadow quar' quarFrom' commitLane' readBackOk' relFirst' relCount' hist') mt chans dies s.latch clock loadedAt s.store tg rc str lanes fb prot pwr guard tile s.mg svc s.pending) ↔ Kept s0 s := ⟨fun h => ⟨h.1, h.2⟩, fun h => ⟨h.1, h.2⟩⟩

/-- A change of the store beside its memories. -/
theorem Kept.mkStore {s0 s : State} {shut : List ShutFn} {dueSwap : Bool} {dueBurnish : List Nat} {dueCd : List (Nat × Nat)} {activity : Option Nat} {deferWin : Nat × Nat} {deferMask : Nat} {feByp : List (Nat × Span)} {was : List Was} {answer : Nat × Nat} {free : Nat} {mt : Mt} {chans : List (Nat × Chan)} {dies : List (Nat × FeDie)} {clock : Nat} {loadedAt : Nat} {tg : Tg} {rc : Rc} {str : Str} {lanes : List (Nat × Lane)} {fb : Fb} {prot : Prot} {pwr : Pwr} {guard : Guard} {tile : Tile} {svc : Svc} {desc' : List (Nat × Desc)} {keep' : List (Nat × Desc)} {sort' : List SortHit} {sortDrop' : List (Nat × Nat)} {wq' : List WaitBkt} {taken' : List (Nat × Bool)} {fresh' : Nat} {freed' : List Nat} {disabled' : List (Nat × Bool)} {everFlushed' : Bool} {flushedAt' : Nat} {commitClear' : Nat} {stopped' : Bool} {lastSealed' : Option (Nat × Nat)} {shadows' : List Shadow} {spareDue' : List (Nat × Nat)} {stale' : List (Nat × Nat)} :
    Kept s0 (State.mk s.csr s.evReq shut dueSwap dueBurnish dueCd activity deferWin deferMask feByp was answer free s.plate mt chans dies s.latch clock loadedAt (Store.mk s.store.entries s.store.links desc' keep' sort' sortDrop' wq' taken' fresh' freed' disabled' everFlushed' flushedAt' commitClear' stopped' lastSealed' shadows' spareDue' stale') tg rc str lanes fb prot pwr guard tile s.mg svc s.pending) ↔ Kept s0 s := ⟨fun h => ⟨h.1, h.2⟩, fun h => ⟨h.1, h.2⟩⟩

/-- A change of the management subsystem beside its memories. -/
theorem Kept.mkMg {s0 s : State} {shut : List ShutFn} {dueSwap : Bool} {dueBurnish : List Nat} {dueCd : List (Nat × Nat)} {activity : Option Nat} {deferWin : Nat × Nat} {deferMask : Nat} {feByp : List (Nat × Span)} {was : List Was} {answer : Nat × Nat} {free : Nat} {mt : Mt} {chans : List (Nat × Chan)} {dies : List (Nat × FeDie)} {clock : Nat} {loadedAt : Nat} {tg : Tg} {rc : Rc} {str : Str} {lanes : List (Nat × Lane)} {fb : Fb} {prot : Prot} {pwr : Pwr} {guard : Guard} {tile : Tile} {svc : Svc} {core' : Core} {wdog' : Nat} {autoDue' : Bool} {timer' : Bool} {uptime' : Nat} {upLatch' : Nat} {dma' : List (Nat × Dma)} {evq' : List Nat} {hk' : Hk} :
    Kept s0 (State.mk s.csr s.evReq shut dueSwap dueBurnish dueCd activity deferWin deferMask feByp was answer free s.plate mt chans dies s.latch clock loadedAt s.store tg rc str lanes fb prot pwr guard tile (Mgmt.mk core' wdog' autoDue' timer' uptime' upLatch' s.mg.iram s.mg.dram dma' evq' hk') svc s.pending) ↔ Kept s0 s := ⟨fun h => ⟨h.1, h.2⟩, fun h => ⟨h.1, h.2⟩⟩

/-- A change beside the register fields and the queue. -/
theorem Kept.change {s0 s : State} {evReq : List (Nat × Nat)} {shut : List ShutFn} {dueSwap : Bool} {dueBurnish : List Nat} {dueCd : List (Nat × Nat)} {activity : Option Nat} {deferWin : Nat × Nat} {deferMask : Nat} {feByp : List (Nat × Span)} {was : List Was} {answer : Nat × Nat} {free : Nat} {plate : Plate} {mt : Mt} {chans : List (Nat × Chan)} {dies : List (Nat × FeDie)} {latch : List (Nat × Nat)} {clock : Nat} {loadedAt : Nat} {store : Store} {tg : Tg} {rc : Rc} {str : Str} {lanes : List (Nat × Lane)} {fb : Fb} {prot : Prot} {pwr : Pwr} {guard : Guard} {tile : Tile} {mg : Mgmt} {svc : Svc}
    (h : Kept s0 s) (hf : Forms s evReq latch plate store mg) :
    Kept s0 (State.mk s.csr evReq shut dueSwap dueBurnish dueCd activity deferWin deferMask feByp was answer free plate mt chans dies latch clock loadedAt store tg rc str lanes fb prot pwr guard tile mg svc s.pending) := by
  refine ⟨h.1, fun hc => ?_⟩
  have := h.2 hc
  rw [State.canonical_iff] at this ⊢
  obtain ⟨h1, h2, h3, h4, h5, h6, h7, h8, h9, h10⟩ := this
  obtain ⟨g1, g2, g3, g4, g5, g6, g7, g8, g9⟩ := hf
  exact ⟨h1, g1 h2, g3 h3, g4 h4, g5 h5, g2 h6, g6 h7, g7 h8, g8 h9, g9 h10⟩

/-- Parts that are not changed keep their form. -/
theorem Forms.same (s : State) : Forms s s.evReq s.latch s.plate s.store s.mg :=
  ⟨id, id, id, id, id, id, id, id, id⟩

theorem Kept.setB {s0 s : State} (h : Kept s0 s) (f : Fld) (b : Bool) : Kept s0 (s.setB f b) := h.set f _
theorem Kept.count {s0 s : State} (h : Kept s0 s) (f : Fld) (n : Nat) : Kept s0 (s.count f n) := h.set f _
theorem Kept.countWrap {s0 s : State} (h : Kept s0 s) (f : Fld) : Kept s0 (s.countWrap f) := h.set f _

theorem Kept.raise {s0 s : State} (h : Kept s0 s) (src arg : Nat) : Kept s0 (s.raise src arg) := by
  unfold State.raise; split
  · exact h.count _ _
  · refine ⟨h.1, fun hc => ?_⟩
    have := h.2 hc
    rw [State.canonical_iff] at this ⊢
    exact ⟨this.1, Sparse.sortedFrom_insert _ _ this.2.1 (by simp), this.2.2⟩

theorem Kept.flag {s0 s : State} (h : Kept s0 s) (f : Fld) (src arg : Nat) : Kept s0 (s.flag f src arg) := by
  unfold State.flag; split
  · exact h
  · exact (h.set _ _).raise _ _

theorem Kept.ite {s0 a b : State} {c : Prop} [Decidable c] (ha : Kept s0 a) (hb : Kept s0 b) :
    Kept s0 (if c then a else b) := by
  split
  · exact ha
  · exact hb

theorem Kept.iff {s0 s : State} {b : Bool} {f : State → State} (hf : ∀ t, Kept s0 t → Kept s0 (f t)) (h : Kept s0 s) :
    Kept s0 (s.iff b f) := by
  unfold State.iff; split
  · exact hf s h
  · exact h

theorem Kept.foldl {α : Type} {s0 s : State} {l : List α} {f : State → α → State}
    (hf : ∀ t a, Kept s0 t → Kept s0 (f t a)) (h : Kept s0 s) : Kept s0 (l.foldl f s) := by
  induction l generalizing s with
  | nil => exact h
  | cons a l ih => exact ih (hf s a h)

theorem Kept.each {α : Type} {s0 s : State} {l : List α} {f : State → α → State}
    (hf : ∀ t a, Kept s0 t → Kept s0 (f t a)) (h : Kept s0 s) : Kept s0 (s.each l f) := Kept.foldl hf h

/-- A fold that carries a value beside the state. -/
theorem Kept.foldlSnd {α β : Type} {s0 : State} {p : β × State} {l : List α} {f : β × State → α → β × State}
    (hf : ∀ q a, Kept s0 q.2 → Kept s0 (f q a).2) (h : Kept s0 p.2) : Kept s0 (l.foldl f p).2 := by
  induction l generalizing p with
  | nil => exact h
  | cons a l ih => exact ih (hf p a h)

/-- A fold that carries two values beside the state. -/
theorem Kept.foldlSnd2 {α β γ : Type} {s0 : State} {p : β × γ × State} {l : List α}
    {f : β × γ × State → α → β × γ × State} (hf : ∀ q a, Kept s0 q.2.2 → Kept s0 (f q a).2.2) (h : Kept s0 p.2.2) :
    Kept s0 (l.foldl f p).2.2 := by
  induction l generalizing p with
  | nil => exact h
  | cons a l ih => exact ih (hf p a h)

theorem Kept.draw {s0 s : State} (h : Kept s0 s) : Kept s0 s.draw.2 := ⟨h.1, h.2⟩

theorem Kept.drawE {s0 s t : State} {v : BitVec 64} (e : s.draw = (v, t)) (h : Kept s0 s) : Kept s0 t := by
  cases e; exact ⟨h.1, h.2⟩

theorem Kept.keepOld {s0 s : State} (h : Kept s0 s) (fs : List Fld) (d : Nat) : Kept s0 (s.keepOld fs d) := by
  unfold State.keepOld
  exact Kept.ite ⟨h.1, h.2⟩ h

theorem Kept.keepOldFe {s0 s : State} (h : Kept s0 s) (fs : List Fld) : Kept s0 (s.keepOldFe fs) := by
  unfold State.keepOldFe
  exact Kept.ite (Kept.keepOld h.draw _ _) h

/-- What an operation answers, where it answers, comes from `s0` as in `Kept`. -/
def OptKept (s0 : State) (o : Option State) : Prop := ∀ t, o = some t → Kept s0 t

theorem OptKept.none {s0 : State} : OptKept s0 none := fun _ h => nomatch h
theorem OptKept.some {s0 s : State} (h : Kept s0 s) : OptKept s0 (some s) := fun _ e => by cases e; exact h
theorem OptKept.ite {s0 : State} {a b : Option State} {c : Prop} [Decidable c] (ha : OptKept s0 a) (hb : OptKept s0 b) :
    OptKept s0 (if c then a else b) := by
  split
  · exact ha
  · exact hb
theorem OptKept.orElse {s0 : State} {a b : Option State} (ha : OptKept s0 a) (hb : OptKept s0 b) :
    OptKept s0 (a <|> b) := by
  cases a with
  | none => exact hb
  | some x => exact ha

/-- A command whose effect keeps these ends in a next state that keeps them. -/
theorem effect_kept {c : Instr} {f : State → State} {s t : State} (hf : Kept s (f s)) (h : effect c f s = .next t) :
    Kept s t := by
  unfold effect at h
  cases h; split
  · exact hf
  · exact Kept.refl s

/-- The same for a command of the machine-synchronous domain. -/
theorem effectMs_kept {c : Instr} {f : State → State} {s t : State} (hf : Kept s (f s)) (h : effectMs c f s = .next t) :
    Kept s t := by
  unfold effectMs at h
  cases h; split
  · exact hf
  · exact Kept.refl s

/-- What takes effect at the next bucket edge, or at once. -/
theorem Kept.atEdge {s0 s : State} {a : EdgeAct} {f : State → State} (hf : ∀ t, Kept s0 t → Kept s0 (f t))
    (h : Kept s0 s) : Kept s0 (s.atEdge a f) := by
  unfold State.atEdge
  exact Kept.ite ⟨h.1, h.2⟩ (hf s h)

theorem Kept.rise {s0 s : State} (h : Kept s0 s) (f : Fld) : Kept s0 (s.rise f) := h.draw.count f _

end Sys2Proof.Machine
end

