-- ==== Sys2Proof/Laws/KeptAssayState.lean ====
section
/-! SUPPORT. AssayState: no operation disturbs the queue or the canonical form. -/

set_option linter.unusedSimpArgs false
set_option linter.unusedVariables false

namespace Sys2Proof.Machine

open Sys2Proof

theorem State.assayRunEnd_kept {s0 : State} {s : State} (hk : Kept s0 s) : Kept s0 (State.assayRunEnd s) := by
  unfold State.assayRunEnd
  repeat' first
    | with_reducible assumption
    | with_reducible refine Kept.set ?_ _ _
    | split

theorem State.assayStop_kept {s0 : State} {s : State} (hk : Kept s0 s) : Kept s0 (State.assayStop s) := by
  unfold State.assayStop
  repeat' first
    | with_reducible assumption
    | with_reducible refine State.assayRunEnd_kept ?_
    | with_reducible refine Kept.set ?_ _ _
    | with_reducible refine Kept.raise ?_ _ _
    | with_reducible refine Kept.rise ?_ _
    | split
    | ((try lift_lets); intro x; first | (refine (have hx : Kept s0 x := ?a; ?b); case' a => subst x; case' b => clear_value x) | (refine (have hx : Kept s0 x.2 := ?a; ?b); case' a => subst x; case' b => clear_value x) | (refine (have hx : Kept s0 x.1 := ?a; ?b); case' a => subst x; case' b => clear_value x) | (refine (have hx : Kept s0 x.2.2 := ?a; ?b); case' a => subst x; case' b => clear_value x) | (refine (have hx : ∀ t, Kept s0 t → Kept s0 (x t) := ?a; ?b); case' a => subst x; case' b => clear_value x) | (refine (have hx : ∀ t a, Kept s0 t → Kept s0 (x t a) := ?a; ?b); case' a => subst x; case' b => clear_value x) | (refine (have hx : ∀ a t, Kept s0 t → Kept s0 (x a t) := ?a; ?b); case' a => subst x; case' b => clear_value x) | subst x)
    | simp only [Kept.mkSame, Kept.mkPlate, Kept.mkStore, Kept.mkMg]
    | (intro; intro; intro)

theorem State.assayCheck_kept {s0 : State} {s : State} (hk : Kept s0 s) : Kept s0 (State.assayCheck s) := by
  unfold State.assayCheck
  repeat' first
    | with_reducible assumption
    | with_reducible refine State.assayStop_kept ?_
    | split

end Sys2Proof.Machine
end

