-- ==== Sys2Proof/Laws/KeptLoopEngine.lean ====
section
/-! SUPPORT. LoopEngine: no operation disturbs the queue or the canonical form. -/

set_option linter.unusedSimpArgs false
set_option linter.unusedVariables false

namespace Sys2Proof.Machine

open Sys2Proof

theorem State.setEngine_kept {s0 : State} {s : State} {i : Nat} {g : Engine} (hk : Kept s0 s) : Kept s0 (State.setEngine s i g) := by
  unfold State.setEngine
  repeat' first
    | with_reducible assumption
    | simp only [Kept.mkSame]

theorem State.leRefused_kept {s0 : State} {s : State} {i : Nat} (hk : Kept s0 s) : Kept s0 (State.leRefused s i) := by
  unfold State.leRefused
  repeat' first
    | with_reducible assumption
    | with_reducible refine Kept.flag ?_ _ _ _
    | with_reducible refine Kept.ite ?_ ?_

theorem leCommit_kept {s0 : State} {i : Nat} {s : State} (hk : Kept s0 s) : Kept s0 (leCommit i s) := by
  unfold leCommit
  repeat' first
    | with_reducible assumption
    | with_reducible refine State.leRefused_kept ?_
    | with_reducible refine State.setEngine_kept ?_
    | with_reducible refine Kept.set ?_ _ _
    | with_reducible refine Kept.ite ?_ ?_

theorem leUseHost_kept {s0 : State} {i : Nat} {v : Bool} {s : State} (hk : Kept s0 s) : Kept s0 (leUseHost i v s) := by
  unfold leUseHost
  repeat' first
    | with_reducible assumption
    | with_reducible refine State.leRefused_kept ?_
    | with_reducible refine Kept.setB ?_ _ _
    | with_reducible refine Kept.ite ?_ ?_

theorem State.capture_kept {s0 : State} {s : State} {i : Nat} {loop : Nat} {y : Int} {e : Int} {u : Nat} (hk : Kept s0 s) : Kept s0 (State.capture s i loop y e u) := by
  unfold State.capture
  repeat' first
    | with_reducible assumption
    | with_reducible refine State.setEngine_kept ?_
    | with_reducible refine Kept.set ?_ _ _
    | with_reducible refine Kept.iff (fun _ _ => ?_) ?_
    | with_reducible refine Kept.ite ?_ ?_

theorem State.injAbort_kept {s0 : State} {s : State} {i : Nat} (hk : Kept s0 s) : Kept s0 (State.injAbort s i) := by
  unfold State.injAbort
  repeat' first
    | with_reducible assumption
    | with_reducible refine Kept.set ?_ _ _
    | with_reducible refine Kept.raise ?_ _ _
    | with_reducible refine Kept.ite ?_ ?_

theorem injDone_kept {s0 : State} {i : Nat} {s : State} (hk : Kept s0 s) : Kept s0 (injDone i s) := by
  unfold injDone
  repeat' first
    | with_reducible assumption
    | with_reducible refine Kept.set ?_ _ _
    | with_reducible refine Kept.raise ?_ _ _
    | with_reducible refine Kept.ite ?_ ?_

theorem State.injRequest_kept {s0 : State} {s : State} {i : Nat} {loop : Nat} (hk : Kept s0 s) : Kept s0 (State.injRequest s i loop) := by
  unfold State.injRequest
  repeat' first
    | with_reducible assumption
    | with_reducible refine State.setEngine_kept ?_
    | with_reducible refine Kept.set ?_ _ _
    | with_reducible refine Kept.count ?_ _ _
    | with_reducible refine Kept.ite ?_ ?_

end Sys2Proof.Machine
end

