-- ==== Sys2Proof/Laws/KeptPower.lean ====
section
/-! SUPPORT. Power: no operation disturbs the queue or the canonical form. -/

set_option linter.unusedSimpArgs false
set_option linter.unusedVariables false

namespace Sys2Proof.Machine

open Sys2Proof

theorem State.setUnit_kept {s0 : State} {s : State} {u : Nat} {p : PUnit} (hk : Kept s0 s) : Kept s0 (State.setUnit s u p) := by
  unfold State.setUnit
  repeat' first
    | with_reducible assumption
    | simp only [Kept.mkSame]

theorem State.setRole_kept {s0 : State} {s : State} {u : Nat} {r : Nat} (hk : Kept s0 s) : Kept s0 (State.setRole s u r) := by
  unfold State.setRole
  repeat' first
    | with_reducible assumption
    | with_reducible refine Kept.set ?_ _ _
    | with_reducible refine Kept.ite ?_ ?_

theorem State.setLoop_kept {s0 : State} {s : State} {u : Nat} {l : Loop} (hk : Kept s0 s) : Kept s0 (State.setLoop s u l) := by
  unfold State.setLoop
  repeat' first
    | with_reducible assumption
    | with_reducible refine State.setUnit_kept ?_
    | with_reducible refine Kept.set ?_ _ _

theorem State.swapRestart_kept {s0 : State} {s : State} (hk : Kept s0 s) : Kept s0 (State.swapRestart s) := by
  unfold State.swapRestart
  repeat' first
    | with_reducible assumption
    | with_reducible refine Kept.set ?_ _ _

theorem State.swapPeriod_kept {s0 : State} {s : State} {p : Nat} (hk : Kept s0 s) : Kept s0 (State.swapPeriod s p) := by
  unfold State.swapPeriod
  repeat' first
    | with_reducible assumption
    | with_reducible refine Kept.set ?_ _ _
    | with_reducible refine Kept.iff (fun _ _ => ?_) ?_
    | ((try lift_lets); intro x; try subst x)

theorem State.swapSchedule_kept {s0 : State} {s : State} (hk : Kept s0 s) : Kept s0 (State.swapSchedule s) := by
  unfold State.swapSchedule
  repeat' first
    | with_reducible assumption
    | with_reducible refine Kept.set ?_ _ _

theorem State.swapOver_kept {s0 : State} {s : State} (hk : Kept s0 s) : Kept s0 (State.swapOver s) := by
  unfold State.swapOver
  repeat' first
    | with_reducible assumption
    | with_reducible refine Kept.set ?_ _ _
    | simp only [Kept.mkSame]

theorem State.openLoop_kept {s0 : State} {s : State} {u : Nat} (hk : Kept s0 s) : Kept s0 (State.openLoop s u) := by
  unfold State.openLoop
  repeat' first
    | with_reducible assumption
    | with_reducible refine State.injAbort_kept ?_
    | with_reducible refine Kept.set ?_ _ _

theorem State.swapBreak_kept {s0 : State} {s : State} {u : Nat} (hk : Kept s0 s) : Kept s0 (State.swapBreak s u) := by
  unfold State.swapBreak
  repeat' first
    | with_reducible assumption
    | with_reducible refine State.swapOver_kept ?_
    | with_reducible refine Kept.ite ?_ ?_

theorem State.stopUnit_kept {s0 : State} {s : State} {u : Nat} (hk : Kept s0 s) : Kept s0 (State.stopUnit s u) := by
  unfold State.stopUnit
  repeat' first
    | with_reducible assumption
    | with_reducible refine State.openLoop_kept ?_
    | with_reducible refine State.setRole_kept ?_
    | with_reducible refine State.setUnit_kept ?_
    | with_reducible refine State.swapBreak_kept ?_
    | with_reducible refine Kept.ite ?_ ?_
    | simp only [Kept.mkSame]

theorem State.convCheck_kept {s0 : State} {s : State} (hk : Kept s0 s) : Kept s0 (State.convCheck s) := by
  unfold State.convCheck
  repeat' first
    | with_reducible assumption
    | with_reducible refine Kept.ite ?_ ?_
    | simp only [Kept.mkSame]

theorem State.takeOver_kept {s0 : State} {s : State} {n : Nat} (hk : Kept s0 s) : Kept s0 (State.takeOver s n) := by
  unfold State.takeOver
  repeat' first
    | with_reducible assumption
    | with_reducible refine State.setRole_kept ?_
    | with_reducible refine State.setUnit_kept ?_
    | with_reducible refine State.swapOver_kept ?_
    | with_reducible refine Kept.set ?_ _ _

theorem State.failover_kept {s0 : State} {s : State} {o : Nat} (hk : Kept s0 s) : Kept s0 (State.failover s o) := by
  unfold State.failover
  repeat' first
    | with_reducible assumption
    | with_reducible refine State.convCheck_kept ?_
    | with_reducible refine State.stopUnit_kept ?_
    | with_reducible refine State.swapRestart_kept ?_
    | with_reducible refine State.takeOver_kept ?_
    | with_reducible refine Kept.countWrap ?_ _
    | with_reducible refine Kept.raise ?_ _ _
    | with_reducible refine Kept.ite ?_ ?_

theorem State.dropUnit_kept {s0 : State} {s : State} {u : Nat} (hk : Kept s0 s) : Kept s0 (State.dropUnit s u) := by
  unfold State.dropUnit
  repeat' first
    | with_reducible assumption
    | with_reducible refine State.failover_kept ?_
    | with_reducible refine State.stopUnit_kept ?_
    | with_reducible refine Kept.ite ?_ ?_

theorem State.unitFault_kept {s0 : State} {s : State} {u : Nat} {cause : Nat} (hk : Kept s0 s) : Kept s0 (State.unitFault s u cause) := by
  unfold State.unitFault
  repeat' first
    | with_reducible assumption
    | with_reducible refine State.dropUnit_kept ?_
    | with_reducible refine Kept.set ?_ _ _
    | with_reducible refine Kept.count ?_ _ _
    | with_reducible refine Kept.flag ?_ _ _ _
    | with_reducible refine Kept.ite ?_ ?_

theorem State.standby_kept {s0 : State} {s : State} {u : Nat} (hk : Kept s0 s) : Kept s0 (State.standby s u) := by
  unfold State.standby
  repeat' first
    | with_reducible assumption
    | with_reducible refine State.setLoop_kept ?_
    | with_reducible refine State.setRole_kept ?_
    | with_reducible refine State.setUnit_kept ?_
    | with_reducible refine Kept.set ?_ _ _
    | with_reducible refine Kept.raise ?_ _ _

theorem State.startUnit_kept {s0 : State} {s : State} {u : Nat} (hk : Kept s0 s) : Kept s0 (State.startUnit s u) := by
  unfold State.startUnit
  repeat' first
    | with_reducible assumption
    | with_reducible refine State.setLoop_kept ?_
    | with_reducible refine State.setRole_kept ?_
    | with_reducible refine State.setUnit_kept ?_
    | with_reducible refine Kept.set ?_ _ _

theorem State.svHold_kept {s0 : State} {s : State} {f : Fld} (hk : Kept s0 s) : Kept s0 (State.svHold s f) := by
  unfold State.svHold
  repeat' first
    | with_reducible assumption
    | with_reducible refine Kept.set ?_ _ _
    | with_reducible refine Kept.raise ?_ _ _
    | with_reducible refine Kept.ite ?_ ?_

theorem State.svDiscard_kept {s0 : State} {s : State} (hk : Kept s0 s) : Kept s0 (State.svDiscard s) := by
  unfold State.svDiscard
  repeat' first
    | with_reducible assumption
    | with_reducible refine Kept.countWrap ?_ _
    | with_reducible refine Kept.raise ?_ _ _

theorem State.returnUnit_kept {s0 : State} {s : State} {u : Nat} (hk : Kept s0 s) : Kept s0 (State.returnUnit s u) := by
  unfold State.returnUnit
  repeat' first
    | with_reducible assumption
    | with_reducible refine State.standby_kept ?_
    | with_reducible refine State.svHold_kept ?_
    | with_reducible refine Kept.ite ?_ ?_

theorem State.convStart_kept {s0 : State} {s : State} (hk : Kept s0 s) : Kept s0 (State.convStart s) := by
  unfold State.convStart
  repeat' first
    | with_reducible assumption
    | with_reducible refine State.startUnit_kept ?_
    | with_reducible refine Kept.ite ?_ ?_

theorem State.unitDown_kept {s0 : State} {s : State} {u : Nat} (hk : Kept s0 s) : Kept s0 (State.unitDown s u) := by
  unfold State.unitDown
  repeat' first
    | with_reducible assumption
    | with_reducible refine State.setRole_kept ?_
    | with_reducible refine State.standby_kept ?_
    | with_reducible refine State.svDiscard_kept ?_
    | with_reducible refine Kept.set ?_ _ _
    | with_reducible refine Kept.ite ?_ ?_

theorem feedQualified_kept {s0 : State} {u : Nat} {s : State} (hk : Kept s0 s) : Kept s0 (feedQualified u s) := by
  unfold feedQualified
  repeat' first
    | with_reducible assumption
    | with_reducible refine State.convStart_kept ?_
    | with_reducible refine State.returnUnit_kept ?_
    | with_reducible refine State.svHold_kept ?_
    | with_reducible refine Kept.set ?_ _ _
    | with_reducible refine Kept.flag ?_ _ _ _
    | with_reducible refine Kept.ite ?_ ?_

theorem feedOutOfRange_kept {s0 : State} {u : Nat} {s : State} (hk : Kept s0 s) : Kept s0 (feedOutOfRange u s) := by
  unfold feedOutOfRange
  repeat' first
    | with_reducible assumption
    | with_reducible refine State.dropUnit_kept ?_
    | with_reducible refine Kept.set ?_ _ _
    | with_reducible refine Kept.count ?_ _ _
    | with_reducible refine Kept.flag ?_ _ _ _
    | with_reducible refine Kept.ite ?_ ?_

theorem State.copyState_kept {s0 : State} {s : State} {u : Nat} (hk : Kept s0 s) : Kept s0 (State.copyState s u) := by
  unfold State.copyState
  repeat' first
    | with_reducible assumption
    | with_reducible refine State.setLoop_kept ?_
    | with_reducible refine State.setUnit_kept ?_
    | with_reducible refine Kept.ite ?_ ?_

theorem State.overrun_kept {s0 : State} {s : State} {u : Nat} {y : Int} (hk : Kept s0 s) : Kept s0 (State.overrun s u y) := by
  unfold State.overrun
  repeat' first
    | with_reducible assumption
    | with_reducible refine State.capture_kept ?_
    | with_reducible refine State.unitFault_kept ?_
    | with_reducible refine Kept.set ?_ _ _
    | with_reducible refine Kept.count ?_ _ _
    | with_reducible refine Kept.flag ?_ _ _ _
    | with_reducible refine Kept.ite ?_ ?_

theorem State.lawSample_kept {s0 : State} {s : State} {u : Nat} {y : Int} {ff : Int} {test : Bool} (hk : Kept s0 s) : Kept s0 (State.lawSample s u y ff test) := by
  unfold State.lawSample
  repeat' first
    | with_reducible assumption
    | with_reducible refine State.capture_kept ?_
    | with_reducible refine State.setLoop_kept ?_
    | with_reducible refine State.setRole_kept ?_
    | with_reducible refine State.setUnit_kept ?_
    | with_reducible refine State.unitFault_kept ?_
    | with_reducible refine Kept.set ?_ _ _
    | with_reducible refine Kept.setB ?_ _ _
    | with_reducible refine Kept.iff (fun _ _ => ?_) ?_
    | split

theorem State.currentLimit_kept {s0 : State} {s : State} {u : Nat} {limited : Bool} (hk : Kept s0 s) : Kept s0 (State.currentLimit s u limited) := by
  unfold State.currentLimit
  repeat' first
    | with_reducible assumption
    | with_reducible refine State.setUnit_kept ?_
    | with_reducible refine State.unitFault_kept ?_
    | with_reducible refine Kept.count ?_ _ _
    | with_reducible refine Kept.iff (fun _ _ => ?_) ?_
    | with_reducible refine Kept.ite ?_ ?_

theorem State.shadowSample_kept {s0 : State} {s : State} {u : Nat} {y : Int} {ff : Int} (hk : Kept s0 s) : Kept s0 (State.shadowSample s u y ff) := by
  unfold State.shadowSample
  repeat' first
    | with_reducible assumption
    | with_reducible refine State.lawSample_kept ?_
    | with_reducible refine Kept.set ?_ _ _
    | with_reducible refine Kept.ite ?_ ?_
    | simp only [Kept.mkSame]

theorem State.standbyWatch_kept {s0 : State} {s : State} {u : Nat} {y : Int} (hk : Kept s0 s) : Kept s0 (State.standbyWatch s u y) := by
  unfold State.standbyWatch
  repeat' first
    | with_reducible assumption
    | with_reducible refine State.failover_kept ?_
    | with_reducible refine State.setUnit_kept ?_
    | with_reducible refine Kept.iff (fun _ _ => ?_) ?_

theorem loopSample_kept {s0 : State} {u : Nat} {y : Int} {ff : Int} {parityOk : Bool} {overrun : Bool} {limited : Bool} {s : State} (hk : Kept s0 s) : Kept s0 (loopSample u y ff parityOk overrun limited s) := by
  unfold loopSample
  repeat' first
    | with_reducible assumption
    | with_reducible refine State.copyState_kept ?_
    | with_reducible refine State.currentLimit_kept ?_
    | with_reducible refine State.lawSample_kept ?_
    | with_reducible refine State.overrun_kept ?_
    | with_reducible refine State.setUnit_kept ?_
    | with_reducible refine State.shadowSample_kept ?_
    | with_reducible refine State.standbyWatch_kept ?_
    | with_reducible refine State.unitFault_kept ?_
    | with_reducible refine Kept.set ?_ _ _
    | with_reducible refine Kept.iff (fun _ _ => ?_) ?_
    | with_reducible refine Kept.ite ?_ ?_

theorem heartbeatLost_kept {s0 : State} {u : Nat} {s : State} (hk : Kept s0 s) : Kept s0 (heartbeatLost u s) := by
  unfold heartbeatLost
  repeat' first
    | with_reducible assumption
    | with_reducible refine State.failover_kept ?_
    | with_reducible refine State.swapBreak_kept ?_
    | with_reducible refine Kept.set ?_ _ _
    | with_reducible refine Kept.ite ?_ ?_

theorem arbiterLost_kept {s0 : State} {u : Nat} {fault : Bool} {s : State} (hk : Kept s0 s) : Kept s0 (arbiterLost u fault s) := by
  unfold arbiterLost
  repeat' first
    | with_reducible assumption
    | with_reducible refine State.swapOver_kept ?_
    | with_reducible refine Kept.set ?_ _ _
    | with_reducible refine Kept.iff (fun _ _ => ?_) ?_
    | with_reducible refine Kept.ite ?_ ?_

theorem arbiterHeartbeatRegained_kept {s0 : State} {u : Nat} {s : State} (hk : Kept s0 s) : Kept s0 (arbiterHeartbeatRegained u s) := by
  unfold arbiterHeartbeatRegained
  repeat' first
    | with_reducible assumption
    | with_reducible refine Kept.set ?_ _ _
    | with_reducible refine Kept.iff (fun _ _ => ?_) ?_

theorem copyLink_kept {s0 : State} {s : State} (hk : Kept s0 s) : Kept s0 (copyLink s) := by
  unfold copyLink
  repeat' first
    | with_reducible assumption
    | with_reducible refine State.failover_kept ?_
    | with_reducible refine State.openLoop_kept ?_
    | with_reducible refine State.setRole_kept ?_
    | with_reducible refine State.setUnit_kept ?_
    | with_reducible refine State.swapOver_kept ?_
    | with_reducible refine State.takeOver_kept ?_
    | with_reducible refine Kept.set ?_ _ _
    | with_reducible refine Kept.raise ?_ _ _
    | with_reducible refine Kept.iff (fun _ _ => ?_) ?_
    | with_reducible refine Kept.ite ?_ ?_

theorem stateCopyLinkUp_kept {s0 : State} {s : State} (hk : Kept s0 s) : Kept s0 (stateCopyLinkUp s) := by
  unfold stateCopyLinkUp
  repeat' first
    | with_reducible assumption
    | with_reducible refine Kept.set ?_ _ _

theorem midBusUndervoltage_kept {s0 : State} {s : State} (hk : Kept s0 s) : Kept s0 (midBusUndervoltage s) := by
  unfold midBusUndervoltage
  repeat' first
    | with_reducible assumption
    | with_reducible refine State.unitFault_kept ?_
    | with_reducible refine Kept.set ?_ _ _
    | with_reducible refine Kept.ite ?_ ?_

theorem busFault_kept {s0 : State} {s : State} (hk : Kept s0 s) : Kept s0 (busFault s) := by
  unfold busFault
  repeat' first
    | with_reducible assumption
    | with_reducible refine State.convCheck_kept ?_
    | with_reducible refine State.stopUnit_kept ?_
    | with_reducible refine Kept.set ?_ _ _
    | with_reducible refine Kept.countWrap ?_ _
    | with_reducible refine Kept.raise ?_ _ _
    | with_reducible refine Kept.iff (fun _ _ => ?_) ?_

theorem unitOvertemperature_kept {s0 : State} {u : Nat} {s : State} (hk : Kept s0 s) : Kept s0 (unitOvertemperature u s) := by
  unfold unitOvertemperature
  repeat' first
    | with_reducible assumption
    | with_reducible refine State.unitFault_kept ?_

theorem puTempWarning_kept {s0 : State} {u : Nat} {s : State} (hk : Kept s0 s) : Kept s0 (puTempWarning u s) := by
  unfold puTempWarning
  repeat' first
    | with_reducible assumption
    | with_reducible refine Kept.flag ?_ _ _ _

theorem swapTimerExpiry_kept {s0 : State} {s : State} (hk : Kept s0 s) : Kept s0 (swapTimerExpiry s) := by
  unfold swapTimerExpiry
  repeat' first
    | with_reducible assumption
    | with_reducible refine State.swapSchedule_kept ?_
    | with_reducible refine Kept.ite ?_ ?_

theorem swapNow_kept {s0 : State} {s : State} (hk : Kept s0 s) : Kept s0 (swapNow s) := by
  unfold swapNow
  repeat' first
    | with_reducible assumption
    | with_reducible refine State.swapSchedule_kept ?_
    | with_reducible refine Kept.ite ?_ ?_

theorem swapOverdue_kept {s0 : State} {s : State} (hk : Kept s0 s) : Kept s0 (swapOverdue s) := by
  unfold swapOverdue
  repeat' first
    | with_reducible assumption
    | with_reducible refine Kept.flag ?_ _ _ _
    | with_reducible refine Kept.ite ?_ ?_

theorem swapPermit_kept {s0 : State} {s : State} (hk : Kept s0 s) : Kept s0 (swapPermit s) := by
  unfold swapPermit
  repeat' first
    | with_reducible assumption
    | with_reducible refine State.injAbort_kept ?_
    | with_reducible refine State.swapOver_kept ?_
    | with_reducible refine Kept.set ?_ _ _
    | with_reducible refine Kept.ite ?_ ?_
    | simp only [Kept.mkSame]

theorem swapHandover_kept {s0 : State} {s : State} (hk : Kept s0 s) : Kept s0 (swapHandover s) := by
  unfold swapHandover
  repeat' first
    | with_reducible assumption
    | with_reducible refine State.openLoop_kept ?_
    | with_reducible refine State.setRole_kept ?_
    | with_reducible refine State.setUnit_kept ?_
    | with_reducible refine State.swapOver_kept ?_
    | with_reducible refine Kept.set ?_ _ _
    | with_reducible refine Kept.countWrap ?_ _
    | with_reducible refine Kept.raise ?_ _ _
    | with_reducible refine Kept.iff (fun _ _ => ?_) ?_
    | with_reducible refine Kept.ite ?_ ?_
    | simp only [Kept.mkSame]

theorem swapDone_kept {s0 : State} {s : State} (hk : Kept s0 s) : Kept s0 (swapDone s) := by
  unfold swapDone
  repeat' first
    | with_reducible assumption
    | with_reducible refine State.setUnit_kept ?_
    | with_reducible refine State.swapOver_kept ?_
    | with_reducible refine State.swapRestart_kept ?_
    | with_reducible refine Kept.set ?_ _ _
    | with_reducible refine Kept.countWrap ?_ _
    | with_reducible refine Kept.raise ?_ _ _
    | with_reducible refine Kept.ite ?_ ?_
    | simp only [Kept.mkSame]

theorem puOut_kept {s0 : State} {u : Nat} {out : Bool} {s : State} (hk : Kept s0 s) : Kept s0 (puOut u out s) := by
  unfold puOut
  repeat' first
    | with_reducible assumption
    | with_reducible refine State.assayCheck_kept ?_
    | with_reducible refine State.leRefused_kept ?_
    | with_reducible refine State.returnUnit_kept ?_
    | with_reducible refine State.stopUnit_kept ?_
    | with_reducible refine Kept.set ?_ _ _
    | with_reducible refine Kept.ite ?_ ?_

theorem puFaultClear_kept {s0 : State} {u : Nat} {s : State} (hk : Kept s0 s) : Kept s0 (puFaultClear u s) := by
  unfold puFaultClear
  repeat' first
    | with_reducible assumption
    | with_reducible refine State.returnUnit_kept ?_
    | with_reducible refine Kept.set ?_ _ _
    | with_reducible refine Kept.ite ?_ ?_

theorem lastUnitRestart_kept {s0 : State} {again : Bool} {s : State} (hk : Kept s0 s) : Kept s0 (lastUnitRestart again s) := by
  unfold lastUnitRestart
  repeat' first
    | with_reducible assumption
    | with_reducible refine State.startUnit_kept ?_
    | with_reducible refine Kept.set ?_ _ _
    | with_reducible refine Kept.ite ?_ ?_

theorem State.arbSafe_kept {s0 : State} {s : State} {sense : Nat} (hk : Kept s0 s) : Kept s0 (State.arbSafe s sense) := by
  unfold State.arbSafe
  repeat' first
    | with_reducible assumption
    | with_reducible refine State.openLoop_kept ?_
    | with_reducible refine State.setRole_kept ?_
    | with_reducible refine State.setUnit_kept ?_
    | with_reducible refine State.swapOver_kept ?_
    | with_reducible refine State.swapRestart_kept ?_
    | with_reducible refine State.takeOver_kept ?_
    | with_reducible refine Kept.ite ?_ ?_
    | simp only [Kept.mkSame]

end Sys2Proof.Machine
end

