-- ==== Sys2Proof/Laws/KeptGuard.lean ====
section
/-! SUPPORT. Guard: no operation disturbs the queue or the canonical form. -/

set_option linter.unusedSimpArgs false
set_option linter.unusedVariables false

namespace Sys2Proof.Machine

open Sys2Proof

theorem State.outputsOff_kept {s0 : State} {s : State} (hk : Kept s0 s) : Kept s0 (State.outputsOff s) := by
  unfold State.outputsOff
  repeat' first
    | with_reducible assumption
    | with_reducible refine Kept.set ?_ _ _
    | with_reducible refine Kept.raise ?_ _ _

theorem State.biasShutdown_kept {s0 : State} {s : State} (hk : Kept s0 s) : Kept s0 (State.biasShutdown s) := by
  unfold State.biasShutdown
  repeat' first
    | with_reducible assumption
    | with_reducible refine State.outputsOff_kept ?_
    | with_reducible refine Kept.set ?_ _ _
    | with_reducible refine Kept.countWrap ?_ _
    | with_reducible refine Kept.iff (fun _ _ => ?_) ?_
    | with_reducible refine Kept.ite ?_ ?_
    | simp only [Kept.mkSame]

theorem State.guardFault_kept {s0 : State} {s : State} {f : Fld} (hk : Kept s0 s) : Kept s0 (State.guardFault s f) := by
  unfold State.guardFault
  repeat' first
    | with_reducible assumption
    | with_reducible refine State.biasShutdown_kept ?_
    | with_reducible refine Kept.set ?_ _ _
    | with_reducible refine Kept.countWrap ?_ _
    | with_reducible refine Kept.raise ?_ _ _
    | with_reducible refine Kept.ite ?_ ?_

theorem State.biasStart_kept {s0 : State} {s : State} (hk : Kept s0 s) : Kept s0 (State.biasStart s) := by
  unfold State.biasStart
  repeat' first
    | with_reducible assumption
    | with_reducible refine Kept.set ?_ _ _

theorem State.biasDown_kept {s0 : State} {s : State} (hk : Kept s0 s) : Kept s0 (State.biasDown s) := by
  unfold State.biasDown
  repeat' first
    | with_reducible assumption
    | with_reducible refine State.biasStart_kept ?_
    | with_reducible refine State.svDiscard_kept ?_
    | with_reducible refine Kept.set ?_ _ _
    | with_reducible refine Kept.ite ?_ ?_
    | simp only [Kept.mkSame]

theorem State.judge_kept {s0 : State} {s : State} (hk : Kept s0 s) : Kept s0 (State.judge s) := by
  unfold State.judge
  repeat' first
    | with_reducible assumption
    | with_reducible refine State.biasShutdown_kept ?_
    | with_reducible refine Kept.setB ?_ _ _
    | with_reducible refine Kept.ite ?_ ?_

theorem State.proofRestart_kept {s0 : State} {s : State} (hk : Kept s0 s) : Kept s0 (State.proofRestart s) := by
  unfold State.proofRestart
  repeat' first
    | with_reducible assumption
    | split
    | simp only [Kept.mkSame, Kept.mkPlate, Kept.mkStore, Kept.mkMg]
    | (intro; intro; intro)

theorem State.setRaw_kept {s0 : State} {s : State} {side : Nat} {closed : Bool} (hk : Kept s0 s) : Kept s0 (State.setRaw s side closed) := by
  unfold State.setRaw
  repeat' first
    | with_reducible assumption
    | with_reducible refine State.judge_kept ?_
    | with_reducible refine State.proofRestart_kept ?_
    | with_reducible refine Kept.ite ?_ ?_
    | split
    | ((try lift_lets); intro x; first | (refine (have hx : Kept s0 x := ?a; ?b); case' a => subst x; case' b => clear_value x) | (refine (have hx : Kept s0 x.2 := ?a; ?b); case' a => subst x; case' b => clear_value x) | (refine (have hx : Kept s0 x.1 := ?a; ?b); case' a => subst x; case' b => clear_value x) | (refine (have hx : Kept s0 x.2.2 := ?a; ?b); case' a => subst x; case' b => clear_value x) | (refine (have hx : ∀ t, Kept s0 t → Kept s0 (x t) := ?a; ?b); case' a => subst x; case' b => clear_value x) | (refine (have hx : ∀ t a, Kept s0 t → Kept s0 (x t a) := ?a; ?b); case' a => subst x; case' b => clear_value x) | (refine (have hx : ∀ a t, Kept s0 t → Kept s0 (x a t) := ?a; ?b); case' a => subst x; case' b => clear_value x) | subst x)
    | simp only [Kept.mkSame, Kept.mkPlate, Kept.mkStore, Kept.mkMg]
    | (intro; intro; intro)

theorem channelOpen_kept {s0 : State} {side : Nat} {s : State} (hk : Kept s0 s) : Kept s0 (channelOpen side s) := by
  unfold channelOpen
  repeat' first
    | with_reducible assumption
    | with_reducible refine State.setRaw_kept ?_

theorem channelClosed_kept {s0 : State} {side : Nat} {s : State} (hk : Kept s0 s) : Kept s0 (channelClosed side s) := by
  unfold channelClosed
  repeat' first
    | with_reducible assumption
    | with_reducible refine State.setRaw_kept ?_

theorem interlockDarkPulse_kept {s0 : State} {_side : Nat} {s : State} (hk : Kept s0 s) : Kept s0 (interlockDarkPulse _side s) := by
  unfold interlockDarkPulse
  repeat' first
    | with_reducible assumption

theorem pulseMissing_kept {s0 : State} {side : Nat} {s : State} (hk : Kept s0 s) : Kept s0 (pulseMissing side s) := by
  unfold pulseMissing
  repeat' first
    | with_reducible assumption
    | with_reducible refine State.guardFault_kept ?_
    | with_reducible refine State.setRaw_kept ?_
    | with_reducible refine Kept.raise ?_ _ _
    | with_reducible refine Kept.ite ?_ ?_

theorem chatter_kept {s0 : State} {side : Nat} {s : State} (hk : Kept s0 s) : Kept s0 (chatter side s) := by
  unfold chatter
  repeat' first
    | with_reducible assumption
    | with_reducible refine State.judge_kept ?_
    | with_reducible refine State.proofRestart_kept ?_
    | with_reducible refine Kept.set ?_ _ _
    | with_reducible refine Kept.raise ?_ _ _
    | with_reducible refine Kept.ite ?_ ?_
    | split
    | (intro; intro; intro)

theorem chatterEnd_kept {s0 : State} {side : Nat} {s : State} (hk : Kept s0 s) : Kept s0 (chatterEnd side s) := by
  unfold chatterEnd
  repeat' first
    | with_reducible assumption
    | with_reducible refine State.judge_kept ?_
    | with_reducible refine Kept.set ?_ _ _

theorem discrepancy_kept {s0 : State} {s : State} (hk : Kept s0 s) : Kept s0 (discrepancy s) := by
  unfold discrepancy
  repeat' first
    | with_reducible assumption
    | with_reducible refine State.guardFault_kept ?_
    | with_reducible refine Kept.ite ?_ ?_
    | simp only [Kept.mkSame]

theorem guardProof_kept {s0 : State} {s : State} (hk : Kept s0 s) : Kept s0 (guardProof s) := by
  unfold guardProof
  repeat' first
    | with_reducible assumption
    | with_reducible refine Kept.set ?_ _ _
    | with_reducible refine Kept.raise ?_ _ _
    | with_reducible refine Kept.each (fun _ _ _ => ?_) ?_
    | with_reducible refine Kept.ite ?_ ?_
    | simp only [Kept.mkSame]

theorem biasEnable_kept {s0 : State} {s : State} (hk : Kept s0 s) : Kept s0 (biasEnable s) := by
  unfold biasEnable
  repeat' first
    | with_reducible assumption
    | with_reducible refine State.biasStart_kept ?_
    | with_reducible refine State.svHold_kept ?_
    | with_reducible refine Kept.countWrap ?_ _
    | with_reducible refine Kept.raise ?_ _ _
    | split

theorem biasDisable_kept {s0 : State} {s : State} (hk : Kept s0 s) : Kept s0 (biasDisable s) := by
  unfold biasDisable
  repeat' first
    | with_reducible assumption
    | with_reducible refine State.biasShutdown_kept ?_
    | with_reducible refine Kept.set ?_ _ _

theorem biasFbChange_kept {s0 : State} {closed : Bool} {masked : Bool} {s : State} (hk : Kept s0 s) : Kept s0 (biasFbChange closed masked s) := by
  unfold biasFbChange
  repeat' first
    | with_reducible assumption
    | with_reducible refine State.biasDown_kept ?_
    | with_reducible refine State.guardFault_kept ?_
    | with_reducible refine Kept.set ?_ _ _
    | with_reducible refine Kept.setB ?_ _ _
    | with_reducible refine Kept.raise ?_ _ _
    | split
    | simp only [Kept.mkSame]

theorem fbEnableTimeout_kept {s0 : State} {s : State} (hk : Kept s0 s) : Kept s0 (fbEnableTimeout s) := by
  unfold fbEnableTimeout
  repeat' first
    | with_reducible assumption
    | with_reducible refine State.guardFault_kept ?_
    | with_reducible refine Kept.ite ?_ ?_

theorem fbDisableTimeout_kept {s0 : State} {s : State} (hk : Kept s0 s) : Kept s0 (fbDisableTimeout s) := by
  unfold fbDisableTimeout
  repeat' first
    | with_reducible assumption
    | with_reducible refine State.biasDown_kept ?_
    | with_reducible refine State.guardFault_kept ?_
    | with_reducible refine Kept.iff (fun _ _ => ?_) ?_
    | with_reducible refine Kept.ite ?_ ?_
    | split
    | (intro; intro; intro)

theorem darkTestPulse_kept {s0 : State} {side : Nat} {s : State} (hk : Kept s0 s) : Kept s0 (darkTestPulse side s) := by
  unfold darkTestPulse
  repeat' first
    | with_reducible assumption
    | with_reducible refine Kept.ite ?_ ?_
    | simp only [Kept.mkSame]

theorem darkPulseEnd_kept {s0 : State} {side : Nat} {sawLow : Bool} {backHigh : Bool} {s : State} (hk : Kept s0 s) : Kept s0 (darkPulseEnd side sawLow backHigh s) := by
  unfold darkPulseEnd
  repeat' first
    | with_reducible assumption
    | with_reducible refine State.guardFault_kept ?_
    | with_reducible refine Kept.ite ?_ ?_
    | split
    | ((try lift_lets); intro x; first | (refine (have hx : Kept s0 x := ?a; ?b); case' a => subst x; case' b => clear_value x) | (refine (have hx : Kept s0 x.2 := ?a; ?b); case' a => subst x; case' b => clear_value x) | (refine (have hx : Kept s0 x.1 := ?a; ?b); case' a => subst x; case' b => clear_value x) | (refine (have hx : Kept s0 x.2.2 := ?a; ?b); case' a => subst x; case' b => clear_value x) | (refine (have hx : ∀ t, Kept s0 t → Kept s0 (x t) := ?a; ?b); case' a => subst x; case' b => clear_value x) | (refine (have hx : ∀ t a, Kept s0 t → Kept s0 (x t a) := ?a; ?b); case' a => subst x; case' b => clear_value x) | (refine (have hx : ∀ a t, Kept s0 t → Kept s0 (x a t) := ?a; ?b); case' a => subst x; case' b => clear_value x) | subst x)
    | simp only [Kept.mkSame, Kept.mkPlate, Kept.mkStore, Kept.mkMg]
    | (intro; intro; intro)

theorem strapSample_kept {s0 : State} {straps : Nat} {s : State} (hk : Kept s0 s) : Kept s0 (strapSample straps s) := by
  unfold strapSample
  repeat' first
    | with_reducible assumption
    | with_reducible refine State.guardFault_kept ?_
    | with_reducible refine Kept.set ?_ _ _
    | with_reducible refine Kept.ite ?_ ?_
    | simp only [Kept.mkSame]

theorem clkFault_kept {s0 : State} {s : State} (hk : Kept s0 s) : Kept s0 (clkFault s) := by
  unfold clkFault
  repeat' first
    | with_reducible assumption
    | with_reducible refine State.guardFault_kept ?_
    | simp only [Kept.mkSame]

theorem supervisorClockReturn_kept {s0 : State} {s : State} (hk : Kept s0 s) : Kept s0 (supervisorClockReturn s) := by
  unfold supervisorClockReturn
  repeat' first
    | with_reducible assumption
    | with_reducible refine Kept.raise ?_ _ _
    | with_reducible refine Kept.ite ?_ ?_
    | simp only [Kept.mkSame]

theorem State.guardSafe_kept {s0 : State} {s : State} (hk : Kept s0 s) : Kept s0 (State.guardSafe s) := by
  unfold State.guardSafe
  repeat' first
    | with_reducible assumption
    | with_reducible refine State.biasShutdown_kept ?_
    | with_reducible refine Kept.set ?_ _ _
    | simp only [Kept.mkSame]

end Sys2Proof.Machine
end

