-- ==== Sys2Proof/Laws/KeptProtect.lean ====
section
/-! SUPPORT. Protect: no operation disturbs the queue or the canonical form. -/

set_option linter.unusedSimpArgs false
set_option linter.unusedVariables false

namespace Sys2Proof.Machine

open Sys2Proof

theorem State.setMark_kept {s0 : State} {s : State} {m : Nat} {i : Nat} {v : Nat} (hk : Kept s0 s) : Kept s0 (State.setMark s m i v) := by
  unfold State.setMark
  repeat' first
    | with_reducible assumption
    | simp only [Kept.mkSame]

theorem State.clearMarks_kept {s0 : State} {s : State} {m : Nat} {p : Nat → Bool} (hk : Kept s0 s) : Kept s0 (State.clearMarks s m p) := by
  unfold State.clearMarks
  repeat' first
    | with_reducible assumption
    | simp only [Kept.mkSame]

theorem State.eccLast_kept {s0 : State} {s : State} {kind : Nat} {found : Nat} {m : Nat} {i : Nat} (hk : Kept s0 s) : Kept s0 (State.eccLast s kind found m i) := by
  unfold State.eccLast
  repeat' first
    | with_reducible assumption
    | with_reducible refine Kept.set ?_ _ _

theorem State.countClass_kept {s0 : State} {s : State} {cls : Nat} {k : Nat} (hk : Kept s0 s) : Kept s0 (State.countClass s cls k) := by
  unfold State.countClass
  repeat' first
    | with_reducible assumption
    | with_reducible refine Kept.raise ?_ _ _
    | with_reducible refine Kept.ite ?_ ?_
    | simp only [Kept.mkSame]

theorem State.eccUncorr_kept {s0 : State} {s : State} {found : Nat} {m : Nat} {i : Nat} (hk : Kept s0 s) : Kept s0 (State.eccUncorr s found m i) := by
  unfold State.eccUncorr
  repeat' first
    | with_reducible assumption
    | with_reducible refine State.countClass_kept ?_
    | with_reducible refine State.eccLast_kept ?_
    | with_reducible refine Kept.count ?_ _ _
    | with_reducible refine Kept.flag ?_ _ _ _

theorem State.repairWrite_kept {s0 : State} {s : State} {m : Nat} {i : Nat} {v : Nat} (hk : Kept s0 s) : Kept s0 (State.repairWrite s m i v) := by
  unfold State.repairWrite
  repeat' first
    | with_reducible assumption
    | split
    | simp only [Kept.mkSame]

theorem State.repairFree_kept {s0 : State} {s : State} {e : Nat} (hk : Kept s0 s) : Kept s0 (State.repairFree s e) := by
  unfold State.repairFree
  repeat' first
    | with_reducible assumption
    | with_reducible refine Kept.set ?_ _ _
    | simp only [Kept.mkSame]

theorem State.repairFreeAll_kept {s0 : State} {s : State} {m : Nat} {p : Nat → Bool} (hk : Kept s0 s) : Kept s0 (State.repairFreeAll s m p) := by
  unfold State.repairFreeAll
  repeat' first
    | with_reducible assumption
    | with_reducible refine State.repairFree_kept ?_
    | with_reducible refine Kept.each (fun _ _ _ => ?_) ?_

theorem State.repairFails_kept {s0 : State} {s : State} {m : Nat} {i : Nat} (hk : Kept s0 s) : Kept s0 (State.repairFails s m i) := by
  unfold State.repairFails
  repeat' first
    | with_reducible assumption
    | with_reducible refine State.repairFree_kept ?_
    | split
    | simp only [Kept.mkSame, Kept.mkPlate, Kept.mkStore, Kept.mkMg]
    | (intro; intro; intro)

theorem State.critTag_kept {s0 : State} {s : State} {die : Nat} {w : Nat} {tag : Nat} (hk : Kept s0 s) : Kept s0 (State.critTag s die w tag) := by
  unfold State.critTag
  repeat' first
    | with_reducible assumption
    | simp only [Kept.mkSame]

theorem State.critNext_kept {s0 : State} {s : State} {w : Nat} (hk : Kept s0 s) : Kept s0 (State.critNext s w) := by
  unfold State.critNext
  repeat' first
    | with_reducible assumption
    | with_reducible refine State.critTag_kept ?_
    | split
    | (intro; intro; intro)

end Sys2Proof.Machine
end

