-- ==== Sys2Proof/Laws/KeptPlate.lean ====
section
/-! SUPPORT. Plate: no operation disturbs the queue or the canonical form. -/

set_option linter.unusedSimpArgs false
set_option linter.unusedVariables false

namespace Sys2Proof.Machine

open Sys2Proof

theorem State.histFrom_kept {s0 : State} {s : State} {u : Nat} {b : Bkt} (hk : Kept s0 s) : Kept s0 (State.histFrom s u b) := by
  unfold State.histFrom
  repeat' first
    | with_reducible assumption
    | with_reducible refine Kept.ite ?_ ?_
    | simp only [Kept.mkPlate]

theorem State.histOpen_kept {s0 : State} {s : State} {u : Nat} (hk : Kept s0 s) : Kept s0 (State.histOpen s u) :=
  State.histFrom_kept hk

theorem State.histClose_kept {s0 : State} {s : State} {p : Nat → Bool} (hk : Kept s0 s) : Kept s0 (State.histClose s p) := by
  unfold State.histClose
  repeat' first
    | with_reducible assumption
    | simp only [Kept.mkPlate]

theorem State.quarBit_kept {s0 : State} {s : State} {f : Nat} {b : Bool} (hk : Kept s0 s) : Kept s0 (State.quarBit s f b) := by
  unfold State.quarBit
  repeat' first
    | with_reducible assumption
    | with_reducible refine Kept.set ?_ _ _

theorem State.quarUnit_kept {s0 : State} {s : State} {f : Nat} {b : Bool} (hk : Kept s0 s) : Kept s0 (State.quarUnit s f b) := by
  unfold State.quarUnit
  repeat' first
    | with_reducible assumption
    | with_reducible refine State.quarBit_kept ?_
    | with_reducible refine Kept.each (fun _ _ _ => ?_) ?_

theorem State.quarantine_kept {s0 : State} {s : State} {u cause : Nat} (hk : Kept s0 s) : Kept s0 (State.quarantine s u cause) := by
  unfold State.quarantine
  repeat' first
    | with_reducible assumption
    | with_reducible refine State.histFrom_kept ?_
    | simp only [Kept.mkPlate]

theorem State.plateUncorr_kept {s0 : State} {s : State} {f : Nat} {cause : Nat} (hk : Kept s0 s) : Kept s0 (State.plateUncorr s f cause) := by
  unfold State.plateUncorr
  repeat' first
    | with_reducible assumption
    | with_reducible refine State.quarBit_kept ?_
    | with_reducible refine State.quarUnit_kept ?_
    | with_reducible refine State.quarantine_kept ?_
    | with_reducible refine Kept.set ?_ _ _
    | with_reducible refine Kept.count ?_ _ _
    | with_reducible refine Kept.raise ?_ _ _
    | with_reducible refine Kept.ite ?_ ?_
    | split
    | ((try lift_lets); intro x; first | (refine (have hx : Kept s0 x := ?a; ?b); case' a => subst x; case' b => clear_value x) | (refine (have hx : Kept s0 x.2 := ?a; ?b); case' a => subst x; case' b => clear_value x) | (refine (have hx : Kept s0 x.1 := ?a; ?b); case' a => subst x; case' b => clear_value x) | (refine (have hx : Kept s0 x.2.2 := ?a; ?b); case' a => subst x; case' b => clear_value x) | (refine (have hx : ∀ t, Kept s0 t → Kept s0 (x t) := ?a; ?b); case' a => subst x; case' b => clear_value x) | (refine (have hx : ∀ t a, Kept s0 t → Kept s0 (x t a) := ?a; ?b); case' a => subst x; case' b => clear_value x) | (refine (have hx : ∀ a t, Kept s0 t → Kept s0 (x a t) := ?a; ?b); case' a => subst x; case' b => clear_value x) | subst x)
    | (intro; intro; intro)

theorem State.plateWrite_kept {s0 : State} {s : State} {idx : Nat} {v : Nat} (hk : Kept s0 s) : Kept s0 (State.plateWrite s idx v) := by
  unfold State.plateWrite
  repeat' first
    | with_reducible assumption
    | with_reducible refine State.repairWrite_kept ?_
    | with_reducible refine State.setMark_kept ?_
    | (with_reducible refine Kept.change ?_ ⟨?_, ?_, ?_, ?_, ?_, ?_, ?_, ?_, ?_⟩)
    | exact id
    | exact Sparse.wf_put _ _ _

theorem State.fillPlate_kept {s0 : State} {s : State} (hk : Kept s0 s) : Kept s0 (State.fillPlate s) := by
  unfold State.fillPlate
  repeat' first
    | with_reducible assumption
    | with_reducible refine State.eccUncorr_kept ?_
    | with_reducible refine State.plateUncorr_kept ?_
    | with_reducible refine State.plateWrite_kept ?_
    | with_reducible refine Kept.flag ?_ _ _ _
    | split
    | simp only [Kept.mkSame]

theorem State.bufPlatePut_kept {s0 : State} {s : State} {idx : Nat} {mask : Nat} {data : Nat} (hk : Kept s0 s) : Kept s0 (State.bufPlatePut s idx mask data) := by
  unfold State.bufPlatePut
  repeat' first
    | with_reducible assumption
    | with_reducible refine State.fillPlate_kept ?_
    | with_reducible refine State.plateWrite_kept ?_
    | split
    | simp only [Kept.mkSame]

theorem State.errFrame_kept {s0 : State} {s : State} {f : Nat} (hk : Kept s0 s) : Kept s0 (State.errFrame s f) := by
  unfold State.errFrame
  repeat' first
    | with_reducible assumption
    | with_reducible refine Kept.set ?_ _ _
    | with_reducible refine Kept.ite ?_ ?_
    | simp only [Kept.mkPlate]

theorem State.setBadFrames_kept {s0 : State} {s : State} {l : List (Nat × Bool)} (hk : Kept s0 s) : Kept s0 (State.setBadFrames s l) := by
  unfold State.setBadFrames
  repeat' first
    | with_reducible assumption
    | with_reducible refine Kept.set ?_ _ _
    | simp only [Kept.mkPlate]

theorem State.badFrame_kept {s0 : State} {s : State} {f : Nat} {err : Nat} (hk : Kept s0 s) : Kept s0 (State.badFrame s f err) := by
  unfold State.badFrame
  repeat' first
    | with_reducible assumption
    | with_reducible refine State.errFrame_kept ?_
    | with_reducible refine State.setBadFrames_kept ?_
    | with_reducible refine Kept.set ?_ _ _

theorem plateOpen_kept {s0 : State} {s : State} (hk : Kept s0 s) : Kept s0 (plateOpen s) := by
  unfold plateOpen
  repeat' first
    | with_reducible assumption
    | with_reducible refine State.clearMarks_kept ?_
    | with_reducible refine State.histOpen_kept ?_
    | with_reducible refine State.repairFreeAll_kept ?_
    | with_reducible refine Kept.set ?_ _ _
    | with_reducible refine Kept.ite ?_ ?_
    | (with_reducible refine Kept.change ?_ ⟨?_, ?_, ?_, ?_, ?_, ?_, ?_, ?_, ?_⟩)
    | exact id
    | exact fun _ => Sparse.wf_nil _

theorem plateClearDone_kept {s0 : State} {s : State} (hk : Kept s0 s) : Kept s0 (plateClearDone s) := by
  unfold plateClearDone
  repeat' first
    | with_reducible assumption
    | with_reducible refine State.setBadFrames_kept ?_
    | with_reducible refine Kept.set ?_ _ _
    | with_reducible refine Kept.ite ?_ ?_
    | simp only [Kept.mkPlate]

theorem plateAbort_kept {s0 : State} {s : State} (hk : Kept s0 s) : Kept s0 (plateAbort s) := by
  unfold plateAbort
  repeat' first
    | with_reducible assumption
    | with_reducible refine State.clearMarks_kept ?_
    | with_reducible refine Kept.set ?_ _ _
    | with_reducible refine Kept.ite ?_ ?_
    | (with_reducible refine Kept.change ?_ ⟨?_, ?_, ?_, ?_, ?_, ?_, ?_, ?_, ?_⟩)
    | exact id
    | exact fun _ => Sparse.wf_nil _

theorem plateFcrcWrite_kept {s0 : State} {frame : Nat} {crc : Nat} {s : State} (hk : Kept s0 s) : Kept s0 (plateFcrcWrite frame crc s) := by
  unfold plateFcrcWrite
  repeat' first
    | with_reducible assumption
    | with_reducible refine State.badFrame_kept ?_
    | with_reducible refine Kept.set ?_ _ _
    | split
    | simp only [Kept.mkPlate]

theorem State.frameEnd_kept {s0 : State} {s : State} {f : Nat} (hk : Kept s0 s) : Kept s0 (State.frameEnd s f) := by
  unfold State.frameEnd
  repeat' first
    | with_reducible assumption
    | with_reducible refine State.badFrame_kept ?_
    | with_reducible refine State.setBadFrames_kept ?_
    | with_reducible refine Kept.ite ?_ ?_

theorem State.orderViolation_kept {s0 : State} {s : State} (hk : Kept s0 s) : Kept s0 (State.orderViolation s) := by
  unfold State.orderViolation
  repeat' first
    | with_reducible assumption
    | with_reducible refine State.badFrame_kept ?_
    | simp only [Kept.mkPlate]

theorem plateWindowWrite_kept {s0 : State} {addr : Nat} {data : Nat} {be : Nat} {s : State} (hk : Kept s0 s) : Kept s0 (plateWindowWrite addr data be s) := by
  unfold plateWindowWrite
  repeat' first
    | with_reducible assumption
    | with_reducible refine State.badFrame_kept ?_
    | with_reducible refine State.bufPlatePut_kept ?_
    | with_reducible refine State.frameEnd_kept ?_
    | with_reducible refine State.orderViolation_kept ?_
    | split
    | simp only [Kept.mkPlate]

theorem plateCommit_kept {s0 : State} {lane : Option Nat} {s : State} (hk : Kept s0 s) : Kept s0 (plateCommit lane s) := by
  unfold plateCommit
  repeat' first
    | with_reducible assumption
    | with_reducible refine State.fillPlate_kept ?_
    | with_reducible refine Kept.set ?_ _ _
    | with_reducible refine Kept.ite ?_ ?_
    | simp only [Kept.mkPlate]

theorem State.commitFail_kept {s0 : State} {s : State} {err : Nat} {check : Nat} {frame : Nat} (hk : Kept s0 s) : Kept s0 (State.commitFail s err check frame) := by
  unfold State.commitFail
  repeat' first
    | with_reducible assumption
    | with_reducible refine Kept.set ?_ _ _
    | with_reducible refine Kept.raise ?_ _ _
    | simp only [Kept.mkPlate]

theorem State.commitLoad_kept {s0 : State} {s : State} (hk : Kept s0 s) : Kept s0 (State.commitLoad s) := by
  have h1 : Kept s0 (s.histClose fun _ => true) := State.histClose_kept hk
  unfold State.commitLoad
  dsimp only
  refine Kept.set (Kept.set (Kept.each (fun _ _ h => ((((h.set _ _).set _ _).set _ _).set _ _)) (Kept.each
    (fun _ _ h => h.set _ _) (Kept.each (fun _ _ h => State.critNext_kept h) ?_))) _ _) _ _
  refine ⟨h1.1, fun hc => ?_⟩
  have h2 := h1.2 hc
  rw [State.canonical_iff] at h2 ⊢
  exact ⟨h2.1, h2.2.1, h2.2.2.1, h2.2.2.2.1, Sparse.wf_filter _ _ h2.2.2.1, h2.2.2.2.2.2⟩

theorem reloadGo_kept {s0 : State} {first : Nat} {count : Nat} {s : State} (hk : Kept s0 s) : Kept s0 (reloadGo first count s) := by
  unfold reloadGo
  repeat' first
    | with_reducible assumption
    | with_reducible refine Kept.set ?_ _ _
    | split
    | simp only [Kept.mkPlate]

theorem reloadCancel_kept {s0 : State} {s : State} (hk : Kept s0 s) : Kept s0 (reloadCancel s) := by
  unfold reloadCancel
  repeat' first
    | with_reducible assumption
    | with_reducible refine Kept.set ?_ _ _
    | with_reducible refine Kept.ite ?_ ?_
    | split
    | simp only [Kept.mkSame, Kept.mkPlate, Kept.mkStore, Kept.mkMg]
    | (intro; intro; intro)

theorem State.reloadWrite_kept {s0 : State} {s : State} {readBackOk : Bool} (hk : Kept s0 s) : Kept s0 (State.reloadWrite s readBackOk) := by
  unfold State.reloadWrite
  repeat' first
    | with_reducible assumption
    | with_reducible refine State.histOpen_kept ?_
    | with_reducible refine State.plateWrite_kept ?_
    | with_reducible refine State.quarUnit_kept ?_
    | with_reducible refine State.repairFreeAll_kept ?_
    | with_reducible refine Kept.set ?_ _ _
    | with_reducible refine Kept.each (fun _ _ _ => ?_) ?_
    | with_reducible refine Kept.ite ?_ ?_
    | simp only [Kept.mkPlate]

theorem State.failedFrame_kept {s0 : State} {s : State} (hk : Kept s0 s) : Kept s0 (State.failedFrame s).2 := by
  unfold State.failedFrame
  split
  · exact hk
  · exact hk.draw

theorem State.quarKeep_kept {s0 : State} {s : State} {f : Nat} (hk : Kept s0 s) : Kept s0 (State.quarKeep s f) := by
  unfold State.quarKeep
  repeat' first
    | with_reducible assumption
    | with_reducible refine State.quarBit_kept ?_
    | with_reducible refine Kept.each (fun _ _ _ => ?_) ?_
    | split
    | (intro; intro; intro)

theorem State.reloadEnd_kept {s0 : State} {s : State} (hk : Kept s0 s) : Kept s0 (State.reloadEnd s) := by
  unfold State.reloadEnd
  repeat' first
    | with_reducible assumption
    | with_reducible refine State.failedFrame_kept ?_
    | (apply State.failedFrame_keptE; assumption)
    | with_reducible refine State.histClose_kept ?_
    | with_reducible refine State.quarKeep_kept ?_
    | with_reducible refine Kept.set ?_ _ _
    | with_reducible refine Kept.count ?_ _ _
    | with_reducible refine Kept.raise ?_ _ _
    | with_reducible refine Kept.ite ?_ ?_
    | split
    | ((try lift_lets); intro x; first | (refine (have hx : Kept s0 x := ?a; ?b); case' a => subst x; case' b => clear_value x) | (refine (have hx : Kept s0 x.2 := ?a; ?b); case' a => subst x; case' b => clear_value x) | (refine (have hx : Kept s0 x.1 := ?a; ?b); case' a => subst x; case' b => clear_value x) | (refine (have hx : Kept s0 x.2.2 := ?a; ?b); case' a => subst x; case' b => clear_value x) | (refine (have hx : ∀ t, Kept s0 t → Kept s0 (x t) := ?a; ?b); case' a => subst x; case' b => clear_value x) | (refine (have hx : ∀ t a, Kept s0 t → Kept s0 (x t a) := ?a; ?b); case' a => subst x; case' b => clear_value x) | (refine (have hx : ∀ a t, Kept s0 t → Kept s0 (x a t) := ?a; ?b); case' a => subst x; case' b => clear_value x) | subst x)
    | simp only [Kept.mkSame, Kept.mkPlate, Kept.mkStore, Kept.mkMg]
    | (intro; intro; intro)

theorem stageWrite_kept {s0 : State} {addr : Nat} {data : Nat} {be : Nat} {s : State} (hk : Kept s0 s) :
    Kept s0 (stageWrite addr data be s) := by
  unfold stageWrite
  extract_lets st i h w
  clear_value st i h w
  with_reducible refine Kept.ite hk ?_
  with_reducible refine Kept.change hk ?_
  exact ⟨id, id, id, Sparse.wf_put _ _ _, id, id, id, id, id⟩

end Sys2Proof.Machine
end

