-- ==== Sys2Proof/Laws/KeptStore.lean ====
section
/-! SUPPORT. Store: no operation disturbs the queue or the canonical form. -/

set_option linter.unusedSimpArgs false
set_option linter.unusedVariables false

namespace Sys2Proof.Machine

open Sys2Proof

theorem State.setDesc_kept {s0 : State} {s : State} {k : Nat} {d : Desc} (hk : Kept s0 s) : Kept s0 (State.setDesc s k d) := by
  unfold State.setDesc
  repeat' first
    | with_reducible assumption
    | simp only [Kept.mkStore]

theorem State.putDesc_kept {s0 : State} {s : State} {at_ : DescAt} {d : Desc} (hk : Kept s0 s) : Kept s0 (State.putDesc s at_ d) := by
  unfold State.putDesc
  repeat' first
    | with_reducible assumption
    | with_reducible refine State.setDesc_kept ?_
    | split
    | simp only [Kept.mkStore]

theorem State.setLink_kept {s0 : State} {s : State} {r : Nat} {v : Nat} (hk : Kept s0 s) : Kept s0 (State.setLink s r v) := by
  unfold State.setLink
  repeat' first
    | with_reducible assumption
    | with_reducible refine State.repairWrite_kept ?_
    | with_reducible refine State.setMark_kept ?_
    | (with_reducible refine Kept.change ?_ ⟨?_, ?_, ?_, ?_, ?_, ?_, ?_, ?_, ?_⟩)
    | exact id
    | exact Sparse.wf_put _ _ _

theorem State.setFree_kept {s0 : State} {s : State} (hk : Kept s0 s) : Kept s0 (State.setFree s) := by
  unfold State.setFree
  repeat' first
    | with_reducible assumption
    | with_reducible refine Kept.set ?_ _ _
    | with_reducible refine Kept.flag ?_ _ _ _
    | with_reducible refine Kept.iff (fun _ _ => ?_) ?_

theorem State.freeRowList_kept {s0 : State} {s : State} {rows : List Nat} (hk : Kept s0 s) : Kept s0 (State.freeRowList s rows) := by
  unfold State.freeRowList
  repeat' first
    | with_reducible assumption
    | with_reducible refine State.setFree_kept ?_
    | with_reducible refine State.setMark_kept ?_
    | with_reducible refine Kept.each (fun _ _ _ => ?_) ?_
    | simp only [Kept.mkStore]

theorem State.freeBucket_kept {s0 : State} {s : State} {d : Desc} (hk : Kept s0 s) : Kept s0 (State.freeBucket s d) := by
  unfold State.freeBucket
  repeat' first
    | with_reducible assumption
    | with_reducible refine State.freeRowList_kept ?_
    | with_reducible refine Kept.count ?_ _ _

theorem State.depthUpdate_kept {s0 : State} {s : State} (hk : Kept s0 s) : Kept s0 (State.depthUpdate s) := by
  unfold State.depthUpdate
  repeat' first
    | with_reducible assumption
    | with_reducible refine Kept.set ?_ _ _
    | with_reducible refine Kept.ite ?_ ?_
    | split
    | (intro; intro; intro)

theorem State.pin_kept {s0 : State} {s : State} {b : Bkt} (hk : Kept s0 s) : OptKept s0 (State.pin s b) := by
  unfold State.pin
  repeat' first
    | with_reducible assumption
    | with_reducible refine OptKept.ite ?_ ?_
    | with_reducible refine OptKept.some ?_
    | with_reducible exact OptKept.none
    | with_reducible refine State.putDesc_kept ?_
    | split
theorem State.pin_keptE {s0 : State} {s : State} {b : Bkt} {t} (e : State.pin s b = some t) (hk : Kept s0 s) : Kept s0 t := State.pin_kept hk t e

theorem State.unpin_kept {s0 : State} {s : State} {b : Bkt} (hk : Kept s0 s) : Kept s0 (State.unpin s b) := by
  unfold State.unpin
  repeat' first
    | with_reducible assumption
    | with_reducible refine State.freeBucket_kept ?_
    | with_reducible refine State.putDesc_kept ?_
    | with_reducible refine State.setDesc_kept ?_
    | with_reducible refine Kept.set ?_ _ _
    | split
    | simp only [Kept.mkStore]

theorem State.ageOutSlot_kept {s0 : State} {s : State} {k : Nat} (hk : Kept s0 s) : Kept s0 (State.ageOutSlot s k) := by
  unfold State.ageOutSlot
  repeat' first
    | with_reducible assumption
    | with_reducible refine State.freeBucket_kept ?_
    | with_reducible refine State.putDesc_kept ?_
    | with_reducible refine State.setDesc_kept ?_
    | with_reducible refine Kept.set ?_ _ _
    | with_reducible refine Kept.count ?_ _ _
    | with_reducible refine Kept.flag ?_ _ _ _
    | with_reducible refine Kept.ite ?_ ?_
    | split

theorem State.chainErr_kept {s0 : State} {s : State} {lost : Nat} (hk : Kept s0 s) : Kept s0 (State.chainErr s lost) := by
  unfold State.chainErr
  repeat' first
    | with_reducible assumption
    | with_reducible refine Kept.count ?_ _ _
    | with_reducible refine Kept.flag ?_ _ _ _

theorem State.descBroken_kept {s0 : State} {s : State} {a : DescAt} {d : Desc} (hk : Kept s0 s) : Kept s0 (State.descBroken s a d) := by
  unfold State.descBroken
  repeat' first
    | with_reducible assumption
    | with_reducible refine State.chainErr_kept ?_
    | with_reducible refine State.repairFails_kept ?_
    | with_reducible refine State.setDesc_kept ?_
    | with_reducible refine Kept.set ?_ _ _
    | split
    | ((try lift_lets); intro x; first | (refine (have hx : Kept s0 x := ?a; ?b); case' a => subst x; case' b => clear_value x) | (refine (have hx : Kept s0 x.2 := ?a; ?b); case' a => subst x; case' b => clear_value x) | (refine (have hx : Kept s0 x.1 := ?a; ?b); case' a => subst x; case' b => clear_value x) | (refine (have hx : Kept s0 x.2.2 := ?a; ?b); case' a => subst x; case' b => clear_value x) | (refine (have hx : ∀ t, Kept s0 t → Kept s0 (x t) := ?a; ?b); case' a => subst x; case' b => clear_value x) | (refine (have hx : ∀ t a, Kept s0 t → Kept s0 (x t a) := ?a; ?b); case' a => subst x; case' b => clear_value x) | (refine (have hx : ∀ a t, Kept s0 t → Kept s0 (x a t) := ?a; ?b); case' a => subst x; case' b => clear_value x) | subst x)
    | simp only [Kept.mkSame, Kept.mkPlate, Kept.mkStore, Kept.mkMg]
    | (intro; intro; intro)

theorem State.linkBroken_kept {s0 : State} {s : State} {r : Nat} (hk : Kept s0 s) : Kept s0 (State.linkBroken s r) := by
  unfold State.linkBroken
  repeat' first
    | with_reducible assumption
    | with_reducible refine State.chainErr_kept ?_
    | with_reducible refine State.repairFails_kept ?_
    | with_reducible refine State.setFree_kept ?_
    | with_reducible refine State.setMark_kept ?_
    | with_reducible refine Kept.draw ?_
    | (apply Kept.drawE; with_reducible assumption)
    | with_reducible refine Kept.ite ?_ ?_
    | split
    | ((try lift_lets); intro x; first | (refine (have hx : Kept s0 x := ?a; ?b); case' a => subst x; case' b => clear_value x) | (refine (have hx : Kept s0 x.2 := ?a; ?b); case' a => subst x; case' b => clear_value x) | (refine (have hx : Kept s0 x.1 := ?a; ?b); case' a => subst x; case' b => clear_value x) | (refine (have hx : Kept s0 x.2.2 := ?a; ?b); case' a => subst x; case' b => clear_value x) | (refine (have hx : ∀ t, Kept s0 t → Kept s0 (x t) := ?a; ?b); case' a => subst x; case' b => clear_value x) | (refine (have hx : ∀ t a, Kept s0 t → Kept s0 (x t a) := ?a; ?b); case' a => subst x; case' b => clear_value x) | (refine (have hx : ∀ a t, Kept s0 t → Kept s0 (x a t) := ?a; ?b); case' a => subst x; case' b => clear_value x) | subst x)
    | simp only [Kept.mkSame, Kept.mkPlate, Kept.mkStore, Kept.mkMg]
    | (intro; intro; intro)

theorem ageOut_kept {s0 : State} {desc : Bool} {link : Option Nat} {s : State} (hk : Kept s0 s) : Kept s0 (ageOut desc link s) := by
  unfold ageOut
  repeat' first
    | with_reducible assumption
    | with_reducible refine State.ageOutSlot_kept ?_
    | with_reducible refine State.depthUpdate_kept ?_
    | with_reducible refine State.descBroken_kept ?_
    | with_reducible refine State.linkBroken_kept ?_
    | with_reducible refine Kept.iff (fun _ _ => ?_) ?_
    | with_reducible refine Kept.ite ?_ ?_
    | split
    | ((try lift_lets); intro x; first | (refine (have hx : Kept s0 x := ?a; ?b); case' a => subst x; case' b => clear_value x) | (refine (have hx : Kept s0 x.2 := ?a; ?b); case' a => subst x; case' b => clear_value x) | (refine (have hx : Kept s0 x.1 := ?a; ?b); case' a => subst x; case' b => clear_value x) | (refine (have hx : Kept s0 x.2.2 := ?a; ?b); case' a => subst x; case' b => clear_value x) | (refine (have hx : ∀ t, Kept s0 t → Kept s0 (x t) := ?a; ?b); case' a => subst x; case' b => clear_value x) | (refine (have hx : ∀ t a, Kept s0 t → Kept s0 (x t a) := ?a; ?b); case' a => subst x; case' b => clear_value x) | (refine (have hx : ∀ a t, Kept s0 t → Kept s0 (x a t) := ?a; ?b); case' a => subst x; case' b => clear_value x) | subst x)
    | simp only [Kept.mkSame, Kept.mkPlate, Kept.mkStore, Kept.mkMg]
    | (intro; intro; intro)

theorem State.flushStart_kept {s0 : State} {s : State} (hk : Kept s0 s) : Kept s0 (State.flushStart s) := by
  unfold State.flushStart
  repeat' first
    | with_reducible assumption
    | with_reducible refine State.clearMarks_kept ?_
    | with_reducible refine Kept.set ?_ _ _
    | split
    | ((try lift_lets); intro x; first | (refine (have hx : Kept s0 x := ?a; ?b); case' a => subst x; case' b => clear_value x) | (refine (have hx : Kept s0 x.2 := ?a; ?b); case' a => subst x; case' b => clear_value x) | (refine (have hx : Kept s0 x.1 := ?a; ?b); case' a => subst x; case' b => clear_value x) | (refine (have hx : Kept s0 x.2.2 := ?a; ?b); case' a => subst x; case' b => clear_value x) | (refine (have hx : ∀ t, Kept s0 t → Kept s0 (x t) := ?a; ?b); case' a => subst x; case' b => clear_value x) | (refine (have hx : ∀ t a, Kept s0 t → Kept s0 (x t a) := ?a; ?b); case' a => subst x; case' b => clear_value x) | (refine (have hx : ∀ a t, Kept s0 t → Kept s0 (x a t) := ?a; ?b); case' a => subst x; case' b => clear_value x) | subst x)
    | simp only [Kept.mkSame, Kept.mkPlate, Kept.mkStore, Kept.mkMg]
    | (intro; intro; intro)

theorem State.updReady_kept {s0 : State} {s : State} (hk : Kept s0 s) : Kept s0 (State.updReady s) := by
  unfold State.updReady
  repeat' first
    | with_reducible assumption
    | with_reducible refine Kept.setB ?_ _ _

theorem State.flushEnd_kept {s0 : State} {s : State} (hk : Kept s0 s) : Kept s0 (State.flushEnd s) := by
  unfold State.flushEnd
  repeat' first
    | with_reducible assumption
    | with_reducible refine State.updReady_kept ?_
    | with_reducible refine Kept.set ?_ _ _
    | with_reducible refine Kept.raise ?_ _ _
    | with_reducible refine Kept.iff (fun _ _ => ?_) ?_
    | split
    | ((try lift_lets); intro x; first | (refine (have hx : Kept s0 x := ?a; ?b); case' a => subst x; case' b => clear_value x) | (refine (have hx : Kept s0 x.2 := ?a; ?b); case' a => subst x; case' b => clear_value x) | (refine (have hx : Kept s0 x.1 := ?a; ?b); case' a => subst x; case' b => clear_value x) | (refine (have hx : Kept s0 x.2.2 := ?a; ?b); case' a => subst x; case' b => clear_value x) | (refine (have hx : ∀ t, Kept s0 t → Kept s0 (x t) := ?a; ?b); case' a => subst x; case' b => clear_value x) | (refine (have hx : ∀ t a, Kept s0 t → Kept s0 (x t a) := ?a; ?b); case' a => subst x; case' b => clear_value x) | (refine (have hx : ∀ a t, Kept s0 t → Kept s0 (x a t) := ?a; ?b); case' a => subst x; case' b => clear_value x) | subst x)
    | simp only [Kept.mkSame, Kept.mkPlate, Kept.mkStore, Kept.mkMg]
    | (intro; intro; intro)

theorem State.hqRefused_kept {s0 : State} {s : State} (hk : Kept s0 s) : Kept s0 (State.hqRefused s) := by
  unfold State.hqRefused
  repeat' first
    | with_reducible assumption
    | with_reducible refine Kept.flag ?_ _ _ _

theorem depthReset_kept {s0 : State} {s : State} (hk : Kept s0 s) : Kept s0 (depthReset s) := by
  unfold depthReset
  repeat' first
    | with_reducible assumption
    | with_reducible refine Kept.set ?_ _ _

theorem State.reclaim_kept {s0 : State} {s : State} (hk : Kept s0 s) : OptKept s0 (State.reclaim s) := by
  unfold State.reclaim
  repeat' first
    | with_reducible assumption
    | with_reducible refine OptKept.ite ?_ ?_
    | with_reducible refine OptKept.some ?_
    | with_reducible exact OptKept.none
    | with_reducible refine State.depthUpdate_kept ?_
    | with_reducible refine State.freeBucket_kept ?_
    | with_reducible refine State.putDesc_kept ?_
    | with_reducible refine Kept.count ?_ _ _
    | with_reducible refine Kept.flag ?_ _ _ _
    | split
theorem State.reclaim_keptE {s0 : State} {s : State} {t} (e : State.reclaim s = some t) (hk : Kept s0 s) : Kept s0 t := State.reclaim_kept hk t e

theorem State.takeRow_keptE {s0 : State} {s : State} {row : Nat} {a0 t} (e : State.takeRow s row = some (a0, t)) (hk : Kept s0 s) : Kept s0 t := by
  revert e; unfold State.takeRow
  repeat' first
    | with_reducible assumption
    | with_reducible refine State.setFree_kept ?_
    | split
    | (intro e; contradiction)
    | (intro e; injection e with e; injection e with e1 e2; subst e2)
    | simp only [Kept.mkStore]

theorem State.reclaimRow_kept {s0 : State} {row : Nat} {n : Nat} {s : State} (hk : Kept s0 s) :
    Kept s0 (State.reclaimRow row n s).2 ∧ ∀ r t, (State.reclaimRow row n s).1 = some (r, t) → Kept s0 t := by
  induction n generalizing s with
  | zero => exact ⟨hk, fun _ _ e => nomatch e⟩
  | succ n ih =>
    unfold State.reclaimRow
    split
    · exact ⟨hk, fun _ _ e => nomatch e⟩
    · next t e =>
      have ht : Kept s0 t := State.reclaim_keptE e hk
      split
      · exact ⟨ht, fun _ _ e => State.takeRow_keptE e ht⟩
      · exact ih ht

theorem State.sealFront_kept {s0 : State} {s : State} (hk : Kept s0 s) : Kept s0 (State.sealFront s) := by
  unfold State.sealFront
  repeat' first
    | with_reducible assumption
    | with_reducible refine State.setDesc_kept ?_
    | split
    | simp only [Kept.mkStore]

theorem State.fullDrop_kept {s0 : State} {s : State} (hk : Kept s0 s) : Kept s0 (State.fullDrop s) := by
  unfold State.fullDrop
  repeat' first
    | with_reducible assumption
    | with_reducible refine State.setDesc_kept ?_
    | with_reducible refine Kept.count ?_ _ _
    | with_reducible refine Kept.flag ?_ _ _ _
    | split
    | simp only [Kept.mkStore]

theorem State.writeEntry_kept {s0 : State} {s : State} {bank : Nat} {row : Nat} {v : Nat} (hk : Kept s0 s) : Kept s0 (State.writeEntry s bank row v) := by
  unfold State.writeEntry
  repeat' first
    | with_reducible assumption
    | with_reducible refine State.repairWrite_kept ?_
    | with_reducible refine State.setMark_kept ?_
    | (with_reducible refine Kept.change ?_ ⟨?_, ?_, ?_, ?_, ?_, ?_, ?_, ?_, ?_⟩)
    | exact id
    | exact Sparse.wf_put _ _ _

theorem State.writeRow_kept {s0 : State} {s : State} {r : Nat} (hk : Kept s0 s) : Kept s0 (State.writeRow s r) := by
  unfold State.writeRow
  repeat' first
    | with_reducible assumption
    | with_reducible refine State.setDesc_kept ?_
    | with_reducible refine State.setLink_kept ?_
    | with_reducible refine State.writeEntry_kept ?_
    | with_reducible refine Kept.count ?_ _ _
    | with_reducible refine Kept.each (fun _ _ _ => ?_) ?_
    | with_reducible refine Kept.ite ?_ ?_
    | split
    | ((try lift_lets); intro x; first | (refine (have hx : Kept s0 x := ?a; ?b); case' a => subst x; case' b => clear_value x) | (refine (have hx : Kept s0 x.2 := ?a; ?b); case' a => subst x; case' b => clear_value x) | (refine (have hx : Kept s0 x.1 := ?a; ?b); case' a => subst x; case' b => clear_value x) | (refine (have hx : Kept s0 x.2.2 := ?a; ?b); case' a => subst x; case' b => clear_value x) | (refine (have hx : ∀ t, Kept s0 t → Kept s0 (x t) := ?a; ?b); case' a => subst x; case' b => clear_value x) | (refine (have hx : ∀ t a, Kept s0 t → Kept s0 (x t a) := ?a; ?b); case' a => subst x; case' b => clear_value x) | (refine (have hx : ∀ a t, Kept s0 t → Kept s0 (x a t) := ?a; ?b); case' a => subst x; case' b => clear_value x) | subst x)
    | simp only [Kept.mkSame, Kept.mkPlate, Kept.mkStore, Kept.mkMg]
    | (intro; intro; intro)

theorem storeRowWrite_kept {s0 : State} {row : Nat} {s : State} (hk : Kept s0 s) : Kept s0 (storeRowWrite row s) := by
  have hr := @State.reclaimRow_kept s0 row (s.store.desc.length + s.store.keep.length) s hk
  unfold storeRowWrite
  split
  · exact hk
  · refine Kept.ite hk (Kept.ite (State.fullDrop_kept hk) (Kept.ite ?_ ?_))
    · split
      · next e => rw [e] at hr; exact State.writeRow_kept (hr.2 _ _ rfl)
      · next e => rw [e] at hr; exact State.fullDrop_kept hr.1
    · split
      · exact State.writeRow_kept (State.takeRow_keptE (by assumption) hk)
      · exact hk

theorem State.sealBucket_kept {s0 : State} {s : State} {b : Bkt} {absent : Nat} (hk : Kept s0 s) : Kept s0 (State.sealBucket s b absent).1 := by
  unfold State.sealBucket
  repeat' first
    | with_reducible assumption
    | with_reducible refine State.setDesc_kept ?_
    | with_reducible refine Kept.count ?_ _ _
    | simp only [Kept.mkStore]
theorem State.sealBucket_keptE {s0 : State} {s : State} {b : Bkt} {absent : Nat} {x} {t : State} (e : State.sealBucket s b absent = (t, x)) (hk : Kept s0 s) : Kept s0 t := by
  have k := State.sealBucket_kept (s := s) (b := b) (absent := absent) hk
  rw [e] at k; exact k

theorem State.setBanks_kept {s0 : State} {s : State} {inService : Nat} {clearing : Nat} (hk : Kept s0 s) : Kept s0 (State.setBanks s inService clearing) := by
  unfold State.setBanks
  repeat' first
    | with_reducible assumption
    | with_reducible refine Kept.set ?_ _ _
    | with_reducible refine Kept.each (fun _ _ _ => ?_) ?_

theorem State.loseBanks_kept {s0 : State} {s : State} {out : Nat} (hk : Kept s0 s) : Kept s0 (State.loseBanks s out) := by
  unfold State.loseBanks
  repeat' first
    | with_reducible assumption
    | with_reducible refine Kept.foldl (fun _ _ _ => ?_) ?_
    | with_reducible refine Kept.foldlSnd (fun _ _ _ => ?_) ?_
    | with_reducible refine Kept.foldlSnd2 (fun _ _ _ => ?_) ?_
    | split
    | simp only [Kept.mkSame, Kept.mkPlate, Kept.mkStore, Kept.mkMg]
    | (intro; intro; intro)

theorem State.wantBanks_kept {s0 : State} {s : State} {want : Nat} (hk : Kept s0 s) : Kept s0 (State.wantBanks s want) := by
  unfold State.wantBanks
  repeat' first
    | with_reducible assumption
    | with_reducible refine State.loseBanks_kept ?_
    | with_reducible refine State.setBanks_kept ?_
    | split
    | ((try lift_lets); intro x; first | (refine (have hx : Kept s0 x := ?a; ?b); case' a => subst x; case' b => clear_value x) | (refine (have hx : Kept s0 x.2 := ?a; ?b); case' a => subst x; case' b => clear_value x) | (refine (have hx : Kept s0 x.1 := ?a; ?b); case' a => subst x; case' b => clear_value x) | (refine (have hx : Kept s0 x.2.2 := ?a; ?b); case' a => subst x; case' b => clear_value x) | (refine (have hx : ∀ t, Kept s0 t → Kept s0 (x t) := ?a; ?b); case' a => subst x; case' b => clear_value x) | (refine (have hx : ∀ t a, Kept s0 t → Kept s0 (x t a) := ?a; ?b); case' a => subst x; case' b => clear_value x) | (refine (have hx : ∀ a t, Kept s0 t → Kept s0 (x a t) := ?a; ?b); case' a => subst x; case' b => clear_value x) | subst x)
    | simp only [Kept.mkSame, Kept.mkPlate, Kept.mkStore, Kept.mkMg]
    | (intro; intro; intro)

theorem State.retireBanks_kept {s0 : State} {s : State} (hk : Kept s0 s) : Kept s0 (State.retireBanks s) := by
  unfold State.retireBanks
  repeat' first
    | with_reducible assumption
    | with_reducible refine State.assayCheck_kept ?_
    | with_reducible refine State.updReady_kept ?_
    | with_reducible refine State.wantBanks_kept ?_
    | split
    | (intro; intro; intro)

theorem bankRetire_kept {s0 : State} {mask : Nat} {s : State} (hk : Kept s0 s) : Kept s0 (bankRetire mask s) := by
  unfold bankRetire
  repeat' first
    | with_reducible assumption
    | with_reducible refine State.critNext_kept ?_
    | with_reducible refine State.hqRefused_kept ?_
    | with_reducible refine State.retireBanks_kept ?_
    | with_reducible refine Kept.set ?_ _ _
    | with_reducible refine Kept.atEdge (fun _ _ => ?_) ?_
    | with_reducible refine Kept.ite ?_ ?_
    | split
    | ((try lift_lets); intro x; first | (refine (have hx : Kept s0 x := ?a; ?b); case' a => subst x; case' b => clear_value x) | (refine (have hx : Kept s0 x.2 := ?a; ?b); case' a => subst x; case' b => clear_value x) | (refine (have hx : Kept s0 x.1 := ?a; ?b); case' a => subst x; case' b => clear_value x) | (refine (have hx : Kept s0 x.2.2 := ?a; ?b); case' a => subst x; case' b => clear_value x) | (refine (have hx : ∀ t, Kept s0 t → Kept s0 (x t) := ?a; ?b); case' a => subst x; case' b => clear_value x) | (refine (have hx : ∀ t a, Kept s0 t → Kept s0 (x t a) := ?a; ?b); case' a => subst x; case' b => clear_value x) | (refine (have hx : ∀ a t, Kept s0 t → Kept s0 (x a t) := ?a; ?b); case' a => subst x; case' b => clear_value x) | subst x)
    | (intro; intro; intro)

theorem State.commitBanks_kept {s0 : State} {s : State} (hk : Kept s0 s) : Kept s0 (State.commitBanks s) := by
  unfold State.commitBanks
  repeat' first
    | with_reducible assumption
    | with_reducible refine State.updReady_kept ?_
    | with_reducible refine State.wantBanks_kept ?_
    | split
    | ((try lift_lets); intro x; first | (refine (have hx : Kept s0 x := ?a; ?b); case' a => subst x; case' b => clear_value x) | (refine (have hx : Kept s0 x.2 := ?a; ?b); case' a => subst x; case' b => clear_value x) | (refine (have hx : Kept s0 x.1 := ?a; ?b); case' a => subst x; case' b => clear_value x) | (refine (have hx : Kept s0 x.2.2 := ?a; ?b); case' a => subst x; case' b => clear_value x) | (refine (have hx : ∀ t, Kept s0 t → Kept s0 (x t) := ?a; ?b); case' a => subst x; case' b => clear_value x) | (refine (have hx : ∀ t a, Kept s0 t → Kept s0 (x t a) := ?a; ?b); case' a => subst x; case' b => clear_value x) | (refine (have hx : ∀ a t, Kept s0 t → Kept s0 (x a t) := ?a; ?b); case' a => subst x; case' b => clear_value x) | subst x)
    | simp only [Kept.mkSame, Kept.mkPlate, Kept.mkStore, Kept.mkMg]
    | (intro; intro; intro)

theorem State.bankJoins_kept {s0 : State} {s : State} {bank : Nat} (hk : Kept s0 s) : Kept s0 (State.bankJoins s bank) := by
  unfold State.bankJoins
  repeat' first
    | with_reducible assumption
    | with_reducible refine State.setBanks_kept ?_
    | with_reducible refine State.updReady_kept ?_
    | with_reducible refine Kept.raise ?_ _ _
    | with_reducible refine Kept.ite ?_ ?_
    | split
    | ((try lift_lets); intro x; first | (refine (have hx : Kept s0 x := ?a; ?b); case' a => subst x; case' b => clear_value x) | (refine (have hx : Kept s0 x.2 := ?a; ?b); case' a => subst x; case' b => clear_value x) | (refine (have hx : Kept s0 x.1 := ?a; ?b); case' a => subst x; case' b => clear_value x) | (refine (have hx : Kept s0 x.2.2 := ?a; ?b); case' a => subst x; case' b => clear_value x) | (refine (have hx : ∀ t, Kept s0 t → Kept s0 (x t) := ?a; ?b); case' a => subst x; case' b => clear_value x) | (refine (have hx : ∀ t a, Kept s0 t → Kept s0 (x t a) := ?a; ?b); case' a => subst x; case' b => clear_value x) | (refine (have hx : ∀ a t, Kept s0 t → Kept s0 (x a t) := ?a; ?b); case' a => subst x; case' b => clear_value x) | subst x)
    | simp only [Kept.mkSame, Kept.mkPlate, Kept.mkStore, Kept.mkMg]
    | (intro; intro; intro)

theorem bankClearDone_kept {s0 : State} {bank : Nat} {s : State} (hk : Kept s0 s) : Kept s0 (bankClearDone bank s) := by
  unfold bankClearDone
  repeat' first
    | with_reducible assumption
    | with_reducible refine State.bankJoins_kept ?_
    | with_reducible refine State.clearMarks_kept ?_
    | with_reducible refine State.setBanks_kept ?_
    | with_reducible refine State.updReady_kept ?_
    | with_reducible refine Kept.atEdge (fun _ _ => ?_) ?_
    | with_reducible refine Kept.ite ?_ ?_
    | split
    | ((try lift_lets); intro x; first | (refine (have hx : Kept s0 x := ?a; ?b); case' a => subst x; case' b => clear_value x) | (refine (have hx : Kept s0 x.2 := ?a; ?b); case' a => subst x; case' b => clear_value x) | (refine (have hx : Kept s0 x.1 := ?a; ?b); case' a => subst x; case' b => clear_value x) | (refine (have hx : Kept s0 x.2.2 := ?a; ?b); case' a => subst x; case' b => clear_value x) | (refine (have hx : ∀ t, Kept s0 t → Kept s0 (x t) := ?a; ?b); case' a => subst x; case' b => clear_value x) | (refine (have hx : ∀ t a, Kept s0 t → Kept s0 (x t a) := ?a; ?b); case' a => subst x; case' b => clear_value x) | (refine (have hx : ∀ a t, Kept s0 t → Kept s0 (x a t) := ?a; ?b); case' a => subst x; case' b => clear_value x) | subst x)
    | simp only [Kept.mkSame, Kept.mkPlate, Kept.mkStore, Kept.mkMg]
    | (with_reducible refine Kept.change ?_ ⟨?_, ?_, ?_, ?_, ?_, ?_, ?_, ?_, ?_⟩)
    | exact id
    | exact Sparse.wf_put _ _ _
    | exact Sparse.wf_filter _ _
    | exact Sparse.wf_erase _ _
    | exact fun _ => Sparse.wf_nil _
    | (intro; intro; intro)

theorem State.halfRowLasting_kept {s0 : State} {s : State} {d : Nat} {row : Nat} (hk : Kept s0 s) : Kept s0 (State.halfRowLasting s d row) := by
  unfold State.halfRowLasting
  repeat' first
    | with_reducible assumption
    | with_reducible refine State.setFree_kept ?_
    | with_reducible refine Kept.set ?_ _ _
    | with_reducible refine Kept.flag ?_ _ _ _
    | with_reducible refine Kept.ite ?_ ?_
    | simp only [Kept.mkStore]

theorem rowSpared_kept {s0 : State} {die : Nat} {row : Nat} {s : State} (hk : Kept s0 s) : Kept s0 (rowSpared die row s) := by
  unfold rowSpared
  repeat' first
    | with_reducible assumption
    | with_reducible refine Kept.set ?_ _ _
    | with_reducible refine Kept.flag ?_ _ _ _
    | with_reducible refine Kept.ite ?_ ?_
    | simp only [Kept.mkStore]

theorem State.readEntry_kept {s0 : State} {s : State} {row : Nat} {bank : Nat} (hk : Kept s0 s) : Kept s0 (State.readEntry s row bank).2 := by
  unfold State.readEntry
  repeat' first
    | with_reducible assumption
    | with_reducible refine State.setLink_kept ?_
    | with_reducible refine State.setMark_kept ?_
    | with_reducible refine Kept.count ?_ _ _
    | with_reducible refine Kept.raise ?_ _ _
    | with_reducible refine Kept.ite ?_ ?_
    | split
    | ((try lift_lets); intro x; first | (refine (have hx : Kept s0 x := ?a; ?b); case' a => subst x; case' b => clear_value x) | (refine (have hx : Kept s0 x.2 := ?a; ?b); case' a => subst x; case' b => clear_value x) | (refine (have hx : Kept s0 x.1 := ?a; ?b); case' a => subst x; case' b => clear_value x) | (refine (have hx : Kept s0 x.2.2 := ?a; ?b); case' a => subst x; case' b => clear_value x) | (refine (have hx : ∀ t, Kept s0 t → Kept s0 (x t) := ?a; ?b); case' a => subst x; case' b => clear_value x) | (refine (have hx : ∀ t a, Kept s0 t → Kept s0 (x t a) := ?a; ?b); case' a => subst x; case' b => clear_value x) | (refine (have hx : ∀ a t, Kept s0 t → Kept s0 (x a t) := ?a; ?b); case' a => subst x; case' b => clear_value x) | subst x)
    | (intro; intro; intro)
theorem State.readEntry_keptE {s0 : State} {s : State} {row : Nat} {bank : Nat} {x0} {t : State} (e : State.readEntry s row bank = (x0, t)) (hk : Kept s0 s) : Kept s0 t := by
  have k := State.readEntry_kept (s := s) (row := row) (bank := bank) hk
  rw [e] at k; exact k

theorem State.readRow_kept {s0 : State} {s : State} {row : Nat} (hk : Kept s0 s) : Kept s0 (State.readRow s row).2.2 := by
  unfold State.readRow
  repeat' first
    | with_reducible assumption
    | (apply State.readEntry_keptE; assumption)
    | with_reducible refine Kept.foldlSnd2 (fun _ _ _ => ?_) ?_
    | split
theorem State.readRow_keptE {s0 : State} {s : State} {row : Nat} {x0 x1} {t : State} (e : State.readRow s row = (x0, x1, t)) (hk : Kept s0 s) : Kept s0 t := by
  have k := State.readRow_kept (s := s) (row := row) hk
  rw [e] at k; exact k

theorem State.readBucket_kept {s0 : State} {s : State} {d : Desc} (hk : Kept s0 s) : Kept s0 (State.readBucket s d).2.2 := by
  unfold State.readBucket
  repeat' first
    | with_reducible assumption
    | with_reducible refine State.readRow_kept ?_
    | with_reducible refine Kept.foldlSnd (fun _ _ _ => ?_) ?_
theorem State.readBucket_keptE {s0 : State} {s : State} {d : Desc} {x0 x1} {t : State} (e : State.readBucket s d = (x0, x1, t)) (hk : Kept s0 s) : Kept s0 t := by
  have k := State.readBucket_kept (s := s) (d := d) hk
  rw [e] at k; exact k

end Sys2Proof.Machine
end

