-- ==== Sys2Proof/Laws/KeptTrigger.lean ====
section
/-! SUPPORT. Trigger: no operation disturbs the queue or the canonical form. -/

set_option linter.unusedSimpArgs false
set_option linter.unusedVariables false

namespace Sys2Proof.Machine

open Sys2Proof

theorem State.tgSee_kept {s0 : State} {s : State} {orbit : Nat} {w : Nat} {late : Bool} (hk : Kept s0 s) : Kept s0 (State.tgSee s orbit w late) := by
  unfold State.tgSee
  repeat' first
    | with_reducible assumption
    | with_reducible refine Kept.count ?_ _ _
    | with_reducible refine Kept.flag ?_ _ _ _
    | with_reducible refine Kept.ite ?_ ?_
    | simp only [Kept.mkSame]

theorem State.setExp_kept {s0 : State} {s : State} {c : Nat} {t : Nat} {b : Bool} (hk : Kept s0 s) : Kept s0 (State.setExp s c t b) := by
  unfold State.setExp
  repeat' first
    | with_reducible assumption
    | with_reducible refine Kept.setB ?_ _ _

theorem State.setTimer_kept {s0 : State} {s : State} {c : Nat} {t : Nat} {v : Nat} (hk : Kept s0 s) : Kept s0 (State.setTimer s c t v) := by
  unfold State.setTimer
  repeat' first
    | with_reducible assumption
    | simp only [Kept.mkSame]

theorem State.chaserReset_kept {s0 : State} {s : State} {c : Nat} (hk : Kept s0 s) : Kept s0 (State.chaserReset s c) := by
  unfold State.chaserReset
  repeat' first
    | with_reducible assumption
    | with_reducible refine State.setExp_kept ?_
    | with_reducible refine State.setTimer_kept ?_
    | with_reducible refine Kept.set ?_ _ _
    | with_reducible refine Kept.each (fun _ _ _ => ?_) ?_

theorem State.timerTick_kept {s0 : State} {s : State} {c : Nat} {t : Nat} (hk : Kept s0 s) : Kept s0 (State.timerTick s c t) := by
  unfold State.timerTick
  repeat' first
    | with_reducible assumption
    | with_reducible refine State.setExp_kept ?_
    | with_reducible refine State.setTimer_kept ?_
    | with_reducible refine Kept.ite ?_ ?_

theorem State.cntAct_kept {s0 : State} {s : State} {c : Nat} {k : Nat} {a : Nat} (hk : Kept s0 s) : Kept s0 (State.cntAct s c k a) := by
  unfold State.cntAct
  repeat' first
    | with_reducible assumption
    | with_reducible refine Kept.set ?_ _ _

theorem State.tmrAct_kept {s0 : State} {s : State} {c : Nat} {t : Nat} {a : Nat} (hk : Kept s0 s) : Kept s0 (State.tmrAct s c t a) := by
  unfold State.tmrAct
  repeat' first
    | with_reducible assumption
    | with_reducible refine State.setExp_kept ?_
    | with_reducible refine State.setTimer_kept ?_
    | split

theorem State.chaserTake_kept {s0 : State} {s : State} {c : Nat} {t : Option Nat} (hk : Kept s0 s) : Kept s0 (State.chaserTake s c t) := by
  unfold State.chaserTake
  repeat' first
    | with_reducible assumption
    | with_reducible refine State.cntAct_kept ?_
    | with_reducible refine State.tmrAct_kept ?_
    | with_reducible refine Kept.set ?_ _ _
    | with_reducible refine Kept.each (fun _ _ _ => ?_) ?_
    | split

theorem State.setQueue_kept {s0 : State} {s : State} {q : List Trig} (hk : Kept s0 s) : Kept s0 (State.setQueue s q) := by
  unfold State.setQueue
  repeat' first
    | with_reducible assumption
    | with_reducible refine Kept.set ?_ _ _
    | simp only [Kept.mkSame]

theorem State.takeLocal_kept {s0 : State} {s : State} (hk : Kept s0 s) : Kept s0 (State.takeLocal s).2 := by
  unfold State.takeLocal
  repeat' first
    | with_reducible assumption
    | with_reducible refine Kept.set ?_ _ _
    | simp only [Kept.mkSame]
theorem State.takeLocal_keptE {s0 : State} {s : State} {x0} {t : State} (e : State.takeLocal s = (x0, t)) (hk : Kept s0 s) : Kept s0 t := by
  have k := State.takeLocal_kept (s := s) hk
  rw [e] at k; exact k

theorem State.setLocal_kept {s0 : State} {s : State} {n : Nat} (hk : Kept s0 s) : Kept s0 (State.setLocal s n) := by
  unfold State.setLocal
  repeat' first
    | with_reducible assumption
    | with_reducible refine Kept.set ?_ _ _
    | simp only [Kept.mkSame]

theorem State.openRecord_kept {s0 : State} {s : State} {p : Bkt} {c : Nat} {k : Nat} (hk : Kept s0 s) : Kept s0 (State.openRecord s p c k) := by
  unfold State.openRecord
  repeat' first
    | with_reducible assumption
    | with_reducible refine State.setQueue_kept ?_
    | with_reducible refine State.takeLocal_kept ?_
    | (apply State.takeLocal_keptE; assumption)
    | with_reducible refine Kept.count ?_ _ _
    | with_reducible refine Kept.flag ?_ _ _ _
    | with_reducible refine Kept.ite ?_ ?_
    | split
    | ((try lift_lets); intro x; first | (refine (have hx : Kept s0 x := ?a; ?b); case' a => subst x; case' b => clear_value x) | (refine (have hx : Kept s0 x.2 := ?a; ?b); case' a => subst x; case' b => clear_value x) | (refine (have hx : Kept s0 x.1 := ?a; ?b); case' a => subst x; case' b => clear_value x) | (refine (have hx : Kept s0 x.2.2 := ?a; ?b); case' a => subst x; case' b => clear_value x) | (refine (have hx : ∀ t, Kept s0 t → Kept s0 (x t) := ?a; ?b); case' a => subst x; case' b => clear_value x) | (refine (have hx : ∀ t a, Kept s0 t → Kept s0 (x t a) := ?a; ?b); case' a => subst x; case' b => clear_value x) | (refine (have hx : ∀ a t, Kept s0 t → Kept s0 (x a t) := ?a; ?b); case' a => subst x; case' b => clear_value x) | subst x)
    | simp only [Kept.mkSame, Kept.mkPlate, Kept.mkStore, Kept.mkMg]
    | (intro; intro; intro)

theorem State.takeAccept_kept {s0 : State} {s : State} {body : Nat} (hk : Kept s0 s) : Kept s0 (State.takeAccept s body) := by
  unfold State.takeAccept
  repeat' first
    | with_reducible assumption
    | with_reducible refine State.setQueue_kept ?_
    | with_reducible refine Kept.count ?_ _ _
    | with_reducible refine Kept.flag ?_ _ _ _
    | with_reducible refine Kept.iff (fun _ _ => ?_) ?_
    | with_reducible refine Kept.ite ?_ ?_
    | split
    | ((try lift_lets); intro x; first | (refine (have hx : Kept s0 x := ?a; ?b); case' a => subst x; case' b => clear_value x) | (refine (have hx : Kept s0 x.2 := ?a; ?b); case' a => subst x; case' b => clear_value x) | (refine (have hx : Kept s0 x.1 := ?a; ?b); case' a => subst x; case' b => clear_value x) | (refine (have hx : Kept s0 x.2.2 := ?a; ?b); case' a => subst x; case' b => clear_value x) | (refine (have hx : ∀ t, Kept s0 t → Kept s0 (x t) := ?a; ?b); case' a => subst x; case' b => clear_value x) | (refine (have hx : ∀ t a, Kept s0 t → Kept s0 (x t a) := ?a; ?b); case' a => subst x; case' b => clear_value x) | (refine (have hx : ∀ a t, Kept s0 t → Kept s0 (x a t) := ?a; ?b); case' a => subst x; case' b => clear_value x) | subst x)
    | simp only [Kept.mkSame, Kept.mkPlate, Kept.mkStore, Kept.mkMg]
    | (intro; intro; intro)

theorem State.takeArrived_kept {s0 : State} {s : State} {n : Nat} (hk : Kept s0 s) : Kept s0 (State.takeArrived s n) := by
  unfold State.takeArrived
  repeat' first
    | with_reducible assumption
    | with_reducible refine State.takeAccept_kept ?_
    | with_reducible refine Kept.each (fun _ _ _ => ?_) ?_
    | split
    | ((try lift_lets); intro x; first | (refine (have hx : Kept s0 x := ?a; ?b); case' a => subst x; case' b => clear_value x) | (refine (have hx : Kept s0 x.2 := ?a; ?b); case' a => subst x; case' b => clear_value x) | (refine (have hx : Kept s0 x.1 := ?a; ?b); case' a => subst x; case' b => clear_value x) | (refine (have hx : Kept s0 x.2.2 := ?a; ?b); case' a => subst x; case' b => clear_value x) | (refine (have hx : ∀ t, Kept s0 t → Kept s0 (x t) := ?a; ?b); case' a => subst x; case' b => clear_value x) | (refine (have hx : ∀ t a, Kept s0 t → Kept s0 (x t a) := ?a; ?b); case' a => subst x; case' b => clear_value x) | (refine (have hx : ∀ a t, Kept s0 t → Kept s0 (x a t) := ?a; ?b); case' a => subst x; case' b => clear_value x) | subst x)
    | simp only [Kept.mkSame, Kept.mkPlate, Kept.mkStore, Kept.mkMg]
    | (intro; intro; intro)

theorem acceptCommand_kept {s0 : State} {body : Nat} {s : State} (hk : Kept s0 s) : Kept s0 (acceptCommand body s) := by
  unfold acceptCommand
  repeat' first
    | with_reducible assumption
    | with_reducible refine State.takeAccept_kept ?_
    | with_reducible refine State.takeArrived_kept ?_
    | with_reducible refine Kept.ite ?_ ?_
    | split
    | (intro; intro; intro)

theorem State.updConflict_kept {s0 : State} {s : State} (hk : Kept s0 s) : Kept s0 (State.updConflict s) := by
  unfold State.updConflict
  repeat' first
    | with_reducible assumption
    | with_reducible refine Kept.set ?_ _ _
    | with_reducible refine Kept.flag ?_ _ _ _
    | with_reducible refine Kept.iff (fun _ _ => ?_) ?_

end Sys2Proof.Machine
end

