-- ==== Sys2Proof/Laws/KeptDataPath.lean ====
section
/-! SUPPORT. DataPath: no operation disturbs the queue or the canonical form. -/

set_option linter.unusedSimpArgs false
set_option linter.unusedVariables false

namespace Sys2Proof.Machine

open Sys2Proof

theorem State.setLane_kept {s0 : State} {s : State} {n : Nat} {l : Lane} (hk : Kept s0 s) : Kept s0 (State.setLane s n l) := by
  unfold State.setLane
  repeat' first
    | with_reducible assumption
    | simp only [Kept.mkSame]

theorem State.setPath_kept {s0 : State} {s : State} {p : Nat} {d : DPath} (hk : Kept s0 s) : Kept s0 (State.setPath s p d) := by
  unfold State.setPath
  repeat' first
    | with_reducible assumption
    | simp only [Kept.mkSame]

theorem State.lineSeed_kept {s0 : State} {s : State} (hk : Kept s0 s) : Kept s0 (State.lineSeed s).2 := by
  unfold State.lineSeed
  repeat' first
    | with_reducible assumption
    | with_reducible refine Kept.draw ?_
    | (apply Kept.drawE; with_reducible assumption)
    | split
    | ((try lift_lets); intro x; first | (refine (have hx : Kept s0 x := ?a; ?b); case' a => subst x; case' b => clear_value x) | (refine (have hx : Kept s0 x.2 := ?a; ?b); case' a => subst x; case' b => clear_value x) | (refine (have hx : Kept s0 x.1 := ?a; ?b); case' a => subst x; case' b => clear_value x) | (refine (have hx : Kept s0 x.2.2 := ?a; ?b); case' a => subst x; case' b => clear_value x) | (refine (have hx : ∀ t, Kept s0 t → Kept s0 (x t) := ?a; ?b); case' a => subst x; case' b => clear_value x) | (refine (have hx : ∀ t a, Kept s0 t → Kept s0 (x t a) := ?a; ?b); case' a => subst x; case' b => clear_value x) | (refine (have hx : ∀ a t, Kept s0 t → Kept s0 (x a t) := ?a; ?b); case' a => subst x; case' b => clear_value x) | subst x)
    | (intro; intro; intro)
theorem State.lineSeed_keptE {s0 : State} {s : State} {x0} {t : State} (e : State.lineSeed s = (x0, t)) (hk : Kept s0 s) : Kept s0 t := by
  have k := State.lineSeed_kept (s := s) hk
  rw [e] at k; exact k

theorem State.sendCredit_kept {s0 : State} {s : State} {p : Nat} (hk : Kept s0 s) : Kept s0 (State.sendCredit s p) := by
  unfold State.sendCredit
  repeat' first
    | with_reducible assumption
    | with_reducible refine State.lineSeed_kept ?_
    | (apply State.lineSeed_keptE; assumption)
    | with_reducible refine State.setPath_kept ?_
    | with_reducible refine Kept.ite ?_ ?_
    | split
    | ((try lift_lets); intro x; first | (refine (have hx : Kept s0 x := ?a; ?b); case' a => subst x; case' b => clear_value x) | (refine (have hx : Kept s0 x.2 := ?a; ?b); case' a => subst x; case' b => clear_value x) | (refine (have hx : Kept s0 x.1 := ?a; ?b); case' a => subst x; case' b => clear_value x) | (refine (have hx : Kept s0 x.2.2 := ?a; ?b); case' a => subst x; case' b => clear_value x) | (refine (have hx : ∀ t, Kept s0 t → Kept s0 (x t) := ?a; ?b); case' a => subst x; case' b => clear_value x) | (refine (have hx : ∀ t a, Kept s0 t → Kept s0 (x t a) := ?a; ?b); case' a => subst x; case' b => clear_value x) | (refine (have hx : ∀ a t, Kept s0 t → Kept s0 (x a t) := ?a; ?b); case' a => subst x; case' b => clear_value x) | subst x)
    | simp only [Kept.mkSame, Kept.mkPlate, Kept.mkStore, Kept.mkMg]
    | (intro; intro; intro)

theorem State.creditsDue_kept {s0 : State} {s : State} (hk : Kept s0 s) : Kept s0 (State.creditsDue s) := by
  unfold State.creditsDue
  repeat' first
    | with_reducible assumption
    | with_reducible refine State.sendCredit_kept ?_
    | with_reducible refine Kept.each (fun _ _ _ => ?_) ?_
    | with_reducible refine Kept.ite ?_ ?_
    | split
    | (intro; intro; intro)

end Sys2Proof.Machine
end

