-- ==== Sys2Proof/Laws/KeptFragments.lean ====
section
/-! SUPPORT. Fragments: no operation disturbs the queue or the canonical form. -/

set_option linter.unusedSimpArgs false
set_option linter.unusedVariables false

namespace Sys2Proof.Machine

open Sys2Proof

theorem State.busyJudge_kept {s0 : State} {s : State} (hk : Kept s0 s) : Kept s0 (State.busyJudge s) := by
  unfold State.busyJudge
  repeat' first
    | with_reducible assumption
    | with_reducible refine Kept.set ?_ _ _
    | with_reducible refine Kept.raise ?_ _ _
    | with_reducible refine Kept.ite ?_ ?_
    | split
    | (intro; intro; intro)

theorem State.busyEval_kept {s0 : State} {s : State} (hk : Kept s0 s) : Kept s0 (State.busyEval s) := by
  unfold State.busyEval
  repeat' first
    | with_reducible assumption
    | with_reducible refine State.busyJudge_kept ?_
    | with_reducible refine State.creditsDue_kept ?_
    | split
    | (intro; intro; intro)

theorem State.takeCtx_kept {s0 : State} {s : State} {c : Nat} (hk : Kept s0 s) : Kept s0 (State.takeCtx s c) := by
  unfold State.takeCtx
  repeat' first
    | with_reducible assumption
    | with_reducible refine State.clearMarks_kept ?_
    | with_reducible refine Kept.set ?_ _ _
    | simp only [Kept.mkSame]

theorem State.giveCtx_kept {s0 : State} {s : State} {c : Nat} (hk : Kept s0 s) : Kept s0 (State.giveCtx s c) := by
  unfold State.giveCtx
  repeat' first
    | with_reducible assumption
    | with_reducible refine Kept.set ?_ _ _
    | simp only [Kept.mkSame]

theorem State.takeBlocks_kept {s0 : State} {s : State} {n : Nat} (hk : Kept s0 s) : Kept s0 (State.takeBlocks s n) := by
  unfold State.takeBlocks
  repeat' first
    | with_reducible assumption
    | with_reducible refine Kept.set ?_ _ _

theorem State.giveBlocks_kept {s0 : State} {s : State} {n : Nat} (hk : Kept s0 s) : Kept s0 (State.giveBlocks s n) := by
  unfold State.giveBlocks
  repeat' first
    | with_reducible assumption
    | with_reducible refine Kept.set ?_ _ _

theorem State.pushFrag_kept {s0 : State} {s : State} {f : Frag} (hk : Kept s0 s) : Kept s0 (State.pushFrag s f) := by
  unfold State.pushFrag
  repeat' first
    | with_reducible assumption
    | simp only [Kept.mkSame]

theorem State.mapFrag_kept {s0 : State} {s : State} {id : Nat} {g : Frag → Frag} (hk : Kept s0 s) : Kept s0 (State.mapFrag s id g) := by
  unfold State.mapFrag
  repeat' first
    | with_reducible assumption
    | simp only [Kept.mkSame]

theorem State.fragReady_kept {s0 : State} {s : State} {id : Nat} {body : List Nat} {blocks : Nat} (hk : Kept s0 s) : Kept s0 (State.fragReady s id body blocks) := by
  unfold State.fragReady
  repeat' first
    | with_reducible assumption
    | with_reducible refine State.mapFrag_kept ?_
    | simp only [Kept.mkSame]

theorem State.fragLost_kept {s0 : State} {s : State} {f : Frag} (hk : Kept s0 s) : Kept s0 (State.fragLost s f) := by
  unfold State.fragLost
  repeat' first
    | with_reducible assumption
    | with_reducible refine State.fragReady_kept ?_
    | with_reducible refine State.giveBlocks_kept ?_
    | with_reducible refine State.giveCtx_kept ?_
    | with_reducible refine State.mapFrag_kept ?_
    | with_reducible refine Kept.set ?_ _ _
    | with_reducible refine Kept.count ?_ _ _
    | with_reducible refine Kept.flag ?_ _ _ _
    | with_reducible refine Kept.iff (fun _ _ => ?_) ?_
    | split

theorem State.fragGone_kept {s0 : State} {s : State} {f : Frag} (hk : Kept s0 s) : Kept s0 (State.fragGone s f) := by
  unfold State.fragGone
  repeat' first
    | with_reducible assumption
    | with_reducible refine State.giveBlocks_kept ?_
    | with_reducible refine State.giveCtx_kept ?_
    | with_reducible refine Kept.set ?_ _ _
    | with_reducible refine Kept.count ?_ _ _
    | with_reducible refine Kept.flag ?_ _ _ _
    | with_reducible refine Kept.iff (fun _ _ => ?_) ?_
    | split
    | simp only [Kept.mkSame]

end Sys2Proof.Machine
end

