-- ==== Sys2Proof/Laws/KeptRecords.lean ====
section
/-! SUPPORT. Records: no operation disturbs the queue or the canonical form. -/

set_option linter.unusedSimpArgs false
set_option linter.unusedVariables false

namespace Sys2Proof.Machine

open Sys2Proof

theorem State.recPin_kept {s0 : State} {s : State} {r : Rec} {i : Nat} (hk : Kept s0 s) : Kept s0 (State.recPin s r i).2 := by
  unfold State.recPin
  repeat' first
    | with_reducible assumption
    | (apply State.pin_keptE; assumption)
    | split
theorem State.recPin_keptE {s0 : State} {s : State} {r : Rec} {i : Nat} {x0} {t : State} (e : State.recPin s r i = (x0, t)) (hk : Kept s0 s) : Kept s0 t := by
  have k := State.recPin_kept (s := s) (r := r) (i := i) hk
  rw [e] at k; exact k

theorem State.recPinAll_kept {s0 : State} {s : State} {r : Rec} (hk : Kept s0 s) : Kept s0 (State.recPinAll s r).2 := by
  unfold State.recPinAll
  repeat' first
    | with_reducible assumption
    | with_reducible refine State.recPin_kept ?_
    | with_reducible refine Kept.foldlSnd (fun _ _ _ => ?_) ?_
    | split
theorem State.recPinAll_keptE {s0 : State} {s : State} {r : Rec} {x0} {t : State} (e : State.recPinAll s r = (x0, t)) (hk : Kept s0 s) : Kept s0 t := by
  have k := State.recPinAll_kept (s := s) (r := r) hk
  rw [e] at k; exact k

theorem State.pinRecs_kept {s0 : State} {s : State} {b : Bkt} (hk : Kept s0 s) : Kept s0 (State.pinRecs s b).2 := by
  unfold State.pinRecs
  repeat' first
    | with_reducible assumption
    | with_reducible refine State.recPin_kept ?_
    | (apply State.recPin_keptE; assumption)
    | with_reducible refine Kept.foldl (fun _ _ _ => ?_) ?_
    | with_reducible refine Kept.foldlSnd (fun _ _ _ => ?_) ?_
    | with_reducible refine Kept.foldlSnd2 (fun _ _ _ => ?_) ?_
    | with_reducible refine Kept.ite ?_ ?_
    | split
    | ((try lift_lets); intro x; first | (refine (have hx : Kept s0 x := ?a; ?b); case' a => subst x; case' b => clear_value x) | (refine (have hx : Kept s0 x.2 := ?a; ?b); case' a => subst x; case' b => clear_value x) | (refine (have hx : Kept s0 x.1 := ?a; ?b); case' a => subst x; case' b => clear_value x) | (refine (have hx : Kept s0 x.2.2 := ?a; ?b); case' a => subst x; case' b => clear_value x) | (refine (have hx : ∀ t, Kept s0 t → Kept s0 (x t) := ?a; ?b); case' a => subst x; case' b => clear_value x) | (refine (have hx : ∀ t a, Kept s0 t → Kept s0 (x t a) := ?a; ?b); case' a => subst x; case' b => clear_value x) | (refine (have hx : ∀ a t, Kept s0 t → Kept s0 (x a t) := ?a; ?b); case' a => subst x; case' b => clear_value x) | subst x)
    | simp only [Kept.mkSame, Kept.mkPlate, Kept.mkStore, Kept.mkMg]
    | (intro; intro; intro)
theorem State.pinRecs_keptE {s0 : State} {s : State} {b : Bkt} {x0} {t : State} (e : State.pinRecs s b = (x0, t)) (hk : Kept s0 s) : Kept s0 t := by
  have k := State.pinRecs_kept (s := s) (b := b) hk
  rw [e] at k; exact k

theorem State.pinSealed_kept {s0 : State} {s : State} {b : Bkt} (hk : Kept s0 s) : Kept s0 (State.pinSealed s b) := by
  unfold State.pinSealed
  repeat' first
    | with_reducible assumption
    | with_reducible refine State.pinRecs_kept ?_
    | simp only [Kept.mkSame]

theorem bucketWriteDone_kept {s0 : State} {s : State} (hk : Kept s0 s) : Kept s0 (bucketWriteDone s) := by
  unfold bucketWriteDone
  repeat' first
    | with_reducible assumption
    | with_reducible refine State.pinSealed_kept ?_
    | with_reducible refine State.sealFront_kept ?_
    | split

theorem State.histAdd_kept {s0 : State} {s : State} {key : Nat} (hk : Kept s0 s) : Kept s0 (State.histAdd s key) := by
  unfold State.histAdd
  repeat' first
    | with_reducible assumption
    | with_reducible refine Kept.ite ?_ ?_
    | simp only [Kept.mkSame]

theorem State.histHit_kept {s0 : State} {s : State} {cls : Nat} {bT : Bkt} {b : Bkt} {w : Nat} (hk : Kept s0 s) : Kept s0 (State.histHit s cls bT b w) := by
  unfold State.histHit
  repeat' first
    | with_reducible assumption
    | with_reducible refine State.histAdd_kept ?_
    | with_reducible refine Kept.ite ?_ ?_

theorem State.histClearing_kept {s0 : State} {s : State} (hk : Kept s0 s) : Kept s0 (State.histClearing s) := by
  unfold State.histClearing
  repeat' first
    | with_reducible assumption
    | with_reducible refine Kept.set ?_ _ _
    | split
    | simp only [Kept.mkSame, Kept.mkPlate, Kept.mkStore, Kept.mkMg]
    | (intro; intro; intro)

theorem histSwapWrite_kept {s0 : State} {s : State} (hk : Kept s0 s) : Kept s0 (histSwapWrite s) := by
  unfold histSwapWrite
  repeat' first
    | with_reducible assumption
    | with_reducible refine State.histClearing_kept ?_
    | with_reducible refine Kept.set ?_ _ _
    | with_reducible refine Kept.atEdge (fun _ _ => ?_) ?_
    | with_reducible refine Kept.ite ?_ ?_
    | split
    | (intro; intro; intro)

theorem histSwapDone_kept {s0 : State} {s : State} (hk : Kept s0 s) : Kept s0 (histSwapDone s) := by
  unfold histSwapDone
  repeat' first
    | with_reducible assumption
    | with_reducible refine Kept.set ?_ _ _
    | with_reducible refine Kept.raise ?_ _ _
    | with_reducible refine Kept.ite ?_ ?_
    | simp only [Kept.mkSame]

theorem State.recHit_kept {s0 : State} {s : State} {r : Rec} {off : Nat} {w : Nat} (hk : Kept s0 s) : Kept s0 (State.recHit s r off w).2 := by
  unfold State.recHit
  repeat' first
    | with_reducible assumption
    | with_reducible refine State.histHit_kept ?_
    | with_reducible refine Kept.iff (fun _ _ => ?_) ?_
theorem State.recHit_keptE {s0 : State} {s : State} {r : Rec} {off : Nat} {w : Nat} {x0} {t : State} (e : State.recHit s r off w = (x0, t)) (hk : Kept s0 s) : Kept s0 t := by
  have k := State.recHit_kept (s := s) (r := r) (off := off) (w := w) hk
  rw [e] at k; exact k

theorem State.mapRec_kept {s0 : State} {s : State} {ctx : Nat} {g : Rec → Rec} (hk : Kept s0 s) : Kept s0 (State.mapRec s ctx g) := by
  unfold State.mapRec
  repeat' first
    | with_reducible assumption
    | simp only [Kept.mkSame]

theorem State.plateReadBad_kept {s0 : State} {s : State} {idx : Nat} (hk : Kept s0 s) : Kept s0 (State.plateReadBad s idx) := by
  unfold State.plateReadBad
  repeat' first
    | with_reducible assumption
    | with_reducible refine State.plateUncorr_kept ?_
    | with_reducible refine State.repairFails_kept ?_
    | with_reducible refine State.setMark_kept ?_
    | with_reducible refine Kept.ite ?_ ?_
    | split
    | (intro; intro; intro)

theorem State.applyUpset_kept {s0 : State} {s : State} {u : ReadUpset} {found : Option (DescAt × Desc)} (hk : Kept s0 s) : Kept s0 (State.applyUpset s u found) := by
  unfold State.applyUpset
  repeat' first
    | with_reducible assumption
    | with_reducible refine State.descBroken_kept ?_
    | with_reducible refine State.linkBroken_kept ?_
    | with_reducible refine State.plateReadBad_kept ?_
    | with_reducible refine State.setMark_kept ?_
    | with_reducible refine Kept.each (fun _ _ _ => ?_) ?_
    | split

theorem State.dropPins_kept {s0 : State} {s : State} {r : Rec} (hk : Kept s0 s) : Kept s0 (State.dropPins s r) := by
  unfold State.dropPins
  repeat' first
    | with_reducible assumption
    | with_reducible refine State.unpin_kept ?_
    | with_reducible refine Kept.each (fun _ _ _ => ?_) ?_

theorem State.recLost_kept {s0 : State} {s : State} {r : Rec} (hk : Kept s0 s) : Kept s0 (State.recLost s r) := by
  unfold State.recLost
  repeat' first
    | with_reducible assumption
    | with_reducible refine State.busyEval_kept ?_
    | with_reducible refine State.dropPins_kept ?_
    | with_reducible refine State.fragLost_kept ?_
    | with_reducible refine Kept.set ?_ _ _
    | with_reducible refine Kept.iff (fun _ _ => ?_) ?_
    | split
    | simp only [Kept.mkSame]

theorem recordBucketRead_kept {s0 : State} {ctx : Nat} {u : ReadUpset} {s : State} (hk : Kept s0 s) : Kept s0 (recordBucketRead ctx u s) := by
  unfold recordBucketRead
  repeat' first
    | with_reducible assumption
    | with_reducible refine State.applyUpset_kept ?_
    | with_reducible refine State.mapRec_kept ?_
    | with_reducible refine State.readBucket_kept ?_
    | (apply State.readBucket_keptE; assumption)
    | with_reducible refine State.recHit_kept ?_
    | (apply State.recHit_keptE; assumption)
    | with_reducible refine State.recLost_kept ?_
    | with_reducible refine State.unpin_kept ?_
    | with_reducible refine Kept.foldl (fun _ _ _ => ?_) ?_
    | with_reducible refine Kept.foldlSnd (fun _ _ _ => ?_) ?_
    | with_reducible refine Kept.foldlSnd2 (fun _ _ _ => ?_) ?_
    | with_reducible refine Kept.ite ?_ ?_
    | split
    | ((try lift_lets); intro x; first | (refine (have hx : Kept s0 x := ?a; ?b); case' a => subst x; case' b => clear_value x) | (refine (have hx : Kept s0 x.2 := ?a; ?b); case' a => subst x; case' b => clear_value x) | (refine (have hx : Kept s0 x.1 := ?a; ?b); case' a => subst x; case' b => clear_value x) | (refine (have hx : Kept s0 x.2.2 := ?a; ?b); case' a => subst x; case' b => clear_value x) | (refine (have hx : ∀ t, Kept s0 t → Kept s0 (x t) := ?a; ?b); case' a => subst x; case' b => clear_value x) | (refine (have hx : ∀ t a, Kept s0 t → Kept s0 (x t a) := ?a; ?b); case' a => subst x; case' b => clear_value x) | (refine (have hx : ∀ a t, Kept s0 t → Kept s0 (x a t) := ?a; ?b); case' a => subst x; case' b => clear_value x) | subst x)
    | simp only [Kept.mkSame, Kept.mkPlate, Kept.mkStore, Kept.mkMg]
    | (intro; intro; intro)

theorem State.namesEnd_kept {s0 : State} {s : State} (hk : Kept s0 s) : Kept s0 (State.namesEnd s) := by
  unfold State.namesEnd
  repeat' first
    | with_reducible assumption
    | split
    | simp only [Kept.mkSame, Kept.mkPlate, Kept.mkStore, Kept.mkMg]
    | (intro; intro; intro)

theorem recordComplete_kept {s0 : State} {ctx : Nat} {s : State} (hk : Kept s0 s) : Kept s0 (recordComplete ctx s) := by
  unfold recordComplete
  repeat' first
    | with_reducible assumption
    | with_reducible refine State.busyEval_kept ?_
    | with_reducible refine State.dropPins_kept ?_
    | with_reducible refine State.fragReady_kept ?_
    | with_reducible refine State.takeBlocks_kept ?_
    | with_reducible refine Kept.set ?_ _ _
    | with_reducible refine Kept.count ?_ _ _
    | with_reducible refine Kept.raise ?_ _ _
    | with_reducible refine Kept.flag ?_ _ _ _
    | with_reducible refine Kept.iff (fun _ _ => ?_) ?_
    | split
    | simp only [Kept.mkSame]

theorem State.refuse_kept {s0 : State} {s : State} {t : Trig} {cause : Nat} (hk : Kept s0 s) : Kept s0 (State.refuse s t cause) := by
  unfold State.refuse
  repeat' first
    | with_reducible assumption
    | with_reducible refine State.fragReady_kept ?_
    | with_reducible refine State.pushFrag_kept ?_
    | with_reducible refine Kept.set ?_ _ _
    | with_reducible refine Kept.count ?_ _ _
    | with_reducible refine Kept.raise ?_ _ _
    | with_reducible refine Kept.flag ?_ _ _ _
    | with_reducible refine Kept.ite ?_ ?_
    | simp only [Kept.mkSame]

theorem State.openRec_kept {s0 : State} {s : State} {ctx : Nat} {origin : Nat} {cls : Nat} {number : Nat} {bT : Bkt} {bad : Bool} {win : Bkt} {len : Nat} {g : Rec → Rec} (hk : Kept s0 s) : Kept s0 (State.openRec s ctx origin cls number bT bad win len g) := by
  unfold State.openRec
  repeat' first
    | with_reducible assumption
    | with_reducible refine State.pushFrag_kept ?_
    | with_reducible refine State.recPinAll_kept ?_
    | (apply State.recPinAll_keptE; assumption)
    | with_reducible refine State.takeCtx_kept ?_
    | with_reducible refine Kept.count ?_ _ _
    | split
    | ((try lift_lets); intro x; first | (refine (have hx : Kept s0 x := ?a; ?b); case' a => subst x; case' b => clear_value x) | (refine (have hx : Kept s0 x.2 := ?a; ?b); case' a => subst x; case' b => clear_value x) | (refine (have hx : Kept s0 x.1 := ?a; ?b); case' a => subst x; case' b => clear_value x) | (refine (have hx : Kept s0 x.2.2 := ?a; ?b); case' a => subst x; case' b => clear_value x) | (refine (have hx : ∀ t, Kept s0 t → Kept s0 (x t) := ?a; ?b); case' a => subst x; case' b => clear_value x) | (refine (have hx : ∀ t a, Kept s0 t → Kept s0 (x t a) := ?a; ?b); case' a => subst x; case' b => clear_value x) | (refine (have hx : ∀ a t, Kept s0 t → Kept s0 (x a t) := ?a; ?b); case' a => subst x; case' b => clear_value x) | subst x)
    | simp only [Kept.mkSame, Kept.mkPlate, Kept.mkStore, Kept.mkMg]
    | (intro; intro; intro)

theorem State.setLast_kept {s0 : State} {s : State} {l : LastRec} (hk : Kept s0 s) : Kept s0 (State.setLast s l) := by
  unfold State.setLast
  repeat' first
    | with_reducible assumption
    | simp only [Kept.mkSame]

theorem State.takeTrig_kept {s0 : State} {s : State} {t : Trig} (hk : Kept s0 s) : Kept s0 (State.takeTrig s t) := by
  unfold State.takeTrig
  repeat' first
    | with_reducible assumption
    | with_reducible refine State.openRec_kept ?_
    | with_reducible refine State.refuse_kept ?_
    | with_reducible refine State.setLast_kept ?_
    | split
    | simp only [Kept.mkSame]

theorem recordEngineTake_kept {s0 : State} {s : State} (hk : Kept s0 s) : Kept s0 (recordEngineTake s) := by
  unfold recordEngineTake
  repeat' first
    | with_reducible assumption
    | with_reducible refine State.busyEval_kept ?_
    | with_reducible refine State.setQueue_kept ?_
    | with_reducible refine State.takeTrig_kept ?_
    | split

theorem dumpGo_kept {s0 : State} {cls : Nat} {len : Nat} {s : State} (hk : Kept s0 s) : Kept s0 (dumpGo cls len s) := by
  unfold dumpGo
  repeat' first
    | with_reducible assumption
    | with_reducible refine State.busyEval_kept ?_
    | with_reducible refine State.openRec_kept ?_
    | with_reducible refine State.takeLocal_kept ?_
    | (apply State.takeLocal_keptE; assumption)
    | with_reducible refine Kept.set ?_ _ _
    | with_reducible refine Kept.ite ?_ ?_
    | split
    | ((try lift_lets); intro x; first | (refine (have hx : Kept s0 x := ?a; ?b); case' a => subst x; case' b => clear_value x) | (refine (have hx : Kept s0 x.2 := ?a; ?b); case' a => subst x; case' b => clear_value x) | (refine (have hx : Kept s0 x.1 := ?a; ?b); case' a => subst x; case' b => clear_value x) | (refine (have hx : Kept s0 x.2.2 := ?a; ?b); case' a => subst x; case' b => clear_value x) | (refine (have hx : ∀ t, Kept s0 t → Kept s0 (x t) := ?a; ?b); case' a => subst x; case' b => clear_value x) | (refine (have hx : ∀ t a, Kept s0 t → Kept s0 (x t a) := ?a; ?b); case' a => subst x; case' b => clear_value x) | (refine (have hx : ∀ a t, Kept s0 t → Kept s0 (x a t) := ?a; ?b); case' a => subst x; case' b => clear_value x) | subst x)
    | simp only [Kept.mkSame, Kept.mkPlate, Kept.mkStore, Kept.mkMg]
    | (intro; intro; intro)

theorem State.recsFlushed_kept {s0 : State} {s : State} (hk : Kept s0 s) : Kept s0 (State.recsFlushed s) := by
  unfold State.recsFlushed
  repeat' first
    | with_reducible assumption
    | simp only [Kept.mkSame]

theorem State.flushBegin_kept {s0 : State} {s : State} (hk : Kept s0 s) : Kept s0 (State.flushBegin s) := by
  unfold State.flushBegin
  repeat' first
    | with_reducible assumption
    | with_reducible refine State.flushStart_kept ?_
    | with_reducible refine State.recsFlushed_kept ?_

theorem hqFlush_kept {s0 : State} {s : State} (hk : Kept s0 s) : Kept s0 (hqFlush s) := by
  unfold hqFlush
  repeat' first
    | with_reducible assumption
    | with_reducible refine State.flushBegin_kept ?_
    | with_reducible refine State.hqRefused_kept ?_
    | with_reducible refine Kept.atEdge (fun _ _ => ?_) ?_
    | with_reducible refine Kept.ite ?_ ?_
    | split
    | (intro; intro; intro)

theorem tgLocalRead_kept {s0 : State} {s : State} (hk : Kept s0 s) : Kept s0 (tgLocalRead s) := by
  unfold tgLocalRead
  repeat' first
    | with_reducible assumption
    | with_reducible refine Kept.set ?_ _ _

end Sys2Proof.Machine
end

