-- ==== Sys2Proof/Laws/KeptChannels.lean ====
section
/-! SUPPORT. Channels: no operation disturbs the queue or the canonical form. -/

set_option linter.unusedSimpArgs false
set_option linter.unusedVariables false

namespace Sys2Proof.Machine

open Sys2Proof

theorem State.setChan_kept {s0 : State} {s : State} {ch : Nat} {c : Chan} (hk : Kept s0 s) : Kept s0 (State.setChan s ch c) := by
  unfold State.setChan
  repeat' first
    | with_reducible assumption
    | simp only [Kept.mkSame]

theorem State.setDie_kept {s0 : State} {s : State} {n : Nat} {d : FeDie} (hk : Kept s0 s) : Kept s0 (State.setDie s n d) := by
  unfold State.setDie
  repeat' first
    | with_reducible assumption
    | simp only [Kept.mkSame]

theorem State.keepTables_kept {s0 : State} {s : State} {p : Nat → Bool} (hk : Kept s0 s) : Kept s0 (State.keepTables s p) := by
  unfold State.keepTables
  repeat' first
    | with_reducible assumption
    | with_reducible refine State.setChan_kept ?_
    | with_reducible refine Kept.each (fun _ _ _ => ?_) ?_

theorem State.toFifo_kept {s0 : State} {s : State} {ch : Nat} {orbit : Nat} {w : Nat} {invalid : Bool} {last : Nat × Nat × Int} (hk : Kept s0 s) : Kept s0 (State.toFifo s ch orbit w invalid last) := by
  unfold State.toFifo
  repeat' first
    | with_reducible assumption
    | with_reducible refine State.setChan_kept ?_
    | with_reducible refine Kept.count ?_ _ _
    | with_reducible refine Kept.flag ?_ _ _ _
    | with_reducible refine Kept.ite ?_ ?_
    | split
    | ((try lift_lets); intro x; first | (refine (have hx : Kept s0 x := ?a; ?b); case' a => subst x; case' b => clear_value x) | (refine (have hx : Kept s0 x.2 := ?a; ?b); case' a => subst x; case' b => clear_value x) | (refine (have hx : Kept s0 x.1 := ?a; ?b); case' a => subst x; case' b => clear_value x) | (refine (have hx : Kept s0 x.2.2 := ?a; ?b); case' a => subst x; case' b => clear_value x) | (refine (have hx : ∀ t, Kept s0 t → Kept s0 (x t) := ?a; ?b); case' a => subst x; case' b => clear_value x) | (refine (have hx : ∀ t a, Kept s0 t → Kept s0 (x t a) := ?a; ?b); case' a => subst x; case' b => clear_value x) | (refine (have hx : ∀ a t, Kept s0 t → Kept s0 (x a t) := ?a; ?b); case' a => subst x; case' b => clear_value x) | subst x)
    | simp only [Kept.mkSame, Kept.mkPlate, Kept.mkStore, Kept.mkMg]
    | (intro; intro; intro)

theorem State.complete_kept {s0 : State} {s : State} {ch : Nat} {ld : Lead} {tot : Nat} {flags : Nat} {invalid : Bool} (hk : Kept s0 s) : Kept s0 (State.complete s ch ld tot flags invalid) := by
  unfold State.complete
  repeat' first
    | with_reducible assumption
    | with_reducible refine State.toFifo_kept ?_
    | with_reducible refine Kept.count ?_ _ _
    | with_reducible refine Kept.flag ?_ _ _ _
    | with_reducible refine Kept.iff (fun _ _ => ?_) ?_
    | with_reducible refine Kept.ite ?_ ?_
    | split
    | ((try lift_lets); intro x; first | (refine (have hx : Kept s0 x := ?a; ?b); case' a => subst x; case' b => clear_value x) | (refine (have hx : Kept s0 x.2 := ?a; ?b); case' a => subst x; case' b => clear_value x) | (refine (have hx : Kept s0 x.1 := ?a; ?b); case' a => subst x; case' b => clear_value x) | (refine (have hx : Kept s0 x.2.2 := ?a; ?b); case' a => subst x; case' b => clear_value x) | (refine (have hx : ∀ t, Kept s0 t → Kept s0 (x t) := ?a; ?b); case' a => subst x; case' b => clear_value x) | (refine (have hx : ∀ t a, Kept s0 t → Kept s0 (x t a) := ?a; ?b); case' a => subst x; case' b => clear_value x) | (refine (have hx : ∀ a t, Kept s0 t → Kept s0 (x a t) := ?a; ?b); case' a => subst x; case' b => clear_value x) | subst x)
    | (intro; intro; intro)

theorem State.injEdge_kept {s0 : State} {s : State} {ch : Nat} {w : InjWin} (hk : Kept s0 s) : Kept s0 (State.injEdge s ch w).2 := by
  unfold State.injEdge
  repeat' first
    | with_reducible assumption
    | with_reducible refine State.setChan_kept ?_
    | with_reducible refine Kept.count ?_ _ _
    | with_reducible refine Kept.flag ?_ _ _ _
    | with_reducible refine Kept.iff (fun _ _ => ?_) ?_
    | with_reducible refine Kept.ite ?_ ?_
    | split
    | ((try lift_lets); intro x; first | (refine (have hx : Kept s0 x := ?a; ?b); case' a => subst x; case' b => clear_value x) | (refine (have hx : Kept s0 x.2 := ?a; ?b); case' a => subst x; case' b => clear_value x) | (refine (have hx : Kept s0 x.1 := ?a; ?b); case' a => subst x; case' b => clear_value x) | (refine (have hx : Kept s0 x.2.2 := ?a; ?b); case' a => subst x; case' b => clear_value x) | (refine (have hx : ∀ t, Kept s0 t → Kept s0 (x t) := ?a; ?b); case' a => subst x; case' b => clear_value x) | (refine (have hx : ∀ t a, Kept s0 t → Kept s0 (x t a) := ?a; ?b); case' a => subst x; case' b => clear_value x) | (refine (have hx : ∀ a t, Kept s0 t → Kept s0 (x a t) := ?a; ?b); case' a => subst x; case' b => clear_value x) | subst x)
    | simp only [Kept.mkSame, Kept.mkPlate, Kept.mkStore, Kept.mkMg]
    | (intro; intro; intro)
theorem State.injEdge_keptE {s0 : State} {s : State} {ch : Nat} {w : InjWin} {x0} {t : State} (e : State.injEdge s ch w = (x0, t)) (hk : Kept s0 s) : Kept s0 t := by
  have k := State.injEdge_kept (s := s) (ch := ch) (w := w) hk
  rw [e] at k; exact k

theorem State.timeEdge_kept {s0 : State} {s : State} {ch : Nat} {st : Stamp} {flags : Nat} (hk : Kept s0 s) : Kept s0 (State.timeEdge s ch st flags) := by
  unfold State.timeEdge
  repeat' first
    | with_reducible assumption
    | with_reducible refine State.injEdge_kept ?_
    | with_reducible refine State.setChan_kept ?_
    | with_reducible refine Kept.iff (fun _ _ => ?_) ?_
    | with_reducible refine Kept.ite ?_ ?_
    | split

theorem leadingEdge_kept {s0 : State} {ch : Nat} {st : Stamp} {s : State} (hk : Kept s0 s) : Kept s0 (leadingEdge ch st s) := by
  unfold leadingEdge
  repeat' first
    | with_reducible assumption
    | with_reducible refine State.setChan_kept ?_
    | with_reducible refine State.timeEdge_kept ?_
    | with_reducible refine Kept.ite ?_ ?_
    | split
    | ((try lift_lets); intro x; first | (refine (have hx : Kept s0 x := ?a; ?b); case' a => subst x; case' b => clear_value x) | (refine (have hx : Kept s0 x.2 := ?a; ?b); case' a => subst x; case' b => clear_value x) | (refine (have hx : Kept s0 x.1 := ?a; ?b); case' a => subst x; case' b => clear_value x) | (refine (have hx : Kept s0 x.2.2 := ?a; ?b); case' a => subst x; case' b => clear_value x) | (refine (have hx : ∀ t, Kept s0 t → Kept s0 (x t) := ?a; ?b); case' a => subst x; case' b => clear_value x) | (refine (have hx : ∀ t a, Kept s0 t → Kept s0 (x t a) := ?a; ?b); case' a => subst x; case' b => clear_value x) | (refine (have hx : ∀ a t, Kept s0 t → Kept s0 (x a t) := ?a; ?b); case' a => subst x; case' b => clear_value x) | subst x)
    | simp only [Kept.mkSame, Kept.mkPlate, Kept.mkStore, Kept.mkMg]
    | (intro; intro; intro)

theorem trailingEdge_kept {s0 : State} {ch : Nat} {st : Stamp} {overload : Bool} {narrow : Bool} {invalid : Bool} {s : State} (hk : Kept s0 s) : Kept s0 (trailingEdge ch st overload narrow invalid s) := by
  unfold trailingEdge
  repeat' first
    | with_reducible assumption
    | with_reducible refine State.complete_kept ?_
    | with_reducible refine State.setChan_kept ?_
    | with_reducible refine Kept.ite ?_ ?_
    | split
    | ((try lift_lets); intro x; first | (refine (have hx : Kept s0 x := ?a; ?b); case' a => subst x; case' b => clear_value x) | (refine (have hx : Kept s0 x.2 := ?a; ?b); case' a => subst x; case' b => clear_value x) | (refine (have hx : Kept s0 x.1 := ?a; ?b); case' a => subst x; case' b => clear_value x) | (refine (have hx : Kept s0 x.2.2 := ?a; ?b); case' a => subst x; case' b => clear_value x) | (refine (have hx : ∀ t, Kept s0 t → Kept s0 (x t) := ?a; ?b); case' a => subst x; case' b => clear_value x) | (refine (have hx : ∀ t a, Kept s0 t → Kept s0 (x t a) := ?a; ?b); case' a => subst x; case' b => clear_value x) | (refine (have hx : ∀ a t, Kept s0 t → Kept s0 (x a t) := ?a; ?b); case' a => subst x; case' b => clear_value x) | subst x)
    | simp only [Kept.mkSame, Kept.mkPlate, Kept.mkStore, Kept.mkMg]
    | (intro; intro; intro)

theorem State.overflow_kept {s0 : State} {s : State} {ch : Nat} {overload : Bool} {invalid : Bool} (hk : Kept s0 s) : Kept s0 (State.overflow s ch overload invalid) := by
  unfold State.overflow
  repeat' first
    | with_reducible assumption
    | with_reducible refine State.complete_kept ?_
    | with_reducible refine State.setChan_kept ?_
    | split
    | simp only [Kept.mkSame]

theorem totOverflow_kept {s0 : State} {ch : Nat} {overload : Bool} {invalid : Bool} {s : State} (hk : Kept s0 s) : Kept s0 (totOverflow ch overload invalid s) := by
  unfold totOverflow
  repeat' first
    | with_reducible assumption
    | with_reducible refine State.overflow_kept ?_

theorem recoveryEnd_kept {s0 : State} {ch : Nat} {beyond : Bool} {lost : Nat} {st : Stamp} {s : State} (hk : Kept s0 s) : Kept s0 (recoveryEnd ch beyond lost st s) := by
  unfold recoveryEnd
  repeat' first
    | with_reducible assumption
    | with_reducible refine State.setChan_kept ?_
    | with_reducible refine State.timeEdge_kept ?_
    | with_reducible refine Kept.count ?_ _ _
    | with_reducible refine Kept.flag ?_ _ _ _
    | with_reducible refine Kept.iff (fun _ _ => ?_) ?_
    | with_reducible refine Kept.ite ?_ ?_
    | split
    | ((try lift_lets); intro x; first | (refine (have hx : Kept s0 x := ?a; ?b); case' a => subst x; case' b => clear_value x) | (refine (have hx : Kept s0 x.2 := ?a; ?b); case' a => subst x; case' b => clear_value x) | (refine (have hx : Kept s0 x.1 := ?a; ?b); case' a => subst x; case' b => clear_value x) | (refine (have hx : Kept s0 x.2.2 := ?a; ?b); case' a => subst x; case' b => clear_value x) | (refine (have hx : ∀ t, Kept s0 t → Kept s0 (x t) := ?a; ?b); case' a => subst x; case' b => clear_value x) | (refine (have hx : ∀ t a, Kept s0 t → Kept s0 (x t a) := ?a; ?b); case' a => subst x; case' b => clear_value x) | (refine (have hx : ∀ a t, Kept s0 t → Kept s0 (x a t) := ?a; ?b); case' a => subst x; case' b => clear_value x) | subst x)
    | simp only [Kept.mkSame, Kept.mkPlate, Kept.mkStore, Kept.mkMg]
    | (intro; intro; intro)

theorem State.startHigh_kept {s0 : State} {s : State} {ch : Nat} (hk : Kept s0 s) : Kept s0 (State.startHigh s ch) := by
  unfold State.startHigh
  repeat' first
    | with_reducible assumption
    | with_reducible refine State.injEdge_kept ?_
    | (apply State.injEdge_keptE; assumption)
    | with_reducible refine State.setChan_kept ?_
    | with_reducible refine Kept.ite ?_ ?_
    | split
    | ((try lift_lets); intro x; first | (refine (have hx : Kept s0 x := ?a; ?b); case' a => subst x; case' b => clear_value x) | (refine (have hx : Kept s0 x.2 := ?a; ?b); case' a => subst x; case' b => clear_value x) | (refine (have hx : Kept s0 x.1 := ?a; ?b); case' a => subst x; case' b => clear_value x) | (refine (have hx : Kept s0 x.2.2 := ?a; ?b); case' a => subst x; case' b => clear_value x) | (refine (have hx : ∀ t, Kept s0 t → Kept s0 (x t) := ?a; ?b); case' a => subst x; case' b => clear_value x) | (refine (have hx : ∀ t a, Kept s0 t → Kept s0 (x t a) := ?a; ?b); case' a => subst x; case' b => clear_value x) | (refine (have hx : ∀ a t, Kept s0 t → Kept s0 (x a t) := ?a; ?b); case' a => subst x; case' b => clear_value x) | subst x)
    | simp only [Kept.mkSame, Kept.mkPlate, Kept.mkStore, Kept.mkMg]
    | (intro; intro; intro)

theorem State.resumeHigh_kept {s0 : State} {s : State} {p : Nat → Bool} {again : Bool} (hk : Kept s0 s) : Kept s0 (State.resumeHigh s p again) := by
  unfold State.resumeHigh
  repeat' first
    | with_reducible assumption
    | with_reducible refine State.startHigh_kept ?_
    | with_reducible refine Kept.each (fun _ _ _ => ?_) ?_
    | split
    | (intro; intro; intro)

theorem State.autoMask_kept {s0 : State} {s : State} {ch : Nat} {cause : Nat} (hk : Kept s0 s) : Kept s0 (State.autoMask s ch cause) := by
  unfold State.autoMask
  repeat' first
    | with_reducible assumption
    | with_reducible refine Kept.keepOld ?_ _ _
    | with_reducible refine State.overflow_kept ?_
    | with_reducible refine Kept.set ?_ _ _
    | with_reducible refine Kept.flag ?_ _ _ _

theorem stuckDetected_kept {s0 : State} {ch : Nat} {s : State} (hk : Kept s0 s) : Kept s0 (stuckDetected ch s) := by
  unfold stuckDetected
  repeat' first
    | with_reducible assumption
    | with_reducible refine State.autoMask_kept ?_
    | with_reducible refine Kept.ite ?_ ?_

theorem rateLimitExceeded_kept {s0 : State} {ch : Nat} {s : State} (hk : Kept s0 s) : Kept s0 (rateLimitExceeded ch s) := by
  unfold rateLimitExceeded
  repeat' first
    | with_reducible assumption
    | with_reducible refine Kept.keepOld ?_ _ _
    | with_reducible refine Kept.set ?_ _ _
    | with_reducible refine Kept.flag ?_ _ _ _
    | with_reducible refine Kept.ite ?_ ?_

theorem automaskClear_kept {s0 : State} {die : Nat} {k : Nat} {mask : Nat} {s : State} (hk : Kept s0 s) : Kept s0 (automaskClear die k mask s) := by
  unfold automaskClear
  repeat' first
    | with_reducible assumption
    | with_reducible refine Kept.keepOld ?_ _ _
    | with_reducible refine State.setChan_kept ?_
    | with_reducible refine Kept.set ?_ _ _
    | with_reducible refine Kept.each (fun _ _ _ => ?_) ?_

theorem channelConfigWrite_kept {s0 : State} {die : Nat} {l : Nat} {v : Nat} {s : State} (hk : Kept s0 s) : Kept s0 (channelConfigWrite die l v s) := by
  unfold channelConfigWrite
  repeat' first
    | with_reducible assumption
    | with_reducible refine Kept.keepOldFe ?_ _
    | with_reducible refine Kept.set ?_ _ _

theorem State.loadLatch_kept {s0 : State} {s : State} {r : Nat} {w : Nat} (hk : Kept s0 s) : Kept s0 (State.loadLatch s r w) := by
  unfold State.loadLatch
  repeat' first
    | with_reducible assumption
    | with_reducible refine State.setChan_kept ?_
    | with_reducible refine Kept.each (fun _ _ _ => ?_) ?_
    | with_reducible refine Kept.ite ?_ ?_
    | split
    | ((try lift_lets); intro x; first | (refine (have hx : Kept s0 x := ?a; ?b); case' a => subst x; case' b => clear_value x) | (refine (have hx : Kept s0 x.2 := ?a; ?b); case' a => subst x; case' b => clear_value x) | (refine (have hx : Kept s0 x.1 := ?a; ?b); case' a => subst x; case' b => clear_value x) | (refine (have hx : Kept s0 x.2.2 := ?a; ?b); case' a => subst x; case' b => clear_value x) | (refine (have hx : ∀ t, Kept s0 t → Kept s0 (x t) := ?a; ?b); case' a => subst x; case' b => clear_value x) | (refine (have hx : ∀ t a, Kept s0 t → Kept s0 (x t a) := ?a; ?b); case' a => subst x; case' b => clear_value x) | (refine (have hx : ∀ a t, Kept s0 t → Kept s0 (x a t) := ?a; ?b); case' a => subst x; case' b => clear_value x) | subst x)
    | simp only [Kept.mkSame, Kept.mkPlate, Kept.mkStore, Kept.mkMg]
    | (with_reducible refine Kept.change ?_ ⟨?_, ?_, ?_, ?_, ?_, ?_, ?_, ?_, ?_⟩)
    | exact id
    | exact Sparse.wf_put _ _ _
    | exact Sparse.wf_filter _ _
    | exact Sparse.wf_erase _ _
    | exact fun _ => Sparse.wf_nil _
    | (intro; intro; intro)

theorem State.strobeDie_kept {s0 : State} {s : State} {set : Nat} {coarse : Nat} {n : Nat} (hk : Kept s0 s) : Kept s0 (State.strobeDie s set coarse n) := by
  unfold State.strobeDie
  repeat' first
    | with_reducible assumption
    | with_reducible refine State.setChan_kept ?_
    | with_reducible refine State.setDie_kept ?_
    | with_reducible refine State.strobe_kept ?_
    | with_reducible refine State.tick_kept ?_
    | with_reducible refine Kept.set ?_ _ _
    | with_reducible refine Kept.count ?_ _ _
    | with_reducible refine Kept.flag ?_ _ _ _
    | with_reducible refine Kept.iff (fun _ _ => ?_) ?_
    | with_reducible refine Kept.each (fun _ _ _ => ?_) ?_
    | with_reducible refine Kept.ite ?_ ?_
    | split
    | ((try lift_lets); intro x; first | (refine (have hx : Kept s0 x := ?a; ?b); case' a => subst x; case' b => clear_value x) | (refine (have hx : Kept s0 x.2 := ?a; ?b); case' a => subst x; case' b => clear_value x) | (refine (have hx : Kept s0 x.1 := ?a; ?b); case' a => subst x; case' b => clear_value x) | (refine (have hx : Kept s0 x.2.2 := ?a; ?b); case' a => subst x; case' b => clear_value x) | (refine (have hx : ∀ t, Kept s0 t → Kept s0 (x t) := ?a; ?b); case' a => subst x; case' b => clear_value x) | (refine (have hx : ∀ t a, Kept s0 t → Kept s0 (x t a) := ?a; ?b); case' a => subst x; case' b => clear_value x) | (refine (have hx : ∀ a t, Kept s0 t → Kept s0 (x a t) := ?a; ?b); case' a => subst x; case' b => clear_value x) | subst x)
    | simp only [Kept.mkSame, Kept.mkPlate, Kept.mkStore, Kept.mkMg]
    | (intro; intro; intro)

theorem State.strobe_kept {s0 : State} {s : State} {arg : Nat} {coarse : Nat} (hk : Kept s0 s) : Kept s0 (State.strobe s arg coarse) := by
  unfold State.strobe
  repeat' first
    | with_reducible assumption
    | with_reducible refine State.strobeDie_kept ?_
    | with_reducible refine Kept.each (fun _ _ _ => ?_) ?_

theorem State.nextHit_keptE {s0 : State} {s : State} {n : Nat} {a0 a1 a2 t} (e : State.nextHit s n = some (a0, a1, a2, t)) (hk : Kept s0 s) : Kept s0 t := by
  revert e; unfold State.nextHit
  repeat' first
    | with_reducible assumption
    | with_reducible refine State.setChan_kept ?_
    | with_reducible refine State.setDie_kept ?_
    | split
    | (intro e; contradiction)
    | (intro e; injection e with e; injection e with e1 e2; injection e2 with e2 e3; injection e3 with e3 e4; subst e4)
    | (extract_lets +onlyGivenNames x; first | (refine (have hx : Kept s0 x := ?a; ?b); case' a => subst x; case' b => clear_value x) | (refine (have hx : Kept s0 x.2 := ?a; ?b); case' a => subst x; case' b => clear_value x) | (refine (have hx : Kept s0 x.1 := ?a; ?b); case' a => subst x; case' b => clear_value x) | (refine (have hx : Kept s0 x.2.2 := ?a; ?b); case' a => subst x; case' b => clear_value x) | (refine (have hx : ∀ t, Kept s0 t → Kept s0 (x t) := ?a; ?b); case' a => subst x; case' b => clear_value x) | (refine (have hx : ∀ t a, Kept s0 t → Kept s0 (x t a) := ?a; ?b); case' a => subst x; case' b => clear_value x) | (refine (have hx : ∀ a t, Kept s0 t → Kept s0 (x a t) := ?a; ?b); case' a => subst x; case' b => clear_value x) | subst x)
    | simp only [Kept.mkSame, Kept.mkPlate, Kept.mkStore, Kept.mkMg]

end Sys2Proof.Machine
end

