-- ==== Sys2Proof/Laws/KeptFreeze.lean ====
section
/-! SUPPORT. Freeze: no operation disturbs the queue or the canonical form. -/

set_option linter.unusedSimpArgs false
set_option linter.unusedVariables false

namespace Sys2Proof.Machine

open Sys2Proof

theorem State.sortIn_kept {s0 : State} {s : State} {die : Nat} {orbit : Nat} {w : Nat} (hk : Kept s0 s) : Kept s0 (State.sortIn s die orbit w) := by
  unfold State.sortIn
  repeat' first
    | with_reducible assumption
    | simp only [Kept.mkStore]

theorem State.mergeStore_kept {s0 : State} {s : State} {die : Nat} {orbit : Nat} {w : Nat} (hk : Kept s0 s) : Kept s0 (State.mergeStore s die orbit w) := by
  unfold State.mergeStore
  repeat' first
    | with_reducible assumption
    | with_reducible refine State.sortIn_kept ?_
    | with_reducible refine Kept.count ?_ _ _
    | with_reducible refine Kept.flag ?_ _ _ _
    | with_reducible refine Kept.ite ?_ ?_
    | split
    | ((try lift_lets); intro x; first | (refine (have hx : Kept s0 x := ?a; ?b); case' a => subst x; case' b => clear_value x) | (refine (have hx : Kept s0 x.2 := ?a; ?b); case' a => subst x; case' b => clear_value x) | (refine (have hx : Kept s0 x.1 := ?a; ?b); case' a => subst x; case' b => clear_value x) | (refine (have hx : Kept s0 x.2.2 := ?a; ?b); case' a => subst x; case' b => clear_value x) | (refine (have hx : ∀ t, Kept s0 t → Kept s0 (x t) := ?a; ?b); case' a => subst x; case' b => clear_value x) | (refine (have hx : ∀ t a, Kept s0 t → Kept s0 (x t a) := ?a; ?b); case' a => subst x; case' b => clear_value x) | (refine (have hx : ∀ a t, Kept s0 t → Kept s0 (x a t) := ?a; ?b); case' a => subst x; case' b => clear_value x) | subst x)
    | simp only [Kept.mkSame, Kept.mkPlate, Kept.mkStore, Kept.mkMg]
    | (intro; intro; intro)

theorem State.freezeTrigger_kept {s0 : State} {s : State} {cause : Nat} {r : Nat} {b : Bkt} (hk : Kept s0 s) : Kept s0 (State.freezeTrigger s cause r b) := by
  unfold State.freezeTrigger
  repeat' first
    | with_reducible assumption
    | with_reducible refine Kept.set ?_ _ _
    | with_reducible refine Kept.raise ?_ _ _
    | split
    | ((try lift_lets); intro x; first | (refine (have hx : Kept s0 x := ?a; ?b); case' a => subst x; case' b => clear_value x) | (refine (have hx : Kept s0 x.2 := ?a; ?b); case' a => subst x; case' b => clear_value x) | (refine (have hx : Kept s0 x.1 := ?a; ?b); case' a => subst x; case' b => clear_value x) | (refine (have hx : Kept s0 x.2.2 := ?a; ?b); case' a => subst x; case' b => clear_value x) | (refine (have hx : ∀ t, Kept s0 t → Kept s0 (x t) := ?a; ?b); case' a => subst x; case' b => clear_value x) | (refine (have hx : ∀ t a, Kept s0 t → Kept s0 (x t a) := ?a; ?b); case' a => subst x; case' b => clear_value x) | (refine (have hx : ∀ a t, Kept s0 t → Kept s0 (x a t) := ?a; ?b); case' a => subst x; case' b => clear_value x) | subst x)
    | simp only [Kept.mkSame, Kept.mkPlate, Kept.mkStore, Kept.mkMg]
    | (intro; intro; intro)

theorem State.violate_kept {s0 : State} {s : State} {cnt : Fld} {freeze : Bool} {cause : Nat} {r : Nat} {b : Bkt} (hk : Kept s0 s) : Kept s0 (State.violate s cnt freeze cause r b) := by
  unfold State.violate
  repeat' first
    | with_reducible assumption
    | with_reducible refine State.freezeTrigger_kept ?_
    | with_reducible refine Kept.count ?_ _ _
    | with_reducible refine Kept.flag ?_ _ _ _
    | with_reducible refine Kept.ite ?_ ?_

theorem State.maskTests_kept {s0 : State} {s : State} {b : Bkt} {hits : List Nat} (hk : Kept s0 s) : Kept s0 (State.maskTests s b hits) := by
  unfold State.maskTests
  repeat' first
    | with_reducible assumption
    | with_reducible refine State.violate_kept ?_
    | with_reducible refine Kept.iff (fun _ _ => ?_) ?_
    | with_reducible refine Kept.each (fun _ _ _ => ?_) ?_
    | simp only [Kept.mkSame]

theorem bucketSeal_kept {s0 : State} {markers : List Marker} {s : State} (hk : Kept s0 s) : Kept s0 (bucketSeal markers s) := by
  unfold bucketSeal
  repeat' first
    | with_reducible assumption
    | with_reducible refine State.depthUpdate_kept ?_
    | with_reducible refine State.maskTests_kept ?_
    | with_reducible refine State.pinSealed_kept ?_
    | with_reducible refine State.sealBucket_kept ?_
    | (apply State.sealBucket_keptE; assumption)
    | with_reducible refine Kept.count ?_ _ _
    | with_reducible refine Kept.iff (fun _ _ => ?_) ?_
    | with_reducible refine Kept.each (fun _ _ _ => ?_) ?_
    | with_reducible refine Kept.ite ?_ ?_
    | split
    | ((try lift_lets); intro x; first | (refine (have hx : Kept s0 x := ?a; ?b); case' a => subst x; case' b => clear_value x) | (refine (have hx : Kept s0 x.2 := ?a; ?b); case' a => subst x; case' b => clear_value x) | (refine (have hx : Kept s0 x.1 := ?a; ?b); case' a => subst x; case' b => clear_value x) | (refine (have hx : Kept s0 x.2.2 := ?a; ?b); case' a => subst x; case' b => clear_value x) | (refine (have hx : ∀ t, Kept s0 t → Kept s0 (x t) := ?a; ?b); case' a => subst x; case' b => clear_value x) | (refine (have hx : ∀ t a, Kept s0 t → Kept s0 (x t a) := ?a; ?b); case' a => subst x; case' b => clear_value x) | (refine (have hx : ∀ a t, Kept s0 t → Kept s0 (x a t) := ?a; ?b); case' a => subst x; case' b => clear_value x) | subst x)
    | simp only [Kept.mkSame, Kept.mkPlate, Kept.mkStore, Kept.mkMg]
    | (intro; intro; intro)

theorem freezeArm_kept {s0 : State} {post : Nat} {s : State} (hk : Kept s0 s) : Kept s0 (freezeArm post s) := by
  unfold freezeArm
  repeat' first
    | with_reducible assumption
    | with_reducible refine Kept.set ?_ _ _
    | with_reducible refine Kept.ite ?_ ?_

theorem freezeDisarm_kept {s0 : State} {post : Nat} {s : State} (hk : Kept s0 s) : Kept s0 (freezeDisarm post s) := by
  unfold freezeDisarm
  repeat' first
    | with_reducible assumption
    | with_reducible refine Kept.set ?_ _ _
    | with_reducible refine Kept.ite ?_ ?_

theorem freezeForce_kept {s0 : State} {s : State} (hk : Kept s0 s) : Kept s0 (freezeForce s) := by
  unfold freezeForce
  repeat' first
    | with_reducible assumption
    | with_reducible refine State.freezeTrigger_kept ?_
    | with_reducible refine Kept.ite ?_ ?_

theorem ringStop_kept {s0 : State} {s : State} (hk : Kept s0 s) : Kept s0 (ringStop s) := by
  unfold ringStop
  repeat' first
    | with_reducible assumption
    | with_reducible refine State.busyEval_kept ?_
    | with_reducible refine Kept.set ?_ _ _
    | with_reducible refine Kept.count ?_ _ _
    | with_reducible refine Kept.raise ?_ _ _
    | with_reducible refine Kept.ite ?_ ?_
    | split
    | ((try lift_lets); intro x; first | (refine (have hx : Kept s0 x := ?a; ?b); case' a => subst x; case' b => clear_value x) | (refine (have hx : Kept s0 x.2 := ?a; ?b); case' a => subst x; case' b => clear_value x) | (refine (have hx : Kept s0 x.1 := ?a; ?b); case' a => subst x; case' b => clear_value x) | (refine (have hx : Kept s0 x.2.2 := ?a; ?b); case' a => subst x; case' b => clear_value x) | (refine (have hx : ∀ t, Kept s0 t → Kept s0 (x t) := ?a; ?b); case' a => subst x; case' b => clear_value x) | (refine (have hx : ∀ t a, Kept s0 t → Kept s0 (x t a) := ?a; ?b); case' a => subst x; case' b => clear_value x) | (refine (have hx : ∀ a t, Kept s0 t → Kept s0 (x a t) := ?a; ?b); case' a => subst x; case' b => clear_value x) | subst x)
    | simp only [Kept.mkSame, Kept.mkPlate, Kept.mkStore, Kept.mkMg]
    | (intro; intro; intro)

theorem flushDone_kept {s0 : State} {s : State} (hk : Kept s0 s) : Kept s0 (flushDone s) := by
  unfold flushDone
  repeat' first
    | with_reducible assumption
    | with_reducible refine State.busyEval_kept ?_
    | with_reducible refine State.flushEnd_kept ?_
    | with_reducible refine Kept.set ?_ _ _
    | with_reducible refine Kept.ite ?_ ?_
    | simp only [Kept.mkSame]

theorem State.chasersRun_kept {s0 : State} {s : State} {p : Bkt} (hk : Kept s0 s) : Kept s0 (State.chasersRun s p).1 := by
  unfold State.chasersRun
  repeat' first
    | with_reducible assumption
    | with_reducible refine State.chaserTake_kept ?_
    | with_reducible refine State.timerTick_kept ?_
    | with_reducible refine Kept.set ?_ _ _
    | with_reducible refine Kept.each (fun _ _ _ => ?_) ?_
    | with_reducible refine Kept.ite ?_ ?_
    | split
    | ((try lift_lets); intro x; first | (refine (have hx : Kept s0 x := ?a; ?b); case' a => subst x; case' b => clear_value x) | (refine (have hx : Kept s0 x.2 := ?a; ?b); case' a => subst x; case' b => clear_value x) | (refine (have hx : Kept s0 x.1 := ?a; ?b); case' a => subst x; case' b => clear_value x) | (refine (have hx : Kept s0 x.2.2 := ?a; ?b); case' a => subst x; case' b => clear_value x) | (refine (have hx : ∀ t, Kept s0 t → Kept s0 (x t) := ?a; ?b); case' a => subst x; case' b => clear_value x) | (refine (have hx : ∀ t a, Kept s0 t → Kept s0 (x t a) := ?a; ?b); case' a => subst x; case' b => clear_value x) | (refine (have hx : ∀ a t, Kept s0 t → Kept s0 (x a t) := ?a; ?b); case' a => subst x; case' b => clear_value x) | subst x)
    | simp only [Kept.mkSame, Kept.mkPlate, Kept.mkStore, Kept.mkMg]
    | (intro; intro; intro)
theorem State.chasersRun_keptE {s0 : State} {s : State} {p : Bkt} {x} {t : State} (e : State.chasersRun s p = (t, x)) (hk : Kept s0 s) : Kept s0 t := by
  have k := State.chasersRun_kept (s := s) (p := p) hk
  rw [e] at k; exact k

theorem State.quietWords_kept {s0 : State} {s : State} (hk : Kept s0 s) : Kept s0 (State.quietWords s) := by
  unfold State.quietWords
  repeat' first
    | with_reducible assumption
    | split
    | simp only [Kept.mkSame, Kept.mkPlate, Kept.mkStore, Kept.mkMg]
    | (intro; intro; intro)

theorem State.formWords_kept {s0 : State} {s : State} {p : Bkt} {eval : Bool} {absent : Nat} (hk : Kept s0 s) : Kept s0 (State.formWords s p eval absent) := by
  unfold State.formWords
  repeat' first
    | with_reducible assumption
    | with_reducible refine Kept.count ?_ _ _
    | with_reducible refine Kept.flag ?_ _ _ _
    | with_reducible refine Kept.iff (fun _ _ => ?_) ?_
    | with_reducible refine Kept.each (fun _ _ _ => ?_) ?_
    | with_reducible refine Kept.foldl (fun _ _ _ => ?_) ?_
    | with_reducible refine Kept.foldlSnd (fun _ _ _ => ?_) ?_
    | with_reducible refine Kept.foldlSnd2 (fun _ _ _ => ?_) ?_
    | with_reducible refine Kept.ite ?_ ?_
    | split
    | ((try lift_lets); intro x; first | (refine (have hx : Kept s0 x := ?a; ?b); case' a => subst x; case' b => clear_value x) | (refine (have hx : Kept s0 x.2 := ?a; ?b); case' a => subst x; case' b => clear_value x) | (refine (have hx : Kept s0 x.1 := ?a; ?b); case' a => subst x; case' b => clear_value x) | (refine (have hx : Kept s0 x.2.2 := ?a; ?b); case' a => subst x; case' b => clear_value x) | (refine (have hx : ∀ t, Kept s0 t → Kept s0 (x t) := ?a; ?b); case' a => subst x; case' b => clear_value x) | (refine (have hx : ∀ t a, Kept s0 t → Kept s0 (x t a) := ?a; ?b); case' a => subst x; case' b => clear_value x) | (refine (have hx : ∀ a t, Kept s0 t → Kept s0 (x a t) := ?a; ?b); case' a => subst x; case' b => clear_value x) | subst x)
    | simp only [Kept.mkSame, Kept.mkPlate, Kept.mkStore, Kept.mkMg]
    | (intro; intro; intro)

theorem mapPeriodClose_kept {s0 : State} {orbit : Nat} {bucket : Nat} {absent : Nat} {bad : List Nat} {s : State} (hk : Kept s0 s) : Kept s0 (mapPeriodClose orbit bucket absent bad s) := by
  unfold mapPeriodClose
  repeat' first
    | with_reducible assumption
    | with_reducible refine State.chasersRun_kept ?_
    | with_reducible refine State.formWords_kept ?_
    | with_reducible refine State.openRecord_kept ?_
    | with_reducible refine State.plateReadBad_kept ?_
    | with_reducible refine Kept.set ?_ _ _
    | with_reducible refine Kept.iff (fun _ _ => ?_) ?_
    | with_reducible refine Kept.each (fun _ _ _ => ?_) ?_
    | split
    | simp only [Kept.mkSame]

theorem chaserTimerExpiry_kept {s0 : State} {c : Nat} {t : Nat} {s : State} (hk : Kept s0 s) : Kept s0 (chaserTimerExpiry c t s) := by
  unfold chaserTimerExpiry
  repeat' first
    | with_reducible assumption
    | with_reducible refine State.timerTick_kept ?_
    | with_reducible refine Kept.ite ?_ ?_
    | split
    | (intro; intro; intro)

end Sys2Proof.Machine
end

