-- ==== Sys2Proof/Laws/KeptHkQueue.lean ====
section
/-! SUPPORT. HkQueue: no operation disturbs the queue or the canonical form. -/

set_option linter.unusedSimpArgs false
set_option linter.unusedVariables false

namespace Sys2Proof.Machine

open Sys2Proof

theorem State.setHk_kept {s0 : State} {s : State} {h : Hk} (hk : Kept s0 s) : Kept s0 (State.setHk s h) := by
  unfold State.setHk
  repeat' first
    | with_reducible assumption
    | with_reducible refine Kept.set ?_ _ _
    | simp only [Kept.mkMg]

theorem State.hkBegin_kept {s0 : State} {s : State} (hk : Kept s0 s) : Kept s0 (State.hkBegin s) := by
  unfold State.hkBegin
  repeat' first
    | with_reducible assumption
    | with_reducible refine State.setHk_kept ?_

theorem State.hkRequest_kept {s0 : State} {s : State} {input : Nat} {cal : Bool} (hk : Kept s0 s) : Kept s0 (State.hkRequest s input cal) := by
  unfold State.hkRequest
  repeat' first
    | with_reducible assumption
    | with_reducible refine State.assayCheck_kept ?_
    | with_reducible refine State.hkBegin_kept ?_
    | with_reducible refine State.setHk_kept ?_
    | with_reducible refine Kept.count ?_ _ _
    | with_reducible refine Kept.flag ?_ _ _ _
    | with_reducible refine Kept.ite ?_ ?_
    | split

end Sys2Proof.Machine
end

