-- ==== Sys2Proof/Laws/KeptTdc.lean ====
section
/-! SUPPORT. Tdc: no operation disturbs the queue or the canonical form. -/

set_option linter.unusedSimpArgs false
set_option linter.unusedVariables false

namespace Sys2Proof.Machine

open Sys2Proof

theorem State.unlock_kept {s0 : State} {s : State} {n : Nat} {to_ : Nat} (hk : Kept s0 s) : Kept s0 (State.unlock s n to_) := by
  unfold State.unlock
  repeat' first
    | with_reducible assumption
    | with_reducible refine State.setDie_kept ?_
    | with_reducible refine Kept.set ?_ _ _
    | with_reducible refine Kept.raise ?_ _ _
    | with_reducible refine Kept.ite ?_ ?_
    | split
    | ((try lift_lets); intro x; first | (refine (have hx : Kept s0 x := ?a; ?b); case' a => subst x; case' b => clear_value x) | (refine (have hx : Kept s0 x.2 := ?a; ?b); case' a => subst x; case' b => clear_value x) | (refine (have hx : Kept s0 x.1 := ?a; ?b); case' a => subst x; case' b => clear_value x) | (refine (have hx : Kept s0 x.2.2 := ?a; ?b); case' a => subst x; case' b => clear_value x) | (refine (have hx : ∀ t, Kept s0 t → Kept s0 (x t) := ?a; ?b); case' a => subst x; case' b => clear_value x) | (refine (have hx : ∀ t a, Kept s0 t → Kept s0 (x t a) := ?a; ?b); case' a => subst x; case' b => clear_value x) | (refine (have hx : ∀ a t, Kept s0 t → Kept s0 (x a t) := ?a; ?b); case' a => subst x; case' b => clear_value x) | subst x)
    | simp only [Kept.mkSame, Kept.mkPlate, Kept.mkStore, Kept.mkMg]
    | (intro; intro; intro)

theorem State.lockDie_kept {s0 : State} {s : State} {n : Nat} (hk : Kept s0 s) : Kept s0 (State.lockDie s n) := by
  unfold State.lockDie
  repeat' first
    | with_reducible assumption
    | with_reducible refine State.setDie_kept ?_
    | with_reducible refine Kept.set ?_ _ _
    | with_reducible refine Kept.raise ?_ _ _
    | with_reducible refine Kept.ite ?_ ?_
    | split
    | ((try lift_lets); intro x; first | (refine (have hx : Kept s0 x := ?a; ?b); case' a => subst x; case' b => clear_value x) | (refine (have hx : Kept s0 x.2 := ?a; ?b); case' a => subst x; case' b => clear_value x) | (refine (have hx : Kept s0 x.1 := ?a; ?b); case' a => subst x; case' b => clear_value x) | (refine (have hx : Kept s0 x.2.2 := ?a; ?b); case' a => subst x; case' b => clear_value x) | (refine (have hx : ∀ t, Kept s0 t → Kept s0 (x t) := ?a; ?b); case' a => subst x; case' b => clear_value x) | (refine (have hx : ∀ t a, Kept s0 t → Kept s0 (x t a) := ?a; ?b); case' a => subst x; case' b => clear_value x) | (refine (have hx : ∀ a t, Kept s0 t → Kept s0 (x a t) := ?a; ?b); case' a => subst x; case' b => clear_value x) | subst x)
    | simp only [Kept.mkSame, Kept.mkPlate, Kept.mkStore, Kept.mkMg]
    | (intro; intro; intro)

theorem coarsePllLock_kept {s0 : State} {die : Nat} {s : State} (hk : Kept s0 s) : Kept s0 (coarsePllLock die s) := by
  unfold coarsePllLock
  repeat' first
    | with_reducible assumption
    | with_reducible refine Kept.set ?_ _ _
    | with_reducible refine Kept.ite ?_ ?_

theorem coarsePllLoss_kept {s0 : State} {die : Nat} {s : State} (hk : Kept s0 s) : Kept s0 (coarsePllLoss die s) := by
  unfold coarsePllLoss
  repeat' first
    | with_reducible assumption
    | with_reducible refine State.unlock_kept ?_

theorem dllLock_kept {s0 : State} {die : Nat} {s : State} (hk : Kept s0 s) : Kept s0 (dllLock die s) := by
  unfold dllLock
  repeat' first
    | with_reducible assumption
    | with_reducible refine State.lockDie_kept ?_
    | with_reducible refine State.resumeHigh_kept ?_
    | with_reducible refine Kept.ite ?_ ?_
    | split
    | (intro; intro; intro)

theorem dllUnlock_kept {s0 : State} {die : Nat} {s : State} (hk : Kept s0 s) : Kept s0 (dllUnlock die s) := by
  unfold dllUnlock
  repeat' first
    | with_reducible assumption
    | with_reducible refine State.unlock_kept ?_
    | with_reducible refine Kept.ite ?_ ?_

theorem relock_kept {s0 : State} {die : Nat} {s : State} (hk : Kept s0 s) : Kept s0 (relock die s) := by
  unfold relock
  repeat' first
    | with_reducible assumption
    | with_reducible refine State.unlock_kept ?_
    | with_reducible refine Kept.ite ?_ ?_

theorem State.servosOff_kept {s0 : State} {s : State} (hk : Kept s0 s) : Kept s0 (State.servosOff s) := by
  unfold State.servosOff
  repeat' first
    | with_reducible assumption
    | with_reducible refine State.unlock_kept ?_
    | with_reducible refine Kept.each (fun _ _ _ => ?_) ?_

theorem State.cdTake_kept {s0 : State} {s : State} {n : Nat} {v : Nat} (hk : Kept s0 s) : Kept s0 (State.cdTake s n v) := by
  unfold State.cdTake
  repeat' first
    | with_reducible assumption
    | with_reducible refine State.setDie_kept ?_
    | with_reducible refine Kept.set ?_ _ _

theorem State.cdRefuse_kept {s0 : State} {s : State} {n : Nat} {slice : Bool} (hk : Kept s0 s) : Kept s0 (State.cdRefuse s n slice) := by
  unfold State.cdRefuse
  repeat' first
    | with_reducible assumption
    | with_reducible refine State.setDie_kept ?_
    | with_reducible refine Kept.count ?_ _ _
    | with_reducible refine Kept.raise ?_ _ _
    | with_reducible refine Kept.ite ?_ ?_

theorem cdFullRun_kept {s0 : State} {die : Nat} {s : State} (hk : Kept s0 s) : Kept s0 (cdFullRun die s) := by
  unfold cdFullRun
  repeat' first
    | with_reducible assumption
    | with_reducible refine State.cdRefuse_kept ?_
    | with_reducible refine State.cdTake_kept ?_
    | with_reducible refine Kept.set ?_ _ _
    | with_reducible refine Kept.ite ?_ ?_
    | split
    | ((try lift_lets); intro x; first | (refine (have hx : Kept s0 x := ?a; ?b); case' a => subst x; case' b => clear_value x) | (refine (have hx : Kept s0 x.2 := ?a; ?b); case' a => subst x; case' b => clear_value x) | (refine (have hx : Kept s0 x.1 := ?a; ?b); case' a => subst x; case' b => clear_value x) | (refine (have hx : Kept s0 x.2.2 := ?a; ?b); case' a => subst x; case' b => clear_value x) | (refine (have hx : ∀ t, Kept s0 t → Kept s0 (x t) := ?a; ?b); case' a => subst x; case' b => clear_value x) | (refine (have hx : ∀ t a, Kept s0 t → Kept s0 (x t a) := ?a; ?b); case' a => subst x; case' b => clear_value x) | (refine (have hx : ∀ a t, Kept s0 t → Kept s0 (x a t) := ?a; ?b); case' a => subst x; case' b => clear_value x) | subst x)
    | (intro; intro; intro)

theorem cdAbort_kept {s0 : State} {die : Nat} {s : State} (hk : Kept s0 s) : Kept s0 (cdAbort die s) := by
  unfold cdAbort
  repeat' first
    | with_reducible assumption
    | with_reducible refine State.cdTake_kept ?_
    | with_reducible refine Kept.set ?_ _ _
    | with_reducible refine Kept.ite ?_ ?_
    | split
    | ((try lift_lets); intro x; first | (refine (have hx : Kept s0 x := ?a; ?b); case' a => subst x; case' b => clear_value x) | (refine (have hx : Kept s0 x.2 := ?a; ?b); case' a => subst x; case' b => clear_value x) | (refine (have hx : Kept s0 x.1 := ?a; ?b); case' a => subst x; case' b => clear_value x) | (refine (have hx : Kept s0 x.2.2 := ?a; ?b); case' a => subst x; case' b => clear_value x) | (refine (have hx : ∀ t, Kept s0 t → Kept s0 (x t) := ?a; ?b); case' a => subst x; case' b => clear_value x) | (refine (have hx : ∀ t a, Kept s0 t → Kept s0 (x t a) := ?a; ?b); case' a => subst x; case' b => clear_value x) | (refine (have hx : ∀ a t, Kept s0 t → Kept s0 (x a t) := ?a; ?b); case' a => subst x; case' b => clear_value x) | subst x)
    | simp only [Kept.mkSame, Kept.mkPlate, Kept.mkStore, Kept.mkMg]
    | (intro; intro; intro)

theorem State.cdSliceStart_kept {s0 : State} {s : State} {n : Nat} {col : Nat} (hk : Kept s0 s) : Kept s0 (State.cdSliceStart s n col) := by
  unfold State.cdSliceStart
  repeat' first
    | with_reducible assumption
    | with_reducible refine State.cdTake_kept ?_
    | with_reducible refine State.setDie_kept ?_
    | with_reducible refine Kept.set ?_ _ _
    | with_reducible refine Kept.ite ?_ ?_
    | split
    | ((try lift_lets); intro x; first | (refine (have hx : Kept s0 x := ?a; ?b); case' a => subst x; case' b => clear_value x) | (refine (have hx : Kept s0 x.2 := ?a; ?b); case' a => subst x; case' b => clear_value x) | (refine (have hx : Kept s0 x.1 := ?a; ?b); case' a => subst x; case' b => clear_value x) | (refine (have hx : Kept s0 x.2.2 := ?a; ?b); case' a => subst x; case' b => clear_value x) | (refine (have hx : ∀ t, Kept s0 t → Kept s0 (x t) := ?a; ?b); case' a => subst x; case' b => clear_value x) | (refine (have hx : ∀ t a, Kept s0 t → Kept s0 (x t a) := ?a; ?b); case' a => subst x; case' b => clear_value x) | (refine (have hx : ∀ a t, Kept s0 t → Kept s0 (x a t) := ?a; ?b); case' a => subst x; case' b => clear_value x) | subst x)
    | simp only [Kept.mkSame, Kept.mkPlate, Kept.mkStore, Kept.mkMg]
    | (intro; intro; intro)

theorem cdSliceEnd_kept {s0 : State} {die : Nat} {stamps : Nat} {invalid : Bool} {s : State} (hk : Kept s0 s) : Kept s0 (cdSliceEnd die stamps invalid s) := by
  unfold cdSliceEnd
  repeat' first
    | with_reducible assumption
    | with_reducible refine State.cdTake_kept ?_
    | with_reducible refine State.resumeHigh_kept ?_
    | with_reducible refine State.setDie_kept ?_
    | with_reducible refine Kept.set ?_ _ _
    | with_reducible refine Kept.count ?_ _ _
    | with_reducible refine Kept.iff (fun _ _ => ?_) ?_
    | with_reducible refine Kept.ite ?_ ?_
    | split
    | ((try lift_lets); intro x; first | (refine (have hx : Kept s0 x := ?a; ?b); case' a => subst x; case' b => clear_value x) | (refine (have hx : Kept s0 x.2 := ?a; ?b); case' a => subst x; case' b => clear_value x) | (refine (have hx : Kept s0 x.1 := ?a; ?b); case' a => subst x; case' b => clear_value x) | (refine (have hx : Kept s0 x.2.2 := ?a; ?b); case' a => subst x; case' b => clear_value x) | (refine (have hx : ∀ t, Kept s0 t → Kept s0 (x t) := ?a; ?b); case' a => subst x; case' b => clear_value x) | (refine (have hx : ∀ t a, Kept s0 t → Kept s0 (x t a) := ?a; ?b); case' a => subst x; case' b => clear_value x) | (refine (have hx : ∀ a t, Kept s0 t → Kept s0 (x a t) := ?a; ?b); case' a => subst x; case' b => clear_value x) | subst x)
    | simp only [Kept.mkSame, Kept.mkPlate, Kept.mkStore, Kept.mkMg]
    | (intro; intro; intro)

theorem State.putTable_kept {s0 : State} {s : State} {ch : Nat} {t : List Nat} (hk : Kept s0 s) : Kept s0 (State.putTable s ch t) := by
  unfold State.putTable
  repeat' first
    | with_reducible assumption
    | with_reducible refine Kept.set ?_ _ _
    | with_reducible refine Kept.each (fun _ _ _ => ?_) ?_

theorem State.swapTables_kept {s0 : State} {s : State} {die : Nat} {hist : List (List Nat)} (hk : Kept s0 s) : Kept s0 (State.swapTables s die hist) := by
  unfold State.swapTables
  repeat' first
    | with_reducible assumption
    | with_reducible refine State.cdTake_kept ?_
    | with_reducible refine State.keepTables_kept ?_
    | with_reducible refine State.putTable_kept ?_
    | with_reducible refine Kept.set ?_ _ _
    | with_reducible refine Kept.raise ?_ _ _
    | with_reducible refine Kept.iff (fun _ _ => ?_) ?_
    | with_reducible refine Kept.each (fun _ _ _ => ?_) ?_
    | with_reducible refine Kept.foldl (fun _ _ _ => ?_) ?_
    | with_reducible refine Kept.foldlSnd (fun _ _ _ => ?_) ?_
    | with_reducible refine Kept.foldlSnd2 (fun _ _ _ => ?_) ?_
    | with_reducible refine Kept.ite ?_ ?_
    | split
    | ((try lift_lets); intro x; first | (refine (have hx : Kept s0 x := ?a; ?b); case' a => subst x; case' b => clear_value x) | (refine (have hx : Kept s0 x.2 := ?a; ?b); case' a => subst x; case' b => clear_value x) | (refine (have hx : Kept s0 x.1 := ?a; ?b); case' a => subst x; case' b => clear_value x) | (refine (have hx : Kept s0 x.2.2 := ?a; ?b); case' a => subst x; case' b => clear_value x) | (refine (have hx : ∀ t, Kept s0 t → Kept s0 (x t) := ?a; ?b); case' a => subst x; case' b => clear_value x) | (refine (have hx : ∀ t a, Kept s0 t → Kept s0 (x t a) := ?a; ?b); case' a => subst x; case' b => clear_value x) | (refine (have hx : ∀ a t, Kept s0 t → Kept s0 (x a t) := ?a; ?b); case' a => subst x; case' b => clear_value x) | subst x)
    | (intro; intro; intro)

theorem cdTablesComputed_kept {s0 : State} {die : Nat} {hist : List (List Nat)} {s : State} (hk : Kept s0 s) : Kept s0 (cdTablesComputed die hist s) := by
  unfold cdTablesComputed
  repeat' first
    | with_reducible assumption
    | with_reducible refine State.swapTables_kept ?_
    | with_reducible refine Kept.atEdge (fun _ _ => ?_) ?_
    | with_reducible refine Kept.ite ?_ ?_
    | split
    | ((try lift_lets); intro x; first | (refine (have hx : Kept s0 x := ?a; ?b); case' a => subst x; case' b => clear_value x) | (refine (have hx : Kept s0 x.2 := ?a; ?b); case' a => subst x; case' b => clear_value x) | (refine (have hx : Kept s0 x.1 := ?a; ?b); case' a => subst x; case' b => clear_value x) | (refine (have hx : Kept s0 x.2.2 := ?a; ?b); case' a => subst x; case' b => clear_value x) | (refine (have hx : ∀ t, Kept s0 t → Kept s0 (x t) := ?a; ?b); case' a => subst x; case' b => clear_value x) | (refine (have hx : ∀ t a, Kept s0 t → Kept s0 (x t a) := ?a; ?b); case' a => subst x; case' b => clear_value x) | (refine (have hx : ∀ a t, Kept s0 t → Kept s0 (x a t) := ?a; ?b); case' a => subst x; case' b => clear_value x) | subst x)
    | (intro; intro; intro)

theorem binTableWrite_kept {s0 : State} {die : Nat} {l : Nat} {j : Nat} {v : Nat} {s : State} (hk : Kept s0 s) : Kept s0 (binTableWrite die l j v s) := by
  unfold binTableWrite
  repeat' first
    | with_reducible assumption
    | with_reducible refine State.keepTables_kept ?_
    | with_reducible refine Kept.set ?_ _ _
    | with_reducible refine Kept.ite ?_ ?_

end Sys2Proof.Machine
end

