-- ==== Sys2Proof/Laws/KeptCalendar.lean ====
section
/-! SUPPORT. Calendar: no operation disturbs the queue or the canonical form. -/

set_option linter.unusedSimpArgs false
set_option linter.unusedVariables false

namespace Sys2Proof.Machine

open Sys2Proof

theorem State.jump_kept {s0 : State} {s : State} {n : Nat} (hk : Kept s0 s) : Kept s0 (State.jump s n) := by
  unfold State.jump
  repeat' first
    | with_reducible assumption
    | with_reducible refine State.tick_kept ?_
    | with_reducible refine Kept.set ?_ _ _
    | with_reducible refine Kept.ite ?_ ?_
    | split
    | ((try lift_lets); intro x; first | (refine (have hx : Kept s0 x := ?a; ?b); case' a => subst x; case' b => clear_value x) | (refine (have hx : Kept s0 x.2 := ?a; ?b); case' a => subst x; case' b => clear_value x) | (refine (have hx : Kept s0 x.1 := ?a; ?b); case' a => subst x; case' b => clear_value x) | (refine (have hx : Kept s0 x.2.2 := ?a; ?b); case' a => subst x; case' b => clear_value x) | (refine (have hx : ∀ t, Kept s0 t → Kept s0 (x t) := ?a; ?b); case' a => subst x; case' b => clear_value x) | (refine (have hx : ∀ t a, Kept s0 t → Kept s0 (x t a) := ?a; ?b); case' a => subst x; case' b => clear_value x) | (refine (have hx : ∀ a t, Kept s0 t → Kept s0 (x a t) := ?a; ?b); case' a => subst x; case' b => clear_value x) | subst x)
    | simp only [Kept.mkSame, Kept.mkPlate, Kept.mkStore, Kept.mkMg]
    | (intro; intro; intro)

theorem State.domainStops_kept {s0 : State} {s : State} (hk : Kept s0 s) : Kept s0 (State.domainStops s) := by
  unfold State.domainStops
  repeat' first
    | with_reducible assumption
    | with_reducible refine State.quietWords_kept ?_
    | with_reducible refine State.servosOff_kept ?_
    | split
    | ((try lift_lets); intro x; first | (refine (have hx : Kept s0 x := ?a; ?b); case' a => subst x; case' b => clear_value x) | (refine (have hx : Kept s0 x.2 := ?a; ?b); case' a => subst x; case' b => clear_value x) | (refine (have hx : Kept s0 x.1 := ?a; ?b); case' a => subst x; case' b => clear_value x) | (refine (have hx : Kept s0 x.2.2 := ?a; ?b); case' a => subst x; case' b => clear_value x) | (refine (have hx : ∀ t, Kept s0 t → Kept s0 (x t) := ?a; ?b); case' a => subst x; case' b => clear_value x) | (refine (have hx : ∀ t a, Kept s0 t → Kept s0 (x t a) := ?a; ?b); case' a => subst x; case' b => clear_value x) | (refine (have hx : ∀ a t, Kept s0 t → Kept s0 (x a t) := ?a; ?b); case' a => subst x; case' b => clear_value x) | subst x)
    | simp only [Kept.mkSame, Kept.mkPlate, Kept.mkStore, Kept.mkMg]
    | (intro; intro; intro)

theorem State.setRloop_kept {s0 : State} {s : State} {r : Nat} {l : RLoop} (hk : Kept s0 s) : Kept s0 (State.setRloop s r l) := by
  unfold State.setRloop
  repeat' first
    | with_reducible assumption
    | simp only [Kept.mkSame]

theorem State.loopOpen_kept {s0 : State} {s : State} {r : Nat} (hk : Kept s0 s) : Kept s0 (State.loopOpen s r) := by
  unfold State.loopOpen
  repeat' first
    | with_reducible assumption
    | with_reducible refine State.injAbort_kept ?_
    | with_reducible refine Kept.set ?_ _ _
    | with_reducible refine Kept.iff (fun _ _ => ?_) ?_

theorem State.loopFault_kept {s0 : State} {s : State} {r : Nat} {cause : Nat} (hk : Kept s0 s) : Kept s0 (State.loopFault s r cause) := by
  unfold State.loopFault
  repeat' first
    | with_reducible assumption
    | with_reducible refine State.loopOpen_kept ?_
    | with_reducible refine Kept.set ?_ _ _
    | with_reducible refine Kept.raise ?_ _ _
    | with_reducible refine Kept.ite ?_ ?_

theorem State.loopFaultAll_kept {s0 : State} {s : State} {cause : Nat} (hk : Kept s0 s) : Kept s0 (State.loopFaultAll s cause) := by
  unfold State.loopFaultAll
  repeat' first
    | with_reducible assumption
    | with_reducible refine State.loopFault_kept ?_
    | with_reducible refine Kept.each (fun _ _ _ => ?_) ?_

theorem State.i2cError_kept {s0 : State} {s : State} {state : Nat} (hk : Kept s0 s) : Kept s0 (State.i2cError s state) := by
  unfold State.i2cError
  repeat' first
    | with_reducible assumption
    | with_reducible refine Kept.set ?_ _ _
    | with_reducible refine Kept.flag ?_ _ _ _

theorem State.tileGone_kept {s0 : State} {s : State} (hk : Kept s0 s) : Kept s0 (State.tileGone s) := by
  unfold State.tileGone
  repeat' first
    | with_reducible assumption
    | with_reducible refine Kept.keepOldFe ?_ _
    | with_reducible refine State.i2cError_kept ?_
    | with_reducible refine State.loopFaultAll_kept ?_
    | with_reducible refine Kept.set ?_ _ _
    | with_reducible refine Kept.iff (fun _ _ => ?_) ?_
    | with_reducible refine Kept.each (fun _ _ _ => ?_) ?_
    | split
    | ((try lift_lets); intro x; first | (refine (have hx : Kept s0 x := ?a; ?b); case' a => subst x; case' b => clear_value x) | (refine (have hx : Kept s0 x.2 := ?a; ?b); case' a => subst x; case' b => clear_value x) | (refine (have hx : Kept s0 x.1 := ?a; ?b); case' a => subst x; case' b => clear_value x) | (refine (have hx : Kept s0 x.2.2 := ?a; ?b); case' a => subst x; case' b => clear_value x) | (refine (have hx : ∀ t, Kept s0 t → Kept s0 (x t) := ?a; ?b); case' a => subst x; case' b => clear_value x) | (refine (have hx : ∀ t a, Kept s0 t → Kept s0 (x t a) := ?a; ?b); case' a => subst x; case' b => clear_value x) | (refine (have hx : ∀ a t, Kept s0 t → Kept s0 (x a t) := ?a; ?b); case' a => subst x; case' b => clear_value x) | subst x)
    | (intro; intro; intro)

theorem State.edgeAct_kept {s0 : State} {s : State} {a : EdgeAct} (hk : Kept s0 s) : Kept s0 (State.edgeAct s a) := by
  unfold State.edgeAct
  repeat' first
    | with_reducible assumption
    | with_reducible refine State.bankJoins_kept ?_
    | with_reducible refine State.domainStops_kept ?_
    | with_reducible refine State.flushBegin_kept ?_
    | with_reducible refine State.histClearing_kept ?_
    | with_reducible refine State.retireBanks_kept ?_
    | with_reducible refine State.swapTables_kept ?_
    | with_reducible refine State.tileGone_kept ?_
    | split
    | simp only [Kept.mkSame, Kept.mkPlate, Kept.mkStore, Kept.mkMg]
    | (intro; intro; intro)

theorem State.edgeActs_kept {s0 : State} {s : State} (hk : Kept s0 s) : Kept s0 (State.edgeActs s) := by
  unfold State.edgeActs
  repeat' first
    | with_reducible assumption
    | with_reducible refine State.edgeAct_kept ?_
    | with_reducible refine Kept.each (fun _ _ _ => ?_) ?_
    | split
    | simp only [Kept.mkSame, Kept.mkPlate, Kept.mkStore, Kept.mkMg]
    | (intro; intro; intro)

theorem State.moveTo_kept {s0 : State} {s : State} {b : Nat} (hk : Kept s0 s) : Kept s0 (State.moveTo s b) := by
  unfold State.moveTo
  repeat' first
    | with_reducible assumption
    | with_reducible refine State.edgeActs_kept ?_
    | with_reducible refine State.jump_kept ?_
    | with_reducible refine State.takeArrived_kept ?_
    | with_reducible refine Kept.ite ?_ ?_
    | split
    | ((try lift_lets); intro x; first | (refine (have hx : Kept s0 x := ?a; ?b); case' a => subst x; case' b => clear_value x) | (refine (have hx : Kept s0 x.2 := ?a; ?b); case' a => subst x; case' b => clear_value x) | (refine (have hx : Kept s0 x.1 := ?a; ?b); case' a => subst x; case' b => clear_value x) | (refine (have hx : Kept s0 x.2.2 := ?a; ?b); case' a => subst x; case' b => clear_value x) | (refine (have hx : ∀ t, Kept s0 t → Kept s0 (x t) := ?a; ?b); case' a => subst x; case' b => clear_value x) | (refine (have hx : ∀ t a, Kept s0 t → Kept s0 (x t a) := ?a; ?b); case' a => subst x; case' b => clear_value x) | (refine (have hx : ∀ a t, Kept s0 t → Kept s0 (x a t) := ?a; ?b); case' a => subst x; case' b => clear_value x) | subst x)
    | (intro; intro; intro)

theorem State.miss_kept {s0 : State} {s : State} {n : Nat} {e : Nat} (hk : Kept s0 s) : Kept s0 (State.miss s n e) := by
  unfold State.miss
  repeat' first
    | with_reducible assumption
    | with_reducible refine Kept.count ?_ _ _
    | with_reducible refine Kept.raise ?_ _ _
    | with_reducible refine Kept.ite ?_ ?_
    | simp only [Kept.mkSame]

theorem State.calInject_kept {s0 : State} {s : State} {e : Nat} {a : Nat} (hk : Kept s0 s) : Kept s0 (State.calInject s e a) := by
  unfold State.calInject
  repeat' first
    | with_reducible assumption
    | with_reducible refine State.injRequest_kept ?_
    | with_reducible refine State.miss_kept ?_
    | with_reducible refine Kept.ite ?_ ?_
    | split
    | ((try lift_lets); intro x; first | (refine (have hx : Kept s0 x := ?a; ?b); case' a => subst x; case' b => clear_value x) | (refine (have hx : Kept s0 x.2 := ?a; ?b); case' a => subst x; case' b => clear_value x) | (refine (have hx : Kept s0 x.1 := ?a; ?b); case' a => subst x; case' b => clear_value x) | (refine (have hx : Kept s0 x.2.2 := ?a; ?b); case' a => subst x; case' b => clear_value x) | (refine (have hx : ∀ t, Kept s0 t → Kept s0 (x t) := ?a; ?b); case' a => subst x; case' b => clear_value x) | (refine (have hx : ∀ t a, Kept s0 t → Kept s0 (x t a) := ?a; ?b); case' a => subst x; case' b => clear_value x) | (refine (have hx : ∀ a t, Kept s0 t → Kept s0 (x a t) := ?a; ?b); case' a => subst x; case' b => clear_value x) | subst x)
    | simp only [Kept.mkSame, Kept.mkPlate, Kept.mkStore, Kept.mkMg]
    | (intro; intro; intro)

theorem State.calBurnish_kept {s0 : State} {s : State} {a : Nat} (hk : Kept s0 s) : Kept s0 (State.calBurnish s a) := by
  unfold State.calBurnish
  repeat' first
    | with_reducible assumption
    | with_reducible refine Kept.ite ?_ ?_
    | split
    | simp only [Kept.mkSame, Kept.mkPlate, Kept.mkStore, Kept.mkMg]
    | (intro; intro; intro)

theorem State.calRefresh_kept {s0 : State} {s : State} {e : Nat} {a : Nat} (hk : Kept s0 s) : Kept s0 (State.calRefresh s e a) := by
  unfold State.calRefresh
  repeat' first
    | with_reducible assumption
    | with_reducible refine State.cdRefuse_kept ?_
    | with_reducible refine State.miss_kept ?_
    | with_reducible refine Kept.ite ?_ ?_
    | split
    | ((try lift_lets); intro x; first | (refine (have hx : Kept s0 x := ?a; ?b); case' a => subst x; case' b => clear_value x) | (refine (have hx : Kept s0 x.2 := ?a; ?b); case' a => subst x; case' b => clear_value x) | (refine (have hx : Kept s0 x.1 := ?a; ?b); case' a => subst x; case' b => clear_value x) | (refine (have hx : Kept s0 x.2.2 := ?a; ?b); case' a => subst x; case' b => clear_value x) | (refine (have hx : ∀ t, Kept s0 t → Kept s0 (x t) := ?a; ?b); case' a => subst x; case' b => clear_value x) | (refine (have hx : ∀ t a, Kept s0 t → Kept s0 (x t a) := ?a; ?b); case' a => subst x; case' b => clear_value x) | (refine (have hx : ∀ a t, Kept s0 t → Kept s0 (x a t) := ?a; ?b); case' a => subst x; case' b => clear_value x) | subst x)
    | simp only [Kept.mkSame, Kept.mkPlate, Kept.mkStore, Kept.mkMg]
    | (intro; intro; intro)

theorem State.calAct_kept {s0 : State} {s : State} {e : Nat} {act : Nat} {a : Nat} {coarse : Nat} (hk : Kept s0 s) : Kept s0 (State.calAct s e act a coarse) := by
  unfold State.calAct
  repeat' first
    | with_reducible assumption
    | with_reducible refine State.calBurnish_kept ?_
    | with_reducible refine State.calInject_kept ?_
    | with_reducible refine State.calRefresh_kept ?_
    | with_reducible refine State.hkRequest_kept ?_
    | with_reducible refine State.miss_kept ?_
    | with_reducible refine State.strobe_kept ?_
    | with_reducible refine reloadGo_kept ?_
    | with_reducible refine Kept.raise ?_ _ _
    | with_reducible refine Kept.ite ?_ ?_
    | split
    | simp only [Kept.mkSame, Kept.mkPlate, Kept.mkStore, Kept.mkMg]
    | (intro; intro; intro)

theorem State.markFired_kept {s0 : State} {s : State} {e : Nat} (hk : Kept s0 s) : Kept s0 (State.markFired s e) := by
  unfold State.markFired
  repeat' first
    | with_reducible assumption
    | split
    | simp only [Kept.mkSame, Kept.mkPlate, Kept.mkStore, Kept.mkMg]
    | (intro; intro; intro)

theorem State.calFire_kept {s0 : State} {s : State} {k : Nat} (hk : Kept s0 s) : Kept s0 (State.calFire s k) := by
  unfold State.calFire
  repeat' first
    | with_reducible assumption
    | with_reducible refine State.calAct_kept ?_
    | with_reducible refine State.markFired_kept ?_
    | with_reducible refine State.moveTo_kept ?_
    | split
    | ((try lift_lets); intro x; first | (refine (have hx : Kept s0 x := ?a; ?b); case' a => subst x; case' b => clear_value x) | (refine (have hx : Kept s0 x.2 := ?a; ?b); case' a => subst x; case' b => clear_value x) | (refine (have hx : Kept s0 x.1 := ?a; ?b); case' a => subst x; case' b => clear_value x) | (refine (have hx : Kept s0 x.2.2 := ?a; ?b); case' a => subst x; case' b => clear_value x) | (refine (have hx : ∀ t, Kept s0 t → Kept s0 (x t) := ?a; ?b); case' a => subst x; case' b => clear_value x) | (refine (have hx : ∀ t a, Kept s0 t → Kept s0 (x t a) := ?a; ?b); case' a => subst x; case' b => clear_value x) | (refine (have hx : ∀ a t, Kept s0 t → Kept s0 (x a t) := ?a; ?b); case' a => subst x; case' b => clear_value x) | subst x)
    | (intro; intro; intro)

theorem State.calRun_kept {s0 : State} {s : State} {hi : Nat} (hk : Kept s0 s) : Kept s0 (State.calRun s hi) := by
  unfold State.calRun
  repeat' first
    | with_reducible assumption
    | with_reducible refine State.calFire_kept ?_
    | with_reducible refine Kept.each (fun _ _ _ => ?_) ?_
    | split
    | (intro; intro; intro)

theorem State.stopEdge_kept {s0 : State} {s : State} (hk : Kept s0 s) : Kept s0 (State.stopEdge s) := by
  unfold State.stopEdge
  repeat' first
    | with_reducible assumption
    | with_reducible refine State.calRun_kept ?_
    | with_reducible refine State.edgeActs_kept ?_
    | with_reducible refine State.takeArrived_kept ?_
    | split
    | ((try lift_lets); intro x; first | (refine (have hx : Kept s0 x := ?a; ?b); case' a => subst x; case' b => clear_value x) | (refine (have hx : Kept s0 x.2 := ?a; ?b); case' a => subst x; case' b => clear_value x) | (refine (have hx : Kept s0 x.1 := ?a; ?b); case' a => subst x; case' b => clear_value x) | (refine (have hx : Kept s0 x.2.2 := ?a; ?b); case' a => subst x; case' b => clear_value x) | (refine (have hx : ∀ t, Kept s0 t → Kept s0 (x t) := ?a; ?b); case' a => subst x; case' b => clear_value x) | (refine (have hx : ∀ t a, Kept s0 t → Kept s0 (x t a) := ?a; ?b); case' a => subst x; case' b => clear_value x) | (refine (have hx : ∀ a t, Kept s0 t → Kept s0 (x a t) := ?a; ?b); case' a => subst x; case' b => clear_value x) | subst x)
    | (intro; intro; intro)

theorem State.pass_kept {s0 : State} {s : State} {n : Nat} (hk : Kept s0 s) : Kept s0 (State.pass s n) := by
  unfold State.pass
  repeat' first
    | with_reducible assumption
    | with_reducible refine State.calRun_kept ?_
    | with_reducible refine State.moveTo_kept ?_
    | with_reducible refine State.stopEdge_kept ?_
    | with_reducible refine Kept.ite ?_ ?_
    | split
    | (intro; intro; intro)

theorem State.calDo_kept {s0 : State} {s : State} {e : Nat} {p : Nat → Nat → Bool} (hk : Kept s0 s) : Kept s0 (State.calDo s e p) := by
  unfold State.calDo
  repeat' first
    | with_reducible assumption
    | with_reducible refine State.calFire_kept ?_
    | with_reducible refine Kept.each (fun _ _ _ => ?_) ?_
    | split
    | simp only [Kept.mkSame, Kept.mkPlate, Kept.mkStore, Kept.mkMg]
    | (intro; intro; intro)

theorem testChargeInjection_kept {s0 : State} {e : Nat} {s : State} (hk : Kept s0 s) : Kept s0 (testChargeInjection e s) := by
  unfold testChargeInjection
  repeat' first
    | with_reducible assumption
    | with_reducible refine State.calDo_kept ?_
    | split
    | (intro; intro; intro)

theorem housekeepingConversion_kept {s0 : State} {e : Nat} {s : State} (hk : Kept s0 s) : Kept s0 (housekeepingConversion e s) := by
  unfold housekeepingConversion
  repeat' first
    | with_reducible assumption
    | with_reducible refine State.calDo_kept ?_
    | split
    | (intro; intro; intro)

theorem loopEngineTestSignal_kept {s0 : State} {e : Nat} {s : State} (hk : Kept s0 s) : Kept s0 (loopEngineTestSignal e s) := by
  unfold loopEngineTestSignal
  repeat' first
    | with_reducible assumption
    | with_reducible refine State.calDo_kept ?_
    | split
    | (intro; intro; intro)

theorem burnishWindow_kept {s0 : State} {e : Nat} {s : State} (hk : Kept s0 s) : Kept s0 (burnishWindow e s) := by
  unfold burnishWindow
  repeat' first
    | with_reducible assumption
    | with_reducible refine State.calDo_kept ?_
    | split
    | (intro; intro; intro)

theorem roleSwap_kept {s0 : State} {e : Nat} {s : State} (hk : Kept s0 s) : Kept s0 (roleSwap e s) := by
  unfold roleSwap
  repeat' first
    | with_reducible assumption
    | with_reducible refine State.calDo_kept ?_
    | split
    | (intro; intro; intro)

theorem partialPlateReload_kept {s0 : State} {e : Nat} {s : State} (hk : Kept s0 s) : Kept s0 (partialPlateReload e s) := by
  unfold partialPlateReload
  repeat' first
    | with_reducible assumption
    | with_reducible refine State.calDo_kept ?_
    | split
    | (intro; intro; intro)

theorem tileLifeRecordWrite_kept {s0 : State} {e : Nat} {s : State} (hk : Kept s0 s) : Kept s0 (tileLifeRecordWrite e s) := by
  unfold tileLifeRecordWrite
  repeat' first
    | with_reducible assumption
    | with_reducible refine State.calDo_kept ?_
    | split
    | (intro; intro; intro)

theorem codeDensityCalibrationRefresh_kept {s0 : State} {e : Nat} {s : State} (hk : Kept s0 s) : Kept s0 (codeDensityCalibrationRefresh e s) := by
  unfold codeDensityCalibrationRefresh
  repeat' first
    | with_reducible assumption
    | with_reducible refine State.calDo_kept ?_
    | split
    | (intro; intro; intro)

theorem calendarReservedAction_kept {s0 : State} {e : Nat} {s : State} (hk : Kept s0 s) : Kept s0 (calendarReservedAction e s) := by
  unfold calendarReservedAction
  repeat' first
    | with_reducible assumption
    | with_reducible refine State.calDo_kept ?_
    | split
    | (intro; intro; intro)

end Sys2Proof.Machine
end

