-- ==== Sys2Proof/Laws/KeptMachineTime.lean ====
section
/-! SUPPORT. MachineTime: no operation disturbs the queue or the canonical form. -/

set_option linter.unusedSimpArgs false
set_option linter.unusedVariables false

namespace Sys2Proof.Machine

open Sys2Proof

theorem State.judgeQuiet_kept {s0 : State} {s : State} {newNb : Bool} (hk : Kept s0 s) : Kept s0 (State.judgeQuiet s newNb) := by
  unfold State.judgeQuiet
  repeat' first
    | with_reducible assumption
    | with_reducible refine Kept.set ?_ _ _
    | with_reducible refine Kept.raise ?_ _ _
    | with_reducible refine Kept.iff (fun _ _ => ?_) ?_
    | simp only [Kept.mkSame]

theorem State.openOrbit_kept {s0 : State} {s : State} {o : Nat} (hk : Kept s0 s) : Kept s0 (State.openOrbit s o).2 := by
  unfold State.openOrbit
  repeat' first
    | with_reducible assumption
    | with_reducible refine State.judgeQuiet_kept ?_
    | with_reducible refine State.tick_kept ?_
    | split
    | ((try lift_lets); intro x; first | (refine (have hx : Kept s0 x := ?a; ?b); case' a => subst x; case' b => clear_value x) | (refine (have hx : Kept s0 x.2 := ?a; ?b); case' a => subst x; case' b => clear_value x) | (refine (have hx : Kept s0 x.1 := ?a; ?b); case' a => subst x; case' b => clear_value x) | (refine (have hx : Kept s0 x.2.2 := ?a; ?b); case' a => subst x; case' b => clear_value x) | (refine (have hx : ∀ t, Kept s0 t → Kept s0 (x t) := ?a; ?b); case' a => subst x; case' b => clear_value x) | (refine (have hx : ∀ t a, Kept s0 t → Kept s0 (x t a) := ?a; ?b); case' a => subst x; case' b => clear_value x) | (refine (have hx : ∀ a t, Kept s0 t → Kept s0 (x a t) := ?a; ?b); case' a => subst x; case' b => clear_value x) | subst x)
    | simp only [Kept.mkSame, Kept.mkPlate, Kept.mkStore, Kept.mkMg]
    | (intro; intro; intro)
theorem State.openOrbit_keptE {s0 : State} {s : State} {o : Nat} {x0} {t : State} (e : State.openOrbit s o = (x0, t)) (hk : Kept s0 s) : Kept s0 t := by
  have k := State.openOrbit_kept (s := s) (o := o) hk
  rw [e] at k; exact k

theorem State.calStep_kept {s0 : State} {s : State} (hk : Kept s0 s) : Kept s0 (State.calStep s) := ⟨hk.1, hk.2⟩

theorem State.missOver_kept {s0 : State} {s : State} {a : Nat} {k : Nat} {o : Nat} (hk : Kept s0 s) : Kept s0 (State.missOver s a k o) := by
  unfold State.missOver
  repeat' first
    | with_reducible assumption
    | with_reducible refine State.miss_kept ?_
    | with_reducible refine Kept.foldl (fun _ _ _ => ?_) ?_
    | with_reducible refine Kept.foldlSnd (fun _ _ _ => ?_) ?_
    | with_reducible refine Kept.foldlSnd2 (fun _ _ _ => ?_) ?_
    | with_reducible refine Kept.ite ?_ ?_
    | split
    | ((try lift_lets); intro x; first | (refine (have hx : Kept s0 x := ?a; ?b); case' a => subst x; case' b => clear_value x) | (refine (have hx : Kept s0 x.2 := ?a; ?b); case' a => subst x; case' b => clear_value x) | (refine (have hx : Kept s0 x.1 := ?a; ?b); case' a => subst x; case' b => clear_value x) | (refine (have hx : Kept s0 x.2.2 := ?a; ?b); case' a => subst x; case' b => clear_value x) | (refine (have hx : ∀ t, Kept s0 t → Kept s0 (x t) := ?a; ?b); case' a => subst x; case' b => clear_value x) | (refine (have hx : ∀ t a, Kept s0 t → Kept s0 (x t a) := ?a; ?b); case' a => subst x; case' b => clear_value x) | (refine (have hx : ∀ a t, Kept s0 t → Kept s0 (x a t) := ?a; ?b); case' a => subst x; case' b => clear_value x) | subst x)
    | simp only [Kept.mkSame, Kept.mkPlate, Kept.mkStore, Kept.mkMg]
    | (intro; intro; intro)

theorem State.missStopped_kept {s0 : State} {s : State} (hk : Kept s0 s) : Kept s0 (State.missStopped s) := by
  unfold State.missStopped
  repeat' first
    | with_reducible assumption
    | with_reducible refine State.miss_kept ?_
    | with_reducible refine Kept.draw ?_
    | split

theorem State.gateStart_kept {s0 : State} {s : State} (hk : Kept s0 s) : Kept s0 (State.gateStart s) := by
  unfold State.gateStart
  repeat' first
    | with_reducible assumption
    | simp only [Kept.mkSame]

theorem State.slewStart_kept {s0 : State} {s : State} {offset : Int} (hk : Kept s0 s) : Kept s0 (State.slewStart s offset) := by
  unfold State.slewStart
  repeat' first
    | with_reducible assumption
    | with_reducible refine Kept.set ?_ _ _
    | split
    | ((try lift_lets); intro x; first | (refine (have hx : Kept s0 x := ?a; ?b); case' a => subst x; case' b => clear_value x) | (refine (have hx : Kept s0 x.2 := ?a; ?b); case' a => subst x; case' b => clear_value x) | (refine (have hx : Kept s0 x.1 := ?a; ?b); case' a => subst x; case' b => clear_value x) | (refine (have hx : Kept s0 x.2.2 := ?a; ?b); case' a => subst x; case' b => clear_value x) | (refine (have hx : ∀ t, Kept s0 t → Kept s0 (x t) := ?a; ?b); case' a => subst x; case' b => clear_value x) | (refine (have hx : ∀ t a, Kept s0 t → Kept s0 (x t a) := ?a; ?b); case' a => subst x; case' b => clear_value x) | (refine (have hx : ∀ a t, Kept s0 t → Kept s0 (x a t) := ?a; ?b); case' a => subst x; case' b => clear_value x) | subst x)
    | simp only [Kept.mkSame, Kept.mkPlate, Kept.mkStore, Kept.mkMg]
    | (intro; intro; intro)

theorem State.renumber_kept {s0 : State} {s : State} (hk : Kept s0 s) : Kept s0 (State.renumber s) := by
  unfold State.renumber
  repeat' first
    | with_reducible assumption
    | with_reducible refine State.flushBegin_kept ?_
    | with_reducible refine Kept.ite ?_ ?_
    | split
    | ((try lift_lets); intro x; first | (refine (have hx : Kept s0 x := ?a; ?b); case' a => subst x; case' b => clear_value x) | (refine (have hx : Kept s0 x.2 := ?a; ?b); case' a => subst x; case' b => clear_value x) | (refine (have hx : Kept s0 x.1 := ?a; ?b); case' a => subst x; case' b => clear_value x) | (refine (have hx : Kept s0 x.2.2 := ?a; ?b); case' a => subst x; case' b => clear_value x) | (refine (have hx : ∀ t, Kept s0 t → Kept s0 (x t) := ?a; ?b); case' a => subst x; case' b => clear_value x) | (refine (have hx : ∀ t a, Kept s0 t → Kept s0 (x t a) := ?a; ?b); case' a => subst x; case' b => clear_value x) | (refine (have hx : ∀ a t, Kept s0 t → Kept s0 (x a t) := ?a; ?b); case' a => subst x; case' b => clear_value x) | subst x)
    | simp only [Kept.mkSame, Kept.mkPlate, Kept.mkStore, Kept.mkMg]
    | (intro; intro; intro)

theorem State.loadMt_kept {s0 : State} {s : State} {a : Nat} {k : Nat} {slew : Option Int} (hk : Kept s0 s) : Kept s0 (State.loadMt s a k slew) := by
  unfold State.loadMt
  repeat' first
    | with_reducible assumption
    | with_reducible refine State.calStep_kept ?_
    | with_reducible refine State.missOver_kept ?_
    | with_reducible refine State.namesEnd_kept ?_
    | with_reducible refine State.openOrbit_kept ?_
    | (apply State.openOrbit_keptE; assumption)
    | with_reducible refine State.renumber_kept ?_
    | with_reducible refine State.slewStart_kept ?_
    | with_reducible refine Kept.set ?_ _ _
    | split
    | ((try lift_lets); intro x; first | (refine (have hx : Kept s0 x := ?a; ?b); case' a => subst x; case' b => clear_value x) | (refine (have hx : Kept s0 x.2 := ?a; ?b); case' a => subst x; case' b => clear_value x) | (refine (have hx : Kept s0 x.1 := ?a; ?b); case' a => subst x; case' b => clear_value x) | (refine (have hx : Kept s0 x.2.2 := ?a; ?b); case' a => subst x; case' b => clear_value x) | (refine (have hx : ∀ t, Kept s0 t → Kept s0 (x t) := ?a; ?b); case' a => subst x; case' b => clear_value x) | (refine (have hx : ∀ t a, Kept s0 t → Kept s0 (x t a) := ?a; ?b); case' a => subst x; case' b => clear_value x) | (refine (have hx : ∀ a t, Kept s0 t → Kept s0 (x a t) := ?a; ?b); case' a => subst x; case' b => clear_value x) | subst x)
    | simp only [Kept.mkSame, Kept.mkPlate, Kept.mkStore, Kept.mkMg]
    | (intro; intro; intro)

theorem State.nextOrbit_kept {s0 : State} {s : State} (hk : Kept s0 s) : Kept s0 (State.nextOrbit s) := by
  unfold State.nextOrbit
  repeat' first
    | with_reducible assumption
    | with_reducible refine State.loadMt_kept ?_
    | with_reducible refine State.namesEnd_kept ?_
    | with_reducible refine State.openOrbit_kept ?_
    | (apply State.openOrbit_keptE; assumption)
    | with_reducible refine State.renumber_kept ?_
    | with_reducible refine Kept.iff (fun _ _ => ?_) ?_
    | with_reducible refine Kept.ite ?_ ?_
    | split
    | ((try lift_lets); intro x; first | (refine (have hx : Kept s0 x := ?a; ?b); case' a => subst x; case' b => clear_value x) | (refine (have hx : Kept s0 x.2 := ?a; ?b); case' a => subst x; case' b => clear_value x) | (refine (have hx : Kept s0 x.1 := ?a; ?b); case' a => subst x; case' b => clear_value x) | (refine (have hx : Kept s0 x.2.2 := ?a; ?b); case' a => subst x; case' b => clear_value x) | (refine (have hx : ∀ t, Kept s0 t → Kept s0 (x t) := ?a; ?b); case' a => subst x; case' b => clear_value x) | (refine (have hx : ∀ t a, Kept s0 t → Kept s0 (x t a) := ?a; ?b); case' a => subst x; case' b => clear_value x) | (refine (have hx : ∀ a t, Kept s0 t → Kept s0 (x a t) := ?a; ?b); case' a => subst x; case' b => clear_value x) | subst x)
    | simp only [Kept.mkSame, Kept.mkPlate, Kept.mkStore, Kept.mkMg]
    | (intro; intro; intro)

theorem State.orbitStep_kept {s0 : State} {s : State} (hk : Kept s0 s) : Kept s0 (State.orbitStep s) := by
  unfold State.orbitStep
  repeat' first
    | with_reducible assumption
    | with_reducible refine State.calRun_kept ?_
    | with_reducible refine State.edgeActs_kept ?_
    | with_reducible refine State.jump_kept ?_
    | with_reducible refine State.loadMt_kept ?_
    | with_reducible refine State.moveTo_kept ?_
    | with_reducible refine State.nextOrbit_kept ?_
    | with_reducible refine State.stopEdge_kept ?_
    | with_reducible refine State.takeArrived_kept ?_
    | with_reducible refine Kept.ite ?_ ?_
    | split
    | ((try lift_lets); intro x; first | (refine (have hx : Kept s0 x := ?a; ?b); case' a => subst x; case' b => clear_value x) | (refine (have hx : Kept s0 x.2 := ?a; ?b); case' a => subst x; case' b => clear_value x) | (refine (have hx : Kept s0 x.1 := ?a; ?b); case' a => subst x; case' b => clear_value x) | (refine (have hx : Kept s0 x.2.2 := ?a; ?b); case' a => subst x; case' b => clear_value x) | (refine (have hx : ∀ t, Kept s0 t → Kept s0 (x t) := ?a; ?b); case' a => subst x; case' b => clear_value x) | (refine (have hx : ∀ t a, Kept s0 t → Kept s0 (x t a) := ?a; ?b); case' a => subst x; case' b => clear_value x) | (refine (have hx : ∀ a t, Kept s0 t → Kept s0 (x a t) := ?a; ?b); case' a => subst x; case' b => clear_value x) | subst x)
    | simp only [Kept.mkSame, Kept.mkPlate, Kept.mkStore, Kept.mkMg]
    | (intro; intro; intro)

theorem orbitStart_kept {s0 : State} {s : State} (hk : Kept s0 s) : Kept s0 (orbitStart s) := by
  unfold orbitStart
  repeat' first
    | with_reducible assumption
    | with_reducible refine State.orbitStep_kept ?_
    | with_reducible refine Kept.ite ?_ ?_
    | split
    | (intro; intro; intro)

theorem mtLoad_kept {s0 : State} {s : State} (hk : Kept s0 s) : Kept s0 (mtLoad s) := by
  unfold mtLoad
  repeat' first
    | with_reducible assumption
    | with_reducible refine Kept.ite ?_ ?_
    | simp only [Kept.mkSame]

theorem mtLoadApply_kept {s0 : State} {s : State} (hk : Kept s0 s) : Kept s0 (mtLoadApply s) := by
  unfold mtLoadApply
  repeat' first
    | with_reducible assumption
    | with_reducible refine State.orbitStep_kept ?_
    | with_reducible refine Kept.ite ?_ ?_
    | split
    | ((try lift_lets); intro x; first | (refine (have hx : Kept s0 x := ?a; ?b); case' a => subst x; case' b => clear_value x) | (refine (have hx : Kept s0 x.2 := ?a; ?b); case' a => subst x; case' b => clear_value x) | (refine (have hx : Kept s0 x.1 := ?a; ?b); case' a => subst x; case' b => clear_value x) | (refine (have hx : Kept s0 x.2.2 := ?a; ?b); case' a => subst x; case' b => clear_value x) | (refine (have hx : ∀ t, Kept s0 t → Kept s0 (x t) := ?a; ?b); case' a => subst x; case' b => clear_value x) | (refine (have hx : ∀ t a, Kept s0 t → Kept s0 (x t a) := ?a; ?b); case' a => subst x; case' b => clear_value x) | (refine (have hx : ∀ a t, Kept s0 t → Kept s0 (x a t) := ?a; ?b); case' a => subst x; case' b => clear_value x) | subst x)
    | (intro; intro; intro)

theorem mtSnap_kept {s0 : State} {tick : Nat} {s : State} (hk : Kept s0 s) : Kept s0 (mtSnap tick s) := by
  unfold mtSnap
  repeat' first
    | with_reducible assumption
    | with_reducible refine State.tick_kept ?_
    | with_reducible refine Kept.set ?_ _ _
    | with_reducible refine Kept.ite ?_ ?_
    | split
    | ((try lift_lets); intro x; first | (refine (have hx : Kept s0 x := ?a; ?b); case' a => subst x; case' b => clear_value x) | (refine (have hx : Kept s0 x.2 := ?a; ?b); case' a => subst x; case' b => clear_value x) | (refine (have hx : Kept s0 x.1 := ?a; ?b); case' a => subst x; case' b => clear_value x) | (refine (have hx : Kept s0 x.2.2 := ?a; ?b); case' a => subst x; case' b => clear_value x) | (refine (have hx : ∀ t, Kept s0 t → Kept s0 (x t) := ?a; ?b); case' a => subst x; case' b => clear_value x) | (refine (have hx : ∀ t a, Kept s0 t → Kept s0 (x t a) := ?a; ?b); case' a => subst x; case' b => clear_value x) | (refine (have hx : ∀ a t, Kept s0 t → Kept s0 (x a t) := ?a; ?b); case' a => subst x; case' b => clear_value x) | subst x)
    | simp only [Kept.mkSame, Kept.mkPlate, Kept.mkStore, Kept.mkMg]
    | (intro; intro; intro)

theorem State.tickNow_kept {s0 : State} {s : State} (hk : Kept s0 s) : Kept s0 (State.tickNow s).2 := by
  unfold State.tickNow
  repeat' first
    | with_reducible assumption
    | with_reducible refine State.tick_kept ?_
    | with_reducible refine Kept.draw ?_
    | (apply Kept.drawE; with_reducible assumption)
    | split
    | ((try lift_lets); intro x; first | (refine (have hx : Kept s0 x := ?a; ?b); case' a => subst x; case' b => clear_value x) | (refine (have hx : Kept s0 x.2 := ?a; ?b); case' a => subst x; case' b => clear_value x) | (refine (have hx : Kept s0 x.1 := ?a; ?b); case' a => subst x; case' b => clear_value x) | (refine (have hx : Kept s0 x.2.2 := ?a; ?b); case' a => subst x; case' b => clear_value x) | (refine (have hx : ∀ t, Kept s0 t → Kept s0 (x t) := ?a; ?b); case' a => subst x; case' b => clear_value x) | (refine (have hx : ∀ t a, Kept s0 t → Kept s0 (x t a) := ?a; ?b); case' a => subst x; case' b => clear_value x) | (refine (have hx : ∀ a t, Kept s0 t → Kept s0 (x a t) := ?a; ?b); case' a => subst x; case' b => clear_value x) | subst x)
    | (intro; intro; intro)
theorem State.tickNow_keptE {s0 : State} {s : State} {x0} {t : State} (e : State.tickNow s = (x0, t)) (hk : Kept s0 s) : Kept s0 t := by
  have k := State.tickNow_kept (s := s) hk
  rw [e] at k; exact k

theorem State.bucketEdge_kept {s0 : State} {s : State} (hk : Kept s0 s) : Kept s0 (State.bucketEdge s) := by
  unfold State.bucketEdge
  repeat' first
    | with_reducible assumption
    | with_reducible refine State.pass_kept ?_
    | with_reducible refine orbitStart_kept ?_
    | with_reducible refine Kept.ite ?_ ?_
    | split
    | (intro; intro; intro)

theorem State.enterHold_kept {s0 : State} {s : State} {cause : Nat} {state : Nat} {fabric : Bool} (hk : Kept s0 s) : Kept s0 (State.enterHold s cause state fabric) := by
  unfold State.enterHold
  repeat' first
    | with_reducible assumption
    | with_reducible refine Kept.set ?_ _ _
    | with_reducible refine Kept.raise ?_ _ _
    | with_reducible refine Kept.ite ?_ ?_
    | split
    | ((try lift_lets); intro x; first | (refine (have hx : Kept s0 x := ?a; ?b); case' a => subst x; case' b => clear_value x) | (refine (have hx : Kept s0 x.2 := ?a; ?b); case' a => subst x; case' b => clear_value x) | (refine (have hx : Kept s0 x.1 := ?a; ?b); case' a => subst x; case' b => clear_value x) | (refine (have hx : Kept s0 x.2.2 := ?a; ?b); case' a => subst x; case' b => clear_value x) | (refine (have hx : ∀ t, Kept s0 t → Kept s0 (x t) := ?a; ?b); case' a => subst x; case' b => clear_value x) | (refine (have hx : ∀ t a, Kept s0 t → Kept s0 (x t a) := ?a; ?b); case' a => subst x; case' b => clear_value x) | (refine (have hx : ∀ a t, Kept s0 t → Kept s0 (x a t) := ?a; ?b); case' a => subst x; case' b => clear_value x) | subst x)
    | simp only [Kept.mkSame, Kept.mkPlate, Kept.mkStore, Kept.mkMg]
    | (intro; intro; intro)

theorem State.exitHold_kept {s0 : State} {s : State} (hk : Kept s0 s) : Kept s0 (State.exitHold s) := by
  unfold State.exitHold
  repeat' first
    | with_reducible assumption
    | with_reducible refine Kept.set ?_ _ _
    | with_reducible refine Kept.iff (fun _ _ => ?_) ?_
    | with_reducible refine Kept.rise ?_ _
    | split
    | ((try lift_lets); intro x; first | (refine (have hx : Kept s0 x := ?a; ?b); case' a => subst x; case' b => clear_value x) | (refine (have hx : Kept s0 x.2 := ?a; ?b); case' a => subst x; case' b => clear_value x) | (refine (have hx : Kept s0 x.1 := ?a; ?b); case' a => subst x; case' b => clear_value x) | (refine (have hx : Kept s0 x.2.2 := ?a; ?b); case' a => subst x; case' b => clear_value x) | (refine (have hx : ∀ t, Kept s0 t → Kept s0 (x t) := ?a; ?b); case' a => subst x; case' b => clear_value x) | (refine (have hx : ∀ t a, Kept s0 t → Kept s0 (x t a) := ?a; ?b); case' a => subst x; case' b => clear_value x) | (refine (have hx : ∀ a t, Kept s0 t → Kept s0 (x a t) := ?a; ?b); case' a => subst x; case' b => clear_value x) | subst x)
    | simp only [Kept.mkSame, Kept.mkPlate, Kept.mkStore, Kept.mkMg]
    | (intro; intro; intro)

theorem State.enterStop_kept {s0 : State} {s : State} (hk : Kept s0 s) : Kept s0 (State.enterStop s) := by
  unfold State.enterStop
  repeat' first
    | with_reducible assumption
    | with_reducible refine State.domainStops_kept ?_
    | with_reducible refine State.exitHold_kept ?_
    | with_reducible refine Kept.set ?_ _ _
    | with_reducible refine Kept.raise ?_ _ _
    | with_reducible refine Kept.atEdge (fun _ _ => ?_) ?_
    | split
    | ((try lift_lets); intro x; first | (refine (have hx : Kept s0 x := ?a; ?b); case' a => subst x; case' b => clear_value x) | (refine (have hx : Kept s0 x.2 := ?a; ?b); case' a => subst x; case' b => clear_value x) | (refine (have hx : Kept s0 x.1 := ?a; ?b); case' a => subst x; case' b => clear_value x) | (refine (have hx : Kept s0 x.2.2 := ?a; ?b); case' a => subst x; case' b => clear_value x) | (refine (have hx : ∀ t, Kept s0 t → Kept s0 (x t) := ?a; ?b); case' a => subst x; case' b => clear_value x) | (refine (have hx : ∀ t a, Kept s0 t → Kept s0 (x t a) := ?a; ?b); case' a => subst x; case' b => clear_value x) | (refine (have hx : ∀ a t, Kept s0 t → Kept s0 (x a t) := ?a; ?b); case' a => subst x; case' b => clear_value x) | subst x)
    | (intro; intro; intro)

theorem State.trackLost_kept {s0 : State} {s : State} {cause : Nat} {fabric : Bool} (hk : Kept s0 s) : Kept s0 (State.trackLost s cause fabric) := by
  unfold State.trackLost
  repeat' first
    | with_reducible assumption
    | with_reducible refine State.enterHold_kept ?_
    | with_reducible refine State.enterStop_kept ?_
    | with_reducible refine Kept.ite ?_ ?_

theorem sourceSelect_kept {s0 : State} {sel : Nat} {s : State} (hk : Kept s0 s) : Kept s0 (sourceSelect sel s) := by
  unfold sourceSelect
  repeat' first
    | with_reducible assumption
    | with_reducible refine State.trackLost_kept ?_
    | with_reducible refine Kept.set ?_ _ _
    | with_reducible refine Kept.ite ?_ ?_

theorem sourceLost_kept {s0 : State} {s : State} (hk : Kept s0 s) : Kept s0 (sourceLost s) := by
  unfold sourceLost
  repeat' first
    | with_reducible assumption
    | with_reducible refine State.enterHold_kept ?_
    | with_reducible refine State.trackLost_kept ?_
    | split
    | simp only [Kept.mkSame, Kept.mkPlate, Kept.mkStore, Kept.mkMg]
    | (intro; intro; intro)

theorem State.setSrcLane_kept {s0 : State} {s : State} {n : Nat} (hk : Kept s0 s) : Kept s0 (State.setSrcLane s n) := by
  unfold State.setSrcLane
  repeat' first
    | with_reducible assumption
    | with_reducible refine Kept.set ?_ _ _
    | split
    | simp only [Kept.mkSame, Kept.mkPlate, Kept.mkStore, Kept.mkMg]
    | (intro; intro; intro)

theorem State.mtRun_kept {s0 : State} {s : State} {mclk : Bool} (hk : Kept s0 s) : Kept s0 (State.mtRun s mclk) := by
  unfold State.mtRun
  repeat' first
    | with_reducible assumption
    | with_reducible refine State.calStep_kept ?_
    | with_reducible refine State.gateStart_kept ?_
    | with_reducible refine State.namesEnd_kept ?_
    | with_reducible refine State.openOrbit_kept ?_
    | (apply State.openOrbit_keptE; assumption)
    | with_reducible refine State.renumber_kept ?_
    | with_reducible refine Kept.set ?_ _ _
    | with_reducible refine Kept.ite ?_ ?_
    | split
    | ((try lift_lets); intro x; first | (refine (have hx : Kept s0 x := ?a; ?b); case' a => subst x; case' b => clear_value x) | (refine (have hx : Kept s0 x.2 := ?a; ?b); case' a => subst x; case' b => clear_value x) | (refine (have hx : Kept s0 x.1 := ?a; ?b); case' a => subst x; case' b => clear_value x) | (refine (have hx : Kept s0 x.2.2 := ?a; ?b); case' a => subst x; case' b => clear_value x) | (refine (have hx : ∀ t, Kept s0 t → Kept s0 (x t) := ?a; ?b); case' a => subst x; case' b => clear_value x) | (refine (have hx : ∀ t a, Kept s0 t → Kept s0 (x t a) := ?a; ?b); case' a => subst x; case' b => clear_value x) | (refine (have hx : ∀ a t, Kept s0 t → Kept s0 (x a t) := ?a; ?b); case' a => subst x; case' b => clear_value x) | subst x)
    | simp only [Kept.mkSame, Kept.mkPlate, Kept.mkStore, Kept.mkMg]
    | (intro; intro; intro)

theorem sourceQualified_kept {s0 : State} {mclk : Bool} {lane : Nat} {offset : Int} {s : State} (hk : Kept s0 s) : Kept s0 (sourceQualified mclk lane offset s) := by
  unfold sourceQualified
  repeat' first
    | with_reducible assumption
    | with_reducible refine State.missStopped_kept ?_
    | with_reducible refine State.mtRun_kept ?_
    | with_reducible refine State.slewStart_kept ?_
    | with_reducible refine State.stopEdge_kept ?_
    | with_reducible refine Kept.set ?_ _ _
    | with_reducible refine Kept.flag ?_ _ _ _
    | with_reducible refine Kept.iff (fun _ _ => ?_) ?_
    | with_reducible refine Kept.ite ?_ ?_
    | split
    | ((try lift_lets); intro x; first | (refine (have hx : Kept s0 x := ?a; ?b); case' a => subst x; case' b => clear_value x) | (refine (have hx : Kept s0 x.2 := ?a; ?b); case' a => subst x; case' b => clear_value x) | (refine (have hx : Kept s0 x.1 := ?a; ?b); case' a => subst x; case' b => clear_value x) | (refine (have hx : Kept s0 x.2.2 := ?a; ?b); case' a => subst x; case' b => clear_value x) | (refine (have hx : ∀ t, Kept s0 t → Kept s0 (x t) := ?a; ?b); case' a => subst x; case' b => clear_value x) | (refine (have hx : ∀ t a, Kept s0 t → Kept s0 (x t a) := ?a; ?b); case' a => subst x; case' b => clear_value x) | (refine (have hx : ∀ a t, Kept s0 t → Kept s0 (x a t) := ?a; ?b); case' a => subst x; case' b => clear_value x) | subst x)
    | simp only [Kept.mkSame, Kept.mkPlate, Kept.mkStore, Kept.mkMg]
    | (intro; intro; intro)

theorem orbitMarkerMismatch_kept {s0 : State} {k : Nat} {s : State} (hk : Kept s0 s) : Kept s0 (orbitMarkerMismatch k s) := by
  unfold orbitMarkerMismatch
  repeat' first
    | with_reducible assumption
    | with_reducible refine State.enterHold_kept ?_
    | with_reducible refine State.slewStart_kept ?_
    | with_reducible refine Kept.set ?_ _ _
    | with_reducible refine Kept.count ?_ _ _
    | with_reducible refine Kept.raise ?_ _ _
    | with_reducible refine Kept.iff (fun _ _ => ?_) ?_
    | with_reducible refine Kept.ite ?_ ?_
    | simp only [Kept.mkSame]

theorem slewEnd_kept {s0 : State} {offset : Nat} {s : State} (hk : Kept s0 s) : Kept s0 (slewEnd offset s) := by
  unfold slewEnd
  repeat' first
    | with_reducible assumption
    | with_reducible refine State.exitHold_kept ?_
    | with_reducible refine State.gateStart_kept ?_
    | with_reducible refine Kept.set ?_ _ _
    | with_reducible refine Kept.raise ?_ _ _
    | with_reducible refine Kept.ite ?_ ?_
    | split
    | ((try lift_lets); intro x; first | (refine (have hx : Kept s0 x := ?a; ?b); case' a => subst x; case' b => clear_value x) | (refine (have hx : Kept s0 x.2 := ?a; ?b); case' a => subst x; case' b => clear_value x) | (refine (have hx : Kept s0 x.1 := ?a; ?b); case' a => subst x; case' b => clear_value x) | (refine (have hx : Kept s0 x.2.2 := ?a; ?b); case' a => subst x; case' b => clear_value x) | (refine (have hx : ∀ t, Kept s0 t → Kept s0 (x t) := ?a; ?b); case' a => subst x; case' b => clear_value x) | (refine (have hx : ∀ t a, Kept s0 t → Kept s0 (x t a) := ?a; ?b); case' a => subst x; case' b => clear_value x) | (refine (have hx : ∀ a t, Kept s0 t → Kept s0 (x a t) := ?a; ?b); case' a => subst x; case' b => clear_value x) | subst x)
    | simp only [Kept.mkSame, Kept.mkPlate, Kept.mkStore, Kept.mkMg]
    | (intro; intro; intro)

theorem mtQualified_kept {s0 : State} {s : State} (hk : Kept s0 s) : Kept s0 (mtQualified s) := by
  unfold mtQualified
  repeat' first
    | with_reducible assumption
    | with_reducible refine Kept.set ?_ _ _
    | with_reducible refine Kept.ite ?_ ?_

theorem fuGateEnd_kept {s0 : State} {slope : Nat} {resid : Nat} {s : State} (hk : Kept s0 s) : Kept s0 (fuGateEnd slope resid s) := by
  unfold fuGateEnd
  repeat' first
    | with_reducible assumption
    | with_reducible refine State.gateStart_kept ?_
    | with_reducible refine Kept.set ?_ _ _
    | with_reducible refine Kept.count ?_ _ _
    | with_reducible refine Kept.raise ?_ _ _
    | with_reducible refine Kept.iff (fun _ _ => ?_) ?_
    | with_reducible refine Kept.ite ?_ ?_
    | split
    | ((try lift_lets); intro x; first | (refine (have hx : Kept s0 x := ?a; ?b); case' a => subst x; case' b => clear_value x) | (refine (have hx : Kept s0 x.2 := ?a; ?b); case' a => subst x; case' b => clear_value x) | (refine (have hx : Kept s0 x.1 := ?a; ?b); case' a => subst x; case' b => clear_value x) | (refine (have hx : Kept s0 x.2.2 := ?a; ?b); case' a => subst x; case' b => clear_value x) | (refine (have hx : ∀ t, Kept s0 t → Kept s0 (x t) := ?a; ?b); case' a => subst x; case' b => clear_value x) | (refine (have hx : ∀ t a, Kept s0 t → Kept s0 (x t a) := ?a; ?b); case' a => subst x; case' b => clear_value x) | (refine (have hx : ∀ a t, Kept s0 t → Kept s0 (x a t) := ?a; ?b); case' a => subst x; case' b => clear_value x) | subst x)
    | simp only [Kept.mkSame, Kept.mkPlate, Kept.mkStore, Kept.mkMg]
    | (intro; intro; intro)

theorem fuRatioRead_kept {s0 : State} {s : State} (hk : Kept s0 s) : Kept s0 (fuRatioRead s) := by
  unfold fuRatioRead
  repeat' first
    | with_reducible assumption
    | simp only [Kept.mkSame]

theorem ovnReady_kept {s0 : State} {s : State} (hk : Kept s0 s) : Kept s0 (ovnReady s) := by
  unfold ovnReady
  repeat' first
    | with_reducible assumption
    | with_reducible refine Kept.set ?_ _ _
    | with_reducible refine Kept.raise ?_ _ _
    | with_reducible refine Kept.draw ?_
    | with_reducible refine Kept.ite ?_ ?_
    | simp only [Kept.mkSame]

theorem ovnReadyLost_kept {s0 : State} {s : State} (hk : Kept s0 s) : Kept s0 (ovnReadyLost s) := by
  unfold ovnReadyLost
  repeat' first
    | with_reducible assumption
    | with_reducible refine Kept.set ?_ _ _
    | with_reducible refine Kept.raise ?_ _ _
    | with_reducible refine Kept.ite ?_ ?_
    | simp only [Kept.mkSame]

theorem ovnHeaterFault_kept {s0 : State} {s : State} (hk : Kept s0 s) : Kept s0 (ovnHeaterFault s) := by
  unfold ovnHeaterFault
  repeat' first
    | with_reducible assumption
    | with_reducible refine ovnReadyLost_kept ?_
    | with_reducible refine Kept.set ?_ _ _
    | with_reducible refine Kept.raise ?_ _ _
    | with_reducible refine Kept.ite ?_ ?_

end Sys2Proof.Machine
end

