-- ==== Sys2Proof/Laws/KeptStream.lean ====
section
/-! SUPPORT. Stream: no operation disturbs the queue or the canonical form. -/

set_option linter.unusedSimpArgs false
set_option linter.unusedVariables false

namespace Sys2Proof.Machine

open Sys2Proof

theorem State.ownTake_kept {s0 : State} {s : State} {f : Frag} {body : List Nat} (hk : Kept s0 s) : Kept s0 (State.ownTake s f body).2 := by
  unfold State.ownTake
  repeat' first
    | with_reducible assumption
    | with_reducible refine Kept.set ?_ _ _
    | with_reducible refine Kept.iff (fun _ _ => ?_) ?_
    | split
    | ((try lift_lets); intro x; first | (refine (have hx : Kept s0 x := ?a; ?b); case' a => subst x; case' b => clear_value x) | (refine (have hx : Kept s0 x.2 := ?a; ?b); case' a => subst x; case' b => clear_value x) | (refine (have hx : Kept s0 x.1 := ?a; ?b); case' a => subst x; case' b => clear_value x) | (refine (have hx : Kept s0 x.2.2 := ?a; ?b); case' a => subst x; case' b => clear_value x) | (refine (have hx : ∀ t, Kept s0 t → Kept s0 (x t) := ?a; ?b); case' a => subst x; case' b => clear_value x) | (refine (have hx : ∀ t a, Kept s0 t → Kept s0 (x t a) := ?a; ?b); case' a => subst x; case' b => clear_value x) | (refine (have hx : ∀ a t, Kept s0 t → Kept s0 (x a t) := ?a; ?b); case' a => subst x; case' b => clear_value x) | subst x)
    | simp only [Kept.mkSame, Kept.mkPlate, Kept.mkStore, Kept.mkMg]
    | (intro; intro; intro)
theorem State.ownTake_keptE {s0 : State} {s : State} {f : Frag} {body : List Nat} {x0} {t : State} (e : State.ownTake s f body = (x0, t)) (hk : Kept s0 s) : Kept s0 t := by
  have k := State.ownTake_kept (s := s) (f := f) (body := body) hk
  rw [e] at k; exact k

theorem State.feedMerge_kept {s0 : State} {n : Nat} {s : State} (hk : Kept s0 s) : Kept s0 (State.feedMerge n s) := by
  induction n generalizing s with
  | zero => exact hk
  | succ n ih =>
    unfold State.feedMerge
    split
    · refine Kept.ite ?_ hk
      split
      refine ih ?_
      simp only [Kept.mkSame]
      exact State.ownTake_keptE (by assumption) hk
    · exact hk

theorem State.forward_kept {s0 : State} {s : State} {c : Contrib} (hk : Kept s0 s) : Kept s0 (State.forward s c) := by
  unfold State.forward
  repeat' first
    | with_reducible assumption
    | with_reducible refine State.setPath_kept ?_
    | split
    | simp only [Kept.mkSame, Kept.mkPlate, Kept.mkStore, Kept.mkMg]
    | (intro; intro; intro)

theorem State.unmerged_kept {s0 : State} {s : State} {c : Contrib} (hk : Kept s0 s) : Kept s0 (State.unmerged s c) := by
  unfold State.unmerged
  repeat' first
    | with_reducible assumption
    | with_reducible refine State.forward_kept ?_
    | with_reducible refine Kept.count ?_ _ _
    | with_reducible refine Kept.flag ?_ _ _ _
    | split
    | (intro; intro; intro)

theorem State.setMerges_kept {s0 : State} {s : State} {l : List Merge} (hk : Kept s0 s) : Kept s0 (State.setMerges s l) := by
  unfold State.setMerges
  repeat' first
    | with_reducible assumption
    | with_reducible refine Kept.set ?_ _ _
    | simp only [Kept.mkSame]

theorem State.mergeBuild_kept {s0 : State} {s : State} {number : Nat} {timedOut : Bool} (hk : Kept s0 s) : Kept s0 (State.mergeBuild s number timedOut) := by
  unfold State.mergeBuild
  repeat' first
    | with_reducible assumption
    | with_reducible refine State.giveBlocks_kept ?_
    | with_reducible refine State.setMerges_kept ?_
    | with_reducible refine State.takeBlocks_kept ?_
    | with_reducible refine Kept.count ?_ _ _
    | split
    | simp only [Kept.mkSame]

theorem State.contribute_kept {s0 : State} {s : State} {c : Contrib} (hk : Kept s0 s) : Kept s0 (State.contribute s c) := by
  unfold State.contribute
  repeat' first
    | with_reducible assumption
    | with_reducible refine State.mergeBuild_kept ?_
    | with_reducible refine State.setMerges_kept ?_
    | with_reducible refine State.unmerged_kept ?_
    | split
    | simp only [Kept.mkSame]

theorem mergeContribution_kept {s0 : State} {s : State} (hk : Kept s0 s) : Kept s0 (mergeContribution s) := by
  unfold mergeContribution
  repeat' first
    | with_reducible assumption
    | with_reducible refine State.busyEval_kept ?_
    | with_reducible refine State.contribute_kept ?_
    | with_reducible refine State.feedMerge_kept ?_
    | with_reducible refine State.forward_kept ?_
    | with_reducible refine Kept.ite ?_ ?_
    | split
    | ((try lift_lets); intro x; first | (refine (have hx : Kept s0 x := ?a; ?b); case' a => subst x; case' b => clear_value x) | (refine (have hx : Kept s0 x.2 := ?a; ?b); case' a => subst x; case' b => clear_value x) | (refine (have hx : Kept s0 x.1 := ?a; ?b); case' a => subst x; case' b => clear_value x) | (refine (have hx : Kept s0 x.2.2 := ?a; ?b); case' a => subst x; case' b => clear_value x) | (refine (have hx : ∀ t, Kept s0 t → Kept s0 (x t) := ?a; ?b); case' a => subst x; case' b => clear_value x) | (refine (have hx : ∀ t a, Kept s0 t → Kept s0 (x t a) := ?a; ?b); case' a => subst x; case' b => clear_value x) | (refine (have hx : ∀ a t, Kept s0 t → Kept s0 (x a t) := ?a; ?b); case' a => subst x; case' b => clear_value x) | subst x)
    | simp only [Kept.mkSame, Kept.mkPlate, Kept.mkStore, Kept.mkMg]
    | (intro; intro; intro)

theorem mergeTimeout_kept {s0 : State} {number : Nat} {s : State} (hk : Kept s0 s) : Kept s0 (mergeTimeout number s) := by
  unfold mergeTimeout
  repeat' first
    | with_reducible assumption
    | with_reducible refine State.busyEval_kept ?_
    | with_reducible refine State.mergeBuild_kept ?_
    | with_reducible refine Kept.count ?_ _ _
    | with_reducible refine Kept.raise ?_ _ _
    | with_reducible refine Kept.ite ?_ ?_
    | split
    | (intro; intro; intro)

theorem State.takeFseq_kept {s0 : State} {s : State} (hk : Kept s0 s) : Kept s0 (State.takeFseq s).2 := by
  unfold State.takeFseq
  repeat' first
    | with_reducible assumption
    | with_reducible refine Kept.set ?_ _ _
theorem State.takeFseq_keptE {s0 : State} {s : State} {x0} {t : State} (e : State.takeFseq s = (x0, t)) (hk : Kept s0 s) : Kept s0 t := by
  have k := State.takeFseq_kept (s := s) hk
  rw [e] at k; exact k

theorem State.hand_kept {s0 : State} {s : State} {p : Nat} {w : WaitFrag} (hk : Kept s0 s) : Kept s0 (State.hand s p w) := by
  unfold State.hand
  repeat' first
    | with_reducible assumption
    | with_reducible refine State.setPath_kept ?_
    | with_reducible refine State.takeFseq_kept ?_
    | (apply State.takeFseq_keptE; assumption)
    | split
    | ((try lift_lets); intro x; first | (refine (have hx : Kept s0 x := ?a; ?b); case' a => subst x; case' b => clear_value x) | (refine (have hx : Kept s0 x.2 := ?a; ?b); case' a => subst x; case' b => clear_value x) | (refine (have hx : Kept s0 x.1 := ?a; ?b); case' a => subst x; case' b => clear_value x) | (refine (have hx : Kept s0 x.2.2 := ?a; ?b); case' a => subst x; case' b => clear_value x) | (refine (have hx : ∀ t, Kept s0 t → Kept s0 (x t) := ?a; ?b); case' a => subst x; case' b => clear_value x) | (refine (have hx : ∀ t a, Kept s0 t → Kept s0 (x t a) := ?a; ?b); case' a => subst x; case' b => clear_value x) | (refine (have hx : ∀ a t, Kept s0 t → Kept s0 (x a t) := ?a; ?b); case' a => subst x; case' b => clear_value x) | subst x)
    | simp only [Kept.mkSame, Kept.mkPlate, Kept.mkStore, Kept.mkMg]
    | (intro; intro; intro)

theorem State.handFrom_kept {s0 : State} {s : State} {p : Nat} {k : Nat} (hk : Kept s0 s) : OptKept s0 (State.handFrom s p k) := by
  unfold State.handFrom
  repeat' first
    | with_reducible assumption
    | with_reducible refine OptKept.ite ?_ ?_
    | with_reducible refine OptKept.some ?_
    | with_reducible exact OptKept.none
    | with_reducible refine State.feedMerge_kept ?_
    | with_reducible refine State.hand_kept ?_
    | with_reducible refine State.ownTake_kept ?_
    | (apply State.ownTake_keptE; assumption)
    | with_reducible refine State.setPath_kept ?_
    | with_reducible refine Kept.ite ?_ ?_
    | split
    | (extract_lets +onlyGivenNames x; first | (refine (have hx : Kept s0 x := ?a; ?b); case' a => subst x; case' b => clear_value x) | (refine (have hx : Kept s0 x.2 := ?a; ?b); case' a => subst x; case' b => clear_value x) | (refine (have hx : Kept s0 x.1 := ?a; ?b); case' a => subst x; case' b => clear_value x) | (refine (have hx : Kept s0 x.2.2 := ?a; ?b); case' a => subst x; case' b => clear_value x) | (refine (have hx : ∀ t, Kept s0 t → Kept s0 (x t) := ?a; ?b); case' a => subst x; case' b => clear_value x) | (refine (have hx : ∀ t a, Kept s0 t → Kept s0 (x t a) := ?a; ?b); case' a => subst x; case' b => clear_value x) | (refine (have hx : ∀ a t, Kept s0 t → Kept s0 (x a t) := ?a; ?b); case' a => subst x; case' b => clear_value x) | subst x)
    | simp only [Kept.mkSame, Kept.mkPlate, Kept.mkStore, Kept.mkMg]
theorem State.handFrom_keptE {s0 : State} {s : State} {p : Nat} {k : Nat} {t} (e : State.handFrom s p k = some t) (hk : Kept s0 s) : Kept s0 t := State.handFrom_kept hk t e

theorem State.handNext_kept {s0 : State} {s : State} {p : Nat} (hk : Kept s0 s) : OptKept s0 (State.handNext s p) := by
  intro t e
  unfold State.handNext at e
  obtain ⟨k, -, hk'⟩ := List.exists_of_findSome?_eq_some e
  obtain ⟨u, hu, rfl⟩ := Option.map_eq_some_iff.1 hk'
  simp only [Kept.mkSame]
  exact State.handFrom_keptE hu hk
theorem State.handNext_keptE {s0 : State} {s : State} {p : Nat} {t} (e : State.handNext s p = some t) (hk : Kept s0 s) : Kept s0 t := State.handNext_kept hk t e

theorem State.emitBlock_kept {s0 : State} {s : State} {p : Nat} {seq : Nat} {f : OutFrag} {bidx : Nat} (hk : Kept s0 s) : Kept s0 (State.emitBlock s p seq f bidx) := by
  unfold State.emitBlock
  repeat' first
    | with_reducible assumption
    | with_reducible refine State.lineSeed_kept ?_
    | (apply State.lineSeed_keptE; assumption)
    | with_reducible refine State.setPath_kept ?_
    | with_reducible refine Kept.count ?_ _ _
    | with_reducible refine Kept.iff (fun _ _ => ?_) ?_
    | with_reducible refine Kept.ite ?_ ?_
    | split
    | ((try lift_lets); intro x; first | (refine (have hx : Kept s0 x := ?a; ?b); case' a => subst x; case' b => clear_value x) | (refine (have hx : Kept s0 x.2 := ?a; ?b); case' a => subst x; case' b => clear_value x) | (refine (have hx : Kept s0 x.1 := ?a; ?b); case' a => subst x; case' b => clear_value x) | (refine (have hx : Kept s0 x.2.2 := ?a; ?b); case' a => subst x; case' b => clear_value x) | (refine (have hx : ∀ t, Kept s0 t → Kept s0 (x t) := ?a; ?b); case' a => subst x; case' b => clear_value x) | (refine (have hx : ∀ t a, Kept s0 t → Kept s0 (x t a) := ?a; ?b); case' a => subst x; case' b => clear_value x) | (refine (have hx : ∀ a t, Kept s0 t → Kept s0 (x a t) := ?a; ?b); case' a => subst x; case' b => clear_value x) | subst x)
    | simp only [Kept.mkSame, Kept.mkPlate, Kept.mkStore, Kept.mkMg]
    | (intro; intro; intro)

theorem State.fragLeaves_kept {s0 : State} {s : State} {f : OutFrag} (hk : Kept s0 s) : Kept s0 (State.fragLeaves s f) := by
  unfold State.fragLeaves
  repeat' first
    | with_reducible assumption
    | with_reducible refine State.giveBlocks_kept ?_
    | with_reducible refine State.giveCtx_kept ?_
    | with_reducible refine Kept.each (fun _ _ _ => ?_) ?_

theorem State.sendUpset_kept {s0 : State} {s : State} {p : Nat} {f : OutFrag} {bidx : Nat} {n : Nat} (hk : Kept s0 s) : Kept s0 (State.sendUpset s p f bidx n) := by
  unfold State.sendUpset
  repeat' first
    | with_reducible assumption
    | with_reducible refine State.busyEval_kept ?_
    | with_reducible refine State.fragLeaves_kept ?_
    | with_reducible refine State.setPath_kept ?_
    | with_reducible refine Kept.count ?_ _ _
    | with_reducible refine Kept.flag ?_ _ _ _
    | with_reducible refine Kept.ite ?_ ?_
    | split
    | ((try lift_lets); intro x; first | (refine (have hx : Kept s0 x := ?a; ?b); case' a => subst x; case' b => clear_value x) | (refine (have hx : Kept s0 x.2 := ?a; ?b); case' a => subst x; case' b => clear_value x) | (refine (have hx : Kept s0 x.1 := ?a; ?b); case' a => subst x; case' b => clear_value x) | (refine (have hx : Kept s0 x.2.2 := ?a; ?b); case' a => subst x; case' b => clear_value x) | (refine (have hx : ∀ t, Kept s0 t → Kept s0 (x t) := ?a; ?b); case' a => subst x; case' b => clear_value x) | (refine (have hx : ∀ t a, Kept s0 t → Kept s0 (x t a) := ?a; ?b); case' a => subst x; case' b => clear_value x) | (refine (have hx : ∀ a t, Kept s0 t → Kept s0 (x a t) := ?a; ?b); case' a => subst x; case' b => clear_value x) | subst x)
    | simp only [Kept.mkSame, Kept.mkPlate, Kept.mkStore, Kept.mkMg]
    | (intro; intro; intro)

theorem State.sendNew_kept {s0 : State} {s : State} {port : Nat} {f : OutFrag} (hk : Kept s0 s) : Kept s0 (State.sendNew s port f) := by
  unfold State.sendNew
  repeat' first
    | with_reducible assumption
    | with_reducible refine State.busyEval_kept ?_
    | with_reducible refine State.emitBlock_kept ?_
    | with_reducible refine State.setPath_kept ?_

theorem blockSend_kept {s0 : State} {port : Nat} {bad : Option Nat} {s : State} (hk : Kept s0 s) :
    Kept s0 (blockSend port bad s) := by
  unfold blockSend
  have hs : OptKept s0 (if (s.path port).nextFrag.isSome then some s else s.handNext port) :=
    OptKept.ite (OptKept.some hk) (State.handNext_kept hk)
  with_reducible refine Kept.ite hk ?_
  extract_lets d s'
  change OptKept s0 s' at hs
  clear_value s' d
  with_reducible refine Kept.ite ?_ (Kept.ite hk ?_)
  · split
    · with_reducible refine Kept.ite ?_ hk
      split
      · exact State.emitBlock_kept (State.setPath_kept hk)
      · exact hk
    · exact hk
  · split
    · exact hk
    · next t =>
      have ht : Kept s0 t := hs t rfl
      split
      · exact ht
      · split
        · dsimp only
          split
          · exact State.sendNew_kept (State.sendUpset_kept ht)
          · exact State.sendUpset_kept ht
        · dsimp only
          split
          · exact State.sendNew_kept ht
          · exact ht

theorem State.creditTaken_kept {s0 : State} {port : Nat} {ack : Nat} {window : Nat} {nak : Bool} {s : State} (hk : Kept s0 s) : Kept s0 (State.creditTaken port ack window nak s) := by
  unfold State.creditTaken
  repeat' first
    | with_reducible assumption
    | with_reducible refine State.busyEval_kept ?_
    | with_reducible refine State.fragLeaves_kept ?_
    | with_reducible refine State.setPath_kept ?_
    | with_reducible refine Kept.count ?_ _ _
    | with_reducible refine Kept.flag ?_ _ _ _
    | with_reducible refine Kept.each (fun _ _ _ => ?_) ?_
    | with_reducible refine Kept.ite ?_ ?_
    | split

theorem resendTimeout_kept {s0 : State} {port : Nat} {s : State} (hk : Kept s0 s) : Kept s0 (resendTimeout port s) := by
  unfold resendTimeout
  repeat' first
    | with_reducible assumption
    | with_reducible refine State.setPath_kept ?_
    | with_reducible refine Kept.ite ?_ ?_

theorem creditTimer_kept {s0 : State} {port : Nat} {s : State} (hk : Kept s0 s) : Kept s0 (creditTimer port s) := by
  unfold creditTimer
  repeat' first
    | with_reducible assumption
    | with_reducible refine State.sendCredit_kept ?_
    | with_reducible refine Kept.ite ?_ ?_

theorem State.rxBad_kept {s0 : State} {s : State} (hk : Kept s0 s) : Kept s0 (State.rxBad s) := by
  unfold State.rxBad
  repeat' first
    | with_reducible assumption
    | with_reducible refine Kept.count ?_ _ _
    | with_reducible refine Kept.raise ?_ _ _
    | with_reducible refine Kept.ite ?_ ?_
    | simp only [Kept.mkSame]

theorem State.dropPartial_kept {s0 : State} {s : State} {p : Nat} (hk : Kept s0 s) : Kept s0 (State.dropPartial s p) := by
  unfold State.dropPartial
  repeat' first
    | with_reducible assumption
    | with_reducible refine State.giveBlocks_kept ?_
    | with_reducible refine State.setPath_kept ?_
    | with_reducible refine Kept.count ?_ _ _
    | split

theorem State.fragArrived_kept {s0 : State} {s : State} {p : Nat} {src : Nat} {fseq : Nat} {ws : List Nat} (hk : Kept s0 s) : Kept s0 (State.fragArrived s p src fseq ws) := by
  unfold State.fragArrived
  repeat' first
    | with_reducible assumption
    | with_reducible refine State.giveBlocks_kept ?_
    | with_reducible refine State.setPath_kept ?_
    | with_reducible refine Kept.count ?_ _ _
    | with_reducible refine Kept.ite ?_ ?_
    | split
    | ((try lift_lets); intro x; first | (refine (have hx : Kept s0 x := ?a; ?b); case' a => subst x; case' b => clear_value x) | (refine (have hx : Kept s0 x.2 := ?a; ?b); case' a => subst x; case' b => clear_value x) | (refine (have hx : Kept s0 x.1 := ?a; ?b); case' a => subst x; case' b => clear_value x) | (refine (have hx : Kept s0 x.2.2 := ?a; ?b); case' a => subst x; case' b => clear_value x) | (refine (have hx : ∀ t, Kept s0 t → Kept s0 (x t) := ?a; ?b); case' a => subst x; case' b => clear_value x) | (refine (have hx : ∀ t a, Kept s0 t → Kept s0 (x t a) := ?a; ?b); case' a => subst x; case' b => clear_value x) | (refine (have hx : ∀ a t, Kept s0 t → Kept s0 (x a t) := ?a; ?b); case' a => subst x; case' b => clear_value x) | subst x)
    | simp only [Kept.mkSame, Kept.mkPlate, Kept.mkStore, Kept.mkMg]
    | (intro; intro; intro)

theorem State.blockIn_kept {s0 : State} {s : State} {p : Nat} {start : Nat} {ws : List Nat} (hk : Kept s0 s) : Kept s0 (State.blockIn s p start ws) := by
  unfold State.blockIn
  repeat' first
    | with_reducible assumption
    | with_reducible refine State.dropPartial_kept ?_
    | with_reducible refine State.fragArrived_kept ?_
    | with_reducible refine State.giveBlocks_kept ?_
    | with_reducible refine State.setPath_kept ?_
    | with_reducible refine Kept.ite ?_ ?_
    | split
    | ((try lift_lets); intro x; first | (refine (have hx : Kept s0 x := ?a; ?b); case' a => subst x; case' b => clear_value x) | (refine (have hx : Kept s0 x.2 := ?a; ?b); case' a => subst x; case' b => clear_value x) | (refine (have hx : Kept s0 x.1 := ?a; ?b); case' a => subst x; case' b => clear_value x) | (refine (have hx : Kept s0 x.2.2 := ?a; ?b); case' a => subst x; case' b => clear_value x) | (refine (have hx : ∀ t, Kept s0 t → Kept s0 (x t) := ?a; ?b); case' a => subst x; case' b => clear_value x) | (refine (have hx : ∀ t a, Kept s0 t → Kept s0 (x t a) := ?a; ?b); case' a => subst x; case' b => clear_value x) | (refine (have hx : ∀ a t, Kept s0 t → Kept s0 (x a t) := ?a; ?b); case' a => subst x; case' b => clear_value x) | subst x)
    | simp only [Kept.mkSame, Kept.mkPlate, Kept.mkStore, Kept.mkMg]
    | (intro; intro; intro)

theorem State.takeHeld_kept {s0 : State} {p : Nat} {n : Nat} {s : State} (hk : Kept s0 s) :
    Kept s0 (State.takeHeld p n s) := by
  induction n generalizing s with
  | zero => exact hk
  | succ n ih =>
    unfold State.takeHeld
    dsimp only
    split
    · exact ih (State.blockIn_kept (State.setPath_kept hk))
    · exact hk

theorem State.blockGood_kept {s0 : State} {s : State} {port : Nat} {start : Nat} {ws : List Nat} (hk : Kept s0 s) : Kept s0 (State.blockGood s port start ws) := by
  unfold State.blockGood
  repeat' first
    | with_reducible assumption
    | with_reducible refine State.blockIn_kept ?_
    | with_reducible refine State.setPath_kept ?_
    | with_reducible refine State.takeBlocks_kept ?_
    | with_reducible refine State.takeHeld_kept ?_
    | with_reducible refine Kept.ite ?_ ?_
    | split
    | ((try lift_lets); intro x; first | (refine (have hx : Kept s0 x := ?a; ?b); case' a => subst x; case' b => clear_value x) | (refine (have hx : Kept s0 x.2 := ?a; ?b); case' a => subst x; case' b => clear_value x) | (refine (have hx : Kept s0 x.1 := ?a; ?b); case' a => subst x; case' b => clear_value x) | (refine (have hx : Kept s0 x.2.2 := ?a; ?b); case' a => subst x; case' b => clear_value x) | (refine (have hx : ∀ t, Kept s0 t → Kept s0 (x t) := ?a; ?b); case' a => subst x; case' b => clear_value x) | (refine (have hx : ∀ t a, Kept s0 t → Kept s0 (x t a) := ?a; ?b); case' a => subst x; case' b => clear_value x) | (refine (have hx : ∀ a t, Kept s0 t → Kept s0 (x a t) := ?a; ?b); case' a => subst x; case' b => clear_value x) | subst x)
    | simp only [Kept.mkSame, Kept.mkPlate, Kept.mkStore, Kept.mkMg]
    | (intro; intro; intro)

theorem State.dropHeld_kept {s0 : State} {s : State} {p : Nat} (hk : Kept s0 s) : Kept s0 (State.dropHeld s p) := by
  unfold State.dropHeld
  repeat' first
    | with_reducible assumption
    | with_reducible refine State.giveBlocks_kept ?_
    | split
    | (intro; intro; intro)

theorem State.pathStart_kept {s0 : State} {s : State} {p : Nat} (hk : Kept s0 s) : Kept s0 (State.pathStart s p) := by
  unfold State.pathStart
  repeat' first
    | with_reducible assumption
    | with_reducible refine State.setPath_kept ?_

theorem State.pathLost_kept {s0 : State} {s : State} {p : Nat} {q : Option Nat} (hk : Kept s0 s) : Kept s0 (State.pathLost s p q) := by
  unfold State.pathLost
  repeat' first
    | with_reducible assumption
    | with_reducible refine State.dropHeld_kept ?_
    | with_reducible refine State.dropPartial_kept ?_
    | with_reducible refine State.setPath_kept ?_
    | with_reducible refine Kept.ite ?_ ?_
    | split
    | ((try lift_lets); intro x; first | (refine (have hx : Kept s0 x := ?a; ?b); case' a => subst x; case' b => clear_value x) | (refine (have hx : Kept s0 x.2 := ?a; ?b); case' a => subst x; case' b => clear_value x) | (refine (have hx : Kept s0 x.1 := ?a; ?b); case' a => subst x; case' b => clear_value x) | (refine (have hx : Kept s0 x.2.2 := ?a; ?b); case' a => subst x; case' b => clear_value x) | (refine (have hx : ∀ t, Kept s0 t → Kept s0 (x t) := ?a; ?b); case' a => subst x; case' b => clear_value x) | (refine (have hx : ∀ t a, Kept s0 t → Kept s0 (x t a) := ?a; ?b); case' a => subst x; case' b => clear_value x) | (refine (have hx : ∀ a t, Kept s0 t → Kept s0 (x a t) := ?a; ?b); case' a => subst x; case' b => clear_value x) | subst x)
    | simp only [Kept.mkSame, Kept.mkPlate, Kept.mkStore, Kept.mkMg]
    | (intro; intro; intro)

theorem State.rerouted_kept {s0 : State} {s : State} (hk : Kept s0 s) : Kept s0 (State.rerouted s) := by
  unfold State.rerouted
  repeat' first
    | with_reducible assumption
    | with_reducible refine Kept.set ?_ _ _
    | with_reducible refine Kept.count ?_ _ _
    | with_reducible refine Kept.raise ?_ _ _

theorem State.dataReturn_kept {s0 : State} {s : State} (hk : Kept s0 s) : Kept s0 (State.dataReturn s) := by
  unfold State.dataReturn
  repeat' first
    | with_reducible assumption
    | with_reducible refine State.rerouted_kept ?_
    | with_reducible refine State.setPath_kept ?_
    | with_reducible refine Kept.ite ?_ ?_
    | split
    | ((try lift_lets); intro x; first | (refine (have hx : Kept s0 x := ?a; ?b); case' a => subst x; case' b => clear_value x) | (refine (have hx : Kept s0 x.2 := ?a; ?b); case' a => subst x; case' b => clear_value x) | (refine (have hx : Kept s0 x.1 := ?a; ?b); case' a => subst x; case' b => clear_value x) | (refine (have hx : Kept s0 x.2.2 := ?a; ?b); case' a => subst x; case' b => clear_value x) | (refine (have hx : ∀ t, Kept s0 t → Kept s0 (x t) := ?a; ?b); case' a => subst x; case' b => clear_value x) | (refine (have hx : ∀ t a, Kept s0 t → Kept s0 (x t a) := ?a; ?b); case' a => subst x; case' b => clear_value x) | (refine (have hx : ∀ a t, Kept s0 t → Kept s0 (x a t) := ?a; ?b); case' a => subst x; case' b => clear_value x) | subst x)
    | simp only [Kept.mkSame, Kept.mkPlate, Kept.mkStore, Kept.mkMg]
    | (intro; intro; intro)

theorem creditReceived_kept {s0 : State} {port : Nat} {ack : Nat} {window : Nat} {nak : Bool} {s : State} (hk : Kept s0 s) : Kept s0 (creditReceived port ack window nak s) := by
  unfold creditReceived
  repeat' first
    | with_reducible assumption
    | with_reducible refine State.creditTaken_kept ?_
    | with_reducible refine State.dataReturn_kept ?_

theorem blockReceived_kept {s0 : State} {port : Nat} {block : BlockIn} {s : State} (hk : Kept s0 s) : Kept s0 (blockReceived port block s) := by
  unfold blockReceived
  repeat' first
    | with_reducible assumption
    | with_reducible refine State.blockGood_kept ?_
    | with_reducible refine State.busyEval_kept ?_
    | with_reducible refine State.rxBad_kept ?_
    | with_reducible refine State.sendCredit_kept ?_
    | with_reducible refine State.setPath_kept ?_
    | with_reducible refine creditReceived_kept ?_
    | with_reducible refine Kept.ite ?_ ?_
    | split
    | simp only [Kept.mkSame, Kept.mkPlate, Kept.mkStore, Kept.mkMg]
    | (intro; intro; intro)

end Sys2Proof.Machine
end

