-- ==== Sys2Proof/Laws/KeptRoutes.lean ====
section
/-! SUPPORT. Routes: no operation disturbs the queue or the canonical form. -/

set_option linter.unusedSimpArgs false
set_option linter.unusedVariables false

namespace Sys2Proof.Machine

open Sys2Proof

theorem State.setPortQ_kept {s0 : State} {s : State} {p : Nat} {q : PortQ} (hk : Kept s0 s) : Kept s0 (State.setPortQ s p q) := by
  unfold State.setPortQ
  repeat' first
    | with_reducible assumption
    | simp only [Kept.mkSame]

theorem State.ctDrop_kept {s0 : State} {s : State} (hk : Kept s0 s) : Kept s0 (State.ctDrop s) := by
  unfold State.ctDrop
  repeat' first
    | with_reducible assumption
    | with_reducible refine Kept.set ?_ _ _
    | with_reducible refine Kept.count ?_ _ _

theorem State.pushFast_kept {s0 : State} {s : State} {p : Nat} {item : Nat} {from_ : Nat} (hk : Kept s0 s) : Kept s0 (State.pushFast s p item from_) := by
  unfold State.pushFast
  repeat' first
    | with_reducible assumption
    | with_reducible refine State.ctDrop_kept ?_
    | with_reducible refine State.setPortQ_kept ?_
    | with_reducible refine Kept.ite ?_ ?_
    | split
    | ((try lift_lets); intro x; first | (refine (have hx : Kept s0 x := ?a; ?b); case' a => subst x; case' b => clear_value x) | (refine (have hx : Kept s0 x.2 := ?a; ?b); case' a => subst x; case' b => clear_value x) | (refine (have hx : Kept s0 x.1 := ?a; ?b); case' a => subst x; case' b => clear_value x) | (refine (have hx : Kept s0 x.2.2 := ?a; ?b); case' a => subst x; case' b => clear_value x) | (refine (have hx : ∀ t, Kept s0 t → Kept s0 (x t) := ?a; ?b); case' a => subst x; case' b => clear_value x) | (refine (have hx : ∀ t a, Kept s0 t → Kept s0 (x t a) := ?a; ?b); case' a => subst x; case' b => clear_value x) | (refine (have hx : ∀ a t, Kept s0 t → Kept s0 (x a t) := ?a; ?b); case' a => subst x; case' b => clear_value x) | subst x)
    | simp only [Kept.mkSame, Kept.mkPlate, Kept.mkStore, Kept.mkMg]
    | (intro; intro; intro)

theorem State.pushMsg_kept {s0 : State} {s : State} {p : Nat} {items : List Nat} (hk : Kept s0 s) : Kept s0 (State.pushMsg s p items) := by
  unfold State.pushMsg
  repeat' first
    | with_reducible assumption
    | with_reducible refine State.ctDrop_kept ?_
    | with_reducible refine State.setPortQ_kept ?_
    | with_reducible refine Kept.ite ?_ ?_

theorem State.fastUp_kept {s0 : State} {s : State} {item : Nat} (hk : Kept s0 s) : Kept s0 (State.fastUp s item) := by
  unfold State.fastUp
  repeat' first
    | with_reducible assumption
    | with_reducible refine State.pushFast_kept ?_
    | split

theorem State.msgUp_kept {s0 : State} {s : State} {items : List Nat} (hk : Kept s0 s) : Kept s0 (State.msgUp s items) := by
  unfold State.msgUp
  repeat' first
    | with_reducible assumption
    | with_reducible refine State.pushMsg_kept ?_
    | split

theorem State.moveItems_kept {s0 : State} {s : State} {p : Nat} (hk : Kept s0 s) : Kept s0 (State.moveItems s p) := by
  unfold State.moveItems
  repeat' first
    | with_reducible assumption
    | with_reducible refine State.pushFast_kept ?_
    | with_reducible refine State.pushMsg_kept ?_
    | with_reducible refine State.setPortQ_kept ?_
    | with_reducible refine Kept.each (fun _ _ _ => ?_) ?_
    | with_reducible refine Kept.ite ?_ ?_
    | split
    | ((try lift_lets); intro x; first | (refine (have hx : Kept s0 x := ?a; ?b); case' a => subst x; case' b => clear_value x) | (refine (have hx : Kept s0 x.2 := ?a; ?b); case' a => subst x; case' b => clear_value x) | (refine (have hx : Kept s0 x.1 := ?a; ?b); case' a => subst x; case' b => clear_value x) | (refine (have hx : Kept s0 x.2.2 := ?a; ?b); case' a => subst x; case' b => clear_value x) | (refine (have hx : ∀ t, Kept s0 t → Kept s0 (x t) := ?a; ?b); case' a => subst x; case' b => clear_value x) | (refine (have hx : ∀ t a, Kept s0 t → Kept s0 (x t a) := ?a; ?b); case' a => subst x; case' b => clear_value x) | (refine (have hx : ∀ a t, Kept s0 t → Kept s0 (x a t) := ?a; ?b); case' a => subst x; case' b => clear_value x) | subst x)
    | simp only [Kept.mkSame, Kept.mkPlate, Kept.mkStore, Kept.mkMg]
    | (intro; intro; intro)

theorem State.linkClear_kept {s0 : State} {s : State} {p : Nat} (hk : Kept s0 s) : Kept s0 (State.linkClear s p) := by
  unfold State.linkClear
  repeat' first
    | with_reducible assumption
    | with_reducible refine Kept.set ?_ _ _
    | split
    | ((try lift_lets); intro x; first | (refine (have hx : Kept s0 x := ?a; ?b); case' a => subst x; case' b => clear_value x) | (refine (have hx : Kept s0 x.2 := ?a; ?b); case' a => subst x; case' b => clear_value x) | (refine (have hx : Kept s0 x.1 := ?a; ?b); case' a => subst x; case' b => clear_value x) | (refine (have hx : Kept s0 x.2.2 := ?a; ?b); case' a => subst x; case' b => clear_value x) | (refine (have hx : ∀ t, Kept s0 t → Kept s0 (x t) := ?a; ?b); case' a => subst x; case' b => clear_value x) | (refine (have hx : ∀ t a, Kept s0 t → Kept s0 (x t a) := ?a; ?b); case' a => subst x; case' b => clear_value x) | (refine (have hx : ∀ a t, Kept s0 t → Kept s0 (x a t) := ?a; ?b); case' a => subst x; case' b => clear_value x) | subst x)
    | simp only [Kept.mkSame, Kept.mkPlate, Kept.mkStore, Kept.mkMg]
    | (intro; intro; intro)

theorem State.tcUp_kept {s0 : State} {s : State} {p : Nat} (hk : Kept s0 s) : Kept s0 (State.tcUp s p) := by
  unfold State.tcUp
  repeat' first
    | with_reducible assumption
    | with_reducible refine State.moveItems_kept ?_
    | with_reducible refine State.rerouted_kept ?_
    | with_reducible refine Kept.set ?_ _ _
    | with_reducible refine Kept.iff (fun _ _ => ?_) ?_
    | with_reducible refine Kept.each (fun _ _ _ => ?_) ?_
    | split
    | ((try lift_lets); intro x; first | (refine (have hx : Kept s0 x := ?a; ?b); case' a => subst x; case' b => clear_value x) | (refine (have hx : Kept s0 x.2 := ?a; ?b); case' a => subst x; case' b => clear_value x) | (refine (have hx : Kept s0 x.1 := ?a; ?b); case' a => subst x; case' b => clear_value x) | (refine (have hx : Kept s0 x.2.2 := ?a; ?b); case' a => subst x; case' b => clear_value x) | (refine (have hx : ∀ t, Kept s0 t → Kept s0 (x t) := ?a; ?b); case' a => subst x; case' b => clear_value x) | (refine (have hx : ∀ t a, Kept s0 t → Kept s0 (x t a) := ?a; ?b); case' a => subst x; case' b => clear_value x) | (refine (have hx : ∀ a t, Kept s0 t → Kept s0 (x a t) := ?a; ?b); case' a => subst x; case' b => clear_value x) | subst x)
    | simp only [Kept.mkSame, Kept.mkPlate, Kept.mkStore, Kept.mkMg]
    | (intro; intro; intro)

theorem State.tcGain_kept {s0 : State} {s : State} {p : Nat} (hk : Kept s0 s) : Kept s0 (State.tcGain s p) := by
  unfold State.tcGain
  repeat' first
    | with_reducible assumption
    | with_reducible refine State.tcUp_kept ?_
    | with_reducible refine Kept.ite ?_ ?_
    | split
    | (intro; intro; intro)

end Sys2Proof.Machine
end

