-- ==== Sys2Proof/Laws/KeptLanes.lean ====
section
/-! SUPPORT. Lanes: no operation disturbs the queue or the canonical form. -/

set_option linter.unusedSimpArgs false
set_option linter.unusedVariables false

namespace Sys2Proof.Machine

open Sys2Proof

theorem State.setHeld_kept {s0 : State} {s : State} {n : Nat} {rx : Bool} {h : Option Nat} (hk : Kept s0 s) : Kept s0 (State.setHeld s n rx h) := by
  unfold State.setHeld
  repeat' first
    | with_reducible assumption
    | with_reducible refine State.setLane_kept ?_

theorem State.laneRefuse_kept {s0 : State} {s : State} {n : Nat} (hk : Kept s0 s) : Kept s0 (State.laneRefuse s n) := by
  unfold State.laneRefuse
  repeat' first
    | with_reducible assumption
    | with_reducible refine Kept.flag ?_ _ _ _

theorem State.setOutGrp_kept {s0 : State} {s : State} {n : Nat} {b : Bool} (hk : Kept s0 s) : Kept s0 (State.setOutGrp s n b) := by
  unfold State.setOutGrp
  repeat' first
    | with_reducible assumption
    | with_reducible refine Kept.set ?_ _ _
    | with_reducible refine Kept.ite ?_ ?_

theorem State.lockLoss_kept {s0 : State} {s : State} {n : Nat} (hk : Kept s0 s) : Kept s0 (State.lockLoss s n) := by
  unfold State.lockLoss
  repeat' first
    | with_reducible assumption
    | with_reducible refine State.linkClear_kept ?_
    | with_reducible refine State.setLane_kept ?_
    | with_reducible refine Kept.set ?_ _ _
    | with_reducible refine Kept.count ?_ _ _
    | with_reducible refine Kept.flag ?_ _ _ _
    | with_reducible refine Kept.iff (fun _ _ => ?_) ?_
    | with_reducible refine Kept.ite ?_ ?_
    | split
    | ((try lift_lets); intro x; first | (refine (have hx : Kept s0 x := ?a; ?b); case' a => subst x; case' b => clear_value x) | (refine (have hx : Kept s0 x.2 := ?a; ?b); case' a => subst x; case' b => clear_value x) | (refine (have hx : Kept s0 x.1 := ?a; ?b); case' a => subst x; case' b => clear_value x) | (refine (have hx : Kept s0 x.2.2 := ?a; ?b); case' a => subst x; case' b => clear_value x) | (refine (have hx : ∀ t, Kept s0 t → Kept s0 (x t) := ?a; ?b); case' a => subst x; case' b => clear_value x) | (refine (have hx : ∀ t a, Kept s0 t → Kept s0 (x t a) := ?a; ?b); case' a => subst x; case' b => clear_value x) | (refine (have hx : ∀ a t, Kept s0 t → Kept s0 (x a t) := ?a; ?b); case' a => subst x; case' b => clear_value x) | subst x)
    | simp only [Kept.mkSame, Kept.mkPlate, Kept.mkStore, Kept.mkMg]
    | (intro; intro; intro)

theorem symbolLock_kept {s0 : State} {n : Nat} {lat : Nat} {s : State} (hk : Kept s0 s) : Kept s0 (symbolLock n lat s) := by
  unfold symbolLock
  repeat' first
    | with_reducible assumption
    | with_reducible refine State.setLane_kept ?_
    | with_reducible refine State.setOutGrp_kept ?_
    | with_reducible refine State.tcGain_kept ?_
    | with_reducible refine Kept.set ?_ _ _
    | with_reducible refine Kept.flag ?_ _ _ _
    | with_reducible refine Kept.iff (fun _ _ => ?_) ?_
    | with_reducible refine Kept.ite ?_ ?_
    | split
    | ((try lift_lets); intro x; first | (refine (have hx : Kept s0 x := ?a; ?b); case' a => subst x; case' b => clear_value x) | (refine (have hx : Kept s0 x.2 := ?a; ?b); case' a => subst x; case' b => clear_value x) | (refine (have hx : Kept s0 x.1 := ?a; ?b); case' a => subst x; case' b => clear_value x) | (refine (have hx : Kept s0 x.2.2 := ?a; ?b); case' a => subst x; case' b => clear_value x) | (refine (have hx : ∀ t, Kept s0 t → Kept s0 (x t) := ?a; ?b); case' a => subst x; case' b => clear_value x) | (refine (have hx : ∀ t a, Kept s0 t → Kept s0 (x t a) := ?a; ?b); case' a => subst x; case' b => clear_value x) | (refine (have hx : ∀ a t, Kept s0 t → Kept s0 (x a t) := ?a; ?b); case' a => subst x; case' b => clear_value x) | subst x)
    | simp only [Kept.mkSame, Kept.mkPlate, Kept.mkStore, Kept.mkMg]
    | (intro; intro; intro)

theorem slipWrite_kept {s0 : State} {n : Nat} {slip : Nat} {s : State} (hk : Kept s0 s) : Kept s0 (slipWrite n slip s) := by
  unfold slipWrite
  repeat' first
    | with_reducible assumption
    | with_reducible refine State.laneRefuse_kept ?_
    | with_reducible refine Kept.set ?_ _ _
    | with_reducible refine Kept.ite ?_ ?_

theorem State.slipStep_kept {s0 : State} {s : State} {n : Nat} (hk : Kept s0 s) : Kept s0 (State.slipStep s n) := by
  unfold State.slipStep
  repeat' first
    | with_reducible assumption
    | with_reducible refine Kept.set ?_ _ _

theorem State.setServe_kept {s0 : State} {s : State} {n : Nat} {b : Bool} (hk : Kept s0 s) : Kept s0 (State.setServe s n b) := by
  unfold State.setServe
  repeat' first
    | with_reducible assumption
    | with_reducible refine Kept.set ?_ _ _
    | with_reducible refine Kept.setB ?_ _ _
    | split
    | ((try lift_lets); intro x; first | (refine (have hx : Kept s0 x := ?a; ?b); case' a => subst x; case' b => clear_value x) | (refine (have hx : Kept s0 x.2 := ?a; ?b); case' a => subst x; case' b => clear_value x) | (refine (have hx : Kept s0 x.1 := ?a; ?b); case' a => subst x; case' b => clear_value x) | (refine (have hx : Kept s0 x.2.2 := ?a; ?b); case' a => subst x; case' b => clear_value x) | (refine (have hx : ∀ t, Kept s0 t → Kept s0 (x t) := ?a; ?b); case' a => subst x; case' b => clear_value x) | (refine (have hx : ∀ t a, Kept s0 t → Kept s0 (x t a) := ?a; ?b); case' a => subst x; case' b => clear_value x) | (refine (have hx : ∀ a t, Kept s0 t → Kept s0 (x a t) := ?a; ?b); case' a => subst x; case' b => clear_value x) | subst x)
    | (intro; intro; intro)

theorem State.moveSlots_kept {s0 : State} {s : State} {n : Nat} (hk : Kept s0 s) : Kept s0 (State.moveSlots s n) := by
  unfold State.moveSlots
  repeat' first
    | with_reducible assumption
    | with_reducible refine State.setServe_kept ?_
    | with_reducible refine State.updConflict_kept ?_
    | with_reducible refine Kept.flag ?_ _ _ _
    | split

theorem spareServeWrite_kept {s0 : State} {port : Nat} {mask : Nat} {s : State} (hk : Kept s0 s) : Kept s0 (spareServeWrite port mask s) := by
  unfold spareServeWrite
  repeat' first
    | with_reducible assumption
    | with_reducible refine State.laneRefuse_kept ?_
    | with_reducible refine State.setServe_kept ?_
    | with_reducible refine State.updConflict_kept ?_
    | with_reducible refine Kept.flag ?_ _ _ _
    | with_reducible refine Kept.iff (fun _ _ => ?_) ?_
    | with_reducible refine Kept.each (fun _ _ _ => ?_) ?_
    | split
    | simp only [Kept.mkSame]

theorem State.pendQuads_kept {s0 : State} {s : State} (hk : Kept s0 s) : Kept s0 (State.pendQuads s) := by
  unfold State.pendQuads
  repeat' first
    | with_reducible assumption
    | with_reducible refine Kept.set ?_ _ _

theorem State.dirOff_kept {s0 : State} {s : State} {n : Nat} {rx : Bool} {held : Option Nat} (hk : Kept s0 s) : Kept s0 (State.dirOff s n rx held) := by
  unfold State.dirOff
  repeat' first
    | with_reducible assumption
    | with_reducible refine State.lockLoss_kept ?_
    | with_reducible refine State.setHeld_kept ?_
    | with_reducible refine Kept.set ?_ _ _
    | with_reducible refine Kept.iff (fun _ _ => ?_) ?_
    | simp only [Kept.mkSame]

theorem State.dirStart_kept {s0 : State} {s : State} {n : Nat} {rx : Bool} {target : Nat} (hk : Kept s0 s) : Kept s0 (State.dirStart s n rx target) := by
  unfold State.dirStart
  repeat' first
    | with_reducible assumption
    | with_reducible refine State.setHeld_kept ?_
    | with_reducible refine Kept.set ?_ _ _
    | with_reducible refine Kept.ite ?_ ?_

theorem State.dirFree_kept {s0 : State} {s : State} {n : Nat} {rx : Bool} {forbidden : Bool} (hk : Kept s0 s) : Kept s0 (State.dirFree s n rx forbidden) := by
  unfold State.dirFree
  repeat' first
    | with_reducible assumption
    | with_reducible refine State.dirStart_kept ?_
    | with_reducible refine State.pendQuads_kept ?_
    | with_reducible refine State.setHeld_kept ?_
    | with_reducible refine Kept.set ?_ _ _
    | with_reducible refine Kept.count ?_ _ _
    | with_reducible refine Kept.raise ?_ _ _
    | with_reducible refine Kept.ite ?_ ?_
    | split

theorem State.quadIdle_kept {s0 : State} {s : State} {q : Nat} (hk : Kept s0 s) : Kept s0 (State.quadIdle s q) := by
  unfold State.quadIdle
  repeat' first
    | with_reducible assumption
    | with_reducible refine Kept.ite ?_ ?_
    | simp only [Kept.mkSame]

theorem State.dirDown_kept {s0 : State} {s : State} {n : Nat} {rx : Bool} {forbidden : Bool} (hk : Kept s0 s) : Kept s0 (State.dirDown s n rx forbidden) := by
  unfold State.dirDown
  repeat' first
    | with_reducible assumption
    | with_reducible refine State.dirFree_kept ?_
    | with_reducible refine State.quadIdle_kept ?_
    | with_reducible refine Kept.set ?_ _ _

theorem State.quadDown_kept {s0 : State} {s : State} {q : Nat} {forbidden : Bool} (hk : Kept s0 s) : Kept s0 (State.quadDown s q forbidden) := by
  unfold State.quadDown
  repeat' first
    | with_reducible assumption
    | with_reducible refine State.dirFree_kept ?_
    | with_reducible refine Kept.set ?_ _ _
    | with_reducible refine Kept.each (fun _ _ _ => ?_) ?_
    | with_reducible refine Kept.ite ?_ ?_

theorem State.dropStart_kept {s0 : State} {s : State} {n : Nat} {rx : Bool} (hk : Kept s0 s) : Kept s0 (State.dropStart s n rx) := by
  unfold State.dropStart
  repeat' first
    | with_reducible assumption
    | with_reducible refine State.pendQuads_kept ?_
    | with_reducible refine State.setHeld_kept ?_
    | with_reducible refine Kept.set ?_ _ _
    | split
    | (intro; intro; intro)

theorem State.dirRequest_kept {s0 : State} {s : State} {n : Nat} {rx : Bool} {req : Nat} (hk : Kept s0 s) : Kept s0 (State.dirRequest s n rx req) := by
  unfold State.dirRequest
  repeat' first
    | with_reducible assumption
    | with_reducible refine State.dirOff_kept ?_
    | with_reducible refine State.dirStart_kept ?_
    | with_reducible refine State.dropStart_kept ?_
    | with_reducible refine State.lockLoss_kept ?_
    | with_reducible refine State.pendQuads_kept ?_
    | with_reducible refine State.setHeld_kept ?_
    | with_reducible refine Kept.set ?_ _ _
    | with_reducible refine Kept.raise ?_ _ _
    | with_reducible refine Kept.iff (fun _ _ => ?_) ?_
    | with_reducible refine Kept.ite ?_ ?_
    | split
    | ((try lift_lets); intro x; first | (refine (have hx : Kept s0 x := ?a; ?b); case' a => subst x; case' b => clear_value x) | (refine (have hx : Kept s0 x.2 := ?a; ?b); case' a => subst x; case' b => clear_value x) | (refine (have hx : Kept s0 x.1 := ?a; ?b); case' a => subst x; case' b => clear_value x) | (refine (have hx : Kept s0 x.2.2 := ?a; ?b); case' a => subst x; case' b => clear_value x) | (refine (have hx : ∀ t, Kept s0 t → Kept s0 (x t) := ?a; ?b); case' a => subst x; case' b => clear_value x) | (refine (have hx : ∀ t a, Kept s0 t → Kept s0 (x t a) := ?a; ?b); case' a => subst x; case' b => clear_value x) | (refine (have hx : ∀ a t, Kept s0 t → Kept s0 (x a t) := ?a; ?b); case' a => subst x; case' b => clear_value x) | subst x)
    | (intro; intro; intro)

theorem lanePowerRequest_kept {s0 : State} {n : Nat} {tx : Nat} {rx : Nat} {via : Option Nat} {s : State} (hk : Kept s0 s) : Kept s0 (lanePowerRequest n tx rx via s) := by
  unfold lanePowerRequest
  repeat' first
    | with_reducible assumption
    | with_reducible refine State.dirRequest_kept ?_
    | with_reducible refine State.laneRefuse_kept ?_
    | with_reducible refine State.moveSlots_kept ?_
    | with_reducible refine State.setOutGrp_kept ?_
    | with_reducible refine Kept.iff (fun _ _ => ?_) ?_
    | with_reducible refine Kept.ite ?_ ?_
    | split
    | ((try lift_lets); intro x; first | (refine (have hx : Kept s0 x := ?a; ?b); case' a => subst x; case' b => clear_value x) | (refine (have hx : Kept s0 x.2 := ?a; ?b); case' a => subst x; case' b => clear_value x) | (refine (have hx : Kept s0 x.1 := ?a; ?b); case' a => subst x; case' b => clear_value x) | (refine (have hx : Kept s0 x.2.2 := ?a; ?b); case' a => subst x; case' b => clear_value x) | (refine (have hx : ∀ t, Kept s0 t → Kept s0 (x t) := ?a; ?b); case' a => subst x; case' b => clear_value x) | (refine (have hx : ∀ t a, Kept s0 t → Kept s0 (x t a) := ?a; ?b); case' a => subst x; case' b => clear_value x) | (refine (have hx : ∀ a t, Kept s0 t → Kept s0 (x a t) := ?a; ?b); case' a => subst x; case' b => clear_value x) | subst x)
    | (intro; intro; intro)

theorem laneWakeDone_kept {s0 : State} {n : Nat} {rx : Bool} {s : State} (hk : Kept s0 s) : Kept s0 (laneWakeDone n rx s) := by
  unfold laneWakeDone
  repeat' first
    | with_reducible assumption
    | with_reducible refine State.dirOff_kept ?_
    | with_reducible refine State.setHeld_kept ?_
    | with_reducible refine State.setOutGrp_kept ?_
    | with_reducible refine State.tcGain_kept ?_
    | with_reducible refine Kept.set ?_ _ _
    | with_reducible refine Kept.iff (fun _ _ => ?_) ?_
    | with_reducible refine Kept.ite ?_ ?_
    | split
    | ((try lift_lets); intro x; first | (refine (have hx : Kept s0 x := ?a; ?b); case' a => subst x; case' b => clear_value x) | (refine (have hx : Kept s0 x.2 := ?a; ?b); case' a => subst x; case' b => clear_value x) | (refine (have hx : Kept s0 x.1 := ?a; ?b); case' a => subst x; case' b => clear_value x) | (refine (have hx : Kept s0 x.2.2 := ?a; ?b); case' a => subst x; case' b => clear_value x) | (refine (have hx : ∀ t, Kept s0 t → Kept s0 (x t) := ?a; ?b); case' a => subst x; case' b => clear_value x) | (refine (have hx : ∀ t a, Kept s0 t → Kept s0 (x t a) := ?a; ?b); case' a => subst x; case' b => clear_value x) | (refine (have hx : ∀ a t, Kept s0 t → Kept s0 (x a t) := ?a; ?b); case' a => subst x; case' b => clear_value x) | subst x)
    | (intro; intro; intro)

theorem laneLoopSelect_kept {s0 : State} {n : Nat} {loop : Nat} {pattern : Nat} {s : State} (hk : Kept s0 s) : Kept s0 (laneLoopSelect n loop pattern s) := by
  unfold laneLoopSelect
  repeat' first
    | with_reducible assumption
    | with_reducible refine State.laneRefuse_kept ?_
    | with_reducible refine State.lockLoss_kept ?_
    | with_reducible refine State.setLane_kept ?_
    | with_reducible refine Kept.set ?_ _ _
    | with_reducible refine Kept.iff (fun _ _ => ?_) ?_
    | with_reducible refine Kept.draw ?_
    | (apply Kept.drawE; with_reducible assumption)
    | with_reducible refine Kept.ite ?_ ?_
    | split
    | ((try lift_lets); intro x; first | (refine (have hx : Kept s0 x := ?a; ?b); case' a => subst x; case' b => clear_value x) | (refine (have hx : Kept s0 x.2 := ?a; ?b); case' a => subst x; case' b => clear_value x) | (refine (have hx : Kept s0 x.1 := ?a; ?b); case' a => subst x; case' b => clear_value x) | (refine (have hx : Kept s0 x.2.2 := ?a; ?b); case' a => subst x; case' b => clear_value x) | (refine (have hx : ∀ t, Kept s0 t → Kept s0 (x t) := ?a; ?b); case' a => subst x; case' b => clear_value x) | (refine (have hx : ∀ t a, Kept s0 t → Kept s0 (x t a) := ?a; ?b); case' a => subst x; case' b => clear_value x) | (refine (have hx : ∀ a t, Kept s0 t → Kept s0 (x a t) := ?a; ?b); case' a => subst x; case' b => clear_value x) | subst x)
    | simp only [Kept.mkSame, Kept.mkPlate, Kept.mkStore, Kept.mkMg]
    | (intro; intro; intro)

theorem State.loopErrors_kept {s0 : State} {s : State} {n : Nat} {k : Nat} (hk : Kept s0 s) : Kept s0 (State.loopErrors s n k) := by
  unfold State.loopErrors
  repeat' first
    | with_reducible assumption
    | with_reducible refine State.setLane_kept ?_
    | with_reducible refine Kept.count ?_ _ _
    | with_reducible refine Kept.raise ?_ _ _
    | with_reducible refine Kept.iff (fun _ _ => ?_) ?_
    | with_reducible refine Kept.ite ?_ ?_

theorem loopCheckerPattern_kept {s0 : State} {n : Nat} {count : Nat} {errors : Nat} {s : State} (hk : Kept s0 s) : Kept s0 (loopCheckerPattern n count errors s) := by
  unfold loopCheckerPattern
  repeat' first
    | with_reducible assumption
    | with_reducible refine State.loopErrors_kept ?_
    | with_reducible refine State.setLane_kept ?_
    | with_reducible refine Kept.set ?_ _ _
    | with_reducible refine Kept.ite ?_ ?_

theorem State.loopFrame_kept {s0 : State} {s : State} {n : Nat} {good : Bool} (hk : Kept s0 s) : Kept s0 (State.loopFrame s n good) := by
  unfold State.loopFrame
  repeat' first
    | with_reducible assumption
    | with_reducible refine State.loopErrors_kept ?_
    | with_reducible refine State.setLane_kept ?_
    | with_reducible refine Kept.set ?_ _ _
    | with_reducible refine Kept.ite ?_ ?_

theorem State.restripe_kept {s0 : State} {s : State} {n : Nat} (hk : Kept s0 s) : Kept s0 (State.restripe s n) := by
  unfold State.restripe
  repeat' first
    | with_reducible assumption
    | with_reducible refine State.setOutGrp_kept ?_
    | with_reducible refine State.setPath_kept ?_
    | with_reducible refine Kept.flag ?_ _ _ _
    | with_reducible refine Kept.iff (fun _ _ => ?_) ?_
    | with_reducible refine Kept.ite ?_ ?_

theorem State.dirFail_kept {s0 : State} {s : State} {n : Nat} {rx : Bool} (hk : Kept s0 s) : Kept s0 (State.dirFail s n rx) := by
  unfold State.dirFail
  repeat' first
    | with_reducible assumption
    | with_reducible refine State.moveSlots_kept ?_
    | with_reducible refine State.restripe_kept ?_
    | with_reducible refine State.setLane_kept ?_
    | with_reducible refine Kept.set ?_ _ _
    | with_reducible refine Kept.ite ?_ ?_
    | split
    | ((try lift_lets); intro x; first | (refine (have hx : Kept s0 x := ?a; ?b); case' a => subst x; case' b => clear_value x) | (refine (have hx : Kept s0 x.2 := ?a; ?b); case' a => subst x; case' b => clear_value x) | (refine (have hx : Kept s0 x.1 := ?a; ?b); case' a => subst x; case' b => clear_value x) | (refine (have hx : Kept s0 x.2.2 := ?a; ?b); case' a => subst x; case' b => clear_value x) | (refine (have hx : ∀ t, Kept s0 t → Kept s0 (x t) := ?a; ?b); case' a => subst x; case' b => clear_value x) | (refine (have hx : ∀ t a, Kept s0 t → Kept s0 (x t a) := ?a; ?b); case' a => subst x; case' b => clear_value x) | (refine (have hx : ∀ a t, Kept s0 t → Kept s0 (x a t) := ?a; ?b); case' a => subst x; case' b => clear_value x) | subst x)
    | simp only [Kept.mkSame, Kept.mkPlate, Kept.mkStore, Kept.mkMg]
    | (intro; intro; intro)

theorem State.laneFault_kept {s0 : State} {s : State} {n : Nat} (hk : Kept s0 s) : Kept s0 (State.laneFault s n) := by
  unfold State.laneFault
  repeat' first
    | with_reducible assumption
    | with_reducible refine State.dirFail_kept ?_
    | with_reducible refine Kept.flag ?_ _ _ _
    | split
    | (intro; intro; intro)

theorem lockLost_kept {s0 : State} {n : Nat} {many : Bool} {s : State} (hk : Kept s0 s) : Kept s0 (lockLost n many s) := by
  unfold lockLost
  repeat' first
    | with_reducible assumption
    | with_reducible refine State.dirFail_kept ?_
    | with_reducible refine State.laneFault_kept ?_
    | with_reducible refine State.lockLoss_kept ?_
    | with_reducible refine Kept.iff (fun _ _ => ?_) ?_
    | with_reducible refine Kept.ite ?_ ?_
    | split
    | (intro; intro; intro)

theorem eyeMeasurement_kept {s0 : State} {n : Nat} {eye : Nat} {steady : Bool} {driverFault : Bool} {s : State} (hk : Kept s0 s) : Kept s0 (eyeMeasurement n eye steady driverFault s) := by
  unfold eyeMeasurement
  repeat' first
    | with_reducible assumption
    | with_reducible refine State.laneFault_kept ?_
    | with_reducible refine State.setLane_kept ?_
    | with_reducible refine Kept.set ?_ _ _
    | with_reducible refine Kept.flag ?_ _ _ _
    | with_reducible refine Kept.iff (fun _ _ => ?_) ?_
    | with_reducible refine Kept.ite ?_ ?_
    | split
    | ((try lift_lets); intro x; first | (refine (have hx : Kept s0 x := ?a; ?b); case' a => subst x; case' b => clear_value x) | (refine (have hx : Kept s0 x.2 := ?a; ?b); case' a => subst x; case' b => clear_value x) | (refine (have hx : Kept s0 x.1 := ?a; ?b); case' a => subst x; case' b => clear_value x) | (refine (have hx : Kept s0 x.2.2 := ?a; ?b); case' a => subst x; case' b => clear_value x) | (refine (have hx : ∀ t, Kept s0 t → Kept s0 (x t) := ?a; ?b); case' a => subst x; case' b => clear_value x) | (refine (have hx : ∀ t a, Kept s0 t → Kept s0 (x t a) := ?a; ?b); case' a => subst x; case' b => clear_value x) | (refine (have hx : ∀ a t, Kept s0 t → Kept s0 (x a t) := ?a; ?b); case' a => subst x; case' b => clear_value x) | subst x)
    | simp only [Kept.mkSame, Kept.mkPlate, Kept.mkStore, Kept.mkMg]
    | (intro; intro; intro)

theorem laneFailed_kept {s0 : State} {n : Nat} {rx : Bool} {s : State} (hk : Kept s0 s) : Kept s0 (laneFailed n rx s) := by
  unfold laneFailed
  repeat' first
    | with_reducible assumption
    | with_reducible refine State.dirFail_kept ?_
    | with_reducible refine Kept.ite ?_ ?_
    | split
    | (intro; intro; intro)

theorem laneOut_kept {s0 : State} {n : Nat} {out : Bool} {via : Option Nat} {s : State} (hk : Kept s0 s) : Kept s0 (laneOut n out via s) := by
  unfold laneOut
  repeat' first
    | with_reducible assumption
    | with_reducible refine State.assayCheck_kept ?_
    | with_reducible refine State.laneRefuse_kept ?_
    | with_reducible refine State.moveSlots_kept ?_
    | with_reducible refine State.setLane_kept ?_
    | with_reducible refine State.setOutGrp_kept ?_
    | with_reducible refine Kept.set ?_ _ _
    | with_reducible refine Kept.iff (fun _ _ => ?_) ?_
    | with_reducible refine Kept.ite ?_ ?_
    | split
    | ((try lift_lets); intro x; first | (refine (have hx : Kept s0 x := ?a; ?b); case' a => subst x; case' b => clear_value x) | (refine (have hx : Kept s0 x.2 := ?a; ?b); case' a => subst x; case' b => clear_value x) | (refine (have hx : Kept s0 x.1 := ?a; ?b); case' a => subst x; case' b => clear_value x) | (refine (have hx : Kept s0 x.2.2 := ?a; ?b); case' a => subst x; case' b => clear_value x) | (refine (have hx : ∀ t, Kept s0 t → Kept s0 (x t) := ?a; ?b); case' a => subst x; case' b => clear_value x) | (refine (have hx : ∀ t a, Kept s0 t → Kept s0 (x t a) := ?a; ?b); case' a => subst x; case' b => clear_value x) | (refine (have hx : ∀ a t, Kept s0 t → Kept s0 (x a t) := ?a; ?b); case' a => subst x; case' b => clear_value x) | subst x)
    | simp only [Kept.mkSame, Kept.mkPlate, Kept.mkStore, Kept.mkMg]
    | (intro; intro; intro)

theorem laneRejoin_kept {s0 : State} {n : Nat} {s : State} (hk : Kept s0 s) : Kept s0 (laneRejoin n s) := by
  unfold laneRejoin
  repeat' first
    | with_reducible assumption
    | with_reducible refine State.setLane_kept ?_
    | with_reducible refine State.setOutGrp_kept ?_
    | with_reducible refine State.tcGain_kept ?_
    | with_reducible refine State.updConflict_kept ?_
    | with_reducible refine Kept.set ?_ _ _
    | with_reducible refine Kept.count ?_ _ _
    | with_reducible refine Kept.raise ?_ _ _
    | with_reducible refine Kept.iff (fun _ _ => ?_) ?_
    | with_reducible refine Kept.ite ?_ ?_
    | split
    | ((try lift_lets); intro x; first | (refine (have hx : Kept s0 x := ?a; ?b); case' a => subst x; case' b => clear_value x) | (refine (have hx : Kept s0 x.2 := ?a; ?b); case' a => subst x; case' b => clear_value x) | (refine (have hx : Kept s0 x.1 := ?a; ?b); case' a => subst x; case' b => clear_value x) | (refine (have hx : Kept s0 x.2.2 := ?a; ?b); case' a => subst x; case' b => clear_value x) | (refine (have hx : ∀ t, Kept s0 t → Kept s0 (x t) := ?a; ?b); case' a => subst x; case' b => clear_value x) | (refine (have hx : ∀ t a, Kept s0 t → Kept s0 (x t a) := ?a; ?b); case' a => subst x; case' b => clear_value x) | (refine (have hx : ∀ a t, Kept s0 t → Kept s0 (x a t) := ?a; ?b); case' a => subst x; case' b => clear_value x) | subst x)
    | simp only [Kept.mkSame, Kept.mkPlate, Kept.mkStore, Kept.mkMg]
    | (intro; intro; intro)

theorem pllUnlock_kept {s0 : State} {q : Nat} {s : State} (hk : Kept s0 s) : Kept s0 (pllUnlock q s) := by
  unfold pllUnlock
  repeat' first
    | with_reducible assumption
    | with_reducible refine State.dirFail_kept ?_
    | with_reducible refine State.lockLoss_kept ?_
    | with_reducible refine Kept.set ?_ _ _
    | with_reducible refine Kept.flag ?_ _ _ _
    | with_reducible refine Kept.each (fun _ _ _ => ?_) ?_
    | with_reducible refine Kept.ite ?_ ?_
    | split
    | ((try lift_lets); intro x; first | (refine (have hx : Kept s0 x := ?a; ?b); case' a => subst x; case' b => clear_value x) | (refine (have hx : Kept s0 x.2 := ?a; ?b); case' a => subst x; case' b => clear_value x) | (refine (have hx : Kept s0 x.1 := ?a; ?b); case' a => subst x; case' b => clear_value x) | (refine (have hx : Kept s0 x.2.2 := ?a; ?b); case' a => subst x; case' b => clear_value x) | (refine (have hx : ∀ t, Kept s0 t → Kept s0 (x t) := ?a; ?b); case' a => subst x; case' b => clear_value x) | (refine (have hx : ∀ t a, Kept s0 t → Kept s0 (x t a) := ?a; ?b); case' a => subst x; case' b => clear_value x) | (refine (have hx : ∀ a t, Kept s0 t → Kept s0 (x a t) := ?a; ?b); case' a => subst x; case' b => clear_value x) | subst x)
    | (intro; intro; intro)

theorem State.laneCommit_kept {s0 : State} {s : State} {was : PlateRd} {n : Nat} (hk : Kept s0 s) : Kept s0 (State.laneCommit s was n) := by
  unfold State.laneCommit
  repeat' first
    | with_reducible assumption
    | with_reducible refine State.dirOff_kept ?_
    | with_reducible refine State.dirRequest_kept ?_
    | with_reducible refine State.dirStart_kept ?_
    | with_reducible refine State.dropStart_kept ?_
    | with_reducible refine State.setHeld_kept ?_
    | with_reducible refine State.setLane_kept ?_
    | with_reducible refine Kept.set ?_ _ _
    | with_reducible refine Kept.setB ?_ _ _
    | with_reducible refine Kept.iff (fun _ _ => ?_) ?_
    | with_reducible refine Kept.each (fun _ _ _ => ?_) ?_
    | with_reducible refine Kept.ite ?_ ?_
    | split
    | ((try lift_lets); intro x; first | (refine (have hx : Kept s0 x := ?a; ?b); case' a => subst x; case' b => clear_value x) | (refine (have hx : Kept s0 x.2 := ?a; ?b); case' a => subst x; case' b => clear_value x) | (refine (have hx : Kept s0 x.1 := ?a; ?b); case' a => subst x; case' b => clear_value x) | (refine (have hx : Kept s0 x.2.2 := ?a; ?b); case' a => subst x; case' b => clear_value x) | (refine (have hx : ∀ t, Kept s0 t → Kept s0 (x t) := ?a; ?b); case' a => subst x; case' b => clear_value x) | (refine (have hx : ∀ t a, Kept s0 t → Kept s0 (x t a) := ?a; ?b); case' a => subst x; case' b => clear_value x) | (refine (have hx : ∀ a t, Kept s0 t → Kept s0 (x a t) := ?a; ?b); case' a => subst x; case' b => clear_value x) | subst x)
    | simp only [Kept.mkSame, Kept.mkPlate, Kept.mkStore, Kept.mkMg]
    | (intro; intro; intro)

theorem State.quadCommit_kept {s0 : State} {s : State} {was : PlateRd} {q : Nat} (hk : Kept s0 s) : Kept s0 (State.quadCommit s was q) := by
  unfold State.quadCommit
  repeat' first
    | with_reducible assumption
    | with_reducible refine Kept.set ?_ _ _
    | with_reducible refine Kept.ite ?_ ?_
    | simp only [Kept.mkSame]

theorem State.fwdCheck_kept {s0 : State} {s : State} (hk : Kept s0 s) : Kept s0 (State.fwdCheck s) := by
  unfold State.fwdCheck
  repeat' first
    | with_reducible assumption
    | with_reducible refine Kept.set ?_ _ _
    | with_reducible refine Kept.flag ?_ _ _ _
    | with_reducible refine Kept.each (fun _ _ _ => ?_) ?_
    | split
    | ((try lift_lets); intro x; first | (refine (have hx : Kept s0 x := ?a; ?b); case' a => subst x; case' b => clear_value x) | (refine (have hx : Kept s0 x.2 := ?a; ?b); case' a => subst x; case' b => clear_value x) | (refine (have hx : Kept s0 x.1 := ?a; ?b); case' a => subst x; case' b => clear_value x) | (refine (have hx : Kept s0 x.2.2 := ?a; ?b); case' a => subst x; case' b => clear_value x) | (refine (have hx : ∀ t, Kept s0 t → Kept s0 (x t) := ?a; ?b); case' a => subst x; case' b => clear_value x) | (refine (have hx : ∀ t a, Kept s0 t → Kept s0 (x t a) := ?a; ?b); case' a => subst x; case' b => clear_value x) | (refine (have hx : ∀ a t, Kept s0 t → Kept s0 (x a t) := ?a; ?b); case' a => subst x; case' b => clear_value x) | subst x)
    | (intro; intro; intro)

end Sys2Proof.Machine
end

