-- ==== Sys2Proof/Laws/KeptFabric.lean ====
section
/-! SUPPORT. Fabric: no operation disturbs the queue or the canonical form. -/

set_option linter.unusedSimpArgs false
set_option linter.unusedVariables false

namespace Sys2Proof.Machine

open Sys2Proof

theorem State.report_kept {s0 : State} {s : State} {code : Nat} {arg : Nat} (hk : Kept s0 s) : Kept s0 (State.report s code arg) := by
  unfold State.report
  repeat' first
    | with_reducible assumption
    | with_reducible refine State.fastUp_kept ?_

theorem State.pushAccept_kept {s0 : State} {s : State} {body : Nat} {p : Nat} (hk : Kept s0 s) : Kept s0 (State.pushAccept s body p) := by
  unfold State.pushAccept
  repeat' first
    | with_reducible assumption
    | with_reducible refine State.report_kept ?_
    | with_reducible refine State.setPortQ_kept ?_
    | with_reducible refine Kept.count ?_ _ _
    | with_reducible refine Kept.flag ?_ _ _ _
    | with_reducible refine Kept.ite ?_ ?_
    | split
    | ((try lift_lets); intro x; first | (refine (have hx : Kept s0 x := ?a; ?b); case' a => subst x; case' b => clear_value x) | (refine (have hx : Kept s0 x.2 := ?a; ?b); case' a => subst x; case' b => clear_value x) | (refine (have hx : Kept s0 x.1 := ?a; ?b); case' a => subst x; case' b => clear_value x) | (refine (have hx : Kept s0 x.2.2 := ?a; ?b); case' a => subst x; case' b => clear_value x) | (refine (have hx : ∀ t, Kept s0 t → Kept s0 (x t) := ?a; ?b); case' a => subst x; case' b => clear_value x) | (refine (have hx : ∀ t a, Kept s0 t → Kept s0 (x t a) := ?a; ?b); case' a => subst x; case' b => clear_value x) | (refine (have hx : ∀ a t, Kept s0 t → Kept s0 (x a t) := ?a; ?b); case' a => subst x; case' b => clear_value x) | subst x)
    | simp only [Kept.mkSame, Kept.mkPlate, Kept.mkStore, Kept.mkMg]
    | (intro; intro; intro)

theorem State.fbBad_kept {s0 : State} {s : State} (hk : Kept s0 s) : Kept s0 (State.fbBad s) := by
  unfold State.fbBad
  repeat' first
    | with_reducible assumption
    | with_reducible refine Kept.count ?_ _ _

theorem State.timeErr_kept {s0 : State} {s : State} (hk : Kept s0 s) : Kept s0 (State.timeErr s) := by
  unfold State.timeErr
  repeat' first
    | with_reducible assumption
    | with_reducible refine Kept.count ?_ _ _
    | with_reducible refine Kept.flag ?_ _ _ _

theorem State.response_kept {s0 : State} {s : State} {m : CtMsg} {status : Nat} {data : Nat} (hk : Kept s0 s) : Kept s0 (State.response s m status data) := by
  unfold State.response
  repeat' first
    | with_reducible assumption
    | with_reducible refine State.msgUp_kept ?_

theorem State.routeMiss_kept {s0 : State} {s : State} (hk : Kept s0 s) : Kept s0 (State.routeMiss s) := by
  unfold State.routeMiss
  repeat' first
    | with_reducible assumption
    | with_reducible refine Kept.count ?_ _ _
    | with_reducible refine Kept.flag ?_ _ _ _

theorem State.routeTo_kept {s0 : State} {s : State} {d : Nat} (hk : Kept s0 s) : Kept s0 (State.routeTo s d).2 := by
  unfold State.routeTo
  dsimp only
  repeat' split
  all_goals first
    | with_reducible assumption
    | exact State.routeMiss_kept hk
    | exact State.routeMiss_kept (hk.set _ _)
theorem State.routeTo_keptE {s0 : State} {s : State} {d : Nat} {x0} {t : State} (e : State.routeTo s d = (x0, t)) (hk : Kept s0 s) : Kept s0 t := by
  have k := State.routeTo_kept (s := s) (d := d) hk
  rw [e] at k; exact k

theorem State.request_kept {s0 : State} {s : State} {m : CtMsg} {op : Nat} {run : State → State}
    (hr : ∀ t, Kept s0 t → Kept s0 (run t)) (hk : Kept s0 s) : Kept s0 (State.request s m op run) := by
  unfold State.request
  refine Kept.ite (State.fbBad_kept hk) (Kept.ite hk (Kept.ite (hr _ hk) (Kept.ite (State.response_kept hk) ?_)))
  split
  · exact State.pushMsg_kept (State.routeTo_keptE (by assumption) hk)
  · exact State.response_kept (State.routeTo_keptE (by assumption) hk)

theorem State.relay_kept {s0 : State} {s : State} {m : CtMsg} {op : Nat} (hk : Kept s0 s) : Kept s0 (State.relay s m op) := by
  unfold State.relay
  repeat' first
    | with_reducible assumption
    | with_reducible refine State.fbBad_kept ?_
    | with_reducible refine State.msgUp_kept ?_
    | with_reducible refine Kept.ite ?_ ?_

theorem readResponse_kept {s0 : State} {m : CtMsg} {s : State} (hk : Kept s0 s) : Kept s0 (readResponse m s) := by
  unfold readResponse
  repeat' first
    | with_reducible assumption
    | with_reducible refine State.relay_kept ?_

theorem writeResponse_kept {s0 : State} {m : CtMsg} {s : State} (hk : Kept s0 s) : Kept s0 (writeResponse m s) := by
  unfold writeResponse
  repeat' first
    | with_reducible assumption
    | with_reducible refine State.relay_kept ?_

theorem State.answerProbe_kept {s0 : State} {s : State} {n : Nat} {tag : Nat} (hk : Kept s0 s) : Kept s0 (State.answerProbe s n tag) := by
  unfold State.answerProbe
  repeat' first
    | with_reducible assumption
    | with_reducible refine State.setLane_kept ?_

theorem probe_kept {s0 : State} {n : Nat} {m : CtMsg} {s : State} (hk : Kept s0 s) : Kept s0 (probe n m s) := by
  unfold probe
  repeat' first
    | with_reducible assumption
    | with_reducible refine State.answerProbe_kept ?_
    | with_reducible refine State.fbBad_kept ?_
    | with_reducible refine Kept.ite ?_ ?_

theorem assign_kept {s0 : State} {n : Nat} {m : CtMsg} {s : State} (hk : Kept s0 s) : Kept s0 (assign n m s) := by
  unfold assign
  repeat' first
    | with_reducible assumption
    | with_reducible refine State.answerProbe_kept ?_
    | with_reducible refine State.critNext_kept ?_
    | with_reducible refine State.fbBad_kept ?_
    | with_reducible refine Kept.set ?_ _ _
    | with_reducible refine Kept.raise ?_ _ _
    | with_reducible refine Kept.ite ?_ ?_
    | split
    | ((try lift_lets); intro x; first | (refine (have hx : Kept s0 x := ?a; ?b); case' a => subst x; case' b => clear_value x) | (refine (have hx : Kept s0 x.2 := ?a; ?b); case' a => subst x; case' b => clear_value x) | (refine (have hx : Kept s0 x.1 := ?a; ?b); case' a => subst x; case' b => clear_value x) | (refine (have hx : Kept s0 x.2.2 := ?a; ?b); case' a => subst x; case' b => clear_value x) | (refine (have hx : ∀ t, Kept s0 t → Kept s0 (x t) := ?a; ?b); case' a => subst x; case' b => clear_value x) | (refine (have hx : ∀ t a, Kept s0 t → Kept s0 (x t a) := ?a; ?b); case' a => subst x; case' b => clear_value x) | (refine (have hx : ∀ a t, Kept s0 t → Kept s0 (x a t) := ?a; ?b); case' a => subst x; case' b => clear_value x) | subst x)
    | simp only [Kept.mkSame, Kept.mkPlate, Kept.mkStore, Kept.mkMg]
    | (intro; intro; intro)

theorem State.fbRefuse_kept {s0 : State} {s : State} (hk : Kept s0 s) : Kept s0 (State.fbRefuse s) := by
  unfold State.fbRefuse
  repeat' first
    | with_reducible assumption
    | with_reducible refine Kept.flag ?_ _ _ _

theorem State.discGo_kept {s0 : State} {s : State} {port : Nat} {op : Nat} {msg : List Nat} (hk : Kept s0 s) : Kept s0 (State.discGo s port op msg) := by
  unfold State.discGo
  repeat' first
    | with_reducible assumption
    | with_reducible refine State.fbRefuse_kept ?_
    | with_reducible refine State.pushMsg_kept ?_
    | with_reducible refine Kept.set ?_ _ _
    | with_reducible refine Kept.iff (fun _ _ => ?_) ?_
    | with_reducible refine Kept.ite ?_ ?_
    | split
    | ((try lift_lets); intro x; first | (refine (have hx : Kept s0 x := ?a; ?b); case' a => subst x; case' b => clear_value x) | (refine (have hx : Kept s0 x.2 := ?a; ?b); case' a => subst x; case' b => clear_value x) | (refine (have hx : Kept s0 x.1 := ?a; ?b); case' a => subst x; case' b => clear_value x) | (refine (have hx : Kept s0 x.2.2 := ?a; ?b); case' a => subst x; case' b => clear_value x) | (refine (have hx : ∀ t, Kept s0 t → Kept s0 (x t) := ?a; ?b); case' a => subst x; case' b => clear_value x) | (refine (have hx : ∀ t a, Kept s0 t → Kept s0 (x t a) := ?a; ?b); case' a => subst x; case' b => clear_value x) | (refine (have hx : ∀ a t, Kept s0 t → Kept s0 (x a t) := ?a; ?b); case' a => subst x; case' b => clear_value x) | subst x)
    | (intro; intro; intro)

theorem discProbe_kept {s0 : State} {port : Nat} {s : State} (hk : Kept s0 s) : Kept s0 (discProbe port s) := by
  unfold discProbe
  repeat' first
    | with_reducible assumption
    | with_reducible refine State.discGo_kept ?_

theorem discAssign_kept {s0 : State} {port : Nat} {s : State} (hk : Kept s0 s) : Kept s0 (discAssign port s) := by
  unfold discAssign
  repeat' first
    | with_reducible assumption
    | with_reducible refine State.discGo_kept ?_

theorem probeAnswer_kept {s0 : State} {port : Nat} {m : CtMsg} {s : State} (hk : Kept s0 s) : Kept s0 (probeAnswer port m s) := by
  unfold probeAnswer
  repeat' first
    | with_reducible assumption
    | with_reducible refine State.fbBad_kept ?_
    | with_reducible refine Kept.set ?_ _ _
    | with_reducible refine Kept.raise ?_ _ _
    | with_reducible refine Kept.ite ?_ ?_

theorem discTimeout_kept {s0 : State} {s : State} (hk : Kept s0 s) : Kept s0 (discTimeout s) := by
  unfold discTimeout
  repeat' first
    | with_reducible assumption
    | with_reducible refine Kept.set ?_ _ _
    | with_reducible refine Kept.raise ?_ _ _
    | with_reducible refine Kept.ite ?_ ?_

theorem State.fastCmd_kept {s0 : State} {s : State} {i : FastIn} {code : Nat} {act : State → State}
    (ha : ∀ t, Kept s0 t → Kept s0 (act t)) (hk : Kept s0 s) : Kept s0 (State.fastCmd s i code act) := by
  unfold State.fastCmd
  dsimp only
  refine Kept.ite (State.fbBad_kept hk) (Kept.ite hk (Kept.ite
    (Kept.ite (Kept.foldl (fun _ _ h => State.pushFast_kept h) (ha _ hk)) hk) (Kept.ite (ha _ hk) ?_)))
  split
  · exact State.pushFast_kept (State.routeTo_keptE (by assumption) hk)
  · exact State.routeTo_keptE (by assumption) hk

theorem fcMtLoad_kept {s0 : State} {w : FastIn} {s : State} (hk : Kept s0 s) : Kept s0 (fcMtLoad w s) := by
  unfold fcMtLoad
  repeat' first
    | with_reducible assumption
    | with_reducible refine State.fastCmd_kept (fun _ _ => ?_) ?_
    | with_reducible refine mtLoad_kept ?_
    | with_reducible refine Kept.set ?_ _ _
    | split
    | (intro; intro; intro)

theorem forceFreeze_kept {s0 : State} {w : FastIn} {s : State} (hk : Kept s0 s) : Kept s0 (forceFreeze w s) := by
  unfold forceFreeze
  repeat' first
    | with_reducible assumption
    | with_reducible refine State.fastCmd_kept (fun _ _ => ?_) ?_
    | with_reducible refine freezeForce_kept ?_
    | split
    | (intro; intro; intro)

theorem histogramSwap_kept {s0 : State} {w : FastIn} {s : State} (hk : Kept s0 s) : Kept s0 (histogramSwap w s) := by
  unfold histogramSwap
  repeat' first
    | with_reducible assumption
    | with_reducible refine State.fastCmd_kept (fun _ _ => ?_) ?_
    | with_reducible refine histSwapWrite_kept ?_
    | split
    | (intro; intro; intro)

theorem State.forwardReport_kept {s0 : State} {s : State} {w : Nat} {code : Nat} (hk : Kept s0 s) : Kept s0 (State.forwardReport s w code) := by
  unfold State.forwardReport
  repeat' first
    | with_reducible assumption
    | with_reducible refine State.fastUp_kept ?_
    | with_reducible refine State.fbBad_kept ?_
    | with_reducible refine Kept.ite ?_ ?_

theorem frameGap_kept {s0 : State} {w : Nat} {s : State} (hk : Kept s0 s) : Kept s0 (frameGap w s) := by
  unfold frameGap
  repeat' first
    | with_reducible assumption
    | with_reducible refine State.forwardReport_kept ?_

theorem acceptLost_kept {s0 : State} {w : Nat} {s : State} (hk : Kept s0 s) : Kept s0 (acceptLost w s) := by
  unfold acceptLost
  repeat' first
    | with_reducible assumption
    | with_reducible refine State.forwardReport_kept ?_

theorem State.fillTc_kept {s0 : State} {s : State} {n : Nat} {carries : Bool} {lowest : Bool} (hk : Kept s0 s) : Kept s0 (State.fillTc s n carries lowest) := by
  unfold State.fillTc
  repeat' first
    | with_reducible assumption
    | with_reducible refine State.setLane_kept ?_
    | with_reducible refine State.setPortQ_kept ?_
    | with_reducible refine Kept.ite ?_ ?_
    | split
    | ((try lift_lets); intro x; first | (refine (have hx : Kept s0 x := ?a; ?b); case' a => subst x; case' b => clear_value x) | (refine (have hx : Kept s0 x.2 := ?a; ?b); case' a => subst x; case' b => clear_value x) | (refine (have hx : Kept s0 x.1 := ?a; ?b); case' a => subst x; case' b => clear_value x) | (refine (have hx : Kept s0 x.2.2 := ?a; ?b); case' a => subst x; case' b => clear_value x) | (refine (have hx : ∀ t, Kept s0 t → Kept s0 (x t) := ?a; ?b); case' a => subst x; case' b => clear_value x) | (refine (have hx : ∀ t a, Kept s0 t → Kept s0 (x t a) := ?a; ?b); case' a => subst x; case' b => clear_value x) | (refine (have hx : ∀ a t, Kept s0 t → Kept s0 (x a t) := ?a; ?b); case' a => subst x; case' b => clear_value x) | subst x)
    | simp only [Kept.mkSame, Kept.mkPlate, Kept.mkStore, Kept.mkMg]
    | (intro; intro; intro)

theorem State.sendTc_kept {s0 : State} {s : State} {n : Nat} (hk : Kept s0 s) : Kept s0 (State.sendTc s n) := by
  unfold State.sendTc
  repeat' first
    | with_reducible assumption
    | with_reducible refine State.fillTc_kept ?_
    | with_reducible refine State.setLane_kept ?_
    | with_reducible refine Kept.each (fun _ _ _ => ?_) ?_
    | with_reducible refine Kept.ite ?_ ?_
    | split
    | ((try lift_lets); intro x; first | (refine (have hx : Kept s0 x := ?a; ?b); case' a => subst x; case' b => clear_value x) | (refine (have hx : Kept s0 x.2 := ?a; ?b); case' a => subst x; case' b => clear_value x) | (refine (have hx : Kept s0 x.1 := ?a; ?b); case' a => subst x; case' b => clear_value x) | (refine (have hx : Kept s0 x.2.2 := ?a; ?b); case' a => subst x; case' b => clear_value x) | (refine (have hx : ∀ t, Kept s0 t → Kept s0 (x t) := ?a; ?b); case' a => subst x; case' b => clear_value x) | (refine (have hx : ∀ t a, Kept s0 t → Kept s0 (x t a) := ?a; ?b); case' a => subst x; case' b => clear_value x) | (refine (have hx : ∀ a t, Kept s0 t → Kept s0 (x a t) := ?a; ?b); case' a => subst x; case' b => clear_value x) | subst x)
    | simp only [Kept.mkSame, Kept.mkPlate, Kept.mkStore, Kept.mkMg]
    | (intro; intro; intro)

theorem State.sendTp_kept {s0 : State} {s : State} {n : Nat} (hk : Kept s0 s) : Kept s0 (State.sendTp s n) := by
  unfold State.sendTp
  repeat' first
    | with_reducible assumption
    | with_reducible refine State.setLane_kept ?_
    | with_reducible refine Kept.count ?_ _ _
    | with_reducible refine Kept.each (fun _ _ _ => ?_) ?_
    | with_reducible refine Kept.foldl (fun _ _ _ => ?_) ?_
    | with_reducible refine Kept.foldlSnd (fun _ _ _ => ?_) ?_
    | with_reducible refine Kept.foldlSnd2 (fun _ _ _ => ?_) ?_
    | with_reducible refine Kept.ite ?_ ?_
    | split
    | ((try lift_lets); intro x; first | (refine (have hx : Kept s0 x := ?a; ?b); case' a => subst x; case' b => clear_value x) | (refine (have hx : Kept s0 x.2 := ?a; ?b); case' a => subst x; case' b => clear_value x) | (refine (have hx : Kept s0 x.1 := ?a; ?b); case' a => subst x; case' b => clear_value x) | (refine (have hx : Kept s0 x.2.2 := ?a; ?b); case' a => subst x; case' b => clear_value x) | (refine (have hx : ∀ t, Kept s0 t → Kept s0 (x t) := ?a; ?b); case' a => subst x; case' b => clear_value x) | (refine (have hx : ∀ t a, Kept s0 t → Kept s0 (x t a) := ?a; ?b); case' a => subst x; case' b => clear_value x) | (refine (have hx : ∀ a t, Kept s0 t → Kept s0 (x a t) := ?a; ?b); case' a => subst x; case' b => clear_value x) | subst x)
    | simp only [Kept.mkSame, Kept.mkPlate, Kept.mkStore, Kept.mkMg]
    | (intro; intro; intro)

theorem State.sendPrbs_kept {s0 : State} {s : State} {n : Nat} (hk : Kept s0 s) : Kept s0 (State.sendPrbs s n) := by
  unfold State.sendPrbs
  repeat' first
    | with_reducible assumption
    | with_reducible refine State.setLane_kept ?_
    | with_reducible refine Kept.ite ?_ ?_
    | split
    | ((try lift_lets); intro x; first | (refine (have hx : Kept s0 x := ?a; ?b); case' a => subst x; case' b => clear_value x) | (refine (have hx : Kept s0 x.2 := ?a; ?b); case' a => subst x; case' b => clear_value x) | (refine (have hx : Kept s0 x.1 := ?a; ?b); case' a => subst x; case' b => clear_value x) | (refine (have hx : Kept s0 x.2.2 := ?a; ?b); case' a => subst x; case' b => clear_value x) | (refine (have hx : ∀ t, Kept s0 t → Kept s0 (x t) := ?a; ?b); case' a => subst x; case' b => clear_value x) | (refine (have hx : ∀ t a, Kept s0 t → Kept s0 (x t a) := ?a; ?b); case' a => subst x; case' b => clear_value x) | (refine (have hx : ∀ a t, Kept s0 t → Kept s0 (x a t) := ?a; ?b); case' a => subst x; case' b => clear_value x) | subst x)
    | simp only [Kept.mkSame, Kept.mkPlate, Kept.mkStore, Kept.mkMg]
    | (intro; intro; intro)

theorem frameTransmit_kept {s0 : State} {n : Nat} {s : State} (hk : Kept s0 s) : Kept s0 (frameTransmit n s) := by
  unfold frameTransmit
  repeat' first
    | with_reducible assumption
    | with_reducible refine State.sendPrbs_kept ?_
    | with_reducible refine State.sendTc_kept ?_
    | with_reducible refine State.sendTp_kept ?_
    | with_reducible refine State.setLane_kept ?_
    | with_reducible refine Kept.ite ?_ ?_
    | split
    | simp only [Kept.mkSame, Kept.mkPlate, Kept.mkStore, Kept.mkMg]
    | (intro; intro; intro)

theorem State.rejoinStep_kept {s0 : State} {s : State} {n : Nat} {rev : Bool} (hk : Kept s0 s) : Kept s0 (State.rejoinStep s n rev) := by
  unfold State.rejoinStep
  repeat' first
    | with_reducible assumption
    | with_reducible refine State.setLane_kept ?_
    | with_reducible refine Kept.set ?_ _ _
    | with_reducible refine Kept.ite ?_ ?_
    | split
    | ((try lift_lets); intro x; first | (refine (have hx : Kept s0 x := ?a; ?b); case' a => subst x; case' b => clear_value x) | (refine (have hx : Kept s0 x.2 := ?a; ?b); case' a => subst x; case' b => clear_value x) | (refine (have hx : Kept s0 x.1 := ?a; ?b); case' a => subst x; case' b => clear_value x) | (refine (have hx : Kept s0 x.2.2 := ?a; ?b); case' a => subst x; case' b => clear_value x) | (refine (have hx : ∀ t, Kept s0 t → Kept s0 (x t) := ?a; ?b); case' a => subst x; case' b => clear_value x) | (refine (have hx : ∀ t a, Kept s0 t → Kept s0 (x t a) := ?a; ?b); case' a => subst x; case' b => clear_value x) | (refine (have hx : ∀ a t, Kept s0 t → Kept s0 (x a t) := ?a; ?b); case' a => subst x; case' b => clear_value x) | subst x)
    | simp only [Kept.mkSame, Kept.mkPlate, Kept.mkStore, Kept.mkMg]
    | (intro; intro; intro)

theorem frameReceived_kept {s0 : State} {n : Nat} {f : FrameIn} {s : State} (hk : Kept s0 s) : Kept s0 (frameReceived n f s) := by
  unfold frameReceived
  repeat' first
    | with_reducible assumption
    | with_reducible refine State.loopFrame_kept ?_
    | with_reducible refine State.rejoinStep_kept ?_
    | with_reducible refine State.setLane_kept ?_
    | with_reducible refine Kept.set ?_ _ _
    | with_reducible refine Kept.count ?_ _ _
    | with_reducible refine Kept.flag ?_ _ _ _
    | with_reducible refine Kept.iff (fun _ _ => ?_) ?_
    | with_reducible refine Kept.ite ?_ ?_
    | split
    | ((try lift_lets); intro x; first | (refine (have hx : Kept s0 x := ?a; ?b); case' a => subst x; case' b => clear_value x) | (refine (have hx : Kept s0 x.2 := ?a; ?b); case' a => subst x; case' b => clear_value x) | (refine (have hx : Kept s0 x.1 := ?a; ?b); case' a => subst x; case' b => clear_value x) | (refine (have hx : Kept s0 x.2.2 := ?a; ?b); case' a => subst x; case' b => clear_value x) | (refine (have hx : ∀ t, Kept s0 t → Kept s0 (x t) := ?a; ?b); case' a => subst x; case' b => clear_value x) | (refine (have hx : ∀ t a, Kept s0 t → Kept s0 (x t a) := ?a; ?b); case' a => subst x; case' b => clear_value x) | (refine (have hx : ∀ a t, Kept s0 t → Kept s0 (x a t) := ?a; ?b); case' a => subst x; case' b => clear_value x) | subst x)
    | simp only [Kept.mkSame, Kept.mkPlate, Kept.mkStore, Kept.mkMg]
    | (intro; intro; intro)

theorem State.releaseItem_kept {s0 : State} {s : State} {n : Nat} {e : Nat × Nat} (hk : Kept s0 s) : Kept s0 (State.releaseItem s n e) := by
  unfold State.releaseItem
  repeat' first
    | with_reducible assumption
    | with_reducible refine State.fbBad_kept ?_
    | with_reducible refine State.pushAccept_kept ?_
    | with_reducible refine State.timeErr_kept ?_
    | with_reducible refine Kept.count ?_ _ _
    | with_reducible refine Kept.iff (fun _ _ => ?_) ?_
    | with_reducible refine Kept.foldl (fun _ _ _ => ?_) ?_
    | with_reducible refine Kept.foldlSnd (fun _ _ _ => ?_) ?_
    | with_reducible refine Kept.foldlSnd2 (fun _ _ _ => ?_) ?_
    | with_reducible refine Kept.ite ?_ ?_
    | split
    | ((try lift_lets); intro x; first | (refine (have hx : Kept s0 x := ?a; ?b); case' a => subst x; case' b => clear_value x) | (refine (have hx : Kept s0 x.2 := ?a; ?b); case' a => subst x; case' b => clear_value x) | (refine (have hx : Kept s0 x.1 := ?a; ?b); case' a => subst x; case' b => clear_value x) | (refine (have hx : Kept s0 x.2.2 := ?a; ?b); case' a => subst x; case' b => clear_value x) | (refine (have hx : ∀ t, Kept s0 t → Kept s0 (x t) := ?a; ?b); case' a => subst x; case' b => clear_value x) | (refine (have hx : ∀ t a, Kept s0 t → Kept s0 (x t a) := ?a; ?b); case' a => subst x; case' b => clear_value x) | (refine (have hx : ∀ a t, Kept s0 t → Kept s0 (x a t) := ?a; ?b); case' a => subst x; case' b => clear_value x) | subst x)
    | simp only [Kept.mkSame, Kept.mkPlate, Kept.mkStore, Kept.mkMg]
    | (intro; intro; intro)

theorem State.releaseTp_kept {s0 : State} {s : State} {n : Nat} {f : FrameIn} (hk : Kept s0 s) : Kept s0 (State.releaseTp s n f) := by
  unfold State.releaseTp
  repeat' first
    | with_reducible assumption
    | with_reducible refine State.setLane_kept ?_
    | with_reducible refine Kept.each (fun _ _ _ => ?_) ?_
    | with_reducible refine Kept.ite ?_ ?_
    | split
    | ((try lift_lets); intro x; first | (refine (have hx : Kept s0 x := ?a; ?b); case' a => subst x; case' b => clear_value x) | (refine (have hx : Kept s0 x.2 := ?a; ?b); case' a => subst x; case' b => clear_value x) | (refine (have hx : Kept s0 x.1 := ?a; ?b); case' a => subst x; case' b => clear_value x) | (refine (have hx : Kept s0 x.2.2 := ?a; ?b); case' a => subst x; case' b => clear_value x) | (refine (have hx : ∀ t, Kept s0 t → Kept s0 (x t) := ?a; ?b); case' a => subst x; case' b => clear_value x) | (refine (have hx : ∀ t a, Kept s0 t → Kept s0 (x t a) := ?a; ?b); case' a => subst x; case' b => clear_value x) | (refine (have hx : ∀ a t, Kept s0 t → Kept s0 (x a t) := ?a; ?b); case' a => subst x; case' b => clear_value x) | subst x)
    | simp only [Kept.mkSame, Kept.mkPlate, Kept.mkStore, Kept.mkMg]
    | (intro; intro; intro)

theorem State.gapEnd_kept {s0 : State} {s : State} {n : Nat} (hk : Kept s0 s) : Kept s0 (State.gapEnd s n) := by
  unfold State.gapEnd
  repeat' first
    | with_reducible assumption
    | with_reducible refine State.report_kept ?_
    | with_reducible refine Kept.flag ?_ _ _ _
    | split
    | simp only [Kept.mkSame]

theorem frameRelease_kept {s0 : State} {n : Nat} {margin : Nat} {s : State} (hk : Kept s0 s) : Kept s0 (frameRelease n margin s) := by
  unfold frameRelease
  repeat' first
    | with_reducible assumption
    | with_reducible refine State.gapEnd_kept ?_
    | with_reducible refine State.releaseItem_kept ?_
    | with_reducible refine State.releaseTp_kept ?_
    | with_reducible refine State.setLane_kept ?_
    | with_reducible refine State.setPortQ_kept ?_
    | with_reducible refine State.slipStep_kept ?_
    | with_reducible refine Kept.set ?_ _ _
    | with_reducible refine Kept.setB ?_ _ _
    | with_reducible refine Kept.count ?_ _ _
    | with_reducible refine Kept.each (fun _ _ _ => ?_) ?_
    | with_reducible refine Kept.ite ?_ ?_
    | split
    | ((try lift_lets); intro x; first | (refine (have hx : Kept s0 x := ?a; ?b); case' a => subst x; case' b => clear_value x) | (refine (have hx : Kept s0 x.2 := ?a; ?b); case' a => subst x; case' b => clear_value x) | (refine (have hx : Kept s0 x.1 := ?a; ?b); case' a => subst x; case' b => clear_value x) | (refine (have hx : Kept s0 x.2.2 := ?a; ?b); case' a => subst x; case' b => clear_value x) | (refine (have hx : ∀ t, Kept s0 t → Kept s0 (x t) := ?a; ?b); case' a => subst x; case' b => clear_value x) | (refine (have hx : ∀ t a, Kept s0 t → Kept s0 (x t a) := ?a; ?b); case' a => subst x; case' b => clear_value x) | (refine (have hx : ∀ a t, Kept s0 t → Kept s0 (x a t) := ?a; ?b); case' a => subst x; case' b => clear_value x) | subst x)
    | simp only [Kept.mkSame, Kept.mkPlate, Kept.mkStore, Kept.mkMg]
    | (intro; intro; intro)

theorem sourceFrameGap_kept {s0 : State} {s : State} (hk : Kept s0 s) : Kept s0 (sourceFrameGap s) := by
  unfold sourceFrameGap
  repeat' first
    | with_reducible assumption
    | with_reducible refine Kept.count ?_ _ _
    | with_reducible refine Kept.ite ?_ ?_
    | simp only [Kept.mkSame]

theorem State.timeMove_kept {s0 : State} {s : State} (hk : Kept s0 s) : Kept s0 (State.timeMove s) := by
  unfold State.timeMove
  repeat' first
    | with_reducible assumption
    | with_reducible refine State.setSrcLane_kept ?_
    | split

theorem State.tcLost_kept {s0 : State} {s : State} {p : Nat} (hk : Kept s0 s) : Kept s0 (State.tcLost s p) := by
  unfold State.tcLost
  repeat' first
    | with_reducible assumption
    | with_reducible refine State.linkClear_kept ?_
    | with_reducible refine State.moveItems_kept ?_
    | with_reducible refine State.rerouted_kept ?_
    | with_reducible refine State.timeMove_kept ?_
    | with_reducible refine sourceLost_kept ?_
    | with_reducible refine Kept.set ?_ _ _
    | with_reducible refine Kept.flag ?_ _ _ _
    | with_reducible refine Kept.iff (fun _ _ => ?_) ?_
    | with_reducible refine Kept.each (fun _ _ _ => ?_) ?_
    | with_reducible refine Kept.ite ?_ ?_
    | split
    | ((try lift_lets); intro x; first | (refine (have hx : Kept s0 x := ?a; ?b); case' a => subst x; case' b => clear_value x) | (refine (have hx : Kept s0 x.2 := ?a; ?b); case' a => subst x; case' b => clear_value x) | (refine (have hx : Kept s0 x.1 := ?a; ?b); case' a => subst x; case' b => clear_value x) | (refine (have hx : Kept s0 x.2.2 := ?a; ?b); case' a => subst x; case' b => clear_value x) | (refine (have hx : ∀ t, Kept s0 t → Kept s0 (x t) := ?a; ?b); case' a => subst x; case' b => clear_value x) | (refine (have hx : ∀ t a, Kept s0 t → Kept s0 (x t a) := ?a; ?b); case' a => subst x; case' b => clear_value x) | (refine (have hx : ∀ a t, Kept s0 t → Kept s0 (x a t) := ?a; ?b); case' a => subst x; case' b => clear_value x) | subst x)
    | simp only [Kept.mkSame, Kept.mkPlate, Kept.mkStore, Kept.mkMg]
    | (intro; intro; intro)

theorem State.moveFrags_kept {s0 : State} {s : State} {p : Nat} {q : Nat} (hk : Kept s0 s) : Kept s0 (State.moveFrags s p q) := by
  unfold State.moveFrags
  repeat' first
    | with_reducible assumption
    | with_reducible refine State.setPath_kept ?_
    | split
    | ((try lift_lets); intro x; first | (refine (have hx : Kept s0 x := ?a; ?b); case' a => subst x; case' b => clear_value x) | (refine (have hx : Kept s0 x.2 := ?a; ?b); case' a => subst x; case' b => clear_value x) | (refine (have hx : Kept s0 x.1 := ?a; ?b); case' a => subst x; case' b => clear_value x) | (refine (have hx : Kept s0 x.2.2 := ?a; ?b); case' a => subst x; case' b => clear_value x) | (refine (have hx : ∀ t, Kept s0 t → Kept s0 (x t) := ?a; ?b); case' a => subst x; case' b => clear_value x) | (refine (have hx : ∀ t a, Kept s0 t → Kept s0 (x t a) := ?a; ?b); case' a => subst x; case' b => clear_value x) | (refine (have hx : ∀ a t, Kept s0 t → Kept s0 (x a t) := ?a; ?b); case' a => subst x; case' b => clear_value x) | subst x)
    | simp only [Kept.mkSame, Kept.mkPlate, Kept.mkStore, Kept.mkMg]
    | (intro; intro; intro)

theorem State.dataLost_kept {s0 : State} {s : State} {p : Nat} (hk : Kept s0 s) : Kept s0 (State.dataLost s p) := by
  unfold State.dataLost
  repeat' first
    | with_reducible assumption
    | with_reducible refine State.busyEval_kept ?_
    | with_reducible refine State.pathLost_kept ?_
    | with_reducible refine State.rerouted_kept ?_
    | with_reducible refine Kept.set ?_ _ _
    | with_reducible refine Kept.flag ?_ _ _ _
    | with_reducible refine Kept.ite ?_ ?_
    | split
    | ((try lift_lets); intro x; first | (refine (have hx : Kept s0 x := ?a; ?b); case' a => subst x; case' b => clear_value x) | (refine (have hx : Kept s0 x.2 := ?a; ?b); case' a => subst x; case' b => clear_value x) | (refine (have hx : Kept s0 x.1 := ?a; ?b); case' a => subst x; case' b => clear_value x) | (refine (have hx : Kept s0 x.2.2 := ?a; ?b); case' a => subst x; case' b => clear_value x) | (refine (have hx : ∀ t, Kept s0 t → Kept s0 (x t) := ?a; ?b); case' a => subst x; case' b => clear_value x) | (refine (have hx : ∀ t a, Kept s0 t → Kept s0 (x t a) := ?a; ?b); case' a => subst x; case' b => clear_value x) | (refine (have hx : ∀ a t, Kept s0 t → Kept s0 (x a t) := ?a; ?b); case' a => subst x; case' b => clear_value x) | subst x)
    | simp only [Kept.mkSame, Kept.mkPlate, Kept.mkStore, Kept.mkMg]
    | (intro; intro; intro)

theorem State.dataGain_kept {s0 : State} {s : State} {p : Nat} (hk : Kept s0 s) : Kept s0 (State.dataGain s p) := by
  unfold State.dataGain
  repeat' first
    | with_reducible assumption
    | with_reducible refine State.dataReturn_kept ?_
    | with_reducible refine State.moveFrags_kept ?_
    | with_reducible refine State.pathStart_kept ?_
    | with_reducible refine State.rerouted_kept ?_
    | with_reducible refine Kept.set ?_ _ _
    | with_reducible refine Kept.iff (fun _ _ => ?_) ?_
    | with_reducible refine Kept.ite ?_ ?_
    | split
    | ((try lift_lets); intro x; first | (refine (have hx : Kept s0 x := ?a; ?b); case' a => subst x; case' b => clear_value x) | (refine (have hx : Kept s0 x.2 := ?a; ?b); case' a => subst x; case' b => clear_value x) | (refine (have hx : Kept s0 x.1 := ?a; ?b); case' a => subst x; case' b => clear_value x) | (refine (have hx : Kept s0 x.2.2 := ?a; ?b); case' a => subst x; case' b => clear_value x) | (refine (have hx : ∀ t, Kept s0 t → Kept s0 (x t) := ?a; ?b); case' a => subst x; case' b => clear_value x) | (refine (have hx : ∀ t a, Kept s0 t → Kept s0 (x t a) := ?a; ?b); case' a => subst x; case' b => clear_value x) | (refine (have hx : ∀ a t, Kept s0 t → Kept s0 (x a t) := ?a; ?b); case' a => subst x; case' b => clear_value x) | subst x)
    | simp only [Kept.mkSame, Kept.mkPlate, Kept.mkStore, Kept.mkMg]
    | (intro; intro; intro)

theorem portLost_kept {s0 : State} {p : Nat} {data : Bool} {s : State} (hk : Kept s0 s) : Kept s0 (portLost p data s) := by
  unfold portLost
  repeat' first
    | with_reducible assumption
    | with_reducible refine State.dataLost_kept ?_
    | with_reducible refine State.tcLost_kept ?_
    | with_reducible refine Kept.ite ?_ ?_

theorem portRegained_kept {s0 : State} {p : Nat} {data : Bool} {s : State} (hk : Kept s0 s) : Kept s0 (portRegained p data s) := by
  unfold portRegained
  repeat' first
    | with_reducible assumption
    | with_reducible refine State.busyEval_kept ?_
    | with_reducible refine State.dataGain_kept ?_
    | with_reducible refine State.tcUp_kept ?_
    | with_reducible refine Kept.ite ?_ ?_
    | split
    | (intro; intro; intro)

theorem timeFollow_kept {s0 : State} {s : State} (hk : Kept s0 s) : Kept s0 (timeFollow s) := by
  unfold timeFollow
  repeat' first
    | with_reducible assumption
    | with_reducible refine State.timeMove_kept ?_
    | with_reducible refine State.trackLost_kept ?_
    | with_reducible refine Kept.ite ?_ ?_

theorem State.pushSolam_kept {s0 : State} {s : State} {p : Nat} {from_ : Nat} {x : Solam} (hk : Kept s0 s) : Kept s0 (State.pushSolam s p from_ x) := by
  unfold State.pushSolam
  repeat' first
    | with_reducible assumption
    | with_reducible refine State.setPortQ_kept ?_
    | split
    | simp only [Kept.mkSame, Kept.mkPlate, Kept.mkStore, Kept.mkMg]
    | (intro; intro; intro)

theorem pdelayTimer_kept {s0 : State} {s : State} (hk : Kept s0 s) : Kept s0 (pdelayTimer s) := by
  unfold pdelayTimer
  repeat' first
    | with_reducible assumption
    | with_reducible refine State.setPortQ_kept ?_
    | with_reducible refine Kept.each (fun _ _ _ => ?_) ?_
    | split
    | ((try lift_lets); intro x; first | (refine (have hx : Kept s0 x := ?a; ?b); case' a => subst x; case' b => clear_value x) | (refine (have hx : Kept s0 x.2 := ?a; ?b); case' a => subst x; case' b => clear_value x) | (refine (have hx : Kept s0 x.1 := ?a; ?b); case' a => subst x; case' b => clear_value x) | (refine (have hx : Kept s0 x.2.2 := ?a; ?b); case' a => subst x; case' b => clear_value x) | (refine (have hx : ∀ t, Kept s0 t → Kept s0 (x t) := ?a; ?b); case' a => subst x; case' b => clear_value x) | (refine (have hx : ∀ t a, Kept s0 t → Kept s0 (x t a) := ?a; ?b); case' a => subst x; case' b => clear_value x) | (refine (have hx : ∀ a t, Kept s0 t → Kept s0 (x a t) := ?a; ?b); case' a => subst x; case' b => clear_value x) | subst x)
    | simp only [Kept.mkSame, Kept.mkPlate, Kept.mkStore, Kept.mkMg]
    | (intro; intro; intro)

theorem pdelayReq_kept {s0 : State} {p : Nat} {seq : Nat} {ta : Nat} {s : State} (hk : Kept s0 s) : Kept s0 (pdelayReq p seq ta s) := by
  unfold pdelayReq
  repeat' first
    | with_reducible assumption
    | with_reducible refine State.pushSolam_kept ?_
    | with_reducible refine Kept.ite ?_ ?_
    | split
    | (intro; intro; intro)

theorem pdelayResp_kept {s0 : State} {p : Nat} {seq : Nat} {turnaround : Nat} {rtt : Int} {s : State} (hk : Kept s0 s) : Kept s0 (pdelayResp p seq turnaround rtt s) := by
  unfold pdelayResp
  repeat' first
    | with_reducible assumption
    | with_reducible refine State.setPortQ_kept ?_
    | with_reducible refine State.timeErr_kept ?_
    | with_reducible refine Kept.set ?_ _ _
    | with_reducible refine Kept.foldl (fun _ _ _ => ?_) ?_
    | with_reducible refine Kept.foldlSnd (fun _ _ _ => ?_) ?_
    | with_reducible refine Kept.foldlSnd2 (fun _ _ _ => ?_) ?_
    | with_reducible refine Kept.ite ?_ ?_
    | split
    | ((try lift_lets); intro x; first | (refine (have hx : Kept s0 x := ?a; ?b); case' a => subst x; case' b => clear_value x) | (refine (have hx : Kept s0 x.2 := ?a; ?b); case' a => subst x; case' b => clear_value x) | (refine (have hx : Kept s0 x.1 := ?a; ?b); case' a => subst x; case' b => clear_value x) | (refine (have hx : Kept s0 x.2.2 := ?a; ?b); case' a => subst x; case' b => clear_value x) | (refine (have hx : ∀ t, Kept s0 t → Kept s0 (x t) := ?a; ?b); case' a => subst x; case' b => clear_value x) | (refine (have hx : ∀ t a, Kept s0 t → Kept s0 (x t a) := ?a; ?b); case' a => subst x; case' b => clear_value x) | (refine (have hx : ∀ a t, Kept s0 t → Kept s0 (x a t) := ?a; ?b); case' a => subst x; case' b => clear_value x) | subst x)
    | simp only [Kept.mkSame, Kept.mkPlate, Kept.mkStore, Kept.mkMg]
    | (intro; intro; intro)

theorem State.fabricRelease_kept {s0 : State} {s : State} {off : Int} (hk : Kept s0 s) : Kept s0 (State.fabricRelease s off) := by
  unfold State.fabricRelease
  repeat' first
    | with_reducible assumption
    | with_reducible refine State.slewStart_kept ?_
    | with_reducible refine Kept.set ?_ _ _
    | with_reducible refine Kept.flag ?_ _ _ _
    | with_reducible refine Kept.ite ?_ ?_
    | split
    | ((try lift_lets); intro x; first | (refine (have hx : Kept s0 x := ?a; ?b); case' a => subst x; case' b => clear_value x) | (refine (have hx : Kept s0 x.2 := ?a; ?b); case' a => subst x; case' b => clear_value x) | (refine (have hx : Kept s0 x.1 := ?a; ?b); case' a => subst x; case' b => clear_value x) | (refine (have hx : Kept s0 x.2.2 := ?a; ?b); case' a => subst x; case' b => clear_value x) | (refine (have hx : ∀ t, Kept s0 t → Kept s0 (x t) := ?a; ?b); case' a => subst x; case' b => clear_value x) | (refine (have hx : ∀ t a, Kept s0 t → Kept s0 (x t a) := ?a; ?b); case' a => subst x; case' b => clear_value x) | (refine (have hx : ∀ a t, Kept s0 t → Kept s0 (x a t) := ?a; ?b); case' a => subst x; case' b => clear_value x) | subst x)
    | simp only [Kept.mkSame, Kept.mkPlate, Kept.mkStore, Kept.mkMg]
    | (intro; intro; intro)

theorem sync_kept {s0 : State} {w : Nat} {ta : Nat} {s : State} (hk : Kept s0 s) : Kept s0 (sync w ta s) := by
  unfold sync
  repeat' first
    | with_reducible assumption
    | with_reducible refine State.fabricRelease_kept ?_
    | with_reducible refine State.pushSolam_kept ?_
    | with_reducible refine State.timeErr_kept ?_
    | with_reducible refine Kept.set ?_ _ _
    | with_reducible refine Kept.iff (fun _ _ => ?_) ?_
    | with_reducible refine Kept.foldl (fun _ _ _ => ?_) ?_
    | with_reducible refine Kept.foldlSnd (fun _ _ _ => ?_) ?_
    | with_reducible refine Kept.foldlSnd2 (fun _ _ _ => ?_) ?_
    | with_reducible refine Kept.ite ?_ ?_
    | split
    | ((try lift_lets); intro x; first | (refine (have hx : Kept s0 x := ?a; ?b); case' a => subst x; case' b => clear_value x) | (refine (have hx : Kept s0 x.2 := ?a; ?b); case' a => subst x; case' b => clear_value x) | (refine (have hx : Kept s0 x.1 := ?a; ?b); case' a => subst x; case' b => clear_value x) | (refine (have hx : Kept s0 x.2.2 := ?a; ?b); case' a => subst x; case' b => clear_value x) | (refine (have hx : ∀ t, Kept s0 t → Kept s0 (x t) := ?a; ?b); case' a => subst x; case' b => clear_value x) | (refine (have hx : ∀ t a, Kept s0 t → Kept s0 (x t a) := ?a; ?b); case' a => subst x; case' b => clear_value x) | (refine (have hx : ∀ a t, Kept s0 t → Kept s0 (x a t) := ?a; ?b); case' a => subst x; case' b => clear_value x) | subst x)
    | simp only [Kept.mkSame, Kept.mkPlate, Kept.mkStore, Kept.mkMg]
    | (intro; intro; intro)

theorem State.orderHold_kept {s0 : State} {s : State} (hk : Kept s0 s) : Kept s0 (State.orderHold s) := by
  unfold State.orderHold
  repeat' first
    | with_reducible assumption
    | with_reducible refine State.trackLost_kept ?_
    | with_reducible refine Kept.ite ?_ ?_

theorem State.newMaster_kept {s0 : State} {s : State} {prio : Nat} {master : Nat} {state : Nat} (hk : Kept s0 s) : Kept s0 (State.newMaster s prio master state) := by
  unfold State.newMaster
  repeat' first
    | with_reducible assumption
    | with_reducible refine Kept.set ?_ _ _
    | with_reducible refine Kept.raise ?_ _ _
    | simp only [Kept.mkSame]

theorem State.elect_kept {s0 : State} {s : State} {prio : Nat} {master : Nat} (hk : Kept s0 s) : Kept s0 (State.elect s prio master) := by
  unfold State.elect
  repeat' first
    | with_reducible assumption
    | with_reducible refine State.newMaster_kept ?_
    | with_reducible refine State.orderHold_kept ?_
    | split
    | simp only [Kept.mkSame]

theorem announce_kept {s0 : State} {w : Nat} {s : State} (hk : Kept s0 s) : Kept s0 (announce w s) := by
  unfold announce
  repeat' first
    | with_reducible assumption
    | with_reducible refine State.elect_kept ?_
    | with_reducible refine State.pushSolam_kept ?_
    | with_reducible refine State.timeErr_kept ?_
    | with_reducible refine Kept.set ?_ _ _
    | with_reducible refine Kept.iff (fun _ _ => ?_) ?_
    | with_reducible refine Kept.foldl (fun _ _ _ => ?_) ?_
    | with_reducible refine Kept.foldlSnd (fun _ _ _ => ?_) ?_
    | with_reducible refine Kept.foldlSnd2 (fun _ _ _ => ?_) ?_
    | with_reducible refine Kept.ite ?_ ?_
    | split
    | ((try lift_lets); intro x; first | (refine (have hx : Kept s0 x := ?a; ?b); case' a => subst x; case' b => clear_value x) | (refine (have hx : Kept s0 x.2 := ?a; ?b); case' a => subst x; case' b => clear_value x) | (refine (have hx : Kept s0 x.1 := ?a; ?b); case' a => subst x; case' b => clear_value x) | (refine (have hx : Kept s0 x.2.2 := ?a; ?b); case' a => subst x; case' b => clear_value x) | (refine (have hx : ∀ t, Kept s0 t → Kept s0 (x t) := ?a; ?b); case' a => subst x; case' b => clear_value x) | (refine (have hx : ∀ t a, Kept s0 t → Kept s0 (x t a) := ?a; ?b); case' a => subst x; case' b => clear_value x) | (refine (have hx : ∀ a t, Kept s0 t → Kept s0 (x a t) := ?a; ?b); case' a => subst x; case' b => clear_value x) | subst x)
    | simp only [Kept.mkSame, Kept.mkPlate, Kept.mkStore, Kept.mkMg]
    | (intro; intro; intro)

theorem masterLost_kept {s0 : State} {s : State} (hk : Kept s0 s) : Kept s0 (masterLost s) := by
  unfold masterLost
  repeat' first
    | with_reducible assumption
    | with_reducible refine State.orderHold_kept ?_
    | with_reducible refine Kept.set ?_ _ _
    | with_reducible refine Kept.raise ?_ _ _
    | with_reducible refine Kept.ite ?_ ?_
    | simp only [Kept.mkSame]

end Sys2Proof.Machine
end

