-- ==== Sys2Proof/Laws/KeptTile.lean ====
section
/-! SUPPORT. Tile: no operation disturbs the queue or the canonical form. -/

set_option linter.unusedSimpArgs false
set_option linter.unusedVariables false

namespace Sys2Proof.Machine

open Sys2Proof

theorem State.lifeCheck_kept {s0 : State} {s : State} (hk : Kept s0 s) : Kept s0 (State.lifeCheck s) := by
  unfold State.lifeCheck
  repeat' first
    | with_reducible assumption
    | with_reducible refine Kept.set ?_ _ _
    | with_reducible refine Kept.raise ?_ _ _
    | with_reducible refine Kept.ite ?_ ?_

theorem State.exposeHit_kept {s0 : State} {s : State} {w : Nat} (hk : Kept s0 s) : Kept s0 (State.exposeHit s w) := by
  unfold State.exposeHit
  repeat' first
    | with_reducible assumption
    | with_reducible refine State.lifeCheck_kept ?_
    | with_reducible refine Kept.ite ?_ ?_
    | simp only [Kept.mkSame]

theorem State.exposeLeak_kept {s0 : State} {s : State} {i : Nat} {q : Nat} {us : Nat} (hk : Kept s0 s) : Kept s0 (State.exposeLeak s i q us) := by
  unfold State.exposeLeak
  repeat' first
    | with_reducible assumption
    | with_reducible refine State.lifeCheck_kept ?_
    | with_reducible refine Kept.ite ?_ ?_
    | simp only [Kept.mkSame]

theorem State.exposeDose_kept {s0 : State} {s : State} {m : Nat} {q : Nat} (hk : Kept s0 s) : Kept s0 (State.exposeDose s m q) := by
  unfold State.exposeDose
  repeat' first
    | with_reducible assumption
    | with_reducible refine State.lifeCheck_kept ?_
    | split
    | simp only [Kept.mkSame]

theorem tileExpSnap_kept {s0 : State} {s : State} (hk : Kept s0 s) : Kept s0 (tileExpSnap s) := by
  unfold tileExpSnap
  repeat' first
    | with_reducible assumption
    | with_reducible refine Kept.set ?_ _ _

theorem State.loopHit_kept {s0 : State} {s : State} {w : Nat} (hk : Kept s0 s) : Kept s0 (State.loopHit s w) := by
  unfold State.loopHit
  repeat' first
    | with_reducible assumption
    | with_reducible refine State.setRloop_kept ?_
    | with_reducible refine Kept.ite ?_ ?_

theorem State.loopModes_kept {s0 : State} {s : State} (hk : Kept s0 s) : Kept s0 (State.loopModes s) := by
  unfold State.loopModes
  repeat' first
    | with_reducible assumption
    | with_reducible refine State.loopFault_kept ?_
    | with_reducible refine Kept.each (fun _ _ _ => ?_) ?_
    | with_reducible refine Kept.ite ?_ ?_

theorem State.loopTrims_kept {s0 : State} {s : State} {r : Nat} (hk : Kept s0 s) : Kept s0 (State.loopTrims s r) := by
  unfold State.loopTrims
  repeat' first
    | with_reducible assumption
    | with_reducible refine State.setRloop_kept ?_
    | with_reducible refine Kept.set ?_ _ _
    | with_reducible refine Kept.each (fun _ _ _ => ?_) ?_
    | with_reducible refine Kept.ite ?_ ?_
    | split
    | ((try lift_lets); intro x; first | (refine (have hx : Kept s0 x := ?a; ?b); case' a => subst x; case' b => clear_value x) | (refine (have hx : Kept s0 x.2 := ?a; ?b); case' a => subst x; case' b => clear_value x) | (refine (have hx : Kept s0 x.1 := ?a; ?b); case' a => subst x; case' b => clear_value x) | (refine (have hx : Kept s0 x.2.2 := ?a; ?b); case' a => subst x; case' b => clear_value x) | (refine (have hx : ∀ t, Kept s0 t → Kept s0 (x t) := ?a; ?b); case' a => subst x; case' b => clear_value x) | (refine (have hx : ∀ t a, Kept s0 t → Kept s0 (x t a) := ?a; ?b); case' a => subst x; case' b => clear_value x) | (refine (have hx : ∀ a t, Kept s0 t → Kept s0 (x a t) := ?a; ?b); case' a => subst x; case' b => clear_value x) | subst x)
    | simp only [Kept.mkSame, Kept.mkPlate, Kept.mkStore, Kept.mkMg]
    | (intro; intro; intro)

theorem loopEnable_kept {s0 : State} {r : Nat} {en : Bool} {therm : Nat} {target : Nat} {s : State} (hk : Kept s0 s) : Kept s0 (loopEnable r en therm target s) := by
  unfold loopEnable
  repeat' first
    | with_reducible assumption
    | with_reducible refine State.assayCheck_kept ?_
    | with_reducible refine State.leRefused_kept ?_
    | with_reducible refine State.loopOpen_kept ?_
    | with_reducible refine State.setRloop_kept ?_
    | with_reducible refine Kept.set ?_ _ _
    | with_reducible refine Kept.ite ?_ ?_

theorem State.loopLaw_kept {s0 : State} {s : State} {r : Nat} {y : Nat} (hk : Kept s0 s) : Kept s0 (State.loopLaw s r y) := by
  unfold State.loopLaw
  repeat' first
    | with_reducible assumption
    | with_reducible refine State.capture_kept ?_
    | with_reducible refine State.loopFault_kept ?_
    | with_reducible refine State.loopTrims_kept ?_
    | with_reducible refine State.setRloop_kept ?_
    | with_reducible refine Kept.set ?_ _ _
    | with_reducible refine Kept.iff (fun _ _ => ?_) ?_

theorem regionLoopSample_kept {s0 : State} {r : Nat} {parityOk : Bool} {overrun : Bool} {s : State} (hk : Kept s0 s) : Kept s0 (regionLoopSample r parityOk overrun s) := by
  unfold regionLoopSample
  repeat' first
    | with_reducible assumption
    | with_reducible refine State.capture_kept ?_
    | with_reducible refine State.loopFault_kept ?_
    | with_reducible refine State.loopFaultAll_kept ?_
    | with_reducible refine State.loopLaw_kept ?_
    | with_reducible refine State.setRloop_kept ?_
    | with_reducible refine Kept.set ?_ _ _
    | with_reducible refine Kept.count ?_ _ _
    | with_reducible refine Kept.raise ?_ _ _
    | with_reducible refine Kept.iff (fun _ _ => ?_) ?_
    | with_reducible refine Kept.ite ?_ ?_

theorem State.idFail_kept {s0 : State} {s : State} {code : Nat} (hk : Kept s0 s) : Kept s0 (State.idFail s code) := by
  unfold State.idFail
  repeat' first
    | with_reducible assumption
    | with_reducible refine Kept.set ?_ _ _
    | with_reducible refine Kept.flag ?_ _ _ _

theorem State.lifeLoad_kept {s0 : State} {s : State} {b : List Nat} (hk : Kept s0 s) : Kept s0 (State.lifeLoad s b) := by
  unfold State.lifeLoad
  repeat' first
    | with_reducible assumption
    | with_reducible refine State.lifeCheck_kept ?_
    | with_reducible refine Kept.set ?_ _ _
    | with_reducible refine Kept.setB ?_ _ _
    | simp only [Kept.mkSame]

theorem tileIdReadDone_kept {s0 : State} {acked : Bool} {bytes : List Nat} {s : State} (hk : Kept s0 s) : Kept s0 (tileIdReadDone acked bytes s) := by
  unfold tileIdReadDone
  repeat' first
    | with_reducible assumption
    | with_reducible refine State.idFail_kept ?_
    | with_reducible refine State.lifeLoad_kept ?_
    | with_reducible refine Kept.set ?_ _ _
    | with_reducible refine Kept.each (fun _ _ _ => ?_) ?_
    | with_reducible refine Kept.ite ?_ ?_

theorem i2cGo_kept {s0 : State} {op : Bool} {lenM1 : Nat} {addr : Nat} {s : State} (hk : Kept s0 s) : Kept s0 (i2cGo op lenM1 addr s) := by
  unfold i2cGo
  repeat' first
    | with_reducible assumption
    | with_reducible refine State.i2cError_kept ?_
    | with_reducible refine Kept.set ?_ _ _
    | with_reducible refine Kept.setB ?_ _ _
    | with_reducible refine Kept.ite ?_ ?_
    | simp only [Kept.mkSame]

theorem State.i2cBuf_kept {s0 : State} {s : State} {data : List Nat} (hk : Kept s0 s) : Kept s0 (State.i2cBuf s data) := by
  unfold State.i2cBuf
  repeat' first
    | with_reducible assumption
    | with_reducible refine Kept.set ?_ _ _
    | with_reducible refine Kept.each (fun _ _ _ => ?_) ?_

theorem i2cDone_kept {s0 : State} {acked : Bool} {data : List Nat} {s : State} (hk : Kept s0 s) : Kept s0 (i2cDone acked data s) := by
  unfold i2cDone
  repeat' first
    | with_reducible assumption
    | with_reducible refine State.i2cBuf_kept ?_
    | with_reducible refine State.i2cError_kept ?_
    | with_reducible refine Kept.set ?_ _ _
    | with_reducible refine Kept.ite ?_ ?_

theorem lifeHoldExpiry_kept {s0 : State} {s : State} (hk : Kept s0 s) : Kept s0 (lifeHoldExpiry s) := by
  unfold lifeHoldExpiry
  repeat' first
    | with_reducible assumption
    | with_reducible refine Kept.set ?_ _ _

theorem tilePresence_kept {s0 : State} {present : Bool} {s : State} (hk : Kept s0 s) : Kept s0 (tilePresence present s) := by
  unfold tilePresence
  repeat' first
    | with_reducible assumption
    | with_reducible refine State.tileGone_kept ?_
    | with_reducible refine Kept.set ?_ _ _
    | with_reducible refine Kept.setB ?_ _ _
    | with_reducible refine Kept.raise ?_ _ _
    | with_reducible refine Kept.atEdge (fun _ _ => ?_) ?_
    | with_reducible refine Kept.ite ?_ ?_
    | split
    | ((try lift_lets); intro x; first | (refine (have hx : Kept s0 x := ?a; ?b); case' a => subst x; case' b => clear_value x) | (refine (have hx : Kept s0 x.2 := ?a; ?b); case' a => subst x; case' b => clear_value x) | (refine (have hx : Kept s0 x.1 := ?a; ?b); case' a => subst x; case' b => clear_value x) | (refine (have hx : Kept s0 x.2.2 := ?a; ?b); case' a => subst x; case' b => clear_value x) | (refine (have hx : ∀ t, Kept s0 t → Kept s0 (x t) := ?a; ?b); case' a => subst x; case' b => clear_value x) | (refine (have hx : ∀ t a, Kept s0 t → Kept s0 (x t a) := ?a; ?b); case' a => subst x; case' b => clear_value x) | (refine (have hx : ∀ a t, Kept s0 t → Kept s0 (x a t) := ?a; ?b); case' a => subst x; case' b => clear_value x) | subst x)
    | (intro; intro; intro)

theorem hitMerge_kept {s0 : State} {n : Nat} {lateForMap : Bool} {s : State} (hk : Kept s0 s) : Kept s0 (hitMerge n lateForMap s) := by
  unfold hitMerge
  repeat' first
    | with_reducible assumption
    | with_reducible refine State.exposeHit_kept ?_
    | with_reducible refine State.loopHit_kept ?_
    | with_reducible refine State.mergeStore_kept ?_
    | (apply State.nextHit_keptE; assumption)
    | with_reducible refine State.tgSee_kept ?_
    | with_reducible refine Kept.ite ?_ ?_
    | split
    | simp only [Kept.mkSame, Kept.mkPlate, Kept.mkStore, Kept.mkMg]
    | (intro; intro; intro)

end Sys2Proof.Machine
end

