-- ==== Sys2Proof/Laws/KeptMgmt.lean ====
section
/-! SUPPORT. Mgmt: no operation disturbs the queue or the canonical form. -/

set_option linter.unusedSimpArgs false
set_option linter.unusedVariables false

namespace Sys2Proof.Machine

open Sys2Proof

theorem State.iramWrite_kept {s0 : State} {s : State} {i : Nat} {v : Nat} (hk : Kept s0 s) : Kept s0 (State.iramWrite s i v) := by
  unfold State.iramWrite
  repeat' first
    | with_reducible assumption
    | with_reducible refine State.repairWrite_kept ?_
    | with_reducible refine State.setMark_kept ?_
    | (with_reducible refine Kept.change ?_ ⟨?_, ?_, ?_, ?_, ?_, ?_, ?_, ?_, ?_⟩)
    | exact id
    | exact Sparse.wf_put _ _ _

theorem State.dramWrite_kept {s0 : State} {s : State} {i : Nat} {v : Nat} (hk : Kept s0 s) : Kept s0 (State.dramWrite s i v) := by
  unfold State.dramWrite
  repeat' first
    | with_reducible assumption
    | with_reducible refine State.setMark_kept ?_
    | (with_reducible refine Kept.change ?_ ⟨?_, ?_, ?_, ?_, ?_, ?_, ?_, ?_, ?_⟩)
    | exact id
    | exact Sparse.wf_put _ _ _

theorem State.dramPut_kept {s0 : State} {s : State} {i : Nat} {bs : List Nat} (hk : Kept s0 s) :
    Kept s0 (State.dramPut s i bs) := by
  induction bs generalizing s i with
  | nil => exact hk
  | cons b bs ih => exact ih (State.dramWrite_kept hk)

theorem State.wdogRestart_kept {s0 : State} {s : State} (hk : Kept s0 s) : Kept s0 (State.wdogRestart s) := by
  unfold State.wdogRestart
  repeat' first
    | with_reducible assumption
    | simp only [Kept.mkMg]

theorem State.coresStart_kept {s0 : State} {s : State} (hk : Kept s0 s) : Kept s0 (State.coresStart s) := by
  unfold State.coresStart
  repeat' first
    | with_reducible assumption
    | with_reducible refine State.assayCheck_kept ?_
    | with_reducible refine State.wdogRestart_kept ?_
    | with_reducible refine Kept.set ?_ _ _
    | split
    | ((try lift_lets); intro x; first | (refine (have hx : Kept s0 x := ?a; ?b); case' a => subst x; case' b => clear_value x) | (refine (have hx : Kept s0 x.2 := ?a; ?b); case' a => subst x; case' b => clear_value x) | (refine (have hx : Kept s0 x.1 := ?a; ?b); case' a => subst x; case' b => clear_value x) | (refine (have hx : Kept s0 x.2.2 := ?a; ?b); case' a => subst x; case' b => clear_value x) | (refine (have hx : ∀ t, Kept s0 t → Kept s0 (x t) := ?a; ?b); case' a => subst x; case' b => clear_value x) | (refine (have hx : ∀ t a, Kept s0 t → Kept s0 (x t a) := ?a; ?b); case' a => subst x; case' b => clear_value x) | (refine (have hx : ∀ a t, Kept s0 t → Kept s0 (x a t) := ?a; ?b); case' a => subst x; case' b => clear_value x) | subst x)
    | simp only [Kept.mkSame, Kept.mkPlate, Kept.mkStore, Kept.mkMg]
    | (intro; intro; intro)

theorem State.coresHalt_kept {s0 : State} {s : State} {cause : Nat} (hk : Kept s0 s) : Kept s0 (State.coresHalt s cause) := by
  unfold State.coresHalt
  repeat' first
    | with_reducible assumption
    | with_reducible refine Kept.set ?_ _ _
    | with_reducible refine Kept.count ?_ _ _
    | with_reducible refine Kept.raise ?_ _ _
    | with_reducible refine Kept.ite ?_ ?_
    | split
    | ((try lift_lets); intro x; first | (refine (have hx : Kept s0 x := ?a; ?b); case' a => subst x; case' b => clear_value x) | (refine (have hx : Kept s0 x.2 := ?a; ?b); case' a => subst x; case' b => clear_value x) | (refine (have hx : Kept s0 x.1 := ?a; ?b); case' a => subst x; case' b => clear_value x) | (refine (have hx : Kept s0 x.2.2 := ?a; ?b); case' a => subst x; case' b => clear_value x) | (refine (have hx : ∀ t, Kept s0 t → Kept s0 (x t) := ?a; ?b); case' a => subst x; case' b => clear_value x) | (refine (have hx : ∀ t a, Kept s0 t → Kept s0 (x t a) := ?a; ?b); case' a => subst x; case' b => clear_value x) | (refine (have hx : ∀ a t, Kept s0 t → Kept s0 (x a t) := ?a; ?b); case' a => subst x; case' b => clear_value x) | subst x)
    | simp only [Kept.mkSame, Kept.mkPlate, Kept.mkStore, Kept.mkMg]
    | (intro; intro; intro)

theorem State.mgRefused_kept {s0 : State} {s : State} (hk : Kept s0 s) : Kept s0 (State.mgRefused s) := by
  unfold State.mgRefused
  repeat' first
    | with_reducible assumption
    | with_reducible refine Kept.flag ?_ _ _ _

theorem bootClearDone_kept {s0 : State} {s : State} (hk : Kept s0 s) : Kept s0 (bootClearDone s) := by
  unfold bootClearDone
  repeat' first
    | with_reducible assumption
    | with_reducible refine State.clearMarks_kept ?_
    | with_reducible refine Kept.set ?_ _ _
    | with_reducible refine Kept.raise ?_ _ _
    | with_reducible refine Kept.ite ?_ ?_
    | (with_reducible refine Kept.change ?_ ⟨?_, ?_, ?_, ?_, ?_, ?_, ?_, ?_, ?_⟩)
    | exact id
    | exact fun _ => Sparse.wf_nil _

theorem lockstepDivergence_kept {s0 : State} {s : State} (hk : Kept s0 s) : Kept s0 (lockstepDivergence s) := by
  unfold lockstepDivergence
  repeat' first
    | with_reducible assumption
    | with_reducible refine State.coresHalt_kept ?_

theorem trapLoop_kept {s0 : State} {s : State} (hk : Kept s0 s) : Kept s0 (trapLoop s) := by
  unfold trapLoop
  repeat' first
    | with_reducible assumption
    | with_reducible refine State.coresHalt_kept ?_

theorem watchdogExpiry_kept {s0 : State} {s : State} (hk : Kept s0 s) : Kept s0 (watchdogExpiry s) := by
  unfold watchdogExpiry
  repeat' first
    | with_reducible assumption
    | with_reducible refine State.coresHalt_kept ?_
    | with_reducible refine Kept.ite ?_ ?_

theorem wdogKick_kept {s0 : State} {s : State} (hk : Kept s0 s) : Kept s0 (wdogKick s) := by
  unfold wdogKick
  repeat' first
    | with_reducible assumption
    | with_reducible refine State.wdogRestart_kept ?_

theorem mgHalt_kept {s0 : State} {s : State} (hk : Kept s0 s) : Kept s0 (mgHalt s) := by
  unfold mgHalt
  repeat' first
    | with_reducible assumption
    | with_reducible refine State.coresHalt_kept ?_

theorem mgRestart_kept {s0 : State} {s : State} (hk : Kept s0 s) : Kept s0 (mgRestart s) := by
  unfold mgRestart
  repeat' first
    | with_reducible assumption
    | with_reducible refine State.coresStart_kept ?_
    | with_reducible refine State.mgRefused_kept ?_
    | split

theorem autoRestart_kept {s0 : State} {recent : Nat} {s : State} (hk : Kept s0 s) : Kept s0 (autoRestart recent s) := by
  unfold autoRestart
  repeat' first
    | with_reducible assumption
    | with_reducible refine State.coresStart_kept ?_
    | with_reducible refine Kept.set ?_ _ _
    | with_reducible refine Kept.ite ?_ ?_
    | split
    | ((try lift_lets); intro x; first | (refine (have hx : Kept s0 x := ?a; ?b); case' a => subst x; case' b => clear_value x) | (refine (have hx : Kept s0 x.2 := ?a; ?b); case' a => subst x; case' b => clear_value x) | (refine (have hx : Kept s0 x.1 := ?a; ?b); case' a => subst x; case' b => clear_value x) | (refine (have hx : Kept s0 x.2.2 := ?a; ?b); case' a => subst x; case' b => clear_value x) | (refine (have hx : ∀ t, Kept s0 t → Kept s0 (x t) := ?a; ?b); case' a => subst x; case' b => clear_value x) | (refine (have hx : ∀ t a, Kept s0 t → Kept s0 (x t a) := ?a; ?b); case' a => subst x; case' b => clear_value x) | (refine (have hx : ∀ a t, Kept s0 t → Kept s0 (x a t) := ?a; ?b); case' a => subst x; case' b => clear_value x) | subst x)
    | simp only [Kept.mkSame, Kept.mkPlate, Kept.mkStore, Kept.mkMg]
    | (intro; intro; intro)

theorem State.tellUp_kept {s0 : State} {s : State} {us : Nat} (hk : Kept s0 s) : Kept s0 (State.tellUp s us) := by
  unfold State.tellUp
  repeat' first
    | with_reducible assumption
    | split
    | ((try lift_lets); intro x; first | (refine (have hx : Kept s0 x := ?a; ?b); case' a => subst x; case' b => clear_value x) | (refine (have hx : Kept s0 x.2 := ?a; ?b); case' a => subst x; case' b => clear_value x) | (refine (have hx : Kept s0 x.1 := ?a; ?b); case' a => subst x; case' b => clear_value x) | (refine (have hx : Kept s0 x.2.2 := ?a; ?b); case' a => subst x; case' b => clear_value x) | (refine (have hx : ∀ t, Kept s0 t → Kept s0 (x t) := ?a; ?b); case' a => subst x; case' b => clear_value x) | (refine (have hx : ∀ t a, Kept s0 t → Kept s0 (x t a) := ?a; ?b); case' a => subst x; case' b => clear_value x) | (refine (have hx : ∀ a t, Kept s0 t → Kept s0 (x a t) := ?a; ?b); case' a => subst x; case' b => clear_value x) | subst x)
    | simp only [Kept.mkSame, Kept.mkPlate, Kept.mkStore, Kept.mkMg]
    | (intro; intro; intro)

theorem uptimeRead_kept {s0 : State} {us : Nat} {s : State} (hk : Kept s0 s) : Kept s0 (uptimeRead us s) := by
  unfold uptimeRead
  repeat' first
    | with_reducible assumption
    | with_reducible refine State.tellUp_kept ?_
    | with_reducible refine Kept.set ?_ _ _
    | split
    | ((try lift_lets); intro x; first | (refine (have hx : Kept s0 x := ?a; ?b); case' a => subst x; case' b => clear_value x) | (refine (have hx : Kept s0 x.2 := ?a; ?b); case' a => subst x; case' b => clear_value x) | (refine (have hx : Kept s0 x.1 := ?a; ?b); case' a => subst x; case' b => clear_value x) | (refine (have hx : Kept s0 x.2.2 := ?a; ?b); case' a => subst x; case' b => clear_value x) | (refine (have hx : ∀ t, Kept s0 t → Kept s0 (x t) := ?a; ?b); case' a => subst x; case' b => clear_value x) | (refine (have hx : ∀ t a, Kept s0 t → Kept s0 (x t a) := ?a; ?b); case' a => subst x; case' b => clear_value x) | (refine (have hx : ∀ a t, Kept s0 t → Kept s0 (x a t) := ?a; ?b); case' a => subst x; case' b => clear_value x) | subst x)
    | simp only [Kept.mkSame, Kept.mkPlate, Kept.mkStore, Kept.mkMg]
    | (intro; intro; intro)

theorem mtimeCompare_kept {s0 : State} {s : State} (hk : Kept s0 s) : Kept s0 (mtimeCompare s) := by
  unfold mtimeCompare
  repeat' first
    | with_reducible assumption
    | with_reducible refine State.tellUp_kept ?_
    | split
    | (intro; intro; intro)

theorem imageSwitch_kept {s0 : State} {s : State} (hk : Kept s0 s) : Kept s0 (imageSwitch s) := by
  unfold imageSwitch
  repeat' first
    | with_reducible assumption
    | with_reducible refine State.mgRefused_kept ?_
    | with_reducible refine Kept.set ?_ _ _
    | with_reducible refine Kept.ite ?_ ?_

theorem State.imageDone_kept {s0 : State} {s : State} (hk : Kept s0 s) : Kept s0 (State.imageDone s) := by
  unfold State.imageDone
  repeat' first
    | with_reducible assumption
    | with_reducible refine State.coresStart_kept ?_
    | with_reducible refine Kept.set ?_ _ _
    | with_reducible refine Kept.raise ?_ _ _
    | with_reducible refine Kept.ite ?_ ?_

theorem imageCheckDone_kept {s0 : State} {s : State} (hk : Kept s0 s) : Kept s0 (imageCheckDone s) := by
  unfold imageCheckDone
  repeat' first
    | with_reducible assumption
    | with_reducible refine State.imageDone_kept ?_
    | with_reducible refine Kept.set ?_ _ _
    | with_reducible refine Kept.raise ?_ _ _
    | with_reducible refine Kept.ite ?_ ?_

theorem imageReady_kept {s0 : State} {s : State} (hk : Kept s0 s) : Kept s0 (imageReady s) := by
  unfold imageReady
  repeat' first
    | with_reducible assumption
    | with_reducible refine State.imageDone_kept ?_
    | with_reducible refine Kept.ite ?_ ?_

theorem imageTimeout_kept {s0 : State} {s : State} (hk : Kept s0 s) : Kept s0 (imageTimeout s) := by
  unfold imageTimeout
  repeat' first
    | with_reducible assumption
    | with_reducible refine Kept.set ?_ _ _
    | with_reducible refine Kept.raise ?_ _ _
    | with_reducible refine Kept.ite ?_ ?_

theorem imageForce_kept {s0 : State} {s : State} (hk : Kept s0 s) : Kept s0 (imageForce s) := by
  unfold imageForce
  repeat' first
    | with_reducible assumption
    | with_reducible refine State.imageDone_kept ?_
    | with_reducible refine Kept.ite ?_ ?_

theorem State.logWrite_kept {s0 : State} {s : State} {src : Nat} {arg : Nat} {us : Nat} (hk : Kept s0 s) : Kept s0 (State.logWrite s src arg us) := by
  unfold State.logWrite
  repeat' first
    | with_reducible assumption
    | with_reducible refine State.dramPut_kept ?_
    | with_reducible refine Kept.set ?_ _ _
    | with_reducible refine Kept.count ?_ _ _
    | with_reducible refine Kept.flag ?_ _ _ _
    | with_reducible refine Kept.iff (fun _ _ => ?_) ?_
    | with_reducible refine Kept.ite ?_ ?_
    | simp only [Kept.mkMg]

theorem eventService_kept {s0 : State} {us : Nat} {s : State} (hk : Kept s0 s) : Kept s0 (eventService us s) := by
  unfold eventService
  split
  · exact hk
  · next src arg rest he =>
    refine Kept.ite hk (Kept.iff (fun _ h => h.set _ _) (Kept.iff (fun _ h => State.logWrite_kept h)
      (State.tellUp_kept (Kept.change hk ⟨fun h => ?_, id, id, id, id, id, id, id, id⟩))))
    rw [he] at h
    exact Sparse.sorted_tail h

theorem evClaimRead_kept {s0 : State} {s : State} (hk : Kept s0 s) : Kept s0 (evClaimRead s) := by
  unfold evClaimRead
  repeat' first
    | with_reducible assumption
    | with_reducible refine Kept.set ?_ _ _
    | split

theorem evqRead_kept {s0 : State} {s : State} (hk : Kept s0 s) : Kept s0 (evqRead s) := by
  unfold evqRead
  repeat' first
    | with_reducible assumption
    | with_reducible refine Kept.set ?_ _ _
    | with_reducible refine Kept.count ?_ _ _
    | with_reducible refine Kept.iff (fun _ _ => ?_) ?_
    | split
    | simp only [Kept.mkMg]

theorem State.hkNext_kept {s0 : State} {s : State} (hk : Kept s0 s) : Kept s0 (State.hkNext s) := by
  unfold State.hkNext
  repeat' first
    | with_reducible assumption
    | with_reducible refine State.hkBegin_kept ?_
    | with_reducible refine State.setHk_kept ?_
    | with_reducible refine Kept.ite ?_ ?_

theorem hkSequenceStart_kept {s0 : State} {s : State} (hk : Kept s0 s) : Kept s0 (hkSequenceStart s) := by
  unfold hkSequenceStart
  repeat' first
    | with_reducible assumption
    | with_reducible refine State.hkBegin_kept ?_
    | with_reducible refine State.setHk_kept ?_
    | with_reducible refine Kept.count ?_ _ _
    | with_reducible refine Kept.ite ?_ ?_

theorem State.hkBuffer_kept {s0 : State} {s : State} {v : Nat} (hk : Kept s0 s) : Kept s0 (State.hkBuffer s v) := by
  unfold State.hkBuffer
  repeat' first
    | with_reducible assumption
    | with_reducible refine State.dramPut_kept ?_
    | with_reducible refine Kept.set ?_ _ _
    | with_reducible refine Kept.count ?_ _ _
    | with_reducible refine Kept.flag ?_ _ _ _
    | with_reducible refine Kept.iff (fun _ _ => ?_) ?_
    | with_reducible refine Kept.ite ?_ ?_

theorem State.hkExpose_kept {s0 : State} {s : State} {input : Nat} {q : Nat} {us : Nat} {regular : Bool} (hk : Kept s0 s) : Kept s0 (State.hkExpose s input q us regular) := by
  unfold State.hkExpose
  repeat' first
    | with_reducible assumption
    | with_reducible refine State.exposeDose_kept ?_
    | with_reducible refine State.exposeLeak_kept ?_
    | with_reducible refine Kept.ite ?_ ?_

theorem State.hkCalibrate_kept {s0 : State} {s : State} (hk : Kept s0 s) : Kept s0 (State.hkCalibrate s) := by
  unfold State.hkCalibrate
  repeat' first
    | with_reducible assumption
    | with_reducible refine State.setHk_kept ?_
    | with_reducible refine Kept.set ?_ _ _
    | with_reducible refine Kept.flag ?_ _ _ _
    | with_reducible refine Kept.ite ?_ ?_

theorem hkConversionDone_kept {s0 : State} {raw : Nat} {us : Nat} {s : State} (hk : Kept s0 s) : Kept s0 (hkConversionDone raw us s) := by
  unfold hkConversionDone
  repeat' first
    | with_reducible assumption
    | with_reducible refine State.hkBuffer_kept ?_
    | with_reducible refine State.hkCalibrate_kept ?_
    | with_reducible refine State.hkExpose_kept ?_
    | with_reducible refine State.hkNext_kept ?_
    | with_reducible refine State.setHk_kept ?_
    | with_reducible refine State.tellUp_kept ?_
    | with_reducible refine Kept.set ?_ _ _
    | with_reducible refine Kept.count ?_ _ _
    | with_reducible refine Kept.flag ?_ _ _ _
    | with_reducible refine Kept.iff (fun _ _ => ?_) ?_
    | with_reducible refine Kept.ite ?_ ?_
    | split
    | ((try lift_lets); intro x; first | (refine (have hx : Kept s0 x := ?a; ?b); case' a => subst x; case' b => clear_value x) | (refine (have hx : Kept s0 x.2 := ?a; ?b); case' a => subst x; case' b => clear_value x) | (refine (have hx : Kept s0 x.1 := ?a; ?b); case' a => subst x; case' b => clear_value x) | (refine (have hx : Kept s0 x.2.2 := ?a; ?b); case' a => subst x; case' b => clear_value x) | (refine (have hx : ∀ t, Kept s0 t → Kept s0 (x t) := ?a; ?b); case' a => subst x; case' b => clear_value x) | (refine (have hx : ∀ t a, Kept s0 t → Kept s0 (x t a) := ?a; ?b); case' a => subst x; case' b => clear_value x) | (refine (have hx : ∀ a t, Kept s0 t → Kept s0 (x a t) := ?a; ?b); case' a => subst x; case' b => clear_value x) | subst x)
    | simp only [Kept.mkSame, Kept.mkPlate, Kept.mkStore, Kept.mkMg]
    | (intro; intro; intro)

theorem hkInject_kept {s0 : State} {input : Nat} {s : State} (hk : Kept s0 s) : Kept s0 (hkInject input s) := by
  unfold hkInject
  repeat' first
    | with_reducible assumption
    | with_reducible refine State.hkRequest_kept ?_
    | with_reducible refine Kept.set ?_ _ _

theorem hkCal_kept {s0 : State} {s : State} (hk : Kept s0 s) : Kept s0 (hkCal s) := by
  unfold hkCal
  repeat' first
    | with_reducible assumption
    | with_reducible refine State.hkCalibrate_kept ?_
    | with_reducible refine State.setHk_kept ?_
    | with_reducible refine Kept.flag ?_ _ _ _
    | with_reducible refine Kept.ite ?_ ?_

theorem calDone_kept {s0 : State} {gain : Nat} {offset : Nat} {s : State} (hk : Kept s0 s) : Kept s0 (calDone gain offset s) := by
  unfold calDone
  repeat' first
    | with_reducible assumption
    | with_reducible refine State.hkNext_kept ?_
    | with_reducible refine State.setHk_kept ?_
    | with_reducible refine Kept.set ?_ _ _
    | with_reducible refine Kept.raise ?_ _ _
    | with_reducible refine Kept.ite ?_ ?_

theorem hkRefEnable_kept {s0 : State} {on : Bool} {s : State} (hk : Kept s0 s) : Kept s0 (hkRefEnable on s) := by
  unfold hkRefEnable
  repeat' first
    | with_reducible assumption
    | with_reducible refine State.assayCheck_kept ?_
    | with_reducible refine State.hkNext_kept ?_
    | with_reducible refine State.setHk_kept ?_
    | with_reducible refine Kept.set ?_ _ _
    | with_reducible refine Kept.setB ?_ _ _
    | with_reducible refine Kept.flag ?_ _ _ _
    | with_reducible refine Kept.ite ?_ ?_

theorem hkRefReady_kept {s0 : State} {s : State} (hk : Kept s0 s) : Kept s0 (hkRefReady s) := by
  unfold hkRefReady
  repeat' first
    | with_reducible assumption
    | with_reducible refine Kept.set ?_ _ _
    | with_reducible refine Kept.ite ?_ ?_

theorem hkRegEnable_kept {s0 : State} {on : Bool} {s : State} (hk : Kept s0 s) : Kept s0 (hkRegEnable on s) := by
  unfold hkRegEnable
  repeat' first
    | with_reducible assumption
    | with_reducible refine State.assayCheck_kept ?_
    | with_reducible refine State.setHk_kept ?_
    | with_reducible refine Kept.set ?_ _ _
    | with_reducible refine Kept.flag ?_ _ _ _
    | with_reducible refine Kept.ite ?_ ?_

end Sys2Proof.Machine
end

