-- ==== Sys2Proof/Laws/KeptBurnish.lean ====
section
/-! SUPPORT. Burnish: no operation disturbs the queue or the canonical form. -/

set_option linter.unusedSimpArgs false
set_option linter.unusedVariables false

namespace Sys2Proof.Machine

open Sys2Proof

theorem State.passRepaired_kept {s0 : State} {s : State} (hk : Kept s0 s) : Kept s0 (State.passRepaired s) := by
  unfold State.passRepaired
  repeat' first
    | with_reducible assumption
    | simp only [Kept.mkSame]

theorem State.wordLasting_kept {s0 : State} {s : State} {m : Nat} {i : Nat} (hk : Kept s0 s) : Kept s0 (State.wordLasting s m i) := by
  unfold State.wordLasting
  repeat' first
    | with_reducible assumption
    | with_reducible refine State.passRepaired_kept ?_
    | with_reducible refine Kept.set ?_ _ _
    | with_reducible refine Kept.count ?_ _ _
    | with_reducible refine Kept.raise ?_ _ _
    | with_reducible refine Kept.flag ?_ _ _ _
    | split
    | simp only [Kept.mkSame]

theorem State.trackFault_kept {s0 : State} {s : State} {cls : Nat} {m : Nat} {i : Nat} (hk : Kept s0 s) : Kept s0 (State.trackFault s cls m i).1 := by
  unfold State.trackFault
  repeat' first
    | with_reducible assumption
    | with_reducible refine Kept.count ?_ _ _
    | with_reducible refine Kept.iff (fun _ _ => ?_) ?_
    | split
    | simp only [Kept.mkSame]
theorem State.trackFault_keptE {s0 : State} {s : State} {cls : Nat} {m : Nat} {i : Nat} {x} {t : State} (e : State.trackFault s cls m i = (t, x)) (hk : Kept s0 s) : Kept s0 t := by
  have k := State.trackFault_kept (s := s) (cls := cls) (m := m) (i := i) hk
  rw [e] at k; exact k

theorem State.corrected_kept {s0 : State} {s : State} {found : Nat} {m : Nat} {i : Nat} (hk : Kept s0 s) : Kept s0 (State.corrected s found m i) := by
  unfold State.corrected
  repeat' first
    | with_reducible assumption
    | with_reducible refine State.countClass_kept ?_
    | with_reducible refine State.eccLast_kept ?_
    | with_reducible refine State.halfRowLasting_kept ?_
    | with_reducible refine State.passRepaired_kept ?_
    | with_reducible refine State.trackFault_kept ?_
    | with_reducible refine State.wordLasting_kept ?_
    | with_reducible refine Kept.count ?_ _ _
    | with_reducible refine Kept.iff (fun _ _ => ?_) ?_
    | with_reducible refine Kept.ite ?_ ?_

theorem faultWindowExpiry_kept {s0 : State} {cls : Nat} {m : Nat} {i : Nat} {s : State} (hk : Kept s0 s) : Kept s0 (faultWindowExpiry cls m i s) := by
  unfold faultWindowExpiry
  repeat' first
    | with_reducible assumption
    | with_reducible refine Kept.ite ?_ ?_
    | simp only [Kept.mkSame]

theorem State.recDrop_kept {s0 : State} {s : State} {id : Nat} (hk : Kept s0 s) : Kept s0 (State.recDrop s id) := by
  unfold State.recDrop
  repeat' first
    | with_reducible assumption
    | with_reducible refine State.dropPins_kept ?_
    | with_reducible refine Kept.set ?_ _ _
    | with_reducible refine Kept.iff (fun _ _ => ?_) ?_
    | split
    | simp only [Kept.mkSame]

theorem State.waitLost_kept {s0 : State} {s : State} {c : Nat} (hk : Kept s0 s) : Kept s0 (State.waitLost s c) := by
  unfold State.waitLost
  repeat' first
    | with_reducible assumption
    | with_reducible refine State.busyEval_kept ?_
    | with_reducible refine State.giveBlocks_kept ?_
    | with_reducible refine State.giveCtx_kept ?_
    | with_reducible refine Kept.count ?_ _ _
    | with_reducible refine Kept.flag ?_ _ _ _
    | with_reducible refine Kept.foldl (fun _ _ _ => ?_) ?_
    | with_reducible refine Kept.foldlSnd (fun _ _ _ => ?_) ?_
    | with_reducible refine Kept.foldlSnd2 (fun _ _ _ => ?_) ?_
    | split
    | ((try lift_lets); intro x; first | (refine (have hx : Kept s0 x := ?a; ?b); case' a => subst x; case' b => clear_value x) | (refine (have hx : Kept s0 x.2 := ?a; ?b); case' a => subst x; case' b => clear_value x) | (refine (have hx : Kept s0 x.1 := ?a; ?b); case' a => subst x; case' b => clear_value x) | (refine (have hx : Kept s0 x.2.2 := ?a; ?b); case' a => subst x; case' b => clear_value x) | (refine (have hx : ∀ t, Kept s0 t → Kept s0 (x t) := ?a; ?b); case' a => subst x; case' b => clear_value x) | (refine (have hx : ∀ t a, Kept s0 t → Kept s0 (x t a) := ?a; ?b); case' a => subst x; case' b => clear_value x) | (refine (have hx : ∀ a t, Kept s0 t → Kept s0 (x a t) := ?a; ?b); case' a => subst x; case' b => clear_value x) | subst x)
    | simp only [Kept.mkSame, Kept.mkPlate, Kept.mkStore, Kept.mkMg]
    | (intro; intro; intro)

theorem State.outLost_kept {s0 : State} {s : State} {p : Nat} {f : OutFrag} {c : Nat} (hk : Kept s0 s) : Kept s0 (State.outLost s p f c) := by
  unfold State.outLost
  repeat' first
    | with_reducible assumption
    | with_reducible refine State.busyEval_kept ?_
    | with_reducible refine State.giveBlocks_kept ?_
    | with_reducible refine State.giveCtx_kept ?_
    | with_reducible refine State.setPath_kept ?_
    | with_reducible refine Kept.count ?_ _ _
    | with_reducible refine Kept.flag ?_ _ _ _
    | with_reducible refine Kept.ite ?_ ?_
    | split
    | ((try lift_lets); intro x; first | (refine (have hx : Kept s0 x := ?a; ?b); case' a => subst x; case' b => clear_value x) | (refine (have hx : Kept s0 x.2 := ?a; ?b); case' a => subst x; case' b => clear_value x) | (refine (have hx : Kept s0 x.1 := ?a; ?b); case' a => subst x; case' b => clear_value x) | (refine (have hx : Kept s0 x.2.2 := ?a; ?b); case' a => subst x; case' b => clear_value x) | (refine (have hx : ∀ t, Kept s0 t → Kept s0 (x t) := ?a; ?b); case' a => subst x; case' b => clear_value x) | (refine (have hx : ∀ t a, Kept s0 t → Kept s0 (x t a) := ?a; ?b); case' a => subst x; case' b => clear_value x) | (refine (have hx : ∀ a t, Kept s0 t → Kept s0 (x a t) := ?a; ?b); case' a => subst x; case' b => clear_value x) | subst x)
    | simp only [Kept.mkSame, Kept.mkPlate, Kept.mkStore, Kept.mkMg]
    | (intro; intro; intro)

theorem State.ctxBad_kept {s0 : State} {s : State} {c : Nat} {i : Nat} (hk : Kept s0 s) : Kept s0 (State.ctxBad s c i) := by
  unfold State.ctxBad
  repeat' first
    | with_reducible assumption
    | with_reducible refine State.busyEval_kept ?_
    | with_reducible refine State.fragLost_kept ?_
    | with_reducible refine State.outLost_kept ?_
    | with_reducible refine State.recLost_kept ?_
    | with_reducible refine State.sendUpset_kept ?_
    | with_reducible refine State.setMark_kept ?_
    | with_reducible refine State.waitLost_kept ?_
    | with_reducible refine Kept.ite ?_ ?_
    | split
    | simp only [Kept.mkSame, Kept.mkPlate, Kept.mkStore, Kept.mkMg]
    | (intro; intro; intro)

theorem State.outByteBad_kept {s0 : State} {s : State} {p : Nat} {f : OutFrag} {n : Nat} (hk : Kept s0 s) : Kept s0 (State.outByteBad s p f n) := by
  unfold State.outByteBad
  repeat' first
    | with_reducible assumption
    | with_reducible refine State.outLost_kept ?_
    | with_reducible refine State.sendUpset_kept ?_
    | with_reducible refine Kept.ite ?_ ?_
    | split
    | ((try lift_lets); intro x; first | (refine (have hx : Kept s0 x := ?a; ?b); case' a => subst x; case' b => clear_value x) | (refine (have hx : Kept s0 x.2 := ?a; ?b); case' a => subst x; case' b => clear_value x) | (refine (have hx : Kept s0 x.1 := ?a; ?b); case' a => subst x; case' b => clear_value x) | (refine (have hx : Kept s0 x.2.2 := ?a; ?b); case' a => subst x; case' b => clear_value x) | (refine (have hx : ∀ t, Kept s0 t → Kept s0 (x t) := ?a; ?b); case' a => subst x; case' b => clear_value x) | (refine (have hx : ∀ t a, Kept s0 t → Kept s0 (x t a) := ?a; ?b); case' a => subst x; case' b => clear_value x) | (refine (have hx : ∀ a t, Kept s0 t → Kept s0 (x a t) := ?a; ?b); case' a => subst x; case' b => clear_value x) | subst x)
    | simp only [Kept.mkSame, Kept.mkPlate, Kept.mkStore, Kept.mkMg]
    | (intro; intro; intro)

theorem State.fbufBad_kept {s0 : State} {s : State} {i : Nat} {owner : Option (Nat × Nat)} (hk : Kept s0 s) : Kept s0 (State.fbufBad s i owner) := by
  unfold State.fbufBad
  repeat' first
    | with_reducible assumption
    | with_reducible refine State.busyEval_kept ?_
    | with_reducible refine State.fragLost_kept ?_
    | with_reducible refine State.outByteBad_kept ?_
    | with_reducible refine State.setMark_kept ?_
    | with_reducible refine State.waitLost_kept ?_
    | with_reducible refine Kept.ite ?_ ?_
    | split
    | simp only [Kept.mkSame, Kept.mkPlate, Kept.mkStore, Kept.mkMg]
    | (intro; intro; intro)

theorem State.queueBad_kept {s0 : State} {s : State} {owner : Option (Nat × Nat)} (hk : Kept s0 s) : Kept s0 (State.queueBad s owner) := by
  unfold State.queueBad
  repeat' first
    | with_reducible assumption
    | with_reducible refine State.busyEval_kept ?_
    | with_reducible refine State.fragGone_kept ?_
    | with_reducible refine State.recDrop_kept ?_
    | split

theorem State.uncorrAct_kept {s0 : State} {s : State} {m : Nat} {i : Nat} {owner : Option (Nat × Nat)} (hk : Kept s0 s) : Kept s0 (State.uncorrAct s m i owner) := by
  unfold State.uncorrAct
  repeat' first
    | with_reducible assumption
    | with_reducible refine State.ctxBad_kept ?_
    | with_reducible refine State.descBroken_kept ?_
    | with_reducible refine State.fbufBad_kept ?_
    | with_reducible refine State.linkBroken_kept ?_
    | with_reducible refine State.plateUncorr_kept ?_
    | with_reducible refine State.queueBad_kept ?_
    | with_reducible refine State.setLink_kept ?_
    | with_reducible refine State.setMark_kept ?_
    | split
    | (with_reducible refine Kept.change ?_ ⟨?_, ?_, ?_, ?_, ?_, ?_, ?_, ?_, ?_⟩)
    | exact id
    | exact Sparse.wf_erase _ _

theorem State.burnishWord_kept {s0 : State} {s : State} {found : Nat} {m : Nat} {i : Nat} {r : EccResult} {owner : Option (Nat × Nat)} (hk : Kept s0 s) : Kept s0 (State.burnishWord s found m i r owner) := by
  unfold State.burnishWord
  repeat' first
    | with_reducible assumption
    | with_reducible refine State.corrected_kept ?_
    | with_reducible refine State.eccLast_kept ?_
    | with_reducible refine State.eccUncorr_kept ?_
    | with_reducible refine State.uncorrAct_kept ?_
    | with_reducible refine Kept.ite ?_ ?_
    | split
    | (intro; intro; intro)

theorem State.fillRam_kept {s0 : State} {s : State} (hk : Kept s0 s) : Kept s0 (State.fillRam s) := by
  unfold State.fillRam
  repeat' first
    | with_reducible assumption
    | with_reducible refine State.burnishWord_kept ?_
    | with_reducible refine State.iramWrite_kept ?_
    | with_reducible refine Kept.flag ?_ _ _ _
    | split
    | simp only [Kept.mkSame]

theorem State.bufRamPut_kept {s0 : State} {s : State} {idx : Nat} {mask : Nat} {data : Nat} (hk : Kept s0 s) : Kept s0 (State.bufRamPut s idx mask data) := by
  unfold State.bufRamPut
  repeat' first
    | with_reducible assumption
    | with_reducible refine State.fillRam_kept ?_
    | with_reducible refine State.iramWrite_kept ?_
    | split
    | simp only [Kept.mkSame]

theorem State.entryWrite_kept {s0 : State} {s : State} {key : Nat} {v : Nat} (hk : Kept s0 s) : Kept s0 (State.entryWrite s key v) := by
  unfold State.entryWrite
  repeat' first
    | with_reducible assumption
    | with_reducible refine State.setMark_kept ?_
    | (with_reducible refine Kept.change ?_ ⟨?_, ?_, ?_, ?_, ?_, ?_, ?_, ?_, ?_⟩)
    | exact id
    | exact Sparse.wf_put _ _ _

theorem State.fillTest_kept {s0 : State} {s : State} (hk : Kept s0 s) : Kept s0 (State.fillTest s) := by
  unfold State.fillTest
  repeat' first
    | with_reducible assumption
    | with_reducible refine State.burnishWord_kept ?_
    | with_reducible refine State.entryWrite_kept ?_
    | with_reducible refine Kept.flag ?_ _ _ _
    | split
    | simp only [Kept.mkSame]

theorem State.bufTestPut_kept {s0 : State} {s : State} {key : Nat} {mask : Nat} {data : Nat} (hk : Kept s0 s) : Kept s0 (State.bufTestPut s key mask data) := by
  unfold State.bufTestPut
  repeat' first
    | with_reducible assumption
    | with_reducible refine State.entryWrite_kept ?_
    | with_reducible refine State.fillTest_kept ?_
    | split
    | simp only [Kept.mkSame]

theorem State.fillRead_kept {s0 : State} {s : State} {m : Nat} {i : Nat} {r : EccResult} (hk : Kept s0 s) : Kept s0 (State.fillRead s m i r) := by
  unfold State.fillRead
  repeat' first
    | with_reducible assumption
    | with_reducible refine State.corrected_kept ?_
    | with_reducible refine State.setMark_kept ?_
    | split

theorem mergeBufferTimeout_kept {s0 : State} {buf : Nat} {r : EccResult} {s : State} (hk : Kept s0 s) : Kept s0 (mergeBufferTimeout buf r s) := by
  unfold mergeBufferTimeout
  repeat' first
    | with_reducible assumption
    | with_reducible refine State.fillPlate_kept ?_
    | with_reducible refine State.fillRam_kept ?_
    | with_reducible refine State.fillRead_kept ?_
    | with_reducible refine State.fillTest_kept ?_
    | split

theorem imageCheckRead_kept {s0 : State} {s : State} (hk : Kept s0 s) : Kept s0 (imageCheckRead s) := by
  unfold imageCheckRead
  repeat' first
    | with_reducible assumption
    | with_reducible refine State.fillRam_kept ?_
    | with_reducible refine imageCheckDone_kept ?_
    | with_reducible refine Kept.iff (fun _ _ => ?_) ?_
    | split
    | ((try lift_lets); intro x; first | (refine (have hx : Kept s0 x := ?a; ?b); case' a => subst x; case' b => clear_value x) | (refine (have hx : Kept s0 x.2 := ?a; ?b); case' a => subst x; case' b => clear_value x) | (refine (have hx : Kept s0 x.1 := ?a; ?b); case' a => subst x; case' b => clear_value x) | (refine (have hx : Kept s0 x.2.2 := ?a; ?b); case' a => subst x; case' b => clear_value x) | (refine (have hx : ∀ t, Kept s0 t → Kept s0 (x t) := ?a; ?b); case' a => subst x; case' b => clear_value x) | (refine (have hx : ∀ t a, Kept s0 t → Kept s0 (x t a) := ?a; ?b); case' a => subst x; case' b => clear_value x) | (refine (have hx : ∀ a t, Kept s0 t → Kept s0 (x a t) := ?a; ?b); case' a => subst x; case' b => clear_value x) | subst x)
    | (intro; intro; intro)

theorem patrolRead_kept {s0 : State} {m : Nat} {r : EccResult} {owner : Option (Nat × Nat)} {s : State} (hk : Kept s0 s) : Kept s0 (patrolRead m r owner s) := by
  unfold patrolRead
  repeat' first
    | with_reducible assumption
    | with_reducible refine State.burnishWord_kept ?_
    | with_reducible refine Kept.ite ?_ ?_
    | split
    | ((try lift_lets); intro x; first | (refine (have hx : Kept s0 x := ?a; ?b); case' a => subst x; case' b => clear_value x) | (refine (have hx : Kept s0 x.2 := ?a; ?b); case' a => subst x; case' b => clear_value x) | (refine (have hx : Kept s0 x.1 := ?a; ?b); case' a => subst x; case' b => clear_value x) | (refine (have hx : Kept s0 x.2.2 := ?a; ?b); case' a => subst x; case' b => clear_value x) | (refine (have hx : ∀ t, Kept s0 t → Kept s0 (x t) := ?a; ?b); case' a => subst x; case' b => clear_value x) | (refine (have hx : ∀ t a, Kept s0 t → Kept s0 (x t a) := ?a; ?b); case' a => subst x; case' b => clear_value x) | (refine (have hx : ∀ a t, Kept s0 t → Kept s0 (x a t) := ?a; ?b); case' a => subst x; case' b => clear_value x) | subst x)
    | simp only [Kept.mkSame, Kept.mkPlate, Kept.mkStore, Kept.mkMg]
    | (intro; intro; intro)

theorem burnishPassGo_kept {s0 : State} {m : Nat} {s : State} (hk : Kept s0 s) : Kept s0 (burnishPassGo m s) := by
  unfold burnishPassGo
  repeat' first
    | with_reducible assumption
    | with_reducible refine Kept.set ?_ _ _
    | with_reducible refine Kept.ite ?_ ?_
    | simp only [Kept.mkSame]

theorem burnishPassAbort_kept {s0 : State} {s : State} (hk : Kept s0 s) : Kept s0 (burnishPassAbort s) := by
  unfold burnishPassAbort
  repeat' first
    | with_reducible assumption
    | simp only [Kept.mkSame]

theorem hostPassRead_kept {s0 : State} {r : EccResult} {owner : Option (Nat × Nat)} {s : State} (hk : Kept s0 s) : Kept s0 (hostPassRead r owner s) := by
  unfold hostPassRead
  repeat' first
    | with_reducible assumption
    | with_reducible refine State.burnishWord_kept ?_
    | split
    | simp only [Kept.mkSame]

theorem burnishDone_kept {s0 : State} {time : Nat} {s : State} (hk : Kept s0 s) : Kept s0 (burnishDone time s) := by
  unfold burnishDone
  repeat' first
    | with_reducible assumption
    | with_reducible refine Kept.set ?_ _ _
    | with_reducible refine Kept.raise ?_ _ _
    | split
    | simp only [Kept.mkSame]

theorem burnishWindowEnd_kept {s0 : State} {s : State} (hk : Kept s0 s) : Kept s0 (burnishWindowEnd s) := by
  unfold burnishWindowEnd
  repeat' first
    | with_reducible assumption
    | with_reducible refine Kept.set ?_ _ _
    | with_reducible refine Kept.iff (fun _ _ => ?_) ?_
    | with_reducible refine Kept.ite ?_ ?_
    | simp only [Kept.mkSame]

theorem State.putFields_kept {s0 : State} {s : State} {fs : List Fld} {v : Nat} (hk : Kept s0 s) : Kept s0 (State.putFields s fs v) := by
  unfold State.putFields
  repeat' first
    | with_reducible assumption
    | with_reducible refine Kept.set ?_ _ _
    | with_reducible refine Kept.each (fun _ _ _ => ?_) ?_

theorem State.critPut_kept {s0 : State} {s : State} {w : Nat} {v : Nat} (hk : Kept s0 s) : Kept s0 (State.critPut s w v) := by
  unfold State.critPut
  repeat' first
    | with_reducible assumption
    | with_reducible refine State.putFields_kept ?_
    | with_reducible refine Kept.set ?_ _ _
    | with_reducible refine Kept.ite ?_ ?_
    | (with_reducible refine Kept.change ?_ ⟨?_, ?_, ?_, ?_, ?_, ?_, ?_, ?_, ?_⟩)
    | exact id
    | exact Sparse.wf_put _ _ _

theorem State.cxVote_kept {s0 : State} {s : State} {w : Nat} {v : Vote} (hk : Kept s0 s) : Kept s0 (State.cxVote s w v) := by
  unfold State.cxVote
  repeat' first
    | with_reducible assumption
    | with_reducible refine State.countClass_kept ?_
    | with_reducible refine State.critPut_kept ?_
    | with_reducible refine State.critTag_kept ?_
    | with_reducible refine Kept.set ?_ _ _
    | with_reducible refine Kept.count ?_ _ _
    | with_reducible refine Kept.raise ?_ _ _
    | split

theorem State.svVote_kept {s0 : State} {s : State} {w : Nat} {v : Vote} {sense : Nat} (hk : Kept s0 s) : Kept s0 (State.svVote s w v sense) := by
  unfold State.svVote
  repeat' first
    | with_reducible assumption
    | with_reducible refine State.arbSafe_kept ?_
    | with_reducible refine State.critTag_kept ?_
    | with_reducible refine State.guardSafe_kept ?_
    | with_reducible refine Kept.countWrap ?_ _
    | with_reducible refine Kept.raise ?_ _ _
    | split

theorem criticalWordVote_kept {s0 : State} {die : Nat} {word : Nat} {copies : List Nat} {sense : Nat} {s : State} (hk : Kept s0 s) : Kept s0 (criticalWordVote die word copies sense s) := by
  unfold criticalWordVote
  repeat' first
    | with_reducible assumption
    | with_reducible refine State.cxVote_kept ?_
    | with_reducible refine State.svVote_kept ?_
    | split

theorem recordBucketReadAll_kept {s0 : State} {ctx : Nat} {u : ReadUpset} {s : State} (hk : Kept s0 s) : Kept s0 (recordBucketReadAll ctx u s) := by
  unfold recordBucketReadAll
  repeat' first
    | with_reducible assumption
    | with_reducible refine State.corrected_kept ?_
    | with_reducible refine recordBucketRead_kept ?_
    | with_reducible refine Kept.each (fun _ _ _ => ?_) ?_

end Sys2Proof.Machine
end

