-- ==== Sys2Proof/Laws/KeptStartup.lean ====
section
/-! SUPPORT. Startup: no operation disturbs the queue or the canonical form. -/

set_option linter.unusedSimpArgs false
set_option linter.unusedVariables false

namespace Sys2Proof.Machine

open Sys2Proof

theorem State.acqRefused_kept {s0 : State} {s : State} {cause : Nat} (hk : Kept s0 s) : Kept s0 (State.acqRefused s cause) := by
  unfold State.acqRefused
  repeat' first
    | with_reducible assumption
    | with_reducible refine Kept.set ?_ _ _
    | with_reducible refine Kept.flag ?_ _ _ _

theorem State.acqCancel_kept {s0 : State} {s : State} {state : Nat} (hk : Kept s0 s) : Kept s0 (State.acqCancel s state) := by
  unfold State.acqCancel
  repeat' first
    | with_reducible assumption
    | with_reducible refine Kept.set ?_ _ _

theorem State.acqStartAt_kept {s0 : State} {s : State} {o : Nat} (hk : Kept s0 s) : Kept s0 (State.acqStartAt s o) := by
  unfold State.acqStartAt
  repeat' first
    | with_reducible assumption
    | with_reducible refine State.acqCancel_kept ?_
    | with_reducible refine State.acqRefused_kept ?_
    | with_reducible refine Kept.set ?_ _ _
    | split

theorem State.acqStopAt_kept {s0 : State} {s : State} {o : Nat} (hk : Kept s0 s) : Kept s0 (State.acqStopAt s o) := by
  unfold State.acqStopAt
  repeat' first
    | with_reducible assumption
    | with_reducible refine State.acqCancel_kept ?_
    | with_reducible refine Kept.set ?_ _ _
    | split

theorem acqStart_kept {s0 : State} {s : State} (hk : Kept s0 s) : Kept s0 (acqStart s) := by
  unfold acqStart
  repeat' first
    | with_reducible assumption
    | with_reducible refine State.acqStartAt_kept ?_

theorem acqStop_kept {s0 : State} {s : State} (hk : Kept s0 s) : Kept s0 (acqStop s) := by
  unfold acqStop
  repeat' first
    | with_reducible assumption
    | with_reducible refine State.acqStopAt_kept ?_

theorem State.acqFast_kept {s0 : State} {s : State} {o : Nat} {f : State → Nat → State}
    (hf : ∀ t a, Kept s0 t → Kept s0 (f t a)) (hk : Kept s0 s) : Kept s0 (State.acqFast s o f) := by
  unfold State.acqFast
  exact Kept.ite (hf _ _ hk) (hf _ _ (hk.count _ _))

theorem startAcquisition_kept {s0 : State} {w : FastIn} {s : State} (hk : Kept s0 s) : Kept s0 (startAcquisition w s) := by
  unfold startAcquisition
  repeat' first
    | with_reducible assumption
    | with_reducible refine State.acqFast_kept (fun _ _ _ => ?_) ?_
    | with_reducible refine State.acqStartAt_kept ?_
    | with_reducible refine State.fastCmd_kept (fun _ _ => ?_) ?_
    | split
    | (intro; intro; intro)

theorem stopAcquisition_kept {s0 : State} {w : FastIn} {s : State} (hk : Kept s0 s) : Kept s0 (stopAcquisition w s) := by
  unfold stopAcquisition
  repeat' first
    | with_reducible assumption
    | with_reducible refine State.acqFast_kept (fun _ _ _ => ?_) ?_
    | with_reducible refine State.acqStopAt_kept ?_
    | with_reducible refine State.fastCmd_kept (fun _ _ => ?_) ?_
    | split
    | (intro; intro; intro)

theorem State.acqTaken_kept {s0 : State} {s : State} (hk : Kept s0 s) : Kept s0 (State.acqTaken s) := by
  unfold State.acqTaken
  repeat' first
    | with_reducible assumption
    | simp only [Kept.mkSame]

theorem acquisitionStarts_kept {s0 : State} {s : State} (hk : Kept s0 s) : Kept s0 (acquisitionStarts s) := by
  unfold acquisitionStarts
  repeat' first
    | with_reducible assumption
    | with_reducible refine State.acqCancel_kept ?_
    | with_reducible refine State.acqRefused_kept ?_
    | with_reducible refine State.acqTaken_kept ?_
    | with_reducible refine State.chaserReset_kept ?_
    | with_reducible refine State.setLocal_kept ?_
    | with_reducible refine Kept.set ?_ _ _
    | with_reducible refine Kept.raise ?_ _ _
    | with_reducible refine Kept.each (fun _ _ _ => ?_) ?_
    | with_reducible refine Kept.ite ?_ ?_
    | split
    | ((try lift_lets); intro x; first | (refine (have hx : Kept s0 x := ?a; ?b); case' a => subst x; case' b => clear_value x) | (refine (have hx : Kept s0 x.2 := ?a; ?b); case' a => subst x; case' b => clear_value x) | (refine (have hx : Kept s0 x.1 := ?a; ?b); case' a => subst x; case' b => clear_value x) | (refine (have hx : Kept s0 x.2.2 := ?a; ?b); case' a => subst x; case' b => clear_value x) | (refine (have hx : ∀ t, Kept s0 t → Kept s0 (x t) := ?a; ?b); case' a => subst x; case' b => clear_value x) | (refine (have hx : ∀ t a, Kept s0 t → Kept s0 (x t a) := ?a; ?b); case' a => subst x; case' b => clear_value x) | (refine (have hx : ∀ a t, Kept s0 t → Kept s0 (x a t) := ?a; ?b); case' a => subst x; case' b => clear_value x) | subst x)
    | simp only [Kept.mkSame, Kept.mkPlate, Kept.mkStore, Kept.mkMg]
    | (intro; intro; intro)

theorem acquisitionStops_kept {s0 : State} {s : State} (hk : Kept s0 s) : Kept s0 (acquisitionStops s) := by
  unfold acquisitionStops
  repeat' first
    | with_reducible assumption
    | with_reducible refine State.acqTaken_kept ?_
    | with_reducible refine State.quietWords_kept ?_
    | with_reducible refine Kept.set ?_ _ _
    | with_reducible refine Kept.raise ?_ _ _
    | with_reducible refine Kept.ite ?_ ?_
    | split
    | ((try lift_lets); intro x; first | (refine (have hx : Kept s0 x := ?a; ?b); case' a => subst x; case' b => clear_value x) | (refine (have hx : Kept s0 x.2 := ?a; ?b); case' a => subst x; case' b => clear_value x) | (refine (have hx : Kept s0 x.1 := ?a; ?b); case' a => subst x; case' b => clear_value x) | (refine (have hx : Kept s0 x.2.2 := ?a; ?b); case' a => subst x; case' b => clear_value x) | (refine (have hx : ∀ t, Kept s0 t → Kept s0 (x t) := ?a; ?b); case' a => subst x; case' b => clear_value x) | (refine (have hx : ∀ t a, Kept s0 t → Kept s0 (x t a) := ?a; ?b); case' a => subst x; case' b => clear_value x) | (refine (have hx : ∀ a t, Kept s0 t → Kept s0 (x a t) := ?a; ?b); case' a => subst x; case' b => clear_value x) | subst x)
    | simp only [Kept.mkSame, Kept.mkPlate, Kept.mkStore, Kept.mkMg]
    | (intro; intro; intro)

theorem State.feBegin_kept {s0 : State} {s : State} {n : Nat} {target : Nat} (hk : Kept s0 s) : Kept s0 (State.feBegin s n target) := by
  unfold State.feBegin
  repeat' first
    | with_reducible assumption
    | with_reducible refine Kept.set ?_ _ _
    | simp only [Kept.mkSame]

theorem State.feEnd_kept {s0 : State} {s : State} {n : Nat} {now : Nat} (hk : Kept s0 s) : Kept s0 (State.feEnd s n now) := by
  unfold State.feEnd
  repeat' first
    | with_reducible assumption
    | with_reducible refine Kept.set ?_ _ _
    | with_reducible refine Kept.raise ?_ _ _
    | simp only [Kept.mkSame]

theorem State.feAway_kept {s0 : State} {s : State} {n : Nat} (hk : Kept s0 s) : Kept s0 (State.feAway s n) := by
  unfold State.feAway
  repeat' first
    | with_reducible assumption
    | with_reducible refine Kept.ite ?_ ?_
    | simp only [Kept.mkSame]

theorem State.feBack_kept {s0 : State} {s : State} {n : Nat} (hk : Kept s0 s) : Kept s0 (State.feBack s n) := by
  unfold State.feBack
  repeat' first
    | with_reducible assumption
    | simp only [Kept.mkSame]

theorem State.fePend_kept {s0 : State} {s : State} {n : Nat} {b : Bool} (hk : Kept s0 s) : Kept s0 (State.fePend s n b) := by
  unfold State.fePend
  repeat' first
    | with_reducible assumption
    | with_reducible refine Kept.set ?_ _ _

theorem State.feUp_kept {s0 : State} {s : State} {n : Nat} (hk : Kept s0 s) : Kept s0 (State.feUp s n) := by
  have h1 := hk.csrFilter fun e => e.1 / 2 ^ 29 != 0x20 + n
  exact State.feBegin_kept (Kept.each (fun _ _ h => State.loadLatch_kept h) ((Kept.mkSame (s := _)).2 h1))

theorem State.feOff_kept {s0 : State} {s : State} {n : Nat} (hk : Kept s0 s) : Kept s0 (State.feOff s n) := by
  unfold State.feOff
  repeat' first
    | with_reducible assumption
    | with_reducible refine State.feAway_kept ?_
    | with_reducible refine State.feBegin_kept ?_
    | with_reducible refine Kept.iff (fun _ _ => ?_) ?_
    | simp only [Kept.mkSame]

theorem State.feWrite_kept {s0 : State} {s : State} {n : Nat} {t : Nat} (hk : Kept s0 s) : Kept s0 (State.feWrite s n t) := by
  unfold State.feWrite
  repeat' first
    | with_reducible assumption
    | with_reducible refine State.acqRefused_kept ?_
    | with_reducible refine State.feAway_kept ?_
    | with_reducible refine State.feBegin_kept ?_
    | with_reducible refine State.feOff_kept ?_
    | with_reducible refine State.fePend_kept ?_
    | with_reducible refine State.feUp_kept ?_
    | with_reducible refine Kept.set ?_ _ _
    | with_reducible refine Kept.raise ?_ _ _
    | with_reducible refine Kept.ite ?_ ?_

theorem feServiceWrite_kept {s0 : State} {v : Nat} {s : State} (hk : Kept s0 s) : Kept s0 (feServiceWrite v s) := by
  unfold feServiceWrite
  repeat' first
    | with_reducible assumption
    | with_reducible refine State.assayCheck_kept ?_
    | with_reducible refine State.critNext_kept ?_
    | with_reducible refine State.feWrite_kept ?_
    | with_reducible refine Kept.each (fun _ _ _ => ?_) ?_
    | split
    | (intro; intro; intro)

theorem feSvc_kept {s0 : State} {n : Nat} {s : State} (hk : Kept s0 s) : Kept s0 (feSvc n s) := by
  unfold feSvc
  repeat' first
    | with_reducible assumption
    | with_reducible refine State.feBack_kept ?_
    | with_reducible refine State.feBegin_kept ?_
    | with_reducible refine State.feEnd_kept ?_
    | with_reducible refine Kept.ite ?_ ?_
    | split

theorem State.feDown_kept {s0 : State} {s : State} {n : Nat} (hk : Kept s0 s) : Kept s0 (State.feDown s n) := by
  unfold State.feDown
  repeat' first
    | with_reducible assumption
    | with_reducible refine State.feEnd_kept ?_
    | with_reducible refine State.fePend_kept ?_
    | with_reducible refine State.feUp_kept ?_
    | with_reducible refine Kept.ite ?_ ?_

theorem State.quadStop_kept {s0 : State} {s : State} {q : Nat} (hk : Kept s0 s) : Kept s0 (State.quadStop s q) := by
  unfold State.quadStop
  repeat' first
    | with_reducible assumption
    | with_reducible refine State.dirFail_kept ?_
    | with_reducible refine State.lockLoss_kept ?_
    | with_reducible refine State.setHeld_kept ?_
    | with_reducible refine Kept.set ?_ _ _
    | with_reducible refine Kept.each (fun _ _ _ => ?_) ?_
    | with_reducible refine Kept.ite ?_ ?_
    | split
    | ((try lift_lets); intro x; first | (refine (have hx : Kept s0 x := ?a; ?b); case' a => subst x; case' b => clear_value x) | (refine (have hx : Kept s0 x.2 := ?a; ?b); case' a => subst x; case' b => clear_value x) | (refine (have hx : Kept s0 x.1 := ?a; ?b); case' a => subst x; case' b => clear_value x) | (refine (have hx : Kept s0 x.2.2 := ?a; ?b); case' a => subst x; case' b => clear_value x) | (refine (have hx : ∀ t, Kept s0 t → Kept s0 (x t) := ?a; ?b); case' a => subst x; case' b => clear_value x) | (refine (have hx : ∀ t a, Kept s0 t → Kept s0 (x t a) := ?a; ?b); case' a => subst x; case' b => clear_value x) | (refine (have hx : ∀ a t, Kept s0 t → Kept s0 (x a t) := ?a; ?b); case' a => subst x; case' b => clear_value x) | subst x)
    | (intro; intro; intro)

theorem State.dataStops_kept {s0 : State} {s : State} (hk : Kept s0 s) : Kept s0 (State.dataStops s) := by
  unfold State.dataStops
  repeat' first
    | with_reducible assumption
    | with_reducible refine State.busyEval_kept ?_
    | with_reducible refine State.pathLost_kept ?_
    | with_reducible refine Kept.set ?_ _ _
    | with_reducible refine Kept.flag ?_ _ _ _
    | with_reducible refine Kept.iff (fun _ _ => ?_) ?_
    | with_reducible refine Kept.each (fun _ _ _ => ?_) ?_
    | with_reducible refine Kept.foldl (fun _ _ _ => ?_) ?_
    | with_reducible refine Kept.foldlSnd (fun _ _ _ => ?_) ?_
    | with_reducible refine Kept.foldlSnd2 (fun _ _ _ => ?_) ?_
    | split
    | ((try lift_lets); intro x; first | (refine (have hx : Kept s0 x := ?a; ?b); case' a => subst x; case' b => clear_value x) | (refine (have hx : Kept s0 x.2 := ?a; ?b); case' a => subst x; case' b => clear_value x) | (refine (have hx : Kept s0 x.1 := ?a; ?b); case' a => subst x; case' b => clear_value x) | (refine (have hx : Kept s0 x.2.2 := ?a; ?b); case' a => subst x; case' b => clear_value x) | (refine (have hx : ∀ t, Kept s0 t → Kept s0 (x t) := ?a; ?b); case' a => subst x; case' b => clear_value x) | (refine (have hx : ∀ t a, Kept s0 t → Kept s0 (x t a) := ?a; ?b); case' a => subst x; case' b => clear_value x) | (refine (have hx : ∀ a t, Kept s0 t → Kept s0 (x a t) := ?a; ?b); case' a => subst x; case' b => clear_value x) | subst x)
    | simp only [Kept.mkSame, Kept.mkPlate, Kept.mkStore, Kept.mkMg]
    | (intro; intro; intro)

theorem refLost_kept {s0 : State} {s : State} (hk : Kept s0 s) : Kept s0 (refLost s) := by
  unfold refLost
  repeat' first
    | with_reducible assumption
    | with_reducible refine State.dataStops_kept ?_
    | with_reducible refine State.enterStop_kept ?_
    | with_reducible refine State.quadStop_kept ?_
    | with_reducible refine Kept.set ?_ _ _
    | with_reducible refine Kept.raise ?_ _ _
    | with_reducible refine Kept.each (fun _ _ _ => ?_) ?_
    | with_reducible refine Kept.ite ?_ ?_
    | split
    | ((try lift_lets); intro x; first | (refine (have hx : Kept s0 x := ?a; ?b); case' a => subst x; case' b => clear_value x) | (refine (have hx : Kept s0 x.2 := ?a; ?b); case' a => subst x; case' b => clear_value x) | (refine (have hx : Kept s0 x.1 := ?a; ?b); case' a => subst x; case' b => clear_value x) | (refine (have hx : Kept s0 x.2.2 := ?a; ?b); case' a => subst x; case' b => clear_value x) | (refine (have hx : ∀ t, Kept s0 t → Kept s0 (x t) := ?a; ?b); case' a => subst x; case' b => clear_value x) | (refine (have hx : ∀ t a, Kept s0 t → Kept s0 (x t a) := ?a; ?b); case' a => subst x; case' b => clear_value x) | (refine (have hx : ∀ a t, Kept s0 t → Kept s0 (x a t) := ?a; ?b); case' a => subst x; case' b => clear_value x) | subst x)
    | (intro; intro; intro)

theorem refBack_kept {s0 : State} {s : State} (hk : Kept s0 s) : Kept s0 (refBack s) := by
  unfold refBack
  repeat' first
    | with_reducible assumption
    | with_reducible refine State.dirStart_kept ?_
    | with_reducible refine State.gateStart_kept ?_
    | with_reducible refine Kept.set ?_ _ _
    | with_reducible refine Kept.raise ?_ _ _
    | with_reducible refine Kept.each (fun _ _ _ => ?_) ?_
    | with_reducible refine Kept.ite ?_ ?_
    | split
    | ((try lift_lets); intro x; first | (refine (have hx : Kept s0 x := ?a; ?b); case' a => subst x; case' b => clear_value x) | (refine (have hx : Kept s0 x.2 := ?a; ?b); case' a => subst x; case' b => clear_value x) | (refine (have hx : Kept s0 x.1 := ?a; ?b); case' a => subst x; case' b => clear_value x) | (refine (have hx : Kept s0 x.2.2 := ?a; ?b); case' a => subst x; case' b => clear_value x) | (refine (have hx : ∀ t, Kept s0 t → Kept s0 (x t) := ?a; ?b); case' a => subst x; case' b => clear_value x) | (refine (have hx : ∀ t a, Kept s0 t → Kept s0 (x t a) := ?a; ?b); case' a => subst x; case' b => clear_value x) | (refine (have hx : ∀ a t, Kept s0 t → Kept s0 (x a t) := ?a; ?b); case' a => subst x; case' b => clear_value x) | subst x)
    | (intro; intro; intro)

theorem State.cxReset_kept {s0 : State} {s : State} (hk : Kept s0 s) : Kept s0 (State.cxReset s) := by
  refine ⟨hk.1, fun hc => ?_⟩
  have h := hk.2 hc
  rw [State.canonical_iff] at h ⊢
  exact ⟨Sparse.sorted_filter _ h.1, rfl, rfl, rfl, rfl, rfl, rfl, rfl, rfl, rfl⟩

theorem State.poweredDown_kept {s0 : State} {s : State} {straps : Nat} (hk : Kept s0 s) :
    Kept s0 (State.poweredDown s straps) := by
  have h : Kept s0 { State.reset with free := s.free, pending := s.pending } := ⟨hk.1, fun _ => rfl⟩
  exact Kept.iff (fun _ h => State.guardFault_kept h) ((h.set _ _).set _ _)

theorem State.softStarted_kept {s0 : State} {s : State} {u : Nat} (hk : Kept s0 s) : Kept s0 (State.softStarted s u) := by
  unfold State.softStarted
  repeat' first
    | with_reducible assumption
    | with_reducible refine State.setLoop_kept ?_
    | with_reducible refine State.setRole_kept ?_
    | with_reducible refine State.setUnit_kept ?_
    | with_reducible refine Kept.set ?_ _ _
    | with_reducible refine Kept.draw ?_

theorem powerUp_kept {s0 : State} {feed : Nat} {straps : Nat} {s : State} (hk : Kept s0 s) : Kept s0 (powerUp feed straps s) := by
  unfold powerUp
  repeat' first
    | with_reducible assumption
    | with_reducible refine State.poweredDown_kept ?_
    | with_reducible refine State.softStarted_kept ?_
    | with_reducible refine feedQualified_kept ?_
    | with_reducible refine Kept.ite ?_ ?_

theorem svReset_kept {s0 : State} {straps : Nat} {s : State} (hk : Kept s0 s) : Kept s0 (svReset straps s) := by
  unfold svReset
  repeat' first
    | with_reducible assumption
    | with_reducible refine State.poweredDown_kept ?_

theorem State.conversionDown_kept {s0 : State} {s : State} (hk : Kept s0 s) : Kept s0 (State.conversionDown s) := by
  unfold State.conversionDown
  repeat' first
    | with_reducible assumption
    | with_reducible refine State.convStart_kept ?_
    | with_reducible refine State.cxReset_kept ?_
    | with_reducible refine State.svDiscard_kept ?_
    | with_reducible refine Kept.set ?_ _ _
    | with_reducible refine Kept.ite ?_ ?_

theorem shutdownComplete_kept {s0 : State} {fn : ShutFn} {forbidden : Bool} {s : State} (hk : Kept s0 s) : Kept s0 (shutdownComplete fn forbidden s) := by
  unfold shutdownComplete
  repeat' first
    | with_reducible assumption
    | with_reducible refine State.biasDown_kept ?_
    | with_reducible refine State.conversionDown_kept ?_
    | with_reducible refine State.dirDown_kept ?_
    | with_reducible refine State.feDown_kept ?_
    | with_reducible refine State.quadDown_kept ?_
    | with_reducible refine State.unitDown_kept ?_
    | split
    | simp only [Kept.mkSame]

theorem State.assayRefuse_kept {s0 : State} {s : State} {cause : Nat} (hk : Kept s0 s) : Kept s0 (State.assayRefuse s cause) := by
  unfold State.assayRefuse
  repeat' first
    | with_reducible assumption
    | with_reducible refine Kept.set ?_ _ _
    | with_reducible refine Kept.raise ?_ _ _

theorem State.assayBegin_kept {s0 : State} {s : State} {block : Nat} {index : Nat} (hk : Kept s0 s) : Kept s0 (State.assayBegin s block index) := by
  unfold State.assayBegin
  repeat' first
    | with_reducible assumption
    | with_reducible refine State.cdTake_kept ?_
    | with_reducible refine State.clearMarks_kept ?_
    | with_reducible refine State.unlock_kept ?_
    | with_reducible refine Kept.set ?_ _ _
    | with_reducible refine Kept.iff (fun _ _ => ?_) ?_
    | split
    | (with_reducible refine Kept.change ?_ ⟨?_, ?_, ?_, ?_, ?_, ?_, ?_, ?_, ?_⟩)
    | exact id
    | exact Sparse.wf_filter _ _

theorem assayGo_kept {s0 : State} {block : Nat} {index : Nat} {s : State} (hk : Kept s0 s) : Kept s0 (assayGo block index s) := by
  unfold assayGo
  repeat' first
    | with_reducible assumption
    | with_reducible refine State.assayBegin_kept ?_
    | with_reducible refine State.assayRefuse_kept ?_
    | with_reducible refine Kept.set ?_ _ _
    | with_reducible refine Kept.ite ?_ ?_
    | simp only [Kept.mkSame]

theorem assayAbort_kept {s0 : State} {s : State} (hk : Kept s0 s) : Kept s0 (assayAbort s) := by
  unfold assayAbort
  repeat' first
    | with_reducible assumption
    | with_reducible refine State.assayStop_kept ?_
    | with_reducible refine Kept.ite ?_ ?_

theorem assayDone_kept {s0 : State} {part : Nat} {fails : Nat} {first : Nat} {ms : Nat} {s : State} (hk : Kept s0 s) : Kept s0 (assayDone part fails first ms s) := by
  unfold assayDone
  repeat' first
    | with_reducible assumption
    | with_reducible refine State.assayRunEnd_kept ?_
    | with_reducible refine Kept.set ?_ _ _
    | with_reducible refine Kept.setB ?_ _ _
    | with_reducible refine Kept.raise ?_ _ _
    | with_reducible refine Kept.ite ?_ ?_
    | split
    | ((try lift_lets); intro x; first | (refine (have hx : Kept s0 x := ?a; ?b); case' a => subst x; case' b => clear_value x) | (refine (have hx : Kept s0 x.2 := ?a; ?b); case' a => subst x; case' b => clear_value x) | (refine (have hx : Kept s0 x.1 := ?a; ?b); case' a => subst x; case' b => clear_value x) | (refine (have hx : Kept s0 x.2.2 := ?a; ?b); case' a => subst x; case' b => clear_value x) | (refine (have hx : ∀ t, Kept s0 t → Kept s0 (x t) := ?a; ?b); case' a => subst x; case' b => clear_value x) | (refine (have hx : ∀ t a, Kept s0 t → Kept s0 (x t a) := ?a; ?b); case' a => subst x; case' b => clear_value x) | (refine (have hx : ∀ a t, Kept s0 t → Kept s0 (x a t) := ?a; ?b); case' a => subst x; case' b => clear_value x) | subst x)
    | simp only [Kept.mkSame, Kept.mkPlate, Kept.mkStore, Kept.mkMg]
    | (intro; intro; intro)

theorem State.tapRun_kept {s0 : State} {s : State} {ir : Nat} {tdo : Nat} (hk : Kept s0 s) : Kept s0 (State.tapRun s ir tdo) := by
  unfold State.tapRun
  repeat' first
    | with_reducible assumption
    | simp only [Kept.mkSame]

theorem testLogicReset_kept {s0 : State} {s : State} (hk : Kept s0 s) : Kept s0 (testLogicReset s) := by
  unfold testLogicReset
  repeat' first
    | with_reducible assumption
    | simp only [Kept.mkSame]

theorem idcode_kept {s0 : State} {s : State} (hk : Kept s0 s) : Kept s0 (idcode s) := by
  unfold idcode
  repeat' first
    | with_reducible assumption
    | with_reducible refine State.tapRun_kept ?_

theorem State.boundary_kept {s0 : State} {s : State} {value : Nat} (hk : Kept s0 s) : Kept s0 (State.boundary s value) := by
  unfold State.boundary
  repeat' first
    | with_reducible assumption
    | simp only [Kept.mkSame]

theorem extest_kept {s0 : State} {value : Nat} {s : State} (hk : Kept s0 s) : Kept s0 (extest value s) := by
  unfold extest
  repeat' first
    | with_reducible assumption
    | with_reducible refine State.boundary_kept ?_
    | with_reducible refine State.i2cError_kept ?_
    | with_reducible refine State.tapRun_kept ?_
    | with_reducible refine Kept.iff (fun _ _ => ?_) ?_
    | with_reducible refine Kept.draw ?_

theorem samplePreload_kept {s0 : State} {sampled : Nat} {value : Nat} {s : State} (hk : Kept s0 s) : Kept s0 (samplePreload sampled value s) := by
  unfold samplePreload
  repeat' first
    | with_reducible assumption
    | with_reducible refine State.boundary_kept ?_
    | with_reducible refine State.tapRun_kept ?_

theorem bypass_kept {s0 : State} {opcode : Nat} {s : State} (hk : Kept s0 s) : Kept s0 (bypass opcode s) := by
  unfold bypass
  repeat' first
    | with_reducible assumption
    | with_reducible refine State.tapRun_kept ?_

end Sys2Proof.Machine
end

