-- ==== Sys2Proof/Laws/KeptCommit.lean ====
section
/-! SUPPORT. Commit: no operation disturbs the queue or the canonical form. -/

set_option linter.unusedSimpArgs false
set_option linter.unusedVariables false

namespace Sys2Proof.Machine

open Sys2Proof

theorem State.rateStart_kept {s0 : State} {s : State} (hk : Kept s0 s) : Kept s0 (State.rateStart s) := by
  unfold State.rateStart
  repeat' first
    | with_reducible assumption
    | simp only [Kept.mkSame]

theorem State.commitApply_kept {s0 : State} {s : State} {was : PlateRd} (hk : Kept s0 s) : Kept s0 (State.commitApply s was) := by
  unfold State.commitApply
  repeat' first
    | with_reducible assumption
    | with_reducible refine State.assayCheck_kept ?_
    | with_reducible refine State.commitBanks_kept ?_
    | with_reducible refine State.critNext_kept ?_
    | with_reducible refine State.feWrite_kept ?_
    | with_reducible refine State.fwdCheck_kept ?_
    | with_reducible refine State.laneCommit_kept ?_
    | with_reducible refine State.loadLatch_kept ?_
    | with_reducible refine State.loopModes_kept ?_
    | with_reducible refine State.quadCommit_kept ?_
    | with_reducible refine State.rateStart_kept ?_
    | with_reducible refine State.updConflict_kept ?_
    | with_reducible refine Kept.set ?_ _ _
    | with_reducible refine Kept.iff (fun _ _ => ?_) ?_
    | with_reducible refine Kept.each (fun _ _ _ => ?_) ?_
    | with_reducible refine Kept.ite ?_ ?_
    | split
    | ((try lift_lets); intro x; first | (refine (have hx : Kept s0 x := ?a; ?b); case' a => subst x; case' b => clear_value x) | (refine (have hx : Kept s0 x.2 := ?a; ?b); case' a => subst x; case' b => clear_value x) | (refine (have hx : Kept s0 x.1 := ?a; ?b); case' a => subst x; case' b => clear_value x) | (refine (have hx : Kept s0 x.2.2 := ?a; ?b); case' a => subst x; case' b => clear_value x) | (refine (have hx : ∀ t, Kept s0 t → Kept s0 (x t) := ?a; ?b); case' a => subst x; case' b => clear_value x) | (refine (have hx : ∀ t a, Kept s0 t → Kept s0 (x t a) := ?a; ?b); case' a => subst x; case' b => clear_value x) | (refine (have hx : ∀ a t, Kept s0 t → Kept s0 (x a t) := ?a; ?b); case' a => subst x; case' b => clear_value x) | subst x)
    | (intro; intro; intro)

theorem plateCommitDone_kept {s0 : State} {s : State} (hk : Kept s0 s) : Kept s0 (plateCommitDone s) := by
  unfold plateCommitDone
  repeat' first
    | with_reducible assumption
    | with_reducible refine State.commitApply_kept ?_
    | with_reducible refine State.commitFail_kept ?_
    | with_reducible refine State.commitLoad_kept ?_
    | split

theorem State.defer_kept {s0 : State} {s : State} {k : Nat} (hk : Kept s0 s) : Kept s0 (State.defer s k) := by
  unfold State.defer
  repeat' first
    | with_reducible assumption
    | with_reducible refine Kept.set ?_ _ _
    | with_reducible refine Kept.count ?_ _ _
    | with_reducible refine Kept.raise ?_ _ _
    | with_reducible refine Kept.ite ?_ ?_
    | simp only [Kept.mkSame]

theorem State.activityStart_kept {s0 : State} {s : State} {a : DueAct} (hk : Kept s0 s) : Kept s0 (State.activityStart s a) := by
  unfold State.activityStart
  repeat' first
    | with_reducible assumption
    | with_reducible refine State.cdRefuse_kept ?_
    | with_reducible refine State.cdSliceStart_kept ?_
    | with_reducible refine State.pass_kept ?_
    | with_reducible refine Kept.set ?_ _ _
    | with_reducible refine Kept.iff (fun _ _ => ?_) ?_
    | with_reducible refine Kept.ite ?_ ?_
    | split
    | ((try lift_lets); intro x; first | (refine (have hx : Kept s0 x := ?a; ?b); case' a => subst x; case' b => clear_value x) | (refine (have hx : Kept s0 x.2 := ?a; ?b); case' a => subst x; case' b => clear_value x) | (refine (have hx : Kept s0 x.1 := ?a; ?b); case' a => subst x; case' b => clear_value x) | (refine (have hx : Kept s0 x.2.2 := ?a; ?b); case' a => subst x; case' b => clear_value x) | (refine (have hx : ∀ t, Kept s0 t → Kept s0 (x t) := ?a; ?b); case' a => subst x; case' b => clear_value x) | (refine (have hx : ∀ t a, Kept s0 t → Kept s0 (x t a) := ?a; ?b); case' a => subst x; case' b => clear_value x) | (refine (have hx : ∀ a t, Kept s0 t → Kept s0 (x a t) := ?a; ?b); case' a => subst x; case' b => clear_value x) | subst x)
    | simp only [Kept.mkSame, Kept.mkPlate, Kept.mkStore, Kept.mkMg]
    | (intro; intro; intro)

theorem disruptiveActivityStart_kept {s0 : State} {s : State} (hk : Kept s0 s) : Kept s0 (disruptiveActivityStart s) := by
  unfold disruptiveActivityStart
  repeat' first
    | with_reducible assumption
    | with_reducible refine State.activityStart_kept ?_
    | with_reducible refine State.defer_kept ?_
    | with_reducible refine Kept.each (fun _ _ _ => ?_) ?_
    | with_reducible refine Kept.ite ?_ ?_
    | split
    | ((try lift_lets); intro x; first | (refine (have hx : Kept s0 x := ?a; ?b); case' a => subst x; case' b => clear_value x) | (refine (have hx : Kept s0 x.2 := ?a; ?b); case' a => subst x; case' b => clear_value x) | (refine (have hx : Kept s0 x.1 := ?a; ?b); case' a => subst x; case' b => clear_value x) | (refine (have hx : Kept s0 x.2.2 := ?a; ?b); case' a => subst x; case' b => clear_value x) | (refine (have hx : ∀ t, Kept s0 t → Kept s0 (x t) := ?a; ?b); case' a => subst x; case' b => clear_value x) | (refine (have hx : ∀ t a, Kept s0 t → Kept s0 (x t a) := ?a; ?b); case' a => subst x; case' b => clear_value x) | (refine (have hx : ∀ a t, Kept s0 t → Kept s0 (x a t) := ?a; ?b); case' a => subst x; case' b => clear_value x) | subst x)
    | simp only [Kept.mkSame, Kept.mkPlate, Kept.mkStore, Kept.mkMg]
    | (intro; intro; intro)

theorem reloadStart_kept {s0 : State} {readBackOk : Bool} {s : State} (hk : Kept s0 s) : Kept s0 (reloadStart readBackOk s) := by
  unfold reloadStart
  repeat' first
    | with_reducible assumption
    | with_reducible refine State.reloadWrite_kept ?_
    | with_reducible refine Kept.ite ?_ ?_
    | split
    | ((try lift_lets); intro x; first | (refine (have hx : Kept s0 x := ?a; ?b); case' a => subst x; case' b => clear_value x) | (refine (have hx : Kept s0 x.2 := ?a; ?b); case' a => subst x; case' b => clear_value x) | (refine (have hx : Kept s0 x.1 := ?a; ?b); case' a => subst x; case' b => clear_value x) | (refine (have hx : Kept s0 x.2.2 := ?a; ?b); case' a => subst x; case' b => clear_value x) | (refine (have hx : ∀ t, Kept s0 t → Kept s0 (x t) := ?a; ?b); case' a => subst x; case' b => clear_value x) | (refine (have hx : ∀ t a, Kept s0 t → Kept s0 (x t a) := ?a; ?b); case' a => subst x; case' b => clear_value x) | (refine (have hx : ∀ a t, Kept s0 t → Kept s0 (x a t) := ?a; ?b); case' a => subst x; case' b => clear_value x) | subst x)
    | simp only [Kept.mkSame, Kept.mkPlate, Kept.mkStore, Kept.mkMg]
    | (intro; intro; intro)

theorem State.unitRestart_kept {s0 : State} {s : State} (hk : Kept s0 s) : Kept s0 (State.unitRestart s) := by
  unfold State.unitRestart
  repeat' first
    | with_reducible assumption
    | with_reducible refine State.chaserReset_kept ?_
    | with_reducible refine State.loadLatch_kept ?_
    | with_reducible refine State.loopModes_kept ?_
    | split
    | simp only [Kept.mkSame]

theorem reloadRelease_kept {s0 : State} {s : State} (hk : Kept s0 s) : Kept s0 (reloadRelease s) := by
  unfold reloadRelease
  repeat' first
    | with_reducible assumption
    | with_reducible refine State.reloadEnd_kept ?_
    | with_reducible refine State.unitRestart_kept ?_
    | with_reducible refine State.updConflict_kept ?_
    | with_reducible refine Kept.iff (fun _ _ => ?_) ?_
    | with_reducible refine Kept.ite ?_ ?_
    | simp only [Kept.mkSame]

end Sys2Proof.Machine
end

