-- ==== Sys2Proof/Laws/KeptView.lean ====
section
/-! SUPPORT. View: no operation disturbs the queue or the canonical form. -/

set_option linter.unusedSimpArgs false
set_option linter.unusedVariables false

namespace Sys2Proof.Machine

open Sys2Proof

theorem State.drawFields_kept {s0 : State} {s : State} {l : List (Fld × (Nat → Nat))} (hk : Kept s0 s) :
    Kept s0 (State.drawFields s l).2 := by
  induction l generalizing s with
  | nil => exact hk
  | cons e l ih => exact ih (Kept.draw hk)

theorem State.drawFields_keptE {s0 : State} {s : State} {l : List (Fld × (Nat → Nat))} {x} {t : State}
    (e : State.drawFields s l = (x, t)) (hk : Kept s0 s) : Kept s0 t := by
  have k := State.drawFields_kept (l := l) hk
  rw [e] at k; exact k

theorem State.riseBefore_kept {s0 : State} {s : State} {r : RegAt} (hk : Kept s0 s) : Kept s0 (State.riseBefore s r) := by
  unfold State.riseBefore
  repeat' first
    | with_reducible assumption
    | with_reducible refine State.missStopped_kept ?_
    | with_reducible refine Kept.set ?_ _ _
    | with_reducible refine Kept.iff (fun _ _ => ?_) ?_
    | with_reducible refine Kept.rise ?_ _
    | with_reducible refine Kept.draw ?_
    | (apply Kept.drawE; with_reducible assumption)
    | with_reducible refine Kept.ite ?_ ?_
    | split
    | ((try lift_lets); intro x; first | (refine (have hx : Kept s0 x := ?a; ?b); case' a => subst x; case' b => clear_value x) | (refine (have hx : Kept s0 x.2 := ?a; ?b); case' a => subst x; case' b => clear_value x) | (refine (have hx : Kept s0 x.1 := ?a; ?b); case' a => subst x; case' b => clear_value x) | (refine (have hx : Kept s0 x.2.2 := ?a; ?b); case' a => subst x; case' b => clear_value x) | (refine (have hx : ∀ t, Kept s0 t → Kept s0 (x t) := ?a; ?b); case' a => subst x; case' b => clear_value x) | (refine (have hx : ∀ t a, Kept s0 t → Kept s0 (x t a) := ?a; ?b); case' a => subst x; case' b => clear_value x) | (refine (have hx : ∀ a t, Kept s0 t → Kept s0 (x a t) := ?a; ?b); case' a => subst x; case' b => clear_value x) | subst x)
    | (intro; intro; intro)

theorem State.readBefore_kept {s0 : State} {s : State} {r : RegAt} (hk : Kept s0 s) : Kept s0 (State.readBefore s r) := by
  unfold State.readBefore
  repeat' first
    | with_reducible assumption
    | with_reducible refine State.riseBefore_kept ?_
    | with_reducible refine evClaimRead_kept ?_
    | with_reducible refine evqRead_kept ?_
    | with_reducible refine fuRatioRead_kept ?_
    | with_reducible refine tgLocalRead_kept ?_
    | with_reducible refine uptimeRead_kept ?_
    | with_reducible refine Kept.draw ?_
    | (apply Kept.drawE; with_reducible assumption)
    | with_reducible refine Kept.ite ?_ ?_
    | split
    | ((try lift_lets); intro x; first | (refine (have hx : Kept s0 x := ?a; ?b); case' a => subst x; case' b => clear_value x) | (refine (have hx : Kept s0 x.2 := ?a; ?b); case' a => subst x; case' b => clear_value x) | (refine (have hx : Kept s0 x.1 := ?a; ?b); case' a => subst x; case' b => clear_value x) | (refine (have hx : Kept s0 x.2.2 := ?a; ?b); case' a => subst x; case' b => clear_value x) | (refine (have hx : ∀ t, Kept s0 t → Kept s0 (x t) := ?a; ?b); case' a => subst x; case' b => clear_value x) | (refine (have hx : ∀ t a, Kept s0 t → Kept s0 (x t a) := ?a; ?b); case' a => subst x; case' b => clear_value x) | (refine (have hx : ∀ a t, Kept s0 t → Kept s0 (x a t) := ?a; ?b); case' a => subst x; case' b => clear_value x) | subst x)
    | (intro; intro; intro)

theorem State.readAfter_kept {s0 : State} {s : State} {r : RegAt} (hk : Kept s0 s) : Kept s0 (State.readAfter s r) := by
  unfold State.readAfter
  repeat' first
    | with_reducible assumption
    | with_reducible refine State.setDie_kept ?_
    | with_reducible refine State.setLane_kept ?_
    | with_reducible refine Kept.set ?_ _ _
    | with_reducible refine Kept.iff (fun _ _ => ?_) ?_
    | with_reducible refine Kept.each (fun _ _ _ => ?_) ?_
    | with_reducible refine Kept.ite ?_ ?_
    | simp only [Kept.mkSame]

theorem State.readReg_kept {s0 : State} {s : State} {r : RegAt} (hk : Kept s0 s) : Kept s0 (State.readReg s r).2 := by
  unfold State.readReg
  repeat' first
    | with_reducible assumption
    | with_reducible refine State.drawFields_kept ?_
    | with_reducible refine State.readAfter_kept ?_
    | with_reducible refine State.readBefore_kept ?_
    | split
theorem State.readReg_keptE {s0 : State} {s : State} {r : RegAt} {x0} {t : State} (e : State.readReg s r = (x0, t)) (hk : Kept s0 s) : Kept s0 t := by
  have k := State.readReg_kept (s := s) (r := r) hk
  rw [e] at k; exact k

end Sys2Proof.Machine
end

