-- ==== Sys2Proof/Laws/KeptRegWrite.lean ====
section
/-! SUPPORT. RegWrite: no operation disturbs the queue or the canonical form. -/

set_option linter.unusedSimpArgs false
set_option linter.unusedVariables false

namespace Sys2Proof.Machine

open Sys2Proof

theorem State.writeField_kept {s0 : State} {v : Nat} {s : State} {f : Fld} (hk : Kept s0 s) : Kept s0 (State.writeField v s f) := by
  unfold State.writeField
  repeat' first
    | with_reducible assumption
    | with_reducible refine Kept.set ?_ _ _
    | split

theorem State.storeReg_kept {s0 : State} {s : State} {r : RegAt} {v : Nat} (hk : Kept s0 s) : Kept s0 (State.storeReg s r v) := by
  unfold State.storeReg
  repeat' first
    | with_reducible assumption
    | with_reducible refine State.writeField_kept ?_
    | with_reducible refine Kept.each (fun _ _ _ => ?_) ?_

theorem State.storeW1c_kept {s0 : State} {s : State} {r : RegAt} {v : Nat} (hk : Kept s0 s) : Kept s0 (State.storeW1c s r v) := by
  unfold State.storeW1c
  repeat' first
    | with_reducible assumption
    | with_reducible refine State.writeField_kept ?_
    | with_reducible refine Kept.each (fun _ _ _ => ?_) ?_

theorem State.shutOut_kept {s0 : State} {s : State} {f : Fld} {v : Nat} {refuse : State → State}
    (hr : ∀ t, Kept s0 t → Kept s0 (refuse t)) (hk : Kept s0 s) : Kept s0 (State.shutOut s f v refuse) :=
  Kept.ite (hr s hk) (hk.set f _)

theorem State.guarded_kept {s0 : State} {s : State} {f : Fld} {v : Nat} {refuse : State → State}
    (hr : ∀ t, Kept s0 t → Kept s0 (refuse t)) (hk : Kept s0 s) : Kept s0 (State.guarded s f v refuse) := by
  unfold State.guarded
  exact Kept.ite hk (Kept.ite (hr _ hk) (hk.set _ _))

theorem State.keepPeriod_kept {s0 : State} {s : State} {fs : List Fld} {d : Nat} (hk : Kept s0 s) : Kept s0 (State.keepPeriod s fs d) := by
  unfold State.keepPeriod
  repeat' first
    | with_reducible assumption
    | with_reducible refine Kept.keepOld ?_ _ _
    | with_reducible refine Kept.draw ?_
    | (apply Kept.drawE; with_reducible assumption)
    | with_reducible refine Kept.ite ?_ ?_
    | split
    | ((try lift_lets); intro x; first | (refine (have hx : Kept s0 x := ?a; ?b); case' a => subst x; case' b => clear_value x) | (refine (have hx : Kept s0 x.2 := ?a; ?b); case' a => subst x; case' b => clear_value x) | (refine (have hx : Kept s0 x.1 := ?a; ?b); case' a => subst x; case' b => clear_value x) | (refine (have hx : Kept s0 x.2.2 := ?a; ?b); case' a => subst x; case' b => clear_value x) | (refine (have hx : ∀ t, Kept s0 t → Kept s0 (x t) := ?a; ?b); case' a => subst x; case' b => clear_value x) | (refine (have hx : ∀ t a, Kept s0 t → Kept s0 (x t a) := ?a; ?b); case' a => subst x; case' b => clear_value x) | (refine (have hx : ∀ a t, Kept s0 t → Kept s0 (x a t) := ?a; ?b); case' a => subst x; case' b => clear_value x) | subst x)
    | (intro; intro; intro)

theorem State.atLeast1_kept {s0 : State} {s : State} {f : Fld} {v : Nat} (hk : Kept s0 s) : Kept s0 (State.atLeast1 s f v) := by
  unfold State.atLeast1
  repeat' first
    | with_reducible assumption
    | with_reducible refine Kept.set ?_ _ _

theorem writePlate_kept {s0 : State} {src : Source} {r : RegAt} {v : Nat} {s : State} (hk : Kept s0 s) : OptKept s0 (writePlate src r v s) := by
  unfold writePlate
  repeat' first
    | with_reducible assumption
    | with_reducible refine OptKept.ite ?_ ?_
    | with_reducible refine OptKept.some ?_
    | with_reducible exact OptKept.none
    | with_reducible refine State.storeReg_kept ?_
    | with_reducible refine plateAbort_kept ?_
    | with_reducible refine plateCommit_kept ?_
    | with_reducible refine plateFcrcWrite_kept ?_
    | with_reducible refine plateOpen_kept ?_
    | with_reducible refine reloadCancel_kept ?_
    | with_reducible refine reloadGo_kept ?_
    | with_reducible refine Kept.iff (fun _ _ => ?_) ?_
    | with_reducible refine Kept.ite ?_ ?_
theorem writePlate_keptE {s0 : State} {src : Source} {r : RegAt} {v : Nat} {s : State} {t} (e : writePlate src r v s = some t) (hk : Kept s0 s) : Kept s0 t := writePlate_kept hk t e

theorem writeTime_kept {s0 : State} {r : RegAt} {v : Nat} {s : State} (hk : Kept s0 s) : OptKept s0 (writeTime r v s) := by
  unfold writeTime
  repeat' first
    | with_reducible assumption
    | with_reducible refine OptKept.ite ?_ ?_
    | with_reducible refine OptKept.some ?_
    | with_reducible exact OptKept.none
    | with_reducible refine State.critNext_kept ?_
    | with_reducible refine State.storeReg_kept ?_
    | with_reducible refine State.storeW1c_kept ?_
    | with_reducible refine State.tickNow_kept ?_
    | (apply State.tickNow_keptE; assumption)
    | with_reducible refine mtLoad_kept ?_
    | with_reducible refine mtSnap_kept ?_
    | with_reducible refine sourceSelect_kept ?_
    | with_reducible refine Kept.set ?_ _ _
    | with_reducible refine Kept.iff (fun _ _ => ?_) ?_
    | with_reducible refine Kept.keepOld ?_ _ _
    | with_reducible refine Kept.ite ?_ ?_
    | split
    | (extract_lets +onlyGivenNames x; first | (refine (have hx : Kept s0 x := ?a; ?b); case' a => subst x; case' b => clear_value x) | (refine (have hx : Kept s0 x.2 := ?a; ?b); case' a => subst x; case' b => clear_value x) | (refine (have hx : Kept s0 x.1 := ?a; ?b); case' a => subst x; case' b => clear_value x) | (refine (have hx : Kept s0 x.2.2 := ?a; ?b); case' a => subst x; case' b => clear_value x) | (refine (have hx : ∀ t, Kept s0 t → Kept s0 (x t) := ?a; ?b); case' a => subst x; case' b => clear_value x) | (refine (have hx : ∀ t a, Kept s0 t → Kept s0 (x t a) := ?a; ?b); case' a => subst x; case' b => clear_value x) | (refine (have hx : ∀ a t, Kept s0 t → Kept s0 (x a t) := ?a; ?b); case' a => subst x; case' b => clear_value x) | subst x)
theorem writeTime_keptE {s0 : State} {r : RegAt} {v : Nat} {s : State} {t} (e : writeTime r v s = some t) (hk : Kept s0 s) : Kept s0 t := writeTime_kept hk t e

theorem writeFe_kept {s0 : State} {r : RegAt} {v : Nat} {s : State} (hk : Kept s0 s) : OptKept s0 (writeFe r v s) := by
  unfold writeFe
  repeat' first
    | with_reducible assumption
    | with_reducible refine Kept.keepOld ?_ _ _
    | with_reducible refine Kept.keepOldFe ?_ _
    | with_reducible refine OptKept.ite ?_ ?_
    | with_reducible refine OptKept.some ?_
    | with_reducible exact OptKept.none
    | with_reducible refine State.atLeast1_kept ?_
    | with_reducible refine State.keepTables_kept ?_
    | with_reducible refine State.storeReg_kept ?_
    | with_reducible refine automaskClear_kept ?_
    | with_reducible refine binTableWrite_kept ?_
    | with_reducible refine cdAbort_kept ?_
    | with_reducible refine cdFullRun_kept ?_
    | with_reducible refine channelConfigWrite_kept ?_
    | with_reducible refine relock_kept ?_
    | with_reducible refine Kept.set ?_ _ _
    | with_reducible refine Kept.iff (fun _ _ => ?_) ?_
    | with_reducible refine Kept.ite ?_ ?_
theorem writeFe_keptE {s0 : State} {r : RegAt} {v : Nat} {s : State} {t} (e : writeFe r v s = some t) (hk : Kept s0 s) : Kept s0 t := writeFe_kept hk t e

theorem writeData_kept {s0 : State} {r : RegAt} {v : Nat} {s : State} (hk : Kept s0 s) : OptKept s0 (writeData r v s) := by
  unfold writeData
  repeat' first
    | with_reducible assumption
    | with_reducible refine OptKept.ite ?_ ?_
    | with_reducible refine OptKept.some ?_
    | with_reducible exact OptKept.none
    | with_reducible refine State.atLeast1_kept ?_
    | with_reducible refine State.busyEval_kept ?_
    | with_reducible refine State.guarded_kept (fun _ _ => ?_) ?_
    | with_reducible refine State.keepPeriod_kept ?_
    | with_reducible refine State.shutOut_kept (fun _ _ => ?_) ?_
    | with_reducible refine State.storeReg_kept ?_
    | with_reducible refine State.storeW1c_kept ?_
    | with_reducible refine bankRetire_kept ?_
    | with_reducible refine depthReset_kept ?_
    | with_reducible refine dumpGo_kept ?_
    | with_reducible refine freezeArm_kept ?_
    | with_reducible refine freezeDisarm_kept ?_
    | with_reducible refine freezeForce_kept ?_
    | with_reducible refine histSwapWrite_kept ?_
    | with_reducible refine hqFlush_kept ?_
    | with_reducible refine Kept.set ?_ _ _
    | with_reducible refine Kept.flag ?_ _ _ _
    | with_reducible refine Kept.iff (fun _ _ => ?_) ?_
    | with_reducible refine Kept.each (fun _ _ _ => ?_) ?_
    | with_reducible refine Kept.ite ?_ ?_
    | split
    | (extract_lets +onlyGivenNames x; first | (refine (have hx : Kept s0 x := ?a; ?b); case' a => subst x; case' b => clear_value x) | (refine (have hx : Kept s0 x.2 := ?a; ?b); case' a => subst x; case' b => clear_value x) | (refine (have hx : Kept s0 x.1 := ?a; ?b); case' a => subst x; case' b => clear_value x) | (refine (have hx : Kept s0 x.2.2 := ?a; ?b); case' a => subst x; case' b => clear_value x) | (refine (have hx : ∀ t, Kept s0 t → Kept s0 (x t) := ?a; ?b); case' a => subst x; case' b => clear_value x) | (refine (have hx : ∀ t a, Kept s0 t → Kept s0 (x t a) := ?a; ?b); case' a => subst x; case' b => clear_value x) | (refine (have hx : ∀ a t, Kept s0 t → Kept s0 (x a t) := ?a; ?b); case' a => subst x; case' b => clear_value x) | subst x)
theorem writeData_keptE {s0 : State} {r : RegAt} {v : Nat} {s : State} {t} (e : writeData r v s = some t) (hk : Kept s0 s) : Kept s0 t := writeData_kept hk t e

theorem writeLane_kept {s0 : State} {src : Source} {r : RegAt} {v : Nat} {s : State} (hk : Kept s0 s) : OptKept s0 (writeLane src r v s) := by
  unfold writeLane
  repeat' first
    | with_reducible assumption
    | with_reducible refine OptKept.ite ?_ ?_
    | with_reducible refine OptKept.some ?_
    | with_reducible exact OptKept.none
    | with_reducible refine laneLoopSelect_kept ?_
    | with_reducible refine laneOut_kept ?_
    | with_reducible refine lanePowerRequest_kept ?_
    | with_reducible refine slipWrite_kept ?_
    | with_reducible refine spareServeWrite_kept ?_
    | with_reducible refine Kept.set ?_ _ _
    | with_reducible refine Kept.iff (fun _ _ => ?_) ?_
theorem writeLane_keptE {s0 : State} {src : Source} {r : RegAt} {v : Nat} {s : State} {t} (e : writeLane src r v s = some t) (hk : Kept s0 s) : Kept s0 t := writeLane_kept hk t e

theorem fbUpWrite_kept {s0 : State} {r : RegAt} {v : Nat} {s : State} (hk : Kept s0 s) : Kept s0 (fbUpWrite r v s) := by
  unfold fbUpWrite
  repeat' first
    | with_reducible assumption
    | with_reducible refine State.busyEval_kept ?_
    | with_reducible refine State.critNext_kept ?_
    | with_reducible refine State.fbRefuse_kept ?_
    | with_reducible refine State.moveFrags_kept ?_
    | with_reducible refine State.moveItems_kept ?_
    | with_reducible refine State.storeReg_kept ?_
    | with_reducible refine Kept.iff (fun _ _ => ?_) ?_
    | with_reducible refine Kept.ite ?_ ?_
    | split
    | ((try lift_lets); intro x; first | (refine (have hx : Kept s0 x := ?a; ?b); case' a => subst x; case' b => clear_value x) | (refine (have hx : Kept s0 x.2 := ?a; ?b); case' a => subst x; case' b => clear_value x) | (refine (have hx : Kept s0 x.1 := ?a; ?b); case' a => subst x; case' b => clear_value x) | (refine (have hx : Kept s0 x.2.2 := ?a; ?b); case' a => subst x; case' b => clear_value x) | (refine (have hx : ∀ t, Kept s0 t → Kept s0 (x t) := ?a; ?b); case' a => subst x; case' b => clear_value x) | (refine (have hx : ∀ t a, Kept s0 t → Kept s0 (x t a) := ?a; ?b); case' a => subst x; case' b => clear_value x) | (refine (have hx : ∀ a t, Kept s0 t → Kept s0 (x a t) := ?a; ?b); case' a => subst x; case' b => clear_value x) | subst x)
    | simp only [Kept.mkSame, Kept.mkPlate, Kept.mkStore, Kept.mkMg]
    | (intro; intro; intro)

theorem fbCtrlWrite_kept {s0 : State} {r : RegAt} {v : Nat} {s : State} (hk : Kept s0 s) : Kept s0 (fbCtrlWrite r v s) := by
  unfold fbCtrlWrite
  repeat' first
    | with_reducible assumption
    | with_reducible refine State.dataReturn_kept ?_
    | with_reducible refine State.rerouted_kept ?_
    | with_reducible refine State.storeReg_kept ?_
    | with_reducible refine timeFollow_kept ?_
    | with_reducible refine Kept.set ?_ _ _
    | with_reducible refine Kept.iff (fun _ _ => ?_) ?_
    | with_reducible refine Kept.each (fun _ _ _ => ?_) ?_
    | with_reducible refine Kept.ite ?_ ?_
    | split
    | ((try lift_lets); intro x; first | (refine (have hx : Kept s0 x := ?a; ?b); case' a => subst x; case' b => clear_value x) | (refine (have hx : Kept s0 x.2 := ?a; ?b); case' a => subst x; case' b => clear_value x) | (refine (have hx : Kept s0 x.1 := ?a; ?b); case' a => subst x; case' b => clear_value x) | (refine (have hx : Kept s0 x.2.2 := ?a; ?b); case' a => subst x; case' b => clear_value x) | (refine (have hx : ∀ t, Kept s0 t → Kept s0 (x t) := ?a; ?b); case' a => subst x; case' b => clear_value x) | (refine (have hx : ∀ t a, Kept s0 t → Kept s0 (x t a) := ?a; ?b); case' a => subst x; case' b => clear_value x) | (refine (have hx : ∀ a t, Kept s0 t → Kept s0 (x a t) := ?a; ?b); case' a => subst x; case' b => clear_value x) | subst x)
    | simp only [Kept.mkSame, Kept.mkPlate, Kept.mkStore, Kept.mkMg]
    | (intro; intro; intro)

theorem writeFabric_kept {s0 : State} {r : RegAt} {v : Nat} {s : State} (hk : Kept s0 s) : OptKept s0 (writeFabric r v s) := by
  unfold writeFabric
  repeat' first
    | with_reducible assumption
    | with_reducible refine OptKept.ite ?_ ?_
    | with_reducible refine OptKept.some ?_
    | with_reducible exact OptKept.none
    | with_reducible refine State.atLeast1_kept ?_
    | with_reducible refine State.critNext_kept ?_
    | with_reducible refine State.fbRefuse_kept ?_
    | with_reducible refine State.storeReg_kept ?_
    | with_reducible refine discAssign_kept ?_
    | with_reducible refine discProbe_kept ?_
    | with_reducible refine fbCtrlWrite_kept ?_
    | with_reducible refine fbUpWrite_kept ?_
    | with_reducible refine Kept.set ?_ _ _
    | with_reducible refine Kept.ite ?_ ?_
    | split
    | (extract_lets +onlyGivenNames x; first | (refine (have hx : Kept s0 x := ?a; ?b); case' a => subst x; case' b => clear_value x) | (refine (have hx : Kept s0 x.2 := ?a; ?b); case' a => subst x; case' b => clear_value x) | (refine (have hx : Kept s0 x.1 := ?a; ?b); case' a => subst x; case' b => clear_value x) | (refine (have hx : Kept s0 x.2.2 := ?a; ?b); case' a => subst x; case' b => clear_value x) | (refine (have hx : ∀ t, Kept s0 t → Kept s0 (x t) := ?a; ?b); case' a => subst x; case' b => clear_value x) | (refine (have hx : ∀ t a, Kept s0 t → Kept s0 (x t a) := ?a; ?b); case' a => subst x; case' b => clear_value x) | (refine (have hx : ∀ a t, Kept s0 t → Kept s0 (x a t) := ?a; ?b); case' a => subst x; case' b => clear_value x) | subst x)
theorem writeFabric_keptE {s0 : State} {r : RegAt} {v : Nat} {s : State} {t} (e : writeFabric r v s = some t) (hk : Kept s0 s) : Kept s0 t := writeFabric_kept hk t e

theorem writePower_kept {s0 : State} {r : RegAt} {v : Nat} {s : State} (hk : Kept s0 s) : OptKept s0 (writePower r v s) := by
  unfold writePower
  repeat' first
    | with_reducible assumption
    | with_reducible refine OptKept.ite ?_ ?_
    | with_reducible refine OptKept.some ?_
    | with_reducible exact OptKept.none
    | with_reducible refine State.atLeast1_kept ?_
    | with_reducible refine State.storeReg_kept ?_
    | with_reducible refine State.storeW1c_kept ?_
    | with_reducible refine biasDisable_kept ?_
    | with_reducible refine biasEnable_kept ?_
    | with_reducible refine burnishPassAbort_kept ?_
    | with_reducible refine burnishPassGo_kept ?_
    | with_reducible refine leCommit_kept ?_
    | with_reducible refine leUseHost_kept ?_
    | with_reducible refine puFaultClear_kept ?_
    | with_reducible refine puOut_kept ?_
    | with_reducible refine swapNow_kept ?_
    | with_reducible refine State.swapPeriod_kept ?_
    | with_reducible refine Kept.set ?_ _ _
    | with_reducible refine Kept.iff (fun _ _ => ?_) ?_
theorem writePower_keptE {s0 : State} {r : RegAt} {v : Nat} {s : State} {t} (e : writePower r v s = some t) (hk : Kept s0 s) : Kept s0 t := writePower_kept hk t e

theorem writeMgmt_kept {s0 : State} {src : Source} {r : RegAt} {v : Nat} {s : State} (hk : Kept s0 s) : OptKept s0 (writeMgmt src r v s) := by
  unfold writeMgmt
  repeat' first
    | with_reducible assumption
    | with_reducible refine OptKept.ite ?_ ?_
    | with_reducible refine OptKept.some ?_
    | with_reducible exact OptKept.none
    | with_reducible refine State.atLeast1_kept ?_
    | with_reducible refine State.storeReg_kept ?_
    | with_reducible refine State.wdogRestart_kept ?_
    | with_reducible refine acqStart_kept ?_
    | with_reducible refine acqStop_kept ?_
    | with_reducible refine assayAbort_kept ?_
    | with_reducible refine assayGo_kept ?_
    | with_reducible refine feServiceWrite_kept ?_
    | with_reducible refine hkCal_kept ?_
    | with_reducible refine hkInject_kept ?_
    | with_reducible refine hkRefEnable_kept ?_
    | with_reducible refine hkRegEnable_kept ?_
    | with_reducible refine i2cGo_kept ?_
    | with_reducible refine imageForce_kept ?_
    | with_reducible refine imageReady_kept ?_
    | with_reducible refine imageSwitch_kept ?_
    | with_reducible refine loopEnable_kept ?_
    | with_reducible refine mgHalt_kept ?_
    | with_reducible refine mgRestart_kept ?_
    | with_reducible refine tileExpSnap_kept ?_
    | with_reducible refine Kept.set ?_ _ _
    | with_reducible refine Kept.iff (fun _ _ => ?_) ?_
    | with_reducible refine Kept.ite ?_ ?_
    | simp only [Kept.mkMg]
theorem writeMgmt_keptE {s0 : State} {src : Source} {r : RegAt} {v : Nat} {s : State} {t} (e : writeMgmt src r v s = some t) (hk : Kept s0 s) : Kept s0 t := writeMgmt_kept hk t e

theorem dmaGo_kept {s0 : State} {c : Nat} {s : State} (hk : Kept s0 s) : Kept s0 (dmaGo c s) := by
  unfold dmaGo
  repeat' first
    | with_reducible assumption
    | with_reducible refine State.mgRefused_kept ?_
    | with_reducible refine Kept.set ?_ _ _
    | with_reducible refine Kept.ite ?_ ?_
    | simp only [Kept.mkMg]

theorem dmaAbort_kept {s0 : State} {c : Nat} {s : State} (hk : Kept s0 s) : Kept s0 (dmaAbort c s) := by
  unfold dmaAbort
  repeat' first
    | with_reducible assumption
    | split
    | simp only [Kept.mkMg]

theorem writeDma_kept {s0 : State} {r : RegAt} {v : Nat} {s : State} (hk : Kept s0 s) : OptKept s0 (writeDma r v s) := by
  unfold writeDma
  repeat' first
    | with_reducible assumption
    | with_reducible refine OptKept.ite ?_ ?_
    | with_reducible refine OptKept.some ?_
    | with_reducible exact OptKept.none
    | with_reducible refine State.storeReg_kept ?_
    | with_reducible refine dmaAbort_kept ?_
    | with_reducible refine dmaGo_kept ?_
    | with_reducible refine Kept.iff (fun _ _ => ?_) ?_
theorem writeDma_keptE {s0 : State} {r : RegAt} {v : Nat} {s : State} {t} (e : writeDma r v s = some t) (hk : Kept s0 s) : Kept s0 t := writeDma_kept hk t e

theorem State.writeReg_kept {s0 : State} {s : State} {src : Source} {r : RegAt} {v : Nat} (hk : Kept s0 s) :
    Kept s0 (State.writeReg s src r v) := by
  unfold State.writeReg
  split
  · next t e =>
    exact OptKept.orElse (writePlate_kept hk) (OptKept.orElse (writeTime_kept hk) (OptKept.orElse (writeFe_kept hk)
      (OptKept.orElse (writeData_kept hk) (OptKept.orElse (writeLane_kept hk) (OptKept.orElse (writeFabric_kept hk)
      (OptKept.orElse (writePower_kept hk) (OptKept.orElse (writeMgmt_kept hk) (writeDma_kept hk)))))))) t e
  · exact State.storeReg_kept hk

end Sys2Proof.Machine
end

