-- ==== Sys2Proof/Laws/KeptBus.lean ====
section
/-! SUPPORT. Bus: no operation disturbs the queue or the canonical form. -/

set_option linter.unusedSimpArgs false
set_option linter.unusedVariables false

namespace Sys2Proof.Machine

open Sys2Proof

theorem State.ctError_kept {s0 : State} {s : State} {p : Path} {code : Nat} {a : Nat} (hk : Kept s0 s) : Kept s0 (State.ctError s p code a) := by
  unfold State.ctError
  repeat' first
    | with_reducible assumption
    | with_reducible refine Kept.set ?_ _ _
    | with_reducible refine Kept.count ?_ _ _
    | with_reducible refine Kept.flag ?_ _ _ _

theorem State.codedRead_kept {s0 : State} {s : State} {m : Nat} {i : Nat} {v : Nat} {r : EccResult} (hk : Kept s0 s) : Kept s0 (State.codedRead s m i v r).2.2 := by
  unfold State.codedRead
  repeat' first
    | with_reducible assumption
    | with_reducible refine State.burnishWord_kept ?_
    | with_reducible refine State.corrected_kept ?_
    | with_reducible refine State.repairFails_kept ?_
    | with_reducible refine Kept.ite ?_ ?_
    | split
    | (intro; intro; intro)
theorem State.codedRead_keptE {s0 : State} {s : State} {m : Nat} {i : Nat} {v : Nat} {r : EccResult} {x0 x1} {t : State} (e : State.codedRead s m i v r = (x0, x1, t)) (hk : Kept s0 s) : Kept s0 t := by
  have k := State.codedRead_kept (s := s) (m := m) (i := i) (v := v) (r := r) hk
  rw [e] at k; exact k

theorem State.plateRead_kept {s0 : State} {s : State} {a : Nat} {r : EccResult} (hk : Kept s0 s) : Kept s0 (State.plateRead s a r).2.2 := by
  unfold State.plateRead
  repeat' first
    | with_reducible assumption
    | with_reducible refine State.codedRead_kept ?_
    | with_reducible refine State.fillPlate_kept ?_
    | with_reducible refine State.fillRead_kept ?_
    | split
theorem State.plateRead_keptE {s0 : State} {s : State} {a : Nat} {r : EccResult} {x0 x1} {t : State} (e : State.plateRead s a r = (x0, x1, t)) (hk : Kept s0 s) : Kept s0 t := by
  have k := State.plateRead_kept (s := s) (a := a) (r := r) hk
  rw [e] at k; exact k

theorem State.iramRead_kept {s0 : State} {s : State} {a : Nat} {r : EccResult} (hk : Kept s0 s) : Kept s0 (State.iramRead s a r).2.2 := by
  unfold State.iramRead
  repeat' first
    | with_reducible assumption
    | with_reducible refine State.codedRead_kept ?_
    | with_reducible refine State.fillRam_kept ?_
    | with_reducible refine State.fillRead_kept ?_
    | with_reducible refine Kept.ite ?_ ?_
theorem State.iramRead_keptE {s0 : State} {s : State} {a : Nat} {r : EccResult} {x0 x1} {t : State} (e : State.iramRead s a r = (x0, x1, t)) (hk : Kept s0 s) : Kept s0 t := by
  have k := State.iramRead_kept (s := s) (a := a) (r := r) hk
  rw [e] at k; exact k

theorem State.dramRead_kept {s0 : State} {s : State} {off : Nat} {be : Nat} {r : EccResult} (hk : Kept s0 s) : Kept s0 (State.dramRead s off be r).2.2 := by
  unfold State.dramRead
  repeat' first
    | with_reducible assumption
    | (apply State.codedRead_keptE; assumption)
    | with_reducible refine Kept.foldlSnd2 (fun _ _ _ => ?_) ?_
    | split
    | ((try lift_lets); intro x; subst x)
theorem State.dramRead_keptE {s0 : State} {s : State} {off : Nat} {be : Nat} {r : EccResult} {x0 x1} {t : State} (e : State.dramRead s off be r = (x0, x1, t)) (hk : Kept s0 s) : Kept s0 t := by
  have k := State.dramRead_kept (s := s) (off := off) (be := be) (r := r) hk
  rw [e] at k; exact k

theorem State.histRead_kept {s0 : State} {s : State} {a : Nat} (hk : Kept s0 s) : Kept s0 (State.histRead s a).2 := by
  unfold State.histRead
  repeat' first
    | with_reducible assumption
    | with_reducible refine Kept.draw ?_
    | (apply Kept.drawE; with_reducible assumption)
    | with_reducible refine Kept.ite ?_ ?_
    | split
    | ((try lift_lets); intro x; first | (refine (have hx : Kept s0 x := ?a; ?b); case' a => subst x; case' b => clear_value x) | (refine (have hx : Kept s0 x.2 := ?a; ?b); case' a => subst x; case' b => clear_value x) | (refine (have hx : Kept s0 x.1 := ?a; ?b); case' a => subst x; case' b => clear_value x) | (refine (have hx : Kept s0 x.2.2 := ?a; ?b); case' a => subst x; case' b => clear_value x) | (refine (have hx : ∀ t, Kept s0 t → Kept s0 (x t) := ?a; ?b); case' a => subst x; case' b => clear_value x) | (refine (have hx : ∀ t a, Kept s0 t → Kept s0 (x t a) := ?a; ?b); case' a => subst x; case' b => clear_value x) | (refine (have hx : ∀ a t, Kept s0 t → Kept s0 (x a t) := ?a; ?b); case' a => subst x; case' b => clear_value x) | subst x)
    | (intro; intro; intro)
theorem State.histRead_keptE {s0 : State} {s : State} {a : Nat} {x0} {t : State} (e : State.histRead s a = (x0, t)) (hk : Kept s0 s) : Kept s0 t := by
  have k := State.histRead_kept (s := s) (a := a) hk
  rw [e] at k; exact k

theorem State.regRead_kept {s0 : State} {s : State} {a : Nat} (hk : Kept s0 s) : Kept s0 (State.regRead s a).2.2 := by
  unfold State.regRead
  repeat' first
    | with_reducible assumption
    | with_reducible refine State.readReg_kept ?_
    | split
theorem State.regRead_keptE {s0 : State} {s : State} {a : Nat} {x0 x1} {t : State} (e : State.regRead s a = (x0, x1, t)) (hk : Kept s0 s) : Kept s0 t := by
  have k := State.regRead_kept (s := s) (a := a) hk
  rw [e] at k; exact k

theorem State.blockRead_kept {s0 : State} {s : State} {a : Nat} {r : EccResult} (hk : Kept s0 s) : Kept s0 (State.blockRead s a r).2.2 := by
  unfold State.blockRead
  repeat' first
    | with_reducible assumption
    | with_reducible refine State.codedRead_kept ?_
    | with_reducible refine State.histRead_kept ?_
    | with_reducible refine State.regRead_kept ?_
    | split
theorem State.blockRead_keptE {s0 : State} {s : State} {a : Nat} {r : EccResult} {x0 x1} {t : State} (e : State.blockRead s a r = (x0, x1, t)) (hk : Kept s0 s) : Kept s0 t := by
  have k := State.blockRead_kept (s := s) (a := a) (r := r) hk
  rw [e] at k; exact k

theorem State.busRead_kept {s0 : State} {s : State} {a : Nat} {be : Nat} {r : EccResult} (hk : Kept s0 s) : Kept s0 (State.busRead s a be r).2.2 := by
  unfold State.busRead
  repeat' first
    | with_reducible assumption
    | with_reducible refine State.blockRead_kept ?_
    | with_reducible refine State.dramRead_kept ?_
    | with_reducible refine State.iramRead_kept ?_
    | with_reducible refine State.plateRead_kept ?_
    | split
theorem State.busRead_keptE {s0 : State} {s : State} {a : Nat} {be : Nat} {r : EccResult} {x0 x1} {t : State} (e : State.busRead s a be r = (x0, x1, t)) (hk : Kept s0 s) : Kept s0 t := by
  have k := State.busRead_kept (s := s) (a := a) (be := be) (r := r) hk
  rw [e] at k; exact k

theorem State.dramStore_kept {s0 : State} {s : State} {off : Nat} {data : Nat} {be : Nat} (hk : Kept s0 s) : Kept s0 (State.dramStore s off data be) := by
  unfold State.dramStore
  repeat' first
    | with_reducible assumption
    | with_reducible refine State.dramWrite_kept ?_
    | with_reducible refine Kept.each (fun _ _ _ => ?_) ?_

theorem State.busWrite_kept {s0 : State} {s : State} {t : Txn} (hk : Kept s0 s) : Kept s0 (State.busWrite s t) := by
  unfold State.busWrite
  repeat' first
    | with_reducible assumption
    | with_reducible refine State.bufRamPut_kept ?_
    | with_reducible refine State.dramStore_kept ?_
    | with_reducible refine State.writeReg_kept ?_
    | with_reducible refine plateWindowWrite_kept ?_
    | with_reducible refine stageWrite_kept ?_
    | with_reducible refine Kept.ite ?_ ?_
    | split

theorem State.answered_kept {s0 : State} {s : State} {t : Txn} {status : Nat} {data : Nat} (hk : Kept s0 s) : Kept s0 (State.answered s t status data) := by
  unfold State.answered
  repeat' first
    | with_reducible assumption
    | with_reducible refine State.ctError_kept ?_
    | with_reducible refine Kept.iff (fun _ _ => ?_) ?_
    | simp only [Kept.mkSame]

theorem State.transact_kept {s0 : State} {s : State} {t : Txn} {r : EccResult} (hk : Kept s0 s) : Kept s0 (State.transact s t r) := by
  unfold State.transact
  repeat' first
    | with_reducible assumption
    | with_reducible refine State.answered_kept ?_
    | with_reducible refine State.busRead_kept ?_
    | with_reducible refine State.busWrite_kept ?_
    | with_reducible refine Kept.ite ?_ ?_

theorem State.serve_kept {s0 : State} {s : State} {m : CtMsg} {src : Source} {r : EccResult} {full : Bool} (hk : Kept s0 s) : Kept s0 (State.serve s m src r full) := by
  unfold State.serve
  repeat' first
    | with_reducible assumption
    | with_reducible refine State.answered_kept ?_
    | with_reducible refine State.response_kept ?_
    | with_reducible refine State.transact_kept ?_
    | with_reducible refine Kept.ite ?_ ?_

theorem readRequest_kept {s0 : State} {m : CtMsg} {r : EccResult} {full : Bool} {s : State} (hk : Kept s0 s) : Kept s0 (readRequest m r full s) := by
  unfold readRequest
  repeat' first
    | with_reducible assumption
    | with_reducible refine State.request_kept (fun _ _ => ?_) ?_
    | with_reducible refine State.serve_kept ?_

theorem writeRequest_kept {s0 : State} {m : CtMsg} {lane : Option Nat} {full : Bool} {s : State} (hk : Kept s0 s) : Kept s0 (writeRequest m lane full s) := by
  unfold writeRequest
  repeat' first
    | with_reducible assumption
    | with_reducible refine State.request_kept (fun _ _ => ?_) ?_
    | with_reducible refine State.serve_kept ?_

theorem State.dmaHalt_kept {s0 : State} {s : State} {c : Nat} {err : Nat} (hk : Kept s0 s) : Kept s0 (State.dmaHalt s c err) := by
  unfold State.dmaHalt
  repeat' first
    | with_reducible assumption
    | with_reducible refine Kept.set ?_ _ _
    | with_reducible refine Kept.raise ?_ _ _
    | simp only [Kept.mkMg]

theorem dmaWordTransfer_kept {s0 : State} {c : Nat} {r : EccResult} {s : State} (hk : Kept s0 s) : Kept s0 (dmaWordTransfer c r s) := by
  unfold dmaWordTransfer
  repeat' first
    | with_reducible assumption
    | with_reducible refine State.dmaHalt_kept ?_
    | with_reducible refine State.transact_kept ?_
    | with_reducible refine Kept.set ?_ _ _
    | split
    | simp only [Kept.mkMg]

theorem ctrlAccess_kept {s0 : State} {dr : Nat} {r : EccResult} {early : Bool} {s : State} (hk : Kept s0 s) : Kept s0 (ctrlAccess dr r early s) := by
  unfold ctrlAccess
  repeat' first
    | with_reducible assumption
    | with_reducible refine State.tapRun_kept ?_
    | with_reducible refine State.transact_kept ?_
    | with_reducible refine Kept.ite ?_ ?_
    | simp only [Kept.mkSame]

theorem State.entryValue_kept {s0 : State} {s : State} {bank : Nat} {row : Nat} (hk : Kept s0 s) : Kept s0 (State.entryValue s bank row).2 := by
  unfold State.entryValue
  repeat' first
    | with_reducible assumption
    | (apply Kept.drawE; with_reducible assumption)
    | split
    | ((try lift_lets); intro x; subst x)
theorem State.entryValue_keptE {s0 : State} {s : State} {bank : Nat} {row : Nat} {x0} {t : State} (e : State.entryValue s bank row = (x0, t)) (hk : Kept s0 s) : Kept s0 t := by
  have k := State.entryValue_kept (s := s) (bank := bank) (row := row) hk
  rw [e] at k; exact k

theorem State.entryRead_kept {s0 : State} {s : State} {bank row : Nat} {r : EccResult} (hk : Kept s0 s) :
    Kept s0 (State.entryRead s bank row r).2.2 := by
  have h1 : Kept s0 (if (s.prot.bufTest.map (·.word)) == some (markKey (entryMem bank) (entryIndex bank row)) then
      (s.fillRead (entryMem bank) (entryIndex bank row) r).fillTest else s) :=
    Kept.ite (State.fillTest_kept (State.fillRead_kept hk)) hk
  unfold State.entryRead
  extract_lets m i open_ s1 r1
  change Kept s0 s1 at h1
  clear_value s1 r1
  split
  · exact State.eccLast_kept h1
  · split
    · exact Kept.draw (State.setMark_kept h1)
    · split
      split
      · exact State.corrected_kept (State.entryValue_keptE (by assumption) h1)
      · exact State.entryValue_keptE (by assumption) h1
theorem State.entryRead_keptE {s0 : State} {s : State} {bank : Nat} {row : Nat} {r : EccResult} {x0 x1} {t : State} (e : State.entryRead s bank row r = (x0, x1, t)) (hk : Kept s0 s) : Kept s0 t := by
  have k := State.entryRead_kept (s := s) (bank := bank) (row := row) (r := r) hk
  rw [e] at k; exact k

theorem hsEntry_kept {s0 : State} {dr : Nat} {r : EccResult} {s : State} (hk : Kept s0 s) : Kept s0 (hsEntry dr r s) := by
  unfold hsEntry
  repeat' first
    | with_reducible assumption
    | with_reducible refine State.bufTestPut_kept ?_
    | with_reducible refine State.entryRead_kept ?_
    | with_reducible refine State.entryWrite_kept ?_
    | with_reducible refine State.tapRun_kept ?_
    | with_reducible refine Kept.ite ?_ ?_
    | simp only [Kept.mkSame]

theorem registerWrite_kept {s0 : State} {path : Path} {addr : Nat} {data : Nat} {be : Nat} {s : State} (hk : Kept s0 s) : Kept s0 (registerWrite path addr data be s) := by
  unfold registerWrite
  repeat' first
    | with_reducible assumption
    | with_reducible refine State.transact_kept ?_

theorem readClear_kept {s0 : State} {path : Path} {addr : Nat} {be : Nat} {s : State} (hk : Kept s0 s) : Kept s0 (readClear path addr be s) := by
  unfold readClear
  repeat' first
    | with_reducible assumption
    | with_reducible refine State.transact_kept ?_

theorem transactionTimeout_kept {s0 : State} {path : Path} {m : CtMsg} {took : Bool} {s : State} (hk : Kept s0 s) : Kept s0 (transactionTimeout path m took s) := by
  unfold transactionTimeout
  repeat' first
    | with_reducible assumption
    | with_reducible refine State.answered_kept ?_
    | with_reducible refine State.busWrite_kept ?_
    | with_reducible refine State.dmaHalt_kept ?_
    | with_reducible refine State.response_kept ?_
    | with_reducible refine Kept.iff (fun _ _ => ?_) ?_
    | split
    | simp only [Kept.mkSame]

end Sys2Proof.Machine
end

