-- ==== Sys2Proof/Laws/KeptStep.lean ====
section
/-! SUPPORT. Step: no operation disturbs the queue or the canonical form. -/

set_option linter.unusedSimpArgs false
set_option linter.unusedVariables false

namespace Sys2Proof.Machine

open Sys2Proof

theorem State.tick_kept {s0 : State} {s : State} (hk : Kept s0 s) : Kept s0 (State.tick s) := by
  unfold State.tick
  repeat' first
    | with_reducible assumption
    | with_reducible refine State.bucketEdge_kept ?_
    | with_reducible refine Kept.ite ?_ ?_
    | split
    | (intro; intro; intro)

end Sys2Proof.Machine
end

