-- ==== Sys2Proof/Tests/Slice0.lean ====
section
/-! SUPPORT. Tests: operands each check of WellFormed refuses, values of the spec's examples, and for every statement
with hypotheses a state and operands that meet them together. -/

namespace Sys2Proof.Tests

open Sys2Proof Sys2Proof.Machine

set_option Elab.async false
set_option maxRecDepth 20000

/-- What `f` reads of the state that command `c` leads to from `s`. -/
def after {α : Type} (c : Instr) (s : State) (f : State → α) : α :=
  match exec c s with
  | .next t => f t
  | _ => f s

/-! ## Ill-formed operands -/

theorem test_illformed_powerUp : (([.powerUp 2 0, .powerUp 0 256] : List Instr).any Instr.wf) = false := by decide
theorem test_illformed_svReset : (([.svReset 256] : List Instr).any Instr.wf) = false := by decide
theorem test_illformed_feedQualified : (([.feedQualified 2] : List Instr).any Instr.wf) = false := by decide
theorem test_illformed_feedOutOfRange : (([.feedOutOfRange 2] : List Instr).any Instr.wf) = false := by decide
theorem test_illformed_shutdownComplete : (([.shutdownComplete (.laneTx 48) true, .shutdownComplete (.laneRx 48) true,
  .shutdownComplete (.quadPll 12) true, .shutdownComplete (.feDie 3) true, .shutdownComplete (.unit 2) true] : List
  Instr).any Instr.wf) = false := by decide
theorem test_illformed_plateFcrcWrite : (([.plateFcrcWrite 8192 0, .plateFcrcWrite 0 65536] : List Instr).any
  Instr.wf) = false := by decide
theorem test_illformed_plateWindowWrite : (([.plateWindowWrite 0xC0000 0 15, .plateWindowWrite 2 0 15,
  .plateWindowWrite 0 (2 ^ 32) 15, .plateWindowWrite 0 0 16, .plateWindowWrite 0 0 0] : List Instr).any Instr.wf) =
  false := by decide
theorem test_illformed_plateCommit : (([.plateCommit (some (48))] : List Instr).any Instr.wf) = false := by decide
theorem test_illformed_reloadGo : (([.reloadGo 8192 0, .reloadGo 0 8] : List Instr).any Instr.wf) = false := by decide
theorem test_illformed_mtSnap : (([.mtSnap 32768] : List Instr).any Instr.wf) = false := by decide
theorem test_illformed_sourceSelect : (([.sourceSelect 4] : List Instr).any Instr.wf) = false := by decide
theorem test_illformed_sourceQualified : (([.sourceQualified true 48 0] : List Instr).any Instr.wf) = false := by
  decide
theorem test_illformed_orbitMarkerMismatch : (([.orbitMarkerMismatch 65536, .orbitMarkerMismatch 0] : List Instr).any
  Instr.wf) = false := by decide
theorem test_illformed_slewEnd : (([.slewEnd 3] : List Instr).any Instr.wf) = false := by decide
theorem test_illformed_fuGateEnd : (([.fuGateEnd (2 ^ 48) 0, .fuGateEnd 0 65536] : List Instr).any Instr.wf) = false
  := by decide
theorem test_illformed_testChargeInjection : (([.testChargeInjection 256] : List Instr).any Instr.wf) = false := by
  decide
theorem test_illformed_housekeepingConversion : (([.housekeepingConversion 256] : List Instr).any Instr.wf) = false :=
  by decide
theorem test_illformed_loopEngineTestSignal : (([.loopEngineTestSignal 256] : List Instr).any Instr.wf) = false := by
  decide
theorem test_illformed_burnishWindow : (([.burnishWindow 256] : List Instr).any Instr.wf) = false := by decide
theorem test_illformed_roleSwap : (([.roleSwap 256] : List Instr).any Instr.wf) = false := by decide
theorem test_illformed_partialPlateReload : (([.partialPlateReload 256] : List Instr).any Instr.wf) = false := by
  decide
theorem test_illformed_tileLifeRecordWrite : (([.tileLifeRecordWrite 256] : List Instr).any Instr.wf) = false := by
  decide
theorem test_illformed_codeDensityCalibrationRefresh : (([.codeDensityCalibrationRefresh 256] : List Instr).any
  Instr.wf) = false := by decide
theorem test_illformed_calendarReservedAction : (([.calendarReservedAction 256] : List Instr).any Instr.wf) = false :=
  by decide
theorem test_illformed_discriminatorLeadingEdge : (([.discriminatorLeadingEdge 1536 ⟨0, 0, 0, 0⟩,
  .discriminatorLeadingEdge 0 ⟨2 ^ 32, 0, 0, 0⟩, .discriminatorLeadingEdge 0 ⟨0, 65536, 0, 0⟩,
  .discriminatorLeadingEdge 0 ⟨0, 0, 32, 0⟩, .discriminatorLeadingEdge 0 ⟨0, 0, 0, 1024⟩] : List Instr).any Instr.wf)
  = false := by decide
theorem test_illformed_discriminatorTrailingEdge : (([.discriminatorTrailingEdge 1536 ⟨0, 0, 0, 0⟩ true true true,
  .discriminatorTrailingEdge 0 ⟨2 ^ 32, 0, 0, 0⟩ true true true, .discriminatorTrailingEdge 0 ⟨0, 65536, 0, 0⟩ true
  true true, .discriminatorTrailingEdge 0 ⟨0, 0, 32, 0⟩ true true true, .discriminatorTrailingEdge 0 ⟨0, 0, 0, 1024⟩
  true true true] : List Instr).any Instr.wf) = false := by decide
theorem test_illformed_totOverflow : (([.totOverflow 1536 true true] : List Instr).any Instr.wf) = false := by decide
theorem test_illformed_recoveryEnd : (([.recoveryEnd 1536 true 0 ⟨0, 0, 0, 0⟩, .recoveryEnd 0 true 0 ⟨2 ^ 32, 0, 0,
  0⟩, .recoveryEnd 0 true 0 ⟨0, 65536, 0, 0⟩, .recoveryEnd 0 true 0 ⟨0, 0, 32, 0⟩, .recoveryEnd 0 true 0 ⟨0, 0, 0,
  1024⟩] : List Instr).any Instr.wf) = false := by decide
theorem test_illformed_channelConfigWrite : (([.channelConfigWrite 3 0 0, .channelConfigWrite 0 512 0,
  .channelConfigWrite 0 0 (2 ^ 32)] : List Instr).any Instr.wf) = false := by decide
theorem test_illformed_stuckDetected : (([.stuckDetected 1536] : List Instr).any Instr.wf) = false := by decide
theorem test_illformed_rateLimitExceeded : (([.rateLimitExceeded 1536] : List Instr).any Instr.wf) = false := by
  decide
theorem test_illformed_automaskClear : (([.automaskClear 3 0 0, .automaskClear 0 16 0, .automaskClear 0 0 (2 ^ 32)] :
  List Instr).any Instr.wf) = false := by decide
theorem test_illformed_coarsePllLock : (([.coarsePllLock 3] : List Instr).any Instr.wf) = false := by decide
theorem test_illformed_coarsePllLoss : (([.coarsePllLoss 3] : List Instr).any Instr.wf) = false := by decide
theorem test_illformed_dllLock : (([.dllLock 3] : List Instr).any Instr.wf) = false := by decide
theorem test_illformed_dllUnlock : (([.dllUnlock 3] : List Instr).any Instr.wf) = false := by decide
theorem test_illformed_relock : (([.relock 3] : List Instr).any Instr.wf) = false := by decide
theorem test_illformed_cdFullRun : (([.cdFullRun 3] : List Instr).any Instr.wf) = false := by decide
theorem test_illformed_cdAbort : (([.cdAbort 3] : List Instr).any Instr.wf) = false := by decide
theorem test_illformed_cdSliceEnd : (([.cdSliceEnd 3 0 true] : List Instr).any Instr.wf) = false := by decide
theorem test_illformed_cdTablesComputed : (([.cdTablesComputed 3 (List.replicate 32 (List.replicate 1024 0)),
  .cdTablesComputed 0 [], .cdTablesComputed 0 (List.replicate 32 [])] : List Instr).any Instr.wf) = false := by decide
theorem test_illformed_binTableWrite : (([.binTableWrite 3 0 0 0, .binTableWrite 0 512 0 0, .binTableWrite 0 0 512 0,
  .binTableWrite 0 0 0 (2 ^ 32)] : List Instr).any Instr.wf) = false := by decide
theorem test_illformed_hitMerge : (([.hitMerge 3 true] : List Instr).any Instr.wf) = false := by decide
theorem test_illformed_bucketSeal : (([.bucketSeal []] : List Instr).any Instr.wf) = false := by decide
theorem test_illformed_storeRowWrite : (([.storeRowWrite (2 ^ 20)] : List Instr).any Instr.wf) = false := by decide
theorem test_illformed_ageOut : (([.ageOut true (some (2 ^ 20))] : List Instr).any Instr.wf) = false := by decide
theorem test_illformed_bankRetire : (([.bankRetire 65536] : List Instr).any Instr.wf) = false := by decide
theorem test_illformed_bankClearDone : (([.bankClearDone 16] : List Instr).any Instr.wf) = false := by decide
theorem test_illformed_rowSpared : (([.rowSpared 2 0, .rowSpared 0 (2 ^ 20)] : List Instr).any Instr.wf) = false := by
  decide
theorem test_illformed_mapPeriodClose : (([.mapPeriodClose (2 ^ 32) 0 0 [], .mapPeriodClose 0 65536 0 [],
  .mapPeriodClose 0 0 8 [], .mapPeriodClose 0 0 0 [98304]] : List Instr).any Instr.wf) = false := by decide
theorem test_illformed_chaserTimerExpiry : (([.chaserTimerExpiry 32 0, .chaserTimerExpiry 0 2] : List Instr).any
  Instr.wf) = false := by decide
theorem test_illformed_acceptCommand : (([.acceptCommand (2 ^ 64)] : List Instr).any Instr.wf) = false := by decide
theorem test_illformed_recordBucketRead : (([.recordBucketRead 10240 ⟨false, none, [], false, [], []⟩,
  .recordBucketRead 0 ⟨false, some (2 ^ 20), [], false, [], []⟩, .recordBucketRead 0 ⟨false, none, [(16, 0)], false,
  [], []⟩, .recordBucketRead 0 ⟨false, none, [(0, 2 ^ 20)], false, [], []⟩, .recordBucketRead 0 ⟨false, none, [],
  false, [98304], []⟩, .recordBucketRead 0 ⟨false, none, [], false, [], [(11, 0)]⟩, .recordBucketRead 0 ⟨false, none,
  [], false, [], [(1, 2 ^ 24)]⟩] : List Instr).any Instr.wf) = false := by decide
theorem test_illformed_recordComplete : (([.recordComplete 10240] : List Instr).any Instr.wf) = false := by decide
theorem test_illformed_freezeArm : (([.freezeArm 16384] : List Instr).any Instr.wf) = false := by decide
theorem test_illformed_freezeDisarm : (([.freezeDisarm 16384] : List Instr).any Instr.wf) = false := by decide
theorem test_illformed_dumpGo : (([.dumpGo 16 0, .dumpGo 0 16384] : List Instr).any Instr.wf) = false := by decide
theorem test_illformed_blockSend : (([.blockSend 6 none] : List Instr).any Instr.wf) = false := by decide
theorem test_illformed_creditReceived : (([.creditReceived 6 0 0 true, .creditReceived 0 65536 0 true, .creditReceived
  0 0 65536 true] : List Instr).any Instr.wf) = false := by decide
theorem test_illformed_resendTimeout : (([.resendTimeout 6] : List Instr).any Instr.wf) = false := by decide
theorem test_illformed_blockReceived : (([.blockReceived 6 ⟨[], []⟩, .blockReceived 0 ⟨[(4, 0)], []⟩, .blockReceived 0
  ⟨[(0, 2 ^ 64)], []⟩, .blockReceived 0 ⟨[], [256]⟩] : List Instr).any Instr.wf) = false := by decide
theorem test_illformed_creditTimer : (([.creditTimer 6] : List Instr).any Instr.wf) = false := by decide
theorem test_illformed_mergeTimeout : (([.mergeTimeout (2 ^ 40)] : List Instr).any Instr.wf) = false := by decide
theorem test_illformed_frameTransmit : (([.frameTransmit 48] : List Instr).any Instr.wf) = false := by decide
theorem test_illformed_frameReceived : (([.frameReceived 48 ⟨0, 0, true⟩, .frameReceived 0 ⟨64, 0, true⟩] : List
  Instr).any Instr.wf) = false := by decide
theorem test_illformed_frameRelease : (([.frameRelease 48 0, .frameRelease 0 4096] : List Instr).any Instr.wf) = false
  := by decide
theorem test_illformed_symbolLock : (([.symbolLock 48 0, .symbolLock 0 4096] : List Instr).any Instr.wf) = false := by
  decide
theorem test_illformed_lockLost : (([.lockLost 48 true] : List Instr).any Instr.wf) = false := by decide
theorem test_illformed_slipWrite : (([.slipWrite 48 0, .slipWrite 0 4096] : List Instr).any Instr.wf) = false := by
  decide
theorem test_illformed_eyeMeasurement : (([.eyeMeasurement 48 0 true true, .eyeMeasurement 0 256 true true] : List
  Instr).any Instr.wf) = false := by decide
theorem test_illformed_lanePowerRequest : (([.lanePowerRequest 48 0 0 none, .lanePowerRequest 0 4 0 none,
  .lanePowerRequest 0 0 4 none, .lanePowerRequest 0 0 0 (some (48))] : List Instr).any Instr.wf) = false := by decide
theorem test_illformed_laneWakeDone : (([.laneWakeDone 48 true] : List Instr).any Instr.wf) = false := by decide
theorem test_illformed_laneLoopSelect : (([.laneLoopSelect 48 0 0, .laneLoopSelect 0 4 0, .laneLoopSelect 0 0 4] :
  List Instr).any Instr.wf) = false := by decide
theorem test_illformed_laneOut : (([.laneOut 48 true none, .laneOut 0 true (some (48))] : List Instr).any Instr.wf) =
  false := by decide
theorem test_illformed_laneFailed : (([.laneFailed 48 true] : List Instr).any Instr.wf) = false := by decide
theorem test_illformed_spareServeWrite : (([.spareServeWrite 6 0, .spareServeWrite 0 256] : List Instr).any Instr.wf)
  = false := by decide
theorem test_illformed_laneRejoin : (([.laneRejoin 48] : List Instr).any Instr.wf) = false := by decide
theorem test_illformed_pllUnlock : (([.pllUnlock 12] : List Instr).any Instr.wf) = false := by decide
theorem test_illformed_readRequest : (([.readRequest ⟨2 ^ 64, []⟩ .clean true, .readRequest ⟨0, [0, 0, 0, 0]⟩ .clean
  true, .readRequest ⟨0, [2 ^ 64]⟩ .clean true] : List Instr).any Instr.wf) = false := by decide
theorem test_illformed_writeRequest : (([.writeRequest ⟨2 ^ 64, []⟩ none true, .writeRequest ⟨0, [0, 0, 0, 0]⟩ none
  true, .writeRequest ⟨0, [2 ^ 64]⟩ none true, .writeRequest ⟨0, []⟩ (some (48)) true] : List Instr).any Instr.wf) =
  false := by decide
theorem test_illformed_readResponse : (([.readResponse ⟨2 ^ 64, []⟩, .readResponse ⟨0, [0, 0, 0, 0]⟩, .readResponse
  ⟨0, [2 ^ 64]⟩] : List Instr).any Instr.wf) = false := by decide
theorem test_illformed_writeResponse : (([.writeResponse ⟨2 ^ 64, []⟩, .writeResponse ⟨0, [0, 0, 0, 0]⟩,
  .writeResponse ⟨0, [2 ^ 64]⟩] : List Instr).any Instr.wf) = false := by decide
theorem test_illformed_probe : (([.probe 48 ⟨0, []⟩, .probe 0 ⟨2 ^ 64, []⟩, .probe 0 ⟨0, [0, 0, 0, 0]⟩, .probe 0 ⟨0,
  [2 ^ 64]⟩] : List Instr).any Instr.wf) = false := by decide
theorem test_illformed_probeAnswer : (([.probeAnswer 6 ⟨0, []⟩, .probeAnswer 0 ⟨2 ^ 64, []⟩, .probeAnswer 0 ⟨0, [0, 0,
  0, 0]⟩, .probeAnswer 0 ⟨0, [2 ^ 64]⟩] : List Instr).any Instr.wf) = false := by decide
theorem test_illformed_assign : (([.assign 48 ⟨0, []⟩, .assign 0 ⟨2 ^ 64, []⟩, .assign 0 ⟨0, [0, 0, 0, 0]⟩, .assign 0
  ⟨0, [2 ^ 64]⟩] : List Instr).any Instr.wf) = false := by decide
theorem test_illformed_discProbe : (([.discProbe 6] : List Instr).any Instr.wf) = false := by decide
theorem test_illformed_discAssign : (([.discAssign 6] : List Instr).any Instr.wf) = false := by decide
theorem test_illformed_fcMtLoad : (([.fcMtLoad ⟨6, 0⟩, .fcMtLoad ⟨0, 2 ^ 64⟩] : List Instr).any Instr.wf) = false :=
  by decide
theorem test_illformed_startAcquisition : (([.startAcquisition ⟨6, 0⟩, .startAcquisition ⟨0, 2 ^ 64⟩] : List
  Instr).any Instr.wf) = false := by decide
theorem test_illformed_stopAcquisition : (([.stopAcquisition ⟨6, 0⟩, .stopAcquisition ⟨0, 2 ^ 64⟩] : List Instr).any
  Instr.wf) = false := by decide
theorem test_illformed_forceFreeze : (([.forceFreeze ⟨6, 0⟩, .forceFreeze ⟨0, 2 ^ 64⟩] : List Instr).any Instr.wf) =
  false := by decide
theorem test_illformed_histogramSwap : (([.histogramSwap ⟨6, 0⟩, .histogramSwap ⟨0, 2 ^ 64⟩] : List Instr).any
  Instr.wf) = false := by decide
theorem test_illformed_frameGap : (([.frameGap 6 0, .frameGap 0 (2 ^ 64)] : List Instr).any Instr.wf) = false := by
  decide
theorem test_illformed_acceptLost : (([.acceptLost 6 0, .acceptLost 0 (2 ^ 64)] : List Instr).any Instr.wf) = false :=
  by decide
theorem test_illformed_portLost : (([.portLost 6 true] : List Instr).any Instr.wf) = false := by decide
theorem test_illformed_portRegained : (([.portRegained 6 true] : List Instr).any Instr.wf) = false := by decide
theorem test_illformed_pdelayReq : (([.pdelayReq 6 0 0, .pdelayReq 0 16 0] : List Instr).any Instr.wf) = false := by
  decide
theorem test_illformed_pdelayResp : (([.pdelayResp 6 0 0 0, .pdelayResp 0 16 0 0] : List Instr).any Instr.wf) = false
  := by decide
theorem test_illformed_sync : (([.sync (2 ^ 64) 0] : List Instr).any Instr.wf) = false := by decide
theorem test_illformed_announce : (([.announce (2 ^ 64)] : List Instr).any Instr.wf) = false := by decide
theorem test_illformed_criticalWordVote : (([.criticalWordVote 2 0 [0, 0, 0] 0, .criticalWordVote 0 64 [0, 0, 0] 0,
  .criticalWordVote 0 0 [0, 0, 2 ^ 69] 0, .criticalWordVote 0 0 [] 0, .criticalWordVote 0 0 [0, 0, 0] 4] : List
  Instr).any Instr.wf) = false := by decide
theorem test_illformed_mergeBufferTimeout : (([.mergeBufferTimeout 3 .clean] : List Instr).any Instr.wf) = false := by
  decide
theorem test_illformed_patrolRead : (([.patrolRead 11 .clean none, .patrolRead 0 .clean none] : List Instr).any
  Instr.wf) = false := by decide
theorem test_illformed_faultWindowExpiry : (([.faultWindowExpiry 5 0 0, .faultWindowExpiry 0 16 0, .faultWindowExpiry
  0 0 (2 ^ 24)] : List Instr).any Instr.wf) = false := by decide
theorem test_illformed_burnishPassGo : (([.burnishPassGo 16] : List Instr).any Instr.wf) = false := by decide
theorem test_illformed_burnishDone : (([.burnishDone (2 ^ 32)] : List Instr).any Instr.wf) = false := by decide
theorem test_illformed_loopSample : (([.loopSample 2 0 0 true true true] : List Instr).any Instr.wf) = false := by
  decide
theorem test_illformed_leCommit : (([.leCommit 3] : List Instr).any Instr.wf) = false := by decide
theorem test_illformed_leUseHost : (([.leUseHost 3 true] : List Instr).any Instr.wf) = false := by decide
theorem test_illformed_injDone : (([.injDone 3] : List Instr).any Instr.wf) = false := by decide
theorem test_illformed_heartbeatLost : (([.heartbeatLost 2] : List Instr).any Instr.wf) = false := by decide
theorem test_illformed_arbiterLost : (([.arbiterLost 2 true] : List Instr).any Instr.wf) = false := by decide
theorem test_illformed_unitOvertemperature : (([.unitOvertemperature 2] : List Instr).any Instr.wf) = false := by
  decide
theorem test_illformed_puOut : (([.puOut 2 true] : List Instr).any Instr.wf) = false := by decide
theorem test_illformed_puFaultClear : (([.puFaultClear 2] : List Instr).any Instr.wf) = false := by decide
theorem test_illformed_strapSample : (([.strapSample 256] : List Instr).any Instr.wf) = false := by decide
theorem test_illformed_channelOpen : (([.channelOpen 2] : List Instr).any Instr.wf) = false := by decide
theorem test_illformed_channelClosed : (([.channelClosed 2] : List Instr).any Instr.wf) = false := by decide
theorem test_illformed_pulseMissing : (([.pulseMissing 2] : List Instr).any Instr.wf) = false := by decide
theorem test_illformed_chatter : (([.chatter 2] : List Instr).any Instr.wf) = false := by decide
theorem test_illformed_chatterEnd : (([.chatterEnd 2] : List Instr).any Instr.wf) = false := by decide
theorem test_illformed_darkTestPulse : (([.darkTestPulse 2] : List Instr).any Instr.wf) = false := by decide
theorem test_illformed_darkPulseEnd : (([.darkPulseEnd 2 true true] : List Instr).any Instr.wf) = false := by decide
theorem test_illformed_tileIdReadDone : (([.tileIdReadDone true [256]] : List Instr).any Instr.wf) = false := by
  decide
theorem test_illformed_i2cGo : (([.i2cGo true 32 0, .i2cGo true 0 65536] : List Instr).any Instr.wf) = false := by
  decide
theorem test_illformed_i2cDone : (([.i2cDone true [256]] : List Instr).any Instr.wf) = false := by decide
theorem test_illformed_regionLoopSample : (([.regionLoopSample 96 true true] : List Instr).any Instr.wf) = false := by
  decide
theorem test_illformed_loopEnable : (([.loopEnable 96 true 0 0, .loopEnable 0 true 8 0, .loopEnable 0 true 0 4096] :
  List Instr).any Instr.wf) = false := by decide
theorem test_illformed_uptimeRead : (([.uptimeRead (2 ^ 64)] : List Instr).any Instr.wf) = false := by decide
theorem test_illformed_dmaGo : (([.dmaGo 8, .dmaGo 0] : List Instr).any Instr.wf) = false := by decide
theorem test_illformed_dmaAbort : (([.dmaAbort 8, .dmaAbort 0] : List Instr).any Instr.wf) = false := by decide
theorem test_illformed_dmaWordTransfer : (([.dmaWordTransfer 8 .clean, .dmaWordTransfer 0 .clean] : List Instr).any
  Instr.wf) = false := by decide
theorem test_illformed_eventService : (([.eventService (2 ^ 64)] : List Instr).any Instr.wf) = false := by decide
theorem test_illformed_hkConversionDone : (([.hkConversionDone 16384 0, .hkConversionDone 0 (2 ^ 64)] : List
  Instr).any Instr.wf) = false := by decide
theorem test_illformed_hkInject : (([.hkInject 64] : List Instr).any Instr.wf) = false := by decide
theorem test_illformed_calDone : (([.calDone 65536 0, .calDone 0 65536] : List Instr).any Instr.wf) = false := by
  decide
theorem test_illformed_feServiceWrite : (([.feServiceWrite (2 ^ 32)] : List Instr).any Instr.wf) = false := by decide
theorem test_illformed_feSvc : (([.feSvc 3] : List Instr).any Instr.wf) = false := by decide
theorem test_illformed_assayGo : (([.assayGo 16 0, .assayGo 0 64] : List Instr).any Instr.wf) = false := by decide
theorem test_illformed_assayDone : (([.assayDone 16 0 0 0, .assayDone 0 0 (2 ^ 20) 0] : List Instr).any Instr.wf) =
  false := by decide
theorem test_illformed_extest : (([.extest (2 ^ 23)] : List Instr).any Instr.wf) = false := by decide
theorem test_illformed_samplePreload : (([.samplePreload (2 ^ 23) 0, .samplePreload 0 (2 ^ 23)] : List Instr).any
  Instr.wf) = false := by decide
theorem test_illformed_bypass : (([.bypass 256, .bypass 0x00, .bypass 0x01, .bypass 0x02, .bypass 0x20, .bypass 0x21]
  : List Instr).any Instr.wf) = false := by decide
theorem test_illformed_ctrlAccess : (([.ctrlAccess (2 ^ 72) .clean true] : List Instr).any Instr.wf) = false := by
  decide
theorem test_illformed_hsEntry : (([.hsEntry (2 ^ 104) .clean] : List Instr).any Instr.wf) = false := by decide
theorem test_illformed_registerWrite : (([.registerWrite (.dma 0) 0 0 15, .registerWrite (.dma 8) 0 0 15,
  .registerWrite .core (2 ^ 32) 0 15, .registerWrite .core 0 (2 ^ 32) 15, .registerWrite .core 0 0 16] : List
  Instr).any Instr.wf) = false := by decide
theorem test_illformed_readClear : (([.readClear (.dma 0) 0 15, .readClear (.dma 8) 0 15, .readClear .core (2 ^ 32)
  15, .readClear .core 0 16] : List Instr).any Instr.wf) = false := by decide
theorem test_illformed_transactionTimeout : (([.transactionTimeout (.dma 0) ⟨0, []⟩ true, .transactionTimeout (.dma 8)
  ⟨0, []⟩ true, .transactionTimeout .core ⟨2 ^ 64, []⟩ true, .transactionTimeout .core ⟨0, [0, 0, 0, 0]⟩ true,
  .transactionTimeout .core ⟨0, [2 ^ 64]⟩ true, .transactionTimeout .core ⟨2 * 2 ^ 60, []⟩ true] : List Instr).any
  Instr.wf) = false := by decide
theorem test_illformed_loopCheckerPattern : (([.loopCheckerPattern 48 0 0] : List Instr).any Instr.wf) = false := by
  decide
theorem test_illformed_puTempWarning : (([.puTempWarning 2] : List Instr).any Instr.wf) = false := by decide
theorem test_illformed_arbiterHeartbeatRegained : (([.arbiterHeartbeatRegained 2] : List Instr).any Instr.wf) = false
  := by decide
theorem test_illformed_interlockDarkPulse : (([.interlockDarkPulse 2] : List Instr).any Instr.wf) = false := by decide

/-! ## Values of the spec's examples -/

/-- Time-to-Digital Conversion, Example 1: toa, tot and the hit word 0x6590_03AC_E202_0001. -/
theorem test_hit_word : toaOf 320016 (-24) = (0, 20000) ∧ totOf (385552 - 320016) = (0x200, false) ∧
    hitWord 1202 117 20000 0x200 1 = 0x659003ACE2020001 := by decide

/-- Hit Store and Bucket Queues, Example 1: the descriptor and the link words. -/
theorem test_descriptor_words :
    Desc.words ⟨0x20A40, 0x07F13, 37, 0, false, 0, 9000, 117, 0, true, true⟩ = [0x20A4007F13025000, 0x0000232800750003] ∧
    linkWord 0 15 0xFFDF 0x20A41 = 0x000000FFFDF20A41 ∧ linkWord 0 7 0xFFDF 0x07F13 = 0x0000007FFDF07F13 := by decide

/-- Power Feeds, Redundant Units and the Loop Engine, Example 1: PU-A with the host set before the sample. -/
def puBefore : State :=
  let s := ((State.reset.set (PU_STATUS_role 0) 2).set (LE_CTRL_closed 0) 1).set (LE_CTRL_host_in_force 0) 1
  let s := s.setEngine 0 { s.engine 0 with host := ⟨10000, 0x666, 0xE666, 500, 200, 0xC0000, 0x51EC, 0, 0x80000, 0⟩ }
  s.setUnit 0 { s.unit 0 with loop := ⟨0x36B000000, 0, 18, 0, 0⟩ }

/-- The same example: PU_LE_OUT, PU_LE_INT_LO and PU_LE_INT_HI after the sample. -/
theorem test_pu_sample : after (.loopSample 0 9980 2100 true false false) puBefore (fun t =>
    (t.get (LE_OUT_u 0), t.get (LE_INT_LO_int 0), t.get (LE_INT_HI_int 0))) = (0x3AD9, 0x6B066670, 3) := by decide +kernel

/-- The Brodtu Fabric, Example 1: SYNC as M3 receives it gives FB_TIME_D 0x0001_53E8. -/
theorem test_sync_delay : after (.sync 0x2A0064700001EAA0 (101 * 32768 + 20480))
    ((((State.reset.set FB_ADDR_valid 1).set CX_MT_STATUS_src_lane 8).set (FB_LINK_valid 1) 1).set (FB_LINK_delay 1) 328)
    (fun t => t.get FB_TIME_D_d) = 0x153E8 := by decide +kernel

/-- Management Subsystem and Housekeeping, Example 1: buffer word 22 and the result of input 0. -/
theorem test_hk_words : hkWord 40 false false 5 200 = 0xA00500C8 ∧ hkWord 14 false true 5 10000 = 0x39052710 ∧
    hkWord 0 false true 0 7600 = 0x01001DB0 := by decide

/-- The Sensor Tile, Example 1: the trim of a base of 309 at outputs 32,768 and 32,767. -/
theorem test_region_trim : loopTrim 309 32768 = 309 ∧ loopTrim 309 32767 = 310 := by decide

/-- Start-up, Assay and In-Service Repair: the device identification. -/
theorem test_idcode : after .idcode State.reset (fun t => t.svc.tap.tdo) = 0x1153654B := by decide

/-- No row of the table gives bits, so no word spells a command. -/
theorem test_no_word_decodes (n w : Nat) : decodeTableWord n w = none := rfl

/-- Reset values of the register tables: N_B − 1, closing period, resend time. -/
theorem test_reset_values : (State.reset.get CX_MT_ORBIT_LEN_nb_m1, State.reset.get TG_PATH_close,
    State.reset.get CX_STR_CTRL_resend_us) = (0x0B3F, 0x1F, 0x64) := by decide

/-- A read of CX_MT_ORBIT_LEN after reset answers its reset value on every path (R16, R544). -/
theorem test_read_orbit_len : after (.readClear .test 0x10000108 15) State.reset (fun t => t.answer) = (0, 0x0B3F) := by
  decide +kernel

/-- R143: a cleared auto-mask ends with the next bucket edge, not before. -/
theorem test_automaskClearNextEdge : (match exec (.automaskClear 0 1 2)
    ((((({ State.reset with mt := { State.reset.mt with running := true } } : State).set (FE_AUTOMASK_row 0 1) 3).set
      (FE_CH_CFG_mask 0 33) 0).set (FE_CH_CFG_mask 0 32) 0).set (FE_CTRL_die_mask 0) 0) with
    | .next u => [u.get (FE_AUTOMASK_row 0 1), b2n (u.maskedAt 33 u.clock), b2n (u.maskedAt 33 (u.clock + 1)),
        b2n (u.maskedAt 32 (u.clock + 1))]
    | _ => []) = [1, 1, 0, 1] := by decide

/-- R118: a write of an entry in the bucket before its own comes too late for that firing, and not for one 2 bk on. -/
theorem test_calendarLateWrite : ([101, 102].map fun b =>
    match exec (.registerWrite .test (CX_CAL_CTRL_enable 9).addr 0x87000123 15) (((fun s => (((((((({ s with mt := { State.reset.mt with running := true, bucket := 100, orbit := 6 } } : State).set (CX_CAL_EN_enable) 1).set (CX_CAL_CTRL_enable 9) 1).set (CX_CAL_TIME_bucket 9) b).set (CX_CAL_OMASK_mask 9) 3).set (CX_CAL_OVAL_value 9) 2).set (CX_CAL_CTRL_action 9) 7).set (CX_CAL_CTRL_argument 9) 4660)) State.reset)) with
    | .next u => match exec (.tileLifeRecordWrite 9) u with
      | .next t => Sparse.get 0 57 t.evReq
      | _ => 0
    | _ => 0) = [4660, 0x123] := by decide

/-! ## Hypotheses that are met -/

/-- A row of a histogram with 256 stamps in every bin. -/
theorem hist_getD {q : Nat} (h : q < 32) : (List.replicate 32 (List.replicate 1024 256)).getD q [] =
    List.replicate 1024 256 := by
  generalize List.replicate 1024 256 = x
  simp only [List.getD_eq_getElem?_getD, List.getElem?_replicate, h, ↓reduceIte, Option.getD_some]

/-- The header of an ID memory image, with its CRC. -/
def idHeader : List Nat := [0x54, 0x47, 0x54, 0x4C, 1, 0, 2, 0, 0x78, 0x56, 0x34, 0x12, 0xEF, 0xBE, 0xAD, 0xDE, 16, 0, 0, 0, 100, 0, 0, 0, 7, 0, 0, 0, 9, 0, 0, 0] ++ List.replicate 30 0 ++ [88, 130]
/-- An ID memory image: header, pad map, life slots, with their CRCs. -/
def idImage (pads slots : List Nat) : List Nat := idHeader ++ (pads ++ ([crc16 pads % 256, crc16 pads / 256] ++ slots))

theorem crc16_lt (l : List Nat) : crc16 l < 65536 := by
  have step : ∀ (bs : List Bool) (r : Nat), r < 2 ^ 16 → bs.foldl (crcBit 16 0x1021) r < 2 ^ 16 := by
    intro bs
    induction bs with
    | nil => intro r h; exact h
    | cons b bs ih =>
      intro r h
      refine ih _ ?_
      have h2 : r * 2 % 2 ^ 16 < 2 ^ 16 := Nat.mod_lt _ (by decide)
      unfold crcBit
      split
      · exact Nat.xor_lt_two_pow h2 (by decide)
      · exact h2
  exact step _ _ (by decide)

theorem idImage_bytes {pads slots : List Nat} (hp : (pads.all fun x => decide (x < 256)) = true)
    (hs : (slots.all fun x => decide (x < 256)) = true) : ((idImage pads slots).all fun x => decide (x < 256)) = true := by
  have hc := crc16_lt pads
  simp only [idImage, List.all_append, Bool.and_eq_true, List.all_cons, List.all_nil, decide_eq_true_eq, Bool.and_true]
  exact ⟨by decide, hp, ⟨Nat.mod_lt _ (by decide), by omega⟩, hs⟩

theorem idImage_header (pads slots : List Nat) : idHeaderOk (idImage pads slots) = true := by
  have hl : idHeader.length = 64 := by decide
  have key : ∀ a n, a + n ≤ 64 → idBytes (idImage pads slots) a n = idBytes idHeader a n := by
    intro a n h
    have ha : a < 0x800 := by omega
    simp only [idBytes, if_pos ha, idImage]
    rw [List.drop_append_of_le_length (by omega), List.take_append_of_le_length (by simp [hl]; omega)]
  have num : ∀ a n, a + n ≤ 64 → idNum (idImage pads slots) a n = idNum idHeader a n := fun a n h => by
    simp only [idNum, key a n h]
  simp only [idHeaderOk, key 0 4 (by omega), key 0 0x3E (by omega), num 4 2 (by omega), num 6 1 (by omega),
    num 0x10 2 (by omega), num 0x3E 2 (by omega)]
  decide +kernel

theorem idImage_pads {pads : List Nat} (slots : List Nat) (hp : pads.length = 1536) :
    idNum (idImage pads slots) 0x640 2 = crc16 (idBytes (idImage pads slots) 0x40 0x600) := by
  have hl : idHeader.length = 64 := by decide
  have hc := crc16_lt pads
  have e1 : idBytes (idImage pads slots) 0x40 0x600 = pads := by
    simp only [idBytes, idImage]
    rw [if_pos (by decide), List.drop_append_of_le_length (by omega), List.drop_of_length_le (by omega), List.nil_append,
      List.take_append_of_le_length (by omega), List.take_of_length_le (by omega)]
  have e2 : idBytes (idImage pads slots) 0x640 2 = [crc16 pads % 256, crc16 pads / 256] := by
    have h2 : (idHeader ++ pads).length = 1600 := by rw [List.length_append, hl, hp]
    simp only [idBytes, idImage]
    rw [if_pos (by decide), ← List.append_assoc, List.drop_append_of_le_length (by omega), List.drop_of_length_le (by omega),
      List.nil_append, List.take_append_of_le_length (Nat.le_refl 2), List.take_of_length_le (Nat.le_refl 2)]
  rw [e1]
  simp only [idNum, e2, ofBytes]
  omega

theorem drop_past {l m : List Nat} {n : Nat} (k : Nat) (h : l.length = n) : (l ++ m).drop (k + n) = m.drop k := by
  subst h
  rw [Nat.add_comm, ← List.drop_drop, List.drop_append_of_le_length (Nat.le_refl _), List.drop_length, List.nil_append]

theorem idImage_late {pads : List Nat} (slots : List Nat) (a n : Nat) (hp : pads.length = 1536) (ha : 0x800 ≤ a) :
    idBytes (idImage pads slots) a n = (slots.drop (a - 0x800)).take n := by
  have hl : idHeader.length = 64 := by decide
  have h2 : (idHeader ++ (pads ++ [crc16 pads % 256, crc16 pads / 256])).length = 0x642 := by
    rw [List.length_append, List.length_append, hl, hp]; rfl
  have e : idImage pads slots = (idHeader ++ (pads ++ [crc16 pads % 256, crc16 pads / 256])) ++ slots := by
    simp only [idImage, List.append_assoc]
  rw [idBytes, if_neg (by omega), e, drop_past _ h2]

theorem idImage_newest {pads slots : List Nat} (hp : pads.length = 1536) :
    idNewest (idImage pads slots) = idNewest (List.replicate 0x642 0 ++ slots) := by
  have key : ∀ a n, 0x800 ≤ a → idBytes (idImage pads slots) a n = idBytes (List.replicate 0x642 0 ++ slots) a n := by
    intro a n h
    rw [idImage_late slots a n hp h, idBytes, if_neg (by omega), drop_past _ List.length_replicate]
  have num : ∀ a n, 0x800 ≤ a → idNum (idImage pads slots) a n = idNum (List.replicate 0x642 0 ++ slots) a n := fun a n h => by
    simp only [idNum, key a n h]
  have ok : idSlotOk (idImage pads slots) = idSlotOk (List.replicate 0x642 0 ++ slots) := by
    funext k
    simp only [idSlotOk, num (0x800 + 64 * k + 0x3E) 2 (by omega), key (0x800 + 64 * k) 0x3E (by omega)]
  simp only [idNewest, ok]
  congr 1
  funext best k
  cases best with
  | none => rfl
  | some j => simp only [num (0x800 + 64 * j) 4 (by omega), num (0x800 + 64 * k) 4 (by omega)]

theorem newest_none : idNewest (List.replicate 0x642 0 ++ List.replicate 1024 0) = none := by decide +kernel
/-- Slot 2 holds a life record of sequence number 5. -/
def idSlots : List Nat := List.replicate 128 0 ++ ([5, 0, 0, 0, 100, 0, 0, 0, 0, 0, 0, 0, 3, 0, 0, 0, 4, 0, 0, 0] ++ List.replicate 42 0 ++ [132, 252]) ++ List.replicate 832 0
theorem newest_two : idNewest (List.replicate 0x642 0 ++ idSlots) = some 2 := by decide +kernel

theorem witness_StepRunsFrontCommand : ∃ (c : Instr) (rest : List Instr) (s : State), s.pending = c :: rest :=
  ⟨.refLost, [.refBack], { State.reset with pending := [.refLost, .refBack] }, rfl⟩

theorem witness_IdleStepPassesOneBucketEdge_stopped : ∃ s : State, s.pending = [] ∧ s.mt.running = false :=
  ⟨State.reset, rfl, rfl⟩

theorem witness_IdleStepPassesOneBucketEdge_within : ∃ s : State, s.pending = [] ∧ s.mt.running = true ∧ s.mt.bucket +
  1 < s.mt.nb ∧ s.stopDue = false ∧ s.mt.held = false :=
  ⟨{ State.reset with mt := { State.reset.mt with running := true } }, rfl, rfl, by decide, rfl, rfl⟩

theorem witness_IdleStepPassesOneBucketEdge_last : ∃ s : State, s.pending = [] ∧ s.mt.running = true ∧ s.mt.nb =
  s.mt.bucket + 1 ∧ s.mt.held = false ∧ s.stopDue = false :=
  ⟨{ State.reset with mt := { State.reset.mt with running := true, bucket := 2879 } }, rfl, rfl, rfl, rfl, rfl⟩

theorem witness_CommandsComplete_illFormed : ∃ c : Instr, c.wf = false :=
  ⟨.feedQualified 2, by decide⟩

theorem witness_QueuesRunInOrder : ∃ (cs rest : List Instr) (s : State), s.pending = cs ++ rest :=
  ⟨[.refLost], [.refBack], { State.reset with pending := [.refLost, .refBack] }, rfl⟩

theorem witness_EveryStepKeepsCanonicalForm : ∃ s t : State, s.canonical = true ∧ step s = .next t :=
  ⟨State.reset, State.reset, by decide, rfl⟩

theorem witness_EveryStepKeepsMachineTimeInRange : ∃ s t : State, s.mt.bucket < s.mt.nb ∧ s.mt.nb ≤ 65536 ∧ s.mt.orbit
  < 2 ^ 32 ∧ step s = .next t :=
  ⟨State.reset, State.reset, by decide, by decide, by decide, rfl⟩

theorem witness_OrbitLengthTakesEffectAtTheNextOrbit_step : ∃ s : State, s.pending = [] ∧ s.mt.running = true ∧
  s.mt.nb = s.mt.bucket + 1 ∧ s.stopDue = false :=
  ⟨{ State.reset with mt := { State.reset.mt with running := true, bucket := 2879 } }, rfl, rfl, rfl, rfl⟩

theorem witness_OrbitLengthTakesEffectAtTheNextOrbit_1 : ∃ (s : State) (p : Path) (v : Nat), p.wf = true ∧ v < 2 ^ 32
  ∧ s.get CX_ACQ_STATUS_state < 2 :=
  ⟨(fun s => (({ s with mt := { State.reset.mt with running := false, nb := 2880, bucket := 5, held := false }, answer := (1, 2) } : State).set (CX_ACQ_STATUS_state) 1)) State.reset, .core, 0x1FFFF, by decide⟩

theorem witness_OrbitLengthTakesEffectAtTheNextOrbit_2 : ∃ (s : State) (p : Path) (v : Nat), p.wf = true ∧ v < 2 ^ 32
  ∧ (s.get CX_ACQ_STATUS_state = 2 ∨ s.get CX_ACQ_STATUS_state = 3) :=
  ⟨(fun s => (({ s with mt := { State.reset.mt with running := false, nb := 2880, bucket := 5, held := false }, answer := (1, 2) } : State).set (CX_ACQ_STATUS_state) 2)) State.reset, .core, 0x1FFFF, by decide⟩

theorem witness_OrbitLengthTakesEffectAtTheNextOrbit_3 : ∃ (s : State), s.mt.running = true ∧ s.mt.held = false ∧
  s.stopDue = false :=
  ⟨(fun s => (({ s with mt := { State.reset.mt with running := true, nb := 2880, bucket := 5, held := false }, answer := (1, 2) } : State).set (CX_MT_ORBIT_LEN_nb_m1) 99)) State.reset, by decide⟩

theorem witness_OrbitLengthTakesEffectAtTheNextOrbit_4 : ∃ (s : State), s.mt.running = true ∧ s.mt.held = true ∧
  s.stopDue = false :=
  ⟨(fun s => (({ s with mt := { State.reset.mt with running := true, nb := 2880, bucket := 5, held := true }, answer := (1, 2) } : State).set (CX_MT_ORBIT_LEN_nb_m1) 99)) State.reset, by decide⟩

theorem witness_FullDerandomisersDropTheHit_1 : ∃ (s : State) (ch : Nat) (at_ : Stamp) (overload narrow invalid :
  Bool) (ld : Lead), ch < 1536 ∧ at_.wf = true ∧ s.chUp ch = true ∧ s.delivers ch = true ∧ s.bypassed (fRegion
  (regionOf ch)) = false ∧ s.mt.running = true ∧ (s.chan ch).high = true ∧ (s.chan ch).lead = some ld ∧ (s.chan
  ch).fifo.length = 8 :=
  ⟨(fun s => State.setChan (State.setDie (({ (((((((({ ((s.set CX_FE_SVC_now0 0).set CX_PLATE_STATUS_state 4) with latch := Sparse.put 0 0 0xFFFF01 s.latch, shut := [], mt := { s.mt with running := true } }.set (FE_CTRL_die_mask 0) 0).set (FE_CH_CFG_mask 0 33) 0).set (FE_AUTOMASK_row 0 1) 0).set (FE_CD_STATUS_state 0) 0).set (FE_TDC_STATUS_state 0) 2).set (FE_PAIR_EN_pair 0 0) 0).set CX_PLATE_RELOAD_state 0)) with plate := { s.plate with quar := [] } })) 0 FeDie.new) 33 { Chan.new with high := true, lead := some ⟨7, 100, 500000, -3, 0, 0, none⟩, fifo := (List.range 8).map fun k => (k, k, false) }) State.reset, 33, ⟨7, 101, 3, 17⟩, false, false, false, ⟨7, 100, 500000, -3, 0, 0, none⟩, by decide⟩

theorem witness_FullDerandomisersDropTheHit_2 : ∃ (s : State) (ch : Nat) (overload invalid : Bool) (ld : Lead), ch <
  1536 ∧ s.chUp ch = true ∧ s.delivers ch = true ∧ s.bypassed (fRegion (regionOf ch)) = false ∧ s.mt.running = true ∧
  (s.chan ch).lead = some ld ∧ (s.chan ch).fifo.length = 8 :=
  ⟨(fun s => State.setChan (State.setDie (({ (((((((({ ((s.set CX_FE_SVC_now0 0).set CX_PLATE_STATUS_state 4) with latch := Sparse.put 0 0 0xFFFF01 s.latch, shut := [], mt := { s.mt with running := true } }.set (FE_CTRL_die_mask 0) 0).set (FE_CH_CFG_mask 0 33) 0).set (FE_AUTOMASK_row 0 1) 0).set (FE_CD_STATUS_state 0) 0).set (FE_TDC_STATUS_state 0) 2).set (FE_PAIR_EN_pair 0 0) 0).set CX_PLATE_RELOAD_state 0)) with plate := { s.plate with quar := [] } })) 0 FeDie.new) 33 { Chan.new with high := true, lead := some ⟨7, 100, 500000, -3, 0, 0, none⟩, fifo := (List.range 8).map fun k => (k, k, false) }) State.reset, 33, true, false, ⟨7, 100, 500000, -3, 0, 0, none⟩, by decide⟩

theorem witness_PlateRefusalsAndCancel_1 : ∃ (s : State), (s.get CX_PLATE_STATUS_state = 1 ∨ s.get
  CX_PLATE_STATUS_state = 3) :=
  ⟨(fun s => (({ s with plate := State.reset.plate, prot := State.reset.prot, activity := none } : State).set (CX_PLATE_STATUS_state) 1)) State.reset, by decide⟩

theorem witness_PlateRefusalsAndCancel_2 : ∃ (s : State), s.get CX_PLATE_STATUS_state ≠ 1 ∧ s.get
  CX_PLATE_STATUS_state ≠ 3 ∧ s.acq = true :=
  ⟨(fun s => ((({ s with plate := State.reset.plate, prot := State.reset.prot, activity := none } : State).set (CX_PLATE_STATUS_state) 4).set (CX_ACQ_STATUS_state) 2)) State.reset, by decide⟩

theorem witness_PlateRefusalsAndCancel_3 : ∃ (s : State), s.get CX_PLATE_STATUS_state ≠ 1 ∧ s.get
  CX_PLATE_STATUS_state ≠ 3 ∧ s.acq = false ∧ 1 ≤ s.get CX_PLATE_RELOAD_state ∧ s.get CX_PLATE_RELOAD_state ≤ 3 :=
  ⟨(fun s => (((({ s with plate := State.reset.plate, prot := State.reset.prot, activity := none } : State).set (CX_PLATE_STATUS_state) 4).set (CX_ACQ_STATUS_state) 0).set (CX_PLATE_RELOAD_state) 1)) State.reset, by decide⟩

theorem witness_PlateRefusalsAndCancel_4 : ∃ (s : State) (lane : Option Nat), lane.all (fun n => decide (n < 48)) =
  true ∧ (s.get CX_PLATE_STATUS_state = 0 ∨ s.get CX_PLATE_STATUS_state = 4) :=
  ⟨(fun s => (({ s with plate := State.reset.plate, prot := State.reset.prot, activity := none } : State).set (CX_PLATE_STATUS_state) 0)) State.reset, none, by decide⟩

theorem witness_PlateRefusalsAndCancel_5 : ∃ (s : State) (lane : Option Nat), (s.get CX_PLATE_STATUS_state = 1 ∨ s.get
  CX_PLATE_STATUS_state = 3) :=
  ⟨(fun s => (({ s with plate := State.reset.plate, prot := State.reset.prot, activity := none } : State).set (CX_PLATE_STATUS_state) 1)) State.reset, none, by decide⟩

theorem witness_PlateRefusalsAndCancel_6 : ∃ (s : State), s.get CX_PLATE_STATUS_state ≠ 4 ∧ s.get CX_ACQ_STATUS_state
  < 2 :=
  ⟨(fun s => ((({ s with plate := State.reset.plate, prot := State.reset.prot, activity := none } : State).set (CX_PLATE_STATUS_state) 2).set (CX_ACQ_STATUS_state) 0)) State.reset, by decide⟩

theorem witness_PlateRefusalsAndCancel_7 : ∃ (s : State), s.get CX_PLATE_STATUS_state ≠ 4 :=
  ⟨(fun s => ((((({ s with plate := State.reset.plate, prot := State.reset.prot, activity := none } : State).set (CX_PLATE_STATUS_state) 2).set (CX_ACQ_STATUS_state) 1)).set CX_ACQ_ORBIT_orbit 0 |> fun s => ({ s with mt := { s.mt with running := true, bucket := 0, orbit := 0 } } : State))) State.reset, by decide⟩

theorem witness_PlateRefusalsAndCancel_8 : ∃ (s : State), (s.get CX_PLATE_RELOAD_state = 1 ∨ s.get
  CX_PLATE_RELOAD_state = 2) :=
  ⟨(fun s => (({ s with plate := State.reset.plate, prot := State.reset.prot, activity := none } : State).set (CX_PLATE_RELOAD_state) 1)) State.reset, by decide⟩

theorem witness_PlateRefusalsAndCancel_9 : ∃ (s : State), s.get CX_PLATE_RELOAD_state ≠ 1 ∧ s.get
  CX_PLATE_RELOAD_state ≠ 2 :=
  ⟨(fun s => (({ s with plate := State.reset.plate, prot := State.reset.prot, activity := none } : State).set (CX_PLATE_RELOAD_state) 3)) State.reset, by decide⟩

theorem witness_PlateLoadsFrameByFrame_1 : ∃ (s : State) (u : Nat), s.get CX_PLATE_STATUS_state ≠ 1 ∧ s.get
  CX_PLATE_STATUS_state ≠ 3 ∧ s.acq = false ∧ (s.get CX_PLATE_RELOAD_state = 0 ∨ 4 ≤ s.get CX_PLATE_RELOAD_state) :=
  ⟨(fun s => (((((({ s with plate := State.reset.plate, prot := State.reset.prot, activity := none } : State).set (CX_PLATE_STATUS_state) 4).set (CX_ACQ_STATUS_state) 0).set (CX_PLATE_RELOAD_state) 0).set ((CX_REPAIR_valid 3)) 1).set ((CX_REPAIR_memory 3)) 3)) State.reset, 77, by decide⟩

theorem witness_PlateLoadsFrameByFrame_2 : ∃ (s : State), s.get CX_PLATE_STATUS_state = 1 :=
  ⟨(fun s => (({ s with plate := State.reset.plate, prot := State.reset.prot, activity := none } : State).set (CX_PLATE_STATUS_state) 1)) State.reset, by decide⟩

theorem witness_PlateLoadsFrameByFrame_3 : ∃ (s : State), s.get CX_PLATE_STATUS_state ≠ 1 :=
  ⟨(fun s => (({ s with plate := State.reset.plate, prot := State.reset.prot, activity := none } : State).set (CX_PLATE_STATUS_state) 4)) State.reset, by decide⟩

theorem witness_PlateLoadsFrameByFrame_4 : ∃ (s : State), (s.get CX_PLATE_STATUS_state = 2 ∨ s.get
  CX_PLATE_STATUS_state = 5) :=
  ⟨(fun s => (({ s with plate := State.reset.plate, prot := State.reset.prot, activity := none } : State).set (CX_PLATE_STATUS_state) 2)) State.reset, by decide⟩

theorem witness_PlateLoadsFrameByFrame_5 : ∃ (s : State), s.get CX_PLATE_STATUS_state ≠ 2 ∧ s.get
  CX_PLATE_STATUS_state ≠ 5 :=
  ⟨(fun s => (({ s with plate := State.reset.plate, prot := State.reset.prot, activity := none } : State).set (CX_PLATE_STATUS_state) 4)) State.reset, by decide⟩

theorem witness_PlateLoadsFrameByFrame_6 : ∃ (s : State) (frame crc : Nat), frame < 8192 ∧ crc < 65536 ∧ (s.get
  CX_PLATE_STATUS_state = 2 ∨ s.get CX_PLATE_STATUS_state = 5) :=
  ⟨(fun s => (({ s with plate := State.reset.plate, prot := State.reset.prot, activity := none } : State).set (CX_PLATE_STATUS_state) 2)) State.reset, 4660, 48879, by decide⟩

theorem witness_PlateLoadsFrameByFrame_7 : ∃ (s : State) (f h data : Nat), f < 6144 ∧ h < 31 ∧ h % 2 = 0 ∧ data < 2 ^
  32 ∧ (s.get CX_PLATE_STATUS_state = 2 ∨ s.get CX_PLATE_STATUS_state = 5) ∧ s.plate.cur = some ⟨f, h, 0⟩ ∧
  s.prot.bufPlate = none :=
  ⟨(fun s => (({ s with plate := { State.reset.plate with cur := some ⟨5, 30, 0⟩ }, prot := { State.reset.prot with bufPlate := none }, activity := none } : State).set (CX_PLATE_STATUS_state) 2)) State.reset, 5, 30, 3735928559, by decide⟩

theorem witness_PlateLoadsFrameByFrame_8 : ∃ (s : State) (f h data low : Nat), f < 6144 ∧ h < 32 ∧ h % 2 = 1 ∧ data <
  2 ^ 32 ∧ low < 2 ^ 32 ∧ (s.get CX_PLATE_STATUS_state = 2 ∨ s.get CX_PLATE_STATUS_state = 5) ∧ s.plate.cur = some ⟨f,
  h, 0⟩ ∧ s.prot.bufPlate = some ⟨f * 16 + h / 2, 15, low⟩ :=
  ⟨(fun s => (({ s with plate := { State.reset.plate with cur := some ⟨5, 31, 0⟩ }, prot := { State.reset.prot with bufPlate := some ⟨95, 15, 99⟩ }, activity := none } : State).set (CX_PLATE_STATUS_state) 2)) State.reset, 5, 31, 3735928559, 99, by decide⟩

theorem witness_PlateLoadsFrameByFrame_9 : ∃ (s : State) (f h data be : Nat) (c : PlateCur), f < 6144 ∧ h < 32 ∧ data
  < 2 ^ 32 ∧ 0 < be ∧ be < 16 ∧ (s.get CX_PLATE_STATUS_state = 2 ∨ s.get CX_PLATE_STATUS_state = 5) ∧ s.plate.cur =
  some c ∧ (c.frame ≠ f ∨ c.halves ≠ h) :=
  ⟨(fun s => (({ s with plate := { State.reset.plate with cur := some ⟨5, 4, 0⟩ }, prot := { State.reset.prot with bufPlate := none }, activity := none } : State).set (CX_PLATE_STATUS_state) 2)) State.reset, 5, 3, 1, 15, ⟨5, 4, 0⟩, by decide⟩

theorem witness_PlateLoadsFrameByFrame_10 : ∃ (s : State) (f h data be : Nat), f < 6144 ∧ h < 32 ∧ data < 2 ^ 32 ∧ 0 <
  be ∧ be < 16 ∧ (s.get CX_PLATE_STATUS_state = 1 ∨ s.get CX_PLATE_STATUS_state = 3) :=
  ⟨(fun s => (({ s with plate := State.reset.plate, prot := State.reset.prot, activity := none } : State).set (CX_PLATE_STATUS_state) 1)) State.reset, 5, 3, 1, 15, by decide⟩

theorem witness_PlateLoadsFrameByFrame_11 : ∃ (s : State) (addr data be : Nat), (s.get CX_PLATE_STATUS_state = 0 ∨
  s.get CX_PLATE_STATUS_state = 4) :=
  ⟨(fun s => (({ s with plate := State.reset.plate, prot := State.reset.prot, activity := none } : State).set (CX_PLATE_STATUS_state) 0)) State.reset, 0, 5, 15, by decide⟩

theorem witness_CommitChecksThenTakesThePlate_1 : ∃ (s : State) (lane : Option Nat), lane.all (fun n => decide (n <
  48)) = true ∧ (s.get CX_PLATE_STATUS_state = 2 ∨ s.get CX_PLATE_STATUS_state = 5) ∧ s.prot.bufPlate = none :=
  ⟨(fun s => (({ s with plate := State.reset.plate, prot := State.reset.prot, activity := none } : State).set (CX_PLATE_STATUS_state) 2)) State.reset, none, by decide⟩

theorem witness_CommitChecksThenTakesThePlate_2 : ∃ (s : State) (lane : Option Nat) (b : MBuf), lane.all (fun n =>
  decide (n < 48)) = true ∧ (s.get CX_PLATE_STATUS_state = 2 ∨ s.get CX_PLATE_STATUS_state = 5) ∧ s.prot.bufPlate =
  some b ∧ s.mark memPlate b.word = 0 :=
  ⟨(fun s => (({ s with plate := { State.reset.plate with cur := some ⟨5, 4, 0⟩ }, prot := { State.reset.prot with bufPlate := some ⟨5, 15, 99⟩ }, activity := none } : State).set (CX_PLATE_STATUS_state) 2)) State.reset, none, ⟨5, 15, 99⟩, by decide⟩

theorem witness_CommitChecksThenTakesThePlate_3 : ∃ (s : State), s.get CX_PLATE_STATUS_state ≠ 3 :=
  ⟨(fun s => (({ s with plate := State.reset.plate, prot := State.reset.prot, activity := none } : State).set (CX_PLATE_STATUS_state) 4)) State.reset, by decide⟩

theorem witness_CommitChecksThenTakesThePlate_4 : ∃ (s : State) (f : Nat) (b : Bool) (l : List (Nat × Bool)), s.get
  CX_PLATE_STATUS_state = 3 ∧ s.plate.badFrames = (f, b) :: l ∧ f < 8192 :=
  ⟨(fun s => (({ s with plate := { State.reset.plate with badFrames := [(9, true), (12, true)] }, prot := State.reset.prot, activity := none } : State).set (CX_PLATE_STATUS_state) 3)) State.reset, 9, true, [(12, true)], by decide⟩

theorem witness_CommitChecksThenTakesThePlate_5 : ∃ (s : State) (c f : Nat), s.get CX_PLATE_STATUS_state = 3 ∧
  s.plate.badFrames = [] ∧ firstFail (commitChecks s.rd s.shadowRd (framesOf s.plate.mem) s.plate.commitLane) = some
  (c, f) ∧ f < 8192 ∧ c < 256 :=
  ⟨(fun s => (({ s with plate := State.reset.plate, prot := State.reset.prot, activity := none } : State).set (CX_PLATE_STATUS_state) 3)) State.reset, 1, 0, by decide⟩

theorem witness_CommitChecksThenTakesThePlate_6 : ∃ (s : State), s.get CX_PLATE_STATUS_state = 3 ∧ s.plate.badFrames =
  [] ∧ firstFail (commitChecks s.rd s.shadowRd (framesOf s.plate.mem) s.plate.commitLane) = none :=
  ⟨(fun s => (({ s with plate := { State.reset.plate with mem := [(0, 0x15360A0100011800), (1, 0x12345), (16, 0x1FF), (17, 0xFFFF)], badFrames := [] }, prot := State.reset.prot, activity := none } : State).set (CX_PLATE_STATUS_state) 3)) State.reset, by decide⟩

theorem witness_PartialReloadRuns_1 : ∃ (s : State) (first count : Nat), first < 8192 ∧ count < 8 ∧ 1 ≤ s.get
  CX_PLATE_RELOAD_state ∧ s.get CX_PLATE_RELOAD_state ≤ 3 :=
  ⟨(fun s => (({ s with plate := State.reset.plate, prot := State.reset.prot, activity := none } : State).set (CX_PLATE_RELOAD_state) 1)) State.reset, 800, 7, by decide⟩

theorem witness_PartialReloadRuns_2 : ∃ (s : State) (first count : Nat), first < 8192 ∧ count < 8 ∧ (s.get
  CX_PLATE_RELOAD_state = 0 ∨ 4 ≤ s.get CX_PLATE_RELOAD_state) ∧ s.get CX_PLATE_STATUS_state ≠ 4 :=
  ⟨(fun s => ((({ s with plate := State.reset.plate, prot := State.reset.prot, activity := none } : State).set (CX_PLATE_RELOAD_state) 0).set (CX_PLATE_STATUS_state) 2)) State.reset, 800, 7, by decide⟩

theorem witness_PartialReloadRuns_3 : ∃ (s : State) (first count : Nat), first < 8192 ∧ count < 8 ∧ (s.get
  CX_PLATE_RELOAD_state = 0 ∨ 4 ≤ s.get CX_PLATE_RELOAD_state) ∧ s.get CX_PLATE_STATUS_state = 4 ∧ (0x1800 ≤ first +
  count ∨ (sectionOf first ≠ .reserved ∧ unitFirst first + unitSize first ≤ first + count)) :=
  ⟨(fun s => ((({ s with plate := State.reset.plate, prot := State.reset.prot, activity := none } : State).set (CX_PLATE_RELOAD_state) 4).set (CX_PLATE_STATUS_state) 4)) State.reset, 801, 7, by decide⟩

theorem witness_PartialReloadRuns_4 : ∃ (s : State) (first count : Nat), first < 8192 ∧ count < 8 ∧ (s.get
  CX_PLATE_RELOAD_state = 0 ∨ 4 ≤ s.get CX_PLATE_RELOAD_state) ∧ s.get CX_PLATE_STATUS_state = 4 ∧ first + count <
  0x1800 ∧ sectionOf first = .reserved :=
  ⟨(fun s => ((({ s with plate := State.reset.plate, prot := State.reset.prot, activity := none } : State).set (CX_PLATE_RELOAD_state) 5).set (CX_PLATE_STATUS_state) 4)) State.reset, 383, 7, by decide⟩

theorem witness_PartialReloadRuns_5 : ∃ (s : State) (first count : Nat), first < 8192 ∧ count < 8 ∧ (s.get
  CX_PLATE_RELOAD_state = 0 ∨ 4 ≤ s.get CX_PLATE_RELOAD_state) ∧ s.get CX_PLATE_STATUS_state = 4 ∧ first + count <
  0x1800 ∧ sectionOf first ≠ .reserved ∧ first + count < unitFirst first + unitSize first :=
  ⟨(fun s => ((({ s with plate := State.reset.plate, prot := State.reset.prot, activity := none } : State).set (CX_PLATE_RELOAD_state) 6).set (CX_PLATE_STATUS_state) 4)) State.reset, 808, 7, by decide⟩

theorem witness_PartialReloadRuns_6 : ∃ (s : State) (i w : Nat) (good : Bool), s.get CX_PLATE_RELOAD_state = 2 ∧
  s.fits s.reloadLength = true ∧ (s.activity = some 2 ∨ (s.activity = none ∧ (s.dueSwap = false ∨ s.fits 1024 =
  false))) ∧ i ≤ s.plate.relCount ∧ w < 16 :=
  ⟨(fun s => (({ s with plate := { State.reset.plate with mem := [(0x320 * 16, 7)], stage := [(3, 9)], relFirst := 0x320, relCount := 1, quar := [(0x320, true)] }, prot := State.reset.prot, mt := { State.reset.mt with running := true, bucket := 100, quiet := [(80, 2859)] }, dueSwap := false, activity := some 2 } : State).set (CX_PLATE_RELOAD_state) 2)) State.reset, 0, 3, true, by decide⟩

theorem witness_PartialReloadRuns_7 : ∃ (s : State) (good : Bool), s.get CX_PLATE_RELOAD_state = 2 ∧ s.fits
  s.reloadLength = false ∧ s.activity = some 2 :=
  ⟨(fun s => (({ s with plate := { State.reset.plate with mem := [(0x320 * 16, 7)], stage := [(3, 9)], relFirst := 0x320, relCount := 1, quar := [(0x320, true)] }, prot := State.reset.prot, mt := { State.reset.mt with running := true, bucket := 2850, quiet := [(80, 2859)] }, dueSwap := false, activity := some 2 } : State).set (CX_PLATE_RELOAD_state) 2)) State.reset, true, by decide⟩

theorem witness_PartialReloadRuns_8 : ∃ (s : State) (good : Bool), s.get CX_PLATE_RELOAD_state ≠ 2 :=
  ⟨(fun s => (({ s with plate := State.reset.plate, prot := State.reset.prot, activity := none } : State).set (CX_PLATE_RELOAD_state) 3)) State.reset, true, by decide⟩

theorem witness_PartialReloadRuns_9 : ∃ (s : State), (s.get CX_PLATE_RELOAD_state = 1 ∨ s.get CX_PLATE_RELOAD_state =
  2) :=
  ⟨(fun s => (({ s with plate := State.reset.plate, prot := State.reset.prot, activity := some 2 } : State).set (CX_PLATE_RELOAD_state) 2)) State.reset, by decide⟩

theorem witness_PartialReloadRuns_10 : ∃ (s : State), s.get CX_PLATE_RELOAD_state = 3 ∧ s.plate.readBackOk = true :=
  ⟨(fun s => ((({ s with plate := { State.reset.plate with mem := [(0x320 * 16, 7)], stage := [(3, 9)], relFirst := 0x320, relCount := 1, quar := [(0x320, true)], readBackOk := true }, prot := State.reset.prot, activity := some 2 } : State).set (CX_PLATE_RELOAD_state) 3).set ((CX_PLATE_QUAR_MAP_map 25)) 255)) State.reset, by decide⟩

theorem witness_PartialReloadRuns_11 : ∃ (s : State), s.get CX_PLATE_RELOAD_state = 3 ∧ s.plate.readBackOk = false :=
  ⟨(fun s => (({ s with plate := { State.reset.plate with mem := [(0x320 * 16, 7)], stage := [(3, 9)], relFirst := 0x320, relCount := 1, quar := [], readBackOk := false }, prot := State.reset.prot, activity := none } : State).set (CX_PLATE_RELOAD_state) 3)) State.reset, by decide⟩

theorem witness_PartialReloadRuns_12 : ∃ (s : State), s.get CX_PLATE_RELOAD_state ≠ 3 :=
  ⟨(fun s => (({ s with plate := State.reset.plate, prot := State.reset.prot, activity := none } : State).set (CX_PLATE_RELOAD_state) 2)) State.reset, by decide⟩

theorem witness_OrbitStartsAndMtLoads_1 : ∃ (s : State), s.mt.running = true ∧ s.mt.held = false ∧ s.mt.nb = s.get
  CX_MT_ORBIT_LEN_nb_m1 + 1 ∧ s.mt.edge = [] ∧ s.tg.arrived = [] ∧ s.calMay CX_CAL_EN_enable = false ∧ s.get
  CX_MT_STATUS_state ≠ 3 :=
  ⟨(fun s => ({ s with was := [], tg := { s.tg with arrived := [] }, mt := { s.mt with running := true, held := false, edge := [], nb := s.get CX_MT_ORBIT_LEN_nb_m1 + 1 } }).set CX_CAL_EN_enable 0 |>.set CX_MT_STATUS_state 1) State.reset, by decide⟩

theorem witness_OrbitStartsAndMtLoads_2 : ∃ (s : State), s.mt.running = true ∧ s.mt.held = false ∧ s.mt.nb ≠ s.get
  CX_MT_ORBIT_LEN_nb_m1 + 1 ∧ s.stopDue = false :=
  ⟨(fun s => ({ s with mt := { s.mt with running := true, held := false, edge := [], nb := s.get CX_MT_ORBIT_LEN_nb_m1 } })) State.reset, by decide⟩

theorem witness_OrbitStartsAndMtLoads_3 : ∃ (s : State), s.acq = false :=
  ⟨(fun s => s.set CX_ACQ_STATUS_state 0) State.reset, by decide⟩

theorem witness_OrbitStartsAndMtLoads_4 : ∃ (s : State), s.acq = true :=
  ⟨(fun s => s.set CX_ACQ_STATUS_state 2) State.reset, by decide⟩

theorem witness_OrbitStartsAndMtLoads_5 : ∃ (s : State), s.mt.running = true ∧ s.mt.held = true ∧ s.mt.place = none ∧
  s.get CX_MT_STATUS_state ≠ 2 ∧ s.stopDue = false :=
  ⟨(fun s => (({ s with was := [], tg := { s.tg with arrived := [] }, mt := { s.mt with running := true, held := true, edge := [], place := none } }).set CX_CAL_EN_enable 0).set CX_MT_STATUS_state 1) State.reset, by decide⟩

theorem witness_OrbitStartsAndMtLoads_6 : ∃ (s : State), s.mt.running = true ∧ s.mt.held = true ∧ s.mt.place = none ∧
  s.get CX_MT_STATUS_state ≠ 2 ∧ s.mt.edge = [] ∧ s.tg.arrived = [] ∧ s.calMay CX_CAL_EN_enable = false :=
  ⟨(fun s => (({ s with was := [], tg := { s.tg with arrived := [] }, mt := { s.mt with running := true, held := true, edge := [], place := none } }).set CX_CAL_EN_enable 0).set CX_MT_STATUS_state 1) State.reset, by decide⟩

theorem witness_OrbitStartsAndMtLoads_7 : ∃ (s : State) (k r : Nat), s.mt.running = true ∧ s.mt.held = true ∧
  s.mt.place = none ∧ s.markerAt = some (k, r) ∧ s.mt.bucket < k ∧ s.mt.edge = [] ∧ s.tg.arrived = [] ∧ s.calMay
  CX_CAL_EN_enable = false :=
  ⟨(fun s => (({ s with was := [], tg := { s.tg with arrived := [] }, mt := { s.mt with running := true, held := true, place := none, edge := [], nb := 2880, bucket := 100, offset := -(2000 * 32768 + 5) } }).set CX_MT_STATUS_state 2).set CX_MT_STATUS_unresolved 1 |>.set CX_CAL_EN_enable 0) State.reset, 2000, 5, by decide⟩

theorem witness_OrbitStartsAndMtLoads_8 : ∃ (s : State) (tick : Nat), tick < 32768 ∧ s.mt.tick ≤ tick :=
  ⟨(id) State.reset, 32767, by decide⟩

theorem witness_OrbitStartsAndMtLoads_9 : ∃ (s : State) (tick : Nat), tick < s.mt.tick :=
  ⟨(fun s => { s with mt := { s.mt with tick := 9 } }) State.reset, 8, by decide⟩

theorem witness_SourceChangesMoveTheTimeState_1 : ∃ (s : State) (sel : Nat), sel < 4 ∧ (s.get CX_MT_STATUS_state ≠ 1 ∨
  (sel = 1 ↔ s.get CX_MT_CTRL_src_sel = 1)) :=
  ⟨(fun s => s.set CX_MT_STATUS_state 2) State.reset, 1, by decide⟩

theorem witness_SourceChangesMoveTheTimeState_2 : ∃ (s : State) (sel : Nat), sel < 4 ∧ sel ≠ 2 ∧ (¬(sel = 1 ↔ s.get
  CX_MT_CTRL_src_sel = 1)) ∧ s.get CX_MT_STATUS_state = 1 ∧ s.on CX_MT_STATUS_holdover = false ∧ s.on
  CX_ARCH_STATUS_mgmt_backup = false ∧ s.on CX_FU_RATIO_HI_valid = true ∧ s.on OVN_STATUS_heater_fault = false :=
  ⟨(fun s => (((((s.set CX_ARCH_STATUS_mgmt_backup 0).set CX_FU_RATIO_HI_valid 1).set OVN_STATUS_heater_fault 0).set CX_MT_STATUS_state 1).set CX_MT_CTRL_src_sel 0).set CX_MT_STATUS_holdover 0) State.reset, 1, by decide⟩

theorem witness_SourceChangesMoveTheTimeState_3 : ∃ (s : State) (sel : Nat), sel < 4 ∧ (¬(sel = 1 ↔ s.get
  CX_MT_CTRL_src_sel = 1)) ∧ s.get CX_MT_STATUS_state = 1 ∧ (sel = 2 ∨ s.on CX_FU_RATIO_HI_valid = false) ∧
  s.mt.running = true :=
  ⟨(fun s => (({ s with mt := { s.mt with running := true } }).set CX_MT_STATUS_state 1).set CX_MT_CTRL_src_sel 1) State.reset, 2, by decide⟩

theorem witness_SourceChangesMoveTheTimeState_4 : ∃ (s : State), s.get CX_MT_STATUS_state = 1 ∧ s.get
  CX_MT_CTRL_src_sel ≠ 2 ∧ s.on CX_MT_STATUS_holdover = false ∧ s.on CX_ARCH_STATUS_mgmt_backup = false ∧ s.on
  CX_FU_RATIO_HI_valid = true ∧ s.on OVN_STATUS_heater_fault = false :=
  ⟨(fun s => (((((s.set CX_ARCH_STATUS_mgmt_backup 0).set CX_FU_RATIO_HI_valid 1).set OVN_STATUS_heater_fault 0).set CX_MT_STATUS_state 1).set CX_MT_CTRL_src_sel 0).set CX_MT_STATUS_holdover 0) State.reset, by decide⟩

theorem witness_SourceChangesMoveTheTimeState_5 : ∃ (s : State), s.get CX_MT_STATUS_state = 1 ∧ (s.get
  CX_MT_CTRL_src_sel = 2 ∨ s.on CX_FU_RATIO_HI_valid = false) ∧ s.mt.running = true :=
  ⟨(fun s => (({ s with mt := { s.mt with running := true } }).set CX_MT_STATUS_state 1).set CX_MT_CTRL_src_sel 2) State.reset, by decide⟩

theorem witness_SourceChangesMoveTheTimeState_6 : ∃ (s : State) (n : Nat), s.pending = [] ∧ s.mt.running = true ∧
  s.stopDue = true ∧ n < 3 :=
  ⟨(fun s => ({ s with pending := [], mt := { s.mt with running := true, edge := [.flush, .stop] }, tg := { s.tg with maps := [⟨1, 5, 3, 7⟩] } }).set (FE_TDC_STATUS_state 1) 2) State.reset, 1, by decide⟩

theorem witness_SourceChangesMoveTheTimeState_7 : ∃ (s : State), s.get CX_MT_STATUS_state = 3 ∧ s.on
  CX_MT_STATUS_holdover = true :=
  ⟨(fun s => (s.set CX_MT_STATUS_state 3).set CX_MT_STATUS_holdover 1) State.reset, by decide⟩

theorem witness_SourceChangesMoveTheTimeState_8 : ∃ (s : State), s.get CX_MT_STATUS_state = 2 :=
  ⟨(fun s => ({ s with mt := { s.mt with fabricHold := true } }).set CX_MT_STATUS_state 2) State.reset, by decide⟩

theorem witness_SourceChangesMoveTheTimeState_9 : ∃ (s : State) (mclk : Bool) (lane : Nat) (offset : Int), lane < 48 ∧
  (mclk = true ↔ s.get CX_MT_CTRL_src_sel = 1) ∧ (mclk = true ∨ (lane = s.get CX_MT_STATUS_src_lane ∧ s.on
  (LN_STATUS_sym_lock lane) = true)) ∧ (s.get CX_MT_STATUS_state = 0 ∨ s.get CX_MT_STATUS_state = 4) :=
  ⟨(fun s => ((s.set CX_MT_CTRL_src_sel 0).set CX_MT_STATUS_state 0).set CX_MT_STATUS_src_lane 3 |>.set (LN_STATUS_sym_lock 3) 1) State.reset, false, 3, 0, by decide⟩

theorem witness_SourceChangesMoveTheTimeState_10 : ∃ (s : State) (mclk : Bool) (lane : Nat) (offset : Int), lane < 48
  ∧ (mclk = true ↔ s.get CX_MT_CTRL_src_sel = 1) ∧ (mclk = true ∨ (lane = s.get CX_MT_STATUS_src_lane ∧ s.on
  (LN_STATUS_sym_lock lane) = true)) ∧ s.get CX_MT_STATUS_state = 2 ∧ s.mt.fabricHold = false ∧ 2 * offset.natAbs ≤
  32768 * s.mt.nb :=
  ⟨(fun s => ((({ s with mt := { s.mt with nb := 2880, fabricHold := false } }).set CX_MT_CTRL_src_sel 0).set CX_MT_STATUS_state 2).set CX_MT_STATUS_src_lane 9 |>.set (LN_STATUS_sym_lock 9) 1) State.reset, false, 9, -47000000, by decide⟩

theorem witness_SourceChangesMoveTheTimeState_11 : ∃ (s : State) (mclk : Bool) (lane : Nat) (offset : Int), lane < 48
  ∧ (mclk = true ↔ s.get CX_MT_CTRL_src_sel = 1) ∧ (mclk = true ∨ (lane = s.get CX_MT_STATUS_src_lane ∧ s.on
  (LN_STATUS_sym_lock lane) = true)) ∧ s.get CX_MT_STATUS_state = 2 ∧ s.mt.fabricHold = false ∧ 32768 * s.mt.nb < 2 *
  offset.natAbs ∧ s.on CX_MT_STATUS_unresolved = false :=
  ⟨(fun s => ((({ s with mt := { s.mt with nb := 2880, fabricHold := false } }).set CX_MT_CTRL_src_sel 1).set CX_MT_STATUS_state 2).set CX_MT_STATUS_unresolved 0) State.reset, true, 9, -47185921, by decide⟩

theorem witness_SourceChangesMoveTheTimeState_12 : ∃ (s : State), s.pending = [] ∧ s.mt.running = true ∧ s.get
  CX_MT_STATUS_state = 3 ∧ s.mt.bucket + 1 < s.mt.nb ∧ s.mt.edge = [] ∧ s.tg.arrived = [] ∧ s.calMay CX_CAL_EN_enable
  = false :=
  ⟨(fun s => ({ s with pending := [], was := [], tg := { s.tg with arrived := [] }, mt := { s.mt with running := true, edge := [], bucket := 5, nb := 2880, offset := -3, slewAcc := 9999000 } }).set CX_MT_STATUS_state 3 |>.set CX_MT_SLEW_rate 50 |>.set CX_CAL_EN_enable 0) State.reset, by decide⟩

theorem witness_SourceChangesMoveTheTimeState_13 : ∃ (s : State) (offset : Nat), offset ≤ 2 ∧ s.get CX_MT_STATUS_state
  = 3 ∧ 0 ≤ s.mt.offset ∧ s.mt.offset ≤ 2 :=
  ⟨(fun s => (({ s with mt := { s.mt with offset := 2 } }).set CX_MT_STATUS_state 3).set CX_MT_STATUS_holdover 1) State.reset, 2, by decide⟩

theorem witness_SourceChangesMoveTheTimeState_14 : ∃ (s : State) (offset : Nat), (s.get CX_MT_STATUS_state ≠ 3 ∨
  s.mt.offset < 0 ∨ 2 < s.mt.offset) :=
  ⟨(fun s => ({ s with mt := { s.mt with offset := -1 } }).set CX_MT_STATUS_state 3) State.reset, 0, by decide⟩

theorem witness_MarkerMismatchesAndFrequencyGates_1 : ∃ (s : State) (k : Nat), 0 < k ∧ k < 65536 ∧ s.get
  CX_MT_STATUS_state = 1 ∧ s.get CX_MT_STATUS_src = 1 ∧ s.mt.lastK ≠ some k :=
  ⟨(fun s => (({ s with mt := { s.mt with lastK := none } }).set CX_MT_STATUS_state 1).set CX_MT_STATUS_src 1) State.reset, 5, by decide⟩

theorem witness_MarkerMismatchesAndFrequencyGates_2 : ∃ (s : State) (k : Nat), 0 < k ∧ k < s.mt.nb ∧ s.mt.nb ≤ 65536 ∧
  s.get CX_MT_STATUS_state = 1 ∧ s.get CX_MT_STATUS_src = 1 ∧ s.mt.lastK = some k ∧ s.mt.equalK = 2 ∧ s.on
  CX_MT_STATUS_holdover = false :=
  ⟨(fun s => ((({ s with mt := { s.mt with nb := 2880, lastK := some 5, equalK := 2 } }).set CX_MT_STATUS_state 1).set CX_MT_STATUS_src 1).set CX_MT_STATUS_holdover 0) State.reset, 5, by decide⟩

theorem witness_MarkerMismatchesAndFrequencyGates_3 : ∃ (s : State) (slope resid : Nat), slope < 2 ^ 48 ∧ resid <
  65536 ∧ s.get CX_MT_STATUS_state = 1 ∧ s.on CX_ARCH_STATUS_mgmt_backup = false ∧ resid ≤ s.get CX_FU_CTRL_resid_lim
  ∧ s.mt.gateBad = false ∧ s.mt.readyLost = false :=
  ⟨(fun s => (({ s with mt := { s.mt with gateBad := false, readyLost := false } }).set CX_MT_STATUS_state 1).set CX_FU_CTRL_resid_lim 100 |>.set CX_ARCH_STATUS_mgmt_backup 0) State.reset, 20015998343868, 100, by decide⟩

theorem witness_MarkerMismatchesAndFrequencyGates_4 : ∃ (s : State) (slope resid : Nat), slope < 2 ^ 48 ∧ resid <
  65536 ∧ s.get CX_MT_STATUS_state = 1 ∧ s.on CX_ARCH_STATUS_mgmt_backup = false ∧ (s.get CX_FU_CTRL_resid_lim < resid
  ∨ s.mt.gateBad = true) :=
  ⟨(fun s => (s.set CX_MT_STATUS_state 1).set CX_FU_CTRL_resid_lim 100 |>.set CX_ARCH_STATUS_mgmt_backup 0) State.reset, 7, 101, by decide⟩

theorem witness_MarkerMismatchesAndFrequencyGates_6 : ∃ (s : State), s.on OVN_STATUS_ready = true ∧ s.mt.longGate =
  true ∧ s.get CX_MT_STATUS_state = 1 ∧ s.on CX_FU_RATIO_HI_valid = true :=
  ⟨(fun s => ((({ s with mt := { s.mt with longGate := true } }).set CX_MT_STATUS_state 1).set OVN_STATUS_ready 1).set CX_FU_RATIO_HI_valid 1) State.reset, by decide⟩

theorem witness_OvenReferenceReadyAndFaults_1 : ∃ (s : State), s.on OVN_STATUS_heater_fault = false ∧ s.on
  OVN_STATUS_ready = false :=
  ⟨(fun s => (s.set OVN_STATUS_ready 0).set OVN_STATUS_heater_fault 0) State.reset, by decide⟩

theorem witness_OvenReferenceReadyAndFaults_2 : ∃ (s : State), s.on OVN_STATUS_heater_fault = true :=
  ⟨(fun s => s.set OVN_STATUS_heater_fault 1) State.reset, by decide⟩

theorem witness_OvenReferenceReadyAndFaults_3 : ∃ (s : State), s.on OVN_STATUS_ready = true :=
  ⟨(fun s => s.set OVN_STATUS_ready 1) State.reset, by decide⟩

theorem witness_OvenReferenceReadyAndFaults_4 : ∃ (s : State), s.on OVN_STATUS_heater_fault = false ∧ s.on
  OVN_STATUS_ready = false :=
  ⟨(fun s => (s.set OVN_STATUS_heater_fault 0).set OVN_STATUS_ready 0) State.reset, by decide⟩

theorem witness_OvenReferenceReadyAndFaults_5 : ∃ (s : State), s.on OVN_STATUS_heater_fault = false ∧ s.on
  OVN_STATUS_ready = true :=
  ⟨(fun s => (s.set OVN_STATUS_heater_fault 0).set OVN_STATUS_ready 1) State.reset, by decide⟩

theorem witness_DiscriminatorEdgesTimeHits_1 : ∃ (s : State) (ch : Nat) (at_ : Stamp), ch < 1536 ∧ at_.wf = true ∧
  s.chUp ch = true ∧ s.delivers ch = true ∧ (s.chan ch).high = false ∧ (s.chan ch).recov = false ∧ s.calibrating ch =
  false ∧ s.mt.running = true ∧ (s.chan ch).inj = none :=
  ⟨(fun s => State.setChan (State.setDie ((((({ ((s.set CX_FE_SVC_now0 0).set CX_PLATE_STATUS_state 4) with latch := Sparse.put 0 0 0xFFFF01 s.latch, shut := [], mt := { s.mt with running := true } }.set (FE_CTRL_die_mask 0) 0).set (FE_CH_CFG_mask 0 33) 0).set (FE_AUTOMASK_row 0 1) 0).set (FE_CD_STATUS_state 0) 0)) 0 FeDie.new) 33 Chan.new) State.reset, 33, ⟨7, 100, 31, 1023⟩, by decide⟩

theorem witness_DiscriminatorEdgesTimeHits_2 : ∃ (s : State) (ch : Nat) (at_ : Stamp), ch < 1536 ∧ at_.wf = true ∧
  s.chUp ch = true ∧ (s.chan ch).high = false ∧ (s.chan ch).recov = true :=
  ⟨(fun s => State.setChan (State.setDie ((((({ ((s.set CX_FE_SVC_now0 0).set CX_PLATE_STATUS_state 4) with latch := Sparse.put 0 0 0xFFFF01 s.latch, shut := [], mt := { s.mt with running := true } }.set (FE_CTRL_die_mask 0) 0).set (FE_CH_CFG_mask 0 33) 0).set (FE_AUTOMASK_row 0 1) 0).set (FE_CD_STATUS_state 0) 0)) 0 FeDie.new) 33 { Chan.new with recov := true }) State.reset, 33, ⟨7, 100, 31, 1023⟩, by decide⟩

theorem witness_DiscriminatorEdgesTimeHits_3 : ∃ (s : State) (ch : Nat) (at_ : Stamp) (overload narrow invalid : Bool)
  (ld : Lead), ch < 1536 ∧ at_.wf = true ∧ s.chUp ch = true ∧ s.delivers ch = true ∧ s.bypassed (fRegion (regionOf
  ch)) = false ∧ s.mt.running = true ∧ s.pairStop ch = false ∧ (s.chan ch).high = true ∧ (s.chan ch).lead = some ld ∧
  (s.chan ch).tab = none ∧ (s.chan ch).fifo.length < 8 :=
  ⟨(fun s => State.setChan (State.setDie (({ (((((((({ ((s.set CX_FE_SVC_now0 0).set CX_PLATE_STATUS_state 4) with latch := Sparse.put 0 0 0xFFFF01 s.latch, shut := [], mt := { s.mt with running := true } }.set (FE_CTRL_die_mask 0) 0).set (FE_CH_CFG_mask 0 33) 0).set (FE_AUTOMASK_row 0 1) 0).set (FE_CD_STATUS_state 0) 0).set (FE_TDC_STATUS_state 0) 2).set (FE_PAIR_EN_pair 0 0) 0).set CX_PLATE_RELOAD_state 0)) with plate := { s.plate with quar := [] } })) 0 FeDie.new) 33 { Chan.new with high := true, lead := some ⟨7, 100, 500000, -3, 0, 0, none⟩ }) State.reset, 33, ⟨7, 101, 3, 17⟩, false, false, false, ⟨7, 100, 500000, -3, 0, 0, none⟩, by decide⟩

theorem witness_DiscriminatorEdgesTimeHits_4 : ∃ (s : State) (ch : Nat) (overload invalid : Bool) (ld : Lead), ch <
  1536 ∧ s.chUp ch = true ∧ s.delivers ch = true ∧ s.bypassed (fRegion (regionOf ch)) = false ∧ s.mt.running = true ∧
  s.pairStop ch = false ∧ (s.chan ch).lead = some ld ∧ (s.chan ch).fifo.length < 8 :=
  ⟨(fun s => State.setChan (State.setDie (({ (((((((({ ((s.set CX_FE_SVC_now0 0).set CX_PLATE_STATUS_state 4) with latch := Sparse.put 0 0 0xFFFF01 s.latch, shut := [], mt := { s.mt with running := true } }.set (FE_CTRL_die_mask 0) 0).set (FE_CH_CFG_mask 0 33) 0).set (FE_AUTOMASK_row 0 1) 0).set (FE_CD_STATUS_state 0) 0).set (FE_TDC_STATUS_state 0) 2).set (FE_PAIR_EN_pair 0 0) 0).set CX_PLATE_RELOAD_state 0)) with plate := { s.plate with quar := [] } })) 0 FeDie.new) 33 { Chan.new with high := true, lead := some ⟨7, 100, 500000, -3, 0, 0, none⟩ }) State.reset, 33, false, false, ⟨7, 100, 500000, -3, 0, 0, none⟩, by decide⟩

theorem witness_DiscriminatorEdgesTimeHits_5 : ∃ (s : State) (ch lost : Nat) (at_ : Stamp), ch < 1536 ∧ at_.wf = true
  ∧ s.chUp ch = true ∧ s.delivers ch = true ∧ s.bypassed (fRegion (regionOf ch)) = false ∧ (s.chan ch).recov = true ∧
  0 < lost :=
  ⟨(fun s => State.setChan (State.setDie (({ (((((((({ ((s.set CX_FE_SVC_now0 0).set CX_PLATE_STATUS_state 4) with latch := Sparse.put 0 0 0xFFFF01 s.latch, shut := [], mt := { s.mt with running := true } }.set (FE_CTRL_die_mask 0) 0).set (FE_CH_CFG_mask 0 33) 0).set (FE_AUTOMASK_row 0 1) 0).set (FE_CD_STATUS_state 0) 0).set (FE_TDC_STATUS_state 0) 2).set (FE_PAIR_EN_pair 0 0) 0).set CX_PLATE_RELOAD_state 0)) with plate := { s.plate with quar := [] } })) 0 FeDie.new) 33 { Chan.new with recov := true, high := true }) State.reset, 33, 3, ⟨7, 100, 31, 1023⟩, by decide⟩

theorem witness_RateGuardAndChannelSettings_1 : ∃ (s : State) (ch : Nat), ch < 1536 ∧ s.chUp ch = true ∧ (s.chan
  ch).high = true ∧ (s.chan ch).lead = none ∧ s.get (FE_GUARD_stuck_lim (ch / 512)) ≠ 0 ∧ s.get (FE_GUARD_stuck_lim
  (ch / 512)) * 8 ≤ s.clock - (s.chan ch).since ∧ s.mt.running = true ∧ s.autoMasked ch = false ∧ s.on
  (FE_STATUS_automask (ch / 512)) = false :=
  ⟨(fun s => { (fun s => State.setChan (State.setDie ((((({ ((s.set CX_FE_SVC_now0 0).set CX_PLATE_STATUS_state 4) with latch := Sparse.put 0 0 0xFFFF01 s.latch, shut := [], mt := { s.mt with running := true } }.set (FE_CTRL_die_mask 0) 0).set (FE_CH_CFG_mask 0 33) 0).set (FE_AUTOMASK_row 0 1) 0).set (FE_CD_STATUS_state 0) 0).set (FE_GUARD_stuck_lim 0) 2 |>.set (FE_STATUS_automask 0) 0) 0 FeDie.new) 33 { Chan.new with high := true }) s with clock := 16 }) State.reset, 33, by decide⟩

theorem witness_RateGuardAndChannelSettings_2 : ∃ (s : State) (ch : Nat), ch < 1536 ∧ s.chUp ch = true ∧ s.get
  (FE_GUARD_rate_lim (ch / 512)) ≠ 0 ∧ s.get (FE_GUARD_rate_lim (ch / 512)) < s.rateEdges ch ∧ s.mt.running = true ∧
  s.autoMasked ch = false ∧ s.on (FE_STATUS_automask (ch / 512)) = false :=
  ⟨(fun s => { (fun s => State.setChan (State.setDie ((((({ ((s.set CX_FE_SVC_now0 0).set CX_PLATE_STATUS_state 4) with latch := Sparse.put 0 0 0xFFFF01 s.latch, shut := [], mt := { s.mt with running := true } }.set (FE_CTRL_die_mask 0) 0).set (FE_CH_CFG_mask 0 33) 0).set (FE_AUTOMASK_row 0 1) 0).set (FE_CD_STATUS_state 0) 0).set (FE_GUARD_rate_lim 0) 2 |>.set (FE_STATUS_automask 0) 0) 0 FeDie.new) 33 { Chan.new with edges := 3 }) s with clock := 17, loadedAt := 17 }) State.reset, 33, by decide⟩

theorem witness_RateGuardAndChannelSettings_3 : ∃ (s : State) (die k bits : Nat), die < 3 ∧ k < 16 ∧ bits < 2 ^ 32 :=
  ⟨(fun s => ((s.set (FE_AUTOMASK_row 1 3) 0x81).set (FE_CH_STAT_automasked 1 96) 1).set (FE_CH_STAT_automasked 1 103) 1) State.reset, 1, 3, 1, by decide⟩

theorem witness_RateGuardAndChannelSettings_4 : ∃ (s : State) (die l v : Nat), die < 3 ∧ l < 512 ∧ v < 2 ^ 32 :=
  ⟨(id) State.reset, 2, 511, 4294967295, by decide⟩

theorem witness_ServosAndCodeDensityRuns_1 : ∃ (s : State) (die : Nat), die < 3 ∧ s.feRuns die = true ∧ s.mt.running =
  true ∧ s.get (FE_TDC_STATUS_state die) = 0 :=
  ⟨(fun s => { ((s.set CX_FE_SVC_now1 0).set (FE_TDC_STATUS_state 1) 0) with shut := [], mt := { s.mt with running := true } }) State.reset, 1, by decide⟩

theorem witness_ServosAndCodeDensityRuns_2 : ∃ (s : State) (die : Nat), die < 3 ∧ s.locked die = false :=
  ⟨(fun s => s.set (FE_TDC_STATUS_state 1) 1) State.reset, 1, by decide⟩

theorem witness_ServosAndCodeDensityRuns_3 : ∃ (s : State) (die : Nat), die < 3 ∧ s.locked die = true :=
  ⟨(fun s => s.set (FE_TDC_STATUS_state 1) 2) State.reset, 1, by decide⟩

theorem witness_ServosAndCodeDensityRuns_4 : ∃ (s : State) (die : Nat), die < 3 ∧ s.get (FE_TDC_STATUS_state die) = 1
  :=
  ⟨(fun s => s.set (FE_TDC_STATUS_state 0) 1) State.reset, 0, by decide⟩

theorem witness_ServosAndCodeDensityRuns_5 : ∃ (s : State) (die : Nat), die < 3 ∧ s.locked die = true :=
  ⟨(fun s => s.set (FE_TDC_STATUS_state 1) 2) State.reset, 1, by decide⟩

theorem witness_ServosAndCodeDensityRuns_6 : ∃ (s : State) (die : Nat), die < 3 ∧ s.locked die = true :=
  ⟨(fun s => s.set (FE_TDC_STATUS_state 2) 2) State.reset, 2, by decide⟩

theorem witness_ServosAndCodeDensityRuns_7 : ∃ (s : State) (die : Nat), die < 3 ∧ s.feRuns die = true ∧ s.get
  (FE_CD_STATUS_state die) ≠ 3 ∧ s.acq = false :=
  ⟨(fun s => { (((s.set CX_FE_SVC_now1 0).set (FE_CD_STATUS_state 1) 0).set CX_ACQ_STATUS_state 0) with shut := [] }) State.reset, 1, by decide⟩

theorem witness_ServosAndCodeDensityRuns_8 : ∃ (s : State) (die : Nat), die < 3 ∧ s.feRuns die = true ∧ s.acq = false
  ∧ s.get (FE_CD_STATUS_state die) = 3 :=
  ⟨(fun s => { (((s.set CX_FE_SVC_now1 0).set (FE_CD_STATUS_state 1) 3).set CX_ACQ_STATUS_state 0) with shut := [] }) State.reset, 1, by decide⟩

theorem witness_ServosAndCodeDensityRuns_9 : ∃ (s : State) (die : Nat), die < 3 ∧ s.feRuns die = true ∧ s.acq = true
  :=
  ⟨(fun s => { (((s.set CX_FE_SVC_now1 0).set (FE_CD_STATUS_state 1) 0).set CX_ACQ_STATUS_state 2) with shut := [] }) State.reset, 1, by decide⟩

theorem witness_ServosAndCodeDensityRuns_10 : ∃ (s : State) (die : Nat), die < 3 ∧ (s.get (FE_CD_STATUS_state die) = 1
  ∨ s.get (FE_CD_STATUS_state die) = 3) :=
  ⟨(fun s => (s.set (FE_CD_STATUS_state 1) 3).set (FE_CD_STATUS_column 1) 4) State.reset, 1, by decide⟩

theorem witness_ServosAndCodeDensityRuns_11 : ∃ (s : State) (die stamps : Nat) (invalid : Bool), die < 3 ∧ (s.die
  die).slice = true ∧ (invalid = true ∨ ((s.die die).sliceAt < s.clock ∧ s.unlockedIn die (s.die die).sliceAt (s.clock
  - 1) = true)) :=
  ⟨(fun s => { s.setDie 1 { FeDie.new with slice := true } with activity := some 4 }) State.reset, 1, 99, true, by decide⟩

theorem witness_ServosAndCodeDensityRuns_12 : ∃ (s : State) (die stamps : Nat), die < 3 ∧ (s.die die).slice = true ∧
  (s.die die).sliceAt < s.clock ∧ s.unlockedIn die (s.die die).sliceAt (s.clock - 1) = false ∧ s.get
  (FE_CD_STATUS_state die) = 1 :=
  ⟨(fun s => { (s.setDie 1 { FeDie.new with slice := true, unl := [(0, some 9)], sliceAt := 10 }).set (FE_CD_STATUS_state 1) 1 with clock := 20 }) State.reset, 1, 99, by decide⟩

theorem witness_ServosAndCodeDensityRuns_13 : ∃ (s : State) (die l j v : Nat), die < 3 ∧ l < 512 ∧ j < 512 ∧ v < 2 ^
  32 ∧ s.acq = false ∧ s.get (FE_CD_STATUS_state die) ≠ 3 :=
  ⟨(fun s => (s.set CX_ACQ_STATUS_state 0).set (FE_CD_STATUS_state 2) 0) State.reset, 2, 511, 511, 2882400018, by decide⟩

theorem witness_ServosAndCodeDensityRuns_14 : ∃ (s : State) (die l j v : Nat), die < 3 ∧ l < 512 ∧ j < 512 ∧ v < 2 ^
  32 ∧ s.acq = true :=
  ⟨(fun s => s.set CX_ACQ_STATUS_state 3) State.reset, 2, 511, 511, 2882400018, by decide⟩

theorem witness_CodeDensityTablesAreComputed_1 : ∃ (s : State) (die : Nat) (hist : List (List Nat)), die < 3 ∧
  hist.length = 32 ∧ (∀ h ∈ hist, h.length = 1024) ∧ (s.get (FE_CD_STATUS_state die) = 2 ∨ s.get (FE_CD_STATUS_state
  die) = 3) ∧ (∀ q ∈ s.cdRows die (s.get (FE_CD_STATUS_column die)), (hist.getD q []).sum = 262144) ∧ s.mt.running =
  true ∧ (∀ a ∈ s.mt.edge, a.tablesOf ≠ some die) :=
  ⟨(fun s => { (((s.set CX_FE_SVC_now0 0).set (FE_CD_STATUS_state 0) 2).set (FE_CD_STATUS_column 0) 0) with latch := Sparse.put 0 0 0xFFFF01 s.latch, shut := [], mt := { s.mt with running := true, edge := [.flush] } }) State.reset, 0, List.replicate 32 (List.replicate 1024 256), by decide, List.length_replicate, (by intro h hh; rw [List.eq_of_mem_replicate hh]; exact List.length_replicate), by decide, (by intro q hq; rw [hist_getD (List.mem_range.mp (List.mem_filter.mp hq).1), List.sum_replicate]; rfl), by decide, by decide⟩

theorem witness_CodeDensityTablesAreComputed_2 : ∃ (s : State) (die : Nat) (hist : List (List Nat)) (r k : Nat), die <
  3 ∧ k < 1024 ∧ hist.length = 32 ∧ (∀ h ∈ hist, h.length = 1024) ∧ s.get (FE_CD_STATUS_column die) < 16 ∧ r ∈
  s.cdRows die (s.get (FE_CD_STATUS_column die)) ∧ (s.get (FE_CD_STATUS_state die) = 2 ∨ s.get (FE_CD_STATUS_state
  die) = 3) ∧ (∀ q ∈ s.cdRows die (s.get (FE_CD_STATUS_column die)), ∀ n ∈ hist.getD q [], 1 ≤ n ∧ n ≤ 1024) ∧ (∀ q ∈
  s.cdRows die (s.get (FE_CD_STATUS_column die)), (hist.getD q []).sum = 262144) ∧ s.mt.running = false ∧ (∀ a ∈
  s.mt.edge, a.tablesOf ≠ some die) :=
  ⟨(fun s => { (((s.set CX_FE_SVC_now0 0).set (FE_CD_STATUS_state 0) 2).set (FE_CD_STATUS_column 0) 0) with latch := Sparse.put 0 0 0xFFFF01 s.latch, shut := [], mt := { s.mt with running := false, edge := [] } }) State.reset, 0, List.replicate 32 (List.replicate 1024 256), 1, 777, by decide, by decide, List.length_replicate, (by intro h hh; rw [List.eq_of_mem_replicate hh]; exact List.length_replicate), by decide, by decide, by decide, (by intro q hq n hn; rw [hist_getD (List.mem_range.mp (List.mem_filter.mp hq).1)] at hn; rw [List.eq_of_mem_replicate hn]; decide), (by intro q hq; rw [hist_getD (List.mem_range.mp (List.mem_filter.mp hq).1), List.sum_replicate]; rfl), by decide, by decide⟩

theorem witness_CodeDensityTablesAreComputed_3 : ∃ (s : State) (die : Nat) (hist : List (List Nat)) (r k : Nat),
  s.pending = [] ∧ die < 3 ∧ k < 1024 ∧ hist.length = 32 ∧ (∀ h ∈ hist, h.length = 1024) ∧ s.get (FE_CD_STATUS_column
  die) < 16 ∧ r ∈ s.cdRows die (s.get (FE_CD_STATUS_column die)) ∧ (s.get (FE_CD_STATUS_state die) = 2 ∨ s.get
  (FE_CD_STATUS_state die) = 3) ∧ (∀ q ∈ s.cdRows die (s.get (FE_CD_STATUS_column die)), ∀ n ∈ hist.getD q [], 1 ≤ n ∧
  n ≤ 1024) ∧ s.mt.running = true ∧ s.mt.bucket + 1 < s.mt.nb ∧ s.mt.edge = [.tables die hist] ∧ s.tg.arrived = [] ∧
  s.calMay CX_CAL_EN_enable = false :=
  ⟨(fun s => { ((((s.set CX_CAL_EN_enable 0).set CX_FE_SVC_now0 0).set (FE_CD_STATUS_state 0) 2).set (FE_CD_STATUS_column 0) 0) with latch := Sparse.put 0 0 0xFFFF01 s.latch, shut := [], mt := { s.mt with running := true, bucket := 4, nb := 2880, edge := [.tables 0 (List.replicate 32 (List.replicate 1024 256))] }, was := [], tg := { s.tg with arrived := [] }, pending := [] }) State.reset, 0, List.replicate 32 (List.replicate 1024 256), 1, 777, by decide, by decide, by decide, List.length_replicate, (by intro h hh; rw [List.eq_of_mem_replicate hh]; exact List.length_replicate), by decide, by decide, by decide, (by intro q hq n hn; rw [hist_getD (List.mem_range.mp (List.mem_filter.mp hq).1)] at hn; rw [List.eq_of_mem_replicate hn]; decide), by decide, by decide, rfl, by decide, by decide⟩

theorem witness_CodeDensityTablesAreComputed_4 : ∃ (s : State) (die : Nat) (hist : List (List Nat)), die < 3 ∧ s.get
  (FE_CD_STATUS_state die) < 2 :=
  ⟨(fun s => s.set (FE_CD_STATUS_state 0) 1) State.reset, 0, List.replicate 32 (List.replicate 1024 256), by decide⟩

theorem witness_CalendarFiresItsActions_1 : ∃ (s : State) (e : Nat), e < 256 ∧ (∀ w ∈ s.was, calKey w.key = false) ∧
  s.mt.running = true ∧ s.stopDue = false ∧ s.mt.held = false ∧ s.on CX_CAL_EN_enable = true ∧ s.on
  (CX_CAL_CTRL_enable e) = true ∧ (∀ f ∈ List.range 256, s.on (CX_CAL_CTRL_enable f) = true → f = e) ∧ s.get
  (CX_CAL_TIME_bucket e) < s.mt.nb ∧ s.mt.bucket ≤ s.get (CX_CAL_TIME_bucket e) ∧ (s.mt.bucket = s.get
  (CX_CAL_TIME_bucket e) → e ∉ s.mt.fired) ∧ Nat.land s.mt.orbit (s.get (CX_CAL_OMASK_mask e)) = Nat.land (s.get
  (CX_CAL_OVAL_value e)) (s.get (CX_CAL_OMASK_mask e)) ∧ s.get (CX_CAL_CTRL_action e) = 7 :=
  ⟨(fun s => (((((((({ s with mt := { State.reset.mt with running := true, bucket := 100, orbit := 6, quiet := [(80, 2859)] }, activity := none, dueSwap := false, dueBurnish := [], dueCd := [], deferWin := (0, 0), deferMask := 0, feByp := [], svc := State.reset.svc, shut := [] } : State).set (CX_CAL_EN_enable) 1).set (CX_CAL_CTRL_enable 9) 1).set (CX_CAL_TIME_bucket 9) 120).set (CX_CAL_OMASK_mask 9) 3).set (CX_CAL_OVAL_value 9) 2).set (CX_CAL_CTRL_action 9) 7).set (CX_CAL_CTRL_argument 9) 4660)) State.reset, 9, by decide⟩

theorem witness_CalendarFiresItsActions_2 : ∃ (s : State) (e : Nat), e < 256 ∧ (∀ w ∈ s.was, calKey w.key = false) ∧
  s.mt.running = true ∧ s.stopDue = false ∧ s.mt.held = false ∧ s.on CX_CAL_EN_enable = true ∧ s.on
  (CX_CAL_CTRL_enable e) = true ∧ (∀ f ∈ List.range 256, s.on (CX_CAL_CTRL_enable f) = true → f = e) ∧ s.get
  (CX_CAL_TIME_bucket e) < s.mt.nb ∧ s.mt.bucket ≤ s.get (CX_CAL_TIME_bucket e) ∧ (s.mt.bucket = s.get
  (CX_CAL_TIME_bucket e) → e ∉ s.mt.fired) ∧ Nat.land s.mt.orbit (s.get (CX_CAL_OMASK_mask e)) = Nat.land (s.get
  (CX_CAL_OVAL_value e)) (s.get (CX_CAL_OMASK_mask e)) ∧ s.get (CX_CAL_CTRL_action e) = 6 :=
  ⟨(fun s => ((((((((({ s with mt := { State.reset.mt with running := true, bucket := 100, orbit := 6, quiet := [(80, 2859)] }, activity := none, dueSwap := false, dueBurnish := [], dueCd := [], deferWin := (0, 0), deferMask := 0, feByp := [], svc := State.reset.svc, shut := [] } : State).set (CX_CAL_EN_enable) 1).set (CX_CAL_CTRL_enable 9) 1).set (CX_CAL_TIME_bucket 9) 120).set (CX_CAL_OMASK_mask 9) 3).set (CX_CAL_OVAL_value 9) 2).set (CX_CAL_CTRL_action 9) 6).set (CX_CAL_CTRL_argument 9) 4660).set (CX_PLATE_RELOAD_first) 800)) State.reset, 9, by decide⟩

theorem witness_CalendarFiresItsActions_3 : ∃ (s : State) (e : Nat), e < 256 ∧ (∀ w ∈ s.was, calKey w.key = false) ∧
  s.mt.running = true ∧ s.stopDue = false ∧ s.mt.held = false ∧ s.on CX_CAL_EN_enable = true ∧ s.on
  (CX_CAL_CTRL_enable e) = true ∧ (∀ f ∈ List.range 256, s.on (CX_CAL_CTRL_enable f) = true → f = e) ∧ s.get
  (CX_CAL_TIME_bucket e) < s.mt.nb ∧ s.mt.bucket ≤ s.get (CX_CAL_TIME_bucket e) ∧ (s.mt.bucket = s.get
  (CX_CAL_TIME_bucket e) → e ∉ s.mt.fired) ∧ Nat.land s.mt.orbit (s.get (CX_CAL_OMASK_mask e)) = Nat.land (s.get
  (CX_CAL_OVAL_value e)) (s.get (CX_CAL_OMASK_mask e)) ∧ s.get (CX_CAL_CTRL_action e) = 4 :=
  ⟨(fun s => (((((((({ s with mt := { State.reset.mt with running := true, bucket := 100, orbit := 6, quiet := [(80, 2859)] }, activity := none, dueSwap := false, dueBurnish := [], dueCd := [], deferWin := (0, 0), deferMask := 0, feByp := [], svc := State.reset.svc, shut := [] } : State).set (CX_CAL_EN_enable) 1).set (CX_CAL_CTRL_enable 9) 1).set (CX_CAL_TIME_bucket 9) 120).set (CX_CAL_OMASK_mask 9) 3).set (CX_CAL_OVAL_value 9) 2).set (CX_CAL_CTRL_action 9) 4).set (CX_CAL_CTRL_argument 9) 4660)) State.reset, 9, by decide⟩

theorem witness_CalendarFiresItsActions_4 : ∃ (s : State) (e : Nat), e < 256 ∧ (∀ w ∈ s.was, calKey w.key = false) ∧
  s.mt.running = true ∧ s.stopDue = false ∧ s.mt.held = false ∧ s.on CX_CAL_EN_enable = true ∧ s.on
  (CX_CAL_CTRL_enable e) = true ∧ (∀ f ∈ List.range 256, s.on (CX_CAL_CTRL_enable f) = true → f = e) ∧ s.get
  (CX_CAL_TIME_bucket e) < s.mt.nb ∧ s.mt.bucket ≤ s.get (CX_CAL_TIME_bucket e) ∧ (s.mt.bucket = s.get
  (CX_CAL_TIME_bucket e) → e ∉ s.mt.fired) ∧ Nat.land s.mt.orbit (s.get (CX_CAL_OMASK_mask e)) = Nat.land (s.get
  (CX_CAL_OVAL_value e)) (s.get (CX_CAL_OMASK_mask e)) ∧ s.get (CX_CAL_CTRL_action e) = 5 :=
  ⟨(fun s => ((((((((({ s with mt := { State.reset.mt with running := true, bucket := 100, orbit := 6, quiet := [(80, 2859)] }, activity := none, dueSwap := false, dueBurnish := [], dueCd := [], deferWin := (0, 0), deferMask := 0, feByp := [], svc := State.reset.svc, shut := [] } : State).set (CX_CAL_EN_enable) 1).set (CX_CAL_CTRL_enable 9) 1).set (CX_CAL_TIME_bucket 9) 120).set (CX_CAL_OMASK_mask 9) 3).set (CX_CAL_OVAL_value 9) 2).set (CX_CAL_CTRL_action 9) 5).set (CX_CAL_CTRL_argument 9) 0).set (SV_ARB_STATUS_sched) 1)) State.reset, 9, by decide⟩

theorem witness_CalendarFiresItsActions_5 : ∃ (s : State) (e : Nat), e < 256 ∧ (∀ w ∈ s.was, calKey w.key = false) ∧
  s.mt.running = true ∧ s.stopDue = false ∧ s.mt.held = false ∧ s.on CX_CAL_EN_enable = true ∧ s.on
  (CX_CAL_CTRL_enable e) = true ∧ (∀ f ∈ List.range 256, s.on (CX_CAL_CTRL_enable f) = true → f = e) ∧ s.get
  (CX_CAL_TIME_bucket e) < s.mt.nb ∧ s.mt.bucket ≤ s.get (CX_CAL_TIME_bucket e) ∧ (s.mt.bucket = s.get
  (CX_CAL_TIME_bucket e) → e ∉ s.mt.fired) ∧ Nat.land s.mt.orbit (s.get (CX_CAL_OMASK_mask e)) = Nat.land (s.get
  (CX_CAL_OVAL_value e)) (s.get (CX_CAL_OMASK_mask e)) ∧ s.mt.edge = [] ∧ s.tg.arrived = [] ∧ s.get CX_MT_STATUS_state
  ≠ 3 ∧ 9 ≤ s.get (CX_CAL_CTRL_action e) :=
  ⟨(fun s => (((((((({ s with mt := { State.reset.mt with running := true, bucket := 100, orbit := 6, quiet := [(80, 2859)] }, activity := none, dueSwap := false, dueBurnish := [], dueCd := [], deferWin := (0, 0), deferMask := 0, feByp := [], svc := State.reset.svc, shut := [] } : State).set (CX_CAL_EN_enable) 1).set (CX_CAL_CTRL_enable 9) 1).set (CX_CAL_TIME_bucket 9) 120).set (CX_CAL_OMASK_mask 9) 3).set (CX_CAL_OVAL_value 9) 2).set (CX_CAL_CTRL_action 9) 9).set (CX_CAL_CTRL_argument 9) 0)) State.reset, 9, by decide⟩

theorem witness_CalendarFiresItsActions_6 : ∃ (s : State) (e : Nat), e < 256 ∧ (∀ w ∈ s.was, calKey w.key = false) ∧
  s.mt.running = true ∧ s.stopDue = false ∧ s.mt.held = false ∧ s.on CX_CAL_EN_enable = true ∧ s.on
  (CX_CAL_CTRL_enable e) = true ∧ (∀ f ∈ List.range 256, s.on (CX_CAL_CTRL_enable f) = true → f = e) ∧ s.get
  (CX_CAL_TIME_bucket e) < s.mt.nb ∧ s.mt.bucket ≤ s.get (CX_CAL_TIME_bucket e) ∧ (s.mt.bucket = s.get
  (CX_CAL_TIME_bucket e) → e ∉ s.mt.fired) ∧ Nat.land s.mt.orbit (s.get (CX_CAL_OMASK_mask e)) = Nat.land (s.get
  (CX_CAL_OVAL_value e)) (s.get (CX_CAL_OMASK_mask e)) ∧ s.get (CX_CAL_CTRL_action e) = 8 ∧ s.get
  (CX_CAL_CTRL_argument e) % 64 < 48 ∧ s.feServed (s.get (CX_CAL_CTRL_argument e) % 64 / 16) = true ∧ s.cdAccepts
  (s.get (CX_CAL_CTRL_argument e) % 64 / 16) (s.get (CX_CAL_CTRL_argument e) % 16) = true ∧ s.mt.bucket = s.get
  (CX_CAL_TIME_bucket e) :=
  ⟨(fun s => (((((((((({ s with mt := { State.reset.mt with running := true, bucket := 100, orbit := 6, quiet := [(80, 2859)] }, activity := none, dueSwap := false, dueBurnish := [], dueCd := [], deferWin := (0, 0), deferMask := 0, feByp := [], svc := State.reset.svc, shut := [] } : State).set (CX_CAL_EN_enable) 1).set (CX_CAL_CTRL_enable 9) 1).set (CX_CAL_TIME_bucket 9) 100).set (CX_CAL_OMASK_mask 9) 3).set (CX_CAL_OVAL_value 9) 2).set (CX_CAL_CTRL_action 9) 8).set (CX_CAL_CTRL_argument 9) 17).set (FE_CD_STATUS_state 1) 0).set (nowFld 1) 0)) State.reset, 9, by decide⟩

theorem witness_CalendarFiresItsActions_7 : ∃ (s : State) (e i loop : Nat), e < 256 ∧ (∀ w ∈ s.was, calKey w.key =
  false) ∧ s.mt.running = true ∧ s.stopDue = false ∧ s.mt.held = false ∧ s.on CX_CAL_EN_enable = true ∧ s.on
  (CX_CAL_CTRL_enable e) = true ∧ (∀ f ∈ List.range 256, s.on (CX_CAL_CTRL_enable f) = true → f = e) ∧ s.get
  (CX_CAL_TIME_bucket e) < s.mt.nb ∧ s.mt.bucket ≤ s.get (CX_CAL_TIME_bucket e) ∧ (s.mt.bucket = s.get
  (CX_CAL_TIME_bucket e) → e ∉ s.mt.fired) ∧ Nat.land s.mt.orbit (s.get (CX_CAL_OMASK_mask e)) = Nat.land (s.get
  (CX_CAL_OVAL_value e)) (s.get (CX_CAL_OMASK_mask e)) ∧ s.get (CX_CAL_CTRL_action e) = 3 ∧ i < 3 ∧ s.get
  (CX_CAL_CTRL_argument e) / 2 ^ 14 % 4 = i ∧ (loop = (if i = 2 then s.get (CX_CAL_CTRL_argument e) / 2 ^ 7 % 2 ^ 7
  else 0)) ∧ loop < 96 :=
  ⟨(fun s => ((((((((({ s with mt := { State.reset.mt with running := true, bucket := 100, orbit := 6, quiet := [(80, 2859)] }, activity := none, dueSwap := false, dueBurnish := [], dueCd := [], deferWin := (0, 0), deferMask := 0, feByp := [], svc := State.reset.svc, shut := [] } : State).set (CX_CAL_EN_enable) 1).set (CX_CAL_CTRL_enable 9) 1).set (CX_CAL_TIME_bucket 9) 120).set (CX_CAL_OMASK_mask 9) 3).set (CX_CAL_OVAL_value 9) 2).set (CX_CAL_CTRL_action 9) 3).set (CX_CAL_CTRL_argument 9) 33408).set (CX_LE_LOOP_en 5) 1)) State.reset, 9, 2, 5, by decide⟩

theorem witness_CalendarFiresItsActions_8 : ∃ (s : State) (e : Nat), e < 256 ∧ (∀ w ∈ s.was, calKey w.key = false) ∧
  s.mt.running = true ∧ s.stopDue = false ∧ s.mt.held = false ∧ s.on CX_CAL_EN_enable = true ∧ s.on
  (CX_CAL_CTRL_enable e) = true ∧ (∀ f ∈ List.range 256, s.on (CX_CAL_CTRL_enable f) = true → f = e) ∧ s.get
  (CX_CAL_TIME_bucket e) < s.mt.nb ∧ s.mt.bucket ≤ s.get (CX_CAL_TIME_bucket e) ∧ (s.mt.bucket = s.get
  (CX_CAL_TIME_bucket e) → e ∉ s.mt.fired) ∧ Nat.land s.mt.orbit (s.get (CX_CAL_OMASK_mask e)) = Nat.land (s.get
  (CX_CAL_OVAL_value e)) (s.get (CX_CAL_OMASK_mask e)) ∧ s.get (CX_CAL_CTRL_action e) = 2 ∧ s.mg.hk.queue.length < 4
  :=
  ⟨(fun s => (((((((({ s with mt := { State.reset.mt with running := true, bucket := 100, orbit := 6, quiet := [(80, 2859)] }, activity := none, dueSwap := false, dueBurnish := [], dueCd := [], deferWin := (0, 0), deferMask := 0, feByp := [], svc := State.reset.svc, shut := [], mg := State.reset.mg } : State).set (CX_CAL_EN_enable) 1).set (CX_CAL_CTRL_enable 9) 1).set (CX_CAL_TIME_bucket 9) 120).set (CX_CAL_OMASK_mask 9) 3).set (CX_CAL_OVAL_value 9) 2).set (CX_CAL_CTRL_action 9) 2).set (CX_CAL_CTRL_argument 9) 4660)) State.reset, 9, by decide⟩

theorem witness_CalendarFiresItsActions_9 : ∃ (s : State) (e n l : Nat), e < 256 ∧ (∀ w ∈ s.was, calKey w.key = false)
  ∧ s.mt.running = true ∧ s.stopDue = false ∧ s.mt.held = false ∧ s.on CX_CAL_EN_enable = true ∧ s.on
  (CX_CAL_CTRL_enable e) = true ∧ (∀ f ∈ List.range 256, s.on (CX_CAL_CTRL_enable f) = true → f = e) ∧ s.get
  (CX_CAL_TIME_bucket e) < s.mt.nb ∧ s.mt.bucket ≤ s.get (CX_CAL_TIME_bucket e) ∧ (s.mt.bucket = s.get
  (CX_CAL_TIME_bucket e) → e ∉ s.mt.fired) ∧ Nat.land s.mt.orbit (s.get (CX_CAL_OMASK_mask e)) = Nat.land (s.get
  (CX_CAL_OVAL_value e)) (s.get (CX_CAL_OMASK_mask e)) ∧ s.get (CX_CAL_CTRL_action e) = 1 ∧ s.mt.edge = [] ∧
  s.tg.arrived = [] ∧ s.get CX_MT_STATUS_state ≠ 3 ∧ n < 3 ∧ l < 512 ∧ bit (s.get (CX_CAL_CTRL_argument e)) n = true
  :=
  ⟨(fun s => (((((((((((((({ s with mt := { State.reset.mt with running := true, bucket := 100, orbit := 6, quiet := [(80, 2859)] }, activity := none, dueSwap := false, dueBurnish := [], dueCd := [], deferWin := (0, 0), deferMask := 0, feByp := [], svc := State.reset.svc, shut := [], dies := [], latch := [(36, 2 ^ 63)], plate := State.reset.plate } : State).set (CX_CAL_EN_enable) 1).set (CX_CAL_CTRL_enable 9) 1).set (CX_CAL_TIME_bucket 9) 120).set (CX_CAL_OMASK_mask 9) 3).set (CX_CAL_OVAL_value 9) 2).set (CX_CAL_CTRL_action 9) 1).set (CX_CAL_CTRL_argument 9) 50).set (CX_CAL_TIME_coarse 9) 7).set (FE_CH_CFG_inj_en 1 77) 1).set (FE_CH_CFG_inj_set 1 77) 3).set (FE_CH_CFG_mask 1 77) 0).set (CX_PLATE_STATUS_state) 4).set (FE_INJ_CTRL_fine 1) 3)) State.reset, 9, 1, 77, by decide⟩

theorem witness_CalendarFiresItsActions_10 : ∃ (s : State) (e : Nat), e < 256 ∧ (∀ w ∈ s.was, calKey w.key = false) ∧
  s.get (CX_CAL_TIME_bucket e) = s.mt.bucket ∧ e ∈ s.mt.fired :=
  ⟨(fun s => (((((((({ s with mt := { State.reset.mt with running := true, bucket := 100, fired := [9], orbit := 6, quiet := [(80, 2859)] }, activity := none, dueSwap := false, dueBurnish := [], dueCd := [], deferWin := (0, 0), deferMask := 0, feByp := [], svc := State.reset.svc, shut := [] } : State).set (CX_CAL_EN_enable) 1).set (CX_CAL_CTRL_enable 9) 1).set (CX_CAL_TIME_bucket 9) 100).set (CX_CAL_OMASK_mask 9) 3).set (CX_CAL_OVAL_value 9) 2).set (CX_CAL_CTRL_action 9) 7).set (CX_CAL_CTRL_argument 9) 4660)) State.reset, 9, by decide⟩

theorem witness_CalendarFiresItsActions_11 : ∃ (s : State) (p : Path) (e v : Nat), p.wf = true ∧ v < 2 ^ 32 ∧ e < 256
  ∧ (∀ w ∈ s.was, calKey w.key = false) ∧ s.mt.running = true ∧ s.stopDue = false ∧ s.mt.held = false ∧ s.on
  CX_CAL_EN_enable = true ∧ s.on (CX_CAL_CTRL_enable e) = true ∧ (∀ f ∈ List.range 256, s.on (CX_CAL_CTRL_enable f) =
  true → f = e) ∧ s.get (CX_CAL_TIME_bucket e) < s.mt.nb ∧ s.mt.bucket ≤ s.get (CX_CAL_TIME_bucket e) ∧ (s.mt.bucket =
  s.get (CX_CAL_TIME_bucket e) → e ∉ s.mt.fired) ∧ Nat.land s.mt.orbit (s.get (CX_CAL_OMASK_mask e)) = Nat.land (s.get
  (CX_CAL_OVAL_value e)) (s.get (CX_CAL_OMASK_mask e)) ∧ s.get (CX_CAL_TIME_bucket e) ≤ s.mt.bucket + 1 ∧ s.get
  (CX_CAL_CTRL_action e) = 7 :=
  ⟨(fun s => (((((((({ s with mt := { State.reset.mt with running := true, bucket := 100, orbit := 6, quiet := [(80, 2859)] }, activity := none, dueSwap := false, dueBurnish := [], dueCd := [], deferWin := (0, 0), deferMask := 0, feByp := [], svc := State.reset.svc, shut := [] } : State).set (CX_CAL_EN_enable) 1).set (CX_CAL_CTRL_enable 9) 1).set (CX_CAL_TIME_bucket 9) 101).set (CX_CAL_OMASK_mask 9) 3).set (CX_CAL_OVAL_value 9) 2).set (CX_CAL_CTRL_action 9) 7).set (CX_CAL_CTRL_argument 9) 4660)) State.reset, .test, 9, 0x80000000, by decide⟩

theorem witness_CalendarFiresItsActions_12 : ∃ (s : State) (p : Path) (e v : Nat), p.wf = true ∧ v < 2 ^ 32 ∧ e < 256
  ∧ (∀ w ∈ s.was, calKey w.key = false) ∧ s.mt.running = true ∧ s.stopDue = false ∧ s.mt.held = false ∧ s.on
  CX_CAL_EN_enable = true ∧ (∀ f ∈ List.range 256, s.on (CX_CAL_CTRL_enable f) = true → f = e) ∧ s.get
  (CX_CAL_TIME_bucket e) < s.mt.nb ∧ s.mt.bucket ≤ s.get (CX_CAL_TIME_bucket e) ∧ (s.mt.bucket = s.get
  (CX_CAL_TIME_bucket e) → e ∉ s.mt.fired) ∧ Nat.land s.mt.orbit (s.get (CX_CAL_OMASK_mask e)) = Nat.land (s.get
  (CX_CAL_OVAL_value e)) (s.get (CX_CAL_OMASK_mask e)) ∧ s.mt.bucket + 2 ≤ s.get (CX_CAL_TIME_bucket e) ∧ v / 2 ^ 31 =
  1 ∧ v / 2 ^ 24 % 16 = 7 :=
  ⟨(fun s => (((((((({ s with mt := { State.reset.mt with running := true, bucket := 100, orbit := 6, quiet := [(80, 2859)] }, activity := none, dueSwap := false, dueBurnish := [], dueCd := [], deferWin := (0, 0), deferMask := 0, feByp := [], svc := State.reset.svc, shut := [] } : State).set (CX_CAL_EN_enable) 1).set (CX_CAL_CTRL_enable 9) 1).set (CX_CAL_TIME_bucket 9) 102).set (CX_CAL_OMASK_mask 9) 3).set (CX_CAL_OVAL_value 9) 2).set (CX_CAL_CTRL_action 9) 7).set (CX_CAL_CTRL_argument 9) 4660)) State.reset, .test, 9, 0x87000123, by decide⟩

theorem witness_DisruptiveActivitiesKeepToQuietWindows_1 : ∃ (s : State), (s.activity ≠ none ∨ s.mt.running = false ∨
  s.inWindow s.mt.bucket = false) :=
  ⟨(fun s => ({ ({ s with mt := { State.reset.mt with running := true, bucket := 70, orbit := 6, quiet := [(80, 2859)] }, activity := none, dueSwap := false, dueBurnish := [], dueCd := [], deferWin := (0, 0), deferMask := 0, feByp := [], svc := State.reset.svc, shut := [] } : State) with plate := State.reset.plate } : State)) State.reset, by decide⟩

theorem witness_DisruptiveActivitiesKeepToQuietWindows_2 : ∃ (s : State), s.activity = none ∧ s.mt.running = true ∧
  s.inWindow s.mt.bucket = true ∧ s.dueSwap = true ∧ s.mt.bucket + 1024 ≤ s.windowEnd s.mt.bucket :=
  ⟨(fun s => ({ ({ s with mt := { State.reset.mt with running := true, bucket := 1835, orbit := 6, quiet := [(80, 2859)] }, activity := none, dueSwap := false, dueBurnish := [], dueCd := [], deferWin := (0, 0), deferMask := 0, feByp := [], svc := State.reset.svc, shut := [] } : State) with dueSwap := true, dueBurnish := [4000], plate := State.reset.plate } : State)) State.reset, by decide⟩

theorem witness_DisruptiveActivitiesKeepToQuietWindows_3 : ∃ (s : State), s.activity = none ∧ s.mt.running = true ∧
  s.inWindow s.mt.bucket = true ∧ s.dueSwap = true ∧ s.windowEnd s.mt.bucket < s.mt.bucket + 1024 ∧ s.get
  CX_PLATE_RELOAD_state ≠ 2 ∧ s.dueBurnish = [] ∧ s.dueCd = [] ∧ s.deferWin ≠ (s.mt.orbit, s.windowEnd s.mt.bucket) :=
  ⟨(fun s => (({ ({ s with mt := { State.reset.mt with running := true, bucket := 1836, orbit := 6, quiet := [(80, 2859)] }, activity := none, dueSwap := false, dueBurnish := [], dueCd := [], deferWin := (0, 0), deferMask := 0, feByp := [], svc := State.reset.svc, shut := [] } : State) with dueSwap := true, plate := State.reset.plate } : State).set (CX_PLATE_RELOAD_state) 0)) State.reset, by decide⟩

theorem witness_DisruptiveActivitiesKeepToQuietWindows_4 : ∃ (s : State), s.activity = none ∧ s.mt.running = true ∧
  s.inWindow s.mt.bucket = true ∧ s.dueSwap = false ∧ s.get CX_PLATE_RELOAD_state = 2 ∧ s.mt.bucket + s.reloadLength ≤
  s.windowEnd s.mt.bucket :=
  ⟨(fun s => (({ ({ s with mt := { State.reset.mt with running := true, bucket := 2795, orbit := 6, quiet := [(80, 2859)] }, activity := none, dueSwap := false, dueBurnish := [], dueCd := [], deferWin := (0, 0), deferMask := 0, feByp := [], svc := State.reset.svc, shut := [] } : State) with plate := State.reset.plate } : State).set (CX_PLATE_RELOAD_state) 2)) State.reset, by decide⟩

theorem witness_DisruptiveActivitiesKeepToQuietWindows_5 : ∃ (s : State) (d : Nat) (l1 l2 : List Nat), s.activity =
  none ∧ s.mt.running = true ∧ s.inWindow s.mt.bucket = true ∧ s.dueSwap = false ∧ s.get CX_PLATE_RELOAD_state ≠ 2 ∧
  s.dueBurnish = l1 ++ d :: l2 ∧ (∀ x ∈ l1, s.windowEnd s.mt.bucket < s.mt.bucket + x) ∧ s.mt.bucket + d ≤ s.windowEnd
  s.mt.bucket :=
  ⟨(fun s => (({ ({ s with mt := { State.reset.mt with running := true, bucket := 2850, orbit := 6, quiet := [(80, 2859)] }, activity := none, dueSwap := false, dueBurnish := [], dueCd := [], deferWin := (0, 0), deferMask := 0, feByp := [], svc := State.reset.svc, shut := [] } : State) with dueBurnish := [9, 100], plate := State.reset.plate } : State).set (CX_PLATE_RELOAD_state) 0)) State.reset, 9, [], [100], by decide⟩

theorem witness_DisruptiveActivitiesKeepToQuietWindows_6 : ∃ (s : State) (n col : Nat), s.activity = none ∧
  s.mt.running = true ∧ s.inWindow s.mt.bucket = true ∧ s.dueSwap = false ∧ s.get CX_PLATE_RELOAD_state ≠ 2 ∧
  s.dueBurnish = [] ∧ s.dueCd = [(n, col)] ∧ n < 3 ∧ col < 16 ∧ s.feServed n = true ∧ s.mt.bucket + s.get
  (FE_CD_CTRL_slice n) ≤ s.windowEnd s.mt.bucket ∧ s.get (FE_CD_STATUS_state n) = 0 :=
  ⟨(fun s => ((((({ ({ s with mt := { State.reset.mt with running := true, bucket := 100, orbit := 6, quiet := [(80, 2859)] }, activity := none, dueSwap := false, dueBurnish := [], dueCd := [], deferWin := (0, 0), deferMask := 0, feByp := [], svc := State.reset.svc, shut := [] } : State) with dueCd := [(1, 7)], plate := State.reset.plate } : State).set (CX_PLATE_RELOAD_state) 0).set (FE_CD_CTRL_slice 1) 60).set (FE_CD_STATUS_state 1) 0).set (nowFld 1) 0)) State.reset, 1, 7, by decide⟩

theorem witness_HitsMergeAndBucketsSeal_1 : ∃ (s : State) (n orbit w : Nat) (late : Bool), n < 3 ∧ s.mt.running = true
  ∧ (s.nextHit n).map (fun x => (x.1, x.2.1, x.2.2.1)) = some (orbit, w, false) ∧ s.feOutAt n (orbit, hitBucket w) =
  false ∧ s.ringHeld = false ∧ s.on CX_HQ_STATUS_flushing = false ∧ (s.validFrom = none ∨ s.fromValid (orbit,
  hitBucket w) = true) ∧ s.isSealed (orbit, hitBucket w) = false ∧ s.sortCount < 16384 ∧ hitFlag w 0 = false ∧
  s.store.shadows = [] :=
  ⟨(fun s => State.setChan { ((({ s with store := State.reset.store, rc := State.reset.rc, feByp := [], mt := { State.reset.mt with running := true, orbit := 5, bucket := 100 } }).set CX_HQ_STATUS_flushing 0).set CX_HQ_VALID_BT_valid 0) with chans := [], dies := [] } 33 { Chan.new with fifo := [(5, hitWord 33 100 500 20 0, false)] }) State.reset, 0, 5, hitWord 33 100 500 20 0, false, by decide⟩

theorem witness_HitsMergeAndBucketsSeal_2 : ∃ (s : State) (n orbit w : Nat) (late : Bool), n < 3 ∧ s.mt.running = true
  ∧ (s.nextHit n).map (fun x => (x.1, x.2.1, x.2.2.1)) = some (orbit, w, false) ∧ s.feOutAt n (orbit, hitBucket w) =
  false ∧ s.ringHeld = false ∧ s.on CX_HQ_STATUS_flushing = false ∧ (s.validFrom = none ∨ s.fromValid (orbit,
  hitBucket w) = true) ∧ s.isSealed (orbit, hitBucket w) = true :=
  ⟨(fun s => { ((fun s => State.setChan { ((({ s with store := State.reset.store, rc := State.reset.rc, feByp := [], mt := { State.reset.mt with running := true, orbit := 5, bucket := 100 } }).set CX_HQ_STATUS_flushing 0).set CX_HQ_VALID_BT_valid 0) with chans := [], dies := [] } 33 { Chan.new with fifo := [(5, hitWord 33 100 500 20 0, false)] }) s) with store := { State.reset.store with lastSealed := some (5, 100) } }) State.reset, 0, 5, hitWord 33 100 500 20 0, false, by decide⟩

theorem witness_HitsMergeAndBucketsSeal_3 : ∃ (s : State) (n orbit w : Nat) (late : Bool), n < 3 ∧ s.mt.running = true
  ∧ (s.nextHit n).map (fun x => (x.1, x.2.1, x.2.2.1)) = some (orbit, w, false) ∧ s.feOutAt n (orbit, hitBucket w) =
  false ∧ s.ringHeld = true ∧ s.on CX_HQ_STATUS_flushing = false :=
  ⟨(fun s => { ((fun s => State.setChan { ((({ s with store := State.reset.store, rc := State.reset.rc, feByp := [], mt := { State.reset.mt with running := true, orbit := 5, bucket := 100 } }).set CX_HQ_STATUS_flushing 0).set CX_HQ_VALID_BT_valid 0) with chans := [], dies := [] } 33 { Chan.new with fifo := [(5, hitWord 33 100 500 20 0, false)] }) s) with store := { State.reset.store with stopped := true } }) State.reset, 0, 5, hitWord 33 100 500 20 0, false, by decide⟩

theorem witness_HitsMergeAndBucketsSeal_4 : ∃ (s : State) (n orbit w : Nat) (late bad : Bool), n < 3 ∧ s.mt.running =
  true ∧ (s.nextHit n).map (fun x => (x.1, x.2.1, x.2.2.1)) = some (orbit, w, bad) ∧ (bad = true ∨ s.feOutAt n (orbit,
  hitBucket w) = true) :=
  ⟨(fun s => State.setChan { ((({ s with store := State.reset.store, rc := State.reset.rc, feByp := [], mt := { State.reset.mt with running := true, orbit := 5, bucket := 100 } }).set CX_HQ_STATUS_flushing 0).set CX_HQ_VALID_BT_valid 0) with chans := [], dies := [] } 33 { Chan.new with fifo := [(5, hitWord 33 100 500 20 0, true)] }) State.reset, 0, 5, hitWord 33 100 500 20 0, false, true, by decide⟩

theorem witness_HitsMergeAndBucketsSeal_5 : ∃ (s : State) (markers : List Marker), markers.length = 3 ∧ s.mt.running =
  true ∧ s.ringHeld = false ∧ (s.store.lastSealed = none ∨ s.store.lastSealed = some (subBkt s.mt.nb s.now 65)) ∧ 0 <
  s.mt.nb ∧ s.mt.nb ≤ 65536 ∧ s.mt.bucket < s.mt.nb ∧ s.mt.orbit < 2 ^ 32 :=
  ⟨(fun s => { ((({ s with store := State.reset.store, rc := State.reset.rc, feByp := [], mt := { State.reset.mt with running := true, orbit := 5, bucket := 100 } }).set CX_HQ_STATUS_flushing 0).set CX_HQ_VALID_BT_valid 0) with store := { State.reset.store with sort := [⟨0, 5, hitWord 33 36 500 20 0⟩, ⟨1, 5, hitWord 33 37 500 20 0⟩, ⟨2, 5, hitWord 1233 36 50 20 0⟩] } }) State.reset, [.valid, .invalid, .missing], by decide⟩

theorem witness_HitsMergeAndBucketsSeal_6 : ∃ (s : State) (markers : List Marker), (s.ringHeld = true ∨ s.mt.running =
  false) :=
  ⟨(id) State.reset, [.valid, .valid, .valid], by decide⟩

theorem witness_RowsAreWrittenSealedAndAgedOut_1 : ∃ (s : State) (row k : Nat) (q : WaitBkt) (rest : List WaitBkt),
  row < 1048576 ∧ s.mt.running = true ∧ s.store.wq = q :: rest ∧ q.hits ≠ [] ∧ banksOf (s.get CX_HQ_BANKS_in_service)
  ≠ [] ∧ 0 < s.store.fresh ∧ Sparse.has row s.store.taken = false ∧ (s.desc q.slot).count = 0 ∧ k < q.hits.length ∧ k
  < (banksOf (s.get CX_HQ_BANKS_in_service)).length :=
  ⟨(fun s => { (s.set CX_HQ_BANKS_in_service 0x8001) with mt := { s.mt with running := true }, store := { State.reset.store with wq := [⟨7, 5, [hitWord 33 36 500 20 0, hitWord 34 36 600 20 0, hitWord 35 36 700 20 0]⟩], desc := [(7, { Desc.clear with orbit := 5, bucket := 36, valid := true })], fresh := 100 } }) State.reset, 99, 1, ⟨7, 5, [hitWord 33 36 500 20 0, hitWord 34 36 600 20 0, hitWord 35 36 700 20 0]⟩, [], by decide⟩

theorem witness_RowsAreWrittenSealedAndAgedOut_2 : ∃ (s : State) (q : WaitBkt) (rest : List WaitBkt), s.mt.running =
  true ∧ s.store.wq = q :: rest ∧ q.hits = [] ∧ (s.desc q.slot).valid = true :=
  ⟨(fun s => { s with mt := { s.mt with running := true }, store := { State.reset.store with wq := [⟨7, 5, []⟩], desc := [(7, { Desc.clear with orbit := 5, bucket := 36, valid := true })] } }) State.reset, ⟨7, 5, []⟩, [], by decide⟩

theorem witness_RowsAreWrittenSealedAndAgedOut_3 : ∃ (s : State), s.ringHeld = false ∧ s.mt.running = true ∧ (s.desc
  ((s.slot s.now + 64) % 32768)).valid = true ∧ (s.desc ((s.slot s.now + 64) % 32768)).pins = 0 :=
  ⟨(fun s => { s.set RC_FREEZE_STATUS_state 0 with mt := { State.reset.mt with running := true, orbit := 5, bucket := 100 }, rc := State.reset.rc, store := { State.reset.store with desc := [((5 * 2880 + 164) % 32768, { Desc.clear with orbit := 4, bucket := 300, valid := true, written := true, head := 17, tail := 17, count := 2 })], links := [(17, 2 * 2 ^ 36 + 3 * 2 ^ 20 + 17)] } }) State.reset, by decide⟩

theorem witness_RowsAreWrittenSealedAndAgedOut_4 : ∃ (s : State) (p : Nat), s.ringHeld = false ∧ s.mt.running = true ∧
  (s.desc ((s.slot s.now + 64) % 32768)).valid = true ∧ (s.desc ((s.slot s.now + 64) % 32768)).pins ≠ 0 ∧ p < 4096 ∧
  Sparse.has p s.store.keep = false ∧ (∀ q < p, Sparse.has q s.store.keep = true) :=
  ⟨(fun s => { s.set RC_FREEZE_STATUS_state 0 with mt := { State.reset.mt with running := true, orbit := 5, bucket := 100 }, rc := State.reset.rc, store := { State.reset.store with keep := [(0, { Desc.clear with orbit := 4, bucket := 300, valid := true, written := true, head := 17, tail := 17, count := 2 })], desc := [((5 * 2880 + 164) % 32768, { { Desc.clear with orbit := 4, bucket := 300, valid := true, written := true, head := 17, tail := 17, count := 2 } with pins := 2 })], links := [(17, 2 * 2 ^ 36 + 3 * 2 ^ 20 + 17)] } }) State.reset, 1, by decide⟩

theorem witness_RowsAreWrittenSealedAndAgedOut_5 : ∃ (s : State) (desc : Bool) (link : Option Nat), s.ringHeld = true
  ∧ link.all (fun r => decide (r < 2 ^ 20)) = true :=
  ⟨(fun s => { s with store := { s.store with stopped := true } }) State.reset, true, some 5, by decide⟩

theorem witness_FlushesDepthBanksAndSpareRows_1 : ∃ (s : State), s.acq = true :=
  ⟨(fun s => s.set CX_ACQ_STATUS_state 2) State.reset, by decide⟩

theorem witness_FlushesDepthBanksAndSpareRows_2 : ∃ (s : State), s.acq = false ∧ s.mt.running = true :=
  ⟨(fun s => { (s.set CX_ACQ_STATUS_state 0) with mt := { s.mt with running := true } }) State.reset, by decide⟩

theorem witness_FlushesDepthBanksAndSpareRows_3 : ∃ (s : State), s.acq = false ∧ s.mt.running = false :=
  ⟨(fun s => { (s.set CX_ACQ_STATUS_state 0) with mt := { s.mt with running := false } }) State.reset, by decide⟩

theorem witness_FlushesDepthBanksAndSpareRows_4 : ∃ (s : State), s.pending = [] ∧ s.mt.running = true ∧ s.mt.bucket +
  1 < s.mt.nb ∧ s.mt.edge = [.flush] ∧ s.tg.arrived = [] ∧ s.calMay CX_CAL_EN_enable = false ∧ s.get
  CX_MT_STATUS_state ≠ 3 ∧ s.mt.held = false :=
  ⟨(fun s => ({ s with pending := [], was := [], tg := { s.tg with arrived := [] }, mt := { State.reset.mt with running := true, bucket := 9, edge := [.flush] } }).set CX_CAL_EN_enable 0 |>.set CX_MT_STATUS_state 1) State.reset, by decide⟩

theorem witness_FlushesDepthBanksAndSpareRows_5 : ∃ (s : State), s.mt.running = true ∧ s.on CX_HQ_STATUS_flushing =
  true :=
  ⟨(fun s => ({ s with mt := { s.mt with running := true } }).set CX_HQ_STATUS_flushing 1 |>.set CX_HQ_STATUS_store_ready 0) State.reset, by decide⟩

theorem witness_FlushesDepthBanksAndSpareRows_7 : ∃ (s : State) (mask : Nat), mask < 65536 ∧ (Nat.land (smBanks
  s.shadowRd) (0xFFFF - mask) % 256 = 0 ∨ Nat.land (smBanks s.shadowRd) (0xFFFF - mask) / 256 = 0) :=
  ⟨(fun s => { s with plate := { s.plate with committed := true, shadow := [(17, 0xFFFF)] } }) State.reset, 65280, by decide⟩

theorem witness_FlushesDepthBanksAndSpareRows_8 : ∃ (s : State) (mask : Nat), mask < 65536 ∧ Nat.land (smBanks
  s.shadowRd) (0xFFFF - mask) % 256 ≠ 0 ∧ Nat.land (smBanks s.shadowRd) (0xFFFF - mask) / 256 ≠ 0 ∧ s.mt.running =
  true :=
  ⟨(fun s => { (s.set CX_HQ_BANKS_in_service 0x0FF1) with plate := { s.plate with committed := true, shadow := [(17, 0xFFFF)] }, svc := { s.svc with assay := none }, mt := { s.mt with running := true } }) State.reset, 264, by decide⟩

theorem witness_FlushesDepthBanksAndSpareRows_9 : ∃ (s : State) (mask : Nat), mask < 65536 ∧ Nat.land (smBanks
  s.shadowRd) (0xFFFF - mask) % 256 ≠ 0 ∧ Nat.land (smBanks s.shadowRd) (0xFFFF - mask) / 256 ≠ 0 ∧ s.mt.running =
  false ∧ s.svc.assay = none :=
  ⟨(fun s => { (s.set CX_HQ_BANKS_in_service 0x0FF1) with plate := { s.plate with committed := true, shadow := [(17, 0xFFFF)] }, svc := { s.svc with assay := none }, mt := { s.mt with running := false } }) State.reset, 264, by decide⟩

theorem witness_FlushesDepthBanksAndSpareRows_10 : ∃ (s : State), s.pending = [] ∧ s.mt.running = true ∧ s.mt.bucket +
  1 < s.mt.nb ∧ s.mt.edge = [.retire] ∧ s.tg.arrived = [] ∧ s.calMay CX_CAL_EN_enable = false ∧ s.get
  CX_MT_STATUS_state ≠ 3 ∧ s.mt.held = false ∧ s.svc.assay = none ∧ s.get CX_HQ_BANKS_retire < 65536 :=
  ⟨(fun s => ((({ s with pending := [], was := [], tg := { s.tg with arrived := [] }, plate := { s.plate with committed := true, shadow := [(17, 0xFFFF)] }, svc := { s.svc with assay := none }, mt := { State.reset.mt with running := true, bucket := 9, edge := [.retire] } }).set CX_CAL_EN_enable 0 |>.set CX_MT_STATUS_state 1) |>.set CX_HQ_BANKS_in_service 0x0FF1) |>.set CX_HQ_BANKS_retire 0x0108) State.reset, by decide⟩

theorem witness_FlushesDepthBanksAndSpareRows_11 : ∃ (s : State) (bank : Nat), bank < 16 ∧ s.mt.running = true ∧ bit
  s.clearing bank = true :=
  ⟨(fun s => { (s.set (HS_STATUS_bank_init 1) 0x82) with mt := { s.mt with running := true }, store := { s.store with entries := [(9 * 2 ^ 20 + 5, 7), (10 * 2 ^ 20 + 5, 7)] } }) State.reset, 9, by decide⟩

theorem witness_FlushesDepthBanksAndSpareRows_12 : ∃ (s : State) (bank : Nat), s.pending = [] ∧ s.mt.running = true ∧
  s.mt.bucket + 1 < s.mt.nb ∧ bank < 16 ∧ s.mt.edge = [.join bank] ∧ s.tg.arrived = [] ∧ s.calMay CX_CAL_EN_enable =
  false ∧ s.get CX_MT_STATUS_state ≠ 3 ∧ s.mt.held = false ∧ bit s.mapBanks bank = true :=
  ⟨(fun s => ((({ s with pending := [], was := [], tg := { s.tg with arrived := [] }, plate := { s.plate with committed := true, shadow := [(17, 0xFFFF)] }, svc := { s.svc with assay := none }, mt := { State.reset.mt with running := true, bucket := 9, edge := [.join 9] } }).set CX_CAL_EN_enable 0 |>.set CX_MT_STATUS_state 1) |>.set CX_HQ_BANKS_in_service 0x0FF1) |>.set CX_HQ_BANKS_retire 0x0108) State.reset, 9, by decide⟩

theorem witness_FlushesDepthBanksAndSpareRows_13 : ∃ (s : State) (die row : Nat), die < 2 ∧ row < 1048576 ∧
  s.mt.running = true ∧ s.store.spareDue.contains (die, row) = true ∧ s.get (HS_SPARE_used die) < 1024 :=
  ⟨(fun s => { (s.set (HS_SPARE_used 1) 4) with mt := { s.mt with running := true }, store := { s.store with spareDue := [(1, 77)] } }) State.reset, 1, 77, by decide⟩

theorem witness_MapPeriodsChasersAndAccepts_1 : ∃ (s : State) (orbit bucket absent c : Nat), orbit < 2 ^ 32 ∧ bucket <
  65536 ∧ absent < 8 ∧ c < 32 ∧ s.mt.running = true ∧ s.evaluates (orbit, bucket) = true ∧ s.chaserRuns c = true ∧
  s.timer c 0 = 0 ∧ s.timer c 1 = 0 :=
  ⟨(fun s => { (((s.set CX_PLATE_STATUS_state 4).set CX_ACQ_STATUS_state 2).set CX_HQ_VALID_BT_valid 1 |>.set CX_HQ_VALID_ORBIT_orbit 0 |>.set CX_HQ_VALID_BT_bucket 0 |>.set (TG_CHSTAT_state 0) 0) with mt := { State.reset.mt with running := true, orbit := 5 }, tg := State.reset.tg, plate := { State.reset.plate with mem := [((0x300 * 16 + 0), 2 ^ 63 + 3 * 2 ^ 59 + 0x1FFF * 2 ^ 44 + 0xA5 * 2 ^ 23), (0x306 * 16, 2 ^ 63)] } }) State.reset, 3, 7, 0, 0, by decide⟩

theorem witness_MapPeriodsChasersAndAccepts_2 : ∃ (s : State) (orbit bucket absent c : Nat), orbit < 2 ^ 32 ∧ bucket <
  65536 ∧ absent < 8 ∧ c < 32 ∧ s.mt.running = true ∧ s.evaluates (orbit, bucket) = true ∧ s.chaserRuns c = false :=
  ⟨(fun s => { (((s.set CX_PLATE_STATUS_state 4).set CX_ACQ_STATUS_state 2).set CX_HQ_VALID_BT_valid 1 |>.set CX_HQ_VALID_ORBIT_orbit 0 |>.set CX_HQ_VALID_BT_bucket 0 |>.set (TG_CHSTAT_state 0) 5) with mt := { State.reset.mt with running := true, orbit := 5 }, tg := State.reset.tg, plate := State.reset.plate }) State.reset, 3, 7, 0, 0, by decide⟩

theorem witness_MapPeriodsChasersAndAccepts_3 : ∃ (s : State) (c i : Nat), c < 32 ∧ i < 2 ∧ s.timer c i = 1 ∧
  s.mt.running = true ∧ s.acq = true ∧ s.stage6Out = false ∧ s.chaserRuns c = true :=
  ⟨(fun s => State.setTimer { (((s.set CX_PLATE_STATUS_state 4).set CX_ACQ_STATUS_state 2)) with mt := { s.mt with running := true }, plate := { State.reset.plate with mem := [(0x306 * 16 + 16 * 24, 2 ^ 63)] } } 3 1 1) State.reset, 3, 1, by decide⟩

theorem witness_MapPeriodsChasersAndAccepts_4 : ∃ (s : State) (body : Nat), body < 2 ^ 64 ∧ s.mt.running = true ∧
  (s.tg.arrived.contains body = false ∨ s.tg.arrived.head? = some body) ∧ s.acq = true ∧ s.stages79Out = false ∧ body
  / 2 ^ 4 % 65536 < s.mt.nb :=
  ⟨(fun s => { (s.set CX_ACQ_STATUS_state 2) with plate := State.reset.plate, mt := { s.mt with nb := 2880, running := true }, tg := { s.tg with arrived := [] } }) State.reset, 3458764513901297280, by decide⟩

theorem witness_MapPeriodsChasersAndAccepts_5 : ∃ (s : State) (body : Nat), body < 2 ^ 64 ∧ s.mt.running = true ∧
  (s.tg.arrived.contains body = false ∨ s.tg.arrived.head? = some body) ∧ s.acq = true ∧ s.stages79Out = false ∧
  s.mt.nb ≤ body / 2 ^ 4 % 65536 :=
  ⟨(fun s => { (s.set CX_ACQ_STATUS_state 2) with plate := State.reset.plate, mt := { s.mt with nb := 2880, running := true }, tg := { s.tg with arrived := [] } }) State.reset, 3458764513901327360, by decide⟩

theorem witness_MapPeriodsChasersAndAccepts_6 : ∃ (s : State) (body : Nat), body < 2 ^ 64 ∧ s.mt.running = true ∧
  s.tg.arrived.contains body = false ∧ s.acq = false :=
  ⟨(fun s => ({ s with mt := { s.mt with running := true }, tg := { s.tg with arrived := [] } }).set CX_ACQ_STATUS_state 0) State.reset, 16, by decide⟩

theorem witness_TriggersOpenOrAreRefused_1 : ∃ (s : State) (x : Trig) (rest : List Trig) (cause : Nat), s.mt.running =
  true ∧ s.tg.queue = x :: rest ∧ s.refusalCause x (s.inRearm x) = some cause ∧ s.get RC_RF_used < 4096 :=
  ⟨(fun s => { ((s.set RC_RF_used 5).set CX_PLATE_STATUS_state 1) with mt := { s.mt with running := true }, rc := State.reset.rc, str := State.reset.str, tg := { s.tg with queue := [⟨true, 2, 77, 5, 100, false, 6, 0⟩] } }) State.reset, ⟨true, 2, 77, 5, 100, false, 6, 0⟩, [], 1, by decide⟩

theorem witness_TriggersOpenOrAreRefused_2 : ∃ (s : State) (x : Trig) (rest : List Trig) (ctx : Nat), s.mt.running =
  true ∧ s.tg.queue = x :: rest ∧ x.bad = false ∧ s.inRearm x = none ∧ s.refusalCause x none = none ∧ ctx < 10240 ∧
  Sparse.has ctx s.rc.ctxUsed = false ∧ (∀ c < ctx, Sparse.has c s.rc.ctxUsed = true) :=
  ⟨(fun s => { (((s.set CX_PLATE_STATUS_state 4).set RC_CTX_free 10240).set CX_PLATE_RELOAD_state 0) with rc := { State.reset.rc with last := [] }, str := State.reset.str, store := State.reset.store, mt := { State.reset.mt with running := true, orbit := 6 }, plate := { State.reset.plate with mem := [(0xF8 * 16, 2 ^ 63), (0xF8 * 16 + 1, 0x1234567812345678)] }, tg := { s.tg with queue := [⟨true, 2, 77, 5, 100, false, 6, 0⟩] } }) State.reset, ⟨true, 2, 77, 5, 100, false, 6, 0⟩, [], 0, by set_option maxRecDepth 100000 in decide⟩

theorem witness_TriggersOpenOrAreRefused_3 : ∃ (s : State) (x : Trig) (rest : List Trig) (ctx : Nat) (l : LastRec),
  s.mt.running = true ∧ s.tg.queue = x :: rest ∧ x.bad = false ∧ s.inRearm x = some l ∧ tcPolicy s.rd x.cls = 2 ∧
  s.refusalCause x (some l) = none ∧ ctx < 10240 ∧ Sparse.has ctx s.rc.ctxUsed = false ∧ (∀ c < ctx, Sparse.has c
  s.rc.ctxUsed = true) :=
  ⟨(fun s => { (((s.set CX_PLATE_STATUS_state 4).set RC_CTX_free 10240).set CX_PLATE_RELOAD_state 0) with rc := { State.reset.rc with last := [⟨2, 5, 99, 5, 110⟩] }, str := State.reset.str, store := State.reset.store, mt := { State.reset.mt with running := true, orbit := 6 }, plate := { State.reset.plate with mem := [(0xF8 * 16, 2 ^ 63 + 20 * 2 ^ 31 + 100 * 2 ^ 21 + 2 * 2 ^ 19), (0xF8 * 16 + 1, 0x1234567812345678), (0xF8 * 16 + 2, 0x1234567812345678)] }, tg := { s.tg with queue := [⟨true, 2, 77, 5, 100, false, 6, 0⟩] } }) State.reset, ⟨true, 2, 77, 5, 100, false, 6, 0⟩, [], 0, ⟨2, 5, 99, 5, 110⟩, by set_option maxRecDepth 100000 in decide⟩

theorem witness_TriggersOpenOrAreRefused_4 : ∃ (s : State) (x : Trig) (rest : List Trig) (ctx : Nat) (l : LastRec),
  s.mt.running = true ∧ s.tg.queue = x :: rest ∧ x.bad = false ∧ s.inRearm x = some l ∧ tcPolicy s.rd x.cls = 1 ∧
  s.refusalCause x (some l) = none ∧ s.before (subBkt s.mt.nb (x.orbit, x.bucket) (tcPre s.rd x.cls)) (addBkt s.mt.nb
  (l.endO, l.endB) 1) = true ∧ ctx < 10240 ∧ Sparse.has ctx s.rc.ctxUsed = false ∧ (∀ c < ctx, Sparse.has c
  s.rc.ctxUsed = true) :=
  ⟨(fun s => { (((s.set CX_PLATE_STATUS_state 4).set RC_CTX_free 10240).set CX_PLATE_RELOAD_state 0) with rc := { State.reset.rc with last := [⟨2, 5, 99, 5, 110⟩] }, str := State.reset.str, store := State.reset.store, mt := { State.reset.mt with running := true, orbit := 6 }, plate := { State.reset.plate with mem := [(0xF8 * 16, 2 ^ 63 + 20 * 2 ^ 31 + 100 * 2 ^ 21 + 1 * 2 ^ 19), (0xF8 * 16 + 1, 0x1234567812345678), (0xF8 * 16 + 2, 0x1234567812345678)] }, tg := { s.tg with queue := [⟨true, 2, 77, 5, 100, false, 6, 0⟩] } }) State.reset, ⟨true, 2, 77, 5, 100, false, 6, 0⟩, [], 0, ⟨2, 5, 99, 5, 110⟩, by set_option maxRecDepth 100000 in decide⟩

theorem witness_TriggersOpenOrAreRefused_5 : ∃ (s : State) (x : Trig) (rest : List Trig) (ctx : Nat), s.mt.running =
  true ∧ s.tg.queue = x :: rest ∧ x.bad = true ∧ s.refusalCause x none = none ∧ ctx < 10240 ∧ Sparse.has ctx
  s.rc.ctxUsed = false ∧ (∀ c < ctx, Sparse.has c s.rc.ctxUsed = true) :=
  ⟨(fun s => { (((s.set CX_PLATE_STATUS_state 4).set RC_CTX_free 10240).set CX_PLATE_RELOAD_state 0) with rc := { State.reset.rc with last := [] }, str := State.reset.str, store := State.reset.store, mt := { State.reset.mt with running := true, orbit := 6 }, plate := { State.reset.plate with mem := [(0xF8 * 16, 2 ^ 63), (0xF8 * 16 + 1, 0x1234567812345678)] }, tg := { s.tg with queue := [⟨true, 2, 77, 5, 100, true, 6, 0⟩] } }) State.reset, ⟨true, 2, 77, 5, 100, true, 6, 0⟩, [], 0, by set_option maxRecDepth 100000 in decide⟩

theorem witness_TriggersOpenOrAreRefused_6 : ∃ (s : State) (cls len : Nat), cls < 16 ∧ len < 2 ^
  RC_DUMP_CTRL_len.width ∧ s.get RC_FREEZE_STATUS_state ≠ 3 :=
  ⟨(fun s => s.set RC_FREEZE_STATUS_state 1) State.reset, 3, 100, by decide⟩

theorem witness_TriggersOpenOrAreRefused_7 : ∃ (s : State) (cls len ctx : Nat), cls < 16 ∧ len < 2 ^
  RC_DUMP_CTRL_len.width ∧ s.get RC_FREEZE_STATUS_state = 3 ∧ s.on RC_DUMP_CTRL_running = false ∧ s.stages79Out =
  false ∧ tcEnable s.rd cls = true ∧ s.get RC_CTX_free ≠ 0 ∧ ctx < 10240 ∧ Sparse.has ctx s.rc.ctxUsed = false ∧ (∀ c
  < ctx, Sparse.has c s.rc.ctxUsed = true) :=
  ⟨(fun s => { (((s.set CX_PLATE_STATUS_state 4).set RC_CTX_free 10240).set CX_PLATE_RELOAD_state 0 |>.set RC_FREEZE_STATUS_state 3 |>.set RC_DUMP_CTRL_running 0) with rc := State.reset.rc, str := State.reset.str, store := State.reset.store, plate := { State.reset.plate with mem := [(0xF8 * 16, 2 ^ 63), (0xF8 * 16 + 1, 0x1234567812345678)] }, tg := State.reset.tg }) State.reset, 2, 3, 0, by decide⟩

theorem witness_RecordsReadCompleteAndFreeze_1 : ∃ (s : State) (ctx i : Nat) (r : Rec) (a : DescAt) (d : Desc), ctx <
  10240 ∧ s.mt.running = true ∧ s.recServed = some r ∧ r.ctx = ctx ∧ s.findRec ctx = some r ∧ r.ready = some i ∧
  s.findDesc (s.winBkt r i) = some (a, d) :=
  ⟨(fun s => { ({ s with store := State.reset.store, rc := State.reset.rc, str := State.reset.str, tg := State.reset.tg, plate := State.reset.plate, mt := { State.reset.mt with running := true, orbit := 6 } }) with rc := { State.reset.rc with recs := [({ ctx := 3, id := 9, origin := 0, cls := 2, number := 77, orbit := 5, bucket := 100, bad := false, w0 := 0, w1 := 2 ^ 62, w2 := 0, w3 := 0, winO := 5, winB := 90, len := 2, next := 0, pins := [0], gone := [1], endAt := none, trimmed := false, overlap := false, frozen := false, holdover := false, feAbsent := 0, damaged := 0, quar := false, hits := [], open_ := [], closed := [] } : Rec)] }, store := { State.reset.store with desc := [((5 * 2880 + 90) % 32768, { Desc.clear with orbit := 5, bucket := 90, valid := true, written := true, pins := 1, dropped := 2 })] } }) State.reset, 3, 0, ({ ctx := 3, id := 9, origin := 0, cls := 2, number := 77, orbit := 5, bucket := 100, bad := false, w0 := 0, w1 := 2 ^ 62, w2 := 0, w3 := 0, winO := 5, winB := 90, len := 2, next := 0, pins := [0], gone := [1], endAt := none, trimmed := false, overlap := false, frozen := false, holdover := false, feAbsent := 0, damaged := 0, quar := false, hits := [], open_ := [], closed := [] } : Rec), .ring ((5 * 2880 + 90) % 32768), { Desc.clear with orbit := 5, bucket := 90, valid := true, written := true, pins := 1, dropped := 2 }, by decide⟩

theorem witness_RecordsReadCompleteAndFreeze_2 : ∃ (s : State) (ctx : Nat) (r : Rec), s.recServed = some r ∧ r.ctx ≠
  ctx :=
  ⟨(fun s => { ({ s with store := State.reset.store, rc := State.reset.rc, str := State.reset.str, tg := State.reset.tg, plate := State.reset.plate, mt := { State.reset.mt with running := true, orbit := 6 } }) with rc := { State.reset.rc with recs := [({ ctx := 3, id := 9, origin := 0, cls := 2, number := 77, orbit := 5, bucket := 100, bad := false, w0 := 0, w1 := 2 ^ 62, w2 := 0, w3 := 0, winO := 5, winB := 90, len := 2, next := 0, pins := [0], gone := [1], endAt := none, trimmed := false, overlap := false, frozen := false, holdover := false, feAbsent := 0, damaged := 0, quar := false, hits := [], open_ := [], closed := [] } : Rec), { ({ ctx := 3, id := 9, origin := 0, cls := 2, number := 77, orbit := 5, bucket := 100, bad := false, w0 := 0, w1 := 2 ^ 62, w2 := 0, w3 := 0, winO := 5, winB := 90, len := 2, next := 0, pins := [0], gone := [1], endAt := none, trimmed := false, overlap := false, frozen := false, holdover := false, feAbsent := 0, damaged := 0, quar := false, hits := [], open_ := [], closed := [] } : Rec) with ctx := 4 }] } }) State.reset, 4, ({ ctx := 3, id := 9, origin := 0, cls := 2, number := 77, orbit := 5, bucket := 100, bad := false, w0 := 0, w1 := 2 ^ 62, w2 := 0, w3 := 0, winO := 5, winB := 90, len := 2, next := 0, pins := [0], gone := [1], endAt := none, trimmed := false, overlap := false, frozen := false, holdover := false, feAbsent := 0, damaged := 0, quar := false, hits := [], open_ := [], closed := [] } : Rec), by decide⟩

theorem witness_RecordsReadCompleteAndFreeze_3 : ∃ (s : State) (ctx : Nat) (r : Rec), ctx < 10240 ∧ s.mt.running =
  true ∧ s.findRec ctx = some r ∧ r.awaits = false ∧ s.get RC_FBUF_free ≠ 0 :=
  ⟨(fun s => { ((({ s with store := State.reset.store, rc := State.reset.rc, str := State.reset.str, tg := State.reset.tg, plate := State.reset.plate, mt := { State.reset.mt with running := true, orbit := 6 } }).set RC_FBUF_free 32768)) with rc := { State.reset.rc with recs := [{ ({ ctx := 3, id := 9, origin := 0, cls := 2, number := 77, orbit := 5, bucket := 100, bad := false, w0 := 0, w1 := 2 ^ 62, w2 := 0, w3 := 0, winO := 5, winB := 90, len := 2, next := 0, pins := [0], gone := [1], endAt := none, trimmed := false, overlap := false, frozen := false, holdover := false, feAbsent := 0, damaged := 0, quar := false, hits := [], open_ := [], closed := [] } : Rec) with next := 1, pins := [] }] }, str := { State.reset.str with order := [⟨9, 0, 2, 77, 5, 100, some 3, false, none, 0, 0⟩] } }) State.reset, 3, { ({ ctx := 3, id := 9, origin := 0, cls := 2, number := 77, orbit := 5, bucket := 100, bad := false, w0 := 0, w1 := 2 ^ 62, w2 := 0, w3 := 0, winO := 5, winB := 90, len := 2, next := 0, pins := [0], gone := [1], endAt := none, trimmed := false, overlap := false, frozen := false, holdover := false, feAbsent := 0, damaged := 0, quar := false, hits := [], open_ := [], closed := [] } : Rec) with next := 1, pins := [] }, by decide⟩

theorem witness_RecordsReadCompleteAndFreeze_4 : ∃ (s : State), s.on RC_HIST_CTRL_clearing = true :=
  ⟨(fun s => s.set RC_HIST_CTRL_clearing 1) State.reset, by decide⟩

theorem witness_RecordsReadCompleteAndFreeze_5 : ∃ (s : State), s.on RC_HIST_CTRL_clearing = false ∧
  s.mt.edge.contains .swap = false ∧ s.mt.running = true :=
  ⟨(fun s => ({ s with mt := { s.mt with running := true, edge := [.flush] } }).set RC_HIST_CTRL_clearing 0) State.reset, by decide⟩

theorem witness_RecordsReadCompleteAndFreeze_6 : ∃ (s : State), s.on RC_HIST_CTRL_clearing = false ∧
  s.mt.edge.contains .swap = false ∧ s.mt.running = false :=
  ⟨(fun s => ({ s with mt := { s.mt with running := false, edge := [] } }).set RC_HIST_CTRL_clearing 0) State.reset, by decide⟩

theorem witness_RecordsReadCompleteAndFreeze_7 : ∃ (s : State), s.pending = [] ∧ s.mt.running = true ∧ s.mt.bucket + 1
  < s.mt.nb ∧ s.mt.edge = [.swap] ∧ s.tg.arrived = [] ∧ s.calMay CX_CAL_EN_enable = false ∧ s.get CX_MT_STATUS_state ≠
  3 ∧ s.mt.held = false :=
  ⟨(fun s => ({ s with pending := [], was := [], tg := { s.tg with arrived := [] }, mt := { State.reset.mt with running := true, bucket := 9, edge := [.swap] } }).set CX_CAL_EN_enable 0 |>.set CX_MT_STATUS_state 1) State.reset, by decide⟩

theorem witness_RecordsReadCompleteAndFreeze_8 : ∃ (s : State), s.mt.running = true ∧ s.on RC_HIST_CTRL_clearing =
  true :=
  ⟨(fun s => { (s.set RC_HIST_CTRL_clearing 1) with mt := { s.mt with running := true }, rc := { s.rc with hist0 := [(5, 6)], hist1 := [(7, 8)] } }) State.reset, by decide⟩

theorem witness_RecordsReadCompleteAndFreeze_9 : ∃ (s : State) (post : Nat), post < 2 ^ RC_FREEZE_CTRL_post.width ∧
  s.get RC_FREEZE_STATUS_state ≤ 1 :=
  ⟨(fun s => s.set RC_FREEZE_STATUS_state 0) State.reset, 64, by decide⟩

theorem witness_RecordsReadCompleteAndFreeze_10 : ∃ (s : State) (post : Nat), post < 2 ^ RC_FREEZE_CTRL_post.width ∧
  s.get RC_FREEZE_STATUS_state = 1 :=
  ⟨(fun s => s.set RC_FREEZE_STATUS_state 1) State.reset, 64, by decide⟩

theorem witness_RecordsReadCompleteAndFreeze_11 : ∃ (s : State) (b : Nat × Nat), s.get RC_FREEZE_STATUS_state ≤ 1 ∧
  s.store.lastSealed = some b :=
  ⟨(fun s => { (s.set RC_FREEZE_STATUS_state 1) with store := { s.store with lastSealed := some (7, 8) } }) State.reset, (7, 8), by decide⟩

theorem witness_RecordsReadCompleteAndFreeze_12 : ∃ (s : State) (post : Nat), post < 2 ^ RC_FREEZE_CTRL_post.width ∧ 2
  ≤ s.get RC_FREEZE_STATUS_state :=
  ⟨(fun s => s.set RC_FREEZE_STATUS_state 3) State.reset, 64, by decide⟩

theorem witness_RecordsReadCompleteAndFreeze_13 : ∃ (s : State), 2 ≤ s.get RC_FREEZE_STATUS_state :=
  ⟨(fun s => s.set RC_FREEZE_STATUS_state 2) State.reset, by decide⟩

theorem witness_RecordsReadCompleteAndFreeze_14 : ∃ (s : State), s.get RC_FREEZE_STATUS_state = 2 ∧ s.clock <
  s.rc.stopAt :=
  ⟨(fun s => { (s.set RC_FREEZE_STATUS_state 2) with clock := 5, rc := { s.rc with stopAt := 6 } }) State.reset, by decide⟩

theorem witness_RecordsReadCompleteAndFreeze_15 : ∃ (s : State), s.mt.running = true ∧ s.get RC_FREEZE_STATUS_state =
  2 ∧ s.rc.stopAt ≤ s.clock :=
  ⟨(fun s => { (s.set RC_FREEZE_STATUS_state 2) with mt := { s.mt with running := true }, clock := 9, rc := { s.rc with stopAt := 9, recs := [({ ctx := 3, id := 9, origin := 0, cls := 2, number := 77, orbit := 5, bucket := 100, bad := false, w0 := 0, w1 := 2 ^ 62, w2 := 0, w3 := 0, winO := 5, winB := 90, len := 2, next := 0, pins := [0], gone := [1], endAt := none, trimmed := false, overlap := false, frozen := false, holdover := false, feAbsent := 0, damaged := 0, quar := false, hits := [], open_ := [], closed := [] } : Rec)] }, store := { s.store with sort := [⟨0, 5, 9⟩] } }) State.reset, by decide⟩

theorem witness_BlocksLeaveAndAreAcknowledged_1 : ∃ (s : State) (port : Nat) (f : OutFrag), port < 6 ∧ s.dataUp = some
  port ∧ s.on CX_ARCH_STATUS_mgmt_backup = false ∧ (s.path port).started = true ∧ s.serving port 3 ≠ [] ∧ (s.path
  port).resend = 0 ∧ (s.path port).out.length < (s.path port).window ∧ (s.path port).nextFrag = some f :=
  ⟨(fun s => State.setPath ((((((((({ s with str := State.reset.str, plate := State.reset.plate, fb := State.reset.fb, lanes := [] }).set FB_UP_d_pri 1).set FB_PORTS_data_up 0x3F).set CX_ARCH_STATUS_mgmt_backup 0).set (LN_STATUS_role 8) 3).set (LN_PWR_rx_now 8) 0).set (LN_PWR_tx_now 8) 0).set (LN_STATUS_sym_lock 8) 1).set (LN_CTRL_out 8) 0) 1 { DPath.new with started := true, window := 16, frags := [⟨4, some 9, 0x20A, 77, List.replicate 40 5, [3], 2, 0, 0⟩] }) State.reset, 1, ⟨4, some 9, 0x20A, 77, List.replicate 40 5, [3], 2, 0, 0⟩, by decide⟩

theorem witness_BlocksLeaveAndAreAcknowledged_2 : ∃ (s : State) (port ack window : Nat) (nak : Bool), port < 6 ∧ ack <
  65536 ∧ window < 65536 ∧ 4096 < window ∧ (s.path port).started = true ∧ s.fb.dReturn = false :=
  ⟨(fun s => State.setPath ((((((((({ s with str := State.reset.str, plate := State.reset.plate, fb := State.reset.fb, lanes := [] }).set FB_UP_d_pri 1).set FB_PORTS_data_up 0x3F).set CX_ARCH_STATUS_mgmt_backup 0).set (LN_STATUS_role 8) 3).set (LN_PWR_rx_now 8) 0).set (LN_PWR_tx_now 8) 0).set (LN_STATUS_sym_lock 8) 1).set (LN_CTRL_out 8) 0) 1 { DPath.new with started := true, window := 16, frags := [⟨4, some 9, 0x20A, 77, List.replicate 40 5, [3], 2, 0, 0⟩] }) State.reset, 1, 0, 4097, true, by decide⟩

theorem witness_BlocksLeaveAndAreAcknowledged_3 : ∃ (s : State) (port ack window n : Nat) (nak : Bool), port < 6 ∧ ack
  < 65536 ∧ window ≤ 4096 ∧ (s.path port).started = true ∧ s.fb.dReturn = false ∧ n ≤ (s.path port).out.length ∧
  (s.path port).ack < 65536 ∧ ack = ((s.path port).ack + n) % 65536 ∧ n < 65536 ∧ (s.path port).resend ≤ (s.path
  port).out.length :=
  ⟨(fun s => State.setPath ((((((((({ s with str := State.reset.str, plate := State.reset.plate, fb := State.reset.fb, lanes := [] }).set FB_UP_d_pri 1).set FB_PORTS_data_up 0x3F).set CX_ARCH_STATUS_mgmt_backup 0).set (LN_STATUS_role 8) 3).set (LN_PWR_rx_now 8) 0).set (LN_PWR_tx_now 8) 0).set (LN_STATUS_sym_lock 8) 1).set (LN_CTRL_out 8) 0) 1 { { DPath.new with started := true, window := 16, frags := [⟨4, some 9, 0x20A, 77, List.replicate 40 5, [3], 2, 0, 0⟩] } with nseq := 3, ack := 65535, out := [⟨4, 0⟩, ⟨4, 1⟩, ⟨5, 0⟩], resend := 2 }) State.reset, 1, 1, 500, 2, true, by decide⟩

theorem witness_BlocksLeaveAndAreAcknowledged_4 : ∃ (s : State) (port : Nat), port < 6 ∧ (s.path port).started = true
  :=
  ⟨(fun s => State.setPath ((((((((({ s with str := State.reset.str, plate := State.reset.plate, fb := State.reset.fb, lanes := [] }).set FB_UP_d_pri 1).set FB_PORTS_data_up 0x3F).set CX_ARCH_STATUS_mgmt_backup 0).set (LN_STATUS_role 8) 3).set (LN_PWR_rx_now 8) 0).set (LN_PWR_tx_now 8) 0).set (LN_STATUS_sym_lock 8) 1).set (LN_CTRL_out 8) 0) 1 { { DPath.new with started := true, window := 16, frags := [⟨4, some 9, 0x20A, 77, List.replicate 40 5, [3], 2, 0, 0⟩] } with nseq := 3, ack := 65535, out := [⟨4, 0⟩, ⟨4, 1⟩] }) State.reset, 1, by decide⟩

theorem witness_BlocksLeaveAndAreAcknowledged_5 : ∃ (s : State) (port : Nat), port < 6 ∧ (s.path port).started = true
  :=
  ⟨(fun s => State.setPath ((((((((({ s with str := State.reset.str, plate := State.reset.plate, fb := State.reset.fb, lanes := [] }).set FB_UP_d_pri 1).set FB_PORTS_data_up 0x3F).set CX_ARCH_STATUS_mgmt_backup 0).set (LN_STATUS_role 8) 3).set (LN_PWR_rx_now 8) 0).set (LN_PWR_tx_now 8) 0).set (LN_STATUS_sym_lock 8) 1).set (LN_CTRL_out 8) 0) 1 { { DPath.new with started := true, window := 16, frags := [⟨4, some 9, 0x20A, 77, List.replicate 40 5, [3], 2, 0, 0⟩] } with rxAck := 9, rxNak := true }) State.reset, 1, by decide⟩

theorem witness_BlocksArriveAndMergesForm_1 : ∃ (s : State) (port : Nat) (b : BlockIn), port < 6 ∧ b.wf = true ∧
  (s.path port).started = true ∧ s.serving port 3 ≠ [] ∧ rxBlock (lrEthernet s.shadowRd port) b = .bad true :=
  ⟨(fun s => State.setPath ((((((((({ s with str := State.reset.str, plate := State.reset.plate, fb := State.reset.fb, lanes := [] }).set FB_UP_d_pri 1).set FB_PORTS_data_up 0x3F).set CX_ARCH_STATUS_mgmt_backup 0).set (LN_STATUS_role 8) 3).set (LN_PWR_rx_now 8) 0).set (LN_PWR_tx_now 8) 0).set (LN_STATUS_sym_lock 8) 1).set (LN_CTRL_out 8) 0) 1 { DPath.new with started := true, window := 16, frags := [⟨4, some 9, 0x20A, 77, List.replicate 40 5, [3], 2, 0, 0⟩] }) State.reset, 1, ⟨[(2, 0xA1), (1, 5), (2, 0xA4)], []⟩, by decide⟩

theorem witness_BlocksArriveAndMergesForm_2 : ∃ (s : State) (port : Nat) (b : BlockIn) (start : Nat) (ws : List Nat),
  port < 6 ∧ b.wf = true ∧ (s.path port).started = true ∧ s.serving port 3 ≠ [] ∧ rxBlock (lrEthernet s.shadowRd port)
  b = .block start ws ∧ bits start 48 16 = ((s.path port).rxAck + 1) % 65536 ∧ bits start 10 12 = 0 ∧ bit start 9 =
  false ∧ (s.path port).rxPart = none ∧ (s.path port).rxHeld = [] :=
  ⟨(fun s => State.setPath (((((((((({ s with str := State.reset.str, plate := State.reset.plate, fb := State.reset.fb, lanes := [] } : State).set RC_FBUF_free 5000).set FB_UP_d_pri 1).set FB_PORTS_data_up 0x3F).set CX_ARCH_STATUS_mgmt_backup 0).set (LN_STATUS_role 8) 3).set (LN_PWR_rx_now 8) 0).set (LN_PWR_tx_now 8) 0).set (LN_STATUS_sym_lock 8) 1).set (LN_CTRL_out 8) 0) 1 { { DPath.new with started := true, window := 16, frags := [⟨4, some 9, 0x20A, 77, List.replicate 40 5, [3], 2, 0, 0⟩] } with rxAck := 9 }) State.reset, 1, ⟨[ctrlUnit (10 * 2 ^ 48 + 3 * 2 ^ 36 + 7 * 2 ^ 22 + 0xA1), dataUnit 1, dataUnit 2, ctrlUnit (blockEnd [1, 2])], []⟩, (10 * 2 ^ 48 + 3 * 2 ^ 36 + 7 * 2 ^ 22 + 0xA1), [1, 2], by decide⟩

theorem witness_BlocksArriveAndMergesForm_3 : ∃ (s : State) (port : Nat) (b : BlockIn) (start : Nat) (ws : List Nat),
  port < 6 ∧ b.wf = true ∧ (s.path port).started = true ∧ (s.serving port 3).length = 1 ∧ rxBlock (lrEthernet
  s.shadowRd port) b = .block start ws ∧ bits start 48 16 = ((s.path port).rxAck + 2) % 65536 ∧ (s.path port).rxAck <
  65536 :=
  ⟨(fun s => State.setPath ((((((((({ s with str := State.reset.str, plate := State.reset.plate, fb := State.reset.fb, lanes := [] }).set FB_UP_d_pri 1).set FB_PORTS_data_up 0x3F).set CX_ARCH_STATUS_mgmt_backup 0).set (LN_STATUS_role 8) 3).set (LN_PWR_rx_now 8) 0).set (LN_PWR_tx_now 8) 0).set (LN_STATUS_sym_lock 8) 1).set (LN_CTRL_out 8) 0) 1 { { DPath.new with started := true, window := 16, frags := [⟨4, some 9, 0x20A, 77, List.replicate 40 5, [3], 2, 0, 0⟩] } with rxAck := 65534 }) State.reset, 1, ⟨[ctrlUnit (3 * 2 ^ 36 + 7 * 2 ^ 22 + 0xA1), dataUnit 1, dataUnit 2, ctrlUnit (blockEnd [1, 2])], []⟩, (3 * 2 ^ 36 + 7 * 2 ^ 22 + 0xA1), [1, 2], by decide⟩

theorem witness_BlocksArriveAndMergesForm_4 : ∃ (s : State) (port : Nat) (b : BlockIn) (start : Nat) (ws : List Nat),
  port < 6 ∧ b.wf = true ∧ (s.path port).started = true ∧ 2 ≤ (s.serving port 3).length ∧ rxBlock (lrEthernet
  s.shadowRd port) b = .block start ws ∧ bits start 48 16 = ((s.path port).rxAck + 2) % 65536 ∧ (s.path port).rxAck <
  65536 ∧ (s.path port).rxHeld = [] :=
  ⟨(fun s => State.setPath (((((((((((((({ s with str := State.reset.str, plate := State.reset.plate, fb := State.reset.fb, lanes := [] }).set FB_UP_d_pri 1).set FB_PORTS_data_up 0x3F).set CX_ARCH_STATUS_mgmt_backup 0).set (LN_STATUS_role 8) 3).set (LN_PWR_rx_now 8) 0).set (LN_PWR_tx_now 8) 0).set (LN_STATUS_sym_lock 8) 1).set (LN_CTRL_out 8) 0).set (LN_STATUS_role 9) 3).set (LN_PWR_rx_now 9) 0).set (LN_PWR_tx_now 9) 0).set (LN_STATUS_sym_lock 9) 1).set (LN_CTRL_out 9) 0) 1 { { DPath.new with started := true, window := 16, frags := [⟨4, some 9, 0x20A, 77, List.replicate 40 5, [3], 2, 0, 0⟩] } with rxAck := 65534 }) State.reset, 1, ⟨[ctrlUnit (3 * 2 ^ 36 + 7 * 2 ^ 22 + 0xA1), dataUnit 1, dataUnit 2, ctrlUnit (blockEnd [1, 2])], []⟩, (3 * 2 ^ 36 + 7 * 2 ^ 22 + 0xA1), [1, 2], by decide⟩

theorem witness_BlocksArriveAndMergesForm_5 : ∃ (s : State) (c : Contrib) (rest : List Contrib) (p : Nat), s.str.order
  = [] ∧ s.str.mergeIn = c :: rest ∧ s.mergeOn = false ∧ c.port = some p :=
  ⟨(fun s => State.set { s with str := { State.reset.str with mergeIn := [⟨3, some 1, ⟨none, 0x20A, some 5, [77 * 4, 0, 0, 0], [], 1⟩⟩] } } FB_MERGE_CTRL_enable 0) State.reset, ⟨3, some 1, ⟨none, 0x20A, some 5, [77 * 4, 0, 0, 0], [], 1⟩⟩, [], 1, by decide⟩

theorem witness_BlocksArriveAndMergesForm_6 : ∃ (s : State) (c : Contrib) (rest : List Contrib), s.str.order = [] ∧
  s.mergeOn = true ∧ s.str.mergeIn = c :: rest ∧ s.str.merges.all (fun m => m.number != fragNumber c.frag.words) =
  true ∧ s.str.mergedNums.contains (fragNumber c.frag.words) = false ∧ s.get FB_MERGE_STATUS_open < 1024 ∧ s.mergeAll
  ≠ 2 ^ c.member :=
  ⟨(fun s => ((({ s with str := { State.reset.str with mergeIn := [⟨3, some 1, ⟨none, 0x20A, some 5, [77 * 4, 0, 0, 0], [], 1⟩⟩] } } : State).set FB_MERGE_CTRL_enable 1 |>.set FB_MERGE_CTRL_self 1).set (FB_MERGE_SET_valid 3) 1).set FB_MERGE_STATUS_open 0) State.reset, ⟨3, some 1, ⟨none, 0x20A, some 5, [77 * 4, 0, 0, 0], [], 1⟩⟩, [], by decide⟩

theorem witness_BlocksArriveAndMergesForm_7 : ∃ (s : State) (c : Contrib) (rest : List Contrib) (m : Merge),
  s.str.order = [] ∧ s.mergeOn = true ∧ s.str.mergeIn = c :: rest ∧ s.str.merges = [m] ∧ m.number = fragNumber
  c.frag.words ∧ m.built = none ∧ bit m.came c.member = false ∧ Nat.land (m.came + 2 ^ c.member) s.mergeAll =
  s.mergeAll ∧ m.contribs.foldl (fun v x => v + x.frag.words.length) 5 + c.frag.words.length ≤ 131072 :=
  ⟨(fun s => (((((({ s with str := { State.reset.str with mergeIn := [⟨3, some 1, ⟨none, 0x20A, some 5, [77 * 4, 0, 0, 0], [], 1⟩⟩], merges := [⟨77, [], 0, false, none⟩] } } : State).set FB_MERGE_CTRL_enable 1 |>.set FB_MERGE_CTRL_self 0).set (FB_MERGE_SET_valid 3) 1).set (FB_MERGE_SET_valid 5) 0).set (FB_MERGE_SET_valid 4) 0).set (FB_MERGE_SET_valid 63) 0)) State.reset, ⟨3, some 1, ⟨none, 0x20A, some 5, [77 * 4, 0, 0, 0], [], 1⟩⟩, [], ⟨77, [], 0, false, none⟩, by decide⟩

theorem witness_BlocksArriveAndMergesForm_8 : ∃ (s : State) (n : Nat) (m : Merge), n < 2 ^ 40 ∧ s.str.merges = [m] ∧
  m.number = n ∧ m.built = none :=
  ⟨(fun s => { s with str := { State.reset.str with merges := [⟨77, [⟨3, some 1, ⟨none, 0x20A, some 5, [77 * 4, 0, 0, 0], [], 1⟩⟩], 8, false, none⟩] } }) State.reset, 77, ⟨77, [⟨3, some 1, ⟨none, 0x20A, some 5, [77 * 4, 0, 0, 0], [], 1⟩⟩], 8, false, none⟩, by decide⟩

theorem witness_LanesLockSlipAndMeasure_1 : ∃ (s : State) (n lat : Nat), n < 48 ∧ lat < 2 ^ 16 ∧ s.on
  (LN_STATUS_sym_lock n) = false ∧ s.get (LN_PWR_rx_now n) = 0 ∧ s.role n ≠ 0 :=
  ⟨(fun s => (((({ s with lanes := [], shut := [], plate := State.reset.plate, fb := State.reset.fb, svc := State.reset.svc } : State).set (LN_STATUS_sym_lock 9) 0).set (LN_PWR_rx_now 9) 0).set (LN_STATUS_role 9) 1)) State.reset, 9, 77, by decide⟩

theorem witness_LanesLockSlipAndMeasure_2 : ∃ (s : State) (n : Nat) (many : Bool), n < 48 ∧ s.on (LN_STATUS_sym_lock
  n) = true :=
  ⟨(fun s => (((({ s with lanes := [], shut := [], plate := State.reset.plate, fb := State.reset.fb, svc := State.reset.svc } : State).set (LN_STATUS_sym_lock 9) 1).set (LN_STATUS_role 9) 1).set LN_HEALTH_lock_lim 3)) State.reset, 9, true, by decide⟩

theorem witness_LanesLockSlipAndMeasure_3 : ∃ (s : State) (n slip : Nat), n < 48 ∧ slip < 2048 ∧ s.isSource n = false
  ∧ s.acq = false :=
  ⟨(fun s => ((({ s with lanes := [], shut := [], plate := State.reset.plate, fb := State.reset.fb, svc := State.reset.svc } : State).set CX_MT_STATUS_src 0).set CX_ACQ_STATUS_state 0)) State.reset, 9, 512, by decide⟩

theorem witness_LanesLockSlipAndMeasure_4 : ∃ (s : State) (n slip : Nat), n < 48 ∧ slip < 2048 ∧ (s.isSource n = true
  ∨ s.acq = true) :=
  ⟨(fun s => ((({ s with lanes := [], shut := [], plate := State.reset.plate, fb := State.reset.fb, svc := State.reset.svc } : State).set CX_MT_STATUS_src 1).set CX_MT_STATUS_src_lane 9)) State.reset, 9, 512, by decide⟩

theorem witness_LanesLockSlipAndMeasure_5 : ∃ (s : State) (n eye : Nat) (steady driverFault : Bool), n < 48 ∧ eye <
  256 ∧ s.role n ≠ 0 ∧ s.get (LN_PWR_rx_now n) = 0 ∧ s.on (LN_STATUS_sym_lock n) = true :=
  ⟨(fun s => (((((((({ s with lanes := [], shut := [], plate := State.reset.plate, fb := State.reset.fb, svc := State.reset.svc } : State).set (LN_STATUS_sym_lock 9) 1).set (LN_PWR_rx_now 9) 0).set (LN_STATUS_role 9) 3).set LN_HEALTH_eye_warn 50).set LN_HEALTH_eye_fail 20).set (LN_EQ_eye_min 9) 7)).setLane 9 { Lane.new with lowWarn := 2, lowFail := 2, eyeSeen := true }) State.reset, 9, 5, true, false, by decide⟩

theorem witness_LanesLockSlipAndMeasure_6 : ∃ (s : State) (n loop pattern : Nat), n < 48 ∧ loop < 4 ∧ pattern < 4 ∧
  loop ≠ 0 ∧ s.on (LN_CTRL_out n) = false :=
  ⟨(fun s => (({ s with lanes := [], shut := [], plate := State.reset.plate, fb := State.reset.fb, svc := State.reset.svc } : State).set (LN_CTRL_out 9) 0)) State.reset, 9, 1, 2, by decide⟩

theorem witness_LanesLockSlipAndMeasure_7 : ∃ (s : State) (n loop pattern : Nat), n < 48 ∧ loop < 4 ∧ pattern < 4 ∧
  s.on (LN_CTRL_out n) = true :=
  ⟨(fun s => (((({ s with lanes := [], shut := [], plate := State.reset.plate, fb := State.reset.fb, svc := State.reset.svc } : State).set (LN_CTRL_out 9) 1).set (LN_CTRL_loop 9) 0).set (LN_STATUS_sym_lock 9) 1)) State.reset, 9, 1, 2, by decide⟩

theorem witness_LanesLockSlipAndMeasure_8 : ∃ (s : State) (n bits errors : Nat), n < 48 ∧ bits < 2 ^ 32 ∧ errors < 2 ^
  32 ∧ errors ≤ bits ∧ s.prbsLoop n = true ∧ s.on (LN_LOOP_CNT_sync n) = false :=
  ⟨(fun s => (((({ s with lanes := [], shut := [], plate := State.reset.plate, fb := State.reset.fb, svc := State.reset.svc } : State).set (LN_CTRL_loop 9) 2).set (LN_CTRL_pattern 9) 2).set (LN_LOOP_CNT_sync 9) 0)) State.reset, 9, 64, 0, by decide⟩

theorem witness_LanesLockSlipAndMeasure_9 : ∃ (s : State) (n bits errors : Nat), n < 48 ∧ bits < 2 ^ 32 ∧ errors < 2 ^
  32 ∧ errors ≤ bits ∧ s.prbsLoop n = true ∧ s.on (LN_LOOP_CNT_sync n) = true :=
  ⟨(fun s => (((({ s with lanes := [], shut := [], plate := State.reset.plate, fb := State.reset.fb, svc := State.reset.svc } : State).set (LN_CTRL_loop 9) 2).set (LN_CTRL_pattern 9) 2).set (LN_LOOP_CNT_sync 9) 1)) State.reset, 9, 9, 0, by decide⟩

theorem witness_LanesLockSlipAndMeasure_10 : ∃ (s : State) (n lat : Nat), n < 48 ∧ lat < 2 ^ 16 ∧ s.on
  (LN_STATUS_sym_lock n) = false ∧ s.get (LN_PWR_rx_now n) = 0 ∧ (s.role n = 2 ∨ s.role n = 3) ∧ s.serving (n / 8) 1 =
  [] :=
  ⟨(fun s => ((((((((((({ s with lanes := [], shut := [], plate := State.reset.plate, fb := State.reset.fb, svc := State.reset.svc } : State).set (LN_STATUS_sym_lock 9) 0).set (LN_PWR_rx_now 9) 0).set (LN_STATUS_role 9) 2).set (LN_STATUS_role 8) 0).set (LN_STATUS_role 10) 0).set (LN_STATUS_role 11) 0).set (LN_STATUS_role 12) 0).set (LN_STATUS_role 13) 0).set (LN_STATUS_role 14) 0).set (LN_STATUS_role 15) 0)) State.reset, 9, 77, by decide⟩

theorem witness_LanesPowerFailAndRejoin_1 : ∃ (s : State) (n tx rx : Nat) (via : Option Nat), n < 48 ∧ tx < 4 ∧ rx < 4
  ∧ via.all (fun m => decide (m < 48)) = true ∧ ((s.isSource n = true ∧ rx ≠ 0 ∧ s.get (LN_PWR_rx_now n) = 0) ∨ (via =
  some n ∧ ((tx ≠ 0 ∧ s.get (LN_PWR_tx_now n) = 0) ∨ (rx ≠ 0 ∧ s.get (LN_PWR_rx_now n) = 0))) ∨ s.role n = 0 ∨
  (s.neededTx n = true ∧ tx ≠ 0 ∧ s.get (LN_PWR_tx_now n) = 0)) :=
  ⟨(fun s => (((({ s with lanes := [], shut := [], plate := State.reset.plate, fb := State.reset.fb, svc := State.reset.svc } : State).set CX_MT_STATUS_src 1).set CX_MT_STATUS_src_lane 9).set (LN_PWR_rx_now 9) 0)) State.reset, 9, 0, 1, none, by decide⟩

theorem witness_LanesPowerFailAndRejoin_2 : ∃ (s : State) (n : Nat), n < 48 ∧ s.isSource n = false ∧ (s.role n = 1 ∨
  s.role n = 3) ∧ s.get (LN_PWR_tx_now n) = 0 ∧ s.get (LN_PWR_rx_now n) = 0 :=
  ⟨(fun s => ((((({ s with lanes := [], shut := [], plate := State.reset.plate, fb := State.reset.fb, svc := State.reset.svc } : State).set CX_MT_STATUS_src 0).set (LN_STATUS_role 9) 3).set (LN_PWR_tx_now 9) 0).set (LN_PWR_rx_now 9) 0)) State.reset, 9, by decide⟩

theorem witness_LanesPowerFailAndRejoin_3 : ∃ (s : State) (n : Nat), n < 48 ∧ (s.role n = 1 ∨ s.role n = 3) ∧ s.get
  (LN_PWR_tx_now n) = 3 ∧ s.get (LN_PWR_rx_now n) = 3 ∧ s.shut.contains (.quadPll (n / 4)) = false :=
  ⟨(fun s => ((((({ s with lanes := [], shut := [], plate := State.reset.plate, fb := State.reset.fb, svc := State.reset.svc } : State).set (LN_STATUS_role 9) 3).set (LN_PWR_tx_now 9) 3).set (LN_PWR_rx_now 9) 3).set (LN_QUAD_state 2) 0)) State.reset, 9, by decide⟩

theorem witness_LanesPowerFailAndRejoin_4 : ∃ (s : State) (n : Nat) (rx : Bool), n < 48 ∧ s.get (nowOf n rx) = 4 ∧
  (heldOf (s.lane n) rx).getD 0 < 3 :=
  ⟨(fun s => ((({ s with lanes := [], shut := [], plate := State.reset.plate, fb := State.reset.fb, svc := State.reset.svc } : State).set (LN_PWR_tx_now 9) 4)).setLane 9 { Lane.new with heldTx := some 1 }) State.reset, 9, false, by decide⟩

theorem witness_LanesPowerFailAndRejoin_5 : ∃ (s : State) (n : Nat) (via : Option Nat), n < 48 ∧ via.all (fun m =>
  decide (m < 48)) = true ∧ s.on (LN_CTRL_out n) = false ∧ s.isSource n = false ∧ via ≠ some n ∧ s.role n ≠ 2 :=
  ⟨(fun s => (((({ s with lanes := [], shut := [], plate := State.reset.plate, fb := State.reset.fb, svc := State.reset.svc } : State).set CX_MT_STATUS_src 0).set (LN_STATUS_role 9) 3).set (LN_CTRL_out 9) 0)) State.reset, 9, some 8, by decide⟩

theorem witness_LanesPowerFailAndRejoin_6 : ∃ (s : State) (n : Nat) (via : Option Nat), n < 48 ∧ via.all (fun m =>
  decide (m < 48)) = true ∧ s.svc.assay = none :=
  ⟨(fun s => (({ s with lanes := [], shut := [], plate := State.reset.plate, fb := State.reset.fb, svc := State.reset.svc } : State).set (LN_CTRL_out 9) 1)) State.reset, 9, none, by decide⟩

theorem witness_LanesPowerFailAndRejoin_7 : ∃ (s : State) (n : Nat) (rx : Bool), n < 48 ∧ (s.role n = 1 ∨ s.role n =
  3) ∧ s.dirBad n rx = true ∧ (s.lane n).rxFailed = false ∧ (s.lane n).txFailed = false :=
  ⟨(fun s => ((({ s with lanes := [], shut := [], plate := State.reset.plate, fb := State.reset.fb, svc := State.reset.svc } : State).set (LN_STATUS_role 9) 1).set (LN_STATUS_sym_lock 9) 0)) State.reset, 9, true, by decide⟩

theorem witness_LanesPowerFailAndRejoin_8 : ∃ (s : State) (n : Nat), n < 48 ∧ (s.rejoins n true = true ∨ s.rejoins n
  false = true) ∧ s.on (LN_STATUS_fault n) = false ∧ s.on (LN_CTRL_out n) = false :=
  ⟨(fun s => (((((({ s with lanes := [], shut := [], plate := State.reset.plate, fb := State.reset.fb, svc := State.reset.svc } : State).set (LN_STATUS_fault 9) 0).set (LN_CTRL_out 9) 0).set (LN_STATUS_sym_lock 9) 1).set (LN_QUAD_mode 2) 0)).setLane 9 { Lane.new with rxFailed := true, txFailed := true, goodRx := 1024, goodTx := 1023 }) State.reset, 9, by decide⟩

theorem witness_LanesPowerFailAndRejoin_9 : ∃ (s : State) (port bits : Nat), port < 6 ∧ bits < 256 ∧ s.get
  (LN_PORT_serve port) = bits :=
  ⟨(fun s => (({ s with lanes := [], shut := [], plate := State.reset.plate, fb := State.reset.fb, svc := State.reset.svc } : State).set (LN_PORT_serve 1) 4)) State.reset, 1, 4, by decide⟩

theorem witness_LanesPowerFailAndRejoin_10 : ∃ (s : State) (port bits : Nat), port < 6 ∧ bits < 256 ∧ bit (s.get
  (LN_PORT_serve port)) 0 ≠ bit bits 0 ∧ lrSpareEn s.shadowRd (8 * port) = false :=
  ⟨(fun s => (({ s with lanes := [], shut := [], plate := State.reset.plate, fb := State.reset.fb, svc := State.reset.svc } : State).set (LN_PORT_serve 1) 4)) State.reset, 1, 5, by decide⟩

theorem witness_LanesPowerFailAndRejoin_11 : ∃ (s : State) (port bits : Nat), port < 6 ∧ bits < 256 ∧ Nat.xor (s.get
  (LN_PORT_serve port)) bits = 1 ∧ bit bits 0 = true ∧ lrSpareEn s.shadowRd (8 * port) = true ∧ s.healthyTx (lrSpare
  s.shadowRd (8 * port)) = true :=
  ⟨(fun s => { ((((({ s with lanes := [], shut := [], plate := State.reset.plate, fb := State.reset.fb, svc := State.reset.svc } : State).set (LN_PORT_serve 1) 4).set (LN_STATUS_role 10) 2).set (LN_PWR_tx_now 10) 0)) with plate := { State.reset.plate with committed := true, shadow := [(9 * 16 + 2, 0xA)] } }) State.reset, 1, 5, by decide⟩

theorem witness_LanesPowerFailAndRejoin_12 : ∃ (s : State) (q i : Nat), q < 12 ∧ i < 4 ∧ s.get (LN_QUAD_state q) ≠ 0
  :=
  ⟨(fun s => (((((({ s with lanes := [], shut := [], plate := State.reset.plate, fb := State.reset.fb, svc := State.reset.svc } : State).set (LN_QUAD_state 2) 2).set (LN_STATUS_sym_lock 9) 1).set (LN_STATUS_role 9) 3).set (LN_STATUS_role 8) 1).set (LN_STATUS_role 10) 2)) State.reset, 2, 0, by decide⟩

theorem witness_FramesLeaveAndAreReleased_1 : ∃ (s : State) (n : Nat), n < 48 ∧ (s.syncLane n = false ∨ s.get
  (LN_PWR_tx_now n) ≠ 0) :=
  ⟨(fun s => (({ s with lanes := [], fb := State.reset.fb, evReq := [], str := State.reset.str, tg := State.reset.tg, plate := State.reset.plate, mt := { State.reset.mt with bucket := 7 } } : State).set (LN_PWR_tx_now 9) 3)) State.reset, 9, by decide⟩

theorem witness_FramesLeaveAndAreReleased_2 : ∃ (s : State) (n : Nat), n < 48 ∧ s.syncLane n = true ∧ s.get
  (LN_PWR_tx_now n) = 0 ∧ s.get (LN_CTRL_loop n) = 2 ∧ s.prbsLoop n = false :=
  ⟨(fun s => ((((((((((({ s with lanes := [], fb := State.reset.fb, evReq := [], str := State.reset.str, tg := State.reset.tg, plate := State.reset.plate, mt := { State.reset.mt with bucket := 7 } } : State).set (LN_QUAD_mode 2) 1).set (LN_STATUS_role 9) 1).set (LN_PWR_tx_now 9) 0).set (LN_PWR_rx_now 9) 0).set (LN_STATUS_sym_lock 9) 1).set (LN_CTRL_out 9) 0).set (LN_CTRL_loop 9) 0).set (LN_STATUS_role 8) 0).set (LN_CTRL_loop 9) 2).set (LN_CTRL_pattern 9) 0)) State.reset, 9, by decide⟩

theorem witness_FramesLeaveAndAreReleased_3 : ∃ (s : State) (n : Nat), n < 48 ∧ s.syncLane n = true ∧ s.get
  (LN_PWR_tx_now n) = 0 ∧ s.get (LN_CTRL_loop n) = 0 ∧ s.role n = 1 ∧ s.mt.running = true ∧ s.carriers (n / 8) = [n] ∧
  (s.lane n).due = none ∧ (s.portQ (n / 8)).solam = [] ∧ (s.lane n).answers = [] ∧ (s.portQ (n / 8)).msgs = [] ∧
  ((s.portQ (n / 8)).accepts.all fun e => decide (e.1 ≤ s.clock)) = true ∧ ((s.portQ (n / 8)).fast.all fun e => decide
  (e.1 ≤ s.clock)) = true :=
  ⟨(fun s => (((((((((({ s with lanes := [], fb := State.reset.fb, evReq := [], str := State.reset.str, tg := State.reset.tg, plate := State.reset.plate, mt := { State.reset.mt with bucket := 7, running := true } } : State).set (LN_QUAD_mode 2) 1).set (LN_STATUS_role 9) 1).set (LN_PWR_tx_now 9) 0).set (LN_PWR_rx_now 9) 0).set (LN_STATUS_sym_lock 9) 1).set (LN_CTRL_out 9) 0).set (LN_CTRL_loop 9) 0).set (LN_STATUS_role 8) 0)).setPortQ 1 { PortQ.new with accepts := List.replicate 9 (0, 77), fast := [(0, 5), (0, 6), (0, 7)] }) State.reset, 9, by decide⟩

theorem witness_FramesLeaveAndAreReleased_4 : ∃ (s : State) (n j : Nat), n < 48 ∧ j < (s.frameBits n - 32) / 32 ∧
  s.syncLane n = true ∧ s.get (LN_PWR_tx_now n) = 0 ∧ s.get (LN_CTRL_loop n) = 0 ∧ s.role n = 2 ∧ s.served n = false ∧
  s.servesFor n = none ∧ s.tg.words = [] ∧ s.ownSlot n j = false :=
  ⟨(fun s => (((((((((((({ s with lanes := [], fb := State.reset.fb, evReq := [], str := State.reset.str, tg := State.reset.tg, plate := State.reset.plate, mt := { State.reset.mt with bucket := 7 } } : State).set (LN_QUAD_mode 2) 1).set (LN_STATUS_role 9) 1).set (LN_PWR_tx_now 9) 0).set (LN_PWR_rx_now 9) 0).set (LN_STATUS_sym_lock 9) 1).set (LN_CTRL_out 9) 0).set (LN_CTRL_loop 9) 0).set (LN_STATUS_role 8) 0).set (LN_STATUS_role 9) 2).set (FB_TP_FWD_en 9) 1)).setLane 9 { Lane.new with fwd := [(s.clock, 2 ^ 600 + 2 ^ 570 + 12345), (s.clock + 1, 7)] }) State.reset, 9, 0, by decide⟩

theorem witness_FramesLeaveAndAreReleased_5 : ∃ (s : State) (n : Nat) (f : FrameIn), n < 48 ∧ f.wf = true ∧ s.on
  (LN_STATUS_sym_lock n) = true ∧ s.syncLane n = true ∧ s.role n ≠ 0 ∧ s.get (LN_CTRL_loop n) = 0 ∧ f.crcOk = false :=
  ⟨(fun s => ((((((((({ s with lanes := [], fb := State.reset.fb, evReq := [], str := State.reset.str, tg := State.reset.tg, plate := State.reset.plate, mt := { State.reset.mt with bucket := 7 } } : State).set (LN_QUAD_mode 2) 1).set (LN_STATUS_role 9) 1).set (LN_PWR_tx_now 9) 0).set (LN_PWR_rx_now 9) 0).set (LN_STATUS_sym_lock 9) 1).set (LN_CTRL_out 9) 0).set (LN_CTRL_loop 9) 0).set (LN_STATUS_role 8) 0)) State.reset, 9, ⟨0, 5, false⟩, ⟨by decide, by simp only [FrameIn.wf, Bool.and_eq_true, decide_eq_true_eq]; exact ⟨by decide, Nat.lt_of_lt_of_le (by decide : 5 < 2 ^ 8) (Nat.pow_le_pow_right (by decide) (by decide))⟩, by decide⟩⟩

theorem witness_FramesLeaveAndAreReleased_6 : ∃ (s : State) (n : Nat) (f : FrameIn), n < 48 ∧ f.wf = true ∧ s.on
  (LN_STATUS_sym_lock n) = true ∧ s.syncLane n = true ∧ s.role n ≠ 0 ∧ s.get (LN_CTRL_loop n) = 0 ∧ f.crcOk = true ∧
  f.header < 32 :=
  ⟨(fun s => ((((((((({ s with lanes := [], fb := State.reset.fb, evReq := [], str := State.reset.str, tg := State.reset.tg, plate := State.reset.plate, mt := { State.reset.mt with bucket := 7 } } : State).set (LN_QUAD_mode 2) 1).set (LN_STATUS_role 9) 1).set (LN_PWR_tx_now 9) 0).set (LN_PWR_rx_now 9) 0).set (LN_STATUS_sym_lock 9) 1).set (LN_CTRL_out 9) 0).set (LN_CTRL_loop 9) 0).set (LN_STATUS_role 8) 0)) State.reset, 9, ⟨8, 5, true⟩, ⟨by decide, by simp only [FrameIn.wf, Bool.and_eq_true, decide_eq_true_eq]; exact ⟨by decide, Nat.lt_of_lt_of_le (by decide : 5 < 2 ^ 8) (Nat.pow_le_pow_right (by decide) (by decide))⟩, by decide⟩⟩

theorem witness_FramesLeaveAndAreReleased_7 : ∃ (s : State) (n m margin : Nat) (g : FrameIn), n < 48 ∧ m < 48 ∧ m ≠ n
  ∧ margin < s.frameBits n ∧ s.isSource n = false ∧ s.rxServes n = true ∧ (s.lane n).frames = [g] ∧ bits g.header 4 2
  = 1 ∧ s.role n = 2 ∧ s.on (FB_TP_FWD_en m) = true ∧ s.get (FB_TP_FWD_src m) = n :=
  ⟨(fun s => (((((((((((((({ s with lanes := [], fb := State.reset.fb, evReq := [], str := State.reset.str, tg := State.reset.tg, plate := State.reset.plate, mt := { State.reset.mt with bucket := 7 } } : State).set (LN_QUAD_mode 2) 1).set (LN_STATUS_role 9) 1).set (LN_PWR_tx_now 9) 0).set (LN_PWR_rx_now 9) 0).set (LN_STATUS_sym_lock 9) 1).set (LN_CTRL_out 9) 0).set (LN_CTRL_loop 9) 0).set (LN_STATUS_role 8) 0).set (LN_STATUS_role 9) 2).set (FB_TP_FWD_en 14) 1).set (FB_TP_FWD_src 14) 9).set (CX_MT_STATUS_src) 0)).setLane 9 { Lane.new with frames := [⟨16, 1234, true⟩] }) State.reset, 9, 14, 100, ⟨16, 1234, true⟩, by decide⟩

theorem witness_FramesLeaveAndAreReleased_8 : ∃ (s : State) (n margin : Nat) (g : FrameIn), n < 48 ∧ margin <
  s.frameBits n ∧ s.isSource n = false ∧ s.rxServes n = true ∧ (s.lane n).frames = [g] ∧ bits g.header 4 2 = 0 ∧
  s.role n = 1 :=
  ⟨(fun s => ((((((((((({ s with lanes := [], fb := State.reset.fb, evReq := [], str := State.reset.str, tg := State.reset.tg, plate := State.reset.plate, mt := { State.reset.mt with bucket := 7 } } : State).set (LN_QUAD_mode 2) 1).set (LN_STATUS_role 9) 1).set (LN_PWR_tx_now 9) 0).set (LN_PWR_rx_now 9) 0).set (LN_STATUS_sym_lock 9) 1).set (LN_CTRL_out 9) 0).set (LN_CTRL_loop 9) 0).set (LN_STATUS_role 8) 0).set (CX_MT_STATUS_src) 0)).setLane 9 { Lane.new with frames := [⟨2, 0, true⟩] }) State.reset, 9, 100, ⟨2, 0, true⟩, by decide⟩

theorem witness_FramesLeaveAndAreReleased_9 : ∃ (s : State), s.mt.running = true ∧ s.get CX_MT_STATUS_src = 1 :=
  ⟨(fun s => (({ s with lanes := [], fb := State.reset.fb, evReq := [], str := State.reset.str, tg := State.reset.tg, plate := State.reset.plate, mt := { State.reset.mt with bucket := 7, running := true } } : State).set (CX_MT_STATUS_src) 1)) State.reset, by decide⟩

theorem witness_FramesLeaveAndAreReleased_10 : ∃ (s : State), (s.mt.running = false ∨ s.get CX_MT_STATUS_src ≠ 1) :=
  ⟨(fun s => (({ s with lanes := [], fb := State.reset.fb, evReq := [], str := State.reset.str, tg := State.reset.tg, plate := State.reset.plate, mt := { State.reset.mt with bucket := 7 } } : State).set (CX_MT_STATUS_src) 0)) State.reset, by decide⟩

theorem witness_FramesLeaveAndAreReleased_11 : ∃ (s : State) (n margin x : Nat) (g : FrameIn), n < 48 ∧ margin <
  s.frameBits n ∧ s.isSource n = false ∧ s.rxServes n = true ∧ s.mt.running = true ∧ (s.lane n).frames = [g] ∧ bits
  g.header 4 2 = 0 ∧ s.role n = 1 ∧ s.lesserMember n = false ∧ s.upPort = some (n / 8) ∧ s.on FB_ADDR_valid = false ∧
  (((tcItems (if s.frameBits n = 640 then 9 else 3) g.payload).filter fun e => e.1 != 0) = [(1, x)]) :=
  ⟨(fun s => ((((((((((((((({ s with lanes := [], fb := State.reset.fb, evReq := [], str := State.reset.str, tg := State.reset.tg, plate := State.reset.plate, mt := { State.reset.mt with bucket := 7, running := true } } : State).set (LN_QUAD_mode 2) 1).set (LN_STATUS_role 9) 1).set (LN_PWR_tx_now 9) 0).set (LN_PWR_rx_now 9) 0).set (LN_STATUS_sym_lock 9) 1).set (LN_CTRL_out 9) 0).set (LN_CTRL_loop 9) 0).set (LN_STATUS_role 8) 0).set (LN_QUAD_mode 2) 0).set (CX_MT_STATUS_src) 0).set (FB_ADDR_valid) 0).set (FB_PORTS_tc_up) 2).set (FB_UP_tc_pri) 1)).setLane 9 { Lane.new with frames := [⟨0, 1 + 1234 * 2 ^ 32, true⟩] }) State.reset, 9, 100, 1234, ⟨0, 1 + 1234 * 2 ^ 32, true⟩, by decide⟩

theorem witness_ControlMessagesAreServedForwardedOrAnswered_1 : ∃ (s : State) (m : CtMsg) (r : EccResult) (p : Nat),
  m.wf = true ∧ s.on FB_ADDR_valid = true ∧ ctAddr m.head = s.get FB_ADDR_addr ∧ s.upQueue = some p ∧ isOp m 0 = true
  ∧ (s.portQ p).msgs.foldl (fun n x => n + x.length) 0 + 2 ≤ 64 ∧ s.txnError (txnOf m ⟨.fabric, none⟩) ≠ 0 :=
  ⟨(fun s => ((((((({ s with lanes := [], fb := State.reset.fb, evReq := [], str := State.reset.str, tg := State.reset.tg, plate := State.reset.plate, mt := { State.reset.mt with bucket := 7 } } : State).set (FB_ADDR_valid) 1).set (FB_ADDR_addr) 291).set (FB_PORTS_tc_up) 6).set (FB_UP_tc_pri) 2).set (FB_UP_tc_sec) 1).set (FB_DOWN_ports) 2)) State.reset, ⟨ctHead 0 1 0x123 5 3 0 15, [0x60000000 * 2 ^ 32 + 5]⟩, .clean, 2, by decide⟩

theorem witness_ControlMessagesAreServedForwardedOrAnswered_2 : ∃ (s : State) (m : CtMsg) (r : EccResult) (p : Nat),
  m.wf = true ∧ s.on FB_ADDR_valid = true ∧ ctAddr m.head = s.get FB_ADDR_addr ∧ s.upQueue = some p ∧ isOp m 0 = true
  ∧ (s.portQ p).msgs.foldl (fun n x => n + x.length) 0 + 2 ≤ 64 :=
  ⟨(fun s => ((((((({ s with lanes := [], fb := State.reset.fb, evReq := [], str := State.reset.str, tg := State.reset.tg, plate := State.reset.plate, mt := { State.reset.mt with bucket := 7 } } : State).set (FB_ADDR_valid) 1).set (FB_ADDR_addr) 291).set (FB_PORTS_tc_up) 6).set (FB_UP_tc_pri) 2).set (FB_UP_tc_sec) 1).set (FB_DOWN_ports) 2)) State.reset, ⟨ctHead 0 1 0x123 5 3 0 15, [0x10000000 * 2 ^ 32]⟩, .clean, 2, by decide⟩

theorem witness_ControlMessagesAreServedForwardedOrAnswered_3 : ∃ (s : State) (m : CtMsg) (p off : Nat), m.wf = true ∧
  s.on FB_ADDR_valid = true ∧ ctAddr m.head = s.get FB_ADDR_addr ∧ s.upQueue = some p ∧ isOp m 0 = true ∧ (s.portQ
  p).msgs.foldl (fun n x => n + x.length) 0 + 2 ≤ 64 ∧ s.txnError (txnOf m ⟨.fabric, none⟩) = 0 ∧ 0x40040000 ≤ bits
  (m.body.getD 0 0) 32 32 ∧ bits (m.body.getD 0 0) 32 32 < 0x40058000 ∧ off = bits (m.body.getD 0 0) 32 32 -
  0x40040000 ∧ ctBe m.head = 15 ∧ (∀ k ∈ List.range 4, s.mark memDram (off + k) = 0) :=
  ⟨(fun s => ((((((({ s with prot := State.reset.prot, mg := { s.mg with dram := [(64, 7), (66, 0xAB)] }, lanes := [], fb := State.reset.fb, evReq := [], str := State.reset.str, tg := State.reset.tg, plate := State.reset.plate, mt := { State.reset.mt with bucket := 7 } } : State).set (FB_ADDR_valid) 1).set (FB_ADDR_addr) 291).set (FB_PORTS_tc_up) 6).set (FB_UP_tc_pri) 2).set (FB_UP_tc_sec) 1).set (FB_DOWN_ports) 2)) State.reset, ⟨ctHead 0 1 0x123 5 3 0 15, [0x40040040 * 2 ^ 32]⟩, 2, 64, by decide⟩

theorem witness_ControlMessagesAreServedForwardedOrAnswered_4 : ∃ (s : State) (m : CtMsg) (r : EccResult) (full :
  Bool) (p : Nat), m.wf = true ∧ isOp m 0 = true ∧ s.on FB_ADDR_valid = true ∧ ctAddr m.head ≠ s.get FB_ADDR_addr ∧ 0
  < ctHops m.head ∧ s.on (FB_ROUTE_en (ctAddr m.head)) = true ∧ s.get (FB_ROUTE_pri (ctAddr m.head)) = p ∧ s.tcHas p =
  true ∧ s.on (FB_ROUTE_use_sec (ctAddr m.head)) = false ∧ (s.portQ p).msgs.foldl (fun n x => n + x.length) 0 +
  (m.body.length + 1) ≤ 64 :=
  ⟨(fun s => ((((((((((({ s with lanes := [], fb := State.reset.fb, evReq := [], str := State.reset.str, tg := State.reset.tg, plate := State.reset.plate, mt := { State.reset.mt with bucket := 7 } } : State).set (FB_ADDR_valid) 1).set (FB_ADDR_addr) 291).set (FB_PORTS_tc_up) 6).set (FB_UP_tc_pri) 2).set (FB_UP_tc_sec) 1).set (FB_DOWN_ports) 2).set (FB_ROUTE_en 0x456) 1).set (FB_ROUTE_pri 0x456) 1).set (FB_ROUTE_sec 0x456) 2).set (FB_ROUTE_use_sec 0x456) 0)) State.reset, ⟨ctHead 0 1 0x456 5 3 0 15, [0x10000000 * 2 ^ 32]⟩, .clean, false, 1, by decide⟩

theorem witness_ControlMessagesAreServedForwardedOrAnswered_5 : ∃ (s : State) (m : CtMsg) (r : EccResult) (full :
  Bool) (p : Nat), m.wf = true ∧ isOp m 0 = true ∧ s.on FB_ADDR_valid = true ∧ ctAddr m.head ≠ s.get FB_ADDR_addr ∧
  ctHops m.head = 0 ∧ s.upQueue = some p ∧ (s.portQ p).msgs.foldl (fun n x => n + x.length) 0 + 2 ≤ 64 :=
  ⟨(fun s => ((((((((((({ s with lanes := [], fb := State.reset.fb, evReq := [], str := State.reset.str, tg := State.reset.tg, plate := State.reset.plate, mt := { State.reset.mt with bucket := 7 } } : State).set (FB_ADDR_valid) 1).set (FB_ADDR_addr) 291).set (FB_PORTS_tc_up) 6).set (FB_UP_tc_pri) 2).set (FB_UP_tc_sec) 1).set (FB_DOWN_ports) 2).set (FB_ROUTE_en 0x456) 1).set (FB_ROUTE_pri 0x456) 1).set (FB_ROUTE_sec 0x456) 2).set (FB_ROUTE_use_sec 0x456) 0)) State.reset, ⟨ctHead 0 1 0x456 5 0 0 15, [0x10000000 * 2 ^ 32]⟩, .clean, false, 2, by decide⟩

theorem witness_ControlMessagesAreServedForwardedOrAnswered_6 : ∃ (s : State) (m : CtMsg) (r : EccResult) (full :
  Bool) (p : Nat), m.wf = true ∧ isOp m 0 = true ∧ s.on FB_ADDR_valid = true ∧ ctAddr m.head ≠ s.get FB_ADDR_addr ∧ 0
  < ctHops m.head ∧ s.on (FB_ROUTE_en (ctAddr m.head)) = false ∧ s.upQueue = some p ∧ (s.portQ p).msgs.foldl (fun n x
  => n + x.length) 0 + 2 ≤ 64 :=
  ⟨(fun s => (((((((((((({ s with lanes := [], fb := State.reset.fb, evReq := [], str := State.reset.str, tg := State.reset.tg, plate := State.reset.plate, mt := { State.reset.mt with bucket := 7 } } : State).set (FB_ADDR_valid) 1).set (FB_ADDR_addr) 291).set (FB_PORTS_tc_up) 6).set (FB_UP_tc_pri) 2).set (FB_UP_tc_sec) 1).set (FB_DOWN_ports) 2).set (FB_ROUTE_en 0x456) 1).set (FB_ROUTE_pri 0x456) 1).set (FB_ROUTE_sec 0x456) 2).set (FB_ROUTE_use_sec 0x456) 0).set (FB_ROUTE_en 0x457) 0)) State.reset, ⟨ctHead 0 1 0x457 5 3 0 15, [0x10000000 * 2 ^ 32]⟩, .clean, false, 2, by decide⟩

theorem witness_ControlMessagesAreServedForwardedOrAnswered_7 : ∃ (s : State) (m : CtMsg) (r : EccResult) (full :
  Bool), m.wf = true ∧ isOp m 0 = false :=
  ⟨(fun s => ((((((({ s with lanes := [], fb := State.reset.fb, evReq := [], str := State.reset.str, tg := State.reset.tg, plate := State.reset.plate, mt := { State.reset.mt with bucket := 7 } } : State).set (FB_ADDR_valid) 1).set (FB_ADDR_addr) 291).set (FB_PORTS_tc_up) 6).set (FB_UP_tc_pri) 2).set (FB_UP_tc_sec) 1).set (FB_DOWN_ports) 2)) State.reset, ⟨ctHead 4 1 0x457 5 3 0 15, [0x10000000 * 2 ^ 32]⟩, .clean, false, by decide⟩

theorem witness_ControlMessagesAreServedForwardedOrAnswered_8 : ∃ (s : State) (m : CtMsg) (lane : Option Nat) (p :
  Nat), m.wf = true ∧ s.on FB_ADDR_valid = true ∧ ctAddr m.head = s.get FB_ADDR_addr ∧ s.upQueue = some p ∧ isOp m 1 =
  true ∧ (s.portQ p).msgs.foldl (fun n x => n + x.length) 0 + 2 ≤ 64 ∧ s.txnError (txnOf m ⟨.fabric, lane⟩) ≠ 0 ∧
  lane.all (fun n => decide (n < 48)) = true :=
  ⟨(fun s => ((((((({ s with lanes := [], fb := State.reset.fb, evReq := [], str := State.reset.str, tg := State.reset.tg, plate := State.reset.plate, mt := { State.reset.mt with bucket := 7 } } : State).set (FB_ADDR_valid) 1).set (FB_ADDR_addr) 291).set (FB_PORTS_tc_up) 6).set (FB_UP_tc_pri) 2).set (FB_UP_tc_sec) 1).set (FB_DOWN_ports) 2)) State.reset, ⟨ctHead 1 1 0x123 5 3 0 15, [0x60000000 * 2 ^ 32 + 5]⟩, some 9, 2, by decide⟩

theorem witness_ControlMessagesAreServedForwardedOrAnswered_9 : ∃ (s : State) (m : CtMsg) (lane : Option Nat) (p :
  Nat), m.wf = true ∧ s.on FB_ADDR_valid = true ∧ ctAddr m.head = s.get FB_ADDR_addr ∧ s.upQueue = some p ∧ isOp m 1 =
  true ∧ (s.portQ p).msgs.foldl (fun n x => n + x.length) 0 + 2 ≤ 64 ∧ lane.all (fun n => decide (n < 48)) = true :=
  ⟨(fun s => ((((((({ s with lanes := [], fb := State.reset.fb, evReq := [], str := State.reset.str, tg := State.reset.tg, plate := State.reset.plate, mt := { State.reset.mt with bucket := 7 } } : State).set (FB_ADDR_valid) 1).set (FB_ADDR_addr) 291).set (FB_PORTS_tc_up) 6).set (FB_UP_tc_pri) 2).set (FB_UP_tc_sec) 1).set (FB_DOWN_ports) 2)) State.reset, ⟨ctHead 1 1 0x123 5 3 0 15, [0x10000000 * 2 ^ 32]⟩, some 9, 2, by decide⟩

theorem witness_ControlMessagesAreServedForwardedOrAnswered_10 : ∃ (s : State) (m : CtMsg) (lane : Option Nat) (p off
  : Nat), m.wf = true ∧ s.on FB_ADDR_valid = true ∧ ctAddr m.head = s.get FB_ADDR_addr ∧ s.upQueue = some p ∧ isOp m 1
  = true ∧ (s.portQ p).msgs.foldl (fun n x => n + x.length) 0 + 2 ≤ 64 ∧ s.txnError (txnOf m ⟨.fabric, lane⟩) = 0 ∧
  0x40040000 ≤ bits (m.body.getD 0 0) 32 32 ∧ bits (m.body.getD 0 0) 32 32 < 0x40058000 ∧ off = bits (m.body.getD 0 0)
  32 32 - 0x40040000 ∧ lane.all (fun n => decide (n < 48)) = true :=
  ⟨(fun s => ((((((({ s with lanes := [], fb := State.reset.fb, evReq := [], str := State.reset.str, tg := State.reset.tg, plate := State.reset.plate, mt := { State.reset.mt with bucket := 7 } } : State).set (FB_ADDR_valid) 1).set (FB_ADDR_addr) 291).set (FB_PORTS_tc_up) 6).set (FB_UP_tc_pri) 2).set (FB_UP_tc_sec) 1).set (FB_DOWN_ports) 2)) State.reset, ⟨ctHead 1 1 0x123 5 3 0 15, [0x40040040 * 2 ^ 32 + 0x12345678]⟩, some 9, 2, 64, by decide⟩

theorem witness_ControlMessagesAreServedForwardedOrAnswered_11 : ∃ (s : State) (m : CtMsg) (lane : Option Nat) (full :
  Bool) (p : Nat), m.wf = true ∧ isOp m 1 = true ∧ s.on FB_ADDR_valid = true ∧ ctAddr m.head ≠ s.get FB_ADDR_addr ∧ 0
  < ctHops m.head ∧ s.on (FB_ROUTE_en (ctAddr m.head)) = true ∧ s.get (FB_ROUTE_pri (ctAddr m.head)) = p ∧ s.tcHas p =
  true ∧ s.on (FB_ROUTE_use_sec (ctAddr m.head)) = false ∧ (s.portQ p).msgs.foldl (fun n x => n + x.length) 0 +
  (m.body.length + 1) ≤ 64 ∧ lane.all (fun n => decide (n < 48)) = true :=
  ⟨(fun s => ((((((((((({ s with lanes := [], fb := State.reset.fb, evReq := [], str := State.reset.str, tg := State.reset.tg, plate := State.reset.plate, mt := { State.reset.mt with bucket := 7 } } : State).set (FB_ADDR_valid) 1).set (FB_ADDR_addr) 291).set (FB_PORTS_tc_up) 6).set (FB_UP_tc_pri) 2).set (FB_UP_tc_sec) 1).set (FB_DOWN_ports) 2).set (FB_ROUTE_en 0x456) 1).set (FB_ROUTE_pri 0x456) 1).set (FB_ROUTE_sec 0x456) 2).set (FB_ROUTE_use_sec 0x456) 0)) State.reset, ⟨ctHead 1 1 0x456 5 3 0 15, [0x10000000 * 2 ^ 32]⟩, some 9, false, 1, by decide⟩

theorem witness_ControlMessagesAreServedForwardedOrAnswered_12 : ∃ (s : State) (m : CtMsg) (lane : Option Nat) (full :
  Bool) (p : Nat), m.wf = true ∧ isOp m 1 = true ∧ s.on FB_ADDR_valid = true ∧ ctAddr m.head ≠ s.get FB_ADDR_addr ∧
  ctHops m.head = 0 ∧ s.upQueue = some p ∧ (s.portQ p).msgs.foldl (fun n x => n + x.length) 0 + 2 ≤ 64 ∧ lane.all (fun
  n => decide (n < 48)) = true :=
  ⟨(fun s => ((((((((((({ s with lanes := [], fb := State.reset.fb, evReq := [], str := State.reset.str, tg := State.reset.tg, plate := State.reset.plate, mt := { State.reset.mt with bucket := 7 } } : State).set (FB_ADDR_valid) 1).set (FB_ADDR_addr) 291).set (FB_PORTS_tc_up) 6).set (FB_UP_tc_pri) 2).set (FB_UP_tc_sec) 1).set (FB_DOWN_ports) 2).set (FB_ROUTE_en 0x456) 1).set (FB_ROUTE_pri 0x456) 1).set (FB_ROUTE_sec 0x456) 2).set (FB_ROUTE_use_sec 0x456) 0)) State.reset, ⟨ctHead 1 1 0x456 5 0 0 15, [0x10000000 * 2 ^ 32]⟩, some 9, false, 2, by decide⟩

theorem witness_ControlMessagesAreServedForwardedOrAnswered_13 : ∃ (s : State) (m : CtMsg) (lane : Option Nat) (full :
  Bool) (p : Nat), m.wf = true ∧ isOp m 1 = true ∧ s.on FB_ADDR_valid = true ∧ ctAddr m.head ≠ s.get FB_ADDR_addr ∧ 0
  < ctHops m.head ∧ s.on (FB_ROUTE_en (ctAddr m.head)) = false ∧ s.upQueue = some p ∧ (s.portQ p).msgs.foldl (fun n x
  => n + x.length) 0 + 2 ≤ 64 ∧ lane.all (fun n => decide (n < 48)) = true :=
  ⟨(fun s => (((((((((((({ s with lanes := [], fb := State.reset.fb, evReq := [], str := State.reset.str, tg := State.reset.tg, plate := State.reset.plate, mt := { State.reset.mt with bucket := 7 } } : State).set (FB_ADDR_valid) 1).set (FB_ADDR_addr) 291).set (FB_PORTS_tc_up) 6).set (FB_UP_tc_pri) 2).set (FB_UP_tc_sec) 1).set (FB_DOWN_ports) 2).set (FB_ROUTE_en 0x456) 1).set (FB_ROUTE_pri 0x456) 1).set (FB_ROUTE_sec 0x456) 2).set (FB_ROUTE_use_sec 0x456) 0).set (FB_ROUTE_en 0x457) 0)) State.reset, ⟨ctHead 1 1 0x457 5 3 0 15, [0x10000000 * 2 ^ 32]⟩, some 9, false, 2, by decide⟩

theorem witness_ControlMessagesAreServedForwardedOrAnswered_14 : ∃ (s : State) (m : CtMsg) (lane : Option Nat) (full :
  Bool), m.wf = true ∧ isOp m 1 = false ∧ lane.all (fun n => decide (n < 48)) = true :=
  ⟨(fun s => ((((((({ s with lanes := [], fb := State.reset.fb, evReq := [], str := State.reset.str, tg := State.reset.tg, plate := State.reset.plate, mt := { State.reset.mt with bucket := 7 } } : State).set (FB_ADDR_valid) 1).set (FB_ADDR_addr) 291).set (FB_PORTS_tc_up) 6).set (FB_UP_tc_pri) 2).set (FB_UP_tc_sec) 1).set (FB_DOWN_ports) 2)) State.reset, ⟨ctHead 4 1 0x457 5 3 0 15, [0x10000000 * 2 ^ 32]⟩, some 9, false, by decide⟩

theorem witness_ControlMessagesAreServedForwardedOrAnswered_15 : ∃ (s : State) (m : CtMsg) (p : Nat), m.wf = true ∧
  isOp m 2 = true ∧ s.on FB_ADDR_valid = true ∧ s.upQueue = some p ∧ (s.portQ p).msgs.foldl (fun n x => n + x.length)
  0 + (m.body.length + 1) ≤ 64 :=
  ⟨(fun s => ((((((({ s with lanes := [], fb := State.reset.fb, evReq := [], str := State.reset.str, tg := State.reset.tg, plate := State.reset.plate, mt := { State.reset.mt with bucket := 7 } } : State).set (FB_ADDR_valid) 1).set (FB_ADDR_addr) 291).set (FB_PORTS_tc_up) 6).set (FB_UP_tc_pri) 2).set (FB_UP_tc_sec) 1).set (FB_DOWN_ports) 2)) State.reset, ⟨ctHead 2 1 0x457 5 3 0 15, [0x10000000 * 2 ^ 32]⟩, 2, by decide⟩

theorem witness_ControlMessagesAreServedForwardedOrAnswered_16 : ∃ (s : State) (m : CtMsg), m.wf = true ∧ isOp m 2 =
  true ∧ s.on FB_ADDR_valid = false :=
  ⟨(fun s => (({ s with lanes := [], fb := State.reset.fb, evReq := [], str := State.reset.str, tg := State.reset.tg, plate := State.reset.plate, mt := { State.reset.mt with bucket := 7 } } : State).set (FB_ADDR_valid) 0)) State.reset, ⟨ctHead 2 1 0x457 5 3 0 15, [0x10000000 * 2 ^ 32]⟩, by decide⟩

theorem witness_ControlMessagesAreServedForwardedOrAnswered_17 : ∃ (s : State) (m : CtMsg) (p : Nat), m.wf = true ∧
  isOp m 3 = true ∧ s.on FB_ADDR_valid = true ∧ s.upQueue = some p ∧ (s.portQ p).msgs.foldl (fun n x => n + x.length)
  0 + (m.body.length + 1) ≤ 64 :=
  ⟨(fun s => ((((((({ s with lanes := [], fb := State.reset.fb, evReq := [], str := State.reset.str, tg := State.reset.tg, plate := State.reset.plate, mt := { State.reset.mt with bucket := 7 } } : State).set (FB_ADDR_valid) 1).set (FB_ADDR_addr) 291).set (FB_PORTS_tc_up) 6).set (FB_UP_tc_pri) 2).set (FB_UP_tc_sec) 1).set (FB_DOWN_ports) 2)) State.reset, ⟨ctHead 3 1 0x457 5 3 0 15, [0x10000000 * 2 ^ 32]⟩, 2, by decide⟩

theorem witness_ControlMessagesAreServedForwardedOrAnswered_18 : ∃ (s : State) (m : CtMsg), m.wf = true ∧ isOp m 3 =
  true ∧ s.on FB_ADDR_valid = false :=
  ⟨(fun s => (({ s with lanes := [], fb := State.reset.fb, evReq := [], str := State.reset.str, tg := State.reset.tg, plate := State.reset.plate, mt := { State.reset.mt with bucket := 7 } } : State).set (FB_ADDR_valid) 0)) State.reset, ⟨ctHead 3 1 0x457 5 3 0 15, [0x10000000 * 2 ^ 32]⟩, by decide⟩

theorem witness_DiscoveryAnswersAndAssigns_1 : ∃ (s : State) (n : Nat) (m : CtMsg), n < 48 ∧ m.wf = true ∧ isOp m 4 =
  true ∧ s.role n = 1 :=
  ⟨(fun s => ((((((((((((((({ s with lanes := [], fb := State.reset.fb, evReq := [], str := State.reset.str, tg := State.reset.tg, plate := State.reset.plate, mt := { State.reset.mt with bucket := 7 } } : State).set (LN_QUAD_mode 2) 1).set (LN_STATUS_role 9) 1).set (LN_PWR_tx_now 9) 0).set (LN_PWR_rx_now 9) 0).set (LN_STATUS_sym_lock 9) 1).set (LN_CTRL_out 9) 0).set (LN_CTRL_loop 9) 0).set (LN_STATUS_role 8) 0).set (FB_ADDR_valid) 1).set (FB_ADDR_addr) 291).set (FB_PORTS_tc_up) 6).set (FB_UP_tc_pri) 2).set (FB_UP_tc_sec) 1).set (FB_DOWN_ports) 2)) State.reset, 9, ⟨ctHead 4 0 0 5 3 0 15, []⟩, by decide⟩

theorem witness_DiscoveryAnswersAndAssigns_2 : ∃ (s : State) (n : Nat) (m : CtMsg), n < 48 ∧ m.wf = true ∧ isOp m 4 =
  true ∧ s.role n ≠ 1 :=
  ⟨(fun s => (({ s with lanes := [], fb := State.reset.fb, evReq := [], str := State.reset.str, tg := State.reset.tg, plate := State.reset.plate, mt := { State.reset.mt with bucket := 7 } } : State).set (LN_STATUS_role 9) 3)) State.reset, 9, ⟨ctHead 4 0 0 5 3 0 15, []⟩, by decide⟩

theorem witness_DiscoveryAnswersAndAssigns_3 : ∃ (s : State) (n : Nat) (m : CtMsg), n < 48 ∧ m.wf = true ∧ isOp m 6 =
  true ∧ s.role n = 1 ∧ m.body.head? = some Config.dieSerial.toNat ∧ (s.on FB_ADDR_valid = false ∨ s.acq = false) :=
  ⟨(fun s => (((((((((((((((({ s with lanes := [], fb := State.reset.fb, evReq := [], str := State.reset.str, tg := State.reset.tg, plate := State.reset.plate, mt := { State.reset.mt with bucket := 7 } } : State).set (LN_QUAD_mode 2) 1).set (LN_STATUS_role 9) 1).set (LN_PWR_tx_now 9) 0).set (LN_PWR_rx_now 9) 0).set (LN_STATUS_sym_lock 9) 1).set (LN_CTRL_out 9) 0).set (LN_CTRL_loop 9) 0).set (LN_STATUS_role 8) 0).set (FB_ADDR_valid) 1).set (FB_ADDR_addr) 291).set (FB_PORTS_tc_up) 6).set (FB_UP_tc_pri) 2).set (FB_UP_tc_sec) 1).set (FB_DOWN_ports) 2).set (CX_ACQ_STATUS_state) 0)) State.reset, 9, ⟨ctHead 6 2 0 7 0 0 0, [Config.dieSerial.toNat, 0x321 * 2 ^ 52 + 4 * 2 ^ 46]⟩, ⟨by decide, by simp [CtMsg.wf, ctHead, Config.dieSerial.isLt], by simp [isOp, ctOp, ctLen, opLen, ctHead, bits], by decide, rfl, by decide⟩⟩

theorem witness_DiscoveryAnswersAndAssigns_4 : ∃ (s : State) (n : Nat) (m : CtMsg), n < 48 ∧ m.wf = true ∧ isOp m 6 =
  true ∧ m.body.head? ≠ some Config.dieSerial.toNat :=
  ⟨(fun s => ((((((((((((((({ s with lanes := [], fb := State.reset.fb, evReq := [], str := State.reset.str, tg := State.reset.tg, plate := State.reset.plate, mt := { State.reset.mt with bucket := 7 } } : State).set (LN_QUAD_mode 2) 1).set (LN_STATUS_role 9) 1).set (LN_PWR_tx_now 9) 0).set (LN_PWR_rx_now 9) 0).set (LN_STATUS_sym_lock 9) 1).set (LN_CTRL_out 9) 0).set (LN_CTRL_loop 9) 0).set (LN_STATUS_role 8) 0).set (FB_ADDR_valid) 1).set (FB_ADDR_addr) 291).set (FB_PORTS_tc_up) 6).set (FB_UP_tc_pri) 2).set (FB_UP_tc_sec) 1).set (FB_DOWN_ports) 2)) State.reset, 9, ⟨ctHead 6 2 0 7 0 0 0, [(Config.dieSerial + 1).toNat, 0]⟩, ⟨by decide, by simp only [CtMsg.wf, ctHead, List.all_cons, List.all_nil, Bool.and_eq_true, decide_eq_true_eq]; exact ⟨⟨by decide, by decide⟩, (Config.dieSerial + 1).isLt, by decide, trivial⟩, by simp [isOp, ctOp, ctLen, opLen, ctHead, bits], by generalize Config.dieSerial = x; intro h; have h2 := BitVec.eq_of_toNat_eq (Option.some.inj h); exact absurd h2 (by bv_omega)⟩⟩

theorem witness_DiscoveryAnswersAndAssigns_5 : ∃ (s : State) (p : Nat), p < 6 ∧ s.tcLanes p = true ∧ s.tcHas p = true
  ∧ s.on FB_ADDR_valid = true ∧ s.get FB_DISC_CTRL_state ≠ 1 ∧ (s.portQ p).msgs.foldl (fun n x => n + x.length) 0 < 64
  :=
  ⟨(fun s => ((((((((((((((((((((((({ s with lanes := [], fb := State.reset.fb, evReq := [], str := State.reset.str, tg := State.reset.tg, plate := State.reset.plate, mt := { State.reset.mt with bucket := 7 } } : State).set (FB_ADDR_valid) 1).set (FB_ADDR_addr) 291).set (FB_PORTS_tc_up) 6).set (FB_UP_tc_pri) 2).set (FB_UP_tc_sec) 1).set (FB_DOWN_ports) 2).set (LN_STATUS_role 16) 1).set (LN_STATUS_role 32) 0).set (LN_STATUS_role 33) 0).set (LN_STATUS_role 34) 0).set (LN_STATUS_role 35) 0).set (LN_STATUS_role 36) 0).set (LN_STATUS_role 37) 0).set (LN_STATUS_role 38) 0).set (LN_STATUS_role 39) 0).set (FB_DISC_CTRL_state) 0).set (FB_DISC_CTRL_port) 2).set (FB_DISC_CTRL_op) 0).set (FB_DISC_ASSIGN_addr) 801).set (FB_DISC_ASSIGN_depth) 4).set (FB_DISC_ANS_HI_serial) 3).set (FB_DISC_ANS_LO_serial) 9)) State.reset, 2, by decide⟩

theorem witness_DiscoveryAnswersAndAssigns_6 : ∃ (s : State) (p : Nat), p < 6 ∧ s.tcLanes p = true ∧ s.tcHas p = true
  ∧ s.on FB_ADDR_valid = true ∧ s.get FB_DISC_CTRL_state ≠ 1 ∧ (s.portQ p).msgs.foldl (fun n x => n + x.length) 0 + 3
  ≤ 64 :=
  ⟨(fun s => ((((((((((((((((((((((({ s with lanes := [], fb := State.reset.fb, evReq := [], str := State.reset.str, tg := State.reset.tg, plate := State.reset.plate, mt := { State.reset.mt with bucket := 7 } } : State).set (FB_ADDR_valid) 1).set (FB_ADDR_addr) 291).set (FB_PORTS_tc_up) 6).set (FB_UP_tc_pri) 2).set (FB_UP_tc_sec) 1).set (FB_DOWN_ports) 2).set (LN_STATUS_role 16) 1).set (LN_STATUS_role 32) 0).set (LN_STATUS_role 33) 0).set (LN_STATUS_role 34) 0).set (LN_STATUS_role 35) 0).set (LN_STATUS_role 36) 0).set (LN_STATUS_role 37) 0).set (LN_STATUS_role 38) 0).set (LN_STATUS_role 39) 0).set (FB_DISC_CTRL_state) 2).set (FB_DISC_CTRL_port) 2).set (FB_DISC_CTRL_op) 0).set (FB_DISC_ASSIGN_addr) 801).set (FB_DISC_ASSIGN_depth) 4).set (FB_DISC_ANS_HI_serial) 3).set (FB_DISC_ANS_LO_serial) 9)) State.reset, 2, by decide⟩

theorem witness_DiscoveryAnswersAndAssigns_7 : ∃ (s : State) (p : Nat), p < 6 ∧ (s.tcLanes p = false ∨ s.on
  FB_ADDR_valid = false ∨ s.get FB_DISC_CTRL_state = 1) :=
  ⟨(fun s => ((((((((((((((((((((((({ s with lanes := [], fb := State.reset.fb, evReq := [], str := State.reset.str, tg := State.reset.tg, plate := State.reset.plate, mt := { State.reset.mt with bucket := 7 } } : State).set (FB_ADDR_valid) 1).set (FB_ADDR_addr) 291).set (FB_PORTS_tc_up) 6).set (FB_UP_tc_pri) 2).set (FB_UP_tc_sec) 1).set (FB_DOWN_ports) 2).set (LN_STATUS_role 16) 1).set (LN_STATUS_role 32) 0).set (LN_STATUS_role 33) 0).set (LN_STATUS_role 34) 0).set (LN_STATUS_role 35) 0).set (LN_STATUS_role 36) 0).set (LN_STATUS_role 37) 0).set (LN_STATUS_role 38) 0).set (LN_STATUS_role 39) 0).set (FB_DISC_CTRL_state) 0).set (FB_DISC_CTRL_port) 2).set (FB_DISC_CTRL_op) 0).set (FB_DISC_ASSIGN_addr) 801).set (FB_DISC_ASSIGN_depth) 4).set (FB_DISC_ANS_HI_serial) 3).set (FB_DISC_ANS_LO_serial) 9)) State.reset, 4, by decide⟩

theorem witness_DiscoveryAnswersAndAssigns_8 : ∃ (s : State) (p : Nat), p < 6 ∧ (s.tcLanes p = false ∨ s.on
  FB_ADDR_valid = false ∨ s.get FB_DISC_CTRL_state = 1) :=
  ⟨(fun s => ((((((((((((((((((((((({ s with lanes := [], fb := State.reset.fb, evReq := [], str := State.reset.str, tg := State.reset.tg, plate := State.reset.plate, mt := { State.reset.mt with bucket := 7 } } : State).set (FB_ADDR_valid) 1).set (FB_ADDR_addr) 291).set (FB_PORTS_tc_up) 6).set (FB_UP_tc_pri) 2).set (FB_UP_tc_sec) 1).set (FB_DOWN_ports) 2).set (LN_STATUS_role 16) 1).set (LN_STATUS_role 32) 0).set (LN_STATUS_role 33) 0).set (LN_STATUS_role 34) 0).set (LN_STATUS_role 35) 0).set (LN_STATUS_role 36) 0).set (LN_STATUS_role 37) 0).set (LN_STATUS_role 38) 0).set (LN_STATUS_role 39) 0).set (FB_DISC_CTRL_state) 0).set (FB_DISC_CTRL_port) 2).set (FB_DISC_CTRL_op) 0).set (FB_DISC_ASSIGN_addr) 801).set (FB_DISC_ASSIGN_depth) 4).set (FB_DISC_ANS_HI_serial) 3).set (FB_DISC_ANS_LO_serial) 9)) State.reset, 4, by decide⟩

theorem witness_DiscoveryAnswersAndAssigns_9 : ∃ (s : State) (p serial info : Nat) (m : CtMsg), p < 6 ∧ m.wf = true ∧
  isOp m 5 = true ∧ m.body = [serial, info] ∧ s.get FB_DISC_CTRL_state = 1 ∧ s.get FB_DISC_CTRL_port = p ∧ s.get
  FB_DISC_CTRL_op = 0 :=
  ⟨(fun s => ((((((((((((((((((((((({ s with lanes := [], fb := State.reset.fb, evReq := [], str := State.reset.str, tg := State.reset.tg, plate := State.reset.plate, mt := { State.reset.mt with bucket := 7 } } : State).set (FB_ADDR_valid) 1).set (FB_ADDR_addr) 291).set (FB_PORTS_tc_up) 6).set (FB_UP_tc_pri) 2).set (FB_UP_tc_sec) 1).set (FB_DOWN_ports) 2).set (LN_STATUS_role 16) 1).set (LN_STATUS_role 32) 0).set (LN_STATUS_role 33) 0).set (LN_STATUS_role 34) 0).set (LN_STATUS_role 35) 0).set (LN_STATUS_role 36) 0).set (LN_STATUS_role 37) 0).set (LN_STATUS_role 38) 0).set (LN_STATUS_role 39) 0).set (FB_DISC_CTRL_state) 1).set (FB_DISC_CTRL_port) 2).set (FB_DISC_CTRL_op) 0).set (FB_DISC_ASSIGN_addr) 801).set (FB_DISC_ASSIGN_depth) 4).set (FB_DISC_ANS_HI_serial) 3).set (FB_DISC_ANS_LO_serial) 9)) State.reset, 2, 0x123456789ABCDEF0, 0x1234567811112222, ⟨ctHead 5 2 0 5 3 0 15, [0x123456789ABCDEF0, 0x1234567811112222]⟩, by decide⟩

theorem witness_DiscoveryAnswersAndAssigns_10 : ∃ (s : State) (p serial info d : Nat) (m : CtMsg), p < 6 ∧ m.wf = true
  ∧ isOp m 5 = true ∧ m.body = [serial, info] ∧ s.get FB_DISC_CTRL_state = 1 ∧ s.get FB_DISC_CTRL_port = p ∧ s.get
  FB_DISC_CTRL_op ≠ 0 ∧ d = s.get FB_DISC_ASSIGN_addr ∧ bit info 15 = true ∧ info % 2 ^ 12 = d ∧ s.on (FB_ROUTE_en d)
  = false :=
  ⟨(fun s => (((((((((((((((((((((((({ s with lanes := [], fb := State.reset.fb, evReq := [], str := State.reset.str, tg := State.reset.tg, plate := State.reset.plate, mt := { State.reset.mt with bucket := 7 } } : State).set (FB_ADDR_valid) 1).set (FB_ADDR_addr) 291).set (FB_PORTS_tc_up) 6).set (FB_UP_tc_pri) 2).set (FB_UP_tc_sec) 1).set (FB_DOWN_ports) 2).set (LN_STATUS_role 16) 1).set (LN_STATUS_role 32) 0).set (LN_STATUS_role 33) 0).set (LN_STATUS_role 34) 0).set (LN_STATUS_role 35) 0).set (LN_STATUS_role 36) 0).set (LN_STATUS_role 37) 0).set (LN_STATUS_role 38) 0).set (LN_STATUS_role 39) 0).set (FB_DISC_CTRL_state) 1).set (FB_DISC_CTRL_port) 2).set (FB_DISC_CTRL_op) 1).set (FB_DISC_ASSIGN_addr) 801).set (FB_DISC_ASSIGN_depth) 4).set (FB_DISC_ANS_HI_serial) 3).set (FB_DISC_ANS_LO_serial) 9).set (FB_ROUTE_en 0x321) 0)) State.reset, 2, 9, 0x8321, 0x321, ⟨ctHead 5 2 0 5 3 0 15, [9, 0x8321]⟩, by decide⟩

theorem witness_DiscoveryAnswersAndAssigns_11 : ∃ (s : State) (p serial info : Nat) (m : CtMsg), p < 6 ∧ m.wf = true ∧
  isOp m 5 = true ∧ m.body = [serial, info] ∧ s.get FB_DISC_CTRL_state = 1 ∧ s.get FB_DISC_CTRL_port = p ∧ s.get
  FB_DISC_CTRL_op ≠ 0 ∧ (bit info 15 = false ∨ info % 2 ^ 12 ≠ s.get FB_DISC_ASSIGN_addr) :=
  ⟨(fun s => ((((((((((((((((((((((({ s with lanes := [], fb := State.reset.fb, evReq := [], str := State.reset.str, tg := State.reset.tg, plate := State.reset.plate, mt := { State.reset.mt with bucket := 7 } } : State).set (FB_ADDR_valid) 1).set (FB_ADDR_addr) 291).set (FB_PORTS_tc_up) 6).set (FB_UP_tc_pri) 2).set (FB_UP_tc_sec) 1).set (FB_DOWN_ports) 2).set (LN_STATUS_role 16) 1).set (LN_STATUS_role 32) 0).set (LN_STATUS_role 33) 0).set (LN_STATUS_role 34) 0).set (LN_STATUS_role 35) 0).set (LN_STATUS_role 36) 0).set (LN_STATUS_role 37) 0).set (LN_STATUS_role 38) 0).set (LN_STATUS_role 39) 0).set (FB_DISC_CTRL_state) 1).set (FB_DISC_CTRL_port) 2).set (FB_DISC_CTRL_op) 1).set (FB_DISC_ASSIGN_addr) 801).set (FB_DISC_ASSIGN_depth) 4).set (FB_DISC_ANS_HI_serial) 3).set (FB_DISC_ANS_LO_serial) 9)) State.reset, 2, 9, 0x321, ⟨ctHead 5 2 0 5 3 0 15, [9, 0x321]⟩, by decide⟩

theorem witness_DiscoveryAnswersAndAssigns_12 : ∃ (s : State) (p : Nat) (m : CtMsg), p < 6 ∧ m.wf = true ∧ isOp m 5 =
  true ∧ (s.get FB_DISC_CTRL_state ≠ 1 ∨ s.get FB_DISC_CTRL_port ≠ p) :=
  ⟨(fun s => ((((((((((((((((((((((({ s with lanes := [], fb := State.reset.fb, evReq := [], str := State.reset.str, tg := State.reset.tg, plate := State.reset.plate, mt := { State.reset.mt with bucket := 7 } } : State).set (FB_ADDR_valid) 1).set (FB_ADDR_addr) 291).set (FB_PORTS_tc_up) 6).set (FB_UP_tc_pri) 2).set (FB_UP_tc_sec) 1).set (FB_DOWN_ports) 2).set (LN_STATUS_role 16) 1).set (LN_STATUS_role 32) 0).set (LN_STATUS_role 33) 0).set (LN_STATUS_role 34) 0).set (LN_STATUS_role 35) 0).set (LN_STATUS_role 36) 0).set (LN_STATUS_role 37) 0).set (LN_STATUS_role 38) 0).set (LN_STATUS_role 39) 0).set (FB_DISC_CTRL_state) 1).set (FB_DISC_CTRL_port) 2).set (FB_DISC_CTRL_op) 1).set (FB_DISC_ASSIGN_addr) 801).set (FB_DISC_ASSIGN_depth) 4).set (FB_DISC_ANS_HI_serial) 3).set (FB_DISC_ANS_LO_serial) 9)) State.reset, 3, ⟨ctHead 5 2 0 5 3 0 15, [9, 0x321]⟩, by decide⟩

theorem witness_DiscoveryAnswersAndAssigns_13 : ∃ (s : State), s.get FB_DISC_CTRL_state = 1 :=
  ⟨(fun s => ((((((((((((((((((((((({ s with lanes := [], fb := State.reset.fb, evReq := [], str := State.reset.str, tg := State.reset.tg, plate := State.reset.plate, mt := { State.reset.mt with bucket := 7 } } : State).set (FB_ADDR_valid) 1).set (FB_ADDR_addr) 291).set (FB_PORTS_tc_up) 6).set (FB_UP_tc_pri) 2).set (FB_UP_tc_sec) 1).set (FB_DOWN_ports) 2).set (LN_STATUS_role 16) 1).set (LN_STATUS_role 32) 0).set (LN_STATUS_role 33) 0).set (LN_STATUS_role 34) 0).set (LN_STATUS_role 35) 0).set (LN_STATUS_role 36) 0).set (LN_STATUS_role 37) 0).set (LN_STATUS_role 38) 0).set (LN_STATUS_role 39) 0).set (FB_DISC_CTRL_state) 1).set (FB_DISC_CTRL_port) 2).set (FB_DISC_CTRL_op) 1).set (FB_DISC_ASSIGN_addr) 801).set (FB_DISC_ASSIGN_depth) 4).set (FB_DISC_ANS_HI_serial) 3).set (FB_DISC_ANS_LO_serial) 9)) State.reset, by decide⟩

theorem witness_DiscoveryAnswersAndAssigns_14 : ∃ (s : State), s.get FB_DISC_CTRL_state ≠ 1 :=
  ⟨(fun s => ((((((((((((((((((((((({ s with lanes := [], fb := State.reset.fb, evReq := [], str := State.reset.str, tg := State.reset.tg, plate := State.reset.plate, mt := { State.reset.mt with bucket := 7 } } : State).set (FB_ADDR_valid) 1).set (FB_ADDR_addr) 291).set (FB_PORTS_tc_up) 6).set (FB_UP_tc_pri) 2).set (FB_UP_tc_sec) 1).set (FB_DOWN_ports) 2).set (LN_STATUS_role 16) 1).set (LN_STATUS_role 32) 0).set (LN_STATUS_role 33) 0).set (LN_STATUS_role 34) 0).set (LN_STATUS_role 35) 0).set (LN_STATUS_role 36) 0).set (LN_STATUS_role 37) 0).set (LN_STATUS_role 38) 0).set (LN_STATUS_role 39) 0).set (FB_DISC_CTRL_state) 2).set (FB_DISC_CTRL_port) 2).set (FB_DISC_CTRL_op) 1).set (FB_DISC_ASSIGN_addr) 801).set (FB_DISC_ASSIGN_depth) 4).set (FB_DISC_ANS_HI_serial) 3).set (FB_DISC_ANS_LO_serial) 9)) State.reset, by decide⟩

theorem witness_FastCommandsActOrTravelOn_1 : ∃ (s : State) (w : FastIn), w.wf = true ∧ fcCode w.item = 1 ∧ bit w.item
  55 = false ∧ s.on FB_ADDR_valid = true ∧ bit w.item 54 = false ∧ bits w.item 32 12 = s.get FB_ADDR_addr :=
  ⟨(fun s => (((((((({ s with lanes := [], fb := State.reset.fb, evReq := [], str := State.reset.str, tg := State.reset.tg, plate := State.reset.plate, mt := { State.reset.mt with bucket := 7 } } : State).set (FB_ADDR_valid) 1).set (FB_ADDR_addr) 291).set (FB_PORTS_tc_up) 6).set (FB_UP_tc_pri) 2).set (FB_UP_tc_sec) 1).set (FB_DOWN_ports) 2).set (CX_ACQ_STATUS_state) 0)) State.reset, ⟨2, (1 * 2 ^ 56 + 0 * 2 ^ 55 + 0 * 2 ^ 54 + 291 * 2 ^ 32 + 100)⟩, by decide⟩

theorem witness_FastCommandsActOrTravelOn_2 : ∃ (s : State) (w : FastIn), w.wf = true ∧ fcCode w.item = 4 ∧ bit w.item
  55 = false ∧ s.on FB_ADDR_valid = true ∧ bit w.item 54 = false ∧ bits w.item 32 12 = s.get FB_ADDR_addr :=
  ⟨(fun s => (((((((({ s with lanes := [], fb := State.reset.fb, evReq := [], str := State.reset.str, tg := State.reset.tg, plate := State.reset.plate, mt := { State.reset.mt with bucket := 7 } } : State).set (FB_ADDR_valid) 1).set (FB_ADDR_addr) 291).set (FB_PORTS_tc_up) 6).set (FB_UP_tc_pri) 2).set (FB_UP_tc_sec) 1).set (FB_DOWN_ports) 2).set (CX_ACQ_STATUS_state) 0)) State.reset, ⟨2, (4 * 2 ^ 56 + 0 * 2 ^ 55 + 0 * 2 ^ 54 + 291 * 2 ^ 32 + 100)⟩, by decide⟩

theorem witness_FastCommandsActOrTravelOn_3 : ∃ (s : State) (w : FastIn), w.wf = true ∧ fcCode w.item = 5 ∧ bit w.item
  55 = false ∧ s.on FB_ADDR_valid = true ∧ bit w.item 54 = false ∧ bits w.item 32 12 = s.get FB_ADDR_addr :=
  ⟨(fun s => (((((((({ s with lanes := [], fb := State.reset.fb, evReq := [], str := State.reset.str, tg := State.reset.tg, plate := State.reset.plate, mt := { State.reset.mt with bucket := 7 } } : State).set (FB_ADDR_valid) 1).set (FB_ADDR_addr) 291).set (FB_PORTS_tc_up) 6).set (FB_UP_tc_pri) 2).set (FB_UP_tc_sec) 1).set (FB_DOWN_ports) 2).set (CX_ACQ_STATUS_state) 0)) State.reset, ⟨2, (5 * 2 ^ 56 + 0 * 2 ^ 55 + 0 * 2 ^ 54 + 291 * 2 ^ 32 + 100)⟩, by decide⟩

theorem witness_FastCommandsActOrTravelOn_4 : ∃ (s : State) (w : FastIn), w.wf = true ∧ fcCode w.item = 2 ∧ bit w.item
  55 = false ∧ s.on FB_ADDR_valid = true ∧ bit w.item 54 = false ∧ bits w.item 32 12 = s.get FB_ADDR_addr ∧ 0 <
  diffBkt s.mt.nb (fcArg w.item, 0) s.now ∧ s.get CX_ACQ_STATUS_state < 2 ∧ s.acqCause = none :=
  ⟨(fun s => (((((((((((((({ s with lanes := [], fb := State.reset.fb, evReq := [], str := State.reset.str, tg := State.reset.tg, plate := State.reset.plate, mt := { State.reset.mt with bucket := 7, orbit := 50 } } : State).set (FB_ADDR_valid) 1).set (FB_ADDR_addr) 291).set (FB_PORTS_tc_up) 6).set (FB_UP_tc_pri) 2).set (FB_UP_tc_sec) 1).set (FB_DOWN_ports) 2).set (CX_ACQ_STATUS_state) 0).set (CX_PLATE_STATUS_state) 4).set (CX_MT_STATUS_mt_valid) 1).set (CX_HQ_STATUS_store_ready) 1).set (CX_HQ_STATUS_flushing) 0).set (RC_FREEZE_STATUS_state) 0).set (OVN_STATUS_ready) 1)) State.reset, ⟨2, (2 * 2 ^ 56 + 0 * 2 ^ 55 + 0 * 2 ^ 54 + 291 * 2 ^ 32 + 100)⟩, by decide⟩

theorem witness_FastCommandsActOrTravelOn_5 : ∃ (s : State) (w : FastIn), w.wf = true ∧ fcCode w.item = 2 ∧ bit w.item
  55 = false ∧ s.on FB_ADDR_valid = true ∧ bit w.item 54 = false ∧ bits w.item 32 12 = s.get FB_ADDR_addr ∧ diffBkt
  s.mt.nb (fcArg w.item, 0) s.now ≤ 0 ∧ s.get CX_ACQ_STATUS_state < 2 ∧ s.acqCause = none :=
  ⟨(fun s => (((((((((((((({ s with lanes := [], fb := State.reset.fb, evReq := [], str := State.reset.str, tg := State.reset.tg, plate := State.reset.plate, mt := { State.reset.mt with bucket := 7, orbit := 50 } } : State).set (FB_ADDR_valid) 1).set (FB_ADDR_addr) 291).set (FB_PORTS_tc_up) 6).set (FB_UP_tc_pri) 2).set (FB_UP_tc_sec) 1).set (FB_DOWN_ports) 2).set (CX_ACQ_STATUS_state) 0).set (CX_PLATE_STATUS_state) 4).set (CX_MT_STATUS_mt_valid) 1).set (CX_HQ_STATUS_store_ready) 1).set (CX_HQ_STATUS_flushing) 0).set (RC_FREEZE_STATUS_state) 0).set (OVN_STATUS_ready) 1)) State.reset, ⟨2, (2 * 2 ^ 56 + 0 * 2 ^ 55 + 0 * 2 ^ 54 + 291 * 2 ^ 32 + 50)⟩, by decide⟩

theorem witness_FastCommandsActOrTravelOn_6 : ∃ (s : State) (w : FastIn), w.wf = true ∧ fcCode w.item = 3 ∧ bit w.item
  55 = false ∧ s.on FB_ADDR_valid = true ∧ bit w.item 54 = false ∧ bits w.item 32 12 = s.get FB_ADDR_addr ∧ 0 <
  diffBkt s.mt.nb (fcArg w.item, 0) s.now ∧ s.acq = true :=
  ⟨(fun s => (((((((((((((({ s with lanes := [], fb := State.reset.fb, evReq := [], str := State.reset.str, tg := State.reset.tg, plate := State.reset.plate, mt := { State.reset.mt with bucket := 7, orbit := 50 } } : State).set (FB_ADDR_valid) 1).set (FB_ADDR_addr) 291).set (FB_PORTS_tc_up) 6).set (FB_UP_tc_pri) 2).set (FB_UP_tc_sec) 1).set (FB_DOWN_ports) 2).set (CX_ACQ_STATUS_state) 2).set (CX_PLATE_STATUS_state) 4).set (CX_MT_STATUS_mt_valid) 1).set (CX_HQ_STATUS_store_ready) 1).set (CX_HQ_STATUS_flushing) 0).set (RC_FREEZE_STATUS_state) 0).set (OVN_STATUS_ready) 1)) State.reset, ⟨2, (3 * 2 ^ 56 + 0 * 2 ^ 55 + 0 * 2 ^ 54 + 291 * 2 ^ 32 + 100)⟩, by decide⟩

theorem witness_FastCommandsActOrTravelOn_7 : ∃ (s : State) (w : FastIn), w.wf = true ∧ fcCode w.item = 3 ∧ bit w.item
  55 = false ∧ s.on FB_ADDR_valid = true ∧ bit w.item 54 = false ∧ bits w.item 32 12 = s.get FB_ADDR_addr ∧ s.get
  CX_ACQ_STATUS_state = 0 ∧ 0 < diffBkt s.mt.nb (fcArg w.item, 0) s.now :=
  ⟨(fun s => (((((((((((((({ s with lanes := [], fb := State.reset.fb, evReq := [], str := State.reset.str, tg := State.reset.tg, plate := State.reset.plate, mt := { State.reset.mt with bucket := 7, orbit := 50 } } : State).set (FB_ADDR_valid) 1).set (FB_ADDR_addr) 291).set (FB_PORTS_tc_up) 6).set (FB_UP_tc_pri) 2).set (FB_UP_tc_sec) 1).set (FB_DOWN_ports) 2).set (CX_ACQ_STATUS_state) 0).set (CX_PLATE_STATUS_state) 4).set (CX_MT_STATUS_mt_valid) 1).set (CX_HQ_STATUS_store_ready) 1).set (CX_HQ_STATUS_flushing) 0).set (RC_FREEZE_STATUS_state) 0).set (OVN_STATUS_ready) 1)) State.reset, ⟨2, (3 * 2 ^ 56 + 0 * 2 ^ 55 + 0 * 2 ^ 54 + 291 * 2 ^ 32 + 100)⟩, by decide⟩

theorem witness_FastCommandsActOrTravelOn_8 : ∃ (s : State) (w : FastIn) (d p : Nat), w.wf = true ∧ fcCode w.item = 1
  ∧ bit w.item 55 = false ∧ s.on FB_ADDR_valid = true ∧ bit w.item 54 = false ∧ bits w.item 32 12 = d ∧ d ≠ s.get
  FB_ADDR_addr ∧ s.on (FB_ROUTE_en d) = true ∧ s.get (FB_ROUTE_pri d) = p ∧ s.tcHas p = true ∧ s.on (FB_ROUTE_use_sec
  d) = false ∧ (s.portQ p).fast.length < 64 :=
  ⟨(fun s => ((((((((((({ s with lanes := [], fb := State.reset.fb, evReq := [], str := State.reset.str, tg := State.reset.tg, plate := State.reset.plate, mt := { State.reset.mt with bucket := 7 } } : State).set (FB_ADDR_valid) 1).set (FB_ADDR_addr) 291).set (FB_PORTS_tc_up) 6).set (FB_UP_tc_pri) 2).set (FB_UP_tc_sec) 1).set (FB_DOWN_ports) 2).set (FB_ROUTE_en 0x456) 1).set (FB_ROUTE_pri 0x456) 1).set (FB_ROUTE_sec 0x456) 2).set (FB_ROUTE_use_sec 0x456) 0)) State.reset, ⟨2, (1 * 2 ^ 56 + 0 * 2 ^ 55 + 0 * 2 ^ 54 + 1110 * 2 ^ 32 + 100)⟩, 1110, 1, by decide⟩

theorem witness_FastCommandsActOrTravelOn_9 : ∃ (s : State) (w : FastIn) (d p : Nat), w.wf = true ∧ fcCode w.item = 2
  ∧ bit w.item 55 = false ∧ s.on FB_ADDR_valid = true ∧ bit w.item 54 = false ∧ bits w.item 32 12 = d ∧ d ≠ s.get
  FB_ADDR_addr ∧ s.on (FB_ROUTE_en d) = true ∧ s.get (FB_ROUTE_pri d) = p ∧ s.tcHas p = true ∧ s.on (FB_ROUTE_use_sec
  d) = false ∧ (s.portQ p).fast.length < 64 :=
  ⟨(fun s => ((((((((((({ s with lanes := [], fb := State.reset.fb, evReq := [], str := State.reset.str, tg := State.reset.tg, plate := State.reset.plate, mt := { State.reset.mt with bucket := 7 } } : State).set (FB_ADDR_valid) 1).set (FB_ADDR_addr) 291).set (FB_PORTS_tc_up) 6).set (FB_UP_tc_pri) 2).set (FB_UP_tc_sec) 1).set (FB_DOWN_ports) 2).set (FB_ROUTE_en 0x456) 1).set (FB_ROUTE_pri 0x456) 1).set (FB_ROUTE_sec 0x456) 2).set (FB_ROUTE_use_sec 0x456) 0)) State.reset, ⟨2, (2 * 2 ^ 56 + 0 * 2 ^ 55 + 0 * 2 ^ 54 + 1110 * 2 ^ 32 + 100)⟩, 1110, 1, by decide⟩

theorem witness_FastCommandsActOrTravelOn_10 : ∃ (s : State) (w : FastIn) (d p : Nat), w.wf = true ∧ fcCode w.item = 3
  ∧ bit w.item 55 = false ∧ s.on FB_ADDR_valid = true ∧ bit w.item 54 = false ∧ bits w.item 32 12 = d ∧ d ≠ s.get
  FB_ADDR_addr ∧ s.on (FB_ROUTE_en d) = true ∧ s.get (FB_ROUTE_pri d) = p ∧ s.tcHas p = true ∧ s.on (FB_ROUTE_use_sec
  d) = false ∧ (s.portQ p).fast.length < 64 :=
  ⟨(fun s => ((((((((((({ s with lanes := [], fb := State.reset.fb, evReq := [], str := State.reset.str, tg := State.reset.tg, plate := State.reset.plate, mt := { State.reset.mt with bucket := 7 } } : State).set (FB_ADDR_valid) 1).set (FB_ADDR_addr) 291).set (FB_PORTS_tc_up) 6).set (FB_UP_tc_pri) 2).set (FB_UP_tc_sec) 1).set (FB_DOWN_ports) 2).set (FB_ROUTE_en 0x456) 1).set (FB_ROUTE_pri 0x456) 1).set (FB_ROUTE_sec 0x456) 2).set (FB_ROUTE_use_sec 0x456) 0)) State.reset, ⟨2, (3 * 2 ^ 56 + 0 * 2 ^ 55 + 0 * 2 ^ 54 + 1110 * 2 ^ 32 + 100)⟩, 1110, 1, by decide⟩

theorem witness_FastCommandsActOrTravelOn_11 : ∃ (s : State) (w : FastIn) (d p : Nat), w.wf = true ∧ fcCode w.item = 4
  ∧ bit w.item 55 = false ∧ s.on FB_ADDR_valid = true ∧ bit w.item 54 = false ∧ bits w.item 32 12 = d ∧ d ≠ s.get
  FB_ADDR_addr ∧ s.on (FB_ROUTE_en d) = true ∧ s.get (FB_ROUTE_pri d) = p ∧ s.tcHas p = true ∧ s.on (FB_ROUTE_use_sec
  d) = false ∧ (s.portQ p).fast.length < 64 :=
  ⟨(fun s => ((((((((((({ s with lanes := [], fb := State.reset.fb, evReq := [], str := State.reset.str, tg := State.reset.tg, plate := State.reset.plate, mt := { State.reset.mt with bucket := 7 } } : State).set (FB_ADDR_valid) 1).set (FB_ADDR_addr) 291).set (FB_PORTS_tc_up) 6).set (FB_UP_tc_pri) 2).set (FB_UP_tc_sec) 1).set (FB_DOWN_ports) 2).set (FB_ROUTE_en 0x456) 1).set (FB_ROUTE_pri 0x456) 1).set (FB_ROUTE_sec 0x456) 2).set (FB_ROUTE_use_sec 0x456) 0)) State.reset, ⟨2, (4 * 2 ^ 56 + 0 * 2 ^ 55 + 0 * 2 ^ 54 + 1110 * 2 ^ 32 + 100)⟩, 1110, 1, by decide⟩

theorem witness_FastCommandsActOrTravelOn_12 : ∃ (s : State) (w : FastIn) (d p : Nat), w.wf = true ∧ fcCode w.item = 5
  ∧ bit w.item 55 = false ∧ s.on FB_ADDR_valid = true ∧ bit w.item 54 = false ∧ bits w.item 32 12 = d ∧ d ≠ s.get
  FB_ADDR_addr ∧ s.on (FB_ROUTE_en d) = true ∧ s.get (FB_ROUTE_pri d) = p ∧ s.tcHas p = true ∧ s.on (FB_ROUTE_use_sec
  d) = false ∧ (s.portQ p).fast.length < 64 :=
  ⟨(fun s => ((((((((((({ s with lanes := [], fb := State.reset.fb, evReq := [], str := State.reset.str, tg := State.reset.tg, plate := State.reset.plate, mt := { State.reset.mt with bucket := 7 } } : State).set (FB_ADDR_valid) 1).set (FB_ADDR_addr) 291).set (FB_PORTS_tc_up) 6).set (FB_UP_tc_pri) 2).set (FB_UP_tc_sec) 1).set (FB_DOWN_ports) 2).set (FB_ROUTE_en 0x456) 1).set (FB_ROUTE_pri 0x456) 1).set (FB_ROUTE_sec 0x456) 2).set (FB_ROUTE_use_sec 0x456) 0)) State.reset, ⟨2, (5 * 2 ^ 56 + 0 * 2 ^ 55 + 0 * 2 ^ 54 + 1110 * 2 ^ 32 + 100)⟩, 1110, 1, by decide⟩

theorem witness_FastCommandsActOrTravelOn_13 : ∃ (s : State) (w : FastIn) (p : Nat), w.wf = true ∧ fcCode w.item = 4 ∧
  bit w.item 55 = false ∧ s.on FB_ADDR_valid = true ∧ bit w.item 54 = true ∧ s.get FB_DOWN_ports = 2 ^ p ∧ p < 6 ∧
  s.upPort = some w.port :=
  ⟨(fun s => ((((((({ s with lanes := [], fb := State.reset.fb, evReq := [], str := State.reset.str, tg := State.reset.tg, plate := State.reset.plate, mt := { State.reset.mt with bucket := 7 } } : State).set (FB_ADDR_valid) 1).set (FB_ADDR_addr) 291).set (FB_PORTS_tc_up) 6).set (FB_UP_tc_pri) 2).set (FB_UP_tc_sec) 1).set (FB_DOWN_ports) 2)) State.reset, ⟨2, (4 * 2 ^ 56 + 0 * 2 ^ 55 + 1 * 2 ^ 54 + 291 * 2 ^ 32 + 100)⟩, 1, by decide⟩

theorem witness_FastCommandsActOrTravelOn_14 : ∃ (s : State) (port w p : Nat), port < 6 ∧ w < 2 ^ 64 ∧ fcCode w = 16 ∧
  bit w 55 = true ∧ s.on FB_ADDR_valid = true ∧ s.upQueue = some p ∧ (s.portQ p).fast.length < 64 :=
  ⟨(fun s => ((((((({ s with lanes := [], fb := State.reset.fb, evReq := [], str := State.reset.str, tg := State.reset.tg, plate := State.reset.plate, mt := { State.reset.mt with bucket := 7 } } : State).set (FB_ADDR_valid) 1).set (FB_ADDR_addr) 291).set (FB_PORTS_tc_up) 6).set (FB_UP_tc_pri) 2).set (FB_UP_tc_sec) 1).set (FB_DOWN_ports) 2)) State.reset, 1, (16 * 2 ^ 56 + 1 * 2 ^ 55 + 0 * 2 ^ 54 + 291 * 2 ^ 32 + 100), 2, by decide⟩

theorem witness_FastCommandsActOrTravelOn_15 : ∃ (s : State) (port w p : Nat), port < 6 ∧ w < 2 ^ 64 ∧ fcCode w = 16 ∧
  bit w 55 = true ∧ s.on FB_ADDR_valid = true ∧ s.upQueue = some p ∧ 64 ≤ (s.portQ p).fast.length :=
  ⟨(fun s => (((((((({ s with lanes := [], fb := State.reset.fb, evReq := [], str := State.reset.str, tg := State.reset.tg, plate := State.reset.plate, mt := { State.reset.mt with bucket := 7 } } : State).set (FB_ADDR_valid) 1).set (FB_ADDR_addr) 291).set (FB_PORTS_tc_up) 6).set (FB_UP_tc_pri) 2).set (FB_UP_tc_sec) 1).set (FB_DOWN_ports) 2)).setPortQ 2 { PortQ.new with fast := List.replicate 64 (0, 9) }) State.reset, 1, (16 * 2 ^ 56 + 1 * 2 ^ 55 + 0 * 2 ^ 54 + 291 * 2 ^ 32 + 100), 2, by decide⟩

theorem witness_FastCommandsActOrTravelOn_16 : ∃ (s : State) (port w p : Nat), port < 6 ∧ w < 2 ^ 64 ∧ fcCode w = 17 ∧
  bit w 55 = true ∧ s.on FB_ADDR_valid = true ∧ s.upQueue = some p ∧ (s.portQ p).fast.length < 64 :=
  ⟨(fun s => ((((((({ s with lanes := [], fb := State.reset.fb, evReq := [], str := State.reset.str, tg := State.reset.tg, plate := State.reset.plate, mt := { State.reset.mt with bucket := 7 } } : State).set (FB_ADDR_valid) 1).set (FB_ADDR_addr) 291).set (FB_PORTS_tc_up) 6).set (FB_UP_tc_pri) 2).set (FB_UP_tc_sec) 1).set (FB_DOWN_ports) 2)) State.reset, 1, (17 * 2 ^ 56 + 1 * 2 ^ 55 + 0 * 2 ^ 54 + 291 * 2 ^ 32 + 100), 2, by decide⟩

theorem witness_FastCommandsActOrTravelOn_17 : ∃ (s : State) (port w p : Nat), port < 6 ∧ w < 2 ^ 64 ∧ fcCode w = 17 ∧
  bit w 55 = true ∧ s.on FB_ADDR_valid = true ∧ s.upQueue = some p ∧ 64 ≤ (s.portQ p).fast.length :=
  ⟨(fun s => (((((((({ s with lanes := [], fb := State.reset.fb, evReq := [], str := State.reset.str, tg := State.reset.tg, plate := State.reset.plate, mt := { State.reset.mt with bucket := 7 } } : State).set (FB_ADDR_valid) 1).set (FB_ADDR_addr) 291).set (FB_PORTS_tc_up) 6).set (FB_UP_tc_pri) 2).set (FB_UP_tc_sec) 1).set (FB_DOWN_ports) 2)).setPortQ 2 { PortQ.new with fast := List.replicate 64 (0, 9) }) State.reset, 1, (17 * 2 ^ 56 + 1 * 2 ^ 55 + 0 * 2 ^ 54 + 291 * 2 ^ 32 + 100), 2, by decide⟩

theorem witness_PortsFailReturnAndTimeFollows_1 : ∃ (s : State) (p : Nat), p < 6 ∧ (bit (s.get FB_PORTS_tc_up) p =
  false ∨ s.serving p 1 ≠ []) :=
  ⟨(fun s => (((((((((((((((((((((((((({ s with lanes := [], fb := State.reset.fb, evReq := [], str := State.reset.str, tg := State.reset.tg, plate := State.reset.plate, mt := { State.reset.mt with bucket := 7 } } : State).set (FB_PORTS_tc_up) 6).set (FB_UP_tc_pri) 2).set (FB_UP_tc_sec) 1).set (FB_DOWN_ports) 0).set (FB_PORTS_data_up) 6).set (FB_UP_d_pri) 2).set (FB_UP_d_sec) 1).set (LN_STATUS_role 16) 0).set (LN_STATUS_role 17) 0).set (LN_STATUS_role 18) 0).set (LN_STATUS_role 19) 0).set (LN_STATUS_role 20) 0).set (LN_STATUS_role 21) 0).set (LN_STATUS_role 22) 0).set (LN_STATUS_role 23) 0).set (LN_STATUS_role 9) 1).set (LN_STATUS_role 10) 3).set (LN_PWR_tx_now 9) 0).set (LN_PWR_rx_now 9) 0).set (LN_STATUS_sym_lock 9) 1).set (LN_CTRL_out 9) 0).set (LN_PWR_tx_now 10) 0).set (LN_PWR_rx_now 10) 0).set (LN_STATUS_sym_lock 10) 1).set (LN_CTRL_out 10) 0)) State.reset, 3, by decide⟩

theorem witness_PortsFailReturnAndTimeFollows_2 : ∃ (s : State) (p : Nat), p < 6 ∧ (bit (s.get FB_PORTS_data_up) p =
  false ∨ s.serving p 3 ≠ []) :=
  ⟨(fun s => (((((((((((((((((((((((((({ s with lanes := [], fb := State.reset.fb, evReq := [], str := State.reset.str, tg := State.reset.tg, plate := State.reset.plate, mt := { State.reset.mt with bucket := 7 } } : State).set (FB_PORTS_tc_up) 6).set (FB_UP_tc_pri) 2).set (FB_UP_tc_sec) 1).set (FB_DOWN_ports) 0).set (FB_PORTS_data_up) 6).set (FB_UP_d_pri) 2).set (FB_UP_d_sec) 1).set (LN_STATUS_role 16) 0).set (LN_STATUS_role 17) 0).set (LN_STATUS_role 18) 0).set (LN_STATUS_role 19) 0).set (LN_STATUS_role 20) 0).set (LN_STATUS_role 21) 0).set (LN_STATUS_role 22) 0).set (LN_STATUS_role 23) 0).set (LN_STATUS_role 9) 1).set (LN_STATUS_role 10) 3).set (LN_PWR_tx_now 9) 0).set (LN_PWR_rx_now 9) 0).set (LN_STATUS_sym_lock 9) 1).set (LN_CTRL_out 9) 0).set (LN_PWR_tx_now 10) 0).set (LN_PWR_rx_now 10) 0).set (LN_STATUS_sym_lock 10) 1).set (LN_CTRL_out 10) 0)) State.reset, 3, by decide⟩

theorem witness_PortsFailReturnAndTimeFollows_3 : ∃ (s : State) (p q : Nat), p < 6 ∧ s.upPort = some p ∧ s.serving p 1
  = [] ∧ s.fb.tcSec = false ∧ s.get FB_UP_tc_pri = p ∧ s.get FB_UP_tc_sec = q ∧ q ≠ p ∧ s.tcHas q = true :=
  ⟨(fun s => ((((((((((((((((((((((((((((({ s with lanes := [], fb := State.reset.fb, evReq := [], str := State.reset.str, tg := State.reset.tg, plate := State.reset.plate, mt := { State.reset.mt with bucket := 7 } } : State).set (FB_PORTS_tc_up) 6).set (FB_UP_tc_pri) 2).set (FB_UP_tc_sec) 1).set (FB_DOWN_ports) 0).set (FB_PORTS_data_up) 6).set (FB_UP_d_pri) 2).set (FB_UP_d_sec) 1).set (LN_STATUS_role 16) 0).set (LN_STATUS_role 17) 0).set (LN_STATUS_role 18) 0).set (LN_STATUS_role 19) 0).set (LN_STATUS_role 20) 0).set (LN_STATUS_role 21) 0).set (LN_STATUS_role 22) 0).set (LN_STATUS_role 23) 0).set (LN_STATUS_role 9) 1).set (LN_STATUS_role 10) 3).set (LN_PWR_tx_now 9) 0).set (LN_PWR_rx_now 9) 0).set (LN_STATUS_sym_lock 9) 1).set (LN_CTRL_out 9) 0).set (LN_PWR_tx_now 10) 0).set (LN_PWR_rx_now 10) 0).set (LN_STATUS_sym_lock 10) 1).set (LN_CTRL_out 10) 0).set (CX_MT_STATUS_src) 1).set (CX_MT_STATUS_src_lane) 16).set (CX_MT_STATUS_state) 1)) State.reset, 2, 1, by decide⟩

theorem witness_PortsFailReturnAndTimeFollows_4 : ∃ (s : State) (p q : Nat), p < 6 ∧ s.dataUp = some p ∧ s.serving p 3
  = [] ∧ s.str.dSec = false ∧ s.get FB_UP_d_pri = p ∧ s.get FB_UP_d_sec = q ∧ q ≠ p ∧ q < 6 ∧ bit (s.get
  FB_PORTS_data_up) q = true :=
  ⟨(fun s => ((((((((((((((((((((((((((({ s with lanes := [], fb := State.reset.fb, evReq := [], str := State.reset.str, tg := State.reset.tg, plate := State.reset.plate, mt := { State.reset.mt with bucket := 7 } } : State).set (FB_PORTS_tc_up) 6).set (FB_UP_tc_pri) 2).set (FB_UP_tc_sec) 1).set (FB_DOWN_ports) 0).set (FB_PORTS_data_up) 6).set (FB_UP_d_pri) 2).set (FB_UP_d_sec) 1).set (LN_STATUS_role 16) 0).set (LN_STATUS_role 17) 0).set (LN_STATUS_role 18) 0).set (LN_STATUS_role 19) 0).set (LN_STATUS_role 20) 0).set (LN_STATUS_role 21) 0).set (LN_STATUS_role 22) 0).set (LN_STATUS_role 23) 0).set (LN_STATUS_role 9) 1).set (LN_STATUS_role 10) 3).set (LN_PWR_tx_now 9) 0).set (LN_PWR_rx_now 9) 0).set (LN_STATUS_sym_lock 9) 1).set (LN_CTRL_out 9) 0).set (LN_PWR_tx_now 10) 0).set (LN_PWR_rx_now 10) 0).set (LN_STATUS_sym_lock 10) 1).set (LN_CTRL_out 10) 0)).setPath 2 { DPath.new with started := true, frags := [⟨4, some 9, 0x20A, 77, [5], [3], 2, 1, 1⟩] }) State.reset, 2, 1, by decide⟩

theorem witness_PortsFailReturnAndTimeFollows_5 : ∃ (s : State) (p : Nat), p < 6 ∧ bit (s.get FB_PORTS_tc_up) p =
  false ∧ s.serving p 1 ≠ [] ∧ s.upPort ≠ none :=
  ⟨(fun s => (((((((((((((((((((((((((((((({ s with lanes := [], fb := { State.reset.fb with tcSec := true }, evReq := [], str := State.reset.str, tg := State.reset.tg, plate := State.reset.plate, mt := { State.reset.mt with bucket := 7 } } : State).set (FB_PORTS_tc_up) 6).set (FB_UP_tc_pri) 2).set (FB_UP_tc_sec) 1).set (FB_DOWN_ports) 0).set (FB_PORTS_data_up) 6).set (FB_UP_d_pri) 2).set (FB_UP_d_sec) 1).set (LN_STATUS_role 16) 0).set (LN_STATUS_role 17) 0).set (LN_STATUS_role 18) 0).set (LN_STATUS_role 19) 0).set (LN_STATUS_role 20) 0).set (LN_STATUS_role 21) 0).set (LN_STATUS_role 22) 0).set (LN_STATUS_role 23) 0).set (LN_STATUS_role 9) 1).set (LN_STATUS_role 10) 3).set (LN_PWR_tx_now 9) 0).set (LN_PWR_rx_now 9) 0).set (LN_STATUS_sym_lock 9) 1).set (LN_CTRL_out 9) 0).set (LN_PWR_tx_now 10) 0).set (LN_PWR_rx_now 10) 0).set (LN_STATUS_sym_lock 10) 1).set (LN_CTRL_out 10) 0).set (FB_PORTS_tc_up) 4).set (FB_UP_tc_pri) 1).set (FB_UP_tc_sec) 2).set (FB_CTRL_revert) 0)) State.reset, 1, by decide⟩

theorem witness_PortsFailReturnAndTimeFollows_6 : ∃ (s : State) (p : Nat), p < 6 ∧ bit (s.get FB_PORTS_data_up) p =
  false ∧ s.serving p 3 ≠ [] :=
  ⟨(fun s => ((((((((((((((((((((((((((({ s with lanes := [], fb := State.reset.fb, evReq := [], str := State.reset.str, tg := State.reset.tg, plate := State.reset.plate, mt := { State.reset.mt with bucket := 7 } } : State).set (FB_PORTS_tc_up) 6).set (FB_UP_tc_pri) 2).set (FB_UP_tc_sec) 1).set (FB_DOWN_ports) 0).set (FB_PORTS_data_up) 6).set (FB_UP_d_pri) 2).set (FB_UP_d_sec) 1).set (LN_STATUS_role 16) 0).set (LN_STATUS_role 17) 0).set (LN_STATUS_role 18) 0).set (LN_STATUS_role 19) 0).set (LN_STATUS_role 20) 0).set (LN_STATUS_role 21) 0).set (LN_STATUS_role 22) 0).set (LN_STATUS_role 23) 0).set (LN_STATUS_role 9) 1).set (LN_STATUS_role 10) 3).set (LN_PWR_tx_now 9) 0).set (LN_PWR_rx_now 9) 0).set (LN_STATUS_sym_lock 9) 1).set (LN_CTRL_out 9) 0).set (LN_PWR_tx_now 10) 0).set (LN_PWR_rx_now 10) 0).set (LN_STATUS_sym_lock 10) 1).set (LN_CTRL_out 10) 0).set (FB_PORTS_data_up) 4)) State.reset, 1, by decide⟩

theorem witness_PortsFailReturnAndTimeFollows_7 : ∃ (s : State) (p : Nat) (data : Bool), p < 6 ∧ (s.serving p (if data
  then 3 else 1) = []) :=
  ⟨(fun s => ((((((((((((((((((((((((((({ s with lanes := [], fb := State.reset.fb, evReq := [], str := State.reset.str, tg := State.reset.tg, plate := State.reset.plate, mt := { State.reset.mt with bucket := 7 } } : State).set (FB_PORTS_tc_up) 6).set (FB_UP_tc_pri) 2).set (FB_UP_tc_sec) 1).set (FB_DOWN_ports) 0).set (FB_PORTS_data_up) 6).set (FB_UP_d_pri) 2).set (FB_UP_d_sec) 1).set (LN_STATUS_role 16) 0).set (LN_STATUS_role 17) 0).set (LN_STATUS_role 18) 0).set (LN_STATUS_role 19) 0).set (LN_STATUS_role 20) 0).set (LN_STATUS_role 21) 0).set (LN_STATUS_role 22) 0).set (LN_STATUS_role 23) 0).set (LN_STATUS_role 9) 1).set (LN_STATUS_role 10) 3).set (LN_PWR_tx_now 9) 0).set (LN_PWR_rx_now 9) 0).set (LN_STATUS_sym_lock 9) 1).set (LN_CTRL_out 9) 0).set (LN_PWR_tx_now 10) 0).set (LN_PWR_rx_now 10) 0).set (LN_STATUS_sym_lock 10) 1).set (LN_CTRL_out 10) 0).set (FB_PORTS_data_up) 4)) State.reset, 2, true, by decide⟩

theorem witness_PortsFailReturnAndTimeFollows_8 : ∃ (s : State), s.upPort = none :=
  ⟨(fun s => (({ s with lanes := [], fb := State.reset.fb, evReq := [], str := State.reset.str, tg := State.reset.tg, plate := State.reset.plate, mt := { State.reset.mt with bucket := 7 } } : State).set (FB_PORTS_tc_up) 0)) State.reset, by decide⟩

theorem witness_PortsFailReturnAndTimeFollows_9 : ∃ (s : State) (p n : Nat), s.upPort = some p ∧ (s.serving p 1).head?
  = some n ∧ n < 48 :=
  ⟨(fun s => ((((((((((((((((((((((((((((({ s with lanes := [], fb := State.reset.fb, evReq := [], str := State.reset.str, tg := State.reset.tg, plate := State.reset.plate, mt := { State.reset.mt with bucket := 7 } } : State).set (FB_PORTS_tc_up) 6).set (FB_UP_tc_pri) 2).set (FB_UP_tc_sec) 1).set (FB_DOWN_ports) 0).set (FB_PORTS_data_up) 6).set (FB_UP_d_pri) 2).set (FB_UP_d_sec) 1).set (LN_STATUS_role 16) 0).set (LN_STATUS_role 17) 0).set (LN_STATUS_role 18) 0).set (LN_STATUS_role 19) 0).set (LN_STATUS_role 20) 0).set (LN_STATUS_role 21) 0).set (LN_STATUS_role 22) 0).set (LN_STATUS_role 23) 0).set (LN_STATUS_role 9) 1).set (LN_STATUS_role 10) 3).set (LN_PWR_tx_now 9) 0).set (LN_PWR_rx_now 9) 0).set (LN_STATUS_sym_lock 9) 1).set (LN_CTRL_out 9) 0).set (LN_PWR_tx_now 10) 0).set (LN_PWR_rx_now 10) 0).set (LN_STATUS_sym_lock 10) 1).set (LN_CTRL_out 10) 0).set (FB_UP_tc_pri) 1).set (CX_MT_STATUS_src) 1).set (CX_MT_STATUS_state) 1)) State.reset, 1, 9, by decide⟩

theorem witness_PortsFailReturnAndTimeFollows_10 : ∃ (s : State) (p : Nat), p < 6 ∧ bit (s.get FB_PORTS_tc_up) p =
  false ∧ s.serving p 1 ≠ [] ∧ s.upPort = none ∧ s.get FB_UP_tc_pri = p :=
  ⟨(fun s => ((((((((((((((((((((((((((((({ s with lanes := [], fb := { State.reset.fb with tcSec := true }, evReq := [], str := State.reset.str, tg := State.reset.tg, plate := State.reset.plate, mt := { State.reset.mt with bucket := 7 } } : State).set (FB_PORTS_tc_up) 6).set (FB_UP_tc_pri) 2).set (FB_UP_tc_sec) 1).set (FB_DOWN_ports) 0).set (FB_PORTS_data_up) 6).set (FB_UP_d_pri) 2).set (FB_UP_d_sec) 1).set (LN_STATUS_role 16) 0).set (LN_STATUS_role 17) 0).set (LN_STATUS_role 18) 0).set (LN_STATUS_role 19) 0).set (LN_STATUS_role 20) 0).set (LN_STATUS_role 21) 0).set (LN_STATUS_role 22) 0).set (LN_STATUS_role 23) 0).set (LN_STATUS_role 9) 1).set (LN_STATUS_role 10) 3).set (LN_PWR_tx_now 9) 0).set (LN_PWR_rx_now 9) 0).set (LN_STATUS_sym_lock 9) 1).set (LN_CTRL_out 9) 0).set (LN_PWR_tx_now 10) 0).set (LN_PWR_rx_now 10) 0).set (LN_STATUS_sym_lock 10) 1).set (LN_CTRL_out 10) 0).set (FB_PORTS_tc_up) 0).set (FB_UP_tc_pri) 1).set (FB_CTRL_revert) 0)) State.reset, 1, by decide⟩

theorem witness_PortsFailReturnAndTimeFollows_11 : ∃ (s : State) (p : Nat), p < 6 ∧ bit (s.get FB_PORTS_tc_up) p =
  false ∧ s.serving p 1 ≠ [] ∧ s.upPort = none ∧ s.get FB_UP_tc_sec = p :=
  ⟨(fun s => (((((((((((((((((((((((((((({ s with lanes := [], fb := State.reset.fb, evReq := [], str := State.reset.str, tg := State.reset.tg, plate := State.reset.plate, mt := { State.reset.mt with bucket := 7 } } : State).set (FB_PORTS_tc_up) 6).set (FB_UP_tc_pri) 2).set (FB_UP_tc_sec) 1).set (FB_DOWN_ports) 0).set (FB_PORTS_data_up) 6).set (FB_UP_d_pri) 2).set (FB_UP_d_sec) 1).set (LN_STATUS_role 16) 0).set (LN_STATUS_role 17) 0).set (LN_STATUS_role 18) 0).set (LN_STATUS_role 19) 0).set (LN_STATUS_role 20) 0).set (LN_STATUS_role 21) 0).set (LN_STATUS_role 22) 0).set (LN_STATUS_role 23) 0).set (LN_STATUS_role 9) 1).set (LN_STATUS_role 10) 3).set (LN_PWR_tx_now 9) 0).set (LN_PWR_rx_now 9) 0).set (LN_STATUS_sym_lock 9) 1).set (LN_CTRL_out 9) 0).set (LN_PWR_tx_now 10) 0).set (LN_PWR_rx_now 10) 0).set (LN_STATUS_sym_lock 10) 1).set (LN_CTRL_out 10) 0).set (FB_PORTS_tc_up) 0).set (FB_CTRL_revert) 0)) State.reset, 1, by decide⟩

theorem witness_SolamMeasuresLinksAndElectsAMaster_1 : ∃ (s : State) (p : Nat), p < 6 :=
  ⟨(fun s => ((((((({ s with lanes := [], fb := State.reset.fb, evReq := [], str := State.reset.str, tg := State.reset.tg, plate := State.reset.plate, mt := { State.reset.mt with bucket := 7 } } : State).set (FB_ADDR_valid) 1).set (FB_ADDR_addr) 291).set (FB_PORTS_tc_up) 6).set (FB_UP_tc_pri) 2).set (FB_UP_tc_sec) 1).set (FB_DOWN_ports) 2)) State.reset, 1, by decide⟩

theorem witness_SolamMeasuresLinksAndElectsAMaster_2 : ∃ (s : State) (p seq ta : Nat), p < 6 ∧ seq < 16 ∧ s.on
  FB_ADDR_valid = true :=
  ⟨(fun s => ((((((({ s with lanes := [], fb := State.reset.fb, evReq := [], str := State.reset.str, tg := State.reset.tg, plate := State.reset.plate, mt := { State.reset.mt with bucket := 7 } } : State).set (FB_ADDR_valid) 1).set (FB_ADDR_addr) 291).set (FB_PORTS_tc_up) 6).set (FB_UP_tc_pri) 2).set (FB_UP_tc_sec) 1).set (FB_DOWN_ports) 2)) State.reset, 1, 5, 777, by decide⟩

theorem witness_SolamMeasuresLinksAndElectsAMaster_3 : ∃ (s : State) (p seq ta : Nat) (rtt : Int) (l : List Nat), p <
  6 ∧ seq < 16 ∧ ta < 2 ^ 25 ∧ s.on FB_ADDR_valid = true ∧ ((s.portQ p).asked.any fun e => e.1 == seq) = true ∧ (ta :
  Int) ≤ rtt ∧ rtt ≤ 64 * 32768 ∧ l = (((rtt - ta) / 2).toNat :: (s.portQ p).delays).take 16 :=
  ⟨(fun s => (((((((({ s with lanes := [], fb := State.reset.fb, evReq := [], str := State.reset.str, tg := State.reset.tg, plate := State.reset.plate, mt := { State.reset.mt with bucket := 7 } } : State).set (FB_ADDR_valid) 1).set (FB_ADDR_addr) 291).set (FB_PORTS_tc_up) 6).set (FB_UP_tc_pri) 2).set (FB_UP_tc_sec) 1).set (FB_DOWN_ports) 2)).setPortQ 1 { PortQ.new with asked := [(7, 1), (5, 2)], delays := List.replicate 15 500 }) State.reset, 1, 5, 100, 1101, (500 :: List.replicate 15 500), by decide⟩

theorem witness_SolamMeasuresLinksAndElectsAMaster_4 : ∃ (s : State) (p seq ta : Nat) (rtt : Int), p < 6 ∧ seq < 16 ∧
  ta < 2 ^ 25 ∧ s.on FB_ADDR_valid = true ∧ (((s.portQ p).asked.any fun e => e.1 == seq) = false ∨ rtt < ta ∨ 64 *
  32768 < rtt) :=
  ⟨(fun s => (((((((({ s with lanes := [], fb := State.reset.fb, evReq := [], str := State.reset.str, tg := State.reset.tg, plate := State.reset.plate, mt := { State.reset.mt with bucket := 7 } } : State).set (FB_ADDR_valid) 1).set (FB_ADDR_addr) 291).set (FB_PORTS_tc_up) 6).set (FB_UP_tc_pri) 2).set (FB_UP_tc_sec) 1).set (FB_DOWN_ports) 2)).setPortQ 1 { PortQ.new with asked := [(7, 1), (5, 2)] }) State.reset, 1, 6, 100, 1101, by decide⟩

theorem witness_SolamMeasuresLinksAndElectsAMaster_5 : ∃ (s : State) (w ta : Nat), w < 2 ^ 64 ∧ ta < 2 ^ 32 ∧ s.on
  FB_ADDR_valid = true ∧ (w % 2 ^ 25 = 2 ^ 25 - 1 ∨ s.on (FB_LINK_valid (s.get CX_MT_STATUS_src_lane / 8)) = false) :=
  ⟨(fun s => (((((((((((({ s with lanes := [], fb := State.reset.fb, evReq := [], str := State.reset.str, tg := State.reset.tg, plate := State.reset.plate, mt := { State.reset.mt with bucket := 7 } } : State).set (FB_ADDR_valid) 1).set (FB_ADDR_addr) 291).set (FB_PORTS_tc_up) 6).set (FB_UP_tc_pri) 2).set (FB_UP_tc_sec) 1).set (FB_DOWN_ports) 2).set (FB_TIME_CTRL_qual) 3).set (FB_TIME_STATUS_state) 0).set (CX_MT_STATUS_src_lane) 9).set (FB_LINK_valid 1) 1).set (FB_LINK_delay 1) 500)) State.reset, (4 * 2 ^ 61 + 2 ^ 25 - 1), 99, by decide⟩

theorem witness_SolamMeasuresLinksAndElectsAMaster_6 : ∃ (s : State) (w ta p : Nat) (x m o : Int), w < 2 ^ 64 ∧ ta < 2
  ^ 32 ∧ s.on FB_ADDR_valid = true ∧ w % 2 ^ 25 ≠ 2 ^ 25 - 1 ∧ p = s.get CX_MT_STATUS_src_lane / 8 ∧ s.on
  (FB_LINK_valid p) = true ∧ s.get CX_MT_STATUS_state = 0 ∧ s.get FB_TIME_STATUS_state ≠ 3 ∧ s.downPorts = [] ∧ 0 <
  s.mt.nb ∧ s.mt.nb ≤ 65536 ∧ o = 32768 * s.mt.nb ∧ x = ((w / 2 ^ 40 % 2 ^ 16 * 32768 + w / 2 ^ 25 % 2 ^ 15 + w % 2 ^
  25 + s.get (FB_LINK_delay p) : Nat) : Int) - ta ∧ m = x % o :=
  ⟨(fun s => (((((((((((((({ s with lanes := [], fb := State.reset.fb, evReq := [], str := State.reset.str, tg := State.reset.tg, plate := State.reset.plate, mt := { State.reset.mt with bucket := 7 } } : State).set (FB_ADDR_valid) 1).set (FB_ADDR_addr) 291).set (FB_PORTS_tc_up) 6).set (FB_UP_tc_pri) 2).set (FB_UP_tc_sec) 1).set (FB_DOWN_ports) 2).set (FB_TIME_CTRL_qual) 3).set (FB_TIME_STATUS_state) 0).set (CX_MT_STATUS_src_lane) 9).set (FB_LINK_valid 1) 1).set (FB_LINK_delay 1) 500).set (FB_DOWN_ports) 0).set (CX_MT_STATUS_state) 0)) State.reset, (4 * 2 ^ 61 + 3 * 2 ^ 40 + 100 * 2 ^ 25 + 50), 0, 1, 98954, 98954, 94371840, by decide⟩

theorem witness_SolamMeasuresLinksAndElectsAMaster_7 : ∃ (s : State) (w ta p q : Nat), w < 2 ^ 64 ∧ ta < 2 ^ 32 ∧ s.on
  FB_ADDR_valid = true ∧ w % 2 ^ 25 ≠ 2 ^ 25 - 1 ∧ p = s.get CX_MT_STATUS_src_lane / 8 ∧ s.on (FB_LINK_valid p) = true
  ∧ s.get CX_MT_STATUS_state = 0 ∧ s.get FB_TIME_STATUS_state ≠ 3 ∧ s.downPorts = [q] :=
  ⟨(fun s => (((((((((((((({ s with lanes := [], fb := State.reset.fb, evReq := [], str := State.reset.str, tg := State.reset.tg, plate := State.reset.plate, mt := { State.reset.mt with bucket := 7 } } : State).set (FB_ADDR_valid) 1).set (FB_ADDR_addr) 291).set (FB_PORTS_tc_up) 6).set (FB_UP_tc_pri) 2).set (FB_UP_tc_sec) 1).set (FB_DOWN_ports) 2).set (FB_TIME_CTRL_qual) 3).set (FB_TIME_STATUS_state) 0).set (CX_MT_STATUS_src_lane) 9).set (FB_LINK_valid 1) 1).set (FB_LINK_delay 1) 500).set (FB_DOWN_ports) 4).set (CX_MT_STATUS_state) 0)) State.reset, (4 * 2 ^ 61 + 3 * 2 ^ 40 + 100 * 2 ^ 25 + 50), 0, 1, 2, by decide⟩

theorem witness_SolamMeasuresLinksAndElectsAMaster_8 : ∃ (s : State) (w prio master : Nat), w < 2 ^ 64 ∧ s.on
  FB_ADDR_valid = true ∧ w / 2 ^ 53 % 2 ^ 8 = prio ∧ w / 2 ^ 41 % 2 ^ 12 = master ∧ s.fb.cand = none ∧ 1 < s.get
  FB_TIME_CTRL_qual ∧ (s.get FB_TIME_STATUS_state = 0 ∨ s.get FB_TIME_STATUS_state = 2) ∧ w / 2 ^ 35 % 2 ^ 6 = 63 :=
  ⟨(fun s => (((((((((((({ s with lanes := [], fb := State.reset.fb, evReq := [], str := State.reset.str, tg := State.reset.tg, plate := State.reset.plate, mt := { State.reset.mt with bucket := 7 } } : State).set (FB_ADDR_valid) 1).set (FB_ADDR_addr) 291).set (FB_PORTS_tc_up) 6).set (FB_UP_tc_pri) 2).set (FB_UP_tc_sec) 1).set (FB_DOWN_ports) 2).set (FB_TIME_CTRL_qual) 3).set (FB_TIME_STATUS_state) 0).set (CX_MT_STATUS_src_lane) 9).set (FB_LINK_valid 1) 1).set (FB_LINK_delay 1) 500)) State.reset, (3 * 2 ^ 61 + 9 * 2 ^ 53 + 85 * 2 ^ 41 + 63 * 2 ^ 35 + 4), 9, 85, by decide⟩

theorem witness_SolamMeasuresLinksAndElectsAMaster_9 : ∃ (s : State) (w prio master k : Nat), w < 2 ^ 64 ∧ s.on
  FB_ADDR_valid = true ∧ w / 2 ^ 53 % 2 ^ 8 = prio ∧ w / 2 ^ 41 % 2 ^ 12 = master ∧ s.fb.cand = some (prio, master, k)
  ∧ s.get FB_TIME_CTRL_qual ≤ k + 1 ∧ s.get FB_TIME_STATUS_state = 0 :=
  ⟨(fun s => (((((((((((({ s with lanes := [], fb := { State.reset.fb with cand := some (9, 0x55, 2) }, evReq := [], str := State.reset.str, tg := State.reset.tg, plate := State.reset.plate, mt := { State.reset.mt with bucket := 7 } } : State).set (FB_ADDR_valid) 1).set (FB_ADDR_addr) 291).set (FB_PORTS_tc_up) 6).set (FB_UP_tc_pri) 2).set (FB_UP_tc_sec) 1).set (FB_DOWN_ports) 2).set (FB_TIME_CTRL_qual) 3).set (FB_TIME_STATUS_state) 0).set (CX_MT_STATUS_src_lane) 9).set (FB_LINK_valid 1) 1).set (FB_LINK_delay 1) 500)) State.reset, (3 * 2 ^ 61 + 9 * 2 ^ 53 + 85 * 2 ^ 41 + 62 * 2 ^ 35 + 4), 9, 85, 2, by decide⟩

theorem witness_SolamMeasuresLinksAndElectsAMaster_10 : ∃ (s : State) (w prio master k : Nat), w < 2 ^ 64 ∧ s.on
  FB_ADDR_valid = true ∧ w / 2 ^ 53 % 2 ^ 8 = prio ∧ w / 2 ^ 41 % 2 ^ 12 = master ∧ s.fb.cand = some (prio, master, k)
  ∧ s.get FB_TIME_CTRL_qual ≤ k + 1 ∧ s.get FB_TIME_STATUS_state = 1 ∧ ranksAbove (prio, master) (s.get
  FB_TIME_STATUS_prio, s.get FB_TIME_STATUS_master) = true :=
  ⟨(fun s => (((((((((((((((({ s with lanes := [], fb := { State.reset.fb with cand := some (9, 0x55, 2) }, evReq := [], str := State.reset.str, tg := State.reset.tg, plate := State.reset.plate, mt := { State.reset.mt with bucket := 7 } } : State).set (FB_ADDR_valid) 1).set (FB_ADDR_addr) 291).set (FB_PORTS_tc_up) 6).set (FB_UP_tc_pri) 2).set (FB_UP_tc_sec) 1).set (FB_DOWN_ports) 2).set (FB_TIME_CTRL_qual) 3).set (FB_TIME_STATUS_state) 0).set (CX_MT_STATUS_src_lane) 9).set (FB_LINK_valid 1) 1).set (FB_LINK_delay 1) 500).set (FB_TIME_STATUS_state) 1).set (FB_TIME_STATUS_prio) 9).set (FB_TIME_STATUS_master) 96).set (CX_MT_STATUS_state) 1)) State.reset, (3 * 2 ^ 61 + 9 * 2 ^ 53 + 85 * 2 ^ 41 + 62 * 2 ^ 35 + 4), 9, 85, 2, by decide⟩

theorem witness_SolamMeasuresLinksAndElectsAMaster_11 : ∃ (s : State), s.get FB_TIME_STATUS_state = 1 :=
  ⟨(fun s => (((((((((((((({ s with lanes := [], fb := State.reset.fb, evReq := [], str := State.reset.str, tg := State.reset.tg, plate := State.reset.plate, mt := { State.reset.mt with bucket := 7 } } : State).set (FB_ADDR_valid) 1).set (FB_ADDR_addr) 291).set (FB_PORTS_tc_up) 6).set (FB_UP_tc_pri) 2).set (FB_UP_tc_sec) 1).set (FB_DOWN_ports) 2).set (FB_TIME_CTRL_qual) 3).set (FB_TIME_STATUS_state) 0).set (CX_MT_STATUS_src_lane) 9).set (FB_LINK_valid 1) 1).set (FB_LINK_delay 1) 500).set (FB_TIME_STATUS_state) 1).set (CX_MT_STATUS_state) 1)) State.reset, by decide⟩

theorem witness_SolamMeasuresLinksAndElectsAMaster_12 : ∃ (s : State), s.get FB_TIME_STATUS_state ≠ 1 :=
  ⟨(fun s => (((((((((((({ s with lanes := [], fb := State.reset.fb, evReq := [], str := State.reset.str, tg := State.reset.tg, plate := State.reset.plate, mt := { State.reset.mt with bucket := 7 } } : State).set (FB_ADDR_valid) 1).set (FB_ADDR_addr) 291).set (FB_PORTS_tc_up) 6).set (FB_UP_tc_pri) 2).set (FB_UP_tc_sec) 1).set (FB_DOWN_ports) 2).set (FB_TIME_CTRL_qual) 3).set (FB_TIME_STATUS_state) 0).set (CX_MT_STATUS_src_lane) 9).set (FB_LINK_valid 1) 1).set (FB_LINK_delay 1) 500)) State.reset, by decide⟩

theorem witness_VotesFaultsAndMergeBuffers_1 : ∃ (s : State) (w a b c : Nat) (u : Nat), w < 64 ∧ a < 2 ^ 69 ∧ b < 2 ^
  69 ∧ c < 2 ^ 69 ∧ u < 4 ∧ copyGood a = true ∧ copyGood b = true ∧ copyGood c = true ∧ copySame a b = true ∧ copySame
  b c = true :=
  ⟨(fun s => ({ s with prot := State.reset.prot, plate := State.reset.plate, evReq := [], activity := none } : State)) State.reset, 5, (2 ^ 64 + 7 + 3 * 2 ^ 65), (2 ^ 64 + 7 + 3 * 2 ^ 65), (2 ^ 64 + 7 + 3 * 2 ^ 65), 1, by decide +kernel⟩

theorem witness_VotesFaultsAndMergeBuffers_2 : ∃ (s : State) (w a b c : Nat) (u : Nat), w < 64 ∧ a < 2 ^ 69 ∧ b < 2 ^
  69 ∧ c < 2 ^ 69 ∧ u < 4 ∧ copyGood a = true ∧ copyGood b = true ∧ copyGood c = true ∧ copySame a b = true ∧ copySame
  b c = true :=
  ⟨(fun s => ({ s with prot := State.reset.prot, plate := State.reset.plate, evReq := [], activity := none } : State)) State.reset, 5, (2 ^ 64 + 7 + 3 * 2 ^ 65), (2 ^ 64 + 7 + 3 * 2 ^ 65), (2 ^ 64 + 7 + 3 * 2 ^ 65), 1, by decide +kernel⟩

theorem witness_VotesFaultsAndMergeBuffers_3 : ∃ (s : State) (w a b c : Nat), w < 64 ∧ a < 2 ^ 69 ∧ b < 2 ^ 69 ∧ c < 2
  ^ 69 ∧ copyGood a = false ∧ copyGood b = true ∧ copyGood c = true ∧ copySame b c = true :=
  ⟨(fun s => ({ s with prot := State.reset.prot, plate := State.reset.plate, evReq := [], activity := none } : State)) State.reset, 5, (1 + 3 * 2 ^ 65), (2 ^ 64 + 7 + 3 * 2 ^ 65), (2 ^ 64 + 7 + 3 * 2 ^ 65), by decide +kernel⟩

theorem witness_VotesFaultsAndMergeBuffers_4 : ∃ (s : State) (w a b c : Nat), w < 64 ∧ a < 2 ^ 69 ∧ b < 2 ^ 69 ∧ c < 2
  ^ 69 ∧ copyGood a = true ∧ copyGood b = false ∧ copyGood c = true ∧ copySame a c = true :=
  ⟨(fun s => ({ s with prot := State.reset.prot, plate := State.reset.plate, evReq := [], activity := none } : State)) State.reset, 5, (2 ^ 64 + 7 + 3 * 2 ^ 65), (1 + 3 * 2 ^ 65), (2 ^ 64 + 7 + 3 * 2 ^ 65), by decide +kernel⟩

theorem witness_VotesFaultsAndMergeBuffers_5 : ∃ (s : State) (w a b c : Nat), w < 64 ∧ a < 2 ^ 69 ∧ b < 2 ^ 69 ∧ c < 2
  ^ 69 ∧ copyGood a = true ∧ copyGood b = true ∧ copyGood c = false ∧ copySame a b = true :=
  ⟨(fun s => ({ s with prot := State.reset.prot, plate := State.reset.plate, evReq := [], activity := none } : State)) State.reset, 5, (2 ^ 64 + 7 + 3 * 2 ^ 65), (2 ^ 64 + 7 + 3 * 2 ^ 65), (1 + 3 * 2 ^ 65), by decide +kernel⟩

theorem witness_VotesFaultsAndMergeBuffers_6 : ∃ (s : State) (w a b c : Nat), w < 64 ∧ a < 2 ^ 69 ∧ b < 2 ^ 69 ∧ c < 2
  ^ 69 ∧ copyGood a = true ∧ copyGood b = true ∧ copyGood c = true ∧ (copySame a b = false ∨ copySame b c = false) ∧ w
  < 18 :=
  ⟨(fun s => ({ s with prot := State.reset.prot, plate := State.reset.plate, evReq := [], activity := none } : State)) State.reset, 5, (2 ^ 64 + 7 + 3 * 2 ^ 65), (3 + 3 * 2 ^ 65), (2 ^ 64 + 7 + 3 * 2 ^ 65), by decide +kernel⟩

theorem witness_VotesFaultsAndMergeBuffers_7 : ∃ (s : State) (w a b c : Nat), w < 64 ∧ a < 2 ^ 69 ∧ b < 2 ^ 69 ∧ c < 2
  ^ 69 ∧ copyGood a = false ∧ copyGood b = false ∧ copyGood c = true :=
  ⟨(fun s => ({ s with prot := State.reset.prot, plate := State.reset.plate, evReq := [], activity := none } : State)) State.reset, 5, (1 + 3 * 2 ^ 65), (1 + 3 * 2 ^ 65), (2 ^ 64 + 7 + 3 * 2 ^ 65), by decide +kernel⟩

theorem witness_VotesFaultsAndMergeBuffers_8 : ∃ (s : State) (w a b c : Nat), w < 64 ∧ a < 2 ^ 69 ∧ b < 2 ^ 69 ∧ c < 2
  ^ 69 ∧ copyGood a = true ∧ copyGood b = false ∧ copyGood c = false :=
  ⟨(fun s => ({ s with prot := State.reset.prot, plate := State.reset.plate, evReq := [], activity := none } : State)) State.reset, 5, (2 ^ 64 + 7 + 3 * 2 ^ 65), (1 + 3 * 2 ^ 65), (1 + 3 * 2 ^ 65), by decide +kernel⟩

theorem witness_VotesFaultsAndMergeBuffers_9 : ∃ (s : State) (w a b c : Nat), w < 64 ∧ a < 2 ^ 69 ∧ b < 2 ^ 69 ∧ c < 2
  ^ 69 ∧ copyGood a = false ∧ copyGood b = false ∧ copyGood c = false :=
  ⟨(fun s => ({ s with prot := State.reset.prot, plate := State.reset.plate, evReq := [], activity := none } : State)) State.reset, 5, (1 + 3 * 2 ^ 65), (1 + 3 * 2 ^ 65), (1 + 3 * 2 ^ 65), by decide +kernel⟩

theorem witness_VotesFaultsAndMergeBuffers_10 : ∃ (s : State) (w a b c : Nat) (u : Nat), w < 64 ∧ a < 2 ^ 69 ∧ b < 2 ^
  69 ∧ c < 2 ^ 69 ∧ u < 4 ∧ 24 ≤ w ∧ copyGood a = false ∧ copyGood b = false ∧ copyGood c = true :=
  ⟨(fun s => ({ s with prot := State.reset.prot, plate := State.reset.plate, evReq := [], activity := none } : State)) State.reset, 30, (1 + 3 * 2 ^ 65), (1 + 3 * 2 ^ 65), (2 ^ 64 + 7 + 3 * 2 ^ 65), 1, by decide +kernel⟩

theorem witness_VotesFaultsAndMergeBuffers_11 : ∃ (s : State) (w a b c : Nat) (u : Nat), w < 64 ∧ a < 2 ^ 69 ∧ b < 2 ^
  69 ∧ c < 2 ^ 69 ∧ u < 4 ∧ w < 24 ∧ copyGood a = false ∧ copyGood b = false ∧ copyGood c = true :=
  ⟨(fun s => ({ s with prot := State.reset.prot, plate := State.reset.plate, evReq := [], activity := none } : State)) State.reset, 3, (1 + 3 * 2 ^ 65), (1 + 3 * 2 ^ 65), (2 ^ 64 + 7 + 3 * 2 ^ 65), 1, by decide +kernel⟩

theorem witness_VotesFaultsAndMergeBuffers_12 : ∃ (s : State) (cls m i : Nat), cls < 2 ∧ m < 16 ∧ i < 2 ^ 24 :=
  ⟨(fun s => ({ s with prot := { State.reset.prot with track := [⟨0, 3, 7, 2⟩, ⟨1, 3, 7, 2⟩] }, plate := State.reset.plate, evReq := [], activity := none } : State)) State.reset, 0, 3, 7, by decide⟩

theorem witness_VotesFaultsAndMergeBuffers_13 : ∃ (s : State) (cls m i : Nat), 2 ≤ cls ∧ cls < 5 ∧ m < 16 ∧ i < 2 ^ 24
  :=
  ⟨(fun s => ({ s with prot := { State.reset.prot with counts := [(515, 3), (1031, 2)] }, plate := State.reset.plate, evReq := [], activity := none } : State)) State.reset, 2, 3, 7, by decide⟩

theorem witness_VotesFaultsAndMergeBuffers_14 : ∃ (s : State) (k : Nat) (r : EccResult), k < 3 ∧ s.prot.bufPlate =
  none ∧ s.prot.bufRam = none ∧ s.prot.bufTest = none :=
  ⟨(fun s => ({ s with prot := State.reset.prot, plate := State.reset.plate, evReq := [], activity := none } : State)) State.reset, 1, .clean, by decide⟩

theorem witness_VotesFaultsAndMergeBuffers_15 : ∃ (s : State) (b : MBuf), s.prot.bufPlate = some b ∧ s.mark memPlate
  b.word = 0 :=
  ⟨(fun s => ({ s with prot := { State.reset.prot with bufPlate := some ⟨77, 15, 0xDEADBEEF⟩ }, plate := State.reset.plate, evReq := [], activity := none } : State)) State.reset, ⟨77, 15, 0xDEADBEEF⟩, by decide⟩

theorem witness_VotesFaultsAndMergeBuffers_16 : ∃ (s : State) (b : MBuf) (r : EccResult), s.prot.bufPlate = some b ∧
  (s.mark memPlate b.word = 1 ∨ (s.mark memPlate b.word = 0 ∧ r = .uncorrectable)) :=
  ⟨(fun s => ({ s with prot := { State.reset.prot with bufPlate := some ⟨77, 15, 0xDEADBEEF⟩ }, plate := State.reset.plate, evReq := [], activity := none } : State)) State.reset, ⟨77, 15, 0xDEADBEEF⟩, .uncorrectable, by decide⟩

theorem witness_VotesFaultsAndMergeBuffers_17 : ∃ (s : State) (b : MBuf), s.prot.bufRam = some b ∧ s.mark memIram
  b.word = 0 :=
  ⟨(fun s => ({ s with prot := { State.reset.prot with bufRam := some ⟨77, 15, 0xDEADBEEF⟩ }, plate := State.reset.plate, evReq := [], activity := none } : State)) State.reset, ⟨77, 15, 0xDEADBEEF⟩, by decide⟩

theorem witness_VotesFaultsAndMergeBuffers_18 : ∃ (s : State) (b : MBuf) (k : Nat), s.prot.bufTest = some b ∧ s.mark
  (b.word / 2 ^ 24) (b.word % 2 ^ 24) = 0 ∧ k = entryKey (8 * (b.word / 2 ^ 24 - 1) + b.word % 2 ^ 24 / 2 ^ 20)
  (b.word % 2 ^ 20) :=
  ⟨(fun s => ({ s with prot := { State.reset.prot with bufTest := some ⟨2 ^ 24 + 77, 15, 0xDEADBEEF⟩ }, plate := State.reset.plate, evReq := [], activity := none } : State)) State.reset, ⟨2 ^ 24 + 77, 15, 0xDEADBEEF⟩, (entryKey 0 77), by decide⟩

theorem witness_BurnishReadsRepairsAndReports_1 : ∃ (s : State) (m : Nat) (r : EccResult) (o : Option (Nat × Nat)), 0
  < m ∧ m < 11 ∧ (s.on CX_BN_CTRL_patrol_en = false ∨ bit s.prot.started m = false) :=
  ⟨(fun s => (({ s with prot := State.reset.prot, plate := State.reset.plate, evReq := [], activity := none } : State).set (CX_BN_CTRL_patrol_en) 0)) State.reset, 8, .clean, none, by decide⟩

theorem witness_BurnishReadsRepairsAndReports_2 : ∃ (s : State) (m i : Nat) (o : Option (Nat × Nat)), 0 < m ∧ m < 11 ∧
  s.on CX_BN_CTRL_patrol_en = true ∧ bit s.prot.started m = true ∧ s.bnNext m (memSize m) bnFuel (Sparse.get 0 m
  s.prot.pos) = some i ∧ s.mark m i = 0 :=
  ⟨(fun s => ((((({ s with prot := { State.reset.prot with started := 0xFFF, pos := [(8, 77)] }, plate := State.reset.plate, evReq := [], activity := none } : State).set (CX_BN_CTRL_patrol_en) 1).set (CX_FLT_CLASS_n 0) 9).set (CX_FLT_CLASS_n 3) 9).set (CX_FLT_CLASS_n 2) 9)) State.reset, 8, 77, none, by decide⟩

theorem witness_BurnishReadsRepairsAndReports_3 : ∃ (s : State) (m i : Nat) (o : Option (Nat × Nat)), 0 < m ∧ m < 11 ∧
  s.on CX_BN_CTRL_patrol_en = true ∧ bit s.prot.started m = true ∧ s.bnNext m (memSize m) bnFuel (Sparse.get 0 m
  s.prot.pos) = some i ∧ s.mark m i = 0 ∧ 3 ≤ m ∧ s.prot.track = [] ∧ 1 < s.get (CX_FLT_CLASS_n 0) :=
  ⟨(fun s => ((((({ s with prot := { State.reset.prot with started := 0xFFF, pos := [(8, 77)] }, plate := State.reset.plate, evReq := [], activity := none } : State).set (CX_BN_CTRL_patrol_en) 1).set (CX_FLT_CLASS_n 0) 9).set (CX_FLT_CLASS_n 3) 9).set (CX_FLT_CLASS_n 2) 9)) State.reset, 8, 77, none, by decide⟩

theorem witness_BurnishReadsRepairsAndReports_4 : ∃ (s : State) (i : Nat) (r : EccResult) (o : Option (Nat × Nat)),
  s.on CX_BN_CTRL_patrol_en = true ∧ bit s.prot.started 8 = true ∧ s.bnNext 8 (memSize 8) bnFuel (Sparse.get 0 8
  s.prot.pos) = some i ∧ (s.mark 8 i = 1 ∨ (s.mark 8 i = 0 ∧ r = .uncorrectable)) :=
  ⟨(fun s => ((((({ s with prot := { State.reset.prot with started := 0xFFF, pos := [(8, 77)] }, plate := State.reset.plate, evReq := [], activity := none } : State).set (CX_BN_CTRL_patrol_en) 1).set (CX_FLT_CLASS_n 0) 9).set (CX_FLT_CLASS_n 3) 9).set (CX_FLT_CLASS_n 2) 9)) State.reset, 77, .uncorrectable, none, by decide⟩

theorem witness_BurnishReadsRepairsAndReports_5 : ∃ (s : State) (m i : Nat) (r : EccResult) (o : Option (Nat × Nat)),
  0 < m ∧ m < 11 ∧ s.on CX_BN_CTRL_patrol_en = true ∧ bit s.prot.started m = true ∧ s.bnNext m (memSize m) bnFuel
  (Sparse.get 0 m s.prot.pos) = some i ∧ s.mark m i = 2 :=
  ⟨(fun s => ((((({ s with prot := { State.reset.prot with started := 0xFFF, pos := [(8, 77)], marks := [(8 * 2 ^ 24 + 77, 2)] }, plate := State.reset.plate, evReq := [], activity := none } : State).set (CX_BN_CTRL_patrol_en) 1).set (CX_FLT_CLASS_n 0) 9).set (CX_FLT_CLASS_n 3) 9).set (CX_FLT_CLASS_n 2) 9)) State.reset, 8, 77, .clean, none, by decide⟩

theorem witness_BurnishReadsRepairsAndReports_6 : ∃ (s : State) (m : Nat), m < 16 ∧ (s.get CX_BN_PASS_CTRL_state = 1 ∨
  s.get CX_BN_PASS_CTRL_state = 2 ∨ memSize m = 0) :=
  ⟨(fun s => (({ s with prot := State.reset.prot, plate := State.reset.plate, evReq := [], activity := none } : State).set (CX_BN_PASS_CTRL_state) 2)) State.reset, 3, by decide⟩

theorem witness_BurnishReadsRepairsAndReports_7 : ∃ (s : State) (m lo n : Nat), 0 < m ∧ m < 11 ∧ (s.get
  CX_BN_PASS_CTRL_state = 0 ∨ s.get CX_BN_PASS_CTRL_state = 3) ∧ s.get CX_BN_PASS_START_index = lo ∧ s.get
  CX_BN_PASS_LEN_count = n :=
  ⟨(fun s => (((({ s with prot := State.reset.prot, plate := State.reset.plate, evReq := [], activity := none } : State).set (CX_BN_PASS_CTRL_state) 3).set (CX_BN_PASS_START_index) 1000).set (CX_BN_PASS_LEN_count) 0)) State.reset, 3, 1000, 0, by decide⟩

theorem witness_BurnishReadsRepairsAndReports_8 : ∃ (s : State) (p : BnPass), s.prot.pass = some p ∧ p.next ≤ p.stop
  :=
  ⟨(fun s => ({ s with prot := { State.reset.prot with pass := some ⟨8, 100, 200, 3, 1, 1, 0⟩ }, plate := State.reset.plate, evReq := [], activity := none } : State)) State.reset, ⟨8, 100, 200, 3, 1, 1, 0⟩, by decide⟩

theorem witness_BurnishReadsRepairsAndReports_9 : ∃ (s : State), s.prot.pass = none :=
  ⟨(fun s => ({ s with prot := State.reset.prot, plate := State.reset.plate, evReq := [], activity := none } : State)) State.reset, by decide⟩

theorem witness_BurnishReadsRepairsAndReports_10 : ∃ (s : State) (p : BnPass) (i : Nat) (r : EccResult) (o : Option
  (Nat × Nat)), s.prot.pass = some p ∧ s.get CX_BN_PASS_CTRL_state = 1 ∧ s.bnNext p.mem p.stop bnFuel p.next = some i
  ∧ s.mark p.mem i = 0 ∧ r = .clean :=
  ⟨(fun s => (({ s with prot := { State.reset.prot with pass := some ⟨8, 100, 200, 3, 1, 1, 0⟩ }, plate := State.reset.plate, evReq := [], activity := none } : State).set (CX_BN_PASS_CTRL_state) 1)) State.reset, ⟨8, 100, 200, 3, 1, 1, 0⟩, 100, .clean, none, by decide⟩

theorem witness_BurnishReadsRepairsAndReports_11 : ∃ (s : State) (p : BnPass) (i : Nat) (o : Option (Nat × Nat)),
  s.prot.pass = some p ∧ p.mem = 8 ∧ s.get CX_BN_PASS_CTRL_state = 1 ∧ s.bnNext p.mem p.stop bnFuel p.next = some i ∧
  s.mark p.mem i = 0 :=
  ⟨(fun s => (({ s with prot := { State.reset.prot with pass := some ⟨8, 100, 200, 3, 1, 1, 0⟩ }, plate := State.reset.plate, evReq := [], activity := none } : State).set (CX_BN_PASS_CTRL_state) 1)) State.reset, ⟨8, 100, 200, 3, 1, 1, 0⟩, 100, none, by decide⟩

theorem witness_BurnishReadsRepairsAndReports_12 : ∃ (s : State) (r : EccResult) (o : Option (Nat × Nat)),
  (s.prot.pass = none ∨ s.get CX_BN_PASS_CTRL_state ≠ 1) :=
  ⟨(fun s => (({ s with prot := State.reset.prot, plate := State.reset.plate, evReq := [], activity := none } : State).set (CX_BN_PASS_CTRL_state) 2)) State.reset, .clean, none, by decide⟩

theorem witness_BurnishReadsRepairsAndReports_13 : ∃ (s : State) (p : BnPass) (n : Nat), n < 2 ^ 32 ∧ s.prot.pass =
  some p ∧ s.bnNext p.mem p.stop bnFuel p.next = none ∧ p.read < 2 ^ 24 ∧ p.corr < 2 ^ 24 :=
  ⟨(fun s => ({ s with prot := { State.reset.prot with pass := some ⟨8, 200, 200, 30, 1, 70000, 0⟩ }, plate := State.reset.plate, evReq := [], activity := none } : State)) State.reset, ⟨8, 200, 200, 30, 1, 70000, 0⟩, 12345, by decide⟩

theorem witness_BurnishReadsRepairsAndReports_14 : ∃ (s : State) (n : Nat), s.prot.pass = none :=
  ⟨(fun s => ({ s with prot := State.reset.prot, plate := State.reset.plate, evReq := [], activity := none } : State)) State.reset, 5, by decide⟩

theorem witness_BurnishReadsRepairsAndReports_15 : ∃ (s : State) (p : BnPass), s.activity = some 3 ∧ s.prot.pass =
  some p ∧ p.mem ≤ 2 ∧ s.get CX_BN_PASS_CTRL_state = 1 :=
  ⟨(fun s => (({ s with prot := { State.reset.prot with pass := some ⟨1, 100, 200, 3, 1, 1, 0⟩ }, plate := State.reset.plate, evReq := [], activity := some 3 } : State).set (CX_BN_PASS_CTRL_state) 1)) State.reset, ⟨1, 100, 200, 3, 1, 1, 0⟩, by decide⟩

theorem witness_BurnishReadsRepairsAndReports_16 : ∃ (s : State), s.activity ≠ some 3 :=
  ⟨(fun s => ({ s with prot := State.reset.prot, plate := State.reset.plate, evReq := [], activity := none } : State)) State.reset, by decide⟩

theorem witness_FeedsAndFaultsStartAndStopUnits_1 : ∃ (s : State) (u : Nat), u < 2 ∧ s.on (PU_STATUS_feed_ok u) = true
  :=
  ⟨(fun s => (((((((((((((((({ s with pwr := State.reset.pwr, shut := [], evReq := [], activity := none } : State).set (PU_STATUS_role 0) 0).set (PU_STATUS_role 1) 0).set (PU_STATUS_fault 0) 0).set (PU_STATUS_fault 1) 0).set (PU_CTRL_out 0) 0).set (PU_CTRL_out 1) 0).set (PU_STATUS_feed_ok 0) 1).set (PU_STATUS_feed_ok 1) 1).set (SV_ARB_STATUS_phase) 0).set (PU_STATUS_arb_lost 0) 0).set (PU_STATUS_arb_lost 1) 0).set (SV_ARB_STATUS_arb_fault) 0).set (SV_ARB_STATUS_copy_lost) 0).set (SV_PENDING_ENABLE_pu_a) 0).set (SV_PENDING_ENABLE_pu_b) 0)) State.reset, 1, by decide⟩

theorem witness_FeedsAndFaultsStartAndStopUnits_2 : ∃ (s : State) (u : Nat), u < 2 ∧ s.on (PU_STATUS_feed_ok u) =
  false ∧ s.converting = false ∧ s.shut.contains .conversion = false ∧ s.get (PU_STATUS_role u) = 0 ∧ s.on
  (PU_STATUS_fault u) = false ∧ s.on (PU_CTRL_out u) = false ∧ (u = 0 ∨ s.get (PU_STATUS_role 0) ≠ 0 ∨ s.unitReady 0 =
  false) :=
  ⟨(fun s => (((((((((((((((({ s with pwr := State.reset.pwr, shut := [], evReq := [], activity := none } : State).set (PU_STATUS_role 0) 0).set (PU_STATUS_role 1) 0).set (PU_STATUS_fault 0) 0).set (PU_STATUS_fault 1) 0).set (PU_CTRL_out 0) 0).set (PU_CTRL_out 1) 0).set (PU_STATUS_feed_ok 0) 0).set (PU_STATUS_feed_ok 1) 0).set (SV_ARB_STATUS_phase) 0).set (PU_STATUS_arb_lost 0) 0).set (PU_STATUS_arb_lost 1) 0).set (SV_ARB_STATUS_arb_fault) 0).set (SV_ARB_STATUS_copy_lost) 0).set (SV_PENDING_ENABLE_pu_a) 0).set (SV_PENDING_ENABLE_pu_b) 0)) State.reset, 0, by decide⟩

theorem witness_FeedsAndFaultsStartAndStopUnits_3 : ∃ (s : State) (u : Nat), u < 2 ∧ s.on (PU_STATUS_feed_ok u) =
  false ∧ s.converting = true ∧ s.get (PU_STATUS_role u) = 0 ∧ s.on (PU_STATUS_fault u) = false ∧ s.on (PU_CTRL_out u)
  = false ∧ s.shut.contains (.unit u) = false :=
  ⟨(fun s => (((((((((((((((({ s with pwr := State.reset.pwr, shut := [], evReq := [], activity := none } : State).set (PU_STATUS_role 0) 2).set (PU_STATUS_role 1) 0).set (PU_STATUS_fault 0) 0).set (PU_STATUS_fault 1) 0).set (PU_CTRL_out 0) 0).set (PU_CTRL_out 1) 0).set (PU_STATUS_feed_ok 0) 1).set (PU_STATUS_feed_ok 1) 0).set (SV_ARB_STATUS_phase) 0).set (PU_STATUS_arb_lost 0) 0).set (PU_STATUS_arb_lost 1) 0).set (SV_ARB_STATUS_arb_fault) 0).set (SV_ARB_STATUS_copy_lost) 0).set (SV_PENDING_ENABLE_pu_a) 0).set (SV_PENDING_ENABLE_pu_b) 0)) State.reset, 1, by decide⟩

theorem witness_FeedsAndFaultsStartAndStopUnits_4 : ∃ (s : State) (u : Nat), u < 2 ∧ s.on (PU_STATUS_feed_ok u) =
  false :=
  ⟨(fun s => (((((((((((((((({ s with pwr := State.reset.pwr, shut := [], evReq := [], activity := none } : State).set (PU_STATUS_role 0) 2).set (PU_STATUS_role 1) 0).set (PU_STATUS_fault 0) 0).set (PU_STATUS_fault 1) 0).set (PU_CTRL_out 0) 0).set (PU_CTRL_out 1) 0).set (PU_STATUS_feed_ok 0) 1).set (PU_STATUS_feed_ok 1) 0).set (SV_ARB_STATUS_phase) 0).set (PU_STATUS_arb_lost 0) 0).set (PU_STATUS_arb_lost 1) 0).set (SV_ARB_STATUS_arb_fault) 0).set (SV_ARB_STATUS_copy_lost) 0).set (SV_PENDING_ENABLE_pu_a) 0).set (SV_PENDING_ENABLE_pu_b) 0)) State.reset, 1, by decide⟩

theorem witness_FeedsAndFaultsStartAndStopUnits_5 : ∃ (s : State) (u : Nat), u < 2 ∧ s.on (PU_STATUS_feed_ok u) = true
  ∧ s.get (PU_STATUS_role u) = 1 ∧ s.shut.contains (.unit u) = false ∧ (s.unit u).soft = none :=
  ⟨(fun s => (((((((((((((((({ s with pwr := State.reset.pwr, shut := [], evReq := [], activity := none } : State).set (PU_STATUS_role 0) 2).set (PU_STATUS_role 1) 1).set (PU_STATUS_fault 0) 0).set (PU_STATUS_fault 1) 0).set (PU_CTRL_out 0) 0).set (PU_CTRL_out 1) 0).set (PU_STATUS_feed_ok 0) 1).set (PU_STATUS_feed_ok 1) 1).set (SV_ARB_STATUS_phase) 0).set (PU_STATUS_arb_lost 0) 0).set (PU_STATUS_arb_lost 1) 0).set (SV_ARB_STATUS_arb_fault) 0).set (SV_ARB_STATUS_copy_lost) 0).set (SV_PENDING_ENABLE_pu_a) 0).set (SV_PENDING_ENABLE_pu_b) 0)) State.reset, 1, by decide⟩

theorem witness_FeedsAndFaultsStartAndStopUnits_6 : ∃ (s : State) (u : Nat), u < 2 ∧ s.on (PU_STATUS_feed_ok u) = true
  ∧ s.get (PU_STATUS_role u) = 2 ∧ s.get (PU_STATUS_role (other u)) = 1 ∧ s.unitReady (other u) = true ∧
  s.shut.contains (.unit u) = false :=
  ⟨(fun s => (((((((((((((((({ s with pwr := State.reset.pwr, shut := [], evReq := [], activity := none } : State).set (PU_STATUS_role 0) 2).set (PU_STATUS_role 1) 1).set (PU_STATUS_fault 0) 0).set (PU_STATUS_fault 1) 0).set (PU_CTRL_out 0) 0).set (PU_CTRL_out 1) 0).set (PU_STATUS_feed_ok 0) 1).set (PU_STATUS_feed_ok 1) 1).set (SV_ARB_STATUS_phase) 0).set (PU_STATUS_arb_lost 0) 0).set (PU_STATUS_arb_lost 1) 0).set (SV_ARB_STATUS_arb_fault) 0).set (SV_ARB_STATUS_copy_lost) 0).set (SV_PENDING_ENABLE_pu_a) 0).set (SV_PENDING_ENABLE_pu_b) 0)) State.reset, 0, by decide⟩

theorem witness_FeedsAndFaultsStartAndStopUnits_7 : ∃ (s : State) (u : Nat), u < 2 ∧ s.on (PU_STATUS_fault u) = true
  :=
  ⟨(fun s => (((((((((((((((({ s with pwr := State.reset.pwr, shut := [], evReq := [], activity := none } : State).set (PU_STATUS_role 0) 2).set (PU_STATUS_role 1) 1).set (PU_STATUS_fault 0) 1).set (PU_STATUS_fault 1) 0).set (PU_CTRL_out 0) 0).set (PU_CTRL_out 1) 0).set (PU_STATUS_feed_ok 0) 1).set (PU_STATUS_feed_ok 1) 1).set (SV_ARB_STATUS_phase) 0).set (PU_STATUS_arb_lost 0) 0).set (PU_STATUS_arb_lost 1) 0).set (SV_ARB_STATUS_arb_fault) 0).set (SV_ARB_STATUS_copy_lost) 0).set (SV_PENDING_ENABLE_pu_a) 0).set (SV_PENDING_ENABLE_pu_b) 0)) State.reset, 0, by decide⟩

theorem witness_FeedsAndFaultsStartAndStopUnits_8 : ∃ (s : State) (u : Nat), u < 2 ∧ s.on (PU_STATUS_fault u) = false
  ∧ s.get (PU_STATUS_role u) = 2 ∧ s.get (PU_STATUS_role (other u)) = 1 ∧ s.unitReady (other u) = true ∧
  s.shut.contains (.unit u) = false :=
  ⟨(fun s => (((((((((((((((({ s with pwr := State.reset.pwr, shut := [], evReq := [], activity := none } : State).set (PU_STATUS_role 0) 2).set (PU_STATUS_role 1) 1).set (PU_STATUS_fault 0) 0).set (PU_STATUS_fault 1) 0).set (PU_CTRL_out 0) 0).set (PU_CTRL_out 1) 0).set (PU_STATUS_feed_ok 0) 1).set (PU_STATUS_feed_ok 1) 1).set (SV_ARB_STATUS_phase) 0).set (PU_STATUS_arb_lost 0) 0).set (PU_STATUS_arb_lost 1) 0).set (SV_ARB_STATUS_arb_fault) 0).set (SV_ARB_STATUS_copy_lost) 0).set (SV_PENDING_ENABLE_pu_a) 0).set (SV_PENDING_ENABLE_pu_b) 0)) State.reset, 0, by decide⟩

theorem witness_FeedsAndFaultsStartAndStopUnits_9 : ∃ (s : State) (u : Nat), u < 2 ∧ s.on (PU_STATUS_fault u) = false
  ∧ s.get (PU_STATUS_role u) = 2 ∧ s.get (PU_STATUS_role (other u)) = 0 ∧ (s.unit (other u)).soft = none ∧
  s.shut.contains (.unit u) = false ∧ s.shut.contains .conversion = false :=
  ⟨(fun s => (((((((((((((((({ s with pwr := State.reset.pwr, shut := [], evReq := [], activity := none } : State).set (PU_STATUS_role 0) 2).set (PU_STATUS_role 1) 0).set (PU_STATUS_fault 0) 0).set (PU_STATUS_fault 1) 0).set (PU_CTRL_out 0) 0).set (PU_CTRL_out 1) 0).set (PU_STATUS_feed_ok 0) 1).set (PU_STATUS_feed_ok 1) 1).set (SV_ARB_STATUS_phase) 0).set (PU_STATUS_arb_lost 0) 0).set (PU_STATUS_arb_lost 1) 0).set (SV_ARB_STATUS_arb_fault) 0).set (SV_ARB_STATUS_copy_lost) 0).set (SV_PENDING_ENABLE_pu_a) 0).set (SV_PENDING_ENABLE_pu_b) 0)) State.reset, 0, by decide⟩

theorem witness_FeedsAndFaultsStartAndStopUnits_10 : ∃ (s : State) (u : Nat), u < 2 :=
  ⟨(fun s => (((((((((((((((({ s with pwr := State.reset.pwr, shut := [], evReq := [], activity := none } : State).set (PU_STATUS_role 0) 0).set (PU_STATUS_role 1) 0).set (PU_STATUS_fault 0) 0).set (PU_STATUS_fault 1) 0).set (PU_CTRL_out 0) 0).set (PU_CTRL_out 1) 0).set (PU_STATUS_feed_ok 0) 1).set (PU_STATUS_feed_ok 1) 1).set (SV_ARB_STATUS_phase) 0).set (PU_STATUS_arb_lost 0) 0).set (PU_STATUS_arb_lost 1) 0).set (SV_ARB_STATUS_arb_fault) 0).set (SV_ARB_STATUS_copy_lost) 0).set (SV_PENDING_ENABLE_pu_a) 0).set (SV_PENDING_ENABLE_pu_b) 0)) State.reset, 1, by decide⟩

theorem witness_FeedsAndFaultsStartAndStopUnits_11 : ∃ (s : State) (u : Nat), u < 2 ∧ s.get (PU_STATUS_role u) = 1 ∧
  s.shut.contains (.unit u) = false ∧ s.on (pendUnit u) = false :=
  ⟨(fun s => (((((((((((((((({ s with pwr := State.reset.pwr, shut := [], evReq := [], activity := none } : State).set (PU_STATUS_role 0) 2).set (PU_STATUS_role 1) 1).set (PU_STATUS_fault 0) 0).set (PU_STATUS_fault 1) 0).set (PU_CTRL_out 0) 0).set (PU_CTRL_out 1) 0).set (PU_STATUS_feed_ok 0) 1).set (PU_STATUS_feed_ok 1) 1).set (SV_ARB_STATUS_phase) 0).set (PU_STATUS_arb_lost 0) 0).set (PU_STATUS_arb_lost 1) 0).set (SV_ARB_STATUS_arb_fault) 0).set (SV_ARB_STATUS_copy_lost) 0).set (SV_PENDING_ENABLE_pu_a) 0).set (SV_PENDING_ENABLE_pu_b) 0)) State.reset, 1, by decide⟩

theorem witness_FeedsAndFaultsStartAndStopUnits_12 : ∃ (s : State) (u : Nat), u < 2 ∧ s.get (PU_STATUS_role u) = 2 ∧
  s.on (pendUnit u) = false :=
  ⟨(fun s => (((((((((((((((({ s with pwr := State.reset.pwr, shut := [], evReq := [], activity := none } : State).set (PU_STATUS_role 0) 2).set (PU_STATUS_role 1) 1).set (PU_STATUS_fault 0) 0).set (PU_STATUS_fault 1) 0).set (PU_CTRL_out 0) 0).set (PU_CTRL_out 1) 0).set (PU_STATUS_feed_ok 0) 1).set (PU_STATUS_feed_ok 1) 1).set (SV_ARB_STATUS_phase) 0).set (PU_STATUS_arb_lost 0) 0).set (PU_STATUS_arb_lost 1) 0).set (SV_ARB_STATUS_arb_fault) 0).set (SV_ARB_STATUS_copy_lost) 0).set (SV_PENDING_ENABLE_pu_a) 0).set (SV_PENDING_ENABLE_pu_b) 0)) State.reset, 0, by decide⟩

theorem witness_FeedsAndFaultsStartAndStopUnits_13 : ∃ (s : State) (u : Nat), u < 2 ∧ s.get (PU_STATUS_role u) = 0 ∧
  s.converting = true ∧ s.shut.contains (.unit u) = false ∧ s.on (PU_STATUS_feed_ok u) = true ∧ s.on (PU_STATUS_fault
  u) = false ∧ s.svc.assay = none :=
  ⟨(fun s => (((((((((((((((({ s with pwr := State.reset.pwr, shut := [], evReq := [], activity := none, svc := State.reset.svc } : State).set (PU_STATUS_role 0) 2).set (PU_STATUS_role 1) 0).set (PU_STATUS_fault 0) 0).set (PU_STATUS_fault 1) 0).set (PU_CTRL_out 0) 0).set (PU_CTRL_out 1) 1).set (PU_STATUS_feed_ok 0) 1).set (PU_STATUS_feed_ok 1) 1).set (SV_ARB_STATUS_phase) 0).set (PU_STATUS_arb_lost 0) 0).set (PU_STATUS_arb_lost 1) 0).set (SV_ARB_STATUS_arb_fault) 0).set (SV_ARB_STATUS_copy_lost) 0).set (SV_PENDING_ENABLE_pu_a) 0).set (SV_PENDING_ENABLE_pu_b) 0)) State.reset, 1, by decide⟩

theorem witness_FeedsAndFaultsStartAndStopUnits_14 : ∃ (s : State) (u : Nat), u < 2 ∧ s.on (PU_STATUS_fault u) = true
  ∧ s.get (PU_STATUS_role u) = 3 ∧ s.shut.contains (.unit u) = false :=
  ⟨(fun s => (((((((((((((((({ s with pwr := State.reset.pwr, shut := [], evReq := [], activity := none } : State).set (PU_STATUS_role 0) 3).set (PU_STATUS_role 1) 1).set (PU_STATUS_fault 0) 1).set (PU_STATUS_fault 1) 0).set (PU_CTRL_out 0) 0).set (PU_CTRL_out 1) 0).set (PU_STATUS_feed_ok 0) 1).set (PU_STATUS_feed_ok 1) 1).set (SV_ARB_STATUS_phase) 0).set (PU_STATUS_arb_lost 0) 0).set (PU_STATUS_arb_lost 1) 0).set (SV_ARB_STATUS_arb_fault) 0).set (SV_ARB_STATUS_copy_lost) 0).set (SV_PENDING_ENABLE_pu_a) 0).set (SV_PENDING_ENABLE_pu_b) 0)) State.reset, 0, by decide⟩

theorem witness_FeedsAndFaultsStartAndStopUnits_15 : ∃ (s : State) (u : Nat), u < 2 ∧ s.on (PU_STATUS_fault u) = true
  ∧ s.get (PU_STATUS_role u) = 0 ∧ s.shut.contains (.unit u) = false ∧ s.on (PU_STATUS_feed_ok u) = true ∧ s.on
  (PU_CTRL_out u) = false ∧ s.converting = true :=
  ⟨(fun s => (((((((((((((((({ s with pwr := State.reset.pwr, shut := [], evReq := [], activity := none } : State).set (PU_STATUS_role 0) 0).set (PU_STATUS_role 1) 2).set (PU_STATUS_fault 0) 1).set (PU_STATUS_fault 1) 0).set (PU_CTRL_out 0) 0).set (PU_CTRL_out 1) 0).set (PU_STATUS_feed_ok 0) 1).set (PU_STATUS_feed_ok 1) 1).set (SV_ARB_STATUS_phase) 0).set (PU_STATUS_arb_lost 0) 0).set (PU_STATUS_arb_lost 1) 0).set (SV_ARB_STATUS_arb_fault) 0).set (SV_ARB_STATUS_copy_lost) 0).set (SV_PENDING_ENABLE_pu_a) 0).set (SV_PENDING_ENABLE_pu_b) 0)) State.reset, 0, by decide⟩

theorem witness_FeedsAndFaultsStartAndStopUnits_16 : ∃ (s : State) (u : Nat), u < 2 ∧ s.on (PU_STATUS_fault u) = false
  :=
  ⟨(fun s => (((((((((((((((({ s with pwr := State.reset.pwr, shut := [], evReq := [], activity := none } : State).set (PU_STATUS_role 0) 3).set (PU_STATUS_role 1) 1).set (PU_STATUS_fault 0) 0).set (PU_STATUS_fault 1) 0).set (PU_CTRL_out 0) 0).set (PU_CTRL_out 1) 0).set (PU_STATUS_feed_ok 0) 1).set (PU_STATUS_feed_ok 1) 1).set (SV_ARB_STATUS_phase) 0).set (PU_STATUS_arb_lost 0) 0).set (PU_STATUS_arb_lost 1) 0).set (SV_ARB_STATUS_arb_fault) 0).set (SV_ARB_STATUS_copy_lost) 0).set (SV_PENDING_ENABLE_pu_a) 0).set (SV_PENDING_ENABLE_pu_b) 0)) State.reset, 0, by decide⟩

theorem witness_FeedsAndFaultsStartAndStopUnits_17 : ∃ (s : State) (again : Bool), (s.converting = true ∨
  s.shut.contains .conversion = true) :=
  ⟨(fun s => (((((((((((((((({ s with pwr := State.reset.pwr, shut := [], evReq := [], activity := none } : State).set (PU_STATUS_role 0) 2).set (PU_STATUS_role 1) 0).set (PU_STATUS_fault 0) 0).set (PU_STATUS_fault 1) 0).set (PU_CTRL_out 0) 0).set (PU_CTRL_out 1) 0).set (PU_STATUS_feed_ok 0) 1).set (PU_STATUS_feed_ok 1) 1).set (SV_ARB_STATUS_phase) 0).set (PU_STATUS_arb_lost 0) 0).set (PU_STATUS_arb_lost 1) 0).set (SV_ARB_STATUS_arb_fault) 0).set (SV_ARB_STATUS_copy_lost) 0).set (SV_PENDING_ENABLE_pu_a) 0).set (SV_PENDING_ENABLE_pu_b) 0)) State.reset, true, by decide⟩

theorem witness_FeedsAndFaultsStartAndStopUnits_18 : ∃ (s : State) (u : Nat) (again : Bool), u < 2 ∧ s.converting =
  false ∧ s.shut.contains .conversion = false ∧ s.shut.contains (.unit u) = false ∧ s.on (PU_STATUS_feed_ok u) = true
  ∧ (u = 0 ∨ s.on (PU_STATUS_feed_ok 0) = false) ∧ s.on (PU_STATUS_fault u) = true ∧ s.get SV_ARB_STATUS_restarts < 3
  :=
  ⟨(fun s => ((((((((((((((((({ s with pwr := State.reset.pwr, shut := [], evReq := [], activity := none } : State).set (PU_STATUS_role 0) 0).set (PU_STATUS_role 1) 0).set (PU_STATUS_fault 0) 1).set (PU_STATUS_fault 1) 1).set (PU_CTRL_out 0) 0).set (PU_CTRL_out 1) 0).set (PU_STATUS_feed_ok 0) 1).set (PU_STATUS_feed_ok 1) 0).set (SV_ARB_STATUS_phase) 0).set (PU_STATUS_arb_lost 0) 0).set (PU_STATUS_arb_lost 1) 0).set (SV_ARB_STATUS_arb_fault) 0).set (SV_ARB_STATUS_copy_lost) 0).set (SV_PENDING_ENABLE_pu_a) 0).set (SV_PENDING_ENABLE_pu_b) 0).set (SV_ARB_STATUS_restarts) 2)) State.reset, 0, false, by decide⟩

theorem witness_LinksAndHeartbeatsDecideWhoRegulates_1 : ∃ (s : State) (u : Nat), u < 2 ∧ s.get (PU_STATUS_role u) = 2
  ∧ s.get (PU_STATUS_role (other u)) = 1 ∧ s.unitReady (other u) = true ∧ s.shut.contains (.unit u) = false ∧ s.on
  (PU_STATUS_arb_lost (other u)) = false ∧ s.on SV_ARB_STATUS_arb_fault = false ∧ s.on SV_ARB_STATUS_copy_lost = false
  :=
  ⟨(fun s => (((((((((((((((({ s with pwr := State.reset.pwr, shut := [], evReq := [], activity := none } : State).set (PU_STATUS_role 0) 2).set (PU_STATUS_role 1) 1).set (PU_STATUS_fault 0) 0).set (PU_STATUS_fault 1) 0).set (PU_CTRL_out 0) 0).set (PU_CTRL_out 1) 0).set (PU_STATUS_feed_ok 0) 1).set (PU_STATUS_feed_ok 1) 1).set (SV_ARB_STATUS_phase) 0).set (PU_STATUS_arb_lost 0) 0).set (PU_STATUS_arb_lost 1) 0).set (SV_ARB_STATUS_arb_fault) 0).set (SV_ARB_STATUS_copy_lost) 0).set (SV_PENDING_ENABLE_pu_a) 0).set (SV_PENDING_ENABLE_pu_b) 0)) State.reset, 0, by decide⟩

theorem witness_LinksAndHeartbeatsDecideWhoRegulates_2 : ∃ (s : State) (u : Nat), u < 2 ∧ s.get (PU_STATUS_role u) = 1
  ∧ (s.unit u).soft = none ∧ s.on SV_ARB_STATUS_copy_lost = false :=
  ⟨(fun s => (((((((((((((((({ s with pwr := State.reset.pwr, shut := [], evReq := [], activity := none } : State).set (PU_STATUS_role 0) 2).set (PU_STATUS_role 1) 1).set (PU_STATUS_fault 0) 0).set (PU_STATUS_fault 1) 0).set (PU_CTRL_out 0) 0).set (PU_CTRL_out 1) 0).set (PU_STATUS_feed_ok 0) 1).set (PU_STATUS_feed_ok 1) 1).set (SV_ARB_STATUS_phase) 0).set (PU_STATUS_arb_lost 0) 0).set (PU_STATUS_arb_lost 1) 0).set (SV_ARB_STATUS_arb_fault) 0).set (SV_ARB_STATUS_copy_lost) 0).set (SV_PENDING_ENABLE_pu_a) 0).set (SV_PENDING_ENABLE_pu_b) 0)) State.reset, 1, by decide⟩

theorem witness_LinksAndHeartbeatsDecideWhoRegulates_3 : ∃ (s : State) (u : Nat) (fault : Bool), u < 2 :=
  ⟨(fun s => (((((((((((((((({ s with pwr := State.reset.pwr, shut := [], evReq := [], activity := none } : State).set (PU_STATUS_role 0) 2).set (PU_STATUS_role 1) 1).set (PU_STATUS_fault 0) 0).set (PU_STATUS_fault 1) 0).set (PU_CTRL_out 0) 0).set (PU_CTRL_out 1) 0).set (PU_STATUS_feed_ok 0) 1).set (PU_STATUS_feed_ok 1) 1).set (SV_ARB_STATUS_phase) 0).set (PU_STATUS_arb_lost 0) 0).set (PU_STATUS_arb_lost 1) 0).set (SV_ARB_STATUS_arb_fault) 0).set (SV_ARB_STATUS_copy_lost) 0).set (SV_PENDING_ENABLE_pu_a) 0).set (SV_PENDING_ENABLE_pu_b) 0)) State.reset, 1, true, by decide⟩

theorem witness_LinksAndHeartbeatsDecideWhoRegulates_4 : ∃ (s : State) (u : Nat), u < 2 :=
  ⟨(fun s => (((((((((((((((((({ s with pwr := State.reset.pwr, shut := [], evReq := [], activity := none } : State).set (PU_STATUS_role 0) 2).set (PU_STATUS_role 1) 1).set (PU_STATUS_fault 0) 0).set (PU_STATUS_fault 1) 0).set (PU_CTRL_out 0) 0).set (PU_CTRL_out 1) 0).set (PU_STATUS_feed_ok 0) 1).set (PU_STATUS_feed_ok 1) 1).set (SV_ARB_STATUS_phase) 0).set (PU_STATUS_arb_lost 0) 0).set (PU_STATUS_arb_lost 1) 0).set (SV_ARB_STATUS_arb_fault) 0).set (SV_ARB_STATUS_copy_lost) 0).set (SV_PENDING_ENABLE_pu_a) 0).set (SV_PENDING_ENABLE_pu_b) 0).set (PU_STATUS_arb_lost 1) 0).set (SV_ARB_STATUS_arb_fault) 1)) State.reset, 0, by decide⟩

theorem witness_LinksAndHeartbeatsDecideWhoRegulates_5 : ∃ (s : State), s.get SV_ARB_STATUS_bus = 2 ∧ s.on
  SV_ARB_STATUS_arb_fault = false ∧ (s.on (PU_STATUS_arb_lost 0) = false ∨ s.on (PU_STATUS_arb_lost 1) = false) :=
  ⟨(fun s => ((((((((((((((((({ s with pwr := State.reset.pwr, shut := [], evReq := [], activity := none } : State).set (PU_STATUS_role 0) 2).set (PU_STATUS_role 1) 1).set (PU_STATUS_fault 0) 0).set (PU_STATUS_fault 1) 0).set (PU_CTRL_out 0) 0).set (PU_CTRL_out 1) 0).set (PU_STATUS_feed_ok 0) 1).set (PU_STATUS_feed_ok 1) 1).set (SV_ARB_STATUS_phase) 0).set (PU_STATUS_arb_lost 0) 0).set (PU_STATUS_arb_lost 1) 0).set (SV_ARB_STATUS_arb_fault) 0).set (SV_ARB_STATUS_copy_lost) 0).set (SV_PENDING_ENABLE_pu_a) 0).set (SV_PENDING_ENABLE_pu_b) 0).set (SV_ARB_STATUS_bus) 2)) State.reset, by decide⟩

theorem witness_LinksAndHeartbeatsDecideWhoRegulates_6 : ∃ (s : State), s.get SV_ARB_STATUS_active = 1 ∧ s.get
  (PU_STATUS_role 1) = 2 ∧ s.get (PU_STATUS_role 0) = 1 ∧ (s.on SV_ARB_STATUS_arb_fault = true ∨ (s.on
  (PU_STATUS_arb_lost 0) = true ∧ s.on (PU_STATUS_arb_lost 1) = true)) :=
  ⟨(fun s => (((((((((((((((((({ s with pwr := State.reset.pwr, shut := [], evReq := [], activity := none } : State).set (PU_STATUS_role 0) 1).set (PU_STATUS_role 1) 2).set (PU_STATUS_fault 0) 0).set (PU_STATUS_fault 1) 0).set (PU_CTRL_out 0) 0).set (PU_CTRL_out 1) 0).set (PU_STATUS_feed_ok 0) 1).set (PU_STATUS_feed_ok 1) 1).set (SV_ARB_STATUS_phase) 0).set (PU_STATUS_arb_lost 0) 0).set (PU_STATUS_arb_lost 1) 0).set (SV_ARB_STATUS_arb_fault) 0).set (SV_ARB_STATUS_copy_lost) 0).set (SV_PENDING_ENABLE_pu_a) 0).set (SV_PENDING_ENABLE_pu_b) 0).set (SV_ARB_STATUS_active) 1).set (SV_ARB_STATUS_arb_fault) 1)) State.reset, by decide⟩

theorem witness_LinksAndHeartbeatsDecideWhoRegulates_8 : ∃ (s : State) (u : Nat), u < 2 ∧ s.get SV_ARB_STATUS_active =
  u ∧ s.on (PU_STATUS_arb_lost u) = false ∧ s.on SV_ARB_STATUS_arb_fault = false ∧ s.on (PU_STATUS_fault u) = false ∧
  s.get (PU_STATUS_role u) = 2 ∧ s.get (PU_STATUS_role (other u)) = 1 ∧ s.unitReady (other u) = true ∧ s.shut.contains
  (.unit u) = false :=
  ⟨(fun s => ((((((((((((((((({ s with pwr := State.reset.pwr, shut := [], evReq := [], activity := none } : State).set (PU_STATUS_role 0) 2).set (PU_STATUS_role 1) 1).set (PU_STATUS_fault 0) 0).set (PU_STATUS_fault 1) 0).set (PU_CTRL_out 0) 0).set (PU_CTRL_out 1) 0).set (PU_STATUS_feed_ok 0) 1).set (PU_STATUS_feed_ok 1) 1).set (SV_ARB_STATUS_phase) 0).set (PU_STATUS_arb_lost 0) 0).set (PU_STATUS_arb_lost 1) 0).set (SV_ARB_STATUS_arb_fault) 0).set (SV_ARB_STATUS_copy_lost) 0).set (SV_PENDING_ENABLE_pu_a) 0).set (SV_PENDING_ENABLE_pu_b) 0).set (SV_ARB_STATUS_active) 0)) State.reset, 0, by decide⟩

theorem witness_LinksAndHeartbeatsDecideWhoRegulates_9 : ∃ (s : State) (u : Nat), u < 2 ∧ s.get SV_ARB_STATUS_active =
  u ∧ (s.switching u = false ∨ s.on (PU_STATUS_arb_lost u) = true ∨ s.on SV_ARB_STATUS_arb_fault = true) :=
  ⟨(fun s => (((((((((((((((((({ s with pwr := State.reset.pwr, shut := [], evReq := [], activity := none } : State).set (PU_STATUS_role 0) 2).set (PU_STATUS_role 1) 1).set (PU_STATUS_fault 0) 0).set (PU_STATUS_fault 1) 0).set (PU_CTRL_out 0) 0).set (PU_CTRL_out 1) 0).set (PU_STATUS_feed_ok 0) 1).set (PU_STATUS_feed_ok 1) 1).set (SV_ARB_STATUS_phase) 0).set (PU_STATUS_arb_lost 0) 0).set (PU_STATUS_arb_lost 1) 0).set (SV_ARB_STATUS_arb_fault) 0).set (SV_ARB_STATUS_copy_lost) 0).set (SV_PENDING_ENABLE_pu_a) 0).set (SV_PENDING_ENABLE_pu_b) 0).set (SV_ARB_STATUS_active) 0).set (PU_STATUS_arb_lost 0) 1)) State.reset, 0, by decide⟩

theorem witness_LinksAndHeartbeatsDecideWhoRegulates_10 : ∃ (s : State), s.converting = true ∧ s.shut = [] ∧ s.get
  (PU_STATUS_role 0) ≠ 0 ∧ s.get (PU_STATUS_role 1) ≠ 0 :=
  ⟨(fun s => (((((((((((((((({ s with pwr := State.reset.pwr, shut := [], evReq := [], activity := none } : State).set (PU_STATUS_role 0) 2).set (PU_STATUS_role 1) 1).set (PU_STATUS_fault 0) 0).set (PU_STATUS_fault 1) 0).set (PU_CTRL_out 0) 0).set (PU_CTRL_out 1) 0).set (PU_STATUS_feed_ok 0) 1).set (PU_STATUS_feed_ok 1) 1).set (SV_ARB_STATUS_phase) 0).set (PU_STATUS_arb_lost 0) 0).set (PU_STATUS_arb_lost 1) 0).set (SV_ARB_STATUS_arb_fault) 0).set (SV_ARB_STATUS_copy_lost) 0).set (SV_PENDING_ENABLE_pu_a) 0).set (SV_PENDING_ENABLE_pu_b) 0)) State.reset, by decide⟩

theorem witness_RoleSwapsFollowTimerPermitAndOutputs_1 : ∃ (s : State), s.swapsHeld = false ∧ s.on SV_ARB_STATUS_sched
  = false :=
  ⟨(fun s => ((((((((((((((((({ s with pwr := State.reset.pwr, shut := [], evReq := [], activity := none } : State).set (PU_STATUS_role 0) 2).set (PU_STATUS_role 1) 1).set (PU_STATUS_fault 0) 0).set (PU_STATUS_fault 1) 0).set (PU_CTRL_out 0) 0).set (PU_CTRL_out 1) 0).set (PU_STATUS_feed_ok 0) 1).set (PU_STATUS_feed_ok 1) 1).set (SV_ARB_STATUS_phase) 0).set (PU_STATUS_arb_lost 0) 0).set (PU_STATUS_arb_lost 1) 0).set (SV_ARB_STATUS_arb_fault) 0).set (SV_ARB_STATUS_copy_lost) 0).set (SV_PENDING_ENABLE_pu_a) 0).set (SV_PENDING_ENABLE_pu_b) 0).set (SV_ARB_STATUS_sched) 0)) State.reset, by decide⟩

theorem witness_RoleSwapsFollowTimerPermitAndOutputs_2 : ∃ (s : State), (s.swapsHeld = true ∨ s.on SV_ARB_STATUS_sched
  = true) :=
  ⟨(fun s => ((((((((((((((((({ s with pwr := State.reset.pwr, shut := [], evReq := [], activity := none } : State).set (PU_STATUS_role 0) 2).set (PU_STATUS_role 1) 0).set (PU_STATUS_fault 0) 0).set (PU_STATUS_fault 1) 0).set (PU_CTRL_out 0) 0).set (PU_CTRL_out 1) 0).set (PU_STATUS_feed_ok 0) 1).set (PU_STATUS_feed_ok 1) 1).set (SV_ARB_STATUS_phase) 0).set (PU_STATUS_arb_lost 0) 0).set (PU_STATUS_arb_lost 1) 0).set (SV_ARB_STATUS_arb_fault) 0).set (SV_ARB_STATUS_copy_lost) 0).set (SV_PENDING_ENABLE_pu_a) 0).set (SV_PENDING_ENABLE_pu_b) 0).set (SV_ARB_STATUS_sched) 0)) State.reset, by decide⟩

theorem witness_RoleSwapsFollowTimerPermitAndOutputs_3 : ∃ (s : State), s.on SV_ARB_STATUS_sched = false :=
  ⟨(fun s => ((((((((((((((((({ s with pwr := State.reset.pwr, shut := [], evReq := [], activity := none } : State).set (PU_STATUS_role 0) 2).set (PU_STATUS_role 1) 0).set (PU_STATUS_fault 0) 0).set (PU_STATUS_fault 1) 0).set (PU_CTRL_out 0) 0).set (PU_CTRL_out 1) 0).set (PU_STATUS_feed_ok 0) 1).set (PU_STATUS_feed_ok 1) 1).set (SV_ARB_STATUS_phase) 0).set (PU_STATUS_arb_lost 0) 0).set (PU_STATUS_arb_lost 1) 0).set (SV_ARB_STATUS_arb_fault) 0).set (SV_ARB_STATUS_copy_lost) 0).set (SV_PENDING_ENABLE_pu_a) 0).set (SV_PENDING_ENABLE_pu_b) 0).set (SV_ARB_STATUS_sched) 0)) State.reset, by decide⟩

theorem witness_RoleSwapsFollowTimerPermitAndOutputs_4 : ∃ (s : State), s.on SV_ARB_STATUS_sched = true :=
  ⟨(fun s => ((((((((((((((((({ s with pwr := State.reset.pwr, shut := [], evReq := [], activity := none } : State).set (PU_STATUS_role 0) 2).set (PU_STATUS_role 1) 0).set (PU_STATUS_fault 0) 0).set (PU_STATUS_fault 1) 0).set (PU_CTRL_out 0) 0).set (PU_CTRL_out 1) 0).set (PU_STATUS_feed_ok 0) 1).set (PU_STATUS_feed_ok 1) 1).set (SV_ARB_STATUS_phase) 0).set (PU_STATUS_arb_lost 0) 0).set (PU_STATUS_arb_lost 1) 0).set (SV_ARB_STATUS_arb_fault) 0).set (SV_ARB_STATUS_copy_lost) 0).set (SV_PENDING_ENABLE_pu_a) 0).set (SV_PENDING_ENABLE_pu_b) 0).set (SV_ARB_STATUS_sched) 1)) State.reset, by decide⟩

theorem witness_RoleSwapsFollowTimerPermitAndOutputs_5 : ∃ (s : State), s.on SV_ARB_STATUS_sched = true :=
  ⟨(fun s => ((((((((((((((((({ s with pwr := State.reset.pwr, shut := [], evReq := [], activity := none } : State).set (PU_STATUS_role 0) 2).set (PU_STATUS_role 1) 0).set (PU_STATUS_fault 0) 0).set (PU_STATUS_fault 1) 0).set (PU_CTRL_out 0) 0).set (PU_CTRL_out 1) 0).set (PU_STATUS_feed_ok 0) 1).set (PU_STATUS_feed_ok 1) 1).set (SV_ARB_STATUS_phase) 0).set (PU_STATUS_arb_lost 0) 0).set (PU_STATUS_arb_lost 1) 0).set (SV_ARB_STATUS_arb_fault) 0).set (SV_ARB_STATUS_copy_lost) 0).set (SV_PENDING_ENABLE_pu_a) 0).set (SV_PENDING_ENABLE_pu_b) 0).set (SV_ARB_STATUS_sched) 1)) State.reset, by decide⟩

theorem witness_RoleSwapsFollowTimerPermitAndOutputs_6 : ∃ (s : State), s.on SV_ARB_STATUS_sched = false :=
  ⟨(fun s => ((((((((((((((((({ s with pwr := State.reset.pwr, shut := [], evReq := [], activity := none } : State).set (PU_STATUS_role 0) 2).set (PU_STATUS_role 1) 0).set (PU_STATUS_fault 0) 0).set (PU_STATUS_fault 1) 0).set (PU_CTRL_out 0) 0).set (PU_CTRL_out 1) 0).set (PU_STATUS_feed_ok 0) 1).set (PU_STATUS_feed_ok 1) 1).set (SV_ARB_STATUS_phase) 0).set (PU_STATUS_arb_lost 0) 0).set (PU_STATUS_arb_lost 1) 0).set (SV_ARB_STATUS_arb_fault) 0).set (SV_ARB_STATUS_copy_lost) 0).set (SV_PENDING_ENABLE_pu_a) 0).set (SV_PENDING_ENABLE_pu_b) 0).set (SV_ARB_STATUS_sched) 0)) State.reset, by decide⟩

theorem witness_RoleSwapsFollowTimerPermitAndOutputs_7 : ∃ (s : State), s.activity = some 1 ∧ s.get
  SV_ARB_STATUS_phase = 0 ∧ s.on SV_ARB_STATUS_sched = true ∧ s.swapsHeld = false ∧ s.unitReady 0 = true ∧ s.unitReady
  1 = true ∧ s.get SV_ARB_STATUS_bus = 2 ∧ s.on (LE_CTRL_closed s.activeUnit) = true :=
  ⟨(fun s => (((((((((((((((((((({ s with pwr := State.reset.pwr, shut := [], evReq := [], activity := some 1 } : State).set (PU_STATUS_role 0) 2).set (PU_STATUS_role 1) 1).set (PU_STATUS_fault 0) 0).set (PU_STATUS_fault 1) 0).set (PU_CTRL_out 0) 0).set (PU_CTRL_out 1) 0).set (PU_STATUS_feed_ok 0) 1).set (PU_STATUS_feed_ok 1) 1).set (SV_ARB_STATUS_phase) 0).set (PU_STATUS_arb_lost 0) 0).set (PU_STATUS_arb_lost 1) 0).set (SV_ARB_STATUS_arb_fault) 0).set (SV_ARB_STATUS_copy_lost) 0).set (SV_PENDING_ENABLE_pu_a) 0).set (SV_PENDING_ENABLE_pu_b) 0).set (SV_ARB_STATUS_sched) 1).set (SV_ARB_STATUS_bus) 2).set (LE_CTRL_closed 0) 1).set (LE_CAP_STATUS_state 0) 1)) State.reset, by decide⟩

theorem witness_RoleSwapsFollowTimerPermitAndOutputs_8 : ∃ (s : State), s.activity = some 1 ∧ s.get
  SV_ARB_STATUS_phase = 0 ∧ s.permitOk = false :=
  ⟨(fun s => ((((((((((((((((({ s with pwr := State.reset.pwr, shut := [], evReq := [], activity := some 1 } : State).set (PU_STATUS_role 0) 2).set (PU_STATUS_role 1) 1).set (PU_STATUS_fault 0) 0).set (PU_STATUS_fault 1) 0).set (PU_CTRL_out 0) 0).set (PU_CTRL_out 1) 0).set (PU_STATUS_feed_ok 0) 1).set (PU_STATUS_feed_ok 1) 1).set (SV_ARB_STATUS_phase) 0).set (PU_STATUS_arb_lost 0) 0).set (PU_STATUS_arb_lost 1) 0).set (SV_ARB_STATUS_arb_fault) 0).set (SV_ARB_STATUS_copy_lost) 0).set (SV_PENDING_ENABLE_pu_a) 0).set (SV_PENDING_ENABLE_pu_b) 0).set (SV_ARB_STATUS_sched) 0)) State.reset, by decide⟩

theorem witness_RoleSwapsFollowTimerPermitAndOutputs_9 : ∃ (s : State), s.activity ≠ some 1 :=
  ⟨(fun s => ({ s with pwr := State.reset.pwr, shut := [], evReq := [], activity := none } : State)) State.reset, by decide⟩

theorem witness_RoleSwapsFollowTimerPermitAndOutputs_10 : ∃ (s : State) (o : Nat) (a b : Nat × Nat) (l : List (Nat ×
  Nat)), o < 2 ∧ s.get SV_ARB_STATUS_active = o ∧ s.get SV_ARB_STATUS_phase = 3 ∧ s.pwr.pairs = a :: b :: l ∧ ((a.1 :
  Int) - a.2).natAbs ≤ 1311 ∧ ((b.1 : Int) - b.2).natAbs ≤ 1311 :=
  ⟨(fun s => (((((((((((((((((({ s with pwr := { State.reset.pwr with pairs := [(30000, 31311), (31311, 30000)] }, shut := [], evReq := [], activity := none } : State).set (PU_STATUS_role 0) 2).set (PU_STATUS_role 1) 1).set (PU_STATUS_fault 0) 0).set (PU_STATUS_fault 1) 0).set (PU_CTRL_out 0) 0).set (PU_CTRL_out 1) 0).set (PU_STATUS_feed_ok 0) 1).set (PU_STATUS_feed_ok 1) 1).set (SV_ARB_STATUS_phase) 0).set (PU_STATUS_arb_lost 0) 0).set (PU_STATUS_arb_lost 1) 0).set (SV_ARB_STATUS_arb_fault) 0).set (SV_ARB_STATUS_copy_lost) 0).set (SV_PENDING_ENABLE_pu_a) 0).set (SV_PENDING_ENABLE_pu_b) 0).set (SV_ARB_STATUS_phase) 3).set (SV_ARB_STATUS_active) 0)) State.reset, 0, (30000, 31311), (31311, 30000), [], by decide⟩

theorem witness_RoleSwapsFollowTimerPermitAndOutputs_11 : ∃ (s : State) (a b : Nat × Nat) (l : List (Nat × Nat)),
  s.get SV_ARB_STATUS_phase = 3 ∧ s.pwr.pairs = a :: b :: l ∧ (1311 < ((a.1 : Int) - a.2).natAbs ∨ 1311 < ((b.1 : Int)
  - b.2).natAbs) :=
  ⟨(fun s => ((((((((((((((((({ s with pwr := { State.reset.pwr with refusals := 1, pairs := [(30000, 31312), (31311, 30000)] }, shut := [], evReq := [], activity := none } : State).set (PU_STATUS_role 0) 2).set (PU_STATUS_role 1) 1).set (PU_STATUS_fault 0) 0).set (PU_STATUS_fault 1) 0).set (PU_CTRL_out 0) 0).set (PU_CTRL_out 1) 0).set (PU_STATUS_feed_ok 0) 1).set (PU_STATUS_feed_ok 1) 1).set (SV_ARB_STATUS_phase) 0).set (PU_STATUS_arb_lost 0) 0).set (PU_STATUS_arb_lost 1) 0).set (SV_ARB_STATUS_arb_fault) 0).set (SV_ARB_STATUS_copy_lost) 0).set (SV_PENDING_ENABLE_pu_a) 0).set (SV_PENDING_ENABLE_pu_b) 0).set (SV_ARB_STATUS_phase) 3)) State.reset, (30000, 31312), (31311, 30000), [], by decide⟩

theorem witness_RoleSwapsFollowTimerPermitAndOutputs_12 : ∃ (s : State), s.get SV_ARB_STATUS_phase ≠ 3 :=
  ⟨(fun s => (((((((((((((((({ s with pwr := State.reset.pwr, shut := [], evReq := [], activity := none } : State).set (PU_STATUS_role 0) 2).set (PU_STATUS_role 1) 1).set (PU_STATUS_fault 0) 0).set (PU_STATUS_fault 1) 0).set (PU_CTRL_out 0) 0).set (PU_CTRL_out 1) 0).set (PU_STATUS_feed_ok 0) 1).set (PU_STATUS_feed_ok 1) 1).set (SV_ARB_STATUS_phase) 0).set (PU_STATUS_arb_lost 0) 0).set (PU_STATUS_arb_lost 1) 0).set (SV_ARB_STATUS_arb_fault) 0).set (SV_ARB_STATUS_copy_lost) 0).set (SV_PENDING_ENABLE_pu_a) 0).set (SV_PENDING_ENABLE_pu_b) 0)) State.reset, by decide⟩

theorem witness_RoleSwapsFollowTimerPermitAndOutputs_13 : ∃ (s : State) (n : Nat), n < 2 ∧ s.get SV_ARB_STATUS_active
  = n ∧ s.get SV_ARB_STATUS_phase = 4 :=
  ⟨(fun s => (((((((((((((((((({ s with pwr := State.reset.pwr, shut := [], evReq := [], activity := none } : State).set (PU_STATUS_role 0) 1).set (PU_STATUS_role 1) 2).set (PU_STATUS_fault 0) 0).set (PU_STATUS_fault 1) 0).set (PU_CTRL_out 0) 0).set (PU_CTRL_out 1) 0).set (PU_STATUS_feed_ok 0) 1).set (PU_STATUS_feed_ok 1) 1).set (SV_ARB_STATUS_phase) 0).set (PU_STATUS_arb_lost 0) 0).set (PU_STATUS_arb_lost 1) 0).set (SV_ARB_STATUS_arb_fault) 0).set (SV_ARB_STATUS_copy_lost) 0).set (SV_PENDING_ENABLE_pu_a) 0).set (SV_PENDING_ENABLE_pu_b) 0).set (SV_ARB_STATUS_phase) 4).set (SV_ARB_STATUS_active) 1)) State.reset, 1, by decide⟩

theorem witness_RoleSwapsFollowTimerPermitAndOutputs_14 : ∃ (s : State), s.get SV_ARB_STATUS_phase ≠ 4 :=
  ⟨(fun s => (((((((((((((((({ s with pwr := State.reset.pwr, shut := [], evReq := [], activity := none } : State).set (PU_STATUS_role 0) 2).set (PU_STATUS_role 1) 1).set (PU_STATUS_fault 0) 0).set (PU_STATUS_fault 1) 0).set (PU_CTRL_out 0) 0).set (PU_CTRL_out 1) 0).set (PU_STATUS_feed_ok 0) 1).set (PU_STATUS_feed_ok 1) 1).set (SV_ARB_STATUS_phase) 0).set (PU_STATUS_arb_lost 0) 0).set (PU_STATUS_arb_lost 1) 0).set (SV_ARB_STATUS_arb_fault) 0).set (SV_ARB_STATUS_copy_lost) 0).set (SV_PENDING_ENABLE_pu_a) 0).set (SV_PENDING_ENABLE_pu_b) 0)) State.reset, by decide⟩

theorem witness_LoopLawRunsOnEachSample_1 : ∃ (s : State) (u : Nat) (y ff e p ic d raw : Int) (c : Coefs) (l : Loop),
  u < 2 ∧ s.get (PU_STATUS_role u) = 2 ∧ (s.unit u).soft = none ∧ (s.unit u).blank = 0 ∧ s.on (LE_CTRL_closed u) =
  true ∧ s.get (PU_STATUS_role (other u)) ≠ 1 ∧ c = s.coefs u ∧ l = (s.unit u).loop ∧ s.injOn u 0 = false ∧ e = sat16
  (signed 16 c.r - y) ∧ p = signed 24 c.kp * e ∧ ic = sat40 (l.i + signed 24 c.ki * e) ∧ d = sat40 (((c.a : Int) * l.d
  + 2 ^ 15) / 2 ^ 16 + signed 24 c.kd * (e - l.e)) ∧ raw = (p + ic + d + signed 24 c.kff * ff + 2 ^ 19) / 2 ^ 20 ∧
  (e.natAbs ≤ c.eLim ∨ l.ovr + 1 < (if c.tLim = 0 then 1 else c.tLim)) ∧ 0 ≤ (c.uMin : Int) ∧ c.uMin < 65536 ∧ c.uMax
  < 65536 :=
  ⟨(fun s => (((((((((((((((((((({ s with pwr := State.reset.pwr, shut := [], evReq := [], activity := none } : State).set (PU_STATUS_role 0) 2).set (PU_STATUS_role 1) 0).set (PU_STATUS_fault 0) 0).set (PU_STATUS_fault 1) 0).set (PU_CTRL_out 0) 0).set (PU_CTRL_out 1) 0).set (PU_STATUS_feed_ok 0) 1).set (PU_STATUS_feed_ok 1) 1).set (SV_ARB_STATUS_phase) 0).set (PU_STATUS_arb_lost 0) 0).set (PU_STATUS_arb_lost 1) 0).set (SV_ARB_STATUS_arb_fault) 0).set (SV_ARB_STATUS_copy_lost) 0).set (SV_PENDING_ENABLE_pu_a) 0).set (SV_PENDING_ENABLE_pu_b) 0).set (LE_CTRL_closed 0) 1).set (LE_CAP_STATUS_state 0) 0).set (LE_CTRL_host_in_force 0) 0)).setUnit 0 { PUnit.new with loop := ⟨17179869184, 1000, 7, 30000, 0⟩ }) State.reset, 0, (9990), (100), (sat16 (signed 16 puSet.r - (9990))), (signed 24 puSet.kp * (sat16 (signed 16 puSet.r - (9990)))), (sat40 ((⟨17179869184, 1000, 7, 30000, 0⟩ : Loop).i + signed 24 puSet.ki * (sat16 (signed 16 puSet.r - (9990))))), (sat40 (((puSet.a : Int) * (⟨17179869184, 1000, 7, 30000, 0⟩ : Loop).d + 2 ^ 15) / 2 ^ 16 + signed 24 puSet.kd * ((sat16 (signed 16 puSet.r - (9990))) - (⟨17179869184, 1000, 7, 30000, 0⟩ : Loop).e))), (((signed 24 puSet.kp * (sat16 (signed 16 puSet.r - (9990)))) + (sat40 ((⟨17179869184, 1000, 7, 30000, 0⟩ : Loop).i + signed 24 puSet.ki * (sat16 (signed 16 puSet.r - (9990))))) + (sat40 (((puSet.a : Int) * (⟨17179869184, 1000, 7, 30000, 0⟩ : Loop).d + 2 ^ 15) / 2 ^ 16 + signed 24 puSet.kd * ((sat16 (signed 16 puSet.r - (9990))) - (⟨17179869184, 1000, 7, 30000, 0⟩ : Loop).e))) + signed 24 puSet.kff * (100) + 2 ^ 19) / 2 ^ 20), puSet, (⟨17179869184, 1000, 7, 30000, 0⟩ : Loop), by decide⟩

theorem witness_LoopLawRunsOnEachSample_2 : ∃ (s : State) (u : Nat) (y ff e p ic d raw : Int) (c : Coefs) (l : Loop),
  u < 2 ∧ s.get (PU_STATUS_role u) = 2 ∧ (s.unit u).soft = none ∧ (s.unit u).blank = 0 ∧ s.on (LE_CTRL_closed u) =
  true ∧ s.get (PU_STATUS_role (other u)) ≠ 1 ∧ c = s.coefs u ∧ l = (s.unit u).loop ∧ s.injOn u 0 = false ∧ e = sat16
  (signed 16 c.r - y) ∧ p = signed 24 c.kp * e ∧ ic = sat40 (l.i + signed 24 c.ki * e) ∧ d = sat40 (((c.a : Int) * l.d
  + 2 ^ 15) / 2 ^ 16 + signed 24 c.kd * (e - l.e)) ∧ raw = (p + ic + d + signed 24 c.kff * ff + 2 ^ 19) / 2 ^ 20 ∧
  c.eLim < e.natAbs ∧ ((if c.tLim = 0 then 1 else c.tLim) ≤ l.ovr + 1) ∧ s.on (PU_STATUS_fault u) = false :=
  ⟨(fun s => (((((((((((((((((((({ s with pwr := State.reset.pwr, shut := [], evReq := [], activity := none } : State).set (PU_STATUS_role 0) 2).set (PU_STATUS_role 1) 0).set (PU_STATUS_fault 0) 0).set (PU_STATUS_fault 1) 0).set (PU_CTRL_out 0) 0).set (PU_CTRL_out 1) 0).set (PU_STATUS_feed_ok 0) 1).set (PU_STATUS_feed_ok 1) 1).set (SV_ARB_STATUS_phase) 0).set (PU_STATUS_arb_lost 0) 0).set (PU_STATUS_arb_lost 1) 0).set (SV_ARB_STATUS_arb_fault) 0).set (SV_ARB_STATUS_copy_lost) 0).set (SV_PENDING_ENABLE_pu_a) 0).set (SV_PENDING_ENABLE_pu_b) 0).set (LE_CTRL_closed 0) 1).set (LE_CAP_STATUS_state 0) 0).set (LE_CTRL_host_in_force 0) 0)).setUnit 0 { PUnit.new with loop := ⟨0, 0, 0, 30000, 199⟩ }) State.reset, 0, (9000), (100), (sat16 (signed 16 puSet.r - (9000))), (signed 24 puSet.kp * (sat16 (signed 16 puSet.r - (9000)))), (sat40 ((⟨0, 0, 0, 30000, 199⟩ : Loop).i + signed 24 puSet.ki * (sat16 (signed 16 puSet.r - (9000))))), (sat40 (((puSet.a : Int) * (⟨0, 0, 0, 30000, 199⟩ : Loop).d + 2 ^ 15) / 2 ^ 16 + signed 24 puSet.kd * ((sat16 (signed 16 puSet.r - (9000))) - (⟨0, 0, 0, 30000, 199⟩ : Loop).e))), (((signed 24 puSet.kp * (sat16 (signed 16 puSet.r - (9000)))) + (sat40 ((⟨0, 0, 0, 30000, 199⟩ : Loop).i + signed 24 puSet.ki * (sat16 (signed 16 puSet.r - (9000))))) + (sat40 (((puSet.a : Int) * (⟨0, 0, 0, 30000, 199⟩ : Loop).d + 2 ^ 15) / 2 ^ 16 + signed 24 puSet.kd * ((sat16 (signed 16 puSet.r - (9000))) - (⟨0, 0, 0, 30000, 199⟩ : Loop).e))) + signed 24 puSet.kff * (100) + 2 ^ 19) / 2 ^ 20), puSet, (⟨0, 0, 0, 30000, 199⟩ : Loop), by decide⟩

theorem witness_LoopLawRunsOnEachSample_3 : ∃ (s : State) (u : Nat) (y ff : Int) (overrun : Bool), u < 2 ∧ s.get
  (PU_STATUS_role u) = 2 ∧ (s.unit u).soft = none ∧ (s.unit u).blank = 0 ∧ s.on (LE_CTRL_closed u) = true ∧ s.get
  (PU_STATUS_role (other u)) ≠ 1 ∧ s.on (PU_STATUS_fault u) = false :=
  ⟨(fun s => (((((((((((((((((((({ s with pwr := State.reset.pwr, shut := [], evReq := [], activity := none } : State).set (PU_STATUS_role 0) 2).set (PU_STATUS_role 1) 0).set (PU_STATUS_fault 0) 0).set (PU_STATUS_fault 1) 0).set (PU_CTRL_out 0) 0).set (PU_CTRL_out 1) 0).set (PU_STATUS_feed_ok 0) 1).set (PU_STATUS_feed_ok 1) 1).set (SV_ARB_STATUS_phase) 0).set (PU_STATUS_arb_lost 0) 0).set (PU_STATUS_arb_lost 1) 0).set (SV_ARB_STATUS_arb_fault) 0).set (SV_ARB_STATUS_copy_lost) 0).set (SV_PENDING_ENABLE_pu_a) 0).set (SV_PENDING_ENABLE_pu_b) 0).set (LE_CTRL_closed 0) 1).set (LE_CAP_STATUS_state 0) 0).set (LE_CTRL_host_in_force 0) 0)).setUnit 0 { PUnit.new with loop := ⟨0, 0, 0, 30000, 0⟩ }) State.reset, 0, 10000, 0, true, by decide⟩

theorem witness_LoopLawRunsOnEachSample_4 : ∃ (s : State) (u : Nat) (y ff : Int), u < 2 ∧ s.get (PU_STATUS_role u) = 2
  ∧ (s.unit u).soft = none ∧ (s.unit u).blank = 0 ∧ s.on (LE_CTRL_closed u) = true ∧ s.get (PU_STATUS_role (other u))
  ≠ 1 ∧ s.get (LE_CNT_consec u) < 2 ∧ s.injOn u 0 = false :=
  ⟨(fun s => ((((((((((((((((((((({ s with pwr := State.reset.pwr, shut := [], evReq := [], activity := none } : State).set (PU_STATUS_role 0) 2).set (PU_STATUS_role 1) 0).set (PU_STATUS_fault 0) 0).set (PU_STATUS_fault 1) 0).set (PU_CTRL_out 0) 0).set (PU_CTRL_out 1) 0).set (PU_STATUS_feed_ok 0) 1).set (PU_STATUS_feed_ok 1) 1).set (SV_ARB_STATUS_phase) 0).set (PU_STATUS_arb_lost 0) 0).set (PU_STATUS_arb_lost 1) 0).set (SV_ARB_STATUS_arb_fault) 0).set (SV_ARB_STATUS_copy_lost) 0).set (SV_PENDING_ENABLE_pu_a) 0).set (SV_PENDING_ENABLE_pu_b) 0).set (LE_CTRL_closed 0) 1).set (LE_CAP_STATUS_state 0) 0).set (LE_CTRL_host_in_force 0) 0)).setUnit 0 { PUnit.new with loop := ⟨0, 0, 0, 30000, 0⟩ }).set (LE_CNT_consec 0) 1) State.reset, 0, 10000, 0, by decide⟩

theorem witness_LoopLawRunsOnEachSample_5 : ∃ (s : State) (i : Nat), i < 3 ∧ s.leClosed i = true :=
  ⟨(fun s => (({ s with pwr := State.reset.pwr, shut := [], evReq := [], activity := none } : State).set (LE_CTRL_closed 1) 1)) State.reset, 1, by decide⟩

theorem witness_LoopLawRunsOnEachSample_6 : ∃ (s : State) (i : Nat), i < 3 ∧ s.leClosed i = false ∧ (s.staged i).uMin
  < (s.staged i).uMax ∧ (s.staged i).eLim ≠ 0 :=
  ⟨(fun s => (((((({ s with pwr := State.reset.pwr, shut := [], evReq := [], activity := none } : State).set (LE_CTRL_closed 1) 0).set (LE_LIM_u_min 1) 5).set (LE_LIM_u_max 1) 600).set (LE_FERR_e_lim 1) 3).set (LE_CTRL_use_host 1) 1)) State.reset, 1, by decide⟩

theorem witness_LoopLawRunsOnEachSample_7 : ∃ (s : State) (i : Nat), i < 3 ∧ s.leClosed i = false ∧ ((s.staged i).uMax
  ≤ (s.staged i).uMin ∨ (s.staged i).eLim = 0) :=
  ⟨(fun s => ((((({ s with pwr := State.reset.pwr, shut := [], evReq := [], activity := none } : State).set (LE_CTRL_closed 1) 0).set (LE_LIM_u_min 1) 600).set (LE_LIM_u_max 1) 600).set (LE_FERR_e_lim 1) 3)) State.reset, 1, by decide⟩

theorem witness_LoopLawRunsOnEachSample_8 : ∃ (s : State) (i : Nat) (v : Bool), i < 3 ∧ s.leClosed i = false :=
  ⟨(fun s => ((({ s with pwr := State.reset.pwr, shut := [], evReq := [], activity := none } : State).set (LE_CTRL_closed 1) 0).set (LE_CTRL_host_valid 1) 1)) State.reset, 1, true, by decide⟩

theorem witness_LoopLawRunsOnEachSample_9 : ∃ (s : State) (i : Nat) (v : Bool), i < 3 ∧ s.leClosed i = true :=
  ⟨(fun s => (({ s with pwr := State.reset.pwr, shut := [], evReq := [], activity := none } : State).set (LE_CTRL_closed 1) 1)) State.reset, 1, true, by decide⟩

theorem witness_LoopLawRunsOnEachSample_10 : ∃ (s : State) (i : Nat), i < 3 ∧ s.get (LE_CAP_STATUS_state i) = 1 ∧
  s.injLen i ≤ (s.engine i).k :=
  ⟨(fun s => ((((({ s with pwr := State.reset.pwr, shut := [], evReq := [], activity := none } : State).set (LE_CAP_STATUS_state 1) 1).set (LE_CAP_CTRL_len_m1 1) 9).set (LE_CAP_CTRL_decim 1) 1)).setEngine 1 { Engine.new with k := 20 }) State.reset, 1, by decide⟩

theorem witness_LoopLawRunsOnEachSample_11 : ∃ (s : State) (i : Nat), i < 3 ∧ (s.get (LE_CAP_STATUS_state i) ≠ 1 ∨
  (s.engine i).k < s.injLen i) :=
  ⟨(fun s => ((((({ s with pwr := State.reset.pwr, shut := [], evReq := [], activity := none } : State).set (LE_CAP_STATUS_state 1) 1).set (LE_CAP_CTRL_len_m1 1) 9).set (LE_CAP_CTRL_decim 1) 1)).setEngine 1 { Engine.new with k := 19 }) State.reset, 1, by decide⟩

theorem witness_BiasRequestsAndFeedbackRunTheSequences_1 : ∃ (s : State), s.get SV_GUARD_STATUS_state = 0 ∧
  strapsValid (s.get SV_GUARD_CFG_straps_pu) = true ∧ s.on SV_GUARD_STATUS_proof = true ∧ s.on SV_GUARD_STATUS_closed
  = true ∧ s.guardFaulty = false ∧ s.on SV_GUARD_STATUS_fb = true :=
  ⟨(fun s => ((((((((((((((((((((fun s : State => { s with csr := Sparse.insert SV_GUARD_CFG_straps_pu.key 1 s.csr }) ({ s with guard := State.reset.guard, shut := [], evReq := [] } : State)).set (SV_GUARD_STATUS_proof) 1).set (SV_GUARD_STATUS_closed) 1).set (SV_GUARD_STATUS_fb) 1).set (SV_GUARD_STATUS_ch_a) 1).set (SV_GUARD_STATUS_ch_b) 1).set (SV_GUARD_STATUS_chatter_a) 0).set (SV_GUARD_STATUS_chatter_b) 0).set (SV_PENDING_ENABLE_bias) 0).set (SV_GUARD_FAULT_clock) 0).set (SV_GUARD_FAULT_config) 0).set (SV_GUARD_FAULT_fb_enable) 0).set (SV_GUARD_FAULT_fb_disable) 0).set (SV_GUARD_FAULT_fb_unexpected) 0).set (SV_GUARD_FAULT_out_b) 0).set (SV_GUARD_FAULT_out_a) 0).set (SV_GUARD_FAULT_pulse_missing) 0).set (SV_GUARD_FAULT_discrepancy) 0).set (SV_GUARD_STATUS_state) 0)) State.reset, by decide⟩

theorem witness_BiasRequestsAndFeedbackRunTheSequences_2 : ∃ (s : State), s.get SV_GUARD_STATUS_state = 0 ∧
  (strapsValid (s.get SV_GUARD_CFG_straps_pu) = false ∨ s.on SV_GUARD_STATUS_proof = false ∨ s.on
  SV_GUARD_STATUS_closed = false ∨ s.guardFaulty = true ∨ s.on SV_GUARD_STATUS_fb = false) :=
  ⟨(fun s => (((((((((((((((((((((fun s : State => { s with csr := Sparse.insert SV_GUARD_CFG_straps_pu.key 1 s.csr }) ({ s with guard := State.reset.guard, shut := [], evReq := [] } : State)).set (SV_GUARD_STATUS_proof) 1).set (SV_GUARD_STATUS_closed) 1).set (SV_GUARD_STATUS_fb) 1).set (SV_GUARD_STATUS_ch_a) 1).set (SV_GUARD_STATUS_ch_b) 1).set (SV_GUARD_STATUS_chatter_a) 0).set (SV_GUARD_STATUS_chatter_b) 0).set (SV_PENDING_ENABLE_bias) 0).set (SV_GUARD_FAULT_clock) 0).set (SV_GUARD_FAULT_config) 0).set (SV_GUARD_FAULT_fb_enable) 0).set (SV_GUARD_FAULT_fb_disable) 0).set (SV_GUARD_FAULT_fb_unexpected) 0).set (SV_GUARD_FAULT_out_b) 0).set (SV_GUARD_FAULT_out_a) 0).set (SV_GUARD_FAULT_pulse_missing) 0).set (SV_GUARD_FAULT_discrepancy) 0).set (SV_GUARD_STATUS_state) 0).set (SV_GUARD_STATUS_fb) 0)) State.reset, by decide⟩

theorem witness_BiasRequestsAndFeedbackRunTheSequences_3 : ∃ (s : State), s.get SV_GUARD_STATUS_state = 3 :=
  ⟨(fun s => ((((((((((((((((((((fun s : State => { s with csr := Sparse.insert SV_GUARD_CFG_straps_pu.key 1 s.csr }) ({ s with guard := State.reset.guard, shut := [], evReq := [] } : State)).set (SV_GUARD_STATUS_proof) 1).set (SV_GUARD_STATUS_closed) 1).set (SV_GUARD_STATUS_fb) 1).set (SV_GUARD_STATUS_ch_a) 1).set (SV_GUARD_STATUS_ch_b) 1).set (SV_GUARD_STATUS_chatter_a) 0).set (SV_GUARD_STATUS_chatter_b) 0).set (SV_PENDING_ENABLE_bias) 0).set (SV_GUARD_FAULT_clock) 0).set (SV_GUARD_FAULT_config) 0).set (SV_GUARD_FAULT_fb_enable) 0).set (SV_GUARD_FAULT_fb_disable) 0).set (SV_GUARD_FAULT_fb_unexpected) 0).set (SV_GUARD_FAULT_out_b) 0).set (SV_GUARD_FAULT_out_a) 0).set (SV_GUARD_FAULT_pulse_missing) 0).set (SV_GUARD_FAULT_discrepancy) 0).set (SV_GUARD_STATUS_state) 3)) State.reset, by decide⟩

theorem witness_BiasRequestsAndFeedbackRunTheSequences_4 : ∃ (s : State), (s.get SV_GUARD_STATUS_state = 1 ∨ s.get
  SV_GUARD_STATUS_state = 2) :=
  ⟨(fun s => ((((((((((((((((((((fun s : State => { s with csr := Sparse.insert SV_GUARD_CFG_straps_pu.key 1 s.csr }) ({ s with guard := State.reset.guard, shut := [], evReq := [] } : State)).set (SV_GUARD_STATUS_proof) 1).set (SV_GUARD_STATUS_closed) 1).set (SV_GUARD_STATUS_fb) 1).set (SV_GUARD_STATUS_ch_a) 1).set (SV_GUARD_STATUS_ch_b) 1).set (SV_GUARD_STATUS_chatter_a) 0).set (SV_GUARD_STATUS_chatter_b) 0).set (SV_PENDING_ENABLE_bias) 0).set (SV_GUARD_FAULT_clock) 0).set (SV_GUARD_FAULT_config) 0).set (SV_GUARD_FAULT_fb_enable) 0).set (SV_GUARD_FAULT_fb_disable) 0).set (SV_GUARD_FAULT_fb_unexpected) 0).set (SV_GUARD_FAULT_out_b) 0).set (SV_GUARD_FAULT_out_a) 0).set (SV_GUARD_FAULT_pulse_missing) 0).set (SV_GUARD_FAULT_discrepancy) 0).set (SV_GUARD_STATUS_state) 1)) State.reset, by decide⟩

theorem witness_BiasRequestsAndFeedbackRunTheSequences_5 : ∃ (s : State), (s.get SV_GUARD_STATUS_state = 1 ∨ s.get
  SV_GUARD_STATUS_state = 2) :=
  ⟨(fun s => ((((((((((((((((((((fun s : State => { s with csr := Sparse.insert SV_GUARD_CFG_straps_pu.key 1 s.csr }) ({ s with guard := State.reset.guard, shut := [], evReq := [] } : State)).set (SV_GUARD_STATUS_proof) 1).set (SV_GUARD_STATUS_closed) 1).set (SV_GUARD_STATUS_fb) 1).set (SV_GUARD_STATUS_ch_a) 1).set (SV_GUARD_STATUS_ch_b) 1).set (SV_GUARD_STATUS_chatter_a) 0).set (SV_GUARD_STATUS_chatter_b) 0).set (SV_PENDING_ENABLE_bias) 0).set (SV_GUARD_FAULT_clock) 0).set (SV_GUARD_FAULT_config) 0).set (SV_GUARD_FAULT_fb_enable) 0).set (SV_GUARD_FAULT_fb_disable) 0).set (SV_GUARD_FAULT_fb_unexpected) 0).set (SV_GUARD_FAULT_out_b) 0).set (SV_GUARD_FAULT_out_a) 0).set (SV_GUARD_FAULT_pulse_missing) 0).set (SV_GUARD_FAULT_discrepancy) 0).set (SV_GUARD_STATUS_state) 1)) State.reset, by decide⟩

theorem witness_BiasRequestsAndFeedbackRunTheSequences_6 : ∃ (s : State), (s.get SV_GUARD_STATUS_state = 0 ∨ s.get
  SV_GUARD_STATUS_state = 3) :=
  ⟨(fun s => (((((((((((((((((((((fun s : State => { s with csr := Sparse.insert SV_GUARD_CFG_straps_pu.key 1 s.csr }) ({ s with guard := State.reset.guard, shut := [], evReq := [] } : State)).set (SV_GUARD_STATUS_proof) 1).set (SV_GUARD_STATUS_closed) 1).set (SV_GUARD_STATUS_fb) 1).set (SV_GUARD_STATUS_ch_a) 1).set (SV_GUARD_STATUS_ch_b) 1).set (SV_GUARD_STATUS_chatter_a) 0).set (SV_GUARD_STATUS_chatter_b) 0).set (SV_PENDING_ENABLE_bias) 0).set (SV_GUARD_FAULT_clock) 0).set (SV_GUARD_FAULT_config) 0).set (SV_GUARD_FAULT_fb_enable) 0).set (SV_GUARD_FAULT_fb_disable) 0).set (SV_GUARD_FAULT_fb_unexpected) 0).set (SV_GUARD_FAULT_out_b) 0).set (SV_GUARD_FAULT_out_a) 0).set (SV_GUARD_FAULT_pulse_missing) 0).set (SV_GUARD_FAULT_discrepancy) 0).set (SV_GUARD_STATUS_state) 3).set (SV_PENDING_ENABLE_bias) 1)) State.reset, by decide⟩

theorem witness_BiasRequestsAndFeedbackRunTheSequences_7 : ∃ (s : State) (masked : Bool), s.get SV_GUARD_STATUS_state
  = 1 :=
  ⟨(fun s => ((((((((((((((((((((fun s : State => { s with csr := Sparse.insert SV_GUARD_CFG_straps_pu.key 1 s.csr }) ({ s with guard := State.reset.guard, shut := [], evReq := [] } : State)).set (SV_GUARD_STATUS_proof) 1).set (SV_GUARD_STATUS_closed) 1).set (SV_GUARD_STATUS_fb) 1).set (SV_GUARD_STATUS_ch_a) 1).set (SV_GUARD_STATUS_ch_b) 1).set (SV_GUARD_STATUS_chatter_a) 0).set (SV_GUARD_STATUS_chatter_b) 0).set (SV_PENDING_ENABLE_bias) 0).set (SV_GUARD_FAULT_clock) 0).set (SV_GUARD_FAULT_config) 0).set (SV_GUARD_FAULT_fb_enable) 0).set (SV_GUARD_FAULT_fb_disable) 0).set (SV_GUARD_FAULT_fb_unexpected) 0).set (SV_GUARD_FAULT_out_b) 0).set (SV_GUARD_FAULT_out_a) 0).set (SV_GUARD_FAULT_pulse_missing) 0).set (SV_GUARD_FAULT_discrepancy) 0).set (SV_GUARD_STATUS_state) 1)) State.reset, false, by decide⟩

theorem witness_BiasRequestsAndFeedbackRunTheSequences_8 : ∃ (s : State), s.get SV_GUARD_STATUS_state = 2 ∧
  s.guard.pulse = none ∧ s.on SV_GUARD_FAULT_fb_unexpected = false :=
  ⟨(fun s => (((((((((((((((((((((fun s : State => { s with csr := Sparse.insert SV_GUARD_CFG_straps_pu.key 1 s.csr }) ({ s with guard := State.reset.guard, shut := [], evReq := [] } : State)).set (SV_GUARD_STATUS_proof) 1).set (SV_GUARD_STATUS_closed) 1).set (SV_GUARD_STATUS_fb) 1).set (SV_GUARD_STATUS_ch_a) 1).set (SV_GUARD_STATUS_ch_b) 1).set (SV_GUARD_STATUS_chatter_a) 0).set (SV_GUARD_STATUS_chatter_b) 0).set (SV_PENDING_ENABLE_bias) 0).set (SV_GUARD_FAULT_clock) 0).set (SV_GUARD_FAULT_config) 0).set (SV_GUARD_FAULT_fb_enable) 0).set (SV_GUARD_FAULT_fb_disable) 0).set (SV_GUARD_FAULT_fb_unexpected) 0).set (SV_GUARD_FAULT_out_b) 0).set (SV_GUARD_FAULT_out_a) 0).set (SV_GUARD_FAULT_pulse_missing) 0).set (SV_GUARD_FAULT_discrepancy) 0).set (SV_GUARD_STATUS_state) 2).set (SV_GUARD_STATUS_fb) 0)) State.reset, by decide⟩

theorem witness_BiasRequestsAndFeedbackRunTheSequences_9 : ∃ (s : State) (masked : Bool), s.get SV_GUARD_STATUS_state
  = 3 ∧ s.on SV_PENDING_ENABLE_bias = false :=
  ⟨(fun s => ((((((((((((((((((((fun s : State => { s with csr := Sparse.insert SV_GUARD_CFG_straps_pu.key 1 s.csr }) ({ s with guard := State.reset.guard, shut := [.bias, .unit 0], evReq := [] } : State)).set (SV_GUARD_STATUS_proof) 1).set (SV_GUARD_STATUS_closed) 1).set (SV_GUARD_STATUS_fb) 1).set (SV_GUARD_STATUS_ch_a) 1).set (SV_GUARD_STATUS_ch_b) 1).set (SV_GUARD_STATUS_chatter_a) 0).set (SV_GUARD_STATUS_chatter_b) 0).set (SV_PENDING_ENABLE_bias) 0).set (SV_GUARD_FAULT_clock) 0).set (SV_GUARD_FAULT_config) 0).set (SV_GUARD_FAULT_fb_enable) 0).set (SV_GUARD_FAULT_fb_disable) 0).set (SV_GUARD_FAULT_fb_unexpected) 0).set (SV_GUARD_FAULT_out_b) 0).set (SV_GUARD_FAULT_out_a) 0).set (SV_GUARD_FAULT_pulse_missing) 0).set (SV_GUARD_FAULT_discrepancy) 0).set (SV_GUARD_STATUS_state) 3)) State.reset, true, by decide⟩

theorem witness_BiasRequestsAndFeedbackRunTheSequences_10 : ∃ (s : State) (masked : Bool), s.get SV_GUARD_STATUS_state
  = 2 ∧ (masked = true ∨ s.guard.pulse ≠ none) :=
  ⟨(fun s => ((((((((((((((((((((fun s : State => { s with csr := Sparse.insert SV_GUARD_CFG_straps_pu.key 1 s.csr }) ({ s with guard := State.reset.guard, shut := [], evReq := [] } : State)).set (SV_GUARD_STATUS_proof) 1).set (SV_GUARD_STATUS_closed) 1).set (SV_GUARD_STATUS_fb) 1).set (SV_GUARD_STATUS_ch_a) 1).set (SV_GUARD_STATUS_ch_b) 1).set (SV_GUARD_STATUS_chatter_a) 0).set (SV_GUARD_STATUS_chatter_b) 0).set (SV_PENDING_ENABLE_bias) 0).set (SV_GUARD_FAULT_clock) 0).set (SV_GUARD_FAULT_config) 0).set (SV_GUARD_FAULT_fb_enable) 0).set (SV_GUARD_FAULT_fb_disable) 0).set (SV_GUARD_FAULT_fb_unexpected) 0).set (SV_GUARD_FAULT_out_b) 0).set (SV_GUARD_FAULT_out_a) 0).set (SV_GUARD_FAULT_pulse_missing) 0).set (SV_GUARD_FAULT_discrepancy) 0).set (SV_GUARD_STATUS_state) 2)) State.reset, true, by decide⟩

theorem witness_BiasRequestsAndFeedbackRunTheSequences_11 : ∃ (s : State), s.get SV_GUARD_STATUS_state = 1 ∧ s.on
  SV_GUARD_FAULT_fb_enable = false :=
  ⟨(fun s => ((((((((((((((((((((fun s : State => { s with csr := Sparse.insert SV_GUARD_CFG_straps_pu.key 1 s.csr }) ({ s with guard := State.reset.guard, shut := [], evReq := [] } : State)).set (SV_GUARD_STATUS_proof) 1).set (SV_GUARD_STATUS_closed) 1).set (SV_GUARD_STATUS_fb) 1).set (SV_GUARD_STATUS_ch_a) 1).set (SV_GUARD_STATUS_ch_b) 1).set (SV_GUARD_STATUS_chatter_a) 0).set (SV_GUARD_STATUS_chatter_b) 0).set (SV_PENDING_ENABLE_bias) 0).set (SV_GUARD_FAULT_clock) 0).set (SV_GUARD_FAULT_config) 0).set (SV_GUARD_FAULT_fb_enable) 0).set (SV_GUARD_FAULT_fb_disable) 0).set (SV_GUARD_FAULT_fb_unexpected) 0).set (SV_GUARD_FAULT_out_b) 0).set (SV_GUARD_FAULT_out_a) 0).set (SV_GUARD_FAULT_pulse_missing) 0).set (SV_GUARD_FAULT_discrepancy) 0).set (SV_GUARD_STATUS_state) 1)) State.reset, by decide⟩

theorem witness_BiasRequestsAndFeedbackRunTheSequences_12 : ∃ (s : State), s.get SV_GUARD_STATUS_state ≠ 1 :=
  ⟨(fun s => (({ s with guard := State.reset.guard, shut := [], evReq := [] } : State).set (SV_GUARD_STATUS_state) 2)) State.reset, by decide⟩

theorem witness_BiasRequestsAndFeedbackRunTheSequences_13 : ∃ (s : State), s.get SV_GUARD_STATUS_state = 3 ∧ s.on
  SV_GUARD_STATUS_fb = true ∧ s.on SV_PENDING_ENABLE_bias = false :=
  ⟨(fun s => (((((((((((((((((((((fun s : State => { s with csr := Sparse.insert SV_GUARD_CFG_straps_pu.key 1 s.csr }) ({ s with guard := State.reset.guard, shut := [.bias], evReq := [] } : State)).set (SV_GUARD_STATUS_proof) 1).set (SV_GUARD_STATUS_closed) 1).set (SV_GUARD_STATUS_fb) 1).set (SV_GUARD_STATUS_ch_a) 1).set (SV_GUARD_STATUS_ch_b) 1).set (SV_GUARD_STATUS_chatter_a) 0).set (SV_GUARD_STATUS_chatter_b) 0).set (SV_PENDING_ENABLE_bias) 0).set (SV_GUARD_FAULT_clock) 0).set (SV_GUARD_FAULT_config) 0).set (SV_GUARD_FAULT_fb_enable) 0).set (SV_GUARD_FAULT_fb_disable) 0).set (SV_GUARD_FAULT_fb_unexpected) 0).set (SV_GUARD_FAULT_out_b) 0).set (SV_GUARD_FAULT_out_a) 0).set (SV_GUARD_FAULT_pulse_missing) 0).set (SV_GUARD_FAULT_discrepancy) 0).set (SV_GUARD_STATUS_state) 3).set (SV_GUARD_STATUS_fb) 1)) State.reset, by decide⟩

theorem witness_BiasRequestsAndFeedbackRunTheSequences_14 : ∃ (s : State), s.get SV_GUARD_STATUS_state = 3 ∧ s.on
  SV_GUARD_STATUS_fb = false ∧ s.on SV_GUARD_FAULT_fb_disable = false ∧ s.on SV_PENDING_ENABLE_bias = false :=
  ⟨(fun s => (((((((((((((((((((((fun s : State => { s with csr := Sparse.insert SV_GUARD_CFG_straps_pu.key 1 s.csr }) ({ s with guard := State.reset.guard, shut := [.bias], evReq := [] } : State)).set (SV_GUARD_STATUS_proof) 1).set (SV_GUARD_STATUS_closed) 1).set (SV_GUARD_STATUS_fb) 1).set (SV_GUARD_STATUS_ch_a) 1).set (SV_GUARD_STATUS_ch_b) 1).set (SV_GUARD_STATUS_chatter_a) 0).set (SV_GUARD_STATUS_chatter_b) 0).set (SV_PENDING_ENABLE_bias) 0).set (SV_GUARD_FAULT_clock) 0).set (SV_GUARD_FAULT_config) 0).set (SV_GUARD_FAULT_fb_enable) 0).set (SV_GUARD_FAULT_fb_disable) 0).set (SV_GUARD_FAULT_fb_unexpected) 0).set (SV_GUARD_FAULT_out_b) 0).set (SV_GUARD_FAULT_out_a) 0).set (SV_GUARD_FAULT_pulse_missing) 0).set (SV_GUARD_FAULT_discrepancy) 0).set (SV_GUARD_STATUS_state) 3).set (SV_GUARD_STATUS_fb) 0)) State.reset, by decide⟩

theorem witness_BiasRequestsAndFeedbackRunTheSequences_15 : ∃ (s : State), s.get SV_GUARD_STATUS_state ≠ 3 :=
  ⟨(fun s => (({ s with guard := State.reset.guard, shut := [], evReq := [] } : State).set (SV_GUARD_STATUS_state) 2)) State.reset, by decide⟩

theorem witness_BiasRequestsAndFeedbackRunTheSequences_16 : ∃ (s : State) (k : Nat), k < 2 ∧ s.get
  SV_GUARD_STATUS_state = 2 ∧ s.guard.pulse = none :=
  ⟨(fun s => (({ s with guard := State.reset.guard, shut := [], evReq := [] } : State).set (SV_GUARD_STATUS_state) 2)) State.reset, 1, by decide⟩

theorem witness_BiasRequestsAndFeedbackRunTheSequences_17 : ∃ (s : State) (k : Nat), k < 2 ∧ (s.get
  SV_GUARD_STATUS_state ≠ 2 ∨ s.guard.pulse ≠ none) :=
  ⟨(fun s => (({ s with guard := State.reset.guard, shut := [], evReq := [] } : State).set (SV_GUARD_STATUS_state) 1)) State.reset, 1, by decide⟩

theorem witness_BiasRequestsAndFeedbackRunTheSequences_18 : ∃ (s : State) (k : Nat), k < 2 ∧ s.guard.pulse = some k :=
  ⟨(fun s => (({ s with guard := { State.reset.guard with pulse := some 1 }, shut := [], evReq := [] } : State).set (SV_GUARD_STATUS_state) 2)) State.reset, 1, by decide⟩

theorem witness_BiasRequestsAndFeedbackRunTheSequences_19 : ∃ (s : State) (k : Nat) (low high : Bool), k < 2 ∧
  s.guard.pulse = some k ∧ (low = false ∨ high = false) ∧ (s.get SV_GUARD_STATUS_state = 1 ∨ s.get
  SV_GUARD_STATUS_state = 2) ∧ (s.on (if k = 0 then SV_GUARD_FAULT_out_a else SV_GUARD_FAULT_out_b) = false) :=
  ⟨(fun s => ((((((((((((((((((((fun s : State => { s with csr := Sparse.insert SV_GUARD_CFG_straps_pu.key 1 s.csr }) ({ s with guard := { State.reset.guard with pulse := some 1 }, shut := [], evReq := [] } : State)).set (SV_GUARD_STATUS_proof) 1).set (SV_GUARD_STATUS_closed) 1).set (SV_GUARD_STATUS_fb) 1).set (SV_GUARD_STATUS_ch_a) 1).set (SV_GUARD_STATUS_ch_b) 1).set (SV_GUARD_STATUS_chatter_a) 0).set (SV_GUARD_STATUS_chatter_b) 0).set (SV_PENDING_ENABLE_bias) 0).set (SV_GUARD_FAULT_clock) 0).set (SV_GUARD_FAULT_config) 0).set (SV_GUARD_FAULT_fb_enable) 0).set (SV_GUARD_FAULT_fb_disable) 0).set (SV_GUARD_FAULT_fb_unexpected) 0).set (SV_GUARD_FAULT_out_b) 0).set (SV_GUARD_FAULT_out_a) 0).set (SV_GUARD_FAULT_pulse_missing) 0).set (SV_GUARD_FAULT_discrepancy) 0).set (SV_GUARD_STATUS_state) 2)) State.reset, 1, false, true, by decide⟩

theorem witness_InterlockAndFaultsShutTheBiasDown_1 : ∃ (s : State) (k : Nat), k < 2 ∧ (s.get SV_GUARD_STATUS_state =
  1 ∨ s.get SV_GUARD_STATUS_state = 2) :=
  ⟨(fun s => ((((((((((((((((((((fun s : State => { s with csr := Sparse.insert SV_GUARD_CFG_straps_pu.key 1 s.csr }) ({ s with guard := { State.reset.guard with rawA := true, rawB := true }, shut := [], evReq := [] } : State)).set (SV_GUARD_STATUS_proof) 1).set (SV_GUARD_STATUS_closed) 1).set (SV_GUARD_STATUS_fb) 1).set (SV_GUARD_STATUS_ch_a) 1).set (SV_GUARD_STATUS_ch_b) 1).set (SV_GUARD_STATUS_chatter_a) 0).set (SV_GUARD_STATUS_chatter_b) 0).set (SV_PENDING_ENABLE_bias) 0).set (SV_GUARD_FAULT_clock) 0).set (SV_GUARD_FAULT_config) 0).set (SV_GUARD_FAULT_fb_enable) 0).set (SV_GUARD_FAULT_fb_disable) 0).set (SV_GUARD_FAULT_fb_unexpected) 0).set (SV_GUARD_FAULT_out_b) 0).set (SV_GUARD_FAULT_out_a) 0).set (SV_GUARD_FAULT_pulse_missing) 0).set (SV_GUARD_FAULT_discrepancy) 0).set (SV_GUARD_STATUS_state) 2)) State.reset, 0, by decide⟩

theorem witness_InterlockAndFaultsShutTheBiasDown_2 : ∃ (s : State) (k : Nat), k < 2 ∧ s.get SV_GUARD_STATUS_state = 0
  :=
  ⟨(fun s => ((((((((((((((((((((fun s : State => { s with csr := Sparse.insert SV_GUARD_CFG_straps_pu.key 1 s.csr }) ({ s with guard := { State.reset.guard with rawA := true }, shut := [], evReq := [] } : State)).set (SV_GUARD_STATUS_proof) 1).set (SV_GUARD_STATUS_closed) 1).set (SV_GUARD_STATUS_fb) 1).set (SV_GUARD_STATUS_ch_a) 1).set (SV_GUARD_STATUS_ch_b) 1).set (SV_GUARD_STATUS_chatter_a) 0).set (SV_GUARD_STATUS_chatter_b) 0).set (SV_PENDING_ENABLE_bias) 0).set (SV_GUARD_FAULT_clock) 0).set (SV_GUARD_FAULT_config) 0).set (SV_GUARD_FAULT_fb_enable) 0).set (SV_GUARD_FAULT_fb_disable) 0).set (SV_GUARD_FAULT_fb_unexpected) 0).set (SV_GUARD_FAULT_out_b) 0).set (SV_GUARD_FAULT_out_a) 0).set (SV_GUARD_FAULT_pulse_missing) 0).set (SV_GUARD_FAULT_discrepancy) 0).set (SV_GUARD_STATUS_state) 0)) State.reset, 1, by decide⟩

theorem witness_InterlockAndFaultsShutTheBiasDown_4 : ∃ (s : State) (k : Nat), k < 2 ∧ (s.get SV_GUARD_STATUS_state =
  1 ∨ s.get SV_GUARD_STATUS_state = 2) ∧ (s.on (if k = 0 then SV_GUARD_STATUS_ch_a else SV_GUARD_STATUS_ch_b) = true)
  ∧ (k = 0 ∨ s.guardNative = true) ∧ s.on SV_GUARD_FAULT_pulse_missing = false :=
  ⟨(fun s => ((((((((((((((((((((fun s : State => { s with csr := Sparse.insert SV_GUARD_CFG_straps_pu.key 1 s.csr }) ({ s with guard := { State.reset.guard with rawA := true, rawB := true }, shut := [], evReq := [] } : State)).set (SV_GUARD_STATUS_proof) 1).set (SV_GUARD_STATUS_closed) 1).set (SV_GUARD_STATUS_fb) 1).set (SV_GUARD_STATUS_ch_a) 1).set (SV_GUARD_STATUS_ch_b) 1).set (SV_GUARD_STATUS_chatter_a) 0).set (SV_GUARD_STATUS_chatter_b) 0).set (SV_PENDING_ENABLE_bias) 0).set (SV_GUARD_FAULT_clock) 0).set (SV_GUARD_FAULT_config) 0).set (SV_GUARD_FAULT_fb_enable) 0).set (SV_GUARD_FAULT_fb_disable) 0).set (SV_GUARD_FAULT_fb_unexpected) 0).set (SV_GUARD_FAULT_out_b) 0).set (SV_GUARD_FAULT_out_a) 0).set (SV_GUARD_FAULT_pulse_missing) 0).set (SV_GUARD_FAULT_discrepancy) 0).set (SV_GUARD_STATUS_state) 2)) State.reset, 1, by decide⟩

theorem witness_InterlockAndFaultsShutTheBiasDown_5 : ∃ (s : State) (k : Nat), k < 2 ∧ (s.on (if k = 0 then
  SV_GUARD_STATUS_ch_a else SV_GUARD_STATUS_ch_b) = false) :=
  ⟨(fun s => (({ s with guard := State.reset.guard, shut := [], evReq := [] } : State).set (SV_GUARD_STATUS_ch_b) 0)) State.reset, 1, by decide⟩

theorem witness_InterlockAndFaultsShutTheBiasDown_6 : ∃ (s : State) (k : Nat), k < 2 ∧ (s.get SV_GUARD_STATUS_state =
  1 ∨ s.get SV_GUARD_STATUS_state = 2) ∧ s.on (chatterBit k) = false :=
  ⟨(fun s => ((((((((((((((((((((fun s : State => { s with csr := Sparse.insert SV_GUARD_CFG_straps_pu.key 1 s.csr }) ({ s with guard := { State.reset.guard with rawA := true, rawB := true }, shut := [], evReq := [] } : State)).set (SV_GUARD_STATUS_proof) 1).set (SV_GUARD_STATUS_closed) 1).set (SV_GUARD_STATUS_fb) 1).set (SV_GUARD_STATUS_ch_a) 1).set (SV_GUARD_STATUS_ch_b) 1).set (SV_GUARD_STATUS_chatter_a) 0).set (SV_GUARD_STATUS_chatter_b) 0).set (SV_PENDING_ENABLE_bias) 0).set (SV_GUARD_FAULT_clock) 0).set (SV_GUARD_FAULT_config) 0).set (SV_GUARD_FAULT_fb_enable) 0).set (SV_GUARD_FAULT_fb_disable) 0).set (SV_GUARD_FAULT_fb_unexpected) 0).set (SV_GUARD_FAULT_out_b) 0).set (SV_GUARD_FAULT_out_a) 0).set (SV_GUARD_FAULT_pulse_missing) 0).set (SV_GUARD_FAULT_discrepancy) 0).set (SV_GUARD_STATUS_state) 2)) State.reset, 1, by decide⟩

theorem witness_InterlockAndFaultsShutTheBiasDown_7 : ∃ (s : State) (k : Nat), k < 2 ∧ s.on (chatterBit k) = true :=
  ⟨(fun s => (({ s with guard := State.reset.guard, shut := [], evReq := [] } : State).set (SV_GUARD_STATUS_chatter_b) 1)) State.reset, 1, by decide⟩

theorem witness_InterlockAndFaultsShutTheBiasDown_8 : ∃ (s : State) (k : Nat), k < 2 ∧ s.get SV_GUARD_STATUS_state = 0
  :=
  ⟨(fun s => (((((((((((((((((((((fun s : State => { s with csr := Sparse.insert SV_GUARD_CFG_straps_pu.key 1 s.csr }) ({ s with guard := { State.reset.guard with rawA := true, rawB := true }, shut := [], evReq := [] } : State)).set (SV_GUARD_STATUS_proof) 1).set (SV_GUARD_STATUS_closed) 1).set (SV_GUARD_STATUS_fb) 1).set (SV_GUARD_STATUS_ch_a) 1).set (SV_GUARD_STATUS_ch_b) 1).set (SV_GUARD_STATUS_chatter_a) 0).set (SV_GUARD_STATUS_chatter_b) 0).set (SV_PENDING_ENABLE_bias) 0).set (SV_GUARD_FAULT_clock) 0).set (SV_GUARD_FAULT_config) 0).set (SV_GUARD_FAULT_fb_enable) 0).set (SV_GUARD_FAULT_fb_disable) 0).set (SV_GUARD_FAULT_fb_unexpected) 0).set (SV_GUARD_FAULT_out_b) 0).set (SV_GUARD_FAULT_out_a) 0).set (SV_GUARD_FAULT_pulse_missing) 0).set (SV_GUARD_FAULT_discrepancy) 0).set (SV_GUARD_STATUS_state) 0).set (SV_GUARD_STATUS_chatter_b) 1)) State.reset, 1, by decide⟩

theorem witness_InterlockAndFaultsShutTheBiasDown_9 : ∃ (s : State), (s.get SV_GUARD_STATUS_state = 1 ∨ s.get
  SV_GUARD_STATUS_state = 2) ∧ s.on SV_GUARD_STATUS_ch_a ≠ s.on SV_GUARD_STATUS_ch_b ∧ s.on SV_GUARD_FAULT_discrepancy
  = false :=
  ⟨(fun s => (((((((((((((((((((((fun s : State => { s with csr := Sparse.insert SV_GUARD_CFG_straps_pu.key 1 s.csr }) ({ s with guard := { State.reset.guard with rawA := true, rawB := true }, shut := [], evReq := [] } : State)).set (SV_GUARD_STATUS_proof) 1).set (SV_GUARD_STATUS_closed) 1).set (SV_GUARD_STATUS_fb) 1).set (SV_GUARD_STATUS_ch_a) 1).set (SV_GUARD_STATUS_ch_b) 1).set (SV_GUARD_STATUS_chatter_a) 0).set (SV_GUARD_STATUS_chatter_b) 0).set (SV_PENDING_ENABLE_bias) 0).set (SV_GUARD_FAULT_clock) 0).set (SV_GUARD_FAULT_config) 0).set (SV_GUARD_FAULT_fb_enable) 0).set (SV_GUARD_FAULT_fb_disable) 0).set (SV_GUARD_FAULT_fb_unexpected) 0).set (SV_GUARD_FAULT_out_b) 0).set (SV_GUARD_FAULT_out_a) 0).set (SV_GUARD_FAULT_pulse_missing) 0).set (SV_GUARD_FAULT_discrepancy) 0).set (SV_GUARD_STATUS_state) 2).set (SV_GUARD_STATUS_ch_a) 0)) State.reset, by decide⟩

theorem witness_InterlockAndFaultsShutTheBiasDown_10 : ∃ (s : State), s.on SV_GUARD_STATUS_ch_a = s.on
  SV_GUARD_STATUS_ch_b :=
  ⟨(fun s => (((((((((((((((((((fun s : State => { s with csr := Sparse.insert SV_GUARD_CFG_straps_pu.key 1 s.csr }) ({ s with guard := State.reset.guard, shut := [], evReq := [] } : State)).set (SV_GUARD_STATUS_proof) 1).set (SV_GUARD_STATUS_closed) 1).set (SV_GUARD_STATUS_fb) 1).set (SV_GUARD_STATUS_ch_a) 1).set (SV_GUARD_STATUS_ch_b) 1).set (SV_GUARD_STATUS_chatter_a) 0).set (SV_GUARD_STATUS_chatter_b) 0).set (SV_PENDING_ENABLE_bias) 0).set (SV_GUARD_FAULT_clock) 0).set (SV_GUARD_FAULT_config) 0).set (SV_GUARD_FAULT_fb_enable) 0).set (SV_GUARD_FAULT_fb_disable) 0).set (SV_GUARD_FAULT_fb_unexpected) 0).set (SV_GUARD_FAULT_out_b) 0).set (SV_GUARD_FAULT_out_a) 0).set (SV_GUARD_FAULT_pulse_missing) 0).set (SV_GUARD_FAULT_discrepancy) 0)) State.reset, by decide⟩

theorem witness_InterlockAndFaultsShutTheBiasDown_11 : ∃ (s : State) (f : Fld), s.guard.opened = true ∧ s.on
  SV_GUARD_STATUS_closed = true ∧ f ∈ [SV_GUARD_FAULT_fb_enable, SV_GUARD_FAULT_fb_disable,
  SV_GUARD_FAULT_fb_unexpected, SV_GUARD_FAULT_out_b, SV_GUARD_FAULT_out_a, SV_GUARD_FAULT_pulse_missing,
  SV_GUARD_FAULT_discrepancy] :=
  ⟨(fun s => (((((((((((((((((((((fun s : State => { s with csr := Sparse.insert SV_GUARD_CFG_straps_pu.key 1 s.csr }) ({ s with guard := { State.reset.guard with rawA := true, rawB := true, opened := true }, shut := [], evReq := [] } : State)).set (SV_GUARD_STATUS_proof) 1).set (SV_GUARD_STATUS_closed) 1).set (SV_GUARD_STATUS_fb) 1).set (SV_GUARD_STATUS_ch_a) 1).set (SV_GUARD_STATUS_ch_b) 1).set (SV_GUARD_STATUS_chatter_a) 0).set (SV_GUARD_STATUS_chatter_b) 0).set (SV_PENDING_ENABLE_bias) 0).set (SV_GUARD_FAULT_clock) 0).set (SV_GUARD_FAULT_config) 0).set (SV_GUARD_FAULT_fb_enable) 0).set (SV_GUARD_FAULT_fb_disable) 0).set (SV_GUARD_FAULT_fb_unexpected) 0).set (SV_GUARD_FAULT_out_b) 0).set (SV_GUARD_FAULT_out_a) 0).set (SV_GUARD_FAULT_pulse_missing) 0).set (SV_GUARD_FAULT_discrepancy) 0).set (SV_GUARD_FAULT_out_a) 1).set (SV_GUARD_FAULT_clock) 1)) State.reset, SV_GUARD_FAULT_out_a, by decide⟩

theorem witness_InterlockAndFaultsShutTheBiasDown_12 : ∃ (s : State), (s.guard.opened = false ∨ s.on
  SV_GUARD_STATUS_closed = false) :=
  ⟨(fun s => ((((((((((((((((((((fun s : State => { s with csr := Sparse.insert SV_GUARD_CFG_straps_pu.key 1 s.csr }) ({ s with guard := { State.reset.guard with opened := true }, shut := [], evReq := [] } : State)).set (SV_GUARD_STATUS_proof) 1).set (SV_GUARD_STATUS_closed) 1).set (SV_GUARD_STATUS_fb) 1).set (SV_GUARD_STATUS_ch_a) 1).set (SV_GUARD_STATUS_ch_b) 1).set (SV_GUARD_STATUS_chatter_a) 0).set (SV_GUARD_STATUS_chatter_b) 0).set (SV_PENDING_ENABLE_bias) 0).set (SV_GUARD_FAULT_clock) 0).set (SV_GUARD_FAULT_config) 0).set (SV_GUARD_FAULT_fb_enable) 0).set (SV_GUARD_FAULT_fb_disable) 0).set (SV_GUARD_FAULT_fb_unexpected) 0).set (SV_GUARD_FAULT_out_b) 0).set (SV_GUARD_FAULT_out_a) 0).set (SV_GUARD_FAULT_pulse_missing) 0).set (SV_GUARD_FAULT_discrepancy) 0).set (SV_GUARD_STATUS_closed) 0)) State.reset, by decide⟩

theorem witness_InterlockAndFaultsShutTheBiasDown_13 : ∃ (s : State) (v : Nat), v < 256 ∧ v = s.get
  SV_GUARD_CFG_straps_pu ∧ strapsValid v = true :=
  ⟨(fun s => (((((((((((((((((((fun s : State => { s with csr := Sparse.insert SV_GUARD_CFG_straps_pu.key 1 s.csr }) ({ s with guard := { State.reset.guard with strapDiff := 1 }, shut := [], evReq := [] } : State)).set (SV_GUARD_STATUS_proof) 1).set (SV_GUARD_STATUS_closed) 1).set (SV_GUARD_STATUS_fb) 1).set (SV_GUARD_STATUS_ch_a) 1).set (SV_GUARD_STATUS_ch_b) 1).set (SV_GUARD_STATUS_chatter_a) 0).set (SV_GUARD_STATUS_chatter_b) 0).set (SV_PENDING_ENABLE_bias) 0).set (SV_GUARD_FAULT_clock) 0).set (SV_GUARD_FAULT_config) 0).set (SV_GUARD_FAULT_fb_enable) 0).set (SV_GUARD_FAULT_fb_disable) 0).set (SV_GUARD_FAULT_fb_unexpected) 0).set (SV_GUARD_FAULT_out_b) 0).set (SV_GUARD_FAULT_out_a) 0).set (SV_GUARD_FAULT_pulse_missing) 0).set (SV_GUARD_FAULT_discrepancy) 0)) State.reset, 1, by decide⟩

theorem witness_InterlockAndFaultsShutTheBiasDown_14 : ∃ (s : State) (v : Nat), v < 256 ∧ v ≠ s.get
  SV_GUARD_CFG_straps_pu ∧ 1 ≤ s.guard.strapDiff ∧ (s.get SV_GUARD_STATUS_state = 1 ∨ s.get SV_GUARD_STATUS_state = 2)
  ∧ s.on SV_GUARD_FAULT_config = false :=
  ⟨(fun s => ((((((((((((((((((((fun s : State => { s with csr := Sparse.insert SV_GUARD_CFG_straps_pu.key 1 s.csr }) ({ s with guard := { State.reset.guard with strapDiff := 1 }, shut := [], evReq := [] } : State)).set (SV_GUARD_STATUS_proof) 1).set (SV_GUARD_STATUS_closed) 1).set (SV_GUARD_STATUS_fb) 1).set (SV_GUARD_STATUS_ch_a) 1).set (SV_GUARD_STATUS_ch_b) 1).set (SV_GUARD_STATUS_chatter_a) 0).set (SV_GUARD_STATUS_chatter_b) 0).set (SV_PENDING_ENABLE_bias) 0).set (SV_GUARD_FAULT_clock) 0).set (SV_GUARD_FAULT_config) 0).set (SV_GUARD_FAULT_fb_enable) 0).set (SV_GUARD_FAULT_fb_disable) 0).set (SV_GUARD_FAULT_fb_unexpected) 0).set (SV_GUARD_FAULT_out_b) 0).set (SV_GUARD_FAULT_out_a) 0).set (SV_GUARD_FAULT_pulse_missing) 0).set (SV_GUARD_FAULT_discrepancy) 0).set (SV_GUARD_STATUS_state) 2)) State.reset, 2, by decide⟩

theorem witness_InterlockAndFaultsShutTheBiasDown_15 : ∃ (s : State), (s.get SV_GUARD_STATUS_state = 1 ∨ s.get
  SV_GUARD_STATUS_state = 2) ∧ s.on SV_GUARD_FAULT_clock = false :=
  ⟨(fun s => ((((((((((((((((((((fun s : State => { s with csr := Sparse.insert SV_GUARD_CFG_straps_pu.key 1 s.csr }) ({ s with guard := State.reset.guard, shut := [], evReq := [] } : State)).set (SV_GUARD_STATUS_proof) 1).set (SV_GUARD_STATUS_closed) 1).set (SV_GUARD_STATUS_fb) 1).set (SV_GUARD_STATUS_ch_a) 1).set (SV_GUARD_STATUS_ch_b) 1).set (SV_GUARD_STATUS_chatter_a) 0).set (SV_GUARD_STATUS_chatter_b) 0).set (SV_PENDING_ENABLE_bias) 0).set (SV_GUARD_FAULT_clock) 0).set (SV_GUARD_FAULT_config) 0).set (SV_GUARD_FAULT_fb_enable) 0).set (SV_GUARD_FAULT_fb_disable) 0).set (SV_GUARD_FAULT_fb_unexpected) 0).set (SV_GUARD_FAULT_out_b) 0).set (SV_GUARD_FAULT_out_a) 0).set (SV_GUARD_FAULT_pulse_missing) 0).set (SV_GUARD_FAULT_discrepancy) 0).set (SV_GUARD_STATUS_state) 2)) State.reset, by decide⟩

theorem witness_InterlockAndFaultsShutTheBiasDown_16 : ∃ (s : State), s.guard.clkOut = true :=
  ⟨(fun s => ({ s with guard := { State.reset.guard with clkOut := true }, shut := [], evReq := [] } : State)) State.reset, by decide⟩

theorem witness_InterlockAndFaultsShutTheBiasDown_17 : ∃ (s : State), s.guard.clkOut = false :=
  ⟨(fun s => ({ s with guard := State.reset.guard, shut := [], evReq := [] } : State)) State.reset, by decide⟩

theorem witness_InterlockAndFaultsShutTheBiasDown_18 : ∃ (s : State) (v : Nat), v < 256 :=
  ⟨(fun s => ((((((((((((((((((((fun s : State => { s with csr := Sparse.insert SV_GUARD_CFG_straps_pu.key 1 s.csr }) ({ s with guard := State.reset.guard, shut := [], evReq := [] } : State)).set (SV_GUARD_STATUS_proof) 1).set (SV_GUARD_STATUS_closed) 1).set (SV_GUARD_STATUS_fb) 1).set (SV_GUARD_STATUS_ch_a) 1).set (SV_GUARD_STATUS_ch_b) 1).set (SV_GUARD_STATUS_chatter_a) 0).set (SV_GUARD_STATUS_chatter_b) 0).set (SV_PENDING_ENABLE_bias) 0).set (SV_GUARD_FAULT_clock) 0).set (SV_GUARD_FAULT_config) 0).set (SV_GUARD_FAULT_fb_enable) 0).set (SV_GUARD_FAULT_fb_disable) 0).set (SV_GUARD_FAULT_fb_unexpected) 0).set (SV_GUARD_FAULT_out_b) 0).set (SV_GUARD_FAULT_out_a) 0).set (SV_GUARD_FAULT_pulse_missing) 0).set (SV_GUARD_FAULT_discrepancy) 0).set (SV_GUARD_STATUS_state) 2)) State.reset, 1, by decide⟩

theorem witness_TileIsIdentifiedAndItsLifeKept_1 : ∃ (s : State) (p : Bool), s.on CX_TILE_STATUS_present = p :=
  ⟨(fun s => (({ s with tile := State.reset.tile, shut := [], evReq := [], svc := { State.reset.svc with tap := { State.reset.svc.tap with ir := 1 } }, dies := [], chans := [], pwr := State.reset.pwr } : State).set (CX_TILE_STATUS_present) 1)) State.reset, true, by decide⟩

theorem witness_TileIsIdentifiedAndItsLifeKept_2 : ∃ (s : State), s.on CX_TILE_STATUS_present = false :=
  ⟨(fun s => (({ s with tile := State.reset.tile, shut := [], evReq := [], svc := { State.reset.svc with tap := { State.reset.svc.tap with ir := 1 } }, dies := [], chans := [], pwr := State.reset.pwr } : State).set (CX_TILE_STATUS_present) 0)) State.reset, by decide⟩

theorem witness_TileIsIdentifiedAndItsLifeKept_3 : ∃ (s : State) (n r : Nat), s.on CX_TILE_STATUS_present = true ∧
  s.mt.running = false ∧ n < 3 ∧ r < 96 :=
  ⟨(fun s => (((({ s with tile := State.reset.tile, shut := [], evReq := [], svc := { State.reset.svc with tap := { State.reset.svc.tap with ir := 1 } }, dies := [], chans := [], pwr := State.reset.pwr } : State).set (CX_TILE_STATUS_present) 1).set (CX_LE_LOOP_en 7) 1).set (CX_TILE_I2C_CTRL_state) 1)) State.reset, 1, 7, by decide⟩

theorem witness_TileIsIdentifiedAndItsLifeKept_4 : ∃ (s : State), s.on CX_TILE_STATUS_present = true ∧ s.mt.running =
  true :=
  ⟨(fun s => (({ s with mt := { State.reset.mt with running := true }, tile := State.reset.tile, shut := [], evReq := [], svc := { State.reset.svc with tap := { State.reset.svc.tap with ir := 1 } }, dies := [], chans := [], pwr := State.reset.pwr } : State).set (CX_TILE_STATUS_present) 1)) State.reset, by decide⟩

theorem witness_TileIsIdentifiedAndItsLifeKept_5 : ∃ (s : State) (n r : Nat), s.pending = [] ∧ s.mt.running = true ∧
  s.mt.bucket + 1 < s.mt.nb ∧ s.mt.edge = [.tileGone] ∧ s.tg.arrived = [] ∧ s.calMay CX_CAL_EN_enable = false ∧ s.get
  CX_MT_STATUS_state ≠ 3 ∧ s.mt.held = false ∧ s.on CX_TILE_STATUS_present = false ∧ n < 3 ∧ r < 96 :=
  ⟨(fun s => (((((({ s with pending := [], was := [], tg := { s.tg with arrived := [] }, mt := { State.reset.mt with running := true, bucket := 9, edge := [.tileGone] }, tile := State.reset.tile, shut := [], evReq := [], svc := { State.reset.svc with tap := { State.reset.svc.tap with ir := 1 } }, dies := [], chans := [], pwr := State.reset.pwr } : State).set (CX_CAL_EN_enable) 0).set (CX_MT_STATUS_state) 1).set (CX_TILE_STATUS_present) 0).set (CX_LE_LOOP_en 7) 1).set (CX_TILE_I2C_CTRL_state) 1)) State.reset, 1, 7, by decide⟩

theorem witness_TileIsIdentifiedAndItsLifeKept_6 : ∃ (s : State) (acked : Bool) (b : List Nat), s.get
  CX_TILE_STATUS_id_state ≠ 1 :=
  ⟨(fun s => (({ s with tile := State.reset.tile, shut := [], evReq := [], svc := { State.reset.svc with tap := { State.reset.svc.tap with ir := 1 } }, dies := [], chans := [], pwr := State.reset.pwr } : State).set (CX_TILE_STATUS_id_state) 2)) State.reset, true, [], by decide⟩

theorem witness_TileIsIdentifiedAndItsLifeKept_7 : ∃ (s : State) (acked : Bool) (b : List Nat), s.get
  CX_TILE_STATUS_id_state = 1 ∧ (b.all fun x => decide (x < 256)) = true ∧ idHeaderOk b = false :=
  ⟨(fun s => (({ s with tile := State.reset.tile, shut := [], evReq := [], svc := { State.reset.svc with tap := { State.reset.svc.tap with ir := 1 } }, dies := [], chans := [], pwr := State.reset.pwr } : State).set (CX_TILE_STATUS_id_state) 1)) State.reset, true, [], by decide⟩

theorem witness_TileIsIdentifiedAndItsLifeKept_8 : ∃ (s : State) (acked : Bool) (b : List Nat), s.get
  CX_TILE_STATUS_id_state = 1 ∧ (b.all fun x => decide (x < 256)) = true ∧ idHeaderOk b = true ∧ idNum b 0x640 2 ≠
  crc16 (idBytes b 0x40 0x600) :=
  ⟨(fun s => (({ s with tile := State.reset.tile, shut := [], evReq := [], svc := { State.reset.svc with tap := { State.reset.svc.tap with ir := 1 } }, dies := [], chans := [], pwr := State.reset.pwr } : State).set (CX_TILE_STATUS_id_state) 1)) State.reset, true, (idHeader ++ [1]), by decide +kernel⟩

theorem witness_TileIsIdentifiedAndItsLifeKept_9 : ∃ (s : State) (b : List Nat), s.get CX_TILE_STATUS_id_state = 1 ∧
  (b.all fun x => decide (x < 256)) = true ∧ idHeaderOk b = true ∧ idNum b 0x640 2 = crc16 (idBytes b 0x40 0x600) :=
  ⟨(fun s => (({ s with tile := State.reset.tile, shut := [], evReq := [], svc := { State.reset.svc with tap := { State.reset.svc.tap with ir := 1 } }, dies := [], chans := [], pwr := State.reset.pwr } : State).set (CX_TILE_STATUS_id_state) 1)) State.reset, (idImage (List.replicate 1536 1) (List.replicate 1024 0)), ⟨by decide, idImage_bytes (by rw [List.all_replicate]; rfl) (by decide +kernel), idImage_header _ _, idImage_pads _ List.length_replicate⟩⟩

theorem witness_TileIsIdentifiedAndItsLifeKept_10 : ∃ (s : State) (b : List Nat) (k : Nat), s.get
  CX_TILE_STATUS_id_state = 1 ∧ (b.all fun x => decide (x < 256)) = true ∧ idHeaderOk b = true ∧ idNum b 0x640 2 =
  crc16 (idBytes b 0x40 0x600) ∧ idNewest b = some k :=
  ⟨(fun s => ((({ s with tile := State.reset.tile, shut := [], evReq := [], svc := { State.reset.svc with tap := { State.reset.svc.tap with ir := 1 } }, dies := [], chans := [], pwr := State.reset.pwr } : State).set (CX_TILE_STATUS_id_state) 1).set (CX_TILE_STATUS_warn) 1)) State.reset, (idImage (List.replicate 1536 1) idSlots), 2, ⟨by decide, idImage_bytes (by rw [List.all_replicate]; rfl) (by decide +kernel), idImage_header _ _, idImage_pads _ List.length_replicate, (idImage_newest List.length_replicate).trans newest_two⟩⟩

theorem witness_TileIsIdentifiedAndItsLifeKept_11 : ∃ (s : State) (b : List Nat), s.get CX_TILE_STATUS_id_state = 1 ∧
  (b.all fun x => decide (x < 256)) = true ∧ idHeaderOk b = true ∧ idNum b 0x640 2 = crc16 (idBytes b 0x40 0x600) ∧
  idNewest b = none :=
  ⟨(fun s => (({ s with tile := State.reset.tile, shut := [], evReq := [], svc := { State.reset.svc with tap := { State.reset.svc.tap with ir := 1 } }, dies := [], chans := [], pwr := State.reset.pwr } : State).set (CX_TILE_STATUS_id_state) 1)) State.reset, (idImage (List.replicate 1536 1) (List.replicate 1024 0)), ⟨by decide, idImage_bytes (by rw [List.all_replicate]; rfl) (by decide +kernel), idImage_header _ _, idImage_pads _ List.length_replicate, (idImage_newest List.length_replicate).trans newest_none⟩⟩

theorem witness_TileIsIdentifiedAndItsLifeKept_13 : ∃ (s : State) (op : Bool) (len a : Nat), len < 32 ∧ a < 65536 ∧
  s.get CX_TILE_I2C_CTRL_state = 1 :=
  ⟨(fun s => (({ s with tile := State.reset.tile, shut := [], evReq := [], svc := { State.reset.svc with tap := { State.reset.svc.tap with ir := 1 } }, dies := [], chans := [], pwr := State.reset.pwr } : State).set (CX_TILE_I2C_CTRL_state) 1)) State.reset, true, 3, 2048, by decide⟩

theorem witness_TileIsIdentifiedAndItsLifeKept_14 : ∃ (s : State) (op : Bool) (len a : Nat), len < 32 ∧ a < 65536 ∧
  s.get CX_TILE_I2C_CTRL_state ≠ 1 ∧ (s.on CX_TILE_STATUS_present = false ∨ s.svc.tap.ir = 0) :=
  ⟨(fun s => ((({ s with tile := State.reset.tile, shut := [], evReq := [], svc := { State.reset.svc with tap := { State.reset.svc.tap with ir := 1 } }, dies := [], chans := [], pwr := State.reset.pwr } : State).set (CX_TILE_I2C_CTRL_state) 0).set (CX_TILE_STATUS_present) 0)) State.reset, true, 3, 2048, by decide⟩

theorem witness_TileIsIdentifiedAndItsLifeKept_15 : ∃ (s : State) (len a : Nat), len < 32 ∧ a < 65536 ∧ s.get
  CX_TILE_I2C_CTRL_state ≠ 1 ∧ s.on CX_TILE_STATUS_present = true ∧ s.svc.tap.ir ≠ 0 ∧ (a < 0x800 + 64 * s.get
  CX_TILE_LIFE_next ∨ 0x840 + 64 * s.get CX_TILE_LIFE_next < a + len + 1 ∨ 32 < a % 32 + len + 1 ∨ s.on
  CX_TILE_LIFE_hold = true) :=
  ⟨(fun s => (((({ s with tile := State.reset.tile, shut := [], evReq := [], svc := { State.reset.svc with tap := { State.reset.svc.tap with ir := 1 } }, dies := [], chans := [], pwr := State.reset.pwr } : State).set (CX_TILE_I2C_CTRL_state) 0).set (CX_TILE_STATUS_present) 1).set (CX_TILE_LIFE_next) 2)) State.reset, 3, 2175, by decide⟩

theorem witness_TileIsIdentifiedAndItsLifeKept_16 : ∃ (s : State) (len a : Nat), len < 32 ∧ a < 65536 ∧ s.get
  CX_TILE_I2C_CTRL_state ≠ 1 ∧ s.on CX_TILE_STATUS_present = true ∧ s.svc.tap.ir ≠ 0 ∧ 0x800 + 64 * s.get
  CX_TILE_LIFE_next ≤ a ∧ a + len + 1 ≤ 0x840 + 64 * s.get CX_TILE_LIFE_next ∧ a % 32 + len + 1 ≤ 32 ∧ s.on
  CX_TILE_LIFE_hold = false :=
  ⟨(fun s => (((({ s with tile := State.reset.tile, shut := [], evReq := [], svc := { State.reset.svc with tap := { State.reset.svc.tap with ir := 1 } }, dies := [], chans := [], pwr := State.reset.pwr } : State).set (CX_TILE_I2C_CTRL_state) 0).set (CX_TILE_STATUS_present) 1).set (CX_TILE_LIFE_next) 2)) State.reset, 31, 2208, by decide⟩

theorem witness_TileIsIdentifiedAndItsLifeKept_17 : ∃ (s : State) (len a : Nat), len < 32 ∧ a < 65536 ∧ s.get
  CX_TILE_I2C_CTRL_state ≠ 1 ∧ s.on CX_TILE_STATUS_present = true ∧ s.svc.tap.ir ≠ 0 :=
  ⟨(fun s => ((({ s with tile := State.reset.tile, shut := [], evReq := [], svc := { State.reset.svc with tap := { State.reset.svc.tap with ir := 1 } }, dies := [], chans := [], pwr := State.reset.pwr } : State).set (CX_TILE_I2C_CTRL_state) 3).set (CX_TILE_STATUS_present) 1)) State.reset, 31, 0, by decide⟩

theorem witness_TileIsIdentifiedAndItsLifeKept_18 : ∃ (s : State) (acked : Bool) (d : List Nat), s.get
  CX_TILE_I2C_CTRL_state ≠ 1 :=
  ⟨(fun s => (({ s with tile := State.reset.tile, shut := [], evReq := [], svc := { State.reset.svc with tap := { State.reset.svc.tap with ir := 1 } }, dies := [], chans := [], pwr := State.reset.pwr } : State).set (CX_TILE_I2C_CTRL_state) 2)) State.reset, true, [], by decide⟩

theorem witness_TileIsIdentifiedAndItsLifeKept_19 : ∃ (s : State) (d : List Nat), s.get CX_TILE_I2C_CTRL_state = 1 ∧
  (d.all fun x => decide (x < 256)) = true :=
  ⟨(fun s => (({ s with tile := State.reset.tile, shut := [], evReq := [], svc := { State.reset.svc with tap := { State.reset.svc.tap with ir := 1 } }, dies := [], chans := [], pwr := State.reset.pwr } : State).set (CX_TILE_I2C_CTRL_state) 1)) State.reset, [1], by decide⟩

theorem witness_TileIsIdentifiedAndItsLifeKept_20 : ∃ (s : State) (d : List Nat) (i : Nat), s.get
  CX_TILE_I2C_CTRL_state = 1 ∧ (d.all fun x => decide (x < 256)) = true ∧ s.tile.i2cOp = false ∧ i < d.length ∧ i ≤
  s.tile.i2cLen ∧ i < 32 :=
  ⟨(fun s => (({ s with tile := { State.reset.tile with i2cOp := false, i2cLen := 5 }, shut := [], evReq := [], svc := { State.reset.svc with tap := { State.reset.svc.tap with ir := 1 } }, dies := [], chans := [], pwr := State.reset.pwr } : State).set (CX_TILE_I2C_CTRL_state) 1)) State.reset, [9, 8, 7, 6, 5, 4], 5, by decide⟩

theorem witness_TileIsIdentifiedAndItsLifeKept_21 : ∃ (s : State) (d : List Nat), s.get CX_TILE_I2C_CTRL_state = 1 ∧
  (d.all fun x => decide (x < 256)) = true ∧ s.tile.i2cOp = true ∧ s.tile.i2cAddr ≤ 0x83F + 64 * s.get
  CX_TILE_LIFE_next ∧ 0x83F + 64 * s.get CX_TILE_LIFE_next ≤ s.tile.i2cAddr + s.tile.i2cLen :=
  ⟨(fun s => ((({ s with tile := { State.reset.tile with i2cOp := true, i2cLen := 31, i2cAddr := 2208 }, shut := [], evReq := [], svc := { State.reset.svc with tap := { State.reset.svc.tap with ir := 1 } }, dies := [], chans := [], pwr := State.reset.pwr } : State).set (CX_TILE_I2C_CTRL_state) 1).set (CX_TILE_LIFE_next) 2)) State.reset, [], by decide⟩

theorem witness_RegionLoopsRunAndStop_1 : ∃ (s : State) (r th tg : Nat), r < 96 ∧ th < 8 ∧ tg < 4096 ∧ (s.engine
  2).loop ≠ r :=
  ⟨(fun s => (({ s with tile := State.reset.tile, shut := [], evReq := [], svc := { State.reset.svc with tap := { State.reset.svc.tap with ir := 1 } }, dies := [], chans := [], pwr := State.reset.pwr } : State).set (CX_LE_LOOP_en 7) 1)) State.reset, 7, 3, 1234, by decide⟩

theorem witness_RegionLoopsRunAndStop_2 : ∃ (s : State) (r th tg : Nat), r < 96 ∧ th < 8 ∧ tg < 4096 ∧ s.on
  (CX_LE_LOOP_en r) = true :=
  ⟨(fun s => (({ s with tile := State.reset.tile, shut := [], evReq := [], svc := { State.reset.svc with tap := { State.reset.svc.tap with ir := 1 } }, dies := [], chans := [], pwr := State.reset.pwr } : State).set (CX_LE_LOOP_en 7) 1)) State.reset, 7, 3, 1234, by decide⟩

theorem witness_RegionLoopsRunAndStop_3 : ∃ (s : State) (r th tg : Nat), r < 96 ∧ th < 8 ∧ tg < 4096 ∧ s.on
  (CX_LE_LOOP_en r) = false ∧ (s.tileValid = false ∨ s.loopRegion r = false) :=
  ⟨(fun s => (({ s with tile := State.reset.tile, shut := [], evReq := [], svc := { State.reset.svc with tap := { State.reset.svc.tap with ir := 1 } }, dies := [], chans := [], pwr := State.reset.pwr } : State).set (CX_TILE_STATUS_id_state) 1)) State.reset, 7, 3, 1234, by decide⟩

theorem witness_RegionLoopsRunAndStop_4 : ∃ (s : State) (r th tg i : Nat), r < 96 ∧ i < 16 ∧ th < 8 ∧ tg < 4096 ∧ s.on
  (CX_LE_LOOP_en r) = false ∧ s.tileValid = true ∧ s.loopRegion r = true ∧ s.svc.assay = none :=
  ⟨(fun s => ((({ s with tile := State.reset.tile, shut := [], evReq := [], svc := { State.reset.svc with tap := { State.reset.svc.tap with ir := 1 } }, dies := [], chans := [], pwr := State.reset.pwr, latch := [(7, 3)] } : State).set (CX_TILE_STATUS_id_state) 2).set (FE_CH_CFG_trim 0 28) 77)) State.reset, 7, 3, 1234, 0, by decide⟩

theorem witness_RegionLoopsRunAndStop_5 : ∃ (s : State) (r : Nat) (good ovr : Bool), r < 96 ∧ s.on (CX_LE_LOOP_en r) =
  false :=
  ⟨(fun s => (({ s with tile := State.reset.tile, shut := [], evReq := [], svc := { State.reset.svc with tap := { State.reset.svc.tap with ir := 1 } }, dies := [], chans := [], pwr := State.reset.pwr } : State).set (CX_LE_LOOP_en 7) 0)) State.reset, 7, true, false, by decide⟩

theorem witness_RegionLoopsRunAndStop_6 : ∃ (s : State) (r : Nat) (good ovr : Bool), r < 96 ∧ s.on (CX_LE_LOOP_en r) =
  true ∧ (s.rloop r).n = 0 :=
  ⟨(fun s => (({ s with tile := { State.reset.tile with loops := [(7, ⟨⟨32768 * 2 ^ 20, 0, 0, 32768, 0⟩, 0, 0, 63, 0, false, List.replicate 16 500, List.replicate 16 500⟩)] }, shut := [], evReq := [], svc := { State.reset.svc with tap := { State.reset.svc.tap with ir := 1 } }, dies := [], chans := [], pwr := State.reset.pwr } : State).set (CX_LE_LOOP_en 7) 1)) State.reset, 7, true, false, by decide⟩

theorem witness_RegionLoopsRunAndStop_7 : ∃ (s : State) (r q : Nat) (ovr : Bool), r < 96 ∧ q < 96 ∧ s.on
  (CX_LE_LOOP_en r) = true ∧ 0 < (s.rloop r).n ∧ s.on (CX_LE_LOOP_en q) = true :=
  ⟨(fun s => ((({ s with tile := { State.reset.tile with loops := [(7, ⟨⟨32768 * 2 ^ 20, 0, 0, 32768, 0⟩, 3, 300, 5, 0, false, List.replicate 16 500, List.replicate 16 500⟩)] }, shut := [], evReq := [], svc := { State.reset.svc with tap := { State.reset.svc.tap with ir := 1 } }, dies := [], chans := [], pwr := State.reset.pwr } : State).set (CX_LE_LOOP_en 7) 1).set (CX_LE_LOOP_en 9) 1)) State.reset, 7, 9, false, by decide⟩

theorem witness_RegionLoopsRunAndStop_8 : ∃ (s : State) (r : Nat), r < 96 ∧ s.on (CX_LE_LOOP_en r) = true ∧ 0 <
  (s.rloop r).n ∧ s.injOn 2 r = false :=
  ⟨(fun s => ((({ s with tile := { State.reset.tile with loops := [(7, ⟨⟨32768 * 2 ^ 20, 0, 0, 32768, 0⟩, 3, 300, 5, 1, false, List.replicate 16 500, List.replicate 16 500⟩)] }, shut := [], evReq := [], svc := { State.reset.svc with tap := { State.reset.svc.tap with ir := 1 } }, dies := [], chans := [], pwr := State.reset.pwr } : State).set (CX_LE_LOOP_en 7) 1).set (LE_CAP_STATUS_state 2) 0)) State.reset, 7, by decide⟩

theorem witness_RegionLoopsRunAndStop_9 : ∃ (s : State) (r y : Nat) (e : Int) (c : Coefs), r < 96 ∧ s.on
  (CX_LE_LOOP_en r) = true ∧ 0 < (s.rloop r).n ∧ s.injOn 2 r = false ∧ y = (2 * (s.rloop r).sum + (s.rloop r).n) / (2
  * (s.rloop r).n) ∧ y < 65536 ∧ c = s.coefs 2 ∧ e = sat16 ((s.get (CX_LE_LOOP_target r) : Int) - y) ∧ e.natAbs ≤
  c.eLim :=
  ⟨(fun s => ((((({ s with tile := { State.reset.tile with loops := [(7, ⟨⟨32768 * 2 ^ 20, 0, 0, 32768, 0⟩, 3, 301, 5, 0, false, List.replicate 16 500, List.replicate 16 500⟩)] }, shut := [], evReq := [], svc := { State.reset.svc with tap := { State.reset.svc.tap with ir := 1 } }, dies := [], chans := [], pwr := State.reset.pwr } : State).set (CX_LE_LOOP_en 7) 1).set (LE_CAP_STATUS_state 2) 0).set (CX_LE_LOOP_target 7) 120).set (LE_CTRL_host_in_force 2) 0)) State.reset, 7, 100, 20, cxSet.cxLimits, by decide⟩

theorem witness_CoresHaltAndStart_1 : ∃ (s : State) (i : Nat), s.get MG_STATUS_state = 0 ∧ s.repairOf memIram i = none
  :=
  ⟨(fun s => (({ s with mg := { State.reset.mg with wdog := 0, iram := [(4, 5)], dram := [(4, 5)] }, svc := State.reset.svc, evReq := [], pwr := State.reset.pwr, prot := State.reset.prot } : State).set (MG_STATUS_state) 0)) State.reset, 4, by decide⟩

theorem witness_CoresHaltAndStart_2 : ∃ (s : State), s.get MG_STATUS_state ≠ 0 :=
  ⟨(fun s => (({ s with mg := { State.reset.mg with wdog := 0 }, svc := State.reset.svc, evReq := [], pwr := State.reset.pwr, prot := State.reset.prot } : State).set (MG_STATUS_state) 2)) State.reset, by decide⟩

theorem witness_CoresHaltAndStart_3 : ∃ (s : State), s.get MG_STATUS_state = 2 :=
  ⟨(fun s => (({ s with mg := { State.reset.mg with wdog := 0 }, svc := State.reset.svc, evReq := [], pwr := State.reset.pwr, prot := State.reset.prot } : State).set (MG_STATUS_state) 2)) State.reset, by decide⟩

theorem witness_CoresHaltAndStart_4 : ∃ (s : State), s.get MG_STATUS_state ≠ 2 :=
  ⟨(fun s => (({ s with mg := { State.reset.mg with wdog := 0 }, svc := State.reset.svc, evReq := [], pwr := State.reset.pwr, prot := State.reset.prot } : State).set (MG_STATUS_state) 1)) State.reset, by decide⟩

theorem witness_CoresHaltAndStart_5 : ∃ (s : State), s.get MG_STATUS_state = 2 :=
  ⟨(fun s => (({ s with mg := { State.reset.mg with wdog := 0 }, svc := State.reset.svc, evReq := [], pwr := State.reset.pwr, prot := State.reset.prot } : State).set (MG_STATUS_state) 2)) State.reset, by decide⟩

theorem witness_CoresHaltAndStart_6 : ∃ (s : State), s.get MG_STATUS_state ≠ 2 :=
  ⟨(fun s => (({ s with mg := { State.reset.mg with wdog := 0 }, svc := State.reset.svc, evReq := [], pwr := State.reset.pwr, prot := State.reset.prot } : State).set (MG_STATUS_state) 1)) State.reset, by decide⟩

theorem witness_CoresHaltAndStart_7 : ∃ (s : State), s.get MG_STATUS_state = 2 ∧ s.get MG_WDOG_period ≠ 0 :=
  ⟨(fun s => ((({ s with mg := { State.reset.mg with wdog := 0 }, svc := State.reset.svc, evReq := [], pwr := State.reset.pwr, prot := State.reset.prot } : State).set (MG_STATUS_state) 2).set (MG_WDOG_period) 5)) State.reset, by decide⟩

theorem witness_CoresHaltAndStart_8 : ∃ (s : State), s.get MG_STATUS_state ≠ 2 :=
  ⟨(fun s => (({ s with mg := { State.reset.mg with wdog := 0 }, svc := State.reset.svc, evReq := [], pwr := State.reset.pwr, prot := State.reset.prot } : State).set (MG_STATUS_state) 1)) State.reset, by decide⟩

theorem witness_CoresHaltAndStart_9 : ∃ (s : State), s.get MG_STATUS_state = 2 :=
  ⟨(fun s => (({ s with mg := { State.reset.mg with wdog := 0 }, svc := State.reset.svc, evReq := [], pwr := State.reset.pwr, prot := State.reset.prot } : State).set (MG_STATUS_state) 2)) State.reset, by decide⟩

theorem witness_CoresHaltAndStart_10 : ∃ (s : State), s.get MG_STATUS_state ≠ 2 :=
  ⟨(fun s => (({ s with mg := { State.reset.mg with wdog := 0 }, svc := State.reset.svc, evReq := [], pwr := State.reset.pwr, prot := State.reset.prot } : State).set (MG_STATUS_state) 1)) State.reset, by decide⟩

theorem witness_CoresHaltAndStart_11 : ∃ (s : State), s.get MG_WDOG_period = 0 :=
  ⟨(fun s => (({ s with mg := { State.reset.mg with wdog := 0 }, svc := State.reset.svc, evReq := [], pwr := State.reset.pwr, prot := State.reset.prot } : State).set (MG_STATUS_state) 2)) State.reset, by decide⟩

theorem witness_CoresHaltAndStart_13 : ∃ (s : State), s.get MG_STATUS_state = 3 ∧ s.svc.assay = none :=
  ⟨(fun s => ((({ s with mg := { State.reset.mg with wdog := 0 }, svc := State.reset.svc, evReq := [], pwr := State.reset.pwr, prot := State.reset.prot } : State).set (MG_STATUS_state) 3).set (MG_WDOG_period) 77)) State.reset, by decide⟩

theorem witness_CoresHaltAndStart_14 : ∃ (s : State) (i : Nat), s.get MG_STATUS_state = 3 ∧ s.svc.assay = some (7, i)
  :=
  ⟨(fun s => ((({ s with mg := { State.reset.mg with wdog := 0 }, svc := { State.reset.svc with assay := some (7, 0) }, evReq := [], pwr := State.reset.pwr, prot := State.reset.prot } : State).set (MG_STATUS_state) 3).set (CX_ASSAY_STATUS_state) 1)) State.reset, 0, by decide⟩

theorem witness_CoresHaltAndStart_15 : ∃ (s : State), s.get MG_STATUS_state = 2 :=
  ⟨(fun s => (({ s with mg := { State.reset.mg with wdog := 0 }, svc := State.reset.svc, evReq := [], pwr := State.reset.pwr, prot := State.reset.prot } : State).set (MG_STATUS_state) 2)) State.reset, by decide⟩

theorem witness_CoresHaltAndStart_16 : ∃ (s : State), (s.get MG_STATUS_state = 0 ∨ s.get MG_STATUS_state = 1) :=
  ⟨(fun s => (({ s with mg := { State.reset.mg with wdog := 0 }, svc := State.reset.svc, evReq := [], pwr := State.reset.pwr, prot := State.reset.prot } : State).set (MG_STATUS_state) 1)) State.reset, by decide⟩

theorem witness_CoresHaltAndStart_17 : ∃ (s : State) (n k : Nat), s.get MG_STATUS_state = 3 ∧ s.mg.autoDue = true ∧
  s.on MG_CTRL_auto = true ∧ k = min n (s.get MG_STATUS_restarts) ∧ k < 3 ∧ s.svc.assay = none :=
  ⟨(fun s => ((((({ s with mg := { State.reset.mg with wdog := 0, autoDue := true }, svc := State.reset.svc, evReq := [], pwr := State.reset.pwr, prot := State.reset.prot } : State).set (MG_STATUS_state) 3).set (MG_CTRL_auto) 1).set (MG_STATUS_cause) 2).set (MG_STATUS_restarts) 3)) State.reset, 2, 2, by decide⟩

theorem witness_CoresHaltAndStart_18 : ∃ (s : State) (n k : Nat), s.get MG_STATUS_state = 3 ∧ s.mg.autoDue = true ∧ k
  = min n (s.get MG_STATUS_restarts) ∧ (s.on MG_CTRL_auto = false ∨ 3 ≤ k) :=
  ⟨(fun s => (((({ s with mg := { State.reset.mg with wdog := 0, autoDue := true }, svc := State.reset.svc, evReq := [], pwr := State.reset.pwr, prot := State.reset.prot } : State).set (MG_STATUS_state) 3).set (MG_CTRL_auto) 1).set (MG_STATUS_restarts) 3)) State.reset, 4, 3, by decide⟩

theorem witness_CoresHaltAndStart_19 : ∃ (s : State) (n : Nat), (s.get MG_STATUS_state ≠ 3 ∨ s.mg.autoDue = false) :=
  ⟨(fun s => ((({ s with mg := { State.reset.mg with wdog := 0, autoDue := false }, svc := State.reset.svc, evReq := [], pwr := State.reset.pwr, prot := State.reset.prot } : State).set (MG_STATUS_state) 3).set (MG_CTRL_auto) 1)) State.reset, 0, by decide⟩

theorem witness_ImagesAreCheckedAndSwitched_1 : ∃ (s : State), (s.get MG_IMG_CTRL_state = 1 ∨ s.get MG_IMG_CTRL_state
  = 2) :=
  ⟨(fun s => (({ s with mg := { State.reset.mg with wdog := 0 }, svc := State.reset.svc, evReq := [], pwr := State.reset.pwr, prot := State.reset.prot } : State).set (MG_IMG_CTRL_state) 1)) State.reset, by decide⟩

theorem witness_ImagesAreCheckedAndSwitched_2 : ∃ (s : State), s.get MG_IMG_CTRL_state ≠ 1 ∧ s.get MG_IMG_CTRL_state ≠
  2 :=
  ⟨(fun s => (({ s with mg := { State.reset.mg with wdog := 0 }, svc := State.reset.svc, evReq := [], pwr := State.reset.pwr, prot := State.reset.prot } : State).set (MG_IMG_CTRL_state) 0)) State.reset, by decide⟩

theorem witness_ImagesAreCheckedAndSwitched_3 : ∃ (s : State), s.get MG_IMG_CTRL_state ≠ 1 :=
  ⟨(fun s => (({ s with mg := { State.reset.mg with wdog := 0 }, svc := State.reset.svc, evReq := [], pwr := State.reset.pwr, prot := State.reset.prot } : State).set (MG_IMG_CTRL_state) 2)) State.reset, by decide⟩

theorem witness_ImagesAreCheckedAndSwitched_4 : ∃ (s : State) (n : Nat), s.get MG_IMG_CTRL_state = 1 ∧
  (s.prot.bufRam.any fun b => decide (s.iramIndex true 0 ≤ b.word ∧ b.word < s.iramIndex true 0 + s.get MG_IMG_LEN_len
  / 8)) = false ∧ (s.get MG_IMG_LEN_len % 8 ≠ 0 ∨ s.get MG_IMG_LEN_len = 0 ∨ 131072 < s.get MG_IMG_LEN_len ∨ (n =
  s.get MG_IMG_LEN_len / 8 ∧ crc32 (wordBytes ((List.range n).map fun k => s.iramWord (s.iramIndex true 0 + k))) ≠
  s.get MG_IMG_CRC_crc)) :=
  ⟨(fun s => (((((({ s with mg := { State.reset.mg with wdog := 0, iram := [(16384, 0x0807060504030201)] }, svc := State.reset.svc, evReq := [], pwr := State.reset.pwr, prot := State.reset.prot } : State).set (MG_STATUS_state) 2).set (MG_IMG_CTRL_state) 1).set (MG_STATUS_active_half) 0).set (MG_IMG_LEN_len) 8).set (MG_IMG_CRC_crc) 1)) State.reset, 1, by decide +kernel⟩

theorem witness_ImagesAreCheckedAndSwitched_5 : ∃ (s : State) (n k : Nat), s.get MG_IMG_CTRL_state = 1 ∧
  (s.prot.bufRam.any fun b => decide (s.iramIndex true 0 ≤ b.word ∧ b.word < s.iramIndex true 0 + s.get MG_IMG_LEN_len
  / 8)) = false ∧ n = s.get MG_IMG_LEN_len / 8 ∧ k < n ∧ s.mark memIram (s.iramIndex true 0 + k) ≠ 0 :=
  ⟨(fun s => State.setMark ((((((({ s with mg := { State.reset.mg with wdog := 0, iram := [(16384, 0x0807060504030201)] }, svc := State.reset.svc, evReq := [], pwr := State.reset.pwr, prot := State.reset.prot } : State).set (MG_STATUS_state) 2).set (MG_IMG_CTRL_state) 1).set (MG_STATUS_active_half) 0).set (MG_IMG_LEN_len) 8).set (MG_IMG_CRC_crc) (crc32 [1, 2, 3, 4, 5, 6, 7, 8]))) memIram 16384 1) State.reset, 1, 0, by decide +kernel⟩

theorem witness_ImagesAreCheckedAndSwitched_6 : ∃ (s : State) (n : Nat), s.get MG_IMG_CTRL_state = 1 ∧
  (s.prot.bufRam.any fun b => decide (s.iramIndex true 0 ≤ b.word ∧ b.word < s.iramIndex true 0 + s.get MG_IMG_LEN_len
  / 8)) = false ∧ (s.get MG_IMG_LEN_len) % 8 = 0 ∧ 8 ≤ s.get MG_IMG_LEN_len ∧ s.get MG_IMG_LEN_len ≤ 131072 ∧ n =
  s.get MG_IMG_LEN_len / 8 ∧ ((∀ k ∈ List.range n, s.mark memIram (s.iramIndex true 0 + k) = 0)) ∧ crc32 (wordBytes
  ((List.range n).map fun k => s.iramWord (s.iramIndex true 0 + k))) = s.get MG_IMG_CRC_crc ∧ s.get MG_STATUS_state =
  2 :=
  ⟨(fun s => (((((({ s with mg := { State.reset.mg with wdog := 0, iram := [(16384, 0x0807060504030201)] }, svc := State.reset.svc, evReq := [], pwr := State.reset.pwr, prot := State.reset.prot } : State).set (MG_STATUS_state) 2).set (MG_IMG_CTRL_state) 1).set (MG_STATUS_active_half) 0).set (MG_IMG_LEN_len) 8).set (MG_IMG_CRC_crc) (crc32 [1, 2, 3, 4, 5, 6, 7, 8]))) State.reset, 1, by decide +kernel⟩

theorem witness_ImagesAreCheckedAndSwitched_7 : ∃ (s : State) (n off : Nat), s.get MG_IMG_CTRL_state = 1 ∧
  (s.prot.bufRam.any fun b => decide (s.iramIndex true 0 ≤ b.word ∧ b.word < s.iramIndex true 0 + s.get MG_IMG_LEN_len
  / 8)) = false ∧ off < 0x20000 ∧ (s.get MG_IMG_LEN_len) % 8 = 0 ∧ 8 ≤ s.get MG_IMG_LEN_len ∧ s.get MG_IMG_LEN_len ≤
  131072 ∧ n = s.get MG_IMG_LEN_len / 8 ∧ ((∀ k ∈ List.range n, s.mark memIram (s.iramIndex true 0 + k) = 0)) ∧ crc32
  (wordBytes ((List.range n).map fun k => s.iramWord (s.iramIndex true 0 + k))) = s.get MG_IMG_CRC_crc ∧ s.get
  MG_STATUS_state = 1 ∧ s.svc.assay = none :=
  ⟨(fun s => (((((({ s with mg := { State.reset.mg with wdog := 0, iram := [(16384, 0x0807060504030201)] }, svc := State.reset.svc, evReq := [], pwr := State.reset.pwr, prot := State.reset.prot } : State).set (MG_STATUS_state) 1).set (MG_IMG_CTRL_state) 1).set (MG_STATUS_active_half) 0).set (MG_IMG_LEN_len) 8).set (MG_IMG_CRC_crc) (crc32 [1, 2, 3, 4, 5, 6, 7, 8]))) State.reset, 1, 8, by decide +kernel⟩

theorem witness_ImagesAreCheckedAndSwitched_8 : ∃ (s : State) (n off : Nat), s.get MG_IMG_CTRL_state = 1 ∧
  (s.prot.bufRam.any fun b => decide (s.iramIndex true 0 ≤ b.word ∧ b.word < s.iramIndex true 0 + s.get MG_IMG_LEN_len
  / 8)) = false ∧ off < 0x20000 ∧ (s.get MG_IMG_LEN_len) % 8 = 0 ∧ 8 ≤ s.get MG_IMG_LEN_len ∧ s.get MG_IMG_LEN_len ≤
  131072 ∧ n = s.get MG_IMG_LEN_len / 8 ∧ ((∀ k ∈ List.range n, s.mark memIram (s.iramIndex true 0 + k) = 0)) ∧ crc32
  (wordBytes ((List.range n).map fun k => s.iramWord (s.iramIndex true 0 + k))) = s.get MG_IMG_CRC_crc ∧ (s.get
  MG_STATUS_state = 0 ∨ s.get MG_STATUS_state = 3) :=
  ⟨(fun s => (((((({ s with mg := { State.reset.mg with wdog := 0, iram := [(16384, 0x0807060504030201)] }, svc := State.reset.svc, evReq := [], pwr := State.reset.pwr, prot := State.reset.prot } : State).set (MG_STATUS_state) 3).set (MG_IMG_CTRL_state) 1).set (MG_STATUS_active_half) 0).set (MG_IMG_LEN_len) 8).set (MG_IMG_CRC_crc) (crc32 [1, 2, 3, 4, 5, 6, 7, 8]))) State.reset, 1, 8, by decide +kernel⟩

theorem witness_ImagesAreCheckedAndSwitched_9 : ∃ (s : State), s.get MG_IMG_CTRL_state = 1 ∧ (s.prot.bufRam.any fun b
  => decide (s.iramIndex true 0 ≤ b.word ∧ b.word < s.iramIndex true 0 + s.get MG_IMG_LEN_len / 8)) = true :=
  ⟨(fun s => (((((({ s with mg := { State.reset.mg with wdog := 0, iram := [(16384, 0x0807060504030201)] }, svc := State.reset.svc, evReq := [], pwr := State.reset.pwr, prot := { State.reset.prot with bufRam := some ⟨16384, 1, 7⟩ } } : State).set (MG_STATUS_state) 2).set (MG_IMG_CTRL_state) 1).set (MG_STATUS_active_half) 0).set (MG_IMG_LEN_len) 8).set (MG_IMG_CRC_crc) (crc32 [1, 2, 3, 4, 5, 6, 7, 8]))) State.reset, by decide +kernel⟩

theorem witness_ImagesAreCheckedAndSwitched_10 : ∃ (s : State) (off : Nat), s.get MG_IMG_CTRL_state = 2 ∧ s.get
  MG_STATUS_state = 2 ∧ off < 0x20000 ∧ s.svc.assay = none :=
  ⟨(fun s => ((({ s with mg := { State.reset.mg with wdog := 0 }, svc := State.reset.svc, evReq := [], pwr := State.reset.pwr, prot := State.reset.prot } : State).set (MG_STATUS_state) 2).set (MG_IMG_CTRL_state) 2)) State.reset, 8, by decide⟩

theorem witness_ImagesAreCheckedAndSwitched_11 : ∃ (s : State), (s.get MG_IMG_CTRL_state ≠ 2 ∨ s.get MG_STATUS_state ≠
  2) :=
  ⟨(fun s => ((({ s with mg := { State.reset.mg with wdog := 0 }, svc := State.reset.svc, evReq := [], pwr := State.reset.pwr, prot := State.reset.prot } : State).set (MG_STATUS_state) 3).set (MG_IMG_CTRL_state) 2)) State.reset, by decide⟩

theorem witness_ImagesAreCheckedAndSwitched_12 : ∃ (s : State), s.get MG_IMG_CTRL_state = 2 :=
  ⟨(fun s => (({ s with mg := { State.reset.mg with wdog := 0 }, svc := State.reset.svc, evReq := [], pwr := State.reset.pwr, prot := State.reset.prot } : State).set (MG_IMG_CTRL_state) 2)) State.reset, by decide⟩

theorem witness_ImagesAreCheckedAndSwitched_13 : ∃ (s : State), s.get MG_IMG_CTRL_state ≠ 2 :=
  ⟨(fun s => (({ s with mg := { State.reset.mg with wdog := 0 }, svc := State.reset.svc, evReq := [], pwr := State.reset.pwr, prot := State.reset.prot } : State).set (MG_IMG_CTRL_state) 1)) State.reset, by decide⟩

theorem witness_ImagesAreCheckedAndSwitched_14 : ∃ (s : State) (off : Nat), (s.get MG_IMG_CTRL_state = 2 ∨ s.get
  MG_IMG_CTRL_state = 5) ∧ (s.get MG_STATUS_state = 1 ∨ s.get MG_STATUS_state = 2) ∧ off < 0x20000 ∧ s.svc.assay =
  none :=
  ⟨(fun s => ((({ s with mg := { State.reset.mg with wdog := 0 }, svc := State.reset.svc, evReq := [], pwr := State.reset.pwr, prot := State.reset.prot } : State).set (MG_STATUS_state) 2).set (MG_IMG_CTRL_state) 5)) State.reset, 8, by decide⟩

theorem witness_ImagesAreCheckedAndSwitched_15 : ∃ (s : State) (off : Nat), (s.get MG_IMG_CTRL_state = 2 ∨ s.get
  MG_IMG_CTRL_state = 5) ∧ s.get MG_STATUS_state = 3 ∧ off < 0x20000 :=
  ⟨(fun s => ((({ s with mg := { State.reset.mg with wdog := 0 }, svc := State.reset.svc, evReq := [], pwr := State.reset.pwr, prot := State.reset.prot } : State).set (MG_STATUS_state) 3).set (MG_IMG_CTRL_state) 5)) State.reset, 8, by decide⟩

theorem witness_ImagesAreCheckedAndSwitched_16 : ∃ (s : State), s.get MG_IMG_CTRL_state ≠ 2 ∧ s.get MG_IMG_CTRL_state
  ≠ 5 :=
  ⟨(fun s => ((({ s with mg := { State.reset.mg with wdog := 0 }, svc := State.reset.svc, evReq := [], pwr := State.reset.pwr, prot := State.reset.prot } : State).set (MG_STATUS_state) 2).set (MG_IMG_CTRL_state) 1)) State.reset, by decide⟩

theorem witness_EventsAreLoggedQueuedAndClaimed_1 : ∃ (s : State) (us : Nat), (s.evReq = [] ∨ s.get MG_STATUS_state =
  0) :=
  ⟨(fun s => ({ s with mg := { State.reset.mg with wdog := 0 }, svc := State.reset.svc, evReq := [(5, 1)], pwr := State.reset.pwr, prot := State.reset.prot } : State)) State.reset, 9, by decide⟩

theorem witness_EventsAreLoggedQueuedAndClaimed_2 : ∃ (s : State) (us src arg wp : Nat) (rest : List (Nat × Nat)),
  s.evReq = (src, arg) :: rest ∧ s.get MG_STATUS_state ≠ 0 ∧ src < 512 ∧ arg < 65536 ∧ us < 2 ^ 64 ∧ s.evBit
  MG_EV_LOGEN_en src = true ∧ wp = s.get MG_EVLOG_wp ∧ wp < 4096 ∧ s.mg.evq.contains wp = false :=
  ⟨(fun s => (((((({ s with mg := { State.reset.mg with wdog := 0 }, svc := State.reset.svc, evReq := [(191, 0xABC), (200, 3)], pwr := State.reset.pwr, prot := State.reset.prot } : State).set (MG_STATUS_state) 2).set (MG_EV_LOGEN_en 5) 0x80000000).set (MG_EV_HOSTEN_en 5) 0x80000000).set (MG_EV_IRQEN_en 5) 0x80000000).set (MG_EVLOG_wp) 4095)) State.reset, (2 ^ 40 + 77), 191, 0xABC, 4095, [(200, 3)], by decide⟩

theorem witness_EventsAreLoggedQueuedAndClaimed_3 : ∃ (s : State) (us src arg wp : Nat) (rest : List (Nat × Nat)),
  s.evReq = (src, arg) :: rest ∧ s.get MG_STATUS_state ≠ 0 ∧ src < 512 ∧ arg < 65536 ∧ us < 2 ^ 64 ∧ s.evBit
  MG_EV_LOGEN_en src = true ∧ wp = s.get MG_EVLOG_wp ∧ wp < 4096 ∧ s.mg.evq.contains wp = true :=
  ⟨(fun s => ((((({ s with mg := { State.reset.mg with wdog := 0, evq := [4, 5] }, svc := State.reset.svc, evReq := [(191, 0xABC)], pwr := State.reset.pwr, prot := State.reset.prot } : State).set (MG_STATUS_state) 2).set (MG_EV_LOGEN_en 5) 0x80000000).set (MG_EV_HOSTEN_en 5) 0x80000000).set (MG_EVLOG_wp) 4)) State.reset, 77, 191, 0xABC, 4, [], by decide⟩

theorem witness_EventsAreLoggedQueuedAndClaimed_4 : ∃ (s : State) (us src arg : Nat) (rest : List (Nat × Nat)),
  s.evReq = (src, arg) :: rest ∧ s.get MG_STATUS_state ≠ 0 ∧ src < 512 ∧ arg < 65536 ∧ us < 2 ^ 64 ∧ s.evBit
  MG_EV_LOGEN_en src = false :=
  ⟨(fun s => (((({ s with mg := { State.reset.mg with wdog := 0 }, svc := State.reset.svc, evReq := [(191, 7)], pwr := State.reset.pwr, prot := State.reset.prot } : State).set (MG_STATUS_state) 2).set (MG_EV_LOGEN_en 5) 0).set (MG_EV_IRQEN_en 5) 0x80000000)) State.reset, 77, 191, 7, [], by decide⟩

theorem witness_EventsAreLoggedQueuedAndClaimed_5 : ∃ (s : State), ((∀ i ∈ List.range 512, s.evBit MG_EV_PEND_pend i =
  false)) :=
  ⟨(fun s => (({ s with mg := { State.reset.mg with wdog := 0 }, svc := State.reset.svc, evReq := [], pwr := State.reset.pwr, prot := State.reset.prot } : State).set (MG_EV_CLAIM_valid) 1)) State.reset, by decide +kernel⟩

theorem witness_EventsAreLoggedQueuedAndClaimed_6 : ∃ (s : State) (i j : Nat), i < 512 ∧ j < 512 ∧ s.evBit
  MG_EV_PEND_pend i = true ∧ ((∀ k ∈ List.range i, s.evBit MG_EV_PEND_pend k = false)) :=
  ⟨(fun s => (({ s with mg := { State.reset.mg with wdog := 0 }, svc := State.reset.svc, evReq := [], pwr := State.reset.pwr, prot := State.reset.prot } : State).set (MG_EV_PEND_pend 2) 0x90)) State.reset, 68, 71, by decide +kernel⟩

theorem witness_EventsAreLoggedQueuedAndClaimed_7 : ∃ (s : State), s.mg.evq = [] :=
  ⟨(fun s => (({ s with mg := { State.reset.mg with wdog := 0 }, svc := State.reset.svc, evReq := [], pwr := State.reset.pwr, prot := State.reset.prot } : State).set (MG_EVQ_LO_entry) 3)) State.reset, by decide⟩

theorem witness_EventsAreLoggedQueuedAndClaimed_8 : ∃ (s : State) (e v : Nat) (rest : List Nat), s.mg.evq = e :: rest
  ∧ ((∀ k ∈ List.range 8, s.mark memDram (0x18000 + 8 * e + k) = 0)) ∧ v = ofBytes ((List.range 8).map fun k =>
  s.dramByte (0x18000 + 8 * e + k)) :=
  ⟨(fun s => ({ s with mg := { State.reset.mg with wdog := 0, evq := [3, 9], dram := [(0x18019, 7), (0x1801F, 255)] }, svc := State.reset.svc, evReq := [], pwr := State.reset.pwr, prot := State.reset.prot } : State)) State.reset, 3, (255 * 2 ^ 56 + 7 * 256), [9], by decide⟩

theorem witness_EventsAreLoggedQueuedAndClaimed_10 : ∃ (s : State) (us : Nat), us < 2 ^ 64 :=
  ⟨(fun s => ({ s with mg := { State.reset.mg with wdog := 0 }, svc := State.reset.svc, evReq := [], pwr := State.reset.pwr, prot := State.reset.prot } : State)) State.reset, (2 ^ 40 + 5), by decide⟩

theorem witness_DmaChannelsCopyWordsAndHalt_1 : ∃ (s : State) (c : Nat), c < 8 ∧ c ≠ 0 ∧ s.get (MG_DMA_CTRL_state c) =
  1 :=
  ⟨(fun s => (({ s with mg := { State.reset.mg with wdog := 0 }, svc := State.reset.svc, evReq := [], pwr := State.reset.pwr, prot := State.reset.prot } : State).set (MG_DMA_CTRL_state 3) 1)) State.reset, 3, by decide⟩

theorem witness_DmaChannelsCopyWordsAndHalt_2 : ∃ (s : State) (c : Nat), c < 8 ∧ c ≠ 0 ∧ s.get (MG_DMA_CTRL_state c) ≠
  1 ∧ s.get (MG_DMA_LEN_bytes c) < 4 :=
  ⟨(fun s => (({ s with mg := { State.reset.mg with wdog := 0 }, svc := State.reset.svc, evReq := [], pwr := State.reset.pwr, prot := State.reset.prot } : State).set (MG_DMA_LEN_bytes 3) 3)) State.reset, 3, by decide⟩

theorem witness_DmaChannelsCopyWordsAndHalt_3 : ∃ (s : State) (c : Nat), c < 8 ∧ c ≠ 0 ∧ s.get (MG_DMA_CTRL_state c) ≠
  1 ∧ 4 ≤ s.get (MG_DMA_LEN_bytes c) :=
  ⟨(fun s => (((({ s with mg := { State.reset.mg with wdog := 0 }, svc := State.reset.svc, evReq := [], pwr := State.reset.pwr, prot := State.reset.prot } : State).set (MG_DMA_LEN_bytes 7) 9).set (MG_DMA_SRC_addr 7) 5).set (MG_DMA_DST_addr 7) 6)) State.reset, 7, by decide⟩

theorem witness_DmaChannelsCopyWordsAndHalt_4 : ∃ (s : State) (c : Nat) (d : Dma), c < 8 ∧ c ≠ 0 ∧ s.mg.dma.find? (fun
  e => e.1 == c) = some (c, d) :=
  ⟨(fun s => (({ s with mg := { State.reset.mg with wdog := 0, dma := [(3, ⟨16, 20, 5, false⟩)], dram := [] }, svc := State.reset.svc, evReq := [], pwr := State.reset.pwr, prot := State.reset.prot } : State).set (MG_DMA_CTRL_state 3) 1)) State.reset, 3, ⟨16, 20, 5, false⟩, by decide⟩

theorem witness_DmaChannelsCopyWordsAndHalt_5 : ∃ (s : State) (c : Nat), c < 8 ∧ c ≠ 0 ∧ s.mg.dma.find? (fun e => e.1
  == c) = none :=
  ⟨(fun s => (({ s with mg := { State.reset.mg with wdog := 0, dma := [(3, ⟨16, 20, 5, false⟩)], dram := [] }, svc := State.reset.svc, evReq := [], pwr := State.reset.pwr, prot := State.reset.prot } : State).set (MG_DMA_CTRL_state 3) 1)) State.reset, 4, by decide⟩

theorem witness_DmaChannelsCopyWordsAndHalt_6 : ∃ (s : State) (c : Nat) (r : EccResult), c < 8 ∧ c ≠ 0 ∧
  s.mg.dma.find? (fun e => e.1 == c) = none :=
  ⟨(fun s => (({ s with mg := { State.reset.mg with wdog := 0, dma := [(3, ⟨16, 20, 5, false⟩)], dram := [] }, svc := State.reset.svc, evReq := [], pwr := State.reset.pwr, prot := State.reset.prot } : State).set (MG_DMA_CTRL_state 3) 1)) State.reset, 4, .clean, by decide⟩

theorem witness_DmaChannelsCopyWordsAndHalt_7 : ∃ (s : State) (c a b x : Nat) (d : Dma), c < 8 ∧ c ≠ 0 ∧
  s.mg.dma.find? (fun e => e.1 == c) = some (c, d) ∧ d.src = 0x40040000 + 4 * a ∧ d.dst = 0x40040000 + 4 * b ∧ a <
  0x6000 ∧ b < 0x6000 ∧ ((∀ k ∈ List.range 4, s.dramByte (4 * a + k) < 256 ∧ s.mark memDram (4 * a + k) = 0)) ∧ 1 <
  d.left ∧ d.abort = false :=
  ⟨(fun s => ((({ s with mg := { State.reset.mg with wdog := 0, dma := [(3, ⟨(0x40040000 + 4 * 5), (0x40040000 + 4 * 9), 5, false⟩)], dram := [(21, 7), (37, 9), (40, 3)] }, svc := State.reset.svc, evReq := [], pwr := State.reset.pwr, prot := State.reset.prot } : State).set (MG_DMA_CTRL_state 3) 1).set (MG_DMA_CTRL_src_inc 3) 1)) State.reset, 3, 5, 9, 37, ⟨0x40040014, 0x40040024, 5, false⟩, by decide⟩

theorem witness_DmaChannelsCopyWordsAndHalt_8 : ∃ (s : State) (c a b x : Nat) (d : Dma), c < 8 ∧ c ≠ 0 ∧
  s.mg.dma.find? (fun e => e.1 == c) = some (c, d) ∧ d.src = 0x40040000 + 4 * a ∧ d.dst = 0x40040000 + 4 * b ∧ a <
  0x6000 ∧ b < 0x6000 ∧ ((∀ k ∈ List.range 4, s.dramByte (4 * a + k) < 256 ∧ s.mark memDram (4 * a + k) = 0)) ∧
  (d.left = 1 ∨ d.abort = true) :=
  ⟨(fun s => (({ s with mg := { State.reset.mg with wdog := 0, dma := [(3, ⟨(0x40040000 + 4 * 5), (0x40040000 + 4 * 9), 1, false⟩)], dram := [(21, 7), (37, 9)] }, svc := State.reset.svc, evReq := [], pwr := State.reset.pwr, prot := State.reset.prot } : State).set (MG_DMA_CTRL_state 3) 1)) State.reset, 3, 5, 9, 37, ⟨0x40040014, 0x40040024, 1, false⟩, by decide⟩

theorem witness_DmaChannelsCopyWordsAndHalt_9 : ∃ (s : State) (c : Nat) (r : EccResult) (d : Dma), c < 8 ∧ c ≠ 0 ∧
  s.mg.dma.find? (fun e => e.1 == c) = some (c, d) ∧ 0x60000000 ≤ d.src :=
  ⟨(fun s => (({ s with mg := { State.reset.mg with wdog := 0, dma := [(3, ⟨0x60000000, 0x40040000, 1, false⟩)], dram := [] }, svc := State.reset.svc, evReq := [], pwr := State.reset.pwr, prot := State.reset.prot } : State).set (MG_DMA_CTRL_state 3) 1)) State.reset, 3, .clean, ⟨0x60000000, 0x40040000, 1, false⟩, by decide⟩

theorem witness_DmaChannelsCopyWordsAndHalt_10 : ∃ (s : State) (c a : Nat) (d : Dma), c < 8 ∧ c ≠ 0 ∧ s.mg.dma.find?
  (fun e => e.1 == c) = some (c, d) ∧ d.src = 0x40040000 + 4 * a ∧ a < 0x6000 ∧ ((∀ k ∈ List.range 4, s.mark memDram
  (4 * a + k) = 0)) ∧ 0x60000000 ≤ d.dst :=
  ⟨(fun s => (({ s with mg := { State.reset.mg with wdog := 0, dma := [(3, ⟨0x40040000, 0x60000000, 1, false⟩)], dram := [] }, svc := State.reset.svc, evReq := [], pwr := State.reset.pwr, prot := State.reset.prot } : State).set (MG_DMA_CTRL_state 3) 1)) State.reset, 3, 0, ⟨0x40040000, 0x60000000, 1, false⟩, by decide⟩

theorem witness_HousekeepingConvertsSequencesAndRequests_1 : ∃ (s : State), s.on HK_REG_CTRL_en = false :=
  ⟨(fun s => ({ s with mg := { State.reset.mg with wdog := 0 }, svc := State.reset.svc, evReq := [], pwr := State.reset.pwr, prot := State.reset.prot } : State)) State.reset, by decide⟩

theorem witness_HousekeepingConvertsSequencesAndRequests_2 : ∃ (s : State), s.on HK_REG_CTRL_en = true ∧
  s.mg.hk.waiting = true :=
  ⟨(fun s => (({ s with mg := { State.reset.mg with wdog := 0, hk := { State.reset.mg.hk with waiting := true } }, svc := State.reset.svc, evReq := [], pwr := State.reset.pwr, prot := State.reset.prot } : State).set (HK_REG_CTRL_en) 1)) State.reset, by decide⟩

theorem witness_HousekeepingConvertsSequencesAndRequests_3 : ∃ (s : State), s.on HK_REG_CTRL_en = true ∧
  s.mg.hk.waiting = false ∧ (s.mg.hk.seq ≠ [] ∨ s.mg.hk.phase ≠ 0) :=
  ⟨(fun s => (({ s with mg := { State.reset.mg with wdog := 0, hk := { State.reset.mg.hk with seq := [3] } }, svc := State.reset.svc, evReq := [], pwr := State.reset.pwr, prot := State.reset.prot } : State).set (HK_REG_CTRL_en) 1)) State.reset, by decide⟩

theorem witness_HousekeepingConvertsSequencesAndRequests_4 : ∃ (s : State) (k : Nat), s.on HK_REG_CTRL_en = true ∧
  s.mg.hk.waiting = false ∧ s.mg.hk.seq = [] ∧ s.mg.hk.phase = 0 ∧ k ≤ s.get HK_REG_CTRL_len_m1 :=
  ⟨(fun s => (((({ s with mg := { State.reset.mg with wdog := 0 }, svc := State.reset.svc, evReq := [], pwr := State.reset.pwr, prot := State.reset.prot } : State).set (HK_REG_CTRL_en) 1).set (HK_REG_CTRL_len_m1) 6).set (HK_SEQ_slot2 1) 33)) State.reset, 6, by decide⟩

theorem witness_HousekeepingConvertsSequencesAndRequests_5 : ∃ (s : State) (raw us : Nat), raw < 16384 ∧ us < 2 ^ 64 ∧
  s.mg.hk.queue = [] ∧ (s.mg.hk.seq = [] ∨ s.mg.hk.phase = 2) :=
  ⟨(fun s => ({ s with mg := { State.reset.mg with wdog := 0 }, svc := State.reset.svc, evReq := [], pwr := State.reset.pwr, prot := State.reset.prot } : State)) State.reset, 5, 6, by decide⟩

theorem witness_HousekeepingConvertsSequencesAndRequests_6 : ∃ (s : State) (raw us i q w : Nat) (rest : List Nat),
  s.mg.hk.queue = [] ∧ s.mg.hk.seq = i :: rest ∧ s.mg.hk.phase = 0 ∧ i < 64 ∧ raw < 16384 ∧ us < 2 ^ 64 ∧ (q = (if
  s.mg.hk.nr then 0x3FFF else s.hkCode raw)) ∧ (w = i * 2 ^ 26 + (if s.mg.hk.nr then 2 ^ 25 else 0) + (if
  s.mg.hk.restarted then 2 ^ 24 else 0) + s.get HK_STATUS_seq * 2 ^ 16 + q) ∧ 0x40040000 ≤ s.get HK_BUF_BASE_addr ∧
  s.get HK_BUF_BASE_addr - 0x40040000 + 4 * s.get HK_BUF_WP_wp + 4 ≤ 0x18000 ∧ w < 2 ^ 32 ∧ ((i < 40 ∨ 43 < i) ∧ (i <
  48 ∨ 51 < i)) :=
  ⟨(fun s => (((((({ s with mg := { State.reset.mg with wdog := 0, hk := { State.reset.mg.hk with seq := [5, 6], restarted := true } }, svc := State.reset.svc, evReq := [], pwr := State.reset.pwr, prot := State.reset.prot } : State).set (HK_BUF_BASE_addr) 0x40040100).set (HK_BUF_SIZE_size) 20).set (HK_BUF_WP_wp) 19).set (HK_STATUS_seq) 7).set (HK_CAL_gain) 32768)) State.reset, 1000, 6, 5, 1000, (5 * 2 ^ 26 + 2 ^ 24 + 7 * 2 ^ 16 + 1000), [6], by decide⟩

theorem witness_HousekeepingConvertsSequencesAndRequests_7 : ∃ (s : State) (raw us i : Nat) (rest : List Nat), raw <
  16384 ∧ us < 2 ^ 64 ∧ s.mg.hk.queue = [] ∧ s.mg.hk.seq = i :: rest ∧ s.mg.hk.phase = 0 ∧ i < 64 ∧ ((i < 40 ∨ 43 < i)
  ∧ (i < 48 ∨ 51 < i)) ∧ s.mg.hk.nr = false ∧ 0 ≤ (((raw : Int) - signed 16 (s.get HK_CAL_offset)) * (s.get
  HK_CAL_gain : Int) + 2 ^ 14) / 2 ^ 15 ∧ (((raw : Int) - signed 16 (s.get HK_CAL_offset)) * (s.get HK_CAL_gain : Int)
  + 2 ^ 14) / 2 ^ 15 ≤ 16383 :=
  ⟨(fun s => ((((({ s with mg := { State.reset.mg with wdog := 0, hk := { State.reset.mg.hk with seq := [5, 6] } }, svc := State.reset.svc, evReq := [], pwr := State.reset.pwr, prot := State.reset.prot } : State).set (HK_BUF_BASE_addr) 0x40040100).set (HK_BUF_SIZE_size) 20).set (HK_CAL_gain) 33000).set (HK_CAL_offset) 0xFFFE)) State.reset, 1000, 6, 5, [6], by decide⟩

theorem witness_HousekeepingConvertsSequencesAndRequests_8 : ∃ (s : State) (raw us i : Nat) (rest : List Nat), raw <
  16384 ∧ us < 2 ^ 64 ∧ s.mg.hk.queue = [] ∧ s.mg.hk.seq = i :: rest ∧ s.mg.hk.phase = 0 ∧ i < 64 ∧ ((i < 40 ∨ 43 < i)
  ∧ (i < 48 ∨ 51 < i)) ∧ s.mg.hk.nr = true :=
  ⟨(fun s => ((({ s with mg := { State.reset.mg with wdog := 0, hk := { State.reset.mg.hk with seq := [5, 6], nr := true } }, svc := State.reset.svc, evReq := [], pwr := State.reset.pwr, prot := State.reset.prot } : State).set (HK_BUF_BASE_addr) 0x40040100).set (HK_BUF_SIZE_size) 20)) State.reset, 1000, 6, 5, [6], by decide⟩

theorem witness_HousekeepingConvertsSequencesAndRequests_9 : ∃ (s : State) (raw us q : Nat) (r : HkReq) (rest : List
  HkReq), raw < 16384 ∧ us < 2 ^ 64 ∧ s.mg.hk.queue = r :: rest ∧ s.mg.hk.phase = 0 ∧ r.input < 40 ∧ (q = (if
  s.mg.hk.nr then 0x3FFF else s.hkCode raw)) :=
  ⟨(fun s => ((({ s with mg := { State.reset.mg with wdog := 0, hk := { State.reset.mg.hk with queue := [⟨5, true, false⟩, ⟨6, false, false⟩] } }, svc := State.reset.svc, evReq := [], pwr := State.reset.pwr, prot := State.reset.prot } : State).set (HK_STATUS_inj_next) 3).set (HK_CAL_gain) 32768)) State.reset, 1000, 6, 1000, ⟨5, true, false⟩, [⟨6, false, false⟩], by decide⟩

theorem witness_HousekeepingConvertsSequencesAndRequests_10 : ∃ (s : State) (i : Nat), i < 64 ∧ 4 ≤
  s.mg.hk.queue.length :=
  ⟨(fun s => ({ s with mg := { State.reset.mg with wdog := 0, hk := { State.reset.mg.hk with queue := List.replicate 4 ⟨5, true, false⟩ } }, svc := State.reset.svc, evReq := [], pwr := State.reset.pwr, prot := State.reset.prot } : State)) State.reset, 7, by decide⟩

theorem witness_HousekeepingConvertsSequencesAndRequests_11 : ∃ (s : State) (i : Nat), i < 64 ∧ s.mg.hk.queue.length <
  4 ∧ s.svc.assay = none :=
  ⟨(fun s => ({ s with mg := { State.reset.mg with wdog := 0, hk := { State.reset.mg.hk with queue := [⟨5, true, false⟩], seq := [3] } }, svc := State.reset.svc, evReq := [], pwr := State.reset.pwr, prot := State.reset.prot } : State)) State.reset, 7, by decide⟩

theorem witness_HousekeepingConvertsSequencesAndRequests_12 : ∃ (s : State), (s.on HK_STATUS_ref_ready = false ∨
  s.mg.hk.phase ≠ 0) :=
  ⟨(fun s => ({ s with mg := { State.reset.mg with wdog := 0 }, svc := State.reset.svc, evReq := [], pwr := State.reset.pwr, prot := State.reset.prot } : State)) State.reset, by decide⟩

theorem witness_HousekeepingConvertsSequencesAndRequests_13 : ∃ (s : State), s.on HK_STATUS_ref_ready = true ∧
  s.mg.hk.phase = 0 ∧ s.mg.hk.queue = [] :=
  ⟨(fun s => (({ s with mg := { State.reset.mg with wdog := 0, hk := { State.reset.mg.hk with seq := [3] } }, svc := State.reset.svc, evReq := [], pwr := State.reset.pwr, prot := State.reset.prot } : State).set (HK_STATUS_ref_ready) 1)) State.reset, by decide⟩

theorem witness_HousekeepingConvertsSequencesAndRequests_14 : ∃ (s : State) (r : HkReq), s.on HK_STATUS_ref_ready =
  true ∧ s.mg.hk.phase = 0 ∧ r ∈ s.mg.hk.queue :=
  ⟨(fun s => (({ s with mg := { State.reset.mg with wdog := 0, hk := { State.reset.mg.hk with queue := [⟨5, true, false⟩] } }, svc := State.reset.svc, evReq := [], pwr := State.reset.pwr, prot := State.reset.prot } : State).set (HK_STATUS_ref_ready) 1)) State.reset, ⟨5, true, false⟩, by decide⟩

theorem witness_HousekeepingConvertsSequencesAndRequests_15 : ∃ (s : State) (g o : Nat), g < 65536 ∧ o < 65536 ∧
  s.mg.hk.phase = 2 :=
  ⟨(fun s => ({ s with mg := { State.reset.mg with wdog := 0, hk := { State.reset.mg.hk with phase := 2, waiting := true } }, svc := State.reset.svc, evReq := [], pwr := State.reset.pwr, prot := State.reset.prot } : State)) State.reset, 33000, 65535, by decide⟩

theorem witness_HousekeepingConvertsSequencesAndRequests_16 : ∃ (s : State) (g o : Nat), g < 65536 ∧ o < 65536 ∧
  s.mg.hk.phase ≠ 2 :=
  ⟨(fun s => ({ s with mg := { State.reset.mg with wdog := 0, hk := { State.reset.mg.hk with phase := 1 } }, svc := State.reset.svc, evReq := [], pwr := State.reset.pwr, prot := State.reset.prot } : State)) State.reset, 33000, 65535, by decide⟩

theorem witness_HousekeepingConvertsSequencesAndRequests_18 : ∃ (s : State), s.mg.hk.phase ≠ 2 ∧ s.svc.assay = none :=
  ⟨(fun s => ((({ s with mg := { State.reset.mg with wdog := 0 }, svc := State.reset.svc, evReq := [], pwr := State.reset.pwr, prot := State.reset.prot } : State).set (HK_CTRL_ref_en) 1).set (HK_STATUS_ref_ready) 1)) State.reset, by decide⟩

theorem witness_HousekeepingConvertsSequencesAndRequests_19 : ∃ (s : State), s.mg.hk.phase = 2 ∧ s.svc.assay = none :=
  ⟨(fun s => (((({ s with mg := { State.reset.mg with wdog := 0, hk := { State.reset.mg.hk with phase := 2 } }, svc := State.reset.svc, evReq := [], pwr := State.reset.pwr, prot := State.reset.prot } : State).set (HK_CTRL_ref_en) 1).set (HK_STATUS_ref_ready) 1).set (HK_STATUS_calibrating) 1)) State.reset, by decide⟩

theorem witness_HousekeepingConvertsSequencesAndRequests_20 : ∃ (s : State), s.on HK_CTRL_ref_en = true :=
  ⟨(fun s => (({ s with mg := { State.reset.mg with wdog := 0 }, svc := State.reset.svc, evReq := [], pwr := State.reset.pwr, prot := State.reset.prot } : State).set (HK_CTRL_ref_en) 1)) State.reset, by decide⟩

theorem witness_HousekeepingConvertsSequencesAndRequests_21 : ∃ (s : State), s.on HK_CTRL_ref_en = false :=
  ⟨(fun s => ({ s with mg := { State.reset.mg with wdog := 0 }, svc := State.reset.svc, evReq := [], pwr := State.reset.pwr, prot := State.reset.prot } : State)) State.reset, by decide⟩

theorem witness_HousekeepingConvertsSequencesAndRequests_23 : ∃ (s : State), 0x40040000 ≤ s.get HK_BUF_BASE_addr ∧
  s.get HK_BUF_BASE_addr + 4 * s.get HK_BUF_SIZE_size ≤ 0x40058000 ∧ 16 ≤ s.get HK_BUF_SIZE_size ∧ s.svc.assay = none
  :=
  ⟨(fun s => ((({ s with mg := { State.reset.mg with wdog := 0 }, svc := State.reset.svc, evReq := [], pwr := State.reset.pwr, prot := State.reset.prot } : State).set (HK_BUF_BASE_addr) 0x40040100).set (HK_BUF_SIZE_size) 16)) State.reset, by decide⟩

theorem witness_HousekeepingConvertsSequencesAndRequests_24 : ∃ (s : State), (s.get HK_BUF_BASE_addr < 0x40040000 ∨
  0x40058000 < s.get HK_BUF_BASE_addr + 4 * s.get HK_BUF_SIZE_size ∨ s.get HK_BUF_SIZE_size < 16) :=
  ⟨(fun s => ((({ s with mg := { State.reset.mg with wdog := 0 }, svc := State.reset.svc, evReq := [], pwr := State.reset.pwr, prot := State.reset.prot } : State).set (HK_BUF_BASE_addr) 0x40040100).set (HK_BUF_SIZE_size) 15)) State.reset, by decide⟩

theorem witness_AcquisitionStartsAndStopsAtOrbitStarts_1 : ∃ (s : State), s.get CX_ACQ_STATUS_state < 2 ∧ s.get
  CX_PLATE_STATUS_state = 4 ∧ s.on CX_MT_STATUS_mt_valid = true ∧ s.on CX_HQ_STATUS_store_ready = true ∧ s.on
  CX_HQ_STATUS_flushing = false ∧ s.mt.edge.contains .flush = false ∧ s.get RC_FREEZE_STATUS_state ≠ 3 ∧ s.on
  OVN_STATUS_ready = true :=
  ⟨(fun s => (((((((({ s with mg := State.reset.mg, svc := State.reset.svc, evReq := [], shut := [], feByp := [], rc := State.reset.rc, store := State.reset.store, prot := State.reset.prot, activity := none, dies := [], mt := { State.reset.mt with running := true, orbit := 9, bucket := 2877 }, lanes := [], pwr := State.reset.pwr } : State).set (CX_PLATE_STATUS_state) 4).set (CX_MT_STATUS_mt_valid) 1).set (CX_HQ_STATUS_store_ready) 1).set (CX_HQ_STATUS_flushing) 0).set (RC_FREEZE_STATUS_state) 0).set (OVN_STATUS_ready) 1).set (CX_ACQ_STATUS_state) 0)) State.reset, by decide⟩

theorem witness_AcquisitionStartsAndStopsAtOrbitStarts_2 : ∃ (s : State), s.get CX_ACQ_STATUS_state < 2 ∧ s.get
  CX_PLATE_STATUS_state ≠ 4 :=
  ⟨(fun s => (((((((((({ s with mg := State.reset.mg, svc := State.reset.svc, evReq := [], shut := [], feByp := [], rc := State.reset.rc, store := State.reset.store, prot := State.reset.prot, activity := none, dies := [], mt := State.reset.mt, lanes := [], pwr := State.reset.pwr } : State).set (CX_PLATE_STATUS_state) 4).set (CX_MT_STATUS_mt_valid) 1).set (CX_HQ_STATUS_store_ready) 1).set (CX_HQ_STATUS_flushing) 0).set (RC_FREEZE_STATUS_state) 0).set (OVN_STATUS_ready) 1).set (CX_ACQ_STATUS_state) 0).set (CX_PLATE_STATUS_state) 0).set (OVN_STATUS_ready) 0)) State.reset, by decide⟩

theorem witness_AcquisitionStartsAndStopsAtOrbitStarts_3 : ∃ (s : State), s.get CX_ACQ_STATUS_state < 2 ∧ s.get
  CX_PLATE_STATUS_state = 4 ∧ s.on CX_MT_STATUS_mt_valid = false :=
  ⟨(fun s => (((((((((({ s with mg := State.reset.mg, svc := State.reset.svc, evReq := [], shut := [], feByp := [], rc := State.reset.rc, store := State.reset.store, prot := State.reset.prot, activity := none, dies := [], mt := State.reset.mt, lanes := [], pwr := State.reset.pwr } : State).set (CX_PLATE_STATUS_state) 4).set (CX_MT_STATUS_mt_valid) 1).set (CX_HQ_STATUS_store_ready) 1).set (CX_HQ_STATUS_flushing) 0).set (RC_FREEZE_STATUS_state) 0).set (OVN_STATUS_ready) 1).set (CX_ACQ_STATUS_state) 0).set (CX_MT_STATUS_mt_valid) 0).set (OVN_STATUS_ready) 0)) State.reset, by decide⟩

theorem witness_AcquisitionStartsAndStopsAtOrbitStarts_4 : ∃ (s : State), s.get CX_ACQ_STATUS_state < 2 ∧ s.get
  CX_PLATE_STATUS_state = 4 ∧ s.on CX_MT_STATUS_mt_valid = true ∧ (s.on CX_HQ_STATUS_store_ready = false ∨ s.on
  CX_HQ_STATUS_flushing = true ∨ s.mt.edge.contains .flush = true) :=
  ⟨(fun s => (((((((((({ s with mg := State.reset.mg, svc := State.reset.svc, evReq := [], shut := [], feByp := [], rc := State.reset.rc, store := State.reset.store, prot := State.reset.prot, activity := none, dies := [], mt := State.reset.mt, lanes := [], pwr := State.reset.pwr } : State).set (CX_PLATE_STATUS_state) 4).set (CX_MT_STATUS_mt_valid) 1).set (CX_HQ_STATUS_store_ready) 1).set (CX_HQ_STATUS_flushing) 0).set (RC_FREEZE_STATUS_state) 0).set (OVN_STATUS_ready) 1).set (CX_ACQ_STATUS_state) 0).set (CX_HQ_STATUS_flushing) 1).set (OVN_STATUS_ready) 0)) State.reset, by decide⟩

theorem witness_AcquisitionStartsAndStopsAtOrbitStarts_5 : ∃ (s : State), s.get CX_ACQ_STATUS_state < 2 ∧ s.get
  CX_PLATE_STATUS_state = 4 ∧ s.on CX_MT_STATUS_mt_valid = true ∧ s.on CX_HQ_STATUS_store_ready = true ∧ s.on
  CX_HQ_STATUS_flushing = false ∧ s.mt.edge.contains .flush = false ∧ s.get RC_FREEZE_STATUS_state = 3 :=
  ⟨(fun s => (((((((((({ s with mg := State.reset.mg, svc := State.reset.svc, evReq := [], shut := [], feByp := [], rc := State.reset.rc, store := State.reset.store, prot := State.reset.prot, activity := none, dies := [], mt := State.reset.mt, lanes := [], pwr := State.reset.pwr } : State).set (CX_PLATE_STATUS_state) 4).set (CX_MT_STATUS_mt_valid) 1).set (CX_HQ_STATUS_store_ready) 1).set (CX_HQ_STATUS_flushing) 0).set (RC_FREEZE_STATUS_state) 0).set (OVN_STATUS_ready) 1).set (CX_ACQ_STATUS_state) 0).set (RC_FREEZE_STATUS_state) 3).set (OVN_STATUS_ready) 0)) State.reset, by decide⟩

theorem witness_AcquisitionStartsAndStopsAtOrbitStarts_6 : ∃ (s : State), s.get CX_ACQ_STATUS_state < 2 ∧ s.get
  CX_PLATE_STATUS_state = 4 ∧ s.on CX_MT_STATUS_mt_valid = true ∧ s.on CX_HQ_STATUS_store_ready = true ∧ s.on
  CX_HQ_STATUS_flushing = false ∧ s.mt.edge.contains .flush = false ∧ s.get RC_FREEZE_STATUS_state ≠ 3 ∧ s.on
  OVN_STATUS_ready = false :=
  ⟨(fun s => ((((((((({ s with mg := State.reset.mg, svc := State.reset.svc, evReq := [], shut := [], feByp := [], rc := State.reset.rc, store := State.reset.store, prot := State.reset.prot, activity := none, dies := [], mt := State.reset.mt, lanes := [], pwr := State.reset.pwr } : State).set (CX_PLATE_STATUS_state) 4).set (CX_MT_STATUS_mt_valid) 1).set (CX_HQ_STATUS_store_ready) 1).set (CX_HQ_STATUS_flushing) 0).set (RC_FREEZE_STATUS_state) 0).set (OVN_STATUS_ready) 1).set (CX_ACQ_STATUS_state) 0).set (OVN_STATUS_ready) 0)) State.reset, by decide⟩

theorem witness_AcquisitionStartsAndStopsAtOrbitStarts_7 : ∃ (s : State), s.get CX_ACQ_STATUS_state = 2 :=
  ⟨(fun s => (({ s with mg := State.reset.mg, svc := State.reset.svc, evReq := [], shut := [], feByp := [], rc := State.reset.rc, store := State.reset.store, prot := State.reset.prot, activity := none, dies := [], mt := State.reset.mt, lanes := [], pwr := State.reset.pwr } : State).set (CX_ACQ_STATUS_state) 2)) State.reset, by decide⟩

theorem witness_AcquisitionStartsAndStopsAtOrbitStarts_8 : ∃ (s : State), s.get CX_ACQ_STATUS_state = 3 :=
  ⟨(fun s => (({ s with mg := State.reset.mg, svc := { State.reset.svc with acqLast := 77 }, evReq := [], shut := [], feByp := [], rc := State.reset.rc, store := State.reset.store, prot := State.reset.prot, activity := none, dies := [], mt := State.reset.mt, lanes := [], pwr := State.reset.pwr } : State).set (CX_ACQ_STATUS_state) 3)) State.reset, by decide⟩

theorem witness_AcquisitionStartsAndStopsAtOrbitStarts_9 : ∃ (s : State), s.get CX_ACQ_STATUS_state = 0 :=
  ⟨(fun s => (({ s with mg := State.reset.mg, svc := State.reset.svc, evReq := [], shut := [], feByp := [], rc := State.reset.rc, store := State.reset.store, prot := State.reset.prot, activity := none, dies := [], mt := State.reset.mt, lanes := [], pwr := State.reset.pwr } : State).set (CX_ACQ_STATUS_state) 0)) State.reset, by decide⟩

theorem witness_AcquisitionStartsAndStopsAtOrbitStarts_10 : ∃ (s : State), s.get CX_ACQ_STATUS_state = 1 :=
  ⟨(fun s => (({ s with mg := State.reset.mg, svc := { State.reset.svc with acqLast := 77 }, evReq := [], shut := [], feByp := [], rc := State.reset.rc, store := State.reset.store, prot := State.reset.prot, activity := none, dies := [], mt := State.reset.mt, lanes := [], pwr := State.reset.pwr } : State).set (CX_ACQ_STATUS_state) 1)) State.reset, by decide⟩

theorem witness_AcquisitionStartsAndStopsAtOrbitStarts_11 : ∃ (s : State), (s.get CX_ACQ_STATUS_state = 2 ∨ s.get
  CX_ACQ_STATUS_state = 3) :=
  ⟨(fun s => (({ s with mg := State.reset.mg, svc := State.reset.svc, evReq := [], shut := [], feByp := [], rc := State.reset.rc, store := State.reset.store, prot := State.reset.prot, activity := none, dies := [], mt := { State.reset.mt with running := true, orbit := 9, bucket := 5 }, lanes := [], pwr := State.reset.pwr } : State).set (CX_ACQ_STATUS_state) 2)) State.reset, by decide⟩

theorem witness_AcquisitionStartsAndStopsAtOrbitStarts_12 : ∃ (s : State) (nb c k : Nat), s.get CX_ACQ_STATUS_state =
  1 ∧ c < 32 ∧ k < 4 ∧ s.mt.running = true ∧ s.mt.bucket = 0 ∧ s.mt.nb = nb ∧ 64 ≤ nb ∧ s.get CX_ACQ_ORBIT_orbit ≤
  s.mt.orbit ∧ s.mt.orbit < 2 ^ 31 ∧ s.get CX_PLATE_STATUS_state = 4 ∧ s.on CX_MT_STATUS_mt_valid = true ∧ s.on
  CX_HQ_STATUS_store_ready = true ∧ s.on CX_HQ_STATUS_flushing = false ∧ s.mt.edge.contains .flush = false ∧ s.get
  RC_FREEZE_STATUS_state ≠ 3 ∧ s.on OVN_STATUS_ready = true :=
  ⟨(fun s => (((((((((((({ s with mg := State.reset.mg, svc := State.reset.svc, evReq := [], shut := [], feByp := [], rc := State.reset.rc, store := State.reset.store, prot := State.reset.prot, activity := none, dies := [], mt := { State.reset.mt with running := true, orbit := 9, bucket := 0 }, lanes := [], pwr := State.reset.pwr } : State).set (CX_PLATE_STATUS_state) 4).set (CX_MT_STATUS_mt_valid) 1).set (CX_HQ_STATUS_store_ready) 1).set (CX_HQ_STATUS_flushing) 0).set (RC_FREEZE_STATUS_state) 0).set (OVN_STATUS_ready) 1).set (CX_ACQ_STATUS_state) 1).set (CX_ACQ_ORBIT_orbit) 9).set (TG_CHSTAT_state 7) 3).set (TG_CHCNT_value 7 2) 9).set (CX_STR_FSEQ_next) 5)) State.reset, 2880, 7, 2, by decide⟩

theorem witness_AcquisitionStartsAndStopsAtOrbitStarts_13 : ∃ (s : State), (s.get CX_ACQ_STATUS_state ≠ 1 ∨
  s.mt.running = false ∨ s.mt.bucket ≠ 0) :=
  ⟨(fun s => ((((((((({ s with mg := State.reset.mg, svc := State.reset.svc, evReq := [], shut := [], feByp := [], rc := State.reset.rc, store := State.reset.store, prot := State.reset.prot, activity := none, dies := [], mt := { State.reset.mt with running := true, orbit := 9, bucket := 1 }, lanes := [], pwr := State.reset.pwr } : State).set (CX_PLATE_STATUS_state) 4).set (CX_MT_STATUS_mt_valid) 1).set (CX_HQ_STATUS_store_ready) 1).set (CX_HQ_STATUS_flushing) 0).set (RC_FREEZE_STATUS_state) 0).set (OVN_STATUS_ready) 1).set (CX_ACQ_STATUS_state) 1).set (CX_ACQ_ORBIT_orbit) 9)) State.reset, by decide⟩

theorem witness_AcquisitionStartsAndStopsAtOrbitStarts_14 : ∃ (s : State), s.get CX_ACQ_STATUS_state = 1 ∧ s.acqDue =
  true ∧ s.on OVN_STATUS_ready = false ∧ s.get CX_PLATE_STATUS_state = 4 ∧ s.on CX_MT_STATUS_mt_valid = true ∧ s.on
  CX_HQ_STATUS_store_ready = true ∧ s.on CX_HQ_STATUS_flushing = false ∧ s.mt.edge.contains .flush = false ∧ s.get
  RC_FREEZE_STATUS_state ≠ 3 :=
  ⟨(fun s => (((((((((({ s with mg := State.reset.mg, svc := State.reset.svc, evReq := [], shut := [], feByp := [], rc := State.reset.rc, store := State.reset.store, prot := State.reset.prot, activity := none, dies := [], mt := { State.reset.mt with running := true, orbit := 9, bucket := 0 }, lanes := [], pwr := State.reset.pwr } : State).set (CX_PLATE_STATUS_state) 4).set (CX_MT_STATUS_mt_valid) 1).set (CX_HQ_STATUS_store_ready) 1).set (CX_HQ_STATUS_flushing) 0).set (RC_FREEZE_STATUS_state) 0).set (OVN_STATUS_ready) 1).set (CX_ACQ_STATUS_state) 1).set (CX_ACQ_ORBIT_orbit) 9).set (OVN_STATUS_ready) 0)) State.reset, by decide⟩

theorem witness_AcquisitionStartsAndStopsAtOrbitStarts_15 : ∃ (s : State) (nb : Nat), s.get CX_ACQ_STATUS_state = 3 ∧
  s.mt.running = true ∧ s.mt.bucket = 0 ∧ s.mt.nb = nb ∧ 64 ≤ nb ∧ s.get CX_ACQ_ORBIT_orbit ≤ s.mt.orbit ∧ s.mt.orbit
  < 2 ^ 31 :=
  ⟨(fun s => ((({ s with mg := State.reset.mg, svc := State.reset.svc, evReq := [], shut := [], feByp := [], rc := State.reset.rc, store := State.reset.store, prot := State.reset.prot, activity := none, dies := [], mt := { State.reset.mt with running := true, orbit := 9, bucket := 0 }, lanes := [], pwr := State.reset.pwr } : State).set (CX_ACQ_STATUS_state) 3).set (CX_ACQ_ORBIT_orbit) 9)) State.reset, 2880, by decide⟩

theorem witness_AcquisitionStartsAndStopsAtOrbitStarts_16 : ∃ (s : State), (s.get CX_ACQ_STATUS_state ≠ 3 ∨ s.acqDue =
  false) :=
  ⟨(fun s => ((({ s with mg := State.reset.mg, svc := State.reset.svc, evReq := [], shut := [], feByp := [], rc := State.reset.rc, store := State.reset.store, prot := State.reset.prot, activity := none, dies := [], mt := { State.reset.mt with running := true, orbit := 8, bucket := 0 }, lanes := [], pwr := State.reset.pwr } : State).set (CX_ACQ_STATUS_state) 3).set (CX_ACQ_ORBIT_orbit) 9)) State.reset, by decide⟩

theorem witness_FeDiesLeaveAndReturnToService_1 : ∃ (s : State) (v n : Nat), n < 3 ∧ v < 2 ^ 32 ∧ ((∀ m ∈ List.range
  3, m = n ∨ (bits v (2 * m) 2 = s.get (feFld m) ∧ s.get (feFld m) < 3 ∧ s.shut.contains (.feDie m) = false))) ∧
  s.svc.assay = none ∧ 2 ≤ bits v (2 * n) 2 ∧ s.get (feFld n) < 2 ∧ s.shut.contains (.feDie n) = false :=
  ⟨(fun s => (({ s with mg := State.reset.mg, svc := State.reset.svc, evReq := [], shut := [], feByp := [], rc := State.reset.rc, store := State.reset.store, prot := State.reset.prot, activity := none, dies := [], mt := State.reset.mt, lanes := [], pwr := State.reset.pwr } : State).set (nowFld 0) 0)) State.reset, 2, 0, by decide⟩

theorem witness_FeDiesLeaveAndReturnToService_2 : ∃ (s : State) (v n : Nat), n < 3 ∧ v < 2 ^ 32 ∧ ((∀ m ∈ List.range
  3, m = n ∨ (bits v (2 * m) 2 = s.get (feFld m) ∧ s.get (feFld m) < 3 ∧ s.shut.contains (.feDie m) = false))) ∧
  s.svc.assay = none ∧ bits v (2 * n) 2 = 0 ∧ s.get (feFld n) = 2 :=
  ⟨(fun s => (({ s with mg := State.reset.mg, svc := State.reset.svc, evReq := [], shut := [], feByp := [], rc := State.reset.rc, store := State.reset.store, prot := State.reset.prot, activity := none, dies := [], mt := State.reset.mt, lanes := [], pwr := State.reset.pwr } : State).set (CX_FE_SVC_fe1) 2)) State.reset, 0, 1, by decide⟩

theorem witness_FeDiesLeaveAndReturnToService_3 : ∃ (s : State) (v n : Nat), n < 3 ∧ v < 2 ^ 32 ∧ ((∀ m ∈ List.range
  3, m = n ∨ (bits v (2 * m) 2 = s.get (feFld m) ∧ s.get (feFld m) < 3 ∧ s.shut.contains (.feDie m) = false))) ∧
  s.svc.assay = none ∧ bits v (2 * n) 2 = 1 ∧ s.get (feFld n) = 0 ∧ s.feTarget n ≠ some 3 ∧ s.shut.contains (.feDie n)
  = false :=
  ⟨(fun s => ({ s with mg := State.reset.mg, svc := State.reset.svc, evReq := [], shut := [], feByp := [], rc := State.reset.rc, store := State.reset.store, prot := State.reset.prot, activity := none, dies := [], mt := State.reset.mt, lanes := [], pwr := State.reset.pwr } : State)) State.reset, 4, 1, by decide⟩

theorem witness_FeDiesLeaveAndReturnToService_4 : ∃ (s : State) (v n : Nat), n < 3 ∧ v < 2 ^ 32 ∧ ((∀ m ∈ List.range
  3, m = n ∨ (bits v (2 * m) 2 = s.get (feFld m) ∧ s.get (feFld m) < 3 ∧ s.shut.contains (.feDie m) = false))) ∧
  s.svc.assay = none ∧ bits v (2 * n) 2 = 0 ∧ s.get (feFld n) = 1 ∧ s.feTarget n ≠ some 3 ∧ s.shut.contains (.feDie n)
  = false :=
  ⟨(fun s => (({ s with mg := State.reset.mg, svc := State.reset.svc, evReq := [], shut := [], feByp := [], rc := State.reset.rc, store := State.reset.store, prot := State.reset.prot, activity := none, dies := [], mt := State.reset.mt, lanes := [], pwr := State.reset.pwr } : State).set (CX_FE_SVC_fe1) 1)) State.reset, 0, 1, by decide⟩

theorem witness_FeDiesLeaveAndReturnToService_5 : ∃ (s : State) (v n l : Nat), n < 3 ∧ v < 2 ^ 32 ∧ ((∀ m ∈ List.range
  3, m = n ∨ (bits v (2 * m) 2 = s.get (feFld m) ∧ s.get (feFld m) < 3 ∧ s.shut.contains (.feDie m) = false))) ∧
  s.svc.assay = none ∧ l < 512 ∧ bits v (2 * n) 2 = 1 ∧ s.get (feFld n) = 2 ∧ s.shut.contains (.feDie n) = false :=
  ⟨(fun s => (((({ s with mg := State.reset.mg, svc := State.reset.svc, evReq := [], shut := [], feByp := [], rc := State.reset.rc, store := State.reset.store, prot := State.reset.prot, activity := none, dies := [], mt := State.reset.mt, lanes := [], pwr := State.reset.pwr } : State).set (CX_FE_SVC_fe1) 2).set (FE_CH_CFG_trim 1 7) 9).set (FE_TDC_STATUS_state 1) 2)) State.reset, 4, 1, 7, by decide⟩

theorem witness_FeDiesLeaveAndReturnToService_6 : ∃ (s : State) (v n : Nat), n < 3 ∧ v < 2 ^ 32 ∧ ((∀ m ∈ List.range
  3, m = n ∨ (bits v (2 * m) 2 = s.get (feFld m) ∧ s.get (feFld m) < 3 ∧ s.shut.contains (.feDie m) = false))) ∧
  s.svc.assay = none ∧ bits v (2 * n) 2 = 1 ∧ s.get (feFld n) = 2 ∧ s.shut.contains (.feDie n) = true ∧ bit (s.get
  CX_PENDING_ENABLE_fe) n = false :=
  ⟨(fun s => (({ s with mg := State.reset.mg, svc := State.reset.svc, evReq := [], shut := [.feDie 1], feByp := [], rc := State.reset.rc, store := State.reset.store, prot := State.reset.prot, activity := none, dies := [], mt := State.reset.mt, lanes := [], pwr := State.reset.pwr } : State).set (CX_FE_SVC_fe1) 2)) State.reset, 4, 1, by decide⟩

theorem witness_FeDiesLeaveAndReturnToService_7 : ∃ (s : State) (v n : Nat), n < 3 ∧ v < 2 ^ 32 ∧ ((∀ m ∈ List.range
  3, m = n ∨ (bits v (2 * m) 2 = s.get (feFld m) ∧ s.get (feFld m) < 3 ∧ s.shut.contains (.feDie m) = false))) ∧
  s.svc.assay = none ∧ 2 ≤ bits v (2 * n) 2 ∧ s.shut.contains (.feDie n) = true :=
  ⟨(fun s => ((({ s with mg := State.reset.mg, svc := State.reset.svc, evReq := [], shut := [.feDie 1], feByp := [], rc := State.reset.rc, store := State.reset.store, prot := State.reset.prot, activity := none, dies := [], mt := State.reset.mt, lanes := [], pwr := State.reset.pwr } : State).set (CX_FE_SVC_fe1) 1).set (CX_PENDING_ENABLE_fe) 7)) State.reset, 8, 1, by decide⟩

theorem witness_FeDiesLeaveAndReturnToService_8 : ∃ (s : State) (n : Nat), n < 3 ∧ (s.feTarget n = none ∨ s.feTarget n
  = some 2 ∨ (s.feTarget n = some 0 ∧ s.get (FE_TDC_STATUS_state n) ≠ 2)) :=
  ⟨(fun s => ({ s with mg := State.reset.mg, svc := State.reset.svc, evReq := [], shut := [], feByp := [], rc := State.reset.rc, store := State.reset.store, prot := State.reset.prot, activity := none, dies := [], mt := State.reset.mt, lanes := [], pwr := State.reset.pwr } : State)) State.reset, 1, by decide⟩

theorem witness_FeDiesLeaveAndReturnToService_9 : ∃ (s : State) (n : Nat), n < 3 ∧ s.feTarget n = some 0 ∧ s.get
  (FE_TDC_STATUS_state n) = 2 :=
  ⟨(fun s => ((({ s with mg := State.reset.mg, svc := { State.reset.svc with feChange := [(1, 0)] }, evReq := [], shut := [], feByp := [], rc := State.reset.rc, store := State.reset.store, prot := State.reset.prot, activity := none, dies := [], mt := State.reset.mt, lanes := [], pwr := State.reset.pwr } : State).set (nowFld 1) 3).set (FE_TDC_STATUS_state 1) 2)) State.reset, 1, by decide⟩

theorem witness_FeDiesLeaveAndReturnToService_10 : ∃ (s : State) (n : Nat), n < 3 ∧ (s.feTarget n = some 1 ∨
  (s.feTarget n = some 3 ∧ s.get (feFld n) ≠ 0)) :=
  ⟨(fun s => (({ s with mg := State.reset.mg, svc := { State.reset.svc with feChange := [(1, 1)] }, evReq := [], shut := [], feByp := [], rc := State.reset.rc, store := State.reset.store, prot := State.reset.prot, activity := none, dies := [], mt := State.reset.mt, lanes := [], pwr := State.reset.pwr } : State).set (nowFld 1) 3)) State.reset, 1, by decide⟩

theorem witness_FeDiesLeaveAndReturnToService_11 : ∃ (s : State) (n : Nat), n < 3 ∧ s.feTarget n = some 3 ∧ s.get
  (feFld n) = 0 :=
  ⟨(fun s => (({ s with mg := State.reset.mg, svc := { State.reset.svc with feChange := [(1, 3)] }, evReq := [], shut := [], feByp := [], rc := State.reset.rc, store := State.reset.store, prot := State.reset.prot, activity := none, dies := [], mt := State.reset.mt, lanes := [], pwr := State.reset.pwr } : State).set (nowFld 1) 3)) State.reset, 1, by decide⟩

theorem witness_ReferencePowerAndShutdownsTakeTheirCourse_1 : ∃ (s : State), s.on CX_ARCH_STATUS_mgmt_backup = true :=
  ⟨(fun s => (({ s with mg := State.reset.mg, svc := State.reset.svc, evReq := [], shut := [], feByp := [], rc := State.reset.rc, store := State.reset.store, prot := State.reset.prot, activity := none, dies := [], mt := State.reset.mt, lanes := [], pwr := State.reset.pwr } : State).set (CX_ARCH_STATUS_mgmt_backup) 1)) State.reset, by decide⟩

theorem witness_ReferencePowerAndShutdownsTakeTheirCourse_2 : ∃ (s : State) (q : Nat), s.on CX_ARCH_STATUS_mgmt_backup
  = false ∧ q < 12 :=
  ⟨(fun s => ((((({ s with mg := State.reset.mg, svc := State.reset.svc, evReq := [], shut := [], feByp := [], rc := State.reset.rc, store := State.reset.store, prot := State.reset.prot, activity := none, dies := [], mt := { State.reset.mt with running := true, orbit := 9, bucket := 5 }, lanes := [], pwr := State.reset.pwr } : State).set (CX_ARCH_STATUS_mgmt_backup) 0).set (LN_QUAD_mode 5) 2).set (LN_QUAD_state 5) 2).set (CX_MT_STATUS_state) 2)) State.reset, 5, by decide⟩

theorem witness_ReferencePowerAndShutdownsTakeTheirCourse_3 : ∃ (s : State), s.on CX_ARCH_STATUS_mgmt_backup = false
  :=
  ⟨(fun s => (({ s with mg := State.reset.mg, svc := State.reset.svc, evReq := [], shut := [], feByp := [], rc := State.reset.rc, store := State.reset.store, prot := State.reset.prot, activity := none, dies := [], mt := State.reset.mt, lanes := [], pwr := State.reset.pwr } : State).set (CX_ARCH_STATUS_mgmt_backup) 0)) State.reset, by decide⟩

theorem witness_ReferencePowerAndShutdownsTakeTheirCourse_4 : ∃ (s : State), s.on CX_ARCH_STATUS_mgmt_backup = true :=
  ⟨(fun s => (({ s with mg := State.reset.mg, svc := State.reset.svc, evReq := [], shut := [], feByp := [], rc := State.reset.rc, store := State.reset.store, prot := State.reset.prot, activity := none, dies := [], mt := State.reset.mt, lanes := [], pwr := State.reset.pwr } : State).set (CX_ARCH_STATUS_mgmt_backup) 1)) State.reset, by decide⟩

theorem witness_ReferencePowerAndShutdownsTakeTheirCourse_5 : ∃ (s : State) (f : ShutFn) (b : Bool), f.wf = true ∧
  s.shut.contains f = false :=
  ⟨(fun s => ({ s with mg := State.reset.mg, svc := State.reset.svc, evReq := [], shut := [], feByp := [], rc := State.reset.rc, store := State.reset.store, prot := State.reset.prot, activity := none, dies := [], mt := State.reset.mt, lanes := [], pwr := State.reset.pwr } : State)) State.reset, .unit 1, false, by decide⟩

theorem witness_ReferencePowerAndShutdownsTakeTheirCourse_6 : ∃ (s : State) (n : Nat) (rx b : Bool), n < 48 ∧
  s.shut.contains (shutOf n rx) = true ∧ heldOf (s.lane n) rx = none :=
  ⟨(fun s => (({ s with mg := State.reset.mg, svc := State.reset.svc, evReq := [], shut := [.laneRx 7], feByp := [], rc := State.reset.rc, store := State.reset.store, prot := State.reset.prot, activity := none, dies := [], mt := State.reset.mt, lanes := [], pwr := State.reset.pwr } : State).set (LN_PWR_rx_now 7) 5)) State.reset, 7, true, false, by decide⟩

theorem witness_ReferencePowerAndShutdownsTakeTheirCourse_7 : ∃ (s : State) (n p : Nat) (rx b : Bool), n < 48 ∧
  s.shut.contains (shutOf n rx) = true ∧ heldOf (s.lane n) rx = some p ∧ s.on (pendOf n rx) = true ∧ (b = true ∨ s.on
  (LN_STATUS_fault n) = true) ∧ s.shut.contains (.quadPll (n / 4)) = false :=
  ⟨(fun s => ((({ s with mg := State.reset.mg, svc := State.reset.svc, evReq := [], shut := [.laneRx 7], feByp := [], rc := State.reset.rc, store := State.reset.store, prot := State.reset.prot, activity := none, dies := [], mt := State.reset.mt, lanes := [(7, { Lane.new with heldRx := some 0 })], pwr := State.reset.pwr } : State).set (LN_PWR_rx_now 7) 5).set (LN_PWR_rx_pending 7) 1)) State.reset, 7, 0, true, true, by decide⟩

theorem witness_ReferencePowerAndShutdownsTakeTheirCourse_8 : ∃ (s : State) (n p : Nat) (rx : Bool), n < 48 ∧
  s.shut.contains (shutOf n rx) = true ∧ heldOf (s.lane n) rx = some p ∧ s.on (LN_STATUS_fault n) = false ∧
  s.shut.contains (.quadPll (n / 4)) = false :=
  ⟨(fun s => ((({ s with mg := State.reset.mg, svc := State.reset.svc, evReq := [], shut := [.laneRx 7], feByp := [], rc := State.reset.rc, store := State.reset.store, prot := State.reset.prot, activity := none, dies := [], mt := State.reset.mt, lanes := [(7, { Lane.new with heldRx := some 0 })], pwr := State.reset.pwr } : State).set (LN_PWR_rx_now 7) 5).set (LN_PWR_rx_pending 7) 1)) State.reset, 7, 0, true, by decide⟩

theorem witness_ReferencePowerAndShutdownsTakeTheirCourse_9 : ∃ (s : State) (q : Nat) (b : Bool), q < 12 ∧
  s.shut.contains (.quadPll q) = true ∧ ((∀ k ∈ List.range 4, ∀ rx ∈ [true, false], s.get (nowOf (4 * q + k) rx) = 3 ∧
  heldOf (s.lane (4 * q + k)) rx = none)) :=
  ⟨(fun s => (((((((((({ s with mg := State.reset.mg, svc := State.reset.svc, evReq := [], shut := [.quadPll 5], feByp := [], rc := State.reset.rc, store := State.reset.store, prot := State.reset.prot, activity := none, dies := [], mt := State.reset.mt, lanes := [], pwr := State.reset.pwr } : State).set (LN_PWR_rx_now 20) 3).set (LN_PWR_tx_now 20) 3).set (LN_PWR_rx_now 21) 3).set (LN_PWR_tx_now 21) 3).set (LN_PWR_rx_now 22) 3).set (LN_PWR_tx_now 22) 3).set (LN_PWR_rx_now 23) 3).set (LN_PWR_tx_now 23) 3).set (LN_QUAD_state 5) 2)) State.reset, 5, false, by decide⟩

theorem witness_ReferencePowerAndShutdownsTakeTheirCourse_10 : ∃ (s : State) (n : Nat) (b : Bool), n < 3 ∧
  s.shut.contains (.feDie n) = true ∧ bit (s.get CX_PENDING_ENABLE_fe) n = false :=
  ⟨(fun s => (({ s with mg := State.reset.mg, svc := { State.reset.svc with feChange := [(1, 2)] }, evReq := [], shut := [.feDie 1], feByp := [], rc := State.reset.rc, store := State.reset.store, prot := State.reset.prot, activity := none, dies := [], mt := State.reset.mt, lanes := [], pwr := State.reset.pwr } : State).set (nowFld 1) 3)) State.reset, 1, false, by decide⟩

theorem witness_ReferencePowerAndShutdownsTakeTheirCourse_11 : ∃ (s : State) (n : Nat) (b : Bool), n < 3 ∧
  s.shut.contains (.feDie n) = true ∧ bit (s.get CX_PENDING_ENABLE_fe) n = true :=
  ⟨(fun s => ((({ s with mg := State.reset.mg, svc := State.reset.svc, evReq := [], shut := [.feDie 1], feByp := [], rc := State.reset.rc, store := State.reset.store, prot := State.reset.prot, activity := none, dies := [], mt := State.reset.mt, lanes := [], pwr := State.reset.pwr } : State).set (nowFld 1) 3).set (CX_PENDING_ENABLE_fe) 6)) State.reset, 1, false, by decide⟩

theorem witness_ReferencePowerAndShutdownsTakeTheirCourse_12 : ∃ (s : State) (u : Nat) (b : Bool), u < 2 ∧
  s.shut.contains (.unit u) = true ∧ s.on (pendUnit u) = false :=
  ⟨(fun s => (({ s with mg := State.reset.mg, svc := State.reset.svc, evReq := [], shut := [.unit 1], feByp := [], rc := State.reset.rc, store := State.reset.store, prot := State.reset.prot, activity := none, dies := [], mt := State.reset.mt, lanes := [], pwr := State.reset.pwr } : State).set (PU_STATUS_role 1) 3)) State.reset, 1, false, by decide⟩

theorem witness_ReferencePowerAndShutdownsTakeTheirCourse_13 : ∃ (s : State) (u : Nat) (b : Bool), u < 2 ∧
  s.shut.contains (.unit u) = true ∧ s.on (pendUnit u) = true ∧ s.unitReady u = true ∧ s.get (PU_STATUS_role (other
  u)) = 2 :=
  ⟨(fun s => ((((((({ s with mg := State.reset.mg, svc := State.reset.svc, evReq := [], shut := [.unit 1], feByp := [], rc := State.reset.rc, store := State.reset.store, prot := State.reset.prot, activity := none, dies := [], mt := State.reset.mt, lanes := [], pwr := State.reset.pwr } : State).set (PU_STATUS_role 1) 3).set (PU_STATUS_role 0) 2).set (PU_STATUS_feed_ok 1) 1).set (PU_STATUS_fault 1) 0).set (PU_CTRL_out 1) 0).set (pendUnit 1) 1)) State.reset, 1, false, by decide⟩

theorem witness_ReferencePowerAndShutdownsTakeTheirCourse_14 : ∃ (s : State) (b : Bool), s.shut.contains (.conversion)
  = true ∧ s.on SV_PENDING_ENABLE_module = false :=
  ⟨(fun s => (((({ s with mg := State.reset.mg, svc := State.reset.svc, evReq := [], shut := [.conversion], feByp := [], rc := State.reset.rc, store := State.reset.store, prot := State.reset.prot, activity := none, dies := [], mt := { State.reset.mt with running := true, orbit := 9, bucket := 5 }, lanes := [], pwr := State.reset.pwr } : State).set (CX_ACQ_STATUS_state) 2).set (CX_PLATE_STATUS_state) 4).set (SV_GUARD_STATUS_state) 2)) State.reset, false, by decide⟩

theorem witness_ReferencePowerAndShutdownsTakeTheirCourse_15 : ∃ (s : State) (b : Bool), s.shut.contains (.bias) =
  true ∧ s.get SV_GUARD_STATUS_state = 3 ∧ s.on SV_GUARD_STATUS_fb = true ∧ s.on SV_PENDING_ENABLE_bias = false :=
  ⟨(fun s => ((({ s with mg := State.reset.mg, svc := State.reset.svc, evReq := [], shut := [.bias], feByp := [], rc := State.reset.rc, store := State.reset.store, prot := State.reset.prot, activity := none, dies := [], mt := State.reset.mt, lanes := [], pwr := State.reset.pwr } : State).set (SV_GUARD_STATUS_state) 3).set (SV_GUARD_STATUS_fb) 1)) State.reset, false, by decide⟩

theorem witness_ReferencePowerAndShutdownsTakeTheirCourse_16 : ∃ (s : State) (b : Bool), s.on SV_GUARD_STATUS_fb =
  false :=
  ⟨(fun s => ((({ s with mg := State.reset.mg, svc := State.reset.svc, evReq := [], shut := [.bias], feByp := [], rc := State.reset.rc, store := State.reset.store, prot := State.reset.prot, activity := none, dies := [], mt := State.reset.mt, lanes := [], pwr := State.reset.pwr } : State).set (SV_GUARD_STATUS_state) 3).set (SV_GUARD_STATUS_fb) 0)) State.reset, false, by decide⟩

theorem witness_ReferencePowerAndShutdownsTakeTheirCourse_17 : ∃ (s : State) (u x : Nat), u < 2 ∧ x < 256 ∧
  (s.converting = true ∨ s.shut.contains .conversion = true ∨ s.on (PU_STATUS_feed_ok 0) = true ∨ s.on
  (PU_STATUS_feed_ok 1) = true) :=
  ⟨(fun s => (({ s with mg := State.reset.mg, svc := State.reset.svc, evReq := [], shut := [], feByp := [], rc := State.reset.rc, store := State.reset.store, prot := State.reset.prot, activity := none, dies := [], mt := State.reset.mt, lanes := [], pwr := State.reset.pwr } : State).set (PU_STATUS_feed_ok 1) 1)) State.reset, 0, 5, by decide⟩

theorem witness_ReferencePowerAndShutdownsTakeTheirCourse_18 : ∃ (s : State) (u x : Nat), u < 2 ∧ x < 256 ∧
  s.converting = false ∧ s.shut.contains .conversion = false ∧ s.on (PU_STATUS_feed_ok 0) = false ∧ s.on
  (PU_STATUS_feed_ok 1) = false :=
  ⟨(fun s => ({ s with mg := State.reset.mg, svc := State.reset.svc, evReq := [], shut := [], feByp := [], rc := State.reset.rc, store := State.reset.store, prot := State.reset.prot, activity := none, dies := [], mt := State.reset.mt, lanes := [], pwr := State.reset.pwr } : State)) State.reset, 1, 129, by decide⟩

theorem witness_AssaysStartAbortAndReport_1 : ∃ (s : State) (b i : Nat), b < 16 ∧ i < 64 ∧ b ≠ 1 ∧ b ≠ 2 ∧ assayValid
  b i = true ∧ s.assayPre b i = true ∧ s.svc.assay = none :=
  ⟨(fun s => (({ s with mg := State.reset.mg, svc := State.reset.svc, evReq := [], shut := [], feByp := [], rc := State.reset.rc, store := State.reset.store, prot := State.reset.prot, activity := none, dies := [], mt := State.reset.mt, lanes := [], pwr := State.reset.pwr } : State).set (LN_CTRL_out 47) 1)) State.reset, 3, 47, by decide⟩

theorem witness_AssaysStartAbortAndReport_2 : ∃ (s : State) (i : Nat), i < 3 ∧ s.get (nowFld i) = 1 ∧ s.svc.assay =
  none :=
  ⟨(fun s => ((({ s with mg := State.reset.mg, svc := State.reset.svc, evReq := [], shut := [], feByp := [], rc := State.reset.rc, store := State.reset.store, prot := State.reset.prot, activity := none, dies := [], mt := State.reset.mt, lanes := [], pwr := State.reset.pwr } : State).set (CX_FE_SVC_now2) 1).set (FE_TDC_STATUS_state 2) 2)) State.reset, 2, by decide⟩

theorem witness_AssaysStartAbortAndReport_3 : ∃ (s : State) (i r : Nat), i < 16 ∧ r < 2 ^ 20 ∧ bit (s.get
  CX_HQ_BANKS_retire) i = true ∧ s.bankInit i = false ∧ s.svc.assay = none :=
  ⟨(fun s => (({ s with mg := State.reset.mg, svc := State.reset.svc, evReq := [], shut := [], feByp := [], rc := State.reset.rc, store := { State.reset.store with entries := [(2 ^ 20 * 15 + 7, 3)] }, prot := State.reset.prot, activity := none, dies := [], mt := State.reset.mt, lanes := [], pwr := State.reset.pwr } : State).set (CX_HQ_BANKS_retire) 32768)) State.reset, 15, 7, by decide⟩

theorem witness_AssaysStartAbortAndReport_4 : ∃ (s : State) (b i : Nat), b < 16 ∧ i < 64 ∧ assayValid b i = true ∧
  s.assayPre b i = false :=
  ⟨(fun s => (({ s with mg := State.reset.mg, svc := State.reset.svc, evReq := [], shut := [], feByp := [], rc := State.reset.rc, store := State.reset.store, prot := State.reset.prot, activity := none, dies := [], mt := State.reset.mt, lanes := [], pwr := State.reset.pwr } : State).set (LN_CTRL_out 47) 0)) State.reset, 3, 47, by decide⟩

theorem witness_AssaysStartAbortAndReport_5 : ∃ (s : State) (b i : Nat), b < 16 ∧ i < 64 ∧ (assayValid b i = false ∨
  s.assayPre b i = true) ∧ s.svc.assay ≠ none :=
  ⟨(fun s => ((({ s with mg := State.reset.mg, svc := { State.reset.svc with assay := some (3, 4) }, evReq := [], shut := [], feByp := [], rc := State.reset.rc, store := State.reset.store, prot := State.reset.prot, activity := none, dies := [], mt := State.reset.mt, lanes := [], pwr := State.reset.pwr } : State).set (LN_CTRL_out 47) 1).set (CX_ASSAY_STATUS_state) 1)) State.reset, 3, 47, by decide⟩

theorem witness_AssaysStartAbortAndReport_6 : ∃ (s : State) (b i : Nat), b < 16 ∧ i < 64 ∧ (b = 0 ∨ 7 < b ∨ (b = 1 ∧ 2
  < i) ∨ (b = 2 ∧ 15 < i) ∨ (b = 3 ∧ 47 < i) ∨ (b = 4 ∧ 1 < i) ∨ (4 < b ∧ 0 < i)) ∧ s.svc.assay = none :=
  ⟨(fun s => ({ s with mg := State.reset.mg, svc := State.reset.svc, evReq := [], shut := [], feByp := [], rc := State.reset.rc, store := State.reset.store, prot := State.reset.prot, activity := none, dies := [], mt := State.reset.mt, lanes := [], pwr := State.reset.pwr } : State)) State.reset, 0, 0, by decide⟩

theorem witness_AssaysStartAbortAndReport_7 : ∃ (s : State) (p f a ms b i : Nat), p < 16 ∧ a < 2 ^ 20 ∧ s.svc.assay =
  some (b, i) :=
  ⟨(fun s => (({ s with mg := State.reset.mg, svc := { State.reset.svc with assay := some (3, 47) }, evReq := [], shut := [], feByp := [], rc := State.reset.rc, store := State.reset.store, prot := State.reset.prot, activity := none, dies := [], mt := State.reset.mt, lanes := [], pwr := State.reset.pwr } : State).set (CX_ASSAY_STATUS_state) 1)) State.reset, 0, 0, 0, 12, 3, 47, by decide⟩

theorem witness_AssaysStartAbortAndReport_8 : ∃ (s : State) (p f a ms : Nat), p < 16 ∧ a < 2 ^ 20 ∧ s.svc.assay = none
  :=
  ⟨(fun s => ({ s with mg := State.reset.mg, svc := State.reset.svc, evReq := [], shut := [], feByp := [], rc := State.reset.rc, store := State.reset.store, prot := State.reset.prot, activity := none, dies := [], mt := State.reset.mt, lanes := [], pwr := State.reset.pwr } : State)) State.reset, 3, 4, 5, 6, by decide⟩

theorem witness_AssaysStartAbortAndReport_9 : ∃ (s : State) (b i : Nat), s.svc.assay = some (b, i) :=
  ⟨(fun s => (({ s with mg := State.reset.mg, svc := { State.reset.svc with assay := some (3, 47) }, evReq := [], shut := [], feByp := [], rc := State.reset.rc, store := State.reset.store, prot := State.reset.prot, activity := none, dies := [], mt := State.reset.mt, lanes := [], pwr := State.reset.pwr } : State).set (CX_ASSAY_STATUS_state) 1)) State.reset, 3, 47, by decide⟩

theorem witness_AssaysStartAbortAndReport_10 : ∃ (s : State), s.svc.assay = none :=
  ⟨(fun s => ({ s with mg := State.reset.mg, svc := State.reset.svc, evReq := [], shut := [], feByp := [], rc := State.reset.rc, store := State.reset.store, prot := State.reset.prot, activity := none, dies := [], mt := State.reset.mt, lanes := [], pwr := State.reset.pwr } : State)) State.reset, by decide⟩

theorem witness_TestAccessReadsAndDrivesThroughTheTap_3 : ∃ (s : State) (x : Nat), x < 256 ∧ [0x00, 0x01, 0x02, 0x20,
  0x21].contains x = false :=
  ⟨(fun s => ({ s with mg := State.reset.mg, svc := State.reset.svc, evReq := [], shut := [], feByp := [], rc := State.reset.rc, store := State.reset.store, prot := State.reset.prot, activity := none, dies := [], mt := State.reset.mt, lanes := [], pwr := State.reset.pwr } : State)) State.reset, 255, by decide⟩

theorem witness_TestAccessReadsAndDrivesThroughTheTap_4 : ∃ (s : State) (a b : Nat), a < 2 ^ 23 ∧ b < 2 ^ 23 :=
  ⟨(fun s => ({ s with mg := State.reset.mg, svc := State.reset.svc, evReq := [], shut := [], feByp := [], rc := State.reset.rc, store := State.reset.store, prot := State.reset.prot, activity := none, dies := [], mt := State.reset.mt, lanes := [], pwr := State.reset.pwr } : State)) State.reset, 0x7FFFFF, 5, by decide⟩

theorem witness_TestAccessReadsAndDrivesThroughTheTap_5 : ∃ (s : State) (v : Nat), v < 2 ^ 23 ∧ s.get
  CX_TILE_I2C_CTRL_state ≠ 1 :=
  ⟨(fun s => ({ s with mg := State.reset.mg, svc := State.reset.svc, evReq := [], shut := [], feByp := [], rc := State.reset.rc, store := State.reset.store, prot := State.reset.prot, activity := none, dies := [], mt := State.reset.mt, lanes := [], pwr := State.reset.pwr } : State)) State.reset, 5, by decide⟩

theorem witness_TestAccessReadsAndDrivesThroughTheTap_6 : ∃ (s : State) (v : Nat), v < 2 ^ 23 ∧ s.get
  CX_TILE_I2C_CTRL_state = 1 :=
  ⟨(fun s => (({ s with mg := State.reset.mg, svc := State.reset.svc, evReq := [], shut := [], feByp := [], rc := State.reset.rc, store := State.reset.store, prot := State.reset.prot, activity := none, dies := [], mt := State.reset.mt, lanes := [], pwr := State.reset.pwr } : State).set (CX_TILE_I2C_CTRL_state) 1)) State.reset, 5, by decide⟩

theorem witness_TestAccessReadsAndDrivesThroughTheTap_7 : ∃ (s : State) (dr : Nat) (r : EccResult), dr < 2 ^ 72 :=
  ⟨(fun s => ({ s with mg := State.reset.mg, svc := { State.reset.svc with tap := { State.reset.svc.tap with ctrl := 2 ^ 71 + 5 } }, evReq := [], shut := [], feByp := [], rc := State.reset.rc, store := State.reset.store, prot := State.reset.prot, activity := none, dies := [], mt := State.reset.mt, lanes := [], pwr := State.reset.pwr } : State)) State.reset, 7, .clean, by decide⟩

theorem witness_TestAccessReadsAndDrivesThroughTheTap_8 : ∃ (s : State) (dr : Nat) (r : EccResult), dr < 2 ^ 72 :=
  ⟨(fun s => ({ s with mg := State.reset.mg, svc := State.reset.svc, evReq := [], shut := [], feByp := [], rc := State.reset.rc, store := State.reset.store, prot := State.reset.prot, activity := none, dies := [], mt := State.reset.mt, lanes := [], pwr := State.reset.pwr } : State)) State.reset, (2 ^ 71 + 15 * 2 ^ 67 + 0x10000300 * 2 ^ 32 + 1), .clean, by decide⟩

theorem witness_TestAccessReadsAndDrivesThroughTheTap_9 : ∃ (s : State) (dr : Nat) (r : EccResult), dr < 2 ^ 72 ∧
  0x60000000 ≤ bits dr 32 32 :=
  ⟨(fun s => ({ s with mg := State.reset.mg, svc := State.reset.svc, evReq := [], shut := [], feByp := [], rc := State.reset.rc, store := State.reset.store, prot := State.reset.prot, activity := none, dies := [], mt := State.reset.mt, lanes := [], pwr := State.reset.pwr } : State)) State.reset, (15 * 2 ^ 67 + 0x60000000 * 2 ^ 32), .clean, by decide⟩

theorem witness_TestAccessReadsAndDrivesThroughTheTap_10 : ∃ (s : State) (dr be bank row v : Nat) (r : EccResult), be
  < 256 ∧ bank < 16 ∧ row < 2 ^ 20 ∧ v < 2 ^ 64 ∧ dr = 2 ^ 103 + 2 ^ 95 * be + 2 ^ 91 * bank + 2 ^ 71 * row + v ∧ bit
  (s.get CX_HQ_BANKS_in_service) bank = true ∧ s.acq = true :=
  ⟨(fun s => ((({ s with mg := State.reset.mg, svc := State.reset.svc, evReq := [], shut := [], feByp := [], rc := State.reset.rc, store := State.reset.store, prot := State.reset.prot, activity := none, dies := [], mt := State.reset.mt, lanes := [], pwr := State.reset.pwr } : State).set (CX_HQ_BANKS_in_service) 0xFFFF).set (CX_ACQ_STATUS_state) 2)) State.reset, (2 ^ 103 + 2 ^ 95 * 255 + 2 ^ 91 * 15 + 2 ^ 71 * 9 + 77), 255, 15, 9, 77, .clean, by decide⟩

theorem witness_TestAccessReadsAndDrivesThroughTheTap_11 : ∃ (s : State) (dr bank row v : Nat) (r : EccResult), bank <
  16 ∧ row < 2 ^ 20 ∧ v < 2 ^ 64 ∧ dr = 2 ^ 103 + 2 ^ 95 * 255 + 2 ^ 91 * bank + 2 ^ 71 * row + v ∧ (bit (s.get
  CX_HQ_BANKS_in_service) bank = false ∨ s.acq = false) :=
  ⟨(fun s => ({ s with mg := State.reset.mg, svc := State.reset.svc, evReq := [], shut := [], feByp := [], rc := State.reset.rc, store := State.reset.store, prot := State.reset.prot, activity := none, dies := [], mt := State.reset.mt, lanes := [], pwr := State.reset.pwr } : State)) State.reset, (2 ^ 103 + 2 ^ 95 * 255 + 2 ^ 91 * 15 + 2 ^ 71 * 9 + 77), 15, 9, 77, .clean, by decide⟩

theorem witness_TestAccessReadsAndDrivesThroughTheTap_12 : ∃ (s : State) (dr be bank row : Nat), be < 256 ∧ bank < 16
  ∧ row < 2 ^ 20 ∧ dr = 2 ^ 95 * be + 2 ^ 91 * bank + 2 ^ 71 * row ∧ s.prot.bufTest = none ∧ s.mark (entryMem bank)
  (entryIndex bank row) = 0 ∧ bit s.svc.bankUndef bank = false :=
  ⟨(fun s => ({ s with mg := State.reset.mg, svc := State.reset.svc, evReq := [], shut := [], feByp := [], rc := State.reset.rc, store := { State.reset.store with entries := [(2 ^ 20 * 15 + 9, 3)] }, prot := State.reset.prot, activity := none, dies := [], mt := State.reset.mt, lanes := [], pwr := State.reset.pwr } : State)) State.reset, (2 ^ 91 * 15 + 2 ^ 71 * 9), 0, 15, 9, by decide⟩

theorem witness_BusErrorsAreFoundInOrderAndRecorded_1 : ∃ (s : State) (p : Path) (a v be : Nat), p.wf = true ∧ a < 2 ^
  32 ∧ v < 2 ^ 32 ∧ be < 16 ∧ 0xC0000 ≤ a ∧ ([(0x10000000, 0x10FFFFFF), (0x20000000, 0x22FFFFFF), (0x30000000,
  0x31FFFFFF), (0x40000000, 0x40061FFF), (0x50000000, 0x53FFFFFF)].any fun r => decide (r.1 ≤ a) && decide (a ≤ r.2))
  = false :=
  ⟨(fun s => ({ s with mg := State.reset.mg, svc := State.reset.svc, evReq := [], prot := State.reset.prot, answer := (0, 0) } : State)) State.reset, .fabric, 0x60000001, 5, 3, by decide⟩

theorem witness_BusErrorsAreFoundInOrderAndRecorded_2 : ∃ (s : State) (p : Path) (a be : Nat), p.wf = true ∧ a < 2 ^
  32 ∧ be < 16 ∧ 0x10000000 ≤ a ∧ ([(0x10000000, 0x10FFFFFF), (0x20000000, 0x22FFFFFF), (0x30000000, 0x31FFFFFF),
  (0x40000000, 0x40061FFF), (0x50000000, 0x53FFFFFF)].any fun r => decide (r.1 ≤ a) && decide (a ≤ r.2)) = false :=
  ⟨(fun s => ({ s with mg := State.reset.mg, svc := State.reset.svc, evReq := [], prot := State.reset.prot, answer := (0, 0) } : State)) State.reset, .fabric, 0x60000001, 3, by decide⟩

theorem witness_BusErrorsAreFoundInOrderAndRecorded_3 : ∃ (s : State) (p : Path) (a v be : Nat), p.wf = true ∧ a < 2 ^
  32 ∧ v < 2 ^ 32 ∧ be < 16 ∧ (a < 0xC0000 ∨ ([(0x10000000, 0x10FFFFFF), (0x20000000, 0x22FFFFFF), (0x30000000,
  0x31FFFFFF), (0x40000000, 0x40061FFF), (0x50000000, 0x53FFFFFF)].any fun r => decide (r.1 ≤ a) && decide (a ≤ r.2))
  = true) ∧ (a % 4 ≠ 0 ∨ be = 0 ∨ (be ≠ 15 ∧ ¬ (a < 0x10000000 ∨ (0x10000800 ≤ a ∧ a < 0x10000C00) ∨ (0x40000000 ≤ a ∧
  a < 0x40062000)))) :=
  ⟨(fun s => ({ s with mg := State.reset.mg, svc := State.reset.svc, evReq := [], prot := State.reset.prot, answer := (0, 0) } : State)) State.reset, .core, 0x20000001, 5, 15, by decide⟩

theorem witness_BusErrorsAreFoundInOrderAndRecorded_4 : ∃ (s : State) (p : Path) (a be : Nat), p.wf = true ∧ a < 2 ^
  32 ∧ be < 16 ∧ (a < 0x10000000 ∨ ([(0x10000000, 0x10FFFFFF), (0x20000000, 0x22FFFFFF), (0x30000000, 0x31FFFFFF),
  (0x40000000, 0x40061FFF), (0x50000000, 0x53FFFFFF)].any fun r => decide (r.1 ≤ a) && decide (a ≤ r.2)) = true) ∧ (a
  % 4 ≠ 0 ∨ be = 0 ∨ (be ≠ 15 ∧ ¬ (a < 0x10000000 ∨ (0x10000800 ≤ a ∧ a < 0x10000C00) ∨ (0x40000000 ≤ a ∧ a <
  0x40062000)))) :=
  ⟨(fun s => ({ s with mg := State.reset.mg, svc := State.reset.svc, evReq := [], prot := State.reset.prot, answer := (0, 0) } : State)) State.reset, .core, 0x20000001, 15, by decide⟩

theorem witness_BusErrorsAreFoundInOrderAndRecorded_5 : ∃ (s : State) (p : Path) (a v n : Nat), p.wf = true ∧ a < 2 ^
  32 ∧ v < 2 ^ 32 ∧ n < 3 ∧ a % 4 = 0 ∧ a / 2 ^ 24 = 0x20 + n ∧ s.get (nowFld n) = 2 :=
  ⟨(fun s => (({ s with mg := State.reset.mg, svc := State.reset.svc, evReq := [], prot := State.reset.prot, answer := (0, 0) } : State).set (CX_FE_SVC_now2) 2)) State.reset, .core, 0x22FFFFFC, 5, 2, by decide⟩

theorem witness_BusErrorsAreFoundInOrderAndRecorded_6 : ∃ (s : State) (p : Path) (a n : Nat), p.wf = true ∧ a < 2 ^ 32
  ∧ n < 3 ∧ a % 4 = 0 ∧ a / 2 ^ 24 = 0x20 + n ∧ s.get (nowFld n) = 2 :=
  ⟨(fun s => (({ s with mg := State.reset.mg, svc := State.reset.svc, evReq := [], prot := State.reset.prot, answer := (0, 0) } : State).set (CX_FE_SVC_now0) 2)) State.reset, .core, 0x20000000, 0, by decide⟩

theorem witness_BusErrorsAreFoundInOrderAndRecorded_7 : ∃ (s : State) (p : Path) (a v be : Nat), p.wf = true ∧ a < 2 ^
  32 ∧ v < 2 ^ 32 ∧ be < 16 ∧ a < 0xC0000 ∧ a % 4 = 0 ∧ be ≠ 0 ∧ (s.get CX_PLATE_STATUS_state = 0 ∨ s.get
  CX_PLATE_STATUS_state = 4) :=
  ⟨(fun s => (({ s with mg := State.reset.mg, svc := State.reset.svc, evReq := [], prot := State.reset.prot, answer := (0, 0) } : State).set (CX_PLATE_STATUS_state) 4)) State.reset, .core, 0xBFFFC, 5, 2, by decide⟩

theorem witness_RegistersReadAndWriteAsTheirAccessSays_1 : ∃ (s : State) (p : Path) (i v : Nat), p.wf = true ∧ i < 16
  ∧ v < 2 ^ 32 :=
  ⟨(fun s => ({ s with mg := State.reset.mg, svc := State.reset.svc, evReq := [], prot := State.reset.prot, answer := (0, 0) } : State)) State.reset, .core, 15, 0xFFFFFFFF, by decide⟩

theorem witness_RegistersReadAndWriteAsTheirAccessSays_2 : ∃ (s : State) (p : Path) (i : Nat), p.wf = true ∧ i < 16 :=
  ⟨(fun s => (({ s with mg := State.reset.mg, svc := State.reset.svc, evReq := [], prot := State.reset.prot, answer := (0, 0) } : State).set (MG_EV_IRQEN_en 15) 77)) State.reset, .test, 15, by decide⟩

theorem witness_RegistersReadAndWriteAsTheirAccessSays_3 : ∃ (s : State) (p : Path) (v : Nat), p.wf = true ∧ v < 2 ^
  32 :=
  ⟨(fun s => ({ s with mg := State.reset.mg, svc := State.reset.svc, evReq := [], prot := State.reset.prot, answer := (0, 0) } : State)) State.reset, .core, 0xFFFFFFFF, by decide⟩

theorem witness_RegistersReadAndWriteAsTheirAccessSays_4 : ∃ (s : State) (p : Path) (i v : Nat), p.wf = true ∧ i < 16
  ∧ v < 2 ^ 32 :=
  ⟨(fun s => (({ s with mg := State.reset.mg, svc := State.reset.svc, evReq := [], prot := State.reset.prot, answer := (0, 0) } : State).set (MG_EV_PEND_pend 3) 7)) State.reset, .core, 3, 0xFFFFFFFD, by decide⟩

theorem witness_RegistersReadAndWriteAsTheirAccessSays_5 : ∃ (s : State) (p : Path) (v : Nat), p.wf = true ∧ v < 2 ^
  32 :=
  ⟨(fun s => ((({ s with mg := State.reset.mg, svc := State.reset.svc, evReq := [], prot := State.reset.prot, answer := (0, 0) } : State).set (MG_STATUS_refused) 1).set (MG_STATUS_evq_lost) 1)) State.reset, .core, 0xFFFFFFFF, by decide⟩

theorem witness_RegistersReadAndWriteAsTheirAccessSays_6 : ∃ (s : State) (p : Path), p.wf = true :=
  ⟨(fun s => ((({ s with mg := State.reset.mg, svc := State.reset.svc, evReq := [], prot := State.reset.prot, answer := (0, 0) } : State).set (HK_CNT_overrun) 3).set (HK_CNT_nr) 5)) State.reset, .core, by decide⟩

theorem witness_RegistersReadAndWriteAsTheirAccessSays_7 : ∃ (s : State) (p : Path) (v : Nat), p.wf = true ∧ v < 2 ^
  32 :=
  ⟨(fun s => ({ s with mg := State.reset.mg, svc := State.reset.svc, evReq := [], prot := State.reset.prot, answer := (0, 0) } : State)) State.reset, .core, 5, by decide⟩

theorem witness_RegistersReadAndWriteAsTheirAccessSays_8 : ∃ (s : State) (p : Path), p.wf = true :=
  ⟨(fun s => ({ s with mg := State.reset.mg, svc := State.reset.svc, evReq := [], prot := State.reset.prot, answer := (3, 7) } : State)) State.reset, .core, by decide⟩

theorem witness_RegistersReadAndWriteAsTheirAccessSays_9 : ∃ (s : State) (p : Path) (k v be x : Nat), p.wf = true ∧ k
  < 0x6000 ∧ v < 2 ^ 32 ∧ be < 16 ∧ be ≠ 0 :=
  ⟨(fun s => ({ s with mg := { State.reset.mg with dram := [(8, 1), (9, 2), (10, 3)] }, svc := State.reset.svc, evReq := [], prot := State.reset.prot, answer := (0, 0) } : State)) State.reset, .core, 2, 0xAABBCCDD, 5, 8, by decide⟩

theorem witness_RegistersReadAndWriteAsTheirAccessSays_10 : ∃ (s : State) (p : Path) (k be : Nat), p.wf = true ∧ k <
  0x8000 ∧ be < 16 ∧ be ≠ 0 ∧ ((∀ j ∈ List.range 4, s.dramByte (4 * k + j) < 256 ∧ s.mark memDram (4 * k + j) = 0)) :=
  ⟨(fun s => ({ s with mg := { State.reset.mg with dram := [(8, 1), (9, 2), (10, 3)] }, svc := State.reset.svc, evReq := [], prot := State.reset.prot, answer := (0, 0) } : State)) State.reset, .core, 2, 6, by decide⟩

theorem witness_RegistersReadAndWriteAsTheirAccessSays_11 : ∃ (s : State) (p : Path) (m : CtMsg) (took : Bool), m.wf =
  true ∧ p.wf = true ∧ ctOpOf m ≤ 1 ∧ s.txnError (txnOf m ⟨p, none⟩) ≠ 0 :=
  ⟨(fun s => ({ s with mg := State.reset.mg, svc := State.reset.svc, evReq := [], prot := State.reset.prot, answer := (0, 0) } : State)) State.reset, .core, ⟨2 ^ 60 + 15 * 2 ^ 24, [0x6000000000000005]⟩, true, by decide⟩

theorem witness_RegistersReadAndWriteAsTheirAccessSays_12 : ∃ (s : State) (m : CtMsg) (p : Path) (a : Nat), m.wf =
  true ∧ ctOpOf m ≤ 1 ∧ p = .core ∧ a = bits (m.body.getD 0 0) 32 32 ∧ s.txnError (txnOf m ⟨.core, none⟩) = 0 :=
  ⟨(fun s => ({ s with mg := State.reset.mg, svc := State.reset.svc, evReq := [], prot := State.reset.prot, answer := (0, 0) } : State)) State.reset, ⟨2 ^ 60 + 15 * 2 ^ 24, [0x1000C10000000005]⟩, .core, 0x1000C100, by decide⟩

theorem witness_RegistersReadAndWriteAsTheirAccessSays_13 : ∃ (s : State) (c : Nat) (m : CtMsg), m.wf = true ∧ c < 8 ∧
  c ≠ 0 ∧ ctOpOf m ≤ 1 ∧ s.get (MG_DMA_CTRL_state c) = 1 ∧ s.txnError (txnOf m ⟨.dma c, none⟩) = 0 :=
  ⟨(fun s => (({ s with mg := State.reset.mg, svc := State.reset.svc, evReq := [], prot := State.reset.prot, answer := (0, 0) } : State).set (MG_DMA_CTRL_state 5) 1)) State.reset, 5, ⟨2 ^ 60 + 15 * 2 ^ 24, [0x1000C10000000005]⟩, by decide⟩

theorem witness_RegistersReadAndWriteAsTheirAccessSays_14 : ∃ (s : State) (m : CtMsg), m.wf = true ∧ ctOpOf m ≤ 1 ∧
  s.txnError (txnOf m ⟨.test, none⟩) = 0 :=
  ⟨(fun s => ({ s with mg := State.reset.mg, svc := State.reset.svc, evReq := [], prot := State.reset.prot, answer := (0, 0) } : State)) State.reset, ⟨2 ^ 60 + 15 * 2 ^ 24, [0x1000C10000000005]⟩, by decide⟩

theorem witness_RegistersReadAndWriteAsTheirAccessSays_15 : ∃ (s : State) (m : CtMsg) (i v : Nat), m.wf = true ∧
  ctOpOf m = 1 ∧ i < 16 ∧ v < 2 ^ 32 ∧ m.body.getD 0 0 = (MG_EV_IRQEN_en i).addr * 2 ^ 32 + v ∧ bits m.head 24 4 = 15
  :=
  ⟨(fun s => ({ s with mg := State.reset.mg, svc := State.reset.svc, evReq := [], prot := State.reset.prot, answer := (0, 0) } : State)) State.reset, ⟨2 ^ 60 + 15 * 2 ^ 24, [(MG_EV_IRQEN_en 2).addr * 2 ^ 32 + 9]⟩, 2, 9, by decide⟩

end Sys2Proof.Tests
end

section
/-! SUPPORT and PROOF. The refusals of a plate load, a commit and a start of acquisition, and the cancel of a partial
reload (R68, R72, R80, R520). -/

namespace Sys2Proof.Machine

open Sys2Proof

/-! ## The commands as effects -/

/-- A well-formed command takes its effect. -/
theorem effect_of_wf {c : Instr} (h : c.wf = true) (f : State → State) (s : State) : effect c f s = .next (f s) :=
  congrArg Host.Outcome.next (if_pos h)

/-- A command whose effect leaves the state changes nothing, whether its operands are admitted or not. -/
theorem effect_of_fixed {f : State → State} {s : State} (h : f s = s) (c : Instr) : effect c f s = .next s := by
  unfold effect
  rw [h, ite_self]

theorem exec_plateOpen (s : State) : exec .plateOpen s = .next (plateOpen s) := effect_of_wf rfl plateOpen s

theorem exec_plateCommit {lane : Option Nat} (hlane : lane.all (fun n => decide (n < 48)) = true) (s : State) :
    exec (.plateCommit lane) s = .next (plateCommit lane s) :=
  effect_of_wf (c := .plateCommit lane) hlane (plateCommit lane) s

theorem exec_reloadCancel (s : State) : exec .reloadCancel s = .next (reloadCancel s) :=
  effect_of_wf rfl reloadCancel s

theorem exec_acqStart (s : State) : exec .acqStart s = .next (s.acqStartAt s.acqOrbit) := effect_of_wf rfl acqStart s

theorem exec_acquisitionStarts (s : State) : exec .acquisitionStarts s = .next (acquisitionStarts s) :=
  effect_of_wf rfl acquisitionStarts s

/-! ## PLATE_OPEN refused (R68) -/

theorem plateOpen_of_busy {s : State} (h : s.get CX_PLATE_STATUS_state = 1 ∨ s.get CX_PLATE_STATUS_state = 3) :
    plateOpen s = s :=
  if_pos h

theorem plateOpen_of_acq {s : State} (hclear : s.get CX_PLATE_STATUS_state ≠ 1)
    (hcheck : s.get CX_PLATE_STATUS_state ≠ 3) (hacq : s.acq = true) :
    plateOpen s = s.set CX_PLATE_STATUS_err 1 := by
  simp [plateOpen, hclear, hcheck, hacq]

theorem plateOpen_of_reload {s : State} (hclear : s.get CX_PLATE_STATUS_state ≠ 1)
    (hcheck : s.get CX_PLATE_STATUS_state ≠ 3) (hacq : s.acq = false) (hfrom : 1 ≤ s.get CX_PLATE_RELOAD_state)
    (hto : s.get CX_PLATE_RELOAD_state ≤ 3) : plateOpen s = s.set CX_PLATE_STATUS_err 6 := by
  simp [plateOpen, hclear, hcheck, hacq, hfrom, hto]

/-! ## PLATE_COMMIT without an open load (R72) -/

theorem plateCommit_of_noLoad {s : State} (lane : Option Nat)
    (h : s.get CX_PLATE_STATUS_state = 0 ∨ s.get CX_PLATE_STATUS_state = 4) :
    plateCommit lane s = s.set CX_PLATE_STATUS_err 4 :=
  if_pos h

theorem State.loadOpen_of_busy {s : State} (h : s.get CX_PLATE_STATUS_state = 1 ∨ s.get CX_PLATE_STATUS_state = 3) :
    s.loadOpen = false := by
  rcases h with h | h <;> simp [State.loadOpen, h]

theorem plateCommit_of_busy {s : State} (lane : Option Nat)
    (h : s.get CX_PLATE_STATUS_state = 1 ∨ s.get CX_PLATE_STATUS_state = 3) : plateCommit lane s = s := by
  have hload : ¬ (s.get CX_PLATE_STATUS_state = 0 ∨ s.get CX_PLATE_STATUS_state = 4) := by omega
  simp [plateCommit, hload, State.loadOpen_of_busy h]

/-! ## RELOAD_CANCEL (R80) -/

theorem reloadCancel_of_pending {s : State}
    (h : s.get CX_PLATE_RELOAD_state = 1 ∨ s.get CX_PLATE_RELOAD_state = 2) :
    reloadCancel s =
      State.set { s with activity := if s.activity = some 2 then none else s.activity } CX_PLATE_RELOAD_state 7 :=
  if_pos h

theorem reloadCancel_of_not_pending {s : State} (hcheck : s.get CX_PLATE_RELOAD_state ≠ 1)
    (hwait : s.get CX_PLATE_RELOAD_state ≠ 2) : reloadCancel s = s :=
  if_neg (not_or.2 ⟨hcheck, hwait⟩)

/-! ## A refused start of acquisition (R520) -/

/-- What a refused start of acquisition may change besides the request of its event. -/
def acqRefusalFields : List Fld :=
  [CX_ACQ_STATUS_cause, CX_ACQ_STATUS_refused, CX_ACQ_STATUS_state, CX_ACQ_ORBIT_orbit, MG_EVLOG_merged]

theorem State.acqRefused_frame (s : State) (cause state : Nat) :
    Frame [.evReq] acqRefusalFields s ((s.acqRefused cause).acqCancel state) :=
  ((((Frame.refl _ _ s).set _ cause (by decide)).flag CX_ACQ_STATUS_refused 194 0 (by decide) (by decide)
    (by decide)).set CX_ACQ_STATUS_state state (by decide)).set CX_ACQ_ORBIT_orbit _ (by decide)

theorem State.acqCancel_get_ne (s : State) (state : Nat) {g : Fld} (hstate : g.key ≠ CX_ACQ_STATUS_state.key)
    (horbit : g.key ≠ CX_ACQ_ORBIT_orbit.key) : (s.acqCancel state).get g = s.get g :=
  (State.get_set_ne _ horbit _).trans (State.get_set_ne s hstate state)

theorem State.acqCancel_state (s : State) {state : Nat} (h : state < 4) :
    (s.acqCancel state).get CX_ACQ_STATUS_state = state :=
  (State.get_set_ne _ (by decide) _).trans (State.get_set_fit s CX_ACQ_STATUS_state h)

theorem State.acqRefused_cause (s : State) {cause : Nat} (h : cause < 16) :
    (s.acqRefused cause).get CX_ACQ_STATUS_cause = cause :=
  (State.get_flag_ne _ (by decide) (by decide) _ _).trans (State.get_set_fit s CX_ACQ_STATUS_cause h)

theorem State.acqRefused_refused (s : State) (cause : Nat) : (s.acqRefused cause).get CX_ACQ_STATUS_refused = 1 :=
  State.get_flag_same _ rfl (by decide) _ _

/-- A start refused for a cause: the cause is shown, refused is set and no request is left pending. -/
theorem State.acqRefused_spec (s : State) {cause : Nat} (h : cause < 16) :
    ((s.acqRefused cause).acqCancel 0).get CX_ACQ_STATUS_cause = cause ∧
      ((s.acqRefused cause).acqCancel 0).on CX_ACQ_STATUS_refused = true ∧
      ((s.acqRefused cause).acqCancel 0).get CX_ACQ_STATUS_state = 0 := by
  refine ⟨?cause, ?refused, State.acqCancel_state _ (by decide)⟩
  case cause => rw [State.acqCancel_get_ne _ _ (by decide) (by decide), State.acqRefused_cause s h]
  case refused =>
    rw [State.on, State.acqCancel_get_ne _ _ (by decide) (by decide), State.acqRefused_refused]
    rfl

/-- A plate that is not valid is the first cause judged. -/
theorem State.acqCause_of_plate {s : State} (h : s.get CX_PLATE_STATUS_state ≠ 4) : s.acqCause = some 1 := if_pos h

/-- A request is refused at once where a cause stands and acquisition neither runs nor stops. -/
theorem State.acqStartAt_of_cause {s : State} {cause : Nat} (hstate : s.get CX_ACQ_STATUS_state < 2)
    (hcause : s.acqCause = some cause) (o : Nat) : s.acqStartAt o = (s.acqRefused cause).acqCancel 0 := by
  unfold State.acqStartAt
  split
  next h => omega
  next h => omega
  next => rw [hcause]

/-- A pending start is refused where a cause stands when its orbit comes. -/
theorem acquisitionStarts_of_cause {s : State} {cause : Nat} (hstate : s.get CX_ACQ_STATUS_state = 1)
    (hdue : s.acqDue = true) (hcause : s.acqCause = some cause) :
    acquisitionStarts s = (s.acqRefused cause).acqCancel 0 := by
  simp [acquisitionStarts, hstate, hdue, hcause]

theorem acquisitionStarts_of_not_due {s : State} (h : ¬ (s.get CX_ACQ_STATUS_state = 1 ∧ s.acqDue = true)) :
    acquisitionStarts s = s :=
  if_pos (by rwa [not_and_or, Bool.not_eq_true] at h)

/-- A request without a valid plate is refused with cause 1. -/
theorem exec_acqStart_without_plate {s : State} (hplate : s.get CX_PLATE_STATUS_state ≠ 4)
    (hstate : s.get CX_ACQ_STATUS_state < 2) :
    ∃ t, exec .acqStart s = .next t ∧ t.get CX_ACQ_STATUS_cause = 1 ∧ t.on CX_ACQ_STATUS_refused = true ∧
      t.get CX_ACQ_STATUS_state = 0 ∧ Frame [.evReq] acqRefusalFields s t := by
  obtain ⟨hcause, hrefused, hstop⟩ := State.acqRefused_spec s (cause := 1) (by decide)
  refine ⟨_, ?_, hcause, hrefused, hstop, State.acqRefused_frame s 1 0⟩
  rw [exec_acqStart, State.acqStartAt_of_cause hstate (State.acqCause_of_plate hplate)]

/-- When the orbit of a pending start comes without a valid plate, the request ends; else the state stays. -/
theorem exec_acquisitionStarts_without_plate {s : State} (hplate : s.get CX_PLATE_STATUS_state ≠ 4) :
    ∃ t, exec .acquisitionStarts s = .next t ∧
      t.get CX_ACQ_STATUS_state =
        (if s.get CX_ACQ_STATUS_state = 1 ∧ s.acqDue = true then 0 else s.get CX_ACQ_STATUS_state) ∧
      Frame [.evReq] acqRefusalFields s t := by
  refine ⟨_, exec_acquisitionStarts s, ?_⟩
  split
  next hnow =>
    obtain ⟨hpending, hdue⟩ := hnow
    obtain ⟨-, -, hstop⟩ := State.acqRefused_spec s (cause := 1) (by decide)
    rw [acquisitionStarts_of_cause hpending hdue (State.acqCause_of_plate hplate)]
    exact ⟨hstop, State.acqRefused_frame s 1 0⟩
  next hdue =>
    rw [acquisitionStarts_of_not_due hdue]
    exact ⟨rfl, Frame.refl _ _ s⟩

/-- Settles O9: each clause is the equation of its command in the state the clause names. -/
theorem plateRefusalsAndCancel : Obligations.PlateRefusalsAndCancel := by
  unfold Obligations.PlateRefusalsAndCancel
  refine ⟨?openBusy, ?openAcq, ?openReload, ?commitNoLoad, ?commitBusy, ?requested, ?orbitComes, ?cancel, ?cancelLate⟩
  case openBusy => exact fun s h => by rw [exec_plateOpen, plateOpen_of_busy h]
  case openAcq => exact fun s hclear hcheck hacq => by rw [exec_plateOpen, plateOpen_of_acq hclear hcheck hacq]
  case openReload =>
    exact fun s hclear hcheck hacq hfrom hto => by
      rw [exec_plateOpen, plateOpen_of_reload hclear hcheck hacq hfrom hto]
  case commitNoLoad =>
    exact fun s lane hlane h => by rw [exec_plateCommit hlane, plateCommit_of_noLoad lane h]
  case commitBusy => exact fun s lane h => effect_of_fixed (plateCommit_of_busy lane h) (.plateCommit lane)
  case requested => exact fun s hplate hstate => exec_acqStart_without_plate hplate hstate
  case orbitComes => exact fun s hplate => exec_acquisitionStarts_without_plate hplate
  case cancel => exact fun s h => by rw [exec_reloadCancel, reloadCancel_of_pending h]
  case cancelLate =>
    exact fun s hcheck hwait => by rw [exec_reloadCancel, reloadCancel_of_not_pending hcheck hwait]

end Sys2Proof.Machine
end

section
/-! SUPPORT and PROOF. The orbit length: what its register takes from a write, and the start of an orbit at which it
comes into force (R88 to R90, R93). -/

namespace Sys2Proof.Machine

open Sys2Proof

/-! ## What an operation leaves of machine time -/

/-- `t` is in the orbit of `s`, with the same load waiting, the same CX_MT_ORBIT_LEN.nb_m1 and no stop newly due. -/
structure SameOrbit (s t : State) : Prop where
  nbM1 : t.get CX_MT_ORBIT_LEN_nb_m1 = s.get CX_MT_ORBIT_LEN_nb_m1
  orbit : t.mt.orbit = s.mt.orbit
  held : t.mt.held = s.mt.held
  noStop : s.stopDue = false → t.stopDue = false

/-- `t` is moreover in the bucket of `s`, with the same orbit length in force. -/
structure SameTime (s t : State) : Prop extends SameOrbit s t where
  bucket : t.mt.bucket = s.mt.bucket
  nb : t.mt.nb = s.mt.nb

theorem SameOrbit.trans {s t u : State} (h : SameOrbit s t) (h' : SameOrbit t u) : SameOrbit s u :=
  ⟨h'.nbM1.trans h.nbM1, h'.orbit.trans h.orbit, h'.held.trans h.held, h'.noStop ∘ h.noStop⟩

theorem SameOrbit.refl (s : State) : SameOrbit s s := ⟨rfl, rfl, rfl, id⟩

/-- A field of an arrayed register whose first copy lies above CX_MT_ORBIT_LEN: none of its copies is that register. -/
theorem indexed_key_ne_nbM1 {a k lo w r : Nat} {acc : Access}
    (h : CX_MT_ORBIT_LEN_nb_m1.addr < a := by decide) :
    (Fld.mk (a + k) lo w r acc).key ≠ CX_MT_ORBIT_LEN_nb_m1.key := by
  simp only [Fld.key, CX_MT_ORBIT_LEN_nb_m1] at h ⊢
  omega

/-- The same for an arrayed register of two indices. -/
theorem indexed2_key_ne_nbM1 {a k l lo w r : Nat} {acc : Access}
    (h : CX_MT_ORBIT_LEN_nb_m1.addr < a := by decide) :
    (Fld.mk (a + k + l) lo w r acc).key ≠ CX_MT_ORBIT_LEN_nb_m1.key :=
  indexed_key_ne_nbM1 (Nat.lt_add_right k h)

theorem leBase_gt (i : Nat) : CX_MT_ORBIT_LEN_nb_m1.addr < leBase i := by
  simp only [leBase, CX_MT_ORBIT_LEN_nb_m1]
  split <;> omega

namespace SameTime

theorem refl (s : State) : SameTime s s := ⟨SameOrbit.refl s, rfl, rfl⟩

variable {s t u : State}

/-- A change of machine time beside its place, its orbit length, the load and what waits for an edge. -/
theorem besideTime (h : SameTime s t) (hcsr : u.csr = t.csr) (ho : u.mt.orbit = t.mt.orbit)
    (hl : u.mt.held = t.mt.held) (he : u.mt.edge = t.mt.edge) (hb : u.mt.bucket = t.mt.bucket)
    (hn : u.mt.nb = t.mt.nb) : SameTime s u := by
  refine ⟨⟨?_, ho.trans h.orbit, hl.trans h.held, fun hs => ?_⟩, hb.trans h.bucket, hn.trans h.nb⟩
  · rw [← h.nbM1, State.get, State.get, hcsr]
  · rw [State.stopDue, he]
    exact h.noStop hs

/-- A change beside the register fields and machine time. -/
theorem beside (h : SameTime s t) (hcsr : u.csr = t.csr) (hmt : u.mt = t.mt) : SameTime s u :=
  h.besideTime hcsr (congrArg Mt.orbit hmt) (congrArg Mt.held hmt) (congrArg Mt.edge hmt) (congrArg Mt.bucket hmt)
    (congrArg Mt.nb hmt)

theorem set (h : SameTime s t) (f : Fld) (v : Nat)
    (hf : f.key ≠ CX_MT_ORBIT_LEN_nb_m1.key := by decide) : SameTime s (t.set f v) :=
  ⟨⟨(State.get_set_ne t hf.symm v).trans h.nbM1, h.orbit, h.held, h.noStop⟩, h.bucket, h.nb⟩

theorem setB (h : SameTime s t) (f : Fld) (b : Bool)
    (hf : f.key ≠ CX_MT_ORBIT_LEN_nb_m1.key := by decide) : SameTime s (t.setB f b) := h.set f _ hf

theorem count (h : SameTime s t) (f : Fld) (n : Nat)
    (hf : f.key ≠ CX_MT_ORBIT_LEN_nb_m1.key := by decide) : SameTime s (t.count f n) := h.set f _ hf

theorem raise (h : SameTime s t) (src arg : Nat) : SameTime s (t.raise src arg) := by
  unfold State.raise
  split
  · exact h.count _ _
  · exact h.beside rfl rfl

theorem flag (h : SameTime s t) (f : Fld) (src arg : Nat)
    (hf : f.key ≠ CX_MT_ORBIT_LEN_nb_m1.key := by decide) : SameTime s (t.flag f src arg) := by
  unfold State.flag
  split
  · exact h
  · exact (h.set f 1 hf).raise _ _

theorem ite {c : Prop} [Decidable c] (h : SameTime s t) (h' : SameTime s u) : SameTime s (if c then t else u) := by
  split
  · exact h
  · exact h'

theorem iff {b : Bool} {f : State → State} (h : SameTime s t) (hf : ∀ u, SameTime s u → SameTime s (f u)) :
    SameTime s (t.iff b f) := ite (hf t h) h

theorem each {α : Type} {l : List α} {f : State → α → State} (h : SameTime s t)
    (hf : ∀ u a, SameTime s u → SameTime s (f u a)) : SameTime s (t.each l f) :=
  List.foldlRecOn l f h fun u hu a _ => hf u a hu

theorem draw (h : SameTime s t) : SameTime s t.draw.2 := h.beside rfl rfl

theorem rise (h : SameTime s t) (f : Fld) (hf : f.key ≠ CX_MT_ORBIT_LEN_nb_m1.key := by decide) :
    SameTime s (t.rise f) := h.draw.count f _ hf

theorem keepOld (h : SameTime s t) (fs : List Fld) (d : Nat) : SameTime s (t.keepOld fs d) :=
  ite (h.beside rfl rfl) h

theorem keepOldFe (h : SameTime s t) (fs : List Fld) : SameTime s (t.keepOldFe fs) :=
  ite (h.draw.keepOld fs _) h

/-! ### Assay, injections, plate -/

theorem assayRunEnd (h : SameTime s t) : SameTime s t.assayRunEnd := by
  unfold State.assayRunEnd
  split
  · exact ite (h.set _ _ indexed_key_ne_nbM1) h
  · exact h

theorem assayStop (h : SameTime s t) : SameTime s t.assayStop := by
  unfold State.assayStop
  refine raise (set (set (rise ?_ _) _ _) _ _) _ _
  exact h.assayRunEnd.beside rfl rfl

theorem assayCheck (h : SameTime s t) : SameTime s t.assayCheck := by
  unfold State.assayCheck
  split
  · exact h
  · exact ite h h.assayStop

theorem injAbort (h : SameTime s t) (i : Nat) : SameTime s (t.injAbort i) :=
  ite ((h.set _ _ (indexed_key_ne_nbM1 (leBase_gt i))).raise _ _) h

theorem setEngine (h : SameTime s t) (i : Nat) (g : Engine) : SameTime s (t.setEngine i g) := h.beside rfl rfl

theorem injRequest (h : SameTime s t) (i loop : Nat) : SameTime s (t.injRequest i loop) :=
  ite (h.count _ _ (indexed_key_ne_nbM1 (leBase_gt i)))
    (((h.setEngine i _).set _ _ (indexed_key_ne_nbM1 (leBase_gt i))).set _ _ (indexed_key_ne_nbM1 (leBase_gt i)))

theorem reloadGo (h : SameTime s t) (first n : Nat) : SameTime s (reloadGo first n t) := by
  have hstored := (h.set CX_PLATE_RELOAD_first first).set CX_PLATE_RELOAD_count n
  have hended : ∀ {u} (k e : Nat), SameTime s u →
      SameTime s ((u.set CX_PLATE_RELOAD_state k).set CX_PLATE_RELOAD_err e) := fun k e h => (h.set _ k).set _ e
  unfold Machine.reloadGo
  refine ite (h.set _ _) ?_
  dsimp only
  split
  · exact hended _ _ hstored
  · refine ite (hended _ _ (hstored.beside rfl rfl)) (ite (hended _ _ (hstored.beside rfl rfl)) ?_)
    split
    all_goals exact hended _ _ (hstored.beside rfl rfl)

/-! ### Store, records, trigger -/

theorem updReady (h : SameTime s t) : SameTime s t.updReady := h.setB _ _

theorem setBanks (h : SameTime s t) (a b : Nat) : SameTime s (t.setBanks a b) :=
  each (h.set _ _) fun _ _ hu =>
    (hu.set _ _ indexed_key_ne_nbM1).set _ _ indexed_key_ne_nbM1

theorem wantBanks (h : SameTime s t) (want : Nat) : SameTime s (t.wantBanks want) := by
  refine setBanks ?_ _ _
  exact h.beside rfl rfl

theorem retireBanks (h : SameTime s t) : SameTime s t.retireBanks := (h.wantBanks _).updReady.assayCheck

theorem bankJoins (h : SameTime s t) (bank : Nat) : SameTime s (t.bankJoins bank) := by
  refine ite (raise (updReady (setBanks ?_ _ _)) _ _) h
  exact h.beside rfl rfl

theorem flushBegin (h : SameTime s t) : SameTime s t.flushBegin := by
  refine set (set (set ?_ _ _) _ _) _ _
  exact h.beside rfl rfl

theorem histClearing (h : SameTime s t) : SameTime s t.histClearing := by
  refine set ?_ _ _
  exact h.beside rfl rfl

theorem namesEnd (h : SameTime s t) : SameTime s t.namesEnd := h.beside rfl rfl

theorem setQueue (h : SameTime s t) (q : List Trig) : SameTime s (t.setQueue q) := by
  refine set (set ?_ _ _) _ _
  exact h.beside rfl rfl

theorem takeAccept (h : SameTime s t) (body : Nat) : SameTime s (t.takeAccept body) :=
  ite ((h.count _ _).flag _ _ _) (iff (h.setQueue _) fun _ hu => (hu.count _ _).flag _ _ _)

theorem takeArrived (h : SameTime s t) (n : Nat) : SameTime s (t.takeArrived n) :=
  each (h.beside rfl rfl) fun _ body hu => hu.takeAccept body

/-! ### Channels, converters, bin tables -/

theorem setChan (h : SameTime s t) (ch : Nat) (c : Chan) : SameTime s (t.setChan ch c) := h.beside rfl rfl
theorem setDie (h : SameTime s t) (n : Nat) (d : FeDie) : SameTime s (t.setDie n d) := h.beside rfl rfl

theorem strobeDie (h : SameTime s t) (n k coarse : Nat) : SameTime s (t.strobeDie k coarse n) :=
  ite ((h.count _ _ indexed_key_ne_nbM1).flag _ _ _ indexed_key_ne_nbM1)
    (each (h.setDie _ _) fun _ _ hu =>
      iff (hu.setChan _ _) fun _ hw => hw.count _ _ indexed_key_ne_nbM1)

theorem strobe (h : SameTime s t) (arg coarse : Nat) : SameTime s (t.strobe arg coarse) :=
  each h fun _ n hu => hu.strobeDie n _ _

theorem unlock (h : SameTime s t) (n k : Nat) : SameTime s (t.unlock n k) :=
  ite (raise (set (set (h.setDie _ _) _ _ indexed_key_ne_nbM1) _ _ indexed_key_ne_nbM1) _ _)
    (h.set _ _ indexed_key_ne_nbM1)

theorem cdTake (h : SameTime s t) (n v : Nat) : SameTime s (t.cdTake n v) :=
  set (h.setDie _ _) _ _ indexed2_key_ne_nbM1

theorem cdRefuse (h : SameTime s t) (n : Nat) (slice : Bool) : SameTime s (t.cdRefuse n slice) :=
  have hcount := h.count (FE_CD_STATUS_refused n) 1 indexed_key_ne_nbM1
  ite (raise (hcount.setDie _ _) _ _) hcount

theorem keepTables (h : SameTime s t) (p : Nat → Bool) : SameTime s (t.keepTables p) :=
  each h fun _ _ hu => hu.setChan _ _

theorem putTable (h : SameTime s t) (ch : Nat) (l : List Nat) : SameTime s (t.putTable ch l) :=
  have hbin : ∀ n k j {lo w r : Nat} {acc : Access},
      (Fld.mk (0x20100000 + n * 0x1000000 + k * 0x800 + j * 0x4) lo w r acc).key ≠ CX_MT_ORBIT_LEN_nb_m1.key :=
    fun _ _ _ => indexed2_key_ne_nbM1 (Nat.lt_add_right _ (by decide))
  each h fun _ _ hu => (hu.set _ _ (hbin _ _ _)).set _ _ (hbin _ _ _)

theorem swapTables (h : SameTime s t) (die : Nat) (hist : List (List Nat)) : SameTime s (t.swapTables die hist) := by
  refine ite h ?_
  dsimp only
  refine ite (set ?taken _ _ indexed_key_ne_nbM1) (set ?taken _ _ indexed_key_ne_nbM1)
  have hrows := fun good : List Nat => each (l := good) (h.keepTables fun ch =>
    ch / 512 == die && ch % 512 / 32 == t.get (FE_CD_STATUS_column die)) fun _ r hu =>
      hu.putTable (die * 512 + t.get (FE_CD_STATUS_column die) * 32 + r) (cdTable 0 (hist.getD r []))
  refine cdTake (iff (iff (set (set (hrows _) _ _ indexed2_key_ne_nbM1) _ _ indexed2_key_ne_nbM1) ?good) ?bad) _ _
  case good =>
    exact fun _ hu => ((hu.set _ _ indexed2_key_ne_nbM1).set _ _ indexed2_key_ne_nbM1).raise _ _
  case bad => exact fun _ hu => (hu.set _ _ indexed_key_ne_nbM1).raise _ _

theorem setHk (h : SameTime s t) (k : Hk) : SameTime s (t.setHk k) := by
  refine set ?_ _ _
  exact h.beside rfl rfl

theorem hkRequest (h : SameTime s t) (input : Nat) (cal : Bool) : SameTime s (t.hkRequest input cal) := by
  refine ite ((h.count _ _).flag _ _ _) ?_
  have hasked := (h.setHk { t.mg.hk with queue := t.mg.hk.queue ++ [⟨input % 64, cal, false⟩] }).assayCheck
  dsimp only
  split
  · exact (hasked.setHk _).setHk _
  · exact ite (hasked.setHk _) hasked
  · exact hasked

/-! ### The end of the domain, and a tile that is gone -/

theorem servosOff (h : SameTime s t) : SameTime s t.servosOff := h.each fun _ n hu => hu.unlock n 0

theorem quietWords (h : SameTime s t) : SameTime s t.quietWords := h.beside rfl rfl

theorem domainStops (h : SameTime s t) : SameTime s t.domainStops := by
  have hstill : SameTime s { t with mt := { t.mt with running := false, orbitOut := false } } :=
    h.besideTime rfl rfl rfl rfl rfl rfl
  refine quietWords ?_
  exact hstill.servosOff.beside rfl rfl

theorem loopOpen (h : SameTime s t) (r : Nat) : SameTime s (t.loopOpen r) := by
  unfold State.loopOpen
  exact iff (h.set _ _ indexed_key_ne_nbM1) fun _ hu => hu.injAbort 2

theorem loopFault (h : SameTime s t) (r cause : Nat) : SameTime s (t.loopFault r cause) := by
  refine ite (raise (set (set (h.loopOpen r) _ _ indexed_key_ne_nbM1) _ _ ?_) _ _) h
  split <;> decide

theorem loopFaultAll (h : SameTime s t) (cause : Nat) : SameTime s (t.loopFaultAll cause) :=
  h.each fun _ r hu => hu.loopFault r cause

theorem i2cError (h : SameTime s t) (state : Nat) : SameTime s (t.i2cError state) := (h.set _ _).flag _ _ _

theorem tileGone (h : SameTime s t) : SameTime s t.tileGone := by
  unfold State.tileGone
  refine iff (iff (loopFaultAll (each h fun u n hu => ?_) 5) fun _ hu => hu.i2cError 5) fun _ hu => hu.set _ _
  exact (hu.keepOldFe [FE_CTRL_die_mask n]).set _ _ indexed_key_ne_nbM1

/-! ### Bucket edges -/

theorem edgeAct (h : SameTime s t) (a : EdgeAct) : SameTime s (t.edgeAct a) := by
  cases a with
  | stop => exact h.domainStops
  | flush => exact h.flushBegin
  | retire => exact h.retireBanks
  | join bank => exact h.bankJoins bank
  | tables die hist => exact h.swapTables die hist
  | swap => exact h.histClearing
  | tileGone => exact h.tileGone

theorem edgeActs (h : SameTime s t) : SameTime s t.edgeActs :=
  each (t := { t with mt := { t.mt with edge := [] } }) ⟨⟨h.nbM1, h.orbit, h.held, fun _ => rfl⟩, h.bucket, h.nb⟩
    fun _ a hu => hu.edgeAct a

/-! ### Calendar -/

theorem miss (h : SameTime s t) (n e : Nat) : SameTime s (t.miss n e) := by
  have hcount := h.count CX_CAL_EN_missed n
  refine ite h (ite hcount (raise ?_ _ _))
  exact hcount.besideTime rfl rfl rfl rfl rfl rfl

theorem calInject (h : SameTime s t) (e a : Nat) : SameTime s (t.calInject e a) := by
  unfold State.calInject
  dsimp only
  split
  · exact h.injRequest 0 0
  · exact h.injRequest 1 0
  · exact ite (h.injRequest 2 _) (h.miss 1 e)
  · exact h.miss 1 e

theorem calRefresh (h : SameTime s t) (e a : Nat) : SameTime s (t.calRefresh e a) :=
  ite (h.miss 1 e) (ite h (ite (h.cdRefuse _ _) (ite h (h.beside rfl rfl))))

theorem calAct (h : SameTime s t) (e act a coarse : Nat) : SameTime s (t.calAct e act a coarse) := by
  unfold State.calAct
  split
  · exact h
  · exact h.strobe a coarse
  · exact h.hkRequest _ _
  · exact h.calInject e a
  · exact ite h (h.beside rfl rfl)
  · exact ite (h.beside rfl rfl) h
  · exact h.reloadGo _ _
  · exact h.raise _ _
  · exact h.calRefresh e a
  · exact h.miss 1 e

theorem markFired (h : SameTime s t) (e : Nat) : SameTime s (t.markFired e) := h.besideTime rfl rfl rfl rfl rfl rfl

/-! ### Orbit starts -/

theorem judgeQuiet (h : SameTime s t) (newNb : Bool) : SameTime s (t.judgeQuiet newNb) := by
  refine iff (set ?_ _ _) fun _ hu => hu.raise _ _
  exact h.besideTime rfl rfl rfl rfl rfl rfl

theorem missOver (h : SameTime s t) (a k o : Nat) : SameTime s (t.missOver a k o) := by
  unfold State.missOver
  dsimp only
  split
  · exact h
  · exact h.miss _ _

theorem slewStart (h : SameTime s t) (offset : Int) : SameTime s (t.slewStart offset) := by
  refine set ?_ _ _
  exact ((h.set CX_MT_STATUS_state 3).set CX_MT_STATUS_unresolved 0).besideTime rfl rfl rfl rfl rfl rfl

theorem renumber (h : SameTime s t) : SameTime s t.renumber := by
  refine flushBegin ?_
  exact h.besideTime rfl rfl rfl rfl rfl rfl

end SameTime

/-! ## Machine time passing within an orbit (R90, R118) -/

namespace SameOrbit

variable {s t : State}

theorem jump (h : SameOrbit s t) (n : Nat) : SameOrbit s (t.jump n) := by
  unfold State.jump
  dsimp only
  split
  · exact h
  · split
    · exact ⟨(State.get_set_ne _ (by decide) _).trans h.nbM1, h.orbit, h.held, h.noStop⟩
    · exact ⟨h.nbM1, h.orbit, h.held, h.noStop⟩

/-- What keeps the bucket keeps the orbit. -/
theorem next {u : State} (h : SameOrbit s t) (h' : SameTime t u) : SameOrbit s u := h.trans h'.toSameOrbit

theorem takeArrived (h : SameOrbit s t) (n : Nat) : SameOrbit s (t.takeArrived n) :=
  h.next ((SameTime.refl t).takeArrived n)

theorem edgeActs (h : SameOrbit s t) : SameOrbit s t.edgeActs := h.next (SameTime.refl t).edgeActs

theorem moveTo (h : SameOrbit s t) (b : Nat) : SameOrbit s (t.moveTo b) := by
  unfold State.moveTo
  split
  · exact h
  · exact (((h.takeArrived _).jump 1).edgeActs).jump _

theorem calFire (h : SameOrbit s t) (k : Nat) : SameOrbit s (t.calFire k) :=
  (h.moveTo (k / 256)).next (((SameTime.refl _).markFired _).calAct _ _ _ _)

theorem calRun (h : SameOrbit s t) (hi : Nat) : SameOrbit s (t.calRun hi) :=
  List.foldlRecOn _ State.calFire h fun _ hu k _ => hu.calFire k

end SameOrbit

/-! ## The start of an orbit (R89, R90, R93) -/

/-- `t` is in bucket 0 of orbit `o`, with the orbit length that `s` holds in CX_MT_ORBIT_LEN in force, and no stop newly
due. -/
structure OrbitOpened (o : Nat) (s t : State) : Prop where
  nbM1 : t.get CX_MT_ORBIT_LEN_nb_m1 = s.get CX_MT_ORBIT_LEN_nb_m1
  orbit : t.mt.orbit = o % 2 ^ 32
  bucket : t.mt.bucket = 0
  nb : t.mt.nb = s.get CX_MT_ORBIT_LEN_nb_m1 + 1
  noStop : s.stopDue = false → t.stopDue = false

theorem OrbitOpened.next {o : Nat} {s t u : State} (h : OrbitOpened o s t) (h' : SameTime t u) : OrbitOpened o s u :=
  ⟨h'.nbM1.trans h.nbM1, h'.orbit.trans h.orbit, h'.bucket.trans h.bucket, h'.nb.trans h.nb, h'.noStop ∘ h.noStop⟩

/-- The orbit length is still that of the register when another orbit opens. -/
theorem OrbitOpened.again {o p : Nat} {s t u : State} (h : OrbitOpened o s t) (h' : OrbitOpened p t u) :
    OrbitOpened p s u :=
  ⟨h'.nbM1.trans h.nbM1, h'.orbit, h'.bucket, h'.nb.trans (congrArg (· + 1) h.nbM1), h'.noStop ∘ h.noStop⟩

theorem SameOrbit.opened {o : Nat} {s t u : State} (h : SameOrbit s t) (h' : OrbitOpened o t u) : OrbitOpened o s u :=
  ⟨h'.nbM1.trans h.nbM1, h'.orbit, h'.bucket, h'.nb.trans (congrArg (· + 1) h.nbM1), h'.noStop ∘ h.noStop⟩

theorem State.openOrbit_opened (s : State) (o : Nat) : OrbitOpened o s (s.openOrbit o).2 :=
  OrbitOpened.next (t := { s with mt := { s.mt with
    orbit := o % 2 ^ 32, bucket := 0, nb := s.get CX_MT_ORBIT_LEN_nb_m1 + 1, orbitOut := true, tick := 0, fired := [] } })
    ⟨rfl, rfl, rfl, rfl, id⟩ ((SameTime.refl _).judgeQuiet _)

theorem SameTime.opened {s t : State} (h : SameTime s t) (o : Nat) : OrbitOpened o s (t.openOrbit o).2 :=
  h.toSameOrbit.opened (t.openOrbit_opened o)

/-- The load that opened the orbit no longer waits. -/
theorem OrbitOpened.loadTaken {o : Nat} {s t : State} (h : OrbitOpened o s t) : OrbitOpened o s
    (State.set { t with mt := { t.mt with held := false, place := none } } CX_MT_STATUS_mt_valid 1).calStep :=
  ⟨(State.get_set_ne t (f := CX_MT_STATUS_mt_valid) (by decide) 1).trans h.nbM1, h.orbit, h.bucket, h.nb, h.noStop⟩

theorem State.loadMt_opened (s : State) (a k : Nat) (slew : Option Int) :
    OrbitOpened (s.mt.place.getD (s.get CX_MT_LOAD_ORBIT_orbit)) s (s.loadMt a k slew) := by
  have hmissed := (SameTime.refl s).namesEnd.missOver a k (s.mt.place.getD (s.get CX_MT_LOAD_ORBIT_orbit))
  have hopen := (hmissed.opened (s.mt.place.getD (s.get CX_MT_LOAD_ORBIT_orbit))).loadTaken
  cases slew with
  | none => exact hopen.next (SameTime.refl _).renumber
  | some ticks => exact hopen.next ((SameTime.refl _).slewStart ticks).renumber

/-- Without a load that waits, the orbit opened is the next one. -/
theorem State.nextOrbit_opened (s : State) : ∃ o, OrbitOpened o s s.nextOrbit ∧
    (s.mt.held = false → o = (s.mt.orbit + 1) % 2 ^ 32) := by
  unfold State.nextOrbit
  dsimp only
  generalize hs : ({ s with mt := _ } : State) = t
  have ht : SameTime s t := hs ▸ (SameTime.refl s).besideTime rfl rfl rfl rfl rfl rfl
  split
  next hheld _ => exact ⟨_, ht.toSameOrbit.opened (t.loadMt_opened _ _ _), by simp [hheld]⟩
  next hheld _ => exact ⟨_, ht.toSameOrbit.opened (t.loadMt_opened _ _ _), by simp [hheld]⟩
  next =>
    refine ⟨_, ?_, fun _ => rfl⟩
    exact ((ht.iff fun _ hu => hu.namesEnd).opened _).next (SameTime.iff (SameTime.refl _) fun _ hu => hu.renumber)

/-- A load is placed within the orbit only where one waits (R103). -/
theorem State.markerAt_of_not_held {s : State} (h : s.mt.held = false) : s.markerAt = none := by
  simp [State.markerAt, h]

/-- The edge at which the current numbering ends, after the buckets that are left of it. -/
def State.atOrbitEnd (s : State) : State :=
  let s := (s.calRun (s.numEnd - 1)).moveTo (s.numEnd - 1)
  (s.takeArrived s.tg.arrived.length).jump 1

theorem State.atOrbitEnd_sameOrbit (s : State) : SameOrbit s s.atOrbitEnd :=
  ((((SameOrbit.refl s).calRun _).moveTo _).takeArrived _).jump 1

/-- Every start of an orbit takes the orbit length from the register: the load or the next orbit, whichever comes at the
end of the current numbering. -/
theorem State.orbitStep_opened {s : State} (hstop : s.stopDue = false) : ∃ o, OrbitOpened o s s.orbitStep ∧
    (s.mt.held = false → o = (s.mt.orbit + 1) % 2 ^ 32) := by
  have hend := s.atOrbitEnd_sameOrbit
  obtain ⟨o, hnext, ho⟩ := s.atOrbitEnd.nextOrbit_opened
  rw [hend.held, hend.orbit] at ho
  have hopen := (hend.opened hnext).next (SameTime.refl _).edgeActs
  rw [State.orbitStep, if_neg (by simp [hstop])]
  dsimp only
  split
  next k r hload =>
    split
    · have hheld : s.mt.held ≠ false := fun h => by simp [State.markerAt_of_not_held h] at hload
      exact ⟨_, (hend.opened (State.loadMt_opened _ _ _ _)).next (SameTime.refl _).edgeActs, fun h => absurd h hheld⟩
    · exact ⟨o, hopen, ho⟩
  next => exact ⟨o, hopen, ho⟩

/-- MT_LOAD_APPLY ends at the start of an orbit, the first or, where the load is placed later, the one after it. -/
theorem mtLoadApply_opened {s : State} (hrun : s.mt.running = true) (hheld : s.mt.held = true)
    (hstop : s.stopDue = false) : ∃ o, OrbitOpened o s (mtLoadApply s) := by
  obtain ⟨o, hfirst, -⟩ := State.orbitStep_opened hstop
  obtain ⟨p, hsecond, -⟩ := State.orbitStep_opened (hfirst.noStop hstop)
  rw [mtLoadApply, if_pos (by simp [hrun, hheld])]
  dsimp only
  split
  · exact ⟨p, hfirst.again hsecond⟩
  · exact ⟨o, hfirst⟩

theorem orbitStart_of_running {s : State} (hrun : s.mt.running = true) : orbitStart s = s.orbitStep := if_pos hrun

/-! ## The bucket edge with no command waiting -/

theorem State.markerAt_lt {s : State} {k r : Nat} (hnb : 0 < s.mt.nb) (h : s.markerAt = some (k, r)) :
    k < s.mt.nb := by
  unfold State.markerAt at h
  split at h
  next =>
    obtain ⟨rfl, -⟩ := Prod.mk.inj (Option.some.inj h)
    have : (-s.mt.offset).emod ((s.mt.nb * 32768 : Nat) : Int) < ((s.mt.nb * 32768 : Nat) : Int) :=
      Int.emod_lt_of_pos _ (by omega)
    omega
  next => simp at h

/-- In the last bucket the numbering ends at N_B, wherever a load is placed. -/
theorem State.numEnd_of_last {s : State} (h : s.mt.nb = s.mt.bucket + 1) : s.numEnd = s.mt.nb := by
  unfold State.numEnd
  split
  next k r hload =>
    have := State.markerAt_lt (by omega) hload
    exact if_neg (by omega)
  next => rfl

theorem State.tick_of_last {s : State} (hrun : s.mt.running = true) (h : s.mt.nb = s.mt.bucket + 1) :
    s.tick = s.orbitStep := by
  rw [State.tick, if_pos hrun, State.bucketEdge, if_neg (by rw [State.numEnd_of_last h]; omega),
    orbitStart_of_running hrun]

theorem step_of_idle {s : State} (h : s.pending = []) : step s = .next s.tick := by
  rw [step, h]

/-! ## A write of CX_MT_ORBIT_LEN (R89) -/

/-- CX_MT_ORBIT_LEN as its address finds it. -/
def orbitLenReg : RegAt := ⟨CX_MT_ORBIT_LEN_nb_m1.addr, [], [CX_MT_ORBIT_LEN_refused, CX_MT_ORBIT_LEN_nb_m1]⟩

theorem regAt_orbitLen : regAt CX_MT_ORBIT_LEN_nb_m1.addr = some orbitLenReg := rfl

/-- A write of 1 clears refused, the one W1C field of the register (R17). -/
theorem State.storeW1c_orbitLen (s : State) (v : Nat) : s.storeW1c orbitLenReg v =
    s.set CX_MT_ORBIT_LEN_refused
      (Nat.xor (s.get CX_MT_ORBIT_LEN_refused) (Nat.land (s.get CX_MT_ORBIT_LEN_refused) (bits v 16 1))) := rfl

/-- The clearing does not touch the state of acquisition. -/
theorem State.storeW1c_orbitLen_acq (s : State) (v : Nat) : (s.storeW1c orbitLenReg v).acq = s.acq := by
  simp only [State.acq, State.storeW1c_orbitLen]
  rw [State.get_set_ne s (by decide)]

/-- What a write of `v` leaves: nb_m1 stored, at least 63, or the write refused. -/
def State.orbitLenWritten (s : State) (v : Nat) : State :=
  if s.acq then (s.storeW1c orbitLenReg v).set CX_MT_ORBIT_LEN_refused 1
  else (s.storeW1c orbitLenReg v).set CX_MT_ORBIT_LEN_nb_m1 (max 63 (v % 65536))

theorem writePlate_orbitLen (src : Source) (v : Nat) (s : State) : writePlate src orbitLenReg v s = none := rfl

theorem writeTime_orbitLen (v : Nat) (s : State) : writeTime orbitLenReg v s = some (s.orbitLenWritten v) := by
  have hof : CX_MT_ORBIT_LEN_nb_m1.of v = v % 65536 := congrArg (· % 65536) (Nat.div_one v)
  rw [State.orbitLenWritten, ← State.storeW1c_orbitLen_acq s v, ← hof]
  unfold writeTime
  exact if_pos rfl

theorem State.writeReg_orbitLen (s : State) (src : Source) (v : Nat) :
    s.writeReg src orbitLenReg v = s.orbitLenWritten v := by
  rw [State.writeReg, writePlate_orbitLen, writeTime_orbitLen]
  rfl

theorem State.busWrite_orbitLen (s : State) (p : Path) (v : Nat) :
    s.busWrite ⟨⟨p, none⟩, true, CX_MT_ORBIT_LEN_nb_m1.addr, v, 15⟩ = s.orbitLenWritten v := by
  simp only [State.busWrite, regAt_orbitLen, State.writeReg_orbitLen]
  simp [CX_MT_ORBIT_LEN_nb_m1]

theorem State.writeRefused_orbitLen (s : State) (p : Path) (v : Nat) :
    s.writeRefused ⟨⟨p, none⟩, true, CX_MT_ORBIT_LEN_nb_m1.addr, v, 15⟩ = false := by
  rw [State.writeRefused]
  dsimp only
  rw [if_neg (by decide), if_pos (by decide)]

/-- A write of the whole register meets no error (R547). -/
theorem State.txnError_orbitLen (s : State) (p : Path) (v : Nat) :
    s.txnError ⟨⟨p, none⟩, true, CX_MT_ORBIT_LEN_nb_m1.addr, v, 15⟩ = 0 := by
  rw [State.txnError]
  dsimp only
  rw [if_neg (by exact Bool.false_ne_true), if_neg (by decide), if_neg fun h => absurd h.1 (by decide),
    State.writeRefused_orbitLen]
  rfl

theorem registerWrite_orbitLen (s : State) (p : Path) (v : Nat) :
    registerWrite p CX_MT_ORBIT_LEN_nb_m1.addr v 15 s = { s.orbitLenWritten v with answer := (0, 0) } := by
  rw [registerWrite, State.transact]
  dsimp only
  rw [State.txnError_orbitLen, State.busWrite_orbitLen]
  rfl

theorem exec_registerWrite_orbitLen {p : Path} {v : Nat} (hp : p.wf = true) (hv : v < 2 ^ 32) (s : State) :
    exec (.registerWrite p CX_MT_ORBIT_LEN_nb_m1.addr v 15) s =
      .next { s.orbitLenWritten v with answer := (0, 0) } := by
  have hwf : (Instr.registerWrite p CX_MT_ORBIT_LEN_nb_m1.addr v 15).wf = true := by
    simp only [Instr.wf, hp, decide_eq_true hv]
    rfl
  exact (effect_of_wf hwf _ s).trans (congrArg _ (registerWrite_orbitLen s p v))

theorem State.orbitLenWritten_of_stopped {s : State} (h : s.get CX_ACQ_STATUS_state < 2) (v : Nat) :
    s.orbitLenWritten v = (s.storeW1c orbitLenReg v).set CX_MT_ORBIT_LEN_nb_m1 (max 63 (v % 65536)) := by
  have hstate : s.get CX_ACQ_STATUS_state ≠ 2 ∧ s.get CX_ACQ_STATUS_state ≠ 3 := by omega
  exact if_neg (by simp [State.acq, hstate])

theorem State.orbitLenWritten_of_running {s : State}
    (h : s.get CX_ACQ_STATUS_state = 2 ∨ s.get CX_ACQ_STATUS_state = 3) (v : Nat) :
    s.orbitLenWritten v = (s.storeW1c orbitLenReg v).set CX_MT_ORBIT_LEN_refused 1 :=
  if_pos (by simpa [State.acq] using h)

/-- With acquisition stopped the write stores nb_m1, at least 63 (R88, R89). -/
theorem exec_write_orbitLen_stopped {s : State} {p : Path} {v : Nat} (hp : p.wf = true) (hv : v < 2 ^ 32)
    (h : s.get CX_ACQ_STATUS_state < 2) :
    ∃ t, exec (.registerWrite p CX_MT_ORBIT_LEN_nb_m1.addr v 15) s = .next t ∧ t.answer = (0, 0) ∧
      t.get CX_MT_ORBIT_LEN_nb_m1 = max 63 (v % 65536) ∧ t.mt = s.mt ∧
      Frame [.answer] [CX_MT_ORBIT_LEN_nb_m1, CX_MT_ORBIT_LEN_refused] s t := by
  refine ⟨_, exec_registerWrite_orbitLen hp hv s, rfl, ?_⟩
  rw [State.orbitLenWritten_of_stopped h]
  refine ⟨State.get_set_fit _ CX_MT_ORBIT_LEN_nb_m1 (max_lt (by decide) (Nat.mod_lt v (by decide))), rfl, ?_⟩
  exact (((Frame.refl _ _ s).set CX_MT_ORBIT_LEN_refused _ (by decide)).set CX_MT_ORBIT_LEN_nb_m1 _
    (by decide)).with_answer _ (by decide)

/-- While acquisition runs the write is ignored and refused is set (R89). -/
theorem exec_write_orbitLen_running {s : State} {p : Path} {v : Nat} (hp : p.wf = true) (hv : v < 2 ^ 32)
    (h : s.get CX_ACQ_STATUS_state = 2 ∨ s.get CX_ACQ_STATUS_state = 3) :
    ∃ t, exec (.registerWrite p CX_MT_ORBIT_LEN_nb_m1.addr v 15) s = .next t ∧ t.answer = (0, 0) ∧
      t.get CX_MT_ORBIT_LEN_nb_m1 = s.get CX_MT_ORBIT_LEN_nb_m1 ∧ t.get CX_MT_ORBIT_LEN_refused = 1 ∧ t.mt = s.mt ∧
      Frame [.answer] [CX_MT_ORBIT_LEN_refused] s t := by
  have hframe : Frame [.answer] [CX_MT_ORBIT_LEN_refused] s { s.orbitLenWritten v with answer := (0, 0) } := by
    rw [State.orbitLenWritten_of_running h]
    exact (((Frame.refl _ _ s).set CX_MT_ORBIT_LEN_refused _ (by decide)).set CX_MT_ORBIT_LEN_refused _
      (by decide)).with_answer _ (by decide)
  refine ⟨_, exec_registerWrite_orbitLen hp hv s, rfl, hframe.fields _ (by decide), ?_, hframe.parts .mt (by decide),
    hframe⟩
  rw [State.orbitLenWritten_of_running h]
  exact State.get_set_fit _ CX_MT_ORBIT_LEN_refused (v := 1) (by decide)

/-! ## The obligation -/

theorem exec_orbitStart_running {s : State} (hrun : s.mt.running = true) : exec .orbitStart s = .next s.orbitStep :=
  (effect_of_wf rfl orbitStart s).trans (congrArg _ (orbitStart_of_running hrun))

theorem exec_mtLoadApply (s : State) : exec .mtLoadApply s = .next (mtLoadApply s) := effect_of_wf rfl mtLoadApply s

/-- Settles O7: a write is stored or refused as acquisition stands, and each way in which an orbit starts opens it with
the orbit length that the register then holds. -/
theorem orbitLengthTakesEffectAtTheNextOrbit : Obligations.OrbitLengthTakesEffectAtTheNextOrbit := by
  unfold Obligations.OrbitLengthTakesEffectAtTheNextOrbit
  refine ⟨?stored, ?refused, ?orbitStart, ?loadApplied, ?edgePasses⟩
  case stored => exact fun s p v hp hv hstop => exec_write_orbitLen_stopped hp hv hstop
  case refused => exact fun s p v hp hv hacq => exec_write_orbitLen_running hp hv hacq
  case orbitStart =>
    intro s hrun hheld hstop
    obtain ⟨o, hopen, ho⟩ := State.orbitStep_opened hstop
    refine ⟨_, exec_orbitStart_running hrun, hopen.nb, hopen.bucket, ?_⟩
    rw [hopen.orbit, ho hheld, Nat.mod_mod]
  case loadApplied =>
    intro s hrun hheld hstop
    obtain ⟨o, hopen⟩ := mtLoadApply_opened hrun hheld hstop
    exact ⟨_, exec_mtLoadApply s, hopen.nb, hopen.bucket⟩
  case edgePasses =>
    intro s hidle hrun hlast hstop
    obtain ⟨o, hopen, -⟩ := State.orbitStep_opened hstop
    refine ⟨_, step_of_idle hidle, ?_⟩
    rw [State.tick_of_last hrun hlast]
    exact ⟨hopen.nb, hopen.bucket⟩

end Sys2Proof.Machine
end

section
/-! SUPPORT and PROOF. A hit that completes while its channel's derandomiser is full: the hit is dropped and counted, the
hits held stay (R126, R136). -/

namespace Sys2Proof.Machine

open Sys2Proof

/-! ## Frames put together -/

theorem Frame.trans {ps : List Part} {fs : List Fld} {s t u : State} (h : Frame ps fs s t) (h' : Frame ps fs t u) :
    Frame ps fs s u := by
  refine ⟨fun p hp => ?_, fun f hf => (h'.fields f hf).trans (h.fields f hf), h'.queue.trans h.queue⟩
  have hst := h.parts p hp
  have htu := h'.parts p hp
  cases p <;> exact htu.trans hst

theorem Frame.mono {ps qs : List Part} {fs gs : List Fld} {s t : State} (h : Frame ps fs s t) (hp : ps ⊆ qs)
    (hf : fs ⊆ gs) : Frame qs gs s t :=
  ⟨fun p hq => h.parts p fun hm => hq (hp hm), fun f hg => h.fields f fun hm => hg (List.map_subset _ hf hm), h.queue⟩

/-! ## The state of a channel -/

theorem State.chan_setChan_same (s : State) (ch : Nat) (c : Chan) : (s.setChan ch c).chan ch = c :=
  Sparse.get_put_same _ _ _ _

theorem Frame.chan {ps : List Part} {fs : List Fld} {s t : State} (h : Frame ps fs s t) (hp : Part.chans ∉ ps)
    (ch : Nat) : t.chan ch = s.chan ch := congrArg (Sparse.get Chan.new ch) (h.parts .chans hp)

theorem State.setChan_frame (s : State) (ch : Nat) (c : Chan) : Frame [.chans] [] s (s.setChan ch c) :=
  (Frame.refl _ _ s).with_chans _ (by decide)

theorem State.delivers_plate {s : State} {ch : Nat} (h : s.delivers ch = true) : s.get CX_PLATE_STATUS_state = 4 := by
  simp only [State.delivers, Bool.and_eq_true, beq_iff_eq] at h
  obtain ⟨⟨⟨hplate, -⟩, -⟩, -⟩ := h
  exact hplate

/-! ## The counters of a hit's own kind (R165, R173, R174) -/

/-- The counters of die `n` that tell what kind of hits it completed. -/
def kindCounters (n : Nat) : List Fld :=
  [FE_CNT_NARROW_count n, FE_CNT_TOTOVF_count n, FE_CNT_STARTHIGH_count n, FE_CNT_UNLOCK_count n]

/-- A hit of die `n` counts as narrow, overflowed, started high and stamped out of lock, as it is. -/
def State.countKinds (s : State) (n : Nat) (narrow overflowed high unlocked : Bool) : State :=
  (((s.iff narrow fun s => s.count (FE_CNT_NARROW_count n)).iff overflowed fun s =>
    s.count (FE_CNT_TOTOVF_count n)).iff high fun s => s.count (FE_CNT_STARTHIGH_count n)).iff unlocked fun s =>
    s.count (FE_CNT_UNLOCK_count n)

theorem State.countKinds_frame (s : State) (n : Nat) (narrow overflowed high unlocked : Bool) :
    Frame [] (kindCounters n) s (s.countKinds n narrow overflowed high unlocked) := by
  have hcount {f : Fld} (hf : f ∈ kindCounters n) (u : State) (hu : Frame [] (kindCounters n) s u) :
      Frame [] (kindCounters n) s (u.count f) := hu.count f 1 (List.mem_map_of_mem hf)
  exact ((((Frame.refl _ _ s).iff (hcount (by simp [kindCounters]))).iff (hcount (by simp [kindCounters]))).iff
    (hcount (by simp [kindCounters]))).iff (hcount (by simp [kindCounters]))

/-- A hit of a valid plate, outside a by-pass, counts by its kind and goes to its derandomiser. -/
theorem State.complete_toFifo {s : State} {ch : Nat} (hplate : s.get CX_PLATE_STATUS_state = 4)
    (hbyp : s.bypassed (fRegion (regionOf ch)) = false) (ld : Lead) (tot flags : Nat) (invalid : Bool) :
    ∃ narrow overflowed high unlocked orbit w last, s.complete ch ld tot flags invalid =
      (s.countKinds (ch / 512) narrow overflowed high unlocked).toFifo ch orbit w unlocked last := by
  unfold State.complete
  rw [if_neg (by simp [hplate]), if_neg (by simp [hbyp])]
  exact ⟨_, _, _, _, _, _, _, rfl⟩

/-! ## The hit dropped (R136) -/

/-- The registers that a loss in the derandomiser of channel `ch` may change. -/
def lostCounters (ch : Nat) : List Fld :=
  [FE_CH_STAT_derand_lost (ch / 512) (ch % 512), FE_CNT_DERAND_count (ch / 512), FE_STATUS_derand_ovf (ch / 512),
    MG_EVLOG_merged]

/-- A hit of channel `ch` is lost in its derandomiser. -/
def State.loseHit (s : State) (ch : Nat) : State :=
  ((s.count (FE_CH_STAT_derand_lost (ch / 512) (ch % 512))).count (FE_CNT_DERAND_count (ch / 512))).flag
    (FE_STATUS_derand_ovf (ch / 512)) (feSrc (ch / 512) 1)

theorem State.toFifo_of_full {s : State} {ch : Nat} (h : 8 ≤ (s.chan ch).fifo.length) (orbit w : Nat) (invalid : Bool)
    (last : Nat × Nat × Int) : s.toFifo ch orbit w invalid last = s.loseHit ch := if_pos h

theorem State.loseHit_frame (s : State) (ch : Nat) : Frame [.evReq] (lostCounters ch) s (s.loseHit ch) :=
  (((Frame.refl _ _ s).count _ _ (by simp [lostCounters])).count _ _ (by simp [lostCounters])).flag _ _ _ (by decide)
    (by simp [lostCounters]) (by simp [lostCounters])

/-- The loss as the registers show it (R21, R136). -/
structure LossCounted (ch : Nat) (s t : State) : Prop where
  lost : t.get (FE_CH_STAT_derand_lost (ch / 512) (ch % 512)) =
    min (s.get (FE_CH_STAT_derand_lost (ch / 512) (ch % 512)) + 1) 255
  count : t.get (FE_CNT_DERAND_count (ch / 512)) = min (s.get (FE_CNT_DERAND_count (ch / 512)) + 1) 0xFFFFFFFF
  ovf : t.get (FE_STATUS_derand_ovf (ch / 512)) = 1

/-- The registers that show a loss lie apart. -/
theorem lostCounters_apart (ch : Nat) : (lostCounters ch).Pairwise fun f g => f.key ≠ g.key := by
  simp only [lostCounters, List.pairwise_cons, List.forall_mem_cons, Fld.key, FE_CH_STAT_derand_lost,
    FE_CNT_DERAND_count, FE_STATUS_derand_ovf, MG_EVLOG_merged, List.not_mem_nil, false_implies, implies_true,
    List.Pairwise.nil, and_true]
  omega

/-- They also lie apart from the counters of the hit's kind. -/
theorem lostCounters_apart_kinds {ch : Nat} {f : Fld} (hf : f ∈ lostCounters ch) :
    f.key ∉ (kindCounters (ch / 512)).map Fld.key := by
  have hkey := List.mem_map_of_mem (f := Fld.key) hf
  simp only [lostCounters, kindCounters, List.map_cons, List.map_nil, List.mem_cons, List.not_mem_nil, or_false,
    Fld.key, FE_CH_STAT_derand_lost, FE_CNT_DERAND_count, FE_STATUS_derand_ovf, MG_EVLOG_merged, FE_CNT_NARROW_count,
    FE_CNT_TOTOVF_count, FE_CNT_STARTHIGH_count, FE_CNT_UNLOCK_count] at hkey ⊢
  omega

theorem State.loseHit_counted (s : State) (ch : Nat) : LossCounted ch s (s.loseHit ch) := by
  have hapart := lostCounters_apart ch
  simp only [lostCounters, List.pairwise_cons, List.forall_mem_cons] at hapart
  obtain ⟨⟨hlostCount, hlostOvf, hlostMerged, -⟩, ⟨hcountOvf, hcountMerged, -⟩, ⟨hovfMerged, -⟩, -⟩ := hapart
  refine ⟨?lost, ?count, State.get_flag_same _ rfl hovfMerged _ _⟩
  case lost =>
    exact (State.get_flag_ne _ hlostOvf hlostMerged _ _).trans <|
      (State.get_count_ne _ hlostCount 1).trans (s.get_count_same _ 1)
  case count =>
    refine (State.get_flag_ne _ hcountOvf hcountMerged _ _).trans ?_
    rw [State.get_count_same, State.get_count_ne _ hlostCount.symm]
    rfl

/-! ## A hit completed into a full derandomiser -/

/-- The registers that a completed and dropped hit may change, in the order of the statement. -/
def droppedCounters (ch : Nat) : List Fld :=
  [FE_CNT_NARROW_count (ch / 512), FE_CNT_TOTOVF_count (ch / 512), FE_CNT_STARTHIGH_count (ch / 512),
    FE_CH_STAT_derand_lost (ch / 512) (ch % 512), FE_CNT_DERAND_count (ch / 512), FE_STATUS_derand_ovf (ch / 512),
    FE_CNT_UNLOCK_count (ch / 512), MG_EVLOG_merged]

/-- The hit is dropped: the loss is counted, and of the channels nothing changes. -/
structure HitDropped (ch : Nat) (s t : State) : Prop where
  counted : LossCounted ch s t
  frame : Frame [.evReq] (droppedCounters ch) s t

theorem State.complete_of_full {s : State} {ch : Nat} (hplate : s.get CX_PLATE_STATUS_state = 4)
    (hbyp : s.bypassed (fRegion (regionOf ch)) = false) (hfull : (s.chan ch).fifo.length = 8) (ld : Lead)
    (tot flags : Nat) (invalid : Bool) : HitDropped ch s (s.complete ch ld tot flags invalid) := by
  obtain ⟨narrow, overflowed, high, unlocked, orbit, w, last, heq⟩ := s.complete_toFifo hplate hbyp ld tot flags invalid
  have hkinds := s.countKinds_frame (ch / 512) narrow overflowed high unlocked
  generalize s.countKinds (ch / 512) narrow overflowed high unlocked = u at heq hkinds
  have hsame {f : Fld} (hf : f ∈ lostCounters ch) : u.get f = s.get f := hkinds.fields f (lostCounters_apart_kinds hf)
  rw [heq, State.toFifo_of_full (by rw [hkinds.chan (by decide), hfull])]
  obtain ⟨hlost, hcount, hovf⟩ := u.loseHit_counted ch
  rw [hsame (by simp [lostCounters])] at hlost hcount
  exact ⟨⟨hlost, hcount, hovf⟩, (hkinds.mono (by simp) (by simp [kindCounters, droppedCounters])).trans
    ((u.loseHit_frame ch).mono (by simp) (by simp [lostCounters, droppedCounters]))⟩

/-- Seen from before channel `ch` took `c`: the channel goes on with `c`, and all else stands as the drop left it. -/
theorem HitDropped.of_setChan {s t : State} {ch : Nat} {c : Chan} (h : HitDropped ch (s.setChan ch c) t) :
    LossCounted ch s t ∧ t.chan ch = c ∧ Frame [.chans, .evReq] (droppedCounters ch) s t := by
  obtain ⟨⟨hlost, hcount, hovf⟩, hframe⟩ := h
  exact ⟨⟨hlost, hcount, hovf⟩, (hframe.chan (by decide) ch).trans (s.chan_setChan_same ch c),
    ((s.setChan_frame ch c).mono (by simp) (by simp)).trans (hframe.mono (by simp) (by simp))⟩

/-- A channel that delivers hits outside a by-pass, whose derandomiser stays full, drops the hit it completes. -/
theorem State.setChan_complete_of_full {s : State} {ch : Nat} (hdel : s.delivers ch = true)
    (hbyp : s.bypassed (fRegion (regionOf ch)) = false) {c : Chan} (hfull : c.fifo.length = 8) (ld : Lead)
    (tot flags : Nat) (invalid : Bool) : HitDropped ch (s.setChan ch c)
      ((s.setChan ch c).complete ch ld tot flags invalid) :=
  State.complete_of_full (s := s.setChan ch c) (State.delivers_plate hdel) hbyp
    ((congrArg (·.fifo.length) (s.chan_setChan_same ch c)).trans hfull) ld tot flags invalid

/-! ## The two ends of a hit (R169, R174) -/

/-- The channel after a trailing edge that ended an open leading edge (R133). -/
def Chan.ended (c : Chan) : Chan :=
  { c with high := false, recov := true, lead := none, tab := none, done := false, mute := false }

/-- The channel after a time over threshold that overflowed (R174). -/
def Chan.overflowed (c : Chan) : Chan := { c with lead := none, tab := none, done := true }

theorem trailingEdge_of_open {s : State} {ch : Nat} {ld : Lead} (hup : s.chUp ch = true) (hrun : s.mt.running = true)
    (hhigh : (s.chan ch).high = true) (hlead : (s.chan ch).lead = some ld) (st : Stamp)
    (overload narrow invalid : Bool) : ∃ tot flags, trailingEdge ch st overload narrow invalid s =
      (s.setChan ch (s.chan ch).ended).complete ch ld tot flags invalid := by
  have hrun' (c : Chan) : (s.setChan ch c).mt.running = true := hrun
  unfold trailingEdge
  rw [if_neg (by simp [hup, hhigh])]
  simp only [hlead, hrun', Option.filter_some, Option.isSome_some, Bool.or_true, if_true]
  exact ⟨_, _, rfl⟩

theorem totOverflow_of_open {s : State} {ch : Nat} {ld : Lead} (hlead : (s.chan ch).lead = some ld)
    (overload invalid : Bool) : totOverflow ch overload invalid s =
      (s.setChan ch (s.chan ch).overflowed).complete ch ld 0xFFF (b2n overload) invalid := by
  rw [totOverflow, State.overflow, hlead]
  rfl

theorem exec_trailingEdge {ch : Nat} {st : Stamp} (hch : ch < 1536) (hst : st.wf = true)
    (overload narrow invalid : Bool) (s : State) : exec (.discriminatorTrailingEdge ch st overload narrow invalid) s =
      .next (trailingEdge ch st overload narrow invalid s) := by
  have hwf : (Instr.discriminatorTrailingEdge ch st overload narrow invalid).wf = true := by simp [Instr.wf, hch, hst]
  exact effect_of_wf hwf _ s

/-- A well-formed command of the machine-synchronous domain takes its effect while machine time runs. -/
theorem effectMs_of_running {c : Instr} {s : State} (h : c.wf = true) (hrun : s.mt.running = true)
    (f : State → State) : effectMs c f s = .next (f s) :=
  congrArg Host.Outcome.next (if_pos (by simp [h, hrun]))

theorem exec_totOverflow {ch : Nat} {s : State} (hch : ch < 1536) (hrun : s.mt.running = true)
    (overload invalid : Bool) : exec (.totOverflow ch overload invalid) s =
      .next (totOverflow ch overload invalid s) :=
  effectMs_of_running (c := .totOverflow ch overload invalid) (decide_eq_true hch) hrun _

/-! ## The obligation -/

/-- Settles O8: both ends of a hit write the channel and complete the hit, which a full derandomiser drops. -/
theorem fullDerandomisersDropTheHit : Obligations.FullDerandomisersDropTheHit := by
  unfold Obligations.FullDerandomisersDropTheHit
  refine ⟨?trailing, ?overflow⟩
  case trailing =>
    intro s ch st overload narrow invalid ld hch hst hup hdel hbyp hrun hhigh hlead hfull
    obtain ⟨tot, flags, heq⟩ := trailingEdge_of_open hup hrun hhigh hlead st overload narrow invalid
    have hdrop := State.setChan_complete_of_full hdel hbyp (c := (s.chan ch).ended) hfull ld tot flags invalid
    obtain ⟨⟨hlost, hcount, hovf⟩, hchan, hframe⟩ := hdrop.of_setChan
    refine ⟨_, (exec_trailingEdge hch hst overload narrow invalid s).trans (congrArg _ heq), ?_⟩
    exact ⟨(congrArg Chan.fifo hchan :), hlost, hcount, hovf, hchan, hframe⟩
  case overflow =>
    intro s ch overload invalid ld hch hup hdel hbyp hrun hlead hfull
    have hdrop := State.setChan_complete_of_full hdel hbyp (c := (s.chan ch).overflowed) hfull ld 0xFFF (b2n overload)
      invalid
    obtain ⟨⟨hlost, hcount, hovf⟩, hchan, hframe⟩ := hdrop.of_setChan
    refine ⟨_, (exec_totOverflow hch hrun overload invalid).trans
      (congrArg _ (totOverflow_of_open hlead overload invalid)), ?_⟩
    exact ⟨(congrArg Chan.fifo hchan :), hlost, hcount, hovf, hchan, hframe⟩

end Sys2Proof.Machine
end

section
/-! SUPPORT and PROOF. What holds of every command: it answers a next state, leaves the queue and keeps the canonical
form; hence queues run in order (R12, R16, R504; assumptions 1 and 3). -/

namespace Sys2Proof.Machine

open Sys2Proof

/-- Every command leaves the queue and keeps the canonical form. -/
theorem exec_kept {c : Instr} {s t : State} (h : exec c s = .next t) : Kept s t := by
  cases c with
  | powerUp => exact effect_kept (powerUp_kept (.refl s)) h
  | svReset => exact effect_kept (svReset_kept (.refl s)) h
  | feedQualified => exact effect_kept (feedQualified_kept (.refl s)) h
  | feedOutOfRange => exact effect_kept (feedOutOfRange_kept (.refl s)) h
  | refLost => exact effect_kept (refLost_kept (.refl s)) h
  | refBack => exact effect_kept (refBack_kept (.refl s)) h
  | shutdownComplete => exact effect_kept (shutdownComplete_kept (.refl s)) h
  | disruptiveActivityStart => exact effect_kept (disruptiveActivityStart_kept (.refl s)) h
  | plateOpen => exact effect_kept (plateOpen_kept (.refl s)) h
  | plateClearDone => exact effect_kept (plateClearDone_kept (.refl s)) h
  | plateAbort => exact effect_kept (plateAbort_kept (.refl s)) h
  | plateFcrcWrite => exact effect_kept (plateFcrcWrite_kept (.refl s)) h
  | plateWindowWrite => exact effect_kept (plateWindowWrite_kept (.refl s)) h
  | plateCommit => exact effect_kept (plateCommit_kept (.refl s)) h
  | plateCommitDone => exact effect_kept (plateCommitDone_kept (.refl s)) h
  | reloadGo => exact effect_kept (reloadGo_kept (.refl s)) h
  | reloadCancel => exact effect_kept (reloadCancel_kept (.refl s)) h
  | reloadStart => exact effect_kept (reloadStart_kept (.refl s)) h
  | reloadRelease => exact effect_kept (reloadRelease_kept (.refl s)) h
  | orbitStart => exact effect_kept (orbitStart_kept (.refl s)) h
  | mtLoad => exact effect_kept (mtLoad_kept (.refl s)) h
  | mtLoadApply => exact effect_kept (mtLoadApply_kept (.refl s)) h
  | mtSnap => exact effect_kept (mtSnap_kept (.refl s)) h
  | sourceSelect => exact effect_kept (sourceSelect_kept (.refl s)) h
  | sourceLost => exact effect_kept (sourceLost_kept (.refl s)) h
  | sourceQualified => exact effect_kept (sourceQualified_kept (.refl s)) h
  | orbitMarkerMismatch => exact effect_kept (orbitMarkerMismatch_kept (.refl s)) h
  | slewEnd => exact effect_kept (slewEnd_kept (.refl s)) h
  | mtQualified => exact effect_kept (mtQualified_kept (.refl s)) h
  | fuGateEnd => exact effect_kept (fuGateEnd_kept (.refl s)) h
  | fuRatioRead => exact effect_kept (fuRatioRead_kept (.refl s)) h
  | ovnReady => exact effect_kept (ovnReady_kept (.refl s)) h
  | ovnHeaterFault => exact effect_kept (ovnHeaterFault_kept (.refl s)) h
  | ovnReadyLost => exact effect_kept (ovnReadyLost_kept (.refl s)) h
  | testChargeInjection => exact effect_kept (testChargeInjection_kept (.refl s)) h
  | housekeepingConversion => exact effect_kept (housekeepingConversion_kept (.refl s)) h
  | loopEngineTestSignal => exact effect_kept (loopEngineTestSignal_kept (.refl s)) h
  | burnishWindow => exact effect_kept (burnishWindow_kept (.refl s)) h
  | roleSwap => exact effect_kept (roleSwap_kept (.refl s)) h
  | partialPlateReload => exact effect_kept (partialPlateReload_kept (.refl s)) h
  | tileLifeRecordWrite => exact effect_kept (tileLifeRecordWrite_kept (.refl s)) h
  | codeDensityCalibrationRefresh => exact effect_kept (codeDensityCalibrationRefresh_kept (.refl s)) h
  | calendarReservedAction => exact effect_kept (calendarReservedAction_kept (.refl s)) h
  | discriminatorLeadingEdge => exact effect_kept (leadingEdge_kept (.refl s)) h
  | discriminatorTrailingEdge => exact effect_kept (trailingEdge_kept (.refl s)) h
  | totOverflow => exact effectMs_kept (totOverflow_kept (.refl s)) h
  | recoveryEnd => exact effect_kept (recoveryEnd_kept (.refl s)) h
  | channelConfigWrite => exact effect_kept (channelConfigWrite_kept (.refl s)) h
  | stuckDetected => exact effectMs_kept (stuckDetected_kept (.refl s)) h
  | rateLimitExceeded => exact effectMs_kept (rateLimitExceeded_kept (.refl s)) h
  | automaskClear => exact effect_kept (automaskClear_kept (.refl s)) h
  | coarsePllLock => exact effect_kept (coarsePllLock_kept (.refl s)) h
  | coarsePllLoss => exact effect_kept (coarsePllLoss_kept (.refl s)) h
  | dllLock => exact effect_kept (dllLock_kept (.refl s)) h
  | dllUnlock => exact effect_kept (dllUnlock_kept (.refl s)) h
  | relock => exact effect_kept (relock_kept (.refl s)) h
  | cdFullRun => exact effect_kept (cdFullRun_kept (.refl s)) h
  | cdAbort => exact effect_kept (cdAbort_kept (.refl s)) h
  | cdSliceEnd => exact effect_kept (cdSliceEnd_kept (.refl s)) h
  | cdTablesComputed => exact effect_kept (cdTablesComputed_kept (.refl s)) h
  | binTableWrite => exact effect_kept (binTableWrite_kept (.refl s)) h
  | hitMerge => exact effectMs_kept (hitMerge_kept (.refl s)) h
  | bucketSeal => exact effect_kept (bucketSeal_kept (.refl s)) h
  | storeRowWrite => exact effectMs_kept (storeRowWrite_kept (.refl s)) h
  | bucketWriteDone => exact effectMs_kept (bucketWriteDone_kept (.refl s)) h
  | ageOut => exact effect_kept (ageOut_kept (.refl s)) h
  | hqFlush => exact effect_kept (hqFlush_kept (.refl s)) h
  | flushDone => exact effectMs_kept (flushDone_kept (.refl s)) h
  | depthReset => exact effect_kept (depthReset_kept (.refl s)) h
  | bankRetire => exact effect_kept (bankRetire_kept (.refl s)) h
  | bankClearDone => exact effectMs_kept (bankClearDone_kept (.refl s)) h
  | rowSpared => exact effectMs_kept (rowSpared_kept (.refl s)) h
  | mapPeriodClose => exact effect_kept (mapPeriodClose_kept (.refl s)) h
  | chaserTimerExpiry => exact effectMs_kept (chaserTimerExpiry_kept (.refl s)) h
  | acceptCommand => exact effectMs_kept (acceptCommand_kept (.refl s)) h
  | tgLocalRead => exact effect_kept (tgLocalRead_kept (.refl s)) h
  | recordEngineTake => exact effectMs_kept (recordEngineTake_kept (.refl s)) h
  | recordBucketRead => exact effectMs_kept (recordBucketReadAll_kept (.refl s)) h
  | recordComplete => exact effectMs_kept (recordComplete_kept (.refl s)) h
  | histSwapWrite => exact effect_kept (histSwapWrite_kept (.refl s)) h
  | histSwapDone => exact effectMs_kept (histSwapDone_kept (.refl s)) h
  | freezeArm => exact effect_kept (freezeArm_kept (.refl s)) h
  | freezeDisarm => exact effect_kept (freezeDisarm_kept (.refl s)) h
  | freezeForce => exact effect_kept (freezeForce_kept (.refl s)) h
  | ringStop => exact effectMs_kept (ringStop_kept (.refl s)) h
  | dumpGo => exact effect_kept (dumpGo_kept (.refl s)) h
  | blockSend => exact effect_kept (blockSend_kept (.refl s)) h
  | creditReceived => exact effect_kept (creditReceived_kept (.refl s)) h
  | resendTimeout => exact effect_kept (resendTimeout_kept (.refl s)) h
  | blockReceived => exact effect_kept (blockReceived_kept (.refl s)) h
  | creditTimer => exact effect_kept (creditTimer_kept (.refl s)) h
  | mergeContribution => exact effect_kept (mergeContribution_kept (.refl s)) h
  | mergeTimeout => exact effect_kept (mergeTimeout_kept (.refl s)) h
  | frameTransmit => exact effect_kept (frameTransmit_kept (.refl s)) h
  | frameReceived => exact effect_kept (frameReceived_kept (.refl s)) h
  | frameRelease => exact effect_kept (frameRelease_kept (.refl s)) h
  | sourceFrameGap => exact effect_kept (sourceFrameGap_kept (.refl s)) h
  | symbolLock => exact effect_kept (symbolLock_kept (.refl s)) h
  | lockLost => exact effect_kept (lockLost_kept (.refl s)) h
  | slipWrite => exact effect_kept (slipWrite_kept (.refl s)) h
  | eyeMeasurement => exact effect_kept (eyeMeasurement_kept (.refl s)) h
  | lanePowerRequest => exact effect_kept (lanePowerRequest_kept (.refl s)) h
  | laneWakeDone => exact effect_kept (laneWakeDone_kept (.refl s)) h
  | laneLoopSelect => exact effect_kept (laneLoopSelect_kept (.refl s)) h
  | laneOut => exact effect_kept (laneOut_kept (.refl s)) h
  | laneFailed => exact effect_kept (laneFailed_kept (.refl s)) h
  | spareServeWrite => exact effect_kept (spareServeWrite_kept (.refl s)) h
  | laneRejoin => exact effect_kept (laneRejoin_kept (.refl s)) h
  | pllUnlock => exact effect_kept (pllUnlock_kept (.refl s)) h
  | readRequest => exact effect_kept (readRequest_kept (.refl s)) h
  | writeRequest => exact effect_kept (writeRequest_kept (.refl s)) h
  | readResponse => exact effect_kept (readResponse_kept (.refl s)) h
  | writeResponse => exact effect_kept (writeResponse_kept (.refl s)) h
  | probe => exact effect_kept (probe_kept (.refl s)) h
  | probeAnswer => exact effect_kept (probeAnswer_kept (.refl s)) h
  | assign => exact effect_kept (assign_kept (.refl s)) h
  | discProbe => exact effect_kept (discProbe_kept (.refl s)) h
  | discAssign => exact effect_kept (discAssign_kept (.refl s)) h
  | discTimeout => exact effect_kept (discTimeout_kept (.refl s)) h
  | fcMtLoad => exact effect_kept (fcMtLoad_kept (.refl s)) h
  | startAcquisition => exact effect_kept (startAcquisition_kept (.refl s)) h
  | stopAcquisition => exact effect_kept (stopAcquisition_kept (.refl s)) h
  | forceFreeze => exact effect_kept (forceFreeze_kept (.refl s)) h
  | histogramSwap => exact effect_kept (histogramSwap_kept (.refl s)) h
  | frameGap => exact effect_kept (frameGap_kept (.refl s)) h
  | acceptLost => exact effect_kept (acceptLost_kept (.refl s)) h
  | portLost => exact effect_kept (portLost_kept (.refl s)) h
  | portRegained => exact effect_kept (portRegained_kept (.refl s)) h
  | timeFollow => exact effect_kept (timeFollow_kept (.refl s)) h
  | pdelayTimer => exact effect_kept (pdelayTimer_kept (.refl s)) h
  | pdelayReq => exact effect_kept (pdelayReq_kept (.refl s)) h
  | pdelayResp => exact effect_kept (pdelayResp_kept (.refl s)) h
  | sync => exact effect_kept (sync_kept (.refl s)) h
  | announce => exact effect_kept (announce_kept (.refl s)) h
  | masterLost => exact effect_kept (masterLost_kept (.refl s)) h
  | criticalWordVote => exact effect_kept (criticalWordVote_kept (.refl s)) h
  | mergeBufferTimeout => exact effect_kept (mergeBufferTimeout_kept (.refl s)) h
  | patrolRead => exact effect_kept (patrolRead_kept (.refl s)) h
  | faultWindowExpiry => exact effect_kept (faultWindowExpiry_kept (.refl s)) h
  | burnishPassGo => exact effect_kept (burnishPassGo_kept (.refl s)) h
  | burnishPassAbort => exact effect_kept (burnishPassAbort_kept (.refl s)) h
  | burnishDone => exact effect_kept (burnishDone_kept (.refl s)) h
  | loopSample => exact effect_kept (loopSample_kept (.refl s)) h
  | leCommit => exact effect_kept (leCommit_kept (.refl s)) h
  | leUseHost => exact effect_kept (leUseHost_kept (.refl s)) h
  | injDone => exact effect_kept (injDone_kept (.refl s)) h
  | heartbeatLost => exact effect_kept (heartbeatLost_kept (.refl s)) h
  | arbiterLost => exact effect_kept (arbiterLost_kept (.refl s)) h
  | copyLink => exact effect_kept (copyLink_kept (.refl s)) h
  | midBusUndervoltage => exact effect_kept (midBusUndervoltage_kept (.refl s)) h
  | busFault => exact effect_kept (busFault_kept (.refl s)) h
  | unitOvertemperature => exact effect_kept (unitOvertemperature_kept (.refl s)) h
  | swapTimerExpiry => exact effect_kept (swapTimerExpiry_kept (.refl s)) h
  | swapNow => exact effect_kept (swapNow_kept (.refl s)) h
  | swapOverdue => exact effect_kept (swapOverdue_kept (.refl s)) h
  | swapPermit => exact effect_kept (swapPermit_kept (.refl s)) h
  | swapHandover => exact effect_kept (swapHandover_kept (.refl s)) h
  | swapDone => exact effect_kept (swapDone_kept (.refl s)) h
  | puOut => exact effect_kept (puOut_kept (.refl s)) h
  | puFaultClear => exact effect_kept (puFaultClear_kept (.refl s)) h
  | lastUnitRestart => exact effect_kept (lastUnitRestart_kept (.refl s)) h
  | strapSample => exact effect_kept (strapSample_kept (.refl s)) h
  | channelOpen => exact effect_kept (channelOpen_kept (.refl s)) h
  | channelClosed => exact effect_kept (channelClosed_kept (.refl s)) h
  | pulseMissing => exact effect_kept (pulseMissing_kept (.refl s)) h
  | chatter => exact effect_kept (chatter_kept (.refl s)) h
  | chatterEnd => exact effect_kept (chatterEnd_kept (.refl s)) h
  | discrepancy => exact effect_kept (discrepancy_kept (.refl s)) h
  | guardProof => exact effect_kept (guardProof_kept (.refl s)) h
  | biasEnable => exact effect_kept (biasEnable_kept (.refl s)) h
  | biasDisable => exact effect_kept (biasDisable_kept (.refl s)) h
  | biasFbChange => exact effect_kept (biasFbChange_kept (.refl s)) h
  | fbEnableTimeout => exact effect_kept (fbEnableTimeout_kept (.refl s)) h
  | fbDisableTimeout => exact effect_kept (fbDisableTimeout_kept (.refl s)) h
  | darkTestPulse => exact effect_kept (darkTestPulse_kept (.refl s)) h
  | darkPulseEnd => exact effect_kept (darkPulseEnd_kept (.refl s)) h
  | clkFault => exact effect_kept (clkFault_kept (.refl s)) h
  | tilePresence => exact effect_kept (tilePresence_kept (.refl s)) h
  | tileIdReadDone => exact effect_kept (tileIdReadDone_kept (.refl s)) h
  | i2cGo => exact effect_kept (i2cGo_kept (.refl s)) h
  | i2cDone => exact effect_kept (i2cDone_kept (.refl s)) h
  | lifeHoldExpiry => exact effect_kept (lifeHoldExpiry_kept (.refl s)) h
  | tileExpSnap => exact effect_kept (tileExpSnap_kept (.refl s)) h
  | regionLoopSample => exact effect_kept (regionLoopSample_kept (.refl s)) h
  | loopEnable => exact effect_kept (loopEnable_kept (.refl s)) h
  | bootClearDone => exact effect_kept (bootClearDone_kept (.refl s)) h
  | imageSwitch => exact effect_kept (imageSwitch_kept (.refl s)) h
  | imageCheckDone => exact effect_kept (imageCheckRead_kept (.refl s)) h
  | imageReady => exact effect_kept (imageReady_kept (.refl s)) h
  | imageTimeout => exact effect_kept (imageTimeout_kept (.refl s)) h
  | imageForce => exact effect_kept (imageForce_kept (.refl s)) h
  | lockstepDivergence => exact effect_kept (lockstepDivergence_kept (.refl s)) h
  | trapLoop => exact effect_kept (trapLoop_kept (.refl s)) h
  | watchdogExpiry => exact effect_kept (watchdogExpiry_kept (.refl s)) h
  | wdogKick => exact effect_kept (wdogKick_kept (.refl s)) h
  | mgHalt => exact effect_kept (mgHalt_kept (.refl s)) h
  | mgRestart => exact effect_kept (mgRestart_kept (.refl s)) h
  | autoRestart => exact effect_kept (autoRestart_kept (.refl s)) h
  | uptimeRead => exact effect_kept (uptimeRead_kept (.refl s)) h
  | mtimeCompare => exact effect_kept (mtimeCompare_kept (.refl s)) h
  | dmaGo => exact effect_kept (dmaGo_kept (.refl s)) h
  | dmaAbort => exact effect_kept (dmaAbort_kept (.refl s)) h
  | dmaWordTransfer => exact effect_kept (dmaWordTransfer_kept (.refl s)) h
  | eventService => exact effect_kept (eventService_kept (.refl s)) h
  | evClaimRead => exact effect_kept (evClaimRead_kept (.refl s)) h
  | evqRead => exact effect_kept (evqRead_kept (.refl s)) h
  | hkSequenceStart => exact effect_kept (hkSequenceStart_kept (.refl s)) h
  | hkConversionDone => exact effect_kept (hkConversionDone_kept (.refl s)) h
  | hkInject => exact effect_kept (hkInject_kept (.refl s)) h
  | hkCal => exact effect_kept (hkCal_kept (.refl s)) h
  | calDone => exact effect_kept (calDone_kept (.refl s)) h
  | hkRefEnable => exact effect_kept (hkRefEnable_kept (.refl s)) h
  | hkRefReady => exact effect_kept (hkRefReady_kept (.refl s)) h
  | hkRegEnable => exact effect_kept (hkRegEnable_kept (.refl s)) h
  | acqStart => exact effect_kept (acqStart_kept (.refl s)) h
  | acqStop => exact effect_kept (acqStop_kept (.refl s)) h
  | acquisitionStarts => exact effect_kept (acquisitionStarts_kept (.refl s)) h
  | acquisitionStops => exact effect_kept (acquisitionStops_kept (.refl s)) h
  | feServiceWrite => exact effect_kept (feServiceWrite_kept (.refl s)) h
  | feSvc => exact effect_kept (feSvc_kept (.refl s)) h
  | assayGo => exact effect_kept (assayGo_kept (.refl s)) h
  | assayAbort => exact effect_kept (assayAbort_kept (.refl s)) h
  | assayDone => exact effect_kept (assayDone_kept (.refl s)) h
  | testLogicReset => exact effect_kept (testLogicReset_kept (.refl s)) h
  | idcode => exact effect_kept (idcode_kept (.refl s)) h
  | extest => exact effect_kept (extest_kept (.refl s)) h
  | samplePreload => exact effect_kept (samplePreload_kept (.refl s)) h
  | bypass => exact effect_kept (bypass_kept (.refl s)) h
  | ctrlAccess => exact effect_kept (ctrlAccess_kept (.refl s)) h
  | hsEntry => exact effect_kept (hsEntry_kept (.refl s)) h
  | registerWrite => exact effect_kept (registerWrite_kept (.refl s)) h
  | readClear => exact effect_kept (readClear_kept (.refl s)) h
  | transactionTimeout => exact effect_kept (transactionTimeout_kept (.refl s)) h
  | loopCheckerPattern => exact effect_kept (loopCheckerPattern_kept (.refl s)) h
  | hostPassRead => exact effect_kept (hostPassRead_kept (.refl s)) h
  | burnishWindowEnd => exact effect_kept (burnishWindowEnd_kept (.refl s)) h
  | puTempWarning => exact effect_kept (puTempWarning_kept (.refl s)) h
  | stateCopyLinkUp => exact effect_kept (stateCopyLinkUp_kept (.refl s)) h
  | arbiterHeartbeatRegained => exact effect_kept (arbiterHeartbeatRegained_kept (.refl s)) h
  | interlockDarkPulse => exact effect_kept (interlockDarkPulse_kept (.refl s)) h
  | supervisorClockReturn => exact effect_kept (supervisorClockReturn_kept (.refl s)) h

/-- Every command answers a next state. -/
theorem exec_next (c : Instr) (s : State) : ∃ t, exec c s = .next t := by
  cases c <;> exact ⟨_, rfl⟩

/-- A command whose operands the spec does not admit changes nothing. -/
theorem exec_of_not_wf {c : Instr} (h : c.wf = false) (s : State) : exec c s = .next s := by
  cases c <;> exact congrArg Host.Outcome.next (if_neg (by simp [h]))

/-- Changing the queue leaves the canonical form, which does not look at it. -/
theorem State.canonical_with_pending (s : State) (q : List Instr) :
    State.canonical { s with pending := q } = s.canonical := rfl

theorem step_of_front {s : State} {c : Instr} {rest : List Instr} (h : s.pending = c :: rest) :
    step s = exec c { s with pending := rest } := by
  unfold step
  rw [h]

/-- Settles O1: the equation of the step on a queue with a front command. -/
theorem stepRunsFrontCommand : Obligations.StepRunsFrontCommand := by
  unfold Obligations.StepRunsFrontCommand
  exact fun c rest s h => step_of_front h

/-- A queue of commands is run by as many steps, by induction on the commands. -/
theorem stepN_of_queue (cs rest : List Instr) (s : State) (h : s.pending = cs ++ rest) :
    ∃ t, stepN cs.length s = some t ∧ t.pending = rest := by
  induction cs generalizing s with
  | nil => exact ⟨s, rfl, h⟩
  | cons c cs ih =>
    obtain ⟨t, ht⟩ := exec_next c { s with pending := cs ++ rest }
    have hq : t.pending = cs ++ rest := (exec_kept ht).pending
    obtain ⟨u, hu, hrest⟩ := ih t hq
    refine ⟨u, ?_, hrest⟩
    rw [List.length_cons, stepN, step_of_front (h.trans (List.cons_append ..)), ht]
    exact hu

/-- Settles O3: each command answers a next state that keeps the queue, and steps take a queue command by command. -/
theorem commandsCompleteAndQueuesRunInOrder : Obligations.CommandsCompleteAndQueuesRunInOrder := by
  unfold Obligations.CommandsCompleteAndQueuesRunInOrder
  refine ⟨fun c s => ?_, stepN_of_queue⟩
  obtain ⟨t, ht⟩ := exec_next c s
  refine ⟨t, ht, (exec_kept ht).pending, fun hwf => ?_⟩
  rw [exec_of_not_wf hwf] at ht
  cases ht
  rfl

/-- Settles O4: a step is a bucket edge or a command, and both keep the canonical form. -/
theorem everyStepKeepsCanonicalForm : Obligations.EveryStepKeepsCanonicalForm := by
  unfold Obligations.EveryStepKeepsCanonicalForm
  intro s t hs ht
  cases hq : s.pending with
  | nil =>
    rw [step_of_idle hq] at ht
    cases ht
    exact (State.tick_kept (Kept.refl s)).canonical hs
  | cons c rest =>
    rw [step_of_front hq] at ht
    exact (exec_kept ht).canonical ((State.canonical_with_pending s rest).trans hs)

/-- Settles O6: nothing is listed after reset, so every field and memory reads its default. -/
theorem resetIsCanonicalWithResetValues : Obligations.ResetIsCanonicalWithResetValues := by
  unfold Obligations.ResetIsCanonicalWithResetValues
  have hfield (f : Fld) : State.reset.get f = f.reset % 2 ^ f.width := rfl
  refine ⟨hfield, rfl, rfl, ?_, ?_, ?_, ?_, ?_, ?_, rfl, rfl, rfl, rfl, fun i => ⟨rfl, rfl, rfl⟩, rfl⟩
  all_goals rw [hfield]; rfl

end Sys2Proof.Machine
end

section
/-! SUPPORT and PROOF. The bucket edge with no command waiting (R8, R90; assumption 2). -/

namespace Sys2Proof.Machine

open Sys2Proof

/-! ## Which firings are due -/

/-- Keys put into a listing one after another are those it had and those put. -/
theorem mem_foldl_insert_unit {ks : List Nat} {m : List (Nat × Unit)} {e : Nat × Unit}
    (h : e ∈ ks.foldl (fun l k => Sparse.insert k () l) m) : e ∈ m ∨ e.1 ∈ ks := by
  induction ks generalizing m with
  | nil => exact .inl h
  | cons k ks ih =>
    rcases ih h with h | h
    · rcases Sparse.mem_insert h with rfl | h
      · exact .inr (List.mem_cons_self ..)
      · exact .inl h
    · exact .inr (List.mem_cons_of_mem _ h)

/-- A firing due up to bucket `hi` lies in a bucket up to `hi`, the current one or a later one. -/
theorem State.calDue_bucket {s : State} {hi k : Nat} (h : k ∈ s.calDue hi) :
    s.mt.bucket ≤ k / 256 ∧ k / 256 ≤ hi := by
  unfold State.calDue at h
  split at h
  next =>
    obtain ⟨e, he, rfl⟩ := List.mem_map.1 h
    rcases mem_foldl_insert_unit he with he | he
    · simp at he
    · obtain ⟨i, hi', hb⟩ := List.mem_flatMap.1 he
      obtain ⟨b, hb, hk⟩ := List.mem_map.1 hb
      obtain ⟨hb, hle⟩ := List.mem_filter.1 hb
      have hi256 : i < 256 := List.mem_range.1 (List.mem_filter.1 hi').1
      have hhits := (List.mem_filter.1 hb).2
      simp only [State.calHits, Bool.and_eq_true, decide_eq_true_eq] at hhits hle
      obtain ⟨⟨⟨⟨⟨⟨hlo, -⟩, -⟩, -⟩, -⟩, -⟩, -⟩ := hhits
      omega
  next => simp at h

/-! ## Machine time passing within the orbit -/

theorem State.moveTo_of_le {s : State} {b : Nat} (h : b ≤ s.mt.bucket) : s.moveTo b = s := if_pos h

theorem State.jump_zero (s : State) : s.jump 0 = s := if_pos rfl

theorem State.jump_bucket (s : State) (n : Nat) : (s.jump n).mt.bucket = s.mt.bucket + n := by
  unfold State.jump
  dsimp only
  split
  next h => rw [h, Nat.add_zero]
  next => split <;> rfl

/-- The firings of the current bucket keep machine time where it is. -/
theorem SameTime.calRun {s t : State} (h : SameTime s t) : SameTime s (t.calRun t.mt.bucket) := by
  have hfire : ∀ ks : List Nat, (∀ k ∈ ks, k / 256 ≤ t.mt.bucket) → ∀ u, SameTime s u →
      SameTime s (u.each ks State.calFire) := by
    intro ks hks
    induction ks with
    | nil => exact fun u hu => hu
    | cons k ks ih =>
      intro u hu
      obtain ⟨hk, hks⟩ := List.forall_mem_cons.1 hks
      have hstay : u.moveTo (k / 256) = u := State.moveTo_of_le (by rw [hu.bucket, ← h.bucket]; exact hk)
      refine ih hks _ ?_
      rw [State.calFire, hstay]
      exact (hu.markFired _).calAct _ _ _ _
  exact hfire _ (fun k hk => (State.calDue_bucket hk).2) t h

/-- At the edge into the next bucket of the orbit, with no stop due, machine time goes on by that bucket. -/
theorem State.pass_one_bucket {s : State} (hstop : s.stopDue = false) :
    (s.pass 1).mt.bucket = s.mt.bucket + 1 ∧ (s.pass 1).mt.orbit = s.mt.orbit := by
  have hpass : s.pass 1 = (s.calRun s.mt.bucket).moveTo (s.mt.bucket + 1) := by simp [State.pass, hstop]
  have hrun : SameTime s (s.calRun s.mt.bucket) := (SameTime.refl s).calRun
  generalize s.calRun s.mt.bucket = t at hpass hrun
  have hedge := (SameTime.refl ((t.takeArrived t.tg.arrived.length).jump 1)).edgeActs
  have harrived := (SameTime.refl t).takeArrived t.tg.arrived.length
  have hbucket : ((t.takeArrived t.tg.arrived.length).jump 1).edgeActs.mt.bucket = s.mt.bucket + 1 := by
    rw [hedge.bucket, State.jump_bucket, harrived.bucket, hrun.bucket]
  rw [hpass]
  refine ⟨?_, ((SameOrbit.refl t).moveTo _).orbit.trans hrun.orbit⟩
  rw [State.moveTo, if_neg (by rw [hrun.bucket]; omega)]
  dsimp only
  rw [State.jump_bucket, hbucket]
  omega

/-- Without a load that waits the numbering ends at N_B. -/
theorem State.numEnd_of_not_held {s : State} (h : s.mt.held = false) : s.numEnd = s.mt.nb := by
  rw [State.numEnd, State.markerAt_of_not_held h]

theorem State.tick_within {s : State} (hrun : s.mt.running = true) (hheld : s.mt.held = false)
    (h : s.mt.bucket + 1 < s.mt.nb) : s.tick = s.pass 1 := by
  rw [State.tick, if_pos hrun, State.bucketEdge, if_pos (by rwa [State.numEnd_of_not_held hheld])]

theorem State.tick_of_still {s : State} (h : s.mt.running = false) : s.tick = s := if_neg (by simp [h])

theorem State.tick_pending (s : State) : s.tick.pending = s.pending := (State.tick_kept (Kept.refl s)).pending

/-- Settles O2: the edge passes one bucket within the orbit, and at its end the start of the next orbit. -/
theorem idleStepPassesOneBucketEdge : Obligations.IdleStepPassesOneBucketEdge := by
  unfold Obligations.IdleStepPassesOneBucketEdge
  refine ⟨?still, ?within, ?last⟩
  case still => exact fun s hidle hstill => by rw [step_of_idle hidle, State.tick_of_still hstill]
  case within =>
    intro s hidle hrun hlt hstop hheld
    refine ⟨_, step_of_idle hidle, ?_, ?_, (State.tick_pending s).trans hidle⟩
    all_goals rw [State.tick_within hrun hheld hlt]
    · exact (State.pass_one_bucket hstop).1
    · exact (State.pass_one_bucket hstop).2
  case last =>
    intro s hidle hrun hlast hheld hstop
    obtain ⟨o, hopen, ho⟩ := State.orbitStep_opened hstop
    refine ⟨_, step_of_idle hidle, ?_, ?_, (State.tick_pending s).trans hidle⟩
    all_goals rw [State.tick_of_last hrun hlast]
    · exact hopen.bucket
    · rw [hopen.orbit, ho hheld, Nat.mod_mod]

end Sys2Proof.Machine
end

section
/-! SUPPORT. What a read of a field gives beside a change of other parts, and frames of states written out. -/

namespace Sys2Proof.Machine

open Sys2Proof

/-! ## A change beside the register fields -/

@[simp] theorem State.get_mk {s : State} {evReq : List (Nat × Nat)} {shut : List ShutFn} {dueSwap : Bool} {dueBurnish : List
    Nat} {dueCd : List (Nat × Nat)} {activity : Option Nat} {deferWin : Nat × Nat} {deferMask : Nat} {feByp : List
    (Nat × Span)} {was : List Was} {answer : Nat × Nat} {free : Nat} {plate : Plate} {mt : Mt} {chans : List (Nat ×
    Chan)} {dies : List (Nat × FeDie)} {latch : List (Nat × Nat)} {clock : Nat} {loadedAt : Nat} {store : Store} {tg :
    Tg} {rc : Rc} {str : Str} {lanes : List (Nat × Lane)} {fb : Fb} {prot : Prot} {pwr : Pwr} {guard : Guard} {tile :
    Tile} {mg : Mgmt} {svc : Svc} {pending : List Instr} (f : Fld) : (State.mk s.csr evReq shut dueSwap dueBurnish
    dueCd activity deferWin deferMask feByp was answer free plate mt chans dies latch clock loadedAt store tg rc str
    lanes fb prot pwr guard tile mg svc pending).get f = s.get f := rfl

@[simp] theorem State.on_mk {s : State} {evReq : List (Nat × Nat)} {shut : List ShutFn} {dueSwap : Bool} {dueBurnish : List
    Nat} {dueCd : List (Nat × Nat)} {activity : Option Nat} {deferWin : Nat × Nat} {deferMask : Nat} {feByp : List
    (Nat × Span)} {was : List Was} {answer : Nat × Nat} {free : Nat} {plate : Plate} {mt : Mt} {chans : List (Nat ×
    Chan)} {dies : List (Nat × FeDie)} {latch : List (Nat × Nat)} {clock : Nat} {loadedAt : Nat} {store : Store} {tg :
    Tg} {rc : Rc} {str : Str} {lanes : List (Nat × Lane)} {fb : Fb} {prot : Prot} {pwr : Pwr} {guard : Guard} {tile :
    Tile} {mg : Mgmt} {svc : Svc} {pending : List Instr} (f : Fld) : (State.mk s.csr evReq shut dueSwap dueBurnish
    dueCd activity deferWin deferMask feByp was answer free plate mt chans dies latch clock loadedAt store tg rc str
    lanes fb prot pwr guard tile mg svc pending).on f = s.on f := rfl

/-! ## One-bit fields -/

theorem State.on_eq_of_get {s : State} {f : Fld} {v : Nat} (h : s.get f = v) : s.on f = (v != 0) := by
  rw [State.on, h]

theorem State.on_set_ne (s : State) {f g : Fld} (h : g.key ≠ f.key) (v : Nat) : (s.set f v).on g = s.on g := by
  rw [State.on, State.get_set_ne s h, State.on]

/-! ## Event requests -/

theorem sparse_has_insert {α : Type} (j k : Nat) (v : α) (m : List (Nat × α)) :
    Sparse.has j (Sparse.insert k v m) = (j == k || Sparse.has j m) := by
  induction m with
  | nil => simp [Sparse.insert, Sparse.has]
  | cons e m ih =>
    obtain ⟨i, w⟩ := e
    simp only [Sparse.insert]
    split
    · simp [Sparse.has]
    · split
      next h => subst h; simp [Sparse.has]
      next => simp only [Sparse.has, ih]; exact Bool.or_left_comm ..

/-- A source raised has its request latched. -/
@[simp] theorem State.has_raise (s : State) (src arg : Nat) : Sparse.has src (s.raise src arg).evReq = true := by
  unfold State.raise
  split
  next h => exact h
  next => simp [sparse_has_insert]

/-- The requests latched stay latched. -/
theorem State.has_raise_of_has {s : State} {k : Nat} (h : Sparse.has k s.evReq = true) (src arg : Nat) :
    Sparse.has k (s.raise src arg).evReq = true := by
  unfold State.raise
  split
  next => exact h
  next => simp [sparse_has_insert, h]

/-- A status bit that was 0 is set, and its source raised. -/
theorem State.flag_of_off {s : State} {f : Fld} (h : s.on f = false) (src arg : Nat) :
    s.flag f src arg = (s.set f 1).raise src arg := by simp [State.flag, h]

theorem State.flag_of_on {s : State} {f : Fld} (h : s.on f = true) (src arg : Nat) : s.flag f src arg = s := by
  simp [State.flag, h]

/-! ## Frames -/

/-- A change beside the register fields and the queue, of parts that the frame names. -/
theorem Frame.beside {ps : List Part} {fs : List Fld} {s t u : State} (h : Frame ps fs s t)
    (hcsr : u.csr = t.csr := by rfl) (hq : u.pending = t.pending := by rfl)
    (hp : ∀ p : Part, p ∈ ps ∨ p.same t u := by
      intro p; cases p <;> first | exact .inl (by decide) | exact .inr rfl) : Frame ps fs s u := by
  refine ⟨fun p hn => ?_, fun f hf => ?_, hq.trans h.queue⟩
  · have hst := h.parts p hn
    have htu := (hp p).resolve_left hn
    cases p <;> exact htu.trans hst
  · rw [← h.fields f hf, State.get, State.get, hcsr]

/-- The frame of a state written out: its fields are given, its parts and its queue are seen. -/
theorem Frame.of_fields {ps : List Part} {fs : List Fld} {s t : State}
    (hf : ∀ f : Fld, (∀ g ∈ fs, f.key ≠ g.key) → t.get f = s.get f)
    (hp : ∀ p : Part, p ∈ ps ∨ p.same s t := by
      intro p; cases p <;> first | exact .inl (by decide) | exact .inr rfl | exact .inr (by simp [Part.same]))
    (hq : t.pending = s.pending := by first | rfl | simp) : Frame ps fs s t := by
  refine ⟨fun p hn => (hp p).resolve_left hn, fun f hn => hf f fun g hg he => hn ?_, hq⟩
  exact he ▸ List.mem_map_of_mem hg

/-- A field outside those that a frame names keeps its value. -/
theorem Frame.get {ps : List Part} {fs : List Fld} {s t : State} (h : Frame ps fs s t) {f : Fld}
    (hf : ∀ g ∈ fs, f.key ≠ g.key) : t.get f = s.get f := by
  refine h.fields f fun hm => ?_
  obtain ⟨g, hg, he⟩ := List.mem_map.1 hm
  exact hf g hg he.symm

/-- The frame of an operation run after others that leave no more. -/
theorem Frame.next {ps qs : List Part} {fs gs : List Fld} {s t u : State} (h : Frame ps fs s t) (h' : Frame qs gs t u)
    (hp : qs ⊆ ps) (hf : gs ⊆ fs) : Frame ps fs s u := h.trans (h'.mono hp hf)

end Sys2Proof.Machine
end

section
/-! SUPPORT and PROOF. A full load of the plate: opened, cleared, written frame by frame, abandoned (R63 to R70). -/

namespace Sys2Proof.Machine

open Sys2Proof

/-! ## Repair entries freed (R69, R412) -/

/-- The fields of a repair entry, with the number of entries in use. -/
def repairFields : List Fld :=
  [CX_REPAIR_STATUS_used] ++ ((List.range 64).map CX_REPAIR_valid ++ (List.range 64).map CX_REPAIR_memory ++
    (List.range 64).map CX_REPAIR_index)

theorem mem_repairFields {g : Fld} : g ∈ repairFields ↔ g = CX_REPAIR_STATUS_used ∨
    ∃ e < 64, g = CX_REPAIR_valid e ∨ g = CX_REPAIR_memory e ∨ g = CX_REPAIR_index e := by
  simp only [repairFields, List.mem_append, List.mem_map, List.mem_range, List.mem_singleton]
  refine or_congr_right ⟨?_, ?_⟩
  · rintro ((⟨e, he, rfl⟩ | ⟨e, he, rfl⟩) | ⟨e, he, rfl⟩) <;> exact ⟨e, he, by simp⟩
  · rintro ⟨e, he, rfl | rfl | rfl⟩
    · exact .inl (.inl ⟨e, he, rfl⟩)
    · exact .inl (.inr ⟨e, he, rfl⟩)
    · exact .inr ⟨e, he, rfl⟩

/-- The registers of the repair file lie above those of the plate. -/
theorem repairFields_key {g : Fld} (hg : g ∈ repairFields) : CX_REPAIR_STATUS_used.key ≤ g.key := by
  rcases mem_repairFields.1 hg with rfl | ⟨e, -, rfl | rfl | rfl⟩
  · exact Nat.le_refl _
  all_goals simp only [Fld.key, CX_REPAIR_STATUS_used, CX_REPAIR_valid, CX_REPAIR_memory, CX_REPAIR_index]; omega

theorem State.repairFree_frame {ps : List Part} {fs : List Fld} {s t : State} (h : Frame ps fs s t) {e : Nat}
    (he : e < 64) (hp : Part.prot ∈ ps) (hf : repairFields ⊆ fs) : Frame ps fs s (t.repairFree e) := by
  have hmem {f : Fld} (hfs : f ∈ repairFields) : f.key ∈ fs.map Fld.key := List.mem_map_of_mem (hf hfs)
  refine Frame.with_prot (Frame.set (Frame.set (Frame.set (Frame.set h _ _ ?_) _ _ ?_) _ _ ?_) _ _ ?_) _ hp
  · exact hmem (mem_repairFields.2 (.inr ⟨e, he, .inl rfl⟩))
  · exact hmem (mem_repairFields.2 (.inr ⟨e, he, .inr (.inl rfl)⟩))
  · exact hmem (mem_repairFields.2 (.inr ⟨e, he, .inr (.inr rfl)⟩))
  · exact hmem (mem_repairFields.2 (.inl rfl))

/-- An entry still in use after entry `e` was freed is another one, and names the word it named. -/
theorem State.repairFree_valid {s : State} {e k : Nat} (h : (s.repairFree e).on (CX_REPAIR_valid k) = true) :
    k ≠ e ∧ s.on (CX_REPAIR_valid k) = true ∧
      (s.repairFree e).get (CX_REPAIR_memory k) = s.get (CX_REPAIR_memory k) ∧
      (s.repairFree e).get (CX_REPAIR_index k) = s.get (CX_REPAIR_index k) := by
  have hval : (CX_REPAIR_valid k).key ≠ (CX_REPAIR_memory e).key ∧ (CX_REPAIR_valid k).key ≠ (CX_REPAIR_index e).key ∧
      (CX_REPAIR_valid k).key ≠ CX_REPAIR_STATUS_used.key := by
    simp only [Fld.key, CX_REPAIR_valid, CX_REPAIR_memory, CX_REPAIR_index, CX_REPAIR_STATUS_used]
    omega
  obtain ⟨hmem, hidx, hused⟩ := hval
  have hk : k ≠ e := by
    rintro rfl
    simp [State.repairFree, State.on, State.get_set_ne, hmem, hidx, hused, State.get_set_same] at h
  have hne : (CX_REPAIR_valid k).key ≠ (CX_REPAIR_valid e).key ∧
      (∀ g ∈ [CX_REPAIR_memory k, CX_REPAIR_index k], g.key ≠ (CX_REPAIR_valid e).key ∧
        g.key ≠ (CX_REPAIR_memory e).key ∧ g.key ≠ (CX_REPAIR_index e).key ∧ g.key ≠ CX_REPAIR_STATUS_used.key) := by
    simp only [List.forall_mem_cons, List.not_mem_nil, false_implies, implies_true, and_true, Fld.key, CX_REPAIR_valid,
      CX_REPAIR_memory, CX_REPAIR_index, CX_REPAIR_STATUS_used]
    omega
  simp only [List.forall_mem_cons, List.not_mem_nil, false_implies, implies_true, and_true] at hne
  obtain ⟨hv, ⟨hm1, hm2, hm3, hm4⟩, hi1, hi2, hi3, hi4⟩ := hne
  refine ⟨hk, ?_, ?_, ?_⟩
  · simpa [State.repairFree, State.on, State.get_set_ne, hmem, hidx, hused, hv] using h
  · simp [State.repairFree, State.get_set_ne, hm1, hm2, hm3, hm4]
  · simp [State.repairFree, State.get_set_ne, hi1, hi2, hi3, hi4]

theorem State.mem_repairs {s : State} {r : Nat × Nat × Nat} : r ∈ s.repairs ↔ r.1 < 64 ∧
    s.on (CX_REPAIR_valid r.1) = true ∧ r.2.1 = s.get (CX_REPAIR_memory r.1) ∧ r.2.2 = s.get (CX_REPAIR_index r.1) := by
  obtain ⟨e, m, i⟩ := r
  simp only [State.repairs, List.mem_map, List.mem_filter, List.mem_range, Prod.mk.injEq]
  constructor
  · rintro ⟨k, ⟨hk, hv⟩, rfl, rfl, rfl⟩
    exact ⟨hk, hv, rfl, rfl⟩
  · rintro ⟨he, hv, rfl, rfl⟩
    exact ⟨e, ⟨he, hv⟩, rfl, rfl, rfl⟩

/-- The entries left after some were freed: in use before, and not among those freed. -/
theorem State.repairs_freed {es : List Nat} {s : State} {r : Nat × Nat × Nat}
    (h : r ∈ (s.each es State.repairFree).repairs) : r ∈ s.repairs ∧ r.1 ∉ es := by
  induction es generalizing s with
  | nil => exact ⟨h, by simp⟩
  | cons e es ih =>
    obtain ⟨hr, hes⟩ := ih h
    rw [State.mem_repairs] at hr
    obtain ⟨hlt, hv, hm, hi⟩ := hr
    obtain ⟨hne, hv', hm', hi'⟩ := State.repairFree_valid hv
    exact ⟨State.mem_repairs.2 ⟨hlt, hv', hm.trans hm', hi.trans hi'⟩, by simp [hne, hes]⟩

theorem State.repairFreeAll_eq (s : State) (m : Nat) (p : Nat → Bool) : s.repairFreeAll m p =
    s.each ((s.repairs.filter fun r => r.2.1 == m && p r.2.2).map (·.1)) State.repairFree := by
  simp only [State.repairFreeAll, State.each, List.foldl_map]

theorem State.repairFreeAll_repairs {s : State} {m : Nat} {p : Nat → Bool} {r : Nat × Nat × Nat}
    (h : r ∈ (s.repairFreeAll m p).repairs) : r ∈ s.repairs ∧ ¬ (r.2.1 = m ∧ p r.2.2 = true) := by
  rw [State.repairFreeAll_eq] at h
  obtain ⟨hr, hnot⟩ := State.repairs_freed h
  refine ⟨hr, fun ⟨hm, hi⟩ => hnot (List.mem_map.2 ⟨r, List.mem_filter.2 ⟨hr, ?_⟩, rfl⟩)⟩
  simp [hm, hi]

theorem State.repairFreeAll_frame {ps : List Part} {fs : List Fld} {s t : State} (h : Frame ps fs s t) (m : Nat)
    (p : Nat → Bool) (hp : Part.prot ∈ ps) (hf : repairFields ⊆ fs) : Frame ps fs s (t.repairFreeAll m p) :=
  h.each fun _ _ hr hu => State.repairFree_frame hu (State.mem_repairs.1 (List.mem_filter.1 hr).1).1 hp hf

/-! ## Opening and clearing (R68, R69) -/

/-- The plate as a load opens: without memory, current frame or bytes waiting. -/
def State.plateOpened (s : State) : State :=
  let s := (s.histOpen allUnits).set CX_PLATE_STATUS_state 1
  let s := { s with
    plate := { s.plate with mem := [], cur := none }
    prot := { s.prot with bufPlate := none } }
  s.clearMarks memPlate fun _ => true

theorem plateOpen_of_free {s : State} (hclear : s.get CX_PLATE_STATUS_state ≠ 1)
    (hcheck : s.get CX_PLATE_STATUS_state ≠ 3) (hacq : s.acq = false)
    (hreload : s.get CX_PLATE_RELOAD_state = 0 ∨ 4 ≤ s.get CX_PLATE_RELOAD_state) :
    plateOpen s = s.plateOpened.repairFreeAll memPlate fun _ => true := by
  have hidle : ¬ (1 ≤ s.get CX_PLATE_RELOAD_state ∧ s.get CX_PLATE_RELOAD_state ≤ 3) := by omega
  simp [plateOpen, State.plateOpened, hclear, hcheck, hacq, hidle]

theorem State.histOpen_shadow (s : State) (u : Nat) : (s.histOpen u).plate.shadow = s.plate.shadow := by
  unfold State.histOpen State.histFrom
  split <;> rfl

theorem State.histOpen_frame {ps : List Part} {fs : List Fld} {s t : State} (h : Frame ps fs s t) (u : Nat)
    (hp : Part.plate ∈ ps) : Frame ps fs s (t.histOpen u) := Frame.ite h (h.with_plate _ hp)

/-- The registers that opening a load may change. -/
def plateOpenFields : List Fld := [CX_PLATE_STATUS_state] ++ repairFields

theorem State.plateOpened_frame (s : State) : Frame [.plate, .prot] plateOpenFields s s.plateOpened := by
  have hhist := State.histOpen_frame (Frame.refl [.plate, .prot] plateOpenFields s) allUnits (by decide)
  exact Frame.with_prot (Frame.beside (hhist.set CX_PLATE_STATUS_state 1 (by simp [plateOpenFields]))) _ (by decide)

/-- A load opened: state 0x1, the memory cleared, every unit by-passed, no repair entry left on a plate word. -/
theorem plateOpen_opened {s : State} (u : Nat) (hclear : s.get CX_PLATE_STATUS_state ≠ 1)
    (hcheck : s.get CX_PLATE_STATUS_state ≠ 3) (hacq : s.acq = false)
    (hreload : s.get CX_PLATE_RELOAD_state = 0 ∨ 4 ≤ s.get CX_PLATE_RELOAD_state) :
    (plateOpen s).get CX_PLATE_STATUS_state = 1 ∧ (plateOpen s).plate.mem = [] ∧
      (plateOpen s).plate.shadow = s.plate.shadow ∧ (plateOpen s).bypassed u = true ∧
      ((plateOpen s).repairs.all fun r => r.2.1 != memPlate) = true ∧
      Frame [.plate, .prot] plateOpenFields s (plateOpen s) := by
  rw [plateOpen_of_free hclear hcheck hacq hreload]
  have hopen : s.plateOpened.get CX_PLATE_STATUS_state = 1 := by
    simp [State.plateOpened, State.clearMarks, State.get_set_same, CX_PLATE_STATUS_state]
  have hfreed : Frame [.prot] repairFields s.plateOpened (s.plateOpened.repairFreeAll memPlate fun _ => true) :=
    State.repairFreeAll_frame (Frame.refl _ _ _) _ _ (by simp) (List.Subset.refl _)
  have hstate : (s.plateOpened.repairFreeAll memPlate fun _ => true).get CX_PLATE_STATUS_state = 1 := by
    rw [hfreed.get fun g hg => Nat.ne_of_lt (Nat.lt_of_lt_of_le (by decide) (repairFields_key hg)), hopen]
  have hplate : (s.plateOpened.repairFreeAll memPlate fun _ => true).plate = s.plateOpened.plate :=
    hfreed.parts .plate (by decide)
  refine ⟨hstate, congrArg Plate.mem hplate, ?_, ?_, ?_, ?_⟩
  · exact (congrArg Plate.shadow hplate).trans (s.histOpen_shadow allUnits)
  · simp [State.bypassed, hstate]
  · simp only [List.all_eq_true, bne_iff_ne]
    exact fun r hr hm => (State.repairFreeAll_repairs hr).2 ⟨hm, rfl⟩
  · exact s.plateOpened_frame.next hfreed (by simp) (by simp [plateOpenFields])

theorem plateClearDone_of_clearing {s : State} (h : s.get CX_PLATE_STATUS_state = 1) :
    ∃ t, plateClearDone s = t ∧ t.get CX_PLATE_STATUS_state = 2 ∧ t.get CX_PLATE_STATUS_bad_frames = 0 ∧
      t.get CX_PLATE_STATUS_err = 0 ∧ t.get CX_PLATE_ERR_FRAME_check = 0 ∧ t.get CX_PLATE_ERR_FRAME_frame = 0 ∧
      t.plate.badFrames = [] ∧ t.plate.mem = s.plate.mem ∧
      Frame [.plate, .prot] [CX_PLATE_STATUS_state, CX_PLATE_STATUS_bad_frames, CX_PLATE_STATUS_err,
        CX_PLATE_ERR_FRAME_check, CX_PLATE_ERR_FRAME_frame] s t := by
  rw [plateClearDone, if_pos h]
  refine ⟨_, rfl, ?_, ?_, ?_, ?_, ?_, rfl, rfl, Frame.of_fields fun f hf => ?_⟩
  case refine_6 => simp at hf; simp [State.setBadFrames, State.get_set_ne, hf]
  all_goals simp (disch := decide) [State.setBadFrames, State.get_set_ne, State.get_set_fit]

theorem plateClearDone_of_other {s : State} (h : s.get CX_PLATE_STATUS_state ≠ 1) : plateClearDone s = s := if_neg h

theorem plateAbort_of_open {s : State} (h : s.get CX_PLATE_STATUS_state = 2 ∨ s.get CX_PLATE_STATUS_state = 5) :
    ∃ t, plateAbort s = t ∧ t.get CX_PLATE_STATUS_state = 0 ∧ t.plate.mem = [] ∧ t.plate.shadow = s.plate.shadow ∧
      Frame [.plate, .prot] [CX_PLATE_STATUS_state] s t := by
  rw [plateAbort, if_pos h]
  refine ⟨_, rfl, ?_, rfl, rfl, Frame.of_fields fun f hf => ?_⟩
  · simp [State.clearMarks, State.get_set_fit, CX_PLATE_STATUS_state]
  · simp at hf; simp [State.clearMarks, State.get_set_ne, hf]

theorem plateAbort_of_other {s : State} (hopen : s.get CX_PLATE_STATUS_state ≠ 2)
    (hfailed : s.get CX_PLATE_STATUS_state ≠ 5) : plateAbort s = s := if_neg (not_or.2 ⟨hopen, hfailed⟩)

/-! ## A frame counted bad (R64, R66, R70) -/

/-- The registers that counting a frame bad may change. -/
def badFrameFields : List Fld :=
  [CX_PLATE_STATUS_bad_frames, CX_PLATE_STATUS_err, CX_PLATE_ERR_FRAME_check, CX_PLATE_ERR_FRAME_frame]

theorem State.setBadFrames_frame (s : State) (l : List (Nat × Bool)) :
    Frame [.plate] badFrameFields s (s.setBadFrames l) :=
  (Frame.with_plate (Frame.refl _ _ s) _ (by decide)).set _ _ (by decide)

/-- Frame `f` counted bad: it is listed, the error is shown, and of the plate nothing else changes but the hold on
CX_PLATE_ERR_FRAME. -/
structure FrameCounted (f err : Nat) (s t : State) : Prop where
  listed : Sparse.get false f t.plate.badFrames = true
  err : t.get CX_PLATE_STATUS_err = err
  mem : t.plate.mem = s.plate.mem
  cur : t.plate.cur = s.plate.cur
  frame : Frame [.plate] badFrameFields s t

theorem State.badFrame_counted (s : State) (f : Nat) {err : Nat} (h : err < 16) :
    FrameCounted f err s (s.badFrame f err) := by
  have hlist := s.setBadFrames_frame (Sparse.put false f true s.plate.badFrames)
  have hput : Sparse.get false f (Sparse.put false f true s.plate.badFrames) = true := Sparse.get_put_same _ _ _ _
  unfold State.badFrame State.errFrame
  split
  · exact ⟨hput, State.get_set_fit _ _ h, rfl, rfl, hlist.set _ _ (by decide)⟩
  · refine ⟨hput, ?_, rfl, rfl, ?_⟩
    · simp (disch := decide) [State.get_set_ne, State.get_set_fit _ CX_PLATE_STATUS_err h]
    · exact Frame.with_plate (((hlist.set _ _ (by decide)).set _ _ (by decide)).set _ _ (by decide)) _ (by decide)

/-! ## CX_PLATE_FCRC and the window (R65, R70) -/

theorem State.loadOpen_iff {s : State} :
    s.loadOpen = true ↔ s.get CX_PLATE_STATUS_state = 2 ∨ s.get CX_PLATE_STATUS_state = 5 := by
  simp [State.loadOpen]

/-- The frame that a write of CX_PLATE_FCRC leaves unfinished is counted. -/
def State.frameLeft (s : State) : State :=
  match s.plate.cur with
  | some c => if s.loadOpen && c.halves < 32 then s.badFrame c.frame 3 else s
  | none => s

theorem State.frameLeft_frame (s : State) : Frame [.plate] badFrameFields s s.frameLeft := by
  unfold State.frameLeft
  split
  · exact Frame.ite (s.badFrame_counted _ (by decide)).frame (Frame.refl _ _ s)
  · exact Frame.refl _ _ s

theorem State.frameLeft_mem (s : State) : s.frameLeft.plate.mem = s.plate.mem := by
  unfold State.frameLeft
  split
  · split
    · exact (s.badFrame_counted _ (by decide)).mem
    · rfl
  · rfl

theorem plateFcrcWrite_of_open {s : State} {frame crc : Nat} (hframe : frame < 8192) (hcrc : crc < 65536)
    (h : s.get CX_PLATE_STATUS_state = 2 ∨ s.get CX_PLATE_STATUS_state = 5) :
    ∃ t, plateFcrcWrite frame crc s = t ∧ t.get CX_PLATE_FCRC_frame = frame ∧ t.get CX_PLATE_FCRC_crc = crc ∧
      t.plate.cur = some ⟨frame, 0, 0⟩ ∧ t.plate.mem = s.plate.mem ∧
      (s.plate.cur = none → t.get CX_PLATE_STATUS_err = s.get CX_PLATE_STATUS_err) ∧
      (∀ c ∈ s.plate.cur, c.halves < 32 → t.get CX_PLATE_STATUS_err = 3) ∧
      Frame [.plate] ([CX_PLATE_FCRC_frame, CX_PLATE_FCRC_crc] ++ badFrameFields) s t := by
  have hleft := s.frameLeft_frame
  have hopen : ((s.frameLeft.set CX_PLATE_FCRC_frame frame).set CX_PLATE_FCRC_crc crc).loadOpen = true := by
    rw [State.loadOpen_iff]
    simpa (disch := decide) [State.get_set_ne, hleft.get] using h
  change ∃ t, (if ((s.frameLeft.set CX_PLATE_FCRC_frame frame).set CX_PLATE_FCRC_crc crc).loadOpen then _ else _) = t ∧ _
  rw [if_pos hopen]
  refine ⟨_, rfl, ?_, ?_, rfl, s.frameLeft_mem, fun hcur => ?_, fun c hcur hhalves => ?_, ?_⟩
  · simp (disch := decide) [State.get_set_ne, State.get_set_fit _ CX_PLATE_FCRC_frame hframe]
  · simp [State.get_set_fit _ CX_PLATE_FCRC_crc hcrc]
  · simp (disch := decide) [State.get_set_ne, hcur]
  · simp (disch := decide) [State.get_set_ne, Option.mem_def.1 hcur, State.loadOpen_iff.2 h, hhalves,
      (s.badFrame_counted c.frame (err := 3) (by decide)).err]
  · have hall := hleft.mono (qs := [.plate]) (gs := [CX_PLATE_FCRC_frame, CX_PLATE_FCRC_crc] ++ badFrameFields)
      (by simp) (by simp)
    exact Frame.with_plate ((hall.set _ _ (by decide)).set _ _ (by decide)) _ (by decide)

/-- The command on half `h` of frame `f`. -/
theorem plateWindow_half {f h : Nat} (hh : h < 32) :
    (f * 128 + h * 4) / 128 = f ∧ (f * 128 + h * 4) / 4 % 32 = h := by omega

theorem exec_plateWindowWrite {f h data be : Nat} (hf : f < 6144) (hh : h < 32) (hdata : data < 2 ^ 32) (hpos : 0 < be)
    (hbe : be < 16) (s : State) : exec (.plateWindowWrite (f * 128 + h * 4) data be) s =
      .next (plateWindowWrite (f * 128 + h * 4) data be s) := by
  refine effect_of_wf ?_ _ s
  simp only [Instr.wf, Bool.and_eq_true, decide_eq_true_eq, beq_iff_eq, bne_iff_ne]
  omega

/-- The half due is written: what the merge buffer takes, and where the frame then stands. -/
theorem plateWindowWrite_of_due {s : State} {f h : Nat} (hh : h < 32)
    (hopen : s.get CX_PLATE_STATUS_state = 2 ∨ s.get CX_PLATE_STATUS_state = 5) (hcur : s.plate.cur = some ⟨f, h, 0⟩)
    (data : Nat) : plateWindowWrite (f * 128 + h * 4) data 15 s =
      let t := s.bufPlatePut (f * 16 + h / 2) (halfMask (h % 2) 15) (halfData (h % 2) data)
      let t := { t with plate := { t.plate with cur := some ⟨f, h + 1, 0⟩ } }
      if h = 31 then t.frameEnd f else t := by
  have hbusy : ¬ (s.get CX_PLATE_STATUS_state = 1 ∨ s.get CX_PLATE_STATUS_state = 3) := by omega
  obtain ⟨hf', hh'⟩ := plateWindow_half (f := f) hh
  unfold plateWindowWrite
  simp only [hf', hh', hbusy, if_false, State.loadOpen_iff.2 hopen, if_true, hcur, and_self]
  rfl

theorem halfMask_low : halfMask 0 15 = 0x0F := rfl
theorem halfMask_high : halfMask 1 15 = 0xF0 := rfl

theorem halfData_low {data : Nat} (h : data < 2 ^ 32) : halfData 0 data = data := by
  rw [halfData, Nat.mod_eq_of_lt h, Nat.mul_zero, Nat.pow_zero, Nat.mul_one]

theorem halfData_high {data : Nat} (h : data < 2 ^ 32) : halfData 1 data = data * 2 ^ 32 := by
  rw [halfData, Nat.mod_eq_of_lt h, Nat.mul_one]

theorem mergeBytes8_low {data : Nat} (h : data < 2 ^ 32) : mergeBytes8 0 data 0x0F = data := by
  simp [mergeBytes8, List.range_succ, bit, byteOf, ofBytes, Nat.testBit_succ]
  omega

theorem mergeBytes8_high {low data : Nat} (hlow : low < 2 ^ 32) (h : data < 2 ^ 32) :
    mergeBytes8 low (data * 2 ^ 32) 0xF0 = data * 2 ^ 32 + low := by
  simp [mergeBytes8, List.range_succ, bit, byteOf, ofBytes, Nat.testBit_succ]
  omega

/-- The bytes of an even half wait. -/
theorem State.bufPlatePut_low {s : State} (hbuf : s.prot.bufPlate = none) (idx : Nat) {data : Nat}
    (hdata : data < 2 ^ 32) : s.bufPlatePut idx (halfMask 0 15) (halfData 0 data) =
      { s with prot := { s.prot with bufPlate := some ⟨idx, 15, data⟩ } } := by
  have hadd : (MBuf.mk idx 0 0).add 0x0F data = ⟨idx, 15, data⟩ := by
    have hmask : Nat.lor 0 0x0F = 15 := by decide
    simp only [MBuf.add, mergeBytes8_low hdata, hmask]
  rw [halfMask_low, halfData_low hdata]
  simp only [State.bufPlatePut, hbuf, hadd]
  exact if_neg (by decide)

/-- An odd half completes the word, which is written whole. -/
theorem State.bufPlatePut_high {s : State} {idx low : Nat} (hbuf : s.prot.bufPlate = some ⟨idx, 15, low⟩)
    {data : Nat} (hlow : low < 2 ^ 32) (hdata : data < 2 ^ 32) :
    s.bufPlatePut idx (halfMask 1 15) (halfData 1 data) =
      State.plateWrite { s with prot := { s.prot with bufPlate := none } } idx (data * 2 ^ 32 + low) := by
  have hadd : (MBuf.mk idx 15 low).add 0xF0 (data * 2 ^ 32) = ⟨idx, 0xFF, data * 2 ^ 32 + low⟩ := by
    have hmask : Nat.lor 15 0xF0 = 0xFF := by decide
    simp only [MBuf.add, mergeBytes8_high hlow hdata, hmask]
  rw [halfMask_high, halfData_high hdata]
  simp only [State.bufPlatePut, hbuf, hadd, if_true]

/-! ## A plate word written, and the end of a frame (R70, R412) -/

theorem State.plateWrite_mem (s : State) (idx v : Nat) :
    (s.plateWrite idx v).plate = { s.plate with mem := Sparse.put 0 idx (v % 2 ^ 64) s.plate.mem } := by
  unfold State.plateWrite State.repairWrite
  split <;> rfl

theorem State.plateWrite_bufPlate (s : State) (idx v : Nat) :
    (s.plateWrite idx v).prot.bufPlate = s.prot.bufPlate := by
  unfold State.plateWrite State.repairWrite
  split <;> rfl

theorem State.plateWrite_frame (s : State) (idx v : Nat) : Frame [.plate, .prot] [] s (s.plateWrite idx v) := by
  unfold State.plateWrite State.repairWrite
  split <;> exact Frame.beside (Frame.refl _ _ s)

/-- The second half of word `idx` of frame `f` has been written: the word is stored whole and no byte waits. -/
structure WordStored (f h idx v : Nat) (s t : State) : Prop where
  cur : t.plate.cur = some ⟨f, h + 1, 0⟩
  mem : t.plate.mem = Sparse.put 0 idx v s.plate.mem
  buf : t.prot.bufPlate = none
  frame : Frame [.plate, .prot] [] s t

theorem State.plateWrite_stored (s : State) (f h idx : Nat) {v : Nat} (hv : v < 2 ^ 64) :
    WordStored f h idx v s
      (let t := State.plateWrite { s with prot := { s.prot with bufPlate := none } } idx v
      { t with plate := { t.plate with cur := some ⟨f, h + 1, 0⟩ } }) := by
  have hplate := State.plateWrite_mem { s with prot := { s.prot with bufPlate := none } } idx v
  have hframe := State.plateWrite_frame { s with prot := { s.prot with bufPlate := none } } idx v
  rw [Nat.mod_eq_of_lt hv] at hplate
  refine ⟨rfl, congrArg Plate.mem hplate, State.plateWrite_bufPlate _ idx v, ?_⟩
  exact Frame.with_plate ((Frame.beside (Frame.refl _ _ s)).trans hframe) _ (by decide)

theorem State.frameEnd_frame (s : State) (f : Nat) : Frame [.plate] badFrameFields s (s.frameEnd f) :=
  Frame.ite (s.setBadFrames_frame _) (s.badFrame_counted f (by decide)).frame

theorem State.frameEnd_mem (s : State) (f : Nat) : (s.frameEnd f).plate.mem = s.plate.mem := by
  unfold State.frameEnd
  split
  · rfl
  · exact (s.badFrame_counted f (by decide)).mem

theorem State.frameEnd_cur (s : State) (f : Nat) : (s.frameEnd f).plate.cur = s.plate.cur := by
  unfold State.frameEnd
  split
  · rfl
  · exact (s.badFrame_counted f (by decide)).cur

/-- A frame is listed bad exactly if its CRC-16 differs. -/
theorem State.frameEnd_bad (s : State) (f : Nat) : Sparse.get false f (s.frameEnd f).plate.badFrames =
    (frameCrc f (s.frameWords f) != s.get CX_PLATE_FCRC_crc) := by
  unfold State.frameEnd
  split
  next h => rw [bne_eq_false_iff_eq.2 h]; exact Sparse.get_put_same false f false s.plate.badFrames
  next h => rw [(s.badFrame_counted f (by decide)).listed, bne_iff_ne.2 h]

theorem State.frameEnd_err {s : State} {f : Nat} (h : frameCrc f (s.frameWords f) ≠ s.get CX_PLATE_FCRC_crc) :
    (s.frameEnd f).get CX_PLATE_STATUS_err = 2 := by
  rw [State.frameEnd, if_neg h]
  exact (s.badFrame_counted f (by decide)).err

/-- The words of a frame are those of the memory and of the merge buffer. -/
theorem State.frameWords_congr {s t : State} (hmem : t.plate.mem = s.plate.mem)
    (hbuf : t.prot.bufPlate = s.prot.bufPlate) (f : Nat) : t.frameWords f = s.frameWords f := by
  simp only [State.frameWords, State.rd, hmem, hbuf]

/-- After the last half the frame ends: it is judged by its CRC-16. -/
theorem WordStored.ended {f h idx v : Nat} {s u : State} (hu : WordStored f h idx v s u) :
    let t := if h = 31 then u.frameEnd f else u
    t.plate.cur = some ⟨f, h + 1, 0⟩ ∧ t.plate.mem = Sparse.put 0 idx v s.plate.mem ∧ t.prot.bufPlate = none ∧
      (h = 31 → Sparse.get false f t.plate.badFrames = (frameCrc f (t.frameWords f) != s.get CX_PLATE_FCRC_crc)) ∧
      (h = 31 → frameCrc f (t.frameWords f) ≠ s.get CX_PLATE_FCRC_crc → t.get CX_PLATE_STATUS_err = 2) ∧
      Frame [.plate, .prot] badFrameFields s t := by
  obtain ⟨hcur, hmem, hbuf, hframe⟩ := hu
  have hcrc : u.get CX_PLATE_FCRC_crc = s.get CX_PLATE_FCRC_crc := hframe.get (by simp)
  dsimp only
  split
  next =>
    have hend := u.frameEnd_frame f
    have hbuf' : (u.frameEnd f).prot.bufPlate = u.prot.bufPlate := congrArg Prot.bufPlate (hend.parts .prot (by decide))
    have hwords := State.frameWords_congr (u.frameEnd_mem f) hbuf' f
    rw [hwords, ← hcrc]
    exact ⟨(u.frameEnd_cur f).trans hcur, (u.frameEnd_mem f).trans hmem, hbuf'.trans hbuf, fun _ => u.frameEnd_bad f,
      fun _ => State.frameEnd_err, (hframe.mono (by simp) (by simp)).next hend (by simp) (by simp)⟩
  next hlast =>
    exact ⟨hcur, hmem, hbuf, fun h => absurd h hlast, fun h => absurd h hlast, hframe.mono (by simp) (by simp)⟩

/-! ## Writes out of order (R69, R70) -/

theorem plateWindowWrite_of_busy {s : State} {f h : Nat} (hh : h < 32) (data be : Nat)
    (hbusy : s.get CX_PLATE_STATUS_state = 1 ∨ s.get CX_PLATE_STATUS_state = 3) :
    plateWindowWrite (f * 128 + h * 4) data be s = s.badFrame f 3 := by
  rw [plateWindowWrite, (plateWindow_half (f := f) hh).1]
  exact if_pos hbusy

theorem plateWindowWrite_of_order {s : State} {f h : Nat} {c : PlateCur} (hh : h < 32) (data be : Nat)
    (hopen : s.get CX_PLATE_STATUS_state = 2 ∨ s.get CX_PLATE_STATUS_state = 5) (hcur : s.plate.cur = some c)
    (hc : c.frame ≠ f ∨ c.halves ≠ h) : plateWindowWrite (f * 128 + h * 4) data be s =
      State.badFrame { s with plate := { s.plate with cur := some ⟨c.frame, 32, 0⟩ } } c.frame 3 := by
  have hbusy : ¬ (s.get CX_PLATE_STATUS_state = 1 ∨ s.get CX_PLATE_STATUS_state = 3) := by omega
  have hdue : ¬ (c.frame = f ∧ c.halves = h) := fun ⟨hf, hk⟩ => hc.elim (· hf) (· hk)
  obtain ⟨hf', hh'⟩ := plateWindow_half (f := f) hh
  simp only [plateWindowWrite, hf', hh', hbusy, if_false, State.loadOpen_iff.2 hopen, if_true, hcur, hdue,
    State.orderViolation]

theorem plateWindowWrite_of_closed {s : State} (addr data be : Nat)
    (h : s.get CX_PLATE_STATUS_state = 0 ∨ s.get CX_PLATE_STATUS_state = 4) : plateWindowWrite addr data be s = s := by
  have hbusy : ¬ (s.get CX_PLATE_STATUS_state = 1 ∨ s.get CX_PLATE_STATUS_state = 3) := by omega
  have hopen : s.loadOpen = false := by rcases h with h | h <;> simp [State.loadOpen, h]
  simp [plateWindowWrite, hbusy, hopen]

/-- Settles O10: each clause is what its operation does in the state the clause names. -/
theorem plateLoadsFrameByFrame : Obligations.PlateLoadsFrameByFrame := by
  unfold Obligations.PlateLoadsFrameByFrame
  refine ⟨?opens, ?clears, ?clearLate, ?aborts, ?abortLate, ?fcrc, ?even, ?odd, ?order, ?busy, ?closed⟩
  case opens =>
    exact fun s u hclear hcheck hacq hreload => ⟨_, exec_plateOpen s, plateOpen_opened u hclear hcheck hacq hreload⟩
  case clears =>
    intro s h
    obtain ⟨t, rfl, ht⟩ := plateClearDone_of_clearing h
    exact ⟨_, effect_of_wf rfl plateClearDone s, ht⟩
  case clearLate => exact fun s h => effect_of_fixed (plateClearDone_of_other h) _
  case aborts =>
    intro s h
    obtain ⟨t, rfl, ht⟩ := plateAbort_of_open h
    exact ⟨_, effect_of_wf rfl plateAbort s, ht⟩
  case abortLate => exact fun s hopen hfailed => effect_of_fixed (plateAbort_of_other hopen hfailed) _
  case fcrc =>
    intro s frame crc hframe hcrc h
    obtain ⟨t, rfl, ht⟩ := plateFcrcWrite_of_open hframe hcrc h
    exact ⟨_, effect_of_wf (by simp [Instr.wf, hframe, hcrc]) (plateFcrcWrite frame crc) s, ht⟩
  case even =>
    intro s f h data hf hh heven hdata hopen hcur hbuf
    refine ⟨_, exec_plateWindowWrite hf (by omega) hdata (by decide) (by decide) s, ?_⟩
    rw [plateWindowWrite_of_due (by omega) hopen hcur, heven, State.bufPlatePut_low hbuf _ hdata, if_neg (by omega)]
    exact ⟨rfl, rfl, rfl, Frame.beside (Frame.refl _ _ s)⟩
  case odd =>
    intro s f h data low hf hh hodd hdata hlow hopen hcur hbuf
    refine ⟨_, exec_plateWindowWrite hf hh hdata (by decide) (by decide) s, ?_⟩
    rw [plateWindowWrite_of_due hh hopen hcur, hodd, State.bufPlatePut_high hbuf hlow hdata]
    have hstored := s.plateWrite_stored f h (f * 16 + h / 2) (v := data * 2 ^ 32 + low) (by omega)
    exact hstored.ended
  case order =>
    intro s f h data be c hf hh hdata hpos hbe hopen hcur hc
    refine ⟨_, exec_plateWindowWrite hf hh hdata hpos hbe s, ?_⟩
    rw [plateWindowWrite_of_order hh data be hopen hcur hc]
    obtain ⟨hlisted, herr, hmem, hcur', hframe⟩ := State.badFrame_counted
      { s with plate := { s.plate with cur := some ⟨c.frame, 32, 0⟩ } } c.frame (err := 3) (by decide)
    exact ⟨hlisted, herr, hmem, hcur', (Frame.beside (Frame.refl _ _ s)).trans hframe⟩
  case busy =>
    intro s f h data be hf hh hdata hpos hbe hbusy
    refine ⟨_, exec_plateWindowWrite hf hh hdata hpos hbe s, ?_⟩
    rw [plateWindowWrite_of_busy hh data be hbusy]
    obtain ⟨hlisted, herr, hmem, -, hframe⟩ := s.badFrame_counted f (err := 3) (by decide)
    exact ⟨hlisted, herr, hmem, hframe⟩
  case closed =>
    exact fun s addr data be h => effect_of_fixed (plateWindowWrite_of_closed addr data be h) _

end Sys2Proof.Machine
end

section
/-! SUPPORT. What stays outside the plate: operations that leave the plate, its memories and its registers CX_PLATE_CTRL
to CX_PLATE_QUAR (R63 to R84). -/

namespace Sys2Proof.Sparse

/-- Dropping entries by their key leaves the others. -/
theorem get_filter_key {α : Type} (d : α) (q : Nat → Bool) {k : Nat} (hk : q k = true) (m : List (Nat × α)) :
    get d k (m.filter fun e => q e.1) = get d k m := by
  induction m with
  | nil => rfl
  | cons e m ih =>
    obtain ⟨j, v⟩ := e
    by_cases hj : k = j
    · subst hj
      simp [get, hk]
    · by_cases hq : q j = true <;> simp [get, hj, hq, ih]

end Sys2Proof.Sparse

namespace Sys2Proof.Machine

open Sys2Proof

/-- A register of the plate other than its quarantine map. -/
abbrev PlateKey (k : Nat) : Prop := 0x10000080 * 32 ≤ k ∧ k < 0x100000C0 * 32

/-- `t` has the plate of `s`, with the same registers of the plate. -/
structure OutsidePlate (s t : State) : Prop where
  plate : t.plate = s.plate
  fields : ∀ f : Fld, PlateKey f.key → t.get f = s.get f

/-- A field of an arrayed register whose first copy lies above the plate's registers. -/
theorem indexed_not_plateKey {a k lo w r : Nat} {acc : Access} (h : 0x100000C0 ≤ a := by decide) :
    ¬ PlateKey (Fld.mk (a + k) lo w r acc).key := by
  simp only [PlateKey, Fld.key]
  omega

/-- The same for an arrayed register of two indices. -/
theorem indexed2_not_plateKey {a k l lo w r : Nat} {acc : Access} (h : 0x100000C0 ≤ a := by decide) :
    ¬ PlateKey (Fld.mk (a + k + l) lo w r acc).key :=
  indexed_not_plateKey (Nat.le_add_right_of_le h)

namespace OutsidePlate

variable {s t u : State}

theorem refl (s : State) : OutsidePlate s s := ⟨rfl, fun _ _ => rfl⟩

theorem beside (h : OutsidePlate s t) (hcsr : u.csr = t.csr) (hplate : u.plate = t.plate) : OutsidePlate s u :=
  ⟨hplate.trans h.plate, fun f hf => by rw [← h.fields f hf, State.get, State.get, hcsr]⟩

theorem set (h : OutsidePlate s t) (f : Fld) (v : Nat) (hf : ¬ PlateKey f.key := by decide) :
    OutsidePlate s (t.set f v) :=
  ⟨h.plate, fun g hg => (State.get_set_ne t (fun e => hf (e ▸ hg)) v).trans (h.fields g hg)⟩

theorem setB (h : OutsidePlate s t) (f : Fld) (b : Bool) (hf : ¬ PlateKey f.key := by decide) :
    OutsidePlate s (t.setB f b) := h.set f _ hf

theorem count (h : OutsidePlate s t) (f : Fld) (n : Nat) (hf : ¬ PlateKey f.key := by decide) :
    OutsidePlate s (t.count f n) := h.set f _ hf

theorem raise (h : OutsidePlate s t) (src arg : Nat) : OutsidePlate s (t.raise src arg) := by
  unfold State.raise
  split
  · exact h.count _ _
  · exact h.beside rfl rfl

theorem ite {c : Prop} [Decidable c] (h : OutsidePlate s t) (h' : OutsidePlate s u) :
    OutsidePlate s (if c then t else u) := by
  split
  · exact h
  · exact h'

theorem flag (h : OutsidePlate s t) (f : Fld) (src arg : Nat) (hf : ¬ PlateKey f.key := by decide) :
    OutsidePlate s (t.flag f src arg) := ite h ((h.set f 1 hf).raise _ _)

theorem iff {b : Bool} {f : State → State} (h : OutsidePlate s t)
    (hf : ∀ u, OutsidePlate s u → OutsidePlate s (f u)) : OutsidePlate s (t.iff b f) := ite (hf t h) h

theorem each {α : Type} {l : List α} {f : State → α → State} (h : OutsidePlate s t)
    (hf : ∀ u a, OutsidePlate s u → OutsidePlate s (f u a)) : OutsidePlate s (t.each l f) :=
  List.foldlRecOn l f h fun u hu a _ => hf u a hu

theorem draw (h : OutsidePlate s t) : OutsidePlate s t.draw.2 := h.beside rfl rfl

theorem rise (h : OutsidePlate s t) (f : Fld) (hf : ¬ PlateKey f.key := by decide) : OutsidePlate s (t.rise f) :=
  h.draw.count f _ hf

/-! ### Lanes and quads -/

theorem setLane (h : OutsidePlate s t) (n : Nat) (l : Lane) : OutsidePlate s (t.setLane n l) := h.beside rfl rfl

theorem setHeld (h : OutsidePlate s t) (n : Nat) (rx : Bool) (d : Option Nat) : OutsidePlate s (t.setHeld n rx d) :=
  h.setLane _ _

theorem quadCommit (h : OutsidePlate s t) (was : PlateRd) (q : Nat) : OutsidePlate s (t.quadCommit was q) :=
  have hmode := h.set (LN_QUAD_mode q) (lrMode t.shadowRd q) indexed_not_plateKey
  ite (hmode.beside rfl rfl) hmode

theorem linkClear (h : OutsidePlate s t) (p : Nat) : OutsidePlate s (t.linkClear p) := by
  refine set (set ?_ _ _ indexed_not_plateKey) _ _ indexed_not_plateKey
  exact h.beside rfl rfl

theorem lockLoss (h : OutsidePlate s t) (n : Nat) : OutsidePlate s (t.lockLoss n) := by
  refine ite (iff (flag (count (set (set (set (set (set (h.setLane n _) _ _ ?_) _ _ ?_) _ _ ?_) _ _ ?_) _ _ ?_) _ _ ?_)
    _ _ _ ?_) fun _ hu => hu.linkClear _) h
  all_goals exact indexed_not_plateKey

theorem pendQuads (h : OutsidePlate s t) : OutsidePlate s t.pendQuads := h.set _ _

theorem nowOf_not_plateKey (n : Nat) (rx : Bool) : ¬ PlateKey (nowOf n rx).key := by
  cases rx <;> exact indexed_not_plateKey

theorem reqOf_not_plateKey (n : Nat) (rx : Bool) : ¬ PlateKey (reqOf n rx).key := by
  cases rx <;> exact indexed_not_plateKey

theorem pendOf_not_plateKey (n : Nat) (rx : Bool) : ¬ PlateKey (pendOf n rx).key := by
  cases rx <;> exact indexed_not_plateKey

theorem dropStart (h : OutsidePlate s t) (n : Nat) (rx : Bool) : OutsidePlate s (t.dropStart n rx) :=
  ((h.setHeld n rx none).set _ _ (pendOf_not_plateKey n rx)).pendQuads

theorem dirOff (h : OutsidePlate s t) (n : Nat) (rx : Bool) (held : Option Nat) : OutsidePlate s (t.dirOff n rx held) := by
  have hlost := h.iff (b := rx) (f := fun u => u.lockLoss n) fun _ hu => hu.lockLoss n
  exact beside (t := ((t.iff rx fun u => u.lockLoss n).set (nowOf n rx) 5).setHeld n rx held)
    ((hlost.set _ _ (nowOf_not_plateKey n rx)).setHeld n rx held) rfl rfl

theorem dirStart (h : OutsidePlate s t) (n : Nat) (rx : Bool) (target : Nat) :
    OutsidePlate s (t.dirStart n rx target) :=
  have hheld := h.setHeld n rx (some target)
  ite hheld ((hheld.set _ _ (nowOf_not_plateKey n rx)).set _ _ indexed_not_plateKey)

theorem dirRequest (h : OutsidePlate s t) (n : Nat) (rx : Bool) (req : Nat) :
    OutsidePlate s (t.dirRequest n rx req) := by
  have hreq := h.set (reqOf n rx) req (reqOf_not_plateKey n rx)
  have hhold : OutsidePlate s (((((t.set (reqOf n rx) req).setHeld n rx (some req)).set (pendOf n rx) 1).pendQuads).iff
      (!(t.set (reqOf n rx) req).on (pendOf n rx)) fun s => s.raise 40) :=
    iff ((hreq.setHeld n rx (some req)).set _ _ (pendOf_not_plateKey n rx)).pendQuads fun _ hu => hu.raise _ _
  unfold State.dirRequest
  refine ite (hreq.setHeld n rx _) (ite (ite (hreq.dropStart n rx) hhold) (ite (ite (hreq.dropStart n rx)
    (ite hhold (hreq.dirStart n rx req))) (ite hreq (ite (hreq.dirOff n rx none) (ite ?_ ?_)))))
  · exact (hreq.iff fun _ hu => hu.lockLoss n).set _ _ (nowOf_not_plateKey n rx)
  · exact (hreq.setHeld n rx _).set _ _ (nowOf_not_plateKey n rx)

theorem laneCommit (h : OutsidePlate s t) (was : PlateRd) (n : Nat) : OutsidePlate s (t.laneCommit was n) := by
  unfold State.laneCommit
  refine each (iff (setB (iff (iff ?roles fun _ hu => hu.setLane n _) ?ports) _ _ indexed_not_plateKey) ?drop) ?dirs
  case roles => exact (h.set _ _ indexed_not_plateKey).set _ _ indexed_not_plateKey
  case ports => exact fun _ hu => (hu.set _ _ indexed_not_plateKey).set _ _ indexed_not_plateKey
  case drop => exact fun _ hu => hu.each fun _ rx hu => hu.dropStart n rx
  case dirs =>
    intro u rx hu
    have hreq {v : State} {k : Nat} (hv : OutsidePlate s v) : OutsidePlate s (v.set (reqOf n rx) k) :=
      hv.set _ _ (reqOf_not_plateKey n rx)
    exact ite (hreq (hu.dirOff n rx _)) (ite (hreq (hu.setHeld n rx _)) (ite (hreq (ite hu (hu.dirStart n rx 0)))
      (hu.dirRequest n rx _)))

/-! ### Region latches and loops -/

theorem setChan (h : OutsidePlate s t) (ch : Nat) (c : Chan) : OutsidePlate s (t.setChan ch c) := h.beside rfl rfl

theorem loadLatch (h : OutsidePlate s t) (r w : Nat) : OutsidePlate s (t.loadLatch r w) :=
  each (h.beside rfl rfl) fun _ _ hu => hu.setChan _ _

theorem leBase_not_plateKey (i k lo w r : Nat) (acc : Access) : ¬ PlateKey (Fld.mk (leBase i + k) lo w r acc).key := by
  refine indexed_not_plateKey ?_
  unfold leBase
  split <;> omega

theorem injAbort (h : OutsidePlate s t) (i : Nat) : OutsidePlate s (t.injAbort i) :=
  ite ((h.set _ _ (leBase_not_plateKey i _ _ _ _ _)).raise _ _) h

theorem loopOpen (h : OutsidePlate s t) (r : Nat) : OutsidePlate s (t.loopOpen r) := by
  unfold State.loopOpen
  exact iff (h.set _ _ indexed_not_plateKey) fun _ hu => hu.injAbort 2

theorem loopFault (h : OutsidePlate s t) (r cause : Nat) : OutsidePlate s (t.loopFault r cause) := by
  refine ite (raise (set (set (h.loopOpen r) _ _ indexed_not_plateKey) _ _ ?_) _ _) h
  split <;> decide

theorem loopModes (h : OutsidePlate s t) : OutsidePlate s t.loopModes :=
  h.each fun _ r hu => ite hu (hu.loopFault r 4)

/-! ### Banks, dies, triggers and forwarding -/

theorem updReady (h : OutsidePlate s t) : OutsidePlate s t.updReady := h.setB _ _

theorem wantBanks (h : OutsidePlate s t) (want : Nat) : OutsidePlate s (t.wantBanks want) := by
  refine each (set ?_ _ _) fun _ _ hu => (hu.set _ _ indexed_not_plateKey).set _ _ indexed_not_plateKey
  exact h.beside rfl rfl

theorem commitBanks (h : OutsidePlate s t) : OutsidePlate s t.commitBanks := by
  refine updReady ?_
  exact (h.wantBanks _).beside rfl rfl

theorem critNext (h : OutsidePlate s t) (w : Nat) : OutsidePlate s (t.critNext w) := h.beside rfl rfl

theorem feFld_not_plateKey (n : Nat) : ¬ PlateKey (feFld n).key := by
  unfold feFld
  split <;> decide

theorem nowFld_not_plateKey (n : Nat) : ¬ PlateKey (nowFld n).key := by
  unfold nowFld
  split <;> decide

theorem fePend (h : OutsidePlate s t) (n : Nat) (b : Bool) : OutsidePlate s (t.fePend n b) := h.set _ _

theorem feBegin (h : OutsidePlate s t) (n target : Nat) : OutsidePlate s (t.feBegin n target) := by
  refine set ?_ _ _ (nowFld_not_plateKey n)
  exact h.beside rfl rfl

theorem feAway (h : OutsidePlate s t) (n : Nat) : OutsidePlate s (t.feAway n) := ite h (h.beside rfl rfl)

theorem feOff (h : OutsidePlate s t) (n : Nat) : OutsidePlate s (t.feOff n) := by
  have hbegun := (h.feAway n).feBegin n 2
  exact beside (hbegun.iff (b := (((t.feAway n).feBegin n 2).die n).slice && _)
    (f := fun s => { s with activity := none }) fun _ hu => hu.beside rfl rfl) rfl rfl

/-- The registers of an FE die reset leave those of the plate. -/
theorem dieCleared (h : OutsidePlate s t) (n : Nat) (hcsr : u.csr = t.csr.filter fun e => e.1 / 2 ^ 29 != 0x20 + n)
    (hplate : u.plate = t.plate) : OutsidePlate s u := by
  refine ⟨hplate.trans h.plate, fun f hf => ?_⟩
  have hkeep : (f.key / 2 ^ 29 != 0x20 + n) = true := by
    simp only [PlateKey] at hf
    simp only [bne_iff_ne]
    omega
  rw [← h.fields f hf, State.get, State.get, hcsr, Sparse.get_filter_key _ (fun k => k / 2 ^ 29 != 0x20 + n) hkeep]

theorem feUp (h : OutsidePlate s t) (n : Nat) : OutsidePlate s (t.feUp n) := by
  unfold State.feUp
  refine feBegin (each ?_ fun _ _ hu => hu.loadLatch _ _) n 3
  exact h.dieCleared n rfl rfl

theorem acqRefused (h : OutsidePlate s t) (cause : Nat) : OutsidePlate s (t.acqRefused cause) :=
  (h.set _ _).flag _ _ _

theorem feWrite (h : OutsidePlate s t) (n code : Nat) : OutsidePlate s (t.feWrite n code) :=
  have hset := h.set (feFld n) code (feFld_not_plateKey n)
  ite (h.acqRefused 6) (ite (ite (hset.fePend n false) (ite hset ((hset.fePend n true).raise _ _))) (ite hset
    (ite (hset.feOff n) (ite (hset.feUp n) (ite hset (ite ((hset.feAway n).feBegin n 1) (hset.feBegin n 0)))))))

theorem updConflict (h : OutsidePlate s t) : OutsidePlate s t.updConflict :=
  (h.set _ _).iff fun _ hu => hu.flag _ _ _

theorem fwdCheck (h : OutsidePlate s t) : OutsidePlate s t.fwdCheck :=
  each (h.each fun _ _ hu => hu.set _ _ indexed_not_plateKey) fun _ _ hu =>
    (hu.set _ _ indexed_not_plateKey).flag _ _ _

theorem rateStart (h : OutsidePlate s t) : OutsidePlate s t.rateStart := h.beside rfl rfl

theorem assayRunEnd (h : OutsidePlate s t) : OutsidePlate s t.assayRunEnd := by
  unfold State.assayRunEnd
  split
  · exact ite (h.set _ _ indexed_not_plateKey) h
  · exact h

theorem assayStop (h : OutsidePlate s t) : OutsidePlate s t.assayStop := by
  unfold State.assayStop
  refine raise (set (set (rise ?_ _) _ _) _ _) _ _
  exact h.assayRunEnd.beside rfl rfl

theorem assayCheck (h : OutsidePlate s t) : OutsidePlate s t.assayCheck := by
  unfold State.assayCheck
  split
  · exact h
  · exact ite h h.assayStop

/-- What a commit does outside the plate leaves the plate. -/
theorem commitApply (h : OutsidePlate s t) (was : PlateRd) : OutsidePlate s (t.commitApply was) := by
  unfold State.commitApply
  refine assayCheck (rateStart (loopModes (fwdCheck (updConflict (iff (each (commitBanks (each (each (each h ?quads)
    ?lanes) ?latches)) ?dies) ?chasers)))))
  case quads => exact fun _ q hu => hu.quadCommit was q
  case lanes => exact fun _ n hu => hu.laneCommit was n
  case latches => exact fun _ r hu => hu.loadLatch r _
  case dies => exact fun _ n hu => ite ((hu.feWrite n 1).critNext 22) hu
  case chasers =>
    exact fun _ hu => hu.each fun _ c hu => (hu.set _ _ indexed_not_plateKey).set _ _ indexed_not_plateKey

end OutsidePlate
end Sys2Proof.Machine
end

section
/-! SUPPORT and PROOF. A commit: what it checks, how it fails, what puts the plate into force (R71, R72, R86). -/

namespace Sys2Proof.Machine

open Sys2Proof

/-! ## PLATE_COMMIT -/

theorem plateCommit_of_open {s : State} {lane : Option Nat}
    (h : s.get CX_PLATE_STATUS_state = 2 ∨ s.get CX_PLATE_STATUS_state = 5) : plateCommit lane s =
      (let t := s.fillPlate.set CX_PLATE_STATUS_state 3
      { t with plate := { t.plate with commitLane := lane } }) := by
  have hload : ¬ (s.get CX_PLATE_STATUS_state = 0 ∨ s.get CX_PLATE_STATUS_state = 4) := by omega
  simp only [plateCommit, hload, if_false, State.loadOpen_iff.2 h, if_true]

theorem State.fillPlate_of_empty {s : State} (h : s.prot.bufPlate = none) : s.fillPlate = s := by
  simp [State.fillPlate, h]

theorem State.fillPlate_of_good {s : State} {b : MBuf} (h : s.prot.bufPlate = some b)
    (hmark : s.mark memPlate b.word = 0) : s.fillPlate =
      State.plateWrite { s with prot := { s.prot with bufPlate := none } } b.word
        (mergeBytes8 (Sparse.get 0 b.word s.plate.mem) b.data b.mask) := by
  have hmark' : State.mark { s with prot := { s.prot with bufPlate := none } } memPlate b.word = 0 := hmark
  simp only [State.fillPlate, h, hmark']
  rfl

/-! ## PLATE_COMMIT_DONE -/

theorem plateCommitDone_of_other {s : State} (h : s.get CX_PLATE_STATUS_state ≠ 3) : plateCommitDone s = s := if_pos h

theorem plateCommitDone_of_verdict {s : State} (h : s.get CX_PLATE_STATUS_state = 3) {err check frame : Nat}
    (hv : s.commitVerdict = some (err, check, frame)) : plateCommitDone s = s.commitFail err check frame := by
  simp [plateCommitDone, h, hv]

theorem plateCommitDone_of_good {s : State} (h : s.get CX_PLATE_STATUS_state = 3) (hv : s.commitVerdict = none) :
    plateCommitDone s = s.commitLoad.commitApply s.shadowRd := by
  simp [plateCommitDone, h, hv]

/-- The registers that a failed commit writes. -/
def commitFailFields : List Fld :=
  [CX_PLATE_STATUS_state, CX_PLATE_STATUS_err, CX_PLATE_ERR_FRAME_check, CX_PLATE_ERR_FRAME_frame, MG_EVLOG_merged]

/-- A failed commit leaves the load open, names the failure and raises its event; the plate memory and the shadows
stay. -/
theorem State.commitFail_spec (s : State) {err check frame : Nat} (herr : err < 16) (hcheck : check < 256)
    (hframe : frame < 8192) : (s.commitFail err check frame).get CX_PLATE_STATUS_state = 5 ∧
      (s.commitFail err check frame).get CX_PLATE_STATUS_err = err ∧
      (s.commitFail err check frame).get CX_PLATE_ERR_FRAME_check = check ∧
      (s.commitFail err check frame).get CX_PLATE_ERR_FRAME_frame = frame ∧
      Sparse.has 46 (s.commitFail err check frame).evReq = true ∧
      (s.commitFail err check frame).plate.mem = s.plate.mem ∧
      (s.commitFail err check frame).plate.shadow = s.plate.shadow ∧
      Frame [.plate, .evReq] commitFailFields s (s.commitFail err check frame) := by
  unfold State.commitFail
  refine ⟨?_, ?_, ?_, ?_, State.has_raise _ _ _, ?_, ?_, ?_⟩
  · simp (disch := decide) [State.get_raise_ne, State.get_set_ne, State.get_set_fit]
  · simp (disch := decide) [State.get_raise_ne, State.get_set_ne, State.get_set_fit _ CX_PLATE_STATUS_err herr]
  · simp (disch := decide) [State.get_raise_ne, State.get_set_ne, State.get_set_fit _ CX_PLATE_ERR_FRAME_check hcheck]
  · simp (disch := decide) [State.get_raise_ne, State.get_set_fit _ CX_PLATE_ERR_FRAME_frame hframe]
  · simp
  · simp
  · refine Frame.raise (Frame.with_plate ?_ _ (by decide)) _ _ (by decide) (by decide)
    exact ((((Frame.refl _ _ s).set _ _ (by decide)).set _ _ (by decide)).set _ _ (by decide)).set _ _ (by decide)

/-! ## The plate put into force -/

theorem State.each_plate {α : Type} {l : List α} {f : State → α → State} (hf : ∀ u a, (f u a).plate = u.plate)
    (s : State) : (s.each l f).plate = s.plate :=
  List.foldlRecOn l f (motive := fun u => u.plate = s.plate) rfl fun u hu a _ => (hf u a).trans hu

/-- The plate's part of a good commit before its registers are written. -/
def State.plateForced (s : State) : State :=
  let s := s.histClose fun _ => true
  { s with plate := { s.plate with
    committed := true, quar := [], quarFrom := [], cur := none
    shadow := s.plate.mem.filter fun e => shadowed e.1 } }

/-- The tags, the quarantine map and the routing table that follow a good commit. -/
def State.forcedTables (s : State) : State :=
  let s := s.each (List.range 22) State.critNext
  let s := s.each (List.range 192) fun s k => s.set (CX_PLATE_QUAR_MAP_map k) 0
  s.each (List.range 4096) fun s d =>
    let e := routeDefault s.rd d
    (((s.set (FB_ROUTE_en d) (bits e 15 1)).set (FB_ROUTE_sec d) (bits e 4 4)).set (FB_ROUTE_pri d) (bits e 0 4)).set
      (FB_ROUTE_use_sec d) 0

theorem State.commitLoad_eq (s : State) : s.commitLoad =
    (s.plateForced.forcedTables.set CX_PLATE_ID_id (s.plateForced.forcedTables.rd 0 1 % 2 ^ 32)).set
      CX_PLATE_STATUS_state 4 := rfl

theorem State.forcedTables_plate (s : State) : s.forcedTables.plate = s.plate := by
  unfold State.forcedTables
  refine (State.each_plate ?_ _).trans ((State.each_plate ?_ _).trans (State.each_plate ?_ s))
  all_goals exact fun _ _ => rfl

/-- The plate of a good commit: its memory, no quarantine, and its shadows. -/
theorem State.commitLoad_plate (s : State) : s.commitLoad.plate.committed = true ∧ s.commitLoad.plate.quar = [] ∧
    s.commitLoad.plate.mem = s.plate.mem ∧
    s.commitLoad.plate.shadow = s.plate.mem.filter (fun e => shadowed e.1) := by
  rw [State.commitLoad_eq, State.set_plate, State.set_plate, State.forcedTables_plate]
  exact ⟨rfl, rfl, rfl, rfl⟩

theorem State.commitLoad_state (s : State) : s.commitLoad.get CX_PLATE_STATUS_state = 4 :=
  (congrArg (State.get · CX_PLATE_STATUS_state) s.commitLoad_eq).trans (State.get_set_fit _ _ (by decide))

/-- CX_PLATE_ID takes word 1 of the header. -/
theorem State.commitLoad_id (s : State) : s.commitLoad.get CX_PLATE_ID_id = s.rd 0 1 % 2 ^ 32 := by
  have hmem : s.plateForced.forcedTables.plate.mem = s.plate.mem := by
    rw [State.forcedTables_plate]
    rfl
  have hrd : s.plateForced.forcedTables.rd 0 1 = s.rd 0 1 := by rw [State.rd, hmem, State.rd]
  rw [State.commitLoad_eq, State.get_set_ne _ (by decide), hrd]
  exact State.get_set_fit _ CX_PLATE_ID_id (Nat.mod_lt _ (by decide))

/-- Settles O11. -/
theorem commitChecksThenTakesThePlate : Obligations.CommitChecksThenTakesThePlate := by
  unfold Obligations.CommitChecksThenTakesThePlate
  refine ⟨?empty, ?fills, ?late, ?badFrame, ?failed, ?good⟩
  case empty =>
    intro s lane hlane hopen hbuf
    refine ⟨_, exec_plateCommit hlane s, ?_⟩
    rw [plateCommit_of_open hopen, State.fillPlate_of_empty hbuf]
    exact ⟨State.get_set_fit s CX_PLATE_STATUS_state (v := 3) (by decide), rfl, rfl,
      Frame.with_plate ((Frame.refl _ _ s).set _ _ (by decide)) _ (by decide)⟩
  case fills =>
    intro s lane b hlane hopen hbuf hmark
    refine ⟨_, exec_plateCommit hlane s, ?_⟩
    rw [plateCommit_of_open hopen, State.fillPlate_of_good hbuf hmark]
    have hwrite := State.plateWrite_frame { s with prot := { s.prot with bufPlate := none } } b.word
      (mergeBytes8 (Sparse.get 0 b.word s.plate.mem) b.data b.mask)
    have hmem := State.plateWrite_mem { s with prot := { s.prot with bufPlate := none } } b.word
      (mergeBytes8 (Sparse.get 0 b.word s.plate.mem) b.data b.mask)
    have hbuf' := State.plateWrite_bufPlate { s with prot := { s.prot with bufPlate := none } } b.word
      (mergeBytes8 (Sparse.get 0 b.word s.plate.mem) b.data b.mask)
    generalize State.plateWrite _ _ _ = u at hwrite hmem hbuf' ⊢
    refine ⟨State.get_set_fit u CX_PLATE_STATUS_state (v := 3) (by decide), hbuf', ?_,
      Frame.with_plate (Frame.set ?_ _ _ (by decide)) _ (by decide)⟩
    · change u.plate.mem = _
      rw [hmem]
    exact (Frame.beside (Frame.refl _ _ s)).next hwrite (by simp) (by simp)
  case late => exact fun s h => effect_of_fixed (plateCommitDone_of_other h) _
  case badFrame =>
    intro s f b l hstate hbad hf
    have hv : s.commitVerdict = some (3, 0, f) := by simp [State.commitVerdict, hbad]
    refine ⟨_, effect_of_wf rfl plateCommitDone s, ?_⟩
    rw [plateCommitDone_of_verdict hstate hv]
    exact s.commitFail_spec (err := 3) (check := 0) (by decide) (by decide) hf
  case failed =>
    intro s c f hstate hbad hfail hf hc
    have hv : s.commitVerdict = some (5, c, f) := by simp [State.commitVerdict, hbad, hfail]
    refine ⟨_, effect_of_wf rfl plateCommitDone s, ?_⟩
    rw [plateCommitDone_of_verdict hstate hv]
    exact s.commitFail_spec (err := 5) (by decide) hc hf
  case good =>
    intro s hstate hbad hpass
    have hv : s.commitVerdict = none := by simp [State.commitVerdict, hbad, hpass]
    refine ⟨_, effect_of_wf rfl plateCommitDone s, ?_⟩
    rw [plateCommitDone_of_good hstate hv]
    have happly := (OutsidePlate.refl s.commitLoad).commitApply s.shadowRd
    rw [happly.fields _ (by decide), happly.fields _ (by decide), happly.plate]
    exact ⟨s.commitLoad_state, s.commitLoad_id, s.commitLoad_plate⟩

end Sys2Proof.Machine
end

section
/-! SUPPORT and PROOF. A reload whose first frame lies far beyond the plate: its quarantine map bit lies in a register of
the repair file (R78, R412). -/

namespace Sys2Proof.Machine

open Sys2Proof

/-- A reload that waits, with the window, of frame 18,432, which no plate has: the map word of that frame is
CX_REPAIR 0, whose entry holds the frame's first word. -/
def reloadBeyondPlate : State :=
  ((((State.set { State.reset with
    activity := some 2
    mt := { State.reset.mt with running := true, quiet := [(0, 1000)] }
    plate := { State.reset.plate with relFirst := 18432 } } CX_PLATE_RELOAD_state 2).set
    (CX_REPAIR_valid 0) 1).set (CX_REPAIR_memory 0) memPlate).set (CX_REPAIR_index 0) (18432 * 16))

theorem exec_reloadStart (readBackOk : Bool) (s : State) :
    exec (.reloadStart readBackOk) s = .next (reloadStart readBackOk s) := effect_of_wf rfl (reloadStart readBackOk) s

/-- Freeing the repair entry clears the bit that the start of the reload has set. -/
theorem reloadBeyondPlate_mapBit :
    bit ((reloadStart true reloadBeyondPlate).get
    (CX_PLATE_QUAR_MAP_map (reloadBeyondPlate.plate.relFirst / 32))) (reloadBeyondPlate.plate.relFirst % 32) = false := by
  decide +kernel

/-- Refutes O12: its clause on RELOAD_START admits states whose reload names a frame beyond the plate. Of frame 18,432
the map bit is bit 0 of CX_REPAIR 0, and the start frees that entry, which clears the bit again. -/
theorem not_partialReloadRuns : ¬ Obligations.PartialReloadRuns := by
  unfold Obligations.PartialReloadRuns
  rintro ⟨-, -, -, -, -, hstart, -⟩
  obtain ⟨t, ht, -, -, -, hbit, -⟩ := hstart reloadBeyondPlate 0 0 true (by decide) (by decide) (.inl rfl) (by decide)
    (by decide)
  rw [exec_reloadStart, Host.Outcome.next.injEq] at ht
  rw [← ht, reloadBeyondPlate_mapBit] at hbit
  exact Bool.noConfusion hbit

end Sys2Proof.Machine
end

section
/-! SUPPORT and PROOF. Orbit markers that do not match and gates of the frequency unit (R94, R98 to R105). -/

namespace Sys2Proof.Machine

open Sys2Proof

/-! ## Markers that do not match -/

/-- The marker of bucket `k` does not match: it is counted and noted. -/
def State.markerCounted (s : State) (k equal : Nat) : State :=
  let t := (s.count CX_MT_ORBIT_ERR_count).set CX_MT_ORBIT_ERR_last_offset k
  State.iff { t with mt := { t.mt with lastK := some k, equalK := equal, gateBad := true, misThis := true } }
    s.mt.lastK.isNone fun u => u.raise 51

theorem State.markerCounted_frame (s : State) (k equal : Nat) : Frame [.mt, .evReq]
    [CX_MT_ORBIT_ERR_count, CX_MT_ORBIT_ERR_last_offset, MG_EVLOG_merged] s (s.markerCounted k equal) :=
  Frame.iff (Frame.with_mt (((Frame.refl _ _ s).count _ 1 (by decide)).set _ k (by decide)) _ (by decide)) fun _ hu =>
    hu.raise 51 0 (by decide) (by decide)

theorem State.markerCounted_mt (s : State) (k equal : Nat) : (s.markerCounted k equal).mt =
    { s.mt with lastK := some k, equalK := equal, gateBad := true, misThis := true } := by
  unfold State.markerCounted State.iff
  split <;> simp

theorem State.markerCounted_count (s : State) (k equal : Nat) :
    (s.markerCounted k equal).get CX_MT_ORBIT_ERR_count = min (s.get CX_MT_ORBIT_ERR_count + 1) 0xFFFF := by
  unfold State.markerCounted State.iff
  split <;> simp (disch := decide) only [State.get_raise_ne, State.get_with_mt, State.get_set_ne,
    State.get_count_same] <;> rfl

theorem State.markerCounted_offset (s : State) {k : Nat} (hk : k < 65536) (equal : Nat) :
    (s.markerCounted k equal).get CX_MT_ORBIT_ERR_last_offset = k := by
  unfold State.markerCounted State.iff
  split <;> simp (disch := decide) [State.get_raise_ne, State.get_set_fit _ CX_MT_ORBIT_ERR_last_offset hk]

theorem exec_orbitMarkerMismatch {k : Nat} (hpos : 0 < k) (hk : k < 65536) (s : State) :
    exec (.orbitMarkerMismatch k) s = .next (orbitMarkerMismatch k s) :=
  effect_of_wf (by simp [Instr.wf, hk]; omega) (orbitMarkerMismatch k) s

theorem orbitMarkerMismatch_of_new {s : State} {k : Nat} (hstate : s.get CX_MT_STATUS_state = 1)
    (hsrc : s.get CX_MT_STATUS_src = 1) (hnew : s.mt.lastK ≠ some k) :
    orbitMarkerMismatch k s = s.markerCounted k 1 := by
  simp [orbitMarkerMismatch, hstate, hsrc, hnew, State.markerCounted]

/-- The offset that `k` buckets of lateness stand for: the nearer way round the orbit. -/
def markerOffset (nb k : Nat) : Int := if 2 * k ≤ nb then -(k : Int) else ((nb - k : Nat) : Int)

theorem orbitMarkerMismatch_of_third {s : State} {k : Nat} (hstate : s.get CX_MT_STATUS_state = 1)
    (hsrc : s.get CX_MT_STATUS_src = 1) (hsame : s.mt.lastK = some k) (htwo : s.mt.equalK = 2) :
    orbitMarkerMismatch k s =
      ((s.markerCounted k 3).enterHold 3 3 false).slewStart (markerOffset s.mt.nb k * 32768) := by
  have hnb : (s.markerCounted k 3).mt.nb = s.mt.nb := by rw [State.markerCounted_mt]
  rw [markerOffset, ← hnb]
  simp [orbitMarkerMismatch, hstate, hsrc, hsame, htwo, State.markerCounted]

/-! ## Entering hold and slew -/

/-- The registers that a hold entered writes. -/
def holdFields : List Fld :=
  [CX_MT_STATUS_cause, CX_HO_TIME_ms, CX_MT_STATUS_holdover, CX_MT_STATUS_state, CX_MT_STATUS_qualified, MG_EVLOG_merged]

theorem State.enterHold_frame (s : State) (cause state : Nat) (fabric : Bool) :
    Frame [.mt, .fb, .evReq] holdFields s (s.enterHold cause state fabric) := by
  unfold State.enterHold
  refine Frame.raise (Frame.set (Frame.set (Frame.beside (t := if _ then _ else _) (Frame.ite (Frame.refl _ _ s) ?_)) _ _
    (by decide)) _ _ (by decide)) _ _ (by decide) (by decide)
  exact Frame.with_mt ((((Frame.refl _ _ s).set _ _ (by decide)).set _ _ (by decide)).set _ _ (by decide)) _ (by decide)

theorem State.enterHold_state (s : State) (cause : Nat) {state : Nat} (h : state < 16) (fabric : Bool) :
    (s.enterHold cause state fabric).get CX_MT_STATUS_state = state := by
  unfold State.enterHold
  simp (disch := decide) only [State.get_raise_ne, State.get_set_ne, State.get_set_fit _ CX_MT_STATUS_state h]

theorem State.enterHold_first {s : State} (h : s.on CX_MT_STATUS_holdover = false) {cause : Nat} (hcause : cause < 4)
    (state : Nat) (fabric : Bool) : (s.enterHold cause state fabric).get CX_MT_STATUS_cause = cause ∧
      (s.enterHold cause state fabric).get CX_MT_STATUS_holdover = 1 := by
  constructor <;> simp (disch := decide) [State.enterHold, h, State.get_raise_ne, State.get_set_ne,
    State.get_set_fit _ CX_MT_STATUS_cause hcause, State.get_set_fit]

theorem State.enterHold_event (s : State) (cause state : Nat) (fabric : Bool) :
    Sparse.has 48 (s.enterHold cause state fabric).evReq = true := State.has_raise ..

/-- The registers that a slew started writes. -/
def slewFields : List Fld := [CX_MT_STATUS_state, CX_MT_STATUS_unresolved, CX_MT_OFFSET_ticks]

theorem State.slewStart_frame (s : State) (offset : Int) : Frame [.mt] slewFields s (s.slewStart offset) :=
  Frame.set (Frame.with_mt (((Frame.refl _ _ s).set _ _ (by decide)).set _ _ (by decide)) _ (by decide)) _ _ (by decide)

theorem State.slewStart_state (s : State) (offset : Int) : (s.slewStart offset).get CX_MT_STATUS_state = 3 := by
  simp (disch := decide) [State.slewStart, State.get_set_ne, State.get_set_fit]

/-! ## Gates of the frequency unit -/

theorem exec_fuGateEnd {slope resid : Nat} (hslope : slope < 2 ^ 48) (hresid : resid < 65536) (s : State) :
    exec (.fuGateEnd slope resid) s = .next (fuGateEnd slope resid s) :=
  effect_of_wf (by simp only [Instr.wf]; simp [hresid]; omega) (fuGateEnd slope resid) s

/-- Slope and residual of an accepted gate are taken as the ratio. -/
def State.ratioTaken (s : State) (slope resid : Nat) : State :=
  (((s.set CX_FU_STATUS_resid resid).set CX_FU_RATIO_LO_ratio_lo slope).set CX_FU_RATIO_HI_ratio_hi
    (slope / 2 ^ 32)).set CX_FU_RATIO_HI_valid 1

/-- Only a gate of at least 1,000 ms keeps machine time qualified. -/
def State.gateLong (s : State) (long : Bool) : State :=
  State.iff { s with mt := { s.mt with longGate := long } } (!long) fun s => s.set CX_MT_STATUS_qualified 0

theorem State.gateLong_get (s : State) (long : Bool) {f : Fld} (h : f.key ≠ CX_MT_STATUS_qualified.key) :
    (s.gateLong long).get f = s.get f := by
  cases long <;> simp [State.gateLong, State.get_set_ne _ h]

theorem State.gateLong_frame (s : State) (long : Bool) :
    Frame [.mt] [CX_MT_STATUS_qualified] s (s.gateLong long) :=
  Frame.iff (Frame.with_mt (Frame.refl _ _ s) _ (by decide)) fun _ hu => hu.set _ _ (by decide)

theorem State.gateStart_frame (s : State) : Frame [.mt] [] s s.gateStart :=
  Frame.with_mt (Frame.refl _ _ s) _ (by decide)

theorem fuGateEnd_of_accepted {s : State} {slope resid : Nat} (hstate : s.get CX_MT_STATUS_state = 1)
    (href : s.on CX_ARCH_STATUS_mgmt_backup = false) (hresid : resid ≤ s.get CX_FU_CTRL_resid_lim)
    (hmark : s.mt.gateBad = false) (hready : s.mt.readyLost = false) :
    fuGateEnd slope resid s = ((s.ratioTaken slope resid).gateLong (decide (1000 ≤ s.mt.gateMs))).gateStart := by
  have hok : (decide (resid ≤ s.get CX_FU_CTRL_resid_lim) && !s.mt.gateBad && !s.mt.readyLost) = true := by
    simp [hresid, hmark, hready]
  rw [fuGateEnd, if_pos ⟨hstate, href⟩]
  simp only [hok, if_true]
  rfl

theorem fuGateEnd_of_rejected {s : State} {slope resid : Nat} (hstate : s.get CX_MT_STATUS_state = 1)
    (href : s.on CX_ARCH_STATUS_mgmt_backup = false)
    (hbad : s.get CX_FU_CTRL_resid_lim < resid ∨ s.mt.gateBad = true) : fuGateEnd slope resid s =
      (((s.set CX_FU_STATUS_resid resid).count CX_FU_STATUS_rejected).raise 54).gateStart := by
  have hok : (decide (resid ≤ s.get CX_FU_CTRL_resid_lim) && !s.mt.gateBad && !s.mt.readyLost) = false := by
    rcases hbad with h | h
    · rw [decide_eq_false (by omega)]; rfl
    · simp [h]
  simp [fuGateEnd, hstate, href, hok]

theorem State.ratioTaken_frame (s : State) (slope resid : Nat) : Frame [.mt]
    [CX_FU_RATIO_LO_ratio_lo, CX_FU_RATIO_HI_ratio_hi, CX_FU_RATIO_HI_valid, CX_FU_STATUS_resid,
      CX_MT_STATUS_qualified] s (s.ratioTaken slope resid) :=
  ((((Frame.refl _ _ s).set _ _ (by decide)).set _ _ (by decide)).set _ _ (by decide)).set _ _ (by decide)

theorem exec_mtQualified (s : State) : exec .mtQualified s = .next (mtQualified s) := effect_of_wf rfl mtQualified s

/-- Settles O15: each clause is what its operation does in the case the clause names. -/
theorem markerMismatchesAndFrequencyGates : Obligations.MarkerMismatchesAndFrequencyGates := by
  unfold Obligations.MarkerMismatchesAndFrequencyGates
  refine ⟨?first, ?third, ?accepted, ?rejected, ?latched, ?qualified⟩
  case first =>
    intro s k hpos hk hstate hsrc hnew
    refine ⟨_, exec_orbitMarkerMismatch hpos hk s, ?_⟩
    rw [orbitMarkerMismatch_of_new hstate hsrc hnew, State.markerCounted_mt]
    exact ⟨s.markerCounted_count k 1, s.markerCounted_offset hk 1, rfl, rfl, s.markerCounted_frame k 1⟩
  case third =>
    intro s k hpos hk hnb hstate hsrc hsame htwo hfirst
    refine ⟨_, exec_orbitMarkerMismatch hpos (by omega) s, ?_⟩
    rw [orbitMarkerMismatch_of_third hstate hsrc hsame htwo]
    have hmark := s.markerCounted_frame k 3
    have hcount := s.markerCounted_count k 3
    have hfirst' : (s.markerCounted k 3).on CX_MT_STATUS_holdover = false := by
      rw [State.on, hmark.get (by decide)]; exact hfirst
    generalize s.markerCounted k 3 = t at hmark hcount hfirst'
    have hhold := t.enterHold_frame 3 3 false
    obtain ⟨hcause, hover⟩ := State.enterHold_first hfirst' (cause := 3) (by decide) 3 false
    have hevent := t.enterHold_event 3 3 false
    generalize t.enterHold 3 3 false = u at hhold hcause hover hevent
    have hslew := u.slewStart_frame (markerOffset s.mt.nb k * 32768)
    refine ⟨?_, u.slewStart_state _, ?_, ?_, ?_, ?_, ?_⟩
    · rw [hslew.get (by decide), hhold.get (by decide), hcount]
    · rw [hslew.get (by decide), hcause]
    · rw [hslew.get (by decide), hover]
    · simp only [State.slewStart, State.set_mt, markerOffset]
      split <;> omega
    · exact (congrArg (Sparse.has 48) (hslew.parts .evReq (by decide))).trans hevent
    · exact ((hmark.mono (by decide) (by decide)).next hhold (by decide) (by decide)).next hslew (by decide) (by decide)
  case accepted =>
    intro s slope resid hslope hresid hstate href hlim hmark hready
    refine ⟨_, exec_fuGateEnd hslope hresid s, ?_⟩
    rw [fuGateEnd_of_accepted hstate href hlim hmark hready]
    refine ⟨?_, ?_, ?_, ?_, ((s.ratioTaken_frame slope resid).next (State.gateLong_frame _ _) (by decide)
      (by decide)).next (State.gateStart_frame _) (by decide) (by decide)⟩
    all_goals rw [(State.gateStart_frame _).get (by simp), State.gateLong_get _ _ (by decide), State.ratioTaken]
    · simp (disch := decide) [State.get_set_ne, State.get_set_same]; rfl
    · simp (disch := decide) only [State.get_set_ne]
      exact State.get_set_fit _ _ (v := slope / 2 ^ 32) (by simp only [CX_FU_RATIO_HI_ratio_hi]; omega)
    · exact State.get_set_fit _ _ (by decide)
    · simp (disch := decide) only [State.get_set_ne]
      exact State.get_set_fit _ _ hresid
  case rejected =>
    intro s slope resid hslope hresid hstate href hbad
    refine ⟨_, exec_fuGateEnd hslope hresid s, ?_⟩
    rw [fuGateEnd_of_rejected hstate href hbad]
    refine ⟨?_, ?_, State.has_raise _ _ _, Frame.with_mt (Frame.raise (Frame.count (Frame.set (Frame.refl _ _ s) _ _
      (by decide)) _ 1 (by decide)) _ _ (by decide) (by decide)) _ (by decide)⟩
    · simp (disch := decide) only [State.gateStart, State.get_with_mt, State.get_raise_ne, State.get_count_same,
        State.get_set_ne]
      rfl
    · simp (disch := decide) only [State.gateStart, State.get_with_mt, State.get_raise_ne, State.get_count_ne,
        State.get_set_fit _ CX_FU_STATUS_resid hresid]
  case latched => exact fun s => effect_of_wf rfl fuRatioRead s
  case qualified =>
    intro s hready hlong hstate hvalid
    rw [exec_mtQualified]
    simp [mtQualified, hready, hlong, hstate, hvalid]

end Sys2Proof.Machine
end

section
/-! SUPPORT and PROOF. Edges of the discriminators: a hit opened, completed, overflowed, and the end of recovery (R131 to
R136, R167 to R174). -/

namespace Sys2Proof.Machine

open Sys2Proof

variable {s : State} {ch : Nat}

/-! ## What a channel's state does not touch -/

@[simp] theorem State.delivers_setChan (s : State) (ch k : Nat) (c : Chan) :
    (s.setChan ch c).delivers k = s.delivers k := rfl

@[simp] theorem State.calibrating_setChan (s : State) (ch k : Nat) (c : Chan) :
    (s.setChan ch c).calibrating k = s.calibrating k := rfl

@[simp] theorem State.pairStop_setChan (s : State) (ch k : Nat) (c : Chan) :
    (s.setChan ch c).pairStop k = s.pairStop k := rfl

@[simp] theorem State.mt_setChan (s : State) (ch : Nat) (c : Chan) : (s.setChan ch c).mt = s.mt := rfl

@[simp] theorem State.chan_setChan (s : State) (ch : Nat) (c : Chan) : (s.setChan ch c).chan ch = c :=
  s.chan_setChan_same ch c

theorem State.chan_setChan_ne (s : State) {ch k : Nat} (h : k ≠ ch) (c : Chan) :
    (s.setChan ch c).chan k = s.chan k := Sparse.get_put_ne _ _ h _ _

/-- A stop channel is the odd one of its pair. -/
theorem State.pos_of_pairStop (h : s.pairStop ch = true) : 0 < ch := by
  simp only [State.pairStop, Bool.and_eq_true, beq_iff_eq] at h
  omega

/-! ## Leading edges -/

theorem exec_leadingEdge {st : Stamp} (hch : ch < 1536) (hst : st.wf = true) (s : State) :
    exec (.discriminatorLeadingEdge ch st) s = .next (leadingEdge ch st s) :=
  effect_of_wf (by simp [Instr.wf, hch, hst]) (leadingEdge ch st) s

/-- The channel whose output has risen, before its edge is timed. -/
def State.risen (s : State) (ch : Nat) : Chan :=
  { s.chan ch with high := true, since := s.clock, lead := none, done := false, mute := !s.delivers ch }

theorem leadingEdge_of_recovery {st : Stamp} (hup : s.chUp ch = true) (hlow : (s.chan ch).high = false)
    (hrec : (s.chan ch).recov = true) : leadingEdge ch st s = s.setChan ch (s.risen ch) := by
  simp [leadingEdge, hup, hlow, hrec, State.risen]

/-- The edge as it is held until its hit is complete. -/
def State.leadOf (s : State) (ch : Nat) (st : Stamp) : Lead :=
  ⟨st.orbit, st.bucket, 16384 * st.coarse + s.binOf ch st.raw, s.dieOfs (ch / 512) + s.chOfs ch, s.chOfs ch, 0,
    if s.pairStop ch then (s.chan (ch - 1)).last else none⟩

/-- The start channel of a pair is another channel. -/
theorem State.startHit_setChan (s : State) (ch : Nat) (c : Chan) :
    (if s.pairStop ch then ((s.setChan ch c).chan (ch - 1)).last else none) =
      if s.pairStop ch then (s.chan (ch - 1)).last else none := by
  split
  next h => rw [State.chan_setChan_ne _ (by have := State.pos_of_pairStop h; omega)]
  next => rfl

theorem State.leadOf_setChan (s : State) (ch : Nat) (c : Chan) (st : Stamp) :
    (s.setChan ch c).leadOf ch st = s.leadOf ch st := congrArg (Lead.mk _ _ _ _ _ _) (s.startHit_setChan ch c)

/-- A timed edge counts in the rate window and opens a hit. -/
theorem State.timeEdge_of_delivers (hdel : s.delivers ch = true) (hinj : (s.chan ch).inj = none) (st : Stamp) :
    ∃ tab, s.timeEdge ch st 0 = (s.setChan ch { s.chan ch with win := s.rateWindow (ch / 512), edges := s.rateEdges ch + 1 }).setChan
      ch { s.chan ch with win := s.rateWindow (ch / 512), edges := s.rateEdges ch + 1, lead := some (s.leadOf ch st), tab := tab } := by
  simp only [State.timeEdge, hinj, Option.filter_none, Option.isNone_none, State.iff_true, State.delivers_setChan,
    hdel, Bool.not_true, Bool.false_eq_true, if_false, State.chan_setChan, State.pairStop_setChan,
    State.startHit_setChan]
  exact ⟨_, rfl⟩

theorem leadingEdge_of_up (hup : s.chUp ch = true) (hlow : (s.chan ch).high = false) (hrec : (s.chan ch).recov = false) (hcal : s.calibrating ch = false)
    (hrun : s.mt.running = true) (st : Stamp) :
    leadingEdge ch st s = (s.setChan ch (s.risen ch)).timeEdge ch st 0 := by
  simp [leadingEdge, hup, hlow, hrec, hcal, hrun, State.risen]

/-! ## Hits completed -/

/-- What the completion of a hit reads is not changed by the counters of its kind. -/
theorem Frame.completion {t : State} {n : Nat} (h : Frame [] (kindCounters n) s t) (ch : Nat) :
    t.mt = s.mt ∧ t.clock = s.clock ∧ (∀ a b, t.unlockedIn n a b = s.unlockedIn n a b) ∧ t.locked n = s.locked n ∧
      t.pairStop ch = s.pairStop ch ∧ t.chan ch = s.chan ch := by
  have hmt : t.mt = s.mt := h.parts .mt (by simp)
  have hclock : t.clock = s.clock := h.parts .clock (by simp)
  have hdies : t.dies = s.dies := h.parts .dies (by simp)
  have hwas : t.was = s.was := h.parts .was (by simp)
  have hstate : t.get (FE_TDC_STATUS_state n) = s.get (FE_TDC_STATUS_state n) := h.get (by
    simp only [kindCounters, List.forall_mem_cons, Fld.key, FE_CNT_NARROW_count, FE_CNT_TOTOVF_count,
      FE_CNT_STARTHIGH_count, FE_CNT_UNLOCK_count, FE_TDC_STATUS_state, List.not_mem_nil, false_implies, implies_true,
      and_true]
    omega)
  have hpair (m k : Nat) (hk : k < 8) : t.get (FE_PAIR_EN_pair m k) = s.get (FE_PAIR_EN_pair m k) := h.get (by
    simp only [kindCounters, List.forall_mem_cons, Fld.key, FE_CNT_NARROW_count, FE_CNT_TOTOVF_count,
      FE_CNT_STARTHIGH_count, FE_CNT_UNLOCK_count, FE_PAIR_EN_pair, List.not_mem_nil, false_implies, implies_true,
      and_true]
    omega)
  refine ⟨hmt, hclock, ?_, ?_, ?_, h.chan (by simp) ch⟩
  · intro a b; simp only [State.unlockedIn, State.die, hdies]
  · simp only [State.locked, hstate]
  · simp only [State.pairStop, State.asOf, hwas, hclock, hpair _ (ch % 512 / 64) (by omega)]

/-- The hit of an open edge has an edge in an invalid bucket. -/
def State.hitInvalid (s : State) (ch : Nat) (ld : Lead) (invalid : Bool) : Bool :=
  invalid || !s.locked (ch / 512) ||
    s.unlockedIn (ch / 512) (s.clockAt (ld.orbit, ld.bucket)) (s.clockAt (ld.orbit, ld.bucket))

/-- The entry of the derandomiser that a completed hit makes. -/
def hitEntry (nb ch : Nat) (ld : Lead) (tot flags : Nat) (bad : Bool) : Nat × Nat × Bool :=
  ((shiftBkt nb (ld.orbit, ld.bucket) (toaOf ld.t ld.ofs).1).1,
    hitWord ch (shiftBkt nb (ld.orbit, ld.bucket) (toaOf ld.t ld.ofs).1).2 (toaOf ld.t ld.ofs).2 tot
      (Nat.lor ld.flags flags), bad)

/-- A hit of die `n` counts by its form: narrow, overflowed, started high. -/
def State.countForms (s : State) (n : Nat) (narrow overflowed high : Bool) : State :=
  ((s.iff narrow fun s => s.count (FE_CNT_NARROW_count n)).iff overflowed fun s =>
    s.count (FE_CNT_TOTOVF_count n)).iff high fun s => s.count (FE_CNT_STARTHIGH_count n)

theorem State.countForms_unlocked (s : State) (n : Nat) (narrow overflowed high unlocked : Bool) :
    (s.countForms n narrow overflowed high).iff unlocked (fun s => s.count (FE_CNT_UNLOCK_count n)) =
      s.countKinds n narrow overflowed high unlocked := by
  unfold State.countForms State.countKinds
  rfl

theorem State.countForms_frame (s : State) (n : Nat) (narrow overflowed high : Bool) :
    Frame [] (kindCounters n) s (s.countForms n narrow overflowed high) := by
  have h := s.countKinds_frame n narrow overflowed high false
  rw [← State.countForms_unlocked, State.iff_false] at h
  exact h

theorem State.complete_steps (hplate : s.get CX_PLATE_STATUS_state = 4)
    (hbyp : s.bypassed (fRegion (regionOf ch)) = false) (ld : Lead) (tot flags : Nat) (invalid : Bool) :
    s.complete ch ld tot flags invalid =
      (let u := s.countForms (ch / 512) (tot == 0) (tot == 0xFFF) (bit ld.flags 3)
       let bad := u.hitInvalid ch ld invalid
       let v := u.iff bad fun s => s.count (FE_CNT_UNLOCK_count (ch / 512))
       let e := hitEntry v.mt.nb ch ld (if v.pairStop ch then pairTot v.mt.nb ld else tot) flags bad
       v.toFifo ch e.1 e.2.1 e.2.2 (ld.orbit, ld.bucket, (ld.t : Int) + ld.ofsL)) := by
  unfold State.complete State.countForms State.hitInvalid hitEntry
  rw [if_neg (by simp [hplate]), if_neg (by simp [hbyp])]

theorem Frame.hitInvalid {t : State} (h : Frame [] (kindCounters (ch / 512)) s t) (ld : Lead) (invalid : Bool) :
    t.hitInvalid ch ld invalid = s.hitInvalid ch ld invalid := by
  obtain ⟨hmt, hclock, hunl, hlocked, -⟩ := h.completion ch
  simp only [State.hitInvalid, State.clockAt, State.now, hmt, hclock, hunl, hlocked]

theorem State.toFifo_of_room (h : (s.chan ch).fifo.length < 8) (orbit w : Nat) (invalid : Bool)
    (last : Nat × Nat × Int) : s.toFifo ch orbit w invalid last = s.setChan ch
      { s.chan ch with fifo := (s.chan ch).fifo ++ [(orbit, w, invalid)], last := some last } :=
  if_neg (Nat.not_le.2 h)

/-- A hit that finds room is counted by its kind and joins the derandomiser. -/
theorem State.complete_of_room (hplate : s.get CX_PLATE_STATUS_state = 4)
    (hbyp : s.bypassed (fRegion (regionOf ch)) = false) (hpair : s.pairStop ch = false)
    (hroom : (s.chan ch).fifo.length < 8) (ld : Lead) (tot flags : Nat) (invalid : Bool) :
    s.complete ch ld tot flags invalid = (s.countKinds (ch / 512) (tot == 0) (tot == 0xFFF) (bit ld.flags 3)
      (s.hitInvalid ch ld invalid)).setChan ch { s.chan ch with
        fifo := (s.chan ch).fifo ++ [hitEntry s.mt.nb ch ld tot flags (s.hitInvalid ch ld invalid)]
        last := some (ld.orbit, ld.bucket, (ld.t : Int) + ld.ofsL) } := by
  have hthree := s.countForms_frame (ch / 512) (tot == 0) (tot == 0xFFF) (bit ld.flags 3)
  have hfour := s.countKinds_frame (ch / 512) (tot == 0) (tot == 0xFFF) (bit ld.flags 3) (s.hitInvalid ch ld invalid)
  obtain ⟨hmt, -, -, -, hpair', hchan⟩ := hfour.completion ch
  rw [State.complete_steps hplate hbyp]
  simp only [hthree.hitInvalid, State.countForms_unlocked]
  generalize s.countKinds (ch / 512) (tot == 0) (tot == 0xFFF) (bit ld.flags 3) (s.hitInvalid ch ld invalid) = v
    at hmt hpair' hchan
  rw [State.toFifo_of_room (by rw [hchan]; exact hroom), hmt, hpair', hpair, hchan]
  simp only [Bool.false_eq_true, if_false, Prod.mk.eta]

theorem State.get_iff_count_ne (s : State) {f g : Fld} (h : g.key ≠ f.key) (b : Bool) (n : Nat) :
    (s.iff b fun u => u.count f n).get g = s.get g := by
  cases b
  · rfl
  · exact State.get_count_ne s h n

/-- The counters of the hit's kind lie apart. -/
theorem kindCounters_apart (n : Nat) : (kindCounters n).Pairwise fun f g => f.key ≠ g.key := by
  simp only [kindCounters, List.pairwise_cons, List.forall_mem_cons, Fld.key, FE_CNT_NARROW_count,
    FE_CNT_TOTOVF_count, FE_CNT_STARTHIGH_count, FE_CNT_UNLOCK_count, List.not_mem_nil, false_implies, implies_true,
    List.Pairwise.nil, and_true]
  omega

theorem State.countKinds_unlock (s : State) (n : Nat) (narrow overflowed high unlocked : Bool) :
    (s.countKinds n narrow overflowed high unlocked).get (FE_CNT_UNLOCK_count n) =
      if unlocked then min (s.get (FE_CNT_UNLOCK_count n) + 1) 0xFFFFFFFF else s.get (FE_CNT_UNLOCK_count n) := by
  have hapart := kindCounters_apart n
  simp only [kindCounters, List.pairwise_cons, List.forall_mem_cons] at hapart
  obtain ⟨⟨-, -, hnarrow, -⟩, ⟨-, hovf, -⟩, ⟨hhigh, -⟩, -⟩ := hapart
  have hforms : (s.countForms n narrow overflowed high).get (FE_CNT_UNLOCK_count n) =
      s.get (FE_CNT_UNLOCK_count n) := by
    rw [State.countForms, State.get_iff_count_ne _ hhigh.symm, State.get_iff_count_ne _ hovf.symm,
      State.get_iff_count_ne _ hnarrow.symm]
  rw [← State.countForms_unlocked]
  cases unlocked
  · rw [State.iff_false, hforms]; rfl
  · rw [State.iff_true, State.get_count_same, hforms]; rfl

theorem State.countKinds_overflow (s : State) (n : Nat) (narrow high unlocked : Bool) :
    (s.countKinds n narrow true high unlocked).get (FE_CNT_TOTOVF_count n) =
      min (s.get (FE_CNT_TOTOVF_count n) + 1) 0xFFFFFFFF := by
  have hapart := kindCounters_apart n
  simp only [kindCounters, List.pairwise_cons, List.forall_mem_cons] at hapart
  obtain ⟨⟨hnarrow, -⟩, ⟨hhigh, hunlock, -⟩, -⟩ := hapart
  rw [State.countKinds, State.get_iff_count_ne _ hunlock, State.get_iff_count_ne _ hhigh, State.iff_true,
    State.get_count_same, State.get_iff_count_ne _ hnarrow.symm]
  rfl

/-- What a completed hit of channel `ch`, then in state `c`, leaves: it is in the derandomiser. -/
theorem State.setChan_complete (hdel : s.delivers ch = true) (hbyp : s.bypassed (fRegion (regionOf ch)) = false)
    (hpair : s.pairStop ch = false) {c : Chan} (hroom : c.fifo.length < 8) (ld : Lead) (tot flags : Nat)
    (invalid : Bool) : (s.setChan ch c).complete ch ld tot flags invalid = ((s.setChan ch c).countKinds (ch / 512)
      (tot == 0) (tot == 0xFFF) (bit ld.flags 3) (s.hitInvalid ch ld invalid)).setChan ch { c with
        fifo := c.fifo ++ [hitEntry s.mt.nb ch ld tot flags (s.hitInvalid ch ld invalid)]
        last := some (ld.orbit, ld.bucket, (ld.t : Int) + ld.ofsL) } := by
  have hinv : (s.setChan ch c).hitInvalid ch ld invalid = s.hitInvalid ch ld invalid := rfl
  have hplate : (s.setChan ch c).get CX_PLATE_STATUS_state = 4 := State.delivers_plate hdel
  rw [State.complete_of_room hplate hbyp hpair (by rw [State.chan_setChan]; exact hroom), State.chan_setChan, hinv,
    State.mt_setChan]

theorem State.setChan_countKinds_frame (s : State) (ch : Nat) (c c' : Chan) (narrow overflowed high unlocked : Bool) :
    Frame [.chans] (kindCounters (ch / 512)) s
      (((s.setChan ch c).countKinds (ch / 512) narrow overflowed high unlocked).setChan ch c') :=
  (((s.setChan_frame ch c).mono (by simp) (by simp)).next (State.countKinds_frame _ _ _ _ _ _) (by simp)
    (by simp)).next (State.setChan_frame _ ch c') (by simp) (by simp)

/-- A hit that is not narrow leaves the count of the narrow ones. -/
theorem State.setChan_countKinds_wide (s : State) (ch : Nat) (c c' : Chan) (overflowed high unlocked : Bool) :
    Frame [.chans] [FE_CNT_TOTOVF_count (ch / 512), FE_CNT_STARTHIGH_count (ch / 512), FE_CNT_UNLOCK_count (ch / 512)]
      s (((s.setChan ch c).countKinds (ch / 512) false overflowed high unlocked).setChan ch c') := by
  rw [State.countKinds, State.iff_false]
  exact Frame.with_chans (Frame.iff (Frame.iff (Frame.iff (Frame.with_chans (Frame.refl _ _ s) _ (by decide))
    fun _ hu => hu.count _ 1 (by simp)) fun _ hu => hu.count _ 1 (by simp)) fun _ hu => hu.count _ 1 (by simp)) _
    (by decide)

/-- A trailing edge completes the hit of the open leading edge. -/
theorem trailingEdge_completes {ld : Lead} (hup : s.chUp ch = true) (hrun : s.mt.running = true)
    (hhigh : (s.chan ch).high = true) (hlead : (s.chan ch).lead = some ld) (htab : (s.chan ch).tab = none)
    (st : Stamp) (overload narrow invalid : Bool) : trailingEdge ch st overload narrow invalid s =
      (s.setChan ch (s.chan ch).ended).complete ch ld (if narrow then 0 else (totOf (diffBkt s.mt.nb
        (st.orbit, st.bucket) (ld.orbit, ld.bucket) * 524288 + ((16384 * st.coarse + s.binOf ch st.raw : Nat) : Int) -
        (ld.t : Int))).1) (if narrow then 4 else if overload then 1 else 0) invalid := by
  have hflags : b2n narrow * 4 + b2n (overload && !narrow) = if narrow then 4 else if overload then 1 else 0 := by
    cases narrow <;> cases overload <;> rfl
  have hbin (c : Chan) : (s.setChan ch c).binOf ch st.raw = s.binOf ch st.raw := rfl
  rw [trailingEdge, if_neg (by simp [hup, hhigh])]
  simp only [hlead, htab, State.mt_setChan, hrun, Option.filter_some, Option.isSome_some, Bool.or_true, if_true,
    hflags, hbin, Chan.ended]

/-! ## The end of recovery -/

theorem exec_recoveryEnd {lost : Nat} {st : Stamp} (hch : ch < 1536) (hst : st.wf = true) (beyond : Bool) (s : State) :
    exec (.recoveryEnd ch beyond lost st) s = .next (recoveryEnd ch beyond lost st s) :=
  effect_of_wf (by simp [Instr.wf, hch, hst]) (recoveryEnd ch beyond lost st) s

/-- The registers that show the pulses lost in recovery. -/
def recoveryFields (ch : Nat) : List Fld :=
  [FE_CH_STAT_recov_lost (ch / 512) (ch % 512), FE_CNT_RECOV_count (ch / 512), FE_STATUS_recov_lost (ch / 512),
    MG_EVLOG_merged]

theorem recoveryFields_apart (ch : Nat) : (recoveryFields ch).Pairwise fun f g => f.key ≠ g.key := by
  simp only [recoveryFields, List.pairwise_cons, List.forall_mem_cons, Fld.key, FE_CH_STAT_recov_lost,
    FE_CNT_RECOV_count, FE_STATUS_recov_lost, MG_EVLOG_merged, List.not_mem_nil, false_implies, implies_true,
    List.Pairwise.nil, and_true]
  omega

/-- The pulses lost in the recovery of channel `ch` are counted. -/
def State.recoveryLost (s : State) (ch lost : Nat) : State :=
  ((s.count (FE_CH_STAT_recov_lost (ch / 512) (ch % 512)) lost).count (FE_CNT_RECOV_count (ch / 512)) lost).flag
    (FE_STATUS_recov_lost (ch / 512)) (feSrc (ch / 512) 2)

theorem State.recoveryLost_frame (s : State) (ch lost : Nat) :
    Frame [.evReq] (recoveryFields ch) s (s.recoveryLost ch lost) :=
  (((Frame.refl _ _ s).count _ _ (by simp [recoveryFields])).count _ _ (by simp [recoveryFields])).flag _ _ _
    (by decide) (by simp [recoveryFields]) (by simp [recoveryFields])

theorem State.recoveryLost_counts (s : State) (ch lost : Nat) :
    (s.recoveryLost ch lost).get (FE_CH_STAT_recov_lost (ch / 512) (ch % 512)) =
      min (s.get (FE_CH_STAT_recov_lost (ch / 512) (ch % 512)) + lost) 255 ∧
    (s.recoveryLost ch lost).get (FE_CNT_RECOV_count (ch / 512)) =
      min (s.get (FE_CNT_RECOV_count (ch / 512)) + lost) 0xFFFFFFFF := by
  have hapart := recoveryFields_apart ch
  simp only [recoveryFields, List.pairwise_cons, List.forall_mem_cons] at hapart
  obtain ⟨⟨hlostCount, hlostFlag, hlostMerged, -⟩, ⟨hcountFlag, hcountMerged, -⟩, -⟩ := hapart
  refine ⟨?_, ?_⟩
  · rw [State.recoveryLost, State.get_flag_ne _ hlostFlag hlostMerged, State.get_count_ne _ hlostCount,
      State.get_count_same]
    rfl
  · rw [State.recoveryLost, State.get_flag_ne _ hcountFlag hcountMerged, State.get_count_same,
      State.get_count_ne _ hlostCount.symm]
    rfl

theorem recoveryEnd_of_low {lost : Nat} (hup : s.chUp ch = true) (hdel : s.delivers ch = true)
    (hbyp : s.bypassed (fRegion (regionOf ch)) = false) (hrec : (s.chan ch).recov = true) (hlost : 0 < lost)
    (st : Stamp) : ∃ c : Chan, c.recov = false ∧ c.high = false ∧
      recoveryEnd ch false lost st s = (s.setChan ch c).recoveryLost ch lost := by
  have hcounts (c : Chan) : (s.setChan ch c).counts ch = true := by
    have hbyp' : (s.setChan ch c).bypassed (fRegion (regionOf ch)) = false := hbyp
    simp [State.counts, hdel, hbyp']
  rw [recoveryEnd, if_neg (by simp [hup, hrec])]
  simp only [hcounts, hlost, decide_true, Bool.and_true, Bool.false_and, State.iff_true, Bool.false_eq_true, if_false]
  exact ⟨_, rfl, rfl, rfl⟩

/-- Settles O17: each clause is what its operation does to the channel, its derandomiser and the counters. -/
theorem discriminatorEdgesTimeHits : Obligations.DiscriminatorEdgesTimeHits := by
  unfold Obligations.DiscriminatorEdgesTimeHits
  refine ⟨?leading, ?recovering, ?trailing, ?overflow, ?recovered⟩
  case leading =>
    intro s ch st hch hst hup hdel hlow hrec hcal hrun hinj
    refine ⟨_, exec_leadingEdge hch hst s, ?_⟩
    rw [leadingEdge_of_up hup hlow hrec hcal hrun]
    have hinj' : ((s.setChan ch (s.risen ch)).chan ch).inj = none := by rw [State.chan_setChan]; exact hinj
    obtain ⟨tab, heq⟩ := State.timeEdge_of_delivers (s := s.setChan ch (s.risen ch)) (ch := ch) hdel hinj' st
    have hedges : (s.setChan ch (s.risen ch)).rateEdges ch = s.rateEdges ch := by
      simp only [State.rateEdges, State.chan_setChan]; rfl
    rw [heq, State.leadOf_setChan, hedges]
    simp only [State.chan_setChan]
    exact ⟨rfl, rfl, rfl, trivial, rfl, ((s.setChan_frame _ _).trans (State.setChan_frame _ _ _)).trans
      (State.setChan_frame _ _ _)⟩
  case recovering =>
    intro s ch st hch hst hup hlow hrec
    rw [exec_leadingEdge hch hst, leadingEdge_of_recovery hup hlow hrec, State.risen]
  case trailing =>
    intro s ch st overload narrow invalid ld hch hst hup hdel hbyp hrun hpair hhigh hlead htab hroom
    refine ⟨_, exec_trailingEdge hch hst overload narrow invalid s, ?_⟩
    rw [trailingEdge_completes hup hrun hhigh hlead htab,
      State.setChan_complete hdel hbyp hpair (c := (s.chan ch).ended) hroom, State.chan_setChan]
    exact ⟨rfl, rfl, rfl, rfl, State.countKinds_unlock _ _ _ _ _ _, State.setChan_countKinds_frame _ _ _ _ _ _ _ _⟩
  case overflow =>
    intro s ch overload invalid ld hch hup hdel hbyp hrun hpair hlead hroom
    refine ⟨_, exec_totOverflow hch hrun overload invalid, ?_⟩
    rw [totOverflow_of_open hlead, State.setChan_complete hdel hbyp hpair
      (c := (s.chan ch).overflowed) hroom, State.chan_setChan]
    refine ⟨?_, rfl, rfl, State.countKinds_unlock _ _ _ _ _ _, State.countKinds_overflow _ _ _ _ _, ?_⟩
    · cases overload <;> rfl
    · exact s.setChan_countKinds_wide ch _ _ _ _ _
  case recovered =>
    intro s ch lost st hch hst hup hdel hbyp hrec hlost
    refine ⟨_, exec_recoveryEnd hch hst false s, ?_⟩
    obtain ⟨c, hrecov, hhigh, heq⟩ := recoveryEnd_of_low hup hdel hbyp hrec hlost st
    have hframe := (s.setChan ch c).recoveryLost_frame ch lost
    obtain ⟨hcount, hdie⟩ := (s.setChan ch c).recoveryLost_counts ch lost
    rw [heq, hframe.chan (by decide), State.chan_setChan]
    exact ⟨hrecov, hhigh, hcount, hdie, ((s.setChan_frame ch c).mono (by decide) (by simp)).next hframe (by decide)
      (by simp [recoveryFields])⟩

end Sys2Proof.Machine
end

section
/-! SUPPORT and PROOF. The oven reference: ready, ready lost and the heater fault (R107 to R109). -/

namespace Sys2Proof.Machine

open Sys2Proof

variable {s : State}

/-- The warm-up time is noted unless ready has been lost before. -/
def State.warmNoted (s : State) : State := if s.mt.readyLost then s else s.draw.2.set OVN_STATUS_warm_s s.draw.1.toNat

theorem State.warmNoted_warm (h : s.mt.readyLost = true) : s.warmNoted = s := if_pos h

theorem State.warmNoted_frame (s : State) : Frame [.free] [OVN_STATUS_warm_s] s s.warmNoted :=
  Frame.ite (Frame.refl _ _ s) (Frame.set (Frame.with_free (Frame.refl _ _ s) _ (by decide)) _ _ (by decide))

/-- Ready is shown, with age 0. -/
def State.readyShown (s : State) : State :=
  ((State.set { s with mt := { s.mt with ovnRdyPin := true, readyLost := false } } OVN_STATUS_ready 1).set
    OVN_STATUS_ready_age 0).raise 496

theorem ovnReady_of_cold (hfault : s.on OVN_STATUS_heater_fault = false) (hready : s.on OVN_STATUS_ready = false) :
    ovnReady s = s.warmNoted.readyShown := by
  rw [ovnReady, if_neg (by simp [hfault, hready])]
  rfl

theorem ovnReady_of_fault (h : s.on OVN_STATUS_heater_fault = true) : ovnReady s = s := if_pos (by simp [h])

theorem State.readyShown_frame (s : State) : Frame [.mt, .evReq]
    [OVN_STATUS_ready, OVN_STATUS_ready_age, MG_EVLOG_merged] s s.readyShown :=
  (((Frame.with_mt (Frame.refl _ _ s) _ (by decide)).set _ _ (by decide)).set _ _ (by decide)).raise _ _ (by decide)
    (by decide)

theorem ovnReadyLost_of_ready (h : s.on OVN_STATUS_ready = true) : ovnReadyLost s =
    ((((State.set { s with mt := { s.mt with ovnRdyPin := false, readyLost := true } } OVN_STATUS_ready 0).set
      OVN_STATUS_ready_age 0).set CX_MT_STATUS_qualified 0).raise 497) := if_pos h

theorem ovnReadyLost_of_other (h : s.on OVN_STATUS_ready = false) : ovnReadyLost s = s := if_neg (by simp [h])

/-- The heater is off, with its fault latched. -/
def State.heaterOff (s : State) : State :=
  ((s.set OVN_STATUS_heater_fault 1).set OVN_STATUS_heater 0).raise 498

theorem State.heaterOff_on (s : State) : s.heaterOff.on OVN_STATUS_ready = s.on OVN_STATUS_ready := by
  simp (disch := decide) only [State.on, State.heaterOff, State.get_raise_ne, State.get_set_ne]

theorem State.heaterOff_event (s : State) : Sparse.has 498 s.heaterOff.evReq = true := State.has_raise ..

theorem ovnHeaterFault_of_good (h : s.on OVN_STATUS_heater_fault = false) :
    ovnHeaterFault s = ovnReadyLost s.heaterOff := if_neg (by simp [h])

theorem exec_ovnReady (s : State) : exec .ovnReady s = .next (ovnReady s) := effect_of_wf rfl ovnReady s

theorem exec_ovnReadyLost (s : State) : exec .ovnReadyLost s = .next (ovnReadyLost s) := effect_of_wf rfl ovnReadyLost s

theorem exec_ovnHeaterFault (s : State) : exec .ovnHeaterFault s = .next (ovnHeaterFault s) :=
  effect_of_wf rfl ovnHeaterFault s

/-- Settles O16: each clause is what its operation does in the case the clause names. -/
theorem ovenReferenceReadyAndFaults : Obligations.OvenReferenceReadyAndFaults := by
  unfold Obligations.OvenReferenceReadyAndFaults
  refine ⟨?ready, ?blocked, ?lost, ?faultCold, ?faultReady⟩
  case ready =>
    intro s hfault hready
    refine ⟨_, exec_ovnReady s, ?_⟩
    rw [ovnReady_of_cold hfault hready]
    refine ⟨?_, ?_, ?_, State.has_raise _ _ _, fun hlost => ?_,
      (s.warmNoted_frame.mono (by decide) (by decide)).next (State.readyShown_frame _) (by decide) (by decide)⟩
    · simp (disch := decide) [State.readyShown, State.get_raise_ne, State.get_set_ne, State.get_set_fit]
    · simp (disch := decide) [State.readyShown, State.get_raise_ne, State.get_set_fit]
    · simp [State.readyShown]
    · rw [State.warmNoted_warm hlost, s.readyShown_frame.get (by decide)]
  case blocked =>
    intro s hfault
    rw [exec_ovnReady, ovnReady_of_fault hfault]
  case lost =>
    intro s hready
    rw [exec_ovnReadyLost, ovnReadyLost_of_ready hready]
  case faultCold =>
    intro s hfault hready
    rw [exec_ovnHeaterFault, ovnHeaterFault_of_good hfault,
      ovnReadyLost_of_other (s.heaterOff_on.trans hready), State.heaterOff]
  case faultReady =>
    intro s hfault hready
    refine ⟨_, exec_ovnHeaterFault s, ?_⟩
    rw [ovnHeaterFault_of_good hfault, ovnReadyLost_of_ready (s.heaterOff_on.trans hready)]
    refine ⟨?_, ?_, ?_, State.has_raise _ _ _, State.has_raise_of_has (by exact s.heaterOff_event) _ _, ?_⟩
    · simp (disch := decide) [State.heaterOff, State.get_raise_ne, State.get_set_ne, State.get_set_fit]
    · simp (disch := decide) [State.get_raise_ne, State.get_set_ne, State.get_set_fit]
    · simp (disch := decide) [State.get_raise_ne, State.get_set_fit]
    · exact ((((Frame.with_mt ((((Frame.refl _ _ s).set _ _ (by decide)).set _ _ (by decide)).raise _ _ (by decide)
        (by decide)) _ (by decide)).set _ _ (by decide)).set _ _ (by decide)).set _ _ (by decide)).raise _ _ (by decide)
        (by decide)

end Sys2Proof.Machine
end

section
/-! SUPPORT and PROOF. The rate guard masks channels and lets them go; the settings of a channel (R127, R139 to R142). -/

namespace Sys2Proof.Machine

open Sys2Proof

variable {s : State} {ch : Nat}

/-! ## A channel masked -/

/-- The registers that a channel masked by the guard changes. -/
def autoMaskFields (ch : Nat) : List Fld :=
  [FE_AUTOMASK_row (ch / 512) (ch % 512 / 32), FE_CH_STAT_automasked (ch / 512) (ch % 512),
    FE_CH_STAT_cause (ch / 512) (ch % 512), FE_STATUS_automask (ch / 512), MG_EVLOG_merged]

theorem autoMaskFields_apart (ch : Nat) : (autoMaskFields ch).Pairwise fun f g => f.key ≠ g.key := by
  simp only [autoMaskFields, List.pairwise_cons, List.forall_mem_cons, Fld.key, FE_AUTOMASK_row,
    FE_CH_STAT_automasked, FE_CH_STAT_cause, FE_STATUS_automask, MG_EVLOG_merged, List.not_mem_nil, false_implies,
    implies_true, List.Pairwise.nil, and_true]
  omega

/-- The bit of channel `ch` is set, with its cause. -/
def State.maskShown (s : State) (ch cause : Nat) : State :=
  (((s.keepOld [FE_AUTOMASK_row (ch / 512) (ch % 512 / 32)] 1).set (FE_AUTOMASK_row (ch / 512) (ch % 512 / 32))
    (Nat.lor (s.get (FE_AUTOMASK_row (ch / 512) (ch % 512 / 32))) (2 ^ (ch % 32)))).set
    (FE_CH_STAT_automasked (ch / 512) (ch % 512)) 1).set (FE_CH_STAT_cause (ch / 512) (ch % 512)) cause

/-- What the registers show of a channel masked with cause `cause`. -/
structure MaskedWith (ch cause : Nat) (s t : State) : Prop where
  row : t.get (FE_AUTOMASK_row (ch / 512) (ch % 512 / 32)) =
    Nat.lor (s.get (FE_AUTOMASK_row (ch / 512) (ch % 512 / 32))) (2 ^ (ch % 32)) % 2 ^ 32
  automasked : t.get (FE_CH_STAT_automasked (ch / 512) (ch % 512)) = 1
  cause : t.get (FE_CH_STAT_cause (ch / 512) (ch % 512)) = cause
  event : Sparse.has (256 + 48 * (ch / 512)) t.evReq = true
  frame : Frame [.evReq, .was] (autoMaskFields ch) s t

theorem State.maskShown_masked (h : s.on (FE_STATUS_automask (ch / 512)) = false) {cause : Nat} (hcause : cause < 4) :
    MaskedWith ch cause s ((s.maskShown ch cause).flag (FE_STATUS_automask (ch / 512)) (feSrc (ch / 512) 0)) := by
  have hapart := autoMaskFields_apart ch
  simp only [autoMaskFields, List.pairwise_cons, List.forall_mem_cons] at hapart
  obtain ⟨⟨hrowMask, hrowCause, hrowFlag, hrowMerged, -⟩, ⟨hmaskCause, hmaskFlag, hmaskMerged, -⟩,
    ⟨hcauseFlag, hcauseMerged, -⟩, -⟩ := hapart
  have hoff : (s.maskShown ch cause).on (FE_STATUS_automask (ch / 512)) = false := by
    simp only [State.on, State.maskShown, State.get_set_ne _ hrowFlag.symm, State.get_set_ne _ hmaskFlag.symm,
      State.get_set_ne _ hcauseFlag.symm, State.keepOld_get]
    exact h
  refine ⟨?row, ?automasked, ?cause, ?event, ?frame⟩
  case row =>
    rw [State.get_flag_ne _ hrowFlag hrowMerged, State.maskShown, State.get_set_ne _ hrowCause,
      State.get_set_ne _ hrowMask, State.get_set_same]
    rfl
  case automasked =>
    rw [State.get_flag_ne _ hmaskFlag hmaskMerged, State.maskShown, State.get_set_ne _ hmaskCause]
    exact State.get_set_fit _ _ (v := 1) (by simp [FE_CH_STAT_automasked])
  case cause =>
    rw [State.get_flag_ne _ hcauseFlag hcauseMerged, State.maskShown]
    exact State.get_set_fit _ _ hcause
  case event =>
    rw [State.flag_of_off hoff]
    exact State.has_raise _ _ _
  case frame =>
    exact ((((Frame.keepOld (Frame.refl _ _ s) _ 1 (by decide)).set _ _ (by simp [autoMaskFields])).set _ _
      (by simp [autoMaskFields])).set _ _ (by simp [autoMaskFields])).flag _ _ _ (by decide) (by simp [autoMaskFields])
      (by simp [autoMaskFields])

theorem exec_stuckDetected (hch : ch < 1536) (hrun : s.mt.running = true) :
    exec (.stuckDetected ch) s = .next (stuckDetected ch s) :=
  effectMs_of_running (c := .stuckDetected ch) (decide_eq_true hch) hrun _

theorem exec_rateLimitExceeded (hch : ch < 1536) (hrun : s.mt.running = true) :
    exec (.rateLimitExceeded ch) s = .next (rateLimitExceeded ch s) :=
  effectMs_of_running (c := .rateLimitExceeded ch) (decide_eq_true hch) hrun _

theorem State.maskShown_chan (s : State) (ch cause k : Nat) : (s.maskShown ch cause).chan k = s.chan k := by
  unfold State.maskShown State.keepOld
  split <;> rfl

/-- A channel without an open leading edge completes no hit when it is masked. -/
theorem State.autoMask_of_closed (h : (s.chan ch).lead = none) (cause : Nat) : s.autoMask ch cause =
    (s.maskShown ch cause).flag (FE_STATUS_automask (ch / 512)) (feSrc (ch / 512) 0) := by
  have hmod : ch % 512 % 32 = ch % 32 := by omega
  have hclosed : (s.maskShown ch cause).overflow ch false false = s.maskShown ch cause := by
    rw [State.overflow, State.maskShown_chan, h]
  simp only [State.maskShown] at hclosed ⊢
  simp only [State.autoMask, hmod, State.keepOld_get, hclosed]

theorem stuckDetected_of_stuck (hup : s.chUp ch = true) (hhigh : (s.chan ch).high = true)
    (hlim : s.get (FE_GUARD_stuck_lim (ch / 512)) ≠ 0)
    (hlong : s.get (FE_GUARD_stuck_lim (ch / 512)) * 8 ≤ s.clock - (s.chan ch).since)
    (hmask : s.autoMasked ch = false) : stuckDetected ch s = s.autoMask ch 1 := if_pos (by
  simp [hup, hhigh, hlim, hlong, hmask])

theorem rateLimitExceeded_of_fast (hup : s.chUp ch = true) (hlim : s.get (FE_GUARD_rate_lim (ch / 512)) ≠ 0)
    (hfast : s.get (FE_GUARD_rate_lim (ch / 512)) < s.rateEdges ch) (hmask : s.autoMasked ch = false) :
    rateLimitExceeded ch s =
      (s.maskShown ch 2).flag (FE_STATUS_automask (ch / 512)) (feSrc (ch / 512) 0) := by
  have hmod : ch % 512 % 32 = ch % 32 := by omega
  unfold rateLimitExceeded
  rw [if_pos (by simp [hup, hlim, hfast, hmask])]
  simp only [hmod, State.keepOld_get, State.maskShown]

/-! ## Masks cleared -/

/-- The bit of channel `32 k + r` of the die is cleared, with the edges counted. -/
def State.unmaskChan (die k : Nat) (s : State) (r : Nat) : State :=
  (s.set (FE_CH_STAT_automasked die (k * 32 + r)) 0).setChan (die * 512 + k * 32 + r)
    { s.chan (die * 512 + k * 32 + r) with edges := 0 }

theorem automaskClear_eq (die k mask : Nat) (s : State) : automaskClear die k mask s =
    ((s.keepOld [FE_AUTOMASK_row die k] 1).set (FE_AUTOMASK_row die k) (Nat.xor (s.get (FE_AUTOMASK_row die k))
      (Nat.land (s.get (FE_AUTOMASK_row die k)) mask))).each ((List.range 32).filter fun r =>
        bit (s.get (FE_AUTOMASK_row die k)) r && bit mask r) (State.unmaskChan die k) := rfl

theorem State.unmaskChan_get_ne {f : Fld} {die k r : Nat} (h : f.key ≠ (FE_CH_STAT_automasked die (k * 32 + r)).key) (s : State) :
    (s.unmaskChan die k r).get f = s.get f := State.get_set_ne s h 0

theorem automasked_key_ne (die k : Nat) {i j : Nat} (h : i ≠ j) :
    (FE_CH_STAT_automasked die (k * 32 + i)).key ≠ (FE_CH_STAT_automasked die (k * 32 + j)).key := by
  simp only [Fld.key, FE_CH_STAT_automasked]
  omega

/-- The channels of a list are let go, the others keep their bits. -/
theorem State.each_unmaskChan_get {die k : Nat} {l : List Nat} {s : State} (j : Nat) :
    (s.each l (State.unmaskChan die k)).get (FE_CH_STAT_automasked die (k * 32 + j)) =
      if j ∈ l then 0 else s.get (FE_CH_STAT_automasked die (k * 32 + j)) := by
  induction l generalizing s with
  | nil => rfl
  | cons r l ih =>
    rw [State.each_cons, ih]
    by_cases hl : j ∈ l
    · simp [hl]
    · by_cases hr : j = r
      · subst hr
        rw [if_neg hl, if_pos (by simp)]
        exact State.get_set_fit _ _ (Nat.two_pow_pos _)
      · rw [if_neg hl, if_neg (by simp [hl, hr]), State.unmaskChan_get_ne (automasked_key_ne die k hr)]

/-- The registers that a write to a row of FE_AUTOMASK changes. -/
def automaskRow (die k : Nat) : List Fld :=
  FE_AUTOMASK_row die k :: (List.range 32).map fun r => FE_CH_STAT_automasked die (k * 32 + r)

theorem automasked_mem_row {die k r : Nat} (h : r < 32) :
    (FE_CH_STAT_automasked die (k * 32 + r)).key ∈ (automaskRow die k).map Fld.key :=
  List.mem_map_of_mem (.tail _ (List.mem_map.2 ⟨r, List.mem_range.2 h, rfl⟩))

theorem automaskClear_frame (die k mask : Nat) (s : State) :
    Frame [.chans, .was] (automaskRow die k) s (automaskClear die k mask s) := by
  rw [automaskClear_eq]
  refine Frame.each (((Frame.refl _ _ s).keepOld _ 1 (by decide)).set _ _ (List.mem_map_of_mem (.head _))) fun u r hr hu => ?_
  have hlt : r < 32 := List.mem_range.1 (List.mem_filter.1 hr).1
  exact (hu.set _ 0 (automasked_mem_row hlt)).with_chans _ (by decide)

theorem automask_row_key_ne (die k r : Nat) :
    (FE_AUTOMASK_row die k).key ≠ (FE_CH_STAT_automasked die (k * 32 + r)).key := by
  simp only [Fld.key, FE_AUTOMASK_row, FE_CH_STAT_automasked]
  omega

theorem automaskClear_row (die k mask : Nat) (s : State) :
    (automaskClear die k mask s).get (FE_AUTOMASK_row die k) = Nat.xor (s.get (FE_AUTOMASK_row die k))
      (Nat.land (s.get (FE_AUTOMASK_row die k)) mask) % 2 ^ 32 := by
  have heach (l : List Nat) (t : State) :
      (t.each l (State.unmaskChan die k)).get (FE_AUTOMASK_row die k) = t.get (FE_AUTOMASK_row die k) := by
    induction l generalizing t with
    | nil => rfl
    | cons r l ih => rw [State.each_cons, ih, State.unmaskChan_get_ne (automask_row_key_ne die k r)]
  rw [automaskClear_eq, heach, State.get_set_same]
  rfl

theorem automaskClear_bits (die k mask : Nat) (s : State) {r : Nat} (hr : r < 32) :
    (automaskClear die k mask s).get (FE_CH_STAT_automasked die (k * 32 + r)) =
      if bit (s.get (FE_AUTOMASK_row die k)) r && bit mask r then 0
      else s.get (FE_CH_STAT_automasked die (k * 32 + r)) := by
  rw [automaskClear_eq, State.each_unmaskChan_get, State.get_set_ne _ (automask_row_key_ne die k r).symm,
    State.keepOld_get]
  simp [hr]

/-! ## Settings of a channel -/

/-- The settings of channel `l` of a die. -/
def settingFields (die l : Nat) : List Fld :=
  [FE_CH_CFG_inj_set die l, FE_CH_CFG_inj_en die l, FE_CH_CFG_mask die l, FE_CH_CFG_slope die l, FE_CH_CFG_trim die l,
    FE_CH_CFG_threshold die l]

theorem State.keepOldFe_frame (s : State) (fs : List Fld) : Frame [.was, .free] [] s (s.keepOldFe fs) :=
  Frame.ite (Frame.keepOld (Frame.with_free (Frame.refl _ _ s) _ (by decide)) _ _ (by decide)) (Frame.refl _ _ s)

theorem channelConfigWrite_frame (die l v : Nat) (s : State) :
    Frame [.was, .free] (settingFields die l) s (channelConfigWrite die l v s) :=
  (((((((s.keepOldFe_frame _).mono (by simp) (by simp)).set _ _ (by simp [settingFields])).set _ _
    (by simp [settingFields])).set _ _ (by simp [settingFields])).set _ _ (by simp [settingFields])).set _ _
    (by simp [settingFields])).set _ _ (by simp [settingFields])

theorem settingFields_apart (die l : Nat) : (settingFields die l).Pairwise fun f g => f.key ≠ g.key := by
  simp only [settingFields, List.pairwise_cons, List.forall_mem_cons, Fld.key, FE_CH_CFG_inj_set, FE_CH_CFG_inj_en,
    FE_CH_CFG_mask, FE_CH_CFG_slope, FE_CH_CFG_trim, FE_CH_CFG_threshold, List.not_mem_nil, false_implies,
    implies_true, List.Pairwise.nil, and_true]
  omega

/-- Settles O18: the guard masks by its limits, a write of a row lets go, and a setting is stored field by field. -/
theorem rateGuardAndChannelSettings : Obligations.RateGuardAndChannelSettings := by
  unfold Obligations.RateGuardAndChannelSettings
  refine ⟨?stuck, ?rate, ?clear, ?setting⟩
  case stuck =>
    intro s ch hch hup hhigh hlead hlim hlong hrun hmask hflag
    refine ⟨_, exec_stuckDetected hch hrun, ?_⟩
    rw [stuckDetected_of_stuck hup hhigh hlim hlong hmask, State.autoMask_of_closed hlead]
    obtain ⟨hrow, hshown, hcause, hevent, hframe⟩ := State.maskShown_masked hflag (cause := 1) (by decide)
    exact ⟨hrow, hshown, hcause, hevent, hframe⟩
  case rate =>
    intro s ch hch hup hlim hfast hrun hmask hflag
    refine ⟨_, exec_rateLimitExceeded hch hrun, ?_⟩
    rw [rateLimitExceeded_of_fast hup hlim hfast hmask]
    obtain ⟨hrow, hshown, hcause, hevent, hframe⟩ := State.maskShown_masked hflag (cause := 2) (by decide)
    exact ⟨hrow, hshown, hcause, hevent, hframe⟩
  case clear =>
    intro s die k mask hdie hk hmask
    refine ⟨_, effect_of_wf (by simp [Instr.wf, hdie, hk]; omega) (automaskClear die k mask) s,
      automaskClear_row die k mask s, List.all_eq_true.2 fun r hr => ?_, automaskClear_frame die k mask s⟩
    exact beq_iff_eq.2 (automaskClear_bits die k mask s (List.mem_range.1 hr))
  case setting =>
    intro s die l v hdie hl hv
    refine ⟨_, effect_of_wf (by simp [Instr.wf, hdie, hl]; omega) (channelConfigWrite die l v) s, ?_⟩
    have hapart := settingFields_apart die l
    simp only [settingFields, List.pairwise_cons, List.forall_mem_cons] at hapart
    obtain ⟨⟨hsetEn, hsetMask, hsetSlope, hsetTrim, hsetThr, -⟩, ⟨henMask, henSlope, henTrim, henThr, -⟩,
      ⟨hmaskSlope, hmaskTrim, hmaskThr, -⟩, ⟨hslopeTrim, hslopeThr, -⟩, ⟨htrimThr, -⟩, -⟩ := hapart
    refine ⟨?_, ?_, ?_, ?_, ?_, ?_, channelConfigWrite_frame die l v s⟩
    all_goals simp only [channelConfigWrite, bits, State.get_set_ne _ hsetEn, State.get_set_ne _ hsetMask,
      State.get_set_ne _ hsetSlope, State.get_set_ne _ hsetTrim, State.get_set_ne _ hsetThr, State.get_set_ne _ henMask,
      State.get_set_ne _ henSlope, State.get_set_ne _ henTrim, State.get_set_ne _ henThr, State.get_set_ne _ hmaskSlope,
      State.get_set_ne _ hmaskTrim, State.get_set_ne _ hmaskThr, State.get_set_ne _ hslopeTrim,
      State.get_set_ne _ hslopeThr, State.get_set_ne _ htrimThr, State.get_set_same]
    all_goals simp only [FE_CH_CFG_inj_set, FE_CH_CFG_inj_en, FE_CH_CFG_mask, FE_CH_CFG_slope, FE_CH_CFG_trim,
      FE_CH_CFG_threshold]
    all_goals omega

end Sys2Proof.Machine
end

section
/-! SUPPORT and PROOF. A servo that locks while a channel stands high in an injection window: the hit that starts high
counts as coincident with the injection (R146, R163). -/

namespace Sys2Proof.Machine

open Sys2Proof

/-- Die 0 acquires its lock while channel 0 is high in an injection window that has seen no edge. -/
def lockInInjection : State :=
  ((((({ State.reset with
    latch := [(0, 0x101)]
    chans := [(0, { Chan.new with high := true, inj := some ⟨0, 0, 0, false, 0, false⟩ })] } : State).set
    CX_PLATE_STATUS_state 4).set (FE_TDC_STATUS_state 0) 1).set (FE_CTRL_die_mask 0) 0).set (FE_CH_CFG_mask 0 0) 0).set
    CX_FE_SVC_now0 0

theorem exec_dllLock {die : Nat} (h : die < 3) (s : State) : exec (.dllLock die) s = .next (dllLock die s) :=
  effect_of_wf (c := .dllLock die) (decide_eq_true h) (dllLock die) s

theorem lockInInjection_coincident : (dllLock 0 lockInInjection).get (FE_CNT_INJ_ERR_coincident 0) = 1 ∧
    lockInInjection.get (FE_CNT_INJ_ERR_coincident 0) = 0 := by decide +kernel

/-- Refutes O19: its clause on DLL_LOCK leaves the coincidence counter of the die out of the frame. A channel that stands
high when the lock comes starts a hit high, and inside an injection window that hit is counted there. -/
theorem not_servosAndCodeDensityRuns : ¬ Obligations.ServosAndCodeDensityRuns := by
  unfold Obligations.ServosAndCodeDensityRuns
  rintro ⟨-, -, -, hlock, -⟩
  obtain ⟨t, ht, -, -, hframe⟩ := hlock lockInInjection 0 (by decide) (by decide)
  rw [exec_dllLock (by decide), Host.Outcome.next.injEq] at ht
  obtain ⟨hone, hzero⟩ := lockInInjection_coincident
  have hkeeps := hframe.get (f := FE_CNT_INJ_ERR_coincident 0) (by decide)
  rw [← ht, hone, hzero] at hkeeps
  omega

end Sys2Proof.Machine
end

section
/-! SUPPORT and PROOF. Tables that wait for an edge at which a held MT load takes effect (R103, R170). -/

namespace Sys2Proof.Machine

open Sys2Proof

/-- Stamps of one in each bin, for every row of a column. -/
def evenStamps : List (List Nat) := List.replicate 32 (List.replicate 1024 1)

theorem mem_evenStamps {q n : Nat} (h : n ∈ evenStamps.getD q []) : n = 1 := by
  rw [evenStamps, List.getD_eq_getElem?_getD, List.getElem?_replicate] at h
  split at h
  · exact List.eq_of_mem_replicate h
  · simp at h

/-- Tables of die 0 wait for the next edge, in hold with a load held for the marker of bucket 1: at that edge the
numbering starts again. -/
def tablesBeforeLoad : State :=
  ((((({ State.reset with
    latch := [(0, 0x101)]
    mt := { State.reset.mt with
      running := true, held := true, offset := -32768, edge := [.tables 0 evenStamps] } } : State).set
    (FE_CD_STATUS_state 0) 2).set CX_FE_SVC_now0 0).set CX_MT_STATUS_state 2).set CX_MT_STATUS_unresolved 1)

theorem tablesBeforeLoad_bucket : tablesBeforeLoad.tick.mt.bucket = 0 := by
  have hstop : tablesBeforeLoad.stopDue = false := rfl
  obtain ⟨o, hopen, -⟩ := State.orbitStep_opened hstop
  have hend : ¬ tablesBeforeLoad.mt.bucket + 1 < tablesBeforeLoad.numEnd := by decide +kernel
  have hrun : tablesBeforeLoad.mt.running = true := rfl
  rw [State.tick, if_pos hrun, State.bucketEdge, if_neg hend, orbitStart_of_running hrun]
  exact hopen.bucket

/-- Refutes O20: its clause on the edge admits a state in which a held MT load takes effect at that edge, and bucket 0
follows bucket 0. -/
theorem not_codeDensityTablesAreComputed : ¬ Obligations.CodeDensityTablesAreComputed := by
  unfold Obligations.CodeDensityTablesAreComputed
  rintro ⟨-, -, hedge, -⟩
  obtain ⟨t, ht, -, -, -, -, -, -, -, -, hbucket, -⟩ := hedge tablesBeforeLoad 0 evenStamps 0 0 rfl (by decide)
    (by decide) rfl (fun h hh => by rw [List.eq_of_mem_replicate hh]; exact List.length_replicate) (by decide)
    (by decide) (by decide) (fun q _ n hn => by rw [mem_evenStamps hn]; decide) rfl (by decide) rfl rfl (by decide)
  rw [step_of_idle rfl, Host.Outcome.next.injEq] at ht
  rw [← ht, tablesBeforeLoad_bucket] at hbucket
  exact absurd hbucket (by decide)

end Sys2Proof.Machine
end

section
/-! SUPPORT and PROOF. Disruptive activities start in quiet windows, in order of precedence, or are deferred (R42 to R44). -/

namespace Sys2Proof.Machine

open Sys2Proof

variable {s : State}

theorem exec_disruptiveActivityStart (s : State) :
    exec .disruptiveActivityStart s = .next (disruptiveActivityStart s) := effect_of_wf rfl disruptiveActivityStart s

theorem disruptiveActivityStart_of_closed
    (h : s.activity ≠ none ∨ s.mt.running = false ∨ s.inWindow s.mt.bucket = false) :
    disruptiveActivityStart s = s := by
  refine if_pos ?_
  rcases h with h | h | h
  · simp [Option.isSome_iff_ne_none, h]
  · simp [h]
  · simp [h]

/-! ## Activities that do not fit -/

theorem State.defer_frame (s : State) (k : Nat) : Frame [.deferWin, .deferMask, .evReq]
    [CX_QUIET_DEFER_count, CX_QUIET_DEFER_last, MG_EVLOG_merged] s (s.defer k) := by
  unfold State.defer
  exact Frame.ite (Frame.refl _ _ s) ((((Frame.beside (Frame.refl _ _ s)).count _ 1 (by decide)).set _ _
    (by decide)).raise _ _ (by decide) (by decide))

/-- The first deferral in a window is counted, shown and raised. -/
theorem State.defer_of_new (h : s.deferWin ≠ (s.mt.orbit, s.windowEnd s.mt.bucket)) (k : Nat) : s.defer k =
    ((State.count { s with deferWin := (s.mt.orbit, s.windowEnd s.mt.bucket), deferMask := 0 + 2 ^ k }
      CX_QUIET_DEFER_count).set CX_QUIET_DEFER_last k).raise 42 := by
  have hbit : bit 0 k = false := by simp [bit]
  simp only [State.defer, if_neg h, hbit, Bool.false_eq_true, if_false]

/-- The requests for dies that are by-passed are discarded, and the activities of a list deferred. -/
def State.deferred (s : State) (l : List DueAct) : State :=
  State.each { s with dueCd := s.dueCd.filter fun e => s.feServed e.1 } l fun s a => s.defer a.code

theorem State.deferred_frame (s : State) (l : List DueAct) : Frame [.dueCd, .deferWin, .deferMask, .evReq]
    [CX_QUIET_DEFER_count, CX_QUIET_DEFER_last, MG_EVLOG_merged] s (s.deferred l) :=
  Frame.each (Frame.with_dueCd (Frame.refl _ _ s) _ (by decide)) fun u a _ hu =>
    hu.next (u.defer_frame a.code) (by decide) (by decide)

/-- What is due once the requests for dies that are by-passed are discarded. -/
def State.dueServed (s : State) : State := { s with dueCd := s.dueCd.filter fun e => s.feServed e.1 }

/-- Whether an activity fits the window in progress. -/
def State.fitsNow (s : State) (a : DueAct) : Bool := decide (s.mt.bucket + s.dueLength a ≤ s.windowEnd s.mt.bucket)

theorem disruptiveActivityStart_of_open (hact : s.activity = none) (hrun : s.mt.running = true)
    (hin : s.inWindow s.mt.bucket = true) : disruptiveActivityStart s =
      match s.dueServed.due.find? s.fitsNow with
      | some a => (s.deferred (s.dueServed.due.filter fun a => !s.fitsNow a)).activityStart a
      | none => s.deferred (s.dueServed.due.filter fun a => !s.fitsNow a) := by
  have hfits : (fun a => State.fits s.dueServed (s.dueServed.dueLength a)) = s.fitsNow := by
    funext a
    have hin' : s.dueServed.inWindow s.dueServed.mt.bucket = true := hin
    have hrun' : s.dueServed.mt.running = true := hrun
    rw [State.fits, hin', hrun', State.fitsNow]
    cases a <;> rfl
  rw [disruptiveActivityStart, if_neg (by simp [hact, hrun, hin])]
  change (match s.dueServed.due.find? (fun a => State.fits s.dueServed (s.dueServed.dueLength a)) with
    | some a => (s.deferred (s.dueServed.due.filter fun a =>
        !(fun a => State.fits s.dueServed (s.dueServed.dueLength a)) a)).activityStart a
    | none => s.deferred (s.dueServed.due.filter fun a =>
        !(fun a => State.fits s.dueServed (s.dueServed.dueLength a)) a)) = _
  rw [hfits]

/-! ## Activities that start -/

theorem State.activityStart_burnish (t : State) (d : Nat) : ∃ b, t.activityStart (.burnish d) =
    State.iff { t with activity := some 3, dueBurnish := t.dueBurnish.erase d } b
      fun s => s.set CX_BN_PASS_CTRL_state 1 := ⟨_, rfl⟩

theorem State.activityStart_refresh {t : State} {n col : Nat} (h : t.get (FE_CD_STATUS_state n) = 0) :
    t.activityStart (.refresh n col) = State.cdSliceStart
      { t with activity := some 4, dueCd := t.dueCd.filter fun e => e != (n, col) } n col := by
  have haccepts : State.cdAccepts { t with activity := some 4, dueCd := t.dueCd.filter fun e => e != (n, col) } n col =
      true := by
    simp [State.cdAccepts, h]
  exact if_pos haccepts

/-- The registers of a refresh that begins on column `col` of die `n`. -/
def sliceFields (n col : Nat) : List Fld :=
  [FE_CD_STATUS_state n, FE_CD_STATUS_column n, FE_CD_COL_progress n col]

theorem sliceFields_apart {n col : Nat} : (sliceFields n col).Pairwise fun f g => f.key ≠ g.key := by
  simp only [sliceFields, List.pairwise_cons, List.forall_mem_cons, Fld.key, FE_CD_STATUS_state, FE_CD_STATUS_column,
    FE_CD_COL_progress, List.not_mem_nil, false_implies, implies_true, List.Pairwise.nil, and_true]
  omega

theorem State.die_setDie (s : State) (n : Nat) (d : FeDie) : (s.setDie n d).die n = d := Sparse.get_put_same _ _ _ _

theorem State.die_set (s : State) (f : Fld) (v n : Nat) : (s.set f v).die n = s.die n := rfl

theorem State.get_setDie (s : State) (n : Nat) (d : FeDie) (f : Fld) : (s.setDie n d).get f = s.get f := rfl

theorem Frame.setDie {ps : List Part} {fs : List Fld} {s t : State} (h : Frame ps fs s t) (n : Nat) (d : FeDie)
    (hp : Part.dies ∈ ps) : Frame ps fs s (t.setDie n d) := h.with_dies _ hp

theorem State.cdTake_eq (s : State) (n v : Nat) : s.cdTake n v = (s.setDie n { s.die n with stamps := v }).set
    (FE_CD_COL_progress n (s.get (FE_CD_STATUS_column n))) (v / 256) := rfl

/-- A refresh that begins where none was under way takes its column from no stamps. -/
theorem State.cdSliceStart_of_idle {n col : Nat} (h : s.get (FE_CD_STATUS_state n) = 0) (hcol : col < 16) :
    ((s.cdSliceStart n col).die n).slice = true ∧ (s.cdSliceStart n col).get (FE_CD_STATUS_state n) = 1 ∧
      (s.cdSliceStart n col).get (FE_CD_STATUS_column n) = col ∧
      Frame [.dies] (sliceFields n col) s (s.cdSliceStart n col) := by
  have hapart := sliceFields_apart (n := n) (col := col)
  simp only [sliceFields, List.pairwise_cons, List.forall_mem_cons] at hapart
  obtain ⟨⟨hstateColumn, hstateCol, -⟩, ⟨hcolumnCol, -⟩, -⟩ := hapart
  have hcolumn (u : State) : (u.set (FE_CD_STATUS_column n) col).get (FE_CD_STATUS_column n) = col :=
    State.get_set_fit _ _ hcol
  have heq : s.cdSliceStart n col = (((s.setDie n { s.die n with slice := true, sliceAt := s.clock }).set
      (FE_CD_STATUS_state n) 1).set (FE_CD_STATUS_column n) col).cdTake n 0 := if_pos h
  rw [heq, State.cdTake_eq, hcolumn]
  refine ⟨?slice, ?state, ?column, ?frame⟩
  case slice => rw [State.die_set, State.die_setDie, State.die_set, State.die_set, State.die_setDie]
  case state =>
    rw [State.get_set_ne _ hstateCol, State.get_setDie, State.get_set_ne _ hstateColumn]
    exact State.get_set_fit _ _ (v := 1) (by simp [FE_CD_STATUS_state])
  case column => rw [State.get_set_ne _ hcolumnCol, State.get_setDie, hcolumn]
  case frame =>
    exact (Frame.setDie (((Frame.setDie (Frame.refl _ _ s) n _ (by decide)).set _ _ (by simp [sliceFields])).set _ _
      (by simp [sliceFields])) n _ (by decide)).set _ _ (by simp [sliceFields])

/-! ## What is due, in order -/

theorem State.due_find_burnish {l1 l2 : List Nat} {d : Nat} (hswap : s.dueSwap = false)
    (hreload : s.get CX_PLATE_RELOAD_state ≠ 2) (hdue : s.dueBurnish = l1 ++ d :: l2)
    (hlate : ∀ x ∈ l1, s.windowEnd s.mt.bucket < s.mt.bucket + x) (hfits : s.mt.bucket + d ≤ s.windowEnd s.mt.bucket) :
    s.dueServed.due.find? s.fitsNow = some (.burnish d) := by
  have hreload' : s.dueServed.get CX_PLATE_RELOAD_state ≠ 2 := hreload
  have hswap' : s.dueServed.dueSwap = false := hswap
  have hdue' : s.dueServed.dueBurnish = l1 ++ d :: l2 := hdue
  have hnone : (l1.map DueAct.burnish).find? s.fitsNow = none := by
    simp only [List.find?_eq_none, List.mem_map, forall_exists_index, and_imp, forall_apply_eq_imp_iff₂, State.fitsNow,
      State.dueLength]
    exact fun x hx h => by have := hlate x hx; have := of_decide_eq_true h; omega
  have hyes : s.fitsNow (.burnish d) = true := decide_eq_true hfits
  simp only [State.due, hswap', hdue', if_neg hreload', Bool.false_eq_true, if_false, List.nil_append, List.map_append,
    List.map_cons, List.append_assoc, List.find?_append, hnone, List.cons_append, List.find?_cons, hyes,
    Option.none_or]

theorem erase_append_cons {l1 l2 : List Nat} {d : Nat} (h : d ∉ l1) : (l1 ++ d :: l2).erase d = l1 ++ l2 := by
  rw [List.erase_append_right _ h, List.erase_cons_head]

/-- Settles O22: the activity that starts is the first one due that fits; what does not fit is deferred. -/
theorem disruptiveActivitiesKeepToQuietWindows : Obligations.DisruptiveActivitiesKeepToQuietWindows := by
  unfold Obligations.DisruptiveActivitiesKeepToQuietWindows
  refine ⟨?closed, ?swap, ?late, ?reload, ?burnish, ?refresh⟩
  case closed =>
    intro s h
    rw [exec_disruptiveActivityStart, disruptiveActivityStart_of_closed h]
  case swap =>
    intro s hact hrun hin hswap hfits
    refine ⟨_, exec_disruptiveActivityStart s, ?_⟩
    have hfind : s.dueServed.due.find? s.fitsNow = some .swap := by
      have hswap' : s.dueServed.dueSwap = true := hswap
      have hyes : s.fitsNow .swap = true := decide_eq_true hfits
      simp [State.due, hswap', hyes]
    rw [disruptiveActivityStart_of_open hact hrun hin, hfind]
    have hframe := s.deferred_frame (s.dueServed.due.filter fun a => !s.fitsNow a)
    exact ⟨rfl, rfl, hframe.parts .dueBurnish (by decide), Frame.beside (hframe.mono (by decide) (by decide))⟩
  case late =>
    intro s hact hrun hin hswap hlate hreload hburnish hcd hwin
    refine ⟨_, exec_disruptiveActivityStart s, ?_⟩
    have hsame : s.dueServed = s := by
      have hnone : (s.dueCd.filter fun e => s.feServed e.1) = s.dueCd := by rw [hcd]; rfl
      rw [State.dueServed, hnone]
    have hdue : s.due = [.swap] := by simp [State.due, hswap, hreload, hburnish, hcd]
    have hno : s.fitsNow .swap = false := decide_eq_false (by simp only [State.dueLength]; omega)
    have hdeferred : s.deferred [.swap] = s.defer 1 := congrArg (State.defer · 1) hsame
    rw [disruptiveActivityStart_of_open hact hrun hin, hsame, hdue, List.find?_cons_of_neg (by simp [hno]),
      List.filter_cons_of_pos (by simp [hno]), List.find?_nil, List.filter_nil]
    dsimp only
    rw [hdeferred]
    have hframe := s.defer_frame 1
    refine ⟨(hframe.parts .activity (by decide)).trans hact, (hframe.parts .dueSwap (by decide)).trans hswap, ?_, ?_, ?_,
      hframe⟩
    all_goals rw [State.defer_of_new hwin]
    · simp (disch := decide) only [State.get_raise_ne, State.get_set_ne, State.get_count_same]
      rfl
    · simp (disch := decide) only [State.get_raise_ne]
      exact State.get_set_fit _ _ (v := 1) (by decide)
    · exact State.has_raise _ _ _
  case reload =>
    intro s hact hrun hin hswap hreload hfits
    refine ⟨_, exec_disruptiveActivityStart s, ?_⟩
    have hfind : s.dueServed.due.find? s.fitsNow = some .reload := by
      have hswap' : s.dueServed.dueSwap = false := hswap
      have hreload' : s.dueServed.get CX_PLATE_RELOAD_state = 2 := hreload
      have hyes : s.fitsNow .reload = true := decide_eq_true hfits
      simp [State.due, hswap', hreload', hyes]
    rw [disruptiveActivityStart_of_open hact hrun hin, hfind]
    have hframe := s.deferred_frame (s.dueServed.due.filter fun a => !s.fitsNow a)
    exact ⟨rfl, (hframe.get (by decide)).trans hreload, hframe.parts .dueBurnish (by decide),
      hframe.parts .plate (by decide), Frame.beside (hframe.mono (by decide) (by decide))⟩
  case burnish =>
    intro s d l1 l2 hact hrun hin hswap hreload hdue hlate hfits
    refine ⟨_, exec_disruptiveActivityStart s, ?_⟩
    rw [disruptiveActivityStart_of_open hact hrun hin, State.due_find_burnish hswap hreload hdue hlate hfits]
    have hframe := s.deferred_frame (s.dueServed.due.filter fun a => !s.fitsNow a)
    generalize s.deferred (s.dueServed.due.filter fun a => !s.fitsNow a) = t at hframe
    have hleft : t.dueBurnish.erase d = l1 ++ l2 := by
      have hsame : t.dueBurnish = s.dueBurnish := hframe.parts .dueBurnish (by decide)
      rw [hsame, hdue, erase_append_cons fun hd => by have := hlate d hd; omega]
    obtain ⟨b, heq⟩ := t.activityStart_burnish d
    have hstart := Frame.iff (b := b) (g := fun s => s.set CX_BN_PASS_CTRL_state 1)
      (Frame.refl [] [CX_BN_PASS_CTRL_state] { t with activity := some 3, dueBurnish := t.dueBurnish.erase d })
      fun u hu => hu.set _ 1 (by decide)
    dsimp only
    rw [heq]
    refine ⟨hstart.parts .activity (by simp), (hstart.parts .dueBurnish (by simp)).trans hleft, fun _ => ?_, ?_⟩
    · exact (hstart.parts .prot (by simp)).trans (hframe.parts .prot (by decide))
    · exact (Frame.beside (hframe.mono (by decide) (by decide))).next hstart (by simp) (by decide)
  case refresh =>
    intro s n col hact hrun hin hswap hreload hburnish hcd hn hcol hserved hfits hidle
    refine ⟨_, exec_disruptiveActivityStart s, ?_⟩
    have hyes : s.fitsNow (.refresh n col) = true := decide_eq_true hfits
    have hdue : s.dueServed.due = [.refresh n col] := by
      have hswap' : s.dueServed.dueSwap = false := hswap
      have hreload' : s.dueServed.get CX_PLATE_RELOAD_state ≠ 2 := hreload
      have hburnish' : s.dueServed.dueBurnish = [] := hburnish
      have hcd' : s.dueServed.dueCd = [(n, col)] := by simp [State.dueServed, hcd, hserved]
      simp [State.due, hswap', hreload', hburnish', hcd']
    rw [disruptiveActivityStart_of_open hact hrun hin, hdue, List.find?_cons_of_pos hyes,
      List.filter_cons_of_neg (by simp [hyes]), List.filter_nil]
    have hcd' : (s.deferred []).dueCd = [(n, col)] := by simp [State.deferred, hcd, hserved]
    have hidle' : (s.deferred []).get (FE_CD_STATUS_state n) = 0 := hidle
    dsimp only
    generalize s.deferred [] = t at hcd' hidle'
    rw [State.activityStart_refresh hidle']
    obtain ⟨hslice, hstate, hcolumn, hframe⟩ := State.cdSliceStart_of_idle
      (s := { t with activity := some 4, dueCd := t.dueCd.filter fun e => e != (n, col) }) hidle' hcol
    refine ⟨hframe.parts .activity (by decide), (hframe.parts .dueCd (by decide)).trans ?_, hslice, hstate, hcolumn⟩
    simp [hcd']

end Sys2Proof.Machine
end

section
/-! SUPPORT. What a command leaves beside register fields. -/

namespace Sys2Proof.Machine

open Sys2Proof

theorem PartFrame.refl (ps : List Part) (s : State) : PartFrame ps s s := ⟨fun p _ => by cases p <;> rfl, rfl⟩

/-- A frame of fields and parts is one of the parts. -/
theorem Frame.partFrame {ps : List Part} {fs : List Fld} {s t : State} (h : Frame ps fs s t) : PartFrame ps s t :=
  ⟨h.parts, h.queue⟩

/-- A change beside the queue, of parts that the frame names. -/
theorem PartFrame.beside {ps : List Part} {s t u : State} (h : PartFrame ps s t) (hq : u.pending = t.pending := by rfl)
    (hp : ∀ p : Part, p ∈ ps ∨ p.same t u := by
      intro p; cases p <;> first | exact .inl (by decide) | exact .inr rfl) : PartFrame ps s u := by
  refine ⟨fun p hn => ?_, hq.trans h.queue⟩
  have hst := h.parts p hn
  have htu := (hp p).resolve_left hn
  cases p <;> exact htu.trans hst

theorem PartFrame.trans {ps : List Part} {s t u : State} (h : PartFrame ps s t) (h' : PartFrame ps t u) :
    PartFrame ps s u := by
  refine ⟨fun p hp => ?_, h'.queue.trans h.queue⟩
  have hst := h.parts p hp
  have htu := h'.parts p hp
  cases p <;> exact htu.trans hst

theorem PartFrame.mono {ps qs : List Part} {s t : State} (h : PartFrame ps s t) (hp : ps ⊆ qs) : PartFrame qs s t :=
  ⟨fun p hq => h.parts p fun hm => hq (hp hm), h.queue⟩

/-- The frame of an operation run after others that leave no more. -/
theorem PartFrame.next {ps qs : List Part} {s t u : State} (h : PartFrame ps s t) (h' : PartFrame qs t u)
    (hp : qs ⊆ ps) : PartFrame ps s u := h.trans (h'.mono hp)

theorem PartFrame.set {ps : List Part} {s t : State} (h : PartFrame ps s t) (f : Fld) (v : Nat) :
    PartFrame ps s (t.set f v) := h.beside rfl fun p => .inr (by cases p <;> rfl)

theorem PartFrame.setB {ps : List Part} {s t : State} (h : PartFrame ps s t) (f : Fld) (b : Bool) :
    PartFrame ps s (t.setB f b) := h.set f _

theorem PartFrame.count {ps : List Part} {s t : State} (h : PartFrame ps s t) (f : Fld) (n : Nat) :
    PartFrame ps s (t.count f n) := h.set f _

theorem PartFrame.raise {ps : List Part} {s t : State} (h : PartFrame ps s t) (src arg : Nat)
    (hp : Part.evReq ∈ ps) : PartFrame ps s (t.raise src arg) :=
  h.beside (by simp) fun p => by
    by_cases he : p = .evReq
    · exact .inl (he ▸ hp)
    · refine .inr ?_
      cases p <;> first | exact absurd rfl he | simp [Part.same]

theorem PartFrame.flag {ps : List Part} {s t : State} (h : PartFrame ps s t) (f : Fld) (src arg : Nat)
    (hp : Part.evReq ∈ ps) : PartFrame ps s (t.flag f src arg) := by
  unfold State.flag
  split
  · exact h
  · exact (h.set f 1).raise _ _ hp

theorem PartFrame.iff {ps : List Part} {s t : State} {b : Bool} {g : State → State} (h : PartFrame ps s t)
    (hg : ∀ u, PartFrame ps s u → PartFrame ps s (g u)) : PartFrame ps s (t.iff b g) := by
  unfold State.iff
  split
  · exact hg t h
  · exact h

theorem PartFrame.ite {ps : List Part} {s t u : State} {c : Prop} [Decidable c] (h : PartFrame ps s t)
    (h' : PartFrame ps s u) : PartFrame ps s (if c then t else u) := by
  split
  · exact h
  · exact h'

theorem PartFrame.each {α : Type} {ps : List Part} {s t : State} {l : List α} {f : State → α → State}
    (h : PartFrame ps s t) (hf : ∀ u a, PartFrame ps s u → PartFrame ps s (f u a)) :
    PartFrame ps s (t.each l f) := by
  induction l generalizing t with
  | nil => exact h
  | cons a l ih => exact ih (hf t a h)

end Sys2Proof.Machine
end

section
/-! SUPPORT and PROOF. Hits join the sort buffer, and buckets are sealed (R192 to R196, R208). -/

namespace Sys2Proof.Machine

open Sys2Proof

variable {s : State}

/-! ## The next hit of a die, seen by trigger, exposure and loop -/

theorem State.nextHit_frame {n orbit w : Nat} {bad : Bool} {u : State} (h : s.nextHit n = some (orbit, w, bad, u)) :
    Frame [.chans, .dies] [] s u := by
  unfold State.nextHit at h
  dsimp only at h
  split at h
  next => cases h
  next =>
    split at h
    next => cases h
    next =>
      obtain ⟨-, -, -, rfl⟩ := by simpa using h
      exact Frame.beside (Frame.refl _ _ s)

/-- The registers that a hit on its way to the sort buffer changes. -/
def hitSeenFields : List Fld :=
  [TG_CNT_LATE_count, TG_STATUS_late, CX_TILE_LIFE_frac, CX_TILE_STATUS_warn, CX_TILE_STATUS_life_event,
    CX_TILE_STATUS_end, MG_EVLOG_merged]

theorem State.tgSee_frame (s : State) (orbit w : Nat) (late : Bool) :
    Frame [.evReq, .tg, .tile] hitSeenFields s (s.tgSee orbit w late) := by
  unfold State.tgSee
  refine Frame.ite (Frame.refl _ _ s) (Frame.ite (Frame.flag (Frame.count (Frame.refl _ _ s) _ 1 (by decide)) _ _ _
    (by decide) (by decide) (by decide)) (Frame.ite (Frame.beside (Frame.refl _ _ s)) (Frame.refl _ _ s)))

theorem State.lifeCheck_frame {t : State} (h : Frame [.evReq, .tg, .tile] hitSeenFields s t) :
    Frame [.evReq, .tg, .tile] hitSeenFields s t.lifeCheck := by
  have hwarn {u : State} (hu : Frame [.evReq, .tg, .tile] hitSeenFields s u) (b : Bool) (f : Fld)
      (hf : f.key ∈ hitSeenFields.map Fld.key) (src : Nat) : Frame [.evReq, .tg, .tile] hitSeenFields s
      (if b then ((u.set f 1).set CX_TILE_STATUS_life_event 1).raise src else u) :=
    Frame.ite (((hu.set _ _ hf).set _ _ (by decide)).raise _ _ (by decide) (by decide)) hu
  unfold State.lifeCheck
  exact hwarn (hwarn (h.set _ _ (by decide)) _ _ (by decide) _) _ _ (by decide) _

theorem State.exposeHit_frame (s : State) (w : Nat) : Frame [.evReq, .tg, .tile] hitSeenFields s (s.exposeHit w) := by
  unfold State.exposeHit
  exact Frame.ite (State.lifeCheck_frame (Frame.beside (Frame.refl _ _ s))) (Frame.refl _ _ s)

theorem State.loopHit_frame (s : State) (w : Nat) : Frame [.evReq, .tg, .tile] hitSeenFields s (s.loopHit w) := by
  unfold State.loopHit
  exact Frame.ite (Frame.beside (Frame.refl _ _ s)) (Frame.refl _ _ s)

/-- The hit on its way to the sort buffer. -/
def State.hitSeen (s : State) (orbit w : Nat) (late : Bool) : State := ((s.tgSee orbit w late).exposeHit w).loopHit w

theorem State.hitSeen_frame (s : State) (orbit w : Nat) (late : Bool) :
    Frame [.evReq, .tg, .tile] hitSeenFields s (s.hitSeen orbit w late) :=
  ((s.tgSee_frame orbit w late).trans (State.exposeHit_frame _ w)).trans (State.loopHit_frame _ w)

theorem hitMerge_of_hit {n orbit w : Nat} {bad : Bool} {u : State} (h : s.nextHit n = some (orbit, w, bad, u))
    (late : Bool) : hitMerge n late s = if bad || s.feOutAt n (orbit, hitBucket w) then u
      else (u.hitSeen orbit w late).mergeStore n orbit w := by
  have hframe := State.nextHit_frame h
  have hout : u.feOutAt n (orbit, hitBucket w) = s.feOutAt n (orbit, hitBucket w) := by
    rw [State.feOutAt, State.feOutAt, (hframe.parts .feByp (by decide) : u.feByp = s.feByp),
      (hframe.parts .mt (by decide) : u.mt = s.mt)]
  simp only [hitMerge, h, hout, State.hitSeen]

theorem exec_hitMerge {n : Nat} (hn : n < 3) (hrun : s.mt.running = true) (late : Bool) :
    exec (.hitMerge n late) s = .next (hitMerge n late s) :=
  effectMs_of_running (c := .hitMerge n late) (decide_eq_true hn) hrun _

/-- What a hit sees of the store is what it was before the hit was taken. -/
structure SameMerge (s t : State) : Prop where
  flushing : t.on CX_HQ_STATUS_flushing = s.on CX_HQ_STATUS_flushing
  ringHeld : t.ringHeld = s.ringHeld
  validFrom : t.validFrom = s.validFrom
  fromValid : ∀ b, t.fromValid b = s.fromValid b
  isSealed : ∀ b, t.isSealed b = s.isSealed b
  store : t.store = s.store

theorem Frame.sameMerge {t : State} (h : Frame [.evReq, .chans, .dies, .tg, .tile] hitSeenFields s t) :
    SameMerge s t := by
  have hstore : t.store = s.store := h.parts .store (by decide)
  have hmt : t.mt = s.mt := h.parts .mt (by decide)
  have hrc : t.rc = s.rc := h.parts .rc (by decide)
  have hclock : t.clock = s.clock := h.parts .clock (by decide)
  have hvalid : t.validFrom = s.validFrom := by
    unfold State.validFrom State.on
    rw [h.get (by decide), h.get (by decide), h.get (by decide)]
  refine ⟨?_, ?_, hvalid, fun b => ?_, fun b => ?_, hstore⟩
  · simp (disch := decide) only [State.on, h.get]
  · simp (disch := decide) only [State.ringHeld, State.stopCome, hstore, hrc, hclock, h.get]
  · unfold State.fromValid State.before
    rw [hvalid, hmt]
  · unfold State.isSealed State.before State.now
    rw [hstore, hmt]

/-! ## The hit at the sort buffer -/

theorem State.sortIn_of_clear (h : s.store.shadows = []) (n orbit : Nat) {w : Nat} (hovr : hitFlag w 0 = false) :
    (s.sortIn n orbit w).store.sort = s.store.sort ++ [⟨n, orbit, w⟩] ∧ (s.sortIn n orbit w).store.wq = s.store.wq := by
  simp [State.sortIn, h, hovr, shadowed?]

theorem State.sortIn_frame (s : State) (n orbit w : Nat) : PartFrame [.store] s (s.sortIn n orbit w) :=
  PartFrame.beside (PartFrame.refl _ s)

theorem mergeStore_of_room {n orbit w : Nat} (hflush : s.on CX_HQ_STATUS_flushing = false) (hring : s.ringHeld = false)
    (hvalid : s.validFrom = none ∨ s.fromValid (orbit, hitBucket w) = true)
    (hopen : s.isSealed (orbit, hitBucket w) = false) (hroom : s.sortCount < 16384) :
    s.mergeStore n orbit w = s.sortIn n orbit w := by
  have hearly : ¬ ((s.validFrom.isSome && !s.fromValid (orbit, hitBucket w)) = true) := by
    rcases hvalid with h | h <;> simp [h]
  simp only [State.mergeStore, hflush, hring, hopen, if_neg hearly, Bool.false_eq_true, if_false]
  exact if_neg (by omega)

theorem mergeStore_of_sealed {n orbit w : Nat} (hflush : s.on CX_HQ_STATUS_flushing = false) (hring : s.ringHeld = false)
    (hvalid : s.validFrom = none ∨ s.fromValid (orbit, hitBucket w) = true)
    (hsealed : s.isSealed (orbit, hitBucket w) = true) :
    s.mergeStore n orbit w = (s.count CX_MERGE_LATE_late).flag CX_HQ_STATUS_late 64 := by
  have hearly : ¬ ((s.validFrom.isSome && !s.fromValid (orbit, hitBucket w)) = true) := by
    rcases hvalid with h | h <;> simp [h]
  simp only [State.mergeStore, hflush, hring, hsealed, if_neg hearly, Bool.false_eq_true, if_false, if_true]

theorem mergeStore_of_stopped {n orbit w : Nat} (hflush : s.on CX_HQ_STATUS_flushing = false)
    (hring : s.ringHeld = true) : s.mergeStore n orbit w = s.count RC_FREEZE_LOST_count := by
  simp only [State.mergeStore, hflush, hring, Bool.false_eq_true, if_false, if_true]

/-- The state in which the next hit of a die reaches the sort buffer. -/
structure HitReaches (n orbit w : Nat) (late : Bool) (s t : State) : Prop where
  merged : exec (.hitMerge n late) s = .next (t.mergeStore n orbit w)
  frame : Frame [.evReq, .chans, .dies, .tg, .tile] hitSeenFields s t
  chans : some t.chans = (s.nextHit n).map fun x => x.2.2.2.chans

theorem State.hit_reaches {n orbit w : Nat} (hn : n < 3) (hrun : s.mt.running = true)
    (hhit : (s.nextHit n).map (fun x => (x.1, x.2.1, x.2.2.1)) = some (orbit, w, false))
    (hout : s.feOutAt n (orbit, hitBucket w) = false) (late : Bool) : ∃ t, HitReaches n orbit w late s t := by
  obtain ⟨⟨o, w', bad, u⟩, hnext, heq⟩ := Option.map_eq_some_iff.1 hhit
  obtain ⟨rfl, rfl, rfl⟩ := by simpa using heq
  have hseen := u.hitSeen_frame o w' late
  refine ⟨u.hitSeen o w' late, ?_, ?_, ?_⟩
  · rw [exec_hitMerge hn hrun, hitMerge_of_hit hnext late, hout]
    rfl
  · exact ((State.nextHit_frame hnext).mono (by decide) (by decide)).next hseen (by decide) (fun _ h => h)
  · rw [hnext, hseen.parts .chans (by decide)]
    rfl

/-! ## Buckets sealed -/

/-- A descriptor but for its pins. -/
def Desc.unpinned (d : Desc) : Desc := { d with pins := 0 }

/-- The sort buffer, the bucket sealed last and the descriptors stand, but for pins. -/
structure SameSealed (s t : State) : Prop where
  sort : t.store.sort = s.store.sort
  lastSealed : t.store.lastSealed = s.store.lastSealed
  desc : ∀ k, (t.desc k).unpinned = (s.desc k).unpinned
  frame : PartFrame [.evReq, .store, .rc] s t

theorem SameSealed.refl (s : State) : SameSealed s s := ⟨rfl, rfl, fun _ => rfl, PartFrame.refl _ s⟩

theorem SameSealed.trans {t u : State} (h : SameSealed s t) (h' : SameSealed t u) : SameSealed s u :=
  ⟨h'.sort.trans h.sort, h'.lastSealed.trans h.lastSealed, fun k => (h'.desc k).trans (h.desc k), h.frame.trans h'.frame⟩

/-- A change beside the store. -/
theorem SameSealed.of_store {t u : State} (h : SameSealed s t) (hstore : u.store = t.store)
    (hframe : PartFrame [.evReq, .store, .rc] t u) : SameSealed s u :=
  h.trans ⟨by rw [hstore], by rw [hstore], fun k => by rw [State.desc, hstore]; rfl, hframe⟩

theorem SameSealed.set {t : State} (h : SameSealed s t) (f : Fld) (v : Nat) : SameSealed s (t.set f v) :=
  h.of_store rfl ((PartFrame.refl _ t).set f v)

theorem SameSealed.raise {t : State} (h : SameSealed s t) (src arg : Nat) : SameSealed s (t.raise src arg) :=
  h.of_store (by simp) ((PartFrame.refl _ t).raise src arg (by decide))

theorem SameSealed.iff {t : State} {b : Bool} {g : State → State} (h : SameSealed s t)
    (hg : ∀ u, SameSealed s u → SameSealed s (g u)) : SameSealed s (t.iff b g) := by
  unfold State.iff
  split
  · exact hg t h
  · exact h

theorem SameSealed.each {α : Type} {t : State} {l : List α} {f : State → α → State} (h : SameSealed s t)
    (hf : ∀ u a, SameSealed s u → SameSealed s (f u a)) : SameSealed s (t.each l f) := by
  induction l generalizing t with
  | nil => exact h
  | cons a l ih => exact ih (hf t a h)

theorem SameSealed.with_rc {t : State} (h : SameSealed s t) (x : Rc) : SameSealed s { t with rc := x } :=
  h.of_store rfl (PartFrame.beside (PartFrame.refl _ _))

theorem SameSealed.freezeTrigger {t : State} (h : SameSealed s t) (cause r : Nat) (b : Bkt) :
    SameSealed s (t.freezeTrigger cause r b) := by
  unfold State.freezeTrigger
  exact ((SameSealed.with_rc (((((h.set _ _).set _ _).set _ _).set _ _).set _ _) _).set _ _).raise _ _

theorem SameSealed.violate {t : State} (h : SameSealed s t) (cnt : Fld) (freeze : Bool) (cause r : Nat) (b : Bkt) :
    SameSealed s (t.violate cnt freeze cause r b) := by
  have hshown : SameSealed s ((t.count cnt).flag RC_STATUS_mask_viol 101) := by
    unfold State.flag
    split
    · exact h.set _ _
    · exact ((h.set _ _).set _ _).raise _ _
  unfold State.violate
  dsimp only
  split
  · exact hshown.freezeTrigger _ _ _
  · exact hshown

theorem SameSealed.maskTests {t : State} (h : SameSealed s t) (b : Bkt) (hits : List Nat) :
    SameSealed s (t.maskTests b hits) := by
  refine h.each fun u r hu => ?_
  have hrates : SameSealed s { u with rc := { u.rc with rates := match (u.maskTest r b hits).2.2.2 with
      | some w => Sparse.insert r w u.rc.rates
      | none => Sparse.erase r u.rc.rates } } := hu.with_rc _
  exact ((hrates.iff fun _ hv => hv.violate _ _ _ _ _).iff fun _ hv => hv.violate _ _ _ _ _).iff
    fun _ hv => hv.violate _ _ _ _ _

theorem SameSealed.depthUpdate {t : State} (h : SameSealed s t) : SameSealed s t.depthUpdate := by
  unfold State.depthUpdate
  split
  · exact h.set _ _
  · exact h

theorem State.desc_setDesc (s : State) (k j : Nat) (d : Desc) :
    (s.setDesc k d).desc j = if j = k then d else s.desc j := by
  by_cases h : j = k
  · subst h
    rw [if_pos rfl]
    exact Sparse.get_put_same _ _ _ _
  · rw [if_neg h]
    exact Sparse.get_put_ne _ _ h _ _

/-- A descriptor found and pinned once more is at its place, all else as before. -/
theorem State.putDesc_sameSealed {b : Bkt} {a : DescAt} {d : Desc} (h : s.findDesc b = some (a, d)) :
    SameSealed s (s.putDesc a { d with pins := d.pins + 1 }) := by
  unfold State.findDesc at h
  dsimp only at h
  split at h
  next =>
    obtain ⟨rfl, rfl⟩ := Prod.mk.inj (Option.some.inj h)
    refine ⟨rfl, rfl, fun k => ?_, PartFrame.beside (PartFrame.refl _ s)⟩
    rw [State.putDesc, State.desc_setDesc]
    split
    next hk => rw [hk]; rfl
    next => rfl
  next =>
    split at h
    next p k hkeep =>
      obtain ⟨rfl, rfl⟩ := Prod.mk.inj (Option.some.inj h)
      exact ⟨rfl, rfl, fun _ => rfl, PartFrame.beside (PartFrame.refl _ s)⟩
    next => cases h

/-- A pin that finds its bucket changes the pins of that bucket only. -/
theorem State.pin_sameSealed {b : Bkt} {t : State} (h : s.pin b = some t) : SameSealed s t := by
  unfold State.pin at h
  split at h
  next =>
    split at h
    next a d hfind =>
      cases h
      exact State.putDesc_sameSealed hfind
    next => cases h
  next => cases h

theorem State.recPin_sameSealed (s : State) (r : Rec) (i : Nat) : SameSealed s (s.recPin r i).2 := by
  unfold State.recPin
  split
  next u h => exact State.pin_sameSealed h
  next => exact SameSealed.refl s

/-- One open record sees the sealed bucket: it is pinned or gone. -/
def pinRec (b : Bkt) (acc : List Rec × State) (r : Rec) : List Rec × State :=
  match acc.2.winIndex r b with
  | some i =>
    if r.pins.contains i || r.gone.contains i || decide (i < r.next) || decide (r.stop ≤ i) then (acc.1 ++ [r], acc.2)
    else (acc.1 ++ [(acc.2.recPin r i).1], (acc.2.recPin r i).2)
  | none => (acc.1 ++ [r], acc.2)

theorem State.pinRecs_eq (s : State) (b : Bkt) : s.pinRecs b = s.rc.recs.foldl (pinRec b) ([], s) := rfl

theorem pinRec_sameSealed {b : Bkt} {acc : List Rec × State} (h : SameSealed s acc.2) (r : Rec) :
    SameSealed s (pinRec b acc r).2 := by
  unfold pinRec
  split
  next i _ =>
    split
    · exact h
    · exact h.trans (acc.2.recPin_sameSealed r i)
  next => exact h

theorem State.pinSealed_sameSealed (s : State) (b : Bkt) : SameSealed s (s.pinSealed b) := by
  have hrecs (recs : List Rec) : ∀ acc : List Rec × State, SameSealed s acc.2 →
      SameSealed s (recs.foldl (pinRec b) acc).2 := by
    induction recs with
    | nil => exact fun _ h => h
    | cons r recs ih => exact fun acc h => ih _ (pinRec_sameSealed h r)
  exact SameSealed.with_rc (hrecs s.rc.recs ([], s) (SameSealed.refl s)) _

/-- `n` buckets back from bucket `k` of orbit `o`, with the orbit before it is taken modulo 2^32. -/
theorem subBkt_spec {nb : Nat} (hpos : 0 < nb) (o k n : Nat) : ∃ q : Int,
    ((subBkt nb (o, k) n).1 : Int) = q % 2 ^ 32 ∧ (subBkt nb (o, k) n).2 < nb ∧
      q * nb + ((subBkt nb (o, k) n).2 : Int) = (o : Int) * nb + k - n := by
  have hround : n ≤ (n + nb - 1) / nb * nb := by
    have hdiv := Nat.div_add_mod (n + nb - 1) nb
    have hmod := Nat.mod_lt (n + nb - 1) hpos
    rw [Nat.mul_comm] at hdiv
    omega
  generalize hK : (n + nb - 1) / nb = K at hround
  have hsub : subBkt nb (o, k) n = (wrapSub (2 ^ 32) (o + (k + K * nb - n) / nb) K, (k + K * nb - n) % nb) := by
    simp only [subBkt, hK]
  have hm := Nat.div_add_mod (k + K * nb - n) nb
  have hlt := Nat.mod_lt (k + K * nb - n) hpos
  rw [hsub]
  refine ⟨((o + (k + K * nb - n) / nb : Nat) : Int) - K, ?_, hlt, ?_⟩
  · simp only [wrapSub]
    omega
  · dsimp only
    generalize hj : (k + K * nb - n) / nb = j at hm
    generalize (k + K * nb - n) % nb = r at hm hlt
    have hm' : (nb : Int) * j + r = k + K * nb - n := by
      have : nb * j + r + n = k + K * nb := by omega
      exact_mod_cast (by push_cast [← this]; ring : (nb : Int) * j + r = ((k + K * nb : Nat) : Int) - n)
    push_cast
    linear_combination hm'

/-- The bucket before the one to be sealed comes before it. -/
theorem before_subBkt {nb : Nat} (hpos : 0 < nb) (o k n : Nat) :
    diffBkt nb (subBkt nb (o, k) (n + 1)) (subBkt nb (o, k) n) < 0 := by
  obtain ⟨q, hq, hlt, heq⟩ := subBkt_spec hpos o k n
  obtain ⟨p, hp, hlt', heq'⟩ := subBkt_spec hpos o k (n + 1)
  generalize (subBkt nb (o, k) n) = b at hq hlt heq
  generalize (subBkt nb (o, k) (n + 1)) = a at hp hlt' heq'
  have hstep : q * nb + b.2 = p * nb + a.2 + 1 := by push_cast at heq'; linarith
  have hcases : p = q ∨ p = q - 1 := by
    have hlow : p ≤ q := by
      by_contra h
      nlinarith [(by omega : (1 : Int) ≤ p - q)]
    have hhigh : q - 1 ≤ p := by
      by_contra h
      nlinarith [(by omega : (2 : Int) ≤ q - p)]
    omega
  have hdiff : diff32 a.1 b.1 = p - q := by
    rw [diff32, hp, hq]
    rcases hcases with h | h
    · rw [h]; simp
    · rw [h, Int.bmod_def]; omega
  rw [diffBkt, hdiff]
  linarith
/-- The dies that send no marker are counted as stalled. -/
def State.stallsCounted (s : State) (b : Bkt) (markers : List Marker) : State :=
  s.each (List.range 3) fun s n =>
    s.iff (!s.feOutAt n b && markers.getD n .missing == .missing) fun s => s.count (stallFld n)

theorem State.stallsCounted_frame (s : State) (b : Bkt) (markers : List Marker) :
    Frame [] [CX_MERGE_STALL_fe0, CX_MERGE_STALL_fe1, CX_MERGE_STALL_fe2] s (s.stallsCounted b markers) :=
  (Frame.refl _ _ s).each fun u n _ hu => hu.iff fun v hv => hv.count (stallFld n) 1 (by
    unfold stallFld; split <;> decide)

/-- Dies absent from a bucket, whatever is counted. -/
theorem Frame.absentMask {fs : List Fld} {t : State} (h : Frame [] fs s t) (b : Bkt) (markers : List Marker) :
    t.absentMask b markers = s.absentMask b markers := by
  have hmt : t.mt = s.mt := h.parts .mt (by simp)
  have hclock : t.clock = s.clock := h.parts .clock (by simp)
  have hbyp : t.feByp = s.feByp := h.parts .feByp (by simp)
  have hdies : t.dies = s.dies := h.parts .dies (by simp)
  have hout (n : Nat) (b : Bkt) : t.feOutAt n b = s.feOutAt n b := by unfold State.feOutAt; rw [hbyp, hmt]
  have hat (b : Bkt) : t.clockAt b = s.clockAt b := by unfold State.clockAt State.now; rw [hclock, hmt]
  have hunl (n i j : Nat) : t.unlockedIn n i j = s.unlockedIn n i j := by
    unfold State.unlockedIn State.die
    rw [hdies]
  simp only [State.absentMask, hout, hat, hunl]

theorem PartFrame.setDesc {ps : List Part} {t : State} (h : PartFrame ps s t) (k : Nat) (d : Desc)
    (hp : Part.store ∈ ps) : PartFrame ps s (t.setDesc k d) :=
  h.beside rfl fun p => by
    by_cases he : p = .store
    · exact .inl (he ▸ hp)
    · refine .inr ?_
      cases p <;> first | exact absurd rfl he | rfl

/-- What the seal of bucket `b` leaves, before pins and mask tests. -/
theorem State.sealBucket_sealed (s : State) (b : Bkt) (absent : Nat) :
    (s.sealBucket b absent).1.store.lastSealed = some b ∧
    ((s.sealBucket b absent).1.desc (s.slot b)).valid = true ∧
    ((s.sealBucket b absent).1.desc (s.slot b)).orbit = b.1 ∧
    ((s.sealBucket b absent).1.desc (s.slot b)).bucket = b.2 ∧
    ((s.sealBucket b absent).1.desc (s.slot b)).feAbsent = absent ∧
    (s.sealBucket b absent).1.store.sort =
      s.store.sort.filter (fun h => !(h.orbit == b.1 && hitBucket h.word == b.2)) ∧
    PartFrame [.evReq, .store, .rc] s (s.sealBucket b absent).1 := by
  unfold State.sealBucket
  dsimp only
  rw [State.desc_setDesc, if_pos rfl]
  refine ⟨rfl, rfl, rfl, rfl, rfl, rfl, ?_⟩
  exact (((PartFrame.beside (PartFrame.refl _ s)).count _ _).count _ _).setDesc _ _ (by decide)

/-- The bucket is sealed once, and not while the ring is stopped. -/
theorem bucketSeal_of_next {markers : List Marker} (hrun : s.mt.running = true) (hring : s.ringHeld = false)
    (hlast : s.store.lastSealed = none ∨ s.store.lastSealed = some (subBkt s.mt.nb s.now 65)) (hpos : 0 < s.mt.nb) :
    SameSealed ((s.stallsCounted (subBkt s.mt.nb s.now 64) markers).sealBucket (subBkt s.mt.nb s.now 64)
      (s.absentMask (subBkt s.mt.nb s.now 64) markers)).1 (bucketSeal markers s) := by
  have hbefore : s.before (subBkt s.mt.nb s.now 65) (subBkt s.mt.nb s.now 64) = true :=
    decide_eq_true (before_subBkt hpos s.mt.orbit s.mt.bucket 64)
  have hmask := (s.stallsCounted_frame (subBkt s.mt.nb s.now 64) markers).absentMask (subBkt s.mt.nb s.now 64) markers
  rw [← hmask]
  unfold bucketSeal
  dsimp only
  rw [if_neg (by rcases hlast with h | h <;> simp [hrun, hring, h, hbefore])]
  refine SameSealed.depthUpdate (SameSealed.maskTests ?_ _ _)
  change SameSealed _ (if _ then _ else _)
  split
  · exact State.pinSealed_sameSealed _ _
  · exact SameSealed.refl _

theorem bucketSeal_of_still {markers : List Marker} (h : s.ringHeld = true ∨ s.mt.running = false) :
    bucketSeal markers s = s := by
  unfold bucketSeal
  dsimp only
  rw [if_pos]
  rcases h with h | h <;> simp [h]

theorem exec_bucketSeal {markers : List Marker} (hlen : markers.length = 3) (s : State) :
    exec (.bucketSeal markers) s = .next (bucketSeal markers s) :=
  effect_of_wf (by simp [Instr.wf, hlen]) (bucketSeal markers) s

/-- Settles O23: a hit goes the way that the store's state when it is merged gives, and the seal writes the
descriptor that later pins and mask tests leave but for its pins. -/
theorem hitsMergeAndBucketsSeal : Obligations.HitsMergeAndBucketsSeal := by
  unfold Obligations.HitsMergeAndBucketsSeal
  refine ⟨?joins, ?late, ?stopped, ?discarded, ?seals, ?still⟩
  case joins =>
    intro s n orbit w late hn hrun hhit hout hring hflush hvalid hopen hroom hovr hshadows
    obtain ⟨t, hmerged, hframe, hchans⟩ := State.hit_reaches hn hrun hhit hout late
    obtain ⟨hflush', hring', hvalid', hfrom', hsealed', hstore'⟩ := hframe.sameMerge
    refine ⟨_, hmerged, ?_⟩
    rw [mergeStore_of_room (hflush'.trans hflush) (hring'.trans hring) (by rwa [hvalid', hfrom'])
      ((hsealed' _).trans hopen) (by rwa [State.sortCount, hstore'])]
    have hsort := t.sortIn_frame n orbit w
    obtain ⟨hlast, hqueue⟩ := State.sortIn_of_clear (s := t) (by rw [hstore', hshadows]) n orbit hovr
    exact ⟨hlast.trans (by rw [hstore']), hqueue.trans (by rw [hstore']),
      (congrArg some (hsort.parts .chans (by decide))).trans hchans,
      (hframe.partFrame.mono (by decide)).next hsort (by decide)⟩
  case late =>
    intro s n orbit w late hn hrun hhit hout hring hflush hvalid hsealed
    obtain ⟨t, hmerged, hframe, -⟩ := State.hit_reaches hn hrun hhit hout late
    obtain ⟨hflush', hring', hvalid', hfrom', hsealed', hstore'⟩ := hframe.sameMerge
    refine ⟨_, hmerged, ?_⟩
    rw [mergeStore_of_sealed (hflush'.trans hflush) (hring'.trans hring) (by rwa [hvalid', hfrom'])
      ((hsealed' _).trans hsealed)]
    refine ⟨?_, ?_, ?_, ((hframe.partFrame.mono (by decide)).count _ _).flag _ _ _ (by decide)⟩
    · rw [State.flag_store, State.count_store, hstore']
    · rw [State.get_flag_ne _ (by decide) (by decide), State.get_count_same, hframe.get (by decide)]
    · rw [State.on, State.get_flag_same _ rfl (by decide)]
      rfl
  case stopped =>
    intro s n orbit w late hn hrun hhit hout hring hflush
    obtain ⟨t, hmerged, hframe, -⟩ := State.hit_reaches hn hrun hhit hout late
    obtain ⟨hflush', hring', -, -, -, hstore'⟩ := hframe.sameMerge
    refine ⟨_, hmerged, ?_⟩
    rw [mergeStore_of_stopped (hflush'.trans hflush) (hring'.trans hring)]
    exact ⟨hstore', by rw [State.get_count_same, hframe.get (by decide)]⟩
  case discarded =>
    intro s n orbit w late bad hn hrun hhit hbad
    refine ⟨_, exec_hitMerge hn hrun late, ?_⟩
    obtain ⟨⟨o, w', b, u⟩, hnext, heq⟩ := Option.map_eq_some_iff.1 hhit
    obtain ⟨rfl, rfl, rfl⟩ := by simpa using heq
    rw [hitMerge_of_hit hnext, if_pos (by simpa using hbad), hnext]
    exact ⟨rfl, State.nextHit_frame hnext⟩
  case seals =>
    intro s markers hlen hrun hring hlast hpos hnb hbucket horbit
    refine ⟨_, exec_bucketSeal hlen s, ?_⟩
    have hstall := s.stallsCounted_frame (subBkt s.mt.nb s.now 64) markers
    have hsame := bucketSeal_of_next (markers := markers) hrun hring hlast hpos
    have hsealed := (s.stallsCounted (subBkt s.mt.nb s.now 64) markers).sealBucket_sealed (subBkt s.mt.nb s.now 64)
      (s.absentMask (subBkt s.mt.nb s.now 64) markers)
    have hslot : (s.stallsCounted (subBkt s.mt.nb s.now 64) markers).slot (subBkt s.mt.nb s.now 64) =
        s.slot (subBkt s.mt.nb s.now 64) := by
      rw [State.slot, (hstall.parts .mt (by simp) : _ = s.mt), State.slot]
    rw [hslot] at hsealed
    obtain ⟨hlastSealed, hvalid, horbit', hbucket', habsent, hsort, hframe⟩ := hsealed
    have hdesc := hsame.desc (s.slot (subBkt s.mt.nb s.now 64))
    simp only [Desc.unpinned, Desc.mk.injEq] at hdesc
    obtain ⟨-, -, -, -, -, hsameAbsent, hsameOrbit, hsameBucket, -, -, hsameValid⟩ := hdesc
    refine ⟨hsame.lastSealed.trans hlastSealed, hsameValid.trans hvalid, hsameOrbit.trans horbit',
      hsameBucket.trans hbucket', hsameAbsent.trans habsent, (hsame.sort.trans hsort).trans ?_, ?_⟩
    · rw [(hstall.parts .store (by simp) : _ = s.store)]
    · exact ((hstall.partFrame.mono (by simp)).trans hframe).trans hsame.frame
  case still => exact fun s markers h => effect_of_fixed (bucketSeal_of_still h) _

end Sys2Proof.Machine
end

section
/-! SUPPORT and PROOF. Rows take the hits of a bucket; buckets are done, age out or are kept (R200 to R205). -/

namespace Sys2Proof.Machine

open Sys2Proof

variable {s : State}

/-! ## The count of free rows -/

/-- The registers that show the free rows. -/
def freeRowFields : List Fld := [CX_HQ_FREE_rows, CX_HQ_STATUS_low, MG_EVLOG_merged]

theorem State.setFree_frame (s : State) : Frame [.evReq] freeRowFields s s.setFree :=
  ((Frame.refl _ _ s).set _ _ (by decide)).iff fun _ hu => hu.flag _ _ _ (by decide) (by decide) (by decide)

theorem State.setFree_rows (s : State) : s.setFree.get CX_HQ_FREE_rows = s.freeRows % 2 ^ 21 := by
  unfold State.setFree State.iff
  dsimp only
  split
  · rw [State.get_flag_ne _ (by decide) (by decide), State.get_set_same]; rfl
  · rw [State.get_set_same]; rfl

theorem State.setFree_store (s : State) : s.setFree.store = s.store := s.setFree_frame.parts .store (by decide)

/-- The state once a row of the rebuilt free list is taken. -/
def State.rowTaken (s : State) (row : Nat) : State :=
  State.setFree { s with store := { s.store with
    fresh := s.store.fresh - 1, taken := Sparse.insert row true s.store.taken } }

theorem State.takeRow_of_fresh {row : Nat} (hrow : row < 1048576) (hfresh : 0 < s.store.fresh)
    (hfree : Sparse.has row s.store.taken = false) : s.takeRow row = some (row, s.rowTaken row) := by
  simp [State.takeRow, hfresh, hrow, hfree, State.rowTaken]

/-! ## Entries and links -/

theorem State.repairWrite_frame (s : State) (m i v : Nat) : Frame [.prot] [] s (s.repairWrite m i v) := by
  unfold State.repairWrite
  split
  · exact Frame.beside (Frame.refl _ _ s)
  · exact Frame.refl _ _ s

theorem State.repairWrite_store (s : State) (m i v : Nat) : (s.repairWrite m i v).store = s.store :=
  (s.repairWrite_frame m i v).parts .store (by decide)

theorem State.setLink_frame (s : State) (r v : Nat) : Frame [.store, .prot] [] s (s.setLink r v) :=
  Frame.next (Frame.beside (Frame.refl _ _ s)) (State.repairWrite_frame _ _ _ _) (by decide) (by decide)

theorem State.setLink_store (s : State) (r v : Nat) :
    (s.setLink r v).store = { s.store with links := Sparse.put 0 r v s.store.links } := State.repairWrite_store _ _ _ _

theorem State.writeEntry_frame (s : State) (bank row v : Nat) :
    Frame [.store, .prot] [] s (s.writeEntry bank row v) :=
  Frame.next (Frame.beside (Frame.refl _ _ s)) (State.repairWrite_frame _ _ _ _) (by decide) (by decide)

theorem State.writeEntry_store (s : State) (bank row v : Nat) : (s.writeEntry bank row v).store =
    { s.store with entries := Sparse.put 0 (entryKey bank row) v s.store.entries } := State.repairWrite_store _ _ _ _

theorem Frame.setDesc {ps : List Part} {fs : List Fld} {t : State} (h : Frame ps fs s t) (k : Nat) (d : Desc)
    (hp : Part.store ∈ ps) : Frame ps fs s (t.setDesc k d) := h.with_store _ hp

/-- Hits, one for a bank each, are written to their entries of row `r`. -/
def State.writeHits (s : State) (r : Nat) (l : List (Nat × Nat)) : State := s.each l fun s e => s.writeEntry e.1 r e.2

theorem State.writeHits_frame (s : State) (r : Nat) (l : List (Nat × Nat)) :
    Frame [.store, .prot] [] s (s.writeHits r l) :=
  (Frame.refl _ _ s).each fun u e _ hu => hu.trans (u.writeEntry_frame e.1 r e.2)

/-- The entries of row `r` written, in order. -/
def entriesWith (r : Nat) (l : List (Nat × Nat)) (m : List (Nat × Nat)) : List (Nat × Nat) :=
  l.foldl (fun m e => Sparse.put 0 (entryKey e.1 r) e.2 m) m

theorem State.writeHits_store (s : State) (r : Nat) (l : List (Nat × Nat)) :
    (s.writeHits r l).store = { s.store with entries := entriesWith r l s.store.entries } := by
  induction l generalizing s with
  | nil => rfl
  | cons e l ih => exact (ih _).trans (by rw [State.writeEntry_store]; rfl)

theorem entriesWith_get_ne {r b : Nat} {l m : List (Nat × Nat)} (h : ∀ e ∈ l, e.1 ≠ b) :
    Sparse.get 0 (entryKey b r) (entriesWith r l m) = Sparse.get 0 (entryKey b r) m := by
  induction l generalizing m with
  | nil => rfl
  | cons e l ih =>
    obtain ⟨hne, hl⟩ := List.forall_mem_cons.1 h
    refine (ih hl).trans (Sparse.get_put_ne _ _ ?_ _ _)
    simp only [entryKey]
    omega

/-- Each bank's entry holds its hit. -/
theorem entriesWith_get {r : Nat} {e : Nat × Nat} {l m : List (Nat × Nat)} (hl : l.Pairwise fun a b => a.1 ≠ b.1)
    (he : e ∈ l) : Sparse.get 0 (entryKey e.1 r) (entriesWith r l m) = e.2 := by
  induction l generalizing m with
  | nil => simp at he
  | cons a l ih =>
    obtain ⟨hne, hl⟩ := List.pairwise_cons.1 hl
    rcases List.mem_cons.1 he with rfl | he
    · exact (entriesWith_get_ne fun b hb => (hne b hb).symm).trans (Sparse.get_put_same _ _ _ _)
    · exact ih hl he

theorem banksOf_nodup (m : Nat) : (banksOf m).Nodup := List.nodup_range.filter _

theorem zip_pairwise_fst {l l' : List Nat} (h : l.Nodup) : (l.zip l').Pairwise fun a b => a.1 ≠ b.1 := by
  induction l generalizing l' with
  | nil => exact List.Pairwise.nil
  | cons a l ih =>
    cases l' with
    | nil => exact List.Pairwise.nil
    | cons b l' =>
      obtain ⟨hne, hl⟩ := List.nodup_cons.1 h
      refine List.pairwise_cons.2 ⟨fun e he hae => hne ?_, ih hl⟩
      have hfst : a = e.1 := hae
      rw [hfst]
      exact (List.of_mem_zip (a := e.1) (b := e.2) he).1

theorem zip_getD_mem {l l' : List Nat} {k : Nat} (hk : k < l.length) (hk' : k < l'.length) :
    (l.getD k 0, l'.getD k 0) ∈ l.zip l' := by
  refine List.mem_iff_getElem.2 ⟨k, by simp [hk, hk'], ?_⟩
  simp [hk, hk']

/-- The first row of a bucket takes a hit for each bank in service. -/
theorem State.writeRow_of_first {q : WaitBkt} {rest : List WaitBkt} (hwq : s.store.wq = q :: rest)
    (hfirst : (s.desc q.slot).count = 0) (r : Nat) :
    let banks := banksOf (s.get CX_HQ_BANKS_in_service)
    let part := q.hits.take banks.length
    (s.writeRow r).store = { s.store with
      entries := entriesWith r (banks.zip part) s.store.entries
      links := Sparse.put 0 r (linkWord 0 part.length (s.get CX_HQ_BANKS_in_service) r) s.store.links
      desc := Sparse.put Desc.clear q.slot { s.desc q.slot with head := r, tail := r, count := part.length } s.store.desc
      wq := { q with hits := q.hits.drop banks.length } :: rest
      stale := Sparse.put 0 r 0 s.store.stale } := by
  dsimp only
  have hdesc : (s.writeHits r ((banksOf (s.get CX_HQ_BANKS_in_service)).zip (q.hits.take
      (banksOf (s.get CX_HQ_BANKS_in_service)).length))).store = _ := State.writeHits_store _ _ _
  simp only [State.writeHits] at hdesc
  simp only [State.writeRow, hwq, hfirst, if_true, State.setDesc, State.setLink_store, hdesc, Nat.zero_add]

/-- What the first row of bucket `q` shows once it is written: `n` hits, one for each bank, the rest wait. -/
structure FirstRow (q : WaitBkt) (rest : List WaitBkt) (r n mask : Nat) (t : State) : Prop where
  wq : t.store.wq = { q with hits := q.hits.drop n } :: rest
  head : (t.desc q.slot).head = r
  tail : (t.desc q.slot).tail = r
  count : (t.desc q.slot).count = n
  link : t.link r = n * 2 ^ 36 + mask * 2 ^ 20 + r
  entry : ∀ k, k < q.hits.length → k < (banksOf mask).length →
    Sparse.get 0 (2 ^ 20 * (banksOf mask).getD k 0 + r) t.store.entries = q.hits.getD k 0

theorem drop_min_length (l : List Nat) (n : Nat) : l.drop (min l.length n) = l.drop n := by
  rcases Nat.le_total l.length n with h | h
  · rw [Nat.min_eq_left h, List.drop_length, List.drop_of_length_le h]
  · rw [Nat.min_eq_right h]

theorem State.writeRow_firstRow {q : WaitBkt} {rest : List WaitBkt} (hwq : s.store.wq = q :: rest)
    (hfirst : (s.desc q.slot).count = 0) (r : Nat) : FirstRow q rest r (min q.hits.length (banksOf (s.get
      CX_HQ_BANKS_in_service)).length) (s.get CX_HQ_BANKS_in_service) (s.writeRow r) := by
  have hwritten := State.writeRow_of_first hwq hfirst r
  dsimp only at hwritten
  have hdesc : (s.writeRow r).desc q.slot = { s.desc q.slot with
      head := r, tail := r, count := (q.hits.take (banksOf (s.get CX_HQ_BANKS_in_service)).length).length } := by
    rw [State.desc, hwritten]
    exact Sparse.get_put_same _ _ _ _
  have hlen : (q.hits.take (banksOf (s.get CX_HQ_BANKS_in_service)).length).length =
      min q.hits.length (banksOf (s.get CX_HQ_BANKS_in_service)).length := by
    rw [List.length_take, Nat.min_comm]
  refine ⟨?wq, ?head, ?tail, ?count, ?link, fun k hk hbank => ?entry⟩
  case wq => rw [hwritten, drop_min_length]
  case head => rw [hdesc]
  case tail => rw [hdesc]
  case count => rw [hdesc, hlen]
  case link =>
    rw [State.link, hwritten]
    dsimp only
    rw [Sparse.get_put_same, hlen, linkWord, Nat.zero_mul, Nat.zero_add]
  case entry =>
    have hmem := zip_getD_mem hbank (l' := q.hits.take (banksOf (s.get CX_HQ_BANKS_in_service)).length)
      (by simp; omega)
    rw [hwritten]
    refine (entriesWith_get (zip_pairwise_fst (banksOf_nodup _)) hmem).trans ?_
    simp [List.getD_eq_getElem?_getD, hbank]

theorem State.writeRow_frame (s : State) (r : Nat) : Frame [.store, .prot] [] s (s.writeRow r) := by
  unfold State.writeRow
  split
  next w rest _ =>
    have hhits := s.writeHits_frame r ((banksOf (s.get CX_HQ_BANKS_in_service)).zip (w.hits.take
      (banksOf (s.get CX_HQ_BANKS_in_service)).length))
    exact Frame.with_store (Frame.setDesc (Frame.trans (Frame.ite hhits (hhits.trans (State.setLink_frame _ _ _)))
      (State.setLink_frame _ _ _)) _ _ (by decide)) _ (by decide)
  next => exact Frame.refl _ _ s

theorem exec_storeRowWrite {row : Nat} (hrow : row < 1048576) (hrun : s.mt.running = true) :
    exec (.storeRowWrite row) s = .next (storeRowWrite row s) :=
  effectMs_of_running (c := .storeRowWrite row) (decide_eq_true (by omega)) hrun _

theorem banksOf_zero : banksOf 0 = [] := by decide

theorem State.rowTaken_frame (s : State) (row : Nat) : Frame [.store, .evReq] freeRowFields s (s.rowTaken row) :=
  Frame.next (Frame.beside (Frame.refl _ _ s)) (State.setFree_frame _) (by decide) (fun _ h => h)

theorem State.rowTaken_store (s : State) (row : Nat) : (s.rowTaken row).store =
    { s.store with fresh := s.store.fresh - 1, taken := Sparse.insert row true s.store.taken } := State.setFree_store _

theorem State.rowTaken_rows {row : Nat} (h : 0 < s.store.fresh) :
    (s.rowTaken row).get CX_HQ_FREE_rows = (s.freeRows - 1) % 2 ^ 21 := by
  rw [State.rowTaken, State.setFree_rows]
  simp only [State.freeRows]
  congr 1
  omega

theorem storeRowWrite_of_fresh {row : Nat} {q : WaitBkt} {rest : List WaitBkt} (hrow : row < 1048576)
    (hwq : s.store.wq = q :: rest) (hhits : q.hits ≠ []) (hbanks : banksOf (s.get CX_HQ_BANKS_in_service) ≠ [])
    (hfresh : 0 < s.store.fresh) (hfree : Sparse.has row s.store.taken = false) :
    storeRowWrite row s = (s.rowTaken row).writeRow row := by
  have hservice : s.get CX_HQ_BANKS_in_service ≠ 0 := fun h => hbanks (h ▸ banksOf_zero)
  have hrows : s.freeRows ≠ 0 := by simp only [State.freeRows]; omega
  simp only [storeRowWrite, hwq, hhits, hservice, hrows, if_false, State.takeRow_of_fresh hrow hfresh hfree]

/-! ## Buckets done -/

/-- Pins change descriptors and records only. -/
structure PinsOnly (s t : State) : Prop where
  csr : t.csr = s.csr
  wq : t.store.wq = s.store.wq
  entries : t.store.entries = s.store.entries
  links : t.store.links = s.store.links

theorem PinsOnly.trans {t u : State} (h : PinsOnly s t) (h' : PinsOnly t u) : PinsOnly s u :=
  ⟨h'.csr.trans h.csr, h'.wq.trans h.wq, h'.entries.trans h.entries, h'.links.trans h.links⟩

theorem State.putDesc_pinsOnly (s : State) (a : DescAt) (d : Desc) : PinsOnly s (s.putDesc a d) := by
  cases a <;> exact ⟨rfl, rfl, rfl, rfl⟩

theorem State.recPin_pinsOnly (s : State) (r : Rec) (i : Nat) : PinsOnly s (s.recPin r i).2 := by
  unfold State.recPin State.pin
  split
  next u h =>
    split at h
    next =>
      split at h
      next => cases h; exact s.putDesc_pinsOnly _ _
      next => cases h
    next => cases h
  next => exact ⟨rfl, rfl, rfl, rfl⟩

theorem pinRec_pinsOnly {b : Bkt} {acc : List Rec × State} (h : PinsOnly s acc.2) (r : Rec) :
    PinsOnly s (pinRec b acc r).2 := by
  unfold pinRec
  split
  next i _ =>
    split
    · exact h
    · exact h.trans (acc.2.recPin_pinsOnly r i)
  next => exact h

theorem State.pinSealed_pinsOnly (s : State) (b : Bkt) : PinsOnly s (s.pinSealed b) := by
  have hrecs (recs : List Rec) : ∀ acc : List Rec × State, PinsOnly s acc.2 →
      PinsOnly s (recs.foldl (pinRec b) acc).2 := by
    induction recs with
    | nil => exact fun _ h => h
    | cons r recs ih => exact fun acc h => ih _ (pinRec_pinsOnly h r)
  exact (hrecs s.rc.recs ([], s) ⟨rfl, rfl, rfl, rfl⟩).trans ⟨rfl, rfl, rfl, rfl⟩

theorem bucketWriteDone_of_done {q : WaitBkt} {rest : List WaitBkt} (hwq : s.store.wq = q :: rest)
    (hdone : q.hits = []) : bucketWriteDone s = s.sealFront.pinSealed (q.orbit, (s.desc q.slot).bucket) := by
  simp only [bucketWriteDone, hwq, hdone, if_true]

theorem State.sealFront_of_done {q : WaitBkt} {rest : List WaitBkt} (hwq : s.store.wq = q :: rest) : s.sealFront =
    State.setDesc { s with store := { s.store with wq := rest } } q.slot { s.desc q.slot with written := true } := by
  simp only [State.sealFront, hwq]
  rfl

/-! ## Buckets that age out -/

theorem ageOut_of_running (hring : s.ringHeld = false) (hrun : s.mt.running = true) :
    ageOut false none s = (s.ageOutSlot ((s.slot s.now + 64) % 32768)).depthUpdate := by
  simp [ageOut, hring, hrun]

theorem ageOut_of_held (desc : Bool) (link : Option Nat) (h : s.ringHeld = true) : ageOut desc link s = s :=
  if_pos (by simp [h])

theorem exec_ageOut {link : Option Nat} (h : link.all (fun r => decide (r < 2 ^ 20)) = true) (desc : Bool) (s : State) :
    exec (.ageOut desc link) s = .next (ageOut desc link s) :=
  effect_of_wf (c := .ageOut desc link) h (ageOut desc link) s

theorem State.depthUpdate_frame (s : State) : Frame [] [CX_HQ_DEPTH_min] s s.depthUpdate :=
  Frame.ite ((Frame.refl _ _ s).set _ _ (by decide)) (Frame.refl _ _ s)

/-- The rows of a list that are not disabled. -/
def State.enabledRows (s : State) (rows : List Nat) : List Nat := rows.filter fun r => !Sparse.has r s.store.disabled

theorem State.freeRowList_spec (s : State) (rows : List Nat) :
    (s.freeRowList rows).store = { s.store with freed := s.store.freed ++ s.enabledRows rows } ∧
    (s.freeRowList rows).get CX_HQ_FREE_rows = (s.store.fresh + (s.freeRowList rows).store.freed.length) % 2 ^ 21 ∧
    Frame [.store, .prot, .evReq] freeRowFields s (s.freeRowList rows) := by
  have hmarks : Frame [.prot] [] s (s.each (s.enabledRows rows) fun s r => s.setMark memLink r 0) :=
    (Frame.refl _ _ s).each fun u r _ hu => Frame.beside hu
  have hstore : (s.each (s.enabledRows rows) fun s r => s.setMark memLink r 0).store = s.store :=
    hmarks.parts .store (by decide)
  have heq : s.freeRowList rows = State.setFree { s.each (s.enabledRows rows) (fun s r => s.setMark memLink r 0) with
      store := { s.store with freed := s.store.freed ++ s.enabledRows rows } } := by
    rw [← hstore]
    rfl
  rw [heq]
  refine ⟨State.setFree_store _, ?_, ?_⟩
  · rw [State.setFree_rows, State.setFree_store]
    rfl
  · exact (Frame.beside (hmarks.mono (by decide) (by simp))).next (State.setFree_frame _) (by decide) (fun _ h => h)

/-- The registers that a bucket freed changes. -/
def freedFields : List Fld := [CX_HQ_FREE_rows, CX_HQ_STATUS_low, CX_HQ_POISON_aged, MG_EVLOG_merged]

/-- Without pins the rows of the bucket go back to the free list. -/
theorem State.ageOutSlot_of_unpinned {k : Nat} (hvalid : (s.desc k).valid = true) (hpins : (s.desc k).pins = 0) :
    ((s.ageOutSlot k).desc k).valid = false ∧
    (s.ageOutSlot k).store.freed = s.store.freed ++ s.enabledRows ((s.rowsOf (s.desc k)).map (·.1)) ∧
    (s.ageOutSlot k).get CX_HQ_FREE_rows = (s.store.fresh + (s.ageOutSlot k).store.freed.length) % 2 ^ 21 ∧
    Frame [.store, .prot, .evReq] freedFields s (s.ageOutSlot k) := by
  obtain ⟨aged, hfreed⟩ : ∃ aged, s.freeBucket (s.desc k) =
      (s.count CX_HQ_POISON_aged aged).freeRowList ((s.rowsOf (s.desc k)).map (·.1)) := ⟨_, rfl⟩
  have heq : s.ageOutSlot k = (s.freeBucket (s.desc k)).setDesc k { (s.freeBucket (s.desc k)).desc k with valid := false } := by
    simp only [State.ageOutSlot, hvalid, hpins, Bool.not_true, Bool.false_eq_true, if_false, if_true]
  rw [heq, hfreed]
  obtain ⟨hstore, hrows, hframe⟩ := (s.count CX_HQ_POISON_aged aged).freeRowList_spec ((s.rowsOf (s.desc k)).map (·.1))
  have henabled : (s.count CX_HQ_POISON_aged aged).enabledRows ((s.rowsOf (s.desc k)).map (·.1)) =
      s.enabledRows ((s.rowsOf (s.desc k)).map (·.1)) := rfl
  rw [henabled, State.count_store] at hstore
  rw [State.count_store] at hrows
  generalize (s.count CX_HQ_POISON_aged aged).freeRowList ((s.rowsOf (s.desc k)).map (·.1)) = t at hstore hrows hframe
  have hfreed (d : Desc) : (t.setDesc k d).store.freed = t.store.freed := rfl
  refine ⟨?_, ?_, ?_, ?_⟩
  · rw [State.desc_setDesc, if_pos rfl]
  · rw [hfreed, hstore]
  · rw [hfreed, ← hrows]
    rfl
  · exact Frame.setDesc (((Frame.refl _ _ s).count _ _ (by decide)).next hframe (by decide) (by decide)) _ _ (by decide)

theorem State.keepPlace_of_lowest {p : Nat} (hp : p < 4096) (hfree : Sparse.has p s.store.keep = false)
    (hlow : ∀ q < p, Sparse.has q s.store.keep = true) : s.keepPlace = some p := by
  unfold State.keepPlace
  rw [List.find?_range_eq_some]
  exact ⟨by simp [hfree], List.mem_range.2 hp, fun q hq => by simp [hlow q hq]⟩

/-- With pins the descriptor moves to the lowest free place of the keep table. -/
theorem State.ageOutSlot_of_pinned {k p : Nat} (hvalid : (s.desc k).valid = true) (hpins : (s.desc k).pins ≠ 0)
    (hplace : s.keepPlace = some p) : s.ageOutSlot k =
      ((s.setDesc k { s.desc k with valid := false }).putDesc (.keep p) (s.desc k)).set CX_HQ_KEEP_used
        (Sparse.insert p (s.desc k) s.store.keep).length := by
  simp only [State.ageOutSlot, hvalid, hpins, hplace, Bool.not_true, Bool.false_eq_true, if_false]
  rfl

/-- Settles O24: each clause is what its operation does to rows, descriptors and the keep table. -/
theorem rowsAreWrittenSealedAndAgedOut : Obligations.RowsAreWrittenSealedAndAgedOut := by
  unfold Obligations.RowsAreWrittenSealedAndAgedOut
  refine ⟨?row, ?done, ?aged, ?kept, ?held⟩
  case row =>
    intro s row k q rest hrow hrun hwq hhits hbanks hfresh hfree hfirst hkHits hkBanks
    refine ⟨_, exec_storeRowWrite hrow hrun, ?_⟩
    rw [storeRowWrite_of_fresh hrow hwq hhits hbanks hfresh hfree]
    have hrows := State.rowTaken_rows (row := row) hfresh
    have htaken := s.rowTaken_frame row
    have hstore := s.rowTaken_store row
    have hbanks' : (s.rowTaken row).get CX_HQ_BANKS_in_service = s.get CX_HQ_BANKS_in_service :=
      htaken.get (by decide)
    have hdesc : (s.rowTaken row).desc q.slot = s.desc q.slot := by rw [State.desc, hstore]; rfl
    generalize s.rowTaken row = t at hrows htaken hstore hbanks' hdesc
    obtain ⟨hwait, hhead, htail, hcount, hlink, hentry⟩ := State.writeRow_firstRow (s := t) (rest := rest)
      (by rw [hstore]; exact hwq) (by rw [hdesc]; exact hfirst) row
    rw [hbanks'] at hwait hcount hlink hentry
    have hframe := t.writeRow_frame row
    have hkeeps : (t.writeRow row).store.taken = t.store.taken := by
      rw [State.writeRow_of_first (by rw [hstore]; exact hwq) (by rw [hdesc]; exact hfirst) row]
    refine ⟨hwait, hhead, htail, hcount, hlink, hentry k hkHits hkBanks, (hframe.get (by simp)).trans hrows, ?_, ?_⟩
    · rw [hkeeps, hstore, sparse_has_insert]
      simp
    · exact (htaken.mono (by decide) (by decide)).next hframe (by decide) (by decide)
  case done =>
    intro s q rest hrun hwq hdone hvalid
    refine ⟨_, effectMs_of_running (c := .bucketWriteDone) rfl hrun _, ?_⟩
    rw [bucketWriteDone_of_done hwq hdone, State.sealFront_of_done hwq]
    generalize (q.orbit, (s.desc q.slot).bucket) = b
    have hdesc (d : Desc) : (State.setDesc { s with store := { s.store with wq := rest } } q.slot d).desc q.slot = d := by
      rw [State.desc_setDesc, if_pos rfl]
    have hframe : PartFrame [.evReq, .store, .rc] s (State.setDesc { s with store := { s.store with wq := rest } } q.slot
        { s.desc q.slot with written := true }) := PartFrame.beside (PartFrame.refl _ s)
    obtain ⟨hcsr, hwait, hentries, hlinks⟩ := State.pinSealed_pinsOnly (State.setDesc
      { s with store := { s.store with wq := rest } } q.slot { s.desc q.slot with written := true }) b
    have hsame := State.pinSealed_sameSealed (State.setDesc
      { s with store := { s.store with wq := rest } } q.slot { s.desc q.slot with written := true }) b
    have hpinned := hsame.desc q.slot
    rw [hdesc] at hpinned
    simp only [Desc.unpinned, Desc.mk.injEq] at hpinned
    obtain ⟨-, -, hcount, -, -, -, -, -, -, hwritten, -⟩ := hpinned
    exact ⟨hwait, hwritten, hcount, hentries, hlinks, hcsr, hframe.trans hsame.frame⟩
  case aged =>
    intro s hring hrun hvalid hpins
    refine ⟨_, exec_ageOut rfl false s, ?_⟩
    rw [ageOut_of_running hring hrun]
    obtain ⟨hgone, hfreed, hrows, hframe⟩ := State.ageOutSlot_of_unpinned hvalid hpins
    have hdepth := (s.ageOutSlot ((s.slot s.now + 64) % 32768)).depthUpdate_frame
    have hstore : (s.ageOutSlot ((s.slot s.now + 64) % 32768)).depthUpdate.store =
      (s.ageOutSlot ((s.slot s.now + 64) % 32768)).store := hdepth.parts .store (by simp)
    refine ⟨?_, ?_, ?_, (hframe.mono (by decide) (by decide)).next hdepth (by decide) (by decide)⟩
    · rw [State.desc, hstore]; exact hgone
    · rw [hstore, hfreed]; rfl
    · rw [hdepth.get (by decide), hrows, hstore]
  case kept =>
    intro s p hring hrun hvalid hpins hp hfree hlow
    refine ⟨_, exec_ageOut rfl false s, ?_⟩
    rw [ageOut_of_running hring hrun, State.ageOutSlot_of_pinned hvalid hpins (State.keepPlace_of_lowest hp hfree hlow)]
    generalize hk : (s.slot s.now + 64) % 32768 = k
    generalize hu : ((s.setDesc k { s.desc k with valid := false }).putDesc (.keep p) (s.desc k)).set CX_HQ_KEEP_used
        (Sparse.insert p (s.desc k) s.store.keep).length = u
    have hdepth := u.depthUpdate_frame
    have hstore : u.depthUpdate.store = u.store := hdepth.parts .store (by simp)
    have hframe : Frame [.store] [CX_HQ_KEEP_used, CX_HQ_DEPTH_min] s u := by
      rw [← hu]
      exact Frame.set (Frame.beside (Frame.refl _ _ s)) _ _ (by decide)
    refine ⟨?_, ?_, ?_, ?_, hframe.next hdepth (by decide) (by decide)⟩
    · rw [State.desc, hstore, ← hu]
      exact congrArg Desc.valid (Sparse.get_put_same _ _ _ _)
    · rw [hstore, ← hu]
      exact Sparse.get_insert_same _ _ _ _
    · rw [hstore, ← hu]
      rfl
    · rw [hdepth.get (by decide), hstore, ← hu, State.get_set_same]
      rfl
  case held => exact fun s desc link hring hlink => by rw [exec_ageOut hlink, ageOut_of_held desc link hring]

end Sys2Proof.Machine
end

section
/-! SUPPORT. A bucket edge at which no accept and no action of the calendar waits. -/

namespace Sys2Proof.Machine

open Sys2Proof

variable {s : State}

/-- The state in the next bucket, before what waits for the edge is done. -/
def State.passed (s : State) : State :=
  { s with
    clock := s.clock + 1
    mt := { s.mt with bucket := s.mt.bucket + 1, orbitOut := false, tick := 0, fired := [], edge := [] } }

theorem State.calRun_of_off (h : s.calMay CX_CAL_EN_enable = false) (hi : Nat) : s.calRun hi = s := by
  simp [State.calRun, State.calDue, h]

theorem State.takeArrived_of_none (h : s.tg.arrived = []) : s.takeArrived s.tg.arrived.length = s := by
  rw [State.takeArrived, h]
  have htg : ({ s.tg with arrived := [] } : Tg) = s.tg := by rw [← h]
  simp only [List.drop_nil, List.take_nil, htg]
  rfl

theorem State.jump_of_steady (h : s.get CX_MT_STATUS_state ≠ 3) : s.jump 1 = { s with
    clock := s.clock + 1
    mt := { s.mt with bucket := s.mt.bucket + 1, orbitOut := false, tick := 0, fired := [] } } := by
  have h' : State.get { s with
    clock := s.clock + 1
    mt := { s.mt with bucket := s.mt.bucket + 1, orbitOut := false, tick := 0, fired := [] } } CX_MT_STATUS_state ≠ 3 := h
  rw [State.jump, if_neg (by decide)]
  exact if_neg h'

/-- The edge into the next bucket of the orbit with nothing but the acts that wait for it. -/
theorem State.tick_quiet (hrun : s.mt.running = true) (hheld : s.mt.held = false) (hb : s.mt.bucket + 1 < s.mt.nb)
    (hstop : s.stopDue = false) (harrived : s.tg.arrived = []) (hcal : s.calMay CX_CAL_EN_enable = false)
    (hstate : s.get CX_MT_STATUS_state ≠ 3) : s.tick = s.passed.each s.mt.edge State.edgeAct := by
  have hacts : (s.jump 1).edgeActs = s.passed.each s.mt.edge State.edgeAct := by
    rw [State.jump_of_steady hstate]
    rfl
  have hbucket : (s.jump 1).edgeActs.mt.bucket = s.mt.bucket + 1 :=
    ((SameTime.refl (s.jump 1)).edgeActs).bucket.trans (s.jump_bucket 1)
  rw [State.tick_within hrun hheld hb, State.pass, if_neg (by decide), hstop]
  simp only [Bool.false_eq_true, if_false, State.calRun_of_off hcal]
  rw [State.moveTo, if_neg (by omega), State.takeArrived_of_none harrived]
  dsimp only
  rw [hbucket, Nat.sub_self, State.jump_zero, hacts]

theorem State.passed_frame (s : State) : Frame [.clock, .mt] [] s s.passed := Frame.beside (Frame.refl _ _ s)

end Sys2Proof.Machine
end

section
/-! SUPPORT and PROOF. Flushes, the depth register, banks and spare rows (R207, R214 to R223). -/

namespace Sys2Proof.Machine

open Sys2Proof

variable {s : State}

/-! ## Flushes -/

theorem exec_hqFlush (s : State) : exec .hqFlush s = .next (hqFlush s) := effect_of_wf rfl hqFlush s

/-- What a flush that begins has cleared. -/
structure FlushBegun (s t : State) : Prop where
  flushing : t.get CX_HQ_STATUS_flushing = 1
  valid : t.get CX_HQ_VALID_BT_valid = 0
  keepUsed : t.get CX_HQ_KEEP_used = 0
  desc : t.store.desc = []
  keep : t.store.keep = []
  sort : t.store.sort = []
  wq : t.store.wq = []
  stopped : t.store.stopped = s.store.stopped
  lastSealed : t.store.lastSealed = none
  frame : Frame [.store, .rc, .prot] [CX_HQ_STATUS_flushing, CX_HQ_VALID_BT_valid, CX_HQ_KEEP_used] s t

theorem State.flushBegin_begun (s : State) : FlushBegun s s.flushBegin := by
  refine ⟨?_, ?_, ?_, rfl, rfl, rfl, rfl, rfl, rfl, ?_⟩
  · exact State.get_set_fit _ _ (v := 1) (by decide)
  · rw [State.flushBegin, State.flushStart]
    simp (disch := decide) only [State.get_set_ne, State.get_set_fit]
  · rw [State.flushBegin, State.flushStart]
    simp (disch := decide) only [State.get_set_ne, State.get_set_fit]
  · exact Frame.set (Frame.set (Frame.set (Frame.beside (Frame.refl _ _ s)) _ _ (by decide)) _ _ (by decide)) _ _
      (by decide)

/-- The registers that the end of a flush changes. -/
def flushEndFields : List Fld :=
  [CX_HQ_STATUS_flushing, CX_HQ_STATUS_store_ready, CX_HQ_FREE_rows, CX_HQ_CHAIN_leaked, RC_FREEZE_STATUS_state,
    RC_FREEZE_LOST_count, RC_BUSY_busy, MG_EVLOG_merged]

/-- What the end of a flush shows. -/
structure FlushEnded (s t : State) : Prop where
  flushing : t.get CX_HQ_STATUS_flushing = 0
  store : t.store = { s.store with
    stopped := false, everFlushed := true, flushedAt := s.clock, fresh := 1048576 - s.store.disabled.length }
  rows : t.get CX_HQ_FREE_rows = (1048576 - s.store.disabled.length + s.store.freed.length) % 2 ^ 21
  ready : t.get CX_HQ_STATUS_store_ready = if s.store.commitClear = 0 then 1 else 0
  event : s.on CX_HQ_STATUS_store_ready = false → s.store.commitClear = 0 → Sparse.has 71 t.evReq = true
  frame : Frame [.store, .prot, .evReq, .str, .free] flushEndFields s t

/-- The end of a flush before its event. -/
def State.flushClosed (s : State) : State :=
  let u := { s with store := { s.store with
    stopped := false, everFlushed := true, flushedAt := s.clock, fresh := 1048576 - s.store.disabled.length } }
  ((((State.set u CX_HQ_STATUS_flushing 0).updReady).set CX_HQ_FREE_rows
    (1048576 - s.store.disabled.length + s.store.freed.length)).set CX_HQ_CHAIN_leaked 0)

theorem State.flushEnd_eq (s : State) : s.flushEnd = s.flushClosed.iff
    (!s.on CX_HQ_STATUS_store_ready && s.flushClosed.on CX_HQ_STATUS_store_ready) fun u => u.raise 71 := rfl

theorem State.flushEnd_get (s : State) {f : Fld} (h : f.key ≠ MG_EVLOG_merged.key) :
    s.flushEnd.get f = s.flushClosed.get f := by
  rw [State.flushEnd_eq, State.iff]
  split
  · exact State.get_raise_ne _ h _ _
  · rfl

theorem State.flushClosed_ready (s : State) :
    s.flushClosed.get CX_HQ_STATUS_store_ready = if s.store.commitClear = 0 then 1 else 0 := by
  by_cases hclear : s.store.commitClear = 0 <;> simp (disch := decide) [State.flushClosed, State.updReady,
    State.get_set_ne, State.get_setB_same, hclear, b2n]

theorem State.flushEnd_ended (s : State) : FlushEnded s s.flushEnd := by
  refine ⟨?flushing, ?store, ?rows, ?ready, fun hoff hclear => ?event, ?frame⟩
  case flushing =>
    rw [State.flushEnd_get _ (by decide)]
    simp (disch := decide) [State.flushClosed, State.updReady, State.get_set_ne, State.get_setB_ne, State.get_set_same]
  case store =>
    rw [State.flushEnd_eq, State.iff]
    split
    · rw [State.raise_store]; rfl
    · rfl
  case rows =>
    rw [State.flushEnd_get _ (by decide), State.flushClosed]
    simp (disch := decide) only [State.get_set_ne, State.get_set_same]
    rfl
  case ready => rw [State.flushEnd_get _ (by decide), State.flushClosed_ready]
  case event =>
    have hon : s.flushClosed.on CX_HQ_STATUS_store_ready = true := by
      rw [State.on, State.flushClosed_ready, if_pos hclear]
      rfl
    rw [State.flushEnd_eq, hoff, hon]
    exact State.has_raise _ _ _
  case frame =>
    have hclosed : Frame [.store, .prot, .evReq, .str, .free] flushEndFields s s.flushClosed :=
      Frame.set (Frame.set (Frame.setB (Frame.set (Frame.beside (Frame.refl _ _ s)) _ _ (by decide)) _ _
        (by decide)) _ _ (by decide)) _ _ (by decide)
    rw [State.flushEnd_eq]
    exact hclosed.iff fun _ hu => hu.raise _ _ (by decide) (by decide)

theorem State.creditsDue_frame (s : State) : Frame [.str, .free] [] s s.creditsDue :=
  Frame.ite (Frame.refl _ _ s) ((Frame.refl _ _ s).each fun u p _ hu => hu.trans (Frame.beside (Frame.refl _ _ u)))

theorem State.busyJudge_frame (s : State) : Frame [.evReq] [RC_BUSY_busy, MG_EVLOG_merged] s s.busyJudge :=
  have hset (v src : Nat) : Frame [.evReq] [RC_BUSY_busy, MG_EVLOG_merged] s ((s.set RC_BUSY_busy v).raise src) :=
    ((Frame.refl _ _ s).set _ _ (by decide)).raise _ _ (by decide) (by decide)
  Frame.ite (Frame.ite (Frame.refl _ _ s) (hset _ _)) (Frame.ite (hset _ _) (Frame.refl _ _ s))

theorem State.busyEval_frame (s : State) : Frame [.evReq, .str, .free] [RC_BUSY_busy, MG_EVLOG_merged] s s.busyEval :=
  (s.busyJudge_frame.mono (by decide) (by decide)).next (State.creditsDue_frame _) (by decide) (by decide)

theorem State.busyEval_has {k : Nat} (h : Sparse.has k s.evReq = true) : Sparse.has k s.busyEval.evReq = true := by
  have hset (v src : Nat) : Sparse.has k ((s.set RC_BUSY_busy v).raise src).evReq = true :=
    State.has_raise_of_has (s := s.set RC_BUSY_busy v) h src 0
  rw [State.busyEval, (State.creditsDue_frame _).parts .evReq (by decide)]
  unfold State.busyJudge
  split
  · split
    · exact h
    · exact hset _ _
  · split
    · exact hset _ _
    · exact h

/-- The end of a flush ends a freeze that was triggered or frozen. -/
def State.thawed (s : State) : State :=
  if 2 ≤ s.get RC_FREEZE_STATUS_state then (s.set RC_FREEZE_STATUS_state 0).set RC_FREEZE_LOST_count 0 else s

theorem State.thawed_frame (s : State) : Frame [] [RC_FREEZE_STATUS_state, RC_FREEZE_LOST_count] s s.thawed :=
  Frame.ite (((Frame.refl _ _ s).set _ _ (by decide)).set _ _ (by decide)) (Frame.refl _ _ s)

theorem State.thawed_state (s : State) : s.thawed.get RC_FREEZE_STATUS_state =
    if 2 ≤ s.get RC_FREEZE_STATUS_state then 0 else s.get RC_FREEZE_STATUS_state := by
  unfold State.thawed
  split
  · simp (disch := decide) [State.get_set_ne, State.get_set_fit]
  · rfl

theorem flushDone_of_flushing (h : s.on CX_HQ_STATUS_flushing = true) : ∃ x : Prot, flushDone s =
    State.busyEval { s.flushEnd.thawed with prot := x } := ⟨_, if_pos h⟩

/-! ## Banks -/

theorem xor_full {m : Nat} (h : m < 65536) : Nat.xor 0xFFFF m = 0xFFFF - m := by
  have hsub : 0xFFFF - m = 2 ^ 16 - (m + 1) := by omega
  rw [hsub]
  refine Nat.eq_of_testBit_eq fun i => ?_
  rw [Nat.testBit_two_pow_sub_succ (by omega)]
  change (0xFFFF ^^^ m).testBit i = _
  rw [Nat.testBit_xor, show 0xFFFF = 2 ^ 16 - 1 from rfl, Nat.testBit_two_pow_sub_one]
  by_cases hi : i < 16
  · simp [hi]
  · have hpow : 2 ^ 16 ≤ 2 ^ i := Nat.pow_le_pow_right (by decide) (by omega)
    have hm : m.testBit i = false := Nat.testBit_lt_two_pow (by omega)
    simp [hi, hm]

theorem land_sub_eq_without (a : Nat) {m : Nat} (h : m < 65536) : Nat.land a (0xFFFF - m) = without a m := by
  rw [without, Nat.mod_eq_of_lt h, xor_full h]

theorem land_full_lt (a m : Nat) : Nat.land a (0xFFFF - m) < 65536 :=
  Nat.lt_of_le_of_lt Nat.and_le_right (by omega)

theorem without_mod (a m : Nat) : without a (m % 65536) = without a m := by rw [without, without, Nat.mod_mod]

theorem without_lt (a m : Nat) : without a m < 65536 := by
  have hlt : Nat.xor 0xFFFF (m % 65536) < 65536 := by rw [xor_full (Nat.mod_lt _ (by decide))]; omega
  exact Nat.lt_of_le_of_lt Nat.and_le_right hlt

/-- The registers that show the banks. -/
def bankFields : List Fld :=
  [CX_HQ_BANKS_in_service, HS_STATUS_in_service 0, HS_STATUS_in_service 1, HS_STATUS_bank_init 0, HS_STATUS_bank_init 1]

/-- What the registers show of the banks: those in service and those being cleared. -/
structure BanksShown (inService clearing : Nat) (t : State) : Prop where
  all : t.get CX_HQ_BANKS_in_service = inService % 2 ^ 16
  first : t.get (HS_STATUS_in_service 0) = inService % 256
  second : t.get (HS_STATUS_in_service 1) = inService / 256 % 256
  clearing : clearing < 65536 → t.clearing = clearing

theorem State.setBanks_frame (s : State) (inService clearing : Nat) :
    Frame [] bankFields s (s.setBanks inService clearing) := by
  unfold State.setBanks
  simp only [State.each_cons, State.each_nil]
  exact ((((((Frame.refl _ _ s).set _ _ (by decide)).set _ _ (by decide)).set _ _ (by decide)).set _ _ (by decide)).set
    _ _ (by decide))

theorem State.setBanks_shown (s : State) (inService clearing : Nat) :
    BanksShown inService clearing (s.setBanks inService clearing) := by
  unfold State.setBanks
  simp only [State.each_cons, State.each_nil]
  refine ⟨?_, ?_, ?_, fun h => ?_⟩
  · simp (disch := decide) only [State.get_set_ne, State.get_set_same]
    rfl
  · simp (disch := decide) only [State.get_set_ne, State.get_set_same, bits]
    simp [HS_STATUS_in_service]
  · simp (disch := decide) only [State.get_set_ne, State.get_set_same, bits]
    simp [HS_STATUS_in_service]
  · simp (disch := decide) only [State.clearing, State.get_set_ne, State.get_set_same, bits]
    simp only [HS_STATUS_bank_init]
    omega

theorem BanksShown.of_frame {ps : List Part} {fs : List Fld} {i c : Nat} {s t : State} (h : BanksShown i c s)
    (hframe : Frame ps fs s t) (hf : ∀ f ∈ bankFields, ∀ g ∈ fs, f.key ≠ g.key) : BanksShown i c t := by
  obtain ⟨hall, hfirst, hsecond, hclear⟩ := h
  refine ⟨?_, ?_, ?_, fun hc => ?_⟩
  · rw [hframe.get (hf _ (by simp [bankFields])), hall]
  · rw [hframe.get (hf _ (by simp [bankFields])), hfirst]
  · rw [hframe.get (hf _ (by simp [bankFields])), hsecond]
  · rw [State.clearing, hframe.get (hf _ (by simp [bankFields])), hframe.get (hf _ (by simp [bankFields]))]
    exact hclear hc

/-- The banks that are wanted stay or begin to be cleared, the others leave. -/
theorem State.wantBanks_shown (s : State) (want : Nat) :
    BanksShown (Nat.land (s.get CX_HQ_BANKS_in_service) want) (without want (Nat.land (s.get CX_HQ_BANKS_in_service)
      want)) (s.wantBanks want) := State.setBanks_shown _ _ _

theorem State.wantBanks_frame (s : State) (want : Nat) : Frame [.store] bankFields s (s.wantBanks want) :=
  (Frame.beside (Frame.refl _ _ s)).next (State.setBanks_frame _ _ _) (by decide) (fun _ h => h)

theorem State.updReady_frame (s : State) : Frame [] [CX_HQ_STATUS_store_ready] s s.updReady :=
  (Frame.refl _ _ s).setB _ _ (by decide)

theorem State.assayCheck_of_none (h : s.svc.assay = none) : s.assayCheck = s := by simp [State.assayCheck, h]

/-- What a retirement shows once it has taken effect. -/
theorem State.retireBanks_shown (h : s.svc.assay = none) {mask : Nat} (hmask : s.get CX_HQ_BANKS_retire = mask)
    (hlt : mask < 65536) :
    let want := Nat.land (smBanks s.shadowRd) (0xFFFF - mask)
    let stay := Nat.land (s.get CX_HQ_BANKS_in_service) want
    BanksShown stay (Nat.land want (0xFFFF - stay % 2 ^ 16)) s.retireBanks ∧
      Frame [.store] (bankFields ++ [CX_HQ_STATUS_store_ready]) s s.retireBanks := by
  dsimp only
  have hframe := (s.wantBanks_frame s.mapBanks)
  have hready := (s.wantBanks s.mapBanks).updReady_frame
  have heq : s.retireBanks = (s.wantBanks s.mapBanks).updReady := by
    rw [State.retireBanks]
    refine State.assayCheck_of_none ?_
    rw [hready.parts .svc (by simp), hframe.parts .svc (by decide), h]
  have hwant : s.mapBanks = Nat.land (smBanks s.shadowRd) (0xFFFF - mask) := by
    rw [State.mapBanks, hmask, land_sub_eq_without _ hlt]
  have hland (a m : Nat) : Nat.land a (0xFFFF - m % 2 ^ 16) = without a m :=
    (land_sub_eq_without a (Nat.mod_lt m (by decide))).trans (without_mod a m)
  rw [heq, ← hwant, hland]
  exact ⟨(s.wantBanks_shown s.mapBanks).of_frame hready (by decide), (hframe.mono (by simp) (by decide)).next hready
    (by simp) (by decide)⟩

theorem bit_without {a k : Nat} (hk : k < 16) : bit (without a (2 ^ k)) k = false := by
  have hpow : 2 ^ k < 65536 := Nat.pow_lt_pow_right (n := 16) (by decide) hk
  rw [bit, without, Nat.mod_eq_of_lt hpow]
  change (a &&& (2 ^ 16 - 1 ^^^ 2 ^ k)).testBit k = false
  rw [Nat.testBit_and, Nat.testBit_xor, Nat.testBit_two_pow_sub_one, Nat.testBit_two_pow_self]
  simp [hk]

theorem bit_lor_mod {a k : Nat} (hk : k < 16) : bit (Nat.lor a (2 ^ k) % 2 ^ 16) k = true := by
  rw [bit]
  change ((a ||| 2 ^ k) % 2 ^ 16).testBit k = true
  rw [Nat.testBit_mod_two_pow, Nat.testBit_or, Nat.testBit_two_pow_self]
  simp [hk]

/-- A bank cleared: its entries, their marks and its undefined contents are gone. -/
def State.bankEmptied (s : State) (bank : Nat) : State :=
  let u := State.clearMarks { s with store := { s.store with entries := s.store.entries.filter (fun e => e.1 / 2 ^ 20 != bank) } }
    (entryMem bank) fun i => i / 2 ^ 20 == bank % 8
  { u with svc := { u.svc with bankUndef := without u.svc.bankUndef (2 ^ bank) } }

/-- A bank cleared leaves those being cleared. -/
def State.bankReady (s : State) (bank : Nat) : State :=
  let u := (s.bankEmptied bank).setBanks (s.get CX_HQ_BANKS_in_service) (without s.clearing (2 ^ bank))
  State.updReady { u with store := { u.store with commitClear := without u.store.commitClear (2 ^ bank) } }

theorem bankClearDone_of_clearing {bank : Nat} (h : bit s.clearing bank = true) (hrun : s.mt.running = true) :
    bankClearDone bank s = { s.bankReady bank with
      mt := { (s.bankReady bank).mt with edge := (s.bankReady bank).mt.edge ++ [.join bank] } } := by
  have hrun' : (s.bankReady bank).mt.running = true := hrun
  rw [bankClearDone, if_pos h]
  exact if_pos hrun'

theorem State.bankReady_frame (s : State) (bank : Nat) :
    Frame [.store, .prot, .svc] (bankFields ++ [CX_HQ_STATUS_store_ready]) s (s.bankReady bank) := by
  have hbanks := (s.bankEmptied bank).setBanks_frame (s.get CX_HQ_BANKS_in_service) (without s.clearing (2 ^ bank))
  have hempty : Frame [.store, .prot, .svc] (bankFields ++ [CX_HQ_STATUS_store_ready]) s (s.bankEmptied bank) :=
    Frame.beside (Frame.refl _ _ s)
  exact Frame.setB (Frame.with_store (hempty.next hbanks (by simp) (by simp)) _ (by decide)) _ _ (by decide)

theorem State.bankReady_clearing (s : State) (bank : Nat) : (s.bankReady bank).clearing = without s.clearing (2 ^ bank) := by
  have hshown := (s.bankEmptied bank).setBanks_shown (s.get CX_HQ_BANKS_in_service) (without s.clearing (2 ^ bank))
  generalize hu : (s.bankEmptied bank).setBanks (s.get CX_HQ_BANKS_in_service) (without s.clearing (2 ^ bank)) = u at hshown
  have heq : s.bankReady bank = State.updReady
      { u with store := { u.store with commitClear := without u.store.commitClear (2 ^ bank) } } := by
    rw [← hu]
    rfl
  have hready := State.updReady_frame { u with store := { u.store with commitClear := without u.store.commitClear (2 ^ bank) } }
  have hshown' : BanksShown _ _ { u with store := { u.store with commitClear := without u.store.commitClear (2 ^ bank) } } :=
    ⟨hshown.all, hshown.first, hshown.second, hshown.clearing⟩
  rw [heq]
  exact (hshown'.of_frame hready (by decide)).clearing (without_lt _ _)

theorem State.bankReady_entries (s : State) (bank : Nat) :
    ((s.bankReady bank).store.entries.all fun e => e.1 / 2 ^ 20 != bank) = true := by
  have hentries : (s.bankReady bank).store.entries = s.store.entries.filter (fun e => e.1 / 2 ^ 20 != bank) := rfl
  rw [hentries, List.all_eq_true]
  exact fun e he => (List.mem_filter.1 he).2

/-- What a bank that joins shows. -/
theorem State.bankJoins_shown {bank : Nat} (h : bit s.mapBanks bank = true) (hbank : bank < 16) :
    bit ((s.bankJoins bank).get CX_HQ_BANKS_in_service) bank = true ∧
    Sparse.has (403 + 24 * (bank / 8)) (s.bankJoins bank).evReq = true ∧
    Frame [.store, .evReq] (bankFields ++ [CX_HQ_STATUS_store_ready, MG_EVLOG_merged]) s (s.bankJoins bank) := by
  obtain ⟨u, hu, heq⟩ : ∃ u : State, Frame [.store] [] s u ∧ s.bankJoins bank = ((u.setBanks
      (Nat.lor (u.get CX_HQ_BANKS_in_service) (2 ^ bank)) (without u.clearing (2 ^ bank))).updReady.raise
      (403 + 24 * (bank / 8))) :=
    ⟨{ s with store := { s.store with commitClear := without s.store.commitClear (2 ^ bank) } },
      Frame.beside (Frame.refl _ _ s), if_pos h⟩
  have hshown := u.setBanks_shown (Nat.lor (u.get CX_HQ_BANKS_in_service) (2 ^ bank)) (without u.clearing (2 ^ bank))
  have hframe := u.setBanks_frame (Nat.lor (u.get CX_HQ_BANKS_in_service) (2 ^ bank)) (without u.clearing (2 ^ bank))
  have hready := (u.setBanks (Nat.lor (u.get CX_HQ_BANKS_in_service) (2 ^ bank)) (without u.clearing
    (2 ^ bank))).updReady_frame
  rw [heq]
  refine ⟨?_, State.has_raise _ _ _, ?_⟩
  · rw [State.get_raise_ne _ (by decide), hready.get (by decide), hshown.all]
    exact bit_lor_mod hbank
  · exact Frame.raise (((hu.mono (by decide) (by simp)).next hframe (by simp) (by simp)).next hready (by simp)
      (by decide)) _ _ (by decide) (by decide)

/-! ## Spare rows -/

/-- The registers of a half-row entered at place `j` of the spare map. -/
def spareFields (die j : Nat) : List Fld :=
  [HS_SPARE_MAP_valid die j, HS_SPARE_MAP_row die j, HS_SPARE_used die, HS_STATUS_spared die, MG_EVLOG_merged]

theorem spareFields_apart (die j : Nat) : (spareFields die j).Pairwise fun f g => f.key ≠ g.key := by
  simp only [spareFields, List.pairwise_cons, List.forall_mem_cons, Fld.key, HS_SPARE_MAP_valid, HS_SPARE_MAP_row,
    HS_SPARE_used, HS_STATUS_spared, MG_EVLOG_merged, List.not_mem_nil, false_implies, implies_true,
    List.Pairwise.nil, and_true]
  omega

theorem rowSpared_of_due {die row : Nat} (h : s.store.spareDue.contains (die, row) = true) : rowSpared die row s =
    ((((State.set { s with store := { s.store with spareDue := s.store.spareDue.filter fun e => e != (die, row) } }
      (HS_SPARE_MAP_valid die (s.get (HS_SPARE_used die))) 1).set (HS_SPARE_MAP_row die (s.get (HS_SPARE_used die)))
      row).set (HS_SPARE_used die) (s.get (HS_SPARE_used die) + 1)).flag (HS_STATUS_spared die) (401 + 24 * die)) :=
  if_pos h

theorem bankRetire_of_bare {mask : Nat} (h : without (smBanks s.shadowRd) mask % 256 = 0 ∨
    without (smBanks s.shadowRd) mask / 256 = 0) : bankRetire mask s = s.flag CX_HQ_STATUS_refused 72 := if_pos h

theorem bankRetire_of_good {mask : Nat} (hlow : without (smBanks s.shadowRd) mask % 256 ≠ 0)
    (hhigh : without (smBanks s.shadowRd) mask / 256 ≠ 0) : bankRetire mask s =
      ((s.set CX_HQ_BANKS_retire mask).critNext 23).atEdge .retire State.retireBanks := if_neg (by simp [hlow, hhigh])

theorem exec_bankRetire {mask : Nat} (h : mask < 65536) (s : State) :
    exec (.bankRetire mask) s = .next (bankRetire mask s) :=
  effect_of_wf (c := .bankRetire mask) (decide_eq_true h) (bankRetire mask) s

/-- Settles O25: each clause is what its operation does, at once or at the bucket edge. -/
theorem flushesDepthBanksAndSpareRows : Obligations.FlushesDepthBanksAndSpareRows := by
  unfold Obligations.FlushesDepthBanksAndSpareRows
  refine ⟨?refused, ?waits, ?still, ?begins, ?ends, ?depth, ?bare, ?retire, ?retireNow, ?retireEdge, ?cleared, ?joins,
    ?spared⟩
  case refused => exact fun s h => by rw [exec_hqFlush, hqFlush, if_pos h, State.hqRefused]
  case waits =>
    intro s h hrun
    rw [exec_hqFlush, hqFlush, if_neg (by simp [h]), if_pos hrun, State.atEdge, if_pos hrun]
  case still =>
    intro s h hrun
    rw [exec_hqFlush, hqFlush, if_neg (by simp [h]), if_neg (by simp [hrun])]
  case begins =>
    intro s hidle hrun hb hedge harrived hcal hstate hheld
    refine ⟨_, step_of_idle hidle, ?_⟩
    rw [State.tick_quiet hrun hheld hb (by simp [State.stopDue, hedge]) harrived hcal hstate, hedge]
    obtain ⟨hflushing, hvalid, hkeep, hdesc, hkept, hsort, hwq, hstopped, hlast, hframe⟩ := s.passed.flushBegin_begun
    exact ⟨hflushing, hvalid, hkeep, hdesc, hkept, hsort, hwq, hstopped, hlast,
      (s.passed_frame.mono (by decide) (by simp)).next hframe (by decide) (by decide)⟩
  case ends =>
    intro s hrun hflush
    refine ⟨_, effectMs_of_running (c := .flushDone) rfl hrun _, ?_⟩
    obtain ⟨x, heq⟩ := flushDone_of_flushing hflush
    obtain ⟨hflushing, hstore, hrows, hready, hevent, hframe⟩ := s.flushEnd_ended
    have hthaw := s.flushEnd.thawed_frame
    have hbusy := State.busyEval_frame { s.flushEnd.thawed with prot := x }
    have hget {f : Fld} (hf : ∀ g ∈ [RC_BUSY_busy, MG_EVLOG_merged], f.key ≠ g.key) :
        (flushDone s).get f = s.flushEnd.thawed.get f := by rw [heq, hbusy.get hf]; rfl
    have hstore' : (flushDone s).store = s.flushEnd.store := by
      rw [heq, hbusy.parts .store (by decide)]
      exact hthaw.parts .store (by simp)
    have hfreeze : s.flushEnd.get RC_FREEZE_STATUS_state = s.get RC_FREEZE_STATUS_state := by
      rw [State.flushEnd_get _ (by decide), State.flushClosed]
      simp (disch := decide) [State.updReady, State.get_set_ne, State.get_setB_ne]
    refine ⟨?_, ?_, ?_, ?_, ?_, ?_, ?_, ?_, ?_⟩
    · rw [hget (by decide), hthaw.get (by decide), hflushing]
    · rw [hstore', hstore]
    · rw [hstore', hstore]
    · rw [hstore', hstore]
    · rw [hget (by decide), hthaw.get (by decide), hrows, hstore', hstore]
    · rw [hget (by decide), hthaw.get (by decide), hready]
    · rw [hget (by decide), State.thawed_state, hfreeze]
    · intro hoff hclear
      rw [heq]
      refine State.busyEval_has ?_
      exact (congrArg (Sparse.has 71) (hthaw.parts .evReq (by simp))).trans (hevent hoff hclear)
    · rw [heq]
      exact (Frame.with_prot (hframe.next hthaw (by simp) (by decide)) x (by decide)).next hbusy (by decide) (by decide)
  case depth => exact fun s => effect_of_wf rfl depthReset s
  case bare =>
    intro s mask hmask h
    rw [land_sub_eq_without _ hmask] at h
    rw [exec_bankRetire hmask, bankRetire_of_bare h]
  case retire =>
    intro s mask hmask hlow hhigh hrun
    rw [land_sub_eq_without _ hmask] at hlow hhigh
    have hrun' : ((s.set CX_HQ_BANKS_retire mask).critNext 23).mt.running = true := hrun
    rw [exec_bankRetire hmask, bankRetire_of_good hlow hhigh, State.atEdge, if_pos hrun']
  case retireNow =>
    intro s mask hmask hlow hhigh hrun hassay
    refine ⟨_, exec_bankRetire hmask s, ?_⟩
    rw [land_sub_eq_without _ hmask] at hlow hhigh
    have hrun' : ((s.set CX_HQ_BANKS_retire mask).critNext 23).mt.running ≠ true := by
      change s.mt.running ≠ true
      simp [hrun]
    rw [bankRetire_of_good hlow hhigh, State.atEdge, if_neg hrun']
    have hmask' : ((s.set CX_HQ_BANKS_retire mask).critNext 23).get CX_HQ_BANKS_retire = mask :=
      State.get_set_fit _ _ hmask
    have hset : Frame [.prot] [CX_HQ_BANKS_retire] s ((s.set CX_HQ_BANKS_retire mask).critNext 23) :=
      Frame.beside (t := s.set CX_HQ_BANKS_retire mask) ((Frame.refl _ _ s).set _ _ (by decide))
    obtain ⟨hshown, hframe⟩ := State.retireBanks_shown (s := (s.set CX_HQ_BANKS_retire mask).critNext 23) hassay hmask' hmask
    have hin : ((s.set CX_HQ_BANKS_retire mask).critNext 23).get CX_HQ_BANKS_in_service = s.get CX_HQ_BANKS_in_service :=
      hset.get (by decide)
    have hread : ((s.set CX_HQ_BANKS_retire mask).critNext 23).shadowRd = s.shadowRd := rfl
    rw [hin, hread] at hshown
    obtain ⟨hall, hfirst, hsecond, hclear⟩ := hshown
    refine ⟨(hframe.get (by decide)).trans hmask', hall, hfirst, hsecond, ?_, (hset.mono (by decide) (by decide)).next
      hframe (by decide) (by decide)⟩
    exact hclear (land_full_lt _ _)
  case retireEdge =>
    intro s hidle hrun hb hedge harrived hcal hstate hheld hassay hmask
    refine ⟨_, step_of_idle hidle, ?_⟩
    rw [State.tick_quiet hrun hheld hb (by simp [State.stopDue, hedge]) harrived hcal hstate, hedge]
    obtain ⟨hshown, hframe⟩ := State.retireBanks_shown (s := s.passed) hassay rfl hmask
    obtain ⟨hall, hfirst, hsecond, hclear⟩ := hshown
    refine ⟨hall, hfirst, hsecond, ?_, (s.passed_frame.mono (by decide) (by simp)).next hframe (by decide) (by decide)⟩
    exact hclear (land_full_lt _ _)
  case cleared =>
    intro s bank hbank hrun hclear
    refine ⟨_, effectMs_of_running (c := .bankClearDone bank) (decide_eq_true hbank) hrun _, ?_⟩
    rw [bankClearDone_of_clearing hclear hrun]
    have hframe := s.bankReady_frame bank
    have hclearing := s.bankReady_clearing bank
    have hentries := s.bankReady_entries bank
    have hmt : (s.bankReady bank).mt = s.mt := rfl
    generalize s.bankReady bank = t at hframe hclearing hentries hmt
    refine ⟨?_, hentries, by rw [hmt], Frame.beside (hframe.mono (by decide) (by decide))⟩
    exact (congrArg (bit · bank) hclearing).trans (bit_without hbank)
  case joins =>
    intro s bank hidle hrun hb hbank hedge harrived hcal hstate hheld hmap
    refine ⟨_, step_of_idle hidle, ?_⟩
    rw [State.tick_quiet hrun hheld hb (by simp [State.stopDue, hedge]) harrived hcal hstate, hedge]
    obtain ⟨hin, hevent, hframe⟩ := State.bankJoins_shown (s := s.passed) hmap hbank
    exact ⟨hin, hevent, (s.passed_frame.mono (by decide) (by simp)).next hframe (by decide) (by decide)⟩
  case spared =>
    intro s die row hdie hrow hrun hdue hused
    refine ⟨_, effectMs_of_running (c := .rowSpared die row) (by simp [Instr.wf, hdie]; omega) hrun _, ?_⟩
    rw [rowSpared_of_due hdue]
    have hapart := spareFields_apart die (s.get (HS_SPARE_used die))
    simp only [spareFields, List.pairwise_cons, List.forall_mem_cons] at hapart
    obtain ⟨⟨hvalidRow, hvalidUsed, hvalidFlag, hvalidMerged, -⟩, ⟨hrowUsed, hrowFlag, hrowMerged, -⟩,
      ⟨husedFlag, husedMerged, -⟩, ⟨hflagMerged, -⟩, -⟩ := hapart
    refine ⟨?_, ?_, ?_, ?_, ?_, ?_⟩
    · rw [State.get_flag_ne _ hvalidFlag hvalidMerged, State.get_set_ne _ hvalidUsed, State.get_set_ne _ hvalidRow]
      exact State.get_set_fit _ _ (v := 1) (by simp [HS_SPARE_MAP_valid])
    · rw [State.get_flag_ne _ hrowFlag hrowMerged, State.get_set_ne _ hrowUsed]
      exact State.get_set_fit _ _ hrow
    · rw [State.get_flag_ne _ husedFlag husedMerged]
      have hlt : s.get (HS_SPARE_used die) + 1 < 2 ^ 11 := by omega
      exact State.get_set_fit _ _ hlt
    · rw [State.on, State.get_flag_same _ rfl hflagMerged]
      rfl
    · rw [State.flag_store]
      simp
    · exact Frame.flag (Frame.set (Frame.set (Frame.set (Frame.beside (Frame.refl _ _ s)) _ _ (by simp)) _ _ (by simp))
        _ _ (by simp)) _ _ _ (by decide) (by simp) (by simp)

end Sys2Proof.Machine
end

section
/-! SUPPORT. What a command leaves that works on whole blocks of registers. -/

namespace Sys2Proof.Machine

open Sys2Proof

/-- Address `a` lies in one of the address ranges. -/
def inBlocks (rs : List (Nat × Nat)) (a : Nat) : Bool := rs.any fun r => decide (r.1 ≤ a) && decide (a ≤ r.2)

theorem not_inBlocks {rs : List (Nat × Nat)} {a : Nat}
    (h : (rs.all fun r => decide (a < r.1) || decide (r.2 < a)) = true) : inBlocks rs a = false := by
  simp only [inBlocks, List.all_eq_true, List.any_eq_false, Bool.or_eq_true, Bool.and_eq_true, decide_eq_true_eq] at h ⊢
  intro r hr hin
  have := h r hr
  omega

/-- A field lies in a block where its address does. -/
theorem inBlocks_of_addr {rs : List (Nat × Nat)} {f : Fld} (r : Nat × Nat) (h1 : r.1 ≤ f.addr) (h2 : f.addr ≤ r.2)
    (hlo : f.lo < 32) (hr : r ∈ rs := by simp) : inBlocks rs (f.key / 32) = true := by
  have hkey : f.key / 32 = f.addr := by rw [Fld.key]; omega
  rw [inBlocks, hkey, List.any_eq_true]
  exact ⟨r, hr, by simp [h1, h2]⟩

namespace BlockFrame

variable {ps : List Part} {rs : List (Nat × Nat)} {s t u : State}

theorem refl (ps : List Part) (rs : List (Nat × Nat)) (s : State) : BlockFrame ps rs s s :=
  ⟨fun p _ => by cases p <;> rfl, fun _ _ => rfl, rfl⟩

theorem partFrame (h : BlockFrame ps rs s t) : PartFrame ps s t := ⟨h.parts, h.queue⟩

theorem trans (h : BlockFrame ps rs s t) (h' : BlockFrame ps rs t u) : BlockFrame ps rs s u :=
  have hp := h.partFrame.trans h'.partFrame
  ⟨hp.parts, fun f hf => (h'.fields f hf).trans (h.fields f hf), hp.queue⟩

theorem of_partFrame (h : PartFrame ps s t)
    (hf : ∀ f : Fld, inBlocks rs (f.key / 32) = false → t.get f = s.get f) : BlockFrame ps rs s t :=
  ⟨h.parts, fun f hn => hf f (not_inBlocks hn), h.queue⟩

/-- A change beside the register fields and the queue, of parts that the frame names. -/
theorem beside (h : BlockFrame ps rs s t) (hcsr : u.csr = t.csr := by rfl) (hq : u.pending = t.pending := by rfl)
    (hp : ∀ p : Part, p ∈ ps ∨ p.same t u := by
      intro p; cases p <;> first | exact .inl (by decide) | exact .inr rfl) : BlockFrame ps rs s u :=
  have hpart := h.partFrame.beside hq hp
  ⟨hpart.parts, fun f hf => by rw [← h.fields f hf, State.get, State.get, hcsr], hpart.queue⟩

theorem with_tg (h : BlockFrame ps rs s t) (x : Tg) (hp : Part.tg ∈ ps) : BlockFrame ps rs s { t with tg := x } :=
  h.beside rfl rfl fun p => by
    by_cases he : p = .tg
    · exact .inl (he ▸ hp)
    · refine .inr ?_
      cases p <;> first | exact absurd rfl he | rfl

theorem set (h : BlockFrame ps rs s t) (f : Fld) (v : Nat) (hf : inBlocks rs (f.key / 32) = true) :
    BlockFrame ps rs s (t.set f v) := by
  refine ⟨(h.partFrame.set f v).parts, fun g hg => ?_, h.queue⟩
  have hk : g.key ≠ f.key := fun e => by
    rw [← e, not_inBlocks hg] at hf
    exact Bool.false_ne_true hf
  exact (State.get_set_ne t hk v).trans (h.fields g hg)

theorem setB (h : BlockFrame ps rs s t) (f : Fld) (b : Bool) (hf : inBlocks rs (f.key / 32) = true) :
    BlockFrame ps rs s (t.setB f b) := h.set f _ hf

theorem count (h : BlockFrame ps rs s t) (f : Fld) (n : Nat) (hf : inBlocks rs (f.key / 32) = true) :
    BlockFrame ps rs s (t.count f n) := h.set f _ hf

theorem raise (h : BlockFrame ps rs s t) (src arg : Nat) (hp : Part.evReq ∈ ps)
    (hf : inBlocks rs (MG_EVLOG_merged.key / 32) = true) : BlockFrame ps rs s (t.raise src arg) := by
  refine ⟨(h.partFrame.raise src arg hp).parts, fun g hg => ?_, (h.partFrame.raise src arg hp).queue⟩
  have hk : g.key ≠ MG_EVLOG_merged.key := fun e => by
    rw [← e, not_inBlocks hg] at hf
    exact Bool.false_ne_true hf
  exact (State.get_raise_ne t hk src arg).trans (h.fields g hg)

theorem ite {c : Prop} [Decidable c] (h : BlockFrame ps rs s t) (h' : BlockFrame ps rs s u) :
    BlockFrame ps rs s (if c then t else u) := by
  split
  · exact h
  · exact h'

theorem flag (h : BlockFrame ps rs s t) (f : Fld) (src arg : Nat) (hp : Part.evReq ∈ ps)
    (he : inBlocks rs (MG_EVLOG_merged.key / 32) = true) (hf : inBlocks rs (f.key / 32) = true) :
    BlockFrame ps rs s (t.flag f src arg) := ite h ((h.set f 1 hf).raise _ _ hp he)

theorem iff {b : Bool} {g : State → State} (h : BlockFrame ps rs s t)
    (hg : ∀ u, BlockFrame ps rs s u → BlockFrame ps rs s (g u)) : BlockFrame ps rs s (t.iff b g) := ite (hg t h) h

theorem each {α : Type} {l : List α} {f : State → α → State} (h : BlockFrame ps rs s t)
    (hf : ∀ u a, a ∈ l → BlockFrame ps rs s u → BlockFrame ps rs s (f u a)) : BlockFrame ps rs s (t.each l f) := by
  induction l generalizing t with
  | nil => exact h
  | cons a l ih => exact ih (hf t a (by simp) h) fun u b hb hu => hf u b (by simp [hb]) hu

theorem mono {qs : List Part} {rs' : List (Nat × Nat)} (h : BlockFrame ps rs s t) (hp : ps ⊆ qs)
    (hr : ∀ a, inBlocks rs a = true → inBlocks rs' a = true) : BlockFrame qs rs' s t := by
  refine of_partFrame (h.partFrame.mono hp) fun f hf => h.fields f ?_
  have hout : inBlocks rs (f.key / 32) = false := by
    by_contra hin
    rw [hr _ (by simpa using hin)] at hf
    cases hf
  simp only [inBlocks, List.any_eq_false, List.all_eq_true, Bool.and_eq_true, decide_eq_true_eq, Bool.or_eq_true] at hout ⊢
  intro r hr'
  have := hout r hr'
  omega

end BlockFrame

/-- A frame of fields that lie in the blocks is one of the blocks. -/
theorem Frame.blockFrame {ps : List Part} {fs : List Fld} {rs : List (Nat × Nat)} {s t : State} (h : Frame ps fs s t)
    (hf : ∀ f ∈ fs, inBlocks rs (f.key / 32) = true) : BlockFrame ps rs s t := by
  refine BlockFrame.of_partFrame h.partFrame fun f hout => h.get fun g hg he => ?_
  rw [he, hf g hg] at hout
  cases hout

/-! ## What a field holds after an operation run over a list -/

variable {α : Type} {l : List α} {f : State → α → State} {g : Fld}

theorem State.each_get_of_left (hne : ∀ u, ∀ b ∈ l, (f u b).get g = u.get g) (s : State) :
    (s.each l f).get g = s.get g := by
  induction l generalizing s with
  | nil => rfl
  | cons b l ih =>
    rw [State.each_cons, ih fun u c hc => hne u c (by simp [hc])]
    exact hne s b (by simp)

/-- The last write of the element `a` of the list stands, with an invariant of the operations at hand. -/
theorem State.each_get_of_put {I : State → Prop} {a : α} {v : Nat} {s : State} (ha : a ∈ l) (hs : I s)
    (hI : ∀ u, ∀ b ∈ l, I u → I (f u b)) (hput : ∀ u, I u → (f u a).get g = v)
    (hne : ∀ u, ∀ b ∈ l, b ≠ a → (f u b).get g = u.get g) : (s.each l f).get g = v := by
  classical
  induction l generalizing s with
  | nil => cases ha
  | cons b l ih =>
    by_cases hmem : a ∈ l
    · exact ih hmem (hI s b (by simp) hs) (fun u c hc => hI u c (by simp [hc])) fun u c hc => hne u c (by simp [hc])
    · obtain rfl : a = b := by simpa [hmem] using ha
      rw [State.each_cons, State.each_get_of_left fun u c hc => hne u c (by simp [hc]) (fun e => hmem (e ▸ hc))]
      exact hput s hs

end Sys2Proof.Machine
end

section
/-! SUPPORT and PROOF. Map periods, chasers and accepts (R226 to R254). -/

namespace Sys2Proof.Machine

open Sys2Proof

variable {s : State}

/-! ## Accepts -/

theorem exec_acceptCommand {body : Nat} (hbody : body < 2 ^ 64) (hrun : s.mt.running = true) :
    exec (.acceptCommand body) s = .next (acceptCommand body s) :=
  effectMs_of_running (c := .acceptCommand body) (decide_eq_true hbody) hrun _

/-- The next accept of a released frame, or one that no released frame carried, is taken alone. -/
theorem acceptCommand_of_next {body : Nat}
    (h : s.tg.arrived.contains body = false ∨ s.tg.arrived.head? = some body) : acceptCommand body s =
      State.takeAccept { s with tg := { s.tg with arrived := s.tg.arrived.erase body } } body := by
  rcases h with h | h
  · have hout : body ∉ s.tg.arrived := by simpa using h
    rw [acceptCommand, h, List.erase_of_not_mem hout]
    rfl
  · obtain ⟨rest, hl⟩ : ∃ rest, s.tg.arrived = body :: rest := by
      cases hl : s.tg.arrived with
      | nil => rw [hl] at h; cases h
      | cons b rest =>
        rw [hl] at h
        obtain rfl : b = body := by simpa using h
        exact ⟨rest, rfl⟩
    simp [acceptCommand, State.takeArrived, hl]

theorem State.setQueue_frame (s : State) (q : List Trig) :
    Frame [.tg] [TG_QUEUE_used, TG_QUEUE_peak] s (s.setQueue q) :=
  ((Frame.beside (Frame.refl _ _ s)).set _ _ (by decide)).set _ _ (by decide)

theorem State.setQueue_tg (s : State) (q : List Trig) : (s.setQueue q).tg = { s.tg with queue := q } := rfl

theorem State.setQueue_used (s : State) (q : List Trig) :
    (s.setQueue q).get TG_QUEUE_used = q.length % 2 ^ TG_QUEUE_used.width := by
  rw [State.setQueue, State.get_set_ne _ (by decide), State.get_set_same]

theorem mem_joinAccept (t : Trig) (q : List Trig) : t ∈ joinAccept t q := by simp [joinAccept]

/-- The trigger of an accept whose bucket exists. -/
def State.acceptOf (s : State) (body : Nat) : Trig :=
  let at_ := latestAt (subBkt s.mt.nb s.now (s.get TG_ACCEPT_lat_min)) (body / 2 ^ 4 % 65536)
  ⟨true, body / 2 ^ 60, body / 2 ^ 20 % 2 ^ 40, at_.1, at_.2, false, s.mt.orbit, s.mt.bucket⟩

theorem State.takeAccept_of_good {body : Nat} (hbody : body < 2 ^ 64) (hacq : s.acq = true)
    (hstage : s.stages79Out = false) (hb : body / 2 ^ 4 % 65536 < s.mt.nb) :
    s.takeAccept body = s.setQueue (joinAccept (s.acceptOf body) s.tg.queue) := by
  have hbits : bits body 4 16 = body / 2 ^ 4 % 65536 := rfl
  have hclass : bits body 60 4 = body / 2 ^ 60 := by
    rw [bits, Nat.mod_eq_of_lt]
    omega
  have hbad : decide (s.mt.nb ≤ body / 2 ^ 4 % 65536) = false := decide_eq_false (by omega)
  simp only [State.takeAccept, hacq, hstage, hbits, hbad, hclass, Bool.not_true, Bool.or_false, Bool.false_eq_true,
    if_false, State.iff_false]
  rfl

theorem State.takeAccept_of_bad {body : Nat} (hacq : s.acq = true)
    (hstage : s.stages79Out = false) (hb : s.mt.nb ≤ body / 2 ^ 4 % 65536) :
    ∃ a : Trig, a.accept = true ∧ a.bad = true ∧ s.takeAccept body =
      ((s.setQueue (joinAccept a s.tg.queue)).count TG_CNT_ACC_bad).flag TG_STATUS_acc_bad 83 := by
  have hbits : bits body 4 16 = body / 2 ^ 4 % 65536 := rfl
  have hbad : decide (s.mt.nb ≤ body / 2 ^ 4 % 65536) = true := decide_eq_true hb
  refine ⟨⟨true, bits body 60 4, bits body 20 40, (subBkt s.mt.nb s.now (s.get TG_ACCEPT_lat_min)).1,
    body / 2 ^ 4 % 65536, true, s.now.1, s.now.2⟩, rfl, rfl, ?_⟩
  simp only [State.takeAccept, hacq, hstage, hbits, hbad, Bool.not_true, Bool.or_false, Bool.false_eq_true, if_false,
    if_true, State.iff_true]

/-! ## Chaser timers -/

theorem exec_chaserTimerExpiry {c i : Nat} (hc : c < 32) (hi : i < 2) (hrun : s.mt.running = true) :
    exec (.chaserTimerExpiry c i) s = .next (chaserTimerExpiry c i s) :=
  effectMs_of_running (c := .chaserTimerExpiry c i) (by simp [Instr.wf, hc, hi]) hrun _

theorem chaserTimerExpiry_of_one {c i : Nat} (hone : s.timer c i = 1) (hacq : s.acq = true)
    (hstage : s.stage6Out = false) (hruns : s.chaserRuns c = true) :
    chaserTimerExpiry c i s = (s.setTimer c i 0).setExp c i true := by
  rw [chaserTimerExpiry, if_pos ⟨hone, hacq, hstage, hruns⟩, State.timerTick]
  simp only [hone, if_true]
  rfl

theorem State.timerTick_of_zero {c i : Nat} (h : s.timer c i = 0) : s.timerTick c i = s := by
  rw [State.timerTick]
  simp only [h, if_true]

/-! ## What a chaser changes -/

/-- The registers of the trigger engine, and the count of merged events. -/
abbrev tgBlocks : List (Nat × Nat) := [(0x10002000, 0x10002FFF), (0x1000C210, 0x1000C210)]

/-- A change of the registers of the trigger engine and of the work of its chasers, beside the hit maps. -/
structure TgFrame (s t : State) : Prop where
  block : BlockFrame [.evReq, .tg] tgBlocks s t
  maps : t.tg.maps = s.tg.maps

namespace TgFrame

variable {t u : State}

theorem refl (s : State) : TgFrame s s := ⟨BlockFrame.refl _ _ s, rfl⟩

theorem trans (h : TgFrame s t) (h' : TgFrame t u) : TgFrame s u :=
  ⟨h.block.trans h'.block, h'.maps.trans h.maps⟩

theorem set (h : TgFrame s t) (f : Fld) (v : Nat) (hf : inBlocks tgBlocks (f.key / 32) = true) :
    TgFrame s (t.set f v) := ⟨h.block.set f v hf, h.maps⟩

theorem counted (h : TgFrame s t) (f g : Fld) (src : Nat) (hf : inBlocks tgBlocks (f.key / 32) = true)
    (hg : inBlocks tgBlocks (g.key / 32) = true) : TgFrame s ((t.count f).flag g src) :=
  ⟨(h.block.count f 1 hf).flag g src 0 (by decide) (by decide) hg, by simp [h.maps]⟩

theorem ite {c : Prop} [Decidable c] (h : TgFrame s t) (h' : TgFrame s u) : TgFrame s (if c then t else u) := by
  split
  · exact h
  · exact h'

theorem with_tg (h : TgFrame s t) (x : Tg) (hx : x.maps = t.tg.maps) : TgFrame s { t with tg := x } :=
  ⟨h.block.with_tg x (by decide), hx.trans h.maps⟩

theorem takeLocal (h : TgFrame s t) : TgFrame s t.takeLocal.2 :=
  (h.with_tg { t.tg with next := (t.tg.next + 1) % 2 ^ 40 } rfl).set TG_LOCAL_LO_number _ (by decide)

theorem setQueue (h : TgFrame s t) (q : List Trig) : TgFrame s (t.setQueue q) :=
  ((h.with_tg { t.tg with queue := q } rfl).set TG_QUEUE_used _ (by decide)).set TG_QUEUE_peak _ (by decide)

theorem iff {b : Bool} {g : State → State} (h : TgFrame s t) (hg : ∀ u, TgFrame s u → TgFrame s (g u)) :
    TgFrame s (t.iff b g) := ite (hg t h) h

theorem each {α : Type} {l : List α} {f : State → α → State} (h : TgFrame s t)
    (hf : ∀ u a, a ∈ l → TgFrame s u → TgFrame s (f u a)) : TgFrame s (t.each l f) := by
  induction l generalizing t with
  | nil => exact h
  | cons a l ih => exact ih (hf t a (by simp) h) fun u b hb hu => hf u b (by simp [hb]) hu

end TgFrame

theorem chaserField_inBlocks {c : Nat} (h : c < 32) :
    inBlocks tgBlocks ((TG_CHSTAT_state c).key / 32) = true ∧ inBlocks tgBlocks ((TG_CHSTAT_out c).key / 32) = true ∧
    inBlocks tgBlocks ((TG_CHSTAT_t0_exp c).key / 32) = true ∧ inBlocks tgBlocks ((TG_CHSTAT_t1_exp c).key / 32) = true ∧
    inBlocks tgBlocks ((TG_CHSTAT_opens c).key / 32) = true := by
  refine ⟨?_, ?_, ?_, ?_, ?_⟩ <;> refine inBlocks_of_addr (0x10002000, 0x10002FFF) ?_ ?_ ?_ <;>
    simp [TG_CHSTAT_state, TG_CHSTAT_out, TG_CHSTAT_t0_exp, TG_CHSTAT_t1_exp, TG_CHSTAT_opens] <;> omega

theorem chaserCount_inBlocks {c k : Nat} (hc : c < 32) (hk : k < 4) :
    inBlocks tgBlocks ((TG_CHCNT_value c k).key / 32) = true := by
  refine inBlocks_of_addr (0x10002000, 0x10002FFF) ?_ ?_ ?_ <;> simp [TG_CHCNT_value] <;> omega

theorem TgFrame.setTimer {t : State} (h : TgFrame s t) (c i v : Nat) : TgFrame s (t.setTimer c i v) :=
  ⟨h.block.with_tg _ (by decide), h.maps⟩

theorem TgFrame.setExp {t : State} (h : TgFrame s t) {c : Nat} (hc : c < 32) (i : Nat) (b : Bool) :
    TgFrame s (t.setExp c i b) := by
  obtain ⟨-, -, ht0, ht1, -⟩ := chaserField_inBlocks hc
  refine h.set _ _ ?_
  split
  · exact ht0
  · exact ht1

theorem TgFrame.timerTick {t : State} (h : TgFrame s t) {c : Nat} (hc : c < 32) (i : Nat) :
    TgFrame s (t.timerTick c i) :=
  ite h (ite ((h.setTimer c i 0).setExp hc i true) (h.setTimer c i _))

/-- A chaser at rest: state 0, no out bits. -/
def State.chaserIdle (s : State) (c : Nat) : State := (s.set (TG_CHSTAT_state c) 0).set (TG_CHSTAT_out c) 0

theorem TgFrame.chaserIdle {t : State} (h : TgFrame s t) {c : Nat} (hc : c < 32) : TgFrame s (t.chaserIdle c) := by
  obtain ⟨hst, hout, -⟩ := chaserField_inBlocks hc
  exact (h.set _ _ hst).set _ _ hout

theorem TgFrame.tmrAct {t : State} (h : TgFrame s t) {c : Nat} (hc : c < 32) (i a : Nat) :
    TgFrame s (t.tmrAct c i a) := by
  unfold State.tmrAct
  split
  · exact (h.setTimer c i _).setExp hc i false
  · exact (h.setTimer c i 0).setExp hc i false
  · exact h

theorem TgFrame.cntAct {t : State} (h : TgFrame s t) {c k : Nat} (hc : c < 32) (hk : k < 4) (a : Nat) :
    TgFrame s (t.cntAct c k a) := h.set _ _ (chaserCount_inBlocks hc hk)

/-- The counters and timers of a chaser act on its transition. -/
def State.chaserActs (s : State) (c t : Nat) : State :=
  let a := chAct s.rd c t
  (s.each (List.range 4) fun s k => s.cntAct c k (bits a (56 + 2 * k) 2)).each [0, 1]
    fun s k => s.tmrAct c k (bits a (52 + 2 * k) 2)

theorem TgFrame.chaserActs {t : State} (h : TgFrame s t) {c : Nat} (hc : c < 32) (i : Nat) :
    TgFrame s (t.chaserActs c i) :=
  (h.each fun _ _ hk hu => hu.cntAct hc (List.mem_range.1 hk) _).each fun _ _ _ hu => hu.tmrAct hc _ _

theorem State.chaserTake_some (s : State) (c t : Nat) : s.chaserTake c (some t) =
    ((s.chaserActs c t).set (TG_CHSTAT_state c) (cdNext (chCond s.rd c t))).set (TG_CHSTAT_out c)
      (cdOut (chCond s.rd c t)) := rfl

theorem TgFrame.chaserTake {t : State} (h : TgFrame s t) {c : Nat} (hc : c < 32) (i : Option Nat) :
    TgFrame s (t.chaserTake c i) := by
  obtain ⟨hst, hout, -⟩ := chaserField_inBlocks hc
  cases i with
  | none => exact h.set _ _ hout
  | some i => exact ((h.chaserActs hc i).set _ _ hst).set _ _ hout

theorem TgFrame.openRecord {t : State} (h : TgFrame s t) (p : Bkt) {c : Nat} (hc : c < 32) (k : Nat) :
    TgFrame s (t.openRecord p c k) := by
  obtain ⟨-, -, -, -, hopens⟩ := chaserField_inBlocks hc
  have hcount : TgFrame s (t.count (TG_CHSTAT_opens c)) := h.set _ _ hopens
  exact ite (hcount.counted _ _ _ (by decide) (by decide)) (ite (hcount.counted _ _ _ (by decide) (by decide))
    (hcount.takeLocal.setQueue _))

theorem TgFrame.formWords {t : State} (h : TgFrame s t) (p : Bkt) (eval : Bool) (absent : Nat) :
    TgFrame s (t.formWords p eval absent) := by
  unfold State.formWords
  dsimp only
  refine iff (each (with_tg h _ ?_) fun _ _ _ hu => ?_) fun _ hu => ?_
  · rfl
  · exact hu.counted _ _ _ (by decide) (by decide)
  · exact hu.counted _ _ _ (by decide) (by decide)

/-! ## The transition that a chaser takes -/

/-- What the choice of chaser `c` reads of its own, with its timers. -/
structure SameChaser (c : Nat) (s t : State) : Prop where
  state : t.get (TG_CHSTAT_state c) = s.get (TG_CHSTAT_state c)
  counts : ∀ k, t.get (TG_CHCNT_value c k) = s.get (TG_CHCNT_value c k)
  exps : t.get (TG_CHSTAT_t0_exp c) = s.get (TG_CHSTAT_t0_exp c) ∧ t.get (TG_CHSTAT_t1_exp c) = s.get (TG_CHSTAT_t1_exp c)
  timers : t.timer c 0 = s.timer c 0 ∧ t.timer c 1 = s.timer c 1

theorem SameChaser.trans {c : Nat} {t u : State} (h : SameChaser c s t) (h' : SameChaser c t u) : SameChaser c s u :=
  ⟨h'.state.trans h.state, fun k => (h'.counts k).trans (h.counts k),
    ⟨h'.exps.1.trans h.exps.1, h'.exps.2.trans h.exps.2⟩, ⟨h'.timers.1.trans h.timers.1, h'.timers.2.trans h.timers.2⟩⟩

theorem SameChaser.refl (c : Nat) (s : State) : SameChaser c s s := ⟨rfl, fun _ => rfl, ⟨rfl, rfl⟩, ⟨rfl, rfl⟩⟩

theorem SameChaser.each {c : Nat} {l : List Nat} {f : State → Nat → State} {t : State} (h : SameChaser c s t)
    (hf : ∀ u, ∀ d ∈ l, SameChaser c s u → SameChaser c s (f u d)) : SameChaser c s (t.each l f) := by
  induction l generalizing t with
  | nil => exact h
  | cons a l ih => exact ih (hf t a (by simp) h) fun u b hb hu => hf u b (by simp [hb]) hu

section OtherChaser

variable {c d : Nat} (hd : d ≠ c)
include hd

/-- A write of another chaser's status register. -/
theorem SameChaser.set_status {t : State} (h : SameChaser c s t) {f : Fld} (haddr : f.addr = 0x10002800 + d * 0x4)
    (hpos : 0 < f.lo) (hlo : f.lo < 32) (v : Nat) : SameChaser c s (t.set f v) := by
  have hkey : f.key = (0x10002800 + d * 0x4) * 32 + f.lo := by rw [Fld.key, haddr]
  refine h.trans ⟨State.get_set_ne t ?_ v, fun k => State.get_set_ne t ?_ v,
    ⟨State.get_set_ne t ?_ v, State.get_set_ne t ?_ v⟩, ⟨rfl, rfl⟩⟩ <;>
  · rw [hkey]
    simp only [Fld.key, TG_CHSTAT_state, TG_CHCNT_value, TG_CHSTAT_t0_exp, TG_CHSTAT_t1_exp]
    omega

theorem SameChaser.chaserIdle {t : State} (h : SameChaser c s t) : SameChaser c s (t.chaserIdle d) :=
  (h.set_status hd (f := TG_CHSTAT_state d) rfl (by simp [TG_CHSTAT_state]) (by simp [TG_CHSTAT_state]) 0).set_status hd
    (f := TG_CHSTAT_out d) rfl (by simp [TG_CHSTAT_out]) (by simp [TG_CHSTAT_out]) 0

theorem SameChaser.setTimer {t : State} (h : SameChaser c s t) {i : Nat} (hi : i < 2) (v : Nat) :
    SameChaser c s (t.setTimer d i v) := by
  refine h.trans ⟨rfl, fun _ => rfl, ⟨rfl, rfl⟩, ⟨?_, ?_⟩⟩
  · exact Sparse.get_put_ne _ _ (by omega) _ _
  · exact Sparse.get_put_ne _ _ (by omega) _ _

theorem SameChaser.setExp {t : State} (h : SameChaser c s t) (i : Nat) (b : Bool) :
    SameChaser c s (t.setExp d i b) := by
  unfold State.setExp
  split
  · exact h.set_status hd (f := TG_CHSTAT_t0_exp d) rfl (by simp [TG_CHSTAT_t0_exp]) (by simp [TG_CHSTAT_t0_exp]) _
  · exact h.set_status hd (f := TG_CHSTAT_t1_exp d) rfl (by simp [TG_CHSTAT_t1_exp]) (by simp [TG_CHSTAT_t1_exp]) _

theorem SameChaser.timerTick {t : State} (h : SameChaser c s t) {i : Nat} (hi : i < 2) :
    SameChaser c s (t.timerTick d i) := by
  unfold State.timerTick
  dsimp only
  split
  · exact h
  · split
    · exact (h.setTimer hd hi 0).setExp hd i true
    · exact h.setTimer hd hi _

end OtherChaser

theorem State.tgMap_congr {t : State} (h : t.tg.maps = s.tg.maps) (p : Bkt) (r : Nat) : t.tgMap p r = s.tgMap p r := by
  rw [State.tgMap, State.tgMap, h]

theorem TgFrame.rd {t : State} (h : TgFrame s t) : t.rd = s.rd := by
  have hplate : t.plate = s.plate := h.block.parts .plate (by decide)
  funext f w
  rw [State.rd, State.rd, hplate]

theorem TgFrame.bypassed {t : State} (h : TgFrame s t) (u : Nat) : t.bypassed u = s.bypassed u := by
  have hplate : t.plate = s.plate := h.block.parts .plate (by decide)
  have hclock : t.clock = s.clock := h.block.parts .clock (by decide)
  rw [State.bypassed, State.bypassed, hplate, hclock, h.block.fields CX_PLATE_STATUS_state (by decide),
    h.block.fields CX_PLATE_RELOAD_state (by decide)]

theorem TgFrame.maskMatch {t : State} (h : TgFrame s t) (p : Bkt) (r k : Nat) : t.maskMatch p r k = s.maskMatch p r k := by
  simp only [State.maskMatch, State.crossMap, h.bypassed, h.rd, State.tgMap_congr h.maps]

/-- The term of a chaser depends on its counters and timers, the maps, and the out bits of the 32 chasers. -/
theorem TgFrame.term {t : State} (h : TgFrame s t) {c : Nat} (hc : SameChaser c s t) {p : Bkt} {outs outs' : Nat → Nat}
    (houts : ∀ d < 32, outs' d = outs d) (i : Nat) : t.term p outs' c i = s.term p outs c i := by
  have hexp (k : Nat) : t.tmrExp c k = s.tmrExp c k := by
    unfold State.tmrExp State.on
    split
    · rw [hc.exps.1]
    · rw [hc.exps.2]
  have hout : 0x1A00 ≤ i ∧ i < 0x1B00 → outs' ((i - 0x1A00) / 8) = outs ((i - 0x1A00) / 8) :=
    fun hi => houts _ (by omega)
  have hmask : t.maskMatch p = s.maskMatch p := by
    funext r k
    exact h.maskMatch p r k
  simp only [State.term, hmask, h.rd, hc.counts, hexp]
  by_cases hi : 0x1A00 ≤ i ∧ i < 0x1B00
  · rw [hout hi]
  · simp only [if_neg hi]

theorem TgFrame.chaserPick {t : State} (h : TgFrame s t) {c : Nat} (hc : SameChaser c s t) {p : Bkt}
    {outs outs' : Nat → Nat} (houts : ∀ d < 32, outs' d = outs d) : t.chaserPick p outs' c = s.chaserPick p outs c := by
  simp only [State.chaserPick, State.condHolds, h.rd, hc.state, h.term hc houts]

/-! ## The close of a map period -/

/-- The chasers not in use at rest, and the timers of the others a map period on. -/
def State.chasersReady (s : State) : State :=
  (s.each ((List.range 32).filter fun c => !s.chaserRuns c) State.chaserIdle).each
    ((List.range 32).filter s.chaserRuns) fun s c => (s.timerTick c 0).timerTick c 1

/-- The chasers in use with the transitions they take. -/
def State.chaserPicks (s : State) (p : Bkt) (outs : Nat → Nat) : List (Nat × Option Nat) :=
  ((List.range 32).filter s.chaserRuns).map fun c => (c, s.chasersReady.chaserPick p outs c)

/-- The out bits of the period before. -/
def State.outsBefore (s : State) : Nat → Nat := fun c =>
  ((List.range 32).map fun c => s.get (TG_CHSTAT_out c)).getD c 0

theorem State.chasersRun_fst (s : State) (p : Bkt) : (s.chasersRun p).1 =
    s.chasersReady.each (s.chaserPicks p s.outsBefore) fun s x => s.chaserTake x.1 x.2 := rfl

theorem State.chasersRun_opens {p : Bkt} {o : Nat × Nat} (h : o ∈ (s.chasersRun p).2) : o.1 < 32 := by
  obtain ⟨x, hx, ho⟩ := List.mem_filterMap.1 h
  obtain ⟨c, hc, rfl⟩ := List.mem_map.1 hx
  have hlt : c < 32 := List.mem_range.1 (List.mem_of_mem_filter hc)
  dsimp only at ho
  split at ho
  · split at ho
    · obtain rfl := Option.some.inj ho
      exact hlt
    · cases ho
  · cases ho

theorem State.chasersReady_frame (s : State) : TgFrame s s.chasersReady :=
  ((TgFrame.refl s).each fun _ _ hc hu => hu.chaserIdle (List.mem_range.1 (List.mem_of_mem_filter hc))).each
    fun _ _ hc hu =>
      have hlt := List.mem_range.1 (List.mem_of_mem_filter hc)
      (hu.timerTick hlt 0).timerTick hlt 1

theorem State.chasersRun_frame (s : State) (p : Bkt) : TgFrame s (s.chasersRun p).1 := by
  rw [State.chasersRun_fst]
  refine s.chasersReady_frame.each fun u x hx hu => ?_
  obtain ⟨c, hc, rfl⟩ := List.mem_map.1 hx
  exact hu.chaserTake (List.mem_range.1 (List.mem_of_mem_filter hc)) _

/-- A chaser in use whose timers stand finds all that it reads as it was before the period. -/
theorem State.chasersReady_same {c : Nat} (hruns : s.chaserRuns c = true) (h0 : s.timer c 0 = 0)
    (h1 : s.timer c 1 = 0) : SameChaser c s s.chasersReady := by
  refine ((SameChaser.refl c s).each fun u d hd hu => ?_).each fun u d _ hu => ?_
  · have hne : d ≠ c := by
      rintro rfl
      simp [hruns] at hd
    exact hu.chaserIdle hne
  · by_cases hne : d = c
    · subst hne
      rw [State.timerTick_of_zero (hu.timers.1.trans h0), State.timerTick_of_zero (hu.timers.2.trans h1)]
      exact hu
    · exact (hu.timerTick hne (by decide)).timerTick hne (by decide)

/-- The period is evaluated: the chasers run, openings are made, and the words are formed. -/
def State.periodRun (s : State) (p : Bkt) (absent : Nat) : State :=
  ((s.chasersRun p).1.each (s.chasersRun p).2 fun s o => s.openRecord p o.1 o.2).formWords p true absent

theorem State.periodRun_frame (s : State) (p : Bkt) (absent : Nat) : TgFrame s (s.periodRun p absent) :=
  ((s.chasersRun_frame p).each fun _ _ ho hu => hu.openRecord p (State.chasersRun_opens ho) _).formWords p true absent

theorem State.before_congr {t : State} (h : t.mt = s.mt) (a b : Bkt) : t.before a b = s.before a b := by
  simp only [State.before, h]

/-- The hit maps of a period closed and those before it are dropped. -/
def State.mapsDropped (s : State) (p : Bkt) : State :=
  { s with tg := { s.tg with maps := s.tg.maps.filter fun m => s.before p (m.orbit, m.bucket) } }

theorem State.mapsDropped_get (s : State) (p : Bkt) (f : Fld) : (s.mapsDropped p).get f = s.get f := rfl

theorem mapPeriodClose_of_evaluated {orbit bucket : Nat} (absent : Nat) (hrun : s.mt.running = true)
    (heval : s.evaluates (orbit, bucket) = true) : mapPeriodClose orbit bucket absent [] s =
      (s.periodRun (orbit, bucket) absent).mapsDropped (orbit, bucket) := by
  have hstage : (s.chasersRun (orbit, bucket)).1.stage6Out = false := by
    have hplate : (s.chasersRun (orbit, bucket)).1.plate = s.plate :=
      (s.chasersRun_frame _).block.parts .plate (by decide)
    have h6 : s.stage6Out = false := by
      simp only [State.evaluates, Bool.and_eq_true, Bool.not_eq_true'] at heval
      exact heval.1.2
    unfold State.stage6Out State.shadowRd at h6 ⊢
    rw [hplate]
    exact h6
  simp only [mapPeriodClose, hrun, heval, hstage, Bool.not_true, Bool.false_eq_true, if_false, if_true,
    State.each_nil, State.iff_false]
  rfl

theorem exec_mapPeriodClose {orbit bucket absent : Nat} (horbit : orbit < 2 ^ 32) (hbucket : bucket < 65536)
    (habsent : absent < 8) (hrun : s.mt.running = true) (heval : s.evaluates (orbit, bucket) = true) :
    exec (.mapPeriodClose orbit bucket absent []) s =
      .next ((s.periodRun (orbit, bucket) absent).mapsDropped (orbit, bucket)) := by
  rw [← mapPeriodClose_of_evaluated absent hrun heval]
  exact effect_of_wf (by simp only [Instr.wf, horbit, hbucket, habsent]; rfl) (mapPeriodClose orbit bucket absent []) s

theorem State.mapsDropped_maps {u : State} (h : TgFrame s u) (p : Bkt) : (u.mapsDropped p).tg.maps =
    s.tg.maps.filter fun m => s.before p (m.orbit, m.bucket) :=
  congrArg₂ List.filter (funext fun m => State.before_congr (h.block.parts .mt (by decide)) _ _) h.maps

theorem State.mapsDropped_frame {u : State} (h : TgFrame s u) (p : Bkt) :
    BlockFrame [.evReq, .tg] tgBlocks s (u.mapsDropped p) := h.block.with_tg _ (by decide)

/-! ## State and out bits of a chaser after the period -/

/-- The status field is the state or the out bits of a chaser. -/
def IsStateOrOut (f : Fld) (c : Nat) : Prop := c < 32 ∧ (f = TG_CHSTAT_state c ∨ f = TG_CHSTAT_out c)

theorem IsStateOrOut.key {f : Fld} {c : Nat} (h : IsStateOrOut f c) :
    f.key = (0x10002800 + c * 0x4) * 32 + 28 ∨ f.key = (0x10002800 + c * 0x4) * 32 + 16 := by
  obtain ⟨-, rfl | rfl⟩ := h
  · exact .inl rfl
  · exact .inr rfl

theorem IsStateOrOut.key_ne {f g : Fld} {c : Nat} (h : IsStateOrOut f c)
    (hg : g.key < 0x10002800 * 32 ∨ 0x10002880 * 32 ≤ g.key ∨ g.key % 32 ≠ 28 ∧ g.key % 32 ≠ 16 := by decide) :
    f.key ≠ g.key := by
  have hkey := h.key
  obtain ⟨hc, -⟩ := h
  omega

theorem IsStateOrOut.counted {f : Fld} {c : Nat} (h : IsStateOrOut f c) (u : State) (g e : Fld) (src : Nat)
    (hg : g.key < 0x10002800 * 32 := by decide) (he : e.key < 0x10002800 * 32 := by decide) :
    ((u.count g).flag e src).get f = u.get f := by
  rw [State.get_flag_ne _ (h.key_ne (.inl he)) h.key_ne, State.get_count_ne _ (h.key_ne (.inl hg))]

theorem IsStateOrOut.openRecord {f : Fld} {c : Nat} (h : IsStateOrOut f c) (u : State) (p : Bkt) (d k : Nat) :
    (u.openRecord p d k).get f = u.get f := by
  have hopens : f.key ≠ (TG_CHSTAT_opens d).key := h.key_ne (.inr (.inr (by simp only [Fld.key, TG_CHSTAT_opens]; omega)))
  have hcount : (u.count (TG_CHSTAT_opens d)).get f = u.get f := State.get_count_ne u hopens 1
  unfold State.openRecord
  dsimp only
  split
  · rw [h.counted _ TG_CNT_OPEN_quar TG_STATUS_open_drop, hcount]
  · split
    · rw [h.counted _ TG_CNT_OPEN_full TG_STATUS_open_drop, hcount]
    · rw [State.setQueue, State.get_set_ne _ (g := f) h.key_ne, State.get_set_ne _ (g := f) h.key_ne, State.get_mk, State.takeLocal,
        State.get_set_ne _ (g := f) h.key_ne, State.get_mk, hcount]

theorem IsStateOrOut.formWords {f : Fld} {c : Nat} (h : IsStateOrOut f c) (u : State) (p : Bkt) (eval : Bool)
    (absent : Nat) : (u.formWords p eval absent).get f = u.get f := by
  have hiff (b : Bool) (v : State) :
      (v.iff b fun s => (s.count TG_CNT_TEST_HIDDEN_count).flag TG_STATUS_test_hidden 85).get f = v.get f := by
    cases b
    · rfl
    · exact h.counted ..
  unfold State.formWords
  dsimp only
  rw [hiff, State.each_get_of_left fun v _ _ => h.counted ..]
  rfl

theorem IsStateOrOut.periodRun {f : Fld} {c : Nat} (h : IsStateOrOut f c) (p : Bkt) (absent : Nat) :
    (s.periodRun p absent).get f = (s.chasersRun p).1.get f := by
  rw [State.periodRun, h.formWords, State.each_get_of_left fun u _ _ => h.openRecord ..]

/-- The actions of a transition leave the states and out bits of all chasers. -/
theorem IsStateOrOut.chaserActs {f : Fld} {c : Nat} (h : IsStateOrOut f c) (u : State) (d t : Nat) :
    (u.chaserActs d t).get f = u.get f := by
  have hexp (v : State) (i : Nat) (b : Bool) : (v.setExp d i b).get f = v.get f := by
    unfold State.setExp
    split
    · exact State.get_setB_ne _ (h.key_ne (.inr (.inr (by simp only [Fld.key, TG_CHSTAT_t0_exp]; omega)))) _
    · exact State.get_setB_ne _ (h.key_ne (.inr (.inr (by simp only [Fld.key, TG_CHSTAT_t1_exp]; omega)))) _
  have htmr (v : State) (i a : Nat) : (v.tmrAct d i a).get f = v.get f := by
    unfold State.tmrAct
    split
    · exact hexp _ _ _
    · exact hexp _ _ _
    · rfl
  have hcnt (v : State) (k a : Nat) : (v.cntAct d k a).get f = v.get f :=
    State.get_set_ne _ (h.key_ne (.inr (.inr (by simp only [Fld.key, TG_CHCNT_value]; omega)))) _
  unfold State.chaserActs
  dsimp only
  rw [State.each_get_of_left fun v k _ => htmr v k _, State.each_get_of_left fun v k _ => hcnt v k _]

theorem IsStateOrOut.chaserTake {f : Fld} {c : Nat} (h : IsStateOrOut f c) {d : Nat} (hd : d ≠ c) (u : State)
    (t : Option Nat) : (u.chaserTake d t).get f = u.get f := by
  have hkey := h.key
  have hout : f.key ≠ (TG_CHSTAT_out d).key := by
    have : (TG_CHSTAT_out d).key = (0x10002800 + d * 0x4) * 32 + 16 := rfl
    omega
  have hst : f.key ≠ (TG_CHSTAT_state d).key := by
    have : (TG_CHSTAT_state d).key = (0x10002800 + d * 0x4) * 32 + 28 := rfl
    omega
  cases t with
  | none => exact State.get_set_ne _ hout _
  | some t => rw [State.chaserTake_some, State.get_set_ne _ hout, State.get_set_ne _ hst, h.chaserActs]

theorem state_key_ne_out (c : Nat) : (TG_CHSTAT_state c).key ≠ (TG_CHSTAT_out c).key := by
  simp [Fld.key, TG_CHSTAT_state, TG_CHSTAT_out]

/-- A chaser in use takes its transition: next state and out bits. -/
theorem State.chasersRun_taken {c : Nat} (hc : c < 32) (hruns : s.chaserRuns c = true) (h0 : s.timer c 0 = 0)
    (h1 : s.timer c 1 = 0) (p : Bkt) :
    let pick := s.chaserPick p (fun d => s.get (TG_CHSTAT_out d)) c
    (s.chasersRun p).1.get (TG_CHSTAT_state c) =
      ((pick.map fun k => cdNext (chCond s.rd c k)).getD (s.get (TG_CHSTAT_state c))) % 2 ^ (TG_CHSTAT_state c).width ∧
    (s.chasersRun p).1.get (TG_CHSTAT_out c) = ((pick.map fun k => cdOut (chCond s.rd c k)).getD 0) % 256 := by
  intro pick
  have hready := s.chasersReady_frame
  have hsame := State.chasersReady_same hruns h0 h1
  have houts : ∀ d < 32, s.outsBefore d = s.get (TG_CHSTAT_out d) := fun d hd => by
    simp [State.outsBefore, hd]
  have hpick : s.chasersReady.chaserPick p s.outsBefore c = pick := hready.chaserPick hsame houts
  have hmem : (c, pick) ∈ s.chaserPicks p s.outsBefore := by
    rw [← hpick]
    exact List.mem_map.2 ⟨c, List.mem_filter.2 ⟨List.mem_range.2 hc, hruns⟩, rfl⟩
  have hother {f : Fld} (h : IsStateOrOut f c) (u : State) (x) (hx : x ∈ s.chaserPicks p s.outsBefore)
      (hne : x ≠ (c, pick)) : (u.chaserTake x.1 x.2).get f = u.get f := by
    refine h.chaserTake (fun hd => hne ?_) u _
    obtain ⟨d, -, rfl⟩ := List.mem_map.1 hx
    obtain rfl : d = c := hd
    rw [hpick]
  have hrd (u : State) (x) (hx : x ∈ s.chaserPicks p s.outsBefore) (hu : TgFrame s u) :
      TgFrame s (u.chaserTake x.1 x.2) := by
    obtain ⟨d, hd, rfl⟩ := List.mem_map.1 hx
    exact hu.chaserTake (List.mem_range.1 (List.mem_of_mem_filter hd)) _
  rw [State.chasersRun_fst]
  cases hp : pick with
  | none =>
    constructor
    · rw [State.each_get_of_left fun u x hx => ?_]
      · exact hsame.state.trans (Nat.mod_eq_of_lt (State.get_lt _ _)).symm
      · by_cases hne : x = (c, pick)
        · rw [hne, hp]
          exact State.get_set_ne _ (state_key_ne_out c) _
        · exact hother ⟨hc, .inl rfl⟩ u x hx hne
    · refine State.each_get_of_put (I := TgFrame s) hmem hready hrd (fun u hu => ?_) (hother ⟨hc, .inr rfl⟩)
      rw [hp]
      exact State.get_set_same _ _ _
  | some t =>
    constructor
    · refine State.each_get_of_put (I := TgFrame s) hmem hready hrd (fun u hu => ?_) (hother ⟨hc, .inl rfl⟩)
      rw [hp, State.chaserTake_some, State.get_set_ne _ (state_key_ne_out c), State.get_set_same, hu.rd]
      rfl
    · refine State.each_get_of_put (I := TgFrame s) hmem hready hrd (fun u hu => ?_) (hother ⟨hc, .inr rfl⟩)
      rw [hp, State.chaserTake_some, State.get_set_same, hu.rd]
      rfl

/-- A chaser not in use is at rest. -/
theorem State.chasersRun_rest {c : Nat} (hc : c < 32) (hruns : s.chaserRuns c = false) (p : Bkt) :
    (s.chasersRun p).1.get (TG_CHSTAT_state c) = 0 ∧ (s.chasersRun p).1.get (TG_CHSTAT_out c) = 0 := by
  have hother {d : Nat} (hd : d ∈ (List.range 32).filter s.chaserRuns) : d ≠ c := by
    rintro rfl
    simp [hruns] at hd
  have hleft {f : Fld} (h : IsStateOrOut f c) : (s.chasersRun p).1.get f =
      (s.each ((List.range 32).filter fun c => !s.chaserRuns c) State.chaserIdle).get f := by
    have htick (u : State) (d i : Nat) : (u.timerTick d i).get f = u.get f := by
      have hexp (v : State) : (v.setExp d i true).get f = v.get f := by
        unfold State.setExp
        split
        · exact State.get_setB_ne _ (h.key_ne (.inr (.inr (by simp only [Fld.key, TG_CHSTAT_t0_exp]; omega)))) _
        · exact State.get_setB_ne _ (h.key_ne (.inr (.inr (by simp only [Fld.key, TG_CHSTAT_t1_exp]; omega)))) _
      unfold State.timerTick
      dsimp only
      split
      · rfl
      · split
        · exact hexp _
        · rfl
    rw [State.chasersRun_fst, State.each_get_of_left fun u x hx => ?_, State.chasersReady,
      State.each_get_of_left fun u d _ => ?_]
    · rw [htick, htick]
    · obtain ⟨d, hd, rfl⟩ := List.mem_map.1 hx
      exact h.chaserTake (hother hd) u _
  have hmem : c ∈ (List.range 32).filter fun c => !s.chaserRuns c := by simp [hc, hruns]
  have hidle {f : Fld} (h : IsStateOrOut f c) (u : State) (d : Nat) (hd : d ≠ c) : (u.chaserIdle d).get f = u.get f := by
    have hkey := h.key
    have hkeyout : (TG_CHSTAT_out d).key = (0x10002800 + d * 0x4) * 32 + 16 := rfl
    have hkeyst : (TG_CHSTAT_state d).key = (0x10002800 + d * 0x4) * 32 + 28 := rfl
    rw [State.chaserIdle, State.get_set_ne _ (by omega), State.get_set_ne _ (by omega)]
  constructor
  · rw [hleft ⟨hc, .inl rfl⟩]
    refine State.each_get_of_put (I := fun _ => True) hmem trivial (fun _ _ _ _ => trivial) (fun u _ => ?_)
      fun u d _ hd => hidle ⟨hc, .inl rfl⟩ u d hd
    rw [State.chaserIdle, State.get_set_ne _ (state_key_ne_out c)]
    exact State.get_set_same _ _ _
  · rw [hleft ⟨hc, .inr rfl⟩]
    refine State.each_get_of_put (I := fun _ => True) hmem trivial (fun _ _ _ _ => trivial) (fun u _ => ?_)
      fun u d _ hd => hidle ⟨hc, .inr rfl⟩ u d hd
    exact State.get_set_same _ _ _

/-- Settles O26: a period evaluated is run over the 32 chasers, of which each changes its own state, out bits,
counters and timers; an accept joins the queue. -/
theorem mapPeriodsChasersAndAccepts : Obligations.MapPeriodsChasersAndAccepts := by
  unfold Obligations.MapPeriodsChasersAndAccepts
  refine ⟨?period, ?rest, ?timer, ?accept, ?bad, ?stopped, ?localRead⟩
  case period =>
    intro s orbit bucket absent c horbit hbucket habsent hc hrun heval hruns h0 h1 outs pick
    obtain ⟨hst, hout⟩ := State.chasersRun_taken hc hruns h0 h1 (orbit, bucket)
    have hframe := s.periodRun_frame (orbit, bucket) absent
    refine ⟨_, exec_mapPeriodClose horbit hbucket habsent hrun heval, ?_, ?_, State.mapsDropped_maps hframe _,
      State.mapsDropped_frame hframe _⟩
    · rw [State.mapsDropped_get, IsStateOrOut.periodRun ⟨hc, .inl rfl⟩]
      exact hst
    · rw [State.mapsDropped_get, IsStateOrOut.periodRun ⟨hc, .inr rfl⟩]
      exact hout
  case rest =>
    intro s orbit bucket absent c horbit hbucket habsent hc hrun heval hruns
    obtain ⟨hst, hout⟩ := State.chasersRun_rest hc hruns (orbit, bucket)
    refine ⟨_, exec_mapPeriodClose horbit hbucket habsent hrun heval, ?_, ?_⟩
    · rw [State.mapsDropped_get, IsStateOrOut.periodRun ⟨hc, .inl rfl⟩]
      exact hst
    · rw [State.mapsDropped_get, IsStateOrOut.periodRun ⟨hc, .inr rfl⟩]
      exact hout
  case timer =>
    intro s c i hc hi hone hrun hacq hstage hruns
    rw [exec_chaserTimerExpiry hc hi hrun, chaserTimerExpiry_of_one hone hacq hstage hruns]
    rfl
  case accept =>
    intro s body hbody hrun hnext hacq hstage hb at_ a
    refine ⟨_, exec_acceptCommand hbody hrun, ?_⟩
    have ha : s.acceptOf body = a := rfl
    rw [acceptCommand_of_next hnext, ← ha]
    clear ha
    generalize hu : ({ s with tg := { s.tg with arrived := s.tg.arrived.erase body } } : State) = u
    have hu' : Frame [.tg] [TG_QUEUE_used, TG_QUEUE_peak] s u := hu ▸ Frame.beside (Frame.refl _ _ s)
    have harr : u.tg.arrived = s.tg.arrived.erase body := hu ▸ rfl
    have hq : u.tg.queue = s.tg.queue := hu ▸ rfl
    have htrig : u.acceptOf body = s.acceptOf body := hu ▸ rfl
    rw [State.takeAccept_of_good hbody (hu ▸ hacq) (hu ▸ hstage) (hu ▸ hb), htrig, hq]
    exact ⟨harr, rfl, State.setQueue_used _ _, hu'.next (State.setQueue_frame _ _)
      (List.Subset.refl _) (List.Subset.refl _)⟩
  case bad =>
    intro s body hbody hrun hnext hacq hstage hb
    refine ⟨_, exec_acceptCommand hbody hrun, ?_⟩
    rw [acceptCommand_of_next hnext]
    generalize hu : ({ s with tg := { s.tg with arrived := s.tg.arrived.erase body } } : State) = u
    have hu' : Frame [.tg] [] s u := hu ▸ Frame.beside (Frame.refl _ _ s)
    obtain ⟨a, hacc, hbad, ht⟩ := State.takeAccept_of_bad (s := u) (body := body) (hu ▸ hacq) (hu ▸ hstage) (hu ▸ hb)
    rw [ht]
    have hqueue := u.setQueue_frame (joinAccept a u.tg.queue)
    refine ⟨?_, ?_, ?_, ?_⟩
    · rw [State.flag_tg, State.count_tg, State.setQueue_tg, List.any_eq_true]
      exact ⟨a, mem_joinAccept _ _, by simp [hacc, hbad]⟩
    · rw [State.get_flag_ne _ (by decide) (by decide), State.get_count_same, hqueue.get (by decide), hu'.get (by decide)]
    · rw [State.on_eq_of_get (State.get_flag_same _ rfl (by decide) _ _)]
      rfl
    · exact (((hu'.mono (by decide) (by decide)).next hqueue (by decide) (by decide)).count _ 1 (by decide)).flag _ _ _
        (by decide) (by decide) (by decide)
  case stopped =>
    intro s body hbody hrun hnext hacq
    rw [exec_acceptCommand hbody hrun, acceptCommand, hnext, State.takeAccept, hacq]
    rfl
  case localRead =>
    intro s
    exact effect_of_wf rfl tgLocalRead s

end Sys2Proof.Machine
end

section
/-! SUPPORT and PROOF. The record engine takes triggers, and dumps (R259 to R266, R286). -/

namespace Sys2Proof.Machine

open Sys2Proof

variable {s : State}

/-! ## The busy judgement leaves the send order -/

theorem State.sendCredit_order (s : State) (p : Nat) : (s.sendCredit p).str.order = s.str.order := rfl

theorem State.creditsDue_order (s : State) : s.creditsDue.str.order = s.str.order := by
  have heach (l : List Nat) (u : State) : (u.each l State.sendCredit).str.order = u.str.order := by
    induction l generalizing u with
    | nil => rfl
    | cons p l ih => exact (ih _).trans (u.sendCredit_order p)
  unfold State.creditsDue
  split
  · rfl
  · exact heach _ _

theorem State.busyEval_order (s : State) : s.busyEval.str.order = s.str.order := by
  rw [State.busyEval, State.creditsDue_order, s.busyJudge_frame.parts .str (by decide)]

/-! ## Fragments join the send order -/

/-- A fragment that joins the send order ready. -/
theorem State.fragReady_pushFrag (s : State) (f : Frag) (body : List Nat) (blocks : Nat) :
    ((s.pushFrag f).fragReady s.str.nextId body blocks).str.order.getLast? =
      some { f with id := s.str.nextId, body := some body, blocks := blocks, turn := s.str.nextTurn } ∧
    ((s.pushFrag f).fragReady s.str.nextId body blocks).str.order.length = s.str.order.length + 1 := by
  simp [State.fragReady, State.mapFrag, State.pushFrag]

theorem State.pushFrag_frame (s : State) (f : Frag) : Frame [.str] [] s (s.pushFrag f) :=
  Frame.beside (Frame.refl _ _ s)

theorem State.fragReady_frame (s : State) (id : Nat) (body : List Nat) (blocks : Nat) :
    Frame [.str] [] s (s.fragReady id body blocks) := Frame.beside (Frame.refl _ _ s)

/-! ## A refusal -/

/-- The registers that a refusal with room in the refusal queue changes. -/
def refuseFields : List Fld :=
  [RC_CNT_REFUSE_count, RC_REFUSE_LAST_class, RC_REFUSE_LAST_cause, RC_STATUS_refused, RC_RF_used, MG_EVLOG_merged]

/-- The refusal is counted and shown. -/
def State.refusalShown (s : State) (cls cause : Nat) : State :=
  (((s.count RC_CNT_REFUSE_count).set RC_REFUSE_LAST_class cls).set RC_REFUSE_LAST_cause cause).flag RC_STATUS_refused 96

theorem State.refusalShown_frame (s : State) (cls cause : Nat) :
    Frame [.evReq] [RC_CNT_REFUSE_count, RC_REFUSE_LAST_class, RC_REFUSE_LAST_cause, RC_STATUS_refused, MG_EVLOG_merged]
      s (s.refusalShown cls cause) :=
  ((((Frame.refl _ _ s).count _ 1 (by decide)).set _ _ (by decide)).set _ _ (by decide)).flag _ _ _ (by decide)
    (by decide) (by decide)

/-- The words of the fragment that tells of a refusal. -/
def State.refusalBody (s : State) (x : Trig) (cause : Nat) : List Nat :=
  emptyBody (s.get FB_ADDR_addr) (if x.accept then 0 else 1) x.cls x.number x.orbit x.bucket
    { cause := cause, refused := true, quarantined := cause == 1, frozen := cause == 4, btInvalid := x.bad,
      holdover := s.on CX_MT_STATUS_holdover }

/-- The fragment that tells of a refusal waits in the refusal queue. -/
def refusalFrag (x : Trig) : Frag :=
  ⟨0, if x.accept then 0 else 1, x.cls, x.number, x.orbit, x.bucket, none, true, none, 0, 0⟩

theorem State.refuse_of_room {x : Trig} {cause : Nat} (h : s.get RC_RF_used < 4096) :
    s.refuse x cause = (((s.refusalShown x.cls cause).pushFrag (refusalFrag x)).fragReady s.str.nextId
      ((s.refusalShown x.cls cause).refusalBody x cause) 0).set RC_RF_used (s.get RC_RF_used + 1) := by
  have hshown := s.refusalShown_frame x.cls cause
  have hused : (s.refusalShown x.cls cause).get RC_RF_used = s.get RC_RF_used := hshown.get (by decide)
  have hnext : (s.refusalShown x.cls cause).str.nextId = s.str.nextId := by rw [hshown.parts .str (by decide)]
  have hnot : ¬ 4096 ≤ (s.refusalShown x.cls cause).get RC_RF_used := by omega
  have hget (u : State) (f : Frag) : (u.pushFrag f).get RC_RF_used = u.get RC_RF_used :=
    (State.pushFrag_frame _ _).get (by decide)
  generalize hu : s.refusalShown x.cls cause = u at *
  unfold State.refuse
  dsimp only
  rw [show (((s.count RC_CNT_REFUSE_count).set RC_REFUSE_LAST_class x.cls).set RC_REFUSE_LAST_cause cause).flag
    RC_STATUS_refused 96 = u from hu, if_neg hnot, hnext, hget, hused]
  rfl

theorem State.refuse_frame {x : Trig} {cause : Nat} (h : s.get RC_RF_used < 4096) :
    Frame [.str, .evReq] refuseFields s (s.refuse x cause) := by
  have hr := State.refuse_of_room (x := x) (cause := cause) h
  rw [hr]
  refine Frame.set (Frame.next (Frame.next ((s.refusalShown_frame x.cls cause).mono (by decide) (by decide))
    (State.pushFrag_frame _ _) (by decide) (by decide)) (State.fragReady_frame _ _ _ _) (by decide) (by decide)) _ _
    (by decide)

/-- A refusal with room in the refusal queue: it is counted, shown, and joins the send order, ready. -/
structure Refused (x : Trig) (cause : Nat) (s t : State) : Prop where
  count : t.get RC_CNT_REFUSE_count = min (s.get RC_CNT_REFUSE_count + 1) (2 ^ RC_CNT_REFUSE_count.width - 1)
  cls : t.get RC_REFUSE_LAST_class = x.cls % 16
  cause : t.get RC_REFUSE_LAST_cause = cause % 2 ^ RC_REFUSE_LAST_cause.width
  used : t.get RC_RF_used = s.get RC_RF_used + 1
  entry : (t.str.order.getLast?).map (fun f => (f.cls, f.number, f.refused, f.ctx, f.body.isSome)) =
    some (x.cls, x.number, true, none, true)
  length : t.str.order.length = s.str.order.length + 1

theorem State.refuse_refused (x : Trig) (cause : Nat) (h : s.get RC_RF_used < 4096) :
    Refused x cause s (s.refuse x cause) := by
  have hr := State.refuse_of_room (x := x) (cause := cause) h
  have hshown := s.refusalShown_frame x.cls cause
  have hstr : (s.refusalShown x.cls cause).str = s.str := hshown.parts .str (by decide)
  obtain ⟨hlast, hlen⟩ := (s.refusalShown x.cls cause).fragReady_pushFrag (refusalFrag x)
    ((s.refusalShown x.cls cause).refusalBody x cause) 0
  rw [hstr] at hlast hlen
  have hget {g : Fld} (hg : g.key ≠ RC_RF_used.key) : (s.refuse x cause).get g = (s.refusalShown x.cls cause).get g := by
    rw [hr, State.get_set_ne _ hg, (State.fragReady_frame _ _ _ _).get nofun,
      (State.pushFrag_frame _ _).get nofun]
  refine ⟨?_, ?_, ?_, ?_, ?_, ?_⟩
  · rw [hget (by decide), State.refusalShown]
    simp (disch := decide) only [State.get_flag_ne, State.get_set_ne, State.get_count_same]
  · rw [hget (by decide), State.refusalShown]
    simp (disch := decide) only [State.get_flag_ne, State.get_set_ne, State.get_set_same]
    rfl
  · rw [hget (by decide), State.refusalShown]
    simp (disch := decide) only [State.get_flag_ne, State.get_set_same]
  · rw [hr]
    exact State.get_set_fit _ RC_RF_used (show s.get RC_RF_used + 1 < 2 ^ 13 by omega)
  · rw [hr, State.set_str, hlast]
    rfl
  · rw [hr, State.set_str, hlen]

/-! ## A context is taken and a record opened -/

theorem State.takeCtx_frame (s : State) (ctx : Nat) :
    Frame [.rc, .prot] [RC_CTX_free, RC_CTX_min_free] s (s.takeCtx ctx) :=
  ((Frame.with_prot (Frame.with_rc (Frame.refl _ _ s) { s.rc with ctxUsed := Sparse.insert ctx true s.rc.ctxUsed }
    (by decide)) _ (by decide)).set _ _ (by decide)).set _ _ (by decide)

theorem State.takeCtx_rc (s : State) (ctx : Nat) :
    (s.takeCtx ctx).rc = { s.rc with ctxUsed := Sparse.insert ctx true s.rc.ctxUsed } := rfl

/-- The lowest context not in use is the free one. -/
theorem State.freeCtx_of_lowest {ctx : Nat} (hfree : s.get RC_CTX_free ≠ 0) (hctx : ctx < 10240)
    (hunused : Sparse.has ctx s.rc.ctxUsed = false) (hbelow : ∀ c < ctx, Sparse.has c s.rc.ctxUsed = true) :
    s.freeCtx = some ctx := by
  rw [State.freeCtx, if_neg hfree, List.find?_range_eq_some]
  exact ⟨by simp [hunused], List.mem_range.2 hctx, fun c hc => by simp [hbelow c hc]⟩

/-- Buckets pinned, or found gone, are all that the pins of a record change in it. -/
def SameRec (r r' : Rec) : Prop := r' = { r with pins := r'.pins, gone := r'.gone }

theorem SameRec.refl (r : Rec) : SameRec r r := rfl

theorem SameRec.trans {r r' r'' : Rec} (h : SameRec r r') (h' : SameRec r' r'') : SameRec r r'' := by
  rw [SameRec, h'] at *
  rw [h]

theorem State.recPin_same (s : State) (r : Rec) (i : Nat) : SameRec r (s.recPin r i).1 := by
  unfold State.recPin
  split <;> rfl

theorem State.recPin_frame (s : State) (r : Rec) (i : Nat) : Frame [.store] [] s (s.recPin r i).2 := by
  unfold State.recPin State.pin
  split
  next u h =>
    split at h
    next =>
      split at h
      next a d hd =>
        cases h
        cases a
        · exact Frame.beside (Frame.refl _ _ s)
        · exact Frame.beside (Frame.refl _ _ s)
      next => cases h
    next => cases h
  next => exact Frame.refl _ _ s

theorem State.recPinAll_spec (s : State) (r : Rec) :
    SameRec r (s.recPinAll r).1 ∧ Frame [.store] [] s (s.recPinAll r).2 := by
  have hfold (l : List Nat) (acc : Rec × State) (h : SameRec r acc.1 ∧ Frame [.store] [] s acc.2) :
      SameRec r (l.foldl (fun acc i => if acc.2.beingWritten (acc.2.winBkt acc.1 i) then acc
        else acc.2.recPin acc.1 i) acc).1 ∧
      Frame [.store] [] s (l.foldl (fun acc i => if acc.2.beingWritten (acc.2.winBkt acc.1 i) then acc
        else acc.2.recPin acc.1 i) acc).2 := by
    induction l generalizing acc with
    | nil => exact h
    | cons i l ih =>
      refine ih _ ?_
      dsimp only
      split
      · exact h
      · exact ⟨h.1.trans (State.recPin_same _ _ _), h.2.trans (State.recPin_frame _ _ _)⟩
  exact hfold _ _ ⟨SameRec.refl r, Frame.refl _ _ s⟩

/-- The registers that the opening of a record changes. -/
def recordFields (cls : Nat) : List Fld := [RC_CLASS_CNT_count cls, RC_CTX_free, RC_CTX_min_free]

theorem classCount_key_ne {f : Fld} (cls : Nat) (h : f.key < 0x10003100 * 32 ∨ f.key % 32 ≠ 0 := by decide) :
    (RC_CLASS_CNT_count cls).key ≠ f.key := by
  have hkey : (RC_CLASS_CNT_count cls).key = (0x10003100 + cls * 0x4) * 32 := rfl
  omega

/-- The record of a class on its window, before its pins. -/
def State.newRec (s : State) (ctx origin cls number : Nat) (bT : Bkt) (bad : Bool) (win : Bkt) (len : Nat) : Rec :=
  let f := s.rd (fClass cls)
  { ctx := ctx, id := s.str.nextId, origin := origin, cls := cls, number := number, orbit := bT.1, bucket := bT.2
    bad := bad, w0 := f 0, w1 := f 1, w2 := f 2, w3 := f 3, winO := win.1, winB := win.2, len := len
    next := 0, pins := [], gone := [], endAt := none, trimmed := false, overlap := false, frozen := false
    holdover := false, feAbsent := 0, damaged := 0, quar := false, hits := [], open_ := [], closed := [] }

/-- A record is opened: it is the latest one, holds its context, is counted, and waits in the send order. -/
structure RecordOpened (ctx cls : Nat) (r : Rec) (s t : State) : Prop where
  recs : ∃ r', SameRec r r' ∧ t.rc.recs = s.rc.recs ++ [r']
  ctxUsed : t.rc.ctxUsed = Sparse.insert ctx true s.rc.ctxUsed
  dump : t.rc.dump = s.rc.dump
  order : t.str.order.length = s.str.order.length + 1
  count : t.get (RC_CLASS_CNT_count cls) = min (s.get (RC_CLASS_CNT_count cls) + 1)
    (2 ^ (RC_CLASS_CNT_count cls).width - 1)
  frame : Frame [.rc, .str, .store, .prot] (recordFields cls) s t

/-- The record is the latest one. -/
def State.recAdded (s : State) (r : Rec) : State := { s with rc := { s.rc with recs := s.rc.recs ++ [r] } }

theorem State.openRec_opened (s : State) (ctx origin cls number : Nat) (bT : Bkt) (bad : Bool) (win : Bkt) (len : Nat)
    (g : Rec → Rec) : RecordOpened ctx cls (g (s.newRec ctx origin cls number bT bad win len)) s
      (s.openRec ctx origin cls number bT bad win len g) := by
  generalize hf : (⟨0, origin, cls, number, bT.1, bT.2, some ctx, false, none, 0, 0⟩ : Frag) = f
  generalize hu : ((s.pushFrag f).takeCtx ctx).count (RC_CLASS_CNT_count cls) = u
  generalize hr : g (s.newRec ctx origin cls number bT bad win len) = r
  have hopen : s.openRec ctx origin cls number bT bad win len g =
      (u.recPinAll r).2.recAdded (u.recPinAll r).1 := by
    subst hf hu hr
    rfl
  obtain ⟨hrec, hpins⟩ := u.recPinAll_spec r
  have hrc : u.rc = { s.rc with ctxUsed := Sparse.insert ctx true s.rc.ctxUsed } := by
    rw [← hu, State.count_rc, State.takeCtx_rc]
    rfl
  have hrc' : (u.recPinAll r).2.rc = u.rc := hpins.parts .rc (by decide)
  have hstr : (u.recPinAll r).2.str = (s.pushFrag f).str := by
    rw [hpins.parts .str (by decide), ← hu, State.count_str, (State.takeCtx_frame _ _).parts .str (by decide)]
  have hframe : Frame [.rc, .str, .store, .prot] (recordFields cls) s u := by
    rw [← hu]
    refine Frame.count (Frame.next ((s.pushFrag_frame f).mono (by decide) nofun) (State.takeCtx_frame _ _)
      (by decide) (by simp [recordFields])) _ 1 (by simp [recordFields])
  rw [hopen]
  refine ⟨⟨_, hrec, ?_⟩, ?_, ?_, ?_, ?_, ?_⟩
  · simp only [State.recAdded, hrc', hrc]
  · simp only [State.recAdded, hrc', hrc]
  · simp only [State.recAdded, hrc', hrc]
  · simp only [State.recAdded, hstr, State.pushFrag, List.length_append, List.length_singleton]
  · rw [State.recAdded, State.get_mk, hpins.get nofun, ← hu, State.get_count_same,
      (State.takeCtx_frame _ _).get (by
        simp only [List.mem_cons, List.not_mem_nil, or_false, forall_eq_or_imp, forall_eq]
        exact ⟨classCount_key_ne cls, classCount_key_ne cls⟩), (s.pushFrag_frame f).get nofun]
  · exact Frame.with_rc (hframe.next hpins (by decide) nofun) _ (by decide)

/-! ## The record engine takes a trigger -/

theorem exec_recordEngineTake (hrun : s.mt.running = true) :
    exec .recordEngineTake s = .next (recordEngineTake s) := effectMs_of_running (c := .recordEngineTake) rfl hrun _

theorem recordEngineTake_of_first {x : Trig} {rest : List Trig} (h : s.tg.queue = x :: rest) :
    recordEngineTake s = ((s.setQueue rest).takeTrig x).busyEval := by rw [recordEngineTake, h]

theorem State.freeCtx_congr {t : State} (hrc : t.rc = s.rc) (hfree : t.get RC_CTX_free = s.get RC_CTX_free) :
    t.freeCtx = s.freeCtx := by rw [State.freeCtx, State.freeCtx, hrc, hfree]

theorem State.setQueue_freeCtx (s : State) (q : List Trig) : (s.setQueue q).freeCtx = s.freeCtx :=
  State.freeCtx_congr rfl ((s.setQueue_frame q).get (by decide))

theorem State.setQueue_rd (s : State) (q : List Trig) : (s.setQueue q).rd = s.rd := rfl

theorem State.setQueue_bypassed (s : State) (q : List Trig) (u : Nat) : (s.setQueue q).bypassed u = s.bypassed u := by
  have hstate : (s.setQueue q).get CX_PLATE_STATUS_state = s.get CX_PLATE_STATUS_state :=
    (s.setQueue_frame q).get (by decide)
  have hrel : (s.setQueue q).get CX_PLATE_RELOAD_state = s.get CX_PLATE_RELOAD_state :=
    (s.setQueue_frame q).get (by decide)
  rw [State.bypassed, hstate, hrel]
  rfl

theorem State.setQueue_inRearm (s : State) (q : List Trig) (x : Trig) : (s.setQueue q).inRearm x = s.inRearm x := rfl

theorem State.setQueue_refusalCause (s : State) (q : List Trig) (x : Trig) (rearm : Option LastRec) :
    (s.setQueue q).refusalCause x rearm = s.refusalCause x rearm := by
  rw [State.refusalCause, State.setQueue_bypassed, State.setQueue_rd, State.setQueue_freeCtx]
  rfl

theorem State.takeTrig_of_cause {x : Trig} {cause : Nat} (h : s.refusalCause x (s.inRearm x) = some cause) :
    s.takeTrig x = s.refuse x cause := by
  unfold State.takeTrig
  simp only [h]

theorem State.takeTrig_of_bad {x : Trig} {ctx : Nat} (h : s.refusalCause x (s.inRearm x) = none)
    (hctx : s.freeCtx = some ctx) (hbad : x.bad = true) : s.takeTrig x =
      s.openRec ctx (if x.accept then 0 else 1) x.cls x.number (x.orbit, x.bucket) true (x.orbit, x.bucket) 0 id := by
  unfold State.takeTrig
  simp only [h, hctx, hbad, if_true]

/-- The first bucket of the window where policy 1 trims it (R265). -/
def State.trimOf (s : State) (x : Trig) (rearm : Option LastRec) : Option Bkt :=
  match rearm with
  | some l =>
    if tcPolicy s.rd x.cls = 1 ∧ s.before (subBkt s.mt.nb (x.orbit, x.bucket) (tcPre s.rd x.cls))
      (addBkt s.mt.nb (l.endO, l.endB) 1) then some (addBkt s.mt.nb (l.endO, l.endB) 1) else none
  | none => none

/-- What re-arm and a stop of acquisition add to a record opened. -/
def State.rearmed (s : State) (x : Trig) (rearm : Option LastRec) (u : State) (r : Rec) : Rec :=
  if u.acq then { r with trimmed := (s.trimOf x rearm).isSome, overlap := rearm.isSome && tcPolicy s.rd x.cls == 2 }
  else { r with
    trimmed := (s.trimOf x rearm).isSome, overlap := rearm.isSome && tcPolicy s.rd x.cls == 2
    endAt := some (u.unsealedFrom
      { r with trimmed := (s.trimOf x rearm).isSome, overlap := rearm.isSome && tcPolicy s.rd x.cls == 2 }) }

/-- The window of a trigger: its first bucket and its length. -/
def State.windowOf (s : State) (x : Trig) (rearm : Option LastRec) : Bkt × Nat :=
  let win := (s.trimOf x rearm).getD (subBkt s.mt.nb (x.orbit, x.bucket) (tcPre s.rd x.cls))
  (win, (diffBkt s.mt.nb (addBkt s.mt.nb (x.orbit, x.bucket) (tcPost s.rd x.cls)) win + 1).toNat)

theorem State.takeTrig_of_good {x : Trig} {ctx : Nat} (h : s.refusalCause x (s.inRearm x) = none)
    (hctx : s.freeCtx = some ctx) (hbad : x.bad = false) : ∃ l : LastRec, s.takeTrig x =
      (s.openRec ctx (if x.accept then 0 else 1) x.cls x.number (x.orbit, x.bucket) false
        (s.windowOf x (s.inRearm x)).1 (s.windowOf x (s.inRearm x)).2 (s.rearmed x (s.inRearm x) s)).setLast l := by
  unfold State.takeTrig
  simp only [h, hctx, hbad]
  exact ⟨_, rfl⟩

/-- The registers that a trigger taken into a record changes. -/
def takenFields (cls : Nat) : List Fld :=
  [TG_QUEUE_used, TG_QUEUE_peak, RC_CLASS_CNT_count cls, RC_CTX_free, RC_CTX_min_free, RC_BUSY_busy, MG_EVLOG_merged]

/-- The first trigger of the queue has been taken into a record. -/
structure TriggerTaken (rest : List Trig) (ctx cls : Nat) (r : Rec) (s t : State) : Prop where
  queue : t.tg.queue = rest
  recs : ∃ r', SameRec r r' ∧ t.rc.recs = s.rc.recs ++ [r']
  ctxUsed : Sparse.has ctx t.rc.ctxUsed = true
  order : t.str.order.length = s.str.order.length + 1
  count : t.get (RC_CLASS_CNT_count cls) = min (s.get (RC_CLASS_CNT_count cls) + 1)
    (2 ^ (RC_CLASS_CNT_count cls).width - 1)
  frame : Frame [.tg, .rc, .str, .store, .prot, .evReq, .free] (takenFields cls) s t

theorem RecordOpened.taken {rest : List Trig} {ctx cls : Nat} {r : Rec} {u : State}
    (h : RecordOpened ctx cls r (s.setQueue rest) u) : TriggerTaken rest ctx cls r s u.busyEval := by
  have hbusy := u.busyEval_frame
  have hqueue := s.setQueue_frame rest
  obtain ⟨hrecs, hused, -, horder, hcount, hframe⟩ := h
  have hrc : u.busyEval.rc = u.rc := hbusy.parts .rc (by decide)
  refine ⟨?_, ?_, ?_, ?_, ?_, ?_⟩
  · rw [hbusy.parts .tg (by decide), hframe.parts .tg (by decide)]
    rfl
  · rw [hrc]
    exact hrecs
  · rw [hrc, hused, sparse_has_insert]
    simp
  · rw [State.busyEval_order, horder]
    rfl
  · rw [hbusy.get (by
        simp only [List.mem_cons, List.not_mem_nil, or_false, forall_eq_or_imp, forall_eq]
        exact ⟨classCount_key_ne cls, classCount_key_ne cls⟩), hcount, hqueue.get (by
        simp only [List.mem_cons, List.not_mem_nil, or_false, forall_eq_or_imp, forall_eq]
        exact ⟨classCount_key_ne cls, classCount_key_ne cls⟩)]
  · exact (((hqueue.mono (by decide) (by simp [takenFields])).next hframe (by decide)
      (by simp [recordFields, takenFields])).next hbusy (by decide) (by simp [takenFields]))

theorem RecordOpened.setLast {ctx cls : Nat} {r : Rec} {u : State} (h : RecordOpened ctx cls r s u) (l : LastRec) :
    RecordOpened ctx cls r s (u.setLast l) :=
  ⟨h.recs, h.ctxUsed, h.dump, h.order, h.count, h.frame.with_rc _ (by decide)⟩

/-- The record that a trigger with a bucket opens. -/
def State.trigRec (s : State) (x : Trig) (ctx : Nat) (rearm : Option LastRec) (u : State) : Rec :=
  s.rearmed x rearm u (u.newRec ctx (if x.accept then 0 else 1) x.cls x.number (x.orbit, x.bucket) false
    (s.windowOf x rearm).1 (s.windowOf x rearm).2)

theorem State.freeCtx_of_none_refused {x : Trig} {rearm : Option LastRec} (h : s.refusalCause x rearm = none) :
    s.get RC_CTX_free ≠ 0 := by
  intro hzero
  have hnone : s.freeCtx = none := by rw [State.freeCtx, if_pos hzero]
  simp only [State.refusalCause, hnone, Option.isNone_none, if_true] at h
  split_ifs at h

/-- Taken without a refusal cause, a trigger with a bucket opens the record of its window. -/
theorem recordEngineTake_of_good {x : Trig} {rest : List Trig} {ctx : Nat} {rearm : Option LastRec}
    (hq : s.tg.queue = x :: rest) (hbad : x.bad = false) (hrearm : s.inRearm x = rearm)
    (hcause : s.refusalCause x rearm = none) (hctx : ctx < 10240)
    (hunused : Sparse.has ctx s.rc.ctxUsed = false) (hbelow : ∀ c < ctx, Sparse.has c s.rc.ctxUsed = true) :
    TriggerTaken rest ctx x.cls (s.trigRec x ctx rearm (s.setQueue rest)) s (recordEngineTake s) := by
  subst hrearm
  have hfree := State.freeCtx_of_lowest (State.freeCtx_of_none_refused hcause) hctx hunused hbelow
  obtain ⟨l, htake⟩ := State.takeTrig_of_good (s := s.setQueue rest) (x := x) (ctx := ctx)
    (by rw [State.setQueue_inRearm, State.setQueue_refusalCause, hcause]) (by rw [State.setQueue_freeCtx, hfree]) hbad
  rw [recordEngineTake_of_first hq, htake]
  exact ((State.openRec_opened _ _ _ _ _ _ _ _ _ _).setLast l).taken

/-- Taken without a refusal cause, a trigger without a bucket opens a record of an empty window. -/
theorem recordEngineTake_of_bad {x : Trig} {rest : List Trig} {ctx : Nat}
    (hq : s.tg.queue = x :: rest) (hbad : x.bad = true)
    (hcause : s.refusalCause x none = none) (hctx : ctx < 10240)
    (hunused : Sparse.has ctx s.rc.ctxUsed = false) (hbelow : ∀ c < ctx, Sparse.has c s.rc.ctxUsed = true) :
    TriggerTaken rest ctx x.cls ((s.setQueue rest).newRec ctx (if x.accept then 0 else 1) x.cls x.number
      (x.orbit, x.bucket) true (x.orbit, x.bucket) 0) s (recordEngineTake s) := by
  have hfree := State.freeCtx_of_lowest (State.freeCtx_of_none_refused hcause) hctx hunused hbelow
  have hrearm : s.inRearm x = none := by
    unfold State.inRearm
    split
    · simp [hbad]
    · rfl
  have htake := State.takeTrig_of_bad (s := s.setQueue rest) (x := x) (ctx := ctx)
    (by rw [State.setQueue_inRearm, State.setQueue_refusalCause, hrearm, hcause])
    (by rw [State.setQueue_freeCtx, hfree]) hbad
  have hopened := (s.setQueue rest).openRec_opened ctx (if x.accept then 0 else 1) x.cls x.number (x.orbit, x.bucket)
    true (x.orbit, x.bucket) 0 id
  rw [recordEngineTake_of_first hq, htake]
  exact hopened.taken

theorem TriggerTaken.last {rest : List Trig} {ctx cls : Nat} {r : Rec} {t : State}
    (h : TriggerTaken rest ctx cls r s t) : ∃ r', SameRec r r' ∧ t.rc.recs.getLast? = some r' ∧
      t.rc.recs.length = s.rc.recs.length + 1 := by
  obtain ⟨r', hr, hrecs⟩ := h.recs
  exact ⟨r', hr, by simp [hrecs], by simp [hrecs]⟩

/-- The record of a trigger: its class, number and window, and what re-arm adds. -/
theorem State.trigRec_fields (s : State) (x : Trig) (ctx : Nat) (rearm : Option LastRec) (u : State) {r : Rec}
    (h : SameRec (s.trigRec x ctx rearm u) r) :
    [r.ctx, r.origin, r.cls, r.number, r.winO, r.winB, r.len] = [ctx, if x.accept then 0 else 1, x.cls, x.number,
      (s.windowOf x rearm).1.1, (s.windowOf x rearm).1.2, (s.windowOf x rearm).2] ∧
    r.overlap = (rearm.isSome && tcPolicy s.rd x.cls == 2) ∧ r.trimmed = (s.trimOf x rearm).isSome := by
  rw [h]
  unfold State.trigRec State.rearmed
  split
  · exact ⟨rfl, rfl, rfl⟩
  · exact ⟨rfl, rfl, rfl⟩

/-! ## Dumps -/

theorem exec_dumpGo {cls len : Nat} (hcls : cls < 16) (hlen : len < 2 ^ RC_DUMP_CTRL_len.width) (s : State) :
    exec (.dumpGo cls len) s = .next (dumpGo cls len s) :=
  effect_of_wf (c := .dumpGo cls len) (by simp only [Instr.wf, hcls, decide_true, Bool.true_and]; exact decide_eq_true hlen)
    (dumpGo cls len) s

/-- Class and length of the dump written. -/
def State.dumpAsked (s : State) (cls len : Nat) : State := (s.set RC_DUMP_CTRL_class cls).set RC_DUMP_CTRL_len len

theorem State.dumpAsked_frame (s : State) (cls len : Nat) :
    Frame [] [RC_DUMP_CTRL_class, RC_DUMP_CTRL_len] s (s.dumpAsked cls len) :=
  ((Frame.refl _ _ s).set _ _ (by decide)).set _ _ (by decide)

theorem dumpGo_of_unfrozen {cls len : Nat} (h : s.get RC_FREEZE_STATUS_state ≠ 3) :
    dumpGo cls len s = (s.dumpAsked cls len).set RC_STATUS_dump_refused 1 := by
  have hstate : (s.dumpAsked cls len).get RC_FREEZE_STATUS_state ≠ 3 := by
    rwa [(s.dumpAsked_frame cls len).get (by decide)]
  unfold dumpGo
  dsimp only
  rw [← State.dumpAsked]
  split
  · exact if_neg fun hc => hstate hc.1
  · rfl

/-- The dump takes its number and runs on its context. -/
def State.dumpBegun (s : State) (ctx : Nat) : State :=
  let s := s.takeLocal.2.set RC_DUMP_CTRL_running 1
  { s with rc := { s.rc with dump := some ctx } }

theorem dumpGo_of_ready {cls len ctx : Nat} (hstate : s.get RC_FREEZE_STATUS_state = 3)
    (hidle : s.on RC_DUMP_CTRL_running = false) (hstage : s.stages79Out = false) (hen : tcEnable s.rd cls = true)
    (hctx : s.freeCtx = some ctx) : dumpGo cls len s = (((s.dumpAsked cls len).dumpBegun ctx).openRec ctx 2 cls s.tg.next
      (s.get RC_DUMP_ORBIT_orbit, s.get RC_DUMP_BT_bucket) false (s.get RC_DUMP_ORBIT_orbit, s.get RC_DUMP_BT_bucket)
      (len + 1) fun r => { r with frozen := true, endAt := some (((s.dumpAsked cls len).dumpBegun ctx).unsealedFrom r) }).busyEval := by
  have hasked := s.dumpAsked_frame cls len
  have hfree : (s.dumpAsked cls len).freeCtx = some ctx := by
    rw [State.freeCtx_congr (hasked.parts .rc nofun) (hasked.get (by decide)), hctx]
  have hcond : (s.dumpAsked cls len).get RC_FREEZE_STATUS_state = 3 ∧ (!(s.dumpAsked cls len).on RC_DUMP_CTRL_running) = true ∧
      (!(s.dumpAsked cls len).stages79Out) = true ∧ tcEnable (s.dumpAsked cls len).rd cls = true := by
    refine ⟨by rw [hasked.get (by decide), hstate], ?_, ?_, hen⟩
    · rw [State.on, hasked.get (by decide), ← State.on, hidle]
      rfl
    · rw [Bool.not_eq_true']
      exact hstage
  have horbit : (s.dumpAsked cls len).get RC_DUMP_ORBIT_orbit = s.get RC_DUMP_ORBIT_orbit := hasked.get (by decide)
  have hbt : (s.dumpAsked cls len).get RC_DUMP_BT_bucket = s.get RC_DUMP_BT_bucket := hasked.get (by decide)
  rw [← horbit, ← hbt]
  unfold dumpGo
  dsimp only
  rw [← State.dumpAsked, hfree]
  exact if_pos hcond

theorem State.dumpBegun_frame (s : State) (ctx : Nat) :
    Frame [.tg, .rc] [TG_LOCAL_LO_number, RC_DUMP_CTRL_running] s (s.dumpBegun ctx) :=
  Frame.with_rc (Frame.set (Frame.set (Frame.with_tg (Frame.refl _ _ s) { s.tg with next := (s.tg.next + 1) % 2 ^ 40 }
    (by decide)) TG_LOCAL_LO_number _ (by decide)) RC_DUMP_CTRL_running 1 (by decide)) _ (by decide)

theorem State.dumpBegun_rc (s : State) (ctx : Nat) : (s.dumpBegun ctx).rc = { s.rc with dump := some ctx } := rfl

theorem State.dumpBegun_running (s : State) (ctx : Nat) : (s.dumpBegun ctx).get RC_DUMP_CTRL_running = 1 :=
  State.get_set_fit s.takeLocal.2 RC_DUMP_CTRL_running (v := 1) (by decide)

/-- Settles O27: the trigger taken is refused by the first cause that holds, or opens its record, in which only pins
change before the readout is judged. -/
theorem triggersOpenOrAreRefused : Obligations.TriggersOpenOrAreRefused := by
  unfold Obligations.TriggersOpenOrAreRefused
  refine ⟨?refused, ?opened, ?overlapping, ?trimmed, ?bad, ?dumpRefused, ?dump⟩
  case refused =>
    intro s x rest cause hrun hq hcause hroom
    have hqueue := s.setQueue_frame rest
    have hroom' : (s.setQueue rest).get RC_RF_used < 4096 := by rwa [hqueue.get (by decide)]
    have htake : recordEngineTake s = ((s.setQueue rest).refuse x cause).busyEval := by
      rw [recordEngineTake_of_first hq, State.takeTrig_of_cause]
      rw [State.setQueue_inRearm, State.setQueue_refusalCause, hcause]
    obtain ⟨hcount, hcls, hcause, hused, hentry, hlen⟩ := (s.setQueue rest).refuse_refused x cause hroom'
    have hframe := State.refuse_frame (x := x) (cause := cause) hroom'
    generalize (s.setQueue rest).refuse x cause = u at *
    have hbusy := u.busyEval_frame
    refine ⟨_, exec_recordEngineTake hrun, ?_⟩
    rw [htake]
    refine ⟨?_, ?_, ?_, ?_, ?_, ?_, ?_, ?_, ?_⟩
    · rw [hbusy.parts .tg (by decide), hframe.parts .tg (by decide)]
      rfl
    · rw [hbusy.get (by decide), hcount, hqueue.get (by decide)]
    · rw [hbusy.get (by decide), hcls]
    · rw [hbusy.get (by decide), hcause]
    · rw [hbusy.get (by decide), hused, hqueue.get (by decide)]
    · exact (hbusy.parts .rc (by decide)).trans ((hframe.parts .rc (by decide)).trans (hqueue.parts .rc (by decide)))
    · rw [State.busyEval_order, hentry]
    · rw [State.busyEval_order, hlen]
      rfl
    · exact ((hqueue.mono (by decide) (by decide)).next hframe (by decide) (by decide)).next hbusy (by decide)
        (by decide)
  case opened =>
    intro s x rest ctx hrun hq hbad hrearm hcause hctx hunused hbelow first last
    have h := recordEngineTake_of_good hq hbad hrearm hcause hctx hunused hbelow
    obtain ⟨r, hsame, hlast, hlen⟩ := h.last
    obtain ⟨hfields, -, -⟩ := State.trigRec_fields _ _ _ _ _ hsame
    refine ⟨_, exec_recordEngineTake hrun, h.queue, ?_, hlen, h.ctxUsed, h.count, h.order, h.frame⟩
    rw [hlast]
    exact congrArg some hfields
  case overlapping =>
    intro s x rest ctx l hrun hq hbad hrearm hpolicy hcause hctx hunused hbelow first last
    have h := recordEngineTake_of_good hq hbad hrearm hcause hctx hunused hbelow
    obtain ⟨r, hsame, hlast, -⟩ := h.last
    obtain ⟨hfields, hover, -⟩ := State.trigRec_fields _ _ _ _ _ hsame
    have htrim : s.trimOf x (some l) = none := by simp [State.trimOf, hpolicy]
    refine ⟨_, exec_recordEngineTake hrun, h.queue, ?_, ?_, h.frame⟩
    · rw [hlast, Option.map_some, hfields]
      simp only [State.windowOf, htrim]
      rfl
    · rw [hlast, Option.map_some, hover, hpolicy]
      rfl
  case trimmed =>
    intro s x rest ctx l hrun hq hbad hrearm hpolicy hcause hbefore hctx hunused hbelow start last
    have h := recordEngineTake_of_good hq hbad hrearm hcause hctx hunused hbelow
    obtain ⟨r, hsame, hlast, -⟩ := h.last
    obtain ⟨hfields, -, htrimmed⟩ := State.trigRec_fields _ _ _ _ _ hsame
    have htrim : s.trimOf x (some l) = some start := if_pos ⟨hpolicy, hbefore⟩
    refine ⟨_, exec_recordEngineTake hrun, h.queue, ?_, ?_, h.frame⟩
    · rw [hlast, Option.map_some, hfields]
      simp only [State.windowOf, htrim]
      rfl
    · rw [hlast, Option.map_some, htrimmed, htrim]
      rfl
  case bad =>
    intro s x rest ctx hrun hq hbad hcause hctx hunused hbelow
    have h := recordEngineTake_of_bad hq hbad hcause hctx hunused hbelow
    obtain ⟨r, hsame, hlast, -⟩ := h.last
    refine ⟨_, exec_recordEngineTake hrun, h.queue, ?_, ?_, h.frame⟩
    · rw [hlast, Option.map_some, hsame]
      rfl
    · rw [hlast, Option.map_some, hsame]
      rfl
  case dumpRefused =>
    intro s cls len hcls hlen hstate
    rw [exec_dumpGo hcls hlen, dumpGo_of_unfrozen hstate]
    rfl
  case dump =>
    intro s cls len ctx hcls hlen hstate hidle hstage hen hfree hctx hunused hbelow
    have hgo := dumpGo_of_ready (len := len) hstate hidle hstage hen (State.freeCtx_of_lowest hfree hctx hunused hbelow)
    generalize hg : (fun r : Rec => { r with
      frozen := true, endAt := some (((s.dumpAsked cls len).dumpBegun ctx).unsealedFrom r) }) = g at hgo
    have hopened := ((s.dumpAsked cls len).dumpBegun ctx).openRec_opened ctx 2 cls s.tg.next
      (s.get RC_DUMP_ORBIT_orbit, s.get RC_DUMP_BT_bucket) false (s.get RC_DUMP_ORBIT_orbit, s.get RC_DUMP_BT_bucket)
      (len + 1) g
    rw [← hg] at hopened
    refine ⟨_, exec_dumpGo hcls hlen s, ?_⟩
    rw [hgo, ← hg]
    clear hgo hg
    obtain ⟨⟨r, hsame, hrecs⟩, -, hdump, -, -, hframe⟩ := hopened
    generalize ((s.dumpAsked cls len).dumpBegun ctx).openRec _ _ _ _ _ _ _ _ _ = u at hrecs hdump hframe ⊢
    have hbusy := u.busyEval_frame
    have hrc : u.busyEval.rc = u.rc := hbusy.parts .rc (by decide)
    refine ⟨?_, ?_, ?_, ?_⟩
    · rw [hbusy.get (by decide), hframe.get (by
        simp only [recordFields, List.mem_cons, List.not_mem_nil, or_false, forall_eq_or_imp, forall_eq]
        exact ⟨(classCount_key_ne cls).symm, by decide, by decide⟩), State.dumpBegun_running]
    · rw [hrc, hdump, State.dumpBegun_rc]
    · rw [hrc, hrecs, List.getLast?_append, hsame]
      rfl
    · rw [hbusy.parts .tg (by decide), hframe.parts .tg (by decide)]
      rfl

end Sys2Proof.Machine
end

section
/-! SUPPORT and PROOF. Records read their buckets and complete; histogram banks; the freeze (R260 to R262, R276, R284,
R285). -/

namespace Sys2Proof.Machine

open Sys2Proof

variable {s : State}

theorem effectMs_of_fixed {f : State → State} (h : f s = s) (c : Instr) : effectMs c f s = .next s := by
  unfold effectMs
  split
  · rw [h]
  · rfl

/-! ## A bucket is read -/

theorem State.readEntry_frame (s : State) (row bank : Nat) :
    PartFrame [.store, .prot, .evReq] s (s.readEntry row bank).2 := by
  have hcount := (PartFrame.refl [.store, .prot, .evReq] s).count CX_HQ_POISON_read 1
  unfold State.readEntry
  split
  · exact hcount
  · split
    · exact PartFrame.refl _ s
    · refine PartFrame.raise (PartFrame.ite ?_ hcount) _ _ (by decide)
      exact PartFrame.next (hcount.beside) (State.setLink_frame _ _ _).partFrame (by decide)

theorem State.readRow_frame (s : State) (row : Nat) : PartFrame [.store, .prot, .evReq] s (s.readRow row).2.2 := by
  unfold State.readRow
  generalize hacc : (([], 0, s) : List Nat × Nat × State) = acc
  have h : PartFrame [.store, .prot, .evReq] s acc.2.2 := hacc ▸ PartFrame.refl _ s
  clear hacc
  induction (banksOf (linkBanks (s.link row))).take (linkFill (s.link row)) generalizing acc with
  | nil => exact h
  | cons k l ih =>
    refine ih _ ?_
    have hread := h.trans (acc.2.2.readEntry_frame row k)
    dsimp only
    generalize acc.2.2.readEntry row k = e at *
    obtain ⟨_ | _, u⟩ := e
    · exact hread
    · exact hread

theorem State.readBucket_frame (s : State) (d : Desc) : PartFrame [.store, .prot, .evReq] s (s.readBucket d).2.2 := by
  unfold State.readBucket
  dsimp only
  generalize hacc : (([], s) : List Nat × State) = acc
  have h : PartFrame [.store, .prot, .evReq] s acc.2 := hacc ▸ PartFrame.refl _ s
  clear hacc
  induction (s.rowsOf d).filter (·.2) generalizing acc with
  | nil => exact h
  | cons k l ih => exact ih _ (h.trans (acc.2.readRow_frame k.1))

/-! ## Pins are released -/

/-- The registers that a pin released changes. -/
def unpinFields : List Fld :=
  [CX_HQ_KEEP_used, CX_HQ_FREE_rows, CX_HQ_STATUS_low, CX_HQ_POISON_aged, MG_EVLOG_merged]

theorem State.freeBucket_frame (s : State) (d : Desc) :
    Frame [.store, .prot, .evReq] freedFields s (s.freeBucket d) :=
  Frame.next ((Frame.refl _ _ s).count _ _ (by decide)) (State.freeRowList_spec _ _).2.2 (by decide) (by decide)

theorem State.putDesc_frame (s : State) (a : DescAt) (d : Desc) : Frame [.store] [] s (s.putDesc a d) := by
  cases a
  · exact Frame.beside (Frame.refl _ _ s)
  · exact Frame.beside (Frame.refl _ _ s)

theorem State.unpin_frame (s : State) (b : Bkt) : Frame [.store, .prot, .evReq] unpinFields s (s.unpin b) := by
  unfold State.unpin
  split
  · exact Frame.beside (Frame.refl _ _ s)
  · split
    · exact Frame.next (Frame.set (Frame.with_store (Frame.refl _ _ s) _ (by decide)) _ _ (by decide))
        (State.freeBucket_frame _ _) (by decide) (by decide)
    · exact (s.putDesc_frame _ _).mono (by decide) (by decide)
  · exact Frame.refl _ _ s

theorem State.dropPins_frame (s : State) (r : Rec) : Frame [.store, .prot, .evReq] unpinFields s (s.dropPins r) :=
  (Frame.refl _ _ s).each fun u _ _ hu => hu.trans (u.unpin_frame _)

/-! ## The hits of a bucket join the record -/

/-- What the hits of a bucket change in a record: its hits and clusters. -/
def SameRead (r r' : Rec) : Prop := r' = { r with hits := r'.hits, open_ := r'.open_, closed := r'.closed }

theorem SameRead.trans {r r' r'' : Rec} (h : SameRead r r') (h' : SameRead r' r'') : SameRead r r'' := by
  rw [SameRead, h'] at *
  rw [h]

/-- A change of the histogram counters. -/
def HistOnly (s t : State) : Prop := ∃ h0 h1, t = { s with rc := { s.rc with hist0 := h0, hist1 := h1 } }

theorem HistOnly.refl (s : State) : HistOnly s s := ⟨s.rc.hist0, s.rc.hist1, rfl⟩

theorem HistOnly.trans {t u : State} (h : HistOnly s t) (h' : HistOnly t u) : HistOnly s u := by
  obtain ⟨a, b, rfl⟩ := h
  obtain ⟨c, d, rfl⟩ := h'
  exact ⟨c, d, rfl⟩

theorem State.histHit_only (s : State) (cls : Nat) (bT b : Bkt) (w : Nat) : HistOnly s (s.histHit cls bT b w) := by
  have hadd (key : Nat) : HistOnly s (s.histAdd key) := by
    unfold State.histAdd
    split
    · exact ⟨_, _, rfl⟩
    · exact ⟨_, _, rfl⟩
  unfold State.histHit
  dsimp only
  generalize (if s.bypassed (fHist (hitChan w)) then 0 else s.rd (fHist (hitChan w)) 0) = d
  split
  · exact hadd _
  · exact HistOnly.refl s

theorem State.recHit_spec (s : State) (r : Rec) (off w : Nat) : SameRead r (s.recHit r off w).1 ∧
    (s.recHit r off w).1.hits = r.hits ++ [(off, w)] ∧ HistOnly s (s.recHit r off w).2 := by
  refine ⟨rfl, rfl, ?_⟩
  unfold State.recHit State.iff
  dsimp only
  split
  · exact s.histHit_only _ _ _ _
  · exact HistOnly.refl s

/-- The included hits of bucket `i` of its window feed the reductions of a record. -/
def State.hitsRead (i : Nat) (l : List Nat) (acc : Rec × State) : Rec × State :=
  l.foldl (fun acc w => acc.2.recHit acc.1 i w) acc

theorem State.hitsRead_spec (i : Nat) (l : List Nat) (acc : Rec × State) : SameRead acc.1 (State.hitsRead i l acc).1 ∧
    (State.hitsRead i l acc).1.hits.map (·.2) = acc.1.hits.map (·.2) ++ l ∧ HistOnly acc.2 (State.hitsRead i l acc).2 := by
  induction l generalizing acc with
  | nil => exact ⟨rfl, by simp [State.hitsRead], HistOnly.refl _⟩
  | cons w l ih =>
    obtain ⟨hread, hhits, hhist⟩ := State.recHit_spec acc.2 acc.1 i w
    obtain ⟨hread', hhits', hhist'⟩ := ih (acc.2.recHit acc.1 i w)
    refine ⟨hread.trans hread', ?_, hhist.trans hhist'⟩
    exact hhits'.trans (by rw [hhits]; simp)

/-- The record as it stands once bucket `i` of its window has been read. -/
def Rec.bucketRead (r : Rec) (i lost : Nat) (d : Desc) : Rec :=
  { r with
    next := i + 1, pins := r.pins.filter (fun j => j != i)
    damaged := r.damaged + lost + d.dropped
    holdover := r.holdover || d.holdover, feAbsent := Nat.lor r.feAbsent d.feAbsent }

/-- A record reads the bucket that it waits for. -/
def State.recordReads (s : State) (ctx i : Nat) (r : Rec) (d : Desc) : State :=
  let x := s.readBucket d
  let y := State.hitsRead i (x.1.filter r.includes) (r, x.2.2)
  (y.2.mapRec ctx fun _ => y.1.bucketRead i x.2.1 d).unpin (s.winBkt r i)

/-- Nothing is found uncorrectable or corrected in a read. -/
abbrev cleanRead : ReadUpset := ⟨false, none, [], false, [], []⟩

theorem exec_recordBucketRead {ctx : Nat} (hctx : ctx < 10240) (hrun : s.mt.running = true) :
    exec (.recordBucketRead ctx cleanRead) s = .next (recordBucketReadAll ctx cleanRead s) :=
  effectMs_of_running (c := .recordBucketRead ctx cleanRead) (by simp only [Instr.wf, hctx]; rfl) hrun _

theorem recordBucketReadAll_of_served {ctx i : Nat} {r : Rec} {a : DescAt} {d : Desc} (hserved : s.recServed = some r)
    (hctx : r.ctx = ctx) (hready : r.ready = some i) (hdesc : s.findDesc (s.winBkt r i) = some (a, d)) :
    recordBucketReadAll ctx cleanRead s = s.recordReads ctx i r d := by
  have hplain : recordBucketReadAll ctx cleanRead s = recordBucketRead ctx cleanRead s := rfl
  have hupset (f : Option (DescAt × Desc)) : s.applyUpset cleanRead f = s := rfl
  rw [hplain, recordBucketRead, hserved]
  dsimp only
  rw [if_neg (by simpa using hctx), if_neg (by decide), hready]
  dsimp only
  rw [hupset, hdesc]
  rfl

theorem State.findRec_mapRec (s : State) {ctx : Nat} {r q : Rec} (h : s.findRec ctx = some r) (hq : q.ctx = ctx) :
    (s.mapRec ctx fun _ => q).findRec ctx = some q := by
  have hmap (l : List Rec) (hl : l.find? (fun r => r.ctx == ctx) = some r) :
      (l.map fun r => if r.ctx = ctx then q else r).find? (fun r => r.ctx == ctx) = some q := by
    induction l with
    | nil => cases hl
    | cons p l ih =>
      by_cases hp : p.ctx = ctx
      · simp [hp, hq]
      · have hp' : (p.ctx == ctx) = false := beq_false_of_ne hp
        simp only [List.map_cons, List.find?_cons, if_neg hp, hp'] at hl ⊢
        exact ih hl
  exact hmap _ h

theorem State.findRec_congr {t : State} (h : t.rc.recs = s.rc.recs) (ctx : Nat) : t.findRec ctx = s.findRec ctx := by
  rw [State.findRec, State.findRec, h]

theorem State.mapRec_frame {ps : List Part} {t : State} (h : PartFrame ps s t) (ctx : Nat) (g : Rec → Rec)
    (hp : Part.rc ∈ ps) : PartFrame ps s (t.mapRec ctx g) :=
  h.beside rfl fun p => by
    by_cases he : p = .rc
    · exact .inl (he ▸ hp)
    · refine .inr ?_
      cases p <;> first | exact absurd rfl he | rfl

theorem HistOnly.partFrame {t : State} (h : HistOnly s t) : PartFrame [.rc] s t := by
  obtain ⟨a, b, rfl⟩ := h
  exact (PartFrame.refl _ s).beside

/-- The record has read its bucket: its hits, its losses, and the marks of the bucket. -/
theorem State.recordReads_spec {ctx i : Nat} {r : Rec} (d : Desc) (hctx : r.ctx = ctx) (hfind : s.findRec ctx = some r) :
    (∃ q, SameRead r q ∧ q.hits.map (·.2) = r.hits.map (·.2) ++ (s.readBucket d).1.filter r.includes ∧
      (s.recordReads ctx i r d).findRec ctx = some (q.bucketRead i (s.readBucket d).2.1 d)) ∧
    PartFrame [.evReq, .store, .rc, .prot, .free, .str] s (s.recordReads ctx i r d) := by
  obtain ⟨hsame, hhits, hhist⟩ := State.hitsRead_spec i ((s.readBucket d).1.filter r.includes) (r, (s.readBucket d).2.2)
  have hreads : s.recordReads ctx i r d = State.unpin
      ((State.hitsRead i ((s.readBucket d).1.filter r.includes) (r, (s.readBucket d).2.2)).2.mapRec ctx fun _ =>
        (State.hitsRead i ((s.readBucket d).1.filter r.includes) (r, (s.readBucket d).2.2)).1.bucketRead i
          (s.readBucket d).2.1 d) (s.winBkt r i) := rfl
  have hread := s.readBucket_frame d
  rw [hreads]
  generalize State.hitsRead i ((s.readBucket d).1.filter r.includes) (r, (s.readBucket d).2.2) = y at *
  generalize (s.readBucket d).2.2 = v at *
  have hrecs : y.2.findRec ctx = some r := by
    obtain ⟨h0, h1, hy⟩ := hhist
    have hrc : v.rc = s.rc := hread.parts .rc (by decide)
    have hyrc : y.2.rc.recs = s.rc.recs := by rw [hy, ← hrc]
    rw [State.findRec_congr hyrc, hfind]
  have hq : y.1.ctx = ctx := by
    have hsame' : SameRead r y.1 := hsame
    rw [hsame']
    exact hctx
  refine ⟨⟨y.1, hsame, hhits, ?_⟩, ?_⟩
  · have hrc := (State.unpin_frame (y.2.mapRec ctx fun _ => y.1.bucketRead i (s.readBucket d).2.1 d) (s.winBkt r i)).parts
      .rc (by decide)
    rw [State.findRec_congr (congrArg Rc.recs hrc)]
    exact State.findRec_mapRec _ hrecs hq
  · have hhist' : PartFrame [.rc] v y.2 := HistOnly.partFrame hhist
    have h := PartFrame.next (hread.mono (qs := [.evReq, .store, .rc, .prot, .free, .str]) (by decide)) hhist' (by decide)
    exact (State.mapRec_frame h ctx _ (by decide)).next (State.unpin_frame _ _).partFrame (by decide)

/-! ## A record completes -/

/-- The record leaves the open records. -/
def State.recClosed (s : State) (ctx : Nat) : State :=
  { s with rc := { s.rc with
    recs := s.rc.recs.filter (fun q => q.ctx != ctx)
    dump := if s.rc.dump = some ctx then none else s.rc.dump } }

/-- The causes of a clip are counted, and the end of a dump is told. -/
def State.clipsCounted (s : State) (clip damaged origin : Nat) : State :=
  let s := s.count RC_CNT_DAMAGED_count (min damaged 0xFFFF)
  let s := s.iff (bit clip 4) fun s => s.count RC_CNT_CLIP_start
  let s := s.iff (bit clip 3) fun s => s.count RC_CNT_CLIP_end
  let s := s.iff (bit clip 2) fun s => s.count RC_CNT_CLIP_gap
  let s := s.iff (bit clip 1) fun s => s.count RC_CNT_CLIP_absent
  let s := s.iff (bit clip 0) fun s => s.count RC_CNT_CLIP_size
  let s := s.iff (clip != 0) fun s => s.flag RC_STATUS_clipped 99
  s.iff (origin == 2) fun s => (s.set RC_DUMP_CTRL_running 0).raise 104

/-- The registers that tell of a clip, and of the end of a dump. -/
def clipFields : List Fld :=
  [RC_CNT_DAMAGED_count, RC_CNT_CLIP_start, RC_CNT_CLIP_end, RC_CNT_CLIP_gap, RC_CNT_CLIP_absent, RC_CNT_CLIP_size,
    RC_STATUS_clipped, RC_DUMP_CTRL_running, MG_EVLOG_merged]

theorem State.clipsCounted_frame (s : State) (clip damaged origin : Nat) :
    Frame [.evReq] clipFields s (s.clipsCounted clip damaged origin) := by
  have hcount (u : State) (hu : Frame [.evReq] clipFields s u) (b : Bool) (f : Fld)
      (hf : f.key ∈ clipFields.map Fld.key) : Frame [.evReq] clipFields s (u.iff b fun s => s.count f) :=
    hu.iff fun _ hv => hv.count f 1 hf
  have h0 : Frame [.evReq] clipFields s (s.count RC_CNT_DAMAGED_count (min damaged 0xFFFF)) :=
    (Frame.refl _ _ s).count _ _ (by decide)
  have h1 := hcount _ (hcount _ (hcount _ (hcount _ (hcount _ h0 (bit clip 4) RC_CNT_CLIP_start (by decide)) (bit clip 3)
    RC_CNT_CLIP_end (by decide)) (bit clip 2) RC_CNT_CLIP_gap (by decide)) (bit clip 1) RC_CNT_CLIP_absent (by decide))
    (bit clip 0) RC_CNT_CLIP_size (by decide)
  exact (h1.iff (b := clip != 0) fun _ hv => hv.flag RC_STATUS_clipped 99 0 (by decide) (by decide) (by decide)).iff
    fun _ hv => (hv.set RC_DUMP_CTRL_running 0 (by decide)).raise 104 0 (by decide) (by decide)

theorem exec_recordComplete {ctx : Nat} (hctx : ctx < 10240) (hrun : s.mt.running = true) :
    exec (.recordComplete ctx) s = .next (recordComplete ctx s) :=
  effectMs_of_running (c := .recordComplete ctx) (decide_eq_true hctx) hrun _

theorem recordComplete_of_done {ctx : Nat} {r : Rec} (hfind : s.findRec ctx = some r) (hdone : r.awaits = false)
    (hroom : s.get RC_FBUF_free ≠ 0) : recordComplete ctx s =
      (((((s.dropPins r).recClosed ctx).takeBlocks (s.buildRec r).2.1).fragReady r.id (s.buildRec r).1
        (s.buildRec r).2.1).clipsCounted (s.buildRec r).2.2.1 (s.buildRec r).2.2.2 r.origin).busyEval := by
  have hroom' : (s.get RC_FBUF_free == 0) = false := beq_false_of_ne hroom
  unfold recordComplete
  simp only [hfind, hdone, hroom', Bool.or_false, Bool.false_eq_true, if_false]
  rfl

theorem State.fragReady_order (s : State) (id : Nat) (body : List Nat) (blocks : Nat) :
    ((s.fragReady id body blocks).str.order.filter fun f => f.id == id).all (fun f => f.body == some body) = true := by
  simp only [State.fragReady, State.mapFrag, List.all_eq_true, List.mem_filter, List.mem_map, beq_iff_eq]
  rintro f ⟨⟨g, -, rfl⟩, hid⟩
  by_cases hg : g.id = id
  · rw [if_pos hg]
  · rw [if_neg hg] at hid
    exact absurd hid hg

/-- A record that waits for no bucket completes where a block is free. -/
theorem recordComplete_spec {ctx : Nat} {r : Rec} (hfind : s.findRec ctx = some r) (hdone : r.awaits = false)
    (hroom : s.get RC_FBUF_free ≠ 0) :
    (recordComplete ctx s).rc.recs = s.rc.recs.filter (fun q => q.ctx != ctx) ∧
    ((recordComplete ctx s).str.order.filter fun f => f.id == r.id).all (fun f => f.body == some (s.buildRec r).1) = true ∧
    (recordComplete ctx s).get RC_FBUF_free = (s.get RC_FBUF_free - (s.buildRec r).2.1) % 2 ^ RC_FBUF_free.width ∧
    PartFrame [.evReq, .rc, .str, .store, .prot, .free] s (recordComplete ctx s) := by
  rw [recordComplete_of_done hfind hdone hroom]
  generalize s.buildRec r = b
  have hpins := s.dropPins_frame r
  have hclosed : Frame [.rc] [] (s.dropPins r) ((s.dropPins r).recClosed ctx) := Frame.with_rc (Frame.refl _ _ _) _ (by decide)
  have hblocks : Frame [] [RC_FBUF_free] ((s.dropPins r).recClosed ctx) (((s.dropPins r).recClosed ctx).takeBlocks b.2.1) :=
    (Frame.refl _ _ _).set _ _ (by decide)
  have hready := (((s.dropPins r).recClosed ctx).takeBlocks b.2.1).fragReady_frame r.id b.1 b.2.1
  have horder := (((s.dropPins r).recClosed ctx).takeBlocks b.2.1).fragReady_order r.id b.1 b.2.1
  have hrecs : ((s.dropPins r).recClosed ctx).rc.recs = (s.dropPins r).rc.recs.filter fun q => q.ctx != ctx := rfl
  have hfree : (((s.dropPins r).recClosed ctx).takeBlocks b.2.1).get RC_FBUF_free =
      (((s.dropPins r).recClosed ctx).get RC_FBUF_free - b.2.1) % 2 ^ RC_FBUF_free.width := State.get_set_same _ _ _
  generalize (((s.dropPins r).recClosed ctx).takeBlocks b.2.1).fragReady r.id b.1 b.2.1 = u at *
  have hclips := u.clipsCounted_frame b.2.2.1 b.2.2.2 r.origin
  generalize u.clipsCounted b.2.2.1 b.2.2.2 r.origin = v at *
  have hbusy := v.busyEval_frame
  refine ⟨?_, ?_, ?_, ?_⟩
  · rw [hbusy.parts .rc (by decide), hclips.parts .rc (by decide), hready.parts .rc (by decide),
      hblocks.parts .rc (by decide), hrecs, hpins.parts .rc (by decide)]
  · rw [State.busyEval_order, hclips.parts .str (by decide), horder]
  · rw [hbusy.get (by decide), hclips.get (by decide), hready.get (by decide), hfree, hclosed.get (by decide),
      hpins.get (by decide)]
  · have hp := (hpins.partFrame.mono (qs := [.evReq, .rc, .str, .store, .prot, .free]) (by decide)).next
      hclosed.partFrame (by decide)
    exact (((hp.next hblocks.partFrame (by decide)).next hready.partFrame (by decide)).next hclips.partFrame
      (by decide)).next hbusy.partFrame (by decide)

theorem exec_freezeArm {post : Nat} (hpost : post < 2 ^ RC_FREEZE_CTRL_post.width) (s : State) :
    exec (.freezeArm post) s = .next (freezeArm post s) :=
  effect_of_wf (c := .freezeArm post) (decide_eq_true hpost) (freezeArm post) s

/-! ## Histogram banks -/

theorem exec_histSwapWrite (s : State) : exec .histSwapWrite s = .next (histSwapWrite s) :=
  effect_of_wf rfl histSwapWrite s

theorem histSwapWrite_of_idle (hclear : s.on RC_HIST_CTRL_clearing = false) (hedge : s.mt.edge.contains .swap = false) :
    histSwapWrite s = s.atEdge .swap State.histClearing := by
  rw [histSwapWrite, hclear, hedge]
  rfl

/-- The bank that was active is cleared, to be active next. -/
def State.histCleared (s : State) : State :=
  if s.get RC_HIST_CTRL_bank = 0 then { s with rc := { s.rc with hist0 := [] } }
  else { s with rc := { s.rc with hist1 := [] } }

theorem State.histCleared_frame (s : State) : Frame [.rc] [] s s.histCleared :=
  Frame.ite (Frame.beside (Frame.refl _ _ s)) (Frame.beside (Frame.refl _ _ s))

theorem histSwapDone_of_clearing (h : s.on RC_HIST_CTRL_clearing = true) : histSwapDone s =
    ((s.histCleared.set RC_HIST_CTRL_clearing 0).set RC_HIST_CTRL_bank (1 - s.get RC_HIST_CTRL_bank)).raise 105 := if_pos h

/-! ## The freeze -/

theorem exec_ringStop (hrun : s.mt.running = true) : exec .ringStop s = .next (ringStop s) :=
  effectMs_of_running (c := .ringStop) rfl hrun _

/-- The ring stands: what waits in the sort buffer is dropped, and open records end. -/
def State.ringStopped (s : State) : State :=
  { s with
    store := { s.store with stopped := true, sort := [], sortDrop := [], shadows := [] }
    rc := { s.rc with recs := s.rc.recs.map fun r => { r with
      frozen := true, endAt := some (min (r.endAt.getD r.len) (s.unsealedFrom r)) } } }

theorem ringStop_of_come (h : s.stopCome = true) : ringStop s =
    ((((s.count RC_FREEZE_LOST_count s.store.sort.length).ringStopped).set RC_FREEZE_STATUS_state 3).raise 102).busyEval :=
  if_pos h

theorem State.busyJudge_frozen (h : s.get RC_FREEZE_STATUS_state = 3) :
    s.busyJudge.get RC_BUSY_busy = if s.on RC_BUSY_busy then s.get RC_BUSY_busy else 1 := by
  have hraise : s.busyRaise = true := by simp [State.busyRaise, h]
  rw [State.busyJudge, if_pos hraise]
  split
  · rfl
  · rw [State.get_raise_ne _ (by decide)]
    exact State.get_set_fit _ RC_BUSY_busy (v := 1) (by decide)

/-- The registers of the freeze. -/
def freezeFields : List Fld :=
  [RC_FREEZE_STATUS_state, RC_FREEZE_STATUS_cause, RC_FREEZE_STATUS_region, RC_FREEZE_STATUS_bucket,
    RC_FREEZE_ORBIT_orbit, RC_FREEZE_CTRL_arm, MG_EVLOG_merged]

/-- Cause, region and bucket of a freeze triggered. -/
def State.freezeShown (s : State) (cause r : Nat) (b : Bkt) : State :=
  ((((s.set RC_FREEZE_STATUS_state 2).set RC_FREEZE_STATUS_cause cause).set RC_FREEZE_STATUS_region r).set
    RC_FREEZE_STATUS_bucket b.2).set RC_FREEZE_ORBIT_orbit b.1

theorem State.freezeTrigger_eq (s : State) (cause r : Nat) (b : Bkt) : s.freezeTrigger cause r b =
    (State.set { s.freezeShown cause r b with rc := { s.rc with
      stopAt := s.clockAt b + s.get RC_FREEZE_CTRL_post + 65 } } RC_FREEZE_CTRL_arm 0).raise 103 := by
  have hpost : (s.freezeShown cause r b).get RC_FREEZE_CTRL_post = s.get RC_FREEZE_CTRL_post := by
    unfold State.freezeShown
    simp (disch := decide) only [State.get_set_ne]
  rw [← hpost]
  rfl

/-- Settles O28: a bucket read and a completion are followed part by part; the swap of the histogram banks waits for an
edge on which nothing else happens; the freeze writes its registers. -/
theorem recordsReadCompleteAndFreeze : Obligations.RecordsReadCompleteAndFreeze := by
  unfold Obligations.RecordsReadCompleteAndFreeze
  refine ⟨?read, ?unread, ?complete, ?refused, ?waits, ?still, ?edge, ?done, ?arm, ?disarm, ?force, ?armed, ?forced,
    ?early, ?stop⟩
  case read =>
    intro s ctx i r a d hctx hrun hserved hr hfind hready hdesc x
    obtain ⟨⟨q, hsame, hhits, hq⟩, hframe⟩ := State.recordReads_spec (i := i) d hr hfind
    refine ⟨_, exec_recordBucketRead hctx hrun, ?_⟩
    rw [recordBucketReadAll_of_served hserved hr hready hdesc, hq]
    refine ⟨rfl, ?_, ?_, ?_, ?_, ?_, hframe⟩
    · exact congrArg some hhits
    · rw [hsame]
      rfl
    · rw [hsame]
      rfl
    · rw [hsame]
      rfl
    · simp [Rec.bucketRead]
  case unread =>
    intro s ctx r hserved hr
    refine effectMs_of_fixed (f := recordBucketReadAll ctx cleanRead) ?_ (.recordBucketRead ctx cleanRead)
    have hplain : recordBucketReadAll ctx cleanRead s = recordBucketRead ctx cleanRead s := rfl
    rw [hplain, recordBucketRead, hserved]
    exact if_pos hr
  case complete =>
    intro s ctx r hctx hrun hfind hdone hroom
    exact ⟨_, exec_recordComplete hctx hrun, recordComplete_spec hfind hdone hroom⟩
  case refused =>
    intro s hclear
    rw [exec_histSwapWrite, histSwapWrite, if_pos hclear]
  case waits =>
    intro s hclear hedge hrun
    rw [exec_histSwapWrite, histSwapWrite_of_idle hclear hedge, State.atEdge, if_pos hrun]
  case still =>
    intro s hclear hedge hrun
    rw [exec_histSwapWrite, histSwapWrite_of_idle hclear hedge, State.atEdge, hrun]
    rfl
  case edge =>
    intro s hidle hrun hb hedge harrived hcal hstate hheld
    have hstop : s.stopDue = false := by rw [State.stopDue, hedge]; rfl
    have htick := State.tick_quiet hrun hheld hb hstop harrived hcal hstate
    rw [hedge] at htick
    refine ⟨_, step_of_idle hidle, ?_⟩
    rw [htick]
    refine ⟨?_, rfl, ?_⟩
    · exact State.get_set_fit _ RC_HIST_CTRL_clearing (v := 1) (by decide)
    · exact Frame.set (Frame.with_rc (s.passed_frame.mono (by decide) nofun) _ (by decide)) _ _ (by decide)
  case done =>
    intro s hrun hclear
    refine ⟨_, effectMs_of_running (c := .histSwapDone) rfl hrun _, ?_⟩
    have hbank : 1 - s.get RC_HIST_CTRL_bank < 2 ^ 1 := by omega
    have hcleared := s.histCleared_frame
    rw [histSwapDone_of_clearing hclear]
    refine ⟨?_, ?_, ?_, State.has_raise _ _ _, ?_⟩
    · rw [State.get_raise_ne _ (by decide), State.get_set_ne _ (by decide)]
      exact State.get_set_fit _ RC_HIST_CTRL_clearing (v := 0) (by decide)
    · rw [State.get_raise_ne _ (by decide)]
      exact State.get_set_fit _ RC_HIST_CTRL_bank hbank
    · rw [State.raise_rc, State.set_rc, State.set_rc, State.histCleared]
      split
      · exact ⟨rfl, rfl⟩
      · exact ⟨rfl, rfl⟩
    · exact (((hcleared.mono (by decide) nofun).set _ _ (by decide)).set _ _ (by decide)).raise _ _ (by decide) (by decide)
  case arm =>
    intro s post hpost hstate
    have hstate' : (s.set RC_FREEZE_CTRL_post post).get RC_FREEZE_STATUS_state ≤ 1 := by
      rwa [State.get_set_ne _ (by decide)]
    rw [exec_freezeArm hpost]
    exact congrArg _ (if_pos hstate')
  case disarm =>
    intro s post hpost hstate
    have hstate' : ((s.set RC_FREEZE_CTRL_post post).set RC_FREEZE_CTRL_arm 0).get RC_FREEZE_STATUS_state = 1 := by
      rwa [State.get_set_ne _ (by decide), State.get_set_ne _ (by decide)]
    refine (effect_of_wf (c := .freezeDisarm post) (decide_eq_true hpost) (freezeDisarm post) s).trans ?_
    exact congrArg _ (if_pos hstate')
  case force =>
    intro s b hstate hsealed
    refine ⟨_, effect_of_wf rfl freezeForce s, ?_⟩
    have hforce : freezeForce s = s.freezeTrigger 4 0 b := by rw [freezeForce, if_pos hstate, hsealed]; rfl
    rw [hforce, State.freezeTrigger_eq]
    have hframe : Frame [] freezeFields s (s.freezeShown 4 0 b) :=
      (((((Frame.refl _ _ s).set _ _ (by decide)).set _ _ (by decide)).set _ _ (by decide)).set _ _ (by decide)).set _ _
        (by decide)
    refine ⟨?_, ?_, ?_, ?_, ?_, ?_, State.has_raise _ _ _, ?_⟩
    · rw [State.raise_rc, State.set_rc]
    · rw [State.get_raise_ne _ (by decide), State.get_set_ne _ (by decide), State.get_mk, State.freezeShown]
      simp (disch := decide) only [State.get_set_ne]
      exact State.get_set_fit _ RC_FREEZE_STATUS_state (v := 2) (by decide)
    · rw [State.get_raise_ne _ (by decide), State.get_set_ne _ (by decide), State.get_mk, State.freezeShown]
      simp (disch := decide) only [State.get_set_ne]
      exact State.get_set_fit _ RC_FREEZE_STATUS_cause (v := 4) (by decide)
    · rw [State.get_raise_ne _ (by decide), State.get_set_ne _ (by decide), State.get_mk, State.freezeShown]
      simp (disch := decide) only [State.get_set_ne]
      exact State.get_set_same _ RC_FREEZE_STATUS_bucket _
    · rw [State.get_raise_ne _ (by decide), State.get_set_ne _ (by decide), State.get_mk, State.freezeShown]
      exact State.get_set_same _ RC_FREEZE_ORBIT_orbit _
    · rw [State.get_raise_ne _ (by decide)]
      exact State.get_set_fit _ RC_FREEZE_CTRL_arm (v := 0) (by decide)
    · exact ((Frame.with_rc (hframe.mono (by decide) (by decide)) _ (by decide)).set _ _ (by decide)).raise _ _
        (by decide) (by decide)
  case armed =>
    intro s post hpost hstate
    have hstate' : ¬ (s.set RC_FREEZE_CTRL_post post).get RC_FREEZE_STATUS_state ≤ 1 := by
      rw [State.get_set_ne _ (by decide)]
      omega
    rw [exec_freezeArm hpost]
    exact congrArg _ (if_neg hstate')
  case forced =>
    intro s hstate
    have hnot : ¬ s.get RC_FREEZE_STATUS_state ≤ 1 := by omega
    exact effect_of_fixed (f := freezeForce) (if_neg hnot) .freezeForce
  case early =>
    intro s hstate hclock
    have hcome : ¬ s.stopCome = true := by simp [State.stopCome]; omega
    exact effectMs_of_fixed (f := ringStop) (if_neg hcome) .ringStop
  case stop =>
    intro s hrun hstate hclock
    have hcome : s.stopCome = true := by simp [State.stopCome, hstate, hclock]
    refine ⟨_, exec_ringStop hrun, ?_⟩
    rw [ringStop_of_come hcome]
    generalize hu : (s.count RC_FREEZE_LOST_count s.store.sort.length).ringStopped = u
    have hframe : Frame [.store, .rc] [RC_FREEZE_LOST_count] s u := by
      rw [← hu]
      exact Frame.beside (t := s.count RC_FREEZE_LOST_count s.store.sort.length)
        ((Frame.refl _ _ s).count _ _ (by decide))
    have hlost : u.get RC_FREEZE_LOST_count = min (s.get RC_FREEZE_LOST_count + s.store.sort.length)
        (2 ^ RC_FREEZE_LOST_count.width - 1) := hu ▸ State.get_count_same s _ _
    have hstore : u.store.stopped = true ∧ u.store.sort = [] := hu ▸ ⟨rfl, rfl⟩
    have hrecs : (u.rc.recs.all fun r => r.frozen && r.endAt.isSome) = true := by
      rw [← hu]
      simp [State.ringStopped]
    generalize hv : (u.set RC_FREEZE_STATUS_state 3).raise 102 = v
    have hframe' : Frame [.evReq] [RC_FREEZE_STATUS_state, MG_EVLOG_merged] u v := by
      rw [← hv]
      exact ((Frame.refl _ _ u).set _ _ (by decide)).raise _ _ (by decide) (by decide)
    have hthree : v.get RC_FREEZE_STATUS_state = 3 := by
      rw [← hv, State.get_raise_ne _ (by decide)]
      exact State.get_set_fit _ RC_FREEZE_STATUS_state (v := 3) (by decide)
    have hhas : Sparse.has 102 v.evReq = true := hv ▸ State.has_raise _ _ _
    have hbusy := v.busyEval_frame
    refine ⟨?_, ?_, ?_, ?_, ?_, State.busyEval_has hhas, ?_, ?_⟩
    · rw [hbusy.get (by decide), hthree]
    · rw [hbusy.parts .store (by decide), hframe'.parts .store (by decide), hstore.1]
    · rw [hbusy.parts .store (by decide), hframe'.parts .store (by decide), hstore.2]
    · rw [hbusy.get (by decide), hframe'.get (by decide), hlost]
    · rw [hbusy.parts .rc (by decide), hframe'.parts .rc (by decide), hrecs]
    · have hget : v.get RC_BUSY_busy = s.get RC_BUSY_busy := by rw [hframe'.get (by decide), hframe.get (by decide)]
      rw [State.busyEval, (State.creditsDue_frame _).get nofun, State.busyJudge_frozen hthree, State.on, State.on, hget]
    · exact ((hframe.mono (by decide) (by decide)).next hframe' (by decide) (by decide)).next hbusy (by decide)
        (by decide)

end Sys2Proof.Machine
end

section
/-! SUPPORT. The data paths of the ports, and the credits that a change of the fragment buffer sends (R303 to R307). -/

namespace Sys2Proof.Machine

open Sys2Proof

variable {s : State}

@[simp] theorem State.path_setPath (s : State) (p : Nat) (d : DPath) : (s.setPath p d).path p = d :=
  Sparse.get_put_same _ _ _ _

theorem State.path_setPath_ne (s : State) {p q : Nat} (h : q ≠ p) (d : DPath) : (s.setPath p d).path q = s.path q :=
  Sparse.get_put_ne _ _ h _ _

theorem State.setPath_frame (s : State) (p : Nat) (d : DPath) : Frame [.str] [] s (s.setPath p d) :=
  Frame.beside (Frame.refl _ _ s)

theorem State.path_congr {t : State} (h : t.str = s.str) (p : Nat) : t.path p = s.path p := by
  rw [State.path, State.path, h]

/-- A credit sent changes nothing but what tells of it. -/
def CreditOnly (d d' : DPath) : Prop :=
  d' = { d with credit := d'.credit, rxNak := d'.rxNak, creditEth := d'.creditEth, creditUnits := d'.creditUnits }

theorem CreditOnly.refl (d : DPath) : CreditOnly d d := rfl

theorem CreditOnly.trans {d e f : DPath} (h : CreditOnly d e) (h' : CreditOnly e f) : CreditOnly d f := by
  rw [CreditOnly, h'] at *
  rw [h]

theorem State.sendCredit_frame (s : State) (p : Nat) : Frame [.str, .free] [] s (s.sendCredit p) :=
  Frame.beside (Frame.refl _ _ s)

theorem State.sendCredit_str (s : State) (p : Nat) :
    (s.sendCredit p).str = { s.str with paths := (s.sendCredit p).str.paths } := rfl

/-- The payload of the credit that a port sends. -/
def State.creditOf (s : State) (p : Nat) : Nat :=
  (s.path p).rxAck * 2 ^ 48 + s.grant p * 2 ^ 32 + b2n (s.path p).rxNak * 2 ^ 31 + 0xA2

theorem State.sendCredit_path (s : State) (p : Nat) : CreditOnly (s.path p) ((s.sendCredit p).path p) ∧
    ((s.sendCredit p).path p).credit = s.creditOf p ∧ ((s.sendCredit p).path p).rxNak = false := by
  unfold State.sendCredit
  dsimp only
  rw [State.path_setPath]
  exact ⟨rfl, rfl, rfl⟩

theorem State.sendCredit_path_ne (s : State) {p q : Nat} (h : q ≠ p) : (s.sendCredit p).path q = s.path q := by
  unfold State.sendCredit
  dsimp only
  rw [State.path_setPath_ne _ h]
  rfl

theorem State.sendCredit_only (s : State) (p q : Nat) : CreditOnly (s.path q) ((s.sendCredit p).path q) := by
  by_cases h : q = p
  · subst h
    exact (s.sendCredit_path q).1
  · rw [State.sendCredit_path_ne s h]
    exact CreditOnly.refl _

/-! ## Credits that are due -/

theorem State.creditsDue_str (s : State) : s.creditsDue.str = { s.str with paths := s.creditsDue.str.paths } := by
  have heach (l : List Nat) (u : State) :
      (u.each l State.sendCredit).str = { u.str with paths := (u.each l State.sendCredit).str.paths } := by
    induction l generalizing u with
    | nil => rfl
    | cons p l ih =>
      refine (ih (u.sendCredit p)).trans ?_
      rw [State.sendCredit_str]
      rfl
  unfold State.creditsDue
  split
  · rfl
  · exact heach _ _

theorem State.creditsDue_only (s : State) (p : Nat) : CreditOnly (s.path p) (s.creditsDue.path p) := by
  have heach (l : List Nat) (u : State) : CreditOnly (u.path p) ((u.each l State.sendCredit).path p) := by
    induction l generalizing u with
    | nil => exact CreditOnly.refl _
    | cons q l ih => exact (u.sendCredit_only q p).trans (ih _)
  unfold State.creditsDue
  split
  · exact CreditOnly.refl _
  · exact heach _ _

/-- A path whose last credit is up to date sends none. -/
theorem State.creditsDue_path {p : Nat} (h : s.creditStale p = false) : s.creditsDue.path p = s.path p := by
  have heach (l : List Nat) (u : State) (hl : p ∉ l) : (u.each l State.sendCredit).path p = u.path p := by
    induction l generalizing u with
    | nil => rfl
    | cons q l ih =>
      rw [State.each_cons, ih _ (List.not_mem_of_not_mem_cons hl),
        State.sendCredit_path_ne _ (List.ne_of_not_mem_cons hl)]
  unfold State.creditsDue
  split
  · rfl
  · exact heach _ _ (by simp [h])

theorem State.busyEval_str (s : State) : s.busyEval.str = { s.str with paths := s.busyEval.str.paths } := by
  have h := s.busyJudge.creditsDue_str
  rw [s.busyJudge_frame.parts .str (by decide)] at h
  exact h

theorem State.busyEval_path (s : State) (p : Nat) : CreditOnly (s.path p) (s.busyEval.path p) := by
  have h := s.busyJudge.creditsDue_only p
  rwa [State.path_congr (s.busyJudge_frame.parts .str (by decide))] at h

theorem State.dataUp_congr {t : State} (hstr : t.str = s.str)
    (h : ∀ f ∈ [FB_UP_d_sec, FB_UP_d_pri, FB_PORTS_data_up], t.get f = s.get f) : t.dataUp = s.dataUp := by
  simp only [List.mem_cons, List.not_mem_nil, or_false, forall_eq_or_imp, forall_eq] at h
  obtain ⟨hsec, hpri, hup⟩ := h
  have horder : t.dataOrder = s.dataOrder := by rw [State.dataOrder, State.dataOrder, hstr, hsec, hpri]
  have hhas (p : Nat) : t.dataHas p = s.dataHas p := by rw [State.dataHas, State.dataHas, hup]
  rw [State.dataUp, State.dataUp, horder, hhas, hhas]

theorem State.grant_lt (s : State) (p : Nat) : s.grant p ≤ 4096 := by
  unfold State.grant
  split
  · omega
  · exact Nat.min_le_left _ _

end Sys2Proof.Machine
end

section
/-! SUPPORT and PROOF. Blocks leave, and credits acknowledge them (R303 to R308). -/

namespace Sys2Proof.Machine

open Sys2Proof

variable {s : State}

/-! ## A block leaves -/

theorem exec_blockSend {port : Nat} (hport : port < 6) (s : State) :
    exec (.blockSend port none) s = .next (blockSend port none s) :=
  effect_of_wf (c := .blockSend port none) (by simp [Instr.wf, hport]) (blockSend port none) s

/-- The path of a port that sends a new block, before the block leaves. -/
def DPath.numbered (d : DPath) (f : OutFrag) : DPath :=
  { d with
    nseq := d.nseq + 1, out := d.out ++ [⟨f.key, f.next⟩]
    frags := d.frags.map fun g => if g.key = f.key then { g with next := g.next + 1 } else g }

theorem State.sendNew_eq (s : State) (port : Nat) (f : OutFrag) : s.sendNew port f =
    ((s.setPath port ((s.path port).numbered f)).emitBlock port (s.path port).nseq f f.next).busyEval := rfl

theorem blockSend_of_next {port : Nat} {f : OutFrag} (hup : s.dataUp = some port)
    (hbackup : s.on CX_ARCH_STATUS_mgmt_backup = false) (hstart : (s.path port).started = true)
    (hlane : s.serving port 3 ≠ []) (hresend : (s.path port).resend = 0)
    (hwin : (s.path port).out.length < (s.path port).window) (hf : (s.path port).nextFrag = some f) :
    blockSend port none s = s.sendNew port f := by
  have hopen : ¬ (s.dataUp ≠ some port ∨ s.on CX_ARCH_STATUS_mgmt_backup = true ∨ (!(s.path port).started) = true ∨
      s.serving port 3 = []) := by simp [hup, hbackup, hstart, hlane]
  have hwin' : ¬ (s.path port).window < (s.path port).out.length + 1 := by omega
  unfold blockSend
  simp only [if_neg hopen, hresend, Nat.lt_irrefl, if_false, if_neg hwin', hf, Option.isSome_some, if_true]

/-- A block has left: its words, start and end, and off raw Ethernet its units. -/
structure BlockLeft (p seq : Nat) (f : OutFrag) (bidx : Nat) (s t : State) : Prop where
  words : (t.path p).txWords = blockWords f.words bidx
  start : (t.path p).txStart = blockStart (seq % 65536) f.src f.fseq bidx (bidx + 1 == blocksOf f.words.length)
  end_ : (t.path p).txEnd = blockEnd (blockWords f.words bidx)
  units : lrEthernet s.shadowRd p = false → (t.path p).txUnits = wireUnits s.lineSeed.1
    (ctrlUnit (t.path p).txStart :: (blockWords f.words bidx).map dataUnit ++ [ctrlUnit (t.path p).txEnd])
  nseq : (t.path p).nseq = (s.path p).nseq
  out : (t.path p).out = (s.path p).out
  frame : Frame [.str, .free] [CX_STR_CNT_resent] s t

theorem State.emitBlock_left (s : State) (p seq : Nat) (f : OutFrag) (bidx : Nat) :
    BlockLeft p seq f bidx s (s.emitBlock p seq f bidx) := by
  have hresent : Frame [] [CX_STR_CNT_resent] s (s.iff (decide (bidx < f.ever)) fun s => s.count CX_STR_CNT_resent) :=
    (Frame.refl _ _ s).iff fun _ hu => hu.count _ 1 (by decide)
  unfold State.emitBlock
  dsimp only
  generalize (s.iff (decide (bidx < f.ever)) fun s => s.count CX_STR_CNT_resent) = u at *
  have hpath (v : Nat) : State.path { u with free := v } p = s.path p := State.path_congr (hresent.parts .str nofun) p
  have hfree : u.free = s.free := hresent.parts .free nofun
  have hplate : u.shadowRd = s.shadowRd := by
    unfold State.shadowRd
    rw [hresent.parts .plate nofun]
  have hseed : u.lineSeed = (s.lineSeed.1, { u with free := s.free + 1 }) := by
    rw [State.lineSeed, State.lineSeed, State.draw, State.draw, hfree]
  rw [hseed]
  dsimp only
  refine ⟨?_, ?_, ?_, ?_, ?_, ?_, ?_⟩
  · rw [State.path_setPath]
  · rw [State.path_setPath]
  · rw [State.path_setPath]
  · intro heth
    have heth' : lrEthernet (State.shadowRd { u with free := s.free + 1 }) p = false := hplate ▸ heth
    rw [State.path_setPath]
    simp only [heth', Bool.false_eq_true, if_false, if_true]
  · rw [State.path_setPath]
    dsimp only
    rw [hpath]
  · rw [State.path_setPath]
    dsimp only
    rw [hpath]
  · exact Frame.next ((hresent.mono (by decide) (fun _ h => h)).with_free _ (by decide)) (State.setPath_frame _ _ _)
      (by decide) nofun

theorem blocksOf_eq (n : Nat) : blocksOf n = (n + 31) / 32 := rfl

/-- The new block that leaves: what a credit sent after it leaves unchanged. -/
theorem State.sendNew_left (s : State) (port : Nat) (f : OutFrag) :
    ∃ u, BlockLeft port (s.path port).nseq f f.next (s.setPath port ((s.path port).numbered f)) u ∧
      s.sendNew port f = u.busyEval := ⟨_, State.emitBlock_left _ _ _ _ _, s.sendNew_eq port f⟩

/-! ## Credits -/

theorem exec_creditReceived {port ack window : Nat} (hport : port < 6) (hack : ack < 65536) (hwin : window < 65536)
    (nak : Bool) (s : State) : exec (.creditReceived port ack window nak) s = .next (creditReceived port ack window nak s) :=
  effect_of_wf (c := .creditReceived port ack window nak) (by simp [Instr.wf, hport, hack, hwin])
    (creditReceived port ack window nak) s

theorem State.dataReturn_of_off (h : s.fb.dReturn = false) : s.dataReturn = s := by
  unfold State.dataReturn
  rw [h]
  rfl

/-- The blocks that a credit acknowledges by their count modulo 2^16. -/
theorem DPath.newlyAcked_of_count {d : DPath} {n ack : Nat} (hn : n ≤ d.out.length) (hack : ack = (d.ack + n) % 65536)
    (hn' : n < 65536) : d.newlyAcked ack = some n := by
  have hsub : wrapSub 65536 ack d.ack = n := by
    unfold wrapSub
    omega
  unfold DPath.newlyAcked
  simp only [hsub, if_pos hn]

/-- Fragments whose last block a credit acknowledges leave the path. -/
theorem State.fragLeaves_frame (s : State) (f : OutFrag) :
    Frame [.rc] [RC_CTX_free, RC_FBUF_free] s (s.fragLeaves f) := by
  refine Frame.set (Frame.each (Frame.refl _ _ s) fun u c _ hu => ?_) _ _ (by decide)
  exact (hu.with_rc _ (by decide)).set _ _ (by decide)

theorem creditTaken_of_count {port ack window n : Nat} {nak : Bool} (hstart : (s.path port).started = true)
    (hwin : window ≤ 4096) (hn : (s.path port).newlyAcked ack = some n) :
    ∃ (gone : List OutFrag) (frags : List OutFrag), State.creditTaken port ack window nak s =
      ((s.setPath port { s.path port with
        ack := ((s.path port).ack + n) % 65536, window := window, out := (s.path port).out.drop n
        resend := if nak then ((s.path port).out.drop n).length else
          min (s.path port).resend ((s.path port).out.drop n).length
        frags := frags }).each gone State.fragLeaves).busyEval := by
  have hwin' : ¬ 4096 < window := by omega
  unfold State.creditTaken
  simp only [hstart, Bool.not_true, Bool.false_eq_true, if_false, if_neg hwin', hn]
  exact ⟨_, _, rfl⟩

/-- Settles O29: the block that leaves is followed through its path, which a credit sent after it changes only in what
tells of the credit. -/
theorem blocksLeaveAndAreAcknowledged : Obligations.BlocksLeaveAndAreAcknowledged := by
  unfold Obligations.BlocksLeaveAndAreAcknowledged
  refine ⟨?send, ?bad, ?good, ?resend, ?timer⟩
  case send =>
    intro s port f hport hup hbackup hstart hlane hresend hwin hf d ws
    obtain ⟨u, hleft, hsend⟩ := s.sendNew_left port f
    have hshadow : (s.setPath port ((s.path port).numbered f)).shadowRd = s.shadowRd := rfl
    have hseed : (s.setPath port ((s.path port).numbered f)).lineSeed.1 = s.lineSeed.1 := rfl
    obtain ⟨hwords, hstartw, hend, hunits, hnseq, hout, hframe⟩ := hleft
    rw [State.path_setPath] at hnseq hout
    rw [hshadow, hseed] at hunits
    have hcredit := u.busyEval_path port
    refine ⟨_, exec_blockSend hport s, ?_⟩
    rw [blockSend_of_next hup hbackup hstart hlane hresend hwin hf, hsend, hcredit]
    refine ⟨hwords, ?_, hend, ?_, hnseq, hout, ?_⟩
    · rw [hstartw, blockStart, blocksOf_eq]
      by_cases hlast : f.next + 1 = (f.words.length + 31) / 32
      · rw [if_pos hlast, beq_iff_eq.2 hlast]
        rfl
      · rw [if_neg hlast, beq_false_of_ne hlast]
        simp only [b2n, Bool.false_eq_true, if_false, Nat.zero_mul]
        rfl
    · cases heth : lrEthernet s.shadowRd port
      · exact .inr (hunits heth)
      · exact .inl rfl
    · exact (((s.setPath_frame port _).mono (by decide) nofun).next hframe (by decide) (by decide)).next u.busyEval_frame
        (by decide) (by decide)
  case bad =>
    intro s port ack window nak hport hack hwin hbig hstart hreturn
    have htaken : State.creditTaken port ack window nak s =
        (s.count CX_STR_CNT_bad_credit).flag CX_STR_STATUS_credit_err 114 := by
      unfold State.creditTaken
      simp only [hstart, Bool.not_true, Bool.false_eq_true, if_false, if_pos hbig]
    rw [exec_creditReceived hport hack hwin, creditReceived, htaken, State.dataReturn_of_off]
    rw [State.flag_fb, State.count_fb, hreturn]
  case good =>
    intro s port ack window n nak hport hack hwin hstart hreturn hn hlt hack' hn' hresend
    obtain ⟨gone, frags, htaken⟩ := creditTaken_of_count (nak := nak) hstart hwin
      (DPath.newlyAcked_of_count hn hack' hn')
    refine ⟨_, exec_creditReceived hport hack (by omega) nak s, ?_⟩
    generalize hd : ({ s.path port with
        ack := ((s.path port).ack + n) % 65536, window := window, out := (s.path port).out.drop n
        resend := if nak then ((s.path port).out.drop n).length else
          min (s.path port).resend ((s.path port).out.drop n).length
        frags := frags } : DPath) = d at htaken
    have hgone : Frame [.rc] [RC_CTX_free, RC_FBUF_free] (s.setPath port d) ((s.setPath port d).each gone State.fragLeaves) :=
      (Frame.refl _ _ _).each fun u f _ hu => hu.trans (u.fragLeaves_frame f)
    generalize (s.setPath port d).each gone State.fragLeaves = u at htaken hgone
    have hoff : (State.creditTaken port ack window nak s).fb.dReturn = false := by
      rw [htaken, u.busyEval_frame.parts .fb (by decide), hgone.parts .fb (by decide)]
      exact hreturn
    have hpath : u.path port = d := by
      rw [State.path_congr (hgone.parts .str (by decide)), State.path_setPath]
    rw [creditReceived, State.dataReturn_of_off hoff, htaken, u.busyEval_path port, hpath, ← hd]
    refine ⟨hack'.symm, rfl, rfl, ?_⟩
    dsimp only
    rw [List.length_drop]
  case resend =>
    intro s port hport hstart
    refine ⟨_, effect_of_wf (c := .resendTimeout port) (decide_eq_true hport) (resendTimeout port) s, ?_⟩
    have hresend : resendTimeout port s = s.setPath port { s.path port with resend := (s.path port).out.length } :=
      if_pos hstart
    rw [hresend, State.path_setPath]
    exact ⟨rfl, rfl, s.setPath_frame port _⟩
  case timer =>
    intro s port hport hstart
    refine ⟨_, effect_of_wf (c := .creditTimer port) (decide_eq_true hport) (creditTimer port) s, ?_⟩
    have htimer : creditTimer port s = s.sendCredit port := if_pos hstart
    obtain ⟨-, hcredit, hnak⟩ := s.sendCredit_path port
    rw [htimer]
    refine ⟨?_, hnak, s.sendCredit_frame port⟩
    rw [hcredit, State.creditOf, State.grant]
    cases (s.path port).rxNak
    · simp [b2n]
    · simp [b2n]

end Sys2Proof.Machine
end

section
/-! SUPPORT and PROOF. Blocks arrive, and contributions of one accept merge (R304 to R317). -/

namespace Sys2Proof.Machine

open Sys2Proof

variable {s : State}

/-! ## Received blocks -/

theorem exec_blockReceived {port : Nat} {b : BlockIn} (hport : port < 6) (hb : b.wf = true) (s : State) :
    exec (.blockReceived port b) s = .next (blockReceived port b s) :=
  effect_of_wf (c := .blockReceived port b) (by simp [Instr.wf, hport, hb]) (blockReceived port b) s

theorem blockReceived_of_bad {port : Nat} {b : BlockIn} (hstart : (s.path port).started = true)
    (hlane : s.serving port 3 ≠ []) (hrx : rxBlock (lrEthernet s.shadowRd port) b = .bad true) :
    blockReceived port b s = (s.rxBad.setPath port { s.path port with rxNak := true }).sendCredit port := by
  have hlane' : (s.serving port 3 == []) = false := by simpa using hlane
  unfold blockReceived
  simp only [hstart, hlane', hrx, Bool.not_true, Bool.or_false, Bool.false_eq_true, if_false, if_true]

theorem blockReceived_of_block {port : Nat} {b : BlockIn} {start : Nat} {ws : List Nat}
    (hstart : (s.path port).started = true) (hlane : s.serving port 3 ≠ [])
    (hrx : rxBlock (lrEthernet s.shadowRd port) b = .block start ws) :
    blockReceived port b s = ((s.blockGood port start ws).sendCredit port).busyEval := by
  have hlane' : (s.serving port 3 == []) = false := by simpa using hlane
  unfold blockReceived
  simp only [hstart, hlane', hrx, Bool.not_true, Bool.or_false, Bool.false_eq_true, if_false]

theorem State.rxBad_frame (s : State) : Frame [.str, .evReq] [CX_STR_RX_bad, MG_EVLOG_merged] s s.rxBad :=
  have hcount : Frame [.str, .evReq] [CX_STR_RX_bad, MG_EVLOG_merged] s (s.count CX_STR_RX_bad) :=
    (Frame.refl _ _ s).count _ 1 (by decide)
  Frame.ite hcount ((hcount.with_str _ (by decide)).raise _ _ (by decide) (by decide))

theorem State.rxBad_count (s : State) :
    s.rxBad.get CX_STR_RX_bad = min (s.get CX_STR_RX_bad + 1) (2 ^ CX_STR_RX_bad.width - 1) := by
  unfold State.rxBad
  dsimp only
  split
  · exact State.get_count_same _ _ _
  · rw [State.get_raise_ne _ (by decide)]
    exact State.get_count_same _ _ _

/-- A credit tells the last block taken, and whether one failed. -/
theorem State.creditOf_fields (s : State) (p : Nat) : s.creditOf p / 2 ^ 48 = (s.path p).rxAck ∧
    s.creditOf p / 2 ^ 31 % 2 = b2n (s.path p).rxNak ∧ s.creditOf p / 2 ^ 32 % 2 ^ 16 = s.grant p ∧ s.creditOf p ≠ 0 := by
  have hgrant := s.grant_lt p
  have hnak : b2n (s.path p).rxNak ≤ 1 := by
    cases (s.path p).rxNak
    · simp [b2n]
    · simp [b2n]
  unfold State.creditOf
  refine ⟨?_, ?_, ?_, ?_⟩
  · omega
  · omega
  · omega
  · omega

/-! ## A good block -/

theorem State.takeBlocks_frame (s : State) (n : Nat) : Frame [] [RC_FBUF_free] s (s.takeBlocks n) :=
  (Frame.refl _ _ s).set _ _ (by decide)

theorem State.takeBlocks_free (s : State) (n : Nat) :
    (s.takeBlocks n).get RC_FBUF_free = (s.get RC_FBUF_free - n) % 2 ^ RC_FBUF_free.width := State.get_set_same _ _ _

theorem State.path_takeBlocks (s : State) (n p : Nat) : (s.takeBlocks n).path p = s.path p := rfl

/-- The first block of several of a fragment, next in sequence, with none waiting ahead of it. -/
theorem State.blockGood_of_first {port start : Nat} {ws : List Nat}
    (hseq : bits start 48 16 = ((s.path port).rxAck + 1) % 65536) (hidx : bits start 10 12 = 0)
    (hlast : bit start 9 = false) (hpart : (s.path port).rxPart = none) (hheld : (s.path port).rxHeld = []) :
    s.blockGood port start ws = ((s.takeBlocks 1).setPath port { s.path port with rxAck := bits start 48 16 }).setPath port
      { s.path port with
        rxAck := bits start 48 16, rxPart := some ⟨bits start 36 12, bits start 22 14, 1, ws⟩ } := by
  have hdrop (u : State) (hu : (u.path port).rxPart = none) : u.dropPartial port = u := by
    rw [State.dropPartial, hu]
  have hin (u : State) (hu : (u.path port).rxPart = none) : u.blockIn port start ws = u.setPath port
      { u.path port with rxPart := some ⟨bits start 36 12, bits start 22 14, 1, ws⟩ } := by
    unfold State.blockIn
    simp only [hidx, hlast, hdrop u hu, hu, Bool.false_and, Bool.false_eq_true, if_false, if_true, List.nil_append,
      Nat.zero_add]
  unfold State.blockGood
  simp only [if_pos hseq, hheld, List.length_nil, State.takeHeld]
  rw [hin _ (by rw [State.path_setPath]; exact hpart), State.path_setPath]

/-- A block that is two ahead is not next, and not one taken before. -/
theorem State.blockGood_of_ahead {port start : Nat} {ws : List Nat}
    (hseq : bits start 48 16 = ((s.path port).rxAck + 2) % 65536) :
    s.blockGood port start ws =
      if 2 ≤ (s.serving port 3).length && decide ((s.path port).rxHeld.length < 4096) then
        if (s.path port).rxHeld.any fun e => e.1 == bits start 48 16 then s
        else (s.takeBlocks 1).setPath port { s.path port with
          rxHeld := (s.path port).rxHeld ++ [(bits start 48 16, start, ws)] }
      else s.setPath port { s.path port with rxNak := true } := by
  have hnext : bits start 48 16 ≠ ((s.path port).rxAck + 1) % 65536 := by omega
  have hold : (decide (32768 ≤ wrapSub 65536 (bits start 48 16) (s.path port).rxAck) ||
      bits start 48 16 == (s.path port).rxAck) = false := by
    rw [Bool.or_eq_false_iff, decide_eq_false_iff_not, beq_eq_false_iff_ne]
    unfold wrapSub
    omega
  unfold State.blockGood
  simp only [if_neg hnext, hold, Bool.false_eq_true, if_false]

/-- The grant of a port depends on the data up route and the fragment buffer. -/
theorem State.busyJudge_grant (s : State) (p : Nat) : s.busyJudge.grant p = s.grant p := by
  have hup : s.busyJudge.dataUp = s.dataUp := by
    refine State.dataUp_congr (s.busyJudge_frame.parts .str (by decide)) fun f hf => s.busyJudge_frame.get ?_
    revert f
    decide
  rw [State.grant, State.grant, hup, s.busyJudge_frame.get (by decide)]

/-- A credit just sent is up to date while the buffer does not change. -/
theorem State.busyEval_sendCredit {p : Nat} (hack : (s.path p).rxAck < 65536) :
    (s.sendCredit p).busyEval.path p = (s.sendCredit p).path p := by
  have hframe := (s.sendCredit p).busyJudge_frame
  have hpath : (s.sendCredit p).busyJudge.path p = (s.sendCredit p).path p :=
    State.path_congr (hframe.parts .str (by decide)) p
  obtain ⟨honly, hcredit, -⟩ := s.sendCredit_path p
  obtain ⟨hackf, -, hgrantf, hpos⟩ := s.creditOf_fields p
  have hgrant : (s.sendCredit p).grant p = s.grant p := by
    have hup : (s.sendCredit p).dataUp = s.dataUp := rfl
    rw [State.grant, State.grant, hup]
    rfl
  have hrx : ((s.sendCredit p).path p).rxAck = (s.path p).rxAck := by rw [honly]
  have hstale : (s.sendCredit p).busyJudge.creditStale p = false := by
    have hbits : bits (s.creditOf p) 48 16 = (s.path p).rxAck := by
      rw [bits, hackf]
      omega
    have hbits' : bits (s.creditOf p) 32 16 = s.grant p := hgrantf
    unfold State.creditStale
    dsimp only
    rw [hpath, State.busyJudge_grant, hgrant, hcredit, hrx]
    simp [hbits, hbits', hpos]
  exact (State.creditsDue_path hstale).trans hpath

/-! ## Merges -/

theorem State.forward_path (s : State) (c : Contrib) {p : Nat} (h : c.port = some p) :
    s.forward c = s.setPath p { s.path p with fwd := (s.path p).fwd ++ [c.frag] } := by
  rw [State.forward, h]

theorem exec_mergeContribution (s : State) : exec .mergeContribution s = .next (mergeContribution s) :=
  effect_of_wf rfl mergeContribution s

/-- The oldest contribution waiting is taken. -/
def State.contribTaken (s : State) (rest : List Contrib) : State := { s with str := { s.str with mergeIn := rest } }

theorem mergeContribution_of_first {c : Contrib} {rest : List Contrib} (horder : s.str.order = [])
    (hin : s.str.mergeIn = c :: rest) : mergeContribution s =
      (if s.mergeOn then (s.contribTaken rest).contribute c else (s.contribTaken rest).forward c).busyEval := by
  have hfeed : s.feedMerge s.str.order.length = s := by rw [horder]; rfl
  unfold mergeContribution
  simp only [hfeed, hin]
  rfl

theorem State.setMerges_frame (s : State) (l : List Merge) : Frame [.str] [FB_MERGE_STATUS_open] s (s.setMerges l) :=
  Frame.set (Frame.with_str (Frame.refl _ _ s) _ (by decide)) _ _ (by decide)

theorem State.setMerges_str (s : State) (l : List Merge) : (s.setMerges l).str = { s.str with merges := l } := rfl

theorem mergeSet_key_ne (k : Nat) : (FB_MERGE_SET_valid k).key ≠ FB_MERGE_STATUS_open.key := by
  simp only [Fld.key, FB_MERGE_SET_valid, FB_MERGE_STATUS_open]
  omega

theorem State.setMerges_mergeAll (s : State) (l : List Merge) : (s.setMerges l).mergeAll = s.mergeAll := by
  have hget (f : Fld) (hf : f.key ≠ FB_MERGE_STATUS_open.key) : (s.setMerges l).on f = s.on f := by
    have h : (s.setMerges l).get f = s.get f := (s.setMerges_frame l).get (by simpa using hf)
    rw [State.on, State.on, h]
  have hself := hget FB_MERGE_CTRL_self (by decide)
  have hslots : (s.setMerges l).mergeSlots = s.mergeSlots := by
    unfold State.mergeSlots
    rw [hself]
    simp only [hget _ (mergeSet_key_ne _)]
  rw [State.mergeAll, State.mergeAll, hslots, hself]

/-- A merge is opened for a number that has none, where more members are expected. -/
theorem State.contribute_opens {c : Contrib}
    (hnone : s.str.merges.all (fun m => m.number != fragNumber c.frag.words) = true)
    (hnew : s.str.mergedNums.contains (fragNumber c.frag.words) = false) (hroom : s.get FB_MERGE_STATUS_open < 1024)
    (hmore : s.mergeAll ≠ 2 ^ c.member) : s.contribute c =
      s.setMerges (s.str.merges ++ [⟨fragNumber c.frag.words, [c], 2 ^ c.member, false, none⟩]) := by
  have hfind : (s.str.merges.find? fun m => m.number == fragNumber c.frag.words && m.built.isNone) = none := by
    rw [List.find?_eq_none]
    intro m hm
    have := List.all_eq_true.1 hnone m hm
    simp_all
  have hroom' : ¬ 1024 ≤ s.get FB_MERGE_STATUS_open := by omega
  unfold State.contribute
  simp only [hfind, hnew, decide_eq_false hroom', Bool.or_false, Bool.false_eq_true, if_false,
    State.setMerges_mergeAll, if_neg hmore]

/-- The only merge open is built: it is counted and joins the merged fragments. -/
structure MergeBuilt (n : Nat) (s t : State) : Prop where
  mergeIn : t.str.mergeIn = s.str.mergeIn
  merges : t.str.merges = []
  nums : t.str.mergedNums = s.str.mergedNums ++ [n]
  merged : t.str.merged.length = s.str.merged.length + 1
  sent : t.get FB_MERGE_CNT_sent = min (s.get FB_MERGE_CNT_sent + 1) (2 ^ FB_MERGE_CNT_sent.width - 1)
  open_ : t.get FB_MERGE_STATUS_open = 0
  frame : Frame [.str] [FB_MERGE_STATUS_open, FB_MERGE_CNT_sent, RC_FBUF_free] s t

/-- No merge is open, and fragment `f` of number `n` joins those merged. -/
def State.mergeDone (s : State) (n : Nat) (f : WaitFrag) : State :=
  let s := s.setMerges []
  State.count { s with str := { s.str with
    merged := s.str.merged ++ [f], mergedNums := s.str.mergedNums ++ [n] } } FB_MERGE_CNT_sent

theorem State.mergeBuild_only {m : Merge} (hm : s.str.merges = [m]) (hopen : m.built = none) (timedOut : Bool) :
    s.mergeBuild m.number timedOut =
      ((s.giveBlocks (m.contribs.foldl (fun n c => n + c.frag.blocks) 0)).takeBlocks
        (s.mergedFrag m timedOut).blocks).mergeDone m.number (s.mergedFrag m timedOut) := by
  have hstr (old new : Nat) : ((s.giveBlocks old).takeBlocks new).str = s.str := rfl
  unfold State.mergeBuild
  simp only [hm, hstr, hopen, List.find?_cons, beq_self_eq_true, Option.isNone_none, Bool.and_self, if_true,
    List.map_cons, List.map_nil, drainMerges, and_self]
  rfl

theorem State.mergeBuild_built {m : Merge} (hm : s.str.merges = [m]) (hopen : m.built = none) (timedOut : Bool) :
    MergeBuilt m.number s (s.mergeBuild m.number timedOut) := by
  rw [State.mergeBuild_only hm hopen]
  generalize s.mergedFrag m timedOut = f
  have hu : Frame [] [RC_FBUF_free] s ((s.giveBlocks (m.contribs.foldl (fun n c => n + c.frag.blocks) 0)).takeBlocks f.blocks) :=
    ((Frame.refl _ _ s).set _ _ (by decide)).set _ _ (by decide)
  generalize (s.giveBlocks (m.contribs.foldl (fun n c => n + c.frag.blocks) 0)).takeBlocks f.blocks = u at hu ⊢
  have hstr : u.str = s.str := hu.parts .str nofun
  have hframe : Frame [.str] [FB_MERGE_STATUS_open, FB_MERGE_CNT_sent, RC_FBUF_free] s (u.setMerges []) :=
    (hu.mono (by decide) (by decide)).next (u.setMerges_frame []) (by decide) (by decide)
  have hsent : (u.setMerges []).get FB_MERGE_CNT_sent = s.get FB_MERGE_CNT_sent := by
    rw [(u.setMerges_frame []).get (by decide), hu.get (by decide)]
  have hzero : (u.setMerges []).get FB_MERGE_STATUS_open = 0 := State.get_set_fit _ FB_MERGE_STATUS_open (v := 0) (by decide)
  unfold State.mergeDone
  dsimp only
  refine ⟨?_, ?_, ?_, ?_, ?_, ?_, (hframe.with_str _ (by decide)).count _ 1 (by decide)⟩
  · rw [State.count_str, State.setMerges_str, hstr]
  · rw [State.count_str, State.setMerges_str]
  · rw [State.count_str, State.setMerges_str, hstr]
  · rw [State.count_str, State.setMerges_str, hstr]
    simp
  · rw [State.get_count_same, State.get_mk, hsent]
  · rw [State.get_count_ne _ (by decide), State.get_mk, hzero]

/-- The contribution that completes the only merge open builds it. -/
theorem State.contribute_builds {c : Contrib} {m : Merge} (hm : s.str.merges = [m])
    (hnum : m.number = fragNumber c.frag.words) (hopen : m.built = none) (hcame : bit m.came c.member = false)
    (hall : Nat.land (m.came + 2 ^ c.member) s.mergeAll = s.mergeAll)
    (hfits : m.contribs.foldl (fun v x => v + x.frag.words.length) 5 + c.frag.words.length ≤ 131072) :
    MergeBuilt m.number s (s.contribute c) := by
  have hjoin : s.contribute c = (s.setMerges [{ m with
      contribs := m.contribs ++ [c], came := m.came + 2 ^ c.member, cut := m.cut || false }]).mergeBuild m.number false := by
    unfold State.contribute
    simp only [hm, ← hnum, hopen, List.find?_cons, beq_self_eq_true, Option.isNone_none, Bool.and_self, hcame,
      Bool.false_eq_true, if_false, hfits, decide_true, if_true, List.map_cons, List.map_nil, and_self,
      State.setMerges_mergeAll, hall, Bool.not_true]
  rw [hjoin]
  generalize hm' : ({ m with
    contribs := m.contribs ++ [c], came := m.came + 2 ^ c.member, cut := m.cut || false } : Merge) = m'
  have hnum' : m'.number = m.number := hm' ▸ rfl
  have hbuilt := State.mergeBuild_built (s := s.setMerges [m']) (m := m') rfl (hm' ▸ hopen) false
  have hframe := s.setMerges_frame [m']
  rw [hnum'] at hbuilt
  obtain ⟨hin, hmerges, hnums, hmerged, hsent, hzero, hframe'⟩ := hbuilt
  refine ⟨hin, hmerges, hnums, hmerged, ?_, hzero, (hframe.mono (by decide) (by decide)).next hframe' (by decide)
    (by decide)⟩
  rw [hsent, hframe.get (by decide)]

/-! ## The checks of a block off raw Ethernet -/

theorem reverseBits_lt (v n : Nat) : reverseBits v n < 2 ^ n := by
  have hfold (k : Nat) : (List.range k).foldl (fun r i => r * 2 + b2n (v.testBit i)) 0 < 2 ^ k := by
    induction k with
    | zero => simp
    | succ k ih =>
      rw [List.range_succ, List.foldl_append, Nat.pow_succ]
      simp only [List.foldl_cons, List.foldl_nil]
      have hbit : b2n (v.testBit k) ≤ 1 := by
        cases v.testBit k
        · simp [b2n]
        · simp [b2n]
      omega
  exact hfold n

theorem crc32_lt (bytes : List Nat) : crc32 bytes < 2 ^ 32 := Nat.xor_lt_two_pow (reverseBits_lt _ 32) (by decide)

theorem rxThrumgon_of_sent {start : Nat} {ws : List Nat} (hstart : start % 256 = 0xA1) (hpos : 1 ≤ ws.length)
    (hlen : ws.length ≤ 32) :
    rxThrumgon (ctrlUnit start :: ws.map dataUnit ++ [ctrlUnit (blockEnd ws)]) = .block start ws := by
  have hcrc := crc32_lt (wordBytes ws)
  have hcode : blockEnd ws % 256 = 0xA4 := by unfold blockEnd; omega
  have hcount : bits (blockEnd ws) 59 5 + 1 = ws.length := by unfold bits blockEnd; omega
  have hsum : bits (blockEnd ws) 8 32 = crc32 (wordBytes ws) := by unfold bits blockEnd; omega
  have hlast : (ws.map dataUnit ++ [(2, blockEnd ws)]).getLastD (0, 0) = (2, blockEnd ws) := by simp
  have hwords : (ws.map dataUnit).map (·.2) = ws := by simp [dataUnit, Function.comp_def]
  have hdata : ((ws.map dataUnit).all fun u => u.1 == 1) = true := by simp [dataUnit]
  rw [List.cons_append]
  unfold rxThrumgon
  simp only [hlast, List.dropLast_concat, hwords, hdata, ctrlUnit, hstart, hcode, hcount, hsum, beq_self_eq_true,
    Bool.and_self, decide_eq_true hpos, if_true]

/-! ## The obligation -/

/-- Settles O30: a block received changes its path, then a credit is sent, which stays up to date; a contribution meets
the merges open. -/
theorem blocksArriveAndMergesForm : Obligations.BlocksArriveAndMergesForm := by
  unfold Obligations.BlocksArriveAndMergesForm
  refine ⟨?bad, ?first, ?single, ?bonded, ?forwarded, ?opened, ?built, ?timeout, ?checks⟩
  case bad =>
    intro s port b hport hb hstart hlane hrx
    refine ⟨_, exec_blockReceived hport hb s, ?_⟩
    rw [blockReceived_of_bad hstart hlane hrx]
    have hbad := s.rxBad_frame
    have hpath := s.rxBad.setPath_frame port { s.path port with rxNak := true }
    have hcount : (s.rxBad.setPath port { s.path port with rxNak := true }).get CX_STR_RX_bad = _ := s.rxBad_count
    have hnew : (s.rxBad.setPath port { s.path port with rxNak := true }).path port = { s.path port with rxNak := true } :=
      State.path_setPath _ _ _
    generalize s.rxBad.setPath port { s.path port with rxNak := true } = u at *
    obtain ⟨honly, hcredit, -⟩ := u.sendCredit_path port
    obtain ⟨-, hnak, -, -⟩ := u.creditOf_fields port
    rw [hnew] at honly hnak
    refine ⟨?_, ?_, ?_, ?_, ?_⟩
    · rw [(u.sendCredit_frame port).get nofun, hcount]
    · rw [honly]
    · rw [honly]
    · rw [hcredit, hnak]
      rfl
    · exact ((hbad.mono (by decide) (fun _ h => h)).next hpath (by decide) nofun).next (u.sendCredit_frame port) (by decide)
        nofun
  case first =>
    intro s port b start ws hport hb hstart hlane hrx hseq hidx hlast hpart hheld
    refine ⟨_, exec_blockReceived hport hb s, ?_⟩
    rw [blockReceived_of_block hstart hlane hrx, State.blockGood_of_first hseq hidx hlast hpart hheld]
    have htake := s.takeBlocks_frame 1
    have hset := (s.takeBlocks 1).setPath_frame port { s.path port with rxAck := bits start 48 16 }
    have hfree : ((s.takeBlocks 1).setPath port { s.path port with rxAck := bits start 48 16 }).get RC_FBUF_free = _ :=
      s.takeBlocks_free 1
    generalize (s.takeBlocks 1).setPath port { s.path port with rxAck := bits start 48 16 } = v at *
    generalize hd : ({ s.path port with
      rxAck := bits start 48 16, rxPart := some ⟨bits start 36 12, bits start 22 14, 1, ws⟩ } : DPath) = d
    have hset' := v.setPath_frame port d
    have hnew : (v.setPath port d).path port = d := State.path_setPath _ _ _
    generalize v.setPath port d = u at *
    obtain ⟨honly, hcredit, -⟩ := u.sendCredit_path port
    obtain ⟨hack, -, -, -⟩ := u.creditOf_fields port
    have hlt : (u.path port).rxAck < 65536 := by
      rw [hnew, ← hd]
      exact Nat.mod_lt _ (by decide)
    have hbusy := (u.sendCredit port).busyEval_frame
    rw [State.busyEval_sendCredit hlt]
    rw [hnew] at honly hack
    refine ⟨?_, ?_, ?_, ?_, ?_⟩
    · rw [honly, ← hd]
    · rw [honly, ← hd]
    · rw [hbusy.get (by decide), (u.sendCredit_frame port).get nofun, hset'.get nofun, hfree]
    · rw [hcredit, hack, ← hd]
    · exact ((((htake.mono (by decide) (by decide)).next hset (by decide) nofun).next hset' (by decide) nofun).next
        (u.sendCredit_frame port) (by decide) nofun).next hbusy (by decide) (by decide)
  case single =>
    intro s port b start ws hport hb hstart hlane hrx hseq hlt
    have hne : s.serving port 3 ≠ [] := fun h => by simp [h] at hlane
    refine ⟨_, exec_blockReceived hport hb s, ?_⟩
    rw [blockReceived_of_block hstart hne hrx, State.blockGood_of_ahead hseq, hlane]
    rw [if_neg (by simp)]
    have hset := s.setPath_frame port { s.path port with rxNak := true }
    have hnew : (s.setPath port { s.path port with rxNak := true }).path port = { s.path port with rxNak := true } :=
      State.path_setPath _ _ _
    generalize s.setPath port { s.path port with rxNak := true } = u at *
    obtain ⟨honly, hcredit, -⟩ := u.sendCredit_path port
    obtain ⟨-, hnak, -, -⟩ := u.creditOf_fields port
    have hbusy := (u.sendCredit port).busyEval_frame
    rw [State.busyEval_sendCredit (by rw [hnew]; exact hlt)]
    rw [hnew] at honly hnak
    refine ⟨?_, ?_, ?_, ?_⟩
    · rw [honly]
    · rw [honly]
    · rw [hcredit, hnak]
      rfl
    · exact ((hset.mono (by decide) nofun).next (u.sendCredit_frame port) (by decide) nofun).next hbusy (by decide)
        (by decide)
  case bonded =>
    intro s port b start ws hport hb hstart hlane hrx hseq hlt hheld
    have hne : s.serving port 3 ≠ [] := fun h => by simp [h] at hlane
    refine ⟨_, exec_blockReceived hport hb s, ?_⟩
    rw [blockReceived_of_block hstart hne hrx, State.blockGood_of_ahead hseq, hheld]
    rw [if_pos (by simp [hlane]), if_neg (by simp)]
    have htake := s.takeBlocks_frame 1
    have hfree := s.takeBlocks_free 1
    generalize s.takeBlocks 1 = v at *
    generalize hd : ({ s.path port with rxHeld := [] ++ [(bits start 48 16, start, ws)] } : DPath) = d
    have hset := v.setPath_frame port d
    have hnew : (v.setPath port d).path port = d := State.path_setPath _ _ _
    generalize v.setPath port d = u at *
    obtain ⟨honly, -, -⟩ := u.sendCredit_path port
    have hbusy := (u.sendCredit port).busyEval_frame
    rw [State.busyEval_sendCredit (by rw [hnew, ← hd]; exact hlt)]
    rw [hnew] at honly
    refine ⟨?_, ?_, ?_, ?_, ?_⟩
    · rw [honly, ← hd]
    · rw [honly, ← hd]
    · rw [honly, ← hd]
      rfl
    · rw [hbusy.get (by decide), (u.sendCredit_frame port).get nofun, hset.get nofun, hfree]
    · exact (((htake.mono (by decide) (by decide)).next hset (by decide) nofun).next (u.sendCredit_frame port) (by decide)
        nofun).next hbusy (by decide) (by decide)
  case forwarded =>
    intro s c rest p horder hin hoff hport
    refine ⟨_, exec_mergeContribution s, ?_⟩
    rw [mergeContribution_of_first horder hin, hoff]
    simp only [Bool.false_eq_true, if_false]
    rw [State.forward_path _ _ hport]
    have hpath : (s.contribTaken rest).path p = s.path p := rfl
    rw [hpath]
    generalize hu : (s.contribTaken rest).setPath p { s.path p with fwd := (s.path p).fwd ++ [c.frag] } = u
    have hframe : Frame [.str] [] s u := hu ▸ Frame.beside (Frame.refl _ _ s)
    have hnew : u.path p = { s.path p with fwd := (s.path p).fwd ++ [c.frag] } := hu ▸ State.path_setPath _ _ _
    have hrest : u.str.mergeIn = rest ∧ u.str.merges = s.str.merges := hu ▸ ⟨rfl, rfl⟩
    refine ⟨?_, ?_, ?_, ?_⟩
    · rw [u.busyEval_str, hrest.1]
    · rw [u.busyEval_path p, hnew]
    · rw [u.busyEval_str, hrest.2]
    · exact (hframe.mono (by decide) nofun).next u.busyEval_frame (by decide) (by decide)
  case opened =>
    intro s c rest horder hon hin hnone hnew hroom hmore
    refine ⟨_, exec_mergeContribution s, ?_⟩
    rw [mergeContribution_of_first horder hin, if_pos hon,
      State.contribute_opens (s := s.contribTaken rest) hnone hnew hroom hmore]
    generalize hl : (s.contribTaken rest).str.merges ++ [⟨fragNumber c.frag.words, [c], 2 ^ c.member, false, none⟩] = l
    have hframe := (s.contribTaken rest).setMerges_frame l
    have hstr := (s.contribTaken rest).setMerges_str l
    generalize (s.contribTaken rest).setMerges l = u at *
    refine ⟨?_, ?_, ?_⟩
    · rw [u.busyEval_str, hstr]
      rfl
    · rw [u.busyEval_str, hstr, ← hl]
      rfl
    · exact (((Frame.with_str (Frame.refl _ _ s) { s.str with mergeIn := rest } (by decide)).next hframe (by decide)
        (by decide)).next u.busyEval_frame (by decide) (by decide))
  case built =>
    intro s c rest m horder hon hin hm hnum hopen hcame hall hfits
    refine ⟨_, exec_mergeContribution s, ?_⟩
    rw [mergeContribution_of_first horder hin, if_pos hon]
    obtain ⟨hrest, hmerges, hnums, hmerged, hsent, hzero, hframe⟩ :=
      State.contribute_builds (s := s.contribTaken rest) hm hnum hopen hcame hall hfits
    generalize (s.contribTaken rest).contribute c = u at *
    have hbusy := u.busyEval_frame
    refine ⟨?_, ?_, ?_, ?_, ?_, ?_, ?_⟩
    · rw [u.busyEval_str, hrest]
      rfl
    · rw [u.busyEval_str, hmerges]
    · rw [u.busyEval_str, hnums]
      rfl
    · rw [hbusy.get (by decide), hsent]
      rfl
    · rw [hbusy.get (by decide), hzero]
    · rw [u.busyEval_str, hmerged]
      rfl
    · exact (((Frame.with_str (Frame.refl _ _ s) { s.str with mergeIn := rest } (by decide)).next hframe (by decide)
        (by decide)).next u.busyEval_frame (by decide) (by decide))
  case timeout =>
    intro s n m hn hm hnum hopen
    refine ⟨_, effect_of_wf (c := .mergeTimeout n) (decide_eq_true hn) (mergeTimeout n) s, ?_⟩
    have hany : (s.str.merges.any fun m => m.number == n && m.built.isNone) = true := by simp [hm, hnum, hopen]
    have htimeout : mergeTimeout n s = (((s.mergeBuild m.number true).count FB_MERGE_CNT_timeout).raise 124).busyEval := by
      rw [mergeTimeout, if_pos hany, hnum]
    obtain ⟨-, hmerges, -, hmerged, hsent, -, hframe⟩ := State.mergeBuild_built hm hopen true
    rw [htimeout]
    generalize s.mergeBuild m.number true = v at *
    have hraised : Frame [.evReq] [FB_MERGE_CNT_timeout, MG_EVLOG_merged] v ((v.count FB_MERGE_CNT_timeout).raise 124) :=
      ((Frame.refl _ _ v).count _ 1 (by decide)).raise _ _ (by decide) (by decide)
    have hstr : ((v.count FB_MERGE_CNT_timeout).raise 124).str = v.str := by simp
    have hhas : Sparse.has 124 ((v.count FB_MERGE_CNT_timeout).raise 124).evReq = true := State.has_raise _ _ _
    have hcount : ((v.count FB_MERGE_CNT_timeout).raise 124).get FB_MERGE_CNT_timeout =
        min (v.get FB_MERGE_CNT_timeout + 1) (2 ^ FB_MERGE_CNT_timeout.width - 1) := by
      rw [State.get_raise_ne _ (by decide), State.get_count_same]
    have hsent' : ((v.count FB_MERGE_CNT_timeout).raise 124).get FB_MERGE_CNT_sent = v.get FB_MERGE_CNT_sent :=
      hraised.get (by decide)
    generalize (v.count FB_MERGE_CNT_timeout).raise 124 = u at *
    have hbusy := u.busyEval_frame
    refine ⟨?_, ?_, ?_, ?_, State.busyEval_has hhas, ?_⟩
    · rw [u.busyEval_str, hstr, hmerges]
    · rw [u.busyEval_str, hstr, hmerged]
    · rw [hbusy.get (by decide), hsent', hsent]
    · rw [hbusy.get (by decide), hcount, hframe.get (by decide)]
    · exact ((hframe.mono (by decide) (by decide)).next hraised (by decide) (by decide)).next hbusy (by decide)
        (by decide)
  case checks =>
    intro start ws hstart hpos hlen
    exact rxThrumgon_of_sent hstart hpos hlen

end Sys2Proof.Machine
end

section
/-! SUPPORT and PROOF. A symbol lock told with a latency that no lane has: LN_RX_LAT.lat holds 12 bits (R337), and the
command is ill-formed (assumption 3). -/

namespace Sys2Proof.Machine

open Sys2Proof

/-- Lane 0 hunts for symbol lock with its receiver active. -/
def laneHunting : State := State.reset.set (LN_PWR_rx_now 0) 0

/-- Refutes O31: its clause on SYMBOL_LOCK admits latencies up to 65,535, of which those from 4,096 on are no latency of
a lane; the command is ill-formed and the lane stays unlocked. -/
theorem not_lanesLockSlipAndMeasure : ¬ Obligations.LanesLockSlipAndMeasure := by
  unfold Obligations.LanesLockSlipAndMeasure
  rintro ⟨hlock, -⟩
  obtain ⟨t, ht, hon, -⟩ := hlock laneHunting 0 4096 (by decide) (by decide) (by decide) (by decide) (by decide)
  rw [exec_of_not_wf (by decide), Host.Outcome.next.injEq] at ht
  rw [← ht] at hon
  exact absurd hon (by decide)

end Sys2Proof.Machine
end

section
/-! SUPPORT and PROOF. A receiver that wakes brings back the timing/control service of its port, and with it the control
up route (R357, R378). -/

namespace Sys2Proof.Machine

open Sys2Proof

/-- Lane 0 is the timing/control lane of the primary port; its receiver wakes while the control route uses the
secondary. -/
def wakingLane : State :=
  ((State.set { State.reset with fb := { State.reset.fb with tcSec := true } } (LN_PWR_tx_now 0) 0).set
    (LN_STATUS_sym_lock 0) 1).set FB_UP_tc_pri 0

theorem exec_laneWakeDone {n : Nat} (hn : n < 48) (rx : Bool) (s : State) :
    exec (.laneWakeDone n rx) s = .next (laneWakeDone n rx s) :=
  effect_of_wf (c := .laneWakeDone n rx) (decide_eq_true hn) (laneWakeDone n rx) s

theorem wakingLane_returns : (laneWakeDone 0 true wakingLane).fb.tcSec = false := by decide +kernel

/-- Refutes O32: its clause on LANE_WAKE_DONE leaves the state of the fabric out of the frame, but the lane in service
again gives its port service, and the control route goes back to the primary port. -/
theorem not_lanesPowerFailAndRejoin : ¬ Obligations.LanesPowerFailAndRejoin := by
  unfold Obligations.LanesPowerFailAndRejoin
  rintro ⟨-, -, -, hwake, -⟩
  obtain ⟨t, ht, -, -, -, hframe⟩ := hwake wakingLane 0 true (by decide) (by decide) (by decide)
  rw [exec_laneWakeDone (by decide), Host.Outcome.next.injEq] at ht
  have hfb : t.fb = wakingLane.fb := hframe.parts .fb (by decide)
  rw [← ht] at hfb
  have hsec := wakingLane_returns
  rw [hfb] at hsec
  exact absurd hsec (by decide)

end Sys2Proof.Machine
end

section
/-! SUPPORT and PROOF. A released frame whose accept reaches the trigger engine: what arrived is part of the trigger
engine's state (R330). -/

namespace Sys2Proof.Machine

open Sys2Proof

/-- A timing/control frame with one item, an accept (type 1 in slot 0). -/
def acceptFrame : FrameIn := { header := 0, payload := 1, crcOk := true }

/-- Lane 0 serves the active control up port while machine time runs, and holds one frame. -/
def laneWithAccept : State :=
  State.setLane (((((State.set { State.reset with mt := { State.reset.mt with running := true } } (LN_STATUS_role 0) 1).set
    (LN_PWR_rx_now 0) 0).set (LN_STATUS_sym_lock 0) 1).set FB_UP_tc_pri 0).set FB_PORTS_tc_up 1) 0
    { State.reset.lane 0 with frames := [acceptFrame] }

theorem exec_frameRelease {n margin : Nat} (hn : n < 48) (hm : margin < 4096) (s : State) :
    exec (.frameRelease n margin) s = .next (frameRelease n margin s) :=
  effect_of_wf (c := .frameRelease n margin) (by simp [Instr.wf, hn, hm]) (frameRelease n margin) s

theorem laneWithAccept_arrives : (frameRelease 0 100 laneWithAccept).tg.arrived ≠ laneWithAccept.tg.arrived := by
  decide +kernel

/-- Refutes O33: its clause on the release of a timing/control frame leaves the trigger engine out of the parts that
change, but the accepts of the frame reach it. -/
theorem not_framesLeaveAndAreReleased : ¬ Obligations.FramesLeaveAndAreReleased := by
  unfold Obligations.FramesLeaveAndAreReleased
  rintro ⟨-, -, -, -, -, -, -, hrelease, -⟩
  obtain ⟨t, ht, -, -, hframe⟩ := hrelease laneWithAccept 0 100 acceptFrame (by decide) (by decide) (by decide)
    (by decide) (by decide) (by decide) (by decide)
  rw [exec_frameRelease (by decide) (by decide), Host.Outcome.next.injEq] at ht
  have htg : t.tg = laneWithAccept.tg := hframe.parts .tg (by decide)
  rw [← ht] at htg
  exact laneWithAccept_arrives (congrArg _ htg)

end Sys2Proof.Machine
end

section
/-! SUPPORT and PROOF. The queues of the ports, the routes through the routing table, and the fast commands that act here
or travel on (R368 to R371). -/

namespace Sys2Proof.Machine

open Sys2Proof

/-! ## The queues of a port -/

@[simp] theorem State.portQ_setPortQ (s : State) (p : Nat) (q : PortQ) : (s.setPortQ p q).portQ p = q :=
  Sparse.get_put_same _ _ _ _

theorem State.setPortQ_frame (s : State) (p : Nat) (q : PortQ) : Frame [.fb] [] s (s.setPortQ p q) :=
  (Frame.refl [.fb] [] s).with_fb _ (by decide)

theorem State.pushFast_of_room {s : State} {p : Nat} (h : (s.portQ p).fast.length < 64) (item from_ : Nat) :
    s.pushFast p item from_ = s.setPortQ p { s.portQ p with fast := (s.portQ p).fast ++ [(from_, item)] } :=
  if_neg (Nat.not_le.mpr h)

theorem State.pushFast_of_full {s : State} {p : Nat} (h : 64 ≤ (s.portQ p).fast.length) (item from_ : Nat) :
    s.pushFast p item from_ = (s.count FB_CNT_ct_drop).set FB_STATUS_ct_drop 1 := if_pos h

theorem State.pushMsg_of_room {s : State} {p : Nat} {items : List Nat}
    (h : (s.portQ p).msgs.foldl (fun n x => n + x.length) 0 + items.length ≤ 64) :
    s.pushMsg p items = s.setPortQ p { s.portQ p with msgs := (s.portQ p).msgs ++ [items] } :=
  if_neg (Nat.not_lt.mpr h)

theorem State.fastUp_of_queue {s : State} {p : Nat} (h : s.upQueue = some p) (item : Nat) :
    s.fastUp item = s.pushFast p item := by
  rw [State.fastUp, h]

theorem State.msgUp_of_queue {s : State} {p : Nat} (h : s.upQueue = some p) (items : List Nat) :
    s.msgUp items = s.pushMsg p items := by
  rw [State.msgUp, h]

/-! ## Routes -/

theorem State.routeTo_of_primary {s : State} {d p : Nat} (hen : s.on (FB_ROUTE_en d) = true)
    (hpri : s.get (FB_ROUTE_pri d) = p) (hserves : s.tcHas p = true) (hsec : s.on (FB_ROUTE_use_sec d) = false) :
    s.routeTo d = (some p, s) := by
  simp [State.routeTo, hen, hpri, hserves, hsec]

theorem State.routeTo_of_off {s : State} {d : Nat} (hen : s.on (FB_ROUTE_en d) = false) :
    s.routeTo d = (none, s.routeMiss) := by
  simp [State.routeTo, hen]

theorem State.downPorts_of_single {s : State} {p : Nat} (hp : p < 6) (h : s.get FB_DOWN_ports = 2 ^ p) :
    s.downPorts = [p] := by
  rw [State.downPorts, h]
  interval_cases p <;> decide

/-! ## Fast commands -/

section
variable {s : State} {w : FastIn} {code : Nat} (hcode : fcCode w.item = code) (hdir : bit w.item 55 = false)
  (haddr : s.on FB_ADDR_valid = true)
include hcode hdir haddr

theorem State.fastCmd_of_here (hone : bit w.item 54 = false) (hme : bits w.item 32 12 = s.get FB_ADDR_addr)
    (act : State → State) : s.fastCmd w code act = act s := by
  simp [State.fastCmd, hcode, hdir, haddr, hone, hme]

theorem State.fastCmd_of_away {d p : Nat} (hone : bit w.item 54 = false) (hd : bits w.item 32 12 = d)
    (haway : d ≠ s.get FB_ADDR_addr) (hen : s.on (FB_ROUTE_en d) = true) (hpri : s.get (FB_ROUTE_pri d) = p)
    (hserves : s.tcHas p = true) (hsec : s.on (FB_ROUTE_use_sec d) = false) (hroom : (s.portQ p).fast.length < 64)
    (act : State → State) :
    s.fastCmd w code act = s.setPortQ p { s.portQ p with fast := (s.portQ p).fast ++ [(0, w.item)] } := by
  have hroute := State.routeTo_of_primary hen hpri hserves hsec
  simp [State.fastCmd, hcode, hdir, haddr, hone, hd, haway, hroute, State.pushFast_of_room hroom]

theorem State.fastCmd_of_broadcast {p : Nat} (hall : bit w.item 54 = true) (hp : p < 6)
    (hdown : s.get FB_DOWN_ports = 2 ^ p) (hup : s.upPort = some w.port) (act : State → State) :
    s.fastCmd w code act = (act s).pushFast p w.item (act s).nextFrame := by
  simp [State.fastCmd, hcode, hdir, haddr, hall, hup, State.downPorts_of_single hp hdown]

end

theorem State.forwardReport_of_queue {s : State} {w code p : Nat} (hcode : fcCode w = code) (hdir : bit w 55 = true)
    (haddr : s.on FB_ADDR_valid = true) (hup : s.upQueue = some p) :
    s.forwardReport w code = s.pushFast p w := by
  simp [State.forwardReport, hcode, hdir, haddr, State.fastUp_of_queue hup]

section
variable {w : FastIn} (hw : w.wf = true) (s : State)
include hw

theorem exec_fcMtLoad : exec (.fcMtLoad w) s =
    .next (s.fastCmd w 1 fun s => mtLoad (s.set CX_MT_LOAD_ORBIT_orbit (fcArg w.item))) :=
  effect_of_wf (c := .fcMtLoad w) hw (fcMtLoad w) s

theorem exec_startAcquisition : exec (.startAcquisition w) s =
    .next (s.fastCmd w 2 fun s => s.acqFast (fcArg w.item) State.acqStartAt) :=
  effect_of_wf (c := .startAcquisition w) hw (startAcquisition w) s

theorem exec_stopAcquisition : exec (.stopAcquisition w) s =
    .next (s.fastCmd w 3 fun s => s.acqFast (fcArg w.item) State.acqStopAt) :=
  effect_of_wf (c := .stopAcquisition w) hw (stopAcquisition w) s

theorem exec_forceFreeze : exec (.forceFreeze w) s = .next (s.fastCmd w 4 freezeForce) :=
  effect_of_wf (c := .forceFreeze w) hw (forceFreeze w) s

theorem exec_histogramSwap : exec (.histogramSwap w) s = .next (s.fastCmd w 5 histSwapWrite) :=
  effect_of_wf (c := .histogramSwap w) hw (histogramSwap w) s

end

theorem exec_frameGap {port w : Nat} (hport : port < 6) (hw : w < 2 ^ 64) (s : State) :
    exec (.frameGap port w) s = .next (s.forwardReport w 0x10) :=
  effect_of_wf (c := .frameGap port w) (by simpa [Instr.wf, hport] using hw) (frameGap w) s

theorem exec_acceptLost {port w : Nat} (hport : port < 6) (hw : w < 2 ^ 64) (s : State) :
    exec (.acceptLost port w) s = .next (s.forwardReport w 0x11) :=
  effect_of_wf (c := .acceptLost port w) (by simpa [Instr.wf, hport] using hw) (acceptLost w) s

/-! ## Requests for acquisition -/

theorem State.acqStartAt_of_accepted {s : State} (hidle : s.get CX_ACQ_STATUS_state < 2) (hcause : s.acqCause = none)
    (o : Nat) : s.acqStartAt o = (s.set CX_ACQ_STATUS_state 1).set CX_ACQ_ORBIT_orbit o := by
  obtain h | h : s.get CX_ACQ_STATUS_state = 0 ∨ s.get CX_ACQ_STATUS_state = 1 := by omega
  all_goals simp [State.acqStartAt, h, hcause]

theorem State.acqStopAt_of_acquiring {s : State} (h : s.acq = true) (o : Nat) :
    s.acqStopAt o = (s.set CX_ACQ_STATUS_state 3).set CX_ACQ_ORBIT_orbit o := by
  have hstate : 2 ≤ s.get CX_ACQ_STATUS_state := by
    simp only [State.acq, Bool.or_eq_true, beq_iff_eq] at h
    omega
  unfold State.acqStopAt
  split
  · omega
  · omega
  · rfl

theorem State.acqStopAt_of_off {s : State} (h : s.get CX_ACQ_STATUS_state = 0) (o : Nat) : s.acqStopAt o = s := by
  simp only [State.acqStopAt, h]

theorem State.acqFast_of_ahead {s : State} {o : Nat} (h : 0 < diffBkt s.mt.nb (o, 0) s.now) (f : State → Nat → State) :
    s.acqFast o f = f s o := if_pos h

theorem State.acqFast_of_begun {s : State} {o : Nat} (h : diffBkt s.mt.nb (o, 0) s.now ≤ 0)
    (f : State → Nat → State) : s.acqFast o f = f (s.count FB_CNT_fc_late) ((s.mt.orbit + 1) % 2 ^ 32) :=
  if_neg (Int.not_lt.mpr h)

theorem State.acqCause_count (s : State) : (s.count FB_CNT_fc_late).acqCause = s.acqCause := by
  have hget (f : Fld) (h : f.key ≠ FB_CNT_fc_late.key := by decide) : (s.count FB_CNT_fc_late).get f = s.get f :=
    State.get_count_ne s h 1
  simp only [State.acqCause, State.on, hget CX_PLATE_STATUS_state, hget CX_MT_STATUS_mt_valid,
    hget CX_HQ_STATUS_store_ready, hget CX_HQ_STATUS_flushing, hget RC_FREEZE_STATUS_state, hget OVN_STATUS_ready,
    State.count_mt]
  rfl

/-- A forced freeze moves neither the bucket count nor machine time. -/
theorem freezeForce_nextFrame (s : State) : (freezeForce s).nextFrame = s.nextFrame := by
  unfold freezeForce
  split
  next => simp [State.nextFrame, State.freezeTrigger]
  next => rfl

/-- Settles O36: each clause reads the one branch of the command's route that its hypotheses choose. -/
theorem fastCommandsActOrTravelOn : Obligations.FastCommandsActOrTravelOn := by
  unfold Obligations.FastCommandsActOrTravelOn
  refine ⟨?_, ?_, ?_, ?_, ?_, ?_, ?_, ?_, ?_, ?_, ?_, ?_, ?_, ?_, ?_, ?_, ?_⟩
  · intro s w hw hcode hdir haddr hone hme
    rw [exec_fcMtLoad hw, State.fastCmd_of_here hcode hdir haddr hone hme]
  · intro s w hw hcode hdir haddr hone hme
    rw [exec_forceFreeze hw, State.fastCmd_of_here hcode hdir haddr hone hme]
  · intro s w hw hcode hdir haddr hone hme
    rw [exec_histogramSwap hw, State.fastCmd_of_here hcode hdir haddr hone hme]
  · intro s w hw hcode hdir haddr hone hme hahead hidle hcause
    rw [exec_startAcquisition hw, State.fastCmd_of_here hcode hdir haddr hone hme, State.acqFast_of_ahead hahead,
      State.acqStartAt_of_accepted hidle hcause]
  · intro s w hw hcode hdir haddr hone hme hbegun hidle hcause
    have hidle' : (s.count FB_CNT_fc_late).get CX_ACQ_STATUS_state < 2 := by
      rw [State.get_count_ne s (by decide)]; exact hidle
    rw [exec_startAcquisition hw, State.fastCmd_of_here hcode hdir haddr hone hme, State.acqFast_of_begun hbegun,
      State.acqStartAt_of_accepted hidle' (s.acqCause_count.trans hcause)]
  · intro s w hw hcode hdir haddr hone hme hahead hacq
    rw [exec_stopAcquisition hw, State.fastCmd_of_here hcode hdir haddr hone hme, State.acqFast_of_ahead hahead,
      State.acqStopAt_of_acquiring hacq]
  · intro s w hw hcode hdir haddr hone hme hoff hahead
    rw [exec_stopAcquisition hw, State.fastCmd_of_here hcode hdir haddr hone hme, State.acqFast_of_ahead hahead,
      State.acqStopAt_of_off hoff]
  · intro s w d p hw hcode hdir haddr hone hd haway hen hpri hserves hsec hroom
    rw [exec_fcMtLoad hw, State.fastCmd_of_away hcode hdir haddr hone hd haway hen hpri hserves hsec hroom]
  · intro s w d p hw hcode hdir haddr hone hd haway hen hpri hserves hsec hroom
    rw [exec_startAcquisition hw, State.fastCmd_of_away hcode hdir haddr hone hd haway hen hpri hserves hsec hroom]
  · intro s w d p hw hcode hdir haddr hone hd haway hen hpri hserves hsec hroom
    rw [exec_stopAcquisition hw, State.fastCmd_of_away hcode hdir haddr hone hd haway hen hpri hserves hsec hroom]
  · intro s w d p hw hcode hdir haddr hone hd haway hen hpri hserves hsec hroom
    rw [exec_forceFreeze hw, State.fastCmd_of_away hcode hdir haddr hone hd haway hen hpri hserves hsec hroom]
  · intro s w d p hw hcode hdir haddr hone hd haway hen hpri hserves hsec hroom
    rw [exec_histogramSwap hw, State.fastCmd_of_away hcode hdir haddr hone hd haway hen hpri hserves hsec hroom]
  · intro s w p hw hcode hdir haddr hall hdown hp hup
    rw [exec_forceFreeze hw, State.fastCmd_of_broadcast hcode hdir haddr hall hp hdown hup, freezeForce_nextFrame]
  · intro s port w p hport hw hcode hdir haddr hup hroom
    rw [exec_frameGap hport hw, State.forwardReport_of_queue hcode hdir haddr hup, State.pushFast_of_room hroom]
  · intro s port w p hport hw hcode hdir haddr hup hfull
    rw [exec_frameGap hport hw, State.forwardReport_of_queue hcode hdir haddr hup, State.pushFast_of_full hfull]
  · intro s port w p hport hw hcode hdir haddr hup hroom
    rw [exec_acceptLost hport hw, State.forwardReport_of_queue hcode hdir haddr hup, State.pushFast_of_room hroom]
  · intro s port w p hport hw hcode hdir haddr hup hfull
    rw [exec_acceptLost hport hw, State.forwardReport_of_queue hcode hdir haddr hup, State.pushFast_of_full hfull]

end Sys2Proof.Machine
end

section
/-! SUPPORT and PROOF. Discovery: probes, assignments and the relayed discovery (R361 to R366). -/

namespace Sys2Proof.Machine

open Sys2Proof

@[simp] theorem State.lane_setLane (s : State) (n : Nat) (l : Lane) : (s.setLane n l).lane n = l :=
  Sparse.get_put_same _ _ _ _

theorem State.setLane_frame (s : State) (n : Nat) (l : Lane) : Frame [.lanes] [] s (s.setLane n l) :=
  (Frame.refl [.lanes] [] s).with_lanes _ (by decide)

/-! ## Probes and assignments -/

section
variable {n : Nat} {m : CtMsg} (hn : n < 48) (hm : m.wf = true) (s : State)
include hn hm

theorem exec_probe : exec (.probe n m) s = .next (probe n m s) :=
  effect_of_wf (c := .probe n m) (by simp [Instr.wf, hn, hm]) (probe n m) s

theorem exec_assign : exec (.assign n m) s = .next (assign n m s) :=
  effect_of_wf (c := .assign n m) (by simp [Instr.wf, hn, hm]) (assign n m) s

end

theorem exec_discProbe {p : Nat} (hp : p < 6) (s : State) : exec (.discProbe p) s = .next (discProbe p s) :=
  effect_of_wf (c := .discProbe p) (decide_eq_true hp) (discProbe p) s

theorem exec_discAssign {p : Nat} (hp : p < 6) (s : State) : exec (.discAssign p) s = .next (discAssign p s) :=
  effect_of_wf (c := .discAssign p) (decide_eq_true hp) (discAssign p) s

theorem exec_probeAnswer {p : Nat} {m : CtMsg} (hp : p < 6) (hm : m.wf = true) (s : State) :
    exec (.probeAnswer p m) s = .next (probeAnswer p m s) :=
  effect_of_wf (c := .probeAnswer p m) (by simp [Instr.wf, hp, hm]) (probeAnswer p m) s

/-- The control route is on its primary port. -/
def State.onPrimary (s : State) : State := { s with fb := { s.fb with tcSec := false } }

theorem State.onPrimary_get (s : State) (f : Fld) : s.onPrimary.get f = s.get f := rfl

/-- The address that an assignment gives, with its depth and the primary control up port (R365). -/
def State.addressed (s : State) (n w : Nat) : State :=
  (((s.set FB_ADDR_addr (bits w 52 12)).set FB_ADDR_depth (bits w 46 6)).set FB_ADDR_valid 1).onPrimary.set
    FB_UP_tc_pri (n / 8)

/-- The critical words of the address have a new value, and EV 118 is raised. -/
def State.addressKept (s : State) : State := ((s.critNext 45).critNext 46).raise 118

/-- An assignment for this die outside acquisition, or before it has an address. -/
theorem assign_of_taken {n : Nat} {m : CtMsg} {s : State} (hop : isOp m 6 = true) (hrole : s.role n = 1)
    (hserial : m.body.getD 0 0 = Config.dieSerial.toNat) (hfree : s.on FB_ADDR_valid = false ∨ s.acq = false) :
    assign n m s = (s.addressed n (m.body.getD 1 0)).addressKept.answerProbe n (ctTag m.head) := by
  have hfree' : (!s.on FB_ADDR_valid || !s.acq) = true := by simpa using hfree
  simp only [assign, hop, hrole, hserial, hfree', Bool.not_true, Bool.false_eq_true, ne_eq, not_true_eq_false, or_self,
    if_false, if_true]
  rfl

theorem State.addressed_frame (s : State) (n w : Nat) : Frame [.fb]
    [FB_ADDR_addr, FB_ADDR_depth, FB_ADDR_valid, FB_UP_tc_pri] s (s.addressed n w) := by
  have hset : Frame [.fb] [FB_ADDR_addr, FB_ADDR_depth, FB_ADDR_valid, FB_UP_tc_pri] s
      (((s.set FB_ADDR_addr (bits w 52 12)).set FB_ADDR_depth (bits w 46 6)).set FB_ADDR_valid 1) :=
    (((Frame.refl _ _ s).set _ _ (by decide)).set _ _ (by decide)).set _ _ (by decide)
  exact hset.beside.set _ _ (by decide)

theorem State.answerProbe_frame (s : State) (n tag : Nat) : Frame [.lanes] [] s (s.answerProbe n tag) :=
  s.setLane_frame n _

theorem bits_zero (v n : Nat) : bits v 0 n = v % 2 ^ n := by rw [bits, pow_zero, Nat.div_one]

theorem bits_lt (v lo n : Nat) : bits v lo n < 2 ^ n := Nat.mod_lt _ (Nat.two_pow_pos n)

theorem State.addressed_fields (s : State) {n : Nat} (hn : n < 48) (w : Nat) :
    (s.addressed n w).get FB_ADDR_addr = bits w 52 12 ∧ (s.addressed n w).get FB_ADDR_depth = bits w 46 6 ∧
      (s.addressed n w).get FB_ADDR_valid = 1 ∧ (s.addressed n w).get FB_UP_tc_pri = n / 8 ∧
      (s.addressed n w).fb.tcSec = false := by
  have haddr : bits w 52 12 < 2 ^ 12 := bits_lt ..
  have hdepth : bits w 46 6 < 2 ^ 6 := bits_lt ..
  have hport : n / 8 < 2 ^ 4 := by omega
  unfold State.addressed
  simp (disch := decide) only [State.get_set_ne, State.onPrimary_get, State.get_set_same]
  exact ⟨Nat.mod_eq_of_lt haddr, Nat.mod_eq_of_lt hdepth, rfl, Nat.mod_eq_of_lt hport, rfl⟩

theorem State.critNext_frame (s : State) (w : Nat) : Frame [.prot] [] s (s.critNext w) :=
  (Frame.refl [.prot] [] s).with_prot _ (by decide)

theorem State.addressKept_frame (s : State) : Frame [.prot, .evReq] [MG_EVLOG_merged] s s.addressKept := by
  have htags := (s.critNext_frame 45).trans ((s.critNext 45).critNext_frame 46)
  exact (htags.mono (by decide) nofun).raise _ _ (by decide) (by decide)

/-- An assignment that is taken shows its address, and answers as a probe does. -/
theorem State.addressed_answers (s : State) {n : Nat} (hn : n < 48) (w tag : Nat) :
    let t := (s.addressed n w).addressKept.answerProbe n tag
    t.get FB_ADDR_addr = bits w 52 12 ∧ t.get FB_ADDR_depth = bits w 46 6 ∧ t.get FB_ADDR_valid = 1 ∧
      t.get FB_UP_tc_pri = n / 8 ∧ t.fb.tcSec = false ∧ Sparse.has 118 t.evReq = true ∧
      (t.lane n).answers.length = (s.lane n).answers.length + 1 ∧ Frame [.lanes, .fb, .evReq, .prot] [FB_ADDR_addr,
        FB_ADDR_depth, FB_ADDR_valid, FB_UP_tc_pri, MG_EVLOG_merged] s t := by
  obtain ⟨haddr, hdepth, hvalid, hport, hsec⟩ := s.addressed_fields hn w
  have hframe := s.addressed_frame n w
  have hkept := (s.addressed n w).addressKept_frame
  have hevent : Sparse.has 118 (s.addressed n w).addressKept.evReq = true := State.has_raise ..
  have hanswer := (s.addressed n w).addressKept.answerProbe_frame n tag
  have hlanes : (s.lane n).answers = ((s.addressed n w).addressKept.lane n).answers := by
    rw [State.lane, State.lane, hkept.parts .lanes (by decide), hframe.parts .lanes (by decide)]
  have hget (f : Fld) (hf : f.key ≠ MG_EVLOG_merged.key) :
      ((s.addressed n w).addressKept.answerProbe n tag).get f = (s.addressed n w).get f :=
    (hanswer.get (by simp)).trans (hkept.get (by simpa using hf))
  refine ⟨(hget FB_ADDR_addr (by decide)).trans haddr, (hget FB_ADDR_depth (by decide)).trans hdepth,
    (hget FB_ADDR_valid (by decide)).trans hvalid, (hget FB_UP_tc_pri (by decide)).trans hport, ?_, hevent, ?_, ?_⟩
  · rw [hanswer.parts .fb (by decide), hkept.parts .fb (by decide), hsec]
  · rw [State.answerProbe, State.lane_setLane, hlanes, List.length_append]; rfl
  · exact ((hframe.mono (by decide) (by decide)).trans (hkept.mono (by decide) (by decide))).trans
      (hanswer.mono (by decide) nofun)

/-! ## Relayed discoveries -/

/-- The state of a relayed discovery that waits for its answer (R366). -/
def State.discovering (s : State) (port op : Nat) : State :=
  ((s.set FB_DISC_CTRL_port port).set FB_DISC_CTRL_op op).set FB_DISC_CTRL_state 1

theorem State.discGo_of_sent {s : State} {p : Nat} (hlanes : s.tcLanes p = true) (hserves : s.tcHas p = true)
    (haddr : s.on FB_ADDR_valid = true) (hidle : s.get FB_DISC_CTRL_state ≠ 1) {msg : List Nat}
    (hroom : (s.portQ p).msgs.foldl (fun n x => n + x.length) 0 + msg.length ≤ 64) (op : Nat) :
    s.discGo p op msg = (s.discovering p op).setPortQ p { s.portQ p with msgs := (s.portQ p).msgs ++ [msg] } := by
  have hserves' : (s.discovering p op).tcHas p = true := by
    simpa only [State.tcHas, State.discovering, State.get_set_ne _ (show FB_PORTS_tc_up.key ≠ FB_DISC_CTRL_port.key by
      decide), State.get_set_ne _ (show FB_PORTS_tc_up.key ≠ FB_DISC_CTRL_op.key by decide), State.get_set_ne _ (show
      FB_PORTS_tc_up.key ≠ FB_DISC_CTRL_state.key by decide)] using hserves
  unfold State.discGo
  rw [if_neg (by simp [hlanes, haddr, hidle])]
  exact (if_pos hserves').trans (State.pushMsg_of_room hroom)

theorem State.discGo_of_refused {s : State} {p : Nat}
    (h : s.tcLanes p = false ∨ s.on FB_ADDR_valid = false ∨ s.get FB_DISC_CTRL_state = 1) (op : Nat) (msg : List Nat) :
    s.discGo p op msg = s.flag FB_STATUS_refused 127 := by
  unfold State.discGo
  rw [if_pos (by rcases h with h | h | h <;> simp [h])]
  rfl

/-- The answer to a probe is stored (R366). -/
def State.probeStored (s : State) (serial w : Nat) : State :=
  (((s.set FB_DISC_ANS_LO_serial serial).set FB_DISC_ANS_HI_serial (serial / 2 ^ 32)).set FB_DISC_INFO_info w).set
    FB_DISC_CTRL_state 2

/-- The address of a confirmed assignment enters the routing table (R366). -/
def State.routeEntered (s : State) (d port : Nat) : State :=
  (((s.set (FB_ROUTE_en d) 1).set (FB_ROUTE_pri d) port).set (FB_ROUTE_sec d) 0xF).set (FB_ROUTE_use_sec d) 0

section
variable {s : State} {p serial info : Nat} {m : CtMsg} (hop : isOp m 5 = true) (hbody : m.body = [serial, info])
  (hstate : s.get FB_DISC_CTRL_state = 1) (hport : s.get FB_DISC_CTRL_port = p)
include hop hbody hstate hport

theorem probeAnswer_of_probe (hprobe : s.get FB_DISC_CTRL_op = 0) :
    probeAnswer p m s = (s.probeStored serial info).raise 119 := by
  unfold probeAnswer
  simp only [hop, hbody, hstate, hport, hprobe, if_true, if_false, ne_eq, not_true_eq_false, or_self, Bool.not_true,
    Bool.false_eq_true]
  rfl

theorem probeAnswer_of_confirmed {d : Nat} (hassign : s.get FB_DISC_CTRL_op ≠ 0) (hd : d = s.get FB_DISC_ASSIGN_addr)
    (hvalid : bit info 15 = true) (hsame : info % 2 ^ 12 = d) (hen : s.on (FB_ROUTE_en d) = false) :
    probeAnswer p m s = ((s.set FB_DISC_CTRL_state 4).routeEntered d p).raise 119 := by
  have hen' : (s.set FB_DISC_CTRL_state 4).on (FB_ROUTE_en d) = false := by
    rw [State.on_set_ne s (by simp only [Fld.key, FB_ROUTE_en, FB_DISC_CTRL_state]; omega)]; exact hen
  have hok : (bit info 15 && bits info 0 12 == d) = true := by
    rw [bits_zero, hsame, hvalid]
    simp
  unfold probeAnswer
  simp only [hop, hbody, hstate, hport, hassign, List.getD_cons_succ, List.getD_cons_zero, ← hd, hok, hen', if_true,
    if_false, ne_eq, not_true_eq_false, or_self, Bool.not_true, Bool.false_eq_true]
  rfl

theorem probeAnswer_of_denied (hassign : s.get FB_DISC_CTRL_op ≠ 0)
    (hno : bit info 15 = false ∨ info % 2 ^ 12 ≠ s.get FB_DISC_ASSIGN_addr) :
    probeAnswer p m s = (s.set FB_DISC_CTRL_state 5).raise 119 := by
  have hbad : (bit info 15 && bits info 0 12 == s.get FB_DISC_ASSIGN_addr) = false := by
    rw [bits_zero]
    rcases hno with h | h
    · rw [h, Bool.false_and]
    · rw [beq_false_of_ne h, Bool.and_false]
  unfold probeAnswer
  simp only [hop, hbody, hstate, hport, hassign, List.getD_cons_succ, List.getD_cons_zero, hbad, if_false, ne_eq,
    not_true_eq_false, or_self, Bool.not_true, Bool.false_eq_true]

end

theorem isOp_length {m : CtMsg} {op : Nat} (h : isOp m op = true) : m.body.length = opLen op := by
  simp only [isOp, Bool.and_eq_true, beq_iff_eq] at h
  exact h.2

theorem CtMsg.wf_body {m : CtMsg} (h : m.wf = true) {w : Nat} (hw : w ∈ m.body) : w < 2 ^ 64 := by
  simp only [CtMsg.wf, Bool.and_eq_true, List.all_eq_true, decide_eq_true_eq] at h
  exact h.2 w hw

theorem State.probeStored_frame (s : State) (serial w : Nat) : Frame []
    [FB_DISC_ANS_LO_serial, FB_DISC_ANS_HI_serial, FB_DISC_INFO_info, FB_DISC_CTRL_state] s (s.probeStored serial w) :=
  ((((Frame.refl _ _ s).set _ _ (by decide)).set _ _ (by decide)).set _ _ (by decide)).set _ _ (by decide)

theorem State.probeStored_fields (s : State) (serial w : Nat) :
    (s.probeStored serial w).get FB_DISC_ANS_LO_serial = serial % 2 ^ 32 ∧
      (s.probeStored serial w).get FB_DISC_ANS_HI_serial = serial / 2 ^ 32 % 2 ^ 32 ∧
      (s.probeStored serial w).get FB_DISC_INFO_info = w % 2 ^ 32 ∧
      (s.probeStored serial w).get FB_DISC_CTRL_state = 2 := by
  unfold State.probeStored
  simp (disch := decide) only [State.get_set_ne, State.get_set_same]
  exact ⟨rfl, rfl, rfl, rfl⟩

theorem State.routeEntered_frame (s : State) (d port : Nat) : Frame []
    [FB_ROUTE_en d, FB_ROUTE_pri d, FB_ROUTE_sec d, FB_ROUTE_use_sec d] s (s.routeEntered d port) :=
  ((((Frame.refl _ _ s).set _ _ (by simp)).set _ _ (by simp)).set _ _ (by simp)).set _ _ (by simp)

theorem State.routeEntered_fields (s : State) (d : Nat) {port : Nat} (hport : port < 6) :
    (s.routeEntered d port).get (FB_ROUTE_en d) = 1 ∧ (s.routeEntered d port).get (FB_ROUTE_pri d) = port ∧
      (s.routeEntered d port).get (FB_ROUTE_sec d) = 15 ∧ (s.routeEntered d port).get (FB_ROUTE_use_sec d) = 0 := by
  have hkeys : (FB_ROUTE_en d).key ≠ (FB_ROUTE_pri d).key ∧ (FB_ROUTE_en d).key ≠ (FB_ROUTE_sec d).key ∧
      (FB_ROUTE_en d).key ≠ (FB_ROUTE_use_sec d).key ∧ (FB_ROUTE_pri d).key ≠ (FB_ROUTE_sec d).key ∧
      (FB_ROUTE_pri d).key ≠ (FB_ROUTE_use_sec d).key ∧ (FB_ROUTE_sec d).key ≠ (FB_ROUTE_use_sec d).key := by
    simp only [Fld.key, FB_ROUTE_en, FB_ROUTE_pri, FB_ROUTE_sec, FB_ROUTE_use_sec]
    omega
  obtain ⟨henPri, henSec, henUse, hpriSec, hpriUse, hsecUse⟩ := hkeys
  unfold State.routeEntered
  refine ⟨?_, ?_, ?_, ?_⟩
  · rw [State.get_set_ne _ henUse, State.get_set_ne _ henSec, State.get_set_ne _ henPri, State.get_set_same]; rfl
  · rw [State.get_set_ne _ hpriUse, State.get_set_ne _ hpriSec, State.get_set_same]
    exact Nat.mod_eq_of_lt (by simp only [FB_ROUTE_pri]; omega)
  · rw [State.get_set_ne _ hsecUse, State.get_set_same]; rfl
  · rw [State.get_set_same]; rfl

/-- Settles O35: a message that is taken changes what its branch names, an answer or a time-out moves the state of the
discovery under way. -/
theorem discoveryAnswersAndAssigns : Obligations.DiscoveryAnswersAndAssigns := by
  unfold Obligations.DiscoveryAnswersAndAssigns
  refine ⟨?_, ?_, ?_, ?_, ?_, ?_, ?_, ?_, ?_, ?_, ?_, ?_, ?_, ?_⟩
  · intro s n m hn hm hop hrole
    rw [exec_probe hn hm, probe, hop, if_neg (by decide), if_pos hrole]
    rfl
  · intro s n m hn hm hop hrole
    rw [exec_probe hn hm, probe, hop, if_neg (by decide), if_neg hrole]
  · intro s n m hn hm hop hrole hserial hfree
    have hserial' : m.body.getD 0 0 = Config.dieSerial.toNat := by
      rw [List.getD_eq_getElem?_getD, ← List.head?_eq_getElem?, hserial]; rfl
    refine ⟨_, exec_assign hn hm s, ?_⟩
    rw [assign_of_taken hop hrole hserial' hfree]
    exact s.addressed_answers hn _ _
  · intro s n m hn hm hop hserial
    have hserial' : m.body.getD 0 0 ≠ Config.dieSerial.toNat := by
      have hlen := isOp_length hop
      match hbody : m.body with
      | [] => rw [hbody] at hlen; exact absurd hlen (by decide)
      | w :: ws => rw [hbody] at hserial; simpa using hserial
    rw [exec_assign hn hm, assign, hop, if_neg (by decide), if_pos (.inr hserial')]
  · intro s p hp hlanes hserves haddr hidle hroom
    rw [exec_discProbe hp, discProbe, State.discGo_of_sent hlanes hserves haddr hidle (by simpa using hroom)]
    rfl
  · intro s p hp hlanes hserves haddr hidle hroom
    rw [exec_discAssign hp, discAssign, State.discGo_of_sent hlanes hserves haddr hidle (by simpa using hroom)]
    rfl
  · intro s p hp h
    rw [exec_discProbe hp, discProbe, State.discGo_of_refused h]
  · intro s p hp h
    rw [exec_discAssign hp, discAssign, State.discGo_of_refused h]
  · intro s p serial info m hp hm hop hbody hstate hport hprobe
    have hserial : serial < 2 ^ 64 := CtMsg.wf_body hm (by rw [hbody]; simp)
    obtain ⟨hlo, hhi, hinfo, hdone⟩ := s.probeStored_fields serial info
    have hframe := s.probeStored_frame serial info
    refine ⟨_, exec_probeAnswer hp hm s, ?_⟩
    rw [probeAnswer_of_probe hop hbody hstate hport hprobe]
    generalize s.probeStored serial info = a at hlo hhi hinfo hdone hframe ⊢
    have hget (f : Fld) (hf : f.key ≠ MG_EVLOG_merged.key) : (a.raise 119).get f = a.get f :=
      State.get_raise_ne a hf _ _
    have hhi' : serial / 2 ^ 32 % 2 ^ 32 = serial / 2 ^ 32 := Nat.mod_eq_of_lt (by omega)
    refine ⟨(hget FB_DISC_ANS_LO_serial (by decide)).trans hlo,
      (hget FB_DISC_ANS_HI_serial (by decide)).trans (hhi.trans hhi'), (hget FB_DISC_INFO_info (by decide)).trans hinfo,
      (hget FB_DISC_CTRL_state (by decide)).trans hdone, State.has_raise .., ?_⟩
    exact (hframe.mono nofun (by decide)).raise _ _ (by decide) (by decide)
  · intro s p serial info d m hp hm hop hbody hstate hport hassign hd hvalid hsame hen
    refine ⟨_, exec_probeAnswer hp hm s, ?_⟩
    rw [probeAnswer_of_confirmed hop hbody hstate hport hassign hd hvalid hsame hen]
    have hset : Frame [] [FB_DISC_CTRL_state] s (s.set FB_DISC_CTRL_state 4) := (Frame.refl _ _ s).set _ _ (by decide)
    have hdone : (s.set FB_DISC_CTRL_state 4).get FB_DISC_CTRL_state = 4 := State.get_set_same ..
    generalize s.set FB_DISC_CTRL_state 4 = a at hset hdone ⊢
    obtain ⟨hen', hpri, hsec, huse⟩ := a.routeEntered_fields d hp
    have hroute := a.routeEntered_frame d p
    have hdone' : (a.routeEntered d p).get FB_DISC_CTRL_state = 4 := by
      refine (hroute.get ?_).trans hdone
      simp only [List.forall_mem_cons, Fld.key, FB_ROUTE_en, FB_ROUTE_pri, FB_ROUTE_sec, FB_ROUTE_use_sec,
        FB_DISC_CTRL_state, List.not_mem_nil, false_implies, implies_true, and_true]
      omega
    generalize a.routeEntered d p = b at hen' hpri hsec huse hroute hdone' ⊢
    have hget (f : Fld) (hf : f.key ≠ MG_EVLOG_merged.key) : (b.raise 119).get f = b.get f :=
      State.get_raise_ne b hf _ _
    refine ⟨(hget FB_DISC_CTRL_state (by decide)).trans hdone', (hget _ ?_).trans hen', (hget _ ?_).trans hpri, (hget _ ?_).trans hsec,
      (hget _ ?_).trans huse, State.has_raise .., ?_⟩
    · simp only [Fld.key, FB_ROUTE_en, MG_EVLOG_merged]; omega
    · simp only [Fld.key, FB_ROUTE_pri, MG_EVLOG_merged]; omega
    · simp only [Fld.key, FB_ROUTE_sec, MG_EVLOG_merged]; omega
    · simp only [Fld.key, FB_ROUTE_use_sec, MG_EVLOG_merged]; omega
    · exact ((hset.mono nofun (by simp)).trans (hroute.mono nofun (by simp))).raise _ _ (by decide) (by simp)
  · intro s p serial info m hp hm hop hbody hstate hport hassign hno
    rw [exec_probeAnswer hp hm, probeAnswer_of_denied hop hbody hstate hport hassign hno]
  · intro s p m hp hm hop hno
    rw [exec_probeAnswer hp hm, probeAnswer, hop, if_neg (by decide), if_pos hno]
  · intro s hstate
    exact (effect_of_wf (c := .discTimeout) rfl discTimeout s).trans (congrArg _ (if_pos hstate))
  · intro s hstate
    exact effect_of_fixed (f := discTimeout) (if_neg hstate) .discTimeout

end Sys2Proof.Machine
end

section
/-! SUPPORT and PROOF. Control messages: requests served here, forwarded or answered in error, responses on their way to
the root (R361, R368, R543 to R548). -/

namespace Sys2Proof.Machine

open Sys2Proof

/-! ## Transactions -/

/-- What an error record changes beside the answer (R548, R553). -/
def errorRecord : List Fld := [CX_CT_ERR_ADDR_addr, CX_CT_ERR_path, CX_CT_ERR_status, CX_CT_ERR_block, CX_CT_ERR_count,
  CX_CT_ERR_err, MG_EVLOG_merged]

theorem State.txnError_lt (s : State) (t : Txn) : s.txnError t < 5 := by
  unfold State.txnError
  dsimp only
  split_ifs <;> decide

theorem State.ctError_frame (s : State) (p : Path) (code a : Nat) :
    Frame [.evReq] errorRecord s (s.ctError p code a) :=
  (((((((Frame.refl _ _ s).set _ _ (by decide)).set _ _ (by decide)).set _ _ (by decide)).set _ _ (by decide)).count _ _
    (by decide)).flag _ _ _ (by decide) (by decide) (by decide))

theorem State.ctError_fields (s : State) (p : Path) {code : Nat} (hcode : code < 16) (a : Nat) :
    (s.ctError p code a).get CX_CT_ERR_status = code ∧ (s.ctError p code a).get CX_CT_ERR_count =
      min (s.get CX_CT_ERR_count + 1) (2 ^ CX_CT_ERR_count.width - 1) := by
  unfold State.ctError
  dsimp only
  simp (disch := decide) only [State.get_flag_ne, State.get_count_ne, State.get_count_same, State.get_set_ne,
    State.get_set_same, and_true]
  exact Nat.mod_eq_of_lt hcode

theorem State.answered_of_error {s : State} {t : Txn} {status : Nat} (h : status ≠ 0) (data : Nat) :
    s.answered t status data = { s.ctError t.src.path status t.addr with answer := (status, 0) } := by
  simp [State.answered, State.iff, h]

theorem State.answered_of_good (s : State) (t : Txn) (data : Nat) :
    s.answered t 0 data = { s with answer := (0, data) } := rfl

/-- A transaction answered in error: the answer, the record, and nothing else (R547, R548). -/
structure ErrorAnswered (s t : State) (status : Nat) : Prop where
  frame : Frame [.answer, .evReq] errorRecord s t
  answer : t.answer = (status, 0)
  shown : t.get CX_CT_ERR_status = status
  counted : t.get CX_CT_ERR_count = min (s.get CX_CT_ERR_count + 1) (2 ^ CX_CT_ERR_count.width - 1)

theorem State.answered_errorAnswered (s : State) (t : Txn) {status : Nat} (h : status ≠ 0) (hlt : status < 16)
    (data : Nat) : ErrorAnswered s (s.answered t status data) status := by
  obtain ⟨hshown, hcounted⟩ := s.ctError_fields t.src.path hlt t.addr
  rw [State.answered_of_error h]
  exact ⟨((s.ctError_frame _ _ _).mono (by decide) (by simp)).with_answer _ (by decide), rfl, hshown, hcounted⟩

theorem State.transact_of_error {s : State} {t : Txn} (h : s.txnError t ≠ 0) (r : EccResult) :
    s.transact t r = s.answered t (s.txnError t) 0 := if_pos h

theorem State.transact_of_write {s : State} {t : Txn} (h : s.txnError t = 0) (hw : t.write = true) (r : EccResult) :
    s.transact t r = { s.busWrite t with answer := (0, 0) } := by
  simp [State.transact, h, hw, State.answered_of_good]

theorem State.transact_of_read {s u : State} {t : Txn} {v : Nat} {r : EccResult} (h : s.txnError t = 0)
    (hw : t.write = false) (hread : s.busRead t.addr t.be r = (0, v, u)) :
    s.transact t r = { u with answer := (0, maskBytes v t.be) } := by
  simp [State.transact, h, hw, hread, State.answered_of_good]

/-! ## The data RAM through the bus -/

theorem State.codedRead_of_clean {s : State} {m i : Nat} (h : s.mark m i = 0) (v : Nat) :
    s.codedRead m i v .clean = (0, v, s) := by
  simp [State.codedRead, h]

/-- The word of the data RAM at `off`. -/
def State.dramWord (s : State) (off : Nat) : Nat :=
  s.dramByte off + s.dramByte (off + 1) * 256 + s.dramByte (off + 2) * 65536 + s.dramByte (off + 3) * 2 ^ 24

theorem State.dramRead_of_clean {s : State} {off : Nat} (h : ∀ k ∈ List.range 4, s.mark memDram (off + k) = 0) :
    s.dramRead off 15 .clean = (0, s.dramWord off, s) := by
  have hbytes : (List.range 4).filter (fun k => bit 15 k) = [0, 1, 2, 3] := by decide
  have hmark (k : Nat) (hk : k < 4) : s.codedRead memDram (off + k) (s.dramByte (off + k)) .clean =
      (0, s.dramByte (off + k), s) := State.codedRead_of_clean (h k (List.mem_range.mpr hk)) _
  simp only [State.dramRead, hbytes, ite_self, List.foldl_cons, List.foldl_nil, hmark 0 (by decide), hmark 1 (by decide),
    hmark 2 (by decide), hmark 3 (by decide), and_self, if_true]
  simp [State.dramWord]

theorem State.busRead_of_dram (s : State) {a : Nat} (hlo : 0x40040000 ≤ a) (hhi : a < 0x40060000) (be : Nat)
    (r : EccResult) : s.busRead a be r = s.dramRead (a - 0x40040000) be r := by
  rw [State.busRead, if_neg (by omega), if_neg (by omega), if_neg (by omega), if_pos hhi]

theorem State.busWrite_of_dram (s : State) {t : Txn} (hlo : 0x40040000 ≤ t.addr) (hhi : t.addr < 0x40058000) :
    s.busWrite t = s.dramStore (t.addr - 0x40040000) t.data t.be := by
  rw [State.busWrite, if_neg (by omega), if_neg (by omega), if_pos ⟨hlo, hhi⟩]

theorem maskBytes_full (v : Nat) : maskBytes v 15 = v % 2 ^ 32 := by
  simp [maskBytes, mergeBytes, List.range_succ, bit, byteOf, ofBytes, Nat.testBit_succ]
  omega

theorem byteOf_low (v : Nat) {k : Nat} (hk : k < 4) : byteOf (bits v 0 32) k = byteOf v k := by
  interval_cases k <;> simp only [byteOf, bits] <;> omega

theorem byteOf_lt (v k : Nat) : byteOf v k < 256 := Nat.mod_lt _ (by decide)

theorem State.dramByte_dramWrite (s : State) (i j v : Nat) :
    (s.dramWrite i v).dramByte j = if j = i then v % 256 else s.dramByte j := by
  split
  next h => subst h; exact Sparse.get_put_same _ _ _ _
  next h => exact Sparse.get_put_ne _ _ h _ _

theorem State.dramWrite_frame (s : State) (i v : Nat) : Frame [.mg, .prot] [] s (s.dramWrite i v) :=
  ((Frame.refl [.mg, .prot] [] s).with_mg _ (by decide)).with_prot _ (by decide)

theorem State.dramByte_each (f : Nat → Nat) (off j : Nat) (l : List Nat) (s : State) :
    (s.each l fun s k => s.dramWrite (off + k) (f k)).dramByte (off + j) =
      if j ∈ l then f j % 256 else s.dramByte (off + j) := by
  induction l generalizing s with
  | nil => rfl
  | cons k l ih =>
    refine (ih _).trans ?_
    rw [State.dramByte_dramWrite]
    by_cases hkj : j = k
    · subst hkj; simp
    · simp [hkj]

theorem State.dramStore_byte (s : State) (off data be : Nat) {k : Nat} (hk : k < 4) :
    (s.dramStore off data be).dramByte (off + k) = if bit be k then byteOf data k else s.dramByte (off + k) := by
  rw [State.dramStore, State.dramByte_each]
  simp [hk, Nat.mod_eq_of_lt (byteOf_lt data k)]

theorem State.dramStore_frame (s : State) (off data be : Nat) : Frame [.mg, .prot] [] s (s.dramStore off data be) :=
  (Frame.refl _ _ s).each fun u _ _ hu => hu.trans (u.dramWrite_frame _ _)

/-! ## Responses -/

theorem State.upQueue_congr {s t : State} (hfb : t.fb = s.fb) (hpri : t.get FB_UP_tc_pri = s.get FB_UP_tc_pri)
    (hsec : t.get FB_UP_tc_sec = s.get FB_UP_tc_sec) (hports : t.get FB_PORTS_tc_up = s.get FB_PORTS_tc_up) :
    t.upQueue = s.upQueue := by
  simp only [State.upQueue, State.upPort, State.upOrder, State.tcHas, hfb, hpri, hsec, hports]
  rfl

/-- The response to `m` with a status and data (R359). -/
def State.responseOf (s : State) (m : CtMsg) (status data : Nat) : List Nat :=
  [ctHead (ctOp m.head + 2) 1 (s.get FB_ADDR_addr) (ctTag m.head) 0 status (ctBe m.head),
    bits (m.body.getD 0 0) 32 32 * 2 ^ 32 + data % 2 ^ 32]

/-- A message joins the queue of port `p`. -/
def State.queued (s : State) (p : Nat) (items : List Nat) : State :=
  s.setPortQ p { s.portQ p with msgs := (s.portQ p).msgs ++ [items] }

/-- The items that wait in the message queue of port `p`. -/
def State.msgLoad (s : State) (p : Nat) : Nat := (s.portQ p).msgs.foldl (fun n x => n + x.length) 0

theorem State.response_of_queue {s : State} {p : Nat} (hup : s.upQueue = some p) (hroom : s.msgLoad p + 2 ≤ 64)
    (m : CtMsg) (status data : Nat) : s.response m status data = s.queued p (s.responseOf m status data) :=
  (State.msgUp_of_queue hup _).trans (State.pushMsg_of_room hroom)

theorem State.queued_msgs (s : State) (p : Nat) (items : List Nat) :
    ((s.queued p items).portQ p).msgs = (s.portQ p).msgs ++ [items] := by
  rw [State.queued, State.portQ_setPortQ]

theorem State.queued_frame (s : State) (p : Nat) (items : List Nat) : Frame [.fb] [] s (s.queued p items) :=
  s.setPortQ_frame p _

/-! ## Requests -/

section
variable {s : State} {m : CtMsg} {op : Nat} {run : State → State}

theorem State.request_of_bad (hop : isOp m op = false) : s.request m op run = s.count FB_CNT_bad := by
  simp [State.request, hop, State.fbBad]

variable (hop : isOp m op = true) (haddr : s.on FB_ADDR_valid = true)
include hop haddr

theorem State.request_of_here (hme : ctAddr m.head = s.get FB_ADDR_addr) : s.request m op run = run s := by
  simp [State.request, hop, haddr, hme]

theorem State.request_of_forwarded {p : Nat} (haway : ctAddr m.head ≠ s.get FB_ADDR_addr) (hhops : 0 < ctHops m.head)
    (hen : s.on (FB_ROUTE_en (ctAddr m.head)) = true) (hpri : s.get (FB_ROUTE_pri (ctAddr m.head)) = p)
    (hserves : s.tcHas p = true) (hsec : s.on (FB_ROUTE_use_sec (ctAddr m.head)) = false)
    (hroom : s.msgLoad p + (m.body.length + 1) ≤ 64) :
    s.request m op run = s.queued p ((m.head - 2 ^ 32) :: m.body) := by
  have hroute := State.routeTo_of_primary hen hpri hserves hsec
  have hpush : s.pushMsg p ((m.head - 2 ^ 32) :: m.body) = s.queued p ((m.head - 2 ^ 32) :: m.body) :=
    State.pushMsg_of_room hroom
  simp only [State.request, hop, haddr, haway, hhops.ne', hroute, hpush, Bool.not_true, Bool.false_eq_true, if_false]

theorem State.request_of_spent {p : Nat} (haway : ctAddr m.head ≠ s.get FB_ADDR_addr) (hhops : ctHops m.head = 0)
    (hup : s.upQueue = some p) (hroom : s.msgLoad p + 2 ≤ 64) :
    s.request m op run = s.queued p (s.responseOf m 9 0) := by
  simp only [State.request, hop, haddr, haway, hhops, Bool.not_true, Bool.false_eq_true, if_false, if_true,
    State.response_of_queue hup hroom]

theorem State.request_of_noRoute (haway : ctAddr m.head ≠ s.get FB_ADDR_addr) (hhops : 0 < ctHops m.head)
    (hen : s.on (FB_ROUTE_en (ctAddr m.head)) = false) : s.request m op run = s.routeMiss.response m 8 0 := by
  simp only [State.request, hop, haddr, haway, hhops.ne', State.routeTo_of_off hen, Bool.not_true, Bool.false_eq_true,
    if_false]

end

theorem State.routeMiss_frame (s : State) : Frame [.evReq] [FB_CNT_route_miss, FB_STATUS_route_miss, MG_EVLOG_merged] s
    s.routeMiss :=
  ((Frame.refl _ _ s).count _ _ (by decide)).flag _ _ _ (by decide) (by decide) (by decide)

/-- A request with no route is counted and answered with status 8 (R368). -/
theorem State.routeMiss_answered {s : State} {p : Nat} (hup : s.upQueue = some p) (hroom : s.msgLoad p + 2 ≤ 64)
    (m : CtMsg) : let t := s.routeMiss.response m 8 0
    (t.portQ p).msgs = (s.portQ p).msgs ++ [s.responseOf m 8 0] ∧
      t.get FB_CNT_route_miss = min (s.get FB_CNT_route_miss + 1) (2 ^ FB_CNT_route_miss.width - 1) ∧
      t.on FB_STATUS_route_miss = true ∧
      Frame [.fb, .evReq] [FB_CNT_route_miss, FB_STATUS_route_miss, MG_EVLOG_merged] s t := by
  have hframe := s.routeMiss_frame
  have hfb : s.routeMiss.fb = s.fb := hframe.parts .fb (by decide)
  have hup' : s.routeMiss.upQueue = some p :=
    (State.upQueue_congr hfb (hframe.get (by decide)) (hframe.get (by decide)) (hframe.get (by decide))).trans hup
  have hq : s.routeMiss.portQ p = s.portQ p := by rw [State.portQ, hfb, State.portQ]
  have hresp : s.routeMiss.responseOf m 8 0 = s.responseOf m 8 0 := by
    rw [State.responseOf, hframe.get (f := FB_ADDR_addr) (by decide), State.responseOf]
  have hcount : s.routeMiss.get FB_CNT_route_miss =
      min (s.get FB_CNT_route_miss + 1) (2 ^ FB_CNT_route_miss.width - 1) :=
    (State.get_flag_ne _ (by decide) (by decide) _ _).trans (State.get_count_same _ _ _)
  have hon : s.routeMiss.on FB_STATUS_route_miss = true := by
    rw [State.on, State.routeMiss, State.get_flag_same _ rfl (by decide)]; rfl
  have hqueued := s.routeMiss.queued_frame p (s.responseOf m 8 0)
  dsimp only
  rw [State.response_of_queue hup' (by rw [State.msgLoad, hq]; exact hroom), hresp]
  refine ⟨by rw [State.queued_msgs, hq], (hqueued.get (by simp)).trans hcount, ?_, ?_⟩
  · rw [State.on, hqueued.get (by simp)]; exact hon
  · exact (hframe.mono (by decide) (by simp)).trans (hqueued.mono (by decide) (by simp))

/-! ## Requests served here -/

/-- A request answered in error joins the queue towards the root. -/
theorem ErrorAnswered.responds {s u : State} {e p : Nat} (h : ErrorAnswered s u e) (hup : s.upQueue = some p)
    (hroom : s.msgLoad p + 2 ≤ 64) (m : CtMsg) : let t := u.response m u.answer.1 u.answer.2
    t.answer = (e, 0) ∧ (t.portQ p).msgs = (s.portQ p).msgs ++ [s.responseOf m e 0] ∧
      t.get CX_CT_ERR_count = min (s.get CX_CT_ERR_count + 1) (2 ^ CX_CT_ERR_count.width - 1) ∧
      t.get CX_CT_ERR_status = e ∧ Frame [.answer, .fb, .evReq] errorRecord s t := by
  have hfb : u.fb = s.fb := h.frame.parts .fb (by decide)
  have hup' : u.upQueue = some p :=
    (State.upQueue_congr hfb (h.frame.get (by decide)) (h.frame.get (by decide)) (h.frame.get (by decide))).trans hup
  have hq : u.portQ p = s.portQ p := by rw [State.portQ, hfb, State.portQ]
  have hresp : u.responseOf m e 0 = s.responseOf m e 0 := by
    rw [State.responseOf, h.frame.get (f := FB_ADDR_addr) (by decide), State.responseOf]
  have hqueued := u.queued_frame p (s.responseOf m e 0)
  dsimp only
  rw [h.answer, State.response_of_queue hup' (by rw [State.msgLoad, hq]; exact hroom), hresp]
  refine ⟨(hqueued.parts .answer (by decide)).trans h.answer, by rw [State.queued_msgs, hq],
    (hqueued.get (by simp)).trans h.counted, (hqueued.get (by simp)).trans h.shown, ?_⟩
  exact (h.frame.mono (by decide) (by simp)).trans (hqueued.mono (by decide) (by simp))

theorem State.serve_of_full (s : State) (m : CtMsg) (src : Source) (r : EccResult) :
    let u := s.answered (txnOf m src) 7 0
    s.serve m src r true = u.response m u.answer.1 u.answer.2 := rfl

theorem State.serve_of_room (s : State) (m : CtMsg) (src : Source) (r : EccResult) :
    let u := s.transact (txnOf m src) r
    s.serve m src r false = u.response m u.answer.1 u.answer.2 := rfl

theorem exec_readRequest {m : CtMsg} (hm : m.wf = true) (r : EccResult) (full : Bool) (s : State) :
    exec (.readRequest m r full) s = .next (s.request m 0 fun s => s.serve m ⟨.fabric, none⟩ r full) :=
  effect_of_wf (c := .readRequest m r full) hm (readRequest m r full) s

theorem exec_writeRequest {m : CtMsg} (hm : m.wf = true) {lane : Option Nat}
    (hlane : lane.all (fun n => decide (n < 48)) = true) (full : Bool) (s : State) :
    exec (.writeRequest m lane full) s = .next (s.request m 1 fun s => s.serve m ⟨.fabric, lane⟩ .clean full) :=
  effect_of_wf (c := .writeRequest m lane full) (by simp [Instr.wf, hm, hlane]) (writeRequest m lane full) s

theorem State.relay_of_queue {s : State} {m : CtMsg} {op p : Nat} (hop : isOp m op = true)
    (haddr : s.on FB_ADDR_valid = true) (hup : s.upQueue = some p) (hroom : s.msgLoad p + (m.body.length + 1) ≤ 64) :
    s.relay m op = s.setPortQ p { s.portQ p with msgs := (s.portQ p).msgs ++ [m.head :: m.body] } := by
  rw [State.relay, hop, haddr, if_neg (by decide), if_neg (by decide), State.msgUp_of_queue hup]
  exact State.pushMsg_of_room hroom

theorem State.relay_of_noAddress {s : State} {m : CtMsg} {op : Nat} (hop : isOp m op = true)
    (haddr : s.on FB_ADDR_valid = false) : s.relay m op = s := by
  rw [State.relay, hop, haddr, if_neg (by decide), if_pos (by decide)]

theorem exec_readResponse {m : CtMsg} (hm : m.wf = true) (s : State) :
    exec (.readResponse m) s = .next (s.relay m 2) := effect_of_wf (c := .readResponse m) hm (readResponse m) s

theorem exec_writeResponse {m : CtMsg} (hm : m.wf = true) (s : State) :
    exec (.writeResponse m) s = .next (s.relay m 3) := effect_of_wf (c := .writeResponse m) hm (writeResponse m) s

/-! ## The statement -/

/-- A read of four clean bytes of the general data RAM is answered with them. -/
theorem State.serve_of_dramRead {s : State} {m : CtMsg} {p off : Nat} (hup : s.upQueue = some p)
    (hop : isOp m 0 = true) (hroom : s.msgLoad p + 2 ≤ 64) (hok : s.txnError (txnOf m ⟨.fabric, none⟩) = 0)
    (hlo : 0x40040000 ≤ bits (m.body.getD 0 0) 32 32) (hhi : bits (m.body.getD 0 0) 32 32 < 0x40058000)
    (hoff : off = bits (m.body.getD 0 0) 32 32 - 0x40040000) (hbe : ctBe m.head = 15)
    (hclean : ∀ k ∈ List.range 4, s.mark memDram (off + k) = 0) :
    s.serve m ⟨.fabric, none⟩ .clean false =
      State.queued { s with answer := (0, s.dramWord off % 2 ^ 32) } p (s.responseOf m 0 (s.dramWord off % 2 ^ 32)) := by
  have hread : s.busRead (txnOf m ⟨.fabric, none⟩).addr (txnOf m ⟨.fabric, none⟩).be .clean =
      (0, s.dramWord off, s) := by
    rw [txnOf, State.busRead_of_dram s hlo (by omega), hbe, ← hoff, State.dramRead_of_clean hclean]
  have hwrite : (txnOf m ⟨.fabric, none⟩).write = false := by
    simp only [isOp, Bool.and_eq_true, beq_iff_eq] at hop
    simp [txnOf, hop.1.1]
  have hdone := State.transact_of_read hok hwrite hread
  have hmask : maskBytes (s.dramWord off) (txnOf m ⟨.fabric, none⟩).be = s.dramWord off % 2 ^ 32 := by
    rw [txnOf, hbe, maskBytes_full]
  rw [State.serve_of_room, hdone, hmask]
  refine (State.response_of_queue (s := { s with answer := (0, s.dramWord off % 2 ^ 32) }) (p := p) hup hroom m _ _).trans ?_
  rfl

section
variable {s : State} {m : CtMsg} {lane : Option Nat} {off : Nat} (hop : isOp m 1 = true)
  (hok : s.txnError (txnOf m ⟨.fabric, lane⟩) = 0) (hlo : 0x40040000 ≤ bits (m.body.getD 0 0) 32 32)
  (hhi : bits (m.body.getD 0 0) 32 32 < 0x40058000) (hoff : off = bits (m.body.getD 0 0) 32 32 - 0x40040000)
include hop hok hlo hhi hoff

/-- A write of the general data RAM stores the enabled bytes. -/
theorem State.transact_of_dramWrite (r : EccResult) : let t := s.transact (txnOf m ⟨.fabric, lane⟩) r
    (∀ k, k < 4 → t.dramByte (off + k) =
        if bit (ctBe m.head) k then byteOf (m.body.getD 0 0) k else s.dramByte (off + k)) ∧ t.answer = (0, 0) ∧
      Frame [.mg, .prot, .answer] [] s t := by
  have hwrite : (txnOf m ⟨.fabric, lane⟩).write = true := by
    simp only [isOp, Bool.and_eq_true, beq_iff_eq] at hop
    simp [txnOf, hop.1.1]
  have hstore : s.busWrite (txnOf m ⟨.fabric, lane⟩) = s.dramStore off (bits (m.body.getD 0 0) 0 32) (ctBe m.head) := by
    rw [State.busWrite_of_dram s hlo hhi, txnOf, hoff]
  dsimp only
  rw [State.transact_of_write hok hwrite, hstore]
  refine ⟨fun k hk => ?_, rfl, ?_⟩
  · rw [← byteOf_low _ hk]
    exact s.dramStore_byte off (bits (m.body.getD 0 0) 0 32) (ctBe m.head) hk
  · exact ((s.dramStore_frame off _ _).mono (by decide) (by simp)).with_answer _ (by decide)

/-- The write is answered with status 0. -/
theorem State.serve_of_dramWrite {p : Nat} (hup : s.upQueue = some p) (hroom : s.msgLoad p + 2 ≤ 64) :
    let t := s.serve m ⟨.fabric, lane⟩ .clean false
    (∀ k ∈ List.range 4, t.dramByte (off + k) =
        if bit (ctBe m.head) k then byteOf (m.body.getD 0 0) k else s.dramByte (off + k)) ∧ t.answer = (0, 0) ∧
      (t.portQ p).msgs = (s.portQ p).msgs ++ [s.responseOf m 0 0] ∧ Frame [.mg, .prot, .answer, .fb] [] s t := by
  obtain ⟨hbytes, hanswer, hframe⟩ := State.transact_of_dramWrite hop hok hlo hhi hoff .clean
  dsimp only
  rw [State.serve_of_room]
  generalize s.transact (txnOf m ⟨.fabric, lane⟩) .clean = u at hbytes hanswer hframe ⊢
  have hfb : u.fb = s.fb := hframe.parts .fb (by decide)
  have hup' : u.upQueue = some p :=
    (State.upQueue_congr hfb (hframe.get (by simp)) (hframe.get (by simp)) (hframe.get (by simp))).trans hup
  have hq : u.portQ p = s.portQ p := by rw [State.portQ, hfb, State.portQ]
  have hresp : u.responseOf m 0 0 = s.responseOf m 0 0 := by
    rw [State.responseOf, hframe.get (f := FB_ADDR_addr) (by simp), State.responseOf]
  have hqueued := u.queued_frame p (s.responseOf m 0 0)
  rw [hanswer, State.response_of_queue hup' (by rw [State.msgLoad, hq]; exact hroom), hresp]
  refine ⟨fun k hk => ?_, (hqueued.parts .answer (by decide)).trans hanswer, by rw [State.queued_msgs, hq], ?_⟩
  · rw [State.dramByte, hqueued.parts .mg (by decide)]
    exact hbytes k (List.mem_range.mp hk)
  · exact (hframe.mono (by decide) (by simp)).trans (hqueued.mono (by decide) (by simp))

end

/-- Settles O34: a request is executed, forwarded or answered in error as its address, its hops and the routing table
say, and a response goes towards the root. -/
theorem controlMessagesAreServedForwardedOrAnswered : Obligations.ControlMessagesAreServedForwardedOrAnswered := by
  unfold Obligations.ControlMessagesAreServedForwardedOrAnswered
  refine ⟨?_, ?_, ?_, ?_, ?_, ?_, ?_, ?_, ?_, ?_, ?_, ?_, ?_, ?_, ?_, ?_, ?_, ?_⟩
  · intro s m r p hm haddr hme hup hop hroom hbad
    refine ⟨_, exec_readRequest hm r false s, ?_⟩
    rw [State.request_of_here hop haddr hme, State.serve_of_room, State.transact_of_error hbad]
    exact (s.answered_errorAnswered _ hbad ((s.txnError_lt _).trans (by decide)) 0).responds hup hroom m
  · intro s m r p hm haddr hme hup hop hroom
    refine ⟨_, exec_readRequest hm r true s, ?_⟩
    rw [State.request_of_here hop haddr hme, State.serve_of_full]
    obtain ⟨hanswer, hmsgs, -, -, hframe⟩ :=
      (s.answered_errorAnswered (txnOf m ⟨.fabric, none⟩) (status := 7) (by decide) (by decide) 0).responds hup hroom m
    exact ⟨hanswer, hmsgs, hframe⟩
  · intro s m p off hm haddr hme hup hop hroom hok hlo hhi hoff hbe hclean
    rw [exec_readRequest hm, State.request_of_here hop haddr hme,
      State.serve_of_dramRead hup hop hroom hok hlo hhi hoff hbe hclean, State.responseOf, Nat.mod_mod]
    rfl
  · intro s m r full p hm hop haddr haway hhops hen hpri hserves hsec hroom
    rw [exec_readRequest hm, State.request_of_forwarded hop haddr haway hhops hen hpri hserves hsec hroom]
    rfl
  · intro s m r full p hm hop haddr haway hhops hup hroom
    rw [exec_readRequest hm, State.request_of_spent hop haddr haway hhops hup hroom]
    rfl
  · intro s m r full p hm hop haddr haway hhops hen hup hroom
    refine ⟨_, exec_readRequest hm r full s, ?_⟩
    rw [State.request_of_noRoute hop haddr haway hhops hen]
    exact State.routeMiss_answered hup hroom m
  · intro s m r full hm hop
    rw [exec_readRequest hm, State.request_of_bad hop]
  · intro s m lane p hm haddr hme hup hop hroom hbad hlane
    refine ⟨_, exec_writeRequest hm hlane false s, ?_⟩
    rw [State.request_of_here hop haddr hme, State.serve_of_room, State.transact_of_error hbad]
    exact (s.answered_errorAnswered _ hbad ((s.txnError_lt _).trans (by decide)) 0).responds hup hroom m
  · intro s m lane p hm haddr hme hup hop hroom hlane
    refine ⟨_, exec_writeRequest hm hlane true s, ?_⟩
    rw [State.request_of_here hop haddr hme, State.serve_of_full]
    obtain ⟨hanswer, hmsgs, -, -, hframe⟩ :=
      (s.answered_errorAnswered (txnOf m ⟨.fabric, lane⟩) (status := 7) (by decide) (by decide) 0).responds hup hroom m
    exact ⟨hanswer, hmsgs, hframe⟩
  · intro s m lane p off hm haddr hme hup hop hroom hok hlo hhi hoff hlane
    refine ⟨_, exec_writeRequest hm hlane false s, ?_⟩
    rw [State.request_of_here hop haddr hme]
    exact State.serve_of_dramWrite hop hok hlo hhi hoff hup hroom
  · intro s m lane full p hm hop haddr haway hhops hen hpri hserves hsec hroom hlane
    rw [exec_writeRequest hm hlane, State.request_of_forwarded hop haddr haway hhops hen hpri hserves hsec hroom]
    rfl
  · intro s m lane full p hm hop haddr haway hhops hup hroom hlane
    rw [exec_writeRequest hm hlane, State.request_of_spent hop haddr haway hhops hup hroom]
    rfl
  · intro s m lane full p hm hop haddr haway hhops hen hup hroom hlane
    refine ⟨_, exec_writeRequest hm hlane full s, ?_⟩
    rw [State.request_of_noRoute hop haddr haway hhops hen]
    exact State.routeMiss_answered hup hroom m
  · intro s m lane full hm hop hlane
    rw [exec_writeRequest hm hlane, State.request_of_bad hop]
  · intro s m p hm hop haddr hup hroom
    rw [exec_readResponse hm, State.relay_of_queue hop haddr hup hroom]
  · intro s m hm hop haddr
    rw [exec_readResponse hm, State.relay_of_noAddress hop haddr]
  · intro s m p hm hop haddr hup hroom
    rw [exec_writeResponse hm, State.relay_of_queue hop haddr hup hroom]
  · intro s m hm hop haddr
    rw [exec_writeResponse hm, State.relay_of_noAddress hop haddr]

end Sys2Proof.Machine
end

section
/-! SUPPORT and PROOF. A lost data port while the path of a third port has a credit to send: its line scrambler starts
from a free value (R303, R307). -/

namespace Sys2Proof.Machine

open Sys2Proof

/-- The active data up port is 0, its secondary 1; the path of port 2 is started and has not sent its first credit. -/
def dataPortLosing : State :=
  State.setPath (((State.reset.set FB_UP_d_pri 0).set FB_UP_d_sec 1).set FB_PORTS_data_up 3) 2
    { DPath.new with started := true }

theorem exec_portLost {p : Nat} (hp : p < 6) (data : Bool) (s : State) :
    exec (.portLost p data) s = .next (portLost p data s) :=
  effect_of_wf (c := .portLost p data) (decide_eq_true hp) (portLost p data) s

theorem dataPortLosing_draws : (portLost 0 true dataPortLosing).free ≠ dataPortLosing.free := by decide +kernel

/-- Refutes O37: its clause on the loss of a data port keeps the free values, but the judgement of busy that ends the
move sends the credits that are due, each drawing one. -/
theorem not_portsFailReturnAndTimeFollows : ¬ Obligations.PortsFailReturnAndTimeFollows := by
  unfold Obligations.PortsFailReturnAndTimeFollows
  rintro ⟨-, -, -, hlost, -⟩
  obtain ⟨t, ht, -, -, -, -, -, hframe⟩ := hlost dataPortLosing 0 1 (by decide) (by decide +kernel) (by decide +kernel)
    (by decide) (by decide +kernel) (by decide +kernel) (by decide) (by decide) (by decide +kernel)
  rw [exec_portLost (by decide), Host.Outcome.next.injEq] at ht
  have hfree : t.free = dataPortLosing.free := hframe.parts .free (by decide)
  rw [← ht] at hfree
  exact dataPortLosing_draws hfree

end Sys2Proof.Machine
end

section
/-! SUPPORT and PROOF. A SYNC that is a time error breaks the row of good ones counted after an election (R389). -/

namespace Sys2Proof.Machine

open Sys2Proof

/-- An addressed module that has counted one good SYNC. -/
def syncsCounting : State := State.set { State.reset with fb := { State.reset.fb with syncs := 1 } } FB_ADDR_valid 1

theorem exec_sync {w : Nat} (hw : w < 2 ^ 64) (ta : Nat) (s : State) : exec (.sync w ta) s = .next (sync w ta s) :=
  effect_of_wf (c := .sync w ta) (decide_eq_true hw) (sync w ta) s

/-- Refutes O38: its clause on a SYNC with a saturated correction gives the whole state after it, but the count of good
ones in a row starts anew. -/
theorem not_solamMeasuresLinksAndElectsAMaster : ¬ Obligations.SolamMeasuresLinksAndElectsAMaster := by
  unfold Obligations.SolamMeasuresLinksAndElectsAMaster
  rintro ⟨-, -, -, -, hsaturated, -⟩
  have h := hsaturated syncsCounting (2 ^ 25 - 1) 0 (by decide) (by decide) (by decide +kernel) (.inl (by decide))
  rw [exec_sync (by decide), Host.Outcome.next.injEq] at h
  have hsyncs := congrArg (fun t => t.fb.syncs) h
  exact absurd hsyncs (by decide +kernel)

end Sys2Proof.Machine
end

section
/-! SUPPORT and PROOF. A merge buffer open on a word past the last plate frame: the statement bounds neither the word nor
its frame, and the quarantine map bit of such a frame lies among other registers (R84, R403). -/

namespace Sys2Proof.Machine

open Sys2Proof

/-- The merge buffer of the plate window is open on the first word of frame 16,673, past the 6,144 frames there are. -/
def bufferPastPlate : State :=
  { State.reset with prot := { State.reset.prot with bufPlate := some ⟨16 * 16673, 1, 0⟩ } }

theorem exec_mergeBufferTimeout {buf : Nat} (h : buf < 3) (r : EccResult) (s : State) :
    exec (.mergeBufferTimeout buf r) s = .next (mergeBufferTimeout buf r s) :=
  effect_of_wf (c := .mergeBufferTimeout buf r) (decide_eq_true h) (mergeBufferTimeout buf r) s

theorem bufferPastPlate_count :
    (mergeBufferTimeout 0 .uncorrectable bufferPastPlate).get CX_ECC_CNT_uncorr = 3 := by decide +kernel

/-- Refutes O39: its clause on a fill that finds an uncorrectable word admits words of no plate frame; the map bit set for
such a frame falls into the count of uncorrectable words. -/
theorem not_votesFaultsAndMergeBuffers : ¬ Obligations.VotesFaultsAndMergeBuffers := by
  unfold Obligations.VotesFaultsAndMergeBuffers
  rintro ⟨-, -, -, -, -, -, -, -, -, -, -, -, -, -, -, hfill, -⟩
  obtain ⟨t, ht, -, -, -, hcount, -⟩ := hfill bufferPastPlate ⟨16 * 16673, 1, 0⟩ .uncorrectable rfl
    (.inr ⟨by decide +kernel, rfl⟩)
  rw [exec_mergeBufferTimeout (by decide), Host.Outcome.next.injEq] at ht
  rw [← ht, bufferPastPlate_count] at hcount
  exact absurd hcount (by decide +kernel)

end Sys2Proof.Machine
end

section
/-! SUPPORT and PROOF. A patrol that is enabled but runs at rate 0 reads nothing (R404). -/

namespace Sys2Proof.Machine

open Sys2Proof

/-- Patrol is enabled and has begun on the data RAM, with rate 0. -/
def patrolAtRateZero : State :=
  ((State.set { State.reset with prot := { State.reset.prot with started := 2 ^ 8 } } CX_BN_CTRL_patrol_en 1).set
    CX_BN_CTRL_aux_rate 0)

theorem exec_patrolRead {m : Nat} (hlo : 0 < m) (hhi : m < 11) (r : EccResult) (o : Option (Nat × Nat)) (s : State) :
    exec (.patrolRead m r o) s = .next (patrolRead m r o s) :=
  effect_of_wf (c := .patrolRead m r o) (by simp [Instr.wf, hhi, hlo.ne']) (patrolRead m r o) s

theorem patrolRead_of_rateZero {s : State} {m : Nat} (hm : 2 < m) (h : s.get CX_BN_CTRL_aux_rate = 0) (r : EccResult)
    (o : Option (Nat × Nat)) : patrolRead m r o s = s := by
  unfold patrolRead
  rw [if_neg (Nat.not_le.mpr hm), if_pos (by simp [h])]

theorem patrolAtRateZero_next :
    patrolAtRateZero.bnNext 8 (memSize 8) bnFuel (Sparse.get 0 8 patrolAtRateZero.prot.pos) = some 0 := by
  decide +kernel

/-- Refutes O40: its clause on a clean word read by patrol says nothing of the rate, and at rate 0 patrol stands still. -/
theorem not_burnishReadsRepairsAndReports : ¬ Obligations.BurnishReadsRepairsAndReports := by
  unfold Obligations.BurnishReadsRepairsAndReports
  rintro ⟨-, hclean, -⟩
  obtain ⟨t, ht, hpos, -⟩ := hclean patrolAtRateZero 8 0 none (by decide) (by decide) (by decide +kernel)
    (by decide +kernel) patrolAtRateZero_next (by decide +kernel)
  rw [exec_patrolRead (by decide) (by decide), patrolRead_of_rateZero (by decide) (by decide +kernel),
    Host.Outcome.next.injEq] at ht
  rw [← ht] at hpos
  exact absurd hpos (by decide +kernel)

end Sys2Proof.Machine
end

section
/-! SUPPORT. The power units: what stopping a unit, taking over its role and starting one change (R428 to R442). -/

namespace Sys2Proof.Machine

open Sys2Proof

/-! ## Units -/

@[simp] theorem State.unit_setUnit (s : State) (u : Nat) (p : PUnit) : (s.setUnit u p).unit u = p :=
  Sparse.get_put_same _ _ _ _

theorem State.unit_setUnit_ne (s : State) {u v : Nat} (h : v ≠ u) (p : PUnit) : (s.setUnit u p).unit v = s.unit v :=
  Sparse.get_put_ne _ _ h _ _

theorem State.unit_congr {s t : State} (h : t.pwr = s.pwr) (u : Nat) : t.unit u = s.unit u := by
  rw [State.unit, h, State.unit]

theorem State.setUnit_frame (s : State) (u : Nat) (p : PUnit) : Frame [.pwr] [] s (s.setUnit u p) :=
  (Frame.refl [.pwr] [] s).with_pwr _ (by decide)

theorem other_ne {u : Nat} (hu : u < 2) : other u ≠ u := by rw [other]; omega

/-! ## Roles, loops and swaps -/

def roleFields (u : Nat) : List Fld := [PU_STATUS_role u, SV_ARB_STATUS_a_role, SV_ARB_STATUS_b_role]

theorem State.setRole_frame (s : State) (u r : Nat) : Frame [] (roleFields u) s (s.setRole u r) := by
  have h : Frame [] (roleFields u) s (s.set (PU_STATUS_role u) r) := (Frame.refl _ _ s).set _ _ (by simp [roleFields])
  unfold State.setRole
  dsimp only
  split
  · exact h.set _ _ (by simp [roleFields])
  · exact h.set _ _ (by simp [roleFields])

theorem State.role_setRole (s : State) {u r : Nat} (hu : u < 2) (hr : r < 4) :
    (s.setRole u r).get (PU_STATUS_role u) = r := by
  have hset : (s.set (PU_STATUS_role u) r).get (PU_STATUS_role u) = r := State.get_set_fit s _ hr
  unfold State.setRole
  dsimp only
  obtain rfl | rfl : u = 0 ∨ u = 1 := by omega
  · rw [if_pos rfl, State.get_set_ne _ (by decide), hset]
  · rw [if_neg (by decide), State.get_set_ne _ (by decide), hset]

theorem State.injAbort_frame (s : State) (u : Nat) :
    Frame [.evReq] [LE_CAP_STATUS_state u, MG_EVLOG_merged] s (s.injAbort u) := by
  unfold State.injAbort
  split
  · exact ((Frame.refl _ _ s).set _ _ (by simp)).raise _ _ (by decide) (by simp)
  · exact Frame.refl _ _ s

theorem State.openLoop_frame (s : State) (u : Nat) :
    Frame [.evReq] [LE_CTRL_closed u, LE_CAP_STATUS_state u, MG_EVLOG_merged] s (s.openLoop u) :=
  ((Frame.refl [.evReq] _ s).set _ _ (by simp)).trans ((State.injAbort_frame _ u).mono (by decide) (by simp))

theorem State.closed_openLoop (s : State) {u : Nat} (hu : u < 2) : (s.openLoop u).get (LE_CTRL_closed u) = 0 := by
  refine ((State.injAbort_frame _ u).get ?_).trans (State.get_set_same _ _ _)
  obtain rfl | rfl : u = 0 ∨ u = 1 := by omega
  all_goals decide

theorem State.swapOver_frame (s : State) : Frame [.pwr, .activity] [SV_ARB_STATUS_phase] s s.swapOver := by
  unfold State.swapOver
  exact (Frame.refl [.pwr, .activity] [SV_ARB_STATUS_phase] s).beside.set _ _ (by decide)

theorem State.swapOver_unit (s : State) (u : Nat) : s.swapOver.unit u = s.unit u := rfl

theorem State.swapBreak_frame (s : State) (u : Nat) :
    Frame [.pwr, .activity] [SV_ARB_STATUS_phase] s (s.swapBreak u) := by
  unfold State.swapBreak
  split
  · exact Frame.refl _ _ s
  · exact s.swapOver_frame

theorem State.swapBreak_unit (s : State) (u v : Nat) : (s.swapBreak u).unit v = s.unit v := by
  unfold State.swapBreak
  split <;> rfl

def restartFields : List Fld := [SV_ARB_TIMER_remaining, SV_ARB_STATUS_sched, SV_ARB_STATUS_overdue]

theorem State.swapRestart_frame (s : State) : Frame [] restartFields s s.swapRestart :=
  (((Frame.refl _ _ s).set _ _ (by decide)).set _ _ (by decide)).set _ _ (by decide)

/-! ## A unit stops -/

/-- A unit neither starts nor waits for its measurement. -/
def State.unitQuiet (s : State) (u : Nat) : State :=
  s.setUnit u { s.unit u with soft := none, blank := 0, limited := 0, low := 0 }

/-- A shutdown joins those under way. -/
def State.shutQueued (s : State) (f : ShutFn) : State := { s with shut := s.shut ++ [f] }

theorem State.shutQueued_frame (s : State) (f : ShutFn) : Frame [.shut] [] s (s.shutQueued f) :=
  (Frame.refl [.shut] [] s).with_shut _ (by decide)

def stopFields (u : Nat) : List Fld := [LE_CTRL_closed u, LE_CAP_STATUS_state u, MG_EVLOG_merged, PU_STATUS_role u,
  SV_ARB_STATUS_a_role, SV_ARB_STATUS_b_role, SV_ARB_STATUS_phase]

def powerParts : List Part := [.evReq, .shut, .pwr, .activity]

/-- The shutdown of unit `u` has begun (R441). -/
structure UnitStopped (u : Nat) (s t : State) : Prop where
  frame : Frame powerParts (stopFields u) s t
  role : t.get (PU_STATUS_role u) = 3
  closed : t.get (LE_CTRL_closed u) = 0
  shut : t.shut = s.shut ++ [.unit u]
  soft : (t.unit u).soft = none
  unitOther : t.unit (other u) = s.unit (other u)

theorem State.stopUnit_of_running {s : State} {u : Nat} (hrole : s.get (PU_STATUS_role u) ≠ 0)
    (hshut : s.shut.contains (.unit u) = false) :
    s.stopUnit u = ((((s.openLoop u).setRole u 3).unitQuiet u).shutQueued (.unit u)).swapBreak u := by
  unfold State.stopUnit
  rw [if_neg (by rw [hshut]; simp [hrole])]
  rfl

theorem State.stopUnit_stopped {s : State} {u : Nat} (hu : u < 2) (hrole : s.get (PU_STATUS_role u) ≠ 0)
    (hshut : s.shut.contains (.unit u) = false) : UnitStopped u s (s.stopUnit u) := by
  rw [State.stopUnit_of_running hrole hshut]
  have hopen := s.openLoop_frame u
  have hclosed := s.closed_openLoop hu
  generalize s.openLoop u = a at hopen hclosed ⊢
  have hset := a.setRole_frame u 3
  have hthree := a.role_setRole hu (r := 3) (by decide)
  generalize a.setRole u 3 = b at hset hthree ⊢
  have hquiet : Frame [.pwr] [] b (b.unitQuiet u) := b.setUnit_frame u _
  have hsoft : ((b.unitQuiet u).unit u).soft = none := by rw [State.unitQuiet, State.unit_setUnit]
  have hunit : (b.unitQuiet u).unit (other u) = b.unit (other u) := b.unit_setUnit_ne (other_ne hu) _
  generalize b.unitQuiet u = c at hquiet hsoft hunit ⊢
  have hqueued := c.shutQueued_frame (.unit u)
  have hbreak := (c.shutQueued (.unit u)).swapBreak_frame u
  have hunits (v : Nat) : ((c.shutQueued (.unit u)).swapBreak u).unit v = c.unit v := State.swapBreak_unit ..
  have hclosed' : b.get (LE_CTRL_closed u) = a.get (LE_CTRL_closed u) := hset.get (by
    obtain rfl | rfl : u = 0 ∨ u = 1 := by omega
    all_goals decide)
  have hphase (f : Fld) (hf : f.key ≠ SV_ARB_STATUS_phase.key) :
      ((c.shutQueued (.unit u)).swapBreak u).get f = b.get f :=
    (hbreak.get (by simpa using hf)).trans ((hqueued.get (by simp)).trans (hquiet.get (by simp)))
  refine ⟨?_, (hphase _ ?_).trans hthree, (hphase _ ?_).trans (hclosed'.trans hclosed), ?_, ?_, ?_⟩
  · refine ((((hopen.mono (by decide) ?_).trans (hset.mono (by decide) ?_)).trans (hquiet.mono (by decide) ?_)).trans
      (hqueued.mono (by decide) ?_)).trans (hbreak.mono (by decide) ?_)
    all_goals simp [stopFields, roleFields]
  · obtain rfl | rfl : u = 0 ∨ u = 1 := by omega
    all_goals decide
  · obtain rfl | rfl : u = 0 ∨ u = 1 := by omega
    all_goals decide
  · rw [hbreak.parts .shut (by decide), State.shutQueued, hquiet.parts .shut (by decide),
      hset.parts .shut (by decide), hopen.parts .shut (by decide)]
  · rw [hunits, hsoft]
  · rw [hunits, hunit, State.unit_congr (hset.parts .pwr (by decide)), State.unit_congr (hopen.parts .pwr (by decide))]

/-! ## The standby takes over -/

def takeFields (n : Nat) : List Fld := [PU_STATUS_role n, SV_ARB_STATUS_a_role, SV_ARB_STATUS_b_role,
  SV_ARB_STATUS_active, SV_ARB_STATUS_phase]

/-- Unit `n` has the active role at its copied output (R431). -/
structure TookOver (n : Nat) (s t : State) : Prop where
  frame : Frame [.pwr, .activity] (takeFields n) s t
  role : t.get (PU_STATUS_role n) = 2
  active : t.get SV_ARB_STATUS_active = n
  blank : (t.unit n).blank = 2

/-- The measurement of a unit that takes over is blanked for two periods. -/
def State.blanked (s : State) (n : Nat) : State :=
  s.setUnit n { s.unit n with blank := 2, low := 0, loop := { (s.unit n).loop with ovr := 0 } }

theorem State.takeOver_eq (s : State) (n : Nat) :
    s.takeOver n = (((s.setRole n 2).set SV_ARB_STATUS_active n).blanked n).swapOver := rfl

theorem State.takeOver_tookOver (s : State) {n : Nat} (hn : n < 2) : TookOver n s (s.takeOver n) := by
  rw [State.takeOver_eq]
  have hset := s.setRole_frame n 2
  have htwo := s.role_setRole hn (r := 2) (by decide)
  generalize s.setRole n 2 = a at hset htwo ⊢
  have hactive : Frame [] [SV_ARB_STATUS_active] a (a.set SV_ARB_STATUS_active n) := (Frame.refl _ _ a).set _ _ (by simp)
  have hn' : (a.set SV_ARB_STATUS_active n).get SV_ARB_STATUS_active = n := State.get_set_fit _ _ hn
  generalize a.set SV_ARB_STATUS_active n = b at hactive hn' ⊢
  have hblank : Frame [.pwr] [] b (b.blanked n) := b.setUnit_frame n _
  have htwice : ((b.blanked n).unit n).blank = 2 := by rw [State.blanked, State.unit_setUnit]
  generalize b.blanked n = c at hblank htwice ⊢
  have hover := c.swapOver_frame
  have hphase (f : Fld) (hf : f.key ≠ SV_ARB_STATUS_phase.key) : c.swapOver.get f = b.get f :=
    (hover.get (by simpa using hf)).trans (hblank.get (by simp))
  have hrole : b.get (PU_STATUS_role n) = a.get (PU_STATUS_role n) := hactive.get (by
    obtain rfl | rfl : n = 0 ∨ n = 1 := by omega
    all_goals decide)
  refine ⟨?_, (hphase _ ?_).trans (hrole.trans htwo), (hphase _ (by decide)).trans hn', ?_⟩
  · refine (((hset.mono (by decide) ?_).trans (hactive.mono (by decide) ?_)).trans (hblank.mono (by decide) ?_)).trans
      (hover.mono (by decide) ?_)
    all_goals simp [takeFields, roleFields]
  · obtain rfl | rfl : n = 0 ∨ n = 1 := by omega
    all_goals decide
  · rw [State.swapOver_unit, htwice]

/-! ## Failover -/

def failFields (u : Nat) : List Fld := stopFields u ++ takeFields (other u) ++ restartFields ++ [SV_ARB_CNT_failovers]

/-- Unit `u` has stopped and its ready standby has the active role (R431). -/
structure FailedOver (u : Nat) (s t : State) : Prop where
  frame : Frame powerParts (failFields u) s t
  roleStopped : t.get (PU_STATUS_role u) = 3
  roleTaken : t.get (PU_STATUS_role (other u)) = 2
  active : t.get SV_ARB_STATUS_active = other u
  shut : t.shut = s.shut ++ [.unit u]
  closed : t.get (LE_CTRL_closed u) = 0
  blank : (t.unit (other u)).blank = 2

/-- The failover is counted on the arbiter's command alone (R431, R432). -/
def State.failoverTold (s : State) (n : Nat) : State :=
  if s.on (PU_STATUS_arb_lost n) || s.on SV_ARB_STATUS_arb_fault then s
  else (s.countWrap SV_ARB_CNT_failovers).raise 482

theorem State.failoverTold_frame (s : State) (n : Nat) :
    Frame [.evReq] [SV_ARB_CNT_failovers, MG_EVLOG_merged] s (s.failoverTold n) := by
  unfold State.failoverTold
  split
  · exact Frame.refl _ _ s
  · exact ((Frame.refl _ _ s).countWrap _ (by simp)).raise _ _ (by decide) (by simp)

theorem State.unitReady_congr {s t : State} {n : Nat}
    (hfeed : t.get (PU_STATUS_feed_ok n) = s.get (PU_STATUS_feed_ok n))
    (hfault : t.get (PU_STATUS_fault n) = s.get (PU_STATUS_fault n))
    (hout : t.get (PU_CTRL_out n) = s.get (PU_CTRL_out n)) : t.unitReady n = s.unitReady n := by
  simp only [State.unitReady, State.on, hfeed, hfault, hout]

section
variable {s : State} {u : Nat} (hu : u < 2) (hrole : s.get (PU_STATUS_role u) ≠ 0)
  (hshut : s.shut.contains (.unit u) = false)
include hu hrole hshut

/-- A stopped unit leaves the other as it was. -/
theorem UnitStopped.ready_other : (s.stopUnit u).get (PU_STATUS_role (other u)) = s.get (PU_STATUS_role (other u)) ∧
    (s.stopUnit u).unitReady (other u) = s.unitReady (other u) := by
  have hstop := (State.stopUnit_stopped hu hrole hshut).frame
  obtain rfl | rfl : u = 0 ∨ u = 1 := by omega
  · exact ⟨hstop.get (by decide), State.unitReady_congr (hstop.get (by decide)) (hstop.get (by decide))
      (hstop.get (by decide))⟩
  · exact ⟨hstop.get (by decide), State.unitReady_congr (hstop.get (by decide)) (hstop.get (by decide))
      (hstop.get (by decide))⟩

theorem State.failover_of_standby (hstandby : s.get (PU_STATUS_role (other u)) = 1)
    (hready : s.unitReady (other u) = true) :
    s.failover u = (((s.stopUnit u).takeOver (other u)).swapRestart).failoverTold (other u) := by
  obtain ⟨hother, hready'⟩ := UnitStopped.ready_other hu hrole hshut
  unfold State.failover
  dsimp only
  rw [if_pos ⟨hother.trans hstandby, hready'.trans hready⟩]
  rfl

theorem State.failover_failedOver (hstandby : s.get (PU_STATUS_role (other u)) = 1)
    (hready : s.unitReady (other u) = true) : FailedOver u s (s.failover u) := by
  rw [State.failover_of_standby hu hrole hshut hstandby hready]
  have hstop := State.stopUnit_stopped hu hrole hshut
  generalize s.stopUnit u = a at hstop ⊢
  have htake := a.takeOver_tookOver (n := other u) (by rw [other]; omega)
  generalize a.takeOver (other u) = b at htake ⊢
  have hrestart := b.swapRestart_frame
  generalize b.swapRestart = c at hrestart ⊢
  have htold := c.failoverTold_frame (other u)
  have hlast (f : Fld) (hr : ∀ g ∈ restartFields, f.key ≠ g.key) (ht : ∀ g ∈ [SV_ARB_CNT_failovers, MG_EVLOG_merged],
      f.key ≠ g.key) : (c.failoverTold (other u)).get f = b.get f := (htold.get (by simpa using ht)).trans (hrestart.get (by simpa using hr))
  have hframe : Frame powerParts (failFields u) s (c.failoverTold (other u)) := by
    refine (((hstop.frame.mono (by decide) ?_).trans (htake.frame.mono (by decide) ?_)).trans
      (hrestart.mono (by decide) ?_)).trans (htold.mono (by decide) ?_)
    · intro f hf; simp [failFields, hf]
    · intro f hf; simp [failFields, hf]
    · intro f hf; simp [failFields, hf]
    · simp [failFields, stopFields]
  have hshut' : (c.failoverTold (other u)).shut = s.shut ++ [.unit u] := by
    rw [htold.parts .shut (by decide), hrestart.parts .shut (by decide), htake.frame.parts .shut (by decide), hstop.shut]
  have hblank : ((c.failoverTold (other u)).unit (other u)).blank = 2 := by
    rw [State.unit_congr (htold.parts .pwr (by decide)), State.unit_congr (hrestart.parts .pwr (by decide)), htake.blank]
  obtain rfl | rfl : u = 0 ∨ u = 1 := by omega
  · exact ⟨hframe, (hlast _ (by decide) (by decide)).trans ((htake.frame.get (by decide)).trans hstop.role),
      (hlast _ (by decide) (by decide)).trans htake.role, (hlast _ (by decide) (by decide)).trans htake.active, hshut',
      (hlast _ (by decide) (by decide)).trans ((htake.frame.get (by decide)).trans hstop.closed), hblank⟩
  · exact ⟨hframe, (hlast _ (by decide) (by decide)).trans ((htake.frame.get (by decide)).trans hstop.role),
      (hlast _ (by decide) (by decide)).trans htake.role, (hlast _ (by decide) (by decide)).trans htake.active, hshut',
      (hlast _ (by decide) (by decide)).trans ((htake.frame.get (by decide)).trans hstop.closed), hblank⟩

end

end Sys2Proof.Machine
end

section
/-! SUPPORT and PROOF. Feeds and faults start and stop the power units (R417, R428 to R444). -/

namespace Sys2Proof.Machine

open Sys2Proof

/-! ## Switching units -/

theorem State.switching_congr {s t : State} {u : Nat} (hrole : t.get (PU_STATUS_role u) = s.get (PU_STATUS_role u))
    (hpwr : t.pwr = s.pwr) : t.switching u = s.switching u := by
  rw [State.switching, hrole, State.unit_congr hpwr, State.switching]

theorem State.switching_of_active {s : State} {u : Nat} (h : s.get (PU_STATUS_role u) = 2) : s.switching u = true := by
  simp [State.switching, h]

theorem State.switching_of_soft {s : State} {u v : Nat} (h : (s.unit u).soft = some v) : s.switching u = true := by
  simp [State.switching, h]

theorem State.switching_of_still {s : State} {u : Nat} (hrole : s.get (PU_STATUS_role u) ≠ 2)
    (hsoft : (s.unit u).soft = none) : s.switching u = false := by
  simp [State.switching, hrole, hsoft]

theorem State.dropUnit_of_switching {s : State} {u : Nat} (h : s.switching u = true) : s.dropUnit u = s.failover u :=
  if_pos h

theorem State.dropUnit_of_still {s : State} {u : Nat} (h : s.switching u = false) : s.dropUnit u = s.stopUnit u :=
  if_neg (by simp [h])

theorem State.converting_of_switching {s : State} {u : Nat} (hu : u < 2) (h : s.switching u = true) :
    s.converting = true := by
  obtain rfl | rfl : u = 0 ∨ u = 1 := by omega
  all_goals simp [State.converting, h]

theorem State.converting_of_still {s : State} {u : Nat} (hu : u < 2) (h : s.switching u = false)
    (ho : s.switching (other u) = false) : s.converting = false := by
  obtain rfl | rfl : u = 0 ∨ u = 1 := by omega
  all_goals
    simp only [other] at ho
    simp [State.converting, h, ho]

/-! ## The last switching unit stops -/

theorem State.failover_of_last {s : State} {u : Nat} (hu : u < 2) (hrole : s.get (PU_STATUS_role u) ≠ 0)
    (hshut : s.shut.contains (.unit u) = false) (hlast : s.get (PU_STATUS_role (other u)) ≠ 1) :
    s.failover u = (s.stopUnit u).convCheck := by
  have hother := (UnitStopped.ready_other hu hrole hshut).1
  unfold State.failover
  dsimp only
  rw [if_neg (fun h => hlast (hother.symm.trans h.1))]

theorem State.convCheck_of_still {s : State} (hconv : s.converting = false) (hshut : s.shut.contains .conversion = false) :
    s.convCheck = s.shutQueued .conversion := by
  unfold State.convCheck
  rw [hconv, hshut, if_neg (by decide)]
  rfl

/-- The last switching unit stops, and conversion with it (R442). -/
theorem State.failover_stops {s : State} {u : Nat} (hu : u < 2) (hrole : s.get (PU_STATUS_role u) ≠ 0)
    (hshut : s.shut.contains (.unit u) = false) (hlast : s.get (PU_STATUS_role (other u)) = 0)
    (hsoft : (s.unit (other u)).soft = none) (hconv : s.shut.contains .conversion = false) :
    Frame powerParts (stopFields u) s (s.failover u) ∧ (s.failover u).shut.contains .conversion = true ∧
      (s.failover u).converting = false := by
  have hstop := State.stopUnit_stopped hu hrole hshut
  have hother := (UnitStopped.ready_other hu hrole hshut).1
  rw [State.failover_of_last hu hrole hshut (by rw [hlast]; decide)]
  generalize s.stopUnit u = a at hstop hother ⊢
  have hstill : a.switching u = false := State.switching_of_still (by rw [hstop.role]; decide) hstop.soft
  have hstill' : a.switching (other u) = false :=
    State.switching_of_still (by rw [hother, hlast]; decide) (by rw [hstop.unitOther]; exact hsoft)
  have hoff := State.converting_of_still hu hstill hstill'
  have hshut' : a.shut.contains .conversion = false := by rw [hstop.shut]; simpa using hconv
  rw [State.convCheck_of_still hoff hshut']
  have hqueued := a.shutQueued_frame .conversion
  refine ⟨hstop.frame.trans (hqueued.mono (by decide) (by simp)), ?_, ?_⟩
  · simp [State.shutQueued]
  · have hsw (v : Nat) : (a.shutQueued .conversion).switching v = a.switching v :=
      State.switching_congr (hqueued.get (by simp)) (hqueued.parts .pwr (by decide))
    rw [State.converting, hsw, hsw, ← State.converting, hoff]

/-! ## Faults and feeds -/

/-- The fault of a unit latches (R444). -/
def State.faultLatched (s : State) (u cause : Nat) : State :=
  ((s.flag (PU_STATUS_fault u) (puEvent u 0)).set (PU_STATUS_cause u) cause).count (PU_CNT_faults u)

/-- The feed of a unit has left its range (R444). -/
def State.feedDropped (s : State) (u : Nat) : State :=
  ((s.set (PU_STATUS_feed_ok u) 0).flag (PU_STATUS_feed_event u) (puEvent u 2)).count (PU_CNT_feed_drop u)

/-- The feed of a unit is qualified (R417). -/
def State.feedTaken (s : State) (u : Nat) : State :=
  (s.set (PU_STATUS_feed_ok u) 1).flag (PU_STATUS_feed_event u) (puEvent u 2)

theorem State.unitFault_of_clear {s : State} {u : Nat} (h : s.on (PU_STATUS_fault u) = false) (cause : Nat) :
    s.unitFault u cause = (s.faultLatched u cause).dropUnit u := by
  unfold State.unitFault
  rw [h, if_neg (by decide)]
  rfl

theorem feedOutOfRange_of_on {s : State} {u : Nat} (h : s.on (PU_STATUS_feed_ok u) = true) :
    feedOutOfRange u s = (s.feedDropped u).dropUnit u := if_pos h

def faultFields (u : Nat) : List Fld := [PU_STATUS_fault u, PU_STATUS_cause u, PU_CNT_faults u, MG_EVLOG_merged]
def dropFields (u : Nat) : List Fld := [PU_STATUS_feed_ok u, PU_STATUS_feed_event u, PU_CNT_feed_drop u, MG_EVLOG_merged]
def feedTakenFields (u : Nat) : List Fld := [PU_STATUS_feed_ok u, PU_STATUS_feed_event u, MG_EVLOG_merged]

theorem State.faultLatched_frame (s : State) (u cause : Nat) : Frame [.evReq] (faultFields u) s (s.faultLatched u cause) :=
  (((Frame.refl _ _ s).flag _ _ _ (by decide) (by simp [faultFields]) (by simp [faultFields])).set _ _
    (by simp [faultFields])).count _ _ (by simp [faultFields])

theorem State.feedDropped_frame (s : State) (u : Nat) : Frame [.evReq] (dropFields u) s (s.feedDropped u) :=
  (((Frame.refl _ _ s).set _ _ (by simp [dropFields])).flag _ _ _ (by decide) (by simp [dropFields])
    (by simp [dropFields])).count _ _ (by simp [dropFields])

theorem State.feedTaken_frame (s : State) (u : Nat) : Frame [.evReq] (feedTakenFields u) s (s.feedTaken u) :=
  ((Frame.refl _ _ s).set _ _ (by simp [feedTakenFields])).flag _ _ _ (by decide) (by simp [feedTakenFields])
    (by simp [feedTakenFields])

theorem State.faultLatched_fields (s : State) {u cause : Nat} (hu : u < 2) (hcause : cause < 16) :
    (s.faultLatched u cause).get (PU_STATUS_fault u) = 1 ∧ (s.faultLatched u cause).get (PU_STATUS_cause u) = cause ∧
      (s.faultLatched u cause).get (PU_CNT_faults u) =
        min (s.get (PU_CNT_faults u) + 1) (2 ^ (PU_CNT_faults u).width - 1) := by
  have hmod : cause % 2 ^ 4 = cause := Nat.mod_eq_of_lt hcause
  unfold State.faultLatched
  obtain rfl | rfl : u = 0 ∨ u = 1 := by omega
  all_goals
    refine ⟨?_, ?_, ?_⟩
    · refine (State.get_count_ne _ (by decide) _).trans ((State.get_set_ne _ (by decide) _).trans ?_)
      exact State.get_flag_same _ rfl (by decide) _ _
    · simp (disch := decide) only [State.get_count_ne, State.get_set_same]; exact hmod
    · simp (disch := decide) only [State.get_count_same, State.get_set_ne, State.get_flag_ne]

theorem State.feedDropped_fields (s : State) {u : Nat} (hu : u < 2) :
    (s.feedDropped u).get (PU_STATUS_feed_ok u) = 0 ∧ (s.feedDropped u).get (PU_CNT_feed_drop u) =
      min (s.get (PU_CNT_feed_drop u) + 1) (2 ^ (PU_CNT_feed_drop u).width - 1) := by
  unfold State.feedDropped
  obtain rfl | rfl : u = 0 ∨ u = 1 := by omega
  all_goals
    refine ⟨?_, ?_⟩
    · simp (disch := decide) only [State.get_count_ne, State.get_flag_ne, State.get_set_same]; rfl
    · simp (disch := decide) only [State.get_count_same, State.get_flag_ne, State.get_set_ne]

theorem State.feedTaken_ok (s : State) {u : Nat} (hu : u < 2) : (s.feedTaken u).get (PU_STATUS_feed_ok u) = 1 := by
  unfold State.feedTaken
  obtain rfl | rfl : u = 0 ∨ u = 1 := by omega
  all_goals simp (disch := decide) only [State.get_flag_ne, State.get_set_same]; rfl

/-! ## Starts and standby -/

theorem State.setLoop_frame (s : State) (u : Nat) (l : Loop) :
    Frame [.pwr] [LE_OUT_u u, LE_INT_LO_int u, LE_INT_HI_int u] s (s.setLoop u l) :=
  ((((s.setUnit_frame u _).mono (by decide) (by simp)).set _ _ (by simp)).set _ _ (by simp)).set _ _ (by simp)

theorem State.setLoop_unit (s : State) (u : Nat) (l : Loop) : (s.setLoop u l).unit u = { s.unit u with loop := l } :=
  s.unit_setUnit u _

def startFields (u : Nat) : List Fld := [LE_CTRL_use_host u, LE_CTRL_host_in_force u, LE_OUT_u u, LE_INT_LO_int u,
  LE_INT_HI_int u, PU_STATUS_role u, SV_ARB_STATUS_a_role, SV_ARB_STATUS_b_role, LE_CTRL_closed u, SV_ARB_STATUS_active]

/-- Unit `u` starts from off with the built-in set and loop, its reference rising from 0 (R439). -/
structure UnitStarted (u : Nat) (s t : State) : Prop where
  frame : Frame [.pwr] (startFields u) s t
  soft : (t.unit u).soft = some 0
  loop : (t.unit u).loop = Loop.new
  role : t.get (PU_STATUS_role u) = 3
  closed : t.get (LE_CTRL_closed u) = 1
  builtIn : t.get (LE_CTRL_host_in_force u) = 0
  active : t.get SV_ARB_STATUS_active = u

theorem UnitStarted.converting {u : Nat} {s t : State} (h : UnitStarted u s t) (hu : u < 2) : t.converting = true :=
  State.converting_of_switching hu (State.switching_of_soft h.soft)

/-- The built-in set and loop of a unit that starts. -/
def State.softBegun (s : State) (u : Nat) : State :=
  (((s.set (LE_CTRL_use_host u) 0).set (LE_CTRL_host_in_force u) 0).setUnit u { PUnit.new with soft := some 0 }).setLoop u
    Loop.new

theorem State.softBegun_frame (s : State) (u : Nat) : Frame [.pwr] [LE_CTRL_use_host u, LE_CTRL_host_in_force u,
    LE_OUT_u u, LE_INT_LO_int u, LE_INT_HI_int u] s (s.softBegun u) :=
  (((((Frame.refl [] _ s).set _ _ (by simp)).set _ _ (by simp)).mono (by decide) (List.Subset.refl _)).trans
    ((State.setUnit_frame _ u _).mono (by decide) (by simp))).trans ((State.setLoop_frame _ u _).mono (by decide) (by simp))

theorem State.softBegun_unit (s : State) (u : Nat) : (s.softBegun u).unit u = { PUnit.new with soft := some 0 } := by
  rw [State.softBegun, State.setLoop_unit, State.unit_setUnit]
  rfl

theorem State.startUnit_started (s : State) {u : Nat} (hu : u < 2) : UnitStarted u s (s.startUnit u) := by
  have heq : s.startUnit u = (((s.softBegun u).setRole u 3).set (LE_CTRL_closed u) 1).set SV_ARB_STATUS_active u := rfl
  rw [heq]
  have hbegun := s.softBegun_frame u
  have hunit := s.softBegun_unit u
  have hforce : (s.softBegun u).get (LE_CTRL_host_in_force u) = 0 := by
    refine ((State.setLoop_frame _ u _).get ?_).trans ((State.setUnit_frame _ u _).get (by simp) |>.trans
      (State.get_set_same _ _ _))
    obtain rfl | rfl : u = 0 ∨ u = 1 := by omega
    all_goals decide
  generalize s.softBegun u = a at hbegun hunit hforce ⊢
  have hrole := a.setRole_frame u 3
  have hthree := a.role_setRole hu (r := 3) (by decide)
  generalize a.setRole u 3 = b at hrole hthree ⊢
  have hlast : Frame [] [LE_CTRL_closed u, SV_ARB_STATUS_active] b ((b.set (LE_CTRL_closed u) 1).set SV_ARB_STATUS_active u) :=
    ((Frame.refl _ _ b).set _ _ (by simp)).set _ _ (by simp)
  have hactive : ((b.set (LE_CTRL_closed u) 1).set SV_ARB_STATUS_active u).get SV_ARB_STATUS_active = u :=
    State.get_set_fit _ _ hu
  have hframe : Frame [.pwr] (startFields u) s ((b.set (LE_CTRL_closed u) 1).set SV_ARB_STATUS_active u) := by
    refine ((hbegun.mono (by decide) ?_).trans (hrole.mono (by decide) ?_)).trans (hlast.mono (by decide) ?_)
    all_goals simp [startFields, roleFields]
  have hunit' : ((b.set (LE_CTRL_closed u) 1).set SV_ARB_STATUS_active u).unit u = { PUnit.new with soft := some 0 } := by
    rw [State.unit_congr (hlast.parts .pwr (by decide)), State.unit_congr (hrole.parts .pwr (by decide)), hunit]
  refine ⟨hframe, by rw [hunit'], by rw [hunit']; rfl, ?_, ?_, ?_, hactive⟩
  · refine (hlast.get ?_).trans hthree
    obtain rfl | rfl : u = 0 ∨ u = 1 := by omega
    all_goals decide
  · refine (State.get_set_ne _ ?_ _).trans (State.get_set_same _ _ _)
    obtain rfl | rfl : u = 0 ∨ u = 1 := by omega
    all_goals decide
  · refine (hlast.get ?_).trans ((hrole.get ?_).trans hforce)
    all_goals
      obtain rfl | rfl : u = 0 ∨ u = 1 := by omega
      all_goals decide

def standbyFields (u : Nat) : List Fld := [PU_STATUS_role u, SV_ARB_STATUS_a_role, SV_ARB_STATUS_b_role, LE_OUT_u u,
  LE_INT_LO_int u, LE_INT_HI_int u, PU_STATUS_peer_lost (other u), MG_EVLOG_merged]

/-- Unit `u` is in standby with the loop of the other unit (R439). -/
structure StoodBy (u : Nat) (s t : State) : Prop where
  frame : Frame [.evReq, .pwr] (standbyFields u) s t
  role : t.get (PU_STATUS_role u) = 1
  loop : (t.unit u).loop = (s.unit (other u)).loop
  peer : t.get (PU_STATUS_peer_lost (other u)) = 0

/-- Unit `u` with the loop of the other unit. -/
def State.standbyUnit (s : State) (u : Nat) : PUnit := { s.unit u with loop := (s.unit (other u)).loop, low := 0 }

theorem State.standby_stoodBy (s : State) {u : Nat} (hu : u < 2) : StoodBy u s (s.standby u) := by
  have heq : s.standby u = ((((s.setRole u 1).setUnit u (s.standbyUnit u)).setLoop u
      (((s.setRole u 1).setUnit u (s.standbyUnit u)).unit u).loop).set (PU_STATUS_peer_lost (other u)) 0).raise
      (puEvent u 6) := rfl
  rw [heq]
  have hrole := s.setRole_frame u 1
  have hone := s.role_setRole hu (r := 1) (by decide)
  generalize s.setRole u 1 = a at hrole hone ⊢
  have htaken : Frame [.pwr] [] a (a.setUnit u (s.standbyUnit u)) := a.setUnit_frame u _
  have hloop : ((a.setUnit u (s.standbyUnit u)).unit u).loop = (s.unit (other u)).loop := by
    rw [State.unit_setUnit]
    rfl
  generalize a.setUnit u (s.standbyUnit u) = b at htaken hloop ⊢
  have hset := b.setLoop_frame u (b.unit u).loop
  have hunit := b.setLoop_unit u (b.unit u).loop
  generalize b.setLoop u (b.unit u).loop = c at hset hunit ⊢
  have hpeer : Frame [] [PU_STATUS_peer_lost (other u)] c (c.set (PU_STATUS_peer_lost (other u)) 0) :=
    (Frame.refl _ _ c).set _ _ (by simp)
  have hzero : (c.set (PU_STATUS_peer_lost (other u)) 0).get (PU_STATUS_peer_lost (other u)) = 0 :=
    State.get_set_same _ _ _
  generalize c.set (PU_STATUS_peer_lost (other u)) 0 = d at hpeer hzero ⊢
  have hraise : Frame [.evReq] [MG_EVLOG_merged] d (d.raise (puEvent u 6)) :=
    (Frame.refl _ _ d).raise _ _ (by decide) (by simp)
  refine ⟨?_, ?_, ?_, ?_⟩
  · refine ((((hrole.mono (by decide) ?_).trans (htaken.mono (by decide) ?_)).trans (hset.mono (by decide) ?_)).trans
      (hpeer.mono (by decide) ?_)).trans (hraise.mono (by decide) ?_)
    all_goals simp [standbyFields, roleFields]
  · refine (hraise.get ?_).trans ((hpeer.get ?_).trans ((hset.get ?_).trans ((htaken.get (by simp)).trans hone)))
    all_goals
      obtain rfl | rfl : u = 0 ∨ u = 1 := by omega
      all_goals decide
  · rw [State.unit_congr (hraise.parts .pwr (by decide)), State.unit_congr (hpeer.parts .pwr (by decide)), hunit]
    exact hloop
  · refine (hraise.get ?_).trans hzero
    obtain rfl | rfl : u = 0 ∨ u = 1 := by omega
    all_goals decide

theorem State.returnUnit_of_ready {s : State} {u : Nat} (hshut : s.shut.contains (.unit u) = false)
    (hrole : s.get (PU_STATUS_role u) = 0) (hready : s.unitReady u = true) (hconv : s.converting = true) :
    s.returnUnit u = s.standby u := by
  unfold State.returnUnit
  rw [hshut, if_neg (by decide), if_pos ⟨hrole, hready, hconv⟩]

theorem State.returnUnit_of_busy {s : State} {u : Nat} (hshut : s.shut.contains (.unit u) = false)
    (hrole : s.get (PU_STATUS_role u) ≠ 0) : s.returnUnit u = s := by
  unfold State.returnUnit
  rw [hshut, if_neg (by decide), if_neg (fun h => hrole h.1)]

theorem State.unitReady_of {s : State} {u : Nat} (hfeed : s.on (PU_STATUS_feed_ok u) = true)
    (hfault : s.on (PU_STATUS_fault u) = false) (hout : s.on (PU_CTRL_out u) = false) : s.unitReady u = true := by
  rw [State.unitReady, hfeed, hfault, hout]; rfl

end Sys2Proof.Machine
end

section
/-! SUPPORT and PROOF. The commands on feeds, faults and service of the power units (R417, R440, R442, R444). -/

namespace Sys2Proof.Machine

open Sys2Proof

/-- The register blocks of the power units and the supervisor, with the count of merged events. -/
def powerBlocks : List (Nat × Nat) := [(0x50000000, 0x52FFFFFF), (0x1000C210, 0x1000C210)]

/-- A frame of fields of the units is one of their blocks. -/
theorem Frame.powerFrame {fs : List Fld} {s t : State} (h : Frame powerParts fs s t)
    (hf : (fs.all fun f => inBlocks powerBlocks (f.key / 32)) = true) : BlockFrame powerParts powerBlocks s t :=
  h.blockFrame fun f hm => List.all_eq_true.mp hf f hm

section
variable {u : Nat} (hu : u < 2) (s : State)
include hu

theorem exec_feedQualified : exec (.feedQualified u) s = .next (feedQualified u s) :=
  effect_of_wf (c := .feedQualified u) (decide_eq_true hu) (feedQualified u) s

theorem exec_feedOutOfRange : exec (.feedOutOfRange u) s = .next (feedOutOfRange u s) :=
  effect_of_wf (c := .feedOutOfRange u) (decide_eq_true hu) (feedOutOfRange u) s

theorem exec_unitOvertemperature : exec (.unitOvertemperature u) s = .next (s.unitFault u 5) :=
  effect_of_wf (c := .unitOvertemperature u) (decide_eq_true hu) (unitOvertemperature u) s

theorem exec_puTempWarning : exec (.puTempWarning u) s = .next (s.flag (PU_STATUS_temp_warn u) (puEvent u 3)) :=
  effect_of_wf (c := .puTempWarning u) (decide_eq_true hu) (puTempWarning u) s

theorem exec_puOut (out : Bool) : exec (.puOut u out) s = .next (puOut u out s) :=
  effect_of_wf (c := .puOut u out) (decide_eq_true hu) (puOut u out) s

theorem exec_puFaultClear : exec (.puFaultClear u) s = .next (puFaultClear u s) :=
  effect_of_wf (c := .puFaultClear u) (decide_eq_true hu) (puFaultClear u) s

end

theorem exec_lastUnitRestart (again : Bool) (s : State) :
    exec (.lastUnitRestart again) s = .next (lastUnitRestart again s) :=
  effect_of_wf rfl (lastUnitRestart again) s

/-! ## Feeds -/

theorem State.converting_congr {s t : State} (h : ∀ u, u < 2 → t.get (PU_STATUS_role u) = s.get (PU_STATUS_role u))
    (hpwr : t.pwr = s.pwr) : t.converting = s.converting := by
  rw [State.converting, State.switching_congr (h 0 (by decide)) hpwr, State.switching_congr (h 1 (by decide)) hpwr,
    State.converting]

section
variable {s : State} {u : Nat} (hu : u < 2) (hoff : s.on (PU_STATUS_feed_ok u) = false)
include hu

theorem State.feedTaken_role (v : Nat) (hv : v < 2) :
    (s.feedTaken u).get (PU_STATUS_role v) = s.get (PU_STATUS_role v) := by
  refine (s.feedTaken_frame u).get ?_
  obtain rfl | rfl : u = 0 ∨ u = 1 := by omega
  all_goals
    obtain rfl | rfl : v = 0 ∨ v = 1 := by omega
    all_goals decide

theorem State.feedTaken_converting : (s.feedTaken u).converting = s.converting :=
  State.converting_congr (State.feedTaken_role hu) ((s.feedTaken_frame u).parts .pwr (by decide))

theorem State.feedTaken_out : (s.feedTaken u).on (PU_CTRL_out u) = s.on (PU_CTRL_out u) := by
  rw [State.on, State.on, (s.feedTaken_frame u).get]
  obtain rfl | rfl : u = 0 ∨ u = 1 := by omega
  all_goals decide

theorem State.feedTaken_ready (hfault : s.on (PU_STATUS_fault u) = false) (hout : s.on (PU_CTRL_out u) = false) :
    (s.feedTaken u).unitReady u = true := by
  refine State.unitReady_of (State.on_eq_of_get (s.feedTaken_ok hu)) ?_ (by rw [State.feedTaken_out hu, hout])
  rw [State.on, (s.feedTaken_frame u).get, ← State.on, hfault]
  obtain rfl | rfl : u = 0 ∨ u = 1 := by omega
  all_goals decide

include hoff

theorem feedQualified_of_start (hconv : s.converting = false) (hshut : s.shut.contains .conversion = false) :
    feedQualified u s = (s.feedTaken u).convStart := by
  have hshut' : (s.feedTaken u).shut.contains .conversion = false := by
    rw [(s.feedTaken_frame u).parts .shut (by decide), hshut]
  have htaken : feedQualified u s = if (s.feedTaken u).converting then
      (if (s.feedTaken u).on (PU_CTRL_out u) then s.feedTaken u else (s.feedTaken u).returnUnit u)
    else if (s.feedTaken u).shut.contains .conversion then (s.feedTaken u).svHold SV_PENDING_ENABLE_module
    else (s.feedTaken u).convStart := if_neg (by simp [hoff])
  rw [htaken, State.feedTaken_converting hu, hconv, hshut', if_neg (by decide), if_neg (by decide)]

theorem feedQualified_of_running (hconv : s.converting = true) (hout : s.on (PU_CTRL_out u) = false) :
    feedQualified u s = (s.feedTaken u).returnUnit u := by
  have htaken : feedQualified u s = if (s.feedTaken u).converting then
      (if (s.feedTaken u).on (PU_CTRL_out u) then s.feedTaken u else (s.feedTaken u).returnUnit u)
    else if (s.feedTaken u).shut.contains .conversion then (s.feedTaken u).svHold SV_PENDING_ENABLE_module
    else (s.feedTaken u).convStart := if_neg (by simp [hoff])
  rw [htaken, State.feedTaken_converting hu, hconv, if_pos rfl, State.feedTaken_out hu, hout, if_neg (by decide)]

end

/-- The first unit that is off and ready starts, PU-A before PU-B (R439). -/
theorem State.convStart_of {s : State} {u : Nat} (hu : u < 2) (hrole : s.get (PU_STATUS_role u) = 0)
    (hready : s.unitReady u = true)
    (hfirst : u = 0 ∨ s.get (PU_STATUS_role 0) ≠ 0 ∨ s.unitReady 0 = false) : s.convStart = s.startUnit u := by
  unfold State.convStart
  obtain rfl | rfl : u = 0 ∨ u = 1 := by omega
  · rw [if_pos ⟨hrole, hready⟩]
  · have hno : ¬(s.get (PU_STATUS_role 0) = 0 ∧ s.unitReady 0 = true) := by
      rintro ⟨hzero, hyes⟩
      rcases hfirst with h | h | h
      · exact absurd h (by decide)
      · exact h hzero
      · rw [h] at hyes; cases hyes
    rw [if_neg hno, if_pos ⟨hrole, hready⟩]

section
variable {s : State} {u : Nat} (hu : u < 2)
include hu

/-- A feed that qualifies while conversion does not run starts its unit. -/
theorem feedQualified_starts (hoff : s.on (PU_STATUS_feed_ok u) = false) (hconv : s.converting = false)
    (hshut : s.shut.contains .conversion = false) (hrole : s.get (PU_STATUS_role u) = 0)
    (hfault : s.on (PU_STATUS_fault u) = false) (hout : s.on (PU_CTRL_out u) = false)
    (hfirst : u = 0 ∨ s.get (PU_STATUS_role 0) ≠ 0 ∨ s.unitReady 0 = false) :
    let t := feedQualified u s
    t.get (PU_STATUS_feed_ok u) = 1 ∧ (t.unit u).soft = some 0 ∧ (t.unit u).loop = Loop.new ∧
      t.get (PU_STATUS_role u) = 3 ∧ t.get (LE_CTRL_closed u) = 1 ∧ t.get (LE_CTRL_host_in_force u) = 0 ∧
      t.get SV_ARB_STATUS_active = u ∧ t.converting = true ∧ BlockFrame powerParts powerBlocks s t := by
  have hframe := s.feedTaken_frame u
  have hfirst' : u = 0 ∨ (s.feedTaken u).get (PU_STATUS_role 0) ≠ 0 ∨ (s.feedTaken u).unitReady 0 = false := by
    obtain rfl | rfl : u = 0 ∨ u = 1 := by omega
    · exact .inl rfl
    · rw [State.feedTaken_role (by decide) 0 (by decide),
        State.unitReady_congr (hframe.get (by decide)) (hframe.get (by decide)) (hframe.get (by decide))]
      exact hfirst
  have hready := State.feedTaken_ready hu hfault hout
  have hok := s.feedTaken_ok hu
  have hoffRole := (State.feedTaken_role (s := s) hu u hu).trans hrole
  dsimp only
  rw [feedQualified_of_start hu hoff hconv hshut, State.convStart_of hu hoffRole hready hfirst']
  generalize s.feedTaken u = a at hframe hok ⊢
  have hstart := a.startUnit_started hu
  have hok' : (a.startUnit u).get (PU_STATUS_feed_ok u) = 1 := by
    refine (hstart.frame.get ?_).trans hok
    obtain rfl | rfl : u = 0 ∨ u = 1 := by omega
    all_goals decide
  refine ⟨hok', hstart.soft, hstart.loop, hstart.role, hstart.closed, hstart.builtIn, hstart.active,
    hstart.converting hu, ?_⟩
  have hall : Frame powerParts (feedTakenFields u ++ startFields u) s (a.startUnit u) :=
    (hframe.mono (by decide) (by simp)).trans (hstart.frame.mono (by decide) (by simp))
  refine hall.powerFrame ?_
  obtain rfl | rfl : u = 0 ∨ u = 1 := by omega
  all_goals decide

/-- A feed that qualifies while conversion runs brings its unit into standby. -/
theorem feedQualified_stands (hoff : s.on (PU_STATUS_feed_ok u) = false) (hconv : s.converting = true)
    (hrole : s.get (PU_STATUS_role u) = 0) (hfault : s.on (PU_STATUS_fault u) = false)
    (hout : s.on (PU_CTRL_out u) = false) (hshut : s.shut.contains (.unit u) = false) :
    let t := feedQualified u s
    t.get (PU_STATUS_feed_ok u) = 1 ∧ t.get (PU_STATUS_role u) = 1 ∧ (t.unit u).loop = (s.unit (other u)).loop ∧
      t.get (PU_STATUS_peer_lost (other u)) = 0 ∧ BlockFrame powerParts powerBlocks s t := by
  have hframe := s.feedTaken_frame u
  have hready := State.feedTaken_ready hu hfault hout
  have hok := s.feedTaken_ok hu
  have hoffRole := (State.feedTaken_role (s := s) hu u hu).trans hrole
  have hshut' : (s.feedTaken u).shut.contains (.unit u) = false := by rw [hframe.parts .shut (by decide), hshut]
  have hconv' := (State.feedTaken_converting (s := s) hu).trans hconv
  dsimp only
  rw [feedQualified_of_running hu hoff hconv hout, State.returnUnit_of_ready hshut' hoffRole hready hconv']
  generalize s.feedTaken u = a at hframe hok ⊢
  have hstand := a.standby_stoodBy hu
  have hok' : (a.standby u).get (PU_STATUS_feed_ok u) = 1 := by
    refine (hstand.frame.get ?_).trans hok
    obtain rfl | rfl : u = 0 ∨ u = 1 := by omega
    all_goals decide
  refine ⟨hok', hstand.role, ?_, hstand.peer, ?_⟩
  · rw [hstand.loop, State.unit_congr (hframe.parts .pwr (by decide))]
  · have hall : Frame powerParts (feedTakenFields u ++ standbyFields u) s (a.standby u) :=
      (hframe.mono (by decide) (by simp)).trans (hstand.frame.mono (by decide) (by simp))
    refine hall.powerFrame ?_
    obtain rfl | rfl : u = 0 ∨ u = 1 := by omega
    all_goals decide

/-! ## A unit drops out -/

/-- The state in which a unit drops out: its cause is recorded in fields that its stop does not read. -/
structure DropCause (u : Nat) (fs : List Fld) (s a : State) : Prop where
  frame : Frame [.evReq] fs s a
  inBlock : (fs.all fun f => inBlocks powerBlocks (f.key / 32)) = true
  beside : ∀ f ∈ [PU_STATUS_role u, PU_STATUS_role (other u), PU_STATUS_feed_ok (other u), PU_STATUS_fault (other u),
    PU_CTRL_out (other u)], ∀ g ∈ fs, f.key ≠ g.key

theorem State.faultLatched_cause (s : State) (cause : Nat) : DropCause u (faultFields u) s (s.faultLatched u cause) := by
  refine ⟨s.faultLatched_frame u cause, ?_, ?_⟩
  all_goals
    obtain rfl | rfl : u = 0 ∨ u = 1 := by omega
    all_goals decide

theorem State.feedDropped_cause (s : State) : DropCause u (dropFields u) s (s.feedDropped u) := by
  refine ⟨s.feedDropped_frame u, ?_, ?_⟩
  all_goals
    obtain rfl | rfl : u = 0 ∨ u = 1 := by omega
    all_goals decide

section
variable {a : State} {fs : List Fld} (h : DropCause u fs s a)
include h
omit hu

theorem DropCause.role : a.get (PU_STATUS_role u) = s.get (PU_STATUS_role u) :=
  h.frame.get (h.beside _ (by simp))

theorem DropCause.roleOther : a.get (PU_STATUS_role (other u)) = s.get (PU_STATUS_role (other u)) :=
  h.frame.get (h.beside _ (by simp))

theorem DropCause.ready : a.unitReady (other u) = s.unitReady (other u) :=
  State.unitReady_congr (h.frame.get (h.beside _ (by simp))) (h.frame.get (h.beside _ (by simp)))
    (h.frame.get (h.beside _ (by simp)))

theorem DropCause.shut : a.shut = s.shut := h.frame.parts .shut (by decide)

theorem DropCause.pwr : a.pwr = s.pwr := h.frame.parts .pwr (by decide)

include hu

/-- The active unit drops out and its ready standby takes over. -/
theorem DropCause.failsOver (hrole : s.get (PU_STATUS_role u) = 2) (hstandby : s.get (PU_STATUS_role (other u)) = 1)
    (hready : s.unitReady (other u) = true) (hshut : s.shut.contains (.unit u) = false) :
    FailedOver u a (a.dropUnit u) ∧ BlockFrame powerParts powerBlocks s (a.dropUnit u) ∧
      (a.dropUnit u).shut.contains (.unit u) = true := by
  have hrole' := h.role.trans hrole
  rw [State.dropUnit_of_switching (State.switching_of_active hrole')]
  have hover := State.failover_failedOver hu (by rw [hrole']; decide) (by rw [h.shut, hshut]) (h.roleOther.trans hstandby)
    (h.ready.trans hready)
  refine ⟨hover, ?_, by rw [hover.shut]; simp⟩
  refine ((h.frame.mono (by decide) (List.Subset.refl _)).powerFrame h.inBlock).trans (hover.frame.powerFrame ?_)
  obtain rfl | rfl : u = 0 ∨ u = 1 := by omega
  all_goals decide

/-- The last switching unit drops out, and conversion with it. -/
theorem DropCause.stopsConversion (hrole : s.get (PU_STATUS_role u) = 2) (hoff : s.get (PU_STATUS_role (other u)) = 0)
    (hsoft : (s.unit (other u)).soft = none) (hshut : s.shut.contains (.unit u) = false)
    (hconv : s.shut.contains .conversion = false) : Frame powerParts (stopFields u) a (a.dropUnit u) ∧
      (a.dropUnit u).shut.contains .conversion = true ∧ (a.dropUnit u).converting = false ∧
      BlockFrame powerParts powerBlocks s (a.dropUnit u) := by
  have hrole' := h.role.trans hrole
  rw [State.dropUnit_of_switching (State.switching_of_active hrole')]
  obtain ⟨hframe, hend, hstill⟩ := State.failover_stops hu (by rw [hrole']; decide) (by rw [h.shut, hshut])
    (h.roleOther.trans hoff) (by rw [State.unit_congr h.pwr, hsoft]) (by rw [h.shut, hconv])
  refine ⟨hframe, hend, hstill, ?_⟩
  refine ((h.frame.mono (by decide) (List.Subset.refl _)).powerFrame h.inBlock).trans (hframe.powerFrame ?_)
  obtain rfl | rfl : u = 0 ∨ u = 1 := by omega
  all_goals decide

/-- A standby drops out. -/
theorem DropCause.stops (hrole : s.get (PU_STATUS_role u) = 1) (hsoft : (s.unit u).soft = none)
    (hshut : s.shut.contains (.unit u) = false) : UnitStopped u a (a.dropUnit u) ∧
      BlockFrame powerParts powerBlocks s (a.dropUnit u) ∧ (a.dropUnit u).shut.contains (.unit u) = true := by
  have hrole' := h.role.trans hrole
  have hstill : a.switching u = false :=
    State.switching_of_still (by rw [hrole']; decide) (by rw [State.unit_congr h.pwr, hsoft])
  rw [State.dropUnit_of_still hstill]
  have hstop := State.stopUnit_stopped hu (by rw [hrole']; decide) (by rw [h.shut, hshut])
  refine ⟨hstop, ?_, by rw [hstop.shut]; simp⟩
  refine ((h.frame.mono (by decide) (List.Subset.refl _)).powerFrame h.inBlock).trans (hstop.frame.powerFrame ?_)
  obtain rfl | rfl : u = 0 ∨ u = 1 := by omega
  all_goals decide

end

end

end Sys2Proof.Machine
end

section
/-! PROOF. Feeds and faults start and stop the units (R417, R440, R442, R444). -/

namespace Sys2Proof.Machine

open Sys2Proof

section
variable {s : State} {u : Nat} (hu : u < 2)
include hu

/-- A unit taken out of standby stops. -/
theorem puOut_of_standby (hrole : s.get (PU_STATUS_role u) = 1) (hshut : s.shut.contains (.unit u) = false)
    (hpend : s.on (pendUnit u) = false) : (puOut u true s).get (PU_CTRL_out u) = 1 ∧
      (puOut u true s).get (PU_STATUS_role u) = 3 ∧ (puOut u true s).shut.contains (.unit u) = true := by
  have heq : puOut u true s = (s.set (PU_CTRL_out u) 1).stopUnit u := by
    unfold puOut
    rw [if_neg (by decide), hpend, if_neg (by decide), if_pos hrole]
  rw [heq]
  have hrole' : (s.set (PU_CTRL_out u) 1).get (PU_STATUS_role u) ≠ 0 := by
    rw [State.get_set_ne _ (by obtain rfl | rfl : u = 0 ∨ u = 1 := by omega
                               all_goals decide), hrole]
    decide
  have hstop := State.stopUnit_stopped (s := s.set (PU_CTRL_out u) 1) hu hrole' hshut
  refine ⟨(hstop.frame.get ?_).trans (State.get_set_same _ _ _), hstop.role, by rw [hstop.shut]; simp⟩
  obtain rfl | rfl : u = 0 ∨ u = 1 := by omega
  all_goals decide

/-- A change of one field that the return of a unit does not read. -/
theorem State.returnUnit_stands {a : State} {f : Fld} (h : Frame [] [f] s a)
    (hf : ∀ v, v < 2 → (PU_STATUS_role v).key ≠ f.key)
    (hshut : s.shut.contains (.unit u) = false) (hrole : s.get (PU_STATUS_role u) = 0) (hready : a.unitReady u = true)
    (hconv : s.converting = true) : StoodBy u a (a.returnUnit u) := by
  have hroles (v : Nat) (hv : v < 2) : a.get (PU_STATUS_role v) = s.get (PU_STATUS_role v) :=
    h.get (by simpa using hf v hv)
  rw [State.returnUnit_of_ready (by rw [h.parts .shut (by decide), hshut]) ((hroles u hu).trans hrole) hready
    ((State.converting_congr hroles (h.parts .pwr (by decide))).trans hconv)]
  exact a.standby_stoodBy hu

/-- A unit put back in service returns to standby. -/
theorem puOut_of_return (hrole : s.get (PU_STATUS_role u) = 0) (hconv : s.converting = true)
    (hshut : s.shut.contains (.unit u) = false) (hfeed : s.on (PU_STATUS_feed_ok u) = true)
    (hfault : s.on (PU_STATUS_fault u) = false) (hassay : s.svc.assay = none) :
    (puOut u false s).get (PU_CTRL_out u) = 0 ∧ (puOut u false s).get (PU_STATUS_role u) = 1 ∧
      ((puOut u false s).unit u).loop = (s.unit (other u)).loop := by
  have hset : Frame [] [PU_CTRL_out u] s (s.set (PU_CTRL_out u) 0) := (Frame.refl _ _ s).set _ _ (by simp)
  have hzero : (s.set (PU_CTRL_out u) 0).get (PU_CTRL_out u) = 0 := State.get_set_same _ _ _
  have hready : (s.set (PU_CTRL_out u) 0).unitReady u = true := by
    refine State.unitReady_of ?_ ?_ (State.on_eq_of_get hzero)
    · rw [State.on_set_ne s ?_, hfeed]
      obtain rfl | rfl : u = 0 ∨ u = 1 := by omega
      all_goals decide
    · rw [State.on_set_ne s ?_, hfault]
      obtain rfl | rfl : u = 0 ∨ u = 1 := by omega
      all_goals decide
  have hkeys (v : Nat) (hv : v < 2) : (PU_STATUS_role v).key ≠ (PU_CTRL_out u).key := by
    simp only [Fld.key, PU_STATUS_role, PU_CTRL_out]; omega
  have hstand := State.returnUnit_stands hu hset hkeys hshut hrole hready hconv
  have heq : puOut u false s = (s.set (PU_CTRL_out u) 0).returnUnit u :=
    State.assayCheck_of_none (by rw [hstand.frame.parts .svc (by decide), hset.parts .svc (by decide), hassay])
  rw [heq]
  refine ⟨(hstand.frame.get ?_).trans hzero, hstand.role, ?_⟩
  · obtain rfl | rfl : u = 0 ∨ u = 1 := by omega
    all_goals decide
  · rw [hstand.loop, State.unit_congr (hset.parts .pwr (by decide))]

/-- A unit whose fault is cleared while it is off returns to standby. -/
theorem puFaultClear_of_return (hfault : s.on (PU_STATUS_fault u) = true) (hrole : s.get (PU_STATUS_role u) = 0)
    (hshut : s.shut.contains (.unit u) = false) (hfeed : s.on (PU_STATUS_feed_ok u) = true)
    (hout : s.on (PU_CTRL_out u) = false) (hconv : s.converting = true) :
    (puFaultClear u s).get (PU_STATUS_fault u) = 0 ∧ (puFaultClear u s).get (PU_STATUS_role u) = 1 := by
  have hset : Frame [] [PU_STATUS_fault u] s (s.set (PU_STATUS_fault u) 0) := (Frame.refl _ _ s).set _ _ (by simp)
  have hzero : (s.set (PU_STATUS_fault u) 0).get (PU_STATUS_fault u) = 0 := State.get_set_same _ _ _
  have hready : (s.set (PU_STATUS_fault u) 0).unitReady u = true := by
    refine State.unitReady_of ?_ (State.on_eq_of_get hzero) ?_
    · rw [State.on_set_ne s ?_, hfeed]
      obtain rfl | rfl : u = 0 ∨ u = 1 := by omega
      all_goals decide
    · rw [State.on_set_ne s ?_, hout]
      obtain rfl | rfl : u = 0 ∨ u = 1 := by omega
      all_goals decide
  have hkeys (v : Nat) (hv : v < 2) : (PU_STATUS_role v).key ≠ (PU_STATUS_fault u).key := by
    simp only [Fld.key, PU_STATUS_role, PU_STATUS_fault]; omega
  have hstand := State.returnUnit_stands hu hset hkeys hshut hrole hready hconv
  have heq : puFaultClear u s = (s.set (PU_STATUS_fault u) 0).returnUnit u := if_pos hfault
  rw [heq]
  refine ⟨(hstand.frame.get ?_).trans hzero, hstand.role⟩
  obtain rfl | rfl : u = 0 ∨ u = 1 := by omega
  all_goals decide

omit hu in
theorem puFaultClear_of_busy (hfault : s.on (PU_STATUS_fault u) = true) (hrole : s.get (PU_STATUS_role u) = 3)
    (hshut : s.shut.contains (.unit u) = false) : puFaultClear u s = s.set (PU_STATUS_fault u) 0 := by
  have hrole' : (s.set (PU_STATUS_fault u) 0).get (PU_STATUS_role u) ≠ 0 := by
    rw [State.get_set_ne _ (by simp only [Fld.key, PU_STATUS_role, PU_STATUS_fault]; omega), hrole]
    decide
  exact (if_pos hfault).trans (State.returnUnit_of_busy (s := s.set (PU_STATUS_fault u) 0) hshut hrole')

omit hu in
theorem lastUnitRestart_of_running (again : Bool) (h : s.converting = true ∨ s.shut.contains .conversion = true) :
    lastUnitRestart again s = s := by
  have h' : (s.converting || s.shut.contains .conversion) = true := by
    rcases h with h | h
    · rw [h, Bool.true_or]
    · rw [h, Bool.or_true]
  unfold lastUnitRestart
  dsimp only
  rw [h']
  rfl

/-- The last unit is tried again (R442). -/
def State.retried (s : State) (u : Nat) : State :=
  (s.set (PU_STATUS_fault u) 0).set SV_ARB_STATUS_restarts (s.get SV_ARB_STATUS_restarts + 1)

theorem lastUnitRestart_of_failed (again : Bool) (hconv : s.converting = false)
    (hend : s.shut.contains .conversion = false) (hshut : s.shut.contains (.unit u) = false)
    (hfeed : s.on (PU_STATUS_feed_ok u) = true) (hfirst : u = 0 ∨ s.on (PU_STATUS_feed_ok 0) = false)
    (hfault : s.on (PU_STATUS_fault u) = true) (hlt : s.get SV_ARB_STATUS_restarts < 3) :
    lastUnitRestart again s = (s.retried u).startUnit u := by
  have hunit : (if s.on (PU_STATUS_feed_ok 0) then 0 else 1) = u := by
    obtain rfl | rfl : u = 0 ∨ u = 1 := by omega
    · exact if_pos hfeed
    · exact if_neg (by simpa using hfirst)
  have hcount : (if again && s.get SV_ARB_STATUS_restarts == 3 then 0 else s.get SV_ARB_STATUS_restarts) =
      s.get SV_ARB_STATUS_restarts := if_neg (by simp; omega)
  unfold lastUnitRestart
  dsimp only
  rw [hunit, hcount, hconv, hend, hshut, hfeed, hfault, decide_eq_false (by omega)]
  rfl

theorem lastUnitRestart_starts (again : Bool) (hconv : s.converting = false)
    (hend : s.shut.contains .conversion = false) (hshut : s.shut.contains (.unit u) = false)
    (hfeed : s.on (PU_STATUS_feed_ok u) = true) (hfirst : u = 0 ∨ s.on (PU_STATUS_feed_ok 0) = false)
    (hfault : s.on (PU_STATUS_fault u) = true) (hlt : s.get SV_ARB_STATUS_restarts < 3) :
    let t := lastUnitRestart again s
    t.get (PU_STATUS_fault u) = 0 ∧ t.get SV_ARB_STATUS_restarts = s.get SV_ARB_STATUS_restarts + 1 ∧
      (t.unit u).soft = some 0 ∧ t.get SV_ARB_STATUS_active = u ∧ t.converting = true ∧
      BlockFrame powerParts powerBlocks s t := by
  dsimp only
  rw [lastUnitRestart_of_failed hu again hconv hend hshut hfeed hfirst hfault hlt]
  have hframe : Frame [] [PU_STATUS_fault u, SV_ARB_STATUS_restarts] s (s.retried u) :=
    ((Frame.refl _ _ s).set _ _ (by simp)).set _ _ (by simp)
  have hcount : (s.retried u).get SV_ARB_STATUS_restarts = s.get SV_ARB_STATUS_restarts + 1 :=
    State.get_set_fit _ _ (show s.get SV_ARB_STATUS_restarts + 1 < 2 ^ 4 by omega)
  have hclear : (s.retried u).get (PU_STATUS_fault u) = 0 := by
    refine (State.get_set_ne _ ?_ _).trans (State.get_set_same _ _ _)
    simp only [Fld.key, PU_STATUS_fault, SV_ARB_STATUS_restarts]; omega
  generalize s.retried u = a at hframe hcount hclear ⊢
  have hstart := a.startUnit_started hu
  refine ⟨(hstart.frame.get ?_).trans hclear, (hstart.frame.get ?_).trans hcount, hstart.soft, hstart.active,
    hstart.converting hu, ?_⟩
  · obtain rfl | rfl : u = 0 ∨ u = 1 := by omega
    all_goals decide
  · obtain rfl | rfl : u = 0 ∨ u = 1 := by omega
    all_goals decide
  · have hall : Frame powerParts ([PU_STATUS_fault u, SV_ARB_STATUS_restarts] ++ startFields u) s (a.startUnit u) :=
      (hframe.mono (by decide) (by simp)).trans (hstart.frame.mono (by decide) (by simp))
    refine hall.powerFrame ?_
    obtain rfl | rfl : u = 0 ∨ u = 1 := by omega
    all_goals decide

end

/-- Settles O41: a feed or a fault starts, stops or relieves the unit that its branch names. -/
theorem feedsAndFaultsStartAndStopUnits : Obligations.FeedsAndFaultsStartAndStopUnits := by
  unfold Obligations.FeedsAndFaultsStartAndStopUnits
  refine ⟨?_, ?_, ?_, ?_, ?_, ?_, ?_, ?_, ?_, ?_, ?_, ?_, ?_, ?_, ?_, ?_, ?_, ?_⟩
  · intro s u hu hok
    rw [exec_feedQualified hu, feedQualified, if_pos hok]
  · intro s u hu hoff hconv hshut hrole hfault hout hfirst
    exact ⟨_, exec_feedQualified hu s, feedQualified_starts hu hoff hconv hshut hrole hfault hout hfirst⟩
  · intro s u hu hoff hconv hrole hfault hout hshut
    exact ⟨_, exec_feedQualified hu s, feedQualified_stands hu hoff hconv hrole hfault hout hshut⟩
  · intro s u hu hoff
    rw [exec_feedOutOfRange hu, feedOutOfRange, if_neg (by simp [hoff])]
  · intro s u hu hok hrole hshut hsoft
    have hcause := s.feedDropped_cause hu
    obtain ⟨hstop, hblock, hcontains⟩ := hcause.stops hu hrole hsoft hshut
    obtain ⟨hfeed, hcount⟩ := s.feedDropped_fields hu
    refine ⟨_, exec_feedOutOfRange hu s, ?_⟩
    rw [feedOutOfRange_of_on hok]
    refine ⟨(hstop.frame.get ?_).trans hfeed, (hstop.frame.get ?_).trans hcount, hstop.role, hcontains,
      (hstop.frame.get ?_).trans hcause.roleOther, hblock⟩
    all_goals
      obtain rfl | rfl : u = 0 ∨ u = 1 := by omega
      all_goals decide
  · intro s u hu hok hrole hstandby hready hshut
    have hcause := s.feedDropped_cause hu
    obtain ⟨hover, hblock, hcontains⟩ := hcause.failsOver hu hrole hstandby hready hshut
    obtain ⟨hfeed, hcount⟩ := s.feedDropped_fields hu
    refine ⟨_, exec_feedOutOfRange hu s, ?_⟩
    rw [feedOutOfRange_of_on hok]
    refine ⟨(hover.frame.get ?_).trans hfeed, (hover.frame.get ?_).trans hcount, hover.roleStopped, hover.roleTaken,
      hover.active, hcontains, hover.closed, hover.blank, hblock⟩
    all_goals
      obtain rfl | rfl : u = 0 ∨ u = 1 := by omega
      all_goals decide
  · intro s u hu hfault
    rw [exec_unitOvertemperature hu, State.unitFault, if_pos hfault]
  · intro s u hu hfault hrole hstandby hready hshut
    obtain ⟨hover, hblock, hcontains⟩ := (s.faultLatched_cause hu 5).failsOver hu hrole hstandby hready hshut
    obtain ⟨hlatched, hcause, hcount⟩ := s.faultLatched_fields hu (cause := 5) (by decide)
    refine ⟨_, exec_unitOvertemperature hu s, ?_⟩
    rw [State.unitFault_of_clear hfault]
    refine ⟨(hover.frame.get ?_).trans hlatched, (hover.frame.get ?_).trans hcause, (hover.frame.get ?_).trans hcount,
      hover.roleStopped, hover.roleTaken, hover.active, hcontains, hover.closed, hover.blank, hblock⟩
    all_goals
      obtain rfl | rfl : u = 0 ∨ u = 1 := by omega
      all_goals decide
  · intro s u hu hfault hrole hoff hsoft hshut hconv
    obtain ⟨hframe, hend, hstill, hblock⟩ :=
      (s.faultLatched_cause hu 5).stopsConversion hu hrole hoff hsoft hshut hconv
    obtain ⟨hlatched, -, -⟩ := s.faultLatched_fields hu (cause := 5) (by decide)
    refine ⟨_, exec_unitOvertemperature hu s, ?_⟩
    rw [State.unitFault_of_clear hfault]
    refine ⟨(hframe.get ?_).trans hlatched, hend, hstill, hblock⟩
    obtain rfl | rfl : u = 0 ∨ u = 1 := by omega
    all_goals decide
  · intro s u hu
    exact exec_puTempWarning hu s
  · intro s u hu hrole hshut hpend
    exact ⟨_, exec_puOut hu s true, puOut_of_standby hu hrole hshut hpend⟩
  · intro s u hu hrole hpend
    rw [exec_puOut hu, puOut, if_neg (by decide), hpend, if_neg (by decide), if_neg (by rw [hrole]; decide)]
  · intro s u hu hrole hconv hshut hfeed hfault hassay
    exact ⟨_, exec_puOut hu s false, puOut_of_return hu hrole hconv hshut hfeed hfault hassay⟩
  · intro s u hu hfault hrole hshut
    rw [exec_puFaultClear hu, puFaultClear_of_busy hfault hrole hshut]
  · intro s u hu hfault hrole hshut hfeed hout hconv
    exact ⟨_, exec_puFaultClear hu s, puFaultClear_of_return hu hfault hrole hshut hfeed hout hconv⟩
  · intro s u hu hfault
    rw [exec_puFaultClear hu, puFaultClear, if_neg (by simp [hfault])]
  · intro s again h
    rw [exec_lastUnitRestart, lastUnitRestart_of_running again h]
  · intro s u again hu hconv hend hshut hfeed hfirst hfault hlt
    exact ⟨_, exec_lastUnitRestart again s, lastUnitRestart_starts hu again hconv hend hshut hfeed hfirst hfault hlt⟩

end Sys2Proof.Machine
end

section
/-! SUPPORT and PROOF. Heartbeats, the copy link and the arbiter decide which unit regulates (R428 to R433, R442). -/

namespace Sys2Proof.Machine

open Sys2Proof

section
variable {u : Nat} (hu : u < 2) (s : State)
include hu

theorem exec_heartbeatLost : exec (.heartbeatLost u) s = .next (heartbeatLost u s) :=
  effect_of_wf (c := .heartbeatLost u) (decide_eq_true hu) (heartbeatLost u) s

theorem exec_arbiterLost (fault : Bool) : exec (.arbiterLost u fault) s = .next (arbiterLost u fault s) :=
  effect_of_wf (c := .arbiterLost u fault) (decide_eq_true hu) (arbiterLost u fault) s

theorem exec_arbiterHeartbeatRegained :
    exec (.arbiterHeartbeatRegained u) s = .next (arbiterHeartbeatRegained u s) :=
  effect_of_wf (c := .arbiterHeartbeatRegained u) (decide_eq_true hu) (arbiterHeartbeatRegained u) s

end

theorem exec_copyLink (s : State) : exec .copyLink s = .next (copyLink s) := effect_of_wf rfl copyLink s

theorem exec_stateCopyLinkUp (s : State) : exec .stateCopyLinkUp s = .next (stateCopyLinkUp s) :=
  effect_of_wf rfl stateCopyLinkUp s

theorem exec_midBusUndervoltage (s : State) : exec .midBusUndervoltage s = .next (midBusUndervoltage s) :=
  effect_of_wf rfl midBusUndervoltage s

theorem exec_busFault (s : State) : exec .busFault s = .next (busFault s) := effect_of_wf rfl busFault s

/-! ## Heartbeats -/

/-- The other unit sees the heartbeat lost on the copy link. -/
def State.peerMarked (s : State) (u : Nat) : State := s.set (PU_STATUS_peer_lost (other u)) 1

theorem State.peerMarked_frame (s : State) (u : Nat) : Frame [] [PU_STATUS_peer_lost (other u)] s (s.peerMarked u) :=
  (Frame.refl _ _ s).set _ _ (by simp)

theorem heartbeatLost_of_link {s : State} {u : Nat} (hlink : s.on SV_ARB_STATUS_copy_lost = false) :
    heartbeatLost u s = if (s.peerMarked u).switching u then (s.peerMarked u).failover u
      else (s.peerMarked u).swapBreak u := by
  unfold heartbeatLost
  rw [hlink]
  rfl

theorem State.peerMarked_cause (s : State) {u : Nat} (hu : u < 2) :
    DropCause u [PU_STATUS_peer_lost (other u)] s (s.peerMarked u) := by
  refine ⟨(s.peerMarked_frame u).mono (by decide) (by simp), ?_, ?_⟩
  all_goals
    obtain rfl | rfl : u = 0 ∨ u = 1 := by omega
    all_goals decide

/-- A failover that the arbiter commands is counted and raises EV 482 (R431). -/
theorem State.failover_counted {s : State} {u : Nat} (hu : u < 2) (hrole : s.get (PU_STATUS_role u) ≠ 0)
    (hshut : s.shut.contains (.unit u) = false) (hstandby : s.get (PU_STATUS_role (other u)) = 1)
    (hready : s.unitReady (other u) = true) (hlost : s.on (PU_STATUS_arb_lost (other u)) = false)
    (hfault : s.on SV_ARB_STATUS_arb_fault = false) :
    (s.failover u).get SV_ARB_CNT_failovers =
        (s.get SV_ARB_CNT_failovers + 1) % 2 ^ SV_ARB_CNT_failovers.width ∧
      Sparse.has 482 (s.failover u).evReq = true := by
  rw [State.failover_of_standby hu hrole hshut hstandby hready]
  have hstop := (State.stopUnit_stopped hu hrole hshut).frame
  have htake := ((s.stopUnit u).takeOver_tookOver (n := other u) (by rw [other]; omega)).frame
  have hrestart := ((s.stopUnit u).takeOver (other u)).swapRestart_frame
  generalize ((s.stopUnit u).takeOver (other u)).swapRestart = c at hrestart ⊢
  have hc : Frame powerParts (stopFields u ++ takeFields (other u) ++ restartFields) s c :=
    ((hstop.mono (by decide) (by intro f hf; simp [hf])).trans (htake.mono (by decide) (by intro f hf; simp [hf]))).trans
      (hrestart.mono (by decide) (by intro f hf; simp [hf]))
  have hsame : c.get (PU_STATUS_arb_lost (other u)) = s.get (PU_STATUS_arb_lost (other u)) ∧
      c.get SV_ARB_STATUS_arb_fault = s.get SV_ARB_STATUS_arb_fault ∧
      c.get SV_ARB_CNT_failovers = s.get SV_ARB_CNT_failovers := by
    obtain rfl | rfl : u = 0 ∨ u = 1 := by omega
    · exact ⟨hc.get (by decide), hc.get (by decide), hc.get (by decide)⟩
    · exact ⟨hc.get (by decide), hc.get (by decide), hc.get (by decide)⟩
  obtain ⟨hlost', hfault', hcount⟩ := hsame
  have htold : c.failoverTold (other u) = (c.countWrap SV_ARB_CNT_failovers).raise 482 := by
    unfold State.failoverTold
    rw [State.on, hlost', ← State.on, hlost, State.on, hfault', ← State.on, hfault, if_neg (by decide)]
  rw [htold]
  refine ⟨?_, State.has_raise ..⟩
  rw [State.get_raise_ne _ (by decide), State.countWrap, State.get_set_same, hcount]

/-- The active unit has lost its heartbeat, and its ready standby regulates. -/
theorem heartbeatLost_of_active {s : State} {u : Nat} (hu : u < 2) (hrole : s.get (PU_STATUS_role u) = 2)
    (hstandby : s.get (PU_STATUS_role (other u)) = 1) (hready : s.unitReady (other u) = true)
    (hshut : s.shut.contains (.unit u) = false) (hlost : s.on (PU_STATUS_arb_lost (other u)) = false)
    (hfault : s.on SV_ARB_STATUS_arb_fault = false) (hlink : s.on SV_ARB_STATUS_copy_lost = false) :
    let t := heartbeatLost u s
    t.get (PU_STATUS_role u) = 3 ∧ t.get (PU_STATUS_role (other u)) = 2 ∧ t.get SV_ARB_STATUS_active = other u ∧
      t.shut.contains (.unit u) = true ∧ t.get (LE_CTRL_closed u) = 0 ∧ (t.unit (other u)).blank = 2 ∧
      t.get (PU_STATUS_peer_lost (other u)) = 1 ∧ t.get SV_ARB_CNT_failovers =
        (s.get SV_ARB_CNT_failovers + 1) % 2 ^ SV_ARB_CNT_failovers.width ∧ Sparse.has 482 t.evReq = true := by
  have hcause := s.peerMarked_cause hu
  have hmarked : (s.peerMarked u).get (PU_STATUS_peer_lost (other u)) = 1 := State.get_set_same _ _ _
  have hframe := s.peerMarked_frame u
  have hkept : (s.peerMarked u).get (PU_STATUS_arb_lost (other u)) = s.get (PU_STATUS_arb_lost (other u)) ∧
      (s.peerMarked u).get SV_ARB_STATUS_arb_fault = s.get SV_ARB_STATUS_arb_fault ∧
      (s.peerMarked u).get SV_ARB_CNT_failovers = s.get SV_ARB_CNT_failovers := by
    obtain rfl | rfl : u = 0 ∨ u = 1 := by omega
    · exact ⟨hframe.get (by decide), hframe.get (by decide), hframe.get (by decide)⟩
    · exact ⟨hframe.get (by decide), hframe.get (by decide), hframe.get (by decide)⟩
  obtain ⟨hkeptLost, hkeptFault, hkeptCount⟩ := hkept
  have hswitch := State.switching_of_active (hcause.role.trans hrole)
  dsimp only
  rw [heartbeatLost_of_link hlink, if_pos hswitch]
  generalize s.peerMarked u = a at *
  have hrole' : a.get (PU_STATUS_role u) ≠ 0 := by rw [hcause.role, hrole]; decide
  have hshut' : a.shut.contains (.unit u) = false := by rw [hcause.shut, hshut]
  have hstandby' := hcause.roleOther.trans hstandby
  have hready' := hcause.ready.trans hready
  have hover := State.failover_failedOver hu hrole' hshut' hstandby' hready'
  obtain ⟨hcount, hevent⟩ := State.failover_counted hu hrole' hshut' hstandby' hready'
    (by rw [State.on, hkeptLost, ← State.on, hlost]) (by rw [State.on, hkeptFault, ← State.on, hfault])
  refine ⟨hover.roleStopped, hover.roleTaken, hover.active, by rw [hover.shut]; simp, hover.closed, hover.blank,
    (hover.frame.get ?_).trans hmarked, by rw [hcount, hkeptCount], hevent⟩
  obtain rfl | rfl : u = 0 ∨ u = 1 := by omega
  all_goals decide

/-- A standby has lost its heartbeat: the other unit is told, and a swap under way ends. -/
theorem heartbeatLost_of_standby {s : State} {u : Nat} (hu : u < 2) (hrole : s.get (PU_STATUS_role u) = 1)
    (hsoft : (s.unit u).soft = none) (hlink : s.on SV_ARB_STATUS_copy_lost = false) :
    let t := heartbeatLost u s
    t.get (PU_STATUS_peer_lost (other u)) = 1 ∧ t.get (PU_STATUS_role u) = 1 ∧
      t.get (PU_STATUS_role (other u)) = s.get (PU_STATUS_role (other u)) ∧
      Frame [.pwr, .activity] [PU_STATUS_peer_lost (other u), SV_ARB_STATUS_phase] s t := by
  have hcause := s.peerMarked_cause hu
  have hmarked : (s.peerMarked u).get (PU_STATUS_peer_lost (other u)) = 1 := State.get_set_same _ _ _
  have hframe := s.peerMarked_frame u
  have hstill : (s.peerMarked u).switching u = false :=
    State.switching_of_still (by rw [hcause.role, hrole]; decide) (by rw [State.unit_congr hcause.pwr, hsoft])
  dsimp only
  rw [heartbeatLost_of_link hlink, if_neg (by simp [hstill])]
  generalize s.peerMarked u = a at *
  have hbreak := a.swapBreak_frame u
  refine ⟨(hbreak.get ?_).trans hmarked, (hbreak.get ?_).trans (hcause.role.trans hrole),
    (hbreak.get ?_).trans hcause.roleOther, (hframe.mono (by decide) (by simp)).trans (hbreak.mono (by decide) (by simp))⟩
  all_goals
    obtain rfl | rfl : u = 0 ∨ u = 1 := by omega
    all_goals decide

/-! ## The arbiter -/

/-- The arbiter is lost to a unit, and perhaps reports itself in fault (R432). -/
def State.arbiterGone (s : State) (u : Nat) (fault : Bool) : State :=
  (s.set (PU_STATUS_arb_lost u) 1).iff fault fun s => s.set SV_ARB_STATUS_arb_fault 1

theorem State.arbiterGone_frame (s : State) (u : Nat) (fault : Bool) :
    Frame [] [PU_STATUS_arb_lost u, SV_ARB_STATUS_arb_fault] s (s.arbiterGone u fault) :=
  ((Frame.refl _ _ s).set _ _ (by simp)).iff fun _ h => h.set _ _ (by simp)

/-- A swap before its last phase is over. -/
def State.swapCut (s : State) : State := if s.get SV_ARB_STATUS_phase = 4 then s else s.swapOver

theorem State.swapCut_frame (s : State) : Frame [.pwr, .activity] [SV_ARB_STATUS_phase] s s.swapCut := by
  unfold State.swapCut
  split
  · exact Frame.refl _ _ s
  · exact s.swapOver_frame

theorem arbiterLost_eq (u : Nat) (fault : Bool) (s : State) :
    arbiterLost u fault s = (s.arbiterGone u fault).swapCut := rfl

theorem arbLost_ne {u : Nat} (hu : u < 2) : (PU_STATUS_arb_lost u).key ≠ SV_ARB_STATUS_arb_fault.key ∧
    (PU_STATUS_arb_lost u).key ≠ SV_ARB_STATUS_phase.key ∧
    (PU_STATUS_arb_lost (other u)).key ≠ (PU_STATUS_arb_lost u).key := by
  obtain rfl | rfl : u = 0 ∨ u = 1 := by omega
  all_goals decide

theorem State.arbiterGone_fields (s : State) {u : Nat} (hu : u < 2) (fault : Bool) :
    (s.arbiterGone u fault).get (PU_STATUS_arb_lost u) = 1 ∧
      (s.arbiterGone u fault).on SV_ARB_STATUS_arb_fault = (fault || s.on SV_ARB_STATUS_arb_fault) := by
  obtain ⟨hne, -, -⟩ := arbLost_ne hu
  cases fault with
  | false =>
    refine ⟨State.get_set_same _ _ _, ?_⟩
    rw [Bool.false_or]
    exact State.on_set_ne s hne.symm 1
  | true =>
    refine ⟨(State.get_set_ne _ hne _).trans (State.get_set_same _ _ _), ?_⟩
    rw [Bool.true_or]
    exact State.on_eq_of_get (State.get_set_same _ _ _)

/-- An arbiter heard again by both units is not in fault (R432). -/
theorem arbiterHeartbeatRegained_fields (s : State) {u : Nat} (hu : u < 2) :
    (arbiterHeartbeatRegained u s).get (PU_STATUS_arb_lost u) = 0 ∧
      (arbiterHeartbeatRegained u s).on SV_ARB_STATUS_arb_fault =
        (s.on SV_ARB_STATUS_arb_fault && s.on (PU_STATUS_arb_lost (other u))) := by
  obtain ⟨hne, -, hother⟩ := arbLost_ne hu
  have hlost : (s.set (PU_STATUS_arb_lost u) 0).on (PU_STATUS_arb_lost (other u)) = s.on (PU_STATUS_arb_lost (other u)) :=
    State.on_set_ne s hother 0
  have hfault : (s.set (PU_STATUS_arb_lost u) 0).on SV_ARB_STATUS_arb_fault = s.on SV_ARB_STATUS_arb_fault :=
    State.on_set_ne s hne.symm 0
  have hzero : (s.set (PU_STATUS_arb_lost u) 0).get (PU_STATUS_arb_lost u) = 0 := State.get_set_same _ _ _
  unfold arbiterHeartbeatRegained
  dsimp only
  rw [hlost]
  cases h : s.on (PU_STATUS_arb_lost (other u)) with
  | false =>
    refine ⟨(State.get_set_ne _ hne _).trans hzero, ?_⟩
    rw [Bool.and_false]
    exact State.on_eq_of_get (State.get_set_same _ _ _)
  | true => exact ⟨hzero, hfault.trans (Bool.and_true _).symm⟩

theorem arbiterHeartbeatRegained_frame (s : State) (u : Nat) :
    Frame [] [PU_STATUS_arb_lost u, SV_ARB_STATUS_arb_fault] s (arbiterHeartbeatRegained u s) :=
  ((Frame.refl _ _ s).set _ _ (by simp)).iff fun _ h => h.set _ _ (by simp)

/-! ## The copy link -/

/-- Both units have lost each other on the copy link (R432). -/
def State.linkLost (s : State) : State :=
  (((s.set (PU_STATUS_peer_lost 0) 1).set (PU_STATUS_peer_lost 1) 1).set SV_ARB_STATUS_copy_lost 1).iff
    (!s.on SV_ARB_STATUS_copy_lost) fun s => s.raise 485

/-- The arbiter is lost to both units, or in fault. -/
def State.noArbiter (s : State) : Bool :=
  s.on SV_ARB_STATUS_arb_fault || (s.on (PU_STATUS_arb_lost 0) && s.on (PU_STATUS_arb_lost 1))

def linkFields : List Fld := [PU_STATUS_peer_lost 0, PU_STATUS_peer_lost 1, SV_ARB_STATUS_copy_lost, MG_EVLOG_merged]

theorem State.linkLost_frame (s : State) : Frame [.evReq] linkFields s s.linkLost :=
  ((((Frame.refl _ _ s).set _ _ (by decide)).set _ _ (by decide)).set _ _ (by decide)).iff fun _ h =>
    h.raise _ _ (by decide) (by decide)

theorem State.linkLost_fields (s : State) : s.linkLost.get (PU_STATUS_peer_lost 0) = 1 ∧
    s.linkLost.get (PU_STATUS_peer_lost 1) = 1 ∧ s.linkLost.get SV_ARB_STATUS_copy_lost = 1 := by
  unfold State.linkLost
  cases s.on SV_ARB_STATUS_copy_lost with
  | false =>
    refine ⟨?_, ?_, ?_⟩
    all_goals
      simp (disch := decide) only [State.iff, Bool.not_false, if_true, State.get_raise_ne, State.get_set_ne,
        State.get_set_same]
      rfl
  | true =>
    refine ⟨?_, ?_, ?_⟩
    all_goals
      simp (disch := decide) only [State.iff, Bool.not_true, Bool.false_eq_true, if_false, State.get_set_ne,
        State.get_set_same]
      rfl

theorem State.linkLost_event {s : State} (h : s.on SV_ARB_STATUS_copy_lost = false) :
    Sparse.has 485 s.linkLost.evReq = true := by
  unfold State.linkLost
  rw [h]
  exact State.has_raise ..

/-- PU-A takes over from an active PU-B that neither the arbiter nor PU-A can be heard by (R432). -/
def State.aTakes (s : State) : State :=
  ((((s.openLoop 1).setRole 1 1)).setUnit 1 { ((s.openLoop 1).setRole 1 1).unit 1 with blank := 0 }).takeOver 0

theorem copyLink_of_told {s : State} (hbus : s.get SV_ARB_STATUS_bus = 2) (harb : s.noArbiter = false) :
    copyLink s = s.linkLost.swapCut := by
  have hbus' : s.linkLost.swapCut.get SV_ARB_STATUS_bus = 2 :=
    (s.linkLost.swapCut_frame.get (by decide)).trans ((s.linkLost_frame.get (by decide)).trans hbus)
  have heq : copyLink s = if s.noArbiter then
      if s.linkLost.swapCut.activeUnit = 1 ∧ s.linkLost.swapCut.get (PU_STATUS_role 1) = 2 ∧
          s.linkLost.swapCut.get (PU_STATUS_role 0) = 1 then s.linkLost.swapCut.aTakes else s.linkLost.swapCut
    else if s.linkLost.swapCut.get SV_ARB_STATUS_bus ≠ 2 ∧
        s.linkLost.swapCut.get (PU_STATUS_role (other s.linkLost.swapCut.activeUnit)) = 1 then
      s.linkLost.swapCut.failover s.linkLost.swapCut.activeUnit
    else s.linkLost.swapCut := rfl
  rw [heq, harb, if_neg (by decide), if_neg (fun h => h.1 hbus')]

theorem copyLink_of_alone {s : State} (harb : s.noArbiter = true) (hactive : s.get SV_ARB_STATUS_active = 1)
    (hone : s.get (PU_STATUS_role 1) = 2) (hzero : s.get (PU_STATUS_role 0) = 1) :
    copyLink s = s.linkLost.swapCut.aTakes := by
  have hkept (f : Fld) (hp : ∀ g ∈ [SV_ARB_STATUS_phase], f.key ≠ g.key) (hl : ∀ g ∈ linkFields, f.key ≠ g.key) :
      s.linkLost.swapCut.get f = s.get f := (s.linkLost.swapCut_frame.get hp).trans (s.linkLost_frame.get hl)
  have heq : copyLink s = if s.noArbiter then
      if s.linkLost.swapCut.activeUnit = 1 ∧ s.linkLost.swapCut.get (PU_STATUS_role 1) = 2 ∧
          s.linkLost.swapCut.get (PU_STATUS_role 0) = 1 then s.linkLost.swapCut.aTakes else s.linkLost.swapCut
    else if s.linkLost.swapCut.get SV_ARB_STATUS_bus ≠ 2 ∧
        s.linkLost.swapCut.get (PU_STATUS_role (other s.linkLost.swapCut.activeUnit)) = 1 then
      s.linkLost.swapCut.failover s.linkLost.swapCut.activeUnit
    else s.linkLost.swapCut := rfl
  rw [heq, harb, if_pos rfl, if_pos ⟨(hkept _ (by decide) (by decide)).trans hactive,
    (hkept _ (by decide) (by decide)).trans hone, (hkept _ (by decide) (by decide)).trans hzero⟩]

theorem State.aTakes_fields (s : State) : s.aTakes.get (PU_STATUS_role 0) = 2 ∧ s.aTakes.get (PU_STATUS_role 1) = 1 ∧
    s.aTakes.get SV_ARB_STATUS_active = 0 ∧ s.aTakes.get (LE_CTRL_closed 1) = 0 := by
  have hclosed := s.closed_openLoop (u := 1) (by decide)
  unfold State.aTakes
  generalize s.openLoop 1 = a at hclosed ⊢
  have hrole := a.setRole_frame 1 1
  have hone := a.role_setRole (u := 1) (r := 1) (by decide) (by decide)
  generalize a.setRole 1 1 = b at hrole hone ⊢
  have hunit := b.setUnit_frame 1 { b.unit 1 with blank := 0 }
  generalize b.setUnit 1 { b.unit 1 with blank := 0 } = c at hunit ⊢
  have htake := c.takeOver_tookOver (n := 0) (by decide)
  exact ⟨htake.role, (htake.frame.get (by decide)).trans ((hunit.get (by simp)).trans hone), htake.active,
    (htake.frame.get (by decide)).trans ((hunit.get (by simp)).trans ((hrole.get (by decide)).trans hclosed))⟩

end Sys2Proof.Machine
end

section
/-! SUPPORT and PROOF. Bus faults, and what the links and heartbeats decide (R428 to R433, R442). -/

namespace Sys2Proof.Machine

open Sys2Proof

/-! ## The mid bus -/

/-- The mid bus has left its band downwards. -/
def State.busLow (s : State) : State := s.set SV_ARB_STATUS_bus 0

theorem State.busLow_frame (s : State) : Frame [] [SV_ARB_STATUS_bus] s s.busLow := (Frame.refl _ _ s).set _ _ (by simp)

theorem State.busLow_kept (s : State) {u : Nat} (hu : u < 2) : ∀ f ∈ [PU_STATUS_role u, PU_STATUS_role (other u),
    PU_STATUS_arb_lost u, PU_STATUS_fault u, PU_STATUS_feed_ok (other u), PU_STATUS_fault (other u),
    PU_CTRL_out (other u), SV_ARB_STATUS_active, SV_ARB_STATUS_arb_fault], s.busLow.get f = s.get f := by
  intro f hf
  refine s.busLow_frame.get ?_
  obtain rfl | rfl : u = 0 ∨ u = 1 := by omega
  all_goals
    revert f
    decide

theorem midBusUndervoltage_eq {s : State} {u : Nat} (hu : u < 2) (hactive : s.get SV_ARB_STATUS_active = u) :
    midBusUndervoltage s = if s.switching u && !s.on (PU_STATUS_arb_lost u) && !s.on SV_ARB_STATUS_arb_fault then
      s.busLow.unitFault u 6 else s.busLow := by
  have hkept := s.busLow_kept hu
  have hunit : s.busLow.activeUnit = u := (hkept _ (by simp)).trans hactive
  have hswitch : s.busLow.switching u = s.switching u :=
    State.switching_congr (hkept _ (by simp)) (s.busLow_frame.parts .pwr (by decide))
  have heq : midBusUndervoltage s = if s.busLow.switching s.busLow.activeUnit &&
      !s.busLow.on (PU_STATUS_arb_lost s.busLow.activeUnit) && !s.busLow.on SV_ARB_STATUS_arb_fault then
      s.busLow.unitFault s.busLow.activeUnit 6 else s.busLow := rfl
  have hlost : s.busLow.on (PU_STATUS_arb_lost u) = s.on (PU_STATUS_arb_lost u) := by
    rw [State.on, hkept _ (by simp), State.on]
  have hfault : s.busLow.on SV_ARB_STATUS_arb_fault = s.on SV_ARB_STATUS_arb_fault := by
    rw [State.on, hkept _ (by simp), State.on]
  rw [heq, hunit, hswitch, hlost, hfault]

/-- The arbiter relieves the active unit that has let the mid bus fall (R431). -/
theorem midBusUndervoltage_relieves {s : State} {u : Nat} (hu : u < 2) (hactive : s.get SV_ARB_STATUS_active = u)
    (hlost : s.on (PU_STATUS_arb_lost u) = false) (harb : s.on SV_ARB_STATUS_arb_fault = false)
    (hfault : s.on (PU_STATUS_fault u) = false) (hrole : s.get (PU_STATUS_role u) = 2)
    (hstandby : s.get (PU_STATUS_role (other u)) = 1) (hready : s.unitReady (other u) = true)
    (hshut : s.shut.contains (.unit u) = false) : let t := midBusUndervoltage s
    t.get SV_ARB_STATUS_bus = 0 ∧ t.get (PU_STATUS_fault u) = 1 ∧ t.get (PU_STATUS_cause u) = 6 ∧
      t.get (PU_STATUS_role u) = 3 ∧ t.get (PU_STATUS_role (other u)) = 2 ∧ t.get SV_ARB_STATUS_active = other u ∧
      t.shut.contains (.unit u) = true ∧ t.get (LE_CTRL_closed u) = 0 ∧ (t.unit (other u)).blank = 2 := by
  have hkept := s.busLow_kept hu
  have hzero : s.busLow.get SV_ARB_STATUS_bus = 0 := State.get_set_same _ _ _
  have hready' : s.busLow.unitReady (other u) = true :=
    (State.unitReady_congr (hkept _ (by simp)) (hkept _ (by simp)) (hkept _ (by simp))).trans hready
  have hfault' : s.busLow.on (PU_STATUS_fault u) = false := by rw [State.on, hkept _ (by simp), ← State.on, hfault]
  dsimp only
  rw [midBusUndervoltage_eq hu hactive, State.switching_of_active hrole, hlost, harb, if_pos (by decide),
    State.unitFault_of_clear hfault']
  have hcause := s.busLow.faultLatched_cause hu 6
  obtain ⟨hover, -, hcontains⟩ := hcause.failsOver hu ((hkept _ (by simp)).trans hrole)
    ((hkept _ (by simp)).trans hstandby) hready' hshut
  obtain ⟨hlatched, hsix, -⟩ := s.busLow.faultLatched_fields hu (cause := 6) (by decide)
  refine ⟨(hover.frame.get ?_).trans ((hcause.frame.get ?_).trans hzero), (hover.frame.get ?_).trans hlatched,
    (hover.frame.get ?_).trans hsix, hover.roleStopped, hover.roleTaken, hover.active, hcontains, hover.closed,
    hover.blank⟩
  all_goals
    obtain rfl | rfl : u = 0 ∨ u = 1 := by omega
    all_goals decide

theorem midBusUndervoltage_of_told {s : State} {u : Nat} (hu : u < 2) (hactive : s.get SV_ARB_STATUS_active = u)
    (h : s.switching u = false ∨ s.on (PU_STATUS_arb_lost u) = true ∨ s.on SV_ARB_STATUS_arb_fault = true) :
    midBusUndervoltage s = s.busLow := by
  rw [midBusUndervoltage_eq hu hactive]
  refine if_neg ?_
  rcases h with h | h | h <;> simp [h]

/-! ## A bus fault -/

/-- A bus fault is shown, counted and told (R442). -/
def State.busFaulted (s : State) : State := ((s.set SV_ARB_STATUS_bus 4).countWrap SV_ARB_CNT_bus_fault).raise 484

def busFields : List Fld := [SV_ARB_STATUS_bus, SV_ARB_CNT_bus_fault, MG_EVLOG_merged]

theorem State.busFaulted_frame (s : State) : Frame [.evReq] busFields s s.busFaulted :=
  (((Frame.refl _ _ s).set _ _ (by decide)).countWrap _ (by decide)).raise _ _ (by decide) (by decide)

theorem State.busFaulted_fields (s : State) : s.busFaulted.get SV_ARB_STATUS_bus = 4 ∧
    s.busFaulted.get SV_ARB_CNT_bus_fault = (s.get SV_ARB_CNT_bus_fault + 1) % 2 ^ SV_ARB_CNT_bus_fault.width ∧
    Sparse.has 484 s.busFaulted.evReq = true := by
  unfold State.busFaulted
  refine ⟨?_, ?_, State.has_raise ..⟩
  · simp (disch := decide) only [State.countWrap, State.get_raise_ne, State.get_set_ne, State.get_set_same]; rfl
  · simp (disch := decide) only [State.countWrap, State.get_raise_ne, State.get_set_ne, State.get_set_same]

/-- The events latched stay latched while a unit stops. -/
theorem State.has_stopUnit {s : State} {k u : Nat} (h : Sparse.has k s.evReq = true)
    (hrole : s.get (PU_STATUS_role u) ≠ 0) (hshut : s.shut.contains (.unit u) = false) :
    Sparse.has k (s.stopUnit u).evReq = true := by
  rw [State.stopUnit_of_running hrole hshut, (State.swapBreak_frame _ u).parts .evReq (by decide),
    (State.shutQueued_frame _ _).parts .evReq (by decide), State.unitQuiet,
    (State.setUnit_frame _ _ _).parts .evReq (by decide), (State.setRole_frame _ _ _).parts .evReq (by decide)]
  unfold State.openLoop State.injAbort
  split
  · refine State.has_raise_of_has ?_ _ _
    exact h
  · exact h

/-- A bus fault stops both units and conversion (R442). -/
theorem busFault_of_converting {s : State} (hconv : s.converting = true) (hshut : s.shut = [])
    (hzero : s.get (PU_STATUS_role 0) ≠ 0) (hone : s.get (PU_STATUS_role 1) ≠ 0) : let t := busFault s
    t.get SV_ARB_STATUS_bus = 4 ∧ t.get SV_ARB_CNT_bus_fault =
        (s.get SV_ARB_CNT_bus_fault + 1) % 2 ^ SV_ARB_CNT_bus_fault.width ∧
      t.get (PU_STATUS_role 0) = 3 ∧ t.get (PU_STATUS_role 1) = 3 ∧ t.shut = [.unit 0, .unit 1, .conversion] ∧
      Sparse.has 484 t.evReq = true ∧ BlockFrame powerParts powerBlocks s t := by
  have heq : busFault s = ((s.busFaulted.stopUnit 0).stopUnit 1).convCheck := by
    have h : busFault s = ((s.busFaulted.stopUnit 0).stopUnit 1).iff s.converting State.convCheck := rfl
    rw [h, hconv]
    rfl
  have hframe := s.busFaulted_frame
  obtain ⟨hbus, hcount, hevent⟩ := s.busFaulted_fields
  dsimp only
  rw [heq]
  generalize s.busFaulted = a at hframe hbus hcount hevent ⊢
  have hshut0 : a.shut = [] := (hframe.parts .shut (by decide)).trans hshut
  have hrole0 : a.get (PU_STATUS_role 0) ≠ 0 := by rw [hframe.get (by decide)]; exact hzero
  have hrole1 : a.get (PU_STATUS_role 1) ≠ 0 := by rw [hframe.get (by decide)]; exact hone
  have hevent0 := State.has_stopUnit hevent (u := 0) hrole0 (by rw [hshut0]; rfl)
  have hstop0 := State.stopUnit_stopped (u := 0) (by decide) hrole0 (by rw [hshut0]; rfl)
  generalize a.stopUnit 0 = b at hevent0 hstop0 ⊢
  have hshut1 : b.shut = [.unit 0] := by rw [hstop0.shut, hshut0]; rfl
  have hrole1' : b.get (PU_STATUS_role 1) ≠ 0 := by rw [hstop0.frame.get (by decide)]; exact hrole1
  have hevent1 := State.has_stopUnit hevent0 (u := 1) hrole1' (by rw [hshut1]; rfl)
  have hstop1 := State.stopUnit_stopped (u := 1) (by decide) hrole1' (by rw [hshut1]; rfl)
  generalize b.stopUnit 1 = c at hevent1 hstop1 ⊢
  have hshut2 : c.shut = [.unit 0, .unit 1] := by rw [hstop1.shut, hshut1]; rfl
  have hrole0' : c.get (PU_STATUS_role 0) = 3 := (hstop1.frame.get (by decide)).trans hstop0.role
  have hstill0 : c.switching 0 = false :=
    State.switching_of_still (by rw [hrole0']; decide) (by rw [show (0 : Nat) = other 1 from rfl, hstop1.unitOther]; exact hstop0.soft)
  have hstill1 : c.switching 1 = false := State.switching_of_still (by rw [hstop1.role]; decide) hstop1.soft
  rw [State.convCheck_of_still (State.converting_of_still (u := 0) (by decide) hstill0 hstill1) (by rw [hshut2]; rfl)]
  have hend := c.shutQueued_frame .conversion
  refine ⟨(hend.get (by simp)).trans ((hstop1.frame.get (by decide)).trans ((hstop0.frame.get (by decide)).trans hbus)),
    (hend.get (by simp)).trans ((hstop1.frame.get (by decide)).trans ((hstop0.frame.get (by decide)).trans hcount)),
    (hend.get (by simp)).trans hrole0', (hend.get (by simp)).trans hstop1.role, ?_, ?_, ?_⟩
  · rw [State.shutQueued, hshut2]; rfl
  · rw [hend.parts .evReq (by decide)]; exact hevent1
  · exact (((hframe.mono (by decide) (List.Subset.refl _)).powerFrame (by decide)).trans
      (hstop0.frame.powerFrame (by decide))).trans ((hstop1.frame.powerFrame (by decide)).trans
        ((hend.mono (by decide) (List.Subset.refl _)).powerFrame rfl))

/-- Settles O42: what is lost or regained decides which unit regulates, as each branch of the command says. -/
theorem linksAndHeartbeatsDecideWhoRegulates : Obligations.LinksAndHeartbeatsDecideWhoRegulates := by
  unfold Obligations.LinksAndHeartbeatsDecideWhoRegulates
  refine ⟨?_, ?_, ?_, ?_, ?_, ?_, ?_, ?_, ?_, ?_⟩
  · intro s u hu hrole hstandby hready hshut hlost hfault hlink
    exact ⟨_, exec_heartbeatLost hu s, heartbeatLost_of_active hu hrole hstandby hready hshut hlost hfault hlink⟩
  · intro s u hu hrole hsoft hlink
    exact ⟨_, exec_heartbeatLost hu s, heartbeatLost_of_standby hu hrole hsoft hlink⟩
  · intro s u fault hu
    obtain ⟨hlost, hfault⟩ := s.arbiterGone_fields hu fault
    have hframe := s.arbiterGone_frame u fault
    refine ⟨_, exec_arbiterLost hu s fault, ?_⟩
    rw [arbiterLost_eq]
    have hcut := (s.arbiterGone u fault).swapCut_frame
    refine ⟨(hcut.get ?_).trans hlost, ?_, (hframe.mono (by decide) (by simp)).trans (hcut.mono (by decide) (by simp))⟩
    · simpa using (arbLost_ne hu).2.1
    · rw [State.on, hcut.get (by decide)]; exact hfault
  · intro s u hu
    obtain ⟨hlost, hfault⟩ := arbiterHeartbeatRegained_fields s hu
    exact ⟨_, exec_arbiterHeartbeatRegained hu s, hlost, hfault, arbiterHeartbeatRegained_frame s u⟩
  · intro s hbus hfault hlost
    have harb : s.noArbiter = false := by
      rw [State.noArbiter, hfault]
      rcases hlost with h | h <;> simp [h]
    refine ⟨_, exec_copyLink s, ?_⟩
    rw [copyLink_of_told hbus harb]
    obtain ⟨hzero, hone, hlink⟩ := s.linkLost_fields
    have hframe := s.linkLost_frame
    have hevent (h : s.on SV_ARB_STATUS_copy_lost = false) := State.linkLost_event h
    generalize s.linkLost = a at hzero hone hlink hframe hevent ⊢
    have hcut := a.swapCut_frame
    refine ⟨(hcut.get (by decide)).trans hzero, (hcut.get (by decide)).trans hone, (hcut.get (by decide)).trans hlink,
      fun h => ?_, (hframe.mono (by decide) (by simp [linkFields])).trans (hcut.mono (by decide) (by simp))⟩
    rw [hcut.parts .evReq (by decide)]
    exact hevent h
  · intro s hactive hone hzero harb
    have harb' : s.noArbiter = true := by
      rw [State.noArbiter]
      rcases harb with h | ⟨h, h'⟩
      · rw [h, Bool.true_or]
      · rw [h, h', Bool.and_self, Bool.or_true]
    refine ⟨_, exec_copyLink s, ?_⟩
    rw [copyLink_of_alone harb' hactive hone hzero]
    exact State.aTakes_fields _
  · exact exec_stateCopyLinkUp
  · intro s u hu hactive hlost harb hfault hrole hstandby hready hshut
    exact ⟨_, exec_midBusUndervoltage s,
      midBusUndervoltage_relieves hu hactive hlost harb hfault hrole hstandby hready hshut⟩
  · intro s u hu hactive h
    rw [exec_midBusUndervoltage, midBusUndervoltage_of_told hu hactive h]
    rfl
  · intro s hconv hshut hzero hone
    exact ⟨_, exec_busFault s, busFault_of_converting hconv hshut hzero hone⟩

end Sys2Proof.Machine
end

section
/-! SUPPORT and PROOF. A following error of a unit whose shutdown is under way already: the fault latches, and the unit
keeps the role it has until that shutdown completes (R422, R441). -/

namespace Sys2Proof.Machine

open Sys2Proof

/-- PU-A is shown active with its loop closed and 1,000 samples beyond the error limit behind it, while its shutdown is
under way; no standby is there. -/
def unitAlreadyStopping : State :=
  ((State.setUnit { State.reset with shut := [.unit 0] } 0
    { PUnit.new with loop := { Loop.new with ovr := 1000 } }).set (PU_STATUS_role 0) 2).set (LE_CTRL_closed 0) 1

theorem exec_loopSample {u : Nat} (hu : u < 2) (y ff : Int) (parityOk overrun limited : Bool) (s : State) :
    exec (.loopSample u y ff parityOk overrun limited) s = .next (loopSample u y ff parityOk overrun limited s) :=
  effect_of_wf (c := .loopSample u y ff parityOk overrun limited) (decide_eq_true hu)
    (loopSample u y ff parityOk overrun limited) s

theorem unitAlreadyStopping_role :
    (loopSample 0 0 0 true false false unitAlreadyStopping).get (PU_STATUS_role 0) = 2 := by decide +kernel

/-- Refutes O44: its clause on the following error says that the unit leaves its role, and nothing of a shutdown of the
unit under way, which no second shutdown joins. -/
theorem not_loopLawRunsOnEachSample : ¬ Obligations.LoopLawRunsOnEachSample := by
  unfold Obligations.LoopLawRunsOnEachSample
  rintro ⟨-, hlate, -⟩
  obtain ⟨t, ht, -, -, -, hrole⟩ := hlate unitAlreadyStopping 0 0 0 _ _ _ _ _ _ _ (by decide) (by decide +kernel)
    (by decide +kernel) (by decide +kernel) (by decide +kernel) (by decide +kernel) rfl rfl (by decide +kernel) rfl rfl
    rfl rfl rfl (by decide +kernel) (by decide +kernel) (by decide +kernel)
  rw [exec_loopSample (by decide), Host.Outcome.next.injEq] at ht
  rw [← ht] at hrole
  exact hrole unitAlreadyStopping_role

end Sys2Proof.Machine
end

section
/-! SUPPORT and PROOF. Chatter of one channel while the other is open as well: both are open at once, which begins the proof
cycle (R455, R457). -/

namespace Sys2Proof.Machine

open Sys2Proof

/-- The bias is being enabled, both channels are judged open from the pins, and none chatters. -/
def chatterBesideOpen : State := State.reset.set SV_GUARD_STATUS_state 1

theorem exec_chatter {k : Nat} (hk : k < 2) (s : State) : exec (.chatter k) s = .next (chatter k s) :=
  effect_of_wf (c := .chatter k) (decide_eq_true hk) (chatter k) s

theorem chatterBesideOpen_opened : (chatter 0 chatterBesideOpen).guard.opened = true := by decide +kernel

/-- Refutes O46: its clause on chatter says that no proof cycle has begun, but with the other channel open both are open
at once. -/
theorem not_interlockAndFaultsShutTheBiasDown : ¬ Obligations.InterlockAndFaultsShutTheBiasDown := by
  unfold Obligations.InterlockAndFaultsShutTheBiasDown
  rintro ⟨-, -, -, -, -, hchatter, -⟩
  obtain ⟨t, ht, -, -, -, -, -, -, -, -, -, hopened, -⟩ := hchatter chatterBesideOpen 0 (by decide) (by decide +kernel)
    (by decide +kernel)
  rw [exec_chatter (by decide), Host.Outcome.next.injEq] at ht
  rw [← ht, chatterBesideOpen_opened] at hopened
  cases hopened

end Sys2Proof.Machine
end

section
/-! PROOF. A swap of roles is scheduled, permitted, handed over and completed, or refused (R433 to R437). -/

namespace Sys2Proof.Machine

open Sys2Proof

/-! ## The permit -/

/-- Phase 2 of a swap: no compared cycle yet, no injection any more. -/
def State.swapPermitted (s : State) : State :=
  let s := { s with pwr := { s.pwr with pairs := [] } }
  ((s.set SV_ARB_STATUS_phase 2).injAbort 0).injAbort 1

theorem State.injAbort_state (s : State) {u : Nat} (hu : u < 2) : (s.injAbort u).get (LE_CAP_STATUS_state u) ≠ 1 := by
  unfold State.injAbort
  split
  next h =>
    obtain rfl | rfl : u = 0 ∨ u = 1 := by omega
    all_goals
      rw [State.get_raise_ne _ (by decide), State.get_set_fit _ _ (by decide)]
      decide
  next h => exact h

theorem State.swapPermitted_spec (s : State) : s.swapPermitted.get SV_ARB_STATUS_phase = 2 ∧
    s.swapPermitted.pwr.pairs = [] ∧ s.swapPermitted.get (LE_CAP_STATUS_state 0) ≠ 1 ∧
    s.swapPermitted.activity = s.activity ∧
    Frame [.pwr, .evReq] [SV_ARB_STATUS_phase, LE_CAP_STATUS_state 0, LE_CAP_STATUS_state 1, MG_EVLOG_merged] s
      s.swapPermitted := by
  unfold State.swapPermitted
  dsimp only
  have hbase := ((Frame.refl [.pwr, .evReq] [SV_ARB_STATUS_phase, LE_CAP_STATUS_state 0, LE_CAP_STATUS_state 1,
    MG_EVLOG_merged] s).with_pwr { s.pwr with pairs := [] } (by decide)).set SV_ARB_STATUS_phase 2 (by simp)
  have hphase : (State.set { s with pwr := { s.pwr with pairs := [] } } SV_ARB_STATUS_phase 2).get SV_ARB_STATUS_phase =
    2 := State.get_set_fit _ _ (by decide)
  have hpairs : (State.set { s with pwr := { s.pwr with pairs := [] } } SV_ARB_STATUS_phase 2).pwr.pairs = [] := rfl
  generalize State.set { s with pwr := { s.pwr with pairs := [] } } SV_ARB_STATUS_phase 2 = a at hbase hphase hpairs ⊢
  have hzero := a.injAbort_frame 0
  have hstate := a.injAbort_state (u := 0) (by decide)
  have hone := (a.injAbort 0).injAbort_frame 1
  have hkept (f : Fld) (h : ∀ g ∈ [LE_CAP_STATUS_state 0, LE_CAP_STATUS_state 1, MG_EVLOG_merged], f.key ≠ g.key) :
      ((a.injAbort 0).injAbort 1).get f = a.get f :=
    (hone.get (by simp only [List.mem_cons] at h ⊢; grind)).trans
      (hzero.get (by simp only [List.mem_cons] at h ⊢; grind))
  refine ⟨(hkept _ (by decide)).trans hphase, ?_, ?_, ?_, ?_⟩
  · rw [hone.parts .pwr (by decide), hzero.parts .pwr (by decide), hpairs]
  · rw [hone.get (by decide)]
    exact hstate
  · rw [hone.parts .activity (by decide), hzero.parts .activity (by decide), hbase.parts .activity (by decide)]
  · exact (hbase.trans (hzero.mono (by decide) (by simp))).trans (hone.mono (by decide) (by simp))

theorem swapPermit_of_ok {s : State} (hact : s.activity = some 1) (hphase : s.get SV_ARB_STATUS_phase = 0)
    (hok : s.permitOk = true) : swapPermit s = s.swapPermitted := by
  rw [swapPermit, if_pos ⟨hact, hphase⟩, if_pos hok]
  rfl

theorem swapPermit_of_refused {s : State} (hact : s.activity = some 1) (hphase : s.get SV_ARB_STATUS_phase = 0)
    (hok : s.permitOk = false) : swapPermit s = s.swapOver := by
  rw [swapPermit, if_pos ⟨hact, hphase⟩, hok, if_neg (by decide)]

theorem State.permitOk_of {s : State} (hsched : s.on SV_ARB_STATUS_sched = true) (hheld : s.swapsHeld = false)
    (hzero : s.unitReady 0 = true) (hone : s.unitReady 1 = true) (hbus : s.get SV_ARB_STATUS_bus = 2)
    (hclosed : s.on (LE_CTRL_closed s.activeUnit) = true) : s.permitOk = true := by
  simp [State.permitOk, hsched, hheld, hzero, hone, hbus, hclosed]

theorem State.phase_swapOver (s : State) : s.swapOver.get SV_ARB_STATUS_phase = 0 := State.get_set_fit _ _ (by decide)

theorem State.activity_swapOver (s : State) :
    s.swapOver.activity = if s.activity = some 1 then none else s.activity := rfl

/-! ## The handover -/

/-- R435, step 5: the roles change; the incoming unit waits two periods for its measurement. -/
def State.handOver (s : State) (o : Nat) : State :=
  let s := (s.openLoop o).setRole o 1
  let s := (s.setRole (other o) 2).set SV_ARB_STATUS_active (other o)
  let s := s.setUnit (other o) { s.unit (other o) with blank := 2 }
  s.set SV_ARB_STATUS_phase 4

/-- R436: the outputs of a compared cycle lie too far apart. -/
def State.handoverRefused (s : State) : State :=
  let s := { s with pwr := { s.pwr with refusals := s.pwr.refusals + 1 } }
  let s := s.iff (decide (3 ≤ s.pwr.refusals)) fun s => s.set SV_ARB_STATUS_suspect 1
  ((s.swapOver).countWrap SV_ARB_CNT_refused).raise 481

theorem swapHandover_of_pairs {s : State} {a b : Nat × Nat} {l : List (Nat × Nat)}
    (hphase : s.get SV_ARB_STATUS_phase = 3) (hpairs : s.pwr.pairs = a :: b :: l) :
    swapHandover s = if ((a.1 : Int) - a.2).natAbs ≤ 1311 ∧ ((b.1 : Int) - b.2).natAbs ≤ 1311 then
      s.handOver s.activeUnit else s.handoverRefused := by
  rw [swapHandover, if_pos ⟨hphase, by simp [hpairs]⟩, hpairs]
  by_cases h : ((a.1 : Int) - a.2).natAbs ≤ 1311 ∧ ((b.1 : Int) - b.2).natAbs ≤ 1311
  · rw [if_pos h, if_pos (by simp [h])]
    rfl
  · rw [if_neg h, if_neg (by simpa using h)]
    rfl

theorem State.handOver_spec (s : State) {o : Nat} (ho : o < 2) : (s.handOver o).get (PU_STATUS_role o) = 1 ∧
    (s.handOver o).get (PU_STATUS_role (other o)) = 2 ∧ (s.handOver o).get SV_ARB_STATUS_active = other o ∧
    (s.handOver o).get SV_ARB_STATUS_phase = 4 ∧ (s.handOver o).get (LE_CTRL_closed o) = 0 ∧
    ((s.handOver o).unit (other o)).blank = 2 := by
  unfold State.handOver
  dsimp only
  have hclosed := s.closed_openLoop ho
  generalize s.openLoop o = a at hclosed ⊢
  have hout := a.setRole_frame o 1
  have hrole := a.role_setRole ho (r := 1) (by decide)
  generalize a.setRole o 1 = b at hout hrole ⊢
  have hn : other o < 2 := by rw [other]; omega
  have hin := b.setRole_frame (other o) 2
  have htwo := b.role_setRole hn (r := 2) (by decide)
  generalize b.setRole (other o) 2 = c at hin htwo ⊢
  have hfields (f : Fld) (ha : f.key ≠ SV_ARB_STATUS_active.key) (hp : f.key ≠ SV_ARB_STATUS_phase.key) :
      (((c.set SV_ARB_STATUS_active (other o)).setUnit (other o)
        { (c.set SV_ARB_STATUS_active (other o)).unit (other o) with blank := 2 }).set SV_ARB_STATUS_phase 4).get f =
        c.get f := by
    rw [State.get_set_ne _ hp, (State.setUnit_frame _ _ _).get (by simp), State.get_set_ne _ ha]
  obtain rfl | rfl : o = 0 ∨ o = 1 := by omega
  all_goals
    refine ⟨?_, ?_, ?_, State.get_set_fit _ _ (by decide), ?_, congrArg PUnit.blank (State.unit_setUnit _ _ _)⟩
    · rw [hfields _ (by decide) (by decide), hin.get (by decide), hrole]
    · rw [hfields _ (by decide) (by decide), htwo]
    · rw [State.get_set_ne _ (by decide), (State.setUnit_frame _ _ _).get (by simp)]
      exact State.get_set_fit _ _ hn
    · rw [hfields _ (by decide) (by decide), hin.get (by decide), hout.get (by decide), hclosed]

/-- The refusal is held against the unit: the third marks it suspect. -/
def State.refusalHeld (s : State) : State :=
  let s := { s with pwr := { s.pwr with refusals := s.pwr.refusals + 1 } }
  s.iff (decide (3 ≤ s.pwr.refusals)) fun s => s.set SV_ARB_STATUS_suspect 1

theorem State.refusalHeld_frame (s : State) : Frame [.pwr] [SV_ARB_STATUS_suspect] s s.refusalHeld :=
  ((Frame.refl [.pwr] [SV_ARB_STATUS_suspect] s).with_pwr _ (by decide)).iff fun _ h => h.set _ _ (by simp)

theorem State.refusalHeld_suspect (s : State) :
    s.refusalHeld.on SV_ARB_STATUS_suspect = (s.on SV_ARB_STATUS_suspect || decide (3 ≤ s.pwr.refusals + 1)) := by
  unfold State.refusalHeld
  dsimp only
  by_cases h : 3 ≤ s.pwr.refusals + 1
  · rw [decide_eq_true h, Bool.or_true]
    exact on_eq_of_get (State.get_set_fit _ _ (by decide))
  · rw [decide_eq_false h, Bool.or_false]
    rfl

theorem State.handoverRefused_spec (s : State) : s.handoverRefused.get SV_ARB_STATUS_phase = 0 ∧
    s.handoverRefused.pwr.pairs = [] ∧ s.handoverRefused.get SV_ARB_CNT_refused = (s.get SV_ARB_CNT_refused + 1) % 2 ^
      SV_ARB_CNT_refused.width ∧
    s.handoverRefused.on SV_ARB_STATUS_suspect = (s.on SV_ARB_STATUS_suspect || decide (3 ≤ s.pwr.refusals + 1)) ∧
    s.handoverRefused.activity = (if s.activity = some 1 then none else s.activity) ∧
    Sparse.has 481 s.handoverRefused.evReq = true ∧
    Frame [.pwr, .activity, .evReq] [SV_ARB_STATUS_phase, SV_ARB_CNT_refused, SV_ARB_STATUS_suspect, MG_EVLOG_merged] s
      s.handoverRefused := by
  have heq : s.handoverRefused = (s.refusalHeld.swapOver.countWrap SV_ARB_CNT_refused).raise 481 := rfl
  have hheld := s.refusalHeld_frame
  have hsuspect := s.refusalHeld_suspect
  rw [heq]
  generalize s.refusalHeld = a at hheld hsuspect ⊢
  have hover := a.swapOver_frame
  have hphase := a.phase_swapOver
  have hact := a.activity_swapOver
  have hpairs : a.swapOver.pwr.pairs = [] := rfl
  generalize a.swapOver = b at hover hphase hact hpairs ⊢
  refine ⟨?_, by rw [State.raise_pwr]; exact hpairs, ?_, ?_, ?_, State.has_raise .., ?_⟩
  · rw [State.get_raise_ne _ (by decide), State.countWrap, State.get_set_ne _ (by decide), hphase]
  · rw [State.get_raise_ne _ (by decide), State.countWrap, State.get_set_same, hover.get (by decide),
      hheld.get (by decide)]
  · rw [← hsuspect]
    unfold State.on
    rw [State.get_raise_ne _ (by decide), State.countWrap, State.get_set_ne _ (by decide), hover.get (by decide)]
  · rw [← hheld.parts .activity (by decide), ← hact, State.raise_activity]
    rfl
  · exact (((hheld.mono (by decide) (by simp)).trans (hover.mono (by decide) (by simp))).countWrap _ (by simp)).raise _ _
      (by decide) (by simp)

/-! ## The end of a swap -/

/-- R435, step 6: the loop of the unit now active closes and the next swap is a full period away. -/
def State.swapEnded (s : State) (n : Nat) : State :=
  let s := (s.setUnit n { s.unit n with blank := 0 }).set (LE_CTRL_closed n) 1
  let s := ((s.swapOver).swapRestart).set SV_ARB_STATUS_suspect 0
  let s := { s with pwr := { s.pwr with refusals := 0 } }
  (s.countWrap SV_ARB_CNT_swaps).raise 480

theorem swapDone_of_phase {s : State} (h : s.get SV_ARB_STATUS_phase = 4) : swapDone s = s.swapEnded s.activeUnit := by
  rw [swapDone, if_pos h]
  rfl

theorem State.swapRestart_fields (s : State) :
    s.swapRestart.get SV_ARB_TIMER_remaining = s.get SV_ARB_PERIOD_period % 2 ^ 17 ∧
    s.swapRestart.get SV_ARB_STATUS_sched = 0 ∧ s.swapRestart.get SV_ARB_STATUS_overdue = 0 := by
  unfold State.swapRestart
  refine ⟨?_, ?_, State.get_set_fit _ _ (by decide)⟩
  · rw [State.get_set_ne _ (by decide), State.get_set_ne _ (by decide), State.get_set_same]
    rfl
  · rw [State.get_set_ne _ (by decide), State.get_set_fit _ _ (by decide)]

theorem State.swapEnded_spec (s : State) {n : Nat} (hn : n < 2) : (s.swapEnded n).get (LE_CTRL_closed n) = 1 ∧
    (s.swapEnded n).get SV_ARB_STATUS_phase = 0 ∧
    (s.swapEnded n).get SV_ARB_TIMER_remaining = s.get SV_ARB_PERIOD_period % 2 ^ 17 ∧
    (s.swapEnded n).get SV_ARB_STATUS_sched = 0 ∧ (s.swapEnded n).get SV_ARB_STATUS_overdue = 0 ∧
    (s.swapEnded n).get SV_ARB_STATUS_suspect = 0 ∧ (s.swapEnded n).pwr.refusals = 0 ∧
    (s.swapEnded n).get SV_ARB_CNT_swaps = (s.get SV_ARB_CNT_swaps + 1) % 2 ^ SV_ARB_CNT_swaps.width ∧
    Sparse.has 480 (s.swapEnded n).evReq = true ∧
    Frame [.pwr, .activity, .evReq] [LE_CTRL_closed n, SV_ARB_STATUS_phase, SV_ARB_TIMER_remaining, SV_ARB_STATUS_sched,
      SV_ARB_STATUS_overdue, SV_ARB_STATUS_suspect, SV_ARB_CNT_swaps, MG_EVLOG_merged] s (s.swapEnded n) := by
  unfold State.swapEnded
  dsimp only
  have hbase : Frame [.pwr] [LE_CTRL_closed n] s ((s.setUnit n { s.unit n with blank := 0 }).set (LE_CTRL_closed n) 1) :=
    ((s.setUnit_frame n { s.unit n with blank := 0 }).mono (by decide) (by simp)).set _ _ (by simp)
  have hclosed : ((s.setUnit n { s.unit n with blank := 0 }).set (LE_CTRL_closed n) 1).get (LE_CTRL_closed n) = 1 :=
    State.get_set_fit _ _ (show 1 < 2 ^ 1 by decide)
  generalize (s.setUnit n { s.unit n with blank := 0 }).set (LE_CTRL_closed n) 1 = a at hbase hclosed ⊢
  have hover := a.swapOver_frame
  have hphase := a.phase_swapOver
  generalize a.swapOver = b at hover hphase ⊢
  have hrestart := b.swapRestart_frame
  obtain ⟨htimer, hsched, hoverdue⟩ := b.swapRestart_fields
  generalize b.swapRestart = c at hrestart htimer hsched hoverdue ⊢
  obtain rfl | rfl : n = 0 ∨ n = 1 := by omega
  all_goals
    have hkept (f : Fld) (hl : ∀ g ∈ [SV_ARB_CNT_swaps, SV_ARB_STATUS_suspect, MG_EVLOG_merged], f.key ≠ g.key) :
        ((State.countWrap { c.set SV_ARB_STATUS_suspect 0 with
          pwr := { (c.set SV_ARB_STATUS_suspect 0).pwr with refusals := 0 } } SV_ARB_CNT_swaps).raise 480).get f =
          c.get f := by
      rw [State.get_raise_ne _ (hl _ (by simp)), State.countWrap, State.get_set_ne _ (hl _ (by simp)),
        State.get_with_pwr, State.get_set_ne _ (hl _ (by simp))]
    refine ⟨?_, ?_, ?_, (hkept _ (by decide)).trans hsched, (hkept _ (by decide)).trans hoverdue, ?_, by rw [State.raise_pwr]; rfl, ?_,
      State.has_raise .., ?_⟩
    · rw [hkept _ (by decide), hrestart.get (by decide), hover.get (by decide), hclosed]
    · rw [hkept _ (by decide), hrestart.get (by decide), hphase]
    · rw [hkept _ (by decide), htimer, hover.get (by decide), hbase.get (by decide)]
    · rw [State.get_raise_ne _ (by decide), State.countWrap, State.get_set_ne _ (by decide), State.get_with_pwr,
        State.get_set_fit _ _ (by decide)]
    · rw [State.get_raise_ne _ (by decide), State.countWrap, State.get_set_same, State.get_with_pwr, State.get_with_pwr,
        State.get_set_ne _ (by decide), hrestart.get (by decide), hover.get (by decide), hbase.get (by decide)]
    · exact ((((((hbase.mono (by decide) (by simp)).trans (hover.mono (by decide) (by simp))).trans
        (hrestart.mono (by decide) (by simp [restartFields]))).set _ _ (by simp)).with_pwr _ (by decide)).countWrap _
        (by simp)).raise _ _ (by decide) (by simp)

/-! ## The statement -/

/-- Settles O43: the commands follow phase and checks; each new state is one of `swapPermitted`, `swapOver`,
`handOver`, `handoverRefused` and `swapEnded`. -/
theorem roleSwapsFollowTimerPermitAndOutputs : Obligations.RoleSwapsFollowTimerPermitAndOutputs := by
  unfold Obligations.RoleSwapsFollowTimerPermitAndOutputs
  refine ⟨?_, ?_, ?_, ?_, ?_, ?_, ?_, ?_, ?_, ?_, ?_, ?_, ?_, ?_⟩
  · intro s hheld hsched
    refine (effect_of_wf rfl swapTimerExpiry s).trans ?_
    rw [swapTimerExpiry, hheld, hsched]
    rfl
  · intro s h
    refine (effect_of_wf rfl swapTimerExpiry s).trans ?_
    rw [swapTimerExpiry, if_pos (by simpa using h)]
  · intro s hsched
    refine (effect_of_wf rfl swapNow s).trans ?_
    rw [swapNow, hsched]
    rfl
  · intro s hsched
    refine (effect_of_wf rfl swapNow s).trans ?_
    rw [swapNow, if_pos hsched]
  · intro s hsched
    refine (effect_of_wf rfl swapOverdue s).trans ?_
    rw [swapOverdue, if_pos hsched]
  · intro s hsched
    refine (effect_of_wf rfl swapOverdue s).trans ?_
    rw [swapOverdue, hsched, if_neg (by decide)]
  · intro s hact hphase hsched hheld hzero hone hbus hclosed
    obtain ⟨htwo, hpairs, hstate, hkept, hframe⟩ := s.swapPermitted_spec
    refine ⟨_, effect_of_wf rfl swapPermit s, ?_⟩
    rw [swapPermit_of_ok hact hphase (State.permitOk_of hsched hheld hzero hone hbus hclosed)]
    exact ⟨htwo, hpairs, hstate, hkept.trans hact, hframe⟩
  · intro s hact hphase hok
    refine ⟨_, effect_of_wf rfl swapPermit s, ?_⟩
    rw [swapPermit_of_refused hact hphase hok]
    exact ⟨by rw [State.activity_swapOver, if_pos hact], s.phase_swapOver, s.swapOver_frame⟩
  · intro s hact
    refine (effect_of_wf rfl swapPermit s).trans ?_
    rw [swapPermit, if_neg fun h => hact h.1]
  · intro s o a b l ho hactive hphase hpairs ha hb
    refine ⟨_, effect_of_wf rfl swapHandover s, ?_⟩
    rw [swapHandover_of_pairs hphase hpairs, if_pos ⟨ha, hb⟩, State.activeUnit, hactive]
    exact s.handOver_spec ho
  · intro s a b l hphase hpairs h
    refine ⟨_, effect_of_wf rfl swapHandover s, ?_⟩
    rw [swapHandover_of_pairs hphase hpairs, if_neg (by omega)]
    exact s.handoverRefused_spec
  · intro s hphase
    refine (effect_of_wf rfl swapHandover s).trans ?_
    rw [swapHandover, if_neg fun h => hphase h.1]
  · intro s n hn hactive hphase
    refine ⟨_, effect_of_wf rfl swapDone s, ?_⟩
    rw [swapDone_of_phase hphase, State.activeUnit, hactive]
    exact s.swapEnded_spec hn
  · intro s hphase
    refine (effect_of_wf rfl swapDone s).trans ?_
    rw [swapDone, if_neg hphase]

end Sys2Proof.Machine
end

section
/-! SUPPORT and PROOF. The bias guard shuts down, latches its faults, and follows requests, feedback and dark pulses
(R458 to R465). -/

namespace Sys2Proof.Machine

open Sys2Proof

/-! ## Shutdown -/

/-- The fields that a shutdown of the bias writes. -/
def biasFields : List Fld := [SV_GUARD_STATUS_state, SV_GUARD_STATUS_en_a, SV_GUARD_STATUS_en_b, SV_GUARD_CNT_shutdowns,
  SV_GUARD_CNT_abandoned, MG_EVLOG_merged]

/-- The shutdown of the bias has begun (R460). -/
structure BiasDown (s t : State) : Prop where
  frame : Frame [.guard, .shut, .evReq] biasFields s t
  state : t.get SV_GUARD_STATUS_state = 3
  outA : t.get SV_GUARD_STATUS_en_a = 0
  outB : t.get SV_GUARD_STATUS_en_b = 0
  shutdowns : t.get SV_GUARD_CNT_shutdowns = (s.get SV_GUARD_CNT_shutdowns + 1) % 2 ^ SV_GUARD_CNT_shutdowns.width
  shut : t.shut = s.shut ++ [.bias]
  pulse : t.guard.pulse = none
  told : Sparse.has 490 t.evReq = true

/-- The bias is being enabled or on. -/
def State.biasUp (s : State) : Prop := s.get SV_GUARD_STATUS_state = 1 ∨ s.get SV_GUARD_STATUS_state = 2

/-- A dark pulse under way is abandoned and counted (R463). -/
def State.pulseDropped (s : State) : State := s.iff s.guard.pulse.isSome fun s => s.countWrap SV_GUARD_CNT_abandoned

theorem State.pulseDropped_frame (s : State) : Frame [] [SV_GUARD_CNT_abandoned] s s.pulseDropped :=
  (Frame.refl [] _ s).iff fun _ h => h.countWrap _ (by simp)

/-- No dark pulse is under way any more, and the shutdown joins those under way. -/
def State.biasQueued (s : State) : State :=
  { s with guard := { s.guard with pulse := none }, shut := s.shut ++ [ShutFn.bias] }

theorem State.biasQueued_frame (s : State) : Frame [.guard, .shut] [] s s.biasQueued :=
  ((Frame.refl [.guard, .shut] [] s).with_guard { s.guard with pulse := none } (by decide)).with_shut
    (s.shut ++ [ShutFn.bias]) (by decide)

theorem State.biasShutdown_of_up {s : State} (h : s.biasUp) : BiasDown s s.biasShutdown := by
  have heq : s.biasShutdown = ((s.pulseDropped.biasQueued.set SV_GUARD_STATUS_state 3).countWrap
      SV_GUARD_CNT_shutdowns).outputsOff := by
    unfold State.biasUp at h
    rw [State.biasShutdown, if_pos h]
    rfl
  have hdropped := s.pulseDropped_frame
  have hqueued := s.pulseDropped.biasQueued_frame
  have hshut : s.pulseDropped.biasQueued.shut = s.pulseDropped.shut ++ [.bias] := rfl
  have hpulse : s.pulseDropped.biasQueued.guard.pulse = none := rfl
  rw [hdropped.parts .shut (by decide)] at hshut
  have hbase : Frame [.guard, .shut, .evReq] biasFields s s.pulseDropped.biasQueued :=
    (hdropped.mono (by decide) (by decide)).trans (hqueued.mono (by decide) (by decide))
  have hcount : s.pulseDropped.biasQueued.get SV_GUARD_CNT_shutdowns = s.get SV_GUARD_CNT_shutdowns :=
    (hqueued.get (by decide)).trans (hdropped.get (by decide))
  rw [heq]
  clear hqueued hdropped heq
  generalize s.pulseDropped.biasQueued = a at hshut hpulse hbase hcount ⊢
  unfold State.outputsOff State.countWrap
  refine ⟨?_, ?_, ?_, ?_, ?_, ?_, ?_, State.has_raise ..⟩
  · exact ((((hbase.set SV_GUARD_STATUS_state _ (by decide)).set SV_GUARD_CNT_shutdowns _ (by decide)).set
      SV_GUARD_STATUS_en_a _ (by decide)).set SV_GUARD_STATUS_en_b _ (by decide)).raise _ _ (by decide) (by decide)
  · simp (disch := decide) only [State.get_raise_ne, State.get_set_ne, State.get_set_same]
    rfl
  · simp (disch := decide) only [State.get_raise_ne, State.get_set_ne, State.get_set_same]
    rfl
  · simp (disch := decide) only [State.get_raise_ne, State.get_set_same]
    rfl
  · simp (disch := decide) only [State.get_raise_ne, State.get_set_ne, State.get_set_same, hcount]
  · rw [State.raise_shut]
    exact hshut
  · rw [State.raise_guard]
    exact hpulse

theorem State.biasShutdown_of_down {s : State} (h : ¬ s.biasUp) : s.biasShutdown = s := by
  unfold State.biasUp at h
  rw [State.biasShutdown, if_neg h]

/-! ## Faults -/

/-- A fault of the guard is latched, counted and told. -/
def State.faultTold (s : State) (f : Fld) : State := ((s.set f 1).countWrap SV_GUARD_CNT_faults).raise 491

theorem State.guardFault_of_clear {s : State} {f : Fld} (h : s.on f = false) :
    s.guardFault f = (s.faultTold f).biasShutdown := by
  rw [State.guardFault, h, if_neg (by decide)]
  rfl

theorem State.faultTold_frame (s : State) (f : Fld) :
    Frame [.evReq] [f, SV_GUARD_CNT_faults, MG_EVLOG_merged] s (s.faultTold f) :=
  (((Frame.refl [.evReq] _ s).set _ _ (by simp)).countWrap _ (by simp)).raise _ _ (by decide) (by simp)

/-- A one-bit field of the register of guard faults. -/
def guardFaults : List Fld := [SV_GUARD_FAULT_clock, SV_GUARD_FAULT_config, SV_GUARD_FAULT_fb_enable,
  SV_GUARD_FAULT_fb_disable, SV_GUARD_FAULT_fb_unexpected, SV_GUARD_FAULT_out_b, SV_GUARD_FAULT_out_a,
  SV_GUARD_FAULT_pulse_missing, SV_GUARD_FAULT_discrepancy]

theorem guardFaults_apart : ∀ f ∈ guardFaults, f.width = 1 ∧ f.key ≠ SV_GUARD_CNT_faults.key ∧
    ∀ g ∈ biasFields, f.key ≠ g.key := by decide

theorem State.faultTold_fields (s : State) {f : Fld} (hf : f ∈ guardFaults) : (s.faultTold f).get f = 1 ∧
    (s.faultTold f).get SV_GUARD_CNT_faults = (s.get SV_GUARD_CNT_faults + 1) % 2 ^ SV_GUARD_CNT_faults.width := by
  obtain ⟨hwidth, hcount, hapart⟩ := guardFaults_apart f hf
  unfold State.faultTold State.countWrap
  constructor
  · rw [State.get_raise_ne _ (hapart _ (by decide)), State.get_set_ne _ hcount, State.get_set_same, hwidth]
    rfl
  · rw [State.get_raise_ne _ (by decide), State.get_set_same, State.get_set_ne _ hcount.symm]

/-- A fault has latched and the shutdown of the bias has begun (R465). -/
structure FaultDown (f : Fld) (s t : State) : Prop where
  latched : t.get f = 1
  faults : t.get SV_GUARD_CNT_faults = (s.get SV_GUARD_CNT_faults + 1) % 2 ^ SV_GUARD_CNT_faults.width
  state : t.get SV_GUARD_STATUS_state = 3
  outA : t.get SV_GUARD_STATUS_en_a = 0
  outB : t.get SV_GUARD_STATUS_en_b = 0
  shutdowns : t.get SV_GUARD_CNT_shutdowns = (s.get SV_GUARD_CNT_shutdowns + 1) % 2 ^ SV_GUARD_CNT_shutdowns.width
  shut : t.shut = s.shut ++ [.bias]
  pulse : t.guard.pulse = none
  frame : Frame [.guard, .shut, .evReq] ([f, SV_GUARD_CNT_faults] ++ biasFields) s t

theorem State.guardFault_faultDown {s : State} {f : Fld} (hf : f ∈ guardFaults) (hclear : s.on f = false)
    (hup : s.biasUp) : FaultDown f s (s.guardFault f) := by
  rw [State.guardFault_of_clear hclear]
  obtain ⟨-, -, hapart⟩ := guardFaults_apart f hf
  have htold := s.faultTold_frame f
  obtain ⟨hone, hcount⟩ := s.faultTold_fields hf
  have hkept (g : Fld) (hg : g ∈ biasFields) (hc : g.key ≠ SV_GUARD_CNT_faults.key)
      (hm : g.key ≠ MG_EVLOG_merged.key) : (s.faultTold f).get g = s.get g :=
    htold.get (by simp [(hapart g hg).symm, hc, hm])
  generalize s.faultTold f = a at htold hone hcount hkept ⊢
  have hup' : a.biasUp := by
    rw [State.biasUp, hkept _ (by decide) (by decide) (by decide)]
    exact hup
  have hdown := State.biasShutdown_of_up hup'
  exact ⟨(hdown.frame.get hapart).trans hone, (hdown.frame.get (by decide)).trans hcount, hdown.state, hdown.outA,
    hdown.outB, by rw [hdown.shutdowns, hkept _ (by decide) (by decide) (by decide)],
    by rw [hdown.shut, htold.parts .shut (by decide)], hdown.pulse,
    (htold.mono (by decide) (by simp [biasFields])).trans (hdown.frame.mono (by decide) (by simp))⟩

theorem State.guardFault_of_down {s : State} {f : Fld} (hf : f ∈ guardFaults) (hclear : s.on f = false)
    (hdown : ¬ s.biasUp) : s.guardFault f = s.faultTold f := by
  obtain ⟨-, -, hapart⟩ := guardFaults_apart f hf
  have hstate : (s.faultTold f).get SV_GUARD_STATUS_state = s.get SV_GUARD_STATUS_state :=
    (s.faultTold_frame f).get (by
      simp only [List.forall_mem_cons]
      exact ⟨(hapart _ (by decide)).symm, by decide, by decide, by simp⟩)
  rw [State.guardFault_of_clear hclear, State.biasShutdown_of_down (by rwa [State.biasUp, hstate])]

/-! ## The end of a shutdown -/

theorem State.biasDown_of_free {s : State} (h : s.on SV_PENDING_ENABLE_bias = false) :
    s.biasDown = State.set { s with shut := s.shut.filter (· != ShutFn.bias) } SV_GUARD_STATUS_state 0 := by
  have hpending : (State.set { s with shut := s.shut.filter (· != ShutFn.bias) } SV_GUARD_STATUS_state 0).on
      SV_PENDING_ENABLE_bias = false := (State.on_set_ne _ (by decide) 0).trans h
  rw [State.biasDown]
  dsimp only
  rw [hpending, if_neg (by decide)]

theorem State.biasDown_spec {s : State} (h : s.on SV_PENDING_ENABLE_bias = false) :
    s.biasDown.get SV_GUARD_STATUS_state = 0 ∧ s.biasDown.shut.contains .bias = false ∧
    Frame [.shut] [SV_GUARD_STATUS_state] s s.biasDown := by
  rw [State.biasDown_of_free h]
  exact ⟨State.get_set_fit _ _ (by decide), by simp [State.set],
    ((Frame.refl [.shut] [SV_GUARD_STATUS_state] s).with_shut _ (by decide)).set _ _ (by simp)⟩

/-! ## Requests -/

theorem biasEnable_of_off {s : State} (h : s.get SV_GUARD_STATUS_state = 0) :
    biasEnable s = if s.biasAllowed then s.biasStart else (s.countWrap SV_GUARD_CNT_refused).raise 493 := by
  rw [biasEnable, h]
  rfl

theorem biasEnable_of_down {s : State} (h : s.get SV_GUARD_STATUS_state = 3) :
    biasEnable s = s.svHold SV_PENDING_ENABLE_bias := by
  rw [biasEnable, h]
  rfl

theorem biasEnable_of_up {s : State} (h : s.biasUp) : biasEnable s = s := by
  obtain h | h := h
  · rw [biasEnable, h]
    rfl
  · rw [biasEnable, h]
    rfl

theorem exec_darkTestPulse {k : Nat} (hk : k < 2) (s : State) :
    exec (.darkTestPulse k) s = .next (darkTestPulse k s) :=
  effect_of_wf (c := .darkTestPulse k) (decide_eq_true hk) (darkTestPulse k) s

theorem exec_darkPulseEnd {k : Nat} (hk : k < 2) (low high : Bool) (s : State) :
    exec (.darkPulseEnd k low high) s = .next (darkPulseEnd k low high s) :=
  effect_of_wf (c := .darkPulseEnd k low high) (decide_eq_true hk) (darkPulseEnd k low high) s

/-! ## Feedback -/

/-- The feedback as it now reads. -/
def State.fbRead (s : State) (closed : Bool) : State := s.setB SV_GUARD_STATUS_fb closed

theorem State.fbRead_frame (s : State) (closed : Bool) : Frame [] [SV_GUARD_STATUS_fb] s (s.fbRead closed) :=
  (Frame.refl [] _ s).setB _ _ (by simp)

theorem biasFbChange_of_enabling {s : State} (h : s.get SV_GUARD_STATUS_state = 1) (closed masked : Bool) :
    biasFbChange closed masked s =
      if closed then s.fbRead closed else ((s.fbRead closed).set SV_GUARD_STATUS_state 2).raise 489 := by
  have hstate : (s.setB SV_GUARD_STATUS_fb closed).get SV_GUARD_STATUS_state = 1 :=
    ((s.fbRead_frame closed).get (by decide)).trans h
  rw [biasFbChange]
  rw [hstate]
  rfl

theorem biasFbChange_of_down {s : State} (h : s.get SV_GUARD_STATUS_state = 3) (closed masked : Bool) :
    biasFbChange closed masked s = if closed then (s.fbRead closed).biasDown else s.fbRead closed := by
  have hstate : (s.setB SV_GUARD_STATUS_fb closed).get SV_GUARD_STATUS_state = 3 :=
    ((s.fbRead_frame closed).get (by decide)).trans h
  rw [biasFbChange]
  rw [hstate]
  rfl

theorem biasFbChange_of_on {s : State} (h : s.get SV_GUARD_STATUS_state = 2) (closed masked : Bool) :
    biasFbChange closed masked s = if closed && !masked && s.guard.pulse.isNone then
      (s.fbRead closed).guardFault SV_GUARD_FAULT_fb_unexpected else s.fbRead closed := by
  have hstate : (s.setB SV_GUARD_STATUS_fb closed).get SV_GUARD_STATUS_state = 2 :=
    ((s.fbRead_frame closed).get (by decide)).trans h
  rw [biasFbChange]
  rw [hstate]
  rfl

theorem biasFbChange_unexpected {s : State} (hstate : s.get SV_GUARD_STATUS_state = 2) (hpulse : s.guard.pulse = none)
    (hclear : s.on SV_GUARD_FAULT_fb_unexpected = false) :
    FaultDown SV_GUARD_FAULT_fb_unexpected (s.fbRead true) (biasFbChange true false s) := by
  have hframe := s.fbRead_frame true
  rw [biasFbChange_of_on hstate, hpulse, if_pos (by decide)]
  refine State.guardFault_faultDown (by decide) ?_ (.inr ?_)
  · rw [State.on, hframe.get (by decide)]
    exact hclear
  · rw [hframe.get (by decide), hstate]

/-! ## The statement -/

theorem biasAllowed_eq_true {s : State} (hstraps : strapsValid (s.get SV_GUARD_CFG_straps_pu) = true)
    (hproof : s.on SV_GUARD_STATUS_proof = true) (hclosed : s.on SV_GUARD_STATUS_closed = true)
    (hfault : s.guardFaulty = false) (hfb : s.on SV_GUARD_STATUS_fb = true) : s.biasAllowed = true := by
  simp [State.biasAllowed, hstraps, hproof, hclosed, hfault, hfb]

theorem biasAllowed_eq_false {s : State} (h : strapsValid (s.get SV_GUARD_CFG_straps_pu) = false ∨
    s.on SV_GUARD_STATUS_proof = false ∨ s.on SV_GUARD_STATUS_closed = false ∨ s.guardFaulty = true ∨
    s.on SV_GUARD_STATUS_fb = false) : s.biasAllowed = false := by
  unfold State.biasAllowed
  obtain h | h | h | h | h := h
  all_goals simp [h]

/-- Settles O45: each shutdown is a `BiasDown`, each fault while the bias is up a `FaultDown`, and the end of a shutdown
without a request waiting is `biasDown_spec`. -/
theorem biasRequestsAndFeedbackRunTheSequences : Obligations.BiasRequestsAndFeedbackRunTheSequences := by
  unfold Obligations.BiasRequestsAndFeedbackRunTheSequences
  refine ⟨?_, ?_, ?_, ?_, ?_, ?_, ?_, ?_, ?_, ?_, ?_, ?_, ?_, ?_, ?_, ?_, ?_, ?_, ?_⟩
  · intro s hoff hstraps hproof hclosed hfault hfb
    refine (effect_of_wf rfl biasEnable s).trans ?_
    rw [biasEnable_of_off hoff, if_pos (biasAllowed_eq_true hstraps hproof hclosed hfault hfb)]
    rfl
  · intro s hoff h
    refine (effect_of_wf rfl biasEnable s).trans ?_
    rw [biasEnable_of_off hoff, biasAllowed_eq_false h, if_neg (by decide)]
  · intro s hstate
    refine (effect_of_wf rfl biasEnable s).trans ?_
    rw [biasEnable_of_down hstate, State.svHold]
  · intro s hup
    refine (effect_of_wf rfl biasEnable s).trans ?_
    rw [biasEnable_of_up hup]
  · intro s hup
    refine ⟨_, effect_of_wf rfl biasDisable s, ?_⟩
    rw [biasDisable]
    have hdown := State.biasShutdown_of_up (s := s.set SV_PENDING_ENABLE_bias 0)
      (by rw [State.biasUp, State.get_set_ne _ (by decide)]; exact hup)
    exact ⟨hdown.state, hdown.outA, hdown.outB, by rw [hdown.shutdowns, State.get_set_ne _ (by decide)], hdown.shut,
      hdown.pulse, by rw [hdown.frame.get (by decide), State.get_set_fit _ _ (by decide)], hdown.told,
      ((Frame.refl _ _ s).set _ _ (by decide)).trans (hdown.frame.mono (by decide) (by simp [biasFields]))⟩
  · intro s hoff
    refine (effect_of_wf rfl biasDisable s).trans ?_
    rw [biasDisable, State.biasShutdown_of_down]
    rw [State.biasUp, State.get_set_ne _ (by decide)]
    omega
  · intro s masked hstate
    refine (effect_of_wf rfl (biasFbChange false masked) s).trans ?_
    rw [biasFbChange_of_enabling hstate]
    rfl
  · intro s hstate hpulse hclear
    refine ⟨_, effect_of_wf rfl (biasFbChange true false) s, ?_⟩
    have hframe := s.fbRead_frame true
    have hread : (s.fbRead true).get SV_GUARD_STATUS_fb = 1 := State.get_set_fit _ _ (by decide)
    have hfault := biasFbChange_unexpected hstate hpulse hclear
    exact ⟨hfault.latched, by rw [hfault.faults, hframe.get (by decide)], hfault.state, hfault.outA, hfault.outB,
      by rw [hfault.shutdowns, hframe.get (by decide)], by rw [hfault.shut, hframe.parts .shut (by decide)],
      hfault.pulse, by rw [hfault.frame.get (by decide), hread],
      (hframe.mono (by decide) (by simp)).trans (hfault.frame.mono (by decide) (by simp [biasFields]))⟩
  · intro s masked hstate hfree
    refine ⟨_, effect_of_wf rfl (biasFbChange true masked) s, ?_⟩
    have hframe := s.fbRead_frame true
    have hread : (s.fbRead true).get SV_GUARD_STATUS_fb = 1 := State.get_set_fit _ _ (by decide)
    obtain ⟨hzero, hshut, hdown⟩ := State.biasDown_spec (s := s.fbRead true)
      (by rw [State.on, hframe.get (by decide)]; exact hfree)
    rw [biasFbChange_of_down hstate, if_pos rfl]
    exact ⟨hzero, by rw [hdown.get (by decide), hread], hshut,
      (hframe.mono (by decide) (by simp)).trans (hdown.mono (by decide) (by simp))⟩
  · intro s masked hstate h
    refine (effect_of_wf rfl (biasFbChange true masked) s).trans ?_
    rw [biasFbChange_of_on hstate, if_neg (by obtain h | h := h <;> simp [h])]
    rfl
  · intro s hstate hclear
    refine ⟨_, effect_of_wf rfl fbEnableTimeout s, ?_⟩
    have hfault := State.guardFault_faultDown (f := SV_GUARD_FAULT_fb_enable) (by decide) hclear (.inl hstate)
    rw [fbEnableTimeout, if_pos hstate]
    exact ⟨hfault.latched, hfault.faults, hfault.state, hfault.outA, hfault.outB, hfault.shutdowns, hfault.shut,
      hfault.pulse, hfault.frame⟩
  · intro s hstate
    refine (effect_of_wf rfl fbEnableTimeout s).trans ?_
    rw [fbEnableTimeout, if_neg hstate]
  · intro s hstate hclosed hfree
    refine ⟨_, effect_of_wf rfl fbDisableTimeout s, ?_⟩
    rw [fbDisableTimeout, if_pos hstate, hclosed, Bool.not_true, State.iff_false]
    exact State.biasDown_spec hfree
  · intro s hstate hopen hclear hfree
    refine ⟨_, effect_of_wf rfl fbDisableTimeout s, ?_⟩
    have htold := s.faultTold_frame SV_GUARD_FAULT_fb_disable
    obtain ⟨hone, hcount⟩ := s.faultTold_fields (f := SV_GUARD_FAULT_fb_disable) (by decide)
    obtain ⟨hzero, hshut, hdown⟩ := State.biasDown_spec (s := s.faultTold SV_GUARD_FAULT_fb_disable)
      (by rw [State.on, htold.get (by decide)]; exact hfree)
    rw [fbDisableTimeout, if_pos hstate, hopen, Bool.not_false, State.iff_true,
      State.guardFault_of_down (by decide) hclear (by rw [State.biasUp]; omega)]
    exact ⟨by rw [hdown.get (by decide), hone], by rw [hdown.get (by decide), hcount], hzero, hshut,
      (htold.mono (by decide) (by simp)).trans (hdown.mono (by decide) (by simp))⟩
  · intro s hstate
    refine (effect_of_wf rfl fbDisableTimeout s).trans ?_
    rw [fbDisableTimeout, if_neg hstate]
  · intro s k hk hstate hpulse
    rw [exec_darkTestPulse hk, darkTestPulse, if_pos ⟨hstate, hpulse⟩]
  · intro s k hk h
    rw [exec_darkTestPulse hk, darkTestPulse, if_neg fun hon => h.elim (· hon.1) (· hon.2)]
  · intro s k hk hpulse
    rw [exec_darkPulseEnd hk, darkPulseEnd, if_pos hpulse]
    rfl
  · intro s k low high hk hpulse hwrong hup hclear
    refine ⟨_, exec_darkPulseEnd hk low high s, ?_⟩
    rw [darkPulseEnd, if_pos hpulse]
    dsimp only
    rw [if_neg (by obtain h | h := hwrong <;> simp [h])]
    have hfault := State.guardFault_faultDown (s := { s with guard := { s.guard with pulse := none } })
      (f := if k = 0 then SV_GUARD_FAULT_out_a else SV_GUARD_FAULT_out_b) (by split <;> decide) hclear hup
    refine ⟨hfault.latched, hfault.faults, hfault.state, hfault.outA, hfault.outB, hfault.shutdowns, hfault.shut,
      hfault.pulse, ((Frame.refl _ _ s).with_guard _ (by decide)).trans (hfault.frame.mono (by decide) ?_)⟩
    split
    · simp [biasFields]
    · simp [biasFields]

end Sys2Proof.Machine
end

section
/-! SUPPORT. Region loops that open on a fault and the removal of a tile (R471, R484, R485). -/

namespace Sys2Proof.Machine

open Sys2Proof

/-! ## Loops that open -/

/-- The fields of fault and injection beside those of a region loop. -/
def loopFaultShared : List Fld := [LE_CAP_STATUS_state 2, MG_EVLOG_merged, CX_LE_STATUS_loop_fault, CX_LE_STATUS_parity]

def loopFaultFields (r : Nat) : List Fld := [CX_LE_LOOP_en r, CX_LE_LOOPSTAT_cause r] ++ loopFaultShared

theorem State.loopOpen_frame (s : State) (r : Nat) :
    Frame [.evReq] [CX_LE_LOOP_en r, LE_CAP_STATUS_state 2, MG_EVLOG_merged] s (s.loopOpen r) := by
  unfold State.loopOpen
  refine Frame.iff ((Frame.refl _ _ s).set _ _ (by simp)) fun u hu => ?_
  exact hu.trans ((u.injAbort_frame 2).mono (List.Subset.refl _) (by simp))

theorem State.loopFault_frame (s : State) (r cause : Nat) :
    Frame [.evReq] (loopFaultFields r) s (s.loopFault r cause) := by
  unfold State.loopFault
  split
  · refine ((((s.loopOpen_frame r).mono (by decide) (by simp [loopFaultFields, loopFaultShared])).set _ _
      (by simp [loopFaultFields])).set _ _ ?_).raise _ _ (by decide) (by simp [loopFaultFields, loopFaultShared])
    split
    · simp [loopFaultFields, loopFaultShared]
    · simp [loopFaultFields, loopFaultShared]
  · exact Frame.refl _ _ s

theorem loop_fields_apart (r k : Nat) :
    ((CX_LE_LOOP_en r).key ≠ (CX_LE_LOOPSTAT_cause k).key) ∧ (r ≠ k → (CX_LE_LOOP_en r).key ≠ (CX_LE_LOOP_en k).key ∧
      (CX_LE_LOOPSTAT_cause r).key ≠ (CX_LE_LOOPSTAT_cause k).key) := by
  simp only [Fld.key, CX_LE_LOOP_en, CX_LE_LOOPSTAT_cause]
  omega

theorem loop_fields_shared {r : Nat} (hr : r < 96) : ∀ g ∈ loopFaultShared,
    (CX_LE_LOOP_en r).key ≠ g.key ∧ (CX_LE_LOOPSTAT_cause r).key ≠ g.key := by
  simp only [loopFaultShared, List.forall_mem_cons, Fld.key, CX_LE_LOOP_en, CX_LE_LOOPSTAT_cause, LE_CAP_STATUS_state,
    leBase, MG_EVLOG_merged, CX_LE_STATUS_loop_fault, CX_LE_STATUS_parity]
  refine ⟨?_, ?_, ?_, ?_, by simp⟩
  all_goals omega

/-- Loop `r` is open, and was opened for `cause` where it was closed. -/
structure LoopOpened (cause r : Nat) (s t : State) : Prop where
  en : t.get (CX_LE_LOOP_en r) = 0
  cause : s.on (CX_LE_LOOP_en r) = true → t.get (CX_LE_LOOPSTAT_cause r) = cause

theorem State.loopFault_opened (s : State) {r cause : Nat} (hr : r < 96) (hcause : cause < 8) :
    LoopOpened cause r s (s.loopFault r cause) := by
  by_cases hon : s.on (CX_LE_LOOP_en r) = true
  · have hshared := loop_fields_shared hr
    have hapart := (loop_fields_apart r r).1
    have hstatus : ∀ g ∈ loopFaultShared, g = CX_LE_STATUS_loop_fault ∨ g = CX_LE_STATUS_parity →
        ∀ f ∈ [CX_LE_LOOP_en r, CX_LE_LOOPSTAT_cause r], f.key ≠ g.key := by
      intro g hg _ f hf
      obtain rfl | rfl : f = CX_LE_LOOP_en r ∨ f = CX_LE_LOOPSTAT_cause r := by simpa using hf
      exacts [(hshared g hg).1, (hshared g hg).2]
    have hopen : (s.loopOpen r).get (CX_LE_LOOP_en r) = 0 := by
      have hset : (s.set (CX_LE_LOOP_en r) 0).get (CX_LE_LOOP_en r) = 0 := State.get_set_same _ _ _
      unfold State.loopOpen State.iff
      dsimp only
      split
      · rw [(State.injAbort_frame _ 2).get (by
          intro g hg
          exact (hshared g (by simp only [List.mem_cons, loopFaultShared] at hg ⊢; tauto)).1), hset]
      · exact hset
    have hlast (u : State) (f : Fld) (hf : f ∈ [CX_LE_LOOP_en r, CX_LE_LOOPSTAT_cause r]) :
        ((u.set (if cause = 3 then CX_LE_STATUS_parity else CX_LE_STATUS_loop_fault) 1).raise 165).get f = u.get f := by
      rw [State.get_raise_ne]
      · split
        · exact State.get_set_ne _ (hstatus _ (by simp [loopFaultShared]) (.inr rfl) f hf) _
        · exact State.get_set_ne _ (hstatus _ (by simp [loopFaultShared]) (.inl rfl) f hf) _
      · obtain rfl | rfl : f = CX_LE_LOOP_en r ∨ f = CX_LE_LOOPSTAT_cause r := by simpa using hf
        exacts [(hshared _ (by simp [loopFaultShared])).1, (hshared _ (by simp [loopFaultShared])).2]
    unfold State.loopFault
    rw [if_pos hon]
    refine ⟨?_, fun _ => ?_⟩
    · rw [hlast _ _ (by simp), State.get_set_ne _ hapart, hopen]
    · rw [hlast _ _ (by simp)]
      exact State.get_set_fit _ (CX_LE_LOOPSTAT_cause r) (v := cause) hcause
  · have hoff : s.loopFault r cause = s := by rw [State.loopFault, if_neg hon]
    rw [hoff]
    exact ⟨by simpa [State.on] using hon, fun h => absurd h hon⟩

theorem State.loopFault_other (s : State) {r k : Nat} (hr : r < 96) (hne : r ≠ k) (cause : Nat) :
    (s.loopFault k cause).get (CX_LE_LOOP_en r) = s.get (CX_LE_LOOP_en r) ∧
    (s.loopFault k cause).get (CX_LE_LOOPSTAT_cause r) = s.get (CX_LE_LOOPSTAT_cause r) := by
  have hshared := loop_fields_shared hr
  obtain ⟨hcross, happart⟩ := loop_fields_apart r k
  obtain ⟨hen, hcause⟩ := happart hne
  have hcross' := (loop_fields_apart k r).1.symm
  constructor
  · refine (s.loopFault_frame k cause).get fun g hg => ?_
    simp only [loopFaultFields, List.cons_append, List.mem_cons, List.nil_append] at hg
    obtain rfl | rfl | hg := hg
    exacts [hen, hcross, (hshared g hg).1]
  · refine (s.loopFault_frame k cause).get fun g hg => ?_
    simp only [loopFaultFields, List.cons_append, List.mem_cons, List.nil_append] at hg
    obtain rfl | rfl | hg := hg
    exacts [hcross', hcause, (hshared g hg).2]

theorem State.loopFault_of_open {s : State} {r : Nat} (h : s.get (CX_LE_LOOP_en r) = 0) (cause : Nat) :
    s.loopFault r cause = s := by
  rw [State.loopFault, State.on_eq_of_get h]
  exact if_neg (by decide)

/-- A fault keeps an open loop as it is. -/
theorem State.loopFaults_open (l : List Nat) {r cause : Nat} (hr : r < 96) {s : State}
    (h : s.get (CX_LE_LOOP_en r) = 0) :
    (s.each l fun s k => s.loopFault k cause).get (CX_LE_LOOP_en r) = 0 ∧
    (s.each l fun s k => s.loopFault k cause).get (CX_LE_LOOPSTAT_cause r) = s.get (CX_LE_LOOPSTAT_cause r) := by
  induction l generalizing s with
  | nil => exact ⟨h, rfl⟩
  | cons k l ih =>
    by_cases hkr : r = k
    · subst hkr
      have hsame : s.each (r :: l) (fun s k => s.loopFault k cause) = s.each l fun s k => s.loopFault k cause := by
        rw [State.each_cons, State.loopFault_of_open h]
      rw [hsame]
      exact ih h
    · obtain ⟨hen, hcause⟩ := s.loopFault_other hr hkr cause
      obtain ⟨hzero, hkept⟩ := ih (s := s.loopFault k cause) (hen.trans h)
      exact ⟨hzero, hkept.trans hcause⟩

theorem State.loopFaults_opened {l : List Nat} (hl : ∀ k ∈ l, k < 96) {r cause : Nat} (hr : r ∈ l)
    (hcause : cause < 8) (s : State) : LoopOpened cause r s (s.each l fun s k => s.loopFault k cause) := by
  induction l generalizing s with
  | nil => simp at hr
  | cons k l ih =>
    have hr96 := hl r hr
    by_cases hkr : r = k
    · subst hkr
      have hopened := s.loopFault_opened hr96 hcause
      obtain ⟨hzero, hkept⟩ := State.loopFaults_open l hr96 (cause := cause) hopened.en
      exact ⟨hzero, fun hon => hkept.trans (hopened.cause hon)⟩
    · obtain ⟨hen, -⟩ := s.loopFault_other hr96 hkr cause
      have hrest := ih (fun j hj => hl j (List.mem_cons_of_mem _ hj)) ((List.mem_cons.1 hr).resolve_left hkr) (s.loopFault k cause)
      exact ⟨hrest.en, fun hon => hrest.cause (by rw [State.on, hen]; exact hon)⟩

theorem State.loopFaultAll_opened (s : State) {r cause : Nat} (hr : r < 96) (hcause : cause < 8) :
    LoopOpened cause r s (s.loopFaultAll cause) :=
  State.loopFaults_opened (fun _ hk => List.mem_range.1 hk) (List.mem_range.2 hr) hcause s

theorem State.loopFaultAll_frame (s : State) (cause : Nat) :
    Frame [.evReq] ((List.range 96).flatMap loopFaultFields) s (s.loopFaultAll cause) :=
  (Frame.refl _ _ s).each fun u r hr hu => hu.trans ((u.loopFault_frame r cause).mono (by simp) fun _ hf =>
    List.mem_flatMap.2 ⟨r, hr, hf⟩)

/-! ## Dies that are masked -/

/-- The dies that run are masked (R471). -/
def State.diesMasked (s : State) : State :=
  s.each ((List.range 3).filter s.feRuns) fun s n => (s.keepOldFe [FE_CTRL_die_mask n]).set (FE_CTRL_die_mask n) 1

def dieMasks : List Fld := (List.range 3).map FE_CTRL_die_mask

theorem State.dieMasked_frame (s : State) (n : Nat) :
    Frame [.was, .free] [FE_CTRL_die_mask n] s ((s.keepOldFe [FE_CTRL_die_mask n]).set (FE_CTRL_die_mask n) 1) :=
  ((s.keepOldFe_frame _).mono (by simp) (by simp)).set _ _ (by simp)

theorem State.diesMasked_frame (s : State) : Frame [.was, .free] dieMasks s s.diesMasked :=
  (Frame.refl _ _ s).each fun u n hn hu => hu.trans ((u.dieMasked_frame n).mono (by simp) (by
    simp only [List.mem_filter] at hn
    simp only [dieMasks, List.cons_subset, List.mem_map]
    exact ⟨⟨n, hn.1, rfl⟩, by simp⟩))

theorem State.diesMasked_mask {l : List Nat} {n : Nat} (hn : n ∈ l) (s : State) :
    (s.each l fun s n => (s.keepOldFe [FE_CTRL_die_mask n]).set (FE_CTRL_die_mask n) 1).get (FE_CTRL_die_mask n) =
      1 :=
  State.each_get_of_put (I := fun _ => True) hn trivial (fun _ _ _ _ => trivial)
    (fun u _ => State.get_set_fit _ _ (show 1 < 2 ^ 1 by decide))
    fun u k _ hk => (u.dieMasked_frame k).get (by simp [Fld.key, FE_CTRL_die_mask]; omega)

/-! ## The tile is gone -/

theorem State.i2cError_frame (s : State) (k : Nat) :
    Frame [.evReq] [CX_TILE_I2C_CTRL_state, CX_TILE_STATUS_i2c_err, MG_EVLOG_merged] s (s.i2cError k) :=
  ((Frame.refl [.evReq] _ s).set _ _ (by simp)).flag _ _ _ (by decide) (by simp) (by simp)

theorem State.i2cError_fields (s : State) {k : Nat} (hk : k < 8) : (s.i2cError k).get CX_TILE_I2C_CTRL_state = k ∧
    (s.i2cError k).on CX_TILE_STATUS_i2c_err = true := by
  unfold State.i2cError
  constructor
  · rw [State.get_flag_ne _ (by decide) (by decide)]
    exact State.get_set_fit _ _ hk
  · rw [State.on_eq_of_get (State.get_flag_same _ (by decide) (by decide) _ _)]
    decide

end Sys2Proof.Machine
end

section
/-! SUPPORT and PROOF. The sensor tile comes, is identified, wears, is reached over I²C and goes (R470 to R479, R489). -/

namespace Sys2Proof.Machine

open Sys2Proof

/-! ## A tile that goes -/

/-- An identification under way ends where the tile is absent, a transfer under way ends with error 5. -/
def State.tileEnds (s : State) : State :=
  let s := s.iff (s.get CX_TILE_I2C_CTRL_state == 1) fun s => s.i2cError 5
  s.iff (!s.on CX_TILE_STATUS_present) fun s => s.set CX_TILE_STATUS_id_state 0

theorem State.tileGone_eq (s : State) : s.tileGone = (s.diesMasked.loopFaultAll 5).tileEnds := rfl

def tileEndFields : List Fld := [CX_TILE_I2C_CTRL_state, CX_TILE_STATUS_i2c_err, CX_TILE_STATUS_id_state,
  MG_EVLOG_merged]

theorem State.tileEnds_frame (s : State) : Frame [.evReq] tileEndFields s s.tileEnds := by
  unfold State.tileEnds
  refine Frame.iff (Frame.iff (Frame.refl _ _ s) fun u hu => ?_) fun u hu => hu.set _ _ (by decide)
  exact hu.trans ((u.i2cError_frame 5).mono (by decide) (by decide))

theorem State.tileEnds_fields {s : State} (h : s.on CX_TILE_STATUS_present = false) :
    s.tileEnds.get CX_TILE_STATUS_id_state = 0 ∧ s.tileEnds.get CX_TILE_I2C_CTRL_state =
      if s.get CX_TILE_I2C_CTRL_state = 1 then 5 else s.get CX_TILE_I2C_CTRL_state := by
  unfold State.tileEnds
  dsimp only
  by_cases hbusy : s.get CX_TILE_I2C_CTRL_state = 1
  · have hpresent : (s.i2cError 5).on CX_TILE_STATUS_present = false := by
      rw [State.on, (s.i2cError_frame 5).get (by decide)]
      exact h
    rw [hbusy, if_pos rfl, beq_self_eq_true, State.iff_true, hpresent, Bool.not_false, State.iff_true]
    exact ⟨State.get_set_fit _ _ (by decide), (State.get_set_ne _ (by decide) _).trans
      (s.i2cError_fields (by decide)).1⟩
  · rw [if_neg hbusy, beq_eq_false_iff_ne.2 hbusy, State.iff_false, h, Bool.not_false, State.iff_true]
    exact ⟨State.get_set_fit _ _ (by decide), State.get_set_ne _ (by decide) _⟩

/-- The fields of dies and loops lie apart from those of the tile. -/
theorem tileEnds_apart {n r : Nat} (hn : n < 3) (hr : r < 96) : ∀ g ∈ tileEndFields,
    (FE_CTRL_die_mask n).key ≠ g.key ∧ (CX_LE_LOOP_en r).key ≠ g.key ∧ (CX_LE_LOOPSTAT_cause r).key ≠ g.key := by
  simp only [tileEndFields, List.forall_mem_cons, Fld.key, FE_CTRL_die_mask, CX_LE_LOOP_en, CX_LE_LOOPSTAT_cause,
    CX_TILE_I2C_CTRL_state, CX_TILE_STATUS_i2c_err, CX_TILE_STATUS_id_state, MG_EVLOG_merged]
  refine ⟨?_, ?_, ?_, ?_, by simp⟩
  all_goals omega

theorem mem_loopFaultFields {f : Fld} {l : List Nat} (h : f ∈ l.flatMap loopFaultFields) :
    (∃ r ∈ l, f = CX_LE_LOOP_en r ∨ f = CX_LE_LOOPSTAT_cause r) ∨ f ∈ loopFaultShared := by
  obtain ⟨r, hr, hf⟩ := List.mem_flatMap.1 h
  simp only [loopFaultFields, List.cons_append, List.nil_append, List.mem_cons] at hf
  obtain hf | hf | hf := hf
  · exact .inl ⟨r, hr, .inl hf⟩
  · exact .inl ⟨r, hr, .inr hf⟩
  · exact .inr hf

/-- A field outside the loop registers is no field of a loop fault. -/
theorem loopFaults_apart {f : Fld} (hf : f.key < (CX_LE_LOOP_en 0).addr * 32 ∨ (CX_LE_LOOP_en 96).addr * 32 ≤ f.key)
    (hshared : ∀ g ∈ loopFaultShared, f.key ≠ g.key) :
    ∀ g ∈ (List.range 96).flatMap loopFaultFields, f.key ≠ g.key := by
  intro g hg
  obtain ⟨r, hr, hg⟩ | hg := mem_loopFaultFields hg
  · have hr := List.mem_range.1 hr
    obtain rfl | rfl := hg
    all_goals
      simp only [Fld.key, CX_LE_LOOP_en, CX_LE_LOOPSTAT_cause] at hf ⊢
      omega
  · exact hshared g hg

theorem State.diesMasked_other (s : State) {f : Fld} (hf : f.key < (FE_CTRL_die_mask 0).key) :
    s.diesMasked.get f = s.get f := by
  refine s.diesMasked_frame.get fun g hg => ?_
  obtain ⟨n, -, rfl⟩ := List.mem_map.1 hg
  simp only [Fld.key, FE_CTRL_die_mask] at hf ⊢
  omega

structure TileOff (n r : Nat) (s t : State) : Prop where
  id : t.get CX_TILE_STATUS_id_state = 0
  mask : s.feRuns n = true → t.get (FE_CTRL_die_mask n) = 1
  en : t.get (CX_LE_LOOP_en r) = 0
  cause : s.on (CX_LE_LOOP_en r) = true → t.get (CX_LE_LOOPSTAT_cause r) = 5
  i2c : t.get CX_TILE_I2C_CTRL_state =
    if s.get CX_TILE_I2C_CTRL_state = 1 then 5 else s.get CX_TILE_I2C_CTRL_state
  present : t.get CX_TILE_STATUS_present = s.get CX_TILE_STATUS_present

/-- What the removal of a tile does to die `n` and loop `r` (R471). -/
theorem State.tileGone_off {s : State} {n r : Nat} (hn : n < 3) (hr : r < 96)
    (h : s.on CX_TILE_STATUS_present = false) : TileOff n r s s.tileGone := by
  have hmask (hruns : s.feRuns n = true) : s.diesMasked.get (FE_CTRL_die_mask n) = 1 :=
    State.diesMasked_mask (List.mem_filter.2 ⟨List.mem_range.2 hn, hruns⟩) s
  have hbefore (f : Fld) (hf : f.key < (FE_CTRL_die_mask 0).key) : s.diesMasked.get f = s.get f :=
    s.diesMasked_other hf
  have hloop := s.diesMasked.loopFaultAll_opened (cause := 5) hr (by decide)
  have hfaults := s.diesMasked.loopFaultAll_frame 5
  rw [State.tileGone_eq]
  generalize s.diesMasked = a at hmask hbefore hloop hfaults ⊢
  have hmask' (hruns : s.feRuns n = true) : (a.loopFaultAll 5).get (FE_CTRL_die_mask n) = 1 := by
    refine (hfaults.get (loopFaults_apart ?_ ?_)).trans (hmask hruns)
    · simp only [Fld.key, FE_CTRL_die_mask, CX_LE_LOOP_en]
      omega
    · simp only [loopFaultShared, List.forall_mem_cons, Fld.key, FE_CTRL_die_mask, LE_CAP_STATUS_state, leBase,
        MG_EVLOG_merged, CX_LE_STATUS_loop_fault, CX_LE_STATUS_parity]
      refine ⟨?_, ?_, ?_, ?_, by simp⟩
      all_goals omega
  have htile (f : Fld) (hf : f ∈ [CX_TILE_STATUS_present, CX_TILE_I2C_CTRL_state]) :
      (a.loopFaultAll 5).get f = s.get f := by
    obtain rfl | rfl : f = CX_TILE_STATUS_present ∨ f = CX_TILE_I2C_CTRL_state := by simpa using hf
    · exact (hfaults.get (loopFaults_apart (by decide) (by decide))).trans (hbefore _ (by decide))
    · exact (hfaults.get (loopFaults_apart (by decide) (by decide))).trans (hbefore _ (by decide))
  have hcause (hon : s.on (CX_LE_LOOP_en r) = true) : (a.loopFaultAll 5).get (CX_LE_LOOPSTAT_cause r) = 5 := by
    refine hloop.cause ?_
    rw [State.on, hbefore _ (by simp only [Fld.key, CX_LE_LOOP_en, FE_CTRL_die_mask]; omega)]
    exact hon
  have hen := hloop.en
  generalize a.loopFaultAll 5 = b at hmask' htile hcause hen ⊢
  have hends := b.tileEnds_frame
  obtain ⟨hid, hi2c⟩ := State.tileEnds_fields (s := b) (by rw [State.on, htile _ (by simp)]; exact h)
  have hapart := tileEnds_apart hn hr
  exact ⟨hid, fun hruns => (hends.get fun g hg => (hapart g hg).1).trans (hmask' hruns),
    (hends.get fun g hg => (hapart g hg).2.1).trans hen,
    fun hon => (hends.get fun g hg => (hapart g hg).2.2).trans (hcause hon), by rw [hi2c, htile _ (by simp)],
    (hends.get (by decide)).trans (htile _ (by simp))⟩

/-! ## Requests stay latched -/

section
variable {s : State} {k : Nat} (h : Sparse.has k s.evReq = true)
include h

theorem State.has_flag_of_has (f : Fld) (src : Nat) : Sparse.has k (s.flag f src).evReq = true := by
  unfold State.flag
  split
  · exact h
  · exact State.has_raise_of_has (s := s.set f 1) h ..

theorem State.has_iff_of_has (b : Bool) {f : State → State}
    (hf : ∀ u : State, Sparse.has k u.evReq = true → Sparse.has k (f u).evReq = true) :
    Sparse.has k (s.iff b f).evReq = true := by
  cases b
  · exact h
  · exact hf s h

theorem State.has_injAbort_of_has (i : Nat) : Sparse.has k (s.injAbort i).evReq = true := by
  unfold State.injAbort
  split
  · exact State.has_raise_of_has (s := s.set (LE_CAP_STATUS_state i) 3) h ..
  · exact h

theorem State.has_loopOpen_of_has (r : Nat) : Sparse.has k (s.loopOpen r).evReq = true := by
  unfold State.loopOpen
  exact State.has_iff_of_has (s := s.set (CX_LE_LOOP_en r) 0) h _ fun _ hu => State.has_injAbort_of_has hu 2

theorem State.has_loopFault_of_has (r cause : Nat) : Sparse.has k (s.loopFault r cause).evReq = true := by
  unfold State.loopFault
  split
  · exact State.has_raise_of_has (s := ((s.loopOpen r).set (CX_LE_LOOPSTAT_cause r) cause).set _ 1)
      (State.has_loopOpen_of_has h r) ..
  · exact h

theorem State.has_each_of_has {α : Type} {f : State → α → State}
    (hf : ∀ (u : State) a, Sparse.has k u.evReq = true → Sparse.has k (f u a).evReq = true) (l : List α) :
    Sparse.has k (s.each l f).evReq = true := by
  induction l generalizing s with
  | nil => exact h
  | cons a l ih => exact ih (hf s a h)

theorem State.has_tileGone_of_has : Sparse.has k s.tileGone.evReq = true := by
  have hmasked : Sparse.has k s.diesMasked.evReq = true := by
    rw [s.diesMasked_frame.parts .evReq (by decide)]
    exact h
  rw [State.tileGone_eq]
  generalize s.diesMasked = a at hmasked ⊢
  have hfaults : Sparse.has k (a.loopFaultAll 5).evReq = true :=
    State.has_each_of_has hmasked (fun _ r hu => State.has_loopFault_of_has hu r 5) _
  generalize a.loopFaultAll 5 = b at hfaults ⊢
  unfold State.tileEnds
  refine State.has_iff_of_has (State.has_iff_of_has hfaults _ fun u hu => ?_) _ fun u hu => hu
  exact State.has_flag_of_has (s := u.set CX_TILE_I2C_CTRL_state 5) hu ..

end

end Sys2Proof.Machine
end

section
/-! SUPPORT and PROOF. The sensor tile comes, is identified, wears, is reached over I²C and goes (R470 to R479, R489). -/

namespace Sys2Proof.Machine

open Sys2Proof

/-! ## Numbers read from the tile -/

theorem ofBytes_lt (b : List Nat) : ofBytes b < 256 ^ b.length := by
  induction b with
  | nil => simp [ofBytes]
  | cons a b ih =>
    have : a % 256 < 256 := Nat.mod_lt _ (by decide)
    simp only [ofBytes, List.length_cons, Nat.pow_succ]
    omega

theorem idNum_lt (b : List Nat) (a n : Nat) : idNum b a n < 256 ^ n :=
  (ofBytes_lt _).trans_le (Nat.pow_le_pow_right (by decide) (by simp only [idBytes, List.length_take]; omega))

/-! ## Identification -/

/-- The registers that show a tile identified take their values (R472, R473). -/
def State.idShown (s : State) (bytes : List Nat) : State :=
  let n := idNum bytes
  let s := (s.set CX_TILE_SERIAL_LO_serial (n 8 4)).set CX_TILE_SERIAL_HI_serial (n 0xC 4)
  let s := (s.set CX_TILE_KIND_kind (n 6 1)).set CX_TILE_KIND_pad_count (n 0x10 2)
  ((s.set CX_TILE_RATED_HITS_value (n 0x14 4)).set CX_TILE_RATED_Q_value (n 0x18 4)).set
    CX_TILE_RATED_DOSE_value (n 0x1C 4)

/-- The pad map of the tile. -/
def State.padsShown (s : State) (bytes : List Nat) : State :=
  s.each (List.range 48) fun s k =>
    s.set (CX_TILE_PADMAP_present k) ((idBytes bytes (0x40 + 32 * k) 32).foldr (fun b v => 2 * v + b % 2) 0)

theorem tileIdReadDone_of_good {s : State} {b : List Nat} (hstate : s.get CX_TILE_STATUS_id_state = 1)
    (hheader : idHeaderOk b = true) (hpads : idNum b 0x640 2 = crc16 (idBytes b 0x40 0x600)) :
    tileIdReadDone true b s = (((s.idShown b).padsShown b).lifeLoad b).set CX_TILE_STATUS_id_state 2 := by
  rw [tileIdReadDone, if_neg (not_not_intro hstate), hheader, if_neg (by decide), if_neg (not_not_intro hpads),
    if_neg (by decide)]
  rfl

def idFields : List Fld := [CX_TILE_SERIAL_LO_serial, CX_TILE_SERIAL_HI_serial, CX_TILE_KIND_kind,
  CX_TILE_KIND_pad_count, CX_TILE_RATED_HITS_value, CX_TILE_RATED_Q_value, CX_TILE_RATED_DOSE_value]

theorem State.idShown_frame (s : State) (b : List Nat) : Frame [] idFields s (s.idShown b) :=
  (((((((Frame.refl _ _ s).set _ _ (by decide)).set _ _ (by decide)).set _ _ (by decide)).set _ _ (by decide)).set _ _
    (by decide)).set _ _ (by decide)).set _ _ (by decide)

/-- The registers show what the tile's memory holds. -/
structure IdShown (b : List Nat) (t : State) : Prop where
  serialLo : t.get CX_TILE_SERIAL_LO_serial = idNum b 8 4
  serialHi : t.get CX_TILE_SERIAL_HI_serial = idNum b 0xC 4
  kind : t.get CX_TILE_KIND_kind = idNum b 6 1
  pads : t.get CX_TILE_KIND_pad_count = idNum b 0x10 2
  hits : t.get CX_TILE_RATED_HITS_value = idNum b 0x14 4
  charge : t.get CX_TILE_RATED_Q_value = idNum b 0x18 4
  dose : t.get CX_TILE_RATED_DOSE_value = idNum b 0x1C 4

theorem idHeaderOk_pads {b : List Nat} (h : idHeaderOk b = true) : idNum b 0x10 2 ≤ 1536 := by
  simp only [idHeaderOk, Bool.and_eq_true, decide_eq_true_eq] at h
  exact h.1.2

theorem State.idShown_shown (s : State) {b : List Nat} (h : idHeaderOk b = true) : IdShown b (s.idShown b) := by
  have hword (a : Nat) : idNum b a 4 % 2 ^ 32 = idNum b a 4 := Nat.mod_eq_of_lt (idNum_lt b a 4)
  have hpads := idHeaderOk_pads h
  have hpad : idNum b 0x10 2 % 2 ^ 11 = idNum b 0x10 2 := Nat.mod_eq_of_lt (by omega)
  have hkind : idNum b 6 1 % 2 ^ 8 = idNum b 6 1 := Nat.mod_eq_of_lt (idNum_lt b 6 1)
  unfold State.idShown
  refine ⟨?_, ?_, ?_, ?_, ?_, ?_, ?_⟩
  all_goals simp (disch := decide) only [State.get_set_ne, State.get_set_same]
  exacts [hword 8, hword 0xC, hkind, hpad, hword 0x14, hword 0x18, hword 0x1C]

theorem IdShown.congr {b : List Nat} {s t : State} (h : IdShown b s) (hf : ∀ f ∈ idFields, t.get f = s.get f) :
    IdShown b t :=
  ⟨(hf _ (by decide)).trans h.serialLo, (hf _ (by decide)).trans h.serialHi, (hf _ (by decide)).trans h.kind,
    (hf _ (by decide)).trans h.pads, (hf _ (by decide)).trans h.hits, (hf _ (by decide)).trans h.charge,
    (hf _ (by decide)).trans h.dose⟩

def padFields : List Fld := (List.range 48).map CX_TILE_PADMAP_present

theorem State.padsShown_frame (s : State) (b : List Nat) : Frame [] padFields s (s.padsShown b) :=
  (Frame.refl _ _ s).each fun _ k hk hu => hu.set _ _ (by
    simp only [padFields, List.map_map]
    exact List.mem_map.2 ⟨k, hk, rfl⟩)

/-! ## The life record -/

/-- What the newest life record gives: the next slot, hits, charge, dose, and whether there is none (R476). -/
def lifeRecord (b : List Nat) : Nat × Nat × Nat × Nat × Bool :=
  match idNewest b with
  | some k =>
    let a := 0x800 + 64 * k
    ((k + 1) % 16, idNum b (a + 4) 8, idNum b (a + 0xC) 4, idNum b (a + 0x10) 4, false)
  | none => (0, 0, 0, 0, true)

theorem lifeRecord_of_newest {b : List Nat} {k : Nat} (h : idNewest b = some k) : lifeRecord b =
    ((k + 1) % 16, idNum b (0x804 + 64 * k) 8, idNum b (0x80C + 64 * k) 4, idNum b (0x810 + 64 * k) 4, false) := by
  have hat (o : Nat) : 0x800 + 64 * k + o = 0x800 + o + 64 * k := by omega
  simp only [lifeRecord, h, hat]

theorem lifeRecord_of_none {b : List Nat} (h : idNewest b = none) : lifeRecord b = (0, 0, 0, 0, true) := by
  simp only [lifeRecord, h]

def State.lifeTaken (s : State) (l : Nat × Nat × Nat × Nat × Bool) : State :=
  let high := if s.tile.doseNow = [] then none else some (s.tile.doseNow.foldl (fun a e => max a e.2) 0)
  let s := { s with tile := { s.tile with
    hits := l.2.1, charge := l.2.2.1 * 2 ^ 40, dose := l.2.2.2.1, doseHigh := high, leakAt := [] } }
  let s := ((s.set CX_TILE_LIFE_next l.1).setB CX_TILE_STATUS_no_record l.2.2.2.2).set CX_TILE_STATUS_warn 0
  s.set CX_TILE_STATUS_end 0

theorem State.lifeLoad_eq (s : State) (b : List Nat) : s.lifeLoad b = (s.lifeTaken (lifeRecord b)).lifeCheck := rfl

theorem State.lifeTaken_spec (s : State) (l : Nat × Nat × Nat × Nat × Bool) :
    (s.lifeTaken l).get CX_TILE_LIFE_next = l.1 % 16 ∧ (s.lifeTaken l).get CX_TILE_STATUS_no_record = b2n l.2.2.2.2 ∧
    (s.lifeTaken l).tile.hits = l.2.1 ∧ (s.lifeTaken l).tile.charge = l.2.2.1 * 2 ^ 40 ∧
    (s.lifeTaken l).tile.dose = l.2.2.2.1 ∧ Frame [.tile] [CX_TILE_LIFE_next, CX_TILE_STATUS_no_record,
      CX_TILE_STATUS_warn, CX_TILE_STATUS_end] s (s.lifeTaken l) := by
  unfold State.lifeTaken State.setB
  dsimp only
  refine ⟨?_, ?_, rfl, rfl, rfl, ?_⟩
  · simp (disch := decide) only [State.get_set_ne, State.get_set_same]
    rfl
  · simp (disch := decide) only [State.get_set_ne, State.get_set_same]
    cases l.2.2.2.2 <;> rfl
  · exact (((((Frame.refl [.tile] _ s).with_tile _ (by decide)).set _ _ (by decide)).set _ _ (by decide)).set _ _
      (by decide)).set _ _ (by decide)

def lifeFields : List Fld := [CX_TILE_LIFE_frac, CX_TILE_STATUS_warn, CX_TILE_STATUS_end, CX_TILE_STATUS_life_event,
  MG_EVLOG_merged]

theorem State.lifeCheck_lifeFrame (s : State) : Frame [.evReq] lifeFields s s.lifeCheck := by
  have hraise (c : Bool) (f : Fld) (src : Nat) (hf : f.key ∈ lifeFields.map Fld.key) {u : State}
      (hu : Frame [.evReq] lifeFields s u) : Frame [.evReq] lifeFields s
        (if c = true then ((u.set f 1).set CX_TILE_STATUS_life_event 1).raise src else u) :=
    Frame.ite (((hu.set _ _ hf).set _ _ (by decide)).raise _ _ (by decide) (by decide)) hu
  exact hraise _ _ _ (by decide) (hraise _ _ _ (by decide) ((Frame.refl _ _ s).set _ _ (by decide)))

/-- The fields that an identification writes. -/
def identFields : List Fld := [CX_TILE_STATUS_id_state, CX_TILE_SERIAL_LO_serial, CX_TILE_SERIAL_HI_serial,
  CX_TILE_KIND_kind, CX_TILE_KIND_pad_count, CX_TILE_RATED_HITS_value, CX_TILE_RATED_Q_value, CX_TILE_RATED_DOSE_value,
  CX_TILE_LIFE_next, CX_TILE_LIFE_frac, CX_TILE_STATUS_no_record, CX_TILE_STATUS_warn, CX_TILE_STATUS_end,
  CX_TILE_STATUS_life_event, MG_EVLOG_merged] ++ (List.range 48).map CX_TILE_PADMAP_present

/-- A tile is identified, with the life record `l`. -/
structure Identified (b : List Nat) (l : Nat × Nat × Nat × Nat × Bool) (s t : State) : Prop where
  state : t.get CX_TILE_STATUS_id_state = 2
  shown : IdShown b t
  next : t.get CX_TILE_LIFE_next = l.1 % 16
  bare : t.get CX_TILE_STATUS_no_record = b2n l.2.2.2.2
  hits : t.tile.hits = l.2.1
  charge : t.tile.charge = l.2.2.1 * 2 ^ 40
  dose : t.tile.dose = l.2.2.2.1
  frame : Frame [.tile, .evReq] identFields s t

theorem padFields_apart : ∀ f ∈ idFields, ∀ g ∈ padFields, f.key ≠ g.key := by decide +kernel

theorem tileIdReadDone_identified {s : State} {b : List Nat} (hstate : s.get CX_TILE_STATUS_id_state = 1)
    (hheader : idHeaderOk b = true) (hpads : idNum b 0x640 2 = crc16 (idBytes b 0x40 0x600)) :
    Identified b (lifeRecord b) s (tileIdReadDone true b s) := by
  rw [tileIdReadDone_of_good hstate hheader hpads, State.lifeLoad_eq]
  have hid := s.idShown_frame b
  have hshown := s.idShown_shown hheader
  generalize s.idShown b = a at hid hshown ⊢
  have hpad := a.padsShown_frame b
  generalize a.padsShown b = c at hpad ⊢
  obtain ⟨hnext, hbare, hhits, hcharge, hdose, htaken⟩ := c.lifeTaken_spec (lifeRecord b)
  generalize c.lifeTaken (lifeRecord b) = d at hnext hbare hhits hcharge hdose htaken ⊢
  have hlife := d.lifeCheck_lifeFrame
  generalize d.lifeCheck = e at hlife ⊢
  have htile : (e.set CX_TILE_STATUS_id_state 2).tile = d.tile := hlife.parts .tile (by decide)
  have hkept (f : Fld) (hf : f.key ≠ CX_TILE_STATUS_id_state.key) (hl : ∀ g ∈ lifeFields, f.key ≠ g.key) :
      (e.set CX_TILE_STATUS_id_state 2).get f = d.get f := (State.get_set_ne _ hf _).trans (hlife.get hl)
  refine ⟨State.get_set_fit _ _ (by decide), hshown.congr fun f hf => ?_, (hkept _ (by decide) (by decide)).trans hnext,
    (hkept _ (by decide) (by decide)).trans hbare, by rw [htile, hhits], by rw [htile, hcharge], by rw [htile, hdose],
    ?_⟩
  · have happart : ∀ f ∈ idFields, f.key ≠ CX_TILE_STATUS_id_state.key ∧ (∀ g ∈ lifeFields, f.key ≠ g.key) ∧
        ∀ g ∈ [CX_TILE_LIFE_next, CX_TILE_STATUS_no_record, CX_TILE_STATUS_warn, CX_TILE_STATUS_end],
          f.key ≠ g.key := by decide
    obtain ⟨hstate, hl, ht⟩ := happart f hf
    rw [hkept f hstate hl, htaken.get ht, hpad.get (padFields_apart f hf)]
  · exact ((((hid.mono (by simp) (by simp [idFields])).trans (hpad.mono (by simp)
      (List.subset_append_right _ _))).trans (htaken.mono (by decide) (by simp))).trans
      (hlife.mono (by decide) (by simp [lifeFields]))).set _ _ (by simp)

/-! ## The I²C master -/

/-- The control register as the command writes it. -/
def State.i2cWritten (s : State) (op : Bool) (len a : Nat) : State :=
  ((s.setB CX_TILE_I2C_CTRL_op op).set CX_TILE_I2C_CTRL_len_m1 len).set CX_TILE_I2C_CTRL_addr a

def i2cFields : List Fld := [CX_TILE_I2C_CTRL_op, CX_TILE_I2C_CTRL_len_m1, CX_TILE_I2C_CTRL_addr]

theorem State.i2cWritten_frame (s : State) (op : Bool) (len a : Nat) : Frame [] i2cFields s (s.i2cWritten op len a) :=
  (((Frame.refl _ _ s).setB _ _ (by decide)).set _ _ (by decide)).set _ _ (by decide)

theorem exec_i2cGo {len a : Nat} (hlen : len < 32) (ha : a < 65536) (op : Bool) (s : State) :
    exec (.i2cGo op len a) s = .next (i2cGo op len a s) :=
  effect_of_wf (c := .i2cGo op len a) (by simp [Instr.wf, hlen, ha]) (i2cGo op len a) s

theorem exec_i2cDone {d : List Nat} (hd : (d.all fun x => decide (x < 256)) = true) (acked : Bool) (s : State) :
    exec (.i2cDone acked d) s = .next (i2cDone acked d s) :=
  effect_of_wf (c := .i2cDone acked d) hd (i2cDone acked d) s

theorem i2cGo_of_busy {s : State} (h : s.get CX_TILE_I2C_CTRL_state = 1) (op : Bool) (len a : Nat) :
    i2cGo op len a s = s.i2cWritten op len a :=
  if_pos (((s.i2cWritten_frame op len a).get (by decide)).trans h)

section
variable {s : State} (hfree : s.get CX_TILE_I2C_CTRL_state ≠ 1)
include hfree

theorem i2cGo_of_free (op : Bool) (len a : Nat) : i2cGo op len a s =
    if !s.on CX_TILE_STATUS_present || s.svc.tap.ir == 0 then (s.i2cWritten op len a).i2cError 5
    else if op && s.i2cRefuses (len + 1) a then (s.i2cWritten op len a).i2cError 4
    else State.set { s.i2cWritten op len a with tile := { s.tile with i2cOp := op, i2cLen := len, i2cAddr := a } }
      CX_TILE_I2C_CTRL_state 1 := by
  have hwritten := s.i2cWritten_frame op len a
  have hpresent : (s.i2cWritten op len a).on CX_TILE_STATUS_present = s.on CX_TILE_STATUS_present := by
    rw [State.on, hwritten.get (by decide), State.on]
  have hrefuses : (s.i2cWritten op len a).i2cRefuses (len + 1) a = s.i2cRefuses (len + 1) a := by
    rw [State.i2cRefuses, State.on, hwritten.get (by decide), hwritten.get (by decide), State.i2cRefuses, State.on]
  have heq : i2cGo op len a s = if (s.i2cWritten op len a).get CX_TILE_I2C_CTRL_state = 1 then s.i2cWritten op len a
      else if !(s.i2cWritten op len a).on CX_TILE_STATUS_present || s.svc.tap.ir == 0 then
        (s.i2cWritten op len a).i2cError 5
      else if op && (s.i2cWritten op len a).i2cRefuses (len + 1) a then (s.i2cWritten op len a).i2cError 4
      else State.set { s.i2cWritten op len a with tile := { s.tile with i2cOp := op, i2cLen := len, i2cAddr := a } }
        CX_TILE_I2C_CTRL_state 1 := rfl
  rw [heq, hpresent, hrefuses, if_neg (by rwa [hwritten.get (by decide)])]

theorem i2cGo_of_absent (h : s.on CX_TILE_STATUS_present = false ∨ s.svc.tap.ir = 0) (op : Bool) (len a : Nat) :
    i2cGo op len a s = (s.i2cWritten op len a).i2cError 5 := by
  rw [i2cGo_of_free hfree, if_pos (by obtain h | h := h <;> simp [h])]

variable (hpresent : s.on CX_TILE_STATUS_present = true) (hir : s.svc.tap.ir ≠ 0)
include hpresent hir

theorem i2cGo_of_refused {len a : Nat} (h : s.i2cRefuses (len + 1) a = true) :
    i2cGo true len a s = (s.i2cWritten true len a).i2cError 4 := by
  rw [i2cGo_of_free hfree, if_neg (by simp [hpresent, hir]), if_pos (by simp [h])]

theorem i2cGo_of_started {op : Bool} {len a : Nat} (h : (op && s.i2cRefuses (len + 1) a) = false) :
    i2cGo op len a s = State.set { s.i2cWritten op len a with
      tile := { s.tile with i2cOp := op, i2cLen := len, i2cAddr := a } } CX_TILE_I2C_CTRL_state 1 := by
  rw [i2cGo_of_free hfree, if_neg (by simp [hpresent, hir]), if_neg (by simp [h])]

/-- A transfer that is not refused runs. -/
theorem i2cGo_started {op : Bool} {len a : Nat} (h : (op && s.i2cRefuses (len + 1) a) = false) :
    (i2cGo op len a s).get CX_TILE_I2C_CTRL_state = 1 ∧ (i2cGo op len a s).tile.i2cOp = op ∧
    (i2cGo op len a s).tile.i2cLen = len ∧ (i2cGo op len a s).tile.i2cAddr = a ∧
    Frame [.tile] [CX_TILE_I2C_CTRL_op, CX_TILE_I2C_CTRL_len_m1, CX_TILE_I2C_CTRL_addr, CX_TILE_I2C_CTRL_state] s
      (i2cGo op len a s) := by
  have hwritten := s.i2cWritten_frame op len a
  rw [i2cGo_of_started hfree hpresent hir h]
  exact ⟨State.get_set_fit _ _ (by decide), rfl, rfl, rfl,
    ((hwritten.mono (by simp) (by simp [i2cFields])).with_tile _ (by decide)).set _ _ (by simp)⟩

end

theorem State.i2cRefuses_of {s : State} {len a : Nat} (h : a < 0x800 + 64 * s.get CX_TILE_LIFE_next ∨
    0x840 + 64 * s.get CX_TILE_LIFE_next < a + len + 1 ∨ 32 < a % 32 + len + 1 ∨ s.on CX_TILE_LIFE_hold = true) :
    s.i2cRefuses (len + 1) a = true := by
  unfold State.i2cRefuses
  dsimp only
  simp only [Bool.or_eq_true, decide_eq_true_eq]
  obtain h | h | h | h := h
  · exact .inl (.inl (.inr h))
  · exact .inl (.inr (by omega))
  · exact .inl (.inl (.inl (.inr (by omega))))
  · exact .inr h

theorem State.i2cRefuses_not {s : State} {len a : Nat} (hlow : 0x800 + 64 * s.get CX_TILE_LIFE_next ≤ a)
    (hhigh : a + len + 1 ≤ 0x840 + 64 * s.get CX_TILE_LIFE_next) (hpage : a % 32 + len + 1 ≤ 32)
    (hhold : s.on CX_TILE_LIFE_hold = false) : s.i2cRefuses (len + 1) a = false := by
  unfold State.i2cRefuses
  dsimp only
  simp only [Bool.or_eq_false_iff, decide_eq_false_iff_not, hhold, and_true]
  omega

/-! ## The buffer -/

/-- A byte of the buffer is written. -/
def State.bufByte (s : State) (i v : Nat) : State :=
  s.set (CX_TILE_I2C_BUF_data (i / 4)) (putBits (s.get (CX_TILE_I2C_BUF_data (i / 4))) (8 * (i % 4)) 8 v)

/-- A byte of the buffer. -/
def State.bufAt (s : State) (i : Nat) : Nat := byteOf (s.get (CX_TILE_I2C_BUF_data (i / 4))) (i % 4)

theorem byteOf_putBits {i j : Nat} (hi : i < 4) (hj : j < 4) (v x : Nat) :
    byteOf (putBits v (8 * j) 8 x % 2 ^ 32) i = if i = j then x % 256 else byteOf (v % 2 ^ 32) i := by
  unfold byteOf putBits
  interval_cases i <;> interval_cases j <;> simp only [Nat.reduceMul, Nat.reduceAdd, Nat.reducePow, Nat.reduceEqDiff,
    if_true, if_false] <;> omega

theorem State.bufAt_bufByte (s : State) (i j v : Nat) :
    (s.bufByte i v).bufAt j = if j = i then v % 256 else s.bufAt j := by
  unfold State.bufByte State.bufAt
  by_cases hword : j / 4 = i / 4
  · have hsmall : s.get (CX_TILE_I2C_BUF_data (i / 4)) % 2 ^ 32 = s.get (CX_TILE_I2C_BUF_data (i / 4)) :=
      Nat.mod_eq_of_lt (State.get_lt _ _)
    rw [hword, State.get_set_same]
    refine (byteOf_putBits (Nat.mod_lt _ (by decide)) (Nat.mod_lt _ (by decide)) _ _).trans ?_
    rw [hsmall]
    by_cases h : j = i
    · rw [if_pos h, if_pos (by rw [h])]
    · rw [if_neg h, if_neg (by omega)]
  · rw [State.get_set_ne _ (by simp only [Fld.key, CX_TILE_I2C_BUF_data]; omega), if_neg (by rintro rfl; exact hword rfl)]

def bufFields (n : Nat) : List Fld := (List.range n).map fun i => CX_TILE_I2C_BUF_data (i / 4)

theorem State.i2cBuf_eq (s : State) (data : List Nat) :
    s.i2cBuf data = s.each (List.range data.length) fun s i => s.bufByte i (data.getD i 0) := rfl

theorem State.i2cBuf_frame (s : State) (data : List Nat) : Frame [] (bufFields data.length) s (s.i2cBuf data) := by
  rw [State.i2cBuf_eq]
  refine (Frame.refl _ _ s).each fun u i hi hu => hu.set _ _ ?_
  simp only [bufFields, List.map_map]
  exact List.mem_map.2 ⟨i, hi, rfl⟩

theorem State.i2cBuf_state (s : State) (data : List Nat) :
    (s.i2cBuf data).get CX_TILE_I2C_CTRL_state = s.get CX_TILE_I2C_CTRL_state := by
  refine (s.i2cBuf_frame data).get fun g hg => ?_
  obtain ⟨i, -, rfl⟩ := List.mem_map.1 hg
  simp only [Fld.key, CX_TILE_I2C_BUF_data, CX_TILE_I2C_CTRL_state]
  omega

theorem State.bufAt_each {w : Nat → Nat} {l : List Nat} {i : Nat} (s : State) :
    (s.each l fun s k => s.bufByte k (w k)).bufAt i = if i ∈ l then w i % 256 else s.bufAt i := by
  induction l generalizing s with
  | nil => simp
  | cons k l ih =>
    rw [State.each_cons, ih, State.bufAt_bufByte]
    by_cases hl : i ∈ l
    · simp [hl]
    · by_cases hk : i = k
      · simp [hk]
      · simp [hl, hk]

theorem State.bufAt_i2cBuf (s : State) {data : List Nat} {i : Nat} (hi : i < data.length) :
    (s.i2cBuf data).bufAt i = data.getD i 0 % 256 := by
  rw [State.i2cBuf_eq, State.bufAt_each, if_pos (List.mem_range.2 hi)]

/-! ## A transfer that ends -/

theorem i2cDone_of_idle {s : State} (h : s.get CX_TILE_I2C_CTRL_state ≠ 1) (acked : Bool) (d : List Nat) :
    i2cDone acked d s = s := by rw [i2cDone, if_pos h]

section
variable {s : State} (hbusy : s.get CX_TILE_I2C_CTRL_state = 1) (d : List Nat)
include hbusy

theorem i2cDone_of_silent : i2cDone false d s = s.i2cError 3 := by
  rw [i2cDone, if_neg (not_not_intro hbusy), if_pos (by decide)]

theorem i2cDone_of_read (hop : s.tile.i2cOp = false) :
    i2cDone true d s = (s.set CX_TILE_I2C_CTRL_state 2).i2cBuf (d.take (s.tile.i2cLen + 1)) := by
  rw [i2cDone, if_neg (not_not_intro hbusy), if_neg (by decide)]
  dsimp only
  rw [State.set_tile, hop, if_neg (by decide)]

theorem i2cDone_of_slotEnd (hop : s.tile.i2cOp = true) (hlow : s.tile.i2cAddr ≤ 0x83F + 64 * s.get CX_TILE_LIFE_next)
    (hhigh : 0x83F + 64 * s.get CX_TILE_LIFE_next ≤ s.tile.i2cAddr + s.tile.i2cLen) : i2cDone true d s =
    ((s.set CX_TILE_I2C_CTRL_state 2).set CX_TILE_LIFE_next (s.get CX_TILE_LIFE_next + 1)).set CX_TILE_LIFE_hold 1 := by
  rw [i2cDone, if_neg (not_not_intro hbusy), if_neg (by decide)]
  dsimp only
  rw [State.set_tile, hop, if_pos rfl, State.get_set_ne _ (by decide), if_pos (by omega)]

end

/-! ## The statement -/

theorem exec_tileIdReadDone {b : List Nat} (hb : (b.all fun x => decide (x < 256)) = true) (acked : Bool) (s : State) :
    exec (.tileIdReadDone acked b) s = .next (tileIdReadDone acked b s) :=
  effect_of_wf (c := .tileIdReadDone acked b) hb (tileIdReadDone acked b) s

theorem tilePresence_of_same {s : State} {p : Bool} (h : s.on CX_TILE_STATUS_present = p) : tilePresence p s = s := by
  rw [tilePresence, h, if_pos (by simp)]

/-- A change of presence is shown and told. -/
def State.presenceTold (s : State) (p : Bool) : State :=
  ((s.setB CX_TILE_STATUS_present p).set CX_TILE_STATUS_presence 1).raise 160

theorem tilePresence_of_gone {s : State} (h : s.on CX_TILE_STATUS_present = true) :
    tilePresence false s = (s.presenceTold false).atEdge .tileGone State.tileGone := by
  rw [tilePresence, h, if_neg (by decide)]
  rfl

theorem State.presenceTold_frame (s : State) (p : Bool) :
    Frame [.evReq] [CX_TILE_STATUS_present, CX_TILE_STATUS_presence, MG_EVLOG_merged] s (s.presenceTold p) :=
  (((Frame.refl [.evReq] _ s).setB _ _ (by simp)).set _ _ (by simp)).raise _ _ (by decide) (by simp)

theorem State.presenceTold_gone (s : State) : (s.presenceTold false).get CX_TILE_STATUS_present = 0 := by
  unfold State.presenceTold State.setB
  rw [State.get_raise_ne _ (by decide), State.get_set_ne _ (by decide)]
  exact State.get_set_fit _ _ (by decide)

theorem tilePresence_gone_off {s : State} {n r : Nat} (hpresent : s.on CX_TILE_STATUS_present = true)
    (hstill : s.mt.running = false) (hn : n < 3) (hr : r < 96) : ∃ u, Frame [.evReq] [CX_TILE_STATUS_present,
      CX_TILE_STATUS_presence, MG_EVLOG_merged] s u ∧ TileOff n r u (tilePresence false s) ∧
      (tilePresence false s).get CX_TILE_STATUS_present = 0 ∧ Sparse.has 160 (tilePresence false s).evReq = true := by
  have hframe := s.presenceTold_frame false
  have hgone := s.presenceTold_gone
  have htold : Sparse.has 160 (s.presenceTold false).evReq = true := State.has_raise ..
  rw [tilePresence_of_gone hpresent, State.atEdge, hframe.parts .mt (by decide), hstill, if_neg (by decide)]
  have hoff := State.tileGone_off (s := s.presenceTold false) hn hr (State.on_eq_of_get hgone)
  exact ⟨_, hframe, hoff, hoff.present.trans hgone, State.has_tileGone_of_has htold⟩

/-- Settles O47: the removal is `TileOff`, an identification `Identified`, and each transfer begins and ends by one
equation. -/
theorem tileIsIdentifiedAndItsLifeKept : Obligations.TileIsIdentifiedAndItsLifeKept := by
  unfold Obligations.TileIsIdentifiedAndItsLifeKept
  refine ⟨?_, ?_, ?_, ?_, ?_, ?_, ?_, ?_, ?_, ?_, ?_, ?_, ?_, ?_, ?_, ?_, ?_, ?_, ?_, ?_, ?_, ?_⟩
  · intro s p h
    refine (effect_of_wf rfl (tilePresence p) s).trans ?_
    rw [tilePresence_of_same h]
  · intro s h
    refine (effect_of_wf rfl (tilePresence true) s).trans ?_
    rw [tilePresence, h, if_neg (by decide), if_pos rfl]
    rfl
  · intro s n r hpresent hstill hn hr
    obtain ⟨u, hframe, hoff, hgone, htold⟩ := tilePresence_gone_off hpresent hstill hn hr
    have hapart : (CX_LE_LOOP_en r).key ≠ CX_TILE_STATUS_present.key ∧
        (CX_LE_LOOP_en r).key ≠ CX_TILE_STATUS_presence.key ∧ (CX_LE_LOOP_en r).key ≠ MG_EVLOG_merged.key := by
      simp only [Fld.key, CX_LE_LOOP_en, CX_TILE_STATUS_present, CX_TILE_STATUS_presence, MG_EVLOG_merged]
      omega
    have hruns : u.feRuns n = s.feRuns n := by
      unfold State.feRuns
      rw [hframe.parts .shut (by decide), hframe.get (by interval_cases n <;> decide)]
    have hon : u.on (CX_LE_LOOP_en r) = s.on (CX_LE_LOOP_en r) := by
      rw [State.on, hframe.get (by simpa using hapart), State.on]
    have hi2c := hoff.i2c
    rw [hframe.get (by decide)] at hi2c
    exact ⟨_, effect_of_wf rfl (tilePresence false) s, hgone, hoff.id, fun h => hoff.mask (hruns.trans h), hoff.en,
      fun h => hoff.cause (hon.trans h), hi2c, htold⟩
  · intro s hpresent hrun
    dsimp only
    refine (effect_of_wf rfl (tilePresence false) s).trans ?_
    have hmt : (s.presenceTold false).mt.running = true := by
      rw [(s.presenceTold_frame false).parts .mt (by decide), hrun]
    rw [tilePresence_of_gone hpresent, State.atEdge, if_pos hmt]
    rfl
  · intro s n r hidle hrun hb hedge harrived hcal hstate hheld hgone hn hr
    refine ⟨_, step_of_idle hidle, ?_⟩
    rw [State.tick_quiet hrun hheld hb (by simp [State.stopDue, hedge]) harrived hcal hstate, hedge]
    have hpassed (f : Fld) : s.passed.get f = s.get f := s.passed_frame.get (by simp)
    have hpassedOn (f : Fld) : s.passed.on f = s.on f := congrArg (· != 0) (hpassed f)
    have hoff := State.tileGone_off (s := s.passed) hn hr ((hpassedOn _).trans hgone)
    simp only [State.each_cons, State.each_nil, State.edgeAct]
    have hi2c := hoff.i2c
    rw [hpassed CX_TILE_I2C_CTRL_state] at hi2c
    refine ⟨hoff.id, fun h => hoff.mask ?_, hoff.en, fun h => hoff.cause ((hpassedOn _).trans h), hi2c⟩
    rw [State.feRuns, hpassed, s.passed_frame.parts .shut (by decide), ← State.feRuns, h]
  · intro s acked b h
    by_cases hb : (b.all fun x => decide (x < 256)) = true
    · rw [exec_tileIdReadDone hb, tileIdReadDone, if_pos h]
    · exact exec_of_not_wf (c := .tileIdReadDone acked b) (Bool.eq_false_iff.2 hb) s
  · intro s acked b hstate hb hheader
    rw [exec_tileIdReadDone hb, tileIdReadDone, if_neg (not_not_intro hstate), hheader, if_pos (by decide), State.idFail]
  · intro s acked b hstate hb hheader hpads
    rw [exec_tileIdReadDone hb, tileIdReadDone, if_neg (not_not_intro hstate), hheader, if_neg (by decide),
      if_pos hpads, State.idFail]
  · intro s b hstate hb hheader hpads
    rw [exec_tileIdReadDone hb, tileIdReadDone, if_neg (not_not_intro hstate), hheader, if_neg (by decide),
      if_neg (not_not_intro hpads), if_pos (by decide), State.idFail]
  · intro s b k hstate hb hheader hpads hnewest
    have hid := tileIdReadDone_identified hstate hheader hpads
    rw [lifeRecord_of_newest hnewest] at hid
    refine ⟨_, exec_tileIdReadDone hb true s, hid.state, hid.shown.serialLo, hid.shown.serialHi, hid.shown.kind,
      hid.shown.pads, hid.shown.hits, hid.shown.charge, hid.shown.dose, hid.next.trans (Nat.mod_mod _ _), hid.bare,
      hid.hits, hid.charge, hid.dose, hid.frame⟩
  · intro s b hstate hb hheader hpads hnewest
    have hid := tileIdReadDone_identified hstate hheader hpads
    rw [lifeRecord_of_none hnewest] at hid
    exact ⟨_, exec_tileIdReadDone hb true s, hid.state, hid.shown.serialLo, hid.shown.serialHi, hid.shown.kind,
      hid.shown.pads, hid.shown.hits, hid.shown.charge, hid.shown.dose, hid.next, hid.bare, hid.hits, hid.charge,
      hid.dose, hid.frame⟩
  · intro s
    refine ⟨_, effect_of_wf rfl tileExpSnap s, ?_⟩
    unfold tileExpSnap
    refine ⟨?_, ?_, ?_, ?_, ?_⟩
    · simp (disch := decide) only [State.get_set_ne, State.get_set_same]
      rfl
    · simp (disch := decide) only [State.get_set_ne, State.get_set_same]
      rfl
    · simp (disch := decide) only [State.get_set_ne, State.get_set_same]
      rfl
    · simp (disch := decide) only [State.get_set_same]
      rfl
    · exact ((((Frame.refl [] _ s).set _ _ (by decide)).set _ _ (by decide)).set _ _ (by decide)).set _ _ (by decide)
  · intro s op len a hlen ha hbusy
    rw [exec_i2cGo hlen ha, i2cGo_of_busy hbusy]
    rfl
  · intro s op len a hlen ha hfree habsent
    obtain ⟨hstate, herr⟩ := (s.i2cWritten op len a).i2cError_fields (k := 5) (by decide)
    refine ⟨_, exec_i2cGo hlen ha op s, ?_⟩
    rw [i2cGo_of_absent hfree habsent]
    exact ⟨hstate, herr, ((s.i2cWritten_frame op len a).mono (by simp) (by simp [i2cFields])).trans
      (((s.i2cWritten op len a).i2cError_frame 5).mono (by decide) (by simp))⟩
  · intro s len a hlen ha hfree hpresent hir h
    obtain ⟨hstate, herr⟩ := (s.i2cWritten true len a).i2cError_fields (k := 4) (by decide)
    refine ⟨_, exec_i2cGo hlen ha true s, ?_⟩
    rw [i2cGo_of_refused hfree hpresent hir (State.i2cRefuses_of h)]
    exact ⟨hstate, herr, (((s.i2cWritten true len a).i2cError_frame 4).parts .tile (by decide)).trans
      ((s.i2cWritten_frame true len a).parts .tile (by decide))⟩
  · intro s len a hlen ha hfree hpresent hir hlow hhigh hpage hhold
    exact ⟨_, exec_i2cGo hlen ha true s, i2cGo_started hfree hpresent hir
      (by rw [State.i2cRefuses_not hlow hhigh hpage hhold]; rfl)⟩
  · intro s len a hlen ha hfree hpresent hir
    exact ⟨_, exec_i2cGo hlen ha false s, i2cGo_started hfree hpresent hir rfl⟩
  · intro s acked d hidle
    by_cases hd : (d.all fun x => decide (x < 256)) = true
    · rw [exec_i2cDone hd, i2cDone_of_idle hidle]
    · exact exec_of_not_wf (c := .i2cDone acked d) (Bool.eq_false_iff.2 hd) s
  · intro s d hbusy hd
    rw [exec_i2cDone hd, i2cDone_of_silent hbusy, State.i2cError]
  · intro s d i hbusy hd hop hlen hi _
    have hbyte : d.getD i 0 < 256 := by
      have hall := List.all_eq_true.1 hd (d.getD i 0) (by rw [List.getD_eq_getElem _ _ hlen]; exact List.getElem_mem hlen)
      exact of_decide_eq_true hall
    have htake : (d.take (s.tile.i2cLen + 1)).getD i 0 = d.getD i 0 := by
      simp only [List.getD_eq_getElem?_getD, List.getElem?_take]
      rw [if_pos (by omega)]
    refine ⟨_, exec_i2cDone hd true s, ?_⟩
    rw [i2cDone_of_read hbusy d hop]
    refine ⟨?_, ?_, ?_⟩
    · rw [State.i2cBuf_state]
      exact State.get_set_fit _ _ (by decide)
    · refine (State.bufAt_i2cBuf _ (by rw [List.length_take]; omega)).trans ?_
      rw [htake, Nat.mod_eq_of_lt hbyte]
    · exact (State.i2cBuf_frame _ _).parts .tile (by decide)
  · intro s d hbusy hd hop hlow hhigh
    refine ⟨_, exec_i2cDone hd true s, ?_⟩
    rw [i2cDone_of_slotEnd hbusy d hop hlow hhigh]
    refine ⟨?_, ?_, State.get_set_fit _ _ (by decide), ?_⟩
    · rw [State.get_set_ne _ (by decide), State.get_set_ne _ (by decide)]
      exact State.get_set_fit _ _ (by decide)
    · rw [State.get_set_ne _ (by decide), State.get_set_same]
      rfl
    · exact (((Frame.refl [] _ s).set _ _ (by decide)).set _ _ (by decide)).set _ _ (by decide)
  · exact fun s => effect_of_wf rfl lifeHoldExpiry s

end Sys2Proof.Machine
end

section
/-! SUPPORT and PROOF. The RAMs cleared at boot: a mark is kept per byte of the memory, at most 2^24 of them (R404,
R498). -/

namespace Sys2Proof.Machine

open Sys2Proof

/-- After reset, with a damaged word on the memory that follows the data RAM in the numbering of the marks. -/
def markBeyondDram : State :=
  { State.reset with prot := { State.reset.prot with marks := [(markKey (memDram + 1) 0, 1)] } }

theorem exec_bootClearDone (s : State) : exec .bootClearDone s = .next (bootClearDone s) :=
  effect_of_wf rfl bootClearDone s

theorem markBeyondDram_mark : (bootClearDone markBeyondDram).mark memDram (2 ^ 24) = 1 := by decide +kernel

/-- Refutes O49: its first clause speaks of every index, also of 2^24, which the data RAM does not have and at which the
mark of the next memory stands. -/
theorem not_coresHaltAndStart : ¬ Obligations.CoresHaltAndStart := by
  unfold Obligations.CoresHaltAndStart
  rintro ⟨hboot, -⟩
  obtain ⟨t, ht, -, -, -, -, hmark, -⟩ := hboot markBeyondDram (2 ^ 24) (by decide +kernel) (by decide +kernel)
  rw [exec_bootClearDone, Host.Outcome.next.injEq] at ht
  rw [← ht, markBeyondDram_mark] at hmark
  cases hmark

end Sys2Proof.Machine
end

section
/-! SUPPORT and PROOF. The uptime never runs backwards (R497), so a time told that lies before it is not taken over. -/

namespace Sys2Proof.Machine

open Sys2Proof

/-- After reset, with the uptime at one microsecond. -/
def upOne : State := { State.reset with mg := { State.reset.mg with uptime := 1 } }

theorem exec_uptimeRead {us : Nat} (h : us < 2 ^ 64) (s : State) : exec (.uptimeRead us) s = .next (uptimeRead us s) :=
  effect_of_wf (c := .uptimeRead us) (decide_eq_true h) (uptimeRead us) s

theorem upOne_uptime : (uptimeRead 0 upOne).mg.uptime = 1 := by decide +kernel

/-- Refutes O51: its last clause lets a read tell any time, also one before the uptime that the state holds. -/
theorem not_eventsAreLoggedQueuedAndClaimed : ¬ Obligations.EventsAreLoggedQueuedAndClaimed := by
  unfold Obligations.EventsAreLoggedQueuedAndClaimed
  rintro ⟨-, -, -, -, -, -, -, -, -, hread⟩
  obtain ⟨t, ht, -, -, -, huptime, -⟩ := hread upOne 0 (by decide)
  rw [exec_uptimeRead (by decide), Host.Outcome.next.injEq] at ht
  rw [← ht, upOne_uptime] at huptime
  cases huptime

end Sys2Proof.Machine
end

section
/-! PROOF. A new image is checked in the shadow half, and the halves exchange (R499, R500). -/

namespace Sys2Proof.Machine

open Sys2Proof

/-! ## The halves exchange -/

/-- The windows exchange, before the cores start. -/
def State.halvesSwapped (s : State) : State :=
  (s.set MG_STATUS_active_half (1 - s.get MG_STATUS_active_half)).set MG_IMG_CTRL_state 3

theorem State.halvesSwapped_frame (s : State) :
    Frame [] [MG_IMG_CTRL_state, MG_STATUS_active_half] s s.halvesSwapped :=
  ((Frame.refl [] _ s).set _ _ (by decide)).set _ _ (by decide)

theorem State.halvesSwapped_img (s : State) : s.halvesSwapped.get MG_IMG_CTRL_state = 3 :=
  State.get_set_fit _ _ (by decide)

theorem State.iramIndex_of_half {s t : State}
    (h : t.get MG_STATUS_active_half = (1 - s.get MG_STATUS_active_half) % 2 ^ 1) (off : Nat) :
    t.iramIndex false off = s.iramIndex true off := by
  have hhalf : s.get MG_STATUS_active_half < 2 ^ 1 := s.get_lt _
  rw [State.iramIndex, State.iramIndex, if_neg (by decide), if_pos rfl, h]
  omega

theorem State.halvesSwapped_half (s : State) :
    s.halvesSwapped.get MG_STATUS_active_half = (1 - s.get MG_STATUS_active_half) % 2 ^ 1 :=
  (State.get_set_ne _ (by decide) _).trans (State.get_set_same _ _ _)

theorem State.imageDone_eq (s : State) : s.imageDone =
    if s.halvesSwapped.get MG_STATUS_state = 1 ∨ s.halvesSwapped.get MG_STATUS_state = 2 then
      s.halvesSwapped.coresStart.raise 179 else s.halvesSwapped := rfl

/-- Cores start, no assay running (R495). -/
structure CoresStarted (s t : State) : Prop where
  state : t.get MG_STATUS_state = 2
  core : t.mg.core = ⟨0x40000000, [], []⟩
  wdog : t.mg.wdog = s.get MG_WDOG_period
  frame : Frame [.mg] [MG_STATUS_state] s t

/-- The cores are reset to the start address and are to run. -/
def State.coresReset (s : State) : State :=
  State.set { s with mg := { s.mg with core := ⟨0x40000000, [], []⟩, autoDue := false } } MG_STATUS_state 2

theorem State.coresReset_frame (s : State) : Frame [.mg] [MG_STATUS_state] s s.coresReset :=
  ((Frame.refl [.mg] [MG_STATUS_state] s).with_mg _ (by decide)).set _ _ (by decide)

theorem State.coresStart_started {s : State} (h : s.svc.assay = none) : CoresStarted s s.coresStart := by
  have heq : s.coresStart = s.coresReset.wdogRestart := State.assayCheck_of_none (s := s.coresReset.wdogRestart) h
  have hreset := s.coresReset_frame
  have hstate : s.coresReset.get MG_STATUS_state = 2 := State.get_set_fit _ _ (by decide)
  have hcore : s.coresReset.mg.core = ⟨0x40000000, [], []⟩ := rfl
  rw [heq]
  exact ⟨hstate, hcore, hreset.get (by decide), hreset.with_mg _ (by decide)⟩

/-- The halves have exchanged and the cores run the new image. -/
structure ImageStarted (s t : State) : Prop where
  half : t.get MG_STATUS_active_half = (1 - s.get MG_STATUS_active_half) % 2 ^ 1
  img : t.get MG_IMG_CTRL_state = 3
  state : t.get MG_STATUS_state = 2
  core : t.mg.core = ⟨0x40000000, [], []⟩
  wdog : t.mg.wdog = s.get MG_WDOG_period
  told : Sparse.has 179 t.evReq = true
  frame : Frame [.mg, .evReq] [MG_IMG_CTRL_state, MG_STATUS_state, MG_STATUS_active_half, MG_EVLOG_merged] s t

theorem State.imageDone_started {s : State} (hstate : s.get MG_STATUS_state = 1 ∨ s.get MG_STATUS_state = 2)
    (hassay : s.svc.assay = none) : ImageStarted s s.imageDone := by
  have hswap := s.halvesSwapped_frame
  have himg := s.halvesSwapped_img
  have hhalf := s.halvesSwapped_half
  rw [State.imageDone_eq, if_pos (by rw [hswap.get (by decide)]; exact hstate)]
  have hstart := State.coresStart_started (s := s.halvesSwapped) hassay
  generalize s.halvesSwapped = a at hswap himg hhalf hstart ⊢
  have hframe := hstart.frame
  refine ⟨?_, ?_, ?_, ?_, ?_, State.has_raise .., ?_⟩
  · rw [State.get_raise_ne _ (by decide), hframe.get (by decide), hhalf]
  · rw [State.get_raise_ne _ (by decide), hframe.get (by decide), himg]
  · rw [State.get_raise_ne _ (by decide), hstart.state]
  · rw [State.raise_mg, hstart.core]
  · rw [State.raise_mg, hstart.wdog, hswap.get (by decide)]
  · exact ((hswap.mono (by simp) (by simp)).trans (hframe.mono (by decide) (by simp))).raise _ _ (by decide) (by simp)

theorem State.imageDone_of_still {s : State} (h : s.get MG_STATUS_state ≠ 1 ∧ s.get MG_STATUS_state ≠ 2) :
    s.imageDone = s.halvesSwapped := by
  rw [State.imageDone_eq, if_neg (by rw [s.halvesSwapped_frame.get (by decide)]; tauto)]

/-! ## The check -/

/-- The merge buffer is open on a word of the image under check. -/
def State.bufOnImage (s : State) : Bool := s.prot.bufRam.any fun b =>
  decide (s.iramIndex true 0 ≤ b.word ∧ b.word < s.iramIndex true 0 + s.get MG_IMG_LEN_len / 8)

theorem imageCheckRead_of_clear {s : State} (h : s.bufOnImage = false) : imageCheckRead s = imageCheckDone s := by
  have heq : imageCheckRead s =
      imageCheckDone (s.iff (s.bufOnImage && s.get MG_IMG_CTRL_state == 1) State.fillRam) := rfl
  rw [heq, h]
  rfl

theorem imageCheckRead_of_open {s : State} (h : s.bufOnImage = true) (hrun : s.get MG_IMG_CTRL_state = 1) :
    imageCheckRead s = imageCheckDone s.fillRam := by
  have heq : imageCheckRead s =
      imageCheckDone (s.iff (s.bufOnImage && s.get MG_IMG_CTRL_state == 1) State.fillRam) := rfl
  rw [heq, h, hrun]
  rfl

theorem imageCheckRead_of_idle {s : State} (h : s.get MG_IMG_CTRL_state ≠ 1) : imageCheckRead s = s := by
  have heq : imageCheckRead s =
      imageCheckDone (s.iff (s.bufOnImage && s.get MG_IMG_CTRL_state == 1) State.fillRam) := rfl
  rw [heq, beq_eq_false_iff_ne.2 h, Bool.and_false, State.iff_false, imageCheckDone, if_pos h]

theorem State.flag_bufRam (s : State) (f : Fld) (src arg : Nat) : (s.flag f src arg).prot.bufRam = s.prot.bufRam := by
  unfold State.flag
  split
  · rfl
  · rw [State.raise_prot, State.set_prot]

theorem State.countClass_bufRam (s : State) (cls k : Nat) : (s.countClass cls k).prot.bufRam = s.prot.bufRam := by
  unfold State.countClass
  dsimp only
  split
  · rw [State.raise_prot]
  · rfl

theorem State.burnishIram_bufRam (s : State) (i : Nat) :
    (s.burnishWord 3 memIram i .uncorrectable none).prot.bufRam = s.prot.bufRam := by
  unfold State.burnishWord
  rw [if_neg (by rintro ⟨h, -⟩; cases h)]
  split
  · rfl
  · rw [if_pos (.inr rfl)]
    have huncorr : (s.eccUncorr 3 memIram i).prot.bufRam = s.prot.bufRam := by
      unfold State.eccUncorr
      rw [State.countClass_bufRam, State.flag_bufRam]
      rfl
    exact huncorr

theorem State.iramWrite_bufRam (s : State) (i v : Nat) : (s.iramWrite i v).prot.bufRam = s.prot.bufRam := by
  unfold State.iramWrite State.repairWrite
  dsimp only
  split <;> rfl

/-- A merge buffer that is filled is closed. -/
theorem State.fillRam_bufRam (s : State) : s.fillRam.prot.bufRam = none := by
  unfold State.fillRam
  split
  next h => exact h
  next b h =>
    dsimp only
    split
    next => rw [State.flag_bufRam, State.burnishIram_bufRam]
    next => exact State.iramWrite_bufRam ..

theorem exec_imageCheckDone (s : State) : exec .imageCheckDone s = .next (imageCheckRead s) :=
  effect_of_wf rfl imageCheckRead s

/-- Length and CRC-32 of the image under check are right, and none of its words is marked. -/
def State.imageGood (s : State) (n : Nat) : Prop := s.get MG_IMG_LEN_len % 8 = 0 ∧ 8 ≤ s.get MG_IMG_LEN_len ∧
  s.get MG_IMG_LEN_len ≤ 131072 ∧ (∀ k ∈ List.range n, s.mark memIram (s.iramIndex true 0 + k) = 0) ∧
  crc32 (wordBytes ((List.range n).map fun k => s.iramWord (s.iramIndex true 0 + k))) = s.get MG_IMG_CRC_crc

theorem State.imageOk_iff (s : State) : s.imageOk = true ↔ s.imageGood (s.get MG_IMG_LEN_len / 8) := by
  have hwords : ((List.range (s.get MG_IMG_LEN_len / 8)).map (· + s.iramIndex true 0)).map s.iramWord =
      (List.range (s.get MG_IMG_LEN_len / 8)).map fun k => s.iramWord (s.iramIndex true 0 + k) := by
    rw [List.map_map]
    exact List.map_congr_left fun k _ => congrArg s.iramWord (Nat.add_comm _ _)
  have hmarks : (((List.range (s.get MG_IMG_LEN_len / 8)).map (· + s.iramIndex true 0)).all
      fun i => s.mark memIram i == 0) = true ↔
      ∀ k ∈ List.range (s.get MG_IMG_LEN_len / 8), s.mark memIram (s.iramIndex true 0 + k) = 0 := by
    simp only [List.all_map, List.all_eq_true, Function.comp_apply, beq_iff_eq, Nat.add_comm]
  unfold State.imageOk State.imageGood
  dsimp only
  rw [Bool.and_eq_true, Bool.and_eq_true, hmarks, hwords]
  simp only [Bool.and_eq_true, beq_iff_eq, decide_eq_true_eq, and_assoc]

section
variable {s : State} (hrun : s.get MG_IMG_CTRL_state = 1) (hclear : s.bufOnImage = false)
include hrun hclear

theorem imageCheckRead_of_bad (h : ¬ s.imageGood (s.get MG_IMG_LEN_len / 8)) :
    imageCheckRead s = (s.set MG_IMG_CTRL_state 4).raise 177 := by
  have hbad : s.imageOk = false := Bool.eq_false_iff.2 fun hok => h (s.imageOk_iff.1 hok)
  rw [imageCheckRead_of_clear hclear, imageCheckDone, if_neg (not_not_intro hrun), hbad, if_pos (by decide)]

theorem imageCheckRead_of_good {n : Nat} (hn : n = s.get MG_IMG_LEN_len / 8) (h : s.imageGood n) : imageCheckRead s =
    if s.get MG_STATUS_state = 2 then (s.set MG_IMG_CTRL_state 2).raise 178 else s.imageDone := by
  rw [imageCheckRead_of_clear hclear, imageCheckDone, if_neg (not_not_intro hrun), s.imageOk_iff.2 (hn ▸ h),
    if_neg (by decide)]

end

/-! ## The statement -/

theorem imageReady_of_safe {s : State} (himg : s.get MG_IMG_CTRL_state = 2) (hstate : s.get MG_STATUS_state = 2) :
    imageReady s = s.imageDone := if_pos ⟨himg, hstate⟩

theorem imageForce_of_checked {s : State} (h : s.get MG_IMG_CTRL_state = 2 ∨ s.get MG_IMG_CTRL_state = 5) :
    imageForce s = s.imageDone := if_pos h

/-- Settles O50: a check ends by `imageGood`, and an exchange is `imageDone`, with running or waiting cores an
`ImageStarted`. -/
theorem imagesAreCheckedAndSwitched : Obligations.ImagesAreCheckedAndSwitched := by
  unfold Obligations.ImagesAreCheckedAndSwitched
  refine ⟨?_, ?_, ?_, ?_, ?_, ?_, ?_, ?_, ?_, ?_, ?_, ?_, ?_, ?_, ?_, ?_⟩
  · intro s h
    refine (effect_of_wf rfl imageSwitch s).trans ?_
    rw [imageSwitch, if_pos h, State.mgRefused]
  · intro s hone htwo
    refine (effect_of_wf rfl imageSwitch s).trans ?_
    rw [imageSwitch, if_neg (by tauto)]
  · intro s h
    rw [exec_imageCheckDone, imageCheckRead_of_idle h]
  · intro s n hrun hclear hbad
    rw [exec_imageCheckDone, imageCheckRead_of_bad hrun hclear]
    rintro ⟨hwhole, hlow, hhigh, -, hcrc⟩
    obtain hbad | hbad | hbad | ⟨rfl, hbad⟩ := hbad
    · exact hbad hwhole
    · omega
    · omega
    · exact hbad hcrc
  · intro s n k hrun hclear hn hk hmark
    rw [exec_imageCheckDone, imageCheckRead_of_bad hrun hclear]
    rintro ⟨-, -, -, hmarks, -⟩
    exact hmark (hmarks k (List.mem_range.2 (hn ▸ hk)))
  · intro s n hrun hclear hwhole hlow hhigh hn hmarks hcrc hstate
    rw [exec_imageCheckDone, imageCheckRead_of_good hrun hclear hn ⟨hwhole, hlow, hhigh, hmarks, hcrc⟩, if_pos hstate]
  · intro s n off hrun hclear _ hwhole hlow hhigh hn hmarks hcrc hstate hassay
    refine ⟨_, exec_imageCheckDone s, ?_⟩
    have hdone := State.imageDone_started (.inl hstate) hassay
    rw [imageCheckRead_of_good hrun hclear hn ⟨hwhole, hlow, hhigh, hmarks, hcrc⟩, if_neg (by omega)]
    exact ⟨State.iramIndex_of_half hdone.half off, hdone.img, hdone.state, hdone.core, hdone.wdog, hdone.told,
      hdone.frame⟩
  · intro s n off hrun hclear _ hwhole hlow hhigh hn hmarks hcrc hstate
    refine ⟨_, exec_imageCheckDone s, ?_⟩
    rw [imageCheckRead_of_good hrun hclear hn ⟨hwhole, hlow, hhigh, hmarks, hcrc⟩, if_neg (by omega),
      State.imageDone_of_still (by omega)]
    exact ⟨State.iramIndex_of_half s.halvesSwapped_half off, s.halvesSwapped_img, s.halvesSwapped_frame⟩
  · intro s hrun hopen
    refine ⟨imageCheckDone s.fillRam, ?_, ?_⟩
    · rw [exec_imageCheckDone, imageCheckRead_of_open hopen hrun]
    · rw [exec_imageCheckDone, imageCheckRead_of_clear (by rw [State.bufOnImage, State.fillRam_bufRam]; rfl)]
  · intro s off himg hstate _ hassay
    refine ⟨_, effect_of_wf rfl imageReady s, ?_⟩
    have hdone := State.imageDone_started (.inr hstate) hassay
    rw [imageReady_of_safe himg hstate]
    exact ⟨State.iramIndex_of_half hdone.half off, hdone.img, hdone.state, hdone.core, hdone.wdog, hdone.told,
      hdone.frame⟩
  · intro s h
    refine (effect_of_wf rfl imageReady s).trans ?_
    rw [imageReady, if_neg (by tauto)]
  · intro s h
    refine (effect_of_wf rfl imageTimeout s).trans ?_
    rw [imageTimeout, if_pos h]
  · intro s h
    refine (effect_of_wf rfl imageTimeout s).trans ?_
    rw [imageTimeout, if_neg h]
  · intro s off himg hstate _ hassay
    refine ⟨_, effect_of_wf rfl imageForce s, ?_⟩
    have hdone := State.imageDone_started hstate hassay
    rw [imageForce_of_checked himg]
    exact ⟨State.iramIndex_of_half hdone.half off, hdone.img, hdone.state, hdone.core, hdone.wdog, hdone.told,
      hdone.frame⟩
  · intro s off himg hstate _
    refine ⟨_, effect_of_wf rfl imageForce s, ?_⟩
    rw [imageForce_of_checked himg, State.imageDone_of_still (by omega)]
    exact ⟨State.iramIndex_of_half s.halvesSwapped_half off, s.halvesSwapped_img, s.halvesSwapped_frame⟩
  · intro s htwo hfive
    refine (effect_of_wf rfl imageForce s).trans ?_
    rw [imageForce, if_neg (by tauto)]

end Sys2Proof.Machine
end

section
/-! SUPPORT and PROOF. The DMA channels copy words through the bus (R501 to R503). -/

namespace Sys2Proof.Machine

open Sys2Proof

/-! ## The running channels -/

theorem sparse_find_insert {α : Type} (k : Nat) (v : α) (m : List (Nat × α)) :
    (Sparse.insert k v m).find? (fun e => e.1 == k) = some (k, v) := by
  induction m with
  | nil => simp [Sparse.insert]
  | cons e m ih =>
    obtain ⟨j, w⟩ := e
    simp only [Sparse.insert]
    split
    · simp
    · split
      · simp
      next hne => rw [List.find?_cons_of_neg (by simpa using fun h => hne h.symm), ih]

theorem sparse_find_erase {α : Type} (k : Nat) (m : List (Nat × α)) :
    (Sparse.erase k m).find? (fun e => e.1 == k) = none := by
  induction m with
  | nil => rfl
  | cons e m ih =>
    obtain ⟨j, w⟩ := e
    simp only [Sparse.erase]
    split
    · exact ih
    next hne => rw [List.find?_cons_of_neg (by simpa using fun h => hne h.symm), ih]

/-- The entry of channel `c`, if it runs. -/
def State.dmaAt (s : State) (c : Nat) : Option (Nat × Dma) := s.mg.dma.find? fun e => e.1 == c

/-- Channel `c` runs with `d`. -/
def State.setDma (s : State) (c : Nat) (d : Dma) : State :=
  { s with mg := { s.mg with dma := Sparse.insert c d s.mg.dma } }

/-- Channel `c` runs no more. -/
def State.dropDma (s : State) (c : Nat) : State := { s with mg := { s.mg with dma := Sparse.erase c s.mg.dma } }

theorem State.dmaAt_setDma (s : State) (c : Nat) (d : Dma) : (s.setDma c d).dmaAt c = some (c, d) :=
  sparse_find_insert ..

theorem State.dmaAt_dropDma (s : State) (c : Nat) : (s.dropDma c).dmaAt c = none := sparse_find_erase ..

theorem State.setDma_frame (s : State) (c : Nat) (d : Dma) : Frame [.mg] [] s (s.setDma c d) :=
  (Frame.refl [.mg] [] s).with_mg _ (by decide)

theorem State.dropDma_frame (s : State) (c : Nat) : Frame [.mg] [] s (s.dropDma c) :=
  (Frame.refl [.mg] [] s).with_mg _ (by decide)

/-! ## Start and abort -/

theorem exec_dmaGo {c : Nat} (hc : c < 8) (hne : c ≠ 0) (s : State) : exec (.dmaGo c) s = .next (dmaGo c s) :=
  effect_of_wf (c := .dmaGo c) (by simp [Instr.wf, hc, hne]) (dmaGo c) s

theorem exec_dmaAbort {c : Nat} (hc : c < 8) (hne : c ≠ 0) (s : State) :
    exec (.dmaAbort c) s = .next (dmaAbort c s) :=
  effect_of_wf (c := .dmaAbort c) (by simp [Instr.wf, hc, hne]) (dmaAbort c) s

theorem exec_dmaWordTransfer {c : Nat} (hc : c < 8) (hne : c ≠ 0) (r : EccResult) (s : State) :
    exec (.dmaWordTransfer c r) s = .next (dmaWordTransfer c r s) :=
  effect_of_wf (c := .dmaWordTransfer c r) (by simp [Instr.wf, hc, hne]) (dmaWordTransfer c r) s

theorem dmaGo_of_short {s : State} {c : Nat} (hidle : s.get (MG_DMA_CTRL_state c) ≠ 1)
    (hlen : s.get (MG_DMA_LEN_bytes c) < 4) :
    dmaGo c s = (s.set (MG_DMA_CTRL_err c) 0).set (MG_DMA_CTRL_state c) 2 := by
  have hn : s.get (MG_DMA_LEN_bytes c) / 4 = 0 := by omega
  rw [dmaGo, if_neg (by simpa [State.dmaRuns] using hidle)]
  dsimp only
  rw [hn, if_pos rfl, if_pos rfl]

theorem dmaGo_of_words {s : State} {c : Nat} (hidle : s.get (MG_DMA_CTRL_state c) ≠ 1)
    (hlen : 4 ≤ s.get (MG_DMA_LEN_bytes c)) :
    dmaGo c s = State.setDma ((s.set (MG_DMA_CTRL_err c) 0).set (MG_DMA_CTRL_state c) 1) c ⟨4 * s.get (MG_DMA_SRC_addr c),
      4 * s.get (MG_DMA_DST_addr c), s.get (MG_DMA_LEN_bytes c) / 4, false⟩ := by
  have hn : s.get (MG_DMA_LEN_bytes c) / 4 ≠ 0 := by omega
  rw [dmaGo, if_neg (by simpa [State.dmaRuns] using hidle)]
  dsimp only
  rw [if_neg hn, if_neg hn]
  rfl

theorem dmaAbort_of_running {s : State} {c : Nat} {d : Dma} (h : s.dmaAt c = some (c, d)) :
    dmaAbort c s = s.setDma c { d with abort := true } := by
  unfold State.dmaAt at h
  simp only [dmaAbort, h]
  rfl

theorem dmaAbort_of_idle {s : State} {c : Nat} (h : s.dmaAt c = none) : dmaAbort c s = s := by
  unfold State.dmaAt at h
  simp only [dmaAbort, h]

/-! ## Accesses of a channel -/

/-- A read of channel `c`. -/
def dmaRead (c a : Nat) : Txn := ⟨⟨.dma c, none⟩, false, a, 0, 15⟩

/-- A write of channel `c`. -/
def dmaWrite (c a v : Nat) : Txn := ⟨⟨.dma c, none⟩, true, a, v, 15⟩

theorem addrKnown_high {a : Nat} (h : 0x60000000 ≤ a) : addrKnown a = false := by
  have hblock : 0x60 ≤ a / 2 ^ 24 := by omega
  have hno : [0x10, 0x20, 0x21, 0x22, 0x30, 0x31, 0x50, 0x51, 0x52, 0x53].contains (a / 2 ^ 24) = false := by
    simp only [List.contains_eq_mem, decide_eq_false_iff_not, List.mem_cons, List.not_mem_nil, or_false]
    omega
  rw [addrKnown, hno, Bool.or_false, Bool.or_eq_false_iff]
  simp only [Bool.and_eq_false_iff, decide_eq_false_iff_not]
  omega

theorem State.txnError_of_high (s : State) {t : Txn} (h : 0x60000000 ≤ t.addr) : s.txnError t = 1 := by
  unfold State.txnError
  dsimp only
  rw [addrKnown_high h, if_pos (by simp)]

theorem addrKnown_dram {a : Nat} (hlo : 0x40040000 ≤ a) (hhi : a < 0x40058000) : addrKnown a = true := by
  simp only [addrKnown, Bool.or_eq_true, Bool.and_eq_true, decide_eq_true_eq]
  omega

theorem State.txnError_of_dram (s : State) {t : Txn} (hlo : 0x40040000 ≤ t.addr) (hhi : t.addr < 0x40058000)
    (halign : t.addr % 4 = 0) (hbe : t.be = 15) : s.txnError t = 0 := by
  have hrefused : s.writeRefused t = false := by
    unfold State.writeRefused
    dsimp only
    rw [if_neg (by omega), if_neg (by omega), if_neg (by omega), if_neg (by omega), decide_eq_false (by omega)]
  have hplate : decide (t.addr < 0x10000000) = false := decide_eq_false (by omega)
  unfold State.txnError
  dsimp only
  rw [addrKnown_dram hlo hhi, hplate, hrefused, if_neg (by simp), if_neg (by rw [hbe]; omega), if_neg (by omega),
    if_neg (by simp)]

/-- A read of the channel from a clean word of the general data RAM. -/
theorem State.transact_of_dmaRead {s : State} {c a : Nat} (ha : a < 0x6000)
    (hclean : ∀ k ∈ List.range 4, s.mark memDram (4 * a + k) = 0) :
    s.transact (dmaRead c (0x40040000 + 4 * a)) .clean = { s with answer := (0, s.dramWord (4 * a) % 2 ^ 32) } := by
  have hread : s.busRead (dmaRead c (0x40040000 + 4 * a)).addr (dmaRead c (0x40040000 + 4 * a)).be .clean =
      (0, s.dramWord (4 * a), s) := by
    have hoff : 0x40040000 + 4 * a - 0x40040000 = 4 * a := by omega
    dsimp only [dmaRead]
    rw [State.busRead_of_dram s (by omega) (by omega), hoff, State.dramRead_of_clean hclean]
  have hok : s.txnError (dmaRead c (0x40040000 + 4 * a)) = 0 :=
    s.txnError_of_dram (by simp only [dmaRead]; omega) (by simp only [dmaRead]; omega)
      (by simp only [dmaRead]; omega) rfl
  rw [State.transact_of_read hok rfl hread, ← maskBytes_full]
  rfl

/-- A write of the channel to a word of the general data RAM. -/
theorem State.transact_of_dmaWrite {s : State} {c b v : Nat} (hb : b < 0x6000) :
    s.transact (dmaWrite c (0x40040000 + 4 * b) v) .clean = { s.dramStore (4 * b) v 15 with answer := (0, 0) } := by
  have hok : s.txnError (dmaWrite c (0x40040000 + 4 * b) v) = 0 :=
    s.txnError_of_dram (by simp only [dmaWrite]; omega) (by simp only [dmaWrite]; omega)
      (by simp only [dmaWrite]; omega) rfl
  have hoff : 0x40040000 + 4 * b - 0x40040000 = 4 * b := by omega
  rw [State.transact_of_write hok rfl, State.busWrite_of_dram s (by simp only [dmaWrite]; omega)
    (by simp only [dmaWrite]; omega), dmaWrite, hoff]

theorem State.dramStore_dma (s : State) (off data be : Nat) : (s.dramStore off data be).mg.dma = s.mg.dma := by
  have hkept (l : List Nat) : ∀ u : State,
      (u.each l fun s k => s.dramWrite (off + k) (byteOf data k)).mg.dma = u.mg.dma := by
    induction l with
    | nil => exact fun _ => rfl
    | cons k l ih => exact fun u => ih _
  exact hkept _ s

theorem State.dramStore_other (s : State) (off data be : Nat) {x : Nat} (hx : x < off ∨ off + 4 ≤ x) :
    (s.dramStore off data be).dramByte x = s.dramByte x := by
  have hkept (l : List Nat) (hl : ∀ k ∈ l, k < 4) : ∀ u : State,
      (u.each l fun s k => s.dramWrite (off + k) (byteOf data k)).dramByte x = u.dramByte x := by
    induction l with
    | nil => exact fun _ => rfl
    | cons k l ih =>
      intro u
      have hk := hl k (by simp)
      refine (ih (fun j hj => hl j (by simp [hj])) _).trans ?_
      rw [State.dramByte_dramWrite, if_neg (by omega)]
  exact hkept _ (fun k hk => List.mem_range.1 (List.mem_of_mem_filter hk)) s

theorem State.byteOf_dramWord {s : State} {off k : Nat} (hk : k < 4)
    (hbytes : ∀ k ∈ List.range 4, s.dramByte (off + k) < 256) : byteOf (s.dramWord off % 2 ^ 32) k =
      s.dramByte (off + k) := by
  have h0 : s.dramByte off < 256 := hbytes 0 (by decide)
  have h1 := hbytes 1 (by decide)
  have h2 := hbytes 2 (by decide)
  have h3 := hbytes 3 (by decide)
  unfold byteOf State.dramWord
  interval_cases k
  all_goals simp only [Nat.reducePow, Nat.pow_zero, Nat.pow_one, Nat.add_zero]
  all_goals omega

/-- Every byte once a word is copied. -/
theorem State.dramStore_copied {s u : State} {a b x : Nat} (hdram : u.mg.dram = s.mg.dram)
    (hbytes : ∀ k ∈ List.range 4, s.dramByte (4 * a + k) < 256) :
    (u.dramStore (4 * b) (s.dramWord (4 * a) % 2 ^ 32) 15).dramByte x =
      if x / 4 = b then s.dramByte (4 * a + x % 4) else s.dramByte x := by
  have hk : x % 4 < 4 := Nat.mod_lt _ (by decide)
  split
  next h =>
    have hbit : ∀ k, k < 4 → bit 15 k = true := by decide
    have hx : x = 4 * b + x % 4 := by omega
    rw [hx, State.dramStore_byte _ _ _ _ hk, if_pos (hbit _ hk), State.byteOf_dramWord hk hbytes]
    congr 1
    omega
  next h =>
    rw [State.dramStore_other _ _ _ _ (by omega), State.dramByte, hdram, State.dramByte]

/-! ## The transfer of a word -/

/-- The channel after a word has been copied. -/
def State.dmaNext (s : State) (c : Nat) (d : Dma) : Dma :=
  { d with
    src := (d.src + if s.on (MG_DMA_CTRL_src_inc c) then 4 else 0) % 2 ^ 32
    dst := (d.dst + if s.on (MG_DMA_CTRL_dst_inc c) then 4 else 0) % 2 ^ 32
    left := d.left - 1 }

/-- The word of channel `c` is copied in `s`: the channel goes on or is done. -/
def State.dmaCopied (s : State) (c : Nat) (d : Dma) : State :=
  if (s.dmaNext c d).left = 0 ∨ (s.dmaNext c d).abort = true then (s.dropDma c).set (MG_DMA_CTRL_state c) 2
  else s.setDma c (s.dmaNext c d)

theorem dmaWordTransfer_of_idle {s : State} {c : Nat} (h : s.dmaAt c = none) (r : EccResult) :
    dmaWordTransfer c r s = s := by
  unfold State.dmaAt at h
  simp only [dmaWordTransfer, h]

section
variable {s : State} {c : Nat} {d : Dma} (hrun : s.dmaAt c = some (c, d)) {r : EccResult}
include hrun

theorem dmaWordTransfer_of_srcError (h : (s.transact (dmaRead c d.src) r).answer.1 = 1) :
    dmaWordTransfer c r s = (s.transact (dmaRead c d.src) r).dmaHalt c 2 := by
  unfold State.dmaAt at hrun
  unfold dmaRead at h ⊢
  simp only [dmaWordTransfer, hrun, h]
  rfl

theorem dmaWordTransfer_of_dstError {u : State} {v : Nat} (hread : s.transact (dmaRead c d.src) r = u)
    (hans : u.answer = (0, v)) (h : (u.transact (dmaWrite c d.dst v) .clean).answer.1 = 1) :
    dmaWordTransfer c r s = (u.transact (dmaWrite c d.dst v) .clean).dmaHalt c 3 := by
  unfold State.dmaAt at hrun
  unfold dmaRead at hread
  unfold dmaWrite at h ⊢
  simp only [dmaWordTransfer, hrun, hread, hans, h]
  rfl

theorem dmaWordTransfer_of_copied {u t : State} {v : Nat} (hread : s.transact (dmaRead c d.src) r = u)
    (hans : u.answer = (0, v)) (hwrite : u.transact (dmaWrite c d.dst v) .clean = t) (ht : t.answer.1 = 0)
    (hdma : t.mg.dma = s.mg.dma) : dmaWordTransfer c r s = t.dmaCopied c d := by
  have hfind : t.mg.dma.find? (fun e => e.1 == c) = some (c, d) := by rw [hdma]; exact hrun
  unfold State.dmaAt at hrun
  unfold dmaRead at hread
  unfold dmaWrite at hwrite
  simp only [dmaWordTransfer, hrun, hread, hans, hwrite, ht, hfind]
  rfl

end

/-! ## A channel that halts -/

/-- The fields of the channels lie apart from the record of errors. -/
theorem dma_fields_apart {c : Nat} (hc : c < 8) : ∀ g ∈ errorRecord,
    (MG_DMA_CTRL_state c).key ≠ g.key ∧ (MG_DMA_CTRL_err c).key ≠ g.key := by
  interval_cases c
  all_goals decide

theorem dma_state_err (c : Nat) : (MG_DMA_CTRL_state c).key ≠ (MG_DMA_CTRL_err c).key := by
  simp only [Fld.key, MG_DMA_CTRL_state, MG_DMA_CTRL_err]
  omega

/-- A channel has halted on an error in `s` that it was answered with. -/
structure DmaHalted (c err : Nat) (s t : State) : Prop where
  state : t.get (MG_DMA_CTRL_state c) = 3
  err : t.get (MG_DMA_CTRL_err c) = err
  gone : t.dmaAt c = none
  told : Sparse.has 181 t.evReq = true
  kept : ∀ g ∈ errorRecord, g.key ≠ MG_EVLOG_merged.key → t.get g = s.get g
  dram : t.mg.dram = s.mg.dram

theorem State.dmaHalt_halted (s : State) {c err : Nat} (hc : c < 8) (herr : err < 16) :
    DmaHalted c err s (s.dmaHalt c err) := by
  have heq : s.dmaHalt c err =
      (((s.dropDma c).set (MG_DMA_CTRL_state c) 3).set (MG_DMA_CTRL_err c) err).raise 181 := rfl
  obtain ⟨hstate, herr'⟩ := dma_fields_apart hc MG_EVLOG_merged (by decide)
  rw [heq]
  refine ⟨?_, ?_, ?_, State.has_raise .., fun g hg hm => ?_, ?_⟩
  · rw [State.get_raise_ne _ hstate, State.get_set_ne _ (dma_state_err c)]
    exact State.get_set_fit _ (MG_DMA_CTRL_state c) (v := 3) (show 3 < 2 ^ 2 by decide)
  · rw [State.get_raise_ne _ herr']
    exact State.get_set_fit _ (MG_DMA_CTRL_err c) (v := err) herr
  · unfold State.dmaAt
    rw [State.raise_mg]
    exact s.dmaAt_dropDma c
  · obtain ⟨hs, he⟩ := dma_fields_apart hc g hg
    rw [State.get_raise_ne _ hm, State.get_set_ne _ he.symm, State.get_set_ne _ hs.symm]
    exact (s.dropDma_frame c).get (by simp)
  · rw [State.raise_mg]
    rfl

theorem dmaWordTransfer_srcHalted {s : State} {c : Nat} {d : Dma} (hc : c < 8) (hrun : s.dmaAt c = some (c, d))
    (hsrc : 0x60000000 ≤ d.src) (r : EccResult) : ∃ u, s.transact (dmaRead c d.src) r = u ∧ ErrorAnswered s u 1 ∧
      u.get CX_CT_ERR_ADDR_addr = d.src % 2 ^ 32 ∧ DmaHalted c 2 u (dmaWordTransfer c r s) := by
  have herr : s.txnError (dmaRead c d.src) = 1 := s.txnError_of_high hsrc
  have heq : s.transact (dmaRead c d.src) r = s.answered (dmaRead c d.src) 1 0 := by
    rw [State.transact_of_error (by rw [herr]; decide), herr]
  have hans := s.answered_errorAnswered (dmaRead c d.src) (status := 1) (by decide) (by decide) 0
  have haddr : (s.answered (dmaRead c d.src) 1 0).get CX_CT_ERR_ADDR_addr = d.src % 2 ^ 32 := by
    rw [State.answered_of_error (by decide), State.get_with_answer]
    unfold State.ctError
    dsimp only
    simp (disch := decide) only [State.get_flag_ne, State.get_count_ne, State.get_set_ne, State.get_set_same]
    rfl
  rw [dmaWordTransfer_of_srcError hrun (by rw [heq, hans.answer]), heq]
  exact ⟨_, rfl, hans, haddr, State.dmaHalt_halted _ hc (by decide)⟩

theorem dmaWordTransfer_dstHalted {s : State} {c a : Nat} {d : Dma} (hc : c < 8) (hrun : s.dmaAt c = some (c, d))
    (hsrc : d.src = 0x40040000 + 4 * a) (ha : a < 0x6000)
    (hclean : ∀ k ∈ List.range 4, s.mark memDram (4 * a + k) = 0) (hdst : 0x60000000 ≤ d.dst) :
    ∃ u, u.get CX_CT_ERR_status = 1 ∧ u.mg = s.mg ∧ DmaHalted c 3 u (dmaWordTransfer c .clean s) := by
  have hread : s.transact (dmaRead c d.src) .clean = { s with answer := (0, s.dramWord (4 * a) % 2 ^ 32) } := by
    rw [hsrc]
    exact State.transact_of_dmaRead ha hclean
  generalize hu : ({ s with answer := (0, s.dramWord (4 * a) % 2 ^ 32) } : State) = u at hread
  have hans : u.answer = (0, s.dramWord (4 * a) % 2 ^ 32) := by rw [← hu]
  have hmg : u.mg = s.mg := by rw [← hu]
  have herr : u.txnError (dmaWrite c d.dst (s.dramWord (4 * a) % 2 ^ 32)) = 1 := u.txnError_of_high hdst
  have heq : u.transact (dmaWrite c d.dst (s.dramWord (4 * a) % 2 ^ 32)) .clean =
      u.answered (dmaWrite c d.dst (s.dramWord (4 * a) % 2 ^ 32)) 1 0 := by
    rw [State.transact_of_error (by rw [herr]; decide), herr]
  have herrans := u.answered_errorAnswered (dmaWrite c d.dst (s.dramWord (4 * a) % 2 ^ 32)) (status := 1) (by decide)
    (by decide) 0
  rw [dmaWordTransfer_of_dstError hrun hread hans (by rw [heq, herrans.answer]), heq]
  exact ⟨_, herrans.shown, (herrans.frame.parts .mg (by decide)).trans hmg, State.dmaHalt_halted _ hc (by decide)⟩

/-! ## A word that is copied -/

/-- The word of channel `c` has been read. -/
structure DmaRead (c v : Nat) (d : Dma) (s u : State) : Prop where
  read : s.transact (dmaRead c d.src) .clean = u
  answer : u.answer = (0, v)
  frame : Frame [.answer] [] s u

/-- The word `v` of channel `c` has been written. -/
structure DmaWritten (c v b : Nat) (d : Dma) (s t : State) : Prop where
  write : s.transact (dmaWrite c d.dst v) .clean = t
  answer : t.answer.1 = 0
  dma : t.mg.dma = s.mg.dma
  frame : Frame [.mg, .prot, .answer] [] s t
  bytes : ∀ x, t.dramByte x = (s.dramStore (4 * b) v 15).dramByte x

theorem State.with_answer_read {s : State} {c a : Nat} {d : Dma} (hsrc : d.src = 0x40040000 + 4 * a) (ha : a < 0x6000)
    (hclean : ∀ k ∈ List.range 4, s.mark memDram (4 * a + k) = 0) :
    DmaRead c (s.dramWord (4 * a) % 2 ^ 32) d s { s with answer := (0, s.dramWord (4 * a) % 2 ^ 32) } := by
  refine ⟨?_, rfl, (Frame.refl [.answer] [] s).with_answer _ (by decide)⟩
  rw [hsrc]
  exact State.transact_of_dmaRead ha hclean

theorem State.dramStore_written {s : State} {c b v : Nat} {d : Dma} (hdst : d.dst = 0x40040000 + 4 * b)
    (hb : b < 0x6000) : ∃ t, DmaWritten c v b d s t := by
  have hwrite : s.transact (dmaWrite c d.dst v) .clean = { s.dramStore (4 * b) v 15 with answer := (0, 0) } := by
    rw [hdst]
    exact State.transact_of_dmaWrite hb
  have hstore := s.dramStore_frame (4 * b) v 15
  have hdma := s.dramStore_dma (4 * b) v 15
  generalize hw : s.dramStore (4 * b) v 15 = w at hwrite hstore hdma
  refine ⟨{ w with answer := (0, 0) }, hwrite, rfl, hdma, ?_, fun x => by rw [hw]; rfl⟩
  exact Frame.with_answer (hstore.mono (by decide) (by simp)) _ (by decide)

theorem dmaWordTransfer_copied {s : State} {c a b : Nat} {d : Dma} (hrun : s.dmaAt c = some (c, d))
    (hsrc : d.src = 0x40040000 + 4 * a) (hdst : d.dst = 0x40040000 + 4 * b) (ha : a < 0x6000) (hb : b < 0x6000)
    (hword : ∀ k ∈ List.range 4, s.dramByte (4 * a + k) < 256 ∧ s.mark memDram (4 * a + k) = 0) :
    ∃ t, dmaWordTransfer c .clean s = t.dmaCopied c d ∧ Frame [.mg, .prot, .answer] [] s t ∧
      ∀ x, t.dramByte x = if x / 4 = b then s.dramByte (4 * a + x % 4) else s.dramByte x := by
  have hread := State.with_answer_read (c := c) hsrc ha fun k hk => (hword k hk).2
  generalize ({ s with answer := (0, s.dramWord (4 * a) % 2 ^ 32) } : State) = u at hread
  obtain ⟨t, hwritten⟩ := State.dramStore_written (s := u) (c := c) (v := s.dramWord (4 * a) % 2 ^ 32) hdst hb
  have hmg : u.mg = s.mg := hread.frame.parts .mg (by decide)
  refine ⟨t, dmaWordTransfer_of_copied hrun hread.read hread.answer hwritten.write hwritten.answer ?_, ?_, fun x => ?_⟩
  · rw [hwritten.dma, hmg]
  · exact (hread.frame.mono (by decide) (by simp)).trans hwritten.frame
  · exact (hwritten.bytes x).trans (State.dramStore_copied (by rw [hmg]) fun k hk => (hword k hk).1)

section
variable {s : State} {c : Nat} {d : Dma}

theorem State.dmaCopied_of_more (hmore : 1 < d.left) (hgo : d.abort = false) :
    s.dmaCopied c d = s.setDma c (s.dmaNext c d) := by
  rw [State.dmaCopied, if_neg]
  simp only [State.dmaNext, hgo]
  simp
  omega

theorem State.dmaCopied_of_last (h : d.left = 1 ∨ d.abort = true) :
    s.dmaCopied c d = (s.dropDma c).set (MG_DMA_CTRL_state c) 2 := by
  rw [State.dmaCopied, if_pos]
  simp only [State.dmaNext]
  obtain h | h := h
  · exact .inl (by omega)
  · exact .inr h

end

/-! ## The statement -/

/-- Settles O52: a channel starts and stops by its entry among the running ones, a word is copied by `dmaCopied` or
the channel halts, `DmaHalted`. -/
theorem dmaChannelsCopyWordsAndHalt : Obligations.DmaChannelsCopyWordsAndHalt := by
  unfold Obligations.DmaChannelsCopyWordsAndHalt
  refine ⟨?_, ?_, ?_, ?_, ?_, ?_, ?_, ?_, ?_, ?_⟩
  · intro s c hc hne hrun
    rw [exec_dmaGo hc hne, dmaGo, if_pos (by simp [State.dmaRuns, hrun]), State.mgRefused]
  · intro s c hc hne hidle hlen
    rw [exec_dmaGo hc hne, dmaGo_of_short hidle hlen]
  · intro s c hc hne hidle hlen
    refine ⟨_, exec_dmaGo hc hne s, ?_⟩
    rw [dmaGo_of_words hidle hlen]
    have hstate (v : Nat) (hv : v < 2 ^ 2) (u : State) : (u.set (MG_DMA_CTRL_state c) v).get (MG_DMA_CTRL_state c) = v :=
      State.get_set_fit _ _ hv
    have herr : ((s.set (MG_DMA_CTRL_err c) 0).set (MG_DMA_CTRL_state c) 1).get (MG_DMA_CTRL_err c) = 0 :=
      (State.get_set_ne _ (dma_state_err c).symm _).trans (State.get_set_same _ _ _)
    refine ⟨hstate 1 (by decide) _, herr, State.dmaAt_setDma .., rfl, ?_⟩
    · exact (((Frame.refl _ _ s).set _ _ (by simp)).set _ _ (by simp)).with_mg _ (by decide)
  · intro s c d hc hne hrun
    refine ⟨_, exec_dmaAbort hc hne s, ?_⟩
    rw [dmaAbort_of_running hrun]
    exact ⟨State.dmaAt_setDma .., s.setDma_frame c _⟩
  · intro s c hc hne hidle
    rw [exec_dmaAbort hc hne, dmaAbort_of_idle hidle]
  · intro s c r hc hne hidle
    rw [exec_dmaWordTransfer hc hne, dmaWordTransfer_of_idle hidle]
  · intro s c a b x d hc hne hrun hsrc hdst ha hb hword hmore hgo
    obtain ⟨t, heq, hframe, hbytes⟩ := dmaWordTransfer_copied hrun hsrc hdst ha hb hword
    refine ⟨_, exec_dmaWordTransfer hc hne .clean s, ?_⟩
    rw [heq, State.dmaCopied_of_more hmore hgo]
    have hon (f : Fld) : t.on f = s.on f := congrArg (· != 0) (hframe.get (by simp))
    have hnext : t.dmaNext c d = ⟨d.src + (if s.on (MG_DMA_CTRL_src_inc c) then 4 else 0),
        d.dst + (if s.on (MG_DMA_CTRL_dst_inc c) then 4 else 0), d.left - 1, false⟩ := by
      rw [State.dmaNext, hon, hon, hgo, Nat.mod_eq_of_lt (by split <;> omega), Nat.mod_eq_of_lt (by split <;> omega)]
    have hset := t.setDma_frame c (t.dmaNext c d)
    refine ⟨hbytes x, ?_, ?_, (hframe.mono (by decide) (by simp)).trans (hset.mono (by decide) (by simp))⟩
    · rw [← hnext]
      exact State.dmaAt_setDma ..
    · rw [hset.get (by simp), hframe.get (by simp)]
  · intro s c a b x d hc hne hrun hsrc hdst ha hb hword hlast
    obtain ⟨t, heq, hframe, hbytes⟩ := dmaWordTransfer_copied hrun hsrc hdst ha hb hword
    refine ⟨_, exec_dmaWordTransfer hc hne .clean s, ?_⟩
    rw [heq, State.dmaCopied_of_last hlast]
    exact ⟨hbytes x, t.dmaAt_dropDma c, State.get_set_fit _ (MG_DMA_CTRL_state c) (v := 2) (show 2 < 2 ^ 2 by decide),
      ((hframe.mono (by decide) (by simp)).trans ((t.dropDma_frame c).mono (by decide) (by simp))).set _ _ (by simp)⟩
  · intro s c r d hc hne hrun hsrc
    obtain ⟨u, -, hans, haddr, hhalt⟩ := dmaWordTransfer_srcHalted hc hrun hsrc r
    exact ⟨_, exec_dmaWordTransfer hc hne r s, hhalt.state, hhalt.err, hhalt.gone, hhalt.told,
      (hhalt.kept _ (by decide) (by decide)).trans hans.shown, (hhalt.kept _ (by decide) (by decide)).trans haddr,
      by rw [hhalt.dram, hans.frame.parts .mg (by decide)]⟩
  · intro s c a d hc hne hrun hsrc ha hclean hdst
    obtain ⟨u, hshown, hmg, hhalt⟩ := dmaWordTransfer_dstHalted hc hrun hsrc ha hclean hdst
    exact ⟨_, exec_dmaWordTransfer hc hne .clean s, hhalt.state, hhalt.err, hhalt.gone,
      (hhalt.kept _ (by decide) (by decide)).trans hshown, by rw [hhalt.dram, hmg]⟩

end Sys2Proof.Machine
end

section
/-! SUPPORT and PROOF. A conversion ends at a time told, which the uptime follows only where it lies ahead (R497, R511). -/

namespace Sys2Proof.Machine

open Sys2Proof

/-- After reset, with input 0 being converted without the reference, a buffer at the start of the data RAM and the
uptime at one microsecond. -/
def convertingLate : State :=
  State.set { State.reset with mg := { State.reset.mg with
    uptime := 1, hk := { State.reset.mg.hk with seq := [0], nr := true } } } HK_BUF_BASE_addr 0x40040000

theorem exec_hkConversionDone {raw us : Nat} (hraw : raw < 16384) (hus : us < 2 ^ 64) (s : State) :
    exec (.hkConversionDone raw us) s = .next (hkConversionDone raw us s) :=
  effect_of_wf (c := .hkConversionDone raw us) (by simp only [Instr.wf, Bool.and_eq_true, decide_eq_true_eq]; omega)
    (hkConversionDone raw us) s

theorem convertingLate_uptime : (hkConversionDone 0 0 convertingLate).mg.uptime = 1 := by decide +kernel

/-- Refutes O53: its clause on a converted slot makes the uptime the time told, also where it has gone further. -/
theorem not_housekeepingConvertsSequencesAndRequests : ¬ Obligations.HousekeepingConvertsSequencesAndRequests := by
  unfold Obligations.HousekeepingConvertsSequencesAndRequests
  rintro ⟨-, -, -, -, -, hslot, -⟩
  obtain ⟨t, ht, -, -, -, -, -, huptime, -⟩ := hslot convertingLate 0 0 0 0x3FFF (2 ^ 25 + 0x3FFF) []
    (by decide +kernel) (by decide +kernel) (by decide +kernel) (by decide) (by decide) (by decide) (by decide +kernel)
    (by decide +kernel) (by decide +kernel) (by decide +kernel) (by decide) (by decide)
  rw [exec_hkConversionDone (by decide) (by decide), Host.Outcome.next.injEq] at ht
  rw [← ht, convertingLate_uptime] at huptime
  cases huptime

end Sys2Proof.Machine
end

section
/-! SUPPORT and PROOF. Starts and stops of acquisition are accepted for an orbit start and take effect there (R519 to
R522). -/

namespace Sys2Proof.Machine

open Sys2Proof

/-! ## Requests -/

/-- A start is refused for a cause, and none is pending any more. -/
structure AcqRefused (c : Nat) (s t : State) : Prop where
  cause : t.get CX_ACQ_STATUS_cause = c
  refused : t.on CX_ACQ_STATUS_refused = true
  state : t.get CX_ACQ_STATUS_state = 0
  orbit : t.get CX_ACQ_ORBIT_orbit = s.svc.acqLast % 2 ^ 32
  frame : Frame [.evReq] [CX_ACQ_STATUS_cause, CX_ACQ_STATUS_refused, CX_ACQ_STATUS_state, CX_ACQ_ORBIT_orbit,
    MG_EVLOG_merged] s t

theorem State.acqRefused_orbit (s : State) (c : Nat) :
    ((s.acqRefused c).acqCancel 0).get CX_ACQ_ORBIT_orbit = s.svc.acqLast % 2 ^ 32 := by
  have hlast : (s.acqRefused c).svc.acqLast = s.svc.acqLast := by
    unfold State.acqRefused State.flag
    split
    · rfl
    · rw [State.raise_svc]
      rfl
  rw [State.acqCancel, State.get_set_same, hlast]
  rfl

theorem State.acqRefused_acqRefused (s : State) {c : Nat} (hc : c < 8) :
    AcqRefused c s ((s.acqRefused c).acqCancel 0) := by
  obtain ⟨hcause, hrefused, hstate⟩ := s.acqRefused_spec (cause := c) (by omega)
  exact ⟨hcause, hrefused, hstate, s.acqRefused_orbit c, s.acqRefused_frame c 0⟩

theorem State.acqCause_lt {s : State} {c : Nat} (h : s.acqCause = some c) : c < 8 := by
  unfold State.acqCause at h
  split_ifs at h
  all_goals
    cases h
    decide

theorem exec_acqStart_refused {s : State} (hidle : s.get CX_ACQ_STATUS_state < 2) {c : Nat}
    (hcause : s.acqCause = some c) : ∃ t, exec .acqStart s = .next t ∧ t.get CX_ACQ_STATUS_cause = c ∧
      t.on CX_ACQ_STATUS_refused = true ∧ t.get CX_ACQ_STATUS_state = 0 ∧
      t.get CX_ACQ_ORBIT_orbit = s.svc.acqLast % 2 ^ 32 ∧ Frame [.evReq] [CX_ACQ_STATUS_cause, CX_ACQ_STATUS_refused,
        CX_ACQ_STATUS_state, CX_ACQ_ORBIT_orbit, MG_EVLOG_merged] s t := by
  obtain ⟨hc, hrefused, hstate, horbit, hframe⟩ := s.acqRefused_acqRefused (State.acqCause_lt hcause)
  refine ⟨_, exec_acqStart s, ?_⟩
  rw [State.acqStartAt_of_cause hidle hcause]
  exact ⟨hc, hrefused, hstate, horbit, hframe⟩

section
variable {s : State} (hplate : s.get CX_PLATE_STATUS_state = 4)
include hplate

theorem State.acqCause_time (hmt : s.on CX_MT_STATUS_mt_valid = false) : s.acqCause = some 2 := by
  simp [State.acqCause, hplate, hmt]

variable (hmt : s.on CX_MT_STATUS_mt_valid = true)
include hmt

theorem State.acqCause_store (h : s.on CX_HQ_STATUS_store_ready = false ∨ s.on CX_HQ_STATUS_flushing = true ∨
    s.mt.edge.contains .flush = true) : s.acqCause = some 3 := by
  have hstore : (!s.on CX_HQ_STATUS_store_ready || s.on CX_HQ_STATUS_flushing || s.mt.edge.contains .flush) = true := by
    obtain h | h | h := h
    all_goals simp only [h, Bool.not_false, Bool.true_or, Bool.or_true]
  rw [State.acqCause, if_neg (not_not_intro hplate), hmt, if_neg (by decide), if_pos hstore]

variable (hstore : s.on CX_HQ_STATUS_store_ready = true)
  (hflush : s.on CX_HQ_STATUS_flushing = false ∧ s.mt.edge.contains .flush = false)
include hstore hflush

theorem State.acqCause_freeze (h : s.get RC_FREEZE_STATUS_state = 3) : s.acqCause = some 4 := by
  rw [State.acqCause, if_neg (not_not_intro hplate), hmt, if_neg (by decide), hstore, hflush.1, hflush.2,
    if_neg (by decide), if_pos h]

variable (hfreeze : s.get RC_FREEZE_STATUS_state ≠ 3)
include hfreeze

theorem State.acqCause_oven (h : s.on OVN_STATUS_ready = false) : s.acqCause = some 5 := by
  rw [State.acqCause, if_neg (not_not_intro hplate), hmt, if_neg (by decide), hstore, hflush.1, hflush.2,
    if_neg (by decide), if_neg hfreeze, h, if_pos (by decide)]

theorem State.acqCause_none (h : s.on OVN_STATUS_ready = true) : s.acqCause = none := by
  rw [State.acqCause, if_neg (not_not_intro hplate), hmt, if_neg (by decide), hstore, hflush.1, hflush.2,
    if_neg (by decide), if_neg hfreeze, h, if_neg (by decide)]

end

theorem exec_acqStop (s : State) : exec .acqStop s = .next (acqStop s) := effect_of_wf rfl acqStop s

theorem exec_acquisitionStops (s : State) : exec .acquisitionStops s = .next (acquisitionStops s) :=
  effect_of_wf rfl acquisitionStops s

theorem State.acqStopAt_of_pending {s : State} (h : s.get CX_ACQ_STATUS_state = 1) (o : Nat) :
    s.acqStopAt o = s.acqCancel 0 := by
  simp [State.acqStopAt, h]

theorem State.acqStopAt_of_running {s : State} (h : s.get CX_ACQ_STATUS_state = 2 ∨ s.get CX_ACQ_STATUS_state = 3)
    (o : Nat) : s.acqStopAt o = (s.set CX_ACQ_STATUS_state 3).set CX_ACQ_ORBIT_orbit o := by
  obtain h | h := h
  all_goals simp [State.acqStopAt, h]

/-! ## The effective orbit -/

theorem diff32_of_le {a b : Nat} (h : b ≤ a) (ha : a < 2 ^ 31) : diff32 a b = (a : Int) - b := by
  rw [diff32, Int.bmod_eq_of_le (by omega) (by omega)]

theorem State.acqDue_of {s : State} (hrun : s.mt.running = true) (hbucket : s.mt.bucket = 0)
    (horbit : s.get CX_ACQ_ORBIT_orbit ≤ s.mt.orbit) (hlt : s.mt.orbit < 2 ^ 31) : s.acqDue = true := by
  have hdiff : 0 ≤ diffBkt s.mt.nb s.now (s.get CX_ACQ_ORBIT_orbit, 0) := by
    have hnow : s.now = (s.mt.orbit, 0) := by rw [State.now, hbucket]
    rw [hnow, diffBkt]
    dsimp only
    rw [diff32_of_le horbit hlt]
    have hnn : (0 : Int) ≤ (s.mt.orbit - s.get CX_ACQ_ORBIT_orbit : Int) * (s.mt.nb : Int) :=
      Int.mul_nonneg (by omega) (by omega)
    omega
  simp [State.acqDue, hrun, hbucket, hdiff]

/-! ## Chasers at rest -/

/-- The registers of chaser `c` that its reset writes. -/
def chaserFields (c : Nat) : List Fld := [TG_CHSTAT_state c, TG_CHSTAT_out c, TG_CHSTAT_t0_exp c, TG_CHSTAT_t1_exp c] ++
  (List.range 4).map (TG_CHCNT_value c)

theorem Frame.setExp {fs : List Fld} {ps : List Part} {s t : State} (h : Frame ps fs s t) {c i : Nat} {b : Bool}
    (h0 : (TG_CHSTAT_t0_exp c).key ∈ fs.map Fld.key) (h1 : (TG_CHSTAT_t1_exp c).key ∈ fs.map Fld.key) :
    Frame ps fs s (t.setExp c i b) := by
  refine h.setB _ _ ?_
  split
  · exact h0
  · exact h1

theorem State.chaserReset_frame (s : State) (c : Nat) : Frame [.tg] (chaserFields c) s (s.chaserReset c) := by
  unfold State.chaserReset
  dsimp only
  have h0 : (TG_CHSTAT_t0_exp c).key ∈ (chaserFields c).map Fld.key := by simp [chaserFields]
  have h1 : (TG_CHSTAT_t1_exp c).key ∈ (chaserFields c).map Fld.key := by simp [chaserFields]
  have hidle : Frame [.tg] (chaserFields c) s ((s.set (TG_CHSTAT_state c) 0).set (TG_CHSTAT_out c) 0) :=
    ((Frame.refl _ _ s).set _ _ (by simp [chaserFields])).set _ _ (by simp [chaserFields])
  have hexp := Frame.setExp (i := 1) (b := false) (hidle.setExp (i := 0) (b := false) h0 h1) h0 h1
  refine Frame.each ((hexp.with_tg _ (by decide)).with_tg _ (by decide)) fun u k hk hu => hu.set _ _ ?_
  simp only [chaserFields, List.map_append, List.mem_append, List.map_map]
  exact .inr (List.mem_map.2 ⟨k, hk, rfl⟩)

theorem State.chaserReset_counts (s : State) {c k : Nat} (hk : k < 4) :
    (s.chaserReset c).get (TG_CHCNT_value c k) = 0 := by
  unfold State.chaserReset
  exact State.each_get_of_put (I := fun _ => True) (List.mem_range.2 hk) trivial (fun _ _ _ _ => trivial)
    (fun u _ => State.get_set_same _ _ _) fun u j _ hj => State.get_set_ne _ (by
      simp only [Fld.key, TG_CHCNT_value]
      omega) _

theorem State.chaserReset_state (s : State) (c : Nat) : (s.chaserReset c).get (TG_CHSTAT_state c) = 0 := by
  have hcount : (s.chaserReset c).get (TG_CHSTAT_state c) = (((((((s.set (TG_CHSTAT_state c) 0).set (TG_CHSTAT_out c)
      0)).setExp c 0 false).setExp c 1 false).setTimer c 0 0).setTimer c 1 0).get (TG_CHSTAT_state c) := by
    refine State.each_get_of_left (fun u k hk => State.get_set_ne _ ?_ _) _
    simp only [Fld.key, TG_CHCNT_value, TG_CHSTAT_state]
    omega
  rw [hcount]
  have hapart : (TG_CHSTAT_state c).key ≠ (TG_CHSTAT_t1_exp c).key ∧ (TG_CHSTAT_state c).key ≠ (TG_CHSTAT_t0_exp c).key ∧
      (TG_CHSTAT_state c).key ≠ (TG_CHSTAT_out c).key := by
    simp only [Fld.key, TG_CHSTAT_t0_exp, TG_CHSTAT_t1_exp, TG_CHSTAT_out, TG_CHSTAT_state]
    omega
  obtain ⟨h1, h0, hout⟩ := hapart
  have hexp (u : State) : ((((u.setExp c 0 false).setExp c 1 false).setTimer c 0 0).setTimer c 1 0).get
      (TG_CHSTAT_state c) = u.get (TG_CHSTAT_state c) := by
    change ((u.setExp c 0 false).setExp c 1 false).get (TG_CHSTAT_state c) = _
    rw [State.setExp, if_neg (by decide), State.setB, State.get_set_ne _ h1, State.setExp, if_pos rfl, State.setB,
      State.get_set_ne _ h0]
  rw [hexp, State.get_set_ne _ hout]
  exact State.get_set_same _ _ _

theorem chaserFields_apart {b c : Nat} (hb : b < 32) (hc : c < 32) (hne : c ≠ b) {k : Nat} (hk : k < 4) :
    ∀ g ∈ chaserFields b, (TG_CHSTAT_state c).key ≠ g.key ∧ (TG_CHCNT_value c k).key ≠ g.key := by
  intro g hg
  obtain hg | hg := List.mem_append.1 hg
  · have haddr : g.addr = 0x10002800 + b * 4 ∧ g.lo < 32 := by
      simp only [List.mem_cons, List.not_mem_nil, or_false] at hg
      obtain rfl | rfl | rfl | rfl := hg
      all_goals exact ⟨rfl, by simp [TG_CHSTAT_state, TG_CHSTAT_out, TG_CHSTAT_t0_exp, TG_CHSTAT_t1_exp]⟩
    simp only [Fld.key, TG_CHSTAT_state, TG_CHCNT_value, haddr.1]
    omega
  · obtain ⟨j, hj, rfl⟩ := List.mem_map.1 hg
    have hj := List.mem_range.1 hj
    simp only [Fld.key, TG_CHSTAT_state, TG_CHCNT_value]
    omega

/-- Every chaser is put to rest. -/
def State.chasersReset (s : State) : State := s.each (List.range 32) State.chaserReset

theorem chaserFields_inBlocks {c : Nat} (hc : c < 32) : ∀ f ∈ chaserFields c, inBlocks tgBlocks (f.key / 32) = true := by
  intro f hf
  obtain ⟨hstate, hout, h0, h1, -⟩ := chaserField_inBlocks hc
  obtain hf | hf := List.mem_append.1 hf
  · simp only [List.mem_cons, List.not_mem_nil, or_false] at hf
    obtain rfl | rfl | rfl | rfl := hf
    exacts [hstate, hout, h0, h1]
  · obtain ⟨k, hk, rfl⟩ := List.mem_map.1 hf
    exact chaserCount_inBlocks hc (List.mem_range.1 hk)

theorem State.chasersReset_frame (s : State) : BlockFrame [.tg] tgBlocks s s.chasersReset :=
  (BlockFrame.refl _ _ s).each fun u c hc hu =>
    hu.trans ((u.chaserReset_frame c).blockFrame (chaserFields_inBlocks (List.mem_range.1 hc)))

theorem State.chasersReset_rest (s : State) {c k : Nat} (hc : c < 32) (hk : k < 4) :
    s.chasersReset.get (TG_CHSTAT_state c) = 0 ∧ s.chasersReset.get (TG_CHCNT_value c k) = 0 := by
  constructor
  · exact State.each_get_of_put (I := fun _ => True) (List.mem_range.2 hc) trivial (fun _ _ _ _ => trivial)
      (fun u _ => u.chaserReset_state c) fun u b hb hne => (u.chaserReset_frame b).get fun g hg =>
        (chaserFields_apart (List.mem_range.1 hb) hc hne.symm hk g hg).1
  · exact State.each_get_of_put (I := fun _ => True) (List.mem_range.2 hc) trivial (fun _ _ _ _ => trivial)
      (fun u _ => u.chaserReset_counts hk) fun u b hb hne => (u.chaserReset_frame b).get fun g hg =>
        (chaserFields_apart (List.mem_range.1 hb) hc hne.symm hk g hg).2

/-! ## Acquisition starts -/

/-- The first valid bucket of the store is the current one. -/
def State.validNow (s : State) : State :=
  ((s.set CX_HQ_VALID_ORBIT_orbit s.mt.orbit).set CX_HQ_VALID_BT_bucket s.mt.bucket).set CX_HQ_VALID_BT_valid 1

/-- Records and fragments begin anew, and acquisition runs. -/
def State.acqOpened (s : State) : State :=
  let s := { s with rc := { s.rc with last := [], rates := [] }, str := { s.str with seen := [] } }
  ((s.set CX_STR_FSEQ_next 0).set CX_ACQ_STATUS_state 2).raise 192

theorem acquisitionStarts_of_good {s : State} (hstate : s.get CX_ACQ_STATUS_state = 1) (hdue : s.acqDue = true)
    (hcause : s.acqCause = none) :
    acquisitionStarts s = (s.acqTaken.validNow.chasersReset.setLocal 0).acqOpened := by
  rw [acquisitionStarts, hdue, if_neg (by simp [hstate]), hcause]
  rfl

theorem State.acqTaken_frame (s : State) : Frame [.svc] [] s s.acqTaken := (Frame.refl [.svc] [] s).with_svc _ (by decide)

theorem State.validNow_frame (s : State) :
    Frame [] [CX_HQ_VALID_ORBIT_orbit, CX_HQ_VALID_BT_bucket, CX_HQ_VALID_BT_valid] s s.validNow :=
  (((Frame.refl [] _ s).set _ _ (by decide)).set _ _ (by decide)).set _ _ (by decide)

theorem State.validNow_fields (s : State) : s.validNow.get CX_HQ_VALID_ORBIT_orbit = s.mt.orbit % 2 ^ 32 ∧
    s.validNow.get CX_HQ_VALID_BT_bucket = s.mt.bucket % 2 ^ 16 ∧ s.validNow.get CX_HQ_VALID_BT_valid = 1 := by
  unfold State.validNow
  refine ⟨?_, ?_, State.get_set_fit _ _ (by decide)⟩
  · rw [State.get_set_ne _ (by decide), State.get_set_ne _ (by decide), State.get_set_same]
    rfl
  · rw [State.get_set_ne _ (by decide), State.get_set_same]
    rfl

theorem State.setLocal_frame (s : State) (n : Nat) : Frame [.tg] [TG_LOCAL_LO_number] s (s.setLocal n) :=
  ((Frame.refl [.tg] [TG_LOCAL_LO_number] s).with_tg _ (by decide)).set _ _ (by decide)

def acqOpenedFields : List Fld := [CX_STR_FSEQ_next, CX_ACQ_STATUS_state, MG_EVLOG_merged]

theorem State.acqOpened_frame (s : State) : Frame [.rc, .str, .evReq] acqOpenedFields s s.acqOpened :=
  (((((Frame.refl [.rc, .str, .evReq] acqOpenedFields s).with_rc { s.rc with last := [], rates := [] }
    (by decide)).with_str { s.str with seen := [] } (by decide)).set _ _ (by decide)).set _ _ (by decide)).raise _ _
    (by decide) (by decide)

theorem State.acqOpened_fields (s : State) : s.acqOpened.get CX_STR_FSEQ_next = 0 ∧
    s.acqOpened.get CX_ACQ_STATUS_state = 2 ∧ Sparse.has 192 s.acqOpened.evReq = true := by
  unfold State.acqOpened
  dsimp only
  refine ⟨?_, ?_, State.has_raise ..⟩
  · rw [State.get_raise_ne _ (by decide), State.get_set_ne _ (by decide)]
    exact State.get_set_fit _ _ (by decide)
  · rw [State.get_raise_ne _ (by decide)]
    exact State.get_set_fit _ _ (by decide)

/-- Acquisition has started in this bucket (R520, R521). -/
structure AcqStarted (c k : Nat) (s t : State) : Prop where
  state : t.get CX_ACQ_STATUS_state = 2
  orbit : t.get CX_ACQ_ORBIT_orbit = s.get CX_ACQ_ORBIT_orbit
  last : t.svc.acqLast = s.get CX_ACQ_ORBIT_orbit
  validOrbit : t.get CX_HQ_VALID_ORBIT_orbit = s.mt.orbit % 2 ^ 32
  validBucket : t.get CX_HQ_VALID_BT_bucket = s.mt.bucket % 2 ^ 16
  valid : t.get CX_HQ_VALID_BT_valid = 1
  number : t.tg.next = 0
  fseq : t.get CX_STR_FSEQ_next = 0
  chaser : t.get (TG_CHSTAT_state c) = 0
  counter : t.get (TG_CHCNT_value c k) = 0
  told : Sparse.has 192 t.evReq = true
  store : t.store = s.store
  refused : t.get CX_ACQ_STATUS_refused = s.get CX_ACQ_STATUS_refused

theorem chaser_key_low {c k : Nat} (hc : c < 32) (hk : k < 4) :
    ∀ f ∈ [TG_CHSTAT_state c, TG_CHCNT_value c k], 0x10002800 * 32 ≤ f.key ∧ f.key < 0x10002B00 * 32 := by
  intro f hf
  simp only [List.mem_cons, List.not_mem_nil, or_false] at hf
  obtain rfl | rfl := hf
  · simp only [Fld.key, TG_CHSTAT_state]
    omega
  · simp only [Fld.key, TG_CHCNT_value]
    omega

theorem acquisitionStarts_started {s : State} (hstate : s.get CX_ACQ_STATUS_state = 1) (hdue : s.acqDue = true)
    (hcause : s.acqCause = none) {c k : Nat} (hc : c < 32) (hk : k < 4) : AcqStarted c k s (acquisitionStarts s) := by
  rw [acquisitionStarts_of_good hstate hdue hcause]
  have htaken := s.acqTaken_frame
  have hlast : s.acqTaken.svc.acqLast = s.get CX_ACQ_ORBIT_orbit := rfl
  have hmt : s.acqTaken.mt = s.mt := htaken.parts .mt (by decide)
  generalize s.acqTaken = a at htaken hlast hmt ⊢
  have hvalid := a.validNow_frame
  obtain ⟨horbit, hbucket, hone⟩ := a.validNow_fields
  generalize a.validNow = b at hvalid horbit hbucket hone ⊢
  have hreset := b.chasersReset_frame
  obtain ⟨hchaser, hcounter⟩ := b.chasersReset_rest hc hk
  generalize b.chasersReset = d at hreset hchaser hcounter ⊢
  have hlocal := d.setLocal_frame 0
  have hnext : (d.setLocal 0).tg.next = 0 := rfl
  generalize d.setLocal 0 = e at hlocal hnext ⊢
  have hopened := e.acqOpened_frame
  obtain ⟨hfseq, htwo, htold⟩ := e.acqOpened_fields
  generalize e.acqOpened = t at hopened hfseq htwo htold ⊢
  have hreads (f : Fld) (ho : ∀ g ∈ acqOpenedFields, f.key ≠ g.key) (hl : f.key ≠ TG_LOCAL_LO_number.key) :
      t.get f = d.get f := (hopened.get ho).trans (hlocal.get (by simpa using hl))
  have hbefore (f : Fld) (ho : ∀ g ∈ acqOpenedFields, f.key ≠ g.key) (hl : f.key ≠ TG_LOCAL_LO_number.key)
      (hb : (tgBlocks.all fun r => decide (f.key / 32 < r.1) || decide (r.2 < f.key / 32)) = true) :
      t.get f = b.get f := (hreads f ho hl).trans (hreset.fields f hb)
  have hfirst (f : Fld) (ho : ∀ g ∈ acqOpenedFields, f.key ≠ g.key) (hl : f.key ≠ TG_LOCAL_LO_number.key)
      (hb : (tgBlocks.all fun r => decide (f.key / 32 < r.1) || decide (r.2 < f.key / 32)) = true)
      (hv : ∀ g ∈ [CX_HQ_VALID_ORBIT_orbit, CX_HQ_VALID_BT_bucket, CX_HQ_VALID_BT_valid], f.key ≠ g.key) :
      t.get f = s.get f := (hbefore f ho hl hb).trans ((hvalid.get hv).trans (htaken.get (by simp)))
  have hlow := chaser_key_low hc hk
  have hrest (f : Fld) (hf : f ∈ [TG_CHSTAT_state c, TG_CHCNT_value c k]) : t.get f = d.get f := by
    have hkey := hlow f hf
    refine hreads f ?_ ?_
    · simp only [acqOpenedFields, List.forall_mem_cons, Fld.key, CX_STR_FSEQ_next, CX_ACQ_STATUS_state,
        MG_EVLOG_merged] at hkey ⊢
      refine ⟨?_, ?_, ?_, by simp⟩
      all_goals omega
    · simp only [Fld.key, TG_LOCAL_LO_number] at hkey ⊢
      omega
  exact {
    state := htwo
    orbit := hfirst _ (by decide) (by decide) (by decide) (by decide)
    last := by
      rw [hopened.parts .svc (by decide), hlocal.parts .svc (by decide), hreset.parts .svc (by decide),
        hvalid.parts .svc (by decide), hlast]
    validOrbit := by rw [hbefore _ (by decide) (by decide) (by decide), horbit, hmt]
    validBucket := by rw [hbefore _ (by decide) (by decide) (by decide), hbucket, hmt]
    valid := (hbefore _ (by decide) (by decide) (by decide)).trans hone
    number := by rw [hopened.parts .tg (by decide), hnext]
    fseq := hfseq
    chaser := (hrest _ (by simp)).trans hchaser
    counter := (hrest _ (by simp)).trans hcounter
    told := htold
    store := by
      rw [hopened.parts .store (by decide), hlocal.parts .store (by decide), hreset.parts .store (by decide),
        hvalid.parts .store (by decide), htaken.parts .store (by decide)]
    refused := hfirst _ (by decide) (by decide) (by decide) (by decide) }

/-! ## Acquisition stops -/

/-- Every open record ends at its first unsealed bucket. -/
def State.recordsEnd (s : State) : State :=
  { s with rc := { s.rc with
      recs := s.rc.recs.map fun r => if r.endAt.isSome then r else { r with endAt := some (s.unsealedFrom r) } } }

theorem acquisitionStops_of_due {s : State} (hstate : s.get CX_ACQ_STATUS_state = 3) (hdue : s.acqDue = true) :
    acquisitionStops s = (s.acqTaken.recordsEnd.quietWords.set CX_ACQ_STATUS_state 0).raise 193 := by
  rw [acquisitionStops, hdue, if_neg (by simp [hstate])]
  rfl

theorem State.recordsEnd_records (s : State) : s.recordsEnd.rc.recs.length = s.rc.recs.length ∧
    (s.recordsEnd.rc.recs.all fun r => r.endAt.isSome) = true := by
  unfold State.recordsEnd
  refine ⟨List.length_map _, ?_⟩
  rw [List.all_map, List.all_eq_true]
  intro r _
  dsimp only [Function.comp_apply]
  split
  next h => exact h
  next => rfl

/-- Acquisition has stopped (R522). -/
structure AcqStopped (s t : State) : Prop where
  state : t.get CX_ACQ_STATUS_state = 0
  last : t.svc.acqLast = s.get CX_ACQ_ORBIT_orbit
  records : t.rc.recs.length = s.rc.recs.length
  ended : (t.rc.recs.all fun r => r.endAt.isSome) = true
  words : t.tg.words = s.tg.words.filter fun e => s.testLane s.tg.period (e.1 / 32)
  queue : t.tg.queue = s.tg.queue
  told : Sparse.has 193 t.evReq = true
  frame : Frame [.svc, .rc, .tg, .evReq] [CX_ACQ_STATUS_state, MG_EVLOG_merged] s t

theorem acquisitionStops_stopped {s : State} (hstate : s.get CX_ACQ_STATUS_state = 3) (hdue : s.acqDue = true) :
    AcqStopped s (acquisitionStops s) := by
  rw [acquisitionStops_of_due hstate hdue]
  have hframe : Frame [.svc, .rc, .tg, .evReq] [CX_ACQ_STATUS_state, MG_EVLOG_merged] s
      s.acqTaken.recordsEnd.quietWords :=
    (((s.acqTaken_frame.mono (by decide) (by simp)).with_rc _ (by decide))).with_tg _ (by decide)
  obtain ⟨hlength, hended⟩ := s.acqTaken.recordsEnd_records
  have hrecs : s.acqTaken.recordsEnd.quietWords.rc = s.acqTaken.recordsEnd.rc := rfl
  have hlast : s.acqTaken.recordsEnd.quietWords.svc.acqLast = s.get CX_ACQ_ORBIT_orbit := rfl
  have hwords : s.acqTaken.recordsEnd.quietWords.tg.words =
      s.tg.words.filter fun e => s.testLane s.tg.period (e.1 / 32) := rfl
  have hqueue : s.acqTaken.recordsEnd.quietWords.tg.queue = s.tg.queue := rfl
  rw [← hrecs] at hlength hended
  generalize s.acqTaken.recordsEnd.quietWords = a at hframe hlength hended hlast hwords hqueue ⊢
  exact {
    state := by
      rw [State.get_raise_ne _ (by decide)]
      exact State.get_set_fit _ _ (by decide)
    last := by rw [State.raise_svc]; exact hlast
    records := by rw [State.raise_rc]; exact hlength
    ended := by rw [State.raise_rc]; exact hended
    words := by rw [State.raise_tg]; exact hwords
    queue := by rw [State.raise_tg]; exact hqueue
    told := State.has_raise ..
    frame := (hframe.set _ _ (by decide)).raise _ _ (by decide) (by decide) }

theorem acquisitionStops_of_not_due {s : State} (h : s.get CX_ACQ_STATUS_state ≠ 3 ∨ s.acqDue = false) :
    acquisitionStops s = s := if_pos h

theorem State.acqDue_not {s : State} (h : s.mt.running = false ∨ s.mt.bucket ≠ 0) : s.acqDue = false := by
  obtain h | h := h
  all_goals simp [State.acqDue, h]

/-! ## The statement -/

/-- Settles O54: requests follow state and cause, a start is `AcqStarted`, a stop `AcqStopped`. -/
theorem acquisitionStartsAndStopsAtOrbitStarts : Obligations.AcquisitionStartsAndStopsAtOrbitStarts := by
  unfold Obligations.AcquisitionStartsAndStopsAtOrbitStarts
  refine ⟨?_, ?_, ?_, ?_, ?_, ?_, ?_, ?_, ?_, ?_, ?_, ?_, ?_, ?_, ?_, ?_⟩
  · intro s hidle hplate hmt hstore hflush hfreeze hoven
    rw [exec_acqStart, State.acqStartAt_of_accepted hidle
      (State.acqCause_none hplate hmt hstore hflush hfreeze hoven), State.acqOrbit]
  · intro s hidle hplate
    exact exec_acqStart_refused hidle (State.acqCause_of_plate hplate)
  · intro s hidle hplate hmt
    exact exec_acqStart_refused hidle (State.acqCause_time hplate hmt)
  · intro s hidle hplate hmt h
    exact exec_acqStart_refused hidle (State.acqCause_store hplate hmt h)
  · intro s hidle hplate hmt hstore hflush hfreeze
    exact exec_acqStart_refused hidle (State.acqCause_freeze hplate hmt hstore hflush hfreeze)
  · intro s hidle hplate hmt hstore hflush hfreeze hoven
    exact exec_acqStart_refused hidle (State.acqCause_oven hplate hmt hstore hflush hfreeze hoven)
  · intro s h
    rw [exec_acqStart]
    simp [State.acqStartAt, h]
  · intro s h
    rw [exec_acqStart]
    simp [State.acqStartAt, State.acqCancel, h]
  · intro s h
    rw [exec_acqStop, acqStop]
    simp [State.acqStopAt, h]
  · intro s h
    rw [exec_acqStop, acqStop, State.acqStopAt_of_pending h, State.acqCancel]
  · intro s h
    rw [exec_acqStop, acqStop, State.acqStopAt_of_running h, State.acqOrbit]
  · intro s nb c k hstate hc hk hrun hbucket _ _ horbit hlt hplate hmt hstore hflush hfreeze hoven
    have hstarted := acquisitionStarts_started hstate (State.acqDue_of hrun hbucket horbit hlt)
      (State.acqCause_none hplate hmt hstore hflush hfreeze hoven) hc hk
    refine ⟨_, exec_acquisitionStarts s, hstarted.state, hstarted.orbit, hstarted.last, ?_, ?_, hstarted.valid,
      hstarted.number, hstarted.fseq, hstarted.chaser, hstarted.counter, hstarted.told, hstarted.store,
      hstarted.refused⟩
    · rw [hstarted.validOrbit, Nat.mod_eq_of_lt (by omega)]
    · rw [hstarted.validBucket, hbucket]
      rfl
  · intro s h
    rw [exec_acquisitionStarts, acquisitionStarts_of_not_due]
    rintro ⟨hstate, hdue⟩
    obtain h | h := h
    · exact h hstate
    · rw [State.acqDue_not h] at hdue
      cases hdue
  · intro s hstate hdue hoven hplate hmt hstore hflush hfreeze
    obtain ⟨hcause, hrefused, hzero, -, hframe⟩ := s.acqRefused_acqRefused (c := 5) (by decide)
    refine ⟨_, exec_acquisitionStarts s, ?_⟩
    rw [acquisitionStarts_of_cause hstate hdue (State.acqCause_oven hplate hmt hstore hflush hfreeze hoven)]
    exact ⟨hzero, hcause, hrefused, hframe⟩
  · intro s nb hstate hrun hbucket _ _ horbit hlt
    have hstopped := acquisitionStops_stopped hstate (State.acqDue_of hrun hbucket horbit hlt)
    exact ⟨_, exec_acquisitionStops s, hstopped.state, hstopped.last, hstopped.records, hstopped.ended, hstopped.words,
      hstopped.queue, hstopped.told, hstopped.frame⟩
  · intro s h
    rw [exec_acquisitionStops, acquisitionStops_of_not_due h]

end Sys2Proof.Machine
end

section
/-! SUPPORT and PROOF. An FE die leaves service, is switched off, powers up and returns to service on request (R525,
R526). -/

namespace Sys2Proof.Machine

open Sys2Proof

/-! ## The fields of CX_FE_SVC -/

def feFields : List Fld := [feFld 0, feFld 1, feFld 2]

theorem feFld_width (n : Nat) : (feFld n).width = 2 := by
  unfold feFld
  split
  all_goals rfl

theorem nowFld_width (n : Nat) : (nowFld n).width = 2 := by
  unfold nowFld
  split
  all_goals rfl

theorem feFld_mem (n : Nat) : feFld n ∈ feFields := by
  unfold feFld
  split
  all_goals decide

theorem feFld_ne_feFld {m n : Nat} (hm : m < 3) (hn : n < 3) (hne : m ≠ n) : (feFld m).key ≠ (feFld n).key := by
  have hall : ∀ m < 3, ∀ n < 3, m ≠ n → (feFld m).key ≠ (feFld n).key := by decide
  exact hall m hm n hn hne

theorem feFld_ne_nowFld (m n : Nat) : (feFld m).key ≠ (nowFld n).key := by
  unfold feFld nowFld
  split
  all_goals
    split
    all_goals decide

/-- Neither field of a die is one of the words that requests and refusals touch. -/
theorem feFld_ne_others (m : Nat) : ∀ f ∈ [CX_PENDING_ENABLE_fe, CX_ACQ_STATUS_cause, CX_ACQ_STATUS_refused,
    MG_EVLOG_merged], (feFld m).key ≠ f.key := by
  unfold feFld
  split
  all_goals decide

theorem nowFld_ne_merged (n : Nat) : (nowFld n).key ≠ MG_EVLOG_merged.key := by
  unfold nowFld
  split
  all_goals decide

theorem State.get_set_feFld (s : State) (n : Nat) {v : Nat} (hv : v < 3) : (s.set (feFld n) v).get (feFld n) = v :=
  State.get_set_fit _ _ (by rw [feFld_width]; omega)

theorem State.get_set_nowFld (s : State) (n : Nat) {v : Nat} (hv : v < 4) : (s.set (nowFld n) v).get (nowFld n) = v :=
  State.get_set_fit _ _ (by rw [nowFld_width]; exact hv)

/-! ## A change of one die begins -/

theorem State.feTarget_feBegin (s : State) (n t : Nat) : (s.feBegin n t).feTarget n = some t := by
  show ((Sparse.insert n t s.svc.feChange).find? fun e => e.1 == n).map (·.2) = some t
  rw [sparse_find_insert]
  rfl

theorem State.feTarget_feEnd (s : State) (n now : Nat) : (s.feEnd n now).feTarget n = none := by
  rw [State.feTarget, State.feEnd, State.raise_svc]
  show ((Sparse.erase n s.svc.feChange).find? fun e => e.1 == n).map (·.2) = none
  rw [sparse_find_erase]
  rfl

theorem State.feBegin_frame (s : State) (n t : Nat) : Frame [.svc] [nowFld n] s (s.feBegin n t) :=
  ((Frame.refl [.svc] [nowFld n] s).with_svc _ (by decide)).set _ _ (by simp)

theorem State.feAway_frame (s : State) (n : Nat) : Frame [.feByp] [] s (s.feAway n) :=
  Frame.ite (Frame.refl _ _ s) ((Frame.refl [.feByp] [] s).with_feByp _ (by decide))

/-- A change of die `n` is under way, shown as changing, and no assay has begun or ended. -/
structure FeChanging (n target : Nat) (s t : State) : Prop where
  now : t.get (nowFld n) = 3
  target : t.feTarget n = some target
  assay : t.svc.assay = s.svc.assay

theorem State.feBegin_changing (s : State) (n target : Nat) : FeChanging n target s (s.feBegin n target) :=
  ⟨State.get_set_nowFld _ n (by decide), s.feTarget_feBegin n target, rfl⟩

theorem FeChanging.of_parts {n target : Nat} {s t u : State} (h : FeChanging n target s t) (hsvc : u.svc = t.svc)
    (hnow : u.get (nowFld n) = t.get (nowFld n)) : FeChanging n target s u :=
  ⟨hnow.trans h.now, by rw [State.feTarget, hsvc]; exact h.target, by rw [hsvc]; exact h.assay⟩

/-! ## The write of one die's field -/

/-- What the write of one die's field leaves: the fields and shutdowns of the other dies, and the assay. -/
structure FeApart (n : Nat) (s t : State) : Prop where
  field : ∀ m < 3, m ≠ n → t.get (feFld m) = s.get (feFld m)
  shut : ∀ m < 3, m ≠ n → t.shut.contains (.feDie m) = s.shut.contains (.feDie m)
  assay : t.svc.assay = s.svc.assay

theorem FeApart.of_frame {n : Nat} {s t : State} {ps : List Part} {fs : List Fld} (h : Frame ps fs s t)
    (hshut : Part.shut ∉ ps) (hfs : ∀ m < 3, m ≠ n → ∀ f ∈ fs, (feFld m).key ≠ f.key)
    (hassay : t.svc.assay = s.svc.assay) : FeApart n s t :=
  ⟨fun m hm hne => h.get (hfs m hm hne), fun m _ _ => by rw [h.parts .shut hshut], hassay⟩

/-- The request fields hold what they held. -/
structure FeSame (s t : State) : Prop where
  field : ∀ m < 3, t.get (feFld m) = s.get (feFld m)
  frame : Frame [] feFields s t

theorem FeSame.refl (s : State) : FeSame s s := ⟨fun _ _ => rfl, Frame.refl _ _ s⟩

/-- The value written to the field of die `m` is the one it holds, and the die is not shutting down. -/
def FeUnchanged (v : Nat) (s : State) (m : Nat) : Prop :=
  bits v (2 * m) 2 = s.get (feFld m) ∧ s.get (feFld m) < 3 ∧ s.shut.contains (.feDie m) = false

theorem State.feWrite_unchanged {s : State} {v m : Nat} (hm : m < 3) (h : FeUnchanged v s m) :
    FeSame s (s.feWrite m (min 2 (bits v (2 * m) 2))) := by
  obtain ⟨hv, hlt, hshut⟩ := h
  have hmin : min 2 (bits v (2 * m) 2) = s.get (feFld m) := by omega
  have hnot : ¬ (s.get (feFld m) = 2 ∧ s.get (feFld m) = 0) := by omega
  have heq : s.feWrite m (s.get (feFld m)) = s.set (feFld m) (s.get (feFld m)) := by
    simp only [State.feWrite, if_neg hnot]
    rw [if_neg (by rw [State.set_shut, hshut]; decide), if_pos trivial]
  rw [hmin, heq]
  refine ⟨fun k hk => ?_, (Frame.refl [] feFields s).set _ _ (List.mem_map_of_mem (feFld_mem m))⟩
  by_cases hne : k = m
  · subst hne
    exact State.get_set_feFld s k hlt
  · exact State.get_set_ne _ (feFld_ne_feFld hk hm hne) _

theorem State.feWrites_unchanged {v : Nat} {l : List Nat} {s : State} (h : ∀ m ∈ l, m < 3 ∧ FeUnchanged v s m) :
    FeSame s (s.each l fun s n => s.feWrite n (min 2 (bits v (2 * n) 2))) := by
  induction l generalizing s with
  | nil => exact FeSame.refl s
  | cons m l ih =>
    rw [State.each_cons]
    obtain ⟨hm, hsame⟩ := h m (by simp)
    have hone := State.feWrite_unchanged hm hsame
    have hrest := ih (s := s.feWrite m (min 2 (bits v (2 * m) 2))) fun k hk => by
      obtain ⟨hlt, hbits, hthree, hshut⟩ := h k (by simp [hk])
      refine ⟨hlt, ?_, ?_, ?_⟩
      · rw [hone.field k hlt, hbits]
      · rw [hone.field k hlt]
        exact hthree
      · rw [hone.frame.parts .shut (by decide)]
        exact hshut
    exact ⟨fun k hk => (hrest.field k hk).trans (hone.field k hk), hone.frame.trans hrest.frame⟩

/-- A write that changes the field of die `n` alone is the write of that field between writes that change nothing. -/
theorem feServiceWrite_one {s : State} {v n : Nat} (hn : n < 3)
    (hothers : ∀ m ∈ List.range 3, m = n ∨ FeUnchanged v s m) (hassay : s.svc.assay = none)
    (hstep : ∀ a, FeSame s a → FeApart n a (a.feWrite n (min 2 (bits v (2 * n) 2)))) :
    ∃ a, FeSame s a ∧
      (∀ m < 3, (feServiceWrite v s).get (feFld m) = (a.feWrite n (min 2 (bits v (2 * n) 2))).get (feFld m)) ∧
      Frame [.prot] feFields (a.feWrite n (min 2 (bits v (2 * n) 2))) (feServiceWrite v s) ∧
      ∀ m ∈ List.range 3, m = n ∨ (feServiceWrite v s).get (feFld m) = s.get (feFld m) := by
  obtain ⟨before, later, hrange, hnotBefore, hnotLater⟩ : ∃ before later : List Nat, List.range 3 = before ++ n :: later ∧
      n ∉ before ∧ n ∉ later := by
    obtain rfl | rfl | rfl : n = 0 ∨ n = 1 ∨ n = 2 := by omega
    exacts [⟨[], [1, 2], rfl, by decide, by decide⟩, ⟨[0], [2], rfl, by decide, by decide⟩,
      ⟨[0, 1], [], rfl, by decide, by decide⟩]
  have hmem (m : Nat) (hm : m ∈ before ∨ m ∈ later) : m < 3 ∧ m ≠ n ∧ FeUnchanged v s m := by
    have hin : m ∈ List.range 3 := by
      rw [hrange]
      simp only [List.mem_append, List.mem_cons]
      tauto
    have hne : m ≠ n := by
      rintro rfl
      tauto
    exact ⟨List.mem_range.1 hin, hne, (hothers m hin).resolve_left hne⟩
  have hfirst := State.feWrites_unchanged (s := s) (v := v) (l := before) fun m hm =>
    ⟨(hmem m (.inl hm)).1, (hmem m (.inl hm)).2.2⟩
  have heach : s.each (List.range 3) (fun s n => s.feWrite n (min 2 (bits v (2 * n) 2))) =
      ((s.each before fun s n => s.feWrite n (min 2 (bits v (2 * n) 2))).feWrite n (min 2 (bits v (2 * n) 2))).each later
        fun s n => s.feWrite n (min 2 (bits v (2 * n) 2)) := by
    rw [hrange]
    exact List.foldl_append
  generalize s.each before (fun s n => s.feWrite n (min 2 (bits v (2 * n) 2))) = a at hfirst heach
  have hapart := hstep a hfirst
  refine ⟨a, hfirst, ?_⟩
  rw [feServiceWrite, heach]
  generalize a.feWrite n (min 2 (bits v (2 * n) 2)) = c at hapart ⊢
  have hlast := State.feWrites_unchanged (s := c) (v := v) (l := later) fun m hm => by
    obtain ⟨hlt, hne, hbits, hthree, hshut⟩ := hmem m (.inr hm)
    refine ⟨hlt, ?_, ?_, ?_⟩
    · rw [hapart.field m hlt hne, hfirst.field m hlt, hbits]
    · rw [hapart.field m hlt hne, hfirst.field m hlt]
      exact hthree
    · rw [hapart.shut m hlt hne, hfirst.frame.parts .shut (by decide)]
      exact hshut
  generalize c.each later (fun s n => s.feWrite n (min 2 (bits v (2 * n) 2))) = b at hlast ⊢
  have hnone : b.svc.assay = none := by
    rw [hlast.frame.parts .svc (by decide), hapart.assay, hfirst.frame.parts .svc (by decide), hassay]
  rw [State.assayCheck_of_none (s := b.critNext 22) hnone]
  have hcrit := b.critNext_frame 22
  have hfields (m : Nat) (hm : m < 3) : (b.critNext 22).get (feFld m) = c.get (feFld m) :=
    (hcrit.get (by simp)).trans (hlast.field m hm)
  refine ⟨hfields, (hlast.frame.mono (by simp) (by simp)).trans (hcrit.mono (by simp) (by simp)), fun m hm => ?_⟩
  by_cases hne : m = n
  · exact .inl hne
  · have hlt := List.mem_range.1 hm
    exact .inr ((hfields m hlt).trans ((hapart.field m hlt hne).trans (hfirst.field m hlt)))

/-! ## To off (R48) -/

/-- The die's shutdown begins. -/
structure FeOff (n : Nat) (s t : State) : Prop extends FeChanging n 2 s t where
  shut : t.shut = s.shut ++ [.feDie n]
  frame : Frame [.shut, .svc, .feByp, .activity] [nowFld n] s t

theorem State.feOff_off (s : State) (n : Nat) : FeOff n s (s.feOff n) := by
  have haway := s.feAway_frame n
  have hbegin := (s.feAway n).feBegin_frame n 2
  have hchange := (s.feAway n).feBegin_changing n 2
  unfold State.feOff
  generalize s.feAway n = a at haway hbegin hchange ⊢
  generalize a.feBegin n 2 = b at hbegin hchange ⊢
  have hidle : Frame [.activity] [] b (b.iff ((b.die n).slice && b.activity == some 4) fun s => { s with activity := none }) :=
    (Frame.refl [.activity] [] b).iff fun u hu => hu.with_activity _ (by decide)
  dsimp only
  generalize b.iff ((b.die n).slice && b.activity == some 4) (fun s => { s with activity := none }) = c at hidle ⊢
  have hframe : Frame [.shut, .svc, .feByp, .activity] [nowFld n] s c :=
    ((haway.mono (by decide) (by simp)).trans (hbegin.mono (by decide) (by simp))).trans (hidle.mono (by decide) (by simp))
  have hnow : c.get (nowFld n) = b.get (nowFld n) := hidle.get (by simp)
  have hsvc : c.svc = b.svc := hidle.parts .svc (by decide)
  exact {
    now := hnow.trans hchange.now
    target := by
      show (c.svc.feChange.find? _).map _ = _
      rw [hsvc]
      exact hchange.target
    assay := by
      show c.svc.assay = _
      rw [hsvc, hchange.assay, haway.parts .svc (by decide)]
    shut := by
      show c.shut ++ _ = _
      rw [hidle.parts .shut (by decide), hbegin.parts .shut (by decide), haway.parts .shut (by decide)]
    frame := hframe.with_shut _ (by decide) }

theorem State.feWrite_off {s : State} {n : Nat} (hon : s.get (feFld n) < 2) (hshut : s.shut.contains (.feDie n) = false) :
    s.feWrite n 2 = (s.set (feFld n) 2).feOff n := by
  simp only [State.feWrite, State.set_shut, hshut]
  rw [if_neg (by omega), if_neg (by decide), if_neg (by omega), if_pos trivial]

/-! ## From off to isolated (R526) -/

/-- The registers, channels and state of die `n` are at their reset values. -/
def State.feCleared (s : State) (n : Nat) : State :=
  { s with
    csr := s.csr.filter fun e => e.1 / 2 ^ 29 != 0x20 + n
    was := s.was.filter fun w => w.key / 2 ^ 29 != 0x20 + n
    chans := s.chans.filter fun e => e.1 / 512 != n
    dies := Sparse.erase n s.dies }

/-- The region latches of die `n` are loaded from the plate, if it is in force. -/
def State.feLatched (s : State) (n : Nat) : State :=
  let live := s.get CX_PLATE_STATUS_state == 4
  s.each (List.range 32) fun s i => s.loadLatch (32 * n + i) (if live then s.rd (fRegion (32 * n + i)) 0 else 0)

theorem State.feUp_eq (s : State) (n : Nat) : s.feUp n = ((s.feCleared n).feLatched n).feBegin n 3 := rfl

theorem State.loadLatch_of_none {s : State} {r : Nat} (w : Nat) (h : ∀ e ∈ s.chans, regionOf e.1 ≠ r) :
    s.loadLatch r w = { s with latch := Sparse.put 0 r w s.latch } := by
  have hnil : s.chans.filter (fun e => regionOf e.1 == r) = [] := by
    rw [List.filter_eq_nil_iff]
    intro e he
    simpa using h e he
  simp only [State.loadLatch, hnil]
  rfl

theorem State.feLatched_frame {s : State} {n : Nat} (h : ∀ e ∈ s.chans, e.1 / 512 ≠ n) :
    Frame [.latch] [] s (s.feLatched n) := by
  refine (Frame.refl [.latch] [] s).each fun u i hi hu => ?_
  rw [State.loadLatch_of_none]
  · exact hu.with_latch _ (by decide)
  · rw [hu.parts .chans (by decide)]
    intro e he heq
    have hi := List.mem_range.1 hi
    refine h e he ?_
    unfold regionOf at heq
    omega

theorem State.feCleared_chans (s : State) (n : Nat) : ∀ e ∈ (s.feCleared n).chans, e.1 / 512 ≠ n := by
  intro e he
  simpa using (List.mem_filter.1 he).2

theorem sparse_get_filter_gone {α : Type} (d : α) (q : Nat → Bool) {k : Nat} (hk : q k = false) (m : List (Nat × α)) :
    Sparse.get d k (m.filter fun e => q e.1) = d := by
  induction m with
  | nil => rfl
  | cons e m ih =>
    rw [List.filter_cons]
    split
    next h =>
      have hne : k ≠ e.1 := by
        rintro rfl
        rw [hk] at h
        cases h
      rw [Sparse.get, if_neg hne]
      exact ih
    next => exact ih

theorem State.feCleared_get_die (s : State) {n : Nat} {f : Fld} (hf : f.key / 2 ^ 29 = 0x20 + n)
    (hreset : f.reset < 2 ^ f.width) : (s.feCleared n).get f = f.reset := by
  show Sparse.get f.reset f.key (s.csr.filter fun e => e.1 / 2 ^ 29 != 0x20 + n) % 2 ^ f.width = f.reset
  rw [sparse_get_filter_gone _ (fun k => k / 2 ^ 29 != 0x20 + n) (by simpa using hf), Nat.mod_eq_of_lt hreset]

theorem State.feCleared_get (s : State) {n : Nat} {f : Fld} (hf : f.key / 2 ^ 29 ≠ 0x20 + n) :
    (s.feCleared n).get f = s.get f := by
  show Sparse.get f.reset f.key (s.csr.filter fun e => e.1 / 2 ^ 29 != 0x20 + n) % 2 ^ f.width = s.get f
  rw [Sparse.get_filter_key _ (fun k => k / 2 ^ 29 != 0x20 + n) (by simpa using hf)]
  rfl

theorem feFld_not_die (m n : Nat) : (feFld m).key / 2 ^ 29 ≠ 0x20 + n := by
  unfold feFld
  split
  all_goals
    simp only [Fld.key, CX_FE_SVC_fe0, CX_FE_SVC_fe1, CX_FE_SVC_fe2]
    omega

theorem State.feCleared_chan (s : State) {n l : Nat} (hl : l < 512) : (s.feCleared n).chan (512 * n + l) = Chan.new :=
  sparse_get_filter_gone _ (fun k => k / 512 != n) (by
    have hdie : (512 * n + l) / 512 = n := by omega
    simp [hdie]) _

/-- The die has powered up: its registers are at their reset values and its channels hold nothing. -/
structure FeUp (n : Nat) (s t : State) : Prop extends FeChanging n 3 s t where
  field (m : Nat) : t.get (feFld m) = s.get (feFld m)
  regs (f : Fld) : f.key / 2 ^ 29 = 0x20 + n → f.reset < 2 ^ f.width → t.get f = f.reset
  chan (l : Nat) : l < 512 → t.chan (512 * n + l) = Chan.new
  shut : t.shut = s.shut
  store : t.store = s.store
  told : t.evReq = s.evReq

theorem State.feUp_up (s : State) (n : Nat) : FeUp n s (s.feUp n) := by
  rw [State.feUp_eq]
  have hlatch := State.feLatched_frame (s.feCleared_chans n)
  have hdie (f : Fld) (hf : f.key / 2 ^ 29 = 0x20 + n) (hr : f.reset < 2 ^ f.width) := s.feCleared_get_die hf hr
  have hother (f : Fld) (hf : f.key / 2 ^ 29 ≠ 0x20 + n) := s.feCleared_get hf
  have hchan (l : Nat) (hl : l < 512) := s.feCleared_chan (n := n) hl
  have hshut : (s.feCleared n).shut = s.shut := rfl
  have hstore : (s.feCleared n).store = s.store := rfl
  have htold : (s.feCleared n).evReq = s.evReq := rfl
  have hsvc : (s.feCleared n).svc = s.svc := rfl
  generalize s.feCleared n = a at *
  generalize a.feLatched n = b at *
  have hbegin := b.feBegin_frame n 3
  have hchange := b.feBegin_changing n 3
  generalize b.feBegin n 3 = t at *
  have hnow : (nowFld n).key / 2 ^ 29 ≠ 0x20 + n := by
    unfold nowFld
    split
    all_goals
      simp only [Fld.key, CX_FE_SVC_now0, CX_FE_SVC_now1, CX_FE_SVC_now2]
      omega
  exact {
    now := hchange.now
    target := hchange.target
    assay := by rw [hchange.assay, hlatch.parts .svc (by decide), hsvc]
    field m := by
      rw [hbegin.get (by simpa using feFld_ne_nowFld m n), hlatch.get (by simp), hother _ (feFld_not_die m n)]
    regs f hf hr := by
      rw [hbegin.get, hlatch.get (by simp), hdie f hf hr]
      simp only [List.forall_mem_singleton]
      exact fun hkey => hnow (hkey ▸ hf)
    chan l hl := by
      rw [State.chan, hbegin.parts .chans (by decide), hlatch.parts .chans (by decide)]
      exact hchan l hl
    shut := by rw [hbegin.parts .shut (by decide), hlatch.parts .shut (by decide), hshut]
    store := by rw [hbegin.parts .store (by decide), hlatch.parts .store (by decide), hstore]
    told := by rw [hbegin.parts .evReq (by decide), hlatch.parts .evReq (by decide), htold] }

theorem State.feWrite_up {s : State} {n : Nat} (hoff : s.get (feFld n) = 2) (hshut : s.shut.contains (.feDie n) = false) :
    s.feWrite n 1 = (s.set (feFld n) 1).feUp n := by
  simp only [State.feWrite, State.set_shut, hshut, hoff]
  rfl

/-! ## Between in service and isolated (R526) -/

theorem State.feWrite_isolate {s : State} {n : Nat} (hin : s.get (feFld n) = 0) (hup : s.feTarget n ≠ some 3)
    (hshut : s.shut.contains (.feDie n) = false) :
    s.feWrite n 1 = ((s.set (feFld n) 1).feAway n).feBegin n 1 := by
  have htarget : (s.set (feFld n) 1).feTarget n ≠ some 3 := hup
  simp only [State.feWrite, State.set_shut, hshut, hin, if_neg htarget]
  rfl

theorem State.feWrite_return {s : State} {n : Nat} (hiso : s.get (feFld n) = 1) (hup : s.feTarget n ≠ some 3)
    (hshut : s.shut.contains (.feDie n) = false) :
    s.feWrite n 0 = (s.set (feFld n) 0).feBegin n 0 := by
  have htarget : (s.set (feFld n) 0).feTarget n ≠ some 3 := hup
  simp only [State.feWrite, State.set_shut, hshut, hiso, if_neg htarget]
  rfl

/-! ## Requests that cannot be taken at once (R526, R47, R49) -/

theorem State.feWrite_refused {s : State} {n : Nat} (hoff : s.get (feFld n) = 2) : s.feWrite n 0 = s.acqRefused 6 := by
  rw [State.feWrite, if_pos ⟨hoff, rfl⟩]

theorem State.feWrite_pending {s : State} {n : Nat} (hoff : s.get (feFld n) = 2)
    (hshut : s.shut.contains (.feDie n) = true) (hpend : bit (s.get CX_PENDING_ENABLE_fe) n = false) :
    s.feWrite n 1 = ((s.set (feFld n) 1).fePend n true).raise 40 := by
  have hkeep : (s.set (feFld n) 1).get CX_PENDING_ENABLE_fe = s.get CX_PENDING_ENABLE_fe :=
    State.get_set_ne _ (feFld_ne_others n _ (by simp)).symm _
  simp only [State.feWrite, State.set_shut, hshut, hoff, hkeep, hpend]
  rfl

theorem State.feWrite_dropped {s : State} {n : Nat} (hshut : s.shut.contains (.feDie n) = true) :
    s.feWrite n 2 = (s.set (feFld n) 2).fePend n false := by
  simp only [State.feWrite, State.set_shut, hshut]
  rw [if_neg (by simp)]
  rfl

theorem State.fePend_frame (s : State) (n : Nat) (b : Bool) : Frame [] [CX_PENDING_ENABLE_fe] s (s.fePend n b) :=
  (Frame.refl [] _ s).set _ _ (by decide)

theorem State.fePend_bit (s : State) {n : Nat} (hn : n < 3) (b : Bool) :
    bit ((s.fePend n b).get CX_PENDING_ENABLE_fe) n = b := by
  have hall : ∀ v < 8, ∀ n < 3, ∀ b, bit (putBits v n 1 (b2n b) % 2 ^ 3) n = b := by decide
  have hlt : s.get CX_PENDING_ENABLE_fe < 2 ^ 3 := State.get_lt _ _
  rw [State.fePend, State.get_set_same]
  exact hall _ hlt n hn b

end Sys2Proof.Machine
end

section
/-! PROOF. The service of the FE dies (R525, R526). -/

namespace Sys2Proof.Machine

open Sys2Proof

/-! ## A write of CX_FE_SVC that changes one die -/

theorem fe_cons_subset (n : Nat) (l : List Fld) : feFld n :: l ⊆ feFields ++ l :=
  List.cons_subset.2 ⟨List.mem_append_left _ (feFld_mem n), List.subset_append_right _ _⟩

/-- What a write of CX_FE_SVC leaves that changes the field of die `n` alone; `c` is the state after that change. -/
structure FeWritten (n : Nat) (s c t : State) : Prop where
  field (m : Nat) : m < 3 → t.get (feFld m) = c.get (feFld m)
  frame : Frame [.prot] feFields c t
  others : ∀ m ∈ List.range 3, m = n ∨ t.get (feFld m) = s.get (feFld m)

theorem FeWritten.get {n : Nat} {s c t : State} (h : FeWritten n s c t) {f : Fld} (hf : ∀ m < 3, f.key ≠ (feFld m).key) :
    t.get f = c.get f :=
  h.frame.get (by
    simp only [feFields, List.forall_mem_cons]
    exact ⟨hf 0 (by decide), hf 1 (by decide), hf 2 (by decide), by simp⟩)

theorem FeWritten.changing {n target : Nat} {s a c t : State} (h : FeWritten n s c t) (hc : FeChanging n target a c) :
    FeChanging n target a t :=
  hc.of_parts (h.frame.parts .svc (by decide)) (h.get fun m _ => (feFld_ne_nowFld m n).symm)

section
variable {s : State} {v n t : Nat} (hn : n < 3) (hv : v < 2 ^ 32)
  (hothers : ∀ m ∈ List.range 3, m = n ∨ FeUnchanged v s m) (hassay : s.svc.assay = none)
  (ht : min 2 (bits v (2 * n) 2) = t)
include hn hv hothers hassay ht

theorem exec_feServiceWrite_one (hstep : ∀ a, FeSame s a → FeApart n a (a.feWrite n t)) :
    ∃ a u, FeSame s a ∧ exec (.feServiceWrite v) s = .next u ∧ FeWritten n s (a.feWrite n t) u := by
  subst ht
  obtain ⟨a, hsame, hfield, hframe, hother⟩ := feServiceWrite_one hn hothers hassay hstep
  exact ⟨a, _, hsame, effect_of_wf (c := .feServiceWrite v) (decide_eq_true hv) (feServiceWrite v) s,
    hfield, hframe, hother⟩

theorem exec_feServiceWrite_framed {ps : List Part} {l : List Fld}
    (hstep : ∀ a, FeSame s a → FeApart n a (a.feWrite n t) ∧ Frame ps (feFld n :: l) a (a.feWrite n t)) :
    ∃ a u, FeSame s a ∧ exec (.feServiceWrite v) s = .next u ∧ FeWritten n s (a.feWrite n t) u ∧
      Frame (ps ++ [.prot]) (feFields ++ l) s u := by
  obtain ⟨a, u, hsame, hexec, hw⟩ := exec_feServiceWrite_one hn hv hothers hassay ht fun a ha => (hstep a ha).1
  refine ⟨a, u, hsame, hexec, hw, ?_⟩
  have hfirst := hsame.frame.mono (qs := ps ++ [.prot]) (List.nil_subset _) (List.subset_append_left feFields l)
  have hmid := (hstep a hsame).2.mono (List.subset_append_left ps [.prot]) (fe_cons_subset n l)
  exact (hfirst.trans hmid).trans (hw.frame.mono (List.subset_append_right ps [.prot]) (List.subset_append_left feFields l))

end

theorem FeApart.of_framed {n : Nat} {s t : State} {ps : List Part} {l : List Fld} (hn : n < 3)
    (h : Frame ps (feFld n :: l) s t) (hshut : ∀ m < 3, m ≠ n → t.shut.contains (.feDie m) = s.shut.contains (.feDie m))
    (hl : ∀ m, ∀ f ∈ l, (feFld m).key ≠ f.key) (hassay : t.svc.assay = s.svc.assay) : FeApart n s t :=
  ⟨fun m hm hne => h.get (List.forall_mem_cons.2 ⟨feFld_ne_feFld hm hn hne, hl m⟩), hshut, hassay⟩

theorem State.setFe_frame (s : State) (n v : Nat) : Frame [] [feFld n] s (s.set (feFld n) v) :=
  (Frame.refl [] _ s).set _ _ (by simp)

section
variable {a : State} {n : Nat} (hn : n < 3)
include hn

/-! ## Each change of one field -/

/-- The field of die `n` takes `t`, and a change to `target` begins. -/
structure FeTaken (n t target : Nat) (ps : List Part) (a c : State) : Prop extends FeChanging n target a c where
  field : c.get (feFld n) = t
  apart : FeApart n a c
  frame : Frame ps [feFld n, nowFld n] a c

theorem State.feWrite_off_taken (hon : a.get (feFld n) < 2) (hshut : a.shut.contains (.feDie n) = false) :
    FeTaken n 2 2 [.shut, .svc, .feByp, .activity] a (a.feWrite n 2) ∧ (a.feWrite n 2).shut = a.shut ++ [.feDie n] := by
  rw [State.feWrite_off hon hshut]
  have hset := a.setFe_frame n 2
  have hfield := a.get_set_feFld n (v := 2) (by decide)
  have hsvc : (a.set (feFld n) 2).svc = a.svc := rfl
  have hkeep : (a.set (feFld n) 2).shut = a.shut := rfl
  generalize a.set (feFld n) 2 = b at *
  have hoff := b.feOff_off n
  have hframe : Frame [.shut, .svc, .feByp, .activity] [feFld n, nowFld n] a (b.feOff n) :=
    (hset.mono (by simp) (by simp)).trans (hoff.frame.mono (by simp) (by simp))
  have hass : (b.feOff n).svc.assay = a.svc.assay := hoff.assay.trans (by rw [hsvc])
  have hends : (b.feOff n).shut = a.shut ++ [.feDie n] := by rw [hoff.shut, hkeep]
  refine ⟨⟨⟨hoff.now, hoff.target, hass⟩, ?_, FeApart.of_framed hn hframe ?_ ?_ hass, hframe⟩, hends⟩
  · exact (hoff.frame.get (by simpa using feFld_ne_nowFld n n)).trans hfield
  · intro m _ hne
    rw [hends]
    simp [hne]
  · intro m
    simpa using feFld_ne_nowFld m n

theorem State.feWrite_isolate_taken (hin : a.get (feFld n) = 0) (hup : a.feTarget n ≠ some 3)
    (hshut : a.shut.contains (.feDie n) = false) : FeTaken n 1 1 [.svc, .feByp] a (a.feWrite n 1) := by
  rw [State.feWrite_isolate hin hup hshut]
  have hset := a.setFe_frame n 1
  have hfield := a.get_set_feFld n (v := 1) (by decide)
  have hsvc : (a.set (feFld n) 1).svc = a.svc := rfl
  generalize a.set (feFld n) 1 = b at *
  have haway := b.feAway_frame n
  generalize b.feAway n = d at *
  have hbegin := d.feBegin_frame n 1
  have hchange := d.feBegin_changing n 1
  generalize d.feBegin n 1 = c at *
  have hframe : Frame [.svc, .feByp] [feFld n, nowFld n] a c :=
    ((hset.mono (by simp) (by simp)).trans (haway.mono (by simp) (by simp))).trans (hbegin.mono (by simp) (by simp))
  have hass : c.svc.assay = a.svc.assay := by rw [hchange.assay, haway.parts .svc (by decide), hsvc]
  refine ⟨⟨hchange.now, hchange.target, hass⟩, ?_, FeApart.of_framed hn hframe ?_ ?_ hass, hframe⟩
  · exact (hbegin.get (by simpa using feFld_ne_nowFld n n)).trans ((haway.get (by simp)).trans hfield)
  · intro m _ _
    rw [hframe.parts .shut (by decide)]
  · intro m
    simpa using feFld_ne_nowFld m n

theorem State.feWrite_return_taken (hiso : a.get (feFld n) = 1) (hup : a.feTarget n ≠ some 3)
    (hshut : a.shut.contains (.feDie n) = false) : FeTaken n 0 0 [.svc] a (a.feWrite n 0) := by
  rw [State.feWrite_return hiso hup hshut]
  have hset := a.setFe_frame n 0
  have hfield := a.get_set_feFld n (v := 0) (by decide)
  have hsvc : (a.set (feFld n) 0).svc = a.svc := rfl
  generalize a.set (feFld n) 0 = b at *
  have hbegin := b.feBegin_frame n 0
  have hchange := b.feBegin_changing n 0
  generalize b.feBegin n 0 = c at *
  have hframe : Frame [.svc] [feFld n, nowFld n] a c :=
    (hset.mono (by simp) (by simp)).trans (hbegin.mono (by simp) (by simp))
  have hass : c.svc.assay = a.svc.assay := by rw [hchange.assay, hsvc]
  refine ⟨⟨hchange.now, hchange.target, hass⟩, ?_, FeApart.of_framed hn hframe ?_ ?_ hass, hframe⟩
  · exact (hbegin.get (by simpa using feFld_ne_nowFld n n)).trans hfield
  · intro m _ _
    rw [hframe.parts .shut (by decide)]
  · intro m
    simpa using feFld_ne_nowFld m n

theorem State.feWrite_up_apart (hoff : a.get (feFld n) = 2) (hshut : a.shut.contains (.feDie n) = false) :
    FeUp n (a.set (feFld n) 1) (a.feWrite n 1) ∧ FeApart n a (a.feWrite n 1) := by
  rw [State.feWrite_up hoff hshut]
  have hup := (a.set (feFld n) 1).feUp_up n
  exact ⟨hup, fun m hm hne => (hup.field m).trans (State.get_set_ne _ (feFld_ne_feFld hm hn hne) _),
    fun m _ _ => by rw [hup.shut, State.set_shut], hup.assay.trans rfl⟩

/-- A request that waits or is refused: the field takes `t`, and no change begins. -/
structure FeHeld (n t : Nat) (ps : List Part) (l : List Fld) (a c : State) : Prop where
  field : c.get (feFld n) = t
  apart : FeApart n a c
  frame : Frame ps (feFld n :: l) a c

theorem State.feWrite_pending_held (hoff : a.get (feFld n) = 2) (hshut : a.shut.contains (.feDie n) = true)
    (hpend : bit (a.get CX_PENDING_ENABLE_fe) n = false) :
    FeHeld n 1 [.evReq] [CX_PENDING_ENABLE_fe, MG_EVLOG_merged] a (a.feWrite n 1) ∧
      bit ((a.feWrite n 1).get CX_PENDING_ENABLE_fe) n = true ∧ Sparse.has 40 (a.feWrite n 1).evReq = true := by
  rw [State.feWrite_pending hoff hshut hpend]
  have hset := a.setFe_frame n 1
  have hfield := a.get_set_feFld n (v := 1) (by decide)
  have hsvc : (a.set (feFld n) 1).svc = a.svc := rfl
  generalize a.set (feFld n) 1 = b at *
  have hpendf := b.fePend_frame n true
  have hbit := b.fePend_bit hn true
  generalize b.fePend n true = d at *
  have hframe : Frame [.evReq] [feFld n, CX_PENDING_ENABLE_fe, MG_EVLOG_merged] a (d.raise 40) :=
    ((hset.mono (by simp) (by simp)).trans (hpendf.mono (by simp) (by simp))).raise _ _ (by decide) (by simp)
  have hass : (d.raise 40).svc.assay = a.svc.assay := by
    rw [State.raise_svc, hpendf.parts .svc (by decide), hsvc]
  refine ⟨⟨?_, FeApart.of_framed hn hframe ?_ ?_ hass, hframe⟩, ?_, State.has_raise ..⟩
  · rw [State.get_raise_ne _ (feFld_ne_others n _ (by simp)), hpendf.get (by simpa using feFld_ne_others n _ (by simp)),
      hfield]
  · intro m _ _
    rw [hframe.parts .shut (by decide)]
  · intro m f hf
    refine feFld_ne_others m f ?_
    simp only [List.mem_cons] at hf ⊢
    tauto
  · rw [State.get_raise_ne _ (by decide)]
    exact hbit

theorem State.feWrite_dropped_held (hshut : a.shut.contains (.feDie n) = true) :
    FeHeld n 2 [] [CX_PENDING_ENABLE_fe] a (a.feWrite n 2) ∧
      bit ((a.feWrite n 2).get CX_PENDING_ENABLE_fe) n = false := by
  rw [State.feWrite_dropped hshut]
  have hset := a.setFe_frame n 2
  have hfield := a.get_set_feFld n (v := 2) (by decide)
  have hsvc : (a.set (feFld n) 2).svc = a.svc := rfl
  generalize a.set (feFld n) 2 = b at *
  have hpendf := b.fePend_frame n false
  have hbit := b.fePend_bit hn false
  generalize b.fePend n false = d at *
  have hframe : Frame [] [feFld n, CX_PENDING_ENABLE_fe] a d :=
    (hset.mono (by simp) (by simp)).trans (hpendf.mono (by simp) (by simp))
  have hass : d.svc.assay = a.svc.assay := by rw [hpendf.parts .svc (by decide), hsvc]
  refine ⟨⟨?_, FeApart.of_framed hn hframe ?_ ?_ hass, hframe⟩, hbit⟩
  · rw [hpendf.get (by simpa using feFld_ne_others n _ (by simp)), hfield]
  · intro m _ _
    rw [hframe.parts .shut (by decide)]
  · intro m f hf
    refine feFld_ne_others m f ?_
    simp only [List.mem_cons] at hf ⊢
    tauto

def feRefusedFields : List Fld := [CX_ACQ_STATUS_cause, CX_ACQ_STATUS_refused, MG_EVLOG_merged]

theorem State.feWrite_refused_held (hoff : a.get (feFld n) = 2) :
    FeApart n a (a.feWrite n 0) ∧ Frame [.evReq] (feFld n :: feRefusedFields) a (a.feWrite n 0) ∧
      (a.feWrite n 0).get CX_ACQ_STATUS_cause = 6 ∧ (a.feWrite n 0).on CX_ACQ_STATUS_refused = true := by
  rw [State.feWrite_refused hoff, State.acqRefused]
  have hset : Frame [] [CX_ACQ_STATUS_cause] a (a.set CX_ACQ_STATUS_cause 6) := (Frame.refl [] _ a).set _ _ (by decide)
  have hcause : (a.set CX_ACQ_STATUS_cause 6).get CX_ACQ_STATUS_cause = 6 := State.get_set_fit _ _ (by decide)
  have hsvc : (a.set CX_ACQ_STATUS_cause 6).svc = a.svc := rfl
  generalize a.set CX_ACQ_STATUS_cause 6 = b at *
  have hframe : Frame [.evReq] (feFld n :: feRefusedFields) a (b.flag CX_ACQ_STATUS_refused 194) :=
    (hset.mono (by simp) (by simp [feRefusedFields])).flag _ _ _ (by decide) (by simp [feRefusedFields])
      (by simp [feRefusedFields])
  have hflag : Frame [.evReq] [CX_ACQ_STATUS_refused, MG_EVLOG_merged] b (b.flag CX_ACQ_STATUS_refused 194) :=
    (Frame.refl _ _ b).flag _ _ _ (by decide) (by decide) (by decide)
  have hass : (b.flag CX_ACQ_STATUS_refused 194).svc.assay = a.svc.assay := by
    rw [hflag.parts .svc (by decide), hsvc]
  refine ⟨FeApart.of_framed hn hframe ?_ ?_ hass, hframe, ?_, ?_⟩
  · intro m _ _
    rw [hframe.parts .shut (by decide)]
  · intro m f hf
    refine feFld_ne_others m f ?_
    simp only [feRefusedFields, List.mem_cons] at hf ⊢
    tauto
  · rw [hflag.get (by decide), hcause]
  · rw [State.on, State.get_flag_same b rfl (by decide)]
    rfl

end

/-! ## A change completes -/

theorem exec_feSvc {n : Nat} (hn : n < 3) (s : State) : exec (.feSvc n) s = .next (feSvc n s) :=
  effect_of_wf (c := .feSvc n) (decide_eq_true hn) (feSvc n) s

theorem State.feEnd_frame (s : State) (n now : Nat) :
    Frame [.svc, .evReq] [nowFld n, MG_EVLOG_merged] s (s.feEnd n now) :=
  (((Frame.refl [.svc, .evReq] [nowFld n, MG_EVLOG_merged] s).with_svc _ (by decide)).set _ _ (by simp)).raise _ _
    (by decide) (by simp)

/-- A change of die `n` has completed, shown as `now`, with EV 196. -/
structure FeEnded (n now : Nat) (s t : State) : Prop where
  now : t.get (nowFld n) = now
  told : Sparse.has 196 t.evReq = true
  target : t.feTarget n = none
  frame : Frame [.svc, .evReq] [nowFld n, MG_EVLOG_merged] s t

theorem State.feEnd_ended (s : State) (n : Nat) {now : Nat} (h : now < 4) : FeEnded n now s (s.feEnd n now) := by
  refine ⟨?_, State.has_raise .., s.feTarget_feEnd n now, s.feEnd_frame n now⟩
  rw [State.feEnd, State.get_raise_ne _ (nowFld_ne_merged n)]
  exact State.get_set_nowFld _ n h

theorem State.feBack_frame (s : State) (n : Nat) : Frame [.feByp] [] s (s.feBack n) :=
  (Frame.refl [.feByp] [] s).with_feByp _ (by decide)

theorem feSvc_waiting {s : State} {n : Nat} (h : s.feTarget n = none ∨ s.feTarget n = some 2 ∨
    (s.feTarget n = some 0 ∧ s.get (FE_TDC_STATUS_state n) ≠ 2)) : feSvc n s = s := by
  obtain h | h | ⟨h, hlock⟩ := h
  · simp [feSvc, h]
  · simp [feSvc, h]
  · simp [feSvc, h, State.locked, hlock]

theorem feSvc_service {s : State} {n : Nat} (h : s.feTarget n = some 0) (hlock : s.get (FE_TDC_STATUS_state n) = 2) :
    feSvc n s = (s.feBack n).feEnd n 0 := by
  simp [feSvc, h, State.locked, hlock]

theorem State.feEnd_field (s : State) (n now : Nat) : (s.feEnd n now).get (feFld n) = s.get (feFld n) :=
  (s.feEnd_frame n now).get (by
    simp only [List.forall_mem_cons]
    exact ⟨feFld_ne_nowFld n n, feFld_ne_others n _ (by simp), by simp⟩)

theorem feSvc_isolated {s : State} {n : Nat}
    (h : s.feTarget n = some 1 ∨ (s.feTarget n = some 3 ∧ s.get (feFld n) ≠ 0)) : feSvc n s = s.feEnd n 1 := by
  obtain h | ⟨h, hfield⟩ := h
  · simp [feSvc, h]
  · simp [feSvc, h, s.feEnd_field, hfield]

theorem feSvc_onwards {s : State} {n : Nat} (h : s.feTarget n = some 3) (hfield : s.get (feFld n) = 0) :
    feSvc n s = (s.feEnd n 1).feBegin n 0 := by
  simp [feSvc, h, s.feEnd_field, hfield]

/-! ## The statement -/

/-- Settles O55: the write of the one changed field decides, and FE_SVC ends the change under way. -/
theorem feDiesLeaveAndReturnToService : Obligations.FeDiesLeaveAndReturnToService := by
  unfold Obligations.FeDiesLeaveAndReturnToService
  refine ⟨?_, ?_, ?_, ?_, ?_, ?_, ?_, ?_, ?_, ?_, ?_⟩
  · intro s v n hn hv hothers hassay hbits hon hshut
    have hstep (a : State) (ha : FeSame s a) := State.feWrite_off_taken (a := a) hn (by rw [ha.field n hn]; exact hon)
      (by rw [ha.frame.parts .shut (by decide)]; exact hshut)
    obtain ⟨a, t, ha, hexec, hw, hframe⟩ := exec_feServiceWrite_framed hn hv hothers hassay (t := 2) (by omega)
      fun a ha => ⟨(hstep a ha).1.apart, (hstep a ha).1.frame⟩
    obtain ⟨htaken, hends⟩ := hstep a ha
    have hchange := hw.changing htaken.toFeChanging
    refine ⟨t, hexec, (hw.field n hn).trans htaken.field, hchange.now, ?_, hchange.target, hw.others, hframe⟩
    rw [hw.frame.parts .shut (by decide), hends, ha.frame.parts .shut (by decide)]
  · intro s v n hn hv hothers hassay hbits hoff
    have hstep (a : State) (ha : FeSame s a) := State.feWrite_refused_held (a := a) hn (by rw [ha.field n hn]; exact hoff)
    obtain ⟨a, t, ha, hexec, hw, hframe⟩ := exec_feServiceWrite_framed hn hv hothers hassay (t := 0) (by omega)
      fun a ha => ⟨(hstep a ha).1, (hstep a ha).2.1⟩
    obtain ⟨-, -, hcause, hrefused⟩ := hstep a ha
    refine ⟨t, hexec, ?_, ?_, hw.others, hframe⟩
    · rw [hw.get fun m _ => (feFld_ne_others m _ (by simp)).symm, hcause]
    · rw [State.on, hw.get fun m _ => (feFld_ne_others m _ (by simp)).symm]
      exact hrefused
  · intro s v n hn hv hothers hassay hbits hin hup hshut
    have hstep (a : State) (ha : FeSame s a) := State.feWrite_isolate_taken (a := a) hn (by rw [ha.field n hn]; exact hin)
      (by rw [State.feTarget, ha.frame.parts .svc (by decide)]; exact hup)
      (by rw [ha.frame.parts .shut (by decide)]; exact hshut)
    obtain ⟨a, t, ha, hexec, hw, hframe⟩ := exec_feServiceWrite_framed hn hv hothers hassay (t := 1) (by omega)
      fun a ha => ⟨(hstep a ha).apart, (hstep a ha).frame⟩
    have htaken := hstep a ha
    have hchange := hw.changing htaken.toFeChanging
    exact ⟨t, hexec, (hw.field n hn).trans htaken.field, hchange.now, hchange.target, hw.others, hframe⟩
  · intro s v n hn hv hothers hassay hbits hiso hup hshut
    have hstep (a : State) (ha : FeSame s a) := State.feWrite_return_taken (a := a) hn (by rw [ha.field n hn]; exact hiso)
      (by rw [State.feTarget, ha.frame.parts .svc (by decide)]; exact hup)
      (by rw [ha.frame.parts .shut (by decide)]; exact hshut)
    obtain ⟨a, t, ha, hexec, hw, hframe⟩ := exec_feServiceWrite_framed hn hv hothers hassay (t := 0) (by omega)
      fun a ha => ⟨(hstep a ha).apart, (hstep a ha).frame⟩
    have htaken := hstep a ha
    have hchange := hw.changing htaken.toFeChanging
    exact ⟨t, hexec, (hw.field n hn).trans htaken.field, hchange.now, hchange.target, hw.others, hframe⟩
  · intro s v n l hn hv hothers hassay hl hbits hoff hshut
    have hstep (a : State) (ha : FeSame s a) := State.feWrite_up_apart (a := a) hn (by rw [ha.field n hn]; exact hoff)
      (by rw [ha.frame.parts .shut (by decide)]; exact hshut)
    obtain ⟨a, t, ha, hexec, hw⟩ := exec_feServiceWrite_one hn hv hothers hassay (t := 1) (by omega)
      fun a ha => (hstep a ha).2
    obtain ⟨hup, -⟩ := hstep a ha
    have hchange := hw.changing hup.toFeChanging
    have hregs (f : Fld) (hf : f.key / 2 ^ 29 = 0x20 + n) (hr : f.reset < 2 ^ f.width) : t.get f = f.reset :=
      (hw.get fun m _ heq => feFld_not_die m n (heq ▸ hf)).trans (hup.regs f hf hr)
    refine ⟨t, hexec, ?_, hchange.now, hchange.target, hregs _ ?_ ?_, hregs _ ?_ ?_, ?_, ?_, ?_⟩
    · rw [hw.field n hn, hup.field, State.get_set_feFld _ n (by decide)]
    · simp only [Fld.key, FE_CH_CFG_trim]
      omega
    · simp [FE_CH_CFG_trim]
    · simp only [Fld.key, FE_TDC_STATUS_state]
      omega
    · simp [FE_TDC_STATUS_state]
    · rw [State.chan, hw.frame.parts .chans (by decide)]
      exact hup.chan l hl
    · rw [hw.frame.parts .store (by decide), hup.store, State.set_store, ha.frame.parts .store (by decide)]
    · rw [hw.frame.parts .evReq (by decide), hup.told, State.set_evReq, ha.frame.parts .evReq (by decide)]
  · intro s v n hn hv hothers hassay hbits hoff hshut hpend
    have hstep (a : State) (ha : FeSame s a) := State.feWrite_pending_held (a := a) hn (by rw [ha.field n hn]; exact hoff)
      (by rw [ha.frame.parts .shut (by decide)]; exact hshut)
      (by rw [ha.frame.get (by decide)]; exact hpend)
    obtain ⟨a, t, ha, hexec, hw, hframe⟩ := exec_feServiceWrite_framed hn hv hothers hassay (t := 1) (by omega)
      fun a ha => ⟨(hstep a ha).1.apart, (hstep a ha).1.frame⟩
    obtain ⟨hheld, hbit, htold⟩ := hstep a ha
    refine ⟨t, hexec, (hw.field n hn).trans hheld.field, ?_, ?_, hw.others, hframe⟩
    · rw [hw.get fun m _ => (feFld_ne_others m _ (by simp)).symm, hbit]
    · rw [hw.frame.parts .evReq (by decide)]
      exact htold
  · intro s v n hn hv hothers hassay hbits hshut
    have hstep (a : State) (ha : FeSame s a) := State.feWrite_dropped_held (a := a) hn
      (by rw [ha.frame.parts .shut (by decide)]; exact hshut)
    obtain ⟨a, t, ha, hexec, hw, hframe⟩ := exec_feServiceWrite_framed hn hv hothers hassay (t := 2) (by omega)
      fun a ha => ⟨(hstep a ha).1.apart, (hstep a ha).1.frame⟩
    obtain ⟨hheld, hbit⟩ := hstep a ha
    refine ⟨t, hexec, (hw.field n hn).trans hheld.field, ?_, hw.others, hframe⟩
    rw [hw.get fun m _ => (feFld_ne_others m _ (by simp)).symm, hbit]
  · intro s n hn h
    rw [exec_feSvc hn, feSvc_waiting h]
  · intro s n hn h hlock
    have hback := s.feBack_frame n
    have hended := (s.feBack n).feEnd_ended n (now := 0) (by decide)
    refine ⟨_, exec_feSvc hn s, ?_⟩
    rw [feSvc_service h hlock]
    exact ⟨hended.now, hended.told, hended.target,
      (hback.mono (by decide) (by simp)).trans (hended.frame.mono (by decide) (by simp))⟩
  · intro s n hn h
    have hended := s.feEnd_ended n (now := 1) (by decide)
    refine ⟨_, exec_feSvc hn s, ?_⟩
    rw [feSvc_isolated h]
    exact ⟨hended.now, hended.told, hended.target, hended.frame⟩
  · intro s n hn h hfield
    have hended := s.feEnd_ended n (now := 1) (by decide)
    have hchange := (s.feEnd n 1).feBegin_changing n 0
    have hbegin := (s.feEnd n 1).feBegin_frame n 0
    refine ⟨_, exec_feSvc hn s, ?_⟩
    rw [feSvc_onwards h hfield]
    refine ⟨hchange.now, ?_, hchange.target, hended.frame.trans (hbegin.mono (by decide) (by simp))⟩
    rw [hbegin.parts .evReq (by decide)]
    exact hended.told

end Sys2Proof.Machine
end

section
/-! SUPPORT and PROOF. An assay starts on a block out of service, is refused, reports or is aborted (R527 to R531). -/

namespace Sys2Proof.Machine

open Sys2Proof

theorem exec_assayGo {b i : Nat} (hb : b < 16) (hi : i < 64) (s : State) :
    exec (.assayGo b i) s = .next (assayGo b i s) :=
  effect_of_wf (c := .assayGo b i) (by simp [Instr.wf, hb, hi]) (assayGo b i) s

theorem exec_assayDone {p a : Nat} (hp : p < 16) (ha : a < 2 ^ 20) (f ms : Nat) (s : State) :
    exec (.assayDone p f a ms) s = .next (assayDone p f a ms s) :=
  effect_of_wf (c := .assayDone p f a ms) (by simp [Instr.wf, hp]; omega) (assayDone p f a ms) s

/-! ## The go names its block -/

/-- Block and index of the go stand in CX_ASSAY_CTRL. -/
def State.assayNamed (s : State) (block index : Nat) : State :=
  (s.set CX_ASSAY_CTRL_block block).set CX_ASSAY_CTRL_index index

theorem State.assayNamed_frame (s : State) (b i : Nat) :
    Frame [] [CX_ASSAY_CTRL_block, CX_ASSAY_CTRL_index] s (s.assayNamed b i) :=
  ((Frame.refl [] _ s).set _ _ (by decide)).set _ _ (by decide)

theorem State.assayNamed_fields (s : State) {b i : Nat} (hb : b < 16) (hi : i < 64) :
    (s.assayNamed b i).get CX_ASSAY_CTRL_block = b ∧ (s.assayNamed b i).get CX_ASSAY_CTRL_index = i := by
  constructor
  · rw [State.assayNamed, State.get_set_ne _ (by decide)]
    exact State.get_set_fit _ _ hb
  · exact State.get_set_fit _ _ hi

/-- The fields that no go touches keep a block's precondition. -/
theorem nowFld_ne_ctrl (n : Nat) : ∀ f ∈ [CX_ASSAY_CTRL_block, CX_ASSAY_CTRL_index], (nowFld n).key ≠ f.key := by
  unfold nowFld
  split
  all_goals decide

theorem State.assayPre_named (s : State) (b i block index : Nat) :
    (s.assayNamed b i).assayPre block index = s.assayPre block index := by
  have hframe := s.assayNamed_frame b i
  have hmg : (s.assayNamed b i).mg = s.mg := rfl
  have hlow (f : Fld) (hf : ∀ g ∈ [CX_ASSAY_CTRL_block, CX_ASSAY_CTRL_index], f.key ≠ g.key) :
      (s.assayNamed b i).get f = s.get f := hframe.get hf
  have hon (f : Fld) (hf : ∀ g ∈ [CX_ASSAY_CTRL_block, CX_ASSAY_CTRL_index], f.key ≠ g.key) :
      (s.assayNamed b i).on f = s.on f := by rw [State.on, State.on, hlow f hf]
  have hkeys (f : Fld) (h : f.addr < 0x1000e010 ∨ 0x1000e014 ≤ f.addr) (hlo : f.lo < 32) :
      ∀ g ∈ [CX_ASSAY_CTRL_block, CX_ASSAY_CTRL_index], f.key ≠ g.key := by
    simp only [List.forall_mem_cons, Fld.key, CX_ASSAY_CTRL_block, CX_ASSAY_CTRL_index, List.not_mem_nil,
      false_implies, implies_true, and_true]
    omega
  unfold State.assayPre
  split
  next => rw [hlow _ (nowFld_ne_ctrl index)]
  next =>
    rw [hlow _ (by decide), State.bankInit, hlow _ (hkeys _ (by simp only [HS_STATUS_bank_init]; omega)
      (by simp [HS_STATUS_bank_init]))]
    rfl
  next => rw [hon _ (hkeys _ (by simp only [LN_CTRL_out]; omega) (by simp [LN_CTRL_out]))]
  next =>
    rw [hon _ (hkeys _ (by simp only [PU_CTRL_out]; omega) (by simp [PU_CTRL_out])),
      hlow _ (hkeys _ (by simp only [PU_STATUS_role]; omega) (by simp [PU_STATUS_role]))]
  next =>
    rw [Bool.eq_iff_iff, List.all_eq_true, List.all_eq_true]
    refine forall₂_congr fun r hr => ?_
    have hr := List.mem_range.1 hr
    rw [hon (CX_LE_LOOP_en r) (hkeys _ (by simp only [CX_LE_LOOP_en]; omega) (by simp [CX_LE_LOOP_en]))]
  next => rw [hon _ (by decide), hon _ (by decide), hmg]
  next => rw [hlow _ (by decide)]
  next => rfl

/-! ## A go that is refused (R527) -/

def assayRefusedFields : List Fld := [CX_ASSAY_CTRL_block, CX_ASSAY_CTRL_index, CX_ASSAY_STATUS_refused,
  CX_ASSAY_STATUS_cause, CX_ASSAY_STATUS_verdict, MG_EVLOG_merged]

/-- The go is refused for a cause, with EV 195, and no assay starts or ends. -/
structure AssayRefused (cause : Nat) (s t : State) : Prop where
  cause : t.get CX_ASSAY_STATUS_cause = cause
  refused : t.get CX_ASSAY_STATUS_refused = 1
  verdict : t.get CX_ASSAY_STATUS_verdict = 0
  assay : t.svc.assay = s.svc.assay
  told : Sparse.has 195 t.evReq = true
  frame : Frame [.evReq] assayRefusedFields s t

theorem State.assayRefuse_refused (s : State) (b i : Nat) {c : Nat} (hc : c < 16) :
    AssayRefused c s ((s.assayNamed b i).assayRefuse c) := by
  have hnamed := s.assayNamed_frame b i
  have hsvc : (s.assayNamed b i).svc = s.svc := rfl
  generalize s.assayNamed b i = a at *
  unfold State.assayRefuse
  exact {
    cause := by
      rw [State.get_raise_ne _ (by decide), State.get_set_ne _ (by decide)]
      exact State.get_set_fit _ _ hc
    refused := by
      rw [State.get_raise_ne _ (by decide), State.get_set_ne _ (by decide), State.get_set_ne _ (by decide)]
      exact State.get_set_fit _ _ (by decide)
    verdict := by
      rw [State.get_raise_ne _ (by decide)]
      exact State.get_set_fit _ _ (by decide)
    assay := by rw [State.raise_svc, State.set_svc, State.set_svc, State.set_svc, hsvc]
    told := State.has_raise ..
    frame := ((((hnamed.mono (by decide) (by simp [assayRefusedFields])).set _ _ (by decide)).set _ _
      (by decide)).set _ _ (by decide)).raise _ _ (by decide) (by decide) }

theorem assayGo_invalid {s : State} {b i : Nat} (h : assayValid b i = false) :
    assayGo b i s = (s.assayNamed b i).assayRefuse (if s.svc.assay.isSome then 2 else 3) := by
  simp only [assayGo, h]
  rfl

theorem assayGo_inService {s : State} {b i : Nat} (hvalid : assayValid b i = true) (hpre : s.assayPre b i = false) :
    assayGo b i s = (s.assayNamed b i).assayRefuse 1 := by
  have hpre' : (s.assayNamed b i).assayPre b i = false := by rw [s.assayPre_named b i b i, hpre]
  rw [State.assayNamed] at hpre'
  simp [assayGo, hvalid, hpre', State.assayNamed]

theorem assayGo_running {s : State} {b i : Nat} (hvalid : assayValid b i = true) (hpre : s.assayPre b i = true)
    (hrun : s.svc.assay ≠ none) : assayGo b i s = (s.assayNamed b i).assayRefuse 2 := by
  have hpre' : (s.assayNamed b i).assayPre b i = true := by rw [s.assayPre_named b i b i, hpre]
  have hsome : s.svc.assay.isSome = true := Option.isSome_iff_ne_none.2 hrun
  rw [State.assayNamed] at hpre'
  simp [assayGo, hvalid, hpre', hsome, State.assayNamed]

theorem assayValid_of_noBlock {b i : Nat} (h : b = 0 ∨ 7 < b ∨ (b = 1 ∧ 2 < i) ∨ (b = 2 ∧ 15 < i) ∨ (b = 3 ∧ 47 < i) ∨
    (b = 4 ∧ 1 < i) ∨ (4 < b ∧ 0 < i)) : assayValid b i = false := by
  unfold assayValid
  split
  iterate 4 · exact decide_eq_false (by omega)
  iterate 3 · exact beq_eq_false_iff_ne.2 (by omega)
  · rfl

/-! ## A go that starts (R527 to R530) -/

/-- The assay of the block runs, with verdict and time 0. -/
def State.assayRuns (s : State) (block index : Nat) : State :=
  let s := { s with svc := { s.svc with assay := some (block, index) } }
  ((s.set CX_ASSAY_STATUS_state 1).set CX_ASSAY_STATUS_verdict 0).set CX_ASSAY_STATUS_ms 0

theorem assayGo_starts {s : State} {b i : Nat} (hvalid : assayValid b i = true) (hpre : s.assayPre b i = true)
    (hidle : s.svc.assay = none) : assayGo b i s = ((s.assayNamed b i).assayRuns b i).assayBegin b i := by
  have hpre' : (s.assayNamed b i).assayPre b i = true := by rw [s.assayPre_named b i b i, hpre]
  rw [State.assayNamed] at hpre'
  simp [assayGo, hvalid, hpre', hidle, State.assayNamed, State.assayRuns]

def assayRunsFields : List Fld := [CX_ASSAY_CTRL_block, CX_ASSAY_CTRL_index, CX_ASSAY_STATUS_state,
  CX_ASSAY_STATUS_verdict, CX_ASSAY_STATUS_ms]

/-- The assay of the block runs. -/
structure AssayRuns (b i : Nat) (s t : State) : Prop where
  assay : t.svc.assay = some (b, i)
  state : t.get CX_ASSAY_STATUS_state = 1
  verdict : t.get CX_ASSAY_STATUS_verdict = 0
  ms : t.get CX_ASSAY_STATUS_ms = 0
  block : t.get CX_ASSAY_CTRL_block = b
  index : t.get CX_ASSAY_CTRL_index = i
  store : t.store = s.store
  frame : Frame [.svc] assayRunsFields s t

theorem State.assayRuns_runs (s : State) {b i : Nat} (hb : b < 16) (hi : i < 64) :
    AssayRuns b i s ((s.assayNamed b i).assayRuns b i) := by
  have hnamed := s.assayNamed_frame b i
  obtain ⟨hblock, hindex⟩ := s.assayNamed_fields hb hi
  have hstore : (s.assayNamed b i).store = s.store := rfl
  generalize s.assayNamed b i = a at *
  have hone : Frame [.svc] [CX_ASSAY_STATUS_state, CX_ASSAY_STATUS_verdict, CX_ASSAY_STATUS_ms] a (a.assayRuns b i) :=
    ((((Frame.refl [.svc] _ a).with_svc { a.svc with assay := some (b, i) } (by decide)).set _ _ (by decide)).set _ _
      (by decide)).set _ _ (by decide)
  exact {
    assay := rfl
    state := by
      rw [State.assayRuns, State.get_set_ne _ (by decide), State.get_set_ne _ (by decide)]
      exact State.get_set_fit _ _ (by decide)
    verdict := by
      rw [State.assayRuns, State.get_set_ne _ (by decide)]
      exact State.get_set_fit _ _ (by decide)
    ms := State.get_set_fit _ _ (by decide)
    block := (hone.get (by decide)).trans hblock
    index := (hone.get (by decide)).trans hindex
    store := (hone.parts .store (by decide)).trans hstore
    frame := (hnamed.mono (by decide) (by decide)).trans (hone.mono (by decide) (by decide)) }

theorem State.assayBegin_other {s : State} {b i : Nat} (hone : b ≠ 1) (htwo : b ≠ 2) : s.assayBegin b i = s := by
  unfold State.assayBegin
  split
  · exact absurd rfl hone
  · exact absurd rfl htwo
  · rfl

/-- The code-density run of an FE die over all its columns begins. -/
def State.assayDie (s : State) (n : Nat) : State :=
  let s := (s.iff (s.locked n) fun s => s.unlock n 1).cdTake n 0
  ((s.set (FE_CD_STATUS_state n) 3).set (FE_CD_STATUS_column n) 0).cdTake n 0

/-- An address of the registers of FE dies. -/
def dieKey (k : Nat) : Prop := 0x20000000 * 32 ≤ k

/-- Code-density registers are told from the servo's. -/
theorem State.unlock_state {s : State} {n to_ : Nat} (hto : to_ < 4) :
    (s.unlock n to_).get (FE_TDC_STATUS_state n) = to_ := by
  have hmerged : (FE_TDC_STATUS_state n).key ≠ MG_EVLOG_merged.key := by
    simp only [Fld.key, FE_TDC_STATUS_state, MG_EVLOG_merged]
    omega
  unfold State.unlock
  split
  · rw [State.get_raise_ne _ hmerged]
    exact State.get_set_fit _ _ hto
  · exact State.get_set_fit _ _ hto

theorem State.unlock_frame (s : State) (n to_ : Nat) :
    Frame [.dies, .evReq] [FE_TDC_STATUS_unlock n, FE_TDC_STATUS_state n, MG_EVLOG_merged] s (s.unlock n to_) :=
  Frame.ite (((((Frame.refl _ _ s).setDie n _ (by decide)).set _ _ (by simp)).set _ _ (by simp)).raise _ _ (by decide)
    (by simp)) ((Frame.refl _ _ s).set _ _ (by simp))

theorem State.cdTake_frame (s : State) (n v : Nat) :
    Frame [.dies] [FE_CD_COL_progress n (s.get (FE_CD_STATUS_column n))] s (s.cdTake n v) :=
  ((Frame.refl [.dies] _ s).setDie n _ (by decide)).set _ _ (by simp)

theorem cdProgress_ne (n col : Nat) {f : Fld} (hf : f.addr < 0x20000180 + n * 0x1000000) (hlo : f.lo < 32) :
    f.key ≠ (FE_CD_COL_progress n col).key := by
  simp only [Fld.key, FE_CD_COL_progress]
  omega

theorem State.assayDie_begun (s : State) (n : Nat) :
    (s.assayDie n).get (FE_CD_STATUS_state n) = 3 ∧ (s.assayDie n).get (FE_CD_STATUS_column n) = 0 ∧
      (s.locked n = true → (s.assayDie n).get (FE_TDC_STATUS_state n) = 1) ∧
      (s.assayDie n).svc = s.svc ∧ (s.assayDie n).get CX_ASSAY_STATUS_state = s.get CX_ASSAY_STATUS_state := by
  have hlock : Frame [.dies, .evReq] [FE_TDC_STATUS_unlock n, FE_TDC_STATUS_state n, MG_EVLOG_merged] s
      (s.iff (s.locked n) fun s => s.unlock n 1) :=
    (Frame.refl _ _ s).iff fun u hu => hu.trans (u.unlock_frame n 1)
  have hone (h : s.locked n = true) :
      (s.iff (s.locked n) fun s => s.unlock n 1).get (FE_TDC_STATUS_state n) = 1 := by
    rw [h]
    exact State.unlock_state (by decide)
  unfold State.assayDie
  generalize (s.iff (s.locked n) fun s => s.unlock n 1) = a at *
  have hfirst := a.cdTake_frame n 0
  dsimp only
  generalize a.cdTake n 0 = b at *
  have hset : Frame [] [FE_CD_STATUS_state n, FE_CD_STATUS_column n] b
      ((b.set (FE_CD_STATUS_state n) 3).set (FE_CD_STATUS_column n) 0) :=
    ((Frame.refl [] _ b).set _ _ (by simp)).set _ _ (by simp)
  have hcolumn : ((b.set (FE_CD_STATUS_state n) 3).set (FE_CD_STATUS_column n) 0).get (FE_CD_STATUS_column n) = 0 :=
    State.get_set_fit _ _ (by simp)
  have hstate : ((b.set (FE_CD_STATUS_state n) 3).set (FE_CD_STATUS_column n) 0).get (FE_CD_STATUS_state n) = 3 := by
    rw [State.get_set_ne _ (by simp only [Fld.key, FE_CD_STATUS_state, FE_CD_STATUS_column]; omega)]
    exact State.get_set_fit _ _ (by simp [FE_CD_STATUS_state])
  generalize (b.set (FE_CD_STATUS_state n) 3).set (FE_CD_STATUS_column n) 0 = c at *
  have hlast := c.cdTake_frame n 0
  generalize c.cdTake n 0 = t at *
  have hread (f : Fld) (hf : f.addr < 0x20000180 + n * 0x1000000) (hlo : f.lo < 32) : t.get f = c.get f :=
    hlast.get (by simpa using cdProgress_ne n _ hf hlo)
  refine ⟨?_, ?_, fun h => ?_, ?_, ?_⟩
  · rw [hread _ (by simp only [FE_CD_STATUS_state]; omega) (by simp [FE_CD_STATUS_state]), hstate]
  · rw [hread _ (by simp only [FE_CD_STATUS_column]; omega) (by simp [FE_CD_STATUS_column]), hcolumn]
  · rw [hread _ (by simp only [FE_TDC_STATUS_state]; omega) (by simp [FE_TDC_STATUS_state]), hset.get, hfirst.get, hone h]
    · simpa using cdProgress_ne n _ (f := FE_TDC_STATUS_state n) (by simp only [FE_TDC_STATUS_state]; omega)
        (by simp [FE_TDC_STATUS_state])
    · simp only [List.forall_mem_cons, Fld.key, FE_CD_STATUS_state, FE_CD_STATUS_column, FE_TDC_STATUS_state,
        List.not_mem_nil, false_implies, implies_true, and_true]
      omega
  · rw [hlast.parts .svc (by decide), hset.parts .svc (by decide), hfirst.parts .svc (by decide),
      hlock.parts .svc (by decide)]
  · rw [hread _ (by simp [CX_ASSAY_STATUS_state]; omega) (by simp [CX_ASSAY_STATUS_state]), hset.get, hfirst.get,
      hlock.get]
    · simp only [List.forall_mem_cons, Fld.key, CX_ASSAY_STATUS_state, FE_TDC_STATUS_unlock, FE_TDC_STATUS_state,
        MG_EVLOG_merged, List.not_mem_nil, false_implies, implies_true, and_true]
      omega
    · simpa using cdProgress_ne n _ (f := CX_ASSAY_STATUS_state) (by simp [CX_ASSAY_STATUS_state]; omega)
        (by simp [CX_ASSAY_STATUS_state])
    · simp only [List.forall_mem_cons, Fld.key, FE_CD_STATUS_state, FE_CD_STATUS_column, CX_ASSAY_STATUS_state,
        List.not_mem_nil, false_implies, implies_true, and_true]
      omega

/-- The contents of a bank are undefined from now on. -/
def State.assayBank (s : State) (bank : Nat) : State :=
  let s := { s with
    store := { s.store with entries := s.store.entries.filter fun e => e.1 / 2 ^ 20 != bank }
    svc := { s.svc with bankUndef := Nat.lor s.svc.bankUndef (2 ^ bank) } }
  s.clearMarks (entryMem bank) fun i => i / 2 ^ 20 == bank % 8

theorem State.assayBank_frame (s : State) (bank : Nat) : Frame [.svc, .store, .prot] [] s (s.assayBank bank) :=
  (((Frame.refl [.svc, .store, .prot] [] s).with_store
    { s.store with entries := s.store.entries.filter fun e => e.1 / 2 ^ 20 != bank } (by decide)).with_svc
      { s.svc with bankUndef := Nat.lor s.svc.bankUndef (2 ^ bank) } (by decide)).with_prot _ (by decide)

theorem sparse_has_filter_gone {α : Type} (q : Nat → Bool) {k : Nat} (hk : q k = false) (m : List (Nat × α)) :
    Sparse.has k (m.filter fun e => q e.1) = false := by
  induction m with
  | nil => rfl
  | cons e m ih =>
    rw [List.filter_cons]
    split
    next h =>
      have hne : k ≠ e.1 := by
        rintro rfl
        rw [hk] at h
        cases h
      rw [Sparse.has, (beq_eq_false_iff_ne).2 hne, Bool.false_or]
      exact ih
    next => exact ih

theorem State.assayBank_entries (s : State) {bank r : Nat} (hr : r < 2 ^ 20) :
    Sparse.has (entryKey bank r) (s.assayBank bank).store.entries = false ∧
      ∀ k, k ≠ bank → Sparse.get 0 (entryKey k r) (s.assayBank bank).store.entries =
        Sparse.get 0 (entryKey k r) s.store.entries := by
  have hrow (k : Nat) : entryKey k r / 2 ^ 20 = k := by
    unfold entryKey
    omega
  constructor
  · exact sparse_has_filter_gone (fun k => k / 2 ^ 20 != bank) (by simpa using hrow bank) _
  · intro k hk
    exact Sparse.get_filter_key 0 (fun k => k / 2 ^ 20 != bank) (by rw [hrow k]; simpa using hk) _

theorem State.assayBank_undef (s : State) (bank : Nat) : bit (s.assayBank bank).svc.bankUndef bank = true := by
  show Nat.testBit (s.svc.bankUndef ||| 2 ^ bank) bank = true
  rw [Nat.testBit_or, Nat.testBit_two_pow_self, Bool.or_true]

/-! ## The end of an assay (R529, R531) -/

theorem State.assayRunEnd_frame {s : State} {b i : Nat} (h : s.svc.assay = some (b, i)) :
    Frame [] [FE_CD_STATUS_state i] s s.assayRunEnd := by
  unfold State.assayRunEnd
  rw [h]
  split
  next n heq =>
    obtain ⟨-, rfl⟩ := Prod.mk.inj (Option.some.inj heq)
    exact Frame.ite ((Frame.refl [] _ s).set _ _ (by simp)) (Frame.refl _ _ s)
  next => exact Frame.refl _ _ s

/-- An assay has ended in a state with EV 195. -/
def State.assayReported (s : State) (part fails first ms : Nat) : State :=
  let s := { s with svc := { s.svc with assay := none } }
  let s := ((s.set CX_ASSAY_RESULT_part part).set CX_ASSAY_RESULT_fails (min fails 255)).set CX_ASSAY_RESULT_first first
  let s := (s.set CX_ASSAY_STATUS_state 2).setB CX_ASSAY_STATUS_verdict (s.get CX_ASSAY_RESULT_part == 0)
  (s.set CX_ASSAY_STATUS_ms (max (s.get CX_ASSAY_STATUS_ms) (min ms 0xFFFF))).raise 195

theorem assayDone_of_running {s : State} {b i : Nat} (h : s.svc.assay = some (b, i)) (p f a ms : Nat) :
    assayDone p f a ms s = s.assayRunEnd.assayReported p f a ms := by
  simp [assayDone, h, State.assayReported]

theorem assayDone_of_idle {s : State} (h : s.svc.assay = none) (p f a ms : Nat) : assayDone p f a ms s = s := by
  simp [assayDone, h]

def assayReportFields : List Fld := [CX_ASSAY_STATUS_state, CX_ASSAY_STATUS_verdict, CX_ASSAY_STATUS_ms,
  CX_ASSAY_RESULT_part, CX_ASSAY_RESULT_fails, CX_ASSAY_RESULT_first, MG_EVLOG_merged]

/-- The result of an assay is shown. -/
structure AssayReported (p f a ms : Nat) (s t : State) : Prop where
  assay : t.svc.assay = none
  state : t.get CX_ASSAY_STATUS_state = 2
  verdict : t.get CX_ASSAY_STATUS_verdict = if p = 0 then 1 else 0
  part : t.get CX_ASSAY_RESULT_part = p
  fails : t.get CX_ASSAY_RESULT_fails = min f 255
  first : t.get CX_ASSAY_RESULT_first = a
  ms : t.get CX_ASSAY_STATUS_ms = max (s.get CX_ASSAY_STATUS_ms) (min ms 65535)
  told : Sparse.has 195 t.evReq = true
  frame : Frame [.svc, .evReq] assayReportFields s t

theorem State.assayReported_shown (s : State) {p a : Nat} (hp : p < 16) (ha : a < 2 ^ 20) (f ms : Nat) :
    AssayReported p f a ms s (s.assayReported p f a ms) := by
  have hmax : max (s.get CX_ASSAY_STATUS_ms) (min ms 65535) < 2 ^ 16 := by
    have hlt : s.get CX_ASSAY_STATUS_ms < 2 ^ 16 := State.get_lt _ _
    omega
  have hpart (u : State) : (((u.set CX_ASSAY_RESULT_part p).set CX_ASSAY_RESULT_fails (min f 255)).set
      CX_ASSAY_RESULT_first a).get CX_ASSAY_RESULT_part = p := by
    rw [State.get_set_ne _ (by decide), State.get_set_ne _ (by decide)]
    exact State.get_set_fit _ _ hp
  unfold State.assayReported
  dsimp only
  rw [hpart]
  simp only [State.setB]
  refine ⟨?_, ?_, ?_, ?_, ?_, ?_, ?_, State.has_raise .., ?_⟩
  · rw [State.raise_svc]
    rfl
  · simp (disch := decide) only [State.get_raise_ne, State.get_set_ne]
    exact State.get_set_fit _ _ (by decide)
  · simp (disch := decide) only [State.get_raise_ne, State.get_set_ne]
    rw [State.get_set_same]
    by_cases hzero : p = 0
    · rw [if_pos hzero, hzero]
      rfl
    · rw [if_neg hzero, (beq_eq_false_iff_ne (a := p) (b := 0)).2 hzero]
      rfl
  · simp (disch := decide) only [State.get_raise_ne, State.get_set_ne]
    exact State.get_set_fit _ _ hp
  · simp (disch := decide) only [State.get_raise_ne, State.get_set_ne]
    exact State.get_set_fit _ _ (show min f 255 < 2 ^ 8 by omega)
  · simp (disch := decide) only [State.get_raise_ne, State.get_set_ne]
    exact State.get_set_fit _ _ ha
  · simp (disch := decide) only [State.get_raise_ne, State.get_set_ne]
    exact State.get_set_fit _ _ hmax
  · exact (((((((Frame.refl [.svc, .evReq] assayReportFields s).with_svc { s.svc with assay := none } (by decide)).set _ _
      (by decide)).set _ _ (by decide)).set _ _ (by decide)).set _ _ (by decide)).set _ _ (by decide)).set _ _
      (by decide) |>.raise _ _ (by decide) (by decide)

def assayStopFields : List Fld := [CX_ASSAY_STATUS_state, CX_ASSAY_STATUS_verdict, CX_ASSAY_STATUS_ms, MG_EVLOG_merged]

/-- The assay has been stopped, with verdict 0. -/
structure AssayStopped (s t : State) : Prop where
  assay : t.svc.assay = none
  state : t.get CX_ASSAY_STATUS_state = 3
  verdict : t.get CX_ASSAY_STATUS_verdict = 0
  told : Sparse.has 195 t.evReq = true
  frame : Frame [.svc, .evReq, .free] assayStopFields s t

/-- The assay is over, its time a free value later. -/
def State.assayCut (s : State) : State := State.rise { s with svc := { s.svc with assay := none } } CX_ASSAY_STATUS_ms

theorem State.assayCut_frame (s : State) : Frame [.svc, .free] [CX_ASSAY_STATUS_ms] s s.assayCut :=
  (((Frame.refl [.svc, .free] _ s).with_svc { s.svc with assay := none } (by decide)).with_free _ (by decide)).count _ _
    (by decide)

theorem State.assayStop_stopped (s : State) :
    AssayStopped s.assayRunEnd s.assayStop := by
  have heq : s.assayStop = ((s.assayRunEnd.assayCut.set CX_ASSAY_STATUS_state 3).set CX_ASSAY_STATUS_verdict 0).raise 195 :=
    rfl
  rw [heq]
  generalize s.assayRunEnd = a
  have hcut := a.assayCut_frame
  have hnone : a.assayCut.svc.assay = none := rfl
  generalize a.assayCut = b at *
  exact {
    assay := by rw [State.raise_svc, State.set_svc, State.set_svc, hnone]
    state := by
      rw [State.get_raise_ne _ (by decide), State.get_set_ne _ (by decide)]
      exact State.get_set_fit _ _ (by decide)
    verdict := by
      rw [State.get_raise_ne _ (by decide)]
      exact State.get_set_fit _ _ (by decide)
    told := State.has_raise ..
    frame := (((hcut.mono (by decide) (by decide)).set _ _ (by decide)).set _ _ (by decide)).raise _ _ (by decide)
      (by decide) }

/-! ## The statement -/

/-- Settles O57: the causes in their order, the start of each kind of block, and both ends. -/
theorem assaysStartAbortAndReport : Obligations.AssaysStartAbortAndReport := by
  unfold Obligations.AssaysStartAbortAndReport
  refine ⟨?_, ?_, ?_, ?_, ?_, ?_, ?_, ?_, ?_, ?_⟩
  · intro s b i hb hi hone htwo hvalid hpre hidle
    have hruns := s.assayRuns_runs hb hi
    refine ⟨_, exec_assayGo hb hi s, ?_⟩
    rw [assayGo_starts hvalid hpre hidle, State.assayBegin_other hone htwo]
    exact ⟨hruns.assay, hruns.state, hruns.verdict, hruns.ms, hruns.block, hruns.index, hruns.frame⟩
  · intro s i hi hnow hidle
    have hpre : s.assayPre 1 i = true := beq_iff_eq.2 hnow
    have hvalid : assayValid 1 i = true := decide_eq_true (show i ≤ 2 by omega)
    have hruns := s.assayRuns_runs (b := 1) (i := i) (by decide) (by omega)
    have hlocked : ((s.assayNamed 1 i).assayRuns 1 i).locked i = s.locked i := by
      rw [State.locked, State.locked, hruns.frame.get]
      simp only [assayRunsFields, List.forall_mem_cons, Fld.key, FE_TDC_STATUS_state, CX_ASSAY_CTRL_block,
        CX_ASSAY_CTRL_index, CX_ASSAY_STATUS_state, CX_ASSAY_STATUS_verdict, CX_ASSAY_STATUS_ms]
      refine ⟨?_, ?_, ?_, ?_, ?_, by simp⟩
      all_goals omega
    refine ⟨_, exec_assayGo (by decide) (by omega) s, ?_⟩
    rw [assayGo_starts hvalid hpre hidle]
    obtain ⟨hstate, hcolumn, hlock, hsvc, hshown⟩ := ((s.assayNamed 1 i).assayRuns 1 i).assayDie_begun i
    exact ⟨(congrArg Svc.assay hsvc).trans hruns.assay, hshown.trans hruns.state, hstate, hcolumn,
      fun h => hlock (hlocked.trans h)⟩
  · intro s i r hi hr hretire hinit hidle
    have hpre : s.assayPre 2 i = true := by simp [State.assayPre, hretire, hinit]
    have hvalid : assayValid 2 i = true := decide_eq_true (show i ≤ 15 by omega)
    have hruns := s.assayRuns_runs (b := 2) (i := i) (by decide) (by omega)
    refine ⟨_, exec_assayGo (by decide) (by omega) s, ?_⟩
    rw [assayGo_starts hvalid hpre hidle]
    generalize (s.assayNamed 2 i).assayRuns 2 i = a at hruns ⊢
    have hframe := a.assayBank_frame i
    obtain ⟨hgone, hkept⟩ := a.assayBank_entries (bank := i) hr
    refine ⟨hruns.assay, (hframe.get (by simp)).trans hruns.state, hgone, a.assayBank_undef i, fun k _ => ?_,
      (hruns.frame.mono (by decide) (by decide)).trans (hframe.mono (by decide) (by simp))⟩
    by_cases hk : k = i
    · exact .inl hk
    · exact .inr ((hkept k hk).trans (by rw [hruns.store]))
  · intro s b i hb hi hvalid hpre
    obtain ⟨hcause, hrefused, hverdict, hassay, htold, hframe⟩ := s.assayRefuse_refused b i (c := 1) (by decide)
    refine ⟨_, exec_assayGo hb hi s, ?_⟩
    rw [assayGo_inService hvalid hpre]
    exact ⟨hcause, hrefused, hverdict, hassay, htold, hframe⟩
  · intro s b i hb hi h hrun
    obtain ⟨hcause, hrefused, -, hassay, -, hframe⟩ := s.assayRefuse_refused b i (c := 2) (by decide)
    have heq : assayGo b i s = (s.assayNamed b i).assayRefuse 2 := by
      by_cases hvalid : assayValid b i = true
      · exact assayGo_running hvalid (h.resolve_left (by simp [hvalid])) hrun
      · rw [assayGo_invalid (by simpa using hvalid), if_pos (Option.isSome_iff_ne_none.2 hrun)]
    refine ⟨_, exec_assayGo hb hi s, ?_⟩
    rw [heq]
    exact ⟨hcause, hrefused, hassay, hframe⟩
  · intro s b i hb hi h hidle
    obtain ⟨hcause, hrefused, -, hassay, htold, hframe⟩ := s.assayRefuse_refused b i (c := 3) (by decide)
    refine ⟨_, exec_assayGo hb hi s, ?_⟩
    rw [assayGo_invalid (assayValid_of_noBlock h), if_neg (by simp [hidle])]
    exact ⟨hcause, hrefused, hassay.trans hidle, htold, hframe⟩
  · intro s p f a ms b i hp ha hrun
    have hend := State.assayRunEnd_frame hrun
    have hshown := s.assayRunEnd.assayReported_shown hp ha f ms
    refine ⟨_, exec_assayDone hp ha f ms s, ?_⟩
    rw [assayDone_of_running hrun]
    have hms : s.assayRunEnd.get CX_ASSAY_STATUS_ms = s.get CX_ASSAY_STATUS_ms := hend.get (by
      simp only [List.forall_mem_singleton, Fld.key, CX_ASSAY_STATUS_ms, FE_CD_STATUS_state]
      omega)
    refine ⟨hshown.assay, hshown.state, hshown.verdict, hshown.part, hshown.fails, hshown.first, ?_, hshown.told,
      (hend.mono (by simp) (by simp)).trans (hshown.frame.mono (by simp) (by simp [assayReportFields]))⟩
    rw [hshown.ms, hms]
  · intro s p f a ms hp ha hidle
    rw [exec_assayDone hp ha, assayDone_of_idle hidle]
  · intro s b i hrun
    have hend := State.assayRunEnd_frame hrun
    have hstop := s.assayStop_stopped
    refine ⟨_, effect_of_wf rfl assayAbort s, ?_⟩
    rw [assayAbort, if_pos (by simp [hrun])]
    exact ⟨hstop.assay, hstop.state, hstop.verdict, hstop.told,
      (hend.mono (by simp) (by simp)).trans (hstop.frame.mono (by simp) (by simp [assayStopFields]))⟩
  · intro s hidle
    rw [show exec .assayAbort s = .next (assayAbort s) from effect_of_wf rfl assayAbort s, assayAbort,
      if_neg (by simp [hidle])]

end Sys2Proof.Machine
end

section
/-! PROOF. The end of a loss of the reference (R34). -/

namespace Sys2Proof.Machine

open Sys2Proof

/-- The management runs from its backup, and the frequency unit's gate has seen a mismatch. -/
def gateBadOnBackup : State :=
  State.set { State.reset with mt := { State.reset.mt with gateBad := true } } CX_ARCH_STATUS_mgmt_backup 1

theorem gateBadOnBackup_refBack : (refBack gateBadOnBackup).mt.gateBad = false := by decide +kernel

/-- Refutes O56: REF_BACK begins a new gate of the frequency unit (R34), so it does not leave what the model keeps of
machine time: a gate that had seen a mismatch is forgotten. -/
theorem not_referencePowerAndShutdownsTakeTheirCourse : ¬ Obligations.ReferencePowerAndShutdownsTakeTheirCourse := by
  unfold Obligations.ReferencePowerAndShutdownsTakeTheirCourse
  rintro ⟨-, -, -, hback, -⟩
  obtain ⟨t, ht, -, -, hmt, -⟩ := hback gateBadOnBackup (by decide +kernel)
  rw [show exec .refBack gateBadOnBackup = .next (refBack gateBadOnBackup) from effect_of_wf rfl refBack _,
    Host.Outcome.next.injEq] at ht
  have hgate := gateBadOnBackup_refBack
  rw [ht, hmt] at hgate
  cases hgate

end Sys2Proof.Machine
end

section
/-! SUPPORT. What the invariant of machine time and the test access port look at, and the operations that leave it: edges, assay,
loop engine, power and guard. -/

namespace Sys2Proof.Machine

open Sys2Proof

/-- What the invariant of machine time and the test access port look at. -/
def State.core (s : State) : (Nat × Nat × Nat) × Tap := ((s.mt.bucket, s.mt.orbit, s.mt.nb), s.svc.tap)

@[simp] theorem State.core_def (s : State) : ((s.mt.bucket, s.mt.orbit, s.mt.nb), s.svc.tap) = s.core := by
  simp only [State.core]

@[simp] theorem State.core_mk (csr : List (Nat × Nat)) (evReq : List (Nat × Nat)) (shut : List ShutFn) (dueSwap : Bool)
    (dueBurnish : List Nat) (dueCd : List (Nat × Nat)) (activity : Option Nat) (deferWin : Nat × Nat) (deferMask :
    Nat) (feByp : List (Nat × Span)) (was : List Was) (answer : Nat × Nat) (free : Nat) (plate : Plate) (mt : Mt)
    (chans : List (Nat × Chan)) (dies : List (Nat × FeDie)) (latch : List (Nat × Nat)) (clock : Nat) (loadedAt : Nat)
    (store : Store) (tg : Tg) (rc : Rc) (str : Str) (lanes : List (Nat × Lane)) (fb : Fb) (prot : Prot) (pwr : Pwr)
    (guard : Guard) (tile : Tile) (mg : Mgmt) (svc : Svc) (pending : List Instr) : (State.mk csr evReq shut dueSwap
    dueBurnish dueCd activity deferWin deferMask feByp was answer free plate mt chans dies latch clock loadedAt store
    tg rc str lanes fb prot pwr guard tile mg svc pending).core = ((mt.bucket, mt.orbit, mt.nb), svc.tap) := by
  simp only [State.core]

@[simp] theorem State.set_core (s : State) (f : Fld) (v : Nat) : (s.set f v).core = s.core := rfl

@[simp] theorem State.setB_core (s : State) (f : Fld) (b : Bool) : (s.setB f b).core = s.core := rfl

@[simp] theorem State.count_core (s : State) (f : Fld) (n : Nat) : (s.count f n).core = s.core := rfl

@[simp] theorem State.countWrap_core (s : State) (f : Fld) : (s.countWrap f).core = s.core := rfl

@[simp] theorem State.raise_core (s : State) (src arg : Nat) : (s.raise src arg).core = s.core := by
  unfold State.raise
  split
  all_goals rfl

@[simp] theorem State.flag_core (s : State) (f : Fld) (src arg : Nat) : (s.flag f src arg).core = s.core := by
  unfold State.flag
  split
  · rfl
  · exact State.raise_core _ _ _

@[simp] theorem State.draw_core (s : State) : s.draw.2.core = s.core := rfl

@[simp] theorem State.rise_core (s : State) (f : Fld) : (s.rise f).core = s.core := rfl

@[simp] theorem State.ite_core {c : Prop} [Decidable c] (s t : State) :
    (if c then s else t).core = if c then s.core else t.core :=
  apply_ite State.core c s t

theorem State.core_of_ite {c : Prop} [Decidable c] {a b : State} {x : (Nat × Nat × Nat) × Tap} (ha : a.core = x)
    (hb : b.core = x) : (if c then a else b).core = x := by
  split
  · exact ha
  · exact hb

@[simp] theorem State.keepOld_core (s : State) (fs : List Fld) (d : Nat) : (s.keepOld fs d).core = s.core := by
  unfold State.keepOld
  split
  all_goals rfl

@[simp] theorem State.keepOldFe_core (s : State) (fs : List Fld) : (s.keepOldFe fs).core = s.core := by
  unfold State.keepOldFe
  split
  · exact State.keepOld_core _ _ _
  · rfl

@[simp] theorem State.iff_core {f : State → State} (hf : ∀ u, (f u).core = u.core) (s : State) (b : Bool) :
    (s.iff b f).core = s.core := by
  cases b
  · rfl
  · exact hf s

@[simp] theorem State.each_core {α : Type} {f : State → α → State} (hf : ∀ u a, (f u a).core = u.core) (s : State)
    (l : List α) : (s.each l f).core = s.core :=
  List.foldlRecOn l f (motive := fun u => u.core = s.core) rfl fun u hu a _ => (hf u a).trans hu

@[simp] theorem State.foldl_core {α : Type} {f : State → α → State} (hf : ∀ u a, (f u a).core = u.core) (s : State)
    (l : List α) : (l.foldl f s).core = s.core := s.each_core hf l

theorem State.foldlSnd_core {α β : Type} {f : β × State → α → β × State} (hf : ∀ q a, (f q a).2.core = q.2.core)
    (l : List α) (p : β × State) : (l.foldl f p).2.core = p.2.core :=
  List.foldlRecOn l f (motive := fun q => q.2.core = p.2.core) rfl fun q hq a _ => (hf q a).trans hq

theorem State.foldlSnd2_core {α β γ : Type} {f : β × γ × State → α → β × γ × State}
    (hf : ∀ q a, (f q a).2.2.core = q.2.2.core) (l : List α) (p : β × γ × State) :
    (l.foldl f p).2.2.core = p.2.2.core :=
  List.foldlRecOn l f (motive := fun q => q.2.2.core = p.2.2.core) rfl fun q hq a _ => (hf q a).trans hq

/-- The state that an operation answers beside a value. -/
theorem State.core_of_snd {α : Type} {p : α × State} {x : α} {t : State} {c : (Nat × Nat × Nat) × Tap}
    (e : p = (x, t)) (h : p.2.core = c) : t.core = c := by
  rw [e] at h
  exact h

@[simp] theorem State.atEdge_core {f : State → State} (hf : ∀ u, (f u).core = u.core) (s : State) (a : EdgeAct) :
    (s.atEdge a f).core = s.core := by
  unfold State.atEdge
  split
  · simp
  · exact hf s

@[simp] theorem State.assayRunEnd_core (s : State) : (State.assayRunEnd s).core = s.core := by
  unfold State.assayRunEnd
  split
  all_goals simp

@[simp] theorem State.assayStop_core (s : State) : (State.assayStop s).core = s.core := by simp [State.assayStop]

@[simp] theorem State.assayCheck_core (s : State) : (State.assayCheck s).core = s.core := by
  unfold State.assayCheck
  split
  all_goals simp

@[simp] theorem State.setEngine_core (s : State) (i : Nat) (g : Engine) : (State.setEngine s i g).core = s.core := by
  simp [State.setEngine]

@[simp] theorem State.leRefused_core (s : State) (i : Nat) : (State.leRefused s i).core = s.core := by
  simp [State.leRefused]

@[simp] theorem leCommit_core (i : Nat) (s : State) : (leCommit i s).core = s.core := by simp [leCommit]

@[simp] theorem leUseHost_core (i : Nat) (v : Bool) (s : State) : (leUseHost i v s).core = s.core := by simp [leUseHost]

@[simp] theorem State.capture_core (s : State) (i loop : Nat) (y e : Int) (u : Nat) :
    (State.capture s i loop y e u).core = s.core := by
  unfold State.capture
  dsimp only
  repeat' split
  all_goals simp [*]

@[simp] theorem State.injAbort_core (s : State) (i : Nat) : (State.injAbort s i).core = s.core := by
  simp [State.injAbort]

@[simp] theorem injDone_core (i : Nat) (s : State) : (injDone i s).core = s.core := by simp [injDone]

@[simp] theorem State.injRequest_core (s : State) (i loop : Nat) : (State.injRequest s i loop).core = s.core := by
  simp [State.injRequest]

@[simp] theorem State.setUnit_core (s : State) (u : Nat) (p : PUnit) : (State.setUnit s u p).core = s.core := by
  simp [State.setUnit]

@[simp] theorem State.setRole_core (s : State) (u r : Nat) : (State.setRole s u r).core = s.core := by
  simp [State.setRole]

@[simp] theorem State.setLoop_core (s : State) (u : Nat) (l : Loop) : (State.setLoop s u l).core = s.core := by
  simp [State.setLoop]

@[simp] theorem State.swapRestart_core (s : State) : (State.swapRestart s).core = s.core := by simp [State.swapRestart]

@[simp] theorem State.swapPeriod_core (s : State) (p : Nat) : (State.swapPeriod s p).core = s.core := by
  unfold State.swapPeriod
  repeat' first
    | with_reducible rfl
    | split
    | with_reducible refine (State.iff_core (fun _ => ?_) _ _).trans ?_
    | with_reducible refine (State.set_core ..).trans ?_

@[simp] theorem State.swapSchedule_core (s : State) : (State.swapSchedule s).core = s.core := by
  simp [State.swapSchedule]

@[simp] theorem State.swapOver_core (s : State) : (State.swapOver s).core = s.core := by simp [State.swapOver]

@[simp] theorem State.openLoop_core (s : State) (u : Nat) : (State.openLoop s u).core = s.core := by
  simp [State.openLoop]

@[simp] theorem State.swapBreak_core (s : State) (u : Nat) : (State.swapBreak s u).core = s.core := by
  simp [State.swapBreak]

@[simp] theorem State.stopUnit_core (s : State) (u : Nat) : (State.stopUnit s u).core = s.core := by
  simp [State.stopUnit]

@[simp] theorem State.convCheck_core (s : State) : (State.convCheck s).core = s.core := by simp [State.convCheck]

@[simp] theorem State.takeOver_core (s : State) (n : Nat) : (State.takeOver s n).core = s.core := by
  simp [State.takeOver]

@[simp] theorem State.failover_core (s : State) (o : Nat) : (State.failover s o).core = s.core := by
  unfold State.failover
  repeat' first
    | with_reducible rfl
    | split
    | with_reducible refine (State.convCheck_core ..).trans ?_
    | with_reducible refine (State.countWrap_core ..).trans ?_
    | with_reducible refine (State.raise_core ..).trans ?_
    | with_reducible refine (State.stopUnit_core ..).trans ?_
    | with_reducible refine (State.swapRestart_core ..).trans ?_
    | with_reducible refine (State.takeOver_core ..).trans ?_
    | with_reducible refine State.core_of_ite ?_ ?_

@[simp] theorem State.dropUnit_core (s : State) (u : Nat) : (State.dropUnit s u).core = s.core := by
  simp [State.dropUnit]

@[simp] theorem State.unitFault_core (s : State) (u cause : Nat) : (State.unitFault s u cause).core = s.core := by
  simp [State.unitFault]

@[simp] theorem State.standby_core (s : State) (u : Nat) : (State.standby s u).core = s.core := by
  unfold State.standby
  repeat' first
    | with_reducible rfl
    | split
    | with_reducible refine (State.raise_core ..).trans ?_
    | with_reducible refine (State.set_core ..).trans ?_
    | with_reducible refine (State.setLoop_core ..).trans ?_
    | with_reducible refine (State.setRole_core ..).trans ?_
    | with_reducible refine (State.setUnit_core ..).trans ?_

@[simp] theorem State.startUnit_core (s : State) (u : Nat) : (State.startUnit s u).core = s.core := by
  simp [State.startUnit]

@[simp] theorem State.svHold_core (s : State) (f : Fld) : (State.svHold s f).core = s.core := by simp [State.svHold]

@[simp] theorem State.svDiscard_core (s : State) : (State.svDiscard s).core = s.core := by simp [State.svDiscard]

@[simp] theorem State.returnUnit_core (s : State) (u : Nat) : (State.returnUnit s u).core = s.core := by
  simp [State.returnUnit]

@[simp] theorem State.convStart_core (s : State) : (State.convStart s).core = s.core := by simp [State.convStart]

@[simp] theorem State.unitDown_core (s : State) (u : Nat) : (State.unitDown s u).core = s.core := by
  simp [State.unitDown]

@[simp] theorem feedQualified_core (u : Nat) (s : State) : (feedQualified u s).core = s.core := by simp [feedQualified]

@[simp] theorem feedOutOfRange_core (u : Nat) (s : State) : (feedOutOfRange u s).core = s.core := by
  simp [feedOutOfRange]

@[simp] theorem State.copyState_core (s : State) (u : Nat) : (State.copyState s u).core = s.core := by
  simp [State.copyState]

@[simp] theorem State.overrun_core (s : State) (u : Nat) (y : Int) : (State.overrun s u y).core = s.core := by
  simp [State.overrun]

@[simp] theorem State.lawSample_core (s : State) (u : Nat) (y ff : Int) (test : Bool) :
    (State.lawSample s u y ff test).core = s.core := by
  unfold State.lawSample
  dsimp only
  split
  all_goals simp

@[simp] theorem State.currentLimit_core (s : State) (u : Nat) (limited : Bool) :
    (State.currentLimit s u limited).core = s.core := by simp [State.currentLimit]

@[simp] theorem State.shadowSample_core (s : State) (u : Nat) (y ff : Int) :
    (State.shadowSample s u y ff).core = s.core := by simp [State.shadowSample]

@[simp] theorem State.standbyWatch_core (s : State) (u : Nat) (y : Int) : (State.standbyWatch s u y).core = s.core := by
  simp [State.standbyWatch]

@[simp] theorem loopSample_core (u : Nat) (y ff : Int) (parityOk overrun limited : Bool) (s : State) :
    (loopSample u y ff parityOk overrun limited s).core = s.core := by
  unfold loopSample
  repeat' first
    | with_reducible rfl
    | split
    | with_reducible refine (State.copyState_core ..).trans ?_
    | with_reducible refine (State.currentLimit_core ..).trans ?_
    | with_reducible refine (State.iff_core (fun _ => ?_) _ _).trans ?_
    | with_reducible refine (State.lawSample_core ..).trans ?_
    | with_reducible refine (State.overrun_core ..).trans ?_
    | with_reducible refine (State.set_core ..).trans ?_
    | with_reducible refine (State.setUnit_core ..).trans ?_
    | with_reducible refine (State.shadowSample_core ..).trans ?_
    | with_reducible refine (State.standbyWatch_core ..).trans ?_
    | with_reducible refine (State.unitFault_core ..).trans ?_
    | with_reducible refine State.core_of_ite ?_ ?_

@[simp] theorem heartbeatLost_core (u : Nat) (s : State) : (heartbeatLost u s).core = s.core := by simp [heartbeatLost]

@[simp] theorem arbiterLost_core (u : Nat) (fault : Bool) (s : State) : (arbiterLost u fault s).core = s.core := by
  unfold arbiterLost
  repeat' first
    | with_reducible rfl
    | split
    | with_reducible refine (State.iff_core (fun _ => ?_) _ _).trans ?_
    | with_reducible refine (State.set_core ..).trans ?_
    | with_reducible refine (State.swapOver_core ..).trans ?_
    | with_reducible refine State.core_of_ite ?_ ?_

@[simp] theorem arbiterHeartbeatRegained_core (u : Nat) (s : State) : (arbiterHeartbeatRegained u s).core = s.core := by
  unfold arbiterHeartbeatRegained
  repeat' first
    | with_reducible rfl
    | split
    | with_reducible refine (State.iff_core (fun _ => ?_) _ _).trans ?_
    | with_reducible refine (State.set_core ..).trans ?_

@[simp] theorem copyLink_core (s : State) : (copyLink s).core = s.core := by simp [copyLink]

@[simp] theorem stateCopyLinkUp_core (s : State) : (stateCopyLinkUp s).core = s.core := by simp [stateCopyLinkUp]

@[simp] theorem midBusUndervoltage_core (s : State) : (midBusUndervoltage s).core = s.core := by
  simp [midBusUndervoltage]

@[simp] theorem busFault_core (s : State) : (busFault s).core = s.core := by simp [busFault]

@[simp] theorem unitOvertemperature_core (u : Nat) (s : State) : (unitOvertemperature u s).core = s.core := by
  simp [unitOvertemperature]

@[simp] theorem puTempWarning_core (u : Nat) (s : State) : (puTempWarning u s).core = s.core := by simp [puTempWarning]

@[simp] theorem swapTimerExpiry_core (s : State) : (swapTimerExpiry s).core = s.core := by simp [swapTimerExpiry]

@[simp] theorem swapNow_core (s : State) : (swapNow s).core = s.core := by simp [swapNow]

@[simp] theorem swapOverdue_core (s : State) : (swapOverdue s).core = s.core := by simp [swapOverdue]

@[simp] theorem swapPermit_core (s : State) : (swapPermit s).core = s.core := by simp [swapPermit]

@[simp] theorem swapHandover_core (s : State) : (swapHandover s).core = s.core := by
  unfold swapHandover
  repeat' first
    | with_reducible rfl
    | split
    | with_reducible refine (State.countWrap_core ..).trans ?_
    | with_reducible refine (State.iff_core (fun _ => ?_) _ _).trans ?_
    | with_reducible refine (State.openLoop_core ..).trans ?_
    | with_reducible refine (State.raise_core ..).trans ?_
    | with_reducible refine (State.set_core ..).trans ?_
    | with_reducible refine (State.setRole_core ..).trans ?_
    | with_reducible refine (State.setUnit_core ..).trans ?_
    | with_reducible refine (State.swapOver_core ..).trans ?_
    | with_reducible refine State.core_of_ite ?_ ?_
    | (with_reducible refine (State.core_mk ..).trans ?_; rw [State.core_def])

@[simp] theorem swapDone_core (s : State) : (swapDone s).core = s.core := by
  unfold swapDone
  repeat' first
    | with_reducible rfl
    | split
    | with_reducible refine (State.countWrap_core ..).trans ?_
    | with_reducible refine (State.raise_core ..).trans ?_
    | with_reducible refine (State.set_core ..).trans ?_
    | with_reducible refine (State.setUnit_core ..).trans ?_
    | with_reducible refine (State.swapOver_core ..).trans ?_
    | with_reducible refine (State.swapRestart_core ..).trans ?_
    | with_reducible refine State.core_of_ite ?_ ?_
    | (with_reducible refine (State.core_mk ..).trans ?_; rw [State.core_def])

@[simp] theorem puOut_core (u : Nat) (out : Bool) (s : State) : (puOut u out s).core = s.core := by simp [puOut]

@[simp] theorem puFaultClear_core (u : Nat) (s : State) : (puFaultClear u s).core = s.core := by simp [puFaultClear]

@[simp] theorem lastUnitRestart_core (again : Bool) (s : State) : (lastUnitRestart again s).core = s.core := by
  simp [lastUnitRestart]

@[simp] theorem State.arbSafe_core (s : State) (sense : Nat) : (State.arbSafe s sense).core = s.core := by
  simp [State.arbSafe]

@[simp] theorem State.outputsOff_core (s : State) : (State.outputsOff s).core = s.core := by simp [State.outputsOff]

@[simp] theorem State.biasShutdown_core (s : State) : (State.biasShutdown s).core = s.core := by
  unfold State.biasShutdown
  repeat' first
    | with_reducible rfl
    | split
    | with_reducible refine (State.countWrap_core ..).trans ?_
    | with_reducible refine (State.iff_core (fun _ => ?_) _ _).trans ?_
    | with_reducible refine (State.outputsOff_core ..).trans ?_
    | with_reducible refine (State.set_core ..).trans ?_
    | with_reducible refine State.core_of_ite ?_ ?_
    | (with_reducible refine (State.core_mk ..).trans ?_; rw [State.core_def])

@[simp] theorem State.guardFault_core (s : State) (f : Fld) : (State.guardFault s f).core = s.core := by
  simp [State.guardFault]

@[simp] theorem State.biasStart_core (s : State) : (State.biasStart s).core = s.core := by simp [State.biasStart]

@[simp] theorem State.biasDown_core (s : State) : (State.biasDown s).core = s.core := by simp [State.biasDown]

@[simp] theorem State.judge_core (s : State) : (State.judge s).core = s.core := by simp [State.judge]

@[simp] theorem State.proofRestart_core (s : State) : (State.proofRestart s).core = s.core := by
  simp [State.proofRestart]

@[simp] theorem State.setRaw_core (s : State) (side : Nat) (closed : Bool) :
    (State.setRaw s side closed).core = s.core := by simp [State.setRaw]

@[simp] theorem channelOpen_core (side : Nat) (s : State) : (channelOpen side s).core = s.core := by simp [channelOpen]

@[simp] theorem channelClosed_core (side : Nat) (s : State) : (channelClosed side s).core = s.core := by
  simp [channelClosed]

@[simp] theorem interlockDarkPulse_core (_side : Nat) (s : State) : (interlockDarkPulse _side s).core = s.core := by
  simp [interlockDarkPulse]

@[simp] theorem pulseMissing_core (side : Nat) (s : State) : (pulseMissing side s).core = s.core := by
  simp [pulseMissing]

@[simp] theorem chatter_core (side : Nat) (s : State) : (chatter side s).core = s.core := by simp [chatter]

@[simp] theorem chatterEnd_core (side : Nat) (s : State) : (chatterEnd side s).core = s.core := by simp [chatterEnd]

@[simp] theorem discrepancy_core (s : State) : (discrepancy s).core = s.core := by simp [discrepancy]

@[simp] theorem guardProof_core (s : State) : (guardProof s).core = s.core := by simp [guardProof]

@[simp] theorem biasEnable_core (s : State) : (biasEnable s).core = s.core := by
  unfold biasEnable
  split
  all_goals simp

@[simp] theorem biasDisable_core (s : State) : (biasDisable s).core = s.core := by simp [biasDisable]

end Sys2Proof.Machine
end

section
/-! SUPPORT. Operations that leave machine time and the test access port: guard, protection, plate and hit store. -/

namespace Sys2Proof.Machine

open Sys2Proof

@[simp] theorem biasFbChange_core (closed masked : Bool) (s : State) :
    (biasFbChange closed masked s).core = s.core := by
  unfold biasFbChange
  dsimp only
  split
  all_goals simp

@[simp] theorem fbEnableTimeout_core (s : State) : (fbEnableTimeout s).core = s.core := by simp [fbEnableTimeout]

@[simp] theorem fbDisableTimeout_core (s : State) : (fbDisableTimeout s).core = s.core := by simp [fbDisableTimeout]

@[simp] theorem darkTestPulse_core (side : Nat) (s : State) : (darkTestPulse side s).core = s.core := by
  simp [darkTestPulse]

@[simp] theorem darkPulseEnd_core (side : Nat) (sawLow backHigh : Bool) (s : State) :
    (darkPulseEnd side sawLow backHigh s).core = s.core := by simp [darkPulseEnd]

@[simp] theorem strapSample_core (straps : Nat) (s : State) : (strapSample straps s).core = s.core := by
  simp [strapSample]

@[simp] theorem clkFault_core (s : State) : (clkFault s).core = s.core := by simp [clkFault]

@[simp] theorem supervisorClockReturn_core (s : State) : (supervisorClockReturn s).core = s.core := by
  simp [supervisorClockReturn]

@[simp] theorem State.guardSafe_core (s : State) : (State.guardSafe s).core = s.core := by simp [State.guardSafe]

@[simp] theorem State.setMark_core (s : State) (m i v : Nat) : (State.setMark s m i v).core = s.core := by
  simp [State.setMark]

@[simp] theorem State.clearMarks_core (s : State) (m : Nat) (p : Nat → Bool) :
    (State.clearMarks s m p).core = s.core := by simp [State.clearMarks]

@[simp] theorem State.eccLast_core (s : State) (kind found m i : Nat) :
    (State.eccLast s kind found m i).core = s.core := by simp [State.eccLast]

@[simp] theorem State.countClass_core (s : State) (cls k : Nat) : (State.countClass s cls k).core = s.core := by
  simp [State.countClass]

@[simp] theorem State.eccUncorr_core (s : State) (found m i : Nat) : (State.eccUncorr s found m i).core = s.core := by
  simp [State.eccUncorr]

@[simp] theorem State.repairWrite_core (s : State) (m i v : Nat) : (State.repairWrite s m i v).core = s.core := by
  unfold State.repairWrite
  split
  all_goals simp

@[simp] theorem State.repairFree_core (s : State) (e : Nat) : (State.repairFree s e).core = s.core := by
  simp [State.repairFree]

@[simp] theorem State.repairFreeAll_core (s : State) (m : Nat) (p : Nat → Bool) :
    (State.repairFreeAll s m p).core = s.core := by simp [State.repairFreeAll]

@[simp] theorem State.repairFails_core (s : State) (m i : Nat) : (State.repairFails s m i).core = s.core := by
  unfold State.repairFails
  split
  all_goals simp

@[simp] theorem State.critTag_core (s : State) (die w tag : Nat) : (State.critTag s die w tag).core = s.core := by
  simp [State.critTag]

@[simp] theorem State.critNext_core (s : State) (w : Nat) : (State.critNext s w).core = s.core := by
  simp [State.critNext]

@[simp] theorem State.histFrom_core (s : State) (u : Nat) (b : Bkt) : (State.histFrom s u b).core = s.core := by
  simp [State.histFrom]

@[simp] theorem State.histOpen_core (s : State) (u : Nat) : (State.histOpen s u).core = s.core := by
  simp [State.histOpen]

@[simp] theorem State.histClose_core (s : State) (p : Nat → Bool) : (State.histClose s p).core = s.core := by
  simp [State.histClose]

@[simp] theorem State.quarBit_core (s : State) (f : Nat) (b : Bool) : (State.quarBit s f b).core = s.core := by
  simp [State.quarBit]

@[simp] theorem State.quarUnit_core (s : State) (f : Nat) (b : Bool) : (State.quarUnit s f b).core = s.core := by
  simp [State.quarUnit]

@[simp] theorem State.quarantine_core (s : State) (u cause : Nat) : (State.quarantine s u cause).core = s.core := by
  simp [State.quarantine]

@[simp] theorem State.plateUncorr_core (s : State) (f cause : Nat) : (State.plateUncorr s f cause).core = s.core := by
  simp [State.plateUncorr]

@[simp] theorem State.plateWrite_core (s : State) (idx v : Nat) : (State.plateWrite s idx v).core = s.core := by
  simp [State.plateWrite]

@[simp] theorem State.fillPlate_core (s : State) : (State.fillPlate s).core = s.core := by
  unfold State.fillPlate
  split
  all_goals simp

@[simp] theorem State.bufPlatePut_core (s : State) (idx mask data : Nat) :
    (State.bufPlatePut s idx mask data).core = s.core := by
  unfold State.bufPlatePut
  split
  all_goals simp

@[simp] theorem State.errFrame_core (s : State) (f : Nat) : (State.errFrame s f).core = s.core := by
  simp [State.errFrame]

@[simp] theorem State.setBadFrames_core (s : State) (l : List (Nat × Bool)) :
    (State.setBadFrames s l).core = s.core := by simp [State.setBadFrames]

@[simp] theorem State.badFrame_core (s : State) (f err : Nat) : (State.badFrame s f err).core = s.core := by
  simp [State.badFrame]

@[simp] theorem plateOpen_core (s : State) : (plateOpen s).core = s.core := by simp [plateOpen]

@[simp] theorem plateClearDone_core (s : State) : (plateClearDone s).core = s.core := by simp [plateClearDone]

@[simp] theorem plateAbort_core (s : State) : (plateAbort s).core = s.core := by simp [plateAbort]

@[simp] theorem plateFcrcWrite_core (frame crc : Nat) (s : State) : (plateFcrcWrite frame crc s).core = s.core := by
  unfold plateFcrcWrite
  split
  all_goals simp

@[simp] theorem State.frameEnd_core (s : State) (f : Nat) : (State.frameEnd s f).core = s.core := by
  simp [State.frameEnd]

@[simp] theorem State.orderViolation_core (s : State) : (State.orderViolation s).core = s.core := by
  simp [State.orderViolation]

@[simp] theorem plateWindowWrite_core (addr data be : Nat) (s : State) :
    (plateWindowWrite addr data be s).core = s.core := by
  unfold plateWindowWrite
  repeat' split
  all_goals simp

@[simp] theorem plateCommit_core (lane : Option Nat) (s : State) : (plateCommit lane s).core = s.core := by
  simp [plateCommit]

@[simp] theorem State.commitFail_core (s : State) (err check frame : Nat) :
    (State.commitFail s err check frame).core = s.core := by simp [State.commitFail]

@[simp] theorem State.commitLoad_core (s : State) : (State.commitLoad s).core = s.core := by
  unfold State.commitLoad
  repeat' first
    | with_reducible rfl
    | split
    | with_reducible refine (State.critNext_core ..).trans ?_
    | with_reducible refine (State.each_core (fun _ _ => ?_) _ _).trans ?_
    | with_reducible refine (State.histClose_core ..).trans ?_
    | with_reducible refine (State.set_core ..).trans ?_
    | (with_reducible refine (State.core_mk ..).trans ?_; rw [State.core_def])

@[simp] theorem reloadGo_core (first count : Nat) (s : State) : (reloadGo first count s).core = s.core := by
  unfold reloadGo
  dsimp only
  repeat' split
  all_goals simp

@[simp] theorem reloadCancel_core (s : State) : (reloadCancel s).core = s.core := by simp [reloadCancel]

@[simp] theorem State.reloadWrite_core (s : State) (readBackOk : Bool) :
    (State.reloadWrite s readBackOk).core = s.core := by simp [State.reloadWrite]

@[simp] theorem State.failedFrame_core (s : State) : (State.failedFrame s).2.core = s.core := by
  unfold State.failedFrame
  split
  all_goals simp

@[simp] theorem State.quarKeep_core (s : State) (f : Nat) : (State.quarKeep s f).core = s.core := by
  simp [State.quarKeep]

@[simp] theorem State.reloadEnd_core (s : State) : (State.reloadEnd s).core = s.core := by simp [State.reloadEnd]

@[simp] theorem stageWrite_core (addr data be : Nat) (s : State) : (stageWrite addr data be s).core = s.core := by
  simp [stageWrite]

@[simp] theorem State.setDesc_core (s : State) (k : Nat) (d : Desc) : (State.setDesc s k d).core = s.core := by
  simp [State.setDesc]

@[simp] theorem State.putDesc_core (s : State) (at_ : DescAt) (d : Desc) : (State.putDesc s at_ d).core = s.core := by
  unfold State.putDesc
  split
  all_goals simp

@[simp] theorem State.setLink_core (s : State) (r v : Nat) : (State.setLink s r v).core = s.core := by
  simp [State.setLink]

@[simp] theorem State.setFree_core (s : State) : (State.setFree s).core = s.core := by simp [State.setFree]

@[simp] theorem State.freeRowList_core (s : State) (rows : List Nat) : (State.freeRowList s rows).core = s.core := by
  simp [State.freeRowList]

@[simp] theorem State.freeBucket_core (s : State) (d : Desc) : (State.freeBucket s d).core = s.core := by
  simp [State.freeBucket]

@[simp] theorem State.depthUpdate_core (s : State) : (State.depthUpdate s).core = s.core := by simp [State.depthUpdate]

@[simp] theorem State.unpin_core (s : State) (b : Bkt) : (State.unpin s b).core = s.core := by
  unfold State.unpin
  split
  all_goals simp

@[simp] theorem State.ageOutSlot_core (s : State) (k : Nat) : (State.ageOutSlot s k).core = s.core := by
  unfold State.ageOutSlot
  split
  all_goals simp

@[simp] theorem State.chainErr_core (s : State) (lost : Nat) : (State.chainErr s lost).core = s.core := by
  simp [State.chainErr]

@[simp] theorem State.descBroken_core (s : State) (a : DescAt) (d : Desc) : (State.descBroken s a d).core = s.core := by
  unfold State.descBroken
  repeat' first
    | with_reducible rfl
    | split
    | with_reducible refine (State.chainErr_core ..).trans ?_
    | with_reducible refine (State.repairFails_core ..).trans ?_
    | with_reducible refine (State.set_core ..).trans ?_
    | with_reducible refine (State.setDesc_core ..).trans ?_
    | (with_reducible refine (State.core_mk ..).trans ?_; rw [State.core_def])

@[simp] theorem State.linkBroken_core (s : State) (r : Nat) : (State.linkBroken s r).core = s.core := by
  unfold State.linkBroken
  dsimp only
  repeat' split
  all_goals simp

@[simp] theorem ageOut_core (desc : Bool) (link : Option Nat) (s : State) : (ageOut desc link s).core = s.core := by
  unfold ageOut
  repeat' split
  all_goals simp

@[simp] theorem State.flushStart_core (s : State) : (State.flushStart s).core = s.core := by simp [State.flushStart]

@[simp] theorem State.updReady_core (s : State) : (State.updReady s).core = s.core := by simp [State.updReady]

@[simp] theorem State.flushEnd_core (s : State) : (State.flushEnd s).core = s.core := by simp [State.flushEnd]

@[simp] theorem State.hqRefused_core (s : State) : (State.hqRefused s).core = s.core := by simp [State.hqRefused]

@[simp] theorem depthReset_core (s : State) : (depthReset s).core = s.core := by simp [depthReset]

@[simp] theorem State.sealFront_core (s : State) : (State.sealFront s).core = s.core := by
  unfold State.sealFront
  split
  all_goals simp

@[simp] theorem State.fullDrop_core (s : State) : (State.fullDrop s).core = s.core := by
  unfold State.fullDrop
  split
  all_goals simp

@[simp] theorem State.writeEntry_core (s : State) (bank row v : Nat) :
    (State.writeEntry s bank row v).core = s.core := by simp [State.writeEntry]

@[simp] theorem State.writeRow_core (s : State) (r : Nat) : (State.writeRow s r).core = s.core := by
  unfold State.writeRow
  split
  all_goals simp

@[simp] theorem State.sealBucket_core (s : State) (b : Bkt) (absent : Nat) :
    (State.sealBucket s b absent).1.core = s.core := by
  unfold State.sealBucket
  repeat' first
    | with_reducible rfl
    | split
    | with_reducible refine (State.count_core ..).trans ?_
    | with_reducible refine (State.setDesc_core ..).trans ?_
    | with_reducible refine State.core_of_ite ?_ ?_
    | (with_reducible refine (State.core_mk ..).trans ?_; rw [State.core_def])

@[simp] theorem State.setBanks_core (s : State) (inService clearing : Nat) :
    (State.setBanks s inService clearing).core = s.core := by simp [State.setBanks]

@[simp] theorem State.loseBanks_core (s : State) (out : Nat) : (State.loseBanks s out).core = s.core := by
  simp [State.loseBanks]

@[simp] theorem State.wantBanks_core (s : State) (want : Nat) : (State.wantBanks s want).core = s.core := by
  simp [State.wantBanks]

@[simp] theorem State.retireBanks_core (s : State) : (State.retireBanks s).core = s.core := by simp [State.retireBanks]

@[simp] theorem bankRetire_core (mask : Nat) (s : State) : (bankRetire mask s).core = s.core := by simp [bankRetire]

@[simp] theorem State.commitBanks_core (s : State) : (State.commitBanks s).core = s.core := by simp [State.commitBanks]

@[simp] theorem State.bankJoins_core (s : State) (bank : Nat) : (State.bankJoins s bank).core = s.core := by
  simp [State.bankJoins]

@[simp] theorem bankClearDone_core (bank : Nat) (s : State) : (bankClearDone bank s).core = s.core := by
  simp [bankClearDone]

@[simp] theorem State.halfRowLasting_core (s : State) (d row : Nat) : (State.halfRowLasting s d row).core = s.core := by
  simp [State.halfRowLasting]

@[simp] theorem rowSpared_core (die row : Nat) (s : State) : (rowSpared die row s).core = s.core := by simp [rowSpared]

@[simp] theorem State.readEntry_core (s : State) (row bank : Nat) : (State.readEntry s row bank).2.core = s.core := by
  unfold State.readEntry
  repeat' split
  all_goals simp

theorem State.pin_core {s : State} {b : Bkt} {t : State} (h : s.pin b = some t) : t.core = s.core := by
  unfold State.pin at h
  split at h
  · split at h
    · cases h
      simp
    · cases h
  · cases h

theorem State.reclaim_core {s : State} {t : State} (h : s.reclaim = some t) : t.core = s.core := by
  unfold State.reclaim at h
  split at h
  · cases h
  · cases h
    simp

theorem State.takeRow_core {s : State} {row r : Nat} {t : State} (h : s.takeRow row = some (r, t)) :
    t.core = s.core := by
  unfold State.takeRow at h
  split at h
  · split at h
    · cases h
      simp
    · cases h
  · split at h
    · cases h
      simp
    · cases h

theorem State.reclaimRow_core {row : Nat} (n : Nat) (s : State) :
    (State.reclaimRow row n s).2.core = s.core ∧
      ∀ r t, (State.reclaimRow row n s).1 = some (r, t) → t.core = s.core := by
  induction n generalizing s with
  | zero =>
    rw [State.reclaimRow]
    exact ⟨rfl, by simp⟩
  | succ n ih =>
    rw [State.reclaimRow]
    split
    · exact ⟨rfl, by simp⟩
    next t ht =>
      have hcore := State.reclaim_core ht
      split
      · exact ⟨hcore, fun r u hu => (State.takeRow_core hu).trans hcore⟩
      · exact ⟨(ih t).1.trans hcore, fun r u hu => ((ih t).2 r u hu).trans hcore⟩

@[simp] theorem storeRowWrite_core (row : Nat) (s : State) : (storeRowWrite row s).core = s.core := by
  unfold storeRowWrite
  split
  · rfl
  · split
    · rfl
    · split
      · exact s.fullDrop_core
      · split
        · have hrow := State.reclaimRow_core (row := row) (s.store.desc.length + s.store.keep.length) s
          split
          next r t _ e => exact (t.writeRow_core r).trans (hrow.2 r t (congrArg Prod.fst e))
          next t e => exact t.fullDrop_core.trans (State.core_of_snd e hrow.1)
        · split
          next r t e => exact (t.writeRow_core r).trans (State.takeRow_core e)
          next => rfl

@[simp] theorem State.readRow_core (s : State) (row : Nat) : (s.readRow row).2.2.core = s.core := by
  unfold State.readRow
  refine (State.foldlSnd2_core (fun q k => ?_) _ _).trans rfl
  split
  next e => exact State.core_of_snd e (q.2.2.readEntry_core row k)
  next e => exact State.core_of_snd e (q.2.2.readEntry_core row k)

@[simp] theorem State.readBucket_core (s : State) (d : Desc) : (s.readBucket d).2.2.core = s.core := by
  unfold State.readBucket
  refine (State.foldlSnd_core (fun q row => ?_) _ _).trans ?_
  · exact q.2.readRow_core row.1
  · rfl

end Sys2Proof.Machine
end

section
/-! SUPPORT. Operations that leave machine time and the test access port: triggers, fragments, records and channels. -/

namespace Sys2Proof.Machine

open Sys2Proof

@[simp] theorem State.tgSee_core (s : State) (orbit w : Nat) (late : Bool) :
    (State.tgSee s orbit w late).core = s.core := by simp [State.tgSee]

@[simp] theorem State.setExp_core (s : State) (c t : Nat) (b : Bool) : (State.setExp s c t b).core = s.core := by
  simp [State.setExp]

@[simp] theorem State.setTimer_core (s : State) (c t v : Nat) : (State.setTimer s c t v).core = s.core := by
  simp [State.setTimer]

@[simp] theorem State.chaserReset_core (s : State) (c : Nat) : (State.chaserReset s c).core = s.core := by
  unfold State.chaserReset
  repeat' first
    | with_reducible rfl
    | split
    | with_reducible refine (State.each_core (fun _ _ => ?_) _ _).trans ?_
    | with_reducible refine (State.set_core ..).trans ?_
    | with_reducible refine (State.setExp_core ..).trans ?_
    | with_reducible refine (State.setTimer_core ..).trans ?_

@[simp] theorem State.timerTick_core (s : State) (c t : Nat) : (State.timerTick s c t).core = s.core := by
  simp [State.timerTick]

@[simp] theorem State.cntAct_core (s : State) (c k a : Nat) : (State.cntAct s c k a).core = s.core := by
  simp [State.cntAct]

@[simp] theorem State.tmrAct_core (s : State) (c t a : Nat) : (State.tmrAct s c t a).core = s.core := by
  unfold State.tmrAct
  split
  all_goals simp

@[simp] theorem State.chaserTake_core (s : State) (c : Nat) (t : Option Nat) :
    (State.chaserTake s c t).core = s.core := by
  unfold State.chaserTake
  split
  all_goals simp

@[simp] theorem State.setQueue_core (s : State) (q : List Trig) : (State.setQueue s q).core = s.core := by
  simp [State.setQueue]

@[simp] theorem State.takeLocal_core (s : State) : (State.takeLocal s).2.core = s.core := by simp [State.takeLocal]

@[simp] theorem State.setLocal_core (s : State) (n : Nat) : (State.setLocal s n).core = s.core := by
  simp [State.setLocal]

@[simp] theorem State.openRecord_core (s : State) (p : Bkt) (c k : Nat) : (State.openRecord s p c k).core = s.core := by
  simp [State.openRecord]

@[simp] theorem State.takeAccept_core (s : State) (body : Nat) : (State.takeAccept s body).core = s.core := by
  simp [State.takeAccept]

@[simp] theorem State.takeArrived_core (s : State) (n : Nat) : (State.takeArrived s n).core = s.core := by
  simp [State.takeArrived]

@[simp] theorem acceptCommand_core (body : Nat) (s : State) : (acceptCommand body s).core = s.core := by
  simp [acceptCommand]

@[simp] theorem State.updConflict_core (s : State) : (State.updConflict s).core = s.core := by
  unfold State.updConflict
  repeat' first
    | with_reducible rfl
    | split
    | with_reducible refine (State.flag_core ..).trans ?_
    | with_reducible refine (State.iff_core (fun _ => ?_) _ _).trans ?_
    | with_reducible refine (State.set_core ..).trans ?_

@[simp] theorem State.setLane_core (s : State) (n : Nat) (l : Lane) : (State.setLane s n l).core = s.core := by
  simp [State.setLane]

@[simp] theorem State.setPath_core (s : State) (p : Nat) (d : DPath) : (State.setPath s p d).core = s.core := by
  simp [State.setPath]

@[simp] theorem State.lineSeed_core (s : State) : (State.lineSeed s).2.core = s.core := by simp [State.lineSeed]

@[simp] theorem State.sendCredit_core (s : State) (p : Nat) : (State.sendCredit s p).core = s.core := by
  simp [State.sendCredit]

@[simp] theorem State.creditsDue_core (s : State) : (State.creditsDue s).core = s.core := by simp [State.creditsDue]

@[simp] theorem State.busyJudge_core (s : State) : (State.busyJudge s).core = s.core := by simp [State.busyJudge]

@[simp] theorem State.busyEval_core (s : State) : (State.busyEval s).core = s.core := by simp [State.busyEval]

@[simp] theorem State.takeCtx_core (s : State) (c : Nat) : (State.takeCtx s c).core = s.core := by simp [State.takeCtx]

@[simp] theorem State.giveCtx_core (s : State) (c : Nat) : (State.giveCtx s c).core = s.core := by simp [State.giveCtx]

@[simp] theorem State.takeBlocks_core (s : State) (n : Nat) : (State.takeBlocks s n).core = s.core := by
  simp [State.takeBlocks]

@[simp] theorem State.giveBlocks_core (s : State) (n : Nat) : (State.giveBlocks s n).core = s.core := by
  simp [State.giveBlocks]

@[simp] theorem State.pushFrag_core (s : State) (f : Frag) : (State.pushFrag s f).core = s.core := by
  simp [State.pushFrag]

@[simp] theorem State.mapFrag_core (s : State) (id : Nat) (g : Frag → Frag) : (State.mapFrag s id g).core = s.core := by
  simp [State.mapFrag]

@[simp] theorem State.fragReady_core (s : State) (id : Nat) (body : List Nat) (blocks : Nat) :
    (State.fragReady s id body blocks).core = s.core := by simp [State.fragReady]

@[simp] theorem State.fragLost_core (s : State) (f : Frag) : (State.fragLost s f).core = s.core := by
  unfold State.fragLost
  repeat' first
    | with_reducible rfl
    | split
    | with_reducible refine (State.count_core ..).trans ?_
    | with_reducible refine (State.flag_core ..).trans ?_
    | with_reducible refine (State.fragReady_core ..).trans ?_
    | with_reducible refine (State.giveBlocks_core ..).trans ?_
    | with_reducible refine (State.giveCtx_core ..).trans ?_
    | with_reducible refine (State.iff_core (fun _ => ?_) _ _).trans ?_
    | with_reducible refine (State.mapFrag_core ..).trans ?_
    | with_reducible refine (State.set_core ..).trans ?_

@[simp] theorem State.fragGone_core (s : State) (f : Frag) : (State.fragGone s f).core = s.core := by
  unfold State.fragGone
  repeat' first
    | with_reducible rfl
    | split
    | with_reducible refine (State.count_core ..).trans ?_
    | with_reducible refine (State.flag_core ..).trans ?_
    | with_reducible refine (State.giveBlocks_core ..).trans ?_
    | with_reducible refine (State.giveCtx_core ..).trans ?_
    | with_reducible refine (State.iff_core (fun _ => ?_) _ _).trans ?_
    | with_reducible refine (State.set_core ..).trans ?_
    | (with_reducible refine (State.core_mk ..).trans ?_; rw [State.core_def])

@[simp] theorem State.recPin_core (s : State) (r : Rec) (i : Nat) : (s.recPin r i).2.core = s.core := by
  unfold State.recPin
  split
  next h => exact State.pin_core h
  next => rfl

@[simp] theorem State.recPinAll_core (s : State) (r : Rec) : (s.recPinAll r).2.core = s.core := by
  unfold State.recPinAll
  refine (State.foldlSnd_core (fun q i => ?_) _ _).trans rfl
  split
  · rfl
  · exact q.2.recPin_core q.1 i

@[simp] theorem State.pinRecs_core (s : State) (b : Bkt) : (s.pinRecs b).2.core = s.core := by
  unfold State.pinRecs
  refine (State.foldlSnd_core (fun q r => ?_) _ _).trans rfl
  split
  · split
    · rfl
    · exact q.2.recPin_core r _
  · rfl

@[simp] theorem State.pinSealed_core (s : State) (b : Bkt) : (State.pinSealed s b).core = s.core := by
  simp [State.pinSealed]

@[simp] theorem bucketWriteDone_core (s : State) : (bucketWriteDone s).core = s.core := by
  unfold bucketWriteDone
  split
  all_goals simp

@[simp] theorem State.histAdd_core (s : State) (key : Nat) : (State.histAdd s key).core = s.core := by
  simp [State.histAdd]

@[simp] theorem State.histHit_core (s : State) (cls : Nat) (bT b : Bkt) (w : Nat) :
    (State.histHit s cls bT b w).core = s.core := by simp [State.histHit]

@[simp] theorem State.histClearing_core (s : State) : (State.histClearing s).core = s.core := by
  simp [State.histClearing]

@[simp] theorem histSwapWrite_core (s : State) : (histSwapWrite s).core = s.core := by simp [histSwapWrite]

@[simp] theorem histSwapDone_core (s : State) : (histSwapDone s).core = s.core := by simp [histSwapDone]

@[simp] theorem State.recHit_core (s : State) (r : Rec) (off w : Nat) : (State.recHit s r off w).2.core = s.core := by
  simp [State.recHit]

@[simp] theorem State.mapRec_core (s : State) (ctx : Nat) (g : Rec → Rec) : (State.mapRec s ctx g).core = s.core := by
  simp [State.mapRec]

@[simp] theorem State.plateReadBad_core (s : State) (idx : Nat) : (State.plateReadBad s idx).core = s.core := by
  simp [State.plateReadBad]

@[simp] theorem State.applyUpset_core (s : State) (u : ReadUpset) (found : Option (DescAt × Desc)) :
    (State.applyUpset s u found).core = s.core := by
  unfold State.applyUpset
  repeat' split
  all_goals simp

@[simp] theorem State.dropPins_core (s : State) (r : Rec) : (State.dropPins s r).core = s.core := by
  simp [State.dropPins]

@[simp] theorem State.recLost_core (s : State) (r : Rec) : (State.recLost s r).core = s.core := by
  unfold State.recLost
  repeat' first
    | with_reducible rfl
    | split
    | with_reducible refine (State.busyEval_core ..).trans ?_
    | with_reducible refine (State.dropPins_core ..).trans ?_
    | with_reducible refine (State.fragLost_core ..).trans ?_
    | with_reducible refine (State.iff_core (fun _ => ?_) _ _).trans ?_
    | with_reducible refine (State.set_core ..).trans ?_
    | with_reducible refine State.core_of_ite ?_ ?_
    | (with_reducible refine (State.core_mk ..).trans ?_; rw [State.core_def])

@[simp] theorem State.namesEnd_core (s : State) : (State.namesEnd s).core = s.core := by simp [State.namesEnd]

@[simp] theorem recordBucketRead_core (ctx : Nat) (u : ReadUpset) (s : State) :
    (recordBucketRead ctx u s).core = s.core := by
  unfold recordBucketRead
  split
  · rfl
  next r _ =>
    refine State.core_of_ite rfl (State.core_of_ite (s.recLost_core r) ?_)
    split
    · rfl
    next i _ =>
      have hupset := State.applyUpset_core s u (s.findDesc (s.winBkt r i))
      dsimp only
      generalize s.applyUpset u (s.findDesc (s.winBkt r i)) = a at hupset ⊢
      split
      · exact (State.mapRec_core ..).trans hupset
      next p d _ =>
        refine (State.unpin_core ..).trans ((State.mapRec_core ..).trans ?_)
        refine (State.foldlSnd_core (fun q w => State.recHit_core ..) _ _).trans ?_
        exact (State.readBucket_core ..).trans hupset

@[simp] theorem recordComplete_core (ctx : Nat) (s : State) : (recordComplete ctx s).core = s.core := by
  unfold recordComplete
  repeat' first
    | with_reducible rfl
    | split
    | with_reducible refine (State.busyEval_core ..).trans ?_
    | with_reducible refine (State.count_core ..).trans ?_
    | with_reducible refine (State.dropPins_core ..).trans ?_
    | with_reducible refine (State.flag_core ..).trans ?_
    | with_reducible refine (State.fragReady_core ..).trans ?_
    | with_reducible refine (State.iff_core (fun _ => ?_) _ _).trans ?_
    | with_reducible refine (State.raise_core ..).trans ?_
    | with_reducible refine (State.set_core ..).trans ?_
    | with_reducible refine (State.takeBlocks_core ..).trans ?_
    | with_reducible refine State.core_of_ite ?_ ?_
    | (with_reducible refine (State.core_mk ..).trans ?_; rw [State.core_def])

@[simp] theorem State.refuse_core (s : State) (t : Trig) (cause : Nat) : (State.refuse s t cause).core = s.core := by
  simp [State.refuse]

@[simp] theorem State.openRec_core (s : State) (ctx origin cls number : Nat) (bT : Bkt) (bad : Bool) (win : Bkt) (len : Nat) (g : Rec → Rec) :
    (State.openRec s ctx origin cls number bT bad win len g).core = s.core := by
  simp [State.openRec]

@[simp] theorem State.setLast_core (s : State) (l : LastRec) : (State.setLast s l).core = s.core := by
  simp [State.setLast]

@[simp] theorem State.takeTrig_core (s : State) (t : Trig) : (State.takeTrig s t).core = s.core := by
  unfold State.takeTrig
  dsimp only
  split
  all_goals simp

@[simp] theorem recordEngineTake_core (s : State) : (recordEngineTake s).core = s.core := by
  unfold recordEngineTake
  split
  all_goals simp

@[simp] theorem dumpGo_core (cls len : Nat) (s : State) : (dumpGo cls len s).core = s.core := by
  unfold dumpGo
  dsimp only
  split
  all_goals simp

@[simp] theorem State.recsFlushed_core (s : State) : (State.recsFlushed s).core = s.core := by simp [State.recsFlushed]

@[simp] theorem State.flushBegin_core (s : State) : (State.flushBegin s).core = s.core := by simp [State.flushBegin]

@[simp] theorem hqFlush_core (s : State) : (hqFlush s).core = s.core := by simp [hqFlush]

@[simp] theorem tgLocalRead_core (s : State) : (tgLocalRead s).core = s.core := by simp [tgLocalRead]

@[simp] theorem State.setChan_core (s : State) (ch : Nat) (c : Chan) : (State.setChan s ch c).core = s.core := by
  simp [State.setChan]

@[simp] theorem State.setDie_core (s : State) (n : Nat) (d : FeDie) : (State.setDie s n d).core = s.core := by
  simp [State.setDie]

@[simp] theorem State.keepTables_core (s : State) (p : Nat → Bool) : (State.keepTables s p).core = s.core := by
  simp [State.keepTables]

@[simp] theorem State.toFifo_core (s : State) (ch orbit w : Nat) (invalid : Bool) (last : Nat × Nat × Int) :
    (State.toFifo s ch orbit w invalid last).core = s.core := by simp [State.toFifo]

@[simp] theorem State.complete_core (s : State) (ch : Nat) (ld : Lead) (tot : Nat) (flags : Nat) (invalid : Bool) :
    (State.complete s ch ld tot flags invalid).core = s.core := by
  unfold State.complete
  repeat' first
    | with_reducible rfl
    | split
    | with_reducible refine (State.count_core ..).trans ?_
    | with_reducible refine (State.flag_core ..).trans ?_
    | with_reducible refine (State.iff_core (fun _ => ?_) _ _).trans ?_
    | with_reducible refine (State.toFifo_core ..).trans ?_

@[simp] theorem State.injEdge_core (s : State) (ch : Nat) (w : InjWin) : (State.injEdge s ch w).2.core = s.core := by
  unfold State.injEdge
  split
  all_goals simp

@[simp] theorem State.timeEdge_core (s : State) (ch : Nat) (st : Stamp) (flags : Nat) :
    (State.timeEdge s ch st flags).core = s.core := by
  unfold State.timeEdge
  dsimp only
  repeat' split
  all_goals simp

@[simp] theorem leadingEdge_core (ch : Nat) (st : Stamp) (s : State) : (leadingEdge ch st s).core = s.core := by
  simp [leadingEdge]

@[simp] theorem trailingEdge_core (ch : Nat) (st : Stamp) (overload narrow invalid : Bool) (s : State) :
    (trailingEdge ch st overload narrow invalid s).core = s.core := by
  unfold trailingEdge
  dsimp only
  repeat' split
  all_goals simp

@[simp] theorem State.overflow_core (s : State) (ch : Nat) (overload invalid : Bool) :
    (State.overflow s ch overload invalid).core = s.core := by
  unfold State.overflow
  dsimp only
  split
  all_goals simp

@[simp] theorem totOverflow_core (ch : Nat) (overload invalid : Bool) (s : State) :
    (totOverflow ch overload invalid s).core = s.core := by simp [totOverflow]

@[simp] theorem recoveryEnd_core (ch : Nat) (beyond : Bool) (lost : Nat) (st : Stamp) (s : State) :
    (recoveryEnd ch beyond lost st s).core = s.core := by simp [recoveryEnd]

@[simp] theorem State.startHigh_core (s : State) (ch : Nat) : (State.startHigh s ch).core = s.core := by
  unfold State.startHigh
  dsimp only
  split
  all_goals simp

@[simp] theorem State.resumeHigh_core (s : State) (p : Nat → Bool) (again : Bool) :
    (State.resumeHigh s p again).core = s.core := by simp [State.resumeHigh]

@[simp] theorem State.autoMask_core (s : State) (ch cause : Nat) : (State.autoMask s ch cause).core = s.core := by
  simp [State.autoMask]

@[simp] theorem stuckDetected_core (ch : Nat) (s : State) : (stuckDetected ch s).core = s.core := by
  simp [stuckDetected]

@[simp] theorem rateLimitExceeded_core (ch : Nat) (s : State) : (rateLimitExceeded ch s).core = s.core := by
  simp [rateLimitExceeded]

@[simp] theorem automaskClear_core (die k mask : Nat) (s : State) : (automaskClear die k mask s).core = s.core := by
  simp [automaskClear]

@[simp] theorem channelConfigWrite_core (die l v : Nat) (s : State) : (channelConfigWrite die l v s).core = s.core := by
  simp [channelConfigWrite]

@[simp] theorem State.loadLatch_core (s : State) (r w : Nat) : (State.loadLatch s r w).core = s.core := by
  simp [State.loadLatch]

@[simp] theorem State.strobeDie_core (s : State) (set coarse n : Nat) :
    (State.strobeDie s set coarse n).core = s.core := by
  unfold State.strobeDie
  repeat' first
    | with_reducible rfl
    | split
    | with_reducible refine (State.count_core ..).trans ?_
    | with_reducible refine (State.each_core (fun _ _ => ?_) _ _).trans ?_
    | with_reducible refine (State.flag_core ..).trans ?_
    | with_reducible refine (State.iff_core (fun _ => ?_) _ _).trans ?_
    | with_reducible refine (State.set_core ..).trans ?_
    | with_reducible refine (State.setChan_core ..).trans ?_
    | with_reducible refine (State.setDie_core ..).trans ?_
    | with_reducible refine (State.strobe_core ..).trans ?_
    | with_reducible refine (State.tick_core ..).trans ?_
    | with_reducible refine State.core_of_ite ?_ ?_

@[simp] theorem State.strobe_core (s : State) (arg coarse : Nat) : (State.strobe s arg coarse).core = s.core := by
  simp [State.strobe]

theorem State.nextHit_core {s : State} {n o w : Nat} {bad : Bool} {t : State}
    (h : s.nextHit n = some (o, w, bad, t)) : t.core = s.core := by
  unfold State.nextHit at h
  dsimp only at h
  split at h
  · cases h
  · split at h
    · cases h
    · cases h
      simp

end Sys2Proof.Machine
end

section
/-! SUPPORT. Operations that leave machine time and the test access port: freezes, tables, the calendar. -/

namespace Sys2Proof.Machine

open Sys2Proof

@[simp] theorem State.sortIn_core (s : State) (die orbit w : Nat) : (State.sortIn s die orbit w).core = s.core := by
  simp [State.sortIn]

@[simp] theorem State.mergeStore_core (s : State) (die orbit w : Nat) :
    (State.mergeStore s die orbit w).core = s.core := by simp [State.mergeStore]

@[simp] theorem State.freezeTrigger_core (s : State) (cause r : Nat) (b : Bkt) :
    (State.freezeTrigger s cause r b).core = s.core := by simp [State.freezeTrigger]

@[simp] theorem State.violate_core (s : State) (cnt : Fld) (freeze : Bool) (cause r : Nat) (b : Bkt) :
    (State.violate s cnt freeze cause r b).core = s.core := by simp [State.violate]

@[simp] theorem State.maskTests_core (s : State) (b : Bkt) (hits : List Nat) :
    (State.maskTests s b hits).core = s.core := by simp [State.maskTests]

@[simp] theorem bucketSeal_core (markers : List Marker) (s : State) : (bucketSeal markers s).core = s.core := by
  unfold bucketSeal
  repeat' first
    | with_reducible rfl
    | split
    | with_reducible refine (State.count_core ..).trans ?_
    | with_reducible refine (State.depthUpdate_core ..).trans ?_
    | with_reducible refine (State.each_core (fun _ _ => ?_) _ _).trans ?_
    | with_reducible refine (State.iff_core (fun _ => ?_) _ _).trans ?_
    | with_reducible refine (State.maskTests_core ..).trans ?_
    | with_reducible refine (State.pinSealed_core ..).trans ?_
    | with_reducible refine (State.sealBucket_core ..).trans ?_
    | with_reducible refine State.core_of_ite ?_ ?_

@[simp] theorem freezeArm_core (post : Nat) (s : State) : (freezeArm post s).core = s.core := by simp [freezeArm]

@[simp] theorem freezeDisarm_core (post : Nat) (s : State) : (freezeDisarm post s).core = s.core := by
  simp [freezeDisarm]

@[simp] theorem freezeForce_core (s : State) : (freezeForce s).core = s.core := by simp [freezeForce]

@[simp] theorem ringStop_core (s : State) : (ringStop s).core = s.core := by simp [ringStop]

@[simp] theorem flushDone_core (s : State) : (flushDone s).core = s.core := by simp [flushDone]

@[simp] theorem State.chasersRun_core (s : State) (p : Bkt) : (State.chasersRun s p).1.core = s.core := by
  unfold State.chasersRun
  repeat' first
    | with_reducible rfl
    | split
    | with_reducible refine (State.chaserTake_core ..).trans ?_
    | with_reducible refine (State.each_core (fun _ _ => ?_) _ _).trans ?_
    | with_reducible refine (State.set_core ..).trans ?_
    | with_reducible refine (State.timerTick_core ..).trans ?_

@[simp] theorem State.quietWords_core (s : State) : (State.quietWords s).core = s.core := by simp [State.quietWords]

@[simp] theorem State.formWords_core (s : State) (p : Bkt) (eval : Bool) (absent : Nat) :
    (State.formWords s p eval absent).core = s.core := by simp [State.formWords]

@[simp] theorem mapPeriodClose_core (orbit bucket absent : Nat) (bad : List Nat) (s : State) :
    (mapPeriodClose orbit bucket absent bad s).core = s.core := by
  unfold mapPeriodClose
  repeat' first
    | with_reducible rfl
    | split
    | with_reducible refine (State.chasersRun_core ..).trans ?_
    | with_reducible refine (State.each_core (fun _ _ => ?_) _ _).trans ?_
    | with_reducible refine (State.formWords_core ..).trans ?_
    | with_reducible refine (State.iff_core (fun _ => ?_) _ _).trans ?_
    | with_reducible refine (State.openRecord_core ..).trans ?_
    | with_reducible refine (State.plateReadBad_core ..).trans ?_
    | with_reducible refine (State.set_core ..).trans ?_
    | with_reducible refine State.core_of_ite ?_ ?_
    | (with_reducible refine (State.core_mk ..).trans ?_; rw [State.core_def])

@[simp] theorem chaserTimerExpiry_core (c t : Nat) (s : State) : (chaserTimerExpiry c t s).core = s.core := by
  simp [chaserTimerExpiry]

@[simp] theorem State.setHk_core (s : State) (h : Hk) : (State.setHk s h).core = s.core := by simp [State.setHk]

@[simp] theorem State.hkBegin_core (s : State) : (State.hkBegin s).core = s.core := by simp [State.hkBegin]

@[simp] theorem State.hkRequest_core (s : State) (input : Nat) (cal : Bool) :
    (State.hkRequest s input cal).core = s.core := by
  unfold State.hkRequest
  split
  all_goals simp

@[simp] theorem State.unlock_core (s : State) (n to_ : Nat) : (State.unlock s n to_).core = s.core := by
  simp [State.unlock]

@[simp] theorem State.lockDie_core (s : State) (n : Nat) : (State.lockDie s n).core = s.core := by simp [State.lockDie]

@[simp] theorem coarsePllLock_core (die : Nat) (s : State) : (coarsePllLock die s).core = s.core := by
  simp [coarsePllLock]

@[simp] theorem coarsePllLoss_core (die : Nat) (s : State) : (coarsePllLoss die s).core = s.core := by
  simp [coarsePllLoss]

@[simp] theorem dllLock_core (die : Nat) (s : State) : (dllLock die s).core = s.core := by simp [dllLock]

@[simp] theorem dllUnlock_core (die : Nat) (s : State) : (dllUnlock die s).core = s.core := by simp [dllUnlock]

@[simp] theorem relock_core (die : Nat) (s : State) : (relock die s).core = s.core := by simp [relock]

@[simp] theorem State.servosOff_core (s : State) : (State.servosOff s).core = s.core := by simp [State.servosOff]

@[simp] theorem State.cdTake_core (s : State) (n v : Nat) : (State.cdTake s n v).core = s.core := by simp [State.cdTake]

@[simp] theorem State.cdRefuse_core (s : State) (n : Nat) (slice : Bool) :
    (State.cdRefuse s n slice).core = s.core := by simp [State.cdRefuse]

@[simp] theorem cdFullRun_core (die : Nat) (s : State) : (cdFullRun die s).core = s.core := by
  unfold cdFullRun
  repeat' first
    | with_reducible rfl
    | split
    | with_reducible refine (State.cdRefuse_core ..).trans ?_
    | with_reducible refine (State.cdTake_core ..).trans ?_
    | with_reducible refine (State.set_core ..).trans ?_

@[simp] theorem cdAbort_core (die : Nat) (s : State) : (cdAbort die s).core = s.core := by
  unfold cdAbort
  repeat' first
    | with_reducible rfl
    | split
    | with_reducible refine (State.cdTake_core ..).trans ?_
    | with_reducible refine (State.set_core ..).trans ?_
    | with_reducible refine State.core_of_ite ?_ ?_
    | (with_reducible refine (State.core_mk ..).trans ?_; rw [State.core_def])

@[simp] theorem State.cdSliceStart_core (s : State) (n col : Nat) : (State.cdSliceStart s n col).core = s.core := by
  simp [State.cdSliceStart]

@[simp] theorem cdSliceEnd_core (die stamps : Nat) (invalid : Bool) (s : State) :
    (cdSliceEnd die stamps invalid s).core = s.core := by
  unfold cdSliceEnd
  repeat' first
    | with_reducible rfl
    | split
    | with_reducible refine (State.cdTake_core ..).trans ?_
    | with_reducible refine (State.count_core ..).trans ?_
    | with_reducible refine (State.iff_core (fun _ => ?_) _ _).trans ?_
    | with_reducible refine (State.resumeHigh_core ..).trans ?_
    | with_reducible refine (State.set_core ..).trans ?_
    | with_reducible refine (State.setDie_core ..).trans ?_
    | with_reducible refine State.core_of_ite ?_ ?_
    | (with_reducible refine (State.core_mk ..).trans ?_; rw [State.core_def])

@[simp] theorem State.putTable_core (s : State) (ch : Nat) (t : List Nat) : (State.putTable s ch t).core = s.core := by
  unfold State.putTable
  repeat' first
    | with_reducible rfl
    | split
    | with_reducible refine (State.each_core (fun _ _ => ?_) _ _).trans ?_
    | with_reducible refine (State.set_core ..).trans ?_

@[simp] theorem State.swapTables_core (s : State) (die : Nat) (hist : List (List Nat)) :
    (State.swapTables s die hist).core = s.core := by
  unfold State.swapTables
  repeat' first
    | with_reducible rfl
    | split
    | with_reducible refine (State.cdTake_core ..).trans ?_
    | with_reducible refine (State.each_core (fun _ _ => ?_) _ _).trans ?_
    | with_reducible refine (State.iff_core (fun _ => ?_) _ _).trans ?_
    | with_reducible refine (State.keepTables_core ..).trans ?_
    | with_reducible refine (State.putTable_core ..).trans ?_
    | with_reducible refine (State.raise_core ..).trans ?_
    | with_reducible refine (State.set_core ..).trans ?_
    | with_reducible refine State.core_of_ite ?_ ?_

@[simp] theorem cdTablesComputed_core (die : Nat) (hist : List (List Nat)) (s : State) :
    (cdTablesComputed die hist s).core = s.core := by simp [cdTablesComputed]

@[simp] theorem binTableWrite_core (die l j v : Nat) (s : State) : (binTableWrite die l j v s).core = s.core := by
  simp [binTableWrite]

@[simp] theorem State.domainStops_core (s : State) : (State.domainStops s).core = s.core := by simp [State.domainStops]

@[simp] theorem State.setRloop_core (s : State) (r : Nat) (l : RLoop) : (State.setRloop s r l).core = s.core := by
  simp [State.setRloop]

@[simp] theorem State.loopOpen_core (s : State) (r : Nat) : (State.loopOpen s r).core = s.core := by
  simp [State.loopOpen]

@[simp] theorem State.loopFault_core (s : State) (r cause : Nat) : (State.loopFault s r cause).core = s.core := by
  simp [State.loopFault]

@[simp] theorem State.loopFaultAll_core (s : State) (cause : Nat) : (State.loopFaultAll s cause).core = s.core := by
  simp [State.loopFaultAll]

@[simp] theorem State.i2cError_core (s : State) (state : Nat) : (State.i2cError s state).core = s.core := by
  simp [State.i2cError]

@[simp] theorem State.tileGone_core (s : State) : (State.tileGone s).core = s.core := by
  unfold State.tileGone
  repeat' first
    | with_reducible rfl
    | split
    | with_reducible refine (State.each_core (fun _ _ => ?_) _ _).trans ?_
    | with_reducible refine (State.i2cError_core ..).trans ?_
    | with_reducible refine (State.iff_core (fun _ => ?_) _ _).trans ?_
    | with_reducible refine (State.keepOldFe_core ..).trans ?_
    | with_reducible refine (State.loopFaultAll_core ..).trans ?_
    | with_reducible refine (State.set_core ..).trans ?_

@[simp] theorem State.edgeAct_core (s : State) (a : EdgeAct) : (State.edgeAct s a).core = s.core := by
  unfold State.edgeAct
  split
  all_goals simp

@[simp] theorem State.edgeActs_core (s : State) : (State.edgeActs s).core = s.core := by simp [State.edgeActs]

@[simp] theorem State.miss_core (s : State) (n e : Nat) : (State.miss s n e).core = s.core := by
  unfold State.miss
  dsimp only
  repeat' split
  all_goals simp

@[simp] theorem State.calInject_core (s : State) (e a : Nat) : (State.calInject s e a).core = s.core := by
  unfold State.calInject
  split
  all_goals simp

@[simp] theorem State.calBurnish_core (s : State) (a : Nat) : (State.calBurnish s a).core = s.core := by
  simp [State.calBurnish]

@[simp] theorem State.calRefresh_core (s : State) (e a : Nat) : (State.calRefresh s e a).core = s.core := by
  simp [State.calRefresh]

@[simp] theorem State.calAct_core (s : State) (e act a coarse : Nat) :
    (State.calAct s e act a coarse).core = s.core := by
  unfold State.calAct
  split
  all_goals simp

@[simp] theorem State.markFired_core (s : State) (e : Nat) : (State.markFired s e).core = s.core := by
  simp [State.markFired]

end Sys2Proof.Machine
end

section
/-! SUPPORT. Operations that leave machine time and the test access port: sources of time, fragments, ports. -/

namespace Sys2Proof.Machine

open Sys2Proof

@[simp] theorem State.judgeQuiet_core (s : State) (newNb : Bool) : (State.judgeQuiet s newNb).core = s.core := by
  simp [State.judgeQuiet]

@[simp] theorem State.calStep_core (s : State) : (State.calStep s).core = s.core := by simp [State.calStep]

@[simp] theorem State.missOver_core (s : State) (a k o : Nat) : (State.missOver s a k o).core = s.core := by
  unfold State.missOver
  dsimp only
  split
  all_goals simp

@[simp] theorem State.missStopped_core (s : State) : (State.missStopped s).core = s.core := by
  unfold State.missStopped
  split
  all_goals simp

@[simp] theorem State.gateStart_core (s : State) : (State.gateStart s).core = s.core := by simp [State.gateStart]

@[simp] theorem State.slewStart_core (s : State) (offset : Int) : (State.slewStart s offset).core = s.core := by
  simp [State.slewStart]

@[simp] theorem State.renumber_core (s : State) : (State.renumber s).core = s.core := by simp [State.renumber]

@[simp] theorem mtLoad_core (s : State) : (mtLoad s).core = s.core := by simp [mtLoad]

@[simp] theorem mtSnap_core (tick : Nat) (s : State) : (mtSnap tick s).core = s.core := by simp [mtSnap]

@[simp] theorem State.tickNow_core (s : State) : (State.tickNow s).2.core = s.core := by simp [State.tickNow]

@[simp] theorem State.enterHold_core (s : State) (cause state : Nat) (fabric : Bool) :
    (State.enterHold s cause state fabric).core = s.core := by simp [State.enterHold]

@[simp] theorem State.exitHold_core (s : State) : (State.exitHold s).core = s.core := by
  unfold State.exitHold
  repeat' first
    | with_reducible rfl
    | split
    | with_reducible refine (State.iff_core (fun _ => ?_) _ _).trans ?_
    | with_reducible refine (State.rise_core ..).trans ?_
    | with_reducible refine (State.set_core ..).trans ?_
    | (with_reducible refine (State.core_mk ..).trans ?_; rw [State.core_def])

@[simp] theorem State.enterStop_core (s : State) : s.enterStop.core = s.core := by
  unfold State.enterStop
  refine (State.raise_core ..).trans ((State.atEdge_core State.domainStops_core _ _).trans ?_)
  iterate 5 refine (State.set_core ..).trans ?_
  exact s.exitHold_core

@[simp] theorem State.trackLost_core (s : State) (cause : Nat) (fabric : Bool) :
    (State.trackLost s cause fabric).core = s.core := by simp [State.trackLost]

@[simp] theorem sourceSelect_core (sel : Nat) (s : State) : (sourceSelect sel s).core = s.core := by simp [sourceSelect]

@[simp] theorem sourceLost_core (s : State) : (sourceLost s).core = s.core := by
  unfold sourceLost
  split
  all_goals simp

@[simp] theorem State.setSrcLane_core (s : State) (n : Nat) : (State.setSrcLane s n).core = s.core := by
  simp [State.setSrcLane]

@[simp] theorem orbitMarkerMismatch_core (k : Nat) (s : State) : (orbitMarkerMismatch k s).core = s.core := by
  simp [orbitMarkerMismatch]

@[simp] theorem slewEnd_core (offset : Nat) (s : State) : (slewEnd offset s).core = s.core := by simp [slewEnd]

@[simp] theorem mtQualified_core (s : State) : (mtQualified s).core = s.core := by simp [mtQualified]

@[simp] theorem fuGateEnd_core (slope resid : Nat) (s : State) : (fuGateEnd slope resid s).core = s.core := by
  unfold fuGateEnd
  repeat' first
    | with_reducible rfl
    | split
    | with_reducible refine (State.count_core ..).trans ?_
    | with_reducible refine (State.gateStart_core ..).trans ?_
    | with_reducible refine (State.iff_core (fun _ => ?_) _ _).trans ?_
    | with_reducible refine (State.raise_core ..).trans ?_
    | with_reducible refine (State.set_core ..).trans ?_
    | with_reducible refine State.core_of_ite ?_ ?_
    | (with_reducible refine (State.core_mk ..).trans ?_; rw [State.core_def])

@[simp] theorem fuRatioRead_core (s : State) : (fuRatioRead s).core = s.core := by simp [fuRatioRead]

@[simp] theorem ovnReady_core (s : State) : (ovnReady s).core = s.core := by simp [ovnReady]

@[simp] theorem ovnReadyLost_core (s : State) : (ovnReadyLost s).core = s.core := by simp [ovnReadyLost]

@[simp] theorem ovnHeaterFault_core (s : State) : (ovnHeaterFault s).core = s.core := by simp [ovnHeaterFault]

@[simp] theorem State.ownTake_core (s : State) (f : Frag) (body : List Nat) :
    (State.ownTake s f body).2.core = s.core := by
  unfold State.ownTake
  repeat' first
    | with_reducible rfl
    | split
    | with_reducible refine (State.iff_core (fun _ => ?_) _ _).trans ?_
    | with_reducible refine (State.set_core ..).trans ?_
    | (with_reducible refine (State.core_mk ..).trans ?_; rw [State.core_def])

@[simp] theorem State.feedMerge_core (n : Nat) (s : State) : (State.feedMerge n s).core = s.core := by
  induction n generalizing s with
  | zero => rfl
  | succ n ih =>
    unfold State.feedMerge
    split
    next f b _ =>
      split
      · exact (ih _).trans ((State.core_mk ..).trans (s.ownTake_core f b))
      · rfl
    next => rfl

@[simp] theorem State.forward_core (s : State) (c : Contrib) : (State.forward s c).core = s.core := by
  unfold State.forward
  split
  all_goals simp

@[simp] theorem State.unmerged_core (s : State) (c : Contrib) : (State.unmerged s c).core = s.core := by
  simp [State.unmerged]

@[simp] theorem State.setMerges_core (s : State) (l : List Merge) : (State.setMerges s l).core = s.core := by
  simp [State.setMerges]

@[simp] theorem State.mergeBuild_core (s : State) (number : Nat) (timedOut : Bool) :
    (State.mergeBuild s number timedOut).core = s.core := by
  unfold State.mergeBuild
  split
  all_goals simp

@[simp] theorem State.contribute_core (s : State) (c : Contrib) : (State.contribute s c).core = s.core := by
  unfold State.contribute
  dsimp only
  split
  all_goals simp

@[simp] theorem mergeContribution_core (s : State) : (mergeContribution s).core = s.core := by
  have hfed := State.feedMerge_core s.str.order.length s
  unfold mergeContribution
  dsimp only
  generalize State.feedMerge s.str.order.length s = a at hfed ⊢
  split
  · exact (State.busyEval_core a).trans hfed
  · refine (State.busyEval_core _).trans (State.core_of_ite ?_ ?_)
    · exact (State.contribute_core ..).trans hfed
    · exact (State.forward_core ..).trans hfed

@[simp] theorem mergeTimeout_core (number : Nat) (s : State) : (mergeTimeout number s).core = s.core := by
  simp [mergeTimeout]

@[simp] theorem State.takeFseq_core (s : State) : (State.takeFseq s).2.core = s.core := by simp [State.takeFseq]

@[simp] theorem State.hand_core (s : State) (p : Nat) (w : WaitFrag) : (State.hand s p w).core = s.core := by
  unfold State.hand
  dsimp only
  split
  all_goals simp

theorem State.handFrom_core {s : State} {p k : Nat} {t : State} (h : s.handFrom p k = some t) : t.core = s.core := by
  unfold State.handFrom at h
  split at h
  · have hfed := State.feedMerge_core s.str.order.length s
    dsimp only at h
    generalize State.feedMerge s.str.order.length s = a at hfed h
    split at h
    · cases h
      exact (State.hand_core ..).trans ((State.ownTake_core ..).trans hfed)
    · cases h
  · split at h
    · split at h
      · cases h
        simp
      · cases h
    · dsimp only at h
      split at h
      · cases h
        simp
      · cases h

theorem State.handNext_core {s : State} {p : Nat} {t : State} (h : s.handNext p = some t) : t.core = s.core := by
  unfold State.handNext at h
  obtain ⟨k, -, hk⟩ := List.exists_of_findSome?_eq_some h
  obtain ⟨u, hu, rfl⟩ := Option.map_eq_some_iff.1 hk
  exact (State.core_mk ..).trans (State.handFrom_core hu)

@[simp] theorem State.emitBlock_core (s : State) (p seq : Nat) (f : OutFrag) (bidx : Nat) :
    (State.emitBlock s p seq f bidx).core = s.core := by
  unfold State.emitBlock
  repeat' first
    | with_reducible rfl
    | split
    | with_reducible refine (State.count_core ..).trans ?_
    | with_reducible refine (State.iff_core (fun _ => ?_) _ _).trans ?_
    | with_reducible refine (State.lineSeed_core ..).trans ?_
    | with_reducible refine (State.setPath_core ..).trans ?_

@[simp] theorem State.fragLeaves_core (s : State) (f : OutFrag) : (State.fragLeaves s f).core = s.core := by
  simp [State.fragLeaves]

@[simp] theorem State.sendUpset_core (s : State) (p : Nat) (f : OutFrag) (bidx n : Nat) :
    (State.sendUpset s p f bidx n).core = s.core := by simp [State.sendUpset]

@[simp] theorem State.sendNew_core (s : State) (port : Nat) (f : OutFrag) : (State.sendNew s port f).core = s.core := by
  simp [State.sendNew]

@[simp] theorem blockSend_core (port : Nat) (bad : Option Nat) (s : State) : (blockSend port bad s).core = s.core := by
  have hnext {t : State} (h : (if (s.path port).nextFrag.isSome then some s else s.handNext port) = some t) :
      t.core = s.core := by
    split at h
    · cases h
      rfl
    · exact State.handNext_core h
  unfold blockSend
  refine State.core_of_ite rfl ?_
  dsimp only
  generalize (if (s.path port).nextFrag.isSome then some s else s.handNext port) = u at hnext ⊢
  refine State.core_of_ite ?_ (State.core_of_ite rfl ?_)
  · split
    · refine State.core_of_ite ?_ rfl
      split
      · exact (State.emitBlock_core ..).trans (State.setPath_core ..)
      · rfl
    · rfl
  · split
    · rfl
    next a =>
      have ha := hnext rfl
      split
      · exact ha
      next f _ =>
        cases bad with
        | none =>
          dsimp only
          split
          · exact (State.sendNew_core ..).trans ha
          · exact ha
        | some n =>
          have hbad := State.sendUpset_core a port f f.next n
          dsimp only
          generalize a.sendUpset port f f.next n = b at hbad ⊢
          split
          · exact (State.sendNew_core ..).trans (hbad.trans ha)
          · exact hbad.trans ha

@[simp] theorem State.creditTaken_core (port ack window : Nat) (nak : Bool) (s : State) :
    (State.creditTaken port ack window nak s).core = s.core := by
  unfold State.creditTaken
  dsimp only
  repeat' split
  all_goals simp

@[simp] theorem resendTimeout_core (port : Nat) (s : State) : (resendTimeout port s).core = s.core := by
  simp [resendTimeout]

@[simp] theorem creditTimer_core (port : Nat) (s : State) : (creditTimer port s).core = s.core := by simp [creditTimer]

@[simp] theorem State.rxBad_core (s : State) : (State.rxBad s).core = s.core := by
  unfold State.rxBad
  dsimp only
  split
  all_goals simp

@[simp] theorem State.dropPartial_core (s : State) (p : Nat) : (State.dropPartial s p).core = s.core := by
  unfold State.dropPartial
  split
  all_goals simp

@[simp] theorem State.fragArrived_core (s : State) (p src fseq : Nat) (ws : List Nat) :
    (State.fragArrived s p src fseq ws).core = s.core := by
  unfold State.fragArrived
  dsimp only
  repeat' split
  all_goals simp

@[simp] theorem State.blockIn_core (s : State) (p start : Nat) (ws : List Nat) :
    (State.blockIn s p start ws).core = s.core := by
  unfold State.blockIn
  dsimp only
  split
  all_goals simp

@[simp] theorem State.takeHeld_core (p n : Nat) (s : State) : (State.takeHeld p n s).core = s.core := by
  induction n generalizing s with
  | zero => rfl
  | succ n ih =>
    unfold State.takeHeld
    dsimp only
    split
    · exact (ih _).trans ((State.blockIn_core ..).trans (State.setPath_core ..))
    · rfl

@[simp] theorem State.blockGood_core (s : State) (port start : Nat) (ws : List Nat) :
    (s.blockGood port start ws).core = s.core := by
  unfold State.blockGood
  dsimp only
  refine State.core_of_ite ?_ (State.core_of_ite rfl (State.core_of_ite (State.core_of_ite rfl ?_) ?_))
  · exact (State.takeHeld_core ..).trans ((State.blockIn_core ..).trans ((State.setPath_core ..).trans
      (State.takeBlocks_core ..)))
  · exact (State.setPath_core ..).trans (State.takeBlocks_core ..)
  · exact State.setPath_core ..

@[simp] theorem State.dropHeld_core (s : State) (p : Nat) : (State.dropHeld s p).core = s.core := by
  simp [State.dropHeld]

@[simp] theorem State.pathStart_core (s : State) (p : Nat) : (State.pathStart s p).core = s.core := by
  simp [State.pathStart]

@[simp] theorem State.pathLost_core (s : State) (p : Nat) (q : Option Nat) : (State.pathLost s p q).core = s.core := by
  unfold State.pathLost
  dsimp only
  split
  all_goals simp

@[simp] theorem State.rerouted_core (s : State) : (State.rerouted s).core = s.core := by simp [State.rerouted]

@[simp] theorem State.dataReturn_core (s : State) : (State.dataReturn s).core = s.core := by simp [State.dataReturn]

@[simp] theorem creditReceived_core (port ack window : Nat) (nak : Bool) (s : State) :
    (creditReceived port ack window nak s).core = s.core := by simp [creditReceived]

@[simp] theorem blockReceived_core (port : Nat) (block : BlockIn) (s : State) :
    (blockReceived port block s).core = s.core := by
  unfold blockReceived
  repeat' split
  all_goals simp

@[simp] theorem State.setPortQ_core (s : State) (p : Nat) (q : PortQ) : (State.setPortQ s p q).core = s.core := by
  simp [State.setPortQ]

@[simp] theorem State.ctDrop_core (s : State) : (State.ctDrop s).core = s.core := by simp [State.ctDrop]

@[simp] theorem State.pushFast_core (s : State) (p item : Nat) (from_ : Nat := 0) :
    (State.pushFast s p item from_).core = s.core := by simp [State.pushFast]

@[simp] theorem State.pushMsg_core (s : State) (p : Nat) (items : List Nat) :
    (State.pushMsg s p items).core = s.core := by simp [State.pushMsg]

@[simp] theorem State.fastUp_core (s : State) (item : Nat) : (State.fastUp s item).core = s.core := by
  unfold State.fastUp
  split
  all_goals simp

@[simp] theorem State.msgUp_core (s : State) (items : List Nat) : (State.msgUp s items).core = s.core := by
  unfold State.msgUp
  split
  all_goals simp

@[simp] theorem State.moveItems_core (s : State) (p : Nat) : (State.moveItems s p).core = s.core := by
  unfold State.moveItems
  dsimp only
  split
  all_goals simp

@[simp] theorem State.linkClear_core (s : State) (p : Nat) : (State.linkClear s p).core = s.core := by
  simp [State.linkClear]

@[simp] theorem State.tcUp_core (s : State) (p : Nat) : (State.tcUp s p).core = s.core := by
  unfold State.tcUp
  repeat' first
    | with_reducible rfl
    | split
    | with_reducible refine (State.each_core (fun _ _ => ?_) _ _).trans ?_
    | with_reducible refine (State.iff_core (fun _ => ?_) _ _).trans ?_
    | with_reducible refine (State.moveItems_core ..).trans ?_
    | with_reducible refine (State.rerouted_core ..).trans ?_
    | with_reducible refine (State.set_core ..).trans ?_
    | (with_reducible refine (State.core_mk ..).trans ?_; rw [State.core_def])

@[simp] theorem State.tcGain_core (s : State) (p : Nat) : (State.tcGain s p).core = s.core := by simp [State.tcGain]

end Sys2Proof.Machine
end

section
/-!  -/

namespace Sys2Proof.Machine

open Sys2Proof

@[simp] theorem State.setHeld_core (s : State) (n : Nat) (rx : Bool) (h : Option Nat) :
    (State.setHeld s n rx h).core = s.core := by simp [State.setHeld]

@[simp] theorem State.laneRefuse_core (s : State) (n : Nat) : (State.laneRefuse s n).core = s.core := by
  simp [State.laneRefuse]

@[simp] theorem State.setOutGrp_core (s : State) (n : Nat) (b : Bool) : (State.setOutGrp s n b).core = s.core := by
  simp [State.setOutGrp]

@[simp] theorem State.lockLoss_core (s : State) (n : Nat) : (State.lockLoss s n).core = s.core := by
  simp [State.lockLoss]

@[simp] theorem symbolLock_core (n lat : Nat) (s : State) : (symbolLock n lat s).core = s.core := by
  unfold symbolLock
  repeat' first
    | with_reducible rfl
    | split
    | with_reducible refine (State.flag_core ..).trans ?_
    | with_reducible refine (State.iff_core (fun _ => ?_) _ _).trans ?_
    | with_reducible refine (State.set_core ..).trans ?_
    | with_reducible refine (State.setLane_core ..).trans ?_
    | with_reducible refine (State.setOutGrp_core ..).trans ?_
    | with_reducible refine (State.tcGain_core ..).trans ?_
    | with_reducible refine State.core_of_ite ?_ ?_
    | (with_reducible refine (State.core_mk ..).trans ?_; rw [State.core_def])

@[simp] theorem slipWrite_core (n slip : Nat) (s : State) : (slipWrite n slip s).core = s.core := by simp [slipWrite]

@[simp] theorem State.slipStep_core (s : State) (n : Nat) : (State.slipStep s n).core = s.core := by
  simp [State.slipStep]

@[simp] theorem State.setServe_core (s : State) (n : Nat) (b : Bool) : (State.setServe s n b).core = s.core := by
  simp [State.setServe]

@[simp] theorem State.moveSlots_core (s : State) (n : Nat) : (State.moveSlots s n).core = s.core := by
  unfold State.moveSlots
  repeat' split
  all_goals simp

@[simp] theorem spareServeWrite_core (port mask : Nat) (s : State) : (spareServeWrite port mask s).core = s.core := by
  unfold spareServeWrite
  dsimp only
  split
  all_goals simp

@[simp] theorem State.pendQuads_core (s : State) : (State.pendQuads s).core = s.core := by simp [State.pendQuads]

@[simp] theorem State.dirOff_core (s : State) (n : Nat) (rx : Bool) (held : Option Nat) :
    (State.dirOff s n rx held).core = s.core := by simp [State.dirOff]

@[simp] theorem State.dirStart_core (s : State) (n : Nat) (rx : Bool) (target : Nat) :
    (State.dirStart s n rx target).core = s.core := by simp [State.dirStart]

@[simp] theorem State.dirFree_core (s : State) (n : Nat) (rx forbidden : Bool) :
    (State.dirFree s n rx forbidden).core = s.core := by
  unfold State.dirFree
  split
  all_goals simp

@[simp] theorem State.quadIdle_core (s : State) (q : Nat) : (State.quadIdle s q).core = s.core := by
  simp [State.quadIdle]

@[simp] theorem State.dirDown_core (s : State) (n : Nat) (rx forbidden : Bool) :
    (State.dirDown s n rx forbidden).core = s.core := by simp [State.dirDown]

@[simp] theorem State.quadDown_core (s : State) (q : Nat) (forbidden : Bool) :
    (State.quadDown s q forbidden).core = s.core := by simp [State.quadDown]

@[simp] theorem State.dropStart_core (s : State) (n : Nat) (rx : Bool) : (State.dropStart s n rx).core = s.core := by
  simp [State.dropStart]

@[simp] theorem State.dirRequest_core (s : State) (n : Nat) (rx : Bool) (req : Nat) :
    (State.dirRequest s n rx req).core = s.core := by simp [State.dirRequest]

@[simp] theorem lanePowerRequest_core (n tx rx : Nat) (via : Option Nat) (s : State) :
    (lanePowerRequest n tx rx via s).core = s.core := by simp [lanePowerRequest]

@[simp] theorem laneWakeDone_core (n : Nat) (rx : Bool) (s : State) : (laneWakeDone n rx s).core = s.core := by
  simp [laneWakeDone]

@[simp] theorem laneLoopSelect_core (n loop pattern : Nat) (s : State) :
    (laneLoopSelect n loop pattern s).core = s.core := by simp [laneLoopSelect]

@[simp] theorem State.loopErrors_core (s : State) (n k : Nat) : (State.loopErrors s n k).core = s.core := by
  simp [State.loopErrors]

@[simp] theorem loopCheckerPattern_core (n count errors : Nat) (s : State) :
    (loopCheckerPattern n count errors s).core = s.core := by simp [loopCheckerPattern]

@[simp] theorem State.loopFrame_core (s : State) (n : Nat) (good : Bool) :
    (State.loopFrame s n good).core = s.core := by simp [State.loopFrame]

@[simp] theorem State.restripe_core (s : State) (n : Nat) : (State.restripe s n).core = s.core := by
  simp [State.restripe]

@[simp] theorem State.dirFail_core (s : State) (n : Nat) (rx : Bool) : (State.dirFail s n rx).core = s.core := by
  unfold State.dirFail
  dsimp only
  repeat' split
  all_goals simp

@[simp] theorem State.laneFault_core (s : State) (n : Nat) : (State.laneFault s n).core = s.core := by
  simp [State.laneFault]

@[simp] theorem lockLost_core (n : Nat) (many : Bool) (s : State) : (lockLost n many s).core = s.core := by
  simp [lockLost]

@[simp] theorem eyeMeasurement_core (n eye : Nat) (steady driverFault : Bool) (s : State) :
    (eyeMeasurement n eye steady driverFault s).core = s.core := by
  unfold eyeMeasurement
  repeat' first
    | with_reducible rfl
    | split
    | with_reducible refine (State.flag_core ..).trans ?_
    | with_reducible refine (State.iff_core (fun _ => ?_) _ _).trans ?_
    | with_reducible refine (State.laneFault_core ..).trans ?_
    | with_reducible refine (State.set_core ..).trans ?_
    | with_reducible refine (State.setLane_core ..).trans ?_

@[simp] theorem laneFailed_core (n : Nat) (rx : Bool) (s : State) : (laneFailed n rx s).core = s.core := by
  simp [laneFailed]

@[simp] theorem laneOut_core (n : Nat) (out : Bool) (via : Option Nat) (s : State) :
    (laneOut n out via s).core = s.core := by simp [laneOut]

@[simp] theorem laneRejoin_core (n : Nat) (s : State) : (laneRejoin n s).core = s.core := by
  unfold laneRejoin
  dsimp only
  repeat' split
  all_goals simp [*]

@[simp] theorem pllUnlock_core (q : Nat) (s : State) : (pllUnlock q s).core = s.core := by simp [pllUnlock]

@[simp] theorem State.laneCommit_core (s : State) (was : PlateRd) (n : Nat) :
    (State.laneCommit s was n).core = s.core := by
  unfold State.laneCommit
  repeat' first
    | with_reducible rfl
    | split
    | with_reducible refine (State.dirOff_core ..).trans ?_
    | with_reducible refine (State.dirRequest_core ..).trans ?_
    | with_reducible refine (State.dirStart_core ..).trans ?_
    | with_reducible refine (State.dropStart_core ..).trans ?_
    | with_reducible refine (State.each_core (fun _ _ => ?_) _ _).trans ?_
    | with_reducible refine (State.iff_core (fun _ => ?_) _ _).trans ?_
    | with_reducible refine (State.set_core ..).trans ?_
    | with_reducible refine (State.setB_core ..).trans ?_
    | with_reducible refine (State.setHeld_core ..).trans ?_
    | with_reducible refine (State.setLane_core ..).trans ?_

@[simp] theorem State.quadCommit_core (s : State) (was : PlateRd) (q : Nat) :
    (State.quadCommit s was q).core = s.core := by simp [State.quadCommit]

@[simp] theorem State.fwdCheck_core (s : State) : (State.fwdCheck s).core = s.core := by
  unfold State.fwdCheck
  repeat' first
    | with_reducible rfl
    | split
    | with_reducible refine (State.each_core (fun _ _ => ?_) _ _).trans ?_
    | with_reducible refine (State.flag_core ..).trans ?_
    | with_reducible refine (State.set_core ..).trans ?_

@[simp] theorem State.report_core (s : State) (code arg : Nat) : (State.report s code arg).core = s.core := by
  simp [State.report]

@[simp] theorem State.pushAccept_core (s : State) (body p : Nat) : (State.pushAccept s body p).core = s.core := by
  simp [State.pushAccept]

@[simp] theorem State.fbBad_core (s : State) : (State.fbBad s).core = s.core := by simp [State.fbBad]

@[simp] theorem State.timeErr_core (s : State) : (State.timeErr s).core = s.core := by simp [State.timeErr]

@[simp] theorem State.response_core (s : State) (m : CtMsg) (status data : Nat) :
    (State.response s m status data).core = s.core := by simp [State.response]

@[simp] theorem State.routeMiss_core (s : State) : (State.routeMiss s).core = s.core := by simp [State.routeMiss]

@[simp] theorem State.routeTo_core (s : State) (d : Nat) : (State.routeTo s d).2.core = s.core := by
  unfold State.routeTo
  dsimp only
  repeat' split
  all_goals simp

theorem State.request_core {run : State → State} (hr : ∀ u, (run u).core = u.core) (s : State) (m : CtMsg) (op : Nat) :
    (s.request m op run).core = s.core := by
  unfold State.request
  refine State.core_of_ite (State.fbBad_core s) (State.core_of_ite rfl (State.core_of_ite (hr s)
    (State.core_of_ite (State.response_core ..) ?_)))
  split
  next p t e => exact (State.pushMsg_core ..).trans (State.core_of_snd e (State.routeTo_core ..))
  next t e => exact (State.response_core ..).trans (State.core_of_snd e (State.routeTo_core ..))

@[simp] theorem State.relay_core (s : State) (m : CtMsg) (op : Nat) : (State.relay s m op).core = s.core := by
  simp [State.relay]

@[simp] theorem readResponse_core (m : CtMsg) (s : State) : (readResponse m s).core = s.core := by simp [readResponse]

@[simp] theorem writeResponse_core (m : CtMsg) (s : State) : (writeResponse m s).core = s.core := by
  simp [writeResponse]

@[simp] theorem State.answerProbe_core (s : State) (n tag : Nat) : (State.answerProbe s n tag).core = s.core := by
  simp [State.answerProbe]

@[simp] theorem probe_core (n : Nat) (m : CtMsg) (s : State) : (probe n m s).core = s.core := by simp [probe]

@[simp] theorem assign_core (n : Nat) (m : CtMsg) (s : State) : (assign n m s).core = s.core := by simp [assign]

@[simp] theorem State.fbRefuse_core (s : State) : (State.fbRefuse s).core = s.core := by simp [State.fbRefuse]

@[simp] theorem State.discGo_core (s : State) (port op : Nat) (msg : List Nat) :
    (State.discGo s port op msg).core = s.core := by simp [State.discGo]

@[simp] theorem discProbe_core (port : Nat) (s : State) : (discProbe port s).core = s.core := by simp [discProbe]

@[simp] theorem discAssign_core (port : Nat) (s : State) : (discAssign port s).core = s.core := by simp [discAssign]

@[simp] theorem probeAnswer_core (port : Nat) (m : CtMsg) (s : State) : (probeAnswer port m s).core = s.core := by
  simp [probeAnswer]

@[simp] theorem discTimeout_core (s : State) : (discTimeout s).core = s.core := by simp [discTimeout]

@[simp] theorem State.forwardReport_core (s : State) (w code : Nat) : (State.forwardReport s w code).core = s.core := by
  simp [State.forwardReport]

@[simp] theorem frameGap_core (w : Nat) (s : State) : (frameGap w s).core = s.core := by simp [frameGap]

@[simp] theorem acceptLost_core (w : Nat) (s : State) : (acceptLost w s).core = s.core := by simp [acceptLost]

@[simp] theorem State.fillTc_core (s : State) (n : Nat) (carries lowest : Bool) :
    (State.fillTc s n carries lowest).core = s.core := by simp [State.fillTc]

@[simp] theorem State.sendTc_core (s : State) (n : Nat) : (State.sendTc s n).core = s.core := by simp [State.sendTc]

@[simp] theorem State.sendTp_core (s : State) (n : Nat) : (State.sendTp s n).core = s.core := by simp [State.sendTp]

@[simp] theorem State.sendPrbs_core (s : State) (n : Nat) : (State.sendPrbs s n).core = s.core := by
  simp [State.sendPrbs]

@[simp] theorem frameTransmit_core (n : Nat) (s : State) : (frameTransmit n s).core = s.core := by
  unfold frameTransmit
  repeat' split
  all_goals simp

@[simp] theorem State.rejoinStep_core (s : State) (n : Nat) (rev : Bool) :
    (State.rejoinStep s n rev).core = s.core := by simp [State.rejoinStep]

@[simp] theorem frameReceived_core (n : Nat) (f : FrameIn) (s : State) : (frameReceived n f s).core = s.core := by
  simp [frameReceived]

@[simp] theorem State.releaseItem_core (s : State) (n : Nat) (e : Nat × Nat) :
    (State.releaseItem s n e).core = s.core := by
  unfold State.releaseItem
  split
  all_goals simp

@[simp] theorem State.releaseTp_core (s : State) (n : Nat) (f : FrameIn) : (State.releaseTp s n f).core = s.core := by
  simp [State.releaseTp]

@[simp] theorem State.gapEnd_core (s : State) (n : Nat) : (State.gapEnd s n).core = s.core := by
  unfold State.gapEnd
  split
  all_goals simp

@[simp] theorem frameRelease_core (n margin : Nat) (s : State) : (frameRelease n margin s).core = s.core := by
  unfold frameRelease
  dsimp only
  split
  all_goals simp

@[simp] theorem sourceFrameGap_core (s : State) : (sourceFrameGap s).core = s.core := by simp [sourceFrameGap]

@[simp] theorem State.timeMove_core (s : State) : (State.timeMove s).core = s.core := by
  unfold State.timeMove
  repeat' split
  all_goals simp

@[simp] theorem State.tcLost_core (s : State) (p : Nat) : (State.tcLost s p).core = s.core := by
  unfold State.tcLost
  repeat' first
    | with_reducible rfl
    | split
    | with_reducible refine (State.each_core (fun _ _ => ?_) _ _).trans ?_
    | with_reducible refine (State.flag_core ..).trans ?_
    | with_reducible refine (State.iff_core (fun _ => ?_) _ _).trans ?_
    | with_reducible refine (State.linkClear_core ..).trans ?_
    | with_reducible refine (State.moveItems_core ..).trans ?_
    | with_reducible refine (State.rerouted_core ..).trans ?_
    | with_reducible refine (State.set_core ..).trans ?_
    | with_reducible refine (State.timeMove_core ..).trans ?_
    | with_reducible refine (sourceLost_core ..).trans ?_
    | with_reducible refine State.core_of_ite ?_ ?_
    | (with_reducible refine (State.core_mk ..).trans ?_; rw [State.core_def])

@[simp] theorem State.moveFrags_core (s : State) (p q : Nat) : (State.moveFrags s p q).core = s.core := by
  simp [State.moveFrags]

@[simp] theorem State.dataLost_core (s : State) (p : Nat) : (State.dataLost s p).core = s.core := by
  unfold State.dataLost
  dsimp only
  repeat' split
  all_goals simp

@[simp] theorem State.dataGain_core (s : State) (p : Nat) : (State.dataGain s p).core = s.core := by
  simp [State.dataGain]

@[simp] theorem portLost_core (p : Nat) (data : Bool) (s : State) : (portLost p data s).core = s.core := by
  simp [portLost]

@[simp] theorem portRegained_core (p : Nat) (data : Bool) (s : State) : (portRegained p data s).core = s.core := by
  simp [portRegained]

@[simp] theorem timeFollow_core (s : State) : (timeFollow s).core = s.core := by simp [timeFollow]

@[simp] theorem State.pushSolam_core (s : State) (p from_ : Nat) (x : Solam) :
    (State.pushSolam s p from_ x).core = s.core := by simp [State.pushSolam]

@[simp] theorem pdelayTimer_core (s : State) : (pdelayTimer s).core = s.core := by simp [pdelayTimer]

@[simp] theorem pdelayReq_core (p seq ta : Nat) (s : State) : (pdelayReq p seq ta s).core = s.core := by
  simp [pdelayReq]

@[simp] theorem pdelayResp_core (p seq turnaround : Nat) (rtt : Int) (s : State) :
    (pdelayResp p seq turnaround rtt s).core = s.core := by simp [pdelayResp]

@[simp] theorem State.fabricRelease_core (s : State) (off : Int) : (State.fabricRelease s off).core = s.core := by
  simp [State.fabricRelease]

@[simp] theorem sync_core (w ta : Nat) (s : State) : (sync w ta s).core = s.core := by simp [sync]

@[simp] theorem State.orderHold_core (s : State) : (State.orderHold s).core = s.core := by simp [State.orderHold]

@[simp] theorem State.newMaster_core (s : State) (prio master state : Nat) :
    (State.newMaster s prio master state).core = s.core := by simp [State.newMaster]

@[simp] theorem State.elect_core (s : State) (prio master : Nat) : (State.elect s prio master).core = s.core := by
  unfold State.elect
  dsimp only
  repeat' split
  all_goals simp

@[simp] theorem masterLost_core (s : State) : (masterLost s).core = s.core := by simp [masterLost]

theorem State.fastCmd_core {act : State → State} (ha : ∀ u, (act u).core = u.core) (s : State) (i : FastIn) (code : Nat) :
    (s.fastCmd i code act).core = s.core := by
  unfold State.fastCmd
  dsimp only
  refine State.core_of_ite (State.fbBad_core s) (State.core_of_ite rfl (State.core_of_ite (State.core_of_ite ?_ rfl)
    (State.core_of_ite (ha s) ?_)))
  · exact (State.foldl_core (fun u p => u.pushFast_core p _ _) _ _).trans (ha s)
  · split
    next p t e => exact (State.pushFast_core ..).trans (State.core_of_snd e (State.routeTo_core ..))
    next t e => exact State.core_of_snd e (State.routeTo_core ..)

@[simp] theorem fcMtLoad_core (w : FastIn) (s : State) : (fcMtLoad w s).core = s.core :=
  State.fastCmd_core (fun _ => (mtLoad_core _).trans (State.set_core ..)) s w 1

@[simp] theorem forceFreeze_core (w : FastIn) (s : State) : (forceFreeze w s).core = s.core :=
  State.fastCmd_core freezeForce_core s w 4

@[simp] theorem histogramSwap_core (w : FastIn) (s : State) : (histogramSwap w s).core = s.core :=
  State.fastCmd_core histSwapWrite_core s w 5

/-- The announcement of the elected master is judged against machine time. -/
def State.announced (s : State) (elected : Bool) (orbit : Nat) : State :=
  if elected && decide (2 * s.mt.bucket < s.mt.nb) then
    if !s.on CX_MT_STATUS_mt_valid then
      if s.acq then s else { s with mt := { s.mt with held := true, place := some ((orbit + 1) % 2 ^ 32) } }
    else s.iff (orbit != s.mt.orbit) State.timeErr
  else s

theorem State.announced_core (s : State) (elected : Bool) (orbit : Nat) : (s.announced elected orbit).core = s.core := by
  unfold State.announced
  refine State.core_of_ite (State.core_of_ite (State.core_of_ite rfl rfl) ?_) rfl
  exact State.iff_core State.timeErr_core _ _

/-- The master has been elected, and its announcement judged. -/
def State.heard (s : State) (w : Nat) : State :=
  let s := s.elect (bits w 53 8) (bits w 41 12)
  let elected := (s.get FB_TIME_STATUS_state == 1 || s.get FB_TIME_STATUS_state == 3) &&
    s.get FB_TIME_STATUS_master == bits w 41 12 && s.get FB_TIME_STATUS_prio == bits w 53 8
  (s.iff elected fun s => s.set FB_TIME_STATUS_steps (bits w 35 6)).announced elected (bits w 0 32)

theorem State.heard_core (s : State) (w : Nat) : (s.heard w).core = s.core :=
  (State.announced_core ..).trans ((State.iff_core (fun _ => State.set_core ..) _ _).trans (State.elect_core ..))

theorem announce_eq (w : Nat) (s : State) : announce w s =
    if !s.on FB_ADDR_valid then s
    else if bits w 35 6 = 63 then s.heard w
    else (s.heard w).downPorts.foldl
      (fun s q => s.pushSolam q s.nextFrame (.announce (putBits w 35 6 (bits w 35 6 + 1)))) (s.heard w) := rfl

@[simp] theorem announce_core (w : Nat) (s : State) : (announce w s).core = s.core := by
  rw [announce_eq]
  refine State.core_of_ite rfl (State.core_of_ite (s.heard_core w) ?_)
  exact (State.foldl_core (fun u q => u.pushSolam_core q _ _) _ _).trans (s.heard_core w)

end Sys2Proof.Machine
end

section
/-!  -/

namespace Sys2Proof.Machine

open Sys2Proof

@[simp] theorem State.lifeCheck_core (s : State) : (State.lifeCheck s).core = s.core := by simp [State.lifeCheck]

@[simp] theorem State.exposeHit_core (s : State) (w : Nat) : (State.exposeHit s w).core = s.core := by
  simp [State.exposeHit]

@[simp] theorem State.exposeLeak_core (s : State) (i q us : Nat) : (State.exposeLeak s i q us).core = s.core := by
  simp [State.exposeLeak]

@[simp] theorem State.exposeDose_core (s : State) (m q : Nat) : (State.exposeDose s m q).core = s.core := by
  unfold State.exposeDose
  dsimp only
  repeat' split
  all_goals simp

@[simp] theorem tileExpSnap_core (s : State) : (tileExpSnap s).core = s.core := by simp [tileExpSnap]

@[simp] theorem State.loopHit_core (s : State) (w : Nat) : (State.loopHit s w).core = s.core := by simp [State.loopHit]

@[simp] theorem State.loopModes_core (s : State) : (State.loopModes s).core = s.core := by simp [State.loopModes]

@[simp] theorem State.loopTrims_core (s : State) (r : Nat) : (State.loopTrims s r).core = s.core := by
  unfold State.loopTrims
  repeat' first
    | with_reducible rfl
    | split
    | with_reducible refine (State.each_core (fun _ _ => ?_) _ _).trans ?_
    | with_reducible refine (State.set_core ..).trans ?_
    | with_reducible refine (State.setRloop_core ..).trans ?_
    | with_reducible refine State.core_of_ite ?_ ?_

@[simp] theorem loopEnable_core (r : Nat) (en : Bool) (therm target : Nat) (s : State) :
    (loopEnable r en therm target s).core = s.core := by simp [loopEnable]

@[simp] theorem State.loopLaw_core (s : State) (r y : Nat) : (State.loopLaw s r y).core = s.core := by
  simp [State.loopLaw]

@[simp] theorem regionLoopSample_core (r : Nat) (parityOk overrun : Bool) (s : State) :
    (regionLoopSample r parityOk overrun s).core = s.core := by simp [regionLoopSample]

@[simp] theorem State.idFail_core (s : State) (code : Nat) : (State.idFail s code).core = s.core := by
  simp [State.idFail]

@[simp] theorem State.lifeLoad_core (s : State) (b : List Nat) : (State.lifeLoad s b).core = s.core := by
  simp [State.lifeLoad]

@[simp] theorem tileIdReadDone_core (acked : Bool) (bytes : List Nat) (s : State) :
    (tileIdReadDone acked bytes s).core = s.core := by
  unfold tileIdReadDone
  repeat' first
    | with_reducible rfl
    | split
    | with_reducible refine (State.each_core (fun _ _ => ?_) _ _).trans ?_
    | with_reducible refine (State.idFail_core ..).trans ?_
    | with_reducible refine (State.lifeLoad_core ..).trans ?_
    | with_reducible refine (State.set_core ..).trans ?_

@[simp] theorem i2cGo_core (op : Bool) (lenM1 addr : Nat) (s : State) : (i2cGo op lenM1 addr s).core = s.core := by
  simp [i2cGo]

@[simp] theorem State.i2cBuf_core (s : State) (data : List Nat) : (State.i2cBuf s data).core = s.core := by
  unfold State.i2cBuf
  repeat' first
    | with_reducible rfl
    | split
    | with_reducible refine (State.each_core (fun _ _ => ?_) _ _).trans ?_
    | with_reducible refine (State.set_core ..).trans ?_

@[simp] theorem i2cDone_core (acked : Bool) (data : List Nat) (s : State) : (i2cDone acked data s).core = s.core := by
  unfold i2cDone
  dsimp only
  repeat' split
  all_goals simp

@[simp] theorem lifeHoldExpiry_core (s : State) : (lifeHoldExpiry s).core = s.core := by simp [lifeHoldExpiry]

@[simp] theorem tilePresence_core (present : Bool) (s : State) : (tilePresence present s).core = s.core := by
  simp [tilePresence]

@[simp] theorem hitMerge_core (n : Nat) (lateForMap : Bool) (s : State) : (hitMerge n lateForMap s).core = s.core := by
  unfold hitMerge
  split
  · rfl
  next orbit w bad t e =>
    refine State.core_of_ite (State.nextHit_core e) ?_
    with_reducible exact (State.mergeStore_core ..).trans ((State.loopHit_core ..).trans ((State.exposeHit_core ..).trans
      ((State.tgSee_core ..).trans (State.nextHit_core e))))

@[simp] theorem State.iramWrite_core (s : State) (i v : Nat) : (State.iramWrite s i v).core = s.core := by
  simp [State.iramWrite]

@[simp] theorem State.dramWrite_core (s : State) (i v : Nat) : (State.dramWrite s i v).core = s.core := by
  simp [State.dramWrite]

@[simp] theorem State.wdogRestart_core (s : State) : (State.wdogRestart s).core = s.core := by simp [State.wdogRestart]

@[simp] theorem State.coresStart_core (s : State) : (State.coresStart s).core = s.core := by simp [State.coresStart]

@[simp] theorem State.coresHalt_core (s : State) (cause : Nat) : (State.coresHalt s cause).core = s.core := by
  simp [State.coresHalt]

@[simp] theorem State.mgRefused_core (s : State) : (State.mgRefused s).core = s.core := by simp [State.mgRefused]

@[simp] theorem bootClearDone_core (s : State) : (bootClearDone s).core = s.core := by simp [bootClearDone]

@[simp] theorem lockstepDivergence_core (s : State) : (lockstepDivergence s).core = s.core := by
  simp [lockstepDivergence]

@[simp] theorem trapLoop_core (s : State) : (trapLoop s).core = s.core := by simp [trapLoop]

@[simp] theorem watchdogExpiry_core (s : State) : (watchdogExpiry s).core = s.core := by simp [watchdogExpiry]

@[simp] theorem wdogKick_core (s : State) : (wdogKick s).core = s.core := by simp [wdogKick]

@[simp] theorem mgHalt_core (s : State) : (mgHalt s).core = s.core := by simp [mgHalt]

@[simp] theorem mgRestart_core (s : State) : (mgRestart s).core = s.core := by
  unfold mgRestart
  split
  all_goals simp

@[simp] theorem autoRestart_core (recent : Nat) (s : State) : (autoRestart recent s).core = s.core := by
  simp [autoRestart]

@[simp] theorem State.tellUp_core (s : State) (us : Nat) : (State.tellUp s us).core = s.core := by simp [State.tellUp]

@[simp] theorem uptimeRead_core (us : Nat) (s : State) : (uptimeRead us s).core = s.core := by simp [uptimeRead]

@[simp] theorem mtimeCompare_core (s : State) : (mtimeCompare s).core = s.core := by simp [mtimeCompare]

@[simp] theorem imageSwitch_core (s : State) : (imageSwitch s).core = s.core := by simp [imageSwitch]

@[simp] theorem State.imageDone_core (s : State) : (State.imageDone s).core = s.core := by simp [State.imageDone]

@[simp] theorem imageCheckDone_core (s : State) : (imageCheckDone s).core = s.core := by simp [imageCheckDone]

@[simp] theorem imageReady_core (s : State) : (imageReady s).core = s.core := by simp [imageReady]

@[simp] theorem imageTimeout_core (s : State) : (imageTimeout s).core = s.core := by simp [imageTimeout]

@[simp] theorem imageForce_core (s : State) : (imageForce s).core = s.core := by simp [imageForce]

@[simp] theorem State.dramPut_core (s : State) (i : Nat) (bs : List Nat) : (s.dramPut i bs).core = s.core := by
  induction bs generalizing s i with
  | nil => rfl
  | cons b bs ih => exact (ih _ _).trans (State.dramWrite_core ..)

/-- The host has not read the entry at the write pointer: it is lost. -/
def State.logLost (s : State) (wp : Nat) : State :=
  if s.mg.evq.contains wp then
    let s := { s with mg := { s.mg with evq := s.mg.evq.filter (· != wp) } }
    (s.count MG_EVQ_STAT_lost).flag MG_STATUS_evq_lost 182
  else s

theorem State.logLost_core (s : State) (wp : Nat) : (s.logLost wp).core = s.core :=
  State.core_of_ite ((State.flag_core ..).trans ((State.count_core ..).trans (State.core_mk ..))) rfl

@[simp] theorem State.logWrite_core (s : State) (src arg us : Nat) : (s.logWrite src arg us).core = s.core := by
  have hlost := s.logLost_core (s.get MG_EVLOG_wp)
  unfold State.logLost at hlost
  unfold State.logWrite
  refine (State.set_core ..).trans ((State.iff_core (fun u => State.core_mk ..) _ _).trans ((State.set_core ..).trans
    ((State.dramPut_core ..).trans hlost)))

@[simp] theorem eventService_core (us : Nat) (s : State) : (eventService us s).core = s.core := by
  unfold eventService
  split
  · rfl
  · refine State.core_of_ite rfl ?_
    exact (State.iff_core (fun u => State.set_core ..) _ _).trans ((State.iff_core (fun u => State.logWrite_core ..) _ _).trans
      ((State.tellUp_core ..).trans (State.core_mk ..)))

@[simp] theorem evClaimRead_core (s : State) : (evClaimRead s).core = s.core := by
  unfold evClaimRead
  repeat' first
    | with_reducible rfl
    | split
    | with_reducible refine (State.set_core ..).trans ?_

@[simp] theorem evqRead_core (s : State) : (evqRead s).core = s.core := by
  unfold evqRead
  repeat' first
    | with_reducible rfl
    | split
    | with_reducible refine (State.count_core ..).trans ?_
    | with_reducible refine (State.iff_core (fun _ => ?_) _ _).trans ?_
    | with_reducible refine (State.set_core ..).trans ?_
    | with_reducible refine State.core_of_ite ?_ ?_
    | (with_reducible refine (State.core_mk ..).trans ?_; rw [State.core_def])

@[simp] theorem State.hkNext_core (s : State) : (State.hkNext s).core = s.core := by simp [State.hkNext]

@[simp] theorem hkSequenceStart_core (s : State) : (hkSequenceStart s).core = s.core := by simp [hkSequenceStart]

@[simp] theorem State.hkBuffer_core (s : State) (v : Nat) : (s.hkBuffer v).core = s.core := by
  unfold State.hkBuffer
  dsimp only
  have hput (b : Bool) (off : Nat) : (s.iff b fun s => s.dramPut off (bytesOf v 4)).core = s.core :=
    State.iff_core (fun u => u.dramPut_core _ _) _ _
  refine State.core_of_ite ?_ ?_
  · exact (State.flag_core ..).trans ((State.count_core ..).trans ((State.set_core ..).trans ((State.set_core ..).trans
      (hput ..))))
  · exact (State.set_core ..).trans (hput ..)

@[simp] theorem State.hkExpose_core (s : State) (input q us : Nat) (regular : Bool) :
    (State.hkExpose s input q us regular).core = s.core := by simp [State.hkExpose]

@[simp] theorem State.hkCalibrate_core (s : State) : (State.hkCalibrate s).core = s.core := by simp [State.hkCalibrate]

@[simp] theorem hkConversionDone_core (raw us : Nat) (s : State) : (hkConversionDone raw us s).core = s.core := by
  unfold hkConversionDone
  repeat' first
    | with_reducible rfl
    | split
    | with_reducible refine (State.count_core ..).trans ?_
    | with_reducible refine (State.flag_core ..).trans ?_
    | with_reducible refine (State.hkBuffer_core ..).trans ?_
    | with_reducible refine (State.hkCalibrate_core ..).trans ?_
    | with_reducible refine (State.hkExpose_core ..).trans ?_
    | with_reducible refine (State.hkNext_core ..).trans ?_
    | with_reducible refine (State.iff_core (fun _ => ?_) _ _).trans ?_
    | with_reducible refine (State.set_core ..).trans ?_
    | with_reducible refine (State.setHk_core ..).trans ?_
    | with_reducible refine (State.tellUp_core ..).trans ?_

@[simp] theorem hkInject_core (input : Nat) (s : State) : (hkInject input s).core = s.core := by simp [hkInject]

@[simp] theorem hkCal_core (s : State) : (hkCal s).core = s.core := by simp [hkCal]

@[simp] theorem calDone_core (gain offset : Nat) (s : State) : (calDone gain offset s).core = s.core := by
  simp [calDone]

@[simp] theorem hkRefEnable_core (on : Bool) (s : State) : (hkRefEnable on s).core = s.core := by simp [hkRefEnable]

@[simp] theorem hkRefReady_core (s : State) : (hkRefReady s).core = s.core := by simp [hkRefReady]

@[simp] theorem hkRegEnable_core (on : Bool) (s : State) : (hkRegEnable on s).core = s.core := by simp [hkRegEnable]

@[simp] theorem State.passRepaired_core (s : State) : (State.passRepaired s).core = s.core := by
  simp [State.passRepaired]

@[simp] theorem State.wordLasting_core (s : State) (m i : Nat) : (State.wordLasting s m i).core = s.core := by
  unfold State.wordLasting
  repeat' split
  all_goals simp

@[simp] theorem State.trackFault_core (s : State) (cls m i : Nat) : (State.trackFault s cls m i).1.core = s.core := by
  unfold State.trackFault
  dsimp only
  repeat' split
  all_goals simp [*]

@[simp] theorem State.corrected_core (s : State) (found m i : Nat) : (State.corrected s found m i).core = s.core := by
  simp [State.corrected]

@[simp] theorem faultWindowExpiry_core (cls m i : Nat) (s : State) : (faultWindowExpiry cls m i s).core = s.core := by
  simp [faultWindowExpiry]

@[simp] theorem State.recDrop_core (s : State) (id : Nat) : (State.recDrop s id).core = s.core := by
  unfold State.recDrop
  repeat' first
    | with_reducible rfl
    | split
    | with_reducible refine (State.dropPins_core ..).trans ?_
    | with_reducible refine (State.iff_core (fun _ => ?_) _ _).trans ?_
    | with_reducible refine (State.set_core ..).trans ?_
    | with_reducible refine State.core_of_ite ?_ ?_
    | (with_reducible refine (State.core_mk ..).trans ?_; rw [State.core_def])

@[simp] theorem State.waitLost_core (s : State) (c : Nat) : (State.waitLost s c).core = s.core := by
  simp [State.waitLost]

@[simp] theorem State.outLost_core (s : State) (p : Nat) (f : OutFrag) (c : Nat) :
    (State.outLost s p f c).core = s.core := by simp [State.outLost]

@[simp] theorem State.ctxBad_core (s : State) (c i : Nat) : (State.ctxBad s c i).core = s.core := by
  unfold State.ctxBad
  repeat' split
  all_goals simp

@[simp] theorem State.outByteBad_core (s : State) (p : Nat) (f : OutFrag) (n : Nat) :
    (State.outByteBad s p f n).core = s.core := by
  unfold State.outByteBad
  repeat' split
  all_goals simp

@[simp] theorem State.fbufBad_core (s : State) (i : Nat) (owner : Option (Nat × Nat)) :
    (State.fbufBad s i owner).core = s.core := by
  unfold State.fbufBad
  repeat' split
  all_goals simp

@[simp] theorem State.queueBad_core (s : State) (owner : Option (Nat × Nat)) :
    (State.queueBad s owner).core = s.core := by
  unfold State.queueBad
  repeat' split
  all_goals simp

@[simp] theorem State.uncorrAct_core (s : State) (m i : Nat) (owner : Option (Nat × Nat)) :
    (State.uncorrAct s m i owner).core = s.core := by
  unfold State.uncorrAct
  repeat' split
  all_goals simp

@[simp] theorem State.burnishWord_core (s : State) (found m i : Nat) (r : EccResult) (owner : Option (Nat × Nat)) :
    (State.burnishWord s found m i r owner).core = s.core := by simp [State.burnishWord]

@[simp] theorem State.fillRam_core (s : State) : (State.fillRam s).core = s.core := by
  unfold State.fillRam
  split
  all_goals simp

@[simp] theorem State.bufRamPut_core (s : State) (idx mask data : Nat) :
    (State.bufRamPut s idx mask data).core = s.core := by
  unfold State.bufRamPut
  split
  all_goals simp

@[simp] theorem State.entryWrite_core (s : State) (key v : Nat) : (State.entryWrite s key v).core = s.core := by
  simp [State.entryWrite]

@[simp] theorem State.fillTest_core (s : State) : (State.fillTest s).core = s.core := by
  unfold State.fillTest
  split
  all_goals simp

@[simp] theorem State.bufTestPut_core (s : State) (key mask data : Nat) :
    (State.bufTestPut s key mask data).core = s.core := by
  unfold State.bufTestPut
  split
  all_goals simp

@[simp] theorem State.fillRead_core (s : State) (m i : Nat) (r : EccResult) :
    (State.fillRead s m i r).core = s.core := by
  unfold State.fillRead
  split
  all_goals simp

@[simp] theorem mergeBufferTimeout_core (buf : Nat) (r : EccResult) (s : State) :
    (mergeBufferTimeout buf r s).core = s.core := by
  unfold mergeBufferTimeout
  repeat' split
  all_goals simp

@[simp] theorem imageCheckRead_core (s : State) : (imageCheckRead s).core = s.core := by simp [imageCheckRead]

@[simp] theorem patrolRead_core (m : Nat) (r : EccResult) (owner : Option (Nat × Nat)) (s : State) :
    (patrolRead m r owner s).core = s.core := by
  unfold patrolRead
  dsimp only
  repeat' split
  all_goals simp

@[simp] theorem burnishPassGo_core (m : Nat) (s : State) : (burnishPassGo m s).core = s.core := by simp [burnishPassGo]

@[simp] theorem burnishPassAbort_core (s : State) : (burnishPassAbort s).core = s.core := by simp [burnishPassAbort]

@[simp] theorem hostPassRead_core (r : EccResult) (owner : Option (Nat × Nat)) (s : State) :
    (hostPassRead r owner s).core = s.core := by
  unfold hostPassRead
  repeat' split
  all_goals simp

@[simp] theorem burnishDone_core (time : Nat) (s : State) : (burnishDone time s).core = s.core := by
  unfold burnishDone
  split
  all_goals simp

@[simp] theorem burnishWindowEnd_core (s : State) : (burnishWindowEnd s).core = s.core := by
  unfold burnishWindowEnd
  repeat' first
    | with_reducible rfl
    | split
    | with_reducible refine (State.iff_core (fun _ => ?_) _ _).trans ?_
    | with_reducible refine (State.pass_core ..).trans ?_
    | with_reducible refine (State.set_core ..).trans ?_
    | with_reducible refine State.core_of_ite ?_ ?_
    | (with_reducible refine (State.core_mk ..).trans ?_; rw [State.core_def])

@[simp] theorem State.putFields_core (s : State) (fs : List Fld) (v : Nat) :
    (State.putFields s fs v).core = s.core := by
  unfold State.putFields
  repeat' first
    | with_reducible rfl
    | split
    | with_reducible refine (State.each_core (fun _ _ => ?_) _ _).trans ?_
    | with_reducible refine (State.set_core ..).trans ?_

@[simp] theorem State.critPut_core (s : State) (w v : Nat) : (State.critPut s w v).core = s.core := by
  simp [State.critPut]

@[simp] theorem State.cxVote_core (s : State) (w : Nat) (v : Vote) : (State.cxVote s w v).core = s.core := by
  unfold State.cxVote
  split
  all_goals simp

@[simp] theorem State.svVote_core (s : State) (w : Nat) (v : Vote) (sense : Nat) :
    (State.svVote s w v sense).core = s.core := by
  unfold State.svVote
  dsimp only
  split
  all_goals simp

@[simp] theorem criticalWordVote_core (die word : Nat) (copies : List Nat) (sense : Nat) (s : State) :
    (criticalWordVote die word copies sense s).core = s.core := by
  unfold criticalWordVote
  split
  all_goals simp

@[simp] theorem recordBucketReadAll_core (ctx : Nat) (u : ReadUpset) (s : State) :
    (recordBucketReadAll ctx u s).core = s.core := by simp [recordBucketReadAll]

end Sys2Proof.Machine
end

section
/-!  -/

namespace Sys2Proof.Machine

open Sys2Proof

@[simp] theorem State.acqRefused_core (s : State) (cause : Nat) : (State.acqRefused s cause).core = s.core := by
  simp [State.acqRefused]

@[simp] theorem State.acqCancel_core (s : State) (state : Nat) : (State.acqCancel s state).core = s.core := by
  simp [State.acqCancel]

@[simp] theorem State.acqStartAt_core (s : State) (o : Nat) : (State.acqStartAt s o).core = s.core := by
  unfold State.acqStartAt
  repeat' split
  all_goals simp

@[simp] theorem State.acqStopAt_core (s : State) (o : Nat) : (State.acqStopAt s o).core = s.core := by
  unfold State.acqStopAt
  split
  all_goals simp

@[simp] theorem acqStart_core (s : State) : (acqStart s).core = s.core := by simp [acqStart]

@[simp] theorem acqStop_core (s : State) : (acqStop s).core = s.core := by simp [acqStop]

@[simp] theorem State.acqTaken_core (s : State) : (State.acqTaken s).core = s.core := by simp [State.acqTaken]

theorem State.acqFast_core {f : State → Nat → State} (hf : ∀ u o, (f u o).core = u.core) (s : State) (o : Nat) :
    (s.acqFast o f).core = s.core :=
  State.core_of_ite (hf s o) ((hf _ _).trans (State.count_core ..))

@[simp] theorem startAcquisition_core (w : FastIn) (s : State) : (startAcquisition w s).core = s.core :=
  State.fastCmd_core (fun u => State.acqFast_core State.acqStartAt_core u _) s w 2

@[simp] theorem stopAcquisition_core (w : FastIn) (s : State) : (stopAcquisition w s).core = s.core :=
  State.fastCmd_core (fun u => State.acqFast_core State.acqStopAt_core u _) s w 3

@[simp] theorem acquisitionStarts_core (s : State) : (acquisitionStarts s).core = s.core := by
  unfold acquisitionStarts
  repeat' first
    | with_reducible rfl
    | split
    | with_reducible refine (State.acqCancel_core ..).trans ?_
    | with_reducible refine (State.acqRefused_core ..).trans ?_
    | with_reducible refine (State.acqTaken_core ..).trans ?_
    | with_reducible refine (State.chaserReset_core ..).trans ?_
    | with_reducible refine (State.each_core (fun _ _ => ?_) _ _).trans ?_
    | with_reducible refine (State.raise_core ..).trans ?_
    | with_reducible refine (State.set_core ..).trans ?_
    | with_reducible refine (State.setLocal_core ..).trans ?_
    | with_reducible refine State.core_of_ite ?_ ?_
    | (with_reducible refine (State.core_mk ..).trans ?_; rw [State.core_def])

@[simp] theorem acquisitionStops_core (s : State) : (acquisitionStops s).core = s.core := by simp [acquisitionStops]

@[simp] theorem State.feBegin_core (s : State) (n target : Nat) : (State.feBegin s n target).core = s.core := by
  simp [State.feBegin]

@[simp] theorem State.feEnd_core (s : State) (n now : Nat) : (State.feEnd s n now).core = s.core := by
  simp [State.feEnd]

@[simp] theorem State.feAway_core (s : State) (n : Nat) : (State.feAway s n).core = s.core := by simp [State.feAway]

@[simp] theorem State.feBack_core (s : State) (n : Nat) : (State.feBack s n).core = s.core := by simp [State.feBack]

@[simp] theorem State.fePend_core (s : State) (n : Nat) (b : Bool) : (State.fePend s n b).core = s.core := by
  simp [State.fePend]

@[simp] theorem State.feUp_core (s : State) (n : Nat) : (State.feUp s n).core = s.core := by simp [State.feUp]

@[simp] theorem State.feOff_core (s : State) (n : Nat) : (State.feOff s n).core = s.core := by simp [State.feOff]

@[simp] theorem State.feWrite_core (s : State) (n t : Nat) : (State.feWrite s n t).core = s.core := by
  simp [State.feWrite]

@[simp] theorem feServiceWrite_core (v : Nat) (s : State) : (feServiceWrite v s).core = s.core := by
  simp [feServiceWrite]

@[simp] theorem feSvc_core (n : Nat) (s : State) : (feSvc n s).core = s.core := by
  unfold feSvc
  split
  all_goals simp

@[simp] theorem State.feDown_core (s : State) (n : Nat) : (State.feDown s n).core = s.core := by simp [State.feDown]

@[simp] theorem State.quadStop_core (s : State) (q : Nat) : (State.quadStop s q).core = s.core := by
  simp [State.quadStop]

@[simp] theorem State.dataStops_core (s : State) : (State.dataStops s).core = s.core := by simp [State.dataStops]

@[simp] theorem refLost_core (s : State) : (refLost s).core = s.core := by simp [refLost]

@[simp] theorem refBack_core (s : State) : (refBack s).core = s.core := by simp [refBack]

@[simp] theorem State.softStarted_core (s : State) (u : Nat) : (State.softStarted s u).core = s.core := by
  simp [State.softStarted]

@[simp] theorem State.assayRefuse_core (s : State) (cause : Nat) : (State.assayRefuse s cause).core = s.core := by
  simp [State.assayRefuse]

@[simp] theorem State.assayBegin_core (s : State) (block index : Nat) :
    (State.assayBegin s block index).core = s.core := by
  unfold State.assayBegin
  repeat' first
    | with_reducible rfl
    | split
    | with_reducible refine (State.cdTake_core ..).trans ?_
    | with_reducible refine (State.clearMarks_core ..).trans ?_
    | with_reducible refine (State.iff_core (fun _ => ?_) _ _).trans ?_
    | with_reducible refine (State.set_core ..).trans ?_
    | with_reducible refine (State.unlock_core ..).trans ?_
    | (with_reducible refine (State.core_mk ..).trans ?_; rw [State.core_def])

@[simp] theorem assayGo_core (block index : Nat) (s : State) : (assayGo block index s).core = s.core := by
  unfold assayGo
  dsimp only
  repeat' split
  all_goals simp

@[simp] theorem assayAbort_core (s : State) : (assayAbort s).core = s.core := by simp [assayAbort]

@[simp] theorem assayDone_core (part fails first ms : Nat) (s : State) :
    (assayDone part fails first ms s).core = s.core := by simp [assayDone]

@[simp] theorem State.rateStart_core (s : State) : (State.rateStart s).core = s.core := by simp [State.rateStart]

/-- Quads, lanes, region latches and banks follow the committed plate. -/
def State.commitParts (s : State) (was : PlateRd) : State :=
  let s := s.each (List.range 12) fun s q => s.quadCommit was q
  let s := s.each (List.range 48) fun s n => s.laneCommit was n
  let s := s.each (List.range 96) fun s r => s.loadLatch r (s.rd (fRegion r) 0)
  s.commitBanks

theorem State.commitParts_core (s : State) (was : PlateRd) : (s.commitParts was).core = s.core :=
  (State.commitBanks_core _).trans ((State.each_core (fun u r => u.loadLatch_core r _) _ _).trans
    ((State.each_core (fun u n => u.laneCommit_core was n) _ _).trans
      (State.each_core (fun u q => u.quadCommit_core was q) _ _)))

/-- FE dies and chasers follow the committed service map. -/
def State.commitDies (s : State) : State :=
  let s := s.each (List.range 3) fun s n =>
    if !smFe s.shadowRd n && s.get (feFld n) == 0 then (s.feWrite n 1).critNext 22 else s
  s.iff s.stage6Out fun s => s.each (List.range 32) fun s c =>
    (s.set (TG_CHSTAT_state c) 0).set (TG_CHSTAT_out c) 0

theorem State.commitDies_core (s : State) : s.commitDies.core = s.core := by
  unfold State.commitDies
  refine (State.iff_core (fun u => ?_) _ _).trans (State.each_core (fun u n => ?_) _ _)
  · exact State.each_core (fun v c => (State.set_core ..).trans (State.set_core ..)) _ _
  exact State.core_of_ite ((State.critNext_core ..).trans (u.feWrite_core n 1)) rfl

theorem State.commitApply_eq (s : State) (was : PlateRd) :
    s.commitApply was = (s.commitParts was).commitDies.updConflict.fwdCheck.loopModes.rateStart.assayCheck := rfl

@[simp] theorem State.commitApply_core (s : State) (was : PlateRd) : (s.commitApply was).core = s.core := by
  rw [State.commitApply_eq]
  simp [State.commitDies_core, State.commitParts_core]

@[simp] theorem plateCommitDone_core (s : State) : (plateCommitDone s).core = s.core := by
  unfold plateCommitDone
  repeat' split
  all_goals simp

@[simp] theorem State.defer_core (s : State) (k : Nat) : (State.defer s k).core = s.core := by simp [State.defer]

@[simp] theorem State.activityStart_core (s : State) (a : DueAct) : (State.activityStart s a).core = s.core := by
  unfold State.activityStart
  repeat' first
    | with_reducible rfl
    | split
    | with_reducible refine (State.cdRefuse_core ..).trans ?_
    | with_reducible refine (State.cdSliceStart_core ..).trans ?_
    | with_reducible refine (State.iff_core (fun _ => ?_) _ _).trans ?_
    | with_reducible refine (State.pass_core ..).trans ?_
    | with_reducible refine (State.set_core ..).trans ?_
    | with_reducible refine State.core_of_ite ?_ ?_
    | (with_reducible refine (State.core_mk ..).trans ?_; rw [State.core_def])

@[simp] theorem disruptiveActivityStart_core (s : State) : (disruptiveActivityStart s).core = s.core := by
  unfold disruptiveActivityStart
  dsimp only
  repeat' split
  all_goals simp

@[simp] theorem reloadStart_core (readBackOk : Bool) (s : State) : (reloadStart readBackOk s).core = s.core := by
  simp [reloadStart]

@[simp] theorem State.unitRestart_core (s : State) : (State.unitRestart s).core = s.core := by
  unfold State.unitRestart
  dsimp only
  split
  all_goals simp

@[simp] theorem reloadRelease_core (s : State) : (reloadRelease s).core = s.core := by simp [reloadRelease]

@[simp] theorem State.riseBefore_core (s : State) (r : RegAt) : (s.riseBefore r).core = s.core := by
  unfold State.riseBefore
  dsimp only
  refine State.core_of_ite ?_ (State.core_of_ite ?_ (State.core_of_ite ?_ (State.core_of_ite ?_ (State.core_of_ite ?_
    (State.core_of_ite rfl (State.core_of_ite ?_ rfl))))))
  · exact State.iff_core (fun u => u.rise_core _) _ _
  · exact State.iff_core (fun u => u.rise_core _) _ _
  · exact (State.iff_core (fun u => (State.set_core ..).trans (State.rise_core ..)) _ _).trans
      (State.iff_core (fun u => u.rise_core _) _ _)
  · exact State.iff_core (fun u => u.rise_core _) _ _
  · exact State.iff_core (fun u => (State.set_core ..).trans u.draw_core) _ _
  · exact State.iff_core State.missStopped_core _ _

@[simp] theorem State.readBefore_core (s : State) (r : RegAt) : (State.readBefore s r).core = s.core := by
  simp [State.readBefore]

@[simp] theorem State.readAfter_core (s : State) (r : RegAt) : (State.readAfter s r).core = s.core := by
  unfold State.readAfter
  repeat' first
    | with_reducible rfl
    | split
    | with_reducible refine (State.each_core (fun _ _ => ?_) _ _).trans ?_
    | with_reducible refine (State.iff_core (fun _ => ?_) _ _).trans ?_
    | with_reducible refine (State.set_core ..).trans ?_
    | with_reducible refine (State.setDie_core ..).trans ?_
    | with_reducible refine (State.setLane_core ..).trans ?_
    | with_reducible refine State.core_of_ite ?_ ?_
    | (with_reducible refine (State.core_mk ..).trans ?_; rw [State.core_def])

theorem State.drawFields_core (l : List (Fld × (Nat → Nat))) (s : State) : (s.drawFields l).2.core = s.core := by
  induction l generalizing s with
  | nil => rfl
  | cons e l ih => exact (ih _).trans s.draw_core

@[simp] theorem State.readReg_core (s : State) (r : RegAt) : (s.readReg r).2.core = s.core := by
  unfold State.readReg
  split
  · rfl
  · have hbefore := s.readBefore_core r
    dsimp only
    generalize s.readBefore r = a at hbefore ⊢
    have hdrawn := State.drawFields_core (a.openFields r) a
    generalize a.drawFields (a.openFields r) = p at hdrawn ⊢
    exact (p.2.readAfter_core r).trans (hdrawn.trans hbefore)

end Sys2Proof.Machine
end

section
/-! SUPPORT. No write of a register moves machine time or reaches the test access port. -/

namespace Sys2Proof.Machine

open Sys2Proof

@[simp] theorem State.writeField_core (v : Nat) (s : State) (f : Fld) : (State.writeField v s f).core = s.core := by
  unfold State.writeField
  split
  all_goals simp

@[simp] theorem State.storeReg_core (s : State) (r : RegAt) (v : Nat) : (State.storeReg s r v).core = s.core := by
  simp [State.storeReg]

@[simp] theorem State.storeW1c_core (s : State) (r : RegAt) (v : Nat) : (State.storeW1c s r v).core = s.core := by
  simp [State.storeW1c]

@[simp] theorem State.keepPeriod_core (s : State) (fs : List Fld) (d : Nat) :
    (State.keepPeriod s fs d).core = s.core := by simp [State.keepPeriod]

@[simp] theorem State.atLeast1_core (s : State) (f : Fld) (v : Nat) : (State.atLeast1 s f v).core = s.core := by
  simp [State.atLeast1]

@[simp] theorem fbUpWrite_core (r : RegAt) (v : Nat) (s : State) : (fbUpWrite r v s).core = s.core := by
  simp [fbUpWrite]

@[simp] theorem fbCtrlWrite_core (r : RegAt) (v : Nat) (s : State) : (fbCtrlWrite r v s).core = s.core := by
  unfold fbCtrlWrite
  repeat' first
    | with_reducible rfl
    | split
    | with_reducible refine (State.dataReturn_core ..).trans ?_
    | with_reducible refine (State.each_core (fun _ _ => ?_) _ _).trans ?_
    | with_reducible refine (State.iff_core (fun _ => ?_) _ _).trans ?_
    | with_reducible refine (State.rerouted_core ..).trans ?_
    | with_reducible refine (State.set_core ..).trans ?_
    | with_reducible refine (State.storeReg_core ..).trans ?_
    | with_reducible refine (timeFollow_core ..).trans ?_
    | with_reducible refine State.core_of_ite ?_ ?_
    | (with_reducible refine (State.core_mk ..).trans ?_; rw [State.core_def])

@[simp] theorem dmaGo_core (c : Nat) (s : State) : (dmaGo c s).core = s.core := by simp [dmaGo]

@[simp] theorem dmaAbort_core (c : Nat) (s : State) : (dmaAbort c s).core = s.core := by
  unfold dmaAbort
  split
  all_goals simp

/-- What an operation answers, where it answers, has the core `c`. -/
def OptCore (c : (Nat × Nat × Nat) × Tap) (o : Option State) : Prop := ∀ t, o = some t → t.core = c

theorem OptCore.none {c : (Nat × Nat × Nat) × Tap} : OptCore c none := by
  intro t e
  cases e

theorem OptCore.some {c : (Nat × Nat × Nat) × Tap} {s : State} (h : s.core = c) : OptCore c (some s) := by
  intro t e
  cases e
  exact h

theorem OptCore.ite {c : (Nat × Nat × Nat) × Tap} {p : Prop} [Decidable p] {a b : Option State} (ha : OptCore c a)
    (hb : OptCore c b) : OptCore c (if p then a else b) := by
  split
  · exact ha
  · exact hb

theorem OptCore.orElse {c : (Nat × Nat × Nat) × Tap} {a b : Option State} (ha : OptCore c a) (hb : OptCore c b) :
    OptCore c (a <|> b) := by
  intro t e
  cases a with
  | none => exact hb t e
  | some x => exact ha t e

@[simp] theorem State.shutOut_core {refuse : State → State} (hr : ∀ u, (refuse u).core = u.core) (s : State) (f : Fld)
    (v : Nat) : (s.shutOut f v refuse).core = s.core := State.core_of_ite (hr s) rfl

@[simp] theorem State.guarded_core {refuse : State → State} (hr : ∀ u, (refuse u).core = u.core) (s : State) (f : Fld)
    (v : Nat) : (s.guarded f v refuse).core = s.core := State.core_of_ite rfl (State.core_of_ite (hr s) rfl)

theorem writePlate_core (src : Source) (r : RegAt) (v : Nat) (s : State) : OptCore s.core (writePlate src r v s) := by
  unfold writePlate
  repeat' first
    | with_reducible rfl
    | with_reducible refine OptCore.ite ?_ ?_
    | with_reducible refine OptCore.some ?_
    | with_reducible exact OptCore.none
    | split
    | with_reducible refine (State.iff_core (fun _ => ?_) _ _).trans ?_
    | with_reducible refine (State.storeReg_core ..).trans ?_
    | with_reducible refine (plateAbort_core ..).trans ?_
    | with_reducible refine (plateCommit_core ..).trans ?_
    | with_reducible refine (plateFcrcWrite_core ..).trans ?_
    | with_reducible refine (plateOpen_core ..).trans ?_
    | with_reducible refine (reloadCancel_core ..).trans ?_
    | with_reducible refine (reloadGo_core ..).trans ?_

theorem writeTime_core (r : RegAt) (v : Nat) (s : State) : OptCore s.core (writeTime r v s) := by
  unfold writeTime
  repeat' first
    | with_reducible rfl
    | with_reducible refine OptCore.ite ?_ ?_
    | with_reducible refine OptCore.some ?_
    | with_reducible exact OptCore.none
    | split
    | with_reducible refine (State.critNext_core ..).trans ?_
    | with_reducible refine (State.iff_core (fun _ => ?_) _ _).trans ?_
    | with_reducible refine (State.keepOld_core ..).trans ?_
    | with_reducible refine (State.set_core ..).trans ?_
    | with_reducible refine (State.storeReg_core ..).trans ?_
    | with_reducible refine (State.storeW1c_core ..).trans ?_
    | with_reducible refine (State.tickNow_core ..).trans ?_
    | with_reducible refine (mtLoad_core ..).trans ?_
    | with_reducible refine (mtSnap_core ..).trans ?_
    | with_reducible refine (sourceSelect_core ..).trans ?_

theorem writeFe_core (r : RegAt) (v : Nat) (s : State) : OptCore s.core (writeFe r v s) := by
  unfold writeFe
  repeat' first
    | with_reducible rfl
    | with_reducible refine OptCore.ite ?_ ?_
    | with_reducible refine OptCore.some ?_
    | with_reducible exact OptCore.none
    | split
    | with_reducible refine (State.atLeast1_core ..).trans ?_
    | with_reducible refine (State.iff_core (fun _ => ?_) _ _).trans ?_
    | with_reducible refine (State.keepOld_core ..).trans ?_
    | with_reducible refine (State.keepOldFe_core ..).trans ?_
    | with_reducible refine (State.keepTables_core ..).trans ?_
    | with_reducible refine (State.set_core ..).trans ?_
    | with_reducible refine (State.storeReg_core ..).trans ?_
    | with_reducible refine (automaskClear_core ..).trans ?_
    | with_reducible refine (binTableWrite_core ..).trans ?_
    | with_reducible refine (cdAbort_core ..).trans ?_
    | with_reducible refine (cdFullRun_core ..).trans ?_
    | with_reducible refine (channelConfigWrite_core ..).trans ?_
    | with_reducible refine (relock_core ..).trans ?_

theorem writeData_core (r : RegAt) (v : Nat) (s : State) : OptCore s.core (writeData r v s) := by
  unfold writeData
  repeat' first
    | with_reducible rfl
    | with_reducible refine OptCore.ite ?_ ?_
    | with_reducible refine OptCore.some ?_
    | with_reducible exact OptCore.none
    | split
    | with_reducible refine (State.atLeast1_core ..).trans ?_
    | with_reducible refine (State.busyEval_core ..).trans ?_
    | with_reducible refine (State.each_core (fun _ _ => ?_) _ _).trans ?_
    | with_reducible refine (State.flag_core ..).trans ?_
    | with_reducible refine (State.guarded_core (fun _ => ?_) _ _ _).trans ?_
    | with_reducible refine (State.iff_core (fun _ => ?_) _ _).trans ?_
    | with_reducible refine (State.keepPeriod_core ..).trans ?_
    | with_reducible refine (State.set_core ..).trans ?_
    | with_reducible refine (State.shutOut_core (fun _ => ?_) _ _ _).trans ?_
    | with_reducible refine (State.storeReg_core ..).trans ?_
    | with_reducible refine (State.storeW1c_core ..).trans ?_
    | with_reducible refine (bankRetire_core ..).trans ?_
    | with_reducible refine (depthReset_core ..).trans ?_
    | with_reducible refine (dumpGo_core ..).trans ?_
    | with_reducible refine (freezeArm_core ..).trans ?_
    | with_reducible refine (freezeDisarm_core ..).trans ?_
    | with_reducible refine (freezeForce_core ..).trans ?_
    | with_reducible refine (histSwapWrite_core ..).trans ?_
    | with_reducible refine (hqFlush_core ..).trans ?_

theorem writeLane_core (src : Source) (r : RegAt) (v : Nat) (s : State) : OptCore s.core (writeLane src r v s) := by
  unfold writeLane
  repeat' first
    | with_reducible rfl
    | with_reducible refine OptCore.ite ?_ ?_
    | with_reducible refine OptCore.some ?_
    | with_reducible exact OptCore.none
    | split
    | with_reducible refine (State.iff_core (fun _ => ?_) _ _).trans ?_
    | with_reducible refine (State.set_core ..).trans ?_
    | with_reducible refine (laneLoopSelect_core ..).trans ?_
    | with_reducible refine (laneOut_core ..).trans ?_
    | with_reducible refine (lanePowerRequest_core ..).trans ?_
    | with_reducible refine (slipWrite_core ..).trans ?_
    | with_reducible refine (spareServeWrite_core ..).trans ?_

theorem writeFabric_core (r : RegAt) (v : Nat) (s : State) : OptCore s.core (writeFabric r v s) := by
  unfold writeFabric
  repeat' first
    | with_reducible rfl
    | with_reducible refine OptCore.ite ?_ ?_
    | with_reducible refine OptCore.some ?_
    | with_reducible exact OptCore.none
    | split
    | with_reducible refine (State.atLeast1_core ..).trans ?_
    | with_reducible refine (State.critNext_core ..).trans ?_
    | with_reducible refine (State.fbRefuse_core ..).trans ?_
    | with_reducible refine (State.set_core ..).trans ?_
    | with_reducible refine (State.storeReg_core ..).trans ?_
    | with_reducible refine (discAssign_core ..).trans ?_
    | with_reducible refine (discProbe_core ..).trans ?_
    | with_reducible refine (fbCtrlWrite_core ..).trans ?_
    | with_reducible refine (fbUpWrite_core ..).trans ?_

theorem writePower_core (r : RegAt) (v : Nat) (s : State) : OptCore s.core (writePower r v s) := by
  unfold writePower
  repeat' first
    | with_reducible rfl
    | with_reducible refine OptCore.ite ?_ ?_
    | with_reducible refine OptCore.some ?_
    | with_reducible exact OptCore.none
    | split
    | with_reducible refine (State.atLeast1_core ..).trans ?_
    | with_reducible refine (State.iff_core (fun _ => ?_) _ _).trans ?_
    | with_reducible refine (State.set_core ..).trans ?_
    | with_reducible refine (State.storeReg_core ..).trans ?_
    | with_reducible refine (State.storeW1c_core ..).trans ?_
    | with_reducible refine (State.swapPeriod_core ..).trans ?_
    | with_reducible refine (biasDisable_core ..).trans ?_
    | with_reducible refine (biasEnable_core ..).trans ?_
    | with_reducible refine (burnishPassAbort_core ..).trans ?_
    | with_reducible refine (burnishPassGo_core ..).trans ?_
    | with_reducible refine (leCommit_core ..).trans ?_
    | with_reducible refine (leUseHost_core ..).trans ?_
    | with_reducible refine (puFaultClear_core ..).trans ?_
    | with_reducible refine (puOut_core ..).trans ?_
    | with_reducible refine (swapNow_core ..).trans ?_

theorem writeMgmt_core (src : Source) (r : RegAt) (v : Nat) (s : State) : OptCore s.core (writeMgmt src r v s) := by
  unfold writeMgmt
  repeat' first
    | with_reducible rfl
    | with_reducible refine OptCore.ite ?_ ?_
    | with_reducible refine OptCore.some ?_
    | with_reducible exact OptCore.none
    | split
    | with_reducible refine (State.atLeast1_core ..).trans ?_
    | with_reducible refine (State.iff_core (fun _ => ?_) _ _).trans ?_
    | with_reducible refine (State.set_core ..).trans ?_
    | with_reducible refine (State.storeReg_core ..).trans ?_
    | with_reducible refine (State.wdogRestart_core ..).trans ?_
    | with_reducible refine (acqStart_core ..).trans ?_
    | with_reducible refine (acqStop_core ..).trans ?_
    | with_reducible refine (assayAbort_core ..).trans ?_
    | with_reducible refine (assayGo_core ..).trans ?_
    | with_reducible refine (feServiceWrite_core ..).trans ?_
    | with_reducible refine (hkCal_core ..).trans ?_
    | with_reducible refine (hkInject_core ..).trans ?_
    | with_reducible refine (hkRefEnable_core ..).trans ?_
    | with_reducible refine (hkRegEnable_core ..).trans ?_
    | with_reducible refine (i2cGo_core ..).trans ?_
    | with_reducible refine (imageForce_core ..).trans ?_
    | with_reducible refine (imageReady_core ..).trans ?_
    | with_reducible refine (imageSwitch_core ..).trans ?_
    | with_reducible refine (loopEnable_core ..).trans ?_
    | with_reducible refine (mgHalt_core ..).trans ?_
    | with_reducible refine (mgRestart_core ..).trans ?_
    | with_reducible refine (tileExpSnap_core ..).trans ?_
    | with_reducible refine State.core_of_ite ?_ ?_
    | (with_reducible refine (State.core_mk ..).trans ?_; rw [State.core_def])

theorem writeDma_core (r : RegAt) (v : Nat) (s : State) : OptCore s.core (writeDma r v s) := by
  unfold writeDma
  repeat' first
    | with_reducible rfl
    | with_reducible refine OptCore.ite ?_ ?_
    | with_reducible refine OptCore.some ?_
    | with_reducible exact OptCore.none
    | split
    | with_reducible refine (State.iff_core (fun _ => ?_) _ _).trans ?_
    | with_reducible refine (State.storeReg_core ..).trans ?_
    | with_reducible refine (dmaAbort_core ..).trans ?_
    | with_reducible refine (dmaGo_core ..).trans ?_

@[simp] theorem State.writeReg_core (s : State) (src : Source) (r : RegAt) (v : Nat) : (s.writeReg src r v).core = s.core := by
  unfold State.writeReg
  split
  next t e =>
    exact OptCore.orElse (writePlate_core src r v s) (OptCore.orElse (writeTime_core r v s) (OptCore.orElse
      (writeFe_core r v s) (OptCore.orElse (writeData_core r v s) (OptCore.orElse (writeLane_core src r v s)
      (OptCore.orElse (writeFabric_core r v s) (OptCore.orElse (writePower_core r v s) (OptCore.orElse
      (writeMgmt_core src r v s) (writeDma_core r v s)))))))) t e
  next => exact State.storeReg_core ..

end Sys2Proof.Machine
end

section
/-! SUPPORT. No transaction moves machine time or reaches the test access port. -/

namespace Sys2Proof.Machine

open Sys2Proof

@[simp] theorem State.ctError_core (s : State) (p : Path) (code a : Nat) :
    (State.ctError s p code a).core = s.core := by simp [State.ctError]

@[simp] theorem State.codedRead_core (s : State) (m i v : Nat) (r : EccResult) :
    (State.codedRead s m i v r).2.2.core = s.core := by
  unfold State.codedRead
  repeat' split
  all_goals simp

@[simp] theorem State.plateRead_core (s : State) (a : Nat) (r : EccResult) :
    (State.plateRead s a r).2.2.core = s.core := by
  unfold State.plateRead
  split
  all_goals simp

@[simp] theorem State.iramRead_core (s : State) (a : Nat) (r : EccResult) :
    (State.iramRead s a r).2.2.core = s.core := by simp [State.iramRead]

@[simp] theorem State.histRead_core (s : State) (a : Nat) : (State.histRead s a).2.core = s.core := by
  unfold State.histRead
  dsimp only
  repeat' split
  all_goals simp

@[simp] theorem State.regRead_core (s : State) (a : Nat) : (State.regRead s a).2.2.core = s.core := by
  unfold State.regRead
  dsimp only
  repeat' split
  all_goals simp

@[simp] theorem State.blockRead_core (s : State) (a : Nat) (r : EccResult) :
    (State.blockRead s a r).2.2.core = s.core := by
  unfold State.blockRead
  dsimp only
  repeat' split
  all_goals simp

@[simp] theorem State.dramRead_core (s : State) (off be : Nat) (r : EccResult) :
    (s.dramRead off be r).2.2.core = s.core := by
  unfold State.dramRead
  refine (State.foldlSnd2_core (fun q k => ?_) _ _).trans rfl
  have hcode (found : EccResult) := q.2.2.codedRead_core memDram (off + k) (q.2.2.dramByte (off + k)) found
  dsimp only
  generalize (if ((List.range 4).filter fun k => bit be k).head? = some k then r else .clean) = found
  have hfound := hcode found
  generalize q.2.2.codedRead memDram (off + k) (q.2.2.dramByte (off + k)) found = x at hfound ⊢
  split
  · exact hfound
  · exact hfound

@[simp] theorem State.busRead_core (s : State) (a be : Nat) (r : EccResult) :
    (State.busRead s a be r).2.2.core = s.core := by
  unfold State.busRead
  repeat' split
  all_goals simp

@[simp] theorem State.dramStore_core (s : State) (off data be : Nat) :
    (State.dramStore s off data be).core = s.core := by simp [State.dramStore]

@[simp] theorem State.busWrite_core (s : State) (t : Txn) : (State.busWrite s t).core = s.core := by
  unfold State.busWrite
  dsimp only
  repeat' split
  all_goals simp

@[simp] theorem State.answered_core (s : State) (t : Txn) (status data : Nat) :
    (State.answered s t status data).core = s.core := by simp [State.answered]

@[simp] theorem State.transact_core (s : State) (t : Txn) (r : EccResult) : (State.transact s t r).core = s.core := by
  simp [State.transact]

@[simp] theorem State.serve_core (s : State) (m : CtMsg) (src : Source) (r : EccResult) (full : Bool) :
    (State.serve s m src r full).core = s.core := by simp [State.serve]

@[simp] theorem State.dmaHalt_core (s : State) (c err : Nat) : (State.dmaHalt s c err).core = s.core := by
  simp [State.dmaHalt]

@[simp] theorem dmaWordTransfer_core (c : Nat) (r : EccResult) (s : State) : (dmaWordTransfer c r s).core = s.core := by
  unfold dmaWordTransfer
  split
  all_goals simp

@[simp] theorem State.entryValue_core (s : State) (bank row : Nat) : (State.entryValue s bank row).2.core = s.core := by
  unfold State.entryValue
  dsimp only
  split
  all_goals simp

@[simp] theorem State.entryRead_core (s : State) (bank row : Nat) (r : EccResult) :
    (State.entryRead s bank row r).2.2.core = s.core := by
  unfold State.entryRead
  dsimp only
  repeat' split
  all_goals simp

@[simp] theorem readRequest_core (m : CtMsg) (r : EccResult) (full : Bool) (s : State) :
    (readRequest m r full s).core = s.core := State.request_core (fun u => u.serve_core m _ r full) s m 0

@[simp] theorem writeRequest_core (m : CtMsg) (lane : Option Nat) (full : Bool) (s : State) :
    (writeRequest m lane full s).core = s.core := State.request_core (fun u => u.serve_core m _ .clean full) s m 1

@[simp] theorem registerWrite_core (path : Path) (addr data be : Nat) (s : State) :
    (registerWrite path addr data be s).core = s.core := by simp [registerWrite]

@[simp] theorem readClear_core (path : Path) (addr be : Nat) (s : State) :
    (readClear path addr be s).core = s.core := by simp [readClear]

end Sys2Proof.Machine
end

section
/-! SUPPORT and PROOF. The test access port (R532 to R535). -/

namespace Sys2Proof.Machine

open Sys2Proof

/-! ## Instructions of the port (R532) -/

theorem exec_bypass {x : Nat} (hx : x < 256) (h : [0x00, 0x01, 0x02, 0x20, 0x21].contains x = false) (s : State) :
    exec (.bypass x) s = .next (bypass x s) :=
  effect_of_wf (c := .bypass x) (by simpa [Instr.wf, hx] using h) (bypass x) s

theorem exec_samplePreload {a b : Nat} (ha : a < 2 ^ 23) (hb : b < 2 ^ 23) (s : State) :
    exec (.samplePreload a b) s = .next (samplePreload a b s) :=
  effect_of_wf (c := .samplePreload a b) (by simp only [Instr.wf, Bool.and_eq_true, decide_eq_true_eq]; omega)
    (samplePreload a b) s

theorem exec_extest {v : Nat} (hv : v < 2 ^ 23) (s : State) : exec (.extest v) s = .next (extest v s) :=
  effect_of_wf (c := .extest v) (decide_eq_true hv) (extest v) s

theorem exec_ctrlAccess {dr : Nat} (hdr : dr < 2 ^ 72) (r : EccResult) (early : Bool) (s : State) :
    exec (.ctrlAccess dr r early) s = .next (ctrlAccess dr r early s) :=
  effect_of_wf (c := .ctrlAccess dr r early) (decide_eq_true hdr) (ctrlAccess dr r early) s

theorem exec_hsEntry {dr : Nat} (hdr : dr < 2 ^ 104) (r : EccResult) (s : State) :
    exec (.hsEntry dr r) s = .next (hsEntry dr r s) :=
  effect_of_wf (c := .hsEntry dr r) (decide_eq_true hdr) (hsEntry dr r) s

/-- The cells drive `v`, and the lands show a free value. -/
def State.driven (s : State) (v : Nat) : State := (s.draw.2.tapRun 0x00 (s.draw.1.toNat % 2 ^ 23)).boundary v

theorem extest_eq (v : Nat) (s : State) :
    extest v s = (s.driven v).iff ((s.driven v).get CX_TILE_I2C_CTRL_state == 1) fun s => s.i2cError 5 := rfl

theorem State.driven_get (s : State) (v : Nat) (f : Fld) : (s.driven v).get f = s.get f := rfl

theorem State.driven_tap (s : State) {v : Nat} (hv : v < 2 ^ 23) : (s.driven v).svc.tap.ir = 0 ∧
    (s.driven v).svc.tap.boundary = v ∧ (s.driven v).svc.tap.ctrl = s.svc.tap.ctrl :=
  ⟨rfl, Nat.mod_eq_of_lt hv, rfl⟩

theorem State.driven_frame (s : State) (v : Nat) : Frame [.svc, .free] [] s (s.driven v) :=
  ((Frame.refl [.svc, .free] [] s).with_free (s.free + 1) (by decide)).with_svc _ (by decide)

/-! ## CTRL_ACCESS (R533) -/

/-- What the next capture takes. -/
def State.ctrlHeld (s : State) (c : Nat) : State := { s with svc := { s.svc with tap := { s.svc.tap with ctrl := c } } }

theorem State.ctrlHeld_frame (s : State) (c : Nat) : Frame [.svc] [] s (s.ctrlHeld c) :=
  (Frame.refl [.svc] [] s).with_svc _ (by decide)

theorem State.tapRun_frame (s : State) (ir tdo : Nat) : Frame [.svc] [] s (s.tapRun ir tdo) :=
  (Frame.refl [.svc] [] s).with_svc _ (by decide)

/-- The transaction that `dr` spells. -/
def scanned (dr : Nat) : Txn := ⟨⟨.test, none⟩, bit dr 71, bits dr 32 32, bits dr 0 32, bits dr 67 4⟩

/-- The machine after the access that `dr` spells. -/
def State.scanRun (s : State) (dr : Nat) (r : EccResult) : State :=
  (s.tapRun 0x20 s.svc.tap.ctrl).transact (scanned dr) r

theorem ctrlAccess_done (dr : Nat) (r : EccResult) (s : State) : ctrlAccess dr r false s =
    (s.scanRun dr r).ctrlHeld (2 ^ 71 + (s.scanRun dr r).answer.1 * 2 ^ 67 + bits dr 32 32 * 2 ^ 32 +
      (s.scanRun dr r).answer.2) := rfl

theorem State.scanRun_tap (s : State) (dr : Nat) (r : EccResult) :
    (s.scanRun dr r).svc.tap = { s.svc.tap with ir := 0x20, tdo := s.svc.tap.ctrl } :=
  congrArg Prod.snd (State.transact_core (s.tapRun 0x20 s.svc.tap.ctrl) (scanned dr) r)

theorem State.scanRun_error (s : State) {dr : Nat} (h : 0x60000000 ≤ bits dr 32 32) (r : EccResult) :
    ErrorAnswered (s.tapRun 0x20 s.svc.tap.ctrl) (s.scanRun dr r) 1 ∧ (s.scanRun dr r).get CX_CT_ERR_path = 1 ∧
      (s.scanRun dr r).get CX_CT_ERR_ADDR_addr = bits dr 32 32 := by
  have heq : s.scanRun dr r = (s.tapRun 0x20 s.svc.tap.ctrl).answered (scanned dr) 1 0 := by
    have herr := (s.tapRun 0x20 s.svc.tap.ctrl).txnError_of_high (t := scanned dr) h
    rw [State.scanRun, State.transact_of_error (by rw [herr]; decide), herr]
  rw [heq]
  generalize s.tapRun 0x20 s.svc.tap.ctrl = a
  refine ⟨a.answered_errorAnswered (scanned dr) (by decide) (by decide) 0, ?_, ?_⟩
  · rw [State.answered_of_error (by decide), State.get_with_answer]
    unfold State.ctError
    dsimp only
    simp (disch := decide) only [State.get_flag_ne, State.get_count_ne, State.get_set_ne]
    exact State.get_set_fit _ _ (v := 1) (by decide)
  · rw [State.answered_of_error (by decide), State.get_with_answer]
    unfold State.ctError
    dsimp only
    simp (disch := decide) only [State.get_flag_ne, State.get_count_ne, State.get_set_ne]
    exact State.get_set_fit _ _ (bits_lt dr 32 32)

/-! ## HS_ENTRY (R534, R535) -/

/-- What the next capture of the hit store takes. -/
def State.hsHeld (s : State) (bank row result data : Nat) : State :=
  { s with svc := { s.svc with tap := { s.svc.tap with
      hs := 2 ^ 103 + result * 2 ^ 100 + bank * 2 ^ 91 + row * 2 ^ 71 + data } } }

theorem State.hsHeld_frame (s : State) (bank row result data : Nat) :
    Frame [.svc] [] s (s.hsHeld bank row result data) :=
  (Frame.refl [.svc] [] s).with_svc _ (by decide)

/-- What `dr` spells: a write or a read, byte enables, bank, row and data. -/
structure HsSpelt (dr be bank row v : Nat) (write : Bool) : Prop where
  lt : dr < 2 ^ 104
  write : bit dr 103 = write
  be : bits dr 95 8 = be
  bank : bits dr 91 4 = bank
  row : bits dr 71 20 = row
  data : bits dr 0 64 = v

theorem hsSpelt (w be bank row v : Nat) (hw : w < 2) (hbe : be < 256) (hbank : bank < 16) (hrow : row < 2 ^ 20)
    (hv : v < 2 ^ 64) :
    HsSpelt (2 ^ 103 * w + 2 ^ 95 * be + 2 ^ 91 * bank + 2 ^ 71 * row + v) be bank row v (decide (w = 1)) := by
  refine ⟨by omega, ?_, ?_, ?_, ?_, ?_⟩
  · rw [bit, Nat.testBit_eq_decide_div_mod_eq, decide_eq_decide]
    omega
  all_goals
    unfold bits
    omega

/-- The merge buffer of the test path is dropped where it is open on the word. -/
def State.ownDropped (s : State) (key : Nat) : State :=
  if ((s.prot.bufTest.map (·.word)) == some key) = true then { s with prot := { s.prot with bufTest := none } } else s

theorem State.ownDropped_frame (s : State) (key : Nat) : Frame [.prot] [] s (s.ownDropped key) :=
  Frame.ite ((Frame.refl [.prot] [] s).with_prot _ (by decide)) (Frame.refl _ _ s)

section
variable {dr be bank row v : Nat} {s : State}

theorem hsEntry_refused (hd : HsSpelt dr be bank row v true) (r : EccResult)
    (hin : bit (s.get CX_HQ_BANKS_in_service) bank = true) (hacq : s.acq = true) :
    hsEntry dr r s = (s.tapRun 0x21 s.svc.tap.hs).hsHeld bank row 4 v := by
  have hin' : bit ((s.tapRun 0x21 s.svc.tap.hs).get CX_HQ_BANKS_in_service) bank = true := hin
  have hacq' : (s.tapRun 0x21 s.svc.tap.hs).acq = true := hacq
  simp only [hsEntry, hd.write, hd.bank, hd.row, hd.data, hin', hacq']
  rfl

theorem hsEntry_written (hd : HsSpelt dr 255 bank row v true) (r : EccResult)
    (hfree : bit (s.get CX_HQ_BANKS_in_service) bank = false ∨ s.acq = false) :
    hsEntry dr r s = (((s.tapRun 0x21 s.svc.tap.hs).ownDropped (markKey (entryMem bank) (entryIndex bank row))).entryWrite
      (markKey (entryMem bank) (entryIndex bank row)) v).hsHeld bank row 0 v := by
  have hno : (bit ((s.tapRun 0x21 s.svc.tap.hs).get CX_HQ_BANKS_in_service) bank &&
      (s.tapRun 0x21 s.svc.tap.hs).acq) = false := by
    show (bit (s.get CX_HQ_BANKS_in_service) bank && s.acq) = false
    rw [Bool.and_eq_false_iff]
    exact hfree
  simp only [hsEntry, hd.write, hd.be, hd.bank, hd.row, hd.data, hno]
  rfl

theorem State.entryRead_of_clean (hbuf : s.prot.bufTest = none) (hmark : s.mark (entryMem bank) (entryIndex bank row) = 0)
    (hdef : bit s.svc.bankUndef bank = false) :
    s.entryRead bank row .clean = (0, Sparse.get 0 (entryKey bank row) s.store.entries, s) := by
  simp [State.entryRead, State.entryValue, hbuf, hmark, hdef]

theorem hsEntry_read (hd : HsSpelt dr be bank row v false) (hbuf : s.prot.bufTest = none)
    (hmark : s.mark (entryMem bank) (entryIndex bank row) = 0) (hdef : bit s.svc.bankUndef bank = false) :
    hsEntry dr .clean s = (s.tapRun 0x21 s.svc.tap.hs).hsHeld bank row 0
      (Sparse.get 0 (entryKey bank row) s.store.entries) := by
  have hread := State.entryRead_of_clean (s := s.tapRun 0x21 s.svc.tap.hs) (bank := bank) (row := row) hbuf hmark hdef
  simp only [hsEntry, hd.write, hd.bank, hd.row, hread]
  rfl

end

/-- A word of the hit store named by its key. -/
theorem markKey_split {bank row : Nat} (hbank : bank < 16) (hrow : row < 2 ^ 20) :
    let key := markKey (entryMem bank) (entryIndex bank row)
    key / 2 ^ 24 = entryMem bank ∧ key % 2 ^ 24 = entryIndex bank row ∧
      entryKey (8 * (key / 2 ^ 24 - 1) + key % 2 ^ 24 / 2 ^ 20) (key % 2 ^ 24 % 2 ^ 20) = entryKey bank row := by
  unfold markKey entryMem entryIndex entryKey memHs0 memHs1
  split
  all_goals
    refine ⟨?_, ?_, ?_⟩
    all_goals omega

theorem State.entryWrite_written (s : State) {bank row v : Nat} (hbank : bank < 16) (hrow : row < 2 ^ 20)
    (hv : v < 2 ^ 64) :
    let t := s.entryWrite (markKey (entryMem bank) (entryIndex bank row)) v
    Sparse.get 0 (entryKey bank row) t.store.entries = v ∧ t.mark (entryMem bank) (entryIndex bank row) = 0 ∧
      Frame [.store, .prot] [] s t := by
  obtain ⟨hmem, hindex, hkey⟩ := markKey_split hbank hrow
  unfold State.entryWrite
  dsimp only
  rw [hkey, hmem, hindex, Nat.mod_eq_of_lt hv]
  refine ⟨Sparse.get_put_same _ _ _ _, ?_, ?_⟩
  · show Sparse.get 0 (markKey (entryMem bank) (entryIndex bank row))
      (Sparse.put 0 (markKey (entryMem bank) (entryIndex bank row)) 0 s.prot.marks) = 0
    exact Sparse.get_put_same _ _ _ _
  exact ((Frame.refl [.store, .prot] [] s).with_store { s.store with
    entries := Sparse.put 0 (entryKey bank row) v s.store.entries } (by decide)).with_prot _ (by decide)

/-! ## The statement -/

/-- Settles O58: the instructions in turn; an access leaves the port as `transact_core` says. -/
theorem testAccessReadsAndDrivesThroughTheTap : Obligations.TestAccessReadsAndDrivesThroughTheTap := by
  unfold Obligations.TestAccessReadsAndDrivesThroughTheTap
  refine ⟨?_, ?_, ?_, ?_, ?_, ?_, ?_, ?_, ?_, ?_, ?_, ?_⟩
  · intro s
    exact effect_of_wf rfl testLogicReset s
  · intro s
    exact effect_of_wf rfl idcode s
  · intro s x hx h
    rw [exec_bypass hx h, bypass, Nat.mod_eq_of_lt hx]
    rfl
  · intro s a b ha hb
    rw [exec_samplePreload ha hb, samplePreload, State.boundary, Nat.mod_eq_of_lt ha, Nat.mod_eq_of_lt hb]
    rfl
  · intro s v hv hidle
    obtain ⟨hir, hboundary, hctrl⟩ := s.driven_tap hv
    refine ⟨_, exec_extest hv s, ?_⟩
    rw [extest_eq, State.driven_get, beq_eq_false_iff_ne.2 hidle]
    exact ⟨hir, hboundary, hctrl, s.driven_frame v⟩
  · intro s v hv hbusy
    obtain ⟨hir, hboundary, -⟩ := s.driven_tap hv
    obtain ⟨hstate, herr⟩ := (s.driven v).i2cError_fields (k := 5) (by decide)
    have hframe := (s.driven v).i2cError_frame 5
    refine ⟨_, exec_extest hv s, ?_⟩
    rw [extest_eq, State.driven_get, beq_iff_eq.2 hbusy]
    refine ⟨?_, ?_, hstate, herr⟩
    · exact (congrArg (·.tap.ir) (hframe.parts .svc (by decide))).trans hir
    · exact (congrArg (·.tap.boundary) (hframe.parts .svc (by decide))).trans hboundary
  · intro s dr r hdr
    exact exec_ctrlAccess hdr r true s
  · intro s dr r hdr
    refine ⟨_, exec_ctrlAccess hdr r false s, ?_⟩
    have htap := s.scanRun_tap dr r
    rw [ctrlAccess_done]
    generalize s.scanRun dr r = a at htap ⊢
    exact ⟨congrArg Tap.ir htap, congrArg Tap.tdo htap, rfl⟩
  · intro s dr r hdr hhigh
    refine ⟨_, exec_ctrlAccess hdr r false s, ?_⟩
    obtain ⟨herr, hpath, haddr⟩ := s.scanRun_error hhigh r
    have hrun := s.tapRun_frame 0x20 s.svc.tap.ctrl
    have hcount : (s.tapRun 0x20 s.svc.tap.ctrl).get CX_CT_ERR_count = s.get CX_CT_ERR_count := rfl
    rw [ctrlAccess_done]
    generalize s.scanRun dr r = a at herr hpath haddr ⊢
    have hheld := a.ctrlHeld_frame (2 ^ 71 + a.answer.1 * 2 ^ 67 + bits dr 32 32 * 2 ^ 32 + a.answer.2)
    refine ⟨herr.answer, herr.shown, hpath, ?_, haddr, ?_⟩
    · exact herr.counted.trans (by rw [hcount])
    · exact ((hrun.mono (by decide) (by simp)).trans (herr.frame.mono (by decide) (by decide))).trans
        (hheld.mono (by decide) (by simp))
  · intro s dr be bank row v r hbe hbank hrow hv hdr hin hacq
    have hd : HsSpelt dr be bank row v true := by
      have hspelt := hsSpelt 1 be bank row v (by decide) hbe hbank hrow hv
      rw [Nat.mul_one, ← hdr] at hspelt
      exact hspelt
    refine ⟨_, exec_hsEntry hd.lt r s, ?_⟩
    rw [hsEntry_refused hd r hin hacq]
    exact ⟨rfl, rfl, rfl, (s.tapRun_frame _ _).trans (State.hsHeld_frame ..)⟩
  · intro s dr bank row v r hbank hrow hv hdr hfree
    have hd : HsSpelt dr 255 bank row v true := by
      have hspelt := hsSpelt 1 255 bank row v (by decide) (by decide) hbank hrow hv
      rw [Nat.mul_one, ← hdr] at hspelt
      exact hspelt
    refine ⟨_, exec_hsEntry hd.lt r s, ?_⟩
    rw [hsEntry_written hd r hfree]
    have hrun := s.tapRun_frame 0x21 s.svc.tap.hs
    have htdo : (s.tapRun 0x21 s.svc.tap.hs).svc.tap.tdo = s.svc.tap.hs := rfl
    generalize s.tapRun 0x21 s.svc.tap.hs = a at hrun htdo ⊢
    have hdrop := a.ownDropped_frame (markKey (entryMem bank) (entryIndex bank row))
    generalize a.ownDropped (markKey (entryMem bank) (entryIndex bank row)) = b at hdrop ⊢
    obtain ⟨hentry, hmark, hwrite⟩ := b.entryWrite_written hbank hrow hv
    generalize b.entryWrite (markKey (entryMem bank) (entryIndex bank row)) v = d at hentry hmark hwrite ⊢
    have hheld := d.hsHeld_frame bank row 0 v
    refine ⟨hentry, hmark, ?_, ?_, ?_⟩
    · show 2 ^ 103 + 0 * 2 ^ 100 + bank * 2 ^ 91 + row * 2 ^ 71 + v = _
      omega
    · show d.svc.tap.tdo = _
      rw [hwrite.parts .svc (by decide), hdrop.parts .svc (by decide), htdo]
    · exact (((hrun.mono (by decide) (by simp)).trans (hdrop.mono (by decide) (by simp))).trans
        (hwrite.mono (by decide) (by simp))).trans (hheld.mono (by decide) (by simp))
  · intro s dr be bank row hbe hbank hrow hdr hbuf hmark hdef
    have hd : HsSpelt dr be bank row 0 false := by
      have hspelt := hsSpelt 0 be bank row 0 (by decide) hbe hbank hrow (by decide)
      rw [Nat.mul_zero, Nat.zero_add, Nat.add_zero, ← hdr] at hspelt
      exact hspelt
    refine ⟨_, exec_hsEntry hd.lt .clean s, ?_⟩
    rw [hsEntry_read hd hbuf hmark hdef]
    refine ⟨?_, rfl, (s.tapRun_frame _ _).trans (State.hsHeld_frame ..)⟩
    show 2 ^ 103 + 0 * 2 ^ 100 + bank * 2 ^ 91 + row * 2 ^ 71 + _ = _
    omega

end Sys2Proof.Machine
end

section
/-! SUPPORT. Where machine time goes on, loads or starts, it stays within its orbit (R8, R89, R90, R93). -/

namespace Sys2Proof.Machine

open Sys2Proof

/-- Machine time lies within its orbit: bucket 0 to N_B − 1, N_B at most 65,536, orbit 32 bits. -/
structure InRange (s : State) : Prop where
  bucket : s.mt.bucket < s.mt.nb
  nb : s.mt.nb ≤ 65536
  orbit : s.mt.orbit < 2 ^ 32

theorem InRange.of_time {s t : State} (hs : InRange s) (h : t.core.1 = s.core.1) : InRange t := by
  obtain ⟨hbucket, horbit, hnb⟩ : t.mt.bucket = s.mt.bucket ∧ t.mt.orbit = s.mt.orbit ∧ t.mt.nb = s.mt.nb := by
    simpa only [State.core, Prod.mk.injEq] using h
  exact ⟨by rw [hbucket, hnb]; exact hs.bucket, by rw [hnb]; exact hs.nb, by rw [horbit]; exact hs.orbit⟩

theorem InRange.of_core {s t : State} (hs : InRange s) (h : t.core = s.core) : InRange t :=
  hs.of_time (congrArg Prod.fst h)

theorem InRange.ite {s t : State} {c : Prop} [Decidable c] (hs : InRange s) (ht : InRange t) :
    InRange (if c then s else t) := by
  split
  · exact hs
  · exact ht

theorem State.bucket_of_core {s t : State} (h : t.core = s.core) : t.mt.bucket = s.mt.bucket :=
  congrArg (fun c => c.1.1) h

theorem State.nb_of_core {s t : State} (h : t.core = s.core) : t.mt.nb = s.mt.nb := congrArg (fun c => c.1.2.2) h

theorem State.orbit_of_core {s t : State} (h : t.core = s.core) : t.mt.orbit = s.mt.orbit :=
  congrArg (fun c => c.1.2.1) h

/-! ## Within the orbit -/

/-- `t` is in the orbit of `s`, and in range as `s` is. -/
structure OnInOrbit (s t : State) : Prop where
  nb : t.mt.nb = s.mt.nb
  range : InRange s → InRange t

theorem OnInOrbit.refl (s : State) : OnInOrbit s s := ⟨rfl, id⟩

theorem OnInOrbit.trans {s t u : State} (h : OnInOrbit s t) (h' : OnInOrbit t u) : OnInOrbit s u :=
  ⟨h'.nb.trans h.nb, h'.range ∘ h.range⟩

theorem OnInOrbit.of_core {s t : State} (h : t.core = s.core) : OnInOrbit s t :=
  ⟨State.nb_of_core h, fun hs => hs.of_core h⟩

theorem State.jump_time (s : State) (n : Nat) :
    (s.jump n).mt.bucket = s.mt.bucket + n ∧ (s.jump n).mt.nb = s.mt.nb ∧ (s.jump n).mt.orbit = s.mt.orbit := by
  refine ⟨s.jump_bucket n, ?_, ?_⟩
  all_goals
    unfold State.jump
    split
    · rfl
    · dsimp only
      split
      all_goals rfl

theorem State.moveTo_time (s : State) (b : Nat) :
    (s.moveTo b).mt.bucket = max s.mt.bucket b ∧ (s.moveTo b).mt.nb = s.mt.nb ∧ (s.moveTo b).mt.orbit = s.mt.orbit := by
  by_cases hb : b ≤ s.mt.bucket
  · rw [State.moveTo_of_le hb]
    exact ⟨by omega, rfl, rfl⟩
  · have harrived := s.takeArrived_core s.tg.arrived.length
    rw [State.moveTo, if_neg hb]
    dsimp only
    generalize s.takeArrived s.tg.arrived.length = a at harrived ⊢
    obtain ⟨hbucket, hnb, horbit⟩ := a.jump_time 1
    have hedge := (a.jump 1).edgeActs_core
    generalize (a.jump 1).edgeActs = d at hedge ⊢
    obtain ⟨hbucket', hnb', horbit'⟩ := d.jump_time (b - d.mt.bucket)
    have hd : d.mt.bucket = s.mt.bucket + 1 := by
      rw [State.bucket_of_core hedge, hbucket, State.bucket_of_core harrived]
    refine ⟨by omega, ?_, ?_⟩
    · rw [hnb', State.nb_of_core hedge, hnb, State.nb_of_core harrived]
    · rw [horbit', State.orbit_of_core hedge, horbit, State.orbit_of_core harrived]

theorem State.moveTo_onInOrbit (s : State) {b : Nat} (hb : b < s.mt.nb) : OnInOrbit s (s.moveTo b) := by
  obtain ⟨hbucket, hnb, horbit⟩ := s.moveTo_time b
  refine ⟨hnb, fun hs => ⟨?_, by rw [hnb]; exact hs.nb, by rw [horbit]; exact hs.orbit⟩⟩
  rw [hbucket, hnb]
  exact max_lt hs.bucket hb

theorem State.calFire_onInOrbit (s : State) {k : Nat} (hk : k / 256 < s.mt.nb) : OnInOrbit s (s.calFire k) :=
  (s.moveTo_onInOrbit hk).trans (.of_core ((State.calAct_core ..).trans (State.markFired_core ..)))

theorem State.calFires_onInOrbit {l : List Nat} (s : State) (hl : ∀ k ∈ l, k / 256 < s.mt.nb) :
    OnInOrbit s (s.each l State.calFire) := by
  induction l generalizing s with
  | nil => exact .refl s
  | cons k l ih =>
    obtain ⟨hk, hl⟩ := List.forall_mem_cons.1 hl
    have hfire := s.calFire_onInOrbit hk
    exact hfire.trans (ih _ (by rw [hfire.nb]; exact hl))

/-- The numbering of the orbit ends within N_B. -/
theorem State.numEnd_le {s : State} (h : 0 < s.mt.nb) : s.numEnd ≤ s.mt.nb := by
  unfold State.numEnd State.markerAt
  split
  next k r hk =>
    split at hk
    · simp only [Option.some.injEq, Prod.mk.injEq] at hk
      have hlt : (-s.mt.offset).emod ((s.mt.nb * 32768 : Nat) : Int) < ((s.mt.nb * 32768 : Nat) : Int) :=
        Int.emod_lt_of_pos _ (by omega)
      have hge : 0 ≤ (-s.mt.offset).emod ((s.mt.nb * 32768 : Nat) : Int) := Int.emod_nonneg _ (by omega)
      split
      · generalize (-s.mt.offset).emod ((s.mt.nb * 32768 : Nat) : Int) = l at hk hlt hge
        omega
      · exact le_refl _
    · cases hk
  next => exact le_refl _

theorem State.calHits_lt {s : State} {e b : Nat} (h : s.calHits e b = true) : b < s.numEnd := by
  simp only [State.calHits, Bool.and_eq_true, decide_eq_true_eq] at h
  exact h.1.1.1.1.1.2

theorem State.calDue_lt {s : State} (hs : InRange s) {hi k : Nat} (h : k ∈ s.calDue hi) : k / 256 < s.mt.nb := by
  unfold State.calDue at h
  split at h
  next =>
    obtain ⟨p, hp, rfl⟩ := List.mem_map.1 h
    obtain hp | hp := mem_foldl_insert_unit hp
    · cases hp
    · obtain ⟨e, he, hb⟩ := List.mem_flatMap.1 hp
      obtain ⟨b, hb, hk⟩ := List.mem_map.1 hb
      have hlt := State.calHits_lt (List.mem_filter.1 (List.mem_filter.1 hb).1).2
      have he := List.mem_range.1 (List.mem_filter.1 he).1
      have hend := State.numEnd_le (s := s) (by have := hs.bucket; omega)
      omega
  next => cases h

theorem InRange.calRun {s : State} (hs : InRange s) (hi : Nat) : InRange (s.calRun hi) :=
  (s.calFires_onInOrbit fun _ hk => State.calDue_lt hs hk).range hs

theorem State.calRun_nb {s : State} (hs : InRange s) (hi : Nat) : (s.calRun hi).mt.nb = s.mt.nb :=
  (s.calFires_onInOrbit fun _ hk => State.calDue_lt hs hk).nb

theorem InRange.calDo {s : State} (hs : InRange s) (e : Nat) (p : Nat → Nat → Bool) : InRange (s.calDo e p) := by
  unfold State.calDo
  split
  · exact (s.calFires_onInOrbit fun _ hk => State.calDue_lt hs (List.mem_filter.1 hk).1).range hs
  · exact hs

theorem InRange.stopEdge {s : State} (hs : InRange s) : InRange s.stopEdge :=
  (hs.calRun s.mt.bucket).of_core ((State.edgeActs_core _).trans (State.takeArrived_core ..))

theorem InRange.passOne {s : State} (hs : InRange s) (h : s.mt.bucket + 1 < s.numEnd) : InRange (s.pass 1) := by
  have hend := State.numEnd_le (s := s) (by have := hs.bucket; omega)
  unfold State.pass
  refine InRange.ite hs (InRange.ite hs.stopEdge ?_)
  exact ((State.calRun s (s.mt.bucket + 1 - 1)).moveTo_onInOrbit (by rw [State.calRun_nb hs]; omega)).range (hs.calRun _)

/-! ## Into another orbit -/

theorem State.openOrbit_inRange (s : State) (o : Nat) : InRange (s.openOrbit o).2 := by
  have hlt : s.get CX_MT_ORBIT_LEN_nb_m1 < 2 ^ 16 := State.get_lt _ _
  have hcore : (s.openOrbit o).2.core =
      ((0, o % 2 ^ 32, s.get CX_MT_ORBIT_LEN_nb_m1 + 1), s.svc.tap) := State.judgeQuiet_core ..
  refine ⟨?_, ?_, ?_⟩
  · rw [State.bucket_of_core (t := (s.openOrbit o).2) rfl]
    have hb := congrArg (fun c => c.1.1) hcore
    have hn := congrArg (fun c => c.1.2.2) hcore
    simp only [State.core] at hb hn
    omega
  · have hn := congrArg (fun c => c.1.2.2) hcore
    simp only [State.core] at hn
    omega
  · have ho := congrArg (fun c => c.1.2.1) hcore
    simp only [State.core] at ho
    omega

theorem State.loadMt_inRange (s : State) (a k : Nat) (slew : Option Int) : InRange (s.loadMt a k slew) := by
  unfold State.loadMt
  dsimp only
  generalize s.mt.place.getD (s.get CX_MT_LOAD_ORBIT_orbit) = o
  have hopen := State.openOrbit_inRange (s.namesEnd.missOver a k o) o
  generalize ((s.namesEnd.missOver a k o).openOrbit o).2 = b at hopen ⊢
  refine hopen.of_core ((State.renumber_core _).trans ?_)
  split
  · exact (State.slewStart_core ..).trans ((State.calStep_core _).trans ((State.set_core ..).trans (State.core_mk ..)))
  · exact (State.calStep_core _).trans ((State.set_core ..).trans (State.core_mk ..))

theorem State.nextOrbit_inRange (s : State) : InRange s.nextOrbit := by
  unfold State.nextOrbit
  dsimp only
  split
  · exact State.loadMt_inRange ..
  · exact State.loadMt_inRange ..
  · exact (State.openOrbit_inRange ..).of_core (State.iff_core State.renumber_core _ _)

theorem InRange.orbitStep {s : State} (hs : InRange s) : InRange s.orbitStep := by
  unfold State.orbitStep
  refine InRange.ite hs.stopEdge ?_
  dsimp only
  refine InRange.of_core ?_ (State.edgeActs_core _)
  split
  · exact InRange.ite (State.loadMt_inRange ..) (State.nextOrbit_inRange _)
  · exact State.nextOrbit_inRange _

theorem InRange.orbitStart {s : State} (hs : InRange s) : InRange (orbitStart s) := InRange.ite hs.orbitStep hs

theorem InRange.mtLoadApply {s : State} (hs : InRange s) : InRange (mtLoadApply s) :=
  InRange.ite (InRange.ite hs.orbitStep.orbitStep hs.orbitStep) hs

theorem InRange.bucketEdge {s : State} (hs : InRange s) : InRange s.bucketEdge := by
  unfold State.bucketEdge
  split
  next h => exact hs.passOne h
  next => exact hs.orbitStart

theorem InRange.tick {s : State} (hs : InRange s) : InRange s.tick := InRange.ite hs.bucketEdge hs

/-- The unit starts machine time in bucket 0. -/
def State.mtBegun (s : State) (mclk : Bool) : State :=
  let s := State.calStep { s with mt := { s.mt with running := true, lastK := none, equalK := 0, misThis := false } }
  let s := (s.namesEnd.openOrbit 0).2
  let s := ((s.set CX_MT_STATUS_state 1).set CX_MT_STATUS_mt_valid 0).set CX_MT_STATUS_src (if mclk then 2 else 1)
  { s with fb := { s.fb with refDue := true } }

theorem State.mtRun_inRange (s : State) (mclk : Bool) : InRange (s.mtRun mclk) := by
  have hbegun : InRange (s.mtBegun mclk) := by
    unfold State.mtBegun
    exact (State.openOrbit_inRange _ 0).of_core ((State.core_mk ..).trans ((State.set_core ..).trans
      ((State.set_core ..).trans (State.set_core ..))))
  exact hbegun.of_core ((State.renumber_core _).trans (State.gateStart_core _))

theorem InRange.sourceQualified {s : State} (hs : InRange s) (mclk : Bool) (lane : Nat) (offset : Int) :
    InRange (sourceQualified mclk lane offset s) := by
  unfold Machine.sourceQualified
  refine InRange.ite hs ?_
  split
  · exact State.mtRun_inRange ..
  · exact (State.mtRun_inRange ..).of_core (State.missStopped_core _)
  · refine hs.of_core ?_
    refine State.core_of_ite rfl (State.core_of_ite ?_ ?_)
    · exact (State.slewStart_core ..).trans (State.set_core ..)
    · exact (State.flag_core ..).trans ((State.set_core ..).trans ((State.core_mk ..).trans (State.set_core ..)))
  · exact hs

/-! ## Resets -/

theorem reset_inRange : InRange State.reset := ⟨by decide, by decide, by decide⟩

theorem State.cxReset_inRange (s : State) : InRange s.cxReset := reset_inRange.of_time rfl

theorem State.poweredDown_inRange (s : State) (straps : Nat) : InRange (s.poweredDown straps) :=
  (reset_inRange.of_time rfl).of_core (State.iff_core (fun u => u.guardFault_core _) _ _)

theorem InRange.powerUp {s : State} (hs : InRange s) (feed straps : Nat) : InRange (powerUp feed straps s) :=
  InRange.ite hs ((s.poweredDown_inRange straps).of_core ((State.softStarted_core ..).trans (feedQualified_core ..)))

theorem State.conversionDown_inRange (s : State) : InRange s.conversionDown := by
  have hreset := s.cxReset_inRange
  unfold State.conversionDown
  dsimp only
  generalize s.cxReset = a at hreset ⊢
  refine InRange.ite (hreset.of_core (State.core_of_ite ?_ ?_)) hreset
  · exact (State.convStart_core _).trans (State.set_core ..)
  · exact (State.svDiscard_core _).trans ((State.convStart_core _).trans (State.set_core ..))

theorem InRange.shutdownComplete {s : State} (hs : InRange s) (fn : ShutFn) (forbidden : Bool) :
    InRange (shutdownComplete fn forbidden s) := by
  have hmt : State.core { s with shut := s.shut.filter (· != fn) } = s.core := State.core_mk ..
  unfold Machine.shutdownComplete
  refine InRange.ite hs ?_
  dsimp only
  generalize ({ s with shut := s.shut.filter (· != fn) } : State) = a at hmt ⊢
  split
  · exact hs.of_core ((State.dirDown_core ..).trans hmt)
  · exact hs.of_core ((State.dirDown_core ..).trans hmt)
  · exact hs.of_core ((State.quadDown_core ..).trans hmt)
  · exact hs.of_core ((State.feDown_core ..).trans hmt)
  · exact hs.of_core ((State.unitDown_core ..).trans hmt)
  · exact a.conversionDown_inRange
  · exact hs.of_core (State.core_of_ite (State.biasDown_core _) rfl)

/-! ## Test access -/

theorem InRange.extest {s : State} (hs : InRange s) (v : Nat) : InRange (extest v s) := by
  rw [extest_eq]
  exact (hs.of_time (t := s.driven v) rfl).of_core (State.iff_core (fun u => u.i2cError_core _) _ _)

theorem InRange.ctrlAccess {s : State} (hs : InRange s) (dr : Nat) (r : EccResult) (early : Bool) :
    InRange (ctrlAccess dr r early s) := by
  cases early
  · rw [ctrlAccess_done]
    have hrun := congrArg Prod.fst (State.transact_core (s.tapRun 0x20 s.svc.tap.ctrl) (scanned dr) r)
    change (s.scanRun dr r).core.1 = _ at hrun
    generalize s.scanRun dr r = a at hrun ⊢
    exact hs.of_time hrun
  · exact hs.of_time rfl

theorem InRange.hsHeld {s : State} (hs : InRange s) (bank row result data : Nat) :
    InRange (s.hsHeld bank row result data) :=
  hs.of_time rfl

theorem InRange.hsEntry {s : State} (hs : InRange s) (dr : Nat) (r : EccResult) : InRange (hsEntry dr r s) := by
  have hrun : InRange (s.tapRun 0x21 s.svc.tap.hs) := hs.of_time rfl
  unfold Machine.hsEntry
  dsimp only
  generalize s.tapRun 0x21 s.svc.tap.hs = a at hrun ⊢
  generalize bits dr 91 4 = bank, bits dr 71 20 = row, bits dr 0 64 = v, bits dr 95 8 = be
  generalize markKey (entryMem bank) (entryIndex bank row) = key
  have hdrop : (a.ownDropped key).core = a.core := State.core_of_ite (State.core_mk ..) rfl
  unfold State.ownDropped at hdrop
  have hwrite := hrun.of_core ((State.entryWrite_core _ key v).trans hdrop)
  have hput := hrun.of_core (a.bufTestPut_core key be v)
  have hread := hrun.of_core (a.entryRead_core bank row r)
  generalize State.entryWrite _ key v = w at hwrite ⊢
  generalize a.bufTestPut key be v = p at hput ⊢
  generalize a.entryRead bank row r = q at hread ⊢
  exact InRange.ite (InRange.ite (hrun.hsHeld bank row 4 v)
    (InRange.ite (hwrite.hsHeld bank row 0 v) (hput.hsHeld bank row 0 v))) (hread.hsHeld bank row q.1 q.2.1)

theorem InRange.ctrlCapture {s : State} (hs : InRange s) (v : Nat) :
    InRange { s with svc := { s.svc with tap := { s.svc.tap with ctrl := v } } } :=
  hs.of_time rfl

theorem InRange.transactionTimeout {s : State} (hs : InRange s) (path : Path) (m : CtMsg) (took : Bool) :
    InRange (transactionTimeout path m took s) := by
  unfold Machine.transactionTimeout
  dsimp only
  have hwrite (t : Txn) : (((s.iff (took && t.write) fun s => s.busWrite t)).answered t 6 0).core = s.core :=
    (State.answered_core ..).trans (State.iff_core (fun u => u.busWrite_core t) _ _)
  refine InRange.ite hs ?_
  have htxn (t : Txn) := hs.of_core (hwrite t)
  split
  · exact (htxn _).of_core (State.response_core ..)
  · exact (htxn _).ctrlCapture _
  · exact (htxn _).of_core (State.dmaHalt_core ..)
  · exact htxn _

end Sys2Proof.Machine
end

section
/-! SUPPORT and PROOF. Every step keeps machine time within its orbit (R8, R89). -/

namespace Sys2Proof.Machine

open Sys2Proof

theorem effect_inRange {c : Instr} {f : State → State} {s t : State} (hf : InRange (f s)) (hs : InRange s)
    (h : effect c f s = .next t) : InRange t := by
  obtain rfl := Host.Outcome.next.inj h
  exact InRange.ite hf hs

theorem effect_core {c : Instr} {f : State → State} {s t : State} (hf : (f s).core = s.core) (hs : InRange s)
    (h : effect c f s = .next t) : InRange t :=
  effect_inRange (hs.of_core hf) hs h

theorem effectMs_core {c : Instr} {f : State → State} {s t : State} (hf : (f s).core = s.core) (hs : InRange s)
    (h : effectMs c f s = .next t) : InRange t := by
  obtain rfl := Host.Outcome.next.inj h
  exact InRange.ite (hs.of_core hf) hs

/-- Every command keeps machine time within its orbit. -/
theorem exec_inRange {c : Instr} {s t : State} (hs : InRange s) (h : exec c s = .next t) : InRange t := by
  cases c with
  | powerUp => exact effect_inRange (hs.powerUp ..) hs h
  | svReset => exact effect_inRange (State.poweredDown_inRange ..) hs h
  | feedQualified => exact effect_core (feedQualified_core ..) hs h
  | feedOutOfRange => exact effect_core (feedOutOfRange_core ..) hs h
  | refLost => exact effect_core (refLost_core ..) hs h
  | refBack => exact effect_core (refBack_core ..) hs h
  | shutdownComplete => exact effect_inRange (hs.shutdownComplete ..) hs h
  | disruptiveActivityStart => exact effect_core (disruptiveActivityStart_core ..) hs h
  | plateOpen => exact effect_core (plateOpen_core ..) hs h
  | plateClearDone => exact effect_core (plateClearDone_core ..) hs h
  | plateAbort => exact effect_core (plateAbort_core ..) hs h
  | plateFcrcWrite => exact effect_core (plateFcrcWrite_core ..) hs h
  | plateWindowWrite => exact effect_core (plateWindowWrite_core ..) hs h
  | plateCommit => exact effect_core (plateCommit_core ..) hs h
  | plateCommitDone => exact effect_core (plateCommitDone_core ..) hs h
  | reloadGo => exact effect_core (reloadGo_core ..) hs h
  | reloadCancel => exact effect_core (reloadCancel_core ..) hs h
  | reloadStart => exact effect_core (reloadStart_core ..) hs h
  | reloadRelease => exact effect_core (reloadRelease_core ..) hs h
  | orbitStart => exact effect_inRange (hs.orbitStart ..) hs h
  | mtLoad => exact effect_core (mtLoad_core ..) hs h
  | mtLoadApply => exact effect_inRange (hs.mtLoadApply ..) hs h
  | mtSnap => exact effect_core (mtSnap_core ..) hs h
  | sourceSelect => exact effect_core (sourceSelect_core ..) hs h
  | sourceLost => exact effect_core (sourceLost_core ..) hs h
  | sourceQualified => exact effect_inRange (hs.sourceQualified ..) hs h
  | orbitMarkerMismatch => exact effect_core (orbitMarkerMismatch_core ..) hs h
  | slewEnd => exact effect_core (slewEnd_core ..) hs h
  | mtQualified => exact effect_core (mtQualified_core ..) hs h
  | fuGateEnd => exact effect_core (fuGateEnd_core ..) hs h
  | fuRatioRead => exact effect_core (fuRatioRead_core ..) hs h
  | ovnReady => exact effect_core (ovnReady_core ..) hs h
  | ovnHeaterFault => exact effect_core (ovnHeaterFault_core ..) hs h
  | ovnReadyLost => exact effect_core (ovnReadyLost_core ..) hs h
  | testChargeInjection => exact effect_inRange (hs.calDo ..) hs h
  | housekeepingConversion => exact effect_inRange (hs.calDo ..) hs h
  | loopEngineTestSignal => exact effect_inRange (hs.calDo ..) hs h
  | burnishWindow => exact effect_inRange (hs.calDo ..) hs h
  | roleSwap => exact effect_inRange (hs.calDo ..) hs h
  | partialPlateReload => exact effect_inRange (hs.calDo ..) hs h
  | tileLifeRecordWrite => exact effect_inRange (hs.calDo ..) hs h
  | codeDensityCalibrationRefresh => exact effect_inRange (hs.calDo ..) hs h
  | calendarReservedAction => exact effect_inRange (hs.calDo ..) hs h
  | discriminatorLeadingEdge => exact effect_core (leadingEdge_core ..) hs h
  | discriminatorTrailingEdge => exact effect_core (trailingEdge_core ..) hs h
  | totOverflow => exact effectMs_core (totOverflow_core ..) hs h
  | recoveryEnd => exact effect_core (recoveryEnd_core ..) hs h
  | channelConfigWrite => exact effect_core (channelConfigWrite_core ..) hs h
  | stuckDetected => exact effectMs_core (stuckDetected_core ..) hs h
  | rateLimitExceeded => exact effectMs_core (rateLimitExceeded_core ..) hs h
  | automaskClear => exact effect_core (automaskClear_core ..) hs h
  | coarsePllLock => exact effect_core (coarsePllLock_core ..) hs h
  | coarsePllLoss => exact effect_core (coarsePllLoss_core ..) hs h
  | dllLock => exact effect_core (dllLock_core ..) hs h
  | dllUnlock => exact effect_core (dllUnlock_core ..) hs h
  | relock => exact effect_core (relock_core ..) hs h
  | cdFullRun => exact effect_core (cdFullRun_core ..) hs h
  | cdAbort => exact effect_core (cdAbort_core ..) hs h
  | cdSliceEnd => exact effect_core (cdSliceEnd_core ..) hs h
  | cdTablesComputed => exact effect_core (cdTablesComputed_core ..) hs h
  | binTableWrite => exact effect_core (binTableWrite_core ..) hs h
  | hitMerge => exact effectMs_core (hitMerge_core ..) hs h
  | bucketSeal => exact effect_core (bucketSeal_core ..) hs h
  | storeRowWrite => exact effectMs_core (storeRowWrite_core ..) hs h
  | bucketWriteDone => exact effectMs_core (bucketWriteDone_core ..) hs h
  | ageOut => exact effect_core (ageOut_core ..) hs h
  | hqFlush => exact effect_core (hqFlush_core ..) hs h
  | flushDone => exact effectMs_core (flushDone_core ..) hs h
  | depthReset => exact effect_core (depthReset_core ..) hs h
  | bankRetire => exact effect_core (bankRetire_core ..) hs h
  | bankClearDone => exact effectMs_core (bankClearDone_core ..) hs h
  | rowSpared => exact effectMs_core (rowSpared_core ..) hs h
  | mapPeriodClose => exact effect_core (mapPeriodClose_core ..) hs h
  | chaserTimerExpiry => exact effectMs_core (chaserTimerExpiry_core ..) hs h
  | acceptCommand => exact effectMs_core (acceptCommand_core ..) hs h
  | tgLocalRead => exact effect_core (tgLocalRead_core ..) hs h
  | recordEngineTake => exact effectMs_core (recordEngineTake_core ..) hs h
  | recordBucketRead => exact effectMs_core (recordBucketReadAll_core ..) hs h
  | recordComplete => exact effectMs_core (recordComplete_core ..) hs h
  | histSwapWrite => exact effect_core (histSwapWrite_core ..) hs h
  | histSwapDone => exact effectMs_core (histSwapDone_core ..) hs h
  | freezeArm => exact effect_core (freezeArm_core ..) hs h
  | freezeDisarm => exact effect_core (freezeDisarm_core ..) hs h
  | freezeForce => exact effect_core (freezeForce_core ..) hs h
  | ringStop => exact effectMs_core (ringStop_core ..) hs h
  | dumpGo => exact effect_core (dumpGo_core ..) hs h
  | blockSend => exact effect_core (blockSend_core ..) hs h
  | creditReceived => exact effect_core (creditReceived_core ..) hs h
  | resendTimeout => exact effect_core (resendTimeout_core ..) hs h
  | blockReceived => exact effect_core (blockReceived_core ..) hs h
  | creditTimer => exact effect_core (creditTimer_core ..) hs h
  | mergeContribution => exact effect_core (mergeContribution_core ..) hs h
  | mergeTimeout => exact effect_core (mergeTimeout_core ..) hs h
  | frameTransmit => exact effect_core (frameTransmit_core ..) hs h
  | frameReceived => exact effect_core (frameReceived_core ..) hs h
  | frameRelease => exact effect_core (frameRelease_core ..) hs h
  | sourceFrameGap => exact effect_core (sourceFrameGap_core ..) hs h
  | symbolLock => exact effect_core (symbolLock_core ..) hs h
  | lockLost => exact effect_core (lockLost_core ..) hs h
  | slipWrite => exact effect_core (slipWrite_core ..) hs h
  | eyeMeasurement => exact effect_core (eyeMeasurement_core ..) hs h
  | lanePowerRequest => exact effect_core (lanePowerRequest_core ..) hs h
  | laneWakeDone => exact effect_core (laneWakeDone_core ..) hs h
  | laneLoopSelect => exact effect_core (laneLoopSelect_core ..) hs h
  | laneOut => exact effect_core (laneOut_core ..) hs h
  | laneFailed => exact effect_core (laneFailed_core ..) hs h
  | spareServeWrite => exact effect_core (spareServeWrite_core ..) hs h
  | laneRejoin => exact effect_core (laneRejoin_core ..) hs h
  | pllUnlock => exact effect_core (pllUnlock_core ..) hs h
  | readRequest => exact effect_core (readRequest_core ..) hs h
  | writeRequest => exact effect_core (writeRequest_core ..) hs h
  | readResponse => exact effect_core (readResponse_core ..) hs h
  | writeResponse => exact effect_core (writeResponse_core ..) hs h
  | probe => exact effect_core (probe_core ..) hs h
  | probeAnswer => exact effect_core (probeAnswer_core ..) hs h
  | assign => exact effect_core (assign_core ..) hs h
  | discProbe => exact effect_core (discProbe_core ..) hs h
  | discAssign => exact effect_core (discAssign_core ..) hs h
  | discTimeout => exact effect_core (discTimeout_core ..) hs h
  | fcMtLoad => exact effect_core (fcMtLoad_core ..) hs h
  | startAcquisition => exact effect_core (startAcquisition_core ..) hs h
  | stopAcquisition => exact effect_core (stopAcquisition_core ..) hs h
  | forceFreeze => exact effect_core (forceFreeze_core ..) hs h
  | histogramSwap => exact effect_core (histogramSwap_core ..) hs h
  | frameGap => exact effect_core (frameGap_core ..) hs h
  | acceptLost => exact effect_core (acceptLost_core ..) hs h
  | portLost => exact effect_core (portLost_core ..) hs h
  | portRegained => exact effect_core (portRegained_core ..) hs h
  | timeFollow => exact effect_core (timeFollow_core ..) hs h
  | pdelayTimer => exact effect_core (pdelayTimer_core ..) hs h
  | pdelayReq => exact effect_core (pdelayReq_core ..) hs h
  | pdelayResp => exact effect_core (pdelayResp_core ..) hs h
  | sync => exact effect_core (sync_core ..) hs h
  | announce => exact effect_core (announce_core ..) hs h
  | masterLost => exact effect_core (masterLost_core ..) hs h
  | criticalWordVote => exact effect_core (criticalWordVote_core ..) hs h
  | mergeBufferTimeout => exact effect_core (mergeBufferTimeout_core ..) hs h
  | patrolRead => exact effect_core (patrolRead_core ..) hs h
  | faultWindowExpiry => exact effect_core (faultWindowExpiry_core ..) hs h
  | burnishPassGo => exact effect_core (burnishPassGo_core ..) hs h
  | burnishPassAbort => exact effect_core (burnishPassAbort_core ..) hs h
  | burnishDone => exact effect_core (burnishDone_core ..) hs h
  | loopSample => exact effect_core (loopSample_core ..) hs h
  | leCommit => exact effect_core (leCommit_core ..) hs h
  | leUseHost => exact effect_core (leUseHost_core ..) hs h
  | injDone => exact effect_core (injDone_core ..) hs h
  | heartbeatLost => exact effect_core (heartbeatLost_core ..) hs h
  | arbiterLost => exact effect_core (arbiterLost_core ..) hs h
  | copyLink => exact effect_core (copyLink_core ..) hs h
  | midBusUndervoltage => exact effect_core (midBusUndervoltage_core ..) hs h
  | busFault => exact effect_core (busFault_core ..) hs h
  | unitOvertemperature => exact effect_core (unitOvertemperature_core ..) hs h
  | swapTimerExpiry => exact effect_core (swapTimerExpiry_core ..) hs h
  | swapNow => exact effect_core (swapNow_core ..) hs h
  | swapOverdue => exact effect_core (swapOverdue_core ..) hs h
  | swapPermit => exact effect_core (swapPermit_core ..) hs h
  | swapHandover => exact effect_core (swapHandover_core ..) hs h
  | swapDone => exact effect_core (swapDone_core ..) hs h
  | puOut => exact effect_core (puOut_core ..) hs h
  | puFaultClear => exact effect_core (puFaultClear_core ..) hs h
  | lastUnitRestart => exact effect_core (lastUnitRestart_core ..) hs h
  | strapSample => exact effect_core (strapSample_core ..) hs h
  | channelOpen => exact effect_core (channelOpen_core ..) hs h
  | channelClosed => exact effect_core (channelClosed_core ..) hs h
  | pulseMissing => exact effect_core (pulseMissing_core ..) hs h
  | chatter => exact effect_core (chatter_core ..) hs h
  | chatterEnd => exact effect_core (chatterEnd_core ..) hs h
  | discrepancy => exact effect_core (discrepancy_core ..) hs h
  | guardProof => exact effect_core (guardProof_core ..) hs h
  | biasEnable => exact effect_core (biasEnable_core ..) hs h
  | biasDisable => exact effect_core (biasDisable_core ..) hs h
  | biasFbChange => exact effect_core (biasFbChange_core ..) hs h
  | fbEnableTimeout => exact effect_core (fbEnableTimeout_core ..) hs h
  | fbDisableTimeout => exact effect_core (fbDisableTimeout_core ..) hs h
  | darkTestPulse => exact effect_core (darkTestPulse_core ..) hs h
  | darkPulseEnd => exact effect_core (darkPulseEnd_core ..) hs h
  | clkFault => exact effect_core (clkFault_core ..) hs h
  | tilePresence => exact effect_core (tilePresence_core ..) hs h
  | tileIdReadDone => exact effect_core (tileIdReadDone_core ..) hs h
  | i2cGo => exact effect_core (i2cGo_core ..) hs h
  | i2cDone => exact effect_core (i2cDone_core ..) hs h
  | lifeHoldExpiry => exact effect_core (lifeHoldExpiry_core ..) hs h
  | tileExpSnap => exact effect_core (tileExpSnap_core ..) hs h
  | regionLoopSample => exact effect_core (regionLoopSample_core ..) hs h
  | loopEnable => exact effect_core (loopEnable_core ..) hs h
  | bootClearDone => exact effect_core (bootClearDone_core ..) hs h
  | imageSwitch => exact effect_core (imageSwitch_core ..) hs h
  | imageCheckDone => exact effect_core (imageCheckRead_core ..) hs h
  | imageReady => exact effect_core (imageReady_core ..) hs h
  | imageTimeout => exact effect_core (imageTimeout_core ..) hs h
  | imageForce => exact effect_core (imageForce_core ..) hs h
  | lockstepDivergence => exact effect_core (lockstepDivergence_core ..) hs h
  | trapLoop => exact effect_core (trapLoop_core ..) hs h
  | watchdogExpiry => exact effect_core (watchdogExpiry_core ..) hs h
  | wdogKick => exact effect_core (wdogKick_core ..) hs h
  | mgHalt => exact effect_core (mgHalt_core ..) hs h
  | mgRestart => exact effect_core (mgRestart_core ..) hs h
  | autoRestart => exact effect_core (autoRestart_core ..) hs h
  | uptimeRead => exact effect_core (uptimeRead_core ..) hs h
  | mtimeCompare => exact effect_core (mtimeCompare_core ..) hs h
  | dmaGo => exact effect_core (dmaGo_core ..) hs h
  | dmaAbort => exact effect_core (dmaAbort_core ..) hs h
  | dmaWordTransfer => exact effect_core (dmaWordTransfer_core ..) hs h
  | eventService => exact effect_core (eventService_core ..) hs h
  | evClaimRead => exact effect_core (evClaimRead_core ..) hs h
  | evqRead => exact effect_core (evqRead_core ..) hs h
  | hkSequenceStart => exact effect_core (hkSequenceStart_core ..) hs h
  | hkConversionDone => exact effect_core (hkConversionDone_core ..) hs h
  | hkInject => exact effect_core (hkInject_core ..) hs h
  | hkCal => exact effect_core (hkCal_core ..) hs h
  | calDone => exact effect_core (calDone_core ..) hs h
  | hkRefEnable => exact effect_core (hkRefEnable_core ..) hs h
  | hkRefReady => exact effect_core (hkRefReady_core ..) hs h
  | hkRegEnable => exact effect_core (hkRegEnable_core ..) hs h
  | acqStart => exact effect_core (acqStart_core ..) hs h
  | acqStop => exact effect_core (acqStop_core ..) hs h
  | acquisitionStarts => exact effect_core (acquisitionStarts_core ..) hs h
  | acquisitionStops => exact effect_core (acquisitionStops_core ..) hs h
  | feServiceWrite => exact effect_core (feServiceWrite_core ..) hs h
  | feSvc => exact effect_core (feSvc_core ..) hs h
  | assayGo => exact effect_core (assayGo_core ..) hs h
  | assayAbort => exact effect_core (assayAbort_core ..) hs h
  | assayDone => exact effect_core (assayDone_core ..) hs h
  | testLogicReset => exact effect_inRange (hs.of_time rfl) hs h
  | idcode => exact effect_inRange (hs.of_time rfl) hs h
  | extest => exact effect_inRange (hs.extest ..) hs h
  | samplePreload => exact effect_inRange (hs.of_time rfl) hs h
  | bypass => exact effect_inRange (hs.of_time rfl) hs h
  | ctrlAccess => exact effect_inRange (hs.ctrlAccess ..) hs h
  | hsEntry => exact effect_inRange (hs.hsEntry ..) hs h
  | registerWrite => exact effect_core (registerWrite_core ..) hs h
  | readClear => exact effect_core (readClear_core ..) hs h
  | transactionTimeout => exact effect_inRange (hs.transactionTimeout ..) hs h
  | loopCheckerPattern => exact effect_core (loopCheckerPattern_core ..) hs h
  | hostPassRead => exact effect_core (hostPassRead_core ..) hs h
  | burnishWindowEnd => exact effect_core (burnishWindowEnd_core ..) hs h
  | puTempWarning => exact effect_core (puTempWarning_core ..) hs h
  | stateCopyLinkUp => exact effect_core (stateCopyLinkUp_core ..) hs h
  | arbiterHeartbeatRegained => exact effect_core (arbiterHeartbeatRegained_core ..) hs h
  | interlockDarkPulse => exact effect_core (interlockDarkPulse_core ..) hs h
  | supervisorClockReturn => exact effect_core (supervisorClockReturn_core ..) hs h

/-- Settles O5: every command and every bucket edge keeps machine time within its orbit. -/
theorem everyStepKeepsMachineTimeInRange : Obligations.EveryStepKeepsMachineTimeInRange := by
  unfold Obligations.EveryStepKeepsMachineTimeInRange
  intro s t hbucket hnb horbit h
  have hs : InRange s := ⟨hbucket, hnb, horbit⟩
  suffices ht : InRange t from ⟨ht.bucket, ht.nb, ht.orbit⟩
  unfold step at h
  split at h
  · obtain rfl := Host.Outcome.next.inj h
    exact hs.tick
  case _ c rest _ => exact exec_inRange (hs.of_time (t := { s with pending := rest }) rfl) h

end Sys2Proof.Machine
end

section
/-! PROOF. Orbit starts and MT loads (R90, R93, R118). -/

namespace Sys2Proof.Machine

open Sys2Proof

/-- Machine time runs with an MT load held, and a write to the orbit mask of calendar entry 0 is still to come into
force; the calendar is off. -/
def loadWithMaskPending : State :=
  { State.reset with
    mt := { State.reset.mt with running := true, held := true }
    was := [⟨2, (CX_CAL_OMASK_mask 0).key, 0⟩] }

theorem loadWithMaskPending_mtLoadApply : (mtLoadApply loadWithMaskPending).was = [] := by decide +kernel

/-- Refutes O13: an MT load puts every waiting write of the calendar into force (R118), so beside the parts that the
statement names it changes the writes still to come into force. -/
theorem not_orbitStartsAndMtLoads : ¬ Obligations.OrbitStartsAndMtLoads := by
  unfold Obligations.OrbitStartsAndMtLoads
  rintro ⟨-, -, -, -, -, happly, -⟩
  obtain ⟨t, ht, -, -, -, hframe⟩ := happly loadWithMaskPending rfl rfl rfl (by decide +kernel) rfl rfl
    (by decide +kernel)
  obtain rfl := Host.Outcome.next.inj ((exec_mtLoadApply loadWithMaskPending).symm.trans ht)
  have hwas : (mtLoadApply loadWithMaskPending).was = loadWithMaskPending.was := hframe.parts .was (by decide)
  rw [loadWithMaskPending_mtLoadApply] at hwas
  cases hwas

end Sys2Proof.Machine
end

section
/-! SUPPORT and PROOF. Control transactions that meet an error (R540 to R548). -/

namespace Sys2Proof.Machine

open Sys2Proof

/-! ## The commands -/

theorem exec_registerWrite {p : Path} {a v be : Nat} (hp : p.wf = true) (ha : a < 2 ^ 32) (hv : v < 2 ^ 32) (hbe : be < 16)
    (s : State) : exec (.registerWrite p a v be) s = .next (s.transact ⟨⟨p, none⟩, true, a, v, be⟩ .clean) :=
  effect_of_wf (c := .registerWrite p a v be) (by simp [Instr.wf, hp, hbe]; omega) (registerWrite p a v be) s

theorem exec_readClear {p : Path} {a be : Nat} (hp : p.wf = true) (ha : a < 2 ^ 32) (hbe : be < 16) (s : State) :
    exec (.readClear p a be) s = .next (s.transact ⟨⟨p, none⟩, false, a, 0, be⟩ .clean) :=
  effect_of_wf (c := .readClear p a be) (by simp [Instr.wf, hp, hbe]; omega) (readClear p a be) s

/-! ## The record of an error (R548) -/

/-- Error `code` of a transaction by `p` at address `a`, recorded whole. -/
structure ErrorRecorded (s t : State) (p : Path) (a code : Nat) : Prop extends ErrorAnswered s t code where
  path : t.get CX_CT_ERR_path = pathCode p
  block : t.get CX_CT_ERR_block = a / 2 ^ 24
  addr : t.get CX_CT_ERR_ADDR_addr = a
  err : t.get CX_CT_ERR_err = 1
  event : s.get CX_CT_ERR_err = 0 → Sparse.has 0 s.evReq = false →
    Sparse.get 0 0 t.evReq = pathCode p * 0x1000 + code * 0x100 + a / 2 ^ 24

theorem pathCode_lt (p : Path) : pathCode p < 4 := by
  cases p <;> simp [pathCode]

theorem State.get_raise_arg {s : State} {src : Nat} (h : Sparse.has src s.evReq = false) (arg : Nat) :
    Sparse.get 0 src (s.raise src arg).evReq = arg % 0x10000 := by
  simp [State.raise, h, Sparse.get_insert_same]

theorem State.ctError_place (s : State) (p : Path) (code : Nat) {a : Nat} (ha : a < 2 ^ 32) :
    let t := s.ctError p code a
    t.get CX_CT_ERR_path = pathCode p ∧ t.get CX_CT_ERR_block = a / 2 ^ 24 ∧ t.get CX_CT_ERR_ADDR_addr = a ∧
      t.get CX_CT_ERR_err = 1 := by
  have hpath := pathCode_lt p
  unfold State.ctError
  dsimp only
  simp (disch := decide) only [State.get_flag_ne, State.get_flag_same _ (f := CX_CT_ERR_err) rfl, State.get_count_ne,
    State.get_set_ne, State.get_set_same, and_true]
  refine ⟨Nat.mod_eq_of_lt ?_, Nat.mod_eq_of_lt ?_, Nat.mod_eq_of_lt ha⟩
  · exact hpath.trans_le (by decide)
  · show a / 2 ^ 24 < 2 ^ 8
    omega

theorem State.ctError_event {s : State} (hclear : s.get CX_CT_ERR_err = 0) (hnone : Sparse.has 0 s.evReq = false)
    (p : Path) {code a : Nat} (hcode : code < 16) (ha : a < 2 ^ 32) :
    Sparse.get 0 0 (s.ctError p code a).evReq = pathCode p * 0x1000 + code * 0x100 + a / 2 ^ 24 := by
  have hpath := pathCode_lt p
  unfold State.ctError State.flag
  dsimp only
  rw [if_neg (by
    simp (disch := decide) only [State.on, State.get_count_ne, State.get_set_ne, hclear]
    decide), State.get_raise_arg (by simpa only [State.set_evReq, State.count_evReq] using hnone)]
  omega

theorem State.answered_errorRecorded (s : State) {t : Txn} {status : Nat} (h : status ≠ 0) (hlt : status < 16)
    (ha : t.addr < 2 ^ 32) (data : Nat) : ErrorRecorded s (s.answered t status data) t.src.path t.addr status := by
  refine ⟨s.answered_errorAnswered t h hlt data, ?_, ?_, ?_, ?_, ?_⟩ <;> rw [State.answered_of_error h]
  · exact (s.ctError_place _ _ ha).1
  · exact (s.ctError_place _ _ ha).2.1
  · exact (s.ctError_place _ _ ha).2.2.1
  · exact (s.ctError_place _ _ ha).2.2.2
  · exact fun hclear hnone => State.ctError_event hclear hnone _ hlt ha

/-- The statement's form of it. -/
theorem ErrorRecorded.stated {s t : State} {p : Path} {a code : Nat} (h : ErrorRecorded s t p a code) :
    t.answer = (code, 0) ∧ t.get CX_CT_ERR_status = code ∧ t.get CX_CT_ERR_path = pathCode p ∧
      t.get CX_CT_ERR_block = a / 2 ^ 24 ∧ t.get CX_CT_ERR_ADDR_addr = a ∧
      t.get CX_CT_ERR_count = min (s.get CX_CT_ERR_count + 1) (2 ^ CX_CT_ERR_count.width - 1) ∧
      t.get CX_CT_ERR_err = 1 ∧ (s.get CX_CT_ERR_err = 0 → Sparse.has 0 s.evReq = false →
        Sparse.get 0 0 t.evReq = pathCode p * 0x1000 + code * 0x100 + a / 2 ^ 24) ∧
      Frame [.answer, .evReq] [CX_CT_ERR_status, CX_CT_ERR_path, CX_CT_ERR_block, CX_CT_ERR_count, CX_CT_ERR_err,
        CX_CT_ERR_ADDR_addr, MG_EVLOG_merged] s t :=
  ⟨h.answer, h.shown, h.path, h.block, h.addr, h.counted, h.err, h.event, h.frame.mono (by decide) (by decide)⟩

theorem State.transact_stated {s : State} {t : Txn} {code : Nat} (h : s.txnError t = code) (hcode : code ≠ 0)
    (hlt : code < 16) (ha : t.addr < 2 ^ 32) (r : EccResult) :
    ErrorRecorded s (s.transact t r) t.src.path t.addr code := by
  subst h
  rw [State.transact_of_error hcode]
  exact s.answered_errorRecorded hcode hlt ha 0

/-! ## The order of the tests (R543 to R547) -/

/-- The blocks of the control space above the plate (R540, R492). -/
theorem addrKnown_iff (a : Nat) : addrKnown a = true ↔ a < 0x10000000 ∨ ([(0x10000000, 0x10FFFFFF),
    (0x20000000, 0x22FFFFFF), (0x30000000, 0x31FFFFFF), (0x40000000, 0x40061FFF), (0x50000000, 0x53FFFFFF)].any
      fun r => decide (r.1 ≤ a) && decide (a ≤ r.2)) = true := by
  simp only [addrKnown, Bool.or_eq_true, Bool.and_eq_true, decide_eq_true_eq, List.contains_eq_mem, List.mem_cons,
    List.not_mem_nil, or_false, List.any_cons, List.any_nil, Bool.false_eq_true]
  omega

theorem narrowTarget_eq_false (a : Nat) : narrowTarget a = false ↔
    ¬ (a < 0x10000000 ∨ (0x10000800 ≤ a ∧ a < 0x10000C00) ∨ (0x40000000 ≤ a ∧ a < 0x40062000)) := by
  rw [← Bool.not_eq_true, narrowTarget]
  simp only [Bool.or_eq_true, Bool.and_eq_true, decide_eq_true_eq, or_assoc]

/-- The target takes no such access: no block, or a write above the frame window of the plate. -/
def Txn.away (t : Txn) : Bool :=
  !addrKnown t.addr || (t.write && decide (0xC0000 ≤ t.addr) && decide (t.addr < 0x10000000))

section
variable {s : State} {t : Txn}

theorem State.txnError_of_away (h : t.away = true) : s.txnError t = 1 := if_pos h

theorem State.txnError_of_shape (h : t.away = false)
    (hshape : t.addr % 4 ≠ 0 ∨ t.be % 16 = 0 ∨ (t.be % 16 ≠ 15 ∧ narrowTarget t.addr = false)) : s.txnError t = 2 := by
  unfold State.txnError
  rw [if_neg (by simpa [Txn.away] using h), if_pos hshape]

theorem State.txnError_of_shaped (h : t.away = false)
    (hshape : ¬ (t.addr % 4 ≠ 0 ∨ t.be % 16 = 0 ∨ (t.be % 16 ≠ 15 ∧ narrowTarget t.addr = false))) :
    s.txnError t = if 0x20000000 ≤ t.addr ∧ t.addr < 0x23000000 ∧ s.get (nowFld (t.addr / 2 ^ 24 - 0x20)) = 2 then 3
      else if (t.write && s.writeRefused t) = true then 4 else 0 := by
  unfold State.txnError
  rw [if_neg (by simpa [Txn.away] using h), if_neg hshape]

end

end Sys2Proof.Machine
end

section
/-! PROOF. Control transactions that meet an error (R540 to R548). -/

namespace Sys2Proof.Machine

open Sys2Proof

/-- An access to an FE die that is switched off. -/
theorem State.txnError_of_dieOff {s : State} {t : Txn} {n : Nat} (hn : n < 3) (halign : t.addr % 4 = 0)
    (hbe : t.be = 15) (hdie : t.addr / 2 ^ 24 = 0x20 + n) (hoff : s.get (nowFld n) = 2) : s.txnError t = 3 := by
  have hknown : addrKnown t.addr = true := by
    rw [addrKnown_iff]
    simp only [List.any_cons, List.any_nil, Bool.or_eq_true, Bool.and_eq_true, decide_eq_true_eq]
    omega
  have haway : t.away = false := by
    simp only [Txn.away, hknown, Bool.not_true, Bool.false_or, Bool.and_eq_false_iff, decide_eq_false_iff_not]
    omega
  rw [State.txnError_of_shaped haway (by rw [hbe]; omega), if_pos]
  refine ⟨by omega, by omega, ?_⟩
  rw [hdie, Nat.add_sub_cancel_left]
  exact hoff

/-- A write into the frame window while no load is open. -/
theorem State.txnError_of_plateClosed {s : State} {t : Txn} (hw : t.write = true) (hwin : t.addr < 0xC0000)
    (halign : t.addr % 4 = 0) (hbe : t.be % 16 ≠ 0)
    (hclosed : s.get CX_PLATE_STATUS_state = 0 ∨ s.get CX_PLATE_STATUS_state = 4) : s.txnError t = 4 := by
  have hknown : addrKnown t.addr = true := (addrKnown_iff _).2 (.inl (by omega))
  have haway : t.away = false := by
    simp only [Txn.away, hknown, Bool.not_true, Bool.false_or, Bool.and_eq_false_iff, decide_eq_false_iff_not]
    omega
  have hnarrow : narrowTarget t.addr ≠ false := by
    rw [Ne, narrowTarget_eq_false]
    omega
  have hrefused : s.writeRefused t = true := by
    unfold State.writeRefused
    dsimp only
    rw [if_pos hwin]
    simpa using hclosed
  rw [State.txnError_of_shaped haway (by tauto), if_neg (by omega), if_pos (by simp [hw, hrefused])]

/-- Settles O59: the tests of an address, its alignment and byte enables, its die and its rules come in this order, and
the first that fails gives the answer and the record. -/
theorem busErrorsAreFoundInOrderAndRecorded : Obligations.BusErrorsAreFoundInOrderAndRecorded := by
  unfold Obligations.BusErrorsAreFoundInOrderAndRecorded
  refine ⟨?_, ?_, ?_, ?_, ?_, ?_, ?_⟩
  · intro s p a v be hp ha hv hbe hlo hno
    refine ⟨_, exec_registerWrite hp ha hv hbe s,
      (State.transact_stated (State.txnError_of_away ?_) (by decide) (by decide) ha _).stated⟩
    have hknown := addrKnown_iff a
    rw [hno] at hknown
    by_cases hplate : a < 0x10000000
    · simp [Txn.away, hlo, hplate]
    · simp [Txn.away, Bool.eq_false_iff.2 fun h => (by simpa [hplate] using hknown.1 h : False)]
  · intro s p a be hp ha hbe hlo hno
    refine ⟨_, exec_readClear hp ha hbe s,
      (State.transact_stated (State.txnError_of_away ?_) (by decide) (by decide) ha _).stated⟩
    have hknown := addrKnown_iff a
    rw [hno] at hknown
    simp [Txn.away, Bool.eq_false_iff.2 fun h => (by simpa [hlo.not_gt] using hknown.1 h : False)]
  · intro s p a v be hp ha hv hbe hblock hshape
    have hknown : addrKnown a = true := (addrKnown_iff a).2 (hblock.imp_left (by omega))
    refine ⟨_, exec_registerWrite hp ha hv hbe s,
      (State.transact_stated (State.txnError_of_shape ?_ ?_) (by decide) (by decide) ha _).stated⟩
    · have hwin : a < 0xC0000 ∨ 0x10000000 ≤ a := by
        refine hblock.imp_right fun h => ?_
        simp only [List.any_cons, List.any_nil, Bool.or_eq_true, Bool.and_eq_true, decide_eq_true_eq,
          Bool.false_eq_true, or_false] at h
        omega
      simp only [Txn.away, hknown, Bool.not_true, Bool.false_or, Bool.and_eq_false_iff, decide_eq_false_iff_not]
      omega
    · simpa only [Nat.mod_eq_of_lt hbe, narrowTarget_eq_false] using hshape
  · intro s p a be hp ha hbe hblock hshape
    have hknown : addrKnown a = true := (addrKnown_iff a).2 hblock
    refine ⟨_, exec_readClear hp ha hbe s,
      (State.transact_stated (State.txnError_of_shape ?_ ?_) (by decide) (by decide) ha _).stated⟩
    · simp [Txn.away, hknown]
    · simpa only [Nat.mod_eq_of_lt hbe, narrowTarget_eq_false] using hshape
  · intro s p a v n hp ha hv hn halign hdie hoff
    exact ⟨_, exec_registerWrite hp ha hv (by decide) s, (State.transact_stated
      (State.txnError_of_dieOff hn halign rfl hdie hoff) (by decide) (by decide) ha _).stated⟩
  · intro s p a n hp ha hn halign hdie hoff
    exact ⟨_, exec_readClear hp ha (by decide) s, (State.transact_stated
      (State.txnError_of_dieOff hn halign rfl hdie hoff) (by decide) (by decide) ha _).stated⟩
  · intro s p a v be hp ha hv hbe hwin halign hne hclosed
    exact ⟨_, exec_registerWrite hp ha hv hbe s, (State.transact_stated
      (State.txnError_of_plateClosed rfl hwin halign (by rwa [Nat.mod_eq_of_lt hbe]) hclosed) (by decide) (by decide)
      ha _).stated⟩

end Sys2Proof.Machine
end

section
/-! SUPPORT. Registers through the bus: where a write stores and a read answers, by the access of the fields (R17, R543,
R551). -/

namespace Sys2Proof.Machine

open Sys2Proof

/-! ## Registers as their addresses find them -/

def irqenReg (i : Nat) : RegAt := ⟨0x1000c140, [i], [MG_EV_IRQEN_en i]⟩

def pendReg (i : Nat) : RegAt := ⟨0x1000c1c0, [i], [MG_EV_PEND_pend i]⟩

def deviceIdReg : RegAt :=
  ⟨CX_DEVICE_ID_part.addr, [], [CX_DEVICE_ID_part, CX_DEVICE_ID_variant, CX_DEVICE_ID_stepping]⟩

def mgStatusReg : RegAt :=
  ⟨MG_STATUS_refused.addr, [], [MG_STATUS_state, MG_STATUS_cause, MG_STATUS_active_half, MG_STATUS_restarts,
    MG_STATUS_evq_lost, MG_STATUS_refused, MG_STATUS_halts]⟩

def hkCntReg : RegAt := ⟨HK_CNT_nr.addr, [], [HK_CNT_overrun, HK_CNT_dropped, HK_CNT_late, HK_CNT_nr]⟩

theorem regAt_irqen : ∀ i < 16, regAt (MG_EV_IRQEN_en i).addr = some (irqenReg i) := by decide +kernel

theorem regAt_pend : ∀ i < 16, regAt (MG_EV_PEND_pend i).addr = some (pendReg i) := by decide +kernel

theorem regAt_deviceId : regAt CX_DEVICE_ID_part.addr = some deviceIdReg := by decide +kernel

theorem regAt_mgStatus : regAt MG_STATUS_refused.addr = some mgStatusReg := by decide +kernel

theorem regAt_hkCnt : regAt HK_CNT_nr.addr = some hkCntReg := by decide +kernel

theorem regAt_unlisted : regAt 0x53FFFFFC = none := by decide +kernel

/-! ## Writes and reads of a register -/

/-- MG_EV_IRQEN and MG_EV_PEND have no rule beside the access of their fields. -/
theorem State.writeReg_of_event (s : State) (src : Source) {r : RegAt} (h : r.base = 0x1000c140 ∨ r.base = 0x1000c1c0)
    (v : Nat) : s.writeReg src r v = s.storeReg r v := by
  unfold State.writeReg writePlate writeTime writeFe writeData writeLane writeFabric writePower writeMgmt writeDma
  obtain h | h := h
  · simp only [h]
    rfl
  · simp only [h]
    rfl

theorem State.writeReg_deviceId (s : State) (src : Source) (v : Nat) : s.writeReg src deviceIdReg v = s := rfl

theorem State.writeReg_mgStatus (s : State) (src : Source) (v : Nat) :
    s.writeReg src mgStatusReg v = s.storeReg mgStatusReg v := rfl

theorem State.readReg_irqen (s : State) (i : Nat) :
    s.readReg (irqenReg i) = (s.fieldsWord [] [MG_EV_IRQEN_en i], s) := by
  have hbase : (irqenReg i).base = 0x1000c140 := rfl
  unfold State.readReg State.readBefore State.riseBefore State.readAfter State.openFields State.views
  simp only [hbase]
  rfl

theorem State.readReg_hkCnt (s : State) :
    s.readReg hkCntReg = (s.fieldsWord [] hkCntReg.fields, s.each hkCntReg.fields fun s f => s.set f 0) := rfl

/-- What the fields of HK_CNT read together (R517). -/
theorem State.fieldsWord_hkCnt (s : State) : s.fieldsWord [] hkCntReg.fields =
    s.get HK_CNT_overrun * 2 ^ 16 + s.get HK_CNT_dropped * 2 ^ 8 + s.get HK_CNT_late * 2 ^ 4 + s.get HK_CNT_nr := by
  have hword (f : Fld) : s.get f % 2 ^ f.width = s.get f := Nat.mod_eq_of_lt (s.get_lt f)
  have hdef : s.fieldsWord [] hkCntReg.fields =
      0 + s.get HK_CNT_overrun % 2 ^ HK_CNT_overrun.width * 2 ^ 16 +
        s.get HK_CNT_dropped % 2 ^ HK_CNT_dropped.width * 2 ^ 8 +
        s.get HK_CNT_late % 2 ^ HK_CNT_late.width * 2 ^ 4 + s.get HK_CNT_nr % 2 ^ HK_CNT_nr.width * 2 ^ 0 := rfl
  rw [hdef]
  simp only [hword]
  omega

theorem State.fieldsWord_irqen (s : State) (i : Nat) : s.fieldsWord [] [MG_EV_IRQEN_en i] = s.get (MG_EV_IRQEN_en i) := by
  have hword : s.get (MG_EV_IRQEN_en i) % 2 ^ 32 = s.get (MG_EV_IRQEN_en i) :=
    Nat.mod_eq_of_lt (s.get_lt (MG_EV_IRQEN_en i))
  have hdef : s.fieldsWord [] [MG_EV_IRQEN_en i] = 0 + s.get (MG_EV_IRQEN_en i) % 2 ^ 32 * 2 ^ 0 := rfl
  rw [hdef, hword]
  omega

/-! ## Through the bus -/

/-- Register addresses of the coordinator and of the blocks from 0x5000_0000 on that name no memory behind a window. -/
def PlainAddr (a : Nat) : Prop :=
  a % 4 = 0 ∧ (a = 0x10000000 ∨
    0x10001000 ≤ a ∧ a < 0x10080000 ∧ (a < 0x10008000 ∨ 0x1000c000 ≤ a) ∨ a = 0x53FFFFFC)

theorem PlainAddr.txnError {s : State} {t : Txn} (h : PlainAddr t.addr) (hbe : t.be = 15) : s.txnError t = 0 := by
  obtain ⟨halign, hplace⟩ := h
  have hknown : addrKnown t.addr = true := by
    rw [addrKnown_iff]
    simp only [List.any_cons, List.any_nil, Bool.or_eq_true, Bool.and_eq_true, decide_eq_true_eq, Bool.false_eq_true,
      or_false]
    omega
  have haway : t.away = false := by
    simp only [Txn.away, hknown, Bool.not_true, Bool.false_or, Bool.and_eq_false_iff, decide_eq_false_iff_not]
    omega
  have hrefused : s.writeRefused t = false := by
    unfold State.writeRefused
    dsimp only
    rw [if_neg (by omega), if_pos (by omega)]
  rw [State.txnError_of_shaped haway (by rw [hbe]; omega), if_neg (by omega), if_neg (by simp [hrefused])]

theorem PlainAddr.busWrite {s : State} {t : Txn} {g : RegAt} (h : PlainAddr t.addr) (hreg : regAt t.addr = some g) :
    s.busWrite t = s.writeReg t.src g t.data := by
  obtain ⟨halign, hplace⟩ := h
  unfold State.busWrite
  dsimp only
  rw [if_neg (by omega), if_neg (by omega), if_neg (by omega), if_neg (by omega), hreg]

theorem PlainAddr.busWrite_of_unlisted {s : State} {t : Txn} (h : PlainAddr t.addr) (hreg : regAt t.addr = none) :
    s.busWrite t = s := by
  obtain ⟨halign, hplace⟩ := h
  unfold State.busWrite
  dsimp only
  rw [if_neg (by omega), if_neg (by omega), if_neg (by omega), if_neg (by omega), hreg]

theorem PlainAddr.busRead {s : State} {a : Nat} (h : PlainAddr a) (be : Nat) (r : EccResult) :
    s.busRead a be r = s.regRead a := by
  obtain ⟨halign, hplace⟩ := h
  rw [State.busRead, if_neg (by omega), if_pos (by omega), State.blockRead, if_neg (by omega), if_neg (by omega),
    if_neg (by omega), if_neg (by omega)]

theorem PlainAddr.captureAt {s : State} {a : Nat} (h : PlainAddr a) : s.captureAt a = none := by
  obtain ⟨halign, hplace⟩ := h
  rw [State.captureAt, if_neg (by omega), if_neg (by omega), if_neg (by omega)]

theorem PlainAddr.regRead {s : State} {a : Nat} {g : RegAt} (h : PlainAddr a) (hreg : regAt a = some g) :
    s.regRead a = (0, (s.readReg g).1, (s.readReg g).2) := by
  simp only [State.regRead, h.captureAt, hreg]

theorem PlainAddr.regRead_of_unlisted {s : State} {a : Nat} (h : PlainAddr a) (hreg : regAt a = none) :
    s.regRead a = (0, 0, s) := by
  simp only [State.regRead, h.captureAt, hreg]

theorem PlainAddr.write {s : State} {p : Path} {a v : Nat} {g : RegAt} (h : PlainAddr a) (hreg : regAt a = some g)
    (hp : p.wf = true) (hv : v < 2 ^ 32) :
    exec (.registerWrite p a v 15) s = .next { s.writeReg ⟨p, none⟩ g v with answer := (0, 0) } := by
  rw [exec_registerWrite hp (by obtain ⟨_, h⟩ := h; omega) hv (by decide),
    State.transact_of_write (PlainAddr.txnError h rfl) rfl, PlainAddr.busWrite h hreg]

theorem PlainAddr.read {s : State} {p : Path} {a : Nat} {g : RegAt} (h : PlainAddr a) (hreg : regAt a = some g)
    (hp : p.wf = true) :
    exec (.readClear p a 15) s = .next { (s.readReg g).2 with answer := (0, (s.readReg g).1 % 2 ^ 32) } := by
  have hread : s.busRead a 15 .clean = (0, (s.readReg g).1, (s.readReg g).2) := by
    rw [h.busRead, h.regRead hreg]
  rw [exec_readClear hp (by obtain ⟨_, h⟩ := h; omega) (by decide),
    State.transact_of_read (PlainAddr.txnError h rfl) rfl hread, maskBytes_full]

theorem PlainAddr.write_of_unlisted {s : State} {p : Path} {a v : Nat} (h : PlainAddr a) (hreg : regAt a = none)
    (hp : p.wf = true) (hv : v < 2 ^ 32) :
    exec (.registerWrite p a v 15) s = .next { s with answer := (0, 0) } := by
  rw [exec_registerWrite hp (by obtain ⟨_, h⟩ := h; omega) hv (by decide),
    State.transact_of_write (PlainAddr.txnError h rfl) rfl, PlainAddr.busWrite_of_unlisted h hreg]

theorem PlainAddr.read_of_unlisted {s : State} {p : Path} {a : Nat} (h : PlainAddr a) (hreg : regAt a = none)
    (hp : p.wf = true) : exec (.readClear p a 15) s = .next { s with answer := (0, 0) } := by
  have hread : s.busRead a 15 .clean = (0, 0, s) := by rw [h.busRead, h.regRead_of_unlisted hreg]
  rw [exec_readClear hp (by obtain ⟨_, h⟩ := h; omega) (by decide),
    State.transact_of_read (PlainAddr.txnError h rfl) rfl hread, maskBytes_full, Nat.zero_mod]

/-! ## Bytes of the data RAM -/

theorem State.txnError_of_ram {s : State} {t : Txn} (hlo : 0x40040000 ≤ t.addr) (hhi : t.addr < 0x40060000)
    (halign : t.addr % 4 = 0) (hbe : t.be % 16 ≠ 0) (hw : t.write = true → t.addr < 0x40058000) : s.txnError t = 0 := by
  have hknown : addrKnown t.addr = true := by
    simp only [addrKnown, Bool.or_eq_true, Bool.and_eq_true, decide_eq_true_eq]
    omega
  have haway : t.away = false := by
    simp only [Txn.away, hknown, Bool.not_true, Bool.false_or, Bool.and_eq_false_iff, decide_eq_false_iff_not]
    omega
  have hnarrow : narrowTarget t.addr ≠ false := by
    rw [Ne, narrowTarget_eq_false]
    omega
  have hrefused : (t.write && s.writeRefused t) = false := by
    unfold State.writeRefused
    dsimp only
    rw [if_neg (by omega), if_neg (by omega), if_neg (by omega), if_neg (by omega), Bool.and_eq_false_iff,
      decide_eq_false_iff_not]
    by_cases h : t.write = true
    · have := hw h
      omega
    · exact .inl (Bool.eq_false_iff.2 h)
  rw [State.txnError_of_shaped haway (by tauto), if_neg (by omega), if_neg (by simp [hrefused])]

theorem State.mark_dramWrite (s : State) (i j v : Nat) :
    (s.dramWrite i v).mark memDram j = if j = i then 0 else s.mark memDram j := by
  split
  next h => subst h; exact Sparse.get_put_same 0 (markKey memDram j) 0 s.prot.marks
  next h =>
    exact Sparse.get_put_ne 0 0 (j := markKey memDram j) (k := markKey memDram i) (by unfold markKey; omega) 0 s.prot.marks

theorem State.mark_each_dramWrite (f : Nat → Nat) (off j : Nat) (l : List Nat) (s : State) :
    (s.each l fun s k => s.dramWrite (off + k) (f k)).mark memDram (off + j) =
      if j ∈ l then 0 else s.mark memDram (off + j) := by
  induction l generalizing s with
  | nil => rfl
  | cons k l ih =>
    refine (ih _).trans ?_
    rw [State.mark_dramWrite]
    by_cases hkj : j = k
    · subst hkj; simp
    · simp [hkj]

theorem State.dramStore_mark (s : State) (off data be : Nat) {k : Nat} (hk : k < 4) :
    (s.dramStore off data be).mark memDram (off + k) = if bit be k then 0 else s.mark memDram (off + k) := by
  rw [State.dramStore, State.mark_each_dramWrite]
  simp [hk]

theorem State.dramStore_mark_other (s : State) (off data be : Nat) {x : Nat} (hx : x < off ∨ off + 4 ≤ x) :
    (s.dramStore off data be).mark memDram x = s.mark memDram x := by
  have hkept (l : List Nat) (hl : ∀ k ∈ l, k < 4) : ∀ u : State,
      (u.each l fun s k => s.dramWrite (off + k) (byteOf data k)).mark memDram x = u.mark memDram x := by
    induction l with
    | nil => exact fun _ => rfl
    | cons k l ih =>
      intro u
      have hk := hl k (by simp)
      refine (ih (fun j hj => hl j (by simp [hj])) _).trans ?_
      rw [State.mark_dramWrite, if_neg (by omega)]
  exact hkept _ (fun k hk => List.mem_range.1 (List.mem_of_mem_filter hk)) s

/-- The bytes that `be` enables, in the word they come in. -/
def State.dramBytes (s : State) (off be : Nat) : Nat :=
  ((List.range 4).filter fun k => bit be k).foldl (fun v k => v + s.dramByte (off + k) * 256 ^ k) 0

theorem State.dramRead_enabled {s : State} {off : Nat} (h : ∀ k ∈ List.range 4, s.mark memDram (off + k) = 0)
    (be : Nat) : s.dramRead off be .clean = (0, s.dramBytes off be, s) := by
  have hfold (l : List Nat) (hl : ∀ k ∈ l, k < 4) (v : Nat) : l.foldl (fun (acc : Nat × Nat × State) k =>
      let (code, v, s) := acc
      let (c, b, s) := s.codedRead memDram (off + k) (s.dramByte (off + k)) .clean
      if code = 0 ∧ c = 0 then (0, v + b * 256 ^ k, s) else (5, 0, s)) (0, v, s) =
        (0, l.foldl (fun v k => v + s.dramByte (off + k) * 256 ^ k) v, s) := by
    induction l generalizing v with
    | nil => rfl
    | cons k l ih =>
      have hread := State.codedRead_of_clean (h k (List.mem_range.2 (hl k (by simp)))) (s.dramByte (off + k))
      simp only [List.foldl_cons, hread, and_self, if_true]
      exact ih (fun j hj => hl j (by simp [hj])) _
  have hclean (k : Nat) (l : List Nat) : (if l.head? = some k then EccResult.clean else .clean) = .clean := ite_self _
  simp only [State.dramRead, hclean]
  exact hfold _ (fun k hk => List.mem_range.1 (List.mem_of_mem_filter hk)) 0

/-- The byte at `off + k`, where `be` enables it. -/
def State.enabledByte (s : State) (off be k : Nat) : Nat := if bit be k then s.dramByte (off + k) else 0

/-- Four digits, in any base: kept apart from a numeral as base, which the kernel would unfold. -/
theorem foldl_digits (b : Nat) (e : Nat → Nat) : [0, 1, 2, 3].foldl (fun v k => v + e k * b ^ k) 0 =
    0 + e 0 * b ^ 0 + e 1 * b ^ 1 + e 2 * b ^ 2 + e 3 * b ^ 3 := rfl

theorem State.dramBytes_eq (s : State) (off be : Nat) : s.dramBytes off be = s.enabledByte off be 0 +
    s.enabledByte off be 1 * 256 + s.enabledByte off be 2 * 65536 + s.enabledByte off be 3 * 2 ^ 24 := by
  have hfilter (l : List Nat) (v : Nat) :
      (l.filter fun k => bit be k).foldl (fun v k => v + s.dramByte (off + k) * 256 ^ k) v =
        l.foldl (fun v k => v + s.enabledByte off be k * 256 ^ k) v := by
    induction l generalizing v with
    | nil => rfl
    | cons k l ih => by_cases h : bit be k = true <;> simp [State.enabledByte, h, ih]
  have hrange : List.range 4 = [0, 1, 2, 3] := rfl
  rw [State.dramBytes, hfilter, hrange, foldl_digits]
  omega

theorem State.enabledByte_lt {s : State} {off be k : Nat} (hbyte : s.dramByte (off + k) < 256) :
    s.enabledByte off be k < 256 := by
  unfold State.enabledByte
  split
  · exact hbyte
  · decide

theorem State.byteOf_dramBytes {s : State} {off be k : Nat} (hk : k < 4)
    (hbytes : ∀ k ∈ List.range 4, s.dramByte (off + k) < 256) : byteOf (s.dramBytes off be) k = s.enabledByte off be k := by
  have h0 := s.enabledByte_lt (be := be) (hbytes 0 (by decide))
  have h1 := s.enabledByte_lt (be := be) (hbytes 1 (by decide))
  have h2 := s.enabledByte_lt (be := be) (hbytes 2 (by decide))
  have h3 := s.enabledByte_lt (be := be) (hbytes 3 (by decide))
  rw [State.dramBytes_eq, byteOf]
  interval_cases k
  all_goals simp only [Nat.reducePow, Nat.pow_zero, Nat.pow_one]
  all_goals omega

theorem State.maskBytes_dramBytes {s : State} {off be : Nat}
    (hbytes : ∀ k ∈ List.range 4, s.dramByte (off + k) < 256) : maskBytes (s.dramBytes off be) be =
      ofBytes ((List.range 4).map fun k => if bit be k then s.dramByte (off + k) else 0) := by
  unfold maskBytes mergeBytes
  refine congrArg ofBytes (List.map_congr_left fun k hk => ?_)
  rw [State.byteOf_dramBytes (List.mem_range.1 hk) hbytes, State.enabledByte]
  split
  · rfl
  · simp [byteOf]

end Sys2Proof.Machine
end

section
/-! PROOF. Registers, the data RAM and unanswered transactions through the bus (R17, R543, R547, R551). -/

namespace Sys2Proof.Machine

open Sys2Proof

/-! ## Addresses -/

theorem plainAddr_irqen {i : Nat} (hi : i < 16) : PlainAddr (MG_EV_IRQEN_en i).addr := by
  simp only [PlainAddr, MG_EV_IRQEN_en]
  omega

theorem plainAddr_pend {i : Nat} (hi : i < 16) : PlainAddr (MG_EV_PEND_pend i).addr := by
  simp only [PlainAddr, MG_EV_PEND_pend]
  omega

theorem plainAddr_deviceId : PlainAddr CX_DEVICE_ID_part.addr := ⟨rfl, .inl rfl⟩

theorem plainAddr_mgStatus : PlainAddr MG_STATUS_refused.addr := ⟨rfl, .inr (.inl (by decide))⟩

theorem plainAddr_hkCnt : PlainAddr HK_CNT_nr.addr := ⟨rfl, .inr (.inl (by decide))⟩

theorem plainAddr_unlisted : PlainAddr 0x53FFFFFC := ⟨rfl, .inr (.inr rfl)⟩

/-! ## Fields -/

theorem State.storeReg_irqen {v : Nat} (hv : v < 2 ^ 32) (s : State) (i : Nat) :
    s.storeReg (irqenReg i) v = s.set (MG_EV_IRQEN_en i) v := by
  have hstore : s.storeReg (irqenReg i) v = s.set (MG_EV_IRQEN_en i) (bits v 0 32) := rfl
  rw [hstore, bits_zero, Nat.mod_eq_of_lt hv]

theorem State.storeReg_pend {v : Nat} (hv : v < 2 ^ 32) (s : State) (i : Nat) : s.storeReg (pendReg i) v =
    s.set (MG_EV_PEND_pend i) (Nat.xor (s.get (MG_EV_PEND_pend i)) (Nat.land (s.get (MG_EV_PEND_pend i)) v)) := by
  have hstore : s.storeReg (pendReg i) v = s.set (MG_EV_PEND_pend i) (Nat.xor (s.get (MG_EV_PEND_pend i))
    (Nat.land (s.get (MG_EV_PEND_pend i)) (bits v 0 32))) := rfl
  rw [hstore, bits_zero, Nat.mod_eq_of_lt hv]

/-- A one-bit W1C field keeps its value unless the write has a 1 there (R17). -/
theorem w1c_bit {x : Nat} (hx : x < 2) (v lo : Nat) :
    Nat.xor x (Nat.land x (bits v lo 1)) % 2 = if bit v lo then 0 else x := by
  have hbit : bits v lo 1 = if bit v lo then 1 else 0 := by
    rw [bits, bit, Nat.testBit_eq_decide_div_mod_eq]
    have := Nat.mod_two_eq_zero_or_one (v / 2 ^ lo)
    by_cases h : v / 2 ^ lo % 2 = 1 <;> simp_all
  rw [hbit]
  interval_cases x <;> split <;> rfl

theorem State.storeReg_mgStatus (s : State) (v : Nat) : s.storeReg mgStatusReg v =
    (s.set MG_STATUS_evq_lost (Nat.xor (s.get MG_STATUS_evq_lost) (Nat.land (s.get MG_STATUS_evq_lost) (bits v 9 1)))).set
      MG_STATUS_refused (Nat.xor (s.get MG_STATUS_refused) (Nat.land (s.get MG_STATUS_refused) (bits v 8 1))) := by
  have hstore : s.storeReg mgStatusReg v = State.writeField v (s.set MG_STATUS_evq_lost
    (Nat.xor (s.get MG_STATUS_evq_lost) (Nat.land (s.get MG_STATUS_evq_lost) (bits v 9 1)))) MG_STATUS_refused := rfl
  have hw (u : State) : State.writeField v u MG_STATUS_refused = u.set MG_STATUS_refused
    (Nat.xor (u.get MG_STATUS_refused) (Nat.land (u.get MG_STATUS_refused) (bits v 8 1))) := rfl
  rw [hstore, hw, State.get_set_ne s (by decide)]

/-- HK_CNT cleared, with `x` answered. -/
def State.hkCntCleared (s : State) (x : Nat × Nat) : State :=
  { s.each hkCntReg.fields fun s f => s.set f 0 with answer := x }

/-- HK_CNT after it is read: its counts start again. -/
theorem State.hkCntCleared_fields (s : State) (x : Nat × Nat) : let t := s.hkCntCleared x
    t.answer = x ∧ t.get HK_CNT_overrun = 0 ∧ t.get HK_CNT_dropped = 0 ∧ t.get HK_CNT_late = 0 ∧
      t.get HK_CNT_nr = 0 ∧ Frame [.answer] [HK_CNT_overrun, HK_CNT_dropped, HK_CNT_late, HK_CNT_nr] s t := by
  have hclear : (s.each hkCntReg.fields fun s f => s.set f 0) =
    (((s.set HK_CNT_overrun 0).set HK_CNT_dropped 0).set HK_CNT_late 0).set HK_CNT_nr 0 := rfl
  dsimp only
  rw [State.hkCntCleared, hclear]
  refine ⟨rfl, ?_, ?_, ?_, ?_, (((((Frame.refl _ _ s).set _ _ (by decide)).set _ _ (by decide)).set _ _
    (by decide)).set _ _ (by decide)).with_answer _ (by decide)⟩
  all_goals
    rw [State.get_with_answer]
    simp (disch := decide) only [State.get_set_ne, State.get_set_same, Nat.zero_mod]

theorem exec_readClear_hkCnt {p : Path} (hp : p.wf = true) (s : State) : exec (.readClear p HK_CNT_nr.addr 15) s =
    .next (s.hkCntCleared (0, s.get HK_CNT_overrun * 2 ^ 16 + s.get HK_CNT_dropped * 2 ^ 8 +
      s.get HK_CNT_late * 2 ^ 4 + s.get HK_CNT_nr)) := by
  have hword : s.fieldsWord [] hkCntReg.fields % 2 ^ 32 = s.fieldsWord [] hkCntReg.fields := by
    have hoverrun : s.get HK_CNT_overrun < 2 ^ 16 := s.get_lt _
    have hdropped : s.get HK_CNT_dropped < 2 ^ 8 := s.get_lt _
    have hlate : s.get HK_CNT_late < 2 ^ 4 := s.get_lt _
    have hnr : s.get HK_CNT_nr < 2 ^ 4 := s.get_lt _
    rw [State.fieldsWord_hkCnt]
    exact Nat.mod_eq_of_lt (by omega)
  rw [plainAddr_hkCnt.read regAt_hkCnt hp, State.readReg_hkCnt]
  dsimp only
  rw [hword, State.fieldsWord_hkCnt, State.hkCntCleared]

/-! ## Transactions without an answer (R547) -/

theorem exec_transactionTimeout {p : Path} {m : CtMsg} (hm : m.wf = true) (hp : p.wf = true) (hop : ctOpOf m ≤ 1)
    (took : Bool) (s : State) : exec (.transactionTimeout p m took) s = .next (transactionTimeout p m took s) :=
  effect_of_wf (c := .transactionTimeout p m took) (by simp [Instr.wf, hm, hp, hop]) (transactionTimeout p m took) s

theorem transactionTimeout_of_error {s : State} {p : Path} {m : CtMsg} (h : s.txnError (txnOf m ⟨p, none⟩) ≠ 0)
    (took : Bool) : transactionTimeout p m took s = s := if_pos (.inl h)

section
variable {s : State} {m : CtMsg}

theorem transactionTimeout_core (h : s.txnError (txnOf m ⟨.core, none⟩) = 0) (took : Bool) :
    transactionTimeout .core m took s = (s.iff (took && (txnOf m ⟨.core, none⟩).write) fun s =>
      s.busWrite (txnOf m ⟨.core, none⟩)).answered (txnOf m ⟨.core, none⟩) 6 0 := if_neg (by simp [h])

theorem transactionTimeout_test (h : s.txnError (txnOf m ⟨.test, none⟩) = 0) :
    transactionTimeout .test m false s = (s.answered (txnOf m ⟨.test, none⟩) 6 0).ctrlHeld
      (2 ^ 71 + 6 * 2 ^ 67 + bits (m.body.getD 0 0) 32 32 * 2 ^ 32) := if_neg (by simp [h])

theorem transactionTimeout_dma {c : Nat} (h : s.txnError (txnOf m ⟨.dma c, none⟩) = 0)
    (hrun : s.get (MG_DMA_CTRL_state c) = 1) : transactionTimeout (.dma c) m false s =
      (s.answered (txnOf m ⟨.dma c, none⟩) 6 0).dmaHalt c (if (txnOf m ⟨.dma c, none⟩).write then 3 else 2) :=
  if_neg (by simp [h, State.dmaRuns, hrun])

end

theorem State.ctrlHeld_ctrl (s : State) (c : Nat) : (s.ctrlHeld c).svc.tap.ctrl = c := rfl

theorem txnOf_write {m : CtMsg} (hm : m.wf = true) (src : Source) : (txnOf m src).write = (ctOpOf m == 1) := by
  have hhead : m.head < 2 ^ 64 := by
    simp only [CtMsg.wf, Bool.and_eq_true, decide_eq_true_eq] at hm
    exact hm.1.1
  have hop : ctOp m.head = ctOpOf m := by
    unfold ctOp bits ctOpOf
    omega
  rw [txnOf, hop]

theorem answered_timeout (s : State) (m : CtMsg) (p : Path) :
    ErrorRecorded s (s.answered (txnOf m ⟨p, none⟩) 6 0) p (bits (m.body.getD 0 0) 32 32) 6 :=
  s.answered_errorRecorded (by decide) (by decide) (bits_lt _ 32 32) 0

/-- What the next capture of the test access takes of a transaction that got no answer. -/
theorem ErrorRecorded.shownToTest {s u : State} {a : Nat} (h : ErrorRecorded s u .test a 6) {c : Nat} :
    let t := u.ctrlHeld c
    t.answer = (6, 0) ∧ t.svc.tap.ctrl = c ∧ t.get CX_CT_ERR_path = 1 ∧
      Frame [.answer, .evReq, .svc] [CX_CT_ERR_status, CX_CT_ERR_path, CX_CT_ERR_block, CX_CT_ERR_count, CX_CT_ERR_err,
        CX_CT_ERR_ADDR_addr, MG_EVLOG_merged] s t :=
  ⟨h.answer, rfl, h.path,
    (h.frame.mono (by decide) (by decide)).trans ((u.ctrlHeld_frame c).mono (by decide) (by simp))⟩

theorem State.dmaHalt_frame (s : State) (c err : Nat) : Frame [.evReq, .mg]
    [MG_DMA_CTRL_state c, MG_DMA_CTRL_err c, MG_EVLOG_merged] s (s.dmaHalt c err) :=
  (((((Frame.refl [.evReq, .mg] _ s).with_mg { s.mg with dma := Sparse.erase c s.mg.dma } (by decide)).set
    (MG_DMA_CTRL_state c) 3 (by simp)).set (MG_DMA_CTRL_err c) err (by simp)).raise 181 0 (by decide) (by simp))

/-- The channel halts after it. -/
theorem ErrorRecorded.haltsDma {s u : State} {a c err : Nat} (h : ErrorRecorded s u (.dma c) a 6) (hc : c < 8)
    (herr : err < 16) : let t := u.dmaHalt c err
    t.answer = (6, 0) ∧ t.get (MG_DMA_CTRL_state c) = 3 ∧ t.get (MG_DMA_CTRL_err c) = err ∧
      t.get CX_CT_ERR_status = 6 ∧ t.get CX_CT_ERR_path = 3 ∧
      Frame [.answer, .evReq, .mg] [CX_CT_ERR_status, CX_CT_ERR_path, CX_CT_ERR_block, CX_CT_ERR_count, CX_CT_ERR_err,
        CX_CT_ERR_ADDR_addr, MG_EVLOG_merged, MG_DMA_CTRL_state c, MG_DMA_CTRL_err c] s t := by
  have hhalted := u.dmaHalt_halted hc herr
  have hframe := u.dmaHalt_frame c err
  refine ⟨(hframe.parts .answer (by decide)).trans h.answer, hhalted.state, hhalted.err,
    (hhalted.kept _ (by decide) (by decide)).trans h.shown, (hhalted.kept _ (by decide) (by decide)).trans h.path,
    (h.frame.mono (by decide) ?_).trans (hframe.mono (by decide) ?_)⟩
  all_goals
    intro f hf
    simp only [errorRecord, List.mem_cons, List.not_mem_nil, or_false] at hf ⊢
    tauto

theorem irqen_apart : ∀ i < 16, ∀ g ∈ errorRecord, (MG_EV_IRQEN_en i).key ≠ g.key := by decide

/-- A write that took effect before it. -/
theorem ErrorRecorded.afterIrqen {s u : State} {i v a : Nat} (h : ErrorRecorded (s.set (MG_EV_IRQEN_en i) v) u .core a 6)
    (hi : i < 16) (hv : v < 2 ^ 32) : u.answer = (6, 0) ∧ u.get (MG_EV_IRQEN_en i) = v ∧ u.get CX_CT_ERR_status = 6 ∧
      Frame [.answer, .evReq] [CX_CT_ERR_status, CX_CT_ERR_path, CX_CT_ERR_block, CX_CT_ERR_count, CX_CT_ERR_err,
        CX_CT_ERR_ADDR_addr, MG_EVLOG_merged, MG_EV_IRQEN_en i] s u := by
  refine ⟨h.answer, ?_, h.shown, ?_⟩
  · rw [h.frame.get (irqen_apart i hi), State.get_set_same]
    exact Nat.mod_eq_of_lt hv
  · refine ((Frame.refl _ _ s).set _ _ (by simp)).trans (h.frame.mono (by decide) ?_)
    intro f hf
    simp only [errorRecord, List.mem_cons, List.not_mem_nil, or_false] at hf ⊢
    tauto

/-! ## The data RAM -/

section
variable {s : State} {p : Path} {k be : Nat} (hp : p.wf = true) (hbe : be < 16) (hne : be ≠ 0)
include hp hbe hne

theorem exec_registerWrite_dram (hk : k < 0x6000) {v : Nat} (hv : v < 2 ^ 32) :
    exec (.registerWrite p (0x40040000 + 4 * k) v be) s =
      .next { s.dramStore (4 * k) v be with answer := (0, 0) } := by
  generalize ha : 0x40040000 + 4 * k = a
  have hoff : a - 0x40040000 = 4 * k := by omega
  have hok : s.txnError ⟨⟨p, none⟩, true, a, v, be⟩ = 0 := State.txnError_of_ram (by dsimp only; omega)
    (by dsimp only; omega) (by dsimp only; omega) (by dsimp only; omega) fun _ => by dsimp only; omega
  rw [exec_registerWrite hp (by omega) hv hbe, State.transact_of_write hok rfl,
    State.busWrite_of_dram s (by dsimp only; omega) (by dsimp only; omega)]
  dsimp only
  rw [hoff]

theorem exec_readClear_dram (hk : k < 0x8000)
    (hclean : ∀ j ∈ List.range 4, s.mark memDram (4 * k + j) = 0) : exec (.readClear p (0x40040000 + 4 * k) be) s =
      .next { s with answer := (0, maskBytes (s.dramBytes (4 * k) be) be) } := by
  generalize ha : 0x40040000 + 4 * k = a
  have hoff : a - 0x40040000 = 4 * k := by omega
  have hok : s.txnError ⟨⟨p, none⟩, false, a, 0, be⟩ = 0 := State.txnError_of_ram (by dsimp only; omega)
    (by dsimp only; omega) (by dsimp only; omega) (by dsimp only; omega) fun h => by cases h
  have hread : s.busRead a be .clean = (0, s.dramBytes (4 * k) be, s) := by
    rw [State.busRead_of_dram s (by omega) (by omega), hoff, State.dramRead_enabled hclean]
  rw [exec_readClear hp (by omega) hbe, State.transact_of_read hok rfl hread]

end

/-- The word at `4 * k` takes the enabled bytes, and every other byte keeps its value and its mark. -/
theorem State.dramStore_bytes (s : State) (k v be x : Nat) :
    ((s.dramStore (4 * k) v be).dramByte x =
      if x / 4 = k ∧ bit be (x % 4) = true then byteOf v (x % 4) else s.dramByte x) ∧
    ((s.dramStore (4 * k) v be).mark memDram x =
      if x / 4 = k ∧ bit be (x % 4) = true then 0 else s.mark memDram x) := by
  by_cases hx : x / 4 = k
  · have hlt : x % 4 < 4 := Nat.mod_lt _ (by decide)
    have hplace : 4 * k + x % 4 = x := by omega
    have hbyte := s.dramStore_byte (4 * k) v be hlt
    have hmark := s.dramStore_mark (4 * k) v be hlt
    rw [hplace] at hbyte hmark
    rw [hbyte, hmark]
    simp [hx]
  · rw [State.dramStore_other _ _ _ _ (by omega), State.dramStore_mark_other _ _ _ _ (by omega)]
    simp [hx]

/-- Settles O60: registers, the data RAM and transactions without an answer, through every path. -/
theorem registersReadAndWriteAsTheirAccessSays : Obligations.RegistersReadAndWriteAsTheirAccessSays := by
  unfold Obligations.RegistersReadAndWriteAsTheirAccessSays
  refine ⟨?_, ?_, ?_, ?_, ?_, ?_, ?_, ?_, ?_, ?_, ?_, ?_, ?_, ?_, ?_⟩
  · intro s p i v hp hi hv
    rw [(plainAddr_irqen hi).write (regAt_irqen i hi) hp hv, State.writeReg_of_event _ _ (.inl rfl),
      State.storeReg_irqen hv]
  · intro s p i hp hi
    have hword : s.get (MG_EV_IRQEN_en i) % 2 ^ 32 = s.get (MG_EV_IRQEN_en i) :=
      Nat.mod_eq_of_lt (s.get_lt (MG_EV_IRQEN_en i))
    rw [(plainAddr_irqen hi).read (regAt_irqen i hi) hp, State.readReg_irqen]
    dsimp only
    rw [State.fieldsWord_irqen, hword]
  · intro s p v hp hv
    rw [plainAddr_deviceId.write regAt_deviceId hp hv, State.writeReg_deviceId]
  · intro s p i v hp hi hv
    rw [(plainAddr_pend hi).write (regAt_pend i hi) hp hv, State.writeReg_of_event _ _ (.inr rfl),
      State.storeReg_pend hv]
  · intro s p v hp hv
    refine ⟨_, plainAddr_mgStatus.write regAt_mgStatus hp hv, rfl, ?_⟩
    rw [State.writeReg_mgStatus, State.storeReg_mgStatus]
    refine ⟨?_, ?_, (((Frame.refl _ _ s).set _ _ (by decide)).set _ _ (by decide)).with_answer _ (by decide)⟩
    · rw [State.get_with_answer, State.get_set_same]
      exact w1c_bit (s.get_lt MG_STATUS_refused) v 8
    · rw [State.get_with_answer, State.get_set_ne _ (by decide), State.get_set_same]
      exact w1c_bit (s.get_lt MG_STATUS_evq_lost) v 9
  · intro s p hp
    exact ⟨_, exec_readClear_hkCnt hp s, s.hkCntCleared_fields _⟩
  · intro s p v hp hv
    exact plainAddr_unlisted.write_of_unlisted regAt_unlisted hp hv
  · intro s p hp
    exact plainAddr_unlisted.read_of_unlisted regAt_unlisted hp
  · intro s p k v be x hp hk hv hbe hne
    obtain ⟨hbyte, hmark⟩ := s.dramStore_bytes k v be x
    exact ⟨_, exec_registerWrite_dram hp hbe hne hk hv, rfl, hbyte, hmark,
      ((s.dramStore_frame _ _ _).mono (by decide) (by simp)).with_answer _ (by decide)⟩
  · intro s p k be hp hk hbe hne hbytes
    refine ⟨_, exec_readClear_dram hp hbe hne hk fun j hj => (hbytes j hj).2, ?_,
      (Frame.refl [.answer] [] s).with_answer _ (by decide)⟩
    exact congrArg (Prod.mk 0) (State.maskBytes_dramBytes fun j hj => (hbytes j hj).1)
  · intro s p m took hm hp hop hbad
    rw [exec_transactionTimeout hm hp hop, transactionTimeout_of_error hbad]
  · intro s m p a hm hop hp ha hok
    subst hp ha
    refine ⟨_, exec_transactionTimeout hm rfl hop false s, ?_⟩
    rw [transactionTimeout_core hok]
    exact (answered_timeout s m .core).stated
  · intro s c m hm hc hne hop hrun hok
    rw [exec_transactionTimeout hm (by simp [Path.wf, hc, hne]) hop, transactionTimeout_dma hok hrun, txnOf_write hm]
    obtain ⟨hanswer, hstate, herr, hstatus, hpath, hframe⟩ := (answered_timeout s m (.dma c)).haltsDma hc
      (err := if (ctOpOf m == 1) = true then 3 else 2) (by split <;> decide)
    exact ⟨_, rfl, hanswer, hstate, by simpa using herr, hstatus, hpath, hframe⟩
  · intro s m hm hop hok
    obtain ⟨hanswer, hctrl, hpath, hframe⟩ := (answered_timeout s m .test).shownToTest
    refine ⟨_, exec_transactionTimeout hm rfl hop false s, ?_⟩
    rw [transactionTimeout_test hok]
    exact ⟨hanswer, hctrl, hpath, hframe⟩
  · intro s m i v hm hop hi hv hbody hbe
    have haddr : bits (m.body.getD 0 0) 32 32 = (MG_EV_IRQEN_en i).addr := by
      simp only [hbody, bits, MG_EV_IRQEN_en]
      omega
    have hdata : bits (m.body.getD 0 0) 0 32 = v := by
      simp only [hbody, bits]
      omega
    have hwr : (ctOp m.head == 1) = true := by
      rw [show (ctOp m.head == 1) = _ from txnOf_write hm ⟨.core, none⟩, hop]
      rfl
    have htxn : txnOf m ⟨.core, none⟩ = ⟨⟨.core, none⟩, true, (MG_EV_IRQEN_en i).addr, v, 15⟩ := by
      rw [txnOf, hwr, haddr, hdata, ctBe, hbe]
    have hplain := plainAddr_irqen hi
    have hok : s.txnError (txnOf m ⟨.core, none⟩) = 0 := by
      rw [htxn]
      exact PlainAddr.txnError hplain rfl
    have hwrite : s.busWrite ⟨⟨.core, none⟩, true, (MG_EV_IRQEN_en i).addr, v, 15⟩ = s.set (MG_EV_IRQEN_en i) v := by
      rw [PlainAddr.busWrite hplain (regAt_irqen i hi), State.writeReg_of_event _ _ (.inl rfl), State.storeReg_irqen hv]
    refine ⟨_, exec_transactionTimeout hm rfl hop.le true s, ?_⟩
    rw [transactionTimeout_core hok, htxn, Bool.and_self, State.iff_true, hwrite]
    have hrec := (s.set (MG_EV_IRQEN_en i) v).answered_errorRecorded
      (t := ⟨⟨.core, none⟩, true, (MG_EV_IRQEN_en i).addr, v, 15⟩) (status := 6) (by decide) (by decide)
      (by obtain ⟨_, h⟩ := hplain; dsimp only; omega) 0
    exact hrec.afterIrqen hi hv

end Sys2Proof.Machine
end

section
/-! SUPPORT. The domain that stops at a bucket edge: what happens before that edge leaves it due, and what else happens at
it leaves the domain stopped (R8, R118, R177). -/

namespace Sys2Proof.Machine

open Sys2Proof

/-! ## What waits for the edge -/

/-- `t` has the same things waiting for the next bucket edge as `s`. -/
def SameEdge (s t : State) : Prop := t.mt.edge = s.mt.edge

namespace SameEdge

variable {s t u : State}

theorem refl (s : State) : SameEdge s s := rfl

theorem trans (h : SameEdge s t) (h' : SameEdge t u) : SameEdge s u := Eq.trans h' h

theorem beside (h : SameEdge s t) (hmt : u.mt.edge = t.mt.edge := by rfl) : SameEdge s u := Eq.trans hmt h

theorem ite {c : Prop} [Decidable c] (h : SameEdge s t) (h' : SameEdge s u) : SameEdge s (if c then t else u) := by
  split
  · exact h
  · exact h'

theorem iff {b : Bool} {f : State → State} (h : SameEdge s t) (hf : ∀ u, SameEdge u (f u)) :
    SameEdge s (t.iff b f) := ite (h.trans (hf t)) h

theorem each {α : Type} {l : List α} {f : State → α → State} (h : SameEdge s t) (hf : ∀ u a, SameEdge u (f u a)) :
    SameEdge s (t.each l f) := List.foldlRecOn l f h fun u hu a _ => hu.trans (hf u a)

theorem raise (h : SameEdge s t) (src arg : Nat) : SameEdge s (t.raise src arg) :=
  h.beside (congrArg Mt.edge (State.raise_mt ..))

theorem flag (h : SameEdge s t) (f : Fld) (src arg : Nat) : SameEdge s (t.flag f src arg) :=
  ite h ((h.beside : SameEdge s (t.set f 1)).raise src arg)

end SameEdge

theorem State.miss_sameEdge (s : State) (n e : Nat) : SameEdge s (s.miss n e) :=
  .ite (.refl s) (.ite (SameEdge.refl s).beside (.raise (SameEdge.refl s).beside _ _))

theorem State.assayCheck_sameEdge (s : State) : SameEdge s s.assayCheck := by
  have hend : SameEdge s s.assayRunEnd := by
    unfold State.assayRunEnd
    split
    · exact .ite (SameEdge.refl s).beside (.refl s)
    · exact .refl s
  unfold State.assayCheck
  split
  · exact .refl s
  · exact .ite (.refl s) (.raise hend.beside _ _)

theorem State.injRequest_sameEdge (s : State) (i loop : Nat) : SameEdge s (s.injRequest i loop) :=
  .ite (SameEdge.refl s).beside (SameEdge.refl s).beside

theorem State.calInject_sameEdge (s : State) (e a : Nat) : SameEdge s (s.calInject e a) := by
  unfold State.calInject
  dsimp only
  split
  · exact s.injRequest_sameEdge 0 0
  · exact s.injRequest_sameEdge 1 0
  · exact .ite (s.injRequest_sameEdge 2 _) (s.miss_sameEdge 1 e)
  · exact s.miss_sameEdge 1 e

theorem State.strobeDie_sameEdge (s : State) (k coarse n : Nat) : SameEdge s (s.strobeDie k coarse n) :=
  .ite (.flag (SameEdge.refl s).beside _ _ _)
    (.each (SameEdge.refl s).beside fun u _ => .iff (SameEdge.refl u).beside fun w => (SameEdge.refl w).beside)

theorem State.hkRequest_sameEdge (s : State) (input : Nat) (cal : Bool) : SameEdge s (s.hkRequest input cal) := by
  have hasked := (s.setHk { s.mg.hk with queue := s.mg.hk.queue ++ [⟨input % 64, cal, false⟩] }).assayCheck_sameEdge
  replace hasked : SameEdge s _ := (SameEdge.refl s).beside.trans hasked
  refine .ite (.flag (SameEdge.refl s).beside _ _ _) ?_
  dsimp only
  split
  · exact hasked.beside
  · exact .ite hasked.beside hasked
  · exact hasked

theorem State.reloadGo_sameEdge (s : State) (first n : Nat) : SameEdge s (reloadGo first n s) := by
  unfold reloadGo
  refine .ite (SameEdge.refl s).beside ?_
  dsimp only
  split
  · exact (SameEdge.refl s).beside
  · refine .ite (SameEdge.refl s).beside (.ite (SameEdge.refl s).beside ?_)
    split <;> exact (SameEdge.refl s).beside

theorem State.calRefresh_sameEdge (s : State) (e a : Nat) : SameEdge s (s.calRefresh e a) := by
  have hrefuse (n : Nat) : SameEdge s (s.cdRefuse n true) :=
    .ite (.raise (SameEdge.refl s).beside _ _) (SameEdge.refl s).beside
  exact .ite (s.miss_sameEdge 1 e) (.ite (.refl s) (.ite (hrefuse _) (.ite (.refl s) (SameEdge.refl s).beside)))

theorem State.calAct_sameEdge (s : State) (e act a coarse : Nat) : SameEdge s (s.calAct e act a coarse) := by
  unfold State.calAct
  split
  · exact .refl s
  · exact (SameEdge.refl s).each fun u n => u.strobeDie_sameEdge _ _ n
  · exact s.hkRequest_sameEdge _ _
  · exact s.calInject_sameEdge e a
  · exact .ite (.refl s) (SameEdge.refl s).beside
  · exact .ite (SameEdge.refl s).beside (.refl s)
  · exact s.reloadGo_sameEdge _ _
  · exact (SameEdge.refl s).raise _ _
  · exact s.calRefresh_sameEdge e a
  · exact s.miss_sameEdge 1 e

theorem State.takeAccept_sameEdge (s : State) (body : Nat) : SameEdge s (s.takeAccept body) :=
  .ite (.flag (SameEdge.refl s).beside _ _ _)
    (.iff (SameEdge.refl s).beside fun u => .flag (SameEdge.refl u).beside _ _ _)

theorem State.takeArrived_sameEdge (s : State) (n : Nat) : SameEdge s (s.takeArrived n) :=
  .each (SameEdge.refl s).beside fun u b => u.takeAccept_sameEdge b

/-- The firings of the current bucket leave what waits for the edge. -/
theorem State.calRun_sameEdge (s : State) : SameEdge s (s.calRun s.mt.bucket) := by
  have hfire : ∀ ks : List Nat, (∀ k ∈ ks, k / 256 ≤ s.mt.bucket) → ∀ u, SameTime s u → SameEdge s u →
      SameEdge s (u.each ks State.calFire) := by
    intro ks hks
    induction ks with
    | nil => exact fun u _ hu => hu
    | cons k ks ih =>
      intro u htime hedge
      obtain ⟨hk, hks⟩ := List.forall_mem_cons.1 hks
      have hstay : u.moveTo (k / 256) = u := State.moveTo_of_le (by rw [htime.bucket]; exact hk)
      refine ih hks _ ?_ ?_
      · rw [State.calFire, hstay]
        exact (htime.markFired _).calAct _ _ _ _
      · rw [State.calFire, hstay]
        exact (hedge.beside : SameEdge s (u.markFired _)).trans (State.calAct_sameEdge ..)
  exact hfire _ (fun k hk => (State.calDue_bucket hk).2) s (SameTime.refl s) (.refl s)

/-! ## The domain stopped -/

/-- The field is not the state of a servo. -/
def ServoApart (f : Fld) : Prop := ∀ n < 3, (FE_TDC_STATUS_state n).key ≠ f.key

/-- The domain stands, no period waits to be evaluated and every servo is off. -/
structure DomainOff (s : State) : Prop where
  running : s.mt.running = false
  maps : s.tg.maps = []
  servo : ∀ n < 3, s.get (FE_TDC_STATUS_state n) = 0

theorem servoApart_of_key {f : Fld} (h : f.key < 0x2000000c * 32 ∨ 0x23000000 * 32 ≤ f.key) : ServoApart f := by
  intro n hn
  simp only [Fld.key, FE_TDC_STATUS_state] at h ⊢
  omega

theorem servoApart_of_keys {fs : List Fld}
    (h : ∀ f ∈ fs, f.key < 0x2000000c * 32 ∨ 0x23000000 * 32 ≤ f.key) : ∀ f ∈ fs, ServoApart f :=
  fun f hf => servoApart_of_key (h f hf)

/-- A register of a die at another place than the servo's state. -/
theorem servoApart_of_die {a lo w r k : Nat} {acc : Access}
    (h : (a * 32 + lo) % 0x20000000 ≠ 0xc * 32 + 30 := by decide) : ServoApart ⟨a + k * 0x1000000, lo, w, r, acc⟩ := by
  intro n hn
  simp only [Fld.key, FE_TDC_STATUS_state]
  omega

namespace DomainOff

variable {s t : State}

theorem beside (h : DomainOff s) (hcsr : t.csr = s.csr := by rfl) (hrun : t.mt.running = s.mt.running := by rfl)
    (hmaps : t.tg.maps = s.tg.maps := by rfl) : DomainOff t :=
  ⟨hrun.trans h.running, hmaps.trans h.maps, fun n hn => by rw [← h.servo n hn, State.get, State.get, hcsr]⟩

theorem set (h : DomainOff s) (f : Fld) (v : Nat) (hf : ServoApart f) : DomainOff (s.set f v) :=
  ⟨h.running, h.maps, fun n hn => (State.get_set_ne s (hf n hn) v).trans (h.servo n hn)⟩

theorem raise (h : DomainOff s) (src arg : Nat) : DomainOff (s.raise src arg) := by
  unfold State.raise
  split
  · exact h.set _ _ (servoApart_of_key (by decide))
  · exact h.beside

theorem ite {c : Prop} [Decidable c] (h : DomainOff s) (h' : DomainOff t) : DomainOff (if c then s else t) := by
  split
  · exact h
  · exact h'

theorem iff {b : Bool} {f : State → State} (h : DomainOff s) (hf : ∀ u, DomainOff u → DomainOff (f u)) :
    DomainOff (s.iff b f) := ite (hf s h) h

theorem each {α : Type} {l : List α} {f : State → α → State} (h : DomainOff s)
    (hf : ∀ u a, DomainOff u → DomainOff (f u a)) : DomainOff (s.each l f) :=
  List.foldlRecOn l f h fun u hu a _ => hf u a hu

theorem of_frame {ps : List Part} {fs : List Fld} (h : DomainOff s) (hframe : Frame ps fs s t)
    (hf : ∀ f ∈ fs, ServoApart f) (hmt : Part.mt ∉ ps := by decide) (htg : Part.tg ∉ ps := by decide) :
    DomainOff t :=
  ⟨(congrArg Mt.running (hframe.parts .mt hmt)).trans h.running, (congrArg Tg.maps (hframe.parts .tg htg)).trans h.maps,
    fun n hn => (hframe.get fun g hg => hf g hg n hn).trans (h.servo n hn)⟩

/-! ### What else waits for the edge -/

theorem flushBegin (h : DomainOff s) : DomainOff s.flushBegin :=
  h.of_frame s.flushBegin_begun.frame (servoApart_of_keys (by decide))

theorem histClearing (h : DomainOff s) : DomainOff s.histClearing :=
  (h.beside (t := { s with rc := { s.rc with clearAt := s.clock } })).set _ _ (servoApart_of_key (by decide))

theorem assayCheck (h : DomainOff s) : DomainOff s.assayCheck := by
  have hend : DomainOff s.assayRunEnd := by
    unfold State.assayRunEnd
    split
    · exact .ite (h.set _ _ servoApart_of_die) h
    · exact h
  unfold State.assayCheck
  split
  · exact h
  · refine .ite h (.raise (.set (.set (.set (hend.beside (t := State.mk ..)) _ _ ?_) _ _ ?_) _ _ ?_) _ _)
    all_goals exact servoApart_of_key (by decide)

theorem bankFields_apart : ∀ f ∈ bankFields, ServoApart f := servoApart_of_keys (by decide)

theorem retireBanks (h : DomainOff s) : DomainOff s.retireBanks :=
  ((h.of_frame (s.wantBanks_frame s.mapBanks) bankFields_apart).set _ _ (servoApart_of_key (by decide))).assayCheck

theorem bankJoins (h : DomainOff s) (k : Nat) : DomainOff (s.bankJoins k) := by
  refine .ite (.raise (.set ?_ _ _ (servoApart_of_key (by decide))) _ _) h
  exact (h.beside (t := { s with store := { s.store with commitClear := without s.store.commitClear (2 ^ k) } })).of_frame
    (State.setBanks_frame ..) bankFields_apart (by simp) (by simp)

theorem cdTake (h : DomainOff s) (n v : Nat) : DomainOff (s.cdTake n v) := by
  have hcol : s.get (FE_CD_STATUS_column n) < 16 := State.get_lt _ _
  refine (h.beside (t := s.setDie n { s.die n with stamps := v })).set _ _ fun m _ => ?_
  simp only [Fld.key, FE_TDC_STATUS_state, FE_CD_COL_progress]
  omega

theorem putTable (h : DomainOff s) (ch : Nat) (l : List Nat) : DomainOff (s.putTable ch l) := by
  refine List.foldlRecOn _ _ h fun u hu j hj => ?_
  have hj := List.mem_range.1 hj
  refine (hu.set _ _ ?_).set _ _ ?_
  all_goals
    intro m _
    simp only [Fld.key, FE_TDC_STATUS_state, FE_BIN_even, FE_BIN_odd]
    omega

theorem swapTables (h : DomainOff s) (die : Nat) (hist : List (List Nat)) : DomainOff (s.swapTables die hist) := by
  have hcol : s.get (FE_CD_STATUS_column die) < 16 := State.get_lt _ _
  have hapart (a lo w r : Nat) (acc : Access) (ha : 0x20000040 ≤ a ∧ a < 0x20010000) (hlo : lo < 32) :
      ServoApart ⟨a + die * 0x1000000 + s.get (FE_CD_STATUS_column die) * 0x4, lo, w, r, acc⟩ := by
    intro m _
    simp only [Fld.key, FE_TDC_STATUS_state]
    omega
  refine .ite h ?_
  dsimp only
  refine .ite (.set ?taken _ _ servoApart_of_die) (.set ?taken _ _ servoApart_of_die)
  have hrows (good : List Nat) : DomainOff ((s.keepTables fun ch =>
      ch / 512 == die && ch % 512 / 32 == s.get (FE_CD_STATUS_column die)).each good fun u r =>
        u.putTable (die * 512 + s.get (FE_CD_STATUS_column die) * 32 + r) (cdTable 0 (hist.getD r []))) :=
    .each (h.each fun _ _ hu => hu.beside) fun _ _ hu => hu.putTable _ _
  refine (DomainOff.iff (DomainOff.iff (DomainOff.set (DomainOff.set (hrows _) _ _ ?_) _ _ ?_) fun u hu => ?_)
    fun u hu => ?_).cdTake _ _
  · exact hapart _ _ _ _ _ (by decide) (by decide)
  · exact hapart _ _ _ _ _ (by decide) (by decide)
  · refine ((hu.set _ _ ?_).set _ _ ?_).raise _ _
    all_goals exact hapart _ _ _ _ _ (by decide) (by decide)
  · exact (hu.set _ _ servoApart_of_die).raise _ _

theorem tileGone (h : DomainOff s) : DomainOff s.tileGone := by
  rw [State.tileGone_eq]
  refine .of_frame (.of_frame (.of_frame h (State.diesMasked_frame _) ?_) (State.loopFaultAll_frame _ 5) ?_)
    (State.tileEnds_frame _) ?_
  · intro f hf
    obtain ⟨n, -, rfl⟩ := List.mem_map.1 hf
    exact servoApart_of_die
  · intro f hf
    obtain ⟨r, hr, rfl | rfl⟩ | hf := mem_loopFaultFields hf
    · exact servoApart_of_key (by have := List.mem_range.1 hr; simp only [Fld.key, CX_LE_LOOP_en]; omega)
    · exact servoApart_of_key (by have := List.mem_range.1 hr; simp only [Fld.key, CX_LE_LOOPSTAT_cause]; omega)
    · exact servoApart_of_keys (fs := loopFaultShared) (by decide) f hf
  · exact servoApart_of_keys (by decide)

theorem edgeAct (h : DomainOff s) (a : EdgeAct) (ha : a ≠ .stop) : DomainOff (s.edgeAct a) := by
  cases a with
  | stop => exact absurd rfl ha
  | flush => exact h.flushBegin
  | retire => exact h.retireBanks
  | join k => exact h.bankJoins k
  | tables die hist => exact h.swapTables die hist
  | swap => exact h.histClearing
  | tileGone => exact h.tileGone

end DomainOff

theorem State.servosOff_servo (s : State) : ∀ n < 3, s.servosOff.get (FE_TDC_STATUS_state n) = 0 := by
  intro n hn
  refine State.each_get_of_put (I := fun _ => True) (List.mem_range.2 hn) trivial (fun _ _ _ _ => trivial)
    (fun u _ => u.unlock_state (by decide)) fun u k _ hk => (u.unlock_frame k 0).get fun g hg => ?_
  simp only [List.mem_cons, List.not_mem_nil, or_false] at hg
  obtain rfl | rfl | rfl := hg
  all_goals
    simp only [Fld.key, FE_TDC_STATUS_state, FE_TDC_STATUS_unlock, MG_EVLOG_merged]
    omega

theorem State.servosOff_running (s : State) : s.servosOff.mt.running = s.mt.running :=
  List.foldlRecOn (motive := fun u : State => u.mt.running = s.mt.running) (List.range 3)
    (fun u n => u.unlock n 0) rfl fun u hu n _ =>
      (congrArg Mt.running ((u.unlock_frame n 0).parts .mt (by decide))).trans hu

/-- The stop puts every servo off, whatever it was. -/
theorem State.domainStops_off (s : State) : DomainOff s.domainStops := by
  have hservo := State.servosOff_servo { s with mt := { s.mt with running := false, orbitOut := false } }
  have hrunning := State.servosOff_running { s with mt := { s.mt with running := false, orbitOut := false } }
  unfold State.domainStops
  generalize State.servosOff { s with mt := { s.mt with running := false, orbitOut := false } } = a at hservo hrunning ⊢
  exact ⟨hrunning, rfl, hservo⟩

/-- A stop among what waits for the edge leaves the domain off at its end. -/
theorem State.edgeActs_off {l : List EdgeAct} (h : .stop ∈ l) (s : State) : DomainOff (s.each l State.edgeAct) := by
  have hkeep (l : List EdgeAct) {u : State} (hu : DomainOff u) : DomainOff (u.each l State.edgeAct) :=
    hu.each fun w a hw => by
      by_cases ha : a = .stop
      · subst ha
        exact w.domainStops_off
      · exact hw.edgeAct a ha
  induction l generalizing s with
  | nil => simp at h
  | cons a l ih =>
    by_cases ha : a = .stop
    · subst ha
      exact hkeep l s.domainStops_off
    · exact ih (by simpa [Ne.symm ha] using h) _

/-- The edge at which the domain stops: machine time stands where it is. -/
theorem State.stopEdge_off {s : State} (h : s.stopDue = true) :
    DomainOff s.stopEdge ∧ SameTime s s.stopEdge := by
  have hedge : ((s.calRun s.mt.bucket).takeArrived (s.calRun s.mt.bucket).tg.arrived.length).mt.edge = s.mt.edge :=
    s.calRun_sameEdge.trans (State.takeArrived_sameEdge ..)
  have htime : SameTime s (s.calRun s.mt.bucket) := (SameTime.refl s).calRun
  unfold State.stopEdge
  refine ⟨?_, (htime.takeArrived _).edgeActs⟩
  refine State.edgeActs_off ?_ _
  rw [hedge]
  simpa [State.stopDue] using h

/-- With a stop due the next edge is that of the stop, in whatever bucket. -/
theorem State.tick_of_stop {s : State} (hrun : s.mt.running = true) (h : s.stopDue = true) : s.tick = s.stopEdge := by
  rw [State.tick, if_pos hrun, State.bucketEdge]
  split
  · rw [State.pass, if_neg (by decide), if_pos h]
  · rw [orbitStart_of_running hrun, State.orbitStep, if_pos h]

end Sys2Proof.Machine
end

section
/-! SUPPORT and PROOF. How the source of machine time, its loss and its return move the time state (R94 to R107). -/

namespace Sys2Proof.Machine

open Sys2Proof

/-! ## The commands -/

theorem exec_sourceSelect {sel : Nat} (h : sel < 4) (s : State) : exec (.sourceSelect sel) s = .next (sourceSelect sel s) :=
  effect_of_wf (c := .sourceSelect sel) (decide_eq_true h) (sourceSelect sel) s

theorem exec_sourceLost (s : State) : exec .sourceLost s = .next (sourceLost s) := effect_of_wf rfl sourceLost s

theorem exec_sourceQualified {lane : Nat} (h : lane < 48) (mclk : Bool) (offset : Int) (s : State) :
    exec (.sourceQualified mclk lane offset) s = .next (sourceQualified mclk lane offset s) :=
  effect_of_wf (c := .sourceQualified mclk lane offset) (decide_eq_true h) (sourceQualified mclk lane offset) s

theorem exec_slewEnd {offset : Nat} (h : offset ≤ 2) (s : State) : exec (.slewEnd offset) s = .next (slewEnd offset s) :=
  effect_of_wf (c := .slewEnd offset) (decide_eq_true h) (slewEnd offset) s

/-! ## The end of a hold, and the stop -/

theorem State.exitHold_frame (s : State) :
    Frame [.mt, .free] [CX_HO_TIME_ms, CX_MT_STATUS_holdover] s s.exitHold := by
  unfold State.exitHold
  refine Frame.set (Frame.beside (t := s.iff _ _) ?_) _ _ (by decide)
  exact (Frame.refl _ _ s).iff fun u hu => (hu.beside (u := u.draw.2)).count _ _ (by decide)

theorem State.exitHold_mt (s : State) :
    s.exitHold.mt = { s.mt with holds := s.exitHold.mt.holds, fabricHold := false } := by
  unfold State.exitHold State.iff
  dsimp only
  split <;> rfl

/-- What a stop leaves of the time state. -/
structure TimeStopped (s t : State) : Prop where
  state : t.get CX_MT_STATUS_state = 4
  valid : t.get CX_MT_STATUS_mt_valid = 0
  qualified : t.get CX_MT_STATUS_qualified = 0
  src : t.get CX_MT_STATUS_src = 0
  event : Sparse.has 50 t.evReq = true
  mt : t.mt = { s.mt with edge := s.mt.edge ++ [.stop], holds := t.mt.holds, fabricHold := false }
  frame : Frame [.mt, .evReq, .free] [CX_MT_STATUS_state, CX_MT_STATUS_mt_valid, CX_MT_STATUS_qualified,
    CX_MT_STATUS_src, CX_MT_STATUS_unresolved, CX_MT_STATUS_holdover, CX_HO_TIME_ms, MG_EVLOG_merged] s t

/-- The registers as a stop shows them. -/
def State.stopShown (s : State) : State :=
  ((((s.set CX_MT_STATUS_state 4).set CX_MT_STATUS_mt_valid 0).set CX_MT_STATUS_qualified 0).set CX_MT_STATUS_src 0).set
    CX_MT_STATUS_unresolved 0

/-- The domain stops at the next bucket edge. -/
def State.stopAsked (s : State) : State := { s with mt := { s.mt with edge := s.mt.edge ++ [EdgeAct.stop] } }

theorem State.enterStop_eq {s : State} (hrun : s.mt.running = true) :
    s.enterStop = (s.exitHold.stopShown.stopAsked).raise 50 := by
  have hrunning : s.exitHold.stopShown.mt.running = true := (congrArg Mt.running s.exitHold_mt).trans hrun
  have heq : s.enterStop = (s.exitHold.stopShown.atEdge EdgeAct.stop State.domainStops).raise 50 := rfl
  rw [heq, State.atEdge, if_pos hrunning]
  rfl

theorem State.enterStop_stopped {s : State} (hrun : s.mt.running = true) : TimeStopped s s.enterStop := by
  have hexit := s.exitHold_frame
  have hmt := s.exitHold_mt
  rw [State.enterStop_eq hrun]
  generalize s.exitHold = a at hexit hmt ⊢
  refine ⟨?_, ?_, ?_, ?_, State.has_raise .., ?_, ?_⟩
  iterate 4
    rw [State.get_raise_ne _ (by decide), State.stopAsked, State.get_with_mt, State.stopShown]
    simp (disch := decide) only [State.get_set_ne, State.get_set_same]
    rfl
  · rw [State.raise_mt]
    show { a.mt with edge := a.mt.edge ++ [EdgeAct.stop] } = _
    rw [hmt]
    rfl
  · exact ((((((((hexit.mono (by decide) (by decide)).set _ _ (by decide)).set _ _ (by decide)).set _ _ (by decide)).set _ _
      (by decide)).set _ _ (by decide)).with_mt { a.stopShown.mt with edge := a.stopShown.mt.edge ++ [.stop] }
      (by decide)).raise _ _ (by decide) (by decide))

/-! ## A source that is lost -/

theorem State.holdoverAvailable_iff (s : State) : s.holdoverAvailable = true ↔
    s.on CX_ARCH_STATUS_mgmt_backup = false ∧ s.on CX_FU_RATIO_HI_valid = true ∧ s.on OVN_STATUS_heater_fault = false := by
  simp [State.holdoverAvailable, and_assoc]

theorem State.trackLost_held {s : State} (hback : s.on CX_ARCH_STATUS_mgmt_backup = false)
    (hvalid : s.on CX_FU_RATIO_HI_valid = true) (hheat : s.on OVN_STATUS_heater_fault = false)
    (hsel : s.get CX_MT_CTRL_src_sel ≠ 2) (cause : Nat) : s.trackLost cause false = s.enterHold cause 2 false := by
  rw [State.trackLost, s.holdoverAvailable_iff.2 ⟨hback, hvalid, hheat⟩, if_pos (by simpa using hsel)]

theorem State.trackLost_stopped {s : State}
    (h : s.get CX_MT_CTRL_src_sel = 2 ∨ s.on CX_FU_RATIO_HI_valid = false) (cause : Nat) :
    s.trackLost cause false = s.enterStop := by
  rw [State.trackLost, if_neg]
  rw [Bool.and_eq_true, State.holdoverAvailable_iff]
  rintro ⟨⟨-, hvalid, -⟩, hsel⟩
  obtain h | h := h
  · simp [h] at hsel
  · rw [h] at hvalid
    cases hvalid

/-- A hold entered for a source that is lost, out of track. -/
theorem State.enterHold_lost {s : State} (h : s.on CX_MT_STATUS_holdover = false) :
    let t := s.enterHold 1 2 false
    t.get CX_MT_STATUS_state = 2 ∧ t.get CX_MT_STATUS_cause = 1 ∧ t.get CX_MT_STATUS_holdover = 1 ∧
      t.get CX_MT_STATUS_qualified = 0 ∧ Sparse.has 48 t.evReq = true ∧ Frame [.mt, .fb, .evReq] holdFields s t := by
  obtain ⟨hcause, hover⟩ := State.enterHold_first h (cause := 1) (by decide) 2 false
  refine ⟨s.enterHold_state 1 (by decide) false, hcause, hover, ?_, s.enterHold_event 1 2 false,
    s.enterHold_frame 1 2 false⟩
  unfold State.enterHold
  dsimp only
  rw [State.get_raise_ne _ (by decide), State.get_set_same]
  rfl

/-! ## A source selected -/

theorem selMclk_ne_iff (a b : Nat) : (selMclk a != selMclk b) = true ↔ ¬ (a = 1 ↔ b = 1) := by
  rw [bne_iff_ne, selMclk, selMclk, Ne, Bool.eq_iff_iff, beq_iff_eq, beq_iff_eq]

theorem sourceSelect_of_steady {s : State} {sel : Nat}
    (h : s.get CX_MT_STATUS_state ≠ 1 ∨ (sel = 1 ↔ s.get CX_MT_CTRL_src_sel = 1)) :
    sourceSelect sel s = s.set CX_MT_CTRL_src_sel sel := by
  unfold sourceSelect
  dsimp only
  rw [if_neg]
  rw [Bool.and_eq_true, selMclk_ne_iff, beq_iff_eq, State.get_set_ne s (by decide)]
  tauto

theorem sourceSelect_of_change {s : State} {sel : Nat} (h : ¬ (sel = 1 ↔ s.get CX_MT_CTRL_src_sel = 1))
    (hstate : s.get CX_MT_STATUS_state = 1) :
    sourceSelect sel s = (s.set CX_MT_CTRL_src_sel sel).trackLost 1 false := by
  unfold sourceSelect
  dsimp only
  rw [if_pos]
  rw [Bool.and_eq_true, selMclk_ne_iff, beq_iff_eq, State.get_set_ne s (by decide)]
  exact ⟨h, hstate⟩

theorem sourceLost_of_track {s : State} (h : s.get CX_MT_STATUS_state = 1) : sourceLost s = s.trackLost 1 false := by
  simp only [sourceLost, h]

theorem sourceLost_of_hold {s : State} (h : s.get CX_MT_STATUS_state = 2) :
    sourceLost s = { s with mt := { s.mt with fabricHold := false } } := by
  simp only [sourceLost, h]

theorem sourceLost_of_slew {s : State} (h : s.get CX_MT_STATUS_state = 3) : sourceLost s = s.enterHold 1 2 false := by
  simp only [sourceLost, h]

/-! ## A source that qualifies -/

/-- The source named is the one selected, and in lock. -/
theorem State.sourceOn_of {s : State} {mclk : Bool} {lane : Nat} (hsel : mclk = true ↔ s.get CX_MT_CTRL_src_sel = 1)
    (hlock : mclk = true ∨ (lane = s.get CX_MT_STATUS_src_lane ∧ s.on (LN_STATUS_sym_lock lane) = true)) :
    s.sourceOn mclk lane = true := by
  have hmclk : mclk = selMclk (s.get CX_MT_CTRL_src_sel) := by
    rw [selMclk, Bool.eq_iff_iff, hsel, beq_iff_eq]
  rw [State.sourceOn, ← hmclk, beq_self_eq_true, Bool.true_and, Bool.or_eq_true, Bool.and_eq_true, beq_iff_eq]
  exact hlock

/-- Machine time has begun at 0:0, in track. -/
structure TimeBegun (mclk : Bool) (t : State) : Prop where
  state : t.get CX_MT_STATUS_state = 1
  valid : t.get CX_MT_STATUS_mt_valid = 0
  src : t.get CX_MT_STATUS_src = if mclk then 2 else 1
  running : t.mt.running = true
  orbit : t.mt.orbit = 0
  bucket : t.mt.bucket = 0

theorem TimeBegun.of_frame {mclk : Bool} {ps : List Part} {fs : List Fld} {s t : State} (h : TimeBegun mclk s)
    (hframe : Frame ps fs s t)
    (hf : ∀ f ∈ [CX_MT_STATUS_state, CX_MT_STATUS_mt_valid, CX_MT_STATUS_src], ∀ g ∈ fs, f.key ≠ g.key)
    (hrun : t.mt.running = s.mt.running) (hcore : t.core = s.core) : TimeBegun mclk t :=
  ⟨(hframe.get (hf _ (by simp))).trans h.state, (hframe.get (hf _ (by simp))).trans h.valid,
    (hframe.get (hf _ (by simp))).trans h.src, hrun.trans h.running, (State.orbit_of_core hcore).trans h.orbit,
    (State.bucket_of_core hcore).trans h.bucket⟩

theorem State.judgeQuiet_running (s : State) (new : Bool) : (s.judgeQuiet new).mt.running = s.mt.running := by
  unfold State.judgeQuiet State.iff
  dsimp only
  split
  · rw [State.raise_mt]
    rfl
  · rfl

theorem State.mtBegun_begun (s : State) (mclk : Bool) : TimeBegun mclk (s.mtBegun mclk) := by
  have hcore : ∀ u : State, (u.openOrbit 0).2.core =
      ((0, 0, u.get CX_MT_ORBIT_LEN_nb_m1 + 1), u.svc.tap) := fun u => State.judgeQuiet_core ..
  have hrunning : ∀ u : State, (u.openOrbit 0).2.mt.running = u.mt.running := fun u => State.judgeQuiet_running ..
  unfold State.mtBegun
  dsimp only
  generalize hu : State.namesEnd _ = u
  have hrun : u.mt.running = true := by rw [← hu]; rfl
  replace hcore := hcore u
  replace hrunning := (hrunning u).trans hrun
  generalize (u.openOrbit 0).2 = a at hcore hrunning
  refine ⟨?_, ?_, ?_, hrunning, congrArg (fun c => c.1.2.1) hcore, congrArg (fun c => c.1.1) hcore⟩
  all_goals
    rw [State.get_with_fb]
    simp (disch := decide) only [State.get_set_ne, State.get_set_same]
  · rfl
  · rfl
  · cases mclk <;> rfl

theorem State.mtRun_begun (s : State) (mclk : Bool) :
    TimeBegun mclk (s.mtRun mclk) ∧ (s.mtRun mclk).get CX_HQ_STATUS_flushing = 1 := by
  have hbegun := s.mtBegun_begun mclk
  have heq : s.mtRun mclk = (s.mtBegun mclk).gateStart.renumber := rfl
  rw [heq]
  generalize s.mtBegun mclk = a at hbegun ⊢
  have hgate := hbegun.of_frame a.gateStart_frame (by simp) rfl rfl
  generalize a.gateStart = b at hgate ⊢
  have hcore := b.renumber_core
  have hren : Frame [.store, .rc, .prot, .mt, .tg, .plate, .feByp]
      [CX_HQ_STATUS_flushing, CX_HQ_VALID_BT_valid, CX_HQ_KEEP_used] b b.renumber ∧
      b.renumber.mt.running = b.mt.running ∧ b.renumber.get CX_HQ_STATUS_flushing = 1 := by
    unfold State.renumber
    dsimp only
    generalize hc : State.mk .. = c
    have hflush := c.flushBegin_begun
    refine ⟨?_, ?_, hflush.flushing⟩
    · refine Frame.trans ?_ (hflush.frame.mono (by decide) (by decide))
      rw [← hc]
      exact Frame.beside (Frame.refl _ _ b)
    · rw [hflush.frame.parts .mt (by decide), ← hc]
  exact ⟨hgate.of_frame hren.1 (by decide) hren.2.1 hcore, hren.2.2⟩

theorem State.miss_frame (s : State) (n e : Nat) :
    Frame [.mt, .evReq] [CX_CAL_EN_missed, MG_EVLOG_merged] s (s.miss n e) :=
  .ite (Frame.refl _ _ s) (.ite ((Frame.refl _ _ s).count _ _ (by decide))
    ((((Frame.refl _ _ s).count CX_CAL_EN_missed n (by decide)).beside).raise _ _ (by decide) (by decide)))

theorem State.miss_running (s : State) (n e : Nat) : (s.miss n e).mt.running = s.mt.running := by
  unfold State.miss
  dsimp only
  split
  · rfl
  · split
    · rfl
    · rw [State.raise_mt]
      rfl

theorem State.missStopped_frame (s : State) :
    Frame [.mt, .evReq, .free] [CX_CAL_EN_missed, MG_EVLOG_merged] s s.missStopped := by
  unfold State.missStopped
  split
  · exact Frame.refl _ _ s
  · exact (((Frame.refl _ _ s).beside (u := s.draw.2)).beside (u := s.draw.2.draw.2)).trans
      ((State.miss_frame ..).mono (by decide) (by decide))

theorem State.missStopped_running (s : State) : s.missStopped.mt.running = s.mt.running := by
  unfold State.missStopped
  split
  · rfl
  · exact State.miss_running ..

theorem sourceQualified_begun {s : State} {mclk : Bool} {lane : Nat} (hon : s.sourceOn mclk lane = true)
    (h : s.get CX_MT_STATUS_state = 0 ∨ s.get CX_MT_STATUS_state = 4) (offset : Int) :
    TimeBegun mclk (sourceQualified mclk lane offset s) ∧
      (sourceQualified mclk lane offset s).get CX_HQ_STATUS_flushing = 1 := by
  unfold sourceQualified
  rw [hon, if_neg (by decide)]
  obtain h | h := h <;> rw [h] <;> dsimp only
  · exact s.mtRun_begun mclk
  · obtain ⟨hbegun, hflush⟩ := (s.iff s.stopDue State.stopEdge).mtRun_begun mclk
    generalize (s.iff s.stopDue State.stopEdge).mtRun mclk = a at hbegun hflush ⊢
    have hframe := a.missStopped_frame
    exact ⟨hbegun.of_frame hframe (by decide) a.missStopped_running a.missStopped_core,
      (hframe.get (by decide)).trans hflush⟩

end Sys2Proof.Machine
end

section
/-! PROOF. How the source of machine time, its loss and its return move the time state (R94 to R107). -/

namespace Sys2Proof.Machine

open Sys2Proof

/-! ## Slew -/

theorem State.edgeActs_of_none {s : State} (h : s.mt.edge = []) : s.edgeActs = s := by
  have hmt : ({ s.mt with edge := [] } : Mt) = s.mt := by rw [← h]
  rw [State.edgeActs, h, hmt]
  rfl

/-- A slew within the orbit, with nothing else to do at the edge: machine time goes on by one bucket. -/
theorem State.tick_of_slew {s : State} (hrun : s.mt.running = true) (hstate : s.get CX_MT_STATUS_state = 3)
    (hb : s.mt.bucket + 1 < s.mt.nb) (hedge : s.mt.edge = []) (harrived : s.tg.arrived = [])
    (hcal : s.calMay CX_CAL_EN_enable = false) : s.tick = s.jump 1 := by
  have hend : s.numEnd = s.mt.nb := by
    have hmarker : s.markerAt = none := by simp [State.markerAt, hstate]
    rw [State.numEnd, hmarker]
  have hstop : s.stopDue = false := by rw [State.stopDue, hedge]; rfl
  have hkept : (s.jump 1).mt.edge = [] := by
    rw [← hedge]
    unfold State.jump
    dsimp only
    rw [if_neg (by decide)]
    split <;> rfl
  rw [State.tick, if_pos hrun, State.bucketEdge, if_pos (by rwa [hend]), State.pass, if_neg (by decide), hstop,
    if_neg (by decide), State.calRun_of_off hcal, State.moveTo, if_neg (by omega), State.takeArrived_of_none harrived]
  dsimp only
  rw [State.edgeActs_of_none hkept, s.jump_bucket, Nat.sub_self, State.jump_zero]

/-- One bucket of a slew. -/
def State.slewed (s : State) (o : Int) (acc : Nat) : State :=
  State.set { s with
    clock := s.clock + 1
    mt := { s.mt with
      bucket := s.mt.bucket + 1, orbitOut := false, tick := 0, fired := [], offset := o, slewAcc := acc } }
    CX_MT_OFFSET_ticks (unsigned 32 o)

theorem State.jump_of_slew {s : State} (h : s.get CX_MT_STATUS_state = 3) :
    s.jump 1 = s.slewed (s.slewBy 1).1 (s.slewBy 1).2 := by
  rw [State.jump, if_neg (by decide)]
  exact if_pos h

theorem State.slewBy_one (s : State) : let acc := s.mt.slewAcc + 32768 * s.get CX_MT_SLEW_rate
    (s.slewBy 1).1.natAbs = s.mt.offset.natAbs - acc / 10 ^ 7 ∧
      ((0 ≤ s.mt.offset ↔ 0 ≤ (s.slewBy 1).1) ∨ (s.slewBy 1).1 = 0) ∧ (s.slewBy 1).2 = acc % 10 ^ 7 := by
  unfold State.slewBy
  dsimp only
  rw [Nat.one_mul]
  generalize s.mt.slewAcc + 32768 * s.get CX_MT_SLEW_rate = acc
  refine ⟨?_, ?_, rfl⟩
  all_goals
    split
    all_goals omega

/-! ## The end of a slew -/

theorem slewEnd_of_over {s : State} (hstate : s.get CX_MT_STATUS_state = 3) (hlo : 0 ≤ s.mt.offset)
    (hhi : s.mt.offset ≤ 2) {offset : Nat} (h : offset ≤ 2) : let t := slewEnd offset s
    t.get CX_MT_STATUS_state = 1 ∧ t.get CX_MT_STATUS_holdover = 0 ∧ t.get CX_MT_OFFSET_ticks = offset ∧
      t.get CX_MT_STATUS_cause = s.get CX_MT_STATUS_cause ∧ Sparse.has 49 t.evReq = true ∧
      Frame [.mt, .fb, .evReq, .free] [CX_MT_STATUS_state, CX_MT_STATUS_holdover, CX_MT_OFFSET_ticks, CX_HO_TIME_ms,
        MG_EVLOG_merged] s t := by
  have hshown : Frame [.mt] [CX_MT_OFFSET_ticks] s
      (State.set { s with mt := { s.mt with offset := 0 } } CX_MT_OFFSET_ticks offset) :=
    ((Frame.refl [.mt] _ s).with_mt _ (by decide)).set _ _ (by decide)
  have hticks : (State.set { s with mt := { s.mt with offset := 0 } } CX_MT_OFFSET_ticks offset).get
      CX_MT_OFFSET_ticks = offset := State.get_set_fit _ _ (h.trans_lt (by decide))
  unfold slewEnd
  dsimp only
  rw [if_pos ⟨hstate, hlo, hhi⟩]
  generalize State.set { s with mt := { s.mt with offset := 0 } } CX_MT_OFFSET_ticks offset = a at hshown hticks ⊢
  have hexit := a.exitHold_frame
  have hover : a.exitHold.get CX_MT_STATUS_holdover = 0 := State.get_set_fit _ _ (v := 0) (by decide)
  generalize a.exitHold = b at hexit hover ⊢
  have hframe : Frame [.mt, .fb, .evReq, .free] [CX_MT_STATUS_state, CX_MT_STATUS_holdover, CX_MT_OFFSET_ticks,
      CX_HO_TIME_ms, MG_EVLOG_merged] s (State.raise (State.gateStart (State.set { b with
        mt := { b.mt with lastK := none, equalK := 0 }
        fb := { b.fb with refDue := true, follow := false } } CX_MT_STATUS_state 1)) 49) :=
    ((((((hshown.mono (by decide) (by decide)).next hexit (by decide) (by decide)).beside).set _ _ (by decide)).next
      (State.gateStart_frame _) (by decide) (by simp)).raise _ _ (by decide) (by decide))
  refine ⟨?_, ?_, ?_, hframe.get (by decide), State.has_raise .., hframe⟩
  all_goals rw [State.get_raise_ne _ (by decide), (State.gateStart_frame _).get (by simp)]
  · exact State.get_set_fit _ _ (by decide)
  · exact (State.get_set_ne _ (by decide) _).trans hover
  · exact (State.get_set_ne _ (by decide) _).trans ((hexit.get (by decide)).trans hticks)

theorem exec_slewEnd_of_under_way {s : State} {offset : Nat}
    (h : s.get CX_MT_STATUS_state ≠ 3 ∨ s.mt.offset < 0 ∨ 2 < s.mt.offset) :
    exec (.slewEnd offset) s = .next s := by
  by_cases hwf : offset ≤ 2
  · rw [exec_slewEnd hwf, slewEnd, if_neg (by omega)]
  · exact exec_of_not_wf (c := .slewEnd offset) (decide_eq_false hwf) s

/-! ## A source that qualifies in a hold -/

section
variable {s : State} {mclk : Bool} {lane : Nat} {offset : Int} (hon : s.sourceOn mclk lane = true)
  (hstate : s.get CX_MT_STATUS_state = 2) (hfab : s.mt.fabricHold = false)
include hon hstate hfab

theorem sourceQualified_slews (h : 2 * offset.natAbs ≤ 32768 * s.mt.nb) : sourceQualified mclk lane offset s =
    (s.set CX_MT_STATUS_src (if mclk then 2 else 1)).slewStart offset := by
  simp only [sourceQualified, hon, hstate, hfab, State.set_mt, h, Bool.not_true, Bool.false_eq_true, if_false, if_true]

theorem sourceQualified_far (h : 32768 * s.mt.nb < 2 * offset.natAbs) : sourceQualified mclk lane offset s =
    State.flag (State.set { s.set CX_MT_STATUS_src (if mclk then 2 else 1) with mt := { s.mt with offset := offset } }
      CX_MT_OFFSET_ticks (unsigned 32 offset)) CX_MT_STATUS_unresolved 53 := by
  simp only [sourceQualified, hon, hstate, hfab, State.set_mt, h.not_ge, Bool.not_true, Bool.false_eq_true, if_false]

end

theorem State.slewStart_shown (s : State) (offset : Int) :
    (s.slewStart offset).get CX_MT_STATUS_unresolved = 0 ∧ (s.slewStart offset).mt.offset = offset ∧
      (s.slewStart offset).get CX_MT_OFFSET_ticks = (offset % 2 ^ 32).toNat := by
  unfold State.slewStart
  dsimp only
  refine ⟨?_, rfl, ?_⟩
  · rw [State.get_set_ne _ (by decide), State.get_with_mt]
    exact State.get_set_fit _ _ (v := 0) (by decide)
  · rw [State.get_set_same]
    exact Nat.mod_eq_of_lt (by unfold unsigned; show _ < 2 ^ 32; omega)

/-- Settles O14: each clause is what its command, or the next edge, does in the state that the clause names. -/
theorem sourceChangesMoveTheTimeState : Obligations.SourceChangesMoveTheTimeState := by
  unfold Obligations.SourceChangesMoveTheTimeState
  refine ⟨?steady, ?selectHold, ?selectStop, ?lostHold, ?lostStop, ?stops, ?lostSlew, ?lostHeld, ?begun, ?slews, ?far,
    ?slew, ?ends, ?goesOn⟩
  case steady =>
    intro s sel hsel h
    rw [exec_sourceSelect hsel, sourceSelect_of_steady h]
  case selectHold =>
    intro s sel hsel hne hchange hstate hover hback hvalid hheat
    refine ⟨_, exec_sourceSelect hsel s, ?_⟩
    have hset := State.get_set_fit s CX_MT_CTRL_src_sel hsel
    rw [sourceSelect_of_change hchange hstate]
    have hstored : Frame [] [CX_MT_CTRL_src_sel] s (s.set CX_MT_CTRL_src_sel sel) := (Frame.refl _ _ s).set _ _ (by decide)
    generalize s.set CX_MT_CTRL_src_sel sel = u at hset hstored ⊢
    have hon (f : Fld) (hf : f.key ≠ CX_MT_CTRL_src_sel.key) : u.on f = s.on f := by
      rw [State.on, State.on, hstored.get (by simpa using hf)]
    rw [State.trackLost_held ((hon _ (by decide)).trans hback) ((hon _ (by decide)).trans hvalid)
      ((hon _ (by decide)).trans hheat) (by rwa [hset])]
    obtain ⟨hstate', hcause, hover', hqual, hevent, hframe⟩ :=
      State.enterHold_lost ((hon CX_MT_STATUS_holdover (by decide)).trans hover)
    exact ⟨hstate', hcause, hover', hqual, hevent, (hframe.get (by decide)).trans hset,
      (hstored.mono (by decide) (by decide)).trans (hframe.mono (by decide) (by decide))⟩
  case selectStop =>
    intro s sel hsel hchange hstate hno hrun
    refine ⟨_, exec_sourceSelect hsel s, ?_⟩
    have hset := State.get_set_fit s CX_MT_CTRL_src_sel hsel
    have hvalid : (s.set CX_MT_CTRL_src_sel sel).on CX_FU_RATIO_HI_valid = s.on CX_FU_RATIO_HI_valid :=
      State.on_set_ne s (by decide) sel
    rw [sourceSelect_of_change hchange hstate, State.trackLost_stopped (by rwa [hset, hvalid])]
    obtain ⟨hstate', hmtv, hqual, hsrc, hevent, hmt, hframe⟩ :=
      State.enterStop_stopped (s := s.set CX_MT_CTRL_src_sel sel) hrun
    exact ⟨hstate', hmtv, hqual, hsrc, hevent, hmt, (hframe.get (by decide)).trans hset,
      ((Frame.refl _ _ s).set _ _ (by decide)).trans (hframe.mono (by decide) (by decide))⟩
  case lostHold =>
    intro s hstate hsel hover hback hvalid hheat
    refine ⟨_, exec_sourceLost s, ?_⟩
    rw [sourceLost_of_track hstate, State.trackLost_held hback hvalid hheat hsel]
    exact State.enterHold_lost hover
  case lostStop =>
    intro s hstate hno hrun
    refine ⟨_, exec_sourceLost s, ?_⟩
    rw [sourceLost_of_track hstate, State.trackLost_stopped hno]
    obtain ⟨hstate', hmtv, hqual, hsrc, hevent, hmt, hframe⟩ := State.enterStop_stopped hrun
    exact ⟨hstate', hmtv, hqual, hsrc, hevent, hmt, hframe⟩
  case stops =>
    intro s n hidle hrun hstop hn
    obtain ⟨hoff, htime⟩ := State.stopEdge_off hstop
    refine ⟨_, step_of_idle hidle, ?_⟩
    rw [State.tick_of_stop hrun hstop]
    exact ⟨hoff.running, htime.bucket, htime.orbit, hoff.servo n hn, hoff.maps⟩
  case lostSlew =>
    intro s hstate hover
    refine ⟨_, exec_sourceLost s, ?_⟩
    rw [sourceLost_of_slew hstate]
    have hframe : Frame [.mt, .fb, .evReq] [CX_MT_STATUS_state, CX_MT_STATUS_qualified, MG_EVLOG_merged] s
        (s.enterHold 1 2 false) := by
      unfold State.enterHold
      rw [hover]
      exact ((((Frame.refl _ _ s).beside).set _ _ (by decide)).set _ _ (by decide)).raise _ _ (by decide) (by decide)
    exact ⟨s.enterHold_state 1 (by decide) false, hframe.get (by decide), s.enterHold_event 1 2 false, hframe⟩
  case lostHeld =>
    intro s hstate
    rw [exec_sourceLost, sourceLost_of_hold hstate]
  case begun =>
    intro s mclk lane offset hlane hsel hlock hstate
    obtain ⟨hbegun, hflush⟩ := sourceQualified_begun (State.sourceOn_of hsel hlock) hstate offset
    exact ⟨_, exec_sourceQualified hlane mclk offset s, hbegun.state, hbegun.valid, hbegun.src, hbegun.running,
      hbegun.orbit, hbegun.bucket, hflush⟩
  case slews =>
    intro s mclk lane offset hlane hsel hlock hstate hfab hnear
    refine ⟨_, exec_sourceQualified hlane mclk offset s, ?_⟩
    rw [sourceQualified_slews (State.sourceOn_of hsel hlock) hstate hfab hnear]
    have hsrc : (s.set CX_MT_STATUS_src (if mclk then 2 else 1)).get CX_MT_STATUS_src = if mclk then 2 else 1 :=
      State.get_set_fit _ _ (by split <;> decide)
    have hstored : Frame [] [CX_MT_STATUS_src] s (s.set CX_MT_STATUS_src (if mclk then 2 else 1)) :=
      (Frame.refl _ _ s).set _ _ (by decide)
    generalize s.set CX_MT_STATUS_src (if mclk then 2 else 1) = u at hsrc hstored ⊢
    obtain ⟨hun, hoff, hticks⟩ := u.slewStart_shown offset
    have hslew := u.slewStart_frame offset
    exact ⟨u.slewStart_state offset, hun, hoff, hticks, (hslew.get (by decide)).trans hsrc,
      (hstored.mono (by decide) (by decide)).trans (hslew.mono (by decide) (by decide))⟩
  case far =>
    intro s mclk lane offset hlane hsel hlock hstate hfab hfar hun
    refine ⟨_, exec_sourceQualified hlane mclk offset s, ?_⟩
    rw [sourceQualified_far (State.sourceOn_of hsel hlock) hstate hfab hfar]
    have hshown : Frame [.mt] [CX_MT_STATUS_src, CX_MT_OFFSET_ticks] s (State.set
        { s.set CX_MT_STATUS_src (if mclk then 2 else 1) with mt := { s.mt with offset := offset } }
        CX_MT_OFFSET_ticks (unsigned 32 offset)) :=
      (((Frame.refl _ _ s).set CX_MT_STATUS_src _ (by decide)).beside).set _ _ (by decide)
    generalize State.set _ CX_MT_OFFSET_ticks _ = u at hshown ⊢
    have hoff : u.on CX_MT_STATUS_unresolved = false := by
      rw [State.on, hshown.get (by decide)]
      exact hun
    have hflag : Frame [.mt, .evReq] [CX_MT_STATUS_unresolved, CX_MT_OFFSET_ticks, CX_MT_STATUS_src, MG_EVLOG_merged] s
        (u.flag CX_MT_STATUS_unresolved 53) :=
      (hshown.mono (by decide) (by decide)).flag _ _ _ (by decide) (by decide) (by decide)
    refine ⟨?_, State.get_flag_same _ rfl (by decide) _ _, ?_, hflag⟩
    · rw [hflag.get (by decide)]
      exact hstate
    · rw [State.flag_of_off hoff]
      exact State.has_raise ..
  case slew =>
    intro s hidle hrun hstate hb hedge harrived hcal
    obtain ⟨habs, hsign, hacc⟩ := s.slewBy_one
    refine ⟨_, step_of_idle hidle, ?_⟩
    rw [State.tick_of_slew hrun hstate hb hedge harrived hcal, State.jump_of_slew hstate]
    refine ⟨habs, hsign, hacc, ?_, ?_⟩
    · refine (State.get_set_same ..).trans (Nat.mod_eq_of_lt ?_)
      unfold unsigned
      show _ < 2 ^ 32
      omega
    · exact ((Frame.refl [.mt, .clock] _ s).beside).set _ _ (by decide)
  case ends =>
    intro s offset h hstate hlo hhi
    exact ⟨_, exec_slewEnd h s, slewEnd_of_over hstate hlo hhi h⟩
  case goesOn => exact fun s offset h => exec_slewEnd_of_under_way h

end Sys2Proof.Machine
end

section
/-! SUPPORT. What leaves the calendar: no operation of an edge or of an accept that arrives changes a register of the
calendar or a write of one that is still to come into force (R116, R118). -/

namespace Sys2Proof.Machine

open Sys2Proof

/-- `t` has the count of buckets and the management of `s`, and every field of the calendar in force as in `s`, now and
from now on. -/
structure SameCal (s t : State) : Prop where
  clock : t.clock = s.clock
  mg : t.mg = s.mg
  asOf : ∀ f : Fld, calKey f.key = true → ∀ c, s.clock ≤ c → t.asOf c f = s.asOf c f

/-- A field above the registers of the calendar. -/
theorem calKey_of_high {f : Fld} (h : 0x10002000 * 32 ≤ f.key) : calKey f.key = false := by
  have hen : CX_CAL_EN_enable.key = 0x10000200 * 32 + 31 := rfl
  have hlo : (CX_CAL_CTRL_enable 0).addr = 0x10001000 := rfl
  have hhi : (CX_CAL_OVAL_value 255).addr = 0x10001ffc := rfl
  rw [calKey, hen, hlo, hhi, Bool.or_eq_false_iff, Bool.and_eq_false_iff, beq_eq_false_iff_ne, decide_eq_false_iff_not,
    decide_eq_false_iff_not]
  omega

theorem State.asOf_of_get {s t : State} {f : Fld} (hwas : t.was = s.was) (hget : t.get f = s.get f) (c : Nat) :
    t.asOf c f = s.asOf c f := by
  rw [State.asOf, State.asOf, hwas, hget]

namespace SameCal

variable {s t u : State}

theorem refl (s : State) : SameCal s s := ⟨rfl, rfl, fun _ _ _ _ => rfl⟩

theorem trans (h : SameCal s t) (h' : SameCal t u) : SameCal s u :=
  ⟨h'.clock.trans h.clock, h'.mg.trans h.mg, fun f hf c hc =>
    (h'.asOf f hf c (by rw [h.clock]; exact hc)).trans (h.asOf f hf c hc)⟩

theorem beside (hcsr : t.csr = s.csr := by rfl) (hwas : t.was = s.was := by rfl) (hclock : t.clock = s.clock := by rfl)
    (hmg : t.mg = s.mg := by rfl) : SameCal s t :=
  ⟨hclock, hmg, fun f _ c _ => State.asOf_of_get hwas (by rw [State.get, State.get, hcsr]) c⟩

theorem of_frame {ps : List Part} {fs : List Fld} (hframe : Frame ps fs s t)
    (hf : ∀ f ∈ fs, calKey f.key = false) (hps : ∀ p ∈ ps, p ≠ .was ∧ p ≠ .clock ∧ p ≠ .mg := by decide) :
    SameCal s t :=
  ⟨hframe.parts .clock fun h => (hps _ h).2.1 rfl, hframe.parts .mg fun h => (hps _ h).2.2 rfl, fun _ hcal c _ =>
    State.asOf_of_get (hframe.parts .was fun h => (hps _ h).1 rfl)
      (hframe.get fun g hg heq => Bool.false_ne_true ((hf g hg).symm.trans (heq ▸ hcal))) c⟩

theorem set (s : State) (f : Fld) (v : Nat) (hf : calKey f.key = false) : SameCal s (s.set f v) :=
  .of_frame ((Frame.refl [] [f] s).set f v (by simp)) (by simpa using hf) (by simp)

theorem raise (s : State) (src arg : Nat) : SameCal s (s.raise src arg) :=
  .of_frame ((Frame.refl [.evReq] [MG_EVLOG_merged] s).raise src arg (by decide) (by decide)) (by decide)

theorem flag (s : State) (f : Fld) (src arg : Nat) (hf : calKey f.key = false) : SameCal s (s.flag f src arg) := by
  unfold State.flag
  split
  · exact .refl s
  · exact (set s f 1 hf).trans (raise ..)

theorem ite {c : Prop} [Decidable c] (h : SameCal s t) (h' : SameCal s u) : SameCal s (if c then t else u) := by
  split
  · exact h
  · exact h'

theorem iff {b : Bool} {f : State → State} (hf : SameCal s (f s)) : SameCal s (s.iff b f) := ite hf (refl s)

theorem each {α : Type} {l : List α} {f : State → α → State} (hf : ∀ u, ∀ a ∈ l, SameCal u (f u a)) :
    SameCal s (s.each l f) := List.foldlRecOn l f (refl s) fun u hu a ha => hu.trans (hf u a ha)

end SameCal

/-- Dropping what is in force for long, and keeping old values of fields beside the calendar, leaves the calendar. -/
theorem State.keepOld_sameCal (s : State) {fs : List Fld} (hf : ∀ f ∈ fs, calKey f.key = false) (d : Nat) :
    SameCal s (s.keepOld fs d) := by
  unfold State.keepOld
  split
  next =>
    refine ⟨rfl, rfl, fun f hcal c hc => ?_⟩
    have hnew : ((fs.map fun g => (⟨s.actsFrom d g, g.key, s.get g⟩ : Was)).find? fun w =>
        w.key == f.key && decide (c < w.acts)) = none := by
      rw [List.find?_eq_none]
      intro w hw
      obtain ⟨g, hg, rfl⟩ := List.mem_map.1 hw
      have hne : g.key ≠ f.key := fun heq => Bool.false_ne_true ((hf g hg).symm.trans (heq ▸ hcal))
      simp [hne]
    have hold : ((s.was.filter fun w => decide (s.clock < w.acts + 64)).find? fun w =>
        w.key == f.key && decide (c < w.acts)) = s.was.find? fun w => w.key == f.key && decide (c < w.acts) := by
      rw [List.find?_filter]
      refine congrArg (fun p => s.was.find? p) (funext fun w => ?_)
      by_cases hw : c < w.acts
      · simp only [hw, show s.clock < w.acts + 64 by omega, decide_true, Bool.and_true, true_and, Bool.decide_eq_true]
      · simp [hw]
    unfold State.asOf
    dsimp only
    rw [List.find?_append, hold, hnew, Option.or_none]
    rfl
  next => exact .refl s

theorem State.keepOldFe_sameCal (s : State) {fs : List Fld} (hf : ∀ f ∈ fs, calKey f.key = false) :
    SameCal s (s.keepOldFe fs) := .ite ((SameCal.beside (t := s.draw.2)).trans (State.keepOld_sameCal _ hf _)) (.refl s)

/-! ## Accepts that arrive -/

theorem State.takeAccept_sameCal (s : State) (body : Nat) : SameCal s (s.takeAccept body) := by
  have hqueue (q : List Trig) : SameCal s (s.setQueue q) :=
    .of_frame (ps := [.tg]) (fs := [TG_QUEUE_used, TG_QUEUE_peak])
      (((Frame.refl _ _ s).beside.set _ _ (by decide)).set _ _ (by decide)) (by decide)
  refine .ite ((SameCal.set _ _ _ (by decide)).trans (.flag _ _ _ _ (by decide))) ((hqueue _).trans (.iff ?_))
  exact (SameCal.set _ _ _ (by decide)).trans (.flag _ _ _ _ (by decide))

theorem State.takeArrived_sameCal (s : State) (n : Nat) : SameCal s (s.takeArrived n) :=
  (SameCal.beside (t := { s with tg := { s.tg with arrived := s.tg.arrived.drop n } })).trans
    (.each fun u b _ => u.takeAccept_sameCal b)

/-! ## What waits for an edge -/

theorem State.assayCheck_sameCal (s : State) : SameCal s s.assayCheck := by
  have hend : SameCal s s.assayRunEnd := by
    unfold State.assayRunEnd
    split
    · exact .ite (.set _ _ _ (calKey_of_high (by simp only [Fld.key, FE_CD_STATUS_state]; omega))) (.refl s)
    · exact .refl s
  unfold State.assayCheck
  split
  · exact .refl s
  · refine .ite (.refl s) (hend.trans ?_)
    exact .of_frame (ps := [.svc, .free, .evReq])
      (fs := [CX_ASSAY_STATUS_ms, CX_ASSAY_STATUS_state, CX_ASSAY_STATUS_verdict, MG_EVLOG_merged])
      ((((((Frame.refl _ _ _).beside (u := State.draw _ |>.2)).count _ _ (by decide)).set _ _ (by decide)).set _ _
        (by decide)).raise _ _ (by decide) (by decide)) (by decide)

theorem State.retireBanks_sameCal (s : State) : SameCal s s.retireBanks :=
  ((SameCal.of_frame (s.wantBanks_frame s.mapBanks) (by decide)).trans (.set _ _ _ (by decide))).trans
    (State.assayCheck_sameCal _)

theorem State.bankJoins_sameCal (s : State) (k : Nat) : SameCal s (s.bankJoins k) := by
  refine .ite ?_ (.refl s)
  exact (SameCal.beside (t := { s with store := { s.store with commitClear := without s.store.commitClear (2 ^ k) } })).trans
    ((SameCal.of_frame (State.setBanks_frame ..) (by decide) (by simp)).trans ((SameCal.set _ _ _ (by decide)).trans
      (.raise ..)))

theorem State.putTable_sameCal (s : State) (ch : Nat) (l : List Nat) : SameCal s (s.putTable ch l) := by
  refine .each fun u j _ => (SameCal.set _ _ _ (calKey_of_high ?_)).trans (.set _ _ _ (calKey_of_high ?_))
  all_goals
    simp only [Fld.key, FE_BIN_even, FE_BIN_odd]
    omega

theorem State.swapTables_sameCal (s : State) (die : Nat) (hist : List (List Nat)) : SameCal s (s.swapTables die hist) := by
  have hhigh (a k lo w r : Nat) (acc : Access) (ha : 0x10002000 ≤ a) : calKey (Fld.mk (a + k) lo w r acc).key = false :=
    calKey_of_high (by simp only [Fld.key]; omega)
  have hhigh2 (a k l lo w r : Nat) (acc : Access) (ha : 0x10002000 ≤ a) :
      calKey (Fld.mk (a + k + l) lo w r acc).key = false := hhigh _ _ _ _ _ _ (by omega)
  refine .ite (.refl s) ?_
  dsimp only
  have hrows (good : List Nat) : SameCal s ((s.keepTables fun ch =>
      ch / 512 == die && ch % 512 / 32 == s.get (FE_CD_STATUS_column die)).each good fun u r =>
        u.putTable (die * 512 + s.get (FE_CD_STATUS_column die) * 32 + r) (cdTable 0 (hist.getD r []))) :=
    (SameCal.each fun u _ _ => .beside).trans (.each fun u _ _ => u.putTable_sameCal _ _)
  have hdone (u : State) (v : Nat) : SameCal u (u.cdTake die v) :=
    (SameCal.beside (t := u.setDie die { u.die die with stamps := v })).trans
      (.set _ _ _ (hhigh2 _ _ _ _ _ _ _ (by decide)))
  refine .ite (.trans ?taken (.set _ _ _ (hhigh _ _ _ _ _ _ (by decide))))
    (.trans ?taken (.set _ _ _ (hhigh _ _ _ _ _ _ (by decide))))
  refine (hrows _).trans (.trans (.set _ _ _ ?_) (.trans (.set _ _ _ ?_) (.trans (.iff ?_) (.trans (.iff ?_) (hdone _ _)))))
  · exact hhigh2 _ _ _ _ _ _ _ (by decide)
  · exact hhigh2 _ _ _ _ _ _ _ (by decide)
  · exact (SameCal.set _ _ _ (hhigh2 _ _ _ _ _ _ _ (by decide))).trans ((SameCal.set _ _ _
      (hhigh2 _ _ _ _ _ _ _ (by decide))).trans (.raise ..))
  · exact (SameCal.set _ _ _ (hhigh _ _ _ _ _ _ (by decide))).trans (.raise ..)

theorem State.tileGone_sameCal (s : State) : SameCal s s.tileGone := by
  have hmask : ∀ n, calKey (FE_CTRL_die_mask n).key = false := fun n =>
    calKey_of_high (by simp only [Fld.key, FE_CTRL_die_mask]; omega)
  have hmasked : SameCal s s.diesMasked := .each fun u n _ =>
    (u.keepOldFe_sameCal (by simpa using hmask n)).trans (.set _ _ _ (hmask n))
  rw [State.tileGone_eq]
  refine hmasked.trans ((SameCal.of_frame (State.loopFaultAll_frame _ 5) ?_).trans
    (.of_frame (State.tileEnds_frame _) (by decide)))
  intro f hf
  obtain ⟨r, -, rfl | rfl⟩ | hf := mem_loopFaultFields hf
  · exact calKey_of_high (by simp only [Fld.key, CX_LE_LOOP_en]; omega)
  · exact calKey_of_high (by simp only [Fld.key, CX_LE_LOOPSTAT_cause]; omega)
  · exact (by decide : ∀ f ∈ loopFaultShared, calKey f.key = false) f hf

theorem State.domainStops_sameCal (s : State) : SameCal s s.domainStops := by
  have hunlock (u : State) (n : Nat) : SameCal u (u.unlock n 0) := by
    refine .of_frame (u.unlock_frame n 0) ?_
    intro f hf
    simp only [List.mem_cons, List.not_mem_nil, or_false] at hf
    obtain rfl | rfl | rfl := hf
    · exact calKey_of_high (by simp only [Fld.key, FE_TDC_STATUS_unlock]; omega)
    · exact calKey_of_high (by simp only [Fld.key, FE_TDC_STATUS_state]; omega)
    · decide
  have hoff (u : State) : SameCal u u.servosOff := .each fun w n _ => hunlock w n
  have hstill := hoff { s with mt := { s.mt with running := false, orbitOut := false } }
  unfold State.domainStops
  dsimp only
  generalize State.servosOff { s with mt := { s.mt with running := false, orbitOut := false } } = a at hstill ⊢
  exact (SameCal.beside (t := { s with mt := { s.mt with running := false, orbitOut := false } })).trans
    (hstill.trans .beside)

theorem State.edgeAct_sameCal (s : State) (a : EdgeAct) : SameCal s (s.edgeAct a) := by
  cases a with
  | stop => exact s.domainStops_sameCal
  | flush => exact .of_frame s.flushBegin_begun.frame (by decide)
  | retire => exact s.retireBanks_sameCal
  | join k => exact s.bankJoins_sameCal k
  | tables die hist => exact s.swapTables_sameCal die hist
  | swap => exact (SameCal.beside (t := { s with rc := { s.rc with clearAt := s.clock } })).trans (.set _ _ _ (by decide))
  | tileGone => exact s.tileGone_sameCal

theorem State.edgeActs_sameCal (s : State) : SameCal s s.edgeActs :=
  (SameCal.beside (t := { s with mt := { s.mt with edge := [] } })).trans (.each fun u a _ => u.edgeAct_sameCal a)

end Sys2Proof.Machine
end

section
/-! SUPPORT. One entry of the calendar that is due: machine time passes to its bucket, and it fires there (R116 to R118). -/

namespace Sys2Proof.Machine

open Sys2Proof

/-! ## The calendar as it stands -/

/-- The fields of the 256 entries are the calendar's. -/
theorem calKey_of_entry {a e lo w r : Nat} {acc : Access} (he : e < 256) (hlo : 0x10001000 ≤ a := by decide)
    (hhi : a ≤ 0x1000100c := by decide) (hbit : lo < 32 := by decide) :
    calKey (Fld.mk (a + e * 0x10) lo w r acc).key = true := by
  have hfirst : (CX_CAL_CTRL_enable 0).addr = 0x10001000 := rfl
  have hlast : (CX_CAL_OVAL_value 255).addr = 0x10001ffc := rfl
  rw [calKey, hfirst, hlast, Bool.or_eq_true, Bool.and_eq_true, decide_eq_true_eq, decide_eq_true_eq]
  have hkey : (Fld.mk (a + e * 0x10) lo w r acc).key = (a + e * 0x10) * 32 + lo := rfl
  rw [hkey]
  exact .inr (by omega)

/-- A field with no write still to come into force is in force as it stands. -/
theorem State.asOf_of_settled {s : State} {f : Fld} (h : ∀ w ∈ s.was, w.key ≠ f.key) (c : Nat) : s.asOf c f = s.get f := by
  have hnone : (s.was.find? fun w => w.key == f.key && decide (c < w.acts)) = none := by
    rw [List.find?_eq_none]
    intro w hw
    simp [h w hw]
  simp only [State.asOf, hnone]

theorem State.calMay_of_settled {s : State} {f : Fld} (h : ∀ w ∈ s.was, w.key ≠ f.key) : s.calMay f = s.on f := by
  rw [State.calMay, Bool.or_eq_left_iff_imp]
  intro hany
  obtain ⟨w, hw, heq⟩ := List.any_eq_true.1 hany
  exact absurd (beq_iff_eq.1 heq) (h w hw)

/-! ## Machine time passes to a bucket -/

theorem State.asOf_set_of_calKey (s : State) (v : Nat) {f g : Fld} (hf : calKey f.key = true)
    (hg : calKey g.key = false) (c : Nat) : (s.set g v).asOf c f = s.asOf c f :=
  State.asOf_of_get (s := s) (t := s.set g v) rfl (State.get_set_ne s (fun heq => Bool.false_ne_true (hg.symm.trans (heq ▸ hf))) v) c

theorem State.jump_cal (s : State) (n : Nat) : (s.jump n).clock = s.clock + n ∧ (s.jump n).mg = s.mg ∧
    ∀ f : Fld, calKey f.key = true → ∀ c, (s.jump n).asOf c f = s.asOf c f := by
  unfold State.jump
  split
  next h => exact ⟨by rw [h, Nat.add_zero], rfl, fun _ _ _ => rfl⟩
  next =>
    dsimp only
    split
    · exact ⟨rfl, rfl, fun f hf c => (State.asOf_set_of_calKey _ _ hf (by decide) c).trans rfl⟩
    · exact ⟨rfl, rfl, fun _ _ _ => rfl⟩

/-- What passing to bucket `b` leaves: the management, and the calendar as it then is in force. -/
structure MovedTo (b : Nat) (s t : State) : Prop where
  clock : t.clock = s.clock + (b - s.mt.bucket)
  bucket : t.mt.bucket = b
  orbit : t.mt.orbit = s.mt.orbit
  mg : t.mg = s.mg
  cal : ∀ f : Fld, calKey f.key = true → t.asOf t.clock f = s.calAt b f

theorem State.moveTo_moved {s : State} {b : Nat} (hb : s.mt.bucket ≤ b) : MovedTo b s (s.moveTo b) := by
  obtain ⟨hbucket, -, horbit⟩ := s.moveTo_time b
  rw [max_eq_right hb] at hbucket
  suffices h : (s.moveTo b).clock = s.clock + (b - s.mt.bucket) ∧ (s.moveTo b).mg = s.mg ∧
      ∀ f : Fld, calKey f.key = true → ∀ c, (s.moveTo b).clock ≤ c → (s.moveTo b).asOf c f = s.asOf c f by
    obtain ⟨hclock, hmg, hcal⟩ := h
    refine ⟨hclock, hbucket, horbit, hmg, fun f hf => ?_⟩
    rw [hcal f hf _ (le_refl _), hclock]
    rfl
  by_cases hstay : b ≤ s.mt.bucket
  · rw [State.moveTo_of_le hstay, Nat.sub_eq_zero_of_le hstay]
    exact ⟨rfl, rfl, fun _ _ _ _ => rfl⟩
  · have harrived := s.takeArrived_sameCal s.tg.arrived.length
    have htime := s.takeArrived_core s.tg.arrived.length
    rw [State.moveTo, if_neg hstay]
    dsimp only
    generalize s.takeArrived s.tg.arrived.length = a at harrived htime ⊢
    obtain ⟨hclock, hmg, hcal⟩ := a.jump_cal 1
    have hbkt := a.jump_bucket 1
    have hedge := (a.jump 1).edgeActs_sameCal
    have hedget := (a.jump 1).edgeActs_core
    generalize a.jump 1 = d at hclock hmg hcal hbkt hedge hedget ⊢
    generalize d.edgeActs = g at hedge hedget ⊢
    obtain ⟨hclock', hmg', hcal'⟩ := g.jump_cal (b - g.mt.bucket)
    have hg : g.mt.bucket = s.mt.bucket + 1 := by
      rw [State.bucket_of_core hedget, hbkt, State.bucket_of_core htime]
    have hgclock : g.clock = s.clock + 1 := by rw [hedge.clock, hclock, harrived.clock]
    refine ⟨by omega, ?_, fun f hf c hc => ?_⟩
    · rw [hmg', hedge.mg, hmg, harrived.mg]
    · rw [hcal' f hf, hedge.asOf f hf c (by have := hedge.clock; omega), hcal f hf,
        harrived.asOf f hf c (by omega)]

/-! ## An entry that is due -/

/-- Entry `e`, and no other, is due in bucket `b` of this orbit. -/
structure CalDue (s : State) (e b : Nat) : Prop where
  entry : e < 256
  running : s.mt.running = true
  noStop : s.stopDue = false
  ends : b < s.numEnd
  ahead : s.mt.bucket ≤ b
  fresh : s.mt.bucket = b → e ∉ s.mt.fired
  place : s.get (CX_CAL_TIME_bucket e) = b
  placed : ∀ c, s.asOf c (CX_CAL_TIME_bucket e) = b
  may : s.calMay CX_CAL_EN_enable = true
  enabled : s.calAt b CX_CAL_EN_enable ≠ 0
  entryMay : s.calMay (CX_CAL_CTRL_enable e) = true
  entryOn : s.calAt b (CX_CAL_CTRL_enable e) ≠ 0
  alone : ∀ f < 256, s.calMay (CX_CAL_CTRL_enable f) = true → f = e
  orbit : Nat.land s.mt.orbit (s.calAt b (CX_CAL_OMASK_mask e)) =
    Nat.land (s.calAt b (CX_CAL_OVAL_value e)) (s.calAt b (CX_CAL_OMASK_mask e))

section
variable {s : State} {e b : Nat}

theorem CalDue.hits (h : CalDue s e b) (x : Nat) : s.calHits e x = true ↔ x = b := by
  unfold State.calHits
  simp only [Bool.and_eq_true, decide_eq_true_eq, bne_iff_ne, beq_iff_eq, Bool.not_eq_true', Bool.and_eq_false_iff]
  constructor
  · rintro ⟨⟨⟨⟨⟨⟨-, -⟩, -⟩, -⟩, hplace⟩, -⟩, -⟩
    exact hplace.symm.trans (h.placed _)
  · rintro rfl
    refine ⟨⟨⟨⟨⟨⟨h.ahead, h.ends⟩, h.enabled⟩, h.entryOn⟩, h.placed _⟩, h.orbit⟩, ?_⟩
    by_cases hb : x = s.mt.bucket
    · exact .inr (by simpa using h.fresh hb.symm)
    · exact .inl (by simpa using hb)

/-- It fires in its bucket and no other. -/
theorem CalDue.calAhead (h : CalDue s e b) : s.calAhead e = [b] := by
  have hahead := h.ahead
  have hfilter (l : List Nat) : l.filter (s.calHits e) = l.filter (· == b) :=
    List.filter_congr fun x _ => by
      rw [Bool.eq_iff_iff, h.hits, beq_iff_eq]
  unfold State.calAhead
  dsimp only
  rw [h.noStop, if_neg (by decide), h.place, hfilter]
  split
  next hnear =>
    obtain rfl | rfl : b = s.mt.bucket ∨ b = s.mt.bucket + 1 := by omega
    · simp
    · simp
  next hfar =>
    have h0 : s.mt.bucket ≠ b := by omega
    have h1 : s.mt.bucket + 1 ≠ b := by omega
    simp [h0, h1]

theorem CalDue.calDue (h : CalDue s e b) : s.calDue b = [b * 256 + e] := by
  have hentries : ((List.range 256).filter fun f => s.calMay (CX_CAL_CTRL_enable f)) = [e] := by
    have hiff (f : Nat) (hf : f ∈ List.range 256) : s.calMay (CX_CAL_CTRL_enable f) = (f == e) := by
      rw [Bool.eq_iff_iff, beq_iff_eq]
      exact ⟨h.alone f (List.mem_range.1 hf), fun heq => heq ▸ h.entryMay⟩
    rw [List.filter_congr hiff, List.filter_beq, List.count_range, if_pos h.entry]
    rfl
  unfold State.calDue
  rw [if_pos (by rw [h.running, h.may]; rfl), hentries]
  simp [h.calAhead, Sparse.insert]

theorem State.calFire_eq (hb : s.mt.bucket ≤ b) (he : e < 256) :
    s.calFire (b * 256 + e) = ((s.moveTo b).markFired e).calAct e (s.calAt b (CX_CAL_CTRL_action e))
      (s.calAt b (CX_CAL_CTRL_argument e)) (s.calAt b (CX_CAL_TIME_coarse e)) := by
  have hmoved := State.moveTo_moved hb
  have hdiv : (b * 256 + e) / 256 = b := by omega
  have hmod : (b * 256 + e) % 256 = e := by omega
  unfold State.calFire
  rw [hdiv, hmod]
  dsimp only
  rw [hmoved.cal (CX_CAL_CTRL_action e) (calKey_of_entry he), hmoved.cal (CX_CAL_CTRL_argument e) (calKey_of_entry he),
    hmoved.cal (CX_CAL_TIME_coarse e) (calKey_of_entry he)]

/-- A command of the entry's action passes to its bucket, where it fires. -/
theorem CalDue.calDo (h : CalDue s e b) {p : Nat → Nat → Bool}
    (hp : p (s.calAt b (CX_CAL_CTRL_action e)) (s.calAt b (CX_CAL_CTRL_argument e)) = true) :
    s.calDo e p = ((s.moveTo b).markFired e).calAct e (s.calAt b (CX_CAL_CTRL_action e))
      (s.calAt b (CX_CAL_CTRL_argument e)) (s.calAt b (CX_CAL_TIME_coarse e)) := by
  have hbucket : s.calBucket e p = some b := by
    rw [State.calBucket, if_neg (by simp [h.running, h.entry]), h.calAhead]
    simp [hp]
  rw [← State.calFire_eq h.ahead h.entry]
  simp only [State.calDo, hbucket, h.calDue]
  simp

end

/-- An entry that has fired does not fire again. -/
theorem State.calDo_of_fired {s : State} {e : Nat} (hplaced : ∀ c, s.asOf c (CX_CAL_TIME_bucket e) = s.mt.bucket)
    (hfired : e ∈ s.mt.fired) (p : Nat → Nat → Bool) : s.calDo e p = s := by
  have hno (x : Nat) : s.calHits e x = false := by
    rw [Bool.eq_false_iff]
    intro h
    unfold State.calHits at h
    simp only [Bool.and_eq_true, beq_iff_eq, Bool.not_eq_true', Bool.and_eq_false_iff] at h
    obtain ⟨⟨⟨-, hplace⟩, -⟩, hfresh⟩ := h
    have hx : x = s.mt.bucket := hplace.symm.trans (hplaced _)
    obtain hfresh | hfresh := hfresh
    · exact absurd hx (by simpa using hfresh)
    · exact absurd hfired (by simpa using hfresh)
  have hahead : s.calAhead e = [] := List.filter_eq_nil_iff.2 fun x _ => by simp [hno x]
  have hbucket : s.calBucket e p = none := by
    rw [State.calBucket]
    split
    · rfl
    · rw [hahead]
      rfl
  simp only [State.calDo, hbucket]

end Sys2Proof.Machine
end

section
/-! SUPPORT. The actions of the calendar, each at the bucket of its entry (R113 to R118). -/

namespace Sys2Proof.Machine

open Sys2Proof

/-- The bucket that entry `e` stands for. -/
abbrev State.calPlace (s : State) (e : Nat) : Nat := s.get (CX_CAL_TIME_bucket e)

/-- The calendar is enabled and settled, no entry but `e` is enabled, and the bucket of `e` is still to come in this
orbit. -/
structure CalSettled (s : State) (e : Nat) : Prop where
  entry : e < 256
  settled : ∀ w ∈ s.was, calKey w.key = false
  running : s.mt.running = true
  noStop : s.stopDue = false
  held : s.mt.held = false
  on : s.on CX_CAL_EN_enable = true
  alone : ∀ f ∈ List.range 256, s.on (CX_CAL_CTRL_enable f) = true → f = e
  ends : s.calPlace e < s.mt.nb
  ahead : s.mt.bucket ≤ s.calPlace e
  fresh : s.mt.bucket = s.calPlace e → e ∉ s.mt.fired
  orbit : Nat.land s.mt.orbit (s.get (CX_CAL_OMASK_mask e)) =
    Nat.land (s.get (CX_CAL_OVAL_value e)) (s.get (CX_CAL_OMASK_mask e))

/-- Entry `e` is enabled as well. -/
structure SettledDue (s : State) (e : Nat) : Prop extends CalSettled s e where
  entryOn : s.on (CX_CAL_CTRL_enable e) = true

theorem calKey_apart {l : List Was} (h : ∀ w ∈ l, calKey w.key = false) {f : Fld} (hf : calKey f.key = true) :
    ∀ w ∈ l, w.key ≠ f.key :=
  fun w hw heq => Bool.false_ne_true ((h w hw).symm.trans (heq ▸ hf))

theorem calKey_enable : calKey CX_CAL_EN_enable.key = true := by decide

section
variable {s : State} {e : Nat}

/-- Entry `e` fires: machine time passes to its bucket. -/
abbrev State.fireAt (s : State) (e : Nat) : State := (s.moveTo (s.calPlace e)).markFired e

theorem CalSettled.asOf (h : CalSettled s e) {f : Fld} (hf : calKey f.key = true) (c : Nat) : s.asOf c f = s.get f :=
  State.asOf_of_settled (calKey_apart h.settled hf) c

theorem CalSettled.calAt (h : CalSettled s e) (b : Nat) {f : Fld} (hf : calKey f.key = true) : s.calAt b f = s.get f :=
  h.asOf hf _

theorem SettledDue.calDue (h : SettledDue s e) : CalDue s e (s.calPlace e) where
  entry := h.entry
  running := h.running
  noStop := h.noStop
  ends := by rw [State.numEnd_of_not_held h.held]; exact h.ends
  ahead := h.ahead
  fresh := h.fresh
  place := rfl
  placed := h.asOf (calKey_of_entry h.entry)
  may := (State.calMay_of_settled (calKey_apart h.settled calKey_enable)).trans h.on
  enabled := by
    rw [h.calAt _ calKey_enable]
    exact bne_iff_ne.1 h.on
  entryMay := (State.calMay_of_settled (calKey_apart h.settled (calKey_of_entry h.entry))).trans h.entryOn
  entryOn := by
    rw [h.calAt _ (f := CX_CAL_CTRL_enable e) (calKey_of_entry h.entry)]
    exact bne_iff_ne.1 h.entryOn
  alone := fun f hf hmay => by
    rw [State.calMay_of_settled (f := CX_CAL_CTRL_enable f) (calKey_apart h.settled (calKey_of_entry hf))] at hmay
    exact h.alone f (List.mem_range.2 hf) hmay
  orbit := by
    rw [h.calAt _ (f := CX_CAL_OMASK_mask e) (calKey_of_entry h.entry),
      h.calAt _ (f := CX_CAL_OVAL_value e) (calKey_of_entry h.entry)]
    exact h.orbit

/-- A command of the entry's action has the action's effect in the bucket of the entry. -/
theorem SettledDue.calDo (h : SettledDue s e) {p : Nat → Nat → Bool} {act : Nat}
    (hact : s.get (CX_CAL_CTRL_action e) = act) (hp : p act (s.get (CX_CAL_CTRL_argument e)) = true) :
    s.calDo e p = (s.fireAt e).calAct e act (s.get (CX_CAL_CTRL_argument e)) (s.get (CX_CAL_TIME_coarse e)) := by
  have haction : s.calAt (s.calPlace e) (CX_CAL_CTRL_action e) = act := (h.calAt _ (calKey_of_entry h.entry)).trans hact
  have harg : s.calAt (s.calPlace e) (CX_CAL_CTRL_argument e) = s.get (CX_CAL_CTRL_argument e) :=
    h.calAt _ (calKey_of_entry h.entry)
  have hcoarse : s.calAt (s.calPlace e) (CX_CAL_TIME_coarse e) = s.get (CX_CAL_TIME_coarse e) :=
    h.calAt _ (calKey_of_entry h.entry)
  rw [h.calDue.calDo (by rw [haction, harg]; exact hp), haction, harg, hcoarse]

theorem SettledDue.moved (h : SettledDue s e) : MovedTo (s.calPlace e) s (s.moveTo (s.calPlace e)) :=
  State.moveTo_moved h.ahead

/-! ## The actions -/

theorem SettledDue.firmware (h : SettledDue s e) (hact : s.get (CX_CAL_CTRL_action e) = 7) :
    exec (.tileLifeRecordWrite e) s = .next ((s.fireAt e).raise 57 (s.get (CX_CAL_CTRL_argument e))) :=
  (effect_of_wf (c := .tileLifeRecordWrite e) (decide_eq_true h.entry) (tileLifeRecordWrite e) s).trans
    (congrArg _ (h.calDo hact rfl))

theorem SettledDue.reload (h : SettledDue s e) (hact : s.get (CX_CAL_CTRL_action e) = 6) :
    exec (.partialPlateReload e) s = .next (reloadGo ((s.fireAt e).get CX_PLATE_RELOAD_first)
      ((s.fireAt e).get CX_PLATE_RELOAD_count) (s.fireAt e)) :=
  (effect_of_wf (c := .partialPlateReload e) (decide_eq_true h.entry) (partialPlateReload e) s).trans
    (congrArg _ (h.calDo hact rfl))

theorem State.calBurnish_eq (s : State) (a : Nat) : s.calBurnish a =
    { s with dueBurnish := if a % 4096 = 0 then s.dueBurnish else s.dueBurnish ++ [a % 4096] } := by
  unfold State.calBurnish
  split <;> rfl

theorem SettledDue.burnish (h : SettledDue s e) (hact : s.get (CX_CAL_CTRL_action e) = 4) :
    exec (.burnishWindow e) s = .next ((s.fireAt e).calBurnish (s.get (CX_CAL_CTRL_argument e))) :=
  (effect_of_wf (c := .burnishWindow e) (decide_eq_true h.entry) (burnishWindow e) s).trans
    (congrArg _ (h.calDo hact rfl))

theorem State.calSwap_eq (s : State) : (if s.on SV_ARB_STATUS_sched then { s with dueSwap := true } else s) =
    { s with dueSwap := s.dueSwap || s.on SV_ARB_STATUS_sched } := by
  cases hsched : s.on SV_ARB_STATUS_sched
  · rw [if_neg (by decide), Bool.or_false]
  · rw [if_pos rfl, Bool.or_true]

theorem SettledDue.swap (h : SettledDue s e) (hact : s.get (CX_CAL_CTRL_action e) = 5) :
    exec (.roleSwap e) s =
      .next { s.fireAt e with dueSwap := (s.fireAt e).dueSwap || (s.fireAt e).on SV_ARB_STATUS_sched } :=
  (effect_of_wf (c := .roleSwap e) (decide_eq_true h.entry) (roleSwap e) s).trans
    (congrArg _ ((h.calDo hact rfl).trans (s.fireAt e).calSwap_eq))

theorem State.calRefresh_of_accepted {a : Nat} (hcol : a % 64 < 48) (hserved : s.feServed (a % 64 / 16) = true)
    (haccepts : s.cdAccepts (a % 64 / 16) (a % 16) = true) : s.calRefresh e a =
      { s with dueCd := if s.dueCd.contains (a % 64 / 16, a % 16) then s.dueCd
        else s.dueCd ++ [(a % 64 / 16, a % 16)] } := by
  have hmod : a % 64 % 16 = a % 16 := by omega
  unfold State.calRefresh
  dsimp only
  rw [if_neg (by omega), hmod, hserved, haccepts, if_neg (by decide), if_neg (by decide)]
  split <;> rfl

theorem SettledDue.refresh (h : SettledDue s e) (hact : s.get (CX_CAL_CTRL_action e) = 8)
    (hnow : s.mt.bucket = s.calPlace e) :
    exec (.codeDensityCalibrationRefresh e) s = .next ((s.markFired e).calRefresh e (s.get (CX_CAL_CTRL_argument e))) := by
  have hdo := h.calDo hact (p := fun act _ => act == 8) rfl
  rw [State.fireAt, ← hnow, State.moveTo_of_le (le_refl _)] at hdo
  exact (effect_of_wf (c := .codeDensityCalibrationRefresh e) (decide_eq_true h.entry)
    (codeDensityCalibrationRefresh e) s).trans (congrArg _ hdo)

theorem SettledDue.inject (h : SettledDue s e) {i loop : Nat} (hact : s.get (CX_CAL_CTRL_action e) = 3) (hi : i < 3)
    (harg : s.get (CX_CAL_CTRL_argument e) / 2 ^ 14 % 4 = i)
    (hloop : loop = if i = 2 then s.get (CX_CAL_CTRL_argument e) / 2 ^ 7 % 2 ^ 7 else 0) (hlt : loop < 96) :
    exec (.loopEngineTestSignal e) s = .next ((s.fireAt e).injRequest i loop) := by
  have hcal : (s.fireAt e).calInject e (s.get (CX_CAL_CTRL_argument e)) = (s.fireAt e).injRequest i loop := by
    have hbits : bits (s.get (CX_CAL_CTRL_argument e)) 14 2 = i := harg
    unfold State.calInject
    dsimp only
    rw [hbits]
    interval_cases i
    · rw [hloop]; rfl
    · rw [hloop]; rfl
    · rw [if_pos rfl] at hloop
      have hloopBits : bits (s.get (CX_CAL_CTRL_argument e)) 7 7 = loop := hloop.symm
      rw [hloopBits]
      exact if_pos hlt
  exact (effect_of_wf (c := .loopEngineTestSignal e) (decide_eq_true h.entry) (loopEngineTestSignal e) s).trans
    (congrArg _ ((h.calDo hact rfl).trans hcal))

end

end Sys2Proof.Machine
end

section
/-! SUPPORT. An injected conversion the calendar asks for, and an action that no rule gives (R117, R511). -/

namespace Sys2Proof.Machine

open Sys2Proof

/-! ## An injected conversion -/

theorem State.assayCheck_queued (s : State) : s.assayCheck.get HK_STATUS_inj_q = s.get HK_STATUS_inj_q := by
  have hend : s.assayRunEnd.get HK_STATUS_inj_q = s.get HK_STATUS_inj_q := by
    unfold State.assayRunEnd
    split
    · split
      · exact State.get_set_ne _ (by simp only [Fld.key, HK_STATUS_inj_q, FE_CD_STATUS_state]; omega) _
      · rfl
    · rfl
  unfold State.assayCheck
  split
  · rfl
  · split
    · rfl
    · have hframe : Frame [.svc, .free, .evReq]
          [CX_ASSAY_STATUS_ms, CX_ASSAY_STATUS_state, CX_ASSAY_STATUS_verdict, MG_EVLOG_merged] s.assayRunEnd s.assayStop :=
        ((((((Frame.refl _ _ _).beside (u := State.draw _ |>.2)).count _ _ (by decide)).set _ _ (by decide)).set _ _
          (by decide)).raise _ _ (by decide) (by decide))
      exact (hframe.get (by decide)).trans hend

theorem State.get_setHk_queued (s : State) {h : Hk} (hq : h.queue.length ≤ 4) :
    (s.setHk h).get HK_STATUS_inj_q = h.queue.length :=
  State.get_set_fit _ _ (lt_of_le_of_lt hq (by decide))

/-- With room in the queue a request joins it. -/
theorem State.hkRequest_joins (s : State) (input : Nat) (cal : Bool) (h : s.mg.hk.queue.length < 4) :
    (s.hkRequest input cal).mg.hk.queue = s.mg.hk.queue ++ [⟨input % 64, cal, false⟩] ∧
      (s.hkRequest input cal).get HK_STATUS_inj_q = s.mg.hk.queue.length + 1 := by
  set q := s.mg.hk.queue ++ [(⟨input % 64, cal, false⟩ : HkReq)] with hq
  have hlen : q.length = s.mg.hk.queue.length + 1 := by rw [hq, List.length_append]; rfl
  have hjoin : ∀ u : State, u.mg.hk.queue = q → u.get HK_STATUS_inj_q = q.length →
      u.mg.hk.queue = q ∧ u.get HK_STATUS_inj_q = s.mg.hk.queue.length + 1 :=
    fun u hu hget => ⟨hu, hget.trans hlen⟩
  have hset (u : State) (k : Hk) (hk : k.queue = q) :
      (u.setHk k).mg.hk.queue = q ∧ (u.setHk k).get HK_STATUS_inj_q = s.mg.hk.queue.length + 1 :=
    hjoin _ hk ((u.get_setHk_queued (by rw [hk]; omega)).trans (by rw [hk]))
  have hasked := (s.setHk { s.mg.hk with queue := q }).assayCheck_sameCal.mg
  have hqueued := (s.setHk { s.mg.hk with queue := q }).assayCheck_queued
  have hget := s.get_setHk_queued (h := { s.mg.hk with queue := q }) (by show q.length ≤ 4; omega)
  unfold State.hkRequest
  dsimp only
  rw [if_neg (by omega), ← hq]
  generalize (s.setHk { s.mg.hk with queue := q }).assayCheck = v at hasked hqueued ⊢
  have hv : v.mg.hk.queue = q := by rw [hasked]; rfl
  have hstays := hjoin v hv (hqueued.trans hget)
  split
  · exact hset _ _ hv
  · split
    · exact hset _ _ hv
    · exact hstays
  · exact hstays

section
variable {s : State} {e : Nat}

theorem SettledDue.convert (h : SettledDue s e) (hact : s.get (CX_CAL_CTRL_action e) = 2)
    (hroom : s.mg.hk.queue.length < 4) :
    ∃ t, exec (.housekeepingConversion e) s = .next t ∧
      t.mg.hk.queue = s.mg.hk.queue ++ [⟨s.get (CX_CAL_CTRL_argument e) % 64, true, false⟩] ∧
      t.mt.bucket = s.calPlace e ∧ t.get HK_STATUS_inj_q = s.mg.hk.queue.length + 1 ∧
      t = (s.fireAt e).hkRequest (s.get (CX_CAL_CTRL_argument e) % 64) true := by
  have hmg : (s.fireAt e).mg = s.mg := h.moved.mg
  have hbucket : (s.fireAt e).mt.bucket = s.calPlace e := h.moved.bucket
  generalize hu : s.fireAt e = u at hmg hbucket
  have hjoins := u.hkRequest_joins (s.get (CX_CAL_CTRL_argument e) % 64) true (by rw [hmg]; exact hroom)
  rw [hmg, Nat.mod_mod] at hjoins
  refine ⟨_, (effect_of_wf (c := .housekeepingConversion e) (decide_eq_true h.entry) (housekeepingConversion e) s).trans
    (congrArg _ ((h.calDo hact rfl).trans (by rw [hu]; rfl))), hjoins.1, ?_, hjoins.2, rfl⟩
  exact ((SameTime.refl u).hkRequest _ _).bucket.trans hbucket

/-! ## An action that no rule gives -/

theorem State.jump_frame {s : State} (hstate : s.get CX_MT_STATUS_state ≠ 3) (n : Nat) :
    Frame [.mt, .clock] [] s (s.jump n) := by
  unfold State.jump
  split
  · exact Frame.refl _ _ s
  · dsimp only
    split
    next hslew => exact absurd hslew hstate
    next => exact Frame.beside (Frame.refl _ _ s)

/-- Machine time passes with nothing that waits for an edge. -/
theorem State.moveTo_frame (hedge : s.mt.edge = []) (harrived : s.tg.arrived = [])
    (hstate : s.get CX_MT_STATUS_state ≠ 3) (b : Nat) : Frame [.mt, .clock] [] s (s.moveTo b) := by
  rw [State.moveTo]
  split
  · exact Frame.refl _ _ s
  · have hjump := s.jump_frame hstate 1
    have hacts : (s.jump 1).edgeActs = s.jump 1 := by
      rw [State.jump_of_steady hstate]
      exact State.edgeActs_of_none hedge
    rw [State.takeArrived_of_none harrived]
    dsimp only
    rw [hacts]
    refine hjump.trans (State.jump_frame ?_ _)
    rw [hjump.get (by simp)]
    exact hstate

theorem SettledDue.fireAt_frame (hedge : s.mt.edge = []) (harrived : s.tg.arrived = [])
    (hstate : s.get CX_MT_STATUS_state ≠ 3) : Frame [.mt, .clock] [] s (s.fireAt e) :=
  (State.moveTo_frame hedge harrived hstate _).beside

theorem State.missed_miss (s : State) (e : Nat) : (s.miss 1 e).get CX_CAL_EN_missed =
    min (s.get CX_CAL_EN_missed + 1) (2 ^ CX_CAL_EN_missed.width - 1) := by
  have hcount : (s.count CX_CAL_EN_missed 1).get CX_CAL_EN_missed =
    min (s.get CX_CAL_EN_missed + 1) (2 ^ CX_CAL_EN_missed.width - 1) := s.get_count_same _ _
  rw [State.miss, if_neg (by decide)]
  dsimp only
  split
  · exact hcount
  · exact (State.get_raise_ne _ (by decide) _ _).trans hcount

theorem State.miss_time (s : State) (n e : Nat) : (s.miss n e).mt.bucket = s.mt.bucket ∧
    (s.miss n e).mt.orbit = s.mt.orbit ∧ (s.miss n e).mt.fired = s.mt.fired := by
  unfold State.miss
  dsimp only
  split
  · exact ⟨rfl, rfl, rfl⟩
  · split
    · exact ⟨rfl, rfl, rfl⟩
    · rw [State.raise_mt]
      exact ⟨rfl, rfl, rfl⟩

theorem State.miss_event (s : State) (e : Nat) (h : s.mt.missedRaised = false) :
    Sparse.has 55 (s.miss 1 e).evReq = true := by
  rw [State.miss, if_neg (by decide)]
  dsimp only
  rw [if_neg (by rw [State.count_mt, h]; decide)]
  exact State.has_raise ..

theorem State.calAct_of_reserved (s : State) {act : Nat} (h : 9 ≤ act) (e a coarse : Nat) :
    s.calAct e act a coarse = s.miss 1 e := by
  obtain ⟨k, rfl⟩ := Nat.exists_eq_add_of_le' h
  rfl

theorem SettledDue.reserved (h : SettledDue s e) (hact : 9 ≤ s.get (CX_CAL_CTRL_action e)) :
    exec (.calendarReservedAction e) s = .next ((s.fireAt e).miss 1 e) :=
  (effect_of_wf (c := .calendarReservedAction e) (decide_eq_true h.entry) (calendarReservedAction e) s).trans
    (congrArg _ ((h.calDo rfl (by rw [decide_eq_true hact]; rfl)).trans (State.calAct_of_reserved _ hact _ _ _)))

end

end Sys2Proof.Machine
end

section
/-! SUPPORT. A strobe of the calendar: the dies it reaches and the injection windows they open (R143 to R147). -/

namespace Sys2Proof.Machine

open Sys2Proof

/-! ## One member of a list of operations -/

theorem State.each_keep {α : Type} {P : State → Prop} {f : State → α → State} {l : List α} {s : State}
    (hf : ∀ u, ∀ a ∈ l, P u → P (f u a)) (h : P s) : P (s.each l f) := by
  induction l generalizing s with
  | nil => exact h
  | cons a l ih =>
    exact ih (fun u b hb => hf u b (List.mem_cons_of_mem _ hb)) (hf s a (List.mem_cons_self ..) h)

/-- Of operations done once each, the one for `a` turns `I` into `J`; the others keep what stands. -/
theorem State.each_of_mem {α : Type} {I J : State → Prop} {f : State → α → State} {l : List α} {a : α} {s : State}
    (hnodup : l.Nodup) (ha : a ∈ l) (hI : ∀ u, ∀ b ∈ l, b ≠ a → I u → I (f u b)) (hat : ∀ u, I u → J (f u a))
    (hJ : ∀ u, ∀ b ∈ l, b ≠ a → J u → J (f u b)) (h : I s) : J (s.each l f) := by
  induction l generalizing s with
  | nil => exact absurd ha List.not_mem_nil
  | cons b l ih =>
    obtain ⟨hb, hnodup⟩ := List.nodup_cons.1 hnodup
    obtain rfl | ha := List.mem_cons.1 ha
    · rw [State.each_cons]
      exact State.each_keep (fun u c hc hu => hJ u c (List.mem_cons_of_mem _ hc) (fun heq => hb (heq ▸ hc)) hu) (hat s h)
    · exact ih hnodup ha (fun u c hc => hI u c (List.mem_cons_of_mem _ hc))
        (fun u c hc => hJ u c (List.mem_cons_of_mem _ hc))
        (hI s b (List.mem_cons_self ..) (fun heq => hb (heq ▸ ha)) h)

/-! ## A channel of a die that takes the strobe -/

/-- The injection window that opens on channel `ch` in this bucket. -/
def State.windowAt (s : State) (ch tick : Nat) : InjWin :=
  ⟨s.mt.orbit, s.mt.bucket, tick, !(s.chan ch).high && !(s.chan ch).recov, 0, false⟩

/-- It opens on channel `l` of die `n`. -/
def State.openWindow (n tick : Nat) (s : State) (l : Nat) : State :=
  (s.setChan (n * 512 + l) { s.chan (n * 512 + l) with
      inj := some (s.windowAt (n * 512 + l) tick) }).iff
    (s.counts (n * 512 + l)) fun s => s.count (FE_CNT_INJ_WIN_count n)

/-- The channels of die `n` that the strobe of `set` selects. -/
def State.strobed (s : State) (set n : Nat) : List Nat :=
  (List.range 512).filter fun l =>
    s.on (FE_CH_CFG_inj_en n l) && s.get (FE_CH_CFG_inj_set n l) == set && s.chUp (n * 512 + l)

theorem State.mem_strobed {s : State} {set n l : Nat} : l ∈ s.strobed set n ↔ l < 512 ∧
    s.on (FE_CH_CFG_inj_en n l) = true ∧ s.get (FE_CH_CFG_inj_set n l) = set ∧ s.chUp (n * 512 + l) = true := by
  rw [State.strobed, List.mem_filter, List.mem_range, Bool.and_eq_true, Bool.and_eq_true, beq_iff_eq, and_assoc]

theorem State.strobed_nodup (s : State) (set n : Nat) : (s.strobed set n).Nodup := by
  rw [State.strobed]
  exact List.nodup_range.filter _

/-- The strobe is taken. -/
def State.takeStrobe (s : State) (set coarse n : Nat) : State :=
  (s.setDie n { s.die n with strobe := some s.clock }).each (s.strobed set n)
    (State.openWindow n (coarse * 1024 + s.get (FE_INJ_CTRL_fine n)))

/-- The strobe is dropped: one bucket after another. -/
def State.dropStrobe (s : State) (n : Nat) : State :=
  (s.count (FE_CNT_INJ_ERR_dropped n)).flag (FE_STATUS_inj_dropped n) (feSrc n 5)

theorem State.strobeDie_eq (s : State) (set coarse n : Nat) :
    s.strobeDie set coarse n = s.takeStrobe set coarse n ∨ s.strobeDie set coarse n = s.dropStrobe n :=
   (ite_eq_or_eq _ (s.dropStrobe n) (s.takeStrobe set coarse n)).symm

theorem State.strobeDie_of_first {s : State} {n : Nat} (h : (s.die n).strobe = none) (set coarse : Nat) :
    s.strobeDie set coarse n = s.takeStrobe set coarse n := by
  simp only [State.strobeDie, h]
  rfl

theorem State.openWindow_frame (s : State) (n tick l : Nat) :
    Frame [.chans] [FE_CNT_INJ_WIN_count n] s (s.openWindow n tick l) :=
  have hset : Frame [.chans] [FE_CNT_INJ_WIN_count n] s (s.setChan (n * 512 + l) _) := Frame.beside (Frame.refl _ _ s)
  hset.iff fun _ hu => hu.count _ _ (by simp)

theorem State.openWindow_chan (s : State) (n tick l : Nat) : ((s.openWindow n tick l).chan (n * 512 + l)).inj =
    some (s.windowAt (n * 512 + l) tick) := by
  unfold State.openWindow State.iff
  split
  · exact congrArg Chan.inj (s.chan_setChan _ _)
  · exact congrArg Chan.inj (s.chan_setChan _ _)

theorem State.openWindow_chan_ne (s : State) {n l k : Nat} (tick : Nat) (h : k ≠ n * 512 + l) :
    (s.openWindow n tick l).chan k = s.chan k := by
  unfold State.openWindow State.iff
  split
  · exact s.chan_setChan_ne h _
  · exact s.chan_setChan_ne h _

/-! ## A die that the strobe reaches -/

def strobeFields : List Fld := [MG_EVLOG_merged] ++ ((List.range 3).map FE_CNT_INJ_WIN_count ++
  (List.range 3).map FE_CNT_INJ_ERR_dropped ++ (List.range 3).map FE_STATUS_inj_dropped)

theorem mem_strobeFields {n : Nat} (hn : n < 3) : MG_EVLOG_merged ∈ strobeFields ∧ FE_CNT_INJ_WIN_count n ∈ strobeFields ∧
    FE_CNT_INJ_ERR_dropped n ∈ strobeFields ∧ FE_STATUS_inj_dropped n ∈ strobeFields := by
  interval_cases n <;> decide

/-- Fields of the dies that a strobe does not write: the settings of the injection and of the channels. -/
theorem strobeFields_apart {f : Fld} (h : ∀ n < 3, f.key ≠ (FE_CNT_INJ_WIN_count n).key ∧
    f.key ≠ (FE_CNT_INJ_ERR_dropped n).key ∧ f.key ≠ (FE_STATUS_inj_dropped n).key) (hm : f.key ≠ MG_EVLOG_merged.key) :
    ∀ g ∈ strobeFields, f.key ≠ g.key := by
  simp only [strobeFields, List.mem_append, List.mem_map, List.mem_range, List.mem_singleton]
  rintro g (rfl | (⟨n, hn, rfl⟩ | ⟨n, hn, rfl⟩) | ⟨n, hn, rfl⟩)
  · exact hm
  · exact (h n hn).1
  · exact (h n hn).2.1
  · exact (h n hn).2.2

theorem State.takeStrobe_windows (s : State) (set coarse : Nat) (n : Nat) :
    Frame [.chans] [FE_CNT_INJ_WIN_count n] (s.setDie n { s.die n with strobe := some s.clock })
      (s.takeStrobe set coarse n) :=
  (Frame.refl _ _ _).each fun u _ _ hu => hu.trans (u.openWindow_frame ..)

theorem State.takeStrobe_frame (s : State) (set coarse : Nat) {n : Nat} (hn : n < 3) :
    Frame [.chans, .dies, .evReq] strobeFields s (s.takeStrobe set coarse n) :=
  have hdie : Frame [.chans, .dies, .evReq] strobeFields s (s.setDie n { s.die n with strobe := some s.clock }) :=
    Frame.beside (Frame.refl _ _ s)
  hdie.trans ((s.takeStrobe_windows set coarse n).mono (by decide) (by simp [(mem_strobeFields hn).2.1]))

theorem State.dropStrobe_frame (s : State) {n : Nat} (hn : n < 3) :
    Frame [.chans, .dies, .evReq] strobeFields s (s.dropStrobe n) := by
  obtain ⟨hm, -, hd, hs⟩ := mem_strobeFields hn
  exact ((Frame.refl _ _ s).count _ _ (List.mem_map_of_mem hd)).flag _ _ _ (by decide) (List.mem_map_of_mem hm)
    (List.mem_map_of_mem hs)

theorem State.strobeDie_frame (s : State) (set coarse : Nat) {n : Nat} (hn : n < 3) :
    Frame [.chans, .dies, .evReq] strobeFields s (s.strobeDie set coarse n) := by
  obtain h | h := s.strobeDie_eq set coarse n
  · rw [h]; exact s.takeStrobe_frame set coarse hn
  · rw [h]; exact s.dropStrobe_frame hn

/-- The dies are as they were, but for `n`, and the channels but for those of `n`. -/
structure ApartFrom (n : Nat) (s t : State) : Prop where
  die : ∀ m, m ≠ n → t.die m = s.die m
  chan : ∀ m l, l < 512 → m ≠ n → t.chan (m * 512 + l) = s.chan (m * 512 + l)

theorem State.dropStrobe_kept (s : State) (n : Nat) : (s.dropStrobe n).dies = s.dies ∧ (s.dropStrobe n).chans = s.chans := by
  unfold State.dropStrobe State.flag
  split
  · exact ⟨rfl, rfl⟩
  · rw [State.raise_dies, State.raise_chans]
    exact ⟨rfl, rfl⟩

theorem State.takeStrobe_apart (s : State) (set coarse n : Nat) : ApartFrom n s (s.takeStrobe set coarse n) where
  die := fun m hm => by
    rw [State.die, (s.takeStrobe_windows set coarse n).parts .dies (by decide)]
    exact Sparse.get_put_ne _ _ hm _ _
  chan := fun m k hk hm => by
    unfold State.takeStrobe
    refine State.each_keep (P := fun u => u.chan (m * 512 + k) = s.chan (m * 512 + k)) (fun u l hl hu => ?_) rfl
    have hlt : l < 512 := (State.mem_strobed.1 hl).1
    rw [u.openWindow_chan_ne _ (by omega)]
    exact hu

theorem State.strobeDie_apart (s : State) (set coarse n : Nat) : ApartFrom n s (s.strobeDie set coarse n) := by
  obtain h | h := s.strobeDie_eq set coarse n
  · rw [h]
    exact s.takeStrobe_apart set coarse n
  · obtain ⟨hdies, hchans⟩ := s.dropStrobe_kept n
    rw [h]
    exact ⟨fun m _ => by rw [State.die, hdies]; rfl, fun m l _ _ => by rw [State.chan, hchans]; rfl⟩

theorem State.takeStrobe_die (s : State) (set coarse n : Nat) :
    ((s.takeStrobe set coarse n).die n).strobe = some s.clock := by
  rw [State.die, (s.takeStrobe_windows set coarse n).parts .dies (by decide)]
  exact congrArg FeDie.strobe (s.die_setDie n _)

theorem State.each_openWindow_chan (s : State) {n l tick : Nat} {take : List Nat} (hnodup : take.Nodup) (hl : l ∈ take) :
    ((s.each take (State.openWindow n tick)).chan (n * 512 + l)).inj = some (s.windowAt (n * 512 + l) tick) := by
  refine State.each_of_mem (I := fun u => u.mt = s.mt ∧ u.chan (n * 512 + l) = s.chan (n * 512 + l))
    (J := fun u => (u.chan (n * 512 + l)).inj = some (s.windowAt (n * 512 + l) tick)) hnodup hl ?before ?here ?after
    ⟨rfl, rfl⟩
  case before =>
    rintro u b - hb ⟨hmt, hchan⟩
    exact ⟨((u.openWindow_frame ..).parts .mt (by decide)).trans hmt, (u.openWindow_chan_ne _ (by omega)).trans hchan⟩
  case here =>
    rintro u ⟨hmt, hchan⟩
    rw [State.openWindow_chan, State.windowAt, State.windowAt, hmt, hchan]
  case after =>
    intro u b _ hb hu
    rw [State.openWindow_chan_ne _ _ (by omega), hu]

theorem State.takeStrobe_chan (s : State) (coarse : Nat) {set n l : Nat} (hl : l ∈ s.strobed set n) :
    ((s.takeStrobe set coarse n).chan (n * 512 + l)).inj =
      some (s.windowAt (n * 512 + l) (coarse * 1024 + s.get (FE_INJ_CTRL_fine n))) :=
  (s.setDie n { s.die n with strobe := some s.clock }).each_openWindow_chan (s.strobed_nodup set n) hl

end Sys2Proof.Machine
end

section
/-! SUPPORT. A strobe of the calendar over the dies of its argument (R143 to R147). -/

namespace Sys2Proof.Machine

open Sys2Proof

section
variable {s : State} {n l arg coarse : Nat}

/-- The dies in service that the argument of a strobe names. -/
def State.strobeDies (s : State) (arg : Nat) : List Nat := (List.range 3).filter fun n => bit arg n && s.feServed n

theorem State.mem_strobeDies : n ∈ s.strobeDies arg ↔ n < 3 ∧ bit arg n = true ∧ s.feServed n = true := by
  rw [State.strobeDies, List.mem_filter, List.mem_range, Bool.and_eq_true]

theorem State.strobeDies_nodup (s : State) (arg : Nat) : (s.strobeDies arg).Nodup := List.nodup_range.filter _

theorem State.strobe_eq (s : State) (arg coarse : Nat) :
    s.strobe arg coarse = s.each (s.strobeDies arg) (State.strobeDie · (bits arg 4 4) coarse) := rfl

theorem State.strobe_frame (s : State) (arg coarse : Nat) :
    Frame [.chans, .dies, .evReq] strobeFields s (s.strobe arg coarse) := by
  rw [State.strobe_eq]
  exact (Frame.refl _ _ s).each fun u n hn hu => hu.trans (u.strobeDie_frame _ _ (State.mem_strobeDies.1 hn).1)

/-- A die that the strobe does not reach. -/
theorem State.strobe_die_of_not_mem (h : n ∉ s.strobeDies arg) : (s.strobe arg coarse).die n = s.die n := by
  rw [State.strobe_eq]
  exact State.each_keep (P := fun u => u.die n = s.die n)
    (fun u m hm hu => ((u.strobeDie_apart _ _ m).die n (fun heq => h (heq ▸ hm))).trans hu) rfl

/-- The first strobe of a die is taken. -/
theorem State.strobe_die (h : n ∈ s.strobeDies arg) (hfirst : (s.die n).strobe = none) :
    ((s.strobe arg coarse).die n).strobe = some s.clock := by
  rw [State.strobe_eq]
  refine State.each_of_mem (I := fun u => Frame [.chans, .dies, .evReq] strobeFields s u ∧ u.die n = s.die n)
    (J := fun u => (u.die n).strobe = some s.clock) (s.strobeDies_nodup arg) h ?before ?here ?after
    ⟨Frame.refl _ _ s, rfl⟩
  case before =>
    rintro u m hm hne ⟨hframe, hdie⟩
    exact ⟨hframe.trans (u.strobeDie_frame _ _ (State.mem_strobeDies.1 hm).1),
      ((u.strobeDie_apart _ _ m).die n hne.symm).trans hdie⟩
  case here =>
    rintro u ⟨hframe, hdie⟩
    rw [State.strobeDie_of_first (by rw [hdie]; exact hfirst), State.takeStrobe_die, hframe.parts .clock (by decide)]
  case after =>
    intro u m _ hne hu
    rw [(u.strobeDie_apart _ _ m).die n hne.symm]
    exact hu

theorem feSetting_apart (hn : n < 3) (l : Nat) :
    (∀ g ∈ strobeFields, (FE_INJ_CTRL_fine n).key ≠ g.key) ∧ (∀ g ∈ strobeFields, (FE_CH_CFG_inj_en n l).key ≠ g.key) ∧
      ∀ g ∈ strobeFields, (FE_CH_CFG_inj_set n l).key ≠ g.key := by
  refine ⟨strobeFields_apart (fun m hm => ?_) ?_, strobeFields_apart (fun m hm => ?_) ?_,
    strobeFields_apart (fun m hm => ?_) ?_⟩
  all_goals
    simp only [Fld.key, FE_INJ_CTRL_fine, FE_CH_CFG_inj_en, FE_CH_CFG_inj_set, FE_CNT_INJ_WIN_count,
      FE_CNT_INJ_ERR_dropped, FE_STATUS_inj_dropped, MG_EVLOG_merged]
    omega

theorem nowFld_apart (hn : n < 3) : ∀ g ∈ strobeFields, (nowFld n).key ≠ g.key := by
  interval_cases n <;> decide

/-- A channel of the strobe's set opens its injection window, on a die that takes the strobe. -/
theorem State.strobe_chan (h : n ∈ s.strobeDies arg) (hfirst : (s.die n).strobe = none)
    (hl : l ∈ s.strobed (bits arg 4 4) n) : ((s.strobe arg coarse).chan (n * 512 + l)).inj =
      some (s.windowAt (n * 512 + l) (coarse * 1024 + s.get (FE_INJ_CTRL_fine n))) := by
  obtain ⟨hn, -⟩ := State.mem_strobeDies.1 h
  obtain ⟨hlt, hen, hset, hup⟩ := State.mem_strobed.1 hl
  obtain ⟨hfine, hkeyEn, hkeySet⟩ := feSetting_apart hn l
  rw [State.strobe_eq]
  refine State.each_of_mem (I := fun u => Frame [.chans, .dies, .evReq] strobeFields s u ∧ u.die n = s.die n ∧
      u.chan (n * 512 + l) = s.chan (n * 512 + l))
    (J := fun u => (u.chan (n * 512 + l)).inj =
      some (s.windowAt (n * 512 + l) (coarse * 1024 + s.get (FE_INJ_CTRL_fine n))))
    (s.strobeDies_nodup arg) h ?before ?here ?after ⟨Frame.refl _ _ s, rfl, rfl⟩
  case before =>
    rintro u m hm hne ⟨hframe, hdie, hchan⟩
    have hapart := u.strobeDie_apart (bits arg 4 4) coarse m
    exact ⟨hframe.trans (u.strobeDie_frame _ _ (State.mem_strobeDies.1 hm).1), (hapart.die n hne.symm).trans hdie,
      (hapart.chan n l hlt hne.symm).trans hchan⟩
  case here =>
    rintro u ⟨hframe, hdie, hchan⟩
    have hup' : u.chUp (n * 512 + l) = s.chUp (n * 512 + l) := by
      have hdiv : (n * 512 + l) / 512 = n := by omega
      rw [State.chUp, State.chUp, State.feRuns, State.feRuns, State.regLatch, State.regLatch, hdiv,
        hframe.get (nowFld_apart hn), hframe.parts .shut (by decide), hframe.parts .latch (by decide)]
    have hmem : l ∈ u.strobed (bits arg 4 4) n := State.mem_strobed.2
      ⟨hlt, by rw [State.on, hframe.get hkeyEn]; exact hen, by rw [hframe.get hkeySet]; exact hset, hup'.trans hup⟩
    rw [State.strobeDie_of_first (by rw [hdie]; exact hfirst), u.takeStrobe_chan coarse hmem, State.windowAt,
      State.windowAt, hframe.parts .mt (by decide), hchan, hframe.get hfine]
  case after =>
    intro u m _ hne hu
    rw [(u.strobeDie_apart _ _ m).chan n l hlt hne.symm]
    exact hu

end

section
variable {s : State} {e n l : Nat}

theorem SettledDue.strobeTaken (h : SettledDue s e) (hact : s.get (CX_CAL_CTRL_action e) = 1) :
    exec (.testChargeInjection e) s =
      .next ((s.fireAt e).strobe (s.get (CX_CAL_CTRL_argument e)) (s.get (CX_CAL_TIME_coarse e))) :=
  (effect_of_wf (c := .testChargeInjection e) (decide_eq_true h.entry) (testChargeInjection e) s).trans
    (congrArg _ (h.calDo hact rfl))

theorem SettledDue.strobe (h : SettledDue s e) (hact : s.get (CX_CAL_CTRL_action e) = 1) (hedge : s.mt.edge = [])
    (harrived : s.tg.arrived = []) (hstate : s.get CX_MT_STATUS_state ≠ 3) (hn : n < 3) (hl : l < 512)
    (hbit : bit (s.get (CX_CAL_CTRL_argument e)) n = true) :
    ∃ t, exec (.testChargeInjection e) s = .next t ∧
      ((s.fireAt e).feServed n = true → (s.die n).strobe = none → (t.die n).strobe = some (s.fireAt e).clock) ∧
      ((s.fireAt e).feServed n = true → (s.die n).strobe = none → s.on (FE_CH_CFG_inj_en n l) = true →
        s.get (FE_CH_CFG_inj_set n l) = s.get (CX_CAL_CTRL_argument e) / 16 % 16 →
        (s.fireAt e).chUp (n * 512 + l) = true → (t.chan (n * 512 + l)).inj =
          some ⟨(s.fireAt e).mt.orbit, (s.fireAt e).mt.bucket,
            s.get (CX_CAL_TIME_coarse e) * 1024 + s.get (FE_INJ_CTRL_fine n),
            !(s.chan (n * 512 + l)).high && !(s.chan (n * 512 + l)).recov, 0, false⟩) ∧
      ((s.fireAt e).feServed n = false → t.die n = s.die n) ∧
      Frame [.mt, .clock, .dies, .chans, .evReq] strobeFields s t := by
  have hfire : Frame [.mt, .clock] [] s (s.fireAt e) := SettledDue.fireAt_frame hedge harrived hstate
  have hdie : (s.fireAt e).die n = s.die n := congrArg (Sparse.get FeDie.new n) (hfire.parts .dies (by decide))
  refine ⟨_, h.strobeTaken hact, fun hserved hfirst => ?_, fun hserved hfirst hen hset hup => ?_, fun hserved => ?_, ?_⟩
  · exact State.strobe_die (State.mem_strobeDies.2 ⟨hn, hbit, hserved⟩) (by rw [hdie]; exact hfirst)
  · have hmem : l ∈ (s.fireAt e).strobed (bits (s.get (CX_CAL_CTRL_argument e)) 4 4) n := State.mem_strobed.2
      ⟨hl, by rw [State.on, hfire.get (by simp)]; exact hen, by rw [hfire.get (by simp)]; exact hset, hup⟩
    rw [State.strobe_chan (State.mem_strobeDies.2 ⟨hn, hbit, hserved⟩) (by rw [hdie]; exact hfirst) hmem,
      State.windowAt, hfire.chan (by decide), hfire.get (by simp)]
  · rw [State.strobe_die_of_not_mem fun hmem => ?_, hdie]
    obtain ⟨-, -, hyes⟩ := State.mem_strobeDies.1 hmem
    exact Bool.false_ne_true (hserved.symm.trans hyes)
  · exact (hfire.mono (by decide) (by simp)).trans ((State.strobe_frame ..).mono (by decide) (by simp))

end

end Sys2Proof.Machine
end

section
/-! SUPPORT. A write of a calendar entry's control word: what it asked before stays in force for the current bucket and the
next (R118). -/

namespace Sys2Proof.Machine

open Sys2Proof

def calCtrlFields (e : Nat) : List Fld := [CX_CAL_CTRL_enable e, CX_CAL_CTRL_action e, CX_CAL_CTRL_argument e]

def calCtrlReg (e : Nat) : RegAt := ⟨0x10001000, [e], calCtrlFields e⟩

theorem regAt_calCtrl : ∀ e < 256, regAt (CX_CAL_CTRL_enable e).addr = some (calCtrlReg e) := by decide +kernel

theorem plainAddr_calCtrl {e : Nat} (he : e < 256) : PlainAddr (CX_CAL_CTRL_enable e).addr := by
  simp only [PlainAddr, CX_CAL_CTRL_enable]
  omega

/-- The control word of an entry written: its old values are kept, its new ones stored. -/
def State.calWritten (s : State) (e v : Nat) : State := (s.keepOld (calCtrlFields e) 2).storeReg (calCtrlReg e) v

theorem State.writeReg_calCtrl (s : State) (src : Source) (e v : Nat) :
    s.writeReg src (calCtrlReg e) v = s.calWritten e v := by
  have hbase : (calCtrlReg e).base = 0x10001000 := rfl
  unfold State.writeReg writePlate writeTime
  simp only [hbase]
  rfl

theorem exec_write_calCtrl {p : Path} {e v : Nat} (hp : p.wf = true) (hv : v < 2 ^ 32) (he : e < 256) (s : State) :
    exec (.registerWrite p (CX_CAL_CTRL_enable e).addr v 15) s =
      .next { s.calWritten e v with answer := (0, 0) } := by
  rw [(plainAddr_calCtrl he).write (regAt_calCtrl e he) hp hv, State.writeReg_calCtrl]

end Sys2Proof.Machine
end

section
/-! SUPPORT. A calendar entry whose control word has just been written, and when it fires (R118). -/

namespace Sys2Proof.Machine

open Sys2Proof

/-! ## What is in force after the write -/

/-- `t` is `s` with the control word of entry `e` written with `v`: for two buckets its old values stay in force. -/
structure CtrlWritten (e v : Nat) (s t : State) : Prop where
  frame : Frame [.answer, .was] (calCtrlFields e) s t
  enable : t.get (CX_CAL_CTRL_enable e) = bits v 31 1
  action : t.get (CX_CAL_CTRL_action e) = bits v 24 4
  argument : t.get (CX_CAL_CTRL_argument e) = bits v 0 16
  waits : ∃ w ∈ t.was, w.key = (CX_CAL_CTRL_enable e).key
  apart : ∀ f : Fld, calKey f.key = true → (∀ g ∈ calCtrlFields e, f.key ≠ g.key) → ∀ w ∈ t.was, w.key ≠ f.key
  old : ∀ f ∈ calCtrlFields e, ∀ c < s.clock + 2, t.asOf c f = s.get f
  new : ∀ f ∈ calCtrlFields e, ∀ c, s.clock + 2 ≤ c → t.asOf c f = t.get f

theorem calCtrlFields_keys (e : Nat) : (CX_CAL_CTRL_action e).key ≠ (CX_CAL_CTRL_enable e).key ∧
    (CX_CAL_CTRL_argument e).key ≠ (CX_CAL_CTRL_enable e).key ∧
    (CX_CAL_CTRL_argument e).key ≠ (CX_CAL_CTRL_action e).key := by
  simp only [Fld.key, CX_CAL_CTRL_action, CX_CAL_CTRL_enable, CX_CAL_CTRL_argument]
  omega

theorem State.actsFrom_of_settled {s : State} {f : Fld} (h : ∀ w ∈ s.was, w.key ≠ f.key) (d : Nat) :
    s.actsFrom d f = s.clock + d := by
  have hfold (l : List Was) (hl : ∀ w ∈ l, w.key ≠ f.key) (m : Nat) :
      l.foldl (fun m w => if w.key == f.key then max m w.acts else m) m = m := by
    induction l with
    | nil => rfl
    | cons w l ih =>
      rw [List.foldl_cons, if_neg (by simpa using hl w (List.mem_cons_self ..))]
      exact ih fun w hw => hl w (List.mem_cons_of_mem _ hw)
  exact hfold s.was h _

/-- The values that stay in force. -/
def State.calWas (s : State) (e : Nat) : List Was := (calCtrlFields e).map fun f => ⟨s.clock + 2, f.key, s.get f⟩

theorem State.keepOld_calCtrl {s : State} {e : Nat} (he : e < 256) (hrun : s.mt.running = true)
    (h : ∀ w ∈ s.was, calKey w.key = false) : s.keepOld (calCtrlFields e) 2 =
      { s with was := (s.was.filter fun w => decide (s.clock < w.acts + 64)) ++ s.calWas e } := by
  rw [State.keepOld, if_pos hrun, State.calWas]
  refine congrArg (fun l => ({ s with was := _ ++ l } : State)) (List.map_congr_left fun f hf => ?_)
  have hcal : calKey f.key = true := by
    simp only [calCtrlFields, List.mem_cons, List.not_mem_nil, or_false] at hf
    obtain rfl | rfl | rfl := hf
    all_goals exact calKey_of_entry he
  rw [State.actsFrom_of_settled (calKey_apart h hcal)]

/-- Which value of the entry's fields is in force. -/
theorem State.asOf_calWas {s t : State} {e : Nat} {l : List Was} (hl : ∀ f ∈ calCtrlFields e, ∀ w ∈ l, w.key ≠ f.key)
    (hwas : t.was = l ++ s.calWas e) {f : Fld} (hf : f ∈ calCtrlFields e) (c : Nat) :
    t.asOf c f = if c < s.clock + 2 then s.get f else t.get f := by
  have hnone : (l.find? fun w => w.key == f.key && decide (c < w.acts)) = none := by
    rw [List.find?_eq_none]
    intro w hw
    simp [hl f hf w hw]
  have hfind : ((s.calWas e).find? fun w => w.key == f.key && decide (c < w.acts)) =
      if c < s.clock + 2 then some ⟨s.clock + 2, f.key, s.get f⟩ else none := by
    obtain ⟨hae, hge, hga⟩ := calCtrlFields_keys e
    simp only [calCtrlFields, List.mem_cons, List.not_mem_nil, or_false] at hf
    by_cases hc : c < s.clock + 2
    · obtain rfl | rfl | rfl := hf
      all_goals simp [State.calWas, calCtrlFields, hc, hae.symm, hge.symm, hga.symm]
    · simp [State.calWas, calCtrlFields, hc]
  have hfit : s.get f % 2 ^ f.width = s.get f := Nat.mod_eq_of_lt (s.get_lt f)
  rw [State.asOf, hwas, List.find?_append, hnone, Option.none_or, hfind]
  by_cases hc : c < s.clock + 2
  · simp only [hc, if_true, hfit]
  · simp only [hc, if_false]

theorem State.calWritten_eq (s : State) (e v : Nat) : s.calWritten e v =
    (((s.keepOld (calCtrlFields e) 2).set (CX_CAL_CTRL_enable e) (bits v 31 1)).set (CX_CAL_CTRL_action e)
      (bits v 24 4)).set (CX_CAL_CTRL_argument e) (bits v 0 16) := rfl

theorem CalSettled.written {s : State} {e : Nat} (h : CalSettled s e) (v : Nat) :
    CtrlWritten e v s { s.calWritten e v with answer := (0, 0) } := by
  obtain ⟨hae, hge, hga⟩ := calCtrlFields_keys e
  have hcal : ∀ f ∈ calCtrlFields e, calKey f.key = true := by
    intro f hf
    simp only [calCtrlFields, List.mem_cons, List.not_mem_nil, or_false] at hf
    obtain rfl | rfl | rfl := hf
    all_goals exact calKey_of_entry h.entry
  have hkept := State.keepOld_calCtrl h.entry h.running h.settled
  have hwas : (s.calWritten e v).was = (s.was.filter fun w => decide (s.clock < w.acts + 64)) ++ s.calWas e := by
    rw [State.calWritten_eq, hkept]
    rfl
  have hrest : ∀ w ∈ s.was.filter fun w => decide (s.clock < w.acts + 64), calKey w.key = false :=
    fun w hw => h.settled w (List.mem_of_mem_filter hw)
  have hasOf {f : Fld} (hf : f ∈ calCtrlFields e) (c : Nat) :
      State.asOf { s.calWritten e v with answer := (0, 0) } c f =
        if c < s.clock + 2 then s.get f else State.get { s.calWritten e v with answer := (0, 0) } f :=
    State.asOf_calWas (fun g hg => calKey_apart hrest (hcal g hg)) hwas hf c
  constructor
  case frame =>
    refine Frame.beside (Frame.set (Frame.set (Frame.set ?_ _ _ ?_) _ _ ?_) _ _ ?_)
    · rw [hkept]
      exact Frame.beside (Frame.refl _ _ s)
    all_goals simp [calCtrlFields]
  case enable =>
    exact ((State.get_set_ne _ hge.symm _).trans (State.get_set_ne _ hae.symm _)).trans
      (State.get_set_fit _ _ (Nat.mod_lt _ (Nat.two_pow_pos _)))
  case action =>
    exact (State.get_set_ne _ hga.symm _).trans (State.get_set_fit _ _ (Nat.mod_lt _ (Nat.two_pow_pos _)))
  case argument => exact State.get_set_fit _ _ (Nat.mod_lt _ (Nat.two_pow_pos _))
  case waits =>
    have hmem : (⟨s.clock + 2, (CX_CAL_CTRL_enable e).key, s.get (CX_CAL_CTRL_enable e)⟩ : Was) ∈
        (s.calWritten e v).was := by
      rw [hwas]
      exact List.mem_append_right _ (List.mem_cons_self ..)
    exact ⟨_, hmem, rfl⟩
  case apart =>
    intro f hf hne w hw
    rw [hwas] at hw
    obtain hw | hw := List.mem_append.1 hw
    · exact calKey_apart hrest hf w hw
    · obtain ⟨g, hg, rfl⟩ := List.mem_map.1 hw
      exact (hne g hg).symm
  case old => exact fun f hf c hc => (hasOf hf c).trans (if_pos hc)
  case new => exact fun f hf c hc => (hasOf hf c).trans (if_neg (by omega))

end Sys2Proof.Machine
end

section
/-! PROOF. The calendar fires its actions (R113 to R118). -/

namespace Sys2Proof.Machine

open Sys2Proof

/-! ## An entry whose control word has just been written -/

section
variable {s t : State} {e v b : Nat}

/-- The fields of the entry that the write leaves, and the enable of the calendar. -/
theorem calCtrl_apart (e : Nat) : (∀ g ∈ calCtrlFields e, CX_CAL_EN_enable.key ≠ g.key) ∧
    (∀ g ∈ calCtrlFields e, (CX_CAL_TIME_bucket e).key ≠ g.key) ∧
    (∀ g ∈ calCtrlFields e, (CX_CAL_OMASK_mask e).key ≠ g.key) ∧
    ∀ g ∈ calCtrlFields e, (CX_CAL_OVAL_value e).key ≠ g.key := by
  simp only [calCtrlFields, List.forall_mem_cons, Fld.key, CX_CAL_EN_enable, CX_CAL_TIME_bucket, CX_CAL_OMASK_mask,
    CX_CAL_OVAL_value, CX_CAL_CTRL_enable, CX_CAL_CTRL_action, CX_CAL_CTRL_argument,
    List.not_mem_nil, false_implies, implies_true, and_true]
  omega

theorem calCtrl_apart_other {f : Nat} (h : f ≠ e) : ∀ g ∈ calCtrlFields e, (CX_CAL_CTRL_enable f).key ≠ g.key := by
  simp only [calCtrlFields, List.forall_mem_cons, Fld.key, CX_CAL_CTRL_enable, CX_CAL_CTRL_action, CX_CAL_CTRL_argument,
    List.not_mem_nil, false_implies, implies_true, and_true]
  omega

/-- A field beside the control word has the value of before. -/
theorem CtrlWritten.asOf (h : CtrlWritten e v s t) {f : Fld} (hf : calKey f.key = true)
    (hne : ∀ g ∈ calCtrlFields e, f.key ≠ g.key) (c : Nat) : t.asOf c f = s.get f :=
  (State.asOf_of_settled (h.apart f hf hne) c).trans (h.frame.get hne)

theorem CtrlWritten.calMay (h : CtrlWritten e v s t) {f : Fld} (hf : calKey f.key = true)
    (hne : ∀ g ∈ calCtrlFields e, f.key ≠ g.key) : t.calMay f = s.on f :=
  (State.calMay_of_settled (h.apart f hf hne)).trans (by rw [State.on, State.on, h.frame.get hne])

theorem CtrlWritten.mt (h : CtrlWritten e v s t) : t.mt = s.mt := h.frame.parts .mt (by decide)

theorem CtrlWritten.calDue (h : CtrlWritten e v s t) (hs : CalSettled s e)
    (hon : t.calAt (s.calPlace e) (CX_CAL_CTRL_enable e) ≠ 0) : CalDue t e (s.calPlace e) := by
  obtain ⟨hen, hbucket, hmask, hvalue⟩ := calCtrl_apart e
  have hmt := h.mt
  constructor
  case entry => exact hs.entry
  case running => rw [hmt]; exact hs.running
  case noStop => rw [State.stopDue, hmt]; exact hs.noStop
  case ends => rw [State.numEnd_of_not_held (by rw [hmt]; exact hs.held), hmt]; exact hs.ends
  case ahead => rw [hmt]; exact hs.ahead
  case fresh => rw [hmt]; exact hs.fresh
  case place => exact h.frame.get hbucket
  case placed => exact h.asOf (calKey_of_entry hs.entry) hbucket
  case may => exact (h.calMay calKey_enable hen).trans hs.on
  case enabled =>
    rw [State.calAt, h.asOf calKey_enable hen]
    exact bne_iff_ne.1 hs.on
  case entryMay =>
    obtain ⟨w, hw, hkey⟩ := h.waits
    rw [State.calMay, Bool.or_eq_true]
    exact .inr (List.any_eq_true.2 ⟨w, hw, beq_iff_eq.2 hkey⟩)
  case entryOn => exact hon
  case alone =>
    intro f hf hmay
    by_contra hne
    rw [h.calMay (f := CX_CAL_CTRL_enable f) (calKey_of_entry hf) (calCtrl_apart_other hne)] at hmay
    exact hne (hs.alone f (List.mem_range.2 hf) hmay)
  case orbit =>
    rw [hmt, State.calAt, State.calAt, h.asOf (f := CX_CAL_OMASK_mask e) (calKey_of_entry hs.entry) hmask,
      h.asOf (f := CX_CAL_OVAL_value e) (calKey_of_entry hs.entry) hvalue]
    exact hs.orbit

/-- In the current bucket and the next one the entry is what it was. -/
theorem CtrlWritten.calAt_near (h : CtrlWritten e v s t) (hnear : b ≤ s.mt.bucket + 1) {f : Fld}
    (hf : f ∈ calCtrlFields e) : t.calAt b f = s.get f := by
  have hclock := h.frame.parts .clock (by decide)
  refine h.old f hf _ ?_
  rw [h.mt, show t.clock = s.clock from hclock]
  omega

/-- From two buckets on it is what was written. -/
theorem CtrlWritten.calAt_far (h : CtrlWritten e v s t) (hfar : s.mt.bucket + 2 ≤ b) {f : Fld}
    (hf : f ∈ calCtrlFields e) : t.calAt b f = t.get f := by
  have hclock := h.frame.parts .clock (by decide)
  refine h.new f hf _ ?_
  rw [h.mt, show t.clock = s.clock from hclock]
  omega

/-- The entry fires with action 7 and the argument that is in force. -/
theorem CalDue.firmware {a : Nat} (h : CalDue t e b) (hact : t.calAt b (CX_CAL_CTRL_action e) = 7)
    (harg : t.calAt b (CX_CAL_CTRL_argument e) = a) :
    exec (.tileLifeRecordWrite e) t = .next (((t.moveTo b).markFired e).raise 57 a) := by
  have hdo := h.calDo (p := fun act _ => act == 7) (by rw [hact]; rfl)
  rw [hact, harg] at hdo
  exact (effect_of_wf (c := .tileLifeRecordWrite e) (decide_eq_true h.entry) (tileLifeRecordWrite e) t).trans
    (congrArg _ hdo)

end

/-! ## The firings that are due -/

theorem sorted_foldl_insert_unit (ks : List Nat) {m : List (Nat × Unit)} (h : Sparse.sorted m = true) :
    Sparse.sorted (ks.foldl (fun l k => Sparse.insert k () l) m) = true := by
  induction ks generalizing m with
  | nil => exact h
  | cons k ks ih => exact ih (Sparse.sortedFrom_insert k () h (by simp))

/-- The keys of a listing in order rise, above the bound it has. -/
theorem sortedFrom_pairwise {α : Type} {b : Option Nat} {m : List (Nat × α)} (h : Sparse.sortedFrom b m = true) :
    (∀ x, b = some x → ∀ k ∈ m.map (·.1), x < k) ∧ (m.map (·.1)).Pairwise (· < ·) := by
  induction m generalizing b with
  | nil => simp
  | cons entry m ih =>
    obtain ⟨k, v⟩ := entry
    simp only [Sparse.sortedFrom, Bool.and_eq_true] at h
    obtain ⟨hfirst, hrest⟩ := h
    obtain ⟨habove, hpairs⟩ := ih hrest
    refine ⟨?_, List.pairwise_cons.2 ⟨habove k rfl, hpairs⟩⟩
    rintro x rfl j hj
    have hx : x < k := of_decide_eq_true hfirst
    obtain rfl | hj := List.mem_cons.1 hj
    · exact hx
    · exact hx.trans (habove k rfl j hj)

theorem State.calDue_sorted (s : State) (hi : Nat) : (s.calDue hi).Pairwise (· < ·) := by
  unfold State.calDue
  split
  · exact (sortedFrom_pairwise (sorted_foldl_insert_unit _ rfl)).2
  · exact List.Pairwise.nil

theorem State.calDue_hits {s : State} {hi k : Nat} (h : k ∈ s.calDue hi) :
    s.calHits (k % 256) (k / 256) = true ∧ k / 256 ≤ hi := by
  unfold State.calDue at h
  split at h
  next =>
    obtain ⟨entry, hentry, rfl⟩ := List.mem_map.1 h
    obtain hentry | hentry := mem_foldl_insert_unit hentry
    · simp at hentry
    · obtain ⟨e, he, hb⟩ := List.mem_flatMap.1 hentry
      obtain ⟨b, hb, hk⟩ := List.mem_map.1 hb
      obtain ⟨hb, hle⟩ := List.mem_filter.1 hb
      have he256 : e < 256 := List.mem_range.1 (List.mem_of_mem_filter he)
      have hmod : entry.1 % 256 = e := by omega
      have hdiv : entry.1 / 256 = b := by omega
      rw [hmod, hdiv]
      exact ⟨(List.mem_filter.1 hb).2, of_decide_eq_true hle⟩
  next => simp at h

/-! ## The obligation -/

theorem State.jump_missedRaised (s : State) (n : Nat) : (s.jump n).mt.missedRaised = s.mt.missedRaised := by
  unfold State.jump
  dsimp only
  split
  · rfl
  · split <;> rfl

theorem State.moveTo_missedRaised {s : State} (hedge : s.mt.edge = []) (harrived : s.tg.arrived = [])
    (hstate : s.get CX_MT_STATUS_state ≠ 3) (b : Nat) : (s.moveTo b).mt.missedRaised = s.mt.missedRaised := by
  rw [State.moveTo]
  split
  · rfl
  · have hacts : (s.jump 1).edgeActs = s.jump 1 := by
      rw [State.jump_of_steady hstate]
      exact State.edgeActs_of_none hedge
    rw [State.takeArrived_of_none harrived]
    dsimp only
    rw [hacts, State.jump_missedRaised, State.jump_missedRaised]

theorem bits_low (v w : Nat) : bits v 0 w = v % 2 ^ w := by rw [bits, Nat.pow_zero, Nat.div_one]

/-- Settles O21: an entry is taken at its bucket of the orbits it selects, where its action has its effect; what a write of
the control word asks comes into force two buckets on. -/
theorem calendarFiresItsActions : Obligations.CalendarFiresItsActions := by
  unfold Obligations.CalendarFiresItsActions
  refine ⟨?firmware, ?reload, ?burnish, ?swap, ?reserved, ?refresh, ?inject, ?convert, ?strobe, ?fired, ?near, ?far,
    ?order⟩
  case firmware =>
    intro s e he hwas hrun hstop hheld hen hon halone hlt hle hfresh horbit hact
    exact SettledDue.firmware ⟨⟨he, hwas, hrun, hstop, hheld, hen, halone, hlt, hle, hfresh, horbit⟩, hon⟩ hact
  case reload =>
    intro s e he hwas hrun hstop hheld hen hon halone hlt hle hfresh horbit hact
    exact SettledDue.reload ⟨⟨he, hwas, hrun, hstop, hheld, hen, halone, hlt, hle, hfresh, horbit⟩, hon⟩ hact
  case burnish =>
    intro s e he hwas hrun hstop hheld hen hon halone hlt hle hfresh horbit hact
    rw [SettledDue.burnish ⟨⟨he, hwas, hrun, hstop, hheld, hen, halone, hlt, hle, hfresh, horbit⟩, hon⟩ hact,
      State.calBurnish_eq]
  case swap =>
    intro s e he hwas hrun hstop hheld hen hon halone hlt hle hfresh horbit hact
    exact SettledDue.swap ⟨⟨he, hwas, hrun, hstop, hheld, hen, halone, hlt, hle, hfresh, horbit⟩, hon⟩ hact
  case reserved =>
    intro s e he hwas hrun hstop hheld hen hon halone hlt hle hfresh horbit hedge harrived hstate hact
    have hdue : SettledDue s e := ⟨⟨he, hwas, hrun, hstop, hheld, hen, halone, hlt, hle, hfresh, horbit⟩, hon⟩
    have hfire : Frame [.mt, .clock] [] s (s.fireAt e) := SettledDue.fireAt_frame hedge harrived hstate
    have hmissed := State.moveTo_missedRaised hedge harrived hstate (s.calPlace e)
    obtain ⟨hbucket, horb, hfired⟩ := (s.fireAt e).miss_time 1 e
    refine ⟨_, hdue.reserved hact, ?_, hbucket.trans hdue.moved.bucket, horb.trans hdue.moved.orbit, ?_, fun h => ?_,
      (hfire.mono (by decide) (by simp)).trans ((State.miss_frame ..).mono (by decide) (by decide))⟩
    · rw [State.missed_miss, hfire.get (by simp)]
    · rw [hfired]
      exact List.mem_cons_self ..
    · exact State.miss_event _ _ (hmissed.trans h)
  case refresh =>
    intro s e he hwas hrun hstop hheld hen hon halone hlt hle hfresh horbit hact hcol hserved haccepts hnow
    exact (SettledDue.refresh ⟨⟨he, hwas, hrun, hstop, hheld, hen, halone, hlt, hle, hfresh, horbit⟩, hon⟩ hact hnow).trans
      (congrArg _ (State.calRefresh_of_accepted (s := s.markFired e) hcol hserved haccepts))
  case inject =>
    intro s e i loop he hwas hrun hstop hheld hen hon halone hlt hle hfresh horbit hact hi harg hloop hlast
    exact SettledDue.inject ⟨⟨he, hwas, hrun, hstop, hheld, hen, halone, hlt, hle, hfresh, horbit⟩, hon⟩ hact hi harg
      hloop hlast
  case convert =>
    intro s e he hwas hrun hstop hheld hen hon halone hlt hle hfresh horbit hact hroom
    exact SettledDue.convert ⟨⟨he, hwas, hrun, hstop, hheld, hen, halone, hlt, hle, hfresh, horbit⟩, hon⟩ hact hroom
  case strobe =>
    intro s e n l he hwas hrun hstop hheld hen hon halone hlt hle hfresh horbit hact hedge harrived hstate hn hl hbit
    exact SettledDue.strobe ⟨⟨he, hwas, hrun, hstop, hheld, hen, halone, hlt, hle, hfresh, horbit⟩, hon⟩ hact hedge
      harrived hstate hn hl hbit
  case fired =>
    intro s e he hwas hplace hfired
    have hplaced (c : Nat) : s.asOf c (CX_CAL_TIME_bucket e) = s.mt.bucket :=
      (State.asOf_of_settled (calKey_apart hwas (calKey_of_entry he)) c).trans hplace
    exact (effect_of_wf (c := .tileLifeRecordWrite e) (decide_eq_true he) (tileLifeRecordWrite e) s).trans
      (congrArg _ (State.calDo_of_fired hplaced hfired _))
  case near =>
    intro s p e v hp hv he hwas hrun hstop hheld hen hon halone hlt hle hfresh horbit hnear hact
    have hset : CalSettled s e := ⟨he, hwas, hrun, hstop, hheld, hen, halone, hlt, hle, hfresh, horbit⟩
    have hwritten := hset.written v
    have hexec := exec_write_calCtrl hp hv he s
    generalize { s.calWritten e v with answer := (0, 0) } = t at hwritten hexec
    have hnow {f : Fld} (hf : f ∈ calCtrlFields e) : t.calAt (s.calPlace e) f = s.get f := hwritten.calAt_near hnear hf
    have hdue := hwritten.calDue hset (by rw [hnow (by simp [calCtrlFields])]; exact bne_iff_ne.1 hon)
    refine ⟨t, hexec, hwritten.argument.trans (bits_low v 16), ?_, ?_, hwritten.frame⟩
    · rw [hwritten.enable, bits]
      omega
    · exact hdue.firmware ((hnow (by simp [calCtrlFields])).trans hact) (hnow (by simp [calCtrlFields]))
  case far =>
    intro s p e v hp hv he hwas hrun hstop hheld hen halone hlt hle hfresh horbit hfar hone hseven
    have hset : CalSettled s e := ⟨he, hwas, hrun, hstop, hheld, hen, halone, hlt, hle, hfresh, horbit⟩
    have hwritten := hset.written v
    have hexec := exec_write_calCtrl hp hv he s
    generalize { s.calWritten e v with answer := (0, 0) } = t at hwritten hexec
    have hthen {f : Fld} (hf : f ∈ calCtrlFields e) : t.calAt (s.calPlace e) f = t.get f := hwritten.calAt_far hfar hf
    have hon : bits v 31 1 = 1 := congrArg (· % 2 ^ 1) hone
    have hdue := hwritten.calDue hset (by
      rw [hthen (by simp [calCtrlFields]), hwritten.enable, hon]
      decide)
    refine ⟨t, hexec, ?_, hwritten.frame⟩
    exact hdue.firmware ((hthen (by simp [calCtrlFields])).trans (hwritten.action.trans hseven))
      ((hthen (by simp [calCtrlFields])).trans (hwritten.argument.trans (bits_low v 16)))
  case order => exact fun s hi => ⟨s.calDue_sorted hi, fun k hk => State.calDue_hits hk⟩

end Sys2Proof.Machine
end
